-- ==== Sys2Proof/Word.lean ====
section
/-!
DEFINITION. The word types of the TRG-9640 and their plainest arithmetic: bytes, 32-bit words, little-endian
byte strings (00_scope.md R7), two's complement and saturation (R10).
-/
namespace Sys2Proof

/-- One byte of a frame, descriptor, image or table (R7). -/
abbrev Byte := BitVec 8

/-- A 32-bit word of the Geyser engine (08_geyser_engine.md, R165). -/
abbrev Word := BitVec 32

/-- The unsigned value of a little-endian byte string (R7). -/
def leNat : List Byte → Nat
  | [] => 0
  | b :: bs => b.toNat + 256 * leNat bs

/-- `n` bytes of `v`, byte 0 least significant (R7). -/
def toLe : Nat → Nat → List Byte
  | 0, _ => []
  | n + 1, v => BitVec.ofNat 8 v :: toLe n (v / 256)

/-- The signed value of a `w`-bit two's complement code (R10). -/
def signedOf (w v : Nat) : Int :=
  if v % 2 ^ w < 2 ^ (w - 1) then (v % 2 ^ w : Nat) else ((v % 2 ^ w : Nat) : Int) - (2 ^ w : Nat)

/-- The `w`-bit two's complement code of a signed value (R10). -/
def codeOf (w : Nat) (v : Int) : Nat := (v % ((2 ^ w : Nat) : Int)).toNat

/-- Saturation to `lo … hi`. -/
def clampInt (lo hi v : Int) : Int := if v < lo then lo else if hi < v then hi else v

/-- Bit `n` of a field, [n] in the manual's writing. -/
def bitOf (v n : Nat) : Bool := v.testBit n

/-- The field [hi:lo] of `v`. -/
def fieldOf (v hi lo : Nat) : Nat := v / 2 ^ lo % 2 ^ (hi + 1 - lo)

/-- `v` with bit `n` set to `b`. -/
def setBit (v n : Nat) (b : Bool) : Nat :=
  if b then v ||| 2 ^ n else v - (if v.testBit n then 2 ^ n else 0)

/-- The `n` bytes at offset `off` of a byte string, read as an unsigned number; bytes beyond its end read 0 (R104). -/
def getU (bs : List Byte) (off n : Nat) : Nat := leNat ((bs.drop off).take n)

/-- The same read as a signed number. -/
def getS (bs : List Byte) (off n : Nat) : Int := signedOf (8 * n) (getU bs off n)

/-- 1 for true and 0 for false, as a flag bit is written. -/
def b2n (b : Bool) : Nat := if b then 1 else 0

/-- `xs` with element `i` replaced by `f` of it. -/
def modifyAt {α : Type} (xs : List α) (i : Nat) (f : α → α) : List α :=
  match xs, i with
  | [], _ => []
  | x :: xs, 0 => f x :: xs
  | x :: xs, i + 1 => x :: modifyAt xs i f

end Sys2Proof
end

