-- ==== Sys2Proof/Syntax.lean ====
section
/-!
DEFINITION. The commands of the TRG-9640 model: one constructor for each row of spec/opcode_table.json, with the
operands the row's rule gives it (log 6 says how a host command is named, log 5 how a measured time or value is).
-/
namespace Sys2Proof

/-- One SSI frame on a tape reader's data line as a receiver of the device sees it (09 R200, R201): the 32 bits of the first
transmission and of the second one of double transmission, and whether the line was high at clock start. -/
structure SsiFrame where
  raw : Nat
  copy : Nat
  high : Bool
  deriving DecidableEq, Repr

inductive Instr where
  /-- STATUS (R99): A host STATUS transaction or frame returns the slot's 16-byte status block. Operands: the slot and the frame's CRC-32. -/
  | status (h crc : Nat)
  /-- PUT (R95): A host PUT offers a descriptor to a command queue, which accepts it with a tag and generation or refuses it at entry. Operands: the slot, the queue named, the descriptor, the frame's CRC-32, the ring transport sequence. -/
  | put (h queue : Nat) (bytes : List Byte) (crc tseq : Nat)
  /-- GET (R100): A host GET returns the head descriptor of one of its queues without removing it. Operands: the slot, the queue named, the frame's CRC-32. -/
  | get (h queue crc : Nat)
  /-- RELEASE (R100): A host RELEASE removes a count of descriptors from the head of its completion queue or a subscribed stream. Operands: the slot, the queue named, the count, the frame's CRC-32. -/
  | release (h queue count crc : Nat)
  /-- TRANSACTION_CUT_SHORT (R98): SPnCSN rises before a transaction ends, and the transaction is discarded and counted in HOST.PORTERR. Operands: the SPI port. -/
  | transactionCutShort (h : Nat)
  /-- AUTH (R471): A ring AUTH frame carries an AUTH_CHALLENGE or AUTH_RESPONSE outside the queues and is answered with AUTH_REPLY. Operands: the source address, the transport sequence, the descriptor. -/
  | ringAuth (src tseq : Nat) (bytes : List Byte)
  /-- PUSH_REPEAT (R389): A PUSH that the ring host has not released is sent again every 100 ms. Operands: the ring slot. -/
  | pushRepeat (h : Nat)
  /-- RING_SLOT_IDLE (R92): A ring slot closes after HOST.RINGIDLE without a descriptor; its waiting descriptors complete ABORTED. Operands: the host slot. -/
  | ringSlotIdle (h : Nat)
  /-- COMPLETION_QUEUED (R108): A completion waiting in the completion store moves into the slot's completion queue once there is room, and its tag is freed. Operands: the slot. -/
  | completionQueued (h : Nat)
  /-- DEADLINE_TIMEOUT (R109): A command's deadline passes before its commit point, and it completes TIMEOUT with no effect. Operands: the tag of the command taken. -/
  | deadlineTimeout (tag : Nat)
  /-- HOST_OVERLOAD (R114): HOST.LOAD exceeds 85 %, so overload is entered and normal queues lose their credits. Operands: the busy fraction in 0.1 %. -/
  | hostOverload (load : Nat)
  /-- HOST_OVERLOAD_END (R114): HOST.LOAD has stayed at or below 75 % for 100 ms, so overload ends and credits return. Operands: the busy fraction in 0.1 % and how long it has stayed so. -/
  | hostOverloadEnd (load heldMs : Nat)
  /-- LMP_TICK (R113): The 1 ms LMP housekeeping tick runs ring time, Beacon, and the taking of command descriptors in priority order. Operands: the busy fraction of the last 100 ms in 0.1 %. -/
  | lmpTick (load : Nat)
  /-- LMP_FAULT (R26): A missed tick, core exception or LMP memory error withdraws the device from dispatch and holds the LMP in reset. Operands: the cause, 0 missed tick, 1 exception, 2 memory error. -/
  | lmpFault (cause : Nat)
  /-- LMP_RESTART (R28): The LMP runs again; in-flight tags get their single completions and buffered events are formatted. -/
  | lmpRestart
  /-- LMP_REJOIN_DISPATCH (R26): After 60 s without a further LMP fault, the device rejoins dispatch at its next summary. -/
  | lmpRejoinDispatch
  /-- NOP (R105): Host NOP completes OK with no effect. Operands: the tag of the command taken. -/
  | hostNop (tag : Nat)
  /-- DEV_INFO (R128): Returns the 64-byte device information block in one LMP step. Operands: the tag of the command taken. -/
  | devInfo (tag : Nat)
  /-- PARAM_READ (R122): Reads 1 to 20 parameters with a status per entry. Operands: the tag of the command taken. -/
  | paramRead (tag : Nat)
  /-- PARAM_WRITE (R123): Writes one parameter after index, access, range, state and version checks; it also covers every register write that has no row of its own. Operands: the tag of the command taken. -/
  | paramWrite (tag : Nat)
  /-- PARAM_APPLY (R121): The owner applies a written value at its apply boundary, which is the commit point, and the version rises. Operands: the tag of the command taken. -/
  | paramApply (tag : Nat)
  /-- PARAM_DURABLE (R126): Both MRAM copies of a written parameter become durable, and the write completes OK. Operands: the tag of the command taken. -/
  | paramDurable (tag : Nat)
  /-- DEV_RESTORE (R129): A write of a block's first index to DEV.RESTORE restores that block's writable defaults. Operands: the tag of the command taken. -/
  | devRestore (tag : Nat)
  /-- TABLE_READ (R132): Returns the table header and a chunk of the active or staging copy. Operands: the tag of the command taken. -/
  | tableRead (tag : Nat)
  /-- TABLE_WRITE (R133): Writes a chunk to a staging copy; BEGIN claims it for the issuing slot. Operands: the tag of the command taken. -/
  | tableWrite (tag : Nat)
  /-- TABLE_WRITE_DISCARD (R133): A TABLE_WRITE with DISCARD releases the slot's staging claim. Operands: the tag of the command taken. -/
  | tableWriteDiscard (tag : Nat)
  /-- TABLE_ACTIVATE (R134): Checks the claimed staging copy and requests its activation by the owner. Operands: the tag of the command taken. -/
  | tableActivate (tag : Nat)
  /-- TABLE_SWITCH (R134): The owner switches to the new table copy at its boundary, which is the commit point. Operands: the tag of the command taken. -/
  | tableSwitch (tag : Nat)
  /-- TABLE_DURABLE (R134): The new active copy and its header are durable, and TABLE_ACTIVATE completes OK. Operands: the tag of the command taken. -/
  | tableDurable (tag : Nat)
  /-- VAR_READ (R196): Reads up to 15 Geyser variable elements from one cycle boundary. Operands: the tag of the command taken. -/
  | varRead (tag : Nat)
  /-- VAR_WRITE (R197): Writes one host-writable Geyser variable element, applied at the next input phase. Operands: the tag of the command taken. -/
  | varWrite (tag : Nat)
  /-- FORCE_SET (R193): Sets a force on one element of a forceable variable, taking effect at the next input phase. Operands: the tag of the command taken. -/
  | forceSet (tag : Nat)
  /-- FORCE_CLEAR (R193): Removes the force on one element, or completes NOT_FOUND. Operands: the tag of the command taken. -/
  | forceClear (tag : Nat)
  /-- FORCE_CLEAR_ALL (R193): A FORCE_CLEAR with ALL set clears every force. Operands: the tag of the command taken. -/
  | forceClearAll (tag : Nat)
  /-- MOVE (R215): A host MOVE sets a landing or position target, taken at the next replanning tick and completing ACCEPTED with the plan. Operands: the tag of the command taken. -/
  | move (tag : Nat)
  /-- MOVE_REQ (R215): A Geyser move request record with a new sequence number is handed to HST as a target. -/
  | moveReq
  /-- STOP_MOTION (R218): Stops the car at the normal stopping point and clears the arrival flags. Operands: the tag of the command taken. -/
  | stopMotion (tag : Nat)
  /-- STOP_MOTION_AT_LANDING (R218): A STOP_MOTION with AT_LANDING makes a landing stop under R219. Operands: the tag of the command taken. -/
  | stopMotionAtLanding (tag : Nat)
  /-- LEARN_RUN (R210): Starts the hoistway learning run after command-source, state and input checks. Operands: the tag of the command taken. -/
  | learnRun (tag : Nat)
  /-- OPEN (R275): Door command OPEN runs an opening profile to DRn.TRAVEL. Operands: the tag of the command taken. -/
  | doorOpen (tag : Nat)
  /-- CLOSE (R275): Door command CLOSE runs a closing profile, taken as NUDGE once DRn.REOPENMAX is reached. Operands: the tag of the command taken. -/
  | doorClose (tag : Nat)
  /-- NUDGE (R290): Door command NUDGE closes the door under the nudging limits. Operands: the tag of the command taken. -/
  | doorNudge (tag : Nat)
  /-- HOLD (R275): Door command HOLD decelerates the door and holds the position reached. Operands: the tag of the command taken. -/
  | doorHold (tag : Nat)
  /-- STOP (R296): Door command STOP decelerates the door and turns the gates off; in FAULT it clears the fault if its cause is gone. Operands: the tag of the command taken. -/
  | doorStop (tag : Nat)
  /-- REOPEN (R289): Door command REOPEN reverses a closing door into REVERSING and reopens it. Operands: the tag of the command taken. -/
  | doorReopen (tag : Nat)
  /-- LEARN (R286): Door command LEARN runs the door learning cycle at a parked landing. Operands: the tag of the command taken. -/
  | doorLearn (tag : Nat)
  /-- DOOR_REQ (R275): A Geyser door request record with a new sequence number is handed to its operator. Operands: the operator. -/
  | doorReq (n : Nat)
  /-- GRP_OPEN (R144): Allocates a local or cross-device commit group for the issuing slot. Operands: the tag of the command taken. -/
  | grpOpen (tag : Nat)
  /-- PARAMETER_WRITE (R147): GRP_STAGE of a kind 0x01 parameter-write action, capturing the parameter's version. Operands: the tag of the command taken. -/
  | parameterWrite (tag : Nat)
  /-- GEYSER_VARIABLE_WRITE (R147): GRP_STAGE of a kind 0x02 Geyser variable write. Operands: the tag of the command taken. -/
  | geyserVariableWrite (tag : Nat)
  /-- NON_SAFETY_FIELD_OUTPUT (R147): GRP_STAGE of a kind 0x03 field-output action through the channel's mapped variable. Operands: the tag of the command taken. -/
  | nonSafetyFieldOutput (tag : Nat)
  /-- PROFILE_TARGET (R147): GRP_STAGE of a kind 0x04 HST profile target, allowed only from the selected command source. Operands: the tag of the command taken. -/
  | profileTarget (tag : Nat)
  /-- DOOR_COMMAND (R147): GRP_STAGE of a kind 0x05 door command. Operands: the tag of the command taken. -/
  | doorCommand (tag : Nat)
  /-- CAM_TABLE_SELECTION (R147): GRP_STAGE of a kind 0x06 cam selection. Operands: the tag of the command taken. -/
  | camTableSelection (tag : Nat)
  /-- CALDERA_COEFFICIENT_SET (R260): GRP_STAGE of a kind 0x07 masked coefficient set for one slot. Operands: the tag of the command taken. -/
  | calderaCoefficientSet (tag : Nat)
  /-- GRP_COMMIT (R153): Hands a group to the executor for its commit point, or sends PREPARE for a cross-device group. Operands: the tag of the command taken. -/
  | grpCommit (tag : Nat)
  /-- COMMIT_POINT (R151): At the first boundary of its highest domain, the executor checks versions and owners and commits the group or refuses it. Operands: the group number. -/
  | commitPoint (g : Nat)
  /-- GROUP_ACTION_APPLIED (R150): Actions of a lower domain apply at that domain's first boundary after the commit point. Operands: the group number. -/
  | groupActionApplied (g : Nat)
  /-- GROUP_RECORD_DURABLE (R153): All actions have been applied and the group record is durable, and GRP_COMMIT completes. Operands: the group number. -/
  | groupRecordDurable (g : Nat)
  /-- GRP_ABORT (R155): Aborts a group according to its state. Operands: the tag of the command taken. -/
  | grpAbort (tag : Nat)
  /-- GRP_EXPIRED (R143): A host group stays OPEN for GRP.OPENTMO, so it is released with its actions discarded. Operands: the group number. -/
  | grpExpired (g : Nat)
  /-- PREPARE (R158): A participant receives PREPARE, enters PREPARED and starts its hold. -/
  | xdevPrepare
  /-- PREPARED_BOUNDARY (R158): At its first boundary after PREPARE, the participant captures versions, checks and holds the resources, and sends its VOTE. Operands: the group number. -/
  | preparedBoundary (g : Nat)
  /-- VOTE (R158): The coordinator receives a participant's vote. -/
  | xdevVote
  /-- VOTE_DEADLINE (R158): At T0 + XHOLD − 20 ms, or once all votes are in, the coordinator decides at its boundary and sends COMMIT or ABORT. Operands: the group number. -/
  | voteDeadline (g : Nat)
  /-- COMMIT (R158): A participant receives COMMIT, applies at its boundary and sends ACK. -/
  | xdevCommit
  /-- ACK (R158): The coordinator receives ACK, and once all ACKs are in it applies its own actions. -/
  | xdevAck
  /-- COMMIT_REPEAT (R158): The coordinator repeats COMMIT, or ABORT, every GRP.XREPEAT. Operands: the group number. -/
  | commitRepeat (g : Nat)
  /-- ABORT_MESSAGE (R159): A participant receives ABORT and releases the group, or keeps what it has already applied. -/
  | abortMessage
  /-- GRP_DECISION_LOST (R159): A participant's hold expires without a decision, and the group is released. Operands: the group number. -/
  | grpDecisionLost (g : Nat)
  /-- GRP_XDEV_UNCONFIRMED (R159): T0 + XHOLD passes at the coordinator with an ACK missing, and GRP_COMMIT completes TIMEOUT. Operands: the group number. -/
  | grpXdevUnconfirmed (g : Nat)
  /-- ABORT (R110): Host ABORT names a tag and generation and aborts that operation if it is not past its commit point. Operands: the tag of the command taken. -/
  | hostAbort (tag : Nat)
  /-- EVT_SUBSCRIBE (R443): Assigns an event stream with a minimum severity and a source filter. Operands: the tag of the command taken. -/
  | evtSubscribe (tag : Nat)
  /-- EVT_READ (R441): Fills and reads the slot's 16-record window at a cursor. Operands: the tag of the command taken. -/
  | evtRead (tag : Nat)
  /-- SNAPSHOT (R442): EVT_READ with SNAPSHOT captures tail, head and overwrite count before it fills the window. Operands: the tag of the command taken. -/
  | snapshot (tag : Nat)
  /-- RTC_WRITE (R451): Sets the calendar, which takes effect at the next 32.768 kHz edge. Operands: the tag of the command taken. -/
  | rtcWrite (tag : Nat)
  /-- RTC_CAPTURE (R456): Captures calendar, ring time and operating time in one AON cycle. Operands: the tag of the command taken. -/
  | rtcCapture (tag : Nat)
  /-- SAF_WRITE (R325): Opens or continues a safety parameterisation session and writes entries into both channels' pending sets. Operands: the tag of the command taken. -/
  | safWrite (tag : Nat)
  /-- SAF_WRITE_DISCARD (R324): SAF_WRITE with DISCARD ends the session and discards the pending set. Operands: the tag of the command taken. -/
  | safWriteDiscard (tag : Nat)
  /-- SAF_CONFIRM (R327): Checks the host CRC and consistency, then has both channels write the pending set durably. Operands: the tag of the command taken. -/
  | safConfirm (tag : Nat)
  /-- SAFETY_SET_SWITCH (R327): Both channels make the new safety set active at an agreed safety cycle, and SAF_CONFIRM completes OK. -/
  | safetySetSwitch
  /-- SAF_SESSION_TIMEOUT (R324): 600 s pass without a SAF_WRITE, so the session ends and the pending set is discarded. -/
  | safSessionTimeout
  /-- STATE_REQUEST (R44): A host requests DORMANT, and the entry runs if the conditions of R42 hold. Operands: the tag of the command taken and the level of the WAKE land. -/
  | stateRequest (tag : Nat) (wake : Bool)
  /-- STATE_REQ (R44): A Geyser DORMANT request record with a new sequence number. Operands: the level of the WAKE land. -/
  | stateReq (wake : Bool)
  /-- TRACE_READ (R263): Reads samples of one signal from a completed trace buffer. Operands: the tag of the command taken. -/
  | traceRead (tag : Nat)
  /-- AUTH_CHALLENGE (R468): Starts an authentication and returns the device nonce, ephemeral key, certificate and signature. Operands: the tag of the command taken. -/
  | authChallenge (tag : Nat)
  /-- AUTH_RESPONSE (R469): Checks the host certificate and signature and opens a session on the slot. Operands: the tag of the command taken. -/
  | authResponse (tag : Nat)
  /-- SESSION_CLOSE (R470): Closes the slot's session and releases its stream. Operands: the tag of the command taken. -/
  | sessionClose (tag : Nat)
  /-- SESSION_EXPIRED (R470): A session reaches SEC.SESSLIFE and is closed. Operands: the host slot. -/
  | sessionExpired (h : Nat)
  /-- FW_STAGE (R475): Writes a chunk of a firmware image into the inactive slot under a claim. Operands: the tag of the command taken. -/
  | fwStage (tag : Nat)
  /-- FW_STAGE_DISCARD (R475): FW_STAGE with DISCARD releases the claim on the staging slot. Operands: the tag of the command taken. -/
  | fwStageDiscard (tag : Nat)
  /-- SWITCH (R476): FW_SWITCH SWITCH verifies the staged image and waits for a quiet point. Operands: the tag of the command taken. -/
  | fwSwitch (tag : Nat)
  /-- QUIET_POINT (R477): At a quiet LMP tick the switch commits; the old LMP writes its handover record and the new LMP is loaded. Operands: the tag of the command taken. -/
  | quietPoint (tag : Nat)
  /-- QUIET_POINT_TIMEOUT (R477): No quiet point is found within SEC.QUIETMAX, and the switch completes TIMEOUT. Operands: the tag of the command taken. -/
  | quietPointTimeout (tag : Nat)
  /-- SEC_FW_SWITCHED (R477): The new LMP runs its first tick, the trial begins and FW_SWITCH completes OK. Operands: the tag of the command taken. -/
  | secFwSwitched (tag : Nat)
  /-- CONFIRM (R478): FW_SWITCH CONFIRM ends the trial and raises SEC.MINSVN. Operands: the tag of the command taken. -/
  | fwConfirm (tag : Nat)
  /-- REVERT (R478): FW_SWITCH REVERT returns to the previous slot through a quiet point. Operands: the tag of the command taken. -/
  | fwRevert (tag : Nat)
  /-- SEC_SAF_SWAPPED (R480): At a qualifying DORMANT interval one safety channel is loaded from the new slot and self-tested. Operands: the channel and whether it loaded and passed its self-test. -/
  | secSafSwapped (ch : Nat) (ok : Bool)
  /-- ATTEST (R473): Returns the signed attestation report for a nonce. Operands: the tag of the command taken. -/
  | attest (tag : Nat)
  /-- ATTEST_DEVICE_CERT (R473): ATTEST with selector 1 returns the device certificate. Operands: the tag of the command taken. -/
  | attestDeviceCert (tag : Nat)
  /-- ATTEST_CA_CERT (R473): ATTEST with selector 2 returns the device-CA certificate. Operands: the tag of the command taken. -/
  | attestCaCert (tag : Nat)
  /-- MEASUREMENT_UPDATE (R472): Within 50 ms of a change, the SEC engine recomputes the affected measurement. -/
  | measurementUpdate
  /-- INSTALL_OWNER_KEY (R464): SEC.ACTION code 1 installs the owner key and closes every other session. Operands: the tag of the command taken. -/
  | installOwnerKey (tag : Nat)
  /-- INSTALL_PROGRAM_SIGNING_KEY (R464): SEC.ACTION code 2 installs the program-signing key. Operands: the tag of the command taken. -/
  | installProgramSigningKey (tag : Nat)
  /-- INSTALL_NEXT_DOMAIN_KEY (R465): SEC.ACTION code 3 installs the next domain key, unwrapped when it was staged in a session slot. Operands: the tag of the command taken. -/
  | installNextDomainKey (tag : Nat)
  /-- ACTIVATE_NEXT_DOMAIN_KEY (R467): SEC.ACTION code 4 makes the next domain key current and keeps the former key for the grace time. Operands: the tag of the command taken. -/
  | activateNextDomainKey (tag : Nat)
  /-- DOMAIN_KEY_GRACE_END (R467): SEC.DKGRACE expires, and the previous domain key is no longer accepted. -/
  | domainKeyGraceEnd
  /-- DEBUG_UNLOCK_TOKEN (R483): SEC.ACTION code 5 in the recovery loader opens boundary scan or debug access. Operands: the tag of the command taken. -/
  | debugUnlockToken (tag : Nat)
  /-- OWNERSHIP_RESET_TOKEN (R483): SEC.ACTION code 6 in the recovery loader clears the owner, program and domain keys. Operands: the tag of the command taken. -/
  | ownershipResetToken (tag : Nat)
  /-- SEC_EPOCH_RAISED (R470): A write that raises SEC.MINEPOCH closes sessions whose credential epoch is lower. Operands: the tag of the command taken. -/
  | secEpochRaised (tag : Nat)
  /-- VIN_OV (R32): VIN has been above 32.0 V for 1 ms, and OVERVOLTAGE is recorded. Operands: VIN in mV and how long the condition has held in µs. -/
  | vinOv (mV heldUs : Nat)
  /-- VIN_WARN (R32): VIN has been below 19.0 V for 1 ms, and SUPPLY_WARN is recorded. Operands: VIN in mV and how long the condition has held in µs. -/
  | vinWarn (mV heldUs : Nat)
  /-- VIN_WARN_CLEAR (R32): VIN has been above 19.5 V for 100 ms, and SUPPLY_OK is recorded. Operands: VIN in mV and how long the condition has held in µs. -/
  | vinWarnClear (mV heldUs : Nat)
  /-- VIN_SAG (R33): VIN has been below 16.0 V for 2 ms, so the sag trip turns every output off and the device is TRIPPED. Operands: VIN in mV and how long the condition has held in µs. -/
  | vinSag (mV heldUs : Nat)
  /-- VIN_RECOVER (R34): VIN has been at or above 17.0 V for 100 ms, so the sag shutdown is released and SUPPLY_RECOVERED is recorded. Operands: VIN in mV and how long the condition has held in µs. -/
  | vinRecover (mV heldUs : Nat)
  /-- VIN_START (R32): VIN has been at or above 17.0 V for 10 ms with NRST high, so AON passes to START. Operands: VIN in mV, how long the condition has held in µs, the level of BOOTSEL. -/
  | vinStart (mV heldUs : Nat) (bootsel : Bool)
  /-- VIN_STOP (R35): VIN has been below 12.0 V for 20 µs, so the fast domain stops and the device enters AON after saving state. Operands: VIN in mV and how long the condition has held in µs. -/
  | vinStop (mV heldUs : Nat)
  /-- VIN_AON (R50): VIN crosses 9.5 V rising or 9.0 V falling, and the AON supply selector moves source make-before-break. Operands: VIN and the cell in mV. -/
  | vinAon (mV cellmV : Nat)
  /-- VCELL_RISE (R50): VCELL rises above 2.0 V, or VIN above 9.5 V, from OFF, and the AON domain starts. Operands: the cell and VIN in mV. -/
  | vcellRise (cellmV mV : Nat)
  /-- AON_HOLDUP_EXPIRED (R50): The AON source has failed and the 200 µs hold-up ends without a new source, so the AON domain resets. Operands: µs since the source failed. -/
  | aonHoldupExpired (elapsedUs : Nat)
  /-- CELL_LOW (R49): The hourly or START cell measurement finds the cell below 2.4 V or 1.8 V. Operands: the cell in mV. -/
  | cellLow (mV : Nat)
  /-- RAIL_FAULT (R31): A rail has been outside its window for more than 10 µs, so the fast domain resets to AON. Operands: the rail code and how long it has been out of its window in µs. -/
  | railFault (rail heldUs : Nat)
  /-- XTAL25_FAIL (R36): The 1 ms count of the 25 MHz crystal against the 4 MHz RC is outside ±5 %, and the device enters LOCKOUT. Operands: the deviation of the count in ppm. -/
  | xtal25Fail (ppm : Int)
  /-- XTAL32_FAIL (R37): The 32.768 kHz count has been out of limit for 1 s, and the RTC falls back to the RC with CLOCK_DEGRADED set. Operands: the deviation of the count in ppm and how long it has held in ms. -/
  | xtal32Fail (ppm : Int) (heldMs : Nat)
  /-- TEMP_WARN (R80): The die temperature has been above 130 °C for 1 s, and TEMP_HIGH is set. Operands: the hottest die in 0.1 °C and how long the condition has held in ms. -/
  | tempWarn (tdie : Int) (heldMs : Nat)
  /-- TEMP_TRIP (R80): The die temperature has been above 140 °C for 1 s, so the car stops, field outputs go off and the device trips. Operands: the hottest die in 0.1 °C and how long the condition has held in ms. -/
  | tempTrip (tdie : Int) (heldMs : Nat)
  /-- TEMP_TRIP_CLEAR (R80): After 60 s below 120 °C the temperature trip clears, and outputs return as after a sag. Operands: the hottest die in 0.1 °C and how long the condition has held in ms. -/
  | tempTripClear (tdie : Int) (heldMs : Nat)
  /-- NRST_LOW (R52): NRST has been low for 10 µs, so the fast domain resets with outputs off and the device passes to AON. Operands: how long NRST has been low in µs. -/
  | nrstLow (heldUs : Nat)
  /-- NRST_RELEASE (R53): NRST is released, so START begins and the hold time and monitor latches are recorded. Operands: VIN in mV, the level of BOOTSEL, the items the monitor latched, the distance it counted in µm. -/
  | nrstRelease (mV : Nat) (bootsel : Bool) (items : Nat) (moved : Int)
  /-- START_COMPLETE (R39): Every step of the start sequence has passed, or one has failed, and the device enters RUN, LOCKOUT or the recovery loader. Operands: the findings of the start sequence: slots that verify, channel that failed its self-test, parameter copies repaired and lost, the calibration set, uncorrectable Tephra records, whether the safety sets differ, the first fused position, the cell. -/
  | startComplete (verifies selfTest : Nat) (repaired lost : List Nat) (cal : Nat) (slots : List Nat) (setsDiffer : Bool) (pos : Int) (cellmV : Nat)
  /-- DORMANT_ENTRY (R43): Once the last journal is durable, the device announces DORMANT, flushes Tephra, stores context and stops the fast clocks. Operands: the safety and field input levels the monitor captures, the buses whose heartbeat has ended. -/
  | dormantEntry (si fio canSent : Nat)
  /-- DORMANT_WAKE (R47): A qualified wake source latches, and the fast domains restart. Operands: the source, its levels or comparator edges, the ring time of the first monitor sample. -/
  | dormantWake (src : Nat) (v : Int) (at_ : Nat)
  /-- WAKE_COMPLETE (R48): At the 1.5 ms row both safety channels run, latched events are evaluated and the device is in RUN. Operands: the comparator edges counted through the wake. -/
  | wakeComplete (edges : Int)
  /-- PATH_PARITY (R23): The receiving block finds a parity error on a transfer and discards it, repeats it or fails with INTEGRITY. Operands: the detecting block's source ID, the path code, whether the repeat succeeded, the operation or 64, the Caldera slot or safety channel. -/
  | pathParity (source path : Nat) (repeated : Bool) (tag slot : Nat)
  /-- SCRUB (R24): The background scrubber reads and corrects memory words. Operands: the detecting block's source ID, the address, 0 SRAM or 1 MRAM, the bit or safety channel, whether the word is uncorrectable. -/
  | scrub (source addr kind bit : Nat) (uncorrectable : Bool)
  /-- GYS_INPUT_PHASE (R172): The Geyser input phase applies commits, VAR_WRITEs and forces, copies inputs and station images, and writes system variables. Operands: µs since the previous input phase began. -/
  | gysInputPhase (dtUs : Nat)
  /-- GYS_NOP (R167): Geyser instruction NOP. Operands: the mode and the operand field of the instruction word. -/
  | gysNop (mode operand : Nat)
  /-- LDB (R167): BA := op. Operands: the mode and the operand field of the instruction word. -/
  | ldb (mode operand : Nat)
  /-- LDBN (R167): BA := NOT op. Operands: the mode and the operand field of the instruction word. -/
  | ldbn (mode operand : Nat)
  /-- ANDB (R167): BA := BA AND op. Operands: the mode and the operand field of the instruction word. -/
  | andb (mode operand : Nat)
  /-- ANDBN (R167): BA := BA AND NOT op. Operands: the mode and the operand field of the instruction word. -/
  | andbn (mode operand : Nat)
  /-- ORB (R167): BA := BA OR op. Operands: the mode and the operand field of the instruction word. -/
  | orb (mode operand : Nat)
  /-- ORBN (R167): BA := BA OR NOT op. Operands: the mode and the operand field of the instruction word. -/
  | orbn (mode operand : Nat)
  /-- XORB (R167): BA := BA XOR op. Operands: the mode and the operand field of the instruction word. -/
  | xorb (mode operand : Nat)
  /-- STB (R167): Stores BA to a bit. Operands: the mode and the operand field of the instruction word. -/
  | stb (mode operand : Nat)
  /-- STBN (R167): Stores NOT BA to a bit. Operands: the mode and the operand field of the instruction word. -/
  | stbn (mode operand : Nat)
  /-- SETB (R167): Sets a bit if BA is 1. Operands: the mode and the operand field of the instruction word. -/
  | setb (mode operand : Nat)
  /-- RSTB (R167): Clears a bit if BA is 1. Operands: the mode and the operand field of the instruction word. -/
  | rstb (mode operand : Nat)
  /-- EDGE (R167): Rising-edge detection of BA against a memory bit. Operands: the mode and the operand field of the instruction word. -/
  | edge (mode operand : Nat)
  /-- PSHB (R167): Pushes BA onto the boolean stack. Operands: the mode and the operand field of the instruction word. -/
  | pshb (mode operand : Nat)
  /-- ANDS (R167): BA := BA AND the popped value. Operands: the mode and the operand field of the instruction word. -/
  | ands (mode operand : Nat)
  /-- ORS (R167): BA := BA OR the popped value. Operands: the mode and the operand field of the instruction word. -/
  | ors (mode operand : Nat)
  /-- LD (R167): WA := op. Operands: the mode and the operand field of the instruction word. -/
  | ld (mode operand : Nat)
  /-- ST (R167): Stores WA to a word. Operands: the mode and the operand field of the instruction word. -/
  | st (mode operand : Nat)
  /-- LDX (R167): IX := op [20:0]. Operands: the mode and the operand field of the instruction word. -/
  | ldx (mode operand : Nat)
  /-- ADD (R167): WA := WA + op. Operands: the mode and the operand field of the instruction word. -/
  | add (mode operand : Nat)
  /-- SUB (R167): WA := WA − op. Operands: the mode and the operand field of the instruction word. -/
  | sub (mode operand : Nat)
  /-- MUL (R167): WA := low 32 bits of WA × op. Operands: the mode and the operand field of the instruction word. -/
  | mul (mode operand : Nat)
  /-- DIV (R167): Signed division, truncated toward zero. Operands: the mode and the operand field of the instruction word. -/
  | div (mode operand : Nat)
  /-- MOD (R167): Signed remainder. Operands: the mode and the operand field of the instruction word. -/
  | mod (mode operand : Nat)
  /-- AND (R167): Bitwise AND of WA and op. Operands: the mode and the operand field of the instruction word. -/
  | andW (mode operand : Nat)
  /-- OR (R167): Bitwise OR of WA and op. Operands: the mode and the operand field of the instruction word. -/
  | orW (mode operand : Nat)
  /-- XOR (R167): Bitwise XOR of WA and op. Operands: the mode and the operand field of the instruction word. -/
  | xorW (mode operand : Nat)
  /-- NOT (R167): WA := NOT WA. Operands: the mode and the operand field of the instruction word. -/
  | notW (mode operand : Nat)
  /-- SHL (R167): Shifts WA left. Operands: the mode and the operand field of the instruction word. -/
  | shl (mode operand : Nat)
  /-- SHR (R167): Logical right shift of WA. Operands: the mode and the operand field of the instruction word. -/
  | shr (mode operand : Nat)
  /-- SAR (R167): Arithmetic right shift of WA. Operands: the mode and the operand field of the instruction word. -/
  | sar (mode operand : Nat)
  /-- MIN (R167): Signed minimum of WA and op. Operands: the mode and the operand field of the instruction word. -/
  | minW (mode operand : Nat)
  /-- MAX (R167): Signed maximum of WA and op. Operands: the mode and the operand field of the instruction word. -/
  | maxW (mode operand : Nat)
  /-- CMPEQ (R167): BA := (WA = op). Operands: the mode and the operand field of the instruction word. -/
  | cmpeq (mode operand : Nat)
  /-- CMPLT (R167): BA := signed WA < op. Operands: the mode and the operand field of the instruction word. -/
  | cmplt (mode operand : Nat)
  /-- CMPLTU (R167): BA := unsigned WA < op. Operands: the mode and the operand field of the instruction word. -/
  | cmpltu (mode operand : Nat)
  /-- FADD (R167): Float addition. Operands: the mode and the operand field of the instruction word. -/
  | fadd (mode operand : Nat)
  /-- FSUB (R167): Float subtraction. Operands: the mode and the operand field of the instruction word. -/
  | fsub (mode operand : Nat)
  /-- FMUL (R167): Float multiplication. Operands: the mode and the operand field of the instruction word. -/
  | fmul (mode operand : Nat)
  /-- FDIV (R167): Float division. Operands: the mode and the operand field of the instruction word. -/
  | fdiv (mode operand : Nat)
  /-- FCMPLT (R167): Float less-than compare into BA. Operands: the mode and the operand field of the instruction word. -/
  | fcmplt (mode operand : Nat)
  /-- CVT (R168): Converts WA between integer and float. Operands: the mode and the operand field of the instruction word. -/
  | cvt (mode operand : Nat)
  /-- JMP (R167): Unconditional jump. Operands: the mode and the operand field of the instruction word. -/
  | jmp (mode operand : Nat)
  /-- JMPC (R167): Jumps if BA is 1. Operands: the mode and the operand field of the instruction word. -/
  | jmpc (mode operand : Nat)
  /-- JMPCN (R167): Jumps if BA is 0. Operands: the mode and the operand field of the instruction word. -/
  | jmpcn (mode operand : Nat)
  /-- CALL (R167): Pushes PC + 1 and jumps. Operands: the mode and the operand field of the instruction word. -/
  | call (mode operand : Nat)
  /-- RET (R167): Pops the return address into PC. Operands: the mode and the operand field of the instruction word. -/
  | ret (mode operand : Nat)
  /-- END (R174): SYS END ends execution, and the output phase hands outputs, station windows and request records to their owners. Operands: the mode and the operand field of the instruction word. -/
  | sysEnd (mode operand : Nat)
  /-- COPY (R169): SYS COPY copies a block of the data space. Operands: the mode and the operand field of the instruction word. -/
  | sysCopy (mode operand : Nat)
  /-- FAULT (R169): SYS FAULT raises an application fault with the user code in WA. Operands: the mode and the operand field of the instruction word. -/
  | sysFault (mode operand : Nat)
  /-- GYS_CLOSE (R175): The close, once the journal two cycles back is durable, captures the cycle's dirty lines as its journal. Operands: µs the close has waited. -/
  | gysClose (us : Nat)
  /-- JOURNAL_DURABLE (R180): A journal's trailer is written, and the cycle is durable. -/
  | journalDurable
  /-- JOURNAL_APPLIED (R180): A durable journal has been applied to the retained image. -/
  | journalApplied
  /-- CYCLE_DEADLINE (R176): GYS.CYCMAX passes before the close, so execution stops and the application fault state is entered. Operands: µs since the input phase began. -/
  | cycleDeadline (us : Nat)
  /-- WARM_RESTART (R178): GYS.CTRL 1 restarts Geyser from its retained data. Operands: the tag of the command taken. -/
  | warmRestart (tag : Nat)
  /-- COLD_RESTART (R178): GYS.CTRL 2 reloads the initial data and restarts Geyser. Operands: the tag of the command taken. -/
  | coldRestart (tag : Nat)
  /-- GYS_STOP (R178): GYS.CTRL 3 stops Geyser after its next close, with the car parked. Operands: the tag of the command taken. -/
  | gysStop (tag : Nat)
  /-- ONLINE_CHANGE (R190): At the first close after activation, data migrates, the migration journal is written and the new bank becomes active. Operands: the tag of the TABLE_ACTIVATE and the pause in µs. -/
  | onlineChange (tag pauseUs : Nat)
  /-- CALLREG (R391): Beacon takes a call registration record, acknowledges it ACCEPTED and opens the auction. Operands: the CALLREG record. -/
  | callreg (k : Nat)
  /-- REPLANNING_TICK (R221): Every 500 µs HST applies limit changes and new targets, checks reversal and plans a jerk-limited profile. -/
  | replanningTick
  /-- ZONE_REQUEST_REPEAT (R418): A refused zone request is repeated every 1 s while the target remains beyond the edge. -/
  | zoneRequestRepeat
  /-- SSI_READ (R201): An SSI frame from PSA or PSB completes and is validated and converted, and the fusion offset is updated. Operands: the frames PSA and PSB sent this period and the ring time of their latch. -/
  | ssiRead (fa fb : Option SsiFrame) (ts : Nat)
  /-- INC_READ (R204): Every 125 µs HST reads the INC count and computes the fused position and speed. Operands: the INC count, the ring time of the read, the sin/cos signal fault. -/
  | incRead (count : Int) (t : Nat) (fault : Bool)
  /-- INC_SIGNAL (R202): A sin/cos signal fault leaves INC out of fusion and leads to a controlled stop. -/
  | incSignal
  /-- LOAD_SAMPLE (R228): Every 1 ms the load voltage is converted to LOAD. Operands: the load voltages in µV. -/
  | loadSample (lw0 lw1 : Int)
  /-- DEVICE_FRAME (R232): HST sends the drive-link frame of the period at HST.DLOFS. -/
  | deviceFrame
  /-- INVERTER_FRAME (R232): A good inverter reply with the matching echo is received and used from the next period. Operands: the frame, whether its coding was valid, when it was complete in the period. -/
  | inverterFrame (bytes : List Byte) (coded : Bool) (atUs : Nat)
  /-- DL_REPLY_DEADLINE (R234): 450 µs into a period without a good reply, the frame counts as missing. Operands: the time since the period's start. -/
  | dlReplyDeadline (us : Nat)
  /-- DL_RESTORED (R235): 100 consecutive good inverter frames make the link good again. -/
  | dlRestored
  /-- PROFILE_RELEASE (R492): Once the brakes report lifted, HST releases the profile and slot 12 closes the position loop. -/
  | profileRelease
  /-- PRETORQUE_RAMP_END (R229): 200 ms after profile release, nothing of slot 14 is added any more. -/
  | pretorqueRampEnd
  /-- START_TIMEOUT (R236): READY and MAGNETISED are not reported within HST.STARTTMO of SOC closing, so the start is abandoned. -/
  | startTimeout
  /-- START_REFUSED (R236): SOC does not close within HST.STARTTMO of the run request, so the start is abandoned. -/
  | startRefused
  /-- LEVEL_ERROR_TAKEN (R225): 200 ms after the brakes are confirmed applied, the level error is taken and ENABLE is cleared. Operands: how long the brakes have been confirmed applied. -/
  | levelErrorTaken (heldMs : Nat)
  /-- REVERSAL_DWELL_END (R223): HST.BRKDWELL ends at a reversal landing, and the car starts toward the target. -/
  | reversalDwellEnd
  /-- RELEVEL (R226): The car has stood beyond HST.RELEVTOL for 100 ms with a door open, so SOD is requested and the car relevels. Operands: how long the error has exceeded the threshold. -/
  | relevel (heldMs : Nat)
  /-- LEARN_DONE (R211): The learning run ends its third step, and the results are computed and written. -/
  | learnDone
  /-- PERIOD_START (R242): At a Caldera period start the shunts are sampled and every slot's inputs are latched. Operands: the minor period 0–15, the four shunt voltages in µV (DR0 U, V, DR1 U, V), the reading of slot 15's outside source in its unit. -/
  | periodStart (minor : Nat) (shunts : List Int) (src : Int)
  /-- SLOT_SAMPLE (R248): A slot computes its control law, its repetitive unit and its plausibility monitor. Operands: the slot. -/
  | slotSample (n : Nat)
  /-- SLOT_WRITE (R245): At its write instant a slot writes its output, or takes a deadline fault. Operands: the slot. -/
  | slotWrite (n : Nat)
  /-- GROUP_WRITE (R251): At the group's write instant the lowest output wins and the group value is written. Operands: the group. -/
  | groupWrite (g : Nat)
  /-- SLOT_ENABLE (R241): An owner enables a slot, clearing its states and starting the ramp. Operands: the slot. -/
  | slotEnable (n : Nat)
  /-- SLOT_DISABLE (R241): An owner disables a slot, whose output goes to 0. Operands: the slot. -/
  | slotDisable (n : Nat)
  /-- CLE_RC_SAVED (R256): A learned repetitive table is written back to MRAM within 60 s, or at DORMANT entry. Operands: the unit. -/
  | cleRcSaved (u : Nat)
  /-- TRACE_ARM (R262): A TRbCFG write with ARM set starts capture and clears the buffer. Operands: the tag of the command taken. -/
  | traceArm (tag : Nat)
  /-- TRACE_DISARM (R262): A TRbCFG write that clears ARM stops capture and invalidates the buffer. Operands: the tag of the command taken. -/
  | traceDisarm (tag : Nat)
  /-- TRACE_SAMPLE (R261): At the clock slot's write instant the buffer stores a sample and tests its trigger. Operands: the buffer. -/
  | traceSample (b : Nat)
  /-- SEQUENCER_TICK (R278): Every 500 µs the door sequencer takes commands, reversals and arrival flags and updates references. Operands: the resistances of the two winding NTCs in Ω. -/
  | sequencerTick (ntc0 ntc1 : Nat)
  /-- CURRENT_SAMPLE (R267): At a 32 kHz period the phase currents are averaged and transformed for slots 0 and 1. Operands: the operator, the ring time of the sample, the sensorless observer's angle in 1/65,536 revolution. -/
  | currentSample (n t : Nat) (obs : Int)
  /-- GATE_UVLO (R269): High-side undervoltage lockout turns the gates off as a drive fault. Operands: the operator. -/
  | gateUvlo (n : Nat)
  /-- HALL_READ (R270): A Hall code read at 32 kHz updates the sector and detects invalid codes or sequences. Operands: the operator and the Hall code. -/
  | hallRead (n code : Nat)
  /-- OFFSET_MEASURED (R268): 200 µs after enable the sense offsets are checked, and the gates and slots 0 and 1 are released. Operands: the operator, the two sense offsets in µV, the time since the enable. -/
  | offsetMeasured (n : Nat) (ofsU ofsV : Int) (heldUs : Nat)
  /-- DOOR_SWITCH_EDGE (R273): An edge of the door-closed or door-open switch references the axis or reveals drift. Operands: the operator. -/
  | doorSwitchEdge (n : Nat)
  /-- DOOR_CLOSED (R274): The closed switch is active with the door at rest for 100 ms, so the operator enters CLOSED. Operands: the operator. -/
  | doorClosed (n : Nat)
  /-- DOOR_OPENED (R274): The door is at the open stop and at rest for 100 ms, so the operator enters OPEN, learning the profile if the cycle counts. Operands: the operator. -/
  | doorOpened (n : Nat)
  /-- HOLD_DELAY_EXPIRED (R291): After DRn.HOLDDLY at rest in an end state, the hold demand falls to DRn.IHOLD. Operands: the operator. -/
  | holdDelayExpired (n : Nat)
  /-- DOOR_BOOST (R292): A train-arrival window starts, and the hold demand is raised. Operands: the operator. -/
  | doorBoost (n : Nat)
  /-- BOOST_END (R292): The boost window ends, and the hold demand returns to normal. Operands: the operator. -/
  | boostEnd (n : Nat)
  /-- DOOR_PROFILE_SAVED (R285): Learned door profiles are written back to MRAM within 60 s, or at DORMANT entry. Operands: the operator. -/
  | doorProfileSaved (n : Nat)
  /-- WINDING_TEMP (R296): The winding temperature has been above DRn.TTRIP for 1 s, a drive fault acted on at an end state or after 10 s. Operands: the operator. -/
  | windingTemp (n : Nat)
  /-- STALL (R296): A moving sequence with less than 1 mm of travel in 3 s is a drive fault. Operands: the operator. -/
  | stall (n : Nat)
  /-- SAMPLE_TASK (R300): Every 250 µs each safety channel samples inputs, INC and SSI, updates p_S and v_S, and evaluates the functions. Operands: the channel, its sampled inputs, its INC edge count, the count latched at the SSI frame's start, the frames received since the previous task, the sin/cos signal fault. -/
  | sampleTask (ch si : Nat) (inc : Int) (latch : Option Int) (fa fb : Option SsiFrame) (sincos : Bool)
  /-- SAF_TRIP_SF5 (R315): An SF5 brake condition has held for 16 ms, and SF5 trips. Operands: the channel. -/
  | safTripSf5 (ch : Nat)
  /-- SAF_TRIP_SF9 (R303): A position discrepancy or invalid source has held for 10 ms, and SF9 trips. Operands: the channel. -/
  | safTripSf9 (ch : Nat)
  /-- SAF_TRIP_DL (R234): Each channel counts the fifth consecutive missing inverter frame and trips. Operands: the channel. -/
  | safTripDl (ch : Nat)
  /-- SSI_FRAME_MISSING (R302): 550 µs, then each further 500 µs, pass without a complete frame of a source, and the channel counts it invalid. Operands: the channel, the source (0 PSA, 1 PSB), the time since the end of its last frame. -/
  | ssiFrameMissing (ch src elapsedUs : Nat)
  /-- SAFETY_CYCLE (R300): Every 1 ms each channel cross-compares records, runs diagnostics, evaluates SF5 and decides output grants. Operands: the channel, whether a record of the other one arrived and passed its CRC, the item of Table SAF-8 found faulty (0 none), the readback of SOxH [3:0] and SOxL [7:4]. -/
  | safetyCycle (ch : Nat) (recOk : Bool) (diag nodes : Nat)
  /-- SAFETY_INPUT_CHANGE (R305): A safety input changes its filtered state after SAF.SIFILTn agreeing samples. Operands: the channel and the input. -/
  | safetyInputChange (ch n : Nat)
  /-- SAF_CONTACTOR (R307): The contactor feedback has been wrong for 100 ms, so SOC grants are refused. -/
  | safContactor
  /-- SWITCH_TEST (R308): On the 500 ms schedule a safety-output switch is pulsed and read back. Operands: the channel, the output, the two nodes at the end of the pulse, the high side's current. -/
  | switchTest (ch k : Nat) (high low : Bool) (mA : Nat)
  /-- STUCK_SWITCH_LOCKOUT (R309): With an output closed and a switch stuck on, the car reaches standstill or 30 s pass, and the device enters LOCKOUT. -/
  | stuckSwitchLockout
  /-- BRAKE_TEST_START (R316): SAF.BTINT has passed and the parked conditions hold for 60 s, so the brake torque test starts. -/
  | brakeTestStart
  /-- BRAKE_TEST_STEP (R316): A timed phase of the brake torque test ends, and the test advances to its next half or to its result. -/
  | brakeTestStep
  /-- RESET_RELEASE (R321): The reset button is released after a press, and every manual cause ends if the press was valid. -/
  | resetRelease
  /-- RESET_STUCK (R321): The reset button has been held for 5 s. -/
  | resetStuck
  /-- RESET_DISCREPANCY (R321): SI14 and SI15 have been equal for more than 50 ms. -/
  | resetDiscrepancy
  /-- NEIGHBOUR_LOST_SAFETY (R313): No valid neighbour extent has arrived for SAF.NLLOSS, so the channels freeze the extents as limits. Operands: the channel and the side. -/
  | neighbourLostSafety (ch : Nat) (up : Bool)
  /-- FILTERED_EDGE (R336): A field input's raw change has held for N samples, so the filtered state changes and the edge is stamped. Operands: the channel, the consecutive samples of the new raw state, the ring time of the first. -/
  | filteredEdge (n count at_ : Nat)
  /-- FIO_TICK (R338): Every 1 ms FIO delivers edges, forms the input image and reads outputs back. Operands: the compared input values, the output nodes, the channels in current limit, the output currents in mA. -/
  | fioTick (raw nodes lim : Nat) (mA : List Nat)
  /-- BACKFEED_PROBE (R342): Each tick of a probe switches one on-channel off for 200 µs and compares the suspect nodes. Operands: the output nodes 180 µs into the pulse. -/
  | backfeedProbe (nodes : Nat)
  /-- FIO_FAULT_CLEARED (R341): EXT_DRIVE clears after 100 ms reading low while commanded off. Operands: the channel. -/
  | fioFaultCleared (n : Nat)
  /-- FIO_LIMITING (R343): An output's current limit has held for 10 ms. Operands: the channel. -/
  | fioLimiting (n : Nat)
  /-- FIO_THERMAL (R343): An output reaches thermal shutdown, and it turns off under its retry policy. Operands: the channel. -/
  | fioThermal (n : Nat)
  /-- THERMAL_RETRY (R343): FIO.RETRYT after a shutdown, with the channel below 160 °C, the channel restarts. Operands: the channel, whether it is below 160 °C. -/
  | thermalRetry (n : Nat) (cool : Bool)
  /-- FIO_AGG_HIGH (R345): The aggregate output current has been above 6.0 A for 100 ms. -/
  | fioAggHigh
  /-- FIO_SHED (R345): The aggregate current has been above 8.0 A for 10 ms, so outputs are shed from the top down. -/
  | fioShed
  /-- CAN_FRAME_RECEIVED (R354): A CAN frame ends without error and becomes the complete buffer of its object. Operands: the bus, the identifier, whether it is a data frame with an 11-bit identifier, the payload, whether the input phase copies as it ends. -/
  | canFrameReceived (b id : Nat) (base : Bool) (bytes : List Byte) (copying : Bool)
  /-- CAN_FRAME_SENT (R356): A send object's frame is acknowledged, and its status becomes OK. Operands: the bus, the object, the loop delay measured in ns. -/
  | canFrameSent (b j tdcNs : Nat)
  /-- FAILED_ATTEMPT (R356): A send attempt ends in an error frame, so it is retried or dropped NO_ACK or INTEGRITY. Operands: the bus, the object, whether it is an acknowledgement error, whether a dominant bit is seen in the passive error flag, the loop delay measured in ns. -/
  | failedAttempt (b j : Nat) (ack dominant : Bool) (tdcNs : Nat)
  /-- CAN_BUS_ON (R359): After BOFFDLY and the recovery sequence, the controller returns to ERROR_ACTIVE. Operands: the bus and the occurrences of 11 recessive bits counted. -/
  | canBusOn (b recessive : Nat)
  /-- CAN_CANCEL (R357): A write of CANb.CANCEL cancels a pending frame. Operands: the tag of the command taken. -/
  | canCancel (tag : Nat)
  /-- CAN_DISABLE (R371): Clearing ENABLE takes the controller off the bus, cancels frames and declares stations LOST. Operands: the tag of the command taken. -/
  | canDisable (tag : Nat)
  /-- REFRESH_SEND (R355): An output or display object's refresh period passes, and it queues its frame. Operands: the bus and the object. -/
  | refreshSend (b j : Nat)
  /-- STATION_HEARTBEAT (R364): A station heartbeat is stored and validated, and it recognises a station's return. Operands: the bus, the station, the payload. -/
  | stationHeartbeat (b n : Nat) (bytes : List Byte)
  /-- CAN_STATION_LOST (R364): 160 ms pass without a valid heartbeat, so the station is LOST and its frames are flushed. Operands: the bus and the station. -/
  | canStationLost (b n : Nat)
  /-- CAN_EMERGENCY (R366): An emergency frame is stored in the station's window and counted. Operands: the bus, the station, the payload. -/
  | canEmergency (b n : Nat) (bytes : List Byte)
  /-- CONTROLLER_HEARTBEAT (R362): The controller sends its heartbeat every 50 ms on object 0. Operands: the bus. -/
  | controllerHeartbeat (b : Nat)
  /-- FRAME_FORWARD (R377): A ring frame arrives at a port and is forwarded, taken or stripped by its destination. Operands: the port of arrival, the Ethernet frame from its destination address on without FCS, the state of its FCS (0 good, 1 bad, 2 stomped, 3 forwarding buffer full), the residence time in ns. -/
  | frameForward (port : Nat) (bytes : List Byte) (fcs residence : Nat)
  /-- SUMMARY (R387): A state summary is taken, updating peers, format adoption and duplicate-address detection. -/
  | summary
  /-- SUMMARY_SEND (R388): Every 250 ms the device sends its summary to the domain. -/
  | summarySend
  /-- PEER_LOST (R388): No summary from a peer arrives for DSP.PEERLOSS, and the peer counts as lost. Operands: the peer's ring address. -/
  | peerLost (addr : Nat)
  /-- RNG_LINK_DOWN (R382): A port loses its link for 5 ms, and LINK_DOWN is sent out of the other port. Operands: the port and the time since its last valid signal in µs. -/
  | rngLinkDown (port silentUs : Nat)
  /-- RNG_LINK_UP (R381): A port's link comes up in CONTROL_ONLY. Operands: the port and its amplitude, 1 2.4 V, 2 1.0 V. -/
  | rngLinkUp (port amp : Nat)
  /-- CONTROL_ONLY_TIMEOUT (R381): 200 ms pass with no manager, so a CONTROL_ONLY port goes to FORWARDING. Operands: the port. -/
  | controlOnlyTimeout (port : Nat)
  /-- TEST (R381): The manager sends a TEST frame every RNG.TESTPER. -/
  | ringTest
  /-- TEST_RETURNED (R381): The manager's own TEST frame arrives at port B, so it blocks port B and sends RING_CLOSED. -/
  | testReturned
  /-- TEST_LOSS (R381): RNG.TESTLOSS TEST frames are missing, so the manager opens port B and the ring heals. -/
  | testLoss
  /-- LINK_DOWN (R381): A LINK_DOWN frame is received, and the manager opens port B. -/
  | linkDown
  /-- RING_CLOSED (R381): A RING_CLOSED frame sends CONTROL_ONLY ports to FORWARDING. -/
  | ringClosed
  /-- RNG_MANAGER (R381): A candidate hears no lower candidate for 100 ms and takes the manager role. -/
  | rngManager
  /-- SYNC_SEND (R383): The time master sends a TIME sync every 10 ms. -/
  | syncSend
  /-- SYNC (R383): A sync is taken, and ring time is adjusted in rate and time. -/
  | ringSync
  /-- RNG_TIME_LOST (R384): No valid sync has been applied for 100 ms, and ring time is not valid. -/
  | rngTimeLost
  /-- RNG_MASTER_CHANGE (R383): A candidate hears no sync for its timeout and becomes time master. -/
  | rngMasterChange
  /-- DELAY_REQUEST (R383): Once per second a link-local delay request is sent, or one that arrives is answered. Operands: the port. -/
  | delayRequest (port : Nat)
  /-- DELAY_RESPONSE (R383): A delay response gives the link delay. -/
  | delayResponse
  /-- ADVANCE (R384): The time master receives an advance frame and steps its time forward. -/
  | ringAdvance
  /-- RING_TIME_STORE (R384): Every 1 s, ring time is written to MRAM. -/
  | ringTimeStore
  /-- SYNCOUT_PULSE (R385): At each multiple of RNG.SYNCPER a 10 µs pulse is given on SYNCOUT. -/
  | syncoutPulse
  /-- SYNCIN_EDGE (R385): A rising edge on SYNCIN captures ring time. -/
  | syncinEdge
  /-- WAKE (R47): A ring WAKE frame addressed to the device wakes it from DORMANT. -/
  | ringWake
  /-- BID_REQ (R392): A car in dispatch receives a bid request and answers with BID. -/
  | bidReq
  /-- BID (R392): The registrar takes a bid within the window. -/
  | ringBid
  /-- BID_WINDOW_CLOSE (R394): The bid window closes, the lowest cost wins and the allocation group opens. Operands: the call number. -/
  | bidWindowClose (num : Nat)
  /-- AUCTION_RETRY (R394): 1 s after a wake the auction is repeated. Operands: the call number. -/
  | auctionRetry (num : Nat)
  /-- CALL_DONE (R396): CALL_DONE is received, and pending registrations for the call acknowledge OK. -/
  | callDone
  /-- TRAIN_NOTICE (R399): A train notice is taken and handed to the door operators. -/
  | trainNotice
  /-- SURGE_WINDOW_END (R400): At T_a + DSP.SURGEWIN the car sends BOARDED. Operands: the notice's sender and identifier. -/
  | surgeWindowEnd (src id : Nat)
  /-- BOARDED (R400): A BOARDED report is received. -/
  | boarded
  /-- RATIO_UPDATE (R400): 5 s after the window the surge ratio is updated. Operands: the notice's sender and identifier. -/
  | ratioUpdate (src id : Nat)
  /-- RATIO_STORE (R400): Every hour the ratios are stored to MRAM. -/
  | ratioStore
  /-- PREDRST (R400): A write of 1 to DSP.PREDRST resets every ratio. Operands: the tag of the command taken. -/
  | predrst (tag : Nat)
  /-- DSP_PREPOSITION (R401): At T_a − DSP.PREWIN the lowest car computes demand and auctions pre-position calls. Operands: the notice's sender and identifier. -/
  | dspPreposition (src id : Nat)
  /-- PREHOLD_END (R401): At T_a + DSP.PREHOLD the pre-position bit is cleared. Operands: the notice's sender and identifier, and whether the car has left the landing. -/
  | preholdEnd (src id : Nat) (left : Bool)
  /-- DSP_LOCAL_SERVICE (R402): A ring-loss condition has held for DSP.RINGLOSS, and the car enters local service. Operands: how long the condition has held in ms. -/
  | dspLocalService (heldMs : Nat)
  /-- DSP_REJOINED (R403): Time and summaries have been good for DSP.REJOIN, so the car rejoins and auctions its calls again. Operands: how long time and summaries have been good in s. -/
  | dspRejoined (heldS : Nat)
  /-- NEIGHBOUR_FRAME_SEND (R407): SHF.NLOFS after each L tick the car starts a frame on each active neighbour link. Operands: the side, true for the car above. -/
  | neighbourFrameSend (up : Bool)
  /-- NEIGHBOUR_FRAME (R408): A good neighbour-link frame is taken, along with its extents, zone and message fragment. Operands: the side, the frame, whether its coding was valid, the time since the last good frame. -/
  | neighbourFrame (up : Bool) (bytes : List Byte) (coded : Bool) (gapUs : Nat)
  /-- SHF_LINK_LOST (R421): 2,500 µs pass without a good frame, so the link is lost and the car stops and is restricted. Operands: the side and the time without a good frame. -/
  | shfLinkLost (up : Bool) (us : Nat)
  /-- SHF_LINK_RESTORED (R422): 50 consecutive good frames with LINK_GOOD, and verification, end the restriction. Operands: the side. -/
  | shfLinkRestored (up : Bool)
  /-- MESSAGE_REPEAT (R410): 3 ms pass without an acknowledgement, and the whole message is sent again. Operands: the side, true for the car above. -/
  | messageRepeat (up : Bool)
  /-- HANDOVER_TIMEOUT (R423): The handover is not complete within 20 ms, so the DORMANT request completes STATE. -/
  | handoverTimeout
  /-- ZONE_WRITE (R420): A write of SHF.ZLO or SHF.ZHI sets the zone directly when allowed. Operands: the tag of the command taken. -/
  | zoneWrite (tag : Nat)
  /-- EVENT_RAISED (R432): A block raises an event, which is stamped in hardware with operating time and calendar. Operands: the event code, its severity, its instance and its data bytes. -/
  | eventRaised (code sev inst : Nat) (data : List Byte)
  /-- RECORD_WRITE (R434): The LMP formats a stamped event and writes it with the next sequence number, or counts it as a repeat or a drop. -/
  | recordWrite
  /-- REPEAT_WINDOW_CLOSE (R443): A repeat window closes, and the streamed copy with its final count is sent. Operands: the record's sequence number. -/
  | repeatWindowClose (seq : Nat)
  /-- STREAM_DESCRIPTOR_CLOSE (R444): A stream descriptor holds 15 records or reaches TPH.STRMLAT, and it is queued. Operands: the stream. -/
  | streamDescriptorClose (k : Nat)
  /-- TPH_CLEAR (R437): A write of 1 to TPH.CLEAR frees every record below TRIP. Operands: the tag of the command taken. -/
  | tphClear (tag : Nat)
  /-- RTC_SECOND (R453): The RTC counts a second and rolls the calendar over, which drives the time frame and the alarm. -/
  | rtcSecond
  /-- TRIM_WINDOW (R457): At each 32 s window start a trim write takes effect, MEASPPM is updated and CLOCK_DEGRADED may clear. Operands: the rate measured over the window in 0.1 ppm, seconds for which the crystal has been within its limit. -/
  | trimWindow (ppm : Int) (goodS : Nat)
  /-- VIN_OV_CLEAR (R32): VIN has been below 31.0 V for 100 ms, and the overvoltage condition clears. Operands: VIN in mV and how long the condition has held in µs. -/
  | vinOvClear (mV heldUs : Nat)
  /-- TEMP_HIGH_CLEAR (R80): The hottest die reading falls below 125 °C, and the Geyser flag TEMP_HIGH clears. Operands: the hottest die in 0.1 °C. -/
  | tempHighClear (tdie : Int)
  /-- VCELL_FAIL (R50): VCELL falls below 1.8 V while the AON domain runs on the cell, and the 200 µs hold-up begins. Operands: the cell in mV. -/
  | vcellFail (cellmV : Nat)
  /-- OPERATING_TIME_STORE (R51): Every 1 s the operating-time counter is written to MRAM. -/
  | operatingTimeStore
  /-- COMPARE_LOAD (R265): At each PWM valley and peak, every 25 µs, the compare values load from the last slot 0 and 1 voltages, rotated and modulated with dead time. Operands: the operator. -/
  | compareLoad (n : Nat)
  /-- ARBITRATION (R353): At bus idle a controller offers its lowest pending identifier, and the frame either wins arbitration and starts transmitting or loses and waits for the next idle. Operands: the bus and whether the offered frame wins. -/
  | arbitration (b : Nat) (won : Bool)
  /-- CHALLENGE_EXPIRED (R469): A pending authentication challenge reaches 2 s and is discarded, freeing its place among the 4 pending ring challenges. Operands: whether it is a ring source's, and its address or host slot. -/
  | challengeExpired (ring : Bool) (a : Nat)
  /-- AUTH_BUSY_END (R469): 10 s after 5 consecutive authentication failures from a slot or source, AUTH_CHALLENGE from it is served again. Operands: whether it is a ring source's, and its address or host slot. -/
  | authBusyEnd (ring : Bool) (a : Nat)
  /-- SWAP_GAP_REACHED (R480): After Wick A's swap the device has accumulated SEC.SWAPGAP in RUN, and Wick B's swap becomes pending with SEC.FWSTAT 5. -/
  | swapGapReached
  /-- TAP_INSTRUCTION (R62): An IEEE 1149.1 instruction shifted in on the test access port is answered: IDCODE and BYPASS in the running states, and EXTEST, boundary scan and debug only in START under an unlocked recovery loader. Operands: the instruction. -/
  | tapInstruction (ir : Nat)
  deriving DecidableEq, Repr

end Sys2Proof
end

