-- ==== Sys2Proof/WellFormed.lean ====
section
/-!
DEFINITION. Well-formed commands: every operand that names a thing of which the spec gives a number lies in that number,
and every operand that stands for a field of a frame fits the field. The meanings themselves answer every operand.
-/
namespace Sys2Proof

/-- An in-flight tag: one of 64 (05 R107). -/
def okTag (n : Nat) : Bool := decide (n < 64)

/-- An in-flight tag, or 64 for none (04 R79). -/
def okTagOrNone (n : Nat) : Bool := decide (n ≤ 64)

/-- A host slot: two SPI ports, the UART, and five for the ring (05 R90). -/
def okHost (n : Nat) : Bool := decide (n < 8)

/-- One of eight things: a group number (07 R141), a CALLREG record (08 Table GYS-10). -/
def okHostSlot8 (n : Nat) : Bool := decide (n < 8)

/-- One of two things: a CAN bus, a ring port, a safety channel, a door operator, a memory kind. -/
def okPair (n : Nat) : Bool := decide (n < 2)

/-- One of four things, or a two-bit field. -/
def ok2bit (n : Nat) : Bool := decide (n < 4)

/-- A three-bit field: a Hall code (11 R269). -/
def ok3bit (n : Nat) : Bool := decide (n < 8)

/-- A repetitive unit: one of four (10 R254). -/
def okUnit (n : Nat) : Bool := decide (n < 4)

/-- The operand field of a Geyser instruction word: 24 bits (08 Table GYS-3). -/
def okOperand (n : Nat) : Bool := decide (n < 2 ^ 24)

/-- A byte. -/
def okByte (n : Nat) : Bool := decide (n < 256)

/-- A 16-bit field. -/
def okU16 (n : Nat) : Bool := decide (n < 2 ^ 16)

/-- A 32-bit field. -/
def okU32 (n : Nat) : Bool := decide (n < 2 ^ 32)

/-- A 64-bit field. -/
def okU64 (n : Nat) : Bool := decide (n < 2 ^ 64)

/-- An LMP fault's cause (02 R26). -/
def okCause (n : Nat) : Bool := decide (n ≤ 2)

/-- A CAN identifier of 11 or 29 bits (14 R361). -/
def okId (n : Nat) : Bool := decide (n < 2 ^ 29)

/-- A ring port's amplitude: 1 or 2 (15 R372). -/
def okAmp (n : Nat) : Bool := decide (1 ≤ n) && decide (n ≤ 2)

/-- A severity, DEBUG to LOCKOUT (17 Table TPH-2). -/
def okSev (n : Nat) : Bool := decide (n < 8)

/-- A busy fraction in 0.1 % (05 R114). -/
def okLoad (n : Nat) : Bool := decide (n ≤ 1000)

/-- A minor period of the 2 kHz period (10 Table CLE-2). -/
def okMinor (n : Nat) : Bool := decide (n < 16)

/-- A supervised rail's code (02 R31). -/
def okRail (n : Nat) : Bool := decide (n ≤ 6)

/-- A test access instruction (03 R62). -/
def okTap (n : Nat) : Bool := decide (n ≤ 4)

/-- The channel that failed its self-test, 0 for none (02 R34). -/
def okSelf (n : Nat) : Bool := decide (n ≤ 3)

/-- A source of a wake (02 R45, R47). -/
def okWake (n : Nat) : Bool := decide (n ≤ 10)

/-- A Caldera slot (10 R238). -/
def okCaldera (n : Nat) : Bool := decide (n < 16)

/-- A safety input SI0–SI15 (12 R304). -/
def okSi (n : Nat) : Bool := decide (n < 16)

/-- The levels of the 16 safety inputs. -/
def okSiMask (n : Nat) : Bool := decide (n < 2 ^ 16)

/-- A field channel FIO0–FIO47 (13 R332). -/
def okField (n : Nat) : Bool := decide (n < 48)

/-- The levels of the 48 field channels. -/
def okFieldMask (n : Nat) : Bool := decide (n < 2 ^ 48)

/-- A CAN station (14 R367). -/
def okStation (n : Nat) : Bool := decide (n < 64)

/-- A CAN message object (14 R353). -/
def okObject (n : Nat) : Bool := decide (n < 128)

/-- A frame, record or list of a fixed length. -/
def okLen {α : Type} (n : Nat) (l : List α) : Bool := l.length == n

/-- A payload of at most a length. -/
def okMost {α : Type} (n : Nat) (l : List α) : Bool := decide (l.length ≤ n)

/-- The check, one arm for each row. -/
def Instr.wf (i : Instr) : Bool :=
  match i with
  | .status h crc => okHost h && okU32 crc
  | .put h queue bytes crc tseq => okHost h && okByte queue && okMost 512 bytes && okU32 crc && okU16 tseq
  | .get h queue crc => okHost h && okByte queue && okU32 crc
  | .release h queue count crc => okHost h && okByte queue && okU16 count && okU32 crc
  | .transactionCutShort h => okHost h
  | .ringAuth src tseq bytes => okByte src && okU16 tseq && okMost 512 bytes
  | .pushRepeat h => okHost h
  | .ringSlotIdle h => okHost h
  | .completionQueued h => okHost h
  | .deadlineTimeout tag => okTag tag
  | .hostOverload load => okLoad load
  | .hostOverloadEnd load _ => okLoad load
  | .lmpTick load => okLoad load
  | .lmpFault cause => okCause cause
  | .lmpRestart => true
  | .lmpRejoinDispatch => true
  | .hostNop tag => okTag tag
  | .devInfo tag => okTag tag
  | .paramRead tag => okTag tag
  | .paramWrite tag => okTag tag
  | .paramApply tag => okTag tag
  | .paramDurable tag => okTag tag
  | .devRestore tag => okTag tag
  | .tableRead tag => okTag tag
  | .tableWrite tag => okTag tag
  | .tableWriteDiscard tag => okTag tag
  | .tableActivate tag => okTag tag
  | .tableSwitch tag => okTag tag
  | .tableDurable tag => okTag tag
  | .varRead tag => okTag tag
  | .varWrite tag => okTag tag
  | .forceSet tag => okTag tag
  | .forceClear tag => okTag tag
  | .forceClearAll tag => okTag tag
  | .move tag => okTag tag
  | .moveReq => true
  | .stopMotion tag => okTag tag
  | .stopMotionAtLanding tag => okTag tag
  | .learnRun tag => okTag tag
  | .doorOpen tag => okTag tag
  | .doorClose tag => okTag tag
  | .doorNudge tag => okTag tag
  | .doorHold tag => okTag tag
  | .doorStop tag => okTag tag
  | .doorReopen tag => okTag tag
  | .doorLearn tag => okTag tag
  | .doorReq n => okPair n
  | .grpOpen tag => okTag tag
  | .parameterWrite tag => okTag tag
  | .geyserVariableWrite tag => okTag tag
  | .nonSafetyFieldOutput tag => okTag tag
  | .profileTarget tag => okTag tag
  | .doorCommand tag => okTag tag
  | .camTableSelection tag => okTag tag
  | .calderaCoefficientSet tag => okTag tag
  | .grpCommit tag => okTag tag
  | .commitPoint g => okHostSlot8 g
  | .groupActionApplied g => okHostSlot8 g
  | .groupRecordDurable g => okHostSlot8 g
  | .grpAbort tag => okTag tag
  | .grpExpired g => okHostSlot8 g
  | .xdevPrepare => true
  | .preparedBoundary g => okHostSlot8 g
  | .xdevVote => true
  | .voteDeadline g => okHostSlot8 g
  | .xdevCommit => true
  | .xdevAck => true
  | .commitRepeat g => okHostSlot8 g
  | .abortMessage => true
  | .grpDecisionLost g => okHostSlot8 g
  | .grpXdevUnconfirmed g => okHostSlot8 g
  | .hostAbort tag => okTag tag
  | .evtSubscribe tag => okTag tag
  | .evtRead tag => okTag tag
  | .snapshot tag => okTag tag
  | .rtcWrite tag => okTag tag
  | .rtcCapture tag => okTag tag
  | .safWrite tag => okTag tag
  | .safWriteDiscard tag => okTag tag
  | .safConfirm tag => okTag tag
  | .safetySetSwitch => true
  | .safSessionTimeout => true
  | .stateRequest tag _ => okTag tag
  | .stateReq _ => true
  | .traceRead tag => okTag tag
  | .authChallenge tag => okTag tag
  | .authResponse tag => okTag tag
  | .sessionClose tag => okTag tag
  | .sessionExpired h => okHost h
  | .fwStage tag => okTag tag
  | .fwStageDiscard tag => okTag tag
  | .fwSwitch tag => okTag tag
  | .quietPoint tag => okTag tag
  | .quietPointTimeout tag => okTag tag
  | .secFwSwitched tag => okTag tag
  | .fwConfirm tag => okTag tag
  | .fwRevert tag => okTag tag
  | .secSafSwapped ch _ => okPair ch
  | .attest tag => okTag tag
  | .attestDeviceCert tag => okTag tag
  | .attestCaCert tag => okTag tag
  | .measurementUpdate => true
  | .installOwnerKey tag => okTag tag
  | .installProgramSigningKey tag => okTag tag
  | .installNextDomainKey tag => okTag tag
  | .activateNextDomainKey tag => okTag tag
  | .domainKeyGraceEnd => true
  | .debugUnlockToken tag => okTag tag
  | .ownershipResetToken tag => okTag tag
  | .secEpochRaised tag => okTag tag
  | .vinOv _ _ => true
  | .vinWarn _ _ => true
  | .vinWarnClear _ _ => true
  | .vinSag _ _ => true
  | .vinRecover _ _ => true
  | .vinStart _ _ _ => true
  | .vinStop _ _ => true
  | .vinAon _ _ => true
  | .vcellRise _ _ => true
  | .aonHoldupExpired _ => true
  | .cellLow _ => true
  | .railFault rail _ => okRail rail
  | .xtal25Fail _ => true
  | .xtal32Fail _ _ => true
  | .tempWarn _ _ => true
  | .tempTrip _ _ => true
  | .tempTripClear _ _ => true
  | .nrstLow _ => true
  | .nrstRelease _ _ _ _ => true
  | .startComplete verifies selfTest _ _ cal _ _ _ _ => ok2bit verifies && okSelf selfTest && ok2bit cal
  | .dormantEntry si fio canSent => okSiMask si && okFieldMask fio && ok2bit canSent
  | .dormantWake src _ _ => okWake src
  | .wakeComplete _ => true
  | .pathParity source path _ tag slot => okByte source && okByte path && okTagOrNone tag && okCaldera slot
  | .scrub source addr kind bit _ => okByte source && okU32 addr && okPair kind && okByte bit
  | .gysInputPhase _ => true
  | .gysNop mode operand => ok2bit mode && okOperand operand
  | .ldb mode operand => ok2bit mode && okOperand operand
  | .ldbn mode operand => ok2bit mode && okOperand operand
  | .andb mode operand => ok2bit mode && okOperand operand
  | .andbn mode operand => ok2bit mode && okOperand operand
  | .orb mode operand => ok2bit mode && okOperand operand
  | .orbn mode operand => ok2bit mode && okOperand operand
  | .xorb mode operand => ok2bit mode && okOperand operand
  | .stb mode operand => ok2bit mode && okOperand operand
  | .stbn mode operand => ok2bit mode && okOperand operand
  | .setb mode operand => ok2bit mode && okOperand operand
  | .rstb mode operand => ok2bit mode && okOperand operand
  | .edge mode operand => ok2bit mode && okOperand operand
  | .pshb mode operand => ok2bit mode && okOperand operand
  | .ands mode operand => ok2bit mode && okOperand operand
  | .ors mode operand => ok2bit mode && okOperand operand
  | .ld mode operand => ok2bit mode && okOperand operand
  | .st mode operand => ok2bit mode && okOperand operand
  | .ldx mode operand => ok2bit mode && okOperand operand
  | .add mode operand => ok2bit mode && okOperand operand
  | .sub mode operand => ok2bit mode && okOperand operand
  | .mul mode operand => ok2bit mode && okOperand operand
  | .div mode operand => ok2bit mode && okOperand operand
  | .mod mode operand => ok2bit mode && okOperand operand
  | .andW mode operand => ok2bit mode && okOperand operand
  | .orW mode operand => ok2bit mode && okOperand operand
  | .xorW mode operand => ok2bit mode && okOperand operand
  | .notW mode operand => ok2bit mode && okOperand operand
  | .shl mode operand => ok2bit mode && okOperand operand
  | .shr mode operand => ok2bit mode && okOperand operand
  | .sar mode operand => ok2bit mode && okOperand operand
  | .minW mode operand => ok2bit mode && okOperand operand
  | .maxW mode operand => ok2bit mode && okOperand operand
  | .cmpeq mode operand => ok2bit mode && okOperand operand
  | .cmplt mode operand => ok2bit mode && okOperand operand
  | .cmpltu mode operand => ok2bit mode && okOperand operand
  | .fadd mode operand => ok2bit mode && okOperand operand
  | .fsub mode operand => ok2bit mode && okOperand operand
  | .fmul mode operand => ok2bit mode && okOperand operand
  | .fdiv mode operand => ok2bit mode && okOperand operand
  | .fcmplt mode operand => ok2bit mode && okOperand operand
  | .cvt mode operand => ok2bit mode && okOperand operand
  | .jmp mode operand => ok2bit mode && okOperand operand
  | .jmpc mode operand => ok2bit mode && okOperand operand
  | .jmpcn mode operand => ok2bit mode && okOperand operand
  | .call mode operand => ok2bit mode && okOperand operand
  | .ret mode operand => ok2bit mode && okOperand operand
  | .sysEnd mode operand => ok2bit mode && okOperand operand
  | .sysCopy mode operand => ok2bit mode && okOperand operand
  | .sysFault mode operand => ok2bit mode && okOperand operand
  | .gysClose _ => true
  | .journalDurable => true
  | .journalApplied => true
  | .cycleDeadline _ => true
  | .warmRestart tag => okTag tag
  | .coldRestart tag => okTag tag
  | .gysStop tag => okTag tag
  | .onlineChange tag _ => okTag tag
  | .callreg k => okHostSlot8 k
  | .replanningTick => true
  | .zoneRequestRepeat => true
  | .ssiRead _ _ ts => okU64 ts
  | .incRead _ _ _ => true
  | .incSignal => true
  | .loadSample _ _ => true
  | .deviceFrame => true
  | .inverterFrame bytes _ _ => okLen 32 bytes
  | .dlReplyDeadline _ => true
  | .dlRestored => true
  | .profileRelease => true
  | .pretorqueRampEnd => true
  | .startTimeout => true
  | .startRefused => true
  | .levelErrorTaken _ => true
  | .reversalDwellEnd => true
  | .relevel _ => true
  | .learnDone => true
  | .periodStart minor shunts _ => okMinor minor && okLen 4 shunts
  | .slotSample n => okCaldera n
  | .slotWrite n => okCaldera n
  | .groupWrite g => okHostSlot8 g
  | .slotEnable n => okCaldera n
  | .slotDisable n => okCaldera n
  | .cleRcSaved u => okUnit u
  | .traceArm tag => okTag tag
  | .traceDisarm tag => okTag tag
  | .traceSample b => okPair b
  | .sequencerTick _ _ => true
  | .currentSample n _ _ => okPair n
  | .gateUvlo n => okPair n
  | .hallRead n code => okPair n && ok3bit code
  | .offsetMeasured n _ _ _ => okPair n
  | .doorSwitchEdge n => okPair n
  | .doorClosed n => okPair n
  | .doorOpened n => okPair n
  | .holdDelayExpired n => okPair n
  | .doorBoost n => okPair n
  | .boostEnd n => okPair n
  | .doorProfileSaved n => okPair n
  | .windingTemp n => okPair n
  | .stall n => okPair n
  | .sampleTask ch si _ _ _ _ _ => okPair ch && okSiMask si
  | .safTripSf5 ch => okPair ch
  | .safTripSf9 ch => okPair ch
  | .safTripDl ch => okPair ch
  | .ssiFrameMissing ch src _ => okPair ch && okPair src
  | .safetyCycle ch _ diag nodes => okPair ch && okByte diag && okByte nodes
  | .safetyInputChange ch n => okPair ch && okSi n
  | .safContactor => true
  | .switchTest ch k _ _ _ => okPair ch && ok2bit k
  | .stuckSwitchLockout => true
  | .brakeTestStart => true
  | .brakeTestStep => true
  | .resetRelease => true
  | .resetStuck => true
  | .resetDiscrepancy => true
  | .neighbourLostSafety ch _ => okPair ch
  | .filteredEdge n _ _ => okField n
  | .fioTick raw nodes lim mA => okFieldMask raw && okFieldMask nodes && okFieldMask lim && okLen 48 mA
  | .backfeedProbe nodes => okFieldMask nodes
  | .fioFaultCleared n => okField n
  | .fioLimiting n => okField n
  | .fioThermal n => okField n
  | .thermalRetry n _ => okField n
  | .fioAggHigh => true
  | .fioShed => true
  | .canFrameReceived b id _ bytes _ => okPair b && okId id && okMost 64 bytes
  | .canFrameSent b j _ => okPair b && okObject j
  | .failedAttempt b j _ _ _ => okPair b && okObject j
  | .canBusOn b _ => okPair b
  | .canCancel tag => okTag tag
  | .canDisable tag => okTag tag
  | .refreshSend b j => okPair b && okObject j
  | .stationHeartbeat b n bytes => okPair b && okStation n && okMost 64 bytes
  | .canStationLost b n => okPair b && okStation n
  | .canEmergency b n bytes => okPair b && okStation n && okMost 64 bytes
  | .controllerHeartbeat b => okPair b
  | .frameForward port bytes fcs _ => okPair port && okMost 1514 bytes && ok2bit fcs
  | .summary => true
  | .summarySend => true
  | .peerLost addr => okByte addr
  | .rngLinkDown port _ => okPair port
  | .rngLinkUp port amp => okPair port && okAmp amp
  | .controlOnlyTimeout port => okPair port
  | .ringTest => true
  | .testReturned => true
  | .testLoss => true
  | .linkDown => true
  | .ringClosed => true
  | .rngManager => true
  | .syncSend => true
  | .ringSync => true
  | .rngTimeLost => true
  | .rngMasterChange => true
  | .delayRequest port => okPair port
  | .delayResponse => true
  | .ringAdvance => true
  | .ringTimeStore => true
  | .syncoutPulse => true
  | .syncinEdge => true
  | .ringWake => true
  | .bidReq => true
  | .ringBid => true
  | .bidWindowClose num => okU16 num
  | .auctionRetry num => okU16 num
  | .callDone => true
  | .trainNotice => true
  | .surgeWindowEnd src id => okByte src && okU16 id
  | .boarded => true
  | .ratioUpdate src id => okByte src && okU16 id
  | .ratioStore => true
  | .predrst tag => okTag tag
  | .dspPreposition src id => okByte src && okU16 id
  | .preholdEnd src id _ => okByte src && okU16 id
  | .dspLocalService _ => true
  | .dspRejoined _ => true
  | .neighbourFrameSend _ => true
  | .neighbourFrame _ bytes _ _ => okLen 128 bytes
  | .shfLinkLost _ _ => true
  | .shfLinkRestored _ => true
  | .messageRepeat _ => true
  | .handoverTimeout => true
  | .zoneWrite tag => okTag tag
  | .eventRaised code sev inst data => okU16 code && okSev sev && okByte inst && okMost 8 data
  | .recordWrite => true
  | .repeatWindowClose _ => true
  | .streamDescriptorClose k => ok2bit k
  | .tphClear tag => okTag tag
  | .rtcSecond => true
  | .trimWindow _ _ => true
  | .vinOvClear _ _ => true
  | .tempHighClear _ => true
  | .vcellFail _ => true
  | .operatingTimeStore => true
  | .compareLoad n => okPair n
  | .arbitration b _ => okPair b
  | .challengeExpired _ a => okByte a
  | .authBusyEnd _ a => okByte a
  | .swapGapReached => true
  | .tapInstruction ir => okTap ir

end Sys2Proof
end

