-- ==== Sys2Proof/Config.lean ====
section
/-!
DEFINITION. What the model leaves open: free values (opaque constants without a body, so that no proof can see a
value of them) and the standard algorithms the manual names but does not give (log 7, 9, 10).
-/
namespace Sys2Proof.Config

/-- A free value: what the hardware produces where the manual states no value, one for each count `n` of the model's
own counter `State.sec.free` (log 7). -/
opaque freeValue : Nat → Nat

/-- The NaN that a float operation of the Geyser engine gives (08 R168 states no payload), by opcode and operands
(log 7). -/
opaque nanResult : Nat → Word → Word → Word

/-- The coefficient 1 − exp(−2π·f·T) of a first-order filter with corner frequency `f` in 0.01 Hz and period `T` in ns,
in units of 2^−32: the fusion gain K_f and the filters of fused and door speed (09 R202, R204, 11 R272; log 9). -/
opaque firstOrder : Nat → Nat → Int

/-- Sine and cosine of an angle in 1/65,536 revolution, Q1.31 (11 R265, R267; log 9). -/
opaque sinQ31 : Int → Int
opaque cosQ31 : Int → Int

/-- Winding temperature in 0.1 °C from an NTC's resistance in Ω by the B-parameter model with 10 kΩ at 25 °C and `b` in K
(11 R296; log 9). -/
opaque ntcTemp : Nat → Nat → Int

/-- DRn.HALLOFS as step 1 of the door learning cycle finds it from the Hall code at the aligned angle: the manual states no
formula (11 Table DR-4; log 7). -/
opaque hallOffset : Nat → Nat

/-- SHAKE256 of FIPS 202: the first `n` bytes of the digest of a message, as a little-endian number (log 10). -/
opaque shake256 : List Byte → Nat → Nat

/-- KMAC256(K, X, L, S) of NIST SP 800-185: key, input, output bits and customisation string (log 10). -/
opaque kmac256 : Nat → List Byte → Nat → String → Nat

/-- Ed448 of RFC 8032: whether a signature of a message verifies under a public key (log 10). -/
opaque ed448Verify : Nat → List Byte → Nat → Bool

/-- Ed448 of RFC 8032: the signature the device identity key makes over a message (log 10). -/
opaque ed448Sign : List Byte → Nat

/-- Ed448 of RFC 8032: a 57-byte public key is well formed, as a number (19 R464; log 10). -/
opaque ed448KeyOk : Nat → Bool

/-- X448 of RFC 7748: the shared secret of a secret and a public key, and the public key of a secret (log 10). -/
opaque x448 : Nat → Nat → Nat
opaque x448Public : Nat → Nat

/-- The certificates and keys written at manufacture: device certificate, device-CA certificate, the vendor root
public key (19 R462, R463; log 10). -/
opaque deviceCert : List Byte
opaque deviceCaCert : List Byte
opaque vendorRoot : Nat

/-- DEV.SERIAL's twelve characters, each by its place 0–11 in A–Z, 0–9 taken modulo 36, and DEV.ORDER: fixed at manufacture,
per module (06 R138; log 7). -/
opaque serialCode : Nat → Nat
opaque orderCode : Nat

end Sys2Proof.Config
end

