-- ==== Sys2Proof/Machine/State.lean ====
section
/-!
DEFINITION. The state of the TRG-9640: every register, queue, buffer, counter, mode and pin the manual gives the
device, block by block, as plain data; the reasons a step can stop; the queue of waiting commands; the state after
reset. A field's docstring names the file and rule of spec/ that gives it and its reset value; "log n" is a row of
notes/assumptions.
-/
namespace Sys2Proof.Machine

/-- No step of this model stops with a fault: every row of the table is an event or a command with the effect the
manual gives it, and an event whose condition does not hold changes nothing (log 3). -/
inductive Fault where
  /-- Raised by nothing; it keeps the type inhabited. Safe. -/
  | none
  deriving DecidableEq, Repr

/-- The reasons a command can be refused by the model. -/
inductive Refusal where
  /-- The row has no meaning yet; raised only by the arms of `exec` that say so. Safe. -/
  | notModelled (mnemonic : String)
  deriving DecidableEq, Repr

/-- The device states of Table PWR-5 (02_power_clocks_states.md R38); OFF has no code and is recorded as 0. -/
inductive DevState where
  | off | aon | start | dormant | run | tripped | lockout
  deriving DecidableEq, Repr

/-- The PWR.STATE code of a device state (Table PWR-5). -/
def DevState.code : DevState → Nat
  | .off => 0 | .aon => 1 | .start => 2 | .dormant => 3 | .run => 4 | .tripped => 5 | .lockout => 6

/-- The status values of Table HOST-9 (05 R112). -/
inductive Status where
  | ok | accepted | busy | aborted | tooLate | alreadyComplete | conflict | timeout | denied | badIndex | range
  | state | integrity | notFound | authRequired | badSignature | pendingConfirm | stale | invalidDate | noAck
  | unreachable
  deriving DecidableEq, Repr

/-- The code of a status (Table HOST-9). -/
def Status.code : Status → Nat
  | .ok => 0x00 | .accepted => 0x01 | .busy => 0x02 | .aborted => 0x03 | .tooLate => 0x04
  | .alreadyComplete => 0x05 | .conflict => 0x06 | .timeout => 0x07 | .denied => 0x08 | .badIndex => 0x09
  | .range => 0x0A | .state => 0x0B | .integrity => 0x0C | .notFound => 0x0D | .authRequired => 0x0E
  | .badSignature => 0x0F | .pendingConfirm => 0x10 | .stale => 0x11 | .invalidDate => 0x12 | .noAck => 0x13
  | .unreachable => 0x14

/-- A sparse array of bytes: the bytes that differ from what an unlisted address reads as, by rising address
(log 11). -/
abbrev Mem := List Host.Cell

/-- The calendar fields of the RTC (18_clock_and_calendar.md R446, R447): 2000-01-01 00:00:00 at every AON reset. -/
structure Calendar where
  year : Nat := 2000
  month : Nat := 1
  day : Nat := 1
  hour : Nat := 0
  minute : Nat := 0
  second : Nat := 0
  deriving DecidableEq, Repr

/-- What the stamping hardware captures when an event is raised (17 R432). -/
structure Stamp where
  /-- operating time, ms, 48 bits -/
  op : Nat := 0
  /-- power-cycle count, 24 bits -/
  cyc : Nat := 0
  cal : Calendar := {}
  /-- calendar milliseconds -/
  ms : Nat := 0
  /-- the RTC reports TIME_LOST or an unset calendar -/
  lost : Bool := false
  deriving DecidableEq, Repr

/-- A raised and stamped event that the LMP has not formatted yet (17 R432, R439). -/
structure Evt where
  code : Nat
  inst : Nat := 0xFF
  sev : Nat := 0
  /-- the data field, bytes 24–31 (R433) -/
  data : List Byte := []
  stamp : Stamp := {}
  /-- it waited in the 256-entry hardware buffer (R439) -/
  buffered : Bool := false
  /-- always stamped and written in format 0 (R450, R452) -/
  ownCodes : Bool := false
  /-- marked "repeats counted" in its event table (R438) -/
  counted : Bool := false
  deriving DecidableEq, Repr

/-- One record of the Tephra region (17 R431, Table TPH-3). -/
structure Rec where
  seq : Nat
  evt : Evt
  /-- byte 8 [3]: 1 forerunner format -/
  format1 : Bool := false
  /-- repeat count, u16 saturating (R438) -/
  rep : Nat := 0
  /-- time of the last repeat after the first occurrence, ms, u16 -/
  repMs : Nat := 0
  /-- the repeat window has not closed yet (R443) -/
  windowOpen : Bool := false
  deriving DecidableEq, Repr

/-- A descriptor (05 R104, Table HOST-5). -/
structure Desc where
  opcode : Nat := 0
  format : Nat := 1
  ref : Nat := 0
  tag : Nat := 0
  gen : Nat := 0
  status : Nat := 0
  committed : Bool := false
  afterRestart : Bool := false
  /-- bytes 10–11: the deadline of a command, the detail of a completion -/
  detail : Nat := 0
  /-- bytes 12–15 -/
  seq : Nat := 0
  /-- bytes 16–31, the KMAC256 tag as a little-endian number -/
  mac : Nat := 0
  payload : List Byte := []
  deriving DecidableEq, Repr

/-- Where a command in flight stands after the LMP has taken it (05 R105, R110). -/
inductive Phase where
  /-- waiting in its command queue -/
  | queued
  /-- taken by the LMP, not yet carried out -/
  | taken
  /-- PARAM_WRITE passed its checks and waits for the apply boundary (06 R121) -/
  | paramApply (idx : Nat) (val : Int)
  /-- applied: past the commit point, both MRAM copies still to be written (R126) -/
  | paramDurable (idx : Nat) (val : Int) (ver : Nat)
  /-- TABLE_ACTIVATE passed its checks and waits for the owner's boundary (R134) -/
  | tableSwitch (tid : Nat)
  /-- switched: past the commit point, waiting for durability (R134) -/
  | tableDurable (tid : Nat)
  /-- VAR_WRITE waits for the next Geyser input phase (08 R197) -/
  | varWrite
  /-- FORCE_SET, FORCE_CLEAR wait for the next Geyser input phase (08 R193) -/
  | forceWrite
  /-- MOVE waits for the replanning tick (09 R215) -/
  | moveWait
  /-- STOP_MOTION waits for the replanning tick (09 R218) -/
  | stopWait
  /-- LEARN_RUN waits for the replanning tick (09 R210) -/
  | learnWait
  /-- a DOOR command waits for the sequencer tick (11 R275) -/
  | doorWait
  /-- GRP_COMMIT holds its tag until its group is settled (07 R153) -/
  | groupWait (g : Nat)
  /-- STATE_REQUEST accepted: held through the DORMANT interval (02 R44) -/
  | dormantWait
  /-- SAF_CONFIRM waits for the agreed safety cycle (12 R327) -/
  | safWait
  /-- FW_SWITCH SWITCH or REVERT waits for a quiet point (19 R477) -/
  | quietWait
  /-- the quiet point has passed: committed (R477) -/
  | switching
  deriving DecidableEq, Repr

/-- A command in flight: its descriptor, its slot and queue, when it entered, and where it stands (05 R107). -/
structure Flight where
  d : Desc
  slot : Nat
  urgent : Bool := false
  /-- operating time at entry, for its deadline (R109) -/
  entered : Nat := 0
  /-- an LMP restart found it past its commit point (01 R28) -/
  after : Bool := false
  phase : Phase := .queued
  deriving DecidableEq, Repr

/-- An open session of a slot (19 R468–R470). -/
structure Session where
  /-- privilege carried by the credential: the lower of the requested privilege and the certificate's cap -/
  priv : Nat
  epoch : Nat
  /-- K_c and K_r as numbers -/
  kc : Nat
  kr : Nat
  /-- sequence number of the last accepted command -/
  lastSeq : Nat := 0
  /-- operating time of the opening, for SEC.SESSLIFE -/
  opened : Nat := 0
  /-- the credential was issued by the present owner key -/
  byOwner : Bool := true
  deriving DecidableEq, Repr

/-- A pending authentication challenge (19 R469). -/
structure Challenge where
  /-- the 96-byte challenge payload -/
  payload : List Byte
  /-- device nonce, 32 bytes, as a number -/
  nonce : Nat
  /-- device ephemeral secret and public key -/
  ephSecret : Nat
  ephPublic : Nat
  /-- operating time at which it was served -/
  at_ : Nat
  deriving DecidableEq, Repr

/-- The EVT_READ window of a slot: 16 record positions filled at a cursor (17 R441). -/
structure EvtWindow where
  cursor : Nat
  minSev : Nat
  recs : List Rec
  deriving DecidableEq, Repr

/-- The snapshot of a slot (17 R442). -/
structure EvtSnap where
  tail : Nat
  head : Nat
  /-- records between tail and head overwritten or freed since the capture -/
  struck : Nat := 0
  deriving DecidableEq, Repr

/-- One host slot H0–H7 with its two command queues and its completion queue (05 R90, R93). -/
structure Slot where
  /-- normal command queue Q(2h), oldest first, 8 places; reset: empty (05 R107, R108) -/
  nq : List Flight := []
  /-- urgent command queue Q(2h+1), 8 places; reset: empty (R107, R108) -/
  uq : List Flight := []
  /-- completion queue Q(16+h), 8 places; reset: empty (R107, R108) -/
  cq : List Desc := []
  /-- completion sequence number last given, u32; reset: 0 (R104) -/
  cseq : Nat := 0
  /-- the open session, or none; reset: none (19 R469) -/
  session : Option Session := none
  /-- SESSION_LOST of status byte 3; reset: clear, DESIGN CHOICE false (log 1) (05 Table HOST-4, R115) -/
  sessionLost : Bool := false
  /-- consecutive authentication failures; reset: DESIGN CHOICE 0 (log 1) (19 R469) -/
  authFails : Nat := 0
  /-- operating time until which AUTH_CHALLENGE completes BUSY, 0 none; reset: DESIGN CHOICE 0 (log 1) (19 R469) -/
  authBusy : Option Nat := none
  /-- the pending challenge; reset: none (19 R469) -/
  challenge : Option Challenge := none
  /-- the 160-byte staging buffer, as bytes from its start, unwritten bytes 0; reset: cleared (19 R464) -/
  stage : List Byte := []
  /-- EVT_READ window; reset: none (17 R441) -/
  window : Option EvtWindow := none
  /-- snapshot; reset: none (17 R441, R442) -/
  snap : Option EvtSnap := none
  /-- status byte 3 as the port's last STATUS returned it; reset: DESIGN CHOICE 0 (log 1) (05 R101) -/
  flagsSeen : Nat := 0
  /-- ring address of the host that occupies a ring slot; reset: none (05 R92) -/
  ringHost : Option Nat := none
  /-- operating time of the last descriptor from the ring host; reset: DESIGN CHOICE 0 (log 1) (05 R92) -/
  lastDesc : Nat := 0
  /-- sequence of the ring host's last transaction answered, and the answer, for a repeat; reset: none (15 R389) -/
  ringLast : Option (Nat × List Byte) := none
  /-- operating time of the last PUSH sent and not yet released; reset: none (15 R389) -/
  pushAt : Option Nat := none
  /-- the eight bytes or 16 bytes the port's last transaction returned; reset: DESIGN CHOICE empty (log 1) (05 R99) -/
  answer : List Byte := []
  /-- the descriptor the port's last GET returned; reset: DESIGN CHOICE none (log 1) (05 R100) -/
  answerDesc : Option Desc := none
  deriving DecidableEq, Repr

/-- The queue manager (05_host_ports_and_mailboxes.md). -/
structure HostBlk where
  /-- slots H0–H7; reset: each empty (05 R107, R108) -/
  slots : List Slot := List.replicate 8 {}
  /-- generation of each tag 0–63, 10 bits; reset: 0 (R107) -/
  gens : List Nat := List.replicate 64 0
  /-- free tags, the one free longest first; reset: 0–63 ascending (R107) -/
  freeTags : List Nat := List.range 64
  /-- commands taken by the LMP and not completed; reset: empty (R107) -/
  ops : List Flight := []
  /-- completion store, in the order produced, up to 64; reset: empty (R108) -/
  store : List (Nat × Desc) := []
  /-- the round robin over the normal queues: the slot served next; reset: DESIGN CHOICE 0 (log 1) (05 R113) -/
  rr : Nat := 0
  /-- overload; reset: DESIGN CHOICE false (log 1) (R114) -/
  overload : Bool := false
  /-- LMP_RESTART of status byte 3: from the fault until the LMP runs again; reset: false (R115) -/
  lmpRestart : Bool := false
  deriving DecidableEq, Repr

/-- The supply, clocks and device states (02_power_clocks_states.md). -/
structure Pwr where
  /-- PWR.STATE; reset: AON, the AON domain has just started (02 R38, R50; log 2) -/
  state : DevState := .aon
  /-- START runs the recovery loader, from BOOTSEL at entry; reset: false (02 R40) -/
  recovery : Bool := false
  /-- sag shutdown in force; reset: false (02 R33) -/
  sag : Bool := false
  /-- temperature trip in force; reset: false (04 R80) -/
  tempTrip : Bool := false
  /-- TEMP_HIGH flag; reset: false (04 R80) -/
  tempHigh : Bool := false
  /-- overvoltage condition; reset: false (02 R32) -/
  vinOv : Bool := false
  /-- SUPPLY_WARN condition; reset: false (02 R32) -/
  vinWarn : Bool := false
  /-- the AON domain is fed from VIN (true) or from the cell; reset: DESIGN CHOICE false (log 1) (02 R50) -/
  aonOnVin : Bool := false
  /-- the AON source has failed and the 200 µs hold-up runs; reset: false (02 R50) -/
  holdup : Bool := false
  /-- system flag SUPPLY_RECOVERED for the next Geyser cycle; reset: false (02 R34) -/
  supplyRecovered : Bool := false
  /-- NRST is held low; reset: false (02 R52) -/
  nrstLow : Bool := false
  /-- ms NRST has been low, 32 bits saturating; reset: DESIGN CHOICE 0 (log 1) (02 R53) -/
  nrstHeld : Nat := 0
  /-- BOOTSEL land level; reset: DESIGN CHOICE low (log 1) (02 R40) -/
  bootsel : Bool := false
  /-- WAKE land high; reset: DESIGN CHOICE low (log 1) (02 R42) -/
  wakeLand : Bool := false
  /-- latched wake sources in the layout of R44 byte 4; reset: DESIGN CHOICE 0 (log 1) (02 R44, R47) -/
  wakeLatch : Nat := 0
  /-- the accepted DORMANT request's entry is running; reset: false (02 R43) -/
  entering : Bool := false
  /-- the device has woken and waits for the 1.5 ms row; reset: false (02 R48) -/
  waking : Bool := false
  /-- the entering or ended DORMANT interval belongs to the Geyser request STATE_REQ; reset: false (02 R44) -/
  geyserReq : Bool := false
  /-- operating time at which the fast clocks stopped; reset: DESIGN CHOICE 0 (log 1) (02 R44) -/
  dormantAt : Nat := 0
  /-- PWR.DMOVE in use for this DORMANT interval; reset: 2,000 (06 R139) -/
  dmoveUse : Nat := 2000
  /-- PWR.WAKEMASK in use; reset: 0x7F (06 R139) -/
  maskUse : Nat := 0x7F
  /-- PWR.WAKEFIO in use, 48 bits; reset: 0 (06 R139) -/
  wakeFioUse : Nat := 0
  /-- standby monitor's reference of SI0–SI15; reset: DESIGN CHOICE 0 (log 1) (02 R45) -/
  monSi : Nat := 0
  /-- standby monitor's reference of the field inputs, 48 bits; reset: DESIGN CHOICE 0 (log 1) (02 R45) -/
  monFio : Nat := 0
  /-- items the monitor latched: [0] SI, [1] movement, [2] field input, [3] VIN; reset: DESIGN CHOICE 0 (log 1) (02 R45, R53) -/
  monItems : Nat := 0
  /-- distance the monitor counted, µm; reset: DESIGN CHOICE 0 (log 1) (02 R46) -/
  monMoved : Int := 0
  /-- the movement is still to be treated as brake slip at the wake; reset: false (02 R46) -/
  moveLatched : Bool := false
  /-- operating time, ms, 48 bits; reset: 0 in a new module, DESIGN CHOICE (log 1) (02 R51) -/
  opTime : Nat := 0
  /-- its value last written to MRAM; reset: DESIGN CHOICE 0 (log 1) (02 R51) -/
  opTimeStored : Nat := 0
  /-- power-cycle count, 24 bits saturating; reset: DESIGN CHOICE 0 (log 1) (02 R51) -/
  pwrCyc : Nat := 0
  /-- the 25 MHz crystal has failed; reset: false (02 R36) -/
  xtal25Bad : Bool := false
  /-- the 32.768 kHz crystal has failed; reset: false (02 R37) -/
  xtal32Bad : Bool := false
  /-- events and state changes recorded at the next START; reset: empty (02 R35, R39) -/
  startEvts : List Evt := []
  /-- MRAM parameter indices found lost at START; reset: empty (06 R127) -/
  lostParams : List Nat := []
  /-- causes that hold LOCKOUT, as event codes; reset: empty (02 R39) -/
  lockoutCause : Nat := 0
  /-- test access port: the instruction last answered, 0 IDCODE, 1 BYPASS, 2 EXTEST, 3 boundary scan, 4 debug; reset: DESIGN CHOICE 0 (log 1) (03 R62) -/
  tapIr : Nat := 0
  deriving DecidableEq, Repr

/-- The management processor's restart state (01_architecture.md R26–R29). -/
structure Lmp where
  /-- an LMP fault holds it in reset or booting; reset: false (01 R26) -/
  restarting : Bool := false
  /-- cause of the running restart: 0 tick, 1 exception, 2 memory, 3 switch; reset: 0 (01 R26, Table LMP-8) -/
  cause : Nat := 0
  /-- operating times of the LMP faults of the last 600 s, newest first; reset: empty (01 R29) -/
  faults : List Nat := []
  /-- withdrawn from dispatch by an LMP fault; reset: false (01 R26) -/
  withdrawn : Bool := false
  /-- kept out of dispatch by the third fault until DORMANT or power-off; reset: false (01 R29) -/
  keptOut : Bool := false
  deriving DecidableEq, Repr

/-- A parameter's stored value and version (06 R118, R124). -/
structure PVal where
  idx : Nat
  val : Int
  ver : Nat
  deriving DecidableEq, Repr

/-- The staging copy of a table object (06 R133). -/
structure Claim where
  slot : Nat
  baseVer : Nat
  body : Mem
  deriving DecidableEq, Repr

/-- A table object (06 R130, Table DEV-6). -/
structure Table where
  id : Nat
  /-- version, u32; reset: DESIGN CHOICE 0 (log 1) -/
  ver : Nat := 0
  /-- operating time of the last change, ms -/
  opTime : Nat := 0
  /-- power-cycle count of the last change -/
  cyc : Nat := 0
  /-- 0 factory, 1 host activation, 2 learned -/
  origin : Nat := 0
  /-- active body: the bytes that differ from the table's unlisted byte (log 11) -/
  body : Mem := []
  /-- the body that START loads: it follows `body` once durable (R134) -/
  durable : Mem := []
  /-- version of the durable body -/
  durVer : Nat := 0
  /-- origin of the durable body -/
  durOrigin : Nat := 0
  /-- the claimed staging copy, or none -/
  claim : Option Claim := none
  deriving DecidableEq, Repr

/-- The parameter directory (06_parameter_directory.md). -/
structure Dir where
  /-- live values and versions, by rising index; an index not listed holds its default at version 0; reset: empty (06 R120, R124) -/
  live : List PVal := []
  /-- values durable in MRAM, by rising index; reset: empty (06 R120, R126) -/
  durable : List PVal := []
  /-- table objects of Table DEV-7 by ID; reset: factory bodies of unlisted bytes (06 R131; log 11) -/
  tables : List Table :=
    [0x0100, 0x0200, 0x0201, 0x0202, 0x0203, 0x0210, 0x0211, 0x0212, 0x0213, 0x0300, 0x0301, 0x0400, 0x0401, 0x0402,
     0x0403, 0x0500, 0x0501, 0x0600, 0x0601, 0x0700].map fun i => { id := i }
  deriving DecidableEq, Repr

/-- The staging record of a commit group action (07 R145, Table GRP-3). -/
structure Act where
  /-- participant index: 0 local -/
  part : Nat
  kind : Nat
  body : List Byte
  /-- captured versions: one, or one for each coefficient of kind 0x07 (R149) -/
  vers : List Nat
  /-- applied after the commit point (R150) -/
  applied : Bool := false
  deriving DecidableEq, Repr

/-- The opener of a group (07 R142). -/
inductive GOwner where
  | host (slot : Nat)
  | beacon
  | shf
  | remote (coord : Nat)
  deriving DecidableEq, Repr

/-- One commit group (07 Table GRP-1). -/
structure Group where
  /-- GRP.STATEg: 0 FREE, 1 OPEN, 2 COMMITTING, 3 PREPARED, 4 APPLYING; reset: 0 (07 R142) -/
  state : Nat := 0
  /-- generation, 16 bits; reset: 0 (07 R142) -/
  gen : Nat := 0
  owner : GOwner := .beacon
  /-- cross-device group and its participants' addresses (Table GRP-2) -/
  cross : Bool := false
  parts : List Nat := []
  acts : List Act := []
  /-- operating time of the opening (R143) -/
  openedAt : Nat := 0
  /-- GRP.OPENTMO, GRP.MAXACT, GRP.XHOLD and GRP.XREPEAT as they stood at the opening (R161) -/
  openTmo : Nat := 30
  maxAct : Nat := 128
  xhold : Nat := 100
  xrepeat : Nat := 5
  /-- order in which the executor took the commits (R152) -/
  order : Nat := 0
  /-- ring time of the commit point, 0 none (Table GRP-6) -/
  commitAt : Nat := 0
  /-- coordinator's number and generation of a participant's group (Table GRP-8) -/
  coordG : Nat := 0
  coordGen : Nat := 0
  /-- T0, ring time, µs (R158) -/
  t0 : Nat := 0
  /-- ring time at which the participant's hold expires (R158) -/
  holdEnd : Nat := 0
  /-- votes received: participant, status code, refused action (R158) -/
  votes : List (Nat × Nat × Nat) := []
  /-- participants that have acknowledged (R158) -/
  acks : List Nat := []
  /-- the participant has voted OK and holds its resources (R158) -/
  held : Bool := false
  /-- the participant has applied its actions (R159) -/
  appliedAll : Bool := false
  /-- ring time of the last COMMIT or ABORT sent, and ABORTs left to send (R158) -/
  lastSent : Nat := 0
  abortsLeft : Nat := 0
  /-- body of a Beacon or zone group that the block needs at the end: call or zone key -/
  key : Nat := 0
  deriving DecidableEq, Repr

/-- A group message, inbound or outbound (07 Table GRP-8). -/
structure GMsg where
  /-- destination or sender: ring address or neighbour code -/
  peer : Nat
  type : Nat
  group : Nat
  gen : Nat
  coord : Nat
  t0 : Nat
  status : Nat := 0
  index : Nat := 0xFFFF
  acts : List Act := []
  deriving DecidableEq, Repr

/-- The commit executor (07_commit_groups.md). -/
structure Grp where
  /-- groups 0–7; reset: FREE, generation 0 (07 R142) -/
  groups : List Group := List.replicate 8 {}
  /-- order number of the next commit taken; reset: DESIGN CHOICE 0 (log 1) (07 R152) -/
  nextOrder : Nat := 0
  /-- Q31, group messages outbound, oldest first; reset: empty (05 R93, 07 R156) -/
  out : List GMsg := []
  /-- Q30, group messages inbound, oldest first; reset: empty (05 R93, 07 R156) -/
  inq : List GMsg := []
  deriving DecidableEq, Repr

/-- One subscribed event stream (17 R443, R444). -/
structure Stream where
  slot : Nat
  minSev : Nat
  sources : List Nat
  /-- stream sequence number of the next descriptor, u32 wrapping -/
  seq : Nat := 0
  /-- records of the descriptor being filled, oldest first, and whether each is a closing copy -/
  fill : List (Rec × Bool) := []
  /-- operating time of its first record, and TPH.STRMLAT as it stood then -/
  fillAt : Nat := 0
  fillLat : Nat := 100
  /-- records dropped since the previous descriptor -/
  dropped : Nat := 0
  /-- the present episode of loss has been recorded (05 R116) -/
  lossTold : Bool := false
  /-- next stored record to carry under FROM_SEQ, none once live -/
  cursor : Option Nat := none
  /-- Q24–Q27: descriptors waiting, 8 places -/
  queue : List Desc := []
  deriving DecidableEq, Repr

/-- The event recorder (17_tephra_event_recorder.md). -/
structure Tph where
  /-- stamped events waiting for the LMP, oldest first; reset: empty (17 R432, R439) -/
  queue : List Evt := []
  /-- present records by rising sequence number, at most 65,536; reset: empty in a new module (17 R434, R435) -/
  recs : List Rec := []
  /-- highest sequence number issued, u48; reset: 0 in a new module (17 R434) -/
  last : Nat := 0
  /-- losses of the hardware buffer in the running restart; reset: 0 (17 R439) -/
  bufLost : Nat := 0
  /-- streams 0–3; reset: none subscribed (17 R443) -/
  streams : List (Option Stream) := List.replicate 4 none
  /-- TPH.FMTUSE; reset: 0 (17 R440, R445) -/
  fmtUse : Nat := 0
  deriving DecidableEq, Repr

/-- The real-time clock (18_clock_and_calendar.md). -/
structure Rtc where
  /-- reset: 2000-01-01 00:00:00 (18 R449) -/
  cal : Calendar := {}
  /-- sub-second count, 0–32,767; reset: 0 (18 R447, R449) -/
  sub : Nat := 0
  /-- 125ths of a 32.768 kHz cycle counted by the 1 ms step and not yet in `sub`: at 125 and above with `sub` at its end, the
  second is due; reset: 0 (log 4) -/
  frac : Nat := 0
  /-- RTC.STATUS SET; reset: 0 (18 R449) -/
  set : Bool := false
  /-- CLOCK_DEGRADED; reset: false (18 R459) -/
  degraded : Bool := false
  /-- ALARM_PENDING; reset: DESIGN CHOICE false (log 1) (18 R460) -/
  alarmPending : Bool := false
  /-- the RTC_ALARM record waits for the wake; reset: false (18 R460) -/
  alarmTold : Bool := true
  /-- the last capture since START: calendar, milliseconds; reset: none (18 R455) -/
  capture : Option (Calendar × Nat) := none
  /-- TIME_LOST has been newly set and not yet recorded; reset: false (18 R450) -/
  lostNew : Bool := false
  /-- RTC.TRIM in use by the AON domain; reset: 0 (18 R457) -/
  trimUse : Int := 0
  /-- cycles counted since the present trim window began; reset: 0 (18 R457) -/
  window : Nat := 0
  deriving DecidableEq, Repr

/-- A firmware slot of the MRAM (19 R474, Table LMP-3). -/
structure FwSlot where
  /-- the image bytes stored by FW_STAGE; an unlisted byte reads 0 (log 11); reset: empty -/
  bytes : Mem := []
  /-- build number of the image, DEV.FWBUILD; reset: DESIGN CHOICE 0 (log 1) (19 Table SEC-7) -/
  build : Nat := 0
  /-- security version; reset: DESIGN CHOICE 0 (log 1) -/
  svn : Nat := 0
  /-- safety compatibility number; reset: DESIGN CHOICE 0 (log 1) -/
  compat : Nat := 0
  /-- handover record version written, and lowest one read; reset: DESIGN CHOICE 0 (log 1) -/
  hoWrites : Nat := 0
  hoReads : Nat := 0
  /-- host interface version of the image, DEV.FWIF; reset: 0x0402, the version of this manual, DESIGN CHOICE (log 1) (19 Table
  SEC-7) -/
  fwif : Nat := 0x0402
  /-- safety digest and body digest; reset: DESIGN CHOICE 0 (log 1) -/
  safDigest : Nat := 0
  bodyDigest : Nat := 0
  deriving DecidableEq, Repr

/-- A ring host's challenge without a slot (19 R471). -/
structure RingChal where
  addr : Nat
  chal : Challenge
  deriving DecidableEq, Repr

/-- The last AUTH answered from a ring source: transport sequence and the completion sent (15 R389, Table RNG-10). -/
structure RingAns where
  addr : Nat
  seq : Nat
  reply : Desc
  deriving DecidableEq, Repr

/-- Authentication failures of a ring source (19 R469). -/
structure RingFail where
  addr : Nat
  fails : Nat
  busy : Option Nat
  deriving DecidableEq, Repr

/-- Identity, attestation and update (19_identity_attestation_update.md). -/
structure Sec where
  /-- owner key, 57 bytes, or none; reset: none (19 R462, R484) -/
  owner : Option Nat := none
  /-- program-signing key; reset: none (19 R462, R484) -/
  program : Option Nat := none
  /-- current domain key; reset: none (19 R462, R484) -/
  domain : Option Nat := none
  /-- next domain key; reset: none (19 R462, R484) -/
  domainNext : Option Nat := none
  /-- previous domain key within its grace, and the operating time the grace began; reset: none (19 R467) -/
  domainPrev : Option (Nat × Nat) := none
  /-- pending ring challenges, at most 4; reset: none (19 R471) -/
  ringChals : List RingChal := []
  /-- failures counted for ring sources; reset: none (19 R469) -/
  ringFails : List RingFail := []
  /-- the two firmware slots A and B; reset: see FwSlot (19 R474) -/
  fw : List FwSlot := [{}, {}]
  /-- DEV.FWSLOT, the active slot; reset: DESIGN CHOICE 0 (log 1) (06 R138) -/
  active : Nat := 0
  /-- the slot a trial or a revert goes back to; reset: DESIGN CHOICE 1 (log 1) (19 R478) -/
  previous : Nat := 1
  /-- SEC.FWSTAT; reset: 0 (19 R484) -/
  fwStat : Nat := 0
  /-- host slot that holds the claim on the inactive slot; reset: none (19 R475) -/
  claim : Option Nat := none
  /-- operating time at which the switch began to wait for a quiet point; reset: DESIGN CHOICE 0 (log 1) (19 R477) -/
  quietAt : Nat := 0
  /-- ALLOW_RESTART of the waiting switch; reset: false (19 R477) -/
  allowRestart : Bool := false
  /-- the waiting switch is a REVERT; reset: false (19 R478) -/
  reverting : Bool := false
  /-- the waiting REVERT was accepted after CONFIRM; reset: false (19 R478) -/
  revertPlain : Bool := false
  /-- SEC.FWSTAT as the waiting switch found it; reset: DESIGN CHOICE 0 (log 1) (19 R477) -/
  statBefore : Nat := 0
  /-- a trial has been confirmed and the previous slot has not been staged into since; reset: false (19 R478) -/
  confirmed : Bool := false
  /-- slot that FW_STAGE writes: the inactive one, in the recovery loader the chosen one; reset: DESIGN CHOICE 1 (log 1) (19 R475, R482) -/
  staged : Nat := 1
  /-- last AUTH answered per ring source; reset: none (15 R389, 19 R471) -/
  ringAns : List RingAns := []
  /-- slot feeding Wick A and Wick B; reset: the active slot (19 R484; log 1) -/
  safA : Nat := 0
  safB : Nat := 0
  /-- the next DORMANT interval is the first one after CONFIRM; reset: false (19 R480) -/
  firstDormant : Bool := false
  /-- ms spent in RUN since Wick A's swap; reset: 0 (19 R480) -/
  swapRun : Nat := 0
  /-- a channel is to be swapped in the present DORMANT interval; reset: false (19 R480) -/
  swapping : Bool := false
  /-- SEC.UNONCE; reset: 0 (19 R484) -/
  unonce : Nat := 0
  /-- SEC.DBGSTAT; reset: 0 (19 R484) -/
  dbg : Nat := 0
  /-- the measurements of R472, as numbers; reset: DESIGN CHOICE 0, computed at START (log 1) (19 R472) -/
  measCode : Nat := 0
  measProgram : Nat := 0
  measConfig : Nat := 0
  /-- a recomputation is pending; reset: false (19 R472) -/
  measDirty : Bool := false
  /-- the model's own count of free values taken; reset: DESIGN CHOICE 0 (log 7) -/
  free : Nat := 0
  deriving DecidableEq, Repr

/-! ### Geyser (08_geyser_engine.md) -/

/-- Where the present cycle stands (08 R171, R176). -/
inductive GPhase where
  /-- between a close and the next input phase -/
  | boundary
  /-- executing instructions -/
  | execute
  /-- the output phase is done; the close follows -/
  | closing
  /-- execution stopped by an application fault; the close follows without an output phase -/
  | faulted
  deriving DecidableEq, Repr

/-- A journal of one closed cycle (08 R180): the data space as that cycle left it, and its count of dirty lines. -/
structure Journal where
  cycle : Nat
  lines : Nat
  image : Mem
  durable : Bool := false
  deriving DecidableEq, Repr

/-- A force on one element of a variable (08 R192). -/
structure Force where
  ident : Nat
  elem : Nat
  /-- type code of Table GYS-13 -/
  ty : Nat
  /-- the value field's low bytes as a number -/
  val : Nat
  deriving DecidableEq, Repr

/-- An acknowledgement record: sequence number taken and status (08 R198). -/
structure GAck where
  seq : Nat := 0
  status : Nat := 0
  deriving DecidableEq, Repr

/-- The logic engine. Request and acknowledgement records are numbered 0 MOVE_REQ, 1–2 DOOR_REQ[0–1],
3–10 CALLREG[0–7], 11 STATE_REQ (08 Table GYS-10). -/
structure Gys where
  /-- GYS.STATE: 0 NO_PROGRAM, 1 RUNNING, 2 STOPPED, 3 APPFAULT, 4 CHANGING; reset: 0 (08 R199) -/
  st : Nat := 0
  /-- reset: between cycles, DESIGN CHOICE (log 1) (08 R171) -/
  phase : GPhase := .boundary
  /-- cycling suspended by a DORMANT entry; reset: false (02 R43) -/
  held : Bool := false
  /-- data space, 262,144 bytes; reset: 0, DESIGN CHOICE (log 11) (08 R163) -/
  mem : Mem := []
  /-- boolean accumulator; reset: 0, DESIGN CHOICE (log 1) (08 R162) -/
  ba : Bool := false
  /-- word accumulator; reset: 0, DESIGN CHOICE (log 1) (08 R162) -/
  wa : Word := 0
  /-- index register, 21 bits; reset: 0, DESIGN CHOICE (log 1) (08 R162) -/
  ix : Nat := 0
  /-- program counter, 17 bits; reset: 0, DESIGN CHOICE (log 1) (08 R162) -/
  pc : Nat := 0
  /-- boolean stack, top first, 8 places; reset: empty, DESIGN CHOICE (log 1) (08 R162) -/
  bstack : List Bool := []
  /-- return stack, top first, 16 places; reset: empty, DESIGN CHOICE (log 1) (08 R162) -/
  rstack : List Nat := []
  /-- cycle number, 64 bits; reset: 0, DESIGN CHOICE (log 1) (08 R171) -/
  cycle : Nat := 0
  /-- dirty 64-byte lines of the present cycle; reset: none (08 R179) -/
  dirty : List Nat := []
  /-- retained image in MRAM; reset: 0, DESIGN CHOICE (log 11) (08 R180) -/
  retained : Mem := []
  /-- journals captured and not yet applied, oldest first; reset: none (08 R180) -/
  journals : List Journal := []
  /-- last durable cycle; reset: 0, DESIGN CHOICE (log 1) (08 R181) -/
  durCycle : Nat := 0
  /-- GYS.BANK: active bank, none 0xFF; reset: none (08 R199) -/
  bank : Option Nat := none
  /-- forces held, at most 256; reset: none (08 R192) -/
  forces : List Force := []
  /-- host-write versions by identity; an identity not listed is at 0; reset: empty, DESIGN CHOICE (log 1) (07 R146) -/
  vers : List (Nat × Nat) := []
  /-- tags of VAR_WRITEs handed over, in order; reset: none (08 R172) -/
  writes : List Nat := []
  /-- tags of FORCE_SET and FORCE_CLEAR taken, in order; reset: none (08 R172) -/
  forceOps : List Nat := []
  /-- committed group actions on variables and field outputs, each with the cycle its commit mark names, until that cycle's journal is
  durable; reset: none (07 R154) -/
  marks : List (Nat × Act) := []
  /-- those to apply again at the first input phase after a resume from an earlier cycle; reset: none (07 R154) -/
  again : List Act := []
  /-- acknowledgement records; reset: sequence 0, status OK, DESIGN CHOICE (log 1) (08 R198) -/
  acks : List GAck := List.replicate 12 {}
  /-- request records handed to their owners by the last output phase and not taken; reset: none (08 R174) -/
  reqs : List (Option (List Byte)) := List.replicate 12 none
  /-- restart or stop that takes effect at the next input phase or close: 1 warm, 2 cold, 3 stop; reset: 0 (08 R178) -/
  ctrl : Nat := 0
  /-- origin of that restart: 0 host, 1 automatic; reset: 0 (08 R178) -/
  ctrlAuto : Bool := false
  /-- operating times of the automatic restarts of the last 24 h; reset: none (08 R178) -/
  autoTimes : List Nat := []
  /-- FLAGS [0] RESUMED for the next cycle; reset: false (08 R181) -/
  resumed : Bool := false
  /-- FLAGS [1] WOKE for the next cycle; reset: false (08 R182) -/
  woke : Bool := false
  /-- FLAGS [2] ONLINE_CHANGED for the next cycle; reset: false (08 R190) -/
  changed : Bool := false
  /-- FLAGS [3] RESTARTED for the next cycle; reset: false (08 R178) -/
  restarted : Bool := false
  /-- FLAGS [4] SUPPLY_RECOVERED in the present cycle: its output phase drives field outputs; reset: false (02 R34) -/
  recoveredNow : Bool := false
  /-- field outputs stay off until an output phase after START; reset: true (08 R181) -/
  outputsOff : Bool := true
  deriving DecidableEq, Repr

/-! ### Hoist axis (09_hoistway_position_and_profiles.md) -/

/-- Hoist states of Table HST-2 (09 R208). -/
inductive HSt where
  | disabled | idle | starting | moving | stopping | reversalDwell | relevelling | controlledStop | learning
  | learnFault | inspection | fault
  deriving DecidableEq, Repr

/-- The HST.STATE code (Table HST-2). -/
def HSt.code : HSt → Nat
  | .disabled => 0 | .idle => 1 | .starting => 2 | .moving => 3 | .stopping => 4 | .reversalDwell => 5
  | .relevelling => 6 | .controlledStop => 7 | .learning => 8 | .learnFault => 9 | .inspection => 10 | .fault => 11

/-- Where a target comes from (09 R215; 07 R21). -/
inductive TSrc where
  | host (tag : Nat)
  | geyser (seq : Nat)
  | group
  | own
  deriving DecidableEq, Repr

/-- A motion target with its arrival flags and speed limit (09 Table HST-6). -/
structure Tgt where
  pos : Int
  /-- 0xFF for a position target -/
  landing : Nat := 0xFF
  flags : Nat := 0
  /-- speed limit, µm/s, 0 = HST.VRATED -/
  limit : Nat := 0
  src : TSrc := .own
  deriving DecidableEq, Repr

/-- A segment of a profile: jerk in µm/s³ and duration in µs (09 R220). -/
structure Seg where
  jerk : Int
  us : Nat
  deriving DecidableEq, Repr

/-- The reference state, exact: 6·10^18 times the position in µm, 2·10^12 times the speed in µm/s, 10^6 times the
acceleration in µm/s² (log 8). -/
structure RefSt where
  p : Int := 0
  v : Int := 0
  a : Int := 0
  deriving DecidableEq, Repr

/-- How the present plan ends (09 R216, R223). -/
inductive Goal where
  /-- at the present target -/
  | target
  /-- at the edge of the zone (plan code 3) -/
  | zone
  /-- landing stop of a reversal at this landing, then on to the target (plan code 1) -/
  | reversalLanding (k : Nat)
  /-- zero speed of a reversal (plan code 2) -/
  | reversalZero
  /-- landing stop under R219 -/
  | landingStop
  /-- controlled stop, or STOP_MOTION, at the normal stopping point -/
  | stop
  deriving DecidableEq, Repr

/-- One absolute position source (09 R200, R201). -/
structure PosSrc where
  /-- car position of the last valid frame, µm -/
  pos : Int := 0
  /-- raw tape position of the last valid frame -/
  raw : Nat := 0
  valid : Bool := false
  /-- consecutive invalid frames -/
  bad : Nat := 0
  /-- a valid frame has been taken since START -/
  seen : Bool := false
  deriving DecidableEq, Repr

/-- One side of a door-zone flag as the learning run and the edge latch see it (09 R212). -/
structure FlagEdge where
  pos : Int
  rising : Bool
  deriving DecidableEq, Repr

/-- The learning run (09 R210–R213, Table HST-4). -/
structure Learn where
  /-- 1–4, 0 none -/
  step : Nat := 0
  /-- lower and upper slowdown edges -/
  tsdLo : Option Int := none
  tsdHi : Option Int := none
  /-- latched flag edges of step 3, in order upward, with the edges counted on that side -/
  edges : List (Int × Nat) := []
  /-- edge latch: the last edge seen, edges counted, armed -/
  lastSeen : Int := 0
  count : Nat := 0
  armed : Bool := true
  /-- INC count and p_A at the standstill of step 2 -/
  inc0 : Int := 0
  pa0 : Int := 0
  /-- sum and number of p_A − p_B over step 3 -/
  diffSum : Int := 0
  diffN : Nat := 0
  /-- operating time at which the dwell of step 2 began -/
  dwellAt : Nat := 0
  deriving DecidableEq, Repr

/-- The hoist axis. -/
structure Hst where
  /-- HST.STATE; reset: IDLE (09 R237) -/
  st : HSt := .idle
  /-- NLAND, PSDIR, PSAOFS or PSBOFS written since the last complete learning run or activation; reset: false,
  DESIGN CHOICE (log 1) (09 R208) -/
  unlearned : Bool := false
  /-- PSA; reset: nothing read, DESIGN CHOICE (log 1) (09 R200) -/
  psa : PosSrc := {}
  /-- PSB; reset: nothing read, DESIGN CHOICE (log 1) (09 R200) -/
  psb : PosSrc := {}
  /-- p_A and p_B differ by more than 5 mm: fusion on INC alone until standstill; reset: false (09 R201) -/
  discrepant : Bool := false
  /-- INC count; reset: DESIGN CHOICE 0 (log 1) (09 R202) -/
  inc : Int := 0
  /-- a sin/cos signal fault leaves INC out; reset: false (09 R202) -/
  incBad : Bool := false
  /-- fusion offset o, 1/256 µm; reset: DESIGN CHOICE 0 (log 1) (09 R204) -/
  offset : Int := 0
  /-- fused position, 1/256 µm; reset: DESIGN CHOICE 0 (log 1) (09 R204) -/
  pf : Int := 0
  /-- fused speed, µm/s; reset: DESIGN CHOICE 0 (log 1) (09 R204) -/
  vf : Int := 0
  /-- last p_abs and the ring time of its latch, µm and µs; reset: DESIGN CHOICE 0 (log 1) (09 R202) -/
  pabs : Int := 0
  pabsAt : Nat := 0
  /-- fused positions of the last 64 ms with their ring time, newest first, 512 places; reset: empty (09 R212) -/
  hist : List (Nat × Int) := []
  /-- consecutive periods with the residual beyond HST.FUSELIM; reset: 0 (09 R205) -/
  resBad : Nat := 0
  /-- the present episode of residual has been recorded; reset: false (09 R205) -/
  resTold : Bool := false
  /-- retained car position, µm, in MRAM; reset: DESIGN CHOICE 0 (log 1) (09 R207) -/
  retained : Int := 0
  /-- the reference at the last tick; reset: at rest at 0, DESIGN CHOICE (log 1) (09 R221) -/
  ref : RefSt := {}
  /-- the rest of the present plan; reset: none (09 R221) -/
  plan : List Seg := []
  /-- where the plan comes to rest, µm; reset: DESIGN CHOICE 0 (log 1) (09 R221) -/
  planEnd : Int := 0
  /-- how it ends; reset: target (09 R216) -/
  goal : Goal := .target
  /-- the present target; reset: none (09 R216) -/
  target : Option Tgt := none
  /-- targets waiting for the next replanning tick, oldest first; reset: none (09 R221) -/
  waiting : List Tgt := []
  /-- STOP_MOTION waiting for the next tick: [0] AT_LANDING; reset: none (09 R218) -/
  stopReq : Option Nat := none
  /-- target version; reset: DESIGN CHOICE 0 (log 1) (07 R146) -/
  ver : Nat := 0
  /-- limits of the last tick: speed, acceleration, jerk; reset: the defaults of Table HST-11 (09 R221) -/
  limV : Nat := 1000000
  limA : Nat := 800000
  limJ : Nat := 1000000
  /-- a deceleration in progress keeps the limits it began under; reset: false (09 R222) -/
  limHeld : Bool := false
  /-- operating time since which the reference is above a lowered limit; reset: none (09 R222) -/
  lateAt : Option Nat := none
  /-- causes of a controlled stop still present: [0] position source, [1] discrepancy, [2] INC signal, [3] tracking,
  [4] drive link, [5] SHF, [6] sag or trip, [7] temperature; reset: 0 (09 R208, R219) -/
  causes : Nat := 0
  /-- run request to the safety channels; reset: false (09 Table HST-10) -/
  runReq : Bool := false
  /-- brake-lift request; reset: false (09 Table HST-10) -/
  liftReq : Bool := false
  /-- operating time of the run request; reset: DESIGN CHOICE 0 (log 1) (09 R236) -/
  reqAt : Nat := 0
  /-- operating time at which SOC closed for this start; reset: none (09 R236) -/
  socAt : Option Nat := none
  /-- the profile has been released; reset: false (09 R492) -/
  released : Bool := false
  /-- operating time of the release, for the pre-torque ramp; reset: none (09 R229) -/
  rampAt : Option Nat := none
  /-- output slot 14 wrote last, 0.01 % of rated torque; reset: DESIGN CHOICE 0 (log 1) (09 R229) -/
  preOut : Int := 0
  /-- the level error of this stop has been taken: only SOC's opening is awaited; reset: false (09 R225) -/
  levelled : Bool := false
  /-- operating time at which the reversal dwell began; reset: DESIGN CHOICE 0 (log 1) (09 R223) -/
  dwellAt : Nat := 0
  /-- fused car position latched at brake lift, µm; reset: DESIGN CHOICE 0 (log 1) (10 Table CLE-1, slot 14) -/
  preLatch : Int := 0
  /-- ENABLE of the drive-link frame; reset: false, DESIGN CHOICE (log 1) (09 R493) -/
  enable : Bool := false
  /-- drive-link sequence number; reset: DESIGN CHOICE 0 (log 1) (09 Table HST-9) -/
  dlSeq : Nat := 0
  /-- a good reply with this period's echo has been received; reset: false (09 R232) -/
  dlReplied : Bool := false
  /-- consecutive missing frames; reset: 0 (09 R234) -/
  dlMiss : Nat := 0
  /-- consecutive good frames after FAULT or LOST; reset: 0 (09 R235) -/
  dlGood : Nat := 0
  /-- HST.DLSTAT: 0 GOOD, 1 MISSING, 2 FAULT, 3 LOST; reset: DESIGN CHOICE 0 (log 1) (09 R234) -/
  dlStat : Nat := 0
  /-- last good inverter frame, bytes 0–27, and the one received in this period; reset: DESIGN CHOICE 0 (log 1) (09 R232) -/
  invFrame : List Byte := []
  invNew : List Byte := []
  /-- frames with FAULT_RESET left to send; reset: 0 (09 R493) -/
  fltReset : Nat := 0
  /-- a good inverter frame was received in the period before the last tick; reset: false (10 R255) -/
  invGood : Bool := false
  /-- FAULT_RESET has been sent for the fault reported; reset: false (09 R493) -/
  fltTried : Bool := false
  /-- the last device frame, bytes 0–27; reset: DESIGN CHOICE empty (log 1) (09 R232) -/
  devFrame : List Byte := []
  /-- the load measurement is valid; reset: DESIGN CHOICE false (log 1) (09 R228) -/
  loadOk : Bool := false
  /-- the learning run; reset: none (09 R210) -/
  learn : Learn := {}
  /-- the original target beyond the zone edge; reset: none (16 R419) -/
  zoneTarget : Option Tgt := none
  deriving DecidableEq, Repr

/-! ### Safety channels (12_safety_functions.md) -/

/-- One tape source as one safety channel receives it (12 R302). -/
structure SafSrc where
  /-- last frame as received -/
  raw : Nat := 0
  /-- its conversion, µm, when it was valid -/
  pos : Int := 0
  valid : Bool := false
  /-- a valid frame has been taken since the channel started -/
  seen : Bool := false
  /-- frames counted invalid since the last complete one -/
  missing : Nat := 0
  deriving DecidableEq, Repr

/-- A neighbour's extents as one safety channel holds them (12 R312, R313). -/
structure SafNbr where
  /-- upper and lower extent of the last valid frame, µm -/
  hi : Int := 0
  lo : Int := 0
  /-- operating time of the last valid value, none before the first -/
  got : Option Nat := none
  /-- the neighbour link is lost for the channel -/
  lost : Bool := false
  /-- own extent toward that neighbour kept as a limit -/
  limit : Int := 0
  /-- consecutive valid frames since the loss -/
  good : Nat := 0
  deriving DecidableEq, Repr

/-- The cross-comparison record (12 Table SAF-1). -/
structure SafRec where
  cycle : Nat := 0
  flt : Nat := 0
  raw : Nat := 0
  fa : Nat := 0
  fb : Nat := 0
  inc : Int := 0
  pos : Int := 0
  speed : Int := 0
  active : Nat := 0
  grants : Nat := 0
  requests : Nat := 0
  mode : Nat := 0
  setCrc : Nat := 0
  hi : Int := 0
  lo : Int := 0
  diag : Nat := 0
  own : Nat := 0
  deriving DecidableEq, Repr

/-- A deviation of Table SAF-4 and the consecutive tests or cycles that have shown it: 0 none, 1 HIGH_STUCK_ON,
2 LOW_STUCK_ON, 3 OPEN_LOAD, 4 HIGH_STUCK_OFF, 5 LOW_STUCK_OFF (12 R308). -/
structure SafDev where
  code : Nat := 0
  count : Nat := 0
  deriving DecidableEq, Repr

/-- One safety channel. Causes have the layout of SAF.TRIPCAUSE: [8:0] SF1–SF9, [9] drive link, [10] output. -/
structure SafCh where
  /-- safety cycle number, u32; reset: DESIGN CHOICE 0 (log 1) (12 R300, Table SAF-1) -/
  cycle : Nat := 0
  /-- filtered inputs, bit n = SIn; reset: DESIGN CHOICE 0 (log 1) (12 R305) -/
  flt : Nat := 0
  /-- unfiltered inputs of the last sample; reset: DESIGN CHOICE 0 (log 1) (12 Table SAF-1) -/
  raw : Nat := 0
  /-- consecutive samples of each input that differ from its filtered state; reset: 0 (12 R305) -/
  agree : List Nat := List.replicate 16 0
  /-- 0 normal, 1 inspection, 2 rescue; reset: 0 (12 R305) -/
  mode : Nat := 0
  /-- PSA; reset: nothing received, DESIGN CHOICE (log 1) (12 R302) -/
  a : SafSrc := {}
  /-- PSB; reset: nothing received, DESIGN CHOICE (log 1) (12 R302) -/
  b : SafSrc := {}
  /-- safety position p_S, µm; reset: DESIGN CHOICE 0 (log 1) (12 R302) -/
  pS : Int := 0
  /-- its previous value; reset: DESIGN CHOICE 0 (log 1) (12 R302) -/
  p1 : Int := 0
  /-- safety speed v_S, µm/s; reset: DESIGN CHOICE 0 (log 1) (12 R302) -/
  vS : Int := 0
  /-- the last sample task formed a value of p_S; reset: false (12 R300, R302) -/
  formed : Bool := false
  /-- INC edge count; reset: DESIGN CHOICE 0 (log 1) (12 R302) -/
  inc : Int := 0
  /-- the count latched at the start of the SSI frame, none in a period without one; reset: none (12 R301) -/
  incLatch : Option Int := none
  /-- p_S and INC count from which p_S is carried forward; reset: DESIGN CHOICE 0 (log 1) (12 R302) -/
  carryPos : Int := 0
  carryInc : Int := 0
  /-- INC reference: INC count and p_S; reset: DESIGN CHOICE 0 (log 1) (12 R303) -/
  refInc : Int := 0
  refPos : Int := 0
  /-- sample tasks since the last INC reference; reset: DESIGN CHOICE 0 (log 1) (12 R303) -/
  refAge : Nat := 0
  /-- consecutive sample tasks with |v_S| ≤ 5 mm/s, saturating at 400; reset: 0 (12 R302) -/
  still : Nat := 0
  /-- the sin/cos signal fault is present; reset: false (12 R303) -/
  incBad : Bool := false
  /-- consecutive sample tasks of each SF9 condition: discrepancy, PSA invalid, PSB invalid, INC difference, sin/cos
  fault; reset: 0 (12 R303) -/
  sf9 : List Nat := List.replicate 5 0
  /-- consecutive sample tasks without any SF9 condition; reset: 0 (12 Table SAF-9) -/
  sf9Clear : Nat := 0
  /-- consecutive updates that show the condition of SF1–SF9, by index 0–8; reset: 0 (12 Table SAF-5) -/
  qual : List Nat := List.replicate 9 0
  /-- band and p_S at which the doors became unlocked, none while locked; reset: none (12 Table SAF-5, SF2) -/
  unlocked : Option (Option Nat × Int) := none
  /-- p_S at which an SF8 trip beyond an inspection limit cleared; reset: none (12 Table SAF-9) -/
  sf8Base : Option Int := none
  /-- causes held from its own detection; reset: 0 (12 R301) -/
  own : Nat := 0
  /-- active causes, its own and the adopted ones; reset: 0 (12 R301, R331) -/
  active : Nat := 0
  /-- its switches closed, [3:0] SOA–SOD; reset: 0 (12 R299) -/
  sw : Nat := 0
  /-- grants decided, [3:0] SOA–SOD; reset: 0 (12 Table SAF-1) -/
  grants : Nat := 0
  /-- consecutive missing inverter frames; reset: 0 (09 R234) -/
  dlMiss : Nat := 0
  /-- own upper and lower extent, µm; reset: DESIGN CHOICE 0 (log 1) (12 R312) -/
  hi : Int := 0
  lo : Int := 0
  /-- neighbour below and neighbour above; reset: no value (12 R312) -/
  below : SafNbr := {}
  above : SafNbr := {}
  /-- the record it wrote last; reset: DESIGN CHOICE all 0 (log 1) (12 R301) -/
  wrote : SafRec := {}
  /-- the other channel's latest record as read, and whether one was new in the last cycle; reset: all 0 (12 R301) -/
  other : SafRec := {}
  fresh : Bool := false
  /-- consecutive missing records; reset: 0 (12 R301) -/
  recMiss : Nat := 0
  /-- consecutive records with a mismatch; reset: 0 (12 R301) -/
  mismatch : Nat := 0
  /-- a valid press waits for the next safety cycle; reset: false (12 R321) -/
  resetArmed : Bool := false
  /-- ms since each output last changed as the channel sees it, and the outputs it saw; reset: 0 (12 Table SAF-6) -/
  outMs : List Nat := List.replicate 4 0
  outSeen : Nat := 0
  /-- p_S at the last standstill reached with SOA and SOB open; reset: DESIGN CHOICE 0 (log 1) (12 Table SAF-6) -/
  slipBase : Int := 0
  /-- a standstill has been reached since SOA and SOB opened, and the car stands in it; reset: false (12 Table SAF-6) -/
  slipOn : Bool := false
  slipStill : Bool := false
  /-- consecutive ms of an SF5 condition; reset: 0 (12 R315) -/
  sf5 : Nat := 0
  /-- consecutive ms with every BRAKEn_LIFTED consistent with its output at standstill; reset: 0 (12 Table SAF-9) -/
  sf5Ok : Nat := 0
  /-- output whose switch the schedule tests next, 0–3 SOA–SOD; reset: 0 (12 R308) -/
  nextTest : Nat := 0
  /-- deviation of each own switch in its last tests; reset: none (12 R308) -/
  tests : List SafDev := List.replicate 4 {}
  /-- deviation of each output in the last static cycles; reset: none (12 R308) -/
  statics : List SafDev := List.replicate 4 {}
  deriving DecidableEq, Repr

/-- A parameterisation session (12 R324). -/
structure SafSession where
  slot : Nat
  /-- operating time of the last SAF_WRITE -/
  last : Nat
  deriving DecidableEq, Repr

/-- The safety channels and what they share with the rest of the device. -/
structure Saf where
  /-- Wick A -/
  chA : SafCh := {}
  /-- Wick B -/
  chB : SafCh := {}
  /-- both channels run: from START's self-test to DORMANT or power-off; reset: false (02 R39, R43) -/
  running : Bool := false
  /-- cause of the return to RUN: event code of what ended the last trip cause, 0 for an automatic reset; reset: 0
  (02 R39) -/
  endCause : Nat := 0
  /-- SOD requests: landing of HST's relevel, of DR0's and of DR1's advance opening; reset: none (12 Table SAF-3) -/
  sodHst : Option Nat := none
  sodDr0 : Option Nat := none
  sodDr1 : Option Nat := none
  /-- landing and purpose SOD was granted for: true relevel; reset: none (12 Table SAF-3) -/
  sodFor : Option (Nat × Bool) := none
  /-- SOC has been closed since the channels started; reset: false (12 R307) -/
  socUsed : Bool := false
  /-- consecutive ms of wrong contactor feedback, and of correct feedback with SOC open; reset: 0 (12 R307) -/
  ctWrong : Nat := 0
  ctRight : Nat := 0
  /-- every grant of SOC is refused until the feedback has been correct for 1 s; reset: false (12 R307) -/
  ctRefused : Bool := false
  /-- the brakes have been granted in the present run; reset: false (12 Table SAF-3) -/
  runGranted : Bool := false
  /-- consecutive passed tests of each output at standstill; reset: 0 (12 R309) -/
  passes : List Nat := List.replicate 4 0
  /-- operating time at which a stuck-on switch was qualified with its output closed; reset: none (12 R309) -/
  stuckAt : Option Nat := none
  /-- phase of the brake torque test: 0 none, 1 SOC, 2 and 6 lifting, 3 and 7 upward, 4 and 8 downward, 5 and 9
  dropping, 10 SOC opens; reset: 0 (12 Table SAF-8a) -/
  btPhase : Nat := 0
  /-- operating time of the phase's beginning, and p_S at the beginning of the half; reset: 0 (12 R316) -/
  btAt : Nat := 0
  btPos : Int := 0
  /-- operating time of the last completed test, none when none has completed; reset: none (12 R316) -/
  btLast : Option Nat := none
  /-- operating time before which an abandoned test is not tried again; reset: 0 (12 R316) -/
  btRetry : Nat := 0
  /-- a failed test must be followed by a successful one before SF5 clears; reset: false (12 Table SAF-9) -/
  btFailed : Bool := false
  /-- operating time at which the parked conditions of the test began to hold; reset: none (12 R316) -/
  parkedAt : Option Nat := none
  /-- operating time at which the present press began; reset: none (12 R321) -/
  pressAt : Option Nat := none
  /-- RESET_STUCK has been recorded for this press; reset: false (12 R321) -/
  stuckTold : Bool := false
  /-- operating time since which SI14 and SI15 are equal; reset: none (12 R321) -/
  equalAt : Option Nat := none
  /-- a discrepancy blocks presses until the released state has held for 1 s, since this time; reset: false (12 R321) -/
  resetBlocked : Bool := false
  releasedAt : Option Nat := none
  /-- the parameterisation session; reset: none (12 R324) -/
  session : Option SafSession := none
  /-- pending set of Wick A and of Wick B: index and value; reset: empty (12 R325) -/
  pendA : List (Nat × Int) := []
  pendB : List (Nat × Int) := []
  /-- durable inactive copies, none where both copies hold the active set; reset: none (12 R327, R328) -/
  inactiveA : Option (List (Nat × Int)) := none
  inactiveB : Option (List (Nat × Int)) := none
  /-- tag of the SAF_CONFIRM that waits for the common cycle; reset: none (12 R327) -/
  confirm : Option Nat := none
  deriving DecidableEq, Repr

/-! ### Caldera (10_caldera_control_engine.md) -/

/-- One biquad's states s1 and s2, Q1.31 (10 R248). -/
structure Biquad where
  s1 : Int := 0
  s2 : Int := 0
  deriving DecidableEq, Repr

/-- One loop slot. Signals are Q1.31 as integers; in position slots set-point and measurement are µm (10 R239, R246). -/
structure CSlot where
  /-- input registers as the owner wrote them: set-point, measurement, feed-forward, in their units; reset: DESIGN
  CHOICE 0 (log 1) (10 R242) -/
  wIn : Int := 0
  yIn : Int := 0
  fIn : Int := 0
  /-- the inputs latched at the period start; reset: DESIGN CHOICE 0 (log 1) (10 R242) -/
  wLat : Int := 0
  yLat : Int := 0
  fLat : Int := 0
  /-- the owner asks for the slot to be enabled; reset: false (10 R241) -/
  want : Bool := false
  /-- STATUS [0] ENABLED; reset: 0 (10 Table CLE-11) -/
  on : Bool := false
  /-- STATUS [1] RAMPING; reset: 0 (10 Table CLE-11) -/
  ramping : Bool := false
  /-- STATUS [2] LOSING; reset: 0 (10 Table CLE-11) -/
  losing : Bool := false
  /-- sign of the output node's saturation in the last sample, 0 none (STATUS [3]); reset: 0 (10 R247) -/
  satSign : Int := 0
  /-- nodes that saturated in the last sample, by bit, and in the one before; reset: 0 (10 R247, R255) -/
  sat : Nat := 0
  satBefore : Nat := 0
  /-- SnSATFL; reset: 0 (10 Table CLE-11) -/
  satfl : Nat := 0
  /-- STATUS [4] PM_FAULT; reset: 0 (10 R258) -/
  pmFault : Bool := false
  /-- STATUS [5] SLOT_FAULT; reset: 0 (10 R245) -/
  fault : Bool := false
  /-- the slot has been disabled for a sample since its fault; reset: false (10 R245) -/
  restable : Bool := false
  /-- STATUS [7] DEADLINE; reset: 0 (10 R245) -/
  deadline : Bool := false
  /-- consecutive deadline faults; reset: 0 (10 R245) -/
  late : Nat := 0
  /-- 0 written, 1 the period has begun, 2 its sample is computed; reset: 0, DESIGN CHOICE (log 1) (10 R245) -/
  stage : Nat := 0
  /-- ramped set-point, measurement, error, P, I, D, V; reset: 0 (10 Table CLE-5) -/
  w : Int := 0
  y : Int := 0
  e : Int := 0
  p : Int := 0
  i : Int := 0
  d : Int := 0
  v : Int := 0
  /-- outputs of biquads 0–5; reset: 0 (10 Table CLE-5) -/
  z : List Int := List.replicate 6 0
  /-- repetitive correction, computed output, feed-forward term, prediction, filtered residual; reset: 0 (10 Table CLE-5) -/
  r : Int := 0
  u : Int := 0
  f : Int := 0
  yp : Int := 0
  rf : Int := 0
  /-- previous derivative input: Q1.31, or µm of −y in a position slot with DMEAS; reset: 0 (10 R241) -/
  x1 : Int := 0
  /-- biquad states; reset: 0 (10 R241) -/
  bq : List Biquad := List.replicate 6 {}
  /-- the written output; reset: 0 (10 R241) -/
  out : Int := 0
  /-- the output applied last; reset: 0 (10 R248) -/
  a : Int := 0
  /-- monitor history ym[k−1], ym[k−2], a[k−2] and measurement y[k−1] in µm; reset: 0 (10 R257) -/
  ym1 : Int := 0
  ym2 : Int := 0
  a2 : Int := 0
  y1 : Int := 0
  /-- samples since the enabling one; reset: 0 (10 R257) -/
  age : Nat := 0
  /-- nodes 0–18 as of the last write; reset: 0 (10 R241, R261) -/
  nodes : List Int := List.replicate 19 0
  /-- consecutive samples above and at or below the threshold; reset: 0 (10 R258) -/
  pmBad : Nat := 0
  pmGood : Nat := 0
  deriving DecidableEq, Repr

/-- The RO values of a slot as latched at the last 2 kHz period start (10 R264). -/
structure CSeen where
  out : Int := 0
  meas : Int := 0
  stat : Nat := 0
  res : Int := 0
  satfl : Nat := 0
  dl : Int := 0
  deriving DecidableEq, Repr

/-- A repetitive unit (10 R254–R256). Its bins are the active body of table 0x0400 + u. -/
structure RUnit where
  /-- last bin and direction of the last change; reset: 0, DESIGN CHOICE (log 1) -/
  bin : Nat := 0
  dir : Int := 1
  /-- samples since the bin changed; reset: 0, DESIGN CHOICE (log 1) -/
  same : Nat := 0
  /-- learned since the last write-back; reset: false -/
  learned : Bool := false
  /-- operating time of the last write-back; reset: 0, DESIGN CHOICE (log 1) -/
  savedAt : Nat := 0
  /-- RCuSTAT and RCuUPD; reset: 0 (10 Table CLE-12) -/
  stat : Nat := 0
  upd : Nat := 0
  /-- RCuSTAT, RCuUPD and RCuRMS as latched at the last 2 kHz period start; reset: 0 (10 R264) -/
  seenStat : Nat := 0
  seenUpd : Nat := 0
  seenRms : Nat := 0
  deriving DecidableEq, Repr

/-- A trace buffer (10 R261–R263). Its configuration is in the parameters TRb. -/
structure Trace where
  /-- TRbSTAT; reset: 0 (10 Table CLE-13) -/
  st : Nat := 0
  /-- samples, oldest first, four values each -/
  buf : List (List Int) := []
  /-- the clock slot has been written and the buffer has not sampled yet; reset: false, DESIGN CHOICE (log 1) -/
  due : Bool := false
  /-- clock-slot samples to skip before the next one is taken -/
  skip : Nat := 0
  /-- previous sample's value and saturation flag of the trigger node, none before the first -/
  prev : Option (Int × Bool) := none
  /-- samples still to capture after the trigger -/
  left : Nat := 0
  /-- TRbTIME, ring time of the trigger sample; reset: 0 (10 Table CLE-13) -/
  time : Nat := 0
  deriving DecidableEq, Repr

/-- The closed-loop engine. -/
structure Cle where
  /-- slots 0–15; reset: disabled (10 R241) -/
  slots : List CSlot := List.replicate 16 {}
  /-- RO values latched at the last 2 kHz period start; reset: 0 (10 R264) -/
  seen : List CSeen := List.replicate 16 {}
  /-- winners of G0, G1, G2 at their last writes, 15 none; reset: 0xF each (10 Table CLE-14) -/
  winners : List Nat := [15, 15, 15]
  /-- values of G0, G1, G2 at their last writes, Q1.31 of the head's FSOUT; reset: 0 (10 R251) -/
  group : List Int := [0, 0, 0]
  /-- the group's write of this 2 kHz period is still to come; reset: false, DESIGN CHOICE (log 1) (10 R251) -/
  gdue : List Bool := [false, false, false]
  /-- repetitive units 0–3 -/
  units : List RUnit := List.replicate 4 {}
  /-- trace buffers 0–3 -/
  traces : List Trace := List.replicate 4 {}
  /-- the phase currents' converters as sampled at phase 0, DR0 then DR1, U then V, µV; reset: DESIGN CHOICE 0 (log 1)
  (10 R242) -/
  shunts : List Int := [0, 0, 0, 0]
  deriving DecidableEq, Repr

/-! ### Field channels (13_field_channels.md) -/

/-- A filtered edge waiting for its delivery: ring time of its first qualifying sample, and its direction (13 R337). -/
structure FEdge where
  at_ : Nat
  rising : Bool
  deriving DecidableEq, Repr

/-- One field channel. Its mode, filter and policy are in the parameters FIO.CnCFG and FIO.CnFILT. -/
structure FCh where
  /-- STATE; reset: 0 (13 Table FIO-6) -/
  state : Bool := false
  /-- RAW, after INVERT; reset: 0 (13 Table FIO-6) -/
  raw : Bool := false
  /-- the next sample presets STATE; reset: true (13 R333, R348) -/
  preset : Bool := true
  /-- edges since the last hardware tick, at most 8; reset: none (13 R337) -/
  edges : List FEdge := []
  /-- edges of this tick beyond the eighth; reset: 0 (13 R337) -/
  extra : Nat := 0
  /-- OVERRUN; reset: 0 (13 R337) -/
  overrun : Bool := false
  /-- CMD; reset: 0 (13 Table FIO-6) -/
  cmd : Bool := false
  /-- operating time of the last commanded change; reset: DESIGN CHOICE 0 (log 1) (13 R340) -/
  cmdAt : Nat := 0
  /-- ON; reset: 0 (13 Table FIO-6) -/
  on : Bool := false
  /-- operating time since which it is on; reset: 0 (13 R343) -/
  onAt : Nat := 0
  /-- node against the Type 1 threshold at the last readback, and current in mA; reset: 0 (13 R340) -/
  node : Bool := false
  cur : Nat := 0
  /-- consecutive readings high while commanded off; reset: 0 (13 R340, R341) -/
  high : Nat := 0
  /-- suspect of the backfeed probe; reset: false (13 R341) -/
  suspect : Bool := false
  /-- consecutive ms it reads low while commanded off; reset: 0 (13 R341) -/
  low : Nat := 0
  /-- EXT_DRIVE, BACKFEED, LIMITING, THERMAL, LATCHED, SHED; reset: 0 (13 Table FIO-6) -/
  extDrive : Bool := false
  backfeed : Bool := false
  limiting : Bool := false
  thermal : Bool := false
  latched : Bool := false
  shed : Bool := false
  /-- consecutive ms of current limit; reset: 0 (13 R343) -/
  limMs : Nat := 0
  /-- FIO_LIMITING has been recorded in this episode; reset: false (13 R343) -/
  limTold : Bool := false
  /-- retry count; reset: 0 (13 R343) -/
  retries : Nat := 0
  /-- operating time of the last shutdown; reset: none (13 R343) -/
  shutAt : Option Nat := none
  deriving DecidableEq, Repr

/-- The field channels. -/
structure Fio where
  /-- channels 0–47 -/
  ch : List FCh := List.replicate 48 {}
  /-- the field-output word last received, forces substituted, 48 bits; reset: 0 (13 R333, R339) -/
  word : Nat := 0
  /-- outputs held off by a sag or temperature trip; reset: false (13 R347) -/
  held : Bool := false
  /-- outputs held off by Geyser's state (Table GYS-8); reset: false (13 R347) -/
  gysOff : Bool := false
  /-- image of the last hardware tick, and its diagnostic bits [52:0]; reset: 0 (13 R338) -/
  image : Nat := 0
  diag : Nat := 0
  /-- channels the running probe has still to take, none when no probe runs; reset: none (13 R342) -/
  probe : Option (List Nat) := none
  /-- the probe's pulse of this tick is still to come; reset: false, DESIGN CHOICE (log 1) (13 R342) -/
  probeDue : Bool := false
  /-- FIO.AGGCURR, mA; reset: 0 (13 R340) -/
  agg : Nat := 0
  /-- AGG_HIGH; reset: false (13 R345) -/
  aggHigh : Bool := false
  /-- consecutive ms above 6.0 A and above 8.0 A; reset: 0 (13 R345) -/
  aggMs : Nat := 0
  shedMs : Nat := 0
  deriving DecidableEq, Repr

/-! ### CAN FD controllers (14_can_fd_controllers.md) -/

/-- A message object. Its role, station and settings are in the station configuration, table 0x0500 + b (14 R353, R367). -/
structure CanObj where
  /-- send: the frame that waits for arbitration; reset: none (14 R355) -/
  pend : Option (List Byte) := none
  /-- send: the frame that has won arbitration and is on the bus; reset: none (14 R355) -/
  bus : Option (List Byte) := none
  /-- send: the frame that is queued when the one on the bus ends; reset: none (14 R355) -/
  next : Option (List Byte) := none
  /-- send: a cancel came after arbitration was won, so a failure is not retried; reset: false (14 R357) -/
  noRetry : Bool := false
  /-- send: failed attempts of the present or last frame; reset: 0 (14 R356) -/
  fails : Nat := 0
  /-- send: some failed attempt of the frame ended in an error other than acknowledgement; reset: false (14 R356) -/
  other : Bool := false
  /-- send: last status, Table HOST-9; reset: DESIGN CHOICE 0 (log 1) (14 R356) -/
  status : Nat := 0
  /-- send: the bytes last queued; reset: none (14 R355) -/
  last : Option (List Byte) := none
  /-- send: operating time of the last successful frame; reset: DESIGN CHOICE 0 (log 1) (14 R355) -/
  sentAt : Nat := 0
  /-- send: the next output phase queues a frame whatever its bytes; reset: false (14 R355) -/
  force : Bool := false
  /-- receive: the complete buffer; reset: none (14 R354) -/
  full : Option (List Byte) := none
  /-- receive: the fill buffer, a frame completed while the input phase copies; reset: none (14 R354) -/
  fill : Option (List Byte) := none
  /-- receive: operating time at which the complete image, and the one in the fill buffer, ended; reset: 0 (14 Table CAN-6) -/
  fullAt : Nat := 0
  fillAt : Nat := 0
  /-- receive: the complete image ended while the station was not LOST; reset: false (14 R365) -/
  fresh : Bool := false
  deriving DecidableEq, Repr

/-- One station as the supervisor sees it (14 R364–R366). -/
structure CanStn where
  /-- LOST; reset: true, every present station starts LOST (14 R369) -/
  lost : Bool := true
  /-- returned, and no image completed since has been copied; reset: false (14 R365) -/
  back : Bool := false
  /-- operating time of the last valid heartbeat; reset: DESIGN CHOICE 0 (log 1) (14 R364) -/
  hbAt : Nat := 0
  /-- payloads of the last emergency frame and the last valid heartbeat; reset: DESIGN CHOICE 0 (log 1) (14 Table CAN-6) -/
  emerg : List Byte := []
  hb : List Byte := []
  /-- image frames received, u32, and emergency counter, u8; reset: DESIGN CHOICE 0 (log 1) (14 Table CAN-6) -/
  imgs : Nat := 0
  emergs : Nat := 0
  deriving DecidableEq, Repr

/-- One controller with its station supervisor. -/
structure Can where
  /-- CANb.STATE: 0 OFF, 1 ERROR_ACTIVE, 2 ERROR_PASSIVE, 3 BUS_OFF; reset: 0 (14 Table CAN-9) -/
  st : Nat := 0
  /-- ALONE; reset: false (14 R360) -/
  alone : Bool := false
  /-- transceiver standby; reset: false (14 R370) -/
  standby : Bool := false
  /-- CANb.TEC and CANb.REC; reset: 0 (14 Table CAN-9) -/
  tec : Nat := 0
  rec_ : Nat := 0
  /-- consecutive acknowledgement errors; reset: 0 (14 R360) -/
  ackRun : Nat := 0
  /-- CANb.TDCVAL; reset: 0 (14 R352) -/
  tdc : Nat := 0
  /-- operating time of the last entry to bus-off; reset: DESIGN CHOICE 0 (log 1) (14 R359) -/
  boffAt : Nat := 0
  /-- counter of the controller heartbeat, and operating time of the last one; reset: DESIGN CHOICE 0 and none (log 1) (14 R362) -/
  hbNo : Nat := 0
  hbAt : Option Nat := none
  /-- stations 0–63 -/
  stns : List CanStn := List.replicate 64 {}
  /-- message objects 0–127 -/
  objs : List CanObj := List.replicate 128 {}
  deriving DecidableEq, Repr

/-! ### Door operators (11_door_operators.md) -/

/-- Door states of Table DR-1 (11 R274). -/
inductive DSt where
  | disabled | unreferenced | closed | opening | open_ | closing | nudging | reversing | holding | stopped | advance
  | learning | fault
  deriving DecidableEq, Repr

/-- The DRn.STATE code (Table DR-1). -/
def DSt.code : DSt → Nat
  | .disabled => 0 | .unreferenced => 1 | .closed => 2 | .opening => 3 | .open_ => 4 | .closing => 5 | .nudging => 6
  | .reversing => 7 | .holding => 8 | .stopped => 9 | .advance => 10 | .learning => 11 | .fault => 12

/-- Where a door command comes from (11 R275, R279). -/
inductive DSrc where
  | host (tag : Nat)
  | geyser (seq : Nat)
  | group
  | own
  deriving DecidableEq, Repr

/-- A door command that waits for the sequencer tick (11 R275, R278). -/
structure DCmd where
  code : Nat
  landing : Nat
  src : DSrc
  deriving DecidableEq, Repr

/-- A train-arrival window handed over by Beacon: landing and ring times of its start and end, µs (11 R292). -/
structure DWin where
  landing : Nat
  lo : Nat
  hi : Nat
  deriving DecidableEq, Repr

/-- The measurements of one pass: sum and number of samples per profile point (11 R282, R284). -/
structure DPoint where
  sum : Int := 0
  n : Nat := 0
  deriving DecidableEq, Repr

/-- The door learning cycle (11 Table DR-4). -/
structure DLearn where
  /-- step 1–4, 0 none -/
  step : Nat := 0
  /-- operating time at which step 1 began -/
  at_ : Nat := 0
  /-- F_motor (0.1 N), acceleration (µm/s²) and position (µm) of each sample of step 3 and of step 4, newest first -/
  up : List (Int × Int × Int) := []
  down : List (Int × Int × Int) := []
  /-- DRn.VLEARN has been reached -/
  reached : Bool := false
  /-- Hall code at the aligned angle, open-switch edge, travel, mass in 0.1 kg -/
  code : Nat := 0
  edge : Int := 0
  travel : Int := 0
  mass : Int := 0
  /-- sequencer ticks below 5 mm/s at the open stop -/
  slow : Nat := 0
  deriving DecidableEq, Repr

/-- One door operator. -/
structure Door where
  /-- DRn.STATE; reset: DISABLED, no DRn.CFG ENABLE in a new module (11 R274, R298) -/
  st : DSt := .disabled
  /-- gates on; reset: off (11 R274) -/
  gates : Bool := false
  /-- enabled, the sense offsets still to be measured; reset: false (11 R268) -/
  measuring : Bool := false
  /-- last valid Hall code, 0 before the first; consecutive codes of 0 or 7; reset: DESIGN CHOICE 0 (log 1) (11 R270) -/
  hall : Nat := 0
  hallBad : Nat := 0
  /-- 32 kHz reads since the last Hall edge, reads of the sector before, direction of the last edge; reset: DESIGN
  CHOICE 0, 0, 1 (log 1) (11 R270) -/
  hallAge : Nat := 0
  hallSpan : Nat := 0
  hallDir : Int := 1
  /-- unwrapped rotor angle θ, 1/65,536 electrical revolution, and θ_0; reset: DESIGN CHOICE 0 (log 1) (11 R272) -/
  theta : Int := 0
  theta0 : Int := 0
  /-- sensorless start: samples of alignment and open loop, and samples in agreement; reset: 0 (11 R271) -/
  slStart : Nat := 0
  slAgree : Nat := 0
  /-- the observer's angle is in use; reset: false (11 R271) -/
  slUse : Bool := false
  /-- DRn.REFSTAT; reset: 0 (11 Table DR-8) -/
  ref : Nat := 0
  /-- door position x, µm, and at the last 8 kHz period; reset: DESIGN CHOICE 0 (log 1) (11 R272) -/
  x : Int := 0
  x8 : Int := 0
  /-- door speed, µm/s, and at the last 2 kHz period; reset: DESIGN CHOICE 0 (log 1) (11 R272, R280) -/
  v : Int := 0
  vPrev : Int := 0
  /-- door positions of the last 64 ms with ring time, newest first, 2,048 places; reset: empty (11 R273) -/
  hist : List (Nat × Int) := []
  /-- phase currents U and V of the last sample, mA; reset: DESIGN CHOICE 0 (log 1) (11 R267) -/
  iu : Int := 0
  iv : Int := 0
  /-- sum and number of i_q samples of the present 2 kHz period; reset: 0 (11 R280) -/
  iqSum : Int := 0
  iqN : Nat := 0
  /-- consecutive samples above DRn.IMAX of U, V, W; reset: 0 (11 R269) -/
  overs : List Nat := [0, 0, 0]
  /-- compare values of U, V, W as duties in 1/65,536; reset: DESIGN CHOICE 0 (log 1) (11 R265) -/
  duty : List Int := [0, 0, 0]
  /-- F̂ in 0.1 N, E in mJ, mean ī_q in mA of the last 2 kHz period, acceleration in µm/s²; reset: 0 (11 Table DR-8) -/
  force : Int := 0
  energy : Int := 0
  iqMean : Int := 0
  acc : Int := 0
  /-- DRn.LANDING; reset: 0xFF (11 Table DR-8) -/
  landing : Nat := 0xFF
  /-- a sequence moves or brakes the door; reset: false (11 R281) -/
  moving : Bool := false
  /-- position reference in 1/1,000 µm, its speed µm/s; reset: DESIGN CHOICE 0 (log 1) (11 R281) -/
  rpos : Int := 0
  rvel : Int := 0
  /-- where the sequence goes, µm; its limits of speed and acceleration; force and energy set-points; reset: DESIGN
  CHOICE 0 (log 1) (11 Table DR-3) -/
  goal : Int := 0
  limV : Int := 0
  limA : Int := 0
  limF : Int := 0
  limE : Int := 0
  /-- the reference brakes to rest before it turns or holds; reset: false (11 R288, R289) -/
  braking : Bool := false
  /-- what follows a braking: 0 hold, 1 gates off, 2 open, 3 close, 4 nudge; reset: 0 (11 Table DR-2) -/
  after : Nat := 0
  /-- direction of G0 (G1): 1, −1 or 0; reset: 0 (10 Table CLE-6) -/
  dir : Int := 0
  /-- door sequence version; reset: DESIGN CHOICE 0 (log 1) (07 R146) -/
  ver : Nat := 0
  /-- cam selection version; reset: DESIGN CHOICE 0 (log 1) (07 R146) -/
  camVer : Nat := 0
  /-- commands waiting for the sequencer tick, oldest first; reset: none (11 R278) -/
  cmds : List DCmd := []
  /-- an OPEN handed over by HST's arrival flags waits for the parked car, by landing; reset: none (11 R279) -/
  arrival : Option Nat := none
  /-- consecutive ticks with the door below 5 mm/s and an end condition: closed, open; reset: 0 (11 R274) -/
  restC : Nat := 0
  restO : Nat := 0
  /-- operating time at which the door came to rest in its end state; reset: DESIGN CHOICE 0 (log 1) (11 R291) -/
  restAt : Nat := 0
  /-- the hold demand is down to DRn.IHOLD; reset: false (11 R291) -/
  held : Bool := false
  /-- a boost window runs; reset: false (11 R292) -/
  boosting : Bool := false
  /-- train-arrival windows; reset: none (11 R292) -/
  windows : List DWin := []
  /-- DRn.REOPENS; reset: 0 (11 Table DR-8) -/
  reopens : Nat := 0
  /-- a nudging has reversed since the door was last CLOSED; reset: false (11 R290) -/
  renudge : Bool := false
  /-- consecutive 2 kHz samples with F̂ above DRn.OBSF; reset: 0 (11 R287) -/
  obs : Nat := 0
  /-- an obstruction qualified and not yet acted on: 0 force residual, 1 speed monitor, 2 light curtain; reset: none
  (11 R287, R288) -/
  obstructed : Option Nat := none
  /-- the present sequence runs in an unlearned direction; reset: false (11 R283) -/
  unlearned : Bool := false
  /-- the present pass may be learned: complete from an end state, unobstructed, curtain never active, no force win
  beyond DRn.OBSZONE, no drift; reset: false (11 R284) -/
  counts : Bool := false
  /-- sums of F_motor − m·â by profile point of the present pass, 128; reset: 0 (11 R282) -/
  points : List DPoint := List.replicate 128 {}
  /-- sums of F_motor over acceleration and cruise of the present opening; reset: 0 (11 R283) -/
  accP : DPoint := {}
  cruP : DPoint := {}
  /-- the profile has learned since its last write-back; reset: false (11 R285) -/
  learned : Bool := false
  /-- the learning cycle; reset: none (11 R286) -/
  learn : DLearn := {}
  /-- cam in use in ADVANCE; reset: DESIGN CHOICE 0xFF (log 1) (11 R294) -/
  cam : Nat := 0xFF
  /-- a lost SOD waits for the parked car to resume with OPEN, by landing; reset: none (11 R295) -/
  resume : Option Nat := none
  /-- a drive fault found and not yet acted on, by code; reset: none (11 R296) -/
  pendFault : Option Nat := none
  /-- winding temperature, 0.1 °C; reset: DESIGN CHOICE 0 (log 1) (11 Table DR-8) -/
  twind : Int := 0
  /-- operating time since which it is above DRn.TTRIP, and at which WINDING_TEMP was detected; reset: none (11 R296) -/
  hotSince : Option Nat := none
  hotAt : Option Nat := none
  /-- DOOR_TEMP_WARN has been recorded in this episode; reset: false (11 R296) -/
  warned : Bool := false
  /-- operating time and position from which a moving sequence has travelled less than 1 mm; reset: none (11 R296) -/
  stallAt : Option (Nat × Int) := none
  /-- delivered edges not yet taken, oldest first: 0 closed switch, 1 open switch; reset: none (11 R273) -/
  edges : List (Nat × FEdge) := []
  /-- the door has reached OPEN since it was last CLOSED, for DRn.CYCLES; reset: false (11 Table DR-8) -/
  wasOpen : Bool := false
  deriving DecidableEq, Repr

/-! ### Shared hoistway (16_shared_hoistway.md) -/

/-- A group message on its way over a neighbour link, sent in fragments of 44 bytes (16 R410). -/
structure NlMsg where
  number : Nat
  bytes : List Byte
  /-- fragment sent next -/
  frag : Nat := 0
  /-- operating time of the last fragment's sending, ms -/
  sentAt : Nat := 0
  /-- ring time at which the hold of its group expires, µs -/
  expires : Nat := 0
  deriving DecidableEq, Repr

/-- One neighbour link and the neighbour's latest good frame (16 Table SHF-1). -/
structure NlSide where
  /-- sequence of the last frame sent; reset: DESIGN CHOICE 0 (log 1) -/
  seqOut : Nat := 0
  /-- sequence of the last good frame; reset: none -/
  lastSeq : Option Nat := none
  /-- the link is good for SHF; reset: DESIGN CHOICE false (log 1) -/
  good : Bool := false
  /-- the device itself receives good frames: LINK_GOOD of its own frames; reset: false -/
  receiving : Bool := false
  /-- consecutive good frames with LINK_GOOD since the loss; reset: 0 -/
  goodN : Nat := 0
  /-- SHF_LINK_LOST has been recorded and not ended; reset: false -/
  lost : Bool := false
  /-- the link has been good since START; reset: false -/
  wasGood : Bool := false
  /-- SHF_NL_MISWIRED has been recorded in this episode; reset: false -/
  miswired : Bool := false
  /-- flags, position, speed, U_n, L_n, zone and zone version of the latest good frame; reset: DESIGN CHOICE 0 (log 1) -/
  flags : Nat := 0
  pos : Int := 0
  speed : Int := 0
  un : Int := 0
  ln : Int := 0
  zlo : Int := 0
  zhi : Int := 0
  zver : Nat := 0
  /-- the side is verified; reset: false -/
  verified : Bool := false
  /-- consecutive frames with ENTERING_DORMANT; reset: 0 -/
  entering : Nat := 0
  /-- HANDOVER_SEEN set toward this neighbour; reset: false -/
  handSeen : Bool := false
  /-- the neighbour is DORMANT; reset: false -/
  dormant : Bool := false
  /-- extents of the own safety sections as last sent on this link: the own U upward, L downward; reset: DESIGN CHOICE
  0 (log 1) -/
  safSent : Int := 0
  /-- bytes 0–127 of the last frame sent; reset: DESIGN CHOICE empty (log 1) -/
  frame : List Byte := []
  /-- message in flight; reset: none -/
  msg : Option NlMsg := none
  /-- number of the last message sent; reset: 0 -/
  msgNo : Nat := 0
  /-- number and fragments received so far of the message coming in; reset: none -/
  inNo : Nat := 0
  inFrags : List (Nat × List Byte) := []
  /-- acknowledgement byte: number of the last message received complete; reset: 0 -/
  ack : Nat := 0
  /-- SHF_TIER1 holds toward this side; reset: false -/
  tier1 : Bool := false
  /-- sill bound in force toward this side; reset: DESIGN CHOICE 0 (log 1) -/
  bound : Int := 0
  deriving DecidableEq, Repr

/-- A zone request that waits for its repetition or its group (16 R417, R418). -/
structure ZoneReq where
  /-- toward the car above -/
  up : Bool
  /-- the target that started it -/
  target : Tgt
  /-- the own new edge, body extent -/
  edge : Int
  /-- its group while one is open -/
  group : Option Nat := none
  /-- operating time of the last request -/
  at_ : Nat := 0
  /-- its group has committed: the plan may be extended -/
  done : Bool := false
  deriving DecidableEq, Repr

/-- The shared-hoistway function. -/
structure Shf where
  /-- link to the car above and to the car below (16 R406–R410) -/
  up : NlSide := {}
  dn : NlSide := {}
  /-- the own normal extents of the last tick; reset: DESIGN CHOICE 0 (log 1) (16 R411) -/
  un : Int := 0
  ln : Int := 0
  /-- a tier 2 stop is in progress; reset: false (16 R414) -/
  tier2 : Bool := false
  /-- a link-loss stop is in progress; reset: false (16 R421) -/
  lossStop : Bool := false
  /-- the configuration check failed; reset: false (16 R427) -/
  config : Bool := false
  /-- ENTERING_DORMANT is set, since this operating time; reset: none (16 R423) -/
  handover : Option Nat := none
  /-- the zone request; reset: none (16 R417) -/
  request : Option ZoneReq := none
  deriving DecidableEq, Repr

/-! ### Peer ring (15_peer_ring_and_beacon_dispatch.md) -/

/-- A ring frame (15 Table RNG-3). -/
structure RFrame where
  /-- class, Table RNG-4 -/
  cls : Nat
  src : Nat
  /-- destination kind: 0 unicast, 1 group, 2 domain, 3 link-local or ring control -/
  kind : Nat
  dest : Nat
  hops : Nat := 0
  seq : Nat := 0
  /-- ring time at sending, bits [31:0], µs -/
  time : Nat := 0
  body : List Byte := []
  tag : Nat := 0
  /-- port it arrived at or is sent from: 0 A, 1 B, 2 both -/
  port : Nat := 2
  /-- ring time of its arrival, ns -/
  at_ : Nat := 0
  /-- ended early with a stomped FCS (15 R377) -/
  stomped : Bool := false
  deriving DecidableEq, Repr

/-- One ring port. -/
structure RPort where
  /-- link; reset: false, no link (15 Table RNG-11) -/
  link : Bool := false
  /-- 0 FORWARDING, 1 BLOCKING, 2 CONTROL_ONLY; reset: DESIGN CHOICE 2 (log 1) (15 R381) -/
  mode : Nat := 2
  /-- amplitude in use: 0 no link, 1 2.4 V, 2 1.0 V; reset: 0 (15 Table RNG-11) -/
  amp : Nat := 0
  /-- operating time at which its CONTROL_ONLY began; reset: DESIGN CHOICE 0 (log 1) (15 R381) -/
  upAt : Nat := 0
  /-- link delay, ns; reset: 0 (15 Table RNG-11) -/
  delay : Nat := 0
  /-- t₁ of the delay request sent last, ns, and operating time of its sending; reset: none (15 R383) -/
  t1 : Option Nat := none
  reqAt : Nat := 0
  deriving DecidableEq, Repr

/-- A peer as its last summary shows it (15 R388). -/
structure Peer where
  addr : Nat
  /-- operating time of its last summary -/
  heard : Nat
  hops : Nat
  /-- the summary body, 36 bytes -/
  body : List Byte
  /-- counted as lost -/
  lost : Bool := false
  deriving DecidableEq, Repr

/-- A frame taken in the last 2 s, for the second check of R375. -/
structure Taken where
  src : Nat
  cls : Nat
  seq : Nat
  at_ : Nat
  deriving DecidableEq, Repr

/-- The peer ring. -/
structure Rng where
  /-- ring time, µs, u64; reset: DESIGN CHOICE 0 (log 1) (15 R383) -/
  time : Nat := 0
  /-- its fraction, ns, 0–999; reset: DESIGN CHOICE 0 (log 1) (15 R383) -/
  ns : Nat := 0
  /-- correction still to be slewed in, ns; reset: 0 (15 R384) -/
  slew : Int := 0
  /-- TIME_VALID; reset: DESIGN CHOICE false (log 1) (15 R384) -/
  valid : Bool := false
  /-- operating time of the last applied sync within 20 µs; reset: DESIGN CHOICE 0 (log 1) (15 R384) -/
  goodAt : Nat := 0
  /-- ever synchronised since START; reset: false (15 R384) -/
  synced : Bool := false
  /-- operating time of the last sync heard, of the last sync sent; reset: DESIGN CHOICE 0 (log 1) (15 R383) -/
  syncHeard : Nat := 0
  syncSent : Nat := 0
  /-- RNG.TOFFS, ns; reset: 0 (15 Table RNG-11) -/
  toffs : Int := 0
  /-- time master: itself, and RNG.TMASTER; reset: false, none (15 R383) -/
  isMaster : Bool := false
  master : Option Nat := none
  /-- ring time last written to MRAM and the operating time of the writing; reset: 0 (15 R384) -/
  stored : Nat := 0
  storedAt : Nat := 0
  /-- the ports are enabled; reset: false, high impedance (15 R382) -/
  enabled : Bool := false
  /-- ports A and B -/
  a : RPort := {}
  b : RPort := {}
  /-- ring manager: itself, and RNG.MANAGER; reset: false, none (15 R381) -/
  isMgr : Bool := false
  manager : Option Nat := none
  /-- operating time of the last ring-control frame of a manager, of one from a lower candidate; reset: DESIGN CHOICE 0
  (log 1) (15 R381) -/
  mgrHeard : Nat := 0
  lowerHeard : Nat := 0
  /-- number of the last TEST frame sent, operating time of its sending, and number of the last one returned; reset: DESIGN
  CHOICE 0 (log 1) (15 R381) -/
  testNo : Nat := 0
  testAt : Nat := 0
  testBack : Nat := 0
  /-- the ring has been recorded as closed and not broken since; reset: false (15 R381) -/
  closed : Bool := false
  /-- DUPLICATE; reset: false (15 R387) -/
  dup : Bool := false
  /-- sequence number of the last own frame, u32; reset: DESIGN CHOICE 0 (log 1) (15 Table RNG-3) -/
  seq : Nat := 0
  /-- own frames handed to the ports and not yet on the wire, oldest first; reset: none (15 R379) -/
  out : List RFrame := []
  /-- the forwarded copy sent last; reset: none (15 R377) -/
  fwd : Option RFrame := none
  /-- frames taken and not yet consumed, oldest first; reset: none (15 R377) -/
  inq : List RFrame := []
  /-- source, class and sequence of the frames taken in the last 2 s; reset: none (15 R375) -/
  taken : List Taken := []
  /-- peers by rising address; reset: none (15 R388) -/
  peers : List Peer := []
  /-- operating time of the last own summary; reset: DESIGN CHOICE 0 (log 1) (15 R388) -/
  sumAt : Option Nat := none
  /-- ring time of the last SYNCOUT pulse; reset: DESIGN CHOICE 0 (log 1) (15 R385) -/
  syncOut : Nat := 0
  /-- RNG.SYNCCAP; reset: 0 (15 R385) -/
  syncCap : Nat := 0
  deriving DecidableEq, Repr

/-! ### Beacon dispatch (15_peer_ring_and_beacon_dispatch.md) -/

/-- A bid of the running auction (15 R392). -/
structure Bid where
  addr : Nat
  cost : Nat
  ets : Nat
  deriving DecidableEq, Repr

/-- Where a registrar's call stands (15 R391–R398). -/
inductive CallPh where
  /-- known as holder only, or fixed with a holder -/
  | settled
  /-- the bid window is open -/
  | bidding
  /-- the allocation group is open -/
  | group (g : Nat)
  /-- a car has been woken: the auction is repeated after 1 s -/
  | retry
  /-- another registrar's auction for the same call goes on (15 R397) -/
  | merged
  deriving DecidableEq, Repr

/-- A call's allocation record (15 R391, R395, Table DSP-3). -/
structure Call where
  /-- registrar address and call number -/
  reg : Nat
  num : Nat
  /-- 0 up, 1 down, 2 destination, 3 pre-position -/
  kind : Nat
  landing : Nat
  dest : Nat := 0xFF
  /-- CALLREG slot and sequence number of the registration at the registrar -/
  slot : Option (Nat × Nat) := none
  /-- kind 3: flow direction 0 up, 1 down; notice sender and identifier -/
  flow : Nat := 0
  notice : Nat × Nat := (0, 0)
  /-- T_r, ring time, µs, and the bid window as it stood, ms -/
  tr : Nat := 0
  win : Nat := 50
  ph : CallPh := .settled
  bids : List Bid := []
  /-- the bid that the open group fixes -/
  best : Option Bid := none
  /-- operating time of the last WAKE -/
  retryAt : Nat := 0
  /-- the car the record names as holder -/
  holder : Option Nat := none
  /-- ETS of the winning bid, ms -/
  winEts : Nat := 0
  /-- version of the record (15 R395) -/
  ver : Nat := 0
  /-- kind 2: the origin is served and the destination is the further stop (15 R391) -/
  onward : Bool := false
  deriving DecidableEq, Repr

/-- A train notice (15 R399–R401). -/
structure Notice where
  src : Nat
  id : Nat
  landing : Nat
  /-- 0 up, 1 down -/
  flow : Nat
  /-- T_a, ring time, µs -/
  ta : Nat
  /-- expected passengers leaving the train -/
  pax : Nat
  /-- own load increases so far, kg -/
  kg : Nat := 0
  /-- passengers reported in BOARDED, 0.1, by sender -/
  boarded : List (Nat × Nat) := []
  /-- the car has acted at T_a − DSP.PREWIN; BOARDED has been sent; the ratio has been updated -/
  acted : Bool := false
  sent : Bool := false
  done : Bool := false
  deriving DecidableEq, Repr

/-- Beacon. -/
structure Dsp where
  /-- allocation records; reset: none (15 R391) -/
  calls : List Call := []
  /-- next call number; reset: DESIGN CHOICE 0 (log 1) (15 R391) -/
  num : Nat := 0
  /-- in local service under R402; reset: false (15 R402) -/
  loc : Bool := false
  /-- operating time at which the episode began, hall calls served in it; reset: DESIGN CHOICE 0 (log 1) (15 R403) -/
  locAt : Nat := 0
  locServed : Nat := 0
  /-- duration in s and served calls of the last episode, and summaries left that report REJOINED; reset: 0 (15 R403) -/
  epi : Nat × Nat := (0, 0)
  rejoin : Nat := 0
  /-- 32 lower addresses are in the group: the car serves locally; reset: false (15 R390) -/
  full : Bool := false
  /-- DSP.LASTCOST; reset: 0 (15 Table DSP-5) -/
  lastCost : Nat := 0
  /-- train notices; reset: none (15 R399) -/
  notices : List Notice := []
  /-- ratios that differ from `ratioBase`, by 24·landing + hour, in 10^−9; reset: none (15 R400) -/
  ratios : List (Nat × Nat) := []
  /-- what the other ratios are, 10^−9: DSP.RATIODEF as it stood; reset: 50,000,000 (15 R400) -/
  ratioBase : Nat := 50000000
  /-- the ratios in MRAM: list and base, and operating time of the writing; reset: none, 50,000,000, 0 (15 R400) -/
  ratiosKept : List (Nat × Nat) := []
  baseKept : Nat := 50000000
  keptAt : Nat := 0
  /-- car load at the door's opening, kg, while a door is open; reset: none (15 R400) -/
  openKg : Option Nat := none
  deriving DecidableEq, Repr

/-- The whole device, block by block (00 Table DOC-5), and the queue of the commands that wait, first in, first out. -/
structure State where
  /-- supply, clocks and device states -/
  pwr : Pwr := {}
  /-- management processor -/
  lmp : Lmp := {}
  /-- host ports and queues -/
  host : HostBlk := {}
  /-- parameters and tables -/
  dir : Dir := {}
  /-- commit groups -/
  grp : Grp := {}
  /-- Geyser -/
  gys : Gys := {}
  /-- hoist axis -/
  hst : Hst := {}
  /-- Caldera -/
  cle : Cle := {}
  /-- front door operator -/
  dr0 : Door := {}
  /-- rear door operator -/
  dr1 : Door := {}
  /-- safety channels -/
  saf : Saf := {}
  /-- field channels -/
  fio : Fio := {}
  /-- CAN0 -/
  can0 : Can := {}
  /-- CAN1 -/
  can1 : Can := {}
  /-- peer ring -/
  rng : Rng := {}
  /-- Beacon dispatch -/
  dsp : Dsp := {}
  /-- shared hoistway -/
  shf : Shf := {}
  /-- event recorder -/
  tph : Tph := {}
  /-- real-time clock -/
  rtc : Rtc := {}
  /-- identity, attestation and update -/
  sec : Sec := {}
  /-- the commands that wait, oldest first; reset: empty -/
  pending : List Instr := []
  deriving DecidableEq, Repr

/-- The device right after reset: a new module whose AON domain has just started (log 2). -/
def State.reset : State := {}

end Sys2Proof.Machine
end

