-- ==== Sys2Proof/Machine/ParamTable.lean ====
section
/-!
DEFINITION. The parameter directory's tables: every parameter index of spec/ with its type, access, persistence,
default and range (06_parameter_directory.md R117–R120; Tables DEV-10 to DEV-12, HOST-11, GRP-11, GYS, HST, CLE, DR,
SAF, FIO, CAN, RNG, DSP, SHF, TPH-9, RTC-3, SEC-11). A default the tables give as "—", "per image" or "per module" is 0 (log 1).
Levels: 0 READ, 1 OPERATE, 2 ENGINEER, 3 SERVICE (05 R91).
-/
namespace Sys2Proof.Machine

/-- Parameter types of Table DEV-2 (06 R118). -/
inductive PType where
  | bool | u8 | s8 | u16 | s16 | u32 | s32 | u48 | u64 | q131 | q427 | str16
  deriving DecidableEq, Repr

/-- Access forms of R119; `sw` is a safety-set entry, written only through safety parameterisation. -/
inductive Acc where
  | ro | rw (level : Nat) | wo (level : Nat) | roClr | sw
  deriving DecidableEq, Repr

/-- Persistence classes of Table DEV-3 (06 R120), the fixed values of R138 and the key region of 19 R484. -/
inductive Persist where
  | volatile | mram | cal | safe | fixed | key
  deriving DecidableEq, Repr

/-- One row of a parameter table. -/
structure PInfo where
  idx : Nat
  ty : PType
  acc : Acc
  per : Persist
  dflt : Int
  lo : Int
  hi : Int
  /-- values allowed besides `lo … hi` -/
  alts : List Int
  /-- defined bits of a bit field, 0 for none (R8, R10) -/
  mask : Nat
  deriving DecidableEq, Repr

/-- A row of a table below. -/
def row (idx : Nat) (ty : PType) (acc : Acc) (per : Persist) (dflt lo hi : Int) (alts : List Int) (mask : Nat) :
    PInfo := ⟨idx, ty, acc, per, dflt, lo, hi, alts, mask⟩

/-! ## Names of the indices -/
namespace Idx
/-- HOST.HnPRIV (05). -/
abbrev HOST_HnPRIV (n : Nat) : Nat := 0x0200 + n
/-- HOST.SPTRUST (05). -/
abbrev HOST_SPTRUST : Nat := 0x0208
/-- HOST.UBAUD (05). -/
abbrev HOST_UBAUD : Nat := 0x0209
/-- HOST.RINGIDLE (05). -/
abbrev HOST_RINGIDLE : Nat := 0x020A
/-- HOST.EVTHRESH (05). -/
abbrev HOST_EVTHRESH : Nat := 0x020B
/-- HOST.LOAD (05). -/
abbrev HOST_LOAD : Nat := 0x0210
/-- HOST.TAGSFREE (05). -/
abbrev HOST_TAGSFREE : Nat := 0x0211
/-- HOST.PORTERR (05). -/
abbrev HOST_PORTERR : Nat := 0x0212
/-- DEV.PARTNO (06). -/
abbrev DEV_PARTNO : Nat := 0x0000
/-- DEV.HWREV (06). -/
abbrev DEV_HWREV : Nat := 0x0001
/-- DEV.FWIF (06). -/
abbrev DEV_FWIF : Nat := 0x0002
/-- DEV.FWBUILD (06). -/
abbrev DEV_FWBUILD : Nat := 0x0003
/-- DEV.ORDER (06). -/
abbrev DEV_ORDER : Nat := 0x0004
/-- DEV.SERIAL (06). -/
abbrev DEV_SERIAL : Nat := 0x0005
/-- DEV.FWSLOT (06). -/
abbrev DEV_FWSLOT : Nat := 0x0006
/-- DEV.OPTIME (06). -/
abbrev DEV_OPTIME : Nat := 0x0008
/-- DEV.PWRCYC (06). -/
abbrev DEV_PWRCYC : Nat := 0x0009
/-- DEV.NAME (06). -/
abbrev DEV_NAME : Nat := 0x000A
/-- DEV.CFGCOUNT (06). -/
abbrev DEV_CFGCOUNT : Nat := 0x000C
/-- DEV.CALSTATE (06). -/
abbrev DEV_CALSTATE : Nat := 0x000D
/-- DEV.CALCRC (06). -/
abbrev DEV_CALCRC : Nat := 0x000E
/-- DEV.RESTORE (06). -/
abbrev DEV_RESTORE : Nat := 0x000F
/-- PWR.STATE (06). -/
abbrev PWR_STATE : Nat := 0x0100
/-- PWR.VIN (06). -/
abbrev PWR_VIN : Nat := 0x0101
/-- PWR.VCELL (06). -/
abbrev PWR_VCELL : Nat := 0x0102
/-- PWR.TDIE (06). -/
abbrev PWR_TDIE : Nat := 0x0103
/-- PWR.DMOVE (06). -/
abbrev PWR_DMOVE : Nat := 0x0104
/-- PWR.WAKEMASK (06). -/
abbrev PWR_WAKEMASK : Nat := 0x0105
/-- PWR.WAKEFIO (06). -/
abbrev PWR_WAKEFIO : Nat := 0x0106
/-- PWR.LASTAON (06). -/
abbrev PWR_LASTAON : Nat := 0x0107
/-- PWR.NRSTHELD (06). -/
abbrev PWR_NRSTHELD : Nat := 0x0108
/-- PWR.DMOVED (06). -/
abbrev PWR_DMOVED : Nat := 0x0109
/-- PWR.VINMIN (06). -/
abbrev PWR_VINMIN : Nat := 0x010A
/-- PWR.SAGCOUNT (06). -/
abbrev PWR_SAGCOUNT : Nat := 0x010B
/-- PWR.TDIEMAX (06). -/
abbrev PWR_TDIEMAX : Nat := 0x010C
/-- HOST.LOADPEAK (06). -/
abbrev HOST_LOADPEAK : Nat := 0x0213
/-- HOST.OVLCOUNT (06). -/
abbrev HOST_OVLCOUNT : Nat := 0x0214
/-- HOST.SESSMAP (06). -/
abbrev HOST_SESSMAP : Nat := 0x0215
/-- HOST.UNDELIV (06). -/
abbrev HOST_UNDELIV : Nat := 0x0216
/-- GRP.OPENTMO (07). -/
abbrev GRP_OPENTMO : Nat := 0x0300
/-- GRP.MAXACT (07). -/
abbrev GRP_MAXACT : Nat := 0x0301
/-- GRP.HOSTMAX (07). -/
abbrev GRP_HOSTMAX : Nat := 0x0302
/-- GRP.XHOLD (07). -/
abbrev GRP_XHOLD : Nat := 0x0303
/-- GRP.XREPEAT (07). -/
abbrev GRP_XREPEAT : Nat := 0x0304
/-- GRP.XKINDS (07). -/
abbrev GRP_XKINDS : Nat := 0x0305
/-- GRP.OPEN (07). -/
abbrev GRP_OPEN : Nat := 0x0310
/-- GRP.ACTFREE (07). -/
abbrev GRP_ACTFREE : Nat := 0x0311
/-- GRP.COMMITS (07). -/
abbrev GRP_COMMITS : Nat := 0x0312
/-- GRP.CONFLICTS (07). -/
abbrev GRP_CONFLICTS : Nat := 0x0313
/-- GRP.XTIMEOUTS (07). -/
abbrev GRP_XTIMEOUTS : Nat := 0x0314
/-- GRP.DIVERGED (07). -/
abbrev GRP_DIVERGED : Nat := 0x0315
/-- GRP.STATEg (07). -/
abbrev GRP_STATEg (g : Nat) : Nat := 0x0318 + g
/-- GYS.STATE (08). -/
abbrev GYS_STATE : Nat := 0x0400
/-- GYS.CTRL (08). -/
abbrev GYS_CTRL : Nat := 0x0401
/-- GYS.CYCMAX (08). -/
abbrev GYS_CYCMAX : Nat := 0x0402
/-- GYS.CYCMIN (08). -/
abbrev GYS_CYCMIN : Nat := 0x0403
/-- GYS.AUTORST (08). -/
abbrev GYS_AUTORST : Nat := 0x0404
/-- GYS.CYCLAST (08). -/
abbrev GYS_CYCLAST : Nat := 0x0405
/-- GYS.CYCPEAK (08). -/
abbrev GYS_CYCPEAK : Nat := 0x0406
/-- GYS.CYCLE (08). -/
abbrev GYS_CYCLE : Nat := 0x0407
/-- GYS.BANK (08). -/
abbrev GYS_BANK : Nat := 0x0408
/-- GYS.PROGID (08). -/
abbrev GYS_PROGID : Nat := 0x0409
/-- GYS.FAULT (08). -/
abbrev GYS_FAULT : Nat := 0x040A
/-- GYS.FAULTPC (08). -/
abbrev GYS_FAULTPC : Nat := 0x040B
/-- GYS.FAULTCYC (08). -/
abbrev GYS_FAULTCYC : Nat := 0x040C
/-- GYS.FORCES (08). -/
abbrev GYS_FORCES : Nat := 0x040D
/-- GYS.LINESPEAK (08). -/
abbrev GYS_LINESPEAK : Nat := 0x040E
/-- GYS.JLAGPEAK (08). -/
abbrev GYS_JLAGPEAK : Nat := 0x040F
/-- GYS.RESUMECYC (08). -/
abbrev GYS_RESUMECYC : Nat := 0x0410
/-- GYS.OCPAUSE (08). -/
abbrev GYS_OCPAUSE : Nat := 0x0411
/-- HST.STATE (09). -/
abbrev HST_STATE : Nat := 0x0800
/-- HST.CMDSRC (09). -/
abbrev HST_CMDSRC : Nat := 0x0801
/-- HST.MODE (09). -/
abbrev HST_MODE : Nat := 0x0802
/-- HST.NLAND (09). -/
abbrev HST_NLAND : Nat := 0x0803
/-- HST.VRATED (09). -/
abbrev HST_VRATED : Nat := 0x0804
/-- HST.AMAX (09). -/
abbrev HST_AMAX : Nat := 0x0805
/-- HST.JMAX (09). -/
abbrev HST_JMAX : Nat := 0x0806
/-- HST.VINSP (09). -/
abbrev HST_VINSP : Nat := 0x0807
/-- HST.VLEARN (09). -/
abbrev HST_VLEARN : Nat := 0x0808
/-- HST.VRELEV (09). -/
abbrev HST_VRELEV : Nat := 0x0809
/-- HST.REVPOL (09). -/
abbrev HST_REVPOL : Nat := 0x080A
/-- HST.BRKDWELL (09). -/
abbrev HST_BRKDWELL : Nat := 0x080B
/-- HST.EMPTYKG (09). -/
abbrev HST_EMPTYKG : Nat := 0x080C
/-- HST.LEVTOL (09). -/
abbrev HST_LEVTOL : Nat := 0x080D
/-- HST.RELEVTOL (09). -/
abbrev HST_RELEVTOL : Nat := 0x080E
/-- HST.TRKLIM (09). -/
abbrev HST_TRKLIM : Nat := 0x080F
/-- HST.PSDIR (09). -/
abbrev HST_PSDIR : Nat := 0x0810
/-- HST.PSAOFS (09). -/
abbrev HST_PSAOFS : Nat := 0x0811
/-- HST.PSBOFS (09). -/
abbrev HST_PSBOFS : Nat := 0x0812
/-- HST.SSIRATE (09). -/
abbrev HST_SSIRATE : Nat := 0x0813
/-- HST.SSIMODE (09). -/
abbrev HST_SSIMODE : Nat := 0x0814
/-- HST.INCRES (09). -/
abbrev HST_INCRES : Nat := 0x0815
/-- HST.FUSEBW (09). -/
abbrev HST_FUSEBW : Nat := 0x0816
/-- HST.FUSELIM (09). -/
abbrev HST_FUSELIM : Nat := 0x0817
/-- HST.ZEROMODE (09). -/
abbrev HST_ZEROMODE : Nat := 0x0818
/-- HST.DZFIO (09). -/
abbrev HST_DZFIO : Nat := 0x0819
/-- HST.LIMLO (09). -/
abbrev HST_LIMLO : Nat := 0x081A
/-- HST.LIMHI (09). -/
abbrev HST_LIMHI : Nat := 0x081B
/-- HST.TSDLO (09). -/
abbrev HST_TSDLO : Nat := 0x081C
/-- HST.TSDHI (09). -/
abbrev HST_TSDHI : Nat := 0x081D
/-- HST.BLACKOUT (09). -/
abbrev HST_BLACKOUT : Nat := 0x081E
/-- HST.STRLEARN (09). -/
abbrev HST_STRLEARN : Nat := 0x081F
/-- HST.STRGAIN (09). -/
abbrev HST_STRGAIN : Nat := 0x0820
/-- HST.LWSEL (09). -/
abbrev HST_LWSEL : Nat := 0x0821
/-- HST.LWEMPTY (09). -/
abbrev HST_LWEMPTY : Nat := 0x0822
/-- HST.LWFULL (09). -/
abbrev HST_LWFULL : Nat := 0x0823
/-- HST.RATEDKG (09). -/
abbrev HST_RATEDKG : Nat := 0x0824
/-- HST.BALKG (09). -/
abbrev HST_BALKG : Nat := 0x0825
/-- HST.INERTKG (09). -/
abbrev HST_INERTKG : Nat := 0x0826
/-- HST.FRATED (09). -/
abbrev HST_FRATED : Nat := 0x0827
/-- HST.DLRATE (09). -/
abbrev HST_DLRATE : Nat := 0x0828
/-- HST.DLOFS (09). -/
abbrev HST_DLOFS : Nat := 0x0829
/-- HST.STARTTMO (09). -/
abbrev HST_STARTTMO : Nat := 0x082A
/-- HST.TERMLO (09). -/
abbrev HST_TERMLO : Nat := 0x0840
/-- HST.TERMHI (09). -/
abbrev HST_TERMHI : Nat := 0x0841
/-- HST.LEARNSTAT (09). -/
abbrev HST_LEARNSTAT : Nat := 0x0842
/-- HST.LEARNCAUSE (09). -/
abbrev HST_LEARNCAUSE : Nat := 0x0843
/-- HST.POSA (09). -/
abbrev HST_POSA : Nat := 0x0844
/-- HST.POSB (09). -/
abbrev HST_POSB : Nat := 0x0845
/-- HST.POSF (09). -/
abbrev HST_POSF : Nat := 0x0846
/-- HST.SPEED (09). -/
abbrev HST_SPEED : Nat := 0x0847
/-- HST.FUSERES (09). -/
abbrev HST_FUSERES : Nat := 0x0848
/-- HST.LOAD (09). -/
abbrev HST_LOAD : Nat := 0x0849
/-- HST.PLANTGT (09). -/
abbrev HST_PLANTGT : Nat := 0x084A
/-- HST.PLANCODE (09). -/
abbrev HST_PLANCODE : Nat := 0x084B
/-- HST.PLANVPK (09). -/
abbrev HST_PLANVPK : Nat := 0x084C
/-- HST.PLANREM (09). -/
abbrev HST_PLANREM : Nat := 0x084D
/-- HST.REVLAND (09). -/
abbrev HST_REVLAND : Nat := 0x084E
/-- HST.LEVERR (09). -/
abbrev HST_LEVERR : Nat := 0x084F
/-- HST.DLSTAT (09). -/
abbrev HST_DLSTAT : Nat := 0x0850
/-- HST.DLMISS (09). -/
abbrev HST_DLMISS : Nat := 0x0851
/-- HST.DLFAULTS (09). -/
abbrev HST_DLFAULTS : Nat := 0x0852
/-- HST.INVSTAT (09). -/
abbrev HST_INVSTAT : Nat := 0x0853
/-- HST.INVFAULT (09). -/
abbrev HST_INVFAULT : Nat := 0x0854
/-- HST.RUNS (09). -/
abbrev HST_RUNS : Nat := 0x0855
/-- CLE.SnKP (10). -/
abbrev CLE_SnKP (n : Nat) : Nat := 0x0C00 + 0x40 * n
/-- CLE.SnKI (10). -/
abbrev CLE_SnKI (n : Nat) : Nat := 0x0C01 + 0x40 * n
/-- CLE.SnKD (10). -/
abbrev CLE_SnKD (n : Nat) : Nat := 0x0C02 + 0x40 * n
/-- CLE.SnDFILT (10). -/
abbrev CLE_SnDFILT (n : Nat) : Nat := 0x0C03 + 0x40 * n
/-- CLE.SnKT (10). -/
abbrev CLE_SnKT (n : Nat) : Nat := 0x0C04 + 0x40 * n
/-- CLE.SnKFF (10). -/
abbrev CLE_SnKFF (n : Nat) : Nat := 0x0C05 + 0x40 * n
/-- CLE.SnPMA1 (10). -/
abbrev CLE_SnPMA1 (n : Nat) : Nat := 0x0C06 + 0x40 * n
/-- CLE.SnPMRF (10). -/
abbrev CLE_SnPMRF (n : Nat) : Nat := 0x0C0A + 0x40 * n
/-- CLE.SnBQj, coefficient i (10). -/
abbrev CLE_SnBQ (n j i : Nat) : Nat := 0x0C0B + 0x40 * n + 5 * j + i
/-- CLE.SnCFG (10). -/
abbrev CLE_SnCFG (n : Nat) : Nat := 0x0C29 + 0x40 * n
/-- CLE.SnPHASE (10). -/
abbrev CLE_SnPHASE (n : Nat) : Nat := 0x0C2A + 0x40 * n
/-- CLE.SnRAMP (10). -/
abbrev CLE_SnRAMP (n : Nat) : Nat := 0x0C2B + 0x40 * n
/-- CLE.SnFSIN (10). -/
abbrev CLE_SnFSIN (n : Nat) : Nat := 0x0C2C + 0x40 * n
/-- CLE.SnFSOUT (10). -/
abbrev CLE_SnFSOUT (n : Nat) : Nat := 0x0C2D + 0x40 * n
/-- CLE.SnSETPT (10). -/
abbrev CLE_SnSETPT (n : Nat) : Nat := 0x0C2E + 0x40 * n
/-- CLE.SnPMTHR (10). -/
abbrev CLE_SnPMTHR (n : Nat) : Nat := 0x0C2F + 0x40 * n
/-- CLE.SnPMQL (10). -/
abbrev CLE_SnPMQL (n : Nat) : Nat := 0x0C30 + 0x40 * n
/-- CLE.SnSATFL (10). -/
abbrev CLE_SnSATFL (n : Nat) : Nat := 0x0C31 + 0x40 * n
/-- CLE.SnOUT (10). -/
abbrev CLE_SnOUT (n : Nat) : Nat := 0x0C32 + 0x40 * n
/-- CLE.SnMEAS (10). -/
abbrev CLE_SnMEAS (n : Nat) : Nat := 0x0C33 + 0x40 * n
/-- CLE.SnSTAT (10). -/
abbrev CLE_SnSTAT (n : Nat) : Nat := 0x0C34 + 0x40 * n
/-- CLE.SnPMRES (10). -/
abbrev CLE_SnPMRES (n : Nat) : Nat := 0x0C35 + 0x40 * n
/-- CLE.SnDLCNT (10). -/
abbrev CLE_SnDLCNT (n : Nat) : Nat := 0x0C36 + 0x40 * n
/-- CLE.RCuCFG (10). -/
abbrev CLE_RCuCFG (u : Nat) : Nat := 0x0C38 + 0x40 * u
/-- CLE.RCuGAIN (10). -/
abbrev CLE_RCuGAIN (u : Nat) : Nat := 0x0C39 + 0x40 * u
/-- CLE.RCuFGT (10). -/
abbrev CLE_RCuFGT (u : Nat) : Nat := 0x0C3A + 0x40 * u
/-- CLE.RCuLEAD (10). -/
abbrev CLE_RCuLEAD (u : Nat) : Nat := 0x0C3B + 0x40 * u
/-- CLE.RCuSTAT (10). -/
abbrev CLE_RCuSTAT (u : Nat) : Nat := 0x0C3C + 0x40 * u
/-- CLE.RCuUPD (10). -/
abbrev CLE_RCuUPD (u : Nat) : Nat := 0x0C3D + 0x40 * u
/-- CLE.RCuRMS (10). -/
abbrev CLE_RCuRMS (u : Nat) : Nat := 0x0C3E + 0x40 * u
/-- CLE.TRbCFG (10). -/
abbrev CLE_TRbCFG (b : Nat) : Nat := 0x0D38 + 0x40 * b
/-- CLE.TRbSIG01 (10). -/
abbrev CLE_TRbSIG01 (b : Nat) : Nat := 0x0D39 + 0x40 * b
/-- CLE.TRbSIG23 (10). -/
abbrev CLE_TRbSIG23 (b : Nat) : Nat := 0x0D3A + 0x40 * b
/-- CLE.TRbTRIG (10). -/
abbrev CLE_TRbTRIG (b : Nat) : Nat := 0x0D3B + 0x40 * b
/-- CLE.TRbLEVEL (10). -/
abbrev CLE_TRbLEVEL (b : Nat) : Nat := 0x0D3C + 0x40 * b
/-- CLE.TRbSTAT (10). -/
abbrev CLE_TRbSTAT (b : Nat) : Nat := 0x0D3D + 0x40 * b
/-- CLE.TRbTIME (10). -/
abbrev CLE_TRbTIME (b : Nat) : Nat := 0x0D3E + 0x40 * b
/-- CLE.WINNER (10). -/
abbrev CLE_WINNER : Nat := 0x0E38
/-- CLE.FLTMASK (10). -/
abbrev CLE_FLTMASK : Nat := 0x0E39
/-- CLE.PMMASK (10). -/
abbrev CLE_PMMASK : Nat := 0x0E3A
/-- DRn.STATE (11). -/
abbrev DRn_STATE (n : Nat) : Nat := 0x1000 + 0x100 * n
/-- DRn.CFG (11). -/
abbrev DRn_CFG (n : Nat) : Nat := 0x1001 + 0x100 * n
/-- DRn.POLES (11). -/
abbrev DRn_POLES (n : Nat) : Nat := 0x1002 + 0x100 * n
/-- DRn.EREVTRV (11). -/
abbrev DRn_EREVTRV (n : Nat) : Nat := 0x1003 + 0x100 * n
/-- DRn.HALLOFS (11). -/
abbrev DRn_HALLOFS (n : Nat) : Nat := 0x1004 + 0x100 * n
/-- DRn.RSHUNT (11). -/
abbrev DRn_RSHUNT (n : Nat) : Nat := 0x1005 + 0x100 * n
/-- DRn.DEADT (11). -/
abbrev DRn_DEADT (n : Nat) : Nat := 0x1006 + 0x100 * n
/-- DRn.VBUSNOM (11). -/
abbrev DRn_VBUSNOM (n : Nat) : Nat := 0x1007 + 0x100 * n
/-- DRn.IMAX (11). -/
abbrev DRn_IMAX (n : Nat) : Nat := 0x1008 + 0x100 * n
/-- DRn.IENDRUN (11). -/
abbrev DRn_IENDRUN (n : Nat) : Nat := 0x1009 + 0x100 * n
/-- DRn.IHOLD (11). -/
abbrev DRn_IHOLD (n : Nat) : Nat := 0x100A + 0x100 * n
/-- DRn.HOLDDLY (11). -/
abbrev DRn_HOLDDLY (n : Nat) : Nat := 0x100B + 0x100 * n
/-- DRn.IBOOST (11). -/
abbrev DRn_IBOOST (n : Nat) : Nat := 0x100C + 0x100 * n
/-- DRn.BOOSTLEAD (11). -/
abbrev DRn_BOOSTLEAD (n : Nat) : Nat := 0x100D + 0x100 * n
/-- DRn.BOOSTWIN (11). -/
abbrev DRn_BOOSTWIN (n : Nat) : Nat := 0x100E + 0x100 * n
/-- DRn.KFORCE (11). -/
abbrev DRn_KFORCE (n : Nat) : Nat := 0x100F + 0x100 * n
/-- DRn.TRAVEL (11). -/
abbrev DRn_TRAVEL (n : Nat) : Nat := 0x1010 + 0x100 * n
/-- DRn.DCFIO (11). -/
abbrev DRn_DCFIO (n : Nat) : Nat := 0x1011 + 0x100 * n
/-- DRn.DOFIO (11). -/
abbrev DRn_DOFIO (n : Nat) : Nat := 0x1012 + 0x100 * n
/-- DRn.LCFIO (11). -/
abbrev DRn_LCFIO (n : Nat) : Nat := 0x1013 + 0x100 * n
/-- DRn.INPOL (11). -/
abbrev DRn_INPOL (n : Nat) : Nat := 0x1014 + 0x100 * n
/-- DRn.REFTOL (11). -/
abbrev DRn_REFTOL (n : Nat) : Nat := 0x1015 + 0x100 * n
/-- DRn.VOPEN (11). -/
abbrev DRn_VOPEN (n : Nat) : Nat := 0x1016 + 0x100 * n
/-- DRn.VCLOSE (11). -/
abbrev DRn_VCLOSE (n : Nat) : Nat := 0x1017 + 0x100 * n
/-- DRn.VNUDGE (11). -/
abbrev DRn_VNUDGE (n : Nat) : Nat := 0x1018 + 0x100 * n
/-- DRn.VREF (11). -/
abbrev DRn_VREF (n : Nat) : Nat := 0x1019 + 0x100 * n
/-- DRn.VLEARN (11). -/
abbrev DRn_VLEARN (n : Nat) : Nat := 0x101A + 0x100 * n
/-- DRn.AOPEN (11). -/
abbrev DRn_AOPEN (n : Nat) : Nat := 0x101B + 0x100 * n
/-- DRn.ACLOSE (11). -/
abbrev DRn_ACLOSE (n : Nat) : Nat := 0x101C + 0x100 * n
/-- DRn.AREV (11). -/
abbrev DRn_AREV (n : Nat) : Nat := 0x101D + 0x100 * n
/-- DRn.FOPEN (11). -/
abbrev DRn_FOPEN (n : Nat) : Nat := 0x101E + 0x100 * n
/-- DRn.FCLOSE (11). -/
abbrev DRn_FCLOSE (n : Nat) : Nat := 0x101F + 0x100 * n
/-- DRn.EOPEN (11). -/
abbrev DRn_EOPEN (n : Nat) : Nat := 0x1020 + 0x100 * n
/-- DRn.ECLOSE (11). -/
abbrev DRn_ECLOSE (n : Nat) : Nat := 0x1021 + 0x100 * n
/-- DRn.ENUDGE (11). -/
abbrev DRn_ENUDGE (n : Nat) : Nat := 0x1022 + 0x100 * n
/-- DRn.MASSDEF (11). -/
abbrev DRn_MASSDEF (n : Nat) : Nat := 0x1023 + 0x100 * n
/-- DRn.OBSF (11). -/
abbrev DRn_OBSF (n : Nat) : Nat := 0x1024 + 0x100 * n
/-- DRn.OBSQL (11). -/
abbrev DRn_OBSQL (n : Nat) : Nat := 0x1025 + 0x100 * n
/-- DRn.OBSZONE (11). -/
abbrev DRn_OBSZONE (n : Nat) : Nat := 0x1026 + 0x100 * n
/-- DRn.REOPENMAX (11). -/
abbrev DRn_REOPENMAX (n : Nat) : Nat := 0x1027 + 0x100 * n
/-- DRn.CAMSEL (11). -/
abbrev DRn_CAMSEL (n : Nat) : Nat := 0x1028 + 0x100 * n
/-- DRn.VADV (11). -/
abbrev DRn_VADV (n : Nat) : Nat := 0x1029 + 0x100 * n
/-- DRn.PGAIN (11). -/
abbrev DRn_PGAIN (n : Nat) : Nat := 0x102A + 0x100 * n
/-- DRn.PSTEP (11). -/
abbrev DRn_PSTEP (n : Nat) : Nat := 0x102B + 0x100 * n
/-- DRn.PMAXF (11). -/
abbrev DRn_PMAXF (n : Nat) : Nat := 0x102C + 0x100 * n
/-- DRn.PREJ (11). -/
abbrev DRn_PREJ (n : Nat) : Nat := 0x102D + 0x100 * n
/-- DRn.SLVMIN (11). -/
abbrev DRn_SLVMIN (n : Nat) : Nat := 0x102E + 0x100 * n
/-- DRn.IALIGN (11). -/
abbrev DRn_IALIGN (n : Nat) : Nat := 0x102F + 0x100 * n
/-- DRn.NTCB (11). -/
abbrev DRn_NTCB (n : Nat) : Nat := 0x1030 + 0x100 * n
/-- DRn.TWARN (11). -/
abbrev DRn_TWARN (n : Nat) : Nat := 0x1031 + 0x100 * n
/-- DRn.TTRIP (11). -/
abbrev DRn_TTRIP (n : Nat) : Nat := 0x1032 + 0x100 * n
/-- DRn.DOEDGE (11). -/
abbrev DRn_DOEDGE (n : Nat) : Nat := 0x1033 + 0x100 * n
/-- DRn.POS (11). -/
abbrev DRn_POS (n : Nat) : Nat := 0x1040 + 0x100 * n
/-- DRn.SPEED (11). -/
abbrev DRn_SPEED (n : Nat) : Nat := 0x1041 + 0x100 * n
/-- DRn.FORCE (11). -/
abbrev DRn_FORCE (n : Nat) : Nat := 0x1042 + 0x100 * n
/-- DRn.ENERGY (11). -/
abbrev DRn_ENERGY (n : Nat) : Nat := 0x1043 + 0x100 * n
/-- DRn.IQ (11). -/
abbrev DRn_IQ (n : Nat) : Nat := 0x1044 + 0x100 * n
/-- DRn.TWIND (11). -/
abbrev DRn_TWIND (n : Nat) : Nat := 0x1045 + 0x100 * n
/-- DRn.REFSTAT (11). -/
abbrev DRn_REFSTAT (n : Nat) : Nat := 0x1046 + 0x100 * n
/-- DRn.REOPENS (11). -/
abbrev DRn_REOPENS (n : Nat) : Nat := 0x1047 + 0x100 * n
/-- DRn.FAULT (11). -/
abbrev DRn_FAULT (n : Nat) : Nat := 0x1048 + 0x100 * n
/-- DRn.LANDING (11). -/
abbrev DRn_LANDING (n : Nat) : Nat := 0x1049 + 0x100 * n
/-- DRn.CYCLES (11). -/
abbrev DRn_CYCLES (n : Nat) : Nat := 0x104A + 0x100 * n
/-- DRn.OBSCOUNT (11). -/
abbrev DRn_OBSCOUNT (n : Nat) : Nat := 0x104B + 0x100 * n
/-- DRn.HALLERR (11). -/
abbrev DRn_HALLERR (n : Nat) : Nat := 0x104C + 0x100 * n
/-- DRn.MASSk (11). -/
abbrev DRn_MASSk (n k : Nat) : Nat := 0x1080 + 0x100 * n + k
/-- SAF.SETID (12). -/
abbrev SAF_SETID : Nat := 0x1400
/-- SAF.VRATED (12). -/
abbrev SAF_VRATED : Nat := 0x1401
/-- SAF.VOSPCT (12). -/
abbrev SAF_VOSPCT : Nat := 0x1402
/-- SAF.VINSP (12). -/
abbrev SAF_VINSP : Nat := 0x1403
/-- SAF.VRESC (12). -/
abbrev SAF_VRESC : Nat := 0x1404
/-- SAF.VADV (12). -/
abbrev SAF_VADV : Nat := 0x1405
/-- SAF.VRELEV (12). -/
abbrev SAF_VRELEV : Nat := 0x1406
/-- SAF.DZHALF (12). -/
abbrev SAF_DZHALF : Nat := 0x1407
/-- SAF.NLAND (12). -/
abbrev SAF_NLAND : Nat := 0x1408
/-- SAF.PSDIR (12). -/
abbrev SAF_PSDIR : Nat := 0x1409
/-- SAF.PSAOFS (12). -/
abbrev SAF_PSAOFS : Nat := 0x140A
/-- SAF.PSBOFS (12). -/
abbrev SAF_PSBOFS : Nat := 0x140B
/-- SAF.INCPER (12). -/
abbrev SAF_INCPER : Nat := 0x140C
/-- SAF.ATSD (12). -/
abbrev SAF_ATSD : Nat := 0x140D
/-- SAF.TSDMARG (12). -/
abbrev SAF_TSDMARG : Nat := 0x140E
/-- SAF.TSDOVR (12). -/
abbrev SAF_TSDOVR : Nat := 0x140F
/-- SAF.INSPLO (12). -/
abbrev SAF_INSPLO : Nat := 0x1410
/-- SAF.INSPHI (12). -/
abbrev SAF_INSPHI : Nat := 0x1411
/-- SAF.BRKLIFT (12). -/
abbrev SAF_BRKLIFT : Nat := 0x1412
/-- SAF.BRKDROP (12). -/
abbrev SAF_BRKDROP : Nat := 0x1413
/-- SAF.BTINT (12). -/
abbrev SAF_BTINT : Nat := 0x1414
/-- SAF.BTTORQ (12). -/
abbrev SAF_BTTORQ : Nat := 0x1415
/-- SAF.BTMOVE (12). -/
abbrev SAF_BTMOVE : Nat := 0x1416
/-- SAF.SOUSE (12). -/
abbrev SAF_SOUSE : Nat := 0x1417
/-- SAF.RSTUSE (12). -/
abbrev SAF_RSTUSE : Nat := 0x1418
/-- SAF.SHMODE (12). -/
abbrev SAF_SHMODE : Nat := 0x1419
/-- SAF.GUARD (12). -/
abbrev SAF_GUARD : Nat := 0x141A
/-- SAF.TBRAKE (12). -/
abbrev SAF_TBRAKE : Nat := 0x141B
/-- SAF.ABRAKE (12). -/
abbrev SAF_ABRAKE : Nat := 0x141C
/-- SAF.JBRAKE (12). -/
abbrev SAF_JBRAKE : Nat := 0x141D
/-- SAF.SILLTOP (12). -/
abbrev SAF_SILLTOP : Nat := 0x141E
/-- SAF.SILLBOT (12). -/
abbrev SAF_SILLBOT : Nat := 0x141F
/-- SAF.NLLOSS (12). -/
abbrev SAF_NLLOSS : Nat := 0x1420
/-- SAF.SIFUNn (12). -/
abbrev SAF_SIFUNn (n : Nat) : Nat := 0x1430 + n
/-- SAF.SIFILTn (12). -/
abbrev SAF_SIFILTn (n : Nat) : Nat := 0x1440 + n
/-- SAF.STATUS (12). -/
abbrev SAF_STATUS : Nat := 0x1460
/-- SAF.TRIPCAUSE (12). -/
abbrev SAF_TRIPCAUSE : Nat := 0x1461
/-- SAF.OUTSTAT (12). -/
abbrev SAF_OUTSTAT : Nat := 0x1462
/-- SAF.SISTAT (12). -/
abbrev SAF_SISTAT : Nat := 0x1463
/-- SAF.MODE (12). -/
abbrev SAF_MODE : Nat := 0x1464
/-- SAF.POS (12). -/
abbrev SAF_POS : Nat := 0x1465
/-- SAF.SPEED (12). -/
abbrev SAF_SPEED : Nat := 0x1466
/-- SAF.LANDING (12). -/
abbrev SAF_LANDING : Nat := 0x1467
/-- SAF.SETCRC (12). -/
abbrev SAF_SETCRC : Nat := 0x1468
/-- SAF.PSLOT (12). -/
abbrev SAF_PSLOT : Nat := 0x1469
/-- SAF.LOCKCAUSE (12). -/
abbrev SAF_LOCKCAUSE : Nat := 0x146A
/-- SAF.LASTTRIP (12). -/
abbrev SAF_LASTTRIP : Nat := 0x146B
/-- SAF.TRIPCOUNT (12). -/
abbrev SAF_TRIPCOUNT : Nat := 0x146C
/-- SAF.SETCOUNT (12). -/
abbrev SAF_SETCOUNT : Nat := 0x146D
/-- SAF.BTRESULT (12). -/
abbrev SAF_BTRESULT : Nat := 0x146E
/-- SAF.BTTIME (12). -/
abbrev SAF_BTTIME : Nat := 0x146F
/-- SAF.STUCK (12). -/
abbrev SAF_STUCK : Nat := 0x1470
/-- SAF.LEVk (12). -/
abbrev SAF_LEVk (k : Nat) : Nat := 0x1480 + k
/-- FIO.CnCFG (13). -/
abbrev FIO_CnCFG (n : Nat) : Nat := 0x1600 + 8 * n
/-- FIO.CnFILT (13). -/
abbrev FIO_CnFILT (n : Nat) : Nat := 0x1601 + 8 * n
/-- FIO.CnSTAT (13). -/
abbrev FIO_CnSTAT (n : Nat) : Nat := 0x1602 + 8 * n
/-- FIO.CnRISE (13). -/
abbrev FIO_CnRISE (n : Nat) : Nat := 0x1603 + 8 * n
/-- FIO.CnFALL (13). -/
abbrev FIO_CnFALL (n : Nat) : Nat := 0x1604 + 8 * n
/-- FIO.CnEDGES (13). -/
abbrev FIO_CnEDGES (n : Nat) : Nat := 0x1605 + 8 * n
/-- FIO.CnFLTS (13). -/
abbrev FIO_CnFLTS (n : Nat) : Nat := 0x1606 + 8 * n
/-- FIO.RETRYT (13). -/
abbrev FIO_RETRYT : Nat := 0x1607
/-- FIO.RETRYMX (13). -/
abbrev FIO_RETRYMX : Nat := 0x160F
/-- FIO.AGGCURR (13). -/
abbrev FIO_AGGCURR : Nat := 0x1617
/-- FIO.AGGPEAK (13). -/
abbrev FIO_AGGPEAK : Nat := 0x161F
/-- FIO.FAULTS (13). -/
abbrev FIO_FAULTS : Nat := 0x1627
/-- FIO.SHEDCNT (13). -/
abbrev FIO_SHEDCNT : Nat := 0x162F
/-- CANb.CFG (14). -/
abbrev CANb_CFG (b : Nat) : Nat := 0x1800 + 0x40 * b
/-- CANb.NBR (14). -/
abbrev CANb_NBR (b : Nat) : Nat := 0x1801 + 0x40 * b
/-- CANb.NSP (14). -/
abbrev CANb_NSP (b : Nat) : Nat := 0x1802 + 0x40 * b
/-- CANb.DBR (14). -/
abbrev CANb_DBR (b : Nat) : Nat := 0x1803 + 0x40 * b
/-- CANb.DSP (14). -/
abbrev CANb_DSP (b : Nat) : Nat := 0x1804 + 0x40 * b
/-- CANb.WAKECLS (14). -/
abbrev CANb_WAKECLS (b : Nat) : Nat := 0x1805 + 0x40 * b
/-- CANb.BOFFDLY (14). -/
abbrev CANb_BOFFDLY (b : Nat) : Nat := 0x1806 + 0x40 * b
/-- CANb.CANCEL (14). -/
abbrev CANb_CANCEL (b : Nat) : Nat := 0x1808 + 0x40 * b
/-- CANb.OBJSEL (14). -/
abbrev CANb_OBJSEL (b : Nat) : Nat := 0x1809 + 0x40 * b
/-- CANb.STATE (14). -/
abbrev CANb_STATE (b : Nat) : Nat := 0x1810 + 0x40 * b
/-- CANb.STAT (14). -/
abbrev CANb_STAT (b : Nat) : Nat := 0x1811 + 0x40 * b
/-- CANb.TEC (14). -/
abbrev CANb_TEC (b : Nat) : Nat := 0x1812 + 0x40 * b
/-- CANb.REC (14). -/
abbrev CANb_REC (b : Nat) : Nat := 0x1813 + 0x40 * b
/-- CANb.LOAD (14). -/
abbrev CANb_LOAD (b : Nat) : Nat := 0x1814 + 0x40 * b
/-- CANb.OBJSTAT (14). -/
abbrev CANb_OBJSTAT (b : Nat) : Nat := 0x1815 + 0x40 * b
/-- CANb.TDCVAL (14). -/
abbrev CANb_TDCVAL (b : Nat) : Nat := 0x1816 + 0x40 * b
/-- CANb.NOACKCNT (14). -/
abbrev CANb_NOACKCNT (b : Nat) : Nat := 0x1818 + 0x40 * b
/-- CANb.ERRCNT (14). -/
abbrev CANb_ERRCNT (b : Nat) : Nat := 0x1819 + 0x40 * b
/-- CANb.BOFFCNT (14). -/
abbrev CANb_BOFFCNT (b : Nat) : Nat := 0x181A + 0x40 * b
/-- CANb.ALONECNT (14). -/
abbrev CANb_ALONECNT (b : Nat) : Nat := 0x181B + 0x40 * b
/-- CANb.LOSTCNT (14). -/
abbrev CANb_LOSTCNT (b : Nat) : Nat := 0x181C + 0x40 * b
/-- CANb.RXOVR (14). -/
abbrev CANb_RXOVR (b : Nat) : Nat := 0x181D + 0x40 * b
/-- CANb.UNKCNT (14). -/
abbrev CANb_UNKCNT (b : Nat) : Nat := 0x181E + 0x40 * b
/-- CANb.SVCCNT (14). -/
abbrev CANb_SVCCNT (b : Nat) : Nat := 0x181F + 0x40 * b
/-- RNG.ADDR (15). -/
abbrev RNG_ADDR : Nat := 0x1A00
/-- RNG.DOMAIN (15). -/
abbrev RNG_DOMAIN : Nat := 0x1A01
/-- RNG.TOPO (15). -/
abbrev RNG_TOPO : Nat := 0x1A02
/-- RNG.PACFG (15). -/
abbrev RNG_PACFG : Nat := 0x1A03
/-- RNG.PBCFG (15). -/
abbrev RNG_PBCFG : Nat := 0x1A04
/-- RNG.MGRCAND (15). -/
abbrev RNG_MGRCAND : Nat := 0x1A05
/-- RNG.TMCAND (15). -/
abbrev RNG_TMCAND : Nat := 0x1A06
/-- RNG.HOPLIM (15). -/
abbrev RNG_HOPLIM : Nat := 0x1A07
/-- RNG.TESTPER (15). -/
abbrev RNG_TESTPER : Nat := 0x1A08
/-- RNG.TESTLOSS (15). -/
abbrev RNG_TESTLOSS : Nat := 0x1A09
/-- RNG.SYNCPER (15). -/
abbrev RNG_SYNCPER : Nat := 0x1A0A
/-- RNG.STAT (15). -/
abbrev RNG_STAT : Nat := 0x1A20
/-- RNG.PAAMP (15). -/
abbrev RNG_PAAMP : Nat := 0x1A21
/-- RNG.PBAMP (15). -/
abbrev RNG_PBAMP : Nat := 0x1A22
/-- RNG.MANAGER (15). -/
abbrev RNG_MANAGER : Nat := 0x1A23
/-- RNG.TMASTER (15). -/
abbrev RNG_TMASTER : Nat := 0x1A24
/-- RNG.TIME (15). -/
abbrev RNG_TIME : Nat := 0x1A25
/-- RNG.TOFFS (15). -/
abbrev RNG_TOFFS : Nat := 0x1A26
/-- RNG.SYNCCAP (15). -/
abbrev RNG_SYNCCAP : Nat := 0x1A27
/-- RNG.LDELAYA (15). -/
abbrev RNG_LDELAYA : Nat := 0x1A28
/-- RNG.LDELAYB (15). -/
abbrev RNG_LDELAYB : Nat := 0x1A29
/-- RNG.PEERS (15). -/
abbrev RNG_PEERS : Nat := 0x1A2A
/-- RNG.HOPMAX (15). -/
abbrev RNG_HOPMAX : Nat := 0x1A2B
/-- RNG.LOADA (15). -/
abbrev RNG_LOADA : Nat := 0x1A2C
/-- RNG.LOADB (15). -/
abbrev RNG_LOADB : Nat := 0x1A2D
/-- RNG.HEALS (15). -/
abbrev RNG_HEALS : Nat := 0x1A30
/-- RNG.FCSERR (15). -/
abbrev RNG_FCSERR : Nat := 0x1A31
/-- RNG.STRIPPED (15). -/
abbrev RNG_STRIPPED : Nat := 0x1A32
/-- RNG.TAGFAIL (15). -/
abbrev RNG_TAGFAIL : Nat := 0x1A33
/-- RNG.STALECNT (15). -/
abbrev RNG_STALECNT : Nat := 0x1A34
/-- DSP.ENABLE (15). -/
abbrev DSP_ENABLE : Nat := 0x1B00
/-- DSP.GROUP (15). -/
abbrev DSP_GROUP : Nat := 0x1B01
/-- DSP.BIDWIN (15). -/
abbrev DSP_BIDWIN : Nat := 0x1B02
/-- DSP.STARTMS (15). -/
abbrev DSP_STARTMS : Nat := 0x1B03
/-- DSP.STOPMS (15). -/
abbrev DSP_STOPMS : Nat := 0x1B04
/-- DSP.LOADKNEE (15). -/
abbrev DSP_LOADKNEE : Nat := 0x1B05
/-- DSP.WLOAD (15). -/
abbrev DSP_WLOAD : Nat := 0x1B06
/-- DSP.FULLPCT (15). -/
abbrev DSP_FULLPCT : Nat := 0x1B07
/-- DSP.WENERGY (15). -/
abbrev DSP_WENERGY : Nat := 0x1B08
/-- DSP.CCVAR (15). -/
abbrev DSP_CCVAR : Nat := 0x1B09
/-- DSP.REAUCT (15). -/
abbrev DSP_REAUCT : Nat := 0x1B0A
/-- DSP.PEERLOSS (15). -/
abbrev DSP_PEERLOSS : Nat := 0x1B0B
/-- DSP.RINGLOSS (15). -/
abbrev DSP_RINGLOSS : Nat := 0x1B0C
/-- DSP.REJOIN (15). -/
abbrev DSP_REJOIN : Nat := 0x1B0D
/-- DSP.PREDEN (15). -/
abbrev DSP_PREDEN : Nat := 0x1B10
/-- DSP.PAXKG (15). -/
abbrev DSP_PAXKG : Nat := 0x1B11
/-- DSP.CARPAX (15). -/
abbrev DSP_CARPAX : Nat := 0x1B12
/-- DSP.PREMIN (15). -/
abbrev DSP_PREMIN : Nat := 0x1B13
/-- DSP.PREMAX (15). -/
abbrev DSP_PREMAX : Nat := 0x1B14
/-- DSP.PREWIN (15). -/
abbrev DSP_PREWIN : Nat := 0x1B15
/-- DSP.PREHOLD (15). -/
abbrev DSP_PREHOLD : Nat := 0x1B16
/-- DSP.SURGEWIN (15). -/
abbrev DSP_SURGEWIN : Nat := 0x1B17
/-- DSP.PREDGAIN (15). -/
abbrev DSP_PREDGAIN : Nat := 0x1B18
/-- DSP.RATIODEF (15). -/
abbrev DSP_RATIODEF : Nat := 0x1B19
/-- DSP.PSEL (15). -/
abbrev DSP_PSEL : Nat := 0x1B1A
/-- DSP.PVAL (15). -/
abbrev DSP_PVAL : Nat := 0x1B1B
/-- DSP.PREDRST (15). -/
abbrev DSP_PREDRST : Nat := 0x1B1C
/-- DSP.STATUS (15). -/
abbrev DSP_STATUS : Nat := 0x1B20
/-- DSP.CARS (15). -/
abbrev DSP_CARS : Nat := 0x1B21
/-- DSP.CALLS (15). -/
abbrev DSP_CALLS : Nat := 0x1B22
/-- DSP.LASTCOST (15). -/
abbrev DSP_LASTCOST : Nat := 0x1B23
/-- DSP.AUCTIONS (15). -/
abbrev DSP_AUCTIONS : Nat := 0x1B24
/-- DSP.WON (15). -/
abbrev DSP_WON : Nat := 0x1B25
/-- DSP.REAUCTCNT (15). -/
abbrev DSP_REAUCTCNT : Nat := 0x1B26
/-- DSP.LOCALEPI (15). -/
abbrev DSP_LOCALEPI : Nat := 0x1B27
/-- SHF.ENABLE (16). -/
abbrev SHF_ENABLE : Nat := 0x1C00
/-- SHF.POSN (16). -/
abbrev SHF_POSN : Nat := 0x1C01
/-- SHF.ADDRUP (16). -/
abbrev SHF_ADDRUP : Nat := 0x1C02
/-- SHF.ADDRDN (16). -/
abbrev SHF_ADDRDN : Nat := 0x1C03
/-- SHF.NLRATE (16). -/
abbrev SHF_NLRATE : Nat := 0x1C04
/-- SHF.NLOFS (16). -/
abbrev SHF_NLOFS : Nat := 0x1C05
/-- SHF.GAP1 (16). -/
abbrev SHF_GAP1 : Nat := 0x1C06
/-- SHF.GAP2 (16). -/
abbrev SHF_GAP2 : Nat := 0x1C07
/-- SHF.VLOSS (16). -/
abbrev SHF_VLOSS : Nat := 0x1C08
/-- SHF.LOSSMARG (16). -/
abbrev SHF_LOSSMARG : Nat := 0x1C09
/-- SHF.AUTOZONE (16). -/
abbrev SHF_AUTOZONE : Nat := 0x1C0A
/-- SHF.ZLO (16). -/
abbrev SHF_ZLO : Nat := 0x1C0B
/-- SHF.ZHI (16). -/
abbrev SHF_ZHI : Nat := 0x1C0C
/-- SHF.STATUS (16). -/
abbrev SHF_STATUS : Nat := 0x1C20
/-- SHF.ZVER (16). -/
abbrev SHF_ZVER : Nat := 0x1C21
/-- SHF.MARGUP (16). -/
abbrev SHF_MARGUP : Nat := 0x1C22
/-- SHF.MARGDN (16). -/
abbrev SHF_MARGDN : Nat := 0x1C23
/-- SHF.LIMUP (16). -/
abbrev SHF_LIMUP : Nat := 0x1C24
/-- SHF.LIMDN (16). -/
abbrev SHF_LIMDN : Nat := 0x1C25
/-- SHF.GAPSUP (16). -/
abbrev SHF_GAPSUP : Nat := 0x1C26
/-- SHF.GAPSDN (16). -/
abbrev SHF_GAPSDN : Nat := 0x1C27
/-- SHF.LOSSES (16). -/
abbrev SHF_LOSSES : Nat := 0x1C28
/-- SHF.TIER2CNT (16). -/
abbrev SHF_TIER2CNT : Nat := 0x1C29
/-- TPH.FORMAT (17). -/
abbrev TPH_FORMAT : Nat := 0x1D00
/-- TPH.RECSEV (17). -/
abbrev TPH_RECSEV : Nat := 0x1D01
/-- TPH.REPWIN (17). -/
abbrev TPH_REPWIN : Nat := 0x1D02
/-- TPH.REPALL (17). -/
abbrev TPH_REPALL : Nat := 0x1D03
/-- TPH.STRMLAT (17). -/
abbrev TPH_STRMLAT : Nat := 0x1D04
/-- TPH.CLEAR (17). -/
abbrev TPH_CLEAR : Nat := 0x1D05
/-- TPH.FMTUSE (17). -/
abbrev TPH_FMTUSE : Nat := 0x1D10
/-- TPH.HEAD (17). -/
abbrev TPH_HEAD : Nat := 0x1D11
/-- TPH.TAIL (17). -/
abbrev TPH_TAIL : Nat := 0x1D12
/-- TPH.COUNT (17). -/
abbrev TPH_COUNT : Nat := 0x1D13
/-- TPH.DROPS (17). -/
abbrev TPH_DROPS : Nat := 0x1D14
/-- TPH.OVERWRITES (17). -/
abbrev TPH_OVERWRITES : Nat := 0x1D15
/-- TPH.BUFDROPS (17). -/
abbrev TPH_BUFDROPS : Nat := 0x1D16
/-- TPH.CNTs (17). -/
abbrev TPH_CNTs (s : Nat) : Nat := 0x1D18 + s
/-- RTC.RDMODE (18). -/
abbrev RTC_RDMODE : Nat := 0x1D40
/-- RTC.TRIM (18). -/
abbrev RTC_TRIM : Nat := 0x1D41
/-- RTC.ALARM (18). -/
abbrev RTC_ALARM : Nat := 0x1D42
/-- RTC.STATUS (18). -/
abbrev RTC_STATUS : Nat := 0x1D43
/-- RTC.YEAR (18). -/
abbrev RTC_YEAR : Nat := 0x1D44
/-- RTC.MONTH (18). -/
abbrev RTC_MONTH : Nat := 0x1D45
/-- RTC.DAY (18). -/
abbrev RTC_DAY : Nat := 0x1D46
/-- RTC.HOUR (18). -/
abbrev RTC_HOUR : Nat := 0x1D47
/-- RTC.MINUTE (18). -/
abbrev RTC_MINUTE : Nat := 0x1D48
/-- RTC.SECOND (18). -/
abbrev RTC_SECOND : Nat := 0x1D49
/-- RTC.MSEC (18). -/
abbrev RTC_MSEC : Nat := 0x1D4A
/-- RTC.WDAY (18). -/
abbrev RTC_WDAY : Nat := 0x1D4B
/-- RTC.MEASPPM (18). -/
abbrev RTC_MEASPPM : Nat := 0x1D4C
/-- RTC.EVERSET (18). -/
abbrev RTC_EVERSET : Nat := 0x1D4D
/-- RTC.SETCOUNT (18). -/
abbrev RTC_SETCOUNT : Nat := 0x1D4E
/-- SEC.FWSTAT (19). -/
abbrev SEC_FWSTAT : Nat := 0x1E00
/-- SEC.SVN (19). -/
abbrev SEC_SVN : Nat := 0x1E01
/-- SEC.MINSVN (19). -/
abbrev SEC_MINSVN : Nat := 0x1E02
/-- SEC.SAFSLOT (19). -/
abbrev SEC_SAFSLOT : Nat := 0x1E03
/-- SEC.QUIETMAX (19). -/
abbrev SEC_QUIETMAX : Nat := 0x1E04
/-- SEC.SWAPGAP (19). -/
abbrev SEC_SWAPGAP : Nat := 0x1E05
/-- SEC.SESSLIFE (19). -/
abbrev SEC_SESSLIFE : Nat := 0x1E06
/-- SEC.MINEPOCH (19). -/
abbrev SEC_MINEPOCH : Nat := 0x1E07
/-- SEC.OWNKID (19). -/
abbrev SEC_OWNKID : Nat := 0x1E08
/-- SEC.PGKID (19). -/
abbrev SEC_PGKID : Nat := 0x1E09
/-- SEC.DKID (19). -/
abbrev SEC_DKID : Nat := 0x1E0A
/-- SEC.DKNEXT (19). -/
abbrev SEC_DKNEXT : Nat := 0x1E0B
/-- SEC.DKGRACE (19). -/
abbrev SEC_DKGRACE : Nat := 0x1E0C
/-- SEC.DEVKID (19). -/
abbrev SEC_DEVKID : Nat := 0x1E0D
/-- SEC.ROOTKID (19). -/
abbrev SEC_ROOTKID : Nat := 0x1E0E
/-- SEC.UNONCE (19). -/
abbrev SEC_UNONCE : Nat := 0x1E0F
/-- SEC.ACTION (19). -/
abbrev SEC_ACTION : Nat := 0x1E10
/-- SEC.DBGSTAT (19). -/
abbrev SEC_DBGSTAT : Nat := 0x1E11
/-- SEC.SWITCHES (19). -/
abbrev SEC_SWITCHES : Nat := 0x1E12
/-- SEC.AUTHFAIL (19). -/
abbrev SEC_AUTHFAIL : Nat := 0x1E13
/-- SEC.STAGEn (19). -/
abbrev SEC_STAGEn (n : Nat) : Nat := 0x1E20 + n
end Idx

/-- DEV, PWR, HOST, GRP, GYS and HST parameters. -/
def rowsLow0 : List PInfo := [
  row 0x0200 .u8 (.rw 3) .mram (2) (0) (3) [] 0x0,  -- HOST.HnPRIV
  row 0x0201 .u8 (.rw 3) .mram (1) (0) (3) [] 0x0,  -- HOST.HnPRIV
  row 0x0202 .u8 (.rw 3) .mram (3) (0) (3) [] 0x0,  -- HOST.HnPRIV
  row 0x0203 .u8 (.rw 3) .mram (3) (0) (3) [] 0x0,  -- HOST.HnPRIV
  row 0x0204 .u8 (.rw 3) .mram (3) (0) (3) [] 0x0,  -- HOST.HnPRIV
  row 0x0205 .u8 (.rw 3) .mram (3) (0) (3) [] 0x0,  -- HOST.HnPRIV
  row 0x0206 .u8 (.rw 3) .mram (3) (0) (3) [] 0x0,  -- HOST.HnPRIV
  row 0x0207 .u8 (.rw 3) .mram (3) (0) (3) [] 0x0,  -- HOST.HnPRIV
  row 0x0208 .u8 (.rw 3) .mram (1) (0) (3) [] 0x3,  -- HOST.SPTRUST
  row 0x0209 .u8 (.rw 2) .mram (0) (0) (3) [] 0x0,  -- HOST.UBAUD
  row 0x020A .u16 (.rw 2) .mram (60) (10) (3600) [] 0x0,  -- HOST.RINGIDLE
  row 0x020B .u8 (.rw 1) .mram (1) (1) (8) [] 0x0,  -- HOST.EVTHRESH
  row 0x0210 .u16 (.ro) .volatile (0) (0) (1000) [] 0x0,  -- HOST.LOAD
  row 0x0211 .u8 (.ro) .volatile (64) (0) (64) [] 0x0,  -- HOST.TAGSFREE
  row 0x0212 .u32 (.roClr) .volatile (0) (0) (4294967295) [] 0x0,  -- HOST.PORTERR
  row 0x0000 .u16 (.ro) .fixed (9640) (0) (65535) [] 0x0,  -- DEV.PARTNO
  row 0x0001 .u16 (.ro) .fixed (16945) (0) (65535) [] 0x0,  -- DEV.HWREV
  row 0x0002 .u16 (.ro) .fixed (1026) (0) (65535) [] 0x0,  -- DEV.FWIF
  row 0x0003 .u32 (.ro) .fixed (0) (0) (4294967295) [] 0x0,  -- DEV.FWBUILD
  row 0x0004 .u8 (.ro) .fixed (0) (0) (1) [] 0x0,  -- DEV.ORDER
  row 0x0005 .str16 (.ro) .fixed (0) (0) (340282366920938463463374607431768211455) [] 0x0,  -- DEV.SERIAL
  row 0x0006 .u8 (.ro) .volatile (0) (0) (1) [] 0x0,  -- DEV.FWSLOT
  row 0x0008 .u48 (.ro) .mram (0) (0) (281474976710655) [] 0x0,  -- DEV.OPTIME
  row 0x0009 .u32 (.ro) .mram (0) (0) (16777215) [] 0x0,  -- DEV.PWRCYC
  row 0x000A .str16 (.rw 2) .mram (0) (0) (340282366920938463463374607431768211455) [] 0x0,  -- DEV.NAME
  row 0x000C .u32 (.ro) .mram (0) (0) (4294967295) [] 0x0,  -- DEV.CFGCOUNT
  row 0x000D .u8 (.ro) .cal (0) (0) (2) [] 0x0,  -- DEV.CALSTATE
  row 0x000E .u32 (.ro) .cal (0) (0) (4294967295) [] 0x0,  -- DEV.CALCRC
  row 0x000F .u16 (.wo 2) .volatile (0) (0) (65535) [] 0x0,  -- DEV.RESTORE
  row 0x0100 .u8 (.ro) .volatile (0) (1) (6) [] 0x0,  -- PWR.STATE
  row 0x0101 .u16 (.ro) .volatile (0) (0) (40000) [] 0x0,  -- PWR.VIN
  row 0x0102 .u16 (.ro) .volatile (0) (0) (4000) [] 0x0,  -- PWR.VCELL
  row 0x0103 .s16 (.ro) .volatile (0) (-550) (1500) [] 0x0,  -- PWR.TDIE
  row 0x0104 .u32 (.rw 2) .mram (2000) (500) (20000) [] 0x0,  -- PWR.DMOVE
  row 0x0105 .u8 (.rw 2) .mram (127) (0) (127) [] 0x7F,  -- PWR.WAKEMASK
  row 0x0106 .u64 (.rw 2) .mram (0) (0) (281474976710655) [] 0xFFFFFFFFFFFF,  -- PWR.WAKEFIO
  row 0x0107 .u8 (.ro) .mram (0) (0) (4) [] 0x0,  -- PWR.LASTAON
  row 0x0108 .u32 (.ro) .mram (0) (0) (4294967295) [] 0x0,  -- PWR.NRSTHELD
  row 0x0109 .s32 (.ro) .mram (0) (-2147483648) (2147483647) [] 0x0,  -- PWR.DMOVED
  row 0x010A .u16 (.roClr) .volatile (0) (0) (40000) [] 0x0   -- PWR.VINMIN
]

/-- DEV, PWR, HOST, GRP, GYS and HST parameters. -/
def rowsLow1 : List PInfo := [
  row 0x010B .u32 (.roClr) .mram (0) (0) (4294967295) [] 0x0,  -- PWR.SAGCOUNT
  row 0x010C .s16 (.roClr) .mram (-550) (-550) (1500) [] 0x0,  -- PWR.TDIEMAX
  row 0x0213 .u16 (.roClr) .volatile (0) (0) (1000) [] 0x0,  -- HOST.LOADPEAK
  row 0x0214 .u32 (.roClr) .mram (0) (0) (4294967295) [] 0x0,  -- HOST.OVLCOUNT
  row 0x0215 .u8 (.ro) .volatile (0) (0) (255) [] 0x0,  -- HOST.SESSMAP
  row 0x0216 .u32 (.roClr) .volatile (0) (0) (4294967295) [] 0x0,  -- HOST.UNDELIV
  row 0x0300 .u16 (.rw 2) .mram (30) (1) (600) [] 0x0,  -- GRP.OPENTMO
  row 0x0301 .u16 (.rw 2) .mram (128) (1) (512) [] 0x0,  -- GRP.MAXACT
  row 0x0302 .u8 (.rw 3) .mram (6) (0) (8) [] 0x0,  -- GRP.HOSTMAX
  row 0x0303 .u8 (.rw 3) .mram (100) (40) (100) [] 0x0,  -- GRP.XHOLD
  row 0x0304 .u8 (.rw 2) .mram (5) (2) (20) [] 0x0,  -- GRP.XREPEAT
  row 0x0305 .u8 (.rw 3) .mram (0) (0) (127) [] 0x7F,  -- GRP.XKINDS
  row 0x0310 .u8 (.ro) .volatile (0) (0) (8) [] 0x0,  -- GRP.OPEN
  row 0x0311 .u16 (.ro) .volatile (512) (0) (512) [] 0x0,  -- GRP.ACTFREE
  row 0x0312 .u32 (.roClr) .mram (0) (0) (4294967295) [] 0x0,  -- GRP.COMMITS
  row 0x0313 .u32 (.roClr) .mram (0) (0) (4294967295) [] 0x0,  -- GRP.CONFLICTS
  row 0x0314 .u32 (.roClr) .mram (0) (0) (4294967295) [] 0x0,  -- GRP.XTIMEOUTS
  row 0x0315 .u32 (.roClr) .mram (0) (0) (4294967295) [] 0x0,  -- GRP.DIVERGED
  row 0x0318 .u8 (.ro) .volatile (0) (0) (4) [] 0x0,  -- GRP.STATEg
  row 0x0319 .u8 (.ro) .volatile (0) (0) (4) [] 0x0,  -- GRP.STATEg
  row 0x031A .u8 (.ro) .volatile (0) (0) (4) [] 0x0,  -- GRP.STATEg
  row 0x031B .u8 (.ro) .volatile (0) (0) (4) [] 0x0,  -- GRP.STATEg
  row 0x031C .u8 (.ro) .volatile (0) (0) (4) [] 0x0,  -- GRP.STATEg
  row 0x031D .u8 (.ro) .volatile (0) (0) (4) [] 0x0,  -- GRP.STATEg
  row 0x031E .u8 (.ro) .volatile (0) (0) (4) [] 0x0,  -- GRP.STATEg
  row 0x031F .u8 (.ro) .volatile (0) (0) (4) [] 0x0,  -- GRP.STATEg
  row 0x0400 .u8 (.ro) .mram (0) (0) (4) [] 0x0,  -- GYS.STATE
  row 0x0401 .u8 (.wo 2) .volatile (0) (1) (3) [] 0x0,  -- GYS.CTRL
  row 0x0402 .u16 (.rw 2) .mram (2000) (500) (10000) [] 0x0,  -- GYS.CYCMAX
  row 0x0403 .u16 (.rw 2) .mram (0) (0) (10000) [] 0x0,  -- GYS.CYCMIN
  row 0x0404 .u8 (.rw 3) .mram (0) (0) (3) [] 0x0,  -- GYS.AUTORST
  row 0x0405 .u16 (.ro) .volatile (0) (0) (65535) [] 0x0,  -- GYS.CYCLAST
  row 0x0406 .u16 (.roClr) .volatile (0) (0) (65535) [] 0x0,  -- GYS.CYCPEAK
  row 0x0407 .u64 (.ro) .volatile (0) (0) (18446744073709551615) [] 0x0,  -- GYS.CYCLE
  row 0x0408 .u8 (.ro) .mram (255) (0) (1) [255] 0x0,  -- GYS.BANK
  row 0x0409 .u32 (.ro) .mram (0) (0) (4294967295) [] 0x0,  -- GYS.PROGID
  row 0x040A .u8 (.ro) .mram (0) (0) (8) [] 0x0,  -- GYS.FAULT
  row 0x040B .u32 (.ro) .mram (0) (0) (131071) [] 0x0,  -- GYS.FAULTPC
  row 0x040C .u64 (.ro) .mram (0) (0) (18446744073709551615) [] 0x0,  -- GYS.FAULTCYC
  row 0x040D .u16 (.ro) .mram (0) (0) (256) [] 0x0   -- GYS.FORCES
]

/-- DEV, PWR, HOST, GRP, GYS and HST parameters. -/
def rowsLow2 : List PInfo := [
  row 0x040E .u16 (.roClr) .volatile (0) (0) (1024) [] 0x0,  -- GYS.LINESPEAK
  row 0x040F .u16 (.roClr) .volatile (0) (0) (65535) [] 0x0,  -- GYS.JLAGPEAK
  row 0x0410 .u64 (.ro) .mram (0) (0) (18446744073709551615) [] 0x0,  -- GYS.RESUMECYC
  row 0x0411 .u16 (.ro) .mram (0) (0) (6000) [] 0x0,  -- GYS.OCPAUSE
  row 0x0800 .u8 (.ro) .volatile (1) (0) (11) [] 0x0,  -- HST.STATE
  row 0x0801 .u8 (.rw 2) .mram (0) (0) (8) [] 0x0,  -- HST.CMDSRC
  row 0x0802 .u8 (.ro) .volatile (0) (0) (2) [] 0x0,  -- HST.MODE
  row 0x0803 .u8 (.rw 2) .mram (2) (2) (128) [] 0x0,  -- HST.NLAND
  row 0x0804 .u32 (.rw 2) .mram (1000000) (100000) (10000000) [] 0x0,  -- HST.VRATED
  row 0x0805 .u32 (.rw 2) .mram (800000) (100000) (1600000) [] 0x0,  -- HST.AMAX
  row 0x0806 .u32 (.rw 2) .mram (1000000) (100000) (2500000) [] 0x0,  -- HST.JMAX
  row 0x0807 .u32 (.rw 2) .mram (300000) (10000) (630000) [] 0x0,  -- HST.VINSP
  row 0x0808 .u32 (.rw 2) .mram (300000) (50000) (500000) [] 0x0,  -- HST.VLEARN
  row 0x0809 .u32 (.rw 2) .mram (100000) (10000) (300000) [] 0x0,  -- HST.VRELEV
  row 0x080A .u8 (.rw 2) .mram (0) (0) (1) [] 0x0,  -- HST.REVPOL
  row 0x080B .u16 (.rw 2) .mram (500) (100) (5000) [] 0x0,  -- HST.BRKDWELL
  row 0x080C .u16 (.rw 2) .mram (40) (0) (500) [] 0x0,  -- HST.EMPTYKG
  row 0x080D .u16 (.rw 2) .mram (3000) (1000) (10000) [] 0x0,  -- HST.LEVTOL
  row 0x080E .u16 (.rw 2) .mram (6000) (2000) (20000) [] 0x0,  -- HST.RELEVTOL
  row 0x080F .u32 (.rw 2) .mram (50000) (5000) (200000) [] 0x0,  -- HST.TRKLIM
  row 0x0810 .u8 (.rw 2) .mram (0) (0) (7) [] 0x7,  -- HST.PSDIR
  row 0x0811 .s32 (.rw 2) .mram (0) (-2147483648) (2147483647) [] 0x0,  -- HST.PSAOFS
  row 0x0812 .s32 (.rw 2) .mram (0) (-2147483648) (2147483647) [] 0x0,  -- HST.PSBOFS
  row 0x0813 .u8 (.rw 2) .mram (1) (0) (2) [] 0x0,  -- HST.SSIRATE
  row 0x0814 .u8 (.rw 2) .mram (0) (0) (1) [] 0x0,  -- HST.SSIMODE
  row 0x0815 .u32 (.rw 2) .mram (0) (1000) (10000000) [0] 0x0,  -- HST.INCRES
  row 0x0816 .u16 (.rw 2) .mram (200) (20) (2000) [] 0x0,  -- HST.FUSEBW
  row 0x0817 .u32 (.rw 2) .mram (2000) (500) (5000) [] 0x0,  -- HST.FUSELIM
  row 0x0818 .u8 (.rw 2) .mram (0) (0) (1) [] 0x0,  -- HST.ZEROMODE
  row 0x0819 .u8 (.rw 2) .mram (255) (0) (47) [255] 0x0,  -- HST.DZFIO
  row 0x081A .u8 (.rw 2) .mram (255) (0) (47) [255] 0x0,  -- HST.LIMLO
  row 0x081B .u8 (.rw 2) .mram (255) (0) (47) [255] 0x0,  -- HST.LIMHI
  row 0x081C .u8 (.rw 2) .mram (255) (0) (47) [255] 0x0,  -- HST.TSDLO
  row 0x081D .u8 (.rw 2) .mram (255) (0) (47) [255] 0x0,  -- HST.TSDHI
  row 0x081E .u32 (.rw 2) .mram (20000) (2000) (200000) [] 0x0,  -- HST.BLACKOUT
  row 0x081F .bool (.rw 2) .mram (1) (0) (1) [] 0x0,  -- HST.STRLEARN
  row 0x0820 .u16 (.rw 2) .mram (100) (0) (500) [] 0x0,  -- HST.STRGAIN
  row 0x0821 .u8 (.rw 2) .mram (0) (0) (3) [] 0x0,  -- HST.LWSEL
  row 0x0822 .s32 (.rw 2) .mram (0) (-10000000) (10000000) [] 0x0,  -- HST.LWEMPTY
  row 0x0823 .s32 (.rw 2) .mram (5000000) (-10000000) (10000000) [] 0x0   -- HST.LWFULL
]

/-- DEV, PWR, HOST, GRP, GYS and HST parameters. -/
def rowsLow3 : List PInfo := [
  row 0x0824 .u16 (.rw 2) .mram (1000) (100) (10000) [] 0x0,  -- HST.RATEDKG
  row 0x0825 .u16 (.rw 2) .mram (500) (0) (10000) [] 0x0,  -- HST.BALKG
  row 0x0826 .u32 (.rw 2) .mram (3000) (100) (100000) [] 0x0,  -- HST.INERTKG
  row 0x0827 .u32 (.rw 2) .mram (10000) (1000) (1000000) [] 0x0,  -- HST.FRATED
  row 0x0828 .u8 (.rw 2) .mram (0) (0) (1) [] 0x0,  -- HST.DLRATE
  row 0x0829 .u16 (.rw 2) .mram (20) (2) (100) [] 0x0,  -- HST.DLOFS
  row 0x082A .u16 (.rw 2) .mram (3000) (500) (10000) [] 0x0,  -- HST.STARTTMO
  row 0x0840 .s32 (.ro) .mram (0) (-2147483648) (2147483647) [] 0x0,  -- HST.TERMLO
  row 0x0841 .s32 (.ro) .mram (0) (-2147483648) (2147483647) [] 0x0,  -- HST.TERMHI
  row 0x0842 .u8 (.ro) .mram (0) (0) (3) [] 0x0,  -- HST.LEARNSTAT
  row 0x0843 .u8 (.ro) .mram (0) (0) (6) [] 0x0,  -- HST.LEARNCAUSE
  row 0x0844 .s32 (.ro) .volatile (0) (-2147483648) (2147483647) [] 0x0,  -- HST.POSA
  row 0x0845 .s32 (.ro) .volatile (0) (-2147483648) (2147483647) [] 0x0,  -- HST.POSB
  row 0x0846 .s32 (.ro) .volatile (0) (-2147483648) (2147483647) [] 0x0,  -- HST.POSF
  row 0x0847 .s32 (.ro) .volatile (0) (-2147483648) (2147483647) [] 0x0,  -- HST.SPEED
  row 0x0848 .s32 (.ro) .volatile (0) (-2147483648) (2147483647) [] 0x0,  -- HST.FUSERES
  row 0x0849 .u16 (.ro) .volatile (0) (0) (65535) [] 0x0,  -- HST.LOAD
  row 0x084A .s32 (.ro) .volatile (0) (-2147483648) (2147483647) [] 0x0,  -- HST.PLANTGT
  row 0x084B .u8 (.ro) .volatile (0) (0) (4) [] 0x0,  -- HST.PLANCODE
  row 0x084C .u32 (.ro) .volatile (0) (0) (4294967295) [] 0x0,  -- HST.PLANVPK
  row 0x084D .u32 (.ro) .volatile (0) (0) (4294967295) [] 0x0,  -- HST.PLANREM
  row 0x084E .u8 (.ro) .volatile (255) (0) (127) [255] 0x0,  -- HST.REVLAND
  row 0x084F .s32 (.ro) .mram (0) (-2147483648) (2147483647) [] 0x0,  -- HST.LEVERR
  row 0x0850 .u8 (.ro) .volatile (0) (0) (3) [] 0x0,  -- HST.DLSTAT
  row 0x0851 .u32 (.roClr) .volatile (0) (0) (4294967295) [] 0x0,  -- HST.DLMISS
  row 0x0852 .u32 (.roClr) .mram (0) (0) (4294967295) [] 0x0,  -- HST.DLFAULTS
  row 0x0853 .u8 (.ro) .volatile (0) (0) (255) [] 0x0,  -- HST.INVSTAT
  row 0x0854 .u8 (.ro) .volatile (0) (0) (255) [] 0x0,  -- HST.INVFAULT
  row 0x0855 .u32 (.roClr) .mram (0) (0) (4294967295) [] 0x0   -- HST.RUNS
]

/-- DEV, PWR, HOST, GRP, GYS and HST parameters. -/
def rowsLow : List PInfo := rowsLow0 ++ rowsLow1 ++ rowsLow2 ++ rowsLow3

/-- Parameters of a Caldera slot, by offset in the slot (10 R264). -/
def rowsCle0 : List PInfo := [
  row 0x0000 .q427 (.rw 2) .mram (0) (-2147483648) (2147483647) [] 0x0,  -- CLE.SnKP
  row 0x0001 .q427 (.rw 2) .mram (0) (-2147483648) (2147483647) [] 0x0,  -- CLE.SnKI
  row 0x0002 .q427 (.rw 2) .mram (0) (-2147483648) (2147483647) [] 0x0,  -- CLE.SnKD
  row 0x0003 .q427 (.rw 2) .mram (0) (0) (134217727) [] 0x0,  -- CLE.SnDFILT
  row 0x0004 .q427 (.rw 2) .mram (0) (0) (134217727) [] 0x0,  -- CLE.SnKT
  row 0x0005 .q427 (.rw 2) .mram (0) (-2147483648) (2147483647) [] 0x0,  -- CLE.SnKFF
  row 0x0006 .q427 (.rw 2) .mram (0) (-2147483648) (2147483647) [] 0x0,  -- CLE.SnPMA1
  row 0x0007 .q427 (.rw 2) .mram (0) (-2147483648) (2147483647) [] 0x0,  -- CLE.SnPMA2
  row 0x0008 .q427 (.rw 2) .mram (0) (-2147483648) (2147483647) [] 0x0,  -- CLE.SnPMB1
  row 0x0009 .q427 (.rw 2) .mram (0) (-2147483648) (2147483647) [] 0x0,  -- CLE.SnPMB2
  row 0x000A .q427 (.rw 2) .mram (0) (0) (134217727) [] 0x0,  -- CLE.SnPMRF
  row 0x000B .q427 (.rw 2) .mram (134217728) (-2147483648) (2147483647) [] 0x0,  -- CLE.SnBQ0B0
  row 0x000C .q427 (.rw 2) .mram (0) (-2147483648) (2147483647) [] 0x0,  -- CLE.SnBQ0B1
  row 0x000D .q427 (.rw 2) .mram (0) (-2147483648) (2147483647) [] 0x0,  -- CLE.SnBQ0B2
  row 0x000E .q427 (.rw 2) .mram (0) (-2147483648) (2147483647) [] 0x0,  -- CLE.SnBQ0A1
  row 0x000F .q427 (.rw 2) .mram (0) (-2147483648) (2147483647) [] 0x0,  -- CLE.SnBQ0A2
  row 0x0010 .q427 (.rw 2) .mram (134217728) (-2147483648) (2147483647) [] 0x0,  -- CLE.SnBQ1B0
  row 0x0011 .q427 (.rw 2) .mram (0) (-2147483648) (2147483647) [] 0x0,  -- CLE.SnBQ1B1
  row 0x0012 .q427 (.rw 2) .mram (0) (-2147483648) (2147483647) [] 0x0,  -- CLE.SnBQ1B2
  row 0x0013 .q427 (.rw 2) .mram (0) (-2147483648) (2147483647) [] 0x0,  -- CLE.SnBQ1A1
  row 0x0014 .q427 (.rw 2) .mram (0) (-2147483648) (2147483647) [] 0x0,  -- CLE.SnBQ1A2
  row 0x0015 .q427 (.rw 2) .mram (134217728) (-2147483648) (2147483647) [] 0x0,  -- CLE.SnBQ2B0
  row 0x0016 .q427 (.rw 2) .mram (0) (-2147483648) (2147483647) [] 0x0,  -- CLE.SnBQ2B1
  row 0x0017 .q427 (.rw 2) .mram (0) (-2147483648) (2147483647) [] 0x0,  -- CLE.SnBQ2B2
  row 0x0018 .q427 (.rw 2) .mram (0) (-2147483648) (2147483647) [] 0x0,  -- CLE.SnBQ2A1
  row 0x0019 .q427 (.rw 2) .mram (0) (-2147483648) (2147483647) [] 0x0,  -- CLE.SnBQ2A2
  row 0x001A .q427 (.rw 2) .mram (134217728) (-2147483648) (2147483647) [] 0x0,  -- CLE.SnBQ3B0
  row 0x001B .q427 (.rw 2) .mram (0) (-2147483648) (2147483647) [] 0x0,  -- CLE.SnBQ3B1
  row 0x001C .q427 (.rw 2) .mram (0) (-2147483648) (2147483647) [] 0x0,  -- CLE.SnBQ3B2
  row 0x001D .q427 (.rw 2) .mram (0) (-2147483648) (2147483647) [] 0x0,  -- CLE.SnBQ3A1
  row 0x001E .q427 (.rw 2) .mram (0) (-2147483648) (2147483647) [] 0x0,  -- CLE.SnBQ3A2
  row 0x001F .q427 (.rw 2) .mram (134217728) (-2147483648) (2147483647) [] 0x0,  -- CLE.SnBQ4B0
  row 0x0020 .q427 (.rw 2) .mram (0) (-2147483648) (2147483647) [] 0x0,  -- CLE.SnBQ4B1
  row 0x0021 .q427 (.rw 2) .mram (0) (-2147483648) (2147483647) [] 0x0,  -- CLE.SnBQ4B2
  row 0x0022 .q427 (.rw 2) .mram (0) (-2147483648) (2147483647) [] 0x0,  -- CLE.SnBQ4A1
  row 0x0023 .q427 (.rw 2) .mram (0) (-2147483648) (2147483647) [] 0x0,  -- CLE.SnBQ4A2
  row 0x0024 .q427 (.rw 2) .mram (134217728) (-2147483648) (2147483647) [] 0x0,  -- CLE.SnBQ5B0
  row 0x0025 .q427 (.rw 2) .mram (0) (-2147483648) (2147483647) [] 0x0,  -- CLE.SnBQ5B1
  row 0x0026 .q427 (.rw 2) .mram (0) (-2147483648) (2147483647) [] 0x0,  -- CLE.SnBQ5B2
  row 0x0027 .q427 (.rw 2) .mram (0) (-2147483648) (2147483647) [] 0x0   -- CLE.SnBQ5A1
]

/-- Parameters of a Caldera slot, by offset in the slot (10 R264). -/
def rowsCle1 : List PInfo := [
  row 0x0028 .q427 (.rw 2) .mram (0) (-2147483648) (2147483647) [] 0x0,  -- CLE.SnBQ5A2
  row 0x0029 .u32 (.rw 2) .mram (1) (0) (4294967295) [] 0xF3F,  -- CLE.SnCFG
  row 0x002A .u8 (.rw 2) .mram (0) (0) (255) [] 0x0,  -- CLE.SnPHASE
  row 0x002B .q131 (.rw 2) .mram (16777216) (0) (2147483647) [] 0x0,  -- CLE.SnRAMP
  row 0x002C .u32 (.rw 2) .mram (0) (1) (2147483647) [] 0x0,  -- CLE.SnFSIN
  row 0x002D .u32 (.rw 2) .mram (0) (1) (2147483647) [] 0x0,  -- CLE.SnFSOUT
  row 0x002E .q131 (.rw 2) .mram (0) (-2147483648) (2147483647) [] 0x0,  -- CLE.SnSETPT
  row 0x002F .q131 (.rw 2) .mram (134217728) (0) (2147483647) [] 0x0,  -- CLE.SnPMTHR
  row 0x0030 .u16 (.rw 2) .mram (20) (1) (65535) [] 0x0,  -- CLE.SnPMQL
  row 0x0031 .u32 (.roClr) .volatile (0) (0) (4294967295) [] 0x7FFFF,  -- CLE.SnSATFL
  row 0x0032 .q131 (.ro) .volatile (0) (-2147483648) (2147483647) [] 0x0,  -- CLE.SnOUT
  row 0x0033 .q131 (.ro) .volatile (0) (-2147483648) (2147483647) [] 0x0,  -- CLE.SnMEAS
  row 0x0034 .u32 (.ro) .volatile (0) (0) (4294967295) [] 0xFF,  -- CLE.SnSTAT
  row 0x0035 .q131 (.ro) .volatile (0) (-2147483648) (2147483647) [] 0x0,  -- CLE.SnPMRES
  row 0x0036 .u32 (.roClr) .mram (0) (0) (4294967295) [] 0x0   -- CLE.SnDLCNT
]

/-- Parameters of a Caldera slot, by offset in the slot (10 R264). -/
def rowsCle : List PInfo := rowsCle0 ++ rowsCle1

/-- Parameters of a repetitive unit, by offset (10 R264). -/
def rowsRc : List PInfo := [
  row 0x0000 .u16 (.rw 2) .mram (0) (0) (65535) [] 0xFF,  -- CLE.RCuCFG
  row 0x0001 .u16 (.rw 2) .mram (655) (0) (65535) [] 0x0,  -- CLE.RCuGAIN
  row 0x0002 .u16 (.rw 2) .mram (65470) (0) (65535) [] 0x0,  -- CLE.RCuFGT
  row 0x0003 .u16 (.rw 2) .mram (4) (0) (511) [] 0x0,  -- CLE.RCuLEAD
  row 0x0004 .u8 (.ro) .volatile (0) (0) (3) [] 0x0,  -- CLE.RCuSTAT
  row 0x0005 .u32 (.roClr) .volatile (0) (0) (4294967295) [] 0x0,  -- CLE.RCuUPD
  row 0x0006 .q131 (.ro) .volatile (0) (0) (2147483647) [] 0x0   -- CLE.RCuRMS
]

/-- Parameters of a trace buffer, by offset (10 R264). -/
def rowsTr : List PInfo := [
  row 0x0000 .u32 (.rw 1) .volatile (0) (0) (4294967295) [] 0xFFFFF7,  -- CLE.TRbCFG
  row 0x0001 .u32 (.rw 1) .volatile (4294967295) (0) (4294967295) [] 0x0,  -- CLE.TRbSIG01
  row 0x0002 .u32 (.rw 1) .volatile (4294967295) (0) (4294967295) [] 0x0,  -- CLE.TRbSIG23
  row 0x0003 .u16 (.rw 1) .volatile (0) (0) (65535) [] 0x0,  -- CLE.TRbTRIG
  row 0x0004 .q131 (.rw 1) .volatile (0) (-2147483648) (2147483647) [] 0x0,  -- CLE.TRbLEVEL
  row 0x0005 .u8 (.ro) .volatile (0) (0) (4) [] 0x0,  -- CLE.TRbSTAT
  row 0x0006 .u64 (.ro) .volatile (0) (0) (18446744073709551615) [] 0x0   -- CLE.TRbTIME
]

/-- Parameters of a door operator, by offset (11 R298). -/
def rowsDr0 : List PInfo := [
  row 0x0000 .u8 (.ro) .volatile (0) (0) (12) [] 0x0,  -- DRn.STATE
  row 0x0001 .u16 (.rw 2) .mram (112) (0) (65535) [] 0xFF,  -- DRn.CFG
  row 0x0002 .u8 (.rw 2) .mram (4) (1) (32) [] 0x0,  -- DRn.POLES
  row 0x0003 .u32 (.rw 2) .mram (1200000) (10000) (10000000) [] 0x0,  -- DRn.EREVTRV
  row 0x0004 .u16 (.rw 2) .mram (0) (0) (65535) [] 0x0,  -- DRn.HALLOFS
  row 0x0005 .u16 (.rw 2) .mram (10000) (1000) (50000) [] 0x0,  -- DRn.RSHUNT
  row 0x0006 .u16 (.rw 2) .mram (500) (100) (2000) [] 0x0,  -- DRn.DEADT
  row 0x0007 .u16 (.rw 2) .mram (240) (120) (600) [] 0x0,  -- DRn.VBUSNOM
  row 0x0008 .u16 (.rw 2) .mram (8000) (500) (20000) [] 0x0,  -- DRn.IMAX
  row 0x0009 .u16 (.rw 2) .mram (1500) (0) (10000) [] 0x0,  -- DRn.IENDRUN
  row 0x000A .u16 (.rw 2) .mram (400) (0) (5000) [] 0x0,  -- DRn.IHOLD
  row 0x000B .u16 (.rw 2) .mram (2000) (0) (60000) [] 0x0,  -- DRn.HOLDDLY
  row 0x000C .u16 (.rw 2) .mram (1200) (0) (10000) [] 0x0,  -- DRn.IBOOST
  row 0x000D .u16 (.rw 2) .mram (3000) (0) (30000) [] 0x0,  -- DRn.BOOSTLEAD
  row 0x000E .u16 (.rw 2) .mram (8000) (0) (60000) [] 0x0,  -- DRn.BOOSTWIN
  row 0x000F .u16 (.rw 2) .mram (2000) (100) (60000) [] 0x0,  -- DRn.KFORCE
  row 0x0010 .u32 (.rw 2) .mram (0) (100000) (3000000) [0] 0x0,  -- DRn.TRAVEL
  row 0x0011 .u8 (.rw 2) .mram (255) (0) (47) [255] 0x0,  -- DRn.DCFIO
  row 0x0012 .u8 (.rw 2) .mram (255) (0) (47) [255] 0x0,  -- DRn.DOFIO
  row 0x0013 .u8 (.rw 2) .mram (255) (0) (47) [255] 0x0,  -- DRn.LCFIO
  row 0x0014 .u8 (.rw 2) .mram (0) (0) (7) [] 0x7,  -- DRn.INPOL
  row 0x0015 .u32 (.rw 2) .mram (5000) (1000) (50000) [] 0x0,  -- DRn.REFTOL
  row 0x0016 .u32 (.rw 2) .mram (500000) (50000) (1500000) [] 0x0,  -- DRn.VOPEN
  row 0x0017 .u32 (.rw 2) .mram (300000) (50000) (1000000) [] 0x0,  -- DRn.VCLOSE
  row 0x0018 .u32 (.rw 2) .mram (150000) (20000) (300000) [] 0x0,  -- DRn.VNUDGE
  row 0x0019 .u32 (.rw 2) .mram (100000) (20000) (200000) [] 0x0,  -- DRn.VREF
  row 0x001A .u32 (.rw 2) .mram (150000) (50000) (300000) [] 0x0,  -- DRn.VLEARN
  row 0x001B .u32 (.rw 2) .mram (1000000) (100000) (5000000) [] 0x0,  -- DRn.AOPEN
  row 0x001C .u32 (.rw 2) .mram (800000) (100000) (5000000) [] 0x0,  -- DRn.ACLOSE
  row 0x001D .u32 (.rw 2) .mram (3000000) (500000) (10000000) [] 0x0,  -- DRn.AREV
  row 0x001E .u16 (.rw 2) .mram (1500) (100) (3000) [] 0x0,  -- DRn.FOPEN
  row 0x001F .u16 (.rw 2) .mram (1350) (100) (1500) [] 0x0,  -- DRn.FCLOSE
  row 0x0020 .u16 (.rw 2) .mram (10000) (100) (10000) [] 0x0,  -- DRn.EOPEN
  row 0x0021 .u16 (.rw 2) .mram (10000) (100) (10000) [] 0x0,  -- DRn.ECLOSE
  row 0x0022 .u16 (.rw 2) .mram (4000) (100) (4000) [] 0x0,  -- DRn.ENUDGE
  row 0x0023 .u16 (.rw 2) .mram (2000) (50) (5000) [] 0x0,  -- DRn.MASSDEF
  row 0x0024 .u16 (.rw 2) .mram (600) (100) (1500) [] 0x0,  -- DRn.OBSF
  row 0x0025 .u8 (.rw 2) .mram (4) (1) (30) [] 0x0,  -- DRn.OBSQL
  row 0x0026 .u32 (.rw 2) .mram (10000) (0) (50000) [] 0x0,  -- DRn.OBSZONE
  row 0x0027 .u8 (.rw 2) .mram (3) (0) (15) [] 0x0   -- DRn.REOPENMAX
]

/-- Parameters of a door operator, by offset (11 R298). -/
def rowsDr1 : List PInfo := [
  row 0x0028 .u8 (.rw 2) .mram (255) (0) (3) [255] 0x0,  -- DRn.CAMSEL
  row 0x0029 .u32 (.rw 2) .mram (300000) (10000) (800000) [] 0x0,  -- DRn.VADV
  row 0x002A .u16 (.rw 2) .mram (6554) (0) (65535) [] 0x0,  -- DRn.PGAIN
  row 0x002B .u16 (.rw 2) .mram (20) (1) (200) [] 0x0,  -- DRn.PSTEP
  row 0x002C .u16 (.rw 2) .mram (1500) (100) (3000) [] 0x0,  -- DRn.PMAXF
  row 0x002D .u16 (.rw 2) .mram (400) (50) (1500) [] 0x0,  -- DRn.PREJ
  row 0x002E .u32 (.rw 2) .mram (50000) (10000) (300000) [] 0x0,  -- DRn.SLVMIN
  row 0x002F .u16 (.rw 2) .mram (2000) (100) (10000) [] 0x0,  -- DRn.IALIGN
  row 0x0030 .u16 (.rw 2) .mram (3435) (2000) (6000) [] 0x0,  -- DRn.NTCB
  row 0x0031 .s16 (.rw 2) .mram (1200) (0) (1800) [] 0x0,  -- DRn.TWARN
  row 0x0032 .s16 (.rw 2) .mram (1400) (0) (1800) [] 0x0,  -- DRn.TTRIP
  row 0x0033 .u32 (.ro) .mram (0) (0) (3000000) [] 0x0,  -- DRn.DOEDGE
  row 0x0040 .s32 (.ro) .volatile (0) (-2147483648) (2147483647) [] 0x0,  -- DRn.POS
  row 0x0041 .s32 (.ro) .volatile (0) (-2147483648) (2147483647) [] 0x0,  -- DRn.SPEED
  row 0x0042 .s16 (.ro) .volatile (0) (-32768) (32767) [] 0x0,  -- DRn.FORCE
  row 0x0043 .u16 (.ro) .volatile (0) (0) (65535) [] 0x0,  -- DRn.ENERGY
  row 0x0044 .s16 (.ro) .volatile (0) (-32768) (32767) [] 0x0,  -- DRn.IQ
  row 0x0045 .s16 (.ro) .volatile (0) (-400) (2000) [] 0x0,  -- DRn.TWIND
  row 0x0046 .u8 (.ro) .volatile (0) (0) (2) [] 0x0,  -- DRn.REFSTAT
  row 0x0047 .u8 (.ro) .volatile (0) (0) (255) [] 0x0,  -- DRn.REOPENS
  row 0x0048 .u8 (.ro) .mram (0) (0) (10) [] 0x0,  -- DRn.FAULT
  row 0x0049 .u8 (.ro) .volatile (255) (0) (127) [255] 0x0,  -- DRn.LANDING
  row 0x004A .u32 (.roClr) .mram (0) (0) (4294967295) [] 0x0,  -- DRn.CYCLES
  row 0x004B .u32 (.roClr) .mram (0) (0) (4294967295) [] 0x0,  -- DRn.OBSCOUNT
  row 0x004C .u32 (.roClr) .volatile (0) (0) (4294967295) [] 0x0   -- DRn.HALLERR
]

/-- Parameters of a door operator, by offset (11 R298). -/
def rowsDr : List PInfo := rowsDr0 ++ rowsDr1

/-- SAF parameters (12 R331). -/
def rowsSaf0 : List PInfo := [
  row 0x1400 .u32 (.sw) .safe (0) (0) (4294967295) [] 0x0,  -- SAF.SETID
  row 0x1401 .u32 (.sw) .safe (1000000) (100000) (10000000) [] 0x0,  -- SAF.VRATED
  row 0x1402 .u16 (.sw) .safe (1100) (1020) (1150) [] 0x0,  -- SAF.VOSPCT
  row 0x1403 .u32 (.sw) .safe (400000) (10000) (630000) [] 0x0,  -- SAF.VINSP
  row 0x1404 .u32 (.sw) .safe (300000) (10000) (300000) [] 0x0,  -- SAF.VRESC
  row 0x1405 .u32 (.sw) .safe (800000) (10000) (800000) [] 0x0,  -- SAF.VADV
  row 0x1406 .u32 (.sw) .safe (300000) (10000) (300000) [] 0x0,  -- SAF.VRELEV
  row 0x1407 .u32 (.sw) .safe (100000) (20000) (200000) [] 0x0,  -- SAF.DZHALF
  row 0x1408 .u8 (.sw) .safe (2) (2) (128) [] 0x0,  -- SAF.NLAND
  row 0x1409 .u8 (.sw) .safe (0) (0) (7) [] 0x7,  -- SAF.PSDIR
  row 0x140A .s32 (.sw) .safe (0) (-2147483648) (2147483647) [] 0x0,  -- SAF.PSAOFS
  row 0x140B .s32 (.sw) .safe (0) (-2147483648) (2147483647) [] 0x0,  -- SAF.PSBOFS
  row 0x140C .u32 (.sw) .safe (0) (10000) (100000000) [0] 0x0,  -- SAF.INCPER
  row 0x140D .u32 (.sw) .safe (800000) (300000) (1600000) [] 0x0,  -- SAF.ATSD
  row 0x140E .u32 (.sw) .safe (200000) (50000) (1000000) [] 0x0,  -- SAF.TSDMARG
  row 0x140F .u32 (.sw) .safe (20000) (0) (200000) [] 0x0,  -- SAF.TSDOVR
  row 0x1410 .s32 (.sw) .safe (0) (-2147483648) (2147483647) [] 0x0,  -- SAF.INSPLO
  row 0x1411 .s32 (.sw) .safe (0) (-2147483648) (2147483647) [] 0x0,  -- SAF.INSPHI
  row 0x1412 .u16 (.sw) .safe (500) (100) (2000) [] 0x0,  -- SAF.BRKLIFT
  row 0x1413 .u16 (.sw) .safe (500) (100) (2000) [] 0x0,  -- SAF.BRKDROP
  row 0x1414 .u16 (.sw) .safe (24) (0) (168) [] 0x0,  -- SAF.BTINT
  row 0x1415 .u16 (.sw) .safe (10000) (5000) (30000) [] 0x0,  -- SAF.BTTORQ
  row 0x1416 .u32 (.sw) .safe (2000) (500) (10000) [] 0x0,  -- SAF.BTMOVE
  row 0x1417 .u8 (.sw) .safe (0) (0) (15) [] 0xF,  -- SAF.SOUSE
  row 0x1418 .bool (.sw) .safe (1) (0) (1) [] 0x0,  -- SAF.RSTUSE
  row 0x1419 .u8 (.sw) .safe (0) (0) (3) [] 0x3,  -- SAF.SHMODE
  row 0x141A .u32 (.sw) .safe (500000) (500000) (5000000) [] 0x0,  -- SAF.GUARD
  row 0x141B .u16 (.sw) .safe (300) (50) (1000) [] 0x0,  -- SAF.TBRAKE
  row 0x141C .u32 (.sw) .safe (800000) (300000) (1600000) [] 0x0,  -- SAF.ABRAKE
  row 0x141D .u32 (.sw) .safe (1000000) (300000) (2500000) [] 0x0,  -- SAF.JBRAKE
  row 0x141E .u32 (.sw) .safe (3000000) (0) (10000000) [] 0x0,  -- SAF.SILLTOP
  row 0x141F .u32 (.sw) .safe (1000000) (0) (10000000) [] 0x0,  -- SAF.SILLBOT
  row 0x1420 .u8 (.sw) .safe (5) (2) (20) [] 0x0,  -- SAF.NLLOSS
  row 0x1430 .u8 (.sw) .safe (0) (0) (10) [] 0x0,  -- SAF.SIFUNn
  row 0x1431 .u8 (.sw) .safe (0) (0) (10) [] 0x0,  -- SAF.SIFUNn
  row 0x1432 .u8 (.sw) .safe (0) (0) (10) [] 0x0,  -- SAF.SIFUNn
  row 0x1433 .u8 (.sw) .safe (0) (0) (10) [] 0x0,  -- SAF.SIFUNn
  row 0x1434 .u8 (.sw) .safe (0) (0) (10) [] 0x0,  -- SAF.SIFUNn
  row 0x1435 .u8 (.sw) .safe (0) (0) (10) [] 0x0,  -- SAF.SIFUNn
  row 0x1436 .u8 (.sw) .safe (0) (0) (10) [] 0x0   -- SAF.SIFUNn
]

/-- SAF parameters (12 R331). -/
def rowsSaf1 : List PInfo := [
  row 0x1437 .u8 (.sw) .safe (0) (0) (10) [] 0x0,  -- SAF.SIFUNn
  row 0x1438 .u8 (.sw) .safe (0) (0) (10) [] 0x0,  -- SAF.SIFUNn
  row 0x1439 .u8 (.sw) .safe (0) (0) (10) [] 0x0,  -- SAF.SIFUNn
  row 0x143A .u8 (.sw) .safe (0) (0) (10) [] 0x0,  -- SAF.SIFUNn
  row 0x143B .u8 (.sw) .safe (0) (0) (10) [] 0x0,  -- SAF.SIFUNn
  row 0x143C .u8 (.sw) .safe (0) (0) (10) [] 0x0,  -- SAF.SIFUNn
  row 0x143D .u8 (.sw) .safe (0) (0) (10) [] 0x0,  -- SAF.SIFUNn
  row 0x1440 .u8 (.sw) .safe (4) (2) (8) [] 0x0,  -- SAF.SIFILTn
  row 0x1441 .u8 (.sw) .safe (4) (2) (8) [] 0x0,  -- SAF.SIFILTn
  row 0x1442 .u8 (.sw) .safe (4) (2) (8) [] 0x0,  -- SAF.SIFILTn
  row 0x1443 .u8 (.sw) .safe (4) (2) (8) [] 0x0,  -- SAF.SIFILTn
  row 0x1444 .u8 (.sw) .safe (4) (2) (8) [] 0x0,  -- SAF.SIFILTn
  row 0x1445 .u8 (.sw) .safe (4) (2) (8) [] 0x0,  -- SAF.SIFILTn
  row 0x1446 .u8 (.sw) .safe (4) (2) (8) [] 0x0,  -- SAF.SIFILTn
  row 0x1447 .u8 (.sw) .safe (4) (2) (8) [] 0x0,  -- SAF.SIFILTn
  row 0x1448 .u8 (.sw) .safe (4) (2) (8) [] 0x0,  -- SAF.SIFILTn
  row 0x1449 .u8 (.sw) .safe (4) (2) (8) [] 0x0,  -- SAF.SIFILTn
  row 0x144A .u8 (.sw) .safe (4) (2) (8) [] 0x0,  -- SAF.SIFILTn
  row 0x144B .u8 (.sw) .safe (4) (2) (8) [] 0x0,  -- SAF.SIFILTn
  row 0x144C .u8 (.sw) .safe (4) (2) (8) [] 0x0,  -- SAF.SIFILTn
  row 0x144D .u8 (.sw) .safe (4) (2) (8) [] 0x0,  -- SAF.SIFILTn
  row 0x1460 .u8 (.ro) .volatile (0) (0) (255) [] 0x0,  -- SAF.STATUS
  row 0x1461 .u16 (.ro) .volatile (0) (0) (65535) [] 0x7FF,  -- SAF.TRIPCAUSE
  row 0x1462 .u8 (.ro) .volatile (0) (0) (255) [] 0x0,  -- SAF.OUTSTAT
  row 0x1463 .u16 (.ro) .volatile (0) (0) (65535) [] 0x0,  -- SAF.SISTAT
  row 0x1464 .u8 (.ro) .volatile (0) (0) (2) [] 0x0,  -- SAF.MODE
  row 0x1465 .s32 (.ro) .volatile (0) (-2147483648) (2147483647) [] 0x0,  -- SAF.POS
  row 0x1466 .s32 (.ro) .volatile (0) (-2147483648) (2147483647) [] 0x0,  -- SAF.SPEED
  row 0x1467 .u8 (.ro) .volatile (255) (0) (127) [255] 0x0,  -- SAF.LANDING
  row 0x1468 .u32 (.ro) .safe (0) (0) (4294967295) [] 0x0,  -- SAF.SETCRC
  row 0x1469 .u8 (.ro) .volatile (255) (0) (7) [255] 0x0,  -- SAF.PSLOT
  row 0x146A .u8 (.ro) .mram (0) (0) (12) [] 0x0,  -- SAF.LOCKCAUSE
  row 0x146B .u16 (.ro) .mram (0) (0) (65535) [] 0x0,  -- SAF.LASTTRIP
  row 0x146C .u32 (.ro) .mram (0) (0) (4294967295) [] 0x0,  -- SAF.TRIPCOUNT
  row 0x146D .u32 (.ro) .mram (0) (0) (4294967295) [] 0x0,  -- SAF.SETCOUNT
  row 0x146E .u8 (.ro) .mram (0) (0) (4) [] 0x0,  -- SAF.BTRESULT
  row 0x146F .u48 (.ro) .mram (0) (0) (281474976710655) [] 0x0,  -- SAF.BTTIME
  row 0x1470 .u8 (.ro) .mram (0) (0) (255) [] 0x0   -- SAF.STUCK
]

/-- SAF parameters (12 R331). -/
def rowsSaf : List PInfo := rowsSaf0 ++ rowsSaf1

/-- Parameters of a field channel, by offset (13 R349). -/
def rowsFio : List PInfo := [
  row 0x0000 .u16 (.rw 2) .mram (0) (0) (65535) [] 0x31F,  -- FIO.CnCFG
  row 0x0001 .u16 (.rw 2) .mram (3000) (0) (50000) [] 0x0,  -- FIO.CnFILT
  row 0x0002 .u32 (.ro) .volatile (0) (0) (4294967295) [] 0x0,  -- FIO.CnSTAT
  row 0x0003 .u64 (.ro) .volatile (0) (0) (18446744073709551615) [] 0x0,  -- FIO.CnRISE
  row 0x0004 .u64 (.ro) .volatile (0) (0) (18446744073709551615) [] 0x0,  -- FIO.CnFALL
  row 0x0005 .u32 (.roClr) .volatile (0) (0) (4294967295) [] 0x0,  -- FIO.CnEDGES
  row 0x0006 .u32 (.roClr) .mram (0) (0) (4294967295) [] 0x0   -- FIO.CnFLTS
]

/-- Parameters of a CAN controller, by offset (14 R371). -/
def rowsCan : List PInfo := [
  row 0x0000 .u8 (.rw 2) .mram (7) (0) (255) [] 0x7,  -- CANb.CFG
  row 0x0001 .u8 (.rw 2) .mram (2) (0) (3) [] 0x0,  -- CANb.NBR
  row 0x0002 .u16 (.rw 2) .mram (800) (600) (900) [] 0x0,  -- CANb.NSP
  row 0x0003 .u8 (.rw 2) .mram (1) (0) (3) [] 0x0,  -- CANb.DBR
  row 0x0004 .u16 (.rw 2) .mram (750) (600) (900) [] 0x0,  -- CANb.DSP
  row 0x0005 .u8 (.rw 2) .mram (5) (0) (255) [] 0x0,  -- CANb.WAKECLS
  row 0x0006 .u16 (.rw 2) .mram (1000) (0) (60000) [] 0x0,  -- CANb.BOFFDLY
  row 0x0008 .u8 (.wo 2) .volatile (0) (0) (127) [] 0x0,  -- CANb.CANCEL
  row 0x0009 .u8 (.rw 0) .volatile (0) (0) (127) [] 0x0,  -- CANb.OBJSEL
  row 0x0010 .u8 (.ro) .volatile (0) (0) (3) [] 0x0,  -- CANb.STATE
  row 0x0011 .u8 (.ro) .volatile (0) (0) (255) [] 0x7,  -- CANb.STAT
  row 0x0012 .u8 (.ro) .volatile (0) (0) (255) [] 0x0,  -- CANb.TEC
  row 0x0013 .u8 (.ro) .volatile (0) (0) (255) [] 0x0,  -- CANb.REC
  row 0x0014 .u16 (.ro) .volatile (0) (0) (1000) [] 0x0,  -- CANb.LOAD
  row 0x0015 .u32 (.ro) .volatile (0) (0) (4294967295) [] 0x3FFFF,  -- CANb.OBJSTAT
  row 0x0016 .u16 (.ro) .volatile (0) (0) (1000) [] 0x0,  -- CANb.TDCVAL
  row 0x0018 .u32 (.roClr) .mram (0) (0) (4294967295) [] 0x0,  -- CANb.NOACKCNT
  row 0x0019 .u32 (.roClr) .mram (0) (0) (4294967295) [] 0x0,  -- CANb.ERRCNT
  row 0x001A .u32 (.roClr) .mram (0) (0) (4294967295) [] 0x0,  -- CANb.BOFFCNT
  row 0x001B .u32 (.roClr) .mram (0) (0) (4294967295) [] 0x0,  -- CANb.ALONECNT
  row 0x001C .u32 (.roClr) .mram (0) (0) (4294967295) [] 0x0,  -- CANb.LOSTCNT
  row 0x001D .u32 (.roClr) .volatile (0) (0) (4294967295) [] 0x0,  -- CANb.RXOVR
  row 0x001E .u32 (.roClr) .volatile (0) (0) (4294967295) [] 0x0,  -- CANb.UNKCNT
  row 0x001F .u32 (.roClr) .volatile (0) (0) (4294967295) [] 0x0   -- CANb.SVCCNT
]

/-- Single indices above 0x0C00: CLE engine, FIO block, RNG, DSP, SHF, TPH, RTC and SEC. -/
def rowsHi0 : List PInfo := [
  row 0x0E38 .u32 (.ro) .volatile (4095) (0) (4294967295) [] 0xFFF,  -- CLE.WINNER
  row 0x0E39 .u16 (.ro) .volatile (0) (0) (65535) [] 0x0,  -- CLE.FLTMASK
  row 0x0E3A .u16 (.roClr) .volatile (0) (0) (65535) [] 0x0,  -- CLE.PMMASK
  row 0x1607 .u16 (.rw 2) .mram (1000) (100) (60000) [] 0x0,  -- FIO.RETRYT
  row 0x160F .u8 (.rw 2) .mram (3) (1) (15) [] 0x0,  -- FIO.RETRYMX
  row 0x1617 .u16 (.ro) .volatile (0) (0) (60000) [] 0x0,  -- FIO.AGGCURR
  row 0x161F .u16 (.roClr) .volatile (0) (0) (60000) [] 0x0,  -- FIO.AGGPEAK
  row 0x1627 .u64 (.ro) .volatile (0) (0) (281474976710655) [] 0xFFFFFFFFFFFF,  -- FIO.FAULTS
  row 0x162F .u32 (.roClr) .mram (0) (0) (4294967295) [] 0x0,  -- FIO.SHEDCNT
  row 0x1A00 .u16 (.rw 3) .mram (65535) (0) (1023) [65535] 0x0,  -- RNG.ADDR
  row 0x1A01 .u16 (.rw 3) .mram (0) (0) (65535) [] 0x0,  -- RNG.DOMAIN
  row 0x1A02 .u8 (.rw 2) .mram (1) (0) (2) [] 0x0,  -- RNG.TOPO
  row 0x1A03 .u8 (.rw 2) .mram (8) (0) (255) [] 0xF,  -- RNG.PACFG
  row 0x1A04 .u8 (.rw 2) .mram (8) (0) (255) [] 0xF,  -- RNG.PBCFG
  row 0x1A05 .bool (.rw 2) .mram (1) (0) (1) [] 0x0,  -- RNG.MGRCAND
  row 0x1A06 .bool (.rw 2) .mram (1) (0) (1) [] 0x0,  -- RNG.TMCAND
  row 0x1A07 .u16 (.rw 2) .mram (1024) (8) (1024) [] 0x0,  -- RNG.HOPLIM
  row 0x1A08 .u8 (.rw 2) .mram (2) (1) (10) [] 0x0,  -- RNG.TESTPER
  row 0x1A09 .u8 (.rw 2) .mram (3) (2) (10) [] 0x0,  -- RNG.TESTLOSS
  row 0x1A0A .u16 (.rw 2) .mram (1000) (1) (60000) [0] 0x0,  -- RNG.SYNCPER
  row 0x1A20 .u16 (.ro) .volatile (0) (0) (65535) [] 0x3FF,  -- RNG.STAT
  row 0x1A21 .u8 (.ro) .volatile (0) (0) (2) [] 0x0,  -- RNG.PAAMP
  row 0x1A22 .u8 (.ro) .volatile (0) (0) (255) [] 0x0,  -- RNG.PBAMP
  row 0x1A23 .u16 (.ro) .volatile (65535) (0) (1023) [65535] 0x0,  -- RNG.MANAGER
  row 0x1A24 .u16 (.ro) .volatile (65535) (0) (1023) [65535] 0x0,  -- RNG.TMASTER
  row 0x1A25 .u64 (.ro) .mram (0) (0) (18446744073709551615) [] 0x0,  -- RNG.TIME
  row 0x1A26 .s32 (.ro) .volatile (0) (-2147483648) (2147483647) [] 0x0,  -- RNG.TOFFS
  row 0x1A27 .u64 (.ro) .volatile (0) (0) (18446744073709551615) [] 0x0,  -- RNG.SYNCCAP
  row 0x1A28 .u32 (.ro) .volatile (0) (0) (100000) [] 0x0,  -- RNG.LDELAYA
  row 0x1A29 .u32 (.ro) .volatile (0) (0) (100000) [] 0x0,  -- RNG.LDELAYB
  row 0x1A2A .u16 (.ro) .volatile (0) (0) (1024) [] 0x0,  -- RNG.PEERS
  row 0x1A2B .u16 (.ro) .volatile (0) (0) (1024) [] 0x0,  -- RNG.HOPMAX
  row 0x1A2C .u16 (.ro) .volatile (0) (0) (1000) [] 0x0,  -- RNG.LOADA
  row 0x1A2D .u16 (.ro) .volatile (0) (0) (1000) [] 0x0,  -- RNG.LOADB
  row 0x1A30 .u32 (.roClr) .mram (0) (0) (4294967295) [] 0x0,  -- RNG.HEALS
  row 0x1A31 .u32 (.roClr) .volatile (0) (0) (4294967295) [] 0x0,  -- RNG.FCSERR
  row 0x1A32 .u32 (.roClr) .volatile (0) (0) (4294967295) [] 0x0,  -- RNG.STRIPPED
  row 0x1A33 .u32 (.roClr) .volatile (0) (0) (4294967295) [] 0x0,  -- RNG.TAGFAIL
  row 0x1A34 .u32 (.roClr) .volatile (0) (0) (4294967295) [] 0x0,  -- RNG.STALECNT
  row 0x1B00 .bool (.rw 2) .mram (0) (0) (1) [] 0x0   -- DSP.ENABLE
]

/-- Single indices above 0x0C00: CLE engine, FIO block, RNG, DSP, SHF, TPH, RTC and SEC. -/
def rowsHi1 : List PInfo := [
  row 0x1B01 .u8 (.rw 2) .mram (255) (0) (63) [255] 0x0,  -- DSP.GROUP
  row 0x1B02 .u16 (.rw 2) .mram (50) (10) (200) [] 0x0,  -- DSP.BIDWIN
  row 0x1B03 .u16 (.rw 2) .mram (1200) (0) (10000) [] 0x0,  -- DSP.STARTMS
  row 0x1B04 .u16 (.rw 2) .mram (8000) (2000) (60000) [] 0x0,  -- DSP.STOPMS
  row 0x1B05 .u8 (.rw 2) .mram (60) (0) (100) [] 0x0,  -- DSP.LOADKNEE
  row 0x1B06 .u16 (.rw 2) .mram (200) (0) (10000) [] 0x0,  -- DSP.WLOAD
  row 0x1B07 .u8 (.rw 2) .mram (80) (10) (100) [] 0x0,  -- DSP.FULLPCT
  row 0x1B08 .u16 (.rw 2) .mram (20) (0) (1000) [] 0x0,  -- DSP.WENERGY
  row 0x1B09 .u32 (.rw 2) .mram (0) (0) (4294967295) [] 0x0,  -- DSP.CCVAR
  row 0x1B0A .u16 (.rw 2) .mram (200) (110) (1000) [] 0x0,  -- DSP.REAUCT
  row 0x1B0B .u16 (.rw 2) .mram (800) (600) (5000) [] 0x0,  -- DSP.PEERLOSS
  row 0x1B0C .u16 (.rw 2) .mram (1000) (500) (10000) [] 0x0,  -- DSP.RINGLOSS
  row 0x1B0D .u16 (.rw 2) .mram (5) (1) (600) [] 0x0,  -- DSP.REJOIN
  row 0x1B10 .bool (.rw 2) .mram (1) (0) (1) [] 0x0,  -- DSP.PREDEN
  row 0x1B11 .u16 (.rw 2) .mram (75) (40) (150) [] 0x0,  -- DSP.PAXKG
  row 0x1B12 .u8 (.rw 2) .mram (13) (1) (100) [] 0x0,  -- DSP.CARPAX
  row 0x1B13 .u16 (.rw 2) .mram (4) (0) (1000) [] 0x0,  -- DSP.PREMIN
  row 0x1B14 .u8 (.rw 2) .mram (3) (0) (32) [] 0x0,  -- DSP.PREMAX
  row 0x1B15 .u16 (.rw 2) .mram (60) (5) (600) [] 0x0,  -- DSP.PREWIN
  row 0x1B16 .u16 (.rw 2) .mram (30) (0) (300) [] 0x0,  -- DSP.PREHOLD
  row 0x1B17 .u16 (.rw 2) .mram (90) (10) (600) [] 0x0,  -- DSP.SURGEWIN
  row 0x1B18 .u16 (.rw 2) .mram (100) (0) (1000) [] 0x0,  -- DSP.PREDGAIN
  row 0x1B19 .u16 (.rw 2) .mram (50) (0) (1000) [] 0x0,  -- DSP.RATIODEF
  row 0x1B1A .u16 (.rw 0) .volatile (0) (0) (65535) [] 0x1F7F,  -- DSP.PSEL
  row 0x1B1B .u16 (.ro) .volatile (0) (0) (65535) [] 0x0,  -- DSP.PVAL
  row 0x1B1C .u8 (.wo 2) .volatile (0) (1) (1) [] 0x0,  -- DSP.PREDRST
  row 0x1B20 .u8 (.ro) .volatile (4) (0) (4) [] 0x0,  -- DSP.STATUS
  row 0x1B21 .u8 (.ro) .volatile (0) (0) (32) [] 0x0,  -- DSP.CARS
  row 0x1B22 .u16 (.ro) .volatile (0) (0) (65535) [] 0x0,  -- DSP.CALLS
  row 0x1B23 .u32 (.ro) .volatile (0) (0) (4294967295) [] 0x0,  -- DSP.LASTCOST
  row 0x1B24 .u32 (.roClr) .mram (0) (0) (4294967295) [] 0x0,  -- DSP.AUCTIONS
  row 0x1B25 .u32 (.roClr) .mram (0) (0) (4294967295) [] 0x0,  -- DSP.WON
  row 0x1B26 .u32 (.roClr) .mram (0) (0) (4294967295) [] 0x0,  -- DSP.REAUCTCNT
  row 0x1B27 .u32 (.roClr) .mram (0) (0) (4294967295) [] 0x0,  -- DSP.LOCALEPI
  row 0x1C00 .bool (.rw 3) .mram (0) (0) (1) [] 0x0,  -- SHF.ENABLE
  row 0x1C01 .u8 (.rw 3) .mram (0) (0) (2) [] 0x0,  -- SHF.POSN
  row 0x1C02 .u16 (.rw 3) .mram (65535) (0) (1023) [65535] 0x0,  -- SHF.ADDRUP
  row 0x1C03 .u16 (.rw 3) .mram (65535) (0) (1023) [65535] 0x0,  -- SHF.ADDRDN
  row 0x1C04 .u8 (.rw 2) .mram (0) (0) (1) [] 0x0,  -- SHF.NLRATE
  row 0x1C05 .u16 (.rw 2) .mram (100) (20) (200) [] 0x0   -- SHF.NLOFS
]

/-- Single indices above 0x0C00: CLE engine, FIO block, RNG, DSP, SHF, TPH, RTC and SEC. -/
def rowsHi2 : List PInfo := [
  row 0x1C06 .u32 (.rw 3) .mram (1500000) (600000) (10000000) [] 0x0,  -- SHF.GAP1
  row 0x1C07 .u32 (.rw 3) .mram (1000000) (550000) (9990000) [] 0x0,  -- SHF.GAP2
  row 0x1C08 .u32 (.rw 2) .mram (300000) (10000) (630000) [] 0x0,  -- SHF.VLOSS
  row 0x1C09 .u32 (.rw 2) .mram (200000) (50000) (1000000) [] 0x0,  -- SHF.LOSSMARG
  row 0x1C0A .bool (.rw 2) .mram (1) (0) (1) [] 0x0,  -- SHF.AUTOZONE
  row 0x1C0B .s32 (.rw 3) .mram (0) (-2147483648) (2147483647) [] 0x0,  -- SHF.ZLO
  row 0x1C0C .s32 (.rw 3) .mram (0) (-2147483648) (2147483647) [] 0x0,  -- SHF.ZHI
  row 0x1C20 .u16 (.ro) .volatile (0) (0) (65535) [] 0x3FF,  -- SHF.STATUS
  row 0x1C21 .u32 (.ro) .mram (0) (0) (4294967295) [] 0x0,  -- SHF.ZVER
  row 0x1C22 .s32 (.ro) .volatile (0) (-2147483648) (2147483647) [] 0x0,  -- SHF.MARGUP
  row 0x1C23 .s32 (.ro) .volatile (0) (-2147483648) (2147483647) [] 0x0,  -- SHF.MARGDN
  row 0x1C24 .s32 (.ro) .volatile (0) (-2147483648) (2147483647) [] 0x0,  -- SHF.LIMUP
  row 0x1C25 .s32 (.ro) .volatile (0) (-2147483648) (2147483647) [] 0x0,  -- SHF.LIMDN
  row 0x1C26 .u32 (.roClr) .volatile (0) (0) (4294967295) [] 0x0,  -- SHF.GAPSUP
  row 0x1C27 .u32 (.roClr) .volatile (0) (0) (4294967295) [] 0x0,  -- SHF.GAPSDN
  row 0x1C28 .u32 (.roClr) .mram (0) (0) (4294967295) [] 0x0,  -- SHF.LOSSES
  row 0x1C29 .u32 (.roClr) .mram (0) (0) (4294967295) [] 0x0,  -- SHF.TIER2CNT
  row 0x1D00 .u8 (.rw 2) .mram (0) (0) (1) [] 0x0,  -- TPH.FORMAT
  row 0x1D01 .u8 (.rw 2) .mram (1) (0) (7) [] 0x0,  -- TPH.RECSEV
  row 0x1D02 .u16 (.rw 2) .mram (1000) (0) (60000) [] 0x0,  -- TPH.REPWIN
  row 0x1D03 .bool (.rw 2) .mram (1) (0) (1) [] 0x0,  -- TPH.REPALL
  row 0x1D04 .u16 (.rw 1) .mram (100) (10) (5000) [] 0x0,  -- TPH.STRMLAT
  row 0x1D05 .u8 (.wo 3) .volatile (0) (1) (1) [] 0x0,  -- TPH.CLEAR
  row 0x1D10 .u8 (.ro) .volatile (0) (0) (1) [] 0x0,  -- TPH.FMTUSE
  row 0x1D11 .u48 (.ro) .volatile (0) (0) (281474976710655) [] 0x0,  -- TPH.HEAD
  row 0x1D12 .u48 (.ro) .volatile (0) (0) (281474976710655) [] 0x0,  -- TPH.TAIL
  row 0x1D13 .u32 (.ro) .volatile (0) (0) (65536) [] 0x0,  -- TPH.COUNT
  row 0x1D14 .u32 (.roClr) .mram (0) (0) (4294967295) [] 0x0,  -- TPH.DROPS
  row 0x1D15 .u32 (.ro) .mram (0) (0) (4294967295) [] 0x0,  -- TPH.OVERWRITES
  row 0x1D16 .u32 (.roClr) .mram (0) (0) (4294967295) [] 0x0,  -- TPH.BUFDROPS
  row 0x1D18 .u32 (.ro) .volatile (0) (0) (65536) [] 0x0,  -- TPH.CNTs
  row 0x1D19 .u32 (.ro) .volatile (0) (0) (65536) [] 0x0,  -- TPH.CNTs
  row 0x1D1A .u32 (.ro) .volatile (0) (0) (65536) [] 0x0,  -- TPH.CNTs
  row 0x1D1B .u32 (.ro) .volatile (0) (0) (65536) [] 0x0,  -- TPH.CNTs
  row 0x1D1C .u32 (.ro) .volatile (0) (0) (65536) [] 0x0,  -- TPH.CNTs
  row 0x1D1D .u32 (.ro) .volatile (0) (0) (65536) [] 0x0,  -- TPH.CNTs
  row 0x1D1E .u32 (.ro) .volatile (0) (0) (65536) [] 0x0,  -- TPH.CNTs
  row 0x1D1F .u32 (.ro) .volatile (0) (0) (65536) [] 0x0,  -- TPH.CNTs
  row 0x1D40 .u8 (.rw 2) .mram (0) (0) (1) [] 0x0,  -- RTC.RDMODE
  row 0x1D41 .s16 (.rw 2) .mram (0) (-511) (511) [] 0x0   -- RTC.TRIM
]

/-- Single indices above 0x0C00: CLE engine, FIO block, RNG, DSP, SHF, TPH, RTC and SEC. -/
def rowsHi3 : List PInfo := [
  row 0x1D42 .u32 (.rw 1) .mram (0) (0) (4294967295) [] 0x1FFFFFF,  -- RTC.ALARM
  row 0x1D43 .u8 (.ro) .volatile (0) (0) (255) [] 0x1F,  -- RTC.STATUS
  row 0x1D44 .u16 (.ro) .volatile (0) (2000) (2199) [] 0x0,  -- RTC.YEAR
  row 0x1D45 .u8 (.ro) .volatile (0) (1) (12) [] 0x0,  -- RTC.MONTH
  row 0x1D46 .u8 (.ro) .volatile (0) (1) (31) [] 0x0,  -- RTC.DAY
  row 0x1D47 .u8 (.ro) .volatile (0) (0) (23) [] 0x0,  -- RTC.HOUR
  row 0x1D48 .u8 (.ro) .volatile (0) (0) (59) [] 0x0,  -- RTC.MINUTE
  row 0x1D49 .u8 (.ro) .volatile (0) (0) (59) [] 0x0,  -- RTC.SECOND
  row 0x1D4A .u16 (.ro) .volatile (0) (0) (999) [] 0x0,  -- RTC.MSEC
  row 0x1D4B .u8 (.ro) .volatile (0) (1) (7) [] 0x0,  -- RTC.WDAY
  row 0x1D4C .s16 (.ro) .volatile (0) (-5000) (5000) [] 0x0,  -- RTC.MEASPPM
  row 0x1D4D .bool (.ro) .mram (0) (0) (1) [] 0x0,  -- RTC.EVERSET
  row 0x1D4E .u32 (.ro) .mram (0) (0) (4294967295) [] 0x0,  -- RTC.SETCOUNT
  row 0x1E00 .u8 (.ro) .volatile (0) (0) (5) [] 0x0,  -- SEC.FWSTAT
  row 0x1E01 .u32 (.ro) .fixed (0) (0) (4294967295) [] 0x0,  -- SEC.SVN
  row 0x1E02 .u32 (.ro) .key (0) (0) (4294967295) [] 0x0,  -- SEC.MINSVN
  row 0x1E03 .u8 (.ro) .volatile (0) (0) (3) [] 0x3,  -- SEC.SAFSLOT
  row 0x1E04 .u16 (.rw 3) .mram (5000) (100) (60000) [] 0x0,  -- SEC.QUIETMAX
  row 0x1E05 .u8 (.rw 3) .mram (1) (0) (168) [] 0x0,  -- SEC.SWAPGAP
  row 0x1E06 .u16 (.rw 3) .mram (1440) (10) (10080) [] 0x0,  -- SEC.SESSLIFE
  row 0x1E07 .u32 (.rw 3) .key (0) (0) (4294967295) [] 0x0,  -- SEC.MINEPOCH
  row 0x1E08 .u32 (.ro) .key (0) (0) (4294967295) [] 0x0,  -- SEC.OWNKID
  row 0x1E09 .u32 (.ro) .key (0) (0) (4294967295) [] 0x0,  -- SEC.PGKID
  row 0x1E0A .u32 (.ro) .key (0) (0) (4294967295) [] 0x0,  -- SEC.DKID
  row 0x1E0B .u32 (.ro) .key (0) (0) (4294967295) [] 0x0,  -- SEC.DKNEXT
  row 0x1E0C .u16 (.rw 3) .mram (600) (0) (3600) [] 0x0,  -- SEC.DKGRACE
  row 0x1E0D .u32 (.ro) .fixed (0) (0) (4294967295) [] 0x0,  -- SEC.DEVKID
  row 0x1E0E .u32 (.ro) .fixed (0) (0) (4294967295) [] 0x0,  -- SEC.ROOTKID
  row 0x1E0F .u64 (.ro) .volatile (0) (0) (18446744073709551615) [] 0x0,  -- SEC.UNONCE
  row 0x1E10 .u64 (.wo 2) .volatile (0) (0) (1099511627775) [] 0xFFFFFFFFFF,  -- SEC.ACTION
  row 0x1E11 .u8 (.ro) .volatile (0) (0) (2) [] 0x0,  -- SEC.DBGSTAT
  row 0x1E12 .u32 (.ro) .mram (0) (0) (4294967295) [] 0x0,  -- SEC.SWITCHES
  row 0x1E13 .u32 (.roClr) .mram (0) (0) (4294967295) [] 0x0,  -- SEC.AUTHFAIL
  row 0x1E20 .u64 (.wo 2) .volatile (0) (0) (18446744073709551615) [] 0x0,  -- SEC.STAGEn
  row 0x1E21 .u64 (.wo 2) .volatile (0) (0) (18446744073709551615) [] 0x0,  -- SEC.STAGEn
  row 0x1E22 .u64 (.wo 2) .volatile (0) (0) (18446744073709551615) [] 0x0,  -- SEC.STAGEn
  row 0x1E23 .u64 (.wo 2) .volatile (0) (0) (18446744073709551615) [] 0x0,  -- SEC.STAGEn
  row 0x1E24 .u64 (.wo 2) .volatile (0) (0) (18446744073709551615) [] 0x0,  -- SEC.STAGEn
  row 0x1E25 .u64 (.wo 2) .volatile (0) (0) (18446744073709551615) [] 0x0,  -- SEC.STAGEn
  row 0x1E26 .u64 (.wo 2) .volatile (0) (0) (18446744073709551615) [] 0x0   -- SEC.STAGEn
]

/-- Single indices above 0x0C00: CLE engine, FIO block, RNG, DSP, SHF, TPH, RTC and SEC. -/
def rowsHi4 : List PInfo := [
  row 0x1E27 .u64 (.wo 2) .volatile (0) (0) (18446744073709551615) [] 0x0,  -- SEC.STAGEn
  row 0x1E28 .u64 (.wo 2) .volatile (0) (0) (18446744073709551615) [] 0x0,  -- SEC.STAGEn
  row 0x1E29 .u64 (.wo 2) .volatile (0) (0) (18446744073709551615) [] 0x0,  -- SEC.STAGEn
  row 0x1E2A .u64 (.wo 2) .volatile (0) (0) (18446744073709551615) [] 0x0,  -- SEC.STAGEn
  row 0x1E2B .u64 (.wo 2) .volatile (0) (0) (18446744073709551615) [] 0x0,  -- SEC.STAGEn
  row 0x1E2C .u64 (.wo 2) .volatile (0) (0) (18446744073709551615) [] 0x0,  -- SEC.STAGEn
  row 0x1E2D .u64 (.wo 2) .volatile (0) (0) (18446744073709551615) [] 0x0,  -- SEC.STAGEn
  row 0x1E2E .u64 (.wo 2) .volatile (0) (0) (18446744073709551615) [] 0x0,  -- SEC.STAGEn
  row 0x1E2F .u64 (.wo 2) .volatile (0) (0) (18446744073709551615) [] 0x0,  -- SEC.STAGEn
  row 0x1E30 .u64 (.wo 2) .volatile (0) (0) (18446744073709551615) [] 0x0,  -- SEC.STAGEn
  row 0x1E31 .u64 (.wo 2) .volatile (0) (0) (18446744073709551615) [] 0x0,  -- SEC.STAGEn
  row 0x1E32 .u64 (.wo 2) .volatile (0) (0) (18446744073709551615) [] 0x0,  -- SEC.STAGEn
  row 0x1E33 .u64 (.wo 2) .volatile (0) (0) (18446744073709551615) [] 0x0   -- SEC.STAGEn
]

/-- Single indices above 0x0C00: CLE engine, FIO block, RNG, DSP, SHF, TPH, RTC and SEC. -/
def rowsHi : List PInfo := rowsHi0 ++ rowsHi1 ++ rowsHi2 ++ rowsHi3 ++ rowsHi4

/-- Slot phases of Table CLE-2, the defaults of CLE.SnPHASE. -/
def slotPhase (n : Nat) : Nat := [14, 18, 8, 3, 3, 3, 22, 26, 9, 4, 4, 4, 8, 8, 5, 5].getD n 0

/-- The limiter slots, whose phase and output scale are read-only (10 R243, R252). -/
def limiterSlot (n : Nat) : Bool := [4, 5, 10, 11, 13].contains n

/-- The row with index or offset `i`. -/
def findRow (rows : List PInfo) (i : Nat) : Option PInfo := rows.find? fun r => r.idx == i

/-- Caldera, 0x0C00–0x0FFF: slot, repetitive-unit, trace and engine indices (10 R264). -/
def cleInfo (idx : Nat) : Option PInfo :=
  let n := (idx - 0x0C00) / 0x40
  let off := (idx - 0x0C00) % 0x40
  if off < 0x38 then
    if off = 0x2E ∧ n ≠ 13 ∧ n ≠ 15 then none
    else (findRow rowsCle off).map fun r =>
      let r := { r with idx := idx }
      if off = 0x29 then { r with dflt := if n = 15 then 0 else 1 }
      else if off = 0x2A then { r with dflt := slotPhase n, acc := if limiterSlot n then .ro else r.acc }
      else if off = 0x2D ∧ limiterSlot n then { r with acc := .ro }
      else r
  else if n < 4 then (findRow rowsRc (off - 0x38)).map fun r =>
    if off = 0x38 then { r with idx := idx, dflt := [0xC0, 0x24, 0x88, 0xF0].getD n 0 } else { r with idx := idx }
  else if 4 ≤ n ∧ n < 8 then (findRow rowsTr (off - 0x38)).map fun r => { r with idx := idx }
  else findRow rowsHi idx

/-- The table row of a parameter index; none where no parameter exists (06 R117). -/
def paramInfo (idx : Nat) : Option PInfo :=
  if idx < 0x0C00 then findRow rowsLow idx
  else if idx < 0x1000 then cleInfo idx
  else if idx < 0x1200 then
    let off := idx % 0x100
    if 0x80 ≤ off then some ⟨idx, .u16, .rw 2, .mram, 0, 50, 5000, [0], 0⟩
    else (findRow rowsDr off).map fun r => { r with idx := idx }
  else if 0x1480 ≤ idx ∧ idx < 0x1500 then some ⟨idx, .s32, .sw, .safe, 0, -2147483648, 2147483647, [], 0⟩
  else if 0x1400 ≤ idx ∧ idx < 0x1480 then findRow rowsSaf idx
  else if 0x1600 ≤ idx ∧ idx < 0x1780 then
    if idx % 8 = 7 then findRow rowsHi idx
    else (findRow rowsFio (idx % 8)).map fun r => { r with idx := idx }
  else if 0x1800 ≤ idx ∧ idx < 0x1880 then (findRow rowsCan (idx % 0x40)).map fun r => { r with idx := idx }
  else findRow rowsHi idx

end Sys2Proof.Machine
end

