-- ==== Sys2Proof/Machine/Ops.lean ====
section
/-!
DEFINITION. The named operations every meaning uses: sparse memory, parameter values and versions, raising an event,
the tag table and completions, changing the device state, and the form of a meaning.
-/
namespace Sys2Proof.Machine

/-- What a step answers. -/
abbrev Out := Host.Outcome State Fault Refusal

/-- The form of every meaning: the event comes about when its condition `c` holds and leads to `t`; where the
condition does not hold the event cannot come about and nothing changes (log 3). -/
def occurs (c : Bool) (s t : State) : Out := .next (if c then t else s)

/-! ## Sparse memory -/

/-- The byte at an address; `d` says what an unlisted address reads as (log 11). -/
def memRead (d : Nat → Byte) : Mem → Nat → Byte
  | [], a => d a
  | (k, v) :: m, a => if k = a then v else memRead d m a

/-- Writing one byte keeps the list sorted and lists no byte equal to what an unlisted address reads as. -/
def memWrite (d : Nat → Byte) : Mem → Nat → Byte → Mem
  | [], a, v => if v = d a then [] else [(a, v)]
  | (k, w) :: m, a, v =>
    if a < k then (if v = d a then (k, w) :: m else (a, v) :: (k, w) :: m)
    else if a = k then (if v = d a then m else (a, v) :: m)
    else (k, w) :: memWrite d m a v

/-- `n` bytes from an address upward. -/
def memReadN (d : Nat → Byte) (m : Mem) (a : Nat) : Nat → List Byte
  | 0 => []
  | n + 1 => memRead d m a :: memReadN d m (a + 1) n

/-- Consecutive bytes stored from an address upward. -/
def memWriteN (d : Nat → Byte) : Mem → Nat → List Byte → Mem
  | m, _, [] => m
  | m, a, b :: bs => memWriteN d (memWrite d m a b) (a + 1) bs

/-- The canonical form: addresses strictly rising, no entry equal to what an unlisted address reads as. -/
def memWf (d : Nat → Byte) : Mem → Bool
  | [] => true
  | [(k, v)] => v != d k
  | (k, v) :: (k', v') :: m => v != d k && decide (k < k') && memWf d ((k', v') :: m)

/-- An unlisted byte that reads 0. -/
def zeroByte (_ : Nat) : Byte := 0

/-! ## CRC-32 -/

/-- One bit of the reflected CRC-32 of IEEE 802.3 (05 R99). -/
def crcBit (c : Nat) : Nat := if c % 2 = 1 then (c / 2) ^^^ 0xEDB88320 else c / 2

/-- One byte of it. -/
def crcByte (c : Nat) (b : Byte) : Nat :=
  crcBit (crcBit (crcBit (crcBit (crcBit (crcBit (crcBit (crcBit (c ^^^ b.toNat))))))))

/-- CRC-32: initial value and final XOR 0xFFFF_FFFF (05 R99). -/
def crc32 (bs : List Byte) : Nat := (bs.foldl crcByte 0xFFFFFFFF) ^^^ 0xFFFFFFFF

/-! ## Parameter values -/

/-- The stored entry of an index. -/
def pvFind (ps : List PVal) (i : Nat) : Option PVal := ps.find? fun p => p.idx == i

/-- Storing an entry keeps the list in rising index order. -/
def pvPut : List PVal → PVal → List PVal
  | [], p => [p]
  | q :: ps, p =>
    if p.idx < q.idx then p :: q :: ps else if p.idx = q.idx then p :: ps else q :: pvPut ps p

/-- Bytes of a value of a type (06 Table DEV-2). -/
def PType.bytes : PType → Nat
  | .bool => 1 | .u8 => 1 | .s8 => 1 | .u16 => 2 | .s16 => 2 | .u32 => 4 | .s32 => 4 | .u48 => 6 | .u64 => 8
  | .q131 => 4 | .q427 => 4 | .str16 => 16

/-- The default of an index (06 R120). -/
def pvDefault (i : Nat) : Int := match paramInfo i with | some r => r.dflt | none => 0

/-- The live value of a parameter. -/
def State.par (s : State) (i : Nat) : Int := match pvFind s.dir.live i with | some p => p.val | none => pvDefault i

/-- The live value as a natural number. -/
def State.parN (s : State) (i : Nat) : Nat := (s.par i).toNat

/-- The version of a parameter (06 R124). -/
def State.parVer (s : State) (i : Nat) : Nat := match pvFind s.dir.live i with | some p => p.ver | none => 0

/-- The persistence class of an index. -/
def pvPersist (i : Nat) : Persist := match paramInfo i with | some r => r.per | none => .volatile

/-- The owner applies a value: the version rises by one, modulo 2^32 (06 R124). -/
def State.setPar (s : State) (i : Nat) (v : Int) : State :=
  { s with dir.live := pvPut s.dir.live ⟨i, v, (s.parVer i + 1) % 2 ^ 32⟩ }

/-- The present live value and version of an index become durable (06 R126). -/
def State.parDurable (s : State) (i : Nat) : State :=
  { s with dir.durable := pvPut s.dir.durable ⟨i, s.par i, s.parVer i⟩ }

/-- RW parameters of MRAM persistence count as configuration (06 R138). -/
def isConfig (i : Nat) : Bool :=
  match paramInfo i with
  | some r => r.per == .mram && (match r.acc with | .rw _ => true | _ => false)
  | none => false

/-- A configuration change has become durable: DEV.CFGCOUNT rises, wrapping (06 R138), and the configuration measurement
is due again (19 R472). -/
def State.countChange (s : State) : State :=
  let n := Idx.DEV_CFGCOUNT
  let s := (s.setPar n ((s.par n + 1) % 2 ^ 32)).parDurable n
  { s with sec.measDirty := true }

/-- The new value of a parameter has become durable (06 R138). -/
def State.countConfig (s : State) (i : Nat) : State := if isConfig i then s.countChange else s

/-- A value the device writes itself: applied, and durable at once where the parameter is kept (log 12); a configuration
parameter counts (06 R138). -/
def State.setOwn (s : State) (i : Nat) (v : Int) : State :=
  if pvPersist i = .volatile then s.setPar i v else ((s.setPar i v).parDurable i).countConfig i

/-- A counter raised by `k`, saturating at the top of its range. -/
def State.bump (s : State) (i : Nat) (k : Nat := 1) : State :=
  let top := match paramInfo i with | some r => r.hi | none => 0
  s.setOwn i (if s.par i + k ≤ top then s.par i + k else top)

/-- A counter raised by `k`, wrapping at 2^32. -/
def State.bumpWrap (s : State) (i : Nat) (k : Nat := 1) : State := s.setOwn i ((s.par i + k) % 2 ^ 32)

/-- A peak value raised to `v` when `v` is higher. -/
def State.peak (s : State) (i : Nat) (v : Int) : State := if s.par i < v then s.setOwn i v else s

/-- A bit of a bit-field parameter. -/
def State.parBit (s : State) (i n : Nat) : Bool := (s.parN i).testBit n

/-- DEV.SERIAL: twelve characters A–Z and 0–9, then four bytes of 0 (06 R138). -/
def serialBytes : List Byte :=
  (List.range 12).map (fun k => let c := Config.serialCode k % 36
    BitVec.ofNat 8 (if c < 26 then 0x41 + c else 0x30 + (c - 26))) ++ [0, 0, 0, 0]

/-! ## Events -/

/-- The values of an event's data field, each in the smallest place, aligned to its size, from byte 24 onward; a value
that does not fit is left out (17 R433). -/
def placeData : List Byte → List (Nat × Int) → List Byte
  | acc, [] => (acc ++ List.replicate 8 0).take 8
  | acc, (n, v) :: vs =>
    let acc' := acc ++ List.replicate ((n - acc.length % n) % n) 0 ++ toLe n (codeOf (8 * n) v)
    if acc'.length ≤ 8 then placeData acc' vs else placeData acc vs

/-- Milliseconds of the calendar: ⌊s × 1,000 / 32,768⌋ (18 R447). -/
def rtcMs (sub : Nat) : Nat := sub * 1000 / 32768

/-- TIME_LOST or an unset calendar: SET is 0 (18 R449). -/
def State.timeLost (s : State) : Bool := !s.rtc.set && s.par Idx.RTC_EVERSET == 1

/-- What the stamping hardware captures (17 R432). -/
def State.stamp (s : State) : Stamp :=
  { op := s.pwr.opTime, cyc := s.pwr.pwrCyc, cal := s.rtc.cal, ms := rtcMs s.rtc.sub, lost := !s.rtc.set }

/-- Events wait in the 256-entry hardware buffer while the LMP restarts or its firmware is switched (17 R439,
19 Table SEC-9). -/
def State.buffering (s : State) : Bool := s.lmp.restarting || s.host.ops.any fun f => f.phase == .switching

/-- A stamped event is queued for formatting; while the LMP restarts it goes into the 256-entry buffer, and is lost
and counted when that is full (17 R439). -/
def State.queueEvt (s : State) (e : Evt) : State :=
  if s.buffering then
    if (s.tph.queue.filter fun x => x.buffered).length < 256 then
      { s with tph.queue := s.tph.queue ++ [{ e with buffered := true }] }
    else { s.bump Idx.TPH_BUFDROPS with tph.bufLost := s.tph.bufLost + 1 }
  else { s with tph.queue := s.tph.queue ++ [e] }

/-- A block raises an event; one below TPH.RECSEV is discarded (17 R430, R432). -/
def State.raiseEvt (s : State) (e : Evt) : State :=
  if (e.sev : Int) < s.par Idx.TPH_RECSEV then s else s.queueEvt { e with stamp := s.stamp }

/-- A block raises an event with its severity, instance and data values. -/
def State.raise (s : State) (code sev : Nat) (inst : Nat := 0xFF) (data : List (Nat × Int) := []) : State :=
  s.raiseEvt { code := code, sev := sev, inst := inst, data := placeData [] data }

/-- An event marked "repeats counted" in its event table (17 R438). -/
def State.raiseCounted (s : State) (code sev : Nat) (inst : Nat := 0xFF) (data : List (Nat × Int) := []) : State :=
  s.raiseEvt { code := code, sev := sev, inst := inst, data := placeData [] data, counted := true }

/-- An event recorded in format 0 whatever the format in use (18 R450, R452). -/
def State.raiseNative (s : State) (code sev : Nat) (inst : Nat := 0xFF) (data : List (Nat × Int) := []) : State :=
  s.raiseEvt { code := code, sev := sev, inst := inst, data := placeData [] data, ownCodes := true }

/-- An event recorded at the next START, and stamped there (02 R31, R35, R39; 17 R432). -/
def State.raiseAtStart (s : State) (code sev : Nat) (inst : Nat := 0xFF) (data : List (Nat × Int) := []) : State :=
  { s with pwr.startEvts :=
      s.pwr.startEvts ++ [{ code := code, sev := sev, inst := inst, data := placeData [] data }] }

/-! ## Device state -/

/-- STATE_CHANGE (0x010B, INFO): old state, new state, cause; the device is in the new state (02 R39). -/
def State.enter (s : State) (new : DevState) (cause : Nat) : State :=
  let s := s.raise 0x010B 1 0xFF [(1, s.pwr.state.code), (1, new.code), (2, cause)]
  { s with pwr.state := new }

/-- FAULTN is released only in RUN and DORMANT (02 R38). -/
def State.faultnLow (s : State) : Bool := !(s.pwr.state == .run || s.pwr.state == .dormant)

/-- The fast engines run: RUN, TRIPPED, or DORMANT from the wake onward (02 R38, R48). -/
def State.engines (s : State) : Bool :=
  s.pwr.state == .run || s.pwr.state == .tripped || (s.pwr.state == .dormant && s.pwr.waking)

/-- A fast state: the operating-time counter runs (02 R51). -/
def State.opCounts (s : State) : Bool :=
  match s.pwr.state with
  | .start | .dormant | .run | .tripped | .lockout => true
  | .off | .aon => false

/-- The LMP serves hosts: in RUN, TRIPPED and LOCKOUT, at a wake, and in the recovery loader (02 R36, R38, R48;
19 R482). -/
def State.lmpServes (s : State) : Bool :=
  !s.lmp.restarting && !(s.host.ops.any fun f => f.phase == .switching) &&
    (s.engines || s.pwr.state == .lockout || (s.pwr.state == .start && s.pwr.recovery))

/-! ## Host slots, tags and completions -/

/-- A host slot. -/
def State.slot (s : State) (h : Nat) : Slot := s.host.slots.getD h {}

/-- A host slot changed. -/
def State.modSlot (s : State) (h : Nat) (f : Slot → Slot) : State :=
  { s with host.slots := modifyAt s.host.slots h f }

/-- A trusted SPI slot: H0 or H1 with its bit of HOST.SPTRUST set (05 Table HOST-1). -/
def State.trusted (s : State) (h : Nat) : Bool := decide (h < 2) && s.parBit Idx.HOST_SPTRUST h

/-- A command taken by the LMP, by its tag. -/
def State.flight? (s : State) (tag : Nat) : Option Flight := s.host.ops.find? fun f => f.d.tag == tag

/-- The same, with an empty command where the tag names none. -/
def State.flight (s : State) (tag : Nat) : Flight := (s.flight? tag).getD { d := {}, slot := 0 }

/-- Past its commit point (05 Table HOST-6). -/
def Phase.committed : Phase → Bool
  | .paramDurable .. => true
  | .tableDurable .. => true
  | .switching => true
  | _ => false

/-- A command in flight, changed. -/
def State.modFlight (s : State) (tag : Nat) (f : Flight → Flight) : State :=
  { s with host.ops := s.host.ops.map fun x => if x.d.tag == tag then f x else x }

/-- Where a command in flight stands from now on. -/
def State.setPhase (s : State) (tag : Nat) (p : Phase) : State := s.modFlight tag fun f => { f with phase := p }

/-- A queue without the command of a tag. -/
def dropTag (tag : Nat) (q : List Flight) : List Flight := q.filter fun f => f.d.tag != tag

/-- The completion descriptor of a command (05 R104, Table HOST-5). -/
def completionOf (d : Desc) (st : Status) (detail : Nat) (payload : List Byte) (committed after : Bool) : Desc :=
  { opcode := d.opcode, format := 1, ref := d.ref, tag := d.tag, gen := d.gen, status := st.code,
    committed := committed, afterRestart := after, detail := detail, payload := payload }

/-- The one completion of a command (05 R108): the command leaves its queue or the commands in flight, and the
completion waits in the completion store. -/
def State.complete (s : State) (f : Flight) (st : Status) (detail : Nat := 0) (payload : List Byte := [])
    (committed : Bool := false) (after : Bool := false) : State :=
  { s with
    host.ops := dropTag f.d.tag s.host.ops
    host.slots := s.host.slots.map fun x => { x with nq := dropTag f.d.tag x.nq, uq := dropTag f.d.tag x.uq }
    host.store := s.host.store ++
      [(f.slot, completionOf f.d st detail payload (committed || f.phase.committed) (after || f.after))] }

/-- The privilege cap of a slot (05 R91). -/
def State.cap (s : State) (h : Nat) : Nat := s.parN (Idx.HOST_HnPRIV h)

/-- The privilege at which a slot's commands run: the lower of the cap and the credential, the cap alone for a
trusted SPI slot, READ on the UART without a session (05 R91, Table HOST-1). -/
def State.privOf (s : State) (h : Nat) : Nat :=
  if s.trusted h then s.cap h
  else match (s.slot h).session with
    | some ss => min (s.cap h) ss.priv
    | none => 0

/-- The header bytes 0–15 of a command as the KMAC256 tag covers them, bytes 6–9 as 0 (05 R104). -/
def cmdHeader (d : Desc) : List Byte :=
  [BitVec.ofNat 8 d.opcode, BitVec.ofNat 8 d.format] ++ toLe 2 d.payload.length ++ toLe 2 d.ref ++ [0, 0, 0, 0] ++
    toLe 2 d.detail ++ toLe 4 d.seq

/-- AUTH_CHALLENGE and AUTH_RESPONSE need no session (19 R471). -/
def authOpcode (op : Nat) : Bool := op == 0x40 || op == 0x41

/-- The opcodes the recovery loader serves (19 R482). -/
def recoveryOpcode (op : Nat) : Bool := [0x00, 0x01, 0x02, 0x03, 0x4A, 0x40, 0x41, 0x42, 0x48, 0x49].contains op

/-- A session slot's tag and sequence number verify (05 R104, 19 Table SEC-5). -/
def tagVerifies (ss : Session) (d : Desc) : Bool :=
  Config.kmac256 ss.kc (cmdHeader d ++ d.payload) 128 "TRG-9640 CMD" == d.mac && decide (ss.lastSeq < d.seq)

/-- The admission of a command that needs privilege `need`: none when it passes, else the status it completes with
(05 R91, R104, Table HOST-1; 19 R482). -/
def State.admission (s : State) (f : Flight) (need : Nat) : Option Status :=
  if s.pwr.state == .start && s.pwr.recovery && !recoveryOpcode f.d.opcode then some .state
  else if s.trusted f.slot then (if s.cap f.slot < need then some .denied else none)
  else if authOpcode f.d.opcode then (if s.cap f.slot < need then some .denied else none)
  else match (s.slot f.slot).session with
    | none => if f.slot = 2 ∧ need = 0 then none else some .authRequired
    | some ss =>
      if !tagVerifies ss f.d then some .badSignature
      else if min (s.cap f.slot) ss.priv < need then some .denied else none

/-- An accepted command of a session raises the session's sequence number (05 R104). -/
def State.noteSeq (s : State) (f : Flight) : State :=
  s.modSlot f.slot fun x => { x with session := (x.session.map fun ss =>
    if tagVerifies ss f.d then { ss with lastSeq := f.d.seq } else ss) }

/-- The command of its slot and queue that the LMP took first and has not carried out (05 R96: queue order). -/
def State.firstTaken (s : State) (f : Flight) : Bool :=
  match s.host.ops.find? fun x => x.slot == f.slot && x.urgent == f.urgent && x.phase == .taken with
  | some x => x.d.tag == f.d.tag
  | none => false

/-- A command of this opcode has been taken under this tag, no earlier command of its queue still waits to be carried
out (05 R96), and the LMP serves it. -/
def State.hostReady (s : State) (tag opcode : Nat) : Bool :=
  s.lmpServes && (match s.flight? tag with
    | some f => f.phase == .taken && f.d.opcode == opcode && s.firstTaken f
    | none => false)

/-- The frame of every host command: admission under R91 and R104, then its own checks and effect `k`. -/
def State.hostCmd (s : State) (tag need : Nat) (k : State → Flight → State) : State :=
  let f := s.flight tag
  match s.admission f need with
  | some st => s.complete f st
  | none => k (s.noteSeq f) f

/-- The payload of a command as its opcode's table lays it out. -/
def Flight.p (f : Flight) : List Byte := f.d.payload

/-! ## Position, arithmetic -/

/-- ⌊√n⌋ by bisection on `k` bits (log 8). -/
def isqrtAux (n : Nat) : Nat → Nat → Nat
  | 0, r => r
  | k + 1, r => isqrtAux n k (if (r + 2 ^ k) * (r + 2 ^ k) ≤ n then r + 2 ^ k else r)

/-- ⌊√n⌋ for n below 2^128 (log 8). -/
def isqrt (n : Nat) : Nat := isqrtAux n 64 0

/-- ⌊∛n⌋ by bisection (log 8). -/
def icbrtAux (n : Nat) : Nat → Nat → Nat
  | 0, r => r
  | k + 1, r => icbrtAux n k (if (r + 2 ^ k) ^ 3 ≤ n then r + 2 ^ k else r)

/-- ⌊∛n⌋ for n below 2^126 (log 8). -/
def icbrt (n : Nat) : Nat := icbrtAux n 42 0

end Sys2Proof.Machine
end

