-- ==== Sys2Proof/Machine/Flags.lean ====
section
/-!
DEFINITION. The arithmetic of the Geyser engine and the status bits it sets in ARITH (08_geyser_engine.md R168): integer
overflow, division, and IEEE 754 single precision, round to nearest even.
-/
namespace Sys2Proof.Machine

/-- The sticky bits an operation sets: OVF, DIVZ, FPE (08 Table GYS-10, ARITH). -/
structure Arith where
  ovf : Bool := false
  divz : Bool := false
  fpe : Bool := false
  deriving DecidableEq, Repr

/-- ARITH as a number: [0] OVF, [1] DIVZ, [2] FPE. -/
def Arith.bits (a : Arith) : Nat := b2n a.ovf + 2 * b2n a.divz + 4 * b2n a.fpe

/-- A signed 32-bit result: it wraps modulo 2^32, and OVF is set when the exact value does not fit (08 R168). -/
def wrapInt (v : Int) : Word × Arith := (BitVec.ofInt 32 v, { ovf := v < -2147483648 || 2147483647 < v })

/-- WA + op. -/
def intAdd (a b : Word) : Word × Arith := wrapInt (a.toInt + b.toInt)

/-- WA − op. -/
def intSub (a b : Word) : Word × Arith := wrapInt (a.toInt - b.toInt)

/-- Low 32 bits of the signed product. -/
def intMul (a b : Word) : Word × Arith := wrapInt (a.toInt * b.toInt)

/-- WA << (op AND 31). -/
def intShl (a b : Word) : Word × Arith := wrapInt (a.toInt * 2 ^ (b.toNat % 32))

/-- Signed division truncated toward zero; by 0 gives 0 with DIVZ; −2^31 by −1 gives −2^31 with OVF. -/
def intDiv (a b : Word) : Word × Arith :=
  if b = 0 then (0, { divz := true }) else wrapInt (Int.tdiv a.toInt b.toInt)

/-- WA − (WA / op) × op; by 0 gives 0 with DIVZ. −2^31 by −1 leaves 0 and no signed result overflows (log 17). -/
def intMod (a b : Word) : Word × Arith :=
  if b = 0 then (0, { divz := true }) else (BitVec.ofInt 32 (Int.tmod a.toInt b.toInt), {})

/-! ## IEEE 754 single -/

/-- The classes of a single-precision number; a finite one is (−1)^s × m × 2^e. -/
inductive Fl where
  | nan (signalling : Bool)
  | inf (s : Bool)
  | fin (s : Bool) (m : Nat) (e : Int)
  deriving DecidableEq, Repr

/-- The number a word holds. -/
def flOf (w : Word) : Fl :=
  let n := w.toNat
  let s : Bool := n.testBit 31
  let ex : Nat := n / 2 ^ 23 % 256
  let fr : Nat := n % 2 ^ 23
  if ex = 255 then (if fr = 0 then .inf s else .nan (!fr.testBit 22))
  else if ex = 0 then .fin s fr (-149)
  else .fin s (fr + 2 ^ 23) ((ex : Int) - 150)

/-- Sign bit. -/
def signBit (s : Bool) : Nat := if s then 2 ^ 31 else 0

/-- ±0 and ±infinity. -/
def flZero (s : Bool) : Word := BitVec.ofNat 32 (signBit s)
def flInf (s : Bool) : Word := BitVec.ofNat 32 (signBit s + 255 * 2 ^ 23)

/-- `m / 2^k` rounded to nearest, ties to even. -/
def rneShift (m k : Nat) : Nat :=
  let q := m / 2 ^ k
  let r := m % 2 ^ k
  if 2 * r < 2 ^ k then q else if 2 ^ k < 2 * r then q + 1 else if q % 2 = 0 then q else q + 1

/-- (−1)^s × m × 2^e rounded to single precision; FPE on overflow to infinity. -/
def flRound (s : Bool) (m : Nat) (e : Int) : Word × Arith :=
  if m = 0 then (flZero s, {})
  else
    let len := Nat.log2 m + 1
    let shift : Int := max ((len : Int) - 24) (-149 - e)
    let q := if 0 ≤ shift then rneShift m shift.toNat else m * 2 ^ (-shift).toNat
    let ex := e + shift
    let q' := if q = 2 ^ 24 then 2 ^ 23 else q
    let ex' := if q = 2 ^ 24 then ex + 1 else ex
    if q' < 2 ^ 23 then (BitVec.ofNat 32 (signBit s + q'), {})
    else if 104 < ex' then (flInf s, { fpe := true })
    else (BitVec.ofNat 32 (signBit s + (ex' + 150).toNat * 2 ^ 23 + (q' - 2 ^ 23)), {})

/-- A signed exact value v × 2^e rounded; an exact zero sum takes sign `z`. -/
def flRoundInt (v : Int) (e : Int) (z : Bool) : Word × Arith :=
  if v = 0 then (flZero z, {}) else flRound (v < 0) v.natAbs e

/-- The NaN of an operation on a quiet NaN operand: no flag for a quiet one, FPE for a signalling one. -/
def flNan (op : Nat) (a b : Word) (invalid : Bool) : Word × Arith := (Config.nanResult op a b, { fpe := invalid })

/-- A signalling NaN operand makes the operation invalid. -/
def anySignalling (x y : Fl) : Bool :=
  (match x with | .nan s => s | _ => false) || (match y with | .nan s => s | _ => false)

/-- The value of a finite number over 2^e. -/
def finInt (s : Bool) (m : Nat) : Int := if s then -(m : Int) else m

/-- Float addition (08 R167, R168). -/
def flAdd (a b : Word) : Word × Arith :=
  match flOf a, flOf b with
  | .fin s m e, .fin t n f =>
    let g := min e f
    flRoundInt (finInt s m * 2 ^ (e - g).toNat + finInt t n * 2 ^ (f - g).toNat) g (s && t)
  | .inf s, .inf t => if s = t then (flInf s, {}) else flNan 0x24 a b true
  | .inf s, .fin .. => (flInf s, {})
  | .fin .., .inf t => (flInf t, {})
  | x, y => flNan 0x24 a b (anySignalling x y)

/-- A word with its sign changed. -/
def flNeg (a : Word) : Word := a ^^^ 0x80000000#32

/-- Float subtraction: the NaN of the operation is its own. -/
def flSub (a b : Word) : Word × Arith :=
  match flOf a, flOf b with
  | .nan s, y => flNan 0x25 a b (s || anySignalling y y)
  | _, .nan t => flNan 0x25 a b t
  | .inf s, .inf t => if s = t then flNan 0x25 a b true else (flInf s, {})
  | _, _ => flAdd a (flNeg b)

/-- Float multiplication. -/
def flMul (a b : Word) : Word × Arith :=
  match flOf a, flOf b with
  | .fin s m e, .fin t n f => flRound (s != t) (m * n) (e + f)
  | .inf s, .inf t => (flInf (s != t), {})
  | .inf s, .fin t n _ => if n = 0 then flNan 0x26 a b true else (flInf (s != t), {})
  | .fin s m _, .inf t => if m = 0 then flNan 0x26 a b true else (flInf (s != t), {})
  | x, y => flNan 0x26 a b (anySignalling x y)

/-- Float division: a finite non-zero number by zero gives infinity with FPE. -/
def flDiv (a b : Word) : Word × Arith :=
  match flOf a, flOf b with
  | .fin s m e, .fin t n f =>
    if n = 0 then (if m = 0 then flNan 0x27 a b true else (flInf (s != t), { fpe := true }))
    else
      -- 64 extra bits and a sticky bit keep the quotient exact for rounding
      let q := m * 2 ^ 64 / n
      let r := if m * 2 ^ 64 % n = 0 then 0 else 1
      flRound (s != t) (2 * q + r) (e - f - 65)
  | .inf s, .fin t _ _ => (flInf (s != t), {})
  | .fin s _ _, .inf t => (flZero (s != t), {})
  | .inf _, .inf _ => flNan 0x27 a b true
  | x, y => flNan 0x27 a b (anySignalling x y)

/-- Float less-than: 0 when either is NaN (08 R167); the IEEE 754 relation < signals an invalid operation on any NaN
(log 17). -/
def flLt (a b : Word) : Bool × Arith :=
  match flOf a, flOf b with
  | .fin s m e, .fin t n f =>
    let g := min e f
    (decide (finInt s m * 2 ^ (e - g).toNat < finInt t n * 2 ^ (f - g).toNat), {})
  | .inf s, .inf t => (s && !t, {})
  | .inf s, .fin .. => (s, {})
  | .fin .., .inf t => (!t, {})
  | _, _ => (false, { fpe := true })

/-- CVT 0: the float of a signed integer. -/
def cvtToFloat (a : Word) : Word × Arith := flRoundInt a.toInt 0 false

/-- CVT 1: the signed integer of a float truncated toward zero; NaN gives 0, a value beyond the range the nearest
limit, both with FPE (08 R168). -/
def cvtToInt (a : Word) : Word × Arith :=
  match flOf a with
  | .nan _ => (0, { fpe := true })
  | .inf s => (if s then 0x80000000#32 else 0x7FFFFFFF#32, { fpe := true })
  | .fin s m e =>
    let n := if 0 ≤ e then m * 2 ^ e.toNat else m / 2 ^ (-e).toNat
    let v := finInt s n
    if v < -2147483648 then (0x80000000#32, { fpe := true })
    else if 2147483647 < v then (0x7FFFFFFF#32, { fpe := true })
    else (BitVec.ofInt 32 v, {})

end Sys2Proof.Machine
end

