-- ==== Sys2Proof/Machine/Operands.lean ====
section
/-!
DEFINITION. Geyser's access to its data space and its operand forms (08_geyser_engine.md R163–R166, R170, R179, R192):
regions, dirty lines, forces, and the four operand modes of word and boolean instructions.
-/
namespace Sys2Proof.Machine

/-- Why an access or instruction is an application fault: the cause of Table GYS-7, or a value. -/
abbrev GRes (α : Type) := Except Nat α

/-! ## The data space -/

/-- Program access "read, write" (08 Table GYS-2); an address the table does not list is "read" (log 18). -/
def gysWritable (a : Nat) : Bool :=
  (decide (0x800 ≤ a) && decide (a < 0x1000)) || (decide (0x6000 ≤ a) && decide (a < 0x6008)) ||
    (decide (0x6100 ≤ a) && decide (a < 0xA100)) || (decide (0xB000 ≤ a) && decide (a < 0x40000))

/-- A byte of the data space as stored. -/
def State.gysByte (s : State) (a : Nat) : Byte := memRead zeroByte s.gys.mem a

/-- `n` stored bytes as a little-endian number. -/
def State.gysStored (s : State) (a n : Nat) : Nat := leNat (memReadN zeroByte s.gys.mem a n)

/-- The lines that a write of these bytes changes (08 R179). -/
def State.changedLines (s : State) (a : Nat) : List Byte → List Nat
  | [] => []
  | b :: bs =>
    let rest := s.changedLines (a + 1) bs
    if s.gysByte a ≠ b ∧ !(rest.contains (a / 64)) then (a / 64) :: rest else rest

/-- A write to the data space: it does not take place when it would make a 1,025th line dirty, cause 0x05 (08 R179). -/
def State.gysWrite (s : State) (a : Nat) (bs : List Byte) : GRes State :=
  let new := (s.changedLines a bs).filter fun l => !(s.gys.dirty.contains l)
  if 1024 < s.gys.dirty.length + new.length then .error 5
  else .ok { s with gys.mem := memWriteN zeroByte s.gys.mem a bs, gys.dirty := s.gys.dirty ++ new }

/-- A program store: cause 0x03 outside the writable regions (08 R164). -/
def State.gysStore (s : State) (a : Nat) (bs : List Byte) : GRes State :=
  if bs.length = 0 ∨ (gysWritable a ∧ gysWritable (a + bs.length - 1)) then s.gysWrite a bs else .error 3

/-! ## The variable table of the active image -/

/-- What an unlisted byte of a table body reads as: door profiles read 0x8000, "not learned"; the rest 0 (log 11). -/
def tableByte (tid : Nat) (a : Nat) : Byte := if (tid = 0x0300 ∨ tid = 0x0301) ∧ a % 2 = 1 then 0x80 else 0

/-- A table object. -/
def State.tbl (s : State) (tid : Nat) : Table := (s.dir.tables.find? fun t => t.id == tid).getD { id := tid }

/-- A table object changed. -/
def State.modTbl (s : State) (tid : Nat) (f : Table → Table) : State :=
  { s with dir.tables := s.dir.tables.map fun t => if t.id = tid then f t else t }

/-- `n` bytes of a table's active body as a little-endian number. -/
def State.tblN (s : State) (tid off n : Nat) : Nat := leNat (memReadN (tableByte tid) (s.tbl tid).body off n)

/-- A Geyser variable as its image declares it (08 Table GYS-13). -/
structure GVar where
  ident : Nat
  addr : Nat
  ty : Nat
  bit : Nat
  count : Nat
  cls : Nat
  hostWrite : Bool
  forceable : Bool
  deriving DecidableEq, Repr

/-- Entry `k` of the variable table in the image body `img` read by `rd off n` (08 Tables GYS-12, GYS-13). -/
def gvarAt (rd : Nat → Nat → Nat) (k : Nat) : GVar :=
  let o := 64 + rd 8 4 + 16 * k
  { ident := rd o 4, addr := rd (o + 4) 4 % 2 ^ 18, ty := rd (o + 8) 1, bit := rd (o + 9) 1, count := rd (o + 10) 2,
    cls := rd (o + 12) 1, hostWrite := (rd (o + 13) 1).testBit 0, forceable := (rd (o + 13) 1).testBit 1 }

/-- The variable table of an image (08 R186). -/
def gvarsOf (rd : Nat → Nat → Nat) : List GVar := (List.range (rd 16 4)).map (gvarAt rd)

/-- The table ID of a Geyser bank. -/
def bankTid (b : Nat) : Nat := 0x0600 + b

/-- The active image as `rd off n`; all 0 with no program. -/
def State.image (s : State) (off n : Nat) : Nat := match s.gys.bank with | some b => s.tblN (bankTid b) off n | none => 0

/-- The variables of the active image. -/
def State.gvars (s : State) : List GVar := gvarsOf s.image

/-- The variable of an identity. -/
def State.gvar? (s : State) (ident : Nat) : Option GVar := s.gvars.find? fun v => v.ident == ident

/-- Bytes of one element of a type (06 Table DEV-2, 08 Table GYS-13). -/
def gtypeSize (ty : Nat) : Nat :=
  match ty with
  | 1 => 1 | 2 => 1 | 3 => 1 | 4 => 2 | 5 => 2 | 6 => 4 | 7 => 4 | 8 => 6 | 9 => 8 | 0x0D => 4 | _ => 0

/-- Bit address of element `e` of a variable: bools follow each other bit by bit, other types by their size. -/
def GVar.bitAddr (v : GVar) (e : Nat) : Nat :=
  if v.ty = 1 then v.addr * 8 + v.bit + e else (v.addr + gtypeSize v.ty * e) * 8

/-- The value stored in element `e`. -/
def State.gvarStored (s : State) (v : GVar) (e : Nat) : Nat :=
  let b := v.bitAddr e
  if v.ty = 1 then b2n ((s.gysByte (b / 8)).toNat.testBit (b % 8)) else s.gysStored (b / 8) (gtypeSize v.ty)

/-- The bytes that hold element `e` once it has value `x`. -/
def State.gvarBytes (s : State) (v : GVar) (e x : Nat) : List Byte :=
  if v.ty = 1 then [BitVec.ofNat 8 (setBit (s.gysByte (v.bitAddr e / 8)).toNat (v.bitAddr e % 8) (x % 2 == 1))]
  else toLe (gtypeSize v.ty) x

/-- Storing a value in an element, at the commit point of a host write or group action. -/
def State.gvarWrite (s : State) (v : GVar) (e x : Nat) : GRes State :=
  s.gysWrite (v.bitAddr e / 8) (s.gvarBytes v e x)

/-! ## Forces -/

/-- The byte at `a` with one force's bits in it (08 R192). -/
def forceByte (v : GVar) (f : Force) (a : Nat) (b : Byte) : Byte :=
  let o := v.bitAddr f.elem
  if v.ty = 1 then (if o / 8 = a then BitVec.ofNat 8 (setBit b.toNat (o % 8) (f.val % 2 == 1)) else b)
  else if o / 8 ≤ a ∧ a < o / 8 + gtypeSize v.ty then BitVec.ofNat 8 (f.val / 2 ^ (8 * (a - o / 8))) else b

/-- The byte a program load reads: the stored byte with the forced bits substituted (08 R170, R192). -/
def State.gysSeen (s : State) (a : Nat) : Byte :=
  s.gys.forces.foldl (fun b f => match s.gvar? f.ident with | some v => forceByte v f a b | none => b) (s.gysByte a)

/-- `n` bytes as the program and the output phase read them. -/
def State.gysLoad (s : State) (a : Nat) : Nat → Nat
  | 0 => 0
  | n + 1 => (s.gysSeen a).toNat + 256 * s.gysLoad (a + 1) n

/-- `n` bytes as the output phase delivers them. -/
def State.gysBytes (s : State) (a : Nat) : Nat → List Byte
  | 0 => []
  | n + 1 => s.gysSeen a :: s.gysBytes (a + 1) n

/-! ## Operand forms -/

/-- Bytes of a width code [23:22] (08 R166). -/
def widthBytes (w : Nat) : Nat := match w with | 0 => 4 | 1 => 2 | 2 => 2 | _ => 1

/-- The effective byte address of a word instruction in modes D, X and N (08 Table GYS-3, R166). -/
def State.wordAddr (s : State) (mode operand : Nat) : GRes Nat :=
  if fieldOf operand 21 18 ≠ 0 then .error 2
  else
    let base := operand % 2 ^ 18
    if mode = 3 ∧ base % 4 ≠ 0 then .error 3
    else
      let a := if mode = 1 then base else if mode = 2 then base + s.gys.ix else s.gysLoad base 4 % 2 ^ 18
      if 0x40000 ≤ a ∨ a % widthBytes (operand / 2 ^ 22) ≠ 0 then .error 3 else .ok a

/-- A loaded value extended to 32 bits (08 R166). -/
def extend (width v : Nat) : Word :=
  if width = 1 then BitVec.signExtend 32 (BitVec.ofNat 16 v) else BitVec.ofNat 32 v

/-- The operand value of a word instruction in any mode (08 Table GYS-3). -/
def State.wordOp (s : State) (mode operand : Nat) : GRes Word :=
  if mode = 0 then .ok (BitVec.signExtend 32 (BitVec.ofNat 24 operand))
  else match s.wordAddr mode operand with
    | .error c => .error c
    | .ok a => .ok (extend (operand / 2 ^ 22) (s.gysLoad a (widthBytes (operand / 2 ^ 22))))

/-- The effective bit address of a boolean instruction in modes D, X and N (08 Table GYS-3; log 18 for mode N). -/
def State.bitAddr (s : State) (mode operand : Nat) : GRes Nat :=
  if fieldOf operand 23 21 ≠ 0 then .error 2
  else if mode = 3 then
    if operand % 8 ≠ 0 then .error 2
    else if operand / 8 % 4 ≠ 0 then .error 3 else .ok (s.gysLoad (operand / 8) 4 % 2 ^ 21)
  else
    let a := if mode = 1 then operand else operand + s.gys.ix
    if 2 ^ 21 ≤ a then .error 3 else .ok a

/-- The bit a program load reads. -/
def State.gysBit (s : State) (a : Nat) : Bool := (s.gysSeen (a / 8)).toNat.testBit (a % 8)

/-- The operand value of a boolean instruction in any mode (08 Table GYS-3). -/
def State.boolOp (s : State) (mode operand : Nat) : GRes Bool :=
  if mode = 0 then (if operand / 2 ≠ 0 then .error 2 else .ok (operand % 2 == 1))
  else match s.bitAddr mode operand with
    | .error c => .error c
    | .ok a => .ok (s.gysBit a)

/-- A program store of one bit: the stored byte with that bit changed. -/
def State.storeBit (s : State) (a : Nat) (b : Bool) : GRes State :=
  s.gysStore (a / 8) [BitVec.ofNat 8 (setBit (s.gysByte (a / 8)).toNat (a % 8) b)]

/-- The hardware sets bits of ARITH and never clears them (08 R168). -/
def State.setArith (s : State) (a : Arith) : GRes State :=
  if a.bits = 0 then .ok s else s.gysWrite 0x858 (toLe 4 (s.gysStored 0x858 4 ||| a.bits))

end Sys2Proof.Machine
end

