-- ==== Sys2Proof/Machine/GeyserIsa.lean ====
section
/-!
DEFINITION. The instructions of the Geyser engine (08_geyser_engine.md R162–R170, R176). A row of the table is one executed
instruction; its operands are the mode [25:24] and operand [23:0] of the word at the program counter (log 14).
-/
namespace Sys2Proof.Machine

/-- What the owners do once Geyser has stopped or faulted: every field output turns off, and a car in motion stops at the
first landing it can reach; CAN, the doors and dispatch read GYS.STATE (08 Table GYS-8). -/
def State.gysOwnersStop (s : State) : State :=
  { s with
    fio.gysOff := true
    fio.ch := s.fio.ch.map fun c => { c with on := false }
    gys.outputsOff := true
    hst.stopReq := if s.hst.plan.isEmpty then s.hst.stopReq else some 1 }

/-- The application fault state: execution stops, the output phase is not performed, the cause, the instruction index
and the cycle are kept, and GYS_APPFAULT is recorded (08 R176). -/
def State.gysFault (s : State) (cause : Nat) : State :=
  let s := s.raise 0x0401 5 0xFF [(1, cause), (4, s.gys.pc), (1, match s.gys.phase with
    | .boundary => 0 | .execute => 1 | .closing => 3 | .faulted => 3)]
  let s := ((s.setOwn Idx.GYS_FAULT cause).setOwn Idx.GYS_FAULTPC s.gys.pc).setOwn Idx.GYS_FAULTCYC s.gys.cycle
  ({ s with gys.st := 3, gys.phase := .faulted }).gysOwnersStop

/-- Number of instructions in the active image. -/
def State.codeLen (s : State) : Nat := s.image 8 4 / 4

/-- The instruction word at an index of the active image's code. -/
def State.codeWord (s : State) (pc : Nat) : Nat := s.image (64 + 4 * pc) 4

/-- The engine is at this instruction: it executes, and the word at the program counter is this one; or the program
counter has left the code, where whatever comes next is an application fault. -/
def State.gysAt (s : State) (op mode operand : Nat) : Bool :=
  s.gys.st == 1 && s.gys.phase == .execute && decide (mode < 4) && decide (operand < 2 ^ 24) &&
    (decide (s.codeLen ≤ s.gys.pc) || s.codeWord s.gys.pc == op * 2 ^ 26 + mode * 2 ^ 24 + operand)

/-- The program counter moves to the next instruction. -/
def State.gysNext (s : State) : State := { s with gys.pc := (s.gys.pc + 1) % 2 ^ 17 }

/-- An executed instruction: cause 0x07 outside the code, its own cause, or its effect. -/
def State.gysRun (s : State) (k : State → GRes State) : State :=
  if s.codeLen ≤ s.gys.pc then s.gysFault 7
  else match k s with
    | .error c => s.gysFault c
    | .ok t => t

/-- One executed instruction of the Geyser engine. -/
def gysInstr (op mode operand : Nat) (k : State → GRes State) (s : State) : Out :=
  occurs (s.gysAt op mode operand) s (s.gysRun k)

/-- A boolean instruction that computes BA from BA and the operand's bit. -/
def boolInstr (op mode operand : Nat) (f : Bool → Bool → Bool) (s : State) : Out :=
  gysInstr op mode operand (fun s => match s.boolOp mode operand with
    | .error c => .error c
    | .ok b => .ok ({ s with gys.ba := f s.gys.ba b }).gysNext) s

/-- A boolean instruction that stores a bit, or stores none. -/
def bitInstr (op mode operand : Nat) (f : Bool → Option Bool) (s : State) : Out :=
  gysInstr op mode operand (fun s =>
    if mode = 0 then .error 2
    else match s.bitAddr mode operand with
      | .error c => .error c
      | .ok a => match f s.gys.ba with
        | none => .ok s.gysNext
        | some b => match s.storeBit a b with
          | .error c => .error c
          | .ok t => .ok t.gysNext) s

/-- A word instruction that computes WA and status bits from WA and the operand. -/
def wordInstr (op mode operand : Nat) (f : Word → Word → Word × Arith) (s : State) : Out :=
  gysInstr op mode operand (fun s => match s.wordOp mode operand with
    | .error c => .error c
    | .ok v => match s.setArith (f s.gys.wa v).2 with
      | .error c => .error c
      | .ok t => .ok ({ t with gys.wa := (f s.gys.wa v).1 }).gysNext) s

/-- A float instruction: as a word instruction, without the immediate mode. -/
def floatInstr (op mode operand : Nat) (f : Word → Word → Word × Arith) (s : State) : Out :=
  if mode = 0 then gysInstr op mode operand (fun _ => .error 2) s else wordInstr op mode operand f s

/-- A word instruction that compares WA with the operand into BA. -/
def cmpInstr (op mode operand : Nat) (f : Word → Word → Bool × Arith) (s : State) : Out :=
  gysInstr op mode operand (fun s => match s.wordOp mode operand with
    | .error c => .error c
    | .ok v => match s.setArith (f s.gys.wa v).2 with
      | .error c => .error c
      | .ok t => .ok ({ t with gys.ba := (f s.gys.wa v).1 }).gysNext) s

/-- An instruction that admits only mode I with operand 0. -/
def plainInstr (op mode operand : Nat) (k : State → GRes State) (s : State) : Out :=
  gysInstr op mode operand (fun s => if mode ≠ 0 ∨ operand ≠ 0 then .error 2 else k s) s

/-- A jump: mode I, target in operand [16:0], taken when `c` holds of BA. -/
def jumpInstr (op mode operand : Nat) (c : Bool → Bool) (s : State) : Out :=
  gysInstr op mode operand (fun s =>
    if mode ≠ 0 ∨ 2 ^ 17 ≤ operand then .error 2
    else if c s.gys.ba then .ok { s with gys.pc := operand } else .ok s.gysNext) s

/-- NOP (0x00). -/
def execGysNop (mode operand : Nat) (s : State) : Out :=
  plainInstr 0x00 mode operand (fun s => .ok s.gysNext) s

/-- LDB: BA := op. (08 R167) -/
def execLdb (mode operand : Nat) (s : State) : Out :=
  boolInstr 0x01 mode operand (fun _ b => b) s

/-- LDBN: BA := NOT op. (08 R167) -/
def execLdbn (mode operand : Nat) (s : State) : Out :=
  boolInstr 0x02 mode operand (fun _ b => !b) s

/-- ANDB: BA := BA AND op. (08 R167) -/
def execAndb (mode operand : Nat) (s : State) : Out :=
  boolInstr 0x03 mode operand (fun a b => a && b) s

/-- ANDBN: BA := BA AND NOT op. (08 R167) -/
def execAndbn (mode operand : Nat) (s : State) : Out :=
  boolInstr 0x04 mode operand (fun a b => a && !b) s

/-- ORB: BA := BA OR op. (08 R167) -/
def execOrb (mode operand : Nat) (s : State) : Out :=
  boolInstr 0x05 mode operand (fun a b => a || b) s

/-- ORBN: BA := BA OR NOT op. (08 R167) -/
def execOrbn (mode operand : Nat) (s : State) : Out :=
  boolInstr 0x06 mode operand (fun a b => a || !b) s

/-- XORB: BA := BA XOR op. (08 R167) -/
def execXorb (mode operand : Nat) (s : State) : Out :=
  boolInstr 0x07 mode operand (fun a b => a != b) s

/-- STB: bit := BA. (08 R167) -/
def execStb (mode operand : Nat) (s : State) : Out :=
  bitInstr 0x08 mode operand (fun b => some b) s

/-- STBN: bit := NOT BA. (08 R167) -/
def execStbn (mode operand : Nat) (s : State) : Out :=
  bitInstr 0x09 mode operand (fun b => some !b) s

/-- SETB: if BA then bit := 1. (08 R167) -/
def execSetb (mode operand : Nat) (s : State) : Out :=
  bitInstr 0x0A mode operand (fun b => if b then some true else none) s

/-- RSTB: if BA then bit := 0. (08 R167) -/
def execRstb (mode operand : Nat) (s : State) : Out :=
  bitInstr 0x0B mode operand (fun b => if b then some false else none) s

/-- EDGE: t := BA; BA := t AND NOT bit; bit := t. (08 R167) -/
def execEdge (mode operand : Nat) (s : State) : Out :=
  gysInstr 0x0C mode operand (fun s =>
    if mode = 0 then .error 2
    else match s.bitAddr mode operand with
      | .error c => .error c
      | .ok a => match s.storeBit a s.gys.ba with
        | .error c => .error c
        | .ok t => .ok ({ t with gys.ba := s.gys.ba && !s.gysBit a }).gysNext) s

/-- PSHB: push BA; cause 0x04 beyond 8 places. (08 R162, R167) -/
def execPshb (mode operand : Nat) (s : State) : Out :=
  plainInstr 0x0D mode operand (fun s =>
    if 8 ≤ s.gys.bstack.length then .error 4
    else .ok ({ s with gys.bstack := s.gys.ba :: s.gys.bstack }).gysNext) s

/-- ANDS: BA := BA AND pop. cause 0x04 on an empty stack (08 R167) -/
def execAnds (mode operand : Nat) (s : State) : Out :=
  plainInstr 0x0E mode operand (fun s => match s.gys.bstack with
    | [] => .error 4
    | b :: bs => .ok ({ s with gys.ba := s.gys.ba && b, gys.bstack := bs }).gysNext) s

/-- ORS: BA := BA OR pop. cause 0x04 on an empty stack (08 R167) -/
def execOrs (mode operand : Nat) (s : State) : Out :=
  plainInstr 0x0F mode operand (fun s => match s.gys.bstack with
    | [] => .error 4
    | b :: bs => .ok ({ s with gys.ba := s.gys.ba || b, gys.bstack := bs }).gysNext) s

/-- LD: WA := op. (08 R167) -/
def execLd (mode operand : Nat) (s : State) : Out :=
  wordInstr 0x10 mode operand (fun _ v => (v, {})) s

/-- ST: the low bits of WA are stored in the operand's width. (08 R166, R167) -/
def execSt (mode operand : Nat) (s : State) : Out :=
  gysInstr 0x11 mode operand (fun s =>
    if mode = 0 then .error 2
    else match s.wordAddr mode operand with
      | .error c => .error c
      | .ok a => match s.gysStore a (toLe (widthBytes (operand / 2 ^ 22)) s.gys.wa.toNat) with
        | .error c => .error c
        | .ok t => .ok t.gysNext) s

/-- LDX: IX := op [20:0]. (08 R167) -/
def execLdx (mode operand : Nat) (s : State) : Out :=
  gysInstr 0x12 mode operand (fun s => match s.wordOp mode operand with
    | .error c => .error c
    | .ok v => .ok ({ s with gys.ix := v.toNat % 2 ^ 21 }).gysNext) s

/-- ADD: WA := WA + op. (08 R167, R168) -/
def execAdd (mode operand : Nat) (s : State) : Out :=
  wordInstr 0x13 mode operand (intAdd) s

/-- SUB: WA := WA − op. (08 R167, R168) -/
def execSub (mode operand : Nat) (s : State) : Out :=
  wordInstr 0x14 mode operand (intSub) s

/-- MUL: low 32 bits of the signed product. (08 R167, R168) -/
def execMul (mode operand : Nat) (s : State) : Out :=
  wordInstr 0x15 mode operand (intMul) s

/-- DIV: signed, truncated toward zero. (08 R167, R168) -/
def execDiv (mode operand : Nat) (s : State) : Out :=
  wordInstr 0x16 mode operand (intDiv) s

/-- MOD: WA := WA − (WA / op) × op. (08 R167, R168) -/
def execMod (mode operand : Nat) (s : State) : Out :=
  wordInstr 0x17 mode operand (intMod) s

/-- AND. (08 R167, R168) -/
def execAndW (mode operand : Nat) (s : State) : Out :=
  wordInstr 0x18 mode operand (fun a b => (a &&& b, {})) s

/-- OR. (08 R167, R168) -/
def execOrW (mode operand : Nat) (s : State) : Out :=
  wordInstr 0x19 mode operand (fun a b => (a ||| b, {})) s

/-- XOR. (08 R167, R168) -/
def execXorW (mode operand : Nat) (s : State) : Out :=
  wordInstr 0x1A mode operand (fun a b => (a ^^^ b, {})) s

/-- NOT: WA := NOT WA. (08 R167) -/
def execNotW (mode operand : Nat) (s : State) : Out :=
  plainInstr 0x1B mode operand (fun s => .ok ({ s with gys.wa := ~~~s.gys.wa }).gysNext) s

/-- SHL: WA := WA << (op AND 31). (08 R167) -/
def execShl (mode operand : Nat) (s : State) : Out :=
  wordInstr 0x1C mode operand (intShl) s

/-- SHR: logical right shift by op AND 31. (08 R167) -/
def execShr (mode operand : Nat) (s : State) : Out :=
  wordInstr 0x1D mode operand (fun a b => (a >>> (b.toNat % 32), {})) s

/-- SAR: arithmetic right shift by op AND 31. (08 R167) -/
def execSar (mode operand : Nat) (s : State) : Out :=
  wordInstr 0x1E mode operand (fun a b => (a.sshiftRight (b.toNat % 32), {})) s

/-- MIN: the smaller, signed. (08 R167) -/
def execMinW (mode operand : Nat) (s : State) : Out :=
  wordInstr 0x1F mode operand (fun a b => (if b.slt a then b else a, {})) s

/-- MAX: the larger, signed. (08 R167) -/
def execMaxW (mode operand : Nat) (s : State) : Out :=
  wordInstr 0x20 mode operand (fun a b => (if a.slt b then b else a, {})) s

/-- CMPEQ: BA := (WA = op). (08 R167) -/
def execCmpeq (mode operand : Nat) (s : State) : Out :=
  cmpInstr 0x21 mode operand (fun a b => (a == b, {})) s

/-- CMPLT: signed. (08 R167) -/
def execCmplt (mode operand : Nat) (s : State) : Out :=
  cmpInstr 0x22 mode operand (fun a b => (a.slt b, {})) s

/-- CMPLTU: unsigned. (08 R167) -/
def execCmpltu (mode operand : Nat) (s : State) : Out :=
  cmpInstr 0x23 mode operand (fun a b => (a.ult b, {})) s

/-- FADD. (08 R167, R168) -/
def execFadd (mode operand : Nat) (s : State) : Out :=
  floatInstr 0x24 mode operand flAdd s

/-- FSUB. (08 R167, R168) -/
def execFsub (mode operand : Nat) (s : State) : Out :=
  floatInstr 0x25 mode operand flSub s

/-- FMUL. (08 R167, R168) -/
def execFmul (mode operand : Nat) (s : State) : Out :=
  floatInstr 0x26 mode operand flMul s

/-- FDIV. (08 R167, R168) -/
def execFdiv (mode operand : Nat) (s : State) : Out :=
  floatInstr 0x27 mode operand flDiv s

/-- FCMPLT: BA := (WA < op); 0 if either is NaN. (08 R167) -/
def execFcmplt (mode operand : Nat) (s : State) : Out :=
  if mode = 0 then gysInstr 0x28 mode operand (fun _ => .error 2) s else cmpInstr 0x28 mode operand flLt s

/-- CVT: operand 0 to float, 1 to signed integer. (08 R167, R168) -/
def execCvt (mode operand : Nat) (s : State) : Out :=
  gysInstr 0x29 mode operand (fun s =>
    if mode ≠ 0 ∨ 1 < operand then .error 2
    else
      let r := if operand = 0 then cvtToFloat s.gys.wa else cvtToInt s.gys.wa
      match s.setArith r.2 with
      | .error c => .error c
      | .ok t => .ok ({ t with gys.wa := r.1 }).gysNext) s

/-- JMP: PC := operand. (08 R167) -/
def execJmp (mode operand : Nat) (s : State) : Out :=
  jumpInstr 0x2A mode operand (fun _ => true) s

/-- JMPC: if BA then PC := operand. (08 R167) -/
def execJmpc (mode operand : Nat) (s : State) : Out :=
  jumpInstr 0x2B mode operand (fun b => b) s

/-- JMPCN: if NOT BA then PC := operand. (08 R167) -/
def execJmpcn (mode operand : Nat) (s : State) : Out :=
  jumpInstr 0x2C mode operand (fun b => !b) s

/-- CALL: push PC + 1; PC := operand; cause 0x04 beyond 16 places. (08 R162, R167) -/
def execCall (mode operand : Nat) (s : State) : Out :=
  gysInstr 0x2D mode operand (fun s =>
    if mode ≠ 0 ∨ 2 ^ 17 ≤ operand then .error 2
    else if 16 ≤ s.gys.rstack.length then .error 4
    else .ok { s with gys.rstack := (s.gys.pc + 1) % 2 ^ 17 :: s.gys.rstack, gys.pc := operand }) s

/-- RET: PC := pop; cause 0x04 on an empty stack. (08 R167) -/
def execRet (mode operand : Nat) (s : State) : Out :=
  plainInstr 0x2E mode operand (fun s => match s.gys.rstack with
    | [] => .error 4
    | a :: as => .ok { s with gys.pc := a, gys.rstack := as }) s

/-- The COPY block at IX: destination, source and length (08 Table GYS-5). -/
def State.copyBlock (s : State) : Nat × Nat × Nat :=
  (s.gysLoad s.gys.ix 4, s.gysLoad (s.gys.ix + 4) 4, s.gysLoad (s.gys.ix + 8) 4)

/-- Every byte of a range is writable by the program. -/
def rangeWritable (a n : Nat) : Bool :=
  n == 0 || ((decide (0x800 ≤ a) && decide (a + n ≤ 0x1000)) || (decide (0x6000 ≤ a) && decide (a + n ≤ 0x6008)) ||
    (decide (0x6100 ≤ a) && decide (a + n ≤ 0xA100)) || (decide (0xB000 ≤ a) && decide (a + n ≤ 0x40000)))

/-- SYS COPY: cause 0x03, with no byte copied, for a range that passes the data space or writes a "read" region; a
length above 65,536 is outside the stated range and is the same fault (log 18) (08 R169). -/
def State.gysCopy (s : State) : GRes State :=
  let (dst, src, len) := s.copyBlock
  if 0x40000 < s.gys.ix + 12 then .error 3
  else if 65536 < len then .error 3
  else if 0 < len ∧ (0x40000 < src + len ∨ 0x40000 < dst + len ∨ !rangeWritable dst len) then .error 3
  else s.gysWrite dst (s.gysBytes src len)

/-- COPY: SYS 1 copies a block of the data space as if through a buffer; a reserved mode or service number, which no
other row serves, is fault cause 0x02. SYS 0 and SYS 2 are the rows END and FAULT. (08 R169, R176) -/
def execSysCopy (mode operand : Nat) (s : State) : Out :=
  if mode = 0 ∧ (operand = 0 ∨ operand = 2) then .next s
  else gysInstr 0x2F mode operand (fun s =>
    if mode ≠ 0 ∨ operand ≠ 1 then .error 2
    else match s.gysCopy with
      | .error c => .error c
      | .ok t => .ok t.gysNext) s

/-- FAULT: SYS 2 raises an application fault with cause 0x06 and the user code WA [15:0], which WA keeps
(08 R169, R176). -/
def execSysFault (mode operand : Nat) (s : State) : Out :=
  occurs (s.gysAt 0x2F mode operand && mode == 0 && operand == 2) s (s.gysRun fun _ => .error 6)

end Sys2Proof.Machine
end

