-- ==== Sys2Proof/Machine/Common.lean ====
section
/-!
DEFINITION. What several blocks ask of each other: safety outputs, inputs and brakes, the floor table, the
car at a landing, and the stops that one block orders in another.
-/
namespace Sys2Proof.Machine

/-! ## Safety channels as the others see them -/

/-- One safety channel: Wick A for true, Wick B for false (12 R299). -/
def State.chan (s : State) (isA : Bool) : SafCh := if isA then s.saf.chA else s.saf.chB

/-- One safety channel changed. -/
def State.modChan (s : State) (isA : Bool) (f : SafCh → SafCh) : State :=
  if isA then { s with saf.chA := f s.saf.chA } else { s with saf.chB := f s.saf.chB }

/-- Both channels changed. -/
def State.modBoth (s : State) (f : SafCh → SafCh) : State :=
  { s with saf.chA := f s.saf.chA, saf.chB := f s.saf.chB }

/-- Output SOA–SOD (0–3) is closed: both of its switches are (12 R299). -/
def State.soClosed (s : State) (k : Nat) : Bool := s.saf.chA.sw.testBit k && s.saf.chB.sw.testBit k

/-- An output declared in use (12 R307). -/
def State.soUsed (s : State) (k : Nat) : Bool := s.parBit Idx.SAF_SOUSE k

/-- Inputs that carry a function of Table SAF-2 (12 R304). -/
def State.siOf (s : State) (fn : Nat) : List Nat :=
  (List.range 14).filter fun n => s.par (Idx.SAF_SIFUNn n) == fn

/-- Some input carries the function. -/
def State.siAssigned (s : State) (fn : Nat) : Bool := !(s.siOf fn).isEmpty

/-- Every input of the function is active in the filtered states `flt` (12 R304, R305). -/
def State.siEvery (s : State) (flt fn : Nat) : Bool := (s.siOf fn).all fun n => flt.testBit n

/-- The function is active: some input carries it and all of them are active (12 R304). -/
def State.siActive (s : State) (flt fn : Nat) : Bool := s.siAssigned fn && s.siEvery flt fn

/-- The chain is closed: every CHAIN input is active (12 R305). -/
def State.chainClosed (s : State) (flt : Nat) : Bool := s.siEvery flt 1

/-- The doors are locked: every LOCK and CARDOOR input is active (12 R305). -/
def State.doorsLocked (s : State) (flt : Nat) : Bool := [2, 3, 4, 5].all fun fn => s.siEvery flt fn

/-- The mode of the filtered states: 1 inspection, 2 rescue, 0 normal (12 R305). -/
def State.modeOf (s : State) (flt : Nat) : Nat :=
  if s.siActive flt 9 then 1 else if s.siActive flt 10 then 2 else 0

/-- SAF.SISTAT: the filtered inputs as Wick A reports them (12 R331). -/
def State.sistat (s : State) : Nat := s.saf.chA.flt

/-- HST.MODE and SAF.MODE (12 R305). -/
def State.mode (s : State) : Nat := s.saf.chA.mode

/-- The brakes are lifted: every counted BRAKEn_LIFTED is active; with no output in use, the lift request stands
(09 R492). -/
def State.brakesLifted (s : State) : Bool :=
  if !s.soUsed 0 && !s.soUsed 1 then s.hst.liftReq
  else (!s.soUsed 0 || s.siActive s.sistat 6) && (!s.soUsed 1 || s.siActive s.sistat 7)

/-- The brakes are confirmed applied: every counted BRAKEn_LIFTED is inactive (09 R492). -/
def State.brakesApplied (s : State) : Bool :=
  if !s.soUsed 0 && !s.soUsed 1 then !s.hst.liftReq
  else (!s.soUsed 0 || !s.siActive s.sistat 6) && (!s.soUsed 1 || !s.siActive s.sistat 7)

/-- Standstill of a channel: |v_S| ≤ 5 mm/s held for 100 ms (12 R302). -/
def SafCh.standing (c : SafCh) : Bool := decide (400 ≤ c.still)

/-- Standstill as both channels see it. -/
def State.standing (s : State) : Bool := s.saf.chA.standing && s.saf.chB.standing

/-- A trip cause is active (SAF.STATUS [2]). -/
def State.tripped (s : State) : Bool := s.saf.chA.active != 0 || s.saf.chB.active != 0

/-! ## The floor table (09 Table HST-3) -/

/-- `n` bytes of landing k's entry. -/
def State.floorN (s : State) (k off n : Nat) : Nat := s.tblN 0x0100 (32 * k + off) n

/-- Floor level of landing k, µm. -/
def State.level (s : State) (k : Nat) : Int := signedOf 32 (s.floorN k 0 4)

/-- Lower and upper door-zone flag edge of landing k, µm. -/
def State.edgeLo (s : State) (k : Nat) : Int := signedOf 32 (s.floorN k 4 4)
def State.edgeHi (s : State) (k : Nat) : Int := signedOf 32 (s.floorN k 8 4)

/-- A flag bit of landing k's entry: 0 PRESENT, 1 FRONT, 2 REAR, 3 LEARNED, 4 MANUAL, 5 CHATTER. -/
def State.floorFlag (s : State) (k b : Nat) : Bool := (s.floorN k 16 1).testBit b

/-- Number of landings, HST.NLAND. -/
def State.nland (s : State) : Nat := s.parN Idx.HST_NLAND

/-- Landing k exists and is PRESENT. -/
def State.present (s : State) (k : Nat) : Bool := decide (k < s.nland) && s.floorFlag k 0

/-- The landings in order. -/
def State.landings (s : State) : List Nat := (List.range s.nland).filter fun k => s.floorFlag k 0

/-- HST is DISABLED (09 R208). -/
def State.hstDisabled (s : State) : Bool :=
  decide (((List.range s.nland).filter fun k => s.floorFlag k 3 || s.floorFlag k 4).length < s.nland) ||
    s.par Idx.HST_INCRES == 0 || s.hst.unlearned

/-! ## The car -/

/-- The fused car position rounded to 1 µm (09 R204). -/
def State.carPos (s : State) : Int := (s.hst.pf + 128) / 256

/-- The reference is at rest. -/
def State.refRest (s : State) : Bool := s.hst.ref.v == 0 && s.hst.ref.a == 0 && s.hst.plan.isEmpty

/-- Position of the reference, µm. -/
def RefSt.um (r : RefSt) : Int := (r.p + 3 * 10 ^ 18) / (6 * 10 ^ 18)

/-- Speed of the reference, µm/s. -/
def RefSt.ums (r : RefSt) : Int := (r.v + 10 ^ 12) / (2 * 10 ^ 12)

/-- Acceleration of the reference, µm/s². -/
def RefSt.acc (r : RefSt) : Int := (r.a + 500000) / 1000000

/-- A reference at rest at a position in µm. -/
def RefSt.at_ (p : Int) : RefSt := { p := 6 * 10 ^ 18 * p, v := 0, a := 0 }

/-- The fused position lies inside landing k's door-zone band, between its flag edges (11 R277). -/
def State.inFlag (s : State) (k : Nat) : Bool :=
  decide (s.edgeLo k ≤ s.carPos) && decide (s.carPos ≤ s.edgeHi k)

/-- HST is in a situation in which the car counts as parked inside a band (11 R277). -/
def State.parkedState (s : State) : Bool :=
  match s.hst.st with
  | .idle => true
  | .reversalDwell => true
  | .stopping => s.brakesApplied
  | .relevelling => true
  | .inspection => s.refRest
  | _ => false

/-- The car is parked at landing k (11 R277). -/
def State.parkedAt (s : State) (k : Nat) : Bool := s.parkedState && s.present k && s.inFlag k

/-- The landing the car is parked at. -/
def State.parkedLanding (s : State) : Option Nat := s.landings.find? fun k => s.parkedAt k

/-- An operator: DR0 for true, DR1 for false. -/
def State.door (s : State) (front : Bool) : Door := if front then s.dr0 else s.dr1

/-- An operator changed. -/
def State.modDoor (s : State) (front : Bool) (f : Door → Door) : State :=
  if front then { s with dr0 := f s.dr0 } else { s with dr1 := f s.dr1 }

/-- A Caldera slot. -/
def State.cslot (s : State) (n : Nat) : CSlot := s.cle.slots.getD n {}

/-- A Caldera slot changed. -/
def State.modSlotC (s : State) (n : Nat) (f : CSlot → CSlot) : State :=
  { s with cle.slots := modifyAt s.cle.slots n f }

/-- An owner asks for slots to be enabled or disabled (10 R241). -/
def State.wantSlots (s : State) (ns : List Nat) (b : Bool) : State :=
  ns.foldl (fun s n => s.modSlotC n fun c => { c with want := b }) s

/-! ## Stops ordered from outside HST -/

/-- A cause of a controlled stop is present: HST acts at its next replanning tick (09 R219, Table HST-2).
Bits: 0 position source, 1 discrepancy, 2 INC signal, 3 tracking, 4 drive link, 5 SHF, 6 sag or trip, 7 temperature,
8 slot fault or implausibility, 9 Geyser stopped. -/
def State.addCause (s : State) (bit : Nat) : State := { s with hst.causes := setBit s.hst.causes bit true }

/-- A cause has cleared. -/
def State.dropCause (s : State) (bit : Nat) : State := { s with hst.causes := setBit s.hst.causes bit false }

/-- HST gives up its run: it drops its target, clears ENABLE and its requests, and holds where the car is; a MOVE not yet taken
waits for its tick. -/
def State.hstRelease (s : State) (st : HSt) : State :=
  { s with
    hst.st := st
    hst.target := none
    hst.stopReq := none
    hst.zoneTarget := none
    hst.plan := []
    hst.ref := RefSt.at_ s.carPos
    hst.planEnd := s.carPos
    hst.goal := .target
    hst.runReq := false
    hst.liftReq := false
    hst.released := false
    hst.socAt := none
    hst.enable := false
    hst.levelled := false
    saf.sodHst := none }

/-- A learning run ends as a learning fault of this cause: everything it would have written stays unchanged
(09 R213). -/
def State.learnFault (s : State) (cause : Nat) : State :=
  let s := s.raise 0x0506 4 0xFF [(1, cause)]
  let s := (s.setOwn Idx.HST_LEARNSTAT 3).setOwn Idx.HST_LEARNCAUSE cause
  { s with hst.learn := {}, hst.goal := .stop, hst.stopReq := none }

/-- A run ends before its profile has: its requests and its target are dropped, and a learning run it belonged to is stopped,
cause 5 (09 R213, R236; log 60). -/
def State.dropRun (s : State) (st : HSt) : State :=
  let st := if (s.hst.st = .learning ∨ s.hst.st = .learnFault) ∧ st = .idle then .learnFault else st
  let s := if s.hst.learn.step ≠ 0 then s.learnFault 5 else s
  (s.hstRelease st).wantSlots [12, 13, 14] false

/-- HST is told of a trip in the same task: it drops its target, clears ENABLE and stays in FAULT (12 R319). -/
def State.hstTripped (s : State) : State := (s.dropRun .fault).addCause 6

/-! ## What LOCKOUT and a stop of the fast domain turn off -/

/-- Every safety switch opens. -/
def State.openAll (s : State) : State := s.modBoth fun c => { c with sw := 0, grants := 0 }

/-- The gates of both operators turn off and each enters STOPPED, a sensorless one UNREFERENCED, with its position
kept; a disabled or faulted one stays so (11 R297). -/
def Door.sagOff (sensorless : Bool) (d : Door) : Door :=
  match d.st with
  | .disabled => { d with gates := false }
  | .fault => { d with gates := false }
  | _ => { d with gates := false, st := if sensorless then .unreferenced else .stopped, ref := if sensorless then 0 else d.ref,
                  dir := 0, moving := false, braking := false, rvel := 0, arrival := none, resume := none, obstructed := none,
                  counts := false, learn := {}, boosting := false, ver := (d.ver + 1) % 2 ^ 32 }

/-- Both operators under R297. -/
def State.gatesOff (s : State) : State :=
  let s := s.modDoor true (Door.sagOff (s.parBit (Idx.DRn_CFG 0) 2))
  let s := s.modDoor false (Door.sagOff (s.parBit (Idx.DRn_CFG 1) 2))
  { (s.wantSlots [0, 1, 2, 3, 4, 5, 6, 7, 8, 9, 10, 11] false) with saf.sodDr0 := none, saf.sodDr1 := none }

/-- Every field output is off. -/
def State.fieldOff (s : State) : State := { s with fio.ch := s.fio.ch.map fun c => { c with on := false } }

/-- Every output is off, as in LOCKOUT and AON (02 Table PWR-5). -/
def State.allOff (s : State) : State := ((s.openAll.gatesOff).fieldOff).hstTripped

/-- The controllers leave their buses (14 R369). -/
def State.canOff (s : State) : State :=
  let off := fun (c : Can) => { c with st := 0, alone := false, ackRun := 0, standby := false }
  { s with can0 := off s.can0, can1 := off s.can1 }

/-- The device enters LOCKOUT (02 R39): every output off, the control engines stopped. -/
def State.toLockout (s : State) (cause : Nat) : State :=
  let s := { s with saf.running := false, saf.btPhase := 0, pwr.lockoutCause := cause, pwr.waking := false }
  ((s.allOff).canOff).enter .lockout cause

end Sys2Proof.Machine
end

