-- ==== Sys2Proof/Machine/Profile.lean ====
section
/-!
DEFINITION. Motion profiles of the hoist axis (09_hoistway_position_and_profiles.md R219–R223): segments of constant jerk,
the stopping distance, the plan toward a target under limits. Planning works in nm, nm/s, nm/s² and µs; the reference
advances exactly over the planned segments (log 8).
-/
namespace Sys2Proof.Machine

/-- The limits of a plan: speed nm/s, acceleration nm/s², jerk nm/s³. -/
structure Lim where
  v : Nat
  a : Nat
  j : Nat
  deriving DecidableEq, Repr

/-- n/d rounded to nearest, ties upward. -/
def rdiv (n d : Int) : Int := (2 * n + d) / (2 * d)

/-- Magnitude as a natural number. -/
def mag (x : Int) : Nat := x.natAbs

/-- Sign: 1, 0 or −1. -/
def sgn (x : Int) : Int := if 0 < x then 1 else if x < 0 then -1 else 0

/-- ⌊√n⌋ for n below 2^160. -/
def root (n : Nat) : Nat := isqrtAux n 80 0

/-- Time to change the acceleration by `da` under jerk `j`, µs. -/
def jerkTime (da j : Nat) : Nat := (rdiv (da * 1000000) (max j 1)).toNat

/-- The segments that bring speed `v0` with acceleration `a0` to speed `vt` with acceleration 0: jerk to a peak
acceleration, hold it, jerk back to 0 (09 R219, R222). -/
def rampTo (v0 a0 vt : Int) (l : Lim) : List Seg :=
  let j : Int := l.j
  let nat := v0 + a0 * (mag a0 : Int) / (2 * j)
  let s : Int := if nat ≤ vt then 1 else -1
  let v := s * v0
  let a := s * a0
  let t := s * vt
  let ap : Int := min (l.a : Int) (root (j * (t - v) + a * a / 2).toNat)
  let t1 := jerkTime (mag (ap - a)) l.j
  let t3 := jerkTime (mag ap) l.j
  let rest := (t - v) * 1000000 - (a + ap) * t1 / 2 - ap * t3 / 2
  let t2 : Nat := if 0 < ap then (rdiv rest ap).toNat else 0
  [⟨s * sgn (ap - a) * j / 1000, t1⟩, ⟨0, t2⟩, ⟨-s * j / 1000, t3⟩]

/-- A reference after `t` µs of jerk `j` (log 8). -/
def RefSt.step (r : RefSt) (j : Int) (t : Nat) : RefSt :=
  { p := r.p + 3 * r.v * t + 3 * r.a * t * t + j * t * t * t, v := r.v + 2 * r.a * t + j * t * t, a := r.a + j * t }

/-- A reference after a plan. -/
def RefSt.run (r : RefSt) : List Seg → RefSt
  | [] => r
  | g :: gs => (r.step g.jerk g.us).run gs

/-- A reference after at most `t` µs of a plan, and the rest of the plan. -/
def RefSt.advance (r : RefSt) (t : Nat) : List Seg → RefSt × List Seg
  | [] => (r, [])
  | g :: gs =>
    if g.us ≤ t then (r.step g.jerk g.us).advance (t - g.us) gs
    else (r.step g.jerk t, ⟨g.jerk, g.us - t⟩ :: gs)

/-- Duration of a plan, µs. -/
def planUs (gs : List Seg) : Nat := (gs.map fun g => g.us).foldl (· + ·) 0

/-- d₀(v): the distance from rest to speed `v`, nm (09 Profiles). -/
def dRest (v : Nat) (l : Lim) : Nat :=
  if l.a * l.a ≤ v * l.j then v * (v * l.j + l.a * l.a) / (2 * l.a * max l.j 1)
  else root (v * v * v / max l.j 1)

/-- Distance of a ramp from speed `v0`, acceleration `a0`, nm. -/
def segDist (v0 a0 : Int) (gs : List Seg) : Int :=
  (({ p := 0, v := 2000000000 * v0, a := 1000 * a0 } : RefSt).run gs).p / (6 * 10 ^ 15)

/-- Distance to travel when the speed is first brought to `vt` and then to rest, nm. -/
def viaDist (v0 a0 : Int) (vt : Nat) (l : Lim) : Int := segDist v0 a0 (rampTo v0 a0 vt l) + dRest vt l

/-- The normal stopping distance of a reference moving forward, nm (09 R221). -/
def stopDist (v a : Int) (l : Lim) : Int :=
  let j : Int := l.j
  if 0 ≤ a then
    v * a / j + a * a * a / (3 * j * j) + dRest (v + a * a / (2 * j)).toNat l
  else
    let v0 := v + a * a / (2 * j)
    let m := -a
    dRest v0.toNat l - (v0 * m / j - m * m * m / (6 * j * j))

/-- The peak speed by bisection between `lo` and `lo + 2^k`: the highest whose distance does not exceed `d`. -/
def peakAux (v0 a0 d : Int) (l : Lim) : Nat → Nat → Nat
  | 0, r => r
  | k + 1, r =>
    let m := r + 2 ^ k
    peakAux v0 a0 d l k (if m ≤ l.v ∧ viaDist v0 a0 m l ≤ d then m else r)

/-- Peak speed of a rest-to-rest move over `d` nm: R220's three cases, nm/s. -/
def restPeak (d : Nat) (l : Lim) : Nat :=
  let va := l.a * l.a / max l.j 1
  if 2 * dRest l.v l ≤ d then l.v
  else if 2 * dRest va l ≤ d then
    let b := l.a * l.a / max l.j 1
    min l.v ((root (b * b + 4 * l.a * d) - b) / 2)
  else min l.v (icbrt (d * d / 4 * l.j))

/-- A plan forward over `d` nm from speed `v`, acceleration `a`, and its peak speed in nm/s (09 R220, R221). -/
def planFwd (v a d : Int) (l : Lim) : List Seg × Nat :=
  if d ≤ stopDist v a l ∧ (v ≠ 0 ∨ a ≠ 0) then (rampTo v a 0 l, v.toNat)
  else
    let nat := v + a * (mag a : Int) / (2 * (l.j : Int))
    let lo : Nat := if 0 ≤ a ∧ nat ≤ l.v then nat.toNat else 0
    let vp := if v = 0 ∧ a = 0 then restPeak d.toNat l
              else if viaDist v a l.v l ≤ d then l.v else peakAux v a d l 34 lo
    let up := rampTo v a vp l
    let down := rampTo vp 0 0 l
    let cruise := d - segDist v a up - dRest vp l
    let t := if 0 < vp then (rdiv (max cruise 0 * 1000000) vp).toNat else 0
    ((up ++ [Seg.mk 0 t] ++ down).filter fun g => g.us != 0, max vp (max v 0).toNat)

/-- The same plan in direction `s`. -/
def mirror (s : Int) (gs : List Seg) : List Seg := gs.map fun g => { g with jerk := s * g.jerk }

/-- Limits in nm from parameters in µm. -/
def limOf (v a j : Nat) : Lim := { v := v * 1000, a := a * 1000, j := j * 1000 }

/-- Speed and acceleration of a reference in nm/s and nm/s². -/
def RefSt.nv (r : RefSt) : Int := r.v / 2000000000
def RefSt.na (r : RefSt) : Int := r.a / 1000

/-- Direction of travel of a reference: its speed's sign, at zero speed its acceleration's. -/
def RefSt.dirOf (r : RefSt) : Int := if r.nv = 0 then sgn r.na else sgn r.nv

/-- The normal stopping point of a reference, µm (09 R221). -/
def stopPoint (r : RefSt) (l : Lim) : Int :=
  let s := r.dirOf
  if s = 0 then r.um else r.um + s * rdiv (stopDist (s * r.nv) (s * r.na) l) 1000

/-- A plan from a reference to a position in µm that is not behind it, with its peak speed in µm/s. -/
def planTo (r : RefSt) (goal : Int) (l : Lim) : List Seg × Nat :=
  let s := if r.dirOf = 0 then sgn (goal - r.um) else r.dirOf
  let (gs, vp) := planFwd (s * r.nv) (s * r.na) (s * (goal * 1000 - r.p / (6 * 10 ^ 15))) l
  (mirror s gs, (rdiv vp 1000).toNat)

/-- The plan of a stop at the normal stopping point. -/
def planStop (r : RefSt) (l : Lim) : List Seg :=
  let s := r.dirOf
  (mirror s (rampTo (s * r.nv) (s * r.na) 0 l)).filter fun g => g.us != 0

end Sys2Proof.Machine
end

