-- ==== Sys2Proof/Machine/Wick.lean ====
section
/-!
DEFINITION. The safety channels Wick A and Wick B (12_safety_functions.md): sample task, safety cycle, functions SF1–SF9,
grants, switch tests, brake torque test, reset. `ch` is 0 for Wick A and 1 for Wick B.
-/
namespace Sys2Proof.Machine

/-- The landing whose door-zone band holds a position (12 R302). -/
def State.bandAt (s : State) (p : Int) : Option Nat :=
  (List.range (s.parN Idx.SAF_NLAND)).find? fun k =>
    decide (mag (p - s.par (Idx.SAF_LEVk k)) ≤ s.parN Idx.SAF_DZHALF)

/-- The channels that read a channel number. -/
def isWick (ch : Nat) : Bool := decide (ch < 2)

/-! ## Trips -/

/-- A trip cause's event: 0x0901–0x0909, 0x090A, 0x090B (12 R319). -/
def tripEvent (bit : Nat) : Nat := 0x0901 + bit

/-- The device enters TRIPPED from RUN; in a DORMANT wake it passes through RUN first (02 R39). -/
def State.toTripped (s : State) (cause : Nat) : State :=
  if s.pwr.state = .run then s.enter .tripped cause else s

/-- A channel decides a trip from its own detection: its switches open, the cause is set, HST is told, and the device
enters TRIPPED; the record is written when neither channel held the cause (12 R300, R319). -/
def State.safTrip (s : State) (isA : Bool) (bit : Nat) (value : Int) : State :=
  let c := s.chan isA
  if c.own.testBit bit then s.modChan isA fun c => { c with sw := 0 }
  else
    let new := !(s.saf.chA.active.testBit bit || s.saf.chB.active.testBit bit)
    let s := s.modChan isA fun c =>
      { c with own := setBit c.own bit true, active := setBit c.active bit true, sw := 0, grants := 0 }
    if new then
      let s := s.raise (tripEvent bit) 6 0xFF [(4, c.pS), (4, c.vS), (4, value)]
      let s := (s.setOwn Idx.SAF_LASTTRIP (tripEvent bit)).bump Idx.SAF_TRIPCOUNT
      ((s.toTripped (tripEvent bit)).hstTripped)
    else s

/-- An internal dangerous fault: the outputs open and the device enters LOCKOUT (12 R317). -/
def State.safLockout (s : State) (item ch : Nat) : State :=
  if s.pwr.state = .lockout then s
  else
    let s := (s.setOwn Idx.SAF_LOCKCAUSE item).raise 0x0910 7 0xFF [(1, item), (1, ch)]
    s.toLockout 0x0910

/-! ## The sample task -/

/-- Agreeing-sample counts after one more sample (12 R305). -/
def countAgree (flt raw : Nat) : Nat → List Nat → List Nat
  | _, [] => []
  | n, k :: ks => (if flt.testBit n != raw.testBit n then k + 1 else 0) :: countAgree flt raw (n + 1) ks

/-- A frame is valid for a channel (12 R302). -/
def safFrameOk (double : Bool) (c : SafCh) (src : SafSrc) (pos : Int) (f : SsiFrame) : Bool :=
  !f.raw.testBit 31 && f.high && (!double || f.raw == f.copy) &&
    (!src.seen || decide (mag (pos - src.pos) ≤ mag c.vS / 2000 + 5000))

/-- The car position a frame stands for (09 R201). -/
def framePos (down : Bool) (ofs : Int) (raw : Nat) : Int :=
  (if down then -((raw % 2 ^ 30 : Nat) : Int) else (raw % 2 ^ 30 : Nat)) + ofs

/-- A source after a frame was taken or none came in this task. -/
def safTake (double : Bool) (c : SafCh) (down : Bool) (ofs : Int) (src : SafSrc) : Option SsiFrame → SafSrc
  | none => src
  | some f =>
    let pos := framePos down ofs f.raw
    if safFrameOk double c src pos f then { raw := f.raw, pos := pos, valid := true, seen := true, missing := 0 }
    else { src with raw := f.raw, valid := false, missing := 0 }

/-- INC travel in µm of a number of edges (12 R302). -/
def State.incTravel (s : State) (edges : Int) : Int :=
  (if s.parBit Idx.SAF_PSDIR 2 then -1 else 1) * rdiv (edges * s.par Idx.SAF_INCPER) 4000

/-- p_S: the mean of the valid sources, or carried forward by INC (12 R302). -/
def State.safPos (s : State) (c : SafCh) : Int :=
  if c.a.valid ∧ c.b.valid then (c.a.pos + c.b.pos) / 2
  else if c.a.valid then c.a.pos
  else if c.b.valid then c.b.pos
  else c.carryPos + s.incTravel (c.inc - c.carryInc)

/-- A channel that forms a new value of p_S and with it v_S (12 R302). -/
def State.formPos (s : State) (c : SafCh) : SafCh :=
  let p := s.safPos c
  let c := { c with pS := p, p1 := c.pS, vS := (p - c.p1) * 1000, formed := true }
  if c.a.valid ∨ c.b.valid then { c with carryPos := p, carryInc := c.inc } else c

/-- The standstill count and the INC reference, set at every standstill and every 1 s while INC and p_S agree within
1 mm (12 R302, R303). -/
def State.safStill (s : State) (c : SafCh) : SafCh :=
  let still := if mag c.vS ≤ 5000 then min 400 (c.still + 1) else 0
  let reached := decide (still = 400) && decide (c.still < 400)
  let agree := decide (mag (s.incTravel (c.inc - c.refInc) - (c.pS - c.refPos)) ≤ 1000)
  if reached ∨ (4000 ≤ c.refAge + 1 ∧ agree) then
    { c with still := still, refInc := c.inc, refPos := c.pS, refAge := 0 }
  else { c with still := still, refAge := c.refAge + 1 }

/-- The five conditions of SF9 (12 R303). -/
def State.sf9Conds (s : State) (c : SafCh) : List Bool :=
  [c.a.valid && c.b.valid && decide (5000 < mag (c.a.pos - c.b.pos)), !c.a.valid, !c.b.valid,
   decide (5000 < mag (s.incTravel (c.inc - c.refInc) - (c.pS - c.refPos))), c.incBad]

/-- Counting consecutive updates. -/
def countUp (b : Bool) (n : Nat) : Nat := if b then n + 1 else 0

/-- d₀(v) with the braking values of the safety set, µm (12 R312). -/
def State.brakeDist (s : State) (v : Nat) : Int :=
  rdiv (dRest (v * 1000) (limOf v (s.parN Idx.SAF_ABRAKE) (s.parN Idx.SAF_JBRAKE))) 1000

/-- The own extents U and L (12 R312). -/
def State.safExtents (s : State) (c : SafCh) : Int × Int :=
  let t := s.parN Idx.SAF_TBRAKE
  let v' := mag c.vS + 1600 * t
  let xe := c.pS + sgn c.vS * (rdiv (v' * t) 1000 + s.brakeDist v')
  (max c.pS xe + s.par Idx.SAF_SILLTOP, min c.pS xe - s.par Idx.SAF_SILLBOT)

/-- The emergency stopping extent's end, before the sill allowance (12 R313). -/
def State.emergencyEnd (s : State) (c : SafCh) : Int :=
  let v := mag c.vS
  c.pS + sgn c.vS * (rdiv (v * s.parN Idx.SAF_TBRAKE) 1000 + rdiv (v * v) (2 * s.par Idx.SAF_ABRAKE))

/-- SF7's condition: separation below SAF.GUARD, or the emergency extent past a limit kept on a lost link
(12 R312, R313). -/
def State.sf7Cond (s : State) (c : SafCh) : Bool :=
  (s.parBit Idx.SAF_SHMODE 1 &&
    (if c.above.lost then decide (c.above.limit < max c.pS (s.emergencyEnd c) + s.par Idx.SAF_SILLTOP)
     else c.above.got.isSome && decide (c.above.lo - c.hi < s.par Idx.SAF_GUARD))) ||
  (s.parBit Idx.SAF_SHMODE 0 &&
    (if c.below.lost then decide (min c.pS (s.emergencyEnd c) - s.par Idx.SAF_SILLBOT < c.below.limit)
     else c.below.got.isSome && decide (c.lo - c.below.hi < s.par Idx.SAF_GUARD)))

/-- SF4's condition (12 R311). -/
def State.sf4Cond (s : State) (c : SafCh) : Bool :=
  let d := sgn c.vS
  let v := mag c.vS
  if d = 0 then false
  else
    let lt := s.par (Idx.SAF_LEVk (if 0 < d then s.parN Idx.SAF_NLAND - 1 else 0))
    let dist := d * (lt - c.pS) + s.par Idx.SAF_TSDOVR
    let m := v - s.parN Idx.SAF_TSDMARG
    if dist ≤ 0 then decide (5000 < v)
    else decide (s.parN Idx.SAF_TSDMARG < v) && decide ((2 * s.par Idx.SAF_ATSD * dist).toNat < m * m)

/-- SF2's condition: unlocked without SOD and out of the band, or 20 mm away where no band held the car
(12 Table SAF-5). -/
def State.sf2Cond (s : State) (c : SafCh) : Bool :=
  !s.doorsLocked c.flt && !s.soClosed 3 && (match c.unlocked with
    | none => false
    | some (some k, _) => decide (s.parN Idx.SAF_DZHALF < mag (c.pS - s.par (Idx.SAF_LEVk k)))
    | some (none, p) => decide (20000 < mag (c.pS - p)))

/-- SF6's condition (12 Table SAF-5). -/
def State.sf6Cond (s : State) (c : SafCh) : Bool :=
  s.soClosed 3 && (match s.saf.sodFor with
    | none => false
    | some (k, relevel) => decide (s.parN Idx.SAF_DZHALF < mag (c.pS - s.par (Idx.SAF_LEVk k))) ||
        decide (s.parN (if relevel then Idx.SAF_VRELEV else Idx.SAF_VADV) < mag c.vS))

/-- SF8's condition: the speed of the mode, or a position outside the inspection limits moving further out; after a
cleared trip there, more than 10 mm further (12 Tables SAF-5, SAF-9). -/
def State.sf8Cond (s : State) (c : SafCh) : Bool :=
  let lo := s.par Idx.SAF_INSPLO
  let hi := s.par Idx.SAF_INSPHI
  match c.mode with
  | 1 => decide (s.parN Idx.SAF_VINSP < mag c.vS) ||
      (match c.sf8Base with
       | some b => (decide (hi < c.pS) && decide (b + 10000 < c.pS)) || (decide (c.pS < lo) && decide (c.pS < b - 10000))
       | none => (decide (hi < c.pS) && decide (0 < c.vS)) || (decide (c.pS < lo) && decide (c.vS < 0)))
  | 2 => decide (s.parN Idx.SAF_VRESC < mag c.vS)
  | _ => false

/-- SF1's condition (12 Table SAF-5). -/
def State.sf1Cond (s : State) (c : SafCh) : Bool := !s.chainClosed c.flt && (s.soClosed 2 || !c.standing)

/-- SF3's condition: |v_S| above SAF.VRATED × SAF.VOSPCT / 1,000 (12 Table SAF-5). -/
def State.sf3Cond (s : State) (c : SafCh) : Bool :=
  decide (s.parN Idx.SAF_VRATED * s.parN Idx.SAF_VOSPCT < mag c.vS * 1000)

/-- The qualification counts after a sample task: SF1 and SF7 at every task, the others at a new value (12 R300). -/
def State.safQual (s : State) (c : SafCh) : List Nat :=
  let q := fun i => c.qual.getD i 0
  let at_ := fun (i : Nat) (b : Bool) => if c.formed then countUp b (q i) else q i
  [countUp (s.sf1Cond c) (q 0), at_ 1 (s.sf2Cond c), at_ 2 (s.sf3Cond c), at_ 3 (s.sf4Cond c), 0, at_ 5 (s.sf6Cond c),
   countUp (s.sf7Cond c) (q 6), at_ 7 (s.sf8Cond c), 0]

/-- Updates that qualify SF1–SF8 (12 Table SAF-5). -/
def qualNeed : List Nat := [1, 2, 2, 2, 0, 2, 2, 2]

/-- The functions the sample task trips on: SF1–SF4 and SF6–SF8. -/
def State.safEvaluate (s : State) (isA : Bool) : State :=
  [0, 1, 2, 3, 5, 6, 7].foldl (fun s i =>
    let c := s.chan isA
    if qualNeed.getD i 1 ≤ c.qual.getD i 0 then s.safTrip isA i c.vS else s) s

/-- The doors become unlocked: the band and position of that moment are kept, once a source has given one; locking drops
them. -/
def State.safUnlock (s : State) (c : SafCh) : SafCh :=
  if s.doorsLocked c.flt then { c with unlocked := none }
  else if !c.a.seen && !c.b.seen then c
  else match c.unlocked with
    | some _ => c
    | none => { c with unlocked := some (s.bandAt c.pS, c.pS) }

/-- The first position of a channel stands for all that v_S and the INC comparison look back on (12 R302; log 60). -/
def SafCh.firstPos (c : SafCh) : SafCh := { c with p1 := c.pS, vS := 0, refInc := c.inc, refPos := c.pS, refAge := 0 }

/-- The channel after its samples, before the functions: counts, frames, p_S and v_S, standstill, extents. -/
def State.sampled (s : State) (c : SafCh) (si : Nat) (inc : Int) (latch : Option Int) (fa fb : Option SsiFrame) :
    SafCh :=
  let double := s.par Idx.HST_SSIMODE == 1
  let took := fa.isSome || fb.isSome
  let blind := !c.a.seen && !c.b.seen
  let c := { c with
    raw := si % 2 ^ 16
    agree := countAgree c.flt si 0 c.agree
    inc := inc
    incLatch := if took then latch else c.incLatch
    a := safTake double c (s.parBit Idx.SAF_PSDIR 0) (s.par Idx.SAF_PSAOFS) c.a fa
    b := safTake double c (s.parBit Idx.SAF_PSDIR 1) (s.par Idx.SAF_PSBOFS) c.b fb }
  let c := if took ∨ !c.formed then s.formPos c else { c with formed := false }
  let c := if blind && (c.a.seen || c.b.seen) then c.firstPos else c
  let c := s.safStill c
  let c := { c with hi := (s.safExtents c).1, lo := (s.safExtents c).2 }
  let conds := s.sf9Conds c
  let c := { c with
    sf9 := (conds.zip c.sf9).map fun x => countUp x.1 x.2
    sf9Clear := countUp (conds.all fun b => !b) c.sf9Clear
    sf8Base := match c.sf8Base with
      | some b => if s.par Idx.SAF_INSPLO ≤ c.pS ∧ c.pS ≤ s.par Idx.SAF_INSPHI then none else some b
      | none => none }
  s.safUnlock c

/-- SAMPLE_TASK (12 R300, R302, R303, R310–R313): channel `ch` samples its inputs `si`, reads its INC edge count and
the count latched at the SSI frame's start, takes the frames received since the previous task, updates what depends on
them and evaluates the functions. `sincos` is the sin/cos signal fault. -/
def execSampleTask (ch si : Nat) (inc : Int) (latch : Option Int) (fa fb : Option SsiFrame) (sincos : Bool)
    (s : State) : Out :=
  let isA := ch == 0
  occurs (isWick ch && s.saf.running) s <|
    let s := s.modChan isA fun c => s.sampled { c with incBad := sincos } si inc latch fa fb
    let s := s.modChan isA fun c => { c with qual := s.safQual c }
    s.safEvaluate isA

/-- SSI_FRAME_MISSING (12 R302): 550 µs, then each further 500 µs, have passed since the end of the source's last
frame; `src` is 0 for PSA, 1 for PSB. -/
def execSsiFrameMissing (ch src elapsedUs : Nat) (s : State) : Out :=
  let isA := ch == 0
  let c := s.chan isA
  let x := if src = 0 then c.a else c.b
  occurs (isWick ch && decide (src < 2) && s.saf.running && decide (550 + 500 * x.missing ≤ elapsedUs)) s
    (s.modChan isA fun c =>
      if src = 0 then { c with a := { c.a with valid := false, missing := c.a.missing + 1 } }
      else { c with b := { c.b with valid := false, missing := c.b.missing + 1 } })

/-- A mode change while SOC is closed opens SOA, SOB and SOC as a stop (12 R305); HST then refuses a start in progress
(09 R236), or has lost its run. -/
def State.safMode (s : State) (isA : Bool) : State :=
  let c := s.chan isA
  let m := s.modeOf c.flt
  if m = c.mode then s
  else
    let soc := s.soClosed 2
    let s := s.modChan isA fun c => { c with mode := m }
    if soc then
      let s := s.modChan isA fun c => { c with sw := setBit (setBit (setBit c.sw 0 false) 1 false) 2 false }
      let s := s.raise 0x0915 1 0xFF [(1, c.mode), (1, m)]
      if s.hst.runReq && !s.hst.released && s.hst.st != .reversalDwell then s
      else s.dropRun (if m = 0 then .idle else .inspection)
    else s

/-- The reset button as Wick A's filtered SI14 and SI15 show it (12 R321). -/
def State.pressed (s : State) : Bool := s.saf.chA.flt.testBit 14 && !s.saf.chA.flt.testBit 15
def State.unpressed (s : State) : Bool := !s.saf.chA.flt.testBit 14 && s.saf.chA.flt.testBit 15

/-- What a change of the reset pair starts: a press, the released state, or the two inputs equal (12 R321). -/
def State.resetPair (s : State) : State :=
  let now := s.pwr.opTime
  if s.par Idx.SAF_RSTUSE = 0 then s
  else if s.pressed then
    let blocked := s.saf.resetBlocked && !(match s.saf.releasedAt with
      | some t => decide (t + 1000 ≤ now)
      | none => false)
    { s with saf.equalAt := none, saf.releasedAt := none, saf.resetBlocked := blocked,
             saf.pressAt := if blocked then none else match s.saf.pressAt with | some t => some t | none => some now }
  else if s.unpressed then { s with saf.equalAt := none, saf.releasedAt := some now }
  else
    let blocked := s.saf.resetBlocked && !(match s.saf.releasedAt with
      | some t => decide (t + 1000 ≤ now)
      | none => false)
    { s with saf.equalAt := some now, saf.releasedAt := none, saf.resetBlocked := blocked }

/-- SAFETY_INPUT_CHANGE (12 R305, R321): input `n` of channel `ch` has shown SAF.SIFILTn agreeing samples (4 for the reset
pair) of the other state, and its filtered state changes. -/
def execSafetyInputChange (ch n : Nat) (s : State) : Out :=
  let isA := ch == 0
  let c := s.chan isA
  let need := if n < 14 then s.parN (Idx.SAF_SIFILTn n) else 4
  occurs (isWick ch && decide (n < 16) && s.saf.running && decide (need ≤ c.agree.getD n 0)) s <|
    let s := s.modChan isA fun c =>
      { c with flt := setBit c.flt n (!c.flt.testBit n), agree := c.agree.set n 0 }
    let s := s.modChan isA fun c => s.safUnlock c
    let s := s.safMode isA
    if isA && decide (14 ≤ n) then s.resetPair else s

/-! ## SF5 (12 Table SAF-6) -/

/-- BRAKEn_LIFTED (n = 0, 1) is used and active, or used and inactive. -/
def State.liftedOn (s : State) (c : SafCh) (n : Nat) : Bool := s.siActive c.flt (6 + n)
def State.liftUsed (s : State) (n : Nat) : Bool := s.soUsed n && s.siAssigned (6 + n)

/-- A brake and its output disagree beyond the time of Table SAF-6. -/
def State.brakeWrong (s : State) (c : SafCh) (n : Nat) : Bool :=
  s.liftUsed n &&
    (if s.soClosed n then !s.liftedOn c n && decide (s.parN Idx.SAF_BRKLIFT ≤ c.outMs.getD n 0)
     else s.liftedOn c n && decide (s.parN Idx.SAF_BRKDROP < c.outMs.getD n 0))

/-- A half of the brake torque test in which a brake alone holds the car. -/
def State.btHolding (s : State) : Bool := [3, 4, 7, 8].contains s.saf.btPhase

/-- A condition of Table SAF-6 holds for the channel. -/
def State.sf5Cond (s : State) (c : SafCh) : Bool :=
  s.brakeWrong c 0 || s.brakeWrong c 1 ||
    (!s.soClosed 0 && !s.soClosed 1 && c.slipOn && (s.soUsed 0 || s.soUsed 1) &&
      decide (s.parN Idx.SAF_BTMOVE < mag (c.pS - c.slipBase))) ||
    s.pwr.moveLatched || (s.btHolding && decide (s.parN Idx.SAF_BTMOVE < mag (c.pS - s.saf.btPos)))

/-- Every BRAKEn_LIFTED is consistent with its output at standstill (12 Table SAF-9). -/
def State.sf5Consistent (s : State) (c : SafCh) : Bool :=
  c.standing && [0, 1].all fun n => !s.liftUsed n || s.liftedOn c n == s.soClosed n

/-! ## Clear conditions (12 Table SAF-9) -/

/-- A cause, by its bit, has met its clear condition in a channel. -/
def State.causeClear (s : State) (c : SafCh) (bit : Nat) : Bool :=
  match bit with
  | 0 => s.chainClosed c.flt && c.standing
  | 1 => s.doorsLocked c.flt && c.standing
  | 2 => c.standing
  | 3 => c.standing
  | 4 => decide (1000 ≤ c.sf5Ok)
  | 5 => c.standing && s.saf.sodHst.isNone && s.saf.sodDr0.isNone && s.saf.sodDr1.isNone
  | 6 => c.standing && !s.sf7Cond c && !c.above.lost && !c.below.lost
  | 7 => c.standing
  | 8 => decide (4000 ≤ c.sf9Clear)
  | 9 => c.standing && s.hst.dlStat == 0
  | 10 => (List.range 4).all fun k => !s.soUsed k || decide (4 ≤ s.saf.passes.getD k 0)
  | _ => true

/-- Causes whose reset is automatic: SF1, SF8 and OUTPUT (12 Table SAF-5). -/
def autoCauses : List Nat := [0, 7, 10]

/-- Causes whose reset is manual. -/
def manualCauses : List Nat := [1, 2, 3, 4, 5, 6, 8, 9]

/-- Every manual cause a channel holds itself has met its clear condition. -/
def State.manualClear (s : State) (c : SafCh) : Bool :=
  manualCauses.all fun b => !c.own.testBit b || s.causeClear c b

/-- A manual cause is active. -/
def State.manualActive (s : State) : Bool :=
  manualCauses.any fun b => s.saf.chA.active.testBit b || s.saf.chB.active.testBit b

/-- SAF.STATUS [3]: a valid press would reset (12 R320). -/
def State.resetPending (s : State) : Bool :=
  s.manualActive && s.manualClear s.saf.chA && s.manualClear s.saf.chB

/-- A channel's own causes after the automatic ones that cleared, and after an armed reset, the manual ones; slip is counted from
a reset's standstill (log 60). -/
def State.endCauses (s : State) (c : SafCh) : SafCh :=
  let c := autoCauses.foldl (fun c b =>
    if c.own.testBit b && s.causeClear c b then
      { c with own := setBit c.own b false, sf8Base := if b = 7 ∧ c.mode = 1 then some c.pS else c.sf8Base }
    else c) c
  if c.resetArmed then
    let c := if c.own.testBit 4 then { c with slipBase := c.pS } else c
    { (manualCauses.foldl (fun c b => { c with own := setBit c.own b false }) c) with resetArmed := false }
  else c

/-! ## Grants (12 Table SAF-3) -/

/-- Every condition of Table SAF-3 but the requests for SOC: mode of the device, session, refusal, causes, chain, doors
and the contactor at the moment of closing. -/
def State.socAllowed (s : State) (c : SafCh) : Bool :=
  s.soUsed 2 && s.saf.session.isNone && !s.saf.ctRefused && c.active == 0 && !s.pwr.sag && !s.pwr.tempTrip &&
    s.chainClosed c.flt &&
    (s.doorsLocked c.flt || (s.soClosed 3 && (match s.saf.sodFor with | some (_, r) => r | none => false))) &&
    (c.sw.testBit 2 || s.siActive c.flt 8) && s.saf.stuckAt.isNone

/-- The grant of SOC. -/
def State.grantSoc (s : State) (c : SafCh) : Bool :=
  (if c.sw.testBit 2 then c.active == 0 && s.saf.session.isNone && !s.pwr.sag && !s.pwr.tempTrip else s.socAllowed c) &&
    (s.hst.runReq || decide (s.saf.btPhase ≠ 0 ∧ s.saf.btPhase < 10))

/-- The grant of SOA (n = 0) or SOB (n = 1). -/
def State.grantBrake (s : State) (c : SafCh) (n : Nat) : Bool :=
  s.soUsed n && s.saf.session.isNone && c.active == 0 && s.soClosed 2 && c.sw.testBit 2 &&
    (s.hst.liftReq || (if n = 0 then [6, 7, 8].contains s.saf.btPhase else [2, 3, 4].contains s.saf.btPhase)) &&
    (s.saf.runGranted || c.sw.testBit n || (!s.liftedOn c 0 && !s.liftedOn c 1))

/-- The request for SOD: landing and whether it is a relevel. -/
def State.sodRequest (s : State) : Option (Nat × Bool) :=
  match s.saf.sodHst, s.saf.sodDr0, s.saf.sodDr1 with
  | some k, _, _ => some (k, true)
  | none, some k, _ => some (k, false)
  | none, none, some k => some (k, false)
  | none, none, none => none

/-- The grant of SOD. -/
def State.grantSod (s : State) (c : SafCh) : Bool :=
  s.soUsed 3 && s.saf.session.isNone && c.active == 0 && !s.pwr.sag && !s.pwr.tempTrip && (match s.sodRequest with
    | none => false
    | some (k, relevel) =>
      if c.sw.testBit 3 then s.saf.sodFor == some (k, relevel) && (relevel || s.soClosed 2)
      else
        let lev := s.par (Idx.SAF_LEVk k)
        decide (k < s.parN Idx.SAF_NLAND) && decide (mag (c.pS - lev) ≤ s.parN Idx.SAF_DZHALF) &&
          decide (mag c.vS ≤ s.parN (if relevel then Idx.SAF_VRELEV else Idx.SAF_VADV)) &&
          (relevel || decide (mag (c.pS - lev) ≤ mag (c.p1 - lev))))

/-- The four grants as bits [3:0] SOA–SOD. -/
def State.grantsOf (s : State) (c : SafCh) : Nat :=
  b2n (s.grantBrake c 0) + 2 * b2n (s.grantBrake c 1) + 4 * b2n (s.grantSoc c) + 8 * b2n (s.grantSod c)

/-- The requests a channel sees, bits [3:0] SOA–SOD. -/
def State.requestsOf (s : State) : Nat :=
  b2n s.hst.liftReq + 2 * b2n s.hst.liftReq + 4 * b2n s.hst.runReq + 8 * b2n s.sodRequest.isSome

/-! ## The safety cycle -/

/-- The fields of two records agree (12 R301); the set CRCs cannot differ here, because both channels hold the one active
set of this model (log 20). -/
def recMatch (a b : SafRec) : Bool :=
  a.flt == b.flt && a.mode == b.mode && a.fa == b.fa && a.fb == b.fb && a.grants == b.grants &&
    decide (mag (a.inc - b.inc) ≤ 4)

/-- The SW parameters in rising index order (12 R326). -/
def swIndices : List Nat :=
  ((List.range 256).map fun k => 0x1400 + k).filter fun i => match paramInfo i with
    | some r => r.acc == .sw
    | none => false

/-- The set image: index and value of every SW parameter (12 R326). -/
def setImage (val : Nat → Int) : List Byte :=
  swIndices.flatMap fun i => match paramInfo i with
    | some r => toLe 2 i ++ toLe r.ty.bytes (codeOf (8 * r.ty.bytes) (val i))
    | none => []

/-- CRC of the active set, SAF.SETCRC (12 R326). -/
def State.setCrc (s : State) : Nat := crc32 (setImage s.par)

/-- The record a channel writes (12 Table SAF-1). -/
def State.recordOf (s : State) (c : SafCh) : SafRec :=
  { cycle := c.cycle, flt := c.flt, raw := c.raw, fa := c.a.raw, fb := c.b.raw, inc := c.incLatch.getD c.wrote.inc,
    pos := c.pS, speed := c.vS, active := c.active, grants := c.grants, requests := s.requestsOf, mode := c.mode,
    setCrc := s.setCrc, hi := c.hi, lo := c.lo, diag := 0, own := c.own }

/-- The channel reads the other's record: a new one that passed its CRC, or one missing (12 R301). -/
def readRecord (ok : Bool) (other : SafRec) (c : SafCh) : SafCh :=
  if ok ∧ other.cycle ≠ c.other.cycle then { c with other := other, fresh := true, recMiss := 0 }
  else { c with fresh := false, recMiss := c.recMiss + 1 }

/-- Static readback of output `k`: both switches open and SOxH high, or both closed and a node wrong (12 Table SAF-4);
`nodes` has SOxH in [3:0] and SOxL in [7:4]. -/
def State.staticDev (s : State) (nodes k : Nat) : Nat :=
  if s.soClosed k then (if !nodes.testBit k then 4 else if nodes.testBit (4 + k) then 5 else 0)
  else if !s.saf.chA.sw.testBit k && !s.saf.chB.sw.testBit k && nodes.testBit k then 1 else 0

/-- A deviation seen again counts up; another one starts anew; none clears. -/
def SafDev.see (d : SafDev) (code : Nat) : SafDev :=
  if code = 0 then {} else if code = d.code then { d with count := d.count + 1 } else ⟨code, 1⟩

/-- A qualified stuck-on switch: recorded, then LOCKOUT at once with the output off, or a landing stop first
(12 R309). `high` names the side. -/
def State.switchStuck (s : State) (ch k : Nat) (high : Bool) : State :=
  let bit := if high then k else 4 + k
  if s.parBit Idx.SAF_STUCK bit then s
  else
    let s := (s.setOwn Idx.SAF_STUCK (setBit (s.parN Idx.SAF_STUCK) bit true)).raise 0x091B 5 0xFF [(1, bit), (1, ch)]
    if s.soClosed k then { s with saf.stuckAt := some s.pwr.opTime, hst.stopReq := some 1 }
    else s.safLockout 9 ch

/-- What a qualified deviation does (12 R309). -/
def State.qualified (s : State) (ch k code : Nat) : State :=
  match code with
  | 0 => s
  | 1 => s.switchStuck ch k true
  | 2 => s.switchStuck ch k false
  | _ => if s.soUsed k then
      ({ s with saf.passes := s.saf.passes.set k 0 } : State).safTrip (ch == 0) 10 ((k : Int) * 256 + code) else s

/-- The static readback of one cycle (12 R308). -/
def State.statics (s : State) (ch nodes : Nat) : State :=
  let isA := ch == 0
  (List.range 4).foldl (fun s k =>
    let d := ((s.chan isA).statics.getD k {}).see (s.staticDev nodes k)
    let s := s.modChan isA fun c => { c with statics := c.statics.set k d }
    if 2 ≤ d.count then s.qualified ch k d.code else s) s

/-- The times since each output changed, the slip base, set by each standstill reached with SOA and SOB open, and SF5's counts
after one more millisecond (12 Table SAF-6). -/
def State.brakeTimes (s : State) (c : SafCh) : SafCh :=
  let out := b2n (s.soClosed 0) + 2 * b2n (s.soClosed 1) + 4 * b2n (s.soClosed 2) + 8 * b2n (s.soClosed 3)
  let ms := (List.range 4).map fun k => if out.testBit k == c.outSeen.testBit k then c.outMs.getD k 0 + 1 else 0
  let c := { c with outMs := ms, outSeen := out }
  let open_ := !s.soClosed 0 && !s.soClosed 1
  let c := if open_ && c.standing && !c.slipStill then { c with slipBase := c.pS, slipOn := true } else c
  let c := { c with slipStill := open_ && c.standing, slipOn := open_ && c.slipOn }
  { c with sf5 := countUp (s.sf5Cond c) c.sf5, sf5Ok := countUp (s.sf5Consistent c) c.sf5Ok }

/-- The contactor feedback over one millisecond, as Wick A counts it: wrong since SOC changed, or found inactive by a run request
with SOC open (12 R307). -/
def State.contactor (s : State) : State :=
  if !s.siAssigned 8 then s
  else
    let fb := s.siActive s.sistat 8
    let ms := s.saf.chA.outMs.getD 2 0
    let edge := if s.soClosed 2 then fb else !fb && s.saf.socUsed
    let wrong := decide (0 < ms) && ((edge && decide (ms ≤ s.saf.ctWrong + 1)) || (!s.soClosed 2 && s.hst.runReq && !fb))
    let right := !s.soClosed 2 && fb
    let n := countUp right s.saf.ctRight
    { s with saf.ctWrong := countUp wrong s.saf.ctWrong, saf.ctRight := n,
             saf.ctRefused := s.saf.ctRefused && decide (n < 1000), saf.socUsed := s.saf.socUsed || s.soClosed 2 }

/-- The parked conditions of the brake torque test (12 R316). -/
def State.btConditions (s : State) : Bool :=
  s.pwr.state == .run && s.hst.st == .idle && s.parkedLanding.isSome && s.doorsLocked s.sistat && !s.soClosed 3 &&
    s.saf.session.isNone && !s.pwr.entering

/-- Since when the parked conditions hold. -/
def State.parkedSince (s : State) : State :=
  if s.btConditions then
    match s.saf.parkedAt with
    | some _ => s
    | none => { s with saf.parkedAt := some s.pwr.opTime }
  else { s with saf.parkedAt := none }

/-- The conditions of a parameterisation session (12 R324). -/
def State.sessionAllowed (s : State) : Bool :=
  (s.pwr.state == .run || s.pwr.state == .tripped) &&
    (match s.hst.st with | .idle => true | .disabled => true | .learnFault => true | .fault => true | _ => false) &&
    s.standing && !s.soClosed 0 && !s.soClosed 1 && !s.soClosed 2 && !s.siActive s.sistat 6 && !s.siActive s.sistat 7

/-- The parameterisation session ends; the pending set is discarded (12 R324). -/
def State.endSafSession (s : State) : State :=
  { s with saf.session := none, saf.pendA := [], saf.pendB := [] }

/-- The session ends when the car leaves the condition of R324 (12 R324). -/
def State.watchSession (s : State) : State :=
  if s.saf.session.isSome ∧ !s.sessionAllowed ∧ s.pwr.state ≠ .lockout ∧ s.saf.confirm.isNone then s.endSafSession else s

/-- The device returns to RUN at the cycle in which the last cause ends (12 R320; 02 R34, R39). -/
def State.leaveTripped (s : State) : State :=
  if s.pwr.state = .tripped ∧ !s.tripped ∧ !s.pwr.sag ∧ !s.pwr.tempTrip then
    let s := (s.enter .run s.saf.endCause).dropCause 6
    { s with saf.endCause := 0 }
  else s

/-- SOC, SOA, SOB and SOD after the grants of one cycle: a switch closes only when the comparison succeeded and the
other channel's new record decides the same grant, and opens whenever the grant is gone (12 R300). -/
def closeSwitches (match_ : Bool) (g : Nat) (c : SafCh) : SafCh :=
  let sw := (List.range 4).foldl (fun sw k =>
    setBit sw k (g.testBit k && (c.sw.testBit k || (match_ && c.fresh && c.other.grants.testBit k)))) 0
  { c with grants := g, sw := sw }

/-- What the outputs' new positions mean for the rest: the landing SOD was granted for, the first grant of a run. -/
def State.afterGrants (s : State) : State :=
  { s with
    saf.sodFor := if s.saf.chA.sw.testBit 3 || s.saf.chB.sw.testBit 3 then
      (match s.saf.sodFor with | some x => some x | none => s.sodRequest) else none
    saf.runGranted := s.soClosed 2 && (s.saf.runGranted || s.soClosed 0 || s.soClosed 1) }

/-- The comparison, the causes and the adoption of one cycle (12 R301). -/
def State.compare (s : State) (isA recOk : Bool) : State :=
  let o := s.chan (!isA)
  let s := s.modChan isA fun c => readRecord recOk o.wrote { c with cycle := (c.cycle + 1) % 2 ^ 32 }
  let c := s.chan isA
  let bad := c.fresh && !recMatch (s.recordOf c) c.other
  let s := s.modChan isA fun c => { c with mismatch := if c.fresh then countUp bad c.mismatch else c.mismatch }
  let held := (s.chan isA).active
  let s := s.modChan isA fun c => s.endCauses c
  let s := s.modChan isA fun c => { c with active := c.own ||| c.other.own }
  let c := s.chan isA
  if c.active ≠ 0 ∧ c.active ||| held ≠ held then s.modChan isA fun c => { c with sw := 0, grants := 0 } else s

/-- SAFETY_CYCLE (12 R300, R301, R305–R309, R315, R317, R319–R321): channel `ch` runs its 1 ms cycle. `recOk`: a record
of the other channel arrived in this cycle and passed its CRC; `diag`: the item of Table SAF-8 a diagnostic of this cycle
found faulty, 0 none; `nodes`: the readback of SOxH in [3:0] and SOxL in [7:4]. -/
def execSafetyCycle (ch : Nat) (recOk : Bool) (diag nodes : Nat) (s : State) : Out :=
  let isA := ch == 0
  occurs (isWick ch && s.saf.running && decide (diag ≤ 12)) s <|
    let s := s.compare isA recOk
    let s := s.modChan isA fun c => s.brakeTimes c
    let c := s.chan isA
    if 0 < diag then s.safLockout diag ch
    else if 3 ≤ c.mismatch then s.safLockout (if c.flt ≠ c.other.flt then 8 else 1) ch
    else if 2 ≤ c.recMiss then s.safLockout 2 ch
    else
      let s := s.statics ch nodes
      if s.pwr.state = .lockout then s
      else
        let g := s.grantsOf (s.chan isA)
        let s := s.modChan isA fun c => closeSwitches (c.mismatch == 0) g c
        let s := s.afterGrants
        let s := s.modChan isA fun c => { c with wrote := s.recordOf c }
        let s := if isA then (s.contactor.parkedSince).watchSession else s
        s.leaveTripped

/-- SAF_TRIP_SF5 (12 R315): a condition of Table SAF-6 has held for 16 ms; movement in the brake torque test also names
the brake. -/
def execSafTripSf5 (ch : Nat) (s : State) : Out :=
  let isA := ch == 0
  let c := s.chan isA
  occurs (isWick ch && s.saf.running && decide (16 ≤ c.sf5)) s <|
    let failed := s.btHolding && decide (s.parN Idx.SAF_BTMOVE < mag (c.pS - s.saf.btPos))
    let brake : Int := if s.saf.btPhase ≤ 4 then 2 else 3
    let s := { (s.safTrip isA 4 (c.pS - c.slipBase)) with pwr.moveLatched := false }
    if failed then
      let s := (s.setOwn Idx.SAF_BTRESULT brake).setOwn Idx.SAF_BTTIME s.pwr.opTime
      { s with saf.btPhase := 0, saf.btFailed := true, saf.btLast := some s.pwr.opTime }
    else s

/-- SAF_TRIP_SF9 (12 R303): a condition of SF9 has held for 10 ms, 40 sample tasks. -/
def execSafTripSf9 (ch : Nat) (s : State) : Out :=
  let isA := ch == 0
  let c := s.chan isA
  occurs (isWick ch && s.saf.running && c.sf9.any fun n => decide (40 ≤ n)) s
    (s.safTrip isA 8 (c.a.pos - c.b.pos))

/-- SAF_TRIP_DL (09 R234, 12 R310): the channel counts its fifth consecutive missing inverter frame; HST records the
lost drive link. -/
def execSafTripDl (ch : Nat) (s : State) : Out :=
  let isA := ch == 0
  let c := s.chan isA
  occurs (isWick ch && s.saf.running && decide (5 ≤ c.dlMiss) && !c.own.testBit 9) s <|
    let s := s.safTrip isA 9 c.dlMiss
    if s.hst.dlStat = 3 then s
    else ({ (s.raise 0x050C 5) with hst.dlStat := 3, hst.dlGood := 0 } : State).addCause 4

/-- SAF_CONTACTOR (12 R307): the contactor feedback has been wrong for 100 ms. -/
def execSafContactor (s : State) : Out :=
  occurs (s.saf.running && decide (100 ≤ s.saf.ctWrong) && !s.saf.ctRefused) s <|
    let s := s.raise 0x0916 4
    { s with saf.ctRefused := true, saf.ctRight := 0 }

/-- The deviation a switch test shows: Wick A tests high sides, Wick B low sides of closed outputs (12 Table SAF-4). -/
def State.testDev (s : State) (isA : Bool) (k : Nat) (high low : Bool) (mA : Nat) : Nat :=
  if s.soClosed k then (if isA then (if high then 1 else 0) else (if low then 0 else 2))
  else if isA then
    if 20 ≤ mA then 2 else if !high then 4 else if !low ∧ mA < 1 then 3 else 0
  else 0

/-- SWITCH_TEST (12 R308, R309): channel `ch` tests its switch of output `k`; `high`, `low`: SOxH and SOxL read high at
the end of the pulse; `mA`: the high side's current. -/
def execSwitchTest (ch k : Nat) (high low : Bool) (mA : Nat) (s : State) : Out :=
  let isA := ch == 0
  occurs (isWick ch && s.saf.running && (s.chan isA).nextTest == k && decide (k < 4)) s <|
    let code := s.testDev isA k high low mA
    let d := ((s.chan isA).tests.getD k {}).see code
    let s := s.modChan isA fun c => { c with tests := c.tests.set k d, nextTest := (k + 1) % 4 }
    let n := s.saf.passes.getD k 0
    let s := { s with saf.passes := s.saf.passes.set k (if code = 0 ∧ s.standing then n + 1 else 0) }
    if 2 ≤ d.count then s.qualified ch k code else s

/-- STUCK_SWITCH_LOCKOUT (12 R309): with an output closed and a switch stuck on, the car has reached standstill or 30 s
have passed: every output opens and the device enters LOCKOUT. -/
def execStuckSwitchLockout (s : State) : Out :=
  occurs (s.saf.running && (match s.saf.stuckAt with
      | some t => s.standing || decide (t + 30000 ≤ s.pwr.opTime)
      | none => false)) s
    (({ s with saf.stuckAt := none } : State).safLockout 9 0xFF)

/-! ## Brake torque test (12 R316) -/

/-- The interval of the test has passed: never completed, failed before, or SAF.BTINT hours since the last one. -/
def State.btDue (s : State) : Bool :=
  s.par Idx.SAF_BTINT != 0 && (s.par Idx.SAF_BTRESULT == 0 || s.saf.btFailed || (match s.saf.btLast with
    | none => true
    | some t => decide (t + s.parN Idx.SAF_BTINT * 3600000 ≤ s.pwr.opTime)))

/-- The test ends without a result: every output opens, and it is tried again 1 h later (12 R316). -/
def State.btAbandon (s : State) : State :=
  if s.saf.btPhase = 0 then s
  else
    let s := ((s.openAll).raise 0x091A 3).setOwn Idx.SAF_BTRESULT 4
    { s with saf.btPhase := 0, saf.btRetry := s.pwr.opTime + 3600000, hst.enable := false }

/-- The phase of the test changes now. -/
def State.btTo (s : State) (p : Nat) : State := { s with saf.btPhase := p, saf.btAt := s.pwr.opTime }

/-- BRAKE_TEST_START (12 R316): the interval has passed and the parked conditions have held for 60 s; the channels
request SOC for themselves. -/
def execBrakeTestStart (s : State) : Out :=
  occurs (s.saf.running && s.saf.btPhase == 0 && s.btDue && decide (s.saf.btRetry ≤ s.pwr.opTime) && s.btConditions &&
      !s.tripped && (match s.saf.parkedAt with | some t => decide (t + 60000 ≤ s.pwr.opTime) | none => false)) s
    (s.btTo 1)

/-- The reported torque of the last good inverter frame, 0.01 % (09 Table HST-9). -/
def State.torque (s : State) : Int := getS s.hst.invFrame 8 2

/-- The reported torque has not reached 95 % of SAF.BTTORQ within 500 ms of its step (12 R316). -/
def State.btWeak (s : State) : Bool :=
  s.btHolding && decide (s.saf.btAt + 500 ≤ s.pwr.opTime) &&
    decide (mag s.torque * 100 < s.parN Idx.SAF_BTTORQ * 95)

/-- The test passes (12 R316). -/
def State.btPass (s : State) : State :=
  let s := ((s.setOwn Idx.SAF_BTRESULT 1).setOwn Idx.SAF_BTTIME s.pwr.opTime).raise 0x0919 1
  { s with saf.btPhase := 0, saf.btLast := some s.pwr.opTime, saf.btFailed := false, saf.parkedAt := none }

/-- The step of the phase the test is in, when its condition holds (12 Table SAF-8a). -/
def State.btStep (s : State) : State :=
  let lifted := fun n => s.liftedOn s.saf.chA n || !s.liftUsed n
  let dropped := fun n => !s.liftedOn s.saf.chA n
  let late := decide (s.saf.btAt + 2000 ≤ s.pwr.opTime)
  let magnetised := (getU s.hst.invFrame 2 1).testBit 1
  if s.btWeak then s.btAbandon
  else match s.saf.btPhase with
    | 1 => if s.soClosed 2 ∧ magnetised then s.btTo 2 else { s with hst.enable := s.soClosed 2 }
    | 2 => if lifted 1 then { (s.btTo 3) with saf.btPos := s.saf.chA.pS } else s
    | 3 => if late then s.btTo 4 else s
    | 4 => if late then s.btTo 5 else s
    | 5 => if dropped 1 then s.btTo 6 else s
    | 6 => if lifted 0 then { (s.btTo 7) with saf.btPos := s.saf.chA.pS } else s
    | 7 => if late then s.btTo 8 else s
    | 8 => if late then s.btTo 9 else s
    | 9 => if dropped 0 then { (s.btTo 10) with hst.enable := false } else s
    | 10 => if s.soClosed 2 then s else s.btPass
    | _ => s

/-- BRAKE_TEST_STEP (12 R316, Table SAF-8a): a phase of the test ends, or the test is abandoned because a starting
condition is lost, a command was taken, or the torque was not reached. -/
def execBrakeTestStep (s : State) : Out :=
  occurs (s.saf.running && s.saf.btPhase != 0) s
    (if s.btConditions ∧ s.hst.waiting.isEmpty ∧ !s.tripped then s.btStep else s.btAbandon)

/-! ## Reset (12 R321) -/

/-- RESET_RELEASE (12 R321): the reset button is released after a press. -/
def execResetRelease (s : State) : Out :=
  occurs (s.saf.running && s.par Idx.SAF_RSTUSE != 0 && s.saf.pressAt.isSome && s.unpressed) s <|
    let ms := s.pwr.opTime - s.saf.pressAt.getD 0
    let s := { s with saf.pressAt := none, saf.stuckTold := false }
    if ms < 100 ∨ 5000 < ms ∨ !s.manualActive then s
    else if s.resetPending then
      let s := (s.raise 0x0911 2).modBoth fun c => { c with resetArmed := true }
      { s with saf.endCause := 0x0911 }
    else s.raise 0x0913 2

/-- RESET_STUCK (12 R321): the button has been held for 5 s. -/
def execResetStuck (s : State) : Out :=
  occurs (s.saf.running && s.par Idx.SAF_RSTUSE != 0 && !s.saf.stuckTold && s.pressed && (match s.saf.pressAt with
      | some t => decide (t + 5000 ≤ s.pwr.opTime)
      | none => false)) s <|
    let s := s.raise 0x0912 3
    { s with saf.stuckTold := true }

/-- RESET_DISCREPANCY (12 R321): SI14 and SI15 have been equal for more than 50 ms. -/
def execResetDiscrepancy (s : State) : Out :=
  occurs (s.saf.running && s.par Idx.SAF_RSTUSE != 0 && (match s.saf.equalAt with
      | some t => decide (t + 50 < s.pwr.opTime)
      | none => false)) s <|
    let s := s.raise 0x0914 3
    { s with saf.resetBlocked := true, saf.equalAt := none, saf.pressAt := none, saf.stuckTold := false }

/-! ## Neighbours (12 R313) -/

/-- NEIGHBOUR_LOST_SAFETY (12 R313): no valid extent has arrived from the neighbour above (`up`) or below for SAF.NLLOSS:
the channel keeps the neighbour's last extent and takes its own, as last sent, as a limit. -/
def execNeighbourLostSafety (ch : Nat) (up : Bool) (s : State) : Out :=
  let isA := ch == 0
  let c := s.chan isA
  let nb := if up then c.above else c.below
  occurs (isWick ch && s.saf.running && s.parBit Idx.SAF_SHMODE (if up then 1 else 0) && !nb.lost &&
      (match nb.got with | some t => decide (t + s.parN Idx.SAF_NLLOSS ≤ s.pwr.opTime) | none => true)) s
    (s.modChan isA fun c =>
      if up then { c with above := { c.above with lost := true, limit := s.shf.up.safSent, good := 0 } }
      else { c with below := { c.below with lost := true, limit := s.shf.dn.safSent, good := 0 } })

end Sys2Proof.Machine
end

