-- ==== Sys2Proof/Machine/GroupBase.lean ====
section
/-!
DEFINITION. Commit groups as the blocks inside the device use them (07_commit_groups.md R141, R142, R156–R158): allocation,
the groups' settling, and the message that starts a cross-device group.
-/
namespace Sys2Proof.Machine

/-- A group. -/
def State.group (s : State) (g : Nat) : Group := s.grp.groups.getD g {}

/-- A group changed. -/
def State.modGroup (s : State) (g : Nat) (f : Group → Group) : State :=
  { s with grp.groups := modifyAt s.grp.groups g f }

/-- The first FREE group (07 R141), one with ABORTs still to repeat last. -/
def State.freeGroup (s : State) : Option Nat :=
  match (List.range 8).find? fun g => (s.group g).state == 0 && (s.group g).abortsLeft == 0 with
  | some g => some g
  | none => (List.range 8).find? fun g => (s.group g).state == 0

/-- The parameters an action writes: its own index, or those its mask selects (07 R146, Table GRP-4). -/
def Act.params (a : Act) : List Nat :=
  if a.kind = 1 then [getU a.body 0 2]
  else if a.kind = 7 then
    ((List.range 64).filter fun k => (getU a.body 4 8).testBit k).map fun k => 0x0C00 + 0x40 * getU a.body 0 1 + k
  else []

/-- The group holds the resources of its own actions: past its commit point, or prepared with its vote given (07 R152, R158). -/
def Group.holds (x : Group) : Bool := x.state == 4 || (x.state == 3 && x.held)

/-- The actions that this device carries out itself: a coordinator's of participant 0, all of a participant's. -/
def Group.own (x : Group) : List Act :=
  match x.owner with
  | .remote _ => x.acts
  | _ => x.acts.filter fun a => a.part == 0

/-- A parameter is held for a group until the group's action is applied (07 R152). -/
def State.groupHolds (s : State) (idx : Nat) : Bool :=
  s.grp.groups.any fun x => x.holds && x.own.any fun a => !a.applied && a.params.contains idx

/-- Groups held by host slots. -/
def State.hostGroups (s : State) : Nat :=
  (s.grp.groups.filter fun x => x.state != 0 && (match x.owner with | .host _ => true | _ => false)).length

/-- Staged actions in all groups (07 R141). -/
def State.actions (s : State) : Nat :=
  (s.grp.groups.map fun x => if x.state = 0 then 0 else x.acts.length).foldl (· + ·) 0

/-- Group `g` is allocated to an opener: its generation rises by one (07 R142); the writable parameters in force now
apply to it (R161). -/
def State.allocGroup (s : State) (g : Nat) (owner : GOwner) (cross : Bool) (parts : List Nat) : State :=
  s.modGroup g fun x =>
    { state := 1, gen := (x.gen + 1) % 65536, owner := owner, cross := cross, parts := parts, openedAt := s.pwr.opTime,
      openTmo := s.parN Idx.GRP_OPENTMO, maxAct := s.parN Idx.GRP_MAXACT, xhold := s.parN Idx.GRP_XHOLD,
      xrepeat := s.parN Idx.GRP_XREPEAT }

/-- A group returns to FREE; its generation stays (07 R143). -/
def State.freeUp (s : State) (g : Nat) : State := s.modGroup g fun x => { gen := x.gen }

/-- A group message of a cross-device group to one peer (07 Table GRP-8). -/
def State.groupMsg (s : State) (g type peer : Nat) : GMsg :=
  let x := s.group g
  { peer := peer, type := type, group := g, gen := x.gen, coord := s.parN Idx.RNG_ADDR, t0 := x.t0 }

/-- A message joins Q31. -/
def State.sendGroup (s : State) (m : GMsg) : State := { s with grp.out := s.grp.out ++ [m] }

/-- The records of one participant. -/
def actsFor (k : Nat) (acts : List Act) : List Act := acts.filter fun a => a.part == k

/-- PREPARE goes to every participant at T0 (07 R158 step 1). -/
def State.sendPrepare (s : State) (g : Nat) : State :=
  let s := s.modGroup g fun x => { x with state := 2, t0 := s.rng.time, lastSent := s.rng.time, order := s.grp.nextOrder }
  let s := { s with grp.nextOrder := s.grp.nextOrder + 1 }
  let x := s.group g
  ((List.range x.parts.length).zip x.parts).foldl (fun s p =>
    s.sendGroup { s.groupMsg g 1 p.2 with acts := actsFor (p.1 + 1) x.acts }) s

/-- A group opened from inside the device with its actions staged, and handed on: PREPARE goes out for a cross-device
group (07 R141, R146, R156). -/
def State.openInternal (s : State) (owner : GOwner) (parts : List Nat) (acts : List Act) (key : Nat) :
    Option (Nat × State) :=
  match s.freeGroup with
  | none => none
  | some g =>
    let s := s.allocGroup g owner (!parts.isEmpty) parts
    let s := s.modGroup g fun x => { x with acts := acts, key := key }
    if parts.isEmpty then
      let s := s.modGroup g fun x => { x with state := 2, order := s.grp.nextOrder }
      some (g, { s with grp.nextOrder := s.grp.nextOrder + 1 })
    else some (g, s.sendPrepare g)

end Sys2Proof.Machine
end

