-- ==== Sys2Proof/Machine/ShfCalc.lean ====
section
/-!
DEFINITION. What the shared-hoistway function computes at each replanning tick (16_shared_hoistway.md R411–R417,
R422, R424, R427): sides, extents, margins, travel bounds, the restriction, the zone request.
-/
namespace Sys2Proof.Machine

/-- A neighbour side: the car above for true, below for false. -/
def State.side (s : State) (up : Bool) : NlSide := if up then s.shf.up else s.shf.dn

/-- A side changed. -/
def State.modSide (s : State) (up : Bool) (f : NlSide → NlSide) : State :=
  if up then { s with shf.up := f s.shf.up } else { s with shf.dn := f s.shf.dn }

/-- Ring address of the neighbour on a side (16 R406). -/
def State.sideAddr (s : State) (up : Bool) : Nat := s.parN (if up then Idx.SHF_ADDRUP else Idx.SHF_ADDRDN)

/-- The side is active: SHF enabled and an address set (16 R406). -/
def State.sideOn (s : State) (up : Bool) : Bool := s.par Idx.SHF_ENABLE == 1 && s.sideAddr up != 0xFFFF

/-- The limits of HST's normal stop (09 R219). -/
def State.normalLim (s : State) : Lim := limOf (s.parN Idx.HST_VRATED) s.hst.limA s.hst.limJ

/-- The normal stopping point x_n, or the fused position at standstill (16 R411). -/
def State.xn (s : State) : Int := if s.refRest then s.carPos else stopPoint s.hst.ref s.normalLim

/-- The car's normal extents U_n and L_n (16 R411). -/
def State.normalExtents (s : State) : Int × Int :=
  (max s.carPos s.xn + s.par Idx.SAF_SILLTOP, min s.carPos s.xn - s.par Idx.SAF_SILLBOT)

/-- The separation invariant holds on a side (16 R415, R416). -/
def State.sideVerified (s : State) (up : Bool) : Bool :=
  let n := s.side up
  if up then decide (s.par Idx.SHF_GAP1 ≤ n.zlo - s.par Idx.SHF_ZHI)
  else decide (s.par Idx.SHF_GAP1 ≤ s.par Idx.SHF_ZLO - n.zhi)

/-- The restriction acts on a side: lost or unverified, or the configuration check failed (16 R422). -/
def State.sideRestricted (s : State) (up : Bool) : Bool :=
  s.par Idx.SHF_ENABLE == 1 && (s.shf.config || (s.sideOn up && !(s.side up).dormant &&
    (!(s.side up).good || !(s.side up).verified)))

/-- The restriction acts on the car. -/
def State.restricted (s : State) : Bool := s.sideRestricted true || s.sideRestricted false

/-- The distance of R313's emergency stop at SHF.VLOSS, µm (16 R422). -/
def State.lossDist (s : State) : Int :=
  let v := s.parN Idx.SHF_VLOSS
  rdiv (v * s.parN Idx.SAF_TBRAKE) 1000 + rdiv (v * v) (2 * s.par Idx.SAF_ABRAKE)

/-- The zone's edge as a sill position (16 R415). -/
def State.zoneSill (s : State) (up : Bool) : Int :=
  if up then s.par Idx.SHF_ZHI - s.par Idx.SAF_SILLTOP else s.par Idx.SHF_ZLO + s.par Idx.SAF_SILLBOT

/-- The sill bound of R422 toward a side: SHF.LOSSMARG inside the extent last sent by the safety channels. -/
def State.lossBound (s : State) (up : Bool) : Int :=
  let m := s.par Idx.SHF_LOSSMARG + s.lossDist
  if up then min (s.zoneSill true) ((s.side true).safSent - m - s.par Idx.SAF_SILLTOP)
  else max (s.zoneSill false) ((s.side false).safSent + m + s.par Idx.SAF_SILLBOT)

/-- The sill bound in force toward a side: the zone edge without a neighbour, R413 with a good one, R422 with a lost or
unverified one, R424 with a DORMANT one. -/
def State.sillBound (s : State) (up : Bool) : Int :=
  if !s.sideOn up then s.zoneSill up
  else if s.sideRestricted up || (s.side up).dormant then s.lossBound up
  else if up then
    min (s.par Idx.SHF_ZHI) ((s.side true).ln - s.par Idx.SHF_GAP1) - s.par Idx.SAF_SILLTOP
  else max (s.par Idx.SHF_ZLO) ((s.side false).un + s.par Idx.SHF_GAP1) + s.par Idx.SAF_SILLBOT

/-- The normal margin M toward a side (16 R414). -/
def State.margin (s : State) (up : Bool) : Int :=
  if up then (s.side true).ln - s.normalExtents.1 else s.normalExtents.2 - (s.side false).un

/-- Tier 2 holds toward a side: M below SHF.GAP2 over a good link (16 R414). -/
def State.tier2On (s : State) (up : Bool) : Bool :=
  s.sideOn up && (s.side up).good && decide (s.margin up < s.par Idx.SHF_GAP2)

/-- The position a target may be planned to, and whether it was moved to a bound (09 R217, 16 R413). -/
def State.boundTarget (s : State) (p : Int) : Int × Bool :=
  if s.par Idx.SHF_ENABLE ≠ 1 then (p, false)
  else if s.carPos < p then
    let b := if s.tier2On true then s.carPos else s.sillBound true
    if b < p then (b, true) else (p, false)
  else
    let b := if s.tier2On false then s.carPos else s.sillBound false
    if p < b then (b, true) else (p, false)

/-- The configuration check of R427: the safety set, the thresholds and the speed. -/
def State.shfConfigBad (s : State) : Bool :=
  s.par Idx.SHF_ENABLE == 1 &&
    !(s.parBit Idx.SAF_SHMODE 1 == (s.sideAddr true != 0xFFFF) && s.parBit Idx.SAF_SHMODE 0 == (s.sideAddr false != 0xFFFF) &&
      decide (s.par Idx.SHF_GAP2 < s.par Idx.SHF_GAP1) && decide (s.par Idx.SAF_GUARD < s.par Idx.SHF_GAP2) &&
      decide (s.par Idx.HST_VRATED ≤ 6000000) && decide (s.par Idx.SAF_VRATED ≤ 6000000))

/-- The configuration check runs: a failure is recorded and the restriction applies (16 R427). -/
def State.shfCheck (s : State) : State :=
  let bad := s.shfConfigBad
  let s := if bad ∧ !s.shf.config then s.raise 0x0F0B 3 else s
  { s with shf.config := bad }

/-- The body of a kind 0x11 action (16 Table SHF-3): operation, edge, new edge. -/
def zoneBody (op edge : Nat) (v : Int) : List Byte :=
  toLe 1 op ++ toLe 1 edge ++ [0, 0] ++ toLe 4 (codeOf 32 v) ++ List.replicate 8 0

/-- A target's body extent lies beyond the zone on a side; the new own edge it needs (16 R417). -/
def State.zoneNeed (s : State) (p : Int) : Option (Bool × Int) :=
  let hi := p + s.par Idx.SAF_SILLTOP
  let lo := p - s.par Idx.SAF_SILLBOT
  if s.par Idx.SHF_ZHI < hi then some (true, hi)
  else if lo < s.par Idx.SHF_ZLO then some (false, lo)
  else none

/-- ZONE_REQUEST: a cross-device group with the neighbour code as its only participant, with a YIELD at the neighbour and
a SET_OWN here (16 R417). -/
def State.zoneRequest (s : State) (t : Tgt) (up : Bool) (edge : Int) : State :=
  let gap := s.par Idx.SHF_GAP1
  let yield_ : Act := { part := 1, kind := 0x11, body := zoneBody 1 (if up then 0 else 1) (if up then edge + gap else edge - gap),
                        vers := [] }
  let own : Act := { part := 0, kind := 0x11, body := zoneBody 0 (if up then 1 else 0) edge,
                     vers := [s.parN Idx.SHF_ZVER] }
  match s.openInternal .shf [if up then 0xFC01 else 0xFC02] [yield_, own] 0 with
  | none => { s with shf.request := some ⟨up, t, edge, none, s.pwr.opTime, false⟩ }
  | some (g, s) => { s with shf.request := some ⟨up, t, edge, some g, s.pwr.opTime, false⟩ }

/-- A target taken by HST beyond the zone starts a request toward that neighbour, when SHF.AUTOZONE is set, the link good
and the side verified (16 R417). -/
def State.maybeZone (s : State) (t : Tgt) (p : Int) : State :=
  match s.zoneNeed p with
  | some (up, edge) =>
    if s.par Idx.SHF_ENABLE = 1 ∧ s.par Idx.SHF_AUTOZONE = 1 ∧ s.sideOn up ∧ (s.side up).good ∧ (s.side up).verified
    then s.zoneRequest t up edge else s
  | none => s

/-- A zone edge takes a new value: the zone version rises (16 R415, R416). -/
def State.setEdge (s : State) (upper : Bool) (v : Int) : State :=
  (s.setOwn (if upper then Idx.SHF_ZHI else Idx.SHF_ZLO) v).bumpWrap Idx.SHF_ZVER

/-- A zone action or write applies: SHF_ZONE_CHANGED (16 R418, R420). -/
def State.setZone (s : State) (upper : Bool) (v : Int) : State :=
  (s.setEdge upper v).raise 0x0F06 1 0xFF [(1, b2n upper), (4, v)]

end Sys2Proof.Machine
end

