-- ==== Sys2Proof/Machine/Hoist.lean ====
section
/-!
DEFINITION. The hoist axis (09_hoistway_position_and_profiles.md): position sources and fusion, targets, the replanning tick,
starts and stops on the drive link, the learning run, relevelling and load.
-/
namespace Sys2Proof.Machine

/-! ## Position (R200–R207) -/

/-- INC takes part in the fusion (R202). -/
def State.incUsable (s : State) : Bool := s.par Idx.HST_INCRES != 0 && !s.hst.incBad

/-- Two-point interpolation of a history, newest first, at time `t`: none when `t` lies after the newest step. -/
def interpolate (t : Nat) : List (Nat × Int) → Option Int
  | [] => none
  | [(_, p)] => some p
  | (t1, p1) :: (t0, p0) :: rest =>
    if t1 < t then none
    else if t0 ≤ t then
      some (if t1 = t0 then p1 else p0 + rdiv ((p1 - p0) * ((t - t0 : Nat) : Int)) ((t1 - t0 : Nat) : Int))
    else interpolate t ((t0, p0) :: rest)

/-- The fused position held for an instant, 1/256 µm; the newest step where the history does not reach it (R204). -/
def State.fusedAt (s : State) (t : Nat) : Int := (interpolate t s.hst.hist).getD s.hst.pf

/-- HST takes the car to be at standstill: the reference at rest, or its plan not yet released, and |v| at most 5 mm/s (R205,
R208; log 45). -/
def State.hstStill (s : State) : Bool :=
  s.hst.ref.v == 0 && s.hst.ref.a == 0 && (s.hst.plan.isEmpty || !s.hst.released) && decide (mag s.hst.vf ≤ 5000)

/-- SAF.STATUS (12 Table SAF-12). -/
def State.safStatus (s : State) : Nat :=
  let c := s.saf.chA
  let run := s.soClosed 2 || (s.socAllowed s.saf.chA && s.socAllowed s.saf.chB)
  b2n run + 2 * b2n (s.soClosed 3) + 4 * b2n s.tripped + 8 * b2n s.resetPending + 16 * b2n s.saf.session.isSome +
    32 * b2n (s.saf.btPhase != 0) + 64 * b2n (c.below.lost || c.above.lost) + 128 * b2n (s.pwr.state == .lockout)

/-- A frame of a source is valid for HST (R200, R201). -/
def State.ssiOk (s : State) (src : PosSrc) (pos : Int) (f : SsiFrame) : Bool :=
  !f.raw.testBit 31 && f.high && (s.par Idx.HST_SSIMODE == 0 || f.raw == f.copy) &&
    (!src.seen || decide (mag (pos - src.pos) ≤ mag s.hst.vf / 2000 + 5000))

/-- A source after its read of the period. -/
def State.ssiTake (s : State) (bit : Nat) (ofs : Int) (src : PosSrc) : Option SsiFrame → PosSrc
  | none => { src with valid := false, bad := src.bad + 1 }
  | some f =>
    let pos := framePos (s.parBit Idx.HST_PSDIR bit) ofs f.raw
    if s.ssiOk src pos f then { pos := pos, raw := f.raw % 2 ^ 30, valid := true, bad := 0, seen := true }
    else { src with valid := false, bad := src.bad + 1 }

/-- A position-source stop also ends a learning run, cause 6 (R213). -/
def State.sourceStop (s : State) (bit : Nat) : State :=
  let s := s.addCause bit
  if s.hst.learn.step ≠ 0 then s.learnFault 6 else s

/-- Two consecutive invalid frames of a source: POS_SOURCE_INVALID and a controlled stop (R201). -/
def State.checkSource (s : State) (inst : Nat) (src : PosSrc) : State :=
  if src.bad = 2 then (s.raise 0x0508 4 inst).sourceStop 0 else s

/-- The sources disagree by more than 5 mm: a controlled stop, and INC alone until standstill (R201). -/
def State.checkDiscrepancy (s : State) : State :=
  let bad := s.hst.psa.valid && s.hst.psb.valid && decide (5000 < mag (s.hst.psa.pos - s.hst.psb.pos))
  if bad then
    if s.hst.discrepant then s else ({ s with hst.discrepant := true } : State).sourceStop 1
  else if s.hst.discrepant ∧ s.hstStill then ({ s with hst.discrepant := false } : State).dropCause 1
  else s

/-- p_abs: the mean of the valid sources, or the one that is valid (R204). -/
def State.absPos (s : State) : Option Int :=
  match s.hst.psa.valid, s.hst.psb.valid with
  | true, true => some ((s.hst.psa.pos + s.hst.psb.pos) / 2)
  | true, false => some s.hst.psa.pos
  | false, true => some s.hst.psb.pos
  | false, false => none

/-- The residual's episode: FUSION_RESIDUAL at the eighth period beyond HST.FUSELIM, and the full step only at standstill
(R205); `r` in 1/256 µm, of which `step` is already in the offset. -/
def State.residual (s : State) (r step : Int) : State :=
  let s := s.setOwn Idx.HST_FUSERES (rdiv r 256)
  let n := if s.parN Idx.HST_FUSELIM * 256 < mag r then s.hst.resBad + 1 else 0
  let s := { s with hst.resBad := n, hst.resTold := s.hst.resTold && decide (n ≠ 0) }
  if 8 ≤ n then
    let s := if s.hst.resTold then s else { (s.raise 0x0509 3 0xFF [(4, rdiv r 256)]) with hst.resTold := true }
    if s.hstStill then { s with hst.offset := s.hst.offset + (r - step), hst.resBad := 0 } else s
  else s

/-- The fusion update with INC (R204). -/
def State.fuse (s : State) (p : Int) (ts : Nat) : State :=
  let r := p * 256 - s.fusedAt ts
  let step := rdiv (r * Config.firstOrder (s.parN Idx.HST_FUSEBW) 500000) (2 ^ 32)
  ({ s with hst.offset := s.hst.offset + step, hst.pabs := p, hst.pabsAt := ts } : State).residual r step

/-- Fusion on PSA and PSB alone (R202). -/
def State.fuseAbs (s : State) (p : Int) (ts : Nat) : State :=
  let raw := (p - s.hst.pabs) * 2000
  { s with hst.vf := s.hst.vf + rdiv ((raw - s.hst.vf) * Config.firstOrder 20000 500000) (2 ^ 32), hst.pabs := p,
           hst.pabsAt := ts }

/-- SSI_READ (R200, R201, R204): the reads of a period that latched at ring time `ts` complete; a source without a frame
is invalid. -/
def execSsiRead (fa fb : Option SsiFrame) (ts : Nat) (s : State) : Out :=
  occurs s.engines s <|
    let a := s.ssiTake 0 (s.par Idx.HST_PSAOFS) s.hst.psa fa
    let b := s.ssiTake 1 (s.par Idx.HST_PSBOFS) s.hst.psb fb
    let s := { s with hst.psa := a, hst.psb := b }
    let s := (s.checkSource 0 a).checkSource 1 b
    let s := if a.valid ∧ b.valid then s.dropCause 0 else s
    let s := s.checkDiscrepancy
    match s.absPos with
    | none => s
    | some p => if !s.incUsable then s.fuseAbs p ts else if s.hst.discrepant then s else s.fuse p ts

/-- The INC term of the fused position at a count, 1/256 µm (R202, R204). -/
def State.incTerm (s : State) (count : Int) : Int :=
  rdiv ((if s.parBit Idx.HST_PSDIR 2 then -1 else 1) * s.par Idx.HST_INCRES * count * 256) 1000000

/-- INC_READ (R202, R204, R212): every 125 µs the INC count is read at ring time `t`; `fault` is the sin/cos signal fault
of this step. -/
def execIncRead (count : Int) (t : Nat) (fault : Bool) (s : State) : Out :=
  occurs s.engines s <|
    let s := if s.hst.incBad ∧ !fault then ({ s with hst.incBad := false } : State).dropCause 2 else s
    let s :=
      if s.incUsable then
        let sg : Int := if s.parBit Idx.HST_PSDIR 2 then -1 else 1
        let p := s.incTerm count + s.hst.offset
        let v := rdiv (sg * s.par Idx.HST_INCRES * (count - s.hst.inc) * 8000) 1000000
        { s with hst.pf := p,
                 hst.vf := s.hst.vf + rdiv ((v - s.hst.vf) * Config.firstOrder 100000 125000) (2 ^ 32) }
      else
        { s with hst.pf := s.hst.pabs * 256 + rdiv (s.hst.vf * 256 * ((t - s.hst.pabsAt : Nat) : Int)) 1000000 }
    { s with hst.inc := count, hst.hist := ((t, s.hst.pf) :: s.hst.hist).take 512 }

/-- INC_SIGNAL (R202): a sin/cos signal fault leaves INC out and leads to a controlled stop. -/
def execIncSignal (s : State) : Out :=
  occurs (s.engines && !s.hst.incBad) s <|
    let s := ({ s with hst.incBad := true } : State).raise 0x0513 4
    s.sourceStop 2

/-! ## Load (R228) -/

/-- LOAD_SAMPLE (R228): the load voltages LW0 and LW1 in µV. -/
def execLoadSample (lw0 lw1 : Int) (s : State) : Out :=
  occurs s.engines s <|
    let sel := s.par Idx.HST_LWSEL
    let u := if sel = 0 then lw0 else if sel = 1 then lw1 else lw0 + lw1
    let out := fun (x : Int) => decide (10000000 < mag x)
    let bad := sel == 3 || (if sel = 0 then out lw0 else if sel = 1 then out lw1 else out lw0 || out lw1)
    if bad then { s with hst.loadOk := false }
    else
      let kg := rdiv (s.par Idx.HST_RATEDKG * (u - s.par Idx.HST_LWEMPTY))
        (s.par Idx.HST_LWFULL - s.par Idx.HST_LWEMPTY)
      { (s.setOwn Idx.HST_LOAD (clampInt 0 65535 kg)) with hst.loadOk := true }

/-- LOAD for a decision or a feed-forward: the measured value, or HST.BALKG while it is invalid (R227, R229). -/
def State.loadKg (s : State) : Int := if s.hst.loadOk then s.par Idx.HST_LOAD else s.par Idx.HST_BALKG

/-! ## Targets -/

/-- The rope-stretch correction of a landing (R227). -/
def State.stretch (s : State) (k : Nat) : Int :=
  if s.par Idx.HST_STRLEARN = 1 then
    signedOf 16 (s.floorN k 12 2) + rdiv (signedOf 16 (s.floorN k 14 2) * s.loadKg) 100
  else 0

/-- Where a target lies: floor level plus correction, or the position (R215, R227). -/
def State.targetPos (s : State) (t : Tgt) : Int := if t.landing = 0xFF then t.pos else s.level t.landing + s.stretch t.landing

/-- A state that accepts MOVE (Table HST-2); inspection moves in LEARN_FAULT and INSPECTION (R208, R213). -/
def State.acceptsMove (s : State) : Bool :=
  match s.hst.st with
  | .idle => true | .starting => true | .moving => true | .stopping => true | .reversalDwell => true
  | .relevelling => true
  | .inspection => true
  | .learnFault => s.mode == 1
  | _ => false

/-- The checks of R215 after the command source: none when the target passes. -/
def State.targetRefusal (s : State) (t : Tgt) : Option Status :=
  if s.pwr.state ≠ .run ∨ !s.acceptsMove then some .state
  else if (t.landing ≠ 0xFF ∧ s.nland ≤ t.landing) ∨ 8 ≤ t.flags ∨ s.parN Idx.HST_VRATED < t.limit then some .range
  else if t.landing ≠ 0xFF ∧ !s.present t.landing then some .state
  else if t.landing = 0xFF ∧ s.par Idx.HST_TERMLO ≠ s.par Idx.HST_TERMHI ∧
      (t.pos < s.par Idx.HST_TERMLO ∨ s.par Idx.HST_TERMHI < t.pos) then some .range
  else none

/-- The command source is host slot `h` (05 R106). -/
def State.hostSource (s : State) (h : Nat) : Bool := s.par Idx.HST_CMDSRC == (h : Int) + 1

/-- The MOVE payload (Table HST-6). -/
def moveTgt (p : List Byte) (src : TSrc) : Tgt :=
  { pos := getS p 4 4, landing := getU p 0 1, flags := getU p 1 1, limit := getU p 8 4, src := src }

/-- A target waits for the replanning tick; a MOVE or door command ends a brake torque test (12 R316). -/
def State.queueTgt (s : State) (t : Tgt) : State :=
  let s := if s.saf.btPhase ≠ 0 then s.btAbandon else s
  { s with hst.waiting := s.hst.waiting ++ [t] }

/-- MOVE (R215, R216): checked, then taken at the next replanning tick. -/
def execMove (tag : Nat) (s : State) : Out :=
  occurs (s.hostReady tag 0x10) s <| s.hostCmd tag 1 fun s f =>
    let t := moveTgt f.p (.host tag)
    if !s.hostSource f.slot then s.complete f .state
    else match s.targetRefusal t with
      | some st => s.complete f st
      | none => (s.setPhase tag .moveWait).queueTgt t

/-- A Geyser request's acknowledgement (08 R198). -/
def State.gysAck (s : State) (r seq : Nat) (st : Status) : State :=
  { s with gys.acks := s.gys.acks.set r { seq := seq, status := st.code } }

/-- The Geyser request record `r` waiting to be taken. -/
def State.gysReq (s : State) (r : Nat) : Option (List Byte) := s.gys.reqs.getD r none

/-- The request record `r` has been taken. -/
def State.tookReq (s : State) (r : Nat) : State := { s with gys.reqs := s.gys.reqs.set r none }

/-- MOVE_REQ (R215, 08 Table GYS-10): a Geyser move request with a new sequence number is handed to HST. -/
def execMoveReq (s : State) : Out :=
  occurs (s.engines && (s.gysReq 0).isSome) s <|
    let p := (s.gysReq 0).getD []
    let seq := getU p 0 2
    let s := s.tookReq 0
    let t : Tgt := { pos := getS p 4 4, landing := getU p 2 1, flags := getU p 3 1, src := .geyser seq }
    if s.par Idx.HST_CMDSRC ≠ 0 then s.gysAck 0 seq .state
    else match s.targetRefusal t with
      | some st => s.gysAck 0 seq st
      | none => s.queueTgt t

/-- STOP_MOTION (R218): taken at the next replanning tick; the command source under R106. Its reserved bits are ignored
(01 R8). -/
def State.stopMotion (s : State) (tag : Nat) (f : Flight) : State :=
  if !s.hostSource f.slot then s.complete f .state
  else s.setPhase tag .stopWait

/-- STOP_MOTION without AT_LANDING (R218). -/
def execStopMotion (tag : Nat) (s : State) : Out :=
  occurs (s.hostReady tag 0x11 && !(getU (s.flight tag).p 0 1).testBit 0) s <| s.hostCmd tag 1 fun s f => s.stopMotion tag f

/-- STOP_MOTION with AT_LANDING: a landing stop (R218, R219). -/
def execStopMotionAtLanding (tag : Nat) (s : State) : Out :=
  occurs (s.hostReady tag 0x11 && (getU (s.flight tag).p 0 1).testBit 0) s <| s.hostCmd tag 1 fun s f => s.stopMotion tag f

/-- A parameter that names a field channel configured as an input, mode 1 or 2 (13 R334). -/
def State.inputChannel (s : State) (idx : Nat) : Bool :=
  let n := s.parN idx
  decide (n < 48) && (let m := s.parN (Idx.FIO_CnCFG n) % 8; m == 1 || m == 2)

/-- LEARN_RUN (R210): its checks; then taken at the next replanning tick. -/
def execLearnRun (tag : Nat) (s : State) : Out :=
  occurs (s.hostReady tag 0x13) s <| s.hostCmd tag 2 fun s f =>
    if !s.hostSource f.slot then s.complete f .state
    else if !(s.pwr.state == .run && (s.hst.st == .idle || s.hst.st == .disabled) && s.mode == 0) then
      s.complete f .state
    else match [Idx.HST_DZFIO, Idx.HST_LIMLO, Idx.HST_LIMHI, Idx.HST_TSDLO, Idx.HST_TSDHI].find? fun i =>
        !s.inputChannel i with
      | some i => s.complete f .state i
      | none => s.setPhase tag .learnWait

/-! ## Limits and plans -/

/-- The speed limit of this tick (R214, Table HST-5; 16 R422). -/
def State.vLimit (s : State) : Nat :=
  let v := s.parN Idx.HST_VRATED
  let v := match s.hst.target with | some t => if t.limit = 0 then v else min v t.limit | none => v
  let v := if s.mode ≠ 0 then min v (s.parN Idx.HST_VINSP) else v
  let v := if s.hst.learn.step ≠ 0 then min v (s.parN Idx.HST_VLEARN) else v
  let v := if s.hst.st = .relevelling then min v (s.parN Idx.HST_VRELEV) else v
  if s.restricted then min v (s.parN Idx.SHF_VLOSS) else v

/-- The limits a plan uses. -/
def State.lim (s : State) : Lim := limOf s.hst.limV s.hst.limA s.hst.limJ

/-- The new acceleration and jerk limits could not complete the present deceleration without the reference passing
through zero speed (R222). -/
def State.mustHold (s : State) (j : Nat) : Bool :=
  let r := s.hst.ref
  let d := r.dirOf
  decide (d * r.na < 0) && decide (d * r.nv * (2 * j * 1000) < r.na * r.na)

/-- Step 1 of the tick: the limits changed since the last one (R222). -/
def State.applyLimits (s : State) : State :=
  let v := s.vLimit
  let a := s.parN Idx.HST_AMAX
  let j := s.parN Idx.HST_JMAX
  let rest := s.refRest
  let held := !rest && (s.hst.limHeld || ((decide (a < s.hst.limA) || decide (j < s.hst.limJ)) && s.mustHold j))
  let late := match s.hst.lateAt with
    | some t => some t
    | none => if (v < s.hst.limV ∧ v < mag s.hst.ref.ums) ∨ (held ∧ !s.hst.limHeld) then some s.pwr.opTime else none
  let s := { s with hst.limV := v, hst.limA := if held then s.hst.limA else a,
                    hst.limJ := if held then s.hst.limJ else j, hst.limHeld := held }
  match late with
  | none => s
  | some t =>
    if mag s.hst.ref.ums ≤ v ∧ !held then
      { (s.raise 0x0510 2 0xFF [(4, ((s.pwr.opTime - t : Nat) : Int))]) with hst.lateAt := none }
    else { s with hst.lateAt := some t }

/-- A plan replaces the present one: it ends at `goal`, or at the stopping point where that lies beyond it. -/
def State.setPlan (s : State) (goal : Int) (kind : Goal) : State :=
  let r := s.hst.ref
  let l := s.lim
  let (gs, vp) := planTo r goal l
  let d := r.dirOf
  let stop := stopPoint r l
  let fin := if d ≠ 0 ∧ d * (goal - stop) < -10 then stop else goal
  { (s.setOwn Idx.HST_PLANVPK vp) with hst.plan := gs, hst.planEnd := fin, hst.goal := kind }

/-- The plan of a stop at the normal stopping point (R219). -/
def State.setStop (s : State) (kind : Goal) : State :=
  { s with hst.plan := planStop s.hst.ref s.lim, hst.planEnd := stopPoint s.hst.ref s.lim, hst.goal := kind }

/-- The landing of a landing stop: the first whose floor level lies at or beyond the normal stopping point in the present
direction (R219). -/
def State.stopLanding (s : State) : Option Nat :=
  let p := stopPoint s.hst.ref s.lim
  if 0 < s.hst.ref.dirOf then s.landings.find? fun k => decide (p ≤ s.level k)
  else s.landings.reverse.find? fun k => decide (s.level k ≤ p)

/-- A landing stop, or the normal stopping point where no landing lies ahead (R219). -/
def State.landingStop (s : State) (kind : Goal) : State :=
  match s.stopLanding with
  | some k => s.setPlan (s.level k) kind
  | none => s.setStop kind

/-- A target at `p` is behind the moving reference: on the near side of the stopping point, by more than the planner's
rounding of 10 µm, or opposite (R223; log 8). -/
def State.isBehind (s : State) (p : Int) : Bool :=
  let d := s.hst.ref.dirOf
  d != 0 && decide (d * (p - stopPoint s.hst.ref s.lim) < -10)

/-- REVPOL 1 may be applied: inspection or rescue mode, or an empty car (R224). -/
def State.revAllowed (s : State) : Bool :=
  s.mode != 0 || (s.hst.loadOk && decide (s.par Idx.HST_LOAD ≤ s.par Idx.HST_EMPTYKG))

/-- The plan of a reversal, with its REVERSAL record (R223, R224). -/
def State.reverse (s : State) : State :=
  let want := s.par Idx.HST_REVPOL == 1
  let one := want && s.revAllowed
  let s := if want && !one then s.raise 0x0512 2 else s
  if one then
    let s := s.setStop .reversalZero
    s.raise 0x0503 1 0xFF [(1, 0xFF), (4, s.hst.planEnd)]
  else
    let k := s.stopLanding.getD 0xFF
    let s := s.landingStop (.reversalLanding k)
    s.raise 0x0503 1 0xFF [(1, k), (4, s.hst.planEnd)]

/-- Plans toward the present target: to it, to a bound, or over a reversal (R217, R221, R223). -/
def State.planTarget (s : State) : State :=
  match s.hst.target with
  | none => s
  | some t =>
    let p := s.targetPos t
    let (b, clipped) := s.boundTarget p
    if s.isBehind b ∧ !clipped then s.reverse
    else s.setPlan b (if clipped then .zone else .target)

/-- The plan code of Table HST-7. -/
def State.planCode (s : State) : Nat :=
  match s.hst.goal with
  | .reversalLanding _ => 1
  | .reversalZero => 2
  | .zone => 3
  | _ => 0

/-- The achieved target of the present plan, with the legs after a reversal: position, peak speed of the last leg in µm/s,
and planned time in µs with the dwell (Table HST-7; log 60). -/
def State.achieved (s : State) : Int × Nat × Nat :=
  let here := planUs s.hst.plan
  match s.hst.target with
  | none => (s.hst.planEnd, s.parN Idx.HST_PLANVPK, here)
  | some t =>
    let p := (s.boundTarget (s.targetPos t)).1
    match s.hst.goal with
    | .reversalLanding _ =>
      let (gs, vp) := planTo (RefSt.at_ s.hst.planEnd) p s.lim
      (p, vp, here + s.parN Idx.HST_BRKDWELL * 1000 + planUs gs)
    | .reversalZero =>
      let (gs, vp) := planTo (RefSt.at_ s.hst.planEnd) p s.lim
      (p, vp, here + planUs gs)
    | _ => (s.hst.planEnd, s.parN Idx.HST_PLANVPK, here)

/-- HST.PLANREM in ms: the motion time that remains of the present plan, with the dwell and the leg after it (Table HST-11). -/
def State.planRem (s : State) : Nat :=
  let us := s.achieved.2.2
  let dwell := s.parN Idx.HST_BRKDWELL
  if s.hst.target.isSome ∧ s.hst.st = .reversalDwell then
    let full := match s.hst.goal with | .reversalLanding _ => dwell | _ => 0
    (rdiv (us - full * 1000 + (s.hst.dwellAt + dwell - s.pwr.opTime) * 1000 : Nat) 1000).toNat
  else (rdiv us 1000).toNat

/-- The plan's parameters and the completion result of the MOVE (Table HST-7). -/
def State.report (s : State) (code : Nat) : State × List Byte :=
  let (p, vp, us) := s.achieved
  let land := match s.hst.target with | some t => t.landing | none => 0xFF
  let rl : Nat := match s.hst.goal with | .reversalLanding k => k | _ => 0xFF
  let rp : Int := match s.hst.goal with
    | .reversalLanding k => if k = 0xFF then s.hst.planEnd else 0
    | .reversalZero => s.hst.planEnd
    | _ => 0
  let s := ((s.setOwn Idx.HST_PLANTGT p).setOwn Idx.HST_PLANCODE code).setOwn Idx.HST_REVLAND rl
  (s, toLe 4 (codeOf 32 p) ++ toLe 1 land ++ toLe 1 code ++ toLe 1 rl ++ [0] ++ toLe 4 (codeOf 32 rp) ++ toLe 4 vp ++
    toLe 4 (rdiv us 1000).toNat)

/-- The answer to whoever set the target, at the tick that takes it (R216; 08 R198). -/
def State.answerTgt (s : State) (t : Tgt) (res : List Byte) : State :=
  match t.src with
  | .host tag => match s.flight? tag with
    | some f => s.complete f .accepted 0 res true
    | none => s
  | .geyser seq => s.gysAck 0 seq .accepted
  | .group => s
  | .own => s

/-- A target that a tick can no longer take. -/
def State.refuseTgt (s : State) (t : Tgt) (st : Status) : State :=
  match t.src with
  | .host tag => match s.flight? tag with
    | some f => s.complete f st
    | none => s
  | .geyser seq => s.gysAck 0 seq st
  | .group => s
  | .own => s

/-- The start sequence begins: HST requests run permission; a reported inverter fault is reset first (Table HST-10,
R493). -/
def State.beginStart (s : State) (st : HSt) : State :=
  let faulted := (getU s.hst.invFrame 2 1).testBit 3
  { s with hst.st := st, hst.runReq := true, hst.liftReq := false, hst.reqAt := s.pwr.opTime, hst.socAt := none,
           hst.released := false, hst.enable := false, hst.levelled := false, hst.ref := RefSt.at_ s.carPos,
           hst.plan := [], hst.planEnd := s.carPos,
           hst.fltReset := if faulted then 20 else s.hst.fltReset, hst.fltTried := faulted }

/-- MOVE_SUPERSEDED for a target not yet reached (R216). -/
def State.supersede (s : State) : State :=
  match s.hst.target with
  | some t => s.raise 0x0502 0 0xFF [(1, t.landing), (4, s.targetPos t)]
  | none => s

/-- The arrival flags are handed to the operators: each whose flag is set and whose side the landing enables takes an OPEN
once the car is parked there (11 R279). -/
def State.handFlags (s : State) (t : Tgt) : State :=
  if t.landing = 0xFF then s
  else
    let s := if t.flags.testBit 0 && s.floorFlag t.landing 1 then s.modDoor true fun d => { d with arrival := some t.landing } else s
    if t.flags.testBit 1 && s.floorFlag t.landing 2 then s.modDoor false fun d => { d with arrival := some t.landing } else s

/-- The tick takes a target: it replaces the present one, and its MOVE completes with the achieved plan (R216, R217). -/
def State.takeTarget (s : State) (t : Tgt) : State :=
  let fresh : Bool := match s.hst.st with
    | .idle => true
    | .inspection => !s.hst.runReq
    | .learnFault => !s.hst.runReq
    | _ => false
  let s : State := { s.supersede with hst.target := some t, hst.ver := (s.hst.ver + 1) % 2 ^ 32, hst.zoneTarget := none }
  let p := s.targetPos t
  let s := { s with hst.limV := s.vLimit }
  if fresh ∧ mag (s.carPos - p) ≤ s.parN Idx.HST_LEVTOL then
    let s := { s with hst.ref := RefSt.at_ s.carPos, hst.planEnd := p, hst.plan := [], hst.goal := .target }
    let (s, res) := (s.setOwn Idx.HST_PLANVPK 0).report 4
    (({ (s.answerTgt t res) with hst.target := none } : State).handFlags t)
  else if fresh && (s.boundTarget p).2 && decide (mag (s.carPos - (s.boundTarget p).1) ≤ 1) then
    let s := { s with hst.ref := RefSt.at_ s.carPos, hst.planEnd := s.carPos, hst.plan := [], hst.goal := .zone }
    let (s, res) := (s.setOwn Idx.HST_PLANVPK 0).report 3
    (({ (s.answerTgt t res) with hst.target := none, hst.zoneTarget := some t } : State).maybeZone t p)
  else
    let s := if fresh then s.beginStart (if s.hst.st = .idle then .starting else s.hst.st) else s
    let s := s.planTarget
    let s := if s.hst.goal = .zone then ({ s with hst.zoneTarget := some t } : State).maybeZone t p else s
    let (s, res) := s.report s.planCode
    s.answerTgt t res

/-- A state in which the tick takes targets now (Table HST-2). -/
def State.takesNow (s : State) : Bool :=
  match s.hst.st with
  | .idle => true | .starting => true | .moving => true | .reversalDwell => true | .inspection => true
  | .learnFault => s.mode == 1
  | _ => false

/-- Every waiting target in order; the last one stands (R221 step 2). -/
def State.takeTargets (s : State) : State :=
  if s.takesNow then
    s.hst.waiting.foldl (fun s t => match s.targetRefusal t with
      | some st => s.refuseTgt t st
      | none => s.takeTarget t) { s with hst.waiting := [] }
  else if s.acceptsMove then s
  else s.hst.waiting.foldl (fun s t => s.refuseTgt t .state) { s with hst.waiting := [] }

/-! ## Stops -/

/-- A start that has not released its profile is abandoned: START_REFUSED with SAF.STATUS and SAF.TRIPCAUSE, and the target is
dropped (R236). -/
def State.refuseStart (s : State) : State :=
  (s.raise 0x0515 4 0xFF [(1, s.safStatus), (2, s.saf.chA.active)]).dropRun (if s.tripped then .fault else .idle)

/-- A cause at standstill is a controlled stop of no length: FAULT while it remains (R219, Table HST-2; log 60). -/
def State.standCauses (s : State) : State :=
  let s := ((s.dropCause 3).dropCause 5).dropCause 8
  if s.hst.causes = 0 ∨ s.hst.st = .fault then s else (s.hstRelease .fault).wantSlots [12, 13, 14] false

/-- A cause of a controlled stop acts: a moving car stops at the normal stopping point; a start is abandoned (R219). -/
def State.actCauses (s : State) : State :=
  if s.hst.causes = 0 then s
  else if s.hst.released then
    if s.hst.st = .controlledStop ∨ s.hst.learn.step ≠ 0 ∨ s.hst.st = .stopping then s
    else if s.refRest then s
    else ({ s with hst.st := .controlledStop, hst.target := none, hst.zoneTarget := none } : State).setStop .stop
  else match s.hst.st with
    | .idle => s.standCauses
    | .inspection => if s.hst.runReq then s.refuseStart else s.standCauses
    | .reversalDwell => s.standCauses
    | .fault => s.standCauses
    | .controlledStop => s
    | _ => if s.hst.runReq then s.refuseStart else s

/-- STOP_MOTION taken at this tick: arrival flags cleared, those handed to an operator too; a learning run ends with cause 5
(R213, R218). -/
def State.actStop (s : State) (atLanding : Bool) : State :=
  if s.hst.learn.step ≠ 0 then
    if s.hst.released then (s.learnFault 5).setStop .stop else s.dropRun .idle
  else
    let s := { s with dr0.arrival := none, dr1.arrival := none, hst.zoneTarget := none,
                      hst.target := if s.hst.released ∧ s.refRest then s.hst.target.map fun t => { t with flags := 0 } else none }
    if s.hst.released && !s.refRest then (if atLanding then s.landingStop .landingStop else s.setStop .stop)
    else if s.hst.runReq && !s.hst.released && s.hst.st != .reversalDwell then s.dropRun .idle
    else s

/-- A STOP_MOTION at its turn: the targets handed over before it are taken first, and it waits behind a held one (05 R96;
log 60). -/
def State.stopTurn (s : State) (f : Flight) : State :=
  let before := (s.host.ops.takeWhile fun g => g.d.tag != f.d.tag).map fun g => g.d.tag
  let early := fun (t : Tgt) => match t.src with | .host tag => before.contains tag | _ => true
  let late := s.hst.waiting.filter fun t => !early t
  let s := ({ s with hst.waiting := s.hst.waiting.filter early } : State).takeTargets
  let s := if s.hst.waiting.isEmpty then (s.actStop ((getU f.p 0 1).testBit 0)).complete f .accepted 0 [] true else s
  { s with hst.waiting := s.hst.waiting ++ late }

/-- The targets and STOP_MOTION commands waiting for this tick, in the order they were handed over, and a stop asked for by
another block (R218, R221 step 2). -/
def State.takeMotion (s : State) : State :=
  let s := ((s.host.ops.filter fun f => f.phase == .stopWait).foldl State.stopTurn s).takeTargets
  match s.hst.stopReq with
  | some n => ({ s with hst.stopReq := none } : State).actStop (n == 1)
  | none => s

/-- The reference is at rest at the end of its plan: what follows by the plan's goal (R223, R225). -/
def State.atRest (s : State) : State :=
  match s.hst.goal with
  | .reversalZero => s.planTarget
  | .reversalLanding _ =>
    if s.hst.liftReq then { s with hst.liftReq := false }
    else if s.brakesApplied then
      { s with hst.st := .reversalDwell, hst.dwellAt := s.pwr.opTime, hst.released := false, hst.rampAt := none }
    else s
  | _ =>
    let st := match s.hst.st with | .moving => .stopping | .starting => .stopping | x => x
    let s := { s with hst.st := st, hst.liftReq := false }
    match s.hst.target with
    | some t => if s.hst.goal = .target ∧ s.hst.learn.step = 0 ∧ !s.hst.levelled then s.handFlags t else s
    | none => s

/-- The reversal dwell: 200 ms after the brakes were confirmed applied ENABLE is cleared and the run request withdrawn
(Table HST-10); with no target left the run is over. -/
def State.dwellTick (s : State) : State :=
  if s.hst.st ≠ .reversalDwell then s
  else if s.hst.runReq then
    if s.hst.dwellAt + 200 ≤ s.pwr.opTime then
      { (s.wantSlots [12, 13, 14] false) with hst.enable := false, hst.runReq := false }
    else s
  else if s.hst.target.isNone then s.hstRelease .idle
  else s

/-- The reference moves on by 500 µs along its plan (R221). -/
def State.advanceRef (s : State) : State :=
  if !s.hst.released || s.hst.plan.isEmpty then s
  else
    let (r, rest) := s.hst.ref.advance 500 s.hst.plan
    if rest.isEmpty then { s with hst.ref := RefSt.at_ s.hst.planEnd, hst.plan := [] }
    else { s with hst.ref := r, hst.plan := rest }

/-! ## Start and stop sequence (Table HST-10) -/

/-- The start sequence at a tick: SOC, ENABLE, then brake lift once the inverter is ready and magnetised (R236); no start while
the drive link is not good (R234). -/
def State.startSequence (s : State) : State :=
  if !s.hst.runReq || s.hst.released || s.hst.levelled || s.hst.st == .reversalDwell then s
  else if s.hst.socAt.isNone && !s.hst.enable && s.hst.dlStat != 0 then s.refuseStart
  else
    let st := getU s.hst.invFrame 2 1
    let s := if s.hst.socAt.isNone ∧ s.soClosed 2 then { s with hst.socAt := some s.pwr.opTime } else s
    let en := s.hst.socAt.isSome && s.soClosed 2 && decide (s.hst.fltReset = 0)
    let s := { s with hst.enable := en }
    if en ∧ st.testBit 0 ∧ st.testBit 1 ∧ !s.hst.liftReq then
      ({ s with hst.liftReq := true, hst.preLatch := s.carPos } : State).wantSlots [14] true
    else s

/-- The stop sequence has ended with SOC open: what HST does next (Table HST-10, R219, R236). -/
def State.afterStop (s : State) : State :=
  if !(s.hst.levelled && !s.soClosed 2) then s
  else
    let s := { s with hst.levelled := false, hst.released := false, hst.rampAt := none,
                      saf.sodHst := none }
    if s.hst.learn.step ≠ 0 then s
    else match s.hst.st with
      | .inspection => s
      | .learnFault => s
      | .learning => { s with hst.st := .learnFault }
      | .controlledStop =>
        let s := ((s.dropCause 3).dropCause 5).dropCause 8
        { s with hst.st := if s.hst.causes = 0 then .idle else .fault }
      | _ => { s with hst.st := .idle }

/-- The states that follow the mode, the floor table and a cleared cause (R208, R213). -/
def State.settle (s : State) : State :=
  if s.hst.runReq || !s.refRest then s
  else match s.hst.st with
    | .idle => if s.mode ≠ 0 then { s with hst.st := .inspection } else if s.hstDisabled then { s with hst.st := .disabled } else s
    | .disabled => if s.mode ≠ 0 then { s with hst.st := .inspection } else if s.hstDisabled then s else { s with hst.st := .idle }
    | .inspection => if s.mode = 0 then { s with hst.st := if s.hstDisabled then .disabled else .idle } else s
    | .fault =>
      if s.hst.causes = 0 ∧ s.hstStill ∧ !s.tripped then { s with hst.st := .idle } else s
    | .learning => if s.hst.learn.step = 0 ∧ !s.hst.levelled then { s with hst.st := .learnFault } else s
    | .learnFault =>
      let lim := fun i => s.parN i < 48 && (s.fio.ch.getD (s.parN i) {}).state
      if s.mode = 1 ∧ !lim Idx.HST_LIMLO ∧ !lim Idx.HST_LIMHI ∧ s.hstStill then
        { s with hst.st := if s.hstDisabled then .disabled else .idle }
      else s
    | _ => s

/-- A learning move to a far position in a direction, at HST.VLEARN (R210). -/
def State.learnMove (s : State) (up : Bool) : State :=
  let far : Int := if up then s.carPos + 500000000 else s.carPos - 500000000
  let s := { s with hst.target := some { pos := far } }
  let s := s.beginStart .learning
  ({ s with hst.limV := s.vLimit } : State).planTarget

/-- LEARN_RUN commands taken at this tick: LEARN_START, and step 1 begins downward (R210). -/
def State.takeLearn (s : State) : State :=
  match s.host.ops.find? fun f => f.phase == .learnWait with
  | none => s
  | some f =>
    if s.hst.st = .idle ∨ s.hst.st = .disabled then
      let s := (s.complete f .accepted 0 [] true).raise 0x0504 1
      ({ s with hst.learn := { step := 1 } } : State).learnMove false
    else s.complete f .state

/-- The brake-hold dwell of step 2 ends: step 3 begins upward (Table HST-4). -/
def State.learnDwell (s : State) : State :=
  if s.hst.learn.step = 2 ∧ !s.hst.levelled ∧ !s.hst.runReq ∧
      s.hst.learn.dwellAt + s.parN Idx.HST_BRKDWELL ≤ s.pwr.opTime then
    ({ s with hst.learn := { s.hst.learn with step := 3, inc0 := s.hst.inc, pa0 := s.hst.psa.pos } } :
      State).learnMove true
  else s

/-- Step 3 sums p_A − p_B over its periods (R211). -/
def State.learnSum (s : State) : State :=
  if s.hst.learn.step = 3 ∧ s.hst.psa.valid ∧ s.hst.psb.valid ∧ s.hst.released then
    { s with hst.learn := { s.hst.learn with diffSum := s.hst.learn.diffSum + (s.hst.psa.pos - s.hst.psb.pos),
                                             diffN := s.hst.learn.diffN + 1 } }
  else s

/-- A relevel whose SOD is confirmed closed starts toward the floor level; a refused one ends (R226). -/
def State.relevelTick (s : State) : State :=
  if s.hst.st ≠ .relevelling ∨ s.hst.runReq ∨ s.hst.levelled then s
  else match s.saf.sodHst with
    | none => { s with hst.st := .idle }
    | some k =>
      if s.soClosed 3 then
        let s := ({ s with hst.target := some { pos := s.level k, src := .own } } : State).beginStart .relevelling
        let s := { s with hst.limV := s.vLimit }
        s.setPlan (s.level k) .target
      else if s.hst.reqAt + s.parN Idx.HST_STARTTMO ≤ s.pwr.opTime then
        { s with hst.st := .idle, saf.sodHst := none }
      else s

/-- The tracking error of a released run (R206). -/
def State.checkTracking (s : State) : State :=
  let e := s.hst.ref.um - s.carPos
  if s.hst.released ∧ s.parN Idx.HST_TRKLIM < mag e ∧ !s.hst.causes.testBit 3 then
    (s.raise 0x050A 4 0xFF [(4, e)]).addCause 3
  else s

/-- Tier 2 toward a side in motion: SHF_TIER2, a controlled stop and STOPPING (16 R414). -/
def State.checkTier2 (s : State) : State :=
  let on := s.tier2On true || s.tier2On false
  if on ∧ !s.shf.tier2 ∧ s.hst.released ∧ !s.refRest then
    let s := (s.raise 0x0F05 4).bump Idx.SHF_TIER2CNT
    ({ s with shf.tier2 := true } : State).addCause 5
  else if !on ∧ s.shf.tier2 then { s with shf.tier2 := false }
  else s

/-- A bound becomes the limit of the plan: SHF_TIER1 once each time (16 R413); the bounds in force are kept. -/
def State.boundsTick (s : State) : State :=
  if s.par Idx.SHF_ENABLE ≠ 1 then s
  else [true, false].foldl (fun s up =>
    let b := s.sillBound up
    let on := decide (s.hst.goal = .zone) && !s.refRest && decide (s.hst.planEnd = b)
    let s := if on ∧ !(s.side up).tier1 then s.raiseCounted 0x0F04 0 else s
    s.modSide up fun n => { n with bound := b, tier1 := on }) s

/-- A committed zone request extends the plan to the original target while that MOVE still holds (16 R419). -/
def State.extendZone (s : State) : State :=
  match s.shf.request with
  | some q =>
    if q.done then
      let s := { s with shf.request := none }
      if s.hst.zoneTarget = some q.target then
        let s := s.raise 0x0F08 1
        if s.hst.target.isSome ∧ s.hst.st ≠ .stopping then ({ s with hst.zoneTarget := none } : State).planTarget
        else if s.hst.st = .idle then ({ s with hst.zoneTarget := none } : State).takeTarget { q.target with src := .own }
        else s
      else s
    else s
  | none => s

/-- Replanning when the limits, a bound or a learning centre have changed the plan's premises (R221). -/
def State.replan (s : State) (v a j : Nat) : State :=
  if !s.hst.released || s.refRest then s
  else
    let moved : Bool := match s.hst.target, s.hst.goal with
      | some t, .target => decide (s.hst.planEnd ≠ (s.boundTarget (s.targetPos t)).1) && s.par Idx.SHF_ENABLE == 1
      | some t, .zone => decide (s.hst.planEnd ≠ (s.boundTarget (s.targetPos t)).1)
      | _, _ => false
    if moved ∨ v ≠ s.hst.limV ∨ a ≠ s.hst.limA ∨ j ≠ s.hst.limJ then
      match s.hst.goal with
      | .target => s.planTarget
      | .zone => s.planTarget
      | .reversalLanding k => if k = 0xFF then s.setStop .stop else s.setPlan (s.level k) (.reversalLanding k)
      | .landingStop => s.landingStop .landingStop
      | g => s.setStop g
    else s

/-- Direction of group G2: the sign of the present leg, 0 with no plan (10 Table CLE-6). -/
def State.g2dir (s : State) : Int :=
  if s.hst.plan.isEmpty then 0
  else if s.hst.ref.dirOf ≠ 0 then s.hst.ref.dirOf else sgn (s.hst.planEnd - s.hst.ref.um)

/-- The input registers of slots 12–14 for the next period (10 R240, R242, Table CLE-1). -/
def State.hstInputs (s : State) : State :=
  let d := s.g2dir
  let lt := s.level (if d < 0 then 0 else s.nland - 1)
  let margin := rdiv (s.par (Idx.CLE_SnSETPT 13) * s.par (Idx.CLE_SnFSIN 13)) (2 ^ 31)
  let s := s.modSlotC 12 fun c => { c with wIn := s.hst.ref.um, yIn := s.carPos, fIn := s.hst.ref.ums }
  let s := s.modSlotC 13 fun c => { c with wIn := d * (lt - s.carPos) + margin, yIn := 0, fIn := 0 }
  s.modSlotC 14 fun c => { c with wIn := s.hst.preLatch, yIn := s.carPos, fIn := 0 }

/-- REPLANNING_TICK (R221 and the rules it names): every 500 µs HST applies limit changes and new targets, checks
reversal, plans, and advances its reference. -/
def execReplanningTick (s : State) : Out :=
  occurs s.engines s <|
    let s := { s with
      hst.invFrame := if s.hst.invNew.isEmpty then s.hst.invFrame else s.hst.invNew
      hst.invGood := !s.hst.invNew.isEmpty
      hst.invNew := []
      hst.dlReplied := false }
    let v := s.hst.limV
    let a := s.hst.limA
    let j := s.hst.limJ
    let s := s.applyLimits
    let s := (s.takeMotion).takeLearn
    let s := ((s.checkTracking).checkTier2).actCauses
    let s := (s.extendZone).replan v a j
    let s := s.advanceRef
    let s := if s.hst.released && s.refRest && !s.hst.levelled then s.atRest else s
    let s := (((s.dwellTick).startSequence).relevelTick).afterStop
    let s := (s.learnDwell).learnSum
    let s := (s.settle).boundsTick
    let e := s.normalExtents
    ({ s with shf.un := e.1, shf.ln := e.2 } : State).hstInputs

/-! ## Events of the start and stop sequence -/

/-- PROFILE_RELEASE (R492, Table HST-10): the brakes report lifted; the profile is released, slots 12 and 13 close the
loop and slot 14 ends. -/
def execProfileRelease (s : State) : Out :=
  occurs (s.engines && s.hst.runReq && s.hst.liftReq && !s.hst.released && s.soClosed 2 && s.brakesLifted) s <|
    let s := (s.wantSlots [12, 13] true).wantSlots [14] false
    let s := s.bump Idx.HST_RUNS
    { s with
      hst.released := true
      hst.rampAt := some s.pwr.opTime
      hst.preOut := rdiv ((s.cslot 14).out * s.par (Idx.CLE_SnFSOUT 14)) (2 ^ 31)
      hst.st := match s.hst.st with | .starting => .moving | x => x }

/-- PRETORQUE_RAMP_END (R229): 200 ms after the release nothing of slot 14 is added any more. -/
def execPretorqueRampEnd (s : State) : Out :=
  occurs (match s.hst.rampAt with | some t => decide (t + 200 ≤ s.pwr.opTime) | none => false) s
    { s with hst.rampAt := none, hst.preOut := 0 }

/-- START_TIMEOUT (R236): READY and MAGNETISED are not both reported within HST.STARTTMO of SOC closing. -/
def execStartTimeout (s : State) : Out :=
  let st := getU s.hst.invFrame 2 1
  occurs (s.engines && s.hst.runReq && !s.hst.released && s.hst.st != .reversalDwell && !(st.testBit 0 && st.testBit 1) &&
      (match s.hst.socAt with
      | some t => decide (t + s.parN Idx.HST_STARTTMO ≤ s.pwr.opTime)
      | none => false)) s
    ((s.raise 0x0514 4).dropRun .idle)

/-- START_REFUSED (R236): SOC has not closed within HST.STARTTMO of the run request, or has opened again before the
release. -/
def execStartRefused (s : State) : Out :=
  occurs (s.engines && s.hst.runReq && !s.hst.released && s.hst.st != .reversalDwell && (match s.hst.socAt with
      | some _ => !s.soClosed 2
      | none => decide (s.hst.reqAt + s.parN Idx.HST_STARTTMO ≤ s.pwr.opTime))) s
    s.refuseStart

/-- Two's-complement field of `n` bytes inside a table body. -/
def le (n : Nat) (v : Int) : List Byte := toLe n (codeOf (8 * n) v)

/-- Bytes of a table's active body replaced by the device. -/
def State.tblWrite (s : State) (tid off : Nat) (bs : List Byte) : State :=
  s.modTbl tid fun t => { t with body := memWriteN (tableByte tid) t.body off bs }

/-- A device change of a table, origin 2: the version rises, and the change is durable (06 R130; log 12). -/
def State.tblChanged (s : State) (tid : Nat) : State :=
  s.modTbl tid fun t =>
    { t with ver := (t.ver + 1) % 2 ^ 32, opTime := s.pwr.opTime, cyc := s.pwr.pwrCyc, origin := 2, durable := t.body,
             durVer := (t.ver + 1) % 2 ^ 32, durOrigin := 2 }

/-- The rope-stretch update of a stop at landing `k` with level error `e` (R227). -/
def State.learnStretch (s : State) (k : Nat) (e : Int) : State :=
  if s.par Idx.HST_STRLEARN ≠ 1 ∨ !s.hst.loadOk ∨ 20000 < mag e then s
  else
    let g := s.par Idx.HST_STRGAIN
    let kg := s.par Idx.HST_RATEDKG
    let a := clampInt (-20000) 20000 (signedOf 16 (s.floorN k 12 2) - rdiv (g * e) 1000)
    let bl := 2000000 / kg
    let b := clampInt (-bl) bl (signedOf 16 (s.floorN k 14 2) - rdiv (g * e * s.par Idx.HST_LOAD * 100) (1000 * kg * kg))
    let n := min 65535 (s.floorN k 18 2 + 1)
    ((s.tblWrite 0x0100 (32 * k + 12) (le 2 a ++ le 2 b)).tblWrite 0x0100 (32 * k + 18) (toLe 2 n ++ toLe 6 s.pwr.opTime)).tblChanged
      0x0100

/-- MOVE_DONE with the level error, LEVEL_OUT beyond the tolerance, and the rope-stretch update (R216, R225, R227). -/
def State.arrived (s : State) (t : Tgt) : State :=
  let e := s.carPos - (if t.landing = 0xFF then t.pos else s.level t.landing)
  let s := (s.setOwn Idx.HST_LEVERR e).raise 0x0501 1 0xFF [(4, e), (1, t.landing)]
  let s := if s.parN Idx.HST_LEVTOL < mag e then s.raise 0x050F 3 0xFF [(4, e)] else s
  if t.landing = 0xFF then s else s.learnStretch t.landing e

/-- The end of the learning run's own stops: step 1 passes to the dwell, step 3 to its results (Table HST-4). -/
def State.learnStopped (s : State) : State :=
  match s.hst.learn.step with
  | 1 => { s with hst.learn := { s.hst.learn with step := 2, dwellAt := s.pwr.opTime } }
  | 3 => { s with hst.learn := { s.hst.learn with step := 4 } }
  | _ => s

/-- LEVEL_ERROR_TAKEN (R225, Table HST-10): `heldMs` after the brakes were confirmed applied the level error is taken,
ENABLE is cleared and the run request withdrawn. -/
def execLevelErrorTaken (heldMs : Nat) (s : State) : Out :=
  occurs (s.engines && s.hst.released && s.refRest && !s.hst.liftReq && !s.hst.levelled && s.brakesApplied &&
      (match s.hst.goal with | .reversalLanding _ => false | _ => true) && decide (200 ≤ heldMs)) s <|
    let s := match s.hst.target with
      | some t => if s.hst.learn.step = 0 ∧ s.hst.st != HSt.relevelling ∧ s.hst.goal == Goal.target then s.arrived t else s
      | none => s
    let s := s.learnStopped
    let s := (s.wantSlots [12, 13, 14] false)
    { s with hst.enable := false, hst.runReq := false, hst.levelled := true, hst.target := none, hst.retained := s.carPos }

/-- Both operators are closed and the doors locked. -/
def State.doorsShut (s : State) : Bool :=
  s.doorsLocked s.sistat && [s.dr0, s.dr1].all fun d => d.st == .closed || d.st == .disabled

/-- REVERSAL_DWELL_END (R223): HST.BRKDWELL has passed at a reversal landing, the doors closed and locked, and the car
starts again toward the target. -/
def execReversalDwellEnd (s : State) : Out :=
  occurs (s.engines && s.hst.st == .reversalDwell && !s.hst.runReq &&
      decide (s.hst.dwellAt + s.parN Idx.HST_BRKDWELL ≤ s.pwr.opTime) && s.doorsShut && s.hst.target.isSome) s <|
    let s := s.beginStart .starting
    let s := { s with hst.limV := s.vLimit }
    s.planTarget

/-- A door is open at the car's landing. -/
def State.doorOpen (s : State) : Bool := [s.dr0, s.dr1].any fun d => d.st != .closed && d.st != .disabled

/-- RELEVEL (R226): the car has stood beyond HST.RELEVTOL for `heldMs` with a door open: SOD is requested. -/
def execRelevel (heldMs : Nat) (s : State) : Out :=
  let k := s.parkedLanding.getD 0
  occurs (s.pwr.state == .run && s.hst.st == .idle && s.parkedLanding.isSome && s.doorOpen && decide (100 ≤ heldMs) &&
      decide (s.parN Idx.HST_RELEVTOL < mag (s.carPos - s.level k))) s <|
    let s := s.raise 0x050E 1 k [(4, s.carPos - s.level k)]
    { s with hst.st := .relevelling, saf.sodHst := some k, hst.reqAt := s.pwr.opTime,
             hst.runReq := false, hst.levelled := false }

/-! ## The learning run -/

/-- A door-zone edge at position `p` while the run learns: latched, or ignored within the blackout and counted; more than 8
edges within one blackout distance are chatter (R212). -/
def State.learnDz (s : State) (p : Int) : State :=
  let l := s.hst.learn
  let black := s.parN Idx.HST_BLACKOUT
  let fresh := l.edges.isEmpty || decide (black < mag (p - l.lastSeen)) || l.armed
  if fresh then
    { s with hst.learn := { l with edges := l.edges ++ [(p, 1)], lastSeen := p, count := 1, armed := false } }
  else
    let n := l.count + 1
    let es := match l.edges.getLast? with
      | some (q, _) => l.edges.dropLast ++ [(q, n)]
      | none => l.edges
    let s := { s with hst.learn := { l with edges := es, lastSeen := p, count := n } }
    if n = 9 then s.raise 0x0507 3 ((l.edges.length - 1) / 2) else s

/-- The car stops centred in the flag whose two edges were latched last (Table HST-4). -/
def State.learnCentre (s : State) : State :=
  match s.hst.learn.edges.reverse with
  | (p, _) :: (q, _) :: _ =>
    let s := { s with hst.target := some { pos := (p + q) / 2 } }
    if s.isBehind ((p + q) / 2) then s.setStop .reversalZero else s.setPlan ((p + q) / 2) .target
  | _ => s

/-- What an edge of a channel does in the learning run: limit, slowdown and door-zone inputs (R210–R213). -/
def State.learnEdge (s : State) (n : Nat) (e : FEdge) : State :=
  let l := s.hst.learn
  let p := rdiv (s.fusedAt e.at_) 256
  if l.step = 0 then s
  else if n = s.parN Idx.HST_LIMLO ∧ e.rising then (s.learnFault 1).setStop .stop
  else if n = s.parN Idx.HST_LIMHI ∧ e.rising then (s.learnFault 2).setStop .stop
  else if n = s.parN Idx.HST_TSDLO ∧ e.rising ∧ l.step = 1 ∧ l.tsdLo.isNone then
    { s with hst.learn := { l with tsdLo := some p, edges := [], armed := true } }
  else if n = s.parN Idx.HST_TSDHI ∧ e.rising ∧ l.step = 3 ∧ l.tsdHi.isNone then
    let s := { s with hst.learn := { l with tsdHi := some p } }
    if 2 * s.nland ≤ l.edges.length then s.learnCentre else s
  else if n = s.parN Idx.HST_DZFIO then
    if l.step = 1 ∧ l.tsdLo.isSome then
      let s := s.learnDz p
      if s.hst.learn.edges.length = 2 then s.learnCentre else s
    else if l.step = 3 then
      let s := s.learnDz p
      if s.hst.learn.edges.length = 2 * s.nland ∧ s.hst.learn.tsdHi.isSome then s.learnCentre else s
    else s
  else s

/-- Overrun of a channel's edge queue: HST treats the flag side as chattering (13 R337). -/
def State.learnOverrun (s : State) (n : Nat) : State :=
  let l := s.hst.learn
  if l.step = 3 ∧ n = s.parN Idx.HST_DZFIO ∧ l.count < 9 then
    match l.edges.getLast? with
    | some (q, _) =>
      ({ s with hst.learn := { l with edges := l.edges.dropLast ++ [(q, 9)], count := 9 } } : State).raise 0x0507 3
        ((l.edges.length - 1) / 2)
    | none => s
  else s

/-- Landing k's edges of step 3: lower and upper edge and the larger edge count. -/
def learnFlag (es : List (Int × Nat)) (k : Nat) : Int × Int × Nat :=
  let a := es.getD (2 * k) (0, 0)
  let b := es.getD (2 * k + 1) (0, 0)
  (a.1, b.1, max a.2 b.2)

/-- Landing k's entry after the run (R211, R212); `shift` moves every latched value under ZEROMODE 0. -/
def State.learnEntry (s : State) (es : List (Int × Nat)) (shift : Int) (k : Nat) : State :=
  let (lo, hi, n) := learnFlag es k
  let fl := s.floorN k 16 1
  let doors := fl % 8 / 2 * 2
  if 8 < n then
    let keep := fl % 2 + (fl / 8 % 4) * 8
    s.tblWrite 0x0100 (32 * k + 16) (toLe 1 (keep + doors + 32) ++ toLe 1 (min 255 n))
  else
    let s := s.tblWrite 0x0100 (32 * k) (le 4 ((lo + hi) / 2 - shift) ++ le 4 (lo - shift) ++ le 4 (hi - shift))
    s.tblWrite 0x0100 (32 * k + 16) (toLe 1 (1 + doors + 8) ++ toLe 1 (min 255 n) ++ toLe 2 (s.floorN k 18 2) ++
      toLe 6 s.pwr.opTime)

/-- LEARN_DONE (R211): step 4 computes and writes the results, or the run ends as a learning fault of cause 3 or 4. -/
def execLearnDone (s : State) : Out :=
  occurs (s.engines && s.hst.learn.step == 4) s <|
    let l := s.hst.learn
    if l.tsdLo.isNone ∨ l.tsdHi.isNone then { (s.learnFault 4) with hst.st := .learnFault }
    else if l.edges.length ≠ 2 * s.nland then { (s.learnFault 3) with hst.st := .learnFault }
    else
      let chatter := (List.range s.nland).any fun k => decide (8 < (learnFlag l.edges k).2.2)
      let counts := s.hst.inc - l.inc0
      let travel := s.hst.psa.pos - l.pa0
      let res := if counts = 0 then s.par Idx.HST_INCRES else (mag (rdiv (travel * 1000000) counts) : Int)
      let f0 := learnFlag l.edges 0
      let shift : Int := if s.par Idx.HST_ZEROMODE = 0 then (f0.1 + f0.2.1) / 2 else 0
      let psb := s.par Idx.HST_PSBOFS + (if l.diffN = 0 then 0 else rdiv l.diffSum l.diffN) - shift
      let s := (List.range s.nland).foldl (fun s k => s.learnEntry l.edges shift k) s
      let s := ((s.setOwn Idx.HST_INCRES res).setOwn Idx.HST_PSBOFS psb)
      let s := if s.par Idx.HST_ZEROMODE = 0 then s.setOwn Idx.HST_PSAOFS (s.par Idx.HST_PSAOFS - shift) else s
      let s := (s.setOwn Idx.HST_TERMLO (l.tsdLo.getD 0 - shift)).setOwn Idx.HST_TERMHI (l.tsdHi.getD 0 - shift)
      let s := (s.setOwn Idx.HST_LEARNSTAT (if chatter then 2 else 1)).setOwn Idx.HST_LEARNCAUSE 0
      let n := ((List.range s.nland).filter fun k => s.floorFlag k 3).length
      let s := (s.tblChanged 0x0100).raise 0x0505 2 0xFF [(1, n)]
      let s := { s with hst.learn := {}, hst.unlearned := false, hst.offset := s.hst.pf - shift * 256 - s.incTerm s.hst.inc,
                        hst.pf := s.hst.pf - shift * 256, hst.pabs := s.hst.pabs - shift, hst.hist := [] }
      let s := { s with hst.ref := RefSt.at_ s.carPos, hst.planEnd := s.carPos }
      { s with hst.st := if s.hstDisabled then .disabled else .idle }

/-! ## The drive link (R230–R235, R493) -/

/-- The torque feed-forward: R229, plus slot 14's output or its ramp, and the brake torque test's steps (12 R316). -/
def State.torqueFf (s : State) : Int :=
  if s.saf.btPhase ≠ 0 then
    match s.saf.btPhase with
    | 3 => s.par Idx.SAF_BTTORQ | 7 => s.par Idx.SAF_BTTORQ
    | 4 => -s.par Idx.SAF_BTTORQ | 8 => -s.par Idx.SAF_BTTORQ
    | _ => 0
  else
    let a := if s.hst.released then s.hst.ref.acc else 0
    let ff := rdiv (10000 * ((s.loadKg - s.par Idx.HST_BALKG) * 9810000 + s.par Idx.HST_INERTKG * a))
      (1000000 * s.par Idx.HST_FRATED)
    let slot := rdiv ((s.cslot 14).out * s.par (Idx.CLE_SnFSOUT 14)) (2 ^ 31)
    let add := match s.hst.rampAt with
      | some t => rdiv (s.hst.preOut * ((200 - min 200 (s.pwr.opTime - t) : Nat) : Int)) 200
      | none => if !s.hst.released && s.hst.liftReq && s.brakesLifted then slot else 0
    ff + add

/-- The speed reference: group G2's value, 0 in the brake torque test (10 R251, Table HST-9). -/
def State.speedRef (s : State) : Int :=
  if s.saf.btPhase ≠ 0 then 0 else rdiv (s.cle.group.getD 2 0 * s.par (Idx.CLE_SnFSOUT 12)) (2 ^ 31)

/-- The device frame's bytes 0–27 (Table HST-9). -/
def State.deviceFrame (s : State) (seq : Nat) : List Byte :=
  let stopping := s.hst.st == .stopping || s.hst.st == .controlledStop
  let lifted := s.hst.runReq && s.hst.liftReq && s.brakesLifted
  toLe 1 0xA5 ++ toLe 1 seq ++
    toLe 1 (b2n s.hst.enable + 2 * b2n lifted + 4 * b2n (decide (s.hst.fltReset ≠ 0) && !s.hst.enable) + 8 * b2n stopping) ++
    toLe 1 1 ++ le 4 s.speedRef ++ le 2 s.torqueFf ++ [0, 0] ++ le 4 s.hst.ref.acc ++ le 4 s.carPos ++
    toLe 2 (s.par Idx.HST_LOAD).toNat ++ List.replicate 6 0

/-- FAULT_RESET in 20 consecutive frames after the inverter reported FAULT with ENABLE 0 at standstill, once until the
fault is gone or a new target is taken (R493). -/
def State.faultReset (s : State) : State :=
  let fault := (getU s.hst.invFrame 2 1).testBit 3
  if !fault then { s with hst.fltTried := false, hst.fltReset := s.hst.fltReset - 1 }
  else if 0 < s.hst.fltReset then { s with hst.fltReset := s.hst.fltReset - 1 }
  else if !s.hst.fltTried ∧ !s.hst.enable ∧ s.hstStill then { s with hst.fltReset := 20, hst.fltTried := true }
  else s

/-- DEVICE_FRAME (R232, R493): HST sends the period's frame at HST.DLOFS. -/
def execDeviceFrame (s : State) : Out :=
  occurs s.engines s <|
    let s := s.faultReset
    let seq := (s.hst.dlSeq + 1) % 256
    { s with hst.dlSeq := seq, hst.devFrame := s.deviceFrame seq, hst.dlReplied := false, hst.invNew := [] }

/-- A frame with its CRC passes R231 and is this period's reply (R231, R232). -/
def State.replyGood (s : State) (bs : List Byte) (coded : Bool) (atUs : Nat) : Bool :=
  coded && bs.length == 32 && getU bs 28 4 == crc32 (bs.take 28) && getU bs 0 1 == 0x5A && getU bs 1 1 == s.hst.dlSeq &&
    decide (atUs ≤ 450)

/-- INVERTER_FRAME (R231–R235): a frame of `bytes` arrives, validly coded or not, complete `atUs` after the period start;
a bad, late or wrongly echoed one is discarded. -/
def execInverterFrame (bytes : List Byte) (coded : Bool) (atUs : Nat) (s : State) : Out :=
  occurs (s.engines && !s.hst.dlReplied && s.replyGood bytes coded atUs) s <|
    let s := s.modBoth fun c => { c with dlMiss := 0 }
    { s with hst.dlReplied := true, hst.invNew := bytes.take 28, hst.dlMiss := 0,
             hst.dlGood := if 2 ≤ s.hst.dlStat then s.hst.dlGood + 1 else s.hst.dlGood,
             hst.dlStat := if s.hst.dlStat = 1 then 0 else s.hst.dlStat }

/-- Each safety channel counts a missing frame while SOC is closed or the car is not at standstill (R234). -/
def State.countDl (s : State) : State :=
  let soc := s.soClosed 2
  s.modBoth fun c => if soc ∨ !c.standing then { c with dlMiss := c.dlMiss + 1 } else c

/-- DL_REPLY_DEADLINE (R234): 450 µs into a period without a good reply the frame counts as missing. -/
def execDlReplyDeadline (us : Nat) (s : State) : Out :=
  occurs (s.engines && !s.hst.dlReplied && decide (450 ≤ us)) s <|
    let s := s.countDl
    let s := { s with hst.dlReplied := true, hst.dlGood := 0 }
    if s.hst.enable ∨ !s.hstStill then
      let n := s.hst.dlMiss + 1
      let s := ({ s with hst.dlMiss := n } : State).bump Idx.HST_DLMISS
      if n = 2 ∧ s.hst.dlStat < 2 then
        (({ s with hst.dlStat := 2 } : State).raise 0x050B 4).bump Idx.HST_DLFAULTS |>.addCause 4
      else if s.hst.dlStat = 0 then { s with hst.dlStat := 1 } else s
    else if s.hst.dlStat = 0 then { s with hst.dlStat := 1 } else s

/-- DL_RESTORED (R235): 100 consecutive good inverter frames after FAULT or LOST. -/
def execDlRestored (s : State) : Out :=
  occurs (s.engines && decide (2 ≤ s.hst.dlStat) && decide (100 ≤ s.hst.dlGood)) s <|
    let s := (s.raise 0x050D 2).dropCause 4
    { s with hst.dlStat := 0, hst.dlGood := 0, hst.dlMiss := 0 }

end Sys2Proof.Machine
end

