-- ==== Sys2Proof/Machine/Caldera.lean ====
section
/-!
DEFINITION. The Caldera closed-loop engine (10_caldera_control_engine.md): latching, the control law with its repetitive
unit and its plausibility monitor, writes, groups, enabling, slot faults, and the trace buffers.
-/
namespace Sys2Proof.Machine

/-! ## Arithmetic (R246, R247) -/

/-- Saturation to Q1.31. -/
def satQ (x : Int) : Int := clampInt (-2147483648) 2147483647 x

/-- A physical value `x` as Q1.31 of full scale `fs`: rounded to nearest, ties toward +∞, then saturated. -/
def toQ (fs x : Int) : Int := if fs = 0 then 0 else satQ (rdiv (x * 2 ^ 31) fs)

/-- The conversion of a physical value saturates (R246). -/
def toQSat (fs x : Int) : Bool := fs != 0 && satQ (rdiv (x * 2 ^ 31) fs) != rdiv (x * 2 ^ 31) fs

/-- A Q1.31 value as the integer unit of its destination, full scale `fs`. -/
def fromQ (fs u : Int) : Int := rdiv (u * fs) (2 ^ 31)

/-- A node's value from its exact sum of Q5.58 products, and its saturation bits: its own, and ACC when the 64-bit
accumulator overflows. -/
def node (k : Nat) (acc : Int) : Int × Nat :=
  let v := rdiv acc (2 ^ 27)
  let ovf : Bool := decide (acc < -(2 ^ 63)) || decide (2 ^ 63 ≤ acc)
  (satQ v, (if satQ v ≠ v ∨ ovf then 2 ^ k else 0) ||| (if ovf then 2 ^ 18 else 0))

/-- A node that is a sum of signals. -/
def nodeSum (k : Nat) (x : Int) : Int × Nat := (satQ x, if satQ x ≠ x then 2 ^ k else 0)

/-! ## Roles (Table CLE-1, Table CLE-6) -/

/-- Position slots (R239). -/
def posSlot (n : Nat) : Bool := n == 3 || n == 9 || n == 12 || n == 13 || n == 14

/-- Limiter slots (R240). -/
def limSlot (n : Nat) : Bool := n == 4 || n == 5 || n == 10 || n == 11 || n == 13

/-- The group of a slot. -/
def groupOf (n : Nat) : Option Nat :=
  if 3 ≤ n ∧ n ≤ 5 then some 0 else if 9 ≤ n ∧ n ≤ 11 then some 1 else if n = 12 ∨ n = 13 then some 2 else none

/-- The head of a group, and its members. -/
def groupHead (g : Nat) : Nat := if g = 0 then 3 else if g = 1 then 9 else 12
def groupMembers (g : Nat) : List Nat := if g = 0 then [3, 4, 5] else if g = 1 then [9, 10, 11] else [12, 13]

/-- SnFSOUT, the head's for the other members of a group (R252). -/
def State.fsOut (s : State) (n : Nat) : Int :=
  s.par (Idx.CLE_SnFSOUT (match groupOf n with | some g => groupHead g | none => n))

/-- SnFSIN. -/
def State.fsIn (s : State) (n : Nat) : Int := s.par (Idx.CLE_SnFSIN n)

/-- Direction of a group (Table CLE-6). -/
def State.groupDir (s : State) (g : Nat) : Int := if g = 0 then s.dr0.dir else if g = 1 then s.dr1.dir else s.g2dir

/-- The full scale of a group's value. -/
def State.groupFs (s : State) (g : Nat) : Int := s.fsOut (groupHead g)

/-! ## Slot faults (R245, Table CLE-3) -/

/-- A slot stops: output 0 and nodes 0 (R241). -/
def CSlot.stop (c : CSlot) : CSlot :=
  { c with on := false, ramping := false, losing := false, satSign := 0, sat := 0, pmFault := false, deadline := false,
           late := 0, stage := 0, out := 0, a := 0, a2 := 0, u := 0, nodes := List.replicate 19 0, restable := true }

/-- A slot fault: the slot is disabled with output 0, CLE.FLTMASK and CLE_SLOT_FAULT, and the owner's reaction. -/
def State.slotFault (s : State) (n : Nat) : State :=
  let s := s.modSlotC n fun c => { c.stop with fault := true, want := false, restable := false }
  let s := s.setOwn Idx.CLE_FLTMASK (setBit (s.parN Idx.CLE_FLTMASK) n true)
  let s := s.raise 0x0602 4 n
  if n < 12 then s.modDoor (decide (n < 6)) fun d => { d with pendFault := some 7 }
  else if n < 15 then s.addCause 8
  else s.setOwn (Idx.CLE_SnCFG 15) (setBit (s.parN (Idx.CLE_SnCFG 15)) 0 false)

/-! ## Period start (R242, R264) -/

/-- A slot's period begins at minor period `m`. -/
def beginsAt (n m : Nat) : Bool :=
  if n = 0 ∨ n = 1 ∨ n = 6 ∨ n = 7 then true else if n = 2 ∨ n = 8 then m % 4 == 0 else m == 0

/-- Slot 15's measurement in the unit of its source; `src` is the reading of an outside source (R238). -/
def State.source15 (s : State) (src : Int) : Int :=
  match fieldOf (s.parN (Idx.CLE_SnCFG 15)) 11 8 with
  | 0 => 0
  | 5 => s.hst.vf
  | 6 => s.carPos
  | _ => src

/-- A slot's inputs are latched. -/
def State.latchSlot (s : State) (n : Nat) (src : Int) : State :=
  let y15 := s.source15 src
  s.modSlotC n fun c =>
    { c with wLat := c.wIn, yLat := if n = 15 then y15 else c.yIn, fLat := c.fIn, stage := 1,
             restable := c.restable || !c.on }

/-- STATUS word of a slot (Table CLE-11). -/
def CSlot.stat (c : CSlot) : Nat :=
  b2n c.on + 2 * b2n c.ramping + 4 * b2n c.losing + 8 * b2n (c.satSign != 0) + 16 * b2n c.pmFault + 32 * b2n c.fault +
    128 * b2n c.deadline

/-- Bin `i` of a unit's table. -/
def State.bin (s : State) (u i : Nat) : Int := signedOf 32 (s.tblN (0x0400 + u) (4 * (i % 512)) 4)

/-- RMS over the 512 bins. -/
def State.binRms (s : State) (u : Nat) : Nat :=
  isqrt (((List.range 512).map fun i => (mag (s.bin u i)) ^ 2).foldl (· + ·) 0 / 512)

/-- RCuSTAT as the unit stands: as its slot's last sample left it, or, with its slot off, frozen while it is to learn
(R254, R255; log 60). -/
def State.unitStat (s : State) (u : Nat) : Nat :=
  let n := fieldOf (s.parN (Idx.CLE_RCuCFG u)) 7 4
  if (s.cslot n).on then (s.cle.units.getD u {}).stat
  else if s.parBit (Idx.CLE_RCuCFG u) 1 then 2
  else if s.parBit (Idx.CLE_RCuCFG u) 0 then 3 else 0

/-- The RO values of every slot and unit are latched together (R264). -/
def State.latchSeen (s : State) : State :=
  { s with
    cle.seen := (List.range 16).map fun n =>
      let c := s.cslot n
      { out := c.out, meas := c.nodes.getD 1 0, stat := c.stat, res := c.nodes.getD 17 0, satfl := c.satfl,
        dl := s.par (Idx.CLE_SnDLCNT n) }
    cle.units := (List.range 4).map fun u =>
      let x := s.cle.units.getD u {}
      { x with seenStat := s.unitStat u, seenUpd := x.upd, seenRms := s.binRms u }
    cle.gdue := [true, true, true] }

/-- PERIOD_START (R242): minor period `minor` of 0–15 begins: the shunts are sampled, every slot whose period begins here
latches its inputs. -/
def execPeriodStart (minor : Nat) (shunts : List Int) (src : Int) (s : State) : Out :=
  occurs (s.engines && decide (minor < 16)) s <|
    let s := { s with cle.shunts := shunts }
    let s := (List.range 16).foldl (fun s n => if beginsAt n minor then s.latchSlot n src else s) s
    if minor = 0 then s.latchSeen else s

/-! ## The control law (R248) -/

/-- The commanded set-point w_c of a slot: the other slot's output, the group's value, the parameter, or its register. -/
def State.setPoint (s : State) (n : Nat) : Int :=
  let c := s.cslot n
  if posSlot n then c.wLat
  else if n = 1 ∨ n = 7 then
    (if (s.cslot (n + 1)).on then toQ (s.fsIn n) (fromQ (s.fsOut (n + 1)) (s.cslot (n + 1)).out) else toQ (s.fsIn n) c.wLat)
  else if n = 2 ∨ n = 8 then
    let g := if n = 2 then 0 else 1
    toQ (s.fsIn n) (fromQ (s.groupFs g) (s.cle.group.getD g 0))
  else if n = 15 then s.par (Idx.CLE_SnSETPT 15)
  else toQ (s.fsIn n) c.wLat

/-- The conversion of the commanded set-point saturates: it is of the other slot's output, the group's value, or the register
(R246, R247). -/
def State.setPointSat (s : State) (n : Nat) : Bool :=
  let c := s.cslot n
  if posSlot n ∨ n = 15 then false
  else if (n = 1 ∨ n = 7) ∧ (s.cslot (n + 1)).on then toQSat (s.fsIn n) (fromQ (s.fsOut (n + 1)) (s.cslot (n + 1)).out)
  else if n = 2 ∨ n = 8 then
    let g := if n = 2 then 0 else 1
    toQSat (s.fsIn n) (fromQ (s.groupFs g) (s.cle.group.getD g 0))
  else toQSat (s.fsIn n) c.wLat

/-- The measurement of a slot. -/
def State.measure (s : State) (n : Nat) : Int :=
  if posSlot n then (s.cslot n).yLat else toQ (s.fsIn n) (s.cslot n).yLat

/-- Output and state of one biquad in direct form II transposed: `b0 b1 b2 a1 a2` are Q4.27. -/
def biquad (k : Nat) (b0 b1 b2 a1 a2 : Int) (st : Biquad) (x : Int) : Int × Nat × Biquad :=
  let (z, f) := node k (b0 * x + st.s1 * 2 ^ 27)
  let (s1, f1) := node k (b1 * x - a1 * z + st.s2 * 2 ^ 27)
  let (s2, f2) := node k (b2 * x - a2 * z)
  let acc := (f ||| f1 ||| f2).testBit 18
  (z, (if f.testBit k then 2 ^ k else 0) ||| (if acc then 2 ^ 18 else 0), ⟨s1, s2⟩)

/-- The first `nbq` biquads of slot `n` in order: the outputs, the saturation bits, the new states, the last output. -/
def State.biquads (s : State) (n : Nat) : Nat → Nat → List Biquad → Int → List Int × Nat × List Biquad × Int
  | _, _, [], x => ([], 0, [], x)
  | 0, _, b :: bs, x => (List.replicate (bs.length + 1) 0, 0, b :: bs, x)
  | k + 1, j, b :: bs, x =>
    let co := fun i => s.par (Idx.CLE_SnBQ n j i)
    let (z, f, b') := biquad (7 + j) (co 0) (co 1) (co 2) (co 3) (co 4) b x
    let (zs, fs, bs', last) := s.biquads n k (j + 1) bs z
    (z :: zs, f ||| fs, b' :: bs', last)

/-- The unit attached to a slot. -/
def State.unitOf (s : State) (n : Nat) : Option Nat :=
  (List.range 4).find? fun u => fieldOf (s.parN (Idx.CLE_RCuCFG u)) 7 4 == n

/-- A rotor angle that Caldera may not use: a drive fault, or a sensorless operator below DRn.SLVMIN (11 R272). -/
def State.angleBad (s : State) (front : Bool) : Bool :=
  let n := if front then 0 else 1
  let d := s.door front
  d.pendFault.isSome || d.st == .fault ||
    (s.parBit (Idx.DRn_CFG n) 2 && decide (mag d.v < s.parN (Idx.DRn_SLVMIN n)))

/-- A unit's 16-bit angle, none when its source is invalid (R254, R255). -/
def State.unitAngle (s : State) (u : Nat) : Option Nat :=
  match fieldOf (s.parN (Idx.CLE_RCuCFG u)) 3 2 with
  | 0 => if s.hst.invGood then some (getU s.hst.invFrame 10 2) else none
  | 1 => if s.angleBad true then none else some (s.dr0.theta % 65536).toNat
  | 2 => if s.angleBad false then none else some (s.dr1.theta % 65536).toNat
  | _ => none

/-- The bin, direction and age of a unit at this sample (R254). -/
def RUnit.move (x : RUnit) (i : Nat) : RUnit :=
  if i = x.bin then { x with same := x.same + 1 }
  else { x with bin := i, dir := if (i + 512 - x.bin) % 512 ≤ 256 then 1 else -1, same := 0 }

/-- The correction r of a slot and the unit as moved, with its angle's validity (R254). -/
def State.repetitive (s : State) (n : Nat) : Int × Option (Nat × RUnit × Bool) :=
  match s.unitOf n with
  | none => (0, none)
  | some u =>
    let x := s.cle.units.getD u {}
    match s.unitAngle u with
    | none => (0, some (u, x, false))
    | some th =>
      let x := x.move (th / 128)
      let r := if s.parBit (Idx.CLE_RCuCFG u) 0 then
        s.bin u (((x.bin : Int) + x.dir * s.par (Idx.CLE_RCuLEAD u)) % 512).toNat else 0
      (r, some (u, x, true))

/-- The unit learns at this sample, or is frozen (R254, R255). -/
def State.learnUnit (s : State) (n : Nat) (q : Option (Nat × RUnit × Bool)) : State :=
  match q with
  | none => s
  | some (u, x, valid) =>
    let c := s.cslot n
    let learn := s.parBit (Idx.CLE_RCuCFG u) 1
    let frozen := c.sat != 0 || c.satBefore != 0 || c.losing || c.ramping || !valid || decide (64 < x.same)
    let en := s.parBit (Idx.CLE_RCuCFG u) 0
    let st := if learn then (if frozen then 2 else 1) else if en then 3 else 0
    let put := fun (s : State) (x : RUnit) => { s with cle.units := s.cle.units.set u x }
    if learn && !frozen then
      let t := satQ (rdiv (s.par (Idx.CLE_RCuFGT u) * s.bin u x.bin + s.par (Idx.CLE_RCuGAIN u) * c.e) 65536)
      let s := s.tblWrite (0x0400 + u) (4 * x.bin) (le 4 t)
      put s { x with stat := st, learned := true, upd := min 0xFFFFFFFF (x.upd + 1) }
    else put s { x with stat := st }

/-- The sample of an enabled slot: every line of R248 and R257; a conversion that saturates sets the flag of the node it gives
its value (R246, R247; log 60). -/
def State.law (s : State) (n : Nat) (r : Int) : CSlot :=
  let c := s.cslot n
  let pos := posSlot n
  let fsin := s.fsIn n
  let first : Bool := c.age == 0
  let wc := s.setPoint n
  let y := s.measure n
  let rho := if pos then fromQ fsin (s.par (Idx.CLE_SnRAMP n)) else s.par (Idx.CLE_SnRAMP n)
  let ramping := c.ramping && s.par (Idx.CLE_SnRAMP n) != 0
  let w := if ramping then (if first then y else c.w + clampInt (-rho) rho (wc - c.w)) else wc
  let (e, fe) := if pos then nodeSum 2 (rdiv ((w - y) * 2 ^ 31) fsin) else nodeSum 2 (w - y)
  let dmeas := (s.parN (Idx.CLE_SnCFG n)).testBit 1
  let x := if dmeas then -y else e
  let dx := if first then 0 else if pos && dmeas then toQ fsin (x - c.x1) else x - c.x1
  let (p, fp) := node 3 (s.par (Idx.CLE_SnKP n) * e)
  let (d, fd) := node 5 (s.par (Idx.CLE_SnDFILT n) * c.d + s.par (Idx.CLE_SnKD n) * dx)
  let ki := s.par (Idx.CLE_SnKI n)
  let h : Int := if c.losing || (c.satSign != 0 && sgn (ki * e) == c.satSign) then 0 else 1
  let (i, fi) := node 4 (c.i * 2 ^ 27 + h * ki * e + s.par (Idx.CLE_SnKT n) * (c.a - c.u))
  let ffwd : Bool := n == 3 || n == 9 || n == 12
  let (f, ff) := node 15 (s.par (Idx.CLE_SnKFF n) * (if ffwd then toQ (s.fsOut n) c.fLat else 0))
  let (v, fv) := nodeSum 6 (p + i + d + f)
  let (zs, fz, bq, zl) := s.biquads n (fieldOf (s.parN (Idx.CLE_SnCFG n)) 4 2) 0 c.bq v
  let (u, fu) := nodeSum 14 (zl + r)
  let ym := if pos then toQ fsin (if first then 0 else y - c.y1) else y
  let m1 := if first then ym else c.ym1
  let m2 := if first then ym else c.ym2
  let pm := fun k => s.par (Idx.CLE_SnPMA1 n + k)
  let (yp, fy) := node 16 (-(pm 0) * m1 - pm 1 * m2 + pm 2 * c.a + pm 3 * c.a2)
  let rfc := s.par (Idx.CLE_SnPMRF n)
  let (rf, fr) := node 17 (rfc * c.rf + (2 ^ 27 - rfc) * (ym - yp))
  let conv := b2n (s.setPointSat n && w == wc) + 2 * b2n (!pos && toQSat fsin c.yLat) +
    2 ^ 15 * b2n (ffwd && toQSat (s.fsOut n) c.fLat)
  let sat := conv ||| fe ||| fp ||| fd ||| fi ||| ff ||| fv ||| fz ||| fu ||| fy ||| fr
  { c with w := w, y := y, e := e, p := p, i := i, d := d, v := v, z := zs, r := r, u := u, f := f, yp := yp, rf := rf,
           x1 := x, bq := bq, ym1 := ym, ym2 := m1, y1 := y, ramping := ramping && w != wc, satBefore := c.sat, sat := sat,
           satfl := c.satfl ||| sat, satSign := if fu = 0 then 0 else sgn u, age := c.age + 1, stage := 2 }

/-- The nodes of Table CLE-5 in order. -/
def CSlot.nodeList (c : CSlot) : List Int :=
  [c.w, c.y, c.e, c.p, c.i, c.d, c.v] ++ c.z ++ [c.r, c.u, c.f, c.yp, c.rf, b2n (c.sat.testBit 18)]

/-! ## Obstruction as Caldera's samples show it (11 R287, R288) -/

/-- A qualified obstruction: DOOR_OBSTRUCTION, acted on at the next sequencer tick. -/
def State.obstruct (s : State) (front : Bool) (src : Nat) : State :=
  let d := s.door front
  let n := if front then 0 else 1
  if d.dir = 0 ∨ d.obstructed.isSome ∨ (d.st = .reversing ∧ d.dir < 0) ∨ (src < 2 ∧ d.x ≤ s.par (Idx.DRn_OBSZONE n)) ∨
      (src = 2 ∧ d.st = .nudging) then s
  else
    let s := s.raise (0x0703 + 0x100 * n) 2 d.landing [(1, src), (4, d.x)]
    s.modDoor front fun d => { d with obstructed := some src, counts := false }

/-- The force residual at a sample of slot 4 (10): DRn.OBSQL consecutive samples above DRn.OBSF (11 R287). -/
def State.forceSample (s : State) (front : Bool) : State :=
  let n := if front then 0 else 1
  let d := s.door front
  let above := decide (s.par (Idx.DRn_OBSF n) < d.force) && !d.unlearned && decide (s.par (Idx.DRn_OBSZONE n) < d.x)
  let k := if above then d.obs + 1 else 0
  let s := s.modDoor front fun d => { d with obs := k }
  if above ∧ s.parN (Idx.DRn_OBSQL n) ≤ k then s.obstruct front 0 else s

/-- The plausibility monitor's qualification of the sample (R258). -/
def State.monitor (s : State) (n : Nat) : State :=
  let c := s.cslot n
  if !(s.parN (Idx.CLE_SnCFG n)).testBit 5 || decide (c.age < 3) then s
  else
    let above := decide (s.par (Idx.CLE_SnPMTHR n) < mag c.rf)
    let ql := s.parN (Idx.CLE_SnPMQL n)
    let bad := if above then c.pmBad + 1 else 0
    let good := if above then 0 else c.pmGood + 1
    let s := s.modSlotC n fun c => { c with pmBad := bad, pmGood := good, pmFault := c.pmFault && decide (good < ql) }
    if c.pmFault ∨ bad < ql then s
    else
      let s := s.modSlotC n fun c => { c with pmFault := true }
      let s := s.setOwn Idx.CLE_PMMASK (setBit (s.parN Idx.CLE_PMMASK) n true)
      let s := s.raise 0x0603 3 n
      if n = 2 then s.obstruct true 1 else if n = 8 then s.obstruct false 1
      else if n = 12 ∨ n = 14 then s.addCause 8 else s

/-- SLOT_SAMPLE (R248, R254–R258): an enabled slot computes its sample. -/
def execSlotSample (n : Nat) (s : State) : Out :=
  occurs (s.engines && decide (n < 16) && (s.cslot n).on && (s.cslot n).stage == 1) s <|
    let (r, q) := s.repetitive n
    let c := s.law n r
    let s := s.modSlotC n fun _ => c
    let s := (s.learnUnit n q).monitor n
    if n = 4 then s.forceSample true else if n = 10 then s.forceSample false else s

/-! ## Writes (R243–R245, R251–R253) -/

/-- The trace buffers whose clock slot is written may take a sample (R261). -/
def State.traceDue (s : State) (n : Nat) : State :=
  { s with cle.traces := (List.range 4).map fun b =>
      let t := s.cle.traces.getD b {}
      if 1 ≤ t.st ∧ t.st ≤ 3 ∧ s.parN (Idx.CLE_TRbSIG01 b) % 65536 / 256 = n then { t with due := true } else t }

/-- A slot's written output becomes the applied one outside a group (R248). -/
def CSlot.apply (c : CSlot) (a : Int) : CSlot := { c with a2 := c.a, a := a }

/-- A deadline fault: the previous output again; two in succession are a slot fault (R245). -/
def State.slotLate (s : State) (n : Nat) : State :=
  let late := (s.cslot n).late
  let s := s.modSlotC n fun c =>
    let c := { c with stage := 0, deadline := true, late := c.late + 1 }
    if (groupOf n).isNone then c.apply c.out else c
  let s := (s.bump (Idx.CLE_SnDLCNT n)).raiseCounted 0x0601 3 n
  if 1 ≤ late then s.slotFault n else s.traceDue n

/-- SLOT_WRITE (R243, R245): the slot's output is written, or, with its computation not complete, the previous output again
as a deadline fault; two in succession are a slot fault. -/
def execSlotWrite (n : Nat) (s : State) : Out :=
  let c := s.cslot n
  let solo := (groupOf n).isNone
  occurs (s.engines && decide (n < 16) && c.on && c.stage != 0) s <|
    if c.stage = 2 then
      let s := s.modSlotC n fun c =>
        let c := { c with out := c.u, stage := 0, deadline := false, late := 0, nodes := c.nodeList }
        if solo then c.apply c.out else c
      s.traceDue n
    else s.slotLate n

/-- The compared value d·u of a member, a limiter's u first replaced by d·u (R251). -/
def State.compared (s : State) (d : Int) (n : Nat) : Int :=
  if limSlot n then (s.cslot n).out else d * (s.cslot n).out

/-- The winner among the enabled members: the smallest compared value, the lower slot number on a tie (R251). -/
def State.winner (s : State) (d : Int) : List Nat → Option Nat
  | [] => none
  | n :: ns =>
    match s.winner d ns with
    | none => if (s.cslot n).on then some n else none
    | some m => if (s.cslot n).on ∧ s.compared d n ≤ s.compared d m then some n else some m

/-- The group's value and winner, 15 for none (R251, Table CLE-3). -/
def State.groupValue (s : State) (g : Nat) : Int × Nat :=
  let h := groupHead g
  let d := s.groupDir g
  if !(s.cslot h).on then
    ((if g = 2 ∧ (s.cslot 12).fault then toQ (s.groupFs 2) (s.cslot 12).fLat else 0), 15)
  else if d = 0 then ((s.cslot h).out, h)
  else match s.winner d (groupMembers g) with
    | some n => (satQ (if limSlot n then d * (s.cslot n).out else (s.cslot n).out), n)
    | none => (0, 15)

/-- GROUP_WRITE (R251–R253): the lowest output wins, the group's value is written, and every member takes its applied value
and its LOSING bit. -/
def execGroupWrite (g : Nat) (s : State) : Out :=
  occurs (s.engines && decide (g < 3) && s.cle.gdue.getD g false &&
      (groupMembers g).all fun n => !(s.cslot n).on || (s.cslot n).stage == 0) s <|
    let (v, win) := s.groupValue g
    let d := s.groupDir g
    let h := groupHead g
    let s := (groupMembers g).foldl (fun s n => s.modSlotC n fun c =>
      if !c.on then c
      else if d = 0 ∧ n ≠ h then { c.apply c.u with losing := true }
      else { c.apply (satQ (if limSlot n then d * v else v)) with losing := win != n }) s
    let s := { s with cle.group := s.cle.group.set g v, cle.winners := s.cle.winners.set g win,
                      cle.gdue := s.cle.gdue.set g false }
    let bar := fun (s : State) (front : Bool) (n : Nat) => s.modDoor front fun d =>
      if s.par (Idx.DRn_OBSZONE n) < d.x then { d with counts := false } else d
    if win = 4 then bar s true 0 else if win = 10 then bar s false 1 else s

/-! ## Enabling (R241) -/

/-- The owner's request for a slot. -/
def State.slotWanted (s : State) (n : Nat) : Bool :=
  if n = 15 then s.parBit (Idx.CLE_SnCFG 15) 0 else (s.cslot n).want

/-- A slot may be enabled (R241, R245). -/
def State.slotPermitted (s : State) (n : Nat) : Bool :=
  s.parBit (Idx.CLE_SnCFG n) 0 && s.fsIn n != 0 && s.fsOut n != 0 && (!(s.cslot n).fault || (s.cslot n).restable)

/-- SLOT_ENABLE (R241): at one of its samples a requested slot is enabled with its states cleared and its ramp started; a
request that is not permitted is refused. -/
def execSlotEnable (n : Nat) (s : State) : Out :=
  occurs (s.engines && decide (n < 16) && s.slotWanted n && !(s.cslot n).on && (s.cslot n).stage == 1) s <|
    if s.slotPermitted n then
      let s := if (s.cslot n).fault then s.setOwn Idx.CLE_FLTMASK (setBit (s.parN Idx.CLE_FLTMASK) n false) else s
      s.modSlotC n fun c =>
        { wIn := c.wIn, yIn := c.yIn, fIn := c.fIn, wLat := c.wLat, yLat := c.yLat, fLat := c.fLat, want := c.want, on := true,
          ramping := s.par (Idx.CLE_SnRAMP n) != 0, satfl := c.satfl, stage := 1 }
    else s.modSlotC n fun c => { c with want := false }

/-- SLOT_DISABLE (R241): a slot whose owner no longer asks for it is disabled with output 0. -/
def execSlotDisable (n : Nat) (s : State) : Out :=
  occurs (decide (n < 16) && (s.cslot n).on && !s.slotWanted n) s (s.modSlotC n CSlot.stop)

/-- DORMANT entry disables every slot (R241). -/
def State.cleDormant (s : State) : State :=
  { s with cle.slots := s.cle.slots.map fun c => { c.stop with want := false } }

/-- CLE_RC_SAVED (R256): a learned repetitive table is written to MRAM as a device change of origin 2. -/
def execCleRcSaved (u : Nat) (s : State) : Out :=
  let x := s.cle.units.getD u {}
  occurs (decide (u < 4) && x.learned) s <|
    let s := (s.tblChanged (0x0400 + u)).raise 0x0604 0 u
    { s with cle.units := s.cle.units.set u { x with learned := false, savedAt := s.pwr.opTime } }

/-! ## Trace (R261–R263) -/

/-- A node's last written value by its node code (R261). -/
def State.nodeValue (s : State) (code : Nat) : Int :=
  if code = 0xFFFF then 0 else (s.cslot (code / 256)).nodes.getD (code % 256) 0

/-- The four signal codes of a buffer. -/
def State.traceSignals (s : State) (b : Nat) : List Nat :=
  let x := s.parN (Idx.CLE_TRbSIG01 b)
  let y := s.parN (Idx.CLE_TRbSIG23 b)
  [x % 65536, x / 65536, y % 65536, y / 65536]

/-- Capture starts and clears the buffer (R262). -/
def State.traceArm (s : State) (b : Nat) : State := { s with cle.traces := s.cle.traces.set b { st := 1 } }

/-- Capture stops and the content is invalidated (R262). -/
def State.traceDisarm (s : State) (b : Nat) : State := { s with cle.traces := s.cle.traces.set b {} }

/-- The trigger condition of a sample: previous value and flag, present value and flag (R262). -/
def triggers (kind : Nat) (level : Int) (prev : Option (Int × Bool)) (v : Int) (f : Bool) : Bool :=
  match kind, prev with
  | 0, _ => true
  | 1, some (p, _) => decide (p < level) && decide (level ≤ v)
  | 2, some (p, _) => decide (level < p) && decide (v ≤ level)
  | 3, some (_, g) => f && !g
  | 3, none => f
  | _, _ => false

/-- The last `k` elements. -/
def lastN {α : Type} (k : Nat) (xs : List α) : List α := xs.drop (xs.length - k)

/-- A buffer takes a sample: pre-trigger capture, the trigger, post-trigger capture, or completion (R262). -/
def State.traceTake (s : State) (b : Nat) : State :=
  let t := s.cle.traces.getD b {}
  let cfg := s.parN (Idx.CLE_TRbCFG b)
  let pre := fieldOf cfg 23 12
  let code := s.parN (Idx.CLE_TRbTRIG b)
  let v := s.nodeValue code
  let f := (s.cslot (code / 256)).satfl.testBit (code % 256)
  let x := (s.traceSignals b).map s.nodeValue
  let put := fun (s : State) (t : Trace) =>
    { s with cle.traces := s.cle.traces.set b { t with due := false, prev := some (v, f), skip := fieldOf cfg 11 4 } }
  let done := fun (s : State) (t : Trace) =>
    put ((s.setOwn (Idx.CLE_TRbCFG b) (setBit cfg 0 false)).raise 0x0605 1 b) { t with st := 4 }
  if t.st = 3 then
    let t := { t with buf := t.buf ++ [x], left := t.left - 1 }
    if t.left = 0 then done s t else put s t
  else if pre ≤ t.buf.length ∧ triggers (fieldOf cfg 2 1) (s.par (Idx.CLE_TRbLEVEL b)) t.prev v f then
    let t := { t with buf := lastN pre t.buf ++ [x], st := 3, left := 4095 - pre, time := s.rng.time }
    if t.left = 0 then done s t else put s t
  else
    let buf := lastN pre (t.buf ++ [x])
    put s { t with buf := buf, st := if buf.length = pre then 2 else 1 }

/-- TRACE_SAMPLE (R261, R262): at the clock slot's write instant, once every decimation samples. -/
def execTraceSample (b : Nat) (s : State) : Out :=
  let t := s.cle.traces.getD b {}
  occurs (s.engines && decide (b < 4) && t.due && decide (1 ≤ t.st) && decide (t.st ≤ 3) &&
      (s.cslot (s.parN (Idx.CLE_TRbSIG01 b) % 65536 / 256)).on) s <|
    if t.skip = 0 then s.traceTake b
    else { s with cle.traces := s.cle.traces.set b { t with due := false, skip := t.skip - 1 } }

/-- TRACE_READ (R263, Tables CLE-9, CLE-10). -/
def execTraceRead (tag : Nat) (s : State) : Out :=
  occurs (s.hostReady tag 0x3C) s <| s.hostCmd tag 0 fun s f =>
    let b := getU f.p 0 1
    let sig := getU f.p 1 1
    let i := getU f.p 2 2
    let n := getU f.p 4 2
    let t := s.cle.traces.getD b {}
    if 3 < b ∨ 3 < sig ∨ n = 0 ∨ 112 < n ∨ 4096 < i + n then s.complete f .range
    else if t.st ≠ 4 then s.complete f .state
    else s.complete f .ok 0 (toLe 1 b ++ toLe 1 sig ++ toLe 2 i ++ toLe 2 n ++
      toLe 2 (fieldOf (s.parN (Idx.CLE_TRbCFG b)) 23 12) ++ toLe 8 t.time ++
      ((t.buf.drop i).take n).flatMap fun r => le 4 (r.getD sig 0))

end Sys2Proof.Machine
end

