-- ==== Sys2Proof/Machine/Door.lean ====
section
/-!
DEFINITION. The door operators (11_door_operators.md): modulation, currents, rotor angle and door position, the sequencer with
its commands and reactions, learned profiles and mass, the learning cycle, end holds, advance opening, drive faults.
-/
namespace Sys2Proof.Machine

/-- An operator by its number, 0 or 1. -/
def State.dn (s : State) (n : Nat) : Door := s.door (n == 0)

/-- An operator changed. -/
def State.modD (s : State) (n : Nat) (f : Door → Door) : State := s.modDoor (n == 0) f

/-- A parameter of DRn. -/
def State.dp (s : State) (n : Nat) (i : Nat → Nat) : Int := s.par (i n)

/-- The operator works without Hall sensors. -/
def State.sensorless (s : State) (n : Nat) : Bool := s.parBit (Idx.DRn_CFG n) 2

/-- s of R272: −1 with DRn.CFG bit DIR set. -/
def State.doorSign (s : State) (n : Nat) : Int := if s.parBit (Idx.DRn_CFG n) 1 then -1 else 1

/-- The Caldera slots of an operator from offset `ks`. -/
def doorSlots (n : Nat) (ks : List Nat) : List Nat := ks.map fun k => 6 * n + k

/-- A switch input of the operator is active, by its parameter and its bit of DRn.INPOL (R273). -/
def State.swActive (s : State) (n : Nat) (idx bit : Nat) : Bool :=
  s.inputChannel idx && ((s.fio.ch.getD (s.parN idx) {}).state != s.parBit (Idx.DRn_INPOL n) bit)

/-- The sequence version rises (07 R146, R278). -/
def State.doorVer (s : State) (n : Nat) : State := s.modD n fun d => { d with ver := (d.ver + 1) % 2 ^ 32 }

/-! ## Bridge and currents (R265–R269) -/

/-- The rotor angle with which voltages and currents are rotated: the aligned angle 0 in step 1 of a learning cycle, else θ. -/
def State.doorAngle (s : State) (n : Nat) : Int := if (s.dn n).learn.step = 1 then 0 else (s.dn n).theta

/-- The change of rotor angle in `ns` at door speed `v`, 1/65,536 revolution (R272). -/
def State.angleStep (s : State) (n : Nat) (v : Int) (ns : Int) : Int :=
  rdiv (s.doorSign n * v * 6553600 * ns) (s.dp n Idx.DRn_EREVTRV * 10 ^ 9)

/-- A vector longer than V_bus/√3 shortened to that length, its angle kept (R265); mV. -/
def limitVector (vbus d q : Int) : Int × Int :=
  let m2 := d * d + q * q
  if 3 * m2 ≤ vbus * vbus then (d, q)
  else
    let len : Int := isqrt (3 * m2).toNat
    (rdiv (d * vbus) len, rdiv (q * vbus) len)

/-- A phase's duty in 1/65,536 from its voltage with zero-sequence injection, with pulses shorter than the dead time plus
100 ns not issued (R265, R266; log 8). -/
def phaseDuty (vbus v zero deadNs : Int) : Int :=
  if vbus ≤ 0 then 0
  else
    let d := clampInt 0 65536 (32768 + rdiv ((v + zero) * 65536) vbus)
    if d * 50000 < (deadNs + 100) * 65536 then 0
    else if (65536 - d) * 50000 < (deadNs + 100) * 65536 then 65536 else d

/-- √3 in 2^-30. -/
def sqrt3 : Int := 1859775393

/-- The three duties of a load (R265, R266). -/
def State.duties (s : State) (n : Nat) : List Int :=
  let d := s.dn n
  let cfg := fun b => s.parBit (Idx.DRn_CFG n) b
  let vbus := if cfg 7 then s.dp n Idx.DRn_VBUSNOM * 100 else s.par Idx.PWR_VIN
  let (vd, vq) := limitVector vbus (fromQ (s.fsOut (6 * n)) (s.cslot (6 * n)).out)
    (fromQ (s.fsOut (6 * n + 1)) (s.cslot (6 * n + 1)).out)
  let th := s.doorAngle n + s.angleStep n d.v 12500
  let a := rdiv (vd * Config.cosQ31 th - vq * Config.sinQ31 th) (2 ^ 31)
  let b := rdiv (vd * Config.sinQ31 th + vq * Config.cosQ31 th) (2 ^ 31)
  let dead := s.dp n Idx.DRn_DEADT
  let comp := fun i => if cfg 4 then rdiv (sgn i * vbus * dead) 50000 else 0
  let u := a + comp d.iu
  let v := rdiv (b * sqrt3 - a * 2 ^ 30) (2 ^ 31) + comp d.iv
  let w := rdiv (-(b * sqrt3) - a * 2 ^ 30) (2 ^ 31) + comp (-(d.iu + d.iv))
  let zero := -(rdiv (max u (max v w) + min u (min v w)) 2)
  [phaseDuty vbus u zero dead, phaseDuty vbus v zero dead, phaseDuty vbus w zero dead]

/-- COMPARE_LOAD (R265, R266): at a PWM valley or peak the compare values load. -/
def execCompareLoad (n : Nat) (s : State) : Out :=
  occurs (s.engines && decide (n < 2) && (s.dn n).gates) s <|
    let du := s.duties n
    s.modD n fun d => { d with duty := du }

/-- A drive fault acts: gates off, FAULT, DRn.FAULT, the sequence version and DOOR_DRIVE_FAULT (R296). -/
def State.doorFault (s : State) (n code : Nat) : State :=
  let s := s.setOwn (Idx.DRn_FAULT n) code
  let s := s.raise (0x0707 + 0x100 * n) 4 0xFF [(1, code)]
  let s := (s.wantSlots (doorSlots n [0, 1, 2, 3, 4, 5]) false).doorVer n
  let s := s.modD n fun d =>
    { d with st := .fault, gates := false, measuring := false, moving := false, braking := false, rvel := 0, dir := 0,
             pendFault := none, obstructed := none, counts := false, arrival := none, resume := none, hotAt := none,
             learn := {}, stallAt := none, boosting := false, slUse := false, slStart := 0, slAgree := 0 }
  if n = 0 then { s with saf.sodDr0 := none } else { s with saf.sodDr1 := none }

/-- The states in which a drive fault can arise. -/
def State.doorLive (s : State) (n : Nat) : Bool :=
  s.engines && decide (n < 2) && (s.dn n).st != .disabled && (s.dn n).st != .fault

/-- GATE_UVLO (R269): the undervoltage lockout of a high side turns the gates off at once, drive fault 2. -/
def execGateUvlo (n : Nat) (s : State) : Out := occurs (s.doorLive n) s (s.doorFault n 2)

/-- Door position from the rotor angle (R272). -/
def State.positionOf (s : State) (n : Nat) (th : Int) : Int :=
  rdiv (s.doorSign n * (th - (s.dn n).theta0) * s.dp n Idx.DRn_EREVTRV) 6553600

/-- The unwrapped angle congruent to `a` nearest to `th`. -/
def nearestAngle (th a : Int) : Int := th + ((a - th + 32768) % 65536 - 32768)

/-- The sensorless angle after a sample: alignment, open loop at the commanded speed, then the observer's estimate `obs`
(R271). -/
def State.sensorlessStep (s : State) (n : Nat) (obs : Int) : State :=
  let d := s.dn n
  let min_ := s.dp n Idx.DRn_SLVMIN
  if !d.gates || !d.moving then s
  else if d.slUse then
    let th := d.theta + s.angleStep n d.v 31250
    let ob := nearestAngle th obs
    if (mag d.v : Int) ≤ min_ then s.modD n fun d => { d with theta := d.theta + s.angleStep n d.rvel 31250 }
    else if 5461 < mag (ob - th) then s.modD n fun d => { d with pendFault := some (d.pendFault.getD 5) }
    else s.modD n fun d => { d with theta := ob }
  else if d.slStart < 1600 then s.modD n fun d => { d with slStart := d.slStart + 1 }
  else
    let th := d.theta + s.angleStep n d.rvel 31250
    let agree := decide (min_ ≤ mag d.rvel) && decide (mag (nearestAngle th obs - th) ≤ 5461)
    s.modD n fun d =>
      { d with theta := th, slAgree := if agree then d.slAgree + 1 else 0, slUse := agree && decide (639 ≤ d.slAgree) }

/-- Door position, its history and, at each 8 kHz period, the door speed from the present angle (R272, R273). -/
def State.trackDoor (s : State) (n t : Nat) : State :=
  let x := s.positionOf n (s.dn n).theta
  s.modD n fun d =>
    let raw := (x - d.x8) * 8000
    let v := d.v + rdiv ((raw - d.v) * Config.firstOrder 50000 125000) (2 ^ 32)
    { d with x := x, hist := ((t, x) :: d.hist).take 2048, v := if d.iqN % 4 = 0 then v else d.v,
             x8 := if d.iqN % 4 = 0 then x else d.x8 }

/-- CURRENT_SAMPLE (R267, R269, R271, R272): the sample of phase 0 at ring time `t` becomes phase currents, i_d and i_q;
`obs` is the sensorless observer's estimate. -/
def execCurrentSample (n t : Nat) (obs : Int) (s : State) : Out :=
  occurs (s.engines && decide (n < 2) && (s.dn n).st != .disabled) s <|
    let mA := fun k => rdiv (s.cle.shunts.getD (2 * n + k) 0 * 1000) (s.dp n Idx.DRn_RSHUNT)
    let iu := mA 0
    let iv := mA 1
    let th := s.doorAngle n
    let be := rdiv ((iu + 2 * iv) * 2 ^ 30) sqrt3
    let id := rdiv (iu * Config.cosQ31 th + be * Config.sinQ31 th) (2 ^ 31)
    let iq := rdiv (be * Config.cosQ31 th - iu * Config.sinQ31 th) (2 ^ 31)
    let max_ := s.parN (Idx.DRn_IMAX n)
    let overs := ([iu, iv, -(iu + iv)].zip (s.dn n).overs).map fun p => if max_ < mag p.1 then p.2 + 1 else 0
    let s := s.modD n fun d => { d with iu := iu, iv := iv, iqSum := d.iqSum + iq, iqN := d.iqN + 1, overs := overs }
    let s := (s.modSlotC (6 * n) fun c => { c with yIn := id, yLat := id }).modSlotC (6 * n + 1) fun c =>
      { c with yIn := iq, yLat := iq }
    let s := if s.sensorless n then s.sensorlessStep n obs else s
    let s := s.trackDoor n t
    let s := s.modSlotC (6 * n + 2) fun c => { c with yIn := (s.dn n).v }
    if overs.any (fun k => decide (2 ≤ k)) && s.doorLive n then s.doorFault n 1 else s

/-! ## Hall sensors (R270) -/

/-- Place of a Hall code in the sequence 1, 3, 2, 6, 4, 5. -/
def hallPlace (code : Nat) : Option Nat :=
  match code with | 1 => some 0 | 3 => some 1 | 2 => some 2 | 6 => some 3 | 4 => some 4 | 5 => some 5 | _ => none

/-- Start of sector `k`, 1/65,536 revolution (R270). -/
def State.sectorStart (s : State) (n k : Nat) : Int := s.dp n Idx.DRn_HALLOFS + rdiv ((k : Int) * 65536) 6

/-- The angle inside the present sector: from the last edge at the estimated speed, held inside it (R270). -/
def State.hallAngle (s : State) (n k : Nat) : Int :=
  let d := s.dn n
  let adv : Int := if d.hallSpan = 0 then 0 else min 10922 (10922 * d.hallAge / d.hallSpan : Nat)
  nearestAngle d.theta (if d.hallDir < 0 then s.sectorStart n (k + 1) - 1 - adv else s.sectorStart n k + adv)

/-- HALL_READ (R270): a Hall code read at 32 kHz. -/
def execHallRead (n code : Nat) (s : State) : Out :=
  occurs (s.engines && decide (n < 2) && (s.dn n).st != .disabled && !s.sensorless n) s <|
    let d := s.dn n
    match hallPlace code with
    | none =>
      s.modD n fun d => { d with hallBad := d.hallBad + 1,
                                 pendFault := if 1 ≤ d.hallBad then some (d.pendFault.getD 3) else d.pendFault }
    | some k =>
      match hallPlace d.hall with
      | none => s.modD n fun d => { d with hall := code, hallBad := 0, theta := nearestAngle d.theta (s.sectorStart n k) }
      | some j =>
        if j = k then
          let s := s.modD n fun d => { d with hallBad := 0, hallAge := d.hallAge + 1 }
          let th := s.hallAngle n k
          s.modD n fun d => { d with theta := th }
        else
          let up : Bool := k == (j + 1) % 6
          let ok : Bool := up || j == (k + 1) % 6
          let s := s.modD n fun d => { d with hall := code, hallBad := 0, hallSpan := d.hallAge + 1, hallAge := 0,
                                              hallDir := if up then 1 else -1 }
          let th := s.hallAngle n k
          let s := s.modD n fun d => { d with theta := th }
          if ok then s
          else (s.bump (Idx.DRn_HALLERR n)).modD n fun d => { d with pendFault := some (d.pendFault.getD 4) }

/-! ## Profiles (R280, R282, R283) -/

/-- Point `i` of a landing's profile. -/
def State.profPoint (s : State) (n k i : Nat) : Int := signedOf 16 (s.tblN (0x0300 + n) (512 * k + 2 * i) 2)

/-- A direction of a landing is unlearned; a sequence with no landing counts as one (R283). -/
def State.unlearnedDir (s : State) (n k : Nat) (up : Bool) : Bool :=
  k == 0xFF || (List.range 128).all fun i => s.profPoint n k (if up then i else 128 + i) == -32768

/-- A profile point's force, 0 where it is not learned. -/
def State.pointForce (s : State) (n k i : Nat) : Int := let p := s.profPoint n k i; if p = -32768 then 0 else p

/-- Travel in the direction of motion times 127, and DRn.TRAVEL: the quotient is the place among the points (R282). -/
def State.place127 (s : State) (n : Nat) (x : Int) (up : Bool) : Int × Int :=
  let t := s.dp n Idx.DRn_TRAVEL
  (clampInt 0 (127 * t) ((if up then x else t - x) * 127), t)

/-- P(x) for a landing and direction, interpolated linearly between points, 0.1 N (R280). -/
def State.profile (s : State) (n k : Nat) (x : Int) (up : Bool) : Int :=
  let (q, t) := s.place127 n x up
  if k = 0xFF ∨ t ≤ 0 then 0
  else
    let i := (q / t).toNat
    let b := if up then 0 else 128
    let p0 := s.pointForce n k (b + i)
    let p1 := s.pointForce n k (b + min 127 (i + 1))
    p0 + rdiv ((p1 - p0) * (q % t)) t

/-- The mass of the present sequence's landing, 0.1 kg (R280). -/
def State.doorMass (s : State) (n : Nat) : Int :=
  let k := (s.dn n).landing
  let m := if k = 0xFF then 0 else s.par (Idx.DRn_MASSk n k)
  if m = 0 then s.dp n Idx.DRn_MASSDEF else m

/-- F_motor less m·a, in 0.1 N (R280, R282). -/
def State.netForce (s : State) (n : Nat) (iq a m : Int) : Int := rdiv (s.dp n Idx.DRn_KFORCE * iq * 100 - m * a) 1000000

/-! ## Sequences (Table DR-3) -/

/-- Limits of a sequence: speed, acceleration, force, energy. -/
def State.doorLimits (s : State) (n : Nat) (st : DSt) (unl : Bool) : Int × Int × Int × Int :=
  let p := s.dp n
  if st = .learning then (p Idx.DRn_VLEARN, p Idx.DRn_AOPEN, p Idx.DRn_FCLOSE, p Idx.DRn_ENUDGE)
  else if (s.dn n).ref = 0 then (p Idx.DRn_VREF, p Idx.DRn_AOPEN, p Idx.DRn_FCLOSE, p Idx.DRn_ENUDGE)
  else if unl ∨ st = .nudging then (p Idx.DRn_VNUDGE, p Idx.DRn_ACLOSE, p Idx.DRn_FCLOSE, p Idx.DRn_ENUDGE)
  else if st = .closing then (p Idx.DRn_VCLOSE, p Idx.DRn_ACLOSE, p Idx.DRn_FCLOSE, p Idx.DRn_ECLOSE)
  else (p Idx.DRn_VOPEN, p Idx.DRn_AOPEN, p Idx.DRn_FOPEN, p Idx.DRn_EOPEN)

/-- The gates turn on and the slots that a moving or held door needs are asked for (R291). -/
def State.doorDrive (s : State) (n : Nat) : State :=
  (s.wantSlots (doorSlots n [0, 1, 2, 3, 4, 5]) true).modD n fun d => { d with gates := true, measuring := false }

/-- The position reference starts at the measured position when the door does not move (R291). -/
def Door.fromRest (d : Door) : Door :=
  if d.moving then d
  else { d with rpos := d.x * 1000, rvel := 0, stallAt := none, slStart := 0, slAgree := 0, slUse := false }

/-- A sequence starts, or goes on, in direction `dir` (R275, R276, R283). -/
def State.doorGo (s : State) (n : Nat) (st : DSt) (dir : Int) : State :=
  let d := s.dn n
  let up := decide (0 < dir)
  let unl := s.unlearnedDir n d.landing up
  let tell := unl && st != .reversing && st != .learning && !(d.moving && d.dir == dir)
  let s := if tell then s.raise (0x070F + 0x100 * n) 2 d.landing else s
  let (v, a, f, e) := s.doorLimits n st unl
  let full := d.st == (if up then .closed else .open_)
  let t := s.dp n Idx.DRn_TRAVEL
  let tol := s.dp n Idx.DRn_REFTOL
  let s := s.doorDrive n
  s.modD n fun d =>
    let d := d.fromRest
    let far := d.rpos / 1000 + dir * 3100000
    { d with
      st := if d.ref = 0 ∧ st ≠ .learning then .unreferenced else st
      moving := true
      braking := false
      dir := dir
      goal := if d.ref = 0 ∨ st = .learning then far else if up then t else -tol
      limV := v
      limA := a
      limF := f
      limE := e
      unlearned := unl
      obs := 0
      counts := full
      points := if full then List.replicate 128 {} else d.points
      accP := if full then {} else d.accP
      cruP := if full then {} else d.cruP }

/-- What follows a braking that has come to rest (Table DR-2). -/
def State.doorAfter (s : State) (n : Nat) : State :=
  let d := s.dn n
  match d.after with
  | 0 => (s.doorDrive n).modD n fun d => { d.fromRest with moving := false, braking := false, dir := 0, rvel := 0 }
  | 1 => (s.wantSlots (doorSlots n [0, 1, 2, 3, 4, 5]) false).modD n fun d =>
      { d with st := .stopped, gates := false, moving := false, braking := false, dir := 0, rvel := 0 }
  | 2 => s.doorGo n (if d.st = .reversing then .reversing else .opening) 1
  | 3 => s.doorGo n .closing (-1)
  | _ => s.doorGo n .nudging (-1)

/-- The reference brakes at `a`, then `after` follows; a door at rest goes straight on. -/
def State.doorBrake (s : State) (n : Nat) (a : Int) (after : Nat) : State :=
  let s := s.modD n fun d => { d with after := after, counts := false }
  if (s.dn n).moving ∧ (s.dn n).rvel ≠ 0 then s.modD n fun d => { d with braking := true, limA := a }
  else (s.modD n fun d => { d with moving := false }).doorAfter n

/-- A reversal of a closing or nudging door is counted (R289). -/
def State.countReopen (s : State) (n : Nat) : State :=
  s.modD n fun d =>
    if d.st = .closing ∨ d.st = .nudging then
      { d with reopens := min 255 (d.reopens + 1), renudge := d.renudge || d.st == .nudging }
    else d

/-- The learning cycle fails: nothing is written, DOOR_LEARN_FAULT with its cause, and the operator ends STOPPED (R286).
Causes in the order of the rule: 1 obstruction, 2 STOP, 3 car left, 4 travel outside its range, 5 travel differs, 6 mass,
7 DRn.VLEARN not reached (log 22). -/
def State.doorLearnFail (s : State) (n cause : Nat) : State :=
  let s := (s.raise (0x0709 + 0x100 * n) 4 (s.dn n).landing [(1, cause)]).doorVer n
  let s := s.modD n fun d => { d with learn := {} }
  s.doorBrake n (s.dp n Idx.DRn_AREV) 1

/-! ## Commands (R275–R279, R289, R290) -/

/-- The states in which a command is accepted (Table DR-2). -/
def doorAccepts (code : Nat) (st : DSt) : Bool :=
  match code with
  | 1 => [1, 2, 3, 4, 5, 7, 8, 9, 10].contains st.code
  | 2 => [1, 2, 3, 4, 5, 6, 8, 9, 10].contains st.code
  | 3 => [1, 2, 3, 4, 5, 6, 8, 9, 10].contains st.code
  | 4 => [1, 2, 3, 4, 5, 6, 7, 8, 9, 10].contains st.code
  | 5 => [1, 2, 3, 4, 5, 6, 7, 8, 9, 10, 11, 12].contains st.code
  | 6 => [3, 4, 5, 6, 7, 8, 9, 10].contains st.code
  | 7 => [1, 2, 9].contains st.code
  | _ => false

/-- The cause of the last drive fault is still present (R296). -/
def State.faultPresent (s : State) (n : Nat) : Bool :=
  let d := s.dn n
  match s.parN (Idx.DRn_FAULT n) with
  | 1 => d.overs.any fun k => k != 0
  | 3 => decide (2 ≤ d.hallBad)
  | 6 => decide (s.dp n Idx.DRn_TTRIP < d.twind)
  | 7 => (doorSlots n [0, 1, 2, 3, 4, 5]).any fun k => (s.cslot k).fault && !(s.cslot k).restable
  | 10 => s.parBit (Idx.DRn_CFG n) 3 && (decide (d.twind < -400) || decide (2000 < d.twind))
  | _ => false

/-- The checks of R276 in their order, with R296 for a STOP in FAULT; none when the command passes. -/
def State.doorRefusal (s : State) (n code k : Nat) : Option Status :=
  let d := s.dn n
  let needs := code == 1 || code == 6 || code == 7
  if 2 ≤ n ∨ code = 0 ∨ 7 < code then some .range
  else if d.st = .disabled then some .state
  else if k = 0xFF ∧ needs then some .state
  else if k ≠ 0xFF ∧ !(s.present k && s.floorFlag k (1 + n)) then some .state
  else if !doorAccepts code d.st then some .state
  else if code = 5 ∧ d.st = .fault ∧ s.faultPresent n then some .state
  else if needs ∧ !s.parkedAt k ∧ !(code == 1 && d.st == .advance && d.landing == k) then some .state
  else if code ≠ 4 ∧ code ≠ 5 ∧ s.dp n Idx.DRn_TRAVEL = 0 ∧ code ≠ 7 ∧ d.st ≠ .unreferenced then some .state
  else none

/-- OPEN or REOPEN (R289, R295). -/
def State.doorOpenCmd (s : State) (n code k : Nat) : State :=
  let d := s.dn n
  if d.st = .open_ ∨ d.st = .reversing ∨ (d.st = .opening ∧ 0 ≤ d.rvel) then s
  else if d.st = .advance ∧ !s.parkedAt k then s.modD n fun d => { d with arrival := some k }
  else if d.moving ∧ (d.rvel < 0 ∨ d.dir < 0) then
    let s := s.countReopen n
    let un := d.st == .unreferenced
    let s := s.modD n fun d => { d with st := if un then d.st else if code = 6 then .reversing else .opening }
    s.doorBrake n (s.dp n (if code = 6 then Idx.DRn_AREV else Idx.DRn_ACLOSE)) 2
  else s.doorGo n .opening 1

/-- CLOSE or NUDGE, a CLOSE taken as NUDGE once DRn.REOPENS has reached DRn.REOPENMAX or after a nudging has reversed
(R290). -/
def State.doorCloseCmd (s : State) (n code : Nat) : State :=
  let d := s.dn n
  let max_ := s.parN (Idx.DRn_REOPENMAX n)
  let asNudge := code == 2 && ((max_ != 0 && decide (max_ ≤ d.reopens)) || d.renudge)
  let nudge := code == 3 || asNudge
  if d.st = .closed ∨ (nudge ∧ d.st = .nudging) ∨ (!nudge ∧ d.st = .closing) then s
  else
    let s := if asNudge then s.raise (0x0704 + 0x100 * n) 2 d.landing else s
    if d.moving ∧ 0 < d.rvel then s.doorBrake n (s.dp n Idx.DRn_ACLOSE) (if nudge then 4 else 3)
    else s.doorGo n (if nudge then .nudging else .closing) (-1)

/-- STOP (R275, R296). -/
def State.doorStopCmd (s : State) (n : Nat) : State :=
  let d := s.dn n
  if d.st = .fault then
    let code := s.parN (Idx.DRn_FAULT n)
    let un := code == 3 || code == 4 || code == 5
    s.modD n fun d => { d with st := if un then .unreferenced else .stopped, ref := if un then 0 else d.ref, overs := [0, 0, 0] }
  else if d.st = .learning then s.doorLearnFail n 2
  else if d.st = .stopped then s
  else s.doorBrake n (s.dp n Idx.DRn_AREV) 1

/-- LEARN (Table DR-4): step 1, or step 2 for a sensorless operator. -/
def State.doorLearnCmd (s : State) (n : Nat) : State :=
  let s := (s.wantSlots (doorSlots n [0, 1]) true).wantSlots (doorSlots n [2, 3, 4, 5]) false
  s.modD n fun d => { d.fromRest with st := .learning, gates := true, measuring := false, moving := false, dir := 0,
                                      learn := { step := if s.sensorless n then 2 else 1, at_ := s.pwr.opTime } }

/-- An accepted command takes effect: its landing, the sequence version, its action. -/
def State.doorApply (s : State) (n code k : Nat) : State :=
  let s := (s.doorVer n).modD n fun d => { d with landing := if k = 0xFF then d.landing else k }
  match code with
  | 1 => s.doorOpenCmd n 1 k
  | 2 => s.doorCloseCmd n 2
  | 3 => s.doorCloseCmd n 3
  | 4 =>
    let s := s.modD n fun d => { d with st := .holding }
    s.doorBrake n (s.dp n Idx.DRn_ACLOSE) 0
  | 5 => s.doorStopCmd n
  | 6 => s.doorOpenCmd n 6 k
  | _ => s.doorLearnCmd n

/-- The answer to a command's sender at the tick. -/
def State.doorAnswer (s : State) (n : Nat) (src : DSrc) (st : Status) : State :=
  match src with
  | .host tag => match s.flight? tag with
    | some f => s.complete f st 0 [] (st == .accepted)
    | none => s
  | .geyser seq => s.gysAck (1 + n) seq st
  | .group => s
  | .own => s

/-- A command is taken at the tick; where the operator's own reaction stands in that tick, it is accepted with no further
effect (R278). -/
def State.doorTake (s : State) (n : Nat) (reacted : Bool) (c : DCmd) : State :=
  match s.doorRefusal n c.code c.landing with
  | some st => s.doorAnswer n c.src st
  | none =>
    let s := if reacted then s.doorVer n else s.doorApply n c.code c.landing
    s.doorAnswer n c.src .accepted

/-- A command waits for the tick: those of committed groups first (R278); it ends a brake torque test (12 R316). -/
def State.queueDoor (s : State) (n : Nat) (c : DCmd) : State :=
  let s := if s.saf.btPhase ≠ 0 then s.btAbandon else s
  let isG := fun (x : DCmd) => match x.src with | .group => true | _ => false
  s.modD n fun d =>
    { d with cmds := if isG c then d.cmds.filter isG ++ [c] ++ d.cmds.filter (fun x => !isG x) else d.cmds ++ [c] }

/-- DOOR with command `code` (R275): RANGE for an operator above 1; then it waits for the sequencer tick. -/
def State.doorHost (s : State) (code : Nat) (f : Flight) : State :=
  let n := getU f.p 0 1
  if 2 ≤ n ∨ getU f.p 1 1 ≠ code then s.complete f .range
  else (s.setPhase f.d.tag .doorWait).queueDoor n ⟨code, getU f.p 2 1, .host f.d.tag⟩

/-- The command byte of a DOOR descriptor. -/
def State.doorCode (s : State) (tag : Nat) : Nat := getU (s.flight tag).p 1 1

/-- OPEN (R275): also answers RANGE to a DOOR with a reserved command code (R276). -/
def execDoorOpen (tag : Nat) (s : State) : Out :=
  occurs (s.hostReady tag 0x12 && (s.doorCode tag == 1 || s.doorCode tag == 0 || decide (7 < s.doorCode tag))) s <|
    s.hostCmd tag 1 fun s f => s.doorHost 1 f
/-- CLOSE (R275). -/
def execDoorClose (tag : Nat) (s : State) : Out :=
  occurs (s.hostReady tag 0x12 && s.doorCode tag == 2) s <| s.hostCmd tag 1 fun s f => s.doorHost 2 f
/-- NUDGE (R275, R290). -/
def execDoorNudge (tag : Nat) (s : State) : Out :=
  occurs (s.hostReady tag 0x12 && s.doorCode tag == 3) s <| s.hostCmd tag 1 fun s f => s.doorHost 3 f
/-- HOLD (R275). -/
def execDoorHold (tag : Nat) (s : State) : Out :=
  occurs (s.hostReady tag 0x12 && s.doorCode tag == 4) s <| s.hostCmd tag 1 fun s f => s.doorHost 4 f
/-- STOP (R275, R296). -/
def execDoorStop (tag : Nat) (s : State) : Out :=
  occurs (s.hostReady tag 0x12 && s.doorCode tag == 5) s <| s.hostCmd tag 1 fun s f => s.doorHost 5 f
/-- REOPEN (R275, R289). -/
def execDoorReopen (tag : Nat) (s : State) : Out :=
  occurs (s.hostReady tag 0x12 && s.doorCode tag == 6) s <| s.hostCmd tag 1 fun s f => s.doorHost 6 f
/-- LEARN (R275, R286). -/
def execDoorLearn (tag : Nat) (s : State) : Out :=
  occurs (s.hostReady tag 0x12 && s.doorCode tag == 7) s <| s.hostCmd tag 1 fun s f => s.doorHost 7 f

/-- DOOR_REQ (R275): a Geyser door request record with a new sequence number is handed to its operator. -/
def execDoorReq (n : Nat) (s : State) : Out :=
  occurs (s.engines && decide (n < 2) && (s.gysReq (1 + n)).isSome) s <|
    let p := (s.gysReq (1 + n)).getD []
    let seq := getU p 0 2
    let s := s.tookReq (1 + n)
    let code := getU p 2 1
    if code = 0 ∨ 7 < code then s.gysAck (1 + n) seq .range
    else s.queueDoor n ⟨code, getU p 3 1, .geyser seq⟩

/-! ## Advance opening (R293–R295) -/

/-- Point `i` of a cam: distance and door position. -/
def State.camPoint (s : State) (n cam i : Nat) : Int × Int :=
  let t := (if n = 0 then 0x0200 else 0x0210) + cam
  ((s.tblN t (8 + 8 * i) 4 : Nat), (s.tblN t (12 + 8 * i) 4 : Nat))

/-- The cam's door position at a distance, interpolated linearly; beyond the ends the end value (R295). -/
def State.camAt (s : State) (n cam : Nat) (dist : Int) : Nat → Nat → Int
  | 0, i => (s.camPoint n cam i).2
  | k + 1, i =>
    let (d0, p0) := s.camPoint n cam i
    let (d1, p1) := s.camPoint n cam (i + 1)
    if d0 ≤ dist then p0
    else if d1 ≤ dist then p0 + rdiv ((p1 - p0) * (d0 - dist)) (d0 - d1)
    else s.camAt n cam dist k (i + 1)

/-- The cam's door position at the car's present distance from its landing. -/
def State.camGoal (s : State) (n : Nat) : Int :=
  let d := s.dn n
  let c := s.tblN ((if n = 0 then 0x0200 else 0x0210) + d.cam) 0 2
  s.camAt n d.cam (mag (s.level d.landing + s.stretch d.landing - s.carPos)) (c - 1) 0

/-- The operator's request for SOD. -/
def State.sodOf (s : State) (n : Nat) : Option Nat := if n = 0 then s.saf.sodDr0 else s.saf.sodDr1
def State.setSod (s : State) (n : Nat) (k : Option Nat) : State :=
  if n = 0 then { s with saf.sodDr0 := k } else { s with saf.sodDr1 := k }

/-- The conditions of R294 for an advance opening; the landing of the move. -/
def State.advanceAt (s : State) (n : Nat) : Option Nat :=
  match s.hst.target with
  | some t =>
    if t.landing ≠ 0xFF && t.flags.testBit 2 && t.flags.testBit n && s.parN (Idx.DRn_CAMSEL n) != 0xFF &&
        s.floorFlag t.landing (1 + n) && s.inFlag t.landing && decide (mag s.hst.vf ≤ s.parN (Idx.DRn_VADV n)) then some t.landing
    else none
  | none => none

/-- The states from which an operator enters ADVANCE. -/
def advanceFrom (st : DSt) : Bool := st == .closed || st == .holding || st == .stopped

/-- SOD is requested, and ADVANCE entered at the first tick that finds it confirmed closed (R294). -/
def State.doorAdvance (s : State) (n : Nat) : State :=
  let d := s.dn n
  match s.sodOf n with
  | none => match s.advanceAt n with
    | some k => if advanceFrom d.st && d.ref != 0 && !s.parkedAt k then s.setSod n (some k) else s
    | none => s
  | some k =>
    if d.st = .advance then s
    else if advanceFrom d.st ∧ s.soClosed 3 then
      let cam := s.parN (Idx.DRn_CAMSEL n)
      let s := (s.raise (0x070C + 0x100 * n) 1 k).doorVer n
      let s := s.modD n fun d => { d with landing := k, cam := cam }
      (s.doorGo n .advance 1).modD n fun d => { d with counts := false }
    else if (s.advanceAt n).isNone then s.setSod n none else s

/-! ## The sequencer tick (R278) -/

/-- The winding temperature: DOOR_TEMP_WARN once per episode, NTC_OPEN, and the time above DRn.TTRIP (R296). -/
def State.doorTemp (s : State) (n ohm : Nat) : State :=
  if !s.parBit (Idx.DRn_CFG n) 3 then s.modD n fun d => { d with hotSince := none, hotAt := none, warned := false }
  else
    let t := Config.ntcTemp ohm (s.parN (Idx.DRn_NTCB n))
    let warn := s.dp n Idx.DRn_TWARN
    let told := (s.dn n).warned
    let s := if warn < t ∧ !told then s.raise (0x070B + 0x100 * n) 3 0xFF [(2, t)] else s
    s.modD n fun d =>
      { d with
        twind := t
        warned := decide (warn < t) || (told && decide (warn - 50 ≤ t))
        hotSince := if s.dp n Idx.DRn_TTRIP < t then some (d.hotSince.getD s.pwr.opTime) else none
        hotAt := if s.dp n Idx.DRn_TTRIP < t then d.hotAt else none
        pendFault := if t < -400 ∨ 2000 < t then some (d.pendFault.getD 10) else d.pendFault }

/-- ENABLE takes effect: CLOSED or UNREFERENCED with the offsets to be measured first, or DISABLED (R268, R273, R274). -/
def State.doorEnable (s : State) (n : Nat) : State :=
  let en := s.parBit (Idx.DRn_CFG n) 0
  let d := s.dn n
  if en ∧ d.st = .disabled then
    let closed := s.swActive n (Idx.DRn_DCFIO n) 0
    s.modD n fun d =>
      { d with st := if closed then .closed else .unreferenced, ref := if closed then 1 else 0, measuring := true,
               theta0 := if closed then d.theta else d.theta0, x := if closed then 0 else d.x,
               x8 := if closed then 0 else d.x8, restAt := s.pwr.opTime, held := false, landing := 0xFF, reopens := 0 }
  else if !en ∧ d.st ≠ .disabled then
    (s.wantSlots (doorSlots n [0, 1, 2, 3, 4, 5]) false).modD n fun d =>
      { d with st := .disabled, gates := false, measuring := false, moving := false, dir := 0, ref := 0, rvel := 0 }
  else s

/-- A drive fault that acts at this tick: one found, or WINDING_TEMP at an end state or 10 s after its detection (R296). -/
def State.faultNow (s : State) (n : Nat) : Option Nat :=
  let d := s.dn n
  match d.pendFault, d.hotAt with
  | some c, _ => some c
  | none, some t => if d.st = .closed ∨ d.st = .open_ ∨ t + 10000 ≤ s.pwr.opTime then some 6 else none
  | none, none => none

/-- The operator acts on a qualified obstruction (R288, R286). -/
def State.doorObstructed (s : State) (n : Nat) : State :=
  let d := s.dn n
  let s := s.modD n fun d => { d with obstructed := none, obs := 0 }
  if d.st = .learning then (s.bump (Idx.DRn_OBSCOUNT n)).doorLearnFail n 1
  else
    let s := (s.bump (Idx.DRn_OBSCOUNT n)).doorVer n
    if d.dir < 0 then
      let s := s.countReopen n
      let s := s.modD n fun d => { d with st := if d.ref = 0 then d.st else .reversing }
      s.doorBrake n (s.dp n Idx.DRn_AREV) 2
    else
      let s := (s.setSod n none).modD n fun d => { d with st := .holding }
      s.doorBrake n (s.dp n Idx.DRn_ACLOSE) 0

/-- SOD has opened in ADVANCE before the car is parked (R295). -/
def State.sodLost (s : State) (n : Nat) : State :=
  let k := (s.dn n).landing
  let s := ((s.raise (0x070D + 0x100 * n) 3 k).doorVer n).setSod n none
  let s := s.modD n fun d => { d with st := .holding, resume := some k }
  s.doorBrake n (s.dp n Idx.DRn_AREV) 0

/-- The operator's own reactions of the tick, and whether one took place (R278, R20). -/
def State.doorReact (s : State) (n : Nat) : State × Bool :=
  let d := s.dn n
  if d.st = .disabled ∨ d.st = .fault then (s.modD n fun d => { d with pendFault := none, obstructed := none }, false)
  else match s.faultNow n with
    | some c => (s.doorFault n c, true)
    | none =>
      if d.obstructed.isSome ∧ d.moving then (s.doorObstructed n, true)
      else if d.st = .advance ∧ !s.soClosed 3 ∧ !s.parkedAt d.landing then (s.sodLost n, true)
      else (s.modD n fun d => { d with obstructed := none }, false)

/-- An OPEN that the operator takes by itself for a landing, when R276 permits it. -/
def State.doorOwnOpen (s : State) (n k : Nat) : State :=
  match s.doorRefusal n 1 k with
  | some _ => s
  | none => s.doorApply n 1 k

/-- The OPEN of the arrival flags, of a resumed advance, and of Geyser's application fault or stop (R279, R295; 08 Tables
GYS-8, GYS-9). -/
def State.doorArrivals (s : State) (n : Nat) : State :=
  let d := s.dn n
  let s : State := match d.arrival with
    | some k => if s.parkedAt k ∧ s.brakesApplied then
        ((s.modD n fun d => { d with arrival := none }).setSod n none).doorOwnOpen n k else s
    | none => s
  let s : State := match d.resume with
    | some k => if s.parkedAt k then (s.modD n fun d => { d with resume := none }).doorOwnOpen n k else s
    | none => s
  if s.gys.st = 2 ∨ s.gys.st = 3 then
    match s.parkedLanding with
    | some k => if s.floorFlag k (1 + n) ∧ !(s.dn n).moving ∧ (s.dn n).st ≠ .open_ then s.doorOwnOpen n k else s
    | none => s
  else s

/-- The reference's speed at the end of a tick: a braking reference goes to rest, another toward its goal under its limits of
speed and acceleration (R281; log 8). -/
def refSpeed (d : Door) : Int :=
  let dv := max 1 (rdiv d.limA 2000)
  let want : Int :=
    if d.braking then 0
    else
      let dist := d.goal * 1000 - d.rpos
      let stop : Int := isqrt (2 * d.limA * (mag dist : Int) / 1000).toNat
      sgn dist * min d.limV stop
  d.rvel + clampInt (-dv) dv (want - d.rvel)

/-- The reference moves on by 500 µs. -/
def State.doorRefStep (s : State) (n : Nat) : State :=
  let d := s.dn n
  if !d.moving || (s.sensorless n && decide (d.slStart < 1600) && !d.slUse) then s
  else
    let v := refSpeed d
    let p := d.rpos + rdiv (d.rvel + v) 4
    let g := d.goal * 1000
    if d.braking then
      let s := s.modD n fun d => { d with rpos := p, rvel := v }
      if v = 0 then s.doorAfter n else s
    else if (g - p) * (g - d.rpos) ≤ 0 ∧ mag v ≤ mag (rdiv d.limA 1000) then
      s.modD n fun d => { d with rpos := g, rvel := 0 }
    else s.modD n fun d => { d with rpos := p, rvel := v }

/-- The estimates of the period just ended (R280). -/
def State.doorEstimate (s : State) (n : Nat) : State :=
  let d := s.dn n
  let iq := if d.iqN = 0 then d.iqMean else rdiv d.iqSum d.iqN
  let a := (d.v - d.vPrev) * 2000
  let m := s.doorMass n
  let net := s.netForce n iq a m - (if d.unlearned then 0 else s.profile n d.landing d.x (decide (0 < d.dir)))
  s.modD n fun d => { d with iqMean := iq, iqSum := 0, iqN := 0, acc := a, vPrev := d.v, force := d.dir * net,
                             energy := rdiv (m * d.v * d.v) (2 * 10 ^ 10) }

/-- A sample added to point `i`. -/
def addPoint (ps : List DPoint) (i : Nat) (f : Int) : List DPoint :=
  modifyAt ps i fun p => { sum := p.sum + f, n := p.n + 1 }

/-- The profile point nearest to a position in the direction of motion (R282). -/
def State.nearestPoint (s : State) (n : Nat) (x : Int) (up : Bool) : Nat :=
  let (q, t) := s.place127 n x up
  if t ≤ 0 then 0 else (rdiv q t).toNat

/-- The measurements of a pass, of its acceleration and cruise, and of a learning cycle (R282–R284, Table DR-4). -/
def State.doorMeasure (s : State) (n : Nat) : State :=
  let d := s.dn n
  if !d.moving then s
  else
    let up := decide (0 < d.dir)
    let f := s.netForce n d.iqMean d.acc (s.doorMass n)
    let fm := s.netForce n d.iqMean 0 0
    let i := s.nearestPoint n d.x up
    let curtain := s.swActive n (Idx.DRn_LCFIO n) 2
    let acc := up && !d.braking && decide (d.rvel < d.limV)
    let cru := up && !d.braking && decide (d.rvel = d.limV) && decide (9 * d.limV ≤ 10 * d.v)
    s.modD n fun d =>
      let l := d.learn
      { d with
        counts := d.counts && !curtain
        points := addPoint d.points i f
        accP := if acc && d.cruP.n == 0 then { sum := d.accP.sum + fm, n := d.accP.n + 1 } else d.accP
        cruP := if cru then { sum := d.cruP.sum + fm, n := d.cruP.n + 1 } else d.cruP
        learn := { l with up := if l.step = 3 then (fm, d.acc, d.x) :: l.up else l.up,
                          down := if l.step = 4 then (fm, d.acc, d.x) :: l.down else l.down,
                          reached := l.reached || (l.step == 3 && decide (s.dp n Idx.DRn_VLEARN ≤ d.v + 5000)) } }

/-- The mass from the mean forces of acceleration and cruise, 0.1 kg (Table DR-4 step 3). -/
def State.massOf (s : State) (n : Nat) (a c : DPoint) : Int :=
  if a.n = 0 ∨ c.n = 0 then 0
  else rdiv ((a.sum * c.n - c.sum * a.n) * 1000000) (s.dp n Idx.DRn_AOPEN * a.n * c.n)

/-- Step 3 of the learning cycle has come to its stop: travel and mass are checked, and step 4 begins (R286). -/
def State.doorLearnStop (s : State) (n : Nat) : State :=
  let d := s.dn n
  let t := s.dp n Idx.DRn_TRAVEL
  let m := s.massOf n d.accP d.cruP
  if !d.learn.reached then s.doorLearnFail n 7
  else if d.x < 100000 ∨ 3000000 < d.x then s.doorLearnFail n 4
  else if t ≠ 0 ∧ s.dp n Idx.DRn_REFTOL < mag (d.x - t) then s.doorLearnFail n 5
  else if m < 50 ∨ 5000 < m then s.doorLearnFail n 6
  else
    let s := s.modD n fun d => { d with learn := { d.learn with step := 4, travel := d.x, mass := m }, moving := false }
    s.doorGo n .learning (-1)

/-- Step 3 begins. -/
def State.doorLearnOpen (s : State) (n : Nat) : State :=
  let s := s.modD n fun d => { d with learn := { d.learn with step := 3, up := [], slow := 0 }, moving := false, accP := {}, cruP := {} }
  s.doorGo n .learning 1

/-- The learning cycle at a tick (Table DR-4). -/
def State.doorLearnTick (s : State) (n : Nat) : State :=
  let d := s.dn n
  if d.st ≠ .learning then s
  else if !s.parkedAt d.landing then s.doorLearnFail n 3
  else match d.learn.step with
    | 1 =>
      if d.learn.at_ + 50 ≤ s.pwr.opTime then s.modD n fun d => { d with learn := { d.learn with step := 2, code := d.hall } }
      else s
    | 2 =>
      if d.moving then s
      else if s.swActive n (Idx.DRn_DCFIO n) 0 then
        (s.modD n fun d => { d with theta0 := d.theta, x := 0, x8 := 0, ref := 1 }).doorLearnOpen n
      else (s.doorGo n .learning (-1)).modD n fun d => { d with limV := s.dp n Idx.DRn_VREF }
    | 3 =>
      let slow := if mag d.v < 5000 then d.learn.slow + 1 else 0
      let s := s.modD n fun d => { d with learn := { d.learn with slow := slow } }
      if 400 ≤ slow then s.doorLearnStop n else s
    | _ => s

/-- The hold demand toward the stop in an end state (R291, R292). -/
def State.holdDemand (s : State) (n : Nat) : Int :=
  let d := s.dn n
  let i := if d.held then s.dp n Idx.DRn_IHOLD else s.dp n Idx.DRn_IENDRUN
  let i := if d.boosting then max i (s.dp n Idx.DRn_IBOOST) else i
  if d.st = .closed then -i else if d.st = .open_ then i else 0

/-- The input registers of the operator's slots for the next period (10 R242, Table CLE-1). -/
def State.doorInputs (s : State) (n : Nat) : State :=
  let d := s.dn n
  let align := d.learn.step == 1 || (s.sensorless n && d.moving && !d.slUse)
  let hold := s.holdDemand n
  let k := 6 * n
  let s := s.modSlotC k fun c => { c with wIn := if align then s.dp n Idx.DRn_IALIGN else 0 }
  let s := s.modSlotC (k + 1) fun c => { c with wIn := hold }
  let s := s.modSlotC (k + 3) fun c => { c with wIn := rdiv d.rpos 1000, yIn := d.x, fIn := d.rvel }
  let s := s.modSlotC (k + 4) fun c => { c with wIn := d.limF, yIn := d.force }
  s.modSlotC (k + 5) fun c => { c with wIn := d.limE, yIn := d.energy }

/-- Rest at an end, and the travel that STALL watches (R274, R296). -/
def State.doorRest (s : State) (n : Nat) : State :=
  let d := s.dn n
  let slow := decide (mag d.v < 5000)
  let c := s.swActive n (Idx.DRn_DCFIO n) 0
  let o := (d.ref != 0 && s.dp n Idx.DRn_TRAVEL != 0 && decide (s.dp n Idx.DRn_TRAVEL - s.dp n Idx.DRn_REFTOL ≤ d.x)) ||
    s.swActive n (Idx.DRn_DOFIO n) 1
  s.modD n fun d =>
    { d with
      restC := if slow && c then d.restC + 1 else 0
      restO := if slow && o then d.restO + 1 else 0
      stallAt := if !d.moving then none else match d.stallAt with
        | some (t, x) => if 1000 ≤ mag (d.x - x) then some (s.pwr.opTime, d.x) else some (t, x)
        | none => some (s.pwr.opTime, d.x) }

/-- One operator's sequencer tick. -/
def State.doorTick (s : State) (n ohm : Nat) : State :=
  let s := (s.doorTemp n ohm).doorEnable n
  let (s, reacted) := s.doorReact n
  let cs := (s.dn n).cmds
  let s := s.modD n fun d => { d with cmds := [] }
  let s := cs.foldl (fun s c => s.doorTake n reacted c) s
  let s := if reacted then s else (s.doorArrivals n).doorAdvance n
  let s := if (s.dn n).st = .advance then (let g := s.camGoal n; s.modD n fun d => { d with goal := g }) else s
  let s := (s.doorEstimate n).doorMeasure n
  let s := (s.doorLearnTick n).doorRefStep n
  (s.doorRest n).doorInputs n

/-- SEQUENCER_TICK (R278): every 500 µs both sequencers act; `ntc0`, `ntc1` are the winding NTCs' resistances in Ω. -/
def execSequencerTick (ntc0 ntc1 : Nat) (s : State) : Out :=
  occurs s.engines s ((s.doorTick 0 ntc0).doorTick 1 ntc1)

/-- OFFSET_MEASURED (R268): 200 µs after an enable the sense offsets, µV after the calibration trims, are checked; the gates
and slots 0 and 1 are released. -/
def execOffsetMeasured (n : Nat) (ofsU ofsV : Int) (heldUs : Nat) (s : State) : Out :=
  occurs (s.doorLive n && (s.dn n).measuring && decide (200 ≤ heldUs)) s <|
    let s := s.modD n fun d => { d with measuring := false }
    if 20000 < mag ofsU ∨ 20000 < mag ofsV then s.modD n fun d => { d with pendFault := some 8 }
    else (s.wantSlots (doorSlots n [0, 1]) true).modD n fun d => { d with gates := true }

/-! ## Switch edges (R273) -/

/-- The axis is moved so that the present position `xe` of an edge reads `to`. -/
def State.doorShift (s : State) (n : Nat) (xe to_ : Int) : State :=
  let dx := to_ - xe
  let dth := rdiv (s.doorSign n * dx * 6553600) (s.dp n Idx.DRn_EREVTRV)
  s.modD n fun d => { d with theta0 := d.theta0 - dth, x := d.x + dx, x8 := d.x8 + dx, rpos := d.rpos + dx * 1000,
                             hist := d.hist.map fun p => (p.1, p.2 + dx) }

/-- DOOR_REF_DRIFT with the deviation; the cycle is not learned (R273). -/
def State.doorDrift (s : State) (n : Nat) (dev : Int) : State :=
  (s.raise (0x0706 + 0x100 * n) 3 0xFF [(4, dev)]).modD n fun d => { d with counts := false }

/-- The axis becomes referenced: DOOR_REFERENCED, and an unreferenced move goes on as a normal sequence. -/
def State.doorReferenced (s : State) (n which : Nat) : State :=
  let old := (s.dn n).ref
  let s := s.modD n fun d => { d with ref := which }
  if old ≠ 0 then s
  else
    let s := s.raise (0x0705 + 0x100 * n) 1 0xFF [(1, which)]
    if (s.dn n).st = .unreferenced ∧ (s.dn n).moving ∧ !(s.dn n).braking then
      s.doorGo n (if which = 1 then .closing else .opening) (if which = 1 then -1 else 1)
    else s

/-- DOOR_SWITCH_EDGE (R273): the operator takes the oldest delivered edge of its closed or open switch. -/
def execDoorSwitchEdge (n : Nat) (s : State) : Out :=
  occurs (s.engines && decide (n < 2) && !(s.dn n).edges.isEmpty) s <|
    match (s.dn n).edges with
    | [] => s
    | (k, e) :: rest =>
      let s := s.modD n fun d => { d with edges := rest }
      let d := s.dn n
      let xe := (interpolate e.at_ d.hist).getD d.x
      let tol := s.dp n Idx.DRn_REFTOL
      let active := e.rising != s.parBit (Idx.DRn_INPOL n) k
      if !active ∨ d.st = .disabled then s
      else if k = 0 ∧ d.dir < 0 then
        let s := if d.ref ≠ 0 ∧ tol < mag xe then s.doorDrift n xe else s
        let s := s.doorShift n xe 0
        let s := s.doorReferenced n 1
        if d.learn.step = 2 then s.doorLearnOpen n else s
      else if k = 1 ∧ 0 < d.dir then
        let s := if d.learn.step = 3 then s.modD n fun d => { d with learn := { d.learn with edge := xe } } else s
        let at_ := s.dp n Idx.DRn_DOEDGE
        if d.st = .learning then s
        else if d.ref = 0 then (s.doorShift n xe at_).doorReferenced n 2
        else if tol < mag (xe - at_) then s.doorDrift n (xe - at_) else s
      else s

/-! ## End states (R274, R283, R284, R291) -/

/-- The measured value of a point; a point without a sample keeps what is stored. -/
def DPoint.mean (p : DPoint) (old : Int) : Int := if p.n = 0 then old else rdiv p.sum p.n

/-- One point after a cycle: stored directly in an unlearned direction, else moved toward the measurement within its
envelope (R283, R284). -/
def State.newPoint (s : State) (n : Nat) (unl : Bool) (old m : Int) : Int :=
  let top := s.dp n Idx.DRn_PMAXF
  if m = -32768 then m
  else if unl ∨ old = -32768 then clampInt (-top) top m
  else
    let st := s.dp n Idx.DRn_PSTEP
    clampInt (-top) top (old + clampInt (-st) st (rdiv (s.dp n Idx.DRn_PGAIN * (m - old)) 65536))

/-- A complete pass is learned: the mass of a first opening, the points of the direction (R283, R284). -/
def State.learnPass (s : State) (n : Nat) (up : Bool) : State :=
  let d := s.dn n
  let k := d.landing
  if !d.counts || k == 0xFF then s
  else
    let m := s.massOf n d.accP d.cruP
    let s := if up ∧ s.parBit (Idx.DRn_CFG n) 6 ∧ s.par (Idx.DRn_MASSk n k) = 0 ∧ 50 ≤ m ∧ m ≤ 5000 then
      s.setOwn (Idx.DRn_MASSk n k) m else s
    let b := if up then 0 else 128
    let unl := s.unlearnedDir n k up
    let old := (List.range 128).map fun i => s.profPoint n k (b + i)
    let new := (d.points.zip old).map fun p => p.1.mean p.2
    let bad := (new.zip old).any fun p => p.2 != -32768 && p.1 != -32768 && decide (s.dp n Idx.DRn_PREJ < mag (p.1 - p.2))
    if !unl ∧ !s.parBit (Idx.DRn_CFG n) 5 then s
    else if !unl ∧ bad then s.raise (0x0710 + 0x100 * n) 0 k
    else
      let bs := (new.zip old).flatMap fun p => le 2 (s.newPoint n unl p.2 p.1)
      (s.tblWrite (0x0300 + n) (512 * k + 2 * b) bs).modD n fun d => { d with learned := true }

/-- An end state is entered: slots 2–5 disabled, the end hold begins (R291). -/
def State.endHold (s : State) (n : Nat) (st : DSt) : State :=
  let s := ((s.wantSlots (doorSlots n [2, 3, 4, 5]) false).wantSlots (doorSlots n [0, 1]) true).doorVer n
  let s := s.modD n fun d => { d with st := st, moving := false, braking := false, dir := 0, rvel := 0, restAt := s.pwr.opTime,
                                      held := false, boosting := false, stallAt := none, counts := false, gates := true }
  s.doorInputs n

/-- Points of a learning step from its samples with the new mass and travel (Table DR-4 steps 4 and 5). -/
def State.learnPoints (s : State) (n : Nat) (l : DLearn) (up : Bool) : List Int :=
  let ps := (if up then l.up else l.down).foldl (fun ps (q : Int × Int × Int) =>
    let pos := if up then q.2.2 else l.travel - q.2.2
    let i := (rdiv (clampInt 0 (127 * l.travel) (pos * 127)) (max 1 l.travel)).toNat
    addPoint ps i (q.1 - rdiv (l.mass * q.2.1) 1000000)) (List.replicate 128 {})
  let top := s.dp n Idx.DRn_PMAXF
  ps.map fun p => if p.n = 0 then -32768 else clampInt (-top) top (rdiv p.sum p.n)

/-- The learning cycle succeeds: travel, edge, mass, profile and HALLOFS are written together (R286). -/
def State.doorLearned (s : State) (n : Nat) : State :=
  let d := s.dn n
  let l := d.learn
  let k := d.landing
  let s := (s.setOwn (Idx.DRn_TRAVEL n) l.travel).setOwn (Idx.DRn_DOEDGE n) (clampInt 0 3000000 l.edge)
  let s := s.setOwn (Idx.DRn_MASSk n k) l.mass
  let s := if s.sensorless n then s else s.setOwn (Idx.DRn_HALLOFS n) (Config.hallOffset l.code % 65536 : Nat)
  let bs := (s.learnPoints n l true ++ s.learnPoints n l false).flatMap fun v => le 2 v
  let s := (s.tblWrite (0x0300 + n) (512 * k) bs).tblChanged (0x0300 + n)
  let s := s.raise (0x0708 + 0x100 * n) 2 k [(4, l.travel), (2, l.mass)]
  s.modD n fun d => { d with learn := {} }

/-- The car load as a door opens at a landing is kept for the boarding sums (15 R400). -/
def State.noteOpen (s : State) : State :=
  if s.dsp.openKg.isSome then s else { s with dsp.openKg := some s.loadKg.toNat }

/-- The load increase of an opening belongs to the notices of the landing whose window runs (15 R400). -/
def State.noteBoarding (s : State) : State :=
  match s.dsp.openKg with
  | none => s
  | some kg =>
    let inc := s.loadKg.toNat - kg
    let win := s.parN Idx.DSP_SURGEWIN * 1000000
    { s with dsp.openKg := none, dsp.notices := s.dsp.notices.map fun x =>
        if s.parkedAt x.landing ∧ x.ta ≤ s.rng.time ∧ s.rng.time ≤ x.ta + win ∧ !x.sent then { x with kg := x.kg + inc } else x }

/-- DOOR_CLOSED (R274): the closed switch active with the door at rest for 100 ms. -/
def execDoorClosed (n : Nat) (s : State) : Out :=
  let d := s.dn n
  occurs (s.engines && decide (n < 2) && decide (200 ≤ d.restC) && d.moving && decide (d.dir < 0) && !d.braking &&
      (d.st == .closing || d.st == .nudging || d.st == .unreferenced || (d.st == .learning && d.learn.step == 4))) s <|
    let learning := d.st == .learning
    let s := if learning then s.doorLearned n else s.learnPass n false
    let s := if d.wasOpen then s.bump (Idx.DRn_CYCLES n) else s
    let s := s.raise (0x0702 + 0x100 * n) 1 d.landing
    let s := s.modD n fun d => { d with reopens := 0, renudge := false, wasOpen := false }
    let s := if s.dr0.wasOpen || s.dr1.wasOpen then s else s.noteBoarding
    s.endHold n .closed

/-- The door is at its open stop and at rest. -/
def State.openedReady (s : State) (n : Nat) : Bool :=
  let d := s.dn n
  s.engines && decide (n < 2) && decide (200 ≤ d.restO) && d.moving && decide (0 < d.dir) && !d.braking &&
    (d.st == .opening || d.st == .reversing || d.st == .unreferenced)

/-- The operator enters OPEN (R274, R284). -/
def State.doorOpened (s : State) (n : Nat) : State :=
  let s := (s.learnPass n true).raise (0x0701 + 0x100 * n) 1 (s.dn n).landing
  let s := s.noteOpen.modD n fun d => { d with wasOpen := true }
  s.endHold n .open_

/-- HOLD_DELAY_EXPIRED (R291): after DRn.HOLDDLY at rest in an end state the hold demand falls to DRn.IHOLD. -/
def execHoldDelayExpired (n : Nat) (s : State) : Out :=
  let d := s.dn n
  occurs (decide (n < 2) && (d.st == .closed || d.st == .open_) && !d.held &&
      decide (d.restAt + s.parN (Idx.DRn_HOLDDLY n) ≤ s.pwr.opTime)) s
    ((s.modD n fun d => { d with held := true }).doorInputs n)

/-- A train-arrival window in force: its landing is the car's, in an end state (R292). -/
def State.boostNow (s : State) (n : Nat) : Bool :=
  let d := s.dn n
  (d.st == .closed || d.st == .open_) &&
    d.windows.any fun w => s.parkedAt w.landing && decide (w.lo ≤ s.rng.time) && decide (s.rng.time < w.hi)

/-- DOOR_BOOST (R292): a window starts, and the hold demand is raised. -/
def execDoorBoost (n : Nat) (s : State) : Out :=
  occurs (s.engines && decide (n < 2) && !(s.dn n).boosting && s.boostNow n) s <|
    let s := s.raise (0x070E + 0x100 * n) 0 (s.parkedLanding.getD 0xFF)
    (s.modD n fun d => { d with boosting := true }).doorInputs n

/-- BOOST_END (R292): no window is in force any more, the car has left, or the end state has ended. -/
def execBoostEnd (n : Nat) (s : State) : Out :=
  occurs (decide (n < 2) && (s.dn n).boosting && !s.boostNow n) s <|
    (s.modD n fun d => { d with boosting := false, windows := d.windows.filter fun w => decide (s.rng.time < w.hi) }).doorInputs n

/-- DOOR_PROFILE_SAVED (R285): a learned profile is written to MRAM as a device change of origin 2. -/
def State.saveProfile (s : State) (n : Nat) : State :=
  ((s.tblChanged (0x0300 + n)).raise (0x070A + 0x100 * n) 0).modD n fun d => { d with learned := false }

/-- DOOR_PROFILE_SAVED (R285). -/
def execDoorProfileSaved (n : Nat) (s : State) : Out :=
  occurs (decide (n < 2) && (s.dn n).learned) s (s.saveProfile n)

/-- WINDING_TEMP (R296): above DRn.TTRIP for 1 s; it acts at the sequencer tick, at an end state or after 10 s. -/
def execWindingTemp (n : Nat) (s : State) : Out :=
  occurs (s.doorLive n && (s.dn n).hotAt.isNone &&
      (match (s.dn n).hotSince with | some t => decide (t + 1000 ≤ s.pwr.opTime) | none => false)) s
    (s.modD n fun d => { d with hotAt := some s.pwr.opTime })

/-- STALL (R296): a moving sequence with less than 1 mm of travel in 3 s and no obstruction qualified. -/
def execStall (n : Nat) (s : State) : Out :=
  occurs (s.doorLive n && (s.dn n).moving && (s.dn n).obstructed.isNone &&
      (match (s.dn n).stallAt with | some (t, _) => decide (t + 3000 ≤ s.pwr.opTime) | none => false)) s
    (s.modD n fun d => { d with pendFault := some (d.pendFault.getD 9) })

/-! ## The device's states (R297) -/

/-- DORMANT entry: hold demand removed, gates off, profiles saved; the state reads CLOSED (R285, R297). -/
def State.doorsDormant (s : State) : State :=
  [0, 1].foldl (fun s n =>
    let s := if (s.dn n).learned then s.saveProfile n else s
    s.modD n fun d => { d with gates := false, boosting := false }) s

/-- Wake: the end hold is restored; with the closed switch inactive DOOR_REF_DRIFT and UNREFERENCED (R297). -/
def State.doorsWake (s : State) : State :=
  [0, 1].foldl (fun s n =>
    if (s.dn n).st ≠ .closed then s
    else if s.swActive n (Idx.DRn_DCFIO n) 0 then
      ((s.wantSlots (doorSlots n [0, 1]) true).modD n fun d => { d with gates := true }).doorInputs n
    else (s.doorDrift n (s.dn n).x).modD n fun d => { d with st := .unreferenced, ref := 0 }) s

end Sys2Proof.Machine
end

