-- ==== Sys2Proof/Machine/Fio.lean ====
section
/-!
DEFINITION. The field channels (13_field_channels.md): filtered edges and their delivery, the image, readback, the backfeed
probe, current limit and thermal shutdown, aggregate supervision, and the application of a field-output word.
-/
namespace Sys2Proof.Machine

/-- A channel. -/
def State.fch (s : State) (n : Nat) : FCh := s.fio.ch.getD n {}

/-- A channel changed. -/
def State.modFch (s : State) (n : Nat) (f : FCh → FCh) : State := { s with fio.ch := modifyAt s.fio.ch n f }

/-- Mode of a channel (Table FIO-1). -/
def State.fmode (s : State) (n : Nat) : Nat := s.parN (Idx.FIO_CnCFG n) % 8

/-- The channel is an input, continuous or pulsed. -/
def State.isInput (s : State) (n : Nat) : Bool := let m := s.fmode n; decide (1 ≤ m) && decide (m ≤ 4)

/-- The channel is an output. -/
def State.isOutput (s : State) (n : Nat) : Bool := s.fmode n == 5

/-- N of the filter (R336): T_s is 31.25 µs in modes 1 and 2, 1 ms in modes 3 and 4. -/
def State.filterN (s : State) (n : Nat) : Nat :=
  let us := s.parN (Idx.FIO_CnFILT n)
  max 1 (if s.fmode n ≤ 2 then (us * 4 + 124) / 125 else (us + 999) / 1000)

/-- FILTERED_EDGE (R336, R337): the raw state opposite to the filtered one has held for `count` samples, the first at ring
time `at_`; the state changes and its edge is queued, the ninth of a tick only counted. -/
def execFilteredEdge (n count at_ : Nat) (s : State) : Out :=
  let c := s.fch n
  occurs (s.engines && decide (n < 48) && s.isInput n && !c.preset && decide (s.filterN n ≤ count)) s <|
    s.modFch n fun c =>
      let up := !c.state
      if c.edges.length < 8 then { c with state := up, raw := up, edges := c.edges ++ [⟨at_, up⟩] }
      else { c with state := up, raw := up, extra := c.extra + 1, overrun := true }

/-! ## The tick (R337, R338, R340) -/

/-- A delivered edge reaches the blocks that name its channel (R337). -/
def State.deliverEdge (s : State) (n : Nat) (e : FEdge) : State :=
  let s := s.setOwn (if e.rising then Idx.FIO_CnRISE n else Idx.FIO_CnFALL n) e.at_
  let s := s.learnEdge n e
  [0, 1].foldl (fun s k =>
    let put := fun (s : State) (w : Nat) => s.modD k fun d => { d with edges := d.edges ++ [(w, e)] }
    let s := if s.parN (Idx.DRn_DCFIO k) = n then put s 0 else s
    let s := if s.parN (Idx.DRn_DOFIO k) = n then put s 1 else s
    if s.parN (Idx.DRn_LCFIO k) = n ∧ e.rising ≠ s.parBit (Idx.DRn_INPOL k) 2 then s.obstruct (k == 0) 2 else s) s

/-- A channel's edges since the previous tick, in order, with their count (R337). -/
def State.deliverChannel (s : State) (n : Nat) : State :=
  let c := s.fch n
  if c.edges.isEmpty ∧ c.extra = 0 then s
  else
    let s := c.edges.foldl (fun s e => s.deliverEdge n e) s
    let s := s.bump (Idx.FIO_CnEDGES n) (c.edges.length + c.extra)
    let s := if c.extra = 0 then s else s.learnOverrun n
    s.modFch n fun c => { c with edges := [], extra := 0 }

/-- An input's raw value of the tick, and the preset after a restart of its filter (R333, R335, R348). -/
def State.sampleChannel (s : State) (n : Nat) (raw : Nat) : State :=
  if !s.isInput n then s
  else
    let v := raw.testBit n != s.parBit (Idx.FIO_CnCFG n) 3
    s.modFch n fun c => { c with raw := v, state := if c.preset then v else c.state, preset := false }

/-- An output's readback, current and limit at the tick (R340, R343); while a sag trip holds the outputs off, the retry timers and
counts stand still (R347). -/
def State.readback (s : State) (n : Nat) (nodes lim mA : Nat) : State :=
  let now := s.pwr.opTime
  if !s.isOutput n then s.modFch n fun c => { c with cur := 0, suspect := false, limiting := false, limMs := 0 }
  else if s.fio.held then
    s.modFch n fun c => { c with cur := mA, node := nodes.testBit n, shutAt := c.shutAt.map (· + 1), onAt := c.onAt + 1 }
  else
    s.modFch n fun c =>
      let l := lim.testBit n
      let c := { c with cur := mA, limiting := l, limMs := if l then c.limMs + 1 else 0, limTold := c.limTold && l,
                        retries := if c.on && decide (c.onAt + 60000 ≤ now) then 0 else c.retries }
      if now < c.cmdAt + 2 then c
      else
        let v := nodes.testBit n
        let bad := v && !c.cmd
        let k := if bad then c.high + 1 else 0
        { c with node := v, high := k, low := if !v && !c.cmd then c.low + 1 else 0,
                 suspect := bad && !c.extDrive && decide (2 ≤ k) }

/-- A channel shows a fault (Table FIO-2). -/
def FCh.faulty (c : FCh) : Bool := c.extDrive || c.backfeed || c.thermal || c.latched || c.shed

/-- A 48-bit word of one bit per channel. -/
def State.fioWord (s : State) (f : Nat → FCh → Bool) : Nat :=
  ((List.range 48).map fun n => if f n (s.fch n) then 2 ^ n else 0).foldl (· + ·) 0

/-- The diagnostic bits (Table FIO-2). -/
def State.fioDiag (s : State) : Nat :=
  s.fioWord (fun _ c => c.faulty) + 2 ^ 48 * b2n s.fio.aggHigh + 2 ^ 49 * b2n (s.fio.ch.any fun c => c.shed) +
    2 ^ 50 * b2n s.fio.probe.isSome + 2 ^ 51 * b2n s.fio.held

/-- The aggregate current and how long it has exceeded its limits (R340, R345). -/
def State.aggregate (s : State) : State :=
  let a : Nat := min 60000 ((s.fio.ch.map fun c => c.cur).foldl (· + ·) 0)
  let s := (s.setOwn Idx.FIO_AGGCURR a).peak Idx.FIO_AGGPEAK a
  { s with fio.agg := a, fio.aggMs := if 6000 < a then s.fio.aggMs + 1 else 0,
           fio.shedMs := if 8000 < a then s.fio.shedMs + 1 else 0, fio.aggHigh := s.fio.aggHigh && decide (5500 ≤ a) }

/-- The probe starts at the tick after a suspect is qualified, over the channels that are on and have NOPROBE clear (R342);
suspects that have all gone end it. -/
def State.probeTick (s : State) (wasSuspect : Bool) : State :=
  if s.fio.held then s
  else match s.fio.probe with
    | some _ => { s with fio.probeDue := true, fio.probe := if s.fio.ch.any (fun c => c.suspect) then s.fio.probe else none }
    | none =>
      if wasSuspect ∧ s.fio.ch.any (fun c => c.suspect) then
        { s with fio.probe := some ((List.range 48).filter fun n => (s.fch n).on && !s.parBit (Idx.FIO_CnCFG n) 4),
                 fio.probeDue := true }
      else s

/-- FIO_TICK (R335, R337, R338, R340, R342, R345): `raw` the compared input values, `nodes` the output nodes, `lim` the
channels in current limit, `mA` the output currents. -/
def execFioTick (raw nodes lim : Nat) (mA : List Nat) (s : State) : Out :=
  occurs s.engines s <|
    let was := s.fio.ch.any fun c => c.suspect
    let s := (List.range 48).foldl (fun s n => s.sampleChannel n raw) s
    let s := (List.range 48).foldl (fun s n => s.deliverChannel n) s
    let s := (List.range 48).foldl (fun s n => s.readback n nodes lim (mA.getD n 0)) s
    let s := (s.aggregate).probeTick was
    let img := s.fioWord fun n c => if s.isInput n then c.state else s.isOutput n && c.node
    let d := s.fioDiag
    let s := s.setOwn Idx.FIO_FAULTS (d % 2 ^ 48)
    { s with fio.image := img, fio.diag := d }

/-! ## Faults (R341–R345) -/

/-- LATCHED is set and the channel turns off: FIO_LATCHED_OFF (R343, R344). -/
def State.latchOff (s : State) (n : Nat) : State :=
  (s.raise 0x0A05 4 n).modFch n fun c => { c with latched := true, on := false }

/-- A backfeed pair: both channels take BACKFEED and LATCHED and turn off (R342). -/
def State.backfeedPair (s : State) (n c : Nat) : State :=
  let s := (s.raise 0x0A02 4 n [(1, n), (1, c)])
  [n, c].foldl (fun s k =>
    let s := s.modFch k fun x => { x with backfeed := true, suspect := false, high := 0 }
    let s := s.bump (Idx.FIO_CnFLTS k)
    if (s.fch k).latched then s else s.latchOff k) s

/-- A suspect that the probe pairs with no channel (R341). -/
def State.extDrive (s : State) (n : Nat) : State :=
  ((s.raise 0x0A01 4 n).bump (Idx.FIO_CnFLTS n)).modFch n fun c => { c with extDrive := true, suspect := false, low := 0 }

/-- The suspects. -/
def State.suspects (s : State) : List Nat := (List.range 48).filter fun n => (s.fch n).suspect

/-- BACKFEED_PROBE (R342): the probe's next channel is switched off for 200 µs, and `nodes` are the levels in the pulse; after
the last channel the suspects still high are EXT_DRIVE. -/
def execBackfeedProbe (nodes : Nat) (s : State) : Out :=
  occurs (s.engines && s.fio.probe.isSome && s.fio.probeDue && !s.fio.held) s <|
    let list := s.fio.probe.getD []
    let s := { s with fio.probeDue := false }
    let s := match list with
      | [] => s
      | c :: _ => if (s.fch c).on then
          (s.suspects.filter fun n => !nodes.testBit n).foldl (fun s n => s.backfeedPair n c) s else s
    let rest := list.drop 1
    if s.suspects.isEmpty then { s with fio.probe := none }
    else if rest.isEmpty then { (s.suspects.foldl (fun s n => s.extDrive n) s) with fio.probe := none }
    else { s with fio.probe := some rest }

/-- FIO_FAULT_CLEARED (R341): EXT_DRIVE clears after 100 ms reading low while commanded off. -/
def execFioFaultCleared (n : Nat) (s : State) : Out :=
  occurs (s.engines && decide (n < 48) && (s.fch n).extDrive && decide (100 ≤ (s.fch n).low)) s
    ((s.raise 0x0A08 2 n).modFch n fun c => { c with extDrive := false })

/-- FIO_LIMITING (R343): the current limit has held for 10 ms, once per episode. -/
def execFioLimiting (n : Nat) (s : State) : Out :=
  occurs (s.engines && decide (n < 48) && (s.fch n).limiting && decide (10 ≤ (s.fch n).limMs) && !(s.fch n).limTold) s
    ((s.raiseCounted 0x0A03 3 n).modFch n fun c => { c with limTold := true })

/-- FIO_THERMAL (R343): a thermal shutdown, and what the retry policy makes of it. -/
def execFioThermal (n : Nat) (s : State) : Out :=
  occurs (s.engines && decide (n < 48) && s.isOutput n && (s.fch n).on) s <|
    let s := (s.raiseCounted 0x0A04 3 n).bump (Idx.FIO_CnFLTS n)
    let k := (s.fch n).retries + 1
    let s := s.modFch n fun c =>
      { c with on := false, thermal := true, retries := min 15 k, shutAt := some s.pwr.opTime }
    let policy := fieldOf (s.parN (Idx.FIO_CnCFG n)) 9 8
    if policy = 1 ∨ (policy = 0 ∧ s.parN Idx.FIO_RETRYMX ≤ k) then s.latchOff n else s

/-- THERMAL_RETRY (R343): FIO.RETRYT after the shutdown, with the channel below 160 °C, it restarts. -/
def execThermalRetry (n : Nat) (cool : Bool) (s : State) : Out :=
  let c := s.fch n
  occurs (s.engines && decide (n < 48) && c.thermal && !c.latched && c.cmd && cool && !s.fio.held && !s.fio.gysOff &&
      (match c.shutAt with | some t => decide (t + s.parN Idx.FIO_RETRYT ≤ s.pwr.opTime) | none => false)) s
    (s.modFch n fun c => { c with thermal := false, on := true, onAt := s.pwr.opTime, shutAt := none })

/-- FIO_AGG_HIGH (R345): above 6.0 A for 100 ms. -/
def execFioAggHigh (s : State) : Out :=
  occurs (s.engines && !s.fio.aggHigh && decide (100 ≤ s.fio.aggMs)) s <|
    let s := s.raise 0x0A06 3 0xFF [(4, s.fio.agg)]
    { s with fio.aggHigh := true }

/-- Channels from the highest number downward to switch off until the sum is at or below 6.0 A (R345). -/
def shedList : List (Nat × FCh) → Nat → List Nat
  | [], _ => []
  | (n, c) :: cs, sum =>
    if sum ≤ 6000 then [] else if c.on then n :: shedList cs (sum - c.cur) else shedList cs sum

/-- FIO_SHED (R345): above 8.0 A for 10 ms the highest channels are switched off. -/
def execFioShed (s : State) : Out :=
  occurs (s.engines && decide (10 ≤ s.fio.shedMs)) s <|
    let ns := shedList ((List.range 48).reverse.map fun n => (n, s.fch n)) s.fio.agg
    let s := s.raise 0x0A07 4 0xFF [(8, (((ns.map fun n => 2 ^ n).foldl (· + ·) 0 : Nat) : Int))]
    let s := s.bump Idx.FIO_SHEDCNT
    let s := ns.foldl (fun s n => (s.modFch n fun c => { c with shed := true }).latchOff n) s
    { s with fio.shedMs := 0 }

/-! ## The field-output word (R339, R344, R347) -/

/-- A word from an output phase reaches one channel: an off command releases a latched channel, an on command drives one that
nothing holds. -/
def State.driveChannel (s : State) (w n : Nat) : State :=
  if !s.isOutput n then s
  else
    let b := w.testBit n
    let may := !s.fio.held && !s.fio.gysOff
    s.modFch n fun c =>
      let c := { c with cmd := b, cmdAt := if b = c.cmd then c.cmdAt else s.pwr.opTime }
      if !b then
        { c with on := false, latched := false, shed := false, backfeed := false, thermal := false, retries := 0, shutAt := none }
      else if c.latched ∨ c.thermal ∨ !may then { c with on := false }
      else if c.on then c else { c with on := true, onAt := s.pwr.opTime }

/-- FIO applies a received word to all 48 switches at one instant (R339). -/
def State.fioApply (s : State) (w : Nat) : State :=
  let s := { s with fio.word := w % 2 ^ 48 }
  (List.range 48).foldl (fun s n => s.driveChannel w n) s

/-- What an output channel holds is gone once its mode is another (R333). -/
def FCh.outOff (c : FCh) : FCh :=
  { c with cmd := false, on := false, node := false, high := 0, low := 0, suspect := false, extDrive := false, latched := false,
           shed := false, thermal := false, backfeed := false, limiting := false, limMs := 0, limTold := false, retries := 0,
           shutAt := none }

/-- A changed FIO.CnCFG takes effect: filter and edge queue restart, the next sample presets the state (R333); an output stays as it
is driven, so that a write of its policy releases nothing (R344). -/
def State.fioRestart (s : State) (n : Nat) : State :=
  let out := s.isOutput n
  s.modFch n fun c =>
    let c := { c with state := false, raw := false, preset := true, edges := [], extra := 0 }
    if out then c else c.outOff

/-- Sampling restarts at START and at a wake: every filtered state is preset to its first sample (R347, R348). -/
def State.fioWake (s : State) : State :=
  { s with fio.ch := s.fio.ch.map fun c => { c with preset := true, edges := [], extra := 0 } }

end Sys2Proof.Machine
end

