-- ==== Sys2Proof/Machine/Shf.lean ====
section
/-!
DEFINITION. The neighbour link and the zones (16_shared_hoistway.md): frames sent and received, messages in fragments, the
link's loss and return, zone actions; and the form of a group message (07 Table GRP-8).
-/
namespace Sys2Proof.Machine

/-! ## Group messages as bytes (07 R157, Table GRP-8, Table GRP-3) -/

/-- An action record. -/
def Act.bytes (g gen : Nat) (a : Act) : List Byte :=
  toLe 1 g ++ [0] ++ toLe 2 gen ++ toLe 1 a.part ++ toLe 1 a.kind ++ toLe 2 a.body.length ++ a.body

/-- A message sent by ring address `me`. -/
def GMsg.bytes (me : Nat) (m : GMsg) : List Byte :=
  toLe 1 m.type ++ toLe 1 m.group ++ toLe 2 m.gen ++ toLe 2 m.coord ++ toLe 2 me ++ toLe 8 m.t0 ++ toLe 1 m.status ++
    toLe 1 m.acts.length ++ toLe 2 m.index ++ List.replicate 12 0 ++ m.acts.flatMap fun a => a.bytes m.group m.gen

/-- `n` action records from a byte string; the receiver ignores their first four bytes. -/
def readActs : Nat → List Byte → List Act
  | 0, _ => []
  | n + 1, bs =>
    let len := getU bs 6 2
    { part := getU bs 4 1, kind := getU bs 5 1, body := (bs.drop 8).take len, vers := [] } :: readActs n (bs.drop (8 + len))

/-- A message received from `peer`. -/
def readGMsg (peer : Nat) (bs : List Byte) : GMsg :=
  { peer := peer, type := getU bs 0 1, group := getU bs 1 1, gen := getU bs 2 2, coord := getU bs 4 2, t0 := getU bs 8 8,
    status := getU bs 16 1, index := getU bs 18 2, acts := readActs (getU bs 17 1) (bs.drop 32) }

/-- The neighbour code of a side (07 R144). -/
def sideCode (up : Bool) : Nat := if up then 0xFC01 else 0xFC02

/-! ## Frames sent (R407, R410) -/

/-- The next message for a side leaves Q31 once none is in flight there; one whose group's hold has expired is dropped. -/
def State.pickMessage (s : State) (up : Bool) : State :=
  let n := s.side up
  let keep := match n.msg with | some m => decide (s.rng.time < m.expires) | none => false
  if keep then s
  else match s.grp.out.find? fun m => m.peer == sideCode up with
    | none => s.modSide up fun n => { n with msg := none }
    | some m =>
      let no := n.msgNo % 255 + 1
      let s := { s with grp.out := s.grp.out.erase m }
      s.modSide up fun n =>
        { n with msgNo := no, msg := some { number := no, bytes := m.bytes (s.parN Idx.RNG_ADDR),
                                            expires := m.t0 + s.parN Idx.GRP_XHOLD * 1000 } }

/-- Fragments of a message. -/
def NlMsg.count (m : NlMsg) : Nat := (m.bytes.length + 43) / 44

/-- Bytes 72–123: the fragment of this frame. -/
def NlSide.fragment (n : NlSide) : List Byte :=
  match n.msg with
  | some m =>
    if m.frag < m.count then
      toLe 1 m.number ++ toLe 1 (m.frag + 16 * m.count) ++ toLe 2 m.bytes.length ++ toLe 1 n.ack ++ [0, 0, 0] ++
        ((m.bytes.drop (44 * m.frag)) ++ List.replicate 44 0).take 44
    else [0, 0, 0, 0] ++ toLe 1 n.ack ++ List.replicate 47 0
  | none => [0, 0, 0, 0] ++ toLe 1 n.ack ++ List.replicate 47 0

/-- A channel's safety section toward a side. -/
def SafCh.section_ (c : SafCh) (up : Bool) (cycle : Nat) : List Byte :=
  let b := le 4 c.hi ++ le 4 c.lo ++ toLe 2 cycle ++ toLe 1 (b2n up + 2 * b2n (c.active != 0)) ++ [0]
  b ++ toLe 4 (crc32 b)

/-- Byte 3 of a frame. -/
def State.nlFlags (s : State) (up : Bool) : Nat :=
  let n := s.side up
  let stop := (s.shf.tier2 || s.shf.lossStop) && s.hst.st == .controlledStop
  b2n n.receiving + 2 * b2n stop + 4 * b2n s.shf.handover.isSome + 8 * b2n n.handSeen + 16 * b2n n.verified +
    32 * b2n (s.hst.st != .idle) + 64 * b2n (s.mode != 0)

/-- The frame on a side (Table SHF-1). -/
def State.nlFrame (s : State) (up : Bool) : List Byte :=
  let n := s.side up
  let b := toLe 1 0xC3 ++ toLe 1 n.seqOut ++ toLe 1 (n.lastSeq.getD 0) ++ toLe 1 (s.nlFlags up) ++ toLe 1 (s.parN Idx.SHF_POSN) ++
    [0] ++ toLe 2 (s.parN Idx.RNG_ADDR) ++ le 4 s.carPos ++ le 4 s.hst.vf ++ le 4 s.shf.un ++ le 4 s.shf.ln ++
    le 4 (s.par Idx.SHF_ZLO) ++ le 4 (s.par Idx.SHF_ZHI) ++ toLe 4 (s.parN Idx.SHF_ZVER) ++ toLe 4 s.rng.time ++
    s.saf.chA.section_ up s.saf.chA.wrote.cycle ++ s.saf.chB.section_ up s.saf.chB.wrote.cycle ++ n.fragment
  b ++ toLe 4 (crc32 b)

/-- NEIGHBOUR_FRAME_SEND (R406, R407, R410): SHF.NLOFS after an L tick the car starts a frame on an active link. -/
def execNeighbourFrameSend (up : Bool) (s : State) : Out :=
  occurs (s.engines && s.sideOn up) s <|
    let s := s.pickMessage up
    let s := if s.hst.st = .controlledStop then s else { s with shf.lossStop := false }
    let s := s.modSide up fun n => { n with seqOut := (n.seqOut + 1) % 256 }
    let f := s.nlFrame up
    let ext := if up then max s.saf.chA.hi s.saf.chB.hi else min s.saf.chA.lo s.saf.chB.lo
    s.modSide up fun n =>
      { n with frame := f, safSent := ext,
               msg := n.msg.map fun m => { m with frag := min m.count (m.frag + 1),
                                                  sentAt := if m.frag < m.count then s.pwr.opTime else m.sentAt } }

/-- MESSAGE_REPEAT (R410): 3 ms without the acknowledgement, and the whole message is sent again from its first fragment. -/
def execMessageRepeat (up : Bool) (s : State) : Out :=
  occurs (s.engines && s.sideOn up && (match (s.side up).msg with
      | some m => decide (m.count ≤ m.frag) && decide (m.sentAt + 3 ≤ s.pwr.opTime) && decide (s.rng.time < m.expires)
      | none => false)) s
    (s.modSide up fun n => { n with msg := n.msg.map fun m => { m with frag := 0 } })

/-! ## Frames received (R408–R410, R416, R423) -/

/-- The frame passes type, length, coding and CRC. -/
def nlCrcGood (bs : List Byte) (coded : Bool) : Bool :=
  coded && bs.length == 128 && getU bs 0 1 == 0xC3 && getU bs 124 4 == crc32 (bs.take 124)

/-- A safety section's CRC and its direction are right; `off` is its first byte. -/
def sectionGood (bs : List Byte) (off : Nat) (up : Bool) : Bool :=
  getU bs (off + 12) 4 == crc32 ((bs.drop off).take 12) && (getU bs (off + 10) 1).testBit 0 == !up

/-- One safety channel's view of a neighbour after a valid frame (R408, 12 R312, R313). -/
def SafNbr.take (n : SafNbr) (now : Nat) (hi lo : Int) : SafNbr :=
  let n := { n with hi := hi, lo := lo, got := some now }
  if n.lost then (if 49 ≤ n.good then { n with lost := false, good := 0 } else { n with good := n.good + 1 }) else n

/-- Both safety channels test the frame on their own receivers (R408). -/
def State.safNeighbour (s : State) (up : Bool) (bs : List Byte) (coded : Bool) : State :=
  let good := nlCrcGood bs coded && sectionGood bs 40 up && sectionGood bs 56 up
  let hi := max (getS bs 40 4) (getS bs 56 4)
  let lo := min (getS bs 44 4) (getS bs 60 4)
  let upd := fun (n : SafNbr) => if good then n.take s.pwr.opTime hi lo else { n with good := 0 }
  s.modBoth fun c => if up then { c with above := upd c.above } else { c with below := upd c.below }

/-- Bytes 4 and 6–7 name the expected car (R408). -/
def State.nlNamed (s : State) (up : Bool) (bs : List Byte) : Bool :=
  let p := s.parN Idx.SHF_POSN
  getU bs 4 1 + (if up then 0 else 1) == p + (if up then 1 else 0) && getU bs 6 2 == s.sideAddr up

/-- The message fragment of a good frame: collected, and handed to Q30 once complete (R410). -/
def State.takeFragment (s : State) (up : Bool) (bs : List Byte) : State :=
  let no := getU bs 72 1
  let n := s.side up
  let s := match n.msg with
    | some m => if m.number = getU bs 76 1 then s.modSide up fun n => { n with msg := none } else s
    | none => s
  if no = 0 ∨ no = n.ack then s
  else
    let i := getU bs 73 1 % 16
    let cnt := getU bs 73 1 / 16
    let len := getU bs 74 2
    let old := if no = n.inNo then n.inFrags.filter fun p => p.1 != i else []
    let fr := old ++ [(i, (bs.drop 80).take 44)]
    if fr.length < cnt then s.modSide up fun n => { n with inNo := no, inFrags := fr }
    else
      let bytes := ((List.range cnt).flatMap fun k => match fr.find? fun p => p.1 == k with | some p => p.2 | none => []).take len
      let s := s.modSide up fun n => { n with inNo := no, inFrags := [], ack := no }
      { s with grp.inq := s.grp.inq ++ [readGMsg (sideCode up) bytes] }

/-- A side found unverified: SHF_ZONE_MISMATCH, and the own edge moves to the present normal extent (R416). -/
def State.zoneMismatch (s : State) (up : Bool) : State :=
  let e := s.normalExtents
  let s := (s.raise 0x0F09 4 (b2n up)).setEdge up (if up then e.1 else e.2)
  let v := s.sideVerified up
  s.modSide up fun n => { n with verified := v }

/-- ENTERING_DORMANT in two consecutive frames sets HANDOVER_SEEN (R423). -/
def State.seeHandover (s : State) (up : Bool) (flags : Nat) : State :=
  let n := s.side up
  if !flags.testBit 2 then s.modSide up fun n => { n with entering := 0, handSeen := false }
  else
    let s := s.modSide up fun n => { n with entering := n.entering + 1 }
    if 1 ≤ n.entering ∧ !n.handSeen then
      (s.raise 0x0F0C 1 (b2n up)).modSide up fun n => { n with handSeen := true }
    else s

/-! ## The DORMANT request (02 R42, R43; R423) -/

/-- The conditions of R42 but the handover; `own` is the number of tags the request itself holds. -/
def State.dormantOk (s : State) (own : Nat) : Bool :=
  s.pwr.state == .run && !s.pwr.entering && s.standing && s.landings.any s.inFlag && !s.soClosed 0 && !s.soClosed 1 && !s.soClosed 2 &&
    s.brakesApplied && s.doorsShut && (s.grp.groups.all fun g => g.state == 0) && s.host.freeTags.length + own == 64 &&
    !s.pwr.wakeLand && s.pwr.wakeLatch == 0 && s.saf.session.isNone && s.saf.btPhase == 0 && s.par Idx.SAF_INCPER != 0

/-- Step 1 of the handover: every declared link is good and verified, and its car has no target and stands (R423). -/
def State.handoverOk (s : State) : Bool :=
  [true, false].all fun up =>
    let n := s.side up
    !s.sideOn up || (n.good && n.verified && !n.flags.testBit 5 && decide (mag n.speed ≤ 5000))

/-- The accepted request's entry begins: Geyser is to stop cycling, the standby monitor takes its parameters (02 R43; 06 Table DEV-11). -/
def State.beginDormant (s : State) : State :=
  { s with pwr.entering := true, gys.held := true, pwr.dmoveUse := s.parN Idx.PWR_DMOVE, pwr.maskUse := s.parN Idx.PWR_WAKEMASK,
           pwr.wakeFioUse := s.parN Idx.PWR_WAKEFIO }

/-- The request in hand ends without an interval: its command or acknowledgement takes this status; flag and suspension go (02 R43, R44;
R423). -/
def State.endDormantRequest (s : State) (st : Status) : State :=
  let seq := (s.gys.acks.getD 11 {}).seq
  let s := if s.pwr.geyserReq then s.gysAck 11 seq st else s
  let s := (s.host.ops.filter fun f => f.phase == .dormantWait).foldl (fun s f => s.complete f st) s
  { s with pwr.geyserReq := false, pwr.entering := false, gys.held := false, shf.handover := none }

/-- The 8-byte result of STATE_REQUEST (02 R44). -/
def State.wakeResult (s : State) : List Byte :=
  toLe 4 (min (s.pwr.opTime - s.pwr.dormantAt) 0xFFFFFFFF) ++ toLe 1 (s.pwr.wakeLatch % 256) ++ [0, 0, 0]

/-- The request that the interval belongs to completes OK (02 R44). -/
def State.answerRequest (s : State) : State :=
  let r := s.wakeResult
  let s := if s.pwr.geyserReq then s.gysAck 11 (s.gys.acks.getD 11 {}).seq .ok else s
  let s := (s.host.ops.filter fun f => f.phase == .dormantWait).foldl (fun s f => s.complete f .ok 0 r true) s
  { s with pwr.geyserReq := false }

/-- The handover is complete: every declared neighbour shows HANDOVER_SEEN, and the request is decided (R423, 02 R42). -/
def State.handoverDone (s : State) : State :=
  if s.shf.handover.isNone ∨ s.pwr.entering then s
  else if [true, false].any (fun up => s.sideOn up && !(s.side up).flags.testBit 3) then s
  else if s.dormantOk (if s.pwr.geyserReq then 0 else 1) then s.beginDormant else s.endDormantRequest .state

/-- An accepted request starts with the handover, or at once with the entry (R423, 02 R43). -/
def State.startDormant (s : State) : State :=
  if s.sideOn true ∨ s.sideOn false then { s with shf.handover := some s.pwr.opTime } else s.beginDormant

/-- A frame good for SHF is taken (R408–R411, R416). -/
def State.nlTake (s : State) (up : Bool) (bs : List Byte) (gapUs : Nat) : State :=
  let fl := getU bs 3 1
  let n := s.side up
  let s := if n.lastSeq.isSome ∧ 1500 < gapUs then s.bump (if up then Idx.SHF_GAPSUP else Idx.SHF_GAPSDN) else s
  let s := s.modSide up fun n =>
    { n with lastSeq := some (getU bs 1 1), receiving := true, goodN := if fl.testBit 0 then n.goodN + 1 else 0,
             miswired := false, flags := fl, pos := getS bs 8 4, speed := getS bs 12 4, un := getS bs 16 4, ln := getS bs 20 4,
             zlo := getS bs 24 4, zhi := getS bs 28 4, zver := getU bs 32 4 }
  let s := (s.seeHandover up fl).takeFragment up bs
  let v := s.sideVerified up
  let was := n.verified
  let s := s.modSide up fun n => { n with verified := v }
  let s := if (s.side up).good ∧ was ∧ !v then s.zoneMismatch up else s
  s.handoverDone

/-- NEIGHBOUR_FRAME (R408–R410): a frame arrives on a side, `gapUs` after the last good one; one that is not good breaks the run of
consecutive good frames. -/
def execNeighbourFrame (up : Bool) (bytes : List Byte) (coded : Bool) (gapUs : Nat) (s : State) : Out :=
  occurs (s.engines && s.sideOn up) s <|
    let s := s.safNeighbour up bytes coded
    let n := s.side up
    if !nlCrcGood bytes coded || n.lastSeq == some (getU bytes 1 1) then s.modSide up fun n => { n with goodN := 0 }
    else if s.nlNamed up bytes then s.nlTake up bytes gapUs
    else
      let s := s.modSide up fun n => { n with goodN := 0 }
      if n.miswired then s else (s.raise 0x0F0A 4 (b2n up)).modSide up fun n => { n with miswired := true }

/-! ## Loss and return (R421, R422, R424) -/

/-- SHF_LINK_LOST (R409, R421, R424): 2,500 µs without a good frame, or LINK_GOOD clear in the frames still received. The end of
a DORMANT car's frames after the handover is no loss. -/
def execShfLinkLost (up : Bool) (us : Nat) (s : State) : Out :=
  let n := s.side up
  occurs (s.engines && s.sideOn up && (n.good || n.receiving) && (decide (2500 ≤ us) || (n.good && !n.flags.testBit 0))) s <|
    let s := s.modSide up fun n =>
      { n with good := false, goodN := 0, receiving := n.receiving && decide (us < 2500), dormant := n.dormant || n.handSeen }
    if n.handSeen ∨ !n.good then s
    else
      let s := (s.raise 0x0F02 4 (b2n up)).bump Idx.SHF_LOSSES
      let s := s.modSide up fun n => { n with lost := true }
      if s.hst.released ∧ !s.refRest then ({ s with shf.lossStop := true } : State).addCause 5 else s

/-- SHF_LINK_RESTORED (R409, R416, R422): 50 consecutive good frames with LINK_GOOD make the link good; once the side is verified
too the restriction ends. The first time since START is SHF_LINK_UP. -/
def execShfLinkRestored (up : Bool) (s : State) : Out :=
  let n := s.side up
  occurs (s.engines && s.sideOn up && ((!n.good && decide (50 ≤ n.goodN)) || (n.good && n.lost && n.verified))) s <|
    let v := s.sideVerified up
    let s := s.modSide up fun n => { n with good := true, dormant := false, handSeen := false, entering := 0, verified := v }
    let s := if v then s else s.zoneMismatch up
    let s := if n.wasGood then s else (s.raise 0x0F01 2 (b2n up)).modSide up fun n => { n with wasGood := true }
    if n.lost ∧ (s.side up).verified then
      (s.raise 0x0F03 2 (b2n up)).modSide up fun n => { n with lost := false }
    else s

/-! ## Zones (R415, R417, R418, R420) -/

/-- The owner's check of a kind 0x11 body (R418). -/
def State.zoneRefusal (s : State) (body : List Byte) : Option Status :=
  let op := getU body 0 1
  let up := getU body 1 1 == 1
  let v := getS body 4 4
  let e := s.normalExtents
  let holds := if up then decide (e.1 ≤ v) else decide (v ≤ e.2)
  let target := match s.hst.target with
    | some t =>
      let p := s.targetPos t
      if up then decide (p + s.par Idx.SAF_SILLTOP ≤ v) else decide (v ≤ p - s.par Idx.SAF_SILLBOT)
    | none => true
  if 2 ≤ op ∨ 2 ≤ getU body 1 1 then some .range
  else if !holds || (op == 1 && !target) then some .state else none

/-- A kind 0x11 action applies (R418). -/
def State.zoneApply (s : State) (body : List Byte) : State := s.setZone (getU body 1 1 == 1) (getS body 4 4)

/-- What the end of a zone request's group means: committed, or refused or expired (R418, R419). -/
def State.zoneEnded (s : State) (g : Nat) (ok : Bool) : State :=
  match s.shf.request with
  | some q =>
    if q.group ≠ some g then s
    else if ok then { s with shf.request := some { q with group := none, done := true } }
    else
      let s := s.raise 0x0F07 2
      { s with shf.request := some { q with group := none, at_ := s.pwr.opTime } }
  | none => s

/-- ZONE_REQUEST_REPEAT (R418): a refused request is repeated every 1 s while the same target remains beyond the edge; it ends
with the target. -/
def execZoneRequestRepeat (s : State) : Out :=
  occurs (s.engines && (match s.shf.request with
      | some q => q.group.isNone && !q.done && decide (q.at_ + 1000 ≤ s.pwr.opTime)
      | none => false)) s <|
    match s.shf.request with
    | some q =>
      if s.hst.zoneTarget = some q.target then
        if (s.side q.up).good ∧ (s.side q.up).verified then s.zoneRequest q.target q.up q.edge
        else { s with shf.request := some { q with at_ := s.pwr.opTime } }
      else { s with shf.request := none }
    | none => s

/-- Repair after a diverged zone reservation: controlled stop and the restriction of a lost link (07 Table GRP-9). -/
def State.zoneDiverged (s : State) (up : Bool) : State :=
  let s := s.modSide up fun n => { n with good := false, goodN := 0, lost := true, verified := false }
  if s.hst.released ∧ !s.refRest then s.addCause 5 else s

end Sys2Proof.Machine
end

