-- ==== Sys2Proof/Machine/Ring.lean ====
section
/-!
DEFINITION. The peer ring (15_peer_ring_and_beacon_dispatch.md R372–R385): frames and their tags, forwarding, ring control and healing,
ring time, SYNCIN and SYNCOUT; and the status values that summaries and system variables carry.
-/
namespace Sys2Proof.Machine

/-! ## Status values -/

/-- The device's ring address, none when unset (R387). -/
def State.addr (s : State) : Option Nat := if s.par Idx.RNG_ADDR = 0xFFFF then none else some (s.parN Idx.RNG_ADDR)

/-- The car is a member of a dispatch group (R390). -/
def State.member (s : State) : Bool := s.par Idx.DSP_ENABLE == 1 && s.par Idx.DSP_GROUP != 0xFF

/-- Geyser is in the application fault or STOPPED state: the device leaves dispatch (08 Table GYS-8). -/
def State.gysDown (s : State) : Bool := s.gys.st == 2 || s.gys.st == 3

/-- DSP.STATUS and byte 2 of the summary (Table RNG-8): 4 dispatch disabled, 3 entering DORMANT, 2 withdrawn, 1 local service,
0 in group. -/
def State.dspStatus (s : State) : Nat :=
  if !s.member then 4
  else if s.pwr.entering then 3
  else if s.gysDown || s.rng.dup || s.addr.isNone then 2
  else if s.lmp.withdrawn || s.lmp.keptOut || s.dsp.loc || s.dsp.full then 1
  else 0

/-- Dispatch status as Geyser's DSPSTAT gives it: 0 in group, 1 local service, 2 withdrawn (08 Table GYS-10). -/
def State.dspStat (s : State) : Nat := if s.dspStatus ≤ 1 then s.dspStatus else 2

/-- The car is in dispatch (R390). -/
def State.inDispatch (s : State) : Bool := s.dspStatus == 0 && s.rng.valid

/-! ## Frames (R373–R376) -/

/-- Ring time in ns. -/
def State.ringNs (s : State) : Nat := s.rng.time * 1000 + s.rng.ns

/-- A port of the ring. -/
def State.port (s : State) (p : Nat) : RPort := if p = 0 then s.rng.a else s.rng.b

/-- A port changed. -/
def State.modPort (s : State) (p : Nat) (f : RPort → RPort) : State :=
  if p = 0 then { s with rng.a := f s.rng.a } else { s with rng.b := f s.rng.b }

/-- A port is enabled by its configuration and the device's state. -/
def State.portOn (s : State) (p : Nat) : Bool :=
  s.rng.enabled && s.parBit (if p = 0 then Idx.RNG_PACFG else Idx.RNG_PBCFG) 3

/-- The 20 bytes of a frame's ring header as its tag covers them: the hop count, which changes on the way, as 0. -/
def RFrame.header (domain : Nat) (f : RFrame) : List Byte :=
  toLe 1 (1 + 16 * f.cls) ++ toLe 1 (b2n (f.cls == 1)) ++ toLe 2 f.src ++ toLe 2 (f.dest % 1024 + 1024 * f.kind) ++ [0, 0] ++
    toLe 2 f.body.length ++ toLe 2 domain ++ toLe 4 f.seq ++ toLe 4 f.time

/-- The body as the tag covers it: the correction field of a TIME sync, which changes on the way, as 0. -/
def RFrame.covered (f : RFrame) : List Byte :=
  if f.cls = 5 ∧ getU f.body 0 1 = 1 then f.body.take 16 ++ List.replicate 8 0 ++ f.body.drop 24 else f.body

/-- The tag of a frame under a domain key: 16 bytes, 8 in a SUMMARY (R376; 19 Table SEC-5). -/
def RFrame.tagOf (domain key : Nat) (f : RFrame) : Nat :=
  let t := Config.kmac256 key (f.header domain ++ f.covered) 128 "TRG-9640 RING"
  if f.cls = 1 then t % 2 ^ 64 else t

/-- The domain keys under which a frame is accepted (19 R467). -/
def State.ringKeys (s : State) : List Nat :=
  s.sec.domain.toList ++ s.sec.domainNext.toList ++ (s.sec.domainPrev.map fun p => p.1).toList

/-- The tag of a taken frame verifies; a HOST frame's with the session key of its source's slot, or it is all zeros before a
session exists (R376). -/
def State.tagGood (s : State) (f : RFrame) : Bool :=
  if f.cls = 4 then
    match s.host.slots.find? fun x => x.ringHost == some f.src with
    | some x => (match x.session with
      | some ss => Config.kmac256 ss.kc (f.header (s.parN Idx.RNG_DOMAIN) ++ f.body) 128 "TRG-9640 RING HOST" == f.tag
      | none => f.tag == 0)
    | none => f.tag == 0
  else s.ringKeys.any fun k => f.tagOf (s.parN Idx.RNG_DOMAIN) k == f.tag

/-- An own frame is built and handed to the ports: none without an address, and nothing but summaries while the address is
duplicated (R374, R387). -/
def State.ringSend (s : State) (cls kind dest : Nat) (body : List Byte) (port : Nat := 2) : State :=
  match s.addr with
  | none => s
  | some me =>
    if !s.rng.enabled || (s.rng.dup && cls != 1) then s
    else
      let q := (s.rng.seq + 1) % 2 ^ 32
      let f : RFrame := { cls := cls, src := me, kind := kind, dest := dest, seq := q, time := s.rng.time % 2 ^ 32, body := body,
                          port := port }
      let f := { f with tag := f.tagOf (s.parN Idx.RNG_DOMAIN) (s.sec.domain.getD 0) }
      { s with rng.seq := q, rng.out := s.rng.out ++ [f] }

/-- What a destination address in transmission order names (Table RNG-2). -/
inductive Dst where
  | unicast (a : Nat)
  | group (g : Nat)
  | link
  | control
  | domain
  | other
  deriving DecidableEq, Repr

/-- Reading a destination address. -/
def readDst (bs : List Byte) : Dst :=
  if bs.take 4 = [0x02, 0x54, 0x52, 0x47] then .unicast (getU bs 4 1 * 256 + getU bs 5 1)
  else if bs.take 5 = [0x03, 0x54, 0x52, 0x47, 0x01] then .group (getU bs 5 1)
  else if bs.take 6 = [0x03, 0x54, 0x52, 0x47, 0x02, 0x00] then .link
  else if bs.take 6 = [0x03, 0x54, 0x52, 0x47, 0x03, 0x00] then .control
  else if bs.take 6 = [0xFF, 0xFF, 0xFF, 0xFF, 0xFF, 0xFF] then .domain
  else .other

/-- The ring frame in the bytes of an Ethernet frame from its destination address on, without FCS (Table RNG-3). -/
def readFrame (port arrived : Nat) (bs : List Byte) : RFrame :=
  let h := bs.drop 14
  let len := getU h 8 2
  { cls := getU h 0 1 / 16, src := getU h 2 2 % 1024, kind := getU h 4 2 / 1024 % 4, dest := getU h 4 2 % 1024, hops := getU h 6 2,
    seq := getU h 12 4, time := getU h 16 4, body := (h.drop 20).take len,
    tag := getU h (20 + len) (if (getU h 1 1).testBit 0 then 8 else 16), port := port, at_ := arrived }

/-- Type, version, class and domain number fit (R373, R374). -/
def State.frameFits (s : State) (bs : List Byte) : Bool :=
  let h := bs.drop 14
  getU bs 12 2 == 0xB588 && getU h 0 1 % 16 == 1 && decide (1 ≤ getU h 0 1 / 16 ∧ getU h 0 1 / 16 ≤ 8) &&
    getU h 10 2 == s.parN Idx.RNG_DOMAIN && decide (getU h 8 2 ≤ 516)

/-- The frame is one the device takes by its destination (Table RNG-5). -/
def State.takesDst (s : State) (d : Dst) : Bool :=
  match d with
  | .unicast a => s.addr == some a
  | .group g => s.par Idx.DSP_GROUP == (g : Int)
  | .link => true
  | .control => true
  | .domain => true
  | .other => false

/-- The frame is one the device forwards by its destination (Table RNG-5). -/
def State.forwardsDst (s : State) (d : Dst) : Bool :=
  match d with
  | .unicast a => s.addr != some a
  | .link => false
  | _ => true

/-- Both checks of R375: fresh by its ring time, and not taken in the last 2 s. -/
def State.frameFresh (s : State) (f : RFrame) : Bool :=
  let d := (s.rng.time % 2 ^ 32 + 2 ^ 32 - f.time) % 2 ^ 32
  let near := decide (d ≤ 1000000) || decide (2 ^ 32 - 1000000 ≤ d)
  (near || (f.cls == 5 && (!s.rng.valid || getU f.body 0 1 == 4))) &&
    !(s.rng.taken.any fun t => t.src == f.src && t.cls == f.cls && t.seq == f.seq && decide (s.rng.time < t.at_ + 2000000))

/-- A ring-control frame of another manager: who it is, and the yielding to a lower candidate (R381). A manager that yields
leaves its port B to the other's RING_CLOSED. -/
def State.hearManager (s : State) (f : RFrame) : State :=
  let m := getU f.body 2 2
  let now := s.pwr.opTime
  let s := if getU f.body 0 1 = 2 then s else { s with rng.manager := some m, rng.mgrHeard := now }
  match s.addr with
  | some me =>
    if f.src < me then
      let s := { s with rng.lowerHeard := now }
      if s.rng.isMgr then
        let s := { s with rng.isMgr := false, rng.closed := false }
        s.modPort 1 fun p => if p.mode = 1 then { p with mode := 2, upAt := now } else p
      else s
    else s
  | none => s

/-- A frame that the device takes: the checks of R375 and R376, then the receive queue. With the LMP stopped in DORMANT only
the classes that the ring hardware serves are taken (01 R13). -/
def State.ringTake (s : State) (f : RFrame) : State :=
  if s.pwr.state = .dormant ∧ !s.pwr.waking ∧ f.cls ≠ 5 ∧ f.cls ≠ 6 ∧ f.cls ≠ 8 then s
  else if !s.frameFresh f then s.bump Idx.RNG_STALECNT
  else if !s.tagGood f then (s.bump Idx.RNG_TAGFAIL).raiseCounted 0x0D09 3
  else
    let old := s.rng.taken.filter fun t => decide (s.rng.time < t.at_ + 2000000)
    let s := { s with rng.taken := ⟨f.src, f.cls, f.seq, s.rng.time⟩ :: old }
    if f.cls = 2 then { s with grp.inq := s.grp.inq ++ [readGMsg f.src f.body] }
    else if f.cls = 4 then s
    else if f.cls = 6 ∧ s.addr ≠ some f.src then
      let s := s.hearManager f
      if getU f.body 0 1 = 1 then s else { s with rng.inq := s.rng.inq ++ [f] }
    else { s with rng.inq := s.rng.inq ++ [f] }

/-- The outgoing copy of a forwarded frame: hop count raised, residence time added in a TIME sync, ended with a stomped FCS
when its source is the device, its hops have reached RNG.HOPLIM or its FCS is bad (R377). -/
def State.forwardCopy (s : State) (f : RFrame) (own bad : Bool) (residence : Nat) : RFrame :=
  let body := if f.cls = 5 ∧ getU f.body 0 1 = 1 then
      f.body.take 16 ++ toLe 8 (getU f.body 16 8 + residence) ++ f.body.drop 24 else f.body
  { f with hops := (f.hops + 1) % 65536, body := body, port := 1 - f.port,
           stomped := own || bad || decide (s.parN Idx.RNG_HOPLIM ≤ f.hops) }

/-- FRAME_FORWARD (R377): a frame arrives at `port`; `fcs` is 0 good, 1 bad, 2 stomped, 3 for a full forwarding buffer;
`residence` is the residence time in ns. -/
def execFrameForward (port : Nat) (bytes : List Byte) (fcs residence : Nat) (s : State) : Out :=
  occurs (decide (port < 2) && s.portOn port && (s.port port).link) s <|
    let d := readDst bytes
    let f := readFrame port s.ringNs bytes
    let inMode := (s.port port).mode
    let outP := s.port (1 - port)
    let ctl := d == .control
    let own := match s.addr with | some a => readDst (bytes.drop 6) == .unicast a | none => false
    let fits := s.frameFits bytes
    let passes := inMode == 0 || (inMode == 2 && ctl)
    let sends := s.portOn (1 - port) && outP.link && (outP.mode == 0 || (outP.mode == 2 && ctl))
    let s := if s.forwardsDst d && passes && sends && fcs != 3 then
        { s with rng.fwd := some (s.forwardCopy f own (fcs == 1 || fcs == 2) residence) } else s
    let s := if fcs = 1 ∨ fcs = 3 then s.bump Idx.RNG_FCSERR else if fcs = 2 then s.bump Idx.RNG_STRIPPED else s
    if fcs != 0 || !fits || !s.takesDst d || !(passes || ctl) || (own && !(ctl && getU f.body 0 1 == 1)) then s
    else s.ringTake f

/-- The first taken frame of a class, with a body type where the class has types. -/
def State.nextFrame (s : State) (cls : Nat) (type : Option Nat) : Option RFrame :=
  s.rng.inq.find? fun f => f.cls == cls && (match type with | some t => getU f.body 0 1 == t | none => true)

/-- That frame leaves the receive queue. -/
def State.dropFrame (s : State) (f : RFrame) : State := { s with rng.inq := s.rng.inq.erase f }

/-! ## Ring control (R380–R382) -/

/-- The body of a ring-control frame (Table RNG-6). -/
def State.controlBody (s : State) (type port no : Nat) : List Byte :=
  toLe 1 type ++ toLe 1 port ++ toLe 2 (s.rng.manager.getD 0xFFFF) ++ toLe 4 no

/-- The fast hardware of the ring runs: from RUN on, and in DORMANT (01 R13; 15 R382). -/
def State.ringRuns (s : State) : Bool := s.rng.enabled

/-- RNG_LINK_DOWN (R372, R382): no valid signal for 5 ms; LINK_DOWN leaves by the other port. -/
def execRngLinkDown (port silentUs : Nat) (s : State) : Out :=
  occurs (s.ringRuns && decide (port < 2) && (s.port port).link && decide (5000 ≤ silentUs)) s <|
    let s := (s.modPort port fun p => { p with link := false, amp := 0, mode := 2 }).raise 0x0D01 3 0xFF [(1, port)]
    s.ringSend 6 3 0 (s.controlBody 2 port 0) (1 - port)

/-- RNG_LINK_UP (R372, R381): a link comes up with amplitude 1 (2.4 V) or 2 (1.0 V) and enters CONTROL_ONLY. -/
def execRngLinkUp (port amp : Nat) (s : State) : Out :=
  let forced := s.parN (if port = 0 then Idx.RNG_PACFG else Idx.RNG_PBCFG) % 4
  occurs (decide (port < 2) && s.portOn port && !(s.port port).link && decide (1 ≤ amp ∧ amp ≤ 2) &&
      (forced == 0 || forced == amp)) s
    ((s.modPort port fun p => { p with link := true, amp := amp, mode := 2, upAt := s.pwr.opTime }).raise 0x0D02 2 0xFF [(1, port)])

/-- CONTROL_ONLY_TIMEOUT (R381): 200 ms with no manager. -/
def execControlOnlyTimeout (port : Nat) (s : State) : Out :=
  occurs (s.ringRuns && decide (port < 2) && (s.port port).link && (s.port port).mode == 2 && !s.rng.isMgr &&
      decide ((s.port port).upAt + 200 ≤ s.pwr.opTime) && decide (s.rng.mgrHeard + 200 ≤ s.pwr.opTime)) s
    (({ s with rng.manager := none } : State).modPort port fun p => { p with mode := 0 })

/-- The device is a candidate for ring manager. -/
def State.mgrCandidate (s : State) : Bool :=
  s.ringRuns && s.par Idx.RNG_TOPO == 1 && s.par Idx.RNG_MGRCAND == 1 && s.addr.isSome && !s.rng.dup

/-- RNG_MANAGER (R381): no ring-control frame from a lower candidate for 100 ms. -/
def execRngManager (s : State) : Out :=
  occurs (s.mgrCandidate && !s.rng.isMgr && decide (s.rng.lowerHeard + 100 ≤ s.pwr.opTime)) s <|
    ({ s with rng.isMgr := true, rng.manager := s.addr, rng.testNo := 0, rng.testBack := 0, rng.testAt := s.pwr.opTime } :
      State).raise 0x0D0A 1

/-- TEST (R381): the manager sends a TEST frame out of port A every RNG.TESTPER. -/
def execRingTest (s : State) : Out :=
  occurs (s.mgrCandidate && s.rng.isMgr && decide (s.rng.testAt + s.parN Idx.RNG_TESTPER ≤ s.pwr.opTime)) s <|
    let n := s.rng.testNo + 1
    let s := { s with rng.testNo := n, rng.testAt := s.pwr.opTime }
    s.ringSend 6 3 0 (s.controlBody 1 0 (n % 2 ^ 32)) 0

/-- A returned own TEST frame: it arrived at port B. -/
def State.ownTest (s : State) : Option RFrame :=
  s.rng.inq.find? fun f => f.cls == 6 && getU f.body 0 1 == 1 && f.port == 1 && s.addr == some f.src

/-- TEST_RETURNED (R381): the manager blocks port B first and then sends RING_CLOSED. -/
def execTestReturned (s : State) : Out :=
  occurs (s.mgrCandidate && s.rng.isMgr && s.ownTest.isSome) s <|
    match s.ownTest with
    | none => s
    | some f =>
      let s := { s.dropFrame f with rng.testBack := s.rng.testNo }
      if (s.port 1).mode = 1 then s
      else
        let s := (s.modPort 1 fun p => { p with mode := 1 }).modPort 0 fun p => if p.mode = 2 then { p with mode := 0 } else p
        let s := s.ringSend 6 3 0 (s.controlBody 3 1 0) 2
        if s.rng.closed then s else ({ s with rng.closed := true } : State).raise 0x0D04 2

/-- Port B of the manager opens: the break is healed (R381, R382). -/
def State.openRing (s : State) : State :=
  let s := s.modPort 1 fun p => if p.mode = 1 then { p with mode := 0 } else p
  (({ s with rng.closed := false } : State).bump Idx.RNG_HEALS).raise 0x0D03 3

/-- TEST_LOSS (R381): RNG.TESTLOSS consecutive TEST frames are missing. -/
def execTestLoss (s : State) : Out :=
  occurs (s.mgrCandidate && s.rng.isMgr && (s.port 1).mode == 1 &&
      decide (s.rng.testBack + s.parN Idx.RNG_TESTLOSS ≤ s.rng.testNo)) s s.openRing

/-- LINK_DOWN (R381): a LINK_DOWN frame reaches the manager. -/
def execLinkDown (s : State) : Out :=
  occurs (s.ringRuns && (s.nextFrame 6 (some 2)).isSome) s <|
    match s.nextFrame 6 (some 2) with
    | none => s
    | some f => let s := s.dropFrame f
                if s.rng.isMgr ∧ (s.port 1).mode = 1 then s.openRing else s

/-- RING_CLOSED (R381): ports in CONTROL_ONLY pass to FORWARDING. -/
def execRingClosed (s : State) : Out :=
  occurs (s.ringRuns && (s.nextFrame 6 (some 3)).isSome) s <|
    match s.nextFrame 6 (some 3) with
    | none => s
    | some f =>
      let open_ := fun (p : RPort) => if p.link ∧ p.mode = 2 then { p with mode := 0 } else p
      ((s.dropFrame f).modPort 0 open_).modPort 1 open_

/-! ## Ring time (R383–R385) -/

/-- The four TIME bodies (Table RNG-8a): type, a time in ns as µs and fraction, and the rest. -/
def timeBody (type ns : Nat) (rest : List Byte) : List Byte :=
  [BitVec.ofNat 8 type, 0, 0, 0] ++ toLe 8 (ns / 1000) ++ toLe 2 (ns % 1000) ++ [0, 0] ++ rest

/-- A time in a TIME body at an offset, ns. -/
def bodyNs (b : List Byte) (off : Nat) : Nat := getU b off 8 * 1000 + getU b (off + 8) 2

/-- Ring time becomes valid or is lost (R384). -/
def State.setTimeValid (s : State) (b : Bool) : State :=
  if b = s.rng.valid then s
  else if b then ({ s with rng.valid := true } : State).raise 0x0D07 2
  else ({ s with rng.valid := false } : State).raise 0x0D06 3

/-- Ring time steps forward to a time in ns; it never runs backward (R384). -/
def State.stepRing (s : State) (ns : Nat) : State :=
  let t := max ns s.ringNs
  { s with rng.time := t / 1000, rng.ns := t % 1000 }

/-- Ring time runs for `us` µs, with the rest of a correction slewed in at 500 ppm at most (R384). -/
def State.ringPass (s : State) (us : Nat) : State :=
  let most : Int := us / 2
  let d := clampInt (-most) most s.rng.slew
  let t := ((s.ringNs + us * 1000 : Nat) + d).toNat
  { s with rng.time := t / 1000, rng.ns := t % 1000, rng.slew := s.rng.slew - d }

/-- RNG.TMASTER follows; a change is recorded. -/
def State.setMaster (s : State) (a : Option Nat) : State :=
  if s.rng.master = a then s else ({ s with rng.master := a } : State).raise 0x0D08 1 0xFF [(2, a.getD 0xFFFF)]

/-- A sync is applied: `off` is the derived time less the own time at its arrival, ns (R384). -/
def State.applySync (s : State) (src : Nat) (off : Int) : State :=
  let now := s.pwr.opTime
  let s := { s with rng.toffs := clampInt (-(2 ^ 31)) (2 ^ 31 - 1) off, rng.syncHeard := now, rng.synced := true }
  let good := decide (mag off ≤ 20000)
  let was := s.rng.valid
  let s := if good then ({ s with rng.goodAt := now } : State).setTimeValid true
           else if off < -20000 then s.setTimeValid false else s
  if 0 ≤ off then
    if off ≤ 1000 ∨ !was then ({ s with rng.slew := 0 } : State).stepRing (s.ringNs + off.toNat)
    else { s with rng.slew := off }
  else if off < -1000000 then s.ringSend 5 0 src (timeBody 4 s.ringNs [])
  else { s with rng.slew := off }

/-- SYNC (R383, R384): a sync is taken. A master yields at once to a lower address; a sync from a higher one than the present
master's is not followed while the master is heard. -/
def execRingSync (s : State) : Out :=
  occurs (s.ringRuns && (s.nextFrame 5 (some 1)).isSome) s <|
    match s.nextFrame 5 (some 1) with
    | none => s
    | some f =>
      let s := s.dropFrame f
      let lower := match s.addr with | some me => decide (f.src < me) | none => true
      let follows := (!s.rng.isMaster || lower) && (match s.rng.master with
        | some m => decide (f.src ≤ m) || decide (s.rng.syncHeard + 100 ≤ s.pwr.opTime)
        | none => true)
      if !follows then s
      else
        let s := ({ s with rng.isMaster := false } : State).setMaster (some f.src)
        let t := bodyNs f.body 4 + getU f.body 16 8 + (s.port f.port).delay
        s.applySync f.src ((t : Int) - (f.at_ : Int))

/-- SYNC_SEND (R383): the time master sends a sync every 10 ms. -/
def execSyncSend (s : State) : Out :=
  occurs (s.ringRuns && s.rng.isMaster && decide (s.rng.syncSent + 10 ≤ s.pwr.opTime)) s
    (({ s with rng.syncSent := s.pwr.opTime } : State).ringSend 5 2 0 (timeBody 1 s.ringNs (toLe 8 0)))

/-- RNG_TIME_LOST (R384): no sync within 20 µs has been applied for 100 ms. -/
def execRngTimeLost (s : State) : Out :=
  occurs (s.ringRuns && s.rng.valid && !s.rng.isMaster && decide (s.rng.goodAt + 100 < s.pwr.opTime)) s (s.setTimeValid false)

/-- RNG_MASTER_CHANGE (R383, R384): a candidate hears no sync for 100 ms plus 50 µs × its address. -/
def execRngMasterChange (s : State) : Out :=
  occurs (s.ringRuns && s.par Idx.RNG_TMCAND == 1 && !s.rng.isMaster && !s.rng.dup && (match s.addr with
      | some me => decide (100000 + 50 * me ≤ (s.pwr.opTime - s.rng.syncHeard) * 1000)
      | none => false)) s <|
    let s := if s.rng.synced then s else s.stepRing (s.rng.stored * 1000)
    (({ s with rng.isMaster := true, rng.slew := 0 } : State).setMaster s.addr).setTimeValid true

/-- DELAY_REQUEST (R383): once per second a link-local request leaves a port, or one that has arrived is answered with t₂ and
t₃. -/
def execDelayRequest (port : Nat) (s : State) : Out :=
  let asked := s.rng.inq.find? fun f => f.cls == 5 && getU f.body 0 1 == 2 && f.port == port
  occurs (decide (port < 2) && s.portOn port && (s.port port).link &&
      (asked.isSome || decide ((s.port port).reqAt + 1000 ≤ s.pwr.opTime))) s <|
    match asked with
    | some f => (s.dropFrame f).ringSend 5 3 0
        (timeBody 3 f.at_ (toLe 8 s.rng.time ++ toLe 2 s.rng.ns)) port
    | none => (s.modPort port fun p => { p with t1 := some s.ringNs, reqAt := s.pwr.opTime }).ringSend 5 3 0
        (timeBody 2 s.ringNs []) port

/-- DELAY_RESPONSE (R383): d = ((t₄ − t₁) − (t₃ − t₂)) / 2. -/
def execDelayResponse (s : State) : Out :=
  occurs (s.ringRuns && (s.nextFrame 5 (some 3)).isSome) s <|
    match s.nextFrame 5 (some 3) with
    | none => s
    | some f => (s.dropFrame f).modPort f.port fun p => match p.t1 with
        | some t1 =>
          let d : Int := (((f.at_ : Int) - t1) - ((bodyNs f.body 16 : Int) - bodyNs f.body 4)) / 2
          { p with t1 := none, delay := (clampInt 0 100000 d).toNat }
        | none => p

/-- ADVANCE (R384): the time master steps its time forward at once to the largest advance it receives. -/
def execRingAdvance (s : State) : Out :=
  occurs (s.ringRuns && (s.nextFrame 5 (some 4)).isSome) s <|
    match s.nextFrame 5 (some 4) with
    | none => s
    | some f => let s := s.dropFrame f
                if s.rng.isMaster then s.stepRing (bodyNs f.body 4) else s

/-- RING_TIME_STORE (R384): every 1 s, ring time is written to MRAM. -/
def execRingTimeStore (s : State) : Out :=
  occurs (s.lmpServes && decide (s.rng.storedAt + 1000 ≤ s.pwr.opTime)) s
    { s with rng.stored := s.rng.time, rng.storedAt := s.pwr.opTime }

/-- SYNCOUT_PULSE (R385): a multiple of RNG.SYNCPER is reached. -/
def execSyncoutPulse (s : State) : Out :=
  let per := s.parN Idx.RNG_SYNCPER * 1000
  occurs (s.ringRuns && s.rng.valid && decide (0 < per) && decide (s.rng.syncOut / per < s.rng.time / per)) s
    { s with rng.syncOut := s.rng.time / per * per }

/-- SYNCIN_EDGE (R385): a rising edge captures ring time. -/
def execSyncinEdge (s : State) : Out :=
  occurs (s.ringRuns && s.rng.valid) s { s with rng.syncCap := s.rng.time }

end Sys2Proof.Machine
end

