-- ==== Sys2Proof/Machine/Can.lean ====
section
/-!
DEFINITION. The CAN FD controllers and the station supervisors (14_can_fd_controllers.md): message objects, arbitration,
error confinement, and the Nymsupo station profile. `b` is 0 for CAN0 and 1 for CAN1.
-/
namespace Sys2Proof.Machine

/-- A controller. -/
def State.can (s : State) (b : Nat) : Can := if b = 0 then s.can0 else s.can1

/-- A controller changed. -/
def State.modCan (s : State) (b : Nat) (f : Can → Can) : State :=
  if b = 0 then { s with can0 := f s.can0 } else { s with can1 := f s.can1 }

/-- A message object. -/
def State.cobj (s : State) (b j : Nat) : CanObj := (s.can b).objs.getD j {}

/-- A message object changed. -/
def State.modObj (s : State) (b j : Nat) (f : CanObj → CanObj) : State :=
  s.modCan b fun c => { c with objs := modifyAt c.objs j f }

/-- A station. -/
def State.cstn (s : State) (b n : Nat) : CanStn := (s.can b).stns.getD n {}

/-- A station changed. -/
def State.modStn (s : State) (b n : Nat) (f : CanStn → CanStn) : State :=
  s.modCan b fun c => { c with stns := modifyAt c.stns n f }

/-- Event codes of a bus (Table CAN-10). -/
def canEvent (b low : Nat) : Nat := 0x0B00 + 0x100 * b + low

/-! ## The station configuration (R367) -/

/-- `n` bytes of the active configuration. -/
def State.canCfg (s : State) (b off n : Nat) : Nat := s.tblN (0x0500 + b) off n

/-- A station is PRESENT. -/
def State.stnPresent (s : State) (b n : Nat) : Bool := decide (n < 64) && (s.canCfg b (32 * n) 1).testBit 0

/-- Image period, ms, and expected type of a station. -/
def State.stnPeriod (s : State) (b n : Nat) : Nat := s.canCfg b (32 * n + 4) 2
def State.stnType (s : State) (b n : Nat) : Nat := s.canCfg b (32 * n + 6) 2

/-- Role of an object: 0 unused, 1 image receive, 2 output send, 3 display send. Objects 0 and 1 are the controller's. -/
def State.objRole (s : State) (b j : Nat) : Nat := if j < 2 then 0 else s.canCfg b (2048 + 16 * j) 1

/-- Station, retry limit, length and refresh period of an object; objects 0 and 1 have retry limit 3 (R362). -/
def State.objStn (s : State) (b j : Nat) : Nat := s.canCfg b (2048 + 16 * j + 1) 1
def State.objRetry (s : State) (b j : Nat) : Nat := if j < 2 then 3 else s.canCfg b (2048 + 16 * j + 2) 1
def State.objFd (s : State) (b j : Nat) : Bool := decide (2 ≤ j) && (s.canCfg b (2048 + 16 * j + 3) 1).testBit 0
def State.objLen (s : State) (b j : Nat) : Nat := s.canCfg b (2048 + 16 * j + 4) 1
def State.objRefresh (s : State) (b j : Nat) : Nat := s.canCfg b (2048 + 16 * j + 6) 2

/-- The object of a role for a station. -/
def State.objOf (s : State) (b n role : Nat) : Option Nat :=
  (List.range 128).find? fun j => s.objRole b j == role && s.objStn b j == n

/-- The send objects of the stations. -/
def State.sendObjs (s : State) (b : Nat) : List Nat :=
  (List.range 128).filter fun j => s.objRole b j == 2 || s.objRole b j == 3

/-- Identifier of the frame an object sends (R361). -/
def State.objId (s : State) (b j : Nat) : Nat :=
  if j = 0 then 0x1FC else if j = 1 then 0x1FD
  else (if s.objRole b j = 2 then 0x400 else 0x500) + 4 * s.objStn b j

/-! ## Queueing, cancelling and the controller's own states -/

/-- The controller is on its bus: ERROR_ACTIVE or ERROR_PASSIVE. -/
def State.onBus (s : State) (b : Nat) : Bool := (s.can b).st == 1 || (s.can b).st == 2

/-- A frame is queued: it replaces one that has not won arbitration, and waits behind one that has (R355). -/
def CanObj.queue (o : CanObj) (bytes : List Byte) : CanObj :=
  let o := { o with last := some bytes, force := false }
  if o.bus.isSome then { o with next := some bytes }
  else if o.pend.isSome then { o with pend := some bytes, next := none }
  else { o with pend := some bytes, next := none, fails := 0, other := false, noRetry := false }

/-- A frame of an object ends: the one that waited behind it is queued. -/
def CanObj.finish (o : CanObj) (status : Nat) : CanObj :=
  let o := { o with bus := none, pend := none, status := status, noRetry := false }
  match o.next with
  | some bytes => { o with pend := some bytes, next := none, fails := 0, other := false }
  | none => o

/-- A cancel, decided at the controller's frame boundary: before arbitration is won the frame is removed unsent with this status,
after it the frame finishes and is not retried (R357). -/
def CanObj.cancel (status : Nat) (o : CanObj) : CanObj :=
  if o.bus.isSome then { o with noRetry := true, next := none }
  else if o.pend.isSome then { o with pend := none, next := none, status := status }
  else o

/-- What a write of CANb.CANCEL completes with, none for OK (R357). -/
def cancelRefused (j : Nat) (o : CanObj) : Option Status :=
  if j < 2 then some .denied
  else if o.bus.isSome then some .tooLate
  else if o.pend.isSome then none else some .notFound

/-- A station is declared LOST: its pending frames are flushed, LOSTCNT rises and the loss is recorded (R364). -/
def State.stationLost (s : State) (b n : Nat) : State :=
  let js := (s.sendObjs b).filter fun j => s.objStn b j == n
  let s := js.foldl (fun s j => s.modObj b j (CanObj.cancel Status.aborted.code)) s
  let s := match s.objOf b n 1 with
    | some j => s.modObj b j fun o => { o with fresh := false }
    | none => s
  let s := s.modStn b n fun x => { x with lost := true, back := false }
  (s.bump (Idx.CANb_LOSTCNT b)).raise (canEvent b 8) 3 n

/-- Every pending frame is cancelled (R357). -/
def State.cancelAll (s : State) (b status : Nat) : State :=
  s.modCan b fun c => { c with objs := c.objs.map (CanObj.cancel status) }

/-- ENABLE is cleared: the controller leaves its bus, cancels every pending frame and declares every present station LOST
(R371). -/
def State.canDisable (s : State) (b : Nat) : State :=
  let s := (s.modCan b fun c => { c with st := 0, alone := false, ackRun := 0 }).cancelAll b Status.aborted.code
  ((List.range 64).filter fun n => s.stnPresent b n && !(s.cstn b n).lost).foldl (fun s n => s.stationLost b n) s

/-- The controller joins its bus: its error counters start at 0. -/
def State.canJoin (s : State) (b : Nat) : State :=
  if s.parBit (Idx.CANb_CFG b) 0 then
    s.modCan b fun c => { c with st := 1, tec := 0, rec_ := 0, alone := false, ackRun := 0, standby := false }
  else s

/-- The send objects of a station, or of all, queue a frame at the next output phase (R355, R359, R365). -/
def State.forceObjs (s : State) (b : Nat) (p : Nat → Bool) : State :=
  ((s.sendObjs b).filter fun j => p (s.objStn b j)).foldl (fun s j => s.modObj b j fun o => { o with force := true }) s

/-- The frame an object sends from the station's output window, forces substituted (R355, Table CAN-3; 08 R174). -/
def State.windowBytes (s : State) (b j : Nat) : List Byte :=
  let base := 0x6100 + 128 * (64 * b + s.objStn b j) + (if s.objRole b j = 3 then 64 else 0)
  s.gysBytes base (s.objLen b j)

/-- The output phase hands the output windows to a controller: an object queues a frame whose bytes differ from the last ones
queued, or that is due after a return; nothing is queued for a LOST station (R355; 08 R184). -/
def State.canOutput (s : State) (b : Nat) : State :=
  if !s.onBus b then s
  else (s.sendObjs b).foldl (fun s j =>
    let n := s.objStn b j
    let o := s.cobj b j
    let bytes := s.windowBytes b j
    if s.stnPresent b n ∧ !(s.cstn b n).lost ∧ (o.force ∨ o.last ≠ some bytes) then s.modObj b j fun o => o.queue bytes
    else s) s

/-- REFRESH_SEND (R355): an object's refresh period has passed since its last successful frame, and it queues the bytes of the
last output phase. -/
def execRefreshSend (b j : Nat) (s : State) : Out :=
  let o := s.cobj b j
  let n := s.objStn b j
  occurs (decide (b < 2 ∧ j < 128) && s.engines && s.onBus b && s.gys.st == 1 && (s.objRole b j == 2 || s.objRole b j == 3) &&
      s.stnPresent b n && !(s.cstn b n).lost && decide (0 < s.objRefresh b j) && o.pend.isNone && o.bus.isNone && o.last.isSome &&
      decide (o.sentAt + s.objRefresh b j ≤ s.pwr.opTime)) s
    (s.modObj b j fun o => o.queue (o.last.getD []))

/-! ## Arbitration and its outcome (R353, R356, R358–R360) -/

/-- The object the controller offers: the lowest identifier among pending frames, then the lower object number. -/
def State.offered (s : State) (b : Nat) : Option Nat :=
  (List.range 128).foldl (fun best j =>
    if (s.cobj b j).pend.isNone then best
    else match best with
      | none => some j
      | some k => if s.objId b j < s.objId b k then some j else some k) none

/-- The bus is idle as far as the controller's own frames go. -/
def State.busIdle (s : State) (b : Nat) : Bool := (s.can b).objs.all fun o => o.bus.isNone

/-- ARBITRATION (R353): at bus idle the lowest pending identifier is offered and wins or loses. -/
def execArbitration (b : Nat) (won : Bool) (s : State) : Out :=
  occurs (decide (b < 2) && s.onBus b && s.busIdle b && (s.offered b).isSome) s <|
    match s.offered b with
    | none => s
    | some j => if won then s.modObj b j fun o => { o with bus := o.pend, pend := none } else s

/-- The first frame acknowledged or received without error ends ALONE and a run of acknowledgement errors (R360). -/
def State.canGood (s : State) (b : Nat) : State :=
  let c := s.can b
  let s := s.modCan b fun c => { c with ackRun := 0, alone := false }
  if c.alone then s.raise (canEvent b 6) 2 else s

/-- Transmitter delay compensation is active for a frame of an object: an FD frame at 2 Mbit/s or more (R352). -/
def State.tdcActive (s : State) (b j : Nat) : Bool := s.objFd b j && decide (1 ≤ s.parN (Idx.CANb_DBR b))

/-- Two data bit times, ns (R352, Table CAN-1). -/
def State.twoBits (s : State) (b : Nat) : Nat :=
  2 * (match s.parN (Idx.CANb_DBR b) with | 0 => 1000 | 1 => 500 | 2 => 250 | _ => 200)

/-- The delay a sent frame measured. -/
def State.noteTdc (s : State) (b j tdcNs : Nat) : State :=
  if s.tdcActive b j then s.modCan b fun c => { c with tdc := min tdcNs 1000 } else s

/-- CAN_FRAME_SENT (R356): the frame on the bus is acknowledged; `tdcNs` is the loop delay it measured. -/
def execCanFrameSent (b j tdcNs : Nat) (s : State) : Out :=
  occurs (decide (b < 2 ∧ j < 128) && (s.cobj b j).bus.isSome && (!s.tdcActive b j || decide (tdcNs ≤ s.twoBits b))) s <|
    let s := (s.noteTdc b j tdcNs).canGood b
    let s := s.modObj b j fun o => { o.finish Status.ok.code with sentAt := s.pwr.opTime }
    let s := s.modCan b fun c => { c with tec := c.tec - 1 }
    let c := s.can b
    if c.st = 2 ∧ c.tec < 128 ∧ c.rec_ < 128 then (s.modCan b fun c => { c with st := 1 }).raise (canEvent b 2) 2 else s

/-- The error counter has moved: ERROR_PASSIVE, or bus-off with every pending frame cancelled (R358, R359). -/
def State.canErrorState (s : State) (b : Nat) : State :=
  let c := s.can b
  if 255 < c.tec then
    let s := (s.modCan b fun c => { c with st := 3, boffAt := s.pwr.opTime }).cancelAll b Status.state.code
    (s.bump (Idx.CANb_BOFFCNT b)).raise (canEvent b 3) 4
  else if 128 ≤ c.tec ∧ c.st = 1 then (s.modCan b fun c => { c with st := 2 }).raise (canEvent b 1) 3
  else s

/-- The last allowed attempt of a frame has failed: it is dropped as NO_ACK or INTEGRITY (R356). -/
def State.canDrop (s : State) (b j : Nat) : State :=
  let o := s.cobj b j
  let s := s.modObj b j fun o => o.finish (if o.other then Status.integrity.code else Status.noAck.code)
  if o.other then s.bump (Idx.CANb_ERRCNT b)
  else (s.bump (Idx.CANb_NOACKCNT b)).raiseCounted (canEvent b 7) 2 0xFF [(1, j)]

/-- FAILED_ATTEMPT (R356, R358–R360): the frame on the bus ends in an error frame, for want of an acknowledgement (`ack`) or by
another error; `dominant`: a dominant bit is seen in the passive error flag. -/
def execFailedAttempt (b j : Nat) (ack dominant : Bool) (tdcNs : Nat) (s : State) : Out :=
  occurs (decide (b < 2 ∧ j < 128) && (s.cobj b j).bus.isSome) s <|
    let s := s.noteTdc b j tdcNs
    let still := (s.can b).st == 2 && ack && !dominant
    let s := s.modCan b fun c => { c with tec := if still then c.tec else c.tec + 8, ackRun := if ack then c.ackRun + 1 else 0 }
    let s := if 16 ≤ (s.can b).ackRun ∧ !(s.can b).alone then
        ((s.modCan b fun c => { c with alone := true }).bump (Idx.CANb_ALONECNT b)).raise (canEvent b 5) 3 else s
    let s := s.modObj b j fun o => { o with fails := o.fails + 1, other := o.other || !ack }
    let o := s.cobj b j
    let s := if s.objRetry b j < o.fails ∨ o.noRetry then s.canDrop b j
             else s.modObj b j fun o => { o with pend := o.bus, bus := none }
    if s.onBus b then s.canErrorState b else s

/-- CAN_BUS_ON (R359): with AUTOREC set, CANb.BOFFDLY and 128 occurrences of 11 recessive bits have passed. -/
def execCanBusOn (b recessive : Nat) (s : State) : Out :=
  occurs (decide (b < 2) && (s.can b).st == 3 && s.parBit (Idx.CANb_CFG b) 2 &&
      decide ((s.can b).boffAt + s.parN (Idx.CANb_BOFFDLY b) ≤ s.pwr.opTime) && decide (128 ≤ recessive)) s <|
    let s := s.modCan b fun c => { c with st := 1, tec := 0, rec_ := 0 }
    ((s.forceObjs b fun _ => true).raise (canEvent b 4) 2).raise (canEvent b 2) 2

/-! ## Frames received (R354, R361, R364–R366) -/

/-- A frame completes the image object of a station: into the fill buffer while the input phase copies, where it overwrites an
earlier one; else into the complete buffer (R354). -/
def State.takeImage (s : State) (b n j : Nat) (bytes : List Byte) (copying : Bool) : State :=
  let now := s.pwr.opTime
  let lost := (s.cstn b n).lost
  let s := s.modStn b n fun x => { x with imgs := (x.imgs + 1) % 2 ^ 32 }
  if copying then
    let ovr := (s.cobj b j).fill.isSome
    let s := s.modObj b j fun o => { o with fill := some bytes, fillAt := now }
    if ovr then (s.bump (Idx.CANb_RXOVR b)).raiseCounted (canEvent b 0x0B) 0 n else s
  else s.modObj b j fun o => { o with full := some bytes, fullAt := now, fill := none, fresh := !lost }

/-- The copy of the input phase ends: a frame in the fill buffer becomes the complete one (R354). -/
def State.endCopy (s : State) (b n j : Nat) : State :=
  s.modObj b j fun o => match o.fill with
    | some bytes => { o with full := some bytes, fullAt := o.fillAt, fill := none, fresh := !(s.cstn b n).lost }
    | none => o

/-- CAN_FRAME_RECEIVED (R350, R354, R361): a frame ends without error. `base`: a data frame with an 11-bit identifier;
`copying`: the input phase copies complete buffers as it ends. -/
def execCanFrameReceived (b id : Nat) (base : Bool) (bytes : List Byte) (copying : Bool) (s : State) : Out :=
  let n := id / 4 % 64
  occurs (decide (b < 2 ∧ id < 2048 ∧ bytes.length ≤ 64) && s.onBus b &&
      !(base && (id / 256 == 0 || id / 256 == 6) && id % 4 == 0)) s <|
    let s := s.canGood b
    if !base then s.bump (Idx.CANb_UNKCNT b)
    else if id / 256 = 7 then s.bump (Idx.CANb_SVCCNT b)
    else if (id / 256 = 2 ∨ id / 256 = 3) ∧ id % 4 = 0 ∧ s.stnPresent b n then
      match s.objOf b n 1 with
      | some j => s.takeImage b n j bytes copying
      | none => s.bump (Idx.CANb_UNKCNT b)
    else s.bump (Idx.CANb_UNKCNT b)

/-- STATION_HEARTBEAT (R361, R364, R365): a class 6 frame of station `n`. -/
def execStationHeartbeat (b n : Nat) (bytes : List Byte) (s : State) : Out :=
  occurs (decide (b < 2 ∧ n < 64 ∧ bytes.length ≤ 8) && s.onBus b) s <|
    let s := s.canGood b
    if !s.stnPresent b n then s.bump (Idx.CANb_UNKCNT b)
    else if getU bytes 1 1 ≠ 1 ∨ (s.stnType b n ≠ 0 ∧ getU bytes 2 2 ≠ s.stnType b n) then s.raise (canEvent b 0x0A) 4 n
    else if getU bytes 0 1 ≠ 1 then s
    else
      let was := (s.cstn b n).lost
      let s := s.modStn b n fun x => { x with hb := bytes, hbAt := s.pwr.opTime, lost := false, back := x.back || was }
      if was then s.forceObjs b fun k => k == n else s

/-- CAN_STATION_LOST (R364): 160 ms since the last valid heartbeat, seen at the 1 ms tick. -/
def execCanStationLost (b n : Nat) (s : State) : Out :=
  occurs (decide (b < 2) && s.engines && s.stnPresent b n && !(s.cstn b n).lost &&
      decide ((s.cstn b n).hbAt + 160 ≤ s.pwr.opTime)) s (s.stationLost b n)

/-- CAN_EMERGENCY (R361, R366): a class 0 frame of station `n`. -/
def execCanEmergency (b n : Nat) (bytes : List Byte) (s : State) : Out :=
  occurs (decide (b < 2 ∧ n < 64 ∧ bytes.length ≤ 8) && s.onBus b) s <|
    let s := s.canGood b
    if !s.stnPresent b n then s.bump (Idx.CANb_UNKCNT b)
    else
      let s := s.modStn b n fun x => { x with emerg := bytes, emergs := (x.emergs + 1) % 256 }
      s.raise (canEvent b 0x0C) 3 n ((List.range 4).map fun k => (1, (getU bytes k 1 : Int)))

/-! ## The controller's own frames (R362) -/

/-- Bytes of the controller heartbeat (Table CAN-3). -/
def State.canHeartbeat (s : State) (b state : Nat) : List Byte :=
  toLe 1 state ++ toLe 1 (b2n (s.dspStatus == 1) + 2 * b2n (s.gys.st != 1) + 4 * b2n (s.mode == 1)) ++
    toLe 2 (s.parN Idx.RNG_ADDR) ++ toLe 1 1 ++ toLe 1 (s.can b).hbNo ++ [0, 0]

/-- A controller heartbeat is queued on object 0. -/
def State.queueHeartbeat (s : State) (b state : Nat) : State :=
  let s := s.modObj b 0 fun o => o.queue (s.canHeartbeat b state)
  s.modCan b fun c => { c with hbNo := (c.hbNo + 1) % 256, hbAt := some s.pwr.opTime }

/-- CONTROLLER_HEARTBEAT (R362): every 50 ms, while the LMP runs. -/
def execControllerHeartbeat (b : Nat) (s : State) : Out :=
  occurs (decide (b < 2) && s.engines && !s.lmp.restarting && s.onBus b && (match (s.can b).hbAt with
      | some t => decide (t + 50 ≤ s.pwr.opTime)
      | none => true)) s (s.queueHeartbeat b s.pwr.state.code)

/-- The controller time frame on object 1 (R362, Table CAN-3); not sent while the calendar is unset. -/
def State.queueTime (s : State) (b : Nat) : State :=
  if !s.onBus b || !s.rtc.set || s.lmp.restarting then s
  else
    let c := s.rtc.cal
    s.modObj b 1 fun o => o.queue (toLe 2 c.year ++ toLe 1 c.month ++ toLe 1 c.day ++ toLe 1 c.hour ++ toLe 1 c.minute ++
      toLe 1 c.second ++ toLe 1 (b2n s.timeLost))

end Sys2Proof.Machine
end

