-- ==== Sys2Proof/Machine/Beacon.lean ====
section
/-!
DEFINITION. Beacon dispatch and the state summaries (15_peer_ring_and_beacon_dispatch.md R387–R403): registrations, the auction, the
allocation record, train notices and surge ratios, local service.
-/
namespace Sys2Proof.Machine

/-! ## The plan and the cost of a call (R393) -/

/-- A stop of the plan: its position, and the direction it serves (0 for both). -/
structure Stop where
  pos : Int
  dir : Int
  /-- the call that is being costed -/
  mine : Bool := false
  deriving DecidableEq, Repr

/-- A stop inserted in rising order of `key`. -/
def insertStop (key : Stop → Int) (x : Stop) : List Stop → List Stop
  | [] => [x]
  | y :: ys => if key x < key y then x :: y :: ys else y :: insertStop key x ys

/-- Stops in rising order of `key`. -/
def sortStops (key : Stop → Int) (xs : List Stop) : List Stop := xs.foldl (fun acc x => insertStop key x acc) []

/-- The collective rule: stops ahead in the present direction in order, then the reversal, then the stops behind. -/
def routeOf (p d : Int) (xs : List Stop) : List Stop :=
  let ahead := fun (x : Stop) => decide (0 ≤ d * (x.pos - p))
  let fwd := xs.filter fun x => (x.dir == d || x.dir == 0) && ahead x
  let rev := xs.filter fun x => x.dir == -d || (x.dir == 0 && !ahead x)
  let third := xs.filter fun x => x.dir == d && !ahead x
  sortStops (fun x => d * x.pos) fwd ++ sortStops (fun x => -(d * x.pos)) rev ++ sortStops (fun x => d * x.pos) third

/-- Direction a call's stop serves: 1 up, −1 down. -/
def State.callDir (s : State) (c : Call) : Int :=
  match c.kind with
  | 0 => 1
  | 1 => -1
  | 2 => if s.level c.landing ≤ s.level c.dest then 1 else -1
  | _ => if c.flow = 0 then 1 else -1

/-- The own address, 0xFFFF unset. -/
def State.me (s : State) : Nat := s.parN Idx.RNG_ADDR

/-- The car holds the call. -/
def State.holds (s : State) (c : Call) : Bool := c.holder == some s.me

/-- The landing a held call's stop is at. -/
def Call.at_ (c : Call) : Nat := if c.onward then c.dest else c.landing

/-- The car calls of the bitmap variable DSP.CCVAR names; none when it is 0 (R393). -/
def State.carCalls (s : State) : List Nat :=
  match s.gvar? (s.parN Idx.DSP_CCVAR) with
  | some v => if s.par Idx.DSP_CCVAR = 0 then []
      else (List.range s.nland).filter fun k => (s.gysByte (v.bitAddr 0 / 8 + k / 8)).toNat.testBit (k % 8)
  | none => []

/-- The stops of the plan: the present target, the calls held, the car calls. -/
def State.stops (s : State) : List Stop :=
  let held := (s.dsp.calls.filter s.holds).map fun c => (⟨s.level c.at_, s.callDir c, false⟩ : Stop)
  let cc := s.carCalls.map fun k => (⟨s.level k, 0, false⟩ : Stop)
  let tgt := match s.hst.target with
    | some t => [(⟨s.targetPos t, 0, false⟩ : Stop)]
    | none => []
  let any := (tgt ++ cc).foldl (fun acc x => if acc.any fun y => y.pos == x.pos then acc else acc ++ [x]) []
  held ++ any.filter fun x => !(held.any fun y => y.pos == x.pos)

/-- The present direction: of the reference in motion, else toward the first stop, 0 with none. -/
def State.planDir (s : State) (xs : List Stop) : Int :=
  if !s.refRest then sgn (s.hst.planEnd - s.hst.ref.um)
  else match s.hst.target, xs with
    | some t, _ => sgn (s.targetPos t - s.carPos)
    | none, x :: _ => if x.pos = s.carPos then x.dir else sgn (x.pos - s.carPos)
    | none, [] => 0

/-- Time of a run over `d` µm from rest to rest at HST.VRATED, HST.AMAX and HST.JMAX, ms to the nearest. -/
def State.runMs (s : State) (d : Int) : Nat :=
  if d = 0 then 0
  else (planUs (planFwd 0 0 ((mag d : Int) * 1000)
    (limOf (s.parN Idx.HST_VRATED) (s.parN Idx.HST_AMAX) (s.parN Idx.HST_JMAX))).1 + 500) / 1000

/-- DSP.STOPMS less the time since the doors opened, at least 0; 0 with the doors closed. -/
def State.remainingDwell (s : State) : Nat :=
  let of := fun (d : Door) => if d.st = .open_ ∨ d.st = .holding then s.parN Idx.DSP_STOPMS - (s.pwr.opTime - d.restAt) else 0
  max (of s.dr0) (of s.dr1)

/-- Time of the legs through a list of stops from a position, each with its stop and start allowance. -/
def State.legsMs (s : State) (p : Int) : List Stop → Nat
  | [] => 0
  | x :: xs => s.runMs (x.pos - p) + s.parN Idx.DSP_STOPMS + s.parN Idx.DSP_STARTMS + s.legsMs x.pos xs

/-- The part of a route up to and with the call. -/
def upTo : List Stop → List Stop
  | [] => []
  | x :: xs => if x.mine then [x] else x :: upTo xs

/-- The legs of a route from a position, as pairs. -/
def legs (p : Int) : List Stop → List (Int × Int)
  | [] => []
  | x :: xs => (p, x.pos) :: legs x.pos xs

/-- Time to serve a call, ms, and its cost (R393). -/
def State.etsCost (s : State) (c : Call) : Nat × Nat :=
  let others := s.stops
  let call : Stop := ⟨s.level c.landing, s.callDir c, true⟩
  let xs := call :: others
  let d0 := s.planDir others
  let d := if d0 = 0 then (if call.pos = s.carPos then call.dir else sgn (call.pos - s.carPos)) else d0
  let route := routeOf s.carPos d xs
  let free := (s.dsp.calls.filter s.holds).all fun h => h.kind == 3 && h.landing == c.landing
  let here := s.parkedAt c.landing && s.doorsShut && s.refRest && s.hst.target.isNone && free && s.carCalls.isEmpty
  let ets := if here then 0 else s.remainingDwell + s.legsMs s.carPos (upTo route) - s.parN Idx.DSP_STOPMS
  let before := legs s.carPos (routeOf s.carPos d others)
  let added := (legs s.carPos route).filter fun l => !before.contains l
  let kg := s.loadKg - s.par Idx.HST_BALKG
  let e := (added.map fun l => max 0 (kg * (l.2 - l.1))).foldl (· + ·) (0 : Int)
  let energy := (rdiv (e * 981 * s.par Idx.DSP_WENERGY) (10 ^ 11)).toNat
  let pct := (s.loadKg * 100 / max 1 (s.par Idx.HST_RATEDKG)).toNat
  (ets, ets + s.parN Idx.DSP_WLOAD * (pct - s.parN Idx.DSP_LOADKNEE) + energy)

/-- Car load in percent of rated load. -/
def State.loadPct (s : State) : Nat := (s.loadKg * 100 / max 1 (s.par Idx.HST_RATEDKG)).toNat

/-- A zone reservation excludes the landing: its body extent lies beyond the own zone (R392; 16 R417). -/
def State.zoneExcludes (s : State) (landing : Nat) : Bool :=
  s.par Idx.SHF_ENABLE == 1 && (s.zoneNeed (s.level landing)).isSome

/-- The car bids for a call (R390, R392, R401); not in inspection (Table DSP-1). -/
def State.canBid (s : State) (c : Call) : Bool :=
  s.inDispatch && s.pwr.state != .dormant && s.mode != 1 && decide (s.loadPct < s.parN Idx.DSP_FULLPCT) &&
    !s.zoneExcludes c.landing &&
    (c.kind != 3 || ((s.dsp.calls.filter s.holds).isEmpty && s.doorsShut && s.hst.target.isNone))

/-- The present target is done and nothing more is planned: ms until then. -/
def State.toIdle (s : State) : Nat :=
  let xs := s.stops
  s.remainingDwell + s.legsMs s.carPos (routeOf s.carPos (s.planDir xs) xs)

/-! ## Allocation records -/

/-- A record by registrar and number. -/
def State.call? (s : State) (reg num : Nat) : Option Call := s.dsp.calls.find? fun c => c.reg == reg && c.num == num

/-- A record changed. -/
def State.modCall (s : State) (reg num : Nat) (f : Call → Call) : State :=
  { s with dsp.calls := s.dsp.calls.map fun c => if c.reg == reg && c.num == num then f c else c }

/-- A record is dropped. -/
def State.dropCall (s : State) (reg num : Nat) : State :=
  { s with dsp.calls := s.dsp.calls.filter fun c => !(c.reg == reg && c.num == num) }

/-- The version of a record rises (R395). -/
def Call.touch (c : Call) : Call := { c with ver := (c.ver + 1) % 2 ^ 32 }

/-- A body of kind 0x10 (Table DSP-3): operation 0 HOLD, 1 RELEASE, 2 RECORD. -/
def callBody (c : Call) (op holder : Nat) : List Byte :=
  toLe 2 c.reg ++ toLe 2 c.num ++ toLe 1 c.kind ++ toLe 1 c.landing ++ toLe 1 c.dest ++ toLe 1 op ++ toLe 2 holder ++
    List.replicate 6 0

/-- The holder takes a call: its bit appears from the next input phase (R395, R401). -/
def State.takeCall (s : State) (reg num : Nat) : State :=
  let s := s.modCall reg num fun c => { c with holder := some s.me }
  match s.call? reg num with
  | none => s
  | some c =>
    let s := (s.bump Idx.DSP_WON).raise 0x0E02 1 c.landing [(2, s.me), (2, reg), (2, num)]
    if c.kind = 3 then s.raise 0x0E09 1 c.landing [(2, s.me)] else s

/-- A body of an auction frame BID_REQ (Table DSP-2). -/
def Call.reqBody (c : Call) : List Byte :=
  toLe 1 1 ++ toLe 1 c.kind ++ toLe 2 c.reg ++ toLe 2 c.num ++ toLe 1 c.landing ++ toLe 1 c.dest ++
    toLe 4 (if c.kind = 3 then c.notice.2 else 0) ++ toLe 4 0 ++ toLe 8 (c.tr + c.win * 1000)

/-- A frame to the dispatch group. -/
def State.groupSend (s : State) (cls : Nat) (body : List Byte) : State := s.ringSend cls 1 (s.parN Idx.DSP_GROUP) body

/-- An auction opens for an own call: BID_REQ to the group, and the own bid (R392). In local service, and without a group or an
address, the call is allocated to the car itself at once (R402). -/
def State.startAuction (s : State) (num : Nat) : State :=
  match s.call? s.me num with
  | none => s
  | some c =>
    if s.dspStatus = 1 ∨ s.dspStatus = 4 ∨ s.addr.isNone then
      let s := s.modCall s.me num fun c => { c.touch with ph := .settled, winEts := 0 }
      s.takeCall s.me num
    else
      let own : List Bid := if s.canBid c then let e := s.etsCost c; [⟨s.me, e.2, e.1⟩] else []
      let c := { c with ph := .bidding, tr := s.rng.time, win := s.parN Idx.DSP_BIDWIN, bids := own, best := none }
      let s := (s.modCall s.me num fun _ => c).bump Idx.DSP_AUCTIONS
      let s := match own with | b :: _ => { s with dsp.lastCost := b.cost } | [] => s
      s.groupSend 3 c.reqBody

/-- A held call is auctioned again (R398). -/
def State.reauction (s : State) (num : Nat) : State :=
  match s.call? s.me num with
  | none => s
  | some c => ((s.bump Idx.DSP_REAUCTCNT).raise 0x0E03 2 c.landing).startAuction num

/-- The own calls that a car holds, for a registrar. -/
def State.heldBy (s : State) (a : Nat) : List Nat :=
  (s.dsp.calls.filter fun c => c.reg == s.me && c.holder == some a && c.ph == .settled && !c.onward).map fun c => c.num

/-- A car still is in dispatch, as its summaries show (R395). -/
def State.carInDispatch (s : State) (a : Nat) : Bool :=
  if s.addr = some a then s.inDispatch
  else s.rng.peers.any fun p => p.addr == a && !p.lost && getU p.body 2 1 == 0

/-- The group that fixes a bid: RECORD at the registrar, HOLD at the winner, RELEASE at a former holder (R395). -/
def State.fixBid (s : State) (num : Nat) (b : Bid) : State :=
  match s.call? s.me num with
  | none => s
  | some c =>
    let others := (if b.addr = s.me then [] else [b.addr]) ++ (match c.holder with
      | some h => if h = s.me ∨ h = b.addr then [] else [h]
      | none => [])
    let part := fun a => if a = s.me then 0 else (others.findIdx fun x => x == a) + 1
    let act := fun (a op : Nat) => ({ part := part a, kind := 0x10, body := callBody c op b.addr,
                                      vers := if a = s.me then [c.ver] else [] } : Act)
    let acts := [act s.me 2, act b.addr 0] ++ (match c.holder with
      | some h => if h = b.addr then [] else [act h 1]
      | none => [])
    match s.openInternal .beacon others acts num with
    | none => s
    | some (g, s) => s.modCall s.me num fun c => { c with ph := .group g, best := some b }

/-- The lowest cost wins, a tie goes to the lower address (R394). -/
def lowestBid (bs : List Bid) : Option Bid :=
  bs.foldl (fun best b => match best with
    | none => some b
    | some m => if b.cost < m.cost ∨ (b.cost = m.cost ∧ b.addr < m.addr) then some b else some m) none

/-- The end of the group that fixed a bid: settled, or the next bid of the same auction, or a new auction (R395). -/
def State.beaconEnded (s : State) (g : Nat) (ok : Bool) : State :=
  match s.dsp.calls.find? fun c => c.reg == s.me && c.ph == .group g with
  | none => s
  | some c =>
    if ok then s.modCall s.me c.num fun c => { c with ph := .settled, winEts := (c.best.map fun b => b.ets).getD 0 }
    else
      let rest := c.bids.filter fun b => (match c.best with | some m => b.addr != m.addr | none => true) && s.carInDispatch b.addr
      let s := s.modCall s.me c.num fun c => { c with ph := .bidding, bids := rest, best := none }
      match lowestBid rest with
      | some b => s.fixBid c.num b
      | none => s.startAuction c.num

/-- Beacon's check of a kind 0x10 action, from a remote coordinator or from itself (R395). -/
def State.callRefusal (s : State) (coord : Option Nat) (body : List Byte) : Option Status :=
  let own := match coord with
    | some a => s.member && s.rng.peers.any fun p => p.addr == a && getU p.body 1 1 == s.parN Idx.DSP_GROUP
    | none => true
  if !own then some .denied
  else if getU body 7 1 = 0 ∧ (!s.inDispatch ∨ s.parN Idx.DSP_FULLPCT ≤ s.loadPct) then some .state
  else if 2 < getU body 7 1 then some .range else none

/-- Version of the record a kind 0x10 body names. -/
def State.callVer (s : State) (body : List Byte) : Nat :=
  match s.call? (getU body 0 2) (getU body 2 2) with | some c => c.ver | none => 0

/-- A kind 0x10 action applies (R395). -/
def State.callApply (s : State) (body : List Byte) : State :=
  let reg := getU body 0 2
  let num := getU body 2 2
  let op := getU body 7 1
  let holder := getU body 8 2
  let s := if (s.call? reg num).isSome then s
    else { s with dsp.calls := s.dsp.calls ++ [{ reg := reg, num := num, kind := getU body 4 1, landing := getU body 5 1,
                                                 dest := getU body 6 1 }] }
  let s := s.modCall reg num Call.touch
  if op = 0 then s.takeCall reg num
  else
    let s := s.modCall reg num fun c => { c with holder := some holder }
    if reg ≠ s.me ∧ op = 1 then s.dropCall reg num else s

/-- Repair after a diverged allocation: withdrawn here, auctioned again by its registrar (07 Table GRP-9). -/
def State.callDiverged (s : State) (body : List Byte) : State :=
  let reg := getU body 0 2
  let num := getU body 2 2
  let s := s.modCall reg num fun c => { c.touch with holder := none }
  if reg = s.me then s.reauction num else s.dropCall reg num

/-! ## Registration and auction (R391–R397) -/

/-- CALLREG (R391): Beacon takes the registration of slot `k` at its LMP tick. -/
def execCallreg (k : Nat) (s : State) : Out :=
  occurs (decide (k < 8) && s.lmpServes && (s.gysReq (3 + k)).isSome) s <|
    let p := (s.gysReq (3 + k)).getD []
    let seq := getU p 0 2
    let landing := getU p 2 1
    let s := s.tookReq (3 + k)
    if !s.present landing ∨ 2 < getU p 3 1 then s.gysAck (3 + k) seq .range
    else
      let s := (s.gysAck (3 + k) seq .accepted).raise 0x0E01 0 landing
      let drop := fun (c : Call) => match c.slot with | some (j, _) => if j = k then { c with slot := none } else c | none => c
      let c : Call := { reg := s.me, num := s.dsp.num, kind := getU p 3 1, landing := landing,
                        dest := if getU p 3 1 = 2 then getU p 4 1 else 0xFF, slot := some (k, seq) }
      let n := s.dsp.num
      let s := { s with dsp.calls := s.dsp.calls.map drop ++ [c], dsp.num := (n + 1) % 65536 }
      s.startAuction n

/-- The call a BID_REQ asks bids for (Table DSP-2); a pre-position call takes flow and sender from its notice. -/
def State.askedCall (s : State) (f : RFrame) : Call :=
  let b := f.body
  let x := s.dsp.notices.find? fun x => x.id == getU b 8 4
  { reg := getU b 2 2, num := getU b 4 2, kind := getU b 1 1, landing := getU b 6 1, dest := getU b 7 1,
    flow := (x.map fun x => x.flow).getD 0, notice := ((x.map fun x => x.src).getD 0, getU b 8 4) }

/-- Ring time of a frame's sending, as its low 32 bits give it. -/
def State.sentTime (s : State) (f : RFrame) : Nat := s.rng.time - (s.rng.time % 2 ^ 32 + 2 ^ 32 - f.time) % 2 ^ 32

/-- The own open auction for a landing and kind; pre-position calls are never merged (R397). -/
def State.ownAuction (s : State) (landing kind : Nat) : Option Call :=
  s.dsp.calls.find? fun x => x.reg == s.me && x.landing == landing && x.kind == kind && kind != 3 && x.ph == .bidding

/-- The other auction began earlier, or at the same time by the lower address (R397). -/
def State.earlier (s : State) (f : RFrame) (x : Call) : Bool :=
  decide (s.sentTime f < x.tr) || (s.sentTime f == x.tr && decide (f.src < s.me))

/-- The BID for a call (Table DSP-2). -/
def State.bidBody (s : State) (c : Call) : List Byte :=
  let e := s.etsCost c
  toLe 1 2 ++ toLe 1 (min 255 s.loadPct) ++ toLe 2 c.reg ++ toLe 2 c.num ++ toLe 1 (b2n (s.par Idx.SHF_ENABLE == 1)) ++ [0] ++
    toLe 4 e.2 ++ toLe 4 e.1

/-- The car answers a BID_REQ where it can bid; a pre-position call is kept to be taken later (R392, R401). -/
def State.answerBid (s : State) (f : RFrame) (c : Call) : State :=
  if !s.canBid c then s
  else
    let s := if c.kind = 3 ∧ (s.call? c.reg c.num).isNone then { s with dsp.calls := s.dsp.calls ++ [c] } else s
    let s := { s with dsp.lastCost := (s.etsCost c).2 }
    s.ringSend 3 0 f.src (s.bidBody c)

/-- BID_REQ (R392, R397): a car in dispatch answers with its bid. Of two auctions for one landing and kind the earlier goes on. -/
def execBidReq (s : State) : Out :=
  occurs (s.lmpServes && (s.nextFrame 3 (some 1)).isSome) s <|
    match s.nextFrame 3 (some 1) with
    | none => s
    | some f =>
      let s := s.dropFrame f
      let c := s.askedCall f
      match s.ownAuction c.landing c.kind with
      | none => s.answerBid f c
      | some x =>
        if s.earlier f x then (s.modCall s.me x.num fun x => { x.touch with ph := .merged, bids := [] }).answerBid f c else s

/-- BID (R392): the registrar counts a bid taken no later than T_r + DSP.BIDWIN. -/
def execRingBid (s : State) : Out :=
  occurs (s.lmpServes && (s.nextFrame 3 (some 2)).isSome) s <|
    match s.nextFrame 3 (some 2) with
    | none => s
    | some f =>
      let s := s.dropFrame f
      let num := getU f.body 4 2
      match s.call? s.me num with
      | none => s
      | some c =>
        if getU f.body 2 2 = s.me ∧ c.ph = .bidding ∧ s.rng.time ≤ c.tr + c.win * 1000 ∧ c.best.isNone then
          s.modCall s.me num fun c =>
            { c with bids := (c.bids.filter fun b => b.addr != f.src) ++ [⟨f.src, getU f.body 8 4, getU f.body 12 4⟩] }
        else s

/-- The lowest-addressed DORMANT car of the own group, by its final summary (R388, R394). -/
def State.dormantPeer (s : State) : Option Nat :=
  (s.rng.peers.find? fun p => getU p.body 1 1 == s.parN Idx.DSP_GROUP && (getU p.body 2 1 == 3 || getU p.body 0 1 == 3)).map
    fun p => p.addr

/-- BID_WINDOW_CLOSE (R394): the lowest cost wins; with no bid the registrar takes the call if it can bid, else it wakes a
DORMANT car and auctions again 1 s later. -/
def execBidWindowClose (num : Nat) (s : State) : Out :=
  occurs (s.lmpServes && (match s.call? s.me num with
      | some c => c.ph == .bidding && decide (c.tr + c.win * 1000 ≤ s.rng.time)
      | none => false)) s <|
    match s.call? s.me num with
    | none => s
    | some c => match lowestBid c.bids with
      | some b => s.fixBid num b
      | none =>
        let s := s.raise 0x0E07 3 c.landing
        if s.canBid c then let e := s.etsCost c; s.fixBid num ⟨s.me, e.2, e.1⟩
        else
          let s := s.modCall s.me num fun c => { c with ph := .retry, retryAt := s.pwr.opTime }
          match s.dormantPeer with
          | some a => s.ringSend 8 0 a []
          | none => s

/-- AUCTION_RETRY (R394): 1 s after the wake. -/
def execAuctionRetry (num : Nat) (s : State) : Out :=
  occurs (s.lmpServes && (match s.call? s.me num with
      | some c => c.ph == .retry && decide (c.retryAt + 1000 ≤ s.pwr.opTime)
      | none => false)) s (s.startAuction num)

/-- A call of this landing and kind is served: registrations pending for it read OK, and nobody holds it any more (R396). -/
def State.callServed (s : State) (landing kind : Nat) : State :=
  let hit := fun (c : Call) => c.landing == landing && c.kind == kind && !c.onward
  let s := (s.dsp.calls.filter fun c => hit c && c.reg == s.me).foldl (fun s c => match c.slot with
    | some (k, seq) => s.gysAck (3 + k) seq .ok
    | none => s) s
  let keep := fun (c : Call) => kind == 2 && s.holds c
  { s with dsp.calls := (s.dsp.calls.map fun c => if hit c && keep c then { c.touch with onward := true, slot := none, ph := .settled }
             else c).filter fun c => !hit c }

/-- CALL_DONE (R396). -/
def execCallDone (s : State) : Out :=
  occurs (s.lmpServes && (s.nextFrame 3 (some 3)).isSome) s <|
    match s.nextFrame 3 (some 3) with
    | none => s
    | some f =>
      let s := s.dropFrame f
      let hit := fun (c : Call) => c.landing == getU f.body 2 1 && c.kind == getU f.body 1 1 && !c.onward
      let s := { s with dsp.calls := s.dsp.calls.map fun c => if hit c && s.holds c then { c with holder := some f.src } else c }
      s.callServed (getU f.body 2 1) (getU f.body 1 1)

/-- The car's plan leaves a landing in a direction: its next stop away from there lies that way, or there is none (R396). -/
def State.leavesTo (s : State) (landing : Nat) (dir : Int) : Bool :=
  let p := s.level landing
  let xs := s.stops.filter fun x => x.pos != p
  match routeOf p dir xs with
  | x :: _ => decide (0 < dir * (x.pos - p))
  | [] => true

/-- A door has reached OPEN at a landing: the calls it serves (R396). -/
def State.serveAt (s : State) (landing : Nat) : State :=
  let s := { s with dsp.calls := s.dsp.calls.filter fun c => !(s.holds c && c.onward && c.dest == landing) }
  let due := s.dsp.calls.filter fun c =>
    s.holds c && c.kind != 3 && !c.onward && c.landing == landing && s.leavesTo landing (s.callDir c)
  due.foldl (fun s c =>
    let s := s.callServed landing c.kind
    let s := if s.dsp.loc then { s with dsp.locServed := s.dsp.locServed + 1 } else s
    let s := s.groupSend 3 (toLe 1 3 ++ toLe 1 c.kind ++ toLe 1 landing ++ [0] ++ toLe 2 s.me ++ toLe 2 0 ++ toLe 8 0 ++
      toLe 8 s.rng.time)
    s.raise 0x0E04 0 landing) s

/-- DOOR_OPENED (11 R274, R284; 15 R396): the operator enters OPEN, and Beacon sees the calls served. -/
def execDoorOpened (n : Nat) (s : State) : Out :=
  occurs (s.openedReady n) s <|
    let s := s.doorOpened n
    match s.parkedLanding with
    | some k => s.serveAt k
    | none => s

/-! ## Summaries (R387, R388) -/

/-- Identity: bits [31:0] of the SHAKE256 digest of DEV.SERIAL (Table RNG-8). -/
def identity : Nat := Config.shake256 serialBytes 4 % 2 ^ 32

/-- The landing whose door zone holds the car, 0xFF none. -/
def State.zoneLanding (s : State) : Nat := (s.landings.find? fun k => s.inFlag k).getD 0xFF

/-- The summary body with a dispatch status (Table RNG-8). -/
def State.summaryBody (s : State) (status : Nat) : List Byte :=
  let dir := if s.refRest then 0 else if 0 < sgn (s.hst.planEnd - s.hst.ref.um) then 1 else 2
  let flags := b2n s.rng.dup + 2 * b2n s.rng.valid + 4 * b2n s.rng.isMgr + 8 * b2n s.rng.isMaster + 16 * b2n (0 < s.dsp.rejoin) +
    32 * b2n (s.mode == 1) + 64 * b2n (s.par Idx.SHF_ENABLE == 1) + 128 * b2n (s.par Idx.TPH_FORMAT == 1)
  toLe 1 s.pwr.state.code ++ toLe 1 (if s.member then s.parN Idx.DSP_GROUP else 0xFF) ++ toLe 1 status ++ toLe 1 flags ++
    toLe 4 (codeOf 32 s.carPos) ++ toLe 4 (codeOf 32 s.hst.vf) ++ toLe 1 dir ++ toLe 1 s.zoneLanding ++
    toLe 1 ((s.hst.target.map fun t => t.landing).getD 0xFF) ++ toLe 1 (min 255 s.loadPct) ++ toLe 4 identity ++
    toLe 2 (s.dsp.calls.filter s.holds).length ++ toLe 2 s.carCalls.length ++ toLe 4 s.toIdle ++
    toLe 2 (min 65535 (if 0 < s.dsp.rejoin then s.dsp.epi.1 else 0)) ++
    toLe 2 (min 65535 (if 0 < s.dsp.rejoin then s.dsp.epi.2 else 0)) ++ toLe 2 (s.parN Idx.DEV_FWIF) ++ toLe 1 s.safStatus ++ [0]

/-- A summary is sent to the domain. -/
def State.sendSummary (s : State) (status : Nat) : State :=
  let s := s.ringSend 1 2 0 (s.summaryBody status)
  { s with rng.sumAt := some s.pwr.opTime, dsp.rejoin := s.dsp.rejoin - 1 }

/-- The own held calls whose ETS has grown beyond DSP.REAUCT times the winning one (R398). -/
def State.grownCalls (s : State) : List Nat :=
  (s.dsp.calls.filter fun c => c.reg == s.me && s.holds c && c.ph == .settled && !c.onward && c.kind != 3 &&
    decide (0 < c.winEts) && decide (s.parN Idx.DSP_REAUCT * c.winEts < 100 * (s.etsCost c).1)).map fun c => c.num

/-- SUMMARY_SEND (R388): every 250 ms; the own calls are looked over for R398. -/
def execSummarySend (s : State) : Out :=
  occurs (s.lmpServes && s.ringRuns && s.addr.isSome && (match s.rng.sumAt with
      | some t => decide (t + 250 ≤ s.pwr.opTime)
      | none => true)) s <|
    let s := s.sendSummary s.dspStatus
    if s.inDispatch then s.grownCalls.foldl (fun s n => s.reauction n) s else s

/-- TPH.FMTUSE: the own choice on the time master, without an address and without a master heard; else the master's (17 R440). -/
def State.formatNow (s : State) : Nat :=
  let own := s.parN Idx.TPH_FORMAT
  if s.rng.isMaster ∨ s.addr.isNone then own
  else match s.rng.master with
    | none => own
    | some m => match s.rng.peers.find? fun p => p.addr == m with
      | some p => getU p.body 3 1 / 128
      | none => s.tph.fmtUse

/-- The format in use follows (17 R440). -/
def State.followFormat (s : State) : State :=
  let n := s.formatNow
  if n = s.tph.fmtUse then s else ({ s with tph.fmtUse := n } : State).raise 0x1003 1 0xFF [(1, n)]

/-- A peer's summary is kept, by rising address. -/
def putPeer (p : Peer) : List Peer → List Peer
  | [] => [p]
  | q :: qs => if p.addr < q.addr then p :: q :: qs else if p.addr = q.addr then p :: qs else q :: putPeer p qs

/-- Other members of the own group heard and not lost. -/
def State.members (s : State) : List Peer :=
  s.rng.peers.filter fun p => !p.lost && s.member && getU p.body 1 1 == s.parN Idx.DSP_GROUP

/-- 32 lower addresses in the own group (R390). -/
def State.watchFull (s : State) : State :=
  let full := decide (32 ≤ (s.members.filter fun p => decide (p.addr < s.me)).length)
  let new := full && !s.dsp.full
  let s := { s with dsp.full := full }
  if new then s.raise 0x0E0A 4 else s

/-- SUMMARY (R387, R388, R390, R398; 17 R440): a summary is taken. -/
def execSummary (s : State) : Out :=
  occurs (s.lmpServes && (s.nextFrame 1 none).isSome) s <|
    match s.nextFrame 1 none with
    | none => s
    | some f =>
      let s := s.dropFrame f
      if s.addr = some f.src then
        if getU f.body 16 4 = identity ∨ s.rng.dup then s
        else ({ s with rng.dup := true, rng.isMgr := false, rng.isMaster := false } : State).raise 0x0D05 4
      else
        let s := { s with rng.peers := putPeer ⟨f.src, s.pwr.opTime, f.hops, f.body, false⟩ s.rng.peers }
        let s := s.watchFull.followFormat
        if getU f.body 2 1 = 0 then s else (s.heldBy f.src).foldl (fun s n => s.reauction n) s

/-- PEER_LOST (R388, R398): no summary from a peer for DSP.PEERLOSS. -/
def execPeerLost (addr : Nat) (s : State) : Out :=
  occurs (s.lmpServes && s.rng.peers.any fun (p : Peer) => p.addr == addr && !p.lost &&
      decide (p.heard + s.parN Idx.DSP_PEERLOSS ≤ s.pwr.opTime)) s <|
    let s := { s with rng.peers := s.rng.peers.map fun (p : Peer) => if p.addr = addr then { p with lost := true } else p }
    (s.heldBy addr).foldl (fun s n => s.reauction n) s.watchFull

/-! ## Train notices (R399–R401) -/

/-- The windows of a notice in one operator (11 R292). -/
def State.noticeWin (s : State) (n : Nat) (x : Notice) : DWin :=
  { landing := x.landing, lo := x.ta - s.parN (Idx.DRn_BOOSTLEAD n) * 1000, hi := x.ta + s.parN (Idx.DRn_BOOSTWIN n) * 1000 }

/-- A notice leaves: its windows too. -/
def State.dropNotice (s : State) (src id : Nat) : State :=
  let old := s.dsp.notices.filter fun x => x.src == src && x.id == id
  let s := old.foldl (fun s x => [0, 1].foldl (fun s n =>
    s.modD n fun d => { d with windows := d.windows.filter fun w => w != s.noticeWin n x }) s) s
  { s with dsp.notices := s.dsp.notices.filter fun x => !(x.src == src && x.id == id) }

/-- TRAIN_NOTICE (R399): taken, replacing an earlier one of the same sender and identifier, and handed to both operators. -/
def execTrainNotice (s : State) : Out :=
  occurs (s.lmpServes && (s.nextFrame 7 none).isSome) s <|
    match s.nextFrame 7 none with
    | none => s
    | some f =>
      let b := f.body
      let s := (s.dropFrame f).dropNotice f.src (getU b 0 4)
      let s := s.raise 0x0E08 1 (getU b 5 1) [(2, f.src), (4, getU b 0 4)]
      if (getU b 4 1).testBit 0 then s
      else
        let x : Notice := { src := f.src, id := getU b 0 4, landing := getU b 5 1, flow := getU b 6 1, ta := getU b 8 8,
                            pax := getU b 16 2 }
        let s := [0, 1].foldl (fun s n => s.modD n fun d => { d with windows := d.windows ++ [s.noticeWin n x] }) s
        { s with dsp.notices := (s.dsp.notices.filter fun y => !(y.done && decide (y.ta + 300000000 < s.rng.time))) ++ [x] }

/-- A notice. -/
def State.notice? (s : State) (src id : Nat) : Option Notice := s.dsp.notices.find? fun x => x.src == src && x.id == id

/-- A notice changed. -/
def State.modNotice (s : State) (src id : Nat) (f : Notice → Notice) : State :=
  { s with dsp.notices := s.dsp.notices.map fun x => if x.src == src && x.id == id then f x else x }

/-- Key of the ratio of a landing at an hour. -/
def ratioKey (landing hour : Nat) : Nat := 24 * landing + hour

/-- A ratio, 10^−9. -/
def State.ratio (s : State) (k : Nat) : Nat := match s.dsp.ratios.find? fun p => p.1 == k with | some p => p.2 | none => s.dsp.ratioBase

/-- Storing a ratio keeps the list in rising order. -/
def putRatio (k v : Nat) : List (Nat × Nat) → List (Nat × Nat)
  | [] => [(k, v)]
  | p :: ps => if k < p.1 then (k, v) :: p :: ps else if k = p.1 then (k, v) :: ps else p :: putRatio k v ps

/-- The ratio in use for a landing: of the present hour, or the mean of the landing's 24 while the calendar is unset or TIME_LOST is
set (R400). -/
def State.ratioUse (s : State) (landing : Nat) : Nat :=
  if s.rtc.set then s.ratio (ratioKey landing s.rtc.cal.hour)
  else ((List.range 24).map fun h => s.ratio (ratioKey landing h)).foldl (· + ·) 0 / 24

/-- DSP_PREPOSITION (R401): at T_a − DSP.PREWIN the lowest-addressed car in dispatch of the group acts. -/
def execDspPreposition (src id : Nat) (s : State) : Out :=
  occurs (s.lmpServes && s.inDispatch && s.par Idx.DSP_PREDEN == 1 &&
      !(s.members.any fun p => decide (p.addr < s.me) && getU p.body 2 1 == 0) && (match s.notice? src id with
      | some x => !x.acted && decide (x.ta ≤ s.rng.time + s.parN Idx.DSP_PREWIN * 1000000) && decide (s.rng.time < x.ta)
      | none => false)) s <|
    match s.notice? src id with
    | none => s
    | some x =>
      let s := s.modNotice src id fun x => { x with acted := true }
      let d := s.ratioUse x.landing * x.pax
      let cars := s.parN Idx.DSP_CARPAX * 10 ^ 9
      if d < s.parN Idx.DSP_PREMIN * 10 ^ 9 then s
      else
        let n := min ((d + cars - 1) / max 1 cars) (s.parN Idx.DSP_PREMAX)
        (List.range n).foldl (fun s _ =>
          let k := s.dsp.num
          let c : Call := { reg := s.me, num := k, kind := 3, landing := x.landing, flow := x.flow, notice := (src, id) }
          ({ s with dsp.calls := s.dsp.calls ++ [c], dsp.num := (k + 1) % 65536 } : State).startAuction k) s

/-- PREHOLD_END (R401): at T_a + DSP.PREHOLD, or when the car leaves the landing, the pre-position bit is cleared. -/
def execPreholdEnd (src id : Nat) (left : Bool) (s : State) : Out :=
  occurs (s.lmpServes && (match s.notice? src id with
      | some x => (left && !s.parkedAt x.landing) || decide (x.ta + s.parN Idx.DSP_PREHOLD * 1000000 ≤ s.rng.time)
      | none => false)) s
    { s with dsp.calls := s.dsp.calls.filter fun c => !(c.kind == 3 && c.notice == (src, id)) }

/-- SURGE_WINDOW_END (R400): the car reports its boarded passengers to the group. -/
def execSurgeWindowEnd (src id : Nat) (s : State) : Out :=
  occurs (s.lmpServes && s.inDispatch && (match s.notice? src id with
      | some x => !x.sent && decide (x.ta + s.parN Idx.DSP_SURGEWIN * 1000000 ≤ s.rng.time)
      | none => false)) s <|
    match s.notice? src id with
    | none => s
    | some x =>
      let still := if s.parkedAt x.landing then match s.dsp.openKg with | some k => s.loadKg.toNat - k | none => 0 else 0
      let p := (rdiv (((x.kg + still) * 10 : Nat) : Int) (max 1 (s.par Idx.DSP_PAXKG))).toNat
      let s := s.modNotice src id fun x => { x with sent := true, boarded := x.boarded ++ [(s.me, p)] }
      s.groupSend 3 (toLe 1 4 ++ [0] ++ toLe 1 x.landing ++ [0] ++ toLe 2 src ++ toLe 2 0 ++ toLe 4 id ++ toLe 4 p)

/-- BOARDED (R400): a report is received. -/
def execBoarded (s : State) : Out :=
  occurs (s.lmpServes && (s.nextFrame 3 (some 4)).isSome) s <|
    match s.nextFrame 3 (some 4) with
    | none => s
    | some f => (s.dropFrame f).modNotice (getU f.body 4 2) (getU f.body 8 4) fun x =>
        if x.boarded.any fun p => p.1 == f.src then x else { x with boarded := x.boarded ++ [(f.src, getU f.body 12 4)] }

/-- RATIO_UPDATE (R400): 5 s after the window the ratio moves by DSP.PREDGAIN toward B / N. -/
def execRatioUpdate (src id : Nat) (s : State) : Out :=
  occurs (s.lmpServes && s.inDispatch && (match s.notice? src id with
      | some x => !x.done && decide (x.ta + s.parN Idx.DSP_SURGEWIN * 1000000 + 5000000 ≤ s.rng.time)
      | none => false)) s <|
    match s.notice? src id with
    | none => s
    | some x =>
      let s := s.modNotice src id fun x => { x with done := true }
      if !s.rtc.set ∨ x.pax = 0 then s
      else
        let k := ratioKey x.landing s.rtc.cal.hour
        let b := (x.boarded.map fun p => p.2).foldl (· + ·) 0
        let r : Int := s.ratio k
        let goal : Int := (b * 10 ^ 8 / x.pax : Nat)
        let r' := (r + rdiv (s.par Idx.DSP_PREDGAIN * (goal - r)) 1000).toNat
        { s with dsp.ratios := putRatio k r' s.dsp.ratios }

/-- RATIO_STORE (R400): every hour the ratios are stored to MRAM. -/
def execRatioStore (s : State) : Out :=
  occurs (s.lmpServes && decide (s.dsp.keptAt + 3600000 ≤ s.pwr.opTime)) s
    { s with dsp.ratiosKept := s.dsp.ratios, dsp.baseKept := s.dsp.ratioBase, dsp.keptAt := s.pwr.opTime }

/-! ## Local service (R402, R403) -/

/-- A condition of R402 holds now. -/
def State.ringPoor (s : State) : Bool :=
  (!s.rng.a.link && !s.rng.b.link) || !s.rng.valid ||
    !(s.members.any fun p => decide (s.pwr.opTime < p.heard + s.parN Idx.DSP_RINGLOSS))

/-- DSP_LOCAL_SERVICE (R402): a condition has held for DSP.RINGLOSS. -/
def execDspLocalService (heldMs : Nat) (s : State) : Out :=
  occurs (s.lmpServes && s.member && !s.dsp.loc && s.ringPoor && decide (s.parN Idx.DSP_RINGLOSS ≤ heldMs)) s
    (({ s with dsp.loc := true, dsp.locAt := s.pwr.opTime, dsp.locServed := 0 } : State).bump Idx.DSP_LOCALEPI |>.raise 0x0E05 3)

/-- DSP_REJOINED (R403): time and summaries have been good for DSP.REJOIN; the calls it registered and still holds are auctioned
again. -/
def execDspRejoined (heldS : Nat) (s : State) : Out :=
  occurs (s.lmpServes && s.member && s.dsp.loc && !s.ringPoor && decide (s.parN Idx.DSP_REJOIN ≤ heldS)) s <|
    let s := { s with dsp.loc := false, dsp.rejoin := 10,
                      dsp.epi := ((s.pwr.opTime - s.dsp.locAt) / 1000, s.dsp.locServed) }
    let s := s.raise 0x0E06 2
    (s.heldBy s.me).foldl (fun s n => s.startAuction n) s

end Sys2Proof.Machine
end

