-- ==== Sys2Proof/Machine/Host.lean ====
section
/-!
DEFINITION. Host ports, queues and mailboxes (05_host_ports_and_mailboxes.md): transactions, the taking of commands,
completions, load.
-/
namespace Sys2Proof.Machine

/-! ## Ports -/

/-- A port whose transactions HOST serves: not in OFF, AON or a START without the recovery loader; in the LOCKOUT of
R36 and in the recovery loader the UART only; a ring slot only while a ring host occupies it (05 R92; 02 R36; 19 R482). -/
def State.portServed (s : State) (h : Nat) : Bool :=
  decide (h < 8) && (decide (h < 3) || (s.slot h).ringHost.isSome) &&
    (s.engines || (s.pwr.state == .lockout && (!s.pwr.xtal25Bad || h == 2)) ||
      (s.pwr.state == .start && s.pwr.recovery && h == 2))

/-- The device sleeps and the first transaction on an SPI port wakes it (05 R102). -/
def State.portWakes (s : State) (h : Nat) : Bool := decide (h < 2) && s.pwr.state == .dormant && !s.pwr.waking

/-- A latched wake source, bits as in R44; a source disabled by PWR.WAKEMASK latches nothing (02 R47). -/
def State.latchWake (s : State) (maskBit resultBit : Nat) : State :=
  if s.pwr.maskUse.testBit maskBit then { s with pwr.wakeLatch := s.pwr.wakeLatch ||| 2 ^ resultBit } else s

/-- Credits of a command queue: free places, none for normal queues in overload (05 R94, R114). -/
def State.credits (s : State) (h : Nat) (urgent : Bool) : Nat :=
  if urgent then 8 - (s.slot h).uq.length
  else if s.host.overload then 0 else 8 - (s.slot h).nq.length

/-- Byte 3 of the status block (05 Table HOST-4). -/
def State.statusFlags (s : State) (h : Nat) : Nat :=
  b2n s.host.overload + 2 * b2n s.host.lmpRestart + 4 * b2n s.host.freeTags.isEmpty + 16 * b2n (s.slot h).sessionLost

/-- Event stream `k`. -/
def State.stream (s : State) (k : Nat) : Option Stream := s.tph.streams.getD k none

/-- The stream `k` is subscribed by slot `h`. -/
def State.ownStream (s : State) (h k : Nat) : Bool := match s.stream k with | some t => t.slot == h | none => false

/-- Fill of stream `k` as slot `h` sees it. -/
def State.streamFill (s : State) (h k : Nat) : Nat :=
  match s.stream k with | some t => if t.slot = h then t.queue.length else 0 | none => 0

/-- A byte string with its CRC-32 (05 R99). -/
def withCrc (bs : List Byte) : List Byte := bs ++ toLe 4 (crc32 bs)

/-- The status block of a slot, 16 bytes (05 Table HOST-4). -/
def State.statusBlock (s : State) (h : Nat) : List Byte :=
  withCrc (toLe 1 (s.credits h false + 16 * s.credits h true) ++ toLe 1 (s.slot h).cq.length ++
    toLe 1 (s.host.store.filter fun c => c.1 == h).length ++ toLe 1 (s.statusFlags h) ++
    (List.range 4).flatMap (fun k => toLe 1 (s.streamFill h k)) ++ toLe 1 s.pwr.state.code ++ [0] ++
    toLe 2 (((s.slot h).cq.head?.map fun d => d.seq).getD 0))

/-- The block that answers the waking transaction: WAKING set, all else 0 (05 R102). -/
def wakingBlock : List Byte := withCrc [0, 0, 0, 8, 0, 0, 0, 0, 0, 0, 0, 0]

/-- An 8-byte result: status, tag identifier, count, CRC-32 (05 R99). -/
def resultBytes (st : Status) (tagId count : Nat) : List Byte :=
  withCrc (toLe 1 st.code ++ toLe 2 tagId ++ toLe 1 count)

/-- SPnINTN is driven low (05 R101). -/
def State.intnLow (s : State) (h : Nat) : Bool :=
  !(s.slot h).cq.isEmpty ||
    ((List.range 4).any fun k => s.ownStream h k && decide (s.par Idx.HOST_EVTHRESH ≤ s.streamFill h k)) ||
    s.statusFlags h != (s.slot h).flagsSeen

/-- A frame with a bad CRC is discarded, recorded and counted (05 R99, R103). -/
def State.portCrc (s : State) : State := (s.bump Idx.HOST_PORTERR).raiseCounted 0x0203 2

/-- What a port returned last. -/
def State.answer (s : State) (h : Nat) (bs : List Byte) : State := s.modSlot h fun x => { x with answer := bs }

/-- STATUS (05 R99, R101, R102): the slot's status block; it is also the reference of SPnINTN's flags. -/
def execStatus (h crc : Nat) (s : State) : Out :=
  occurs (s.portServed h || s.portWakes h) s <|
    if s.portWakes h then (s.latchWake (3 + h) 4).answer h wakingBlock
    else if h < 3 ∧ crc ≠ crc32 [1, 0, 0, 0] then s.portCrc
    else s.modSlot h fun x => { x with answer := s.statusBlock h, flagsSeen := s.statusFlags h }

/-- The header of an offered descriptor is well formed: format 0x01, payload length at most 480, deadline at most
60,000 (05 R95). -/
def headerOk (bs : List Byte) : Bool :=
  getU bs 1 1 == 1 && decide (getU bs 2 2 % 512 ≤ 480) && decide (getU bs 10 2 ≤ 60000)

/-- The opcodes admitted to an urgent queue (05 Table HOST-6). -/
def urgentOpcode (op : Nat) : Bool :=
  [0x00, 0x01, 0x02, 0x08, 0x0B, 0x11, 0x12, 0x1B, 0x29, 0x42, 0x7F].contains op

/-- The defined opcodes (05 Table HOST-6). -/
def definedOpcode (op : Nat) : Bool :=
  [0x00, 0x01, 0x02, 0x03, 0x04, 0x05, 0x06, 0x08, 0x09, 0x0A, 0x0B, 0x10, 0x11, 0x12, 0x13, 0x18, 0x19, 0x1A, 0x1B,
   0x20, 0x21, 0x28, 0x29, 0x30, 0x31, 0x38, 0x3C, 0x40, 0x41, 0x42, 0x48, 0x49, 0x4A, 0x7F].contains op

/-- The descriptor a PUT carries; the fields HOST fills are ignored, reserved length bits are dropped (05 R95, R104). -/
def readDesc (bs : List Byte) : Desc :=
  { opcode := getU bs 0 1, format := 1, ref := getU bs 4 2, detail := getU bs 10 2, seq := getU bs 12 4,
    mac := getU bs 16 16, payload := (bs ++ List.replicate 512 0).drop 32 |>.take (getU bs 2 2 % 512) }

/-- The entry check of a PUT: none when the descriptor enters (05 R94, R95, R97, R100; log 15 for the order). -/
def State.entryRefusal (s : State) (h queue : Nat) (bs : List Byte) : Option Status :=
  if queue ≠ 2 * h ∧ queue ≠ 2 * h + 1 then some .denied
  else if !headerOk bs then some .range
  else if queue = 2 * h + 1 ∧ !urgentOpcode (getU bs 0 1) then some .denied
  else if s.credits h (queue == 2 * h + 1) = 0 then some .busy
  else if s.host.freeTags.isEmpty then some .busy else none

/-- A descriptor enters its queue with the tag that has been free longest and that tag's next generation (05 R107). -/
def State.enterDesc (s : State) (h queue : Nat) (bs : List Byte) : State :=
  let tag := s.host.freeTags.headD 0
  let gen := (s.host.gens.getD tag 0 + 1) % 1024
  let f : Flight := { d := { readDesc bs with tag := tag, gen := gen }, slot := h, urgent := queue == 2 * h + 1,
                      entered := s.pwr.opTime }
  let s := { s with host.freeTags := s.host.freeTags.drop 1, host.gens := s.host.gens.set tag gen }
  let s := s.modSlot h fun x =>
    if f.urgent then { x with uq := x.uq ++ [f], lastDesc := s.pwr.opTime }
    else { x with nq := x.nq ++ [f], lastDesc := s.pwr.opTime }
  s.answer h (resultBytes .accepted (tag + 64 * gen) (s.credits h f.urgent))

/-- A PUT that reached a served port with a good CRC. -/
def State.putServed (s : State) (h queue : Nat) (bs : List Byte) : State :=
  match s.entryRefusal h queue bs with
  | some st => s.answer h (resultBytes st 0xFFFF
      (if queue = 2 * h then s.credits h false else if queue = 2 * h + 1 then s.credits h true else 0))
  | none => s.enterDesc h queue bs

/-- PUT (05 R95, R99, R102; 15 R389): `queue` as on SPI; `crc` is the frame's CRC-32 (a ring frame has none of its own);
`tseq` the ring transport sequence. -/
def execPut (h queue : Nat) (bytes : List Byte) (crc tseq : Nat) (s : State) : Out :=
  occurs (s.portServed h || s.portWakes h) s <|
    if s.portWakes h then (s.latchWake (3 + h) 4).answer h (resultBytes .busy 0xFFFF 0)
    else if h < 3 then
      if crc ≠ crc32 ([2, BitVec.ofNat 8 queue, 0, 0] ++ bytes) then
        (if h < 2 then s.portCrc.answer h (resultBytes .integrity 0xFFFF 0) else s.portCrc)
      else s.putServed h queue bytes
    else match (s.slot h).ringLast with
      | some (t, a) =>
        if t = tseq then s.answer h a
        else let s := s.putServed h queue bytes
             s.modSlot h fun x => { x with ringLast := some (tseq, x.answer) }
      | none => let s := s.putServed h queue bytes
                s.modSlot h fun x => { x with ringLast := some (tseq, x.answer) }

/-- The empty descriptor a GET returns, with the status of a refusal (05 R100). -/
def emptyDesc (st : Nat) : Desc := { format := 0, status := st }

/-- The head descriptor a GET returns: of the slot's command queues, its completion queue or a stream it subscribed
(05 R100). -/
def State.getHead (s : State) (h queue : Nat) : Desc :=
  let x := s.slot h
  if queue = 2 * h then (x.nq.head?.map fun f => f.d).getD (emptyDesc 0)
  else if queue = 2 * h + 1 then (x.uq.head?.map fun f => f.d).getD (emptyDesc 0)
  else if queue = 16 + h then x.cq.head?.getD (emptyDesc 0)
  else if 24 ≤ queue ∧ queue < 28 ∧ s.ownStream h (queue - 24) then
    ((s.stream (queue - 24)).bind fun t => t.queue.head?).getD (emptyDesc 0)
  else emptyDesc Status.denied.code

/-- GET (05 R100): the head descriptor, not removed. -/
def execGet (h queue crc : Nat) (s : State) : Out :=
  occurs (decide (h < 3) && (s.portServed h || s.portWakes h)) s <|
    if s.portWakes h then (s.latchWake (3 + h) 4).answer h (resultBytes .busy 0xFFFF 0)
    else if crc ≠ crc32 [3, BitVec.ofNat 8 queue, 0, 0] then s.portCrc
    else s.modSlot h fun x => { x with answerDesc := some (s.getHead h queue) }

/-- The number of descriptors a RELEASE may remove from, none for a queue that is not the host's to release
(05 R100). -/
def State.releaseFill (s : State) (h queue : Nat) : Option Nat :=
  if queue = 16 + h then some (s.slot h).cq.length
  else if 24 ≤ queue ∧ queue < 28 ∧ s.ownStream h (queue - 24) then some (s.streamFill h (queue - 24))
  else none

/-- `count` descriptors leave the head of a completion queue or of a subscribed stream. -/
def State.releaseFrom (s : State) (h queue count : Nat) : State :=
  if queue = 16 + h then s.modSlot h fun x => { x with cq := x.cq.drop count, pushAt := none }
  else { s with tph.streams := (modifyAt s.tph.streams (queue - 24) fun t =>
           t.map fun t => { t with queue := t.queue.drop count }) }

/-- A RELEASE that reached a served port with a good CRC (05 R100). -/
def State.releaseServed (s : State) (h queue count : Nat) : State :=
  match s.releaseFill h queue with
  | none => s.answer h (resultBytes .denied 0xFFFF
      (if queue = 2 * h then s.credits h false else if queue = 2 * h + 1 then s.credits h true else 0))
  | some n =>
    if count = 0 ∨ 8 < count ∨ n < count then s.answer h (resultBytes .range 0xFFFF n)
    else (s.releaseFrom h queue count).answer h (resultBytes .ok 0xFFFF (n - count))

/-- RELEASE (05 R100; on the ring 15 R389, in queue order). -/
def execRelease (h queue count crc : Nat) (s : State) : Out :=
  occurs (s.portServed h || s.portWakes h) s <|
    if s.portWakes h then (s.latchWake (3 + h) 4).answer h (resultBytes .busy 0xFFFF 0)
    else if h < 3 ∧ crc ≠ crc32 [4, BitVec.ofNat 8 queue, BitVec.ofNat 8 count, 0] then s.portCrc
    else s.releaseServed h queue count

/-- TRANSACTION_CUT_SHORT (05 R98): discarded with no effect and counted. -/
def execTransactionCutShort (h : Nat) (s : State) : Out :=
  occurs (decide (h < 2) && s.portServed h) s (s.bump Idx.HOST_PORTERR)

/-- PUSH_REPEAT (15 R389): the unreleased head of a ring host's completion queue is sent again 100 ms after the last
PUSH. -/
def execPushRepeat (h : Nat) (s : State) : Out :=
  occurs (s.portServed h && decide (3 ≤ h) && !(s.slot h).cq.isEmpty &&
      (match (s.slot h).pushAt with | some t => decide (t + 100 ≤ s.pwr.opTime) | none => false)) s
    (s.modSlot h fun x => { x with pushAt := some s.pwr.opTime })

/-! ## Completions -/

/-- The first completion in the store for slot `h`. -/
def State.waitingFor (s : State) (h : Nat) : Option Desc := (s.host.store.find? fun c => c.1 == h).map fun c => c.2

/-- The store without the first completion for slot `h`. -/
def dropFirst (h : Nat) : List (Nat × Desc) → List (Nat × Desc)
  | [] => []
  | c :: cs => if c.1 == h then cs else c :: dropFirst h cs

/-- The header bytes 0–15 of a completion as sent (19 Table SEC-5). -/
def cplHeader (d : Desc) : List Byte :=
  [BitVec.ofNat 8 d.opcode, BitVec.ofNat 8 d.format] ++ toLe 2 d.payload.length ++ toLe 2 d.ref ++
    toLe 2 (d.tag + 64 * d.gen) ++ toLe 1 d.status ++ toLe 1 (b2n d.committed + 2 * b2n d.afterRestart) ++
    toLe 2 d.detail ++ toLe 4 d.seq

/-- A descriptor sent to a slot carries the slot's K_r tag when a session is open (05 R104, 19 Table SEC-5). -/
def State.signFor (s : State) (h : Nat) (d : Desc) : Desc :=
  match (s.slot h).session with
  | some ss => { d with mac := Config.kmac256 ss.kr (cplHeader d ++ d.payload) 128 "TRG-9640 CPL" }
  | none => d

/-- A completion leaves the store for the queue of its slot and its tag is freed; for a closed ring slot it is
recorded as HOST_UNDELIVERED and discarded (05 R92, R108). -/
def State.deliver (s : State) (h : Nat) (d : Desc) : State :=
  let d := { d with seq := ((s.slot h).cseq + 1) % 2 ^ 32 }
  let s := { s with host.store := dropFirst h s.host.store, host.freeTags := s.host.freeTags ++ [d.tag] }
  let s := s.modSlot h fun x => { x with cseq := d.seq }
  if 3 ≤ h ∧ (s.slot h).ringHost.isNone then (s.bump Idx.HOST_UNDELIV).raise 0x0208 2 h
  else s.modSlot h fun x => { x with cq := x.cq ++ [s.signFor h d], pushAt := some s.pwr.opTime }

/-- COMPLETION_QUEUED (05 R108): the slot's oldest waiting completion moves into its queue once there is room. -/
def execCompletionQueued (h : Nat) (s : State) : Out :=
  occurs ((s.waitingFor h).isSome && decide ((s.slot h).cq.length < 8)) s
    (s.deliver h ((s.waitingFor h).getD {}))

/-! ## Load -/

/-- HOST_OVERLOAD (05 R114): the busy fraction in 0.1 % exceeds 85.0 %. -/
def execHostOverload (load : Nat) (s : State) : Out :=
  occurs (s.lmpServes && !s.host.overload && decide (850 < load)) s <|
    let s := (s.setOwn Idx.HOST_LOAD load).peak Idx.HOST_LOADPEAK load
    let s := (s.bump Idx.HOST_OVLCOUNT).raise 0x0201 3
    { s with host.overload := true }

/-- HOST_OVERLOAD_END (05 R114): at or below 75.0 % for 100 ms. -/
def execHostOverloadEnd (load heldMs : Nat) (s : State) : Out :=
  occurs (s.lmpServes && s.host.overload && decide (load ≤ 750) && decide (100 ≤ heldMs)) s <|
    let s := (s.setOwn Idx.HOST_LOAD load).raise 0x0202 2
    { s with host.overload := false }

/-! ## Taking commands -/

/-- A taken command joins the commands in flight; a reserved opcode completes RANGE (05 R105). -/
def State.take1 (s : State) (f : Flight) : State :=
  let s := { s with host.ops := s.host.ops ++ [{ f with phase := .taken }] }
  if definedOpcode f.d.opcode then s else s.complete { f with phase := .taken } .range

/-- The LMP takes the urgent queues, slot H0 first, each in queue order (05 R96, R113). -/
def State.takeUrgent (s : State) : State :=
  let fs := s.host.slots.flatMap fun x => x.uq
  fs.foldl State.take1 { s with host.slots := s.host.slots.map fun x => { x with uq := [] } }

/-- The LMP takes the normal queues round robin over the slots from the one served next (05 R113): one descriptor of
each slot in a tick (log 16); none in overload (R114). -/
def State.takeNormal (s : State) : State :=
  if s.host.overload then s
  else
    let order := (List.range 8).map fun k => (s.host.rr + k) % 8
    let s := order.foldl (fun s h => match (s.slot h).nq with
      | [] => s
      | f :: q => (s.modSlot h fun x => { x with nq := q }).take1 f) s
    { s with host.rr := (s.host.rr + 1) % 8 }

/-- NOP (05 R105): completes OK with no effect. -/
def execHostNop (tag : Nat) (s : State) : Out :=
  occurs (s.hostReady tag 0x00) s (s.hostCmd tag 0 fun s f => s.complete f .ok)

end Sys2Proof.Machine
end

