-- ==== Sys2Proof/Machine/Tephra.lean ====
section
/-!
DEFINITION. The Tephra event recorder (17_tephra_event_recorder.md): formatting and writing records, the full store,
repeat counting, the reading window, snapshots and event streams.
-/
namespace Sys2Proof.Machine

/-! ## The record -/

/-- The timestamp field, bytes 12–21 (17 Table TPH-4). -/
def stampBytes (t : Stamp) (format1 : Bool) : List Byte :=
  if format1 then
    toLe 2 t.cal.year ++ toLe 1 t.cal.month ++ toLe 1 t.cal.day ++ toLe 1 t.cal.hour ++ toLe 1 t.cal.minute ++
      toLe 1 t.cal.second ++ toLe 2 t.ms ++ [0]
  else toLe 6 t.op ++ toLe 3 t.cyc ++ [0]

/-- A record's 32 bytes; `closed` marks the streamed copy at the close of its repeat window (17 Table TPH-3). -/
def recBytes (r : Rec) (closed : Bool) : List Byte :=
  toLe 6 r.seq ++ toLe 2 r.evt.code ++
    toLe 1 (r.evt.sev + 8 * b2n r.format1 + 16 * b2n r.evt.buffered + 32 * b2n (r.format1 && r.evt.stamp.lost) +
      64 * b2n closed) ++
    toLe 1 r.evt.inst ++ toLe 2 r.rep ++ stampBytes r.evt.stamp r.format1 ++ toLe 2 r.repMs ++
    (r.evt.data ++ List.replicate 8 0).take 8

/-- Lowest present sequence number, 0 when empty (TPH.TAIL). -/
def Tph.tail (t : Tph) : Nat := (t.recs.head?.map fun r => r.seq).getD 0

/-- Highest present sequence number, 0 when empty (TPH.HEAD). -/
def Tph.head (t : Tph) : Nat := (t.recs.getLast?.map fun r => r.seq).getD 0

/-! ## Repeats -/

/-- The event is counted as a repeat rather than recorded anew: marked "repeats counted", or of severity ERROR or
below while TPH.REPALL is 1; never FAULT and above; never with TPH.REPWIN 0 (17 R438). -/
def State.countable (s : State) (e : Evt) : Bool :=
  decide (e.sev ≤ 4) && (e.counted || s.par Idx.TPH_REPALL == 1) && decide (0 < s.par Idx.TPH_REPWIN)

/-- The most recent present record that the event repeats (17 R438). -/
def State.repeatOf (s : State) (e : Evt) : Option Rec :=
  if s.countable e then
    s.tph.recs.reverse.find? fun r => r.evt.code == e.code && r.evt.inst == e.inst && r.evt.sev == e.sev &&
      decide ((e.stamp.op : Int) < r.evt.stamp.op + s.par Idx.TPH_REPWIN)
  else none

/-- The record with sequence number `n`, changed. -/
def State.modRec (s : State) (n : Nat) (f : Rec → Rec) : State :=
  { s with tph.recs := s.tph.recs.map fun r => if r.seq = n then f r else r }

/-- A repeat raises the count, saturating, and notes the time since the first occurrence (17 R438). -/
def State.countRepeat (s : State) (r : Rec) (e : Evt) : State :=
  s.modRec r.seq fun r => { r with rep := min 0xFFFF (r.rep + 1), repMs := min 0xFFFF (e.stamp.op - r.evt.stamp.op) }

/-! ## A full store -/

/-- A present record is overwritten or freed: snapshots that hold it between tail and head count it, and a stream that
has not reached it counts it as dropped (17 R442, R443). -/
def State.strike (s : State) (r : Rec) : State :=
  { s with
    tph.recs := s.tph.recs.filter fun x => x.seq != r.seq
    host.slots := s.host.slots.map fun x => { x with snap := (x.snap.map fun p =>
      if p.tail ≤ r.seq ∧ r.seq ≤ p.head then { p with struck := min 0xFFFF (p.struck + 1) } else p) }
    tph.streams := s.tph.streams.map fun t => t.map fun t =>
      match t.cursor with
      | some c => if c ≤ r.seq ∧ t.minSev ≤ r.evt.sev ∧
          (t.sources.isEmpty ∨ t.sources.contains (r.evt.code / 256)) then { t with dropped := t.dropped + 1 } else t
      | none => t }

/-- The record a new one of severity `sev` overwrites in a full store: the oldest of a lower severity, else the oldest
of the same severity, else none (17 R436). -/
def victim (recs : List Rec) (sev : Nat) : Option Rec :=
  match recs.find? fun r => decide (r.evt.sev < sev) with
  | some r => some r
  | none => recs.find? fun r => r.evt.sev == sev

/-! ## Event streams -/

/-- A stream carries this record (17 R443). -/
def Stream.carries (t : Stream) (r : Rec) : Bool :=
  decide (t.minSev ≤ r.evt.sev) && (t.sources.isEmpty || t.sources.contains (r.evt.code / 256))

/-- The descriptor of the records a stream has gathered (17 R444). -/
def Stream.desc (t : Stream) (k : Nat) : Desc :=
  { opcode := 0x20, format := 2, ref := k, detail := t.dropped % 2 ^ 16, seq := t.seq,
    payload := t.fill.flatMap fun x => recBytes x.1 x.2 }

/-- The stream's descriptor is closed: queued, or dropped whole when the queue is full (17 R444, 05 R116). -/
def State.closeStream (s : State) (k : Nat) : State :=
  match s.stream k with
  | none => s
  | some t =>
    if t.fill.isEmpty then s
    else if t.queue.length < 8 then
      { s with tph.streams := s.tph.streams.set k (some { t with
          queue := t.queue ++ [s.signFor t.slot (t.desc k)], seq := (t.seq + 1) % 2 ^ 32, fill := [], dropped := 0,
          lossTold := false }) }
    else
      let s' := if t.lossTold then s else s.raise 0x0207 3 t.slot
      { s' with tph.streams := s.tph.streams.set k (some { t with
          fill := [], dropped := t.dropped + t.fill.length, lossTold := true }) }

/-- A record joins a stream's descriptor; the fifteenth closes it (17 R444). -/
def State.feedStream (s : State) (k : Nat) (r : Rec) (closed : Bool) : State :=
  match s.stream k with
  | none => s
  | some t =>
    let t' := if t.fill.isEmpty then { t with fill := [(r, closed)], fillAt := s.pwr.opTime,
                                              fillLat := s.parN Idx.TPH_STRMLAT }
              else { t with fill := t.fill ++ [(r, closed)] }
    let s := { s with tph.streams := s.tph.streams.set k (some t') }
    if t'.fill.length = 15 then s.closeStream k else s

/-- The record goes to every live stream that carries it. -/
def State.feedLive (s : State) (r : Rec) (closed : Bool) : State :=
  (List.range 4).foldl (fun s k => match s.stream k with
    | some t => if t.cursor.isNone ∧ t.carries r then s.feedStream k r closed else s
    | none => s) s

/-- A stream that starts in the past takes up to 15 stored records from its cursor; it is live once none is left
(17 R443). -/
def State.pullStream (s : State) (k : Nat) : State :=
  match s.stream k with
  | none => s
  | some t => match t.cursor with
    | none => s
    | some c =>
      if !t.fill.isEmpty ∨ 8 ≤ t.queue.length then s
      else
        let rs := (s.tph.recs.filter fun r => decide (c ≤ r.seq) && t.carries r).take 15
        match rs.getLast? with
        | none => { s with tph.streams := s.tph.streams.set k (some { t with cursor := none }) }
        | some l =>
          let s := { s with tph.streams := s.tph.streams.set k (some { t with cursor := some (l.seq + 1) }) }
          rs.foldl (fun s r => s.feedStream k r false) s

/-! ## Writing -/

/-- The event becomes a record with the next sequence number (17 R434). -/
def State.appendRec (s : State) (e : Evt) : State :=
  let r : Rec := { seq := s.tph.last + 1, evt := e, format1 := s.tph.fmtUse == 1 && !e.ownCodes,
                   windowOpen := s.countable e }
  let s := { s with tph.recs := s.tph.recs ++ [r], tph.last := s.tph.last + 1 }
  s.feedLive r false

/-- A new record takes a free slot, or in a full store overwrites under R436, or is dropped. -/
def State.writeRec (s : State) (e : Evt) : State :=
  if s.tph.recs.length < 65536 then s.appendRec e
  else match victim s.tph.recs e.sev with
    | some v => ((s.strike v).bumpWrap Idx.TPH_OVERWRITES).appendRec e
    | none => s.bump Idx.TPH_DROPS

/-- The LMP formats events: it runs and is not being restarted or switched (17 R439). -/
def State.formats (s : State) : Bool := s.lmpServes || s.pwr.state == .start

/-- The oldest stamped event is a repeat, or is written with the next sequence number, or is dropped (17 R434, R436, R438). -/
def State.writeHead (s : State) : State :=
  let e := s.tph.queue.headD { code := 0 }
  let s := { s with tph.queue := s.tph.queue.drop 1 }
  match s.repeatOf e with
  | some r => s.countRepeat r e
  | none => s.writeRec e

/-- Every event waiting is written (02 R43). -/
def State.flushTph (s : State) : State := s.tph.queue.foldl (fun s _ => s.writeHead) s

/-- RECORD_WRITE (17 R434, R436, R438). -/
def execRecordWrite (s : State) : Out :=
  occurs (s.formats && !s.tph.queue.isEmpty) s s.writeHead

/-- REPEAT_WINDOW_CLOSE (17 R443): the window of record `seq` has passed; the streams carry its final count. -/
def execRepeatWindowClose (seq : Nat) (s : State) : Out :=
  let r := (s.tph.recs.find? fun r => r.seq == seq).getD { seq := 0, evt := { code := 0 } }
  occurs (s.formats && r.windowOpen && decide (r.evt.stamp.op + s.parN Idx.TPH_REPWIN ≤ s.pwr.opTime)) s <|
    let s := s.modRec seq fun r => { r with windowOpen := false }
    if 0 < r.rep then s.feedLive r true else s

/-- STREAM_DESCRIPTOR_CLOSE (17 R444): 15 records, or TPH.STRMLAT after the first. -/
def execStreamDescriptorClose (k : Nat) (s : State) : Out :=
  let t := (s.stream k).getD { slot := 0, minSev := 0, sources := [] }
  occurs (s.formats && !t.fill.isEmpty && (t.fill.length == 15 || decide (t.fillAt + t.fillLat ≤ s.pwr.opTime))) s
    ((s.closeStream k).pullStream k)

/-- TPH.CLEAR: every record below TRIP is freed, and the number freed is recorded (17 R437). -/
def State.tphClear (s : State) : State :=
  let freed := s.tph.recs.filter fun r => decide (r.evt.sev < 6)
  (freed.foldl State.strike s).raise 0x1001 2 0xFF [(4, freed.length)]

/-! ## Streams and reading by hosts -/

/-- A source ID of Table TPH-1. -/
def sourceId (n : Nat) : Bool := decide (1 ≤ n) && decide (n ≤ 0x13)

/-- The source IDs an EVT_SUBSCRIBE names (17 Table TPH-8). -/
def subSources (p : List Byte) : List Nat := (List.range (getU p 1 1)).map fun k => getU p (4 + k) 1

/-- The first free stream. -/
def State.freeStream (s : State) : Option Nat := (List.range 4).find? fun k => (s.stream k).isNone

/-- The sequence at which a FROM_SEQ stream starts: the start sequence, or the tail if that lies lower (17 R443). -/
def State.fromSeq (s : State) (p : List Byte) : Option Nat :=
  if (getU p 2 1).testBit 0 then some (min (getU p 12 6) s.tph.tail) else none

/-- The subscription of stream `k`. -/
def State.subscribe (s : State) (f : Flight) (k : Nat) : State :=
  let t : Stream := { slot := f.slot, minSev := getU f.p 0 1, sources := subSources f.p, cursor := s.fromSeq f.p }
  let first := match t.cursor with
    | some c => ((s.tph.recs.find? fun r => decide (c ≤ r.seq) && t.carries r).map fun r => r.seq).getD (s.tph.last + 1)
    | none => s.tph.last + 1
  let s := { s with tph.streams := s.tph.streams.set k (some t) }
  (s.complete f .ok 0 (toLe 1 k ++ [0] ++ toLe 6 first) true).pullStream k

/-- EVT_SUBSCRIBE (17 R443, 05 R116). -/
def execEvtSubscribe (tag : Nat) (s : State) : Out :=
  occurs (s.hostReady tag 0x20) s <| s.hostCmd tag 0 fun s f =>
    if 7 < getU f.p 0 1 ∨ 8 < getU f.p 1 1 ∨ !((subSources f.p).all sourceId) then s.complete f .range
    else match s.freeStream with
      | none => s.complete f .busy
      | some k => s.subscribe f k

/-- The records of a window filled at a cursor (17 R441). -/
def State.windowRecs (s : State) (h cursor minSev : Nat) (live : Bool) : List Rec :=
  (s.tph.recs.filter fun r => decide (cursor ≤ r.seq) && decide (minSev ≤ r.evt.sev) &&
    (live || (match (s.slot h).snap with | some p => decide (r.seq ≤ p.head) | none => true))).take 16

/-- A window record as it reads now: the repeat count of a record still present may have risen (17 R441). -/
def State.refreshRec (s : State) (r : Rec) : Rec :=
  match s.tph.recs.find? fun x => x.seq == r.seq with
  | some x => { r with rep := x.rep, repMs := x.repMs }
  | none => r

/-- An EVT_READ refused RANGE (17 R441). -/
def evtReadBad (p : List Byte) : Bool :=
  getU p 9 1 == 0 || decide (14 < getU p 9 1) || decide (16 < getU p 8 1 + getU p 9 1) || decide (7 < getU p 7 1) ||
    decide (7 < getU p 6 1)

/-- The result of a read of the window (17 Table TPH-6). -/
def State.evtResult (s : State) (h : Nat) (p : List Byte) (w : EvtWindow) (refilled : Bool) : List Byte :=
  let snap := (s.slot h).snap
  toLe 6 w.cursor ++ toLe 1 w.recs.length ++ toLe 1 (b2n snap.isSome + 2 * b2n refilled) ++
    toLe 6 ((snap.map fun x => x.tail).getD s.tph.tail) ++ toLe 6 ((snap.map fun x => x.head).getD s.tph.head) ++
    toLe 6 ((w.recs.getLast?.map fun r => r.seq + 1).getD w.cursor) ++
    toLe 2 ((snap.map fun x => x.struck).getD 0) ++ toLe 4 (s.parN Idx.TPH_DROPS) ++
    (List.range (getU p 9 1)).flatMap fun k => match w.recs[getU p 8 1 + k]? with
      | some r => recBytes (s.refreshRec r) false
      | none => List.replicate 32 0

/-- The window a read uses: the present one, or one filled anew (17 R441). -/
def State.evtRead (s : State) (f : Flight) (fresh : Bool) : State :=
  let p := f.p
  let cursor := getU p 0 6
  let minSev := getU p 7 1
  let keep := match (s.slot f.slot).window with
    | some w => w.cursor == cursor && w.minSev == minSev && !(getU p 6 1).testBit 1 && !fresh
    | none => false
  let w := if keep then ((s.slot f.slot).window.getD { cursor := 0, minSev := 0, recs := [] })
           else { cursor := cursor, minSev := minSev,
                  recs := s.windowRecs f.slot cursor minSev ((getU p 6 1).testBit 2) }
  let s := s.modSlot f.slot fun x => { x with window := some w }
  s.complete f .ok 0 (s.evtResult f.slot p w !keep)

/-- EVT_READ without SNAPSHOT (17 R441). -/
def execEvtRead (tag : Nat) (s : State) : Out :=
  occurs (s.hostReady tag 0x21 && !(getU (s.flight tag).p 6 1).testBit 0) s <| s.hostCmd tag 0 fun s f =>
    if evtReadBad f.p then s.complete f .range else s.evtRead f false

/-- SNAPSHOT: EVT_READ with SNAPSHOT captures tail and head before it fills the window (17 R442). -/
def execSnapshot (tag : Nat) (s : State) : Out :=
  occurs (s.hostReady tag 0x21 && (getU (s.flight tag).p 6 1).testBit 0) s <| s.hostCmd tag 0 fun s f =>
    if evtReadBad f.p then s.complete f .range
    else (s.modSlot f.slot fun x => { x with snap := some { tail := s.tph.tail, head := s.tph.head } }).evtRead f true

/-- EVENT_RAISED (17 R430, R432): a block raises an event of a code of its table; the hardware stamps it. -/
def execEventRaised (code sev inst : Nat) (data : List Byte) (s : State) : Out :=
  occurs (s.opCounts && sourceId (code / 256) && decide (1 ≤ code % 256) && decide (code % 256 ≤ 0xF3) &&
      decide (sev ≤ 7)) s
    (s.raiseEvt { code := code, sev := sev, inst := inst, data := (data ++ List.replicate 8 0).take 8 })

end Sys2Proof.Machine
end

