-- ==== Sys2Proof/Machine/Rtc.lean ====
section
/-!
DEFINITION. The real-time clock and calendar (18_clock_and_calendar.md): counting, writing, capturing, trim and alarm.
-/
namespace Sys2Proof.Machine

/-! ## Calendar (R446, R447) -/

/-- A leap year of the Gregorian rule. -/
def leap (y : Nat) : Bool := (y % 4 == 0 && y % 100 != 0) || y % 400 == 0

/-- Days of a month. -/
def mdays (y m : Nat) : Nat :=
  if m = 2 then (if leap y then 29 else 28) else if m = 4 ∨ m = 6 ∨ m = 9 ∨ m = 11 then 30 else 31

/-- Days of the months before month `m` of year `y`. -/
def daysBefore (y m : Nat) : Nat := ((List.range (m - 1)).map fun k => mdays y (k + 1)).foldl (· + ·) 0

/-- Leap years before year `y`, from year 1 on. -/
def leapsBefore (y : Nat) : Nat := (y - 1) / 4 - (y - 1) / 100 + (y - 1) / 400

/-- Days since 2000-01-01. -/
def Calendar.days (c : Calendar) : Nat :=
  365 * (c.year - 2000) + (leapsBefore c.year - leapsBefore 2000) + daysBefore c.year c.month + (c.day - 1)

/-- ISO 8601 weekday: 2000-01-01 is a Saturday, 6. -/
def Calendar.weekday (c : Calendar) : Nat := (c.days + 5) % 7 + 1

/-- Seconds since 2000-01-01 00:00:00. -/
def Calendar.secs (c : Calendar) : Nat := 86400 * c.days + 3600 * c.hour + 60 * c.minute + c.second

/-- The next second; the flag says that the count wrapped after 2199-12-31 23:59:59. -/
def Calendar.next (c : Calendar) : Calendar × Bool :=
  if c.second < 59 then ({ c with second := c.second + 1 }, false)
  else if c.minute < 59 then ({ c with second := 0, minute := c.minute + 1 }, false)
  else if c.hour < 23 then ({ c with second := 0, minute := 0, hour := c.hour + 1 }, false)
  else
    let c := { c with second := 0, minute := 0, hour := 0 }
    if c.day < mdays c.year c.month then ({ c with day := c.day + 1 }, false)
    else if c.month < 12 then ({ c with day := 1, month := c.month + 1 }, false)
    else if c.year < 2199 then ({ c with day := 1, month := 1, year := c.year + 1 }, false)
    else ({}, true)

/-- RTC.STATUS (Table RTC-3). -/
def State.rtcStatus (s : State) : Nat :=
  b2n s.rtc.set + 2 * b2n s.timeLost + 4 * b2n s.rtc.degraded + 8 * b2n s.rtc.alarmPending + 16 * b2n s.rtc.capture.isSome

/-- SET is cleared; a calendar that had been written is newly lost (R449). -/
def State.rtcUnset (s : State) : State :=
  { s with rtc.set := false, rtc.lostNew := s.rtc.lostNew || (s.rtc.set && s.par Idx.RTC_EVERSET == 1) }

/-! ## Writing (R451–R453) -/

/-- The calendar of a payload (Table RTC-1). -/
def readCalendar (p : List Byte) : Calendar :=
  { year := getU p 0 2, month := getU p 2 1, day := getU p 3 1, hour := getU p 4 1, minute := getU p 5 1,
    second := getU p 6 1 }

/-- A possible date and time (R451). -/
def Calendar.valid (c : Calendar) : Bool :=
  decide (2000 ≤ c.year) && decide (c.year ≤ 2199) && decide (1 ≤ c.month) && decide (c.month ≤ 12) &&
    decide (1 ≤ c.day) && decide (c.day ≤ mdays c.year c.month) && decide (c.hour ≤ 23) && decide (c.minute ≤ 59) &&
    decide (c.second ≤ 59)

/-- The step of a write, new minus old, in whole seconds saturated to s32 and the rest in ms, both with the step's sign
(R452). -/
def rtcStep (old : Calendar) (oldMs : Nat) (new : Calendar) (newMs : Nat) : Int × Int :=
  let d : Int := ((new.secs * 1000 + newMs : Nat) : Int) - ((old.secs * 1000 + oldMs : Nat) : Int)
  (clampInt (-2147483648) 2147483647 (d.tdiv 1000), d.tmod 1000)

/-- The write at its 32.768 kHz edge (R452). -/
def State.rtcWrite (s : State) (c : Calendar) (ms : Nat) : State :=
  let st := rtcStep s.rtc.cal (rtcMs s.rtc.sub) c ms
  let s := { s with rtc.cal := c, rtc.sub := (ms * 32768 + 999) / 1000, rtc.frac := 0, rtc.set := true, rtc.lostNew := false }
  let s := (s.setOwn Idx.RTC_EVERSET 1).bump Idx.RTC_SETCOUNT
  s.raiseNative 0x1101 2 0xFF [(4, st.1), (2, st.2)]

/-- RTC_WRITE (R451, R452). -/
def execRtcWrite (tag : Nat) (s : State) : Out :=
  occurs (s.hostReady tag 0x28) s <| s.hostCmd tag 2 fun s f =>
    let c := readCalendar f.p
    if getU f.p 7 1 ≠ 0 ∨ getU f.p 10 6 ≠ 0 then s.complete f .range
    else if !c.valid ∨ 999 < getU f.p 8 2 then s.complete f .invalidDate
    else (s.rtcWrite c (getU f.p 8 2)).complete f .ok 0 [] true

/-! ## Capture (R455, R456) -/

/-- The calendar's ten bytes as captured (Table RTC-1). -/
def calBytes (c : Calendar) (ms : Nat) : List Byte :=
  toLe 2 c.year ++ toLe 1 c.month ++ toLe 1 c.day ++ toLe 1 c.hour ++ toLe 1 c.minute ++ toLe 1 c.second ++
    toLe 1 c.weekday ++ toLe 2 ms

/-- RTC_CAPTURE (R456): the calendar, ring time and operating time of one instant; STALE while SET is 0 (R450). -/
def execRtcCapture (tag : Nat) (s : State) : Out :=
  occurs (s.hostReady tag 0x29) s <| s.hostCmd tag 0 fun s f =>
    let s := { s with rtc.capture := some (s.rtc.cal, rtcMs s.rtc.sub) }
    s.complete f (if s.rtc.set then .ok else .stale) 0
      (calBytes s.rtc.cal (rtcMs s.rtc.sub) ++ toLe 1 s.rtcStatus ++ [0] ++
        toLe 8 (if s.rng.valid then s.rng.time else 0) ++ toLe 6 s.pwr.opTime ++ [0, 0])

/-! ## Counting (R447, R453, R460) -/

/-- The alarm of RTC.ALARM matches the present second (R460). -/
def State.alarmMatches (s : State) : Bool :=
  let a := s.parN Idx.RTC_ALARM
  let c := s.rtc.cal
  a.testBit 24 && s.rtc.set && fieldOf a 16 12 == c.hour && fieldOf a 11 6 == c.minute && fieldOf a 5 0 == c.second &&
    (fieldOf a 23 17).testBit (c.weekday - 1)

/-- A match: ALARM_PENDING, a wake where PWR.WAKEMASK allows it, and the record, which waits in DORMANT for the wake and in AON
for the next START (R460); none on the cell. -/
def State.rtcAlarm (s : State) : State :=
  if !s.alarmMatches ∨ (s.pwr.state = .aon ∧ !s.pwr.aonOnVin) then s
  else
    let s := { s with rtc.alarmPending := true }
    match s.pwr.state with
    | .dormant => if s.pwr.waking then s.raise 0x1103 1
                  else { s.latchWake 6 6 with rtc.alarmTold := false }
    | .aon => s.raiseAtStart 0x1103 1
    | .off => s
    | _ => s.raise 0x1103 1

/-- A second is due: the sub-second count is at its end and one more cycle has passed. -/
def State.secondDue (s : State) : Bool := s.rtc.sub == 32767 && decide (125 ≤ s.rtc.frac)

/-- RTC_SECOND (R447, R449, R453): the RTC counts a second and rolls the calendar over; the controllers send the time frame and
the alarm is compared. -/
def execRtcSecond (s : State) : Out :=
  occurs (s.pwr.state != .off && s.secondDue) s <|
    let rest := s.rtc.frac - 125
    let n := s.rtc.cal.next
    let sub := min 32767 (rest / 125)
    let s := { s with rtc.cal := n.1, rtc.sub := sub, rtc.frac := rest - 125 * sub }
    let s := if n.2 then s.rtcUnset else s
    ((s.queueTime 0).queueTime 1).rtcAlarm

/-! ## Trim (R457–R459) -/

/-- Adjustments of trim value `t` in the first `w` cycles of a window. -/
def trimCount (t : Int) (w : Nat) : Nat :=
  ((List.range t.natAbs).filter fun k => k * 1024 / t.natAbs * 1024 < w).length

/-- `n` 32.768 kHz cycles are counted: trim adds or skips cycles of the sub-second count, except on the divided RC (R457,
R459). `parts` is their length in 125ths beyond whole cycles. -/
def State.rtcCycles (s : State) (n125 : Nat) : State :=
  let r := s.rtc
  let cyc := (r.frac % 125 + n125) / 125
  let w := r.window + cyc
  let adj := if r.degraded then 0 else trimCount r.trimUse w - trimCount r.trimUse r.window
  let moved := if r.trimUse < 0 then n125 - 125 * adj else n125 + 125 * adj
  let total := 125 * r.sub + r.frac + moved
  let sub := min 32767 (total / 125)
  { s with rtc.sub := sub, rtc.frac := total - 125 * sub, rtc.window := w }

/-- TRIM_WINDOW (R457–R459): a window of 2^20 cycles ends; a trim write takes effect, RTC.MEASPPM is updated in the fast states,
and CLOCK_DEGRADED clears once the crystal has been within its limit for 10 s. `ppm` is the measured rate in 0.1 ppm. -/
def execTrimWindow (ppm : Int) (goodS : Nat) (s : State) : Out :=
  occurs (s.pwr.state != .off && decide (2 ^ 20 ≤ s.rtc.window)) s <|
    let s := { s with rtc.window := s.rtc.window - 2 ^ 20, rtc.trimUse := s.par Idx.RTC_TRIM }
    let s := if s.opCounts && s.pwr.state != .dormant then s.setOwn Idx.RTC_MEASPPM (clampInt (-5000) 5000 ppm) else s
    if s.rtc.degraded ∧ 10 ≤ goodS then { s with rtc.degraded := false, pwr.xtal32Bad := false } else s

end Sys2Proof.Machine
end

