-- ==== Sys2Proof/Machine/Session.lean ====
section
/-!
DEFINITION. Closing a host slot and its session (05 R92, R115; 06 R133; 07 R143; 12 R324; 17 R441; 19 R464, R470).
-/
namespace Sys2Proof.Machine

/-- The staging copies a slot holds are released (06 R133), and the staged firmware image (19 R475). -/
def State.dropClaims (s : State) (h : Nat) : State :=
  let s := { s with dir.tables := s.dir.tables.map fun t =>
               match t.claim with | some c => if c.slot = h then { t with claim := none } else t | none => t }
  if s.sec.claim = some h then { s with sec.claim := none, sec.fwStat := if s.sec.fwStat = 1 then 0 else s.sec.fwStat } else s

/-- The streams of a slot are released (05 R116). -/
def State.dropStreams (s : State) (h : Nat) : State :=
  { s with tph.streams := s.tph.streams.map fun t => match t with
      | some x => if x.slot = h then none else some x
      | none => none }

/-- A group is OPEN for a host slot. -/
def Group.openFor (x : Group) (h : Nat) : Bool :=
  x.state == 1 && (match x.owner with | .host k => k == h | _ => false)

/-- An OPEN group is released with its actions discarded, recorded as GRP_EXPIRED (07 R143). -/
def State.expireGroup (s : State) (g : Nat) : State :=
  (s.freeUp g).raise 0x0303 2 g

/-- The OPEN groups of a slot that closes (07 R143). -/
def State.expireGroups (s : State) (h : Nat) : State :=
  (List.range 8).foldl (fun s g => if (s.group g).openFor h then s.expireGroup g else s) s

/-- The parameterisation session of a slot ends (12 R324). -/
def State.dropSafSession (s : State) (h : Nat) : State :=
  match s.saf.session with
  | some x => if x.slot = h then s.endSafSession else s
  | none => s

/-- The commands still in a slot's queues complete ABORTED (05 R92). -/
def State.abortQueued (s : State) (h : Nat) (after : Bool) : State :=
  ((s.slot h).uq ++ (s.slot h).nq).foldl (fun s f => s.complete f .aborted 0 [] false after) s

/-- A slot closes: its session, its queued commands, its streams, claims, groups and windows, and for a ring host its place
(05 R92). `lost` sets SESSION_LOST (05 R115, 19 R470). -/
def State.closeSlot (s : State) (h : Nat) (lost : Bool) : State :=
  let had := (s.slot h).session.isSome
  let s := if had then s.raise 0x0206 1 h else s
  let s := s.abortQueued h false
  let s := (((s.dropClaims h).dropStreams h).expireGroups h).dropSafSession h
  s.modSlot h fun x =>
    { x with session := none, sessionLost := x.sessionLost || (lost && had), stage := [], window := none, snap := none,
             ringHost := none, ringLast := none, pushAt := none }

/-- The sessions for which `p` holds close (19 R466, R470). -/
def State.closeSessions (s : State) (p : Nat → Session → Bool) : State :=
  (List.range 8).foldl (fun s h => match (s.slot h).session with
    | some x => if p h x then s.closeSlot h true else s
    | none => s) s

/-- The completions waiting for a slot move into its queue as far as there is room (05 R108). -/
def State.deliverAll (s : State) (h : Nat) : State :=
  (s.host.store.filter fun c => c.1 == h).foldl (fun s c => if (s.slot h).cq.length < 8 then s.deliver h c.2 else s) s

/-- SESSION_CLOSE (19 R470, 05 R116): the issuing slot closes, its completion on its way. -/
def execSessionClose (tag : Nat) (s : State) : Out :=
  occurs (s.hostReady tag 0x42) s <| s.hostCmd tag 0 fun s f =>
    ((s.complete f .ok 0 [] true).deliverAll f.slot).closeSlot f.slot false

/-- SESSION_EXPIRED (19 R470): SEC.SESSLIFE has passed since the session of slot `h` opened. -/
def execSessionExpired (h : Nat) (s : State) : Out :=
  occurs (s.opCounts && (match (s.slot h).session with
      | some x => decide (x.opened + s.parN Idx.SEC_SESSLIFE * 60000 ≤ s.pwr.opTime)
      | none => false)) s
    (s.closeSlot h true)

/-- RING_SLOT_IDLE (05 R92): HOST.RINGIDLE has passed without a descriptor from the ring host of slot `h`. -/
def execRingSlotIdle (h : Nat) (s : State) : Out :=
  occurs (s.lmpServes && decide (3 ≤ h) && (s.slot h).ringHost.isSome &&
      decide ((s.slot h).lastDesc + s.parN Idx.HOST_RINGIDLE * 1000 ≤ s.pwr.opTime)) s
    (s.closeSlot h false)

end Sys2Proof.Machine
end

