-- ==== Sys2Proof/Machine/ParamView.lean ====
section
/-!
DEFINITION. What a parameter reads: the read-only values of every block from the state that holds them, with the STALE quality of
a failed source (06 R122; the blocks' parameter tables).
-/
namespace Sys2Proof.Machine

/-- A key identifier: bytes 0–3 of the 512-bit SHAKE256 digest of the key (19). -/
def kid (key : List Byte) : Nat := Config.shake256 key 64 % 2 ^ 32

/-- The identifier of an installed key of `n` bytes, 0 for none. -/
def kidOf (n : Nat) (k : Option Nat) : Nat := match k with | some v => kid (toLe n v) | none => 0

/-- The firmware slot that is active, and the other one. -/
def State.fwActive (s : State) : FwSlot := s.sec.fw.getD s.sec.active {}
def State.fwOther (s : State) : FwSlot := s.sec.fw.getD (1 - s.sec.active) {}

/-- SEC.SAFSLOT. -/
def State.safSlot (s : State) : Nat := s.sec.safA + 2 * s.sec.safB

/-- HOST.SESSMAP (Table DEV-12). -/
def State.sessMap (s : State) : Nat :=
  ((List.range 8).map fun h => if (s.slot h).session.isSome || s.trusted h then 2 ^ h else 0).foldl (· + ·) 0

/-- DEV.CALCRC: CRC-32 of the active calibration body. -/
def State.calCrc (s : State) : Nat := crc32 (memReadN (tableByte 0x0700) (s.tbl 0x0700).body 0 64)

/-- DEV, PWR, HOST and GRP. -/
def State.viewLow (s : State) (i : Nat) : Int :=
  if i = Idx.DEV_FWBUILD then s.fwActive.build
  else if i = Idx.DEV_ORDER then (Config.orderCode % 2 : Nat)
  else if i = Idx.DEV_SERIAL then (leNat serialBytes : Nat)
  else if i = Idx.DEV_FWSLOT then s.sec.active
  else if i = Idx.DEV_OPTIME then s.pwr.opTime
  else if i = Idx.DEV_PWRCYC then s.pwr.pwrCyc
  else if i = Idx.DEV_CALCRC then s.calCrc
  else if i = Idx.PWR_STATE then s.pwr.state.code
  else if i = Idx.HOST_TAGSFREE then s.host.freeTags.length
  else if i = Idx.HOST_SESSMAP then s.sessMap
  else if i = Idx.GRP_OPEN then (s.grp.groups.filter fun x => x.state != 0).length
  else if i = Idx.GRP_ACTFREE then (512 - s.actions : Nat)
  else if 0x0318 ≤ i ∧ i < 0x0320 then (s.group (i - 0x0318)).state
  else s.par i

/-- GYS. -/
def State.viewGys (s : State) (i : Nat) : Int :=
  if i = Idx.GYS_STATE then s.gys.st
  else if i = Idx.GYS_CYCLE then s.gys.cycle
  else if i = Idx.GYS_BANK then s.gys.bank.getD 0xFF
  else if i = Idx.GYS_PROGID then s.image 32 4
  else if i = Idx.GYS_FORCES then s.gys.forces.length
  else s.par i

/-- HST: p_A and p_B are STALE when invalid, the load when its measurement is. -/
def State.viewHst (s : State) (i : Nat) : Int × Bool :=
  if i = Idx.HST_STATE then (s.hst.st.code, false)
  else if i = Idx.HST_MODE then (s.mode, false)
  else if i = Idx.HST_POSA then (s.hst.psa.pos, !s.hst.psa.valid)
  else if i = Idx.HST_POSB then (s.hst.psb.pos, !s.hst.psb.valid)
  else if i = Idx.HST_POSF then (s.carPos, false)
  else if i = Idx.HST_SPEED then (s.hst.vf, false)
  else if i = Idx.HST_LOAD then (s.par i, !s.hst.loadOk)
  else if i = Idx.HST_PLANREM then (s.planRem, false)
  else if i = Idx.HST_DLSTAT then (s.hst.dlStat, false)
  else if i = Idx.HST_INVSTAT then (getU s.hst.invFrame 2 1, false)
  else if i = Idx.HST_INVFAULT then (getU s.hst.invFrame 3 1, false)
  else (s.par i, false)

/-- CLE.WINNER. -/
def State.winnerWord (s : State) : Nat :=
  s.cle.winners.getD 0 15 + 16 * s.cle.winners.getD 1 15 + 256 * s.cle.winners.getD 2 15

/-- CLE: the values latched at the last 2 kHz period start; a group member reads its head's phase and output scale (10 R252,
R264). -/
def State.viewCle (s : State) (i : Nat) : Int :=
  let n := (i - 0x0C00) / 0x40
  let off := (i - 0x0C00) % 0x40
  let c := s.cle.seen.getD n {}
  let u := s.cle.units.getD n {}
  let t := s.cle.traces.getD (n - 4) {}
  if i = Idx.CLE_WINNER then s.winnerWord
  else if (off = 0x2A ∨ off = 0x2D) ∧ off < 0x38 then
    s.par (match groupOf n with | some g => 0x0C00 + 0x40 * groupHead g + off | none => i)
  else if off = 0x31 then c.satfl
  else if off = 0x32 then c.out
  else if off = 0x33 then c.meas
  else if off = 0x34 then c.stat
  else if off = 0x35 then c.res
  else if off = 0x36 then c.dl
  else if n < 4 ∧ off = 0x3C then u.seenStat
  else if n < 4 ∧ off = 0x3D then u.seenUpd
  else if n < 4 ∧ off = 0x3E then u.seenRms
  else if 4 ≤ n ∧ n < 8 ∧ off = 0x3D then t.st
  else if 4 ≤ n ∧ n < 8 ∧ off = 0x3E then t.time
  else s.par i

/-- DR0 and DR1: the winding temperature is STALE with NTCEN clear. -/
def State.viewDoor (s : State) (i : Nat) : Int × Bool :=
  let n := (i - 0x1000) / 0x100
  let off := i % 0x100
  let d := s.dn n
  if off = 0 then (d.st.code, false)
  else if off = 0x40 then (d.x, false)
  else if off = 0x41 then (d.v, false)
  else if off = 0x42 then (clampInt (-32768) 32767 d.force, false)
  else if off = 0x43 then (clampInt 0 65535 d.energy, false)
  else if off = 0x44 then (clampInt (-32768) 32767 d.iqMean, false)
  else if off = 0x45 then (d.twind, !s.parBit (Idx.DRn_CFG n) 3)
  else if off = 0x46 then (d.ref, false)
  else if off = 0x47 then (d.reopens, false)
  else if off = 0x49 then (d.landing, false)
  else (s.par i, false)

/-- SAF, as Wick A reports it (12 R331). -/
def State.viewSaf (s : State) (i : Nat) : Int :=
  let c := s.saf.chA
  if i = Idx.SAF_STATUS then s.safStatus
  else if i = Idx.SAF_TRIPCAUSE then c.active
  else if i = Idx.SAF_OUTSTAT then
    (((List.range 4).map fun k => if s.soClosed k then 2 ^ k else 0).foldl (· + ·) 0 + 16 * (c.grants % 16) : Nat)
  else if i = Idx.SAF_SISTAT then c.flt
  else if i = Idx.SAF_MODE then c.mode
  else if i = Idx.SAF_POS then c.pS
  else if i = Idx.SAF_SPEED then c.vS
  else if i = Idx.SAF_LANDING then ((s.bandAt c.pS).getD 0xFF : Nat)
  else if i = Idx.SAF_SETCRC then s.setCrc
  else if i = Idx.SAF_PSLOT then ((s.saf.session.map fun x => x.slot).getD 0xFF : Nat)
  else s.par i

/-- FIO.CnSTAT (Table FIO-6); STATE and RAW of an output show its readback, as its image bit does (13 R338; log 60). -/
def FCh.stat (out : Bool) (c : FCh) : Nat :=
  b2n (if out then c.node else c.state) + 2 * b2n (if out then c.node else c.raw) + 4 * b2n c.cmd + 8 * b2n c.on + 16 * b2n c.extDrive + 32 * b2n c.backfeed + 64 * b2n c.limiting +
    128 * b2n c.thermal + 256 * b2n c.latched + 512 * b2n c.shed + 1024 * b2n c.overrun + 2048 * min c.retries 15 +
    65536 * min (c.cur / 10) 65535

/-- CANb (Table CAN-9). -/
def State.viewCan (s : State) (i : Nat) : Int :=
  let b := (i - 0x1800) / 0x40
  let off := i % 0x40
  let c := s.can b
  let o := s.cobj b (s.parN (Idx.CANb_OBJSEL b))
  if off = 0x10 then c.st
  else if off = 0x11 then (b2n c.alone + 2 * b2n (c.st == 3 && s.parBit (Idx.CANb_CFG b) 2) + 4 * b2n c.standby : Nat)
  else if off = 0x12 then (min c.tec 255 : Nat)
  else if off = 0x13 then (min c.rec_ 255 : Nat)
  else if off = 0x15 then
    (o.status + 256 * min o.fails 15 + 65536 * b2n (o.pend.isSome || o.next.isSome) + 131072 * b2n o.bus.isSome : Nat)
  else if off = 0x16 then c.tdc
  else s.par i

/-- RNG (Table RNG-11). -/
def State.viewRng (s : State) (i : Nat) : Int :=
  let r := s.rng
  if i = Idx.RNG_STAT then
    (b2n r.a.link + 2 * b2n r.b.link + 4 * b2n (r.a.mode == 1) + 8 * b2n (r.b.mode == 1) + 16 * b2n (r.a.mode == 2) +
      32 * b2n (r.b.mode == 2) + 64 * b2n r.valid + 128 * b2n r.isMgr + 256 * b2n r.isMaster + 512 * b2n r.dup : Nat)
  else if i = Idx.RNG_PAAMP then r.a.amp
  else if i = Idx.RNG_PBAMP then r.b.amp
  else if i = Idx.RNG_MANAGER then (r.manager.getD 0xFFFF : Nat)
  else if i = Idx.RNG_TMASTER then (r.master.getD 0xFFFF : Nat)
  else if i = Idx.RNG_TIME then r.time
  else if i = Idx.RNG_TOFFS then r.toffs
  else if i = Idx.RNG_SYNCCAP then r.syncCap
  else if i = Idx.RNG_LDELAYA then (min r.a.delay 100000 : Nat)
  else if i = Idx.RNG_LDELAYB then (min r.b.delay 100000 : Nat)
  else if i = Idx.RNG_PEERS then (r.peers.filter fun p => decide (s.pwr.opTime ≤ p.heard + 1000)).length
  else if i = Idx.RNG_HOPMAX then
    (((r.peers.filter fun p => decide (s.pwr.opTime ≤ p.heard + 10000)).map fun p => p.hops).foldl max 0 : Nat)
  else s.par i

/-- DSP (Table DSP-5). -/
def State.viewDsp (s : State) (i : Nat) : Int :=
  if i = Idx.DSP_PVAL then
    let sel := s.parN Idx.DSP_PSEL
    (s.ratio (24 * fieldOf sel 6 0 + fieldOf sel 12 8) / 1000000 : Nat)
  else if i = Idx.DSP_STATUS then s.dspStatus
  else if i = Idx.DSP_CARS then
    (min 32 s.members.length : Nat)
  else if i = Idx.DSP_CALLS then (min 65535 (s.heldBy s.me).length : Nat)
  else if i = Idx.DSP_LASTCOST then s.dsp.lastCost
  else s.par i

/-- SHF: a margin is STALE without a good link (Table SHF-7). -/
def State.viewShf (s : State) (i : Nat) : Int × Bool :=
  let u := s.shf.up
  let d := s.shf.dn
  if i = Idx.SHF_STATUS then
    ((b2n u.good + 2 * b2n d.good + 4 * b2n u.verified + 8 * b2n d.verified + 16 * b2n (u.tier1 || d.tier1) +
      32 * b2n s.shf.tier2 + 64 * b2n s.restricted + 128 * b2n (u.dormant || d.dormant) + 256 * b2n s.shf.handover.isSome +
      512 * b2n s.shf.config : Nat), false)
  else if i = Idx.SHF_MARGUP then (s.margin true, !u.good)
  else if i = Idx.SHF_MARGDN then (s.margin false, !d.good)
  else if i = Idx.SHF_LIMUP then (s.sillBound true, false)
  else if i = Idx.SHF_LIMDN then (s.sillBound false, false)
  else (s.par i, false)

/-- TPH (Table TPH-9). -/
def State.viewTph (s : State) (i : Nat) : Int :=
  if i = Idx.TPH_FMTUSE then s.tph.fmtUse
  else if i = Idx.TPH_HEAD then s.tph.head
  else if i = Idx.TPH_TAIL then s.tph.tail
  else if i = Idx.TPH_COUNT then s.tph.recs.length
  else if 0x1D18 ≤ i ∧ i < 0x1D20 then (s.tph.recs.filter fun r => r.evt.sev == i - 0x1D18).length
  else s.par i

/-- A calendar field by its index 0x1D44–0x1D4B. -/
def calField (c : Calendar) (ms i : Nat) : Nat :=
  [c.year, c.month, c.day, c.hour, c.minute, c.second, ms, c.weekday].getD (i - 0x1D44) 0

/-- RTC: the calendar fields from the shadow of this command or from the last capture, STALE while SET is 0 or before the first
capture (18 R450, R454, R455). -/
def State.viewRtc (s : State) (i : Nat) : Int × Bool :=
  if i = Idx.RTC_STATUS then (s.rtcStatus, false)
  else if 0x1D44 ≤ i ∧ i ≤ 0x1D4B then
    if s.par Idx.RTC_RDMODE = 1 then
      match s.rtc.capture with
      | some (c, ms) => (calField c ms i, !s.rtc.set)
      | none => (0, true)
    else (calField s.rtc.cal (rtcMs s.rtc.sub) i, !s.rtc.set)
  else (s.par i, false)

/-- SEC (Table SEC-11). -/
def State.viewSec (s : State) (i : Nat) : Int :=
  if i = Idx.SEC_FWSTAT then s.sec.fwStat
  else if i = Idx.SEC_SVN then s.fwActive.svn
  else if i = Idx.SEC_SAFSLOT then s.safSlot
  else if i = Idx.SEC_OWNKID then kidOf 57 s.sec.owner
  else if i = Idx.SEC_PGKID then kidOf 57 s.sec.program
  else if i = Idx.SEC_DKID then kidOf 32 s.sec.domain
  else if i = Idx.SEC_DKNEXT then kidOf 32 s.sec.domainNext
  else if i = Idx.SEC_DEVKID then kid ((Config.deviceCert.drop 32).take 57)
  else if i = Idx.SEC_ROOTKID then kid (toLe 57 Config.vendorRoot)
  else if i = Idx.SEC_UNONCE then s.sec.unonce
  else if i = Idx.SEC_DBGSTAT then s.sec.dbg
  else s.par i

/-- The value a parameter reads and whether its source has failed. -/
def State.view (s : State) (i : Nat) : Int × Bool :=
  if i < 0x0400 then (s.viewLow i, false)
  else if i < 0x0800 then (s.viewGys i, false)
  else if i < 0x0C00 then s.viewHst i
  else if i < 0x1000 then (s.viewCle i, false)
  else if i < 0x1400 then s.viewDoor i
  else if i < 0x1600 then (s.viewSaf i, false)
  else if i < 0x1800 then (if i % 8 = 2 then ((s.fch ((i - 0x1600) / 8)).stat (s.isOutput ((i - 0x1600) / 8)), false) else (s.par i, false))
  else if i < 0x1A00 then (s.viewCan i, false)
  else if i < 0x1B00 then (s.viewRng i, false)
  else if i < 0x1C00 then (s.viewDsp i, false)
  else if i < 0x1D00 then s.viewShf i
  else if i < 0x1D40 then (s.viewTph i, false)
  else if i < 0x1E00 then s.viewRtc i
  else (s.viewSec i, false)

end Sys2Proof.Machine
end

