-- ==== Sys2Proof/Machine/Params.lean ====
section
/-!
DEFINITION. The parameter directory's commands (06_parameter_directory.md R117–R129, R138, R494): reading, the checks of a write, its
application and durability, defaults, and the writes that act as commands of their blocks.
-/
namespace Sys2Proof.Machine

/-! ## Entries (Tables DEV-2, DEV-4) -/

/-- Code of a type (Table DEV-2). -/
def PType.code : PType → Nat
  | .bool => 1 | .u8 => 2 | .s8 => 3 | .u16 => 4 | .s16 => 5 | .u32 => 6 | .s32 => 7 | .u48 => 8 | .u64 => 9
  | .q131 => 0x0A | .q427 => 0x0B | .str16 => 0x0C

/-- A signed type. -/
def PType.signed : PType → Bool
  | .s8 | .s16 | .s32 | .q131 | .q427 => true
  | .bool | .u8 | .u16 | .u32 | .u48 | .u64 | .str16 => false

/-- The 24-byte entry; `b3` is its byte 3. -/
def paramEntry (idx ty b3 ver : Nat) (v : Int) : List Byte :=
  toLe 2 idx ++ toLe 1 ty ++ toLe 1 b3 ++ toLe 4 ver ++ toLe 16 (codeOf 128 v)

/-- The value in an entry's value field from byte `off` on; bytes above the type's size are ignored (R118). -/
def entryValue (ty : PType) (p : List Byte) (off : Nat) : Int :=
  if ty.signed then getS p off ty.bytes else getU p off ty.bytes

/-- A read's entry and its status (R119, R122). -/
def State.readEntry (s : State) (idx : Nat) : List Byte × Status :=
  match paramInfo idx with
  | none => (paramEntry idx 0 Status.badIndex.code 0 0, .badIndex)
  | some r =>
    let v := match r.acc with
      | .wo _ => (0, false)
      | _ => s.view idx
    let st : Status := if v.2 then .stale else .ok
    (paramEntry idx r.ty.code st.code (s.parVer idx) v.1, st)

/-- PARAM_READ (R122): every entry is returned, the first status that is not OK is the completion's. -/
def execParamRead (tag : Nat) (s : State) : Out :=
  occurs (s.hostReady tag 0x02) s <| s.hostCmd tag 0 fun s f =>
    let n := getU f.p 0 2
    if n = 0 ∨ 20 < n then s.complete f .range
    else
      let es := (List.range n).map fun k => (getU f.p (2 + 2 * k) 2, s.readEntry (getU f.p (2 + 2 * k) 2))
      let bytes := es.flatMap fun e => e.2.1
      match es.find? fun e => e.2.2 != .ok with
      | some e => s.complete f e.2.2 e.1 bytes
      | none => s.complete f .ok 0 bytes

/-- DEV_INFO (R128, Table DEV-5). -/
def execDevInfo (tag : Nat) (s : State) : Out :=
  occurs (s.hostReady tag 0x01) s <| s.hostCmd tag 0 fun s f =>
    s.complete f .ok 0
      (toLe 2 (s.parN Idx.DEV_PARTNO) ++ toLe 2 (s.parN Idx.DEV_HWREV) ++ toLe 2 (s.parN Idx.DEV_FWIF) ++ [0, 0] ++
        toLe 4 s.fwActive.build ++ toLe 1 (Config.orderCode % 2) ++ toLe 1 s.sec.active ++ toLe 1 s.pwr.state.code ++
        toLe 1 (s.parN Idx.DEV_CALSTATE) ++ serialBytes ++ toLe 6 s.pwr.opTime ++ [0, 0] ++ toLe 4 s.pwr.pwrCyc ++
        toLe 16 (s.parN Idx.DEV_NAME) ++ toLe 4 (s.parN Idx.DEV_CFGCOUNT))

/-! ## Values in range (R8–R10, R118; the blocks' tables) -/

/-- A str16: printable ASCII, padded with 0 after the last character. -/
def strOk (bs : List Byte) : Bool :=
  let cs := bs.takeWhile fun b => b != 0
  cs.all (fun b => decide (0x20 ≤ b.toNat) && decide (b.toNat ≤ 0x7E)) && (bs.drop cs.length).all fun b => b == 0

/-- The reserved bits of a bit field are dropped. -/
def PInfo.clean (r : PInfo) (v : Int) : Int := if r.mask = 0 then v else (v.toNat &&& r.mask : Nat)

/-- The value lies in the parameter's own range. -/
def PInfo.inRange (r : PInfo) (v : Int) : Bool :=
  match r.ty, r.acc with
  | .str16, _ => strOk (toLe 16 v.toNat)
  | _, .roClr => v == 0
  | _, _ => (decide (r.lo ≤ v) && decide (v ≤ r.hi)) || r.alts.contains v

/-- End of a slot's computation after its period start in engine cycles of 5 ns, the last member's for a group (10 Table
CLE-2). -/
def computeEnd (n : Nat) : Nat :=
  match n with
  | 0 => 336 | 1 => 432 | 6 => 528 | 7 => 624 | 2 => 720 | 8 => 816
  | 3 | 4 | 5 => 1104
  | 9 | 10 | 11 => 1392
  | 12 | 13 => 1584
  | 14 => 1680
  | _ => 1776

/-- Engine cycles of a slot's period (10 R243). -/
def periodCycles (n : Nat) : Nat :=
  if n = 0 ∨ n = 1 ∨ n = 6 ∨ n = 7 then 6250 else if n = 2 ∨ n = 8 then 25000 else 100000

/-- Write instant of a slot at phase `p`, in engine cycles after its period start (10 R243). -/
def writeInstant (n p : Nat) : Nat := (p * periodCycles n + 255) / 256

/-- A value of a slot's parameter as it would read after `idx` takes `v`. -/
def State.after (s : State) (idx : Nat) (v : Int) (i : Nat) : Int := if i = idx then v else s.par i

/-- The biquads below NBQ are stable, the parameters read by `rd` (10 R250). -/
def biquadsOk (rd : Nat → Int) (n : Nat) : Bool :=
  let nbq := fieldOf (rd (Idx.CLE_SnCFG n)).toNat 4 2
  (List.range (min nbq 6)).all fun j =>
    let a1 := rd (0x0C0B + 0x40 * n + 5 * j + 3)
    let a2 := rd (0x0C0B + 0x40 * n + 5 * j + 4)
    decide (mag a2 < 2 ^ 27) && decide ((mag a1 : Int) < 2 ^ 27 + a2)

/-- A node code of R261, or 0xFFFF. -/
def nodeCodeOk (c : Nat) : Bool := c == 0xFFFF || (decide (c / 256 < 16) && decide (c % 256 ≤ 18))

/-- Caldera's range conditions (10 R243, R250, R254, R261; 09 R232). -/
def State.cleRange (s : State) (idx : Nat) (v : Int) : Bool :=
  let n := (idx - 0x0C00) / 0x40
  let off := (idx - 0x0C00) % 0x40
  let w := v.toNat
  if off = 0x29 then
    decide (fieldOf w 4 2 ≤ 6) && decide (fieldOf w 11 8 ≤ 7) && (n == 15 || fieldOf w 11 8 == 0) && biquadsOk (s.after idx v) n
  else if off = 0x2A then
    decide (computeEnd n ≤ writeInstant n w) &&
      (n != 12 || decide (writeInstant 12 w + 200 ≤ 200 * s.parN Idx.HST_DLOFS))
  else if 0x0B ≤ off ∧ off < 0x29 then biquadsOk (s.after idx v) n
  else if n < 4 ∧ off = 0x38 then [2, 8, 12, 15].contains (fieldOf w 7 4) && decide (fieldOf w 3 2 ≤ 2)
  else if 4 ≤ n ∧ n < 8 ∧ (off = 0x39 ∨ off = 0x3A) then nodeCodeOk (w % 65536) && nodeCodeOk (w / 65536)
  else if 4 ≤ n ∧ n < 8 ∧ off = 0x3B then nodeCodeOk w
  else true

/-- The conditions of range that a parameter's own row or rule adds (the blocks' parameter tables). -/
def State.crossRange (s : State) (idx : Nat) (v : Int) : Bool :=
  let w := v.toNat
  if idx = Idx.GYS_CYCMAX then decide (s.par Idx.GYS_CYCMIN ≤ v)
  else if idx = Idx.GYS_CYCMIN then decide (v ≤ s.par Idx.GYS_CYCMAX)
  else if idx = Idx.HST_RELEVTOL then decide (s.par Idx.HST_LEVTOL < v)
  else if idx = Idx.HST_LWFULL then v != s.par Idx.HST_LWEMPTY
  else if idx = Idx.HST_VRATED then s.par Idx.SHF_ENABLE != 1 || decide (v ≤ 6000000)
  else if idx = Idx.HST_DLOFS then decide (writeInstant 12 (s.parN (Idx.CLE_SnPHASE 12)) + 200 ≤ 200 * w)
  else if 0x0C00 ≤ idx ∧ idx < 0x1000 then s.cleRange idx v
  else if 0x1000 ≤ idx ∧ idx < 0x1200 ∧ idx % 0x100 = 0x0A then decide (v ≤ s.par (idx - 1))
  else if 0x1000 ≤ idx ∧ idx < 0x1200 ∧ idx % 0x100 = 0x32 then decide (s.par (idx - 1) < v)
  else if 0x1600 ≤ idx ∧ idx < 0x1780 ∧ idx % 8 = 0 then
    let m := w % 8
    decide (m ≤ 5) && decide (fieldOf w 9 8 ≤ 2) && (!w.testBit 3 || decide (1 ≤ m ∧ m ≤ 4)) && (!w.testBit 4 || m == 5)
  else if idx = Idx.RNG_PACFG ∨ idx = Idx.RNG_PBCFG then w % 4 != 3
  else if idx = Idx.DSP_PSEL then decide (fieldOf w 12 8 ≤ 23)
  else if idx = Idx.SHF_GAP1 then decide (s.par Idx.SHF_GAP2 < v)
  else if idx = Idx.SHF_GAP2 then decide (v < s.par Idx.SHF_GAP1) && decide (s.par Idx.SAF_GUARD < v)
  else if idx = Idx.RTC_ALARM then
    decide (fieldOf w 5 0 ≤ 59) && decide (fieldOf w 11 6 ≤ 59) && decide (fieldOf w 16 12 ≤ 23) &&
      (!w.testBit 24 || fieldOf w 23 17 != 0)
  else if idx = Idx.SEC_MINEPOCH then decide (s.par Idx.SEC_MINEPOCH ≤ v)
  else true

/-! ## The owners' state conditions (R121) -/

/-- HST parameters marked "standstill" (09 Table HST-11). -/
def standstillIdx : List Nat := [0x0803, 0x0810, 0x0811, 0x0812, 0x0813, 0x0814, 0x0815, 0x0819, 0x0828]

/-- HST is where those may be written (09 R237). -/
def State.hstMayWrite (s : State) : Bool :=
  match s.hst.st with
  | .idle => true
  | .disabled => true
  | .learnFault => true
  | _ => false

/-- An operator is where "gates off" parameters may be written (11 R298). -/
def State.gatesIdle (s : State) (n : Nat) : Bool :=
  match (s.dn n).st with
  | .disabled => true
  | .stopped => true
  | .fault => true
  | _ => false

/-- Offsets of the DRn parameters marked "gates off" (11 Table DR-8). -/
def gatesOffIdx : List Nat := [0x01, 0x02, 0x03, 0x04, 0x05, 0x06, 0x10, 0x11]

/-- Channel `c` is configured as an input of mode 1 or 2 (13 R334). -/
def State.plainInput (s : State) (c : Nat) : Bool := decide (c < 48) && (s.fmode c == 1 || s.fmode c == 2)

/-- HST or an operator that is not DISABLED names channel `c` (13 R334). -/
def State.channelNamed (s : State) (c : Nat) : Bool :=
  [Idx.HST_DZFIO, Idx.HST_LIMLO, Idx.HST_LIMHI, Idx.HST_TSDLO, Idx.HST_TSDHI].any (fun i => s.parN i == c) ||
    [0, 1].any fun n => (s.dn n).st != .disabled &&
      [Idx.DRn_DCFIO n, Idx.DRn_DOFIO n, Idx.DRn_LCFIO n].any fun i => s.parN i == c

/-- A write of FIO.CnCFG is allowed (13 R333, R334). -/
def State.fioAllows (s : State) (c : Nat) (v : Int) : Bool :=
  let m := v.toNat % 8
  let old := s.fmode c
  (((old == 5) == (m == 5)) || !s.fio.word.testBit c) &&
    (!(old == 1 || old == 2) || m == 1 || m == 2 || !s.channelNamed c)

/-- Caldera's conditions (10 R241, R243, R254, Table CLE-12, R262). -/
def State.cleAllows (s : State) (idx : Nat) (v : Int) : Bool :=
  let n := (idx - 0x0C00) / 0x40
  let off := (idx - 0x0C00) % 0x40
  let w := v.toNat
  let old := s.parN idx
  if off = 0x29 ∧ n = 15 then
    (!(s.cslot 15).on || w / 2 == old / 2) && (!w.testBit 0 || (s.fsIn 15 != 0 && s.fsOut 15 != 0))
  else if off = 0x29 ∨ off = 0x2A ∨ off = 0x2C ∨ off = 0x2D then !(s.cslot n).on
  else if n < 4 ∧ off = 0x38 then
    (w / 4 == old / 4 || !old.testBit 0) &&
      (List.range 4).all fun u => u == n || fieldOf (s.parN (Idx.CLE_RCuCFG u)) 7 4 != fieldOf w 7 4
  else if 4 ≤ n ∧ n < 8 ∧ 0x38 ≤ off ∧ off ≤ 0x3C then !s.parBit (Idx.CLE_TRbCFG (n - 4)) 0
  else true

/-- The owner's condition for a write of `idx` holds (R121; the blocks' tables). -/
def State.ownerAllows (s : State) (idx : Nat) (v : Int) : Bool :=
  let w := v.toNat
  if 0x0800 ≤ idx ∧ idx < 0x0A00 then
    (!standstillIdx.contains idx || s.hstMayWrite) && (idx != Idx.HST_DLRATE || !s.hst.enable)
  else if 0x0C00 ≤ idx ∧ idx < 0x1000 then s.cleAllows idx v
  else if 0x1000 ≤ idx ∧ idx < 0x1200 then
    let n := (idx - 0x1000) / 0x100
    (!gatesOffIdx.contains (idx % 0x100) || s.gatesIdle n) &&
      (idx % 0x100 != 1 || !w.testBit 0 || s.plainInput (s.parN (Idx.DRn_DCFIO n)))
  else if 0x1600 ≤ idx ∧ idx < 0x1780 ∧ idx % 8 = 0 then s.fioAllows ((idx - 0x1600) / 8) v
  else if 0x1800 ≤ idx ∧ idx < 0x1880 then
    let b := (idx - 0x1800) / 0x40
    let off := idx % 0x40
    if off = 0 then w.testBit 1 == s.parBit (Idx.CANb_CFG b) 1 || (!w.testBit 0 && !s.parBit (Idx.CANb_CFG b) 0)
    else !(decide (1 ≤ off ∧ off ≤ 4)) || !s.parBit (Idx.CANb_CFG b) 0
  else if idx = Idx.DSP_GROUP ∨ idx = Idx.DSP_ENABLE then (s.heldBy s.me).isEmpty
  else if idx = Idx.SHF_POSN ∨ idx = Idx.SHF_ADDRUP ∨ idx = Idx.SHF_ADDRDN ∨ idx = Idx.SHF_NLRATE then
    s.par Idx.SHF_ENABLE != 1
  else true

/-! ## The checks of a write (R123) -/

/-- The index and the flag and version fields of a PARAM_WRITE. -/
def Flight.widx (f : Flight) : Nat := getU f.p 0 2
def Flight.wcheck (f : Flight) : Bool := (getU f.p 3 1).testBit 0

/-- The value a PARAM_WRITE carries, its reserved bits dropped. -/
def Flight.wval (f : Flight) : Int :=
  match paramInfo f.widx with
  | some r => r.clean (entryValue r.ty f.p 8)
  | none => 0

/-- Access and privilege (R91, R119): AUTH_REQUIRED on the UART without a session for what READ does not allow. -/
def State.accessRefused (s : State) (h : Nat) (r : PInfo) : Option Status :=
  let low := fun (l : Nat) =>
    if l ≤ s.privOf h then none
    else if h = 2 ∧ (s.slot h).session.isNone then some Status.authRequired else some Status.denied
  match r.acc with
  | .ro => some .denied
  | .sw => some .denied
  | .rw l => low l
  | .wo l => low l
  | .roClr => low 1

/-- In a LOCKOUT whose only cause is a lost parameter, only the lost indices are written, on the UART under a session at ENGINEER
or above (R127); the recovery loader takes SEC.STAGEn and SEC.ACTION only (19 R482). -/
def State.writeBarred (s : State) (f : Flight) : Bool :=
  (s.pwr.state == .lockout && s.pwr.lockoutCause == 0x1312 &&
    !(s.pwr.lostParams.contains f.widx && f.slot == 2 && (s.slot 2).session.isSome && decide (2 ≤ s.privOf 2))) ||
  (s.pwr.state == .start && !(f.widx == Idx.SEC_ACTION || decide (0x1E20 ≤ f.widx ∧ f.widx < 0x1E34)))

/-- Checks 1 to 3: index, access and privilege, type and range. -/
def State.writeForm (s : State) (f : Flight) : Option Status :=
  match paramInfo f.widx with
  | none => some .badIndex
  | some r => match s.accessRefused f.slot r with
    | some st => some st
    | none =>
      if getU f.p 2 1 ≠ r.ty.code ∨ !r.inRange f.wval ∨ !s.crossRange f.widx f.wval then some .range else none

/-- Checks 4 and 5: the owner's condition and the expected version. -/
def State.writeOwner (s : State) (f : Flight) : Option Status :=
  if s.writeBarred f ∨ !s.ownerAllows f.widx f.wval then some .state
  else if f.wcheck ∧ getU f.p 4 4 ≠ s.parVer f.widx then some .conflict
  else none

/-- All checks of R123 in their order. -/
def State.writeRefused (s : State) (f : Flight) : Option Status :=
  match s.writeForm f with
  | some st => some st
  | none => s.writeOwner f

/-! ## Application (R121, R124, R126) -/

/-- A safety function of the host block: the sessions of an SPI port that becomes trusted close (05 Table HOST-11). -/
def State.trustPort (s : State) (h : Nat) : State :=
  if s.parBit Idx.HOST_SPTRUST h ∧ (s.slot h).session.isSome then s.closeSlot h false else s

/-- A staged word of SEC.STAGEn (19 R464). -/
def putStage (old : List Byte) (n : Nat) (w : Nat) : List Byte :=
  let b := (old ++ List.replicate 160 0).take 160
  b.take (8 * n) ++ toLe 8 w ++ b.drop (8 * n + 8)

/-- What follows from a value the owner has applied; `old` is the value before (the owners' chapters). -/
def State.onApply (s : State) (idx : Nat) (old v : Int) (slot : Nat) : State :=
  if idx = Idx.HOST_SPTRUST then (s.trustPort 0).trustPort 1
  else if idx = Idx.HST_CMDSRC then { s with hst.ver := (s.hst.ver + 1) % 2 ^ 32 }
  else if idx = Idx.HST_NLAND ∨ idx = Idx.HST_PSDIR ∨ idx = Idx.HST_PSAOFS ∨ idx = Idx.HST_PSBOFS then
    { s with hst.unlearned := true }
  else if 0x0C00 ≤ idx ∧ idx < 0x1000 ∧ (idx - 0x0C00) % 0x40 = 0x31 then
    s.modSlotC ((idx - 0x0C00) / 0x40) fun c => { c with satfl := 0 }
  else if idx = Idx.CLE_RCuUPD 0 ∨ idx = Idx.CLE_RCuUPD 1 ∨ idx = Idx.CLE_RCuUPD 2 ∨ idx = Idx.CLE_RCuUPD 3 then
    { s with cle.units := modifyAt s.cle.units ((idx - 0x0C00) / 0x40) fun u => { u with upd := 0 } }
  else if idx = Idx.DRn_CAMSEL 0 ∨ idx = Idx.DRn_CAMSEL 1 then
    if old = v then s else s.modD ((idx - 0x1000) / 0x100) fun d => { d with camVer := (d.camVer + 1) % 2 ^ 32 }
  else if 0x1600 ≤ idx ∧ idx < 0x1780 ∧ idx % 8 = 0 then s.fioRestart ((idx - 0x1600) / 8)
  else if 0x1600 ≤ idx ∧ idx < 0x1780 ∧ idx % 8 = 5 then s.modFch ((idx - 0x1600) / 8) fun c => { c with overrun := false }
  else if idx = Idx.CANb_CFG 0 ∨ idx = Idx.CANb_CFG 1 then
    if !old.toNat.testBit 0 ∧ v.toNat.testBit 0 ∧ s.engines then s.canJoin ((idx - 0x1800) / 0x40) else s
  else if idx = Idx.RNG_ADDR then { s with rng.dup := false }
  else if idx = Idx.RNG_PACFG then s.modPort 0 fun p => { p with link := false, amp := 0, mode := 2 }
  else if idx = Idx.RNG_PBCFG then s.modPort 1 fun p => { p with link := false, amp := 0, mode := 2 }
  else if 0x1C00 ≤ idx ∧ idx < 0x1C20 then s.shfCheck
  else if idx = Idx.TPH_FORMAT then s.followFormat
  else if idx = Idx.RTC_ALARM then { s with rtc.alarmPending := false }
  else if idx = Idx.PWR_VINMIN then s.setOwn idx (s.par Idx.PWR_VIN)
  else if idx = Idx.PWR_TDIEMAX then s.setOwn idx (s.par Idx.PWR_TDIE)
  else if 0x1E20 ≤ idx ∧ idx < 0x1E34 then s.modSlot slot fun x => { x with stage := putStage x.stage (idx - 0x1E20) v.toNat }
  else s

/-- The value that is stored: a write-only parameter holds none (R119). -/
def storedValue (idx : Nat) (v : Int) : Int :=
  match paramInfo idx with
  | some r => (match r.acc with | .wo _ => 0 | _ => v)
  | none => v

/-- The owner applies a value: new value and version, and what follows from it; the configuration measurement is due again
(R124; 19 R472). -/
def State.applyPar (s : State) (idx : Nat) (v : Int) (slot : Nat) : State :=
  let old := s.par idx
  let s := s.setPar idx (storedValue idx v)
  let s := if pvPersist idx = .mram then { s with sec.measDirty := true } else s
  s.onApply idx old v slot

/-- The completion payload of a write (R123). -/
def State.writeResult (s : State) (idx : Nat) (v : Int) : List Byte :=
  match paramInfo idx with
  | some r => paramEntry idx r.ty.code 0 (s.parVer idx) v
  | none => []

/-- PARAM_WRITTEN (R494): instance the slot, data bytes 24–25 the index, 28–31 the new version. -/
def State.paramWritten (s : State) (slot idx ver : Nat) : State :=
  if isConfig idx then s.raise 0x1310 1 slot [(2, idx), (4, ver)] else s

/-- The writes that act as commands of a block, and have steps of their own. -/
def commandIdx (s : State) (f : Flight) : Bool :=
  let i := f.widx
  [Idx.DEV_RESTORE, Idx.GYS_CTRL, Idx.CANb_CANCEL 0, Idx.CANb_CANCEL 1, Idx.DSP_PREDRST, Idx.SHF_ZLO, Idx.SHF_ZHI, Idx.TPH_CLEAR,
    Idx.SEC_ACTION].contains i ||
    ([Idx.CLE_TRbCFG 0, Idx.CLE_TRbCFG 1, Idx.CLE_TRbCFG 2, Idx.CLE_TRbCFG 3].contains i && (f.wval.toNat.testBit 0 || s.parBit i 0)) ||
    (i == Idx.SEC_MINEPOCH && s.par Idx.SEC_MINEPOCH != f.wval)

/-- An earlier write of the same parameter still waits for its boundary (R125). -/
def State.writeWaits (s : State) (f : Flight) (idx : Nat) : Bool :=
  ((s.host.ops.takeWhile fun x => x.d.tag != f.d.tag).any fun x =>
    match x.phase with | .paramApply i _ => i == idx | _ => false)

/-- PARAM_WRITE (R123): the checks in their order; a write that passes waits for its apply boundary (R121). Checks 4 and 5 are left to
the boundary while an earlier write of the parameter waits (R125). -/
def execParamWrite (tag : Nat) (s : State) : Out :=
  occurs (s.hostReady tag 0x03 && !commandIdx s (s.flight tag)) s <| s.hostCmd tag 0 fun s f =>
    match (if s.writeWaits f f.widx then s.writeForm f else s.writeRefused f) with
    | some st => s.complete f st f.widx
    | none => s.setPhase tag (.paramApply f.widx f.wval)

/-- The index of a write that waits for its boundary. -/
def Flight.waitsFor (f : Flight) : Option Nat := match f.phase with | .paramApply i _ => some i | _ => none

/-- A write of CANb.CFG that clears ENABLE, whose step is CAN_DISABLE (14 R371). -/
def State.clearsCan (s : State) (f : Flight) : Bool :=
  match f.phase with
  | .paramApply i v => (i == Idx.CANb_CFG 0 || i == Idx.CANb_CFG 1) && s.parBit i 0 && !v.toNat.testBit 0
  | _ => false

/-- The boundary of a write: refused when a condition no longer holds, else applied, the commit point; a kept value then awaits
durability, any other completes OK (R120, R121, R126). -/
def State.applyWrite (s : State) (f : Flight) (idx : Nat) (v : Int) : State :=
  match (if !s.crossRange idx v then some Status.range else s.writeOwner f) with
  | some st => s.complete f st idx
  | none =>
    let s := s.applyPar idx v f.slot
    if pvPersist idx = .mram then s.setPhase f.d.tag (.paramDurable idx v (s.parVer idx))
    else
      let s := if pvPersist idx = .key then s.parDurable idx else s
      s.complete f .ok 0 (s.writeResult idx v) true

/-- PARAM_APPLY (R121, R124, R125): the owner applies the write at its boundary, after the action of a group that holds the parameter
(07 R152). -/
def execParamApply (tag : Nat) (s : State) : Out :=
  let f := s.flight tag
  occurs ((s.flight? tag).isSome && f.waitsFor.isSome && !s.writeWaits f (f.waitsFor.getD 0) && !s.clearsCan f &&
      !s.groupHolds (f.waitsFor.getD 0)) s <|
    match f.phase with
    | .paramApply idx v => s.applyWrite f idx v
    | _ => s

/-- An earlier value of the same parameter still waits for durability. -/
def State.durableWaits (s : State) (f : Flight) (idx : Nat) : Bool :=
  ((s.host.ops.takeWhile fun x => x.d.tag != f.d.tag).any fun x =>
    match x.phase with | .paramDurable i _ _ => i == idx | _ => false)

/-- The index whose durability a write waits for. -/
def Flight.durableFor (f : Flight) : Option Nat := match f.phase with | .paramDurable i _ _ => some i | _ => none

/-- Both copies hold the value: DEV.CFGCOUNT, PARAM_WRITTEN, and the completion (R126, R138, R494). -/
def State.writeDurable (s : State) (f : Flight) (idx : Nat) (v : Int) (ver : Nat) : State :=
  let s := { s with dir.durable := pvPut s.dir.durable ⟨idx, storedValue idx v, ver⟩,
                    pwr.lostParams := s.pwr.lostParams.filter fun i => i != idx }
  let s := (s.countConfig idx).paramWritten f.slot idx ver
  s.complete f .ok 0 (match paramInfo idx with | some r => paramEntry idx r.ty.code 0 ver v | none => []) true

/-- PARAM_DURABLE (R126, R138): both copies of an applied value are written. -/
def execParamDurable (tag : Nat) (s : State) : Out :=
  let f := s.flight tag
  occurs ((s.flight? tag).isSome && f.durableFor.isSome && !s.durableWaits f (f.durableFor.getD 0) && s.opCounts) s <|
    match f.phase with
    | .paramDurable idx v ver => s.writeDurable f idx v ver
    | _ => s

/-! ## Defaults (R129) -/

/-- The blocks of Table DEV-1: first and last index. -/
def blockRanges : List (Nat × Nat) :=
  [(0x0000, 0x00FF), (0x0100, 0x01FF), (0x0200, 0x02FF), (0x0300, 0x033F), (0x0400, 0x04FF), (0x0800, 0x09FF), (0x0C00, 0x0FFF),
   (0x1000, 0x10FF), (0x1100, 0x11FF), (0x1400, 0x14FF), (0x1600, 0x177F), (0x1800, 0x183F), (0x1840, 0x187F), (0x1A00, 0x1AFF),
   (0x1B00, 0x1BFF), (0x1C00, 0x1C3F), (0x1D00, 0x1D3F), (0x1D40, 0x1D5F), (0x1E00, 0x1E3F)]

/-- The parameters of a block that a restore at privilege `p` reaches: RW, MRAM or volatile, writable at `p` or below. -/
def restored (first last p : Nat) : List Nat :=
  ((List.range (last + 1 - first)).map fun k => first + k).filter fun i =>
    match paramInfo i with
    | some r => (r.per == .mram || r.per == .volatile) && (match r.acc with | .rw l => decide (l ≤ p) | _ => false)
    | none => false

/-- The car is parked: standstill with SOA, SOB and SOC open (R129). -/
def State.carParked (s : State) : Bool := s.standing && !s.soClosed 0 && !s.soClosed 1 && !s.soClosed 2

/-- A restored parameter takes its default (R129); CANb leaves or joins its bus as a write of CANb.CFG would have it. -/
def State.restorePar (s : State) (i slot : Nat) : State :=
  let v := pvDefault i
  let s := (s.applyPar i v slot).parDurable i
  s.countConfig i

/-- A whole block is restored. -/
def State.restoreBlock (s : State) (first last p slot : Nat) : State :=
  let s := (restored first last p).foldl (fun s i => s.restorePar i slot) s
  s.raise 0x1315 2 0xFF [(2, first), (1, p)]

/-- Why a restore of a block is refused. -/
def State.restoreRefused (s : State) (v : Nat) : Option Status :=
  if v = 0x1400 ∨ v = 0x1E00 then some .denied
  else if !(blockRanges.any fun r => r.1 == v) then some .range
  else if !s.carParked then some .state
  else none

/-- DEV_RESTORE (R129): a PARAM_WRITE of DEV.RESTORE. -/
def execDevRestore (tag : Nat) (s : State) : Out :=
  occurs (s.hostReady tag 0x03 && (s.flight tag).widx == Idx.DEV_RESTORE) s <| s.hostCmd tag 0 fun s f =>
    let v := f.wval.toNat
    match s.writeForm f with
    | some st => s.complete f st f.widx
    | none => match s.restoreRefused v with
      | some st => s.complete f st f.widx
      | none => match s.writeOwner f with
        | some st => s.complete f st f.widx
        | none =>
          let r := (blockRanges.find? fun r => r.1 == v).getD (0, 0)
          let s := (s.setPar Idx.DEV_RESTORE 0).restoreBlock r.1 r.2 (s.privOf f.slot) f.slot
          s.complete f .ok 0 (s.writeResult Idx.DEV_RESTORE v) true

/-! ## Writes that act as commands -/

/-- A command write: the checks of R123, its own condition, then its effect, version and completion. -/
def State.commandWrite (s : State) (f : Flight) (ok : Option Status) (k : State → State) : State :=
  match s.writeForm f with
  | some st => s.complete f st f.widx
  | none => match ok with
    | some st => s.complete f st f.widx
    | none => match s.writeOwner f with
      | some st => s.complete f st f.widx
      | none =>
        let s := k (s.setPar f.widx (storedValue f.widx f.wval))
        s.complete f .ok 0 (s.writeResult f.widx f.wval) true

/-- A PARAM_WRITE of `idx` is ready. -/
def State.writesIdx (s : State) (tag idx : Nat) : Bool := s.hostReady tag 0x03 && (s.flight tag).widx == idx

/-- PREDRST (15 R400): the surge ratios return to DSP.RATIODEF. -/
def execPredrst (tag : Nat) (s : State) : Out :=
  occurs (s.writesIdx tag Idx.DSP_PREDRST) s <| s.hostCmd tag 0 fun s f =>
    s.commandWrite f none fun s => { s with dsp.ratios := [], dsp.ratioBase := s.parN Idx.DSP_RATIODEF * 1000000 }

/-- TPH_CLEAR (17 R437): records below TRIP are freed. -/
def execTphClear (tag : Nat) (s : State) : Out :=
  occurs (s.writesIdx tag Idx.TPH_CLEAR) s <| s.hostCmd tag 0 fun s f =>
    s.commandWrite f none fun s => s.tphClear

/-- CAN_CANCEL (14 R357): the pending frame of the named object is cancelled. -/
def execCanCancel (tag : Nat) (s : State) : Out :=
  let i := (s.flight tag).widx
  occurs (s.hostReady tag 0x03 && (i == Idx.CANb_CANCEL 0 || i == Idx.CANb_CANCEL 1)) s <| s.hostCmd tag 0 fun s f =>
    let b := (f.widx - 0x1800) / 0x40
    let j := f.wval.toNat
    match cancelRefused j (s.cobj b j) with
    | some .tooLate => match s.writeRefused f with
      | some st => s.complete f st f.widx
      | none => (s.modObj b j (CanObj.cancel Status.aborted.code)).complete f .tooLate f.widx
    | r => s.commandWrite f r fun s => s.modObj b j (CanObj.cancel Status.aborted.code)

/-- CAN_DISABLE (14 R371): a waiting write of CANb.CFG that clears ENABLE applies at the end of the frame in progress. -/
def execCanDisable (tag : Nat) (s : State) : Out :=
  let f := s.flight tag
  occurs ((s.flight? tag).isSome && s.clearsCan f && !s.writeWaits f f.widx &&
      s.busIdle ((f.widx - 0x1800) / 0x40)) s <|
    match f.phase with
    | .paramApply idx v =>
      let ok := s.ownerAllows idx v
      let s := s.applyWrite f idx v
      if ok ∧ !s.parBit idx 0 then s.canDisable ((idx - 0x1800) / 0x40) else s
    | _ => s

/-- The configuration of a trace buffer is written as a whole: applied at once, volatile. -/
def State.traceWrite (s : State) (f : Flight) (ok : Option Status) (k : State → State) : State :=
  match s.writeForm f with
  | some st => s.complete f st f.widx
  | none => match ok with
    | some st => s.complete f st f.widx
    | none =>
      if f.wcheck ∧ getU f.p 4 4 ≠ s.parVer f.widx then s.complete f .conflict f.widx
      else
        let s := k (s.setPar f.widx f.wval)
        s.complete f .ok 0 (s.writeResult f.widx f.wval) true

/-- The buffer a PARAM_WRITE configures. -/
def Flight.buffer (f : Flight) : Nat := (f.widx - 0x0D38) / 0x40

/-- A PARAM_WRITE of a TRbCFG is ready. -/
def State.writesTrace (s : State) (tag : Nat) : Bool :=
  s.hostReady tag 0x03 && [Idx.CLE_TRbCFG 0, Idx.CLE_TRbCFG 1, Idx.CLE_TRbCFG 2, Idx.CLE_TRbCFG 3].contains (s.flight tag).widx

/-- TRACE_ARM (10 R262): a write of TRbCFG with ARM set; RANGE without signal 0 or for an edge trigger on node 18, STATE while
armed. -/
def execTraceArm (tag : Nat) (s : State) : Out :=
  occurs (s.writesTrace tag && (s.flight tag).wval.toNat.testBit 0) s <| s.hostCmd tag 0 fun s f =>
    let b := f.buffer
    let kind := fieldOf f.wval.toNat 2 1
    let bad := (s.traceSignals b).getD 0 0xFFFF == 0xFFFF ||
      ((kind == 1 || kind == 2) && s.parN (Idx.CLE_TRbTRIG b) % 256 == 18)
    s.traceWrite f (if bad then some .range else if s.parBit f.widx 0 then some .state else none) fun s => s.traceArm b

/-- TRACE_DISARM (10 R262): a write of TRbCFG with ARM clear to an armed buffer; accepted when no other field changes. -/
def execTraceDisarm (tag : Nat) (s : State) : Out :=
  occurs (s.writesTrace tag && !(s.flight tag).wval.toNat.testBit 0 && s.parBit (s.flight tag).widx 0) s <|
    s.hostCmd tag 0 fun s f =>
      s.traceWrite f (if f.wval.toNat / 2 ≠ s.parN f.widx / 2 then some .state else none) fun s => s.traceDisarm f.buffer

/-- The zone write may be made: SHF disabled, or a commissioning write in inspection at standstill over good links that keeps both
invariants (16 R420). -/
def State.zoneWriteOk (s : State) (upper : Bool) (v : Int) : Bool :=
  s.par Idx.SHF_ENABLE != 1 ||
    (s.mode == 1 && s.standing &&
      [true, false].all (fun up => !s.sideOn up || (s.side up).good) &&
      (let t := s.setEdge upper v; [true, false].all fun up => !s.sideOn up || t.sideVerified up))

/-- ZONE_WRITE (16 R420): a PARAM_WRITE of SHF.ZLO or SHF.ZHI. -/
def execZoneWrite (tag : Nat) (s : State) : Out :=
  occurs (s.writesIdx tag Idx.SHF_ZLO || s.writesIdx tag Idx.SHF_ZHI) s <| s.hostCmd tag 0 fun s f =>
    let upper := f.widx == Idx.SHF_ZHI
    match s.writeForm f with
    | some st => s.complete f st f.widx
    | none =>
      if !s.zoneWriteOk upper f.wval then s.complete f .state f.widx
      else match s.writeOwner f with
        | some st => s.complete f st f.widx
        | none =>
          let s := (s.setZone upper f.wval).shfCheck
          let s := s.paramWritten f.slot f.widx (s.parVer f.widx)
          s.complete f .ok 0 (s.writeResult f.widx f.wval) true

end Sys2Proof.Machine
end

