-- ==== Sys2Proof/Machine/Tables.lean ====
section
/-!
DEFINITION. Table objects (06_parameter_directory.md R130–R137) with the owners' body checks (08 R185–R188, 09 R209, 11 R282, R293,
14 R367, R368).
-/
namespace Sys2Proof.Machine

/-! ## Objects, headers, staging copies -/

/-- Body length of a table, none for an ID that does not exist (Table DEV-7). -/
def tableLen (tid : Nat) : Option Nat :=
  if tid = 0x0100 then some 4096
  else if (0x0200 ≤ tid ∧ tid < 0x0204) ∨ (0x0210 ≤ tid ∧ tid < 0x0214) then some 2048
  else if tid = 0x0300 ∨ tid = 0x0301 then some 65536
  else if 0x0400 ≤ tid ∧ tid < 0x0404 then some 2048
  else if tid = 0x0500 ∨ tid = 0x0501 then some 4096
  else if tid = 0x0600 ∨ tid = 0x0601 then some 524288
  else if tid = 0x0700 then some 64 else none

/-- A Geyser bank. -/
def isBank (tid : Nat) : Bool := tid == 0x0600 || tid == 0x0601

/-- The bank that is active. -/
def State.activeBank (s : State) (tid : Nat) : Bool := match s.gys.bank with | some b => tid == bankTid b | none => false

/-- The body of a table's staging copy: the claimed one; a Geyser bank is its own staging copy. -/
def State.staged (s : State) (tid : Nat) : Mem :=
  if isBank tid then (s.tbl tid).body else match (s.tbl tid).claim with | some c => c.body | none => (s.tbl tid).body

/-- The table whose version an activation replaces: for a bank the active bank, if any. -/
def State.versionOf (s : State) (tid : Nat) : Nat :=
  if isBank tid then (match s.gys.bank with | some b => (s.tbl (bankTid b)).ver | none => 0) else (s.tbl tid).ver

/-- CRC-32 of a body. -/
def bodyCrc (tid len : Nat) (m : Mem) : Nat := crc32 (memReadN (tableByte tid) m 0 len)

/-- The 32-byte header (Table DEV-6); `staging` for a claimed staging copy (R132). -/
def State.tableHeader (s : State) (tid len : Nat) (staging : Bool) : List Byte :=
  let t := s.tbl tid
  let holder := match t.claim with | some c => c.slot | none => 0xFF
  let own := staging && !isBank tid && t.claim.isSome
  toLe 2 tid ++ toLe 2 1 ++ toLe 4 len ++
    toLe 4 (if own then (t.claim.map fun c => c.baseVer).getD 0 else t.ver) ++
    toLe 4 (bodyCrc tid len (if own then s.staged tid else t.body)) ++ toLe 6 t.opTime ++ [0, 0] ++ toLe 4 t.cyc ++
    toLe 1 (if own then 1 else t.origin) ++ toLe 1 holder ++ [0, 0]

/-- TABLE_READ (R132): the header followed by the bytes. A copy other than 0 and 1 is RANGE. -/
def execTableRead (tag : Nat) (s : State) : Out :=
  occurs (s.hostReady tag 0x04) s <| s.hostCmd tag 0 fun s f =>
    let tid := getU f.p 0 2
    let copy := getU f.p 2 1
    let off := getU f.p 4 4
    let n := getU f.p 8 2
    match tableLen tid with
    | none => s.complete f .badIndex
    | some len =>
      if (1 < copy ∧ !isBank tid) ∨ n = 0 ∨ 448 < n ∨ len < off + n then s.complete f .range
      else
        let staging := copy == 1 && !isBank tid
        let body := if staging then s.staged tid else (s.tbl tid).body
        s.complete f .ok 0 (s.tableHeader tid len staging ++ memReadN (tableByte tid) body off n)

/-- A TABLE_WRITE: offset, length, data and flags of its prefix (Table DEV-8). -/
def Flight.tflag (f : Flight) (n : Nat) : Bool := (getU f.p 2 1).testBit n

/-- DISCARD alone (R133). -/
def Flight.discards (f : Flight) : Bool := f.tflag 1 && !f.tflag 0

/-- The staging copy is claimed by the slot. -/
def State.claims (s : State) (tid h : Nat) : Bool := match (s.tbl tid).claim with | some c => c.slot == h | none => false

/-- The staging copy is claimed by another slot. -/
def State.claimedElsewhere (s : State) (tid h : Nat) : Bool := (s.tbl tid).claim.isSome && !s.claims tid h

/-- MRAM address of a byte of a Geyser bank (01 Table LMP-3). -/
def bankAddr (tid off : Nat) : Nat := (if tid = 0x0600 then 0x300000 else 0x380000) + off

/-- A write of the active bank is refused at the memory port and recorded as an access fault of the LMP (01 R14, Table LMP-7). -/
def State.accessRefused4 (s : State) (addr : Nat) : State := s.raise 0x13F3 4 0xFF [(4, addr), (1, 1), (1, 0xFF)]

/-- BEGIN claims the staging copy for the slot: active body and base version (R133). With no active bank there is nothing to copy into
a bank. -/
def State.claimTable (s : State) (tid h : Nat) : State :=
  let base := s.versionOf tid
  if isBank tid then
    let src := match s.gys.bank with | some b => (s.tbl (bankTid b)).body | none => (s.tbl tid).body
    s.modTbl tid fun t => { t with body := src, claim := some { slot := h, baseVer := base, body := [] } }
  else s.modTbl tid fun t => { t with claim := some { slot := h, baseVer := base, body := t.body } }

/-- Data stored in the staging copy. -/
def State.stageBytes (s : State) (tid off : Nat) (bs : List Byte) : State :=
  if isBank tid then s.modTbl tid fun t => { t with body := memWriteN (tableByte tid) t.body off bs }
  else s.modTbl tid fun t =>
    { t with claim := t.claim.map fun c => { c with body := memWriteN (tableByte tid) c.body off bs } }

/-- The data of a TABLE_WRITE, absent bytes 0. -/
def writeData (p : List Byte) (n : Nat) : List Byte := ((p.drop 12) ++ List.replicate n 0).take n

/-- TABLE_WRITE (R132, R133, R14). -/
def execTableWrite (tag : Nat) (s : State) : Out :=
  occurs (s.hostReady tag 0x05 && !(s.flight tag).discards) s <| s.hostCmd tag 2 fun s f =>
    let tid := getU f.p 0 2
    let off := getU f.p 4 4
    let n := getU f.p 8 2
    match tableLen tid with
    | none => s.complete f .badIndex
    | some len =>
      if s.activeBank tid then (s.accessRefused4 (bankAddr tid off)).complete f .denied
      else if (f.tflag 0 ∧ f.tflag 1) ∨ n = 0 ∨ 448 < n ∨ len < off + n then s.complete f .range
      else if s.claimedElsewhere tid f.slot ∨ (!f.tflag 0 ∧ !s.claims tid f.slot) then s.complete f .state
      else
        let s := if f.tflag 0 then s.claimTable tid f.slot else s
        (s.stageBytes tid off (writeData f.p n)).complete f .ok 0 [] true

/-- TABLE_WRITE_DISCARD (R133): the claim is released; offset, length and data are ignored. -/
def execTableWriteDiscard (tag : Nat) (s : State) : Out :=
  occurs (s.hostReady tag 0x05 && (s.flight tag).discards) s <| s.hostCmd tag 2 fun s f =>
    let tid := getU f.p 0 2
    match tableLen tid with
    | none => s.complete f .badIndex
    | some _ =>
      if s.activeBank tid then (s.accessRefused4 (bankAddr tid 0)).complete f .denied
      else if !s.claims tid f.slot then s.complete f .state
      else (s.modTbl tid fun t => { t with claim := none }).complete f .ok 0 [] true

/-! ## The owners' body checks; `rd off n` reads the staged body -/

/-- Floor table (09 R209). -/
def State.floorOk (s : State) (rd : Nat → Nat → Nat) : Bool :=
  let lv := fun k => signedOf 32 (rd (32 * k) 4)
  let lo := s.par Idx.HST_TERMLO
  let hi := s.par Idx.HST_TERMHI
  (List.range s.nland).all fun k =>
    (!(rd (32 * k + 16) 1).testBit 0 || decide (signedOf 32 (rd (32 * k + 4) 4) < signedOf 32 (rd (32 * k + 8) 4))) &&
      (k == 0 || decide (lv (k - 1) < lv k)) &&
      (lo == hi || (decide (lo - 1000000 ≤ lv k) && decide (lv k ≤ hi + 1000000)))

/-- Cam table (11 R293). -/
def camOk (rd : Nat → Nat → Nat) : Bool :=
  let c := rd 0 2
  let dist := fun i => rd (8 + 8 * i) 4
  let door := fun i => rd (12 + 8 * i) 4
  decide (2 ≤ c) && decide (c ≤ 255) && door 0 == 0 && decide (dist 0 ≤ 300000) &&
    ((List.range (c - 1)).all fun i => decide (dist (i + 1) < dist i) && decide (door i ≤ door (i + 1))) &&
    (List.range (2048 - (8 + 8 * c))).all fun i => rd (8 + 8 * c + i) 1 == 0

/-- Door profiles of operator `n` (11 R282). -/
def State.profileOk (s : State) (n : Nat) (rd : Nat → Nat → Nat) : Bool :=
  (List.range 32768).all fun i =>
    let v := rd (2 * i) 2
    v == 0x8000 || decide ((mag (signedOf 16 v) : Int) ≤ s.par (Idx.DRn_PMAXF n))

/-- A station entry (14 Table CAN-7). -/
def stationOk (rd : Nat → Nat → Nat) (n : Nat) : Bool :=
  let o := 32 * n
  rd (o + 1) 3 == 0 && rd (o + 8) 24 == 0 &&
    (!(rd o 1).testBit 0 || (decide (10 ≤ rd (o + 4) 2) && decide (rd (o + 4) 2 ≤ 10000)))

/-- An object entry (14 Table CAN-8). -/
def objectOk (rd : Nat → Nat → Nat) (fd : Bool) (j : Nat) : Bool :=
  let o := 2048 + 16 * j
  let role := rd o 1
  let flags := rd (o + 3) 1
  let len := rd (o + 4) 1
  let refresh := rd (o + 6) 2
  decide (role ≤ 3) && rd (o + 5) 1 == 0 && rd (o + 8) 8 == 0 && decide (rd (o + 1) 1 ≤ 63) && decide (rd (o + 2) 1 ≤ 15) &&
    (role != 1 || rd (o + 2) 1 == 0) && (refresh == 0 || (decide (10 ≤ refresh) && decide (refresh ≤ 10000))) &&
    (decide (len ≤ 8) || (flags.testBit 0 && [12, 16, 20, 24, 32, 48, 64].contains len)) &&
    (!(flags.testBit 0 || flags.testBit 1) || fd) && (!flags.testBit 1 || flags.testBit 0) &&
    (role == 0 || (rd (32 * (rd (o + 1) 1)) 1).testBit 0)

/-- Objects of a role that name a station. -/
def roleCount (rd : Nat → Nat → Nat) (role n : Nat) : Nat :=
  ((List.range 126).filter fun j => rd (2048 + 16 * (j + 2)) 1 == role && rd (2048 + 16 * (j + 2) + 1) 1 == n).length

/-- Station configuration of bus `b` (14 R367, R368). -/
def State.canBodyOk (s : State) (b : Nat) (rd : Nat → Nat → Nat) : Bool :=
  rd 2048 32 == 0 && (List.range 64).all (stationOk rd) &&
    (List.range 126).all (fun j => objectOk rd (s.parBit (Idx.CANb_CFG b) 1) (j + 2)) &&
    (List.range 64).all fun n => !(rd (32 * n) 1).testBit 0 ||
      (roleCount rd 1 n == 1 && decide (roleCount rd 2 n ≤ 1) && decide (roleCount rd 3 n ≤ 1))

/-- Calibration set (Table DEV-9). -/
def calOk (rd : Nat → Nat → Nat) : Bool :=
  let within := fun (off : Nat) (lim : Nat) => decide (mag (signedOf 16 (rd off 2)) ≤ lim)
  [0, 2, 4, 6].all (fun o => within o 200) && [8, 10, 12, 14].all (fun o => within o 2000) && [16, 18].all (fun o => within o 500) &&
    within 20 5000 && within 22 2000 && [24, 28].all (fun o => within o 10000) && [26, 30].all (fun o => within o 1000) &&
    [32, 34].all (fun o => within o 500) && within 36 2000 && [38, 40, 42].all (fun o => within o 100) && rd 44 20 == 0

/-! ## Image checks (08 R185–R188) -/

/-- Check 4: opcode, mode and reserved operand bits of an instruction word are defined (08 Tables GYS-3 to GYS-5). -/
def wordDefined (w : Nat) : Bool :=
  let op := w / 2 ^ 26
  let mode := fieldOf w 25 24
  let x := w % 2 ^ 24
  let bool := if mode = 0 then decide (x < 2) else decide (x < 2 ^ 21) && (mode != 3 || x % 8 == 0)
  let word := mode == 0 || fieldOf x 21 18 == 0
  if op = 0 ∨ op = 0x0D ∨ op = 0x0E ∨ op = 0x0F ∨ op = 0x1B ∨ op = 0x2E then mode == 0 && x == 0
  else if op ≤ 7 then bool
  else if op ≤ 0x0C then mode != 0 && bool
  else if op = 0x11 ∨ (0x24 ≤ op ∧ op ≤ 0x28) then mode != 0 && word
  else if op ≤ 0x23 then word
  else if op = 0x29 then mode == 0 && decide (x ≤ 1)
  else if op ≤ 0x2D then mode == 0 && decide (x < 2 ^ 17)
  else if op = 0x2F then mode == 0 && decide (x ≤ 2)
  else false

/-- Check 5: a mode D word address is aligned to its width, and a jump or call target lies in the code. -/
def wordPlaced (words w : Nat) : Bool :=
  let op := w / 2 ^ 26
  let mode := fieldOf w 25 24
  let x := w % 2 ^ 24
  if 0x2A ≤ op ∧ op ≤ 0x2D then decide (x < words)
  else if mode = 1 ∧ 0x10 ≤ op then x % 2 ^ 18 % widthBytes (x / 2 ^ 22) == 0
  else true

/-- First and last byte of a variable. -/
def GVar.first (v : GVar) : Nat := v.addr
def GVar.last (v : GVar) : Nat :=
  if v.ty = 1 then (v.addr * 8 + v.bit + v.count - 1) / 8 else v.addr + gtypeSize v.ty * v.count - 1

/-- A variable lies in a region that matches its class (08 Table GYS-2). -/
def GVar.placed (v : GVar) : Bool :=
  let lies := fun (lo hi : Nat) => decide (lo ≤ v.first) && decide (v.last ≤ hi)
  match v.cls with
  | 0 => lies 0xB000 0x3FFFF
  | 1 => lies 0x1000 0x1007 || lies 0x1008 0x100F || lies 0x1040 0x10BF || lies 0x1100 0x50FF
  | 2 => lies 0x6000 0x6007 || lies 0x6100 0xA0FF
  | 3 => lies 0 0x07FF || lies 0x0800 0x0FFF
  | _ => false

/-- A variable-table entry by itself (08 R186, Table GYS-13). -/
def GVar.ok (v : GVar) : Bool :=
  v.ident != 0 && v.ident != 0xFFFFFFFF && gtypeSize v.ty != 0 && (if v.ty = 1 then decide (v.bit ≤ 7) else v.bit == 0) &&
    decide (1 ≤ v.count) && v.placed

/-- Identities rise strictly. -/
def sortedIds : List GVar → Bool
  | [] => true
  | [_] => true
  | v :: w :: vs => decide (v.ident < w.ident) && sortedIds (w :: vs)

/-- The lines a variable lies in. -/
def GVar.lines (v : GVar) : List Nat := (List.range (v.last / 64 + 1 - v.first / 64)).map fun k => v.first / 64 + k

/-- A variable of the new table that a migration writes: new, moved or retyped against the old table (08 R188, R190). -/
def migrates (old : List GVar) (v : GVar) : Bool :=
  match old.find? fun o => o.ident == v.ident with
  | none => true
  | some o => o.ty != v.ty || o.addr != v.addr || o.bit != v.bit

/-- Length of the image before its signature block. -/
def imageLen (rd : Nat → Nat → Nat) : Nat := 64 + rd 8 4 + 16 * rd 16 4 + rd 20 4

/-- Check 1 of Table GYS-14. -/
def imageShape (rd : Nat → Nat → Nat) : Bool :=
  rd 0 4 == leNat [0x47, 0x59, 0x53, 0x49] && rd 4 2 == 1 && rd 8 4 % 4 == 0 && decide (rd 8 4 ≤ 524288) &&
    decide (rd 20 4 ≤ 217088) && decide (imageLen rd + 178 ≤ 524288)

/-- The first image check that fails, 0 when all pass (08 R188, Table GYS-14). -/
def State.imageCheck (s : State) (rd : Nat → Nat → Nat) : Nat :=
  let words := rd 8 4 / 4
  let code := (List.range words).map fun k => rd (64 + 4 * k) 4
  let vars := gvarsOf rd
  let len := imageLen rd
  if !imageShape rd then 1
  else
    let msg := toLe len (rd 0 len)
    let signed := match s.sec.program with | some k => Config.ed448Verify k msg (rd (len + 64) 114) | none => false
    if Config.shake256 msg 64 ≠ rd len 64 ∨ !signed then 2
    else if s.par Idx.DEV_FWIF < rd 30 2 then 3
    else if !code.all wordDefined then 4
    else if !(code.all (wordPlaced words) && decide (rd 12 4 < words)) then 5
    else if !(sortedIds vars && vars.all GVar.ok) then 6
    else if s.par Idx.GYS_CYCMAX < rd 24 4 ∨ 1024 < rd 28 2 then 7
    else if s.gys.bank.isSome ∧ 3072 < (((vars.filter (migrates s.gvars)).flatMap GVar.lines).eraseDups).length then 8
    else 0

/-! ## Activation (R134) -/

/-- The owner's checks on a staged body: none when they pass, else the number of the image check, or 0 (R134). -/
def State.bodyRefused (s : State) (tid : Nat) : Option Nat :=
  let rd := fun (off n : Nat) => leNat (memReadN (tableByte tid) (s.staged tid) off n)
  let bad := fun (ok : Bool) => if ok then none else some 0
  if tid = 0x0100 then bad (s.floorOk rd)
  else if tid < 0x0220 then bad (camOk rd)
  else if tid = 0x0300 ∨ tid = 0x0301 then bad (s.profileOk (tid - 0x0300) rd)
  else if tid < 0x0404 then none
  else if tid = 0x0500 ∨ tid = 0x0501 then bad (s.canBodyOk (tid - 0x0500) rd)
  else if isBank tid then (if s.imageCheck rd = 0 then none else some (s.imageCheck rd))
  else bad (calOk rd)

/-- An operator at rest for the activation of its profiles (Table DEV-7). -/
def State.doorRests (s : State) (n : Nat) : Bool :=
  !(s.dn n).moving && (s.dn n).learn.step == 0 && (match (s.dn n).st with
    | .disabled => true
    | .closed => true
    | .open_ => true
    | .holding => true
    | .stopped => true
    | .fault => true
    | .unreferenced => true
    | _ => false)

/-- An online change is in progress (08 R189). -/
def State.changing (s : State) : Bool :=
  s.gys.st == 4 || s.host.ops.any fun x => match x.phase with
    | .tableSwitch t => isBank t
    | .tableDurable t => isBank t
    | _ => false

/-- The LOCKOUT of an invalid calibration set (R137). -/
def State.calLockout (s : State) : Bool := s.pwr.state == .lockout && s.pwr.lockoutCause == 0x1316

/-- The activation condition of Table DEV-7, other than a bank's. -/
def State.tableReady (s : State) (tid : Nat) : Bool :=
  if tid = 0x0100 then s.hstStill && s.standing && s.hst.target.isNone && s.hst.plan.isEmpty && s.hst.learn.step == 0
  else if tid < 0x0210 then !((s.dn 0).st == .advance && (s.dn 0).cam == tid - 0x0200)
  else if tid < 0x0220 then !((s.dn 1).st == .advance && (s.dn 1).cam == tid - 0x0210)
  else if tid = 0x0300 ∨ tid = 0x0301 then s.doorRests (tid - 0x0300)
  else if tid = 0x0700 then s.calLockout || (s.carParked && s.gatesIdle 0 && s.gatesIdle 1)
  else true

/-- The active version differs from the base version and IGNORE_VERSION is clear. -/
def State.versionMoved (s : State) (f : Flight) (tid : Nat) : Bool :=
  !f.tflag 0 && (match (s.tbl tid).claim with | some c => c.baseVer != s.versionOf tid | none => false)

/-- An image check failed: GYS_IMAGE_REFUSED with its number (08 R188). -/
def State.imageRefused (s : State) (tid check : Nat) : State := if isBank tid then s.raise 0x0405 3 0xFF [(1, check)] else s

/-- TABLE_ACTIVATE (R134): length and CRC, the owner's checks, the condition, the version; then it waits for the owner's boundary. -/
def execTableActivate (tag : Nat) (s : State) : Out :=
  occurs (s.hostReady tag 0x06) s <| s.hostCmd tag 2 fun s f =>
    let tid := getU f.p 0 2
    match tableLen tid with
    | none => s.complete f .badIndex
    | some len =>
      if !s.claims tid f.slot then s.complete f .state
      else if getU f.p 4 4 ≠ len ∨ getU f.p 12 4 ≠ bodyCrc tid len (s.staged tid) then s.complete f .integrity
      else match s.bodyRefused tid with
        | some c => (s.imageRefused tid c).complete f .range tid
        | none =>
          if (if isBank tid then s.changing else !s.tableReady tid) then s.complete f .state
          else if s.versionMoved f tid then s.complete f .conflict
          else s.setPhase tag (.tableSwitch tid)

/-! ## The switch -/

/-- Host-changed entries of the floor table get MANUAL (09 R209). -/
def markManual (old : Mem) (m : Mem) : Mem :=
  (List.range 128).foldl (fun m k =>
    if memReadN zeroByte old (32 * k) 32 = memReadN zeroByte m (32 * k) 32 then m
    else memWrite zeroByte m (32 * k + 16) (memRead zeroByte m (32 * k + 16) ||| 0x10)) m

/-- While HST.TERMLO and HST.TERMHI agree, the activated floor table gives them (09 R209). -/
def State.takeTerminals (s : State) : State :=
  if s.par Idx.HST_TERMLO = s.par Idx.HST_TERMHI then
    (s.setOwn Idx.HST_TERMLO (s.level 0)).setOwn Idx.HST_TERMHI (s.level (s.nland - 1))
  else s

/-- An object of the station configuration after an activation: an unchanged one keeps its buffers and frames, any other is cancelled
and emptied (14 R357, R368). -/
def CanObj.reassign (o : CanObj) : CanObj :=
  { CanObj.cancel Status.aborted.code o with
    full := none, fill := none, fresh := false, last := none, force := false }

/-- The supervisor takes a new station configuration (14 R368): added stations start LOST. -/
def State.canSwitched (s : State) (b : Nat) (old : Mem) : State :=
  let new := (s.tbl (0x0500 + b)).body
  let present := fun (m : Mem) (n : Nat) => (memRead zeroByte m (32 * n)).toNat.testBit 0
  let same := fun (j : Nat) => memReadN zeroByte old (2048 + 16 * j) 16 == memReadN zeroByte new (2048 + 16 * j) 16
  let s := (List.range 128).foldl (fun s j => if same j then s else s.modObj b j CanObj.reassign) s
  (List.range 64).foldl (fun s n =>
    if present new n ∧ !present old n then s.modStn b n fun _ => { lost := true } else s) s

/-- What the owner does at its switch. -/
def State.onSwitch (s : State) (tid : Nat) (old : Mem) : State :=
  if tid = 0x0100 then
    let s := s.modTbl tid fun t => { t with body := markManual old t.body }
    { s.takeTerminals with hst.unlearned := false }
  else if tid = 0x0300 ∨ tid = 0x0301 then s.modD (tid - 0x0300) fun d => { d with learned := false }
  else if 0x0400 ≤ tid ∧ tid < 0x0404 then
    { s with cle.units := modifyAt s.cle.units (tid - 0x0400) fun u => { u with learned := false } }
  else if tid = 0x0500 ∨ tid = 0x0501 then s.canSwitched (tid - 0x0500) old
  else if tid = 0x0700 then (s.setOwn Idx.DEV_CALSTATE 1).raise 0x1314 3 0xFF [(4, bodyCrc tid 64 old)]
  else s

/-- The owner switches copies: next version, origin 1, the claim released, TABLE_ACTIVATED (R134); the configuration measurement is due
again (19 R472). -/
def State.switchTable (s : State) (tid : Nat) : State :=
  let old := (s.tbl tid).body
  let s := s.modTbl tid fun t =>
    { t with body := (t.claim.map fun c => c.body).getD t.body, ver := (t.ver + 1) % 2 ^ 32, opTime := s.pwr.opTime, cyc := s.pwr.pwrCyc,
             origin := 1, claim := none }
  let s := (s.onSwitch tid old).raise 0x1313 1
  { s with sec.measDirty := true }

/-- The table a command waits to switch. -/
def Flight.switches (f : Flight) : Option Nat := match f.phase with | .tableSwitch t => some t | _ => none

/-- The owner's boundary can come: a station configuration waits for a boundary between Geyser cycles (Table DEV-7). -/
def State.switchBoundary (s : State) (tid : Nat) : Bool :=
  if tid = 0x0500 ∨ tid = 0x0501 then s.gys.phase == .boundary || s.gys.st != 1 else true

/-- TABLE_SWITCH (R134): the owner's boundary, the commit point; refused there when a check no longer passes (01 R17). -/
def execTableSwitch (tag : Nat) (s : State) : Out :=
  let f := s.flight tag
  let tid := f.switches.getD 0
  occurs ((s.flight? tag).isSome && f.switches.isSome && !isBank tid && s.switchBoundary tid) s <|
    if !s.tableReady tid then s.complete f .state
    else if s.versionMoved f tid then s.complete f .conflict
    else (s.switchTable tid).setPhase tag (.tableDurable tid)

/-- The table whose durability a command waits for. -/
def Flight.tableWaits (f : Flight) : Option Nat := match f.phase with | .tableDurable t => some t | _ => none

/-- TABLE_DURABLE (R134, R137, R138): body and header are durable in MRAM. -/
def execTableDurable (tag : Nat) (s : State) : Out :=
  let f := s.flight tag
  let tid := f.tableWaits.getD 0
  occurs ((s.flight? tag).isSome && f.tableWaits.isSome && s.opCounts) s <|
    let s := s.modTbl tid fun t => { t with durable := t.body, durVer := t.ver, durOrigin := t.origin }
    (s.countChange).complete f .ok 0 [] true

end Sys2Proof.Machine
end

