-- ==== Sys2Proof/Machine/Vars.lean ====
section
/-!
DEFINITION. Host access to Geyser variables and forces (08_geyser_engine.md R191–R197): reads, writes and forces as hosts send them, and
their effect at the input phase.
-/
namespace Sys2Proof.Machine

/-! ## Variables -/

/-- The host-write version of a variable (07 R146). -/
def State.varVer (s : State) (ident : Nat) : Nat := ((s.gys.vers.find? fun p => p.1 == ident).map fun p => p.2).getD 0

/-- An association list with one entry set, in rising order of its keys. -/
def putKey : List (Nat × Nat) → Nat → Nat → List (Nat × Nat)
  | [], k, v => [(k, v)]
  | (j, w) :: xs, k, v => if j < k then (j, w) :: putKey xs k v else if j = k then (k, v) :: xs else (k, v) :: (j, w) :: xs

/-- The host-write version rises (07 R146). -/
def State.bumpVar (s : State) (ident : Nat) : State :=
  { s with gys.vers := putKey s.gys.vers ident ((s.varVer ident + 1) % 2 ^ 32) }

/-- The force on an element (R192). -/
def State.forceOn (s : State) (ident elem : Nat) : Option Force := s.gys.forces.find? fun f => f.ident == ident && f.elem == elem

/-- The value field of an element's value under R118 of the parameter directory: sign extension for the signed types. -/
def gvarField (ty v : Nat) : List Byte :=
  let n := 8 * gtypeSize ty
  toLe 16 (if ty = 3 ∨ ty = 5 ∨ ty = 7 then codeOf 128 (signedOf n v) else v)

/-- The value the program reads in an element, a force substituted. -/
def State.gvarSeen (s : State) (v : GVar) (e : Nat) : Nat :=
  let b := v.bitAddr e
  if v.ty = 1 then b2n (s.gysBit b) else s.gysLoad (b / 8) (gtypeSize v.ty)

/-- The element lies in the input window of a STALE or LOST station (R183). -/
def State.gvarStale (s : State) (v : GVar) (e : Nat) : Bool :=
  let a := v.bitAddr e / 8
  decide (0x1100 ≤ a ∧ a < 0x5100) && (let q := (s.gysByte (0x1040 + (a - 0x1100) / 128)).toNat; q == 1 || q == 2)

/-- An entry of VAR_READ's result and its status (R196, Table GYS-15). -/
def State.varEntry (s : State) (ident elem flags : Nat) : List Byte × Status :=
  match s.gvar? ident with
  | some v =>
    if v.count ≤ elem then (none_ ident elem, .badIndex)
    else
      let stored := flags.testBit 0
      let x := if stored then s.gvarStored v elem else s.gvarSeen v elem
      let st : Status := if s.gvarStale v elem then .stale else .ok
      (toLe 4 ident ++ toLe 2 elem ++ toLe 1 v.ty ++ toLe 1 st.code ++
        toLe 4 (b2n (s.forceOn ident elem).isSome + 2 * b2n stored) ++ toLe 4 (s.varVer ident) ++ gvarField v.ty x, st)
  | none => (none_ ident elem, .badIndex)
where
  /-- The entry of an element that does not exist. -/
  none_ (ident elem : Nat) : List Byte :=
    toLe 4 ident ++ toLe 2 elem ++ [0] ++ toLe 1 Status.badIndex.code ++ List.replicate 24 0

/-- VAR_READ (R196): all entries from one boundary between cycles; the first status that is not OK is the completion's. -/
def execVarRead (tag : Nat) (s : State) : Out :=
  occurs (s.hostReady tag 0x08 && s.gys.phase == .boundary) s <| s.hostCmd tag 0 fun s f =>
    let n := getU f.p 0 2
    if n = 0 ∨ 15 < n then s.complete f .range
    else
      let es := (List.range n).map fun k =>
        (k, s.varEntry (getU f.p (2 + 8 * k) 4) (getU f.p (6 + 8 * k) 2) (getU f.p (8 + 8 * k) 2))
      let bytes := es.flatMap fun e => e.2.1
      match es.find? fun e => e.2.2 != .ok with
      | some e => s.complete f e.2.2 e.1 bytes
      | none => s.complete f .ok 0 bytes

/-- Fields of a VAR_WRITE or FORCE_SET (Table GYS-15). -/
def Flight.vident (f : Flight) : Nat := getU f.p 0 4
def Flight.velem (f : Flight) : Nat := getU f.p 4 2
def Flight.vty (f : Flight) : Nat := getU f.p 6 1
def Flight.vval (f : Flight) : Nat := getU f.p 12 (gtypeSize f.vty)

/-- A value of a type lies in its range: a bool is 0 or 1. -/
def gvalOk (ty v : Nat) : Bool := ty != 1 || decide (v ≤ 1)

/-- A host write reaches this variable: HOST_WRITE, and neither input nor system class (R164, R197). -/
def GVar.writable (v : GVar) : Bool := v.hostWrite && (v.cls == 0 || v.cls == 2)

/-- The checks of a VAR_WRITE in their order (R197). -/
def State.varRefused (s : State) (f : Flight) : Option Status :=
  match s.gvar? f.vident with
  | none => some .badIndex
  | some v =>
    if v.count ≤ f.velem then some .badIndex
    else if !v.writable then some .denied
    else if f.vty ≠ v.ty ∨ !gvalOk f.vty f.vval then some .range
    else if (getU f.p 7 1).testBit 0 ∧ getU f.p 8 4 ≠ s.varVer f.vident then some .conflict
    else none

/-- VAR_WRITE (R197): checked, then handed over to the next input phase. -/
def execVarWrite (tag : Nat) (s : State) : Out :=
  occurs (s.hostReady tag 0x09) s <| s.hostCmd tag 1 fun s f =>
    match s.varRefused f with
    | some st => s.complete f st
    | none =>
      let s := s.setPhase tag .varWrite
      { s with gys.writes := s.gys.writes ++ [tag] }

/-- A VAR_WRITE at its commit point, resolved by identity in the image then active (R172, R191); one that would make too many lines dirty
does not take place (R179). -/
def State.applyVarWrite (s : State) (tag : Nat) : State :=
  let s := { s with gys.writes := s.gys.writes.filter fun t => t != tag }
  match s.flight? tag with
  | none => s
  | some f => match s.varRefused f with
    | some st => s.complete f st
    | none => match s.gvar? f.vident with
      | none => s.complete f .badIndex
      | some v => match s.gvarWrite v f.velem f.vval with
        | .error c => (s.gysFault c).complete f .state
        | .ok t =>
          let t := t.bumpVar f.vident
          t.complete f .ok 0 (toLe 4 f.vident ++ toLe 2 f.velem ++ toLe 1 f.vty ++ [0] ++ toLe 4 (t.varVer f.vident) ++
            gvarField f.vty f.vval) true

/-- The VAR_WRITEs that the LMP handed over before the command of tag `t` apply first (R172). -/
def State.applyWritesBefore (s : State) (t : Nat) : State :=
  let before := (s.host.ops.takeWhile fun x => x.d.tag != t).map fun x => x.d.tag
  (s.gys.writes.filter before.contains).foldl State.applyVarWrite s

/-! ## Forces (R192, R193) -/

/-- A FORCE_SET is refused: no such element, not forceable, or a type or value that does not fit. -/
def State.forceRefused (s : State) (f : Flight) : Option Status :=
  match s.gvar? f.vident with
  | none => some .badIndex
  | some v =>
    if v.count ≤ f.velem then some .badIndex
    else if !v.forceable ∨ v.cls = 3 then some .denied
    else if f.vty ≠ v.ty ∨ !gvalOk f.vty f.vval then some .range
    else none

/-- A force command waits for the next input phase. -/
def State.handForce (s : State) (tag : Nat) : State :=
  let s := s.setPhase tag .forceWrite
  { s with gys.forceOps := s.gys.forceOps ++ [tag] }

/-- FORCE_SET (R193): it takes effect at the next input phase. -/
def execForceSet (tag : Nat) (s : State) : Out :=
  occurs (s.hostReady tag 0x0A) s <| s.hostCmd tag 2 fun s f =>
    match s.forceRefused f with
    | some st => s.complete f st
    | none => s.handForce tag

/-- FORCE_CLEAR names every force. -/
def Flight.allForces (f : Flight) : Bool := (getU f.p 6 1).testBit 0

/-- FORCE_CLEAR (R193): one element's force; it takes effect at the next input phase. -/
def execForceClear (tag : Nat) (s : State) : Out :=
  occurs (s.hostReady tag 0x0B && !(s.flight tag).allForces) s <| s.hostCmd tag 2 fun s _ => s.handForce tag

/-- FORCE_CLEAR_ALL (R193): FORCE_CLEAR with ALL set. -/
def execForceClearAll (tag : Nat) (s : State) : Out :=
  occurs (s.hostReady tag 0x0B && (s.flight tag).allForces) s <| s.hostCmd tag 2 fun s _ => s.handForce tag

/-- A FORCE_SET at its commit point: BUSY beyond 256 forces; it replaces an earlier force on the element (R193). -/
def State.applyForceSet (s : State) (f : Flight) : State :=
  match s.forceRefused f with
  | some st => s.complete f st
  | none =>
    let rest := s.gys.forces.filter fun x => !(x.ident == f.vident && x.elem == f.velem)
    if 256 ≤ rest.length then s.complete f .busy
    else
      let s := { s with gys.forces := rest ++ [({ ident := f.vident, elem := f.velem, ty := f.vty, val := f.vval } : Force)] }
      ((s.bumpVar f.vident).raise 0x0406 2).complete f .ok 0 [] true

/-- A FORCE_CLEAR at its commit point (R193). -/
def State.applyForceClear (s : State) (f : Flight) : State :=
  if f.allForces then
    let ids := (s.gys.forces.map fun x => x.ident).eraseDups
    let s := ids.foldl State.bumpVar { s with gys.forces := [] }
    (s.raise 0x0407 2).complete f .ok 0 [] true
  else if (s.forceOn f.vident f.velem).isNone then s.complete f .notFound
  else
    let s := { s with gys.forces := s.gys.forces.filter fun x => !(x.ident == f.vident && x.elem == f.velem) }
    ((s.bumpVar f.vident).raise 0x0407 2).complete f .ok 0 [] true

/-- The force commands of an input phase, in the order they were taken (R172). -/
def State.applyForces (s : State) : State :=
  s.gys.forceOps.foldl (fun s tag => match s.flight? tag with
    | some f => if f.d.opcode = 0x0A then s.applyForceSet f else s.applyForceClear f
    | none => s) { s with gys.forceOps := [] }

end Sys2Proof.Machine
end

