-- ==== Sys2Proof/Machine/Groups.lean ====
section
/-!
DEFINITION. Commit groups (07_commit_groups.md): opening, staging, the commit point and the application of actions by domain,
durability, abort, and groups across devices.
-/
namespace Sys2Proof.Machine

/-! ## Actions: resources, domains, versions (R146, R148–R150) -/

/-- Domain of a parameter block: 3 G, 2 L, 1 M, 0 for a block whose parameters cannot be staged (Table GRP-5). -/
def blockDomain (idx : Nat) : Nat :=
  if (0x0400 ≤ idx ∧ idx < 0x0500) ∨ (0x1600 ≤ idx ∧ idx < 0x1780) then 3
  else if idx < 0x0200 ∨ (0x1A00 ≤ idx ∧ idx < 0x1B00) then 2
  else if (0x0800 ≤ idx ∧ idx < 0x0A00) ∨ (0x0C00 ≤ idx ∧ idx < 0x1200) then 1 else 0

/-- Domain of an action. -/
def Act.domain (a : Act) : Nat :=
  match a.kind with
  | 1 => blockDomain (getU a.body 0 2)
  | 2 => 3
  | 3 => 3
  | 0x10 => 2
  | _ => 1

/-- A write of a field-channel parameter, which applies at the output phase of the commit point's cycle (Table GRP-5). -/
def Act.fio (a : Act) : Bool := a.kind == 1 && decide (0x1600 ≤ getU a.body 0 2)

/-- Highest domain of a group's own actions; L without any (R150, R153). -/
def Group.top (x : Group) : Nat := if x.own.isEmpty then 2 else (x.own.map Act.domain).foldl max 0

/-- A boundary of a domain can come: Geyser runs and stands between cycles, or the engines run (Table GRP-5). -/
def State.domainReady (s : State) (d : Nat) : Bool :=
  if d = 3 then s.gys.st == 1 && s.gys.phase == .boundary && !s.gys.held && s.engines else s.engines

/-- The Geyser variable mapped to a field channel: of class output, covering its bit of the field-output word (08 R186). -/
def State.mapped (s : State) (ch : Nat) : Option GVar :=
  let bit := 0x6000 * 8 + ch
  s.gvars.find? fun v => v.cls == 2 &&
    (if v.ty = 1 then decide (v.addr * 8 + v.bit ≤ bit ∧ bit < v.addr * 8 + v.bit + v.count)
     else decide (v.addr ≤ bit / 8 ∧ bit / 8 < v.addr + gtypeSize v.ty * v.count))

/-- The variable an action of kind 0x02 or 0x03 writes. -/
def State.actVar (s : State) (a : Act) : Option Nat :=
  if a.kind = 2 then some (getU a.body 0 4)
  else if a.kind = 3 then (s.mapped (getU a.body 0 1)).map fun v => v.ident else none

/-- Two actions write the same resource (R148). -/
def State.sameResource (s : State) (a b : Act) : Bool :=
  (a.params.any fun i => b.params.contains i) || ((s.actVar a).isSome && s.actVar a == s.actVar b) ||
    (a.kind == b.kind && (a.kind == 4 || ((a.kind == 5 || a.kind == 6) && getU a.body 0 1 == getU b.body 0 1) ||
      (a.kind == 0x10 && a.body.take 4 == b.body.take 4) || a.kind == 0x11))

/-- Own actions of committed groups that have not been applied yet: their versions count at once (R152). -/
def State.unapplied (s : State) : List Act :=
  (s.grp.groups.filter fun x => x.state == 4).flatMap fun x => x.own.filter fun a => !a.applied

/-- Versions of an action's resources, one, or one for each parameter. -/
def State.actVers (s : State) (a : Act) : List Nat :=
  let open_ := s.unapplied
  let n := (open_.filter fun b => s.sameResource a b).length
  match a.kind with
  | 1 => a.params.map fun i => s.parVer i + (open_.filter fun b => b.params.contains i).length
  | 7 => a.params.map fun i => s.parVer i + (open_.filter fun b => b.params.contains i).length
  | 2 => [s.varVer ((s.actVar a).getD 0) + n]
  | 3 => [s.varVer ((s.actVar a).getD 0) + n]
  | 4 => [s.hst.ver + n + (s.hst.waiting.filter fun t => t.src == .group).length]
  | 5 => [(s.dn (getU a.body 0 1)).ver + n + ((s.dn (getU a.body 0 1)).cmds.filter fun c => c.src == .group).length]
  | 6 => [(s.dn (getU a.body 0 1)).camVer + n]
  | 0x10 => [s.callVer a.body + n]
  | _ => [s.parN Idx.SHF_ZVER + n]

/-- The parameter values an action writes. -/
def Act.values (a : Act) : List (Nat × Int) :=
  if a.kind = 1 then
    match paramInfo (getU a.body 0 2) with
    | some r => [(r.idx, r.clean (entryValue r.ty a.body 8))]
    | none => []
  else (List.range a.params.length).zip a.params |>.map fun p => (p.2, getS a.body (12 + 4 * p.1) 4)

/-- The profile target of kind 0x04. -/
def Act.target (a : Act) : Tgt := { pos := getS a.body 0 4, landing := getU a.body 4 1, src := .group }

/-! ## Staging (R145–R149) -/

/-- Checks 6 and 7 of R147 for a local action: existence, type and range, with the detail. -/
def State.actForm (s : State) (a : Act) : Option (Status × Nat) :=
  let b := a.body
  match a.kind with
  | 1 => match paramInfo (getU b 0 2) with
    | none => some (.badIndex, getU b 0 2)
    | some r =>
      if b.length ≠ 24 ∨ getU b 2 1 ≠ r.ty.code ∨ !r.inRange (r.clean (entryValue r.ty b 8)) then some (.range, r.idx) else none
  | 2 => match s.gvar? (getU b 0 4) with
    | none => some (.badIndex, 0)
    | some v =>
      if !v.writable then some (.denied, 0)
      else if b.length ≠ 24 ∨ getU b 4 1 ≠ v.ty ∨ !gvalOk v.ty (getU b 8 (gtypeSize v.ty)) then some (.range, 0) else none
  | 3 =>
    if 48 ≤ getU b 0 1 then some (.badIndex, 0)
    else match s.mapped (getU b 0 1) with
      | none => some (.state, 0)
      | some v =>
        if s.fmode (getU b 0 1) ≠ 5 then some (.state, 0)
        else if !v.writable then some (.denied, 0)
        else if b.length ≠ 4 ∨ 1 < getU b 1 1 then some (.range, 0) else none
  | 4 => if b.length ≠ 8 ∨ (getU b 4 1 ≠ 0xFF ∧ 128 ≤ getU b 4 1) then some (.range, 0) else none
  | 5 => if b.length ≠ 4 ∨ 2 ≤ getU b 0 1 ∨ getU b 1 1 = 0 ∨ 7 < getU b 1 1 then some (.range, 0) else none
  | 6 => if b.length ≠ 4 ∨ 2 ≤ getU b 0 1 ∨ (getU b 1 1 ≠ 0xFF ∧ 4 ≤ getU b 1 1) then some (.range, 0) else none
  | 7 =>
    if 16 ≤ getU b 0 1 then some (.badIndex, 0)
    else if 2 ^ 41 ≤ getU b 4 8 ∨ b.length ≠ 12 + 4 * a.params.length then some (.range, 0) else none
  | 0x10 => if b.length ≠ 16 then some (.range, 0) else none
  | 0x11 => if b.length < 8 then some (.range, 0) else none
  | _ => some (.range, 0)

/-- Check 9: the expected version of a parameter write. -/
def State.actExpected (s : State) (a : Act) : Option (Status × Nat) :=
  if a.kind = 1 ∧ (getU a.body 3 1).testBit 0 ∧ getU a.body 4 4 ≠ s.parVer (getU a.body 0 2) then
    some (.conflict, getU a.body 0 2) else none

/-- Privilege of an action (check 5): for a parameter also its access and its block. -/
def actAllowed (priv : Nat) (a : Act) : Bool :=
  match a.kind with
  | 1 => blockDomain (getU a.body 0 2) != 0 && (match paramInfo (getU a.body 0 2) with
    | some r => (match r.acc with | .rw l => decide (l ≤ priv) | _ => false)
    | none => true)
  | 6 => decide (2 ≤ priv)
  | 7 => decide (2 ≤ priv)
  | _ => decide (1 ≤ priv)

/-- Checks 1 to 4 of R147. -/
def State.stageRefused (s : State) (f : Flight) : Option Status :=
  let g := getU f.p 0 1
  let x := s.group g
  let kind := getU f.p 5 1
  if 8 ≤ g ∨ x.state = 0 ∨ x.gen ≠ getU f.p 2 2 then some .notFound
  else if x.owner ≠ .host f.slot then some .denied
  else if x.state ≠ 1 then some .state
  else if !(1 ≤ kind ∧ kind ≤ 7) ∧ kind ≠ 0x10 ∧ kind ≠ 0x11 then some .range
  else if 7 < kind then some .denied
  else if x.parts.length < getU f.p 4 1 then some .range else none

/-- The action a GRP_STAGE carries (Table GRP-3). -/
def Flight.act (f : Flight) : Act :=
  let n := getU f.p 6 2
  { part := getU f.p 4 1, kind := getU f.p 5 1, body := ((f.p.drop 8) ++ List.replicate n 0).take n, vers := [] }

/-- A body with the value of one parameter replaced. -/
def Act.setValue (a : Act) (idx : Nat) (v : Int) : Act :=
  if a.kind = 1 then { a with body := a.body.take 8 ++ toLe 16 (codeOf 128 v) }
  else
    let k := a.params.findIdx fun i => i == idx
    { a with body := a.body.take (12 + 4 * k) ++ toLe 4 (codeOf 32 v) ++ a.body.drop (16 + 4 * k) }

/-- A coefficient set reduced to the parameters for which `keep` holds. -/
def Act.restrict (a : Act) (keep : Nat → Bool) : Act :=
  let vs := a.values.filter fun p => keep p.1
  let mask := vs.foldl (fun m p => m + 2 ^ (p.1 - (0x0C00 + 0x40 * getU a.body 0 1))) 0
  { a with body := a.body.take 4 ++ toLe 8 mask ++ vs.flatMap fun p => toLe 4 (codeOf 32 p.2) }

/-- Two actions meet on a resource as far as the coordinator can tell: a remote participant's variables are its own. -/
def State.meets (s : State) (a b : Act) : Bool :=
  a.part == b.part && (if a.part = 0 then s.sameResource a b
    else (a.params.any fun i => b.params.contains i) ||
      (a.kind == b.kind && a.params.isEmpty && (a.kind == 4 || a.body.take 1 == b.body.take 1) &&
        (a.kind != 2 || a.body.take 4 == b.body.take 4)))

/-- An action joins a group: it replaces values staged before on the same resources, which keep their index and captured version, and
takes a slot for the rest (R148, R149). The index and version of the answer. -/
def State.putAct (s : State) (acts : List Act) (a : Act) : List Act × Nat × Nat :=
  let ver := fun (b : Act) => b.vers.headD 0
  let fresh := fun (b : Act) => if b.part = 0 then { b with vers := s.actVers b } else b
  match acts.findIdx? fun b => s.meets a b with
  | none => let b := fresh a; (acts ++ [b], acts.length, ver b)
  | some i =>
    if a.params.isEmpty then
      let b := acts.getD i a
      (acts.set i { b with kind := a.kind, body := a.body }, i, ver b)
    else
      let merged := acts.map fun b =>
        if s.meets a b then
          (a.values.filter fun p => b.params.contains p.1).foldl (fun b p => b.setValue p.1 p.2)
            (if a.kind = 1 ∧ b.kind = 1 then { b with body := a.body } else b)
        else b
      let left := a.params.filter fun j => !(acts.any fun b => s.meets a b && b.params.contains j)
      if left.isEmpty then (merged, i, ver (acts.getD i a))
      else let b := fresh (a.restrict left.contains); (merged ++ [b], merged.length, ver b)

/-- Checks 5 to 9 of R147 in their order; a remote action passes 6, 7 and 9 at its participant. -/
def State.actRefused (s : State) (f : Flight) (x : Group) (a : Act) : Option (Status × Nat) :=
  let local_ := a.part == 0
  if !actAllowed (s.privOf f.slot) a then some (.denied, if a.kind = 1 then getU a.body 0 2 else 0)
  else if a.kind = 4 ∧ !s.hostSource f.slot then some (.state, 0)
  else match (if local_ then s.actForm a else none) with
    | some r => some r
    | none =>
      let grows := decide (x.acts.length < (s.putAct x.acts a).1.length)
      if grows ∧ 512 ≤ s.actions then some (.busy, 0)
      else if grows ∧ x.maxAct ≤ x.acts.length then some (.range, 0)
      else if local_ then s.actExpected a else none

/-- GRP_STAGE (R145, R147–R149). -/
def State.stage (s : State) (f : Flight) : State :=
  match s.stageRefused f with
  | some st => s.complete f st
  | none =>
    let g := getU f.p 0 1
    let x := s.group g
    match s.actRefused f x f.act with
    | some r => s.complete f r.1 r.2
    | none =>
      let (acts, i, v) := s.putAct x.acts f.act
      (s.modGroup g fun x => { x with acts := acts }).complete f .ok 0 (toLe 2 i ++ [0, 0] ++ toLe 4 v) true

/-- A GRP_STAGE whose kind satisfies `p`. -/
def stageRow (tag : Nat) (p : Nat → Bool) (s : State) : Out :=
  occurs (s.hostReady tag 0x19 && p (getU (s.flight tag).p 5 1)) s <| s.hostCmd tag 0 fun s f => s.stage f

/-- PARAMETER_WRITE (R147): GRP_STAGE of kind 0x01; a GRP_STAGE of a reserved or internal kind is refused here too. -/
def execParameterWrite (tag : Nat) (s : State) : Out := stageRow tag (fun k => k == 1 || k == 0 || decide (7 < k)) s

/-- GEYSER_VARIABLE_WRITE (R147): kind 0x02. -/
def execGeyserVariableWrite (tag : Nat) (s : State) : Out := stageRow tag (fun k => k == 2) s

/-- NON_SAFETY_FIELD_OUTPUT (R147): kind 0x03. -/
def execNonSafetyFieldOutput (tag : Nat) (s : State) : Out := stageRow tag (fun k => k == 3) s

/-- PROFILE_TARGET (R147): kind 0x04. -/
def execProfileTarget (tag : Nat) (s : State) : Out := stageRow tag (fun k => k == 4) s

/-- DOOR_COMMAND (R147): kind 0x05. -/
def execDoorCommand (tag : Nat) (s : State) : Out := stageRow tag (fun k => k == 5) s

/-- CAM_TABLE_SELECTION (R147): kind 0x06. -/
def execCamTableSelection (tag : Nat) (s : State) : Out := stageRow tag (fun k => k == 6) s

/-- CALDERA_COEFFICIENT_SET (R147; 10 R260): kind 0x07. -/
def execCalderaCoefficientSet (tag : Nat) (s : State) : Out := stageRow tag (fun k => k == 7) s

/-! ## Opening (R144) -/

/-- The participants' addresses of a GRP_OPEN. -/
def openParts (p : List Byte) : List Nat := (List.range (getU p 1 1)).map fun k => getU p (4 + 2 * k) 2

/-- A participant address: a ring address or a neighbour code. -/
def partOk (a : Nat) : Bool := decide (a ≤ 1023) || a == 0xFC01 || a == 0xFC02

/-- A neighbour code whose link has no neighbour, or SHF disabled. -/
def State.noNeighbour (s : State) (a : Nat) : Bool := (a == 0xFC01 && !s.sideOn true) || (a == 0xFC02 && !s.sideOn false)

/-- GRP_OPEN (R144). -/
def execGrpOpen (tag : Nat) (s : State) : Out :=
  occurs (s.hostReady tag 0x18) s <| s.hostCmd tag 1 fun s f =>
    let cross := (getU f.p 0 1).testBit 0
    let n := getU f.p 1 1
    if 7 < n ∨ (cross ∧ n = 0) ∨ (!cross ∧ n ≠ 0) ∨ !(openParts f.p).all partOk then s.complete f .range
    else if (openParts f.p).any s.noNeighbour then s.complete f .state
    else if s.parN Idx.GRP_HOSTMAX ≤ s.hostGroups then s.complete f .busy
    else match s.freeGroup with
      | none => s.complete f .busy
      | some g =>
        let s := s.allocGroup g (.host f.slot) cross (openParts f.p)
        s.complete f .ok 0 (toLe 1 g ++ [0] ++ toLe 2 (s.group g).gen) true

/-- GRP_EXPIRED (R143): a host group stays OPEN for GRP.OPENTMO. -/
def execGrpExpired (g : Nat) (s : State) : Out :=
  let x := s.group g
  occurs (decide (g < 8) && s.opCounts && x.state == 1 && (match x.owner with | .host _ => true | _ => false) &&
      decide (x.openedAt + x.openTmo * 1000 ≤ s.pwr.opTime)) s
    (s.expireGroup g)

/-! ## The end of a group -/

/-- The GRP_COMMIT that waits for a group. -/
def State.groupFlight (s : State) (g : Nat) : Option Flight := s.host.ops.find? fun f => f.phase == .groupWait g

/-- The 16-byte result (Table GRP-6). -/
def commitResult (idx dev : Nat) (st : Status) (at_ : Nat) : List Byte :=
  toLe 2 idx ++ toLe 2 dev ++ toLe 1 st.code ++ [0, 0, 0] ++ toLe 8 at_

/-- The counters of group outcomes (Table GRP-11). -/
def State.countGroup (s : State) (st : Status) : State :=
  match st with
  | .ok => s.bump Idx.GRP_COMMITS
  | .conflict => s.bump Idx.GRP_CONFLICTS
  | .timeout => s.bump Idx.GRP_XTIMEOUTS
  | _ => s

/-- ABORT goes to every participant, and is to be repeated twice (R158 step 6). -/
def State.sendAborts (s : State) (g : Nat) : State :=
  let x := s.group g
  let s := x.parts.foldl (fun s p => s.sendGroup (s.groupMsg g 5 p)) s
  s.modGroup g fun x => { x with lastSent := s.rng.time, abortsLeft := 2 }

/-- A group of this device's own opener is settled: released, its GRP_COMMIT completed with the result of Table GRP-6, and Beacon or SHF
told (R143, R151, R153). `aborts`: its participants are told. -/
def State.endGroup (s : State) (g : Nat) (st : Status) (detail idx dev : Nat) (committed aborts : Bool) : State :=
  let x := s.group g
  let s := if aborts then
      (s.sendAborts g).modGroup g fun x =>
        { gen := x.gen, cross := true, parts := x.parts, t0 := x.t0, xrepeat := x.xrepeat, lastSent := x.lastSent, abortsLeft := x.abortsLeft }
    else s.freeUp g
  let s := if st = .timeout ∧ !x.cross then s else s.countGroup st
  let s := match s.groupFlight g with
    | some f => s.complete f st detail (commitResult idx dev st x.commitAt) committed
    | none => s
  match x.owner with
  | .beacon => s.beaconEnded g (st == .ok)
  | .shf => s.zoneEnded g (st == .ok)
  | _ => s

/-! ## Messages (R156–R158) -/

/-- A participant can be reached: an own address and a linked port, or a neighbour link that is good and not restricted
(16 R422). -/
def State.route (s : State) (a : Nat) : Bool :=
  if a = 0xFC01 then s.sideOn true && (s.side true).good && !s.sideRestricted true
  else if a = 0xFC02 then s.sideOn false && (s.side false).good && !s.sideRestricted false
  else s.addr.isSome && s.rng.enabled && !s.rng.dup && ((s.portOn 0 && s.rng.a.link) || (s.portOn 1 && s.rng.b.link))

/-- The group messages for ring addresses leave Q31 as frames of the group class; a PREPARE to a device without a route ends its group
UNREACHABLE with no message sent (R156, R158 step 1). -/
def State.flushGroups (s : State) : State :=
  if s.lmp.restarting then s
  else
    let lost := ((s.grp.out.filter fun m => m.type == 1 && !s.route m.peer).map fun m => (m.group, m.peer)).eraseDups
    let s := lost.foldl (fun s p =>
      if (s.group p.1).state = 2 then
        let s := { s with grp.out := s.grp.out.filter fun m => !(m.group == p.1 && m.type == 1) }
        s.endGroup p.1 .unreachable 0 0xFFFF p.2 false false
      else s) s
    let ring := s.grp.out.filter fun m => decide (m.peer ≤ 1023)
    let s := { s with grp.out := s.grp.out.filter fun m => !decide (m.peer ≤ 1023) }
    ring.foldl (fun s m => s.ringSend 2 0 m.peer (m.bytes (s.parN Idx.RNG_ADDR))) s

/-- The first inbound message of a type. -/
def State.nextMsg (s : State) (type : Nat) : Option GMsg := s.grp.inq.find? fun m => m.type == type

/-- A message leaves Q30. -/
def State.dropMsg (s : State) (m : GMsg) : State := { s with grp.inq := s.grp.inq.erase m }

/-- Group messages are answered: the LMP runs (01 Table LMP-9). -/
def State.messagesServed (s : State) : Bool := s.engines && !s.lmp.restarting

/-! ## Commit (R150–R154) -/

/-- What an owner answers to an action at the commit point; `t` is the state with every parameter value of the group in place (R151; 01 R19). -/
def State.ownerRefuses (s t : State) (coord : Option Nat) (a : Act) : Option (Status × Nat) :=
  match a.kind with
  | 4 => (s.targetRefusal a.target).map fun st => (st, 0)
  | 5 => (s.doorRefusal (getU a.body 0 1) (getU a.body 1 1) (getU a.body 2 1)).map fun st => (st, 0)
  | 0x10 => (s.callRefusal coord a.body).map fun st => (st, 0)
  | 0x11 => (s.zoneRefusal a.body).map fun st => (st, 0)
  | 6 => none
  | 2 => s.actForm a
  | 3 => s.actForm a
  | _ =>
    match a.values.find? fun p => !t.crossRange p.1 p.2 || !s.ownerAllows p.1 p.2 with
    | some p => some (if !t.crossRange p.1 p.2 then .range else .state, p.1)
    | none => none

/-- The state with the parameter values of these actions in place. -/
def State.trial (s : State) (acts : List Act) : State :=
  (acts.flatMap Act.values).foldl (fun s p => s.setPar p.1 p.2) s

/-- The first action that fails at the commit point: its place among `acts`, status and detail. -/
def State.failing (s : State) (coord : Option Nat) (acts : List Act) : Option (Nat × Status × Nat) :=
  let t := s.trial acts
  ((List.range acts.length).zip acts).findSome? fun p =>
    if s.actVers p.2 ≠ p.2.vers then some (p.1, .conflict, 0)
    else (s.ownerRefuses t coord p.2).map fun r => (p.1, r.1, r.2)

/-- A group action on the Geyser data space takes effect; one that would make too many lines dirty does not (08 R179). -/
def State.applyVarAct (s : State) (a : Act) : State :=
  let r := if a.kind = 2 then (match s.gvar? (getU a.body 0 4) with
      | some v => s.gvarWrite v 0 (getU a.body 8 (gtypeSize v.ty))
      | none => .ok s)
    else
      let ch := getU a.body 0 1
      let at_ := 0x6000 + ch / 8
      s.gysWrite at_ [BitVec.ofNat 8 (setBit (s.gysByte at_).toNat (ch % 8) (getU a.body 1 1 == 1))]
  match r with
  | .error c => s.gysFault c
  | .ok t => match s.actVar a with | some i => t.bumpVar i | none => t

/-- An action takes effect at its owner (R150). -/
def State.applyAct (s : State) (slot : Nat) (a : Act) : State :=
  match a.kind with
  | 2 => let s := s.applyVarAct a; { s with gys.marks := s.gys.marks ++ [(s.gys.cycle + 1, a)] }
  | 3 => let s := s.applyVarAct a; { s with gys.marks := s.gys.marks ++ [(s.gys.cycle + 1, a)] }
  | 4 =>
    let s := if s.saf.btPhase ≠ 0 then s.btAbandon else s
    { s with hst.waiting := a.target :: s.hst.waiting }
  | 5 => s.queueDoor (getU a.body 0 1) ⟨getU a.body 1 1, getU a.body 2 1, .group⟩
  | 6 => s.applyPar (Idx.DRn_CAMSEL (getU a.body 0 1)) (getU a.body 1 1) slot
  | 0x10 => s.callApply a.body
  | 0x11 => s.zoneApply a.body
  | _ => a.values.foldl (fun s p => s.applyPar p.1 p.2 slot) s

/-- The slot of a group's opener, 8 for none. -/
def Group.slot (x : Group) : Nat := match x.owner with | .host h => h | _ => 8

/-- The action belongs to this device in the group. -/
def Group.isOwn (x : Group) (a : Act) : Bool := match x.owner with | .remote _ => true | _ => a.part == 0

/-- The own actions of group `g` for which `p` holds and that are not applied yet take effect, in their order. -/
def State.applyActs (s : State) (g : Nat) (p : Act → Bool) : State :=
  let x := s.group g
  let s := (x.own.filter fun a => !a.applied && p a).foldl (fun s a => s.applyAct x.slot a) s
  s.modGroup g fun x => { x with acts := x.acts.map fun a => if x.isOwn a && p a then { a with applied := true } else a }

/-- Every own action has been applied. -/
def Group.allApplied (x : Group) : Bool := x.own.all fun a => a.applied

/-- The highest domain with an own action still to apply. -/
def Group.dueDomain (x : Group) : Nat := ((x.own.filter fun a => !a.applied && !a.fio).map Act.domain).foldl max 0

/-- Past its commit point, and for a coordinator of a cross-device group with every ACK in: its own actions may apply (R150, R158). -/
def Group.mayApply (x : Group) : Bool :=
  x.state == 4 && (!x.cross || (match x.owner with | .remote _ => true | _ => decide (x.parts.length ≤ x.acks.length)))

/-- The commit point of group `g`: every check has passed (R151, R154). -/
def State.commitGroup (s : State) (g : Nat) : State :=
  (s.modGroup g fun x => { x with state := 4, commitAt := s.rng.time }).raise 0x0301 0 g

/-- GRP_REFUSED with the failing action (R151). -/
def State.groupRefused (s : State) (g idx : Nat) : State := s.raise 0x0302 2 g [(2, idx)]

/-- An earlier committed group still waits for the same boundary (R152). -/
def State.earlierCommit (s : State) (g : Nat) : Bool :=
  let x := s.group g
  s.grp.groups.any fun y => y.state == 2 && !y.cross && y.top == x.top && decide (y.order < x.order)

/-- COMMIT_POINT (R150–R153): the first boundary of the highest domain of a local group's actions. VAR_WRITEs that were handed over earlier
apply before a group of domain G (08 R172). -/
def execCommitPoint (g : Nat) (s : State) : Out :=
  let x := s.group g
  occurs (decide (g < 8) && x.state == 2 && !x.cross && s.domainReady x.top && !s.earlierCommit g) s <|
    let s := if x.top = 3 then (match s.groupFlight g with | some f => s.applyWritesBefore f.d.tag | none => s) else s
    match s.failing none x.own with
    | some (i, st, detail) => (s.groupRefused g i).endGroup g st detail i 0xFFFF false false
    | none => (s.commitGroup g).applyActs g fun a => a.domain == x.top && !a.fio

/-- GROUP_ACTION_APPLIED (R150): the actions of the next lower domain apply at that domain's boundary; a coordinator's own actions apply
after the last ACK. -/
def execGroupActionApplied (g : Nat) (s : State) : Out :=
  let x := s.group g
  occurs (decide (g < 8) && x.mayApply && x.dueDomain != 0 && s.domainReady x.dueDomain) s
    (s.applyActs g fun a => a.domain == x.dueDomain && !a.fio)

/-- The field-channel parameters of committed groups apply at the output phase (Table GRP-5). -/
def State.applyGroupFio (s : State) : State :=
  (List.range 8).foldl (fun s g => if (s.group g).mayApply then s.applyActs g Act.fio else s) s

/-- The MRAM-class parameters of a group become durable and count as configuration (R154; 06 R138). -/
def State.groupDurable (s : State) (acts : List Act) : State :=
  let idxs := (acts.flatMap Act.params) ++ (acts.filter fun a => a.kind == 6).map fun a => Idx.DRn_CAMSEL (getU a.body 0 1)
  idxs.foldl (fun s i => if pvPersist i = .mram then (s.parDurable i).countConfig i else s) s

/-- GROUP_RECORD_DURABLE (R143, R153, R154): every own action has been applied and is durable; GRP_COMMIT completes, the group is
released. A participant remembers that it applied (R159). -/
def execGroupRecordDurable (g : Nat) (s : State) : Out :=
  let x := s.group g
  occurs (decide (g < 8) && x.mayApply && x.allApplied && s.opCounts && !s.lmp.restarting) s <|
    let s := s.groupDurable x.own
    match x.owner with
    | .remote _ => s.modGroup g fun x => { x with state := 0, appliedAll := true }
    | _ => s.endGroup g .ok 0 0xFFFF 0xFFFF true false

/-! ## GRP_COMMIT and GRP_ABORT (R153, R155) -/

/-- The answer to a command that names a group no longer or not yet allocated, none when it is allocated (R143, Table GRP-7). -/
def State.groupGone (s : State) (g gen : Nat) : Option Status :=
  let x := s.group g
  if 8 ≤ g then some .notFound
  else if x.state ≠ 0 ∧ x.gen = gen then none
  else if 1 ≤ gen ∧ gen ≤ x.gen then some .alreadyComplete else some .notFound

/-- The records for one participant exceed its carrier's limit (R157; 16 R410). -/
def Group.tooLong (x : Group) : Bool :=
  ((List.range x.parts.length).zip x.parts).any fun p =>
    let n := 32 + ((actsFor (p.1 + 1) x.acts).map fun a => 8 + a.body.length).foldl (· + ·) 0
    decide ((if p.2 ≤ 1023 then 516 else 352) < n)

/-- GRP_COMMIT (R153, R157, R158): a local group goes to the executor; for a cross-device group PREPARE goes out. -/
def execGrpCommit (tag : Nat) (s : State) : Out :=
  occurs (s.hostReady tag 0x1A) s <| s.hostCmd tag 1 fun s f =>
    let g := getU f.p 0 1
    let x := s.group g
    match s.groupGone g (getU f.p 2 2) with
    | some st => s.complete f st
    | none =>
      if x.owner ≠ .host f.slot then s.complete f .denied
      else if x.state ≠ 1 then s.complete f .state
      else if !x.cross then
        let s := s.modGroup g fun x => { x with state := 2, order := s.grp.nextOrder }
        ({ s with grp.nextOrder := s.grp.nextOrder + 1 } : State).setPhase tag (.groupWait g)
      else
        let s := s.setPhase tag (.groupWait g)
        if x.tooLong then s.endGroup g .range 0 0xFFFF 0xFFFF false false
        else match x.parts.find? fun p => !s.route p with
          | some p => s.endGroup g .unreachable 0 0xFFFF p false false
          | none => (s.sendPrepare g).flushGroups

/-- A group not past its commit point is released; a coordinator tells its participants (R155). -/
def State.abortGroup (s : State) (g : Nat) (st : Status) : State :=
  let x := s.group g
  if x.state = 1 then s.freeUp g
  else (s.endGroup g st 0 0xFFFF 0xFFFF false x.cross).flushGroups

/-- GRP_ABORT (R155, Table GRP-7). -/
def execGrpAbort (tag : Nat) (s : State) : Out :=
  occurs (s.hostReady tag 0x1B) s <| s.hostCmd tag 1 fun s f =>
    let g := getU f.p 0 1
    let x := s.group g
    match s.groupGone g (getU f.p 2 2) with
    | some st => s.complete f st
    | none =>
      if x.owner ≠ .host f.slot ∧ s.privOf f.slot < 2 then s.complete f .denied
      else if x.state = 3 then s.complete f .denied
      else if x.state = 4 then s.complete f .tooLate
      else (s.abortGroup g .aborted).complete f .ok 0 [] true

/-! ## Participants (R156–R159) -/

/-- A participant's group of this coordinator, number and generation. -/
def Group.isFor (x : Group) (m : GMsg) : Bool :=
  x.owner == .remote m.coord && x.coordG == m.group && x.coordGen == m.gen && x.parts == [m.peer]

/-- Where a participant's group of a message stands. -/
def State.partGroup (s : State) (m : GMsg) : Option Nat := (List.range 8).find? fun g => (s.group g).isFor m

/-- A message of a participant to its coordinator. -/
def State.reply (s : State) (m : GMsg) (type : Nat) (st : Status) (idx : Nat) : State :=
  s.sendGroup { peer := m.peer, type := type, group := m.group, gen := m.gen, coord := m.coord, t0 := m.t0, status := st.code,
                index := idx }

/-- The message a participant's group stands for. -/
def Group.asMsg (x : Group) : GMsg :=
  { peer := x.parts.headD 0, type := 1, group := x.coordG, gen := x.coordGen,
    coord := match x.owner with | .remote c => c | _ => 0, t0 := x.t0 }

/-- PREPARE (R142, R156, R158): the participant allocates a group and enters PREPARED; with no group or action slot it votes BUSY. -/
def execXdevPrepare (s : State) : Out :=
  let m := (s.nextMsg 1).getD { peer := 0, type := 0, group := 0, gen := 0, coord := 0, t0 := 0 }
  occurs (s.messagesServed && (s.nextMsg 1).isSome) s <|
    let s := s.dropMsg m
    if (s.partGroup m).isSome then s
    else match s.freeGroup with
      | none => (s.reply m 2 .busy 0xFFFF).flushGroups
      | some g =>
        if 512 < s.actions + m.acts.length then (s.reply m 2 .busy 0xFFFF).flushGroups
        else
          let s := s.allocGroup g (.remote m.coord) true [m.peer]
          s.modGroup g fun x => { x with state := 3, acts := m.acts, coordG := m.group, coordGen := m.gen, t0 := m.t0,
                                         holdEnd := s.rng.time + x.xhold * 1000 }

/-- A remote action is refused: kind not enabled, OPERATE privilege, or checks 6 to 9 (R147, R156). -/
def State.remoteRefused (s : State) (a : Act) : Option Status :=
  if 1 ≤ a.kind ∧ a.kind ≤ 7 then
    if !s.parBit Idx.GRP_XKINDS (a.kind - 1) ∨ !actAllowed 1 a then some .denied
    else match s.actForm a with
      | some r => some r.1
      | none => (s.actExpected a).map fun r => r.1
  else if a.kind = 0x10 ∨ a.kind = 0x11 then (s.actForm a).map fun r => r.1
  else some .denied

/-- The first action a participant refuses. -/
def State.partFailing (s : State) (coord : Nat) (acts : List Act) : Option (Nat × Status) :=
  match ((List.range acts.length).zip acts).findSome? fun p => (s.remoteRefused p.2).map fun st => (p.1, st) with
  | some r => some r
  | none =>
    if s.parN Idx.GRP_MAXACT < acts.length then some (s.parN Idx.GRP_MAXACT, .range)
    else (s.failing (some coord) acts).map fun r => (r.1, r.2.1)

/-- PREPARED_BOUNDARY (R158 step 2): at the first boundary of its highest domain the participant captures versions, checks, holds the
resources and votes. -/
def execPreparedBoundary (g : Nat) (s : State) : Out :=
  let x := s.group g
  occurs (decide (g < 8) && s.messagesServed && x.state == 3 && x.votes.isEmpty && s.domainReady x.top) s <|
    let s := s.modGroup g fun x => { x with acts := x.acts.map fun a => { a with vers := s.actVers a } }
    let r := s.partFailing x.asMsg.coord (s.group g).acts
    let st := match r with | some p => p.2 | none => .ok
    let idx := match r with | some p => p.1 | none => 0xFFFF
    let s := s.modGroup g fun x => { x with held := r.isNone, votes := [(0, st.code, idx)] }
    (s.reply x.asMsg 2 st idx).flushGroups

/-- COMMIT (R158 step 4): the participant applies at its boundary and sends ACK; a repeated COMMIT gets a further ACK. -/
def execXdevCommit (s : State) : Out :=
  let m := (s.nextMsg 3).getD { peer := 0, type := 0, group := 0, gen := 0, coord := 0, t0 := 0 }
  let g := (s.partGroup m).getD 0
  let x := s.group g
  let first := (s.partGroup m).isSome && x.state == 3 && x.held
  occurs (s.messagesServed && (s.nextMsg 3).isSome && (!first || s.domainReady x.top)) s <|
    let s := s.dropMsg m
    if first then
      let s := (s.commitGroup g).applyActs g fun a => a.domain == x.top && !a.fio
      (s.reply m 4 .ok 0xFFFF).flushGroups
    else if (s.partGroup m).isSome ∧ (x.state = 4 ∨ x.appliedAll) then (s.reply m 4 .ok 0xFFFF).flushGroups
    else s

/-- The repair after a divergence (Table GRP-9). -/
def State.repair (s : State) (acts : List Act) : State :=
  acts.foldl (fun s a =>
    if a.kind = 0x10 then s.callDiverged a.body
    else if a.kind = 0x11 then s.zoneDiverged (getU a.body 1 1 == 1) else s) s

/-- ABORT_MESSAGE (R158, R159): the participant releases the group, or keeps what it has applied and hands repair to the owner. -/
def execAbortMessage (s : State) : Out :=
  let m := (s.nextMsg 5).getD { peer := 0, type := 0, group := 0, gen := 0, coord := 0, t0 := 0 }
  occurs (s.messagesServed && (s.nextMsg 5).isSome) s <|
    let s := s.dropMsg m
    match s.partGroup m with
    | none => s
    | some g =>
      let x := s.group g
      if x.state = 3 then s.freeUp g
      else if x.state = 4 ∨ x.appliedAll then
        let s := if x.state = 4 then s.modGroup g fun x => { x with owner := .remote 0xFFFF }
                 else s.freeUp g
        ((s.raise 0x0307 4 g).bump Idx.GRP_DIVERGED).repair x.acts
      else s

/-- GRP_DECISION_LOST (R158, R159): the hold expires without a decision. -/
def execGrpDecisionLost (g : Nat) (s : State) : Out :=
  let x := s.group g
  occurs (decide (g < 8) && s.messagesServed && x.state == 3 && decide (x.holdEnd ≤ s.rng.time)) s
    ((s.freeUp g).raise 0x0306 3 g)

/-! ## The coordinator (R158, R159) -/

/-- The coordinator's group of a message. -/
def State.coordGroup (s : State) (m : GMsg) (state : Nat) : Bool :=
  let x := s.group m.group
  decide (m.group < 8) && x.state == state && x.cross && x.gen == m.gen && x.parts.contains m.peer &&
    (match x.owner with | .remote _ => false | _ => true)

/-- VOTE (R158 step 3): counted while T0 + XHOLD − 20 ms has not passed. -/
def execXdevVote (s : State) : Out :=
  let m := (s.nextMsg 2).getD { peer := 0, type := 0, group := 0, gen := 0, coord := 0, t0 := 0 }
  occurs (s.messagesServed && (s.nextMsg 2).isSome) s <|
    let s := s.dropMsg m
    let x := s.group m.group
    if s.coordGroup m 2 ∧ s.rng.time ≤ x.t0 + (x.xhold - 20) * 1000 ∧ !(x.votes.any fun v => v.1 == m.peer) then
      s.modGroup m.group fun x => { x with votes := x.votes ++ [(m.peer, m.status, m.index)] }
    else s

/-- A status by its code. -/
def statusOf (c : Nat) : Status :=
  ([.ok, .accepted, .busy, .aborted, .tooLate, .alreadyComplete, .conflict, .timeout, .denied, .badIndex, .range, .state, .integrity,
    .notFound, .authRequired, .badSignature, .pendingConfirm, .stale, .invalidDate, .noAck, .unreachable] : List Status).getD c .state

/-- The place in the whole group of participant k's i-th record. -/
def Group.placeOf (x : Group) (k i : Nat) : Nat :=
  (((List.range x.acts.length).zip x.acts).filter fun p => p.2.part == k)[i]?.map (fun p => p.1) |>.getD 0xFFFF

/-- COMMIT goes to these participants. -/
def State.sendCommits (s : State) (g : Nat) (parts : List Nat) : State :=
  let s := parts.foldl (fun s p => s.sendGroup (s.groupMsg g 3 p)) s
  s.modGroup g fun x => { x with lastSent := s.rng.time }

/-- The coordinator's decision: own checks once every vote is OK, else ABORT with the first refusal or TIMEOUT for a missing vote. -/
def State.decideGroup (s : State) (g : Nat) : State :=
  let x := s.group g
  match x.votes.find? fun v => v.2.1 != 0 with
  | some v =>
    let k := x.parts.findIdx (fun p => p == v.1) + 1
    let i := if v.2.2 = 0xFFFF then 0xFFFF else x.placeOf k v.2.2
    (s.groupRefused g i).endGroup g (statusOf v.2.1) 0 i v.1 false true
  | none => match x.parts.find? fun p => !(x.votes.any fun v => v.1 == p) with
    | some p => s.endGroup g .timeout 0 0xFFFF p false true
    | none => match s.failing none x.own with
      | some (i, st, detail) =>
        let j := x.placeOf 0 i
        (s.groupRefused g j).endGroup g st detail j 0xFFFF false true
      | none => (s.commitGroup g).sendCommits g x.parts

/-- VOTE_DEADLINE (R158 step 3): at T0 + XHOLD − 20 ms, or at its boundary once every vote or a refusal is in, the coordinator decides. -/
def execVoteDeadline (g : Nat) (s : State) : Out :=
  let x := s.group g
  let host := match x.owner with | .remote _ => false | _ => true
  occurs (decide (g < 8) && s.messagesServed && x.state == 2 && x.cross && host && s.domainReady x.top &&
      (decide (x.t0 + (x.xhold - 20) * 1000 ≤ s.rng.time) || decide (x.parts.length ≤ x.votes.length) ||
        x.votes.any fun v => v.2.1 != 0)) s
    (s.decideGroup g).flushGroups

/-- ACK (R158 step 5): with the last one the coordinator's own actions apply, those of its highest domain here at a boundary of it. -/
def execXdevAck (s : State) : Out :=
  let m := (s.nextMsg 4).getD { peer := 0, type := 0, group := 0, gen := 0, coord := 0, t0 := 0 }
  occurs (s.messagesServed && (s.nextMsg 4).isSome) s <|
    let s := s.dropMsg m
    if s.coordGroup m 4 ∧ !((s.group m.group).acks.contains m.peer) then
      let s := s.modGroup m.group fun x => { x with acks := x.acks ++ [m.peer] }
      let x := s.group m.group
      if x.mayApply ∧ s.domainReady x.top then s.applyActs m.group fun a => a.domain == x.top && !a.fio else s
    else s

/-- The coordinator repeats COMMIT to group `g`: ACKs are missing, before T0 + XHOLD − 10 ms. -/
def State.commitRepeats (s : State) (g : Nat) : Bool :=
  let x := s.group g
  x.state == 4 && x.cross && (match x.owner with | .remote _ => false | _ => true) &&
    decide (x.acks.length < x.parts.length) && decide (s.rng.time < x.t0 + (x.xhold - 10) * 1000)

/-- COMMIT_REPEAT (R158 steps 5, 6): COMMIT or ABORT again after GRP.XREPEAT. -/
def execCommitRepeat (g : Nat) (s : State) : Out :=
  let x := s.group g
  let abort := x.state == 0 && decide (0 < x.abortsLeft)
  occurs (decide (g < 8) && s.messagesServed && (abort || s.commitRepeats g) &&
      decide (x.lastSent + x.xrepeat * 1000 ≤ s.rng.time)) s <|
    if abort then
      let s := x.parts.foldl (fun s p => s.sendGroup (s.groupMsg g 5 p)) s
      (s.modGroup g fun x => { x with lastSent := s.rng.time, abortsLeft := x.abortsLeft - 1 }).flushGroups
    else (s.sendCommits g (x.parts.filter fun p => !x.acks.contains p)).flushGroups

/-- GRP_XDEV_UNCONFIRMED (R159): T0 + XHOLD passes with an ACK missing: none of the own actions applies, ABORT goes out, and GRP_COMMIT
completes TIMEOUT with COMMITTED set and the silent participant named. A zone is repaired on this car too (Table GRP-9). -/
def execGrpXdevUnconfirmed (g : Nat) (s : State) : Out :=
  let x := s.group g
  let host := match x.owner with | .remote _ => false | _ => true
  occurs (decide (g < 8) && s.messagesServed && x.state == 4 && x.cross && host && decide (x.acks.length < x.parts.length) &&
      decide (x.t0 + x.xhold * 1000 ≤ s.rng.time)) s <|
    let silent := (x.parts.find? fun p => !x.acks.contains p).getD 0xFFFF
    let s := (s.raise 0x0305 4 g).endGroup g .timeout 0 0xFFFF silent true true
    (s.repair (x.own.filter fun a => a.kind == 0x11)).flushGroups

end Sys2Proof.Machine
end

