-- ==== Sys2Proof/Machine/GeyserCycle.lean ====
section
/-!
DEFINITION. The cycle of the Geyser engine (08_geyser_engine.md R171–R191, R195, R198): input phase, output phase, close, journals, the
cycle deadline, restarts and the online change.
-/
namespace Sys2Proof.Machine

/-! ## Hardware writes to the data space -/

/-- Writes of the input phase in their order; the first that would make too many lines dirty does not take place and ends them (R179). -/
def State.gysWrites (s : State) : List (Nat × List Byte) → State
  | [] => s
  | w :: ws => match s.gysWrite w.1 w.2 with
    | .error c => s.gysFault c
    | .ok t => t.gysWrites ws

/-- Age in ms of a station's complete image. -/
def State.imageAge (s : State) (b n : Nat) : Nat := match s.objOf b n 1 with
  | some j => s.pwr.opTime - (s.cobj b j).fullAt
  | none => 0

/-- A complete new image is there: it ended after the station's return (R184; 14 R365). -/
def State.imageNew (s : State) (b n : Nat) : Bool := match s.objOf b n 1 with
  | some j => (s.cobj b j).full.isSome && (s.cobj b j).fresh
  | none => false

/-- Quality of a station at the input phase (R183, R184): 0 GOOD, 1 STALE, 2 LOST, 3 NONE. -/
def State.quality (s : State) (b n : Nat) : Nat :=
  let x := s.cstn b n
  if !s.stnPresent b n then 3
  else if x.lost ∨ (x.back ∧ !s.imageNew b n) then 2
  else if s.stnPeriod b n < s.imageAge b n then 1 else 0

/-- Status of a station's object of a role, 0 without one. -/
def State.objStatus (s : State) (b n role : Nat) : Nat := match s.objOf b n role with
  | some j => (s.cobj b j).status
  | none => 0

/-- `bs` filled with zeros to `n` bytes. -/
def padTo (n : Nat) (bs : List Byte) : List Byte := (bs ++ List.replicate n 0).take n

/-- The input window of a present station (14 Table CAN-6). Where no image has been completed, bytes 0–63 and the age stay. -/
def State.windowWrites (s : State) (b n : Nat) : List (Nat × List Byte) :=
  let base := 0x1100 + 128 * (64 * b + n)
  let x := s.cstn b n
  let img := match s.objOf b n 1 with
    | some j => match (s.cobj b j).full with
      | some bytes => [(base, padTo 64 bytes), (base + 84, toLe 2 (min (s.imageAge b n) 0xFFFF))]
      | none => []
    | none => []
  img ++ [(base + 64, padTo 8 x.emerg ++ padTo 8 x.hb ++ toLe 4 x.imgs),
    (base + 86, toLe 1 (s.objStatus b n 2) ++ toLe 1 (s.objStatus b n 3) ++ toLe 1 x.emergs)]

/-- What the input phase writes for one station: its quality, and its window when it is present. -/
def State.stationWrites (s : State) (b n : Nat) : List (Nat × List Byte) :=
  (0x1040 + 64 * b + n, toLe 1 (s.quality b n)) :: (if s.stnPresent b n then s.windowWrites b n else [])

/-- The copy of one station ends: a return is over once a new image has been copied (14 R365), and the fill buffer moves up. -/
def State.stationCopied (s : State) (b n : Nat) : State :=
  let s := if s.stnPresent b n ∧ !(s.cstn b n).lost ∧ (s.cstn b n).back ∧ s.imageNew b n then
      (s.modStn b n fun x => { x with back := false }).raise (canEvent b 9) 2 n else s
  match s.objOf b n 1 with
  | some j => s.endCopy b n j
  | none => s

/-- The stations of both buses. -/
def allStations : List (Nat × Nat) := [0, 1].flatMap fun b => (List.range 64).map fun n => (b, n)

/-- An acknowledgement record (R198). -/
def State.ackBytes (s : State) (r : Nat) : List Byte :=
  let a := s.gys.acks.getD r {}
  toLe 2 a.seq ++ toLe 1 a.status ++ [0]

/-- Hall calls of a direction allocated to this car, as a bit map of landings: 0 up, 1 down (Table GYS-10). A destination call counts in
the direction it travels in; one whose origin has been served is no hall call any more. -/
def State.allocMap (s : State) (dir : Nat) : Nat :=
  (s.dsp.calls.filter fun c => s.holds c && c.ph == .settled && !c.onward &&
      (c.kind == dir || (c.kind == 2 && (if c.landing < c.dest then 0 else 1) == dir))).foldl
    (fun m c => setBit m c.landing true) 0

/-- FLAGS of the cycle that begins (Table GYS-10). -/
def State.gysFlags (s : State) : Nat :=
  b2n s.gys.resumed + 2 * b2n s.gys.woke + 4 * b2n s.gys.changed + 8 * b2n s.gys.restarted + 16 * b2n s.gys.recoveredNow +
    32 * b2n s.pwr.tempHigh + 64 * b2n (!s.gys.forces.isEmpty) + 128 * b2n s.lmp.restarting + 256 * b2n (s.dspStatus == 1)

/-- The system variables (Table GYS-10). Those served by the LMP hold their values while it restarts (R182). -/
def State.systemWrites (s : State) (dt last : Nat) : List (Nat × List Byte) :=
  let own : List (Nat × List Byte) :=
    [(0x00, toLe 8 s.gys.cycle), (0x08, toLe 4 (min dt 0xFFFFFFFF)), (0x0C, toLe 4 (min last 0xFFFFFFFF)),
      (0x10, toLe 8 (s.pwr.opTime % 2 ^ 48)), (0x18, toLe 8 s.rng.time), (0x20, toLe 4 s.gysFlags),
      (0x24, toLe 1 s.pwr.state.code), (0x25, toLe 1 s.hst.st.code),
      (0x26, toLe 1 ((s.landings.find? s.inFlag).getD 0xFF)), (0x27, toLe 1 (s.safStatus % 16)),
      (0x28, le 4 s.carPos), (0x2C, le 4 s.hst.vf), (0x30, le 4 s.loadKg),
      (0x34, toLe 1 s.dr0.st.code ++ toLe 1 s.dr1.st.code),
      (0x38, s.ackBytes 0), (0x3C, s.ackBytes 1 ++ s.ackBytes 2), (0x64, s.ackBytes 11)]
  if s.lmp.restarting then own
  else own ++ [(0x36, toLe 1 s.dspStat), (0x44, (List.range 8).flatMap fun k => s.ackBytes (3 + k)),
    (0x80, toLe 16 (s.allocMap 0)), (0x90, toLe 16 (s.allocMap 1))]

/-! ## Restarts and initial data -/

/-- A data space with everything a cold restart clears removed: application region, output regions, request records (Table GYS-9). -/
def coldClears (a : Nat) : Bool :=
  (decide (0xB000 ≤ a) && decide (a < 0x40000)) || (decide (0x6000 ≤ a) && decide (a < 0x6008)) ||
    (decide (0x6100 ≤ a) && decide (a < 0xA100)) || (decide (0x800 ≤ a) && decide (a < 0x854))

/-- The image's initial data (R185). -/
def State.initialData (s : State) : List Byte :=
  match s.gys.bank with
  | some b => memReadN (tableByte (bankTid b)) (s.tbl (bankTid b)).body (64 + s.image 8 4 + 16 * s.image 16 4) (s.image 20 4)
  | none => []

/-- The initial data is loaded: the application region holds it, 0 beyond it; output regions and request records are 0 (R178, R189). It is
retained at once and counts no dirty line. -/
def State.loadInitial (s : State) : State :=
  let m := memWriteN zeroByte (s.gys.mem.filter fun c => !coldClears c.1) 0xB000 s.initialData
  { s with gys.mem := m, gys.retained := m }

/-- A warm or cold restart takes effect at the input phase (R178, Table GYS-9). -/
def State.takeRestart (s : State) : State :=
  if s.gys.ctrl = 1 ∨ s.gys.ctrl = 2 then
    let s := if s.gys.ctrl = 2 then s.loadInitial else s
    let s := s.raise 0x0402 1 0xFF [(1, s.gys.ctrl), (1, b2n s.gys.ctrlAuto)]
    { s with gys.st := 1, gys.ctrl := 0, gys.ctrlAuto := false, gys.restarted := true }
  else s

/-! ## The input phase -/

/-- Committed group actions of a lost cycle apply again at the first input phase after the resume (07 R154); they are marked anew. -/
def State.applyAgain (s : State) : State :=
  let acts := s.gys.again
  let s := acts.foldl (fun s a => s.applyVarAct a) s
  { s with gys.again := [], gys.marks := (s.gys.marks.filter fun m => !acts.contains m.2) ++ acts.map fun a => (s.gys.cycle, a) }

/-- Steps 1 and 2 of the input phase: group actions, VAR_WRITEs, forces (R172). -/
def State.commitPoint (s : State) : State :=
  let s := s.applyAgain
  let s := s.gys.writes.foldl State.applyVarWrite s
  s.applyForces

/-- Steps 3 and 4: inputs, stations, system variables (R172, R173). -/
def State.copyInputs (s : State) (dt last : Nat) : State :=
  let ws := [(0x1000, toLe 8 s.fio.image), (0x1008, toLe 8 s.fio.diag)] ++
    (allStations.flatMap fun p => s.stationWrites p.1 p.2) ++ s.systemWrites dt last
  allStations.foldl (fun s p => s.stationCopied p.1 p.2) (s.gysWrites ws)

/-- The execute phase begins at the entry point with cleared registers (R162). -/
def State.beginExecute (s : State) : State :=
  { s with gys.ba := false, gys.wa := 0, gys.ix := 0, gys.bstack := [], gys.rstack := [], gys.pc := s.image 12 4, gys.phase := .execute }

/-- The time of the last cycle is known: GYS.CYCLAST and GYS.CYCPEAK, but for the interval that a resume or a wake lies in. -/
def State.noteCycle (s : State) (dt : Nat) : State :=
  if s.gys.resumed ∨ s.gys.woke then s
  else (s.setOwn Idx.GYS_CYCLAST (min dt 65535)).peak Idx.GYS_CYCPEAK (min dt 65535)

/-- The input phase can begin: the cycle before is closed, cycling is not suspended, and Geyser runs or is to restart (R171, R178). -/
def State.inputReady (s : State) (dt : Nat) : Bool :=
  s.engines && s.gys.phase == .boundary && !s.gys.held && s.gys.bank.isSome && (s.gys.st == 1 || s.gys.ctrl == 1 || s.gys.ctrl == 2) &&
    (s.gys.resumed || decide (s.parN Idx.GYS_CYCMIN ≤ dt))

/-- GYS_INPUT_PHASE (R172, R162, R181, R182): `dtUs` µs since the previous input phase began. -/
def execGysInputPhase (dtUs : Nat) (s : State) : Out :=
  occurs (s.inputReady dtUs) s <|
    let dt := if s.gys.resumed then 0 else dtUs
    let last := if s.gys.resumed ∨ s.gys.woke then s.gysStored 0x0C 4 else dtUs
    let s := (s.noteCycle dtUs).takeRestart
    let s := { s with gys.cycle := (s.gys.cycle + 1) % 2 ^ 64, gys.recoveredNow := s.pwr.supplyRecovered, pwr.supplyRecovered := false }
    let s := s.commitPoint
    let s := if s.gys.st = 1 then s.copyInputs dt last else s
    let s := if s.gys.st = 1 then s.beginExecute else s
    { s with gys.resumed := false, gys.woke := false, gys.changed := false, gys.restarted := false }

/-! ## The output phase (R174) -/

/-- Address and length of request record `r` (Table GYS-10): MOVE_REQ, DOOR_REQ, CALLREG, STATE_REQ. -/
def reqPlace (r : Nat) : Nat × Nat :=
  if r = 0 then (0x800, 8) else if r ≤ 2 then (0x808 + 4 * (r - 1), 4) else if r ≤ 10 then (0x810 + 8 * (r - 3), 8) else (0x850, 4)

/-- The request records whose sequence number differs from the one taken last go to their owners (R174). -/
def State.handRequests (s : State) : State :=
  (List.range 12).foldl (fun s r =>
    let bytes := s.gysBytes (reqPlace r).1 (reqPlace r).2
    if getU bytes 0 2 = (s.gys.acks.getD r {}).seq then s else { s with gys.reqs := s.gys.reqs.set r (some bytes) }) s

/-- The output phase: field outputs, parameters of field channels, station windows, requests (R174; 07 Table GRP-5; 02 R34). -/
def State.outputPhase (s : State) : State :=
  let s := if s.gys.recoveredNow then { s with fio.held := false, gys.recoveredNow := false } else s
  let s := { s with fio.gysOff := false, gys.outputsOff := false }
  let s := s.applyGroupFio
  let s := s.fioApply (leNat (s.gysBytes 0x6000 6))
  let s := ((s.canOutput 0).canOutput 1).handRequests
  { s with gys.phase := .closing }

/-- END: SYS 0 ends the execute phase, and the output phase follows (R169, R174). -/
def execSysEnd (mode operand : Nat) (s : State) : Out :=
  occurs (s.gysAt 0x2F mode operand && mode == 0 && operand == 0) s (s.gysRun fun s => .ok s.outputPhase)

/-! ## The close and the journals (R175, R176, R180) -/

/-- The journal of the cycle two before is durable (R175). -/
def State.closeFree (s : State) : Bool := s.gys.journals.all fun j => j.durable || decide (s.gys.cycle < j.cycle + 2)

/-- Geyser stops after its close (Table GYS-9). -/
def State.stopAtClose (s : State) : State :=
  if s.gys.ctrl = 3 then
    let s := { s with gys.ctrl := 0 }
    if s.gys.st = 1 then (({ s with gys.st := 2 } : State).gysOwnersStop).raise 0x040B 2 else s
  else s

/-- GYS_CLOSE (R175, R178): the dirty lines become the cycle's journal; `us` is how long the close has waited. A faulted cycle closes as it
stands (R176). -/
def execGysClose (us : Nat) (s : State) : Out :=
  occurs (s.engines && (s.gys.phase == .closing || s.gys.phase == .faulted) && s.closeFree) s <|
    let n := s.gys.dirty.length
    let s := (s.peak Idx.GYS_LINESPEAK n).peak Idx.GYS_JLAGPEAK (min us 65535)
    let j : Journal := { cycle := s.gys.cycle, lines := n, image := s.gys.mem }
    let s := { s with gys.journals := s.gys.journals ++ [j], gys.dirty := [], gys.phase := .boundary }
    s.stopAtClose

/-- The oldest journal without a trailer gets one. -/
def makeDurable : List Journal → List Journal
  | [] => []
  | j :: js => if j.durable then j :: makeDurable js else { j with durable := true } :: js

/-- JOURNAL_DURABLE (R180): the trailer of the oldest journal still being written. Commit marks up to its cycle are settled (07 R154). -/
def execJournalDurable (s : State) : Out :=
  occurs (s.opCounts && s.gys.journals.any fun j => !j.durable) s <|
    let c := ((s.gys.journals.find? fun j => !j.durable).map fun j => j.cycle).getD 0
    { s with gys.journals := makeDurable s.gys.journals, gys.durCycle := c, gys.marks := s.gys.marks.filter fun m => decide (c < m.1) }

/-- JOURNAL_APPLIED (R180): the oldest journal, durable, has been applied to the retained image. -/
def execJournalApplied (s : State) : Out :=
  occurs (s.opCounts && (match s.gys.journals with | j :: _ => j.durable | [] => false)) s <|
    match s.gys.journals with
    | j :: js => { s with gys.retained := j.image, gys.journals := js }
    | [] => s

/-- An automatic warm restart follows a deadline fault, within its limit per 24 h of operating time (R178). -/
def State.autoRestart (s : State) : State :=
  let recent := s.gys.autoTimes.filter fun t => decide (s.pwr.opTime < t + 86400000)
  if recent.length < s.parN Idx.GYS_AUTORST then
    { s with gys.ctrl := 1, gys.ctrlAuto := true, gys.autoTimes := s.pwr.opTime :: recent }
  else { s with gys.autoTimes := recent }

/-- CYCLE_DEADLINE (R176, R178): `us` µs since the input phase began, and the close has not completed. -/
def execCycleDeadline (us : Nat) (s : State) : Out :=
  occurs (s.engines && s.gys.st == 1 && (s.gys.phase == .execute || s.gys.phase == .closing) && decide (s.parN Idx.GYS_CYCMAX ≤ us)) s
    (s.gysFault 1).autoRestart

/-! ## GYS.CTRL (R178, Table GYS-9) -/

/-- A PARAM_WRITE of GYS.CTRL is ready. -/
def State.writesCtrl (s : State) (tag : Nat) : Bool := s.writesIdx tag Idx.GYS_CTRL

/-- A GYS.CTRL command: STATE outside the states it is accepted in, else it waits for its boundary. -/
def State.gysCommand (s : State) (f : Flight) (ok : Bool) (ctrl : Nat) : State :=
  s.commandWrite f (if ok then none else some .state) fun s => { s with gys.ctrl := ctrl, gys.ctrlAuto := false }

/-- WARM_RESTART: GYS.CTRL 1, in APPFAULT or STOPPED. A value outside 1–3 is refused here with RANGE. -/
def execWarmRestart (tag : Nat) (s : State) : Out :=
  occurs (s.writesCtrl tag && !((s.flight tag).wval == 2) && !((s.flight tag).wval == 3)) s <|
    s.hostCmd tag 0 fun s f => s.gysCommand f (s.gys.st == 2 || s.gys.st == 3) 1

/-- COLD_RESTART: GYS.CTRL 2, with a program and the car parked. -/
def execColdRestart (tag : Nat) (s : State) : Out :=
  occurs (s.writesCtrl tag && (s.flight tag).wval == 2) s <|
    s.hostCmd tag 0 fun s f => s.gysCommand f (s.gys.bank.isSome && s.carParked) 2

/-- GYS_STOP: GYS.CTRL 3, RUNNING with the car parked. -/
def execGysStop (tag : Nat) (s : State) : Out :=
  occurs (s.writesCtrl tag && (s.flight tag).wval == 3) s <|
    s.hostCmd tag 0 fun s f => s.gysCommand f (s.gys.st == 1 && s.carParked) 3

/-! ## The online change (R189–R191, R195) -/

/-- A variable whose bytes the program keeps: internal or output. -/
def GVar.kept (v : GVar) : Bool := v.cls == 0 || v.cls == 2

/-- The lines of these variables are set to 0 in a data space. -/
def clearLines (m : Mem) (vs : List GVar) : Mem :=
  let ls := vs.flatMap GVar.lines
  m.filter fun c => !ls.contains (c.1 / 64)

/-- Initial value of element `e` of a variable: from the initial data in the application region, 0 elsewhere (R185, R190). -/
def initialOf (rd : Nat → Nat → Nat) (v : GVar) (e : Nat) : Nat :=
  let at_ := 64 + rd 8 4 + 16 * rd 16 4
  let byte := fun (a : Nat) => if 0xB000 ≤ a ∧ a < 0xB000 + rd 20 4 then rd (at_ + (a - 0xB000)) 1 else 0
  let b := v.bitAddr e
  if v.ty = 1 then b2n ((byte (b / 8)).testBit (b % 8))
  else leNat ((List.range (gtypeSize v.ty)).map fun k => BitVec.ofNat 8 (byte (b / 8 + k)))

/-- One element stored in a data space. -/
def putElem (m : Mem) (v : GVar) (e x : Nat) : Mem :=
  let b := v.bitAddr e
  if v.ty = 1 then memWrite zeroByte m (b / 8) (BitVec.ofNat 8 (setBit (memRead zeroByte m (b / 8)).toNat (b % 8) (x % 2 == 1)))
  else memWriteN zeroByte m (b / 8) (toLe (gtypeSize v.ty) x)

/-- The value a variable of the new table starts with in element `e`: its own where identity and type persist, else the initial value. -/
def State.migrated (s : State) (rd : Nat → Nat → Nat) (v : GVar) (e : Nat) : Nat :=
  match s.gvar? v.ident with
  | some o => if o.ty = v.ty ∧ e < o.count then s.gvarStored o e else initialOf rd v e
  | none => initialOf rd v e

/-- The data space migrated to the image read by `rd` (R190 step 2). -/
def State.migrate (s : State) (rd : Nat → Nat → Nat) : Mem :=
  let vars := gvarsOf rd
  let removed := s.gvars.filter fun o => o.kept && !(vars.any fun v => v.ident == o.ident)
  (vars.filter GVar.kept).foldl (fun m v => (List.range v.count).foldl (fun m e => putElem m v e (s.migrated rd v e)) m)
    (clearLines s.gys.mem removed)

/-- Identities of the variables that the change moves, retypes or removes: their host-write versions rise (R191). -/
def State.disturbed (s : State) (vars : List GVar) : List Nat :=
  (s.gvars.filter fun o => match vars.find? fun v => v.ident == o.ident with
    | some v => migrates [o] v
    | none => true).map fun o => o.ident

/-- Every force is resolved against the new variable table (R195). -/
def State.resolveForces (s : State) (vars : List GVar) : State :=
  s.gys.forces.foldl (fun s f =>
    let drop := fun (s : State) => { s with gys.forces := s.gys.forces.filter fun x => x != f }
    match vars.find? fun v => v.ident == f.ident with
    | none => (drop s).raise 0x0408 2
    | some v => if v.count ≤ f.elem then (drop s).raise 0x0408 2 else if v.ty ≠ f.ty then (drop s).raise 0x0409 3 else s) s

/-- The new bank becomes active: the next version, origin 1, durable with the trailer that carries the switch (R190 step 4; 06 R134). -/
def State.switchBank (s : State) (tid : Nat) : State :=
  let ver := (s.versionOf tid + 1) % 2 ^ 32
  let s := s.modTbl tid fun t =>
    { t with ver := ver, opTime := s.pwr.opTime, cyc := s.pwr.pwrCyc, origin := 1, claim := none, durable := t.body, durVer := ver,
             durOrigin := 1 }
  let s := { s with gys.bank := some (tid - 0x0600), sec.measDirty := true }
  (s.raise 0x1313 1).raise 0x0404 1

/-- The change at its boundary (R189, R190): migration, or the initial data on the first activation. -/
def State.onlineChange (s : State) (tid : Nat) : State :=
  let rd := fun (off n : Nat) => s.tblN tid off n
  let vars := gvarsOf rd
  if s.gys.bank.isNone then
    { (s.switchBank tid).loadInitial with gys.st := 1, gys.changed := true }
  else
    let m := s.migrate rd
    let s := (s.disturbed vars).foldl State.bumpVar s
    let s := s.resolveForces vars
    let s := { s with gys.mem := m, gys.retained := m, gys.journals := [], gys.durCycle := s.gys.cycle, gys.marks := [], gys.changed := true }
    s.switchBank tid

/-- ONLINE_CHANGE (R189–R191): at a close, or at once when Geyser does not run; `pauseUs` is the pause. It is the commit point and, with the
trailer, the durability of TABLE_ACTIVATE. -/
def execOnlineChange (tag pauseUs : Nat) (s : State) : Out :=
  let f := s.flight tag
  let tid := f.switches.getD 0
  occurs ((s.flight? tag).isSome && f.switches.isSome && isBank tid && s.gys.phase == .boundary && s.opCounts &&
      decide (pauseUs ≤ 6000)) s <|
    if s.versionMoved f tid then s.complete f .conflict
    else (((s.onlineChange tid).setOwn Idx.GYS_OCPAUSE pauseUs).countChange).complete f .ok 0 [] true

end Sys2Proof.Machine
end

