-- ==== Sys2Proof/Machine/SafParam.lean ====
section
/-!
DEFINITION. Safety parameterisation (12_safety_functions.md R324–R328): the session, the pending sets of both channels, confirmation and
the common switch.
-/
namespace Sys2Proof.Machine

/-- A value in a pending set: the active value where no entry was written since the opening (R325). -/
def pendVal (s : State) (l : List (Nat × Int)) (i : Nat) : Int := ((l.find? fun p => p.1 == i).map fun p => p.2).getD (s.par i)

/-- CRC-32 of a pending set (R326). -/
def State.pendCrc (s : State) (l : List (Nat × Int)) : Nat := crc32 (setImage (pendVal s l))

/-- An entry written into a pending set. -/
def putPend (l : List (Nat × Int)) (p : Nat × Int) : List (Nat × Int) := (l.filter fun q => q.1 != p.1) ++ [p]

/-- A LOCKOUT whose only cause is 11 takes parameterisation from the maintenance UART under a session (R324). -/
def State.setLockout (s : State) (h : Nat) : Bool :=
  s.pwr.state == .lockout && s.par Idx.SAF_LOCKCAUSE == 11 && h == 2 && (s.slot 2).session.isSome

/-- The slot holds the parameterisation session. -/
def State.holdsSaf (s : State) (h : Nat) : Bool := match s.saf.session with | some x => x.slot == h | none => false

/-- The session of a slot can be opened or goes on (R324). -/
def State.sessionOk (s : State) (h : Nat) : Bool :=
  (s.sessionAllowed || s.setLockout h) && (s.saf.session.isNone || s.holdsSaf h) && s.saf.confirm.isNone

/-- A slot's first SAF_WRITE opens the session (R324). -/
def State.openSaf (s : State) (h : Nat) : State :=
  if s.holdsSaf h then { s with saf.session := some ⟨h, s.pwr.opTime⟩ }
  else ({ s with saf.session := some ⟨h, s.pwr.opTime⟩, saf.pendA := [], saf.pendB := [] } : State).raise 0x0917 2

/-- Offset of entry `k` of a SAF_WRITE, its index and its value (Table SAF-10). -/
def safAt (k : Nat) : Nat := 8 + 24 * k
def Flight.safIdx (f : Flight) (k : Nat) : Nat := getU f.p (safAt k) 2
def Flight.safVal (f : Flight) (k : Nat) : Int :=
  match paramInfo (f.safIdx k) with
  | some r => r.clean (entryValue r.ty f.p (safAt k + 8))
  | none => 0

/-- The check of one entry, index, access, type and range (R325). -/
def Flight.safRefused (f : Flight) (k : Nat) : Option Status :=
  match paramInfo (f.safIdx k) with
  | none => some .badIndex
  | some r =>
    if r.acc ≠ .sw then some .denied
    else if getU f.p (safAt k + 2) 1 ≠ r.ty.code ∨ !r.inRange (f.safVal k) then some .range else none

/-- Entry `k` of the result (Table SAF-11). -/
def State.safEntry (s : State) (f : Flight) (k : Nat) : List Byte :=
  let i := f.safIdx k
  toLe 2 i ++ toLe 1 (getU f.p (safAt k + 2) 1) ++ [0] ++ toLe 4 (codeOf 32 (pendVal s s.saf.pendA i)) ++
    toLe 4 (codeOf 32 (pendVal s s.saf.pendB i))

/-- SAF_WRITE (R324, R325): all entries enter both pending sets, or none. -/
def State.safWrite (s : State) (f : Flight) : State :=
  let n := getU f.p 1 1
  if 16 < n then s.complete f .range
  else if !s.sessionOk f.slot then s.complete f .state
  else
    let s := s.openSaf f.slot
    match (List.range n).findSome? fun k => (f.safRefused k).map fun st => (st, f.safIdx k) with
    | some (st, i) => s.complete f st i
    | none =>
      let ps := (List.range n).map fun k => (f.safIdx k, f.safVal k)
      let s := { s with saf.pendA := ps.foldl putPend s.saf.pendA, saf.pendB := ps.foldl putPend s.saf.pendB }
      s.complete f .pendingConfirm 0
        (toLe 4 (s.pendCrc s.saf.pendA) ++ toLe 4 (s.pendCrc s.saf.pendB) ++ toLe 1 n ++ [0, 0, 0] ++
          (List.range n).flatMap fun k => s.safEntry f k)

/-- DISCARD of a SAF_WRITE (Table SAF-10). -/
def Flight.safDiscard (f : Flight) : Bool := (getU f.p 0 1).testBit 0

/-- SAF_WRITE (R325). -/
def execSafWrite (tag : Nat) (s : State) : Out :=
  occurs (s.hostReady tag 0x30 && !(s.flight tag).safDiscard) s <| s.hostCmd tag 3 fun s f => s.safWrite f

/-- SAF_WRITE_DISCARD (R324): the session ends and the pending set is discarded; STATE from a slot that holds no session, or while a
confirmed set waits for its cycle. -/
def execSafWriteDiscard (tag : Nat) (s : State) : Out :=
  occurs (s.hostReady tag 0x30 && (s.flight tag).safDiscard) s <| s.hostCmd tag 3 fun s f =>
    if !s.holdsSaf f.slot ∨ s.saf.confirm.isSome then s.complete f .state else (s.endSafSession).complete f .ok

/-! ## Confirmation (R327, Table SAF-13) -/

/-- Some input carries function `fn` in the set `v`. -/
def hasFunction (v : Nat → Int) (fn : Nat) : Bool := (List.range 14).any fun n => v (Idx.SAF_SIFUNn n) == fn

/-- A side that some landing below SAF.NLAND may open: floor-table flag 1 FRONT or 2 REAR. -/
def State.sideOpens (s : State) (v : Nat → Int) (flag : Nat) : Bool :=
  (List.range (v Idx.SAF_NLAND).toNat).any fun k => s.floorFlag k flag

/-- The first index at which a set is not consistent (Table SAF-13). -/
def State.setConflict (s : State) (v : Nat → Int) : Option Nat :=
  let use := (v Idx.SAF_SOUSE).toNat
  let need := fun (c : Bool) (fn : Nat) => c && !hasFunction v fn
  if use ≠ 0 ∧ v Idx.SAF_INCPER = 0 then some Idx.SAF_INCPER
  else if use ≠ 0 ∧ v Idx.SAF_INSPHI ≤ v Idx.SAF_INSPLO then some Idx.SAF_INSPLO
  else match (if use = 0 then none else (List.range ((v Idx.SAF_NLAND).toNat - 1)).find? fun k =>
      decide (v (Idx.SAF_LEVk (k + 1)) ≤ v (Idx.SAF_LEVk k))) with
    | some k => some (Idx.SAF_LEVk (k + 1))
    | none =>
      if need true 1 ∨ need (s.sideOpens v 1) 2 ∨ need (s.sideOpens v 1) 4 ∨ need (s.sideOpens v 2) 3 ∨ need (s.sideOpens v 2) 5 ∨
          need (use.testBit 0) 6 ∨ need (use.testBit 1) 7 ∨ need (use.testBit 2) 8 then some (Idx.SAF_SIFUNn 0)
      else if v Idx.SAF_SHMODE ≠ 0 ∧ 6000000 < v Idx.SAF_VRATED then some Idx.SAF_VRATED else none

/-- SAF_CONFIRM (R327): the four checks; then both inactive copies are durable, and the common cycle is awaited. -/
def execSafConfirm (tag : Nat) (s : State) : Out :=
  occurs (s.hostReady tag 0x31) s <| s.hostCmd tag 3 fun s f =>
    if !s.holdsSaf f.slot ∨ s.saf.confirm.isSome then s.complete f .state
    else if getU f.p 0 4 ≠ s.pendCrc s.saf.pendA ∨ getU f.p 0 4 ≠ s.pendCrc s.saf.pendB then s.complete f .conflict
    else match s.setConflict (pendVal s s.saf.pendA) with
      | some i => s.complete f .range i
      | none =>
        if !(s.sessionAllowed || s.setLockout f.slot) then s.complete f .state
        else
          let s := { s with saf.inactiveA := some s.saf.pendA, saf.inactiveB := some s.saf.pendB, saf.confirm := some tag }
          s.setPhase tag .safWait

/-- The new set becomes active: every written parameter takes its value, durable with the switch (R327). -/
def State.adoptSet (s : State) : State :=
  let old := s.setCrc
  let s := (s.saf.inactiveA.getD []).foldl (fun s p => (s.setPar p.1 p.2).parDurable p.1) s
  let s := ((s.bump Idx.SAF_SETCOUNT).countChange).raise 0x0918 3 0xFF [(4, old), (4, s.setCrc)]
  { s.endSafSession with saf.inactiveA := none, saf.inactiveB := none, saf.confirm := none }

/-- SAFETY_SET_SWITCH (R327): the agreed safety cycle, the commit point of SAF_CONFIRM. -/
def execSafetySetSwitch (s : State) : Out :=
  occurs (s.saf.confirm.isSome && (s.saf.running || s.pwr.state == .lockout)) s <|
    let tag := s.saf.confirm.getD 0
    let s := s.adoptSet
    match s.flight? tag with
    | some f => s.complete f .ok 0 [] true
    | none => s

/-- SAF_SESSION_TIMEOUT (R324): 600 s without a SAF_WRITE. -/
def execSafSessionTimeout (s : State) : Out :=
  occurs (s.saf.confirm.isNone && (match s.saf.session with
    | some x => decide (x.last + 600000 ≤ s.pwr.opTime)
    | none => false)) s s.endSafSession

end Sys2Proof.Machine
end

