-- ==== Sys2Proof/Machine/Sec.lean ====
section
/-!
DEFINITION. Authentication, attestation, keys and tokens (19_identity_attestation_update.md R462–R473, R483): challenges and sessions of
slots and ring hosts, the report, SEC.ACTION.
-/
namespace Sys2Proof.Machine

/-! ## Byte strings -/

/-- The ASCII bytes of a string. -/
def ascii (t : String) : List Byte := t.toList.map fun c => BitVec.ofNat 8 c.toNat

/-- The device certificate and the device-CA certificate, 210 bytes each (R463). -/
def devCert : List Byte := padTo 210 Config.deviceCert
def caCert : List Byte := padTo 210 Config.deviceCaCert

/-! ## Certificates (Table SEC-2) -/

/-- The fields of a certificate. -/
def certMagic (c : List Byte) (type : Nat) : Bool := c.take 4 == ascii "TRGC" && getU c 4 1 == type
def certCap (c : List Byte) : Nat := getU c 5 1
def certMask (c : List Byte) : Nat := getU c 6 1
def certEpoch (c : List Byte) : Nat := getU c 8 4
def certIssuer (c : List Byte) : Nat := getU c 12 4
def certKey (c : List Byte) : Nat := getU c 32 57

/-- The certificate's signature verifies under a key (R463). -/
def certSigned (key : Nat) (c : List Byte) : Bool := Config.ed448Verify key (padTo 96 c) (getU c 96 114)

/-! ## Challenges (R468, R469) -/

/-- The transcript digest H of a challenge. -/
def Challenge.digest (c : Challenge) : Nat :=
  Config.shake256 (padTo 96 c.payload ++ toLe 32 c.nonce ++ toLe 56 c.ephPublic ++ devCert) 64

/-- A new challenge over the host's payload; nonce and ephemeral key are the device's own random values (log 7). -/
def State.newChallenge (s : State) (p : List Byte) : Challenge :=
  let secret := Config.freeValue (s.sec.free + 1) % 2 ^ 448
  { payload := padTo 96 p, nonce := Config.freeValue s.sec.free % 2 ^ 256, ephSecret := secret, ephPublic := Config.x448Public secret,
    at_ := s.pwr.opTime }

/-- The AUTH_CHALLENGE completion payload (Table SEC-4). -/
def Challenge.answer (c : Challenge) : List Byte :=
  toLe 32 c.nonce ++ toLe 56 c.ephPublic ++ devCert ++ toLe 114 (Config.ed448Sign (ascii "TRGA-DEV" ++ toLe 64 c.digest))

/-- Two random values have been used. -/
def State.usedFree (s : State) : State := { s with sec.free := s.sec.free + 2 }

/-- The requested privilege of a challenge. -/
def Challenge.wanted (c : Challenge) : Nat := getU c.payload 88 1

/-- Why an AUTH_CHALLENGE is refused: `busy` while the source is locked out or has no place (R469, R471, R483). -/
def State.challengeRefused (s : State) (p : List Byte) (busy : Bool) : Option Status :=
  if s.sec.dbg = 2 then some .denied
  else if busy then some .busy
  else if 3 < getU p 88 1 then some .range else none

/-- A challenge is still pending (R469). -/
def State.pendingChal (s : State) (c : Option Challenge) : Option Challenge :=
  match c with | some x => if s.pwr.opTime < x.at_ + 2000 then some x else none | none => none

/-- AUTH_CHALLENGE (R468, R469): a later challenge of the slot replaces a pending one. -/
def execAuthChallenge (tag : Nat) (s : State) : Out :=
  occurs (s.hostReady tag 0x40) s <| s.hostCmd tag 0 fun s f =>
    match s.challengeRefused f.p (s.slot f.slot).authBusy.isSome with
    | some st => s.complete f st
    | none =>
      let c := s.newChallenge f.p
      ((s.usedFree).modSlot f.slot fun x => { x with challenge := some c }).complete f .ok 0 c.answer

/-! ## Responses (R469) -/

/-- The checks 2 to 6 of an AUTH_RESPONSE for slot `h`, none when the host is ring-borne and no slot is free. -/
def State.responseRefused (s : State) (c : Challenge) (p : List Byte) (h : Option Nat) : Option Status :=
  if !certMagic p 4 then some .badSignature
  else if s.sec.owner.isNone ∨ certIssuer p ≠ kidOf 57 s.sec.owner ∨ !certSigned (s.sec.owner.getD 0) p then some .badSignature
  else if certEpoch p < s.parN Idx.SEC_MINEPOCH then some .denied
  else if (match h with | some k => !(certMask p).testBit k | none => false) then some .denied
  else if !Config.ed448Verify (certKey p) (ascii "TRGA-HOST" ++ toLe 64 c.digest) (getU p 210 114) then some .badSignature
  else none

/-- The session that a challenge and a host certificate open (R468, R469). -/
def State.newSession (s : State) (c : Challenge) (p : List Byte) : Session :=
  let z := Config.x448 c.ephSecret (getU c.payload 32 56)
  let k := Config.kmac256 z (toLe 64 c.digest) 512 "TRG-9640 SESSION"
  { priv := min c.wanted (certCap p), epoch := certEpoch p, kc := k % 2 ^ 256, kr := k / 2 ^ 256 % 2 ^ 256, opened := s.pwr.opTime }

/-- The session opens on slot `h`; the slot's previous one closes first (R469). -/
def State.openSession (s : State) (h : Nat) (ss : Session) (host : Option Nat) : State :=
  let s := if (s.slot h).session.isSome then s.closeSlot h false else s
  let s := s.modSlot h fun x =>
    { x with session := some ss, sessionLost := false, authFails := 0, authBusy := none, ringHost := host, lastDesc := s.pwr.opTime }
  s.raise 0x0205 1 h

/-- The AUTH_RESPONSE completion payload (Table SEC-4). -/
def State.responseBytes (s : State) (h : Nat) (ss : Session) : List Byte :=
  toLe 1 h ++ toLe 1 ss.priv ++ [0, 0] ++ toLe 4 ss.epoch ++ toLe 4 (kidOf 57 s.sec.owner)

/-- A failed authentication is recorded (R469). -/
def State.authFailed (s : State) (inst : Nat) : State := (s.raise 0x0204 3 inst).bump Idx.SEC_AUTHFAIL

/-- Five consecutive failures lock a slot out for 10 s. -/
def State.slotFailed (s : State) (h : Nat) : State :=
  (s.authFailed h).modSlot h fun x =>
    if 5 ≤ x.authFails + 1 then { x with authFails := 0, authBusy := some (s.pwr.opTime + 10000) }
    else { x with authFails := x.authFails + 1 }

/-- AUTH_RESPONSE (R469): every check consumes the challenge. -/
def execAuthResponse (tag : Nat) (s : State) : Out :=
  occurs (s.hostReady tag 0x41) s <| s.hostCmd tag 0 fun s f =>
    let h := f.slot
    let c := s.pendingChal (s.slot h).challenge
    let s := s.modSlot h fun x => { x with challenge := none }
    match c with
    | none => (s.slotFailed h).complete f .notFound
    | some c => match s.responseRefused c f.p (some h) with
      | some st => (s.slotFailed h).complete f st
      | none =>
        let ss := s.newSession c f.p
        let s := s.openSession h ss (s.slot h).ringHost
        s.complete f .ok 0 (s.responseBytes h ss) true

/-! ## Ring hosts (R471; 15 R389, Table RNG-10) -/

/-- Failures of a ring source. -/
def State.ringFail (s : State) (a : Nat) : RingFail := (s.sec.ringFails.find? fun x => x.addr == a).getD ⟨a, 0, none⟩

/-- The record of a ring source changed. -/
def State.setRingFail (s : State) (r : RingFail) : State :=
  { s with sec.ringFails := (s.sec.ringFails.filter fun x => x.addr != r.addr) ++ [r] }

/-- A ring source fails. -/
def State.sourceFailed (s : State) (a : Nat) : State :=
  let r := s.ringFail a
  (s.authFailed 0xFF).setRingFail
    (if 5 ≤ r.fails + 1 then ⟨a, 0, some (s.pwr.opTime + 10000)⟩ else { r with fails := r.fails + 1 })

/-- The slot a ring host would take: the one it holds, else the lowest free of H3–H7 (05 R92). -/
def State.ringSlot (s : State) (a : Nat) : Option Nat :=
  match [3, 4, 5, 6, 7].find? fun h => (s.slot h).ringHost == some a with
  | some h => some h
  | none => [3, 4, 5, 6, 7].find? fun h => (s.slot h).ringHost.isNone

/-- The pending challenge of a source, and the list without it. -/
def State.ringChal (s : State) (a : Nat) : Option Challenge :=
  s.pendingChal ((s.sec.ringChals.find? fun x => x.addr == a).map fun x => x.chal)
def State.dropChal (s : State) (a : Nat) : State := { s with sec.ringChals := s.sec.ringChals.filter fun x => x.addr != a }

/-- The completion of a ring AUTH: tag and generation 0. -/
def authReply (d : Desc) (st : Status) (payload : List Byte) : Desc := completionOf { d with tag := 0, gen := 0 } st 0 payload false false

/-- What a ring AUTH does, and its completion. -/
def State.ringAuth (s : State) (a : Nat) (d : Desc) : State × Desc :=
  if d.opcode = 0x40 then
    let full := !(s.sec.ringChals.any fun x => x.addr == a) && decide (4 ≤ s.sec.ringChals.length)
    match s.challengeRefused d.payload ((s.ringFail a).busy.isSome || full) with
    | some st => (s, authReply d st [])
    | none =>
      let c := s.newChallenge d.payload
      let s := (s.usedFree).dropChal a
      ({ s with sec.ringChals := s.sec.ringChals ++ [⟨a, c⟩] }, authReply d .ok c.answer)
  else if d.opcode = 0x41 then
    let c := s.ringChal a
    let s := s.dropChal a
    match c with
    | none => (s.sourceFailed a, authReply d .notFound [])
    | some c => match s.responseRefused c d.payload (s.ringSlot a) with
      | some st => (s.sourceFailed a, authReply d st [])
      | none => match s.ringSlot a with
        | none => (s.sourceFailed a, authReply d .busy [])
        | some h =>
          let ss := s.newSession c d.payload
          let s := (s.openSession h ss (some a)).setRingFail ⟨a, 0, none⟩
          (s, s.signFor h (authReply d .ok (s.responseBytes h ss)))
  else (s, authReply d .range [])

/-- AUTH (R471; 15 R389): a ring AUTH of source `src` with transport sequence `tseq`; a repeated one gets the same AUTH_REPLY and is not
taken again. -/
def execRingAuth (src tseq : Nat) (bytes : List Byte) (s : State) : Out :=
  occurs (s.lmpServes && s.rng.enabled && decide (src < 1024 ∧ bytes.length ≤ 512)) s <|
    if s.sec.ringAns.any fun x => x.addr == src && x.seq == tseq then s
    else
      let r := s.ringAuth src (readDesc bytes)
      { r.1 with sec.ringAns := (r.1.sec.ringAns.filter fun x => x.addr != src) ++ [⟨src, tseq, r.2⟩] }

/-- CHALLENGE_EXPIRED (R469): a pending challenge of slot `a`, or of ring source `a`, reaches 2 s. -/
def execChallengeExpired (ring : Bool) (a : Nat) (s : State) : Out :=
  let c := if ring then (s.sec.ringChals.find? fun x => x.addr == a).map fun x => x.chal else (s.slot a).challenge
  occurs ((ring || decide (a < 8)) && (match c with | some x => decide (x.at_ + 2000 ≤ s.pwr.opTime) | none => false)) s <|
    if ring then s.dropChal a else s.modSlot a fun x => { x with challenge := none }

/-- AUTH_BUSY_END (R469): 10 s after the fifth failure AUTH_CHALLENGE is served again. -/
def execAuthBusyEnd (ring : Bool) (a : Nat) (s : State) : Out :=
  let t := if ring then (s.ringFail a).busy else (s.slot a).authBusy
  occurs ((ring || decide (a < 8)) && (match t with | some x => decide (x ≤ s.pwr.opTime) | none => false)) s <|
    if ring then s.setRingFail ⟨a, 0, none⟩ else s.modSlot a fun x => { x with authBusy := none, authFails := 0 }

/-! ## Measurements and attestation (R472, R473) -/

/-- The safety digest of a firmware slot. -/
def State.safDigest (s : State) (k : Nat) : Nat := (s.sec.fw.getD k {}).safDigest

/-- Every index of the directory whose parameter counts as configuration and is measured (R472). -/
def measured : List Nat :=
  let own := [Idx.HST_INCRES, Idx.HST_PSAOFS, Idx.HST_PSBOFS] ++
    ([0, 1].flatMap fun n => [Idx.DRn_HALLOFS n, Idx.DRn_TRAVEL n] ++ (List.range 128).map fun k => Idx.DRn_MASSk n k)
  (List.range 0x2000).filter fun i => isConfig i && !own.contains i

/-- The image of the measured parameters, laid out as the safety-set image of 12 R326. -/
def State.configImage (s : State) : List Byte :=
  measured.flatMap fun i => match paramInfo i with
    | some r => toLe 2 i ++ toLe r.ty.bytes (codeOf (8 * r.ty.bytes) (s.par i))
    | none => []

/-- The active body of a table. -/
def State.tblBody (s : State) (tid n : Nat) : List Byte := memReadN (tableByte tid) (s.tbl tid).body 0 n

/-- What the three measurements cover (R472). -/
def State.codeMeasure (s : State) : Nat :=
  Config.shake256 (toLe 64 s.fwActive.bodyDigest ++ toLe 64 (s.safDigest s.sec.safA) ++ toLe 64 (s.safDigest s.sec.safB)) 64
def State.programMeasure (s : State) : Nat := if s.gys.bank.isNone then 0 else s.image (imageLen s.image) 64
def State.configMeasure (s : State) : Nat :=
  Config.shake256 (setImage s.par ++ s.tblBody 0x0700 64 ++
    ([0x0200, 0x0201, 0x0202, 0x0203, 0x0210, 0x0211, 0x0212, 0x0213].flatMap fun t => s.tblBody t 2048) ++
    ([0x0500, 0x0501].flatMap fun t => s.tblBody t 4096) ++ s.configImage) 64

/-- The measurements are computed (R472). -/
def State.takeMeasurements (s : State) : State :=
  { s with sec.measCode := s.codeMeasure, sec.measProgram := s.programMeasure, sec.measConfig := s.configMeasure, sec.measDirty := false }

/-- MEASUREMENT_UPDATE (R472). -/
def execMeasurementUpdate (s : State) : Out := occurs (s.sec.measDirty && s.opCounts) s s.takeMeasurements

/-- SAF_MIXED: the channels run different builds (R481). -/
def State.safMixed (s : State) : Bool := s.safDigest s.sec.safA != s.safDigest s.sec.safB

/-- Bytes 0–351 of the report (Table SEC-6). -/
def State.attestReport (s : State) (nonce : List Byte) : List Byte :=
  ascii "TRGA" ++ toLe 2 1 ++ [0, 0] ++ serialBytes ++ padTo 32 nonce ++ toLe 6 s.pwr.opTime ++ [0, 0] ++ toLe 4 s.pwr.pwrCyc ++
    toLe 8 (if s.rng.valid then s.rng.time else 0) ++ toLe 2 (s.parN Idx.DEV_FWIF) ++ toLe 1 s.pwr.state.code ++
    toLe 1 (b2n (s.sec.fwStat == 3) + 2 * b2n s.safMixed + 4 * b2n s.rng.valid + 8 * b2n (s.pwr.state == .start && s.pwr.recovery) +
      16 * b2n (s.sec.dbg == 2)) ++
    toLe 4 s.fwActive.build ++ toLe 4 s.fwActive.svn ++ toLe 4 (s.parN Idx.SEC_MINSVN) ++ toLe 1 s.sec.active ++ toLe 1 s.safSlot ++
    toLe 1 (s.parN Idx.DEV_CALSTATE) ++ [0] ++ toLe 4 s.setCrc ++ toLe 4 s.calCrc ++ toLe 4 (s.image 32 4) ++
    toLe 4 (s.parN Idx.DEV_CFGCOUNT) ++ toLe 64 s.sec.measCode ++ toLe 64 s.sec.measProgram ++ toLe 64 s.sec.measConfig ++
    toLe 4 (kidOf 57 s.sec.owner) ++ toLe 4 (kidOf 57 s.sec.program) ++ toLe 4 (kidOf 32 s.sec.domain) ++
    toLe 4 (s.parN Idx.SEC_MINEPOCH) ++ List.replicate 32 0

/-- The selector of an ATTEST. -/
def Flight.selector (f : Flight) : Nat := getU f.p 32 1

/-- ATTEST (R473): the signed report; a selector above 2 is RANGE. -/
def execAttest (tag : Nat) (s : State) : Out :=
  occurs (s.hostReady tag 0x4A && (s.flight tag).selector != 1 && (s.flight tag).selector != 2) s <| s.hostCmd tag 0 fun s f =>
    if s.sec.dbg = 2 then s.complete f .denied
    else if f.selector ≠ 0 then s.complete f .range
    else
      let s := if s.sec.measDirty then s.takeMeasurements else s
      let r := s.attestReport (f.p.take 32)
      s.complete f .ok 0 (r ++ toLe 114 (Config.ed448Sign (ascii "TRGA-RPT" ++ r)))

/-- A certificate read by ATTEST; DENIED once debug access is open (R473, R483). -/
def State.attestCert (s : State) (f : Flight) (c : List Byte) : State :=
  if s.sec.dbg = 2 then s.complete f .denied else s.complete f .ok 0 c

/-- ATTEST_DEVICE_CERT (R473). -/
def execAttestDeviceCert (tag : Nat) (s : State) : Out :=
  occurs (s.hostReady tag 0x4A && (s.flight tag).selector == 1) s <| s.hostCmd tag 0 fun s f => s.attestCert f devCert

/-- ATTEST_CA_CERT (R473). -/
def execAttestCaCert (tag : Nat) (s : State) : Out :=
  occurs (s.hostReady tag 0x4A && (s.flight tag).selector == 2) s <| s.hostCmd tag 0 fun s f => s.attestCert f caCert

/-! ## SEC.ACTION (R464–R467) -/

/-- Code and check value of a write of SEC.ACTION. -/
def Flight.actCode (f : Flight) : Nat := f.wval.toNat % 256
def Flight.actCheck (f : Flight) : Nat := f.wval.toNat / 256 % 2 ^ 32

/-- A write of SEC.ACTION with this code is ready. -/
def State.writesAction (s : State) (tag code : Nat) : Bool := s.writesIdx tag Idx.SEC_ACTION && (s.flight tag).actCode == code

/-- The first `n` staged bytes of a slot. -/
def State.stagedBytes (s : State) (h n : Nat) : List Byte := padTo n (s.slot h).stage

/-- The check value of staged bytes (R464). -/
def stageCheck (bs : List Byte) : Nat := Config.shake256 bs 64 % 2 ^ 32

/-- A write of SEC.ACTION: form, then Table SEC-3's privilege and state, check value and content; the staging buffer is cleared after it. -/
def State.action (s : State) (f : Flight) (refused : Option Status) (k : State → State) : State :=
  let clear := fun (s : State) => s.modSlot f.slot fun x => { x with stage := [] }
  match s.writeRefused f with
  | some st => (clear s).complete f st f.widx
  | none => match refused with
    | some st => (clear s).complete f st f.widx
    | none => (clear (k (s.setPar f.widx 0))).complete f .ok 0 (s.writeResult f.widx 0) true

/-- SEC_KEY_INSTALLED with the action and the new key identifier (R464). -/
def State.keyInstalled (s : State) (action id : Nat) : State := s.raise 0x1206 2 0xFF [(1, action), (4, id)]

/-- Who may install the owner key (Table SEC-3). -/
def State.ownerAllowed (s : State) (f : Flight) : Bool :=
  let h := f.slot
  (decide (3 ≤ s.privOf h) && (match (s.slot h).session with | some ss => ss.byOwner && s.sec.owner.isSome | none => false)) ||
    (s.sec.owner.isNone && s.trusted h && decide (2 ≤ s.privOf h))

/-- The refusals of Table SEC-3 for a key of `n` staged bytes. -/
def State.keyRefused (s : State) (f : Flight) (allowed : Bool) (n : Nat) : Option Status :=
  let bs := s.stagedBytes f.slot n
  if !allowed then some .denied
  else if f.actCheck ≠ stageCheck bs then some .integrity
  else if n = 57 ∧ !Config.ed448KeyOk (leNat bs) then some .range else none

/-- INSTALL_OWNER_KEY (R464, R466): every other session closes. A code outside 1–6 is refused here with RANGE. -/
def execInstallOwnerKey (tag : Nat) (s : State) : Out :=
  occurs (s.writesIdx tag Idx.SEC_ACTION && !(decide (2 ≤ (s.flight tag).actCode) && decide ((s.flight tag).actCode ≤ 6))) s <|
    s.hostCmd tag 0 fun s f =>
      let bs := s.stagedBytes f.slot 57
      let refused := if f.actCode ≠ 1 then some .range else s.keyRefused f (s.ownerAllowed f) 57
      s.action f refused fun s =>
        let s := ({ s with sec.owner := some (leNat bs) } : State).closeSessions fun h _ => h != f.slot
        let s := s.modSlot f.slot fun x => { x with session := x.session.map fun ss => { ss with byOwner := false } }
        s.keyInstalled 1 (kid bs)

/-- INSTALL_PROGRAM_SIGNING_KEY (R464, R466). -/
def execInstallProgramSigningKey (tag : Nat) (s : State) : Out :=
  occurs (s.writesAction tag 2) s <| s.hostCmd tag 0 fun s f =>
    let bs := s.stagedBytes f.slot 57
    s.action f (s.keyRefused f (decide (3 ≤ s.privOf f.slot)) 57) fun s =>
      ({ s with sec.program := some (leNat bs) } : State).keyInstalled 2 (kid bs)

/-- The domain key a slot has staged: unwrapped in a session slot, plain on a trusted SPI slot (R465). -/
def State.stagedDomain (s : State) (f : Flight) : Nat :=
  let v := leNat (s.stagedBytes f.slot 32)
  if s.trusted f.slot then v
  else match (s.slot f.slot).session with
    | some ss => v ^^^ Config.kmac256 ss.kc (toLe 4 f.d.seq) 256 "TRG-9640 KEYWRAP"
    | none => v

/-- INSTALL_NEXT_DOMAIN_KEY (R464, R465). -/
def execInstallNextDomainKey (tag : Nat) (s : State) : Out :=
  occurs (s.writesAction tag 3) s <| s.hostCmd tag 0 fun s f =>
    let k := s.stagedDomain f % 2 ^ 256
    s.action f (s.keyRefused f (decide (3 ≤ s.privOf f.slot)) 32) fun s =>
      ({ s with sec.domainNext := some k } : State).keyInstalled 3 (kid (toLe 32 k))

/-- ACTIVATE_NEXT_DOMAIN_KEY (R464, R467): the former current key stays as previous for SEC.DKGRACE. Without a next key there is nothing to
activate: STATE. -/
def execActivateNextDomainKey (tag : Nat) (s : State) : Out :=
  occurs (s.writesAction tag 4) s <| s.hostCmd tag 0 fun s f =>
    let id := kidOf 32 s.sec.domainNext
    let refused : Option Status :=
      if s.privOf f.slot < 3 then some .denied
      else if s.sec.domainNext.isNone then some .state
      else if f.actCheck ≠ id then some .integrity else none
    s.action f refused fun s =>
      let s := { s with sec.domainPrev := s.sec.domain.map fun k => (k, s.pwr.opTime), sec.domain := s.sec.domainNext, sec.domainNext := none }
      (s.keyInstalled 4 id).raise 0x1207 2 0xFF [(4, id)]

/-- DOMAIN_KEY_GRACE_END (R467). -/
def execDomainKeyGraceEnd (s : State) : Out :=
  occurs (match s.sec.domainPrev with
    | some p => decide (p.2 + 1000 * s.parN Idx.SEC_DKGRACE ≤ s.pwr.opTime)
    | none => false) s { s with sec.domainPrev := none }

/-! ## Tokens (R483) -/

/-- A staged token is good for one of these kinds: magic, nonce, serial number, and the signature of its signer; the owner signs kind 1
only. -/
def State.tokenOk (s : State) (t : List Byte) (kinds : List Nat) : Bool :=
  let kind := getU t 4 1
  let signer := getU t 5 1
  t.take 4 == ascii "TRGU" && kinds.contains kind && getU t 8 8 == s.sec.unonce && (t.drop 16).take 16 == serialBytes &&
    (if signer = 1 then Config.ed448Verify Config.vendorRoot (t.take 32) (getU t 32 114)
     else signer == 0 && kind == 1 && (match s.sec.owner with
       | some k => Config.ed448Verify k (t.take 32) (getU t 32 114)
       | none => false))

/-- The refusals of a token (Table SEC-3, R464). -/
def State.tokenRefused (s : State) (f : Flight) (kinds : List Nat) : Option Status :=
  let t := s.stagedBytes f.slot 146
  if !(s.pwr.state == .start && s.pwr.recovery) then some .state
  else if f.actCheck ≠ stageCheck t then some .integrity
  else if !s.tokenOk t kinds then some .badSignature else none

/-- DEBUG_UNLOCK_TOKEN (R483): kind 1 opens boundary scan, kind 2 also debug access; recorded at the next normal START. -/
def execDebugUnlockToken (tag : Nat) (s : State) : Out :=
  occurs (s.writesAction tag 5) s <| s.hostCmd tag 0 fun s f =>
    let kind := getU (s.stagedBytes f.slot 146) 4 1
    s.action f (s.tokenRefused f [1, 2]) fun s => ({ s with sec.dbg := max s.sec.dbg kind } : State).raiseAtStart 0x1209 3

/-- OWNERSHIP_RESET_TOKEN (R483). -/
def execOwnershipResetToken (tag : Nat) (s : State) : Out :=
  occurs (s.writesAction tag 6) s <| s.hostCmd tag 0 fun s f =>
    s.action f (s.tokenRefused f [3]) fun s =>
      let s := { s with sec.owner := none, sec.program := none, sec.domain := none, sec.domainNext := none, sec.domainPrev := none }
      (s.setOwn Idx.SEC_MINEPOCH 0).raiseAtStart 0x120A 3

/-- SEC_EPOCH_RAISED (R470, Table SEC-11): a write that raises SEC.MINEPOCH closes the sessions of lower epochs; a lower value is RANGE. -/
def execSecEpochRaised (tag : Nat) (s : State) : Out :=
  occurs (s.writesIdx tag Idx.SEC_MINEPOCH && s.par Idx.SEC_MINEPOCH != (s.flight tag).wval) s <| s.hostCmd tag 0 fun s f =>
    s.commandWrite f none fun s =>
      let e := s.parN Idx.SEC_MINEPOCH
      ((s.parDurable Idx.SEC_MINEPOCH).raise 0x1208 2 0xFF [(4, e)]).closeSessions fun _ ss => decide (ss.epoch < e)

end Sys2Proof.Machine
end

