-- ==== Sys2Proof/Machine/Firmware.lean ====
section
/-!
DEFINITION. Firmware images: staging, the switch of the LMP firmware, trial and revert, rollback protection, the swap of the safety channels
(19_identity_attestation_update.md R474–R482).
-/
namespace Sys2Proof.Machine

/-- The recovery loader runs. -/
def State.inLoader (s : State) : Bool := s.pwr.state == .start && s.pwr.recovery

/-- A firmware slot. -/
def State.fwSlot (s : State) (k : Nat) : FwSlot := s.sec.fw.getD k {}

/-- A firmware slot changed. -/
def State.modFw (s : State) (k : Nat) (f : FwSlot → FwSlot) : State := { s with sec.fw := modifyAt s.sec.fw k f }

/-! ## Staging (R475, Table SEC-8) -/

/-- Fields of an FW_STAGE. -/
def Flight.fwFlag (f : Flight) (n : Nat) : Bool := (getU f.p 0 1).testBit n
def Flight.fwOff (f : Flight) : Nat := getU f.p 4 4
def Flight.fwLen (f : Flight) : Nat := getU f.p 8 2

/-- FW_STAGE with DISCARD alone. -/
def Flight.fwDiscards (f : Flight) : Bool := f.fwFlag 1 && !f.fwFlag 0

/-- The slot that a BEGIN stages into. -/
def State.fwTarget (s : State) (f : Flight) : Nat := if s.inLoader then getU f.p 1 1 else 1 - s.sec.active

/-- BEGIN is refused: another slot's claim, a trial, or the inactive slot still feeds a safety channel (R475). -/
def State.beginRefused (s : State) (f : Flight) : Bool :=
  let k := s.fwTarget f
  (match s.sec.claim with | some h => h != f.slot | none => false) || s.sec.fwStat == 3 ||
    (!s.inLoader && (s.sec.safA == k || s.sec.safB == k))

/-- A BEGIN claims the slot; the image it held is no longer one to go back to. -/
def State.fwBegin (s : State) (f : Flight) : State :=
  { s with sec.claim := some f.slot, sec.staged := s.fwTarget f, sec.confirmed := false,
           sec.fwStat := if s.sec.fwStat = 0 then 1 else s.sec.fwStat }

/-- FW_STAGE (R475): offset and length, the claim, the chunk; durable before it completes. -/
def execFwStage (tag : Nat) (s : State) : Out :=
  occurs (s.hostReady tag 0x48 && !(s.flight tag).fwDiscards) s <| s.hostCmd tag 3 fun s f =>
    if f.fwLen = 0 ∨ 448 < f.fwLen ∨ 1572864 < f.fwOff + f.fwLen ∨ (f.fwFlag 0 ∧ f.fwFlag 1) ∨
        (if s.inLoader then decide (1 < getU f.p 1 1) else getU f.p 1 1 != 0) then s.complete f .range
    else if (if f.fwFlag 0 then s.beginRefused f else s.sec.claim != some f.slot) then s.complete f .state
    else
      let s := if f.fwFlag 0 then s.fwBegin f else s
      let s := s.modFw s.sec.staged fun x => { x with bytes := memWriteN zeroByte x.bytes f.fwOff (writeData f.p f.fwLen) }
      s.complete f .ok 0 [] true

/-- FW_STAGE_DISCARD (R475): the claim is released. -/
def execFwStageDiscard (tag : Nat) (s : State) : Out :=
  occurs (s.hostReady tag 0x48 && (s.flight tag).fwDiscards) s <| s.hostCmd tag 3 fun s f =>
    if s.sec.claim ≠ some f.slot then s.complete f .state
    else ({ s with sec.claim := none, sec.fwStat := if s.sec.fwStat = 1 then 0 else s.sec.fwStat } : State).complete f .ok 0 [] true

/-! ## The staged image (R474, Table SEC-7) -/

/-- `n` bytes of a staged image as a number, and as bytes. -/
def State.fwN (s : State) (k off n : Nat) : Nat := leNat (memReadN zeroByte (s.fwSlot k).bytes off n)
def State.fwBytes (s : State) (k off n : Nat) : List Byte := memReadN zeroByte (s.fwSlot k).bytes off n

/-- Length and header are well formed, and the body length agrees (R476 check 2). -/
def State.fwShape (s : State) (k len : Nat) : Bool :=
  let body := s.fwN k 8 4
  let inside := fun (o : Nat) => decide (s.fwN k o 4 + s.fwN k (o + 4) 4 ≤ body)
  s.fwBytes k 0 4 == ascii "TRGF" && s.fwN k 4 2 == 1 && len == body + 388 && decide (256 ≤ body) && decide (len ≤ 1572864) &&
    inside 32 && inside 40 && inside 48 && decide (s.fwN k 44 4 ≤ 262144) && decide (s.fwN k 52 4 ≤ 262144)

/-- The body digest matches the expected digest and the trailer, and certificate and signature verify (R474, R476 check 3). -/
def State.fwSigned (s : State) (k : Nat) (expected : Nat) : Bool :=
  let body := s.fwN k 8 4
  let digest := Config.shake256 (s.fwBytes k 0 body) 64
  let cert := s.fwBytes k (body + 64) 210
  digest == expected && digest == s.fwN k body 64 && certMagic cert 3 && certIssuer cert == kid (toLe 57 Config.vendorRoot) &&
    certSigned Config.vendorRoot cert &&
    Config.ed448Verify (certKey cert) (ascii "TRGF-SIG" ++ toLe 64 digest) (s.fwN k (body + 274) 114)

/-- The header fields of a verified image are those of its slot. -/
def State.fwAdopt (s : State) (k : Nat) : State :=
  let digest := Config.shake256 (s.fwBytes k 0 (s.fwN k 8 4)) 64
  let n := fun (o b : Nat) => s.fwN k o b
  s.modFw k fun x =>
    { x with build := n 12 4, fwif := n 16 2, compat := n 18 2, svn := n 20 4, hoWrites := n 24 2, hoReads := n 26 2,
             safDigest := n 56 64, bodyDigest := digest }

/-! ## FW_SWITCH (R476–R478) -/

/-- Operation and flag of an FW_SWITCH. -/
def Flight.fwOp (f : Flight) : Nat := getU f.p 0 1
def Flight.allowRestart (f : Flight) : Bool := (getU f.p 1 1).testBit 0

/-- An FW_SWITCH with this operation is ready. -/
def State.switchOp (s : State) (tag op : Nat) : Bool := s.hostReady tag 0x49 && (s.flight tag).fwOp == op

/-- The image in a slot reads the handover record that the running one writes (R476 check 5). -/
def State.readsHandover (s : State) (k : Nat) : Bool := decide ((s.fwSlot k).hoReads ≤ s.fwActive.hoWrites)

/-- Checks 1 to 4 of a SWITCH, and check 5 outside the recovery loader, where no handover is made. -/
def State.switchRefused (s : State) (f : Flight) : Option Status :=
  let k := s.sec.staged
  if s.sec.claim ≠ some f.slot ∨ 1 < s.sec.fwStat then some .state
  else if !s.fwShape k (getU f.p 4 4) then some .range
  else if !s.fwSigned k (getU f.p 12 64) then some .badSignature
  else if s.fwN k 20 4 < s.parN Idx.SEC_MINSVN then some .denied
  else if !s.inLoader ∧ !f.allowRestart ∧ s.fwActive.hoWrites < s.fwN k 26 2 then some .state else none

/-- SEC_FW_REFUSED (R476, R478). -/
def State.fwRefused (s : State) (f : Flight) (st : Status) : State := (s.raise 0x1204 3).complete f st

/-- A switch begins to wait for a quiet point (R477). -/
def State.awaitQuiet (s : State) (f : Flight) (revert plain : Bool) : State :=
  let s := s.setPhase f.d.tag .quietWait
  { s with sec.statBefore := s.sec.fwStat, sec.fwStat := 2, sec.quietAt := s.pwr.opTime, sec.allowRestart := f.allowRestart,
           sec.reverting := revert, sec.revertPlain := plain }

/-- SWITCH (R476, R482). An operation other than 1–3 is RANGE. -/
def execFwSwitch (tag : Nat) (s : State) : Out :=
  occurs (s.hostReady tag 0x49 && (s.flight tag).fwOp != 2 && (s.flight tag).fwOp != 3) s <| s.hostCmd tag 3 fun s f =>
    if f.fwOp ≠ 1 then s.complete f .range
    else match s.switchRefused f with
      | some st => s.fwRefused f st
      | none =>
        let s := s.fwAdopt s.sec.staged
        if s.inLoader then
          ({ s with sec.active := s.sec.staged, sec.previous := 1 - s.sec.staged, sec.claim := none, sec.fwStat := 0 } : State).complete
            f .ok 0 [] true
        else s.awaitQuiet f false false

/-- A channel's firmware differs from the active slot's and may be swapped in DORMANT (R480, R481). -/
def State.channelStale (s : State) (k : Nat) : Bool :=
  s.safDigest k != s.fwActive.safDigest && (s.fwSlot k).compat == s.fwActive.compat

/-- A swap of the safety channels is pending or not, from the active slot on (R480). -/
def State.planSwap (s : State) : State :=
  if s.channelStale s.sec.safA ∨ s.channelStale s.sec.safB then
    { s with sec.fwStat := 4, sec.firstDormant := true, sec.swapRun := 0 }
  else { s with sec.fwStat := 0, sec.firstDormant := false }

/-- CONFIRM (R478, R479): ends the trial, raises SEC.MINSVN; STATE without a trial. -/
def execFwConfirm (tag : Nat) (s : State) : Out :=
  occurs (s.switchOp tag 2) s <| s.hostCmd tag 3 fun s f =>
    if s.sec.fwStat ≠ 3 then s.complete f .state
    else
      let s := if s.parN Idx.SEC_MINSVN < s.fwActive.svn then s.setOwn Idx.SEC_MINSVN s.fwActive.svn else s
      let s := ({ s with sec.confirmed := true } : State).planSwap
      (s.raise 0x1202 2).complete f .ok 0 [] true

/-- REVERT (R478): always accepted in a trial; after CONFIRM only above the rollback limit; else there is nothing to go back to: STATE. -/
def execFwRevert (tag : Nat) (s : State) : Out :=
  occurs (s.switchOp tag 3) s <| s.hostCmd tag 3 fun s f =>
    if s.sec.fwStat = 3 then s.awaitQuiet f true false
    else if s.sec.fwStat = 2 ∨ !s.sec.confirmed then s.complete f .state
    else if (s.fwSlot s.sec.previous).svn < s.parN Idx.SEC_MINSVN then s.fwRefused f .denied
    else s.awaitQuiet f true true

/-- The slot a switch leads to. -/
def State.switchTo (s : State) : Nat := if s.sec.reverting then s.sec.previous else s.sec.staged

/-- A table change, an online change or a parameter write is under way (R477). -/
def Phase.unquiet : Phase → Bool
  | .tableSwitch _ => true
  | .tableDurable _ => true
  | .paramDurable .. => true
  | _ => false

/-- A quiet point (R477). -/
def State.quiet (s : State) : Bool :=
  !(s.grp.groups.any fun x => x.state == 2 || x.state == 3 || x.state == 4 ||
      (x.state == 1 && x.cross && (match x.owner with | .remote _ => false | _ => true))) &&
    !(s.dsp.calls.any fun c => c.reg == s.me && c.ph == .bidding) &&
    !(s.host.ops.any fun f => f.phase.unquiet) && s.saf.confirm.isNone

/-- QUIET_POINT (R477): the commit point of the switch. Into an image that cannot read the handover record the switch is an LMP restart
(R26, R28, R115). -/
def execQuietPoint (tag : Nat) (s : State) : Out :=
  occurs (s.lmpServes && (s.flight tag).phase == .quietWait && (s.flight? tag).isSome && s.quiet) s <|
    let s := s.setPhase tag .switching
    if s.readsHandover s.switchTo then s
    else { s with lmp.restarting := true, lmp.cause := 3, host.lmpRestart := true, tph.bufLost := 0 }

/-- QUIET_POINT_TIMEOUT (R477). -/
def execQuietPointTimeout (tag : Nat) (s : State) : Out :=
  occurs ((s.flight? tag).isSome && (s.flight tag).phase == .quietWait &&
      decide (s.sec.quietAt + s.parN Idx.SEC_QUIETMAX ≤ s.pwr.opTime)) s
    (({ s with sec.fwStat := s.sec.statBefore } : State).complete (s.flight tag) .timeout)

/-- The new LMP is in place (Table SEC-9): the active slot changes; a trial begins, or a revert ends. -/
def State.switched (s : State) : State :=
  let k := s.switchTo
  let s := { s with sec.previous := s.sec.active, sec.active := k, sec.claim := none, sec.measDirty := true }
  let s := (s.setOwn Idx.DEV_FWIF (s.fwSlot k).fwif).bump Idx.SEC_SWITCHES
  let s := if s.sec.revertPlain then s.planSwap else { s with sec.fwStat := if s.sec.reverting then 0 else 3 }
  ({ s with sec.reverting := false, sec.revertPlain := false } : State).raise 0x1201 1

/-- SEC_FW_SWITCHED (R477): the first tick of the new LMP; FW_SWITCH completes OK. -/
def execSecFwSwitched (tag : Nat) (s : State) : Out :=
  occurs ((s.flight? tag).isSome && (s.flight tag).phase == .switching && !s.lmp.restarting && s.engines) s
    (s.switched.complete (s.flight tag) .ok 0 [] true)

/-! ## Swapping the safety channels (R480, R481) -/

/-- The channel may be swapped: Wick A while its swap is pending, Wick B once SEC.SWAPGAP has been spent in RUN. -/
def State.swapDue (s : State) (ch : Nat) : Bool :=
  if ch = 0 then s.sec.fwStat == 4 && s.channelStale s.sec.safA else s.sec.fwStat == 5 && s.channelStale s.sec.safB

/-- The interval that begins swaps a channel: for Wick A it is the first one after CONFIRM (R480). -/
def State.beginSwap (s : State) : State :=
  { s with sec.swapping := (s.sec.firstDormant && s.swapDue 0) || s.swapDue 1, sec.firstDormant := false }

/-- SEC_SAF_SWAPPED (R480): channel `ch` loaded and self-tested in this interval; a failure is lockout cause 12. -/
def execSecSafSwapped (ch : Nat) (ok : Bool) (s : State) : Out :=
  occurs (decide (ch < 2) && s.pwr.state == .dormant && s.sec.swapping && s.swapDue ch) s <|
    let s := { s with sec.swapping := false }
    if !ok then (s.safLockout 12 ch).answerRequest
    else
      let s := if ch = 0 then { s with sec.safA := s.sec.active, sec.swapRun := 0 }
               else { s with sec.safB := s.sec.active, sec.fwStat := 0 }
      let s := if ch = 0 ∧ !s.channelStale s.sec.safB then { s with sec.fwStat := 0 } else s
      ({ s with sec.measDirty := true } : State).raise 0x1205 2 ch

/-- SWAP_GAP_REACHED (R480): SEC.SWAPGAP has been spent in RUN since Wick A's swap. -/
def execSwapGapReached (s : State) : Out :=
  occurs (s.sec.fwStat == 4 && !s.channelStale s.sec.safA && s.channelStale s.sec.safB &&
      decide (3600000 * s.parN Idx.SEC_SWAPGAP ≤ s.sec.swapRun)) s { s with sec.fwStat := 5 }

end Sys2Proof.Machine
end

