-- ==== Sys2Proof/Machine/Dormant.lean ====
section
/-!
DEFINITION. DORMANT (02_power_clocks_states.md R42–R48): the request, the entry, the standby monitor, the wake.
-/
namespace Sys2Proof.Machine

/-! ## The request (R42, R44) -/

/-- A request passes: R42, no other request in hand, and step 1 of the handover (R42; 16 R423). -/
def State.dormantRequestOk (s : State) (own : Nat) : Bool :=
  s.dormantOk own && s.shf.handover.isNone && s.handoverOk

/-- STATE_REQUEST (R44): `wake` is the level of the WAKE land. A running brake torque test is abandoned (12 R316). -/
def execStateRequest (tag : Nat) (wake : Bool) (s : State) : Out :=
  occurs (s.hostReady tag 0x38) s <| ({ s with pwr.wakeLand := wake } : State).hostCmd tag 1 fun s f =>
    if getU f.p 0 1 ≠ 3 then s.complete f .range
    else
      let ok := s.dormantRequestOk 1
      let s := s.btAbandon
      if ok then (s.setPhase tag .dormantWait).startDormant else s.complete f .state

/-- STATE_REQ (R42, R44; 08 R174): Geyser's request record with a new sequence number. -/
def execStateReq (wake : Bool) (s : State) : Out :=
  occurs (s.engines && (s.gysReq 11).isSome) s <|
    let p := (s.gysReq 11).getD []
    let seq := getU p 0 2
    let s := { s with pwr.wakeLand := wake }.tookReq 11
    if getU p 2 1 ≠ 3 then s.gysAck 11 seq .range
    else
      let ok := s.dormantRequestOk 0
      let s := s.btAbandon
      if ok then ({ s with pwr.geyserReq := true }.gysAck 11 seq .accepted).startDormant else s.gysAck 11 seq .state

/-- HANDOVER_TIMEOUT (16 R423): 20 ms, and a neighbour has not shown HANDOVER_SEEN. -/
def execHandoverTimeout (s : State) : Out :=
  occurs (!s.pwr.entering && s.engines && (match s.shf.handover with
      | some t => decide (t + 20 ≤ s.pwr.opTime)
      | none => false)) s
    (s.endDormantRequest .state)

/-! ## The entry (R43, R45) -/

/-- The heartbeat with state DORMANT, which bit `b` of `sent` says has ended within its 5 ms; then standby (14 R370). -/
def State.canSleep (s : State) (sent b : Nat) : State :=
  let s := if s.onBus b then s.queueHeartbeat b 3 else s
  let s := if sent.testBit b then s.modObj b 0 fun o => o.finish Status.ok.code else s
  s.modCan b fun c => { c with standby := true }

/-- The learned repetitive tables are written back (10 R256). -/
def State.saveUnits (s : State) : State :=
  (List.range 4).foldl (fun s u =>
    let x := s.cle.units.getD u {}
    if x.learned then
      let s := (s.tblChanged (0x0400 + u)).raise 0x0604 0 u
      { s with cle.units := s.cle.units.set u { x with learned := false, savedAt := s.pwr.opTime } }
    else s) s

/-- The standby monitor's references and counts at the entry (R45). -/
def State.armMonitor (s : State) (si fio : Nat) : State :=
  { s with pwr.monSi := si % 2 ^ 16, pwr.monFio := fio % 2 ^ 48, pwr.monItems := 0, pwr.monMoved := 0, pwr.moveLatched := false }

/-- The fast clocks stop: the commit point of a host's request (R43, R44); the device has left dispatch, and one kept out of it by LMP
faults is so no longer (01 R29). -/
def State.stopClocks (s : State) : State :=
  ({ s with pwr.entering := false, pwr.dormantAt := s.pwr.opTime, saf.running := false, lmp.keptOut := false,
            shf.handover := none } : State).enter .dormant 0

/-- DORMANT_ENTRY (R43): the last cycle has closed and its journal is durable; the summary, the heartbeats, the records, then the clocks
stop. `si` and `fio` are the levels that the monitor captures. A device no longer in RUN gives the entry up. -/
def execDormantEntry (si fio canSent : Nat) (s : State) : Out :=
  occurs (s.pwr.entering && s.lmpServes &&
      (s.pwr.state != .run || (s.gys.phase == .boundary && s.gys.journals.all fun j => j.durable))) s <|
    if s.pwr.state ≠ .run then s.endDormantRequest .aborted
    else
      let s := if s.ringRuns ∧ s.addr.isSome then s.sendSummary 3 else s
      let s := (s.canSleep canSent 0).canSleep canSent 1
      let s := ((s.doorsDormant).saveUnits.cleDormant).flushTph
      (((s.openAll).armMonitor si fio).stopClocks).beginSwap

/-! ## The wake (R45–R48) -/

/-- The wake source qualifies: 0 the WAKE land, 1 and 2 CAN0 and CAN1, 4 and 5 the SPI ports, 6 the UART, 7 the safety inputs at levels
`v`, 8 movement of `v` comparator edges, 9 the field inputs at levels `v`, 10 a source already latched (Table PWR-8, Table PWR-9). -/
def State.wakeQualifies (s : State) (src : Nat) (v : Int) : Bool :=
  match src with
  | 0 => true
  | 1 => s.pwr.maskUse.testBit 0
  | 2 => s.pwr.maskUse.testBit 1
  | 4 => s.pwr.maskUse.testBit 3
  | 5 => s.pwr.maskUse.testBit 4
  | 6 => s.pwr.maskUse.testBit 5
  | 7 => s.pwr.state == .dormant && v.toNat % 2 ^ 16 != s.pwr.monSi
  | 8 => s.pwr.state == .dormant && decide (s.pwr.dmoveUse < mag (s.incTravel v))
  | 9 => s.pwr.state == .dormant && ((v.toNat ^^^ s.pwr.monFio) &&& s.pwr.wakeFioUse) != 0
  | 10 => s.pwr.wakeLatch != 0
  | _ => false

/-- Bit of the latched source in the layout of R44, none for one already latched. -/
def wakeBit (src : Nat) : Option Nat :=
  match src with
  | 0 => some 0 | 1 => some 1 | 2 => some 2 | 4 => some 4 | 5 => some 4 | 6 => some 5
  | 7 => some 7 | 8 => some 7 | 9 => some 7 | _ => none

/-- The source is latched in the AON domain. -/
def State.latchSource (s : State) (src : Nat) : State :=
  let s := match wakeBit src with
    | some b => { s with pwr.wakeLatch := s.pwr.wakeLatch ||| 2 ^ b }
    | none => s
  match src with
  | 0 => { s with pwr.wakeLand := true }
  | 7 => { s with pwr.monItems := s.pwr.monItems ||| 1 }
  | 8 => { s with pwr.monItems := s.pwr.monItems ||| 2 }
  | 9 => { s with pwr.monItems := s.pwr.monItems ||| 4 }
  | _ => s

/-- Movement beyond PWR.DMOVE is recorded and waits for the safety channels (R46). -/
def State.dormantMove (s : State) (edges : Int) : State :=
  let d := s.incTravel edges
  let s := (s.setOwn Idx.PWR_DMOVED d).raise 0x010C 4 0xFF [(4, d)]
  { s with pwr.monMoved := d, pwr.moveLatched := true }

/-- The field inputs whose change the monitor latched deliver one edge each, stamped at ring time `at_` (13 R348). -/
def State.wakeEdges (s : State) (v at_ : Nat) : State :=
  ((List.range 48).filter fun n => s.isInput n && ((v ^^^ s.pwr.monFio) &&& s.pwr.wakeFioUse).testBit n).foldl (fun s n =>
    s.modFch n fun c => { c with edges := [⟨at_, v.testBit n != s.parBit (Idx.FIO_CnCFG n) 3⟩] }) s

/-- The controllers rejoin their buses; each station's heartbeat timer and image age restart, its quality stays (14 R370). -/
def State.canWake (s : State) (b : Nat) : State :=
  let now := s.pwr.opTime
  (s.canJoin b).modCan b fun c =>
    { c with standby := false, hbAt := none, stns := c.stns.map fun x => { x with hbAt := now },
             objs := c.objs.map fun o => { o with fullAt := now, fillAt := now } }

/-- The clocks start: DORMANT_WAKE names the sources latched so far, and the blocks of the 800 µs row run (R47, R48; 08 R182; 11 R297;
13 R348; 14 R370; 18 R460). -/
def State.startClocks (s : State) : State :=
  let s := ({ s with pwr.waking := true, gys.held := false, gys.woke := true } : State).raise 0x010F 1 0xFF [(1, s.pwr.wakeLatch)]
  let s := if s.rtc.alarmTold then s else { s.raise 0x1103 1 with rtc.alarmTold := true }
  (((s.fioWake).canWake 0).canWake 1).doorsWake

/-- DORMANT_WAKE (R43, R47): before the clocks stop it cancels the entry; in DORMANT it starts them. `at_` is the ring time of the first
monitor sample that showed the change. -/
def execDormantWake (src : Nat) (v : Int) (at_ : Nat) (s : State) : Out :=
  occurs ((s.pwr.entering || s.shf.handover.isSome || s.pwr.state == .dormant) && s.wakeQualifies src v) s <|
    if s.pwr.state ≠ .dormant then
      { (s.endDormantRequest .aborted) with pwr.wakeLatch := 0, pwr.wakeLand := s.pwr.wakeLand || src == 0 }
    else
      let s := s.latchSource src
      let s := if src = 8 ∧ !s.pwr.moveLatched then s.dormantMove v else s
      let s := if s.pwr.waking then s else s.startClocks
      if src = 9 then s.wakeEdges v.toNat at_ else s

/-- WAKE (15 R380, R47): a ring wake frame addressed to the device, recognised by the forwarding hardware, latches the ring source. -/
def execRingWake (s : State) : Out :=
  occurs (s.ringRuns && (s.nextFrame 8 none).isSome) s <|
    let s := match s.nextFrame 8 none with
      | some f => s.dropFrame f
      | none => s
    if s.pwr.state = .dormant ∨ s.pwr.entering then s.latchWake 2 3 else s

/-- WAKE_COMPLETE (R48, Table PWR-10): at the 1.5 ms row both safety channels run again and compare from new records, the device is in
RUN; a sag latched in DORMANT then trips it (Table PWR-6). `edges` is the monitor's count through the wake (R46). A running swap of a
channel is awaited. -/
def execWakeComplete (edges : Int) (s : State) : Out :=
  occurs (s.pwr.state == .dormant && s.pwr.waking && !s.sec.swapping) s <|
    let far := decide (s.pwr.dmoveUse < mag (s.incTravel edges)) && !s.pwr.moveLatched
    let s := if far then s.dormantMove edges else { s.setOwn Idx.PWR_DMOVED (s.incTravel edges) with pwr.monMoved := s.incTravel edges }
    let s := (s.modBoth fun c => { c with recMiss := 0, mismatch := 0, fresh := false, wrote := {}, other := {} }).enter .run 0x010F
    let s := { s with saf.running := true, pwr.waking := false }
    let s := { s.answerRequest with pwr.wakeLatch := 0, pwr.wakeLand := false }
    if s.pwr.sag then s.toTripped 0x0103 else s

end Sys2Proof.Machine
end

