-- ==== Sys2Proof/Machine/Power.lean ====
section
/-!
DEFINITION. Supply, clocks, reset and start (02_power_clocks_states.md R30–R41, R49–R53; 04 R80): the thresholds of VIN, the backup cell, the
loss of the fast domain, the start sequence, temperature.
-/
namespace Sys2Proof.Machine

/-! ## Measured values -/

/-- PWR.VIN and PWR.VINMIN take a reading of VIN in mV (06 Table DEV-11). -/
def State.noteVin (s : State) (mV : Nat) : State :=
  let s := s.setOwn Idx.PWR_VIN (min mV 40000)
  if (min mV 40000 : Nat) < s.par Idx.PWR_VINMIN then s.setOwn Idx.PWR_VINMIN (min mV 40000) else s

/-- PWR.TDIE and PWR.TDIEMAX take a reading in 0.1 °C (04 R80). -/
def State.noteTdie (s : State) (t : Int) : State :=
  let t := clampInt (-550) 1500 t
  (s.setOwn Idx.PWR_TDIE t).peak Idx.PWR_TDIEMAX t

/-! ## Thresholds of VIN with the device running (R32–R34, Table PWR-2) -/

/-- VIN_OV: above 32.0 V for 1 ms. -/
def execVinOv (mV heldUs : Nat) (s : State) : Out :=
  occurs (s.opCounts && !s.pwr.vinOv && decide (32000 < mV) && decide (1000 ≤ heldUs)) s <|
    let s := (s.noteVin mV).raise 0x0106 3
    { s with pwr.vinOv := true }

/-- VIN_OV_CLEAR: below 31.0 V for 100 ms. -/
def execVinOvClear (mV heldUs : Nat) (s : State) : Out :=
  occurs (s.opCounts && s.pwr.vinOv && decide (mV < 31000) && decide (100000 ≤ heldUs)) s
    { s.noteVin mV with pwr.vinOv := false }

/-- VIN_WARN: below 19.0 V for 1 ms. -/
def execVinWarn (mV heldUs : Nat) (s : State) : Out :=
  occurs (s.opCounts && !s.pwr.vinWarn && decide (mV < 19000) && decide (1000 ≤ heldUs)) s <|
    let s := (s.noteVin mV).raise 0x0101 3
    { s with pwr.vinWarn := true }

/-- VIN_WARN_CLEAR: above 19.5 V for 100 ms. -/
def execVinWarnClear (mV heldUs : Nat) (s : State) : Out :=
  occurs (s.opCounts && s.pwr.vinWarn && decide (19500 < mV) && decide (100000 ≤ heldUs)) s <|
    let s := (s.noteVin mV).raise 0x0102 2
    { s with pwr.vinWarn := false }

/-- The sag shutdown turns every output off (R33; 11 R297; 12 R319). -/
def State.sagOff (s : State) : State :=
  let s := s.allOff
  { s with pwr.sag := true, pwr.supplyRecovered := false, gys.recoveredNow := false, fio.held := true }

/-- VIN_SAG (R33): below 16.0 V for 2 ms. It cancels a DORMANT entry, and wakes a DORMANT device, which trips once awake (R43, R45,
Table PWR-6). -/
def execVinSag (mV heldUs : Nat) (s : State) : Out :=
  occurs (s.opCounts && !s.pwr.sag && decide (mV < 16000) && decide (2000 ≤ heldUs)) s <|
    let s := if s.pwr.entering ∨ s.shf.handover.isSome then s.endDormantRequest .aborted else s
    let s := (((s.noteVin mV).sagOff).raise 0x0103 6).bump Idx.PWR_SAGCOUNT
    if s.pwr.state = .dormant then
      let s := { s with pwr.monItems := s.pwr.monItems ||| 8, pwr.wakeLatch := s.pwr.wakeLatch ||| 2 ^ 7 }
      if s.pwr.waking then s else s.startClocks
    else s.toTripped 0x0103

/-- VIN_RECOVER (R34): at or above 17.0 V for 100 ms. -/
def execVinRecover (mV heldUs : Nat) (s : State) : Out :=
  occurs (s.opCounts && s.pwr.sag && decide (17000 ≤ mV) && decide (100000 ≤ heldUs)) s <|
    let s := (s.noteVin mV).raise 0x0104 2
    { s with pwr.sag := false, pwr.supplyRecovered := true, saf.endCause := 0x0104 }

/-! ## Temperature (04 R80) -/

/-- TEMP_WARN: above 130 °C for 1 s. -/
def execTempWarn (tdie : Int) (heldMs : Nat) (s : State) : Out :=
  occurs (s.opCounts && !s.pwr.tempHigh && decide (1300 < tdie) && decide (1000 ≤ heldMs)) s <|
    let s := (s.noteTdie tdie).raise 0x0110 3
    { s with pwr.tempHigh := true }

/-- TEMP_HIGH_CLEAR: below 125 °C. -/
def execTempHighClear (tdie : Int) (s : State) : Out :=
  occurs (s.opCounts && s.pwr.tempHigh && decide (tdie < 1250)) s { s.noteTdie tdie with pwr.tempHigh := false }

/-- TEMP_TRIP: above 140 °C for 1 s. A moving car is stopped by HST at the first reachable landing, and SOC opens at standstill; field
outputs go off. -/
def execTempTrip (tdie : Int) (heldMs : Nat) (s : State) : Out :=
  occurs (s.engines && !s.pwr.tempTrip && decide (1400 < tdie) && decide (1000 ≤ heldMs)) s <|
    let s := ((s.noteTdie tdie).raise 0x0111 6).addCause 7
    let s := { s.fieldOff with pwr.tempTrip := true, pwr.supplyRecovered := false, gys.recoveredNow := false, fio.held := true }
    s.toTripped 0x0111

/-- TEMP_TRIP_CLEAR: 60 s below 120 °C; outputs return as after a sag trip. -/
def execTempTripClear (tdie : Int) (heldMs : Nat) (s : State) : Out :=
  occurs (s.engines && s.pwr.tempTrip && decide (tdie < 1200) && decide (60000 ≤ heldMs)) s <|
    let s := (s.noteTdie tdie).dropCause 7
    { s with pwr.tempTrip := false, pwr.supplyRecovered := !s.pwr.sag, saf.endCause := 0 }

/-! ## The AON supply (R49, R50) -/

/-- VIN_AON: the selector moves to VIN at or above 9.5 V, and to the cell below 9.0 V; with the cell below 1.8 V the hold-up runs. -/
def execVinAon (mV cellmV : Nat) (s : State) : Out :=
  occurs (s.pwr.state == .aon && (if s.pwr.aonOnVin then decide (mV < 9000) else decide (9500 ≤ mV))) s <|
    if s.pwr.aonOnVin then { s with pwr.aonOnVin := false, pwr.holdup := decide (cellmV < 1800) }
    else { s with pwr.aonOnVin := true, pwr.holdup := false }

/-- VCELL_RISE (Table PWR-6): from OFF the AON domain starts, on the cell above 2.0 V or on VIN above 9.5 V. -/
def execVcellRise (cellmV mV : Nat) (s : State) : Out :=
  occurs (s.pwr.state == .off && (decide (2000 < cellmV) || decide (9500 < mV))) s <|
    let s := if mV ≤ 9500 then s.setOwn Idx.PWR_LASTAON 4 else s
    { s with pwr.state := .aon, pwr.aonOnVin := decide (9500 < mV), pwr.holdup := false }

/-- VCELL_FAIL: the cell falls below 1.8 V while it feeds the AON domain. -/
def execVcellFail (cellmV : Nat) (s : State) : Out :=
  occurs (s.pwr.state == .aon && !s.pwr.aonOnVin && !s.pwr.holdup && decide (cellmV < 1800)) s { s with pwr.holdup := true }

/-- What the AON domain holds is lost: its registers, the standby monitor, the calendar (R50; 18 R449). -/
def State.aonLost (s : State) : State :=
  let s := s.rtcUnset
  let p : Pwr := { opTime := s.pwr.opTime, opTimeStored := s.pwr.opTimeStored, pwrCyc := s.pwr.pwrCyc, startEvts := s.pwr.startEvts,
                   bootsel := s.pwr.bootsel, nrstLow := s.pwr.nrstLow,
                   wakeLand := s.pwr.wakeLand }
  { s with pwr := { p with state := .off }, rtc := { lostNew := s.rtc.lostNew } }

/-- AON_HOLDUP_EXPIRED (R50): the hold-up of 200 µs ends without a new source, and the AON domain resets. -/
def execAonHoldupExpired (elapsedUs : Nat) (s : State) : Out :=
  occurs (s.pwr.state == .aon && s.pwr.holdup && decide (200 ≤ elapsedUs)) s s.aonLost

/-- The cell is measured (R49): below 2.4 V CELL_LOW, below 1.8 V with ABSENT set. -/
def State.measureCell (s : State) (mV : Nat) : State :=
  let s := s.setOwn Idx.PWR_VCELL (min mV 4000)
  if mV < 2400 then s.raise 0x0108 3 0xFF [(1, b2n (decide (mV < 1800)))] else s

/-- CELL_LOW (R49): a measurement below 2.4 V. -/
def execCellLow (mV : Nat) (s : State) : Out :=
  occurs (s.opCounts && decide (mV < 2400)) s (s.measureCell mV)

/-! ## The loss of the fast domain (R31, R35, R52) -/

/-- Groups past their commit point keep their parameter values: the commit mark is durable (07 R154). -/
def State.settleGroups (s : State) : State :=
  (List.range 8).foldl (fun s g =>
    if (s.group g).mayApply then
      let s := s.applyActs g fun a => a.kind == 1 || a.kind == 6 || a.kind == 7
      s.groupDurable ((s.group g).own.filter fun a => a.kind == 1 || a.kind == 6 || a.kind == 7)
    else s) s

/-- Geyser's part of the MRAM: retained image, journals, forces, state, and the numbers its owners took (08 R178, R181, R194). -/
def Gys.kept (g : Gys) : Gys :=
  { st := g.st, mem := g.mem, retained := g.retained, journals := g.journals, durCycle := g.durCycle, bank := g.bank, forces := g.forces,
    marks := g.marks, acks := g.acks, autoTimes := g.autoTimes, cycle := g.cycle }

/-- The last durable values are the live ones; staging copies are gone (06 Table DEV-3, R133). -/
def Dir.kept (d : Dir) : Dir :=
  { live := d.durable, durable := d.durable,
    tables := d.tables.map fun t => { t with body := t.durable, ver := t.durVer, origin := t.durOrigin, claim := none } }

/-- What the AON domain keeps of the supply and clock state, and what MRAM keeps. -/
def Pwr.kept (p : Pwr) : Pwr :=
  { p with state := .aon, recovery := false, sag := false, tempTrip := false, tempHigh := false, vinOv := false, vinWarn := false,
           supplyRecovered := false, entering := false, waking := false, geyserReq := false, wakeLatch := 0, moveLatched := false,
           monItems := 0, monMoved := 0, opTime := p.opTimeStored, xtal25Bad := false, lostParams := [], lockoutCause := 0, tapIr := 0 }

/-- Keys, images and the slots' state stay; a staging, a waiting switch and what only the SEC engine's memory held are gone (19 R476–R483). -/
def Sec.kept (x : Sec) : Sec :=
  { x with ringChals := [], ringFails := [], ringAns := [], claim := none, fwStat := if x.fwStat = 3 then 3 else 0, reverting := false,
           revertPlain := false, firstDormant := false, swapRun := 0, swapping := false, unonce := 0, dbg := 0, measDirty := false }

/-- Present records, the last number and nothing else; a repeat window that was open is closed (17 R434, R435). -/
def Tph.kept (t : Tph) : Tph := { recs := t.recs.map fun r => { r with windowOpen := false }, last := t.last }

/-- The stored ring time and ratios (15 R384, R400). -/
def Rng.kept (r : Rng) : Rng := { time := r.stored, stored := r.stored }
def Dsp.kept (d : Dsp) : Dsp :=
  { ratios := d.ratiosKept, ratioBase := d.baseKept, ratiosKept := d.ratiosKept, baseKept := d.baseKept }

/-- The fast domain is lost (R31, R35, R52; 05 R108): the device is in AON with every output off, and what no MRAM and no AON register holds
is gone. `last` is PWR.LASTAON, `cause` the event of the change. -/
def State.fastLost (s : State) (last cause : Nat) : State :=
  let old := s.pwr.state
  let s := (s.settleGroups.setOwn Idx.PWR_LASTAON last).raiseAtStart 0x010B 1 0xFF [(1, old.code), (1, DevState.aon.code), (2, cause)]
  { pwr := s.pwr.kept, dir := s.dir.kept, gys := s.gys.kept, tph := s.tph.kept, rng := s.rng.kept,
    dsp := s.dsp.kept, rtc := { s.rtc with capture := none }, sec := s.sec.kept,
    hst := { retained := s.hst.retained, unlearned := s.hst.unlearned }, pending := s.pending }

/-- VIN_STOP (R35): below 12.0 V for 20 µs; the operating time and the power-fail cause are written. -/
def execVinStop (mV heldUs : Nat) (s : State) : Out :=
  occurs (s.opCounts && decide (mV < 12000) && decide (20 ≤ heldUs)) s <|
    let s := (s.noteVin mV).raiseAtStart 0x0105 4 0xFF [(1, s.pwr.state.code), (2, min mV 40000)]
    ({ s with pwr.opTimeStored := s.pwr.opTime } : State).fastLost 1 0x0105

/-- RAIL_FAULT (R31): rail 0–6 outside its window for more than 10 µs. -/
def execRailFault (rail heldUs : Nat) (s : State) : Out :=
  occurs (s.opCounts && decide (rail ≤ 6) && decide (10 < heldUs)) s
    ((s.raiseAtStart 0x0107 5 0xFF [(1, rail)]).fastLost 2 0x0107)

/-- NRST_LOW (R52, R53): low for 10 µs. The monitor goes on against what it captured last. -/
def execNrstLow (heldUs : Nat) (s : State) : Out :=
  occurs (s.pwr.state != .off && !s.pwr.nrstLow && decide (10 ≤ heldUs)) s <|
    let s := if s.opCounts then s.fastLost 3 0x010A else s
    { s with pwr.nrstLow := true, pwr.nrstHeld := 0, pwr.monItems := 0, pwr.monMoved := 0 }

/-! ## The start (R39, R40, R53, Table PWR-7) -/

/-- START is entered: BOOTSEL is sampled, the power-cycle count rises, the operating time resumes (R40, R51). -/
def State.beginStart_ (s : State) (bootsel : Bool) : State :=
  let s := s.raiseAtStart 0x010B 1 0xFF [(1, DevState.aon.code), (1, DevState.start.code), (2, 0)]
  { s with pwr.state := .start, pwr.bootsel := bootsel, pwr.pwrCyc := min 0xFFFFFF (s.pwr.pwrCyc + 1),
           pwr.opTime := s.pwr.opTimeStored, rtc.capture := none }

/-- VIN_START (R32): at or above 17.0 V for 10 ms with NRST high. -/
def execVinStart (mV heldUs : Nat) (bootsel : Bool) (s : State) : Out :=
  occurs (s.pwr.state == .aon && s.pwr.aonOnVin && !s.pwr.nrstLow && decide (17000 ≤ mV) && decide (10000 ≤ heldUs)) s
    ((s.noteVin mV).beginStart_ bootsel)

/-- NRST_RELEASE (R53): the duration, the items the monitor latched and the distance are recorded; with VIN at 17.0 V START begins. -/
def execNrstRelease (mV : Nat) (bootsel : Bool) (items : Nat) (moved : Int) (s : State) : Out :=
  occurs (s.pwr.nrstLow && s.pwr.state == .aon) s <|
    let s := s.setOwn Idx.PWR_NRSTHELD s.pwr.nrstHeld
    let s := s.raiseAtStart 0x010A 1 0xFF [(4, s.pwr.nrstHeld), (1, items % 16), (4, moved)]
    let s := { s with pwr.nrstLow := false, pwr.monItems := items % 16, pwr.monMoved := moved }
    if s.pwr.aonOnVin ∧ 17000 ≤ mV then (s.noteVin mV).beginStart_ bootsel else s

/-- Geyser resumes from its last durable cycle (08 R181, R194; 07 R154). -/
def State.gysResume (s : State) : State :=
  let g := s.gys
  if g.bank.isNone then s
  else
    let done := g.journals.filter fun j => j.durable
    let lost := g.journals.filter fun j => !j.durable
    let image := (done.getLast?.map fun j => j.image).getD g.retained
    let s := s.setOwn Idx.GYS_RESUMECYC g.durCycle
    let s := if lost.isEmpty then s else s.raise 0x0403 2 0xFF [(4, ((lost.map fun j => j.lines).foldl (· + ·) 0 : Nat))]
    let s := if g.forces.isEmpty then s else s.raise 0x040A 3
    { s with gys.mem := image, gys.retained := image, gys.journals := [], gys.cycle := g.durCycle, gys.marks := [],
             gys.again := (g.marks.filter fun m => decide (g.durCycle < m.1)).map fun m => m.2, gys.resumed := true,
             gys.phase := .boundary, gys.outputsOff := true }

/-- Events kept for the start are recorded, stamped now (R39; 17 R432). -/
def State.emitStart (s : State) : State :=
  let es := s.pwr.startEvts
  es.foldl State.raiseEvt { s with pwr.startEvts := [] }

/-- HST takes the measured position (R41; 09 R207). -/
def State.hstStart (s : State) (pos : Int) : State :=
  let d := pos - s.hst.retained
  let s := if 5000 < mag d then s.raise 0x0511 2 0xFF [(4, d)] else s
  { s with hst.pf := 256 * pos, hst.pabs := pos, hst.offset := 256 * pos - s.incTerm s.hst.inc, hst.ref := RefSt.at_ pos,
           hst.retained := pos,
           hst.st := if s.hstDisabled then .disabled else .idle }

/-- The parameter copies and the calibration set as START found them (06 R127, R137): `repaired` and `lost` list indices, `cal` is 0
good, 1 one copy repaired, 2 both invalid. -/
def State.loadStore (s : State) (repaired lost : List Nat) (cal : Nat) : State :=
  let s := repaired.foldl (fun s i => s.raise 0x1311 2 0xFF [(2, i)]) s
  let s := lost.foldl (fun s i => s.raise 0x1312 5 0xFF [(2, i)]) s
  let s := if cal = 1 then s.raise 0x1311 2 0xFF [(2, 0x0700)]
           else if cal = 2 then (s.setOwn Idx.DEV_CALSTATE 2).raise 0x1316 5 else s
  { s with pwr.lostParams := lost }

/-- Tephra's slots with these sequence numbers were uncorrectable (17 R435). -/
def State.loseSlots (s : State) (seqs : List Nat) : State :=
  let gone := s.tph.recs.filter fun r => seqs.contains r.seq
  if gone.isEmpty then s
  else ({ s with tph.recs := s.tph.recs.filter fun r => !seqs.contains r.seq } : State).raise 0x1004 4 0xFF [(4, gone.length)]

/-- The RTC at START (18 R449, R450, R457). -/
def State.rtcStart (s : State) : State :=
  let s := if s.pwr.xtal32Bad then s.rtcUnset else s
  let s := { s with rtc.trimUse := s.par Idx.RTC_TRIM }
  if s.rtc.lostNew then { s.raiseNative 0x1102 3 with rtc.lostNew := false } else s

/-- The firmware slot that boots: the active one, else the other; a slot below SEC.MINSVN counts as failing (19 R479). -/
def State.bootSlot (s : State) (verifies : Nat) : Option Nat :=
  [s.sec.active, 1 - s.sec.active].find? fun k => verifies.testBit k && decide (s.parN Idx.SEC_MINSVN ≤ (s.fwSlot k).svn)

/-- The firmware of slot `k` runs, in the LMP and in both channels (19 R481, R483). -/
def State.bootFrom (s : State) (k : Nat) : State :=
  let s := if k = s.sec.active then s
    else ({ s with sec.previous := s.sec.active, sec.active := k, sec.fwStat := 0 } : State).raise 0x120B 5
  ({ s with sec.safA := k, sec.safB := k } : State).setOwn Idx.DEV_FWIF (s.fwSlot k).fwif

/-- The engines start and the device is in RUN (Table PWR-7, 340 and 400 ms rows; 14 R369; 15 R382; 16 R427; 19 R472). -/
def State.startRun (s : State) (pos : Int) : State :=
  let s := ((s.gysResume.hstStart pos).rtcStart).shfCheck
  let s := ((s.canJoin 0).canJoin 1).takeMeasurements
  let bt := if s.par Idx.SAF_BTRESULT = 0 then none else some (s.parN Idx.SAF_BTTIME)
  let s := { s with saf.running := true, saf.btLast := bt, rng.enabled := true, rng.a := { upAt := s.pwr.opTime },
                    rng.b := { upAt := s.pwr.opTime } }
  let s := s.enter .run 0
  if s.pwr.sag then s.toTripped 0x0103 else s

/-- START_COMPLETE (R39, R40, Table PWR-7): with BOOTSEL high the recovery loader runs; else the first failing step leads to LOCKOUT, or the
device enters RUN. `verifies` has bit k set when slot k's image verifies; `selfTest` is 0, or 1 and 2 for the channel that failed; `store`,
`lost` and `cal` are the findings in MRAM; `slots` the uncorrectable Tephra records; `setsDiffer` a difference between the two safety
sets; `pos` the first fused position; `cellmV` the cell. -/
def execStartComplete (verifies selfTest : Nat) (repaired lost : List Nat) (cal : Nat) (slots : List Nat) (setsDiffer : Bool) (pos : Int)
    (cellmV : Nat) (s : State) : Out :=
  occurs (s.pwr.state == .start && !s.pwr.recovery) s <|
    if s.pwr.bootsel then
      let s := s.raiseAtStart 0x120C 2
      { s with pwr.recovery := true, sec.unonce := Config.freeValue s.sec.free % 2 ^ 64, sec.free := s.sec.free + 1 }
    else
      let s := s.emitStart
      match s.bootSlot verifies with
      | none => s.toLockout 0
      | some k =>
        let s := (s.bootFrom k).measureCell cellmV
        if selfTest ≠ 0 then s.safLockout 12 (selfTest - 1)
        else
          let s := (s.loadStore repaired lost cal).loseSlots slots
          if !lost.isEmpty then s.toLockout 0x1312
          else if cal = 2 then s.toLockout 0x1316
          else if setsDiffer then s.safLockout 11 0
          else s.startRun pos

/-! ## Clocks and counters (R36, R37, R51) -/

/-- XTAL25_FAIL (R36): the 1 ms count is outside 5 %: LOCKOUT with HOST and the LMP stopped, so that no operation in flight completes (05
R108); ring forwarding stops (15 R382). -/
def execXtal25Fail (ppm : Int) (s : State) : Out :=
  occurs (s.opCounts && !s.pwr.xtal25Bad && decide (50000 < mag ppm)) s <|
    let s := s.raise 0x010D 5
    let s := if s.pwr.state = .lockout then s else s.toLockout 0x010D
    { s with pwr.xtal25Bad := true, pwr.entering := false, pwr.recovery := false, shf.handover := none, host := {}, lmp := {},
             rng := { s.rng with enabled := false, a := { s.rng.a with link := false, amp := 0 },
                                 b := { s.rng.b with link := false, amp := 0 }, valid := false } }

/-- XTAL32_FAIL (R37): out of limit for 1 s, 1 % in the fast states and 5 % in AON on VIN: the RTC counts from the RC. -/
def execXtal32Fail (ppm : Int) (heldMs : Nat) (s : State) : Out :=
  occurs ((s.opCounts || (s.pwr.state == .aon && s.pwr.aonOnVin)) && !s.pwr.xtal32Bad && decide (1000 ≤ heldMs) &&
      decide ((if s.opCounts then 10000 else 50000) < mag ppm)) s <|
    let s := if s.opCounts then s.raise 0x010E 3 else s.raiseAtStart 0x010E 3
    { s with pwr.xtal32Bad := true, rtc.degraded := true }

/-- OPERATING_TIME_STORE (R51): every 1 s. -/
def execOperatingTimeStore (s : State) : Out :=
  occurs (s.opCounts && decide (s.pwr.opTimeStored + 1000 ≤ s.pwr.opTime)) s { s with pwr.opTimeStored := s.pwr.opTime }

end Sys2Proof.Machine
end

