-- ==== Sys2Proof/Machine/Lmp.lean ====
section
/-!
DEFINITION. The management processor (01_architecture.md R22–R29; 05 R109–R115): its tick, aborts and deadlines, its restart; integrity of
paths and memories; the test access port (03 R62).
-/
namespace Sys2Proof.Machine

/-! ## Ending an operation before its commit point (05 R109–R111; 01 R28) -/

/-- The operation is past its commit point (05 Table HOST-6; 02 R44; 07 R158). -/
def State.pastCommit (s : State) (f : Flight) : Bool :=
  match f.phase with
  | .groupWait g => (s.group g).state == 4
  | .dormantWait => s.pwr.state == .dormant
  | p => p.committed

/-- What the owner holds of an operation not yet at its commit point is dropped, and it completes with this status and no effect. -/
def State.endOp (s : State) (f : Flight) (st : Status) : State :=
  let own := fun (q : List DCmd) => q.filter fun c => c.src != .host f.d.tag
  match f.phase with
  | .groupWait g => s.abortGroup g st
  | .dormantWait => s.endDormantRequest st
  | .varWrite => ({ s with gys.writes := s.gys.writes.filter fun t => t != f.d.tag } : State).complete f st
  | .forceWrite => ({ s with gys.forceOps := s.gys.forceOps.filter fun t => t != f.d.tag } : State).complete f st
  | .moveWait => ({ s with hst.waiting := s.hst.waiting.filter fun t => t.src != .host f.d.tag } : State).complete f st
  | .doorWait => ({ s with dr0.cmds := own s.dr0.cmds, dr1.cmds := own s.dr1.cmds } : State).complete f st
  | .safWait => ({ s with saf.confirm := none, saf.inactiveA := none, saf.inactiveB := none } : State).complete f st
  | .quietWait => ({ s with sec.fwStat := s.sec.statBefore, sec.reverting := false, sec.revertPlain := false } : State).complete f st
  | _ => s.complete f st

/-! ## The tick (05 R113) -/

/-- An operation that waits for a control engine ends with STATE: in LOCKOUT those engines have stopped (02 Table PWR-5; 05 R108;
log 60). -/
def State.strandedOp (s : State) (f : Flight) : State :=
  if s.pastCommit f then s
  else match f.phase with
    | .moveWait => s.endOp f .state
    | .stopWait => s.endOp f .state
    | .learnWait => s.endOp f .state
    | .doorWait => s.endOp f .state
    | .varWrite => s.endOp f .state
    | .forceWrite => s.endOp f .state
    | .groupWait _ => s.endOp f .state
    | _ => s

/-- LMP_TICK (05 R113): the busy fraction of the last 100 ms is `load`; group messages first, urgent queues before normal ones, streams
last; in LOCKOUT what waits for a control engine ends first. -/
def execLmpTick (load : Nat) (s : State) : Out :=
  occurs s.lmpServes s <|
    let s := if s.pwr.state = .lockout then s.host.ops.foldl State.strandedOp s else s
    let s := ((s.setOwn Idx.HOST_LOAD (min load 1000)).peak Idx.HOST_LOADPEAK (min load 1000)).flushGroups
    let s := (s.takeUrgent).takeNormal
    (List.range 4).foldl (fun s k => s.pullStream k) s

/-! ## Aborts and deadlines (05 R109–R111) -/

/-- The command in flight under a tag and generation, in its queue or taken. -/
def State.inFlight (s : State) (tag gen : Nat) : Option Flight :=
  (s.host.ops ++ s.host.slots.flatMap fun x => x.uq ++ x.nq).find? fun f => f.d.tag == tag && f.d.gen == gen

/-- ABORT (05 R110, R111, Table HOST-7): the target's completion is written first. -/
def execHostAbort (tag : Nat) (s : State) : Out :=
  occurs (s.hostReady tag 0x7F) s <| s.hostCmd tag 1 fun s f =>
    let t := getU f.p 0 2 % 64
    let g := getU f.p 0 2 / 64
    match s.inFlight t g with
    | some x =>
      if x.slot ≠ f.slot ∧ s.privOf f.slot < 2 then s.complete f .denied
      else if x.d.opcode = 0x7F then s.complete f .state
      else if s.pastCommit x then s.complete f .tooLate
      else (s.endOp x .aborted).complete f .ok 0 [] true
    | none => s.complete f (if 1 ≤ g ∧ g ≤ s.host.gens.getD t 0 then .alreadyComplete else .notFound)

/-- DEADLINE_TIMEOUT (05 R109): the deadline has passed before the commit point. -/
def execDeadlineTimeout (tag : Nat) (s : State) : Out :=
  let f := s.inFlight tag (s.host.gens.getD tag 0)
  occurs (s.lmpServes && (match f with
      | some f => f.d.detail != 0 && decide (f.entered + f.d.detail ≤ s.pwr.opTime) && !s.pastCommit f
      | none => false)) s
    (match f with
      | some f => s.endOp f .timeout
      | none => s)

/-! ## Faults and restarts of the LMP (R26–R29; 05 R115; 19 R478) -/

/-- A trial is over, or a switch has failed: the slot the LMP ran from before is active again (19 R478). -/
def State.fwFallBack (s : State) : State :=
  if s.sec.fwStat = 3 then
    let s := { s with sec.active := s.sec.previous, sec.previous := s.sec.active, sec.fwStat := 0, sec.measDirty := true }
    (s.setOwn Idx.DEV_FWIF s.fwActive.fwif).raise 0x1203 3
  else if s.host.ops.any fun f => f.phase == .switching then
    ({ s with sec.fwStat := s.sec.statBefore, sec.reverting := false, sec.revertPlain := false } : State).raise 0x1203 3
  else s

/-- The supervisor withdraws the device from dispatch and holds the LMP in reset (R26, Table LMP-8); a third fault within 600 s keeps it out
(R29). -/
def State.lmpFault (s : State) (cause : Nat) : State :=
  let recent := s.lmp.faults.filter fun t => decide (s.pwr.opTime < t + 600000)
  let s := { s with lmp := { restarting := true, cause := cause, faults := s.pwr.opTime :: recent, withdrawn := true,
                             keptOut := s.lmp.keptOut || decide (2 ≤ recent.length) },
                    host.lmpRestart := true, tph.bufLost := 0 }
  s.fwFallBack

/-- The LMP runs, so that it can fault. -/
def State.lmpRuns (s : State) : Bool := !s.lmp.restarting && (s.engines || s.pwr.state == .lockout)

/-- LMP_FAULT (R26): cause 0 a missed tick, 1 an exception, 2 a memory error. -/
def execLmpFault (cause : Nat) (s : State) : Out :=
  occurs (s.lmpRuns && decide (cause ≤ 2)) s (s.lmpFault cause)

/-- An operation that the restart finds in flight (R28, R160; 19 R478): past its commit point, or armed as a local group, it goes on. A switch
made as a restart is complete, one that failed completes STATE. -/
def State.settleOp (s : State) (cause : Nat) (f : Flight) : State :=
  if f.phase == .switching then
    if cause = 3 then s.switched.complete f .ok 0 [] true else s.complete f .state 0x1203 [] true
  else if s.pastCommit f then s
  else match f.phase with
    | .groupWait g => if (s.group g).cross then s.endOp f .aborted else s
    | _ => s.endOp f .aborted

/-- The queued descriptors and the OPEN groups end, the completions go out, and the sessions of session slots close (R28; 05 R115; 07
R160). -/
def State.settleSlots (s : State) : State :=
  let s := (List.range 8).foldl (fun s h => s.abortQueued h true) s
  let s := (List.range 8).foldl (fun s g =>
    if (s.group g).state = 1 then s.abortGroup g .aborted else s) s
  let s := (List.range 8).foldl (fun s h => s.deliverAll h) s
  s.closeSessions fun h _ => !s.trusted h

/-- LMP_RESTART (R26–R28, Table LMP-8): the LMP runs again. -/
def execLmpRestart (s : State) : Out :=
  occurs (s.lmp.restarting && s.opCounts) s <|
    let cause := s.lmp.cause
    let lost := s.tph.bufLost
    let s := { s with lmp.restarting := false, host.lmpRestart := false, tph.bufLost := 0 }
    let fs := s.host.ops.map fun f => { f with after := true }
    let s := fs.foldl (fun s f => s.settleOp cause f) { s with host.ops := fs }
    let s := s.raise 0x1301 5 0xFF [(1, cause)]
    let s := if lost = 0 then s else s.raise 0x1002 3 0xFF [(4, lost)]
    s.settleSlots.endSafSession

/-- LMP_REJOIN_DISPATCH (R26, R29): 60 s without a further fault. -/
def execLmpRejoinDispatch (s : State) : Out :=
  occurs (s.lmp.withdrawn && !s.lmp.restarting && !s.lmp.keptOut && s.engines &&
      s.lmp.faults.all fun t => decide (t + 60000 ≤ s.pwr.opTime)) s
    { s with lmp.withdrawn := false }

/-! ## Integrity (R22–R25, Table LMP-7) -/

/-- An operation fails with INTEGRITY, its single completion (R23). -/
def State.integrityFails (s : State) (tag : Nat) : State :=
  match s.flight? tag with
  | some f => if s.pastCommit f then s.complete f .integrity 0 [] true else s.endOp f .integrity
  | none => s

/-- PATH_PARITY (R23, R25): block `source` finds a parity error on the path `path`. `repeated` says that the transfer was repeated without
error; `tag` is the operation it belongs to, 64 for none; `slot` the Caldera slot whose sample it hit, or the safety channel. A drive-link frame counts as
missing. In a safety channel it is an internal dangerous fault. -/
def execPathParity (source path : Nat) (repeated : Bool) (tag slot : Nat) (s : State) : Out :=
  occurs (s.opCounts && sourceId source) s <|
    let s := s.raise (source * 256 + 0xF0) (if repeated then 3 else 4) 0xFF [(4, path), (1, 2), (1, 0xFF)]
    if source = 9 then s.safLockout 6 (slot % 2)
    else if repeated then s
    else
      let s := s.integrityFails tag
      if source = 6 ∧ slot < 16 ∧ (s.cslot slot).on then s.slotLate slot
      else if source = 5 then { s with hst.dlReplied := false }
      else s

/-- SCRUB (R24, R25): a single-bit error is corrected and written back, or a word is uncorrectable; `kind` is 0 SRAM, 1 MRAM, `bit` the failing bit, or the safety channel. An
uncorrectable word of a safety channel is an internal dangerous fault, one of Geyser's an application fault (08 Table GYS-7), one of the
LMP's an LMP fault (R26). -/
def execScrub (source addr kind bit : Nat) (uncorrectable : Bool) (s : State) : Out :=
  occurs (s.opCounts && sourceId source && decide (kind ≤ 1)) s <|
    if !uncorrectable then s.raise (source * 256 + 0xF1) 2 0xFF [(4, addr), (1, kind), (1, bit % 72)]
    else
      let s := s.raise (source * 256 + 0xF2) (if source = 9 then 6 else 4) 0xFF [(4, addr), (1, kind), (1, 0xFF)]
      if source = 9 then s.safLockout 6 (bit % 2)
      else if source = 4 ∧ s.engines ∧ s.gys.st = 1 then s.gysFault 8
      else if source = 0x13 ∧ s.lmpRuns then s.lmpFault 2
      else s

/-! ## Test access (03 R62; 19 R483) -/

/-- TAP_INSTRUCTION (03 R62): 0 IDCODE and 1 BYPASS in the running states and under the loader; 2 EXTEST and 3 boundary scan under the loader
once unlocked; 4 debug once debug is unlocked. -/
def execTapInstruction (ir : Nat) (s : State) : Out :=
  let running := s.opCounts && (s.pwr.state != .start || s.pwr.recovery)
  occurs (running && (decide (ir ≤ 1) || (s.inLoader && ((decide (ir ≤ 3) && decide (1 ≤ s.sec.dbg)) || (ir == 4 && s.sec.dbg == 2))))) s
    { s with pwr.tapIr := ir }

end Sys2Proof.Machine
end

