-- ==== Sys2Proof/Machine/Idle.lean ====
section
/-!
DEFINITION. What a step does when no command waits: one millisecond passes (log 4).
-/
namespace Sys2Proof.Machine

/-- The length of a low NRST is measured by the AON domain, in ms (02 R53). -/
def State.nrstPass (s : State) : State :=
  if s.pwr.nrstLow then { s with pwr.nrstHeld := min (s.pwr.nrstHeld + 1) (2 ^ 32 - 1) } else s

/-- The calendar's oscillator runs whenever the AON domain does: 32.768 cycles in 1 ms (18 R457). -/
def State.rtcPass (s : State) : State := if s.pwr.state = .off then s else s.rtcCycles 4096

/-- The operating-time counter counts in the fast states, 48 bits (02 R51). -/
def State.opPass (s : State) : State :=
  if s.opCounts then { s with pwr.opTime := (s.pwr.opTime + 1) % 2 ^ 48 } else s

/-- Time in RUN with only Wick A swapped counts toward SEC.SWAPGAP (19 R480). -/
def State.swapPass (s : State) : State :=
  if s.pwr.state = .run ∧ s.sec.fwStat = 4 then { s with sec.swapRun := s.sec.swapRun + 1 } else s

/-- Ring time runs while the ring's hardware does, and the frames sent leave the ports (15 R382–R384). -/
def State.ringMs (s : State) : State :=
  if s.rng.enabled then { s.ringPass 1000 with rng.out := [] } else s

/-- One millisecond without a command. -/
def State.idle (s : State) : State := s.nrstPass.rtcPass.opPass.swapPass.ringMs

end Sys2Proof.Machine
end

