-- ==== Sys2Proof/Machine/All.lean ====
section
/-!
DEFINITION. The meanings of every family, for the dispatch. The files form one chain: each imports the one before it.
-/
end

