-- ==== Sys2Proof/Machine/Dispatch.lean ====
section
/-!
DEFINITION. The dispatch: one arm for each row of spec/opcode_table.json, a direct call of that row's meaning.
-/
namespace Sys2Proof.Machine

def exec (i : Instr) (s : State) : Host.Outcome State Fault Refusal :=
  match i with
  | .status h crc => Sys2Proof.Machine.execStatus h crc s
  | .put h queue bytes crc tseq => Sys2Proof.Machine.execPut h queue bytes crc tseq s
  | .get h queue crc => Sys2Proof.Machine.execGet h queue crc s
  | .release h queue count crc => Sys2Proof.Machine.execRelease h queue count crc s
  | .transactionCutShort h => Sys2Proof.Machine.execTransactionCutShort h s
  | .ringAuth src tseq bytes => Sys2Proof.Machine.execRingAuth src tseq bytes s
  | .pushRepeat h => Sys2Proof.Machine.execPushRepeat h s
  | .ringSlotIdle h => Sys2Proof.Machine.execRingSlotIdle h s
  | .completionQueued h => Sys2Proof.Machine.execCompletionQueued h s
  | .deadlineTimeout tag => Sys2Proof.Machine.execDeadlineTimeout tag s
  | .hostOverload load => Sys2Proof.Machine.execHostOverload load s
  | .hostOverloadEnd load heldMs => Sys2Proof.Machine.execHostOverloadEnd load heldMs s
  | .lmpTick load => Sys2Proof.Machine.execLmpTick load s
  | .lmpFault cause => Sys2Proof.Machine.execLmpFault cause s
  | .lmpRestart => Sys2Proof.Machine.execLmpRestart s
  | .lmpRejoinDispatch => Sys2Proof.Machine.execLmpRejoinDispatch s
  | .hostNop tag => Sys2Proof.Machine.execHostNop tag s
  | .devInfo tag => Sys2Proof.Machine.execDevInfo tag s
  | .paramRead tag => Sys2Proof.Machine.execParamRead tag s
  | .paramWrite tag => Sys2Proof.Machine.execParamWrite tag s
  | .paramApply tag => Sys2Proof.Machine.execParamApply tag s
  | .paramDurable tag => Sys2Proof.Machine.execParamDurable tag s
  | .devRestore tag => Sys2Proof.Machine.execDevRestore tag s
  | .tableRead tag => Sys2Proof.Machine.execTableRead tag s
  | .tableWrite tag => Sys2Proof.Machine.execTableWrite tag s
  | .tableWriteDiscard tag => Sys2Proof.Machine.execTableWriteDiscard tag s
  | .tableActivate tag => Sys2Proof.Machine.execTableActivate tag s
  | .tableSwitch tag => Sys2Proof.Machine.execTableSwitch tag s
  | .tableDurable tag => Sys2Proof.Machine.execTableDurable tag s
  | .varRead tag => Sys2Proof.Machine.execVarRead tag s
  | .varWrite tag => Sys2Proof.Machine.execVarWrite tag s
  | .forceSet tag => Sys2Proof.Machine.execForceSet tag s
  | .forceClear tag => Sys2Proof.Machine.execForceClear tag s
  | .forceClearAll tag => Sys2Proof.Machine.execForceClearAll tag s
  | .move tag => Sys2Proof.Machine.execMove tag s
  | .moveReq => Sys2Proof.Machine.execMoveReq s
  | .stopMotion tag => Sys2Proof.Machine.execStopMotion tag s
  | .stopMotionAtLanding tag => Sys2Proof.Machine.execStopMotionAtLanding tag s
  | .learnRun tag => Sys2Proof.Machine.execLearnRun tag s
  | .doorOpen tag => Sys2Proof.Machine.execDoorOpen tag s
  | .doorClose tag => Sys2Proof.Machine.execDoorClose tag s
  | .doorNudge tag => Sys2Proof.Machine.execDoorNudge tag s
  | .doorHold tag => Sys2Proof.Machine.execDoorHold tag s
  | .doorStop tag => Sys2Proof.Machine.execDoorStop tag s
  | .doorReopen tag => Sys2Proof.Machine.execDoorReopen tag s
  | .doorLearn tag => Sys2Proof.Machine.execDoorLearn tag s
  | .doorReq n => Sys2Proof.Machine.execDoorReq n s
  | .grpOpen tag => Sys2Proof.Machine.execGrpOpen tag s
  | .parameterWrite tag => Sys2Proof.Machine.execParameterWrite tag s
  | .geyserVariableWrite tag => Sys2Proof.Machine.execGeyserVariableWrite tag s
  | .nonSafetyFieldOutput tag => Sys2Proof.Machine.execNonSafetyFieldOutput tag s
  | .profileTarget tag => Sys2Proof.Machine.execProfileTarget tag s
  | .doorCommand tag => Sys2Proof.Machine.execDoorCommand tag s
  | .camTableSelection tag => Sys2Proof.Machine.execCamTableSelection tag s
  | .calderaCoefficientSet tag => Sys2Proof.Machine.execCalderaCoefficientSet tag s
  | .grpCommit tag => Sys2Proof.Machine.execGrpCommit tag s
  | .commitPoint g => Sys2Proof.Machine.execCommitPoint g s
  | .groupActionApplied g => Sys2Proof.Machine.execGroupActionApplied g s
  | .groupRecordDurable g => Sys2Proof.Machine.execGroupRecordDurable g s
  | .grpAbort tag => Sys2Proof.Machine.execGrpAbort tag s
  | .grpExpired g => Sys2Proof.Machine.execGrpExpired g s
  | .xdevPrepare => Sys2Proof.Machine.execXdevPrepare s
  | .preparedBoundary g => Sys2Proof.Machine.execPreparedBoundary g s
  | .xdevVote => Sys2Proof.Machine.execXdevVote s
  | .voteDeadline g => Sys2Proof.Machine.execVoteDeadline g s
  | .xdevCommit => Sys2Proof.Machine.execXdevCommit s
  | .xdevAck => Sys2Proof.Machine.execXdevAck s
  | .commitRepeat g => Sys2Proof.Machine.execCommitRepeat g s
  | .abortMessage => Sys2Proof.Machine.execAbortMessage s
  | .grpDecisionLost g => Sys2Proof.Machine.execGrpDecisionLost g s
  | .grpXdevUnconfirmed g => Sys2Proof.Machine.execGrpXdevUnconfirmed g s
  | .hostAbort tag => Sys2Proof.Machine.execHostAbort tag s
  | .evtSubscribe tag => Sys2Proof.Machine.execEvtSubscribe tag s
  | .evtRead tag => Sys2Proof.Machine.execEvtRead tag s
  | .snapshot tag => Sys2Proof.Machine.execSnapshot tag s
  | .rtcWrite tag => Sys2Proof.Machine.execRtcWrite tag s
  | .rtcCapture tag => Sys2Proof.Machine.execRtcCapture tag s
  | .safWrite tag => Sys2Proof.Machine.execSafWrite tag s
  | .safWriteDiscard tag => Sys2Proof.Machine.execSafWriteDiscard tag s
  | .safConfirm tag => Sys2Proof.Machine.execSafConfirm tag s
  | .safetySetSwitch => Sys2Proof.Machine.execSafetySetSwitch s
  | .safSessionTimeout => Sys2Proof.Machine.execSafSessionTimeout s
  | .stateRequest tag wake => Sys2Proof.Machine.execStateRequest tag wake s
  | .stateReq wake => Sys2Proof.Machine.execStateReq wake s
  | .traceRead tag => Sys2Proof.Machine.execTraceRead tag s
  | .authChallenge tag => Sys2Proof.Machine.execAuthChallenge tag s
  | .authResponse tag => Sys2Proof.Machine.execAuthResponse tag s
  | .sessionClose tag => Sys2Proof.Machine.execSessionClose tag s
  | .sessionExpired h => Sys2Proof.Machine.execSessionExpired h s
  | .fwStage tag => Sys2Proof.Machine.execFwStage tag s
  | .fwStageDiscard tag => Sys2Proof.Machine.execFwStageDiscard tag s
  | .fwSwitch tag => Sys2Proof.Machine.execFwSwitch tag s
  | .quietPoint tag => Sys2Proof.Machine.execQuietPoint tag s
  | .quietPointTimeout tag => Sys2Proof.Machine.execQuietPointTimeout tag s
  | .secFwSwitched tag => Sys2Proof.Machine.execSecFwSwitched tag s
  | .fwConfirm tag => Sys2Proof.Machine.execFwConfirm tag s
  | .fwRevert tag => Sys2Proof.Machine.execFwRevert tag s
  | .secSafSwapped ch ok => Sys2Proof.Machine.execSecSafSwapped ch ok s
  | .attest tag => Sys2Proof.Machine.execAttest tag s
  | .attestDeviceCert tag => Sys2Proof.Machine.execAttestDeviceCert tag s
  | .attestCaCert tag => Sys2Proof.Machine.execAttestCaCert tag s
  | .measurementUpdate => Sys2Proof.Machine.execMeasurementUpdate s
  | .installOwnerKey tag => Sys2Proof.Machine.execInstallOwnerKey tag s
  | .installProgramSigningKey tag => Sys2Proof.Machine.execInstallProgramSigningKey tag s
  | .installNextDomainKey tag => Sys2Proof.Machine.execInstallNextDomainKey tag s
  | .activateNextDomainKey tag => Sys2Proof.Machine.execActivateNextDomainKey tag s
  | .domainKeyGraceEnd => Sys2Proof.Machine.execDomainKeyGraceEnd s
  | .debugUnlockToken tag => Sys2Proof.Machine.execDebugUnlockToken tag s
  | .ownershipResetToken tag => Sys2Proof.Machine.execOwnershipResetToken tag s
  | .secEpochRaised tag => Sys2Proof.Machine.execSecEpochRaised tag s
  | .vinOv mV heldUs => Sys2Proof.Machine.execVinOv mV heldUs s
  | .vinWarn mV heldUs => Sys2Proof.Machine.execVinWarn mV heldUs s
  | .vinWarnClear mV heldUs => Sys2Proof.Machine.execVinWarnClear mV heldUs s
  | .vinSag mV heldUs => Sys2Proof.Machine.execVinSag mV heldUs s
  | .vinRecover mV heldUs => Sys2Proof.Machine.execVinRecover mV heldUs s
  | .vinStart mV heldUs bootsel => Sys2Proof.Machine.execVinStart mV heldUs bootsel s
  | .vinStop mV heldUs => Sys2Proof.Machine.execVinStop mV heldUs s
  | .vinAon mV cellmV => Sys2Proof.Machine.execVinAon mV cellmV s
  | .vcellRise cellmV mV => Sys2Proof.Machine.execVcellRise cellmV mV s
  | .aonHoldupExpired elapsedUs => Sys2Proof.Machine.execAonHoldupExpired elapsedUs s
  | .cellLow mV => Sys2Proof.Machine.execCellLow mV s
  | .railFault rail heldUs => Sys2Proof.Machine.execRailFault rail heldUs s
  | .xtal25Fail ppm => Sys2Proof.Machine.execXtal25Fail ppm s
  | .xtal32Fail ppm heldMs => Sys2Proof.Machine.execXtal32Fail ppm heldMs s
  | .tempWarn tdie heldMs => Sys2Proof.Machine.execTempWarn tdie heldMs s
  | .tempTrip tdie heldMs => Sys2Proof.Machine.execTempTrip tdie heldMs s
  | .tempTripClear tdie heldMs => Sys2Proof.Machine.execTempTripClear tdie heldMs s
  | .nrstLow heldUs => Sys2Proof.Machine.execNrstLow heldUs s
  | .nrstRelease mV bootsel items moved => Sys2Proof.Machine.execNrstRelease mV bootsel items moved s
  | .startComplete verifies selfTest repaired lost cal slots setsDiffer pos cellmV => Sys2Proof.Machine.execStartComplete verifies selfTest repaired lost cal slots setsDiffer pos cellmV s
  | .dormantEntry si fio canSent => Sys2Proof.Machine.execDormantEntry si fio canSent s
  | .dormantWake src v at_ => Sys2Proof.Machine.execDormantWake src v at_ s
  | .wakeComplete edges => Sys2Proof.Machine.execWakeComplete edges s
  | .pathParity source path repeated tag slot => Sys2Proof.Machine.execPathParity source path repeated tag slot s
  | .scrub source addr kind bit uncorrectable => Sys2Proof.Machine.execScrub source addr kind bit uncorrectable s
  | .gysInputPhase dtUs => Sys2Proof.Machine.execGysInputPhase dtUs s
  | .gysNop mode operand => Sys2Proof.Machine.execGysNop mode operand s
  | .ldb mode operand => Sys2Proof.Machine.execLdb mode operand s
  | .ldbn mode operand => Sys2Proof.Machine.execLdbn mode operand s
  | .andb mode operand => Sys2Proof.Machine.execAndb mode operand s
  | .andbn mode operand => Sys2Proof.Machine.execAndbn mode operand s
  | .orb mode operand => Sys2Proof.Machine.execOrb mode operand s
  | .orbn mode operand => Sys2Proof.Machine.execOrbn mode operand s
  | .xorb mode operand => Sys2Proof.Machine.execXorb mode operand s
  | .stb mode operand => Sys2Proof.Machine.execStb mode operand s
  | .stbn mode operand => Sys2Proof.Machine.execStbn mode operand s
  | .setb mode operand => Sys2Proof.Machine.execSetb mode operand s
  | .rstb mode operand => Sys2Proof.Machine.execRstb mode operand s
  | .edge mode operand => Sys2Proof.Machine.execEdge mode operand s
  | .pshb mode operand => Sys2Proof.Machine.execPshb mode operand s
  | .ands mode operand => Sys2Proof.Machine.execAnds mode operand s
  | .ors mode operand => Sys2Proof.Machine.execOrs mode operand s
  | .ld mode operand => Sys2Proof.Machine.execLd mode operand s
  | .st mode operand => Sys2Proof.Machine.execSt mode operand s
  | .ldx mode operand => Sys2Proof.Machine.execLdx mode operand s
  | .add mode operand => Sys2Proof.Machine.execAdd mode operand s
  | .sub mode operand => Sys2Proof.Machine.execSub mode operand s
  | .mul mode operand => Sys2Proof.Machine.execMul mode operand s
  | .div mode operand => Sys2Proof.Machine.execDiv mode operand s
  | .mod mode operand => Sys2Proof.Machine.execMod mode operand s
  | .andW mode operand => Sys2Proof.Machine.execAndW mode operand s
  | .orW mode operand => Sys2Proof.Machine.execOrW mode operand s
  | .xorW mode operand => Sys2Proof.Machine.execXorW mode operand s
  | .notW mode operand => Sys2Proof.Machine.execNotW mode operand s
  | .shl mode operand => Sys2Proof.Machine.execShl mode operand s
  | .shr mode operand => Sys2Proof.Machine.execShr mode operand s
  | .sar mode operand => Sys2Proof.Machine.execSar mode operand s
  | .minW mode operand => Sys2Proof.Machine.execMinW mode operand s
  | .maxW mode operand => Sys2Proof.Machine.execMaxW mode operand s
  | .cmpeq mode operand => Sys2Proof.Machine.execCmpeq mode operand s
  | .cmplt mode operand => Sys2Proof.Machine.execCmplt mode operand s
  | .cmpltu mode operand => Sys2Proof.Machine.execCmpltu mode operand s
  | .fadd mode operand => Sys2Proof.Machine.execFadd mode operand s
  | .fsub mode operand => Sys2Proof.Machine.execFsub mode operand s
  | .fmul mode operand => Sys2Proof.Machine.execFmul mode operand s
  | .fdiv mode operand => Sys2Proof.Machine.execFdiv mode operand s
  | .fcmplt mode operand => Sys2Proof.Machine.execFcmplt mode operand s
  | .cvt mode operand => Sys2Proof.Machine.execCvt mode operand s
  | .jmp mode operand => Sys2Proof.Machine.execJmp mode operand s
  | .jmpc mode operand => Sys2Proof.Machine.execJmpc mode operand s
  | .jmpcn mode operand => Sys2Proof.Machine.execJmpcn mode operand s
  | .call mode operand => Sys2Proof.Machine.execCall mode operand s
  | .ret mode operand => Sys2Proof.Machine.execRet mode operand s
  | .sysEnd mode operand => Sys2Proof.Machine.execSysEnd mode operand s
  | .sysCopy mode operand => Sys2Proof.Machine.execSysCopy mode operand s
  | .sysFault mode operand => Sys2Proof.Machine.execSysFault mode operand s
  | .gysClose us => Sys2Proof.Machine.execGysClose us s
  | .journalDurable => Sys2Proof.Machine.execJournalDurable s
  | .journalApplied => Sys2Proof.Machine.execJournalApplied s
  | .cycleDeadline us => Sys2Proof.Machine.execCycleDeadline us s
  | .warmRestart tag => Sys2Proof.Machine.execWarmRestart tag s
  | .coldRestart tag => Sys2Proof.Machine.execColdRestart tag s
  | .gysStop tag => Sys2Proof.Machine.execGysStop tag s
  | .onlineChange tag pauseUs => Sys2Proof.Machine.execOnlineChange tag pauseUs s
  | .callreg k => Sys2Proof.Machine.execCallreg k s
  | .replanningTick => Sys2Proof.Machine.execReplanningTick s
  | .zoneRequestRepeat => Sys2Proof.Machine.execZoneRequestRepeat s
  | .ssiRead fa fb ts => Sys2Proof.Machine.execSsiRead fa fb ts s
  | .incRead count t fault => Sys2Proof.Machine.execIncRead count t fault s
  | .incSignal => Sys2Proof.Machine.execIncSignal s
  | .loadSample lw0 lw1 => Sys2Proof.Machine.execLoadSample lw0 lw1 s
  | .deviceFrame => Sys2Proof.Machine.execDeviceFrame s
  | .inverterFrame bytes coded atUs => Sys2Proof.Machine.execInverterFrame bytes coded atUs s
  | .dlReplyDeadline us => Sys2Proof.Machine.execDlReplyDeadline us s
  | .dlRestored => Sys2Proof.Machine.execDlRestored s
  | .profileRelease => Sys2Proof.Machine.execProfileRelease s
  | .pretorqueRampEnd => Sys2Proof.Machine.execPretorqueRampEnd s
  | .startTimeout => Sys2Proof.Machine.execStartTimeout s
  | .startRefused => Sys2Proof.Machine.execStartRefused s
  | .levelErrorTaken heldMs => Sys2Proof.Machine.execLevelErrorTaken heldMs s
  | .reversalDwellEnd => Sys2Proof.Machine.execReversalDwellEnd s
  | .relevel heldMs => Sys2Proof.Machine.execRelevel heldMs s
  | .learnDone => Sys2Proof.Machine.execLearnDone s
  | .periodStart minor shunts src => Sys2Proof.Machine.execPeriodStart minor shunts src s
  | .slotSample n => Sys2Proof.Machine.execSlotSample n s
  | .slotWrite n => Sys2Proof.Machine.execSlotWrite n s
  | .groupWrite g => Sys2Proof.Machine.execGroupWrite g s
  | .slotEnable n => Sys2Proof.Machine.execSlotEnable n s
  | .slotDisable n => Sys2Proof.Machine.execSlotDisable n s
  | .cleRcSaved u => Sys2Proof.Machine.execCleRcSaved u s
  | .traceArm tag => Sys2Proof.Machine.execTraceArm tag s
  | .traceDisarm tag => Sys2Proof.Machine.execTraceDisarm tag s
  | .traceSample b => Sys2Proof.Machine.execTraceSample b s
  | .sequencerTick ntc0 ntc1 => Sys2Proof.Machine.execSequencerTick ntc0 ntc1 s
  | .currentSample n t obs => Sys2Proof.Machine.execCurrentSample n t obs s
  | .gateUvlo n => Sys2Proof.Machine.execGateUvlo n s
  | .hallRead n code => Sys2Proof.Machine.execHallRead n code s
  | .offsetMeasured n ofsU ofsV heldUs => Sys2Proof.Machine.execOffsetMeasured n ofsU ofsV heldUs s
  | .doorSwitchEdge n => Sys2Proof.Machine.execDoorSwitchEdge n s
  | .doorClosed n => Sys2Proof.Machine.execDoorClosed n s
  | .doorOpened n => Sys2Proof.Machine.execDoorOpened n s
  | .holdDelayExpired n => Sys2Proof.Machine.execHoldDelayExpired n s
  | .doorBoost n => Sys2Proof.Machine.execDoorBoost n s
  | .boostEnd n => Sys2Proof.Machine.execBoostEnd n s
  | .doorProfileSaved n => Sys2Proof.Machine.execDoorProfileSaved n s
  | .windingTemp n => Sys2Proof.Machine.execWindingTemp n s
  | .stall n => Sys2Proof.Machine.execStall n s
  | .sampleTask ch si inc latch fa fb sincos => Sys2Proof.Machine.execSampleTask ch si inc latch fa fb sincos s
  | .safTripSf5 ch => Sys2Proof.Machine.execSafTripSf5 ch s
  | .safTripSf9 ch => Sys2Proof.Machine.execSafTripSf9 ch s
  | .safTripDl ch => Sys2Proof.Machine.execSafTripDl ch s
  | .ssiFrameMissing ch src elapsedUs => Sys2Proof.Machine.execSsiFrameMissing ch src elapsedUs s
  | .safetyCycle ch recOk diag nodes => Sys2Proof.Machine.execSafetyCycle ch recOk diag nodes s
  | .safetyInputChange ch n => Sys2Proof.Machine.execSafetyInputChange ch n s
  | .safContactor => Sys2Proof.Machine.execSafContactor s
  | .switchTest ch k high low mA => Sys2Proof.Machine.execSwitchTest ch k high low mA s
  | .stuckSwitchLockout => Sys2Proof.Machine.execStuckSwitchLockout s
  | .brakeTestStart => Sys2Proof.Machine.execBrakeTestStart s
  | .brakeTestStep => Sys2Proof.Machine.execBrakeTestStep s
  | .resetRelease => Sys2Proof.Machine.execResetRelease s
  | .resetStuck => Sys2Proof.Machine.execResetStuck s
  | .resetDiscrepancy => Sys2Proof.Machine.execResetDiscrepancy s
  | .neighbourLostSafety ch up => Sys2Proof.Machine.execNeighbourLostSafety ch up s
  | .filteredEdge n count at_ => Sys2Proof.Machine.execFilteredEdge n count at_ s
  | .fioTick raw nodes lim mA => Sys2Proof.Machine.execFioTick raw nodes lim mA s
  | .backfeedProbe nodes => Sys2Proof.Machine.execBackfeedProbe nodes s
  | .fioFaultCleared n => Sys2Proof.Machine.execFioFaultCleared n s
  | .fioLimiting n => Sys2Proof.Machine.execFioLimiting n s
  | .fioThermal n => Sys2Proof.Machine.execFioThermal n s
  | .thermalRetry n cool => Sys2Proof.Machine.execThermalRetry n cool s
  | .fioAggHigh => Sys2Proof.Machine.execFioAggHigh s
  | .fioShed => Sys2Proof.Machine.execFioShed s
  | .canFrameReceived b id base bytes copying => Sys2Proof.Machine.execCanFrameReceived b id base bytes copying s
  | .canFrameSent b j tdcNs => Sys2Proof.Machine.execCanFrameSent b j tdcNs s
  | .failedAttempt b j ack dominant tdcNs => Sys2Proof.Machine.execFailedAttempt b j ack dominant tdcNs s
  | .canBusOn b recessive => Sys2Proof.Machine.execCanBusOn b recessive s
  | .canCancel tag => Sys2Proof.Machine.execCanCancel tag s
  | .canDisable tag => Sys2Proof.Machine.execCanDisable tag s
  | .refreshSend b j => Sys2Proof.Machine.execRefreshSend b j s
  | .stationHeartbeat b n bytes => Sys2Proof.Machine.execStationHeartbeat b n bytes s
  | .canStationLost b n => Sys2Proof.Machine.execCanStationLost b n s
  | .canEmergency b n bytes => Sys2Proof.Machine.execCanEmergency b n bytes s
  | .controllerHeartbeat b => Sys2Proof.Machine.execControllerHeartbeat b s
  | .frameForward port bytes fcs residence => Sys2Proof.Machine.execFrameForward port bytes fcs residence s
  | .summary => Sys2Proof.Machine.execSummary s
  | .summarySend => Sys2Proof.Machine.execSummarySend s
  | .peerLost addr => Sys2Proof.Machine.execPeerLost addr s
  | .rngLinkDown port silentUs => Sys2Proof.Machine.execRngLinkDown port silentUs s
  | .rngLinkUp port amp => Sys2Proof.Machine.execRngLinkUp port amp s
  | .controlOnlyTimeout port => Sys2Proof.Machine.execControlOnlyTimeout port s
  | .ringTest => Sys2Proof.Machine.execRingTest s
  | .testReturned => Sys2Proof.Machine.execTestReturned s
  | .testLoss => Sys2Proof.Machine.execTestLoss s
  | .linkDown => Sys2Proof.Machine.execLinkDown s
  | .ringClosed => Sys2Proof.Machine.execRingClosed s
  | .rngManager => Sys2Proof.Machine.execRngManager s
  | .syncSend => Sys2Proof.Machine.execSyncSend s
  | .ringSync => Sys2Proof.Machine.execRingSync s
  | .rngTimeLost => Sys2Proof.Machine.execRngTimeLost s
  | .rngMasterChange => Sys2Proof.Machine.execRngMasterChange s
  | .delayRequest port => Sys2Proof.Machine.execDelayRequest port s
  | .delayResponse => Sys2Proof.Machine.execDelayResponse s
  | .ringAdvance => Sys2Proof.Machine.execRingAdvance s
  | .ringTimeStore => Sys2Proof.Machine.execRingTimeStore s
  | .syncoutPulse => Sys2Proof.Machine.execSyncoutPulse s
  | .syncinEdge => Sys2Proof.Machine.execSyncinEdge s
  | .ringWake => Sys2Proof.Machine.execRingWake s
  | .bidReq => Sys2Proof.Machine.execBidReq s
  | .ringBid => Sys2Proof.Machine.execRingBid s
  | .bidWindowClose num => Sys2Proof.Machine.execBidWindowClose num s
  | .auctionRetry num => Sys2Proof.Machine.execAuctionRetry num s
  | .callDone => Sys2Proof.Machine.execCallDone s
  | .trainNotice => Sys2Proof.Machine.execTrainNotice s
  | .surgeWindowEnd src id => Sys2Proof.Machine.execSurgeWindowEnd src id s
  | .boarded => Sys2Proof.Machine.execBoarded s
  | .ratioUpdate src id => Sys2Proof.Machine.execRatioUpdate src id s
  | .ratioStore => Sys2Proof.Machine.execRatioStore s
  | .predrst tag => Sys2Proof.Machine.execPredrst tag s
  | .dspPreposition src id => Sys2Proof.Machine.execDspPreposition src id s
  | .preholdEnd src id left => Sys2Proof.Machine.execPreholdEnd src id left s
  | .dspLocalService heldMs => Sys2Proof.Machine.execDspLocalService heldMs s
  | .dspRejoined heldS => Sys2Proof.Machine.execDspRejoined heldS s
  | .neighbourFrameSend up => Sys2Proof.Machine.execNeighbourFrameSend up s
  | .neighbourFrame up bytes coded gapUs => Sys2Proof.Machine.execNeighbourFrame up bytes coded gapUs s
  | .shfLinkLost up us => Sys2Proof.Machine.execShfLinkLost up us s
  | .shfLinkRestored up => Sys2Proof.Machine.execShfLinkRestored up s
  | .messageRepeat up => Sys2Proof.Machine.execMessageRepeat up s
  | .handoverTimeout => Sys2Proof.Machine.execHandoverTimeout s
  | .zoneWrite tag => Sys2Proof.Machine.execZoneWrite tag s
  | .eventRaised code sev inst data => Sys2Proof.Machine.execEventRaised code sev inst data s
  | .recordWrite => Sys2Proof.Machine.execRecordWrite s
  | .repeatWindowClose seq => Sys2Proof.Machine.execRepeatWindowClose seq s
  | .streamDescriptorClose k => Sys2Proof.Machine.execStreamDescriptorClose k s
  | .tphClear tag => Sys2Proof.Machine.execTphClear tag s
  | .rtcSecond => Sys2Proof.Machine.execRtcSecond s
  | .trimWindow ppm goodS => Sys2Proof.Machine.execTrimWindow ppm goodS s
  | .vinOvClear mV heldUs => Sys2Proof.Machine.execVinOvClear mV heldUs s
  | .tempHighClear tdie => Sys2Proof.Machine.execTempHighClear tdie s
  | .vcellFail cellmV => Sys2Proof.Machine.execVcellFail cellmV s
  | .operatingTimeStore => Sys2Proof.Machine.execOperatingTimeStore s
  | .compareLoad n => Sys2Proof.Machine.execCompareLoad n s
  | .arbitration b won => Sys2Proof.Machine.execArbitration b won s
  | .challengeExpired ring a => Sys2Proof.Machine.execChallengeExpired ring a s
  | .authBusyEnd ring a => Sys2Proof.Machine.execAuthBusyEnd ring a s
  | .swapGapReached => Sys2Proof.Machine.execSwapGapReached s
  | .tapInstruction ir => Sys2Proof.Machine.execTapInstruction ir s

end Sys2Proof.Machine
end

