-- ==== Sys2Proof/Safety.lean ====
section
/-!
DEFINITION. What a safe run is, and the words the statements use: the shape of the state, the calendar, the memories,
a command that may be carried out, its one completion, a recorded event, parameters left alone.
-/
namespace Sys2Proof.Machine

/-! ## Invariants -/

/-- Every fixed number of things the spec gives the device is there: 8 host slots and 64 tags (05 R90, R107), 8 groups
(07 R141), 4 streams (05 Table HOST-2), 12 acknowledgements and requests (08 Table GYS-10), 16 Caldera slots and 4 units and
traces (10 R238, R254, R261), 48 field channels (13), 64 stations and 128 objects on each bus (14 R353, R367). -/
structure State.Shape (s : State) : Prop where
  slots : s.host.slots.length = 8
  gens : s.host.gens.length = 64
  groups : s.grp.groups.length = 8
  streams : s.tph.streams.length = 4
  acks : s.gys.acks.length = 12
  reqs : s.gys.reqs.length = 12
  caldera : s.cle.slots.length = 16
  seen : s.cle.seen.length = 16
  units : s.cle.units.length = 4
  traces : s.cle.traces.length = 4
  field : s.fio.ch.length = 48
  stns0 : s.can0.stns.length = 64
  objs0 : s.can0.objs.length = 128
  stns1 : s.can1.stns.length = 64
  objs1 : s.can1.objs.length = 128

/-- The calendar holds a possible date and time, and the sub-second count lies in 0–32,767 (18 R447, R451). -/
structure State.CalendarLegal (s : State) : Prop where
  valid : s.rtc.cal.valid = true
  sub : s.rtc.sub < 32768

/-- Every byte memory of the device is in its canonical form: Geyser's data space, its retained image and its journals (08 R163, R175,
R180), the firmware slots (19 R474), the table objects' bodies, durable bodies and staging copies (06 R130, R133). -/
structure State.MemoriesWf (s : State) : Prop where
  data : memWf zeroByte s.gys.mem = true
  retained : memWf zeroByte s.gys.retained = true
  journals : ∀ j ∈ s.gys.journals, memWf zeroByte j.image = true
  firmware : ∀ x ∈ s.sec.fw, memWf zeroByte x.bytes = true
  bodies : ∀ x ∈ s.dir.tables, memWf (tableByte x.id) x.body = true ∧ memWf (tableByte x.id) x.durable = true
  claims : ∀ x ∈ s.dir.tables, ∀ c, x.claim = some c → memWf (tableByte x.id) c.body = true

/-! ## Words of the statements -/

/-- A command of this opcode, taken under `tag`, is the next of its queue to be carried out and passes the admission for
privilege `need` (05 R91, R96, R104). -/
def State.Admitted (s : State) (tag op need : Nat) : Prop :=
  s.hostReady tag op = true ∧ s.admission (s.flight tag) need = none

/-- The command of `tag` has its one completion, with status `st`, in the completion store, and is no longer in flight
(05 R108). -/
def State.Completed (s t : State) (tag : Nat) (st : Status) : Prop :=
  (∃ d, t.host.store = s.host.store ++ [((s.flight tag).slot, d)] ∧ d.tag = tag ∧ d.status = st.code) ∧
    ∀ f ∈ t.host.ops, f.d.tag ≠ tag

/-- An event of this severity is recorded: TPH.RECSEV lets it through (17 R430) and the LMP formats records. -/
def State.Heard (s : State) (sev : Nat) : Prop := s.par Idx.TPH_RECSEV ≤ sev ∧ s.buffering = false

/-- Among the events raised from `s` to `t` is one of this code, severity and instance. -/
def State.Records (s t : State) (code sev inst : Nat) : Prop :=
  s.Heard sev →
    ∃ before e after, t.tph.queue = s.tph.queue ++ (before ++ e :: after) ∧ e.code = code ∧ e.sev = sev ∧ e.inst = inst

/-- Every parameter but the listed ones keeps its value. -/
def State.ParsKept (s t : State) (is : List Nat) : Prop := ∀ i, i ∉ is → t.par i = s.par i

/-- The recorder keeps everything but the events that wait to be formatted. -/
def State.RecorderKept (s t : State) : Prop :=
  t.tph = { s.tph with queue := t.tph.queue, bufLost := t.tph.bufLost } ∧ s.tph.queue <+: t.tph.queue

/-- The parameters and tables keep everything but the values and versions of parameters. -/
def State.TablesKept (s t : State) : Prop := t.dir = { s.dir with live := t.dir.live, durable := t.dir.durable }

/-- Beside the blocks that a frame names, only events were raised: of the parameters only the listed ones, and the count of events
that a full buffer loses, can have changed, no table, and of the recorder only the waiting events. -/
def State.EventsOnly (s t : State) (is : List Nat) : Prop :=
  s.ParsKept t (Idx.TPH_BUFDROPS :: is) ∧ s.TablesKept t ∧ s.RecorderKept t

/-- The engine executes this instruction, which lies inside the code (08 R165, R171). -/
def State.Executes (s : State) (op mode operand : Nat) : Prop := s.gysAt op mode operand = true ∧ s.gys.pc < s.codeLen

/-- The program counter after an instruction that does not jump. -/
def State.pcNext (s : State) : Nat := (s.gys.pc + 1) % 2 ^ 17

/-- The device has entered LOCKOUT for an item of Table SAF-8: every safety switch is open (12 R317; 02 R36). -/
def State.LockedOut (s t : State) (item : Nat) : Prop :=
  t.pwr.state = .lockout ∧ t.pwr.lockoutCause = 0x0910 ∧ t.saf.running = false ∧ t.saf.chA.sw = 0 ∧ t.saf.chB.sw = 0 ∧
    t.par Idx.SAF_LOCKCAUSE = item ∧ s.Records t 0x0910 7 0xFF

/-- Neither channel holds this cause yet. -/
def State.CauseNew (s : State) (bit : Nat) : Prop :=
  ∀ isA, (s.chan isA).own.testBit bit = false ∧ (s.chan isA).active.testBit bit = false

/-- A channel has tripped on a new cause: its switches are open, it holds the cause, HST is in FAULT without a run, and a device in
RUN is in TRIPPED (12 R300, R319; 02 R39). -/
def State.Trips (s t : State) (isA : Bool) (bit : Nat) : Prop :=
  (t.chan isA).sw = 0 ∧ (t.chan isA).own = setBit (s.chan isA).own bit true ∧
    (t.chan isA).active = setBit (s.chan isA).active bit true ∧ t.chan (!isA) = s.chan (!isA) ∧
    t.par Idx.SAF_LASTTRIP = tripEvent bit ∧ t.hst.st = .fault ∧ t.hst.runReq = false ∧ t.hst.liftReq = false ∧
    t.hst.enable = false ∧ (s.pwr.state = .run → t.pwr.state = .tripped) ∧ s.Records t (tripEvent bit) 6 0xFF

/-- From `s` to `t` the device, with an address that is not duplicated, has handed one frame of its own to its ports, with its next
sequence number and its tag (15 R374, R376). -/
def State.Sends (s t : State) (cls kind dest : Nat) (body : List Byte) (port : Nat) : Prop :=
  ∀ me, s.addr = some me → s.rng.enabled = true → s.rng.dup = false →
    ∃ f, t.rng.out = s.rng.out ++ [f] ∧ f.cls = cls ∧ f.src = me ∧ f.kind = kind ∧ f.dest = dest ∧ f.body = body ∧ f.port = port ∧
      f.seq = (s.rng.seq + 1) % 2 ^ 32 ∧ f.time = s.rng.time % 2 ^ 32 ∧
      f.tag = f.tagOf (s.parN Idx.RNG_DOMAIN) (s.sec.domain.getD 0)

/-- The same where the record format in use may follow its master as well (17 R440). -/
def State.EventsOnlyFmt (s t : State) : Prop :=
  s.ParsKept t [Idx.TPH_BUFDROPS] ∧ s.TablesKept t ∧
    t.tph = { s.tph with queue := t.tph.queue, bufLost := t.tph.bufLost, fmtUse := t.tph.fmtUse } ∧ s.tph.queue <+: t.tph.queue

/-- The fast domain is lost (02 R31, R35, R52): the device is in AON with PWR.LASTAON `last`, the durable parameters and tables are live, the
blocks that keep nothing are as after reset, and keys and stored records stay. -/
def State.FastLost (s t : State) (last : Nat) : Prop :=
  t.pwr.state = .aon ∧ t.par Idx.PWR_LASTAON = last ∧ t.dir.live = t.dir.durable ∧
    (∀ x ∈ t.dir.tables, x.body = x.durable ∧ x.claim = none) ∧ t.host = {} ∧ t.lmp = {} ∧ t.grp = {} ∧ t.cle = {} ∧ t.dr0 = {} ∧
    t.dr1 = {} ∧ t.saf = {} ∧ t.fio = {} ∧ t.can0 = {} ∧ t.can1 = {} ∧ t.shf = {} ∧ t.tph.queue = [] ∧ t.tph.last = s.tph.last ∧
    t.sec.owner = s.sec.owner ∧ t.sec.domain = s.sec.domain ∧ t.sec.active = s.sec.active ∧ t.rtc.cal = s.rtc.cal ∧
    t.rtc.set = s.rtc.set ∧ t.pending = s.pending

end Sys2Proof.Machine
end

