-- ==== Sys2Proof/Certificates/Slice0/Obligations.lean ====
section
/-!
DEFINITION. The statements, in the order of OBLIGATIONS.json. Each says of every row it names that the command completes (exec
answers a next state), what that state holds, and what it leaves as it was. Hypotheses on list lengths follow from
State.Shape, an invariant stated here.
-/
open Sys2Proof Sys2Proof.Machine

/-- A step takes the command at the front of the queue and runs it with the queue's rest; with no command one millisecond passes
(log 4). -/
def Obligations.StepRunsTheFrontCommand : Prop :=
  (∀ (c : Instr) (cs : List Instr) (s : State), step { s with pending := c :: cs } = exec c { s with pending := cs }) ∧
  (∀ s : State, s.pending = [] → step s = .next s.idle)

/-- STATUS, GET, PUT and PUSH_REPEAT of a served port that does not wake the device: STATUS and GET leave their answer at the port
and nothing else; a PUT that entry accepts takes the tag free longest with its next generation into the queue named; a PUT refused
at entry changes only the answer; an unreleased PUSH is sent again 100 ms after the last. The order of a PUT's entry checks is the
model's (log 15). -/
def Obligations.HostTransactionsAnswer : Prop :=
  (∀ (s : State) (h crc : Nat), h < s.host.slots.length → s.portServed h = true → s.portWakes h = false →
    (3 ≤ h ∨ crc = crc32 [1, 0, 0, 0]) →
    ∃ t, exec (.status h crc) s = .next t ∧ t = { s with host.slots := t.host.slots } ∧
      t.slot h = { s.slot h with answer := s.statusBlock h, flagsSeen := s.statusFlags h } ∧
      (∀ k, k ≠ h → t.slot k = s.slot k)) ∧
  (∀ (s : State) (h queue : Nat), h < s.host.slots.length → h < 3 → s.portServed h = true → s.portWakes h = false →
    ∃ t, exec (.get h queue (crc32 [3, BitVec.ofNat 8 queue, 0, 0])) s = .next t ∧
      t = { s with host.slots := t.host.slots } ∧
      t.slot h = { s.slot h with answerDesc := some (s.getHead h queue) } ∧ (∀ k, k ≠ h → t.slot k = s.slot k)) ∧
  (∀ (s : State) (h : Nat) (bytes : List Byte) (tseq tag : Nat) (rest : List Nat), h < s.host.slots.length → h < 3 →
    s.portServed h = true → s.portWakes h = false → s.entryRefusal h (2 * h) bytes = none →
    s.host.freeTags = tag :: rest →
    ∃ t, exec (.put h (2 * h) bytes (crc32 ([2, BitVec.ofNat 8 (2 * h), 0, 0] ++ bytes)) tseq) s = .next t ∧
      t = { s with host.slots := t.host.slots, host.freeTags := rest, host.gens := t.host.gens } ∧
      t.host.gens = s.host.gens.set tag ((s.host.gens.getD tag 0 + 1) % 1024) ∧
      (∃ f, (t.slot h).nq = (s.slot h).nq ++ [f] ∧ f.slot = h ∧ f.d.tag = tag ∧
        f.d.gen = (s.host.gens.getD tag 0 + 1) % 1024 ∧ f.d.opcode = getU bytes 0 1) ∧
      (t.slot h).uq = (s.slot h).uq ∧ (t.slot h).cq = (s.slot h).cq ∧ (∀ k, k ≠ h → t.slot k = s.slot k)) ∧
  (∀ (s : State) (h queue : Nat) (bytes : List Byte) (tseq : Nat) (st : Status), h < s.host.slots.length → h < 3 →
    s.portServed h = true → s.portWakes h = false → s.entryRefusal h queue bytes = some st →
    ∃ t, exec (.put h queue bytes (crc32 ([2, BitVec.ofNat 8 queue, 0, 0] ++ bytes)) tseq) s = .next t ∧
      t = { s with host.slots := t.host.slots } ∧ t.slot h = { s.slot h with answer := (t.slot h).answer } ∧
      (∀ k, k ≠ h → t.slot k = s.slot k)) ∧
  (∀ (s : State) (h at_ : Nat), h < s.host.slots.length → 3 ≤ h → s.portServed h = true → (s.slot h).cq ≠ [] →
    (s.slot h).pushAt = some at_ → at_ + 100 ≤ s.pwr.opTime →
    ∃ t, exec (.pushRepeat h) s = .next t ∧ t = { s with host.slots := t.host.slots } ∧
      t.slot h = { s.slot h with pushAt := some s.pwr.opTime } ∧ (∀ k, k ≠ h → t.slot k = s.slot k))

/-- RELEASE removes the count from the head of the host's completion queue; a transaction cut short is counted in HOST.PORTERR and
has no other effect; the oldest waiting completion moves into its slot's queue when there is room, with the next sequence number,
and its tag is freed; a NOP completes OK. HOST_OVERLOAD and its end set and clear OVERLOAD, write HOST.LOAD and record their
event. That an event whose condition fails changes nothing, and that the busy fraction is an operand, is the model's choice (log
3, 5). -/
def Obligations.HostQueuesMoveAndOverload : Prop :=
  (∀ (s : State) (h count : Nat), h < s.host.slots.length → h < 3 → s.portServed h = true → s.portWakes h = false →
    1 ≤ count → count ≤ 8 → count ≤ (s.slot h).cq.length →
    ∃ t, exec (.release h (16 + h) count (crc32 [4, BitVec.ofNat 8 (16 + h), BitVec.ofNat 8 count, 0])) s = .next t ∧
      t = { s with host.slots := t.host.slots } ∧ (t.slot h).cq = (s.slot h).cq.drop count ∧
      (t.slot h).nq = (s.slot h).nq ∧ (t.slot h).uq = (s.slot h).uq ∧ (∀ k, k ≠ h → t.slot k = s.slot k)) ∧
  (∀ (s : State) (h : Nat), h < 2 → s.portServed h = true → s.par Idx.HOST_PORTERR < 2 ^ 32 - 1 →
    ∃ t, exec (.transactionCutShort h) s = .next t ∧ t = { s with dir := t.dir } ∧ s.TablesKept t ∧
      t.par Idx.HOST_PORTERR = s.par Idx.HOST_PORTERR + 1 ∧ s.ParsKept t [Idx.HOST_PORTERR]) ∧
  (∀ (s : State) (h : Nat) (d : Desc), h < s.host.slots.length → s.waitingFor h = some d → (s.slot h).cq.length < 8 →
    (h < 3 ∨ (s.slot h).ringHost.isSome = true) →
    ∃ t, exec (.completionQueued h) s = .next t ∧ t = { s with host := t.host } ∧
      t.host.freeTags = s.host.freeTags ++ [d.tag] ∧ t.host.store = dropFirst h s.host.store ∧
      (∃ e, (t.slot h).cq = (s.slot h).cq ++ [e] ∧ e.tag = d.tag ∧ e.status = d.status ∧ e.payload = d.payload ∧
        e.seq = ((s.slot h).cseq + 1) % 2 ^ 32) ∧
      (∀ k, k ≠ h → t.slot k = s.slot k)) ∧
  (∀ (s : State) (tag : Nat), s.Admitted tag 0x00 0 →
    ∃ t, exec (.hostNop tag) s = .next t ∧ t = { s with host := t.host } ∧ s.Completed t tag .ok) ∧
  (∀ (s : State) (load : Nat), s.lmpServes = true → s.host.overload = false → 850 < load →
    ∃ t, exec (.hostOverload load) s = .next t ∧ t.host = { s.host with overload := true } ∧
      t.par Idx.HOST_LOAD = load ∧ s.ParsKept t [Idx.HOST_LOAD, Idx.HOST_LOADPEAK, Idx.HOST_OVLCOUNT, Idx.TPH_BUFDROPS] ∧
      s.Records t 0x0201 3 0xFF ∧ t = { s with host := t.host, dir := t.dir, tph := t.tph } ∧ s.TablesKept t ∧
      s.RecorderKept t) ∧
  (∀ (s : State) (load heldMs : Nat), s.lmpServes = true → s.host.overload = true → load ≤ 750 → 100 ≤ heldMs →
    ∃ t, exec (.hostOverloadEnd load heldMs) s = .next t ∧ t.host = { s.host with overload := false } ∧
      t.par Idx.HOST_LOAD = load ∧ s.ParsKept t [Idx.HOST_LOAD, Idx.TPH_BUFDROPS] ∧ s.Records t 0x0202 2 0xFF ∧
      t = { s with host := t.host, dir := t.dir, tph := t.tph } ∧ s.TablesKept t ∧ s.RecorderKept t)

/-- An ABORT of an operation not yet at its commit point writes the target's completion ABORTED before its own OK; a deadline that
passes before the commit point completes the command TIMEOUT with no effect; SESSION_CLOSE, an expired session and an idle ring
slot close the slot: no session, no staged table, no ring host is left in it. A host command is named by the tag of its taken
descriptor (log 6). -/
def Obligations.HostCommandsEnd : Prop :=
  (∀ (s : State) (tag : Nat) (x : Flight), s.Admitted tag 0x7F 1 →
    (s.noteSeq (s.flight tag)).inFlight (getU (s.flight tag).p 0 2 % 64) (getU (s.flight tag).p 0 2 / 64) = some x →
    x.slot = (s.flight tag).slot → x.d.opcode ≠ 0x7F → x.phase = .taken →
    ∃ t, exec (.hostAbort tag) s = .next t ∧ t = { s with host := t.host } ∧
      ∃ d e, t.host.store = s.host.store ++ [(x.slot, d), ((s.flight tag).slot, e)] ∧ d.tag = x.d.tag ∧
        d.status = Status.aborted.code ∧ e.tag = tag ∧ e.status = Status.ok.code) ∧
  (∀ (s : State) (tag : Nat) (f : Flight), s.lmpServes = true → s.inFlight tag (s.host.gens.getD tag 0) = some f →
    f.phase = .taken → f.d.detail ≠ 0 → f.entered + f.d.detail ≤ s.pwr.opTime →
    ∃ t, exec (.deadlineTimeout tag) s = .next t ∧ t = { s with host := t.host } ∧
      ∃ d, t.host.store = s.host.store ++ [(f.slot, d)] ∧ d.tag = f.d.tag ∧ d.status = Status.timeout.code) ∧
  (∀ (s : State) (tag : Nat), (s.flight tag).slot < s.host.slots.length → s.Admitted tag 0x42 0 →
    ∃ t, exec (.sessionClose tag) s = .next t ∧ (t.slot (s.flight tag).slot).session = none ∧
      (t.slot (s.flight tag).slot).stage = [] ∧ (t.slot (s.flight tag).slot).ringHost = none ∧
      t = { s with host := t.host, dir := t.dir, grp := t.grp, saf := t.saf, tph := t.tph, sec := t.sec }) ∧
  (∀ (s : State) (h : Nat) (x : Session), h < s.host.slots.length → s.opCounts = true → (s.slot h).session = some x →
    x.opened + s.parN Idx.SEC_SESSLIFE * 60000 ≤ s.pwr.opTime →
    ∃ t, exec (.sessionExpired h) s = .next t ∧ (t.slot h).session = none ∧ (t.slot h).sessionLost = true ∧
      t = { s with host := t.host, dir := t.dir, grp := t.grp, saf := t.saf, tph := t.tph, sec := t.sec }) ∧
  (∀ (s : State) (h : Nat), h < s.host.slots.length → s.lmpServes = true → 3 ≤ h → (s.slot h).ringHost.isSome = true →
    (s.slot h).lastDesc + s.parN Idx.HOST_RINGIDLE * 1000 ≤ s.pwr.opTime →
    ∃ t, exec (.ringSlotIdle h) s = .next t ∧ (t.slot h).ringHost = none ∧ (t.slot h).session = none ∧
      t = { s with host := t.host, dir := t.dir, grp := t.grp, saf := t.saf, tph := t.tph, sec := t.sec })

/-- The LMP's tick writes HOST.LOAD and takes every urgent descriptor; a fault of the LMP withdraws the device from dispatch and
holds the LMP in reset, and nothing else (outside a firmware trial or switch); its restart lets it run again; 60 s without a
further fault rejoin dispatch. A parity error whose repeat succeeded and a corrected memory word are recorded under the detecting
block's source ID and change nothing else; a test access instruction accepted in the running states becomes the port's
instruction. How many normal descriptors a tick takes is the model's (log 16), and so is a TAP instruction's number (log 32). -/
def Obligations.LmpRestartsAndIntegrityIsRecorded : Prop :=
  (∀ (s : State) (load : Nat), s.lmpServes = true →
    ∃ t, exec (.lmpTick load) s = .next t ∧ (∀ x ∈ t.host.slots, x.uq = []) ∧ t.pwr = s.pwr ∧ t.cle = s.cle ∧
      t.saf = s.saf ∧ t.fio = s.fio ∧ t.rtc = s.rtc ∧
      (s.pwr.state ≠ .lockout → t.gys = s.gys ∧ t.hst = s.hst ∧ t.dr0 = s.dr0 ∧ t.dr1 = s.dr1) ∧
      (s.pwr.state = .lockout → ∀ f ∈ t.host.ops, f.phase ≠ .moveWait ∧ f.phase ≠ .stopWait ∧ f.phase ≠ .learnWait ∧
        f.phase ≠ .doorWait ∧ f.phase ≠ .varWrite ∧ f.phase ≠ .forceWrite)) ∧
  (∀ (s : State) (cause : Nat), s.lmpRuns = true → cause ≤ 2 → s.sec.fwStat ≠ 3 →
    (∀ f ∈ s.host.ops, f.phase ≠ .switching) →
    ∃ t, exec (.lmpFault cause) s = .next t ∧ t.lmp.restarting = true ∧ t.lmp.withdrawn = true ∧ t.lmp.cause = cause ∧
      t = { s with lmp := t.lmp, host.lmpRestart := true, tph.bufLost := 0 }) ∧
  (∀ s : State, s.lmp.restarting = true → s.opCounts = true →
    ∃ t, exec .lmpRestart s = .next t ∧ t.lmp = { s.lmp with restarting := false }) ∧
  (∀ s : State, s.lmp.withdrawn = true → s.lmp.restarting = false → s.lmp.keptOut = false → s.engines = true →
    (∀ t ∈ s.lmp.faults, t + 60000 ≤ s.pwr.opTime) →
    ∃ t, exec .lmpRejoinDispatch s = .next t ∧ t = { s with lmp.withdrawn := false }) ∧
  (∀ (s : State) (source path tag slot : Nat), s.opCounts = true → sourceId source = true → source ≠ 9 →
    ∃ t, exec (.pathParity source path true tag slot) s = .next t ∧ s.Records t (source * 256 + 0xF0) 3 0xFF ∧
      t = { s with dir := t.dir, tph := t.tph } ∧ s.ParsKept t [Idx.TPH_BUFDROPS] ∧ s.TablesKept t ∧ s.RecorderKept t) ∧
  (∀ (s : State) (source addr kind bit : Nat), s.opCounts = true → sourceId source = true → kind ≤ 1 →
    ∃ t, exec (.scrub source addr kind bit false) s = .next t ∧ s.Records t (source * 256 + 0xF1) 2 0xFF ∧
      t = { s with dir := t.dir, tph := t.tph } ∧ s.ParsKept t [Idx.TPH_BUFDROPS] ∧ s.TablesKept t ∧ s.RecorderKept t) ∧
  (∀ (s : State) (ir : Nat), s.opCounts = true → s.pwr.state ≠ .start → ir ≤ 1 →
    ∃ t, exec (.tapInstruction ir) s = .next t ∧ t = { s with pwr.tapIr := ir })

/-- A directory command that passes its checks: PARAM_READ returns an entry for each of its 1 to 20 indices, DEV_INFO its 64
bytes, and neither changes anything but the host block; a PARAM_WRITE that passes the checks of R123 waits for its owner's
boundary with nothing applied yet. PARAM_APPLY of an accepted write of a configuration parameter gives it its value and raises its
version by one, modulo 2^32, and the write then awaits durability; PARAM_DURABLE puts value and version into MRAM and completes
the write OK; DEV_RESTORE gives every parameter of the block that it reaches its default. The two times at which R123's last
checks run are the model's (log 23). -/
def Obligations.ParametersAreReadAndWritten : Prop :=
  (∀ (s : State) (tag : Nat), s.Admitted tag 0x02 0 → 1 ≤ getU (s.flight tag).p 0 2 → getU (s.flight tag).p 0 2 ≤ 20 →
    (∀ k < getU (s.flight tag).p 0 2,
      ((s.noteSeq (s.flight tag)).readEntry (getU (s.flight tag).p (2 + 2 * k) 2)).2 = .ok) →
    ∃ t, exec (.paramRead tag) s = .next t ∧ t = { s with host := t.host } ∧ s.Completed t tag .ok ∧
      ∃ d, t.host.store = s.host.store ++ [((s.flight tag).slot, d)] ∧ d.payload =
        (List.range (getU (s.flight tag).p 0 2)).flatMap fun k =>
          ((s.noteSeq (s.flight tag)).readEntry (getU (s.flight tag).p (2 + 2 * k) 2)).1) ∧
  (∀ (s : State) (tag : Nat), s.Admitted tag 0x01 0 →
    ∃ t, exec (.devInfo tag) s = .next t ∧ t = { s with host := t.host } ∧ s.Completed t tag .ok ∧
      ∃ d, t.host.store = s.host.store ++ [((s.flight tag).slot, d)] ∧ d.payload.length = 64) ∧
  (∀ (s : State) (tag : Nat), s.Admitted tag 0x03 0 → commandIdx s (s.flight tag) = false →
    (s.noteSeq (s.flight tag)).writeRefused (s.flight tag) = none →
    (s.noteSeq (s.flight tag)).writeWaits (s.flight tag) (s.flight tag).widx = false →
    ∃ t, exec (.paramWrite tag) s = .next t ∧ t = { s with host := t.host } ∧ t.host.store = s.host.store ∧
      (t.flight tag).phase = .paramApply (s.flight tag).widx (s.flight tag).wval) ∧
  (∀ (s : State) (tag idx : Nat) (v : Int) (f : Flight), s.flight? tag = some f → f.phase = .paramApply idx v →
    s.writeWaits f idx = false → s.clearsCan f = false → s.groupHolds idx = false → s.crossRange idx v = true →
    s.writeOwner f = none → isConfig idx = true →
    ∃ t, exec (.paramApply tag) s = .next t ∧ t.par idx = v ∧ t.parVer idx = (s.parVer idx + 1) % 2 ^ 32 ∧
      (t.flight tag).phase = .paramDurable idx v ((s.parVer idx + 1) % 2 ^ 32)) ∧
  (∀ (s : State) (tag idx ver : Nat) (v : Int) (f : Flight), s.flight? tag = some f → f.phase = .paramDurable idx v ver →
    s.durableWaits f idx = false → s.opCounts = true → idx ≠ Idx.DEV_CFGCOUNT →
    ∃ t, exec (.paramDurable tag) s = .next t ∧ pvFind t.dir.durable idx = some ⟨idx, storedValue idx v, ver⟩ ∧
      s.Completed t tag .ok ∧ t = { s with host := t.host, dir := t.dir, pwr := t.pwr, tph := t.tph, sec := t.sec }) ∧
  (∀ (s : State) (tag : Nat), s.Admitted tag 0x03 0 → (s.flight tag).widx = Idx.DEV_RESTORE →
    (s.noteSeq (s.flight tag)).writeForm (s.flight tag) = none →
    (s.noteSeq (s.flight tag)).restoreRefused (s.flight tag).wval.toNat = none →
    (s.noteSeq (s.flight tag)).writeOwner (s.flight tag) = none →
    ∃ t, exec (.devRestore tag) s = .next t ∧
      (∀ r ∈ blockRanges, r.1 = (s.flight tag).wval.toNat →
        ∀ i ∈ restored r.1 r.2 ((s.noteSeq (s.flight tag)).privOf (s.flight tag).slot), t.par i = pvDefault i) ∧
      (∃ d, t.host.store.getLast? = some ((s.flight tag).slot, d) ∧ d.tag = tag ∧
      d.status = Status.ok.code))

/-- TABLE_READ returns the header and the bytes and changes nothing but the host block; TABLE_WRITE of its claimed copy stores its
bytes there and leaves every other table; DISCARD releases the claim; TABLE_ACTIVATE whose checks pass waits for the owner's
boundary; the switch raises the version by one, releases the claim and marks a host activation; durability makes the active body
the one START loads and completes the command OK. Unlisted bytes of a body read as log 11 says, and the statuses of log 24 are the
model's. -/
def Obligations.TablesStageAndSwitch : Prop :=
  (∀ (s : State) (tag len : Nat), s.Admitted tag 0x04 0 → tableLen (getU (s.flight tag).p 0 2) = some len →
    getU (s.flight tag).p 2 1 = 0 → 1 ≤ getU (s.flight tag).p 8 2 → getU (s.flight tag).p 8 2 ≤ 448 →
    getU (s.flight tag).p 4 4 + getU (s.flight tag).p 8 2 ≤ len →
    ∃ t, exec (.tableRead tag) s = .next t ∧ t = { s with host := t.host } ∧ s.Completed t tag .ok) ∧
  (∀ (s : State) (tag len : Nat), s.Admitted tag 0x05 2 → (s.flight tag).tflag 0 = false → (s.flight tag).tflag 1 = false →
    tableLen (getU (s.flight tag).p 0 2) = some len → isBank (getU (s.flight tag).p 0 2) = false →
    s.claims (getU (s.flight tag).p 0 2) (s.flight tag).slot = true →
    1 ≤ getU (s.flight tag).p 8 2 → getU (s.flight tag).p 8 2 ≤ 448 →
    getU (s.flight tag).p 4 4 + getU (s.flight tag).p 8 2 ≤ len →
    ∃ t, exec (.tableWrite tag) s = .next t ∧ t = { s with host := t.host, dir.tables := t.dir.tables } ∧
      s.Completed t tag .ok ∧
      t.staged (getU (s.flight tag).p 0 2) = memWriteN (tableByte (getU (s.flight tag).p 0 2))
        (s.staged (getU (s.flight tag).p 0 2)) (getU (s.flight tag).p 4 4)
        (writeData (s.flight tag).p (getU (s.flight tag).p 8 2)) ∧
      (t.tbl (getU (s.flight tag).p 0 2)).body = (s.tbl (getU (s.flight tag).p 0 2)).body ∧
      (∀ k, k ≠ getU (s.flight tag).p 0 2 → t.tbl k = s.tbl k)) ∧
  (∀ (s : State) (tag len : Nat), s.Admitted tag 0x05 2 → (s.flight tag).discards = true →
    tableLen (getU (s.flight tag).p 0 2) = some len → s.activeBank (getU (s.flight tag).p 0 2) = false →
    s.claims (getU (s.flight tag).p 0 2) (s.flight tag).slot = true →
    ∃ t, exec (.tableWriteDiscard tag) s = .next t ∧ t = { s with host := t.host, dir.tables := t.dir.tables } ∧
      s.Completed t tag .ok ∧
      t.tbl (getU (s.flight tag).p 0 2) = { s.tbl (getU (s.flight tag).p 0 2) with claim := none } ∧
      (∀ k, k ≠ getU (s.flight tag).p 0 2 → t.tbl k = s.tbl k)) ∧
  (∀ (s : State) (tag len : Nat), s.Admitted tag 0x06 2 → tableLen (getU (s.flight tag).p 0 2) = some len →
    isBank (getU (s.flight tag).p 0 2) = false →
    (s.noteSeq (s.flight tag)).claims (getU (s.flight tag).p 0 2) (s.flight tag).slot = true →
    getU (s.flight tag).p 4 4 = len →
    getU (s.flight tag).p 12 4 = bodyCrc (getU (s.flight tag).p 0 2) len
      ((s.noteSeq (s.flight tag)).staged (getU (s.flight tag).p 0 2)) →
    (s.noteSeq (s.flight tag)).bodyRefused (getU (s.flight tag).p 0 2) = none →
    (s.noteSeq (s.flight tag)).tableReady (getU (s.flight tag).p 0 2) = true →
    (s.noteSeq (s.flight tag)).versionMoved (s.flight tag) (getU (s.flight tag).p 0 2) = false →
    ∃ t, exec (.tableActivate tag) s = .next t ∧ t = { s with host := t.host } ∧ t.host.store = s.host.store ∧
      (t.flight tag).phase = .tableSwitch (getU (s.flight tag).p 0 2)) ∧
  (∀ (s : State) (tag tid : Nat) (f : Flight), (∃ x ∈ s.dir.tables, x.id = tid) → s.flight? tag = some f →
    f.phase = .tableSwitch tid → isBank tid = false → s.switchBoundary tid = true → s.tableReady tid = true →
    s.versionMoved f tid = false →
    ∃ t, exec (.tableSwitch tag) s = .next t ∧ (t.tbl tid).ver = ((s.tbl tid).ver + 1) % 2 ^ 32 ∧
      (t.tbl tid).origin = 1 ∧ (t.tbl tid).claim = none ∧ (t.flight tag).phase = .tableDurable tid ∧
      t.host.store = s.host.store) ∧
  (∀ (s : State) (tag tid : Nat) (f : Flight), (∃ x ∈ s.dir.tables, x.id = tid) → s.flight? tag = some f →
    f.phase = .tableDurable tid → s.opCounts = true →
    ∃ t, exec (.tableDurable tag) s = .next t ∧ s.Completed t tag .ok ∧ (t.tbl tid).durable = (s.tbl tid).body ∧
      (t.tbl tid).durVer = (s.tbl tid).ver ∧ (t.tbl tid).body = (s.tbl tid).body ∧
      (∀ k, k ≠ tid → t.tbl k = s.tbl k) ∧ t = { s with host := t.host, dir := t.dir, sec := t.sec })

/-- VAR_READ returns its 1 to 15 elements from a boundary between cycles and changes nothing but the host block; VAR_WRITE,
FORCE_SET, FORCE_CLEAR and FORCE_CLEAR with ALL that pass their checks wait for the next input phase, in the order taken. The
points of log 26 are the model's. -/
def Obligations.VariablesWaitForTheInputPhase : Prop :=
  (∀ (s : State) (tag : Nat), s.Admitted tag 0x08 0 → s.gys.phase = .boundary → 1 ≤ getU (s.flight tag).p 0 2 →
    getU (s.flight tag).p 0 2 ≤ 15 →
    (∀ k < getU (s.flight tag).p 0 2, ((s.noteSeq (s.flight tag)).varEntry (getU (s.flight tag).p (2 + 8 * k) 4)
      (getU (s.flight tag).p (6 + 8 * k) 2) (getU (s.flight tag).p (8 + 8 * k) 2)).2 = .ok) →
    ∃ t, exec (.varRead tag) s = .next t ∧ t = { s with host := t.host } ∧ s.Completed t tag .ok) ∧
  (∀ (s : State) (tag : Nat), s.Admitted tag 0x09 1 → (s.noteSeq (s.flight tag)).varRefused (s.flight tag) = none →
    ∃ t, exec (.varWrite tag) s = .next t ∧ t = { s with host := t.host, gys.writes := s.gys.writes ++ [tag] } ∧
      t.host.store = s.host.store ∧ (t.flight tag).phase = .varWrite) ∧
  (∀ (s : State) (tag : Nat), s.Admitted tag 0x0A 2 → (s.noteSeq (s.flight tag)).forceRefused (s.flight tag) = none →
    ∃ t, exec (.forceSet tag) s = .next t ∧ t = { s with host := t.host, gys.forceOps := s.gys.forceOps ++ [tag] } ∧
      t.host.store = s.host.store ∧ (t.flight tag).phase = .forceWrite) ∧
  (∀ (s : State) (tag : Nat), s.Admitted tag 0x0B 2 → (s.flight tag).allForces = false →
    ∃ t, exec (.forceClear tag) s = .next t ∧ t = { s with host := t.host, gys.forceOps := s.gys.forceOps ++ [tag] } ∧
      t.host.store = s.host.store ∧ (t.flight tag).phase = .forceWrite) ∧
  (∀ (s : State) (tag : Nat), s.Admitted tag 0x0B 2 → (s.flight tag).allForces = true →
    ∃ t, exec (.forceClearAll tag) s = .next t ∧ t = { s with host := t.host, gys.forceOps := s.gys.forceOps ++ [tag] } ∧
      t.host.store = s.host.store ∧ (t.flight tag).phase = .forceWrite)

/-- GRP_OPEN allocates a free group to the issuing slot with its next generation; a GRP_STAGE of any of the seven kinds whose
checks pass puts its action into the group and completes OK. Nothing but the host block and that group changes. An OPEN host group
that has stayed OPEN for its GRP.OPENTMO is released, its actions discarded and its generation kept, and recorded; a GRP_COMMIT of
a local group hands it to the executor and waits for it; a GRP_ABORT of an OPEN group releases it. At the commit point of a local
group whose checks pass the group is committed and the actions of its highest domain take effect; each lower domain follows at its
own boundary; when all are applied and durable the group is released and its GRP_COMMIT completes OK. The points of log 28 and 29
are the model's. -/
def Obligations.GroupsOpenCommitAndEnd : Prop :=
  (∀ (s : State) (tag g : Nat), g < s.grp.groups.length → s.Admitted tag 0x18 1 →
    getU (s.flight tag).p 0 1 % 2 = 0 → getU (s.flight tag).p 1 1 = 0 → s.hostGroups < s.parN Idx.GRP_HOSTMAX →
    s.freeGroup = some g →
    ∃ t, exec (.grpOpen tag) s = .next t ∧ t = { s with host := t.host, grp := t.grp } ∧ s.Completed t tag .ok ∧
      (t.group g).state = 1 ∧ (t.group g).owner = .host (s.flight tag).slot ∧ (t.group g).cross = false ∧
      (t.group g).gen = ((s.group g).gen + 1) % 65536 ∧ (t.group g).acts = [] ∧ (∀ k, k ≠ g → t.group k = s.group k)) ∧
  (∀ p ∈ [(Instr.parameterWrite, 1), (Instr.geyserVariableWrite, 2), (Instr.nonSafetyFieldOutput, 3), (Instr.profileTarget, 4),
      (Instr.doorCommand, 5), (Instr.camTableSelection, 6), (Instr.calderaCoefficientSet, 7)],
    ∀ (s : State) (tag g : Nat), g < s.grp.groups.length → s.Admitted tag 0x19 0 → getU (s.flight tag).p 5 1 = p.2 →
    getU (s.flight tag).p 0 1 = g → (s.noteSeq (s.flight tag)).stageRefused (s.flight tag) = none →
    (s.noteSeq (s.flight tag)).actRefused (s.flight tag) (s.group g) (s.flight tag).act = none →
    ∃ t, exec (p.1 tag) s = .next t ∧ t = { s with host := t.host, grp := t.grp } ∧ s.Completed t tag .ok ∧
      t.group g = { s.group g with acts := ((s.noteSeq (s.flight tag)).putAct (s.group g).acts (s.flight tag).act).1 } ∧
      (∀ k, k ≠ g → t.group k = s.group k)) ∧
  (∀ (s : State) (g h : Nat), g < 8 → g < s.grp.groups.length → s.opCounts = true → (s.group g).state = 1 →
    (s.group g).owner = .host h → (s.group g).openedAt + (s.group g).openTmo * 1000 ≤ s.pwr.opTime →
    ∃ t, exec (.grpExpired g) s = .next t ∧ (t.group g).state = 0 ∧ (t.group g).gen = (s.group g).gen ∧
      (t.group g).acts = [] ∧ (∀ k, k ≠ g → t.group k = s.group k) ∧ s.Records t 0x0303 2 g ∧
      t = { s with grp := t.grp, dir := t.dir, tph := t.tph } ∧ s.ParsKept t [Idx.TPH_BUFDROPS] ∧ s.RecorderKept t) ∧
  (∀ (s : State) (tag g : Nat), g < s.grp.groups.length → s.Admitted tag 0x1A 1 → getU (s.flight tag).p 0 1 = g → g < 8 →
    getU (s.flight tag).p 2 2 = (s.group g).gen → (s.group g).state = 1 → (s.group g).owner = .host (s.flight tag).slot →
    (s.group g).cross = false →
    ∃ t, exec (.grpCommit tag) s = .next t ∧ t = { s with host := t.host, grp := t.grp } ∧
      t.group g = { s.group g with state := 2, order := s.grp.nextOrder } ∧ (∀ k, k ≠ g → t.group k = s.group k) ∧
      (t.flight tag).phase = .groupWait g ∧ t.host.store = s.host.store) ∧
  (∀ (s : State) (tag g : Nat), g < s.grp.groups.length → s.Admitted tag 0x1B 1 → getU (s.flight tag).p 0 1 = g → g < 8 →
    getU (s.flight tag).p 2 2 = (s.group g).gen → (s.group g).state = 1 → (s.group g).owner = .host (s.flight tag).slot →
    ∃ t, exec (.grpAbort tag) s = .next t ∧ t = { s with host := t.host, grp := t.grp } ∧ s.Completed t tag .ok ∧
      (t.group g).state = 0 ∧ (t.group g).gen = (s.group g).gen ∧ (∀ k, k ≠ g → t.group k = s.group k)) ∧
  (∀ (s : State) (g : Nat), g < 8 → (s.group g).state = 2 → (s.group g).cross = false → (s.group g).top ≠ 3 →
    s.domainReady (s.group g).top = true → s.earlierCommit g = false → s.failing none (s.group g).own = none →
    exec (.commitPoint g) s = .next ((s.commitGroup g).applyActs g fun a => a.domain == (s.group g).top && !a.fio)) ∧
  (∀ (s : State) (g : Nat), g < s.grp.groups.length → ((s.commitGroup g).group g).state = 4 ∧
    ((s.commitGroup g).group g).commitAt = s.rng.time ∧ s.Records (s.commitGroup g) 0x0301 0 g) ∧
  (∀ (s : State) (g : Nat), g < 8 → (s.group g).mayApply = true → (s.group g).dueDomain ≠ 0 →
    s.domainReady (s.group g).dueDomain = true →
    exec (.groupActionApplied g) s = .next (s.applyActs g fun a => a.domain == (s.group g).dueDomain && !a.fio)) ∧
  (∀ (s : State) (g : Nat) (f : Flight) (h : Nat), g < 8 → g < s.grp.groups.length → (s.group g).mayApply = true →
    (s.group g).allApplied = true → s.opCounts = true → s.lmp.restarting = false → (s.group g).owner = .host h →
    s.groupFlight g = some f →
    ∃ t, exec (.groupRecordDurable g) s = .next t ∧ (t.group g).state = 0 ∧ (t.group g).gen = (s.group g).gen ∧
      (∀ k, k ≠ g → t.group k = s.group k) ∧
      (∃ d, t.host.store = s.host.store ++ [(f.slot, d)] ∧ d.tag = f.d.tag ∧ d.status = Status.ok.code) ∧
      t = { s with host := t.host, grp := t.grp, dir := t.dir, sec := t.sec })

/-- A participant that takes PREPARE allocates a group in PREPARED with the actions and hold of the message; at its boundary it
votes; it releases the group on ABORT or when its hold expires without a decision. COMMIT makes a participant that holds its
resources commit, apply and answer with ACK; the coordinator counts a vote in time and an ACK once each, decides COMMIT when every
vote is OK and its own checks pass, repeats COMMIT to those whose ACK is missing, and gives up when the hold ends. Where a device
keeps what it must remember is the model's (log 30). -/
def Obligations.CrossDeviceGroupsDecideOnce : Prop :=
  (∀ (s : State) (m : GMsg) (g : Nat), g < s.grp.groups.length → s.messagesServed = true → s.nextMsg 1 = some m →
    (s.dropMsg m).partGroup m = none → s.freeGroup = some g → s.actions + m.acts.length ≤ 512 →
    ∃ t, exec .xdevPrepare s = .next t ∧ (t.group g).state = 3 ∧ (t.group g).acts = m.acts ∧
      (t.group g).owner = .remote m.coord ∧ (t.group g).gen = ((s.group g).gen + 1) % 65536 ∧
      (∀ k, k ≠ g → t.group k = s.group k) ∧ t.grp.inq = s.grp.inq.erase m ∧ t = { s with grp := t.grp }) ∧
  (∀ (s : State) (g : Nat), g < 8 → g < s.grp.groups.length → s.messagesServed = true → (s.group g).state = 3 →
    (s.group g).votes = [] → s.domainReady (s.group g).top = true →
    ∃ (v : State) (m : GMsg), exec (.preparedBoundary g) s = .next v.flushGroups ∧ v.grp.out = s.grp.out ++ [m] ∧ m.type = 2 ∧
      (v.group g).votes ≠ [] ∧ (∀ k, k ≠ g → v.group k = s.group k) ∧ v = { s with grp := v.grp }) ∧
  (∀ (s : State) (m : GMsg) (g : Nat), g < s.grp.groups.length → s.messagesServed = true → s.nextMsg 5 = some m →
    (s.dropMsg m).partGroup m = some g → (s.group g).state = 3 →
    ∃ t, exec .abortMessage s = .next t ∧ (t.group g).state = 0 ∧ (t.group g).gen = (s.group g).gen ∧
      (∀ k, k ≠ g → t.group k = s.group k) ∧ t.grp.inq = s.grp.inq.erase m ∧ t = { s with grp := t.grp }) ∧
  (∀ (s : State) (g : Nat), g < 8 → g < s.grp.groups.length → s.messagesServed = true → (s.group g).state = 3 →
    (s.group g).holdEnd ≤ s.rng.time →
    ∃ t, exec (.grpDecisionLost g) s = .next t ∧ (t.group g).state = 0 ∧ (t.group g).gen = (s.group g).gen ∧
      (∀ k, k ≠ g → t.group k = s.group k) ∧ s.Records t 0x0306 3 g ∧
      t = { s with grp := t.grp, dir := t.dir, tph := t.tph } ∧ s.ParsKept t [Idx.TPH_BUFDROPS]) ∧
  (∀ (s : State) (m : GMsg) (g : Nat), s.messagesServed = true → s.nextMsg 3 = some m → s.partGroup m = some g →
    (s.group g).state = 3 → (s.group g).held = true → s.domainReady (s.group g).top = true →
    exec .xdevCommit s = .next (((((s.dropMsg m).commitGroup g).applyActs g fun a =>
      a.domain == (s.group g).top && !a.fio).reply m 4 .ok 0xFFFF).flushGroups)) ∧
  (∀ (s : State) (m : GMsg), m.group < s.grp.groups.length → s.messagesServed = true → s.nextMsg 2 = some m →
    (s.dropMsg m).coordGroup m 2 = true → s.rng.time ≤ (s.group m.group).t0 + ((s.group m.group).xhold - 20) * 1000 →
    (∀ v ∈ (s.group m.group).votes, v.1 ≠ m.peer) →
    ∃ t, exec .xdevVote s = .next t ∧
      t.group m.group = { s.group m.group with votes := (s.group m.group).votes ++ [(m.peer, m.status, m.index)] } ∧
      (∀ k, k ≠ m.group → t.group k = s.group k) ∧ t.grp.inq = s.grp.inq.erase m ∧ t = { s with grp := t.grp }) ∧
  (∀ (s : State) (g h : Nat), g < 8 → g < s.grp.groups.length → s.messagesServed = true → (s.group g).state = 2 →
    (s.group g).cross = true → (s.group g).owner = .host h → s.domainReady (s.group g).top = true →
    (s.group g).parts.length ≤ (s.group g).votes.length → (∀ v ∈ (s.group g).votes, v.2.1 = 0) →
    (∀ p ∈ (s.group g).parts, ∃ v ∈ (s.group g).votes, v.1 = p) → s.failing none (s.group g).own = none →
    exec (.voteDeadline g) s = .next ((s.commitGroup g).sendCommits g (s.group g).parts).flushGroups) ∧
  (∀ (s : State) (m : GMsg), m.group < s.grp.groups.length → s.messagesServed = true → s.nextMsg 4 = some m →
    (s.dropMsg m).coordGroup m 4 = true → m.peer ∉ (s.group m.group).acks →
    (s.group m.group).acks.length + 1 < (s.group m.group).parts.length →
    ∃ t, exec .xdevAck s = .next t ∧
      t.group m.group = { s.group m.group with acks := (s.group m.group).acks ++ [m.peer] } ∧
      (∀ k, k ≠ m.group → t.group k = s.group k) ∧ t.grp.inq = s.grp.inq.erase m ∧ t = { s with grp := t.grp }) ∧
  (∀ (s : State) (g : Nat), g < 8 → s.messagesServed = true → s.commitRepeats g = true →
    (s.group g).lastSent + (s.group g).xrepeat * 1000 ≤ s.rng.time →
    exec (.commitRepeat g) s = .next (s.sendCommits g ((s.group g).parts.filter fun p => !(s.group g).acks.contains
    p)).flushGroups) ∧
  (∀ (s : State) (g h : Nat), g < 8 → s.messagesServed = true → (s.group g).state = 4 → (s.group g).cross = true →
    (s.group g).owner = .host h → (s.group g).acks.length < (s.group g).parts.length →
    (s.group g).t0 + (s.group g).xhold * 1000 ≤ s.rng.time →
    exec (.grpXdevUnconfirmed g) s = .next ((((s.raise 0x0305 4 g).endGroup g .timeout 0 0xFFFF
      (((s.group g).parts.find? fun p => !(s.group g).acks.contains p).getD 0xFFFF) true true).repair
      ((s.group g).own.filter fun a => a.kind == 0x11)).flushGroups)) ∧
  (∀ (s : State) (g : Nat) (ps : List Nat), g < s.grp.groups.length →
    (s.sendCommits g ps).grp.out = s.grp.out ++ ps.map fun p => s.groupMsg g 3 p)

/-- The writes that act as commands, once their checks pass: DSP.PREDRST, TPH.CLEAR, CANb.CANCEL of a frame that waits, a CANb.CFG
write that disables the controller, a trace buffer armed and disarmed, and a zone edge while SHF is disabled. The actions of
SEC.ACTION that pass their checks install the staged key where the action says, clear the staging buffer and complete OK;
ACTIVATE_NEXT_DOMAIN_KEY keeps the former key as the previous one; a token in the recovery loader opens debug access or clears
every key; raising SEC.MINEPOCH closes the sessions of lower epochs. That such a write is a row of its own is log 19; the
cryptographic functions are opaque (log 10), and the points of log 36 are the model's. -/
def Obligations.CommandAndSecurityWritesAct : Prop :=
  (∀ (s : State) (tag : Nat), s.Admitted tag 0x03 0 → (s.flight tag).widx = Idx.DSP_PREDRST →
    (s.noteSeq (s.flight tag)).writeForm (s.flight tag) = none →
    (s.noteSeq (s.flight tag)).writeOwner (s.flight tag) = none →
    ∃ t, exec (.predrst tag) s = .next t ∧ s.Completed t tag .ok ∧
      t.dsp = { s.dsp with ratios := [], ratioBase := s.parN Idx.DSP_RATIODEF * 1000000 } ∧
      t = { s with host := t.host, dir := t.dir, dsp := t.dsp }) ∧
  (∀ (s : State) (tag : Nat), s.Admitted tag 0x03 0 → (s.flight tag).widx = Idx.TPH_CLEAR →
    (s.noteSeq (s.flight tag)).writeForm (s.flight tag) = none →
    (s.noteSeq (s.flight tag)).writeOwner (s.flight tag) = none →
    ∃ t, exec (.tphClear tag) s = .next t ∧ s.Completed t tag .ok ∧
      (∀ r ∈ t.tph.recs, r ∈ s.tph.recs ∧ 6 ≤ r.evt.sev) ∧
      ((s.tph.recs.map fun r => r.seq).Nodup → ∀ r ∈ s.tph.recs, 6 ≤ r.evt.sev → r ∈ t.tph.recs) ∧
      s.Records t 0x1001 2 0xFF ∧ t = { s with host := t.host, dir := t.dir, tph := t.tph }) ∧
  (∀ (s : State) (tag b j : Nat), b < 2 → s.Admitted tag 0x03 0 → (s.flight tag).widx = Idx.CANb_CANCEL b →
    (s.flight tag).wval = j → 2 ≤ j → j < (s.can b).objs.length → (s.cobj b j).bus = none → (s.cobj b j).pend.isSome = true →
    (s.noteSeq (s.flight tag)).writeForm (s.flight tag) = none →
    (s.noteSeq (s.flight tag)).writeOwner (s.flight tag) = none →
    ∃ t, exec (.canCancel tag) s = .next t ∧ s.Completed t tag .ok ∧
      t.cobj b j = { s.cobj b j with pend := none, next := none, status := Status.aborted.code } ∧
      (∀ k, k ≠ j → t.cobj b k = s.cobj b k) ∧ t = { s with host := t.host, dir := t.dir, can0 := t.can0, can1 := t.can1 }) ∧
  (∀ (s : State) (tag b : Nat) (v : Int) (f : Flight), b < 2 → s.flight? tag = some f →
    f.phase = .paramApply (Idx.CANb_CFG b) v → f.widx = Idx.CANb_CFG b → s.parBit (Idx.CANb_CFG b) 0 = true →
    v.toNat.testBit 0 = false → s.writeWaits f (Idx.CANb_CFG b) = false → s.busIdle b = true →
    s.crossRange (Idx.CANb_CFG b) v = true → s.writeOwner f = none → s.ownerAllows (Idx.CANb_CFG b) v = true →
    ∃ t, exec (.canDisable tag) s = .next t ∧ (t.can b).st = 0 ∧ t.can (1 - b) = s.can (1 - b) ∧
      t.par (Idx.CANb_CFG b) = v ∧ (t.flight tag).phase = .paramDurable (Idx.CANb_CFG b) v (t.parVer (Idx.CANb_CFG b))) ∧
  (∀ (s : State) (tag b : Nat), b < 4 → b < s.cle.traces.length → s.Admitted tag 0x03 0 →
    (s.flight tag).widx = Idx.CLE_TRbCFG b → (s.flight tag).wval.toNat.testBit 0 = true →
    (s.traceSignals b).getD 0 0xFFFF ≠ 0xFFFF →
    (fieldOf (s.flight tag).wval.toNat 2 1 = 0 ∨ fieldOf (s.flight tag).wval.toNat 2 1 = 3 ∨
      s.parN (Idx.CLE_TRbTRIG b) % 256 ≠ 18) →
    s.parBit (Idx.CLE_TRbCFG b) 0 = false → (s.flight tag).wcheck = false →
    (s.noteSeq (s.flight tag)).writeForm (s.flight tag) = none →
    ∃ t, exec (.traceArm tag) s = .next t ∧ s.Completed t tag .ok ∧ t.par (Idx.CLE_TRbCFG b) = (s.flight tag).wval ∧
      s.ParsKept t [Idx.CLE_TRbCFG b] ∧ t.cle = { s.cle with traces := s.cle.traces.set b { st := 1 } } ∧
      t = { s with host := t.host, dir := t.dir, cle := t.cle }) ∧
  (∀ (s : State) (tag b : Nat), b < 4 → b < s.cle.traces.length → s.Admitted tag 0x03 0 →
    (s.flight tag).widx = Idx.CLE_TRbCFG b → s.parBit (Idx.CLE_TRbCFG b) 0 = true →
    (s.flight tag).wval.toNat.testBit 0 = false → (s.flight tag).wval.toNat / 2 = s.parN (Idx.CLE_TRbCFG b) / 2 →
    (s.flight tag).wcheck = false → (s.noteSeq (s.flight tag)).writeForm (s.flight tag) = none →
    ∃ t, exec (.traceDisarm tag) s = .next t ∧ s.Completed t tag .ok ∧ t.par (Idx.CLE_TRbCFG b) = (s.flight tag).wval ∧
      s.ParsKept t [Idx.CLE_TRbCFG b] ∧ t.cle = { s.cle with traces := s.cle.traces.set b {} } ∧
      t = { s with host := t.host, dir := t.dir, cle := t.cle }) ∧
  (∀ (s : State) (tag : Nat) (upper : Bool), s.Admitted tag 0x03 0 →
    (s.flight tag).widx = (if upper then Idx.SHF_ZHI else Idx.SHF_ZLO) → s.par Idx.SHF_ENABLE = 0 →
    (s.noteSeq (s.flight tag)).writeForm (s.flight tag) = none →
    (s.noteSeq (s.flight tag)).writeOwner (s.flight tag) = none →
    ∃ t, exec (.zoneWrite tag) s = .next t ∧ s.Completed t tag .ok ∧ t.par (s.flight tag).widx = (s.flight tag).wval) ∧
  (∀ (s : State) (tag : Nat), s.host.slots.length = 8 → (s.flight tag).slot < 8 → s.Admitted tag 0x03 0 →
    (s.flight tag).widx = Idx.SEC_ACTION → (s.flight tag).actCode = 1 →
    (s.noteSeq (s.flight tag)).writeRefused (s.flight tag) = none →
    (s.noteSeq (s.flight tag)).keyRefused (s.flight tag) ((s.noteSeq (s.flight tag)).ownerAllowed (s.flight tag)) 57 = none →
    ∃ t, exec (.installOwnerKey tag) s = .next t ∧ t.sec.owner = some (leNat (s.stagedBytes (s.flight tag).slot 57)) ∧
      (t.slot (s.flight tag).slot).stage = [] ∧ (∀ h, h ≠ (s.flight tag).slot → (t.slot h).session = none) ∧
      t.sec.program = s.sec.program ∧ t.sec.domain = s.sec.domain ∧ t.sec.domainNext = s.sec.domainNext ∧
      t = { s with host := t.host, dir := t.dir, grp := t.grp, saf := t.saf, tph := t.tph, sec := t.sec }) ∧
  (∀ (s : State) (tag : Nat), (s.flight tag).slot < s.host.slots.length → s.Admitted tag 0x03 0 →
    (s.flight tag).widx = Idx.SEC_ACTION → (s.flight tag).actCode = 2 →
    (s.noteSeq (s.flight tag)).writeRefused (s.flight tag) = none →
    (s.noteSeq (s.flight tag)).keyRefused (s.flight tag) (decide (3 ≤ s.privOf (s.flight tag).slot)) 57 = none →
    ∃ t, exec (.installProgramSigningKey tag) s = .next t ∧ s.Completed t tag .ok ∧
      t.sec = { s.sec with program := some (leNat (s.stagedBytes (s.flight tag).slot 57)) } ∧
      (t.slot (s.flight tag).slot).stage = [] ∧ t = { s with host := t.host, dir := t.dir, tph := t.tph, sec := t.sec }) ∧
  (∀ (s : State) (tag : Nat), (s.flight tag).slot < s.host.slots.length → s.Admitted tag 0x03 0 →
    (s.flight tag).widx = Idx.SEC_ACTION → (s.flight tag).actCode = 3 → s.trusted (s.flight tag).slot = true →
    (s.noteSeq (s.flight tag)).writeRefused (s.flight tag) = none →
    (s.noteSeq (s.flight tag)).keyRefused (s.flight tag) (decide (3 ≤ s.privOf (s.flight tag).slot)) 32 = none →
    ∃ t, exec (.installNextDomainKey tag) s = .next t ∧ s.Completed t tag .ok ∧
      t.sec = { s.sec with domainNext := some (leNat (s.stagedBytes (s.flight tag).slot 32) % 2 ^ 256) } ∧
      (t.slot (s.flight tag).slot).stage = [] ∧ t = { s with host := t.host, dir := t.dir, tph := t.tph, sec := t.sec }) ∧
  (∀ (s : State) (tag k : Nat), (s.flight tag).slot < s.host.slots.length → s.Admitted tag 0x03 0 →
    (s.flight tag).widx = Idx.SEC_ACTION → (s.flight tag).actCode = 4 → 3 ≤ s.privOf (s.flight tag).slot →
    s.sec.domainNext = some k → (s.flight tag).actCheck = kidOf 32 s.sec.domainNext →
    (s.noteSeq (s.flight tag)).writeRefused (s.flight tag) = none →
    ∃ t, exec (.activateNextDomainKey tag) s = .next t ∧ s.Completed t tag .ok ∧
      t.sec = { s.sec with domain := some k, domainNext := none,
                           domainPrev := s.sec.domain.map fun x => (x, s.pwr.opTime) } ∧
      t = { s with host := t.host, dir := t.dir, tph := t.tph, sec := t.sec }) ∧
  (∀ (s : State) (p : Nat × Nat), s.sec.domainPrev = some p → p.2 + 1000 * s.parN Idx.SEC_DKGRACE ≤ s.pwr.opTime →
    ∃ t, exec .domainKeyGraceEnd s = .next t ∧ t = { s with sec.domainPrev := none }) ∧
  (∀ (s : State) (tag : Nat), (s.flight tag).slot < s.host.slots.length → s.Admitted tag 0x03 0 →
    (s.flight tag).widx = Idx.SEC_ACTION → (s.flight tag).actCode = 5 →
    (s.noteSeq (s.flight tag)).writeRefused (s.flight tag) = none →
    (s.noteSeq (s.flight tag)).tokenRefused (s.flight tag) [1, 2] = none →
    ∃ t, exec (.debugUnlockToken tag) s = .next t ∧ s.Completed t tag .ok ∧
      t.sec = { s.sec with dbg := max s.sec.dbg (getU (s.stagedBytes (s.flight tag).slot 146) 4 1) } ∧
      t = { s with host := t.host, dir := t.dir, pwr.startEvts := t.pwr.startEvts, sec := t.sec }) ∧
  (∀ (s : State) (tag : Nat), (s.flight tag).slot < s.host.slots.length → s.Admitted tag 0x03 0 →
    (s.flight tag).widx = Idx.SEC_ACTION → (s.flight tag).actCode = 6 →
    (s.noteSeq (s.flight tag)).writeRefused (s.flight tag) = none →
    (s.noteSeq (s.flight tag)).tokenRefused (s.flight tag) [3] = none →
    ∃ t, exec (.ownershipResetToken tag) s = .next t ∧ s.Completed t tag .ok ∧ t.par Idx.SEC_MINEPOCH = 0 ∧
      t.sec.owner = none ∧ t.sec.program = none ∧ t.sec.domain = none ∧ t.sec.domainNext = none ∧
      t.sec.domainPrev = none ∧ t = { s with host := t.host, dir := t.dir, pwr.startEvts := t.pwr.startEvts, sec := t.sec }) ∧
  (∀ (s : State) (tag : Nat), s.host.slots.length = 8 → s.Admitted tag 0x03 0 → (s.flight tag).widx = Idx.SEC_MINEPOCH →
    s.par Idx.SEC_MINEPOCH ≠ (s.flight tag).wval →
    (s.noteSeq (s.flight tag)).writeForm (s.flight tag) = none →
    (s.noteSeq (s.flight tag)).writeOwner (s.flight tag) = none →
    ∃ t, exec (.secEpochRaised tag) s = .next t ∧ t.par Idx.SEC_MINEPOCH = (s.flight tag).wval ∧
      (∀ x ∈ t.host.slots, ∀ ss, x.session = some ss → (s.flight tag).wval ≤ ss.epoch) ∧
      t = { s with host := t.host, dir := t.dir, grp := t.grp, saf := t.saf, tph := t.tph, sec := t.sec })

/-- A boolean instruction whose operand names a bit computes BA from BA and that bit, moves to the next instruction and changes
nothing else; NOP moves to the next instruction. STB and STBN store BA and its inverse in the operand's bit, SETB and RSTB store 1
and 0 when BA is 1 and nothing otherwise, and EDGE stores BA and leaves in BA whether it has risen over the bit as it read; no
other byte of the data space changes. An instruction runs when the word at the program counter is its word (log 14). -/
def Obligations.BooleanInstructions : Prop :=
  (∀ s : State, s.Executes 0x00 0 0 → exec (.gysNop 0 0) s = .next { s with gys.pc := s.pcNext }) ∧
  (∀ (s : State) (m x : Nat) (b : Bool), s.Executes 0x01 m x → s.boolOp m x = .ok b →
    exec (.ldb m x) s = .next { s with gys.ba := b, gys.pc := s.pcNext }) ∧
  (∀ (s : State) (m x : Nat) (b : Bool), s.Executes 0x02 m x → s.boolOp m x = .ok b →
    exec (.ldbn m x) s = .next { s with gys.ba := !b, gys.pc := s.pcNext }) ∧
  (∀ (s : State) (m x : Nat) (b : Bool), s.Executes 0x03 m x → s.boolOp m x = .ok b →
    exec (.andb m x) s = .next { s with gys.ba := (s.gys.ba && b), gys.pc := s.pcNext }) ∧
  (∀ (s : State) (m x : Nat) (b : Bool), s.Executes 0x04 m x → s.boolOp m x = .ok b →
    exec (.andbn m x) s = .next { s with gys.ba := (s.gys.ba && !b), gys.pc := s.pcNext }) ∧
  (∀ (s : State) (m x : Nat) (b : Bool), s.Executes 0x05 m x → s.boolOp m x = .ok b →
    exec (.orb m x) s = .next { s with gys.ba := (s.gys.ba || b), gys.pc := s.pcNext }) ∧
  (∀ (s : State) (m x : Nat) (b : Bool), s.Executes 0x06 m x → s.boolOp m x = .ok b →
    exec (.orbn m x) s = .next { s with gys.ba := (s.gys.ba || !b), gys.pc := s.pcNext }) ∧
  (∀ (s : State) (m x : Nat) (b : Bool), s.Executes 0x07 m x → s.boolOp m x = .ok b →
    exec (.xorb m x) s = .next { s with gys.ba := (s.gys.ba ^^ b), gys.pc := s.pcNext }) ∧
  (∀ (s : State) (m x a : Nat), memWf zeroByte s.gys.mem = true → s.Executes 0x08 m x → m ≠ 0 → s.bitAddr m x = .ok a →
  gysWritable (a / 8) = true →
    s.gys.dirty.length < 1024 →
    ∃ t, exec (.stb m x) s = .next t ∧
      t = { s with gys.mem := t.gys.mem, gys.dirty := t.gys.dirty, gys.ba := s.gys.ba, gys.pc := s.pcNext } ∧
      t.gysByte (a / 8) = BitVec.ofNat 8 (setBit (s.gysByte (a / 8)).toNat (a % 8) s.gys.ba) ∧
      (∀ k, k ≠ a / 8 → t.gysByte k = s.gysByte k)) ∧
  (∀ (s : State) (m x a : Nat), memWf zeroByte s.gys.mem = true → s.Executes 0x09 m x → m ≠ 0 → s.bitAddr m x = .ok a →
  gysWritable (a / 8) = true →
    s.gys.dirty.length < 1024 →
    ∃ t, exec (.stbn m x) s = .next t ∧
      t = { s with gys.mem := t.gys.mem, gys.dirty := t.gys.dirty, gys.ba := s.gys.ba, gys.pc := s.pcNext } ∧
      t.gysByte (a / 8) = BitVec.ofNat 8 (setBit (s.gysByte (a / 8)).toNat (a % 8) (!s.gys.ba)) ∧
      (∀ k, k ≠ a / 8 → t.gysByte k = s.gysByte k)) ∧
  (∀ (s : State) (m x a : Nat), memWf zeroByte s.gys.mem = true → s.Executes 0x0A m x → m ≠ 0 → s.bitAddr m x = .ok a →
  s.gys.ba = true → gysWritable (a / 8) = true →
    s.gys.dirty.length < 1024 →
    ∃ t, exec (.setb m x) s = .next t ∧
      t = { s with gys.mem := t.gys.mem, gys.dirty := t.gys.dirty, gys.ba := s.gys.ba, gys.pc := s.pcNext } ∧
      t.gysByte (a / 8) = BitVec.ofNat 8 (setBit (s.gysByte (a / 8)).toNat (a % 8) true) ∧
      (∀ k, k ≠ a / 8 → t.gysByte k = s.gysByte k)) ∧
  (∀ (s : State) (m x a : Nat), s.Executes 0x0A m x → m ≠ 0 → s.bitAddr m x = .ok a → s.gys.ba = false →
    exec (.setb m x) s = .next { s with gys.pc := s.pcNext }) ∧
  (∀ (s : State) (m x a : Nat), memWf zeroByte s.gys.mem = true → s.Executes 0x0B m x → m ≠ 0 → s.bitAddr m x = .ok a →
  s.gys.ba = true → gysWritable (a / 8) = true →
    s.gys.dirty.length < 1024 →
    ∃ t, exec (.rstb m x) s = .next t ∧
      t = { s with gys.mem := t.gys.mem, gys.dirty := t.gys.dirty, gys.ba := s.gys.ba, gys.pc := s.pcNext } ∧
      t.gysByte (a / 8) = BitVec.ofNat 8 (setBit (s.gysByte (a / 8)).toNat (a % 8) false) ∧
      (∀ k, k ≠ a / 8 → t.gysByte k = s.gysByte k)) ∧
  (∀ (s : State) (m x a : Nat), s.Executes 0x0B m x → m ≠ 0 → s.bitAddr m x = .ok a → s.gys.ba = false →
    exec (.rstb m x) s = .next { s with gys.pc := s.pcNext }) ∧
  (∀ (s : State) (m x a : Nat), memWf zeroByte s.gys.mem = true → s.Executes 0x0C m x → m ≠ 0 → s.bitAddr m x = .ok a →
  gysWritable (a / 8) = true →
    s.gys.dirty.length < 1024 →
    ∃ t, exec (.edge m x) s = .next t ∧
      t = { s with gys.mem := t.gys.mem, gys.dirty := t.gys.dirty, gys.ba := s.gys.ba && !s.gysBit a, gys.pc := s.pcNext } ∧
      t.gysByte (a / 8) = BitVec.ofNat 8 (setBit (s.gysByte (a / 8)).toNat (a % 8) s.gys.ba) ∧
      (∀ k, k ≠ a / 8 → t.gysByte k = s.gysByte k))

/-- PSHB, ANDS and ORS work on the boolean stack, CALL and RET on the return stack; the jumps load the program counter, the
conditional ones as BA says. An application fault stops execution with its cause, the instruction index and the cycle kept, every
field output off and no accumulator, stack or byte of the data space changed: SYS 2 with cause 0x06, a stack that overflows or
underflows with 0x04, a program counter outside the code with 0x07. An instruction runs when the word at the program counter is
its word (log 14). -/
def Obligations.StacksJumpsAndFaults : Prop :=
  (∀ s : State, s.Executes 0x0D 0 0 → s.gys.bstack.length < 8 →
    exec (.pshb 0 0) s = .next { s with gys.bstack := s.gys.ba :: s.gys.bstack, gys.pc := s.pcNext }) ∧
  (∀ (s : State) (b : Bool) (bs : List Bool), s.Executes 0x0E 0 0 → s.gys.bstack = b :: bs →
    exec (.ands 0 0) s = .next { s with gys.ba := s.gys.ba && b, gys.bstack := bs, gys.pc := s.pcNext }) ∧
  (∀ (s : State) (b : Bool) (bs : List Bool), s.Executes 0x0F 0 0 → s.gys.bstack = b :: bs →
    exec (.ors 0 0) s = .next { s with gys.ba := s.gys.ba || b, gys.bstack := bs, gys.pc := s.pcNext }) ∧
  (∀ (s : State) (x : Nat), s.Executes 0x2A 0 x → x < 2 ^ 17 → exec (.jmp 0 x) s = .next { s with gys.pc := x }) ∧
  (∀ (s : State) (x : Nat), s.Executes 0x2B 0 x → x < 2 ^ 17 →
    exec (.jmpc 0 x) s = .next { s with gys.pc := if s.gys.ba then x else s.pcNext }) ∧
  (∀ (s : State) (x : Nat), s.Executes 0x2C 0 x → x < 2 ^ 17 →
    exec (.jmpcn 0 x) s = .next { s with gys.pc := if s.gys.ba then s.pcNext else x }) ∧
  (∀ (s : State) (x : Nat), s.Executes 0x2D 0 x → x < 2 ^ 17 → s.gys.rstack.length < 16 →
    exec (.call 0 x) s = .next { s with gys.rstack := s.pcNext :: s.gys.rstack, gys.pc := x }) ∧
  (∀ (s : State) (a : Nat) (as : List Nat), s.Executes 0x2E 0 0 → s.gys.rstack = a :: as →
    exec (.ret 0 0) s = .next { s with gys.pc := a, gys.rstack := as }) ∧
  (∀ s : State, s.Executes 0x0D 0 0 → 8 ≤ s.gys.bstack.length → ∃ t, exec (.pshb 0 0) s = .next t ∧
  t.gys = { s.gys with st := 3, phase := .faulted, outputsOff := true } ∧
    t.par Idx.GYS_FAULT = 4 ∧ t.par Idx.GYS_FAULTPC = s.gys.pc ∧ t.par Idx.GYS_FAULTCYC = s.gys.cycle ∧
    (∀ c ∈ t.fio.ch, c.on = false) ∧ s.Records t 0x0401 5 0xFF ∧
    t = { s with dir := t.dir, tph := t.tph, gys := t.gys, fio := t.fio, hst := t.hst }) ∧
  (∀ s : State, s.Executes 0x0E 0 0 → s.gys.bstack = [] → ∃ t, exec (.ands 0 0) s = .next t ∧
  t.gys = { s.gys with st := 3, phase := .faulted, outputsOff := true } ∧
    t.par Idx.GYS_FAULT = 4 ∧ t.par Idx.GYS_FAULTPC = s.gys.pc ∧ t.par Idx.GYS_FAULTCYC = s.gys.cycle ∧
    (∀ c ∈ t.fio.ch, c.on = false) ∧ s.Records t 0x0401 5 0xFF ∧
    t = { s with dir := t.dir, tph := t.tph, gys := t.gys, fio := t.fio, hst := t.hst }) ∧
  (∀ s : State, s.Executes 0x0F 0 0 → s.gys.bstack = [] → ∃ t, exec (.ors 0 0) s = .next t ∧
  t.gys = { s.gys with st := 3, phase := .faulted, outputsOff := true } ∧
    t.par Idx.GYS_FAULT = 4 ∧ t.par Idx.GYS_FAULTPC = s.gys.pc ∧ t.par Idx.GYS_FAULTCYC = s.gys.cycle ∧
    (∀ c ∈ t.fio.ch, c.on = false) ∧ s.Records t 0x0401 5 0xFF ∧
    t = { s with dir := t.dir, tph := t.tph, gys := t.gys, fio := t.fio, hst := t.hst }) ∧
  (∀ (s : State) (x : Nat), s.Executes 0x2D 0 x → x < 2 ^ 17 → 16 ≤ s.gys.rstack.length → ∃ t, exec (.call 0 x) s = .next t ∧
  t.gys = { s.gys with st := 3, phase := .faulted, outputsOff := true } ∧
    t.par Idx.GYS_FAULT = 4 ∧ t.par Idx.GYS_FAULTPC = s.gys.pc ∧ t.par Idx.GYS_FAULTCYC = s.gys.cycle ∧
    (∀ c ∈ t.fio.ch, c.on = false) ∧ s.Records t 0x0401 5 0xFF ∧
    t = { s with dir := t.dir, tph := t.tph, gys := t.gys, fio := t.fio, hst := t.hst }) ∧
  (∀ s : State, s.Executes 0x2E 0 0 → s.gys.rstack = [] → ∃ t, exec (.ret 0 0) s = .next t ∧
  t.gys = { s.gys with st := 3, phase := .faulted, outputsOff := true } ∧
    t.par Idx.GYS_FAULT = 4 ∧ t.par Idx.GYS_FAULTPC = s.gys.pc ∧ t.par Idx.GYS_FAULTCYC = s.gys.cycle ∧
    (∀ c ∈ t.fio.ch, c.on = false) ∧ s.Records t 0x0401 5 0xFF ∧
    t = { s with dir := t.dir, tph := t.tph, gys := t.gys, fio := t.fio, hst := t.hst }) ∧
  (∀ (s : State), s.Executes 0x2F 0 2 → ∃ t, exec (.sysFault 0 2) s = .next t ∧
    t.gys = { s.gys with st := 3, phase := .faulted, outputsOff := true } ∧
    t.par Idx.GYS_FAULT = 6 ∧ t.par Idx.GYS_FAULTPC = s.gys.pc ∧ t.par Idx.GYS_FAULTCYC = s.gys.cycle ∧
    (∀ c ∈ t.fio.ch, c.on = false) ∧ s.Records t 0x0401 5 0xFF ∧
    t = { s with dir := t.dir, tph := t.tph, gys := t.gys, fio := t.fio, hst := t.hst }) ∧
  (∀ (s : State) (m x : Nat), s.gysAt 0x00 m x = true → s.codeLen ≤ s.gys.pc →
    ∃ t, exec (.gysNop m x) s = .next t ∧ t.gys.st = 3 ∧ t.par Idx.GYS_FAULT = 7 ∧ t.par Idx.GYS_FAULTPC = s.gys.pc)

/-- A word instruction computes WA, or for a comparison BA, from WA and its operand, moves to the next instruction and changes
nothing else; LDX loads IX with 21 bits; ST stores the low bytes of WA at the operand's address, and no other byte changes.
Integer arithmetic wraps modulo 2^32 and sets OVF in ARITH exactly when the exact result does not fit; division and remainder
truncate toward zero, by 0 leave 0 and set DIVZ, and −2^31 by −1 leaves −2^31 and sets OVF. An instruction runs when the word at
the program counter is its word (log 14); MOD of −2^31 by −1 is log 17. -/
def Obligations.WordInstructions : Prop :=
  (∀ (s : State) (m x : Nat) (v : Word), s.Executes 0x10 m x → s.wordOp m x = .ok v →
    exec (.ld m x) s = .next { s with gys.wa := v, gys.pc := s.pcNext }) ∧
  (∀ (s : State) (m x : Nat) (v : Word), s.Executes 0x12 m x → s.wordOp m x = .ok v →
    exec (.ldx m x) s = .next { s with gys.ix := v.toNat % 2 ^ 21, gys.pc := s.pcNext }) ∧
  (∀ (s : State) (m x : Nat) (v : Word), s.Executes 0x18 m x → s.wordOp m x = .ok v →
    exec (.andW m x) s = .next { s with gys.wa := s.gys.wa &&& v, gys.pc := s.pcNext }) ∧
  (∀ (s : State) (m x : Nat) (v : Word), s.Executes 0x19 m x → s.wordOp m x = .ok v →
    exec (.orW m x) s = .next { s with gys.wa := s.gys.wa ||| v, gys.pc := s.pcNext }) ∧
  (∀ (s : State) (m x : Nat) (v : Word), s.Executes 0x1A m x → s.wordOp m x = .ok v →
    exec (.xorW m x) s = .next { s with gys.wa := s.gys.wa ^^^ v, gys.pc := s.pcNext }) ∧
  (∀ (s : State) (m x : Nat) (v : Word), s.Executes 0x1D m x → s.wordOp m x = .ok v →
    exec (.shr m x) s = .next { s with gys.wa := s.gys.wa >>> (v.toNat % 32), gys.pc := s.pcNext }) ∧
  (∀ (s : State) (m x : Nat) (v : Word), s.Executes 0x1E m x → s.wordOp m x = .ok v →
    exec (.sar m x) s = .next { s with gys.wa := s.gys.wa.sshiftRight (v.toNat % 32), gys.pc := s.pcNext }) ∧
  (∀ (s : State) (m x : Nat) (v : Word), s.Executes 0x1F m x → s.wordOp m x = .ok v →
    exec (.minW m x) s = .next { s with gys.wa := if s.gys.wa.toInt ≤ v.toInt then s.gys.wa else v, gys.pc := s.pcNext }) ∧
  (∀ (s : State) (m x : Nat) (v : Word), s.Executes 0x20 m x → s.wordOp m x = .ok v →
    exec (.maxW m x) s = .next { s with gys.wa := if s.gys.wa.toInt ≤ v.toInt then v else s.gys.wa, gys.pc := s.pcNext }) ∧
  (∀ s : State, s.Executes 0x1B 0 0 → exec (.notW 0 0) s = .next { s with gys.wa := ~~~s.gys.wa, gys.pc := s.pcNext }) ∧
  (∀ (s : State) (m x : Nat) (v : Word), s.Executes 0x21 m x → s.wordOp m x = .ok v →
    exec (.cmpeq m x) s = .next { s with gys.ba := decide (s.gys.wa = v), gys.pc := s.pcNext }) ∧
  (∀ (s : State) (m x : Nat) (v : Word), s.Executes 0x22 m x → s.wordOp m x = .ok v →
    exec (.cmplt m x) s = .next { s with gys.ba := decide (s.gys.wa.toInt < v.toInt), gys.pc := s.pcNext }) ∧
  (∀ (s : State) (m x : Nat) (v : Word), s.Executes 0x23 m x → s.wordOp m x = .ok v →
    exec (.cmpltu m x) s = .next { s with gys.ba := decide (s.gys.wa.toNat < v.toNat), gys.pc := s.pcNext }) ∧
  (∀ (s : State) (m x a : Nat), memWf zeroByte s.gys.mem = true → s.Executes 0x11 m x → m ≠ 0 → s.wordAddr m x = .ok a →
  gysWritable a = true →
    gysWritable (a + widthBytes (x / 2 ^ 22) - 1) = true → s.gys.dirty.length < 1024 →
    ∃ t, exec (.st m x) s = .next t ∧
      t = { s with gys.mem := t.gys.mem, gys.dirty := t.gys.dirty, gys.pc := s.pcNext } ∧
      t.gysStored a (widthBytes (x / 2 ^ 22)) = s.gys.wa.toNat % 2 ^ (8 * widthBytes (x / 2 ^ 22)) ∧
      (∀ k, k < a ∨ a + widthBytes (x / 2 ^ 22) ≤ k → t.gysByte k = s.gysByte k)) ∧
  (∀ (s : State) (m x : Nat) (v : Word), s.Executes 0x13 m x → s.wordOp m x = .ok v →
    (-(2 ^ 31) ≤ s.gys.wa.toInt + v.toInt ∧ s.gys.wa.toInt + v.toInt < 2 ^ 31 →
      exec (.add m x) s = .next { s with gys.wa := s.gys.wa + v, gys.pc := s.pcNext }) ∧
    (∀ u : State, (s.gys.wa.toInt + v.toInt < -(2 ^ 31) ∨ 2 ^ 31 ≤ s.gys.wa.toInt + v.toInt) →
    s.gysWrite 0x858 (toLe 4 (s.gysStored 0x858 4 ||| 1)) = .ok u →
      exec (.add m x) s = .next { u with gys.wa := s.gys.wa + v, gys.pc := s.pcNext })) ∧
  (∀ (s : State) (m x : Nat) (v : Word), s.Executes 0x14 m x → s.wordOp m x = .ok v →
    (-(2 ^ 31) ≤ s.gys.wa.toInt - v.toInt ∧ s.gys.wa.toInt - v.toInt < 2 ^ 31 →
      exec (.sub m x) s = .next { s with gys.wa := s.gys.wa - v, gys.pc := s.pcNext }) ∧
    (∀ u : State, (s.gys.wa.toInt - v.toInt < -(2 ^ 31) ∨ 2 ^ 31 ≤ s.gys.wa.toInt - v.toInt) →
    s.gysWrite 0x858 (toLe 4 (s.gysStored 0x858 4 ||| 1)) = .ok u →
      exec (.sub m x) s = .next { u with gys.wa := s.gys.wa - v, gys.pc := s.pcNext })) ∧
  (∀ (s : State) (m x : Nat) (v : Word), s.Executes 0x15 m x → s.wordOp m x = .ok v →
    (-(2 ^ 31) ≤ s.gys.wa.toInt * v.toInt ∧ s.gys.wa.toInt * v.toInt < 2 ^ 31 →
      exec (.mul m x) s = .next { s with gys.wa := s.gys.wa * v, gys.pc := s.pcNext }) ∧
    (∀ u : State, (s.gys.wa.toInt * v.toInt < -(2 ^ 31) ∨ 2 ^ 31 ≤ s.gys.wa.toInt * v.toInt) →
    s.gysWrite 0x858 (toLe 4 (s.gysStored 0x858 4 ||| 1)) = .ok u →
      exec (.mul m x) s = .next { u with gys.wa := s.gys.wa * v, gys.pc := s.pcNext })) ∧
  (∀ (s : State) (m x : Nat) (v : Word), s.Executes 0x1C m x → s.wordOp m x = .ok v →
    (-(2 ^ 31) ≤ s.gys.wa.toInt * 2 ^ (v.toNat % 32) ∧ s.gys.wa.toInt * 2 ^ (v.toNat % 32) < 2 ^ 31 →
      exec (.shl m x) s = .next { s with gys.wa := s.gys.wa <<< (v.toNat % 32), gys.pc := s.pcNext }) ∧
    (∀ u : State, (s.gys.wa.toInt * 2 ^ (v.toNat % 32) < -(2 ^ 31) ∨ 2 ^ 31 ≤ s.gys.wa.toInt * 2 ^ (v.toNat % 32)) →
    s.gysWrite 0x858 (toLe 4 (s.gysStored 0x858 4 ||| 1)) = .ok u →
      exec (.shl m x) s = .next { u with gys.wa := s.gys.wa <<< (v.toNat % 32), gys.pc := s.pcNext })) ∧
  (∀ (s : State) (m x : Nat) (v : Word), s.Executes 0x16 m x → s.wordOp m x = .ok v → v ≠ 0 →
    ¬(s.gys.wa = 0x80000000#32 ∧ v = 0xFFFFFFFF#32) →
    exec (.div m x) s = .next { s with gys.wa := s.gys.wa.sdiv v, gys.pc := s.pcNext }) ∧
  (∀ (s u : State) (m x : Nat), s.Executes 0x16 m x → s.wordOp m x = .ok 0 →
    s.gysWrite 0x858 (toLe 4 (s.gysStored 0x858 4 ||| 2)) = .ok u →
    exec (.div m x) s = .next { u with gys.wa := 0, gys.pc := s.pcNext }) ∧
  (∀ (s u : State) (m x : Nat), s.Executes 0x16 m x → s.wordOp m x = .ok 0xFFFFFFFF#32 → s.gys.wa = 0x80000000#32 →
    s.gysWrite 0x858 (toLe 4 (s.gysStored 0x858 4 ||| 1)) = .ok u →
    exec (.div m x) s = .next { u with gys.pc := s.pcNext }) ∧
  (∀ (s : State) (m x : Nat) (v : Word), s.Executes 0x17 m x → s.wordOp m x = .ok v → v ≠ 0 →
    exec (.mod m x) s = .next { s with gys.wa := s.gys.wa.srem v, gys.pc := s.pcNext }) ∧
  (∀ (s u : State) (m x : Nat), s.Executes 0x17 m x → s.wordOp m x = .ok 0 →
    s.gysWrite 0x858 (toLe 4 (s.gysStored 0x858 4 ||| 2)) = .ok u →
    exec (.mod m x) s = .next { u with gys.wa := 0, gys.pc := s.pcNext })

/-- The float instructions and CVT leave the rounded result in WA, FCMPLT its relation in BA, with the bits of ARITH they set and
no other byte changed; a comparison with NaN is false; the float of an integer raises no flag. SYS COPY with a block inside the
stated ranges copies its bytes as if through a buffer: the destination reads what the source read before, and no other byte
changes. The bits of a NaN are free (log 7), and the flags follow log 17. -/
def Obligations.FloatInstructionsAndBlockCopy : Prop :=
  (∀ (s u : State) (m x : Nat) (v : Word), s.Executes 0x24 m x → m ≠ 0 → s.wordOp m x = .ok v →
    s.setArith (flAdd s.gys.wa v).2 = .ok u →
    exec (.fadd m x) s = .next { u with gys.wa := (flAdd s.gys.wa v).1, gys.pc := s.pcNext }) ∧
  (∀ (s u : State) (m x : Nat) (v : Word), s.Executes 0x25 m x → m ≠ 0 → s.wordOp m x = .ok v →
    s.setArith (flSub s.gys.wa v).2 = .ok u →
    exec (.fsub m x) s = .next { u with gys.wa := (flSub s.gys.wa v).1, gys.pc := s.pcNext }) ∧
  (∀ (s u : State) (m x : Nat) (v : Word), s.Executes 0x26 m x → m ≠ 0 → s.wordOp m x = .ok v →
    s.setArith (flMul s.gys.wa v).2 = .ok u →
    exec (.fmul m x) s = .next { u with gys.wa := (flMul s.gys.wa v).1, gys.pc := s.pcNext }) ∧
  (∀ (s u : State) (m x : Nat) (v : Word), s.Executes 0x27 m x → m ≠ 0 → s.wordOp m x = .ok v →
    s.setArith (flDiv s.gys.wa v).2 = .ok u →
    exec (.fdiv m x) s = .next { u with gys.wa := (flDiv s.gys.wa v).1, gys.pc := s.pcNext }) ∧
  (∀ (s u : State) (m x : Nat) (v : Word), s.Executes 0x28 m x → m ≠ 0 → s.wordOp m x = .ok v →
    s.setArith (flLt s.gys.wa v).2 = .ok u →
    exec (.fcmplt m x) s = .next { u with gys.ba := (flLt s.gys.wa v).1, gys.pc := s.pcNext }) ∧
  (∀ (s u : State), s.Executes 0x29 0 0 → s.setArith (cvtToFloat s.gys.wa).2 = .ok u →
    exec (.cvt 0 0) s = .next { u with gys.wa := (cvtToFloat s.gys.wa).1, gys.pc := s.pcNext }) ∧
  (∀ (s u : State), s.Executes 0x29 0 1 → s.setArith (cvtToInt s.gys.wa).2 = .ok u →
    exec (.cvt 0 1) s = .next { u with gys.wa := (cvtToInt s.gys.wa).1, gys.pc := s.pcNext }) ∧
  (∀ (s u : State) (a : Arith), memWf zeroByte s.gys.mem = true → s.setArith a = .ok u →
    u = { s with gys.mem := u.gys.mem, gys.dirty := u.gys.dirty } ∧ u.gysByte 0x858 = s.gysByte 0x858 ||| BitVec.ofNat 8 a.bits ∧
      (∀ k, k ≠ 0x858 → u.gysByte k = s.gysByte k)) ∧
  (∀ a b : Word, (∀ q, flOf a ≠ .nan q) → (∀ q, flOf b ≠ .nan q) → (flLt a b).2.bits = 0 ∧ ¬((flLt a b).1 = true ∧
  (flLt b a).1 = true)) ∧
  (∀ (a b : Word) (q : Bool), flOf a = .nan q ∨ flOf b = .nan q → (flLt a b).1 = false) ∧
  (∀ a : Word, (cvtToFloat a).2.bits = 0) ∧
  (∀ (s : State) (dst src len : Nat), memWf zeroByte s.gys.mem = true → s.Executes 0x2F 0 1 → s.copyBlock = (dst, src, len) →
  s.gys.ix + 12 ≤ 0x40000 →
    len ≤ 65536 → src + len ≤ 0x40000 → dst + len ≤ 0x40000 → rangeWritable dst len = true →
    s.gys.dirty.length + ((s.changedLines dst (s.gysBytes src len)).filter fun l => !(s.gys.dirty.contains l)).length ≤ 1024 →
    ∃ t, exec (.sysCopy 0 1) s = .next t ∧
      t = { s with gys.mem := t.gys.mem, gys.dirty := t.gys.dirty, gys.pc := s.pcNext } ∧
      (∀ k < len, t.gysByte (dst + k) = s.gysSeen (src + k)) ∧
      (∀ k, k < dst ∨ dst + len ≤ k → t.gysByte k = s.gysByte k))

/-- The operand of an instruction: mode I of a word instruction is its 24 bits sign-extended; mode D of width 0 to 3 reads 4, 2, 2
or 1 bytes, little-endian, the signed half word extended; a misaligned or reserved operand gives cause 0x03 or 0x02. The readings
of log 18 are the model's. -/
def Obligations.OperandForms : Prop :=
  (∀ (s : State) (x : Nat), x < 2 ^ 23 → s.wordOp 0 x = .ok (BitVec.ofNat 32 x)) ∧
  (∀ (s : State) (x : Nat), 2 ^ 23 ≤ x → x < 2 ^ 24 → s.wordOp 0 x = .ok (BitVec.ofNat 32 (x + 0xFF000000))) ∧
  (∀ (s : State) (a : Nat), a < 0x40000 → a % 4 = 0 → s.wordOp 1 a = .ok (BitVec.ofNat 32 (s.gysLoad a 4))) ∧
  (∀ (s : State) (a : Nat), a < 0x40000 → a % 2 = 0 →
    s.wordOp 1 (a + 2 ^ 22) = .ok (BitVec.signExtend 32 (BitVec.ofNat 16 (s.gysLoad a 2)))) ∧
  (∀ (s : State) (a : Nat), a < 0x40000 → a % 2 = 0 → s.wordOp 1 (a + 2 ^ 23) = .ok (BitVec.ofNat 32 (s.gysLoad a 2))) ∧
  (∀ (s : State) (a : Nat), a < 0x40000 → s.wordOp 1 (a + 2 ^ 22 + 2 ^ 23) = .ok (BitVec.ofNat 32 (s.gysLoad a 1))) ∧
  (∀ (s : State) (a : Nat), a < 0x40000 → a % 4 ≠ 0 → s.wordOp 1 a = .error 3) ∧
  (∀ (s : State) (a : Nat), a + s.gys.ix < 0x40000 → a < 0x40000 → (a + s.gys.ix) % 4 = 0 →
    s.wordOp 2 a = .ok (BitVec.ofNat 32 (s.gysLoad (a + s.gys.ix) 4))) ∧
  (∀ (s : State) (a b : Nat), b < 0x40000 → b % 4 = 0 → s.gysLoad b 4 % 2 ^ 18 = a → a % 4 = 0 →
    s.wordOp 3 b = .ok (BitVec.ofNat 32 (s.gysLoad a 4))) ∧
  (∀ (s : State) (x : Nat), s.boolOp 0 x = if x = 0 then .ok false else if x = 1 then .ok true else .error 2) ∧
  (∀ (s : State) (a : Nat), a < 2 ^ 21 → s.boolOp 1 a = .ok (s.gysBit a)) ∧
  (∀ (s : State) (a : Nat), a < 2 ^ 21 → a + s.gys.ix < 2 ^ 21 → s.boolOp 2 a = .ok (s.gysBit (a + s.gys.ix)))

/-- The input phase of a running engine, with nothing dirty and no host write, force or repeated action waiting, begins the
execute phase: the next cycle number, cleared accumulators and stacks, the program counter at the entry point, the field inputs in
the data space, the flags of one cycle spent; END runs the output phase: no host, hoist or safety state but the field outputs, the
send objects and the request records changes when no group is open. The close turns the dirty lines into the cycle's journal, and
stops a cycle that was to be stopped; the trailer of the oldest journal makes its cycle the last durable one; a durable journal
becomes the retained image; a cycle that is not closed in time faults with cause 0x01 and, within its limit per day, restarts
warm. The phase code of a fault is the model's (log 27), and data never written read 0 (log 11). -/
def Obligations.CyclesRunAndAreKept : Prop :=
  (∀ (s : State) (dt : Nat), s.inputReady dt = true → s.gys.st = 1 → s.gys.ctrl = 0 → s.gys.dirty = [] → s.gys.writes = [] →
    s.gys.forceOps = [] → s.gys.again = [] → s.gys.forces = [] → memWf zeroByte s.gys.mem = true →
    ∃ t, exec (.gysInputPhase dt) s = .next t ∧ t.gys.phase = .execute ∧ t.gys.st = 1 ∧
      t.gys.cycle = (s.gys.cycle + 1) % 2 ^ 64 ∧ t.gys.ba = false ∧ t.gys.wa = 0 ∧ t.gys.ix = 0 ∧ t.gys.bstack = [] ∧
      t.gys.rstack = [] ∧ t.gys.pc = s.image 12 4 ∧ t.gys.resumed = false ∧ t.gys.woke = false ∧ t.gys.changed = false ∧
      t.gys.restarted = false ∧ t.gysStored 0x1000 8 = s.fio.image % 2 ^ 64 ∧ t.gysStored 0 8 = (s.gys.cycle + 1) % 2 ^ 64 ∧
      t.pwr = { s.pwr with supplyRecovered := false } ∧ t.hst = s.hst ∧ t.cle = s.cle ∧ t.saf = s.saf ∧ t.fio = s.fio ∧
      t.dr0 = s.dr0 ∧ t.dr1 = s.dr1 ∧ t.rtc = s.rtc ∧ t.host = s.host ∧ t.grp = s.grp) ∧
  (∀ s : State, s.Executes 0x2F 0 0 → (∀ x ∈ s.grp.groups, x.state = 0) →
    ∃ t, exec (.sysEnd 0 0) s = .next t ∧ t.gys.phase = .closing ∧ t.gys.outputsOff = false ∧ t.fio.gysOff = false ∧
      t.fio.word = leNat (s.gysBytes 0x6000 6) ∧ t.gys.mem = s.gys.mem ∧ t.gys.dirty = s.gys.dirty ∧
      t = { s with gys := t.gys, fio := t.fio, can0 := t.can0, can1 := t.can1 }) ∧
  (∀ (s : State) (us : Nat), s.engines = true → s.gys.phase = .closing ∨ s.gys.phase = .faulted → s.closeFree = true →
    s.gys.ctrl ≠ 3 →
    ∃ t, exec (.gysClose us) s = .next t ∧
      t.gys = { s.gys with journals := s.gys.journals ++ [⟨s.gys.cycle, s.gys.dirty.length, s.gys.mem, false⟩], dirty := [],
                           phase := .boundary } ∧
      s.ParsKept t [Idx.GYS_LINESPEAK, Idx.GYS_JLAGPEAK] ∧ t = { s with dir := t.dir, gys := t.gys }) ∧
  (∀ (s : State) (us : Nat), s.engines = true → s.gys.phase = .closing → s.closeFree = true → s.gys.ctrl = 3 → s.gys.st = 1 →
    ∃ t, exec (.gysClose us) s = .next t ∧ t.gys.st = 2 ∧ t.gys.phase = .boundary ∧ t.gys.dirty = [] ∧ t.gys.ctrl = 0 ∧
      (∀ c ∈ t.fio.ch, c.on = false) ∧ s.Records t 0x040B 2 0xFF ∧
      t = { s with dir := t.dir, gys := t.gys, tph := t.tph, fio := t.fio, hst := t.hst }) ∧
  (∀ (s : State) (pre post : List Journal) (j : Journal), s.opCounts = true → s.gys.journals = pre ++ j :: post →
    (∀ x ∈ pre, x.durable = true) → j.durable = false →
    exec .journalDurable s = .next { s with gys.journals := pre ++ { j with durable := true } :: post, gys.durCycle := j.cycle,
                                            gys.marks := s.gys.marks.filter fun m => decide (j.cycle < m.1) }) ∧
  (∀ (s : State) (j : Journal) (js : List Journal), s.opCounts = true → s.gys.journals = j :: js → j.durable = true →
    exec .journalApplied s = .next { s with gys.retained := j.image, gys.journals := js }) ∧
  (∀ (s : State) (us : Nat), s.engines = true → s.gys.st = 1 → s.gys.phase = .execute ∨ s.gys.phase = .closing →
    s.parN Idx.GYS_CYCMAX ≤ us →
    ∃ t, exec (.cycleDeadline us) s = .next t ∧ t.gys.st = 3 ∧ t.gys.phase = .faulted ∧ t.par Idx.GYS_FAULT = 1 ∧
      t.par Idx.GYS_FAULTPC = s.gys.pc ∧ t.par Idx.GYS_FAULTCYC = s.gys.cycle ∧ t.gys.mem = s.gys.mem ∧
      t.gys.dirty = s.gys.dirty ∧ (∀ c ∈ t.fio.ch, c.on = false) ∧
      ((s.gys.autoTimes.filter fun x => decide (s.pwr.opTime < x + 86400000)).length < s.parN Idx.GYS_AUTORST →
        t.gys.ctrl = 1 ∧ t.gys.ctrlAuto = true) ∧
      t = { s with dir := t.dir, tph := t.tph, gys := t.gys, fio := t.fio, hst := t.hst })

/-- GYS.CTRL: WARM_RESTART in STOPPED or APPFAULT, COLD_RESTART with a program and the car parked, STOP while running with the car
parked wait for their boundary and complete OK. An online change at a boundary makes its bank the active one at the next version,
releases the claim, and completes; on the first activation the engine runs from the initial data. That an online change is one row
is the model's (log 25). -/
def Obligations.ProgramsRestartAndChange : Prop :=
  (∀ (s : State) (tag : Nat), s.Admitted tag 0x03 0 → (s.flight tag).widx = Idx.GYS_CTRL → (s.flight tag).wval = 1 →
    (s.noteSeq (s.flight tag)).writeForm (s.flight tag) = none → (s.noteSeq (s.flight tag)).writeOwner (s.flight tag) = none →
    s.gys.st = 2 ∨ s.gys.st = 3 →
    ∃ t, exec (.warmRestart tag) s = .next t ∧ s.Completed t tag .ok ∧ t.gys = { s.gys with ctrl := 1, ctrlAuto := false } ∧
      t = { s with host := t.host, dir := t.dir, gys := t.gys }) ∧
  (∀ (s : State) (tag : Nat), s.Admitted tag 0x03 0 → (s.flight tag).widx = Idx.GYS_CTRL → (s.flight tag).wval = 2 →
    (s.noteSeq (s.flight tag)).writeForm (s.flight tag) = none → (s.noteSeq (s.flight tag)).writeOwner (s.flight tag) = none →
    s.gys.bank.isSome = true → s.carParked = true →
    ∃ t, exec (.coldRestart tag) s = .next t ∧ s.Completed t tag .ok ∧ t.gys = { s.gys with ctrl := 2, ctrlAuto := false } ∧
      t = { s with host := t.host, dir := t.dir, gys := t.gys }) ∧
  (∀ (s : State) (tag : Nat), s.Admitted tag 0x03 0 → (s.flight tag).widx = Idx.GYS_CTRL → (s.flight tag).wval = 3 →
    (s.noteSeq (s.flight tag)).writeForm (s.flight tag) = none → (s.noteSeq (s.flight tag)).writeOwner (s.flight tag) = none →
    s.gys.st = 1 → s.carParked = true →
    ∃ t, exec (.gysStop tag) s = .next t ∧ s.Completed t tag .ok ∧ t.gys = { s.gys with ctrl := 3, ctrlAuto := false } ∧
      t = { s with host := t.host, dir := t.dir, gys := t.gys }) ∧
  (∀ (s : State) (tag us tid : Nat) (f : Flight), (∃ x ∈ s.dir.tables, x.id = tid) → s.flight? tag = some f →
    f.switches = some tid → isBank tid = true → s.gys.phase = .boundary → s.opCounts = true → us ≤ 6000 →
    s.versionMoved f tid = false →
    ∃ t, exec (.onlineChange tag us) s = .next t ∧ s.Completed t tag .ok ∧ t.gys.bank = some (tid - 0x0600) ∧
      t.gys.changed = true ∧ (t.tbl tid).claim = none ∧ (t.tbl tid).body = (s.tbl tid).body ∧
      (t.tbl tid).durable = (s.tbl tid).body ∧ t.par Idx.GYS_OCPAUSE = us ∧ (s.gys.bank = none → t.gys.st = 1) ∧
      (s.gys.bank ≠ none → t.gys.journals = [] ∧ t.gys.durCycle = s.gys.cycle ∧ t.gys.st = s.gys.st) ∧
      (∀ k, k ≠ tid → t.tbl k = s.tbl k) ∧ t = { s with host := t.host, dir := t.dir, gys := t.gys, sec := t.sec, tph := t.tph })

/-- A field input that has held the opposite level for its filter's samples changes its filtered state and queues the edge, and
nothing else changes; the tick of a device in operation leaves no queued edge. -/
def Obligations.FieldInputsAreFiltered : Prop :=
  (∀ (s : State) (n count at_ : Nat), s.engines = true → n < 48 → n < s.fio.ch.length → s.isInput n = true →
    (s.fch n).preset = false → s.filterN n ≤ count → (s.fch n).edges.length < 8 →
    ∃ t, exec (.filteredEdge n count at_) s = .next t ∧ t = { s with fio.ch := t.fio.ch } ∧
      t.fch n = { s.fch n with state := !(s.fch n).state, raw := !(s.fch n).state,
                               edges := (s.fch n).edges ++ [⟨at_, !(s.fch n).state⟩] } ∧
      (∀ k, k ≠ n → t.fch k = s.fch k)) ∧
  (∀ (s : State) (raw nodes lim : Nat) (mA : List Nat), s.engines = true → s.fio.ch.length = 48 →
    ∃ t, exec (.fioTick raw nodes lim mA) s = .next t ∧ (∀ c ∈ t.fio.ch, c.edges = [] ∧ c.extra = 0) ∧
      (∀ n < 48, s.isInput n = true → (s.fch n).preset = true →
        (t.fch n).state = (raw.testBit n != s.parBit (Idx.FIO_CnCFG n) 3) ∧ (t.fch n).preset = false) ∧
      (∀ n < 48, s.isInput n = true → (s.fch n).preset = false → (t.fch n).state = (s.fch n).state) ∧
      (∀ n < 48, s.isOutput n = true → (t.fch n).on = (s.fch n).on ∧ (t.fch n).cur = mA.getD n 0) ∧ t.fio.word = s.fio.word ∧
      t.pwr = s.pwr ∧ t.host = s.host ∧ t.gys = s.gys ∧ t.cle = s.cle ∧ t.saf = s.saf ∧ t.rtc = s.rtc ∧ t.grp = s.grp)

/-- Faults of field channels: an external drive clears after 100 ms low; the current limit is recorded once it has held 10 ms; a
thermal shutdown turns the channel off and counts a retry, and after FIO.RETRYT a cooled channel restarts; the aggregate current
above 6.0 A for 100 ms is recorded. Above 8.0 A for 10 ms channels are switched off from the highest number downward, latched,
until the sum is at most 6.0 A, and no channel that is off turns on. The backfeed probe that finds every suspect still high after
its last channel declares each externally driven. Levels and currents are operands (log 5), and the probe's row is log 57. -/
def Obligations.FieldFaultsAndCurrent : Prop :=
  (∀ (s : State) (n : Nat), s.engines = true → n < 48 → n < s.fio.ch.length → (s.fch n).extDrive = true → 100 ≤ (s.fch n).low →
    ∃ t, exec (.fioFaultCleared n) s = .next t ∧ t.fch n = { s.fch n with extDrive := false } ∧
      (∀ k, k ≠ n → t.fch k = s.fch k) ∧ s.Records t 0x0A08 2 n ∧ s.EventsOnly t [] ∧
      t = { s with dir := t.dir, tph := t.tph, fio.ch := t.fio.ch }) ∧
  (∀ (s : State) (n : Nat), s.engines = true → n < 48 → n < s.fio.ch.length → (s.fch n).limiting = true →
    10 ≤ (s.fch n).limMs → (s.fch n).limTold = false →
    ∃ t, exec (.fioLimiting n) s = .next t ∧ t.fch n = { s.fch n with limTold := true } ∧ (∀ k, k ≠ n → t.fch k = s.fch k) ∧
      s.Records t 0x0A03 3 n ∧ s.EventsOnly t [] ∧ t = { s with dir := t.dir, tph := t.tph, fio.ch := t.fio.ch }) ∧
  (∀ (s : State) (n : Nat), s.engines = true → n < 48 → n < s.fio.ch.length → s.isOutput n = true → (s.fch n).on = true →
    ∃ t, exec (.fioThermal n) s = .next t ∧ (t.fch n).on = false ∧ (t.fch n).thermal = true ∧
      (t.fch n).retries = min 15 ((s.fch n).retries + 1) ∧ (t.fch n).shutAt = some s.pwr.opTime ∧
      ((t.fch n).latched = true ↔ (s.fch n).latched = true ∨ fieldOf (s.parN (Idx.FIO_CnCFG n)) 9 8 = 1 ∨
        fieldOf (s.parN (Idx.FIO_CnCFG n)) 9 8 = 0 ∧ s.parN Idx.FIO_RETRYMX ≤ (s.fch n).retries + 1) ∧
      (∀ k, k ≠ n → t.fch k = s.fch k) ∧ s.Records t 0x0A04 3 n ∧ s.EventsOnly t [Idx.FIO_CnFLTS n] ∧
      t = { s with dir := t.dir, tph := t.tph, fio.ch := t.fio.ch }) ∧
  (∀ (s : State) (n at_ : Nat), s.engines = true → n < 48 → n < s.fio.ch.length → (s.fch n).thermal = true →
    (s.fch n).latched = false → (s.fch n).cmd = true → s.fio.held = false → s.fio.gysOff = false →
    (s.fch n).shutAt = some at_ → at_ + s.parN Idx.FIO_RETRYT ≤ s.pwr.opTime →
    ∃ t, exec (.thermalRetry n true) s = .next t ∧
      t.fch n = { s.fch n with thermal := false, on := true, onAt := s.pwr.opTime, shutAt := none } ∧
      (∀ k, k ≠ n → t.fch k = s.fch k) ∧ t = { s with fio.ch := t.fio.ch }) ∧
  (∀ s : State, s.engines = true → s.fio.aggHigh = false → 100 ≤ s.fio.aggMs →
    ∃ t, exec .fioAggHigh s = .next t ∧ t.fio = { s.fio with aggHigh := true } ∧ s.Records t 0x0A06 3 0xFF ∧
      s.EventsOnly t [] ∧ t = { s with dir := t.dir, tph := t.tph, fio := t.fio }) ∧
  (∀ s : State, s.engines = true → 10 ≤ s.fio.shedMs → s.fio.ch.length = 48 →
    ∃ t, exec .fioShed s = .next t ∧ t.fio.shedMs = 0 ∧
      (∀ n < 48, (t.fch n).on = ((s.fch n).on && !(shedList ((List.range 48).reverse.map fun k => (k,
      s.fch k)) s.fio.agg).contains n)) ∧
      (∀ n ∈ shedList ((List.range 48).reverse.map fun k => (k, s.fch k)) s.fio.agg,
        (t.fch n).shed = true ∧ (t.fch n).latched = true) ∧
      (∀ n < 48, n ∉ shedList ((List.range 48).reverse.map fun k => (k, s.fch k)) s.fio.agg → t.fch n = s.fch n) ∧
      s.EventsOnly t [Idx.FIO_SHEDCNT] ∧ t = { s with dir := t.dir, tph := t.tph, fio := t.fio }) ∧
  (∀ (s : State) (nodes c : Nat), s.engines = true → s.fio.probe = some [c] → s.fio.probeDue = true → s.fio.held = false →
    s.fio.ch.length = 48 → (∀ n ∈ s.suspects, nodes.testBit n = true) →
    ∃ t, exec (.backfeedProbe nodes) s = .next t ∧ t.fio.probe = none ∧ t.fio.probeDue = false ∧
      (∀ n ∈ s.suspects, t.fch n = { s.fch n with extDrive := true, suspect := false, low := 0 }) ∧
      (∀ n, n ∉ s.suspects → t.fch n = s.fch n) ∧
      s.EventsOnly t ((List.range 48).map Idx.FIO_CnFLTS) ∧ t = { s with dir := t.dir, tph := t.tph, fio := t.fio })

/-- Position: each period takes both sources' frames; the INC count gives position and speed every 125 µs and its history; a
signal fault takes INC out of the fusion and asks for a controlled stop; a valid load voltage gives HST.LOAD on its line. The end
of the learning run: with both slowdown inputs and two edges for every landing latched it writes the floor table, marked as
learned, the terminal positions and its status; without a slowdown input it is a learning fault of cause 4 that leaves the floor
table. The filter gain is opaque (log 9), and roundings follow log 8. -/
def Obligations.PositionIsFusedAndLearned : Prop :=
  (∀ (s : State) (fa fb : Option SsiFrame) (ts : Nat), s.engines = true →
    ∃ t, exec (.ssiRead fa fb ts) s = .next t ∧ t.hst.psa = s.ssiTake 0 (s.par Idx.HST_PSAOFS) s.hst.psa fa ∧
      t.hst.psb = s.ssiTake 1 (s.par Idx.HST_PSBOFS) s.hst.psb fb ∧ t.hst.inc = s.hst.inc ∧ t.hst.st = s.hst.st ∧
      t.hst.target = s.hst.target ∧
      s.EventsOnly t [Idx.HST_FUSERES, Idx.HST_LEARNSTAT, Idx.HST_LEARNCAUSE] ∧
      t = { s with hst := t.hst, dir := t.dir, tph := t.tph }) ∧
  (∀ (s : State) (count : Int) (at_ : Nat), s.engines = true → s.par Idx.HST_INCRES ≠ 0 → s.hst.incBad = false →
    s.parBit Idx.HST_PSDIR 2 = false →
    exec (.incRead count at_ false) s = .next { s with
      hst.pf := rdiv (s.par Idx.HST_INCRES * count * 256) 1000000 + s.hst.offset
      hst.vf := s.hst.vf + rdiv ((rdiv (s.par Idx.HST_INCRES * (count - s.hst.inc) * 8000) 1000000 - s.hst.vf) *
        Config.firstOrder 100000 125000) (2 ^ 32)
      hst.inc := count
      hst.hist := ((at_, rdiv (s.par Idx.HST_INCRES * count * 256) 1000000 + s.hst.offset) :: s.hst.hist).take 512 }) ∧
  (∀ s : State, s.engines = true → s.hst.incBad = false → s.hst.learn.step = 0 →
    ∃ t, exec .incSignal s = .next t ∧ t.hst = { s.hst with incBad := true, causes := setBit s.hst.causes 2 true } ∧
      s.Records t 0x0513 4 0xFF ∧ s.EventsOnly t [] ∧ t = { s with hst := t.hst, dir := t.dir, tph := t.tph }) ∧
  (∀ (s : State) (a b : Int), s.engines = true → s.par Idx.HST_LWSEL = 0 → mag a ≤ 10000000 →
    ∃ t, exec (.loadSample a b) s = .next t ∧ t.hst = { s.hst with loadOk := true } ∧
      t.par Idx.HST_LOAD = clampInt 0 65535 (rdiv (s.par Idx.HST_RATEDKG * (a - s.par Idx.HST_LWEMPTY))
        (s.par Idx.HST_LWFULL - s.par Idx.HST_LWEMPTY)) ∧
      s.ParsKept t [Idx.HST_LOAD] ∧ s.TablesKept t ∧ t = { s with hst := t.hst, dir := t.dir }) ∧
  (∀ (s : State) (a b : Int), s.engines = true → s.par Idx.HST_LWSEL = 0 → 10000000 < mag a →
    exec (.loadSample a b) s = .next { s with hst.loadOk := false }) ∧
  (∀ (s : State) (lo hi : Int), (∃ x ∈ s.dir.tables, x.id = 0x0100) → s.engines = true → s.hst.learn.step = 4 →
    s.hst.learn.tsdLo = some lo → s.hst.learn.tsdHi = some hi → s.hst.learn.edges.length = 2 * s.nland →
    s.par Idx.HST_ZEROMODE = 1 →
    ∃ t, exec .learnDone s = .next t ∧ t.hst.learn = {} ∧ t.hst.unlearned = false ∧ t.par Idx.HST_TERMLO = lo ∧
      t.par Idx.HST_TERMHI = hi ∧ t.par Idx.HST_LEARNCAUSE = 0 ∧
      (t.par Idx.HST_LEARNSTAT = 1 ∨ t.par Idx.HST_LEARNSTAT = 2) ∧
      (t.tbl 0x0100).ver = ((s.tbl 0x0100).ver + 1) % 2 ^ 32 ∧ (t.tbl 0x0100).origin = 2 ∧
      (∀ k, k ≠ 0x0100 → t.tbl k = s.tbl k) ∧ s.Records t 0x0505 2 0xFF ∧
      t = { s with hst := t.hst, dir := t.dir, tph := t.tph, sec := t.sec }) ∧
  (∀ s : State, s.engines = true → s.hst.learn.step = 4 → s.hst.learn.tsdLo = none →
    ∃ t, exec .learnDone s = .next t ∧ t.hst.st = .learnFault ∧ t.hst.learn = {} ∧ t.par Idx.HST_LEARNSTAT = 3 ∧
      t.par Idx.HST_LEARNCAUSE = 4 ∧ s.Records t 0x0506 4 0xFF ∧
      s.EventsOnly t [Idx.HST_LEARNSTAT, Idx.HST_LEARNCAUSE] ∧ t = { s with hst := t.hst, dir := t.dir, tph := t.tph })

/-- A MOVE, a Geyser MOVE_REQ, a STOP_MOTION and a LEARN_RUN that pass their checks wait for the replanning tick with nothing
moved yet; the tick answers every waiting target and stop unless the car is stopping at its target or relevelling, a stop with no
target waiting in any state, and touches no supply, field, CAN, ring or clock state. The order of the tick's work beyond the rules
is log 45. -/
def Obligations.TargetsWaitForTheTick : Prop :=
  (∀ (s : State) (tag : Nat), s.Admitted tag 0x10 1 → s.hostSource (s.flight tag).slot = true →
    s.targetRefusal (moveTgt (s.flight tag).p (.host tag)) = none → s.saf.btPhase = 0 →
    ∃ t, exec (.move tag) s = .next t ∧
    t.hst = { s.hst with waiting := s.hst.waiting ++ [moveTgt (s.flight tag).p (.host tag)] } ∧
      (t.flight tag).phase = .moveWait ∧ t.host.store = s.host.store ∧ t = { s with host := t.host, hst := t.hst }) ∧
  (∀ (s : State) (p : List Byte), s.engines = true → s.gysReq 0 = some p → s.par Idx.HST_CMDSRC = 0 → s.saf.btPhase = 0 →
    s.targetRefusal { pos := getS p 4 4, landing := getU p 2 1, flags := getU p 3 1, src := .geyser (getU p 0 2) } = none →
    exec .moveReq s = .next { s with
      gys.reqs := s.gys.reqs.set 0 none
      hst.waiting := s.hst.waiting ++
        [{ pos := getS p 4 4, landing := getU p 2 1, flags := getU p 3 1, src := .geyser (getU p 0 2) }] }) ∧
  (∀ (s : State) (tag : Nat), s.Admitted tag 0x11 1 → (getU (s.flight tag).p 0 1).testBit 0 = false →
    s.hostSource (s.flight tag).slot = true →
    ∃ t, exec (.stopMotion tag) s = .next t ∧ (t.flight tag).phase = .stopWait ∧ t.host.store = s.host.store ∧
      t = { s with host := t.host }) ∧
  (∀ (s : State) (tag : Nat), s.Admitted tag 0x11 1 → (getU (s.flight tag).p 0 1).testBit 0 = true →
    s.hostSource (s.flight tag).slot = true →
    ∃ t, exec (.stopMotionAtLanding tag) s = .next t ∧ (t.flight tag).phase = .stopWait ∧ t.host.store = s.host.store ∧
      t = { s with host := t.host }) ∧
  (∀ (s : State) (tag : Nat), s.Admitted tag 0x13 2 → s.hostSource (s.flight tag).slot = true → s.pwr.state = .run →
    s.hst.st = .idle ∨ s.hst.st = .disabled → s.mode = 0 →
    (∀ i ∈ [Idx.HST_DZFIO, Idx.HST_LIMLO, Idx.HST_LIMHI, Idx.HST_TSDLO, Idx.HST_TSDHI], s.inputChannel i = true) →
    ∃ t, exec (.learnRun tag) s = .next t ∧ (t.flight tag).phase = .learnWait ∧ t.host.store = s.host.store ∧
      t = { s with host := t.host }) ∧
  (∀ s : State, s.engines = true →
    ∃ t, exec .replanningTick s = .next t ∧ t.hst.stopReq = none ∧ t.hst.invNew = [] ∧ t.hst.dlReplied = false ∧
      (s.hst.st ≠ .stopping → s.hst.st ≠ .relevelling → t.hst.waiting = [] ∧ ∀ f ∈ t.host.ops, f.phase ≠ .stopWait) ∧
      (s.hst.waiting = [] → ∀ f ∈ t.host.ops, f.phase ≠ .stopWait) ∧ t.pwr = s.pwr ∧
      t.lmp = s.lmp ∧ t.fio = s.fio ∧ t.can0 = s.can0 ∧ t.can1 = s.can1 ∧ t.rtc = s.rtc ∧ t.rng = s.rng ∧ t.dsp = s.dsp)

/-- A run: the release of the profile, the end of the pre-torque ramp, a start that times out or is refused, the level error at
the stop, the end of the dwell at a reversal landing, and a relevel that asks for SOD. The reference starts at the fused position
(log 21), and standstill is log 45. -/
def Obligations.RunsStartAndEnd : Prop :=
  (∀ s : State, s.engines = true → s.hst.runReq = true → s.hst.liftReq = true → s.hst.released = false → s.soClosed 2 = true →
    s.brakesLifted = true → s.hst.st = .starting → s.cle.slots.length = 16 → s.par Idx.HST_RUNS < 2 ^ 32 - 1 →
    ∃ t, exec .profileRelease s = .next t ∧
      t.hst = { s.hst with released := true, rampAt := some s.pwr.opTime, st := .moving,
                           preOut := rdiv ((s.cslot 14).out * s.par (Idx.CLE_SnFSOUT 14)) (2 ^ 31) } ∧
      t.cslot 12 = { s.cslot 12 with want := true } ∧ t.cslot 13 = { s.cslot 13 with want := true } ∧
      t.cslot 14 = { s.cslot 14 with want := false } ∧ (∀ n, n ≠ 12 → n ≠ 13 → n ≠ 14 → t.cslot n = s.cslot n) ∧
      t.par Idx.HST_RUNS = s.par Idx.HST_RUNS + 1 ∧ s.ParsKept t [Idx.HST_RUNS] ∧
      t = { s with hst := t.hst, dir := t.dir, cle.slots := t.cle.slots }) ∧
  (∀ (s : State) (at_ : Nat), s.hst.rampAt = some at_ → at_ + 200 ≤ s.pwr.opTime →
    exec .pretorqueRampEnd s = .next { s with hst.rampAt := none, hst.preOut := 0 }) ∧
  (∀ (s : State) (at_ : Nat), s.engines = true → s.hst.runReq = true → s.hst.released = false → s.hst.st ≠ .reversalDwell →
    (getU s.hst.invFrame 2 1).testBit 0 = false → s.hst.socAt = some at_ → at_ + s.parN Idx.HST_STARTTMO ≤ s.pwr.opTime →
    ∃ t, exec .startTimeout s = .next t ∧
      t.hst.st = (if s.hst.st = .learning ∨ s.hst.st = .learnFault then .learnFault else .idle) ∧ t.hst.runReq = false ∧
      t.hst.liftReq = false ∧ t.hst.enable = false ∧ t.hst.target = none ∧ t.hst.waiting = s.hst.waiting ∧
      (∀ n ∈ [12, 13, 14], (t.cslot n).want = false) ∧ s.Records t 0x0514 4 0xFF ∧ (s.hst.learn.step = 0 → s.EventsOnly t []) ∧
      (s.hst.learn.step ≠ 0 → t.par Idx.HST_LEARNSTAT = 3 ∧ t.par Idx.HST_LEARNCAUSE = 5 ∧ s.Records t 0x0506 4 0xFF) ∧
      s.EventsOnly t [Idx.HST_LEARNSTAT, Idx.HST_LEARNCAUSE] ∧
      t = { s with hst := t.hst, dir := t.dir, tph := t.tph, cle.slots := t.cle.slots, saf.sodHst := none }) ∧
  (∀ s : State, s.engines = true → s.hst.runReq = true → s.hst.released = false → s.hst.st ≠ .reversalDwell → s.hst.socAt = none →
    s.hst.reqAt + s.parN Idx.HST_STARTTMO ≤ s.pwr.opTime →
    ∃ t, exec .startRefused s = .next t ∧ t.hst.runReq = false ∧ t.hst.liftReq = false ∧ t.hst.enable = false ∧
      t.hst.st = (if s.tripped then .fault else if s.hst.st = .learning ∨ s.hst.st = .learnFault then .learnFault else .idle) ∧
      t.hst.target = none ∧ t.hst.waiting = s.hst.waiting ∧ (∀ n ∈ [12, 13, 14], (t.cslot n).want = false) ∧
      s.Records t 0x0515 4 0xFF ∧ (s.hst.learn.step = 0 → s.EventsOnly t []) ∧
      s.EventsOnly t [Idx.HST_LEARNSTAT, Idx.HST_LEARNCAUSE] ∧
      t = { s with hst := t.hst, dir := t.dir, tph := t.tph, cle.slots := t.cle.slots, saf.sodHst := none }) ∧
  (∀ (s : State) (ms : Nat) (g : Tgt), s.engines = true → s.hst.released = true → s.refRest = true → s.hst.liftReq = false →
    s.hst.levelled = false → s.brakesApplied = true → s.hst.goal = .target → s.hst.target = some g → g.landing = 0xFF →
    s.hst.learn.step = 0 → s.hst.st ≠ .relevelling → 200 ≤ ms →
    ∃ t, exec (.levelErrorTaken ms) s = .next t ∧ t.par Idx.HST_LEVERR = s.carPos - g.pos ∧
      t.hst = { s.hst with enable := false, runReq := false, levelled := true, target := none, retained := s.carPos } ∧
      s.Records t 0x0501 1 0xFF ∧ s.EventsOnly t [Idx.HST_LEVERR] ∧
      t = { s with hst := t.hst, dir := t.dir, tph := t.tph, cle.slots := t.cle.slots }) ∧
  (∀ s : State, s.engines = true → s.hst.st = .reversalDwell → s.hst.runReq = false →
  s.hst.dwellAt + s.parN Idx.HST_BRKDWELL ≤ s.pwr.opTime →
    s.doorsShut = true → s.hst.target.isSome = true →
    ∃ t, exec .reversalDwellEnd s = .next t ∧ t.hst.st = .starting ∧ t.hst.runReq = true ∧ t.hst.released = false ∧
      t.hst.target = s.hst.target ∧ t.hst.reqAt = s.pwr.opTime ∧ t = { s with hst := t.hst, dir := t.dir, tph := t.tph }) ∧
  (∀ (s : State) (k ms : Nat), s.pwr.state = .run → s.hst.st = .idle → s.parkedLanding = some k → s.doorOpen = true → 100 ≤ ms →
    s.parN Idx.HST_RELEVTOL < mag (s.carPos - s.level k) →
    ∃ t, exec (.relevel ms) s = .next t ∧
      t.hst = { s.hst with st := .relevelling, reqAt := s.pwr.opTime, runReq := false, levelled := false } ∧
      s.Records t 0x050E 1 k ∧ s.EventsOnly t [] ∧
      t = { s with hst := t.hst, dir := t.dir, tph := t.tph, saf.sodHst := some k })

/-- The drive link: a device frame of 28 bytes with the next sequence number; a good reply is kept for the tick; a second missing
frame while the inverter is enabled makes the link faulty and asks for a controlled stop; 100 good frames restore it. The
inverter's frames are operands (log 5, 46). -/
def Obligations.DriveLinkIsSupervised : Prop :=
  (∀ s : State, s.engines = true →
    ∃ t, exec .deviceFrame s = .next t ∧ t.hst.dlSeq = (s.hst.dlSeq + 1) % 256 ∧ t.hst.devFrame.length = 28 ∧
      t.hst.devFrame.take 2 = [0xA5, BitVec.ofNat 8 ((s.hst.dlSeq + 1) % 256)] ∧
      t.hst = { s.hst with dlSeq := t.hst.dlSeq, devFrame := t.hst.devFrame, dlReplied := false, invNew := [],
                           fltReset := t.hst.fltReset, fltTried := t.hst.fltTried } ∧ t = { s with hst := t.hst }) ∧
  (∀ (s : State) (bs : List Byte) (us : Nat), s.engines = true → s.hst.dlReplied = false → s.replyGood bs true us = true →
    s.hst.dlStat < 2 →
    exec (.inverterFrame bs true us) s = .next { s with
      hst.dlReplied := true, hst.invNew := bs.take 28, hst.dlMiss := 0, hst.dlStat := 0,
      saf.chA.dlMiss := 0, saf.chB.dlMiss := 0 }) ∧
  (∀ (s : State) (us : Nat), s.engines = true → s.hst.dlReplied = false → 450 ≤ us → s.hst.enable = true → s.hst.dlMiss = 1 →
    s.hst.dlStat < 2 → s.par Idx.HST_DLMISS < 2 ^ 32 - 1 → s.par Idx.HST_DLFAULTS < 2 ^ 32 - 1 →
    ∃ t, exec (.dlReplyDeadline us) s = .next t ∧
      t.hst = { s.hst with dlReplied := true, dlGood := 0, dlMiss := 2, dlStat := 2, causes := setBit s.hst.causes 4 true } ∧
      t.par Idx.HST_DLMISS = s.par Idx.HST_DLMISS + 1 ∧ t.par Idx.HST_DLFAULTS = s.par Idx.HST_DLFAULTS + 1 ∧
      s.Records t 0x050B 4 0xFF ∧ s.EventsOnly t [Idx.HST_DLMISS, Idx.HST_DLFAULTS] ∧
      t = { s with hst := t.hst, dir := t.dir, tph := t.tph, saf.chA.dlMiss := t.saf.chA.dlMiss,
                   saf.chB.dlMiss := t.saf.chB.dlMiss }) ∧
  (∀ s : State, s.engines = true → 2 ≤ s.hst.dlStat → 100 ≤ s.hst.dlGood →
    ∃ t, exec .dlRestored s = .next t ∧
      t.hst = { s.hst with dlStat := 0, dlGood := 0, dlMiss := 0, causes := setBit s.hst.causes 4 false } ∧
      s.Records t 0x050D 2 0xFF ∧ s.EventsOnly t [] ∧ t = { s with hst := t.hst, dir := t.dir, tph := t.tph })

/-- Caldera's period and sample: every slot whose period begins latches its inputs, no other changes; an enabled slot without a
repetitive unit, monitor or force residual computes the control law and changes nothing else; every node of the law is saturated
to Q1.31. A slot's computed output is written, outside a group applied; one that is late writes its previous output again and
counts and records the deadline fault; the lowest compared output of the enabled members wins a group, the lower slot number on a
tie. The points of log 47 are the model's. -/
def Obligations.SlotsComputeAndWrite : Prop :=
  (∀ (s : State) (minor : Nat) (sh : List Int) (src : Int), s.engines = true → 1 ≤ minor → minor < 16 →
    s.cle.slots.length = 16 →
    ∃ t, exec (.periodStart minor sh src) s = .next t ∧
      (∀ n < 16, beginsAt n minor = true → n ≠ 15 →
        t.cslot n = { s.cslot n with wLat := (s.cslot n).wIn, yLat := (s.cslot n).yIn, fLat := (s.cslot n).fIn, stage := 1,
                                     restable := (s.cslot n).restable || !(s.cslot n).on }) ∧
      (∀ n < 16, beginsAt n minor = false → t.cslot n = s.cslot n) ∧
      t = { s with cle.slots := t.cle.slots, cle.shunts := sh }) ∧
  (∀ (s : State) (sh : List Int) (src : Int), s.engines = true →
    ∃ t, exec (.periodStart 0 sh src) s = .next t ∧ t.cle.gdue = [true, true, true] ∧ t.cle.shunts = sh ∧
      t.cle.group = s.cle.group ∧ t.cle.winners = s.cle.winners ∧ t.cle.traces = s.cle.traces ∧ t = { s with cle := t.cle }) ∧
  (∀ (s : State) (n : Nat), s.engines = true → n < 16 → s.cle.slots.length = 16 → (s.cslot n).on = true →
    (s.cslot n).stage = 1 → s.unitOf n = none → s.parBit (Idx.CLE_SnCFG n) 5 = false → n ≠ 4 → n ≠ 10 →
    ∃ t, exec (.slotSample n) s = .next t ∧ t.cslot n = s.law n 0 ∧ (∀ k, k ≠ n → t.cslot k = s.cslot k) ∧
      t = { s with cle.slots := t.cle.slots }) ∧
  (∀ (s : State) (n : Nat) (r : Int), ∀ x ∈ [(s.law n r).e, (s.law n r).p, (s.law n r).i, (s.law n r).d, (s.law n r).v,
    (s.law n r).u, (s.law n r).f, (s.law n r).yp, (s.law n r).rf], -(2 ^ 31) ≤ x ∧ x < 2 ^ 31) ∧
  (∀ (s : State) (n : Nat), s.engines = true → n < 16 → s.cle.slots.length = 16 → (s.cslot n).on = true →
    (s.cslot n).stage = 2 →
    ∃ t, exec (.slotWrite n) s = .next t ∧ (t.cslot n).out = (s.cslot n).u ∧ (t.cslot n).stage = 0 ∧
      (t.cslot n).late = 0 ∧ (t.cslot n).deadline = false ∧
      ((t.cslot n).a, (t.cslot n).a2) =
        (if (groupOf n).isNone then ((s.cslot n).u, (s.cslot n).a) else ((s.cslot n).a, (s.cslot n).a2)) ∧
      (∀ k, k ≠ n → t.cslot k = s.cslot k) ∧ t = { s with cle.slots := t.cle.slots, cle.traces := t.cle.traces }) ∧
  (∀ (s : State) (n : Nat), s.engines = true → n < 16 → s.cle.slots.length = 16 → (s.cslot n).on = true →
    (s.cslot n).stage = 1 → (s.cslot n).late = 0 → s.par (Idx.CLE_SnDLCNT n) < 2 ^ 32 - 1 →
    ∃ t, exec (.slotWrite n) s = .next t ∧ (t.cslot n).out = (s.cslot n).out ∧ (t.cslot n).stage = 0 ∧
      (t.cslot n).late = 1 ∧ (t.cslot n).deadline = true ∧ (t.cslot n).on = true ∧
      t.par (Idx.CLE_SnDLCNT n) = s.par (Idx.CLE_SnDLCNT n) + 1 ∧ s.Records t 0x0601 3 n ∧
      s.EventsOnly t [Idx.CLE_SnDLCNT n] ∧ (∀ k, k ≠ n → t.cslot k = s.cslot k) ∧
      t = { s with dir := t.dir, tph := t.tph, cle.slots := t.cle.slots, cle.traces := t.cle.traces }) ∧
  (∀ (s : State) (g : Nat), s.engines = true → g < 3 → s.cle.gdue.getD g false = true → s.cle.group.length = 3 →
    s.cle.winners.length = 3 → (∀ n ∈ groupMembers g, (s.cslot n).on = true → (s.cslot n).stage = 0) →
    ∃ t, exec (.groupWrite g) s = .next t ∧ t.cle.group.getD g 0 = (s.groupValue g).1 ∧
      t.cle.winners.getD g 15 = (s.groupValue g).2 ∧ t.cle.gdue.getD g false = false ∧
      (∀ k, k ≠ g → t.cle.group.getD k 0 = s.cle.group.getD k 0 ∧ t.cle.winners.getD k 15 = s.cle.winners.getD k 15) ∧
      (∀ n, n ∉ groupMembers g → t.cslot n = s.cslot n) ∧ t = { s with cle := t.cle, dr0 := t.dr0, dr1 := t.dr1 }) ∧
  (∀ (s : State) (d : Int) (ns : List Nat) (n : Nat), s.winner d ns = some n →
    n ∈ ns ∧ (s.cslot n).on = true ∧ ∀ m ∈ ns, (s.cslot m).on = true → s.compared d n ≤ s.compared d m)

/-- A permitted slot is enabled at its sample with every state cleared and its inputs kept; a request that is not permitted is
dropped; a slot no longer wanted is disabled with output 0; a learned table is saved as a device change; a trace buffer takes its
samples; TRACE_READ of a complete buffer returns its samples and changes nothing but the host block. That a request not permitted
is dropped, and that a saved table is durable at once, are the model's (log 47, 12). -/
def Obligations.SlotsEnableAndTrace : Prop :=
  (∀ (s : State) (n : Nat), s.engines = true → n < 16 → s.cle.slots.length = 16 → s.slotWanted n = true →
    (s.cslot n).on = false → (s.cslot n).stage = 1 → s.slotPermitted n = true → (s.cslot n).fault = false →
    ∃ t, exec (.slotEnable n) s = .next t ∧
      t.cslot n = { wIn := (s.cslot n).wIn, yIn := (s.cslot n).yIn, fIn := (s.cslot n).fIn, wLat := (s.cslot n).wLat,
                    yLat := (s.cslot n).yLat, fLat := (s.cslot n).fLat, want := (s.cslot n).want, on := true,
                    ramping := s.par (Idx.CLE_SnRAMP n) != 0, satfl := (s.cslot n).satfl, stage := 1 } ∧
      (∀ k, k ≠ n → t.cslot k = s.cslot k) ∧ t = { s with cle.slots := t.cle.slots }) ∧
  (∀ (s : State) (n : Nat), s.engines = true → n < 16 → s.cle.slots.length = 16 → s.slotWanted n = true →
    (s.cslot n).on = false → (s.cslot n).stage = 1 → s.slotPermitted n = false →
    ∃ t, exec (.slotEnable n) s = .next t ∧ t.cslot n = { s.cslot n with want := false } ∧
      (∀ k, k ≠ n → t.cslot k = s.cslot k) ∧ t = { s with cle.slots := t.cle.slots }) ∧
  (∀ (s : State) (n : Nat), n < 16 → s.cle.slots.length = 16 → (s.cslot n).on = true → s.slotWanted n = false →
    ∃ t, exec (.slotDisable n) s = .next t ∧ (t.cslot n).on = false ∧ (t.cslot n).out = 0 ∧ (t.cslot n).a = 0 ∧
      (t.cslot n).satfl = (s.cslot n).satfl ∧ (∀ k, k ≠ n → t.cslot k = s.cslot k) ∧ t = { s with cle.slots := t.cle.slots }) ∧
  (∀ (s : State) (u : Nat), u < 4 → u < s.cle.units.length → (s.cle.units.getD u {}).learned = true →
    (∃ x ∈ s.dir.tables, x.id = 0x0400 + u) →
    ∃ t, exec (.cleRcSaved u) s = .next t ∧
      t.cle.units.getD u {} = { s.cle.units.getD u {} with learned := false, savedAt := s.pwr.opTime } ∧
      (t.tbl (0x0400 + u)).ver = ((s.tbl (0x0400 + u)).ver + 1) % 2 ^ 32 ∧ (t.tbl (0x0400 + u)).origin = 2 ∧
      (t.tbl (0x0400 + u)).durable = (s.tbl (0x0400 + u)).body ∧ (∀ k, k ≠ 0x0400 + u → t.tbl k = s.tbl k) ∧
      s.Records t 0x0604 0 u ∧ s.ParsKept t [Idx.TPH_BUFDROPS] ∧
      t = { s with dir := t.dir, tph := t.tph, cle.units := t.cle.units }) ∧
  (∀ (s : State) (b : Nat), s.engines = true → b < 4 → b < s.cle.traces.length → (s.cle.traces.getD b {}).due = true →
    (s.cle.traces.getD b {}).st = 3 → 2 ≤ (s.cle.traces.getD b {}).left →
    (s.cslot (s.parN (Idx.CLE_TRbSIG01 b) % 65536 / 256)).on = true → (s.cle.traces.getD b {}).skip = 0 →
    ∃ t, exec (.traceSample b) s = .next t ∧
      (t.cle.traces.getD b {}).buf = (s.cle.traces.getD b {}).buf ++ [(s.traceSignals b).map s.nodeValue] ∧
      (t.cle.traces.getD b {}).left = (s.cle.traces.getD b {}).left - 1 ∧ (t.cle.traces.getD b {}).st = 3 ∧
      (∀ k, k ≠ b → t.cle.traces.getD k {} = s.cle.traces.getD k {}) ∧ t = { s with cle.traces := t.cle.traces }) ∧
  (∀ (s : State) (tag : Nat), s.Admitted tag 0x3C 0 → getU (s.flight tag).p 0 1 ≤ 3 → getU (s.flight tag).p 1 1 ≤ 3 →
    1 ≤ getU (s.flight tag).p 4 2 → getU (s.flight tag).p 4 2 ≤ 112 →
    getU (s.flight tag).p 2 2 + getU (s.flight tag).p 4 2 ≤ 4096 →
    (s.cle.traces.getD (getU (s.flight tag).p 0 1) {}).st = 4 →
    ∃ t, exec (.traceRead tag) s = .next t ∧ s.Completed t tag .ok ∧ t = { s with host := t.host })

/-- The seven DOOR commands and a Geyser door request wait for the sequencer tick, in the order received, with the door as it was;
the tick answers every command of both operators and takes their currents' mean. The ends of a door's way: an edge of the closed
switch sets the axis and the reference; the door closed and at rest enters CLOSED with its counts cleared and its closing
recorded; a door at its open stop enters OPEN; the hold demand falls after DRn.HOLDDLY; a train-arrival window raises it and its
end lowers it; a learned profile is saved as a device change. The points of log 48 are the model's. -/
def Obligations.DoorCommandsAndEnds : Prop :=
  (∀ p ∈ [(Instr.doorOpen, 1), (Instr.doorClose, 2), (Instr.doorNudge, 3), (Instr.doorHold, 4), (Instr.doorStop, 5),
      (Instr.doorReopen, 6), (Instr.doorLearn, 7)],
    ∀ (s : State) (tag n : Nat), s.Admitted tag 0x12 1 → getU (s.flight tag).p 0 1 = n → n < 2 →
    getU (s.flight tag).p 1 1 = p.2 → s.saf.btPhase = 0 →
    ∃ t, exec (p.1 tag) s = .next t ∧
      t.dn n = { s.dn n with cmds := (s.dn n).cmds ++ [⟨p.2, getU (s.flight tag).p 2 1, .host tag⟩] } ∧
      (t.flight tag).phase = .doorWait ∧ t.host.store = s.host.store ∧ t.dn (1 - n) = s.dn (1 - n) ∧
      t = { s with host := t.host, dr0 := t.dr0, dr1 := t.dr1 }) ∧
  (∀ (s : State) (n : Nat) (p : List Byte), s.engines = true → n < 2 → s.gysReq (1 + n) = some p → 1 ≤ getU p 2 1 →
    getU p 2 1 ≤ 7 → s.saf.btPhase = 0 →
    ∃ t, exec (.doorReq n) s = .next t ∧
      t.dn n = { s.dn n with cmds := (s.dn n).cmds ++ [⟨getU p 2 1, getU p 3 1, .geyser (getU p 0 2)⟩] } ∧
      t.dn (1 - n) = s.dn (1 - n) ∧ t = { s with gys.reqs := s.gys.reqs.set (1 + n) none, dr0 := t.dr0, dr1 := t.dr1 }) ∧
  (∀ (s : State) (r0 r1 : Nat), s.engines = true →
    ∃ t, exec (.sequencerTick r0 r1) s = .next t ∧ t.dr0.cmds = [] ∧ t.dr1.cmds = [] ∧ t.dr0.iqN = 0 ∧ t.dr1.iqN = 0 ∧
      t.dr0.edges = s.dr0.edges ∧ t.dr1.edges = s.dr1.edges ∧
      t = { s with host := t.host, dir := t.dir, gys := t.gys, cle := t.cle, dr0 := t.dr0, dr1 := t.dr1, saf := t.saf,
                   tph := t.tph }) ∧
  (∀ (s : State) (n : Nat) (e : FEdge) (rest : List (Nat × FEdge)), s.engines = true → n < 2 →
    (s.dn n).edges = (0, e) :: rest → e.rising ≠ s.parBit (Idx.DRn_INPOL n) 0 → (s.dn n).st ≠ .disabled → (s.dn n).dir < 0 →
    (s.dn n).ref ≠ 0 → (mag ((interpolate e.at_ (s.dn n).hist).getD (s.dn n).x) : Int) ≤ s.dp n Idx.DRn_REFTOL →
    (s.dn n).learn.step = 0 →
    ∃ t, exec (.doorSwitchEdge n) s = .next t ∧ (t.dn n).edges = rest ∧ (t.dn n).ref = 1 ∧
      (t.dn n).x = (s.dn n).x - (interpolate e.at_ (s.dn n).hist).getD (s.dn n).x ∧ (t.dn n).st = (s.dn n).st ∧
      t.dn (1 - n) = s.dn (1 - n) ∧ t = { s with dr0 := t.dr0, dr1 := t.dr1 }) ∧
  (∀ (s : State) (n : Nat), s.engines = true → n < 2 → 200 ≤ (s.dn n).restC → (s.dn n).moving = true → (s.dn n).dir < 0 →
    (s.dn n).braking = false → (s.dn n).st = .closing → (s.dn n).wasOpen = true → s.par (Idx.DRn_CYCLES n) < 2 ^ 32 - 1 →
    ∃ t, exec (.doorClosed n) s = .next t ∧ (t.dn n).st = .closed ∧ (t.dn n).moving = false ∧ (t.dn n).dir = 0 ∧
      (t.dn n).reopens = 0 ∧ (t.dn n).gates = true ∧ (t.dn n).held = false ∧ (t.dn n).restAt = s.pwr.opTime ∧
      (t.dn n).wasOpen = false ∧ t.par (Idx.DRn_CYCLES n) = s.par (Idx.DRn_CYCLES n) + 1 ∧
      s.Records t (0x0702 + 0x100 * n) 1 (s.dn n).landing ∧ t.dn (1 - n) = s.dn (1 - n) ∧
      t = { s with dir := t.dir, tph := t.tph, cle.slots := t.cle.slots, dr0 := t.dr0, dr1 := t.dr1, dsp := t.dsp }) ∧
  (∀ (s : State) (n : Nat), s.openedReady n = true → (s.dn n).st = .opening → s.dsp.notices = [] → s.dsp.calls = [] →
    ∃ t, exec (.doorOpened n) s = .next t ∧ (t.dn n).st = .open_ ∧ (t.dn n).moving = false ∧ (t.dn n).wasOpen = true ∧
      (t.dn n).gates = true ∧ (t.dn n).restAt = s.pwr.opTime ∧ t.dn (1 - n) = s.dn (1 - n) ∧
      s.Records t (0x0701 + 0x100 * n) 1 (s.dn n).landing ∧ t.pwr = s.pwr ∧ t.hst = s.hst ∧ t.fio = s.fio) ∧
  (∀ (s : State) (n : Nat), n < 2 → (s.dn n).st = .closed ∨ (s.dn n).st = .open_ → (s.dn n).held = false →
    (s.dn n).restAt + s.parN (Idx.DRn_HOLDDLY n) ≤ s.pwr.opTime →
    ∃ t, exec (.holdDelayExpired n) s = .next t ∧ t.dn n = { s.dn n with held := true } ∧ t.dn (1 - n) = s.dn (1 - n) ∧
      t = { s with cle.slots := t.cle.slots, dr0 := t.dr0, dr1 := t.dr1 }) ∧
  (∀ (s : State) (n : Nat), s.engines = true → n < 2 → (s.dn n).boosting = false → s.boostNow n = true →
    ∃ t, exec (.doorBoost n) s = .next t ∧ t.dn n = { s.dn n with boosting := true } ∧ t.dn (1 - n) = s.dn (1 - n) ∧
      s.Records t (0x070E + 0x100 * n) 0 (s.parkedLanding.getD 0xFF) ∧ s.EventsOnly t [] ∧
      t = { s with dir := t.dir, tph := t.tph, cle.slots := t.cle.slots, dr0 := t.dr0, dr1 := t.dr1 }) ∧
  (∀ (s : State) (n : Nat), n < 2 → (s.dn n).boosting = true → s.boostNow n = false →
    ∃ t, exec (.boostEnd n) s = .next t ∧
      t.dn n = { s.dn n with boosting := false, windows := (s.dn n).windows.filter fun w => decide (s.rng.time < w.hi) } ∧
      t.dn (1 - n) = s.dn (1 - n) ∧ t = { s with cle.slots := t.cle.slots, dr0 := t.dr0, dr1 := t.dr1 }) ∧
  (∀ (s : State) (n : Nat), n < 2 → (s.dn n).learned = true → (∃ x ∈ s.dir.tables, x.id = 0x0300 + n) →
    ∃ t, exec (.doorProfileSaved n) s = .next t ∧ t.dn n = { s.dn n with learned := false } ∧ t.dn (1 - n) = s.dn (1 - n) ∧
      (t.tbl (0x0300 + n)).ver = ((s.tbl (0x0300 + n)).ver + 1) % 2 ^ 32 ∧ (t.tbl (0x0300 + n)).origin = 2 ∧
      (t.tbl (0x0300 + n)).durable = (s.tbl (0x0300 + n)).body ∧ (∀ k, k ≠ 0x0300 + n → t.tbl k = s.tbl k) ∧
      s.Records t (0x070A + 0x100 * n) 0 0xFF ∧ s.ParsKept t [Idx.TPH_BUFDROPS] ∧
      t = { s with dir := t.dir, tph := t.tph, dr0 := t.dr0, dr1 := t.dr1 })

/-- The bridge and the drive faults of an operator: the compare values; a gate undervoltage acts at once; a stall and a hot
winding are kept for the tick; the offsets of an enable release the gates, or fail; a current sample within DRn.IMAX sets the
phase currents; a Hall code that is no code of the sequence twice is a fault. Angle functions are opaque (log 9), and the
observer's estimate is an operand (log 49). -/
def Obligations.DoorDriveIsSupervised : Prop :=
  (∀ (s : State) (n : Nat), s.engines = true → n < 2 → (s.dn n).gates = true →
    ∃ t, exec (.compareLoad n) s = .next t ∧ t.dn n = { s.dn n with duty := s.duties n } ∧ t.dn (1 - n) = s.dn (1 - n) ∧
      t = { s with dr0 := t.dr0, dr1 := t.dr1 }) ∧
  (∀ (s : State) (n : Nat), s.doorLive n = true →
    ∃ t, exec (.gateUvlo n) s = .next t ∧ (t.dn n).st = .fault ∧ (t.dn n).gates = false ∧ (t.dn n).moving = false ∧
      (t.dn n).x = (s.dn n).x ∧ t.par (Idx.DRn_FAULT n) = 2 ∧ (∀ k ∈ doorSlots n [0, 1, 2, 3, 4, 5], (t.cslot k).want = false) ∧
      s.Records t (0x0707 + 0x100 * n) 4 0xFF ∧ s.EventsOnly t [Idx.DRn_FAULT n] ∧ t.dn (1 - n) = s.dn (1 - n) ∧
      t = { s with dir := t.dir, tph := t.tph, cle.slots := t.cle.slots, dr0 := t.dr0, dr1 := t.dr1,
                   saf.sodDr0 := t.saf.sodDr0, saf.sodDr1 := t.saf.sodDr1 }) ∧
  (∀ (s : State) (n at_ : Nat) (x : Int), s.doorLive n = true → (s.dn n).moving = true → (s.dn n).obstructed = none →
    (s.dn n).stallAt = some (at_, x) → at_ + 3000 ≤ s.pwr.opTime → (s.dn n).pendFault = none →
    ∃ t, exec (.stall n) s = .next t ∧ t.dn n = { s.dn n with pendFault := some 9 } ∧ t.dn (1 - n) = s.dn (1 - n) ∧
      t = { s with dr0 := t.dr0, dr1 := t.dr1 }) ∧
  (∀ (s : State) (n at_ : Nat), s.doorLive n = true → (s.dn n).hotAt = none → (s.dn n).hotSince = some at_ →
    at_ + 1000 ≤ s.pwr.opTime →
    ∃ t, exec (.windingTemp n) s = .next t ∧ t.dn n = { s.dn n with hotAt := some s.pwr.opTime } ∧
      t.dn (1 - n) = s.dn (1 - n) ∧ t = { s with dr0 := t.dr0, dr1 := t.dr1 }) ∧
  (∀ (s : State) (n us : Nat) (u v : Int), s.doorLive n = true → s.cle.slots.length = 16 → (s.dn n).measuring = true → 200 ≤ us →
    mag u ≤ 20000 → mag v ≤ 20000 →
    ∃ t, exec (.offsetMeasured n u v us) s = .next t ∧ t.dn n = { s.dn n with measuring := false, gates := true } ∧
      (t.cslot (6 * n)).want = true ∧ (t.cslot (6 * n + 1)).want = true ∧ t.dn (1 - n) = s.dn (1 - n) ∧
      t = { s with cle.slots := t.cle.slots, dr0 := t.dr0, dr1 := t.dr1 }) ∧
  (∀ (s : State) (n us : Nat) (u v : Int), s.doorLive n = true → (s.dn n).measuring = true → 200 ≤ us → 20000 < mag u →
    ∃ t, exec (.offsetMeasured n u v us) s = .next t ∧ t.dn n = { s.dn n with measuring := false, pendFault := some 8 } ∧
      t.dn (1 - n) = s.dn (1 - n) ∧ t = { s with dr0 := t.dr0, dr1 := t.dr1 }) ∧
  (∀ (s : State) (n at_ : Nat) (obs : Int), s.engines = true → n < 2 → (s.dn n).st ≠ .disabled →
    (s.dn n).overs.length = 3 → (∀ k ∈ (s.dn n).overs, k = 0) →
    ∃ t, exec (.currentSample n at_ obs) s = .next t ∧ (t.dn n).st = (s.dn n).st ∧
      (t.dn n).iu = rdiv (s.cle.shunts.getD (2 * n) 0 * 1000) (s.dp n Idx.DRn_RSHUNT) ∧
      (t.dn n).iv = rdiv (s.cle.shunts.getD (2 * n + 1) 0 * 1000) (s.dp n Idx.DRn_RSHUNT) ∧ (t.dn n).iqN = (s.dn n).iqN + 1 ∧
      t.dn (1 - n) = s.dn (1 - n) ∧ t = { s with cle.slots := t.cle.slots, dr0 := t.dr0, dr1 := t.dr1 }) ∧
  (∀ (s : State) (n code : Nat), s.engines = true → n < 2 → (s.dn n).st ≠ .disabled → s.sensorless n = false →
    code = 0 ∨ code = 7 → (s.dn n).pendFault = none →
    ∃ t, exec (.hallRead n code) s = .next t ∧
      t.dn n = { s.dn n with hallBad := (s.dn n).hallBad + 1, pendFault := if 1 ≤ (s.dn n).hallBad then some 3 else none } ∧
      t.dn (1 - n) = s.dn (1 - n) ∧ t = { s with dr0 := t.dr0, dr1 := t.dr1 }) ∧
  (∀ (s : State) (n code j k : Nat), s.engines = true → n < 2 → (s.dn n).st ≠ .disabled → s.sensorless n = false →
    hallPlace code = some k → hallPlace (s.dn n).hall = some j → k = (j + 1) % 6 ∨ j = (k + 1) % 6 →
    ∃ t, exec (.hallRead n code) s = .next t ∧ (t.dn n).hall = code ∧ (t.dn n).hallBad = 0 ∧
      (t.dn n).hallDir = (if k = (j + 1) % 6 then 1 else -1) ∧ (t.dn n).pendFault = (s.dn n).pendFault ∧
      t.dn (1 - n) = s.dn (1 - n) ∧ t = { s with dr0 := t.dr0, dr1 := t.dr1 })

/-- The sample task: the samples and the INC counts are held, filtered states stay; without a frame a channel that formed a
position keeps it; a valid frame of PSA alone sets p_S and v_S; the second consecutive value above the overspeed limit trips SF3.
A missing frame invalidates its source; an input's filtered state changes after its filter, the mode follows, and a mode change
opens a closed SOC; a silent neighbour is lost with the own extent kept as a limit. The two channels are two records (log 13), and
the readings of the conditions are log 42. -/
def Obligations.SafetySamplesAndFilters : Prop :=
  (∀ (s : State) (ch si : Nat) (inc : Int) (latch : Option Int) (fa fb : Option SsiFrame) (sc : Bool), ch < 2 →
  s.saf.running = true →
    ∃ t, exec (.sampleTask ch si inc latch fa fb sc) s = .next t ∧
      (t.chan (ch == 0)).raw = si % 2 ^ 16 ∧ (t.chan (ch == 0)).inc = inc ∧ (t.chan (ch == 0)).incBad = sc ∧
      (t.chan (ch == 0)).flt = (s.chan (ch == 0)).flt ∧
      (t.chan (ch == 0)).agree = countAgree (s.chan (ch == 0)).flt si 0 (s.chan (ch == 0)).agree ∧
      (fa = none → fb = none → (s.chan (ch == 0)).formed = true →
        (t.chan (ch == 0)).pS = (s.chan (ch == 0)).pS ∧ (t.chan (ch == 0)).vS = (s.chan (ch == 0)).vS) ∧
      (∀ f, fa = some f → fb = none → (s.chan (ch == 0)).b.valid = false →
        safFrameOk (s.par Idx.HST_SSIMODE == 1) (s.chan (ch == 0)) (s.chan (ch == 0)).a
          (framePos (s.parBit Idx.SAF_PSDIR 0) (s.par Idx.SAF_PSAOFS) f.raw) f = true →
        (t.chan (ch == 0)).pS = framePos (s.parBit Idx.SAF_PSDIR 0) (s.par Idx.SAF_PSAOFS) f.raw ∧
        (t.chan (ch == 0)).vS = (if (s.chan (ch == 0)).a.seen = true ∨ (s.chan (ch == 0)).b.seen = true
          then ((t.chan (ch == 0)).pS - (s.chan (ch == 0)).p1) * 1000 else 0) ∧
        (s.parN Idx.SAF_VRATED * s.parN Idx.SAF_VOSPCT < mag (t.chan (ch == 0)).vS * 1000 →
          1 ≤ (s.chan (ch == 0)).qual.getD 2 0 → (t.chan (ch == 0)).own.testBit 2 = true ∧ (t.chan (ch == 0)).sw = 0)) ∧
      t.chan (!(ch == 0)) = s.chan (!(ch == 0)) ∧
      s.EventsOnly t [Idx.SAF_LASTTRIP, Idx.SAF_TRIPCOUNT, Idx.HST_LEARNSTAT, Idx.HST_LEARNCAUSE] ∧
      t = { s with dir := t.dir, pwr.state := t.pwr.state, hst := t.hst, cle.slots := t.cle.slots, saf := t.saf, tph := t.tph }) ∧
  (∀ (s : State) (ch el : Nat), ch < 2 → s.saf.running = true → 550 + 500 * (s.chan (ch == 0)).a.missing ≤ el →
    ∃ t, exec (.ssiFrameMissing ch 0 el) s = .next t ∧
      t.chan (ch == 0) = { s.chan (ch == 0) with a.valid := false, a.missing := (s.chan (ch == 0)).a.missing + 1 } ∧
      t.chan (!(ch == 0)) = s.chan (!(ch == 0)) ∧ t = { s with saf.chA := t.saf.chA, saf.chB := t.saf.chB }) ∧
  (∀ (s : State) (ch el : Nat), ch < 2 → s.saf.running = true → 550 + 500 * (s.chan (ch == 0)).b.missing ≤ el →
    ∃ t, exec (.ssiFrameMissing ch 1 el) s = .next t ∧
      t.chan (ch == 0) = { s.chan (ch == 0) with b.valid := false, b.missing := (s.chan (ch == 0)).b.missing + 1 } ∧
      t.chan (!(ch == 0)) = s.chan (!(ch == 0)) ∧ t = { s with saf.chA := t.saf.chA, saf.chB := t.saf.chB }) ∧
  (∀ (s : State) (ch n : Nat), ch < 2 → n < 16 → s.saf.running = true →
    (if n < 14 then s.parN (Idx.SAF_SIFILTn n) else 4) ≤ (s.chan (ch == 0)).agree.getD n 0 →
    ∃ t, exec (.safetyInputChange ch n) s = .next t ∧
      (t.chan (ch == 0)).flt = setBit (s.chan (ch == 0)).flt n (!(s.chan (ch == 0)).flt.testBit n) ∧
      (t.chan (ch == 0)).agree = (s.chan (ch == 0)).agree.set n 0 ∧
      (t.chan (ch == 0)).mode = s.modeOf (t.chan (ch == 0)).flt ∧
      ((t.chan (ch == 0)).mode ≠ (s.chan (ch == 0)).mode → s.soClosed 2 = true →
        t.soClosed 0 = false ∧ t.soClosed 1 = false ∧ t.soClosed 2 = false ∧ s.Records t 0x0915 1 0xFF ∧
        (s.hst.runReq = true → s.hst.released = false → s.hst.st ≠ .reversalDwell → t.hst = s.hst) ∧
        (s.hst.runReq = false ∨ s.hst.released = true ∨ s.hst.st = .reversalDwell →
          t.hst.runReq = false ∧ t.hst.enable = false ∧ t.hst.target = none)) ∧
      ((t.chan (ch == 0)).mode = (s.chan (ch == 0)).mode → (t.chan (ch == 0)).sw = (s.chan (ch == 0)).sw ∧ t.hst = s.hst) ∧
      t.chan (!(ch == 0)) = s.chan (!(ch == 0)) ∧ s.EventsOnly t [Idx.HST_LEARNSTAT, Idx.HST_LEARNCAUSE] ∧
      t = { s with dir := t.dir, hst := t.hst, cle.slots := t.cle.slots, saf := t.saf, tph := t.tph }) ∧
  (∀ (s : State) (ch : Nat), ch < 2 → s.saf.running = true → s.parBit Idx.SAF_SHMODE 1 = true →
  (s.chan (ch == 0)).above.lost = false →
    (∀ g, (s.chan (ch == 0)).above.got = some g → g + s.parN Idx.SAF_NLLOSS ≤ s.pwr.opTime) →
    ∃ t, exec (.neighbourLostSafety ch true) s = .next t ∧
      t.chan (ch == 0) = { s.chan (ch == 0) with above.lost := true, above.limit := s.shf.up.safSent, above.good := 0 } ∧
      t.chan (!(ch == 0)) = s.chan (!(ch == 0)) ∧ t = { s with saf.chA := t.saf.chA, saf.chB := t.saf.chB }) ∧
  (∀ (s : State) (ch : Nat), ch < 2 → s.saf.running = true → s.parBit Idx.SAF_SHMODE 0 = true →
  (s.chan (ch == 0)).below.lost = false →
    (∀ g, (s.chan (ch == 0)).below.got = some g → g + s.parN Idx.SAF_NLLOSS ≤ s.pwr.opTime) →
    ∃ t, exec (.neighbourLostSafety ch false) s = .next t ∧
      t.chan (ch == 0) = { s.chan (ch == 0) with below.lost := true, below.limit := s.shf.dn.safSent, below.good := 0 } ∧
      t.chan (!(ch == 0)) = s.chan (!(ch == 0)) ∧ t = { s with saf.chA := t.saf.chA, saf.chB := t.saf.chB })

/-- The safety cycle of a channel: its number rises; afterwards a switch is closed only with its grant; one that this cycle closed
needs a comparison without mismatch, a new record of the other channel and that record's grant; with an active cause every switch
of the channel is open; a faulty diagnostic leads to LOCKOUT with every switch open. What a channel detects trips it: SF5 after 16
ms, SF9 after 40 sample tasks, the drive link after five missing frames. The contactor's wrong feedback refuses SOC. A switch test
that shows nothing passes; a stuck-on switch found a second time leads to LOCKOUT, with the output closed only after a landing
stop, at standstill or after 30 s. The two channels are two records with one active set (log 13, 20), and the readings of the
conditions are log 42. -/
def Obligations.SafetyCycleAndTrips : Prop :=
  (∀ (s : State) (ch diag nodes : Nat) (recOk : Bool), ch < 2 → s.saf.running = true → s.pwr.state ≠ .lockout → diag ≤ 12 →
    ∃ t, exec (.safetyCycle ch recOk diag nodes) s = .next t ∧
      (t.chan (ch == 0)).cycle = ((s.chan (ch == 0)).cycle + 1) % 2 ^ 32 ∧
      (∀ k < 4, (t.chan (ch == 0)).sw.testBit k = true → (t.chan (ch == 0)).grants.testBit k = true) ∧
      (∀ k < 4, (t.chan (ch == 0)).sw.testBit k = true → (s.chan (ch == 0)).sw.testBit k = false →
        (t.chan (ch == 0)).mismatch = 0 ∧ (t.chan (ch == 0)).fresh = true ∧
        (t.chan (ch == 0)).other.grants.testBit k = true) ∧
      ((t.chan (ch == 0)).active ≠ 0 → (t.chan (ch == 0)).sw = 0) ∧
      (t.pwr.state = .lockout ∨ t.chan (!(ch == 0)) = s.chan (!(ch == 0))) ∧
      (diag ≠ 0 → s.LockedOut t diag) ∧
      s.EventsOnly t [Idx.SAF_LASTTRIP, Idx.SAF_TRIPCOUNT, Idx.SAF_STUCK, Idx.SAF_LOCKCAUSE, Idx.HST_LEARNSTAT,
      Idx.HST_LEARNCAUSE] ∧
      t = { s with dir := t.dir, pwr := t.pwr, hst := t.hst, cle.slots := t.cle.slots, dr0 := t.dr0, dr1 := t.dr1, saf := t.saf,
                   fio.ch := t.fio.ch, can0 := t.can0, can1 := t.can1, tph := t.tph }) ∧
  (∀ (s : State) (ch : Nat), ch < 2 → s.saf.running = true → 16 ≤ (s.chan (ch == 0)).sf5 → s.CauseNew 4 →
    ∃ t, exec (.safTripSf5 ch) s = .next t ∧ s.Trips t (ch == 0) 4 ∧ t.pwr.moveLatched = false ∧
      (s.btHolding = true → s.parN Idx.SAF_BTMOVE < mag ((s.chan (ch == 0)).pS - s.saf.btPos) →
        t.par Idx.SAF_BTRESULT = (if s.saf.btPhase ≤ 4 then 2 else 3) ∧ t.par Idx.SAF_BTTIME = s.pwr.opTime ∧
        t.saf.btFailed = true ∧ t.saf.btPhase = 0) ∧
      s.EventsOnly t [Idx.SAF_LASTTRIP, Idx.SAF_TRIPCOUNT, Idx.SAF_BTRESULT, Idx.SAF_BTTIME, Idx.HST_LEARNSTAT,
      Idx.HST_LEARNCAUSE] ∧
      t = { s with dir := t.dir, pwr.state := t.pwr.state, pwr.moveLatched := false, hst := t.hst, cle.slots := t.cle.slots,
                   saf := t.saf, tph := t.tph }) ∧
  (∀ (s : State) (ch i n : Nat), ch < 2 → s.saf.running = true → (s.chan (ch == 0)).sf9[i]? = some n → 40 ≤ n → s.CauseNew 8 →
    ∃ t, exec (.safTripSf9 ch) s = .next t ∧ s.Trips t (ch == 0) 8 ∧
      s.EventsOnly t [Idx.SAF_LASTTRIP, Idx.SAF_TRIPCOUNT, Idx.HST_LEARNSTAT, Idx.HST_LEARNCAUSE] ∧
      t = { s with dir := t.dir, pwr.state := t.pwr.state, hst := t.hst, cle.slots := t.cle.slots, saf := t.saf, tph := t.tph }) ∧
  (∀ (s : State) (ch : Nat), ch < 2 → s.saf.running = true → 5 ≤ (s.chan (ch == 0)).dlMiss → s.CauseNew 9 →
    ∃ t, exec (.safTripDl ch) s = .next t ∧ s.Trips t (ch == 0) 9 ∧ t.hst.dlStat = 3 ∧
      (s.hst.dlStat ≠ 3 → s.Records t 0x050C 5 0xFF ∧ t.hst.causes.testBit 4 = true) ∧
      s.EventsOnly t [Idx.SAF_LASTTRIP, Idx.SAF_TRIPCOUNT, Idx.HST_LEARNSTAT, Idx.HST_LEARNCAUSE] ∧
      t = { s with dir := t.dir, pwr.state := t.pwr.state, hst := t.hst, cle.slots := t.cle.slots, saf := t.saf, tph := t.tph }) ∧
  (∀ s : State, s.saf.running = true → 100 ≤ s.saf.ctWrong → s.saf.ctRefused = false →
    ∃ t, exec .safContactor s = .next t ∧ s.Records t 0x0916 4 0xFF ∧ s.EventsOnly t [] ∧
      t = { s with dir := t.dir, saf.ctRefused := true, saf.ctRight := 0, tph := t.tph }) ∧
  (∀ (s : State) (ch k mA : Nat) (high low : Bool), ch < 2 → k < 4 → s.saf.running = true → (s.chan (ch == 0)).nextTest = k →
    s.testDev (ch == 0) k high low mA = 0 →
    ∃ t, exec (.switchTest ch k high low mA) s = .next t ∧
      t.chan (ch == 0) = { s.chan (ch == 0) with tests := (s.chan (ch == 0)).tests.set k {}, nextTest := (k + 1) % 4 } ∧
      t.chan (!(ch == 0)) = s.chan (!(ch == 0)) ∧
      t.saf.passes = s.saf.passes.set k (if s.standing = true then s.saf.passes.getD k 0 + 1 else 0) ∧
      t = { s with saf.chA := t.saf.chA, saf.chB := t.saf.chB, saf.passes := t.saf.passes }) ∧
  (∀ (s : State) (ch k mA : Nat) (high low : Bool) (code : Nat), ch < 2 → k < 4 → s.saf.running = true → s.pwr.state ≠ .lockout →
    (s.chan (ch == 0)).nextTest = k → s.testDev (ch == 0) k high low mA = code → code = 1 ∨ code = 2 →
    (s.chan (ch == 0)).tests.getD k {} = ⟨code, 1⟩ → s.parBit Idx.SAF_STUCK (if code = 1 then k else 4 + k) = false →
    ∃ t, exec (.switchTest ch k high low mA) s = .next t ∧
      t.par Idx.SAF_STUCK = setBit (s.parN Idx.SAF_STUCK) (if code = 1 then k else 4 + k) true ∧ s.Records t 0x091B 5 0xFF ∧
      (s.soClosed k = true → t.saf.stuckAt = some s.pwr.opTime ∧ t.hst.stopReq = some 1 ∧ t.pwr = s.pwr) ∧
      (s.soClosed k = false → s.LockedOut t 9) ∧
      s.EventsOnly t [Idx.SAF_STUCK, Idx.SAF_LOCKCAUSE, Idx.HST_LEARNSTAT, Idx.HST_LEARNCAUSE] ∧
      t = { s with dir := t.dir, pwr := t.pwr, hst := t.hst, cle.slots := t.cle.slots, dr0 := t.dr0, dr1 := t.dr1, saf := t.saf,
                   fio.ch := t.fio.ch, can0 := t.can0, can1 := t.can1, tph := t.tph }) ∧
  (∀ (s : State) (at_ : Nat), s.saf.running = true → s.pwr.state ≠ .lockout → s.saf.stuckAt = some at_ →
    s.standing = true ∨ at_ + 30000 ≤ s.pwr.opTime →
    ∃ t, exec .stuckSwitchLockout s = .next t ∧ s.LockedOut t 9 ∧ t.saf.stuckAt = none ∧
      s.EventsOnly t [Idx.SAF_LOCKCAUSE, Idx.HST_LEARNSTAT, Idx.HST_LEARNCAUSE] ∧
      t = { s with dir := t.dir, pwr := t.pwr, hst := t.hst, cle.slots := t.cle.slots, dr0 := t.dr0, dr1 := t.dr1, saf := t.saf,
                   fio.ch := t.fio.ch, can0 := t.can0, can1 := t.can1, tph := t.tph })

/-- The brake torque test starts after 60 s of the parked conditions, holds 2 s in each direction on each brake, passes when SOC
has opened, and is abandoned with every switch open when a starting condition is lost. The reset button: a press of 0.1–5 s,
released with every manual cause clear, arms the reset in both channels; held 5 s it is recorded as stuck; equal inputs for more
than 50 ms block it. The readings of Table SAF-9 and of the test's steps are log 43. -/
def Obligations.BrakeTestAndReset : Prop :=
  (∀ (s : State) (since : Nat), s.saf.running = true → s.saf.btPhase = 0 → s.btDue = true → s.saf.btRetry ≤ s.pwr.opTime →
    s.btConditions = true → s.tripped = false → s.saf.parkedAt = some since → since + 60000 ≤ s.pwr.opTime →
    exec .brakeTestStart s = .next { s with saf.btPhase := 1, saf.btAt := s.pwr.opTime }) ∧
  (∀ s : State, ∀ p ∈ [(3, 4), (4, 5), (7, 8), (8, 9)], s.saf.running = true → s.saf.btPhase = p.1 → s.btConditions = true →
    s.hst.waiting = [] → s.tripped = false → s.btWeak = false → s.saf.btAt + 2000 ≤ s.pwr.opTime →
    exec .brakeTestStep s = .next { s with saf.btPhase := p.2, saf.btAt := s.pwr.opTime }) ∧
  (∀ s : State, s.saf.running = true → s.saf.btPhase = 10 → s.btConditions = true → s.hst.waiting = [] → s.tripped = false →
    s.soClosed 2 = false →
    ∃ t, exec .brakeTestStep s = .next t ∧ t.par Idx.SAF_BTRESULT = 1 ∧ t.par Idx.SAF_BTTIME = s.pwr.opTime ∧
      s.Records t 0x0919 1 0xFF ∧ s.EventsOnly t [Idx.SAF_BTRESULT, Idx.SAF_BTTIME] ∧
      t = { s with dir := t.dir, saf.btPhase := 0, saf.btLast := some s.pwr.opTime, saf.btFailed := false, saf.parkedAt := none,
                   tph := t.tph }) ∧
  (∀ s : State, s.saf.running = true → s.saf.btPhase ≠ 0 → s.btConditions = false ∨ s.hst.waiting ≠ [] ∨ s.tripped = true →
    ∃ t, exec .brakeTestStep s = .next t ∧ t.par Idx.SAF_BTRESULT = 4 ∧ t.saf.btPhase = 0 ∧
      t.saf.btRetry = s.pwr.opTime + 3600000 ∧ (∀ k, t.soClosed k = false) ∧ s.Records t 0x091A 3 0xFF ∧
      s.EventsOnly t [Idx.SAF_BTRESULT] ∧ t = { s with dir := t.dir, saf := t.saf, hst.enable := false, tph := t.tph }) ∧
  (∀ (s : State) (since : Nat), s.saf.running = true → s.par Idx.SAF_RSTUSE ≠ 0 → s.saf.pressAt = some since →
  s.unpressed = true →
    100 ≤ s.pwr.opTime - since → s.pwr.opTime - since ≤ 5000 → s.resetPending = true →
    ∃ t, exec .resetRelease s = .next t ∧ t.saf.chA = { s.saf.chA with resetArmed := true } ∧
      t.saf.chB = { s.saf.chB with resetArmed := true } ∧ t.saf.endCause = 0x0911 ∧ s.Records t 0x0911 2 0xFF ∧
      s.EventsOnly t [] ∧
      t = { s with dir := t.dir, saf.pressAt := none, saf.stuckTold := false, saf.chA := t.saf.chA, saf.chB := t.saf.chB,
                   saf.endCause := 0x0911, tph := t.tph }) ∧
  (∀ (s : State) (since : Nat), s.saf.running = true → s.par Idx.SAF_RSTUSE ≠ 0 → s.saf.pressAt = some since →
  s.unpressed = true →
    s.pwr.opTime - since < 100 ∨ 5000 < s.pwr.opTime - since →
    exec .resetRelease s = .next { s with saf.pressAt := none, saf.stuckTold := false }) ∧
  (∀ (s : State) (since : Nat), s.saf.running = true → s.par Idx.SAF_RSTUSE ≠ 0 → s.saf.stuckTold = false → s.pressed = true →
    s.saf.pressAt = some since → since + 5000 ≤ s.pwr.opTime →
    ∃ t, exec .resetStuck s = .next t ∧ s.Records t 0x0912 3 0xFF ∧ s.EventsOnly t [] ∧
      t = { s with dir := t.dir, saf.stuckTold := true, tph := t.tph }) ∧
  (∀ (s : State) (since : Nat), s.saf.running = true → s.par Idx.SAF_RSTUSE ≠ 0 →
    s.saf.equalAt = some since → since + 50 < s.pwr.opTime →
    ∃ t, exec .resetDiscrepancy s = .next t ∧ s.Records t 0x0914 3 0xFF ∧ s.EventsOnly t [] ∧
      t = { s with dir := t.dir, saf.resetBlocked := true, saf.equalAt := none, saf.pressAt := none,
                   saf.stuckTold := false, tph := t.tph })

/-- Safety parameterisation: SAF_WRITE puts all its entries into both pending sets, under a session that the first one opens, and
changes no parameter; without the conditions of a session it completes STATE; DISCARD ends the session; SAF_CONFIRM with both CRCs
makes both inactive copies durable and waits; the common cycle gives every written parameter its value, durable; 600 s without a
SAF_WRITE end the session. The points of log 44 are the model's. -/
def Obligations.SafetySetsArePendingThenSwitched : Prop :=
  (∀ (s : State) (tag n : Nat), s.Admitted tag 0x30 3 → (s.flight tag).safDiscard = false → getU (s.flight tag).p 1 1 = n →
  n ≤ 16 →
    s.sessionOk (s.flight tag).slot = true → (∀ k < n, (s.flight tag).safRefused k = none) →
    ∃ t, exec (.safWrite tag) s = .next t ∧ s.Completed t tag .pendingConfirm ∧
      t.saf.session = some ⟨(s.flight tag).slot, s.pwr.opTime⟩ ∧
      t.saf.pendA = ((List.range n).map fun k => ((s.flight tag).safIdx k, (s.flight tag).safVal k)).foldl putPend
        (if s.holdsSaf (s.flight tag).slot then s.saf.pendA else []) ∧
      t.saf.pendB = ((List.range n).map fun k => ((s.flight tag).safIdx k, (s.flight tag).safVal k)).foldl putPend
        (if s.holdsSaf (s.flight tag).slot then s.saf.pendB else []) ∧
      (s.holdsSaf (s.flight tag).slot = false → s.Records t 0x0917 2 0xFF) ∧ s.EventsOnly t [] ∧
      t = { s with host := t.host, dir := t.dir, saf.session := t.saf.session, saf.pendA := t.saf.pendA, saf.pendB := t.saf.pendB,
                   tph := t.tph }) ∧
  (∀ (s : State) (tag : Nat), s.Admitted tag 0x30 3 → (s.flight tag).safDiscard = false → getU (s.flight tag).p 1 1 ≤ 16 →
    s.sessionOk (s.flight tag).slot = false →
    ∃ t, exec (.safWrite tag) s = .next t ∧ s.Completed t tag .state ∧ t = { s with host := t.host }) ∧
  (∀ (s : State) (tag : Nat), s.Admitted tag 0x30 3 → (s.flight tag).safDiscard = true → s.holdsSaf (s.flight tag).slot = true →
    s.saf.confirm = none →
    ∃ t, exec (.safWriteDiscard tag) s = .next t ∧ s.Completed t tag .ok ∧
      t = { s with host := t.host, saf.session := none, saf.pendA := [], saf.pendB := [] }) ∧
  (∀ (s : State) (tag : Nat), s.Admitted tag 0x31 3 → s.holdsSaf (s.flight tag).slot = true → s.saf.confirm = none →
    getU (s.flight tag).p 0 4 = s.pendCrc s.saf.pendA → getU (s.flight tag).p 0 4 = s.pendCrc s.saf.pendB →
    s.setConflict (pendVal s s.saf.pendA) = none → s.sessionAllowed = true →
    ∃ t, exec (.safConfirm tag) s = .next t ∧ (t.flight tag).phase = .safWait ∧ t.host.store = s.host.store ∧
      t = { s with host := t.host, saf.inactiveA := some s.saf.pendA, saf.inactiveB := some s.saf.pendB,
                   saf.confirm := some tag }) ∧
  (∀ (s : State) (tag : Nat), s.Admitted tag 0x31 3 → s.holdsSaf (s.flight tag).slot = true → s.saf.confirm = none →
    getU (s.flight tag).p 0 4 ≠ s.pendCrc s.saf.pendA →
    ∃ t, exec (.safConfirm tag) s = .next t ∧ s.Completed t tag .conflict ∧ t = { s with host := t.host }) ∧
  (∀ (s : State) (tag : Nat) (f : Flight) (l : List (Nat × Int)), s.saf.confirm = some tag → s.saf.running = true →
    s.flight? tag = some f → s.saf.inactiveA = some l → (l.map fun p => p.1).Nodup → (∀ p ∈ l, p.1 ∈ swIndices) →
    ∃ t, exec .safetySetSwitch s = .next t ∧ s.Completed t tag .ok ∧
      (∀ p ∈ l, t.par p.1 = p.2 ∧ (pvFind t.dir.durable p.1).map (fun q => q.val) = some p.2) ∧
      s.Records t 0x0918 3 0xFF ∧
      s.EventsOnly t (Idx.SAF_SETCOUNT :: Idx.DEV_CFGCOUNT :: l.map fun p => p.1) ∧
      t = { s with host := t.host, dir := t.dir, saf.session := none, saf.pendA := [], saf.pendB := [], saf.inactiveA := none,
                   saf.inactiveB := none, saf.confirm := none, tph := t.tph, sec.measDirty := true }) ∧
  (∀ (s : State) (x : SafSession), s.saf.confirm = none → s.saf.session = some x → x.last + 600000 ≤ s.pwr.opTime →
    exec .safSessionTimeout s = .next { s with saf.session := none, saf.pendA := [], saf.pendB := [] })

/-- Sending on a bus: the offered frame is the lowest identifier among the pending ones, then the lower object; winning puts it on
the bus, losing changes nothing; an acknowledged frame completes OK and lowers the send error counter; a failed attempt is retried
up to the object's limit, then dropped as NO_ACK or INTEGRITY; the counters lead to ERROR_PASSIVE and bus-off, and a joined bus
starts anew; a due refresh queues the last bytes; the controller heartbeat goes out on object 0 every 50 ms. The counters' rule is
that of ISO 11898-1 (log 53). -/
def Obligations.CanFramesAreSent : Prop :=
  (∀ (s : State) (b j : Nat), s.offered b = some j →
    j < 128 ∧ (s.cobj b j).pend ≠ none ∧
      ∀ k < 128, (s.cobj b k).pend ≠ none → s.objId b j < s.objId b k ∨ (s.objId b j = s.objId b k ∧ j ≤ k)) ∧
  (∀ (s : State) (b j : Nat), b < 2 → s.onBus b = true → s.busIdle b = true → s.offered b = some j →
    exec (.arbitration b true) s = .next (s.modObj b j fun o => { o with bus := o.pend, pend := none }) ∧
    exec (.arbitration b false) s = .next s) ∧
  (∀ (s : State) (b j tdcNs : Nat), b < 2 → j < 128 → (s.can b).objs.length = 128 → (s.cobj b j).bus ≠ none →
    (s.cobj b j).next = none → (s.tdcActive b j = true → tdcNs ≤ s.twoBits b) →
    ∃ t, exec (.canFrameSent b j tdcNs) s = .next t ∧
      t.cobj b j = { s.cobj b j with bus := none, pend := none, status := Status.ok.code, noRetry := false,
                                     sentAt := s.pwr.opTime } ∧
      (t.can b).tec = (s.can b).tec - 1 ∧ (t.can b).alone = false ∧ (t.can b).ackRun = 0 ∧
      (t.can b).st = (if (s.can b).st = 2 ∧ (s.can b).tec - 1 < 128 ∧ (s.can b).rec_ < 128 then 1 else (s.can b).st) ∧
      (t.can b).tdc = (if s.tdcActive b j then min tdcNs 1000 else (s.can b).tdc) ∧
      (∀ k, k ≠ j → t.cobj b k = s.cobj b k) ∧ (t.can b).stns = (s.can b).stns ∧ t.can (1 - b) = s.can (1 - b) ∧
      ((s.can b).alone = true → s.Records t (canEvent b 6) 2 0xFF) ∧ s.EventsOnly t [] ∧
      t = { s with dir := t.dir, can0 := t.can0, can1 := t.can1, tph := t.tph }) ∧
  (∀ (s : State) (b j tdcNs : Nat) (ack dominant : Bool), b < 2 → j < 128 → (s.can b).objs.length = 128 →
  (s.cobj b j).bus ≠ none →
    (s.cobj b j).next = none → s.onBus b = true →
    ∃ t, exec (.failedAttempt b j ack dominant tdcNs) s = .next t ∧
      (t.can b).tec = (if (s.can b).st = 2 ∧ ack = true ∧ dominant = false then (s.can b).tec else (s.can b).tec + 8) ∧
      (t.can b).ackRun = (if ack then (s.can b).ackRun + 1 else 0) ∧
      ((t.can b).tec ≤ 255 → (t.can b).st = (if 128 ≤ (t.can b).tec then 2 else (s.can b).st)) ∧
      (255 < (t.can b).tec → (t.can b).st = 3 ∧ (t.can b).boffAt = s.pwr.opTime ∧ s.Records t (canEvent b 3) 4 0xFF ∧
        ∀ k, (t.cobj b k).bus = none → (t.cobj b k).pend = none) ∧
      ((t.can b).tec ≤ 255 → (s.cobj b j).fails + 1 ≤ s.objRetry b j → (s.cobj b j).noRetry = false →
        t.cobj b j = { s.cobj b j with pend := (s.cobj b j).bus, bus := none, fails := (s.cobj b j).fails + 1,
                                       other := (s.cobj b j).other || !ack }) ∧
      (s.objRetry b j < (s.cobj b j).fails + 1 → (t.cobj b j).bus = none ∧ (t.cobj b j).pend = none ∧
        (t.cobj b j).status = (if (s.cobj b j).other || !ack then Status.integrity.code else Status.noAck.code)) ∧
      (16 ≤ (t.can b).ackRun → (t.can b).alone = true ∧ ((s.can b).alone = false → s.Records t (canEvent b 5) 3 0xFF)) ∧
      (t.can b).stns = (s.can b).stns ∧ t.can (1 - b) = s.can (1 - b) ∧
      s.EventsOnly t [Idx.CANb_ALONECNT b, Idx.CANb_ERRCNT b, Idx.CANb_NOACKCNT b, Idx.CANb_BOFFCNT b] ∧
      t = { s with dir := t.dir, can0 := t.can0, can1 := t.can1, tph := t.tph }) ∧
  (∀ (s : State) (b recessive : Nat), b < 2 → (s.can b).st = 3 → s.parBit (Idx.CANb_CFG b) 2 = true →
    (s.can b).boffAt + s.parN (Idx.CANb_BOFFDLY b) ≤ s.pwr.opTime → 128 ≤ recessive → (s.can b).objs.length = 128 →
    ∃ t, exec (.canBusOn b recessive) s = .next t ∧ (t.can b).st = 1 ∧ (t.can b).tec = 0 ∧ (t.can b).rec_ = 0 ∧
      (∀ j, t.cobj b j = if j ∈ s.sendObjs b then { s.cobj b j with force := true } else s.cobj b j) ∧
      (t.can b).stns = (s.can b).stns ∧ t.can (1 - b) = s.can (1 - b) ∧ s.Records t (canEvent b 4) 2 0xFF ∧
      s.Records t (canEvent b 2) 2 0xFF ∧ s.EventsOnly t [] ∧
      t = { s with dir := t.dir, can0 := t.can0, can1 := t.can1, tph := t.tph }) ∧
  (∀ (s : State) (b j : Nat) (bytes : List Byte), b < 2 → j < 128 → s.engines = true → s.onBus b = true → s.gys.st = 1 →
    s.objRole b j = 2 ∨ s.objRole b j = 3 → s.stnPresent b (s.objStn b j) = true → (s.cstn b (s.objStn b j)).lost = false →
    0 < s.objRefresh b j → (s.cobj b j).pend = none → (s.cobj b j).bus = none → (s.cobj b j).last = some bytes →
    (s.cobj b j).sentAt + s.objRefresh b j ≤ s.pwr.opTime →
    exec (.refreshSend b j) s = .next (s.modObj b j fun o =>
      { o with last := some bytes, force := false, pend := some bytes, next := none, fails := 0, other := false,
               noRetry := false })) ∧
  (∀ (s : State) (b : Nat), b < 2 → s.engines = true → s.lmp.restarting = false → s.onBus b = true → (s.can b).objs.length = 128 →
    (∀ at_, (s.can b).hbAt = some at_ → at_ + 50 ≤ s.pwr.opTime) →
    ∃ t, exec (.controllerHeartbeat b) s = .next t ∧ t.cobj b 0 = (s.cobj b 0).queue (s.canHeartbeat b s.pwr.state.code) ∧
      (t.can b).hbNo = ((s.can b).hbNo + 1) % 256 ∧ (t.can b).hbAt = some s.pwr.opTime ∧ (∀ k, k ≠ 0 → t.cobj b k = s.cobj b k) ∧
      (t.can b).stns = (s.can b).stns ∧ t.can (1 - b) = s.can (1 - b) ∧ t = { s with can0 := t.can0, can1 := t.can1 })

/-- Receiving on a bus: an image frame of a present station becomes its complete image, or waits in the fill buffer while the
input phase copies; other identifiers are counted; a valid heartbeat of the expected type returns a station, one of another type
is recorded; 160 ms without one declare it LOST and flush its frames; an emergency frame is kept and recorded. The points of log
53 are the model's. -/
def Obligations.StationsAreSupervised : Prop :=
  (∀ (s : State) (b id n j : Nat) (bytes : List Byte), b < 2 → id < 2048 → bytes.length ≤ 64 → s.onBus b = true → s.Shape →
    id / 256 = 2 ∨ id / 256 = 3 → id % 4 = 0 → id / 4 % 64 = n → s.stnPresent b n = true → s.objOf b n 1 = some j →
    (s.can b).alone = false →
    exec (.canFrameReceived b id true bytes false) s = .next
      (((s.modCan b fun c => { c with ackRun := 0 }).modStn b n fun x => { x with imgs := (x.imgs + 1) % 2 ^ 32 }).modObj b j fun
      o =>
        { o with full := some bytes, fullAt := s.pwr.opTime, fill := none, fresh := !(s.cstn b n).lost })) ∧
  (∀ (s : State) (b id n j : Nat) (bytes : List Byte), b < 2 → id < 2048 → bytes.length ≤ 64 → s.onBus b = true → s.Shape →
    id / 256 = 2 ∨ id / 256 = 3 → id % 4 = 0 → id / 4 % 64 = n → s.stnPresent b n = true → s.objOf b n 1 = some j →
    ∃ t, exec (.canFrameReceived b id true bytes true) s = .next t ∧
      t.cobj b j = { s.cobj b j with fill := some bytes, fillAt := s.pwr.opTime } ∧
      (t.cstn b n).imgs = ((s.cstn b n).imgs + 1) % 2 ^ 32 ∧
      ((s.cobj b j).fill ≠ none → s.Records t (canEvent b 0x0B) 0 n ∧
        t.par (Idx.CANb_RXOVR b) = min (s.par (Idx.CANb_RXOVR b) + 1) (2 ^ 32 - 1)) ∧
      t.can (1 - b) = s.can (1 - b) ∧ s.EventsOnly t [Idx.CANb_RXOVR b] ∧
      t = { s with dir := t.dir, can0 := t.can0, can1 := t.can1, tph := t.tph }) ∧
  (∀ (s : State) (b id : Nat) (base copying : Bool) (bytes : List Byte), b < 2 → id < 2048 → bytes.length ≤ 64 →
  s.onBus b = true →
    (base = true → id / 256 = 1 ∨ id / 256 = 4 ∨ id / 256 = 5 ∨ id / 256 = 7 ∨ id % 4 ≠ 0 ∨ (id / 256 ≠ 0 ∧ id / 256 ≠ 6 ∧
      s.stnPresent b (id / 4 % 64) = false)) →
    ∃ t, exec (.canFrameReceived b id base bytes copying) s = .next t ∧
      (if base = true ∧ id / 256 = 7 then
        t.par (Idx.CANb_SVCCNT b) = min (s.par (Idx.CANb_SVCCNT b) + 1) (2 ^ 32 - 1) ∧ s.EventsOnly t [Idx.CANb_SVCCNT b]
       else t.par (Idx.CANb_UNKCNT b) = min (s.par (Idx.CANb_UNKCNT b) + 1) (2 ^ 32 - 1) ∧ s.EventsOnly t [Idx.CANb_UNKCNT b]) ∧
      (t.can b).objs = (s.can b).objs ∧ (t.can b).stns = (s.can b).stns ∧ t.can (1 - b) = s.can (1 - b) ∧
      t = { s with dir := t.dir, can0 := t.can0, can1 := t.can1, tph := t.tph }) ∧
  (∀ (s : State) (b n : Nat) (bytes : List Byte), b < 2 → n < 64 → bytes.length ≤ 8 → s.onBus b = true → s.Shape →
    s.stnPresent b n = true → getU bytes 1 1 = 1 → s.stnType b n = 0 ∨ getU bytes 2 2 = s.stnType b n → getU bytes 0 1 = 1 →
    ∃ t, exec (.stationHeartbeat b n bytes) s = .next t ∧
      t.cstn b n = { s.cstn b n with hb := bytes, hbAt := s.pwr.opTime, lost := false,
                                     back := (s.cstn b n).back || (s.cstn b n).lost } ∧
      (∀ j, t.cobj b j = if (s.cstn b n).lost = true ∧ j ∈ s.sendObjs b ∧ s.objStn b j = n then { s.cobj b j with force := true }
        else s.cobj b j) ∧
      (∀ k, k ≠ n → t.cstn b k = s.cstn b k) ∧ t.can (1 - b) = s.can (1 - b) ∧ s.EventsOnly t [] ∧
      t = { s with dir := t.dir, can0 := t.can0, can1 := t.can1, tph := t.tph }) ∧
  (∀ (s : State) (b n : Nat) (bytes : List Byte), b < 2 → n < 64 → bytes.length ≤ 8 → s.onBus b = true → s.stnPresent b n = true →
    getU bytes 1 1 ≠ 1 ∨ (s.stnType b n ≠ 0 ∧ getU bytes 2 2 ≠ s.stnType b n) →
    ∃ t, exec (.stationHeartbeat b n bytes) s = .next t ∧ s.Records t (canEvent b 0x0A) 4 n ∧ (t.can b).objs = (s.can b).objs ∧
      (t.can b).stns = (s.can b).stns ∧ t.can (1 - b) = s.can (1 - b) ∧ s.EventsOnly t [] ∧
      t = { s with dir := t.dir, can0 := t.can0, can1 := t.can1, tph := t.tph }) ∧
  (∀ (s : State) (b n : Nat), b < 2 → s.engines = true → s.stnPresent b n = true → s.Shape → (s.cstn b n).lost = false →
    (s.cstn b n).hbAt + 160 ≤ s.pwr.opTime →
    ∃ t, exec (.canStationLost b n) s = .next t ∧ t.cstn b n = { s.cstn b n with lost := true, back := false } ∧
      (∀ j ∈ s.sendObjs b, s.objStn b j = n → s.objOf b n 1 ≠ some j →
        t.cobj b j = (s.cobj b j).cancel Status.aborted.code) ∧
      (∀ j, s.objStn b j ≠ n → t.cobj b j = s.cobj b j) ∧ (∀ j, s.objOf b n 1 = some j → (t.cobj b j).fresh = false) ∧
      (∀ k, k ≠ n → t.cstn b k = s.cstn b k) ∧ t.par (Idx.CANb_LOSTCNT b) = min (s.par (Idx.CANb_LOSTCNT b) + 1) (2 ^ 32 - 1) ∧
      s.Records t (canEvent b 8) 3 n ∧ t.can (1 - b) = s.can (1 - b) ∧ s.EventsOnly t [Idx.CANb_LOSTCNT b] ∧
      t = { s with dir := t.dir, can0 := t.can0, can1 := t.can1, tph := t.tph }) ∧
  (∀ (s : State) (b n : Nat) (bytes : List Byte), b < 2 → n < 64 → bytes.length ≤ 8 → s.onBus b = true → s.Shape →
    s.stnPresent b n = true →
    ∃ t, exec (.canEmergency b n bytes) s = .next t ∧
      t.cstn b n = { s.cstn b n with emerg := bytes, emergs := ((s.cstn b n).emergs + 1) % 256 } ∧
      s.Records t (canEvent b 0x0C) 3 n ∧
      (∀ k, k ≠ n → t.cstn b k = s.cstn b k) ∧ (t.can b).objs = (s.can b).objs ∧ t.can (1 - b) = s.can (1 - b) ∧
      s.EventsOnly t [] ∧
      t = { s with dir := t.dir, can0 := t.can0, can1 := t.can1, tph := t.tph })

/-- Frames on the ring: one that a forwarding device passes leaves by the other port with its hop count raised, and stomped when
its source is the device, its hops have reached the limit or its FCS is bad; one for the device that is fresh and authentic is
taken and remembered; a stale or repeated one, one with a wrong tag, and one with a bad FCS are counted and not taken. What the
tag covers is log 51, and the tag function is opaque (log 10). -/
def Obligations.RingFramesAreCheckedAndForwarded : Prop :=
  (∀ (s : State) (port fcs residence : Nat) (bytes : List Byte), port < 2 → s.portOn port = true → (s.port port).link = true →
    s.forwardsDst (readDst bytes) = true → (s.port port).mode = 0 → s.portOn (1 - port) = true → (s.port (1 - port)).link = true →
    (s.port (1 - port)).mode = 0 → fcs ≠ 3 →
    ∃ t g, exec (.frameForward port bytes fcs residence) s = .next t ∧ t.rng.fwd = some g ∧
      g.hops = ((readFrame port s.ringNs bytes).hops + 1) % 65536 ∧ g.port = 1 - port ∧
      g.src = (readFrame port s.ringNs bytes).src ∧ g.tag = (readFrame port s.ringNs bytes).tag ∧
      (g.stomped = true ↔ (∃ me, s.addr = some me ∧ readDst (bytes.drop 6) = .unicast me) ∨ fcs = 1 ∨ fcs = 2 ∨
        s.parN Idx.RNG_HOPLIM ≤ (readFrame port s.ringNs bytes).hops)) ∧
  (∀ (s : State) (port residence : Nat) (bytes : List Byte) (f : RFrame), port < 2 → s.portOn port = true →
    (s.port port).link = true → (s.port port).mode = 0 → s.frameFits bytes = true → s.takesDst (readDst bytes) = true →
    (∀ me, s.addr = some me → readDst (bytes.drop 6) ≠ .unicast me) → f = readFrame port s.ringNs bytes → s.pwr.state ≠ .dormant →
    f.cls ≠ 2 → f.cls ≠ 4 → f.cls ≠ 6 →
    ∃ t, exec (.frameForward port bytes 0 residence) s = .next t ∧
      (s.frameFresh f = true → s.tagGood f = true →
        t.rng.inq = s.rng.inq ++ [f] ∧ (∃ k ∈ t.rng.taken, k = ⟨f.src, f.cls, f.seq, s.rng.time⟩) ∧ t.dir = s.dir) ∧
      (s.frameFresh f = false → t.rng.inq = s.rng.inq ∧ t.rng.taken = s.rng.taken ∧
        t.par Idx.RNG_STALECNT = min (s.par Idx.RNG_STALECNT + 1) (2 ^ 32 - 1)) ∧
      (s.frameFresh f = true → s.tagGood f = false → t.rng.inq = s.rng.inq ∧ t.rng.taken = s.rng.taken ∧
        t.par Idx.RNG_TAGFAIL = min (s.par Idx.RNG_TAGFAIL + 1) (2 ^ 32 - 1) ∧ s.Records t 0x0D09 3 0xFF) ∧
      s.EventsOnly t [Idx.RNG_STALECNT, Idx.RNG_TAGFAIL] ∧
      t = { s with dir := t.dir, rng.fwd := t.rng.fwd, rng.inq := t.rng.inq, rng.taken := t.rng.taken, tph := t.tph }) ∧
  (∀ (s : State) (port fcs residence : Nat) (bytes : List Byte), port < 2 → s.portOn port = true → (s.port port).link = true →
    fcs = 1 ∨ fcs = 3 →
    ∃ t, exec (.frameForward port bytes fcs residence) s = .next t ∧
      t.par Idx.RNG_FCSERR = min (s.par Idx.RNG_FCSERR + 1) (2 ^ 32 - 1) ∧ s.EventsOnly t [Idx.RNG_FCSERR] ∧
      t = { s with dir := t.dir, rng.fwd := t.rng.fwd })

/-- Ring control: a port without signal for 5 ms goes down and LINK_DOWN leaves by the other one; a link comes up in CONTROL_ONLY
and passes to FORWARDING after 200 ms without a manager, or at RING_CLOSED; a candidate that hears no lower one for 100 ms is
manager, sends TEST frames, blocks port B when one returns, and opens it again at a lost test or at LINK_DOWN. The points of log
51 are the model's. -/
def Obligations.RingHealsItself : Prop :=
  (∀ (s : State) (port us : Nat), s.rng.enabled = true → port < 2 → (s.port port).link = true → 5000 ≤ us →
    ∃ t, exec (.rngLinkDown port us) s = .next t ∧ t.port port = { s.port port with link := false, amp := 0, mode := 2 } ∧
      t.port (1 - port) = s.port (1 - port) ∧ s.Sends t 6 3 0 (s.controlBody 2 port 0) (1 - port) ∧ s.Records t 0x0D01 3 0xFF ∧
      s.EventsOnly t [] ∧
      t = { s with dir := t.dir, rng.a := t.rng.a, rng.b := t.rng.b, rng.seq := t.rng.seq, rng.out := t.rng.out, tph := t.tph }) ∧
  (∀ (s : State) (port amp : Nat), port < 2 → s.portOn port = true → (s.port port).link = false → amp = 1 ∨ amp = 2 →
    s.parN (if port = 0 then Idx.RNG_PACFG else Idx.RNG_PBCFG) % 4 = 0 ∨
      s.parN (if port = 0 then Idx.RNG_PACFG else Idx.RNG_PBCFG) % 4 = amp →
    ∃ t, exec (.rngLinkUp port amp) s = .next t ∧
      t.port port = { s.port port with link := true, amp := amp, mode := 2, upAt := s.pwr.opTime } ∧
      t.port (1 - port) = s.port (1 - port) ∧ s.Records t 0x0D02 2 0xFF ∧ s.EventsOnly t [] ∧
      t = { s with dir := t.dir, rng.a := t.rng.a, rng.b := t.rng.b, tph := t.tph }) ∧
  (∀ (s : State) (port : Nat), s.rng.enabled = true → port < 2 → (s.port port).link = true → (s.port port).mode = 2 →
    s.rng.isMgr = false → (s.port port).upAt + 200 ≤ s.pwr.opTime → s.rng.mgrHeard + 200 ≤ s.pwr.opTime →
    ∃ t, exec (.controlOnlyTimeout port) s = .next t ∧ t.port port = { s.port port with mode := 0 } ∧
      t.port (1 - port) = s.port (1 - port) ∧ t = { s with rng.a := t.rng.a, rng.b := t.rng.b, rng.manager := none }) ∧
  (∀ s : State, s.mgrCandidate = true → s.rng.isMgr = false → s.rng.lowerHeard + 100 ≤ s.pwr.opTime →
    ∃ t, exec .rngManager s = .next t ∧ s.Records t 0x0D0A 1 0xFF ∧ s.EventsOnly t [] ∧
      t = { s with dir := t.dir, rng.isMgr := true, rng.manager := s.addr, rng.testNo := 0, rng.testBack := 0,
                   rng.testAt := s.pwr.opTime, tph := t.tph }) ∧
  (∀ s : State, s.mgrCandidate = true → s.rng.isMgr = true → s.rng.testAt + s.parN Idx.RNG_TESTPER ≤ s.pwr.opTime →
    ∃ t, exec .ringTest s = .next t ∧ s.Sends t 6 3 0 (s.controlBody 1 0 ((s.rng.testNo + 1) % 2 ^ 32)) 0 ∧
      t = { s with rng.testNo := s.rng.testNo + 1, rng.testAt := s.pwr.opTime, rng.seq := t.rng.seq, rng.out := t.rng.out }) ∧
  (∀ (s : State) (f : RFrame), s.mgrCandidate = true → s.rng.isMgr = true → s.ownTest = some f → (s.port 1).mode ≠ 1 →
    s.rng.closed = false →
    ∃ t, exec .testReturned s = .next t ∧ t.rng.testBack = s.rng.testNo ∧ t.port 1 = { s.port 1 with mode := 1 } ∧
      t.port 0 = { s.port 0 with mode := if (s.port 0).mode = 2 then 0 else (s.port 0).mode } ∧ t.rng.closed = true ∧
      s.Sends t 6 3 0 (s.controlBody 3 1 0) 2 ∧ s.Records t 0x0D04 2 0xFF ∧ s.EventsOnly t [] ∧
      t = { s with dir := t.dir, rng.testBack := s.rng.testNo, rng.inq := s.rng.inq.erase f, rng.a := t.rng.a, rng.b := t.rng.b,
                   rng.seq := t.rng.seq, rng.out := t.rng.out, rng.closed := true, tph := t.tph }) ∧
  (∀ s : State, s.mgrCandidate = true → s.rng.isMgr = true → (s.port 1).mode = 1 →
    s.rng.testBack + s.parN Idx.RNG_TESTLOSS ≤ s.rng.testNo →
    ∃ t, exec .testLoss s = .next t ∧ t.port 1 = { s.port 1 with mode := 0 } ∧
      t.par Idx.RNG_HEALS = min (s.par Idx.RNG_HEALS + 1) (2 ^ 32 - 1) ∧ s.Records t 0x0D03 3 0xFF ∧
      s.EventsOnly t [Idx.RNG_HEALS] ∧
      t = { s with dir := t.dir, rng.b := t.rng.b, rng.closed := false, tph := t.tph }) ∧
  (∀ (s : State) (f : RFrame), s.rng.enabled = true → s.nextFrame 6 (some 2) = some f → s.rng.isMgr = true → (s.port 1).mode = 1 →
    ∃ t, exec .linkDown s = .next t ∧ t.port 1 = { s.port 1 with mode := 0 } ∧
      t.par Idx.RNG_HEALS = min (s.par Idx.RNG_HEALS + 1) (2 ^ 32 - 1) ∧ s.Records t 0x0D03 3 0xFF ∧
      s.EventsOnly t [Idx.RNG_HEALS] ∧
      t = { s with dir := t.dir, rng.b := t.rng.b, rng.inq := s.rng.inq.erase f, rng.closed := false, tph := t.tph }) ∧
  (∀ (s : State) (f : RFrame), s.rng.enabled = true → s.nextFrame 6 (some 3) = some f →
    ∃ t, exec .ringClosed s = .next t ∧
      (∀ p < 2, t.port p = { s.port p with
        mode := if (s.port p).link = true ∧ (s.port p).mode = 2 then 0 else (s.port p).mode }) ∧
      t = { s with rng.a := t.rng.a, rng.b := t.rng.b, rng.inq := s.rng.inq.erase f })

/-- Ring time: the master sends a sync every 10 ms; a sync of the present or a lower master is applied, at once within 1 µs,
slewed beyond, and makes ring time valid within 20 µs; 100 ms without one make it invalid; a silent master is replaced; link
delays are measured; the master steps forward to a larger advance; the time is stored every second; SYNCOUT and SYNCIN. The slew
is log 52. -/
def Obligations.RingTimeIsKept : Prop :=
  (∀ s : State, s.rng.enabled = true → s.rng.isMaster = true → s.rng.syncSent + 10 ≤ s.pwr.opTime →
    ∃ t, exec .syncSend s = .next t ∧ s.Sends t 5 2 0 (timeBody 1 s.ringNs (toLe 8 0)) 2 ∧
      t = { s with rng.syncSent := s.pwr.opTime, rng.seq := t.rng.seq, rng.out := t.rng.out }) ∧
  (∀ (s : State) (f : RFrame) (off : Int), s.rng.enabled = true → s.nextFrame 5 (some 1) = some f →
    (s.rng.isMaster = true → ∀ me, s.addr = some me → f.src < me) → (∀ m, s.rng.master = some m → f.src ≤ m) →
    off = ((bodyNs f.body 4 + getU f.body 16 8 + (s.port f.port).delay : Nat) : Int) - f.at_ →
    ∃ t, exec .ringSync s = .next t ∧ t.rng.isMaster = false ∧ t.rng.master = some f.src ∧ t.rng.synced = true ∧
      t.rng.syncHeard = s.pwr.opTime ∧ t.rng.toffs = clampInt (-(2 ^ 31)) (2 ^ 31 - 1) off ∧
      (mag off ≤ 20000 → t.rng.valid = true ∧ t.rng.goodAt = s.pwr.opTime) ∧ (off < -20000 → t.rng.valid = false) ∧
      (0 ≤ off → off ≤ 1000 ∨ s.rng.valid = false → t.ringNs = s.ringNs + off.toNat ∧ t.rng.slew = 0) ∧
      (1000 < off → s.rng.valid = true → t.ringNs = s.ringNs ∧ t.rng.slew = off) ∧
      (-1000000 ≤ off → off < 0 → t.ringNs = s.ringNs ∧ t.rng.slew = off) ∧
      t.rng.inq = s.rng.inq.erase f ∧ s.EventsOnly t [] ∧ t = { s with dir := t.dir, rng := t.rng, tph := t.tph }) ∧
  (∀ s : State, s.rng.enabled = true → s.rng.valid = true → s.rng.isMaster = false → s.rng.goodAt + 100 < s.pwr.opTime →
    ∃ t, exec .rngTimeLost s = .next t ∧ s.Records t 0x0D06 3 0xFF ∧ s.EventsOnly t [] ∧
      t = { s with dir := t.dir, rng.valid := false, tph := t.tph }) ∧
  (∀ (s : State) (me : Nat), s.rng.enabled = true → s.par Idx.RNG_TMCAND = 1 → s.rng.isMaster = false → s.rng.dup = false →
    s.addr = some me → 100000 + 50 * me ≤ (s.pwr.opTime - s.rng.syncHeard) * 1000 →
    ∃ t, exec .rngMasterChange s = .next t ∧ t.rng.isMaster = true ∧ t.rng.master = some me ∧ t.rng.valid = true ∧
    t.rng.slew = 0 ∧
      t.ringNs = (if s.rng.synced then s.ringNs else max (s.rng.stored * 1000) s.ringNs) ∧ s.EventsOnly t [] ∧
      t = { s with dir := t.dir, rng.isMaster := true, rng.master := some me, rng.valid := true, rng.slew := 0,
                   rng.time := t.rng.time, rng.ns := t.rng.ns, tph := t.tph }) ∧
  (∀ (s : State) (port : Nat), port < 2 → s.portOn port = true → (s.port port).link = true →
    (∀ f ∈ s.rng.inq, ¬(f.cls = 5 ∧ getU f.body 0 1 = 2 ∧ f.port = port)) → (s.port port).reqAt + 1000 ≤ s.pwr.opTime →
    ∃ t, exec (.delayRequest port) s = .next t ∧
      t.port port = { s.port port with t1 := some s.ringNs, reqAt := s.pwr.opTime } ∧ t.port (1 - port) = s.port (1 - port) ∧
      s.Sends t 5 3 0 (timeBody 2 s.ringNs []) port ∧
      t = { s with rng.a := t.rng.a, rng.b := t.rng.b, rng.seq := t.rng.seq, rng.out := t.rng.out }) ∧
  (∀ (s : State) (f : RFrame) (t1 : Nat), s.rng.enabled = true → s.nextFrame 5 (some 3) = some f → f.port < 2 →
    (s.port f.port).t1 = some t1 →
    ∃ t, exec .delayResponse s = .next t ∧
      t.port f.port = { s.port f.port with
        t1 := none
        delay := (clampInt 0 100000 ((((f.at_ : Int) - t1) - ((bodyNs f.body 16 : Int) - bodyNs f.body 4)) / 2)).toNat } ∧
      t.port (1 - f.port) = s.port (1 - f.port) ∧
      t = { s with rng.a := t.rng.a, rng.b := t.rng.b, rng.inq := s.rng.inq.erase f }) ∧
  (∀ (s : State) (f : RFrame), s.rng.enabled = true → s.nextFrame 5 (some 4) = some f → s.rng.isMaster = true →
    ∃ t, exec .ringAdvance s = .next t ∧ t.ringNs = max (bodyNs f.body 4) s.ringNs ∧
      t = { s with rng.time := t.rng.time, rng.ns := t.rng.ns, rng.inq := s.rng.inq.erase f }) ∧
  (∀ s : State, s.lmpServes = true → s.rng.storedAt + 1000 ≤ s.pwr.opTime →
    exec .ringTimeStore s = .next { s with rng.stored := s.rng.time, rng.storedAt := s.pwr.opTime }) ∧
  (∀ (s : State) (per : Nat), s.rng.enabled = true → s.rng.valid = true → per = s.parN Idx.RNG_SYNCPER * 1000 → 0 < per →
    s.rng.syncOut / per < s.rng.time / per →
    exec .syncoutPulse s = .next { s with rng.syncOut := s.rng.time - s.rng.time % per }) ∧
  (∀ s : State, s.rng.enabled = true → s.rng.valid = true → exec .syncinEdge s = .next { s with rng.syncCap := s.rng.time })

/-- Calls: a registration becomes a record of the registrar and, in the group, an auction with its BID_REQ; without the group the
car takes the call itself. A car that can bid answers with its cost; of two auctions for a call the later one stops; bids count
within the window; the lowest cost wins, a tie the lower address; the winner is fixed by a group; without a bid the registrar
waits 1 s; CALL_DONE ends the call for everybody. The points of log 54 are the model's. -/
def Obligations.CallsAreAuctioned : Prop :=
  (∀ (s : State) (k landing kind : Nat) (p : List Byte), k < 8 → s.lmpServes = true → s.gysReq (3 + k) = some p →
  getU p 2 1 = landing →
    getU p 3 1 = kind → s.present landing = true → kind ≤ 2 → (∀ c ∈ s.dsp.calls, c.reg = s.me → c.num ≠ s.dsp.num) →
    s.gys.acks.length = 12 →
    ∃ t c, exec (.callreg k) s = .next t ∧ t.dsp.calls.getLast? = some c ∧ t.dsp.calls.length = s.dsp.calls.length + 1 ∧
      c.reg = s.me ∧ c.num = s.dsp.num ∧ c.kind = kind ∧ c.landing = landing ∧ c.slot = some (k, getU p 0 2) ∧
      t.dsp.num = (s.dsp.num + 1) % 65536 ∧ t.gys.acks.getD (3 + k) {} = { seq := getU p 0 2, status := Status.accepted.code } ∧
      (s.dspStatus = 0 → s.addr ≠ none → c.ph = .bidding ∧ c.tr = s.rng.time ∧ c.win = s.parN Idx.DSP_BIDWIN ∧
        t.par Idx.DSP_AUCTIONS = min (s.par Idx.DSP_AUCTIONS + 1) (2 ^ 32 - 1) ∧
        s.Sends t 3 1 (s.parN Idx.DSP_GROUP) c.reqBody 2) ∧
      (s.dspStatus = 1 ∨ s.dspStatus = 4 → c.ph = .settled ∧ c.holder = some s.me ∧
        t.par Idx.DSP_WON = min (s.par Idx.DSP_WON + 1) (2 ^ 32 - 1) ∧ s.Records t 0x0E02 1 landing) ∧
      s.Records t 0x0E01 0 landing ∧ s.EventsOnly t [Idx.DSP_AUCTIONS, Idx.DSP_WON] ∧
      t = { s with dir := t.dir, gys.acks := t.gys.acks, gys.reqs := s.gys.reqs.set (3 + k) none, rng.seq := t.rng.seq,
                   rng.out := t.rng.out, dsp.calls := t.dsp.calls, dsp.num := t.dsp.num, dsp.lastCost := t.dsp.lastCost,
                   tph := t.tph }) ∧
  (∀ (s : State) (f : RFrame) (c : Call), s.lmpServes = true → s.nextFrame 3 (some 1) = some f → c = s.askedCall f →
    s.ownAuction c.landing c.kind = none → s.canBid c = true → c.kind ≠ 3 →
    ∃ t, exec .bidReq s = .next t ∧ t.dsp.lastCost = (s.etsCost c).2 ∧ s.Sends t 3 0 f.src (s.bidBody c) 2 ∧
      t = { s with rng.inq := s.rng.inq.erase f, rng.seq := t.rng.seq, rng.out := t.rng.out, dsp.lastCost := t.dsp.lastCost }) ∧
  (∀ (s : State) (f : RFrame) (c x : Call), s.lmpServes = true → s.nextFrame 3 (some 1) = some f → c = s.askedCall f →
    s.ownAuction c.landing c.kind = some x → s.canBid c = false →
    ∃ t, exec .bidReq s = .next t ∧
      t.dsp.calls = (if s.earlier f x then s.dsp.calls.map fun y => if y.reg = s.me ∧ y.num = x.num then
          { y with ver := (y.ver + 1) % 2 ^ 32, ph := .merged, bids := [] } else y else s.dsp.calls) ∧
      t = { s with rng.inq := s.rng.inq.erase f, dsp.calls := t.dsp.calls }) ∧
  (∀ (s : State) (f : RFrame) (c : Call), s.lmpServes = true → s.nextFrame 3 (some 2) = some f → getU f.body 2 2 = s.me →
    s.call? s.me (getU f.body 4 2) = some c → c.ph = .bidding → s.rng.time ≤ c.tr + c.win * 1000 → c.best = none →
    ∃ t, exec .ringBid s = .next t ∧
      t.call? s.me (getU f.body 4 2) = some { c with
        bids := (c.bids.filter fun b => b.addr != f.src) ++ [⟨f.src, getU f.body 8 4, getU f.body 12 4⟩] } ∧
      t = { s with rng.inq := s.rng.inq.erase f, dsp.calls := t.dsp.calls }) ∧
  (∀ (bs : List Bid) (b : Bid), lowestBid bs = some b →
    b ∈ bs ∧ ∀ x ∈ bs, b.cost < x.cost ∨ (b.cost = x.cost ∧ b.addr ≤ x.addr)) ∧
  (∀ (s : State) (num g : Nat) (c : Call) (b : Bid), s.lmpServes = true → s.call? s.me num = some c → c.ph = .bidding →
    c.tr + c.win * 1000 ≤ s.rng.time → lowestBid c.bids = some b → b.addr = s.me → c.holder = none → s.freeGroup = some g →
    s.grp.groups.length = 8 →
    ∃ t, exec (.bidWindowClose num) s = .next t ∧ t.call? s.me num = some { c with ph := .group g, best := some b } ∧
      (t.group g).state = 2 ∧ (t.group g).cross = false ∧
      (t.group g).acts.map (fun a => (a.kind, a.body)) = [(0x10, callBody c 2 s.me), (0x10, callBody c 0 s.me)] ∧
      (∀ k, k ≠ g → t.group k = s.group k) ∧
      t = { s with grp.groups := t.grp.groups, grp.nextOrder := s.grp.nextOrder + 1, dsp.calls := t.dsp.calls }) ∧
  (∀ (s : State) (num : Nat) (c : Call), s.lmpServes = true → s.call? s.me num = some c → c.ph = .bidding →
    c.tr + c.win * 1000 ≤ s.rng.time → c.bids = [] → s.canBid c = false →
    ∃ t, exec (.bidWindowClose num) s = .next t ∧ t.call? s.me num = some { c with ph := .retry, retryAt := s.pwr.opTime } ∧
      (∀ a, s.dormantPeer = some a → s.Sends t 8 0 a [] 2) ∧ s.Records t 0x0E07 3 c.landing ∧ s.EventsOnly t [] ∧
      t = { s with dir := t.dir, dsp.calls := t.dsp.calls, rng.seq := t.rng.seq, rng.out := t.rng.out, tph := t.tph }) ∧
  (∀ (s : State) (num : Nat) (c : Call), s.lmpServes = true → s.call? s.me num = some c → c.ph = .retry →
    c.retryAt + 1000 ≤ s.pwr.opTime → s.dspStatus = 0 → s.addr ≠ none →
    ∃ t d, exec (.auctionRetry num) s = .next t ∧ t.call? s.me num = some d ∧ d.ph = .bidding ∧ d.tr = s.rng.time ∧
      d.landing = c.landing ∧ d.kind = c.kind ∧ s.Sends t 3 1 (s.parN Idx.DSP_GROUP) d.reqBody 2 ∧
      s.EventsOnly t [Idx.DSP_AUCTIONS] ∧
      t = { s with dir := t.dir, dsp.calls := t.dsp.calls, dsp.lastCost := t.dsp.lastCost, rng.seq := t.rng.seq,
                   rng.out := t.rng.out }) ∧
  (∀ (s : State) (f : RFrame), s.lmpServes = true → s.nextFrame 3 (some 3) = some f → s.gys.acks.length = 12 →
    ∃ t, exec .callDone s = .next t ∧
      (∀ c ∈ t.dsp.calls, c.landing = getU f.body 2 1 → c.kind = getU f.body 1 1 → c.onward = true) ∧
      (∀ c ∈ s.dsp.calls, c.landing ≠ getU f.body 2 1 ∨ c.kind ≠ getU f.body 1 1 ∨ c.onward = true → c ∈ t.dsp.calls) ∧
      (∀ c ∈ s.dsp.calls, ∀ k seq, c.landing = getU f.body 2 1 → c.kind = getU f.body 1 1 → c.onward = false → c.reg = s.me →
        c.slot = some (k, seq) → k < 8 → (t.gys.acks.getD (3 + k) {}).status = Status.ok.code) ∧
      t = { s with rng.inq := s.rng.inq.erase f, gys.acks := t.gys.acks, dsp.calls := t.dsp.calls })

/-- Summaries and notices: the own summary goes out every 250 ms; a peer's is kept, and one of the own address from another device
marks the address duplicated; a silent peer is lost; a notice replaces or withdraws an earlier one and hands its window to both
doors; pre-position calls are opened by the demand, and end; boarded passengers are reported, collected and learned; the ratios
are stored every hour; a car without its group serves locally, and rejoins. The points of log 55 are the model's. -/
def Obligations.GroupsSeeEachOther : Prop :=
  (∀ s : State, s.lmpServes = true → s.rng.enabled = true → s.addr ≠ none → (∀ at_, s.rng.sumAt = some at_ →
  at_ + 250 ≤ s.pwr.opTime) →
    s.inDispatch = false ∨ s.grownCalls = [] →
    ∃ t, exec .summarySend s = .next t ∧ t.rng.sumAt = some s.pwr.opTime ∧ t.dsp.rejoin = s.dsp.rejoin - 1 ∧
      s.Sends t 1 2 0 (s.summaryBody s.dspStatus) 2 ∧
      t = { s with rng.sumAt := t.rng.sumAt, rng.seq := t.rng.seq, rng.out := t.rng.out, dsp.rejoin := t.dsp.rejoin }) ∧
  (∀ (s : State) (f : RFrame), s.lmpServes = true → s.nextFrame 1 none = some f → s.addr ≠ some f.src → getU f.body 2 1 = 0 →
    ∃ t, exec .summary s = .next t ∧
      t.rng.peers.find? (fun p => p.addr == f.src) = some ⟨f.src, s.pwr.opTime, f.hops, f.body, false⟩ ∧ s.EventsOnlyFmt t ∧
      t = { s with dir := t.dir, rng.inq := s.rng.inq.erase f, rng.peers := t.rng.peers, dsp.full := t.dsp.full, tph := t.tph }) ∧
  (∀ (s : State) (f : RFrame), s.lmpServes = true → s.nextFrame 1 none = some f → s.addr = some f.src →
  getU f.body 16 4 ≠ identity →
    s.rng.dup = false →
    ∃ t, exec .summary s = .next t ∧ s.Records t 0x0D05 4 0xFF ∧ s.EventsOnly t [] ∧
      t = { s with dir := t.dir, rng.inq := s.rng.inq.erase f, rng.dup := true, rng.isMgr := false, rng.isMaster := false,
                   tph := t.tph }) ∧
  (∀ (s : State) (a : Nat) (p : Peer), s.lmpServes = true → p ∈ s.rng.peers → p.addr = a → p.lost = false →
    p.heard + s.parN Idx.DSP_PEERLOSS ≤ s.pwr.opTime → s.heldBy a = [] →
    ∃ t, exec (.peerLost a) s = .next t ∧
      t.rng.peers = (s.rng.peers.map fun q => if q.addr = a then { q with lost := true } else q) ∧ s.EventsOnly t [] ∧
      t = { s with dir := t.dir, rng.peers := t.rng.peers, dsp.full := t.dsp.full, tph := t.tph }) ∧
  (∀ (s : State) (f : RFrame), s.lmpServes = true → s.nextFrame 7 none = some f → (getU f.body 4 1).testBit 0 = false →
    ∃ t x, exec .trainNotice s = .next t ∧ t.dsp.notices.getLast? = some x ∧ x.src = f.src ∧ x.id = getU f.body 0 4 ∧
      x.landing = getU f.body 5 1 ∧ x.flow = getU f.body 6 1 ∧ x.ta = getU f.body 8 8 ∧ x.pax = getU f.body 16 2 ∧
      x.acted = false ∧ x.sent = false ∧ x.done = false ∧
      (∀ y ∈ t.dsp.notices.dropLast, y ∈ s.dsp.notices ∧ ¬(y.src = f.src ∧ y.id = getU f.body 0 4)) ∧
      t.dr0.windows.getLast? = some (s.noticeWin 0 x) ∧ t.dr1.windows.getLast? = some (s.noticeWin 1 x) ∧
      s.Records t 0x0E08 1 (getU f.body 5 1) ∧ s.EventsOnly t [] ∧
      t = { s with dir := t.dir, rng.inq := s.rng.inq.erase f, dsp.notices := t.dsp.notices, dr0.windows := t.dr0.windows,
                   dr1.windows := t.dr1.windows, tph := t.tph }) ∧
  (∀ (s : State) (f : RFrame), s.lmpServes = true → s.nextFrame 7 none = some f → (getU f.body 4 1).testBit 0 = true →
    ∃ t, exec .trainNotice s = .next t ∧
      t.dsp.notices = (s.dsp.notices.filter fun y => !(y.src == f.src && y.id == getU f.body 0 4)) ∧
      s.Records t 0x0E08 1 (getU f.body 5 1) ∧ s.EventsOnly t [] ∧
      t = { s with dir := t.dir, rng.inq := s.rng.inq.erase f, dsp.notices := t.dsp.notices, dr0.windows := t.dr0.windows,
                   dr1.windows := t.dr1.windows, tph := t.tph }) ∧
  (∀ (s : State) (src id : Nat) (x : Notice), s.lmpServes = true → s.inDispatch = true → s.par Idx.DSP_PREDEN = 1 →
    (∀ p ∈ s.members, p.addr < s.me → getU p.body 2 1 ≠ 0) → s.notice? src id = some x → x.acted = false →
    x.ta ≤ s.rng.time + s.parN Idx.DSP_PREWIN * 1000000 → s.rng.time < x.ta →
    ∃ t, exec (.dspPreposition src id) s = .next t ∧ t.notice? src id = some { x with acted := true } ∧
      (s.ratioUse x.landing * x.pax < s.parN Idx.DSP_PREMIN * 10 ^ 9 → t = { s with dsp.notices := t.dsp.notices }) ∧
      (s.parN Idx.DSP_PREMIN * 10 ^ 9 ≤ s.ratioUse x.landing * x.pax → t.dsp.calls.length = s.dsp.calls.length +
        min ((s.ratioUse x.landing * x.pax + s.parN Idx.DSP_CARPAX * 10 ^ 9 - 1) / max 1 (s.parN Idx.DSP_CARPAX * 10 ^ 9))
          (s.parN Idx.DSP_PREMAX)) ∧
      s.EventsOnly t [Idx.DSP_AUCTIONS, Idx.DSP_WON] ∧
      t = { s with dir := t.dir, dsp.notices := t.dsp.notices, dsp.calls := t.dsp.calls, dsp.num := t.dsp.num,
                   dsp.lastCost := t.dsp.lastCost, rng.seq := t.rng.seq, rng.out := t.rng.out, tph := t.tph }) ∧
  (∀ (s : State) (src id : Nat) (left : Bool) (x : Notice), s.lmpServes = true → s.notice? src id = some x →
    (left = true ∧ s.parkedAt x.landing = false) ∨ x.ta + s.parN Idx.DSP_PREHOLD * 1000000 ≤ s.rng.time →
    ∃ t, exec (.preholdEnd src id left) s = .next t ∧ (∀ c, c ∈ t.dsp.calls ↔ c ∈ s.dsp.calls ∧ ¬(c.kind = 3 ∧
    c.notice = (src, id))) ∧
      t = { s with dsp.calls := t.dsp.calls }) ∧
  (∀ (s : State) (src id : Nat) (x : Notice), s.lmpServes = true → s.inDispatch = true → s.notice? src id = some x →
  x.sent = false →
    x.ta + s.parN Idx.DSP_SURGEWIN * 1000000 ≤ s.rng.time → s.parkedAt x.landing = false →
    ∃ t, exec (.surgeWindowEnd src id) s = .next t ∧
      t.notice? src id = some { x with sent := true, boarded := x.boarded ++
        [(s.me, (rdiv ((x.kg * 10 : Nat) : Int) (max 1 (s.par Idx.DSP_PAXKG))).toNat)] } ∧
      s.Sends t 3 1 (s.parN Idx.DSP_GROUP) (toLe 1 4 ++ [0] ++ toLe 1 x.landing ++ [0] ++ toLe 2 src ++ toLe 2 0 ++ toLe 4 id ++
        toLe 4 (rdiv ((x.kg * 10 : Nat) : Int) (max 1 (s.par Idx.DSP_PAXKG))).toNat) 2 ∧
      t = { s with dsp.notices := t.dsp.notices, rng.seq := t.rng.seq, rng.out := t.rng.out }) ∧
  (∀ (s : State) (f : RFrame) (x : Notice), s.lmpServes = true → s.nextFrame 3 (some 4) = some f →
    s.notice? (getU f.body 4 2) (getU f.body 8 4) = some x → (∀ p ∈ x.boarded, p.1 ≠ f.src) →
    ∃ t, exec .boarded s = .next t ∧ t.notice? (getU f.body 4 2) (getU f.body 8 4) =
        some { x with boarded := x.boarded ++ [(f.src, getU f.body 12 4)] } ∧
      t = { s with rng.inq := s.rng.inq.erase f, dsp.notices := t.dsp.notices }) ∧
  (∀ (s : State) (src id : Nat) (x : Notice), s.lmpServes = true → s.inDispatch = true → s.notice? src id = some x →
  x.done = false →
    x.ta + s.parN Idx.DSP_SURGEWIN * 1000000 + 5000000 ≤ s.rng.time →
    ∃ t, exec (.ratioUpdate src id) s = .next t ∧ t.notice? src id = some { x with done := true } ∧
      (s.rtc.set = true → x.pax ≠ 0 → t.ratio (ratioKey x.landing s.rtc.cal.hour) =
        ((s.ratio (ratioKey x.landing s.rtc.cal.hour) : Int) + rdiv (s.par Idx.DSP_PREDGAIN *
          ((((x.boarded.map fun p => p.2).foldl (· + ·) 0 * 10 ^ 8 / x.pax : Nat) : Int) -
            s.ratio (ratioKey x.landing s.rtc.cal.hour))) 1000).toNat) ∧
      (s.rtc.set = false ∨ x.pax = 0 → t.dsp.ratios = s.dsp.ratios) ∧
      t = { s with dsp.notices := t.dsp.notices, dsp.ratios := t.dsp.ratios }) ∧
  (∀ s : State, s.lmpServes = true → s.dsp.keptAt + 3600000 ≤ s.pwr.opTime →
    exec .ratioStore s = .next { s with dsp.ratiosKept := s.dsp.ratios, dsp.baseKept := s.dsp.ratioBase,
                                        dsp.keptAt := s.pwr.opTime }) ∧
  (∀ (s : State) (ms : Nat), s.lmpServes = true → s.member = true → s.dsp.loc = false → s.ringPoor = true →
    s.parN Idx.DSP_RINGLOSS ≤ ms →
    ∃ t, exec (.dspLocalService ms) s = .next t ∧ t.par Idx.DSP_LOCALEPI = min (s.par Idx.DSP_LOCALEPI + 1) (2 ^ 32 - 1) ∧
      s.Records t 0x0E05 3 0xFF ∧ s.EventsOnly t [Idx.DSP_LOCALEPI] ∧
      t = { s with dir := t.dir, dsp.loc := true, dsp.locAt := s.pwr.opTime, dsp.locServed := 0, tph := t.tph }) ∧
  (∀ (s : State) (sec : Nat), s.lmpServes = true → s.member = true → s.dsp.loc = true → s.ringPoor = false →
    s.parN Idx.DSP_REJOIN ≤ sec → s.heldBy s.me = [] →
    ∃ t, exec (.dspRejoined sec) s = .next t ∧ s.Records t 0x0E06 2 0xFF ∧ s.EventsOnly t [] ∧
      t = { s with dir := t.dir, dsp.loc := false, dsp.rejoin := 10,
                   dsp.epi := ((s.pwr.opTime - s.dsp.locAt) / 1000, s.dsp.locServed), tph := t.tph })

/-- The neighbour link: a car sends a frame with its next sequence number, which passes the receiver's own checks; an
unacknowledged message starts again after 3 ms; a good frame of the expected car renews its data and both safety channels'
extents, one that is damaged or repeats a sequence number only breaks the side's run of good frames, one of another car is
recorded; a link lost for 2,500 µs stops a moving car, and comes back after 50 good frames; a refused zone request is repeated for
its target. The points of log 50 are the model's. -/
def Obligations.NeighboursAreExchanged : Prop :=
  (∀ (s : State) (up : Bool), s.engines = true → s.sideOn up = true →
    ∃ t, exec (.neighbourFrameSend up) s = .next t ∧ (t.side up).seqOut = ((s.side up).seqOut + 1) % 256 ∧
      (t.side up).frame.length = 128 ∧ nlCrcGood (t.side up).frame true = true ∧
      getU (t.side up).frame 1 1 = (t.side up).seqOut ∧ sectionGood (t.side up).frame 40 (!up) = true ∧
      sectionGood (t.side up).frame 56 (!up) = true ∧
      (t.side up).safSent = (if up then max s.saf.chA.hi s.saf.chB.hi else min s.saf.chA.lo s.saf.chB.lo) ∧
      t.side (!up) = s.side (!up) ∧
      t = { s with grp.out := t.grp.out, shf.up := t.shf.up, shf.dn := t.shf.dn, shf.lossStop := t.shf.lossStop }) ∧
  (∀ (s : State) (up : Bool) (m : NlMsg), s.engines = true → s.sideOn up = true → (s.side up).msg = some m → m.count ≤ m.frag →
    m.sentAt + 3 ≤ s.pwr.opTime → s.rng.time < m.expires →
    exec (.messageRepeat up) s = .next (s.modSide up fun n => { n with msg := some { m with frag := 0 } })) ∧
  (∀ (s : State) (up coded : Bool) (gap : Nat) (bs : List Byte), s.engines = true → s.sideOn up = true →
    nlCrcGood bs coded = false ∨ (s.side up).lastSeq = some (getU bs 1 1) →
    ∃ t, exec (.neighbourFrame up bs coded gap) s = .next t ∧ t.side up = { s.side up with goodN := 0 } ∧
      t.side (!up) = s.side (!up) ∧
      (nlCrcGood bs coded = false → ∀ isA, t.chan isA = { s.chan isA with
        above.good := if up then 0 else (s.chan isA).above.good, below.good := if up then (s.chan isA).below.good else 0 }) ∧
      t = { s with saf.chA := t.saf.chA, saf.chB := t.saf.chB, shf.up := t.shf.up, shf.dn := t.shf.dn }) ∧
  (∀ (s : State) (up : Bool) (gap : Nat) (bs : List Byte), s.engines = true → s.sideOn up = true → nlCrcGood bs true = true →
    (s.side up).lastSeq ≠ some (getU bs 1 1) → s.nlNamed up bs = false → (s.side up).miswired = false →
    ∃ t, exec (.neighbourFrame up bs true gap) s = .next t ∧ t.side up = { s.side up with goodN := 0, miswired := true } ∧
      t.side (!up) = s.side (!up) ∧ s.Records t 0x0F0A 4 (b2n up) ∧ s.EventsOnly t [] ∧
      t = { s with dir := t.dir, saf.chA := t.saf.chA, saf.chB := t.saf.chB, shf.up := t.shf.up, shf.dn := t.shf.dn,
                   tph := t.tph }) ∧
  (∀ (s : State) (up : Bool) (gap : Nat) (bs : List Byte), s.engines = true → s.sideOn up = true → nlCrcGood bs true = true →
    (s.side up).lastSeq ≠ some (getU bs 1 1) → s.nlNamed up bs = true → s.shf.handover = none →
    ∃ t, exec (.neighbourFrame up bs true gap) s = .next t ∧ (t.side up).lastSeq = some (getU bs 1 1) ∧
      (t.side up).receiving = true ∧ (t.side up).flags = getU bs 3 1 ∧ (t.side up).pos = getS bs 8 4 ∧
      (t.side up).speed = getS bs 12 4 ∧ (t.side up).un = getS bs 16 4 ∧ (t.side up).ln = getS bs 20 4 ∧
      (t.side up).zlo = getS bs 24 4 ∧ (t.side up).zhi = getS bs 28 4 ∧ (t.side up).zver = getU bs 32 4 ∧
      (t.side up).goodN = (if (getU bs 3 1).testBit 0 then (s.side up).goodN + 1 else 0) ∧
      (t.side up).verified = t.sideVerified up ∧ (t.side up).good = (s.side up).good ∧
      (sectionGood bs 40 up = true → sectionGood bs 56 up = true → ∀ isA,
        (if up then (t.chan isA).above.got else (t.chan isA).below.got) = some s.pwr.opTime ∧
        (if up then (t.chan isA).above.hi else (t.chan isA).below.hi) = max (getS bs 40 4) (getS bs 56 4) ∧
        (if up then (t.chan isA).above.lo else (t.chan isA).below.lo) = min (getS bs 44 4) (getS bs 60 4)) ∧
      t.side (!up) = s.side (!up) ∧ s.TablesKept t ∧
      s.ParsKept t [Idx.TPH_BUFDROPS, if up then Idx.SHF_GAPSUP else Idx.SHF_GAPSDN, if up then Idx.SHF_ZHI else Idx.SHF_ZLO,
        Idx.SHF_ZVER, Idx.DEV_CFGCOUNT] ∧
      t = { s with dir := t.dir, grp.inq := t.grp.inq, saf.chA := t.saf.chA, saf.chB := t.saf.chB, shf.up := t.shf.up,
                   shf.dn := t.shf.dn, tph := t.tph, sec.measDirty := t.sec.measDirty }) ∧
  (∀ (s : State) (up : Bool) (us : Nat), s.engines = true → s.sideOn up = true → (s.side up).good = true → 2500 ≤ us →
    ∃ t, exec (.shfLinkLost up us) s = .next t ∧ (t.side up).good = false ∧ (t.side up).goodN = 0 ∧
    (t.side up).receiving = false ∧
      ((s.side up).handSeen = false → (t.side up).lost = true ∧ s.Records t 0x0F02 4 (b2n up) ∧
        t.par Idx.SHF_LOSSES = min (s.par Idx.SHF_LOSSES + 1) (2 ^ 32 - 1) ∧
        (s.hst.released = true → s.refRest = false → t.hst.causes.testBit 5 = true ∧ t.shf.lossStop = true)) ∧
      ((s.side up).handSeen = true → (t.side up).dormant = true ∧ (t.side up).lost = (s.side up).lost ∧ t.hst = s.hst) ∧
      t.side (!up) = s.side (!up) ∧ s.EventsOnly t [Idx.SHF_LOSSES] ∧
      t = { s with dir := t.dir, hst.causes := t.hst.causes, shf.up := t.shf.up, shf.dn := t.shf.dn,
                   shf.lossStop := t.shf.lossStop,
                   tph := t.tph }) ∧
  (∀ (s : State) (up : Bool), s.engines = true → s.sideOn up = true → 50 ≤ (s.side up).goodN → (s.side up).good = false →
    s.sideVerified up = true →
    ∃ t, exec (.shfLinkRestored up) s = .next t ∧
      t.side up = { s.side up with good := true, dormant := false, handSeen := false, entering := 0, verified := true,
                                   wasGood := true, lost := false } ∧
      ((s.side up).wasGood = false → s.Records t 0x0F01 2 (b2n up)) ∧ ((s.side up).lost = true → s.Records t 0x0F03 2 (b2n up)) ∧
      t.side (!up) = s.side (!up) ∧ s.EventsOnly t [] ∧
      t = { s with dir := t.dir, shf.up := t.shf.up, shf.dn := t.shf.dn, tph := t.tph }) ∧
  (∀ (s : State) (q : ZoneReq), s.engines = true → s.shf.request = some q → q.group = none → q.done = false →
    q.at_ + 1000 ≤ s.pwr.opTime →
    ∃ t, exec .zoneRequestRepeat s = .next t ∧
      (s.hst.zoneTarget ≠ some q.target → t = { s with shf.request := none }) ∧
      (s.hst.zoneTarget = some q.target → (s.side q.up).good = false ∨ (s.side q.up).verified = false →
        t = { s with shf.request := some { q with at_ := s.pwr.opTime } }) ∧
      (∀ g, s.hst.zoneTarget = some q.target → (s.side q.up).good = true → (s.side q.up).verified = true → s.freeGroup = some g →
        s.grp.groups.length = 8 →
        t.shf.request = some { q with group := some g, at_ := s.pwr.opTime } ∧ (t.group g).state = 2 ∧ (t.group g).cross = true ∧
          (t.group g).acts.map (fun a => (a.part, a.kind, a.body)) =
            [(1, 0x11, zoneBody 1 (if q.up then 0 else 1) (if q.up then q.edge + s.par Idx.SHF_GAP1 else q.edge - s.par
            Idx.SHF_GAP1)),
             (0, 0x11, zoneBody 0 (if q.up then 1 else 0) q.edge)]) ∧
      t = { s with grp := t.grp, shf.request := t.shf.request })

/-- Writing records: the oldest waiting event is a new record with the next sequence number, or raises the count of the record it
repeats; in a full store it overwrites the oldest of a lower severity, else of the same one, else it is dropped and counted. A
repeat window closes; a stream's descriptor of 15 records, or after its latency, is queued with the next sequence number. When
RECORD_WRITE runs is the sender's (log 4, 41). -/
def Obligations.EventsBecomeRecords : Prop :=
  (∀ (s : State) (code sev inst : Nat) (data : List Byte), s.opCounts = true → sourceId (code / 256) = true → 1 ≤ code % 256 →
    code % 256 ≤ 0xF3 → sev ≤ 7 →
    ∃ t, exec (.eventRaised code sev inst data) s = .next t ∧ s.Records t code sev inst ∧
      ((sev : Int) < s.par Idx.TPH_RECSEV → t = s) ∧ s.EventsOnly t [] ∧ t = { s with dir := t.dir, tph := t.tph }) ∧
  (∀ (s : State) (e : Evt) (rest : List Evt), s.formats = true → s.tph.queue = e :: rest → s.repeatOf e = none →
    s.tph.recs.length < 65536 →
    ∃ t r, exec .recordWrite s = .next t ∧ t.tph.recs = s.tph.recs ++ [r] ∧ r.seq = s.tph.last + 1 ∧ r.evt = e ∧ r.rep = 0 ∧
      r.format1 = (s.tph.fmtUse == 1 && !e.ownCodes) ∧ t.tph.last = s.tph.last + 1 ∧ rest <+: t.tph.queue ∧
      s.ParsKept t [Idx.TPH_BUFDROPS] ∧ t = { s with dir := t.dir, tph := t.tph }) ∧
  (∀ (s : State) (e : Evt) (rest : List Evt) (r : Rec), s.formats = true → s.tph.queue = e :: rest → s.repeatOf e = some r →
    ∃ t, exec .recordWrite s = .next t ∧
      t.tph.recs = (s.tph.recs.map fun x => if x.seq = r.seq then
        { x with rep := min 0xFFFF (x.rep + 1), repMs := min 0xFFFF (e.stamp.op - x.evt.stamp.op) } else x) ∧
      t = { s with tph.queue := rest, tph.recs := t.tph.recs }) ∧
  (∀ (recs : List Rec) (sev : Nat),
    (∀ v, victim recs sev = some v → v ∈ recs ∧ v.evt.sev ≤ sev ∧ (∀ x ∈ recs, x.evt.sev < sev → v.evt.sev < sev)) ∧
    (victim recs sev = none ↔ ∀ x ∈ recs, sev < x.evt.sev)) ∧
  (∀ (s : State) (e : Evt) (rest : List Evt) (v : Rec), s.formats = true → s.tph.queue = e :: rest → s.repeatOf e = none →
    65536 ≤ s.tph.recs.length → victim s.tph.recs e.sev = some v →
    ∃ t r, exec .recordWrite s = .next t ∧ t.tph.recs = (s.tph.recs.filter fun x => x.seq != v.seq) ++ [r] ∧
      r.seq = s.tph.last + 1 ∧ r.evt = e ∧ t.tph.last = s.tph.last + 1 ∧
      t.par Idx.TPH_OVERWRITES = (s.par Idx.TPH_OVERWRITES + 1) % 2 ^ 32 ∧
      s.ParsKept t [Idx.TPH_BUFDROPS, Idx.TPH_OVERWRITES] ∧
      t = { s with dir := t.dir, host.slots := t.host.slots, tph := t.tph }) ∧
  (∀ (s : State) (e : Evt) (rest : List Evt), s.formats = true → s.tph.queue = e :: rest → s.repeatOf e = none →
    65536 ≤ s.tph.recs.length → victim s.tph.recs e.sev = none →
    ∃ t, exec .recordWrite s = .next t ∧ t.par Idx.TPH_DROPS = min (s.par Idx.TPH_DROPS + 1) (2 ^ 32 - 1) ∧
      s.ParsKept t [Idx.TPH_DROPS] ∧ t = { s with dir := t.dir, tph.queue := rest }) ∧
  (∀ (s : State) (r : Rec), s.formats = true → s.tph.recs.find? (fun x => x.seq == r.seq) = some r → r.windowOpen = true →
    r.evt.stamp.op + s.parN Idx.TPH_REPWIN ≤ s.pwr.opTime →
    ∃ t, exec (.repeatWindowClose r.seq) s = .next t ∧
      t.tph.recs = (s.tph.recs.map fun x => if x.seq = r.seq then { x with windowOpen := false } else x) ∧
      (r.rep = 0 → t = { s with tph.recs := t.tph.recs }) ∧ s.ParsKept t [Idx.TPH_BUFDROPS] ∧
      t = { s with dir := t.dir, tph := t.tph }) ∧
  (∀ (s : State) (k : Nat) (x : Stream), s.formats = true → k < 4 → s.tph.streams.length = 4 → s.stream k = some x → x.fill ≠ [] →
    x.cursor = none → x.queue.length < 8 → x.fill.length = 15 ∨ x.fillAt + x.fillLat ≤ s.pwr.opTime →
    exec (.streamDescriptorClose k) s = .next { s with tph.streams := s.tph.streams.set k (some { x with
      queue := x.queue ++ [s.signFor x.slot (x.desc k)], seq := (x.seq + 1) % 2 ^ 32, fill := [], dropped := 0,
      lossTold := false }) })

/-- Reading events: a subscription takes the first free stream, or completes BUSY, or RANGE for sources or severities that do not
exist; a read fills the slot's window with up to 16 records from its cursor and severity on; a snapshot captures tail and head
first and holds the window to them. A host command is named by the tag of its taken descriptor (log 6). -/
def Obligations.HostsReadEvents : Prop :=
  (∀ (s : State) (tag k : Nat), s.Admitted tag 0x20 0 → getU (s.flight tag).p 0 1 ≤ 7 → getU (s.flight tag).p 1 1 ≤ 8 →
    (∀ n ∈ subSources (s.flight tag).p, sourceId n = true) → s.freeStream = some k →
    (getU (s.flight tag).p 2 1).testBit 0 = false →
    ∃ t, exec (.evtSubscribe tag) s = .next t ∧ s.Completed t tag .ok ∧
      t = { s with host := t.host, tph.streams := s.tph.streams.set k (some
        { slot := (s.flight tag).slot, minSev := getU (s.flight tag).p 0 1, sources := subSources (s.flight tag).p }) }) ∧
  (∀ (s : State) (tag k : Nat), s.Admitted tag 0x20 0 → getU (s.flight tag).p 0 1 ≤ 7 → getU (s.flight tag).p 1 1 ≤ 8 →
    (∀ n ∈ subSources (s.flight tag).p, sourceId n = true) → s.freeStream = some k →
    (getU (s.flight tag).p 2 1).testBit 0 = true →
    s.tph.streams.length = 4 →
    ∃ t, exec (.evtSubscribe tag) s = .next t ∧ s.Completed t tag .ok ∧
      (∃ x, t.stream k = some x ∧ x.slot = (s.flight tag).slot ∧ x.minSev = getU (s.flight tag).p 0 1 ∧
        x.sources = subSources (s.flight tag).p) ∧
      (∀ j, j ≠ k → t.stream j = s.stream j) ∧ t.tph.recs = s.tph.recs ∧
      t = { s with dir := t.dir, host := t.host, tph := t.tph }) ∧
  (∀ (s : State) (tag : Nat), s.Admitted tag 0x20 0 → getU (s.flight tag).p 0 1 ≤ 7 → getU (s.flight tag).p 1 1 ≤ 8 →
    (∀ n ∈ subSources (s.flight tag).p, sourceId n = true) → (∀ j < 4, s.stream j ≠ none) →
    ∃ t, exec (.evtSubscribe tag) s = .next t ∧ s.Completed t tag .busy ∧ t = { s with host := t.host }) ∧
  (∀ (s : State) (tag : Nat), s.Admitted tag 0x20 0 → 7 < getU (s.flight tag).p 0 1 ∨ 8 < getU (s.flight tag).p 1 1 →
    ∃ t, exec (.evtSubscribe tag) s = .next t ∧ s.Completed t tag .range ∧ t = { s with host := t.host }) ∧
  (∀ (s : State) (tag : Nat), s.Admitted tag 0x21 0 → (getU (s.flight tag).p 6 1).testBit 0 = false →
    evtReadBad (s.flight tag).p = false → (s.flight tag).slot < s.host.slots.length →
    ∃ t w, exec (.evtRead tag) s = .next t ∧ s.Completed t tag .ok ∧ (t.slot (s.flight tag).slot).window = some w ∧
      w.cursor = getU (s.flight tag).p 0 6 ∧ w.minSev = getU (s.flight tag).p 7 1 ∧
      ((s.slot (s.flight tag).slot).window = none → w.recs.length ≤ 16 ∧ ∀ r ∈ w.recs, r ∈ s.tph.recs ∧ w.cursor ≤ r.seq ∧
        w.minSev ≤ r.evt.sev) ∧
      (t.slot (s.flight tag).slot).snap = (s.slot (s.flight tag).slot).snap ∧ t = { s with host := t.host }) ∧
  (∀ (s : State) (tag : Nat), s.Admitted tag 0x21 0 → (getU (s.flight tag).p 6 1).testBit 0 = true →
    evtReadBad (s.flight tag).p = false → (s.flight tag).slot < s.host.slots.length →
    ∃ t w, exec (.snapshot tag) s = .next t ∧ s.Completed t tag .ok ∧ (t.slot (s.flight tag).slot).window = some w ∧
      (t.slot (s.flight tag).slot).snap = some { tail := s.tph.tail, head := s.tph.head } ∧
      (∀ r ∈ w.recs, r ∈ s.tph.recs ∧ getU (s.flight tag).p 0 6 ≤ r.seq ∧ getU (s.flight tag).p 7 1 ≤ r.evt.sev ∧
        ((getU (s.flight tag).p 6 1).testBit 2 = false → r.seq ≤ s.tph.head)) ∧ t = { s with host := t.host }) ∧
  (∀ (s : State) (tag : Nat), s.Admitted tag 0x21 0 → evtReadBad (s.flight tag).p = true →
    ((getU (s.flight tag).p 6 1).testBit 0 = false →
      ∃ t, exec (.evtRead tag) s = .next t ∧ s.Completed t tag .range ∧ t = { s with host := t.host }) ∧
    ((getU (s.flight tag).p 6 1).testBit 0 = true →
      ∃ t, exec (.snapshot tag) s = .next t ∧ s.Completed t tag .range ∧ t = { s with host := t.host }))

/-- The calendar: the next second of a possible date and time is one second later and again possible, but for the wrap after 2199;
a due second counts; a write sets it at once, with SET, its counter and its record, or completes INVALID_DATE; a capture completes
OK, or STALE while the calendar is unset; a trim window ends. The sub-second count of a write and the alarm on the cell are log
56. -/
def Obligations.CalendarCounts : Prop :=
  (∀ c : Calendar, c.valid = true → c.next.1.valid = true ∧ (c.next.2 = false → c.next.1.secs = c.secs + 1) ∧
    (c.next.2 = true ↔ c = { year := 2199, month := 12, day := 31, hour := 23, minute := 59, second := 59 }) ∧
    1 ≤ c.weekday ∧ c.weekday ≤ 7) ∧
  (∀ s : State, s.pwr.state ≠ .off → s.rtc.sub = 32767 → 125 ≤ s.rtc.frac →
    ∃ t, exec .rtcSecond s = .next t ∧ t.rtc.cal = s.rtc.cal.next.1 ∧ t.rtc.set = (s.rtc.set && !s.rtc.cal.next.2) ∧
      t.rtc.sub < 32768 ∧ 125 * t.rtc.sub + t.rtc.frac = s.rtc.frac - 125 ∧ s.EventsOnly t [] ∧
      t = { s with pwr.wakeLatch := t.pwr.wakeLatch, pwr.startEvts := t.pwr.startEvts, dir := t.dir, can0 := t.can0,
                   can1 := t.can1,
                   rtc := t.rtc, tph := t.tph }) ∧
  (∀ (s : State) (tag : Nat) (c : Calendar), s.Admitted tag 0x28 2 → c = readCalendar (s.flight tag).p →
  getU (s.flight tag).p 7 1 = 0 →
    getU (s.flight tag).p 10 6 = 0 → c.valid = true → getU (s.flight tag).p 8 2 ≤ 999 →
    ∃ t, exec (.rtcWrite tag) s = .next t ∧ s.Completed t tag .ok ∧ t.rtc.cal = c ∧
      rtcMs t.rtc.sub = getU (s.flight tag).p 8 2 ∧ t.rtc.set = true ∧ t.rtc.frac = 0 ∧ t.par Idx.RTC_EVERSET = 1 ∧
      t.par Idx.RTC_SETCOUNT = min (s.par Idx.RTC_SETCOUNT + 1) (2 ^ 32 - 1) ∧ s.Records t 0x1101 2 0xFF ∧
      s.EventsOnly t [Idx.RTC_EVERSET, Idx.RTC_SETCOUNT] ∧
      t = { s with host := t.host, dir := t.dir, rtc.cal := c, rtc.sub := t.rtc.sub, rtc.frac := 0, rtc.set := true,
                   rtc.lostNew := false, tph := t.tph }) ∧
  (∀ (s : State) (tag : Nat) (c : Calendar), s.Admitted tag 0x28 2 → c = readCalendar (s.flight tag).p →
  getU (s.flight tag).p 7 1 = 0 →
    getU (s.flight tag).p 10 6 = 0 → c.valid = false ∨ 999 < getU (s.flight tag).p 8 2 →
    ∃ t, exec (.rtcWrite tag) s = .next t ∧ s.Completed t tag .invalidDate ∧ t = { s with host := t.host }) ∧
  (∀ (s : State) (tag : Nat), s.Admitted tag 0x29 0 →
    ∃ t, exec (.rtcCapture tag) s = .next t ∧ s.Completed t tag (if s.rtc.set then .ok else .stale) ∧
      t = { s with host := t.host, rtc.capture := some (s.rtc.cal, rtcMs s.rtc.sub) }) ∧
  (∀ (s : State) (ppm : Int) (good : Nat), s.pwr.state ≠ .off → 2 ^ 20 ≤ s.rtc.window →
    ∃ t, exec (.trimWindow ppm good) s = .next t ∧ t.rtc.trimUse = s.par Idx.RTC_TRIM ∧ t.rtc.window = s.rtc.window - 2 ^ 20 ∧
      t.rtc.degraded = (s.rtc.degraded && !decide (10 ≤ good)) ∧ t.rtc.cal = s.rtc.cal ∧ t.rtc.sub = s.rtc.sub ∧
      (s.pwr.state = .run → t.par Idx.RTC_MEASPPM = clampInt (-5000) 5000 ppm) ∧ s.ParsKept t [Idx.RTC_MEASPPM] ∧
      t = { s with pwr.xtal32Bad := t.pwr.xtal32Bad, dir := t.dir, rtc.trimUse := t.rtc.trimUse, rtc.window := t.rtc.window,
                   rtc.degraded := t.rtc.degraded })

/-- Authentication: a challenge is kept for its slot, or for its ring source, with two fresh random values; a response consumes it
and opens the session with the privilege asked for within the certificate's, or is refused, counted and recorded, the fifth
failure locking its source out for 10 s; a repeated ring AUTH changes nothing; a challenge ends after 2 s, a lockout after 10 s.
The random values are free (log 7), the functions opaque (log 10), and the points of log 31 and 35 are the model's. -/
def Obligations.SessionsAreAuthenticated : Prop :=
  (∀ (s : State) (tag : Nat), s.Admitted tag 0x40 0 → (s.flight tag).slot < s.host.slots.length →
    s.challengeRefused (s.flight tag).p (s.slot (s.flight tag).slot).authBusy.isSome = none →
    ∃ t, exec (.authChallenge tag) s = .next t ∧ s.Completed t tag .ok ∧
      (t.slot (s.flight tag).slot).challenge = some (s.newChallenge (s.flight tag).p) ∧
      t = { s with host := t.host, sec.free := s.sec.free + 2 }) ∧
  (∀ (s : State) (tag : Nat) (st : Status), s.Admitted tag 0x40 0 →
    s.challengeRefused (s.flight tag).p (s.slot (s.flight tag).slot).authBusy.isSome = some st →
    ∃ t, exec (.authChallenge tag) s = .next t ∧ s.Completed t tag st ∧ t = { s with host := t.host }) ∧
  (∀ (s : State) (tag : Nat) (c : Challenge), s.Admitted tag 0x41 0 → (s.flight tag).slot < s.host.slots.length →
    s.pendingChal (s.slot (s.flight tag).slot).challenge = some c → (s.slot (s.flight tag).slot).session = none →
    ∃ t, exec (.authResponse tag) s = .next t ∧
      s.Completed t tag ((s.responseRefused c (s.flight tag).p (some (s.flight tag).slot)).getD .ok) ∧
      (t.slot (s.flight tag).slot).challenge = none ∧
      (s.responseRefused c (s.flight tag).p (some (s.flight tag).slot) = none →
        (t.slot (s.flight tag).slot).session = some (s.newSession c (s.flight tag).p) ∧
        (t.slot (s.flight tag).slot).authFails = 0 ∧
        s.Records t 0x0205 1 (s.flight tag).slot) ∧
      (s.responseRefused c (s.flight tag).p (some (s.flight tag).slot) ≠ none →
        (t.slot (s.flight tag).slot).session = none ∧ s.Records t 0x0204 3 (s.flight tag).slot ∧
        t.par Idx.SEC_AUTHFAIL = min (s.par Idx.SEC_AUTHFAIL + 1) (2 ^ 32 - 1)) ∧
      s.EventsOnly t [Idx.SEC_AUTHFAIL] ∧ t = { s with host := t.host, dir := t.dir, tph := t.tph }) ∧
  (∀ (s : State) (tag : Nat), s.Admitted tag 0x41 0 → (s.flight tag).slot < s.host.slots.length →
    s.pendingChal (s.slot (s.flight tag).slot).challenge = none →
    ∃ t, exec (.authResponse tag) s = .next t ∧ s.Completed t tag .notFound ∧ s.Records t 0x0204 3 (s.flight tag).slot ∧
      t.par Idx.SEC_AUTHFAIL = min (s.par Idx.SEC_AUTHFAIL + 1) (2 ^ 32 - 1) ∧
      (5 ≤ (s.slot (s.flight tag).slot).authFails + 1 → (t.slot (s.flight tag).slot).authBusy = some (s.pwr.opTime + 10000)) ∧
      s.EventsOnly t [Idx.SEC_AUTHFAIL] ∧ t = { s with host := t.host, dir := t.dir, tph := t.tph }) ∧
  (∀ (s : State) (src tseq : Nat) (bs : List Byte), s.lmpServes = true → s.rng.enabled = true → src < 1024 → bs.length ≤ 512 →
    (∃ x ∈ s.sec.ringAns, x.addr = src ∧ x.seq = tseq) → exec (.ringAuth src tseq bs) s = .next s) ∧
  (∀ (s : State) (src tseq : Nat) (bs : List Byte), s.lmpServes = true → s.rng.enabled = true → src < 1024 → bs.length ≤ 512 →
    (∀ x ∈ s.sec.ringAns, ¬(x.addr = src ∧ x.seq = tseq)) → (readDesc bs).opcode = 0x40 →
    s.challengeRefused (readDesc bs).payload
      ((s.ringFail src).busy.isSome || (!(s.sec.ringChals.any fun x => x.addr == src) && decide (4 ≤ s.sec.ringChals.length))) =
      none →
    exec (.ringAuth src tseq bs) s = .next { s with
      sec.free := s.sec.free + 2
      sec.ringChals := (s.sec.ringChals.filter fun x => x.addr != src) ++ [⟨src, s.newChallenge (readDesc bs).payload⟩]
      sec.ringAns := (s.sec.ringAns.filter fun x => x.addr != src) ++
        [⟨src, tseq, authReply (readDesc bs) .ok (s.newChallenge (readDesc bs).payload).answer⟩] }) ∧
  (∀ (s : State) (src tseq : Nat) (bs : List Byte), s.lmpServes = true → s.rng.enabled = true → src < 1024 → bs.length ≤ 512 →
    (∀ x ∈ s.sec.ringAns, ¬(x.addr = src ∧ x.seq = tseq)) → (readDesc bs).opcode ≠ 0x40 → (readDesc bs).opcode ≠ 0x41 →
    exec (.ringAuth src tseq bs) s = .next { s with
      sec.ringAns := (s.sec.ringAns.filter fun x => x.addr != src) ++ [⟨src, tseq, authReply (readDesc bs) .range []⟩] }) ∧
  (∀ (s : State) (src tseq h : Nat) (bs : List Byte) (c : Challenge), s.lmpServes = true → s.rng.enabled = true → src < 1024 →
    bs.length ≤ 512 → (∀ x ∈ s.sec.ringAns, ¬(x.addr = src ∧
    x.seq = tseq)) → (readDesc bs).opcode = 0x41 → s.ringChal src = some c →
    s.ringSlot src = some h → h < s.host.slots.length → (s.slot h).session = none →
    ∃ t, exec (.ringAuth src tseq bs) s = .next t ∧ (∀ x ∈ t.sec.ringChals, x.addr ≠ src) ∧
      (∃ x ∈ t.sec.ringAns, x.addr = src ∧ x.seq = tseq ∧
        x.reply.status = ((s.responseRefused c (readDesc bs).payload (some h)).getD .ok).code) ∧
      (s.responseRefused c (readDesc bs).payload (some h) = none →
        (t.slot h).session = some (s.newSession c (readDesc bs).payload) ∧ (t.slot h).ringHost = some src ∧
        s.Records t 0x0205 1 h) ∧
      (s.responseRefused c (readDesc bs).payload (some h) ≠ none → t.host = s.host ∧ s.Records t 0x0204 3 0xFF) ∧
      s.EventsOnly t [Idx.SEC_AUTHFAIL] ∧
      t = { s with host := t.host, dir := t.dir, tph := t.tph, sec.ringChals := t.sec.ringChals, sec.ringAns := t.sec.ringAns,
                   sec.ringFails := t.sec.ringFails }) ∧
  (∀ (s : State) (a : Nat) (c : Challenge), a < 8 → (s.slot a).challenge = some c → c.at_ + 2000 ≤ s.pwr.opTime →
    exec (.challengeExpired false a) s = .next (s.modSlot a fun x => { x with challenge := none })) ∧
  (∀ (s : State) (a : Nat) (x : RingChal), s.sec.ringChals.find? (fun x => x.addr == a) = some x →
  x.chal.at_ + 2000 ≤ s.pwr.opTime →
    exec (.challengeExpired true a) s = .next { s with sec.ringChals := s.sec.ringChals.filter fun x => x.addr != a }) ∧
  (∀ (s : State) (a until_ : Nat), a < 8 → (s.slot a).authBusy = some until_ → until_ ≤ s.pwr.opTime →
    exec (.authBusyEnd false a) s = .next (s.modSlot a fun x => { x with authBusy := none, authFails := 0 })) ∧
  (∀ (s : State) (a until_ : Nat), (s.ringFail a).busy = some until_ → until_ ≤ s.pwr.opTime →
    ∃ t, exec (.authBusyEnd true a) s = .next t ∧ t.ringFail a = ⟨a, 0, none⟩ ∧ t = { s with sec.ringFails := t.sec.ringFails })

/-- Attestation: the measurements are taken when something they cover has changed, and at a report that needs them; the report is
signed for the host's nonce; the certificates are read as they are; all of it is DENIED once debug access is open. The functions
are opaque (log 10), and key identifiers are log 35. -/
def Obligations.TheDeviceAttests : Prop :=
  (∀ s : State, s.sec.measDirty = true → s.opCounts = true →
    exec .measurementUpdate s = .next { s with
      sec.measCode := s.codeMeasure
      sec.measProgram := s.programMeasure
      sec.measConfig := s.configMeasure
      sec.measDirty := false }) ∧
  (∀ (s : State) (tag : Nat), s.Admitted tag 0x4A 0 → (s.flight tag).selector = 0 → s.sec.dbg ≠ 2 →
    ∃ t d report, exec (.attest tag) s = .next t ∧ s.Completed t tag .ok ∧
    t.host.store = s.host.store ++ [((s.flight tag).slot, d)] ∧
      report.length = 352 ∧ report.take 4 = ascii "TRGA" ∧ (report.drop 24).take 32 = padTo 32 ((s.flight tag).p.take 32) ∧
      d.payload = report ++ toLe 114 (Config.ed448Sign (ascii "TRGA-RPT" ++ report)) ∧ t.sec.measDirty = false ∧
      (s.sec.measDirty = true → t.sec.measCode = s.codeMeasure ∧ t.sec.measConfig = s.configMeasure) ∧
      t = { s with host := t.host, sec.measCode := t.sec.measCode, sec.measProgram := t.sec.measProgram,
                   sec.measConfig := t.sec.measConfig, sec.measDirty := false }) ∧
  (∀ (s : State) (tag : Nat), s.Admitted tag 0x4A 0 → 2 < (s.flight tag).selector → s.sec.dbg ≠ 2 →
    ∃ t, exec (.attest tag) s = .next t ∧ s.Completed t tag .range ∧ t = { s with host := t.host }) ∧
  (∀ (s : State) (tag : Nat), s.Admitted tag 0x4A 0 → (s.flight tag).selector = 1 → s.sec.dbg ≠ 2 →
    ∃ t d, exec (.attestDeviceCert tag) s = .next t ∧ s.Completed t tag .ok ∧
      t.host.store = s.host.store ++ [((s.flight tag).slot, d)] ∧ d.payload = devCert ∧ t = { s with host := t.host }) ∧
  (∀ (s : State) (tag : Nat), s.Admitted tag 0x4A 0 → (s.flight tag).selector = 2 → s.sec.dbg ≠ 2 →
    ∃ t d, exec (.attestCaCert tag) s = .next t ∧ s.Completed t tag .ok ∧
      t.host.store = s.host.store ++ [((s.flight tag).slot, d)] ∧ d.payload = caCert ∧ t = { s with host := t.host }) ∧
  (∀ (s : State) (tag : Nat), s.Admitted tag 0x4A 0 → s.sec.dbg = 2 →
    ∃ t, (exec (.attest tag) s = .next t ∨ exec (.attestDeviceCert tag) s = .next t ∨ exec (.attestCaCert tag) s = .next t) ∧
      s.Completed t tag .denied ∧ t = { s with host := t.host })

/-- Firmware: chunks of the claimed image are staged and read back; a discard releases the claim; a refused switch is recorded; an
accepted one waits for a quiet point, which is its commit point, or times out; the new LMP runs as a trial; CONFIRM ends the trial
and raises SEC.MINSVN; REVERT goes back; the safety channels are swapped in DORMANT, Wick B after SEC.SWAPGAP in RUN. The points
of log 33 and 34 are the model's. -/
def Obligations.FirmwareIsStagedAndSwitched : Prop :=
  (∀ (s : State) (tag k : Nat), s.Admitted tag 0x48 3 → (s.flight tag).fwDiscards = false → 1 ≤ (s.flight tag).fwLen →
    (s.flight tag).fwLen ≤ 448 → (s.flight tag).fwOff + (s.flight tag).fwLen ≤ 1572864 →
    ((s.flight tag).fwFlag 0 = true → (s.flight tag).fwFlag 1 = false ∧ s.beginRefused (s.flight tag) = false) →
    ((s.flight tag).fwFlag 0 = false → s.sec.claim = some (s.flight tag).slot) →
    (s.inLoader = true → getU (s.flight tag).p 1 1 ≤ 1) → (s.inLoader = false → getU (s.flight tag).p 1 1 = 0) →
    k = (if (s.flight tag).fwFlag 0 then s.fwTarget (s.flight tag) else s.sec.staged) → k < s.sec.fw.length →
    memWf zeroByte (s.fwSlot k).bytes →
    ∃ t, exec (.fwStage tag) s = .next t ∧ s.Completed t tag .ok ∧ t.sec.claim = some (s.flight tag).slot ∧ t.sec.staged = k ∧
      t.fwBytes k (s.flight tag).fwOff (s.flight tag).fwLen = writeData (s.flight tag).p (s.flight tag).fwLen ∧
      (∀ a, a < (s.flight tag).fwOff ∨ (s.flight tag).fwOff + (s.flight tag).fwLen ≤ a → t.fwBytes k a 1 = s.fwBytes k a 1) ∧
      (∀ j, j ≠ k → t.fwSlot j = s.fwSlot j) ∧
      t = { s with host := t.host, sec.fw := t.sec.fw, sec.claim := t.sec.claim, sec.staged := t.sec.staged,
                   sec.confirmed := t.sec.confirmed, sec.fwStat := t.sec.fwStat }) ∧
  (∀ (s : State) (tag : Nat), s.Admitted tag 0x48 3 → (s.flight tag).fwDiscards = true → s.sec.claim = some (s.flight tag).slot →
    ∃ t, exec (.fwStageDiscard tag) s = .next t ∧ s.Completed t tag .ok ∧
      t = { s with host := t.host, sec.claim := none, sec.fwStat := if s.sec.fwStat = 1 then 0 else s.sec.fwStat }) ∧
  (∀ (s : State) (tag : Nat), s.Admitted tag 0x49 3 → (s.flight tag).fwOp = 1 → s.inLoader = false →
    ∃ t, exec (.fwSwitch tag) s = .next t ∧
      (∀ st, s.switchRefused (s.flight tag) = some st → s.Completed t tag st ∧ s.Records t 0x1204 3 0xFF ∧ t.sec = s.sec) ∧
      (s.switchRefused (s.flight tag) = none → (t.flight tag).phase = .quietWait ∧ t.host.store = s.host.store ∧
      t.sec.fwStat = 2 ∧
        t.sec.quietAt = s.pwr.opTime ∧ t.sec.reverting = false ∧ t.sec.active = s.sec.active) ∧
      s.EventsOnly t [] ∧ t = { s with host := t.host, dir := t.dir, tph := t.tph, sec := t.sec }) ∧
  (∀ (s : State) (tag : Nat) (f : Flight), s.lmpServes = true → s.flight? tag = some f → f.phase = .quietWait → s.quiet = true →
    ∃ t, exec (.quietPoint tag) s = .next t ∧ (t.flight tag).phase = .switching ∧ t.host.store = s.host.store ∧
      t.lmp.restarting = !s.readsHandover s.switchTo ∧
      t = { s with host := t.host, lmp := t.lmp, tph.bufLost := t.tph.bufLost }) ∧
  (∀ (s : State) (tag : Nat) (f : Flight), s.flight? tag = some f → f.phase = .quietWait →
    s.sec.quietAt + s.parN Idx.SEC_QUIETMAX ≤ s.pwr.opTime →
    ∃ t, exec (.quietPointTimeout tag) s = .next t ∧ s.Completed t tag .timeout ∧
      t = { s with host := t.host, sec.fwStat := s.sec.statBefore }) ∧
  (∀ (s : State) (tag : Nat) (f : Flight), s.flight? tag = some f → f.phase = .switching → s.lmp.restarting = false →
    s.engines = true →
    ∃ t, exec (.secFwSwitched tag) s = .next t ∧ s.Completed t tag .ok ∧ t.sec.active = s.switchTo ∧
    t.sec.previous = s.sec.active ∧
      t.sec.claim = none ∧ t.sec.measDirty = true ∧
      (s.sec.revertPlain = false → t.sec.fwStat = if s.sec.reverting then 0 else 3) ∧
      t.par Idx.DEV_FWIF = (s.fwSlot s.switchTo).fwif ∧ t.par Idx.SEC_SWITCHES = min (s.par Idx.SEC_SWITCHES + 1) (2 ^ 32 - 1) ∧
      s.EventsOnly t [Idx.DEV_FWIF, Idx.SEC_SWITCHES] ∧ t = { s with host := t.host, dir := t.dir, tph := t.tph, sec := t.sec }) ∧
  (∀ (s : State) (tag : Nat), s.Admitted tag 0x49 3 → (s.flight tag).fwOp = 2 →
    ∃ t, exec (.fwConfirm tag) s = .next t ∧
      (s.sec.fwStat = 3 → s.Completed t tag .ok ∧ t.sec.confirmed = true ∧ t.sec.fwStat ≠ 3 ∧
        t.parN Idx.SEC_MINSVN = max (s.parN Idx.SEC_MINSVN) s.fwActive.svn ∧ s.Records t 0x1202 2 0xFF) ∧
      (s.sec.fwStat ≠ 3 → s.Completed t tag .state ∧ t.sec = s.sec ∧ t.dir = s.dir) ∧
      s.ParsKept t [Idx.TPH_BUFDROPS, Idx.SEC_MINSVN] ∧ t = { s with host := t.host, dir := t.dir, tph := t.tph, sec := t.sec }) ∧
  (∀ (s : State) (tag : Nat), s.Admitted tag 0x49 3 → (s.flight tag).fwOp = 3 →
    ∃ t, exec (.fwRevert tag) s = .next t ∧
      (s.sec.fwStat = 3 ∨ (s.sec.fwStat ≠ 2 ∧ s.sec.confirmed = true ∧
          s.parN Idx.SEC_MINSVN ≤ (s.fwSlot s.sec.previous).svn) →
        (t.flight tag).phase = .quietWait ∧ t.host.store = s.host.store ∧ t.sec.reverting = true ∧ t.sec.fwStat = 2 ∧
        t.switchTo = s.sec.previous) ∧
      (s.sec.fwStat = 2 ∨ (s.sec.fwStat ≠ 3 ∧ s.sec.confirmed = false) → s.Completed t tag .state ∧ t.sec = s.sec) ∧
      (s.sec.fwStat ≠ 2 → s.sec.fwStat ≠ 3 → s.sec.confirmed = true →
        (s.fwSlot s.sec.previous).svn < s.parN Idx.SEC_MINSVN → s.Completed t tag .denied ∧ s.Records t 0x1204 3 0xFF ∧
        t.sec = s.sec) ∧
      s.EventsOnly t [] ∧ t = { s with host := t.host, dir := t.dir, tph := t.tph, sec := t.sec }) ∧
  (∀ (s : State) (ch : Nat), ch < 2 → s.pwr.state = .dormant → s.sec.swapping = true → s.swapDue ch = true →
    ∃ t, exec (.secSafSwapped ch true) s = .next t ∧ (if ch = 0 then t.sec.safA else t.sec.safB) = s.sec.active ∧
      (if ch = 0 then t.sec.safB else t.sec.safA) = (if ch = 0 then s.sec.safB else s.sec.safA) ∧ t.sec.swapping = false ∧
      (ch = 1 → t.sec.fwStat = 0) ∧ t.sec.measDirty = true ∧ s.Records t 0x1205 2 ch ∧ s.EventsOnly t [] ∧
      t = { s with dir := t.dir, tph := t.tph, sec := t.sec }) ∧
  (∀ (s : State) (ch : Nat), ch < 2 → s.pwr.state = .dormant → s.sec.swapping = true → s.swapDue ch = true →
    ∃ t, exec (.secSafSwapped ch false) s = .next t ∧ s.LockedOut t 12 ∧
    s.EventsOnly t [Idx.SAF_LOCKCAUSE, Idx.HST_LEARNSTAT, Idx.HST_LEARNCAUSE] ∧
      t = { s with host := t.host, dir := t.dir, pwr := t.pwr, gys.acks := t.gys.acks, hst := t.hst, cle.slots := t.cle.slots,
                   dr0 := t.dr0, dr1 := t.dr1, saf := t.saf, fio.ch := t.fio.ch, can0 := t.can0, can1 := t.can1, tph := t.tph,
                   sec.swapping := false }) ∧
  (∀ s : State, s.sec.fwStat = 4 → s.channelStale s.sec.safA = false → s.channelStale s.sec.safB = true →
    3600000 * s.parN Idx.SEC_SWAPGAP ≤ s.sec.swapRun →
    exec .swapGapReached s = .next { s with sec.fwStat := 5 })

/-- DORMANT: an accepted request waits, first for the handover of declared neighbours, and begins the entry; a refused one
completes STATE, a running brake torque test abandoned; a handover ends after 20 ms; the entry opens every output, sends the buses
to standby and stops the clocks; a wake before that ends the request ABORTED; a qualifying source starts the clocks again; the
device is then in RUN with both safety channels comparing from new records. The points of log 37 and 38 are the model's. -/
def Obligations.DormantIsEnteredAndLeft : Prop :=
  (∀ (s : State) (tag : Nat) (wake : Bool), s.Admitted tag 0x38 1 → getU (s.flight tag).p 0 1 = 3 →
    ({ s with pwr.wakeLand := wake } : State).dormantRequestOk 1 = true →
    ∃ t, exec (.stateRequest tag wake) s = .next t ∧ (t.flight tag).phase = .dormantWait ∧ t.host.store = s.host.store ∧
      (s.sideOn true = true ∨ s.sideOn false = true → t.shf.handover = some s.pwr.opTime ∧ t.pwr.entering = s.pwr.entering) ∧
      (s.sideOn true = false → s.sideOn false = false → t.pwr.entering = true ∧ t.gys.held = true ∧
        t.pwr.maskUse = s.parN Idx.PWR_WAKEMASK ∧ t.pwr.wakeFioUse = s.parN Idx.PWR_WAKEFIO ∧
        t.pwr.dmoveUse = s.parN Idx.PWR_DMOVE) ∧
      t = { s with host := t.host, pwr := t.pwr, gys.held := t.gys.held, shf.handover := t.shf.handover }) ∧
  (∀ (s : State) (tag : Nat) (wake : Bool), s.Admitted tag 0x38 1 → getU (s.flight tag).p 0 1 = 3 →
    ({ s with pwr.wakeLand := wake } : State).dormantRequestOk 1 = false →
    ∃ t, exec (.stateRequest tag wake) s = .next t ∧ s.Completed t tag .state ∧ t.saf.btPhase = 0 ∧
      (s.saf.btPhase ≠ 0 → t.par Idx.SAF_BTRESULT = 4 ∧ s.Records t 0x091A 3 0xFF ∧ ∀ k, t.soClosed k = false) ∧
      (s.saf.btPhase = 0 → t = { s with host := t.host, pwr.wakeLand := wake }) ∧ s.EventsOnly t [Idx.SAF_BTRESULT] ∧
      t = { s with host := t.host, pwr.wakeLand := wake, dir := t.dir, hst.enable := t.hst.enable, saf := t.saf, tph := t.tph }) ∧
  (∀ (s : State) (tag : Nat) (wake : Bool), s.Admitted tag 0x38 1 → getU (s.flight tag).p 0 1 ≠ 3 →
    ∃ t, exec (.stateRequest tag wake) s = .next t ∧ s.Completed t tag .range ∧
    t = { s with host := t.host, pwr.wakeLand := wake }) ∧
  (∀ (s : State) (wake : Bool) (p : List Byte), s.engines = true → s.gysReq 11 = some p → getU p 2 1 = 3 →
  s.gys.acks.length = 12 →
    ({ s with pwr.wakeLand := wake } : State).dormantRequestOk 0 = true →
    ∃ t, exec (.stateReq wake) s = .next t ∧ t.pwr.geyserReq = true ∧
      t.gys.acks.getD 11 {} = { seq := getU p 0 2, status := Status.accepted.code } ∧
      (s.sideOn true = true ∨ s.sideOn false = true → t.shf.handover = some s.pwr.opTime) ∧
      (s.sideOn true = false → s.sideOn false = false → t.pwr.entering = true ∧ t.gys.held = true) ∧
      t = { s with pwr := t.pwr, gys.held := t.gys.held, gys.acks := t.gys.acks, gys.reqs := s.gys.reqs.set 11 none,
                   shf.handover := t.shf.handover }) ∧
  (∀ (s : State) (held : Nat), s.pwr.entering = false → s.engines = true → s.shf.handover = some held → held + 20 ≤ s.pwr.opTime →
    ∃ t, exec .handoverTimeout s = .next t ∧ t.shf.handover = none ∧ t.pwr.entering = false ∧ t.pwr.geyserReq = false ∧
      t.gys.held = false ∧ (∀ f ∈ t.host.ops, f.phase ≠ .dormantWait) ∧
      (∀ f ∈ s.host.ops, f.phase = .dormantWait → ∃ d, (f.slot, d) ∈ t.host.store ∧ d.tag = f.d.tag ∧
      d.status = Status.state.code) ∧
      t = { s with host := t.host, pwr := t.pwr, gys.held := false, gys.acks := t.gys.acks, shf.handover := none }) ∧
  (∀ (s : State) (si fio sent : Nat), s.pwr.entering = true → s.lmpServes = true → s.pwr.state = .run → s.gys.phase = .boundary →
    (∀ j ∈ s.gys.journals, j.durable = true) →
    ∃ t, exec (.dormantEntry si fio sent) s = .next t ∧ t.pwr.state = .dormant ∧ t.pwr.entering = false ∧
      t.pwr.dormantAt = s.pwr.opTime ∧ t.saf.running = false ∧ (∀ k, t.soClosed k = false) ∧ t.dr0.gates = false ∧
      t.dr1.gates = false ∧
      t.can0.standby = true ∧ t.can1.standby = true ∧ t.lmp.keptOut = false ∧ t.pwr.monSi = si % 2 ^ 16 ∧
      t.pwr.monFio = fio % 2 ^ 48 ∧ t.shf.handover = none ∧ (∀ c ∈ t.cle.slots, c.want = false ∧ c.on = false) ∧
      t = { s with pwr := t.pwr, lmp.keptOut := false, host.slots := t.host.slots, dir := t.dir, cle := t.cle, dr0 := t.dr0,
                   dr1 := t.dr1, saf := t.saf, can0 := t.can0, can1 := t.can1, rng := t.rng, dsp.rejoin := t.dsp.rejoin,
                   shf.handover := none, tph := t.tph, sec := t.sec }) ∧
  (∀ (s : State) (src at_ : Nat) (v : Int), s.pwr.entering = true ∨ s.shf.handover ≠ none → s.pwr.state ≠ .dormant →
    s.wakeQualifies src v = true →
    ∃ t, exec (.dormantWake src v at_) s = .next t ∧ t.pwr.entering = false ∧ t.shf.handover = none ∧ t.gys.held = false ∧
      (∀ f ∈ t.host.ops, f.phase ≠ .dormantWait) ∧
      (∀ f ∈ s.host.ops, f.phase = .dormantWait → ∃ d, (f.slot, d) ∈ t.host.store ∧ d.tag = f.d.tag ∧
      d.status = Status.aborted.code) ∧
      t = { s with host := t.host, pwr := t.pwr, gys.held := false, gys.acks := t.gys.acks, shf.handover := none }) ∧
  (∀ (s : State) (src at_ : Nat) (v : Int), s.pwr.state = .dormant → s.wakeQualifies src v = true →
    ∃ t, exec (.dormantWake src v at_) s = .next t ∧ t.pwr.waking = true ∧ t.pwr.state = .dormant ∧
      (∀ b, wakeBit src = some b → t.pwr.wakeLatch.testBit b = true) ∧
      (s.pwr.waking = false → t.gys.held = false ∧ t.gys.woke = true ∧ s.Records t 0x010F 1 0xFF) ∧
      (src = 8 → s.pwr.moveLatched = false → t.pwr.moveLatched = true ∧ t.par Idx.PWR_DMOVED = s.incTravel v ∧
        s.Records t 0x010C 4 0xFF) ∧
      t = { s with pwr := t.pwr, dir := t.dir, gys.held := t.gys.held, gys.woke := t.gys.woke, cle.slots := t.cle.slots,
                   dr0 := t.dr0,
                   dr1 := t.dr1, fio.ch := t.fio.ch, can0 := t.can0, can1 := t.can1, tph := t.tph,
                   rtc.alarmTold := t.rtc.alarmTold }) ∧
  (∀ (s : State) (edges : Int), s.pwr.state = .dormant → s.pwr.waking = true → s.sec.swapping = false →
    ∃ t, exec (.wakeComplete edges) s = .next t ∧ t.pwr.state = (if s.pwr.sag then .tripped else .run) ∧ t.pwr.waking = false ∧
      t.saf.running = true ∧ t.pwr.wakeLatch = 0 ∧ t.par Idx.PWR_DMOVED = s.incTravel edges ∧ s.Records t 0x010B 1 0xFF ∧
      (∀ isA, (t.chan isA).fresh = false ∧ (t.chan isA).recMiss = 0 ∧ (t.chan isA).mismatch = 0) ∧
      (∀ f ∈ s.host.ops, f.phase = .dormantWait → ∃ d, (f.slot, d) ∈ t.host.store ∧ d.tag = f.d.tag ∧ d.status = Status.ok.code) ∧
      s.EventsOnly t [Idx.PWR_DMOVED] ∧
      t = { s with host := t.host, pwr := t.pwr, dir := t.dir, gys.acks := t.gys.acks, saf := t.saf, tph := t.tph }) ∧
  (∀ (s : State) (f : RFrame), s.rng.enabled = true → s.nextFrame 8 none = some f →
    ∃ t, exec .ringWake s = .next t ∧
      t.pwr.wakeLatch = (if (s.pwr.state = .dormant ∨ s.pwr.entering = true) ∧ s.pwr.maskUse.testBit 2 = true
        then s.pwr.wakeLatch ||| 8 else s.pwr.wakeLatch) ∧
      t = { s with pwr.wakeLatch := t.pwr.wakeLatch, rng.inq := s.rng.inq.erase f })

/-- The thresholds of VIN and of the die's temperature: each is recorded when it has held for its time and clears at its own
limit; a sag turns every output off and trips the device; the temperature trip turns field outputs off; recovery leaves the trip
to the safety cycle. Voltages, temperatures and times held are operands (log 5), and the points of log 39 are the model's. -/
def Obligations.SupplyAndTemperatureThresholds : Prop :=
  (∀ (s : State) (mV us : Nat), s.opCounts = true → s.pwr.vinOv = false → 32000 < mV → 1000 ≤ us →
    ∃ t, exec (.vinOv mV us) s = .next t ∧ t.par Idx.PWR_VIN = min mV 40000 ∧ s.Records t 0x0106 3 0xFF ∧
      s.EventsOnly t [Idx.PWR_VIN, Idx.PWR_VINMIN] ∧ t = { s with dir := t.dir, pwr.vinOv := true, tph := t.tph }) ∧
  (∀ (s : State) (mV us : Nat), s.opCounts = true → s.pwr.vinOv = true → mV < 31000 → 100000 ≤ us →
    ∃ t, exec (.vinOvClear mV us) s = .next t ∧ t.par Idx.PWR_VIN = mV ∧ s.ParsKept t [Idx.PWR_VIN, Idx.PWR_VINMIN] ∧
      t = { s with dir := t.dir, pwr.vinOv := false }) ∧
  (∀ (s : State) (mV us : Nat), s.opCounts = true → s.pwr.vinWarn = false → mV < 19000 → 1000 ≤ us →
    ∃ t, exec (.vinWarn mV us) s = .next t ∧ t.par Idx.PWR_VIN = mV ∧ t.par Idx.PWR_VINMIN = min (s.par Idx.PWR_VINMIN) mV ∧
      s.Records t 0x0101 3 0xFF ∧ s.EventsOnly t [Idx.PWR_VIN, Idx.PWR_VINMIN] ∧
      t = { s with dir := t.dir, pwr.vinWarn := true, tph := t.tph }) ∧
  (∀ (s : State) (mV us : Nat), s.opCounts = true → s.pwr.vinWarn = true → 19500 < mV → 100000 ≤ us →
    ∃ t, exec (.vinWarnClear mV us) s = .next t ∧ s.Records t 0x0102 2 0xFF ∧ s.EventsOnly t [Idx.PWR_VIN, Idx.PWR_VINMIN] ∧
      t = { s with dir := t.dir, pwr.vinWarn := false, tph := t.tph }) ∧
  (∀ (s : State) (mV us : Nat), s.opCounts = true → s.pwr.sag = false → mV < 16000 → 2000 ≤ us → s.pwr.state ≠ .dormant →
    s.pwr.entering = false → s.shf.handover = none →
    ∃ t, exec (.vinSag mV us) s = .next t ∧ t.pwr.sag = true ∧ (s.pwr.state = .run → t.pwr.state = .tripped) ∧
      (∀ k, t.soClosed k = false) ∧ (∀ c ∈ t.fio.ch, c.on = false) ∧ t.dr0.gates = false ∧ t.dr1.gates = false ∧
      t.hst.st = .fault ∧
      t.hst.enable = false ∧ t.par Idx.PWR_SAGCOUNT = min (s.par Idx.PWR_SAGCOUNT + 1) (2 ^ 32 - 1) ∧ s.Records t 0x0103 6 0xFF ∧
      s.EventsOnly t [Idx.PWR_VIN, Idx.PWR_VINMIN, Idx.PWR_SAGCOUNT, Idx.HST_LEARNSTAT, Idx.HST_LEARNCAUSE] ∧
      t = { s with dir := t.dir, pwr := t.pwr, gys.recoveredNow := false, hst := t.hst, cle.slots := t.cle.slots, dr0 := t.dr0,
                   dr1 := t.dr1, saf := t.saf, fio := t.fio, tph := t.tph }) ∧
  (∀ (s : State) (mV us : Nat), s.opCounts = true → s.pwr.sag = true → 17000 ≤ mV → 100000 ≤ us →
    ∃ t, exec (.vinRecover mV us) s = .next t ∧ s.Records t 0x0104 2 0xFF ∧ s.EventsOnly t [Idx.PWR_VIN, Idx.PWR_VINMIN] ∧
      t = { s with dir := t.dir, pwr.sag := false, pwr.supplyRecovered := true, saf.endCause := 0x0104, tph := t.tph }) ∧
  (∀ (s : State) (tdie : Int) (ms : Nat), s.opCounts = true → s.pwr.tempHigh = false → 1300 < tdie → 1000 ≤ ms →
    ∃ t, exec (.tempWarn tdie ms) s = .next t ∧ t.par Idx.PWR_TDIE = min tdie 1500 ∧
      t.par Idx.PWR_TDIEMAX = max (s.par Idx.PWR_TDIEMAX) (min tdie 1500) ∧ s.Records t 0x0110 3 0xFF ∧
      s.EventsOnly t [Idx.PWR_TDIE, Idx.PWR_TDIEMAX] ∧ t = { s with dir := t.dir, pwr.tempHigh := true, tph := t.tph }) ∧
  (∀ (s : State) (tdie : Int), s.opCounts = true → s.pwr.tempHigh = true → tdie < 1250 →
    ∃ t, exec (.tempHighClear tdie) s = .next t ∧ s.ParsKept t [Idx.PWR_TDIE, Idx.PWR_TDIEMAX] ∧
      t = { s with dir := t.dir, pwr.tempHigh := false }) ∧
  (∀ (s : State) (tdie : Int) (ms : Nat), s.engines = true → s.pwr.tempTrip = false → 1400 < tdie → 1000 ≤ ms →
    ∃ t, exec (.tempTrip tdie ms) s = .next t ∧ t.pwr.tempTrip = true ∧ (s.pwr.state = .run → t.pwr.state = .tripped) ∧
      (∀ c ∈ t.fio.ch, c.on = false) ∧ t.fio.held = true ∧ t.hst.causes.testBit 7 = true ∧ s.Records t 0x0111 6 0xFF ∧
      s.EventsOnly t [Idx.PWR_TDIE, Idx.PWR_TDIEMAX] ∧
      t = { s with dir := t.dir, pwr.state := t.pwr.state, pwr.tempTrip := true, pwr.supplyRecovered := false,
                   gys.recoveredNow := false, hst.causes := t.hst.causes, fio := t.fio, tph := t.tph }) ∧
  (∀ (s : State) (tdie : Int) (ms : Nat), s.engines = true → s.pwr.tempTrip = true → tdie < 1200 → 60000 ≤ ms →
    ∃ t, exec (.tempTripClear tdie ms) s = .next t ∧ t.hst.causes.testBit 7 = false ∧
      s.ParsKept t [Idx.PWR_TDIE, Idx.PWR_TDIEMAX] ∧
      t = { s with dir := t.dir, pwr.tempTrip := false, pwr.supplyRecovered := !s.pwr.sag, hst.causes := t.hst.causes,
                   saf.endCause := 0 })

/-- The fast domain is lost to a low VIN, a rail fault or NRST: the device is in AON with the blocks it does not keep as after
reset, the durable values live and the keys kept. It starts again on VIN, with the power cycle counted and the operating time
resumed, or at the end of NRST; the start ends in RUN, in the recovery loader, or at its first failing step in LOCKOUT. The
findings of START are operands, and the points of log 40 are the model's. -/
def Obligations.DeviceStopsAndStarts : Prop :=
  (∀ (s : State) (mV us : Nat), s.opCounts = true → mV < 12000 → 20 ≤ us →
    ∃ t, exec (.vinStop mV us) s = .next t ∧ s.FastLost t 1 ∧ t.pwr.opTime = s.pwr.opTime ∧
      ∃ e ∈ t.pwr.startEvts, e.code = 0x0105 ∧ e.sev = 4) ∧
  (∀ (s : State) (rail us : Nat), s.opCounts = true → rail ≤ 6 → 10 < us →
    ∃ t, exec (.railFault rail us) s = .next t ∧ s.FastLost t 2 ∧ t.pwr.opTime = s.pwr.opTimeStored ∧
      ∃ e ∈ t.pwr.startEvts, e.code = 0x0107 ∧ e.sev = 5) ∧
  (∀ (s : State) (us : Nat), s.opCounts = true → s.pwr.nrstLow = false → 10 ≤ us →
    ∃ t, exec (.nrstLow us) s = .next t ∧ s.FastLost t 3 ∧ t.pwr.nrstLow = true ∧ t.pwr.nrstHeld = 0) ∧
  (∀ (s : State) (us : Nat), s.pwr.state = .aon → s.pwr.nrstLow = false → 10 ≤ us →
    exec (.nrstLow us) s = .next { s with
      pwr.nrstLow := true
      pwr.nrstHeld := 0
      pwr.monItems := 0
      pwr.monMoved := 0 }) ∧
  (∀ (s : State) (mV us : Nat) (boot : Bool), s.pwr.state = .aon → s.pwr.aonOnVin = true → s.pwr.nrstLow = false → 17000 ≤ mV →
    10000 ≤ us →
    ∃ t, exec (.vinStart mV us boot) s = .next t ∧ t.pwr.state = .start ∧ t.pwr.bootsel = boot ∧
      t.pwr.pwrCyc = min 0xFFFFFF (s.pwr.pwrCyc + 1) ∧ t.pwr.opTime = s.pwr.opTimeStored ∧
      s.ParsKept t [Idx.PWR_VIN, Idx.PWR_VINMIN] ∧ t = { s with dir := t.dir, pwr := t.pwr, rtc.capture := none }) ∧
  (∀ (s : State) (mV items : Nat) (boot : Bool) (moved : Int), s.pwr.nrstLow = true → s.pwr.state = .aon →
    ∃ t, exec (.nrstRelease mV boot items moved) s = .next t ∧ t.pwr.nrstLow = false ∧ t.pwr.monItems = items % 16 ∧
      t.pwr.monMoved = moved ∧ t.par Idx.PWR_NRSTHELD = s.pwr.nrstHeld ∧
      t.pwr.state = (if s.pwr.aonOnVin = true ∧ 17000 ≤ mV then .start else .aon) ∧
      (∃ e ∈ t.pwr.startEvts, e.code = 0x010A ∧ e.sev = 1) ∧
      s.ParsKept t [Idx.PWR_NRSTHELD, Idx.PWR_VIN, Idx.PWR_VINMIN] ∧
      t = { s with dir := t.dir, pwr := t.pwr, rtc.capture := t.rtc.capture }) ∧
  (∀ (s : State) (verifies cell k : Nat) (repaired slots : List Nat) (cal : Nat) (pos : Int), s.pwr.state = .start →
    s.pwr.recovery = false → s.pwr.bootsel = false → s.bootSlot verifies = some k → cal ≠ 2 → s.pwr.sag = false →
    ∃ t, exec (.startComplete verifies 0 repaired [] cal slots false pos cell) s = .next t ∧ t.pwr.state = .run ∧
      t.saf.running = true ∧ t.rng.enabled = true ∧ t.sec.active = k ∧ t.sec.safA = k ∧ t.sec.safB = k ∧ t.hst.pf = 256 * pos ∧
      t.hst.retained = pos ∧ t.pwr.startEvts = [] ∧ s.Records t 0x010B 1 0xFF ∧
      t = { s with pwr := t.pwr, dir := t.dir, gys := t.gys, hst := t.hst, saf := t.saf, can0 := t.can0, can1 := t.can1,
                   rng := t.rng,
                   shf := t.shf, tph := t.tph, rtc := t.rtc, sec := t.sec }) ∧
  (∀ (s : State) (verifies selfTest cal cell : Nat) (repaired lost slots : List Nat) (differ : Bool) (pos : Int),
    s.pwr.state = .start → s.pwr.recovery = false → s.pwr.bootsel = false →
    ∃ t, exec (.startComplete verifies selfTest repaired lost cal slots differ pos cell) s = .next t ∧
      (s.bootSlot verifies = none → t.pwr.state = .lockout) ∧
      (s.bootSlot verifies ≠ none → selfTest ≠ 0 → s.LockedOut t 12) ∧
      (s.bootSlot verifies ≠ none → selfTest = 0 → lost ≠ [] → t.pwr.state = .lockout ∧ t.pwr.lockoutCause = 0x1312) ∧
      (s.bootSlot verifies ≠ none → selfTest = 0 → lost = [] → cal = 2 → t.pwr.state = .lockout ∧ t.pwr.lockoutCause = 0x1316) ∧
      (s.bootSlot verifies ≠ none → selfTest = 0 → lost = [] → cal ≠ 2 → differ = true → s.LockedOut t 11) ∧
      (t.pwr.state = .lockout → t.saf.running = false ∧ ∀ j, t.soClosed j = false)) ∧
  (∀ (s : State) (verifies selfTest cal cell : Nat) (repaired lost slots : List Nat) (differ : Bool) (pos : Int),
    s.pwr.state = .start → s.pwr.recovery = false → s.pwr.bootsel = true →
    ∃ t, exec (.startComplete verifies selfTest repaired lost cal slots differ pos cell) s = .next t ∧ t.pwr.recovery = true ∧
      (∃ e ∈ t.pwr.startEvts, e.code = 0x120C ∧ e.sev = 2) ∧
      t = { s with pwr.recovery := true, pwr.startEvts := t.pwr.startEvts, sec.unonce := t.sec.unonce,
                   sec.free := s.sec.free + 1 })

/-- The AON domain's supply and the clocks: the selector follows VIN, the cell starts the domain and lets it down, the hold-up's
end loses it; a low cell is recorded; a failing 25 MHz crystal is LOCKOUT with HOST and the LMP stopped, a failing 32 kHz crystal
leaves the calendar on the RC; the operating time is stored every second. Voltages and times held are operands (log 5), and the
points of log 32 and 39 are the model's. -/
def Obligations.AonSupplyAndClocks : Prop :=
  (∀ (s : State) (mV cell : Nat), s.pwr.state = .aon → s.pwr.aonOnVin = true → mV < 9000 →
    exec (.vinAon mV cell) s = .next { s with pwr.aonOnVin := false, pwr.holdup := decide (cell < 1800) }) ∧
  (∀ (s : State) (mV cell : Nat), s.pwr.state = .aon → s.pwr.aonOnVin = false → 9500 ≤ mV →
    exec (.vinAon mV cell) s = .next { s with pwr.aonOnVin := true, pwr.holdup := false }) ∧
  (∀ (s : State) (mV cell : Nat), s.pwr.state = .off → 2000 < cell ∨ 9500 < mV →
    ∃ t, exec (.vcellRise cell mV) s = .next t ∧ (mV ≤ 9500 → t.par Idx.PWR_LASTAON = 4) ∧ s.ParsKept t [Idx.PWR_LASTAON] ∧
      t = { s with dir := t.dir, pwr.state := .aon, pwr.aonOnVin := decide (9500 < mV), pwr.holdup := false }) ∧
  (∀ (s : State) (cell : Nat), s.pwr.state = .aon → s.pwr.aonOnVin = false → s.pwr.holdup = false → cell < 1800 →
    exec (.vcellFail cell) s = .next { s with pwr.holdup := true }) ∧
  (∀ (s : State) (us : Nat), s.pwr.state = .aon → s.pwr.holdup = true → 200 ≤ us →
    ∃ t, exec (.aonHoldupExpired us) s = .next t ∧ t.pwr.state = .off ∧ t.pwr.opTimeStored = s.pwr.opTimeStored ∧
      t.pwr.pwrCyc = s.pwr.pwrCyc ∧ t.pwr.wakeLatch = 0 ∧ t.rtc.set = false ∧ t.rtc.cal = {} ∧ t.rtc.capture = none ∧
      t = { s with pwr := t.pwr, rtc := t.rtc }) ∧
  (∀ (s : State) (mV : Nat), s.opCounts = true → mV < 2400 →
    ∃ t, exec (.cellLow mV) s = .next t ∧ t.par Idx.PWR_VCELL = mV ∧ s.Records t 0x0108 3 0xFF ∧ s.EventsOnly t [Idx.PWR_VCELL] ∧
      t = { s with dir := t.dir, tph := t.tph }) ∧
  (∀ (s : State) (ppm : Int), s.opCounts = true → s.pwr.xtal25Bad = false → 50000 < mag ppm →
    ∃ t, exec (.xtal25Fail ppm) s = .next t ∧ t.pwr.state = .lockout ∧ t.pwr.xtal25Bad = true ∧ t.host = {} ∧ t.lmp = {} ∧
      t.rng.enabled = false ∧ t.rng.valid = false ∧ (s.pwr.state ≠ .lockout → t.saf.running = false ∧ ∀ k, t.soClosed k = false) ∧
      s.Records t 0x010D 5 0xFF ∧ s.EventsOnly t [Idx.HST_LEARNSTAT, Idx.HST_LEARNCAUSE] ∧
      t = { s with pwr := t.pwr, lmp := {}, host := {}, dir := t.dir, hst := t.hst, cle.slots := t.cle.slots, dr0 := t.dr0,
                   dr1 := t.dr1, saf := t.saf, fio.ch := t.fio.ch, can0 := t.can0, can1 := t.can1, rng := t.rng, tph := t.tph,
                   shf.handover := none }) ∧
  (∀ (s : State) (ppm : Int) (ms : Nat), s.opCounts = true → s.pwr.xtal32Bad = false → 1000 ≤ ms → 10000 < mag ppm →
    ∃ t, exec (.xtal32Fail ppm ms) s = .next t ∧ s.Records t 0x010E 3 0xFF ∧ s.EventsOnly t [] ∧
      t = { s with dir := t.dir, pwr.xtal32Bad := true, rtc.degraded := true, tph := t.tph }) ∧
  (∀ (s : State) (ppm : Int) (ms : Nat), s.pwr.state = .aon → s.pwr.aonOnVin = true → s.pwr.xtal32Bad = false → 1000 ≤ ms →
    50000 < mag ppm →
    ∃ t, exec (.xtal32Fail ppm ms) s = .next t ∧ (∃ e, t.pwr.startEvts = s.pwr.startEvts ++ [e] ∧ e.code = 0x010E ∧ e.sev = 3) ∧
      t = { s with pwr.startEvts := t.pwr.startEvts, pwr.xtal32Bad := true, rtc.degraded := true }) ∧
  (∀ s : State, s.opCounts = true → s.pwr.opTimeStored + 1000 ≤ s.pwr.opTime →
    exec .operatingTimeStore s = .next { s with pwr.opTimeStored := s.pwr.opTime })

/-- Every command completes, whatever the state, and leaves the queue of the waiting commands as it is: what a command does to a
waiting one is nothing. That a command is refused by nothing but a status, and that an event whose condition fails changes
nothing, is log 3. -/
def Obligations.CommandsCompleteAndLeaveTheQueue : Prop :=
  ∀ (i : Instr) (s : State), ∃ t, exec i s = .next t ∧ t.pending = s.pending

/-- The device right after reset is in every legal form the other statements name: the fixed numbers of things, the calendar, the
byte memories; it is in AON, with no command waiting, no switch of a safety output closed and no session open. Which state is
reset is log 2, and values the manual does not give are 0 (log 1). -/
def Obligations.ResetIsLegal : Prop :=
  State.reset.Shape ∧ State.reset.CalendarLegal ∧ State.reset.MemoriesWf ∧ State.reset.pending = [] ∧
  State.reset.pwr.state = .aon ∧
    (∀ k, State.reset.soClosed k = false) ∧ (∀ x ∈ State.reset.host.slots, x.session = none) ∧
    State.reset.rtc.cal = { year := 2000, month := 1, day := 1, hour := 0, minute := 0, second := 0 }

/-- A read after a write of the sparse memories: a byte reads what the last write stored there, every other byte as before, and
the canonical form stays, so that equal contents are equal data. The sparse form is the model's (log 11). -/
def Obligations.MemoryReadsWhatWasWritten : Prop :=
  (∀ (d : Nat → Byte) (m : Mem) (a b : Nat) (v : Byte), memWf d m = true →
    memWf d (memWrite d m a v) = true ∧ memRead d (memWrite d m a v) b = (if b = a then v else memRead d m b)) ∧
  (∀ (d : Nat → Byte) (m : Mem) (a : Nat) (bs : List Byte), memWf d m = true →
    memWf d (memWriteN d m a bs) = true ∧ memReadN d (memWriteN d m a bs) a bs.length = bs ∧
      ∀ b, b < a ∨ a + bs.length ≤ b → memRead d (memWriteN d m a bs) b = memRead d m b) ∧
  (∀ (d : Nat → Byte) (m n : Mem), memWf d m = true → memWf d n = true → (∀ a, memRead d m a = memRead d n a) → m = n)

/-- Every step, of a command or of a millisecond, keeps the calendar a possible date and time and the sub-second count below
32,768. -/
def Obligations.EveryStepKeepsTheCalendar : Prop :=
  ∀ s t : State, s.CalendarLegal → step s = .next t → t.CalendarLegal

/-- Every step keeps every byte memory of the device in its canonical form. The sparse form is the model's (log 11). -/
def Obligations.EveryStepKeepsTheMemories : Prop :=
  ∀ s t : State, s.MemoriesWf → step s = .next t → t.MemoriesWf

/-- Every step keeps the number of host slots, tags, groups, streams, records, Caldera slots, field channels, stations and
objects. The fixed numbers are those of the manual's tables. -/
def Obligations.EveryStepKeepsTheShape : Prop :=
  ∀ s t : State, s.Shape → step s = .next t → t.Shape

/-- R430: an event of a severity below TPH.RECSEV is discarded when it is raised: it is neither stored nor streamed, and the state
stays as it was. With the default of 1, DEBUG events, severity 0, are discarded. -/
def Obligations.EventsBelowTheThresholdAreDiscarded : Prop :=
  (∀ (s : State) (e : Evt), (e.sev : Int) < s.par Idx.TPH_RECSEV → s.raiseEvt e = s) ∧ pvDefault Idx.TPH_RECSEV = 1 ∧
  (∀ (s : State) (e : Evt), pvFind s.dir.live Idx.TPH_RECSEV = none → e.sev = 0 → s.raiseEvt e = s)

/-- R446: the RTC counts years 2000 to 2199 on the full Gregorian rule: a year divisible by 4 and not by 100, or divisible by 400,
is a leap year; 2000 is one, 2100 and 2200 are not; the months have their lengths, a common year's February 28 days; a date after
which the count goes on is followed by the next day of its month or the first of the next month or year, and the day after 28
February of a common year is 1 March. -/
def Obligations.TheCalendarIsGregorian : Prop :=
  (∀ y, leap y = true ↔ (y % 4 = 0 ∧ y % 100 ≠ 0) ∨ y % 400 = 0) ∧ leap 2000 = true ∧ leap 2100 = false ∧ leap 2200 = false ∧
  (∀ y m, mdays y m = if m = 2 then (if leap y = true then 29 else 28) else if m = 4 ∨ m = 6 ∨ m = 9 ∨ m = 11 then 30 else 31) ∧
  (∀ s t : State, 2000 ≤ s.rtc.cal.year → s.rtc.cal.year ≤ 2199 → step s = .next t → 2000 ≤ t.rtc.cal.year ∧
  t.rtc.cal.year ≤ 2199) ∧
  (∀ y, 2000 ≤ y → y ≤ 2199 → leap y = false →
    ({ year := y, month := 2, day := 28, hour := 23, minute := 59, second := 59 } : Calendar).next =
      ({ year := y, month := 3, day := 1, hour := 0, minute := 0, second := 0 }, false)) ∧
  (∀ y, 2000 ≤ y → y ≤ 2199 → leap y = true →
    ({ year := y, month := 2, day := 28, hour := 23, minute := 59, second := 59 } : Calendar).next =
      ({ year := y, month := 2, day := 29, hour := 0, minute := 0, second := 0 }, false) ∧
    ({ year := y, month := 2, day := 29, hour := 23, minute := 59, second := 59 } : Calendar).next =
      ({ year := y, month := 3, day := 1, hour := 0, minute := 0, second := 0 }, false)) ∧
  (∀ c : Calendar, c.valid = true → c.hour = 23 → c.minute = 59 → c.second = 59 → c.next.2 = false →
    c.next.1 = if c.day < mdays c.year c.month then { year := c.year, month := c.month, day := c.day + 1 }
      else if c.month < 12 then { year := c.year, month := c.month + 1, day := 1 }
      else { year := c.year + 1, month := 1, day := 1 })

/-- R447: the sub-second count runs from 0 to 32,767 and no step takes it out; milliseconds read as ⌊s × 1,000 / 32,768⌋, from 0
to 999; the weekday is 1 Monday to 7 Sunday, 2000-01-01 is a Saturday, 6, and it advances with the day; the count after 2199-12-31
23:59:59 is 2000-01-01 00:00:00 with the calendar unset. -/
def Obligations.SubsecondsWeekdayAndWrap : Prop :=
  (∀ s t : State, s.rtc.sub ≤ 32767 → step s = .next t → t.rtc.sub ≤ 32767) ∧
  (∀ n, rtcMs n = n * 1000 / 32768) ∧ (∀ n, n ≤ 32767 → rtcMs n ≤ 999) ∧
  ({ year := 2000, month := 1, day := 1 } : Calendar).weekday = 6 ∧
  (∀ c : Calendar, 1 ≤ c.weekday ∧ c.weekday ≤ 7) ∧
  (∀ c : Calendar, c.valid = true → c.next.2 = false →
    c.next.1.weekday = if c.hour = 23 ∧ c.minute = 59 ∧ c.second = 59 then c.weekday % 7 + 1 else c.weekday) ∧
  (∀ s : State, s.pwr.state ≠ .off → s.rtc.sub = 32767 → 125 ≤ s.rtc.frac →
    s.rtc.cal = { year := 2199, month := 12, day := 31, hour := 23, minute := 59, second := 59 } →
    ∃ t, exec .rtcSecond s = .next t ∧
      t.rtc.cal = { year := 2000, month := 1, day := 1, hour := 0, minute := 0, second := 0 } ∧ t.rtc.set = false ∧
      (s.rtc.frac < 250 → t.rtc.sub = 0 ∧ rtcMs t.rtc.sub = 0))

/-- R448: the RTC has no leap second and second 60 does not exist: no step brings it, the second after 59 is 0 of the next minute,
and a write of it completes INVALID_DATE and changes nothing. -/
def Obligations.SecondSixtyDoesNotExist : Prop :=
  (∀ s t : State, s.rtc.cal.second < 60 → step s = .next t → t.rtc.cal.second < 60) ∧
  (∀ c : Calendar, c.second = 59 → c.next.1.second = 0) ∧
  (∀ (s : State) (tag : Nat), s.Admitted tag 0x28 2 → getU (s.flight tag).p 7 1 = 0 → getU (s.flight tag).p 10 6 = 0 →
    getU (s.flight tag).p 6 1 = 60 →
    ∃ t, exec (.rtcWrite tag) s = .next t ∧ s.Completed t tag .invalidDate ∧ t = { s with host := t.host })
end

