-- ==== Sys2Proof/Laws/Fold.lean ====
section
/-!
SUPPORT. Each block is untouched by a fold of steps that leave it alone.
-/
namespace Sys2Proof.Machine

variable {α : Type} {g : State → α → State}

@[simp] theorem foldl_pwr (h : ∀ s x, (g s x).pwr = s.pwr) (l : List α) (s : State) : (l.foldl g s).pwr = s.pwr := by
  induction l generalizing s with
  | nil => rfl
  | cons x l ih => simp only [List.foldl_cons, ih, h]

@[simp] theorem foldl_lmp (h : ∀ s x, (g s x).lmp = s.lmp) (l : List α) (s : State) : (l.foldl g s).lmp = s.lmp := by
  induction l generalizing s with
  | nil => rfl
  | cons x l ih => simp only [List.foldl_cons, ih, h]

@[simp] theorem foldl_host (h : ∀ s x, (g s x).host = s.host) (l : List α) (s : State) : (l.foldl g s).host = s.host := by
  induction l generalizing s with
  | nil => rfl
  | cons x l ih => simp only [List.foldl_cons, ih, h]

@[simp] theorem foldl_dir (h : ∀ s x, (g s x).dir = s.dir) (l : List α) (s : State) : (l.foldl g s).dir = s.dir := by
  induction l generalizing s with
  | nil => rfl
  | cons x l ih => simp only [List.foldl_cons, ih, h]

@[simp] theorem foldl_grp (h : ∀ s x, (g s x).grp = s.grp) (l : List α) (s : State) : (l.foldl g s).grp = s.grp := by
  induction l generalizing s with
  | nil => rfl
  | cons x l ih => simp only [List.foldl_cons, ih, h]

@[simp] theorem foldl_gys (h : ∀ s x, (g s x).gys = s.gys) (l : List α) (s : State) : (l.foldl g s).gys = s.gys := by
  induction l generalizing s with
  | nil => rfl
  | cons x l ih => simp only [List.foldl_cons, ih, h]

@[simp] theorem foldl_hst (h : ∀ s x, (g s x).hst = s.hst) (l : List α) (s : State) : (l.foldl g s).hst = s.hst := by
  induction l generalizing s with
  | nil => rfl
  | cons x l ih => simp only [List.foldl_cons, ih, h]

@[simp] theorem foldl_cle (h : ∀ s x, (g s x).cle = s.cle) (l : List α) (s : State) : (l.foldl g s).cle = s.cle := by
  induction l generalizing s with
  | nil => rfl
  | cons x l ih => simp only [List.foldl_cons, ih, h]

@[simp] theorem foldl_dr0 (h : ∀ s x, (g s x).dr0 = s.dr0) (l : List α) (s : State) : (l.foldl g s).dr0 = s.dr0 := by
  induction l generalizing s with
  | nil => rfl
  | cons x l ih => simp only [List.foldl_cons, ih, h]

@[simp] theorem foldl_dr1 (h : ∀ s x, (g s x).dr1 = s.dr1) (l : List α) (s : State) : (l.foldl g s).dr1 = s.dr1 := by
  induction l generalizing s with
  | nil => rfl
  | cons x l ih => simp only [List.foldl_cons, ih, h]

@[simp] theorem foldl_saf (h : ∀ s x, (g s x).saf = s.saf) (l : List α) (s : State) : (l.foldl g s).saf = s.saf := by
  induction l generalizing s with
  | nil => rfl
  | cons x l ih => simp only [List.foldl_cons, ih, h]

@[simp] theorem foldl_fio (h : ∀ s x, (g s x).fio = s.fio) (l : List α) (s : State) : (l.foldl g s).fio = s.fio := by
  induction l generalizing s with
  | nil => rfl
  | cons x l ih => simp only [List.foldl_cons, ih, h]

@[simp] theorem foldl_can0 (h : ∀ s x, (g s x).can0 = s.can0) (l : List α) (s : State) : (l.foldl g s).can0 = s.can0 := by
  induction l generalizing s with
  | nil => rfl
  | cons x l ih => simp only [List.foldl_cons, ih, h]

@[simp] theorem foldl_can1 (h : ∀ s x, (g s x).can1 = s.can1) (l : List α) (s : State) : (l.foldl g s).can1 = s.can1 := by
  induction l generalizing s with
  | nil => rfl
  | cons x l ih => simp only [List.foldl_cons, ih, h]

@[simp] theorem foldl_rng (h : ∀ s x, (g s x).rng = s.rng) (l : List α) (s : State) : (l.foldl g s).rng = s.rng := by
  induction l generalizing s with
  | nil => rfl
  | cons x l ih => simp only [List.foldl_cons, ih, h]

@[simp] theorem foldl_dsp (h : ∀ s x, (g s x).dsp = s.dsp) (l : List α) (s : State) : (l.foldl g s).dsp = s.dsp := by
  induction l generalizing s with
  | nil => rfl
  | cons x l ih => simp only [List.foldl_cons, ih, h]

@[simp] theorem foldl_shf (h : ∀ s x, (g s x).shf = s.shf) (l : List α) (s : State) : (l.foldl g s).shf = s.shf := by
  induction l generalizing s with
  | nil => rfl
  | cons x l ih => simp only [List.foldl_cons, ih, h]

@[simp] theorem foldl_tph (h : ∀ s x, (g s x).tph = s.tph) (l : List α) (s : State) : (l.foldl g s).tph = s.tph := by
  induction l generalizing s with
  | nil => rfl
  | cons x l ih => simp only [List.foldl_cons, ih, h]

@[simp] theorem foldl_rtc (h : ∀ s x, (g s x).rtc = s.rtc) (l : List α) (s : State) : (l.foldl g s).rtc = s.rtc := by
  induction l generalizing s with
  | nil => rfl
  | cons x l ih => simp only [List.foldl_cons, ih, h]

@[simp] theorem foldl_sec (h : ∀ s x, (g s x).sec = s.sec) (l : List α) (s : State) : (l.foldl g s).sec = s.sec := by
  induction l generalizing s with
  | nil => rfl
  | cons x l ih => simp only [List.foldl_cons, ih, h]

@[simp] theorem foldl_pending (h : ∀ s x, (g s x).pending = s.pending) (l : List α) (s : State) : (l.foldl g s).pending = s.pending := by
  induction l generalizing s with
  | nil => rfl
  | cons x l ih => simp only [List.foldl_cons, ih, h]

end Sys2Proof.Machine
end

