-- ==== Sys2Proof/Laws/State.lean ====
section
/-!
SUPPORT. Two devices with the same blocks are the same device.
-/
namespace Sys2Proof.Machine

theorem State.eq_of_blocks {s t : State} (h1 : s.pwr = t.pwr) (h2 : s.lmp = t.lmp) (h3 : s.host = t.host)
    (h4 : s.dir = t.dir) (h5 : s.grp = t.grp) (h6 : s.gys = t.gys) (h7 : s.hst = t.hst) (h8 : s.cle = t.cle)
    (h9 : s.dr0 = t.dr0) (h10 : s.dr1 = t.dr1) (h11 : s.saf = t.saf) (h12 : s.fio = t.fio) (h13 : s.can0 = t.can0)
    (h14 : s.can1 = t.can1) (h15 : s.rng = t.rng) (h16 : s.dsp = t.dsp) (h17 : s.shf = t.shf) (h18 : s.tph = t.tph)
    (h19 : s.rtc = t.rtc) (h20 : s.sec = t.sec) (h21 : s.pending = t.pending) : s = t := by
  cases s; cases t; simp_all

end Sys2Proof.Machine
end

