-- ==== Sys2Proof/Laws/FrOps.lean ====
section
/-!
SUPPORT. For each operation of Machine/Ops.lean on the device, the blocks it leaves as they were.
-/
namespace Sys2Proof.Machine
set_option linter.unusedTactic false
set_option linter.unnecessarySeqFocus false
set_option linter.unreachableTactic false
set_option linter.unusedSimpArgs false
set_option linter.unusedVariables false

@[simp] theorem State.setPar_frame (s : State) (i : Nat) (v : Int) :
    (State.setPar s i v).pwr = s.pwr ∧
    (State.setPar s i v).lmp = s.lmp ∧
    (State.setPar s i v).host = s.host ∧
    (State.setPar s i v).grp = s.grp ∧
    (State.setPar s i v).gys = s.gys ∧
    (State.setPar s i v).hst = s.hst ∧
    (State.setPar s i v).cle = s.cle ∧
    (State.setPar s i v).dr0 = s.dr0 ∧
    (State.setPar s i v).dr1 = s.dr1 ∧
    (State.setPar s i v).saf = s.saf ∧
    (State.setPar s i v).fio = s.fio ∧
    (State.setPar s i v).can0 = s.can0 ∧
    (State.setPar s i v).can1 = s.can1 ∧
    (State.setPar s i v).rng = s.rng ∧
    (State.setPar s i v).dsp = s.dsp ∧
    (State.setPar s i v).shf = s.shf ∧
    (State.setPar s i v).tph = s.tph ∧
    (State.setPar s i v).rtc = s.rtc ∧
    (State.setPar s i v).sec = s.sec ∧
    (State.setPar s i v).pending = s.pending := by
  generalize h : State.setPar s i v = t
  unfold State.setPar at h
  try dsimp only at h
  (repeat' split at h) <;> subst h <;> simp

@[simp] theorem State.parDurable_frame (s : State) (i : Nat) :
    (State.parDurable s i).pwr = s.pwr ∧
    (State.parDurable s i).lmp = s.lmp ∧
    (State.parDurable s i).host = s.host ∧
    (State.parDurable s i).grp = s.grp ∧
    (State.parDurable s i).gys = s.gys ∧
    (State.parDurable s i).hst = s.hst ∧
    (State.parDurable s i).cle = s.cle ∧
    (State.parDurable s i).dr0 = s.dr0 ∧
    (State.parDurable s i).dr1 = s.dr1 ∧
    (State.parDurable s i).saf = s.saf ∧
    (State.parDurable s i).fio = s.fio ∧
    (State.parDurable s i).can0 = s.can0 ∧
    (State.parDurable s i).can1 = s.can1 ∧
    (State.parDurable s i).rng = s.rng ∧
    (State.parDurable s i).dsp = s.dsp ∧
    (State.parDurable s i).shf = s.shf ∧
    (State.parDurable s i).tph = s.tph ∧
    (State.parDurable s i).rtc = s.rtc ∧
    (State.parDurable s i).sec = s.sec ∧
    (State.parDurable s i).pending = s.pending := by
  generalize h : State.parDurable s i = t
  unfold State.parDurable at h
  try dsimp only at h
  (repeat' split at h) <;> subst h <;> simp

@[simp] theorem State.countChange_frame (s : State) :
    (State.countChange s).pwr = s.pwr ∧
    (State.countChange s).lmp = s.lmp ∧
    (State.countChange s).host = s.host ∧
    (State.countChange s).grp = s.grp ∧
    (State.countChange s).gys = s.gys ∧
    (State.countChange s).hst = s.hst ∧
    (State.countChange s).cle = s.cle ∧
    (State.countChange s).dr0 = s.dr0 ∧
    (State.countChange s).dr1 = s.dr1 ∧
    (State.countChange s).saf = s.saf ∧
    (State.countChange s).fio = s.fio ∧
    (State.countChange s).can0 = s.can0 ∧
    (State.countChange s).can1 = s.can1 ∧
    (State.countChange s).rng = s.rng ∧
    (State.countChange s).dsp = s.dsp ∧
    (State.countChange s).shf = s.shf ∧
    (State.countChange s).tph = s.tph ∧
    (State.countChange s).rtc = s.rtc ∧
    (State.countChange s).pending = s.pending := by
  generalize h : State.countChange s = t
  unfold State.countChange at h
  try dsimp only at h
  (repeat' split at h) <;> subst h <;> simp

@[simp] theorem State.countConfig_frame (s : State) (i : Nat) :
    (State.countConfig s i).pwr = s.pwr ∧
    (State.countConfig s i).lmp = s.lmp ∧
    (State.countConfig s i).host = s.host ∧
    (State.countConfig s i).grp = s.grp ∧
    (State.countConfig s i).gys = s.gys ∧
    (State.countConfig s i).hst = s.hst ∧
    (State.countConfig s i).cle = s.cle ∧
    (State.countConfig s i).dr0 = s.dr0 ∧
    (State.countConfig s i).dr1 = s.dr1 ∧
    (State.countConfig s i).saf = s.saf ∧
    (State.countConfig s i).fio = s.fio ∧
    (State.countConfig s i).can0 = s.can0 ∧
    (State.countConfig s i).can1 = s.can1 ∧
    (State.countConfig s i).rng = s.rng ∧
    (State.countConfig s i).dsp = s.dsp ∧
    (State.countConfig s i).shf = s.shf ∧
    (State.countConfig s i).tph = s.tph ∧
    (State.countConfig s i).rtc = s.rtc ∧
    (State.countConfig s i).pending = s.pending := by
  generalize h : State.countConfig s i = t
  unfold State.countConfig at h
  try dsimp only at h
  (repeat' split at h) <;> subst h <;> simp

@[simp] theorem State.setOwn_frame (s : State) (i : Nat) (v : Int) :
    (State.setOwn s i v).pwr = s.pwr ∧
    (State.setOwn s i v).lmp = s.lmp ∧
    (State.setOwn s i v).host = s.host ∧
    (State.setOwn s i v).grp = s.grp ∧
    (State.setOwn s i v).gys = s.gys ∧
    (State.setOwn s i v).hst = s.hst ∧
    (State.setOwn s i v).cle = s.cle ∧
    (State.setOwn s i v).dr0 = s.dr0 ∧
    (State.setOwn s i v).dr1 = s.dr1 ∧
    (State.setOwn s i v).saf = s.saf ∧
    (State.setOwn s i v).fio = s.fio ∧
    (State.setOwn s i v).can0 = s.can0 ∧
    (State.setOwn s i v).can1 = s.can1 ∧
    (State.setOwn s i v).rng = s.rng ∧
    (State.setOwn s i v).dsp = s.dsp ∧
    (State.setOwn s i v).shf = s.shf ∧
    (State.setOwn s i v).tph = s.tph ∧
    (State.setOwn s i v).rtc = s.rtc ∧
    (State.setOwn s i v).pending = s.pending := by
  generalize h : State.setOwn s i v = t
  unfold State.setOwn at h
  try dsimp only at h
  (repeat' split at h) <;> subst h <;> simp

@[simp] theorem State.bump_frame (s : State) (i : Nat) (k : Nat) :
    (State.bump s i k).pwr = s.pwr ∧
    (State.bump s i k).lmp = s.lmp ∧
    (State.bump s i k).host = s.host ∧
    (State.bump s i k).grp = s.grp ∧
    (State.bump s i k).gys = s.gys ∧
    (State.bump s i k).hst = s.hst ∧
    (State.bump s i k).cle = s.cle ∧
    (State.bump s i k).dr0 = s.dr0 ∧
    (State.bump s i k).dr1 = s.dr1 ∧
    (State.bump s i k).saf = s.saf ∧
    (State.bump s i k).fio = s.fio ∧
    (State.bump s i k).can0 = s.can0 ∧
    (State.bump s i k).can1 = s.can1 ∧
    (State.bump s i k).rng = s.rng ∧
    (State.bump s i k).dsp = s.dsp ∧
    (State.bump s i k).shf = s.shf ∧
    (State.bump s i k).tph = s.tph ∧
    (State.bump s i k).rtc = s.rtc ∧
    (State.bump s i k).pending = s.pending := by
  generalize h : State.bump s i k = t
  unfold State.bump at h
  try dsimp only at h
  (repeat' split at h) <;> subst h <;> simp

@[simp] theorem State.bumpWrap_frame (s : State) (i : Nat) (k : Nat) :
    (State.bumpWrap s i k).pwr = s.pwr ∧
    (State.bumpWrap s i k).lmp = s.lmp ∧
    (State.bumpWrap s i k).host = s.host ∧
    (State.bumpWrap s i k).grp = s.grp ∧
    (State.bumpWrap s i k).gys = s.gys ∧
    (State.bumpWrap s i k).hst = s.hst ∧
    (State.bumpWrap s i k).cle = s.cle ∧
    (State.bumpWrap s i k).dr0 = s.dr0 ∧
    (State.bumpWrap s i k).dr1 = s.dr1 ∧
    (State.bumpWrap s i k).saf = s.saf ∧
    (State.bumpWrap s i k).fio = s.fio ∧
    (State.bumpWrap s i k).can0 = s.can0 ∧
    (State.bumpWrap s i k).can1 = s.can1 ∧
    (State.bumpWrap s i k).rng = s.rng ∧
    (State.bumpWrap s i k).dsp = s.dsp ∧
    (State.bumpWrap s i k).shf = s.shf ∧
    (State.bumpWrap s i k).tph = s.tph ∧
    (State.bumpWrap s i k).rtc = s.rtc ∧
    (State.bumpWrap s i k).pending = s.pending := by
  generalize h : State.bumpWrap s i k = t
  unfold State.bumpWrap at h
  try dsimp only at h
  (repeat' split at h) <;> subst h <;> simp

@[simp] theorem State.peak_frame (s : State) (i : Nat) (v : Int) :
    (State.peak s i v).pwr = s.pwr ∧
    (State.peak s i v).lmp = s.lmp ∧
    (State.peak s i v).host = s.host ∧
    (State.peak s i v).grp = s.grp ∧
    (State.peak s i v).gys = s.gys ∧
    (State.peak s i v).hst = s.hst ∧
    (State.peak s i v).cle = s.cle ∧
    (State.peak s i v).dr0 = s.dr0 ∧
    (State.peak s i v).dr1 = s.dr1 ∧
    (State.peak s i v).saf = s.saf ∧
    (State.peak s i v).fio = s.fio ∧
    (State.peak s i v).can0 = s.can0 ∧
    (State.peak s i v).can1 = s.can1 ∧
    (State.peak s i v).rng = s.rng ∧
    (State.peak s i v).dsp = s.dsp ∧
    (State.peak s i v).shf = s.shf ∧
    (State.peak s i v).tph = s.tph ∧
    (State.peak s i v).rtc = s.rtc ∧
    (State.peak s i v).pending = s.pending := by
  generalize h : State.peak s i v = t
  unfold State.peak at h
  try dsimp only at h
  (repeat' split at h) <;> subst h <;> simp

@[simp] theorem State.queueEvt_frame (s : State) (e : Evt) :
    (State.queueEvt s e).pwr = s.pwr ∧
    (State.queueEvt s e).lmp = s.lmp ∧
    (State.queueEvt s e).host = s.host ∧
    (State.queueEvt s e).grp = s.grp ∧
    (State.queueEvt s e).gys = s.gys ∧
    (State.queueEvt s e).hst = s.hst ∧
    (State.queueEvt s e).cle = s.cle ∧
    (State.queueEvt s e).dr0 = s.dr0 ∧
    (State.queueEvt s e).dr1 = s.dr1 ∧
    (State.queueEvt s e).saf = s.saf ∧
    (State.queueEvt s e).fio = s.fio ∧
    (State.queueEvt s e).can0 = s.can0 ∧
    (State.queueEvt s e).can1 = s.can1 ∧
    (State.queueEvt s e).rng = s.rng ∧
    (State.queueEvt s e).dsp = s.dsp ∧
    (State.queueEvt s e).shf = s.shf ∧
    (State.queueEvt s e).rtc = s.rtc ∧
    (State.queueEvt s e).pending = s.pending := by
  generalize h : State.queueEvt s e = t
  unfold State.queueEvt at h
  try dsimp only at h
  (repeat' split at h) <;> subst h <;> simp

@[simp] theorem State.raiseEvt_frame (s : State) (e : Evt) :
    (State.raiseEvt s e).pwr = s.pwr ∧
    (State.raiseEvt s e).lmp = s.lmp ∧
    (State.raiseEvt s e).host = s.host ∧
    (State.raiseEvt s e).grp = s.grp ∧
    (State.raiseEvt s e).gys = s.gys ∧
    (State.raiseEvt s e).hst = s.hst ∧
    (State.raiseEvt s e).cle = s.cle ∧
    (State.raiseEvt s e).dr0 = s.dr0 ∧
    (State.raiseEvt s e).dr1 = s.dr1 ∧
    (State.raiseEvt s e).saf = s.saf ∧
    (State.raiseEvt s e).fio = s.fio ∧
    (State.raiseEvt s e).can0 = s.can0 ∧
    (State.raiseEvt s e).can1 = s.can1 ∧
    (State.raiseEvt s e).rng = s.rng ∧
    (State.raiseEvt s e).dsp = s.dsp ∧
    (State.raiseEvt s e).shf = s.shf ∧
    (State.raiseEvt s e).rtc = s.rtc ∧
    (State.raiseEvt s e).pending = s.pending := by
  generalize h : State.raiseEvt s e = t
  unfold State.raiseEvt at h
  try dsimp only at h
  (repeat' split at h) <;> subst h <;> simp

@[simp] theorem State.raise_frame (s : State) (code sev : Nat) (inst : Nat) (data : List (Nat × Int)) :
    (State.raise s code sev inst data).pwr = s.pwr ∧
    (State.raise s code sev inst data).lmp = s.lmp ∧
    (State.raise s code sev inst data).host = s.host ∧
    (State.raise s code sev inst data).grp = s.grp ∧
    (State.raise s code sev inst data).gys = s.gys ∧
    (State.raise s code sev inst data).hst = s.hst ∧
    (State.raise s code sev inst data).cle = s.cle ∧
    (State.raise s code sev inst data).dr0 = s.dr0 ∧
    (State.raise s code sev inst data).dr1 = s.dr1 ∧
    (State.raise s code sev inst data).saf = s.saf ∧
    (State.raise s code sev inst data).fio = s.fio ∧
    (State.raise s code sev inst data).can0 = s.can0 ∧
    (State.raise s code sev inst data).can1 = s.can1 ∧
    (State.raise s code sev inst data).rng = s.rng ∧
    (State.raise s code sev inst data).dsp = s.dsp ∧
    (State.raise s code sev inst data).shf = s.shf ∧
    (State.raise s code sev inst data).rtc = s.rtc ∧
    (State.raise s code sev inst data).pending = s.pending := by
  generalize h : State.raise s code sev inst data = t
  unfold State.raise at h
  try dsimp only at h
  (repeat' split at h) <;> subst h <;> simp

@[simp] theorem State.raiseCounted_frame (s : State) (code sev : Nat) (inst : Nat) (data : List (Nat × Int)) :
    (State.raiseCounted s code sev inst data).pwr = s.pwr ∧
    (State.raiseCounted s code sev inst data).lmp = s.lmp ∧
    (State.raiseCounted s code sev inst data).host = s.host ∧
    (State.raiseCounted s code sev inst data).grp = s.grp ∧
    (State.raiseCounted s code sev inst data).gys = s.gys ∧
    (State.raiseCounted s code sev inst data).hst = s.hst ∧
    (State.raiseCounted s code sev inst data).cle = s.cle ∧
    (State.raiseCounted s code sev inst data).dr0 = s.dr0 ∧
    (State.raiseCounted s code sev inst data).dr1 = s.dr1 ∧
    (State.raiseCounted s code sev inst data).saf = s.saf ∧
    (State.raiseCounted s code sev inst data).fio = s.fio ∧
    (State.raiseCounted s code sev inst data).can0 = s.can0 ∧
    (State.raiseCounted s code sev inst data).can1 = s.can1 ∧
    (State.raiseCounted s code sev inst data).rng = s.rng ∧
    (State.raiseCounted s code sev inst data).dsp = s.dsp ∧
    (State.raiseCounted s code sev inst data).shf = s.shf ∧
    (State.raiseCounted s code sev inst data).rtc = s.rtc ∧
    (State.raiseCounted s code sev inst data).pending = s.pending := by
  generalize h : State.raiseCounted s code sev inst data = t
  unfold State.raiseCounted at h
  try dsimp only at h
  (repeat' split at h) <;> subst h <;> simp

@[simp] theorem State.raiseNative_frame (s : State) (code sev : Nat) (inst : Nat) (data : List (Nat × Int)) :
    (State.raiseNative s code sev inst data).pwr = s.pwr ∧
    (State.raiseNative s code sev inst data).lmp = s.lmp ∧
    (State.raiseNative s code sev inst data).host = s.host ∧
    (State.raiseNative s code sev inst data).grp = s.grp ∧
    (State.raiseNative s code sev inst data).gys = s.gys ∧
    (State.raiseNative s code sev inst data).hst = s.hst ∧
    (State.raiseNative s code sev inst data).cle = s.cle ∧
    (State.raiseNative s code sev inst data).dr0 = s.dr0 ∧
    (State.raiseNative s code sev inst data).dr1 = s.dr1 ∧
    (State.raiseNative s code sev inst data).saf = s.saf ∧
    (State.raiseNative s code sev inst data).fio = s.fio ∧
    (State.raiseNative s code sev inst data).can0 = s.can0 ∧
    (State.raiseNative s code sev inst data).can1 = s.can1 ∧
    (State.raiseNative s code sev inst data).rng = s.rng ∧
    (State.raiseNative s code sev inst data).dsp = s.dsp ∧
    (State.raiseNative s code sev inst data).shf = s.shf ∧
    (State.raiseNative s code sev inst data).rtc = s.rtc ∧
    (State.raiseNative s code sev inst data).pending = s.pending := by
  generalize h : State.raiseNative s code sev inst data = t
  unfold State.raiseNative at h
  try dsimp only at h
  (repeat' split at h) <;> subst h <;> simp

@[simp] theorem State.raiseAtStart_frame (s : State) (code sev : Nat) (inst : Nat) (data : List (Nat × Int)) :
    (State.raiseAtStart s code sev inst data).lmp = s.lmp ∧
    (State.raiseAtStart s code sev inst data).host = s.host ∧
    (State.raiseAtStart s code sev inst data).dir = s.dir ∧
    (State.raiseAtStart s code sev inst data).grp = s.grp ∧
    (State.raiseAtStart s code sev inst data).gys = s.gys ∧
    (State.raiseAtStart s code sev inst data).hst = s.hst ∧
    (State.raiseAtStart s code sev inst data).cle = s.cle ∧
    (State.raiseAtStart s code sev inst data).dr0 = s.dr0 ∧
    (State.raiseAtStart s code sev inst data).dr1 = s.dr1 ∧
    (State.raiseAtStart s code sev inst data).saf = s.saf ∧
    (State.raiseAtStart s code sev inst data).fio = s.fio ∧
    (State.raiseAtStart s code sev inst data).can0 = s.can0 ∧
    (State.raiseAtStart s code sev inst data).can1 = s.can1 ∧
    (State.raiseAtStart s code sev inst data).rng = s.rng ∧
    (State.raiseAtStart s code sev inst data).dsp = s.dsp ∧
    (State.raiseAtStart s code sev inst data).shf = s.shf ∧
    (State.raiseAtStart s code sev inst data).tph = s.tph ∧
    (State.raiseAtStart s code sev inst data).rtc = s.rtc ∧
    (State.raiseAtStart s code sev inst data).sec = s.sec ∧
    (State.raiseAtStart s code sev inst data).pending = s.pending := by
  generalize h : State.raiseAtStart s code sev inst data = t
  unfold State.raiseAtStart at h
  try dsimp only at h
  (repeat' split at h) <;> subst h <;> simp

@[simp] theorem State.enter_frame (s : State) (new : DevState) (cause : Nat) :
    (State.enter s new cause).lmp = s.lmp ∧
    (State.enter s new cause).host = s.host ∧
    (State.enter s new cause).grp = s.grp ∧
    (State.enter s new cause).gys = s.gys ∧
    (State.enter s new cause).hst = s.hst ∧
    (State.enter s new cause).cle = s.cle ∧
    (State.enter s new cause).dr0 = s.dr0 ∧
    (State.enter s new cause).dr1 = s.dr1 ∧
    (State.enter s new cause).saf = s.saf ∧
    (State.enter s new cause).fio = s.fio ∧
    (State.enter s new cause).can0 = s.can0 ∧
    (State.enter s new cause).can1 = s.can1 ∧
    (State.enter s new cause).rng = s.rng ∧
    (State.enter s new cause).dsp = s.dsp ∧
    (State.enter s new cause).shf = s.shf ∧
    (State.enter s new cause).rtc = s.rtc ∧
    (State.enter s new cause).pending = s.pending := by
  generalize h : State.enter s new cause = t
  unfold State.enter at h
  try dsimp only at h
  (repeat' split at h) <;> subst h <;> simp

@[simp] theorem State.modSlot_frame (s : State) (h : Nat) (f : Slot → Slot) :
    (State.modSlot s h f).pwr = s.pwr ∧
    (State.modSlot s h f).lmp = s.lmp ∧
    (State.modSlot s h f).dir = s.dir ∧
    (State.modSlot s h f).grp = s.grp ∧
    (State.modSlot s h f).gys = s.gys ∧
    (State.modSlot s h f).hst = s.hst ∧
    (State.modSlot s h f).cle = s.cle ∧
    (State.modSlot s h f).dr0 = s.dr0 ∧
    (State.modSlot s h f).dr1 = s.dr1 ∧
    (State.modSlot s h f).saf = s.saf ∧
    (State.modSlot s h f).fio = s.fio ∧
    (State.modSlot s h f).can0 = s.can0 ∧
    (State.modSlot s h f).can1 = s.can1 ∧
    (State.modSlot s h f).rng = s.rng ∧
    (State.modSlot s h f).dsp = s.dsp ∧
    (State.modSlot s h f).shf = s.shf ∧
    (State.modSlot s h f).tph = s.tph ∧
    (State.modSlot s h f).rtc = s.rtc ∧
    (State.modSlot s h f).sec = s.sec ∧
    (State.modSlot s h f).pending = s.pending := by
  generalize h : State.modSlot s h f = t
  unfold State.modSlot at h
  try dsimp only at h
  (repeat' split at h) <;> subst h <;> simp

@[simp] theorem State.modFlight_frame (s : State) (tag : Nat) (f : Flight → Flight) :
    (State.modFlight s tag f).pwr = s.pwr ∧
    (State.modFlight s tag f).lmp = s.lmp ∧
    (State.modFlight s tag f).dir = s.dir ∧
    (State.modFlight s tag f).grp = s.grp ∧
    (State.modFlight s tag f).gys = s.gys ∧
    (State.modFlight s tag f).hst = s.hst ∧
    (State.modFlight s tag f).cle = s.cle ∧
    (State.modFlight s tag f).dr0 = s.dr0 ∧
    (State.modFlight s tag f).dr1 = s.dr1 ∧
    (State.modFlight s tag f).saf = s.saf ∧
    (State.modFlight s tag f).fio = s.fio ∧
    (State.modFlight s tag f).can0 = s.can0 ∧
    (State.modFlight s tag f).can1 = s.can1 ∧
    (State.modFlight s tag f).rng = s.rng ∧
    (State.modFlight s tag f).dsp = s.dsp ∧
    (State.modFlight s tag f).shf = s.shf ∧
    (State.modFlight s tag f).tph = s.tph ∧
    (State.modFlight s tag f).rtc = s.rtc ∧
    (State.modFlight s tag f).sec = s.sec ∧
    (State.modFlight s tag f).pending = s.pending := by
  generalize h : State.modFlight s tag f = t
  unfold State.modFlight at h
  try dsimp only at h
  (repeat' split at h) <;> subst h <;> simp

@[simp] theorem State.setPhase_frame (s : State) (tag : Nat) (p : Phase) :
    (State.setPhase s tag p).pwr = s.pwr ∧
    (State.setPhase s tag p).lmp = s.lmp ∧
    (State.setPhase s tag p).dir = s.dir ∧
    (State.setPhase s tag p).grp = s.grp ∧
    (State.setPhase s tag p).gys = s.gys ∧
    (State.setPhase s tag p).hst = s.hst ∧
    (State.setPhase s tag p).cle = s.cle ∧
    (State.setPhase s tag p).dr0 = s.dr0 ∧
    (State.setPhase s tag p).dr1 = s.dr1 ∧
    (State.setPhase s tag p).saf = s.saf ∧
    (State.setPhase s tag p).fio = s.fio ∧
    (State.setPhase s tag p).can0 = s.can0 ∧
    (State.setPhase s tag p).can1 = s.can1 ∧
    (State.setPhase s tag p).rng = s.rng ∧
    (State.setPhase s tag p).dsp = s.dsp ∧
    (State.setPhase s tag p).shf = s.shf ∧
    (State.setPhase s tag p).tph = s.tph ∧
    (State.setPhase s tag p).rtc = s.rtc ∧
    (State.setPhase s tag p).sec = s.sec ∧
    (State.setPhase s tag p).pending = s.pending := by
  generalize h : State.setPhase s tag p = t
  unfold State.setPhase at h
  try dsimp only at h
  (repeat' split at h) <;> subst h <;> simp

@[simp] theorem State.complete_frame (s : State) (f : Flight) (st : Status) (detail : Nat) (payload : List Byte) (committed : Bool) (after : Bool) :
    (State.complete s f st detail payload committed after).pwr = s.pwr ∧
    (State.complete s f st detail payload committed after).lmp = s.lmp ∧
    (State.complete s f st detail payload committed after).dir = s.dir ∧
    (State.complete s f st detail payload committed after).grp = s.grp ∧
    (State.complete s f st detail payload committed after).gys = s.gys ∧
    (State.complete s f st detail payload committed after).hst = s.hst ∧
    (State.complete s f st detail payload committed after).cle = s.cle ∧
    (State.complete s f st detail payload committed after).dr0 = s.dr0 ∧
    (State.complete s f st detail payload committed after).dr1 = s.dr1 ∧
    (State.complete s f st detail payload committed after).saf = s.saf ∧
    (State.complete s f st detail payload committed after).fio = s.fio ∧
    (State.complete s f st detail payload committed after).can0 = s.can0 ∧
    (State.complete s f st detail payload committed after).can1 = s.can1 ∧
    (State.complete s f st detail payload committed after).rng = s.rng ∧
    (State.complete s f st detail payload committed after).dsp = s.dsp ∧
    (State.complete s f st detail payload committed after).shf = s.shf ∧
    (State.complete s f st detail payload committed after).tph = s.tph ∧
    (State.complete s f st detail payload committed after).rtc = s.rtc ∧
    (State.complete s f st detail payload committed after).sec = s.sec ∧
    (State.complete s f st detail payload committed after).pending = s.pending := by
  generalize h : State.complete s f st detail payload committed after = t
  unfold State.complete at h
  try dsimp only at h
  (repeat' split at h) <;> subst h <;> simp

@[simp] theorem State.noteSeq_frame (s : State) (f : Flight) :
    (State.noteSeq s f).pwr = s.pwr ∧
    (State.noteSeq s f).lmp = s.lmp ∧
    (State.noteSeq s f).dir = s.dir ∧
    (State.noteSeq s f).grp = s.grp ∧
    (State.noteSeq s f).gys = s.gys ∧
    (State.noteSeq s f).hst = s.hst ∧
    (State.noteSeq s f).cle = s.cle ∧
    (State.noteSeq s f).dr0 = s.dr0 ∧
    (State.noteSeq s f).dr1 = s.dr1 ∧
    (State.noteSeq s f).saf = s.saf ∧
    (State.noteSeq s f).fio = s.fio ∧
    (State.noteSeq s f).can0 = s.can0 ∧
    (State.noteSeq s f).can1 = s.can1 ∧
    (State.noteSeq s f).rng = s.rng ∧
    (State.noteSeq s f).dsp = s.dsp ∧
    (State.noteSeq s f).shf = s.shf ∧
    (State.noteSeq s f).tph = s.tph ∧
    (State.noteSeq s f).rtc = s.rtc ∧
    (State.noteSeq s f).sec = s.sec ∧
    (State.noteSeq s f).pending = s.pending := by
  generalize h : State.noteSeq s f = t
  unfold State.noteSeq at h
  try dsimp only at h
  (repeat' split at h) <;> subst h <;> simp

end Sys2Proof.Machine
end

