-- ==== Sys2Proof/Laws/Params.lean ====
section
/-!
SUPPORT. What the parameter operations do to the value and version of each index.
-/
namespace Sys2Proof.Machine

theorem pvFind_cons (q : PVal) (ps : List PVal) (j : Nat) :
    pvFind (q :: ps) j = if q.idx = j then some q else pvFind ps j := by
  by_cases h : q.idx = j <;> simp [pvFind, h]

theorem pvFind_pvPut (ps : List PVal) (p : PVal) (j : Nat) :
    pvFind (pvPut ps p) j = if p.idx = j then some p else pvFind ps j := by
  induction ps with
  | nil => simp [pvPut, pvFind_cons]
  | cons q ps ih =>
    simp only [pvPut]
    split
    · rw [pvFind_cons]
    · split
      · next h => simp only [pvFind_cons, ← h]; split <;> rfl
      · next h =>
        rw [pvFind_cons, ih, pvFind_cons]
        split
        · next hq => rw [if_neg (fun hp => h (hp.trans hq.symm))]
        · rfl

@[simp] theorem State.par_setPar (s : State) (i j : Nat) (v : Int) : (s.setPar i v).par j = if i = j then v else s.par j := by
  simp only [State.par, State.setPar, pvFind_pvPut]
  by_cases h : i = j <;> simp [h]

@[simp] theorem State.parVer_setPar (s : State) (i j : Nat) (v : Int) :
    (s.setPar i v).parVer j = if i = j then (s.parVer i + 1) % 2 ^ 32 else s.parVer j := by
  simp only [State.parVer, State.setPar, pvFind_pvPut]
  by_cases h : i = j <;> simp [h]

@[simp] theorem State.par_parDurable (s : State) (i j : Nat) : (s.parDurable i).par j = s.par j := rfl

@[simp] theorem State.parVer_parDurable (s : State) (i j : Nat) : (s.parDurable i).parVer j = s.parVer j := rfl

/-- A change of a configuration parameter touches DEV.CFGCOUNT and no other index. -/
theorem State.par_countChange (s : State) (j : Nat) (h : j ≠ Idx.DEV_CFGCOUNT) : s.countChange.par j = s.par j := by
  have : ∀ x : State, State.par { x with sec.measDirty := true } j = x.par j := fun _ => rfl
  simp only [State.countChange, this, par_parDurable, par_setPar]
  rw [if_neg (Ne.symm h)]

theorem State.par_countConfig (s : State) (i j : Nat) (h : j ≠ Idx.DEV_CFGCOUNT) : (s.countConfig i).par j = s.par j := by
  unfold State.countConfig
  split
  · exact par_countChange s j h
  · rfl

/-- A value the device writes itself is the value read afterwards, and no other index changes but DEV.CFGCOUNT. -/
theorem State.par_setOwn (s : State) (i j : Nat) (v : Int) (h : j ≠ Idx.DEV_CFGCOUNT) :
    (s.setOwn i v).par j = if i = j then v else s.par j := by
  unfold State.setOwn
  split
  · simp
  · rw [par_countConfig _ _ _ h]; simp

/-- An index that is no configuration parameter does not count. -/
theorem State.par_setOwn' (s : State) (i j : Nat) (v : Int) (h : isConfig i = false) :
    (s.setOwn i v).par j = if i = j then v else s.par j := by
  unfold State.setOwn State.countConfig
  split
  · simp
  · simp [h]

theorem State.sec_setOwn (s : State) (i : Nat) (v : Int) (h : isConfig i = false) : (s.setOwn i v).sec = s.sec := by
  unfold State.setOwn State.countConfig
  split <;> simp [h, State.setPar, State.parDurable]

/-- The tables are no parameters. -/
theorem State.tables_setOwn (s : State) (i : Nat) (v : Int) : (s.setOwn i v).dir.tables = s.dir.tables := by
  unfold State.setOwn State.countConfig State.countChange
  split
  · rfl
  · split <;> rfl

end Sys2Proof.Machine
end

