-- ==== Sys2Proof/Laws/Events.lean ====
section
/-!
SUPPORT. What raising an event does: one lemma for the parameters, one for the recorder, one for the queue.
-/
namespace Sys2Proof.Machine

/-! ## Parameters -/

theorem bufDrops_noConfig : isConfig Idx.TPH_BUFDROPS = false := by decide +kernel

@[simp] theorem State.par_host (s : State) (x : HostBlk) (j : Nat) : State.par { s with host := x } j = s.par j := rfl
@[simp] theorem State.par_tph (s : State) (x : Tph) (j : Nat) : State.par { s with tph := x } j = s.par j := rfl
@[simp] theorem State.par_pwr (s : State) (x : Pwr) (j : Nat) : State.par { s with pwr := x } j = s.par j := rfl
@[simp] theorem State.par_lmp (s : State) (x : Lmp) (j : Nat) : State.par { s with lmp := x } j = s.par j := rfl
@[simp] theorem State.par_grp (s : State) (x : Grp) (j : Nat) : State.par { s with grp := x } j = s.par j := rfl
@[simp] theorem State.par_gys (s : State) (x : Gys) (j : Nat) : State.par { s with gys := x } j = s.par j := rfl
@[simp] theorem State.par_hst (s : State) (x : Hst) (j : Nat) : State.par { s with hst := x } j = s.par j := rfl
@[simp] theorem State.par_cle (s : State) (x : Cle) (j : Nat) : State.par { s with cle := x } j = s.par j := rfl
@[simp] theorem State.par_dr0 (s : State) (x : Door) (j : Nat) : State.par { s with dr0 := x } j = s.par j := rfl
@[simp] theorem State.par_dr1 (s : State) (x : Door) (j : Nat) : State.par { s with dr1 := x } j = s.par j := rfl
@[simp] theorem State.par_saf (s : State) (x : Saf) (j : Nat) : State.par { s with saf := x } j = s.par j := rfl
@[simp] theorem State.par_fio (s : State) (x : Fio) (j : Nat) : State.par { s with fio := x } j = s.par j := rfl
@[simp] theorem State.par_can0 (s : State) (x : Can) (j : Nat) : State.par { s with can0 := x } j = s.par j := rfl
@[simp] theorem State.par_can1 (s : State) (x : Can) (j : Nat) : State.par { s with can1 := x } j = s.par j := rfl
@[simp] theorem State.par_rng (s : State) (x : Rng) (j : Nat) : State.par { s with rng := x } j = s.par j := rfl
@[simp] theorem State.par_dsp (s : State) (x : Dsp) (j : Nat) : State.par { s with dsp := x } j = s.par j := rfl
@[simp] theorem State.par_shf (s : State) (x : Shf) (j : Nat) : State.par { s with shf := x } j = s.par j := rfl
@[simp] theorem State.par_rtc (s : State) (x : Rtc) (j : Nat) : State.par { s with rtc := x } j = s.par j := rfl
@[simp] theorem State.par_sec (s : State) (x : Sec) (j : Nat) : State.par { s with sec := x } j = s.par j := rfl

/-- A device with the same parameter block reads the same parameters. -/
theorem State.par_congr {s t : State} (h : t.dir = s.dir) (j : Nat) : t.par j = s.par j := by simp [State.par, h]

theorem State.par_bump (s : State) (i j k : Nat) (hi : isConfig i = false) (h : j ≠ i) : (s.bump i k).par j = s.par j := by
  unfold State.bump
  rw [par_setOwn' _ _ _ _ hi, if_neg (Ne.symm h)]

theorem State.par_bumpWrap (s : State) (i j k : Nat) (hi : isConfig i = false) (h : j ≠ i) :
    (s.bumpWrap i k).par j = s.par j := by
  unfold State.bumpWrap
  rw [par_setOwn' _ _ _ _ hi, if_neg (Ne.symm h)]

theorem State.par_peak (s : State) (i j : Nat) (v : Int) (hi : isConfig i = false) (h : j ≠ i) :
    (s.peak i v).par j = s.par j := by
  unfold State.peak
  split
  · rw [par_setOwn' _ _ _ _ hi, if_neg (Ne.symm h)]
  · rfl

theorem State.par_queueEvt (s : State) (e : Evt) (j : Nat) (h : j ≠ Idx.TPH_BUFDROPS) : (s.queueEvt e).par j = s.par j := by
  unfold State.queueEvt
  repeat' split
  · rfl
  · exact par_bump s _ _ _ bufDrops_noConfig h
  · rfl

theorem State.par_raiseEvt (s : State) (e : Evt) (j : Nat) (h : j ≠ Idx.TPH_BUFDROPS) : (s.raiseEvt e).par j = s.par j := by
  unfold State.raiseEvt
  split
  · rfl
  · exact par_queueEvt s _ j h

theorem State.par_raise (s : State) (code sev inst : Nat) (data : List (Nat × Int)) (j : Nat) (h : j ≠ Idx.TPH_BUFDROPS) :
    (s.raise code sev inst data).par j = s.par j := par_raiseEvt s _ j h

theorem State.par_raiseCounted (s : State) (code sev inst : Nat) (data : List (Nat × Int)) (j : Nat)
    (h : j ≠ Idx.TPH_BUFDROPS) : (s.raiseCounted code sev inst data).par j = s.par j := par_raiseEvt s _ j h

theorem State.par_raiseNative (s : State) (code sev inst : Nat) (data : List (Nat × Int)) (j : Nat)
    (h : j ≠ Idx.TPH_BUFDROPS) : (s.raiseNative code sev inst data).par j = s.par j := par_raiseEvt s _ j h

/-! ## Secrets and tables -/

theorem State.sec_bump (s : State) (i k : Nat) (h : isConfig i = false) : (s.bump i k).sec = s.sec := sec_setOwn s i _ h
theorem State.sec_bumpWrap (s : State) (i k : Nat) (h : isConfig i = false) : (s.bumpWrap i k).sec = s.sec := sec_setOwn s i _ h
theorem State.sec_peak (s : State) (i : Nat) (v : Int) (h : isConfig i = false) : (s.peak i v).sec = s.sec := by
  unfold State.peak
  split
  · exact sec_setOwn s i v h
  · rfl

@[simp] theorem State.sec_queueEvt (s : State) (e : Evt) : (s.queueEvt e).sec = s.sec := by
  unfold State.queueEvt
  repeat' split
  · rfl
  · exact sec_bump s _ _ bufDrops_noConfig
  · rfl

@[simp] theorem State.sec_raiseEvt (s : State) (e : Evt) : (s.raiseEvt e).sec = s.sec := by
  unfold State.raiseEvt; split <;> simp
@[simp] theorem State.sec_raise (s : State) (code sev inst : Nat) (data : List (Nat × Int)) :
    (s.raise code sev inst data).sec = s.sec := by simp [State.raise]
@[simp] theorem State.sec_raiseCounted (s : State) (code sev inst : Nat) (data : List (Nat × Int)) :
    (s.raiseCounted code sev inst data).sec = s.sec := by simp [State.raiseCounted]
@[simp] theorem State.sec_raiseNative (s : State) (code sev inst : Nat) (data : List (Nat × Int)) :
    (s.raiseNative code sev inst data).sec = s.sec := by simp [State.raiseNative]

@[simp] theorem State.tables_setPar (s : State) (i : Nat) (v : Int) : (s.setPar i v).dir.tables = s.dir.tables := rfl
@[simp] theorem State.tables_parDurable (s : State) (i : Nat) : (s.parDurable i).dir.tables = s.dir.tables := rfl
@[simp] theorem State.tables_setOwn' (s : State) (i : Nat) (v : Int) : (s.setOwn i v).dir.tables = s.dir.tables :=
  tables_setOwn s i v
@[simp] theorem State.tables_bump (s : State) (i k : Nat) : (s.bump i k).dir.tables = s.dir.tables := tables_setOwn s i _
@[simp] theorem State.tables_bumpWrap (s : State) (i k : Nat) : (s.bumpWrap i k).dir.tables = s.dir.tables := tables_setOwn s i _
@[simp] theorem State.tables_peak (s : State) (i : Nat) (v : Int) : (s.peak i v).dir.tables = s.dir.tables := by
  unfold State.peak; split <;> simp
@[simp] theorem State.tables_queueEvt (s : State) (e : Evt) : (s.queueEvt e).dir.tables = s.dir.tables := by
  unfold State.queueEvt; repeat' split
  all_goals simp
@[simp] theorem State.tables_raiseEvt (s : State) (e : Evt) : (s.raiseEvt e).dir.tables = s.dir.tables := by
  unfold State.raiseEvt; split <;> simp
@[simp] theorem State.tables_raise (s : State) (code sev inst : Nat) (data : List (Nat × Int)) :
    (s.raise code sev inst data).dir.tables = s.dir.tables := by simp [State.raise]
@[simp] theorem State.tables_raiseCounted (s : State) (code sev inst : Nat) (data : List (Nat × Int)) :
    (s.raiseCounted code sev inst data).dir.tables = s.dir.tables := by simp [State.raiseCounted]
@[simp] theorem State.tables_raiseNative (s : State) (code sev inst : Nat) (data : List (Nat × Int)) :
    (s.raiseNative code sev inst data).dir.tables = s.dir.tables := by simp [State.raiseNative]

theorem State.tablesKept_of {s t : State} (h : t.dir.tables = s.dir.tables) : s.TablesKept t := by
  unfold State.TablesKept
  cases hs : s.dir; cases ht : t.dir
  simp_all

/-! ## The recorder -/

@[simp] theorem State.tph_setOwn_queue (s : State) (i : Nat) (v : Int) : (s.setOwn i v).tph = s.tph := by simp

theorem State.Heard.congr {s t : State} {sev : Nat} (h : s.Heard sev) (hp : t.par Idx.TPH_RECSEV = s.par Idx.TPH_RECSEV)
    (hl : t.lmp = s.lmp) (ho : t.host.ops = s.host.ops) : t.Heard sev := by
  unfold State.Heard State.buffering at *
  rw [hp, hl, ho]; exact h

theorem State.queue_raiseEvt (s : State) (e : Evt) (h : s.Heard e.sev) :
    (s.raiseEvt e).tph.queue = s.tph.queue ++ [{ e with stamp := s.stamp }] := by
  unfold State.raiseEvt State.queueEvt
  rw [if_neg (by have := h.1; omega)]
  simp [h.2]

theorem State.records_raiseEvt (s : State) (e : Evt) : s.Records (s.raiseEvt e) e.code e.sev e.inst := fun h =>
  ⟨[], { e with stamp := s.stamp }, [], by simp [queue_raiseEvt s e h], rfl, rfl, rfl⟩

theorem State.records_raise (s : State) (code sev inst : Nat) (data : List (Nat × Int)) :
    s.Records (s.raise code sev inst data) code sev inst := records_raiseEvt s _

theorem State.records_raiseCounted (s : State) (code sev inst : Nat) (data : List (Nat × Int)) :
    s.Records (s.raiseCounted code sev inst data) code sev inst := records_raiseEvt s _

theorem State.records_raiseNative (s : State) (code sev inst : Nat) (data : List (Nat × Int)) :
    s.Records (s.raiseNative code sev inst data) code sev inst := records_raiseEvt s _

/-- Only the events that wait change when one is raised. -/
theorem State.recorder_raiseEvt (s : State) (e : Evt) : s.RecorderKept (s.raiseEvt e) := by
  unfold State.RecorderKept State.raiseEvt State.queueEvt
  split
  · exact ⟨rfl, List.prefix_refl _⟩
  · split
    · split
      · exact ⟨rfl, List.prefix_append _ _⟩
      · simp
    · exact ⟨rfl, List.prefix_append _ _⟩

theorem State.RecorderKept.refl (s : State) : s.RecorderKept s := ⟨rfl, List.prefix_refl _⟩

theorem State.RecorderKept.of_eq {s t : State} (h : t.tph = s.tph) : s.RecorderKept t := by
  unfold State.RecorderKept; rw [h]; exact ⟨rfl, List.prefix_refl _⟩

theorem State.RecorderKept.trans {s t u : State} (h : s.RecorderKept t) (k : t.RecorderKept u) : s.RecorderKept u := by
  refine ⟨?_, h.2.trans k.2⟩
  have h1 := h.1; have k1 := k.1
  rw [k1]; rw [h1]

theorem State.RecorderKept.raiseEvt {s t : State} (h : s.RecorderKept t) (e : Evt) : s.RecorderKept (t.raiseEvt e) :=
  h.trans (recorder_raiseEvt t e)

theorem State.RecorderKept.raise {s t : State} (h : s.RecorderKept t) (code sev inst : Nat) (data : List (Nat × Int)) :
    s.RecorderKept (t.raise code sev inst data) := h.raiseEvt _

theorem State.RecorderKept.raiseCounted {s t : State} (h : s.RecorderKept t) (code sev inst : Nat) (data : List (Nat × Int)) :
    s.RecorderKept (t.raiseCounted code sev inst data) := h.raiseEvt _

theorem State.RecorderKept.congr {s t u : State} (h : s.RecorderKept t) (e : u.tph = t.tph) : s.RecorderKept u := by
  unfold State.RecorderKept at *; rw [e]; exact h

/-- An event recorded on the way to `t` stays recorded when more is raised after it. -/
theorem State.Records.mono {s t u : State} {code sev inst : Nat} (h : s.Records t code sev inst)
    (k : t.tph.queue <+: u.tph.queue) : s.Records u code sev inst := fun hh => by
  obtain ⟨b, e, a, hq, h1, h2, h3⟩ := h hh
  obtain ⟨r, hr⟩ := k
  exact ⟨b, e, a ++ r, by rw [← hr, hq]; simp, h1, h2, h3⟩

/-- What happens before the event is raised does not keep it from being recorded, as long as it leaves the recording level, the
LMP and the commands in flight alone. -/
theorem State.Records.after {s t u : State} {code sev inst : Nat} (h : t.Records u code sev inst) (hk : s.RecorderKept t)
    (hp : t.par Idx.TPH_RECSEV = s.par Idx.TPH_RECSEV) (hl : t.lmp = s.lmp) (ho : t.host.ops = s.host.ops) :
    s.Records u code sev inst := fun hh => by
  obtain ⟨b, e, a, hq, h1, h2, h3⟩ := h (hh.congr hp hl ho)
  obtain ⟨r, hr⟩ := hk.2
  exact ⟨r ++ b, e, a, by rw [hq, ← hr]; simp, h1, h2, h3⟩

end Sys2Proof.Machine
end

