-- ==== Sys2Proof/Laws/FrHost.lean ====
section
/-!
SUPPORT. For each operation of Machine/Host.lean on the device, the blocks it leaves as they were.
-/
namespace Sys2Proof.Machine
set_option linter.unusedTactic false
set_option linter.unnecessarySeqFocus false
set_option linter.unreachableTactic false
set_option linter.unusedSimpArgs false
set_option linter.unusedVariables false

@[simp] theorem State.latchWake_frame (s : State) (maskBit resultBit : Nat) :
    (State.latchWake s maskBit resultBit).lmp = s.lmp ∧
    (State.latchWake s maskBit resultBit).host = s.host ∧
    (State.latchWake s maskBit resultBit).dir = s.dir ∧
    (State.latchWake s maskBit resultBit).grp = s.grp ∧
    (State.latchWake s maskBit resultBit).gys = s.gys ∧
    (State.latchWake s maskBit resultBit).hst = s.hst ∧
    (State.latchWake s maskBit resultBit).cle = s.cle ∧
    (State.latchWake s maskBit resultBit).dr0 = s.dr0 ∧
    (State.latchWake s maskBit resultBit).dr1 = s.dr1 ∧
    (State.latchWake s maskBit resultBit).saf = s.saf ∧
    (State.latchWake s maskBit resultBit).fio = s.fio ∧
    (State.latchWake s maskBit resultBit).can0 = s.can0 ∧
    (State.latchWake s maskBit resultBit).can1 = s.can1 ∧
    (State.latchWake s maskBit resultBit).rng = s.rng ∧
    (State.latchWake s maskBit resultBit).dsp = s.dsp ∧
    (State.latchWake s maskBit resultBit).shf = s.shf ∧
    (State.latchWake s maskBit resultBit).tph = s.tph ∧
    (State.latchWake s maskBit resultBit).rtc = s.rtc ∧
    (State.latchWake s maskBit resultBit).sec = s.sec ∧
    (State.latchWake s maskBit resultBit).pending = s.pending := by
  generalize h : State.latchWake s maskBit resultBit = t
  unfold State.latchWake at h
  try dsimp only at h
  (repeat' split at h) <;> subst h <;> simp

@[simp] theorem State.portCrc_frame (s : State) :
    (State.portCrc s).pwr = s.pwr ∧
    (State.portCrc s).lmp = s.lmp ∧
    (State.portCrc s).host = s.host ∧
    (State.portCrc s).grp = s.grp ∧
    (State.portCrc s).gys = s.gys ∧
    (State.portCrc s).hst = s.hst ∧
    (State.portCrc s).cle = s.cle ∧
    (State.portCrc s).dr0 = s.dr0 ∧
    (State.portCrc s).dr1 = s.dr1 ∧
    (State.portCrc s).saf = s.saf ∧
    (State.portCrc s).fio = s.fio ∧
    (State.portCrc s).can0 = s.can0 ∧
    (State.portCrc s).can1 = s.can1 ∧
    (State.portCrc s).rng = s.rng ∧
    (State.portCrc s).dsp = s.dsp ∧
    (State.portCrc s).shf = s.shf ∧
    (State.portCrc s).rtc = s.rtc ∧
    (State.portCrc s).pending = s.pending := by
  generalize h : State.portCrc s = t
  unfold State.portCrc at h
  try dsimp only at h
  (repeat' split at h) <;> subst h <;> simp

@[simp] theorem State.answer_frame (s : State) (h : Nat) (bs : List Byte) :
    (State.answer s h bs).pwr = s.pwr ∧
    (State.answer s h bs).lmp = s.lmp ∧
    (State.answer s h bs).dir = s.dir ∧
    (State.answer s h bs).grp = s.grp ∧
    (State.answer s h bs).gys = s.gys ∧
    (State.answer s h bs).hst = s.hst ∧
    (State.answer s h bs).cle = s.cle ∧
    (State.answer s h bs).dr0 = s.dr0 ∧
    (State.answer s h bs).dr1 = s.dr1 ∧
    (State.answer s h bs).saf = s.saf ∧
    (State.answer s h bs).fio = s.fio ∧
    (State.answer s h bs).can0 = s.can0 ∧
    (State.answer s h bs).can1 = s.can1 ∧
    (State.answer s h bs).rng = s.rng ∧
    (State.answer s h bs).dsp = s.dsp ∧
    (State.answer s h bs).shf = s.shf ∧
    (State.answer s h bs).tph = s.tph ∧
    (State.answer s h bs).rtc = s.rtc ∧
    (State.answer s h bs).sec = s.sec ∧
    (State.answer s h bs).pending = s.pending := by
  generalize h : State.answer s h bs = t
  unfold State.answer at h
  try dsimp only at h
  (repeat' split at h) <;> subst h <;> simp

@[simp] theorem State.enterDesc_frame (s : State) (h queue : Nat) (bs : List Byte) :
    (State.enterDesc s h queue bs).pwr = s.pwr ∧
    (State.enterDesc s h queue bs).lmp = s.lmp ∧
    (State.enterDesc s h queue bs).dir = s.dir ∧
    (State.enterDesc s h queue bs).grp = s.grp ∧
    (State.enterDesc s h queue bs).gys = s.gys ∧
    (State.enterDesc s h queue bs).hst = s.hst ∧
    (State.enterDesc s h queue bs).cle = s.cle ∧
    (State.enterDesc s h queue bs).dr0 = s.dr0 ∧
    (State.enterDesc s h queue bs).dr1 = s.dr1 ∧
    (State.enterDesc s h queue bs).saf = s.saf ∧
    (State.enterDesc s h queue bs).fio = s.fio ∧
    (State.enterDesc s h queue bs).can0 = s.can0 ∧
    (State.enterDesc s h queue bs).can1 = s.can1 ∧
    (State.enterDesc s h queue bs).rng = s.rng ∧
    (State.enterDesc s h queue bs).dsp = s.dsp ∧
    (State.enterDesc s h queue bs).shf = s.shf ∧
    (State.enterDesc s h queue bs).tph = s.tph ∧
    (State.enterDesc s h queue bs).rtc = s.rtc ∧
    (State.enterDesc s h queue bs).sec = s.sec ∧
    (State.enterDesc s h queue bs).pending = s.pending := by
  generalize h : State.enterDesc s h queue bs = t
  unfold State.enterDesc at h
  try dsimp only at h
  (repeat' split at h) <;> subst h <;> simp

@[simp] theorem State.putServed_frame (s : State) (h queue : Nat) (bs : List Byte) :
    (State.putServed s h queue bs).pwr = s.pwr ∧
    (State.putServed s h queue bs).lmp = s.lmp ∧
    (State.putServed s h queue bs).dir = s.dir ∧
    (State.putServed s h queue bs).grp = s.grp ∧
    (State.putServed s h queue bs).gys = s.gys ∧
    (State.putServed s h queue bs).hst = s.hst ∧
    (State.putServed s h queue bs).cle = s.cle ∧
    (State.putServed s h queue bs).dr0 = s.dr0 ∧
    (State.putServed s h queue bs).dr1 = s.dr1 ∧
    (State.putServed s h queue bs).saf = s.saf ∧
    (State.putServed s h queue bs).fio = s.fio ∧
    (State.putServed s h queue bs).can0 = s.can0 ∧
    (State.putServed s h queue bs).can1 = s.can1 ∧
    (State.putServed s h queue bs).rng = s.rng ∧
    (State.putServed s h queue bs).dsp = s.dsp ∧
    (State.putServed s h queue bs).shf = s.shf ∧
    (State.putServed s h queue bs).tph = s.tph ∧
    (State.putServed s h queue bs).rtc = s.rtc ∧
    (State.putServed s h queue bs).sec = s.sec ∧
    (State.putServed s h queue bs).pending = s.pending := by
  generalize h : State.putServed s h queue bs = t
  unfold State.putServed at h
  try dsimp only at h
  (repeat' split at h) <;> subst h <;> simp

@[simp] theorem State.releaseFrom_frame (s : State) (h queue count : Nat) :
    (State.releaseFrom s h queue count).pwr = s.pwr ∧
    (State.releaseFrom s h queue count).lmp = s.lmp ∧
    (State.releaseFrom s h queue count).dir = s.dir ∧
    (State.releaseFrom s h queue count).grp = s.grp ∧
    (State.releaseFrom s h queue count).gys = s.gys ∧
    (State.releaseFrom s h queue count).hst = s.hst ∧
    (State.releaseFrom s h queue count).cle = s.cle ∧
    (State.releaseFrom s h queue count).dr0 = s.dr0 ∧
    (State.releaseFrom s h queue count).dr1 = s.dr1 ∧
    (State.releaseFrom s h queue count).saf = s.saf ∧
    (State.releaseFrom s h queue count).fio = s.fio ∧
    (State.releaseFrom s h queue count).can0 = s.can0 ∧
    (State.releaseFrom s h queue count).can1 = s.can1 ∧
    (State.releaseFrom s h queue count).rng = s.rng ∧
    (State.releaseFrom s h queue count).dsp = s.dsp ∧
    (State.releaseFrom s h queue count).shf = s.shf ∧
    (State.releaseFrom s h queue count).rtc = s.rtc ∧
    (State.releaseFrom s h queue count).sec = s.sec ∧
    (State.releaseFrom s h queue count).pending = s.pending := by
  generalize h : State.releaseFrom s h queue count = t
  unfold State.releaseFrom at h
  try dsimp only at h
  (repeat' split at h) <;> subst h <;> simp

@[simp] theorem State.releaseServed_frame (s : State) (h queue count : Nat) :
    (State.releaseServed s h queue count).pwr = s.pwr ∧
    (State.releaseServed s h queue count).lmp = s.lmp ∧
    (State.releaseServed s h queue count).dir = s.dir ∧
    (State.releaseServed s h queue count).grp = s.grp ∧
    (State.releaseServed s h queue count).gys = s.gys ∧
    (State.releaseServed s h queue count).hst = s.hst ∧
    (State.releaseServed s h queue count).cle = s.cle ∧
    (State.releaseServed s h queue count).dr0 = s.dr0 ∧
    (State.releaseServed s h queue count).dr1 = s.dr1 ∧
    (State.releaseServed s h queue count).saf = s.saf ∧
    (State.releaseServed s h queue count).fio = s.fio ∧
    (State.releaseServed s h queue count).can0 = s.can0 ∧
    (State.releaseServed s h queue count).can1 = s.can1 ∧
    (State.releaseServed s h queue count).rng = s.rng ∧
    (State.releaseServed s h queue count).dsp = s.dsp ∧
    (State.releaseServed s h queue count).shf = s.shf ∧
    (State.releaseServed s h queue count).rtc = s.rtc ∧
    (State.releaseServed s h queue count).sec = s.sec ∧
    (State.releaseServed s h queue count).pending = s.pending := by
  generalize h : State.releaseServed s h queue count = t
  unfold State.releaseServed at h
  try dsimp only at h
  (repeat' split at h) <;> subst h <;> simp

@[simp] theorem State.deliver_frame (s : State) (h : Nat) (d : Desc) :
    (State.deliver s h d).pwr = s.pwr ∧
    (State.deliver s h d).lmp = s.lmp ∧
    (State.deliver s h d).grp = s.grp ∧
    (State.deliver s h d).gys = s.gys ∧
    (State.deliver s h d).hst = s.hst ∧
    (State.deliver s h d).cle = s.cle ∧
    (State.deliver s h d).dr0 = s.dr0 ∧
    (State.deliver s h d).dr1 = s.dr1 ∧
    (State.deliver s h d).saf = s.saf ∧
    (State.deliver s h d).fio = s.fio ∧
    (State.deliver s h d).can0 = s.can0 ∧
    (State.deliver s h d).can1 = s.can1 ∧
    (State.deliver s h d).rng = s.rng ∧
    (State.deliver s h d).dsp = s.dsp ∧
    (State.deliver s h d).shf = s.shf ∧
    (State.deliver s h d).rtc = s.rtc ∧
    (State.deliver s h d).pending = s.pending := by
  generalize h : State.deliver s h d = t
  unfold State.deliver at h
  try dsimp only at h
  (repeat' split at h) <;> subst h <;> simp

@[simp] theorem State.take1_frame (s : State) (f : Flight) :
    (State.take1 s f).pwr = s.pwr ∧
    (State.take1 s f).lmp = s.lmp ∧
    (State.take1 s f).dir = s.dir ∧
    (State.take1 s f).grp = s.grp ∧
    (State.take1 s f).gys = s.gys ∧
    (State.take1 s f).hst = s.hst ∧
    (State.take1 s f).cle = s.cle ∧
    (State.take1 s f).dr0 = s.dr0 ∧
    (State.take1 s f).dr1 = s.dr1 ∧
    (State.take1 s f).saf = s.saf ∧
    (State.take1 s f).fio = s.fio ∧
    (State.take1 s f).can0 = s.can0 ∧
    (State.take1 s f).can1 = s.can1 ∧
    (State.take1 s f).rng = s.rng ∧
    (State.take1 s f).dsp = s.dsp ∧
    (State.take1 s f).shf = s.shf ∧
    (State.take1 s f).tph = s.tph ∧
    (State.take1 s f).rtc = s.rtc ∧
    (State.take1 s f).sec = s.sec ∧
    (State.take1 s f).pending = s.pending := by
  generalize h : State.take1 s f = t
  unfold State.take1 at h
  try dsimp only at h
  (repeat' split at h) <;> subst h <;> simp

@[simp] theorem State.takeUrgent_frame (s : State) :
    (State.takeUrgent s).pwr = s.pwr ∧
    (State.takeUrgent s).lmp = s.lmp ∧
    (State.takeUrgent s).dir = s.dir ∧
    (State.takeUrgent s).grp = s.grp ∧
    (State.takeUrgent s).gys = s.gys ∧
    (State.takeUrgent s).hst = s.hst ∧
    (State.takeUrgent s).cle = s.cle ∧
    (State.takeUrgent s).dr0 = s.dr0 ∧
    (State.takeUrgent s).dr1 = s.dr1 ∧
    (State.takeUrgent s).saf = s.saf ∧
    (State.takeUrgent s).fio = s.fio ∧
    (State.takeUrgent s).can0 = s.can0 ∧
    (State.takeUrgent s).can1 = s.can1 ∧
    (State.takeUrgent s).rng = s.rng ∧
    (State.takeUrgent s).dsp = s.dsp ∧
    (State.takeUrgent s).shf = s.shf ∧
    (State.takeUrgent s).tph = s.tph ∧
    (State.takeUrgent s).rtc = s.rtc ∧
    (State.takeUrgent s).sec = s.sec ∧
    (State.takeUrgent s).pending = s.pending := by
  generalize h : State.takeUrgent s = t
  unfold State.takeUrgent at h
  try dsimp only at h
  (repeat' split at h) <;> subst h <;> simp

@[simp] theorem State.takeNormal_pwr (s : State) : (State.takeNormal s).pwr = s.pwr := by
  unfold State.takeNormal; (repeat' split) <;> first | (simp; done) | ((try dsimp only); rw [foldl_pwr] <;> (try intro s x) <;> (repeat' split) <;> simp; done)

@[simp] theorem State.takeNormal_lmp (s : State) : (State.takeNormal s).lmp = s.lmp := by
  unfold State.takeNormal; (repeat' split) <;> first | (simp; done) | ((try dsimp only); rw [foldl_lmp] <;> (try intro s x) <;> (repeat' split) <;> simp; done)

@[simp] theorem State.takeNormal_dir (s : State) : (State.takeNormal s).dir = s.dir := by
  unfold State.takeNormal; (repeat' split) <;> first | (simp; done) | ((try dsimp only); rw [foldl_dir] <;> (try intro s x) <;> (repeat' split) <;> simp; done)

@[simp] theorem State.takeNormal_grp (s : State) : (State.takeNormal s).grp = s.grp := by
  unfold State.takeNormal; (repeat' split) <;> first | (simp; done) | ((try dsimp only); rw [foldl_grp] <;> (try intro s x) <;> (repeat' split) <;> simp; done)

@[simp] theorem State.takeNormal_gys (s : State) : (State.takeNormal s).gys = s.gys := by
  unfold State.takeNormal; (repeat' split) <;> first | (simp; done) | ((try dsimp only); rw [foldl_gys] <;> (try intro s x) <;> (repeat' split) <;> simp; done)

@[simp] theorem State.takeNormal_hst (s : State) : (State.takeNormal s).hst = s.hst := by
  unfold State.takeNormal; (repeat' split) <;> first | (simp; done) | ((try dsimp only); rw [foldl_hst] <;> (try intro s x) <;> (repeat' split) <;> simp; done)

@[simp] theorem State.takeNormal_cle (s : State) : (State.takeNormal s).cle = s.cle := by
  unfold State.takeNormal; (repeat' split) <;> first | (simp; done) | ((try dsimp only); rw [foldl_cle] <;> (try intro s x) <;> (repeat' split) <;> simp; done)

@[simp] theorem State.takeNormal_dr0 (s : State) : (State.takeNormal s).dr0 = s.dr0 := by
  unfold State.takeNormal; (repeat' split) <;> first | (simp; done) | ((try dsimp only); rw [foldl_dr0] <;> (try intro s x) <;> (repeat' split) <;> simp; done)

@[simp] theorem State.takeNormal_dr1 (s : State) : (State.takeNormal s).dr1 = s.dr1 := by
  unfold State.takeNormal; (repeat' split) <;> first | (simp; done) | ((try dsimp only); rw [foldl_dr1] <;> (try intro s x) <;> (repeat' split) <;> simp; done)

@[simp] theorem State.takeNormal_saf (s : State) : (State.takeNormal s).saf = s.saf := by
  unfold State.takeNormal; (repeat' split) <;> first | (simp; done) | ((try dsimp only); rw [foldl_saf] <;> (try intro s x) <;> (repeat' split) <;> simp; done)

@[simp] theorem State.takeNormal_fio (s : State) : (State.takeNormal s).fio = s.fio := by
  unfold State.takeNormal; (repeat' split) <;> first | (simp; done) | ((try dsimp only); rw [foldl_fio] <;> (try intro s x) <;> (repeat' split) <;> simp; done)

@[simp] theorem State.takeNormal_can0 (s : State) : (State.takeNormal s).can0 = s.can0 := by
  unfold State.takeNormal; (repeat' split) <;> first | (simp; done) | ((try dsimp only); rw [foldl_can0] <;> (try intro s x) <;> (repeat' split) <;> simp; done)

@[simp] theorem State.takeNormal_can1 (s : State) : (State.takeNormal s).can1 = s.can1 := by
  unfold State.takeNormal; (repeat' split) <;> first | (simp; done) | ((try dsimp only); rw [foldl_can1] <;> (try intro s x) <;> (repeat' split) <;> simp; done)

@[simp] theorem State.takeNormal_rng (s : State) : (State.takeNormal s).rng = s.rng := by
  unfold State.takeNormal; (repeat' split) <;> first | (simp; done) | ((try dsimp only); rw [foldl_rng] <;> (try intro s x) <;> (repeat' split) <;> simp; done)

@[simp] theorem State.takeNormal_dsp (s : State) : (State.takeNormal s).dsp = s.dsp := by
  unfold State.takeNormal; (repeat' split) <;> first | (simp; done) | ((try dsimp only); rw [foldl_dsp] <;> (try intro s x) <;> (repeat' split) <;> simp; done)

@[simp] theorem State.takeNormal_shf (s : State) : (State.takeNormal s).shf = s.shf := by
  unfold State.takeNormal; (repeat' split) <;> first | (simp; done) | ((try dsimp only); rw [foldl_shf] <;> (try intro s x) <;> (repeat' split) <;> simp; done)

@[simp] theorem State.takeNormal_tph (s : State) : (State.takeNormal s).tph = s.tph := by
  unfold State.takeNormal; (repeat' split) <;> first | (simp; done) | ((try dsimp only); rw [foldl_tph] <;> (try intro s x) <;> (repeat' split) <;> simp; done)

@[simp] theorem State.takeNormal_rtc (s : State) : (State.takeNormal s).rtc = s.rtc := by
  unfold State.takeNormal; (repeat' split) <;> first | (simp; done) | ((try dsimp only); rw [foldl_rtc] <;> (try intro s x) <;> (repeat' split) <;> simp; done)

@[simp] theorem State.takeNormal_sec (s : State) : (State.takeNormal s).sec = s.sec := by
  unfold State.takeNormal; (repeat' split) <;> first | (simp; done) | ((try dsimp only); rw [foldl_sec] <;> (try intro s x) <;> (repeat' split) <;> simp; done)

@[simp] theorem State.takeNormal_pending (s : State) : (State.takeNormal s).pending = s.pending := by
  unfold State.takeNormal; (repeat' split) <;> first | (simp; done) | ((try dsimp only); rw [foldl_pending] <;> (try intro s x) <;> (repeat' split) <;> simp; done)

end Sys2Proof.Machine
end

