-- ==== Sys2Proof/Laws/FrTephra.lean ====
section
/-!
SUPPORT. For each operation of Machine/Tephra.lean on the device, the blocks it leaves as they were.
-/
namespace Sys2Proof.Machine
set_option linter.unusedTactic false
set_option linter.unnecessarySeqFocus false
set_option linter.unreachableTactic false
set_option linter.unusedSimpArgs false
set_option linter.unusedVariables false

@[simp] theorem State.modRec_frame (s : State) (n : Nat) (f : Rec → Rec) :
    (State.modRec s n f).pwr = s.pwr ∧
    (State.modRec s n f).lmp = s.lmp ∧
    (State.modRec s n f).host = s.host ∧
    (State.modRec s n f).dir = s.dir ∧
    (State.modRec s n f).grp = s.grp ∧
    (State.modRec s n f).gys = s.gys ∧
    (State.modRec s n f).hst = s.hst ∧
    (State.modRec s n f).cle = s.cle ∧
    (State.modRec s n f).dr0 = s.dr0 ∧
    (State.modRec s n f).dr1 = s.dr1 ∧
    (State.modRec s n f).saf = s.saf ∧
    (State.modRec s n f).fio = s.fio ∧
    (State.modRec s n f).can0 = s.can0 ∧
    (State.modRec s n f).can1 = s.can1 ∧
    (State.modRec s n f).rng = s.rng ∧
    (State.modRec s n f).dsp = s.dsp ∧
    (State.modRec s n f).shf = s.shf ∧
    (State.modRec s n f).rtc = s.rtc ∧
    (State.modRec s n f).sec = s.sec ∧
    (State.modRec s n f).pending = s.pending := by
  generalize h : State.modRec s n f = t
  unfold State.modRec at h
  try dsimp only at h
  (repeat' split at h) <;> subst h <;> simp

@[simp] theorem State.countRepeat_frame (s : State) (r : Rec) (e : Evt) :
    (State.countRepeat s r e).pwr = s.pwr ∧
    (State.countRepeat s r e).lmp = s.lmp ∧
    (State.countRepeat s r e).host = s.host ∧
    (State.countRepeat s r e).dir = s.dir ∧
    (State.countRepeat s r e).grp = s.grp ∧
    (State.countRepeat s r e).gys = s.gys ∧
    (State.countRepeat s r e).hst = s.hst ∧
    (State.countRepeat s r e).cle = s.cle ∧
    (State.countRepeat s r e).dr0 = s.dr0 ∧
    (State.countRepeat s r e).dr1 = s.dr1 ∧
    (State.countRepeat s r e).saf = s.saf ∧
    (State.countRepeat s r e).fio = s.fio ∧
    (State.countRepeat s r e).can0 = s.can0 ∧
    (State.countRepeat s r e).can1 = s.can1 ∧
    (State.countRepeat s r e).rng = s.rng ∧
    (State.countRepeat s r e).dsp = s.dsp ∧
    (State.countRepeat s r e).shf = s.shf ∧
    (State.countRepeat s r e).rtc = s.rtc ∧
    (State.countRepeat s r e).sec = s.sec ∧
    (State.countRepeat s r e).pending = s.pending := by
  generalize h : State.countRepeat s r e = t
  unfold State.countRepeat at h
  try dsimp only at h
  (repeat' split at h) <;> subst h <;> simp

@[simp] theorem State.strike_frame (s : State) (r : Rec) :
    (State.strike s r).pwr = s.pwr ∧
    (State.strike s r).lmp = s.lmp ∧
    (State.strike s r).dir = s.dir ∧
    (State.strike s r).grp = s.grp ∧
    (State.strike s r).gys = s.gys ∧
    (State.strike s r).hst = s.hst ∧
    (State.strike s r).cle = s.cle ∧
    (State.strike s r).dr0 = s.dr0 ∧
    (State.strike s r).dr1 = s.dr1 ∧
    (State.strike s r).saf = s.saf ∧
    (State.strike s r).fio = s.fio ∧
    (State.strike s r).can0 = s.can0 ∧
    (State.strike s r).can1 = s.can1 ∧
    (State.strike s r).rng = s.rng ∧
    (State.strike s r).dsp = s.dsp ∧
    (State.strike s r).shf = s.shf ∧
    (State.strike s r).rtc = s.rtc ∧
    (State.strike s r).sec = s.sec ∧
    (State.strike s r).pending = s.pending := by
  generalize h : State.strike s r = t
  unfold State.strike at h
  try dsimp only at h
  (repeat' split at h) <;> subst h <;> simp

@[simp] theorem State.closeStream_frame (s : State) (k : Nat) :
    (State.closeStream s k).pwr = s.pwr ∧
    (State.closeStream s k).lmp = s.lmp ∧
    (State.closeStream s k).host = s.host ∧
    (State.closeStream s k).grp = s.grp ∧
    (State.closeStream s k).gys = s.gys ∧
    (State.closeStream s k).hst = s.hst ∧
    (State.closeStream s k).cle = s.cle ∧
    (State.closeStream s k).dr0 = s.dr0 ∧
    (State.closeStream s k).dr1 = s.dr1 ∧
    (State.closeStream s k).saf = s.saf ∧
    (State.closeStream s k).fio = s.fio ∧
    (State.closeStream s k).can0 = s.can0 ∧
    (State.closeStream s k).can1 = s.can1 ∧
    (State.closeStream s k).rng = s.rng ∧
    (State.closeStream s k).dsp = s.dsp ∧
    (State.closeStream s k).shf = s.shf ∧
    (State.closeStream s k).rtc = s.rtc ∧
    (State.closeStream s k).pending = s.pending := by
  generalize h : State.closeStream s k = t
  unfold State.closeStream at h
  try dsimp only at h
  (repeat' split at h) <;> subst h <;> simp

@[simp] theorem State.feedStream_frame (s : State) (k : Nat) (r : Rec) (closed : Bool) :
    (State.feedStream s k r closed).pwr = s.pwr ∧
    (State.feedStream s k r closed).lmp = s.lmp ∧
    (State.feedStream s k r closed).host = s.host ∧
    (State.feedStream s k r closed).grp = s.grp ∧
    (State.feedStream s k r closed).gys = s.gys ∧
    (State.feedStream s k r closed).hst = s.hst ∧
    (State.feedStream s k r closed).cle = s.cle ∧
    (State.feedStream s k r closed).dr0 = s.dr0 ∧
    (State.feedStream s k r closed).dr1 = s.dr1 ∧
    (State.feedStream s k r closed).saf = s.saf ∧
    (State.feedStream s k r closed).fio = s.fio ∧
    (State.feedStream s k r closed).can0 = s.can0 ∧
    (State.feedStream s k r closed).can1 = s.can1 ∧
    (State.feedStream s k r closed).rng = s.rng ∧
    (State.feedStream s k r closed).dsp = s.dsp ∧
    (State.feedStream s k r closed).shf = s.shf ∧
    (State.feedStream s k r closed).rtc = s.rtc ∧
    (State.feedStream s k r closed).pending = s.pending := by
  generalize h : State.feedStream s k r closed = t
  unfold State.feedStream at h
  try dsimp only at h
  (repeat' split at h) <;> subst h <;> simp

@[simp] theorem State.feedLive_pwr (s : State) (r : Rec) (closed : Bool) : (State.feedLive s r closed).pwr = s.pwr := by
  unfold State.feedLive; (repeat' split) <;> first | (simp; done) | ((try dsimp only); rw [foldl_pwr] <;> (try intro s x) <;> (repeat' split) <;> simp; done)

@[simp] theorem State.feedLive_lmp (s : State) (r : Rec) (closed : Bool) : (State.feedLive s r closed).lmp = s.lmp := by
  unfold State.feedLive; (repeat' split) <;> first | (simp; done) | ((try dsimp only); rw [foldl_lmp] <;> (try intro s x) <;> (repeat' split) <;> simp; done)

@[simp] theorem State.feedLive_host (s : State) (r : Rec) (closed : Bool) : (State.feedLive s r closed).host = s.host := by
  unfold State.feedLive; (repeat' split) <;> first | (simp; done) | ((try dsimp only); rw [foldl_host] <;> (try intro s x) <;> (repeat' split) <;> simp; done)

@[simp] theorem State.feedLive_grp (s : State) (r : Rec) (closed : Bool) : (State.feedLive s r closed).grp = s.grp := by
  unfold State.feedLive; (repeat' split) <;> first | (simp; done) | ((try dsimp only); rw [foldl_grp] <;> (try intro s x) <;> (repeat' split) <;> simp; done)

@[simp] theorem State.feedLive_gys (s : State) (r : Rec) (closed : Bool) : (State.feedLive s r closed).gys = s.gys := by
  unfold State.feedLive; (repeat' split) <;> first | (simp; done) | ((try dsimp only); rw [foldl_gys] <;> (try intro s x) <;> (repeat' split) <;> simp; done)

@[simp] theorem State.feedLive_hst (s : State) (r : Rec) (closed : Bool) : (State.feedLive s r closed).hst = s.hst := by
  unfold State.feedLive; (repeat' split) <;> first | (simp; done) | ((try dsimp only); rw [foldl_hst] <;> (try intro s x) <;> (repeat' split) <;> simp; done)

@[simp] theorem State.feedLive_cle (s : State) (r : Rec) (closed : Bool) : (State.feedLive s r closed).cle = s.cle := by
  unfold State.feedLive; (repeat' split) <;> first | (simp; done) | ((try dsimp only); rw [foldl_cle] <;> (try intro s x) <;> (repeat' split) <;> simp; done)

@[simp] theorem State.feedLive_dr0 (s : State) (r : Rec) (closed : Bool) : (State.feedLive s r closed).dr0 = s.dr0 := by
  unfold State.feedLive; (repeat' split) <;> first | (simp; done) | ((try dsimp only); rw [foldl_dr0] <;> (try intro s x) <;> (repeat' split) <;> simp; done)

@[simp] theorem State.feedLive_dr1 (s : State) (r : Rec) (closed : Bool) : (State.feedLive s r closed).dr1 = s.dr1 := by
  unfold State.feedLive; (repeat' split) <;> first | (simp; done) | ((try dsimp only); rw [foldl_dr1] <;> (try intro s x) <;> (repeat' split) <;> simp; done)

@[simp] theorem State.feedLive_saf (s : State) (r : Rec) (closed : Bool) : (State.feedLive s r closed).saf = s.saf := by
  unfold State.feedLive; (repeat' split) <;> first | (simp; done) | ((try dsimp only); rw [foldl_saf] <;> (try intro s x) <;> (repeat' split) <;> simp; done)

@[simp] theorem State.feedLive_fio (s : State) (r : Rec) (closed : Bool) : (State.feedLive s r closed).fio = s.fio := by
  unfold State.feedLive; (repeat' split) <;> first | (simp; done) | ((try dsimp only); rw [foldl_fio] <;> (try intro s x) <;> (repeat' split) <;> simp; done)

@[simp] theorem State.feedLive_can0 (s : State) (r : Rec) (closed : Bool) : (State.feedLive s r closed).can0 = s.can0 := by
  unfold State.feedLive; (repeat' split) <;> first | (simp; done) | ((try dsimp only); rw [foldl_can0] <;> (try intro s x) <;> (repeat' split) <;> simp; done)

@[simp] theorem State.feedLive_can1 (s : State) (r : Rec) (closed : Bool) : (State.feedLive s r closed).can1 = s.can1 := by
  unfold State.feedLive; (repeat' split) <;> first | (simp; done) | ((try dsimp only); rw [foldl_can1] <;> (try intro s x) <;> (repeat' split) <;> simp; done)

@[simp] theorem State.feedLive_rng (s : State) (r : Rec) (closed : Bool) : (State.feedLive s r closed).rng = s.rng := by
  unfold State.feedLive; (repeat' split) <;> first | (simp; done) | ((try dsimp only); rw [foldl_rng] <;> (try intro s x) <;> (repeat' split) <;> simp; done)

@[simp] theorem State.feedLive_dsp (s : State) (r : Rec) (closed : Bool) : (State.feedLive s r closed).dsp = s.dsp := by
  unfold State.feedLive; (repeat' split) <;> first | (simp; done) | ((try dsimp only); rw [foldl_dsp] <;> (try intro s x) <;> (repeat' split) <;> simp; done)

@[simp] theorem State.feedLive_shf (s : State) (r : Rec) (closed : Bool) : (State.feedLive s r closed).shf = s.shf := by
  unfold State.feedLive; (repeat' split) <;> first | (simp; done) | ((try dsimp only); rw [foldl_shf] <;> (try intro s x) <;> (repeat' split) <;> simp; done)

@[simp] theorem State.feedLive_rtc (s : State) (r : Rec) (closed : Bool) : (State.feedLive s r closed).rtc = s.rtc := by
  unfold State.feedLive; (repeat' split) <;> first | (simp; done) | ((try dsimp only); rw [foldl_rtc] <;> (try intro s x) <;> (repeat' split) <;> simp; done)

@[simp] theorem State.feedLive_pending (s : State) (r : Rec) (closed : Bool) : (State.feedLive s r closed).pending = s.pending := by
  unfold State.feedLive; (repeat' split) <;> first | (simp; done) | ((try dsimp only); rw [foldl_pending] <;> (try intro s x) <;> (repeat' split) <;> simp; done)

@[simp] theorem State.pullStream_frame (s : State) (k : Nat) :
    (State.pullStream s k).pwr = s.pwr ∧
    (State.pullStream s k).lmp = s.lmp ∧
    (State.pullStream s k).host = s.host ∧
    (State.pullStream s k).grp = s.grp ∧
    (State.pullStream s k).gys = s.gys ∧
    (State.pullStream s k).hst = s.hst ∧
    (State.pullStream s k).cle = s.cle ∧
    (State.pullStream s k).dr0 = s.dr0 ∧
    (State.pullStream s k).dr1 = s.dr1 ∧
    (State.pullStream s k).saf = s.saf ∧
    (State.pullStream s k).fio = s.fio ∧
    (State.pullStream s k).can0 = s.can0 ∧
    (State.pullStream s k).can1 = s.can1 ∧
    (State.pullStream s k).rng = s.rng ∧
    (State.pullStream s k).dsp = s.dsp ∧
    (State.pullStream s k).shf = s.shf ∧
    (State.pullStream s k).rtc = s.rtc ∧
    (State.pullStream s k).pending = s.pending := by
  generalize h : State.pullStream s k = t
  unfold State.pullStream at h
  try dsimp only at h
  (repeat' split at h) <;> subst h <;> simp

@[simp] theorem State.appendRec_frame (s : State) (e : Evt) :
    (State.appendRec s e).pwr = s.pwr ∧
    (State.appendRec s e).lmp = s.lmp ∧
    (State.appendRec s e).host = s.host ∧
    (State.appendRec s e).grp = s.grp ∧
    (State.appendRec s e).gys = s.gys ∧
    (State.appendRec s e).hst = s.hst ∧
    (State.appendRec s e).cle = s.cle ∧
    (State.appendRec s e).dr0 = s.dr0 ∧
    (State.appendRec s e).dr1 = s.dr1 ∧
    (State.appendRec s e).saf = s.saf ∧
    (State.appendRec s e).fio = s.fio ∧
    (State.appendRec s e).can0 = s.can0 ∧
    (State.appendRec s e).can1 = s.can1 ∧
    (State.appendRec s e).rng = s.rng ∧
    (State.appendRec s e).dsp = s.dsp ∧
    (State.appendRec s e).shf = s.shf ∧
    (State.appendRec s e).rtc = s.rtc ∧
    (State.appendRec s e).pending = s.pending := by
  generalize h : State.appendRec s e = t
  unfold State.appendRec at h
  try dsimp only at h
  (repeat' split at h) <;> subst h <;> simp

@[simp] theorem State.writeRec_frame (s : State) (e : Evt) :
    (State.writeRec s e).pwr = s.pwr ∧
    (State.writeRec s e).lmp = s.lmp ∧
    (State.writeRec s e).grp = s.grp ∧
    (State.writeRec s e).gys = s.gys ∧
    (State.writeRec s e).hst = s.hst ∧
    (State.writeRec s e).cle = s.cle ∧
    (State.writeRec s e).dr0 = s.dr0 ∧
    (State.writeRec s e).dr1 = s.dr1 ∧
    (State.writeRec s e).saf = s.saf ∧
    (State.writeRec s e).fio = s.fio ∧
    (State.writeRec s e).can0 = s.can0 ∧
    (State.writeRec s e).can1 = s.can1 ∧
    (State.writeRec s e).rng = s.rng ∧
    (State.writeRec s e).dsp = s.dsp ∧
    (State.writeRec s e).shf = s.shf ∧
    (State.writeRec s e).rtc = s.rtc ∧
    (State.writeRec s e).pending = s.pending := by
  generalize h : State.writeRec s e = t
  unfold State.writeRec at h
  try dsimp only at h
  (repeat' split at h) <;> subst h <;> simp

@[simp] theorem State.writeHead_frame (s : State) :
    (State.writeHead s).pwr = s.pwr ∧
    (State.writeHead s).lmp = s.lmp ∧
    (State.writeHead s).grp = s.grp ∧
    (State.writeHead s).gys = s.gys ∧
    (State.writeHead s).hst = s.hst ∧
    (State.writeHead s).cle = s.cle ∧
    (State.writeHead s).dr0 = s.dr0 ∧
    (State.writeHead s).dr1 = s.dr1 ∧
    (State.writeHead s).saf = s.saf ∧
    (State.writeHead s).fio = s.fio ∧
    (State.writeHead s).can0 = s.can0 ∧
    (State.writeHead s).can1 = s.can1 ∧
    (State.writeHead s).rng = s.rng ∧
    (State.writeHead s).dsp = s.dsp ∧
    (State.writeHead s).shf = s.shf ∧
    (State.writeHead s).rtc = s.rtc ∧
    (State.writeHead s).pending = s.pending := by
  generalize h : State.writeHead s = t
  unfold State.writeHead at h
  try dsimp only at h
  (repeat' split at h) <;> subst h <;> simp

@[simp] theorem State.flushTph_frame (s : State) :
    (State.flushTph s).pwr = s.pwr ∧
    (State.flushTph s).lmp = s.lmp ∧
    (State.flushTph s).grp = s.grp ∧
    (State.flushTph s).gys = s.gys ∧
    (State.flushTph s).hst = s.hst ∧
    (State.flushTph s).cle = s.cle ∧
    (State.flushTph s).dr0 = s.dr0 ∧
    (State.flushTph s).dr1 = s.dr1 ∧
    (State.flushTph s).saf = s.saf ∧
    (State.flushTph s).fio = s.fio ∧
    (State.flushTph s).can0 = s.can0 ∧
    (State.flushTph s).can1 = s.can1 ∧
    (State.flushTph s).rng = s.rng ∧
    (State.flushTph s).dsp = s.dsp ∧
    (State.flushTph s).shf = s.shf ∧
    (State.flushTph s).rtc = s.rtc ∧
    (State.flushTph s).pending = s.pending := by
  generalize h : State.flushTph s = t
  unfold State.flushTph at h
  try dsimp only at h
  (repeat' split at h) <;> subst h <;> simp

@[simp] theorem State.tphClear_frame (s : State) :
    (State.tphClear s).pwr = s.pwr ∧
    (State.tphClear s).lmp = s.lmp ∧
    (State.tphClear s).grp = s.grp ∧
    (State.tphClear s).gys = s.gys ∧
    (State.tphClear s).hst = s.hst ∧
    (State.tphClear s).cle = s.cle ∧
    (State.tphClear s).dr0 = s.dr0 ∧
    (State.tphClear s).dr1 = s.dr1 ∧
    (State.tphClear s).saf = s.saf ∧
    (State.tphClear s).fio = s.fio ∧
    (State.tphClear s).can0 = s.can0 ∧
    (State.tphClear s).can1 = s.can1 ∧
    (State.tphClear s).rng = s.rng ∧
    (State.tphClear s).dsp = s.dsp ∧
    (State.tphClear s).shf = s.shf ∧
    (State.tphClear s).rtc = s.rtc ∧
    (State.tphClear s).pending = s.pending := by
  generalize h : State.tphClear s = t
  unfold State.tphClear at h
  try dsimp only at h
  (repeat' split at h) <;> subst h <;> simp

@[simp] theorem State.subscribe_frame (s : State) (f : Flight) (k : Nat) :
    (State.subscribe s f k).pwr = s.pwr ∧
    (State.subscribe s f k).lmp = s.lmp ∧
    (State.subscribe s f k).grp = s.grp ∧
    (State.subscribe s f k).gys = s.gys ∧
    (State.subscribe s f k).hst = s.hst ∧
    (State.subscribe s f k).cle = s.cle ∧
    (State.subscribe s f k).dr0 = s.dr0 ∧
    (State.subscribe s f k).dr1 = s.dr1 ∧
    (State.subscribe s f k).saf = s.saf ∧
    (State.subscribe s f k).fio = s.fio ∧
    (State.subscribe s f k).can0 = s.can0 ∧
    (State.subscribe s f k).can1 = s.can1 ∧
    (State.subscribe s f k).rng = s.rng ∧
    (State.subscribe s f k).dsp = s.dsp ∧
    (State.subscribe s f k).shf = s.shf ∧
    (State.subscribe s f k).rtc = s.rtc ∧
    (State.subscribe s f k).pending = s.pending := by
  generalize h : State.subscribe s f k = t
  unfold State.subscribe at h
  try dsimp only at h
  (repeat' split at h) <;> subst h <;> simp

@[simp] theorem State.evtRead_frame (s : State) (f : Flight) (fresh : Bool) :
    (State.evtRead s f fresh).pwr = s.pwr ∧
    (State.evtRead s f fresh).lmp = s.lmp ∧
    (State.evtRead s f fresh).dir = s.dir ∧
    (State.evtRead s f fresh).grp = s.grp ∧
    (State.evtRead s f fresh).gys = s.gys ∧
    (State.evtRead s f fresh).hst = s.hst ∧
    (State.evtRead s f fresh).cle = s.cle ∧
    (State.evtRead s f fresh).dr0 = s.dr0 ∧
    (State.evtRead s f fresh).dr1 = s.dr1 ∧
    (State.evtRead s f fresh).saf = s.saf ∧
    (State.evtRead s f fresh).fio = s.fio ∧
    (State.evtRead s f fresh).can0 = s.can0 ∧
    (State.evtRead s f fresh).can1 = s.can1 ∧
    (State.evtRead s f fresh).rng = s.rng ∧
    (State.evtRead s f fresh).dsp = s.dsp ∧
    (State.evtRead s f fresh).shf = s.shf ∧
    (State.evtRead s f fresh).tph = s.tph ∧
    (State.evtRead s f fresh).rtc = s.rtc ∧
    (State.evtRead s f fresh).sec = s.sec ∧
    (State.evtRead s f fresh).pending = s.pending := by
  generalize h : State.evtRead s f fresh = t
  unfold State.evtRead at h
  try dsimp only at h
  (repeat' split at h) <;> subst h <;> simp

end Sys2Proof.Machine
end

