-- ==== Sys2Proof/Laws/FrOperands.lean ====
section
/-!
SUPPORT. For each operation of Machine/Operands.lean on the device, the blocks it leaves as they were.
-/
namespace Sys2Proof.Machine
set_option linter.unusedTactic false
set_option linter.unnecessarySeqFocus false
set_option linter.unreachableTactic false
set_option linter.unusedSimpArgs false
set_option linter.unusedVariables false

@[simp] theorem State.modTbl_frame (s : State) (tid : Nat) (f : Table → Table) :
    (State.modTbl s tid f).pwr = s.pwr ∧
    (State.modTbl s tid f).lmp = s.lmp ∧
    (State.modTbl s tid f).host = s.host ∧
    (State.modTbl s tid f).grp = s.grp ∧
    (State.modTbl s tid f).gys = s.gys ∧
    (State.modTbl s tid f).hst = s.hst ∧
    (State.modTbl s tid f).cle = s.cle ∧
    (State.modTbl s tid f).dr0 = s.dr0 ∧
    (State.modTbl s tid f).dr1 = s.dr1 ∧
    (State.modTbl s tid f).saf = s.saf ∧
    (State.modTbl s tid f).fio = s.fio ∧
    (State.modTbl s tid f).can0 = s.can0 ∧
    (State.modTbl s tid f).can1 = s.can1 ∧
    (State.modTbl s tid f).rng = s.rng ∧
    (State.modTbl s tid f).dsp = s.dsp ∧
    (State.modTbl s tid f).shf = s.shf ∧
    (State.modTbl s tid f).tph = s.tph ∧
    (State.modTbl s tid f).rtc = s.rtc ∧
    (State.modTbl s tid f).sec = s.sec ∧
    (State.modTbl s tid f).pending = s.pending := by
  generalize h : State.modTbl s tid f = t
  unfold State.modTbl at h
  try dsimp only at h
  (repeat' split at h) <;> subst h <;> simp

end Sys2Proof.Machine
end

