-- ==== Sys2Proof/Laws/FrGeyserIsa.lean ====
section
/-!
SUPPORT. For each operation of Machine/GeyserIsa.lean on the device, the blocks it leaves as they were.
-/
namespace Sys2Proof.Machine
set_option linter.unusedTactic false
set_option linter.unnecessarySeqFocus false
set_option linter.unreachableTactic false
set_option linter.unusedSimpArgs false
set_option linter.unusedVariables false

@[simp] theorem State.gysOwnersStop_frame (s : State) :
    (State.gysOwnersStop s).pwr = s.pwr ∧
    (State.gysOwnersStop s).lmp = s.lmp ∧
    (State.gysOwnersStop s).host = s.host ∧
    (State.gysOwnersStop s).dir = s.dir ∧
    (State.gysOwnersStop s).grp = s.grp ∧
    (State.gysOwnersStop s).cle = s.cle ∧
    (State.gysOwnersStop s).dr0 = s.dr0 ∧
    (State.gysOwnersStop s).dr1 = s.dr1 ∧
    (State.gysOwnersStop s).saf = s.saf ∧
    (State.gysOwnersStop s).can0 = s.can0 ∧
    (State.gysOwnersStop s).can1 = s.can1 ∧
    (State.gysOwnersStop s).rng = s.rng ∧
    (State.gysOwnersStop s).dsp = s.dsp ∧
    (State.gysOwnersStop s).shf = s.shf ∧
    (State.gysOwnersStop s).tph = s.tph ∧
    (State.gysOwnersStop s).rtc = s.rtc ∧
    (State.gysOwnersStop s).sec = s.sec ∧
    (State.gysOwnersStop s).pending = s.pending := by
  generalize h : State.gysOwnersStop s = t
  unfold State.gysOwnersStop at h
  try dsimp only at h
  (repeat' split at h) <;> subst h <;> simp

@[simp] theorem State.gysFault_frame (s : State) (cause : Nat) :
    (State.gysFault s cause).pwr = s.pwr ∧
    (State.gysFault s cause).lmp = s.lmp ∧
    (State.gysFault s cause).host = s.host ∧
    (State.gysFault s cause).grp = s.grp ∧
    (State.gysFault s cause).cle = s.cle ∧
    (State.gysFault s cause).dr0 = s.dr0 ∧
    (State.gysFault s cause).dr1 = s.dr1 ∧
    (State.gysFault s cause).saf = s.saf ∧
    (State.gysFault s cause).can0 = s.can0 ∧
    (State.gysFault s cause).can1 = s.can1 ∧
    (State.gysFault s cause).rng = s.rng ∧
    (State.gysFault s cause).dsp = s.dsp ∧
    (State.gysFault s cause).shf = s.shf ∧
    (State.gysFault s cause).rtc = s.rtc ∧
    (State.gysFault s cause).pending = s.pending := by
  generalize h : State.gysFault s cause = t
  unfold State.gysFault at h
  try dsimp only at h
  (repeat' split at h) <;> subst h <;> simp

@[simp] theorem State.gysNext_frame (s : State) :
    (State.gysNext s).pwr = s.pwr ∧
    (State.gysNext s).lmp = s.lmp ∧
    (State.gysNext s).host = s.host ∧
    (State.gysNext s).dir = s.dir ∧
    (State.gysNext s).grp = s.grp ∧
    (State.gysNext s).hst = s.hst ∧
    (State.gysNext s).cle = s.cle ∧
    (State.gysNext s).dr0 = s.dr0 ∧
    (State.gysNext s).dr1 = s.dr1 ∧
    (State.gysNext s).saf = s.saf ∧
    (State.gysNext s).fio = s.fio ∧
    (State.gysNext s).can0 = s.can0 ∧
    (State.gysNext s).can1 = s.can1 ∧
    (State.gysNext s).rng = s.rng ∧
    (State.gysNext s).dsp = s.dsp ∧
    (State.gysNext s).shf = s.shf ∧
    (State.gysNext s).tph = s.tph ∧
    (State.gysNext s).rtc = s.rtc ∧
    (State.gysNext s).sec = s.sec ∧
    (State.gysNext s).pending = s.pending := by
  generalize h : State.gysNext s = t
  unfold State.gysNext at h
  try dsimp only at h
  (repeat' split at h) <;> subst h <;> simp

end Sys2Proof.Machine
end

