-- ==== Sys2Proof/Laws/FrCommon.lean ====
section
/-!
SUPPORT. For each operation of Machine/Common.lean on the device, the blocks it leaves as they were.
-/
namespace Sys2Proof.Machine
set_option linter.unusedTactic false
set_option linter.unnecessarySeqFocus false
set_option linter.unreachableTactic false
set_option linter.unusedSimpArgs false
set_option linter.unusedVariables false

@[simp] theorem State.modChan_frame (s : State) (isA : Bool) (f : SafCh → SafCh) :
    (State.modChan s isA f).pwr = s.pwr ∧
    (State.modChan s isA f).lmp = s.lmp ∧
    (State.modChan s isA f).host = s.host ∧
    (State.modChan s isA f).dir = s.dir ∧
    (State.modChan s isA f).grp = s.grp ∧
    (State.modChan s isA f).gys = s.gys ∧
    (State.modChan s isA f).hst = s.hst ∧
    (State.modChan s isA f).cle = s.cle ∧
    (State.modChan s isA f).dr0 = s.dr0 ∧
    (State.modChan s isA f).dr1 = s.dr1 ∧
    (State.modChan s isA f).fio = s.fio ∧
    (State.modChan s isA f).can0 = s.can0 ∧
    (State.modChan s isA f).can1 = s.can1 ∧
    (State.modChan s isA f).rng = s.rng ∧
    (State.modChan s isA f).dsp = s.dsp ∧
    (State.modChan s isA f).shf = s.shf ∧
    (State.modChan s isA f).tph = s.tph ∧
    (State.modChan s isA f).rtc = s.rtc ∧
    (State.modChan s isA f).sec = s.sec ∧
    (State.modChan s isA f).pending = s.pending := by
  generalize h : State.modChan s isA f = t
  unfold State.modChan at h
  try dsimp only at h
  (repeat' split at h) <;> subst h <;> simp

@[simp] theorem State.modBoth_frame (s : State) (f : SafCh → SafCh) :
    (State.modBoth s f).pwr = s.pwr ∧
    (State.modBoth s f).lmp = s.lmp ∧
    (State.modBoth s f).host = s.host ∧
    (State.modBoth s f).dir = s.dir ∧
    (State.modBoth s f).grp = s.grp ∧
    (State.modBoth s f).gys = s.gys ∧
    (State.modBoth s f).hst = s.hst ∧
    (State.modBoth s f).cle = s.cle ∧
    (State.modBoth s f).dr0 = s.dr0 ∧
    (State.modBoth s f).dr1 = s.dr1 ∧
    (State.modBoth s f).fio = s.fio ∧
    (State.modBoth s f).can0 = s.can0 ∧
    (State.modBoth s f).can1 = s.can1 ∧
    (State.modBoth s f).rng = s.rng ∧
    (State.modBoth s f).dsp = s.dsp ∧
    (State.modBoth s f).shf = s.shf ∧
    (State.modBoth s f).tph = s.tph ∧
    (State.modBoth s f).rtc = s.rtc ∧
    (State.modBoth s f).sec = s.sec ∧
    (State.modBoth s f).pending = s.pending := by
  generalize h : State.modBoth s f = t
  unfold State.modBoth at h
  try dsimp only at h
  (repeat' split at h) <;> subst h <;> simp

@[simp] theorem State.modDoor_frame (s : State) (front : Bool) (f : Door → Door) :
    (State.modDoor s front f).pwr = s.pwr ∧
    (State.modDoor s front f).lmp = s.lmp ∧
    (State.modDoor s front f).host = s.host ∧
    (State.modDoor s front f).dir = s.dir ∧
    (State.modDoor s front f).grp = s.grp ∧
    (State.modDoor s front f).gys = s.gys ∧
    (State.modDoor s front f).hst = s.hst ∧
    (State.modDoor s front f).cle = s.cle ∧
    (State.modDoor s front f).saf = s.saf ∧
    (State.modDoor s front f).fio = s.fio ∧
    (State.modDoor s front f).can0 = s.can0 ∧
    (State.modDoor s front f).can1 = s.can1 ∧
    (State.modDoor s front f).rng = s.rng ∧
    (State.modDoor s front f).dsp = s.dsp ∧
    (State.modDoor s front f).shf = s.shf ∧
    (State.modDoor s front f).tph = s.tph ∧
    (State.modDoor s front f).rtc = s.rtc ∧
    (State.modDoor s front f).sec = s.sec ∧
    (State.modDoor s front f).pending = s.pending := by
  generalize h : State.modDoor s front f = t
  unfold State.modDoor at h
  try dsimp only at h
  (repeat' split at h) <;> subst h <;> simp

@[simp] theorem State.modSlotC_frame (s : State) (n : Nat) (f : CSlot → CSlot) :
    (State.modSlotC s n f).pwr = s.pwr ∧
    (State.modSlotC s n f).lmp = s.lmp ∧
    (State.modSlotC s n f).host = s.host ∧
    (State.modSlotC s n f).dir = s.dir ∧
    (State.modSlotC s n f).grp = s.grp ∧
    (State.modSlotC s n f).gys = s.gys ∧
    (State.modSlotC s n f).hst = s.hst ∧
    (State.modSlotC s n f).dr0 = s.dr0 ∧
    (State.modSlotC s n f).dr1 = s.dr1 ∧
    (State.modSlotC s n f).saf = s.saf ∧
    (State.modSlotC s n f).fio = s.fio ∧
    (State.modSlotC s n f).can0 = s.can0 ∧
    (State.modSlotC s n f).can1 = s.can1 ∧
    (State.modSlotC s n f).rng = s.rng ∧
    (State.modSlotC s n f).dsp = s.dsp ∧
    (State.modSlotC s n f).shf = s.shf ∧
    (State.modSlotC s n f).tph = s.tph ∧
    (State.modSlotC s n f).rtc = s.rtc ∧
    (State.modSlotC s n f).sec = s.sec ∧
    (State.modSlotC s n f).pending = s.pending := by
  generalize h : State.modSlotC s n f = t
  unfold State.modSlotC at h
  try dsimp only at h
  (repeat' split at h) <;> subst h <;> simp

@[simp] theorem State.wantSlots_frame (s : State) (ns : List Nat) (b : Bool) :
    (State.wantSlots s ns b).pwr = s.pwr ∧
    (State.wantSlots s ns b).lmp = s.lmp ∧
    (State.wantSlots s ns b).host = s.host ∧
    (State.wantSlots s ns b).dir = s.dir ∧
    (State.wantSlots s ns b).grp = s.grp ∧
    (State.wantSlots s ns b).gys = s.gys ∧
    (State.wantSlots s ns b).hst = s.hst ∧
    (State.wantSlots s ns b).dr0 = s.dr0 ∧
    (State.wantSlots s ns b).dr1 = s.dr1 ∧
    (State.wantSlots s ns b).saf = s.saf ∧
    (State.wantSlots s ns b).fio = s.fio ∧
    (State.wantSlots s ns b).can0 = s.can0 ∧
    (State.wantSlots s ns b).can1 = s.can1 ∧
    (State.wantSlots s ns b).rng = s.rng ∧
    (State.wantSlots s ns b).dsp = s.dsp ∧
    (State.wantSlots s ns b).shf = s.shf ∧
    (State.wantSlots s ns b).tph = s.tph ∧
    (State.wantSlots s ns b).rtc = s.rtc ∧
    (State.wantSlots s ns b).sec = s.sec ∧
    (State.wantSlots s ns b).pending = s.pending := by
  generalize h : State.wantSlots s ns b = t
  unfold State.wantSlots at h
  try dsimp only at h
  (repeat' split at h) <;> subst h <;> simp

@[simp] theorem State.addCause_frame (s : State) (bit : Nat) :
    (State.addCause s bit).pwr = s.pwr ∧
    (State.addCause s bit).lmp = s.lmp ∧
    (State.addCause s bit).host = s.host ∧
    (State.addCause s bit).dir = s.dir ∧
    (State.addCause s bit).grp = s.grp ∧
    (State.addCause s bit).gys = s.gys ∧
    (State.addCause s bit).cle = s.cle ∧
    (State.addCause s bit).dr0 = s.dr0 ∧
    (State.addCause s bit).dr1 = s.dr1 ∧
    (State.addCause s bit).saf = s.saf ∧
    (State.addCause s bit).fio = s.fio ∧
    (State.addCause s bit).can0 = s.can0 ∧
    (State.addCause s bit).can1 = s.can1 ∧
    (State.addCause s bit).rng = s.rng ∧
    (State.addCause s bit).dsp = s.dsp ∧
    (State.addCause s bit).shf = s.shf ∧
    (State.addCause s bit).tph = s.tph ∧
    (State.addCause s bit).rtc = s.rtc ∧
    (State.addCause s bit).sec = s.sec ∧
    (State.addCause s bit).pending = s.pending := by
  generalize h : State.addCause s bit = t
  unfold State.addCause at h
  try dsimp only at h
  (repeat' split at h) <;> subst h <;> simp

@[simp] theorem State.dropCause_frame (s : State) (bit : Nat) :
    (State.dropCause s bit).pwr = s.pwr ∧
    (State.dropCause s bit).lmp = s.lmp ∧
    (State.dropCause s bit).host = s.host ∧
    (State.dropCause s bit).dir = s.dir ∧
    (State.dropCause s bit).grp = s.grp ∧
    (State.dropCause s bit).gys = s.gys ∧
    (State.dropCause s bit).cle = s.cle ∧
    (State.dropCause s bit).dr0 = s.dr0 ∧
    (State.dropCause s bit).dr1 = s.dr1 ∧
    (State.dropCause s bit).saf = s.saf ∧
    (State.dropCause s bit).fio = s.fio ∧
    (State.dropCause s bit).can0 = s.can0 ∧
    (State.dropCause s bit).can1 = s.can1 ∧
    (State.dropCause s bit).rng = s.rng ∧
    (State.dropCause s bit).dsp = s.dsp ∧
    (State.dropCause s bit).shf = s.shf ∧
    (State.dropCause s bit).tph = s.tph ∧
    (State.dropCause s bit).rtc = s.rtc ∧
    (State.dropCause s bit).sec = s.sec ∧
    (State.dropCause s bit).pending = s.pending := by
  generalize h : State.dropCause s bit = t
  unfold State.dropCause at h
  try dsimp only at h
  (repeat' split at h) <;> subst h <;> simp

@[simp] theorem State.hstRelease_frame (s : State) (st : HSt) :
    (State.hstRelease s st).pwr = s.pwr ∧
    (State.hstRelease s st).lmp = s.lmp ∧
    (State.hstRelease s st).host = s.host ∧
    (State.hstRelease s st).dir = s.dir ∧
    (State.hstRelease s st).grp = s.grp ∧
    (State.hstRelease s st).gys = s.gys ∧
    (State.hstRelease s st).cle = s.cle ∧
    (State.hstRelease s st).dr0 = s.dr0 ∧
    (State.hstRelease s st).dr1 = s.dr1 ∧
    (State.hstRelease s st).fio = s.fio ∧
    (State.hstRelease s st).can0 = s.can0 ∧
    (State.hstRelease s st).can1 = s.can1 ∧
    (State.hstRelease s st).rng = s.rng ∧
    (State.hstRelease s st).dsp = s.dsp ∧
    (State.hstRelease s st).shf = s.shf ∧
    (State.hstRelease s st).tph = s.tph ∧
    (State.hstRelease s st).rtc = s.rtc ∧
    (State.hstRelease s st).sec = s.sec ∧
    (State.hstRelease s st).pending = s.pending := by
  generalize h : State.hstRelease s st = t
  unfold State.hstRelease at h
  try dsimp only at h
  (repeat' split at h) <;> subst h <;> simp

@[simp] theorem State.learnFault_frame (s : State) (cause : Nat) :
    (State.learnFault s cause).pwr = s.pwr ∧
    (State.learnFault s cause).lmp = s.lmp ∧
    (State.learnFault s cause).host = s.host ∧
    (State.learnFault s cause).grp = s.grp ∧
    (State.learnFault s cause).gys = s.gys ∧
    (State.learnFault s cause).cle = s.cle ∧
    (State.learnFault s cause).dr0 = s.dr0 ∧
    (State.learnFault s cause).dr1 = s.dr1 ∧
    (State.learnFault s cause).saf = s.saf ∧
    (State.learnFault s cause).fio = s.fio ∧
    (State.learnFault s cause).can0 = s.can0 ∧
    (State.learnFault s cause).can1 = s.can1 ∧
    (State.learnFault s cause).rng = s.rng ∧
    (State.learnFault s cause).dsp = s.dsp ∧
    (State.learnFault s cause).shf = s.shf ∧
    (State.learnFault s cause).rtc = s.rtc ∧
    (State.learnFault s cause).pending = s.pending := by
  generalize h : State.learnFault s cause = t
  unfold State.learnFault at h
  try dsimp only at h
  (repeat' split at h) <;> subst h <;> simp

@[simp] theorem State.dropRun_frame (s : State) (st : HSt) :
    (State.dropRun s st).pwr = s.pwr ∧
    (State.dropRun s st).lmp = s.lmp ∧
    (State.dropRun s st).host = s.host ∧
    (State.dropRun s st).grp = s.grp ∧
    (State.dropRun s st).gys = s.gys ∧
    (State.dropRun s st).dr0 = s.dr0 ∧
    (State.dropRun s st).dr1 = s.dr1 ∧
    (State.dropRun s st).fio = s.fio ∧
    (State.dropRun s st).can0 = s.can0 ∧
    (State.dropRun s st).can1 = s.can1 ∧
    (State.dropRun s st).rng = s.rng ∧
    (State.dropRun s st).dsp = s.dsp ∧
    (State.dropRun s st).shf = s.shf ∧
    (State.dropRun s st).rtc = s.rtc ∧
    (State.dropRun s st).pending = s.pending := by
  generalize h : State.dropRun s st = t
  unfold State.dropRun at h
  try dsimp only at h
  (repeat' split at h) <;> subst h <;> simp

@[simp] theorem State.hstTripped_frame (s : State) :
    (State.hstTripped s).pwr = s.pwr ∧
    (State.hstTripped s).lmp = s.lmp ∧
    (State.hstTripped s).host = s.host ∧
    (State.hstTripped s).grp = s.grp ∧
    (State.hstTripped s).gys = s.gys ∧
    (State.hstTripped s).dr0 = s.dr0 ∧
    (State.hstTripped s).dr1 = s.dr1 ∧
    (State.hstTripped s).fio = s.fio ∧
    (State.hstTripped s).can0 = s.can0 ∧
    (State.hstTripped s).can1 = s.can1 ∧
    (State.hstTripped s).rng = s.rng ∧
    (State.hstTripped s).dsp = s.dsp ∧
    (State.hstTripped s).shf = s.shf ∧
    (State.hstTripped s).rtc = s.rtc ∧
    (State.hstTripped s).pending = s.pending := by
  generalize h : State.hstTripped s = t
  unfold State.hstTripped at h
  try dsimp only at h
  (repeat' split at h) <;> subst h <;> simp

@[simp] theorem State.openAll_frame (s : State) :
    (State.openAll s).pwr = s.pwr ∧
    (State.openAll s).lmp = s.lmp ∧
    (State.openAll s).host = s.host ∧
    (State.openAll s).dir = s.dir ∧
    (State.openAll s).grp = s.grp ∧
    (State.openAll s).gys = s.gys ∧
    (State.openAll s).hst = s.hst ∧
    (State.openAll s).cle = s.cle ∧
    (State.openAll s).dr0 = s.dr0 ∧
    (State.openAll s).dr1 = s.dr1 ∧
    (State.openAll s).fio = s.fio ∧
    (State.openAll s).can0 = s.can0 ∧
    (State.openAll s).can1 = s.can1 ∧
    (State.openAll s).rng = s.rng ∧
    (State.openAll s).dsp = s.dsp ∧
    (State.openAll s).shf = s.shf ∧
    (State.openAll s).tph = s.tph ∧
    (State.openAll s).rtc = s.rtc ∧
    (State.openAll s).sec = s.sec ∧
    (State.openAll s).pending = s.pending := by
  generalize h : State.openAll s = t
  unfold State.openAll at h
  try dsimp only at h
  (repeat' split at h) <;> subst h <;> simp

@[simp] theorem State.gatesOff_frame (s : State) :
    (State.gatesOff s).pwr = s.pwr ∧
    (State.gatesOff s).lmp = s.lmp ∧
    (State.gatesOff s).host = s.host ∧
    (State.gatesOff s).dir = s.dir ∧
    (State.gatesOff s).grp = s.grp ∧
    (State.gatesOff s).gys = s.gys ∧
    (State.gatesOff s).hst = s.hst ∧
    (State.gatesOff s).fio = s.fio ∧
    (State.gatesOff s).can0 = s.can0 ∧
    (State.gatesOff s).can1 = s.can1 ∧
    (State.gatesOff s).rng = s.rng ∧
    (State.gatesOff s).dsp = s.dsp ∧
    (State.gatesOff s).shf = s.shf ∧
    (State.gatesOff s).tph = s.tph ∧
    (State.gatesOff s).rtc = s.rtc ∧
    (State.gatesOff s).sec = s.sec ∧
    (State.gatesOff s).pending = s.pending := by
  generalize h : State.gatesOff s = t
  unfold State.gatesOff at h
  try dsimp only at h
  (repeat' split at h) <;> subst h <;> simp

@[simp] theorem State.fieldOff_frame (s : State) :
    (State.fieldOff s).pwr = s.pwr ∧
    (State.fieldOff s).lmp = s.lmp ∧
    (State.fieldOff s).host = s.host ∧
    (State.fieldOff s).dir = s.dir ∧
    (State.fieldOff s).grp = s.grp ∧
    (State.fieldOff s).gys = s.gys ∧
    (State.fieldOff s).hst = s.hst ∧
    (State.fieldOff s).cle = s.cle ∧
    (State.fieldOff s).dr0 = s.dr0 ∧
    (State.fieldOff s).dr1 = s.dr1 ∧
    (State.fieldOff s).saf = s.saf ∧
    (State.fieldOff s).can0 = s.can0 ∧
    (State.fieldOff s).can1 = s.can1 ∧
    (State.fieldOff s).rng = s.rng ∧
    (State.fieldOff s).dsp = s.dsp ∧
    (State.fieldOff s).shf = s.shf ∧
    (State.fieldOff s).tph = s.tph ∧
    (State.fieldOff s).rtc = s.rtc ∧
    (State.fieldOff s).sec = s.sec ∧
    (State.fieldOff s).pending = s.pending := by
  generalize h : State.fieldOff s = t
  unfold State.fieldOff at h
  try dsimp only at h
  (repeat' split at h) <;> subst h <;> simp

@[simp] theorem State.allOff_frame (s : State) :
    (State.allOff s).pwr = s.pwr ∧
    (State.allOff s).lmp = s.lmp ∧
    (State.allOff s).host = s.host ∧
    (State.allOff s).grp = s.grp ∧
    (State.allOff s).gys = s.gys ∧
    (State.allOff s).can0 = s.can0 ∧
    (State.allOff s).can1 = s.can1 ∧
    (State.allOff s).rng = s.rng ∧
    (State.allOff s).dsp = s.dsp ∧
    (State.allOff s).shf = s.shf ∧
    (State.allOff s).rtc = s.rtc ∧
    (State.allOff s).pending = s.pending := by
  generalize h : State.allOff s = t
  unfold State.allOff at h
  try dsimp only at h
  (repeat' split at h) <;> subst h <;> simp

@[simp] theorem State.canOff_frame (s : State) :
    (State.canOff s).pwr = s.pwr ∧
    (State.canOff s).lmp = s.lmp ∧
    (State.canOff s).host = s.host ∧
    (State.canOff s).dir = s.dir ∧
    (State.canOff s).grp = s.grp ∧
    (State.canOff s).gys = s.gys ∧
    (State.canOff s).hst = s.hst ∧
    (State.canOff s).cle = s.cle ∧
    (State.canOff s).dr0 = s.dr0 ∧
    (State.canOff s).dr1 = s.dr1 ∧
    (State.canOff s).saf = s.saf ∧
    (State.canOff s).fio = s.fio ∧
    (State.canOff s).rng = s.rng ∧
    (State.canOff s).dsp = s.dsp ∧
    (State.canOff s).shf = s.shf ∧
    (State.canOff s).tph = s.tph ∧
    (State.canOff s).rtc = s.rtc ∧
    (State.canOff s).sec = s.sec ∧
    (State.canOff s).pending = s.pending := by
  generalize h : State.canOff s = t
  unfold State.canOff at h
  try dsimp only at h
  (repeat' split at h) <;> subst h <;> simp

@[simp] theorem State.toLockout_frame (s : State) (cause : Nat) :
    (State.toLockout s cause).lmp = s.lmp ∧
    (State.toLockout s cause).host = s.host ∧
    (State.toLockout s cause).grp = s.grp ∧
    (State.toLockout s cause).gys = s.gys ∧
    (State.toLockout s cause).rng = s.rng ∧
    (State.toLockout s cause).dsp = s.dsp ∧
    (State.toLockout s cause).shf = s.shf ∧
    (State.toLockout s cause).rtc = s.rtc ∧
    (State.toLockout s cause).pending = s.pending := by
  generalize h : State.toLockout s cause = t
  unfold State.toLockout at h
  try dsimp only at h
  (repeat' split at h) <;> subst h <;> simp

end Sys2Proof.Machine
end

