-- ==== Sys2Proof/Laws/FrWick.lean ====
section
/-!
SUPPORT. For each operation of Machine/Wick.lean on the device, the blocks it leaves as they were.
-/
namespace Sys2Proof.Machine
set_option linter.unusedTactic false
set_option linter.unnecessarySeqFocus false
set_option linter.unreachableTactic false
set_option linter.unusedSimpArgs false
set_option linter.unusedVariables false

@[simp] theorem State.toTripped_frame (s : State) (cause : Nat) :
    (State.toTripped s cause).lmp = s.lmp ∧
    (State.toTripped s cause).host = s.host ∧
    (State.toTripped s cause).grp = s.grp ∧
    (State.toTripped s cause).gys = s.gys ∧
    (State.toTripped s cause).hst = s.hst ∧
    (State.toTripped s cause).cle = s.cle ∧
    (State.toTripped s cause).dr0 = s.dr0 ∧
    (State.toTripped s cause).dr1 = s.dr1 ∧
    (State.toTripped s cause).saf = s.saf ∧
    (State.toTripped s cause).fio = s.fio ∧
    (State.toTripped s cause).can0 = s.can0 ∧
    (State.toTripped s cause).can1 = s.can1 ∧
    (State.toTripped s cause).rng = s.rng ∧
    (State.toTripped s cause).dsp = s.dsp ∧
    (State.toTripped s cause).shf = s.shf ∧
    (State.toTripped s cause).rtc = s.rtc ∧
    (State.toTripped s cause).pending = s.pending := by
  generalize h : State.toTripped s cause = t
  unfold State.toTripped at h
  try dsimp only at h
  (repeat' split at h) <;> subst h <;> simp

@[simp] theorem State.safTrip_frame (s : State) (isA : Bool) (bit : Nat) (value : Int) :
    (State.safTrip s isA bit value).lmp = s.lmp ∧
    (State.safTrip s isA bit value).host = s.host ∧
    (State.safTrip s isA bit value).grp = s.grp ∧
    (State.safTrip s isA bit value).gys = s.gys ∧
    (State.safTrip s isA bit value).dr0 = s.dr0 ∧
    (State.safTrip s isA bit value).dr1 = s.dr1 ∧
    (State.safTrip s isA bit value).fio = s.fio ∧
    (State.safTrip s isA bit value).can0 = s.can0 ∧
    (State.safTrip s isA bit value).can1 = s.can1 ∧
    (State.safTrip s isA bit value).rng = s.rng ∧
    (State.safTrip s isA bit value).dsp = s.dsp ∧
    (State.safTrip s isA bit value).shf = s.shf ∧
    (State.safTrip s isA bit value).rtc = s.rtc ∧
    (State.safTrip s isA bit value).pending = s.pending := by
  generalize h : State.safTrip s isA bit value = t
  unfold State.safTrip at h
  try dsimp only at h
  (repeat' split at h) <;> subst h <;> simp

@[simp] theorem State.safLockout_frame (s : State) (item ch : Nat) :
    (State.safLockout s item ch).lmp = s.lmp ∧
    (State.safLockout s item ch).host = s.host ∧
    (State.safLockout s item ch).grp = s.grp ∧
    (State.safLockout s item ch).gys = s.gys ∧
    (State.safLockout s item ch).rng = s.rng ∧
    (State.safLockout s item ch).dsp = s.dsp ∧
    (State.safLockout s item ch).shf = s.shf ∧
    (State.safLockout s item ch).rtc = s.rtc ∧
    (State.safLockout s item ch).pending = s.pending := by
  generalize h : State.safLockout s item ch = t
  unfold State.safLockout at h
  try dsimp only at h
  (repeat' split at h) <;> subst h <;> simp

@[simp] theorem State.safEvaluate_lmp (s : State) (isA : Bool) : (State.safEvaluate s isA).lmp = s.lmp := by
  unfold State.safEvaluate; (repeat' split) <;> first | (simp; done) | ((try dsimp only); rw [foldl_lmp] <;> (try intro s x) <;> (repeat' split) <;> simp; done)

@[simp] theorem State.safEvaluate_host (s : State) (isA : Bool) : (State.safEvaluate s isA).host = s.host := by
  unfold State.safEvaluate; (repeat' split) <;> first | (simp; done) | ((try dsimp only); rw [foldl_host] <;> (try intro s x) <;> (repeat' split) <;> simp; done)

@[simp] theorem State.safEvaluate_grp (s : State) (isA : Bool) : (State.safEvaluate s isA).grp = s.grp := by
  unfold State.safEvaluate; (repeat' split) <;> first | (simp; done) | ((try dsimp only); rw [foldl_grp] <;> (try intro s x) <;> (repeat' split) <;> simp; done)

@[simp] theorem State.safEvaluate_gys (s : State) (isA : Bool) : (State.safEvaluate s isA).gys = s.gys := by
  unfold State.safEvaluate; (repeat' split) <;> first | (simp; done) | ((try dsimp only); rw [foldl_gys] <;> (try intro s x) <;> (repeat' split) <;> simp; done)

@[simp] theorem State.safEvaluate_dr0 (s : State) (isA : Bool) : (State.safEvaluate s isA).dr0 = s.dr0 := by
  unfold State.safEvaluate; (repeat' split) <;> first | (simp; done) | ((try dsimp only); rw [foldl_dr0] <;> (try intro s x) <;> (repeat' split) <;> simp; done)

@[simp] theorem State.safEvaluate_dr1 (s : State) (isA : Bool) : (State.safEvaluate s isA).dr1 = s.dr1 := by
  unfold State.safEvaluate; (repeat' split) <;> first | (simp; done) | ((try dsimp only); rw [foldl_dr1] <;> (try intro s x) <;> (repeat' split) <;> simp; done)

@[simp] theorem State.safEvaluate_fio (s : State) (isA : Bool) : (State.safEvaluate s isA).fio = s.fio := by
  unfold State.safEvaluate; (repeat' split) <;> first | (simp; done) | ((try dsimp only); rw [foldl_fio] <;> (try intro s x) <;> (repeat' split) <;> simp; done)

@[simp] theorem State.safEvaluate_can0 (s : State) (isA : Bool) : (State.safEvaluate s isA).can0 = s.can0 := by
  unfold State.safEvaluate; (repeat' split) <;> first | (simp; done) | ((try dsimp only); rw [foldl_can0] <;> (try intro s x) <;> (repeat' split) <;> simp; done)

@[simp] theorem State.safEvaluate_can1 (s : State) (isA : Bool) : (State.safEvaluate s isA).can1 = s.can1 := by
  unfold State.safEvaluate; (repeat' split) <;> first | (simp; done) | ((try dsimp only); rw [foldl_can1] <;> (try intro s x) <;> (repeat' split) <;> simp; done)

@[simp] theorem State.safEvaluate_rng (s : State) (isA : Bool) : (State.safEvaluate s isA).rng = s.rng := by
  unfold State.safEvaluate; (repeat' split) <;> first | (simp; done) | ((try dsimp only); rw [foldl_rng] <;> (try intro s x) <;> (repeat' split) <;> simp; done)

@[simp] theorem State.safEvaluate_dsp (s : State) (isA : Bool) : (State.safEvaluate s isA).dsp = s.dsp := by
  unfold State.safEvaluate; (repeat' split) <;> first | (simp; done) | ((try dsimp only); rw [foldl_dsp] <;> (try intro s x) <;> (repeat' split) <;> simp; done)

@[simp] theorem State.safEvaluate_shf (s : State) (isA : Bool) : (State.safEvaluate s isA).shf = s.shf := by
  unfold State.safEvaluate; (repeat' split) <;> first | (simp; done) | ((try dsimp only); rw [foldl_shf] <;> (try intro s x) <;> (repeat' split) <;> simp; done)

@[simp] theorem State.safEvaluate_rtc (s : State) (isA : Bool) : (State.safEvaluate s isA).rtc = s.rtc := by
  unfold State.safEvaluate; (repeat' split) <;> first | (simp; done) | ((try dsimp only); rw [foldl_rtc] <;> (try intro s x) <;> (repeat' split) <;> simp; done)

@[simp] theorem State.safEvaluate_pending (s : State) (isA : Bool) : (State.safEvaluate s isA).pending = s.pending := by
  unfold State.safEvaluate; (repeat' split) <;> first | (simp; done) | ((try dsimp only); rw [foldl_pending] <;> (try intro s x) <;> (repeat' split) <;> simp; done)

@[simp] theorem State.safMode_frame (s : State) (isA : Bool) :
    (State.safMode s isA).pwr = s.pwr ∧
    (State.safMode s isA).lmp = s.lmp ∧
    (State.safMode s isA).host = s.host ∧
    (State.safMode s isA).grp = s.grp ∧
    (State.safMode s isA).gys = s.gys ∧
    (State.safMode s isA).dr0 = s.dr0 ∧
    (State.safMode s isA).dr1 = s.dr1 ∧
    (State.safMode s isA).fio = s.fio ∧
    (State.safMode s isA).can0 = s.can0 ∧
    (State.safMode s isA).can1 = s.can1 ∧
    (State.safMode s isA).rng = s.rng ∧
    (State.safMode s isA).dsp = s.dsp ∧
    (State.safMode s isA).shf = s.shf ∧
    (State.safMode s isA).rtc = s.rtc ∧
    (State.safMode s isA).pending = s.pending := by
  generalize h : State.safMode s isA = t
  unfold State.safMode at h
  try dsimp only at h
  (repeat' split at h) <;> subst h <;> simp

@[simp] theorem State.resetPair_frame (s : State) :
    (State.resetPair s).pwr = s.pwr ∧
    (State.resetPair s).lmp = s.lmp ∧
    (State.resetPair s).host = s.host ∧
    (State.resetPair s).dir = s.dir ∧
    (State.resetPair s).grp = s.grp ∧
    (State.resetPair s).gys = s.gys ∧
    (State.resetPair s).hst = s.hst ∧
    (State.resetPair s).cle = s.cle ∧
    (State.resetPair s).dr0 = s.dr0 ∧
    (State.resetPair s).dr1 = s.dr1 ∧
    (State.resetPair s).fio = s.fio ∧
    (State.resetPair s).can0 = s.can0 ∧
    (State.resetPair s).can1 = s.can1 ∧
    (State.resetPair s).rng = s.rng ∧
    (State.resetPair s).dsp = s.dsp ∧
    (State.resetPair s).shf = s.shf ∧
    (State.resetPair s).tph = s.tph ∧
    (State.resetPair s).rtc = s.rtc ∧
    (State.resetPair s).sec = s.sec ∧
    (State.resetPair s).pending = s.pending := by
  generalize h : State.resetPair s = t
  unfold State.resetPair at h
  try dsimp only at h
  (repeat' split at h) <;> subst h <;> simp

@[simp] theorem State.switchStuck_frame (s : State) (ch k : Nat) (high : Bool) :
    (State.switchStuck s ch k high).lmp = s.lmp ∧
    (State.switchStuck s ch k high).host = s.host ∧
    (State.switchStuck s ch k high).grp = s.grp ∧
    (State.switchStuck s ch k high).gys = s.gys ∧
    (State.switchStuck s ch k high).rng = s.rng ∧
    (State.switchStuck s ch k high).dsp = s.dsp ∧
    (State.switchStuck s ch k high).shf = s.shf ∧
    (State.switchStuck s ch k high).rtc = s.rtc ∧
    (State.switchStuck s ch k high).pending = s.pending := by
  generalize h : State.switchStuck s ch k high = t
  unfold State.switchStuck at h
  try dsimp only at h
  (repeat' split at h) <;> subst h <;> simp

@[simp] theorem State.qualified_frame (s : State) (ch k code : Nat) :
    (State.qualified s ch k code).lmp = s.lmp ∧
    (State.qualified s ch k code).host = s.host ∧
    (State.qualified s ch k code).grp = s.grp ∧
    (State.qualified s ch k code).gys = s.gys ∧
    (State.qualified s ch k code).rng = s.rng ∧
    (State.qualified s ch k code).dsp = s.dsp ∧
    (State.qualified s ch k code).shf = s.shf ∧
    (State.qualified s ch k code).rtc = s.rtc ∧
    (State.qualified s ch k code).pending = s.pending := by
  generalize h : State.qualified s ch k code = t
  unfold State.qualified at h
  try dsimp only at h
  (repeat' split at h) <;> subst h <;> simp

@[simp] theorem State.statics_lmp (s : State) (ch nodes : Nat) : (State.statics s ch nodes).lmp = s.lmp := by
  unfold State.statics; (repeat' split) <;> first | (simp; done) | ((try dsimp only); rw [foldl_lmp] <;> (try intro s x) <;> (repeat' split) <;> simp; done)

@[simp] theorem State.statics_host (s : State) (ch nodes : Nat) : (State.statics s ch nodes).host = s.host := by
  unfold State.statics; (repeat' split) <;> first | (simp; done) | ((try dsimp only); rw [foldl_host] <;> (try intro s x) <;> (repeat' split) <;> simp; done)

@[simp] theorem State.statics_grp (s : State) (ch nodes : Nat) : (State.statics s ch nodes).grp = s.grp := by
  unfold State.statics; (repeat' split) <;> first | (simp; done) | ((try dsimp only); rw [foldl_grp] <;> (try intro s x) <;> (repeat' split) <;> simp; done)

@[simp] theorem State.statics_gys (s : State) (ch nodes : Nat) : (State.statics s ch nodes).gys = s.gys := by
  unfold State.statics; (repeat' split) <;> first | (simp; done) | ((try dsimp only); rw [foldl_gys] <;> (try intro s x) <;> (repeat' split) <;> simp; done)

@[simp] theorem State.statics_rng (s : State) (ch nodes : Nat) : (State.statics s ch nodes).rng = s.rng := by
  unfold State.statics; (repeat' split) <;> first | (simp; done) | ((try dsimp only); rw [foldl_rng] <;> (try intro s x) <;> (repeat' split) <;> simp; done)

@[simp] theorem State.statics_dsp (s : State) (ch nodes : Nat) : (State.statics s ch nodes).dsp = s.dsp := by
  unfold State.statics; (repeat' split) <;> first | (simp; done) | ((try dsimp only); rw [foldl_dsp] <;> (try intro s x) <;> (repeat' split) <;> simp; done)

@[simp] theorem State.statics_shf (s : State) (ch nodes : Nat) : (State.statics s ch nodes).shf = s.shf := by
  unfold State.statics; (repeat' split) <;> first | (simp; done) | ((try dsimp only); rw [foldl_shf] <;> (try intro s x) <;> (repeat' split) <;> simp; done)

@[simp] theorem State.statics_rtc (s : State) (ch nodes : Nat) : (State.statics s ch nodes).rtc = s.rtc := by
  unfold State.statics; (repeat' split) <;> first | (simp; done) | ((try dsimp only); rw [foldl_rtc] <;> (try intro s x) <;> (repeat' split) <;> simp; done)

@[simp] theorem State.statics_pending (s : State) (ch nodes : Nat) : (State.statics s ch nodes).pending = s.pending := by
  unfold State.statics; (repeat' split) <;> first | (simp; done) | ((try dsimp only); rw [foldl_pending] <;> (try intro s x) <;> (repeat' split) <;> simp; done)

@[simp] theorem State.contactor_frame (s : State) :
    (State.contactor s).pwr = s.pwr ∧
    (State.contactor s).lmp = s.lmp ∧
    (State.contactor s).host = s.host ∧
    (State.contactor s).dir = s.dir ∧
    (State.contactor s).grp = s.grp ∧
    (State.contactor s).gys = s.gys ∧
    (State.contactor s).hst = s.hst ∧
    (State.contactor s).cle = s.cle ∧
    (State.contactor s).dr0 = s.dr0 ∧
    (State.contactor s).dr1 = s.dr1 ∧
    (State.contactor s).fio = s.fio ∧
    (State.contactor s).can0 = s.can0 ∧
    (State.contactor s).can1 = s.can1 ∧
    (State.contactor s).rng = s.rng ∧
    (State.contactor s).dsp = s.dsp ∧
    (State.contactor s).shf = s.shf ∧
    (State.contactor s).tph = s.tph ∧
    (State.contactor s).rtc = s.rtc ∧
    (State.contactor s).sec = s.sec ∧
    (State.contactor s).pending = s.pending := by
  generalize h : State.contactor s = t
  unfold State.contactor at h
  try dsimp only at h
  (repeat' split at h) <;> subst h <;> simp

@[simp] theorem State.parkedSince_frame (s : State) :
    (State.parkedSince s).pwr = s.pwr ∧
    (State.parkedSince s).lmp = s.lmp ∧
    (State.parkedSince s).host = s.host ∧
    (State.parkedSince s).dir = s.dir ∧
    (State.parkedSince s).grp = s.grp ∧
    (State.parkedSince s).gys = s.gys ∧
    (State.parkedSince s).hst = s.hst ∧
    (State.parkedSince s).cle = s.cle ∧
    (State.parkedSince s).dr0 = s.dr0 ∧
    (State.parkedSince s).dr1 = s.dr1 ∧
    (State.parkedSince s).fio = s.fio ∧
    (State.parkedSince s).can0 = s.can0 ∧
    (State.parkedSince s).can1 = s.can1 ∧
    (State.parkedSince s).rng = s.rng ∧
    (State.parkedSince s).dsp = s.dsp ∧
    (State.parkedSince s).shf = s.shf ∧
    (State.parkedSince s).tph = s.tph ∧
    (State.parkedSince s).rtc = s.rtc ∧
    (State.parkedSince s).sec = s.sec ∧
    (State.parkedSince s).pending = s.pending := by
  generalize h : State.parkedSince s = t
  unfold State.parkedSince at h
  try dsimp only at h
  (repeat' split at h) <;> subst h <;> simp

@[simp] theorem State.endSafSession_frame (s : State) :
    (State.endSafSession s).pwr = s.pwr ∧
    (State.endSafSession s).lmp = s.lmp ∧
    (State.endSafSession s).host = s.host ∧
    (State.endSafSession s).dir = s.dir ∧
    (State.endSafSession s).grp = s.grp ∧
    (State.endSafSession s).gys = s.gys ∧
    (State.endSafSession s).hst = s.hst ∧
    (State.endSafSession s).cle = s.cle ∧
    (State.endSafSession s).dr0 = s.dr0 ∧
    (State.endSafSession s).dr1 = s.dr1 ∧
    (State.endSafSession s).fio = s.fio ∧
    (State.endSafSession s).can0 = s.can0 ∧
    (State.endSafSession s).can1 = s.can1 ∧
    (State.endSafSession s).rng = s.rng ∧
    (State.endSafSession s).dsp = s.dsp ∧
    (State.endSafSession s).shf = s.shf ∧
    (State.endSafSession s).tph = s.tph ∧
    (State.endSafSession s).rtc = s.rtc ∧
    (State.endSafSession s).sec = s.sec ∧
    (State.endSafSession s).pending = s.pending := by
  generalize h : State.endSafSession s = t
  unfold State.endSafSession at h
  try dsimp only at h
  (repeat' split at h) <;> subst h <;> simp

@[simp] theorem State.watchSession_frame (s : State) :
    (State.watchSession s).pwr = s.pwr ∧
    (State.watchSession s).lmp = s.lmp ∧
    (State.watchSession s).host = s.host ∧
    (State.watchSession s).dir = s.dir ∧
    (State.watchSession s).grp = s.grp ∧
    (State.watchSession s).gys = s.gys ∧
    (State.watchSession s).hst = s.hst ∧
    (State.watchSession s).cle = s.cle ∧
    (State.watchSession s).dr0 = s.dr0 ∧
    (State.watchSession s).dr1 = s.dr1 ∧
    (State.watchSession s).fio = s.fio ∧
    (State.watchSession s).can0 = s.can0 ∧
    (State.watchSession s).can1 = s.can1 ∧
    (State.watchSession s).rng = s.rng ∧
    (State.watchSession s).dsp = s.dsp ∧
    (State.watchSession s).shf = s.shf ∧
    (State.watchSession s).tph = s.tph ∧
    (State.watchSession s).rtc = s.rtc ∧
    (State.watchSession s).sec = s.sec ∧
    (State.watchSession s).pending = s.pending := by
  generalize h : State.watchSession s = t
  unfold State.watchSession at h
  try dsimp only at h
  (repeat' split at h) <;> subst h <;> simp

@[simp] theorem State.leaveTripped_frame (s : State) :
    (State.leaveTripped s).lmp = s.lmp ∧
    (State.leaveTripped s).host = s.host ∧
    (State.leaveTripped s).grp = s.grp ∧
    (State.leaveTripped s).gys = s.gys ∧
    (State.leaveTripped s).cle = s.cle ∧
    (State.leaveTripped s).dr0 = s.dr0 ∧
    (State.leaveTripped s).dr1 = s.dr1 ∧
    (State.leaveTripped s).fio = s.fio ∧
    (State.leaveTripped s).can0 = s.can0 ∧
    (State.leaveTripped s).can1 = s.can1 ∧
    (State.leaveTripped s).rng = s.rng ∧
    (State.leaveTripped s).dsp = s.dsp ∧
    (State.leaveTripped s).shf = s.shf ∧
    (State.leaveTripped s).rtc = s.rtc ∧
    (State.leaveTripped s).pending = s.pending := by
  generalize h : State.leaveTripped s = t
  unfold State.leaveTripped at h
  try dsimp only at h
  (repeat' split at h) <;> subst h <;> simp

@[simp] theorem State.afterGrants_frame (s : State) :
    (State.afterGrants s).pwr = s.pwr ∧
    (State.afterGrants s).lmp = s.lmp ∧
    (State.afterGrants s).host = s.host ∧
    (State.afterGrants s).dir = s.dir ∧
    (State.afterGrants s).grp = s.grp ∧
    (State.afterGrants s).gys = s.gys ∧
    (State.afterGrants s).hst = s.hst ∧
    (State.afterGrants s).cle = s.cle ∧
    (State.afterGrants s).dr0 = s.dr0 ∧
    (State.afterGrants s).dr1 = s.dr1 ∧
    (State.afterGrants s).fio = s.fio ∧
    (State.afterGrants s).can0 = s.can0 ∧
    (State.afterGrants s).can1 = s.can1 ∧
    (State.afterGrants s).rng = s.rng ∧
    (State.afterGrants s).dsp = s.dsp ∧
    (State.afterGrants s).shf = s.shf ∧
    (State.afterGrants s).tph = s.tph ∧
    (State.afterGrants s).rtc = s.rtc ∧
    (State.afterGrants s).sec = s.sec ∧
    (State.afterGrants s).pending = s.pending := by
  generalize h : State.afterGrants s = t
  unfold State.afterGrants at h
  try dsimp only at h
  (repeat' split at h) <;> subst h <;> simp

@[simp] theorem State.compare_frame (s : State) (isA recOk : Bool) :
    (State.compare s isA recOk).pwr = s.pwr ∧
    (State.compare s isA recOk).lmp = s.lmp ∧
    (State.compare s isA recOk).host = s.host ∧
    (State.compare s isA recOk).dir = s.dir ∧
    (State.compare s isA recOk).grp = s.grp ∧
    (State.compare s isA recOk).gys = s.gys ∧
    (State.compare s isA recOk).hst = s.hst ∧
    (State.compare s isA recOk).cle = s.cle ∧
    (State.compare s isA recOk).dr0 = s.dr0 ∧
    (State.compare s isA recOk).dr1 = s.dr1 ∧
    (State.compare s isA recOk).fio = s.fio ∧
    (State.compare s isA recOk).can0 = s.can0 ∧
    (State.compare s isA recOk).can1 = s.can1 ∧
    (State.compare s isA recOk).rng = s.rng ∧
    (State.compare s isA recOk).dsp = s.dsp ∧
    (State.compare s isA recOk).shf = s.shf ∧
    (State.compare s isA recOk).tph = s.tph ∧
    (State.compare s isA recOk).rtc = s.rtc ∧
    (State.compare s isA recOk).sec = s.sec ∧
    (State.compare s isA recOk).pending = s.pending := by
  generalize h : State.compare s isA recOk = t
  unfold State.compare at h
  try dsimp only at h
  (repeat' split at h) <;> subst h <;> simp

@[simp] theorem State.btAbandon_frame (s : State) :
    (State.btAbandon s).pwr = s.pwr ∧
    (State.btAbandon s).lmp = s.lmp ∧
    (State.btAbandon s).host = s.host ∧
    (State.btAbandon s).grp = s.grp ∧
    (State.btAbandon s).gys = s.gys ∧
    (State.btAbandon s).cle = s.cle ∧
    (State.btAbandon s).dr0 = s.dr0 ∧
    (State.btAbandon s).dr1 = s.dr1 ∧
    (State.btAbandon s).fio = s.fio ∧
    (State.btAbandon s).can0 = s.can0 ∧
    (State.btAbandon s).can1 = s.can1 ∧
    (State.btAbandon s).rng = s.rng ∧
    (State.btAbandon s).dsp = s.dsp ∧
    (State.btAbandon s).shf = s.shf ∧
    (State.btAbandon s).rtc = s.rtc ∧
    (State.btAbandon s).pending = s.pending := by
  generalize h : State.btAbandon s = t
  unfold State.btAbandon at h
  try dsimp only at h
  (repeat' split at h) <;> subst h <;> simp

@[simp] theorem State.btTo_frame (s : State) (p : Nat) :
    (State.btTo s p).pwr = s.pwr ∧
    (State.btTo s p).lmp = s.lmp ∧
    (State.btTo s p).host = s.host ∧
    (State.btTo s p).dir = s.dir ∧
    (State.btTo s p).grp = s.grp ∧
    (State.btTo s p).gys = s.gys ∧
    (State.btTo s p).hst = s.hst ∧
    (State.btTo s p).cle = s.cle ∧
    (State.btTo s p).dr0 = s.dr0 ∧
    (State.btTo s p).dr1 = s.dr1 ∧
    (State.btTo s p).fio = s.fio ∧
    (State.btTo s p).can0 = s.can0 ∧
    (State.btTo s p).can1 = s.can1 ∧
    (State.btTo s p).rng = s.rng ∧
    (State.btTo s p).dsp = s.dsp ∧
    (State.btTo s p).shf = s.shf ∧
    (State.btTo s p).tph = s.tph ∧
    (State.btTo s p).rtc = s.rtc ∧
    (State.btTo s p).sec = s.sec ∧
    (State.btTo s p).pending = s.pending := by
  generalize h : State.btTo s p = t
  unfold State.btTo at h
  try dsimp only at h
  (repeat' split at h) <;> subst h <;> simp

@[simp] theorem State.btPass_frame (s : State) :
    (State.btPass s).pwr = s.pwr ∧
    (State.btPass s).lmp = s.lmp ∧
    (State.btPass s).host = s.host ∧
    (State.btPass s).grp = s.grp ∧
    (State.btPass s).gys = s.gys ∧
    (State.btPass s).hst = s.hst ∧
    (State.btPass s).cle = s.cle ∧
    (State.btPass s).dr0 = s.dr0 ∧
    (State.btPass s).dr1 = s.dr1 ∧
    (State.btPass s).fio = s.fio ∧
    (State.btPass s).can0 = s.can0 ∧
    (State.btPass s).can1 = s.can1 ∧
    (State.btPass s).rng = s.rng ∧
    (State.btPass s).dsp = s.dsp ∧
    (State.btPass s).shf = s.shf ∧
    (State.btPass s).rtc = s.rtc ∧
    (State.btPass s).pending = s.pending := by
  generalize h : State.btPass s = t
  unfold State.btPass at h
  try dsimp only at h
  (repeat' split at h) <;> subst h <;> simp

@[simp] theorem State.btStep_frame (s : State) :
    (State.btStep s).pwr = s.pwr ∧
    (State.btStep s).lmp = s.lmp ∧
    (State.btStep s).host = s.host ∧
    (State.btStep s).grp = s.grp ∧
    (State.btStep s).gys = s.gys ∧
    (State.btStep s).cle = s.cle ∧
    (State.btStep s).dr0 = s.dr0 ∧
    (State.btStep s).dr1 = s.dr1 ∧
    (State.btStep s).fio = s.fio ∧
    (State.btStep s).can0 = s.can0 ∧
    (State.btStep s).can1 = s.can1 ∧
    (State.btStep s).rng = s.rng ∧
    (State.btStep s).dsp = s.dsp ∧
    (State.btStep s).shf = s.shf ∧
    (State.btStep s).rtc = s.rtc ∧
    (State.btStep s).pending = s.pending := by
  generalize h : State.btStep s = t
  unfold State.btStep at h
  try dsimp only at h
  (repeat' split at h) <;> subst h <;> simp

end Sys2Proof.Machine
end

