-- ==== Sys2Proof/Laws/FrGroupBase.lean ====
section
/-!
SUPPORT. For each operation of Machine/GroupBase.lean on the device, the blocks it leaves as they were.
-/
namespace Sys2Proof.Machine
set_option linter.unusedTactic false
set_option linter.unnecessarySeqFocus false
set_option linter.unreachableTactic false
set_option linter.unusedSimpArgs false
set_option linter.unusedVariables false

@[simp] theorem State.modGroup_frame (s : State) (g : Nat) (f : Group → Group) :
    (State.modGroup s g f).pwr = s.pwr ∧
    (State.modGroup s g f).lmp = s.lmp ∧
    (State.modGroup s g f).host = s.host ∧
    (State.modGroup s g f).dir = s.dir ∧
    (State.modGroup s g f).gys = s.gys ∧
    (State.modGroup s g f).hst = s.hst ∧
    (State.modGroup s g f).cle = s.cle ∧
    (State.modGroup s g f).dr0 = s.dr0 ∧
    (State.modGroup s g f).dr1 = s.dr1 ∧
    (State.modGroup s g f).saf = s.saf ∧
    (State.modGroup s g f).fio = s.fio ∧
    (State.modGroup s g f).can0 = s.can0 ∧
    (State.modGroup s g f).can1 = s.can1 ∧
    (State.modGroup s g f).rng = s.rng ∧
    (State.modGroup s g f).dsp = s.dsp ∧
    (State.modGroup s g f).shf = s.shf ∧
    (State.modGroup s g f).tph = s.tph ∧
    (State.modGroup s g f).rtc = s.rtc ∧
    (State.modGroup s g f).sec = s.sec ∧
    (State.modGroup s g f).pending = s.pending := by
  generalize h : State.modGroup s g f = t
  unfold State.modGroup at h
  try dsimp only at h
  (repeat' split at h) <;> subst h <;> simp

@[simp] theorem State.allocGroup_frame (s : State) (g : Nat) (owner : GOwner) (cross : Bool) (parts : List Nat) :
    (State.allocGroup s g owner cross parts).pwr = s.pwr ∧
    (State.allocGroup s g owner cross parts).lmp = s.lmp ∧
    (State.allocGroup s g owner cross parts).host = s.host ∧
    (State.allocGroup s g owner cross parts).dir = s.dir ∧
    (State.allocGroup s g owner cross parts).gys = s.gys ∧
    (State.allocGroup s g owner cross parts).hst = s.hst ∧
    (State.allocGroup s g owner cross parts).cle = s.cle ∧
    (State.allocGroup s g owner cross parts).dr0 = s.dr0 ∧
    (State.allocGroup s g owner cross parts).dr1 = s.dr1 ∧
    (State.allocGroup s g owner cross parts).saf = s.saf ∧
    (State.allocGroup s g owner cross parts).fio = s.fio ∧
    (State.allocGroup s g owner cross parts).can0 = s.can0 ∧
    (State.allocGroup s g owner cross parts).can1 = s.can1 ∧
    (State.allocGroup s g owner cross parts).rng = s.rng ∧
    (State.allocGroup s g owner cross parts).dsp = s.dsp ∧
    (State.allocGroup s g owner cross parts).shf = s.shf ∧
    (State.allocGroup s g owner cross parts).tph = s.tph ∧
    (State.allocGroup s g owner cross parts).rtc = s.rtc ∧
    (State.allocGroup s g owner cross parts).sec = s.sec ∧
    (State.allocGroup s g owner cross parts).pending = s.pending := by
  generalize h : State.allocGroup s g owner cross parts = t
  unfold State.allocGroup at h
  try dsimp only at h
  (repeat' split at h) <;> subst h <;> simp

@[simp] theorem State.freeUp_frame (s : State) (g : Nat) :
    (State.freeUp s g).pwr = s.pwr ∧
    (State.freeUp s g).lmp = s.lmp ∧
    (State.freeUp s g).host = s.host ∧
    (State.freeUp s g).dir = s.dir ∧
    (State.freeUp s g).gys = s.gys ∧
    (State.freeUp s g).hst = s.hst ∧
    (State.freeUp s g).cle = s.cle ∧
    (State.freeUp s g).dr0 = s.dr0 ∧
    (State.freeUp s g).dr1 = s.dr1 ∧
    (State.freeUp s g).saf = s.saf ∧
    (State.freeUp s g).fio = s.fio ∧
    (State.freeUp s g).can0 = s.can0 ∧
    (State.freeUp s g).can1 = s.can1 ∧
    (State.freeUp s g).rng = s.rng ∧
    (State.freeUp s g).dsp = s.dsp ∧
    (State.freeUp s g).shf = s.shf ∧
    (State.freeUp s g).tph = s.tph ∧
    (State.freeUp s g).rtc = s.rtc ∧
    (State.freeUp s g).sec = s.sec ∧
    (State.freeUp s g).pending = s.pending := by
  generalize h : State.freeUp s g = t
  unfold State.freeUp at h
  try dsimp only at h
  (repeat' split at h) <;> subst h <;> simp

@[simp] theorem State.sendGroup_frame (s : State) (m : GMsg) :
    (State.sendGroup s m).pwr = s.pwr ∧
    (State.sendGroup s m).lmp = s.lmp ∧
    (State.sendGroup s m).host = s.host ∧
    (State.sendGroup s m).dir = s.dir ∧
    (State.sendGroup s m).gys = s.gys ∧
    (State.sendGroup s m).hst = s.hst ∧
    (State.sendGroup s m).cle = s.cle ∧
    (State.sendGroup s m).dr0 = s.dr0 ∧
    (State.sendGroup s m).dr1 = s.dr1 ∧
    (State.sendGroup s m).saf = s.saf ∧
    (State.sendGroup s m).fio = s.fio ∧
    (State.sendGroup s m).can0 = s.can0 ∧
    (State.sendGroup s m).can1 = s.can1 ∧
    (State.sendGroup s m).rng = s.rng ∧
    (State.sendGroup s m).dsp = s.dsp ∧
    (State.sendGroup s m).shf = s.shf ∧
    (State.sendGroup s m).tph = s.tph ∧
    (State.sendGroup s m).rtc = s.rtc ∧
    (State.sendGroup s m).sec = s.sec ∧
    (State.sendGroup s m).pending = s.pending := by
  generalize h : State.sendGroup s m = t
  unfold State.sendGroup at h
  try dsimp only at h
  (repeat' split at h) <;> subst h <;> simp

@[simp] theorem State.sendPrepare_frame (s : State) (g : Nat) :
    (State.sendPrepare s g).pwr = s.pwr ∧
    (State.sendPrepare s g).lmp = s.lmp ∧
    (State.sendPrepare s g).host = s.host ∧
    (State.sendPrepare s g).dir = s.dir ∧
    (State.sendPrepare s g).gys = s.gys ∧
    (State.sendPrepare s g).hst = s.hst ∧
    (State.sendPrepare s g).cle = s.cle ∧
    (State.sendPrepare s g).dr0 = s.dr0 ∧
    (State.sendPrepare s g).dr1 = s.dr1 ∧
    (State.sendPrepare s g).saf = s.saf ∧
    (State.sendPrepare s g).fio = s.fio ∧
    (State.sendPrepare s g).can0 = s.can0 ∧
    (State.sendPrepare s g).can1 = s.can1 ∧
    (State.sendPrepare s g).rng = s.rng ∧
    (State.sendPrepare s g).dsp = s.dsp ∧
    (State.sendPrepare s g).shf = s.shf ∧
    (State.sendPrepare s g).tph = s.tph ∧
    (State.sendPrepare s g).rtc = s.rtc ∧
    (State.sendPrepare s g).sec = s.sec ∧
    (State.sendPrepare s g).pending = s.pending := by
  generalize h : State.sendPrepare s g = t
  unfold State.sendPrepare at h
  try dsimp only at h
  (repeat' split at h) <;> subst h <;> simp

end Sys2Proof.Machine
end

