-- ==== Sys2Proof/Laws/FrShfCalc.lean ====
section
/-!
SUPPORT. For each operation of Machine/ShfCalc.lean on the device, the blocks it leaves as they were.
-/
namespace Sys2Proof.Machine
set_option linter.unusedTactic false
set_option linter.unnecessarySeqFocus false
set_option linter.unreachableTactic false
set_option linter.unusedSimpArgs false
set_option linter.unusedVariables false

@[simp] theorem State.modSide_frame (s : State) (up : Bool) (f : NlSide → NlSide) :
    (State.modSide s up f).pwr = s.pwr ∧
    (State.modSide s up f).lmp = s.lmp ∧
    (State.modSide s up f).host = s.host ∧
    (State.modSide s up f).dir = s.dir ∧
    (State.modSide s up f).grp = s.grp ∧
    (State.modSide s up f).gys = s.gys ∧
    (State.modSide s up f).hst = s.hst ∧
    (State.modSide s up f).cle = s.cle ∧
    (State.modSide s up f).dr0 = s.dr0 ∧
    (State.modSide s up f).dr1 = s.dr1 ∧
    (State.modSide s up f).saf = s.saf ∧
    (State.modSide s up f).fio = s.fio ∧
    (State.modSide s up f).can0 = s.can0 ∧
    (State.modSide s up f).can1 = s.can1 ∧
    (State.modSide s up f).rng = s.rng ∧
    (State.modSide s up f).dsp = s.dsp ∧
    (State.modSide s up f).tph = s.tph ∧
    (State.modSide s up f).rtc = s.rtc ∧
    (State.modSide s up f).sec = s.sec ∧
    (State.modSide s up f).pending = s.pending := by
  generalize h : State.modSide s up f = t
  unfold State.modSide at h
  try dsimp only at h
  (repeat' split at h) <;> subst h <;> simp

@[simp] theorem State.shfCheck_frame (s : State) :
    (State.shfCheck s).pwr = s.pwr ∧
    (State.shfCheck s).lmp = s.lmp ∧
    (State.shfCheck s).host = s.host ∧
    (State.shfCheck s).grp = s.grp ∧
    (State.shfCheck s).gys = s.gys ∧
    (State.shfCheck s).hst = s.hst ∧
    (State.shfCheck s).cle = s.cle ∧
    (State.shfCheck s).dr0 = s.dr0 ∧
    (State.shfCheck s).dr1 = s.dr1 ∧
    (State.shfCheck s).saf = s.saf ∧
    (State.shfCheck s).fio = s.fio ∧
    (State.shfCheck s).can0 = s.can0 ∧
    (State.shfCheck s).can1 = s.can1 ∧
    (State.shfCheck s).rng = s.rng ∧
    (State.shfCheck s).dsp = s.dsp ∧
    (State.shfCheck s).rtc = s.rtc ∧
    (State.shfCheck s).pending = s.pending := by
  generalize h : State.shfCheck s = t
  unfold State.shfCheck at h
  try dsimp only at h
  (repeat' split at h) <;> subst h <;> simp

/-- An internal opening changes nothing but the groups. -/
theorem State.openInternal_some {s u : State} {o : GOwner} {ps : List Nat} {as : List Act} {k g : Nat}
    (h : s.openInternal o ps as k = some (g, u)) : u = { s with grp := u.grp } := by
  unfold State.openInternal at h
  split at h
  · cases h
  · dsimp only at h
    split at h
    · simp only [Option.some.injEq, Prod.mk.injEq] at h
      rw [← h.2]
      rfl
    · simp only [Option.some.injEq, Prod.mk.injEq] at h
      rw [← h.2]
      apply State.eq_of_blocks <;> simp

@[simp] theorem State.zoneRequest_frame1 (s : State) (t : Tgt) (up : Bool) (edge : Int) :
    (s.zoneRequest t up edge).pwr = s.pwr ∧
    (s.zoneRequest t up edge).lmp = s.lmp ∧
    (s.zoneRequest t up edge).host = s.host ∧
    (s.zoneRequest t up edge).dir = s.dir ∧
    (s.zoneRequest t up edge).gys = s.gys ∧
    (s.zoneRequest t up edge).hst = s.hst := by
  unfold State.zoneRequest
  dsimp only
  split
  · simp
  · next h => rw [State.openInternal_some h] <;> simp

@[simp] theorem State.zoneRequest_frame2 (s : State) (t : Tgt) (up : Bool) (edge : Int) :
    (s.zoneRequest t up edge).cle = s.cle ∧
    (s.zoneRequest t up edge).dr0 = s.dr0 ∧
    (s.zoneRequest t up edge).dr1 = s.dr1 ∧
    (s.zoneRequest t up edge).saf = s.saf ∧
    (s.zoneRequest t up edge).fio = s.fio ∧
    (s.zoneRequest t up edge).can0 = s.can0 := by
  unfold State.zoneRequest
  dsimp only
  split
  · simp
  · next h => rw [State.openInternal_some h] <;> simp

@[simp] theorem State.zoneRequest_frame3 (s : State) (t : Tgt) (up : Bool) (edge : Int) :
    (s.zoneRequest t up edge).can1 = s.can1 ∧
    (s.zoneRequest t up edge).rng = s.rng ∧
    (s.zoneRequest t up edge).dsp = s.dsp ∧
    (s.zoneRequest t up edge).tph = s.tph ∧
    (s.zoneRequest t up edge).rtc = s.rtc ∧
    (s.zoneRequest t up edge).sec = s.sec := by
  unfold State.zoneRequest
  dsimp only
  split
  · simp
  · next h => rw [State.openInternal_some h] <;> simp

@[simp] theorem State.zoneRequest_frame4 (s : State) (t : Tgt) (up : Bool) (edge : Int) :
    (s.zoneRequest t up edge).pending = s.pending := by
  unfold State.zoneRequest
  dsimp only
  split
  · simp
  · next h => rw [State.openInternal_some h] <;> simp


@[simp] theorem State.maybeZone_frame (s : State) (t : Tgt) (p : Int) :
    (State.maybeZone s t p).pwr = s.pwr ∧
    (State.maybeZone s t p).lmp = s.lmp ∧
    (State.maybeZone s t p).host = s.host ∧
    (State.maybeZone s t p).dir = s.dir ∧
    (State.maybeZone s t p).gys = s.gys ∧
    (State.maybeZone s t p).hst = s.hst ∧
    (State.maybeZone s t p).cle = s.cle ∧
    (State.maybeZone s t p).dr0 = s.dr0 ∧
    (State.maybeZone s t p).dr1 = s.dr1 ∧
    (State.maybeZone s t p).saf = s.saf ∧
    (State.maybeZone s t p).fio = s.fio ∧
    (State.maybeZone s t p).can0 = s.can0 ∧
    (State.maybeZone s t p).can1 = s.can1 ∧
    (State.maybeZone s t p).rng = s.rng ∧
    (State.maybeZone s t p).dsp = s.dsp ∧
    (State.maybeZone s t p).tph = s.tph ∧
    (State.maybeZone s t p).rtc = s.rtc ∧
    (State.maybeZone s t p).sec = s.sec ∧
    (State.maybeZone s t p).pending = s.pending := by
  generalize h : State.maybeZone s t p = t
  unfold State.maybeZone at h
  try dsimp only at h
  (repeat' split at h) <;> subst h <;> simp

@[simp] theorem State.setEdge_frame (s : State) (upper : Bool) (v : Int) :
    (State.setEdge s upper v).pwr = s.pwr ∧
    (State.setEdge s upper v).lmp = s.lmp ∧
    (State.setEdge s upper v).host = s.host ∧
    (State.setEdge s upper v).grp = s.grp ∧
    (State.setEdge s upper v).gys = s.gys ∧
    (State.setEdge s upper v).hst = s.hst ∧
    (State.setEdge s upper v).cle = s.cle ∧
    (State.setEdge s upper v).dr0 = s.dr0 ∧
    (State.setEdge s upper v).dr1 = s.dr1 ∧
    (State.setEdge s upper v).saf = s.saf ∧
    (State.setEdge s upper v).fio = s.fio ∧
    (State.setEdge s upper v).can0 = s.can0 ∧
    (State.setEdge s upper v).can1 = s.can1 ∧
    (State.setEdge s upper v).rng = s.rng ∧
    (State.setEdge s upper v).dsp = s.dsp ∧
    (State.setEdge s upper v).shf = s.shf ∧
    (State.setEdge s upper v).tph = s.tph ∧
    (State.setEdge s upper v).rtc = s.rtc ∧
    (State.setEdge s upper v).pending = s.pending := by
  generalize h : State.setEdge s upper v = t
  unfold State.setEdge at h
  try dsimp only at h
  (repeat' split at h) <;> subst h <;> simp

@[simp] theorem State.setZone_frame (s : State) (upper : Bool) (v : Int) :
    (State.setZone s upper v).pwr = s.pwr ∧
    (State.setZone s upper v).lmp = s.lmp ∧
    (State.setZone s upper v).host = s.host ∧
    (State.setZone s upper v).grp = s.grp ∧
    (State.setZone s upper v).gys = s.gys ∧
    (State.setZone s upper v).hst = s.hst ∧
    (State.setZone s upper v).cle = s.cle ∧
    (State.setZone s upper v).dr0 = s.dr0 ∧
    (State.setZone s upper v).dr1 = s.dr1 ∧
    (State.setZone s upper v).saf = s.saf ∧
    (State.setZone s upper v).fio = s.fio ∧
    (State.setZone s upper v).can0 = s.can0 ∧
    (State.setZone s upper v).can1 = s.can1 ∧
    (State.setZone s upper v).rng = s.rng ∧
    (State.setZone s upper v).dsp = s.dsp ∧
    (State.setZone s upper v).shf = s.shf ∧
    (State.setZone s upper v).rtc = s.rtc ∧
    (State.setZone s upper v).pending = s.pending := by
  generalize h : State.setZone s upper v = t
  unfold State.setZone at h
  try dsimp only at h
  (repeat' split at h) <;> subst h <;> simp

end Sys2Proof.Machine
end

