-- ==== Sys2Proof/Laws/FrHoist.lean ====
section
/-!
SUPPORT. For each operation of Machine/Hoist.lean on the device, the blocks it leaves as they were.
-/
namespace Sys2Proof.Machine
set_option linter.unusedTactic false
set_option linter.unnecessarySeqFocus false
set_option linter.unreachableTactic false
set_option linter.unusedSimpArgs false
set_option linter.unusedVariables false

@[simp] theorem State.sourceStop_frame (s : State) (bit : Nat) :
    (State.sourceStop s bit).pwr = s.pwr ∧
    (State.sourceStop s bit).lmp = s.lmp ∧
    (State.sourceStop s bit).host = s.host ∧
    (State.sourceStop s bit).grp = s.grp ∧
    (State.sourceStop s bit).gys = s.gys ∧
    (State.sourceStop s bit).cle = s.cle ∧
    (State.sourceStop s bit).dr0 = s.dr0 ∧
    (State.sourceStop s bit).dr1 = s.dr1 ∧
    (State.sourceStop s bit).saf = s.saf ∧
    (State.sourceStop s bit).fio = s.fio ∧
    (State.sourceStop s bit).can0 = s.can0 ∧
    (State.sourceStop s bit).can1 = s.can1 ∧
    (State.sourceStop s bit).rng = s.rng ∧
    (State.sourceStop s bit).dsp = s.dsp ∧
    (State.sourceStop s bit).shf = s.shf ∧
    (State.sourceStop s bit).rtc = s.rtc ∧
    (State.sourceStop s bit).pending = s.pending := by
  generalize h : State.sourceStop s bit = t
  unfold State.sourceStop at h
  try dsimp only at h
  (repeat' split at h) <;> subst h <;> simp

@[simp] theorem State.checkSource_frame (s : State) (inst : Nat) (src : PosSrc) :
    (State.checkSource s inst src).pwr = s.pwr ∧
    (State.checkSource s inst src).lmp = s.lmp ∧
    (State.checkSource s inst src).host = s.host ∧
    (State.checkSource s inst src).grp = s.grp ∧
    (State.checkSource s inst src).gys = s.gys ∧
    (State.checkSource s inst src).cle = s.cle ∧
    (State.checkSource s inst src).dr0 = s.dr0 ∧
    (State.checkSource s inst src).dr1 = s.dr1 ∧
    (State.checkSource s inst src).saf = s.saf ∧
    (State.checkSource s inst src).fio = s.fio ∧
    (State.checkSource s inst src).can0 = s.can0 ∧
    (State.checkSource s inst src).can1 = s.can1 ∧
    (State.checkSource s inst src).rng = s.rng ∧
    (State.checkSource s inst src).dsp = s.dsp ∧
    (State.checkSource s inst src).shf = s.shf ∧
    (State.checkSource s inst src).rtc = s.rtc ∧
    (State.checkSource s inst src).pending = s.pending := by
  generalize h : State.checkSource s inst src = t
  unfold State.checkSource at h
  try dsimp only at h
  (repeat' split at h) <;> subst h <;> simp

@[simp] theorem State.checkDiscrepancy_frame (s : State) :
    (State.checkDiscrepancy s).pwr = s.pwr ∧
    (State.checkDiscrepancy s).lmp = s.lmp ∧
    (State.checkDiscrepancy s).host = s.host ∧
    (State.checkDiscrepancy s).grp = s.grp ∧
    (State.checkDiscrepancy s).gys = s.gys ∧
    (State.checkDiscrepancy s).cle = s.cle ∧
    (State.checkDiscrepancy s).dr0 = s.dr0 ∧
    (State.checkDiscrepancy s).dr1 = s.dr1 ∧
    (State.checkDiscrepancy s).saf = s.saf ∧
    (State.checkDiscrepancy s).fio = s.fio ∧
    (State.checkDiscrepancy s).can0 = s.can0 ∧
    (State.checkDiscrepancy s).can1 = s.can1 ∧
    (State.checkDiscrepancy s).rng = s.rng ∧
    (State.checkDiscrepancy s).dsp = s.dsp ∧
    (State.checkDiscrepancy s).shf = s.shf ∧
    (State.checkDiscrepancy s).rtc = s.rtc ∧
    (State.checkDiscrepancy s).pending = s.pending := by
  generalize h : State.checkDiscrepancy s = t
  unfold State.checkDiscrepancy at h
  try dsimp only at h
  (repeat' split at h) <;> subst h <;> simp

@[simp] theorem State.residual_frame (s : State) (r step : Int) :
    (State.residual s r step).pwr = s.pwr ∧
    (State.residual s r step).lmp = s.lmp ∧
    (State.residual s r step).host = s.host ∧
    (State.residual s r step).grp = s.grp ∧
    (State.residual s r step).gys = s.gys ∧
    (State.residual s r step).cle = s.cle ∧
    (State.residual s r step).dr0 = s.dr0 ∧
    (State.residual s r step).dr1 = s.dr1 ∧
    (State.residual s r step).saf = s.saf ∧
    (State.residual s r step).fio = s.fio ∧
    (State.residual s r step).can0 = s.can0 ∧
    (State.residual s r step).can1 = s.can1 ∧
    (State.residual s r step).rng = s.rng ∧
    (State.residual s r step).dsp = s.dsp ∧
    (State.residual s r step).shf = s.shf ∧
    (State.residual s r step).rtc = s.rtc ∧
    (State.residual s r step).pending = s.pending := by
  generalize h : State.residual s r step = t
  unfold State.residual at h
  try dsimp only at h
  (repeat' split at h) <;> subst h <;> simp

@[simp] theorem State.fuse_frame (s : State) (p : Int) (ts : Nat) :
    (State.fuse s p ts).pwr = s.pwr ∧
    (State.fuse s p ts).lmp = s.lmp ∧
    (State.fuse s p ts).host = s.host ∧
    (State.fuse s p ts).grp = s.grp ∧
    (State.fuse s p ts).gys = s.gys ∧
    (State.fuse s p ts).cle = s.cle ∧
    (State.fuse s p ts).dr0 = s.dr0 ∧
    (State.fuse s p ts).dr1 = s.dr1 ∧
    (State.fuse s p ts).saf = s.saf ∧
    (State.fuse s p ts).fio = s.fio ∧
    (State.fuse s p ts).can0 = s.can0 ∧
    (State.fuse s p ts).can1 = s.can1 ∧
    (State.fuse s p ts).rng = s.rng ∧
    (State.fuse s p ts).dsp = s.dsp ∧
    (State.fuse s p ts).shf = s.shf ∧
    (State.fuse s p ts).rtc = s.rtc ∧
    (State.fuse s p ts).pending = s.pending := by
  generalize h : State.fuse s p ts = t
  unfold State.fuse at h
  try dsimp only at h
  (repeat' split at h) <;> subst h <;> simp

@[simp] theorem State.fuseAbs_frame (s : State) (p : Int) (ts : Nat) :
    (State.fuseAbs s p ts).pwr = s.pwr ∧
    (State.fuseAbs s p ts).lmp = s.lmp ∧
    (State.fuseAbs s p ts).host = s.host ∧
    (State.fuseAbs s p ts).dir = s.dir ∧
    (State.fuseAbs s p ts).grp = s.grp ∧
    (State.fuseAbs s p ts).gys = s.gys ∧
    (State.fuseAbs s p ts).cle = s.cle ∧
    (State.fuseAbs s p ts).dr0 = s.dr0 ∧
    (State.fuseAbs s p ts).dr1 = s.dr1 ∧
    (State.fuseAbs s p ts).saf = s.saf ∧
    (State.fuseAbs s p ts).fio = s.fio ∧
    (State.fuseAbs s p ts).can0 = s.can0 ∧
    (State.fuseAbs s p ts).can1 = s.can1 ∧
    (State.fuseAbs s p ts).rng = s.rng ∧
    (State.fuseAbs s p ts).dsp = s.dsp ∧
    (State.fuseAbs s p ts).shf = s.shf ∧
    (State.fuseAbs s p ts).tph = s.tph ∧
    (State.fuseAbs s p ts).rtc = s.rtc ∧
    (State.fuseAbs s p ts).sec = s.sec ∧
    (State.fuseAbs s p ts).pending = s.pending := by
  generalize h : State.fuseAbs s p ts = t
  unfold State.fuseAbs at h
  try dsimp only at h
  (repeat' split at h) <;> subst h <;> simp

@[simp] theorem State.queueTgt_frame (s : State) (t : Tgt) :
    (State.queueTgt s t).pwr = s.pwr ∧
    (State.queueTgt s t).lmp = s.lmp ∧
    (State.queueTgt s t).host = s.host ∧
    (State.queueTgt s t).grp = s.grp ∧
    (State.queueTgt s t).gys = s.gys ∧
    (State.queueTgt s t).cle = s.cle ∧
    (State.queueTgt s t).dr0 = s.dr0 ∧
    (State.queueTgt s t).dr1 = s.dr1 ∧
    (State.queueTgt s t).fio = s.fio ∧
    (State.queueTgt s t).can0 = s.can0 ∧
    (State.queueTgt s t).can1 = s.can1 ∧
    (State.queueTgt s t).rng = s.rng ∧
    (State.queueTgt s t).dsp = s.dsp ∧
    (State.queueTgt s t).shf = s.shf ∧
    (State.queueTgt s t).rtc = s.rtc ∧
    (State.queueTgt s t).pending = s.pending := by
  generalize h : State.queueTgt s t = t
  unfold State.queueTgt at h
  try dsimp only at h
  (repeat' split at h) <;> subst h <;> simp

@[simp] theorem State.gysAck_frame (s : State) (r seq : Nat) (st : Status) :
    (State.gysAck s r seq st).pwr = s.pwr ∧
    (State.gysAck s r seq st).lmp = s.lmp ∧
    (State.gysAck s r seq st).host = s.host ∧
    (State.gysAck s r seq st).dir = s.dir ∧
    (State.gysAck s r seq st).grp = s.grp ∧
    (State.gysAck s r seq st).hst = s.hst ∧
    (State.gysAck s r seq st).cle = s.cle ∧
    (State.gysAck s r seq st).dr0 = s.dr0 ∧
    (State.gysAck s r seq st).dr1 = s.dr1 ∧
    (State.gysAck s r seq st).saf = s.saf ∧
    (State.gysAck s r seq st).fio = s.fio ∧
    (State.gysAck s r seq st).can0 = s.can0 ∧
    (State.gysAck s r seq st).can1 = s.can1 ∧
    (State.gysAck s r seq st).rng = s.rng ∧
    (State.gysAck s r seq st).dsp = s.dsp ∧
    (State.gysAck s r seq st).shf = s.shf ∧
    (State.gysAck s r seq st).tph = s.tph ∧
    (State.gysAck s r seq st).rtc = s.rtc ∧
    (State.gysAck s r seq st).sec = s.sec ∧
    (State.gysAck s r seq st).pending = s.pending := by
  generalize h : State.gysAck s r seq st = t
  unfold State.gysAck at h
  try dsimp only at h
  (repeat' split at h) <;> subst h <;> simp

@[simp] theorem State.tookReq_frame (s : State) (r : Nat) :
    (State.tookReq s r).pwr = s.pwr ∧
    (State.tookReq s r).lmp = s.lmp ∧
    (State.tookReq s r).host = s.host ∧
    (State.tookReq s r).dir = s.dir ∧
    (State.tookReq s r).grp = s.grp ∧
    (State.tookReq s r).hst = s.hst ∧
    (State.tookReq s r).cle = s.cle ∧
    (State.tookReq s r).dr0 = s.dr0 ∧
    (State.tookReq s r).dr1 = s.dr1 ∧
    (State.tookReq s r).saf = s.saf ∧
    (State.tookReq s r).fio = s.fio ∧
    (State.tookReq s r).can0 = s.can0 ∧
    (State.tookReq s r).can1 = s.can1 ∧
    (State.tookReq s r).rng = s.rng ∧
    (State.tookReq s r).dsp = s.dsp ∧
    (State.tookReq s r).shf = s.shf ∧
    (State.tookReq s r).tph = s.tph ∧
    (State.tookReq s r).rtc = s.rtc ∧
    (State.tookReq s r).sec = s.sec ∧
    (State.tookReq s r).pending = s.pending := by
  generalize h : State.tookReq s r = t
  unfold State.tookReq at h
  try dsimp only at h
  (repeat' split at h) <;> subst h <;> simp

@[simp] theorem State.stopMotion_frame (s : State) (tag : Nat) (f : Flight) :
    (State.stopMotion s tag f).pwr = s.pwr ∧
    (State.stopMotion s tag f).lmp = s.lmp ∧
    (State.stopMotion s tag f).dir = s.dir ∧
    (State.stopMotion s tag f).grp = s.grp ∧
    (State.stopMotion s tag f).gys = s.gys ∧
    (State.stopMotion s tag f).hst = s.hst ∧
    (State.stopMotion s tag f).cle = s.cle ∧
    (State.stopMotion s tag f).dr0 = s.dr0 ∧
    (State.stopMotion s tag f).dr1 = s.dr1 ∧
    (State.stopMotion s tag f).saf = s.saf ∧
    (State.stopMotion s tag f).fio = s.fio ∧
    (State.stopMotion s tag f).can0 = s.can0 ∧
    (State.stopMotion s tag f).can1 = s.can1 ∧
    (State.stopMotion s tag f).rng = s.rng ∧
    (State.stopMotion s tag f).dsp = s.dsp ∧
    (State.stopMotion s tag f).shf = s.shf ∧
    (State.stopMotion s tag f).tph = s.tph ∧
    (State.stopMotion s tag f).rtc = s.rtc ∧
    (State.stopMotion s tag f).sec = s.sec ∧
    (State.stopMotion s tag f).pending = s.pending := by
  generalize h : State.stopMotion s tag f = t
  unfold State.stopMotion at h
  try dsimp only at h
  (repeat' split at h) <;> subst h <;> simp

@[simp] theorem State.applyLimits_frame (s : State) :
    (State.applyLimits s).pwr = s.pwr ∧
    (State.applyLimits s).lmp = s.lmp ∧
    (State.applyLimits s).host = s.host ∧
    (State.applyLimits s).grp = s.grp ∧
    (State.applyLimits s).gys = s.gys ∧
    (State.applyLimits s).cle = s.cle ∧
    (State.applyLimits s).dr0 = s.dr0 ∧
    (State.applyLimits s).dr1 = s.dr1 ∧
    (State.applyLimits s).saf = s.saf ∧
    (State.applyLimits s).fio = s.fio ∧
    (State.applyLimits s).can0 = s.can0 ∧
    (State.applyLimits s).can1 = s.can1 ∧
    (State.applyLimits s).rng = s.rng ∧
    (State.applyLimits s).dsp = s.dsp ∧
    (State.applyLimits s).shf = s.shf ∧
    (State.applyLimits s).rtc = s.rtc ∧
    (State.applyLimits s).pending = s.pending := by
  generalize h : State.applyLimits s = t
  unfold State.applyLimits at h
  try dsimp only at h
  (repeat' split at h) <;> subst h <;> simp

@[simp] theorem State.setPlan_frame (s : State) (goal : Int) (kind : Goal) :
    (State.setPlan s goal kind).pwr = s.pwr ∧
    (State.setPlan s goal kind).lmp = s.lmp ∧
    (State.setPlan s goal kind).host = s.host ∧
    (State.setPlan s goal kind).grp = s.grp ∧
    (State.setPlan s goal kind).gys = s.gys ∧
    (State.setPlan s goal kind).cle = s.cle ∧
    (State.setPlan s goal kind).dr0 = s.dr0 ∧
    (State.setPlan s goal kind).dr1 = s.dr1 ∧
    (State.setPlan s goal kind).saf = s.saf ∧
    (State.setPlan s goal kind).fio = s.fio ∧
    (State.setPlan s goal kind).can0 = s.can0 ∧
    (State.setPlan s goal kind).can1 = s.can1 ∧
    (State.setPlan s goal kind).rng = s.rng ∧
    (State.setPlan s goal kind).dsp = s.dsp ∧
    (State.setPlan s goal kind).shf = s.shf ∧
    (State.setPlan s goal kind).tph = s.tph ∧
    (State.setPlan s goal kind).rtc = s.rtc ∧
    (State.setPlan s goal kind).pending = s.pending := by
  generalize h : State.setPlan s goal kind = t
  unfold State.setPlan at h
  try dsimp only at h
  (repeat' split at h) <;> subst h <;> simp

@[simp] theorem State.setStop_frame (s : State) (kind : Goal) :
    (State.setStop s kind).pwr = s.pwr ∧
    (State.setStop s kind).lmp = s.lmp ∧
    (State.setStop s kind).host = s.host ∧
    (State.setStop s kind).dir = s.dir ∧
    (State.setStop s kind).grp = s.grp ∧
    (State.setStop s kind).gys = s.gys ∧
    (State.setStop s kind).cle = s.cle ∧
    (State.setStop s kind).dr0 = s.dr0 ∧
    (State.setStop s kind).dr1 = s.dr1 ∧
    (State.setStop s kind).saf = s.saf ∧
    (State.setStop s kind).fio = s.fio ∧
    (State.setStop s kind).can0 = s.can0 ∧
    (State.setStop s kind).can1 = s.can1 ∧
    (State.setStop s kind).rng = s.rng ∧
    (State.setStop s kind).dsp = s.dsp ∧
    (State.setStop s kind).shf = s.shf ∧
    (State.setStop s kind).tph = s.tph ∧
    (State.setStop s kind).rtc = s.rtc ∧
    (State.setStop s kind).sec = s.sec ∧
    (State.setStop s kind).pending = s.pending := by
  generalize h : State.setStop s kind = t
  unfold State.setStop at h
  try dsimp only at h
  (repeat' split at h) <;> subst h <;> simp

@[simp] theorem State.landingStop_frame (s : State) (kind : Goal) :
    (State.landingStop s kind).pwr = s.pwr ∧
    (State.landingStop s kind).lmp = s.lmp ∧
    (State.landingStop s kind).host = s.host ∧
    (State.landingStop s kind).grp = s.grp ∧
    (State.landingStop s kind).gys = s.gys ∧
    (State.landingStop s kind).cle = s.cle ∧
    (State.landingStop s kind).dr0 = s.dr0 ∧
    (State.landingStop s kind).dr1 = s.dr1 ∧
    (State.landingStop s kind).saf = s.saf ∧
    (State.landingStop s kind).fio = s.fio ∧
    (State.landingStop s kind).can0 = s.can0 ∧
    (State.landingStop s kind).can1 = s.can1 ∧
    (State.landingStop s kind).rng = s.rng ∧
    (State.landingStop s kind).dsp = s.dsp ∧
    (State.landingStop s kind).shf = s.shf ∧
    (State.landingStop s kind).tph = s.tph ∧
    (State.landingStop s kind).rtc = s.rtc ∧
    (State.landingStop s kind).pending = s.pending := by
  generalize h : State.landingStop s kind = t
  unfold State.landingStop at h
  try dsimp only at h
  (repeat' split at h) <;> subst h <;> simp

@[simp] theorem State.reverse_frame (s : State) :
    (State.reverse s).pwr = s.pwr ∧
    (State.reverse s).lmp = s.lmp ∧
    (State.reverse s).host = s.host ∧
    (State.reverse s).grp = s.grp ∧
    (State.reverse s).gys = s.gys ∧
    (State.reverse s).cle = s.cle ∧
    (State.reverse s).dr0 = s.dr0 ∧
    (State.reverse s).dr1 = s.dr1 ∧
    (State.reverse s).saf = s.saf ∧
    (State.reverse s).fio = s.fio ∧
    (State.reverse s).can0 = s.can0 ∧
    (State.reverse s).can1 = s.can1 ∧
    (State.reverse s).rng = s.rng ∧
    (State.reverse s).dsp = s.dsp ∧
    (State.reverse s).shf = s.shf ∧
    (State.reverse s).rtc = s.rtc ∧
    (State.reverse s).pending = s.pending := by
  generalize h : State.reverse s = t
  unfold State.reverse at h
  try dsimp only at h
  (repeat' split at h) <;> subst h <;> simp

@[simp] theorem State.planTarget_frame (s : State) :
    (State.planTarget s).pwr = s.pwr ∧
    (State.planTarget s).lmp = s.lmp ∧
    (State.planTarget s).host = s.host ∧
    (State.planTarget s).grp = s.grp ∧
    (State.planTarget s).gys = s.gys ∧
    (State.planTarget s).cle = s.cle ∧
    (State.planTarget s).dr0 = s.dr0 ∧
    (State.planTarget s).dr1 = s.dr1 ∧
    (State.planTarget s).saf = s.saf ∧
    (State.planTarget s).fio = s.fio ∧
    (State.planTarget s).can0 = s.can0 ∧
    (State.planTarget s).can1 = s.can1 ∧
    (State.planTarget s).rng = s.rng ∧
    (State.planTarget s).dsp = s.dsp ∧
    (State.planTarget s).shf = s.shf ∧
    (State.planTarget s).rtc = s.rtc ∧
    (State.planTarget s).pending = s.pending := by
  generalize h : State.planTarget s = t
  unfold State.planTarget at h
  try dsimp only at h
  (repeat' split at h) <;> subst h <;> simp

@[simp] theorem State.answerTgt_frame (s : State) (t : Tgt) (res : List Byte) :
    (State.answerTgt s t res).pwr = s.pwr ∧
    (State.answerTgt s t res).lmp = s.lmp ∧
    (State.answerTgt s t res).dir = s.dir ∧
    (State.answerTgt s t res).grp = s.grp ∧
    (State.answerTgt s t res).hst = s.hst ∧
    (State.answerTgt s t res).cle = s.cle ∧
    (State.answerTgt s t res).dr0 = s.dr0 ∧
    (State.answerTgt s t res).dr1 = s.dr1 ∧
    (State.answerTgt s t res).saf = s.saf ∧
    (State.answerTgt s t res).fio = s.fio ∧
    (State.answerTgt s t res).can0 = s.can0 ∧
    (State.answerTgt s t res).can1 = s.can1 ∧
    (State.answerTgt s t res).rng = s.rng ∧
    (State.answerTgt s t res).dsp = s.dsp ∧
    (State.answerTgt s t res).shf = s.shf ∧
    (State.answerTgt s t res).tph = s.tph ∧
    (State.answerTgt s t res).rtc = s.rtc ∧
    (State.answerTgt s t res).sec = s.sec ∧
    (State.answerTgt s t res).pending = s.pending := by
  generalize h : State.answerTgt s t res = t
  unfold State.answerTgt at h
  try dsimp only at h
  (repeat' split at h) <;> subst h <;> simp

@[simp] theorem State.refuseTgt_frame (s : State) (t : Tgt) (st : Status) :
    (State.refuseTgt s t st).pwr = s.pwr ∧
    (State.refuseTgt s t st).lmp = s.lmp ∧
    (State.refuseTgt s t st).dir = s.dir ∧
    (State.refuseTgt s t st).grp = s.grp ∧
    (State.refuseTgt s t st).hst = s.hst ∧
    (State.refuseTgt s t st).cle = s.cle ∧
    (State.refuseTgt s t st).dr0 = s.dr0 ∧
    (State.refuseTgt s t st).dr1 = s.dr1 ∧
    (State.refuseTgt s t st).saf = s.saf ∧
    (State.refuseTgt s t st).fio = s.fio ∧
    (State.refuseTgt s t st).can0 = s.can0 ∧
    (State.refuseTgt s t st).can1 = s.can1 ∧
    (State.refuseTgt s t st).rng = s.rng ∧
    (State.refuseTgt s t st).dsp = s.dsp ∧
    (State.refuseTgt s t st).shf = s.shf ∧
    (State.refuseTgt s t st).tph = s.tph ∧
    (State.refuseTgt s t st).rtc = s.rtc ∧
    (State.refuseTgt s t st).sec = s.sec ∧
    (State.refuseTgt s t st).pending = s.pending := by
  generalize h : State.refuseTgt s t st = t
  unfold State.refuseTgt at h
  try dsimp only at h
  (repeat' split at h) <;> subst h <;> simp

@[simp] theorem State.beginStart_frame (s : State) (st : HSt) :
    (State.beginStart s st).pwr = s.pwr ∧
    (State.beginStart s st).lmp = s.lmp ∧
    (State.beginStart s st).host = s.host ∧
    (State.beginStart s st).dir = s.dir ∧
    (State.beginStart s st).grp = s.grp ∧
    (State.beginStart s st).gys = s.gys ∧
    (State.beginStart s st).cle = s.cle ∧
    (State.beginStart s st).dr0 = s.dr0 ∧
    (State.beginStart s st).dr1 = s.dr1 ∧
    (State.beginStart s st).saf = s.saf ∧
    (State.beginStart s st).fio = s.fio ∧
    (State.beginStart s st).can0 = s.can0 ∧
    (State.beginStart s st).can1 = s.can1 ∧
    (State.beginStart s st).rng = s.rng ∧
    (State.beginStart s st).dsp = s.dsp ∧
    (State.beginStart s st).shf = s.shf ∧
    (State.beginStart s st).tph = s.tph ∧
    (State.beginStart s st).rtc = s.rtc ∧
    (State.beginStart s st).sec = s.sec ∧
    (State.beginStart s st).pending = s.pending := by
  generalize h : State.beginStart s st = t
  unfold State.beginStart at h
  try dsimp only at h
  (repeat' split at h) <;> subst h <;> simp

@[simp] theorem State.supersede_frame (s : State) :
    (State.supersede s).pwr = s.pwr ∧
    (State.supersede s).lmp = s.lmp ∧
    (State.supersede s).host = s.host ∧
    (State.supersede s).grp = s.grp ∧
    (State.supersede s).gys = s.gys ∧
    (State.supersede s).hst = s.hst ∧
    (State.supersede s).cle = s.cle ∧
    (State.supersede s).dr0 = s.dr0 ∧
    (State.supersede s).dr1 = s.dr1 ∧
    (State.supersede s).saf = s.saf ∧
    (State.supersede s).fio = s.fio ∧
    (State.supersede s).can0 = s.can0 ∧
    (State.supersede s).can1 = s.can1 ∧
    (State.supersede s).rng = s.rng ∧
    (State.supersede s).dsp = s.dsp ∧
    (State.supersede s).shf = s.shf ∧
    (State.supersede s).rtc = s.rtc ∧
    (State.supersede s).pending = s.pending := by
  generalize h : State.supersede s = t
  unfold State.supersede at h
  try dsimp only at h
  (repeat' split at h) <;> subst h <;> simp

@[simp] theorem State.handFlags_frame (s : State) (t : Tgt) :
    (State.handFlags s t).pwr = s.pwr ∧
    (State.handFlags s t).lmp = s.lmp ∧
    (State.handFlags s t).host = s.host ∧
    (State.handFlags s t).dir = s.dir ∧
    (State.handFlags s t).grp = s.grp ∧
    (State.handFlags s t).gys = s.gys ∧
    (State.handFlags s t).hst = s.hst ∧
    (State.handFlags s t).cle = s.cle ∧
    (State.handFlags s t).saf = s.saf ∧
    (State.handFlags s t).fio = s.fio ∧
    (State.handFlags s t).can0 = s.can0 ∧
    (State.handFlags s t).can1 = s.can1 ∧
    (State.handFlags s t).rng = s.rng ∧
    (State.handFlags s t).dsp = s.dsp ∧
    (State.handFlags s t).shf = s.shf ∧
    (State.handFlags s t).tph = s.tph ∧
    (State.handFlags s t).rtc = s.rtc ∧
    (State.handFlags s t).sec = s.sec ∧
    (State.handFlags s t).pending = s.pending := by
  generalize h : State.handFlags s t = t
  unfold State.handFlags at h
  try dsimp only at h
  (repeat' split at h) <;> subst h <;> simp

@[simp] theorem State.report_pwr (s : State) (c : Nat) : (s.report c).1.pwr = s.pwr := by
  simp [State.report]

@[simp] theorem State.report_lmp (s : State) (c : Nat) : (s.report c).1.lmp = s.lmp := by
  simp [State.report]

@[simp] theorem State.report_host (s : State) (c : Nat) : (s.report c).1.host = s.host := by
  simp [State.report]

@[simp] theorem State.report_grp (s : State) (c : Nat) : (s.report c).1.grp = s.grp := by
  simp [State.report]

@[simp] theorem State.report_gys (s : State) (c : Nat) : (s.report c).1.gys = s.gys := by
  simp [State.report]

@[simp] theorem State.report_hst (s : State) (c : Nat) : (s.report c).1.hst = s.hst := by
  simp [State.report]

@[simp] theorem State.report_cle (s : State) (c : Nat) : (s.report c).1.cle = s.cle := by
  simp [State.report]

@[simp] theorem State.report_dr0 (s : State) (c : Nat) : (s.report c).1.dr0 = s.dr0 := by
  simp [State.report]

@[simp] theorem State.report_dr1 (s : State) (c : Nat) : (s.report c).1.dr1 = s.dr1 := by
  simp [State.report]

@[simp] theorem State.report_saf (s : State) (c : Nat) : (s.report c).1.saf = s.saf := by
  simp [State.report]

@[simp] theorem State.report_fio (s : State) (c : Nat) : (s.report c).1.fio = s.fio := by
  simp [State.report]

@[simp] theorem State.report_can0 (s : State) (c : Nat) : (s.report c).1.can0 = s.can0 := by
  simp [State.report]

@[simp] theorem State.report_can1 (s : State) (c : Nat) : (s.report c).1.can1 = s.can1 := by
  simp [State.report]

@[simp] theorem State.report_rng (s : State) (c : Nat) : (s.report c).1.rng = s.rng := by
  simp [State.report]

@[simp] theorem State.report_dsp (s : State) (c : Nat) : (s.report c).1.dsp = s.dsp := by
  simp [State.report]

@[simp] theorem State.report_shf (s : State) (c : Nat) : (s.report c).1.shf = s.shf := by
  simp [State.report]

@[simp] theorem State.report_tph (s : State) (c : Nat) : (s.report c).1.tph = s.tph := by
  simp [State.report]

@[simp] theorem State.report_rtc (s : State) (c : Nat) : (s.report c).1.rtc = s.rtc := by
  simp [State.report]

@[simp] theorem State.report_pending (s : State) (c : Nat) : (s.report c).1.pending = s.pending := by
  simp [State.report]


@[simp] theorem State.takeTarget_frame (s : State) (t : Tgt) :
    (State.takeTarget s t).pwr = s.pwr ∧
    (State.takeTarget s t).lmp = s.lmp ∧
    (State.takeTarget s t).cle = s.cle ∧
    (State.takeTarget s t).saf = s.saf ∧
    (State.takeTarget s t).fio = s.fio ∧
    (State.takeTarget s t).can0 = s.can0 ∧
    (State.takeTarget s t).can1 = s.can1 ∧
    (State.takeTarget s t).rng = s.rng ∧
    (State.takeTarget s t).dsp = s.dsp ∧
    (State.takeTarget s t).rtc = s.rtc ∧
    (State.takeTarget s t).pending = s.pending := by
  generalize h : State.takeTarget s t = t
  unfold State.takeTarget at h
  try dsimp only at h
  (repeat' split at h) <;> subst h <;> simp

@[simp] theorem State.takeTargets_pwr (s : State) : (State.takeTargets s).pwr = s.pwr := by
  unfold State.takeTargets; (repeat' split) <;> first | (simp; done) | ((try dsimp only); rw [foldl_pwr] <;> (try intro s x) <;> (repeat' split) <;> simp; done)

@[simp] theorem State.takeTargets_lmp (s : State) : (State.takeTargets s).lmp = s.lmp := by
  unfold State.takeTargets; (repeat' split) <;> first | (simp; done) | ((try dsimp only); rw [foldl_lmp] <;> (try intro s x) <;> (repeat' split) <;> simp; done)

@[simp] theorem State.takeTargets_cle (s : State) : (State.takeTargets s).cle = s.cle := by
  unfold State.takeTargets; (repeat' split) <;> first | (simp; done) | ((try dsimp only); rw [foldl_cle] <;> (try intro s x) <;> (repeat' split) <;> simp; done)

@[simp] theorem State.takeTargets_saf (s : State) : (State.takeTargets s).saf = s.saf := by
  unfold State.takeTargets; (repeat' split) <;> first | (simp; done) | ((try dsimp only); rw [foldl_saf] <;> (try intro s x) <;> (repeat' split) <;> simp; done)

@[simp] theorem State.takeTargets_fio (s : State) : (State.takeTargets s).fio = s.fio := by
  unfold State.takeTargets; (repeat' split) <;> first | (simp; done) | ((try dsimp only); rw [foldl_fio] <;> (try intro s x) <;> (repeat' split) <;> simp; done)

@[simp] theorem State.takeTargets_can0 (s : State) : (State.takeTargets s).can0 = s.can0 := by
  unfold State.takeTargets; (repeat' split) <;> first | (simp; done) | ((try dsimp only); rw [foldl_can0] <;> (try intro s x) <;> (repeat' split) <;> simp; done)

@[simp] theorem State.takeTargets_can1 (s : State) : (State.takeTargets s).can1 = s.can1 := by
  unfold State.takeTargets; (repeat' split) <;> first | (simp; done) | ((try dsimp only); rw [foldl_can1] <;> (try intro s x) <;> (repeat' split) <;> simp; done)

@[simp] theorem State.takeTargets_rng (s : State) : (State.takeTargets s).rng = s.rng := by
  unfold State.takeTargets; (repeat' split) <;> first | (simp; done) | ((try dsimp only); rw [foldl_rng] <;> (try intro s x) <;> (repeat' split) <;> simp; done)

@[simp] theorem State.takeTargets_dsp (s : State) : (State.takeTargets s).dsp = s.dsp := by
  unfold State.takeTargets; (repeat' split) <;> first | (simp; done) | ((try dsimp only); rw [foldl_dsp] <;> (try intro s x) <;> (repeat' split) <;> simp; done)

@[simp] theorem State.takeTargets_rtc (s : State) : (State.takeTargets s).rtc = s.rtc := by
  unfold State.takeTargets; (repeat' split) <;> first | (simp; done) | ((try dsimp only); rw [foldl_rtc] <;> (try intro s x) <;> (repeat' split) <;> simp; done)

@[simp] theorem State.takeTargets_pending (s : State) : (State.takeTargets s).pending = s.pending := by
  unfold State.takeTargets; (repeat' split) <;> first | (simp; done) | ((try dsimp only); rw [foldl_pending] <;> (try intro s x) <;> (repeat' split) <;> simp; done)

@[simp] theorem State.refuseStart_frame (s : State) :
    (State.refuseStart s).pwr = s.pwr ∧
    (State.refuseStart s).lmp = s.lmp ∧
    (State.refuseStart s).host = s.host ∧
    (State.refuseStart s).grp = s.grp ∧
    (State.refuseStart s).gys = s.gys ∧
    (State.refuseStart s).dr0 = s.dr0 ∧
    (State.refuseStart s).dr1 = s.dr1 ∧
    (State.refuseStart s).fio = s.fio ∧
    (State.refuseStart s).can0 = s.can0 ∧
    (State.refuseStart s).can1 = s.can1 ∧
    (State.refuseStart s).rng = s.rng ∧
    (State.refuseStart s).dsp = s.dsp ∧
    (State.refuseStart s).shf = s.shf ∧
    (State.refuseStart s).rtc = s.rtc ∧
    (State.refuseStart s).pending = s.pending := by
  generalize h : State.refuseStart s = t
  unfold State.refuseStart at h
  try dsimp only at h
  (repeat' split at h) <;> subst h <;> simp

@[simp] theorem State.standCauses_frame (s : State) :
    (State.standCauses s).pwr = s.pwr ∧
    (State.standCauses s).lmp = s.lmp ∧
    (State.standCauses s).host = s.host ∧
    (State.standCauses s).dir = s.dir ∧
    (State.standCauses s).grp = s.grp ∧
    (State.standCauses s).gys = s.gys ∧
    (State.standCauses s).dr0 = s.dr0 ∧
    (State.standCauses s).dr1 = s.dr1 ∧
    (State.standCauses s).fio = s.fio ∧
    (State.standCauses s).can0 = s.can0 ∧
    (State.standCauses s).can1 = s.can1 ∧
    (State.standCauses s).rng = s.rng ∧
    (State.standCauses s).dsp = s.dsp ∧
    (State.standCauses s).shf = s.shf ∧
    (State.standCauses s).tph = s.tph ∧
    (State.standCauses s).rtc = s.rtc ∧
    (State.standCauses s).sec = s.sec ∧
    (State.standCauses s).pending = s.pending := by
  generalize h : State.standCauses s = t
  unfold State.standCauses at h
  try dsimp only at h
  (repeat' split at h) <;> subst h <;> simp

@[simp] theorem State.actCauses_frame (s : State) :
    (State.actCauses s).pwr = s.pwr ∧
    (State.actCauses s).lmp = s.lmp ∧
    (State.actCauses s).host = s.host ∧
    (State.actCauses s).grp = s.grp ∧
    (State.actCauses s).gys = s.gys ∧
    (State.actCauses s).dr0 = s.dr0 ∧
    (State.actCauses s).dr1 = s.dr1 ∧
    (State.actCauses s).fio = s.fio ∧
    (State.actCauses s).can0 = s.can0 ∧
    (State.actCauses s).can1 = s.can1 ∧
    (State.actCauses s).rng = s.rng ∧
    (State.actCauses s).dsp = s.dsp ∧
    (State.actCauses s).shf = s.shf ∧
    (State.actCauses s).rtc = s.rtc ∧
    (State.actCauses s).pending = s.pending := by
  generalize h : State.actCauses s = t
  unfold State.actCauses at h
  try dsimp only at h
  (repeat' split at h) <;> subst h <;> simp

@[simp] theorem State.actStop_frame (s : State) (atLanding : Bool) :
    (State.actStop s atLanding).pwr = s.pwr ∧
    (State.actStop s atLanding).lmp = s.lmp ∧
    (State.actStop s atLanding).host = s.host ∧
    (State.actStop s atLanding).grp = s.grp ∧
    (State.actStop s atLanding).gys = s.gys ∧
    (State.actStop s atLanding).fio = s.fio ∧
    (State.actStop s atLanding).can0 = s.can0 ∧
    (State.actStop s atLanding).can1 = s.can1 ∧
    (State.actStop s atLanding).rng = s.rng ∧
    (State.actStop s atLanding).dsp = s.dsp ∧
    (State.actStop s atLanding).shf = s.shf ∧
    (State.actStop s atLanding).rtc = s.rtc ∧
    (State.actStop s atLanding).pending = s.pending := by
  generalize h : State.actStop s atLanding = t
  unfold State.actStop at h
  try dsimp only at h
  (repeat' split at h) <;> subst h <;> simp

@[simp] theorem State.stopTurn_frame (s : State) (f : Flight) :
    (State.stopTurn s f).pwr = s.pwr ∧
    (State.stopTurn s f).lmp = s.lmp ∧
    (State.stopTurn s f).fio = s.fio ∧
    (State.stopTurn s f).can0 = s.can0 ∧
    (State.stopTurn s f).can1 = s.can1 ∧
    (State.stopTurn s f).rng = s.rng ∧
    (State.stopTurn s f).dsp = s.dsp ∧
    (State.stopTurn s f).rtc = s.rtc ∧
    (State.stopTurn s f).pending = s.pending := by
  generalize h : State.stopTurn s f = t
  unfold State.stopTurn at h
  try dsimp only at h
  (repeat' split at h) <;> subst h <;> simp

@[simp] theorem State.takeMotion_frame (s : State) :
    (State.takeMotion s).pwr = s.pwr ∧
    (State.takeMotion s).lmp = s.lmp ∧
    (State.takeMotion s).fio = s.fio ∧
    (State.takeMotion s).can0 = s.can0 ∧
    (State.takeMotion s).can1 = s.can1 ∧
    (State.takeMotion s).rng = s.rng ∧
    (State.takeMotion s).dsp = s.dsp ∧
    (State.takeMotion s).rtc = s.rtc ∧
    (State.takeMotion s).pending = s.pending := by
  generalize h : State.takeMotion s = t
  unfold State.takeMotion at h
  try dsimp only at h
  (repeat' split at h) <;> subst h <;> simp

@[simp] theorem State.atRest_frame (s : State) :
    (State.atRest s).pwr = s.pwr ∧
    (State.atRest s).lmp = s.lmp ∧
    (State.atRest s).host = s.host ∧
    (State.atRest s).grp = s.grp ∧
    (State.atRest s).gys = s.gys ∧
    (State.atRest s).cle = s.cle ∧
    (State.atRest s).saf = s.saf ∧
    (State.atRest s).fio = s.fio ∧
    (State.atRest s).can0 = s.can0 ∧
    (State.atRest s).can1 = s.can1 ∧
    (State.atRest s).rng = s.rng ∧
    (State.atRest s).dsp = s.dsp ∧
    (State.atRest s).shf = s.shf ∧
    (State.atRest s).rtc = s.rtc ∧
    (State.atRest s).pending = s.pending := by
  generalize h : State.atRest s = t
  unfold State.atRest at h
  try dsimp only at h
  (repeat' split at h) <;> subst h <;> simp

@[simp] theorem State.dwellTick_frame (s : State) :
    (State.dwellTick s).pwr = s.pwr ∧
    (State.dwellTick s).lmp = s.lmp ∧
    (State.dwellTick s).host = s.host ∧
    (State.dwellTick s).dir = s.dir ∧
    (State.dwellTick s).grp = s.grp ∧
    (State.dwellTick s).gys = s.gys ∧
    (State.dwellTick s).dr0 = s.dr0 ∧
    (State.dwellTick s).dr1 = s.dr1 ∧
    (State.dwellTick s).fio = s.fio ∧
    (State.dwellTick s).can0 = s.can0 ∧
    (State.dwellTick s).can1 = s.can1 ∧
    (State.dwellTick s).rng = s.rng ∧
    (State.dwellTick s).dsp = s.dsp ∧
    (State.dwellTick s).shf = s.shf ∧
    (State.dwellTick s).tph = s.tph ∧
    (State.dwellTick s).rtc = s.rtc ∧
    (State.dwellTick s).sec = s.sec ∧
    (State.dwellTick s).pending = s.pending := by
  generalize h : State.dwellTick s = t
  unfold State.dwellTick at h
  try dsimp only at h
  (repeat' split at h) <;> subst h <;> simp

@[simp] theorem State.advanceRef_frame (s : State) :
    (State.advanceRef s).pwr = s.pwr ∧
    (State.advanceRef s).lmp = s.lmp ∧
    (State.advanceRef s).host = s.host ∧
    (State.advanceRef s).dir = s.dir ∧
    (State.advanceRef s).grp = s.grp ∧
    (State.advanceRef s).gys = s.gys ∧
    (State.advanceRef s).cle = s.cle ∧
    (State.advanceRef s).dr0 = s.dr0 ∧
    (State.advanceRef s).dr1 = s.dr1 ∧
    (State.advanceRef s).saf = s.saf ∧
    (State.advanceRef s).fio = s.fio ∧
    (State.advanceRef s).can0 = s.can0 ∧
    (State.advanceRef s).can1 = s.can1 ∧
    (State.advanceRef s).rng = s.rng ∧
    (State.advanceRef s).dsp = s.dsp ∧
    (State.advanceRef s).shf = s.shf ∧
    (State.advanceRef s).tph = s.tph ∧
    (State.advanceRef s).rtc = s.rtc ∧
    (State.advanceRef s).sec = s.sec ∧
    (State.advanceRef s).pending = s.pending := by
  generalize h : State.advanceRef s = t
  unfold State.advanceRef at h
  try dsimp only at h
  (repeat' split at h) <;> subst h <;> simp

@[simp] theorem State.startSequence_frame (s : State) :
    (State.startSequence s).pwr = s.pwr ∧
    (State.startSequence s).lmp = s.lmp ∧
    (State.startSequence s).host = s.host ∧
    (State.startSequence s).grp = s.grp ∧
    (State.startSequence s).gys = s.gys ∧
    (State.startSequence s).dr0 = s.dr0 ∧
    (State.startSequence s).dr1 = s.dr1 ∧
    (State.startSequence s).fio = s.fio ∧
    (State.startSequence s).can0 = s.can0 ∧
    (State.startSequence s).can1 = s.can1 ∧
    (State.startSequence s).rng = s.rng ∧
    (State.startSequence s).dsp = s.dsp ∧
    (State.startSequence s).shf = s.shf ∧
    (State.startSequence s).rtc = s.rtc ∧
    (State.startSequence s).pending = s.pending := by
  generalize h : State.startSequence s = t
  unfold State.startSequence at h
  try dsimp only at h
  (repeat' split at h) <;> subst h <;> simp

@[simp] theorem State.afterStop_frame (s : State) :
    (State.afterStop s).pwr = s.pwr ∧
    (State.afterStop s).lmp = s.lmp ∧
    (State.afterStop s).host = s.host ∧
    (State.afterStop s).grp = s.grp ∧
    (State.afterStop s).gys = s.gys ∧
    (State.afterStop s).cle = s.cle ∧
    (State.afterStop s).dr0 = s.dr0 ∧
    (State.afterStop s).dr1 = s.dr1 ∧
    (State.afterStop s).fio = s.fio ∧
    (State.afterStop s).can0 = s.can0 ∧
    (State.afterStop s).can1 = s.can1 ∧
    (State.afterStop s).rng = s.rng ∧
    (State.afterStop s).dsp = s.dsp ∧
    (State.afterStop s).shf = s.shf ∧
    (State.afterStop s).rtc = s.rtc ∧
    (State.afterStop s).pending = s.pending := by
  generalize h : State.afterStop s = t
  unfold State.afterStop at h
  try dsimp only at h
  (repeat' split at h) <;> subst h <;> simp

@[simp] theorem State.settle_frame (s : State) :
    (State.settle s).pwr = s.pwr ∧
    (State.settle s).lmp = s.lmp ∧
    (State.settle s).host = s.host ∧
    (State.settle s).grp = s.grp ∧
    (State.settle s).gys = s.gys ∧
    (State.settle s).cle = s.cle ∧
    (State.settle s).dr0 = s.dr0 ∧
    (State.settle s).dr1 = s.dr1 ∧
    (State.settle s).saf = s.saf ∧
    (State.settle s).fio = s.fio ∧
    (State.settle s).can0 = s.can0 ∧
    (State.settle s).can1 = s.can1 ∧
    (State.settle s).rng = s.rng ∧
    (State.settle s).dsp = s.dsp ∧
    (State.settle s).shf = s.shf ∧
    (State.settle s).rtc = s.rtc ∧
    (State.settle s).pending = s.pending := by
  generalize h : State.settle s = t
  unfold State.settle at h
  try dsimp only at h
  (repeat' split at h) <;> subst h <;> simp

@[simp] theorem State.learnMove_frame (s : State) (up : Bool) :
    (State.learnMove s up).pwr = s.pwr ∧
    (State.learnMove s up).lmp = s.lmp ∧
    (State.learnMove s up).host = s.host ∧
    (State.learnMove s up).grp = s.grp ∧
    (State.learnMove s up).gys = s.gys ∧
    (State.learnMove s up).cle = s.cle ∧
    (State.learnMove s up).dr0 = s.dr0 ∧
    (State.learnMove s up).dr1 = s.dr1 ∧
    (State.learnMove s up).saf = s.saf ∧
    (State.learnMove s up).fio = s.fio ∧
    (State.learnMove s up).can0 = s.can0 ∧
    (State.learnMove s up).can1 = s.can1 ∧
    (State.learnMove s up).rng = s.rng ∧
    (State.learnMove s up).dsp = s.dsp ∧
    (State.learnMove s up).shf = s.shf ∧
    (State.learnMove s up).rtc = s.rtc ∧
    (State.learnMove s up).pending = s.pending := by
  generalize h : State.learnMove s up = t
  unfold State.learnMove at h
  try dsimp only at h
  (repeat' split at h) <;> subst h <;> simp

@[simp] theorem State.takeLearn_frame (s : State) :
    (State.takeLearn s).pwr = s.pwr ∧
    (State.takeLearn s).lmp = s.lmp ∧
    (State.takeLearn s).grp = s.grp ∧
    (State.takeLearn s).gys = s.gys ∧
    (State.takeLearn s).cle = s.cle ∧
    (State.takeLearn s).dr0 = s.dr0 ∧
    (State.takeLearn s).dr1 = s.dr1 ∧
    (State.takeLearn s).saf = s.saf ∧
    (State.takeLearn s).fio = s.fio ∧
    (State.takeLearn s).can0 = s.can0 ∧
    (State.takeLearn s).can1 = s.can1 ∧
    (State.takeLearn s).rng = s.rng ∧
    (State.takeLearn s).dsp = s.dsp ∧
    (State.takeLearn s).shf = s.shf ∧
    (State.takeLearn s).rtc = s.rtc ∧
    (State.takeLearn s).pending = s.pending := by
  generalize h : State.takeLearn s = t
  unfold State.takeLearn at h
  try dsimp only at h
  (repeat' split at h) <;> subst h <;> simp

@[simp] theorem State.learnDwell_frame (s : State) :
    (State.learnDwell s).pwr = s.pwr ∧
    (State.learnDwell s).lmp = s.lmp ∧
    (State.learnDwell s).host = s.host ∧
    (State.learnDwell s).grp = s.grp ∧
    (State.learnDwell s).gys = s.gys ∧
    (State.learnDwell s).cle = s.cle ∧
    (State.learnDwell s).dr0 = s.dr0 ∧
    (State.learnDwell s).dr1 = s.dr1 ∧
    (State.learnDwell s).saf = s.saf ∧
    (State.learnDwell s).fio = s.fio ∧
    (State.learnDwell s).can0 = s.can0 ∧
    (State.learnDwell s).can1 = s.can1 ∧
    (State.learnDwell s).rng = s.rng ∧
    (State.learnDwell s).dsp = s.dsp ∧
    (State.learnDwell s).shf = s.shf ∧
    (State.learnDwell s).rtc = s.rtc ∧
    (State.learnDwell s).pending = s.pending := by
  generalize h : State.learnDwell s = t
  unfold State.learnDwell at h
  try dsimp only at h
  (repeat' split at h) <;> subst h <;> simp

@[simp] theorem State.learnSum_frame (s : State) :
    (State.learnSum s).pwr = s.pwr ∧
    (State.learnSum s).lmp = s.lmp ∧
    (State.learnSum s).host = s.host ∧
    (State.learnSum s).dir = s.dir ∧
    (State.learnSum s).grp = s.grp ∧
    (State.learnSum s).gys = s.gys ∧
    (State.learnSum s).cle = s.cle ∧
    (State.learnSum s).dr0 = s.dr0 ∧
    (State.learnSum s).dr1 = s.dr1 ∧
    (State.learnSum s).saf = s.saf ∧
    (State.learnSum s).fio = s.fio ∧
    (State.learnSum s).can0 = s.can0 ∧
    (State.learnSum s).can1 = s.can1 ∧
    (State.learnSum s).rng = s.rng ∧
    (State.learnSum s).dsp = s.dsp ∧
    (State.learnSum s).shf = s.shf ∧
    (State.learnSum s).tph = s.tph ∧
    (State.learnSum s).rtc = s.rtc ∧
    (State.learnSum s).sec = s.sec ∧
    (State.learnSum s).pending = s.pending := by
  generalize h : State.learnSum s = t
  unfold State.learnSum at h
  try dsimp only at h
  (repeat' split at h) <;> subst h <;> simp

@[simp] theorem State.relevelTick_frame (s : State) :
    (State.relevelTick s).pwr = s.pwr ∧
    (State.relevelTick s).lmp = s.lmp ∧
    (State.relevelTick s).host = s.host ∧
    (State.relevelTick s).grp = s.grp ∧
    (State.relevelTick s).gys = s.gys ∧
    (State.relevelTick s).cle = s.cle ∧
    (State.relevelTick s).dr0 = s.dr0 ∧
    (State.relevelTick s).dr1 = s.dr1 ∧
    (State.relevelTick s).fio = s.fio ∧
    (State.relevelTick s).can0 = s.can0 ∧
    (State.relevelTick s).can1 = s.can1 ∧
    (State.relevelTick s).rng = s.rng ∧
    (State.relevelTick s).dsp = s.dsp ∧
    (State.relevelTick s).shf = s.shf ∧
    (State.relevelTick s).tph = s.tph ∧
    (State.relevelTick s).rtc = s.rtc ∧
    (State.relevelTick s).pending = s.pending := by
  generalize h : State.relevelTick s = t
  unfold State.relevelTick at h
  try dsimp only at h
  (repeat' split at h) <;> subst h <;> simp

@[simp] theorem State.checkTracking_frame (s : State) :
    (State.checkTracking s).pwr = s.pwr ∧
    (State.checkTracking s).lmp = s.lmp ∧
    (State.checkTracking s).host = s.host ∧
    (State.checkTracking s).grp = s.grp ∧
    (State.checkTracking s).gys = s.gys ∧
    (State.checkTracking s).cle = s.cle ∧
    (State.checkTracking s).dr0 = s.dr0 ∧
    (State.checkTracking s).dr1 = s.dr1 ∧
    (State.checkTracking s).saf = s.saf ∧
    (State.checkTracking s).fio = s.fio ∧
    (State.checkTracking s).can0 = s.can0 ∧
    (State.checkTracking s).can1 = s.can1 ∧
    (State.checkTracking s).rng = s.rng ∧
    (State.checkTracking s).dsp = s.dsp ∧
    (State.checkTracking s).shf = s.shf ∧
    (State.checkTracking s).rtc = s.rtc ∧
    (State.checkTracking s).pending = s.pending := by
  generalize h : State.checkTracking s = t
  unfold State.checkTracking at h
  try dsimp only at h
  (repeat' split at h) <;> subst h <;> simp

@[simp] theorem State.checkTier2_frame (s : State) :
    (State.checkTier2 s).pwr = s.pwr ∧
    (State.checkTier2 s).lmp = s.lmp ∧
    (State.checkTier2 s).host = s.host ∧
    (State.checkTier2 s).grp = s.grp ∧
    (State.checkTier2 s).gys = s.gys ∧
    (State.checkTier2 s).cle = s.cle ∧
    (State.checkTier2 s).dr0 = s.dr0 ∧
    (State.checkTier2 s).dr1 = s.dr1 ∧
    (State.checkTier2 s).saf = s.saf ∧
    (State.checkTier2 s).fio = s.fio ∧
    (State.checkTier2 s).can0 = s.can0 ∧
    (State.checkTier2 s).can1 = s.can1 ∧
    (State.checkTier2 s).rng = s.rng ∧
    (State.checkTier2 s).dsp = s.dsp ∧
    (State.checkTier2 s).rtc = s.rtc ∧
    (State.checkTier2 s).pending = s.pending := by
  generalize h : State.checkTier2 s = t
  unfold State.checkTier2 at h
  try dsimp only at h
  (repeat' split at h) <;> subst h <;> simp

@[simp] theorem State.boundsTick_pwr (s : State) : (State.boundsTick s).pwr = s.pwr := by
  unfold State.boundsTick; (repeat' split) <;> first | (simp; done) | ((try dsimp only); rw [foldl_pwr] <;> (try intro s x) <;> (repeat' split) <;> simp; done)

@[simp] theorem State.boundsTick_lmp (s : State) : (State.boundsTick s).lmp = s.lmp := by
  unfold State.boundsTick; (repeat' split) <;> first | (simp; done) | ((try dsimp only); rw [foldl_lmp] <;> (try intro s x) <;> (repeat' split) <;> simp; done)

@[simp] theorem State.boundsTick_host (s : State) : (State.boundsTick s).host = s.host := by
  unfold State.boundsTick; (repeat' split) <;> first | (simp; done) | ((try dsimp only); rw [foldl_host] <;> (try intro s x) <;> (repeat' split) <;> simp; done)

@[simp] theorem State.boundsTick_grp (s : State) : (State.boundsTick s).grp = s.grp := by
  unfold State.boundsTick; (repeat' split) <;> first | (simp; done) | ((try dsimp only); rw [foldl_grp] <;> (try intro s x) <;> (repeat' split) <;> simp; done)

@[simp] theorem State.boundsTick_gys (s : State) : (State.boundsTick s).gys = s.gys := by
  unfold State.boundsTick; (repeat' split) <;> first | (simp; done) | ((try dsimp only); rw [foldl_gys] <;> (try intro s x) <;> (repeat' split) <;> simp; done)

@[simp] theorem State.boundsTick_hst (s : State) : (State.boundsTick s).hst = s.hst := by
  unfold State.boundsTick; (repeat' split) <;> first | (simp; done) | ((try dsimp only); rw [foldl_hst] <;> (try intro s x) <;> (repeat' split) <;> simp; done)

@[simp] theorem State.boundsTick_cle (s : State) : (State.boundsTick s).cle = s.cle := by
  unfold State.boundsTick; (repeat' split) <;> first | (simp; done) | ((try dsimp only); rw [foldl_cle] <;> (try intro s x) <;> (repeat' split) <;> simp; done)

@[simp] theorem State.boundsTick_dr0 (s : State) : (State.boundsTick s).dr0 = s.dr0 := by
  unfold State.boundsTick; (repeat' split) <;> first | (simp; done) | ((try dsimp only); rw [foldl_dr0] <;> (try intro s x) <;> (repeat' split) <;> simp; done)

@[simp] theorem State.boundsTick_dr1 (s : State) : (State.boundsTick s).dr1 = s.dr1 := by
  unfold State.boundsTick; (repeat' split) <;> first | (simp; done) | ((try dsimp only); rw [foldl_dr1] <;> (try intro s x) <;> (repeat' split) <;> simp; done)

@[simp] theorem State.boundsTick_saf (s : State) : (State.boundsTick s).saf = s.saf := by
  unfold State.boundsTick; (repeat' split) <;> first | (simp; done) | ((try dsimp only); rw [foldl_saf] <;> (try intro s x) <;> (repeat' split) <;> simp; done)

@[simp] theorem State.boundsTick_fio (s : State) : (State.boundsTick s).fio = s.fio := by
  unfold State.boundsTick; (repeat' split) <;> first | (simp; done) | ((try dsimp only); rw [foldl_fio] <;> (try intro s x) <;> (repeat' split) <;> simp; done)

@[simp] theorem State.boundsTick_can0 (s : State) : (State.boundsTick s).can0 = s.can0 := by
  unfold State.boundsTick; (repeat' split) <;> first | (simp; done) | ((try dsimp only); rw [foldl_can0] <;> (try intro s x) <;> (repeat' split) <;> simp; done)

@[simp] theorem State.boundsTick_can1 (s : State) : (State.boundsTick s).can1 = s.can1 := by
  unfold State.boundsTick; (repeat' split) <;> first | (simp; done) | ((try dsimp only); rw [foldl_can1] <;> (try intro s x) <;> (repeat' split) <;> simp; done)

@[simp] theorem State.boundsTick_rng (s : State) : (State.boundsTick s).rng = s.rng := by
  unfold State.boundsTick; (repeat' split) <;> first | (simp; done) | ((try dsimp only); rw [foldl_rng] <;> (try intro s x) <;> (repeat' split) <;> simp; done)

@[simp] theorem State.boundsTick_dsp (s : State) : (State.boundsTick s).dsp = s.dsp := by
  unfold State.boundsTick; (repeat' split) <;> first | (simp; done) | ((try dsimp only); rw [foldl_dsp] <;> (try intro s x) <;> (repeat' split) <;> simp; done)

@[simp] theorem State.boundsTick_rtc (s : State) : (State.boundsTick s).rtc = s.rtc := by
  unfold State.boundsTick; (repeat' split) <;> first | (simp; done) | ((try dsimp only); rw [foldl_rtc] <;> (try intro s x) <;> (repeat' split) <;> simp; done)

@[simp] theorem State.boundsTick_pending (s : State) : (State.boundsTick s).pending = s.pending := by
  unfold State.boundsTick; (repeat' split) <;> first | (simp; done) | ((try dsimp only); rw [foldl_pending] <;> (try intro s x) <;> (repeat' split) <;> simp; done)

@[simp] theorem State.extendZone_frame (s : State) :
    (State.extendZone s).pwr = s.pwr ∧
    (State.extendZone s).lmp = s.lmp ∧
    (State.extendZone s).cle = s.cle ∧
    (State.extendZone s).saf = s.saf ∧
    (State.extendZone s).fio = s.fio ∧
    (State.extendZone s).can0 = s.can0 ∧
    (State.extendZone s).can1 = s.can1 ∧
    (State.extendZone s).rng = s.rng ∧
    (State.extendZone s).dsp = s.dsp ∧
    (State.extendZone s).rtc = s.rtc ∧
    (State.extendZone s).pending = s.pending := by
  generalize h : State.extendZone s = t
  unfold State.extendZone at h
  try dsimp only at h
  (repeat' split at h) <;> subst h <;> simp

@[simp] theorem State.replan_frame (s : State) (v a j : Nat) :
    (State.replan s v a j).pwr = s.pwr ∧
    (State.replan s v a j).lmp = s.lmp ∧
    (State.replan s v a j).host = s.host ∧
    (State.replan s v a j).grp = s.grp ∧
    (State.replan s v a j).gys = s.gys ∧
    (State.replan s v a j).cle = s.cle ∧
    (State.replan s v a j).dr0 = s.dr0 ∧
    (State.replan s v a j).dr1 = s.dr1 ∧
    (State.replan s v a j).saf = s.saf ∧
    (State.replan s v a j).fio = s.fio ∧
    (State.replan s v a j).can0 = s.can0 ∧
    (State.replan s v a j).can1 = s.can1 ∧
    (State.replan s v a j).rng = s.rng ∧
    (State.replan s v a j).dsp = s.dsp ∧
    (State.replan s v a j).shf = s.shf ∧
    (State.replan s v a j).rtc = s.rtc ∧
    (State.replan s v a j).pending = s.pending := by
  generalize h : State.replan s v a j = t
  unfold State.replan at h
  try dsimp only at h
  (repeat' split at h) <;> subst h <;> simp

@[simp] theorem State.hstInputs_frame (s : State) :
    (State.hstInputs s).pwr = s.pwr ∧
    (State.hstInputs s).lmp = s.lmp ∧
    (State.hstInputs s).host = s.host ∧
    (State.hstInputs s).dir = s.dir ∧
    (State.hstInputs s).grp = s.grp ∧
    (State.hstInputs s).gys = s.gys ∧
    (State.hstInputs s).hst = s.hst ∧
    (State.hstInputs s).dr0 = s.dr0 ∧
    (State.hstInputs s).dr1 = s.dr1 ∧
    (State.hstInputs s).saf = s.saf ∧
    (State.hstInputs s).fio = s.fio ∧
    (State.hstInputs s).can0 = s.can0 ∧
    (State.hstInputs s).can1 = s.can1 ∧
    (State.hstInputs s).rng = s.rng ∧
    (State.hstInputs s).dsp = s.dsp ∧
    (State.hstInputs s).shf = s.shf ∧
    (State.hstInputs s).tph = s.tph ∧
    (State.hstInputs s).rtc = s.rtc ∧
    (State.hstInputs s).sec = s.sec ∧
    (State.hstInputs s).pending = s.pending := by
  generalize h : State.hstInputs s = t
  unfold State.hstInputs at h
  try dsimp only at h
  (repeat' split at h) <;> subst h <;> simp

@[simp] theorem State.tblWrite_frame (s : State) (tid off : Nat) (bs : List Byte) :
    (State.tblWrite s tid off bs).pwr = s.pwr ∧
    (State.tblWrite s tid off bs).lmp = s.lmp ∧
    (State.tblWrite s tid off bs).host = s.host ∧
    (State.tblWrite s tid off bs).grp = s.grp ∧
    (State.tblWrite s tid off bs).gys = s.gys ∧
    (State.tblWrite s tid off bs).hst = s.hst ∧
    (State.tblWrite s tid off bs).cle = s.cle ∧
    (State.tblWrite s tid off bs).dr0 = s.dr0 ∧
    (State.tblWrite s tid off bs).dr1 = s.dr1 ∧
    (State.tblWrite s tid off bs).saf = s.saf ∧
    (State.tblWrite s tid off bs).fio = s.fio ∧
    (State.tblWrite s tid off bs).can0 = s.can0 ∧
    (State.tblWrite s tid off bs).can1 = s.can1 ∧
    (State.tblWrite s tid off bs).rng = s.rng ∧
    (State.tblWrite s tid off bs).dsp = s.dsp ∧
    (State.tblWrite s tid off bs).shf = s.shf ∧
    (State.tblWrite s tid off bs).tph = s.tph ∧
    (State.tblWrite s tid off bs).rtc = s.rtc ∧
    (State.tblWrite s tid off bs).sec = s.sec ∧
    (State.tblWrite s tid off bs).pending = s.pending := by
  generalize h : State.tblWrite s tid off bs = t
  unfold State.tblWrite at h
  try dsimp only at h
  (repeat' split at h) <;> subst h <;> simp

@[simp] theorem State.tblChanged_frame (s : State) (tid : Nat) :
    (State.tblChanged s tid).pwr = s.pwr ∧
    (State.tblChanged s tid).lmp = s.lmp ∧
    (State.tblChanged s tid).host = s.host ∧
    (State.tblChanged s tid).grp = s.grp ∧
    (State.tblChanged s tid).gys = s.gys ∧
    (State.tblChanged s tid).hst = s.hst ∧
    (State.tblChanged s tid).cle = s.cle ∧
    (State.tblChanged s tid).dr0 = s.dr0 ∧
    (State.tblChanged s tid).dr1 = s.dr1 ∧
    (State.tblChanged s tid).saf = s.saf ∧
    (State.tblChanged s tid).fio = s.fio ∧
    (State.tblChanged s tid).can0 = s.can0 ∧
    (State.tblChanged s tid).can1 = s.can1 ∧
    (State.tblChanged s tid).rng = s.rng ∧
    (State.tblChanged s tid).dsp = s.dsp ∧
    (State.tblChanged s tid).shf = s.shf ∧
    (State.tblChanged s tid).tph = s.tph ∧
    (State.tblChanged s tid).rtc = s.rtc ∧
    (State.tblChanged s tid).sec = s.sec ∧
    (State.tblChanged s tid).pending = s.pending := by
  generalize h : State.tblChanged s tid = t
  unfold State.tblChanged at h
  try dsimp only at h
  (repeat' split at h) <;> subst h <;> simp

@[simp] theorem State.learnStretch_frame (s : State) (k : Nat) (e : Int) :
    (State.learnStretch s k e).pwr = s.pwr ∧
    (State.learnStretch s k e).lmp = s.lmp ∧
    (State.learnStretch s k e).host = s.host ∧
    (State.learnStretch s k e).grp = s.grp ∧
    (State.learnStretch s k e).gys = s.gys ∧
    (State.learnStretch s k e).hst = s.hst ∧
    (State.learnStretch s k e).cle = s.cle ∧
    (State.learnStretch s k e).dr0 = s.dr0 ∧
    (State.learnStretch s k e).dr1 = s.dr1 ∧
    (State.learnStretch s k e).saf = s.saf ∧
    (State.learnStretch s k e).fio = s.fio ∧
    (State.learnStretch s k e).can0 = s.can0 ∧
    (State.learnStretch s k e).can1 = s.can1 ∧
    (State.learnStretch s k e).rng = s.rng ∧
    (State.learnStretch s k e).dsp = s.dsp ∧
    (State.learnStretch s k e).shf = s.shf ∧
    (State.learnStretch s k e).tph = s.tph ∧
    (State.learnStretch s k e).rtc = s.rtc ∧
    (State.learnStretch s k e).sec = s.sec ∧
    (State.learnStretch s k e).pending = s.pending := by
  generalize h : State.learnStretch s k e = t
  unfold State.learnStretch at h
  try dsimp only at h
  (repeat' split at h) <;> subst h <;> simp

@[simp] theorem State.arrived_frame (s : State) (t : Tgt) :
    (State.arrived s t).pwr = s.pwr ∧
    (State.arrived s t).lmp = s.lmp ∧
    (State.arrived s t).host = s.host ∧
    (State.arrived s t).grp = s.grp ∧
    (State.arrived s t).gys = s.gys ∧
    (State.arrived s t).hst = s.hst ∧
    (State.arrived s t).cle = s.cle ∧
    (State.arrived s t).dr0 = s.dr0 ∧
    (State.arrived s t).dr1 = s.dr1 ∧
    (State.arrived s t).saf = s.saf ∧
    (State.arrived s t).fio = s.fio ∧
    (State.arrived s t).can0 = s.can0 ∧
    (State.arrived s t).can1 = s.can1 ∧
    (State.arrived s t).rng = s.rng ∧
    (State.arrived s t).dsp = s.dsp ∧
    (State.arrived s t).shf = s.shf ∧
    (State.arrived s t).rtc = s.rtc ∧
    (State.arrived s t).pending = s.pending := by
  generalize h : State.arrived s t = t
  unfold State.arrived at h
  try dsimp only at h
  (repeat' split at h) <;> subst h <;> simp

@[simp] theorem State.learnStopped_frame (s : State) :
    (State.learnStopped s).pwr = s.pwr ∧
    (State.learnStopped s).lmp = s.lmp ∧
    (State.learnStopped s).host = s.host ∧
    (State.learnStopped s).dir = s.dir ∧
    (State.learnStopped s).grp = s.grp ∧
    (State.learnStopped s).gys = s.gys ∧
    (State.learnStopped s).cle = s.cle ∧
    (State.learnStopped s).dr0 = s.dr0 ∧
    (State.learnStopped s).dr1 = s.dr1 ∧
    (State.learnStopped s).saf = s.saf ∧
    (State.learnStopped s).fio = s.fio ∧
    (State.learnStopped s).can0 = s.can0 ∧
    (State.learnStopped s).can1 = s.can1 ∧
    (State.learnStopped s).rng = s.rng ∧
    (State.learnStopped s).dsp = s.dsp ∧
    (State.learnStopped s).shf = s.shf ∧
    (State.learnStopped s).tph = s.tph ∧
    (State.learnStopped s).rtc = s.rtc ∧
    (State.learnStopped s).sec = s.sec ∧
    (State.learnStopped s).pending = s.pending := by
  generalize h : State.learnStopped s = t
  unfold State.learnStopped at h
  try dsimp only at h
  (repeat' split at h) <;> subst h <;> simp

@[simp] theorem State.learnDz_frame (s : State) (p : Int) :
    (State.learnDz s p).pwr = s.pwr ∧
    (State.learnDz s p).lmp = s.lmp ∧
    (State.learnDz s p).host = s.host ∧
    (State.learnDz s p).grp = s.grp ∧
    (State.learnDz s p).gys = s.gys ∧
    (State.learnDz s p).cle = s.cle ∧
    (State.learnDz s p).dr0 = s.dr0 ∧
    (State.learnDz s p).dr1 = s.dr1 ∧
    (State.learnDz s p).saf = s.saf ∧
    (State.learnDz s p).fio = s.fio ∧
    (State.learnDz s p).can0 = s.can0 ∧
    (State.learnDz s p).can1 = s.can1 ∧
    (State.learnDz s p).rng = s.rng ∧
    (State.learnDz s p).dsp = s.dsp ∧
    (State.learnDz s p).shf = s.shf ∧
    (State.learnDz s p).rtc = s.rtc ∧
    (State.learnDz s p).pending = s.pending := by
  generalize h : State.learnDz s p = t
  unfold State.learnDz at h
  try dsimp only at h
  (repeat' split at h) <;> subst h <;> simp

@[simp] theorem State.learnCentre_frame (s : State) :
    (State.learnCentre s).pwr = s.pwr ∧
    (State.learnCentre s).lmp = s.lmp ∧
    (State.learnCentre s).host = s.host ∧
    (State.learnCentre s).grp = s.grp ∧
    (State.learnCentre s).gys = s.gys ∧
    (State.learnCentre s).cle = s.cle ∧
    (State.learnCentre s).dr0 = s.dr0 ∧
    (State.learnCentre s).dr1 = s.dr1 ∧
    (State.learnCentre s).saf = s.saf ∧
    (State.learnCentre s).fio = s.fio ∧
    (State.learnCentre s).can0 = s.can0 ∧
    (State.learnCentre s).can1 = s.can1 ∧
    (State.learnCentre s).rng = s.rng ∧
    (State.learnCentre s).dsp = s.dsp ∧
    (State.learnCentre s).shf = s.shf ∧
    (State.learnCentre s).rtc = s.rtc ∧
    (State.learnCentre s).pending = s.pending := by
  generalize h : State.learnCentre s = t
  unfold State.learnCentre at h
  try dsimp only at h
  (repeat' split at h) <;> subst h <;> simp

@[simp] theorem State.learnEdge_frame (s : State) (n : Nat) (e : FEdge) :
    (State.learnEdge s n e).pwr = s.pwr ∧
    (State.learnEdge s n e).lmp = s.lmp ∧
    (State.learnEdge s n e).host = s.host ∧
    (State.learnEdge s n e).grp = s.grp ∧
    (State.learnEdge s n e).gys = s.gys ∧
    (State.learnEdge s n e).cle = s.cle ∧
    (State.learnEdge s n e).dr0 = s.dr0 ∧
    (State.learnEdge s n e).dr1 = s.dr1 ∧
    (State.learnEdge s n e).saf = s.saf ∧
    (State.learnEdge s n e).fio = s.fio ∧
    (State.learnEdge s n e).can0 = s.can0 ∧
    (State.learnEdge s n e).can1 = s.can1 ∧
    (State.learnEdge s n e).rng = s.rng ∧
    (State.learnEdge s n e).dsp = s.dsp ∧
    (State.learnEdge s n e).shf = s.shf ∧
    (State.learnEdge s n e).rtc = s.rtc ∧
    (State.learnEdge s n e).pending = s.pending := by
  generalize h : State.learnEdge s n e = t
  unfold State.learnEdge at h
  try dsimp only at h
  (repeat' split at h) <;> subst h <;> simp

@[simp] theorem State.learnOverrun_frame (s : State) (n : Nat) :
    (State.learnOverrun s n).pwr = s.pwr ∧
    (State.learnOverrun s n).lmp = s.lmp ∧
    (State.learnOverrun s n).host = s.host ∧
    (State.learnOverrun s n).grp = s.grp ∧
    (State.learnOverrun s n).gys = s.gys ∧
    (State.learnOverrun s n).cle = s.cle ∧
    (State.learnOverrun s n).dr0 = s.dr0 ∧
    (State.learnOverrun s n).dr1 = s.dr1 ∧
    (State.learnOverrun s n).saf = s.saf ∧
    (State.learnOverrun s n).fio = s.fio ∧
    (State.learnOverrun s n).can0 = s.can0 ∧
    (State.learnOverrun s n).can1 = s.can1 ∧
    (State.learnOverrun s n).rng = s.rng ∧
    (State.learnOverrun s n).dsp = s.dsp ∧
    (State.learnOverrun s n).shf = s.shf ∧
    (State.learnOverrun s n).rtc = s.rtc ∧
    (State.learnOverrun s n).pending = s.pending := by
  generalize h : State.learnOverrun s n = t
  unfold State.learnOverrun at h
  try dsimp only at h
  (repeat' split at h) <;> subst h <;> simp

@[simp] theorem State.learnEntry_frame (s : State) (es : List (Int × Nat)) (shift : Int) (k : Nat) :
    (State.learnEntry s es shift k).pwr = s.pwr ∧
    (State.learnEntry s es shift k).lmp = s.lmp ∧
    (State.learnEntry s es shift k).host = s.host ∧
    (State.learnEntry s es shift k).grp = s.grp ∧
    (State.learnEntry s es shift k).gys = s.gys ∧
    (State.learnEntry s es shift k).hst = s.hst ∧
    (State.learnEntry s es shift k).cle = s.cle ∧
    (State.learnEntry s es shift k).dr0 = s.dr0 ∧
    (State.learnEntry s es shift k).dr1 = s.dr1 ∧
    (State.learnEntry s es shift k).saf = s.saf ∧
    (State.learnEntry s es shift k).fio = s.fio ∧
    (State.learnEntry s es shift k).can0 = s.can0 ∧
    (State.learnEntry s es shift k).can1 = s.can1 ∧
    (State.learnEntry s es shift k).rng = s.rng ∧
    (State.learnEntry s es shift k).dsp = s.dsp ∧
    (State.learnEntry s es shift k).shf = s.shf ∧
    (State.learnEntry s es shift k).tph = s.tph ∧
    (State.learnEntry s es shift k).rtc = s.rtc ∧
    (State.learnEntry s es shift k).sec = s.sec ∧
    (State.learnEntry s es shift k).pending = s.pending := by
  generalize h : State.learnEntry s es shift k = t
  unfold State.learnEntry at h
  try dsimp only at h
  (repeat' split at h) <;> subst h <;> simp

@[simp] theorem State.faultReset_frame (s : State) :
    (State.faultReset s).pwr = s.pwr ∧
    (State.faultReset s).lmp = s.lmp ∧
    (State.faultReset s).host = s.host ∧
    (State.faultReset s).dir = s.dir ∧
    (State.faultReset s).grp = s.grp ∧
    (State.faultReset s).gys = s.gys ∧
    (State.faultReset s).cle = s.cle ∧
    (State.faultReset s).dr0 = s.dr0 ∧
    (State.faultReset s).dr1 = s.dr1 ∧
    (State.faultReset s).saf = s.saf ∧
    (State.faultReset s).fio = s.fio ∧
    (State.faultReset s).can0 = s.can0 ∧
    (State.faultReset s).can1 = s.can1 ∧
    (State.faultReset s).rng = s.rng ∧
    (State.faultReset s).dsp = s.dsp ∧
    (State.faultReset s).shf = s.shf ∧
    (State.faultReset s).tph = s.tph ∧
    (State.faultReset s).rtc = s.rtc ∧
    (State.faultReset s).sec = s.sec ∧
    (State.faultReset s).pending = s.pending := by
  generalize h : State.faultReset s = t
  unfold State.faultReset at h
  try dsimp only at h
  (repeat' split at h) <;> subst h <;> simp

@[simp] theorem State.countDl_frame (s : State) :
    (State.countDl s).pwr = s.pwr ∧
    (State.countDl s).lmp = s.lmp ∧
    (State.countDl s).host = s.host ∧
    (State.countDl s).dir = s.dir ∧
    (State.countDl s).grp = s.grp ∧
    (State.countDl s).gys = s.gys ∧
    (State.countDl s).hst = s.hst ∧
    (State.countDl s).cle = s.cle ∧
    (State.countDl s).dr0 = s.dr0 ∧
    (State.countDl s).dr1 = s.dr1 ∧
    (State.countDl s).fio = s.fio ∧
    (State.countDl s).can0 = s.can0 ∧
    (State.countDl s).can1 = s.can1 ∧
    (State.countDl s).rng = s.rng ∧
    (State.countDl s).dsp = s.dsp ∧
    (State.countDl s).shf = s.shf ∧
    (State.countDl s).tph = s.tph ∧
    (State.countDl s).rtc = s.rtc ∧
    (State.countDl s).sec = s.sec ∧
    (State.countDl s).pending = s.pending := by
  generalize h : State.countDl s = t
  unfold State.countDl at h
  try dsimp only at h
  (repeat' split at h) <;> subst h <;> simp

end Sys2Proof.Machine
end

