-- ==== Sys2Proof/Laws/FrCaldera.lean ====
section
/-!
SUPPORT. For each operation of Machine/Caldera.lean on the device, the blocks it leaves as they were.
-/
namespace Sys2Proof.Machine
set_option linter.unusedTactic false
set_option linter.unnecessarySeqFocus false
set_option linter.unreachableTactic false
set_option linter.unusedSimpArgs false
set_option linter.unusedVariables false

@[simp] theorem State.slotFault_frame (s : State) (n : Nat) :
    (State.slotFault s n).pwr = s.pwr ∧
    (State.slotFault s n).lmp = s.lmp ∧
    (State.slotFault s n).host = s.host ∧
    (State.slotFault s n).grp = s.grp ∧
    (State.slotFault s n).gys = s.gys ∧
    (State.slotFault s n).saf = s.saf ∧
    (State.slotFault s n).fio = s.fio ∧
    (State.slotFault s n).can0 = s.can0 ∧
    (State.slotFault s n).can1 = s.can1 ∧
    (State.slotFault s n).rng = s.rng ∧
    (State.slotFault s n).dsp = s.dsp ∧
    (State.slotFault s n).shf = s.shf ∧
    (State.slotFault s n).rtc = s.rtc ∧
    (State.slotFault s n).pending = s.pending := by
  generalize h : State.slotFault s n = t
  unfold State.slotFault at h
  try dsimp only at h
  (repeat' split at h) <;> subst h <;> simp

@[simp] theorem State.latchSlot_frame (s : State) (n : Nat) (src : Int) :
    (State.latchSlot s n src).pwr = s.pwr ∧
    (State.latchSlot s n src).lmp = s.lmp ∧
    (State.latchSlot s n src).host = s.host ∧
    (State.latchSlot s n src).dir = s.dir ∧
    (State.latchSlot s n src).grp = s.grp ∧
    (State.latchSlot s n src).gys = s.gys ∧
    (State.latchSlot s n src).hst = s.hst ∧
    (State.latchSlot s n src).dr0 = s.dr0 ∧
    (State.latchSlot s n src).dr1 = s.dr1 ∧
    (State.latchSlot s n src).saf = s.saf ∧
    (State.latchSlot s n src).fio = s.fio ∧
    (State.latchSlot s n src).can0 = s.can0 ∧
    (State.latchSlot s n src).can1 = s.can1 ∧
    (State.latchSlot s n src).rng = s.rng ∧
    (State.latchSlot s n src).dsp = s.dsp ∧
    (State.latchSlot s n src).shf = s.shf ∧
    (State.latchSlot s n src).tph = s.tph ∧
    (State.latchSlot s n src).rtc = s.rtc ∧
    (State.latchSlot s n src).sec = s.sec ∧
    (State.latchSlot s n src).pending = s.pending := by
  generalize h : State.latchSlot s n src = t
  unfold State.latchSlot at h
  try dsimp only at h
  (repeat' split at h) <;> subst h <;> simp

@[simp] theorem State.latchSeen_frame (s : State) :
    (State.latchSeen s).pwr = s.pwr ∧
    (State.latchSeen s).lmp = s.lmp ∧
    (State.latchSeen s).host = s.host ∧
    (State.latchSeen s).dir = s.dir ∧
    (State.latchSeen s).grp = s.grp ∧
    (State.latchSeen s).gys = s.gys ∧
    (State.latchSeen s).hst = s.hst ∧
    (State.latchSeen s).dr0 = s.dr0 ∧
    (State.latchSeen s).dr1 = s.dr1 ∧
    (State.latchSeen s).saf = s.saf ∧
    (State.latchSeen s).fio = s.fio ∧
    (State.latchSeen s).can0 = s.can0 ∧
    (State.latchSeen s).can1 = s.can1 ∧
    (State.latchSeen s).rng = s.rng ∧
    (State.latchSeen s).dsp = s.dsp ∧
    (State.latchSeen s).shf = s.shf ∧
    (State.latchSeen s).tph = s.tph ∧
    (State.latchSeen s).rtc = s.rtc ∧
    (State.latchSeen s).sec = s.sec ∧
    (State.latchSeen s).pending = s.pending := by
  generalize h : State.latchSeen s = t
  unfold State.latchSeen at h
  try dsimp only at h
  (repeat' split at h) <;> subst h <;> simp

@[simp] theorem State.learnUnit_frame (s : State) (n : Nat) (q : Option (Nat × RUnit × Bool)) :
    (State.learnUnit s n q).pwr = s.pwr ∧
    (State.learnUnit s n q).lmp = s.lmp ∧
    (State.learnUnit s n q).host = s.host ∧
    (State.learnUnit s n q).grp = s.grp ∧
    (State.learnUnit s n q).gys = s.gys ∧
    (State.learnUnit s n q).hst = s.hst ∧
    (State.learnUnit s n q).dr0 = s.dr0 ∧
    (State.learnUnit s n q).dr1 = s.dr1 ∧
    (State.learnUnit s n q).saf = s.saf ∧
    (State.learnUnit s n q).fio = s.fio ∧
    (State.learnUnit s n q).can0 = s.can0 ∧
    (State.learnUnit s n q).can1 = s.can1 ∧
    (State.learnUnit s n q).rng = s.rng ∧
    (State.learnUnit s n q).dsp = s.dsp ∧
    (State.learnUnit s n q).shf = s.shf ∧
    (State.learnUnit s n q).tph = s.tph ∧
    (State.learnUnit s n q).rtc = s.rtc ∧
    (State.learnUnit s n q).sec = s.sec ∧
    (State.learnUnit s n q).pending = s.pending := by
  generalize h : State.learnUnit s n q = t
  unfold State.learnUnit at h
  try dsimp only at h
  (repeat' split at h) <;> subst h <;> simp

@[simp] theorem State.obstruct_frame (s : State) (front : Bool) (src : Nat) :
    (State.obstruct s front src).pwr = s.pwr ∧
    (State.obstruct s front src).lmp = s.lmp ∧
    (State.obstruct s front src).host = s.host ∧
    (State.obstruct s front src).grp = s.grp ∧
    (State.obstruct s front src).gys = s.gys ∧
    (State.obstruct s front src).hst = s.hst ∧
    (State.obstruct s front src).cle = s.cle ∧
    (State.obstruct s front src).saf = s.saf ∧
    (State.obstruct s front src).fio = s.fio ∧
    (State.obstruct s front src).can0 = s.can0 ∧
    (State.obstruct s front src).can1 = s.can1 ∧
    (State.obstruct s front src).rng = s.rng ∧
    (State.obstruct s front src).dsp = s.dsp ∧
    (State.obstruct s front src).shf = s.shf ∧
    (State.obstruct s front src).rtc = s.rtc ∧
    (State.obstruct s front src).pending = s.pending := by
  generalize h : State.obstruct s front src = t
  unfold State.obstruct at h
  try dsimp only at h
  (repeat' split at h) <;> subst h <;> simp

@[simp] theorem State.forceSample_frame (s : State) (front : Bool) :
    (State.forceSample s front).pwr = s.pwr ∧
    (State.forceSample s front).lmp = s.lmp ∧
    (State.forceSample s front).host = s.host ∧
    (State.forceSample s front).grp = s.grp ∧
    (State.forceSample s front).gys = s.gys ∧
    (State.forceSample s front).hst = s.hst ∧
    (State.forceSample s front).cle = s.cle ∧
    (State.forceSample s front).saf = s.saf ∧
    (State.forceSample s front).fio = s.fio ∧
    (State.forceSample s front).can0 = s.can0 ∧
    (State.forceSample s front).can1 = s.can1 ∧
    (State.forceSample s front).rng = s.rng ∧
    (State.forceSample s front).dsp = s.dsp ∧
    (State.forceSample s front).shf = s.shf ∧
    (State.forceSample s front).rtc = s.rtc ∧
    (State.forceSample s front).pending = s.pending := by
  generalize h : State.forceSample s front = t
  unfold State.forceSample at h
  try dsimp only at h
  (repeat' split at h) <;> subst h <;> simp

@[simp] theorem State.monitor_frame (s : State) (n : Nat) :
    (State.monitor s n).pwr = s.pwr ∧
    (State.monitor s n).lmp = s.lmp ∧
    (State.monitor s n).host = s.host ∧
    (State.monitor s n).grp = s.grp ∧
    (State.monitor s n).gys = s.gys ∧
    (State.monitor s n).saf = s.saf ∧
    (State.monitor s n).fio = s.fio ∧
    (State.monitor s n).can0 = s.can0 ∧
    (State.monitor s n).can1 = s.can1 ∧
    (State.monitor s n).rng = s.rng ∧
    (State.monitor s n).dsp = s.dsp ∧
    (State.monitor s n).shf = s.shf ∧
    (State.monitor s n).rtc = s.rtc ∧
    (State.monitor s n).pending = s.pending := by
  generalize h : State.monitor s n = t
  unfold State.monitor at h
  try dsimp only at h
  (repeat' split at h) <;> subst h <;> simp

@[simp] theorem State.traceDue_frame (s : State) (n : Nat) :
    (State.traceDue s n).pwr = s.pwr ∧
    (State.traceDue s n).lmp = s.lmp ∧
    (State.traceDue s n).host = s.host ∧
    (State.traceDue s n).dir = s.dir ∧
    (State.traceDue s n).grp = s.grp ∧
    (State.traceDue s n).gys = s.gys ∧
    (State.traceDue s n).hst = s.hst ∧
    (State.traceDue s n).dr0 = s.dr0 ∧
    (State.traceDue s n).dr1 = s.dr1 ∧
    (State.traceDue s n).saf = s.saf ∧
    (State.traceDue s n).fio = s.fio ∧
    (State.traceDue s n).can0 = s.can0 ∧
    (State.traceDue s n).can1 = s.can1 ∧
    (State.traceDue s n).rng = s.rng ∧
    (State.traceDue s n).dsp = s.dsp ∧
    (State.traceDue s n).shf = s.shf ∧
    (State.traceDue s n).tph = s.tph ∧
    (State.traceDue s n).rtc = s.rtc ∧
    (State.traceDue s n).sec = s.sec ∧
    (State.traceDue s n).pending = s.pending := by
  generalize h : State.traceDue s n = t
  unfold State.traceDue at h
  try dsimp only at h
  (repeat' split at h) <;> subst h <;> simp

@[simp] theorem State.slotLate_frame (s : State) (n : Nat) :
    (State.slotLate s n).pwr = s.pwr ∧
    (State.slotLate s n).lmp = s.lmp ∧
    (State.slotLate s n).host = s.host ∧
    (State.slotLate s n).grp = s.grp ∧
    (State.slotLate s n).gys = s.gys ∧
    (State.slotLate s n).saf = s.saf ∧
    (State.slotLate s n).fio = s.fio ∧
    (State.slotLate s n).can0 = s.can0 ∧
    (State.slotLate s n).can1 = s.can1 ∧
    (State.slotLate s n).rng = s.rng ∧
    (State.slotLate s n).dsp = s.dsp ∧
    (State.slotLate s n).shf = s.shf ∧
    (State.slotLate s n).rtc = s.rtc ∧
    (State.slotLate s n).pending = s.pending := by
  generalize h : State.slotLate s n = t
  unfold State.slotLate at h
  try dsimp only at h
  (repeat' split at h) <;> subst h <;> simp

@[simp] theorem State.cleDormant_frame (s : State) :
    (State.cleDormant s).pwr = s.pwr ∧
    (State.cleDormant s).lmp = s.lmp ∧
    (State.cleDormant s).host = s.host ∧
    (State.cleDormant s).dir = s.dir ∧
    (State.cleDormant s).grp = s.grp ∧
    (State.cleDormant s).gys = s.gys ∧
    (State.cleDormant s).hst = s.hst ∧
    (State.cleDormant s).dr0 = s.dr0 ∧
    (State.cleDormant s).dr1 = s.dr1 ∧
    (State.cleDormant s).saf = s.saf ∧
    (State.cleDormant s).fio = s.fio ∧
    (State.cleDormant s).can0 = s.can0 ∧
    (State.cleDormant s).can1 = s.can1 ∧
    (State.cleDormant s).rng = s.rng ∧
    (State.cleDormant s).dsp = s.dsp ∧
    (State.cleDormant s).shf = s.shf ∧
    (State.cleDormant s).tph = s.tph ∧
    (State.cleDormant s).rtc = s.rtc ∧
    (State.cleDormant s).sec = s.sec ∧
    (State.cleDormant s).pending = s.pending := by
  generalize h : State.cleDormant s = t
  unfold State.cleDormant at h
  try dsimp only at h
  (repeat' split at h) <;> subst h <;> simp

@[simp] theorem State.traceArm_frame (s : State) (b : Nat) :
    (State.traceArm s b).pwr = s.pwr ∧
    (State.traceArm s b).lmp = s.lmp ∧
    (State.traceArm s b).host = s.host ∧
    (State.traceArm s b).dir = s.dir ∧
    (State.traceArm s b).grp = s.grp ∧
    (State.traceArm s b).gys = s.gys ∧
    (State.traceArm s b).hst = s.hst ∧
    (State.traceArm s b).dr0 = s.dr0 ∧
    (State.traceArm s b).dr1 = s.dr1 ∧
    (State.traceArm s b).saf = s.saf ∧
    (State.traceArm s b).fio = s.fio ∧
    (State.traceArm s b).can0 = s.can0 ∧
    (State.traceArm s b).can1 = s.can1 ∧
    (State.traceArm s b).rng = s.rng ∧
    (State.traceArm s b).dsp = s.dsp ∧
    (State.traceArm s b).shf = s.shf ∧
    (State.traceArm s b).tph = s.tph ∧
    (State.traceArm s b).rtc = s.rtc ∧
    (State.traceArm s b).sec = s.sec ∧
    (State.traceArm s b).pending = s.pending := by
  generalize h : State.traceArm s b = t
  unfold State.traceArm at h
  try dsimp only at h
  (repeat' split at h) <;> subst h <;> simp

@[simp] theorem State.traceDisarm_frame (s : State) (b : Nat) :
    (State.traceDisarm s b).pwr = s.pwr ∧
    (State.traceDisarm s b).lmp = s.lmp ∧
    (State.traceDisarm s b).host = s.host ∧
    (State.traceDisarm s b).dir = s.dir ∧
    (State.traceDisarm s b).grp = s.grp ∧
    (State.traceDisarm s b).gys = s.gys ∧
    (State.traceDisarm s b).hst = s.hst ∧
    (State.traceDisarm s b).dr0 = s.dr0 ∧
    (State.traceDisarm s b).dr1 = s.dr1 ∧
    (State.traceDisarm s b).saf = s.saf ∧
    (State.traceDisarm s b).fio = s.fio ∧
    (State.traceDisarm s b).can0 = s.can0 ∧
    (State.traceDisarm s b).can1 = s.can1 ∧
    (State.traceDisarm s b).rng = s.rng ∧
    (State.traceDisarm s b).dsp = s.dsp ∧
    (State.traceDisarm s b).shf = s.shf ∧
    (State.traceDisarm s b).tph = s.tph ∧
    (State.traceDisarm s b).rtc = s.rtc ∧
    (State.traceDisarm s b).sec = s.sec ∧
    (State.traceDisarm s b).pending = s.pending := by
  generalize h : State.traceDisarm s b = t
  unfold State.traceDisarm at h
  try dsimp only at h
  (repeat' split at h) <;> subst h <;> simp

@[simp] theorem State.traceTake_frame (s : State) (b : Nat) :
    (State.traceTake s b).pwr = s.pwr ∧
    (State.traceTake s b).lmp = s.lmp ∧
    (State.traceTake s b).host = s.host ∧
    (State.traceTake s b).grp = s.grp ∧
    (State.traceTake s b).gys = s.gys ∧
    (State.traceTake s b).hst = s.hst ∧
    (State.traceTake s b).dr0 = s.dr0 ∧
    (State.traceTake s b).dr1 = s.dr1 ∧
    (State.traceTake s b).saf = s.saf ∧
    (State.traceTake s b).fio = s.fio ∧
    (State.traceTake s b).can0 = s.can0 ∧
    (State.traceTake s b).can1 = s.can1 ∧
    (State.traceTake s b).rng = s.rng ∧
    (State.traceTake s b).dsp = s.dsp ∧
    (State.traceTake s b).shf = s.shf ∧
    (State.traceTake s b).rtc = s.rtc ∧
    (State.traceTake s b).pending = s.pending := by
  generalize h : State.traceTake s b = t
  unfold State.traceTake at h
  try dsimp only at h
  (repeat' split at h) <;> subst h <;> simp

end Sys2Proof.Machine
end

