-- ==== Sys2Proof/Laws/FrDoor.lean ====
section
/-!
SUPPORT. For each operation of Machine/Door.lean on the device, the blocks it leaves as they were.
-/
namespace Sys2Proof.Machine
set_option linter.unusedTactic false
set_option linter.unnecessarySeqFocus false
set_option linter.unreachableTactic false
set_option linter.unusedSimpArgs false
set_option linter.unusedVariables false

@[simp] theorem State.modD_frame (s : State) (n : Nat) (f : Door → Door) :
    (State.modD s n f).pwr = s.pwr ∧
    (State.modD s n f).lmp = s.lmp ∧
    (State.modD s n f).host = s.host ∧
    (State.modD s n f).dir = s.dir ∧
    (State.modD s n f).grp = s.grp ∧
    (State.modD s n f).gys = s.gys ∧
    (State.modD s n f).hst = s.hst ∧
    (State.modD s n f).cle = s.cle ∧
    (State.modD s n f).saf = s.saf ∧
    (State.modD s n f).fio = s.fio ∧
    (State.modD s n f).can0 = s.can0 ∧
    (State.modD s n f).can1 = s.can1 ∧
    (State.modD s n f).rng = s.rng ∧
    (State.modD s n f).dsp = s.dsp ∧
    (State.modD s n f).shf = s.shf ∧
    (State.modD s n f).tph = s.tph ∧
    (State.modD s n f).rtc = s.rtc ∧
    (State.modD s n f).sec = s.sec ∧
    (State.modD s n f).pending = s.pending := by
  generalize h : State.modD s n f = t
  unfold State.modD at h
  try dsimp only at h
  (repeat' split at h) <;> subst h <;> simp

@[simp] theorem State.doorVer_frame (s : State) (n : Nat) :
    (State.doorVer s n).pwr = s.pwr ∧
    (State.doorVer s n).lmp = s.lmp ∧
    (State.doorVer s n).host = s.host ∧
    (State.doorVer s n).dir = s.dir ∧
    (State.doorVer s n).grp = s.grp ∧
    (State.doorVer s n).gys = s.gys ∧
    (State.doorVer s n).hst = s.hst ∧
    (State.doorVer s n).cle = s.cle ∧
    (State.doorVer s n).saf = s.saf ∧
    (State.doorVer s n).fio = s.fio ∧
    (State.doorVer s n).can0 = s.can0 ∧
    (State.doorVer s n).can1 = s.can1 ∧
    (State.doorVer s n).rng = s.rng ∧
    (State.doorVer s n).dsp = s.dsp ∧
    (State.doorVer s n).shf = s.shf ∧
    (State.doorVer s n).tph = s.tph ∧
    (State.doorVer s n).rtc = s.rtc ∧
    (State.doorVer s n).sec = s.sec ∧
    (State.doorVer s n).pending = s.pending := by
  generalize h : State.doorVer s n = t
  unfold State.doorVer at h
  try dsimp only at h
  (repeat' split at h) <;> subst h <;> simp

@[simp] theorem State.doorFault_frame (s : State) (n code : Nat) :
    (State.doorFault s n code).pwr = s.pwr ∧
    (State.doorFault s n code).lmp = s.lmp ∧
    (State.doorFault s n code).host = s.host ∧
    (State.doorFault s n code).grp = s.grp ∧
    (State.doorFault s n code).gys = s.gys ∧
    (State.doorFault s n code).hst = s.hst ∧
    (State.doorFault s n code).fio = s.fio ∧
    (State.doorFault s n code).can0 = s.can0 ∧
    (State.doorFault s n code).can1 = s.can1 ∧
    (State.doorFault s n code).rng = s.rng ∧
    (State.doorFault s n code).dsp = s.dsp ∧
    (State.doorFault s n code).shf = s.shf ∧
    (State.doorFault s n code).rtc = s.rtc ∧
    (State.doorFault s n code).pending = s.pending := by
  generalize h : State.doorFault s n code = t
  unfold State.doorFault at h
  try dsimp only at h
  (repeat' split at h) <;> subst h <;> simp

@[simp] theorem State.sensorlessStep_frame (s : State) (n : Nat) (obs : Int) :
    (State.sensorlessStep s n obs).pwr = s.pwr ∧
    (State.sensorlessStep s n obs).lmp = s.lmp ∧
    (State.sensorlessStep s n obs).host = s.host ∧
    (State.sensorlessStep s n obs).dir = s.dir ∧
    (State.sensorlessStep s n obs).grp = s.grp ∧
    (State.sensorlessStep s n obs).gys = s.gys ∧
    (State.sensorlessStep s n obs).hst = s.hst ∧
    (State.sensorlessStep s n obs).cle = s.cle ∧
    (State.sensorlessStep s n obs).saf = s.saf ∧
    (State.sensorlessStep s n obs).fio = s.fio ∧
    (State.sensorlessStep s n obs).can0 = s.can0 ∧
    (State.sensorlessStep s n obs).can1 = s.can1 ∧
    (State.sensorlessStep s n obs).rng = s.rng ∧
    (State.sensorlessStep s n obs).dsp = s.dsp ∧
    (State.sensorlessStep s n obs).shf = s.shf ∧
    (State.sensorlessStep s n obs).tph = s.tph ∧
    (State.sensorlessStep s n obs).rtc = s.rtc ∧
    (State.sensorlessStep s n obs).sec = s.sec ∧
    (State.sensorlessStep s n obs).pending = s.pending := by
  generalize h : State.sensorlessStep s n obs = t
  unfold State.sensorlessStep at h
  try dsimp only at h
  (repeat' split at h) <;> subst h <;> simp

@[simp] theorem State.trackDoor_frame (s : State) (n t : Nat) :
    (State.trackDoor s n t).pwr = s.pwr ∧
    (State.trackDoor s n t).lmp = s.lmp ∧
    (State.trackDoor s n t).host = s.host ∧
    (State.trackDoor s n t).dir = s.dir ∧
    (State.trackDoor s n t).grp = s.grp ∧
    (State.trackDoor s n t).gys = s.gys ∧
    (State.trackDoor s n t).hst = s.hst ∧
    (State.trackDoor s n t).cle = s.cle ∧
    (State.trackDoor s n t).saf = s.saf ∧
    (State.trackDoor s n t).fio = s.fio ∧
    (State.trackDoor s n t).can0 = s.can0 ∧
    (State.trackDoor s n t).can1 = s.can1 ∧
    (State.trackDoor s n t).rng = s.rng ∧
    (State.trackDoor s n t).dsp = s.dsp ∧
    (State.trackDoor s n t).shf = s.shf ∧
    (State.trackDoor s n t).tph = s.tph ∧
    (State.trackDoor s n t).rtc = s.rtc ∧
    (State.trackDoor s n t).sec = s.sec ∧
    (State.trackDoor s n t).pending = s.pending := by
  generalize h : State.trackDoor s n t = t
  unfold State.trackDoor at h
  try dsimp only at h
  (repeat' split at h) <;> subst h <;> simp

@[simp] theorem State.doorDrive_frame (s : State) (n : Nat) :
    (State.doorDrive s n).pwr = s.pwr ∧
    (State.doorDrive s n).lmp = s.lmp ∧
    (State.doorDrive s n).host = s.host ∧
    (State.doorDrive s n).dir = s.dir ∧
    (State.doorDrive s n).grp = s.grp ∧
    (State.doorDrive s n).gys = s.gys ∧
    (State.doorDrive s n).hst = s.hst ∧
    (State.doorDrive s n).saf = s.saf ∧
    (State.doorDrive s n).fio = s.fio ∧
    (State.doorDrive s n).can0 = s.can0 ∧
    (State.doorDrive s n).can1 = s.can1 ∧
    (State.doorDrive s n).rng = s.rng ∧
    (State.doorDrive s n).dsp = s.dsp ∧
    (State.doorDrive s n).shf = s.shf ∧
    (State.doorDrive s n).tph = s.tph ∧
    (State.doorDrive s n).rtc = s.rtc ∧
    (State.doorDrive s n).sec = s.sec ∧
    (State.doorDrive s n).pending = s.pending := by
  generalize h : State.doorDrive s n = t
  unfold State.doorDrive at h
  try dsimp only at h
  (repeat' split at h) <;> subst h <;> simp

@[simp] theorem State.doorGo_frame (s : State) (n : Nat) (st : DSt) (dir : Int) :
    (State.doorGo s n st dir).pwr = s.pwr ∧
    (State.doorGo s n st dir).lmp = s.lmp ∧
    (State.doorGo s n st dir).host = s.host ∧
    (State.doorGo s n st dir).grp = s.grp ∧
    (State.doorGo s n st dir).gys = s.gys ∧
    (State.doorGo s n st dir).hst = s.hst ∧
    (State.doorGo s n st dir).saf = s.saf ∧
    (State.doorGo s n st dir).fio = s.fio ∧
    (State.doorGo s n st dir).can0 = s.can0 ∧
    (State.doorGo s n st dir).can1 = s.can1 ∧
    (State.doorGo s n st dir).rng = s.rng ∧
    (State.doorGo s n st dir).dsp = s.dsp ∧
    (State.doorGo s n st dir).shf = s.shf ∧
    (State.doorGo s n st dir).rtc = s.rtc ∧
    (State.doorGo s n st dir).pending = s.pending := by
  generalize h : State.doorGo s n st dir = t
  unfold State.doorGo at h
  try dsimp only at h
  (repeat' split at h) <;> subst h <;> simp

@[simp] theorem State.doorAfter_frame (s : State) (n : Nat) :
    (State.doorAfter s n).pwr = s.pwr ∧
    (State.doorAfter s n).lmp = s.lmp ∧
    (State.doorAfter s n).host = s.host ∧
    (State.doorAfter s n).grp = s.grp ∧
    (State.doorAfter s n).gys = s.gys ∧
    (State.doorAfter s n).hst = s.hst ∧
    (State.doorAfter s n).saf = s.saf ∧
    (State.doorAfter s n).fio = s.fio ∧
    (State.doorAfter s n).can0 = s.can0 ∧
    (State.doorAfter s n).can1 = s.can1 ∧
    (State.doorAfter s n).rng = s.rng ∧
    (State.doorAfter s n).dsp = s.dsp ∧
    (State.doorAfter s n).shf = s.shf ∧
    (State.doorAfter s n).rtc = s.rtc ∧
    (State.doorAfter s n).pending = s.pending := by
  generalize h : State.doorAfter s n = t
  unfold State.doorAfter at h
  try dsimp only at h
  (repeat' split at h) <;> subst h <;> simp

@[simp] theorem State.doorBrake_frame (s : State) (n : Nat) (a : Int) (after : Nat) :
    (State.doorBrake s n a after).pwr = s.pwr ∧
    (State.doorBrake s n a after).lmp = s.lmp ∧
    (State.doorBrake s n a after).host = s.host ∧
    (State.doorBrake s n a after).grp = s.grp ∧
    (State.doorBrake s n a after).gys = s.gys ∧
    (State.doorBrake s n a after).hst = s.hst ∧
    (State.doorBrake s n a after).saf = s.saf ∧
    (State.doorBrake s n a after).fio = s.fio ∧
    (State.doorBrake s n a after).can0 = s.can0 ∧
    (State.doorBrake s n a after).can1 = s.can1 ∧
    (State.doorBrake s n a after).rng = s.rng ∧
    (State.doorBrake s n a after).dsp = s.dsp ∧
    (State.doorBrake s n a after).shf = s.shf ∧
    (State.doorBrake s n a after).rtc = s.rtc ∧
    (State.doorBrake s n a after).pending = s.pending := by
  generalize h : State.doorBrake s n a after = t
  unfold State.doorBrake at h
  try dsimp only at h
  (repeat' split at h) <;> subst h <;> simp

@[simp] theorem State.countReopen_frame (s : State) (n : Nat) :
    (State.countReopen s n).pwr = s.pwr ∧
    (State.countReopen s n).lmp = s.lmp ∧
    (State.countReopen s n).host = s.host ∧
    (State.countReopen s n).dir = s.dir ∧
    (State.countReopen s n).grp = s.grp ∧
    (State.countReopen s n).gys = s.gys ∧
    (State.countReopen s n).hst = s.hst ∧
    (State.countReopen s n).cle = s.cle ∧
    (State.countReopen s n).saf = s.saf ∧
    (State.countReopen s n).fio = s.fio ∧
    (State.countReopen s n).can0 = s.can0 ∧
    (State.countReopen s n).can1 = s.can1 ∧
    (State.countReopen s n).rng = s.rng ∧
    (State.countReopen s n).dsp = s.dsp ∧
    (State.countReopen s n).shf = s.shf ∧
    (State.countReopen s n).tph = s.tph ∧
    (State.countReopen s n).rtc = s.rtc ∧
    (State.countReopen s n).sec = s.sec ∧
    (State.countReopen s n).pending = s.pending := by
  generalize h : State.countReopen s n = t
  unfold State.countReopen at h
  try dsimp only at h
  (repeat' split at h) <;> subst h <;> simp

@[simp] theorem State.doorLearnFail_frame (s : State) (n cause : Nat) :
    (State.doorLearnFail s n cause).pwr = s.pwr ∧
    (State.doorLearnFail s n cause).lmp = s.lmp ∧
    (State.doorLearnFail s n cause).host = s.host ∧
    (State.doorLearnFail s n cause).grp = s.grp ∧
    (State.doorLearnFail s n cause).gys = s.gys ∧
    (State.doorLearnFail s n cause).hst = s.hst ∧
    (State.doorLearnFail s n cause).saf = s.saf ∧
    (State.doorLearnFail s n cause).fio = s.fio ∧
    (State.doorLearnFail s n cause).can0 = s.can0 ∧
    (State.doorLearnFail s n cause).can1 = s.can1 ∧
    (State.doorLearnFail s n cause).rng = s.rng ∧
    (State.doorLearnFail s n cause).dsp = s.dsp ∧
    (State.doorLearnFail s n cause).shf = s.shf ∧
    (State.doorLearnFail s n cause).rtc = s.rtc ∧
    (State.doorLearnFail s n cause).pending = s.pending := by
  generalize h : State.doorLearnFail s n cause = t
  unfold State.doorLearnFail at h
  try dsimp only at h
  (repeat' split at h) <;> subst h <;> simp

@[simp] theorem State.doorOpenCmd_frame (s : State) (n code k : Nat) :
    (State.doorOpenCmd s n code k).pwr = s.pwr ∧
    (State.doorOpenCmd s n code k).lmp = s.lmp ∧
    (State.doorOpenCmd s n code k).host = s.host ∧
    (State.doorOpenCmd s n code k).grp = s.grp ∧
    (State.doorOpenCmd s n code k).gys = s.gys ∧
    (State.doorOpenCmd s n code k).hst = s.hst ∧
    (State.doorOpenCmd s n code k).saf = s.saf ∧
    (State.doorOpenCmd s n code k).fio = s.fio ∧
    (State.doorOpenCmd s n code k).can0 = s.can0 ∧
    (State.doorOpenCmd s n code k).can1 = s.can1 ∧
    (State.doorOpenCmd s n code k).rng = s.rng ∧
    (State.doorOpenCmd s n code k).dsp = s.dsp ∧
    (State.doorOpenCmd s n code k).shf = s.shf ∧
    (State.doorOpenCmd s n code k).rtc = s.rtc ∧
    (State.doorOpenCmd s n code k).pending = s.pending := by
  generalize h : State.doorOpenCmd s n code k = t
  unfold State.doorOpenCmd at h
  try dsimp only at h
  (repeat' split at h) <;> subst h <;> simp

@[simp] theorem State.doorCloseCmd_frame (s : State) (n code : Nat) :
    (State.doorCloseCmd s n code).pwr = s.pwr ∧
    (State.doorCloseCmd s n code).lmp = s.lmp ∧
    (State.doorCloseCmd s n code).host = s.host ∧
    (State.doorCloseCmd s n code).grp = s.grp ∧
    (State.doorCloseCmd s n code).gys = s.gys ∧
    (State.doorCloseCmd s n code).hst = s.hst ∧
    (State.doorCloseCmd s n code).saf = s.saf ∧
    (State.doorCloseCmd s n code).fio = s.fio ∧
    (State.doorCloseCmd s n code).can0 = s.can0 ∧
    (State.doorCloseCmd s n code).can1 = s.can1 ∧
    (State.doorCloseCmd s n code).rng = s.rng ∧
    (State.doorCloseCmd s n code).dsp = s.dsp ∧
    (State.doorCloseCmd s n code).shf = s.shf ∧
    (State.doorCloseCmd s n code).rtc = s.rtc ∧
    (State.doorCloseCmd s n code).pending = s.pending := by
  generalize h : State.doorCloseCmd s n code = t
  unfold State.doorCloseCmd at h
  try dsimp only at h
  (repeat' split at h) <;> subst h <;> simp

@[simp] theorem State.doorStopCmd_frame (s : State) (n : Nat) :
    (State.doorStopCmd s n).pwr = s.pwr ∧
    (State.doorStopCmd s n).lmp = s.lmp ∧
    (State.doorStopCmd s n).host = s.host ∧
    (State.doorStopCmd s n).grp = s.grp ∧
    (State.doorStopCmd s n).gys = s.gys ∧
    (State.doorStopCmd s n).hst = s.hst ∧
    (State.doorStopCmd s n).saf = s.saf ∧
    (State.doorStopCmd s n).fio = s.fio ∧
    (State.doorStopCmd s n).can0 = s.can0 ∧
    (State.doorStopCmd s n).can1 = s.can1 ∧
    (State.doorStopCmd s n).rng = s.rng ∧
    (State.doorStopCmd s n).dsp = s.dsp ∧
    (State.doorStopCmd s n).shf = s.shf ∧
    (State.doorStopCmd s n).rtc = s.rtc ∧
    (State.doorStopCmd s n).pending = s.pending := by
  generalize h : State.doorStopCmd s n = t
  unfold State.doorStopCmd at h
  try dsimp only at h
  (repeat' split at h) <;> subst h <;> simp

@[simp] theorem State.doorLearnCmd_frame (s : State) (n : Nat) :
    (State.doorLearnCmd s n).pwr = s.pwr ∧
    (State.doorLearnCmd s n).lmp = s.lmp ∧
    (State.doorLearnCmd s n).host = s.host ∧
    (State.doorLearnCmd s n).grp = s.grp ∧
    (State.doorLearnCmd s n).gys = s.gys ∧
    (State.doorLearnCmd s n).hst = s.hst ∧
    (State.doorLearnCmd s n).saf = s.saf ∧
    (State.doorLearnCmd s n).fio = s.fio ∧
    (State.doorLearnCmd s n).can0 = s.can0 ∧
    (State.doorLearnCmd s n).can1 = s.can1 ∧
    (State.doorLearnCmd s n).rng = s.rng ∧
    (State.doorLearnCmd s n).dsp = s.dsp ∧
    (State.doorLearnCmd s n).shf = s.shf ∧
    (State.doorLearnCmd s n).tph = s.tph ∧
    (State.doorLearnCmd s n).rtc = s.rtc ∧
    (State.doorLearnCmd s n).sec = s.sec ∧
    (State.doorLearnCmd s n).pending = s.pending := by
  generalize h : State.doorLearnCmd s n = t
  unfold State.doorLearnCmd at h
  try dsimp only at h
  (repeat' split at h) <;> subst h <;> simp

@[simp] theorem State.doorApply_frame (s : State) (n code k : Nat) :
    (State.doorApply s n code k).pwr = s.pwr ∧
    (State.doorApply s n code k).lmp = s.lmp ∧
    (State.doorApply s n code k).host = s.host ∧
    (State.doorApply s n code k).grp = s.grp ∧
    (State.doorApply s n code k).gys = s.gys ∧
    (State.doorApply s n code k).hst = s.hst ∧
    (State.doorApply s n code k).saf = s.saf ∧
    (State.doorApply s n code k).fio = s.fio ∧
    (State.doorApply s n code k).can0 = s.can0 ∧
    (State.doorApply s n code k).can1 = s.can1 ∧
    (State.doorApply s n code k).rng = s.rng ∧
    (State.doorApply s n code k).dsp = s.dsp ∧
    (State.doorApply s n code k).shf = s.shf ∧
    (State.doorApply s n code k).rtc = s.rtc ∧
    (State.doorApply s n code k).pending = s.pending := by
  generalize h : State.doorApply s n code k = t
  unfold State.doorApply at h
  try dsimp only at h
  (repeat' split at h) <;> subst h <;> simp

@[simp] theorem State.doorAnswer_frame (s : State) (n : Nat) (src : DSrc) (st : Status) :
    (State.doorAnswer s n src st).pwr = s.pwr ∧
    (State.doorAnswer s n src st).lmp = s.lmp ∧
    (State.doorAnswer s n src st).dir = s.dir ∧
    (State.doorAnswer s n src st).grp = s.grp ∧
    (State.doorAnswer s n src st).hst = s.hst ∧
    (State.doorAnswer s n src st).cle = s.cle ∧
    (State.doorAnswer s n src st).dr0 = s.dr0 ∧
    (State.doorAnswer s n src st).dr1 = s.dr1 ∧
    (State.doorAnswer s n src st).saf = s.saf ∧
    (State.doorAnswer s n src st).fio = s.fio ∧
    (State.doorAnswer s n src st).can0 = s.can0 ∧
    (State.doorAnswer s n src st).can1 = s.can1 ∧
    (State.doorAnswer s n src st).rng = s.rng ∧
    (State.doorAnswer s n src st).dsp = s.dsp ∧
    (State.doorAnswer s n src st).shf = s.shf ∧
    (State.doorAnswer s n src st).tph = s.tph ∧
    (State.doorAnswer s n src st).rtc = s.rtc ∧
    (State.doorAnswer s n src st).sec = s.sec ∧
    (State.doorAnswer s n src st).pending = s.pending := by
  generalize h : State.doorAnswer s n src st = t
  unfold State.doorAnswer at h
  try dsimp only at h
  (repeat' split at h) <;> subst h <;> simp

@[simp] theorem State.doorTake_frame (s : State) (n : Nat) (reacted : Bool) (c : DCmd) :
    (State.doorTake s n reacted c).pwr = s.pwr ∧
    (State.doorTake s n reacted c).lmp = s.lmp ∧
    (State.doorTake s n reacted c).grp = s.grp ∧
    (State.doorTake s n reacted c).hst = s.hst ∧
    (State.doorTake s n reacted c).saf = s.saf ∧
    (State.doorTake s n reacted c).fio = s.fio ∧
    (State.doorTake s n reacted c).can0 = s.can0 ∧
    (State.doorTake s n reacted c).can1 = s.can1 ∧
    (State.doorTake s n reacted c).rng = s.rng ∧
    (State.doorTake s n reacted c).dsp = s.dsp ∧
    (State.doorTake s n reacted c).shf = s.shf ∧
    (State.doorTake s n reacted c).rtc = s.rtc ∧
    (State.doorTake s n reacted c).pending = s.pending := by
  generalize h : State.doorTake s n reacted c = t
  unfold State.doorTake at h
  try dsimp only at h
  (repeat' split at h) <;> subst h <;> simp

@[simp] theorem State.queueDoor_frame (s : State) (n : Nat) (c : DCmd) :
    (State.queueDoor s n c).pwr = s.pwr ∧
    (State.queueDoor s n c).lmp = s.lmp ∧
    (State.queueDoor s n c).host = s.host ∧
    (State.queueDoor s n c).grp = s.grp ∧
    (State.queueDoor s n c).gys = s.gys ∧
    (State.queueDoor s n c).cle = s.cle ∧
    (State.queueDoor s n c).fio = s.fio ∧
    (State.queueDoor s n c).can0 = s.can0 ∧
    (State.queueDoor s n c).can1 = s.can1 ∧
    (State.queueDoor s n c).rng = s.rng ∧
    (State.queueDoor s n c).dsp = s.dsp ∧
    (State.queueDoor s n c).shf = s.shf ∧
    (State.queueDoor s n c).rtc = s.rtc ∧
    (State.queueDoor s n c).pending = s.pending := by
  generalize h : State.queueDoor s n c = t
  unfold State.queueDoor at h
  try dsimp only at h
  (repeat' split at h) <;> subst h <;> simp

@[simp] theorem State.doorHost_frame (s : State) (code : Nat) (f : Flight) :
    (State.doorHost s code f).pwr = s.pwr ∧
    (State.doorHost s code f).lmp = s.lmp ∧
    (State.doorHost s code f).grp = s.grp ∧
    (State.doorHost s code f).gys = s.gys ∧
    (State.doorHost s code f).cle = s.cle ∧
    (State.doorHost s code f).fio = s.fio ∧
    (State.doorHost s code f).can0 = s.can0 ∧
    (State.doorHost s code f).can1 = s.can1 ∧
    (State.doorHost s code f).rng = s.rng ∧
    (State.doorHost s code f).dsp = s.dsp ∧
    (State.doorHost s code f).shf = s.shf ∧
    (State.doorHost s code f).rtc = s.rtc ∧
    (State.doorHost s code f).pending = s.pending := by
  generalize h : State.doorHost s code f = t
  unfold State.doorHost at h
  try dsimp only at h
  (repeat' split at h) <;> subst h <;> simp

@[simp] theorem State.setSod_frame (s : State) (n : Nat) (k : Option Nat) :
    (State.setSod s n k).pwr = s.pwr ∧
    (State.setSod s n k).lmp = s.lmp ∧
    (State.setSod s n k).host = s.host ∧
    (State.setSod s n k).dir = s.dir ∧
    (State.setSod s n k).grp = s.grp ∧
    (State.setSod s n k).gys = s.gys ∧
    (State.setSod s n k).hst = s.hst ∧
    (State.setSod s n k).cle = s.cle ∧
    (State.setSod s n k).dr0 = s.dr0 ∧
    (State.setSod s n k).dr1 = s.dr1 ∧
    (State.setSod s n k).fio = s.fio ∧
    (State.setSod s n k).can0 = s.can0 ∧
    (State.setSod s n k).can1 = s.can1 ∧
    (State.setSod s n k).rng = s.rng ∧
    (State.setSod s n k).dsp = s.dsp ∧
    (State.setSod s n k).shf = s.shf ∧
    (State.setSod s n k).tph = s.tph ∧
    (State.setSod s n k).rtc = s.rtc ∧
    (State.setSod s n k).sec = s.sec ∧
    (State.setSod s n k).pending = s.pending := by
  generalize h : State.setSod s n k = t
  unfold State.setSod at h
  try dsimp only at h
  (repeat' split at h) <;> subst h <;> simp

@[simp] theorem State.doorAdvance_frame (s : State) (n : Nat) :
    (State.doorAdvance s n).pwr = s.pwr ∧
    (State.doorAdvance s n).lmp = s.lmp ∧
    (State.doorAdvance s n).host = s.host ∧
    (State.doorAdvance s n).grp = s.grp ∧
    (State.doorAdvance s n).gys = s.gys ∧
    (State.doorAdvance s n).hst = s.hst ∧
    (State.doorAdvance s n).fio = s.fio ∧
    (State.doorAdvance s n).can0 = s.can0 ∧
    (State.doorAdvance s n).can1 = s.can1 ∧
    (State.doorAdvance s n).rng = s.rng ∧
    (State.doorAdvance s n).dsp = s.dsp ∧
    (State.doorAdvance s n).shf = s.shf ∧
    (State.doorAdvance s n).rtc = s.rtc ∧
    (State.doorAdvance s n).pending = s.pending := by
  generalize h : State.doorAdvance s n = t
  unfold State.doorAdvance at h
  try dsimp only at h
  (repeat' split at h) <;> subst h <;> simp

@[simp] theorem State.doorTemp_frame (s : State) (n ohm : Nat) :
    (State.doorTemp s n ohm).pwr = s.pwr ∧
    (State.doorTemp s n ohm).lmp = s.lmp ∧
    (State.doorTemp s n ohm).host = s.host ∧
    (State.doorTemp s n ohm).grp = s.grp ∧
    (State.doorTemp s n ohm).gys = s.gys ∧
    (State.doorTemp s n ohm).hst = s.hst ∧
    (State.doorTemp s n ohm).cle = s.cle ∧
    (State.doorTemp s n ohm).saf = s.saf ∧
    (State.doorTemp s n ohm).fio = s.fio ∧
    (State.doorTemp s n ohm).can0 = s.can0 ∧
    (State.doorTemp s n ohm).can1 = s.can1 ∧
    (State.doorTemp s n ohm).rng = s.rng ∧
    (State.doorTemp s n ohm).dsp = s.dsp ∧
    (State.doorTemp s n ohm).shf = s.shf ∧
    (State.doorTemp s n ohm).rtc = s.rtc ∧
    (State.doorTemp s n ohm).pending = s.pending := by
  generalize h : State.doorTemp s n ohm = t
  unfold State.doorTemp at h
  try dsimp only at h
  (repeat' split at h) <;> subst h <;> simp

@[simp] theorem State.doorEnable_frame (s : State) (n : Nat) :
    (State.doorEnable s n).pwr = s.pwr ∧
    (State.doorEnable s n).lmp = s.lmp ∧
    (State.doorEnable s n).host = s.host ∧
    (State.doorEnable s n).grp = s.grp ∧
    (State.doorEnable s n).gys = s.gys ∧
    (State.doorEnable s n).hst = s.hst ∧
    (State.doorEnable s n).saf = s.saf ∧
    (State.doorEnable s n).fio = s.fio ∧
    (State.doorEnable s n).can0 = s.can0 ∧
    (State.doorEnable s n).can1 = s.can1 ∧
    (State.doorEnable s n).rng = s.rng ∧
    (State.doorEnable s n).dsp = s.dsp ∧
    (State.doorEnable s n).shf = s.shf ∧
    (State.doorEnable s n).tph = s.tph ∧
    (State.doorEnable s n).rtc = s.rtc ∧
    (State.doorEnable s n).sec = s.sec ∧
    (State.doorEnable s n).pending = s.pending := by
  generalize h : State.doorEnable s n = t
  unfold State.doorEnable at h
  try dsimp only at h
  (repeat' split at h) <;> subst h <;> simp

@[simp] theorem State.doorObstructed_frame (s : State) (n : Nat) :
    (State.doorObstructed s n).pwr = s.pwr ∧
    (State.doorObstructed s n).lmp = s.lmp ∧
    (State.doorObstructed s n).host = s.host ∧
    (State.doorObstructed s n).grp = s.grp ∧
    (State.doorObstructed s n).gys = s.gys ∧
    (State.doorObstructed s n).hst = s.hst ∧
    (State.doorObstructed s n).fio = s.fio ∧
    (State.doorObstructed s n).can0 = s.can0 ∧
    (State.doorObstructed s n).can1 = s.can1 ∧
    (State.doorObstructed s n).rng = s.rng ∧
    (State.doorObstructed s n).dsp = s.dsp ∧
    (State.doorObstructed s n).shf = s.shf ∧
    (State.doorObstructed s n).rtc = s.rtc ∧
    (State.doorObstructed s n).pending = s.pending := by
  generalize h : State.doorObstructed s n = t
  unfold State.doorObstructed at h
  try dsimp only at h
  (repeat' split at h) <;> subst h <;> simp

@[simp] theorem State.sodLost_frame (s : State) (n : Nat) :
    (State.sodLost s n).pwr = s.pwr ∧
    (State.sodLost s n).lmp = s.lmp ∧
    (State.sodLost s n).host = s.host ∧
    (State.sodLost s n).grp = s.grp ∧
    (State.sodLost s n).gys = s.gys ∧
    (State.sodLost s n).hst = s.hst ∧
    (State.sodLost s n).fio = s.fio ∧
    (State.sodLost s n).can0 = s.can0 ∧
    (State.sodLost s n).can1 = s.can1 ∧
    (State.sodLost s n).rng = s.rng ∧
    (State.sodLost s n).dsp = s.dsp ∧
    (State.sodLost s n).shf = s.shf ∧
    (State.sodLost s n).rtc = s.rtc ∧
    (State.sodLost s n).pending = s.pending := by
  generalize h : State.sodLost s n = t
  unfold State.sodLost at h
  try dsimp only at h
  (repeat' split at h) <;> subst h <;> simp

@[simp] theorem State.doorOwnOpen_frame (s : State) (n k : Nat) :
    (State.doorOwnOpen s n k).pwr = s.pwr ∧
    (State.doorOwnOpen s n k).lmp = s.lmp ∧
    (State.doorOwnOpen s n k).host = s.host ∧
    (State.doorOwnOpen s n k).grp = s.grp ∧
    (State.doorOwnOpen s n k).gys = s.gys ∧
    (State.doorOwnOpen s n k).hst = s.hst ∧
    (State.doorOwnOpen s n k).saf = s.saf ∧
    (State.doorOwnOpen s n k).fio = s.fio ∧
    (State.doorOwnOpen s n k).can0 = s.can0 ∧
    (State.doorOwnOpen s n k).can1 = s.can1 ∧
    (State.doorOwnOpen s n k).rng = s.rng ∧
    (State.doorOwnOpen s n k).dsp = s.dsp ∧
    (State.doorOwnOpen s n k).shf = s.shf ∧
    (State.doorOwnOpen s n k).rtc = s.rtc ∧
    (State.doorOwnOpen s n k).pending = s.pending := by
  generalize h : State.doorOwnOpen s n k = t
  unfold State.doorOwnOpen at h
  try dsimp only at h
  (repeat' split at h) <;> subst h <;> simp

@[simp] theorem State.doorArrivals_frame (s : State) (n : Nat) :
    (State.doorArrivals s n).pwr = s.pwr ∧
    (State.doorArrivals s n).lmp = s.lmp ∧
    (State.doorArrivals s n).host = s.host ∧
    (State.doorArrivals s n).grp = s.grp ∧
    (State.doorArrivals s n).gys = s.gys ∧
    (State.doorArrivals s n).hst = s.hst ∧
    (State.doorArrivals s n).fio = s.fio ∧
    (State.doorArrivals s n).can0 = s.can0 ∧
    (State.doorArrivals s n).can1 = s.can1 ∧
    (State.doorArrivals s n).rng = s.rng ∧
    (State.doorArrivals s n).dsp = s.dsp ∧
    (State.doorArrivals s n).shf = s.shf ∧
    (State.doorArrivals s n).rtc = s.rtc ∧
    (State.doorArrivals s n).pending = s.pending := by
  generalize h : State.doorArrivals s n = t
  unfold State.doorArrivals at h
  try dsimp only at h
  (repeat' split at h) <;> subst h <;> simp

@[simp] theorem State.doorRefStep_frame (s : State) (n : Nat) :
    (State.doorRefStep s n).pwr = s.pwr ∧
    (State.doorRefStep s n).lmp = s.lmp ∧
    (State.doorRefStep s n).host = s.host ∧
    (State.doorRefStep s n).grp = s.grp ∧
    (State.doorRefStep s n).gys = s.gys ∧
    (State.doorRefStep s n).hst = s.hst ∧
    (State.doorRefStep s n).saf = s.saf ∧
    (State.doorRefStep s n).fio = s.fio ∧
    (State.doorRefStep s n).can0 = s.can0 ∧
    (State.doorRefStep s n).can1 = s.can1 ∧
    (State.doorRefStep s n).rng = s.rng ∧
    (State.doorRefStep s n).dsp = s.dsp ∧
    (State.doorRefStep s n).shf = s.shf ∧
    (State.doorRefStep s n).rtc = s.rtc ∧
    (State.doorRefStep s n).pending = s.pending := by
  generalize h : State.doorRefStep s n = t
  unfold State.doorRefStep at h
  try dsimp only at h
  (repeat' split at h) <;> subst h <;> simp

@[simp] theorem State.doorEstimate_frame (s : State) (n : Nat) :
    (State.doorEstimate s n).pwr = s.pwr ∧
    (State.doorEstimate s n).lmp = s.lmp ∧
    (State.doorEstimate s n).host = s.host ∧
    (State.doorEstimate s n).dir = s.dir ∧
    (State.doorEstimate s n).grp = s.grp ∧
    (State.doorEstimate s n).gys = s.gys ∧
    (State.doorEstimate s n).hst = s.hst ∧
    (State.doorEstimate s n).cle = s.cle ∧
    (State.doorEstimate s n).saf = s.saf ∧
    (State.doorEstimate s n).fio = s.fio ∧
    (State.doorEstimate s n).can0 = s.can0 ∧
    (State.doorEstimate s n).can1 = s.can1 ∧
    (State.doorEstimate s n).rng = s.rng ∧
    (State.doorEstimate s n).dsp = s.dsp ∧
    (State.doorEstimate s n).shf = s.shf ∧
    (State.doorEstimate s n).tph = s.tph ∧
    (State.doorEstimate s n).rtc = s.rtc ∧
    (State.doorEstimate s n).sec = s.sec ∧
    (State.doorEstimate s n).pending = s.pending := by
  generalize h : State.doorEstimate s n = t
  unfold State.doorEstimate at h
  try dsimp only at h
  (repeat' split at h) <;> subst h <;> simp

@[simp] theorem State.doorMeasure_frame (s : State) (n : Nat) :
    (State.doorMeasure s n).pwr = s.pwr ∧
    (State.doorMeasure s n).lmp = s.lmp ∧
    (State.doorMeasure s n).host = s.host ∧
    (State.doorMeasure s n).dir = s.dir ∧
    (State.doorMeasure s n).grp = s.grp ∧
    (State.doorMeasure s n).gys = s.gys ∧
    (State.doorMeasure s n).hst = s.hst ∧
    (State.doorMeasure s n).cle = s.cle ∧
    (State.doorMeasure s n).saf = s.saf ∧
    (State.doorMeasure s n).fio = s.fio ∧
    (State.doorMeasure s n).can0 = s.can0 ∧
    (State.doorMeasure s n).can1 = s.can1 ∧
    (State.doorMeasure s n).rng = s.rng ∧
    (State.doorMeasure s n).dsp = s.dsp ∧
    (State.doorMeasure s n).shf = s.shf ∧
    (State.doorMeasure s n).tph = s.tph ∧
    (State.doorMeasure s n).rtc = s.rtc ∧
    (State.doorMeasure s n).sec = s.sec ∧
    (State.doorMeasure s n).pending = s.pending := by
  generalize h : State.doorMeasure s n = t
  unfold State.doorMeasure at h
  try dsimp only at h
  (repeat' split at h) <;> subst h <;> simp

@[simp] theorem State.doorLearnStop_frame (s : State) (n : Nat) :
    (State.doorLearnStop s n).pwr = s.pwr ∧
    (State.doorLearnStop s n).lmp = s.lmp ∧
    (State.doorLearnStop s n).host = s.host ∧
    (State.doorLearnStop s n).grp = s.grp ∧
    (State.doorLearnStop s n).gys = s.gys ∧
    (State.doorLearnStop s n).hst = s.hst ∧
    (State.doorLearnStop s n).saf = s.saf ∧
    (State.doorLearnStop s n).fio = s.fio ∧
    (State.doorLearnStop s n).can0 = s.can0 ∧
    (State.doorLearnStop s n).can1 = s.can1 ∧
    (State.doorLearnStop s n).rng = s.rng ∧
    (State.doorLearnStop s n).dsp = s.dsp ∧
    (State.doorLearnStop s n).shf = s.shf ∧
    (State.doorLearnStop s n).rtc = s.rtc ∧
    (State.doorLearnStop s n).pending = s.pending := by
  generalize h : State.doorLearnStop s n = t
  unfold State.doorLearnStop at h
  try dsimp only at h
  (repeat' split at h) <;> subst h <;> simp

@[simp] theorem State.doorLearnOpen_frame (s : State) (n : Nat) :
    (State.doorLearnOpen s n).pwr = s.pwr ∧
    (State.doorLearnOpen s n).lmp = s.lmp ∧
    (State.doorLearnOpen s n).host = s.host ∧
    (State.doorLearnOpen s n).grp = s.grp ∧
    (State.doorLearnOpen s n).gys = s.gys ∧
    (State.doorLearnOpen s n).hst = s.hst ∧
    (State.doorLearnOpen s n).saf = s.saf ∧
    (State.doorLearnOpen s n).fio = s.fio ∧
    (State.doorLearnOpen s n).can0 = s.can0 ∧
    (State.doorLearnOpen s n).can1 = s.can1 ∧
    (State.doorLearnOpen s n).rng = s.rng ∧
    (State.doorLearnOpen s n).dsp = s.dsp ∧
    (State.doorLearnOpen s n).shf = s.shf ∧
    (State.doorLearnOpen s n).rtc = s.rtc ∧
    (State.doorLearnOpen s n).pending = s.pending := by
  generalize h : State.doorLearnOpen s n = t
  unfold State.doorLearnOpen at h
  try dsimp only at h
  (repeat' split at h) <;> subst h <;> simp

@[simp] theorem State.doorLearnTick_frame (s : State) (n : Nat) :
    (State.doorLearnTick s n).pwr = s.pwr ∧
    (State.doorLearnTick s n).lmp = s.lmp ∧
    (State.doorLearnTick s n).host = s.host ∧
    (State.doorLearnTick s n).grp = s.grp ∧
    (State.doorLearnTick s n).gys = s.gys ∧
    (State.doorLearnTick s n).hst = s.hst ∧
    (State.doorLearnTick s n).saf = s.saf ∧
    (State.doorLearnTick s n).fio = s.fio ∧
    (State.doorLearnTick s n).can0 = s.can0 ∧
    (State.doorLearnTick s n).can1 = s.can1 ∧
    (State.doorLearnTick s n).rng = s.rng ∧
    (State.doorLearnTick s n).dsp = s.dsp ∧
    (State.doorLearnTick s n).shf = s.shf ∧
    (State.doorLearnTick s n).rtc = s.rtc ∧
    (State.doorLearnTick s n).pending = s.pending := by
  generalize h : State.doorLearnTick s n = t
  unfold State.doorLearnTick at h
  try dsimp only at h
  (repeat' split at h) <;> subst h <;> simp

@[simp] theorem State.doorInputs_frame (s : State) (n : Nat) :
    (State.doorInputs s n).pwr = s.pwr ∧
    (State.doorInputs s n).lmp = s.lmp ∧
    (State.doorInputs s n).host = s.host ∧
    (State.doorInputs s n).dir = s.dir ∧
    (State.doorInputs s n).grp = s.grp ∧
    (State.doorInputs s n).gys = s.gys ∧
    (State.doorInputs s n).hst = s.hst ∧
    (State.doorInputs s n).dr0 = s.dr0 ∧
    (State.doorInputs s n).dr1 = s.dr1 ∧
    (State.doorInputs s n).saf = s.saf ∧
    (State.doorInputs s n).fio = s.fio ∧
    (State.doorInputs s n).can0 = s.can0 ∧
    (State.doorInputs s n).can1 = s.can1 ∧
    (State.doorInputs s n).rng = s.rng ∧
    (State.doorInputs s n).dsp = s.dsp ∧
    (State.doorInputs s n).shf = s.shf ∧
    (State.doorInputs s n).tph = s.tph ∧
    (State.doorInputs s n).rtc = s.rtc ∧
    (State.doorInputs s n).sec = s.sec ∧
    (State.doorInputs s n).pending = s.pending := by
  generalize h : State.doorInputs s n = t
  unfold State.doorInputs at h
  try dsimp only at h
  (repeat' split at h) <;> subst h <;> simp

@[simp] theorem State.doorRest_frame (s : State) (n : Nat) :
    (State.doorRest s n).pwr = s.pwr ∧
    (State.doorRest s n).lmp = s.lmp ∧
    (State.doorRest s n).host = s.host ∧
    (State.doorRest s n).dir = s.dir ∧
    (State.doorRest s n).grp = s.grp ∧
    (State.doorRest s n).gys = s.gys ∧
    (State.doorRest s n).hst = s.hst ∧
    (State.doorRest s n).cle = s.cle ∧
    (State.doorRest s n).saf = s.saf ∧
    (State.doorRest s n).fio = s.fio ∧
    (State.doorRest s n).can0 = s.can0 ∧
    (State.doorRest s n).can1 = s.can1 ∧
    (State.doorRest s n).rng = s.rng ∧
    (State.doorRest s n).dsp = s.dsp ∧
    (State.doorRest s n).shf = s.shf ∧
    (State.doorRest s n).tph = s.tph ∧
    (State.doorRest s n).rtc = s.rtc ∧
    (State.doorRest s n).sec = s.sec ∧
    (State.doorRest s n).pending = s.pending := by
  generalize h : State.doorRest s n = t
  unfold State.doorRest at h
  try dsimp only at h
  (repeat' split at h) <;> subst h <;> simp

@[simp] theorem State.doorShift_frame (s : State) (n : Nat) (xe to_ : Int) :
    (State.doorShift s n xe to_).pwr = s.pwr ∧
    (State.doorShift s n xe to_).lmp = s.lmp ∧
    (State.doorShift s n xe to_).host = s.host ∧
    (State.doorShift s n xe to_).dir = s.dir ∧
    (State.doorShift s n xe to_).grp = s.grp ∧
    (State.doorShift s n xe to_).gys = s.gys ∧
    (State.doorShift s n xe to_).hst = s.hst ∧
    (State.doorShift s n xe to_).cle = s.cle ∧
    (State.doorShift s n xe to_).saf = s.saf ∧
    (State.doorShift s n xe to_).fio = s.fio ∧
    (State.doorShift s n xe to_).can0 = s.can0 ∧
    (State.doorShift s n xe to_).can1 = s.can1 ∧
    (State.doorShift s n xe to_).rng = s.rng ∧
    (State.doorShift s n xe to_).dsp = s.dsp ∧
    (State.doorShift s n xe to_).shf = s.shf ∧
    (State.doorShift s n xe to_).tph = s.tph ∧
    (State.doorShift s n xe to_).rtc = s.rtc ∧
    (State.doorShift s n xe to_).sec = s.sec ∧
    (State.doorShift s n xe to_).pending = s.pending := by
  generalize h : State.doorShift s n xe to_ = t
  unfold State.doorShift at h
  try dsimp only at h
  (repeat' split at h) <;> subst h <;> simp

@[simp] theorem State.doorDrift_frame (s : State) (n : Nat) (dev : Int) :
    (State.doorDrift s n dev).pwr = s.pwr ∧
    (State.doorDrift s n dev).lmp = s.lmp ∧
    (State.doorDrift s n dev).host = s.host ∧
    (State.doorDrift s n dev).grp = s.grp ∧
    (State.doorDrift s n dev).gys = s.gys ∧
    (State.doorDrift s n dev).hst = s.hst ∧
    (State.doorDrift s n dev).cle = s.cle ∧
    (State.doorDrift s n dev).saf = s.saf ∧
    (State.doorDrift s n dev).fio = s.fio ∧
    (State.doorDrift s n dev).can0 = s.can0 ∧
    (State.doorDrift s n dev).can1 = s.can1 ∧
    (State.doorDrift s n dev).rng = s.rng ∧
    (State.doorDrift s n dev).dsp = s.dsp ∧
    (State.doorDrift s n dev).shf = s.shf ∧
    (State.doorDrift s n dev).rtc = s.rtc ∧
    (State.doorDrift s n dev).pending = s.pending := by
  generalize h : State.doorDrift s n dev = t
  unfold State.doorDrift at h
  try dsimp only at h
  (repeat' split at h) <;> subst h <;> simp

@[simp] theorem State.doorReferenced_frame (s : State) (n which : Nat) :
    (State.doorReferenced s n which).pwr = s.pwr ∧
    (State.doorReferenced s n which).lmp = s.lmp ∧
    (State.doorReferenced s n which).host = s.host ∧
    (State.doorReferenced s n which).grp = s.grp ∧
    (State.doorReferenced s n which).gys = s.gys ∧
    (State.doorReferenced s n which).hst = s.hst ∧
    (State.doorReferenced s n which).saf = s.saf ∧
    (State.doorReferenced s n which).fio = s.fio ∧
    (State.doorReferenced s n which).can0 = s.can0 ∧
    (State.doorReferenced s n which).can1 = s.can1 ∧
    (State.doorReferenced s n which).rng = s.rng ∧
    (State.doorReferenced s n which).dsp = s.dsp ∧
    (State.doorReferenced s n which).shf = s.shf ∧
    (State.doorReferenced s n which).rtc = s.rtc ∧
    (State.doorReferenced s n which).pending = s.pending := by
  generalize h : State.doorReferenced s n which = t
  unfold State.doorReferenced at h
  try dsimp only at h
  (repeat' split at h) <;> subst h <;> simp

@[simp] theorem State.learnPass_frame (s : State) (n : Nat) (up : Bool) :
    (State.learnPass s n up).pwr = s.pwr ∧
    (State.learnPass s n up).lmp = s.lmp ∧
    (State.learnPass s n up).host = s.host ∧
    (State.learnPass s n up).grp = s.grp ∧
    (State.learnPass s n up).gys = s.gys ∧
    (State.learnPass s n up).hst = s.hst ∧
    (State.learnPass s n up).cle = s.cle ∧
    (State.learnPass s n up).saf = s.saf ∧
    (State.learnPass s n up).fio = s.fio ∧
    (State.learnPass s n up).can0 = s.can0 ∧
    (State.learnPass s n up).can1 = s.can1 ∧
    (State.learnPass s n up).rng = s.rng ∧
    (State.learnPass s n up).dsp = s.dsp ∧
    (State.learnPass s n up).shf = s.shf ∧
    (State.learnPass s n up).rtc = s.rtc ∧
    (State.learnPass s n up).pending = s.pending := by
  generalize h : State.learnPass s n up = t
  unfold State.learnPass at h
  try dsimp only at h
  (repeat' split at h) <;> subst h <;> simp

@[simp] theorem State.endHold_frame (s : State) (n : Nat) (st : DSt) :
    (State.endHold s n st).pwr = s.pwr ∧
    (State.endHold s n st).lmp = s.lmp ∧
    (State.endHold s n st).host = s.host ∧
    (State.endHold s n st).grp = s.grp ∧
    (State.endHold s n st).gys = s.gys ∧
    (State.endHold s n st).hst = s.hst ∧
    (State.endHold s n st).saf = s.saf ∧
    (State.endHold s n st).fio = s.fio ∧
    (State.endHold s n st).can0 = s.can0 ∧
    (State.endHold s n st).can1 = s.can1 ∧
    (State.endHold s n st).rng = s.rng ∧
    (State.endHold s n st).dsp = s.dsp ∧
    (State.endHold s n st).shf = s.shf ∧
    (State.endHold s n st).tph = s.tph ∧
    (State.endHold s n st).rtc = s.rtc ∧
    (State.endHold s n st).sec = s.sec ∧
    (State.endHold s n st).pending = s.pending := by
  generalize h : State.endHold s n st = t
  unfold State.endHold at h
  try dsimp only at h
  (repeat' split at h) <;> subst h <;> simp

@[simp] theorem State.doorLearned_frame (s : State) (n : Nat) :
    (State.doorLearned s n).pwr = s.pwr ∧
    (State.doorLearned s n).lmp = s.lmp ∧
    (State.doorLearned s n).host = s.host ∧
    (State.doorLearned s n).grp = s.grp ∧
    (State.doorLearned s n).gys = s.gys ∧
    (State.doorLearned s n).hst = s.hst ∧
    (State.doorLearned s n).cle = s.cle ∧
    (State.doorLearned s n).saf = s.saf ∧
    (State.doorLearned s n).fio = s.fio ∧
    (State.doorLearned s n).can0 = s.can0 ∧
    (State.doorLearned s n).can1 = s.can1 ∧
    (State.doorLearned s n).rng = s.rng ∧
    (State.doorLearned s n).dsp = s.dsp ∧
    (State.doorLearned s n).shf = s.shf ∧
    (State.doorLearned s n).rtc = s.rtc ∧
    (State.doorLearned s n).pending = s.pending := by
  generalize h : State.doorLearned s n = t
  unfold State.doorLearned at h
  try dsimp only at h
  (repeat' split at h) <;> subst h <;> simp

@[simp] theorem State.noteOpen_frame (s : State) :
    (State.noteOpen s).pwr = s.pwr ∧
    (State.noteOpen s).lmp = s.lmp ∧
    (State.noteOpen s).host = s.host ∧
    (State.noteOpen s).dir = s.dir ∧
    (State.noteOpen s).grp = s.grp ∧
    (State.noteOpen s).gys = s.gys ∧
    (State.noteOpen s).hst = s.hst ∧
    (State.noteOpen s).cle = s.cle ∧
    (State.noteOpen s).dr0 = s.dr0 ∧
    (State.noteOpen s).dr1 = s.dr1 ∧
    (State.noteOpen s).saf = s.saf ∧
    (State.noteOpen s).fio = s.fio ∧
    (State.noteOpen s).can0 = s.can0 ∧
    (State.noteOpen s).can1 = s.can1 ∧
    (State.noteOpen s).rng = s.rng ∧
    (State.noteOpen s).shf = s.shf ∧
    (State.noteOpen s).tph = s.tph ∧
    (State.noteOpen s).rtc = s.rtc ∧
    (State.noteOpen s).sec = s.sec ∧
    (State.noteOpen s).pending = s.pending := by
  generalize h : State.noteOpen s = t
  unfold State.noteOpen at h
  try dsimp only at h
  (repeat' split at h) <;> subst h <;> simp

@[simp] theorem State.noteBoarding_frame (s : State) :
    (State.noteBoarding s).pwr = s.pwr ∧
    (State.noteBoarding s).lmp = s.lmp ∧
    (State.noteBoarding s).host = s.host ∧
    (State.noteBoarding s).dir = s.dir ∧
    (State.noteBoarding s).grp = s.grp ∧
    (State.noteBoarding s).gys = s.gys ∧
    (State.noteBoarding s).hst = s.hst ∧
    (State.noteBoarding s).cle = s.cle ∧
    (State.noteBoarding s).dr0 = s.dr0 ∧
    (State.noteBoarding s).dr1 = s.dr1 ∧
    (State.noteBoarding s).saf = s.saf ∧
    (State.noteBoarding s).fio = s.fio ∧
    (State.noteBoarding s).can0 = s.can0 ∧
    (State.noteBoarding s).can1 = s.can1 ∧
    (State.noteBoarding s).rng = s.rng ∧
    (State.noteBoarding s).shf = s.shf ∧
    (State.noteBoarding s).tph = s.tph ∧
    (State.noteBoarding s).rtc = s.rtc ∧
    (State.noteBoarding s).sec = s.sec ∧
    (State.noteBoarding s).pending = s.pending := by
  generalize h : State.noteBoarding s = t
  unfold State.noteBoarding at h
  try dsimp only at h
  (repeat' split at h) <;> subst h <;> simp

@[simp] theorem State.doorOpened_frame (s : State) (n : Nat) :
    (State.doorOpened s n).pwr = s.pwr ∧
    (State.doorOpened s n).lmp = s.lmp ∧
    (State.doorOpened s n).host = s.host ∧
    (State.doorOpened s n).grp = s.grp ∧
    (State.doorOpened s n).gys = s.gys ∧
    (State.doorOpened s n).hst = s.hst ∧
    (State.doorOpened s n).saf = s.saf ∧
    (State.doorOpened s n).fio = s.fio ∧
    (State.doorOpened s n).can0 = s.can0 ∧
    (State.doorOpened s n).can1 = s.can1 ∧
    (State.doorOpened s n).rng = s.rng ∧
    (State.doorOpened s n).shf = s.shf ∧
    (State.doorOpened s n).rtc = s.rtc ∧
    (State.doorOpened s n).pending = s.pending := by
  generalize h : State.doorOpened s n = t
  unfold State.doorOpened at h
  try dsimp only at h
  (repeat' split at h) <;> subst h <;> simp

@[simp] theorem State.saveProfile_frame (s : State) (n : Nat) :
    (State.saveProfile s n).pwr = s.pwr ∧
    (State.saveProfile s n).lmp = s.lmp ∧
    (State.saveProfile s n).host = s.host ∧
    (State.saveProfile s n).grp = s.grp ∧
    (State.saveProfile s n).gys = s.gys ∧
    (State.saveProfile s n).hst = s.hst ∧
    (State.saveProfile s n).cle = s.cle ∧
    (State.saveProfile s n).saf = s.saf ∧
    (State.saveProfile s n).fio = s.fio ∧
    (State.saveProfile s n).can0 = s.can0 ∧
    (State.saveProfile s n).can1 = s.can1 ∧
    (State.saveProfile s n).rng = s.rng ∧
    (State.saveProfile s n).dsp = s.dsp ∧
    (State.saveProfile s n).shf = s.shf ∧
    (State.saveProfile s n).rtc = s.rtc ∧
    (State.saveProfile s n).pending = s.pending := by
  generalize h : State.saveProfile s n = t
  unfold State.saveProfile at h
  try dsimp only at h
  (repeat' split at h) <;> subst h <;> simp

@[simp] theorem State.doorsDormant_pwr (s : State) : (State.doorsDormant s).pwr = s.pwr := by
  unfold State.doorsDormant; (repeat' split) <;> first | (simp; done) | ((try dsimp only); rw [foldl_pwr] <;> (try intro s x) <;> (repeat' split) <;> simp; done)

@[simp] theorem State.doorsDormant_lmp (s : State) : (State.doorsDormant s).lmp = s.lmp := by
  unfold State.doorsDormant; (repeat' split) <;> first | (simp; done) | ((try dsimp only); rw [foldl_lmp] <;> (try intro s x) <;> (repeat' split) <;> simp; done)

@[simp] theorem State.doorsDormant_host (s : State) : (State.doorsDormant s).host = s.host := by
  unfold State.doorsDormant; (repeat' split) <;> first | (simp; done) | ((try dsimp only); rw [foldl_host] <;> (try intro s x) <;> (repeat' split) <;> simp; done)

@[simp] theorem State.doorsDormant_grp (s : State) : (State.doorsDormant s).grp = s.grp := by
  unfold State.doorsDormant; (repeat' split) <;> first | (simp; done) | ((try dsimp only); rw [foldl_grp] <;> (try intro s x) <;> (repeat' split) <;> simp; done)

@[simp] theorem State.doorsDormant_gys (s : State) : (State.doorsDormant s).gys = s.gys := by
  unfold State.doorsDormant; (repeat' split) <;> first | (simp; done) | ((try dsimp only); rw [foldl_gys] <;> (try intro s x) <;> (repeat' split) <;> simp; done)

@[simp] theorem State.doorsDormant_hst (s : State) : (State.doorsDormant s).hst = s.hst := by
  unfold State.doorsDormant; (repeat' split) <;> first | (simp; done) | ((try dsimp only); rw [foldl_hst] <;> (try intro s x) <;> (repeat' split) <;> simp; done)

@[simp] theorem State.doorsDormant_cle (s : State) : (State.doorsDormant s).cle = s.cle := by
  unfold State.doorsDormant; (repeat' split) <;> first | (simp; done) | ((try dsimp only); rw [foldl_cle] <;> (try intro s x) <;> (repeat' split) <;> simp; done)

@[simp] theorem State.doorsDormant_saf (s : State) : (State.doorsDormant s).saf = s.saf := by
  unfold State.doorsDormant; (repeat' split) <;> first | (simp; done) | ((try dsimp only); rw [foldl_saf] <;> (try intro s x) <;> (repeat' split) <;> simp; done)

@[simp] theorem State.doorsDormant_fio (s : State) : (State.doorsDormant s).fio = s.fio := by
  unfold State.doorsDormant; (repeat' split) <;> first | (simp; done) | ((try dsimp only); rw [foldl_fio] <;> (try intro s x) <;> (repeat' split) <;> simp; done)

@[simp] theorem State.doorsDormant_can0 (s : State) : (State.doorsDormant s).can0 = s.can0 := by
  unfold State.doorsDormant; (repeat' split) <;> first | (simp; done) | ((try dsimp only); rw [foldl_can0] <;> (try intro s x) <;> (repeat' split) <;> simp; done)

@[simp] theorem State.doorsDormant_can1 (s : State) : (State.doorsDormant s).can1 = s.can1 := by
  unfold State.doorsDormant; (repeat' split) <;> first | (simp; done) | ((try dsimp only); rw [foldl_can1] <;> (try intro s x) <;> (repeat' split) <;> simp; done)

@[simp] theorem State.doorsDormant_rng (s : State) : (State.doorsDormant s).rng = s.rng := by
  unfold State.doorsDormant; (repeat' split) <;> first | (simp; done) | ((try dsimp only); rw [foldl_rng] <;> (try intro s x) <;> (repeat' split) <;> simp; done)

@[simp] theorem State.doorsDormant_dsp (s : State) : (State.doorsDormant s).dsp = s.dsp := by
  unfold State.doorsDormant; (repeat' split) <;> first | (simp; done) | ((try dsimp only); rw [foldl_dsp] <;> (try intro s x) <;> (repeat' split) <;> simp; done)

@[simp] theorem State.doorsDormant_shf (s : State) : (State.doorsDormant s).shf = s.shf := by
  unfold State.doorsDormant; (repeat' split) <;> first | (simp; done) | ((try dsimp only); rw [foldl_shf] <;> (try intro s x) <;> (repeat' split) <;> simp; done)

@[simp] theorem State.doorsDormant_rtc (s : State) : (State.doorsDormant s).rtc = s.rtc := by
  unfold State.doorsDormant; (repeat' split) <;> first | (simp; done) | ((try dsimp only); rw [foldl_rtc] <;> (try intro s x) <;> (repeat' split) <;> simp; done)

@[simp] theorem State.doorsDormant_pending (s : State) : (State.doorsDormant s).pending = s.pending := by
  unfold State.doorsDormant; (repeat' split) <;> first | (simp; done) | ((try dsimp only); rw [foldl_pending] <;> (try intro s x) <;> (repeat' split) <;> simp; done)

@[simp] theorem State.doorsWake_pwr (s : State) : (State.doorsWake s).pwr = s.pwr := by
  unfold State.doorsWake; (repeat' split) <;> first | (simp; done) | ((try dsimp only); rw [foldl_pwr] <;> (try intro s x) <;> (repeat' split) <;> simp; done)

@[simp] theorem State.doorsWake_lmp (s : State) : (State.doorsWake s).lmp = s.lmp := by
  unfold State.doorsWake; (repeat' split) <;> first | (simp; done) | ((try dsimp only); rw [foldl_lmp] <;> (try intro s x) <;> (repeat' split) <;> simp; done)

@[simp] theorem State.doorsWake_host (s : State) : (State.doorsWake s).host = s.host := by
  unfold State.doorsWake; (repeat' split) <;> first | (simp; done) | ((try dsimp only); rw [foldl_host] <;> (try intro s x) <;> (repeat' split) <;> simp; done)

@[simp] theorem State.doorsWake_grp (s : State) : (State.doorsWake s).grp = s.grp := by
  unfold State.doorsWake; (repeat' split) <;> first | (simp; done) | ((try dsimp only); rw [foldl_grp] <;> (try intro s x) <;> (repeat' split) <;> simp; done)

@[simp] theorem State.doorsWake_gys (s : State) : (State.doorsWake s).gys = s.gys := by
  unfold State.doorsWake; (repeat' split) <;> first | (simp; done) | ((try dsimp only); rw [foldl_gys] <;> (try intro s x) <;> (repeat' split) <;> simp; done)

@[simp] theorem State.doorsWake_hst (s : State) : (State.doorsWake s).hst = s.hst := by
  unfold State.doorsWake; (repeat' split) <;> first | (simp; done) | ((try dsimp only); rw [foldl_hst] <;> (try intro s x) <;> (repeat' split) <;> simp; done)

@[simp] theorem State.doorsWake_saf (s : State) : (State.doorsWake s).saf = s.saf := by
  unfold State.doorsWake; (repeat' split) <;> first | (simp; done) | ((try dsimp only); rw [foldl_saf] <;> (try intro s x) <;> (repeat' split) <;> simp; done)

@[simp] theorem State.doorsWake_fio (s : State) : (State.doorsWake s).fio = s.fio := by
  unfold State.doorsWake; (repeat' split) <;> first | (simp; done) | ((try dsimp only); rw [foldl_fio] <;> (try intro s x) <;> (repeat' split) <;> simp; done)

@[simp] theorem State.doorsWake_can0 (s : State) : (State.doorsWake s).can0 = s.can0 := by
  unfold State.doorsWake; (repeat' split) <;> first | (simp; done) | ((try dsimp only); rw [foldl_can0] <;> (try intro s x) <;> (repeat' split) <;> simp; done)

@[simp] theorem State.doorsWake_can1 (s : State) : (State.doorsWake s).can1 = s.can1 := by
  unfold State.doorsWake; (repeat' split) <;> first | (simp; done) | ((try dsimp only); rw [foldl_can1] <;> (try intro s x) <;> (repeat' split) <;> simp; done)

@[simp] theorem State.doorsWake_rng (s : State) : (State.doorsWake s).rng = s.rng := by
  unfold State.doorsWake; (repeat' split) <;> first | (simp; done) | ((try dsimp only); rw [foldl_rng] <;> (try intro s x) <;> (repeat' split) <;> simp; done)

@[simp] theorem State.doorsWake_dsp (s : State) : (State.doorsWake s).dsp = s.dsp := by
  unfold State.doorsWake; (repeat' split) <;> first | (simp; done) | ((try dsimp only); rw [foldl_dsp] <;> (try intro s x) <;> (repeat' split) <;> simp; done)

@[simp] theorem State.doorsWake_shf (s : State) : (State.doorsWake s).shf = s.shf := by
  unfold State.doorsWake; (repeat' split) <;> first | (simp; done) | ((try dsimp only); rw [foldl_shf] <;> (try intro s x) <;> (repeat' split) <;> simp; done)

@[simp] theorem State.doorsWake_rtc (s : State) : (State.doorsWake s).rtc = s.rtc := by
  unfold State.doorsWake; (repeat' split) <;> first | (simp; done) | ((try dsimp only); rw [foldl_rtc] <;> (try intro s x) <;> (repeat' split) <;> simp; done)

@[simp] theorem State.doorsWake_pending (s : State) : (State.doorsWake s).pending = s.pending := by
  unfold State.doorsWake; (repeat' split) <;> first | (simp; done) | ((try dsimp only); rw [foldl_pending] <;> (try intro s x) <;> (repeat' split) <;> simp; done)

end Sys2Proof.Machine
end

