-- ==== Sys2Proof/Laws/FrFio.lean ====
section
/-!
SUPPORT. For each operation of Machine/Fio.lean on the device, the blocks it leaves as they were.
-/
namespace Sys2Proof.Machine
set_option linter.unusedTactic false
set_option linter.unnecessarySeqFocus false
set_option linter.unreachableTactic false
set_option linter.unusedSimpArgs false
set_option linter.unusedVariables false

@[simp] theorem State.modFch_frame (s : State) (n : Nat) (f : FCh → FCh) :
    (State.modFch s n f).pwr = s.pwr ∧
    (State.modFch s n f).lmp = s.lmp ∧
    (State.modFch s n f).host = s.host ∧
    (State.modFch s n f).dir = s.dir ∧
    (State.modFch s n f).grp = s.grp ∧
    (State.modFch s n f).gys = s.gys ∧
    (State.modFch s n f).hst = s.hst ∧
    (State.modFch s n f).cle = s.cle ∧
    (State.modFch s n f).dr0 = s.dr0 ∧
    (State.modFch s n f).dr1 = s.dr1 ∧
    (State.modFch s n f).saf = s.saf ∧
    (State.modFch s n f).can0 = s.can0 ∧
    (State.modFch s n f).can1 = s.can1 ∧
    (State.modFch s n f).rng = s.rng ∧
    (State.modFch s n f).dsp = s.dsp ∧
    (State.modFch s n f).shf = s.shf ∧
    (State.modFch s n f).tph = s.tph ∧
    (State.modFch s n f).rtc = s.rtc ∧
    (State.modFch s n f).sec = s.sec ∧
    (State.modFch s n f).pending = s.pending := by
  generalize h : State.modFch s n f = t
  unfold State.modFch at h
  try dsimp only at h
  (repeat' split at h) <;> subst h <;> simp

@[simp] theorem State.deliverEdge_pwr (s : State) (n : Nat) (e : FEdge) : (State.deliverEdge s n e).pwr = s.pwr := by
  unfold State.deliverEdge; (repeat' split) <;> first | (simp; done) | ((try dsimp only); rw [foldl_pwr] <;> (try intro s x) <;> (repeat' split) <;> simp; done)

@[simp] theorem State.deliverEdge_lmp (s : State) (n : Nat) (e : FEdge) : (State.deliverEdge s n e).lmp = s.lmp := by
  unfold State.deliverEdge; (repeat' split) <;> first | (simp; done) | ((try dsimp only); rw [foldl_lmp] <;> (try intro s x) <;> (repeat' split) <;> simp; done)

@[simp] theorem State.deliverEdge_host (s : State) (n : Nat) (e : FEdge) : (State.deliverEdge s n e).host = s.host := by
  unfold State.deliverEdge; (repeat' split) <;> first | (simp; done) | ((try dsimp only); rw [foldl_host] <;> (try intro s x) <;> (repeat' split) <;> simp; done)

@[simp] theorem State.deliverEdge_grp (s : State) (n : Nat) (e : FEdge) : (State.deliverEdge s n e).grp = s.grp := by
  unfold State.deliverEdge; (repeat' split) <;> first | (simp; done) | ((try dsimp only); rw [foldl_grp] <;> (try intro s x) <;> (repeat' split) <;> simp; done)

@[simp] theorem State.deliverEdge_gys (s : State) (n : Nat) (e : FEdge) : (State.deliverEdge s n e).gys = s.gys := by
  unfold State.deliverEdge; (repeat' split) <;> first | (simp; done) | ((try dsimp only); rw [foldl_gys] <;> (try intro s x) <;> (repeat' split) <;> simp; done)

@[simp] theorem State.deliverEdge_cle (s : State) (n : Nat) (e : FEdge) : (State.deliverEdge s n e).cle = s.cle := by
  unfold State.deliverEdge; (repeat' split) <;> first | (simp; done) | ((try dsimp only); rw [foldl_cle] <;> (try intro s x) <;> (repeat' split) <;> simp; done)

@[simp] theorem State.deliverEdge_saf (s : State) (n : Nat) (e : FEdge) : (State.deliverEdge s n e).saf = s.saf := by
  unfold State.deliverEdge; (repeat' split) <;> first | (simp; done) | ((try dsimp only); rw [foldl_saf] <;> (try intro s x) <;> (repeat' split) <;> simp; done)

@[simp] theorem State.deliverEdge_fio (s : State) (n : Nat) (e : FEdge) : (State.deliverEdge s n e).fio = s.fio := by
  unfold State.deliverEdge; (repeat' split) <;> first | (simp; done) | ((try dsimp only); rw [foldl_fio] <;> (try intro s x) <;> (repeat' split) <;> simp; done)

@[simp] theorem State.deliverEdge_can0 (s : State) (n : Nat) (e : FEdge) : (State.deliverEdge s n e).can0 = s.can0 := by
  unfold State.deliverEdge; (repeat' split) <;> first | (simp; done) | ((try dsimp only); rw [foldl_can0] <;> (try intro s x) <;> (repeat' split) <;> simp; done)

@[simp] theorem State.deliverEdge_can1 (s : State) (n : Nat) (e : FEdge) : (State.deliverEdge s n e).can1 = s.can1 := by
  unfold State.deliverEdge; (repeat' split) <;> first | (simp; done) | ((try dsimp only); rw [foldl_can1] <;> (try intro s x) <;> (repeat' split) <;> simp; done)

@[simp] theorem State.deliverEdge_rng (s : State) (n : Nat) (e : FEdge) : (State.deliverEdge s n e).rng = s.rng := by
  unfold State.deliverEdge; (repeat' split) <;> first | (simp; done) | ((try dsimp only); rw [foldl_rng] <;> (try intro s x) <;> (repeat' split) <;> simp; done)

@[simp] theorem State.deliverEdge_dsp (s : State) (n : Nat) (e : FEdge) : (State.deliverEdge s n e).dsp = s.dsp := by
  unfold State.deliverEdge; (repeat' split) <;> first | (simp; done) | ((try dsimp only); rw [foldl_dsp] <;> (try intro s x) <;> (repeat' split) <;> simp; done)

@[simp] theorem State.deliverEdge_shf (s : State) (n : Nat) (e : FEdge) : (State.deliverEdge s n e).shf = s.shf := by
  unfold State.deliverEdge; (repeat' split) <;> first | (simp; done) | ((try dsimp only); rw [foldl_shf] <;> (try intro s x) <;> (repeat' split) <;> simp; done)

@[simp] theorem State.deliverEdge_rtc (s : State) (n : Nat) (e : FEdge) : (State.deliverEdge s n e).rtc = s.rtc := by
  unfold State.deliverEdge; (repeat' split) <;> first | (simp; done) | ((try dsimp only); rw [foldl_rtc] <;> (try intro s x) <;> (repeat' split) <;> simp; done)

@[simp] theorem State.deliverEdge_pending (s : State) (n : Nat) (e : FEdge) : (State.deliverEdge s n e).pending = s.pending := by
  unfold State.deliverEdge; (repeat' split) <;> first | (simp; done) | ((try dsimp only); rw [foldl_pending] <;> (try intro s x) <;> (repeat' split) <;> simp; done)

@[simp] theorem State.deliverChannel_frame (s : State) (n : Nat) :
    (State.deliverChannel s n).pwr = s.pwr ∧
    (State.deliverChannel s n).lmp = s.lmp ∧
    (State.deliverChannel s n).host = s.host ∧
    (State.deliverChannel s n).grp = s.grp ∧
    (State.deliverChannel s n).gys = s.gys ∧
    (State.deliverChannel s n).cle = s.cle ∧
    (State.deliverChannel s n).saf = s.saf ∧
    (State.deliverChannel s n).can0 = s.can0 ∧
    (State.deliverChannel s n).can1 = s.can1 ∧
    (State.deliverChannel s n).rng = s.rng ∧
    (State.deliverChannel s n).dsp = s.dsp ∧
    (State.deliverChannel s n).shf = s.shf ∧
    (State.deliverChannel s n).rtc = s.rtc ∧
    (State.deliverChannel s n).pending = s.pending := by
  generalize h : State.deliverChannel s n = t
  unfold State.deliverChannel at h
  try dsimp only at h
  (repeat' split at h) <;> subst h <;> simp

@[simp] theorem State.sampleChannel_frame (s : State) (n : Nat) (raw : Nat) :
    (State.sampleChannel s n raw).pwr = s.pwr ∧
    (State.sampleChannel s n raw).lmp = s.lmp ∧
    (State.sampleChannel s n raw).host = s.host ∧
    (State.sampleChannel s n raw).dir = s.dir ∧
    (State.sampleChannel s n raw).grp = s.grp ∧
    (State.sampleChannel s n raw).gys = s.gys ∧
    (State.sampleChannel s n raw).hst = s.hst ∧
    (State.sampleChannel s n raw).cle = s.cle ∧
    (State.sampleChannel s n raw).dr0 = s.dr0 ∧
    (State.sampleChannel s n raw).dr1 = s.dr1 ∧
    (State.sampleChannel s n raw).saf = s.saf ∧
    (State.sampleChannel s n raw).can0 = s.can0 ∧
    (State.sampleChannel s n raw).can1 = s.can1 ∧
    (State.sampleChannel s n raw).rng = s.rng ∧
    (State.sampleChannel s n raw).dsp = s.dsp ∧
    (State.sampleChannel s n raw).shf = s.shf ∧
    (State.sampleChannel s n raw).tph = s.tph ∧
    (State.sampleChannel s n raw).rtc = s.rtc ∧
    (State.sampleChannel s n raw).sec = s.sec ∧
    (State.sampleChannel s n raw).pending = s.pending := by
  generalize h : State.sampleChannel s n raw = t
  unfold State.sampleChannel at h
  try dsimp only at h
  (repeat' split at h) <;> subst h <;> simp

@[simp] theorem State.readback_frame (s : State) (n : Nat) (nodes lim mA : Nat) :
    (State.readback s n nodes lim mA).pwr = s.pwr ∧
    (State.readback s n nodes lim mA).lmp = s.lmp ∧
    (State.readback s n nodes lim mA).host = s.host ∧
    (State.readback s n nodes lim mA).dir = s.dir ∧
    (State.readback s n nodes lim mA).grp = s.grp ∧
    (State.readback s n nodes lim mA).gys = s.gys ∧
    (State.readback s n nodes lim mA).hst = s.hst ∧
    (State.readback s n nodes lim mA).cle = s.cle ∧
    (State.readback s n nodes lim mA).dr0 = s.dr0 ∧
    (State.readback s n nodes lim mA).dr1 = s.dr1 ∧
    (State.readback s n nodes lim mA).saf = s.saf ∧
    (State.readback s n nodes lim mA).can0 = s.can0 ∧
    (State.readback s n nodes lim mA).can1 = s.can1 ∧
    (State.readback s n nodes lim mA).rng = s.rng ∧
    (State.readback s n nodes lim mA).dsp = s.dsp ∧
    (State.readback s n nodes lim mA).shf = s.shf ∧
    (State.readback s n nodes lim mA).tph = s.tph ∧
    (State.readback s n nodes lim mA).rtc = s.rtc ∧
    (State.readback s n nodes lim mA).sec = s.sec ∧
    (State.readback s n nodes lim mA).pending = s.pending := by
  generalize h : State.readback s n nodes lim mA = t
  unfold State.readback at h
  try dsimp only at h
  (repeat' split at h) <;> subst h <;> simp

@[simp] theorem State.aggregate_frame (s : State) :
    (State.aggregate s).pwr = s.pwr ∧
    (State.aggregate s).lmp = s.lmp ∧
    (State.aggregate s).host = s.host ∧
    (State.aggregate s).grp = s.grp ∧
    (State.aggregate s).gys = s.gys ∧
    (State.aggregate s).hst = s.hst ∧
    (State.aggregate s).cle = s.cle ∧
    (State.aggregate s).dr0 = s.dr0 ∧
    (State.aggregate s).dr1 = s.dr1 ∧
    (State.aggregate s).saf = s.saf ∧
    (State.aggregate s).can0 = s.can0 ∧
    (State.aggregate s).can1 = s.can1 ∧
    (State.aggregate s).rng = s.rng ∧
    (State.aggregate s).dsp = s.dsp ∧
    (State.aggregate s).shf = s.shf ∧
    (State.aggregate s).tph = s.tph ∧
    (State.aggregate s).rtc = s.rtc ∧
    (State.aggregate s).pending = s.pending := by
  generalize h : State.aggregate s = t
  unfold State.aggregate at h
  try dsimp only at h
  (repeat' split at h) <;> subst h <;> simp

@[simp] theorem State.probeTick_frame (s : State) (wasSuspect : Bool) :
    (State.probeTick s wasSuspect).pwr = s.pwr ∧
    (State.probeTick s wasSuspect).lmp = s.lmp ∧
    (State.probeTick s wasSuspect).host = s.host ∧
    (State.probeTick s wasSuspect).dir = s.dir ∧
    (State.probeTick s wasSuspect).grp = s.grp ∧
    (State.probeTick s wasSuspect).gys = s.gys ∧
    (State.probeTick s wasSuspect).hst = s.hst ∧
    (State.probeTick s wasSuspect).cle = s.cle ∧
    (State.probeTick s wasSuspect).dr0 = s.dr0 ∧
    (State.probeTick s wasSuspect).dr1 = s.dr1 ∧
    (State.probeTick s wasSuspect).saf = s.saf ∧
    (State.probeTick s wasSuspect).can0 = s.can0 ∧
    (State.probeTick s wasSuspect).can1 = s.can1 ∧
    (State.probeTick s wasSuspect).rng = s.rng ∧
    (State.probeTick s wasSuspect).dsp = s.dsp ∧
    (State.probeTick s wasSuspect).shf = s.shf ∧
    (State.probeTick s wasSuspect).tph = s.tph ∧
    (State.probeTick s wasSuspect).rtc = s.rtc ∧
    (State.probeTick s wasSuspect).sec = s.sec ∧
    (State.probeTick s wasSuspect).pending = s.pending := by
  generalize h : State.probeTick s wasSuspect = t
  unfold State.probeTick at h
  try dsimp only at h
  (repeat' split at h) <;> subst h <;> simp

@[simp] theorem State.latchOff_frame (s : State) (n : Nat) :
    (State.latchOff s n).pwr = s.pwr ∧
    (State.latchOff s n).lmp = s.lmp ∧
    (State.latchOff s n).host = s.host ∧
    (State.latchOff s n).grp = s.grp ∧
    (State.latchOff s n).gys = s.gys ∧
    (State.latchOff s n).hst = s.hst ∧
    (State.latchOff s n).cle = s.cle ∧
    (State.latchOff s n).dr0 = s.dr0 ∧
    (State.latchOff s n).dr1 = s.dr1 ∧
    (State.latchOff s n).saf = s.saf ∧
    (State.latchOff s n).can0 = s.can0 ∧
    (State.latchOff s n).can1 = s.can1 ∧
    (State.latchOff s n).rng = s.rng ∧
    (State.latchOff s n).dsp = s.dsp ∧
    (State.latchOff s n).shf = s.shf ∧
    (State.latchOff s n).rtc = s.rtc ∧
    (State.latchOff s n).pending = s.pending := by
  generalize h : State.latchOff s n = t
  unfold State.latchOff at h
  try dsimp only at h
  (repeat' split at h) <;> subst h <;> simp

@[simp] theorem State.backfeedPair_pwr (s : State) (n c : Nat) : (State.backfeedPair s n c).pwr = s.pwr := by
  unfold State.backfeedPair; (repeat' split) <;> first | (simp; done) | ((try dsimp only); rw [foldl_pwr] <;> (try intro s x) <;> (repeat' split) <;> simp; done)

@[simp] theorem State.backfeedPair_lmp (s : State) (n c : Nat) : (State.backfeedPair s n c).lmp = s.lmp := by
  unfold State.backfeedPair; (repeat' split) <;> first | (simp; done) | ((try dsimp only); rw [foldl_lmp] <;> (try intro s x) <;> (repeat' split) <;> simp; done)

@[simp] theorem State.backfeedPair_host (s : State) (n c : Nat) : (State.backfeedPair s n c).host = s.host := by
  unfold State.backfeedPair; (repeat' split) <;> first | (simp; done) | ((try dsimp only); rw [foldl_host] <;> (try intro s x) <;> (repeat' split) <;> simp; done)

@[simp] theorem State.backfeedPair_grp (s : State) (n c : Nat) : (State.backfeedPair s n c).grp = s.grp := by
  unfold State.backfeedPair; (repeat' split) <;> first | (simp; done) | ((try dsimp only); rw [foldl_grp] <;> (try intro s x) <;> (repeat' split) <;> simp; done)

@[simp] theorem State.backfeedPair_gys (s : State) (n c : Nat) : (State.backfeedPair s n c).gys = s.gys := by
  unfold State.backfeedPair; (repeat' split) <;> first | (simp; done) | ((try dsimp only); rw [foldl_gys] <;> (try intro s x) <;> (repeat' split) <;> simp; done)

@[simp] theorem State.backfeedPair_hst (s : State) (n c : Nat) : (State.backfeedPair s n c).hst = s.hst := by
  unfold State.backfeedPair; (repeat' split) <;> first | (simp; done) | ((try dsimp only); rw [foldl_hst] <;> (try intro s x) <;> (repeat' split) <;> simp; done)

@[simp] theorem State.backfeedPair_cle (s : State) (n c : Nat) : (State.backfeedPair s n c).cle = s.cle := by
  unfold State.backfeedPair; (repeat' split) <;> first | (simp; done) | ((try dsimp only); rw [foldl_cle] <;> (try intro s x) <;> (repeat' split) <;> simp; done)

@[simp] theorem State.backfeedPair_dr0 (s : State) (n c : Nat) : (State.backfeedPair s n c).dr0 = s.dr0 := by
  unfold State.backfeedPair; (repeat' split) <;> first | (simp; done) | ((try dsimp only); rw [foldl_dr0] <;> (try intro s x) <;> (repeat' split) <;> simp; done)

@[simp] theorem State.backfeedPair_dr1 (s : State) (n c : Nat) : (State.backfeedPair s n c).dr1 = s.dr1 := by
  unfold State.backfeedPair; (repeat' split) <;> first | (simp; done) | ((try dsimp only); rw [foldl_dr1] <;> (try intro s x) <;> (repeat' split) <;> simp; done)

@[simp] theorem State.backfeedPair_saf (s : State) (n c : Nat) : (State.backfeedPair s n c).saf = s.saf := by
  unfold State.backfeedPair; (repeat' split) <;> first | (simp; done) | ((try dsimp only); rw [foldl_saf] <;> (try intro s x) <;> (repeat' split) <;> simp; done)

@[simp] theorem State.backfeedPair_can0 (s : State) (n c : Nat) : (State.backfeedPair s n c).can0 = s.can0 := by
  unfold State.backfeedPair; (repeat' split) <;> first | (simp; done) | ((try dsimp only); rw [foldl_can0] <;> (try intro s x) <;> (repeat' split) <;> simp; done)

@[simp] theorem State.backfeedPair_can1 (s : State) (n c : Nat) : (State.backfeedPair s n c).can1 = s.can1 := by
  unfold State.backfeedPair; (repeat' split) <;> first | (simp; done) | ((try dsimp only); rw [foldl_can1] <;> (try intro s x) <;> (repeat' split) <;> simp; done)

@[simp] theorem State.backfeedPair_rng (s : State) (n c : Nat) : (State.backfeedPair s n c).rng = s.rng := by
  unfold State.backfeedPair; (repeat' split) <;> first | (simp; done) | ((try dsimp only); rw [foldl_rng] <;> (try intro s x) <;> (repeat' split) <;> simp; done)

@[simp] theorem State.backfeedPair_dsp (s : State) (n c : Nat) : (State.backfeedPair s n c).dsp = s.dsp := by
  unfold State.backfeedPair; (repeat' split) <;> first | (simp; done) | ((try dsimp only); rw [foldl_dsp] <;> (try intro s x) <;> (repeat' split) <;> simp; done)

@[simp] theorem State.backfeedPair_shf (s : State) (n c : Nat) : (State.backfeedPair s n c).shf = s.shf := by
  unfold State.backfeedPair; (repeat' split) <;> first | (simp; done) | ((try dsimp only); rw [foldl_shf] <;> (try intro s x) <;> (repeat' split) <;> simp; done)

@[simp] theorem State.backfeedPair_rtc (s : State) (n c : Nat) : (State.backfeedPair s n c).rtc = s.rtc := by
  unfold State.backfeedPair; (repeat' split) <;> first | (simp; done) | ((try dsimp only); rw [foldl_rtc] <;> (try intro s x) <;> (repeat' split) <;> simp; done)

@[simp] theorem State.backfeedPair_pending (s : State) (n c : Nat) : (State.backfeedPair s n c).pending = s.pending := by
  unfold State.backfeedPair; (repeat' split) <;> first | (simp; done) | ((try dsimp only); rw [foldl_pending] <;> (try intro s x) <;> (repeat' split) <;> simp; done)

@[simp] theorem State.extDrive_frame (s : State) (n : Nat) :
    (State.extDrive s n).pwr = s.pwr ∧
    (State.extDrive s n).lmp = s.lmp ∧
    (State.extDrive s n).host = s.host ∧
    (State.extDrive s n).grp = s.grp ∧
    (State.extDrive s n).gys = s.gys ∧
    (State.extDrive s n).hst = s.hst ∧
    (State.extDrive s n).cle = s.cle ∧
    (State.extDrive s n).dr0 = s.dr0 ∧
    (State.extDrive s n).dr1 = s.dr1 ∧
    (State.extDrive s n).saf = s.saf ∧
    (State.extDrive s n).can0 = s.can0 ∧
    (State.extDrive s n).can1 = s.can1 ∧
    (State.extDrive s n).rng = s.rng ∧
    (State.extDrive s n).dsp = s.dsp ∧
    (State.extDrive s n).shf = s.shf ∧
    (State.extDrive s n).rtc = s.rtc ∧
    (State.extDrive s n).pending = s.pending := by
  generalize h : State.extDrive s n = t
  unfold State.extDrive at h
  try dsimp only at h
  (repeat' split at h) <;> subst h <;> simp

@[simp] theorem State.driveChannel_frame (s : State) (w n : Nat) :
    (State.driveChannel s w n).pwr = s.pwr ∧
    (State.driveChannel s w n).lmp = s.lmp ∧
    (State.driveChannel s w n).host = s.host ∧
    (State.driveChannel s w n).dir = s.dir ∧
    (State.driveChannel s w n).grp = s.grp ∧
    (State.driveChannel s w n).gys = s.gys ∧
    (State.driveChannel s w n).hst = s.hst ∧
    (State.driveChannel s w n).cle = s.cle ∧
    (State.driveChannel s w n).dr0 = s.dr0 ∧
    (State.driveChannel s w n).dr1 = s.dr1 ∧
    (State.driveChannel s w n).saf = s.saf ∧
    (State.driveChannel s w n).can0 = s.can0 ∧
    (State.driveChannel s w n).can1 = s.can1 ∧
    (State.driveChannel s w n).rng = s.rng ∧
    (State.driveChannel s w n).dsp = s.dsp ∧
    (State.driveChannel s w n).shf = s.shf ∧
    (State.driveChannel s w n).tph = s.tph ∧
    (State.driveChannel s w n).rtc = s.rtc ∧
    (State.driveChannel s w n).sec = s.sec ∧
    (State.driveChannel s w n).pending = s.pending := by
  generalize h : State.driveChannel s w n = t
  unfold State.driveChannel at h
  try dsimp only at h
  (repeat' split at h) <;> subst h <;> simp

@[simp] theorem State.fioApply_frame (s : State) (w : Nat) :
    (State.fioApply s w).pwr = s.pwr ∧
    (State.fioApply s w).lmp = s.lmp ∧
    (State.fioApply s w).host = s.host ∧
    (State.fioApply s w).dir = s.dir ∧
    (State.fioApply s w).grp = s.grp ∧
    (State.fioApply s w).gys = s.gys ∧
    (State.fioApply s w).hst = s.hst ∧
    (State.fioApply s w).cle = s.cle ∧
    (State.fioApply s w).dr0 = s.dr0 ∧
    (State.fioApply s w).dr1 = s.dr1 ∧
    (State.fioApply s w).saf = s.saf ∧
    (State.fioApply s w).can0 = s.can0 ∧
    (State.fioApply s w).can1 = s.can1 ∧
    (State.fioApply s w).rng = s.rng ∧
    (State.fioApply s w).dsp = s.dsp ∧
    (State.fioApply s w).shf = s.shf ∧
    (State.fioApply s w).tph = s.tph ∧
    (State.fioApply s w).rtc = s.rtc ∧
    (State.fioApply s w).sec = s.sec ∧
    (State.fioApply s w).pending = s.pending := by
  generalize h : State.fioApply s w = t
  unfold State.fioApply at h
  try dsimp only at h
  (repeat' split at h) <;> subst h <;> simp

@[simp] theorem State.fioRestart_frame (s : State) (n : Nat) :
    (State.fioRestart s n).pwr = s.pwr ∧
    (State.fioRestart s n).lmp = s.lmp ∧
    (State.fioRestart s n).host = s.host ∧
    (State.fioRestart s n).dir = s.dir ∧
    (State.fioRestart s n).grp = s.grp ∧
    (State.fioRestart s n).gys = s.gys ∧
    (State.fioRestart s n).hst = s.hst ∧
    (State.fioRestart s n).cle = s.cle ∧
    (State.fioRestart s n).dr0 = s.dr0 ∧
    (State.fioRestart s n).dr1 = s.dr1 ∧
    (State.fioRestart s n).saf = s.saf ∧
    (State.fioRestart s n).can0 = s.can0 ∧
    (State.fioRestart s n).can1 = s.can1 ∧
    (State.fioRestart s n).rng = s.rng ∧
    (State.fioRestart s n).dsp = s.dsp ∧
    (State.fioRestart s n).shf = s.shf ∧
    (State.fioRestart s n).tph = s.tph ∧
    (State.fioRestart s n).rtc = s.rtc ∧
    (State.fioRestart s n).sec = s.sec ∧
    (State.fioRestart s n).pending = s.pending := by
  generalize h : State.fioRestart s n = t
  unfold State.fioRestart at h
  try dsimp only at h
  (repeat' split at h) <;> subst h <;> simp

@[simp] theorem State.fioWake_frame (s : State) :
    (State.fioWake s).pwr = s.pwr ∧
    (State.fioWake s).lmp = s.lmp ∧
    (State.fioWake s).host = s.host ∧
    (State.fioWake s).dir = s.dir ∧
    (State.fioWake s).grp = s.grp ∧
    (State.fioWake s).gys = s.gys ∧
    (State.fioWake s).hst = s.hst ∧
    (State.fioWake s).cle = s.cle ∧
    (State.fioWake s).dr0 = s.dr0 ∧
    (State.fioWake s).dr1 = s.dr1 ∧
    (State.fioWake s).saf = s.saf ∧
    (State.fioWake s).can0 = s.can0 ∧
    (State.fioWake s).can1 = s.can1 ∧
    (State.fioWake s).rng = s.rng ∧
    (State.fioWake s).dsp = s.dsp ∧
    (State.fioWake s).shf = s.shf ∧
    (State.fioWake s).tph = s.tph ∧
    (State.fioWake s).rtc = s.rtc ∧
    (State.fioWake s).sec = s.sec ∧
    (State.fioWake s).pending = s.pending := by
  generalize h : State.fioWake s = t
  unfold State.fioWake at h
  try dsimp only at h
  (repeat' split at h) <;> subst h <;> simp

end Sys2Proof.Machine
end

