-- ==== Sys2Proof/Laws/FrShf.lean ====
section
/-!
SUPPORT. For each operation of Machine/Shf.lean on the device, the blocks it leaves as they were.
-/
namespace Sys2Proof.Machine
set_option linter.unusedTactic false
set_option linter.unnecessarySeqFocus false
set_option linter.unreachableTactic false
set_option linter.unusedSimpArgs false
set_option linter.unusedVariables false

@[simp] theorem State.pickMessage_frame (s : State) (up : Bool) :
    (State.pickMessage s up).pwr = s.pwr ∧
    (State.pickMessage s up).lmp = s.lmp ∧
    (State.pickMessage s up).host = s.host ∧
    (State.pickMessage s up).dir = s.dir ∧
    (State.pickMessage s up).gys = s.gys ∧
    (State.pickMessage s up).hst = s.hst ∧
    (State.pickMessage s up).cle = s.cle ∧
    (State.pickMessage s up).dr0 = s.dr0 ∧
    (State.pickMessage s up).dr1 = s.dr1 ∧
    (State.pickMessage s up).saf = s.saf ∧
    (State.pickMessage s up).fio = s.fio ∧
    (State.pickMessage s up).can0 = s.can0 ∧
    (State.pickMessage s up).can1 = s.can1 ∧
    (State.pickMessage s up).rng = s.rng ∧
    (State.pickMessage s up).dsp = s.dsp ∧
    (State.pickMessage s up).tph = s.tph ∧
    (State.pickMessage s up).rtc = s.rtc ∧
    (State.pickMessage s up).sec = s.sec ∧
    (State.pickMessage s up).pending = s.pending := by
  generalize h : State.pickMessage s up = t
  unfold State.pickMessage at h
  try dsimp only at h
  (repeat' split at h) <;> subst h <;> simp

@[simp] theorem State.safNeighbour_frame (s : State) (up : Bool) (bs : List Byte) (coded : Bool) :
    (State.safNeighbour s up bs coded).pwr = s.pwr ∧
    (State.safNeighbour s up bs coded).lmp = s.lmp ∧
    (State.safNeighbour s up bs coded).host = s.host ∧
    (State.safNeighbour s up bs coded).dir = s.dir ∧
    (State.safNeighbour s up bs coded).grp = s.grp ∧
    (State.safNeighbour s up bs coded).gys = s.gys ∧
    (State.safNeighbour s up bs coded).hst = s.hst ∧
    (State.safNeighbour s up bs coded).cle = s.cle ∧
    (State.safNeighbour s up bs coded).dr0 = s.dr0 ∧
    (State.safNeighbour s up bs coded).dr1 = s.dr1 ∧
    (State.safNeighbour s up bs coded).fio = s.fio ∧
    (State.safNeighbour s up bs coded).can0 = s.can0 ∧
    (State.safNeighbour s up bs coded).can1 = s.can1 ∧
    (State.safNeighbour s up bs coded).rng = s.rng ∧
    (State.safNeighbour s up bs coded).dsp = s.dsp ∧
    (State.safNeighbour s up bs coded).shf = s.shf ∧
    (State.safNeighbour s up bs coded).tph = s.tph ∧
    (State.safNeighbour s up bs coded).rtc = s.rtc ∧
    (State.safNeighbour s up bs coded).sec = s.sec ∧
    (State.safNeighbour s up bs coded).pending = s.pending := by
  generalize h : State.safNeighbour s up bs coded = t
  unfold State.safNeighbour at h
  try dsimp only at h
  (repeat' split at h) <;> subst h <;> simp

@[simp] theorem State.takeFragment_frame (s : State) (up : Bool) (bs : List Byte) :
    (State.takeFragment s up bs).pwr = s.pwr ∧
    (State.takeFragment s up bs).lmp = s.lmp ∧
    (State.takeFragment s up bs).host = s.host ∧
    (State.takeFragment s up bs).dir = s.dir ∧
    (State.takeFragment s up bs).gys = s.gys ∧
    (State.takeFragment s up bs).hst = s.hst ∧
    (State.takeFragment s up bs).cle = s.cle ∧
    (State.takeFragment s up bs).dr0 = s.dr0 ∧
    (State.takeFragment s up bs).dr1 = s.dr1 ∧
    (State.takeFragment s up bs).saf = s.saf ∧
    (State.takeFragment s up bs).fio = s.fio ∧
    (State.takeFragment s up bs).can0 = s.can0 ∧
    (State.takeFragment s up bs).can1 = s.can1 ∧
    (State.takeFragment s up bs).rng = s.rng ∧
    (State.takeFragment s up bs).dsp = s.dsp ∧
    (State.takeFragment s up bs).tph = s.tph ∧
    (State.takeFragment s up bs).rtc = s.rtc ∧
    (State.takeFragment s up bs).sec = s.sec ∧
    (State.takeFragment s up bs).pending = s.pending := by
  generalize h : State.takeFragment s up bs = t
  unfold State.takeFragment at h
  try dsimp only at h
  (repeat' split at h) <;> subst h <;> simp

@[simp] theorem State.zoneMismatch_frame (s : State) (up : Bool) :
    (State.zoneMismatch s up).pwr = s.pwr ∧
    (State.zoneMismatch s up).lmp = s.lmp ∧
    (State.zoneMismatch s up).host = s.host ∧
    (State.zoneMismatch s up).grp = s.grp ∧
    (State.zoneMismatch s up).gys = s.gys ∧
    (State.zoneMismatch s up).hst = s.hst ∧
    (State.zoneMismatch s up).cle = s.cle ∧
    (State.zoneMismatch s up).dr0 = s.dr0 ∧
    (State.zoneMismatch s up).dr1 = s.dr1 ∧
    (State.zoneMismatch s up).saf = s.saf ∧
    (State.zoneMismatch s up).fio = s.fio ∧
    (State.zoneMismatch s up).can0 = s.can0 ∧
    (State.zoneMismatch s up).can1 = s.can1 ∧
    (State.zoneMismatch s up).rng = s.rng ∧
    (State.zoneMismatch s up).dsp = s.dsp ∧
    (State.zoneMismatch s up).rtc = s.rtc ∧
    (State.zoneMismatch s up).pending = s.pending := by
  generalize h : State.zoneMismatch s up = t
  unfold State.zoneMismatch at h
  try dsimp only at h
  (repeat' split at h) <;> subst h <;> simp

@[simp] theorem State.seeHandover_frame (s : State) (up : Bool) (flags : Nat) :
    (State.seeHandover s up flags).pwr = s.pwr ∧
    (State.seeHandover s up flags).lmp = s.lmp ∧
    (State.seeHandover s up flags).host = s.host ∧
    (State.seeHandover s up flags).grp = s.grp ∧
    (State.seeHandover s up flags).gys = s.gys ∧
    (State.seeHandover s up flags).hst = s.hst ∧
    (State.seeHandover s up flags).cle = s.cle ∧
    (State.seeHandover s up flags).dr0 = s.dr0 ∧
    (State.seeHandover s up flags).dr1 = s.dr1 ∧
    (State.seeHandover s up flags).saf = s.saf ∧
    (State.seeHandover s up flags).fio = s.fio ∧
    (State.seeHandover s up flags).can0 = s.can0 ∧
    (State.seeHandover s up flags).can1 = s.can1 ∧
    (State.seeHandover s up flags).rng = s.rng ∧
    (State.seeHandover s up flags).dsp = s.dsp ∧
    (State.seeHandover s up flags).rtc = s.rtc ∧
    (State.seeHandover s up flags).pending = s.pending := by
  generalize h : State.seeHandover s up flags = t
  unfold State.seeHandover at h
  try dsimp only at h
  (repeat' split at h) <;> subst h <;> simp

@[simp] theorem State.beginDormant_frame (s : State) :
    (State.beginDormant s).lmp = s.lmp ∧
    (State.beginDormant s).host = s.host ∧
    (State.beginDormant s).dir = s.dir ∧
    (State.beginDormant s).grp = s.grp ∧
    (State.beginDormant s).hst = s.hst ∧
    (State.beginDormant s).cle = s.cle ∧
    (State.beginDormant s).dr0 = s.dr0 ∧
    (State.beginDormant s).dr1 = s.dr1 ∧
    (State.beginDormant s).saf = s.saf ∧
    (State.beginDormant s).fio = s.fio ∧
    (State.beginDormant s).can0 = s.can0 ∧
    (State.beginDormant s).can1 = s.can1 ∧
    (State.beginDormant s).rng = s.rng ∧
    (State.beginDormant s).dsp = s.dsp ∧
    (State.beginDormant s).shf = s.shf ∧
    (State.beginDormant s).tph = s.tph ∧
    (State.beginDormant s).rtc = s.rtc ∧
    (State.beginDormant s).sec = s.sec ∧
    (State.beginDormant s).pending = s.pending := by
  generalize h : State.beginDormant s = t
  unfold State.beginDormant at h
  try dsimp only at h
  (repeat' split at h) <;> subst h <;> simp

@[simp] theorem State.endDormantRequest_frame (s : State) (st : Status) :
    (State.endDormantRequest s st).lmp = s.lmp ∧
    (State.endDormantRequest s st).dir = s.dir ∧
    (State.endDormantRequest s st).grp = s.grp ∧
    (State.endDormantRequest s st).hst = s.hst ∧
    (State.endDormantRequest s st).cle = s.cle ∧
    (State.endDormantRequest s st).dr0 = s.dr0 ∧
    (State.endDormantRequest s st).dr1 = s.dr1 ∧
    (State.endDormantRequest s st).saf = s.saf ∧
    (State.endDormantRequest s st).fio = s.fio ∧
    (State.endDormantRequest s st).can0 = s.can0 ∧
    (State.endDormantRequest s st).can1 = s.can1 ∧
    (State.endDormantRequest s st).rng = s.rng ∧
    (State.endDormantRequest s st).dsp = s.dsp ∧
    (State.endDormantRequest s st).tph = s.tph ∧
    (State.endDormantRequest s st).rtc = s.rtc ∧
    (State.endDormantRequest s st).sec = s.sec ∧
    (State.endDormantRequest s st).pending = s.pending := by
  generalize h : State.endDormantRequest s st = t
  unfold State.endDormantRequest at h
  try dsimp only at h
  (repeat' split at h) <;> subst h <;> simp

@[simp] theorem State.answerRequest_frame (s : State) :
    (State.answerRequest s).lmp = s.lmp ∧
    (State.answerRequest s).dir = s.dir ∧
    (State.answerRequest s).grp = s.grp ∧
    (State.answerRequest s).hst = s.hst ∧
    (State.answerRequest s).cle = s.cle ∧
    (State.answerRequest s).dr0 = s.dr0 ∧
    (State.answerRequest s).dr1 = s.dr1 ∧
    (State.answerRequest s).saf = s.saf ∧
    (State.answerRequest s).fio = s.fio ∧
    (State.answerRequest s).can0 = s.can0 ∧
    (State.answerRequest s).can1 = s.can1 ∧
    (State.answerRequest s).rng = s.rng ∧
    (State.answerRequest s).dsp = s.dsp ∧
    (State.answerRequest s).shf = s.shf ∧
    (State.answerRequest s).tph = s.tph ∧
    (State.answerRequest s).rtc = s.rtc ∧
    (State.answerRequest s).sec = s.sec ∧
    (State.answerRequest s).pending = s.pending := by
  generalize h : State.answerRequest s = t
  unfold State.answerRequest at h
  try dsimp only at h
  (repeat' split at h) <;> subst h <;> simp

@[simp] theorem State.handoverDone_frame (s : State) :
    (State.handoverDone s).lmp = s.lmp ∧
    (State.handoverDone s).dir = s.dir ∧
    (State.handoverDone s).grp = s.grp ∧
    (State.handoverDone s).hst = s.hst ∧
    (State.handoverDone s).cle = s.cle ∧
    (State.handoverDone s).dr0 = s.dr0 ∧
    (State.handoverDone s).dr1 = s.dr1 ∧
    (State.handoverDone s).saf = s.saf ∧
    (State.handoverDone s).fio = s.fio ∧
    (State.handoverDone s).can0 = s.can0 ∧
    (State.handoverDone s).can1 = s.can1 ∧
    (State.handoverDone s).rng = s.rng ∧
    (State.handoverDone s).dsp = s.dsp ∧
    (State.handoverDone s).tph = s.tph ∧
    (State.handoverDone s).rtc = s.rtc ∧
    (State.handoverDone s).sec = s.sec ∧
    (State.handoverDone s).pending = s.pending := by
  generalize h : State.handoverDone s = t
  unfold State.handoverDone at h
  try dsimp only at h
  (repeat' split at h) <;> subst h <;> simp

@[simp] theorem State.startDormant_frame (s : State) :
    (State.startDormant s).lmp = s.lmp ∧
    (State.startDormant s).host = s.host ∧
    (State.startDormant s).dir = s.dir ∧
    (State.startDormant s).grp = s.grp ∧
    (State.startDormant s).hst = s.hst ∧
    (State.startDormant s).cle = s.cle ∧
    (State.startDormant s).dr0 = s.dr0 ∧
    (State.startDormant s).dr1 = s.dr1 ∧
    (State.startDormant s).saf = s.saf ∧
    (State.startDormant s).fio = s.fio ∧
    (State.startDormant s).can0 = s.can0 ∧
    (State.startDormant s).can1 = s.can1 ∧
    (State.startDormant s).rng = s.rng ∧
    (State.startDormant s).dsp = s.dsp ∧
    (State.startDormant s).tph = s.tph ∧
    (State.startDormant s).rtc = s.rtc ∧
    (State.startDormant s).sec = s.sec ∧
    (State.startDormant s).pending = s.pending := by
  generalize h : State.startDormant s = t
  unfold State.startDormant at h
  try dsimp only at h
  (repeat' split at h) <;> subst h <;> simp

@[simp] theorem State.nlTake_frame (s : State) (up : Bool) (bs : List Byte) (gapUs : Nat) :
    (State.nlTake s up bs gapUs).lmp = s.lmp ∧
    (State.nlTake s up bs gapUs).hst = s.hst ∧
    (State.nlTake s up bs gapUs).cle = s.cle ∧
    (State.nlTake s up bs gapUs).dr0 = s.dr0 ∧
    (State.nlTake s up bs gapUs).dr1 = s.dr1 ∧
    (State.nlTake s up bs gapUs).saf = s.saf ∧
    (State.nlTake s up bs gapUs).fio = s.fio ∧
    (State.nlTake s up bs gapUs).can0 = s.can0 ∧
    (State.nlTake s up bs gapUs).can1 = s.can1 ∧
    (State.nlTake s up bs gapUs).rng = s.rng ∧
    (State.nlTake s up bs gapUs).dsp = s.dsp ∧
    (State.nlTake s up bs gapUs).rtc = s.rtc ∧
    (State.nlTake s up bs gapUs).pending = s.pending := by
  generalize h : State.nlTake s up bs gapUs = t
  unfold State.nlTake at h
  try dsimp only at h
  (repeat' split at h) <;> subst h <;> simp

@[simp] theorem State.zoneApply_frame (s : State) (body : List Byte) :
    (State.zoneApply s body).pwr = s.pwr ∧
    (State.zoneApply s body).lmp = s.lmp ∧
    (State.zoneApply s body).host = s.host ∧
    (State.zoneApply s body).grp = s.grp ∧
    (State.zoneApply s body).gys = s.gys ∧
    (State.zoneApply s body).hst = s.hst ∧
    (State.zoneApply s body).cle = s.cle ∧
    (State.zoneApply s body).dr0 = s.dr0 ∧
    (State.zoneApply s body).dr1 = s.dr1 ∧
    (State.zoneApply s body).saf = s.saf ∧
    (State.zoneApply s body).fio = s.fio ∧
    (State.zoneApply s body).can0 = s.can0 ∧
    (State.zoneApply s body).can1 = s.can1 ∧
    (State.zoneApply s body).rng = s.rng ∧
    (State.zoneApply s body).dsp = s.dsp ∧
    (State.zoneApply s body).shf = s.shf ∧
    (State.zoneApply s body).rtc = s.rtc ∧
    (State.zoneApply s body).pending = s.pending := by
  generalize h : State.zoneApply s body = t
  unfold State.zoneApply at h
  try dsimp only at h
  (repeat' split at h) <;> subst h <;> simp

@[simp] theorem State.zoneEnded_frame (s : State) (g : Nat) (ok : Bool) :
    (State.zoneEnded s g ok).pwr = s.pwr ∧
    (State.zoneEnded s g ok).lmp = s.lmp ∧
    (State.zoneEnded s g ok).host = s.host ∧
    (State.zoneEnded s g ok).grp = s.grp ∧
    (State.zoneEnded s g ok).gys = s.gys ∧
    (State.zoneEnded s g ok).hst = s.hst ∧
    (State.zoneEnded s g ok).cle = s.cle ∧
    (State.zoneEnded s g ok).dr0 = s.dr0 ∧
    (State.zoneEnded s g ok).dr1 = s.dr1 ∧
    (State.zoneEnded s g ok).saf = s.saf ∧
    (State.zoneEnded s g ok).fio = s.fio ∧
    (State.zoneEnded s g ok).can0 = s.can0 ∧
    (State.zoneEnded s g ok).can1 = s.can1 ∧
    (State.zoneEnded s g ok).rng = s.rng ∧
    (State.zoneEnded s g ok).dsp = s.dsp ∧
    (State.zoneEnded s g ok).rtc = s.rtc ∧
    (State.zoneEnded s g ok).pending = s.pending := by
  generalize h : State.zoneEnded s g ok = t
  unfold State.zoneEnded at h
  try dsimp only at h
  (repeat' split at h) <;> subst h <;> simp

@[simp] theorem State.zoneDiverged_frame (s : State) (up : Bool) :
    (State.zoneDiverged s up).pwr = s.pwr ∧
    (State.zoneDiverged s up).lmp = s.lmp ∧
    (State.zoneDiverged s up).host = s.host ∧
    (State.zoneDiverged s up).dir = s.dir ∧
    (State.zoneDiverged s up).grp = s.grp ∧
    (State.zoneDiverged s up).gys = s.gys ∧
    (State.zoneDiverged s up).cle = s.cle ∧
    (State.zoneDiverged s up).dr0 = s.dr0 ∧
    (State.zoneDiverged s up).dr1 = s.dr1 ∧
    (State.zoneDiverged s up).saf = s.saf ∧
    (State.zoneDiverged s up).fio = s.fio ∧
    (State.zoneDiverged s up).can0 = s.can0 ∧
    (State.zoneDiverged s up).can1 = s.can1 ∧
    (State.zoneDiverged s up).rng = s.rng ∧
    (State.zoneDiverged s up).dsp = s.dsp ∧
    (State.zoneDiverged s up).tph = s.tph ∧
    (State.zoneDiverged s up).rtc = s.rtc ∧
    (State.zoneDiverged s up).sec = s.sec ∧
    (State.zoneDiverged s up).pending = s.pending := by
  generalize h : State.zoneDiverged s up = t
  unfold State.zoneDiverged at h
  try dsimp only at h
  (repeat' split at h) <;> subst h <;> simp

end Sys2Proof.Machine
end

