-- ==== Sys2Proof/Laws/FrRing.lean ====
section
/-!
SUPPORT. For each operation of Machine/Ring.lean on the device, the blocks it leaves as they were.
-/
namespace Sys2Proof.Machine
set_option linter.unusedTactic false
set_option linter.unnecessarySeqFocus false
set_option linter.unreachableTactic false
set_option linter.unusedSimpArgs false
set_option linter.unusedVariables false

@[simp] theorem State.modPort_frame (s : State) (p : Nat) (f : RPort → RPort) :
    (State.modPort s p f).pwr = s.pwr ∧
    (State.modPort s p f).lmp = s.lmp ∧
    (State.modPort s p f).host = s.host ∧
    (State.modPort s p f).dir = s.dir ∧
    (State.modPort s p f).grp = s.grp ∧
    (State.modPort s p f).gys = s.gys ∧
    (State.modPort s p f).hst = s.hst ∧
    (State.modPort s p f).cle = s.cle ∧
    (State.modPort s p f).dr0 = s.dr0 ∧
    (State.modPort s p f).dr1 = s.dr1 ∧
    (State.modPort s p f).saf = s.saf ∧
    (State.modPort s p f).fio = s.fio ∧
    (State.modPort s p f).can0 = s.can0 ∧
    (State.modPort s p f).can1 = s.can1 ∧
    (State.modPort s p f).dsp = s.dsp ∧
    (State.modPort s p f).shf = s.shf ∧
    (State.modPort s p f).tph = s.tph ∧
    (State.modPort s p f).rtc = s.rtc ∧
    (State.modPort s p f).sec = s.sec ∧
    (State.modPort s p f).pending = s.pending := by
  generalize h : State.modPort s p f = t
  unfold State.modPort at h
  try dsimp only at h
  (repeat' split at h) <;> subst h <;> simp

@[simp] theorem State.ringSend_frame (s : State) (cls kind dest : Nat) (body : List Byte) (port : Nat) :
    (State.ringSend s cls kind dest body port).pwr = s.pwr ∧
    (State.ringSend s cls kind dest body port).lmp = s.lmp ∧
    (State.ringSend s cls kind dest body port).host = s.host ∧
    (State.ringSend s cls kind dest body port).dir = s.dir ∧
    (State.ringSend s cls kind dest body port).grp = s.grp ∧
    (State.ringSend s cls kind dest body port).gys = s.gys ∧
    (State.ringSend s cls kind dest body port).hst = s.hst ∧
    (State.ringSend s cls kind dest body port).cle = s.cle ∧
    (State.ringSend s cls kind dest body port).dr0 = s.dr0 ∧
    (State.ringSend s cls kind dest body port).dr1 = s.dr1 ∧
    (State.ringSend s cls kind dest body port).saf = s.saf ∧
    (State.ringSend s cls kind dest body port).fio = s.fio ∧
    (State.ringSend s cls kind dest body port).can0 = s.can0 ∧
    (State.ringSend s cls kind dest body port).can1 = s.can1 ∧
    (State.ringSend s cls kind dest body port).dsp = s.dsp ∧
    (State.ringSend s cls kind dest body port).shf = s.shf ∧
    (State.ringSend s cls kind dest body port).tph = s.tph ∧
    (State.ringSend s cls kind dest body port).rtc = s.rtc ∧
    (State.ringSend s cls kind dest body port).sec = s.sec ∧
    (State.ringSend s cls kind dest body port).pending = s.pending := by
  generalize h : State.ringSend s cls kind dest body port = t
  unfold State.ringSend at h
  try dsimp only at h
  (repeat' split at h) <;> subst h <;> simp

@[simp] theorem State.hearManager_frame (s : State) (f : RFrame) :
    (State.hearManager s f).pwr = s.pwr ∧
    (State.hearManager s f).lmp = s.lmp ∧
    (State.hearManager s f).host = s.host ∧
    (State.hearManager s f).dir = s.dir ∧
    (State.hearManager s f).grp = s.grp ∧
    (State.hearManager s f).gys = s.gys ∧
    (State.hearManager s f).hst = s.hst ∧
    (State.hearManager s f).cle = s.cle ∧
    (State.hearManager s f).dr0 = s.dr0 ∧
    (State.hearManager s f).dr1 = s.dr1 ∧
    (State.hearManager s f).saf = s.saf ∧
    (State.hearManager s f).fio = s.fio ∧
    (State.hearManager s f).can0 = s.can0 ∧
    (State.hearManager s f).can1 = s.can1 ∧
    (State.hearManager s f).dsp = s.dsp ∧
    (State.hearManager s f).shf = s.shf ∧
    (State.hearManager s f).tph = s.tph ∧
    (State.hearManager s f).rtc = s.rtc ∧
    (State.hearManager s f).sec = s.sec ∧
    (State.hearManager s f).pending = s.pending := by
  generalize h : State.hearManager s f = t
  unfold State.hearManager at h
  try dsimp only at h
  (repeat' split at h) <;> subst h <;> simp

@[simp] theorem State.ringTake_frame (s : State) (f : RFrame) :
    (State.ringTake s f).pwr = s.pwr ∧
    (State.ringTake s f).lmp = s.lmp ∧
    (State.ringTake s f).host = s.host ∧
    (State.ringTake s f).gys = s.gys ∧
    (State.ringTake s f).hst = s.hst ∧
    (State.ringTake s f).cle = s.cle ∧
    (State.ringTake s f).dr0 = s.dr0 ∧
    (State.ringTake s f).dr1 = s.dr1 ∧
    (State.ringTake s f).saf = s.saf ∧
    (State.ringTake s f).fio = s.fio ∧
    (State.ringTake s f).can0 = s.can0 ∧
    (State.ringTake s f).can1 = s.can1 ∧
    (State.ringTake s f).dsp = s.dsp ∧
    (State.ringTake s f).shf = s.shf ∧
    (State.ringTake s f).rtc = s.rtc ∧
    (State.ringTake s f).pending = s.pending := by
  generalize h : State.ringTake s f = t
  unfold State.ringTake at h
  try dsimp only at h
  (repeat' split at h) <;> subst h <;> simp

@[simp] theorem State.dropFrame_frame (s : State) (f : RFrame) :
    (State.dropFrame s f).pwr = s.pwr ∧
    (State.dropFrame s f).lmp = s.lmp ∧
    (State.dropFrame s f).host = s.host ∧
    (State.dropFrame s f).dir = s.dir ∧
    (State.dropFrame s f).grp = s.grp ∧
    (State.dropFrame s f).gys = s.gys ∧
    (State.dropFrame s f).hst = s.hst ∧
    (State.dropFrame s f).cle = s.cle ∧
    (State.dropFrame s f).dr0 = s.dr0 ∧
    (State.dropFrame s f).dr1 = s.dr1 ∧
    (State.dropFrame s f).saf = s.saf ∧
    (State.dropFrame s f).fio = s.fio ∧
    (State.dropFrame s f).can0 = s.can0 ∧
    (State.dropFrame s f).can1 = s.can1 ∧
    (State.dropFrame s f).dsp = s.dsp ∧
    (State.dropFrame s f).shf = s.shf ∧
    (State.dropFrame s f).tph = s.tph ∧
    (State.dropFrame s f).rtc = s.rtc ∧
    (State.dropFrame s f).sec = s.sec ∧
    (State.dropFrame s f).pending = s.pending := by
  generalize h : State.dropFrame s f = t
  unfold State.dropFrame at h
  try dsimp only at h
  (repeat' split at h) <;> subst h <;> simp

@[simp] theorem State.openRing_frame (s : State) :
    (State.openRing s).pwr = s.pwr ∧
    (State.openRing s).lmp = s.lmp ∧
    (State.openRing s).host = s.host ∧
    (State.openRing s).grp = s.grp ∧
    (State.openRing s).gys = s.gys ∧
    (State.openRing s).hst = s.hst ∧
    (State.openRing s).cle = s.cle ∧
    (State.openRing s).dr0 = s.dr0 ∧
    (State.openRing s).dr1 = s.dr1 ∧
    (State.openRing s).saf = s.saf ∧
    (State.openRing s).fio = s.fio ∧
    (State.openRing s).can0 = s.can0 ∧
    (State.openRing s).can1 = s.can1 ∧
    (State.openRing s).dsp = s.dsp ∧
    (State.openRing s).shf = s.shf ∧
    (State.openRing s).rtc = s.rtc ∧
    (State.openRing s).pending = s.pending := by
  generalize h : State.openRing s = t
  unfold State.openRing at h
  try dsimp only at h
  (repeat' split at h) <;> subst h <;> simp

@[simp] theorem State.setTimeValid_frame (s : State) (b : Bool) :
    (State.setTimeValid s b).pwr = s.pwr ∧
    (State.setTimeValid s b).lmp = s.lmp ∧
    (State.setTimeValid s b).host = s.host ∧
    (State.setTimeValid s b).grp = s.grp ∧
    (State.setTimeValid s b).gys = s.gys ∧
    (State.setTimeValid s b).hst = s.hst ∧
    (State.setTimeValid s b).cle = s.cle ∧
    (State.setTimeValid s b).dr0 = s.dr0 ∧
    (State.setTimeValid s b).dr1 = s.dr1 ∧
    (State.setTimeValid s b).saf = s.saf ∧
    (State.setTimeValid s b).fio = s.fio ∧
    (State.setTimeValid s b).can0 = s.can0 ∧
    (State.setTimeValid s b).can1 = s.can1 ∧
    (State.setTimeValid s b).dsp = s.dsp ∧
    (State.setTimeValid s b).shf = s.shf ∧
    (State.setTimeValid s b).rtc = s.rtc ∧
    (State.setTimeValid s b).pending = s.pending := by
  generalize h : State.setTimeValid s b = t
  unfold State.setTimeValid at h
  try dsimp only at h
  (repeat' split at h) <;> subst h <;> simp

@[simp] theorem State.stepRing_frame (s : State) (ns : Nat) :
    (State.stepRing s ns).pwr = s.pwr ∧
    (State.stepRing s ns).lmp = s.lmp ∧
    (State.stepRing s ns).host = s.host ∧
    (State.stepRing s ns).dir = s.dir ∧
    (State.stepRing s ns).grp = s.grp ∧
    (State.stepRing s ns).gys = s.gys ∧
    (State.stepRing s ns).hst = s.hst ∧
    (State.stepRing s ns).cle = s.cle ∧
    (State.stepRing s ns).dr0 = s.dr0 ∧
    (State.stepRing s ns).dr1 = s.dr1 ∧
    (State.stepRing s ns).saf = s.saf ∧
    (State.stepRing s ns).fio = s.fio ∧
    (State.stepRing s ns).can0 = s.can0 ∧
    (State.stepRing s ns).can1 = s.can1 ∧
    (State.stepRing s ns).dsp = s.dsp ∧
    (State.stepRing s ns).shf = s.shf ∧
    (State.stepRing s ns).tph = s.tph ∧
    (State.stepRing s ns).rtc = s.rtc ∧
    (State.stepRing s ns).sec = s.sec ∧
    (State.stepRing s ns).pending = s.pending := by
  generalize h : State.stepRing s ns = t
  unfold State.stepRing at h
  try dsimp only at h
  (repeat' split at h) <;> subst h <;> simp

@[simp] theorem State.ringPass_frame (s : State) (us : Nat) :
    (State.ringPass s us).pwr = s.pwr ∧
    (State.ringPass s us).lmp = s.lmp ∧
    (State.ringPass s us).host = s.host ∧
    (State.ringPass s us).dir = s.dir ∧
    (State.ringPass s us).grp = s.grp ∧
    (State.ringPass s us).gys = s.gys ∧
    (State.ringPass s us).hst = s.hst ∧
    (State.ringPass s us).cle = s.cle ∧
    (State.ringPass s us).dr0 = s.dr0 ∧
    (State.ringPass s us).dr1 = s.dr1 ∧
    (State.ringPass s us).saf = s.saf ∧
    (State.ringPass s us).fio = s.fio ∧
    (State.ringPass s us).can0 = s.can0 ∧
    (State.ringPass s us).can1 = s.can1 ∧
    (State.ringPass s us).dsp = s.dsp ∧
    (State.ringPass s us).shf = s.shf ∧
    (State.ringPass s us).tph = s.tph ∧
    (State.ringPass s us).rtc = s.rtc ∧
    (State.ringPass s us).sec = s.sec ∧
    (State.ringPass s us).pending = s.pending := by
  generalize h : State.ringPass s us = t
  unfold State.ringPass at h
  try dsimp only at h
  (repeat' split at h) <;> subst h <;> simp

@[simp] theorem State.setMaster_frame (s : State) (a : Option Nat) :
    (State.setMaster s a).pwr = s.pwr ∧
    (State.setMaster s a).lmp = s.lmp ∧
    (State.setMaster s a).host = s.host ∧
    (State.setMaster s a).grp = s.grp ∧
    (State.setMaster s a).gys = s.gys ∧
    (State.setMaster s a).hst = s.hst ∧
    (State.setMaster s a).cle = s.cle ∧
    (State.setMaster s a).dr0 = s.dr0 ∧
    (State.setMaster s a).dr1 = s.dr1 ∧
    (State.setMaster s a).saf = s.saf ∧
    (State.setMaster s a).fio = s.fio ∧
    (State.setMaster s a).can0 = s.can0 ∧
    (State.setMaster s a).can1 = s.can1 ∧
    (State.setMaster s a).dsp = s.dsp ∧
    (State.setMaster s a).shf = s.shf ∧
    (State.setMaster s a).rtc = s.rtc ∧
    (State.setMaster s a).pending = s.pending := by
  generalize h : State.setMaster s a = t
  unfold State.setMaster at h
  try dsimp only at h
  (repeat' split at h) <;> subst h <;> simp

@[simp] theorem State.applySync_frame (s : State) (src : Nat) (off : Int) :
    (State.applySync s src off).pwr = s.pwr ∧
    (State.applySync s src off).lmp = s.lmp ∧
    (State.applySync s src off).host = s.host ∧
    (State.applySync s src off).grp = s.grp ∧
    (State.applySync s src off).gys = s.gys ∧
    (State.applySync s src off).hst = s.hst ∧
    (State.applySync s src off).cle = s.cle ∧
    (State.applySync s src off).dr0 = s.dr0 ∧
    (State.applySync s src off).dr1 = s.dr1 ∧
    (State.applySync s src off).saf = s.saf ∧
    (State.applySync s src off).fio = s.fio ∧
    (State.applySync s src off).can0 = s.can0 ∧
    (State.applySync s src off).can1 = s.can1 ∧
    (State.applySync s src off).dsp = s.dsp ∧
    (State.applySync s src off).shf = s.shf ∧
    (State.applySync s src off).rtc = s.rtc ∧
    (State.applySync s src off).pending = s.pending := by
  generalize h : State.applySync s src off = t
  unfold State.applySync at h
  try dsimp only at h
  (repeat' split at h) <;> subst h <;> simp

end Sys2Proof.Machine
end

