-- ==== Sys2Proof/Laws/FrCan.lean ====
section
/-!
SUPPORT. For each operation of Machine/Can.lean on the device, the blocks it leaves as they were.
-/
namespace Sys2Proof.Machine
set_option linter.unusedTactic false
set_option linter.unnecessarySeqFocus false
set_option linter.unreachableTactic false
set_option linter.unusedSimpArgs false
set_option linter.unusedVariables false

@[simp] theorem State.modCan_frame (s : State) (b : Nat) (f : Can → Can) :
    (State.modCan s b f).pwr = s.pwr ∧
    (State.modCan s b f).lmp = s.lmp ∧
    (State.modCan s b f).host = s.host ∧
    (State.modCan s b f).dir = s.dir ∧
    (State.modCan s b f).grp = s.grp ∧
    (State.modCan s b f).gys = s.gys ∧
    (State.modCan s b f).hst = s.hst ∧
    (State.modCan s b f).cle = s.cle ∧
    (State.modCan s b f).dr0 = s.dr0 ∧
    (State.modCan s b f).dr1 = s.dr1 ∧
    (State.modCan s b f).saf = s.saf ∧
    (State.modCan s b f).fio = s.fio ∧
    (State.modCan s b f).rng = s.rng ∧
    (State.modCan s b f).dsp = s.dsp ∧
    (State.modCan s b f).shf = s.shf ∧
    (State.modCan s b f).tph = s.tph ∧
    (State.modCan s b f).rtc = s.rtc ∧
    (State.modCan s b f).sec = s.sec ∧
    (State.modCan s b f).pending = s.pending := by
  generalize h : State.modCan s b f = t
  unfold State.modCan at h
  try dsimp only at h
  (repeat' split at h) <;> subst h <;> simp

@[simp] theorem State.modObj_frame (s : State) (b j : Nat) (f : CanObj → CanObj) :
    (State.modObj s b j f).pwr = s.pwr ∧
    (State.modObj s b j f).lmp = s.lmp ∧
    (State.modObj s b j f).host = s.host ∧
    (State.modObj s b j f).dir = s.dir ∧
    (State.modObj s b j f).grp = s.grp ∧
    (State.modObj s b j f).gys = s.gys ∧
    (State.modObj s b j f).hst = s.hst ∧
    (State.modObj s b j f).cle = s.cle ∧
    (State.modObj s b j f).dr0 = s.dr0 ∧
    (State.modObj s b j f).dr1 = s.dr1 ∧
    (State.modObj s b j f).saf = s.saf ∧
    (State.modObj s b j f).fio = s.fio ∧
    (State.modObj s b j f).rng = s.rng ∧
    (State.modObj s b j f).dsp = s.dsp ∧
    (State.modObj s b j f).shf = s.shf ∧
    (State.modObj s b j f).tph = s.tph ∧
    (State.modObj s b j f).rtc = s.rtc ∧
    (State.modObj s b j f).sec = s.sec ∧
    (State.modObj s b j f).pending = s.pending := by
  generalize h : State.modObj s b j f = t
  unfold State.modObj at h
  try dsimp only at h
  (repeat' split at h) <;> subst h <;> simp

@[simp] theorem State.modStn_frame (s : State) (b n : Nat) (f : CanStn → CanStn) :
    (State.modStn s b n f).pwr = s.pwr ∧
    (State.modStn s b n f).lmp = s.lmp ∧
    (State.modStn s b n f).host = s.host ∧
    (State.modStn s b n f).dir = s.dir ∧
    (State.modStn s b n f).grp = s.grp ∧
    (State.modStn s b n f).gys = s.gys ∧
    (State.modStn s b n f).hst = s.hst ∧
    (State.modStn s b n f).cle = s.cle ∧
    (State.modStn s b n f).dr0 = s.dr0 ∧
    (State.modStn s b n f).dr1 = s.dr1 ∧
    (State.modStn s b n f).saf = s.saf ∧
    (State.modStn s b n f).fio = s.fio ∧
    (State.modStn s b n f).rng = s.rng ∧
    (State.modStn s b n f).dsp = s.dsp ∧
    (State.modStn s b n f).shf = s.shf ∧
    (State.modStn s b n f).tph = s.tph ∧
    (State.modStn s b n f).rtc = s.rtc ∧
    (State.modStn s b n f).sec = s.sec ∧
    (State.modStn s b n f).pending = s.pending := by
  generalize h : State.modStn s b n f = t
  unfold State.modStn at h
  try dsimp only at h
  (repeat' split at h) <;> subst h <;> simp

@[simp] theorem State.stationLost_frame (s : State) (b n : Nat) :
    (State.stationLost s b n).pwr = s.pwr ∧
    (State.stationLost s b n).lmp = s.lmp ∧
    (State.stationLost s b n).host = s.host ∧
    (State.stationLost s b n).grp = s.grp ∧
    (State.stationLost s b n).gys = s.gys ∧
    (State.stationLost s b n).hst = s.hst ∧
    (State.stationLost s b n).cle = s.cle ∧
    (State.stationLost s b n).dr0 = s.dr0 ∧
    (State.stationLost s b n).dr1 = s.dr1 ∧
    (State.stationLost s b n).saf = s.saf ∧
    (State.stationLost s b n).fio = s.fio ∧
    (State.stationLost s b n).rng = s.rng ∧
    (State.stationLost s b n).dsp = s.dsp ∧
    (State.stationLost s b n).shf = s.shf ∧
    (State.stationLost s b n).rtc = s.rtc ∧
    (State.stationLost s b n).pending = s.pending := by
  generalize h : State.stationLost s b n = t
  unfold State.stationLost at h
  try dsimp only at h
  (repeat' split at h) <;> subst h <;> simp

@[simp] theorem State.cancelAll_frame (s : State) (b status : Nat) :
    (State.cancelAll s b status).pwr = s.pwr ∧
    (State.cancelAll s b status).lmp = s.lmp ∧
    (State.cancelAll s b status).host = s.host ∧
    (State.cancelAll s b status).dir = s.dir ∧
    (State.cancelAll s b status).grp = s.grp ∧
    (State.cancelAll s b status).gys = s.gys ∧
    (State.cancelAll s b status).hst = s.hst ∧
    (State.cancelAll s b status).cle = s.cle ∧
    (State.cancelAll s b status).dr0 = s.dr0 ∧
    (State.cancelAll s b status).dr1 = s.dr1 ∧
    (State.cancelAll s b status).saf = s.saf ∧
    (State.cancelAll s b status).fio = s.fio ∧
    (State.cancelAll s b status).rng = s.rng ∧
    (State.cancelAll s b status).dsp = s.dsp ∧
    (State.cancelAll s b status).shf = s.shf ∧
    (State.cancelAll s b status).tph = s.tph ∧
    (State.cancelAll s b status).rtc = s.rtc ∧
    (State.cancelAll s b status).sec = s.sec ∧
    (State.cancelAll s b status).pending = s.pending := by
  generalize h : State.cancelAll s b status = t
  unfold State.cancelAll at h
  try dsimp only at h
  (repeat' split at h) <;> subst h <;> simp

@[simp] theorem State.canDisable_frame (s : State) (b : Nat) :
    (State.canDisable s b).pwr = s.pwr ∧
    (State.canDisable s b).lmp = s.lmp ∧
    (State.canDisable s b).host = s.host ∧
    (State.canDisable s b).grp = s.grp ∧
    (State.canDisable s b).gys = s.gys ∧
    (State.canDisable s b).hst = s.hst ∧
    (State.canDisable s b).cle = s.cle ∧
    (State.canDisable s b).dr0 = s.dr0 ∧
    (State.canDisable s b).dr1 = s.dr1 ∧
    (State.canDisable s b).saf = s.saf ∧
    (State.canDisable s b).fio = s.fio ∧
    (State.canDisable s b).rng = s.rng ∧
    (State.canDisable s b).dsp = s.dsp ∧
    (State.canDisable s b).shf = s.shf ∧
    (State.canDisable s b).rtc = s.rtc ∧
    (State.canDisable s b).pending = s.pending := by
  generalize h : State.canDisable s b = t
  unfold State.canDisable at h
  try dsimp only at h
  (repeat' split at h) <;> subst h <;> simp

@[simp] theorem State.canJoin_frame (s : State) (b : Nat) :
    (State.canJoin s b).pwr = s.pwr ∧
    (State.canJoin s b).lmp = s.lmp ∧
    (State.canJoin s b).host = s.host ∧
    (State.canJoin s b).dir = s.dir ∧
    (State.canJoin s b).grp = s.grp ∧
    (State.canJoin s b).gys = s.gys ∧
    (State.canJoin s b).hst = s.hst ∧
    (State.canJoin s b).cle = s.cle ∧
    (State.canJoin s b).dr0 = s.dr0 ∧
    (State.canJoin s b).dr1 = s.dr1 ∧
    (State.canJoin s b).saf = s.saf ∧
    (State.canJoin s b).fio = s.fio ∧
    (State.canJoin s b).rng = s.rng ∧
    (State.canJoin s b).dsp = s.dsp ∧
    (State.canJoin s b).shf = s.shf ∧
    (State.canJoin s b).tph = s.tph ∧
    (State.canJoin s b).rtc = s.rtc ∧
    (State.canJoin s b).sec = s.sec ∧
    (State.canJoin s b).pending = s.pending := by
  generalize h : State.canJoin s b = t
  unfold State.canJoin at h
  try dsimp only at h
  (repeat' split at h) <;> subst h <;> simp

@[simp] theorem State.forceObjs_frame (s : State) (b : Nat) (p : Nat → Bool) :
    (State.forceObjs s b p).pwr = s.pwr ∧
    (State.forceObjs s b p).lmp = s.lmp ∧
    (State.forceObjs s b p).host = s.host ∧
    (State.forceObjs s b p).dir = s.dir ∧
    (State.forceObjs s b p).grp = s.grp ∧
    (State.forceObjs s b p).gys = s.gys ∧
    (State.forceObjs s b p).hst = s.hst ∧
    (State.forceObjs s b p).cle = s.cle ∧
    (State.forceObjs s b p).dr0 = s.dr0 ∧
    (State.forceObjs s b p).dr1 = s.dr1 ∧
    (State.forceObjs s b p).saf = s.saf ∧
    (State.forceObjs s b p).fio = s.fio ∧
    (State.forceObjs s b p).rng = s.rng ∧
    (State.forceObjs s b p).dsp = s.dsp ∧
    (State.forceObjs s b p).shf = s.shf ∧
    (State.forceObjs s b p).tph = s.tph ∧
    (State.forceObjs s b p).rtc = s.rtc ∧
    (State.forceObjs s b p).sec = s.sec ∧
    (State.forceObjs s b p).pending = s.pending := by
  generalize h : State.forceObjs s b p = t
  unfold State.forceObjs at h
  try dsimp only at h
  (repeat' split at h) <;> subst h <;> simp

@[simp] theorem State.canOutput_pwr (s : State) (b : Nat) : (State.canOutput s b).pwr = s.pwr := by
  unfold State.canOutput; (repeat' split) <;> first | (simp; done) | ((try dsimp only); rw [foldl_pwr] <;> (try intro s x) <;> (repeat' split) <;> simp; done)

@[simp] theorem State.canOutput_lmp (s : State) (b : Nat) : (State.canOutput s b).lmp = s.lmp := by
  unfold State.canOutput; (repeat' split) <;> first | (simp; done) | ((try dsimp only); rw [foldl_lmp] <;> (try intro s x) <;> (repeat' split) <;> simp; done)

@[simp] theorem State.canOutput_host (s : State) (b : Nat) : (State.canOutput s b).host = s.host := by
  unfold State.canOutput; (repeat' split) <;> first | (simp; done) | ((try dsimp only); rw [foldl_host] <;> (try intro s x) <;> (repeat' split) <;> simp; done)

@[simp] theorem State.canOutput_dir (s : State) (b : Nat) : (State.canOutput s b).dir = s.dir := by
  unfold State.canOutput; (repeat' split) <;> first | (simp; done) | ((try dsimp only); rw [foldl_dir] <;> (try intro s x) <;> (repeat' split) <;> simp; done)

@[simp] theorem State.canOutput_grp (s : State) (b : Nat) : (State.canOutput s b).grp = s.grp := by
  unfold State.canOutput; (repeat' split) <;> first | (simp; done) | ((try dsimp only); rw [foldl_grp] <;> (try intro s x) <;> (repeat' split) <;> simp; done)

@[simp] theorem State.canOutput_gys (s : State) (b : Nat) : (State.canOutput s b).gys = s.gys := by
  unfold State.canOutput; (repeat' split) <;> first | (simp; done) | ((try dsimp only); rw [foldl_gys] <;> (try intro s x) <;> (repeat' split) <;> simp; done)

@[simp] theorem State.canOutput_hst (s : State) (b : Nat) : (State.canOutput s b).hst = s.hst := by
  unfold State.canOutput; (repeat' split) <;> first | (simp; done) | ((try dsimp only); rw [foldl_hst] <;> (try intro s x) <;> (repeat' split) <;> simp; done)

@[simp] theorem State.canOutput_cle (s : State) (b : Nat) : (State.canOutput s b).cle = s.cle := by
  unfold State.canOutput; (repeat' split) <;> first | (simp; done) | ((try dsimp only); rw [foldl_cle] <;> (try intro s x) <;> (repeat' split) <;> simp; done)

@[simp] theorem State.canOutput_dr0 (s : State) (b : Nat) : (State.canOutput s b).dr0 = s.dr0 := by
  unfold State.canOutput; (repeat' split) <;> first | (simp; done) | ((try dsimp only); rw [foldl_dr0] <;> (try intro s x) <;> (repeat' split) <;> simp; done)

@[simp] theorem State.canOutput_dr1 (s : State) (b : Nat) : (State.canOutput s b).dr1 = s.dr1 := by
  unfold State.canOutput; (repeat' split) <;> first | (simp; done) | ((try dsimp only); rw [foldl_dr1] <;> (try intro s x) <;> (repeat' split) <;> simp; done)

@[simp] theorem State.canOutput_saf (s : State) (b : Nat) : (State.canOutput s b).saf = s.saf := by
  unfold State.canOutput; (repeat' split) <;> first | (simp; done) | ((try dsimp only); rw [foldl_saf] <;> (try intro s x) <;> (repeat' split) <;> simp; done)

@[simp] theorem State.canOutput_fio (s : State) (b : Nat) : (State.canOutput s b).fio = s.fio := by
  unfold State.canOutput; (repeat' split) <;> first | (simp; done) | ((try dsimp only); rw [foldl_fio] <;> (try intro s x) <;> (repeat' split) <;> simp; done)

@[simp] theorem State.canOutput_rng (s : State) (b : Nat) : (State.canOutput s b).rng = s.rng := by
  unfold State.canOutput; (repeat' split) <;> first | (simp; done) | ((try dsimp only); rw [foldl_rng] <;> (try intro s x) <;> (repeat' split) <;> simp; done)

@[simp] theorem State.canOutput_dsp (s : State) (b : Nat) : (State.canOutput s b).dsp = s.dsp := by
  unfold State.canOutput; (repeat' split) <;> first | (simp; done) | ((try dsimp only); rw [foldl_dsp] <;> (try intro s x) <;> (repeat' split) <;> simp; done)

@[simp] theorem State.canOutput_shf (s : State) (b : Nat) : (State.canOutput s b).shf = s.shf := by
  unfold State.canOutput; (repeat' split) <;> first | (simp; done) | ((try dsimp only); rw [foldl_shf] <;> (try intro s x) <;> (repeat' split) <;> simp; done)

@[simp] theorem State.canOutput_tph (s : State) (b : Nat) : (State.canOutput s b).tph = s.tph := by
  unfold State.canOutput; (repeat' split) <;> first | (simp; done) | ((try dsimp only); rw [foldl_tph] <;> (try intro s x) <;> (repeat' split) <;> simp; done)

@[simp] theorem State.canOutput_rtc (s : State) (b : Nat) : (State.canOutput s b).rtc = s.rtc := by
  unfold State.canOutput; (repeat' split) <;> first | (simp; done) | ((try dsimp only); rw [foldl_rtc] <;> (try intro s x) <;> (repeat' split) <;> simp; done)

@[simp] theorem State.canOutput_sec (s : State) (b : Nat) : (State.canOutput s b).sec = s.sec := by
  unfold State.canOutput; (repeat' split) <;> first | (simp; done) | ((try dsimp only); rw [foldl_sec] <;> (try intro s x) <;> (repeat' split) <;> simp; done)

@[simp] theorem State.canOutput_pending (s : State) (b : Nat) : (State.canOutput s b).pending = s.pending := by
  unfold State.canOutput; (repeat' split) <;> first | (simp; done) | ((try dsimp only); rw [foldl_pending] <;> (try intro s x) <;> (repeat' split) <;> simp; done)

@[simp] theorem State.canGood_frame (s : State) (b : Nat) :
    (State.canGood s b).pwr = s.pwr ∧
    (State.canGood s b).lmp = s.lmp ∧
    (State.canGood s b).host = s.host ∧
    (State.canGood s b).grp = s.grp ∧
    (State.canGood s b).gys = s.gys ∧
    (State.canGood s b).hst = s.hst ∧
    (State.canGood s b).cle = s.cle ∧
    (State.canGood s b).dr0 = s.dr0 ∧
    (State.canGood s b).dr1 = s.dr1 ∧
    (State.canGood s b).saf = s.saf ∧
    (State.canGood s b).fio = s.fio ∧
    (State.canGood s b).rng = s.rng ∧
    (State.canGood s b).dsp = s.dsp ∧
    (State.canGood s b).shf = s.shf ∧
    (State.canGood s b).rtc = s.rtc ∧
    (State.canGood s b).pending = s.pending := by
  generalize h : State.canGood s b = t
  unfold State.canGood at h
  try dsimp only at h
  (repeat' split at h) <;> subst h <;> simp

@[simp] theorem State.noteTdc_frame (s : State) (b j tdcNs : Nat) :
    (State.noteTdc s b j tdcNs).pwr = s.pwr ∧
    (State.noteTdc s b j tdcNs).lmp = s.lmp ∧
    (State.noteTdc s b j tdcNs).host = s.host ∧
    (State.noteTdc s b j tdcNs).dir = s.dir ∧
    (State.noteTdc s b j tdcNs).grp = s.grp ∧
    (State.noteTdc s b j tdcNs).gys = s.gys ∧
    (State.noteTdc s b j tdcNs).hst = s.hst ∧
    (State.noteTdc s b j tdcNs).cle = s.cle ∧
    (State.noteTdc s b j tdcNs).dr0 = s.dr0 ∧
    (State.noteTdc s b j tdcNs).dr1 = s.dr1 ∧
    (State.noteTdc s b j tdcNs).saf = s.saf ∧
    (State.noteTdc s b j tdcNs).fio = s.fio ∧
    (State.noteTdc s b j tdcNs).rng = s.rng ∧
    (State.noteTdc s b j tdcNs).dsp = s.dsp ∧
    (State.noteTdc s b j tdcNs).shf = s.shf ∧
    (State.noteTdc s b j tdcNs).tph = s.tph ∧
    (State.noteTdc s b j tdcNs).rtc = s.rtc ∧
    (State.noteTdc s b j tdcNs).sec = s.sec ∧
    (State.noteTdc s b j tdcNs).pending = s.pending := by
  generalize h : State.noteTdc s b j tdcNs = t
  unfold State.noteTdc at h
  try dsimp only at h
  (repeat' split at h) <;> subst h <;> simp

@[simp] theorem State.canErrorState_frame (s : State) (b : Nat) :
    (State.canErrorState s b).pwr = s.pwr ∧
    (State.canErrorState s b).lmp = s.lmp ∧
    (State.canErrorState s b).host = s.host ∧
    (State.canErrorState s b).grp = s.grp ∧
    (State.canErrorState s b).gys = s.gys ∧
    (State.canErrorState s b).hst = s.hst ∧
    (State.canErrorState s b).cle = s.cle ∧
    (State.canErrorState s b).dr0 = s.dr0 ∧
    (State.canErrorState s b).dr1 = s.dr1 ∧
    (State.canErrorState s b).saf = s.saf ∧
    (State.canErrorState s b).fio = s.fio ∧
    (State.canErrorState s b).rng = s.rng ∧
    (State.canErrorState s b).dsp = s.dsp ∧
    (State.canErrorState s b).shf = s.shf ∧
    (State.canErrorState s b).rtc = s.rtc ∧
    (State.canErrorState s b).pending = s.pending := by
  generalize h : State.canErrorState s b = t
  unfold State.canErrorState at h
  try dsimp only at h
  (repeat' split at h) <;> subst h <;> simp

@[simp] theorem State.canDrop_frame (s : State) (b j : Nat) :
    (State.canDrop s b j).pwr = s.pwr ∧
    (State.canDrop s b j).lmp = s.lmp ∧
    (State.canDrop s b j).host = s.host ∧
    (State.canDrop s b j).grp = s.grp ∧
    (State.canDrop s b j).gys = s.gys ∧
    (State.canDrop s b j).hst = s.hst ∧
    (State.canDrop s b j).cle = s.cle ∧
    (State.canDrop s b j).dr0 = s.dr0 ∧
    (State.canDrop s b j).dr1 = s.dr1 ∧
    (State.canDrop s b j).saf = s.saf ∧
    (State.canDrop s b j).fio = s.fio ∧
    (State.canDrop s b j).rng = s.rng ∧
    (State.canDrop s b j).dsp = s.dsp ∧
    (State.canDrop s b j).shf = s.shf ∧
    (State.canDrop s b j).rtc = s.rtc ∧
    (State.canDrop s b j).pending = s.pending := by
  generalize h : State.canDrop s b j = t
  unfold State.canDrop at h
  try dsimp only at h
  (repeat' split at h) <;> subst h <;> simp

@[simp] theorem State.takeImage_frame (s : State) (b n j : Nat) (bytes : List Byte) (copying : Bool) :
    (State.takeImage s b n j bytes copying).pwr = s.pwr ∧
    (State.takeImage s b n j bytes copying).lmp = s.lmp ∧
    (State.takeImage s b n j bytes copying).host = s.host ∧
    (State.takeImage s b n j bytes copying).grp = s.grp ∧
    (State.takeImage s b n j bytes copying).gys = s.gys ∧
    (State.takeImage s b n j bytes copying).hst = s.hst ∧
    (State.takeImage s b n j bytes copying).cle = s.cle ∧
    (State.takeImage s b n j bytes copying).dr0 = s.dr0 ∧
    (State.takeImage s b n j bytes copying).dr1 = s.dr1 ∧
    (State.takeImage s b n j bytes copying).saf = s.saf ∧
    (State.takeImage s b n j bytes copying).fio = s.fio ∧
    (State.takeImage s b n j bytes copying).rng = s.rng ∧
    (State.takeImage s b n j bytes copying).dsp = s.dsp ∧
    (State.takeImage s b n j bytes copying).shf = s.shf ∧
    (State.takeImage s b n j bytes copying).rtc = s.rtc ∧
    (State.takeImage s b n j bytes copying).pending = s.pending := by
  generalize h : State.takeImage s b n j bytes copying = t
  unfold State.takeImage at h
  try dsimp only at h
  (repeat' split at h) <;> subst h <;> simp

@[simp] theorem State.endCopy_frame (s : State) (b n j : Nat) :
    (State.endCopy s b n j).pwr = s.pwr ∧
    (State.endCopy s b n j).lmp = s.lmp ∧
    (State.endCopy s b n j).host = s.host ∧
    (State.endCopy s b n j).dir = s.dir ∧
    (State.endCopy s b n j).grp = s.grp ∧
    (State.endCopy s b n j).gys = s.gys ∧
    (State.endCopy s b n j).hst = s.hst ∧
    (State.endCopy s b n j).cle = s.cle ∧
    (State.endCopy s b n j).dr0 = s.dr0 ∧
    (State.endCopy s b n j).dr1 = s.dr1 ∧
    (State.endCopy s b n j).saf = s.saf ∧
    (State.endCopy s b n j).fio = s.fio ∧
    (State.endCopy s b n j).rng = s.rng ∧
    (State.endCopy s b n j).dsp = s.dsp ∧
    (State.endCopy s b n j).shf = s.shf ∧
    (State.endCopy s b n j).tph = s.tph ∧
    (State.endCopy s b n j).rtc = s.rtc ∧
    (State.endCopy s b n j).sec = s.sec ∧
    (State.endCopy s b n j).pending = s.pending := by
  generalize h : State.endCopy s b n j = t
  unfold State.endCopy at h
  try dsimp only at h
  (repeat' split at h) <;> subst h <;> simp

@[simp] theorem State.queueHeartbeat_frame (s : State) (b state : Nat) :
    (State.queueHeartbeat s b state).pwr = s.pwr ∧
    (State.queueHeartbeat s b state).lmp = s.lmp ∧
    (State.queueHeartbeat s b state).host = s.host ∧
    (State.queueHeartbeat s b state).dir = s.dir ∧
    (State.queueHeartbeat s b state).grp = s.grp ∧
    (State.queueHeartbeat s b state).gys = s.gys ∧
    (State.queueHeartbeat s b state).hst = s.hst ∧
    (State.queueHeartbeat s b state).cle = s.cle ∧
    (State.queueHeartbeat s b state).dr0 = s.dr0 ∧
    (State.queueHeartbeat s b state).dr1 = s.dr1 ∧
    (State.queueHeartbeat s b state).saf = s.saf ∧
    (State.queueHeartbeat s b state).fio = s.fio ∧
    (State.queueHeartbeat s b state).rng = s.rng ∧
    (State.queueHeartbeat s b state).dsp = s.dsp ∧
    (State.queueHeartbeat s b state).shf = s.shf ∧
    (State.queueHeartbeat s b state).tph = s.tph ∧
    (State.queueHeartbeat s b state).rtc = s.rtc ∧
    (State.queueHeartbeat s b state).sec = s.sec ∧
    (State.queueHeartbeat s b state).pending = s.pending := by
  generalize h : State.queueHeartbeat s b state = t
  unfold State.queueHeartbeat at h
  try dsimp only at h
  (repeat' split at h) <;> subst h <;> simp

@[simp] theorem State.queueTime_frame (s : State) (b : Nat) :
    (State.queueTime s b).pwr = s.pwr ∧
    (State.queueTime s b).lmp = s.lmp ∧
    (State.queueTime s b).host = s.host ∧
    (State.queueTime s b).dir = s.dir ∧
    (State.queueTime s b).grp = s.grp ∧
    (State.queueTime s b).gys = s.gys ∧
    (State.queueTime s b).hst = s.hst ∧
    (State.queueTime s b).cle = s.cle ∧
    (State.queueTime s b).dr0 = s.dr0 ∧
    (State.queueTime s b).dr1 = s.dr1 ∧
    (State.queueTime s b).saf = s.saf ∧
    (State.queueTime s b).fio = s.fio ∧
    (State.queueTime s b).rng = s.rng ∧
    (State.queueTime s b).dsp = s.dsp ∧
    (State.queueTime s b).shf = s.shf ∧
    (State.queueTime s b).tph = s.tph ∧
    (State.queueTime s b).rtc = s.rtc ∧
    (State.queueTime s b).sec = s.sec ∧
    (State.queueTime s b).pending = s.pending := by
  generalize h : State.queueTime s b = t
  unfold State.queueTime at h
  try dsimp only at h
  (repeat' split at h) <;> subst h <;> simp

end Sys2Proof.Machine
end

