-- ==== Sys2Proof/Laws/FrBeacon.lean ====
section
/-!
SUPPORT. For each operation of Machine/Beacon.lean on the device, the blocks it leaves as they were.
-/
namespace Sys2Proof.Machine
set_option linter.unusedTactic false
set_option linter.unnecessarySeqFocus false
set_option linter.unreachableTactic false
set_option linter.unusedSimpArgs false
set_option linter.unusedVariables false

@[simp] theorem State.modCall_frame (s : State) (reg num : Nat) (f : Call → Call) :
    (State.modCall s reg num f).pwr = s.pwr ∧
    (State.modCall s reg num f).lmp = s.lmp ∧
    (State.modCall s reg num f).host = s.host ∧
    (State.modCall s reg num f).dir = s.dir ∧
    (State.modCall s reg num f).grp = s.grp ∧
    (State.modCall s reg num f).gys = s.gys ∧
    (State.modCall s reg num f).hst = s.hst ∧
    (State.modCall s reg num f).cle = s.cle ∧
    (State.modCall s reg num f).dr0 = s.dr0 ∧
    (State.modCall s reg num f).dr1 = s.dr1 ∧
    (State.modCall s reg num f).saf = s.saf ∧
    (State.modCall s reg num f).fio = s.fio ∧
    (State.modCall s reg num f).can0 = s.can0 ∧
    (State.modCall s reg num f).can1 = s.can1 ∧
    (State.modCall s reg num f).rng = s.rng ∧
    (State.modCall s reg num f).shf = s.shf ∧
    (State.modCall s reg num f).tph = s.tph ∧
    (State.modCall s reg num f).rtc = s.rtc ∧
    (State.modCall s reg num f).sec = s.sec ∧
    (State.modCall s reg num f).pending = s.pending := by
  generalize h : State.modCall s reg num f = t
  unfold State.modCall at h
  try dsimp only at h
  (repeat' split at h) <;> subst h <;> simp

@[simp] theorem State.dropCall_frame (s : State) (reg num : Nat) :
    (State.dropCall s reg num).pwr = s.pwr ∧
    (State.dropCall s reg num).lmp = s.lmp ∧
    (State.dropCall s reg num).host = s.host ∧
    (State.dropCall s reg num).dir = s.dir ∧
    (State.dropCall s reg num).grp = s.grp ∧
    (State.dropCall s reg num).gys = s.gys ∧
    (State.dropCall s reg num).hst = s.hst ∧
    (State.dropCall s reg num).cle = s.cle ∧
    (State.dropCall s reg num).dr0 = s.dr0 ∧
    (State.dropCall s reg num).dr1 = s.dr1 ∧
    (State.dropCall s reg num).saf = s.saf ∧
    (State.dropCall s reg num).fio = s.fio ∧
    (State.dropCall s reg num).can0 = s.can0 ∧
    (State.dropCall s reg num).can1 = s.can1 ∧
    (State.dropCall s reg num).rng = s.rng ∧
    (State.dropCall s reg num).shf = s.shf ∧
    (State.dropCall s reg num).tph = s.tph ∧
    (State.dropCall s reg num).rtc = s.rtc ∧
    (State.dropCall s reg num).sec = s.sec ∧
    (State.dropCall s reg num).pending = s.pending := by
  generalize h : State.dropCall s reg num = t
  unfold State.dropCall at h
  try dsimp only at h
  (repeat' split at h) <;> subst h <;> simp

@[simp] theorem State.takeCall_frame (s : State) (reg num : Nat) :
    (State.takeCall s reg num).pwr = s.pwr ∧
    (State.takeCall s reg num).lmp = s.lmp ∧
    (State.takeCall s reg num).host = s.host ∧
    (State.takeCall s reg num).grp = s.grp ∧
    (State.takeCall s reg num).gys = s.gys ∧
    (State.takeCall s reg num).hst = s.hst ∧
    (State.takeCall s reg num).cle = s.cle ∧
    (State.takeCall s reg num).dr0 = s.dr0 ∧
    (State.takeCall s reg num).dr1 = s.dr1 ∧
    (State.takeCall s reg num).saf = s.saf ∧
    (State.takeCall s reg num).fio = s.fio ∧
    (State.takeCall s reg num).can0 = s.can0 ∧
    (State.takeCall s reg num).can1 = s.can1 ∧
    (State.takeCall s reg num).rng = s.rng ∧
    (State.takeCall s reg num).shf = s.shf ∧
    (State.takeCall s reg num).rtc = s.rtc ∧
    (State.takeCall s reg num).pending = s.pending := by
  generalize h : State.takeCall s reg num = t
  unfold State.takeCall at h
  try dsimp only at h
  (repeat' split at h) <;> subst h <;> simp

@[simp] theorem State.groupSend_frame (s : State) (cls : Nat) (body : List Byte) :
    (State.groupSend s cls body).pwr = s.pwr ∧
    (State.groupSend s cls body).lmp = s.lmp ∧
    (State.groupSend s cls body).host = s.host ∧
    (State.groupSend s cls body).dir = s.dir ∧
    (State.groupSend s cls body).grp = s.grp ∧
    (State.groupSend s cls body).gys = s.gys ∧
    (State.groupSend s cls body).hst = s.hst ∧
    (State.groupSend s cls body).cle = s.cle ∧
    (State.groupSend s cls body).dr0 = s.dr0 ∧
    (State.groupSend s cls body).dr1 = s.dr1 ∧
    (State.groupSend s cls body).saf = s.saf ∧
    (State.groupSend s cls body).fio = s.fio ∧
    (State.groupSend s cls body).can0 = s.can0 ∧
    (State.groupSend s cls body).can1 = s.can1 ∧
    (State.groupSend s cls body).dsp = s.dsp ∧
    (State.groupSend s cls body).shf = s.shf ∧
    (State.groupSend s cls body).tph = s.tph ∧
    (State.groupSend s cls body).rtc = s.rtc ∧
    (State.groupSend s cls body).sec = s.sec ∧
    (State.groupSend s cls body).pending = s.pending := by
  generalize h : State.groupSend s cls body = t
  unfold State.groupSend at h
  try dsimp only at h
  (repeat' split at h) <;> subst h <;> simp

@[simp] theorem State.startAuction_frame (s : State) (num : Nat) :
    (State.startAuction s num).pwr = s.pwr ∧
    (State.startAuction s num).lmp = s.lmp ∧
    (State.startAuction s num).host = s.host ∧
    (State.startAuction s num).grp = s.grp ∧
    (State.startAuction s num).gys = s.gys ∧
    (State.startAuction s num).hst = s.hst ∧
    (State.startAuction s num).cle = s.cle ∧
    (State.startAuction s num).dr0 = s.dr0 ∧
    (State.startAuction s num).dr1 = s.dr1 ∧
    (State.startAuction s num).saf = s.saf ∧
    (State.startAuction s num).fio = s.fio ∧
    (State.startAuction s num).can0 = s.can0 ∧
    (State.startAuction s num).can1 = s.can1 ∧
    (State.startAuction s num).shf = s.shf ∧
    (State.startAuction s num).rtc = s.rtc ∧
    (State.startAuction s num).pending = s.pending := by
  generalize h : State.startAuction s num = t
  unfold State.startAuction at h
  try dsimp only at h
  (repeat' split at h) <;> subst h <;> simp

@[simp] theorem State.reauction_frame (s : State) (num : Nat) :
    (State.reauction s num).pwr = s.pwr ∧
    (State.reauction s num).lmp = s.lmp ∧
    (State.reauction s num).host = s.host ∧
    (State.reauction s num).grp = s.grp ∧
    (State.reauction s num).gys = s.gys ∧
    (State.reauction s num).hst = s.hst ∧
    (State.reauction s num).cle = s.cle ∧
    (State.reauction s num).dr0 = s.dr0 ∧
    (State.reauction s num).dr1 = s.dr1 ∧
    (State.reauction s num).saf = s.saf ∧
    (State.reauction s num).fio = s.fio ∧
    (State.reauction s num).can0 = s.can0 ∧
    (State.reauction s num).can1 = s.can1 ∧
    (State.reauction s num).shf = s.shf ∧
    (State.reauction s num).rtc = s.rtc ∧
    (State.reauction s num).pending = s.pending := by
  generalize h : State.reauction s num = t
  unfold State.reauction at h
  try dsimp only at h
  (repeat' split at h) <;> subst h <;> simp

@[simp] theorem State.fixBid_frame1 (s : State) (num : Nat) (b : Bid) :
    (s.fixBid num b).pwr = s.pwr ∧
    (s.fixBid num b).lmp = s.lmp ∧
    (s.fixBid num b).host = s.host ∧
    (s.fixBid num b).dir = s.dir ∧
    (s.fixBid num b).gys = s.gys ∧
    (s.fixBid num b).hst = s.hst := by
  unfold State.fixBid
  split
  · simp
  · dsimp only
    split
    · simp
    · next h => simp only [State.modCall_frame]; rw [State.openInternal_some h] <;> simp

@[simp] theorem State.fixBid_frame2 (s : State) (num : Nat) (b : Bid) :
    (s.fixBid num b).cle = s.cle ∧
    (s.fixBid num b).dr0 = s.dr0 ∧
    (s.fixBid num b).dr1 = s.dr1 ∧
    (s.fixBid num b).saf = s.saf ∧
    (s.fixBid num b).fio = s.fio ∧
    (s.fixBid num b).can0 = s.can0 := by
  unfold State.fixBid
  split
  · simp
  · dsimp only
    split
    · simp
    · next h => simp only [State.modCall_frame]; rw [State.openInternal_some h] <;> simp

@[simp] theorem State.fixBid_frame3 (s : State) (num : Nat) (b : Bid) :
    (s.fixBid num b).can1 = s.can1 ∧
    (s.fixBid num b).rng = s.rng ∧
    (s.fixBid num b).shf = s.shf ∧
    (s.fixBid num b).tph = s.tph ∧
    (s.fixBid num b).rtc = s.rtc ∧
    (s.fixBid num b).sec = s.sec := by
  unfold State.fixBid
  split
  · simp
  · dsimp only
    split
    · simp
    · next h => simp only [State.modCall_frame]; rw [State.openInternal_some h] <;> simp

@[simp] theorem State.fixBid_frame4 (s : State) (num : Nat) (b : Bid) :
    (s.fixBid num b).pending = s.pending := by
  unfold State.fixBid
  split
  · simp
  · dsimp only
    split
    · simp
    · next h => simp only [State.modCall_frame]; rw [State.openInternal_some h] <;> simp


@[simp] theorem State.beaconEnded_frame (s : State) (g : Nat) (ok : Bool) :
    (State.beaconEnded s g ok).pwr = s.pwr ∧
    (State.beaconEnded s g ok).lmp = s.lmp ∧
    (State.beaconEnded s g ok).host = s.host ∧
    (State.beaconEnded s g ok).gys = s.gys ∧
    (State.beaconEnded s g ok).hst = s.hst ∧
    (State.beaconEnded s g ok).cle = s.cle ∧
    (State.beaconEnded s g ok).dr0 = s.dr0 ∧
    (State.beaconEnded s g ok).dr1 = s.dr1 ∧
    (State.beaconEnded s g ok).saf = s.saf ∧
    (State.beaconEnded s g ok).fio = s.fio ∧
    (State.beaconEnded s g ok).can0 = s.can0 ∧
    (State.beaconEnded s g ok).can1 = s.can1 ∧
    (State.beaconEnded s g ok).shf = s.shf ∧
    (State.beaconEnded s g ok).rtc = s.rtc ∧
    (State.beaconEnded s g ok).pending = s.pending := by
  generalize h : State.beaconEnded s g ok = t
  unfold State.beaconEnded at h
  try dsimp only at h
  (repeat' split at h) <;> subst h <;> simp

@[simp] theorem State.callApply_frame (s : State) (body : List Byte) :
    (State.callApply s body).pwr = s.pwr ∧
    (State.callApply s body).lmp = s.lmp ∧
    (State.callApply s body).host = s.host ∧
    (State.callApply s body).grp = s.grp ∧
    (State.callApply s body).gys = s.gys ∧
    (State.callApply s body).hst = s.hst ∧
    (State.callApply s body).cle = s.cle ∧
    (State.callApply s body).dr0 = s.dr0 ∧
    (State.callApply s body).dr1 = s.dr1 ∧
    (State.callApply s body).saf = s.saf ∧
    (State.callApply s body).fio = s.fio ∧
    (State.callApply s body).can0 = s.can0 ∧
    (State.callApply s body).can1 = s.can1 ∧
    (State.callApply s body).rng = s.rng ∧
    (State.callApply s body).shf = s.shf ∧
    (State.callApply s body).rtc = s.rtc ∧
    (State.callApply s body).pending = s.pending := by
  generalize h : State.callApply s body = t
  unfold State.callApply at h
  try dsimp only at h
  (repeat' split at h) <;> subst h <;> simp

@[simp] theorem State.callDiverged_frame (s : State) (body : List Byte) :
    (State.callDiverged s body).pwr = s.pwr ∧
    (State.callDiverged s body).lmp = s.lmp ∧
    (State.callDiverged s body).host = s.host ∧
    (State.callDiverged s body).grp = s.grp ∧
    (State.callDiverged s body).gys = s.gys ∧
    (State.callDiverged s body).hst = s.hst ∧
    (State.callDiverged s body).cle = s.cle ∧
    (State.callDiverged s body).dr0 = s.dr0 ∧
    (State.callDiverged s body).dr1 = s.dr1 ∧
    (State.callDiverged s body).saf = s.saf ∧
    (State.callDiverged s body).fio = s.fio ∧
    (State.callDiverged s body).can0 = s.can0 ∧
    (State.callDiverged s body).can1 = s.can1 ∧
    (State.callDiverged s body).shf = s.shf ∧
    (State.callDiverged s body).rtc = s.rtc ∧
    (State.callDiverged s body).pending = s.pending := by
  generalize h : State.callDiverged s body = t
  unfold State.callDiverged at h
  try dsimp only at h
  (repeat' split at h) <;> subst h <;> simp

@[simp] theorem State.answerBid_frame (s : State) (f : RFrame) (c : Call) :
    (State.answerBid s f c).pwr = s.pwr ∧
    (State.answerBid s f c).lmp = s.lmp ∧
    (State.answerBid s f c).host = s.host ∧
    (State.answerBid s f c).dir = s.dir ∧
    (State.answerBid s f c).grp = s.grp ∧
    (State.answerBid s f c).gys = s.gys ∧
    (State.answerBid s f c).hst = s.hst ∧
    (State.answerBid s f c).cle = s.cle ∧
    (State.answerBid s f c).dr0 = s.dr0 ∧
    (State.answerBid s f c).dr1 = s.dr1 ∧
    (State.answerBid s f c).saf = s.saf ∧
    (State.answerBid s f c).fio = s.fio ∧
    (State.answerBid s f c).can0 = s.can0 ∧
    (State.answerBid s f c).can1 = s.can1 ∧
    (State.answerBid s f c).shf = s.shf ∧
    (State.answerBid s f c).tph = s.tph ∧
    (State.answerBid s f c).rtc = s.rtc ∧
    (State.answerBid s f c).sec = s.sec ∧
    (State.answerBid s f c).pending = s.pending := by
  generalize h : State.answerBid s f c = t
  unfold State.answerBid at h
  try dsimp only at h
  (repeat' split at h) <;> subst h <;> simp

@[simp] theorem State.callServed_pwr (s : State) (landing kind : Nat) : (State.callServed s landing kind).pwr = s.pwr := by
  unfold State.callServed; (repeat' split) <;> first | (simp; done) | ((try dsimp only); rw [foldl_pwr] <;> (try intro s x) <;> (repeat' split) <;> simp; done)

@[simp] theorem State.callServed_lmp (s : State) (landing kind : Nat) : (State.callServed s landing kind).lmp = s.lmp := by
  unfold State.callServed; (repeat' split) <;> first | (simp; done) | ((try dsimp only); rw [foldl_lmp] <;> (try intro s x) <;> (repeat' split) <;> simp; done)

@[simp] theorem State.callServed_host (s : State) (landing kind : Nat) : (State.callServed s landing kind).host = s.host := by
  unfold State.callServed; (repeat' split) <;> first | (simp; done) | ((try dsimp only); rw [foldl_host] <;> (try intro s x) <;> (repeat' split) <;> simp; done)

@[simp] theorem State.callServed_dir (s : State) (landing kind : Nat) : (State.callServed s landing kind).dir = s.dir := by
  unfold State.callServed; (repeat' split) <;> first | (simp; done) | ((try dsimp only); rw [foldl_dir] <;> (try intro s x) <;> (repeat' split) <;> simp; done)

@[simp] theorem State.callServed_grp (s : State) (landing kind : Nat) : (State.callServed s landing kind).grp = s.grp := by
  unfold State.callServed; (repeat' split) <;> first | (simp; done) | ((try dsimp only); rw [foldl_grp] <;> (try intro s x) <;> (repeat' split) <;> simp; done)

@[simp] theorem State.callServed_hst (s : State) (landing kind : Nat) : (State.callServed s landing kind).hst = s.hst := by
  unfold State.callServed; (repeat' split) <;> first | (simp; done) | ((try dsimp only); rw [foldl_hst] <;> (try intro s x) <;> (repeat' split) <;> simp; done)

@[simp] theorem State.callServed_cle (s : State) (landing kind : Nat) : (State.callServed s landing kind).cle = s.cle := by
  unfold State.callServed; (repeat' split) <;> first | (simp; done) | ((try dsimp only); rw [foldl_cle] <;> (try intro s x) <;> (repeat' split) <;> simp; done)

@[simp] theorem State.callServed_dr0 (s : State) (landing kind : Nat) : (State.callServed s landing kind).dr0 = s.dr0 := by
  unfold State.callServed; (repeat' split) <;> first | (simp; done) | ((try dsimp only); rw [foldl_dr0] <;> (try intro s x) <;> (repeat' split) <;> simp; done)

@[simp] theorem State.callServed_dr1 (s : State) (landing kind : Nat) : (State.callServed s landing kind).dr1 = s.dr1 := by
  unfold State.callServed; (repeat' split) <;> first | (simp; done) | ((try dsimp only); rw [foldl_dr1] <;> (try intro s x) <;> (repeat' split) <;> simp; done)

@[simp] theorem State.callServed_saf (s : State) (landing kind : Nat) : (State.callServed s landing kind).saf = s.saf := by
  unfold State.callServed; (repeat' split) <;> first | (simp; done) | ((try dsimp only); rw [foldl_saf] <;> (try intro s x) <;> (repeat' split) <;> simp; done)

@[simp] theorem State.callServed_fio (s : State) (landing kind : Nat) : (State.callServed s landing kind).fio = s.fio := by
  unfold State.callServed; (repeat' split) <;> first | (simp; done) | ((try dsimp only); rw [foldl_fio] <;> (try intro s x) <;> (repeat' split) <;> simp; done)

@[simp] theorem State.callServed_can0 (s : State) (landing kind : Nat) : (State.callServed s landing kind).can0 = s.can0 := by
  unfold State.callServed; (repeat' split) <;> first | (simp; done) | ((try dsimp only); rw [foldl_can0] <;> (try intro s x) <;> (repeat' split) <;> simp; done)

@[simp] theorem State.callServed_can1 (s : State) (landing kind : Nat) : (State.callServed s landing kind).can1 = s.can1 := by
  unfold State.callServed; (repeat' split) <;> first | (simp; done) | ((try dsimp only); rw [foldl_can1] <;> (try intro s x) <;> (repeat' split) <;> simp; done)

@[simp] theorem State.callServed_rng (s : State) (landing kind : Nat) : (State.callServed s landing kind).rng = s.rng := by
  unfold State.callServed; (repeat' split) <;> first | (simp; done) | ((try dsimp only); rw [foldl_rng] <;> (try intro s x) <;> (repeat' split) <;> simp; done)

@[simp] theorem State.callServed_shf (s : State) (landing kind : Nat) : (State.callServed s landing kind).shf = s.shf := by
  unfold State.callServed; (repeat' split) <;> first | (simp; done) | ((try dsimp only); rw [foldl_shf] <;> (try intro s x) <;> (repeat' split) <;> simp; done)

@[simp] theorem State.callServed_tph (s : State) (landing kind : Nat) : (State.callServed s landing kind).tph = s.tph := by
  unfold State.callServed; (repeat' split) <;> first | (simp; done) | ((try dsimp only); rw [foldl_tph] <;> (try intro s x) <;> (repeat' split) <;> simp; done)

@[simp] theorem State.callServed_rtc (s : State) (landing kind : Nat) : (State.callServed s landing kind).rtc = s.rtc := by
  unfold State.callServed; (repeat' split) <;> first | (simp; done) | ((try dsimp only); rw [foldl_rtc] <;> (try intro s x) <;> (repeat' split) <;> simp; done)

@[simp] theorem State.callServed_sec (s : State) (landing kind : Nat) : (State.callServed s landing kind).sec = s.sec := by
  unfold State.callServed; (repeat' split) <;> first | (simp; done) | ((try dsimp only); rw [foldl_sec] <;> (try intro s x) <;> (repeat' split) <;> simp; done)

@[simp] theorem State.callServed_pending (s : State) (landing kind : Nat) : (State.callServed s landing kind).pending = s.pending := by
  unfold State.callServed; (repeat' split) <;> first | (simp; done) | ((try dsimp only); rw [foldl_pending] <;> (try intro s x) <;> (repeat' split) <;> simp; done)

@[simp] theorem State.serveAt_pwr (s : State) (landing : Nat) : (State.serveAt s landing).pwr = s.pwr := by
  unfold State.serveAt; (repeat' split) <;> first | (simp; done) | ((try dsimp only); rw [foldl_pwr] <;> (try intro s x) <;> (repeat' split) <;> simp; done)

@[simp] theorem State.serveAt_lmp (s : State) (landing : Nat) : (State.serveAt s landing).lmp = s.lmp := by
  unfold State.serveAt; (repeat' split) <;> first | (simp; done) | ((try dsimp only); rw [foldl_lmp] <;> (try intro s x) <;> (repeat' split) <;> simp; done)

@[simp] theorem State.serveAt_host (s : State) (landing : Nat) : (State.serveAt s landing).host = s.host := by
  unfold State.serveAt; (repeat' split) <;> first | (simp; done) | ((try dsimp only); rw [foldl_host] <;> (try intro s x) <;> (repeat' split) <;> simp; done)

@[simp] theorem State.serveAt_grp (s : State) (landing : Nat) : (State.serveAt s landing).grp = s.grp := by
  unfold State.serveAt; (repeat' split) <;> first | (simp; done) | ((try dsimp only); rw [foldl_grp] <;> (try intro s x) <;> (repeat' split) <;> simp; done)

@[simp] theorem State.serveAt_hst (s : State) (landing : Nat) : (State.serveAt s landing).hst = s.hst := by
  unfold State.serveAt; (repeat' split) <;> first | (simp; done) | ((try dsimp only); rw [foldl_hst] <;> (try intro s x) <;> (repeat' split) <;> simp; done)

@[simp] theorem State.serveAt_cle (s : State) (landing : Nat) : (State.serveAt s landing).cle = s.cle := by
  unfold State.serveAt; (repeat' split) <;> first | (simp; done) | ((try dsimp only); rw [foldl_cle] <;> (try intro s x) <;> (repeat' split) <;> simp; done)

@[simp] theorem State.serveAt_dr0 (s : State) (landing : Nat) : (State.serveAt s landing).dr0 = s.dr0 := by
  unfold State.serveAt; (repeat' split) <;> first | (simp; done) | ((try dsimp only); rw [foldl_dr0] <;> (try intro s x) <;> (repeat' split) <;> simp; done)

@[simp] theorem State.serveAt_dr1 (s : State) (landing : Nat) : (State.serveAt s landing).dr1 = s.dr1 := by
  unfold State.serveAt; (repeat' split) <;> first | (simp; done) | ((try dsimp only); rw [foldl_dr1] <;> (try intro s x) <;> (repeat' split) <;> simp; done)

@[simp] theorem State.serveAt_saf (s : State) (landing : Nat) : (State.serveAt s landing).saf = s.saf := by
  unfold State.serveAt; (repeat' split) <;> first | (simp; done) | ((try dsimp only); rw [foldl_saf] <;> (try intro s x) <;> (repeat' split) <;> simp; done)

@[simp] theorem State.serveAt_fio (s : State) (landing : Nat) : (State.serveAt s landing).fio = s.fio := by
  unfold State.serveAt; (repeat' split) <;> first | (simp; done) | ((try dsimp only); rw [foldl_fio] <;> (try intro s x) <;> (repeat' split) <;> simp; done)

@[simp] theorem State.serveAt_can0 (s : State) (landing : Nat) : (State.serveAt s landing).can0 = s.can0 := by
  unfold State.serveAt; (repeat' split) <;> first | (simp; done) | ((try dsimp only); rw [foldl_can0] <;> (try intro s x) <;> (repeat' split) <;> simp; done)

@[simp] theorem State.serveAt_can1 (s : State) (landing : Nat) : (State.serveAt s landing).can1 = s.can1 := by
  unfold State.serveAt; (repeat' split) <;> first | (simp; done) | ((try dsimp only); rw [foldl_can1] <;> (try intro s x) <;> (repeat' split) <;> simp; done)

@[simp] theorem State.serveAt_shf (s : State) (landing : Nat) : (State.serveAt s landing).shf = s.shf := by
  unfold State.serveAt; (repeat' split) <;> first | (simp; done) | ((try dsimp only); rw [foldl_shf] <;> (try intro s x) <;> (repeat' split) <;> simp; done)

@[simp] theorem State.serveAt_rtc (s : State) (landing : Nat) : (State.serveAt s landing).rtc = s.rtc := by
  unfold State.serveAt; (repeat' split) <;> first | (simp; done) | ((try dsimp only); rw [foldl_rtc] <;> (try intro s x) <;> (repeat' split) <;> simp; done)

@[simp] theorem State.serveAt_pending (s : State) (landing : Nat) : (State.serveAt s landing).pending = s.pending := by
  unfold State.serveAt; (repeat' split) <;> first | (simp; done) | ((try dsimp only); rw [foldl_pending] <;> (try intro s x) <;> (repeat' split) <;> simp; done)

@[simp] theorem State.sendSummary_frame (s : State) (status : Nat) :
    (State.sendSummary s status).pwr = s.pwr ∧
    (State.sendSummary s status).lmp = s.lmp ∧
    (State.sendSummary s status).host = s.host ∧
    (State.sendSummary s status).dir = s.dir ∧
    (State.sendSummary s status).grp = s.grp ∧
    (State.sendSummary s status).gys = s.gys ∧
    (State.sendSummary s status).hst = s.hst ∧
    (State.sendSummary s status).cle = s.cle ∧
    (State.sendSummary s status).dr0 = s.dr0 ∧
    (State.sendSummary s status).dr1 = s.dr1 ∧
    (State.sendSummary s status).saf = s.saf ∧
    (State.sendSummary s status).fio = s.fio ∧
    (State.sendSummary s status).can0 = s.can0 ∧
    (State.sendSummary s status).can1 = s.can1 ∧
    (State.sendSummary s status).shf = s.shf ∧
    (State.sendSummary s status).tph = s.tph ∧
    (State.sendSummary s status).rtc = s.rtc ∧
    (State.sendSummary s status).sec = s.sec ∧
    (State.sendSummary s status).pending = s.pending := by
  generalize h : State.sendSummary s status = t
  unfold State.sendSummary at h
  try dsimp only at h
  (repeat' split at h) <;> subst h <;> simp

@[simp] theorem State.followFormat_frame (s : State) :
    (State.followFormat s).pwr = s.pwr ∧
    (State.followFormat s).lmp = s.lmp ∧
    (State.followFormat s).host = s.host ∧
    (State.followFormat s).grp = s.grp ∧
    (State.followFormat s).gys = s.gys ∧
    (State.followFormat s).hst = s.hst ∧
    (State.followFormat s).cle = s.cle ∧
    (State.followFormat s).dr0 = s.dr0 ∧
    (State.followFormat s).dr1 = s.dr1 ∧
    (State.followFormat s).saf = s.saf ∧
    (State.followFormat s).fio = s.fio ∧
    (State.followFormat s).can0 = s.can0 ∧
    (State.followFormat s).can1 = s.can1 ∧
    (State.followFormat s).rng = s.rng ∧
    (State.followFormat s).dsp = s.dsp ∧
    (State.followFormat s).shf = s.shf ∧
    (State.followFormat s).rtc = s.rtc ∧
    (State.followFormat s).pending = s.pending := by
  generalize h : State.followFormat s = t
  unfold State.followFormat at h
  try dsimp only at h
  (repeat' split at h) <;> subst h <;> simp

@[simp] theorem State.watchFull_frame (s : State) :
    (State.watchFull s).pwr = s.pwr ∧
    (State.watchFull s).lmp = s.lmp ∧
    (State.watchFull s).host = s.host ∧
    (State.watchFull s).grp = s.grp ∧
    (State.watchFull s).gys = s.gys ∧
    (State.watchFull s).hst = s.hst ∧
    (State.watchFull s).cle = s.cle ∧
    (State.watchFull s).dr0 = s.dr0 ∧
    (State.watchFull s).dr1 = s.dr1 ∧
    (State.watchFull s).saf = s.saf ∧
    (State.watchFull s).fio = s.fio ∧
    (State.watchFull s).can0 = s.can0 ∧
    (State.watchFull s).can1 = s.can1 ∧
    (State.watchFull s).rng = s.rng ∧
    (State.watchFull s).shf = s.shf ∧
    (State.watchFull s).rtc = s.rtc ∧
    (State.watchFull s).pending = s.pending := by
  generalize h : State.watchFull s = t
  unfold State.watchFull at h
  try dsimp only at h
  (repeat' split at h) <;> subst h <;> simp

@[simp] theorem State.dropNotice_frame (s : State) (src id : Nat) :
    (State.dropNotice s src id).pwr = s.pwr ∧
    (State.dropNotice s src id).lmp = s.lmp ∧
    (State.dropNotice s src id).host = s.host ∧
    (State.dropNotice s src id).dir = s.dir ∧
    (State.dropNotice s src id).grp = s.grp ∧
    (State.dropNotice s src id).gys = s.gys ∧
    (State.dropNotice s src id).hst = s.hst ∧
    (State.dropNotice s src id).cle = s.cle ∧
    (State.dropNotice s src id).saf = s.saf ∧
    (State.dropNotice s src id).fio = s.fio ∧
    (State.dropNotice s src id).can0 = s.can0 ∧
    (State.dropNotice s src id).can1 = s.can1 ∧
    (State.dropNotice s src id).rng = s.rng ∧
    (State.dropNotice s src id).shf = s.shf ∧
    (State.dropNotice s src id).tph = s.tph ∧
    (State.dropNotice s src id).rtc = s.rtc ∧
    (State.dropNotice s src id).sec = s.sec ∧
    (State.dropNotice s src id).pending = s.pending := by
  generalize h : State.dropNotice s src id = t
  unfold State.dropNotice at h
  try dsimp only at h
  (repeat' split at h) <;> subst h <;> simp

@[simp] theorem State.modNotice_frame (s : State) (src id : Nat) (f : Notice → Notice) :
    (State.modNotice s src id f).pwr = s.pwr ∧
    (State.modNotice s src id f).lmp = s.lmp ∧
    (State.modNotice s src id f).host = s.host ∧
    (State.modNotice s src id f).dir = s.dir ∧
    (State.modNotice s src id f).grp = s.grp ∧
    (State.modNotice s src id f).gys = s.gys ∧
    (State.modNotice s src id f).hst = s.hst ∧
    (State.modNotice s src id f).cle = s.cle ∧
    (State.modNotice s src id f).dr0 = s.dr0 ∧
    (State.modNotice s src id f).dr1 = s.dr1 ∧
    (State.modNotice s src id f).saf = s.saf ∧
    (State.modNotice s src id f).fio = s.fio ∧
    (State.modNotice s src id f).can0 = s.can0 ∧
    (State.modNotice s src id f).can1 = s.can1 ∧
    (State.modNotice s src id f).rng = s.rng ∧
    (State.modNotice s src id f).shf = s.shf ∧
    (State.modNotice s src id f).tph = s.tph ∧
    (State.modNotice s src id f).rtc = s.rtc ∧
    (State.modNotice s src id f).sec = s.sec ∧
    (State.modNotice s src id f).pending = s.pending := by
  generalize h : State.modNotice s src id f = t
  unfold State.modNotice at h
  try dsimp only at h
  (repeat' split at h) <;> subst h <;> simp

end Sys2Proof.Machine
end

