-- ==== Sys2Proof/Laws/FrRtc.lean ====
section
/-!
SUPPORT. For each operation of Machine/Rtc.lean on the device, the blocks it leaves as they were.
-/
namespace Sys2Proof.Machine
set_option linter.unusedTactic false
set_option linter.unnecessarySeqFocus false
set_option linter.unreachableTactic false
set_option linter.unusedSimpArgs false
set_option linter.unusedVariables false

@[simp] theorem State.rtcUnset_frame (s : State) :
    (State.rtcUnset s).pwr = s.pwr ∧
    (State.rtcUnset s).lmp = s.lmp ∧
    (State.rtcUnset s).host = s.host ∧
    (State.rtcUnset s).dir = s.dir ∧
    (State.rtcUnset s).grp = s.grp ∧
    (State.rtcUnset s).gys = s.gys ∧
    (State.rtcUnset s).hst = s.hst ∧
    (State.rtcUnset s).cle = s.cle ∧
    (State.rtcUnset s).dr0 = s.dr0 ∧
    (State.rtcUnset s).dr1 = s.dr1 ∧
    (State.rtcUnset s).saf = s.saf ∧
    (State.rtcUnset s).fio = s.fio ∧
    (State.rtcUnset s).can0 = s.can0 ∧
    (State.rtcUnset s).can1 = s.can1 ∧
    (State.rtcUnset s).rng = s.rng ∧
    (State.rtcUnset s).dsp = s.dsp ∧
    (State.rtcUnset s).shf = s.shf ∧
    (State.rtcUnset s).tph = s.tph ∧
    (State.rtcUnset s).sec = s.sec ∧
    (State.rtcUnset s).pending = s.pending := by
  generalize h : State.rtcUnset s = t
  unfold State.rtcUnset at h
  try dsimp only at h
  (repeat' split at h) <;> subst h <;> simp

@[simp] theorem State.rtcWrite_frame (s : State) (c : Calendar) (ms : Nat) :
    (State.rtcWrite s c ms).pwr = s.pwr ∧
    (State.rtcWrite s c ms).lmp = s.lmp ∧
    (State.rtcWrite s c ms).host = s.host ∧
    (State.rtcWrite s c ms).grp = s.grp ∧
    (State.rtcWrite s c ms).gys = s.gys ∧
    (State.rtcWrite s c ms).hst = s.hst ∧
    (State.rtcWrite s c ms).cle = s.cle ∧
    (State.rtcWrite s c ms).dr0 = s.dr0 ∧
    (State.rtcWrite s c ms).dr1 = s.dr1 ∧
    (State.rtcWrite s c ms).saf = s.saf ∧
    (State.rtcWrite s c ms).fio = s.fio ∧
    (State.rtcWrite s c ms).can0 = s.can0 ∧
    (State.rtcWrite s c ms).can1 = s.can1 ∧
    (State.rtcWrite s c ms).rng = s.rng ∧
    (State.rtcWrite s c ms).dsp = s.dsp ∧
    (State.rtcWrite s c ms).shf = s.shf ∧
    (State.rtcWrite s c ms).pending = s.pending := by
  generalize h : State.rtcWrite s c ms = t
  unfold State.rtcWrite at h
  try dsimp only at h
  (repeat' split at h) <;> subst h <;> simp

@[simp] theorem State.rtcAlarm_frame (s : State) :
    (State.rtcAlarm s).lmp = s.lmp ∧
    (State.rtcAlarm s).host = s.host ∧
    (State.rtcAlarm s).grp = s.grp ∧
    (State.rtcAlarm s).gys = s.gys ∧
    (State.rtcAlarm s).hst = s.hst ∧
    (State.rtcAlarm s).cle = s.cle ∧
    (State.rtcAlarm s).dr0 = s.dr0 ∧
    (State.rtcAlarm s).dr1 = s.dr1 ∧
    (State.rtcAlarm s).saf = s.saf ∧
    (State.rtcAlarm s).fio = s.fio ∧
    (State.rtcAlarm s).can0 = s.can0 ∧
    (State.rtcAlarm s).can1 = s.can1 ∧
    (State.rtcAlarm s).rng = s.rng ∧
    (State.rtcAlarm s).dsp = s.dsp ∧
    (State.rtcAlarm s).shf = s.shf ∧
    (State.rtcAlarm s).pending = s.pending := by
  generalize h : State.rtcAlarm s = t
  unfold State.rtcAlarm at h
  try dsimp only at h
  (repeat' split at h) <;> subst h <;> simp

@[simp] theorem State.rtcCycles_frame (s : State) (n125 : Nat) :
    (State.rtcCycles s n125).pwr = s.pwr ∧
    (State.rtcCycles s n125).lmp = s.lmp ∧
    (State.rtcCycles s n125).host = s.host ∧
    (State.rtcCycles s n125).dir = s.dir ∧
    (State.rtcCycles s n125).grp = s.grp ∧
    (State.rtcCycles s n125).gys = s.gys ∧
    (State.rtcCycles s n125).hst = s.hst ∧
    (State.rtcCycles s n125).cle = s.cle ∧
    (State.rtcCycles s n125).dr0 = s.dr0 ∧
    (State.rtcCycles s n125).dr1 = s.dr1 ∧
    (State.rtcCycles s n125).saf = s.saf ∧
    (State.rtcCycles s n125).fio = s.fio ∧
    (State.rtcCycles s n125).can0 = s.can0 ∧
    (State.rtcCycles s n125).can1 = s.can1 ∧
    (State.rtcCycles s n125).rng = s.rng ∧
    (State.rtcCycles s n125).dsp = s.dsp ∧
    (State.rtcCycles s n125).shf = s.shf ∧
    (State.rtcCycles s n125).tph = s.tph ∧
    (State.rtcCycles s n125).sec = s.sec ∧
    (State.rtcCycles s n125).pending = s.pending := by
  generalize h : State.rtcCycles s n125 = t
  unfold State.rtcCycles at h
  try dsimp only at h
  (repeat' split at h) <;> subst h <;> simp

end Sys2Proof.Machine
end

