-- ==== Sys2Proof/Laws/FrSession.lean ====
section
/-!
SUPPORT. For each operation of Machine/Session.lean on the device, the blocks it leaves as they were.
-/
namespace Sys2Proof.Machine
set_option linter.unusedTactic false
set_option linter.unnecessarySeqFocus false
set_option linter.unreachableTactic false
set_option linter.unusedSimpArgs false
set_option linter.unusedVariables false

@[simp] theorem State.dropClaims_frame (s : State) (h : Nat) :
    (State.dropClaims s h).pwr = s.pwr ∧
    (State.dropClaims s h).lmp = s.lmp ∧
    (State.dropClaims s h).host = s.host ∧
    (State.dropClaims s h).grp = s.grp ∧
    (State.dropClaims s h).gys = s.gys ∧
    (State.dropClaims s h).hst = s.hst ∧
    (State.dropClaims s h).cle = s.cle ∧
    (State.dropClaims s h).dr0 = s.dr0 ∧
    (State.dropClaims s h).dr1 = s.dr1 ∧
    (State.dropClaims s h).saf = s.saf ∧
    (State.dropClaims s h).fio = s.fio ∧
    (State.dropClaims s h).can0 = s.can0 ∧
    (State.dropClaims s h).can1 = s.can1 ∧
    (State.dropClaims s h).rng = s.rng ∧
    (State.dropClaims s h).dsp = s.dsp ∧
    (State.dropClaims s h).shf = s.shf ∧
    (State.dropClaims s h).tph = s.tph ∧
    (State.dropClaims s h).rtc = s.rtc ∧
    (State.dropClaims s h).pending = s.pending := by
  generalize h : State.dropClaims s h = t
  unfold State.dropClaims at h
  try dsimp only at h
  (repeat' split at h) <;> subst h <;> simp

@[simp] theorem State.dropStreams_frame (s : State) (h : Nat) :
    (State.dropStreams s h).pwr = s.pwr ∧
    (State.dropStreams s h).lmp = s.lmp ∧
    (State.dropStreams s h).host = s.host ∧
    (State.dropStreams s h).dir = s.dir ∧
    (State.dropStreams s h).grp = s.grp ∧
    (State.dropStreams s h).gys = s.gys ∧
    (State.dropStreams s h).hst = s.hst ∧
    (State.dropStreams s h).cle = s.cle ∧
    (State.dropStreams s h).dr0 = s.dr0 ∧
    (State.dropStreams s h).dr1 = s.dr1 ∧
    (State.dropStreams s h).saf = s.saf ∧
    (State.dropStreams s h).fio = s.fio ∧
    (State.dropStreams s h).can0 = s.can0 ∧
    (State.dropStreams s h).can1 = s.can1 ∧
    (State.dropStreams s h).rng = s.rng ∧
    (State.dropStreams s h).dsp = s.dsp ∧
    (State.dropStreams s h).shf = s.shf ∧
    (State.dropStreams s h).rtc = s.rtc ∧
    (State.dropStreams s h).sec = s.sec ∧
    (State.dropStreams s h).pending = s.pending := by
  generalize h : State.dropStreams s h = t
  unfold State.dropStreams at h
  try dsimp only at h
  (repeat' split at h) <;> subst h <;> simp

@[simp] theorem State.expireGroup_frame (s : State) (g : Nat) :
    (State.expireGroup s g).pwr = s.pwr ∧
    (State.expireGroup s g).lmp = s.lmp ∧
    (State.expireGroup s g).host = s.host ∧
    (State.expireGroup s g).gys = s.gys ∧
    (State.expireGroup s g).hst = s.hst ∧
    (State.expireGroup s g).cle = s.cle ∧
    (State.expireGroup s g).dr0 = s.dr0 ∧
    (State.expireGroup s g).dr1 = s.dr1 ∧
    (State.expireGroup s g).saf = s.saf ∧
    (State.expireGroup s g).fio = s.fio ∧
    (State.expireGroup s g).can0 = s.can0 ∧
    (State.expireGroup s g).can1 = s.can1 ∧
    (State.expireGroup s g).rng = s.rng ∧
    (State.expireGroup s g).dsp = s.dsp ∧
    (State.expireGroup s g).shf = s.shf ∧
    (State.expireGroup s g).rtc = s.rtc ∧
    (State.expireGroup s g).pending = s.pending := by
  generalize h : State.expireGroup s g = t
  unfold State.expireGroup at h
  try dsimp only at h
  (repeat' split at h) <;> subst h <;> simp

@[simp] theorem State.expireGroups_pwr (s : State) (h : Nat) : (State.expireGroups s h).pwr = s.pwr := by
  unfold State.expireGroups; (repeat' split) <;> first | (simp; done) | ((try dsimp only); rw [foldl_pwr] <;> (try intro s x) <;> (repeat' split) <;> simp; done)

@[simp] theorem State.expireGroups_lmp (s : State) (h : Nat) : (State.expireGroups s h).lmp = s.lmp := by
  unfold State.expireGroups; (repeat' split) <;> first | (simp; done) | ((try dsimp only); rw [foldl_lmp] <;> (try intro s x) <;> (repeat' split) <;> simp; done)

@[simp] theorem State.expireGroups_host (s : State) (h : Nat) : (State.expireGroups s h).host = s.host := by
  unfold State.expireGroups; (repeat' split) <;> first | (simp; done) | ((try dsimp only); rw [foldl_host] <;> (try intro s x) <;> (repeat' split) <;> simp; done)

@[simp] theorem State.expireGroups_gys (s : State) (h : Nat) : (State.expireGroups s h).gys = s.gys := by
  unfold State.expireGroups; (repeat' split) <;> first | (simp; done) | ((try dsimp only); rw [foldl_gys] <;> (try intro s x) <;> (repeat' split) <;> simp; done)

@[simp] theorem State.expireGroups_hst (s : State) (h : Nat) : (State.expireGroups s h).hst = s.hst := by
  unfold State.expireGroups; (repeat' split) <;> first | (simp; done) | ((try dsimp only); rw [foldl_hst] <;> (try intro s x) <;> (repeat' split) <;> simp; done)

@[simp] theorem State.expireGroups_cle (s : State) (h : Nat) : (State.expireGroups s h).cle = s.cle := by
  unfold State.expireGroups; (repeat' split) <;> first | (simp; done) | ((try dsimp only); rw [foldl_cle] <;> (try intro s x) <;> (repeat' split) <;> simp; done)

@[simp] theorem State.expireGroups_dr0 (s : State) (h : Nat) : (State.expireGroups s h).dr0 = s.dr0 := by
  unfold State.expireGroups; (repeat' split) <;> first | (simp; done) | ((try dsimp only); rw [foldl_dr0] <;> (try intro s x) <;> (repeat' split) <;> simp; done)

@[simp] theorem State.expireGroups_dr1 (s : State) (h : Nat) : (State.expireGroups s h).dr1 = s.dr1 := by
  unfold State.expireGroups; (repeat' split) <;> first | (simp; done) | ((try dsimp only); rw [foldl_dr1] <;> (try intro s x) <;> (repeat' split) <;> simp; done)

@[simp] theorem State.expireGroups_saf (s : State) (h : Nat) : (State.expireGroups s h).saf = s.saf := by
  unfold State.expireGroups; (repeat' split) <;> first | (simp; done) | ((try dsimp only); rw [foldl_saf] <;> (try intro s x) <;> (repeat' split) <;> simp; done)

@[simp] theorem State.expireGroups_fio (s : State) (h : Nat) : (State.expireGroups s h).fio = s.fio := by
  unfold State.expireGroups; (repeat' split) <;> first | (simp; done) | ((try dsimp only); rw [foldl_fio] <;> (try intro s x) <;> (repeat' split) <;> simp; done)

@[simp] theorem State.expireGroups_can0 (s : State) (h : Nat) : (State.expireGroups s h).can0 = s.can0 := by
  unfold State.expireGroups; (repeat' split) <;> first | (simp; done) | ((try dsimp only); rw [foldl_can0] <;> (try intro s x) <;> (repeat' split) <;> simp; done)

@[simp] theorem State.expireGroups_can1 (s : State) (h : Nat) : (State.expireGroups s h).can1 = s.can1 := by
  unfold State.expireGroups; (repeat' split) <;> first | (simp; done) | ((try dsimp only); rw [foldl_can1] <;> (try intro s x) <;> (repeat' split) <;> simp; done)

@[simp] theorem State.expireGroups_rng (s : State) (h : Nat) : (State.expireGroups s h).rng = s.rng := by
  unfold State.expireGroups; (repeat' split) <;> first | (simp; done) | ((try dsimp only); rw [foldl_rng] <;> (try intro s x) <;> (repeat' split) <;> simp; done)

@[simp] theorem State.expireGroups_dsp (s : State) (h : Nat) : (State.expireGroups s h).dsp = s.dsp := by
  unfold State.expireGroups; (repeat' split) <;> first | (simp; done) | ((try dsimp only); rw [foldl_dsp] <;> (try intro s x) <;> (repeat' split) <;> simp; done)

@[simp] theorem State.expireGroups_shf (s : State) (h : Nat) : (State.expireGroups s h).shf = s.shf := by
  unfold State.expireGroups; (repeat' split) <;> first | (simp; done) | ((try dsimp only); rw [foldl_shf] <;> (try intro s x) <;> (repeat' split) <;> simp; done)

@[simp] theorem State.expireGroups_rtc (s : State) (h : Nat) : (State.expireGroups s h).rtc = s.rtc := by
  unfold State.expireGroups; (repeat' split) <;> first | (simp; done) | ((try dsimp only); rw [foldl_rtc] <;> (try intro s x) <;> (repeat' split) <;> simp; done)

@[simp] theorem State.expireGroups_pending (s : State) (h : Nat) : (State.expireGroups s h).pending = s.pending := by
  unfold State.expireGroups; (repeat' split) <;> first | (simp; done) | ((try dsimp only); rw [foldl_pending] <;> (try intro s x) <;> (repeat' split) <;> simp; done)

@[simp] theorem State.dropSafSession_frame (s : State) (h : Nat) :
    (State.dropSafSession s h).pwr = s.pwr ∧
    (State.dropSafSession s h).lmp = s.lmp ∧
    (State.dropSafSession s h).host = s.host ∧
    (State.dropSafSession s h).dir = s.dir ∧
    (State.dropSafSession s h).grp = s.grp ∧
    (State.dropSafSession s h).gys = s.gys ∧
    (State.dropSafSession s h).hst = s.hst ∧
    (State.dropSafSession s h).cle = s.cle ∧
    (State.dropSafSession s h).dr0 = s.dr0 ∧
    (State.dropSafSession s h).dr1 = s.dr1 ∧
    (State.dropSafSession s h).fio = s.fio ∧
    (State.dropSafSession s h).can0 = s.can0 ∧
    (State.dropSafSession s h).can1 = s.can1 ∧
    (State.dropSafSession s h).rng = s.rng ∧
    (State.dropSafSession s h).dsp = s.dsp ∧
    (State.dropSafSession s h).shf = s.shf ∧
    (State.dropSafSession s h).tph = s.tph ∧
    (State.dropSafSession s h).rtc = s.rtc ∧
    (State.dropSafSession s h).sec = s.sec ∧
    (State.dropSafSession s h).pending = s.pending := by
  generalize h : State.dropSafSession s h = t
  unfold State.dropSafSession at h
  try dsimp only at h
  (repeat' split at h) <;> subst h <;> simp

@[simp] theorem State.abortQueued_frame (s : State) (h : Nat) (after : Bool) :
    (State.abortQueued s h after).pwr = s.pwr ∧
    (State.abortQueued s h after).lmp = s.lmp ∧
    (State.abortQueued s h after).dir = s.dir ∧
    (State.abortQueued s h after).grp = s.grp ∧
    (State.abortQueued s h after).gys = s.gys ∧
    (State.abortQueued s h after).hst = s.hst ∧
    (State.abortQueued s h after).cle = s.cle ∧
    (State.abortQueued s h after).dr0 = s.dr0 ∧
    (State.abortQueued s h after).dr1 = s.dr1 ∧
    (State.abortQueued s h after).saf = s.saf ∧
    (State.abortQueued s h after).fio = s.fio ∧
    (State.abortQueued s h after).can0 = s.can0 ∧
    (State.abortQueued s h after).can1 = s.can1 ∧
    (State.abortQueued s h after).rng = s.rng ∧
    (State.abortQueued s h after).dsp = s.dsp ∧
    (State.abortQueued s h after).shf = s.shf ∧
    (State.abortQueued s h after).tph = s.tph ∧
    (State.abortQueued s h after).rtc = s.rtc ∧
    (State.abortQueued s h after).sec = s.sec ∧
    (State.abortQueued s h after).pending = s.pending := by
  generalize h : State.abortQueued s h after = t
  unfold State.abortQueued at h
  try dsimp only at h
  (repeat' split at h) <;> subst h <;> simp

@[simp] theorem State.closeSlot_frame (s : State) (h : Nat) (lost : Bool) :
    (State.closeSlot s h lost).pwr = s.pwr ∧
    (State.closeSlot s h lost).lmp = s.lmp ∧
    (State.closeSlot s h lost).gys = s.gys ∧
    (State.closeSlot s h lost).hst = s.hst ∧
    (State.closeSlot s h lost).cle = s.cle ∧
    (State.closeSlot s h lost).dr0 = s.dr0 ∧
    (State.closeSlot s h lost).dr1 = s.dr1 ∧
    (State.closeSlot s h lost).fio = s.fio ∧
    (State.closeSlot s h lost).can0 = s.can0 ∧
    (State.closeSlot s h lost).can1 = s.can1 ∧
    (State.closeSlot s h lost).rng = s.rng ∧
    (State.closeSlot s h lost).dsp = s.dsp ∧
    (State.closeSlot s h lost).shf = s.shf ∧
    (State.closeSlot s h lost).rtc = s.rtc ∧
    (State.closeSlot s h lost).pending = s.pending := by
  generalize h : State.closeSlot s h lost = t
  unfold State.closeSlot at h
  try dsimp only at h
  (repeat' split at h) <;> subst h <;> simp

@[simp] theorem State.closeSessions_pwr (s : State) (p : Nat → Session → Bool) : (State.closeSessions s p).pwr = s.pwr := by
  unfold State.closeSessions; (repeat' split) <;> first | (simp; done) | ((try dsimp only); rw [foldl_pwr] <;> (try intro s x) <;> (repeat' split) <;> simp; done)

@[simp] theorem State.closeSessions_lmp (s : State) (p : Nat → Session → Bool) : (State.closeSessions s p).lmp = s.lmp := by
  unfold State.closeSessions; (repeat' split) <;> first | (simp; done) | ((try dsimp only); rw [foldl_lmp] <;> (try intro s x) <;> (repeat' split) <;> simp; done)

@[simp] theorem State.closeSessions_gys (s : State) (p : Nat → Session → Bool) : (State.closeSessions s p).gys = s.gys := by
  unfold State.closeSessions; (repeat' split) <;> first | (simp; done) | ((try dsimp only); rw [foldl_gys] <;> (try intro s x) <;> (repeat' split) <;> simp; done)

@[simp] theorem State.closeSessions_hst (s : State) (p : Nat → Session → Bool) : (State.closeSessions s p).hst = s.hst := by
  unfold State.closeSessions; (repeat' split) <;> first | (simp; done) | ((try dsimp only); rw [foldl_hst] <;> (try intro s x) <;> (repeat' split) <;> simp; done)

@[simp] theorem State.closeSessions_cle (s : State) (p : Nat → Session → Bool) : (State.closeSessions s p).cle = s.cle := by
  unfold State.closeSessions; (repeat' split) <;> first | (simp; done) | ((try dsimp only); rw [foldl_cle] <;> (try intro s x) <;> (repeat' split) <;> simp; done)

@[simp] theorem State.closeSessions_dr0 (s : State) (p : Nat → Session → Bool) : (State.closeSessions s p).dr0 = s.dr0 := by
  unfold State.closeSessions; (repeat' split) <;> first | (simp; done) | ((try dsimp only); rw [foldl_dr0] <;> (try intro s x) <;> (repeat' split) <;> simp; done)

@[simp] theorem State.closeSessions_dr1 (s : State) (p : Nat → Session → Bool) : (State.closeSessions s p).dr1 = s.dr1 := by
  unfold State.closeSessions; (repeat' split) <;> first | (simp; done) | ((try dsimp only); rw [foldl_dr1] <;> (try intro s x) <;> (repeat' split) <;> simp; done)

@[simp] theorem State.closeSessions_fio (s : State) (p : Nat → Session → Bool) : (State.closeSessions s p).fio = s.fio := by
  unfold State.closeSessions; (repeat' split) <;> first | (simp; done) | ((try dsimp only); rw [foldl_fio] <;> (try intro s x) <;> (repeat' split) <;> simp; done)

@[simp] theorem State.closeSessions_can0 (s : State) (p : Nat → Session → Bool) : (State.closeSessions s p).can0 = s.can0 := by
  unfold State.closeSessions; (repeat' split) <;> first | (simp; done) | ((try dsimp only); rw [foldl_can0] <;> (try intro s x) <;> (repeat' split) <;> simp; done)

@[simp] theorem State.closeSessions_can1 (s : State) (p : Nat → Session → Bool) : (State.closeSessions s p).can1 = s.can1 := by
  unfold State.closeSessions; (repeat' split) <;> first | (simp; done) | ((try dsimp only); rw [foldl_can1] <;> (try intro s x) <;> (repeat' split) <;> simp; done)

@[simp] theorem State.closeSessions_rng (s : State) (p : Nat → Session → Bool) : (State.closeSessions s p).rng = s.rng := by
  unfold State.closeSessions; (repeat' split) <;> first | (simp; done) | ((try dsimp only); rw [foldl_rng] <;> (try intro s x) <;> (repeat' split) <;> simp; done)

@[simp] theorem State.closeSessions_dsp (s : State) (p : Nat → Session → Bool) : (State.closeSessions s p).dsp = s.dsp := by
  unfold State.closeSessions; (repeat' split) <;> first | (simp; done) | ((try dsimp only); rw [foldl_dsp] <;> (try intro s x) <;> (repeat' split) <;> simp; done)

@[simp] theorem State.closeSessions_shf (s : State) (p : Nat → Session → Bool) : (State.closeSessions s p).shf = s.shf := by
  unfold State.closeSessions; (repeat' split) <;> first | (simp; done) | ((try dsimp only); rw [foldl_shf] <;> (try intro s x) <;> (repeat' split) <;> simp; done)

@[simp] theorem State.closeSessions_rtc (s : State) (p : Nat → Session → Bool) : (State.closeSessions s p).rtc = s.rtc := by
  unfold State.closeSessions; (repeat' split) <;> first | (simp; done) | ((try dsimp only); rw [foldl_rtc] <;> (try intro s x) <;> (repeat' split) <;> simp; done)

@[simp] theorem State.closeSessions_pending (s : State) (p : Nat → Session → Bool) : (State.closeSessions s p).pending = s.pending := by
  unfold State.closeSessions; (repeat' split) <;> first | (simp; done) | ((try dsimp only); rw [foldl_pending] <;> (try intro s x) <;> (repeat' split) <;> simp; done)

@[simp] theorem State.deliverAll_pwr (s : State) (h : Nat) : (State.deliverAll s h).pwr = s.pwr := by
  unfold State.deliverAll; (repeat' split) <;> first | (simp; done) | ((try dsimp only); rw [foldl_pwr] <;> (try intro s x) <;> (repeat' split) <;> simp; done)

@[simp] theorem State.deliverAll_lmp (s : State) (h : Nat) : (State.deliverAll s h).lmp = s.lmp := by
  unfold State.deliverAll; (repeat' split) <;> first | (simp; done) | ((try dsimp only); rw [foldl_lmp] <;> (try intro s x) <;> (repeat' split) <;> simp; done)

@[simp] theorem State.deliverAll_grp (s : State) (h : Nat) : (State.deliverAll s h).grp = s.grp := by
  unfold State.deliverAll; (repeat' split) <;> first | (simp; done) | ((try dsimp only); rw [foldl_grp] <;> (try intro s x) <;> (repeat' split) <;> simp; done)

@[simp] theorem State.deliverAll_gys (s : State) (h : Nat) : (State.deliverAll s h).gys = s.gys := by
  unfold State.deliverAll; (repeat' split) <;> first | (simp; done) | ((try dsimp only); rw [foldl_gys] <;> (try intro s x) <;> (repeat' split) <;> simp; done)

@[simp] theorem State.deliverAll_hst (s : State) (h : Nat) : (State.deliverAll s h).hst = s.hst := by
  unfold State.deliverAll; (repeat' split) <;> first | (simp; done) | ((try dsimp only); rw [foldl_hst] <;> (try intro s x) <;> (repeat' split) <;> simp; done)

@[simp] theorem State.deliverAll_cle (s : State) (h : Nat) : (State.deliverAll s h).cle = s.cle := by
  unfold State.deliverAll; (repeat' split) <;> first | (simp; done) | ((try dsimp only); rw [foldl_cle] <;> (try intro s x) <;> (repeat' split) <;> simp; done)

@[simp] theorem State.deliverAll_dr0 (s : State) (h : Nat) : (State.deliverAll s h).dr0 = s.dr0 := by
  unfold State.deliverAll; (repeat' split) <;> first | (simp; done) | ((try dsimp only); rw [foldl_dr0] <;> (try intro s x) <;> (repeat' split) <;> simp; done)

@[simp] theorem State.deliverAll_dr1 (s : State) (h : Nat) : (State.deliverAll s h).dr1 = s.dr1 := by
  unfold State.deliverAll; (repeat' split) <;> first | (simp; done) | ((try dsimp only); rw [foldl_dr1] <;> (try intro s x) <;> (repeat' split) <;> simp; done)

@[simp] theorem State.deliverAll_saf (s : State) (h : Nat) : (State.deliverAll s h).saf = s.saf := by
  unfold State.deliverAll; (repeat' split) <;> first | (simp; done) | ((try dsimp only); rw [foldl_saf] <;> (try intro s x) <;> (repeat' split) <;> simp; done)

@[simp] theorem State.deliverAll_fio (s : State) (h : Nat) : (State.deliverAll s h).fio = s.fio := by
  unfold State.deliverAll; (repeat' split) <;> first | (simp; done) | ((try dsimp only); rw [foldl_fio] <;> (try intro s x) <;> (repeat' split) <;> simp; done)

@[simp] theorem State.deliverAll_can0 (s : State) (h : Nat) : (State.deliverAll s h).can0 = s.can0 := by
  unfold State.deliverAll; (repeat' split) <;> first | (simp; done) | ((try dsimp only); rw [foldl_can0] <;> (try intro s x) <;> (repeat' split) <;> simp; done)

@[simp] theorem State.deliverAll_can1 (s : State) (h : Nat) : (State.deliverAll s h).can1 = s.can1 := by
  unfold State.deliverAll; (repeat' split) <;> first | (simp; done) | ((try dsimp only); rw [foldl_can1] <;> (try intro s x) <;> (repeat' split) <;> simp; done)

@[simp] theorem State.deliverAll_rng (s : State) (h : Nat) : (State.deliverAll s h).rng = s.rng := by
  unfold State.deliverAll; (repeat' split) <;> first | (simp; done) | ((try dsimp only); rw [foldl_rng] <;> (try intro s x) <;> (repeat' split) <;> simp; done)

@[simp] theorem State.deliverAll_dsp (s : State) (h : Nat) : (State.deliverAll s h).dsp = s.dsp := by
  unfold State.deliverAll; (repeat' split) <;> first | (simp; done) | ((try dsimp only); rw [foldl_dsp] <;> (try intro s x) <;> (repeat' split) <;> simp; done)

@[simp] theorem State.deliverAll_shf (s : State) (h : Nat) : (State.deliverAll s h).shf = s.shf := by
  unfold State.deliverAll; (repeat' split) <;> first | (simp; done) | ((try dsimp only); rw [foldl_shf] <;> (try intro s x) <;> (repeat' split) <;> simp; done)

@[simp] theorem State.deliverAll_rtc (s : State) (h : Nat) : (State.deliverAll s h).rtc = s.rtc := by
  unfold State.deliverAll; (repeat' split) <;> first | (simp; done) | ((try dsimp only); rw [foldl_rtc] <;> (try intro s x) <;> (repeat' split) <;> simp; done)

@[simp] theorem State.deliverAll_pending (s : State) (h : Nat) : (State.deliverAll s h).pending = s.pending := by
  unfold State.deliverAll; (repeat' split) <;> first | (simp; done) | ((try dsimp only); rw [foldl_pending] <;> (try intro s x) <;> (repeat' split) <;> simp; done)

end Sys2Proof.Machine
end

