-- ==== Sys2Proof/Laws/FrParams.lean ====
section
/-!
SUPPORT. For each operation of Machine/Params.lean on the device, the blocks it leaves as they were.
-/
namespace Sys2Proof.Machine
set_option linter.unusedTactic false
set_option linter.unnecessarySeqFocus false
set_option linter.unreachableTactic false
set_option linter.unusedSimpArgs false
set_option linter.unusedVariables false

@[simp] theorem State.trustPort_frame (s : State) (h : Nat) :
    (State.trustPort s h).pwr = s.pwr ∧
    (State.trustPort s h).lmp = s.lmp ∧
    (State.trustPort s h).gys = s.gys ∧
    (State.trustPort s h).hst = s.hst ∧
    (State.trustPort s h).cle = s.cle ∧
    (State.trustPort s h).dr0 = s.dr0 ∧
    (State.trustPort s h).dr1 = s.dr1 ∧
    (State.trustPort s h).fio = s.fio ∧
    (State.trustPort s h).can0 = s.can0 ∧
    (State.trustPort s h).can1 = s.can1 ∧
    (State.trustPort s h).rng = s.rng ∧
    (State.trustPort s h).dsp = s.dsp ∧
    (State.trustPort s h).shf = s.shf ∧
    (State.trustPort s h).rtc = s.rtc ∧
    (State.trustPort s h).pending = s.pending := by
  generalize h : State.trustPort s h = t
  unfold State.trustPort at h
  try dsimp only at h
  (repeat' split at h) <;> subst h <;> simp

/-- What both branches of a choice keep, the choice keeps. -/
theorem ite_keeps {Q : State → Prop} {p : Prop} [Decidable p] {a b : State} (ha : Q a) (hb : Q b) : Q (if p then a else b) := by
  split
  · exact ha
  · exact hb


@[simp] theorem State.onApply_frame (s : State) (idx : Nat) (old v : Int) (slot : Nat) :
    (State.onApply s idx old v slot).pwr = s.pwr ∧
    (State.onApply s idx old v slot).lmp = s.lmp ∧
    (State.onApply s idx old v slot).gys = s.gys ∧
    (State.onApply s idx old v slot).dsp = s.dsp ∧
    (State.onApply s idx old v slot).pending = s.pending := by
  obtain ⟨Q, hQ⟩ : ∃ Q : State → Prop, ∀ t, Q t ↔ (t.pwr = s.pwr ∧ t.lmp = s.lmp ∧ t.gys = s.gys ∧ t.dsp = s.dsp ∧ t.pending = s.pending) :=
    ⟨_, fun _ => Iff.rfl⟩
  rw [← hQ]
  unfold State.onApply
  (repeat' with_reducible apply ite_keeps) <;> rw [hQ] <;> simp


@[simp] theorem State.applyPar_frame (s : State) (idx : Nat) (v : Int) (slot : Nat) :
    (State.applyPar s idx v slot).pwr = s.pwr ∧
    (State.applyPar s idx v slot).lmp = s.lmp ∧
    (State.applyPar s idx v slot).gys = s.gys ∧
    (State.applyPar s idx v slot).dsp = s.dsp ∧
    (State.applyPar s idx v slot).pending = s.pending := by
  generalize h : State.applyPar s idx v slot = t
  unfold State.applyPar at h
  try dsimp only at h
  (repeat' split at h) <;> subst h <;> simp

@[simp] theorem State.paramWritten_frame (s : State) (slot idx ver : Nat) :
    (State.paramWritten s slot idx ver).pwr = s.pwr ∧
    (State.paramWritten s slot idx ver).lmp = s.lmp ∧
    (State.paramWritten s slot idx ver).host = s.host ∧
    (State.paramWritten s slot idx ver).grp = s.grp ∧
    (State.paramWritten s slot idx ver).gys = s.gys ∧
    (State.paramWritten s slot idx ver).hst = s.hst ∧
    (State.paramWritten s slot idx ver).cle = s.cle ∧
    (State.paramWritten s slot idx ver).dr0 = s.dr0 ∧
    (State.paramWritten s slot idx ver).dr1 = s.dr1 ∧
    (State.paramWritten s slot idx ver).saf = s.saf ∧
    (State.paramWritten s slot idx ver).fio = s.fio ∧
    (State.paramWritten s slot idx ver).can0 = s.can0 ∧
    (State.paramWritten s slot idx ver).can1 = s.can1 ∧
    (State.paramWritten s slot idx ver).rng = s.rng ∧
    (State.paramWritten s slot idx ver).dsp = s.dsp ∧
    (State.paramWritten s slot idx ver).shf = s.shf ∧
    (State.paramWritten s slot idx ver).rtc = s.rtc ∧
    (State.paramWritten s slot idx ver).pending = s.pending := by
  generalize h : State.paramWritten s slot idx ver = t
  unfold State.paramWritten at h
  try dsimp only at h
  (repeat' split at h) <;> subst h <;> simp

@[simp] theorem State.applyWrite_frame (s : State) (f : Flight) (idx : Nat) (v : Int) :
    (State.applyWrite s f idx v).pwr = s.pwr ∧
    (State.applyWrite s f idx v).lmp = s.lmp ∧
    (State.applyWrite s f idx v).gys = s.gys ∧
    (State.applyWrite s f idx v).dsp = s.dsp ∧
    (State.applyWrite s f idx v).pending = s.pending := by
  generalize h : State.applyWrite s f idx v = t
  unfold State.applyWrite at h
  try dsimp only at h
  (repeat' split at h) <;> subst h <;> simp

@[simp] theorem State.writeDurable_frame (s : State) (f : Flight) (idx : Nat) (v : Int) (ver : Nat) :
    (State.writeDurable s f idx v ver).lmp = s.lmp ∧
    (State.writeDurable s f idx v ver).grp = s.grp ∧
    (State.writeDurable s f idx v ver).gys = s.gys ∧
    (State.writeDurable s f idx v ver).hst = s.hst ∧
    (State.writeDurable s f idx v ver).cle = s.cle ∧
    (State.writeDurable s f idx v ver).dr0 = s.dr0 ∧
    (State.writeDurable s f idx v ver).dr1 = s.dr1 ∧
    (State.writeDurable s f idx v ver).saf = s.saf ∧
    (State.writeDurable s f idx v ver).fio = s.fio ∧
    (State.writeDurable s f idx v ver).can0 = s.can0 ∧
    (State.writeDurable s f idx v ver).can1 = s.can1 ∧
    (State.writeDurable s f idx v ver).rng = s.rng ∧
    (State.writeDurable s f idx v ver).dsp = s.dsp ∧
    (State.writeDurable s f idx v ver).shf = s.shf ∧
    (State.writeDurable s f idx v ver).rtc = s.rtc ∧
    (State.writeDurable s f idx v ver).pending = s.pending := by
  generalize h : State.writeDurable s f idx v ver = t
  unfold State.writeDurable at h
  try dsimp only at h
  (repeat' split at h) <;> subst h <;> simp

@[simp] theorem State.restorePar_frame (s : State) (i slot : Nat) :
    (State.restorePar s i slot).pwr = s.pwr ∧
    (State.restorePar s i slot).lmp = s.lmp ∧
    (State.restorePar s i slot).gys = s.gys ∧
    (State.restorePar s i slot).dsp = s.dsp ∧
    (State.restorePar s i slot).pending = s.pending := by
  generalize h : State.restorePar s i slot = t
  unfold State.restorePar at h
  try dsimp only at h
  (repeat' split at h) <;> subst h <;> simp

@[simp] theorem State.restoreBlock_frame (s : State) (first last p slot : Nat) :
    (State.restoreBlock s first last p slot).pwr = s.pwr ∧
    (State.restoreBlock s first last p slot).lmp = s.lmp ∧
    (State.restoreBlock s first last p slot).gys = s.gys ∧
    (State.restoreBlock s first last p slot).dsp = s.dsp ∧
    (State.restoreBlock s first last p slot).pending = s.pending := by
  generalize h : State.restoreBlock s first last p slot = t
  unfold State.restoreBlock at h
  try dsimp only at h
  (repeat' split at h) <;> subst h <;> simp

end Sys2Proof.Machine
end

