-- ==== Sys2Proof/Laws/FrTables.lean ====
section
/-!
SUPPORT. For each operation of Machine/Tables.lean on the device, the blocks it leaves as they were.
-/
namespace Sys2Proof.Machine
set_option linter.unusedTactic false
set_option linter.unnecessarySeqFocus false
set_option linter.unreachableTactic false
set_option linter.unusedSimpArgs false
set_option linter.unusedVariables false

@[simp] theorem State.accessRefused4_frame (s : State) (addr : Nat) :
    (State.accessRefused4 s addr).pwr = s.pwr ∧
    (State.accessRefused4 s addr).lmp = s.lmp ∧
    (State.accessRefused4 s addr).host = s.host ∧
    (State.accessRefused4 s addr).grp = s.grp ∧
    (State.accessRefused4 s addr).gys = s.gys ∧
    (State.accessRefused4 s addr).hst = s.hst ∧
    (State.accessRefused4 s addr).cle = s.cle ∧
    (State.accessRefused4 s addr).dr0 = s.dr0 ∧
    (State.accessRefused4 s addr).dr1 = s.dr1 ∧
    (State.accessRefused4 s addr).saf = s.saf ∧
    (State.accessRefused4 s addr).fio = s.fio ∧
    (State.accessRefused4 s addr).can0 = s.can0 ∧
    (State.accessRefused4 s addr).can1 = s.can1 ∧
    (State.accessRefused4 s addr).rng = s.rng ∧
    (State.accessRefused4 s addr).dsp = s.dsp ∧
    (State.accessRefused4 s addr).shf = s.shf ∧
    (State.accessRefused4 s addr).rtc = s.rtc ∧
    (State.accessRefused4 s addr).pending = s.pending := by
  generalize h : State.accessRefused4 s addr = t
  unfold State.accessRefused4 at h
  try dsimp only at h
  (repeat' split at h) <;> subst h <;> simp

@[simp] theorem State.claimTable_frame (s : State) (tid h : Nat) :
    (State.claimTable s tid h).pwr = s.pwr ∧
    (State.claimTable s tid h).lmp = s.lmp ∧
    (State.claimTable s tid h).host = s.host ∧
    (State.claimTable s tid h).grp = s.grp ∧
    (State.claimTable s tid h).gys = s.gys ∧
    (State.claimTable s tid h).hst = s.hst ∧
    (State.claimTable s tid h).cle = s.cle ∧
    (State.claimTable s tid h).dr0 = s.dr0 ∧
    (State.claimTable s tid h).dr1 = s.dr1 ∧
    (State.claimTable s tid h).saf = s.saf ∧
    (State.claimTable s tid h).fio = s.fio ∧
    (State.claimTable s tid h).can0 = s.can0 ∧
    (State.claimTable s tid h).can1 = s.can1 ∧
    (State.claimTable s tid h).rng = s.rng ∧
    (State.claimTable s tid h).dsp = s.dsp ∧
    (State.claimTable s tid h).shf = s.shf ∧
    (State.claimTable s tid h).tph = s.tph ∧
    (State.claimTable s tid h).rtc = s.rtc ∧
    (State.claimTable s tid h).sec = s.sec ∧
    (State.claimTable s tid h).pending = s.pending := by
  generalize h : State.claimTable s tid h = t
  unfold State.claimTable at h
  try dsimp only at h
  (repeat' split at h) <;> subst h <;> simp

@[simp] theorem State.stageBytes_frame (s : State) (tid off : Nat) (bs : List Byte) :
    (State.stageBytes s tid off bs).pwr = s.pwr ∧
    (State.stageBytes s tid off bs).lmp = s.lmp ∧
    (State.stageBytes s tid off bs).host = s.host ∧
    (State.stageBytes s tid off bs).grp = s.grp ∧
    (State.stageBytes s tid off bs).gys = s.gys ∧
    (State.stageBytes s tid off bs).hst = s.hst ∧
    (State.stageBytes s tid off bs).cle = s.cle ∧
    (State.stageBytes s tid off bs).dr0 = s.dr0 ∧
    (State.stageBytes s tid off bs).dr1 = s.dr1 ∧
    (State.stageBytes s tid off bs).saf = s.saf ∧
    (State.stageBytes s tid off bs).fio = s.fio ∧
    (State.stageBytes s tid off bs).can0 = s.can0 ∧
    (State.stageBytes s tid off bs).can1 = s.can1 ∧
    (State.stageBytes s tid off bs).rng = s.rng ∧
    (State.stageBytes s tid off bs).dsp = s.dsp ∧
    (State.stageBytes s tid off bs).shf = s.shf ∧
    (State.stageBytes s tid off bs).tph = s.tph ∧
    (State.stageBytes s tid off bs).rtc = s.rtc ∧
    (State.stageBytes s tid off bs).sec = s.sec ∧
    (State.stageBytes s tid off bs).pending = s.pending := by
  generalize h : State.stageBytes s tid off bs = t
  unfold State.stageBytes at h
  try dsimp only at h
  (repeat' split at h) <;> subst h <;> simp

@[simp] theorem State.imageRefused_frame (s : State) (tid check : Nat) :
    (State.imageRefused s tid check).pwr = s.pwr ∧
    (State.imageRefused s tid check).lmp = s.lmp ∧
    (State.imageRefused s tid check).host = s.host ∧
    (State.imageRefused s tid check).grp = s.grp ∧
    (State.imageRefused s tid check).gys = s.gys ∧
    (State.imageRefused s tid check).hst = s.hst ∧
    (State.imageRefused s tid check).cle = s.cle ∧
    (State.imageRefused s tid check).dr0 = s.dr0 ∧
    (State.imageRefused s tid check).dr1 = s.dr1 ∧
    (State.imageRefused s tid check).saf = s.saf ∧
    (State.imageRefused s tid check).fio = s.fio ∧
    (State.imageRefused s tid check).can0 = s.can0 ∧
    (State.imageRefused s tid check).can1 = s.can1 ∧
    (State.imageRefused s tid check).rng = s.rng ∧
    (State.imageRefused s tid check).dsp = s.dsp ∧
    (State.imageRefused s tid check).shf = s.shf ∧
    (State.imageRefused s tid check).rtc = s.rtc ∧
    (State.imageRefused s tid check).pending = s.pending := by
  generalize h : State.imageRefused s tid check = t
  unfold State.imageRefused at h
  try dsimp only at h
  (repeat' split at h) <;> subst h <;> simp

@[simp] theorem State.takeTerminals_frame (s : State) :
    (State.takeTerminals s).pwr = s.pwr ∧
    (State.takeTerminals s).lmp = s.lmp ∧
    (State.takeTerminals s).host = s.host ∧
    (State.takeTerminals s).grp = s.grp ∧
    (State.takeTerminals s).gys = s.gys ∧
    (State.takeTerminals s).hst = s.hst ∧
    (State.takeTerminals s).cle = s.cle ∧
    (State.takeTerminals s).dr0 = s.dr0 ∧
    (State.takeTerminals s).dr1 = s.dr1 ∧
    (State.takeTerminals s).saf = s.saf ∧
    (State.takeTerminals s).fio = s.fio ∧
    (State.takeTerminals s).can0 = s.can0 ∧
    (State.takeTerminals s).can1 = s.can1 ∧
    (State.takeTerminals s).rng = s.rng ∧
    (State.takeTerminals s).dsp = s.dsp ∧
    (State.takeTerminals s).shf = s.shf ∧
    (State.takeTerminals s).tph = s.tph ∧
    (State.takeTerminals s).rtc = s.rtc ∧
    (State.takeTerminals s).pending = s.pending := by
  generalize h : State.takeTerminals s = t
  unfold State.takeTerminals at h
  try dsimp only at h
  (repeat' split at h) <;> subst h <;> simp

@[simp] theorem State.canSwitched_pwr (s : State) (b : Nat) (old : Mem) : (s.canSwitched b old).pwr = s.pwr := by
  unfold State.canSwitched
  dsimp only
  rw [foldl_pwr, foldl_pwr] <;> intro s x <;> split <;> simp

@[simp] theorem State.canSwitched_lmp (s : State) (b : Nat) (old : Mem) : (s.canSwitched b old).lmp = s.lmp := by
  unfold State.canSwitched
  dsimp only
  rw [foldl_lmp, foldl_lmp] <;> intro s x <;> split <;> simp

@[simp] theorem State.canSwitched_host (s : State) (b : Nat) (old : Mem) : (s.canSwitched b old).host = s.host := by
  unfold State.canSwitched
  dsimp only
  rw [foldl_host, foldl_host] <;> intro s x <;> split <;> simp

@[simp] theorem State.canSwitched_dir (s : State) (b : Nat) (old : Mem) : (s.canSwitched b old).dir = s.dir := by
  unfold State.canSwitched
  dsimp only
  rw [foldl_dir, foldl_dir] <;> intro s x <;> split <;> simp

@[simp] theorem State.canSwitched_grp (s : State) (b : Nat) (old : Mem) : (s.canSwitched b old).grp = s.grp := by
  unfold State.canSwitched
  dsimp only
  rw [foldl_grp, foldl_grp] <;> intro s x <;> split <;> simp

@[simp] theorem State.canSwitched_gys (s : State) (b : Nat) (old : Mem) : (s.canSwitched b old).gys = s.gys := by
  unfold State.canSwitched
  dsimp only
  rw [foldl_gys, foldl_gys] <;> intro s x <;> split <;> simp

@[simp] theorem State.canSwitched_hst (s : State) (b : Nat) (old : Mem) : (s.canSwitched b old).hst = s.hst := by
  unfold State.canSwitched
  dsimp only
  rw [foldl_hst, foldl_hst] <;> intro s x <;> split <;> simp

@[simp] theorem State.canSwitched_cle (s : State) (b : Nat) (old : Mem) : (s.canSwitched b old).cle = s.cle := by
  unfold State.canSwitched
  dsimp only
  rw [foldl_cle, foldl_cle] <;> intro s x <;> split <;> simp

@[simp] theorem State.canSwitched_dr0 (s : State) (b : Nat) (old : Mem) : (s.canSwitched b old).dr0 = s.dr0 := by
  unfold State.canSwitched
  dsimp only
  rw [foldl_dr0, foldl_dr0] <;> intro s x <;> split <;> simp

@[simp] theorem State.canSwitched_dr1 (s : State) (b : Nat) (old : Mem) : (s.canSwitched b old).dr1 = s.dr1 := by
  unfold State.canSwitched
  dsimp only
  rw [foldl_dr1, foldl_dr1] <;> intro s x <;> split <;> simp

@[simp] theorem State.canSwitched_saf (s : State) (b : Nat) (old : Mem) : (s.canSwitched b old).saf = s.saf := by
  unfold State.canSwitched
  dsimp only
  rw [foldl_saf, foldl_saf] <;> intro s x <;> split <;> simp

@[simp] theorem State.canSwitched_fio (s : State) (b : Nat) (old : Mem) : (s.canSwitched b old).fio = s.fio := by
  unfold State.canSwitched
  dsimp only
  rw [foldl_fio, foldl_fio] <;> intro s x <;> split <;> simp

@[simp] theorem State.canSwitched_rng (s : State) (b : Nat) (old : Mem) : (s.canSwitched b old).rng = s.rng := by
  unfold State.canSwitched
  dsimp only
  rw [foldl_rng, foldl_rng] <;> intro s x <;> split <;> simp

@[simp] theorem State.canSwitched_dsp (s : State) (b : Nat) (old : Mem) : (s.canSwitched b old).dsp = s.dsp := by
  unfold State.canSwitched
  dsimp only
  rw [foldl_dsp, foldl_dsp] <;> intro s x <;> split <;> simp

@[simp] theorem State.canSwitched_shf (s : State) (b : Nat) (old : Mem) : (s.canSwitched b old).shf = s.shf := by
  unfold State.canSwitched
  dsimp only
  rw [foldl_shf, foldl_shf] <;> intro s x <;> split <;> simp

@[simp] theorem State.canSwitched_tph (s : State) (b : Nat) (old : Mem) : (s.canSwitched b old).tph = s.tph := by
  unfold State.canSwitched
  dsimp only
  rw [foldl_tph, foldl_tph] <;> intro s x <;> split <;> simp

@[simp] theorem State.canSwitched_rtc (s : State) (b : Nat) (old : Mem) : (s.canSwitched b old).rtc = s.rtc := by
  unfold State.canSwitched
  dsimp only
  rw [foldl_rtc, foldl_rtc] <;> intro s x <;> split <;> simp

@[simp] theorem State.canSwitched_sec (s : State) (b : Nat) (old : Mem) : (s.canSwitched b old).sec = s.sec := by
  unfold State.canSwitched
  dsimp only
  rw [foldl_sec, foldl_sec] <;> intro s x <;> split <;> simp

@[simp] theorem State.canSwitched_pending (s : State) (b : Nat) (old : Mem) : (s.canSwitched b old).pending = s.pending := by
  unfold State.canSwitched
  dsimp only
  rw [foldl_pending, foldl_pending] <;> intro s x <;> split <;> simp


@[simp] theorem State.onSwitch_frame (s : State) (tid : Nat) (old : Mem) :
    (State.onSwitch s tid old).pwr = s.pwr ∧
    (State.onSwitch s tid old).lmp = s.lmp ∧
    (State.onSwitch s tid old).host = s.host ∧
    (State.onSwitch s tid old).grp = s.grp ∧
    (State.onSwitch s tid old).gys = s.gys ∧
    (State.onSwitch s tid old).saf = s.saf ∧
    (State.onSwitch s tid old).fio = s.fio ∧
    (State.onSwitch s tid old).rng = s.rng ∧
    (State.onSwitch s tid old).dsp = s.dsp ∧
    (State.onSwitch s tid old).shf = s.shf ∧
    (State.onSwitch s tid old).rtc = s.rtc ∧
    (State.onSwitch s tid old).pending = s.pending := by
  obtain ⟨Q, hQ⟩ : ∃ Q : State → Prop, ∀ t, Q t ↔ (t.pwr = s.pwr ∧ t.lmp = s.lmp ∧ t.host = s.host ∧ t.grp = s.grp ∧ t.gys = s.gys ∧ t.saf = s.saf ∧ t.fio = s.fio ∧ t.rng = s.rng ∧ t.dsp = s.dsp ∧ t.shf = s.shf ∧ t.rtc = s.rtc ∧ t.pending = s.pending) :=
    ⟨_, fun _ => Iff.rfl⟩
  rw [← hQ]
  unfold State.onSwitch
  (repeat' with_reducible apply ite_keeps) <;> rw [hQ] <;> simp


@[simp] theorem State.switchTable_frame (s : State) (tid : Nat) :
    (State.switchTable s tid).pwr = s.pwr ∧
    (State.switchTable s tid).lmp = s.lmp ∧
    (State.switchTable s tid).host = s.host ∧
    (State.switchTable s tid).grp = s.grp ∧
    (State.switchTable s tid).gys = s.gys ∧
    (State.switchTable s tid).saf = s.saf ∧
    (State.switchTable s tid).fio = s.fio ∧
    (State.switchTable s tid).rng = s.rng ∧
    (State.switchTable s tid).dsp = s.dsp ∧
    (State.switchTable s tid).shf = s.shf ∧
    (State.switchTable s tid).rtc = s.rtc ∧
    (State.switchTable s tid).pending = s.pending := by
  generalize h : State.switchTable s tid = t
  unfold State.switchTable at h
  try dsimp only at h
  (repeat' split at h) <;> subst h <;> simp

end Sys2Proof.Machine
end

