-- ==== Sys2Proof/Laws/FrVars.lean ====
section
/-!
SUPPORT. For each operation of Machine/Vars.lean on the device, the blocks it leaves as they were.
-/
namespace Sys2Proof.Machine
set_option linter.unusedTactic false
set_option linter.unnecessarySeqFocus false
set_option linter.unreachableTactic false
set_option linter.unusedSimpArgs false
set_option linter.unusedVariables false

@[simp] theorem State.bumpVar_frame (s : State) (ident : Nat) :
    (State.bumpVar s ident).pwr = s.pwr ∧
    (State.bumpVar s ident).lmp = s.lmp ∧
    (State.bumpVar s ident).host = s.host ∧
    (State.bumpVar s ident).dir = s.dir ∧
    (State.bumpVar s ident).grp = s.grp ∧
    (State.bumpVar s ident).hst = s.hst ∧
    (State.bumpVar s ident).cle = s.cle ∧
    (State.bumpVar s ident).dr0 = s.dr0 ∧
    (State.bumpVar s ident).dr1 = s.dr1 ∧
    (State.bumpVar s ident).saf = s.saf ∧
    (State.bumpVar s ident).fio = s.fio ∧
    (State.bumpVar s ident).can0 = s.can0 ∧
    (State.bumpVar s ident).can1 = s.can1 ∧
    (State.bumpVar s ident).rng = s.rng ∧
    (State.bumpVar s ident).dsp = s.dsp ∧
    (State.bumpVar s ident).shf = s.shf ∧
    (State.bumpVar s ident).tph = s.tph ∧
    (State.bumpVar s ident).rtc = s.rtc ∧
    (State.bumpVar s ident).sec = s.sec ∧
    (State.bumpVar s ident).pending = s.pending := by
  generalize h : State.bumpVar s ident = t
  unfold State.bumpVar at h
  try dsimp only at h
  (repeat' split at h) <;> subst h <;> simp

/-- A write to the data space changes that space and the dirty lines. -/
theorem State.gysWrite_ok {s t : State} {a : Nat} {bs : List Byte} (h : s.gysWrite a bs = .ok t) :
    ∃ m d, t = { s with gys.mem := m, gys.dirty := d } := by
  unfold State.gysWrite at h
  dsimp only at h
  split at h
  · cases h
  · cases h; exact ⟨_, _, rfl⟩

theorem State.gvarWrite_ok {s t : State} {v : GVar} {e x : Nat} (h : s.gvarWrite v e x = .ok t) :
    ∃ m d, t = { s with gys.mem := m, gys.dirty := d } := State.gysWrite_ok h


@[simp] theorem State.applyVarWrite_frame1 (s : State) (tag : Nat) :
    (s.applyVarWrite tag).pwr = s.pwr ∧
    (s.applyVarWrite tag).lmp = s.lmp ∧
    (s.applyVarWrite tag).grp = s.grp ∧
    (s.applyVarWrite tag).cle = s.cle ∧
    (s.applyVarWrite tag).dr0 = s.dr0 ∧
    (s.applyVarWrite tag).dr1 = s.dr1 ∧
    (s.applyVarWrite tag).saf = s.saf := by
  unfold State.applyVarWrite
  dsimp only
  split
  · simp
  · split
    · simp
    · split
      · simp
      · split
        · simp
        · next h =>
          obtain ⟨m, d, rfl⟩ := State.gvarWrite_ok h
          simp

@[simp] theorem State.applyVarWrite_frame2 (s : State) (tag : Nat) :
    (s.applyVarWrite tag).can0 = s.can0 ∧
    (s.applyVarWrite tag).can1 = s.can1 ∧
    (s.applyVarWrite tag).rng = s.rng ∧
    (s.applyVarWrite tag).dsp = s.dsp ∧
    (s.applyVarWrite tag).shf = s.shf ∧
    (s.applyVarWrite tag).rtc = s.rtc ∧
    (s.applyVarWrite tag).pending = s.pending := by
  unfold State.applyVarWrite
  dsimp only
  split
  · simp
  · split
    · simp
    · split
      · simp
      · split
        · simp
        · next h =>
          obtain ⟨m, d, rfl⟩ := State.gvarWrite_ok h
          simp


@[simp] theorem State.applyWritesBefore_frame (s : State) (t : Nat) :
    (State.applyWritesBefore s t).pwr = s.pwr ∧
    (State.applyWritesBefore s t).lmp = s.lmp ∧
    (State.applyWritesBefore s t).grp = s.grp ∧
    (State.applyWritesBefore s t).cle = s.cle ∧
    (State.applyWritesBefore s t).dr0 = s.dr0 ∧
    (State.applyWritesBefore s t).dr1 = s.dr1 ∧
    (State.applyWritesBefore s t).saf = s.saf ∧
    (State.applyWritesBefore s t).can0 = s.can0 ∧
    (State.applyWritesBefore s t).can1 = s.can1 ∧
    (State.applyWritesBefore s t).rng = s.rng ∧
    (State.applyWritesBefore s t).dsp = s.dsp ∧
    (State.applyWritesBefore s t).shf = s.shf ∧
    (State.applyWritesBefore s t).rtc = s.rtc ∧
    (State.applyWritesBefore s t).pending = s.pending := by
  generalize h : State.applyWritesBefore s t = t
  unfold State.applyWritesBefore at h
  try dsimp only at h
  (repeat' split at h) <;> subst h <;> simp

@[simp] theorem State.handForce_frame (s : State) (tag : Nat) :
    (State.handForce s tag).pwr = s.pwr ∧
    (State.handForce s tag).lmp = s.lmp ∧
    (State.handForce s tag).dir = s.dir ∧
    (State.handForce s tag).grp = s.grp ∧
    (State.handForce s tag).hst = s.hst ∧
    (State.handForce s tag).cle = s.cle ∧
    (State.handForce s tag).dr0 = s.dr0 ∧
    (State.handForce s tag).dr1 = s.dr1 ∧
    (State.handForce s tag).saf = s.saf ∧
    (State.handForce s tag).fio = s.fio ∧
    (State.handForce s tag).can0 = s.can0 ∧
    (State.handForce s tag).can1 = s.can1 ∧
    (State.handForce s tag).rng = s.rng ∧
    (State.handForce s tag).dsp = s.dsp ∧
    (State.handForce s tag).shf = s.shf ∧
    (State.handForce s tag).tph = s.tph ∧
    (State.handForce s tag).rtc = s.rtc ∧
    (State.handForce s tag).sec = s.sec ∧
    (State.handForce s tag).pending = s.pending := by
  generalize h : State.handForce s tag = t
  unfold State.handForce at h
  try dsimp only at h
  (repeat' split at h) <;> subst h <;> simp

@[simp] theorem State.applyForceSet_frame (s : State) (f : Flight) :
    (State.applyForceSet s f).pwr = s.pwr ∧
    (State.applyForceSet s f).lmp = s.lmp ∧
    (State.applyForceSet s f).grp = s.grp ∧
    (State.applyForceSet s f).hst = s.hst ∧
    (State.applyForceSet s f).cle = s.cle ∧
    (State.applyForceSet s f).dr0 = s.dr0 ∧
    (State.applyForceSet s f).dr1 = s.dr1 ∧
    (State.applyForceSet s f).saf = s.saf ∧
    (State.applyForceSet s f).fio = s.fio ∧
    (State.applyForceSet s f).can0 = s.can0 ∧
    (State.applyForceSet s f).can1 = s.can1 ∧
    (State.applyForceSet s f).rng = s.rng ∧
    (State.applyForceSet s f).dsp = s.dsp ∧
    (State.applyForceSet s f).shf = s.shf ∧
    (State.applyForceSet s f).rtc = s.rtc ∧
    (State.applyForceSet s f).pending = s.pending := by
  generalize h : State.applyForceSet s f = t
  unfold State.applyForceSet at h
  try dsimp only at h
  (repeat' split at h) <;> subst h <;> simp

@[simp] theorem State.applyForceClear_frame (s : State) (f : Flight) :
    (State.applyForceClear s f).pwr = s.pwr ∧
    (State.applyForceClear s f).lmp = s.lmp ∧
    (State.applyForceClear s f).grp = s.grp ∧
    (State.applyForceClear s f).hst = s.hst ∧
    (State.applyForceClear s f).cle = s.cle ∧
    (State.applyForceClear s f).dr0 = s.dr0 ∧
    (State.applyForceClear s f).dr1 = s.dr1 ∧
    (State.applyForceClear s f).saf = s.saf ∧
    (State.applyForceClear s f).fio = s.fio ∧
    (State.applyForceClear s f).can0 = s.can0 ∧
    (State.applyForceClear s f).can1 = s.can1 ∧
    (State.applyForceClear s f).rng = s.rng ∧
    (State.applyForceClear s f).dsp = s.dsp ∧
    (State.applyForceClear s f).shf = s.shf ∧
    (State.applyForceClear s f).rtc = s.rtc ∧
    (State.applyForceClear s f).pending = s.pending := by
  generalize h : State.applyForceClear s f = t
  unfold State.applyForceClear at h
  try dsimp only at h
  (repeat' split at h) <;> subst h <;> simp

@[simp] theorem State.applyForces_pwr (s : State) : (State.applyForces s).pwr = s.pwr := by
  unfold State.applyForces; (repeat' split) <;> first | (simp; done) | ((try dsimp only); rw [foldl_pwr] <;> (try intro s x) <;> (repeat' split) <;> simp; done)

@[simp] theorem State.applyForces_lmp (s : State) : (State.applyForces s).lmp = s.lmp := by
  unfold State.applyForces; (repeat' split) <;> first | (simp; done) | ((try dsimp only); rw [foldl_lmp] <;> (try intro s x) <;> (repeat' split) <;> simp; done)

@[simp] theorem State.applyForces_grp (s : State) : (State.applyForces s).grp = s.grp := by
  unfold State.applyForces; (repeat' split) <;> first | (simp; done) | ((try dsimp only); rw [foldl_grp] <;> (try intro s x) <;> (repeat' split) <;> simp; done)

@[simp] theorem State.applyForces_hst (s : State) : (State.applyForces s).hst = s.hst := by
  unfold State.applyForces; (repeat' split) <;> first | (simp; done) | ((try dsimp only); rw [foldl_hst] <;> (try intro s x) <;> (repeat' split) <;> simp; done)

@[simp] theorem State.applyForces_cle (s : State) : (State.applyForces s).cle = s.cle := by
  unfold State.applyForces; (repeat' split) <;> first | (simp; done) | ((try dsimp only); rw [foldl_cle] <;> (try intro s x) <;> (repeat' split) <;> simp; done)

@[simp] theorem State.applyForces_dr0 (s : State) : (State.applyForces s).dr0 = s.dr0 := by
  unfold State.applyForces; (repeat' split) <;> first | (simp; done) | ((try dsimp only); rw [foldl_dr0] <;> (try intro s x) <;> (repeat' split) <;> simp; done)

@[simp] theorem State.applyForces_dr1 (s : State) : (State.applyForces s).dr1 = s.dr1 := by
  unfold State.applyForces; (repeat' split) <;> first | (simp; done) | ((try dsimp only); rw [foldl_dr1] <;> (try intro s x) <;> (repeat' split) <;> simp; done)

@[simp] theorem State.applyForces_saf (s : State) : (State.applyForces s).saf = s.saf := by
  unfold State.applyForces; (repeat' split) <;> first | (simp; done) | ((try dsimp only); rw [foldl_saf] <;> (try intro s x) <;> (repeat' split) <;> simp; done)

@[simp] theorem State.applyForces_fio (s : State) : (State.applyForces s).fio = s.fio := by
  unfold State.applyForces; (repeat' split) <;> first | (simp; done) | ((try dsimp only); rw [foldl_fio] <;> (try intro s x) <;> (repeat' split) <;> simp; done)

@[simp] theorem State.applyForces_can0 (s : State) : (State.applyForces s).can0 = s.can0 := by
  unfold State.applyForces; (repeat' split) <;> first | (simp; done) | ((try dsimp only); rw [foldl_can0] <;> (try intro s x) <;> (repeat' split) <;> simp; done)

@[simp] theorem State.applyForces_can1 (s : State) : (State.applyForces s).can1 = s.can1 := by
  unfold State.applyForces; (repeat' split) <;> first | (simp; done) | ((try dsimp only); rw [foldl_can1] <;> (try intro s x) <;> (repeat' split) <;> simp; done)

@[simp] theorem State.applyForces_rng (s : State) : (State.applyForces s).rng = s.rng := by
  unfold State.applyForces; (repeat' split) <;> first | (simp; done) | ((try dsimp only); rw [foldl_rng] <;> (try intro s x) <;> (repeat' split) <;> simp; done)

@[simp] theorem State.applyForces_dsp (s : State) : (State.applyForces s).dsp = s.dsp := by
  unfold State.applyForces; (repeat' split) <;> first | (simp; done) | ((try dsimp only); rw [foldl_dsp] <;> (try intro s x) <;> (repeat' split) <;> simp; done)

@[simp] theorem State.applyForces_shf (s : State) : (State.applyForces s).shf = s.shf := by
  unfold State.applyForces; (repeat' split) <;> first | (simp; done) | ((try dsimp only); rw [foldl_shf] <;> (try intro s x) <;> (repeat' split) <;> simp; done)

@[simp] theorem State.applyForces_rtc (s : State) : (State.applyForces s).rtc = s.rtc := by
  unfold State.applyForces; (repeat' split) <;> first | (simp; done) | ((try dsimp only); rw [foldl_rtc] <;> (try intro s x) <;> (repeat' split) <;> simp; done)

@[simp] theorem State.applyForces_pending (s : State) : (State.applyForces s).pending = s.pending := by
  unfold State.applyForces; (repeat' split) <;> first | (simp; done) | ((try dsimp only); rw [foldl_pending] <;> (try intro s x) <;> (repeat' split) <;> simp; done)

end Sys2Proof.Machine
end

