-- ==== Sys2Proof/Laws/FrGroups.lean ====
section
/-!
SUPPORT. For each operation of Machine/Groups.lean on the device, the blocks it leaves as they were.
-/
namespace Sys2Proof.Machine
set_option linter.unusedTactic false
set_option linter.unnecessarySeqFocus false
set_option linter.unreachableTactic false
set_option linter.unusedSimpArgs false
set_option linter.unusedVariables false

@[simp] theorem State.stage_frame (s : State) (f : Flight) :
    (State.stage s f).pwr = s.pwr ∧
    (State.stage s f).lmp = s.lmp ∧
    (State.stage s f).dir = s.dir ∧
    (State.stage s f).gys = s.gys ∧
    (State.stage s f).hst = s.hst ∧
    (State.stage s f).cle = s.cle ∧
    (State.stage s f).dr0 = s.dr0 ∧
    (State.stage s f).dr1 = s.dr1 ∧
    (State.stage s f).saf = s.saf ∧
    (State.stage s f).fio = s.fio ∧
    (State.stage s f).can0 = s.can0 ∧
    (State.stage s f).can1 = s.can1 ∧
    (State.stage s f).rng = s.rng ∧
    (State.stage s f).dsp = s.dsp ∧
    (State.stage s f).shf = s.shf ∧
    (State.stage s f).tph = s.tph ∧
    (State.stage s f).rtc = s.rtc ∧
    (State.stage s f).sec = s.sec ∧
    (State.stage s f).pending = s.pending := by
  generalize h : State.stage s f = t
  unfold State.stage at h
  try dsimp only at h
  (repeat' split at h) <;> subst h <;> simp

@[simp] theorem State.countGroup_frame (s : State) (st : Status) :
    (State.countGroup s st).pwr = s.pwr ∧
    (State.countGroup s st).lmp = s.lmp ∧
    (State.countGroup s st).host = s.host ∧
    (State.countGroup s st).grp = s.grp ∧
    (State.countGroup s st).gys = s.gys ∧
    (State.countGroup s st).hst = s.hst ∧
    (State.countGroup s st).cle = s.cle ∧
    (State.countGroup s st).dr0 = s.dr0 ∧
    (State.countGroup s st).dr1 = s.dr1 ∧
    (State.countGroup s st).saf = s.saf ∧
    (State.countGroup s st).fio = s.fio ∧
    (State.countGroup s st).can0 = s.can0 ∧
    (State.countGroup s st).can1 = s.can1 ∧
    (State.countGroup s st).rng = s.rng ∧
    (State.countGroup s st).dsp = s.dsp ∧
    (State.countGroup s st).shf = s.shf ∧
    (State.countGroup s st).tph = s.tph ∧
    (State.countGroup s st).rtc = s.rtc ∧
    (State.countGroup s st).pending = s.pending := by
  generalize h : State.countGroup s st = t
  unfold State.countGroup at h
  try dsimp only at h
  (repeat' split at h) <;> subst h <;> simp

@[simp] theorem State.sendAborts_frame (s : State) (g : Nat) :
    (State.sendAborts s g).pwr = s.pwr ∧
    (State.sendAborts s g).lmp = s.lmp ∧
    (State.sendAborts s g).host = s.host ∧
    (State.sendAborts s g).dir = s.dir ∧
    (State.sendAborts s g).gys = s.gys ∧
    (State.sendAborts s g).hst = s.hst ∧
    (State.sendAborts s g).cle = s.cle ∧
    (State.sendAborts s g).dr0 = s.dr0 ∧
    (State.sendAborts s g).dr1 = s.dr1 ∧
    (State.sendAborts s g).saf = s.saf ∧
    (State.sendAborts s g).fio = s.fio ∧
    (State.sendAborts s g).can0 = s.can0 ∧
    (State.sendAborts s g).can1 = s.can1 ∧
    (State.sendAborts s g).rng = s.rng ∧
    (State.sendAborts s g).dsp = s.dsp ∧
    (State.sendAborts s g).shf = s.shf ∧
    (State.sendAborts s g).tph = s.tph ∧
    (State.sendAborts s g).rtc = s.rtc ∧
    (State.sendAborts s g).sec = s.sec ∧
    (State.sendAborts s g).pending = s.pending := by
  generalize h : State.sendAborts s g = t
  unfold State.sendAborts at h
  try dsimp only at h
  (repeat' split at h) <;> subst h <;> simp

@[simp] theorem State.endGroup_frame (s : State) (g : Nat) (st : Status) (detail idx dev : Nat) (committed aborts : Bool) :
    (State.endGroup s g st detail idx dev committed aborts).pwr = s.pwr ∧
    (State.endGroup s g st detail idx dev committed aborts).lmp = s.lmp ∧
    (State.endGroup s g st detail idx dev committed aborts).gys = s.gys ∧
    (State.endGroup s g st detail idx dev committed aborts).hst = s.hst ∧
    (State.endGroup s g st detail idx dev committed aborts).cle = s.cle ∧
    (State.endGroup s g st detail idx dev committed aborts).dr0 = s.dr0 ∧
    (State.endGroup s g st detail idx dev committed aborts).dr1 = s.dr1 ∧
    (State.endGroup s g st detail idx dev committed aborts).saf = s.saf ∧
    (State.endGroup s g st detail idx dev committed aborts).fio = s.fio ∧
    (State.endGroup s g st detail idx dev committed aborts).can0 = s.can0 ∧
    (State.endGroup s g st detail idx dev committed aborts).can1 = s.can1 ∧
    (State.endGroup s g st detail idx dev committed aborts).rtc = s.rtc ∧
    (State.endGroup s g st detail idx dev committed aborts).pending = s.pending := by
  generalize h : State.endGroup s g st detail idx dev committed aborts = t
  unfold State.endGroup at h
  try dsimp only at h
  (repeat' split at h) <;> subst h <;> simp

@[simp] theorem State.flushGroups_pwr (s : State) : s.flushGroups.pwr = s.pwr := by
  unfold State.flushGroups
  split
  · rfl
  · dsimp only
    rw [foldl_pwr]
    · dsimp only
      rw [foldl_pwr]
      intro s x
      split <;> simp
    · intro s m
      simp

@[simp] theorem State.flushGroups_lmp (s : State) : s.flushGroups.lmp = s.lmp := by
  unfold State.flushGroups
  split
  · rfl
  · dsimp only
    rw [foldl_lmp]
    · dsimp only
      rw [foldl_lmp]
      intro s x
      split <;> simp
    · intro s m
      simp

@[simp] theorem State.flushGroups_gys (s : State) : s.flushGroups.gys = s.gys := by
  unfold State.flushGroups
  split
  · rfl
  · dsimp only
    rw [foldl_gys]
    · dsimp only
      rw [foldl_gys]
      intro s x
      split <;> simp
    · intro s m
      simp

@[simp] theorem State.flushGroups_hst (s : State) : s.flushGroups.hst = s.hst := by
  unfold State.flushGroups
  split
  · rfl
  · dsimp only
    rw [foldl_hst]
    · dsimp only
      rw [foldl_hst]
      intro s x
      split <;> simp
    · intro s m
      simp

@[simp] theorem State.flushGroups_cle (s : State) : s.flushGroups.cle = s.cle := by
  unfold State.flushGroups
  split
  · rfl
  · dsimp only
    rw [foldl_cle]
    · dsimp only
      rw [foldl_cle]
      intro s x
      split <;> simp
    · intro s m
      simp

@[simp] theorem State.flushGroups_dr0 (s : State) : s.flushGroups.dr0 = s.dr0 := by
  unfold State.flushGroups
  split
  · rfl
  · dsimp only
    rw [foldl_dr0]
    · dsimp only
      rw [foldl_dr0]
      intro s x
      split <;> simp
    · intro s m
      simp

@[simp] theorem State.flushGroups_dr1 (s : State) : s.flushGroups.dr1 = s.dr1 := by
  unfold State.flushGroups
  split
  · rfl
  · dsimp only
    rw [foldl_dr1]
    · dsimp only
      rw [foldl_dr1]
      intro s x
      split <;> simp
    · intro s m
      simp

@[simp] theorem State.flushGroups_saf (s : State) : s.flushGroups.saf = s.saf := by
  unfold State.flushGroups
  split
  · rfl
  · dsimp only
    rw [foldl_saf]
    · dsimp only
      rw [foldl_saf]
      intro s x
      split <;> simp
    · intro s m
      simp

@[simp] theorem State.flushGroups_fio (s : State) : s.flushGroups.fio = s.fio := by
  unfold State.flushGroups
  split
  · rfl
  · dsimp only
    rw [foldl_fio]
    · dsimp only
      rw [foldl_fio]
      intro s x
      split <;> simp
    · intro s m
      simp

@[simp] theorem State.flushGroups_can0 (s : State) : s.flushGroups.can0 = s.can0 := by
  unfold State.flushGroups
  split
  · rfl
  · dsimp only
    rw [foldl_can0]
    · dsimp only
      rw [foldl_can0]
      intro s x
      split <;> simp
    · intro s m
      simp

@[simp] theorem State.flushGroups_can1 (s : State) : s.flushGroups.can1 = s.can1 := by
  unfold State.flushGroups
  split
  · rfl
  · dsimp only
    rw [foldl_can1]
    · dsimp only
      rw [foldl_can1]
      intro s x
      split <;> simp
    · intro s m
      simp

@[simp] theorem State.flushGroups_rtc (s : State) : s.flushGroups.rtc = s.rtc := by
  unfold State.flushGroups
  split
  · rfl
  · dsimp only
    rw [foldl_rtc]
    · dsimp only
      rw [foldl_rtc]
      intro s x
      split <;> simp
    · intro s m
      simp

@[simp] theorem State.flushGroups_pending (s : State) : s.flushGroups.pending = s.pending := by
  unfold State.flushGroups
  split
  · rfl
  · dsimp only
    rw [foldl_pending]
    · dsimp only
      rw [foldl_pending]
      intro s x
      split <;> simp
    · intro s m
      simp


@[simp] theorem State.dropMsg_frame (s : State) (m : GMsg) :
    (State.dropMsg s m).pwr = s.pwr ∧
    (State.dropMsg s m).lmp = s.lmp ∧
    (State.dropMsg s m).host = s.host ∧
    (State.dropMsg s m).dir = s.dir ∧
    (State.dropMsg s m).gys = s.gys ∧
    (State.dropMsg s m).hst = s.hst ∧
    (State.dropMsg s m).cle = s.cle ∧
    (State.dropMsg s m).dr0 = s.dr0 ∧
    (State.dropMsg s m).dr1 = s.dr1 ∧
    (State.dropMsg s m).saf = s.saf ∧
    (State.dropMsg s m).fio = s.fio ∧
    (State.dropMsg s m).can0 = s.can0 ∧
    (State.dropMsg s m).can1 = s.can1 ∧
    (State.dropMsg s m).rng = s.rng ∧
    (State.dropMsg s m).dsp = s.dsp ∧
    (State.dropMsg s m).shf = s.shf ∧
    (State.dropMsg s m).tph = s.tph ∧
    (State.dropMsg s m).rtc = s.rtc ∧
    (State.dropMsg s m).sec = s.sec ∧
    (State.dropMsg s m).pending = s.pending := by
  generalize h : State.dropMsg s m = t
  unfold State.dropMsg at h
  try dsimp only at h
  (repeat' split at h) <;> subst h <;> simp

@[simp] theorem State.trial_frame (s : State) (acts : List Act) :
    (State.trial s acts).pwr = s.pwr ∧
    (State.trial s acts).lmp = s.lmp ∧
    (State.trial s acts).host = s.host ∧
    (State.trial s acts).grp = s.grp ∧
    (State.trial s acts).gys = s.gys ∧
    (State.trial s acts).hst = s.hst ∧
    (State.trial s acts).cle = s.cle ∧
    (State.trial s acts).dr0 = s.dr0 ∧
    (State.trial s acts).dr1 = s.dr1 ∧
    (State.trial s acts).saf = s.saf ∧
    (State.trial s acts).fio = s.fio ∧
    (State.trial s acts).can0 = s.can0 ∧
    (State.trial s acts).can1 = s.can1 ∧
    (State.trial s acts).rng = s.rng ∧
    (State.trial s acts).dsp = s.dsp ∧
    (State.trial s acts).shf = s.shf ∧
    (State.trial s acts).tph = s.tph ∧
    (State.trial s acts).rtc = s.rtc ∧
    (State.trial s acts).sec = s.sec ∧
    (State.trial s acts).pending = s.pending := by
  generalize h : State.trial s acts = t
  unfold State.trial at h
  try dsimp only at h
  (repeat' split at h) <;> subst h <;> simp

/-- A write that an action makes changes the data space and the dirty lines. -/
theorem State.actWrite_ok {s t : State} {a : Act} {r : GRes State}
    (hr : r = if a.kind = 2 then (match s.gvar? (getU a.body 0 4) with
      | some v => s.gvarWrite v 0 (getU a.body 8 (gtypeSize v.ty))
      | none => .ok s)
    else
      let ch := getU a.body 0 1
      let at_ := 0x6000 + ch / 8
      s.gysWrite at_ [BitVec.ofNat 8 (setBit (s.gysByte at_).toNat (ch % 8) (getU a.body 1 1 == 1))]) (h : r = .ok t) :
    ∃ m d, t = { s with gys.mem := m, gys.dirty := d } := by
  rw [h] at hr
  split at hr
  · split at hr
    · exact State.gvarWrite_ok hr.symm
    · cases hr; exact ⟨_, _, rfl⟩
  · exact State.gysWrite_ok hr.symm


@[simp] theorem State.applyVarAct_frame1 (s : State) (a : Act) :
    (s.applyVarAct a).pwr = s.pwr ∧
    (s.applyVarAct a).lmp = s.lmp ∧
    (s.applyVarAct a).host = s.host ∧
    (s.applyVarAct a).grp = s.grp ∧
    (s.applyVarAct a).cle = s.cle ∧
    (s.applyVarAct a).dr0 = s.dr0 ∧
    (s.applyVarAct a).dr1 = s.dr1 ∧
    (s.applyVarAct a).saf = s.saf := by
  unfold State.applyVarAct
  dsimp only
  split
  · simp
  · next h =>
    obtain ⟨m, d, rfl⟩ := State.actWrite_ok rfl h
    split <;> simp

@[simp] theorem State.applyVarAct_frame2 (s : State) (a : Act) :
    (s.applyVarAct a).can0 = s.can0 ∧
    (s.applyVarAct a).can1 = s.can1 ∧
    (s.applyVarAct a).rng = s.rng ∧
    (s.applyVarAct a).dsp = s.dsp ∧
    (s.applyVarAct a).shf = s.shf ∧
    (s.applyVarAct a).rtc = s.rtc ∧
    (s.applyVarAct a).pending = s.pending := by
  unfold State.applyVarAct
  dsimp only
  split
  · simp
  · next h =>
    obtain ⟨m, d, rfl⟩ := State.actWrite_ok rfl h
    split <;> simp


@[simp] theorem State.applyAct_frame (s : State) (slot : Nat) (a : Act) :
    (s.applyAct slot a).pwr = s.pwr ∧
    (s.applyAct slot a).lmp = s.lmp ∧
    (s.applyAct slot a).pending = s.pending := by
  unfold State.applyAct
  split
  · simp
  · simp
  · dsimp only
    split <;> simp
  · simp
  · simp
  · simp
  · simp
  · refine ⟨?_, ?_, ?_⟩
    · rw [foldl_pwr]; simp
    · rw [foldl_lmp]; simp
    · rw [foldl_pending]; simp


@[simp] theorem State.applyActs_frame (s : State) (g : Nat) (p : Act → Bool) :
    (State.applyActs s g p).pwr = s.pwr ∧
    (State.applyActs s g p).lmp = s.lmp ∧
    (State.applyActs s g p).pending = s.pending := by
  generalize h : State.applyActs s g p = t
  unfold State.applyActs at h
  try dsimp only at h
  (repeat' split at h) <;> subst h <;> simp

@[simp] theorem State.commitGroup_frame (s : State) (g : Nat) :
    (State.commitGroup s g).pwr = s.pwr ∧
    (State.commitGroup s g).lmp = s.lmp ∧
    (State.commitGroup s g).host = s.host ∧
    (State.commitGroup s g).gys = s.gys ∧
    (State.commitGroup s g).hst = s.hst ∧
    (State.commitGroup s g).cle = s.cle ∧
    (State.commitGroup s g).dr0 = s.dr0 ∧
    (State.commitGroup s g).dr1 = s.dr1 ∧
    (State.commitGroup s g).saf = s.saf ∧
    (State.commitGroup s g).fio = s.fio ∧
    (State.commitGroup s g).can0 = s.can0 ∧
    (State.commitGroup s g).can1 = s.can1 ∧
    (State.commitGroup s g).rng = s.rng ∧
    (State.commitGroup s g).dsp = s.dsp ∧
    (State.commitGroup s g).shf = s.shf ∧
    (State.commitGroup s g).rtc = s.rtc ∧
    (State.commitGroup s g).pending = s.pending := by
  generalize h : State.commitGroup s g = t
  unfold State.commitGroup at h
  try dsimp only at h
  (repeat' split at h) <;> subst h <;> simp

@[simp] theorem State.groupRefused_frame (s : State) (g idx : Nat) :
    (State.groupRefused s g idx).pwr = s.pwr ∧
    (State.groupRefused s g idx).lmp = s.lmp ∧
    (State.groupRefused s g idx).host = s.host ∧
    (State.groupRefused s g idx).grp = s.grp ∧
    (State.groupRefused s g idx).gys = s.gys ∧
    (State.groupRefused s g idx).hst = s.hst ∧
    (State.groupRefused s g idx).cle = s.cle ∧
    (State.groupRefused s g idx).dr0 = s.dr0 ∧
    (State.groupRefused s g idx).dr1 = s.dr1 ∧
    (State.groupRefused s g idx).saf = s.saf ∧
    (State.groupRefused s g idx).fio = s.fio ∧
    (State.groupRefused s g idx).can0 = s.can0 ∧
    (State.groupRefused s g idx).can1 = s.can1 ∧
    (State.groupRefused s g idx).rng = s.rng ∧
    (State.groupRefused s g idx).dsp = s.dsp ∧
    (State.groupRefused s g idx).shf = s.shf ∧
    (State.groupRefused s g idx).rtc = s.rtc ∧
    (State.groupRefused s g idx).pending = s.pending := by
  generalize h : State.groupRefused s g idx = t
  unfold State.groupRefused at h
  try dsimp only at h
  (repeat' split at h) <;> subst h <;> simp

@[simp] theorem State.applyGroupFio_pwr (s : State) : (State.applyGroupFio s).pwr = s.pwr := by
  unfold State.applyGroupFio; (repeat' split) <;> first | (simp; done) | ((try dsimp only); rw [foldl_pwr] <;> (try intro s x) <;> (repeat' split) <;> simp; done)

@[simp] theorem State.applyGroupFio_lmp (s : State) : (State.applyGroupFio s).lmp = s.lmp := by
  unfold State.applyGroupFio; (repeat' split) <;> first | (simp; done) | ((try dsimp only); rw [foldl_lmp] <;> (try intro s x) <;> (repeat' split) <;> simp; done)

@[simp] theorem State.applyGroupFio_pending (s : State) : (State.applyGroupFio s).pending = s.pending := by
  unfold State.applyGroupFio; (repeat' split) <;> first | (simp; done) | ((try dsimp only); rw [foldl_pending] <;> (try intro s x) <;> (repeat' split) <;> simp; done)

@[simp] theorem State.groupDurable_pwr (s : State) (acts : List Act) : (State.groupDurable s acts).pwr = s.pwr := by
  unfold State.groupDurable; (repeat' split) <;> first | (simp; done) | ((try dsimp only); rw [foldl_pwr] <;> (try intro s x) <;> (repeat' split) <;> simp; done)

@[simp] theorem State.groupDurable_lmp (s : State) (acts : List Act) : (State.groupDurable s acts).lmp = s.lmp := by
  unfold State.groupDurable; (repeat' split) <;> first | (simp; done) | ((try dsimp only); rw [foldl_lmp] <;> (try intro s x) <;> (repeat' split) <;> simp; done)

@[simp] theorem State.groupDurable_host (s : State) (acts : List Act) : (State.groupDurable s acts).host = s.host := by
  unfold State.groupDurable; (repeat' split) <;> first | (simp; done) | ((try dsimp only); rw [foldl_host] <;> (try intro s x) <;> (repeat' split) <;> simp; done)

@[simp] theorem State.groupDurable_grp (s : State) (acts : List Act) : (State.groupDurable s acts).grp = s.grp := by
  unfold State.groupDurable; (repeat' split) <;> first | (simp; done) | ((try dsimp only); rw [foldl_grp] <;> (try intro s x) <;> (repeat' split) <;> simp; done)

@[simp] theorem State.groupDurable_gys (s : State) (acts : List Act) : (State.groupDurable s acts).gys = s.gys := by
  unfold State.groupDurable; (repeat' split) <;> first | (simp; done) | ((try dsimp only); rw [foldl_gys] <;> (try intro s x) <;> (repeat' split) <;> simp; done)

@[simp] theorem State.groupDurable_hst (s : State) (acts : List Act) : (State.groupDurable s acts).hst = s.hst := by
  unfold State.groupDurable; (repeat' split) <;> first | (simp; done) | ((try dsimp only); rw [foldl_hst] <;> (try intro s x) <;> (repeat' split) <;> simp; done)

@[simp] theorem State.groupDurable_cle (s : State) (acts : List Act) : (State.groupDurable s acts).cle = s.cle := by
  unfold State.groupDurable; (repeat' split) <;> first | (simp; done) | ((try dsimp only); rw [foldl_cle] <;> (try intro s x) <;> (repeat' split) <;> simp; done)

@[simp] theorem State.groupDurable_dr0 (s : State) (acts : List Act) : (State.groupDurable s acts).dr0 = s.dr0 := by
  unfold State.groupDurable; (repeat' split) <;> first | (simp; done) | ((try dsimp only); rw [foldl_dr0] <;> (try intro s x) <;> (repeat' split) <;> simp; done)

@[simp] theorem State.groupDurable_dr1 (s : State) (acts : List Act) : (State.groupDurable s acts).dr1 = s.dr1 := by
  unfold State.groupDurable; (repeat' split) <;> first | (simp; done) | ((try dsimp only); rw [foldl_dr1] <;> (try intro s x) <;> (repeat' split) <;> simp; done)

@[simp] theorem State.groupDurable_saf (s : State) (acts : List Act) : (State.groupDurable s acts).saf = s.saf := by
  unfold State.groupDurable; (repeat' split) <;> first | (simp; done) | ((try dsimp only); rw [foldl_saf] <;> (try intro s x) <;> (repeat' split) <;> simp; done)

@[simp] theorem State.groupDurable_fio (s : State) (acts : List Act) : (State.groupDurable s acts).fio = s.fio := by
  unfold State.groupDurable; (repeat' split) <;> first | (simp; done) | ((try dsimp only); rw [foldl_fio] <;> (try intro s x) <;> (repeat' split) <;> simp; done)

@[simp] theorem State.groupDurable_can0 (s : State) (acts : List Act) : (State.groupDurable s acts).can0 = s.can0 := by
  unfold State.groupDurable; (repeat' split) <;> first | (simp; done) | ((try dsimp only); rw [foldl_can0] <;> (try intro s x) <;> (repeat' split) <;> simp; done)

@[simp] theorem State.groupDurable_can1 (s : State) (acts : List Act) : (State.groupDurable s acts).can1 = s.can1 := by
  unfold State.groupDurable; (repeat' split) <;> first | (simp; done) | ((try dsimp only); rw [foldl_can1] <;> (try intro s x) <;> (repeat' split) <;> simp; done)

@[simp] theorem State.groupDurable_rng (s : State) (acts : List Act) : (State.groupDurable s acts).rng = s.rng := by
  unfold State.groupDurable; (repeat' split) <;> first | (simp; done) | ((try dsimp only); rw [foldl_rng] <;> (try intro s x) <;> (repeat' split) <;> simp; done)

@[simp] theorem State.groupDurable_dsp (s : State) (acts : List Act) : (State.groupDurable s acts).dsp = s.dsp := by
  unfold State.groupDurable; (repeat' split) <;> first | (simp; done) | ((try dsimp only); rw [foldl_dsp] <;> (try intro s x) <;> (repeat' split) <;> simp; done)

@[simp] theorem State.groupDurable_shf (s : State) (acts : List Act) : (State.groupDurable s acts).shf = s.shf := by
  unfold State.groupDurable; (repeat' split) <;> first | (simp; done) | ((try dsimp only); rw [foldl_shf] <;> (try intro s x) <;> (repeat' split) <;> simp; done)

@[simp] theorem State.groupDurable_tph (s : State) (acts : List Act) : (State.groupDurable s acts).tph = s.tph := by
  unfold State.groupDurable; (repeat' split) <;> first | (simp; done) | ((try dsimp only); rw [foldl_tph] <;> (try intro s x) <;> (repeat' split) <;> simp; done)

@[simp] theorem State.groupDurable_rtc (s : State) (acts : List Act) : (State.groupDurable s acts).rtc = s.rtc := by
  unfold State.groupDurable; (repeat' split) <;> first | (simp; done) | ((try dsimp only); rw [foldl_rtc] <;> (try intro s x) <;> (repeat' split) <;> simp; done)

@[simp] theorem State.groupDurable_pending (s : State) (acts : List Act) : (State.groupDurable s acts).pending = s.pending := by
  unfold State.groupDurable; (repeat' split) <;> first | (simp; done) | ((try dsimp only); rw [foldl_pending] <;> (try intro s x) <;> (repeat' split) <;> simp; done)

@[simp] theorem State.abortGroup_frame (s : State) (g : Nat) (st : Status) :
    (State.abortGroup s g st).pwr = s.pwr ∧
    (State.abortGroup s g st).lmp = s.lmp ∧
    (State.abortGroup s g st).gys = s.gys ∧
    (State.abortGroup s g st).hst = s.hst ∧
    (State.abortGroup s g st).cle = s.cle ∧
    (State.abortGroup s g st).dr0 = s.dr0 ∧
    (State.abortGroup s g st).dr1 = s.dr1 ∧
    (State.abortGroup s g st).saf = s.saf ∧
    (State.abortGroup s g st).fio = s.fio ∧
    (State.abortGroup s g st).can0 = s.can0 ∧
    (State.abortGroup s g st).can1 = s.can1 ∧
    (State.abortGroup s g st).rtc = s.rtc ∧
    (State.abortGroup s g st).pending = s.pending := by
  generalize h : State.abortGroup s g st = t
  unfold State.abortGroup at h
  try dsimp only at h
  (repeat' split at h) <;> subst h <;> simp

@[simp] theorem State.reply_frame (s : State) (m : GMsg) (type : Nat) (st : Status) (idx : Nat) :
    (State.reply s m type st idx).pwr = s.pwr ∧
    (State.reply s m type st idx).lmp = s.lmp ∧
    (State.reply s m type st idx).host = s.host ∧
    (State.reply s m type st idx).dir = s.dir ∧
    (State.reply s m type st idx).gys = s.gys ∧
    (State.reply s m type st idx).hst = s.hst ∧
    (State.reply s m type st idx).cle = s.cle ∧
    (State.reply s m type st idx).dr0 = s.dr0 ∧
    (State.reply s m type st idx).dr1 = s.dr1 ∧
    (State.reply s m type st idx).saf = s.saf ∧
    (State.reply s m type st idx).fio = s.fio ∧
    (State.reply s m type st idx).can0 = s.can0 ∧
    (State.reply s m type st idx).can1 = s.can1 ∧
    (State.reply s m type st idx).rng = s.rng ∧
    (State.reply s m type st idx).dsp = s.dsp ∧
    (State.reply s m type st idx).shf = s.shf ∧
    (State.reply s m type st idx).tph = s.tph ∧
    (State.reply s m type st idx).rtc = s.rtc ∧
    (State.reply s m type st idx).sec = s.sec ∧
    (State.reply s m type st idx).pending = s.pending := by
  generalize h : State.reply s m type st idx = t
  unfold State.reply at h
  try dsimp only at h
  (repeat' split at h) <;> subst h <;> simp

@[simp] theorem State.repair_pwr (s : State) (acts : List Act) : (State.repair s acts).pwr = s.pwr := by
  unfold State.repair; (repeat' split) <;> first | (simp; done) | ((try dsimp only); rw [foldl_pwr] <;> (try intro s x) <;> (repeat' split) <;> simp; done)

@[simp] theorem State.repair_lmp (s : State) (acts : List Act) : (State.repair s acts).lmp = s.lmp := by
  unfold State.repair; (repeat' split) <;> first | (simp; done) | ((try dsimp only); rw [foldl_lmp] <;> (try intro s x) <;> (repeat' split) <;> simp; done)

@[simp] theorem State.repair_host (s : State) (acts : List Act) : (State.repair s acts).host = s.host := by
  unfold State.repair; (repeat' split) <;> first | (simp; done) | ((try dsimp only); rw [foldl_host] <;> (try intro s x) <;> (repeat' split) <;> simp; done)

@[simp] theorem State.repair_grp (s : State) (acts : List Act) : (State.repair s acts).grp = s.grp := by
  unfold State.repair; (repeat' split) <;> first | (simp; done) | ((try dsimp only); rw [foldl_grp] <;> (try intro s x) <;> (repeat' split) <;> simp; done)

@[simp] theorem State.repair_gys (s : State) (acts : List Act) : (State.repair s acts).gys = s.gys := by
  unfold State.repair; (repeat' split) <;> first | (simp; done) | ((try dsimp only); rw [foldl_gys] <;> (try intro s x) <;> (repeat' split) <;> simp; done)

@[simp] theorem State.repair_cle (s : State) (acts : List Act) : (State.repair s acts).cle = s.cle := by
  unfold State.repair; (repeat' split) <;> first | (simp; done) | ((try dsimp only); rw [foldl_cle] <;> (try intro s x) <;> (repeat' split) <;> simp; done)

@[simp] theorem State.repair_dr0 (s : State) (acts : List Act) : (State.repair s acts).dr0 = s.dr0 := by
  unfold State.repair; (repeat' split) <;> first | (simp; done) | ((try dsimp only); rw [foldl_dr0] <;> (try intro s x) <;> (repeat' split) <;> simp; done)

@[simp] theorem State.repair_dr1 (s : State) (acts : List Act) : (State.repair s acts).dr1 = s.dr1 := by
  unfold State.repair; (repeat' split) <;> first | (simp; done) | ((try dsimp only); rw [foldl_dr1] <;> (try intro s x) <;> (repeat' split) <;> simp; done)

@[simp] theorem State.repair_saf (s : State) (acts : List Act) : (State.repair s acts).saf = s.saf := by
  unfold State.repair; (repeat' split) <;> first | (simp; done) | ((try dsimp only); rw [foldl_saf] <;> (try intro s x) <;> (repeat' split) <;> simp; done)

@[simp] theorem State.repair_fio (s : State) (acts : List Act) : (State.repair s acts).fio = s.fio := by
  unfold State.repair; (repeat' split) <;> first | (simp; done) | ((try dsimp only); rw [foldl_fio] <;> (try intro s x) <;> (repeat' split) <;> simp; done)

@[simp] theorem State.repair_can0 (s : State) (acts : List Act) : (State.repair s acts).can0 = s.can0 := by
  unfold State.repair; (repeat' split) <;> first | (simp; done) | ((try dsimp only); rw [foldl_can0] <;> (try intro s x) <;> (repeat' split) <;> simp; done)

@[simp] theorem State.repair_can1 (s : State) (acts : List Act) : (State.repair s acts).can1 = s.can1 := by
  unfold State.repair; (repeat' split) <;> first | (simp; done) | ((try dsimp only); rw [foldl_can1] <;> (try intro s x) <;> (repeat' split) <;> simp; done)

@[simp] theorem State.repair_rtc (s : State) (acts : List Act) : (State.repair s acts).rtc = s.rtc := by
  unfold State.repair; (repeat' split) <;> first | (simp; done) | ((try dsimp only); rw [foldl_rtc] <;> (try intro s x) <;> (repeat' split) <;> simp; done)

@[simp] theorem State.repair_pending (s : State) (acts : List Act) : (State.repair s acts).pending = s.pending := by
  unfold State.repair; (repeat' split) <;> first | (simp; done) | ((try dsimp only); rw [foldl_pending] <;> (try intro s x) <;> (repeat' split) <;> simp; done)

@[simp] theorem State.sendCommits_frame (s : State) (g : Nat) (parts : List Nat) :
    (State.sendCommits s g parts).pwr = s.pwr ∧
    (State.sendCommits s g parts).lmp = s.lmp ∧
    (State.sendCommits s g parts).host = s.host ∧
    (State.sendCommits s g parts).dir = s.dir ∧
    (State.sendCommits s g parts).gys = s.gys ∧
    (State.sendCommits s g parts).hst = s.hst ∧
    (State.sendCommits s g parts).cle = s.cle ∧
    (State.sendCommits s g parts).dr0 = s.dr0 ∧
    (State.sendCommits s g parts).dr1 = s.dr1 ∧
    (State.sendCommits s g parts).saf = s.saf ∧
    (State.sendCommits s g parts).fio = s.fio ∧
    (State.sendCommits s g parts).can0 = s.can0 ∧
    (State.sendCommits s g parts).can1 = s.can1 ∧
    (State.sendCommits s g parts).rng = s.rng ∧
    (State.sendCommits s g parts).dsp = s.dsp ∧
    (State.sendCommits s g parts).shf = s.shf ∧
    (State.sendCommits s g parts).tph = s.tph ∧
    (State.sendCommits s g parts).rtc = s.rtc ∧
    (State.sendCommits s g parts).sec = s.sec ∧
    (State.sendCommits s g parts).pending = s.pending := by
  generalize h : State.sendCommits s g parts = t
  unfold State.sendCommits at h
  try dsimp only at h
  (repeat' split at h) <;> subst h <;> simp

@[simp] theorem State.decideGroup_frame (s : State) (g : Nat) :
    (s.decideGroup g).pwr = s.pwr ∧
    (s.decideGroup g).lmp = s.lmp ∧
    (s.decideGroup g).gys = s.gys ∧
    (s.decideGroup g).hst = s.hst ∧
    (s.decideGroup g).cle = s.cle ∧
    (s.decideGroup g).dr0 = s.dr0 ∧
    (s.decideGroup g).dr1 = s.dr1 ∧
    (s.decideGroup g).saf = s.saf ∧
    (s.decideGroup g).fio = s.fio ∧
    (s.decideGroup g).can0 = s.can0 ∧
    (s.decideGroup g).can1 = s.can1 ∧
    (s.decideGroup g).rtc = s.rtc ∧
    (s.decideGroup g).pending = s.pending := by
  unfold State.decideGroup
  dsimp only
  split
  · simp
  · split
    · simp
    · split <;> simp


end Sys2Proof.Machine
end

