-- ==== Sys2Proof/Laws/FrGeyserCycle.lean ====
section
/-!
SUPPORT. For each operation of Machine/GeyserCycle.lean on the device, the blocks it leaves as they were.
-/
namespace Sys2Proof.Machine
set_option linter.unusedTactic false
set_option linter.unnecessarySeqFocus false
set_option linter.unreachableTactic false
set_option linter.unusedSimpArgs false
set_option linter.unusedVariables false

@[simp] theorem State.stationCopied_frame (s : State) (b n : Nat) :
    (State.stationCopied s b n).pwr = s.pwr ∧
    (State.stationCopied s b n).lmp = s.lmp ∧
    (State.stationCopied s b n).host = s.host ∧
    (State.stationCopied s b n).grp = s.grp ∧
    (State.stationCopied s b n).gys = s.gys ∧
    (State.stationCopied s b n).hst = s.hst ∧
    (State.stationCopied s b n).cle = s.cle ∧
    (State.stationCopied s b n).dr0 = s.dr0 ∧
    (State.stationCopied s b n).dr1 = s.dr1 ∧
    (State.stationCopied s b n).saf = s.saf ∧
    (State.stationCopied s b n).fio = s.fio ∧
    (State.stationCopied s b n).rng = s.rng ∧
    (State.stationCopied s b n).dsp = s.dsp ∧
    (State.stationCopied s b n).shf = s.shf ∧
    (State.stationCopied s b n).rtc = s.rtc ∧
    (State.stationCopied s b n).pending = s.pending := by
  generalize h : State.stationCopied s b n = t
  unfold State.stationCopied at h
  try dsimp only at h
  (repeat' split at h) <;> subst h <;> simp

@[simp] theorem State.loadInitial_frame (s : State) :
    (State.loadInitial s).pwr = s.pwr ∧
    (State.loadInitial s).lmp = s.lmp ∧
    (State.loadInitial s).host = s.host ∧
    (State.loadInitial s).dir = s.dir ∧
    (State.loadInitial s).grp = s.grp ∧
    (State.loadInitial s).hst = s.hst ∧
    (State.loadInitial s).cle = s.cle ∧
    (State.loadInitial s).dr0 = s.dr0 ∧
    (State.loadInitial s).dr1 = s.dr1 ∧
    (State.loadInitial s).saf = s.saf ∧
    (State.loadInitial s).fio = s.fio ∧
    (State.loadInitial s).can0 = s.can0 ∧
    (State.loadInitial s).can1 = s.can1 ∧
    (State.loadInitial s).rng = s.rng ∧
    (State.loadInitial s).dsp = s.dsp ∧
    (State.loadInitial s).shf = s.shf ∧
    (State.loadInitial s).tph = s.tph ∧
    (State.loadInitial s).rtc = s.rtc ∧
    (State.loadInitial s).sec = s.sec ∧
    (State.loadInitial s).pending = s.pending := by
  generalize h : State.loadInitial s = t
  unfold State.loadInitial at h
  try dsimp only at h
  (repeat' split at h) <;> subst h <;> simp

@[simp] theorem State.takeRestart_frame (s : State) :
    (State.takeRestart s).pwr = s.pwr ∧
    (State.takeRestart s).lmp = s.lmp ∧
    (State.takeRestart s).host = s.host ∧
    (State.takeRestart s).grp = s.grp ∧
    (State.takeRestart s).hst = s.hst ∧
    (State.takeRestart s).cle = s.cle ∧
    (State.takeRestart s).dr0 = s.dr0 ∧
    (State.takeRestart s).dr1 = s.dr1 ∧
    (State.takeRestart s).saf = s.saf ∧
    (State.takeRestart s).fio = s.fio ∧
    (State.takeRestart s).can0 = s.can0 ∧
    (State.takeRestart s).can1 = s.can1 ∧
    (State.takeRestart s).rng = s.rng ∧
    (State.takeRestart s).dsp = s.dsp ∧
    (State.takeRestart s).shf = s.shf ∧
    (State.takeRestart s).rtc = s.rtc ∧
    (State.takeRestart s).pending = s.pending := by
  generalize h : State.takeRestart s = t
  unfold State.takeRestart at h
  try dsimp only at h
  (repeat' split at h) <;> subst h <;> simp

@[simp] theorem State.applyAgain_frame (s : State) :
    (State.applyAgain s).pwr = s.pwr ∧
    (State.applyAgain s).lmp = s.lmp ∧
    (State.applyAgain s).host = s.host ∧
    (State.applyAgain s).grp = s.grp ∧
    (State.applyAgain s).cle = s.cle ∧
    (State.applyAgain s).dr0 = s.dr0 ∧
    (State.applyAgain s).dr1 = s.dr1 ∧
    (State.applyAgain s).saf = s.saf ∧
    (State.applyAgain s).can0 = s.can0 ∧
    (State.applyAgain s).can1 = s.can1 ∧
    (State.applyAgain s).rng = s.rng ∧
    (State.applyAgain s).dsp = s.dsp ∧
    (State.applyAgain s).shf = s.shf ∧
    (State.applyAgain s).rtc = s.rtc ∧
    (State.applyAgain s).pending = s.pending := by
  generalize h : State.applyAgain s = t
  unfold State.applyAgain at h
  try dsimp only at h
  (repeat' split at h) <;> subst h <;> simp

@[simp] theorem State.commitPoint_frame (s : State) :
    (State.commitPoint s).pwr = s.pwr ∧
    (State.commitPoint s).lmp = s.lmp ∧
    (State.commitPoint s).grp = s.grp ∧
    (State.commitPoint s).cle = s.cle ∧
    (State.commitPoint s).dr0 = s.dr0 ∧
    (State.commitPoint s).dr1 = s.dr1 ∧
    (State.commitPoint s).saf = s.saf ∧
    (State.commitPoint s).can0 = s.can0 ∧
    (State.commitPoint s).can1 = s.can1 ∧
    (State.commitPoint s).rng = s.rng ∧
    (State.commitPoint s).dsp = s.dsp ∧
    (State.commitPoint s).shf = s.shf ∧
    (State.commitPoint s).rtc = s.rtc ∧
    (State.commitPoint s).pending = s.pending := by
  generalize h : State.commitPoint s = t
  unfold State.commitPoint at h
  try dsimp only at h
  (repeat' split at h) <;> subst h <;> simp

@[simp] theorem State.gysWrites_frame1 (s : State) (ws : List (Nat × List Byte)) :
    (s.gysWrites ws).pwr = s.pwr ∧
    (s.gysWrites ws).lmp = s.lmp ∧
    (s.gysWrites ws).host = s.host ∧
    (s.gysWrites ws).grp = s.grp ∧
    (s.gysWrites ws).cle = s.cle ∧
    (s.gysWrites ws).dr0 = s.dr0 ∧
    (s.gysWrites ws).dr1 = s.dr1 ∧
    (s.gysWrites ws).saf = s.saf := by
  induction ws generalizing s with
  | nil => simp [State.gysWrites]
  | cons w ws ih =>
    unfold State.gysWrites
    split
    · simp
    · next h =>
      obtain ⟨m, d, rfl⟩ := State.gysWrite_ok h
      simp [ih]

@[simp] theorem State.gysWrites_frame2 (s : State) (ws : List (Nat × List Byte)) :
    (s.gysWrites ws).can0 = s.can0 ∧
    (s.gysWrites ws).can1 = s.can1 ∧
    (s.gysWrites ws).rng = s.rng ∧
    (s.gysWrites ws).dsp = s.dsp ∧
    (s.gysWrites ws).shf = s.shf ∧
    (s.gysWrites ws).rtc = s.rtc ∧
    (s.gysWrites ws).pending = s.pending := by
  induction ws generalizing s with
  | nil => simp [State.gysWrites]
  | cons w ws ih =>
    unfold State.gysWrites
    split
    · simp
    · next h =>
      obtain ⟨m, d, rfl⟩ := State.gysWrite_ok h
      simp [ih]

theorem State.copied_pwr (s : State) (ws : List (Nat × List Byte)) (l : List (Nat × Nat)) :
    (l.foldl (fun s p => s.stationCopied p.1 p.2) (s.gysWrites ws)).pwr = s.pwr := by
  rw [foldl_pwr]
  · simp
  · intro s p
    simp

theorem State.copied_lmp (s : State) (ws : List (Nat × List Byte)) (l : List (Nat × Nat)) :
    (l.foldl (fun s p => s.stationCopied p.1 p.2) (s.gysWrites ws)).lmp = s.lmp := by
  rw [foldl_lmp]
  · simp
  · intro s p
    simp

theorem State.copied_host (s : State) (ws : List (Nat × List Byte)) (l : List (Nat × Nat)) :
    (l.foldl (fun s p => s.stationCopied p.1 p.2) (s.gysWrites ws)).host = s.host := by
  rw [foldl_host]
  · simp
  · intro s p
    simp

theorem State.copied_grp (s : State) (ws : List (Nat × List Byte)) (l : List (Nat × Nat)) :
    (l.foldl (fun s p => s.stationCopied p.1 p.2) (s.gysWrites ws)).grp = s.grp := by
  rw [foldl_grp]
  · simp
  · intro s p
    simp

theorem State.copied_cle (s : State) (ws : List (Nat × List Byte)) (l : List (Nat × Nat)) :
    (l.foldl (fun s p => s.stationCopied p.1 p.2) (s.gysWrites ws)).cle = s.cle := by
  rw [foldl_cle]
  · simp
  · intro s p
    simp

theorem State.copied_dr0 (s : State) (ws : List (Nat × List Byte)) (l : List (Nat × Nat)) :
    (l.foldl (fun s p => s.stationCopied p.1 p.2) (s.gysWrites ws)).dr0 = s.dr0 := by
  rw [foldl_dr0]
  · simp
  · intro s p
    simp

theorem State.copied_dr1 (s : State) (ws : List (Nat × List Byte)) (l : List (Nat × Nat)) :
    (l.foldl (fun s p => s.stationCopied p.1 p.2) (s.gysWrites ws)).dr1 = s.dr1 := by
  rw [foldl_dr1]
  · simp
  · intro s p
    simp

theorem State.copied_saf (s : State) (ws : List (Nat × List Byte)) (l : List (Nat × Nat)) :
    (l.foldl (fun s p => s.stationCopied p.1 p.2) (s.gysWrites ws)).saf = s.saf := by
  rw [foldl_saf]
  · simp
  · intro s p
    simp

theorem State.copied_rng (s : State) (ws : List (Nat × List Byte)) (l : List (Nat × Nat)) :
    (l.foldl (fun s p => s.stationCopied p.1 p.2) (s.gysWrites ws)).rng = s.rng := by
  rw [foldl_rng]
  · simp
  · intro s p
    simp

theorem State.copied_dsp (s : State) (ws : List (Nat × List Byte)) (l : List (Nat × Nat)) :
    (l.foldl (fun s p => s.stationCopied p.1 p.2) (s.gysWrites ws)).dsp = s.dsp := by
  rw [foldl_dsp]
  · simp
  · intro s p
    simp

theorem State.copied_shf (s : State) (ws : List (Nat × List Byte)) (l : List (Nat × Nat)) :
    (l.foldl (fun s p => s.stationCopied p.1 p.2) (s.gysWrites ws)).shf = s.shf := by
  rw [foldl_shf]
  · simp
  · intro s p
    simp

theorem State.copied_rtc (s : State) (ws : List (Nat × List Byte)) (l : List (Nat × Nat)) :
    (l.foldl (fun s p => s.stationCopied p.1 p.2) (s.gysWrites ws)).rtc = s.rtc := by
  rw [foldl_rtc]
  · simp
  · intro s p
    simp

theorem State.copied_pending (s : State) (ws : List (Nat × List Byte)) (l : List (Nat × Nat)) :
    (l.foldl (fun s p => s.stationCopied p.1 p.2) (s.gysWrites ws)).pending = s.pending := by
  rw [foldl_pending]
  · simp
  · intro s p
    simp


@[simp] theorem State.copyInputs_pwr (s : State) (dt last : Nat) : (s.copyInputs dt last).pwr = s.pwr := by
  unfold State.copyInputs
  with_reducible exact State.copied_pwr s _ _

@[simp] theorem State.copyInputs_lmp (s : State) (dt last : Nat) : (s.copyInputs dt last).lmp = s.lmp := by
  unfold State.copyInputs
  with_reducible exact State.copied_lmp s _ _

@[simp] theorem State.copyInputs_host (s : State) (dt last : Nat) : (s.copyInputs dt last).host = s.host := by
  unfold State.copyInputs
  with_reducible exact State.copied_host s _ _

@[simp] theorem State.copyInputs_grp (s : State) (dt last : Nat) : (s.copyInputs dt last).grp = s.grp := by
  unfold State.copyInputs
  with_reducible exact State.copied_grp s _ _

@[simp] theorem State.copyInputs_cle (s : State) (dt last : Nat) : (s.copyInputs dt last).cle = s.cle := by
  unfold State.copyInputs
  with_reducible exact State.copied_cle s _ _

@[simp] theorem State.copyInputs_dr0 (s : State) (dt last : Nat) : (s.copyInputs dt last).dr0 = s.dr0 := by
  unfold State.copyInputs
  with_reducible exact State.copied_dr0 s _ _

@[simp] theorem State.copyInputs_dr1 (s : State) (dt last : Nat) : (s.copyInputs dt last).dr1 = s.dr1 := by
  unfold State.copyInputs
  with_reducible exact State.copied_dr1 s _ _

@[simp] theorem State.copyInputs_saf (s : State) (dt last : Nat) : (s.copyInputs dt last).saf = s.saf := by
  unfold State.copyInputs
  with_reducible exact State.copied_saf s _ _

@[simp] theorem State.copyInputs_rng (s : State) (dt last : Nat) : (s.copyInputs dt last).rng = s.rng := by
  unfold State.copyInputs
  with_reducible exact State.copied_rng s _ _

@[simp] theorem State.copyInputs_dsp (s : State) (dt last : Nat) : (s.copyInputs dt last).dsp = s.dsp := by
  unfold State.copyInputs
  with_reducible exact State.copied_dsp s _ _

@[simp] theorem State.copyInputs_shf (s : State) (dt last : Nat) : (s.copyInputs dt last).shf = s.shf := by
  unfold State.copyInputs
  with_reducible exact State.copied_shf s _ _

@[simp] theorem State.copyInputs_rtc (s : State) (dt last : Nat) : (s.copyInputs dt last).rtc = s.rtc := by
  unfold State.copyInputs
  with_reducible exact State.copied_rtc s _ _

@[simp] theorem State.copyInputs_pending (s : State) (dt last : Nat) : (s.copyInputs dt last).pending = s.pending := by
  unfold State.copyInputs
  with_reducible exact State.copied_pending s _ _


@[simp] theorem State.beginExecute_frame (s : State) :
    (State.beginExecute s).pwr = s.pwr ∧
    (State.beginExecute s).lmp = s.lmp ∧
    (State.beginExecute s).host = s.host ∧
    (State.beginExecute s).dir = s.dir ∧
    (State.beginExecute s).grp = s.grp ∧
    (State.beginExecute s).hst = s.hst ∧
    (State.beginExecute s).cle = s.cle ∧
    (State.beginExecute s).dr0 = s.dr0 ∧
    (State.beginExecute s).dr1 = s.dr1 ∧
    (State.beginExecute s).saf = s.saf ∧
    (State.beginExecute s).fio = s.fio ∧
    (State.beginExecute s).can0 = s.can0 ∧
    (State.beginExecute s).can1 = s.can1 ∧
    (State.beginExecute s).rng = s.rng ∧
    (State.beginExecute s).dsp = s.dsp ∧
    (State.beginExecute s).shf = s.shf ∧
    (State.beginExecute s).tph = s.tph ∧
    (State.beginExecute s).rtc = s.rtc ∧
    (State.beginExecute s).sec = s.sec ∧
    (State.beginExecute s).pending = s.pending := by
  generalize h : State.beginExecute s = t
  unfold State.beginExecute at h
  try dsimp only at h
  (repeat' split at h) <;> subst h <;> simp

@[simp] theorem State.noteCycle_frame (s : State) (dt : Nat) :
    (State.noteCycle s dt).pwr = s.pwr ∧
    (State.noteCycle s dt).lmp = s.lmp ∧
    (State.noteCycle s dt).host = s.host ∧
    (State.noteCycle s dt).grp = s.grp ∧
    (State.noteCycle s dt).gys = s.gys ∧
    (State.noteCycle s dt).hst = s.hst ∧
    (State.noteCycle s dt).cle = s.cle ∧
    (State.noteCycle s dt).dr0 = s.dr0 ∧
    (State.noteCycle s dt).dr1 = s.dr1 ∧
    (State.noteCycle s dt).saf = s.saf ∧
    (State.noteCycle s dt).fio = s.fio ∧
    (State.noteCycle s dt).can0 = s.can0 ∧
    (State.noteCycle s dt).can1 = s.can1 ∧
    (State.noteCycle s dt).rng = s.rng ∧
    (State.noteCycle s dt).dsp = s.dsp ∧
    (State.noteCycle s dt).shf = s.shf ∧
    (State.noteCycle s dt).tph = s.tph ∧
    (State.noteCycle s dt).rtc = s.rtc ∧
    (State.noteCycle s dt).pending = s.pending := by
  generalize h : State.noteCycle s dt = t
  unfold State.noteCycle at h
  try dsimp only at h
  (repeat' split at h) <;> subst h <;> simp

@[simp] theorem State.handRequests_pwr (s : State) : (State.handRequests s).pwr = s.pwr := by
  unfold State.handRequests; (repeat' split) <;> first | (simp; done) | ((try dsimp only); rw [foldl_pwr] <;> (try intro s x) <;> (repeat' split) <;> simp; done)

@[simp] theorem State.handRequests_lmp (s : State) : (State.handRequests s).lmp = s.lmp := by
  unfold State.handRequests; (repeat' split) <;> first | (simp; done) | ((try dsimp only); rw [foldl_lmp] <;> (try intro s x) <;> (repeat' split) <;> simp; done)

@[simp] theorem State.handRequests_host (s : State) : (State.handRequests s).host = s.host := by
  unfold State.handRequests; (repeat' split) <;> first | (simp; done) | ((try dsimp only); rw [foldl_host] <;> (try intro s x) <;> (repeat' split) <;> simp; done)

@[simp] theorem State.handRequests_dir (s : State) : (State.handRequests s).dir = s.dir := by
  unfold State.handRequests; (repeat' split) <;> first | (simp; done) | ((try dsimp only); rw [foldl_dir] <;> (try intro s x) <;> (repeat' split) <;> simp; done)

@[simp] theorem State.handRequests_grp (s : State) : (State.handRequests s).grp = s.grp := by
  unfold State.handRequests; (repeat' split) <;> first | (simp; done) | ((try dsimp only); rw [foldl_grp] <;> (try intro s x) <;> (repeat' split) <;> simp; done)

@[simp] theorem State.handRequests_hst (s : State) : (State.handRequests s).hst = s.hst := by
  unfold State.handRequests; (repeat' split) <;> first | (simp; done) | ((try dsimp only); rw [foldl_hst] <;> (try intro s x) <;> (repeat' split) <;> simp; done)

@[simp] theorem State.handRequests_cle (s : State) : (State.handRequests s).cle = s.cle := by
  unfold State.handRequests; (repeat' split) <;> first | (simp; done) | ((try dsimp only); rw [foldl_cle] <;> (try intro s x) <;> (repeat' split) <;> simp; done)

@[simp] theorem State.handRequests_dr0 (s : State) : (State.handRequests s).dr0 = s.dr0 := by
  unfold State.handRequests; (repeat' split) <;> first | (simp; done) | ((try dsimp only); rw [foldl_dr0] <;> (try intro s x) <;> (repeat' split) <;> simp; done)

@[simp] theorem State.handRequests_dr1 (s : State) : (State.handRequests s).dr1 = s.dr1 := by
  unfold State.handRequests; (repeat' split) <;> first | (simp; done) | ((try dsimp only); rw [foldl_dr1] <;> (try intro s x) <;> (repeat' split) <;> simp; done)

@[simp] theorem State.handRequests_saf (s : State) : (State.handRequests s).saf = s.saf := by
  unfold State.handRequests; (repeat' split) <;> first | (simp; done) | ((try dsimp only); rw [foldl_saf] <;> (try intro s x) <;> (repeat' split) <;> simp; done)

@[simp] theorem State.handRequests_fio (s : State) : (State.handRequests s).fio = s.fio := by
  unfold State.handRequests; (repeat' split) <;> first | (simp; done) | ((try dsimp only); rw [foldl_fio] <;> (try intro s x) <;> (repeat' split) <;> simp; done)

@[simp] theorem State.handRequests_can0 (s : State) : (State.handRequests s).can0 = s.can0 := by
  unfold State.handRequests; (repeat' split) <;> first | (simp; done) | ((try dsimp only); rw [foldl_can0] <;> (try intro s x) <;> (repeat' split) <;> simp; done)

@[simp] theorem State.handRequests_can1 (s : State) : (State.handRequests s).can1 = s.can1 := by
  unfold State.handRequests; (repeat' split) <;> first | (simp; done) | ((try dsimp only); rw [foldl_can1] <;> (try intro s x) <;> (repeat' split) <;> simp; done)

@[simp] theorem State.handRequests_rng (s : State) : (State.handRequests s).rng = s.rng := by
  unfold State.handRequests; (repeat' split) <;> first | (simp; done) | ((try dsimp only); rw [foldl_rng] <;> (try intro s x) <;> (repeat' split) <;> simp; done)

@[simp] theorem State.handRequests_dsp (s : State) : (State.handRequests s).dsp = s.dsp := by
  unfold State.handRequests; (repeat' split) <;> first | (simp; done) | ((try dsimp only); rw [foldl_dsp] <;> (try intro s x) <;> (repeat' split) <;> simp; done)

@[simp] theorem State.handRequests_shf (s : State) : (State.handRequests s).shf = s.shf := by
  unfold State.handRequests; (repeat' split) <;> first | (simp; done) | ((try dsimp only); rw [foldl_shf] <;> (try intro s x) <;> (repeat' split) <;> simp; done)

@[simp] theorem State.handRequests_tph (s : State) : (State.handRequests s).tph = s.tph := by
  unfold State.handRequests; (repeat' split) <;> first | (simp; done) | ((try dsimp only); rw [foldl_tph] <;> (try intro s x) <;> (repeat' split) <;> simp; done)

@[simp] theorem State.handRequests_rtc (s : State) : (State.handRequests s).rtc = s.rtc := by
  unfold State.handRequests; (repeat' split) <;> first | (simp; done) | ((try dsimp only); rw [foldl_rtc] <;> (try intro s x) <;> (repeat' split) <;> simp; done)

@[simp] theorem State.handRequests_sec (s : State) : (State.handRequests s).sec = s.sec := by
  unfold State.handRequests; (repeat' split) <;> first | (simp; done) | ((try dsimp only); rw [foldl_sec] <;> (try intro s x) <;> (repeat' split) <;> simp; done)

@[simp] theorem State.handRequests_pending (s : State) : (State.handRequests s).pending = s.pending := by
  unfold State.handRequests; (repeat' split) <;> first | (simp; done) | ((try dsimp only); rw [foldl_pending] <;> (try intro s x) <;> (repeat' split) <;> simp; done)

@[simp] theorem State.outputPhase_frame (s : State) :
    (State.outputPhase s).pwr = s.pwr ∧
    (State.outputPhase s).lmp = s.lmp ∧
    (State.outputPhase s).pending = s.pending := by
  generalize h : State.outputPhase s = t
  unfold State.outputPhase at h
  try dsimp only at h
  (repeat' split at h) <;> subst h <;> simp

@[simp] theorem State.stopAtClose_frame (s : State) :
    (State.stopAtClose s).pwr = s.pwr ∧
    (State.stopAtClose s).lmp = s.lmp ∧
    (State.stopAtClose s).host = s.host ∧
    (State.stopAtClose s).grp = s.grp ∧
    (State.stopAtClose s).cle = s.cle ∧
    (State.stopAtClose s).dr0 = s.dr0 ∧
    (State.stopAtClose s).dr1 = s.dr1 ∧
    (State.stopAtClose s).saf = s.saf ∧
    (State.stopAtClose s).can0 = s.can0 ∧
    (State.stopAtClose s).can1 = s.can1 ∧
    (State.stopAtClose s).rng = s.rng ∧
    (State.stopAtClose s).dsp = s.dsp ∧
    (State.stopAtClose s).shf = s.shf ∧
    (State.stopAtClose s).rtc = s.rtc ∧
    (State.stopAtClose s).pending = s.pending := by
  generalize h : State.stopAtClose s = t
  unfold State.stopAtClose at h
  try dsimp only at h
  (repeat' split at h) <;> subst h <;> simp

@[simp] theorem State.autoRestart_frame (s : State) :
    (State.autoRestart s).pwr = s.pwr ∧
    (State.autoRestart s).lmp = s.lmp ∧
    (State.autoRestart s).host = s.host ∧
    (State.autoRestart s).dir = s.dir ∧
    (State.autoRestart s).grp = s.grp ∧
    (State.autoRestart s).hst = s.hst ∧
    (State.autoRestart s).cle = s.cle ∧
    (State.autoRestart s).dr0 = s.dr0 ∧
    (State.autoRestart s).dr1 = s.dr1 ∧
    (State.autoRestart s).saf = s.saf ∧
    (State.autoRestart s).fio = s.fio ∧
    (State.autoRestart s).can0 = s.can0 ∧
    (State.autoRestart s).can1 = s.can1 ∧
    (State.autoRestart s).rng = s.rng ∧
    (State.autoRestart s).dsp = s.dsp ∧
    (State.autoRestart s).shf = s.shf ∧
    (State.autoRestart s).tph = s.tph ∧
    (State.autoRestart s).rtc = s.rtc ∧
    (State.autoRestart s).sec = s.sec ∧
    (State.autoRestart s).pending = s.pending := by
  generalize h : State.autoRestart s = t
  unfold State.autoRestart at h
  try dsimp only at h
  (repeat' split at h) <;> subst h <;> simp

@[simp] theorem State.resolveForces_pwr (s : State) (vars : List GVar) : (State.resolveForces s vars).pwr = s.pwr := by
  unfold State.resolveForces; (repeat' split) <;> first | (simp; done) | ((try dsimp only); rw [foldl_pwr] <;> (try intro s x) <;> (repeat' split) <;> simp; done)

@[simp] theorem State.resolveForces_lmp (s : State) (vars : List GVar) : (State.resolveForces s vars).lmp = s.lmp := by
  unfold State.resolveForces; (repeat' split) <;> first | (simp; done) | ((try dsimp only); rw [foldl_lmp] <;> (try intro s x) <;> (repeat' split) <;> simp; done)

@[simp] theorem State.resolveForces_host (s : State) (vars : List GVar) : (State.resolveForces s vars).host = s.host := by
  unfold State.resolveForces; (repeat' split) <;> first | (simp; done) | ((try dsimp only); rw [foldl_host] <;> (try intro s x) <;> (repeat' split) <;> simp; done)

@[simp] theorem State.resolveForces_grp (s : State) (vars : List GVar) : (State.resolveForces s vars).grp = s.grp := by
  unfold State.resolveForces; (repeat' split) <;> first | (simp; done) | ((try dsimp only); rw [foldl_grp] <;> (try intro s x) <;> (repeat' split) <;> simp; done)

@[simp] theorem State.resolveForces_hst (s : State) (vars : List GVar) : (State.resolveForces s vars).hst = s.hst := by
  unfold State.resolveForces; (repeat' split) <;> first | (simp; done) | ((try dsimp only); rw [foldl_hst] <;> (try intro s x) <;> (repeat' split) <;> simp; done)

@[simp] theorem State.resolveForces_cle (s : State) (vars : List GVar) : (State.resolveForces s vars).cle = s.cle := by
  unfold State.resolveForces; (repeat' split) <;> first | (simp; done) | ((try dsimp only); rw [foldl_cle] <;> (try intro s x) <;> (repeat' split) <;> simp; done)

@[simp] theorem State.resolveForces_dr0 (s : State) (vars : List GVar) : (State.resolveForces s vars).dr0 = s.dr0 := by
  unfold State.resolveForces; (repeat' split) <;> first | (simp; done) | ((try dsimp only); rw [foldl_dr0] <;> (try intro s x) <;> (repeat' split) <;> simp; done)

@[simp] theorem State.resolveForces_dr1 (s : State) (vars : List GVar) : (State.resolveForces s vars).dr1 = s.dr1 := by
  unfold State.resolveForces; (repeat' split) <;> first | (simp; done) | ((try dsimp only); rw [foldl_dr1] <;> (try intro s x) <;> (repeat' split) <;> simp; done)

@[simp] theorem State.resolveForces_saf (s : State) (vars : List GVar) : (State.resolveForces s vars).saf = s.saf := by
  unfold State.resolveForces; (repeat' split) <;> first | (simp; done) | ((try dsimp only); rw [foldl_saf] <;> (try intro s x) <;> (repeat' split) <;> simp; done)

@[simp] theorem State.resolveForces_fio (s : State) (vars : List GVar) : (State.resolveForces s vars).fio = s.fio := by
  unfold State.resolveForces; (repeat' split) <;> first | (simp; done) | ((try dsimp only); rw [foldl_fio] <;> (try intro s x) <;> (repeat' split) <;> simp; done)

@[simp] theorem State.resolveForces_can0 (s : State) (vars : List GVar) : (State.resolveForces s vars).can0 = s.can0 := by
  unfold State.resolveForces; (repeat' split) <;> first | (simp; done) | ((try dsimp only); rw [foldl_can0] <;> (try intro s x) <;> (repeat' split) <;> simp; done)

@[simp] theorem State.resolveForces_can1 (s : State) (vars : List GVar) : (State.resolveForces s vars).can1 = s.can1 := by
  unfold State.resolveForces; (repeat' split) <;> first | (simp; done) | ((try dsimp only); rw [foldl_can1] <;> (try intro s x) <;> (repeat' split) <;> simp; done)

@[simp] theorem State.resolveForces_rng (s : State) (vars : List GVar) : (State.resolveForces s vars).rng = s.rng := by
  unfold State.resolveForces; (repeat' split) <;> first | (simp; done) | ((try dsimp only); rw [foldl_rng] <;> (try intro s x) <;> (repeat' split) <;> simp; done)

@[simp] theorem State.resolveForces_dsp (s : State) (vars : List GVar) : (State.resolveForces s vars).dsp = s.dsp := by
  unfold State.resolveForces; (repeat' split) <;> first | (simp; done) | ((try dsimp only); rw [foldl_dsp] <;> (try intro s x) <;> (repeat' split) <;> simp; done)

@[simp] theorem State.resolveForces_shf (s : State) (vars : List GVar) : (State.resolveForces s vars).shf = s.shf := by
  unfold State.resolveForces; (repeat' split) <;> first | (simp; done) | ((try dsimp only); rw [foldl_shf] <;> (try intro s x) <;> (repeat' split) <;> simp; done)

@[simp] theorem State.resolveForces_rtc (s : State) (vars : List GVar) : (State.resolveForces s vars).rtc = s.rtc := by
  unfold State.resolveForces; (repeat' split) <;> first | (simp; done) | ((try dsimp only); rw [foldl_rtc] <;> (try intro s x) <;> (repeat' split) <;> simp; done)

@[simp] theorem State.resolveForces_pending (s : State) (vars : List GVar) : (State.resolveForces s vars).pending = s.pending := by
  unfold State.resolveForces; (repeat' split) <;> first | (simp; done) | ((try dsimp only); rw [foldl_pending] <;> (try intro s x) <;> (repeat' split) <;> simp; done)

@[simp] theorem State.switchBank_frame (s : State) (tid : Nat) :
    (State.switchBank s tid).pwr = s.pwr ∧
    (State.switchBank s tid).lmp = s.lmp ∧
    (State.switchBank s tid).host = s.host ∧
    (State.switchBank s tid).grp = s.grp ∧
    (State.switchBank s tid).hst = s.hst ∧
    (State.switchBank s tid).cle = s.cle ∧
    (State.switchBank s tid).dr0 = s.dr0 ∧
    (State.switchBank s tid).dr1 = s.dr1 ∧
    (State.switchBank s tid).saf = s.saf ∧
    (State.switchBank s tid).fio = s.fio ∧
    (State.switchBank s tid).can0 = s.can0 ∧
    (State.switchBank s tid).can1 = s.can1 ∧
    (State.switchBank s tid).rng = s.rng ∧
    (State.switchBank s tid).dsp = s.dsp ∧
    (State.switchBank s tid).shf = s.shf ∧
    (State.switchBank s tid).rtc = s.rtc ∧
    (State.switchBank s tid).pending = s.pending := by
  generalize h : State.switchBank s tid = t
  unfold State.switchBank at h
  try dsimp only at h
  (repeat' split at h) <;> subst h <;> simp

@[simp] theorem State.onlineChange_frame (s : State) (tid : Nat) :
    (State.onlineChange s tid).pwr = s.pwr ∧
    (State.onlineChange s tid).lmp = s.lmp ∧
    (State.onlineChange s tid).host = s.host ∧
    (State.onlineChange s tid).grp = s.grp ∧
    (State.onlineChange s tid).hst = s.hst ∧
    (State.onlineChange s tid).cle = s.cle ∧
    (State.onlineChange s tid).dr0 = s.dr0 ∧
    (State.onlineChange s tid).dr1 = s.dr1 ∧
    (State.onlineChange s tid).saf = s.saf ∧
    (State.onlineChange s tid).fio = s.fio ∧
    (State.onlineChange s tid).can0 = s.can0 ∧
    (State.onlineChange s tid).can1 = s.can1 ∧
    (State.onlineChange s tid).rng = s.rng ∧
    (State.onlineChange s tid).dsp = s.dsp ∧
    (State.onlineChange s tid).shf = s.shf ∧
    (State.onlineChange s tid).rtc = s.rtc ∧
    (State.onlineChange s tid).pending = s.pending := by
  generalize h : State.onlineChange s tid = t
  unfold State.onlineChange at h
  try dsimp only at h
  (repeat' split at h) <;> subst h <;> simp

end Sys2Proof.Machine
end

