-- ==== Sys2Proof/Laws/FrSafParam.lean ====
section
/-!
SUPPORT. For each operation of Machine/SafParam.lean on the device, the blocks it leaves as they were.
-/
namespace Sys2Proof.Machine
set_option linter.unusedTactic false
set_option linter.unnecessarySeqFocus false
set_option linter.unreachableTactic false
set_option linter.unusedSimpArgs false
set_option linter.unusedVariables false

@[simp] theorem State.openSaf_frame (s : State) (h : Nat) :
    (State.openSaf s h).pwr = s.pwr ∧
    (State.openSaf s h).lmp = s.lmp ∧
    (State.openSaf s h).host = s.host ∧
    (State.openSaf s h).grp = s.grp ∧
    (State.openSaf s h).gys = s.gys ∧
    (State.openSaf s h).hst = s.hst ∧
    (State.openSaf s h).cle = s.cle ∧
    (State.openSaf s h).dr0 = s.dr0 ∧
    (State.openSaf s h).dr1 = s.dr1 ∧
    (State.openSaf s h).fio = s.fio ∧
    (State.openSaf s h).can0 = s.can0 ∧
    (State.openSaf s h).can1 = s.can1 ∧
    (State.openSaf s h).rng = s.rng ∧
    (State.openSaf s h).dsp = s.dsp ∧
    (State.openSaf s h).shf = s.shf ∧
    (State.openSaf s h).rtc = s.rtc ∧
    (State.openSaf s h).pending = s.pending := by
  generalize h : State.openSaf s h = t
  unfold State.openSaf at h
  try dsimp only at h
  (repeat' split at h) <;> subst h <;> simp

@[simp] theorem State.safWrite_frame (s : State) (f : Flight) :
    (State.safWrite s f).pwr = s.pwr ∧
    (State.safWrite s f).lmp = s.lmp ∧
    (State.safWrite s f).grp = s.grp ∧
    (State.safWrite s f).gys = s.gys ∧
    (State.safWrite s f).hst = s.hst ∧
    (State.safWrite s f).cle = s.cle ∧
    (State.safWrite s f).dr0 = s.dr0 ∧
    (State.safWrite s f).dr1 = s.dr1 ∧
    (State.safWrite s f).fio = s.fio ∧
    (State.safWrite s f).can0 = s.can0 ∧
    (State.safWrite s f).can1 = s.can1 ∧
    (State.safWrite s f).rng = s.rng ∧
    (State.safWrite s f).dsp = s.dsp ∧
    (State.safWrite s f).shf = s.shf ∧
    (State.safWrite s f).rtc = s.rtc ∧
    (State.safWrite s f).pending = s.pending := by
  generalize h : State.safWrite s f = t
  unfold State.safWrite at h
  try dsimp only at h
  (repeat' split at h) <;> subst h <;> simp

@[simp] theorem State.adoptSet_frame (s : State) :
    (State.adoptSet s).pwr = s.pwr ∧
    (State.adoptSet s).lmp = s.lmp ∧
    (State.adoptSet s).host = s.host ∧
    (State.adoptSet s).grp = s.grp ∧
    (State.adoptSet s).gys = s.gys ∧
    (State.adoptSet s).hst = s.hst ∧
    (State.adoptSet s).cle = s.cle ∧
    (State.adoptSet s).dr0 = s.dr0 ∧
    (State.adoptSet s).dr1 = s.dr1 ∧
    (State.adoptSet s).fio = s.fio ∧
    (State.adoptSet s).can0 = s.can0 ∧
    (State.adoptSet s).can1 = s.can1 ∧
    (State.adoptSet s).rng = s.rng ∧
    (State.adoptSet s).dsp = s.dsp ∧
    (State.adoptSet s).shf = s.shf ∧
    (State.adoptSet s).rtc = s.rtc ∧
    (State.adoptSet s).pending = s.pending := by
  generalize h : State.adoptSet s = t
  unfold State.adoptSet at h
  try dsimp only at h
  (repeat' split at h) <;> subst h <;> simp

end Sys2Proof.Machine
end

