-- ==== Sys2Proof/Laws/FrSec.lean ====
section
/-!
SUPPORT. For each operation of Machine/Sec.lean on the device, the blocks it leaves as they were.
-/
namespace Sys2Proof.Machine
set_option linter.unusedTactic false
set_option linter.unnecessarySeqFocus false
set_option linter.unreachableTactic false
set_option linter.unusedSimpArgs false
set_option linter.unusedVariables false

@[simp] theorem State.usedFree_frame (s : State) :
    (State.usedFree s).pwr = s.pwr ∧
    (State.usedFree s).lmp = s.lmp ∧
    (State.usedFree s).host = s.host ∧
    (State.usedFree s).dir = s.dir ∧
    (State.usedFree s).grp = s.grp ∧
    (State.usedFree s).gys = s.gys ∧
    (State.usedFree s).hst = s.hst ∧
    (State.usedFree s).cle = s.cle ∧
    (State.usedFree s).dr0 = s.dr0 ∧
    (State.usedFree s).dr1 = s.dr1 ∧
    (State.usedFree s).saf = s.saf ∧
    (State.usedFree s).fio = s.fio ∧
    (State.usedFree s).can0 = s.can0 ∧
    (State.usedFree s).can1 = s.can1 ∧
    (State.usedFree s).rng = s.rng ∧
    (State.usedFree s).dsp = s.dsp ∧
    (State.usedFree s).shf = s.shf ∧
    (State.usedFree s).tph = s.tph ∧
    (State.usedFree s).rtc = s.rtc ∧
    (State.usedFree s).pending = s.pending := by
  generalize h : State.usedFree s = t
  unfold State.usedFree at h
  try dsimp only at h
  (repeat' split at h) <;> subst h <;> simp

@[simp] theorem State.openSession_frame (s : State) (h : Nat) (ss : Session) (host : Option Nat) :
    (State.openSession s h ss host).pwr = s.pwr ∧
    (State.openSession s h ss host).lmp = s.lmp ∧
    (State.openSession s h ss host).gys = s.gys ∧
    (State.openSession s h ss host).hst = s.hst ∧
    (State.openSession s h ss host).cle = s.cle ∧
    (State.openSession s h ss host).dr0 = s.dr0 ∧
    (State.openSession s h ss host).dr1 = s.dr1 ∧
    (State.openSession s h ss host).fio = s.fio ∧
    (State.openSession s h ss host).can0 = s.can0 ∧
    (State.openSession s h ss host).can1 = s.can1 ∧
    (State.openSession s h ss host).rng = s.rng ∧
    (State.openSession s h ss host).dsp = s.dsp ∧
    (State.openSession s h ss host).shf = s.shf ∧
    (State.openSession s h ss host).rtc = s.rtc ∧
    (State.openSession s h ss host).pending = s.pending := by
  generalize h : State.openSession s h ss host = t
  unfold State.openSession at h
  try dsimp only at h
  (repeat' split at h) <;> subst h <;> simp

@[simp] theorem State.authFailed_frame (s : State) (inst : Nat) :
    (State.authFailed s inst).pwr = s.pwr ∧
    (State.authFailed s inst).lmp = s.lmp ∧
    (State.authFailed s inst).host = s.host ∧
    (State.authFailed s inst).grp = s.grp ∧
    (State.authFailed s inst).gys = s.gys ∧
    (State.authFailed s inst).hst = s.hst ∧
    (State.authFailed s inst).cle = s.cle ∧
    (State.authFailed s inst).dr0 = s.dr0 ∧
    (State.authFailed s inst).dr1 = s.dr1 ∧
    (State.authFailed s inst).saf = s.saf ∧
    (State.authFailed s inst).fio = s.fio ∧
    (State.authFailed s inst).can0 = s.can0 ∧
    (State.authFailed s inst).can1 = s.can1 ∧
    (State.authFailed s inst).rng = s.rng ∧
    (State.authFailed s inst).dsp = s.dsp ∧
    (State.authFailed s inst).shf = s.shf ∧
    (State.authFailed s inst).rtc = s.rtc ∧
    (State.authFailed s inst).pending = s.pending := by
  generalize h : State.authFailed s inst = t
  unfold State.authFailed at h
  try dsimp only at h
  (repeat' split at h) <;> subst h <;> simp

@[simp] theorem State.slotFailed_frame (s : State) (h : Nat) :
    (State.slotFailed s h).pwr = s.pwr ∧
    (State.slotFailed s h).lmp = s.lmp ∧
    (State.slotFailed s h).grp = s.grp ∧
    (State.slotFailed s h).gys = s.gys ∧
    (State.slotFailed s h).hst = s.hst ∧
    (State.slotFailed s h).cle = s.cle ∧
    (State.slotFailed s h).dr0 = s.dr0 ∧
    (State.slotFailed s h).dr1 = s.dr1 ∧
    (State.slotFailed s h).saf = s.saf ∧
    (State.slotFailed s h).fio = s.fio ∧
    (State.slotFailed s h).can0 = s.can0 ∧
    (State.slotFailed s h).can1 = s.can1 ∧
    (State.slotFailed s h).rng = s.rng ∧
    (State.slotFailed s h).dsp = s.dsp ∧
    (State.slotFailed s h).shf = s.shf ∧
    (State.slotFailed s h).rtc = s.rtc ∧
    (State.slotFailed s h).pending = s.pending := by
  generalize h : State.slotFailed s h = t
  unfold State.slotFailed at h
  try dsimp only at h
  (repeat' split at h) <;> subst h <;> simp

@[simp] theorem State.setRingFail_frame (s : State) (r : RingFail) :
    (State.setRingFail s r).pwr = s.pwr ∧
    (State.setRingFail s r).lmp = s.lmp ∧
    (State.setRingFail s r).host = s.host ∧
    (State.setRingFail s r).dir = s.dir ∧
    (State.setRingFail s r).grp = s.grp ∧
    (State.setRingFail s r).gys = s.gys ∧
    (State.setRingFail s r).hst = s.hst ∧
    (State.setRingFail s r).cle = s.cle ∧
    (State.setRingFail s r).dr0 = s.dr0 ∧
    (State.setRingFail s r).dr1 = s.dr1 ∧
    (State.setRingFail s r).saf = s.saf ∧
    (State.setRingFail s r).fio = s.fio ∧
    (State.setRingFail s r).can0 = s.can0 ∧
    (State.setRingFail s r).can1 = s.can1 ∧
    (State.setRingFail s r).rng = s.rng ∧
    (State.setRingFail s r).dsp = s.dsp ∧
    (State.setRingFail s r).shf = s.shf ∧
    (State.setRingFail s r).tph = s.tph ∧
    (State.setRingFail s r).rtc = s.rtc ∧
    (State.setRingFail s r).pending = s.pending := by
  generalize h : State.setRingFail s r = t
  unfold State.setRingFail at h
  try dsimp only at h
  (repeat' split at h) <;> subst h <;> simp

@[simp] theorem State.sourceFailed_frame (s : State) (a : Nat) :
    (State.sourceFailed s a).pwr = s.pwr ∧
    (State.sourceFailed s a).lmp = s.lmp ∧
    (State.sourceFailed s a).host = s.host ∧
    (State.sourceFailed s a).grp = s.grp ∧
    (State.sourceFailed s a).gys = s.gys ∧
    (State.sourceFailed s a).hst = s.hst ∧
    (State.sourceFailed s a).cle = s.cle ∧
    (State.sourceFailed s a).dr0 = s.dr0 ∧
    (State.sourceFailed s a).dr1 = s.dr1 ∧
    (State.sourceFailed s a).saf = s.saf ∧
    (State.sourceFailed s a).fio = s.fio ∧
    (State.sourceFailed s a).can0 = s.can0 ∧
    (State.sourceFailed s a).can1 = s.can1 ∧
    (State.sourceFailed s a).rng = s.rng ∧
    (State.sourceFailed s a).dsp = s.dsp ∧
    (State.sourceFailed s a).shf = s.shf ∧
    (State.sourceFailed s a).rtc = s.rtc ∧
    (State.sourceFailed s a).pending = s.pending := by
  generalize h : State.sourceFailed s a = t
  unfold State.sourceFailed at h
  try dsimp only at h
  (repeat' split at h) <;> subst h <;> simp

@[simp] theorem State.dropChal_frame (s : State) (a : Nat) :
    (State.dropChal s a).pwr = s.pwr ∧
    (State.dropChal s a).lmp = s.lmp ∧
    (State.dropChal s a).host = s.host ∧
    (State.dropChal s a).dir = s.dir ∧
    (State.dropChal s a).grp = s.grp ∧
    (State.dropChal s a).gys = s.gys ∧
    (State.dropChal s a).hst = s.hst ∧
    (State.dropChal s a).cle = s.cle ∧
    (State.dropChal s a).dr0 = s.dr0 ∧
    (State.dropChal s a).dr1 = s.dr1 ∧
    (State.dropChal s a).saf = s.saf ∧
    (State.dropChal s a).fio = s.fio ∧
    (State.dropChal s a).can0 = s.can0 ∧
    (State.dropChal s a).can1 = s.can1 ∧
    (State.dropChal s a).rng = s.rng ∧
    (State.dropChal s a).dsp = s.dsp ∧
    (State.dropChal s a).shf = s.shf ∧
    (State.dropChal s a).tph = s.tph ∧
    (State.dropChal s a).rtc = s.rtc ∧
    (State.dropChal s a).pending = s.pending := by
  generalize h : State.dropChal s a = t
  unfold State.dropChal at h
  try dsimp only at h
  (repeat' split at h) <;> subst h <;> simp

@[simp] theorem State.takeMeasurements_frame (s : State) :
    (State.takeMeasurements s).pwr = s.pwr ∧
    (State.takeMeasurements s).lmp = s.lmp ∧
    (State.takeMeasurements s).host = s.host ∧
    (State.takeMeasurements s).dir = s.dir ∧
    (State.takeMeasurements s).grp = s.grp ∧
    (State.takeMeasurements s).gys = s.gys ∧
    (State.takeMeasurements s).hst = s.hst ∧
    (State.takeMeasurements s).cle = s.cle ∧
    (State.takeMeasurements s).dr0 = s.dr0 ∧
    (State.takeMeasurements s).dr1 = s.dr1 ∧
    (State.takeMeasurements s).saf = s.saf ∧
    (State.takeMeasurements s).fio = s.fio ∧
    (State.takeMeasurements s).can0 = s.can0 ∧
    (State.takeMeasurements s).can1 = s.can1 ∧
    (State.takeMeasurements s).rng = s.rng ∧
    (State.takeMeasurements s).dsp = s.dsp ∧
    (State.takeMeasurements s).shf = s.shf ∧
    (State.takeMeasurements s).tph = s.tph ∧
    (State.takeMeasurements s).rtc = s.rtc ∧
    (State.takeMeasurements s).pending = s.pending := by
  generalize h : State.takeMeasurements s = t
  unfold State.takeMeasurements at h
  try dsimp only at h
  (repeat' split at h) <;> subst h <;> simp

@[simp] theorem State.attestCert_frame (s : State) (f : Flight) (c : List Byte) :
    (State.attestCert s f c).pwr = s.pwr ∧
    (State.attestCert s f c).lmp = s.lmp ∧
    (State.attestCert s f c).dir = s.dir ∧
    (State.attestCert s f c).grp = s.grp ∧
    (State.attestCert s f c).gys = s.gys ∧
    (State.attestCert s f c).hst = s.hst ∧
    (State.attestCert s f c).cle = s.cle ∧
    (State.attestCert s f c).dr0 = s.dr0 ∧
    (State.attestCert s f c).dr1 = s.dr1 ∧
    (State.attestCert s f c).saf = s.saf ∧
    (State.attestCert s f c).fio = s.fio ∧
    (State.attestCert s f c).can0 = s.can0 ∧
    (State.attestCert s f c).can1 = s.can1 ∧
    (State.attestCert s f c).rng = s.rng ∧
    (State.attestCert s f c).dsp = s.dsp ∧
    (State.attestCert s f c).shf = s.shf ∧
    (State.attestCert s f c).tph = s.tph ∧
    (State.attestCert s f c).rtc = s.rtc ∧
    (State.attestCert s f c).sec = s.sec ∧
    (State.attestCert s f c).pending = s.pending := by
  generalize h : State.attestCert s f c = t
  unfold State.attestCert at h
  try dsimp only at h
  (repeat' split at h) <;> subst h <;> simp

@[simp] theorem State.keyInstalled_frame (s : State) (action id : Nat) :
    (State.keyInstalled s action id).pwr = s.pwr ∧
    (State.keyInstalled s action id).lmp = s.lmp ∧
    (State.keyInstalled s action id).gys = s.gys ∧
    (State.keyInstalled s action id).hst = s.hst ∧
    (State.keyInstalled s action id).cle = s.cle ∧
    (State.keyInstalled s action id).dr0 = s.dr0 ∧
    (State.keyInstalled s action id).dr1 = s.dr1 ∧
    (State.keyInstalled s action id).saf = s.saf ∧
    (State.keyInstalled s action id).fio = s.fio ∧
    (State.keyInstalled s action id).can0 = s.can0 ∧
    (State.keyInstalled s action id).can1 = s.can1 ∧
    (State.keyInstalled s action id).rng = s.rng ∧
    (State.keyInstalled s action id).dsp = s.dsp ∧
    (State.keyInstalled s action id).shf = s.shf ∧
    (State.keyInstalled s action id).rtc = s.rtc ∧
    (State.keyInstalled s action id).pending = s.pending := by
  generalize h : State.keyInstalled s action id = t
  unfold State.keyInstalled at h
  try dsimp only at h
  (repeat' split at h) <;> subst h <;> simp

end Sys2Proof.Machine
end

