-- ==== Sys2Proof/Laws/FrFirmware.lean ====
section
/-!
SUPPORT. For each operation of Machine/Firmware.lean on the device, the blocks it leaves as they were.
-/
namespace Sys2Proof.Machine
set_option linter.unusedTactic false
set_option linter.unnecessarySeqFocus false
set_option linter.unreachableTactic false
set_option linter.unusedSimpArgs false
set_option linter.unusedVariables false

@[simp] theorem State.modFw_frame (s : State) (k : Nat) (f : FwSlot → FwSlot) :
    (State.modFw s k f).pwr = s.pwr ∧
    (State.modFw s k f).lmp = s.lmp ∧
    (State.modFw s k f).host = s.host ∧
    (State.modFw s k f).dir = s.dir ∧
    (State.modFw s k f).grp = s.grp ∧
    (State.modFw s k f).gys = s.gys ∧
    (State.modFw s k f).hst = s.hst ∧
    (State.modFw s k f).cle = s.cle ∧
    (State.modFw s k f).dr0 = s.dr0 ∧
    (State.modFw s k f).dr1 = s.dr1 ∧
    (State.modFw s k f).saf = s.saf ∧
    (State.modFw s k f).fio = s.fio ∧
    (State.modFw s k f).can0 = s.can0 ∧
    (State.modFw s k f).can1 = s.can1 ∧
    (State.modFw s k f).rng = s.rng ∧
    (State.modFw s k f).dsp = s.dsp ∧
    (State.modFw s k f).shf = s.shf ∧
    (State.modFw s k f).tph = s.tph ∧
    (State.modFw s k f).rtc = s.rtc ∧
    (State.modFw s k f).pending = s.pending := by
  generalize h : State.modFw s k f = t
  unfold State.modFw at h
  try dsimp only at h
  (repeat' split at h) <;> subst h <;> simp

@[simp] theorem State.fwBegin_frame (s : State) (f : Flight) :
    (State.fwBegin s f).pwr = s.pwr ∧
    (State.fwBegin s f).lmp = s.lmp ∧
    (State.fwBegin s f).host = s.host ∧
    (State.fwBegin s f).dir = s.dir ∧
    (State.fwBegin s f).grp = s.grp ∧
    (State.fwBegin s f).gys = s.gys ∧
    (State.fwBegin s f).hst = s.hst ∧
    (State.fwBegin s f).cle = s.cle ∧
    (State.fwBegin s f).dr0 = s.dr0 ∧
    (State.fwBegin s f).dr1 = s.dr1 ∧
    (State.fwBegin s f).saf = s.saf ∧
    (State.fwBegin s f).fio = s.fio ∧
    (State.fwBegin s f).can0 = s.can0 ∧
    (State.fwBegin s f).can1 = s.can1 ∧
    (State.fwBegin s f).rng = s.rng ∧
    (State.fwBegin s f).dsp = s.dsp ∧
    (State.fwBegin s f).shf = s.shf ∧
    (State.fwBegin s f).tph = s.tph ∧
    (State.fwBegin s f).rtc = s.rtc ∧
    (State.fwBegin s f).pending = s.pending := by
  generalize h : State.fwBegin s f = t
  unfold State.fwBegin at h
  try dsimp only at h
  (repeat' split at h) <;> subst h <;> simp

@[simp] theorem State.fwAdopt_frame (s : State) (k : Nat) :
    (State.fwAdopt s k).pwr = s.pwr ∧
    (State.fwAdopt s k).lmp = s.lmp ∧
    (State.fwAdopt s k).host = s.host ∧
    (State.fwAdopt s k).dir = s.dir ∧
    (State.fwAdopt s k).grp = s.grp ∧
    (State.fwAdopt s k).gys = s.gys ∧
    (State.fwAdopt s k).hst = s.hst ∧
    (State.fwAdopt s k).cle = s.cle ∧
    (State.fwAdopt s k).dr0 = s.dr0 ∧
    (State.fwAdopt s k).dr1 = s.dr1 ∧
    (State.fwAdopt s k).saf = s.saf ∧
    (State.fwAdopt s k).fio = s.fio ∧
    (State.fwAdopt s k).can0 = s.can0 ∧
    (State.fwAdopt s k).can1 = s.can1 ∧
    (State.fwAdopt s k).rng = s.rng ∧
    (State.fwAdopt s k).dsp = s.dsp ∧
    (State.fwAdopt s k).shf = s.shf ∧
    (State.fwAdopt s k).tph = s.tph ∧
    (State.fwAdopt s k).rtc = s.rtc ∧
    (State.fwAdopt s k).pending = s.pending := by
  generalize h : State.fwAdopt s k = t
  unfold State.fwAdopt at h
  try dsimp only at h
  (repeat' split at h) <;> subst h <;> simp

@[simp] theorem State.fwRefused_frame (s : State) (f : Flight) (st : Status) :
    (State.fwRefused s f st).pwr = s.pwr ∧
    (State.fwRefused s f st).lmp = s.lmp ∧
    (State.fwRefused s f st).grp = s.grp ∧
    (State.fwRefused s f st).gys = s.gys ∧
    (State.fwRefused s f st).hst = s.hst ∧
    (State.fwRefused s f st).cle = s.cle ∧
    (State.fwRefused s f st).dr0 = s.dr0 ∧
    (State.fwRefused s f st).dr1 = s.dr1 ∧
    (State.fwRefused s f st).saf = s.saf ∧
    (State.fwRefused s f st).fio = s.fio ∧
    (State.fwRefused s f st).can0 = s.can0 ∧
    (State.fwRefused s f st).can1 = s.can1 ∧
    (State.fwRefused s f st).rng = s.rng ∧
    (State.fwRefused s f st).dsp = s.dsp ∧
    (State.fwRefused s f st).shf = s.shf ∧
    (State.fwRefused s f st).rtc = s.rtc ∧
    (State.fwRefused s f st).pending = s.pending := by
  generalize h : State.fwRefused s f st = t
  unfold State.fwRefused at h
  try dsimp only at h
  (repeat' split at h) <;> subst h <;> simp

@[simp] theorem State.awaitQuiet_frame (s : State) (f : Flight) (revert plain : Bool) :
    (State.awaitQuiet s f revert plain).pwr = s.pwr ∧
    (State.awaitQuiet s f revert plain).lmp = s.lmp ∧
    (State.awaitQuiet s f revert plain).dir = s.dir ∧
    (State.awaitQuiet s f revert plain).grp = s.grp ∧
    (State.awaitQuiet s f revert plain).gys = s.gys ∧
    (State.awaitQuiet s f revert plain).hst = s.hst ∧
    (State.awaitQuiet s f revert plain).cle = s.cle ∧
    (State.awaitQuiet s f revert plain).dr0 = s.dr0 ∧
    (State.awaitQuiet s f revert plain).dr1 = s.dr1 ∧
    (State.awaitQuiet s f revert plain).saf = s.saf ∧
    (State.awaitQuiet s f revert plain).fio = s.fio ∧
    (State.awaitQuiet s f revert plain).can0 = s.can0 ∧
    (State.awaitQuiet s f revert plain).can1 = s.can1 ∧
    (State.awaitQuiet s f revert plain).rng = s.rng ∧
    (State.awaitQuiet s f revert plain).dsp = s.dsp ∧
    (State.awaitQuiet s f revert plain).shf = s.shf ∧
    (State.awaitQuiet s f revert plain).tph = s.tph ∧
    (State.awaitQuiet s f revert plain).rtc = s.rtc ∧
    (State.awaitQuiet s f revert plain).pending = s.pending := by
  generalize h : State.awaitQuiet s f revert plain = t
  unfold State.awaitQuiet at h
  try dsimp only at h
  (repeat' split at h) <;> subst h <;> simp

@[simp] theorem State.planSwap_frame (s : State) :
    (State.planSwap s).pwr = s.pwr ∧
    (State.planSwap s).lmp = s.lmp ∧
    (State.planSwap s).host = s.host ∧
    (State.planSwap s).dir = s.dir ∧
    (State.planSwap s).grp = s.grp ∧
    (State.planSwap s).gys = s.gys ∧
    (State.planSwap s).hst = s.hst ∧
    (State.planSwap s).cle = s.cle ∧
    (State.planSwap s).dr0 = s.dr0 ∧
    (State.planSwap s).dr1 = s.dr1 ∧
    (State.planSwap s).saf = s.saf ∧
    (State.planSwap s).fio = s.fio ∧
    (State.planSwap s).can0 = s.can0 ∧
    (State.planSwap s).can1 = s.can1 ∧
    (State.planSwap s).rng = s.rng ∧
    (State.planSwap s).dsp = s.dsp ∧
    (State.planSwap s).shf = s.shf ∧
    (State.planSwap s).tph = s.tph ∧
    (State.planSwap s).rtc = s.rtc ∧
    (State.planSwap s).pending = s.pending := by
  generalize h : State.planSwap s = t
  unfold State.planSwap at h
  try dsimp only at h
  (repeat' split at h) <;> subst h <;> simp

@[simp] theorem State.switched_frame (s : State) :
    (State.switched s).pwr = s.pwr ∧
    (State.switched s).lmp = s.lmp ∧
    (State.switched s).host = s.host ∧
    (State.switched s).grp = s.grp ∧
    (State.switched s).gys = s.gys ∧
    (State.switched s).hst = s.hst ∧
    (State.switched s).cle = s.cle ∧
    (State.switched s).dr0 = s.dr0 ∧
    (State.switched s).dr1 = s.dr1 ∧
    (State.switched s).saf = s.saf ∧
    (State.switched s).fio = s.fio ∧
    (State.switched s).can0 = s.can0 ∧
    (State.switched s).can1 = s.can1 ∧
    (State.switched s).rng = s.rng ∧
    (State.switched s).dsp = s.dsp ∧
    (State.switched s).shf = s.shf ∧
    (State.switched s).rtc = s.rtc ∧
    (State.switched s).pending = s.pending := by
  generalize h : State.switched s = t
  unfold State.switched at h
  try dsimp only at h
  (repeat' split at h) <;> subst h <;> simp

@[simp] theorem State.beginSwap_frame (s : State) :
    (State.beginSwap s).pwr = s.pwr ∧
    (State.beginSwap s).lmp = s.lmp ∧
    (State.beginSwap s).host = s.host ∧
    (State.beginSwap s).dir = s.dir ∧
    (State.beginSwap s).grp = s.grp ∧
    (State.beginSwap s).gys = s.gys ∧
    (State.beginSwap s).hst = s.hst ∧
    (State.beginSwap s).cle = s.cle ∧
    (State.beginSwap s).dr0 = s.dr0 ∧
    (State.beginSwap s).dr1 = s.dr1 ∧
    (State.beginSwap s).saf = s.saf ∧
    (State.beginSwap s).fio = s.fio ∧
    (State.beginSwap s).can0 = s.can0 ∧
    (State.beginSwap s).can1 = s.can1 ∧
    (State.beginSwap s).rng = s.rng ∧
    (State.beginSwap s).dsp = s.dsp ∧
    (State.beginSwap s).shf = s.shf ∧
    (State.beginSwap s).tph = s.tph ∧
    (State.beginSwap s).rtc = s.rtc ∧
    (State.beginSwap s).pending = s.pending := by
  generalize h : State.beginSwap s = t
  unfold State.beginSwap at h
  try dsimp only at h
  (repeat' split at h) <;> subst h <;> simp

end Sys2Proof.Machine
end

