-- ==== Sys2Proof/Laws/FrDormant.lean ====
section
/-!
SUPPORT. For each operation of Machine/Dormant.lean on the device, the blocks it leaves as they were.
-/
namespace Sys2Proof.Machine
set_option linter.unusedTactic false
set_option linter.unnecessarySeqFocus false
set_option linter.unreachableTactic false
set_option linter.unusedSimpArgs false
set_option linter.unusedVariables false

@[simp] theorem State.canSleep_frame (s : State) (sent b : Nat) :
    (State.canSleep s sent b).pwr = s.pwr ∧
    (State.canSleep s sent b).lmp = s.lmp ∧
    (State.canSleep s sent b).host = s.host ∧
    (State.canSleep s sent b).dir = s.dir ∧
    (State.canSleep s sent b).grp = s.grp ∧
    (State.canSleep s sent b).gys = s.gys ∧
    (State.canSleep s sent b).hst = s.hst ∧
    (State.canSleep s sent b).cle = s.cle ∧
    (State.canSleep s sent b).dr0 = s.dr0 ∧
    (State.canSleep s sent b).dr1 = s.dr1 ∧
    (State.canSleep s sent b).saf = s.saf ∧
    (State.canSleep s sent b).fio = s.fio ∧
    (State.canSleep s sent b).rng = s.rng ∧
    (State.canSleep s sent b).dsp = s.dsp ∧
    (State.canSleep s sent b).shf = s.shf ∧
    (State.canSleep s sent b).tph = s.tph ∧
    (State.canSleep s sent b).rtc = s.rtc ∧
    (State.canSleep s sent b).sec = s.sec ∧
    (State.canSleep s sent b).pending = s.pending := by
  generalize h : State.canSleep s sent b = t
  unfold State.canSleep at h
  try dsimp only at h
  (repeat' split at h) <;> subst h <;> simp

@[simp] theorem State.saveUnits_pwr (s : State) : (State.saveUnits s).pwr = s.pwr := by
  unfold State.saveUnits; (repeat' split) <;> first | (simp; done) | ((try dsimp only); rw [foldl_pwr] <;> (try intro s x) <;> (repeat' split) <;> simp; done)

@[simp] theorem State.saveUnits_lmp (s : State) : (State.saveUnits s).lmp = s.lmp := by
  unfold State.saveUnits; (repeat' split) <;> first | (simp; done) | ((try dsimp only); rw [foldl_lmp] <;> (try intro s x) <;> (repeat' split) <;> simp; done)

@[simp] theorem State.saveUnits_host (s : State) : (State.saveUnits s).host = s.host := by
  unfold State.saveUnits; (repeat' split) <;> first | (simp; done) | ((try dsimp only); rw [foldl_host] <;> (try intro s x) <;> (repeat' split) <;> simp; done)

@[simp] theorem State.saveUnits_grp (s : State) : (State.saveUnits s).grp = s.grp := by
  unfold State.saveUnits; (repeat' split) <;> first | (simp; done) | ((try dsimp only); rw [foldl_grp] <;> (try intro s x) <;> (repeat' split) <;> simp; done)

@[simp] theorem State.saveUnits_gys (s : State) : (State.saveUnits s).gys = s.gys := by
  unfold State.saveUnits; (repeat' split) <;> first | (simp; done) | ((try dsimp only); rw [foldl_gys] <;> (try intro s x) <;> (repeat' split) <;> simp; done)

@[simp] theorem State.saveUnits_hst (s : State) : (State.saveUnits s).hst = s.hst := by
  unfold State.saveUnits; (repeat' split) <;> first | (simp; done) | ((try dsimp only); rw [foldl_hst] <;> (try intro s x) <;> (repeat' split) <;> simp; done)

@[simp] theorem State.saveUnits_dr0 (s : State) : (State.saveUnits s).dr0 = s.dr0 := by
  unfold State.saveUnits; (repeat' split) <;> first | (simp; done) | ((try dsimp only); rw [foldl_dr0] <;> (try intro s x) <;> (repeat' split) <;> simp; done)

@[simp] theorem State.saveUnits_dr1 (s : State) : (State.saveUnits s).dr1 = s.dr1 := by
  unfold State.saveUnits; (repeat' split) <;> first | (simp; done) | ((try dsimp only); rw [foldl_dr1] <;> (try intro s x) <;> (repeat' split) <;> simp; done)

@[simp] theorem State.saveUnits_saf (s : State) : (State.saveUnits s).saf = s.saf := by
  unfold State.saveUnits; (repeat' split) <;> first | (simp; done) | ((try dsimp only); rw [foldl_saf] <;> (try intro s x) <;> (repeat' split) <;> simp; done)

@[simp] theorem State.saveUnits_fio (s : State) : (State.saveUnits s).fio = s.fio := by
  unfold State.saveUnits; (repeat' split) <;> first | (simp; done) | ((try dsimp only); rw [foldl_fio] <;> (try intro s x) <;> (repeat' split) <;> simp; done)

@[simp] theorem State.saveUnits_can0 (s : State) : (State.saveUnits s).can0 = s.can0 := by
  unfold State.saveUnits; (repeat' split) <;> first | (simp; done) | ((try dsimp only); rw [foldl_can0] <;> (try intro s x) <;> (repeat' split) <;> simp; done)

@[simp] theorem State.saveUnits_can1 (s : State) : (State.saveUnits s).can1 = s.can1 := by
  unfold State.saveUnits; (repeat' split) <;> first | (simp; done) | ((try dsimp only); rw [foldl_can1] <;> (try intro s x) <;> (repeat' split) <;> simp; done)

@[simp] theorem State.saveUnits_rng (s : State) : (State.saveUnits s).rng = s.rng := by
  unfold State.saveUnits; (repeat' split) <;> first | (simp; done) | ((try dsimp only); rw [foldl_rng] <;> (try intro s x) <;> (repeat' split) <;> simp; done)

@[simp] theorem State.saveUnits_dsp (s : State) : (State.saveUnits s).dsp = s.dsp := by
  unfold State.saveUnits; (repeat' split) <;> first | (simp; done) | ((try dsimp only); rw [foldl_dsp] <;> (try intro s x) <;> (repeat' split) <;> simp; done)

@[simp] theorem State.saveUnits_shf (s : State) : (State.saveUnits s).shf = s.shf := by
  unfold State.saveUnits; (repeat' split) <;> first | (simp; done) | ((try dsimp only); rw [foldl_shf] <;> (try intro s x) <;> (repeat' split) <;> simp; done)

@[simp] theorem State.saveUnits_rtc (s : State) : (State.saveUnits s).rtc = s.rtc := by
  unfold State.saveUnits; (repeat' split) <;> first | (simp; done) | ((try dsimp only); rw [foldl_rtc] <;> (try intro s x) <;> (repeat' split) <;> simp; done)

@[simp] theorem State.saveUnits_pending (s : State) : (State.saveUnits s).pending = s.pending := by
  unfold State.saveUnits; (repeat' split) <;> first | (simp; done) | ((try dsimp only); rw [foldl_pending] <;> (try intro s x) <;> (repeat' split) <;> simp; done)

@[simp] theorem State.armMonitor_frame (s : State) (si fio : Nat) :
    (State.armMonitor s si fio).lmp = s.lmp ∧
    (State.armMonitor s si fio).host = s.host ∧
    (State.armMonitor s si fio).dir = s.dir ∧
    (State.armMonitor s si fio).grp = s.grp ∧
    (State.armMonitor s si fio).gys = s.gys ∧
    (State.armMonitor s si fio).hst = s.hst ∧
    (State.armMonitor s si fio).cle = s.cle ∧
    (State.armMonitor s si fio).dr0 = s.dr0 ∧
    (State.armMonitor s si fio).dr1 = s.dr1 ∧
    (State.armMonitor s si fio).saf = s.saf ∧
    (State.armMonitor s si fio).fio = s.fio ∧
    (State.armMonitor s si fio).can0 = s.can0 ∧
    (State.armMonitor s si fio).can1 = s.can1 ∧
    (State.armMonitor s si fio).rng = s.rng ∧
    (State.armMonitor s si fio).dsp = s.dsp ∧
    (State.armMonitor s si fio).shf = s.shf ∧
    (State.armMonitor s si fio).tph = s.tph ∧
    (State.armMonitor s si fio).rtc = s.rtc ∧
    (State.armMonitor s si fio).sec = s.sec ∧
    (State.armMonitor s si fio).pending = s.pending := by
  generalize h : State.armMonitor s si fio = t
  unfold State.armMonitor at h
  try dsimp only at h
  (repeat' split at h) <;> subst h <;> simp

@[simp] theorem State.stopClocks_frame (s : State) :
    (State.stopClocks s).host = s.host ∧
    (State.stopClocks s).grp = s.grp ∧
    (State.stopClocks s).gys = s.gys ∧
    (State.stopClocks s).hst = s.hst ∧
    (State.stopClocks s).cle = s.cle ∧
    (State.stopClocks s).dr0 = s.dr0 ∧
    (State.stopClocks s).dr1 = s.dr1 ∧
    (State.stopClocks s).fio = s.fio ∧
    (State.stopClocks s).can0 = s.can0 ∧
    (State.stopClocks s).can1 = s.can1 ∧
    (State.stopClocks s).rng = s.rng ∧
    (State.stopClocks s).dsp = s.dsp ∧
    (State.stopClocks s).rtc = s.rtc ∧
    (State.stopClocks s).pending = s.pending := by
  generalize h : State.stopClocks s = t
  unfold State.stopClocks at h
  try dsimp only at h
  (repeat' split at h) <;> subst h <;> simp

@[simp] theorem State.latchSource_frame (s : State) (src : Nat) :
    (State.latchSource s src).lmp = s.lmp ∧
    (State.latchSource s src).host = s.host ∧
    (State.latchSource s src).dir = s.dir ∧
    (State.latchSource s src).grp = s.grp ∧
    (State.latchSource s src).gys = s.gys ∧
    (State.latchSource s src).hst = s.hst ∧
    (State.latchSource s src).cle = s.cle ∧
    (State.latchSource s src).dr0 = s.dr0 ∧
    (State.latchSource s src).dr1 = s.dr1 ∧
    (State.latchSource s src).saf = s.saf ∧
    (State.latchSource s src).fio = s.fio ∧
    (State.latchSource s src).can0 = s.can0 ∧
    (State.latchSource s src).can1 = s.can1 ∧
    (State.latchSource s src).rng = s.rng ∧
    (State.latchSource s src).dsp = s.dsp ∧
    (State.latchSource s src).shf = s.shf ∧
    (State.latchSource s src).tph = s.tph ∧
    (State.latchSource s src).rtc = s.rtc ∧
    (State.latchSource s src).sec = s.sec ∧
    (State.latchSource s src).pending = s.pending := by
  generalize h : State.latchSource s src = t
  unfold State.latchSource at h
  try dsimp only at h
  (repeat' split at h) <;> subst h <;> simp

@[simp] theorem State.dormantMove_frame (s : State) (edges : Int) :
    (State.dormantMove s edges).lmp = s.lmp ∧
    (State.dormantMove s edges).host = s.host ∧
    (State.dormantMove s edges).grp = s.grp ∧
    (State.dormantMove s edges).gys = s.gys ∧
    (State.dormantMove s edges).hst = s.hst ∧
    (State.dormantMove s edges).cle = s.cle ∧
    (State.dormantMove s edges).dr0 = s.dr0 ∧
    (State.dormantMove s edges).dr1 = s.dr1 ∧
    (State.dormantMove s edges).saf = s.saf ∧
    (State.dormantMove s edges).fio = s.fio ∧
    (State.dormantMove s edges).can0 = s.can0 ∧
    (State.dormantMove s edges).can1 = s.can1 ∧
    (State.dormantMove s edges).rng = s.rng ∧
    (State.dormantMove s edges).dsp = s.dsp ∧
    (State.dormantMove s edges).shf = s.shf ∧
    (State.dormantMove s edges).rtc = s.rtc ∧
    (State.dormantMove s edges).pending = s.pending := by
  generalize h : State.dormantMove s edges = t
  unfold State.dormantMove at h
  try dsimp only at h
  (repeat' split at h) <;> subst h <;> simp

@[simp] theorem State.wakeEdges_frame (s : State) (v at_ : Nat) :
    (State.wakeEdges s v at_).pwr = s.pwr ∧
    (State.wakeEdges s v at_).lmp = s.lmp ∧
    (State.wakeEdges s v at_).host = s.host ∧
    (State.wakeEdges s v at_).dir = s.dir ∧
    (State.wakeEdges s v at_).grp = s.grp ∧
    (State.wakeEdges s v at_).gys = s.gys ∧
    (State.wakeEdges s v at_).hst = s.hst ∧
    (State.wakeEdges s v at_).cle = s.cle ∧
    (State.wakeEdges s v at_).dr0 = s.dr0 ∧
    (State.wakeEdges s v at_).dr1 = s.dr1 ∧
    (State.wakeEdges s v at_).saf = s.saf ∧
    (State.wakeEdges s v at_).can0 = s.can0 ∧
    (State.wakeEdges s v at_).can1 = s.can1 ∧
    (State.wakeEdges s v at_).rng = s.rng ∧
    (State.wakeEdges s v at_).dsp = s.dsp ∧
    (State.wakeEdges s v at_).shf = s.shf ∧
    (State.wakeEdges s v at_).tph = s.tph ∧
    (State.wakeEdges s v at_).rtc = s.rtc ∧
    (State.wakeEdges s v at_).sec = s.sec ∧
    (State.wakeEdges s v at_).pending = s.pending := by
  generalize h : State.wakeEdges s v at_ = t
  unfold State.wakeEdges at h
  try dsimp only at h
  (repeat' split at h) <;> subst h <;> simp

@[simp] theorem State.canWake_frame (s : State) (b : Nat) :
    (State.canWake s b).pwr = s.pwr ∧
    (State.canWake s b).lmp = s.lmp ∧
    (State.canWake s b).host = s.host ∧
    (State.canWake s b).dir = s.dir ∧
    (State.canWake s b).grp = s.grp ∧
    (State.canWake s b).gys = s.gys ∧
    (State.canWake s b).hst = s.hst ∧
    (State.canWake s b).cle = s.cle ∧
    (State.canWake s b).dr0 = s.dr0 ∧
    (State.canWake s b).dr1 = s.dr1 ∧
    (State.canWake s b).saf = s.saf ∧
    (State.canWake s b).fio = s.fio ∧
    (State.canWake s b).rng = s.rng ∧
    (State.canWake s b).dsp = s.dsp ∧
    (State.canWake s b).shf = s.shf ∧
    (State.canWake s b).tph = s.tph ∧
    (State.canWake s b).rtc = s.rtc ∧
    (State.canWake s b).sec = s.sec ∧
    (State.canWake s b).pending = s.pending := by
  generalize h : State.canWake s b = t
  unfold State.canWake at h
  try dsimp only at h
  (repeat' split at h) <;> subst h <;> simp

@[simp] theorem State.startClocks_frame (s : State) :
    (State.startClocks s).lmp = s.lmp ∧
    (State.startClocks s).host = s.host ∧
    (State.startClocks s).grp = s.grp ∧
    (State.startClocks s).hst = s.hst ∧
    (State.startClocks s).saf = s.saf ∧
    (State.startClocks s).rng = s.rng ∧
    (State.startClocks s).dsp = s.dsp ∧
    (State.startClocks s).shf = s.shf ∧
    (State.startClocks s).pending = s.pending := by
  generalize h : State.startClocks s = t
  unfold State.startClocks at h
  try dsimp only at h
  (repeat' split at h) <;> subst h <;> simp

end Sys2Proof.Machine
end

