-- ==== Sys2Proof/Laws/FrPower.lean ====
section
/-!
SUPPORT. For each operation of Machine/Power.lean on the device, the blocks it leaves as they were.
-/
namespace Sys2Proof.Machine
set_option linter.unusedTactic false
set_option linter.unnecessarySeqFocus false
set_option linter.unreachableTactic false
set_option linter.unusedSimpArgs false
set_option linter.unusedVariables false

@[simp] theorem State.noteVin_frame (s : State) (mV : Nat) :
    (State.noteVin s mV).pwr = s.pwr ∧
    (State.noteVin s mV).lmp = s.lmp ∧
    (State.noteVin s mV).host = s.host ∧
    (State.noteVin s mV).grp = s.grp ∧
    (State.noteVin s mV).gys = s.gys ∧
    (State.noteVin s mV).hst = s.hst ∧
    (State.noteVin s mV).cle = s.cle ∧
    (State.noteVin s mV).dr0 = s.dr0 ∧
    (State.noteVin s mV).dr1 = s.dr1 ∧
    (State.noteVin s mV).saf = s.saf ∧
    (State.noteVin s mV).fio = s.fio ∧
    (State.noteVin s mV).can0 = s.can0 ∧
    (State.noteVin s mV).can1 = s.can1 ∧
    (State.noteVin s mV).rng = s.rng ∧
    (State.noteVin s mV).dsp = s.dsp ∧
    (State.noteVin s mV).shf = s.shf ∧
    (State.noteVin s mV).tph = s.tph ∧
    (State.noteVin s mV).rtc = s.rtc ∧
    (State.noteVin s mV).pending = s.pending := by
  generalize h : State.noteVin s mV = t
  unfold State.noteVin at h
  try dsimp only at h
  (repeat' split at h) <;> subst h <;> simp

@[simp] theorem State.noteTdie_frame (s : State) (t : Int) :
    (State.noteTdie s t).pwr = s.pwr ∧
    (State.noteTdie s t).lmp = s.lmp ∧
    (State.noteTdie s t).host = s.host ∧
    (State.noteTdie s t).grp = s.grp ∧
    (State.noteTdie s t).gys = s.gys ∧
    (State.noteTdie s t).hst = s.hst ∧
    (State.noteTdie s t).cle = s.cle ∧
    (State.noteTdie s t).dr0 = s.dr0 ∧
    (State.noteTdie s t).dr1 = s.dr1 ∧
    (State.noteTdie s t).saf = s.saf ∧
    (State.noteTdie s t).fio = s.fio ∧
    (State.noteTdie s t).can0 = s.can0 ∧
    (State.noteTdie s t).can1 = s.can1 ∧
    (State.noteTdie s t).rng = s.rng ∧
    (State.noteTdie s t).dsp = s.dsp ∧
    (State.noteTdie s t).shf = s.shf ∧
    (State.noteTdie s t).tph = s.tph ∧
    (State.noteTdie s t).rtc = s.rtc ∧
    (State.noteTdie s t).pending = s.pending := by
  generalize h : State.noteTdie s t = t
  unfold State.noteTdie at h
  try dsimp only at h
  (repeat' split at h) <;> subst h <;> simp

@[simp] theorem State.sagOff_frame (s : State) :
    (State.sagOff s).lmp = s.lmp ∧
    (State.sagOff s).host = s.host ∧
    (State.sagOff s).grp = s.grp ∧
    (State.sagOff s).can0 = s.can0 ∧
    (State.sagOff s).can1 = s.can1 ∧
    (State.sagOff s).rng = s.rng ∧
    (State.sagOff s).dsp = s.dsp ∧
    (State.sagOff s).shf = s.shf ∧
    (State.sagOff s).rtc = s.rtc ∧
    (State.sagOff s).pending = s.pending := by
  generalize h : State.sagOff s = t
  unfold State.sagOff at h
  try dsimp only at h
  (repeat' split at h) <;> subst h <;> simp

@[simp] theorem State.aonLost_frame (s : State) :
    (State.aonLost s).lmp = s.lmp ∧
    (State.aonLost s).host = s.host ∧
    (State.aonLost s).dir = s.dir ∧
    (State.aonLost s).grp = s.grp ∧
    (State.aonLost s).gys = s.gys ∧
    (State.aonLost s).hst = s.hst ∧
    (State.aonLost s).cle = s.cle ∧
    (State.aonLost s).dr0 = s.dr0 ∧
    (State.aonLost s).dr1 = s.dr1 ∧
    (State.aonLost s).saf = s.saf ∧
    (State.aonLost s).fio = s.fio ∧
    (State.aonLost s).can0 = s.can0 ∧
    (State.aonLost s).can1 = s.can1 ∧
    (State.aonLost s).rng = s.rng ∧
    (State.aonLost s).dsp = s.dsp ∧
    (State.aonLost s).shf = s.shf ∧
    (State.aonLost s).tph = s.tph ∧
    (State.aonLost s).sec = s.sec ∧
    (State.aonLost s).pending = s.pending := by
  generalize h : State.aonLost s = t
  unfold State.aonLost at h
  try dsimp only at h
  (repeat' split at h) <;> subst h <;> simp

@[simp] theorem State.measureCell_frame (s : State) (mV : Nat) :
    (State.measureCell s mV).pwr = s.pwr ∧
    (State.measureCell s mV).lmp = s.lmp ∧
    (State.measureCell s mV).host = s.host ∧
    (State.measureCell s mV).grp = s.grp ∧
    (State.measureCell s mV).gys = s.gys ∧
    (State.measureCell s mV).hst = s.hst ∧
    (State.measureCell s mV).cle = s.cle ∧
    (State.measureCell s mV).dr0 = s.dr0 ∧
    (State.measureCell s mV).dr1 = s.dr1 ∧
    (State.measureCell s mV).saf = s.saf ∧
    (State.measureCell s mV).fio = s.fio ∧
    (State.measureCell s mV).can0 = s.can0 ∧
    (State.measureCell s mV).can1 = s.can1 ∧
    (State.measureCell s mV).rng = s.rng ∧
    (State.measureCell s mV).dsp = s.dsp ∧
    (State.measureCell s mV).shf = s.shf ∧
    (State.measureCell s mV).rtc = s.rtc ∧
    (State.measureCell s mV).pending = s.pending := by
  generalize h : State.measureCell s mV = t
  unfold State.measureCell at h
  try dsimp only at h
  (repeat' split at h) <;> subst h <;> simp

@[simp] theorem State.settleGroups_pwr (s : State) : (State.settleGroups s).pwr = s.pwr := by
  unfold State.settleGroups; (repeat' split) <;> first | (simp; done) | ((try dsimp only); rw [foldl_pwr] <;> (try intro s x) <;> (repeat' split) <;> simp; done)

@[simp] theorem State.settleGroups_lmp (s : State) : (State.settleGroups s).lmp = s.lmp := by
  unfold State.settleGroups; (repeat' split) <;> first | (simp; done) | ((try dsimp only); rw [foldl_lmp] <;> (try intro s x) <;> (repeat' split) <;> simp; done)

@[simp] theorem State.settleGroups_pending (s : State) : (State.settleGroups s).pending = s.pending := by
  unfold State.settleGroups; (repeat' split) <;> first | (simp; done) | ((try dsimp only); rw [foldl_pending] <;> (try intro s x) <;> (repeat' split) <;> simp; done)

@[simp] theorem State.beginStart__frame (s : State) (bootsel : Bool) :
    (State.beginStart_ s bootsel).lmp = s.lmp ∧
    (State.beginStart_ s bootsel).host = s.host ∧
    (State.beginStart_ s bootsel).dir = s.dir ∧
    (State.beginStart_ s bootsel).grp = s.grp ∧
    (State.beginStart_ s bootsel).gys = s.gys ∧
    (State.beginStart_ s bootsel).hst = s.hst ∧
    (State.beginStart_ s bootsel).cle = s.cle ∧
    (State.beginStart_ s bootsel).dr0 = s.dr0 ∧
    (State.beginStart_ s bootsel).dr1 = s.dr1 ∧
    (State.beginStart_ s bootsel).saf = s.saf ∧
    (State.beginStart_ s bootsel).fio = s.fio ∧
    (State.beginStart_ s bootsel).can0 = s.can0 ∧
    (State.beginStart_ s bootsel).can1 = s.can1 ∧
    (State.beginStart_ s bootsel).rng = s.rng ∧
    (State.beginStart_ s bootsel).dsp = s.dsp ∧
    (State.beginStart_ s bootsel).shf = s.shf ∧
    (State.beginStart_ s bootsel).tph = s.tph ∧
    (State.beginStart_ s bootsel).sec = s.sec ∧
    (State.beginStart_ s bootsel).pending = s.pending := by
  generalize h : State.beginStart_ s bootsel = t
  unfold State.beginStart_ at h
  try dsimp only at h
  (repeat' split at h) <;> subst h <;> simp

@[simp] theorem State.gysResume_frame (s : State) :
    (State.gysResume s).pwr = s.pwr ∧
    (State.gysResume s).lmp = s.lmp ∧
    (State.gysResume s).host = s.host ∧
    (State.gysResume s).grp = s.grp ∧
    (State.gysResume s).hst = s.hst ∧
    (State.gysResume s).cle = s.cle ∧
    (State.gysResume s).dr0 = s.dr0 ∧
    (State.gysResume s).dr1 = s.dr1 ∧
    (State.gysResume s).saf = s.saf ∧
    (State.gysResume s).fio = s.fio ∧
    (State.gysResume s).can0 = s.can0 ∧
    (State.gysResume s).can1 = s.can1 ∧
    (State.gysResume s).rng = s.rng ∧
    (State.gysResume s).dsp = s.dsp ∧
    (State.gysResume s).shf = s.shf ∧
    (State.gysResume s).rtc = s.rtc ∧
    (State.gysResume s).pending = s.pending := by
  generalize h : State.gysResume s = t
  unfold State.gysResume at h
  try dsimp only at h
  (repeat' split at h) <;> subst h <;> simp

@[simp] theorem State.emitStart_frame (s : State) :
    (State.emitStart s).lmp = s.lmp ∧
    (State.emitStart s).host = s.host ∧
    (State.emitStart s).grp = s.grp ∧
    (State.emitStart s).gys = s.gys ∧
    (State.emitStart s).hst = s.hst ∧
    (State.emitStart s).cle = s.cle ∧
    (State.emitStart s).dr0 = s.dr0 ∧
    (State.emitStart s).dr1 = s.dr1 ∧
    (State.emitStart s).saf = s.saf ∧
    (State.emitStart s).fio = s.fio ∧
    (State.emitStart s).can0 = s.can0 ∧
    (State.emitStart s).can1 = s.can1 ∧
    (State.emitStart s).rng = s.rng ∧
    (State.emitStart s).dsp = s.dsp ∧
    (State.emitStart s).shf = s.shf ∧
    (State.emitStart s).rtc = s.rtc ∧
    (State.emitStart s).pending = s.pending := by
  generalize h : State.emitStart s = t
  unfold State.emitStart at h
  try dsimp only at h
  (repeat' split at h) <;> subst h <;> simp

@[simp] theorem State.hstStart_frame (s : State) (pos : Int) :
    (State.hstStart s pos).pwr = s.pwr ∧
    (State.hstStart s pos).lmp = s.lmp ∧
    (State.hstStart s pos).host = s.host ∧
    (State.hstStart s pos).grp = s.grp ∧
    (State.hstStart s pos).gys = s.gys ∧
    (State.hstStart s pos).cle = s.cle ∧
    (State.hstStart s pos).dr0 = s.dr0 ∧
    (State.hstStart s pos).dr1 = s.dr1 ∧
    (State.hstStart s pos).saf = s.saf ∧
    (State.hstStart s pos).fio = s.fio ∧
    (State.hstStart s pos).can0 = s.can0 ∧
    (State.hstStart s pos).can1 = s.can1 ∧
    (State.hstStart s pos).rng = s.rng ∧
    (State.hstStart s pos).dsp = s.dsp ∧
    (State.hstStart s pos).shf = s.shf ∧
    (State.hstStart s pos).rtc = s.rtc ∧
    (State.hstStart s pos).pending = s.pending := by
  generalize h : State.hstStart s pos = t
  unfold State.hstStart at h
  try dsimp only at h
  (repeat' split at h) <;> subst h <;> simp

@[simp] theorem State.loadStore_frame (s : State) (repaired lost : List Nat) (cal : Nat) :
    (State.loadStore s repaired lost cal).lmp = s.lmp ∧
    (State.loadStore s repaired lost cal).host = s.host ∧
    (State.loadStore s repaired lost cal).grp = s.grp ∧
    (State.loadStore s repaired lost cal).gys = s.gys ∧
    (State.loadStore s repaired lost cal).hst = s.hst ∧
    (State.loadStore s repaired lost cal).cle = s.cle ∧
    (State.loadStore s repaired lost cal).dr0 = s.dr0 ∧
    (State.loadStore s repaired lost cal).dr1 = s.dr1 ∧
    (State.loadStore s repaired lost cal).saf = s.saf ∧
    (State.loadStore s repaired lost cal).fio = s.fio ∧
    (State.loadStore s repaired lost cal).can0 = s.can0 ∧
    (State.loadStore s repaired lost cal).can1 = s.can1 ∧
    (State.loadStore s repaired lost cal).rng = s.rng ∧
    (State.loadStore s repaired lost cal).dsp = s.dsp ∧
    (State.loadStore s repaired lost cal).shf = s.shf ∧
    (State.loadStore s repaired lost cal).rtc = s.rtc ∧
    (State.loadStore s repaired lost cal).pending = s.pending := by
  generalize h : State.loadStore s repaired lost cal = t
  unfold State.loadStore at h
  try dsimp only at h
  (repeat' split at h) <;> subst h <;> simp

@[simp] theorem State.loseSlots_frame (s : State) (seqs : List Nat) :
    (State.loseSlots s seqs).pwr = s.pwr ∧
    (State.loseSlots s seqs).lmp = s.lmp ∧
    (State.loseSlots s seqs).host = s.host ∧
    (State.loseSlots s seqs).grp = s.grp ∧
    (State.loseSlots s seqs).gys = s.gys ∧
    (State.loseSlots s seqs).hst = s.hst ∧
    (State.loseSlots s seqs).cle = s.cle ∧
    (State.loseSlots s seqs).dr0 = s.dr0 ∧
    (State.loseSlots s seqs).dr1 = s.dr1 ∧
    (State.loseSlots s seqs).saf = s.saf ∧
    (State.loseSlots s seqs).fio = s.fio ∧
    (State.loseSlots s seqs).can0 = s.can0 ∧
    (State.loseSlots s seqs).can1 = s.can1 ∧
    (State.loseSlots s seqs).rng = s.rng ∧
    (State.loseSlots s seqs).dsp = s.dsp ∧
    (State.loseSlots s seqs).shf = s.shf ∧
    (State.loseSlots s seqs).rtc = s.rtc ∧
    (State.loseSlots s seqs).pending = s.pending := by
  generalize h : State.loseSlots s seqs = t
  unfold State.loseSlots at h
  try dsimp only at h
  (repeat' split at h) <;> subst h <;> simp

@[simp] theorem State.rtcStart_frame (s : State) :
    (State.rtcStart s).pwr = s.pwr ∧
    (State.rtcStart s).lmp = s.lmp ∧
    (State.rtcStart s).host = s.host ∧
    (State.rtcStart s).grp = s.grp ∧
    (State.rtcStart s).gys = s.gys ∧
    (State.rtcStart s).hst = s.hst ∧
    (State.rtcStart s).cle = s.cle ∧
    (State.rtcStart s).dr0 = s.dr0 ∧
    (State.rtcStart s).dr1 = s.dr1 ∧
    (State.rtcStart s).saf = s.saf ∧
    (State.rtcStart s).fio = s.fio ∧
    (State.rtcStart s).can0 = s.can0 ∧
    (State.rtcStart s).can1 = s.can1 ∧
    (State.rtcStart s).rng = s.rng ∧
    (State.rtcStart s).dsp = s.dsp ∧
    (State.rtcStart s).shf = s.shf ∧
    (State.rtcStart s).pending = s.pending := by
  generalize h : State.rtcStart s = t
  unfold State.rtcStart at h
  try dsimp only at h
  (repeat' split at h) <;> subst h <;> simp

@[simp] theorem State.bootFrom_frame (s : State) (k : Nat) :
    (State.bootFrom s k).pwr = s.pwr ∧
    (State.bootFrom s k).lmp = s.lmp ∧
    (State.bootFrom s k).host = s.host ∧
    (State.bootFrom s k).grp = s.grp ∧
    (State.bootFrom s k).gys = s.gys ∧
    (State.bootFrom s k).hst = s.hst ∧
    (State.bootFrom s k).cle = s.cle ∧
    (State.bootFrom s k).dr0 = s.dr0 ∧
    (State.bootFrom s k).dr1 = s.dr1 ∧
    (State.bootFrom s k).saf = s.saf ∧
    (State.bootFrom s k).fio = s.fio ∧
    (State.bootFrom s k).can0 = s.can0 ∧
    (State.bootFrom s k).can1 = s.can1 ∧
    (State.bootFrom s k).rng = s.rng ∧
    (State.bootFrom s k).dsp = s.dsp ∧
    (State.bootFrom s k).shf = s.shf ∧
    (State.bootFrom s k).rtc = s.rtc ∧
    (State.bootFrom s k).pending = s.pending := by
  generalize h : State.bootFrom s k = t
  unfold State.bootFrom at h
  try dsimp only at h
  (repeat' split at h) <;> subst h <;> simp

@[simp] theorem State.startRun_frame (s : State) (pos : Int) :
    (State.startRun s pos).lmp = s.lmp ∧
    (State.startRun s pos).host = s.host ∧
    (State.startRun s pos).grp = s.grp ∧
    (State.startRun s pos).cle = s.cle ∧
    (State.startRun s pos).dr0 = s.dr0 ∧
    (State.startRun s pos).dr1 = s.dr1 ∧
    (State.startRun s pos).fio = s.fio ∧
    (State.startRun s pos).dsp = s.dsp ∧
    (State.startRun s pos).pending = s.pending := by
  generalize h : State.startRun s pos = t
  unfold State.startRun at h
  try dsimp only at h
  (repeat' split at h) <;> subst h <;> simp

end Sys2Proof.Machine
end

