-- ==== Sys2Proof/Laws/FrLmp.lean ====
section
/-!
SUPPORT. For each operation of Machine/Lmp.lean on the device, the blocks it leaves as they were.
-/
namespace Sys2Proof.Machine
set_option linter.unusedTactic false
set_option linter.unnecessarySeqFocus false
set_option linter.unreachableTactic false
set_option linter.unusedSimpArgs false
set_option linter.unusedVariables false

@[simp] theorem State.endOp_frame (s : State) (f : Flight) (st : Status) :
    (State.endOp s f st).lmp = s.lmp ∧
    (State.endOp s f st).cle = s.cle ∧
    (State.endOp s f st).fio = s.fio ∧
    (State.endOp s f st).can0 = s.can0 ∧
    (State.endOp s f st).can1 = s.can1 ∧
    (State.endOp s f st).rtc = s.rtc ∧
    (State.endOp s f st).pending = s.pending := by
  generalize h : State.endOp s f st = t
  unfold State.endOp at h
  try dsimp only at h
  (repeat' split at h) <;> subst h <;> simp

@[simp] theorem State.strandedOp_frame (s : State) (f : Flight) :
    (State.strandedOp s f).lmp = s.lmp ∧
    (State.strandedOp s f).cle = s.cle ∧
    (State.strandedOp s f).fio = s.fio ∧
    (State.strandedOp s f).can0 = s.can0 ∧
    (State.strandedOp s f).can1 = s.can1 ∧
    (State.strandedOp s f).rtc = s.rtc ∧
    (State.strandedOp s f).pending = s.pending := by
  generalize h : State.strandedOp s f = t
  unfold State.strandedOp at h
  try dsimp only at h
  (repeat' split at h) <;> subst h <;> simp

@[simp] theorem State.fwFallBack_frame (s : State) :
    (State.fwFallBack s).pwr = s.pwr ∧
    (State.fwFallBack s).lmp = s.lmp ∧
    (State.fwFallBack s).host = s.host ∧
    (State.fwFallBack s).grp = s.grp ∧
    (State.fwFallBack s).gys = s.gys ∧
    (State.fwFallBack s).hst = s.hst ∧
    (State.fwFallBack s).cle = s.cle ∧
    (State.fwFallBack s).dr0 = s.dr0 ∧
    (State.fwFallBack s).dr1 = s.dr1 ∧
    (State.fwFallBack s).saf = s.saf ∧
    (State.fwFallBack s).fio = s.fio ∧
    (State.fwFallBack s).can0 = s.can0 ∧
    (State.fwFallBack s).can1 = s.can1 ∧
    (State.fwFallBack s).rng = s.rng ∧
    (State.fwFallBack s).dsp = s.dsp ∧
    (State.fwFallBack s).shf = s.shf ∧
    (State.fwFallBack s).rtc = s.rtc ∧
    (State.fwFallBack s).pending = s.pending := by
  generalize h : State.fwFallBack s = t
  unfold State.fwFallBack at h
  try dsimp only at h
  (repeat' split at h) <;> subst h <;> simp

@[simp] theorem State.lmpFault_frame (s : State) (cause : Nat) :
    (State.lmpFault s cause).pwr = s.pwr ∧
    (State.lmpFault s cause).grp = s.grp ∧
    (State.lmpFault s cause).gys = s.gys ∧
    (State.lmpFault s cause).hst = s.hst ∧
    (State.lmpFault s cause).cle = s.cle ∧
    (State.lmpFault s cause).dr0 = s.dr0 ∧
    (State.lmpFault s cause).dr1 = s.dr1 ∧
    (State.lmpFault s cause).saf = s.saf ∧
    (State.lmpFault s cause).fio = s.fio ∧
    (State.lmpFault s cause).can0 = s.can0 ∧
    (State.lmpFault s cause).can1 = s.can1 ∧
    (State.lmpFault s cause).rng = s.rng ∧
    (State.lmpFault s cause).dsp = s.dsp ∧
    (State.lmpFault s cause).shf = s.shf ∧
    (State.lmpFault s cause).rtc = s.rtc ∧
    (State.lmpFault s cause).pending = s.pending := by
  generalize h : State.lmpFault s cause = t
  unfold State.lmpFault at h
  try dsimp only at h
  (repeat' split at h) <;> subst h <;> simp

@[simp] theorem State.settleOp_frame (s : State) (cause : Nat) (f : Flight) :
    (State.settleOp s cause f).lmp = s.lmp ∧
    (State.settleOp s cause f).cle = s.cle ∧
    (State.settleOp s cause f).fio = s.fio ∧
    (State.settleOp s cause f).can0 = s.can0 ∧
    (State.settleOp s cause f).can1 = s.can1 ∧
    (State.settleOp s cause f).rtc = s.rtc ∧
    (State.settleOp s cause f).pending = s.pending := by
  generalize h : State.settleOp s cause f = t
  unfold State.settleOp at h
  try dsimp only at h
  (repeat' split at h) <;> subst h <;> simp

@[simp] theorem State.settleSlots_pwr (s : State) : s.settleSlots.pwr = s.pwr := by
  unfold State.settleSlots
  dsimp only
  rw [State.closeSessions_pwr]
  rw [foldl_pwr, foldl_pwr, foldl_pwr]
  · simp
  · intro s g
    split <;> simp
  · simp

@[simp] theorem State.settleSlots_lmp (s : State) : s.settleSlots.lmp = s.lmp := by
  unfold State.settleSlots
  dsimp only
  rw [State.closeSessions_lmp]
  rw [foldl_lmp, foldl_lmp, foldl_lmp]
  · simp
  · intro s g
    split <;> simp
  · simp

@[simp] theorem State.settleSlots_gys (s : State) : s.settleSlots.gys = s.gys := by
  unfold State.settleSlots
  dsimp only
  rw [State.closeSessions_gys]
  rw [foldl_gys, foldl_gys, foldl_gys]
  · simp
  · intro s g
    split <;> simp
  · simp

@[simp] theorem State.settleSlots_hst (s : State) : s.settleSlots.hst = s.hst := by
  unfold State.settleSlots
  dsimp only
  rw [State.closeSessions_hst]
  rw [foldl_hst, foldl_hst, foldl_hst]
  · simp
  · intro s g
    split <;> simp
  · simp

@[simp] theorem State.settleSlots_cle (s : State) : s.settleSlots.cle = s.cle := by
  unfold State.settleSlots
  dsimp only
  rw [State.closeSessions_cle]
  rw [foldl_cle, foldl_cle, foldl_cle]
  · simp
  · intro s g
    split <;> simp
  · simp

@[simp] theorem State.settleSlots_dr0 (s : State) : s.settleSlots.dr0 = s.dr0 := by
  unfold State.settleSlots
  dsimp only
  rw [State.closeSessions_dr0]
  rw [foldl_dr0, foldl_dr0, foldl_dr0]
  · simp
  · intro s g
    split <;> simp
  · simp

@[simp] theorem State.settleSlots_dr1 (s : State) : s.settleSlots.dr1 = s.dr1 := by
  unfold State.settleSlots
  dsimp only
  rw [State.closeSessions_dr1]
  rw [foldl_dr1, foldl_dr1, foldl_dr1]
  · simp
  · intro s g
    split <;> simp
  · simp

@[simp] theorem State.settleSlots_fio (s : State) : s.settleSlots.fio = s.fio := by
  unfold State.settleSlots
  dsimp only
  rw [State.closeSessions_fio]
  rw [foldl_fio, foldl_fio, foldl_fio]
  · simp
  · intro s g
    split <;> simp
  · simp

@[simp] theorem State.settleSlots_can0 (s : State) : s.settleSlots.can0 = s.can0 := by
  unfold State.settleSlots
  dsimp only
  rw [State.closeSessions_can0]
  rw [foldl_can0, foldl_can0, foldl_can0]
  · simp
  · intro s g
    split <;> simp
  · simp

@[simp] theorem State.settleSlots_can1 (s : State) : s.settleSlots.can1 = s.can1 := by
  unfold State.settleSlots
  dsimp only
  rw [State.closeSessions_can1]
  rw [foldl_can1, foldl_can1, foldl_can1]
  · simp
  · intro s g
    split <;> simp
  · simp

@[simp] theorem State.settleSlots_rtc (s : State) : s.settleSlots.rtc = s.rtc := by
  unfold State.settleSlots
  dsimp only
  rw [State.closeSessions_rtc]
  rw [foldl_rtc, foldl_rtc, foldl_rtc]
  · simp
  · intro s g
    split <;> simp
  · simp

@[simp] theorem State.settleSlots_pending (s : State) : s.settleSlots.pending = s.pending := by
  unfold State.settleSlots
  dsimp only
  rw [State.closeSessions_pending]
  rw [foldl_pending, foldl_pending, foldl_pending]
  · simp
  · intro s g
    split <;> simp
  · simp


@[simp] theorem State.integrityFails_frame (s : State) (tag : Nat) :
    (State.integrityFails s tag).lmp = s.lmp ∧
    (State.integrityFails s tag).cle = s.cle ∧
    (State.integrityFails s tag).fio = s.fio ∧
    (State.integrityFails s tag).can0 = s.can0 ∧
    (State.integrityFails s tag).can1 = s.can1 ∧
    (State.integrityFails s tag).rtc = s.rtc ∧
    (State.integrityFails s tag).pending = s.pending := by
  generalize h : State.integrityFails s tag = t
  unfold State.integrityFails at h
  try dsimp only at h
  (repeat' split at h) <;> subst h <;> simp

end Sys2Proof.Machine
end

