-- ==== Sys2Proof/Laws/FrIdle.lean ====
section
/-!
SUPPORT. For each operation of Machine/Idle.lean on the device, the blocks it leaves as they were.
-/
namespace Sys2Proof.Machine
set_option linter.unusedTactic false
set_option linter.unnecessarySeqFocus false
set_option linter.unreachableTactic false
set_option linter.unusedSimpArgs false
set_option linter.unusedVariables false

@[simp] theorem State.nrstPass_frame (s : State) :
    (State.nrstPass s).lmp = s.lmp ∧
    (State.nrstPass s).host = s.host ∧
    (State.nrstPass s).dir = s.dir ∧
    (State.nrstPass s).grp = s.grp ∧
    (State.nrstPass s).gys = s.gys ∧
    (State.nrstPass s).hst = s.hst ∧
    (State.nrstPass s).cle = s.cle ∧
    (State.nrstPass s).dr0 = s.dr0 ∧
    (State.nrstPass s).dr1 = s.dr1 ∧
    (State.nrstPass s).saf = s.saf ∧
    (State.nrstPass s).fio = s.fio ∧
    (State.nrstPass s).can0 = s.can0 ∧
    (State.nrstPass s).can1 = s.can1 ∧
    (State.nrstPass s).rng = s.rng ∧
    (State.nrstPass s).dsp = s.dsp ∧
    (State.nrstPass s).shf = s.shf ∧
    (State.nrstPass s).tph = s.tph ∧
    (State.nrstPass s).rtc = s.rtc ∧
    (State.nrstPass s).sec = s.sec ∧
    (State.nrstPass s).pending = s.pending := by
  generalize h : State.nrstPass s = t
  unfold State.nrstPass at h
  try dsimp only at h
  (repeat' split at h) <;> subst h <;> simp

@[simp] theorem State.rtcPass_frame (s : State) :
    (State.rtcPass s).pwr = s.pwr ∧
    (State.rtcPass s).lmp = s.lmp ∧
    (State.rtcPass s).host = s.host ∧
    (State.rtcPass s).dir = s.dir ∧
    (State.rtcPass s).grp = s.grp ∧
    (State.rtcPass s).gys = s.gys ∧
    (State.rtcPass s).hst = s.hst ∧
    (State.rtcPass s).cle = s.cle ∧
    (State.rtcPass s).dr0 = s.dr0 ∧
    (State.rtcPass s).dr1 = s.dr1 ∧
    (State.rtcPass s).saf = s.saf ∧
    (State.rtcPass s).fio = s.fio ∧
    (State.rtcPass s).can0 = s.can0 ∧
    (State.rtcPass s).can1 = s.can1 ∧
    (State.rtcPass s).rng = s.rng ∧
    (State.rtcPass s).dsp = s.dsp ∧
    (State.rtcPass s).shf = s.shf ∧
    (State.rtcPass s).tph = s.tph ∧
    (State.rtcPass s).sec = s.sec ∧
    (State.rtcPass s).pending = s.pending := by
  generalize h : State.rtcPass s = t
  unfold State.rtcPass at h
  try dsimp only at h
  (repeat' split at h) <;> subst h <;> simp

@[simp] theorem State.opPass_frame (s : State) :
    (State.opPass s).lmp = s.lmp ∧
    (State.opPass s).host = s.host ∧
    (State.opPass s).dir = s.dir ∧
    (State.opPass s).grp = s.grp ∧
    (State.opPass s).gys = s.gys ∧
    (State.opPass s).hst = s.hst ∧
    (State.opPass s).cle = s.cle ∧
    (State.opPass s).dr0 = s.dr0 ∧
    (State.opPass s).dr1 = s.dr1 ∧
    (State.opPass s).saf = s.saf ∧
    (State.opPass s).fio = s.fio ∧
    (State.opPass s).can0 = s.can0 ∧
    (State.opPass s).can1 = s.can1 ∧
    (State.opPass s).rng = s.rng ∧
    (State.opPass s).dsp = s.dsp ∧
    (State.opPass s).shf = s.shf ∧
    (State.opPass s).tph = s.tph ∧
    (State.opPass s).rtc = s.rtc ∧
    (State.opPass s).sec = s.sec ∧
    (State.opPass s).pending = s.pending := by
  generalize h : State.opPass s = t
  unfold State.opPass at h
  try dsimp only at h
  (repeat' split at h) <;> subst h <;> simp

@[simp] theorem State.swapPass_frame (s : State) :
    (State.swapPass s).pwr = s.pwr ∧
    (State.swapPass s).lmp = s.lmp ∧
    (State.swapPass s).host = s.host ∧
    (State.swapPass s).dir = s.dir ∧
    (State.swapPass s).grp = s.grp ∧
    (State.swapPass s).gys = s.gys ∧
    (State.swapPass s).hst = s.hst ∧
    (State.swapPass s).cle = s.cle ∧
    (State.swapPass s).dr0 = s.dr0 ∧
    (State.swapPass s).dr1 = s.dr1 ∧
    (State.swapPass s).saf = s.saf ∧
    (State.swapPass s).fio = s.fio ∧
    (State.swapPass s).can0 = s.can0 ∧
    (State.swapPass s).can1 = s.can1 ∧
    (State.swapPass s).rng = s.rng ∧
    (State.swapPass s).dsp = s.dsp ∧
    (State.swapPass s).shf = s.shf ∧
    (State.swapPass s).tph = s.tph ∧
    (State.swapPass s).rtc = s.rtc ∧
    (State.swapPass s).pending = s.pending := by
  generalize h : State.swapPass s = t
  unfold State.swapPass at h
  try dsimp only at h
  (repeat' split at h) <;> subst h <;> simp

@[simp] theorem State.ringMs_frame (s : State) :
    (State.ringMs s).pwr = s.pwr ∧
    (State.ringMs s).lmp = s.lmp ∧
    (State.ringMs s).host = s.host ∧
    (State.ringMs s).dir = s.dir ∧
    (State.ringMs s).grp = s.grp ∧
    (State.ringMs s).gys = s.gys ∧
    (State.ringMs s).hst = s.hst ∧
    (State.ringMs s).cle = s.cle ∧
    (State.ringMs s).dr0 = s.dr0 ∧
    (State.ringMs s).dr1 = s.dr1 ∧
    (State.ringMs s).saf = s.saf ∧
    (State.ringMs s).fio = s.fio ∧
    (State.ringMs s).can0 = s.can0 ∧
    (State.ringMs s).can1 = s.can1 ∧
    (State.ringMs s).dsp = s.dsp ∧
    (State.ringMs s).shf = s.shf ∧
    (State.ringMs s).tph = s.tph ∧
    (State.ringMs s).rtc = s.rtc ∧
    (State.ringMs s).sec = s.sec ∧
    (State.ringMs s).pending = s.pending := by
  generalize h : State.ringMs s = t
  unfold State.ringMs at h
  try dsimp only at h
  (repeat' split at h) <;> subst h <;> simp

@[simp] theorem State.idle_frame (s : State) :
    (State.idle s).lmp = s.lmp ∧
    (State.idle s).host = s.host ∧
    (State.idle s).dir = s.dir ∧
    (State.idle s).grp = s.grp ∧
    (State.idle s).gys = s.gys ∧
    (State.idle s).hst = s.hst ∧
    (State.idle s).cle = s.cle ∧
    (State.idle s).dr0 = s.dr0 ∧
    (State.idle s).dr1 = s.dr1 ∧
    (State.idle s).saf = s.saf ∧
    (State.idle s).fio = s.fio ∧
    (State.idle s).can0 = s.can0 ∧
    (State.idle s).can1 = s.can1 ∧
    (State.idle s).dsp = s.dsp ∧
    (State.idle s).shf = s.shf ∧
    (State.idle s).tph = s.tph ∧
    (State.idle s).pending = s.pending := by
  generalize h : State.idle s = t
  unfold State.idle at h
  try dsimp only at h
  (repeat' split at h) <;> subst h <;> simp

end Sys2Proof.Machine
end

