-- ==== Sys2Proof/Laws/Lists.lean ====
section
/-!
SUPPORT. Changing one element of a list.
-/
namespace Sys2Proof

@[simp] theorem length_modifyAt {α : Type} (xs : List α) (i : Nat) (f : α → α) : (modifyAt xs i f).length = xs.length := by
  induction xs generalizing i with
  | nil => rfl
  | cons x xs ih => cases i <;> simp [modifyAt, ih]

theorem getD_modifyAt_self {α : Type} (xs : List α) (i : Nat) (f : α → α) (d : α) (h : i < xs.length) :
    (modifyAt xs i f).getD i d = f (xs.getD i d) := by
  induction xs generalizing i with
  | nil => simp at h
  | cons x xs ih =>
    cases i with
    | zero => rfl
    | succ i =>
      have := ih i (by simpa using h)
      simpa [modifyAt] using this

theorem getD_modifyAt_ne {α : Type} (xs : List α) (i j : Nat) (f : α → α) (d : α) (h : j ≠ i) :
    (modifyAt xs i f).getD j d = xs.getD j d := by
  induction xs generalizing i j with
  | nil => rfl
  | cons x xs ih =>
    cases i with
    | zero => cases j with
      | zero => exact absurd rfl h
      | succ j => rfl
    | succ i => cases j with
      | zero => rfl
      | succ j =>
        have := ih i j (by omega)
        simpa [modifyAt] using this

theorem getD_set_self {α : Type} (xs : List α) (i : Nat) (v d : α) (h : i < xs.length) : (xs.set i v).getD i d = v := by
  simp [List.getD, h]

theorem getD_set_ne {α : Type} (xs : List α) (i j : Nat) (v d : α) (h : j ≠ i) : (xs.set i v).getD j d = xs.getD j d := by
  simp [List.getD, Ne.symm h]

end Sys2Proof
end

