-- ==== Sys2Proof/Laws/Pars.lean ====
section
/-!
SUPPORT. A parameter's value as a function of the parameter block alone: the form in which values are compared after several
operations on other blocks.
-/
namespace Sys2Proof.Machine

/-- The value of an index in a parameter block. -/
def Dir.val (d : Dir) (i : Nat) : Int := match pvFind d.live i with | some p => p.val | none => pvDefault i

theorem State.par_eq (s : State) (i : Nat) : s.par i = s.dir.val i := rfl

theorem Dir.val_setPar (s : State) (i j : Nat) (v : Int) : (s.setPar i v).dir.val j = if i = j then v else s.dir.val j :=
  State.par_setPar s i j v

theorem Dir.val_parDurable (s : State) (i j : Nat) : (s.parDurable i).dir.val j = s.dir.val j := rfl

theorem Dir.val_setOwn (s : State) (i j : Nat) (v : Int) (h : j ≠ Idx.DEV_CFGCOUNT) :
    (s.setOwn i v).dir.val j = if i = j then v else s.dir.val j := State.par_setOwn s i j v h

theorem Dir.val_setOwn' (s : State) (i j : Nat) (v : Int) (h : isConfig i = false) :
    (s.setOwn i v).dir.val j = if i = j then v else s.dir.val j := State.par_setOwn' s i j v h

theorem Dir.val_bump (s : State) (i j k : Nat) (hi : isConfig i = false) (h : j ≠ i) :
    (s.bump i k).dir.val j = s.dir.val j := State.par_bump s i j k hi h

theorem Dir.val_bumpWrap (s : State) (i j k : Nat) (hi : isConfig i = false) (h : j ≠ i) :
    (s.bumpWrap i k).dir.val j = s.dir.val j := State.par_bumpWrap s i j k hi h

theorem Dir.val_peak (s : State) (i j : Nat) (v : Int) (hi : isConfig i = false) (h : j ≠ i) :
    (s.peak i v).dir.val j = s.dir.val j := State.par_peak s i j v hi h

theorem Dir.val_raiseEvt (s : State) (e : Evt) (j : Nat) (h : j ≠ Idx.TPH_BUFDROPS) :
    (s.raiseEvt e).dir.val j = s.dir.val j := State.par_raiseEvt s e j h

theorem Dir.val_raise (s : State) (code sev inst : Nat) (data : List (Nat × Int)) (j : Nat) (h : j ≠ Idx.TPH_BUFDROPS) :
    (s.raise code sev inst data).dir.val j = s.dir.val j := State.par_raise s _ _ _ _ j h

theorem Dir.val_raiseCounted (s : State) (code sev inst : Nat) (data : List (Nat × Int)) (j : Nat) (h : j ≠ Idx.TPH_BUFDROPS) :
    (s.raiseCounted code sev inst data).dir.val j = s.dir.val j := State.par_raiseCounted s _ _ _ _ j h

theorem Dir.val_raiseNative (s : State) (code sev inst : Nat) (data : List (Nat × Int)) (j : Nat) (h : j ≠ Idx.TPH_BUFDROPS) :
    (s.raiseNative code sev inst data).dir.val j = s.dir.val j := State.par_raiseNative s _ _ _ _ j h

theorem Dir.val_enter (s : State) (new : DevState) (cause j : Nat) (h : j ≠ Idx.TPH_BUFDROPS) :
    (s.enter new cause).dir.val j = s.dir.val j := State.par_raise s _ _ _ _ j h

@[simp] theorem Dir.val_raiseAtStart (s : State) (code sev inst : Nat) (data : List (Nat × Int)) (j : Nat) :
    (s.raiseAtStart code sev inst data).dir.val j = s.dir.val j := rfl

@[simp] theorem State.sec_enter (s : State) (new : DevState) (cause : Nat) : (s.enter new cause).sec = s.sec :=
  State.sec_raise s _ _ _ _

@[simp] theorem State.tables_enter (s : State) (new : DevState) (cause : Nat) :
    (s.enter new cause).dir.tables = s.dir.tables := State.tables_raise s _ _ _ _

theorem State.RecorderKept.enter {s t : State} (h : s.RecorderKept t) (new : DevState) (cause : Nat) :
    s.RecorderKept (t.enter new cause) := (h.raise _ _ _ _).congr rfl

end Sys2Proof.Machine
end

