-- ==== Sys2Proof/Laws/Host.lean ====
section
/-!
SUPPORT. The form of a meaning, the host slots, and the one completion of a command.
-/
namespace Sys2Proof.Machine

/-- A meaning whose condition holds answers its effect. -/
theorem occurs_pos {c : Bool} {s t : State} (h : c = true) : occurs c s t = .next t := by simp [occurs, h]

/-- Where the condition does not hold nothing changes. -/
theorem occurs_neg {c : Bool} {s t : State} (h : c = false) : occurs c s t = .next s := by simp [occurs, h]

@[simp] theorem State.slot_host (s : State) (x : HostBlk) (k : Nat) : State.slot { s with host := x } k = x.slots.getD k {} := rfl

theorem State.slot_modSlot_self (s : State) (h : Nat) (f : Slot → Slot) (hl : h < s.host.slots.length) :
    (s.modSlot h f).slot h = f (s.slot h) := getD_modifyAt_self _ _ _ _ hl

theorem State.slot_modSlot_ne (s : State) (h k : Nat) (f : Slot → Slot) (hk : k ≠ h) : (s.modSlot h f).slot k = s.slot k :=
  getD_modifyAt_ne _ _ _ _ _ hk

/-- A changed slot changes nothing but the slots. -/
theorem State.modSlot_host (s : State) (h : Nat) (f : Slot → Slot) :
    (s.modSlot h f).host = { s.host with slots := (s.modSlot h f).host.slots } := rfl

@[simp] theorem State.length_modSlot (s : State) (h : Nat) (f : Slot → Slot) :
    (s.modSlot h f).host.slots.length = s.host.slots.length := length_modifyAt _ _ _

/-- The command a tag names has that tag. -/
theorem State.tag_of_hostReady {s : State} {tag op : Nat} (h : s.hostReady tag op = true) :
    (s.flight tag).d.tag = tag ∧ (s.flight tag).d.opcode = op ∧ (s.flight tag).phase = .taken ∧ s.flight? tag = some (s.flight tag) := by
  unfold State.hostReady at h
  cases hf : s.flight? tag with
  | none => simp [hf] at h
  | some f =>
    have h1 : f.d.tag = tag := by
      have := List.find?_some hf
      simpa using this
    simp only [hf, Bool.and_eq_true, beq_iff_eq] at h
    have : s.flight tag = f := by simp [State.flight, hf]
    rw [this]
    exact ⟨h1, h.2.1.2, by simpa using h.2.1.1, rfl⟩

/-- Admission lets a command through to its own effect. -/
theorem State.hostCmd_of_admitted {s : State} {tag op need : Nat} (h : s.Admitted tag op need) (k : State → Flight → State) :
    s.hostCmd tag need k = k (s.noteSeq (s.flight tag)) (s.flight tag) := by
  simp [State.hostCmd, h.2]

/-- A command that completes with its effect leaves one completion and is in flight no more. -/
theorem State.completed_complete (s u : State) (tag op : Nat) (st : Status) (detail : Nat) (payload : List Byte)
    (committed after : Bool) (h : s.hostReady tag op = true) (hu : u.host.store = s.host.store) :
    s.Completed (u.complete (s.flight tag) st detail payload committed after) tag st := by
  refine ⟨⟨completionOf (s.flight tag).d st detail payload (committed || (s.flight tag).phase.committed)
    (after || (s.flight tag).after), by simp [State.complete, hu], (tag_of_hostReady h).1, rfl⟩, ?_⟩
  intro f hf
  simp only [State.complete, dropTag, List.mem_filter] at hf
  rw [(tag_of_hostReady h).1] at hf
  simpa using hf.2

@[simp] theorem State.par_modSlot (s : State) (h : Nat) (f : Slot → Slot) (j : Nat) : (s.modSlot h f).par j = s.par j := rfl
@[simp] theorem State.par_noteSeq (s : State) (f : Flight) (j : Nat) : (s.noteSeq f).par j = s.par j := rfl
@[simp] theorem State.par_complete (s : State) (f : Flight) (st : Status) (d : Nat) (p : List Byte) (c a : Bool) (j : Nat) :
    (s.complete f st d p c a).par j = s.par j := rfl
@[simp] theorem State.store_noteSeq (s : State) (f : Flight) : (s.noteSeq f).host.store = s.host.store := rfl
@[simp] theorem State.ops_noteSeq (s : State) (f : Flight) : (s.noteSeq f).host.ops = s.host.ops := rfl
@[simp] theorem State.store_modSlot (s : State) (h : Nat) (f : Slot → Slot) : (s.modSlot h f).host.store = s.host.store := rfl
@[simp] theorem State.ops_modSlot (s : State) (h : Nat) (f : Slot → Slot) : (s.modSlot h f).host.ops = s.host.ops := rfl

end Sys2Proof.Machine
end

