-- ==== Sys2Proof/Laws/Memory.lean ====
section
/-!
SUPPORT. The laws of sparse memory: a read after a write, and every operation keeps the canonical form.
-/
namespace Sys2Proof.Machine

/-- Every listed address lies above `k`. -/
def memAbove (k : Nat) (m : Mem) : Prop := ∀ c ∈ m, k < c.1

theorem memAbove_nil (k : Nat) : memAbove k [] := fun _ h => nomatch h

theorem memAbove_cons {k a : Nat} {v : Byte} {m : Mem} : memAbove k ((a, v) :: m) ↔ k < a ∧ memAbove k m := by
  simp [memAbove]

theorem memAbove_mono {k l : Nat} {m : Mem} (h : memAbove l m) (hk : k ≤ l) : memAbove k m :=
  fun c hc => Nat.lt_of_le_of_lt hk (h c hc)

/-- The canonical form of a list with a first entry. -/
theorem memWf_cons (d : Nat → Byte) (k : Nat) (v : Byte) (m : Mem) :
    memWf d ((k, v) :: m) = true ↔ v ≠ d k ∧ memAbove k m ∧ memWf d m = true := by
  induction m generalizing k v with
  | nil => simp [memWf, memAbove_nil]
  | cons c m ih =>
    obtain ⟨a, w⟩ := c
    simp only [memWf, Bool.and_eq_true, bne_iff_ne, decide_eq_true_eq, ih a w, memAbove_cons, ne_eq]
    constructor
    · rintro ⟨⟨h1, h2⟩, h3, h4, h5⟩
      exact ⟨h1, ⟨h2, memAbove_mono h4 (Nat.le_of_lt h2)⟩, h3, h4, h5⟩
    · rintro ⟨h1, ⟨h2, _⟩, h3, h4, h5⟩
      exact ⟨⟨h1, h2⟩, h3, h4, h5⟩

/-- A write puts no entry below what the list and the address allow. -/
theorem memAbove_memWrite {d : Nat → Byte} {k a : Nat} {v : Byte} {m : Mem} (h : memAbove k m) (ha : k < a) :
    memAbove k (memWrite d m a v) := by
  induction m with
  | nil =>
    unfold memWrite
    split
    · exact memAbove_nil k
    · exact memAbove_cons.2 ⟨ha, memAbove_nil k⟩
  | cons c m ih =>
    obtain ⟨b, w⟩ := c
    rw [memAbove_cons] at h
    unfold memWrite
    split
    · split
      · exact memAbove_cons.2 h
      · exact memAbove_cons.2 ⟨ha, memAbove_cons.2 h⟩
    · split
      · split
        · exact h.2
        · exact memAbove_cons.2 ⟨ha, h.2⟩
      · exact memAbove_cons.2 ⟨h.1, ih h.2⟩

/-- Writing one byte keeps the canonical form. -/
theorem memWf_memWrite {d : Nat → Byte} {m : Mem} (a : Nat) (v : Byte) (h : memWf d m = true) : memWf d (memWrite d m a v) = true := by
  induction m with
  | nil =>
    unfold memWrite
    split
    · exact h
    · next hv => exact (memWf_cons d a v []).2 ⟨hv, memAbove_nil a, rfl⟩
  | cons c m ih =>
    obtain ⟨b, w⟩ := c
    have hc := (memWf_cons d b w m).1 h
    unfold memWrite
    split
    · next hlt =>
      split
      · exact h
      · next hv => exact (memWf_cons d a v _).2 ⟨hv, memAbove_cons.2 ⟨hlt, memAbove_mono hc.2.1 (Nat.le_of_lt hlt)⟩, h⟩
    · next hge =>
      split
      · next he =>
        subst he
        split
        · exact hc.2.2
        · next hv => exact (memWf_cons d a v m).2 ⟨hv, hc.2⟩
      · next hne =>
        exact (memWf_cons d b w _).2 ⟨hc.1, memAbove_memWrite hc.2.1 (by omega), ih hc.2.2⟩

/-- Writing bytes keeps the canonical form. -/
theorem memWf_memWriteN {d : Nat → Byte} {m : Mem} (a : Nat) (bs : List Byte) (h : memWf d m = true) :
    memWf d (memWriteN d m a bs) = true := by
  induction bs generalizing m a with
  | nil => exact h
  | cons b bs ih => exact ih (a + 1) (memWf_memWrite a b h)

/-- Leaving entries out keeps the canonical form. -/
theorem memWf_filter {d : Nat → Byte} {m : Mem} (p : Host.Cell → Bool) (h : memWf d m = true) : memWf d (m.filter p) = true := by
  induction m with
  | nil => exact h
  | cons c m ih =>
    obtain ⟨b, w⟩ := c
    have hc := (memWf_cons d b w m).1 h
    rw [List.filter_cons]
    split
    · exact (memWf_cons d b w _).2 ⟨hc.1, fun x hx => hc.2.1 x (List.mem_filter.1 hx).1, ih hc.2.2⟩
    · exact ih hc.2.2

/-- An address below every listed one reads as unlisted. -/
theorem memRead_above {d : Nat → Byte} {m : Mem} {k a : Nat} (h : memAbove k m) (ha : a ≤ k) : memRead d m a = d a := by
  induction m with
  | nil => rfl
  | cons c m ih =>
    obtain ⟨b, w⟩ := c
    rw [memAbove_cons] at h
    unfold memRead
    rw [if_neg (by omega), ih h.2]

/-- A read after a write. -/
theorem memRead_memWrite {d : Nat → Byte} {m : Mem} (a b : Nat) (v : Byte) (h : memWf d m = true) :
    memRead d (memWrite d m a v) b = if b = a then v else memRead d m b := by
  induction m with
  | nil =>
    by_cases hv : v = d a
    · rw [memWrite, if_pos hv]
      split
      · next e => subst e; rw [memRead]; exact hv.symm
      · rfl
    · rw [memWrite, if_neg hv]
      simp only [memRead]
      by_cases hb : b = a
      · rw [if_pos hb, if_pos hb.symm]
      · rw [if_neg hb, if_neg (fun e => hb e.symm)]
  | cons c m ih =>
    obtain ⟨k, w⟩ := c
    have hc := (memWf_cons d k w m).1 h
    simp only [memWrite]
    split
    · next hlt =>
      have hab : memRead d ((k, w) :: m) a = d a :=
        memRead_above (k := a) (memAbove_cons.2 ⟨hlt, memAbove_mono hc.2.1 (Nat.le_of_lt hlt)⟩) (Nat.le_refl a)
      split
      · next hv =>
        split
        · next e => subst e; rw [hab, hv]
        · rfl
      · by_cases hb : b = a
        · subst hb; simp [memRead]
        · simp only [memRead]
          rw [if_neg (fun e => hb e.symm), if_neg hb]
    · split
      · next he =>
        subst he
        split
        · next hv =>
          split
          · next e => subst e; rw [memRead_above hc.2.1 (Nat.le_refl b), hv]
          · next hb => simp only [memRead]; rw [if_neg (fun e => hb e.symm)]
        · simp only [memRead]
          by_cases hb : b = a
          · rw [if_pos hb, if_pos hb.symm]
          · rw [if_neg hb, if_neg (fun e => hb e.symm), if_neg (fun e => hb e.symm)]
      · next hge hne =>
        simp only [memRead, ih hc.2.2]
        by_cases hk : k = b
        · rw [if_pos hk, if_neg (by omega), if_pos hk]
        · rw [if_neg hk, if_neg hk]

end Sys2Proof.Machine
end

