-- ==== Sys2Proof/Tests/Slice0.lean ====
section
/-!
SUPPORT. The author's own tests: a well-formedness smoke, one step of a few commands against the manual's figures, and for every
statement of Obligations.lean states and operands that meet its hypotheses.
-/
namespace Sys2Proof.Tests
set_option Elab.async false
set_option linter.unusedVariables false
open Sys2Proof Sys2Proof.Machine

/-! ## Small states -/

/-- A device in RUN; host slot H0 may do everything. -/
def base : State := { pwr := { state := .run, opTime := 10000000 }, dir := { live := [⟨0x200, 3, 0⟩] } }

/-- The same with more live values, by rising index, above 0x200. -/
def withPars (ps : List (Nat × Int)) (s : State := base) : State :=
  { s with dir.live := s.dir.live ++ ps.map fun p => ⟨p.1, p.2, 0⟩ }

/-- A command of H0 taken under tag 5. -/
def cmd (op : Nat) (p : List Byte) (s : State := base) (ph : Phase := .taken) : State :=
  { s with host.ops := [{ d := { opcode := op, tag := 5, payload := p }, slot := 0, phase := ph }] }

/-- A PARAM_WRITE payload: index, type code, value of 16 bytes. -/
def pw (idx ty v : Nat) : List Byte := toLe 2 idx ++ toLe 1 ty ++ [0] ++ toLe 4 0 ++ toLe 16 v


/-- One slot as given. -/
def atSlot (h : Nat) (x : Slot) (s : State := base) : State := { s with host.slots := s.host.slots.set h x }

/-- The bytes of a NOP descriptor: opcode 0, format 1. -/
def nopDesc : List Byte := [0, 1] ++ List.replicate 30 0

/-- A command of tag 9 that the LMP has taken. -/
def nopFlight : Flight := { d := { opcode := 0x00, tag := 9, gen := 3 }, slot := 0, phase := .taken, urgent := false }

/-- An urgent ABORT of it. -/
def abortFlight : Flight :=
  { d := { opcode := 0x7F, tag := 5, payload := toLe 2 (9 + 64 * 3) }, slot := 0, urgent := true, phase := .taken }

/-- Both, taken. -/
def abortCase : State := { base with host.ops := [nopFlight, abortFlight] }

/-- Both channels have seen the car stand. -/
def parked (s : State) : State := { s with saf.chA.still := 400, saf.chB.still := 400 }

/-- A Geyser image of one instruction word, with one internal word variable 7 at 0xB000, host-writable and forceable, in bank 0. -/
def image (word : Nat) : List Byte :=
  List.replicate 8 0 ++ toLe 4 4 ++ toLe 4 0 ++ toLe 4 1 ++ List.replicate 44 0 ++ toLe 4 word ++
    toLe 4 7 ++ toLe 4 0xB000 ++ [6, 0] ++ toLe 2 2 ++ [0, 3]

/-- The device with a table body that holds these bytes from its start. -/
def withTable (tid : Nat) (bs : List Byte) (s : State := base) : State :=
  s.modTbl tid fun t => { t with body := memWriteN (tableByte tid) [] 0 bs }

/-- The device with that program, running, before its next cycle. -/
def prog (word : Nat := 0) (s : State := base) : State :=
  { withTable 0x0600 (image word) s with gys.bank := some 0, gys.st := 1 }

/-- A table staged by H0. -/
def stagedBy (tid : Nat) (bs : List Byte) : State :=
  base.modTbl tid fun t => { t with claim := some { slot := 0, baseVer := 0, body := memWriteN (tableByte tid) [] 0 bs } }

/-- Group 3 as given. -/
def grp3 (x : Group) (s : State := base) : State := { s with grp.groups := s.grp.groups.set 3 x }

/-- A group message as given has arrived. -/
def got (m : GMsg) (s : State := base) : State := { s with grp.inq := [m] }

/-- A staged door command: operator 0, OPEN. -/
def doorAct : Act := { part := 0, kind := 5, body := [0, 1, 0, 0], vers := [] }

/-- A GRP_STAGE payload for group 3, generation 2. -/
def stage (kind : Nat) (body : List Byte) : List Byte := toLe 1 3 ++ [0] ++ toLe 2 2 ++ [0] ++ toLe 1 kind ++ toLe 2 body.length ++ body

/-- An OPEN group of H0. -/
def open3 : Group := { state := 1, gen := 2, owner := .host 0, openedAt := 9000000, maxAct := 128 }

/-- A SEC.ACTION write of an action and a check value by H0. -/
def secAction (k c : Nat) (s : State) : State := cmd 0x03 (pw Idx.SEC_ACTION 9 (k + 256 * c)) s

theorem leNat_toLe (n : Nat) : ∀ v, leNat (toLe n v) = v % 256 ^ n := by
  induction n with
  | zero => intro v; simp [toLe, leNat, Nat.mod_one]
  | succ n ih =>
    intro v
    rw [toLe, leNat, ih, BitVec.toNat_ofNat, show 256 ^ (n + 1) = 256 * 256 ^ n from Nat.pow_succ']
    exact (Nat.mod_mul (x := v) (a := 256) (b := 256 ^ n)).symm

theorem toLe_take (m n : Nat) : ∀ v, (toLe (m + n) v).take m = toLe m v := by
  induction m with
  | zero => intro v; rfl
  | succ m ih => intro v; rw [Nat.add_right_comm, toLe, toLe, List.take_succ_cons, ih]

theorem secAction_wval (k c : Nat) (s : State) (hk : k < 256) (hc : c < 2 ^ 32) :
    ((secAction k c s).flight 5).wval = ((k + 256 * c : Nat) : Int) := by
  have h : ((secAction k c s).flight 5).wval = (((toLe 16 (k + 256 * c)).take 8 |> leNat) &&& (2 ^ 40 - 1) : Nat) := rfl
  rw [h, toLe_take 8 8, leNat_toLe, Nat.and_two_pow_sub_one_eq_mod]
  congr 1
  omega

theorem secAction_check (k c : Nat) (s : State) (hk : k < 256) (hc : c < 2 ^ 32) :
    ((secAction k c s).flight 5).actCode = k ∧ ((secAction k c s).flight 5).actCheck = c := by
  rw [Flight.actCode, Flight.actCheck, secAction_wval k c s hk hc, Int.toNat_natCast]
  omega

/-- H0 with these bytes staged. -/
def staging (bs : List Byte) (s : State := base) : State := { s with host.slots := s.host.slots.set 0 { stage := bs } }

/-- A valid token of this kind, but for its signature, for a device with UNONCE 0. -/
def token (kind : Nat) : List Byte := ascii "TRGU" ++ toLe 1 kind ++ [1, 0, 0] ++ toLe 8 0 ++ serialBytes

/-- The recovery loader with that token staged. -/
def loading (kind : Nat) : State := staging (token kind) { base with pwr.state := .start, pwr.recovery := true }

theorem stageCheck_lt (bs : List Byte) : stageCheck bs < 2 ^ 32 := Nat.mod_lt _ (by decide)

theorem loading_ok (kind c : Nat) (kinds : List Nat) (hk : getU (padTo 146 (token kind)) 4 1 = kind)
    (hk' : kinds.contains kind = true)
    (hv : Config.ed448Verify Config.vendorRoot ((padTo 146 (token kind)).take 32) (getU (padTo 146 (token kind)) 32 114) = true) :
    (secAction c (stageCheck (padTo 146 (token kind))) (loading kind)).tokenOk (padTo 146 (token kind)) kinds = true := by
  have h1 : getU (padTo 146 (token kind)) 5 1 = 1 := rfl
  have h2 : getU (padTo 146 (token kind)) 8 8 = 0 := rfl
  have h3 : ((padTo 146 (token kind)).drop 16).take 16 = serialBytes := rfl
  have h4 : (padTo 146 (token kind)).take 4 = ascii "TRGU" := rfl
  have h5 : (secAction c (stageCheck (padTo 146 (token kind))) (loading kind)).sec.unonce = 0 := rfl
  rw [State.tokenOk, hk, h1, h2, h3, h4, h5, hk', hv]
  simp

theorem keyRefused_none (s : State) (f : Flight) (a : Bool) (n : Nat) (bs : List Byte) (ha : a = true)
    (hb : s.stagedBytes f.slot n = bs) (hc : f.actCheck = stageCheck bs) (hk : n = 57 → Config.ed448KeyOk (leNat bs) = true) :
    s.keyRefused f a n = none := by
  by_cases h : n = 57 <;> simp_all [State.keyRefused]

theorem tokenRefused_none (s : State) (f : Flight) (ks : List Nat) (bs : List Byte)
    (hs : (s.pwr.state == .start && s.pwr.recovery) = true) (hb : s.stagedBytes f.slot 146 = bs) (hc : f.actCheck = stageCheck bs)
    (hk : s.tokenOk bs ks = true) : s.tokenRefused f ks = none := by
  simp_all [State.tokenRefused]

/-- What the parameter table says of SEC.ACTION. -/
def actionInfo : PInfo := ⟨Idx.SEC_ACTION, .u64, .wo 2, .volatile, 0, 0, 1099511627775, [], 1099511627775⟩

/-- A write of SEC.ACTION by a slot that may write it passes the checks of R123. -/
theorem action_taken (s : State) (f : Flight) (k c : Nat) (hk : k < 256) (hc : c < 2 ^ 32) (hv : f.wval = ((k + 256 * c : Nat) : Int))
    (hx : f.widx = Idx.SEC_ACTION) (hr : paramInfo Idx.SEC_ACTION = some actionInfo) (ha : s.accessRefused f.slot actionInfo = none)
    (ht : getU f.p 2 1 = 9) (hb : s.writeBarred f = false) (hw : f.wcheck = false) : s.writeRefused f = none := by
  have h1 : s.crossRange Idx.SEC_ACTION f.wval = true := by simp [State.crossRange, Idx.SEC_ACTION, Idx.GYS_CYCMAX]
  have h2 : s.ownerAllows Idx.SEC_ACTION f.wval = true := rfl
  have h3 : actionInfo.inRange f.wval = true := by
    rw [hv, PInfo.inRange]
    simp [actionInfo]
    omega
  have h4 : actionInfo.ty.code = 9 := rfl
  simp [State.writeRefused, State.writeForm, State.writeOwner, hx, hr, ha, ht, h1, h2, h3, h4, hb, hw]

/-- The program of one instruction word about to be executed. -/
def exe (op m x : Nat) : State := { prog (op * 2 ^ 26 + m * 2 ^ 24 + x) with gys.phase := .execute }

/-- The same with 1.0 in WA and at 0xB000. -/
def exeF (op m x : Nat) : State :=
  { exe op m x with gys.wa := 0x3F800000#32, gys.mem := memWriteN zeroByte [] 0xB000 (toLe 4 0x3F800000) }

/-- The same with a parameter block for COPY at 0xB000: 6 bytes from 0xB100 to 0xB200. -/
def exeCopy : State :=
  { exe 0x2F 0 1 with gys.ix := 0xB000, gys.mem := memWriteN zeroByte [] 0xB000 (toLe 4 0xB200 ++ toLe 4 0xB100 ++ toLe 4 6) }

/-- A result is this value when it evaluates to it. -/
theorem ok_of {α : Type} [DecidableEq α] {r : GRes α} {v : α}
    (h : (match r with | .ok x => decide (x = v) | .error _ => false) = true) : r = .ok v := by
  cases r with
  | error c => cases h
  | ok x => rw [of_decide_eq_true h]

/-- Field channel 7 as given, the CFG of channels 6 to 9 being 1, 2, 3 (inputs) and 5 (an output). -/
def field (n : Nat) (c : FCh) (s : State := withPars [(Idx.FIO_CnCFG 6, 1), (Idx.FIO_CnCFG 7, 2), (Idx.FIO_CnCFG 8, 3), (Idx.FIO_CnCFG 9, 5)]) :
    State := { s with fio.ch := s.fio.ch.set n c }

/-- A request of the Geyser program for channel `k` of its request block. -/
def asks (k : Nat) (p : List Byte) (s : State := base) : State := { s with gys.reqs := s.gys.reqs.set k (some p) }

/-- A floor-table entry: level, lower and upper edge, flags. -/
def floorEntry (l fl : Nat) : List Byte := toLe 4 l ++ toLe 4 (l - 100000) ++ toLe 4 (l + 100000) ++ [0, 0, 0, 0] ++ toLe 4 fl ++ List.replicate 12 0

/-- A shaft of two landings, LEVEL 1,000,000 and 4,000,000 µm, both with a front door; the car at the first. -/
def shaft (s : State := withPars [(Idx.HST_CMDSRC, 1), (Idx.HST_NLAND, 2), (Idx.HST_ZEROMODE, 1)]) : State :=
  withTable 0x0100 (floorEntry 1000000 3 ++ floorEntry 4000000 3)
    { s with hst.psa := { valid := true, seen := true }, hst.psb := { valid := true, seen := true }, hst.pf := 256000000 }

/-- The shaft with field inputs 0 to 4 chosen as the door-zone, limit and terminal inputs. -/
def wired : State :=
  withPars ([(Idx.HST_CMDSRC, 1), (Idx.HST_NLAND, 2), (Idx.HST_DZFIO, 0), (Idx.HST_LIMLO, 1), (Idx.HST_LIMHI, 2), (Idx.HST_TSDLO, 3),
    (Idx.HST_TSDHI, 4)] ++ (List.range 5).map fun n => (Idx.FIO_CnCFG n, 1))

/-- Caldera slot `n` as given. -/
def law (n : Nat) (c : CSlot) (s : State := base) : State := { s with cle.slots := s.cle.slots.set n c }

/-- Trace buffer `b` as given. -/
def traced (b : Nat) (t : Trace) (s : State := base) : State := { s with cle.traces := s.cle.traces.set b t }

/-- Door operator 1 as given. -/
def gate (d : Door) (s : State := base) : State := { s with dr1 := d }

/-- Wick runs its safety cycles. -/
def wick (s : State := base) : State := { s with saf.running := true }

/-- Wick runs, with the reset inputs in use and both released. -/
def reset2 : State := { wick (withPars [(Idx.SAF_RSTUSE, 1)]) with saf.chA.flt := 0x8000, saf.chB.flt := 0x8000 }

/-- The brake torque test in a phase, its conditions holding. -/
def braking (ph : Nat) (s : State := shaft (withPars [(Idx.HST_CMDSRC, 1), (Idx.HST_NLAND, 2), (Idx.SAF_SIFUNn 0, 2), (Idx.SAF_BTINT, 24)])) : State :=
  { wick s with saf.btPhase := ph, saf.chA.flt := 1, saf.chB.flt := 1 }

/-- H0 holds a parameterisation session with these pending entries. -/
def pends (l : List (Nat × Int)) (s : State := parked base) : State :=
  { s with saf.session := some ⟨0, 1000⟩, saf.pendA := l, saf.pendB := l }

theorem crcBit_lt {c : Nat} (h : c < 2 ^ 32) : crcBit c < 2 ^ 32 := by
  unfold crcBit
  split
  · exact Nat.xor_lt_two_pow (by omega) (by decide)
  · omega

theorem crcByte_lt {c : Nat} (b : Byte) (h : c < 2 ^ 32) : crcByte c b < 2 ^ 32 := by
  have : c ^^^ b.toNat < 2 ^ 32 := Nat.xor_lt_two_pow h (by omega)
  simp only [crcByte]
  iterate 8 apply crcBit_lt
  exact this

theorem crc32_lt (bs : List Byte) : crc32 bs < 2 ^ 32 := by
  have h : ∀ (l : List Byte) (c : Nat), c < 2 ^ 32 → l.foldl crcByte c < 2 ^ 32 := by
    intro l
    induction l with
    | nil => exact fun c h => h
    | cons b l ih => exact fun c h => ih _ (crcByte_lt b h)
  exact Nat.xor_lt_two_pow (h bs _ (by decide)) (by decide)

theorem getU_toLe (n v : Nat) : getU (toLe n v) 0 n = v % 256 ^ n := by
  have h := toLe_take n 0 v
  rw [Nat.add_zero] at h
  rw [getU, List.drop_zero, h, leNat_toLe]

/-- H0's SAF_CONFIRM of a session that maps the safety chain to SI0, with a CRC offset by `k`. -/
def confirms (k : Nat) : State :=
  cmd 0x31 (toLe 4 ((base.pendCrc [(Idx.SAF_SIFUNn 0, 1)] + k) % 2 ^ 32)) (pends [(Idx.SAF_SIFUNn 0, 1)])

theorem confirms_crc (k : Nat) :
    getU ((confirms k).flight 5).p 0 4 = (base.pendCrc [(Idx.SAF_SIFUNn 0, 1)] + k) % 2 ^ 32 ∧
      (confirms k).pendCrc (confirms k).saf.pendA = base.pendCrc [(Idx.SAF_SIFUNn 0, 1)] ∧
      (confirms k).pendCrc (confirms k).saf.pendB = base.pendCrc [(Idx.SAF_SIFUNn 0, 1)] := by
  refine ⟨?_, rfl, rfl⟩
  have h : ((confirms k).flight 5).p = toLe 4 ((base.pendCrc [(Idx.SAF_SIFUNn 0, 1)] + k) % 2 ^ 32) := rfl
  rw [h, getU_toLe]
  omega

theorem pendCrc_lt (s : State) (l : List (Nat × Int)) : s.pendCrc l < 2 ^ 32 := crc32_lt _

theorem add_zero_mod {c : Nat} (h : c < 2 ^ 32) : (c + 0) % 2 ^ 32 = c := by omega

theorem add_one_mod {c : Nat} (h : c < 2 ^ 32) : (c + 1) % 2 ^ 32 ≠ c := by omega

/-- A station configuration: station 3 present, its receive object 5 and its output object 6 with a refresh period of 100 ms. -/
def canBody : Mem :=
  memWriteN (tableByte 0x0500) (memWriteN (tableByte 0x0500) [] 96 [1]) 2128
    ([1, 3, 0, 0, 8] ++ List.replicate 11 0 ++ [2, 3, 1, 0, 8, 0, 100, 0])

/-- CAN0 on its bus with that configuration. -/
def bus (s : State := base) : State :=
  { s.modTbl 0x0500 (fun t => { t with body := canBody }) with gys.st := 1, can0.st := 1, can0.hbAt := some 1000 }

/-- Object `j` of CAN0 as given. -/
def canObj (j : Nat) (o : CanObj) (s : State := bus) : State := { s with can0.objs := s.can0.objs.set j o }

/-- Station 3 of CAN0 as given. -/
def station (x : CanStn) (s : State := bus) : State := { s with can0.stns := s.can0.stns.set 3 x }

theorem bus_shape : bus.Shape := by constructor <;> decide +kernel

theorem station_shape : (station { lost := false }).Shape := by constructor <;> decide +kernel

/-- The ring runs at address 5 with both ports up and FORWARDING. -/
def ring (ps : List (Nat × Int) := []) : State :=
  { withPars ([(Idx.RNG_ADDR, 5)] ++ ps) with
    rng.enabled := true, rng.a := { link := true, mode := 0 }, rng.b := { link := true, mode := 0 } }

/-- A ring frame in the receive queue. -/
def heard (f : RFrame) (s : State := ring) : State := { s with rng.inq := [f] }

/-- The bytes of a STATE frame from address 9 to the whole domain, with no body and a tag of 8 bytes. -/
def frameBytes : List Byte :=
  [0xFF, 0xFF, 0xFF, 0xFF, 0xFF, 0xFF, 2, 0x54, 0x52, 0x47, 0, 9, 0x88, 0xB5, 0x11, 1, 9, 0, 0, 8] ++ List.replicate 24 0

/-- Address 5 in dispatch group 1 of a valid ring, its car at the first landing. -/
def inGroup (ps : List (Nat × Int) := []) : State :=
  { shaft (withPars ([(Idx.HST_NLAND, 2), (Idx.RNG_ADDR, 5), (Idx.DSP_ENABLE, 1), (Idx.DSP_GROUP, 1)] ++ ps)) with
    rng.enabled := true, rng.valid := true, rng.a := { link := true, mode := 0 } }

/-- A frame of the group in the receive queue, from address 9. -/
def rcvd (cls : Nat) (body : List Byte) (s : State := inGroup) (src : Nat := 9) : State :=
  { s with rng.inq := [{ cls := cls, src := src, kind := 0, dest := 5, body := body }] }

/-- That frame. -/
def frm (cls : Nat) (body : List Byte) (src : Nat := 9) : RFrame := { cls := cls, src := src, kind := 0, dest := 5, body := body }

/-- Call 7 registered by address 5 for landing 1, up. -/
def call7 : Call := { reg := 5, num := 7, kind := 0, landing := 1, ph := .bidding }

/-- The device with these calls. -/
def calls (cs : List Call) (s : State := inGroup) : State := { s with dsp.calls := cs }

/-- Notice 4 of address 9 for landing 1: 20 passengers expected 1 s after time 0. -/
def notice4 : Notice := { src := 9, id := 4, landing := 1, flow := 0, ta := 1000000, pax := 20 }

/-- The device with these notices. -/
def told (ns : List Notice) (s : State := inGroup) : State := { s with dsp.notices := ns }

/-- A peer at address 9, in group 1. -/
def peer9 (st : Nat := 0) : Peer := { addr := 9, heard := 0, hops := 1, body := toLe 1 0 ++ [1] ++ toLe 1 st }

/-- A summary of the own address and another identity. -/
def summaryBody (v : Nat) : List Byte := List.replicate 16 0 ++ toLe 4 v

theorem other_identity : getU (summaryBody ((identity + 1) % 2 ^ 32)) 16 4 ≠ identity := by
  have h : getU (summaryBody ((identity + 1) % 2 ^ 32)) 16 4 = getU (toLe 4 ((identity + 1) % 2 ^ 32)) 0 4 := rfl
  have l : identity < 2 ^ 32 := Nat.mod_lt _ (by decide)
  rw [h, getU_toLe]
  omega

/-- A middle car of a shared shaft: position 2, neighbours at addresses 6 above and 4 below. -/
def shared (s : State := withPars [(Idx.SHF_ENABLE, 1), (Idx.SHF_POSN, 2), (Idx.SHF_ADDRUP, 6), (Idx.SHF_ADDRDN, 4)]) : State :=
  { s with rng.valid := true }

/-- A neighbour frame of 128 bytes: sequence number 1, position `p`, address `a`. -/
def nlFrame (p a : Nat) : List Byte :=
  let b := [0xC3, 1, 0, 0] ++ toLe 1 p ++ [0] ++ toLe 2 a ++ List.replicate 116 0
  b ++ toLe 4 (crc32 b)

/-- A record of severity `sev` with sequence number `n`. -/
def recOf (n sev : Nat) : Rec := { seq := n, evt := { code := 0x0301, sev := sev } }

/-- An event that waits for the formatter, and `n` records in the store. -/
def store (n sev : Nat) (e : Evt := { code := 0x0302, sev := 3 }) : State :=
  { base with tph.queue := [e], tph.recs := List.replicate n (recOf 1 sev) }

/-- Stream 0 of H0 with one record gathered. -/
def streaming (s : State := base) : State :=
  { s with tph.streams := [some { slot := 0, minSev := 0, sources := [], fill := [(recOf 1 3, false)] }, none, none, none] }

theorem store_length (n sev : Nat) (e : Evt) : (store n sev e).tph.recs.length = n := List.length_replicate

theorem store_victim (n sev k : Nat) (e : Evt) :
    victim (store (n + 1) sev e).tph.recs k = if sev ≤ k then some (recOf 1 sev) else none := by
  have h : (store (n + 1) sev e).tph.recs = recOf 1 sev :: List.replicate n (recOf 1 sev) := rfl
  rcases Nat.lt_trichotomy sev k with l | l | l
  · simp [h, victim, recOf, l, Nat.le_of_lt l]
  · subst l
    simp [h, victim, recOf]
  · have l' : ¬sev < k := by omega
    have l'' : ¬sev = k := by omega
    have l3 : ¬sev ≤ k := by omega
    simp [h, victim, recOf, l', l'', l3]

/-- An RTC_WRITE payload of 31 December 2199, 23:59:59, with these milliseconds. -/
def lastSecond (day ms : Nat) : List Byte := toLe 2 2199 ++ [12] ++ toLe 1 day ++ [23, 59, 59, 0] ++ toLe 2 ms ++ List.replicate 6 0

/-- A challenge at an instant. -/
def chalAt (t : Nat) : Challenge := { payload := [], nonce := 1, ephSecret := 2, ephPublic := 3, at_ := t }

/-- The ring runs and address 9 has a pending challenge. -/
def ringChallenged (t : Nat) : State := { ring with sec.ringChals := [⟨9, chalAt t⟩] }

/-- H0 has claimed the firmware slot that is not active. -/
def claimed : State := { base with sec.claim := some 0, sec.fwStat := 1 }

/-- An FW_SWITCH in flight. -/
def switching (ph : Phase) (s : State := claimed) : State := cmd 0x49 [1] s ph

/-- Two images, the newer one active, of which the safety channels have not loaded `n`; the device is in RUN or in DORMANT. -/
def unswapped (a b stat : Nat) (st : DevState) : State :=
  { base with
    pwr.state := st, sec.fw := [{ safDigest := 1 }, { safDigest := 2 }], sec.active := 1, sec.previous := 0, sec.safA := a,
    sec.safB := b, sec.fwStat := stat, sec.swapping := true, sec.swapRun := 4294967295 }

/-- The car stands at its landing, doors locked, everything idle: R42 holds. `free`: the tags that are free. -/
def idleCar (free : Nat) (s : State := withPars [(Idx.HST_NLAND, 2), (Idx.SAF_SIFUNn 0, 2), (Idx.SAF_INCPER, 1000)]) : State :=
  { parked (shaft s) with
    saf.running := true, saf.chA.flt := 1, saf.chB.flt := 1, host.freeTags := List.range free }

/-- The device in DORMANT. -/
def asleep : State := { base with pwr.state := .dormant, rng.enabled := true }

theorem reset_shape : State.reset.Shape := by constructor <;> decide +kernel

theorem reset_calendar : State.reset.CalendarLegal := by constructor <;> decide +kernel

theorem reset_memories : State.reset.MemoriesWf where
  data := by decide +kernel
  retained := by decide +kernel
  journals := by decide +kernel
  firmware := by decide +kernel
  bodies := by decide +kernel
  claims := fun x hx c hc => by
    have h : ∀ x ∈ State.reset.dir.tables, x.claim = none := by decide +kernel
    rw [h x hx] at hc
    cases hc

/-! ## Worked examples of the manual -/

/-- Cinder Quay's landings (00 Table DOC-8), with the reference limits of its cars; the car stands at level `p`. -/
def quay (p : Int) (ps : List (Nat × Int) := []) : State :=
  withTable 0x0100 ([0, 7200000, 14400000, 22800000, 28200000, 33600000].flatMap fun l => floorEntry l 3)
    { withPars ([(Idx.HST_NLAND, 6), (Idx.HST_VRATED, 2500000), (Idx.HST_AMAX, 1600000), (Idx.HST_JMAX, 2500000), (Idx.HST_ZEROMODE, 1), (Idx.HST_RATEDKG, 1000), (Idx.HST_BALKG, 500)] ++ ps) with
      hst.limV := 2500000, hst.limA := 1600000, hst.limJ := 2500000, hst.loadOk := true, hst.pf := 256 * p,
      hst.ref := { p := p * (6 * 10 ^ 18) } }

/-- What a next state answers; the default elsewhere. -/
def after (o : Out) : State := match o with | .next t => t | _ => {}

/-- PWR.DMOVE reads 2,000 µm at version 3, and this payload waits to be carried out (the example of 06 R124's section). -/
def dmoveWrite (ver : Nat) (ph : Phase := .taken) : State :=
  cmd 0x03 ([0x04, 0x01, 0x06, 0x01, 0x03, 0x00, 0x00, 0x00, 0x88, 0x13, 0x00, 0x00] ++ List.replicate 12 0)
    { base with dir.live := [⟨0x0104, 2000, ver⟩, ⟨0x0200, 3, 0⟩] } ph

/-- A reference at rest at a level, µm, and the limits of a Cinder Quay car (09 Table HST-8's example). -/
def quayLim : Lim := limOf 2500000 1600000 2500000

/-- The safety values of the example of 16 R422. -/
def cut : State :=
  withPars [(Idx.SAF_TBRAKE, 200), (Idx.SAF_ABRAKE, 1200000), (Idx.SAF_JBRAKE, 2000000), (Idx.SAF_SILLTOP, 3000000),
    (Idx.SHF_ENABLE, 1), (Idx.SHF_LOSSMARG, 200000), (Idx.SHF_ZHI, 31400000)]

/-- Geyser at the word 0x0500_8023: LDB of FIO35 in mode D, operand 0x00_8023 (example of 08 R167). -/
def fio35 (b : Byte) : State :=
  { prog 0x05008023 with gys.phase := .execute, gys.mem := memWriteN zeroByte [] 0x1004 [b] }

/-- 2100-02-28 23:59:59 is followed by 1 March, and 2100-02-29 is refused (18, example of R448). -/
theorem test_calendar_2100 :
    ({ year := 2100, month := 2, day := 28, hour := 23, minute := 59, second := 59 } : Calendar).next =
        ({ year := 2100, month := 3, day := 1, hour := 0, minute := 0, second := 0 }, false) ∧
      ({ year := 2100, month := 2, day := 29, hour := 12, minute := 0, second := 0 } : Calendar).valid = false := by
  decide +kernel

/-- A write of 0xFF to PWR.WAKEMASK stores 0x7F (00 R10). -/
theorem test_wakemask : (paramInfo Idx.PWR_WAKEMASK).map (fun r => r.clean 0xFF) = some 0x7F := by decide +kernel

/-- The write of 5,000 µm that expects version 3 waits for its owner. -/
theorem test_dmove_taken : ((after (exec (.paramWrite 5) (dmoveWrite 3))).flight 5).phase = .paramApply 0x0104 5000 := by
  decide +kernel

/-- It is stored at the owner's sample, with version 4. -/
theorem test_dmove_applied :
    let t := after (exec (.paramApply 5) (dmoveWrite 3 (.paramApply 0x0104 5000)))
    t.par Idx.PWR_DMOVE = 5000 ∧ t.parVer Idx.PWR_DMOVE = 4 := by decide +kernel

/-- The second write, at version 4, completes CONFLICT with detail 0x0104. -/
theorem test_dmove_conflict :
    ((after (exec (.paramWrite 5) (dmoveWrite 4))).host.store.map fun p => (p.2.status, p.2.detail)) =
      [(Status.conflict.code, 0x0104)] := by decide +kernel

/-- L4 to L5: jerk segments of 0.640 s, 0.9048 s of constant acceleration, 4,370 ms in all (09 R220, Table HST-8). -/
theorem test_profile_l4_l5 :
    let p := planTo (RefSt.at_ 22800000) 28200000 quayLim
    (p.1.map fun g => g.us) = [640000, 904779, 640000, 640000, 904779, 640000] ∧ (planUs p.1 + 500) / 1000 = 4370 := by
  decide +kernel

/-- At 2.5 m/s at 16.000 m the normal stopping point lies at 18.753 m (09, example of R224). -/
theorem test_stop_point : stopPoint { RefSt.at_ 16000000 with v := 2500000 * (2 * 10 ^ 12) } quayLim = 18753125 := by decide +kernel

/-- From there over L4 back to L3, with a dwell of 500 ms: 9,884 ms (09, example of R224). -/
theorem test_reversal_time :
    (planUs (planTo { RefSt.at_ 16000000 with v := 2500000 * (2 * 10 ^ 12) } 22800000 quayLim).1 + 500000 +
      planUs (planTo (RefSt.at_ 22800000) 14400000 quayLim).1 + 500) / 1000 = 9884 := by decide +kernel

/-- CQ-02 at L1, CQ-05 at L4 and CQ-06 at L6 bid for L3 up with these ETS and costs (15 Table DSP-1 and the example of R401). -/
theorem test_bids :
    (quay 0).etsCost { reg := 103, num := 1, kind := 0, landing := 2 } = (9163, 9163) ∧
      (quay 22800000).etsCost { reg := 103, num := 1, kind := 0, landing := 2 } = (6763, 7587) ∧
      ((quay 33600000).etsCost { reg := 103, num := 1, kind := 3, landing := 2 }).1 = 11083 := by decide +kernel

/-- Slot 4 compares lowest and wins; the group value is −250,000 (10, example of R253). -/
theorem test_group_winner :
    ({ law 3 { on := true, out := -300000 } (law 4 { on := true, out := 250000 } (law 5 { on := true, out := 420000 })) with
        dr0.dir := -1 } : State).groupValue 0 = (-250000, 4) := by decide +kernel

/-- Slot 12 at phase 9 writes at 3,516 cycles, at phase 10 at 3,907 (10, example of R240). -/
theorem test_write_instants : writeInstant 12 9 = 3516 ∧ writeInstant 12 10 = 3907 ∧ computeEnd 13 = 1584 := by decide +kernel

/-- The safety extent of CQ-11 at 18.000 m and 2.5 m/s is 25.7235 m (16, example of R422). -/
theorem test_safety_extent : (cut.safExtents { pS := 18000000, vS := 2500000 }).1 = 25723500 := by decide +kernel

/-- Its sill bound on the lost link is 22.426 m (16, example of R422). -/
theorem test_loss_bound : ({ cut with shf.up.safSent := 25723500 } : State).lossBound true = 22426000 := by decide +kernel

/-- LDB reads bit 3 of the byte at 0x1004 (08, example of R167). -/
theorem test_ldb_fio35 :
    (after (exec (.ldb 1 0x8023) (fio35 0x08))).gys.ba = true ∧ (after (exec (.ldb 1 0x8023) (fio35 0xF7))).gys.ba = false := by
  decide +kernel

/-- STATE_CHANGE from RUN to TRIPPED for SF1 carries 4, 5 and 0x0901 in bytes 24–27 and no instance (17, example of R433). -/
theorem test_state_change :
    ((base.enter .tripped 0x0901).tph.queue.map fun e => (e.code, e.inst, e.data)) = [(0x010B, 0xFF, [4, 5, 0x01, 0x09, 0, 0, 0, 0])] := by
  decide +kernel

/-! ## Ill-formed commands are refused by each check -/

theorem smoke_okHost : Instr.wf (.status 8 0) = false ∧ Instr.wf (.status 0 0) = true := by decide +kernel

theorem smoke_okU32 : Instr.wf (.status 0 (2 ^ 32)) = false ∧ Instr.wf (.status 0 0) = true := by decide +kernel

theorem smoke_okByte : Instr.wf (.put 0 256 [] 0 0) = false ∧ Instr.wf (.put 0 0 [] 0 0) = true := by decide +kernel

theorem smoke_okMost :
    Instr.wf (.put 0 0 (List.replicate 513 0) 0 0) = false ∧ Instr.wf (.put 0 0 [] 0 0) = true := by decide +kernel

theorem smoke_okU16 : Instr.wf (.put 0 0 [] 0 65536) = false ∧ Instr.wf (.put 0 0 [] 0 0) = true := by decide +kernel

theorem smoke_okTag : Instr.wf (.deadlineTimeout 64) = false ∧ Instr.wf (.deadlineTimeout 0) = true := by decide +kernel

theorem smoke_okLoad : Instr.wf (.hostOverload 1001) = false ∧ Instr.wf (.hostOverload 0) = true := by decide +kernel

theorem smoke_okCause : Instr.wf (.lmpFault 3) = false ∧ Instr.wf (.lmpFault 0) = true := by decide +kernel

theorem smoke_okPair : Instr.wf (.doorReq 2) = false ∧ Instr.wf (.doorReq 0) = true := by decide +kernel

theorem smoke_okHostSlot8 : Instr.wf (.commitPoint 8) = false ∧ Instr.wf (.commitPoint 0) = true := by decide +kernel

theorem smoke_okRail : Instr.wf (.railFault 7 0) = false ∧ Instr.wf (.railFault 0 0) = true := by decide +kernel

theorem smoke_ok2bit :
    Instr.wf (.startComplete 4 0 [] [] 0 [] false 0 0) = false ∧ Instr.wf (.startComplete 0 0 [] [] 0 [] false 0 0) = true := by decide +kernel

theorem smoke_okSelf :
    Instr.wf (.startComplete 0 4 [] [] 0 [] false 0 0) = false ∧ Instr.wf (.startComplete 0 0 [] [] 0 [] false 0 0) = true := by decide +kernel

theorem smoke_okSiMask :
    Instr.wf (.dormantEntry (2 ^ 16) 0 0) = false ∧ Instr.wf (.dormantEntry 0 0 0) = true := by decide +kernel

theorem smoke_okFieldMask :
    Instr.wf (.dormantEntry 0 (2 ^ 48) 0) = false ∧ Instr.wf (.dormantEntry 0 0 0) = true := by decide +kernel

theorem smoke_okWake : Instr.wf (.dormantWake 11 0 0) = false ∧ Instr.wf (.dormantWake 0 0 0) = true := by decide +kernel

theorem smoke_okTagOrNone :
    Instr.wf (.pathParity 0 0 false 65 0) = false ∧ Instr.wf (.pathParity 0 0 false 0 0) = true := by decide +kernel

theorem smoke_okCaldera :
    Instr.wf (.pathParity 0 0 false 0 16) = false ∧ Instr.wf (.pathParity 0 0 false 0 0) = true := by decide +kernel

theorem smoke_okOperand : Instr.wf (.gysNop 0 (2 ^ 24)) = false ∧ Instr.wf (.gysNop 0 0) = true := by decide +kernel

theorem smoke_okU64 : Instr.wf (.ssiRead none none (2 ^ 64)) = false ∧ Instr.wf (.ssiRead none none 0) = true := by decide +kernel

theorem smoke_okLen :
    Instr.wf (.inverterFrame (List.replicate 33 0) false 0) = false ∧ Instr.wf (.inverterFrame (List.replicate 32 0) false 0) = true := by decide +kernel

theorem smoke_okMinor :
    Instr.wf (.periodStart 16 (List.replicate 4 0) 0) = false ∧ Instr.wf (.periodStart 0 (List.replicate 4 0) 0) = true := by decide +kernel

theorem smoke_okUnit : Instr.wf (.cleRcSaved 4) = false ∧ Instr.wf (.cleRcSaved 0) = true := by decide +kernel

theorem smoke_ok3bit : Instr.wf (.hallRead 0 8) = false ∧ Instr.wf (.hallRead 0 0) = true := by decide +kernel

theorem smoke_okSi : Instr.wf (.safetyInputChange 0 16) = false ∧ Instr.wf (.safetyInputChange 0 0) = true := by decide +kernel

theorem smoke_okField : Instr.wf (.filteredEdge 48 0 0) = false ∧ Instr.wf (.filteredEdge 0 0 0) = true := by decide +kernel

theorem smoke_okId :
    Instr.wf (.canFrameReceived 0 (2 ^ 29) false [] false) = false ∧ Instr.wf (.canFrameReceived 0 0 false [] false) = true := by decide +kernel

theorem smoke_okObject : Instr.wf (.canFrameSent 0 128 0) = false ∧ Instr.wf (.canFrameSent 0 0 0) = true := by decide +kernel

theorem smoke_okStation :
    Instr.wf (.stationHeartbeat 0 64 []) = false ∧ Instr.wf (.stationHeartbeat 0 0 []) = true := by decide +kernel

theorem smoke_okAmp : Instr.wf (.rngLinkUp 0 3) = false ∧ Instr.wf (.rngLinkUp 0 1) = true := by decide +kernel

theorem smoke_okSev : Instr.wf (.eventRaised 0 8 0 []) = false ∧ Instr.wf (.eventRaised 0 0 0 []) = true := by decide +kernel

theorem smoke_okTap : Instr.wf (.tapInstruction 5) = false ∧ Instr.wf (.tapInstruction 0) = true := by decide +kernel

/-! ## States that meet the hypotheses of each clause of each statement -/

/-! Hypotheses of StepRunsTheFrontCommand. -/

theorem wit_StepRunsTheFrontCommand_2 : ∃ s : State,
    s.pending = [] :=
  ⟨base, by decide +kernel⟩

/-! Hypotheses of HostTransactionsAnswer. -/

theorem wit_HostTransactionsAnswer_1 : ∃ (s : State) (h crc : Nat),
    h < s.host.slots.length ∧ s.portServed h = true ∧ s.portWakes h = false ∧ ((3 ≤ h ∨ crc = crc32 [1, 0, 0, 0])) :=
  ⟨base, 0, crc32 [1, 0, 0, 0], by decide +kernel, by decide +kernel, by decide +kernel, by decide +kernel⟩

theorem wit_HostTransactionsAnswer_2 : ∃ (s : State) (h queue : Nat),
    h < s.host.slots.length ∧ h < 3 ∧ s.portServed h = true ∧ s.portWakes h = false :=
  ⟨base, 2, 16, by decide +kernel, by decide +kernel, by decide +kernel, by decide +kernel⟩

theorem wit_HostTransactionsAnswer_3 : ∃ (s : State) (h : Nat) (bytes : List Byte) (tseq tag : Nat) (rest : List Nat),
    h < s.host.slots.length ∧ h < 3 ∧ s.portServed h = true ∧ s.portWakes h = false ∧ s.entryRefusal h (2 * h) bytes = none ∧
      s.host.freeTags = tag :: rest :=
  ⟨base, 0, nopDesc, 0, 0, (List.range 64).drop 1, by decide +kernel, by decide +kernel, by decide +kernel, by decide +kernel,
      by decide +kernel, by decide +kernel⟩

theorem wit_HostTransactionsAnswer_4 : ∃ (s : State) (h queue : Nat) (bytes : List Byte) (tseq : Nat) (st : Status),
    h < s.host.slots.length ∧ h < 3 ∧ s.portServed h = true ∧ s.portWakes h = false ∧ s.entryRefusal h queue bytes = some st :=
  ⟨base, 1, 0, nopDesc, 0, .denied, by decide +kernel, by decide +kernel, by decide +kernel, by decide +kernel, by decide +kernel⟩

theorem wit_HostTransactionsAnswer_5 : ∃ (s : State) (h at_ : Nat),
    h < s.host.slots.length ∧ 3 ≤ h ∧ s.portServed h = true ∧ (s.slot h).cq ≠ [] ∧ (s.slot h).pushAt = some at_ ∧
      at_ + 100 ≤ s.pwr.opTime :=
  ⟨atSlot 4 { ringHost := some 7, cq := [{}], pushAt := some 9999900 }, 4, 9999900, by decide +kernel, by decide +kernel,
      by decide +kernel, by decide +kernel, by decide +kernel, by decide +kernel⟩

/-! Hypotheses of HostQueuesMoveAndOverload. -/

theorem wit_HostQueuesMoveAndOverload_1 : ∃ (s : State) (h count : Nat),
    h < s.host.slots.length ∧ h < 3 ∧ s.portServed h = true ∧ s.portWakes h = false ∧ 1 ≤ count ∧ count ≤ 8 ∧
      count ≤ (s.slot h).cq.length :=
  ⟨atSlot 1 { cq := [{}, {}] }, 1, 2, by decide +kernel, by decide +kernel, by decide +kernel, by decide +kernel, by decide +kernel,
      by decide +kernel, by decide +kernel⟩

theorem wit_HostQueuesMoveAndOverload_2 : ∃ (s : State) (h : Nat),
    h < 2 ∧ s.portServed h = true ∧ s.par Idx.HOST_PORTERR < 2 ^ 32 - 1 :=
  ⟨base, 1, by decide +kernel, by decide +kernel, by decide +kernel⟩

theorem wit_HostQueuesMoveAndOverload_3 : ∃ (s : State) (h : Nat) (d : Desc),
    h < s.host.slots.length ∧ s.waitingFor h = some d ∧ (s.slot h).cq.length < 8 ∧ ((h < 3 ∨ (s.slot h).ringHost.isSome = true)) :=
  ⟨{ base with host.store := [(2, { tag := 9 })] }, 2, { tag := 9 }, by decide +kernel, by decide +kernel, by decide +kernel,
      by decide +kernel⟩

theorem wit_HostQueuesMoveAndOverload_4 : ∃ (s : State) (tag : Nat),
    s.Admitted tag 0x00 0 :=
  ⟨cmd 0x00 [], 5, ⟨by decide +kernel, by decide +kernel⟩⟩

theorem wit_HostQueuesMoveAndOverload_5 : ∃ (s : State) (load : Nat),
    s.lmpServes = true ∧ s.host.overload = false ∧ 850 < load :=
  ⟨base, 851, by decide +kernel, by decide +kernel, by decide +kernel⟩

theorem wit_HostQueuesMoveAndOverload_6 : ∃ (s : State) (load heldMs : Nat),
    s.lmpServes = true ∧ s.host.overload = true ∧ load ≤ 750 ∧ 100 ≤ heldMs :=
  ⟨{ base with host.overload := true }, 750, 100, by decide +kernel, by decide +kernel, by decide +kernel, by decide +kernel⟩

/-! Hypotheses of HostCommandsEnd. -/

theorem wit_HostCommandsEnd_1 : ∃ (s : State) (tag : Nat) (x : Flight),
    s.Admitted tag 0x7F 1 ∧
      (s.noteSeq (s.flight tag)).inFlight (getU (s.flight tag).p 0 2 % 64) (getU (s.flight tag).p 0 2 / 64) = some x ∧
      x.slot = (s.flight tag).slot ∧ x.d.opcode ≠ 0x7F ∧ x.phase = .taken :=
  ⟨abortCase, 5, nopFlight, ⟨by decide +kernel, by decide +kernel⟩, by decide +kernel, by decide +kernel, by decide +kernel,
      by decide +kernel⟩

theorem wit_HostCommandsEnd_2 : ∃ (s : State) (tag : Nat) (f : Flight),
    s.lmpServes = true ∧ s.inFlight tag (s.host.gens.getD tag 0) = some f ∧ f.phase = .taken ∧ f.d.detail ≠ 0 ∧
      f.entered + f.d.detail ≤ s.pwr.opTime :=
  ⟨{ base with host.ops := [{ nopFlight with d.detail := 50, entered := 9999950 }], host.gens := (List.replicate 64 0).set 9 3 }, 9,
      { nopFlight with d.detail := 50, entered := 9999950 }, by decide +kernel, by decide +kernel, by decide +kernel,
      by decide +kernel, by decide +kernel⟩

theorem wit_HostCommandsEnd_3 : ∃ (s : State) (tag : Nat),
    (s.flight tag).slot < s.host.slots.length ∧ s.Admitted tag 0x42 0 :=
  ⟨cmd 0x42 [], 5, by decide +kernel, ⟨by decide +kernel, by decide +kernel⟩⟩

theorem wit_HostCommandsEnd_4 : ∃ (s : State) (h : Nat) (x : Session),
    h < s.host.slots.length ∧ s.opCounts = true ∧ (s.slot h).session = some x ∧
      x.opened + s.parN Idx.SEC_SESSLIFE * 60000 ≤ s.pwr.opTime :=
  ⟨{ atSlot 2 { session := some { priv := 1, epoch := 0, kc := 1, kr := 2 } } with pwr.opTime := 10 ^ 9 }, 2,
      { priv := 1, epoch := 0, kc := 1, kr := 2 }, by decide +kernel, by decide +kernel, by decide +kernel, by decide +kernel⟩

theorem wit_HostCommandsEnd_5 : ∃ (s : State) (h : Nat),
    h < s.host.slots.length ∧ s.lmpServes = true ∧ 3 ≤ h ∧ (s.slot h).ringHost.isSome = true ∧
      (s.slot h).lastDesc + s.parN Idx.HOST_RINGIDLE * 1000 ≤ s.pwr.opTime :=
  ⟨atSlot 7 { ringHost := some 9 }, 7, by decide +kernel, by decide +kernel, by decide +kernel, by decide +kernel,
      by decide +kernel⟩

/-! Hypotheses of LmpRestartsAndIntegrityIsRecorded. -/

theorem wit_LmpRestartsAndIntegrityIsRecorded_1 : ∃ (s : State) (load : Nat),
    s.lmpServes = true :=
  ⟨base, 0, by decide +kernel⟩

theorem wit_LmpRestartsAndIntegrityIsRecorded_2 : ∃ (s : State) (cause : Nat),
    s.lmpRuns = true ∧ cause ≤ 2 ∧ s.sec.fwStat ≠ 3 ∧ (∀ f ∈ s.host.ops, f.phase ≠ .switching) :=
  ⟨base, 2, by decide +kernel, by decide +kernel, by decide +kernel, by decide +kernel⟩

theorem wit_LmpRestartsAndIntegrityIsRecorded_3 : ∃ s : State,
    s.lmp.restarting = true ∧ s.opCounts = true :=
  ⟨{ base with lmp.restarting := true }, by decide +kernel, by decide +kernel⟩

theorem wit_LmpRestartsAndIntegrityIsRecorded_4 : ∃ s : State,
    s.lmp.withdrawn = true ∧ s.lmp.restarting = false ∧ s.lmp.keptOut = false ∧ s.engines = true ∧ (∀ t ∈ s.lmp.faults,
      t + 60000 ≤ s.pwr.opTime) :=
  ⟨{ base with lmp.withdrawn := true, lmp.faults := [9940000] }, by decide +kernel, by decide +kernel, by decide +kernel,
      by decide +kernel, by decide +kernel⟩

theorem wit_LmpRestartsAndIntegrityIsRecorded_5 : ∃ (s : State) (source path tag slot : Nat),
    s.opCounts = true ∧ sourceId source = true ∧ source ≠ 9 :=
  ⟨base, 0x13, 3, 64, 0, by decide +kernel, by decide +kernel, by decide +kernel⟩

theorem wit_LmpRestartsAndIntegrityIsRecorded_6 : ∃ (s : State) (source addr kind bit : Nat),
    s.opCounts = true ∧ sourceId source = true ∧ kind ≤ 1 :=
  ⟨base, 4, 100, 1, 7, by decide +kernel, by decide +kernel, by decide +kernel⟩

theorem wit_LmpRestartsAndIntegrityIsRecorded_7 : ∃ (s : State) (ir : Nat),
    s.opCounts = true ∧ s.pwr.state ≠ .start ∧ ir ≤ 1 :=
  ⟨base, 1, by decide +kernel, by decide +kernel, by decide +kernel⟩

/-! Hypotheses of ParametersAreReadAndWritten. -/

theorem wit_ParametersAreReadAndWritten_1 : ∃ (s : State) (tag : Nat),
    s.Admitted tag 0x02 0 ∧ 1 ≤ getU (s.flight tag).p 0 2 ∧ getU (s.flight tag).p 0 2 ≤ 20 ∧ (∀ k < getU (s.flight tag).p 0 2,
      ((s.noteSeq (s.flight tag)).readEntry (getU (s.flight tag).p (2 + 2 * k) 2)).2 = .ok) :=
  ⟨cmd 0x02 (toLe 2 20 ++ (List.replicate 20 (toLe 2 0x0200)).flatten), 5, ⟨by decide +kernel, by decide +kernel⟩,
      by decide +kernel, by decide +kernel, by decide +kernel⟩

theorem wit_ParametersAreReadAndWritten_2 : ∃ (s : State) (tag : Nat),
    s.Admitted tag 0x01 0 :=
  ⟨cmd 0x01 [], 5, ⟨by decide +kernel, by decide +kernel⟩⟩

theorem wit_ParametersAreReadAndWritten_3 : ∃ (s : State) (tag : Nat),
    s.Admitted tag 0x03 0 ∧ commandIdx s (s.flight tag) = false ∧ (s.noteSeq (s.flight tag)).writeRefused (s.flight tag) = none ∧
      (s.noteSeq (s.flight tag)).writeWaits (s.flight tag) (s.flight tag).widx = false :=
  ⟨cmd 0x03 (pw Idx.TPH_RECSEV 2 3), 5, ⟨by decide +kernel, by decide +kernel⟩, by decide +kernel, by decide +kernel,
      by decide +kernel⟩

theorem wit_ParametersAreReadAndWritten_4 : ∃ (s : State) (tag idx : Nat) (v : Int) (f : Flight),
    s.flight? tag = some f ∧ f.phase = .paramApply idx v ∧ s.writeWaits f idx = false ∧ s.clearsCan f = false ∧
      s.groupHolds idx = false ∧ s.crossRange idx v = true ∧ s.writeOwner f = none ∧ isConfig idx = true :=
  ⟨cmd 0x03 (pw Idx.TPH_RECSEV 2 3) base (.paramApply Idx.TPH_RECSEV 3), 5, Idx.TPH_RECSEV, 3,
      (cmd 0x03 (pw Idx.TPH_RECSEV 2 3) base (.paramApply Idx.TPH_RECSEV 3)).flight 5, by decide +kernel, by decide +kernel,
      by decide +kernel, by decide +kernel, by decide +kernel, by decide +kernel, by decide +kernel, by decide +kernel⟩

theorem wit_ParametersAreReadAndWritten_5 : ∃ (s : State) (tag idx ver : Nat) (v : Int) (f : Flight),
    s.flight? tag = some f ∧ f.phase = .paramDurable idx v ver ∧ s.durableWaits f idx = false ∧ s.opCounts = true ∧
      idx ≠ Idx.DEV_CFGCOUNT :=
  ⟨cmd 0x03 (pw Idx.TPH_RECSEV 2 3) base (.paramDurable Idx.TPH_RECSEV 3 1), 5, Idx.TPH_RECSEV, 1, 3,
      (cmd 0x03 (pw Idx.TPH_RECSEV 2 3) base (.paramDurable Idx.TPH_RECSEV 3 1)).flight 5, by decide +kernel, by decide +kernel,
      by decide +kernel, by decide +kernel, by decide +kernel⟩

theorem wit_ParametersAreReadAndWritten_6 : ∃ (s : State) (tag : Nat),
    s.Admitted tag 0x03 0 ∧ (s.flight tag).widx = Idx.DEV_RESTORE ∧ (s.noteSeq (s.flight tag)).writeForm (s.flight tag) = none ∧
      (s.noteSeq (s.flight tag)).restoreRefused (s.flight tag).wval.toNat = none ∧
      (s.noteSeq (s.flight tag)).writeOwner (s.flight tag) = none :=
  ⟨cmd 0x03 (pw Idx.DEV_RESTORE 4 0x0200) (parked base), 5, ⟨by decide +kernel, by decide +kernel⟩, by decide +kernel,
      by decide +kernel, by decide +kernel, by decide +kernel⟩

/-! Hypotheses of TablesStageAndSwitch. -/

theorem wit_TablesStageAndSwitch_1 : ∃ (s : State) (tag len : Nat),
    s.Admitted tag 0x04 0 ∧ tableLen (getU (s.flight tag).p 0 2) = some len ∧ getU (s.flight tag).p 2 1 = 0 ∧
      1 ≤ getU (s.flight tag).p 8 2 ∧ getU (s.flight tag).p 8 2 ≤ 448 ∧
      getU (s.flight tag).p 4 4 + getU (s.flight tag).p 8 2 ≤ len :=
  ⟨cmd 0x04 (toLe 2 0x0100 ++ [0, 0] ++ toLe 4 3648 ++ toLe 2 448), 5, 4096, ⟨by decide +kernel, by decide +kernel⟩,
      by decide +kernel, by decide +kernel, by decide +kernel, by decide +kernel, by decide +kernel⟩

theorem wit_TablesStageAndSwitch_2 : ∃ (s : State) (tag len : Nat),
    s.Admitted tag 0x05 2 ∧ (s.flight tag).tflag 0 = false ∧ (s.flight tag).tflag 1 = false ∧
      tableLen (getU (s.flight tag).p 0 2) = some len ∧ isBank (getU (s.flight tag).p 0 2) = false ∧
      s.claims (getU (s.flight tag).p 0 2) (s.flight tag).slot = true ∧ 1 ≤ getU (s.flight tag).p 8 2 ∧
      getU (s.flight tag).p 8 2 ≤ 448 ∧ getU (s.flight tag).p 4 4 + getU (s.flight tag).p 8 2 ≤ len :=
  ⟨cmd 0x05 (toLe 2 0x0400 ++ [0, 0] ++ toLe 4 1600 ++ toLe 2 448 ++ [0, 0, 0, 0] ++ [9]) (stagedBy 0x0400 []), 5, 2048,
      ⟨by decide +kernel, by decide +kernel⟩, by decide +kernel, by decide +kernel, by decide +kernel, by decide +kernel,
      by decide +kernel, by decide +kernel, by decide +kernel, by decide +kernel⟩

theorem wit_TablesStageAndSwitch_3 : ∃ (s : State) (tag len : Nat),
    s.Admitted tag 0x05 2 ∧ (s.flight tag).discards = true ∧ tableLen (getU (s.flight tag).p 0 2) = some len ∧
      s.activeBank (getU (s.flight tag).p 0 2) = false ∧ s.claims (getU (s.flight tag).p 0 2) (s.flight tag).slot = true :=
  ⟨cmd 0x05 (toLe 2 0x0400 ++ [2, 0]) (stagedBy 0x0400 []), 5, 2048, ⟨by decide +kernel, by decide +kernel⟩, by decide +kernel,
      by decide +kernel, by decide +kernel, by decide +kernel⟩

theorem wit_TablesStageAndSwitch_4 : ∃ (s : State) (tag len : Nat),
    s.Admitted tag 0x06 2 ∧ tableLen (getU (s.flight tag).p 0 2) = some len ∧ isBank (getU (s.flight tag).p 0 2) = false ∧
      (s.noteSeq (s.flight tag)).claims (getU (s.flight tag).p 0 2) (s.flight tag).slot = true ∧ getU (s.flight tag).p 4 4 = len ∧
      getU (s.flight tag).p 12 4 = bodyCrc (getU (s.flight tag).p 0 2) len ((s.noteSeq (s.flight tag)).staged (getU (s.flight tag).p 0 2)) ∧
      (s.noteSeq (s.flight tag)).bodyRefused (getU (s.flight tag).p 0 2) = none ∧
      (s.noteSeq (s.flight tag)).tableReady (getU (s.flight tag).p 0 2) = true ∧
      (s.noteSeq (s.flight tag)).versionMoved (s.flight tag) (getU (s.flight tag).p 0 2) = false :=
  ⟨cmd 0x06 (toLe 2 0x0700 ++ [0, 0] ++ toLe 4 64 ++ toLe 4 0 ++ toLe 4 (bodyCrc 0x0700 64 [])) (parked (stagedBy 0x0700 [])), 5,
      64, ⟨by decide +kernel, by decide +kernel⟩, by decide +kernel, by decide +kernel, by decide +kernel, by decide +kernel,
      by decide +kernel, by decide +kernel, by decide +kernel, by decide +kernel⟩

theorem wit_TablesStageAndSwitch_5 : ∃ (s : State) (tag tid : Nat) (f : Flight),
    (∃ x ∈ s.dir.tables, x.id = tid) ∧ s.flight? tag = some f ∧ f.phase = .tableSwitch tid ∧ isBank tid = false ∧
      s.switchBoundary tid = true ∧ s.tableReady tid = true ∧ s.versionMoved f tid = false :=
  ⟨cmd 0x06 [] (stagedBy 0x0400 [5]) (.tableSwitch 0x0400), 5, 0x0400,
      (cmd 0x06 [] (stagedBy 0x0400 [5]) (.tableSwitch 0x0400)).flight 5, by decide +kernel, by decide +kernel, by decide +kernel,
      by decide +kernel, by decide +kernel, by decide +kernel, by decide +kernel⟩

theorem wit_TablesStageAndSwitch_6 : ∃ (s : State) (tag tid : Nat) (f : Flight),
    (∃ x ∈ s.dir.tables, x.id = tid) ∧ s.flight? tag = some f ∧ f.phase = .tableDurable tid ∧ s.opCounts = true :=
  ⟨cmd 0x06 [] base (.tableDurable 0x0400), 5, 0x0400, (cmd 0x06 [] base (.tableDurable 0x0400)).flight 5, by decide +kernel,
      by decide +kernel, by decide +kernel, by decide +kernel⟩

/-! Hypotheses of VariablesWaitForTheInputPhase. -/

theorem wit_VariablesWaitForTheInputPhase_1 : ∃ (s : State) (tag : Nat),
    s.Admitted tag 0x08 0 ∧ s.gys.phase = .boundary ∧ 1 ≤ getU (s.flight tag).p 0 2 ∧ getU (s.flight tag).p 0 2 ≤ 15 ∧
      (∀ k < getU (s.flight tag).p 0 2,
      ((s.noteSeq (s.flight tag)).varEntry (getU (s.flight tag).p (2 + 8 * k) 4) (getU (s.flight tag).p (6 + 8 * k) 2) (getU (s.flight tag).p (8 + 8 * k) 2)).2 = .ok) :=
  ⟨cmd 0x08 (toLe 2 1 ++ toLe 4 7 ++ toLe 2 1 ++ toLe 2 0) prog, 5, ⟨by decide +kernel, by decide +kernel⟩, by decide +kernel,
      by decide +kernel, by decide +kernel, by decide +kernel⟩

theorem wit_VariablesWaitForTheInputPhase_2 : ∃ (s : State) (tag : Nat),
    s.Admitted tag 0x09 1 ∧ (s.noteSeq (s.flight tag)).varRefused (s.flight tag) = none :=
  ⟨cmd 0x09 (toLe 4 7 ++ toLe 2 1 ++ [6, 0] ++ toLe 4 0 ++ toLe 4 99) prog, 5, ⟨by decide +kernel, by decide +kernel⟩,
      by decide +kernel⟩

theorem wit_VariablesWaitForTheInputPhase_3 : ∃ (s : State) (tag : Nat),
    s.Admitted tag 0x0A 2 ∧ (s.noteSeq (s.flight tag)).forceRefused (s.flight tag) = none :=
  ⟨cmd 0x0A (toLe 4 7 ++ toLe 2 1 ++ [6, 0] ++ toLe 4 0 ++ toLe 4 99) prog, 5, ⟨by decide +kernel, by decide +kernel⟩,
      by decide +kernel⟩

theorem wit_VariablesWaitForTheInputPhase_4 : ∃ (s : State) (tag : Nat),
    s.Admitted tag 0x0B 2 ∧ (s.flight tag).allForces = false :=
  ⟨cmd 0x0B (toLe 4 7 ++ toLe 2 1 ++ [0, 0]) prog, 5, ⟨by decide +kernel, by decide +kernel⟩, by decide +kernel⟩

theorem wit_VariablesWaitForTheInputPhase_5 : ∃ (s : State) (tag : Nat),
    s.Admitted tag 0x0B 2 ∧ (s.flight tag).allForces = true :=
  ⟨cmd 0x0B (toLe 4 0 ++ toLe 2 0 ++ [1, 0]) prog, 5, ⟨by decide +kernel, by decide +kernel⟩, by decide +kernel⟩

/-! Hypotheses of GroupsOpenCommitAndEnd. -/

theorem wit_GroupsOpenCommitAndEnd_1 : ∃ (s : State) (tag g : Nat),
    g < s.grp.groups.length ∧ s.Admitted tag 0x18 1 ∧ getU (s.flight tag).p 0 1 % 2 = 0 ∧ getU (s.flight tag).p 1 1 = 0 ∧
      s.hostGroups < s.parN Idx.GRP_HOSTMAX ∧ s.freeGroup = some g :=
  ⟨cmd 0x18 [0, 0, 0, 0], 5, 0, by decide +kernel, ⟨by decide +kernel, by decide +kernel⟩, by decide +kernel, by decide +kernel,
      by decide +kernel, by decide +kernel⟩

theorem wit_GroupsOpenCommitAndEnd_2 : ∃ p ∈ [(Instr.parameterWrite, 1), (Instr.geyserVariableWrite, 2), (Instr.nonSafetyFieldOutput, 3), (Instr.profileTarget, 4), (Instr.doorCommand, 5), (Instr.camTableSelection, 6), (Instr.calderaCoefficientSet, 7)],
    ∃ (s : State) (tag g : Nat),
    g < s.grp.groups.length ∧ s.Admitted tag 0x19 0 ∧ getU (s.flight tag).p 5 1 = p.2 ∧ getU (s.flight tag).p 0 1 = g ∧
      (s.noteSeq (s.flight tag)).stageRefused (s.flight tag) = none ∧
      (s.noteSeq (s.flight tag)).actRefused (s.flight tag) (s.group g) (s.flight tag).act = none :=
  ⟨(Instr.parameterWrite, 1), by simp, cmd 0x19 (stage 1 (pw Idx.FIO_RETRYT 4 9000)) (grp3 open3), 5, 3, by decide +kernel,
      ⟨by decide +kernel, by decide +kernel⟩, by decide +kernel, by decide +kernel, by decide +kernel, by decide +kernel⟩

theorem wit_GroupsOpenCommitAndEnd_3 : ∃ (s : State) (g h : Nat),
    g < 8 ∧ g < s.grp.groups.length ∧ s.opCounts = true ∧ (s.group g).state = 1 ∧ (s.group g).owner = .host h ∧
      (s.group g).openedAt + (s.group g).openTmo * 1000 ≤ s.pwr.opTime :=
  ⟨grp3 open3, 3, 0, by decide +kernel, by decide +kernel, by decide +kernel, by decide +kernel, by decide +kernel,
      by decide +kernel⟩

theorem wit_GroupsOpenCommitAndEnd_4 : ∃ (s : State) (tag g : Nat),
    g < s.grp.groups.length ∧ s.Admitted tag 0x1A 1 ∧ getU (s.flight tag).p 0 1 = g ∧ g < 8 ∧
      getU (s.flight tag).p 2 2 = (s.group g).gen ∧ (s.group g).state = 1 ∧ (s.group g).owner = .host (s.flight tag).slot ∧
      (s.group g).cross = false :=
  ⟨cmd 0x1A (toLe 1 3 ++ [0] ++ toLe 2 2) (grp3 open3), 5, 3, by decide +kernel, ⟨by decide +kernel, by decide +kernel⟩,
      by decide +kernel, by decide +kernel, by decide +kernel, by decide +kernel, by decide +kernel, by decide +kernel⟩

theorem wit_GroupsOpenCommitAndEnd_5 : ∃ (s : State) (tag g : Nat),
    g < s.grp.groups.length ∧ s.Admitted tag 0x1B 1 ∧ getU (s.flight tag).p 0 1 = g ∧ g < 8 ∧
      getU (s.flight tag).p 2 2 = (s.group g).gen ∧ (s.group g).state = 1 ∧ (s.group g).owner = .host (s.flight tag).slot :=
  ⟨cmd 0x1B (toLe 1 3 ++ [0] ++ toLe 2 2) (grp3 open3), 5, 3, by decide +kernel, ⟨by decide +kernel, by decide +kernel⟩,
      by decide +kernel, by decide +kernel, by decide +kernel, by decide +kernel, by decide +kernel⟩

theorem wit_GroupsOpenCommitAndEnd_6 : ∃ (s : State) (g : Nat),
    g < 8 ∧ (s.group g).state = 2 ∧ (s.group g).cross = false ∧ (s.group g).top ≠ 3 ∧ s.domainReady (s.group g).top = true ∧
      s.earlierCommit g = false ∧ s.failing none (s.group g).own = none :=
  ⟨grp3 { open3 with state := 2 }, 3, by decide +kernel, by decide +kernel, by decide +kernel, by decide +kernel, by decide +kernel,
      by decide +kernel, by decide +kernel⟩

theorem wit_GroupsOpenCommitAndEnd_7 : ∃ (s : State) (g : Nat),
    g < s.grp.groups.length :=
  ⟨base, 7, by decide +kernel⟩

theorem wit_GroupsOpenCommitAndEnd_8 : ∃ (s : State) (g : Nat),
    g < 8 ∧ (s.group g).mayApply = true ∧ (s.group g).dueDomain ≠ 0 ∧ s.domainReady (s.group g).dueDomain = true :=
  ⟨grp3 { open3 with state := 4, acts := [doorAct] }, 3, by decide +kernel, by decide +kernel, by decide +kernel, by decide +kernel⟩

theorem wit_GroupsOpenCommitAndEnd_9 : ∃ (s : State) (g : Nat) (f : Flight) (h : Nat),
    g < 8 ∧ g < s.grp.groups.length ∧ (s.group g).mayApply = true ∧ (s.group g).allApplied = true ∧ s.opCounts = true ∧
      s.lmp.restarting = false ∧ (s.group g).owner = .host h ∧ s.groupFlight g = some f :=
  ⟨cmd 0x1A [] (grp3 { open3 with state := 4, acts := [{ doorAct with applied := true }] }) (.groupWait 3), 3,
      (cmd 0x1A [] base (.groupWait 3)).flight 5, 0, by decide +kernel, by decide +kernel, by decide +kernel, by decide +kernel,
      by decide +kernel, by decide +kernel, by decide +kernel, by decide +kernel⟩

/-! Hypotheses of CrossDeviceGroupsDecideOnce. -/

theorem wit_CrossDeviceGroupsDecideOnce_1 : ∃ (s : State) (m : GMsg) (g : Nat),
    g < s.grp.groups.length ∧ s.messagesServed = true ∧ s.nextMsg 1 = some m ∧ (s.dropMsg m).partGroup m = none ∧
      s.freeGroup = some g ∧ s.actions + m.acts.length ≤ 512 :=
  ⟨got { peer := 9, type := 1, group := 1, gen := 4, coord := 9, t0 := 0, acts := [doorAct] },
      { peer := 9, type := 1, group := 1, gen := 4, coord := 9, t0 := 0, acts := [doorAct] }, 0, by decide +kernel,
      by decide +kernel, by decide +kernel, by decide +kernel, by decide +kernel, by decide +kernel⟩

theorem wit_CrossDeviceGroupsDecideOnce_2 : ∃ (s : State) (g : Nat),
    g < 8 ∧ g < s.grp.groups.length ∧ s.messagesServed = true ∧ (s.group g).state = 3 ∧ (s.group g).votes = [] ∧
      s.domainReady (s.group g).top = true :=
  ⟨grp3 { state := 3, gen := 2, owner := .remote 9, cross := true, parts := [9], coordG := 1, coordGen := 4, holdEnd := 50 }, 3,
      by decide +kernel, by decide +kernel, by decide +kernel, by decide +kernel, by decide +kernel, by decide +kernel⟩

theorem wit_CrossDeviceGroupsDecideOnce_3 : ∃ (s : State) (m : GMsg) (g : Nat),
    g < s.grp.groups.length ∧ s.messagesServed = true ∧ s.nextMsg 5 = some m ∧ (s.dropMsg m).partGroup m = some g ∧
      (s.group g).state = 3 :=
  ⟨got { peer := 9, type := 5, group := 1, gen := 4, coord := 9, t0 := 0 } (grp3 { state := 3, gen := 2, owner := .remote 9, cross := true, parts := [9], coordG := 1, coordGen := 4, holdEnd := 50 }),
      { peer := 9, type := 5, group := 1, gen := 4, coord := 9, t0 := 0 }, 3, by decide +kernel, by decide +kernel,
      by decide +kernel, by decide +kernel, by decide +kernel⟩

theorem wit_CrossDeviceGroupsDecideOnce_4 : ∃ (s : State) (g : Nat),
    g < 8 ∧ g < s.grp.groups.length ∧ s.messagesServed = true ∧ (s.group g).state = 3 ∧ (s.group g).holdEnd ≤ s.rng.time :=
  ⟨{ grp3 { state := 3, gen := 2, owner := .remote 9, cross := true, parts := [9], coordG := 1, coordGen := 4, holdEnd := 50 } with rng.time := 50 },
      3, by decide +kernel, by decide +kernel, by decide +kernel, by decide +kernel, by decide +kernel⟩

theorem wit_CrossDeviceGroupsDecideOnce_5 : ∃ (s : State) (m : GMsg) (g : Nat),
    s.messagesServed = true ∧ s.nextMsg 3 = some m ∧ s.partGroup m = some g ∧ (s.group g).state = 3 ∧ (s.group g).held = true ∧
      s.domainReady (s.group g).top = true :=
  ⟨got { peer := 9, type := 3, group := 1, gen := 4, coord := 9, t0 := 0 } (grp3 { state := 3, gen := 2, owner := .remote 9, cross := true, parts := [9], coordG := 1, coordGen := 4, held := true, holdEnd := 50 }),
      { peer := 9, type := 3, group := 1, gen := 4, coord := 9, t0 := 0 }, 3, by decide +kernel, by decide +kernel,
      by decide +kernel, by decide +kernel, by decide +kernel, by decide +kernel⟩

theorem wit_CrossDeviceGroupsDecideOnce_6 : ∃ (s : State) (m : GMsg),
    m.group < s.grp.groups.length ∧ s.messagesServed = true ∧ s.nextMsg 2 = some m ∧ (s.dropMsg m).coordGroup m 2 = true ∧
      s.rng.time ≤ (s.group m.group).t0 + ((s.group m.group).xhold - 20) * 1000 ∧ (∀ v ∈ (s.group m.group).votes, v.1 ≠ m.peer) :=
  ⟨got { peer := 9, type := 2, group := 3, gen := 2, coord := 5, t0 := 1000 } (grp3 { open3 with state := 2, cross := true, parts := [9, 11], t0 := 1000 }),
      { peer := 9, type := 2, group := 3, gen := 2, coord := 5, t0 := 1000 }, by decide +kernel, by decide +kernel,
      by decide +kernel, by decide +kernel, by decide +kernel, by decide +kernel⟩

theorem wit_CrossDeviceGroupsDecideOnce_7 : ∃ (s : State) (g h : Nat),
    g < 8 ∧ g < s.grp.groups.length ∧ s.messagesServed = true ∧ (s.group g).state = 2 ∧ (s.group g).cross = true ∧
      (s.group g).owner = .host h ∧ s.domainReady (s.group g).top = true ∧ (s.group g).parts.length ≤ (s.group g).votes.length ∧
      (∀ v ∈ (s.group g).votes, v.2.1 = 0) ∧ (∀ p ∈ (s.group g).parts, ∃ v ∈ (s.group g).votes, v.1 = p) ∧
      s.failing none (s.group g).own = none :=
  ⟨grp3 { open3 with state := 2, cross := true, parts := [9, 11], votes := [(9, 0, 0), (11, 0, 0)], t0 := 1000 }, 3, 0,
      by decide +kernel, by decide +kernel, by decide +kernel, by decide +kernel, by decide +kernel, by decide +kernel,
      by decide +kernel, by decide +kernel, by decide +kernel, by decide +kernel, by decide +kernel⟩

theorem wit_CrossDeviceGroupsDecideOnce_8 : ∃ (s : State) (m : GMsg),
    m.group < s.grp.groups.length ∧ s.messagesServed = true ∧ s.nextMsg 4 = some m ∧ (s.dropMsg m).coordGroup m 4 = true ∧
      m.peer ∉ (s.group m.group).acks ∧ (s.group m.group).acks.length + 1 < (s.group m.group).parts.length :=
  ⟨got { peer := 9, type := 4, group := 3, gen := 2, coord := 5, t0 := 1000 } (grp3 { open3 with state := 4, cross := true, parts := [9, 11], t0 := 1000 }),
      { peer := 9, type := 4, group := 3, gen := 2, coord := 5, t0 := 1000 }, by decide +kernel, by decide +kernel,
      by decide +kernel, by decide +kernel, by decide +kernel, by decide +kernel⟩

theorem wit_CrossDeviceGroupsDecideOnce_9 : ∃ (s : State) (g : Nat),
    g < 8 ∧ s.messagesServed = true ∧ s.commitRepeats g = true ∧ (s.group g).lastSent + (s.group g).xrepeat * 1000 ≤ s.rng.time :=
  ⟨{ grp3 { open3 with state := 4, cross := true, parts := [9, 11], t0 := 1000 } with rng.time := 6000 }, 3, by decide +kernel,
      by decide +kernel, by decide +kernel, by decide +kernel⟩

theorem wit_CrossDeviceGroupsDecideOnce_10 : ∃ (s : State) (g h : Nat),
    g < 8 ∧ s.messagesServed = true ∧ (s.group g).state = 4 ∧ (s.group g).cross = true ∧ (s.group g).owner = .host h ∧
      (s.group g).acks.length < (s.group g).parts.length ∧ (s.group g).t0 + (s.group g).xhold * 1000 ≤ s.rng.time :=
  ⟨{ grp3 { open3 with state := 4, cross := true, parts := [9, 11], t0 := 1000 } with rng.time := 101000 }, 3, 0, by decide +kernel,
      by decide +kernel, by decide +kernel, by decide +kernel, by decide +kernel, by decide +kernel, by decide +kernel⟩

theorem wit_CrossDeviceGroupsDecideOnce_11 : ∃ (s : State) (g : Nat) (ps : List Nat),
    g < s.grp.groups.length :=
  ⟨base, 0, [9], by decide +kernel⟩

/-! Hypotheses of CommandAndSecurityWritesAct. -/

theorem wit_CommandAndSecurityWritesAct_1 : ∃ (s : State) (tag : Nat),
    s.Admitted tag 0x03 0 ∧ (s.flight tag).widx = Idx.DSP_PREDRST ∧ (s.noteSeq (s.flight tag)).writeForm (s.flight tag) = none ∧
      (s.noteSeq (s.flight tag)).writeOwner (s.flight tag) = none :=
  ⟨cmd 0x03 (pw Idx.DSP_PREDRST 2 1), 5, ⟨by decide +kernel, by decide +kernel⟩, by decide +kernel, by decide +kernel,
      by decide +kernel⟩

theorem wit_CommandAndSecurityWritesAct_2 : ∃ (s : State) (tag : Nat),
    s.Admitted tag 0x03 0 ∧ (s.flight tag).widx = Idx.TPH_CLEAR ∧ (s.noteSeq (s.flight tag)).writeForm (s.flight tag) = none ∧
      (s.noteSeq (s.flight tag)).writeOwner (s.flight tag) = none :=
  ⟨cmd 0x03 (pw Idx.TPH_CLEAR 2 1), 5, ⟨by decide +kernel, by decide +kernel⟩, by decide +kernel, by decide +kernel,
      by decide +kernel⟩

theorem wit_CommandAndSecurityWritesAct_3 : ∃ (s : State) (tag b j : Nat),
    b < 2 ∧ s.Admitted tag 0x03 0 ∧ (s.flight tag).widx = Idx.CANb_CANCEL b ∧ (s.flight tag).wval = j ∧ 2 ≤ j ∧
      j < (s.can b).objs.length ∧ (s.cobj b j).bus = none ∧ (s.cobj b j).pend.isSome = true ∧
      (s.noteSeq (s.flight tag)).writeForm (s.flight tag) = none ∧ (s.noteSeq (s.flight tag)).writeOwner (s.flight tag) = none :=
  ⟨cmd 0x03 (pw (Idx.CANb_CANCEL 1) 2 3) { base with can1.objs := (List.replicate 128 {}).set 3 { pend := some [1] } }, 5, 1, 3,
      by decide +kernel, ⟨by decide +kernel, by decide +kernel⟩, by decide +kernel, by decide +kernel, by decide +kernel,
      by decide +kernel, by decide +kernel, by decide +kernel, by decide +kernel, by decide +kernel⟩

theorem wit_CommandAndSecurityWritesAct_4 : ∃ (s : State) (tag b : Nat) (v : Int) (f : Flight),
    b < 2 ∧ s.flight? tag = some f ∧ f.phase = .paramApply (Idx.CANb_CFG b) v ∧ f.widx = Idx.CANb_CFG b ∧
      s.parBit (Idx.CANb_CFG b) 0 = true ∧ v.toNat.testBit 0 = false ∧ s.writeWaits f (Idx.CANb_CFG b) = false ∧
      s.busIdle b = true ∧ s.crossRange (Idx.CANb_CFG b) v = true ∧ s.writeOwner f = none ∧
      s.ownerAllows (Idx.CANb_CFG b) v = true :=
  ⟨cmd 0x03 (pw (Idx.CANb_CFG 0) 2 0) (withPars [(Idx.CANb_CFG 0, 1)]) (.paramApply (Idx.CANb_CFG 0) 0), 5, 0, 0,
      (cmd 0x03 (pw (Idx.CANb_CFG 0) 2 0) base (.paramApply (Idx.CANb_CFG 0) 0)).flight 5, by decide +kernel, by decide +kernel,
      by decide +kernel, by decide +kernel, by decide +kernel, by decide +kernel, by decide +kernel, by decide +kernel,
      by decide +kernel, by decide +kernel, by decide +kernel⟩

theorem wit_CommandAndSecurityWritesAct_5 : ∃ (s : State) (tag b : Nat),
    b < 4 ∧ b < s.cle.traces.length ∧ s.Admitted tag 0x03 0 ∧ (s.flight tag).widx = Idx.CLE_TRbCFG b ∧
      (s.flight tag).wval.toNat.testBit 0 = true ∧ (s.traceSignals b).getD 0 0xFFFF ≠ 0xFFFF ∧
      ((fieldOf (s.flight tag).wval.toNat 2 1 = 0 ∨ fieldOf (s.flight tag).wval.toNat 2 1 = 3 ∨ s.parN (Idx.CLE_TRbTRIG b) % 256 ≠ 18)) ∧
      s.parBit (Idx.CLE_TRbCFG b) 0 = false ∧ (s.flight tag).wcheck = false ∧
      (s.noteSeq (s.flight tag)).writeForm (s.flight tag) = none :=
  ⟨cmd 0x03 (pw (Idx.CLE_TRbCFG 3) 6 1) (withPars [(Idx.CLE_TRbSIG01 3, 0xFFFF0000)]), 5, 3, by decide +kernel, by decide +kernel,
      ⟨by decide +kernel, by decide +kernel⟩, by decide +kernel, by decide +kernel, by decide +kernel, by decide +kernel,
      by decide +kernel, by decide +kernel, by decide +kernel⟩

theorem wit_CommandAndSecurityWritesAct_6 : ∃ (s : State) (tag b : Nat),
    b < 4 ∧ b < s.cle.traces.length ∧ s.Admitted tag 0x03 0 ∧ (s.flight tag).widx = Idx.CLE_TRbCFG b ∧
      s.parBit (Idx.CLE_TRbCFG b) 0 = true ∧ (s.flight tag).wval.toNat.testBit 0 = false ∧
      (s.flight tag).wval.toNat / 2 = s.parN (Idx.CLE_TRbCFG b) / 2 ∧ (s.flight tag).wcheck = false ∧
      (s.noteSeq (s.flight tag)).writeForm (s.flight tag) = none :=
  ⟨cmd 0x03 (pw (Idx.CLE_TRbCFG 0) 6 0) (withPars [(Idx.CLE_TRbCFG 0, 1)]), 5, 0, by decide +kernel, by decide +kernel,
      ⟨by decide +kernel, by decide +kernel⟩, by decide +kernel, by decide +kernel, by decide +kernel, by decide +kernel,
      by decide +kernel, by decide +kernel⟩

theorem wit_CommandAndSecurityWritesAct_7 : ∃ (s : State) (tag : Nat) (upper : Bool),
    s.Admitted tag 0x03 0 ∧ (s.flight tag).widx = (if upper then Idx.SHF_ZHI else Idx.SHF_ZLO) ∧ s.par Idx.SHF_ENABLE = 0 ∧
      (s.noteSeq (s.flight tag)).writeForm (s.flight tag) = none ∧ (s.noteSeq (s.flight tag)).writeOwner (s.flight tag) = none :=
  ⟨cmd 0x03 (pw Idx.SHF_ZHI 7 1000000), 5, true, ⟨by decide +kernel, by decide +kernel⟩, by decide +kernel, by decide +kernel,
      by decide +kernel, by decide +kernel⟩

theorem wit_CommandAndSecurityWritesAct_8 (h : Config.ed448KeyOk (leNat (padTo 57 [])) = true) : ∃ (s : State) (tag : Nat),
    s.host.slots.length = 8 ∧ (s.flight tag).slot < 8 ∧ s.Admitted tag 0x03 0 ∧ (s.flight tag).widx = Idx.SEC_ACTION ∧
      (s.flight tag).actCode = 1 ∧ (s.noteSeq (s.flight tag)).writeRefused (s.flight tag) = none ∧
      (s.noteSeq (s.flight tag)).keyRefused (s.flight tag) ((s.noteSeq (s.flight tag)).ownerAllowed (s.flight tag)) 57 = none := by
  have c := secAction_check 1 (stageCheck (padTo 57 [])) base (by decide) (stageCheck_lt _)
  refine ⟨secAction 1 (stageCheck (padTo 57 [])) base, 5, by decide +kernel, by decide +kernel, ⟨by decide +kernel,
      by decide +kernel⟩,
    by decide +kernel, c.1, action_taken _ _ 1 _ (by decide) (stageCheck_lt _) (secAction_wval 1 _ _ (by decide) (stageCheck_lt _))
      (by decide +kernel) (by decide +kernel) (by decide +kernel) (by decide +kernel) (by decide +kernel) (by decide +kernel), ?_⟩
  exact keyRefused_none _ _ _ _ _ (by decide +kernel) rfl c.2 (fun _ => h)

theorem wit_CommandAndSecurityWritesAct_9 (h : Config.ed448KeyOk (leNat (padTo 57 [])) = true) : ∃ (s : State) (tag : Nat),
    (s.flight tag).slot < s.host.slots.length ∧ s.Admitted tag 0x03 0 ∧ (s.flight tag).widx = Idx.SEC_ACTION ∧
      (s.flight tag).actCode = 2 ∧ (s.noteSeq (s.flight tag)).writeRefused (s.flight tag) = none ∧
      (s.noteSeq (s.flight tag)).keyRefused (s.flight tag) (decide (3 ≤ s.privOf (s.flight tag).slot)) 57 = none := by
  have c := secAction_check 2 (stageCheck (padTo 57 [])) base (by decide) (stageCheck_lt _)
  refine ⟨secAction 2 (stageCheck (padTo 57 [])) base, 5, by decide +kernel, ⟨by decide +kernel, by decide +kernel⟩,
    by decide +kernel, c.1, action_taken _ _ 2 _ (by decide) (stageCheck_lt _) (secAction_wval 2 _ _ (by decide) (stageCheck_lt _))
      (by decide +kernel) (by decide +kernel) (by decide +kernel) (by decide +kernel) (by decide +kernel) (by decide +kernel), ?_⟩
  exact keyRefused_none _ _ _ _ _ (by decide +kernel) rfl c.2 (fun _ => h)

theorem wit_CommandAndSecurityWritesAct_10 : ∃ (s : State) (tag : Nat),
    (s.flight tag).slot < s.host.slots.length ∧ s.Admitted tag 0x03 0 ∧ (s.flight tag).widx = Idx.SEC_ACTION ∧
      (s.flight tag).actCode = 3 ∧ s.trusted (s.flight tag).slot = true ∧
      (s.noteSeq (s.flight tag)).writeRefused (s.flight tag) = none ∧
      (s.noteSeq (s.flight tag)).keyRefused (s.flight tag) (decide (3 ≤ s.privOf (s.flight tag).slot)) 32 = none := by
  have c := secAction_check 3 (stageCheck (padTo 32 [])) base (by decide) (stageCheck_lt _)
  refine ⟨secAction 3 (stageCheck (padTo 32 [])) base, 5, by decide +kernel, ⟨by decide +kernel, by decide +kernel⟩,
    by decide +kernel, c.1, by decide +kernel,
      action_taken _ _ 3 _ (by decide) (stageCheck_lt _) (secAction_wval 3 _ _ (by decide) (stageCheck_lt _))
      (by decide +kernel) (by decide +kernel) (by decide +kernel) (by decide +kernel) (by decide +kernel) (by decide +kernel), ?_⟩
  exact keyRefused_none _ _ _ _ _ (by decide +kernel) rfl c.2 (fun n => absurd n (by decide))

theorem wit_CommandAndSecurityWritesAct_11 : ∃ (s : State) (tag k : Nat),
    (s.flight tag).slot < s.host.slots.length ∧ s.Admitted tag 0x03 0 ∧ (s.flight tag).widx = Idx.SEC_ACTION ∧
      (s.flight tag).actCode = 4 ∧ 3 ≤ s.privOf (s.flight tag).slot ∧ s.sec.domainNext = some k ∧
      (s.flight tag).actCheck = kidOf 32 s.sec.domainNext ∧ (s.noteSeq (s.flight tag)).writeRefused (s.flight tag) = none := by
  have l : kidOf 32 (some 9) < 2 ^ 32 := Nat.mod_lt _ (by decide)
  have c := secAction_check 4 (kidOf 32 (some 9)) { base with sec.domainNext := some 9 } (by decide) l
  exact ⟨secAction 4 (kidOf 32 (some 9)) { base with sec.domainNext := some 9 }, 5, 9, by decide +kernel,
    ⟨by decide +kernel, by decide +kernel⟩, by decide +kernel, c.1, by decide +kernel, rfl, c.2,
    action_taken _ _ 4 _ (by decide) l (secAction_wval 4 _ _ (by decide) l)
      (by decide +kernel) (by decide +kernel) (by decide +kernel) (by decide +kernel) (by decide +kernel) (by decide +kernel)⟩

theorem wit_CommandAndSecurityWritesAct_12 : ∃ (s : State) (p : Nat × Nat),
    s.sec.domainPrev = some p ∧ p.2 + 1000 * s.parN Idx.SEC_DKGRACE ≤ s.pwr.opTime :=
  ⟨{ base with sec.domainPrev := some (77, 0) }, (77, 0), by decide +kernel, by decide +kernel⟩

theorem wit_CommandAndSecurityWritesAct_13
    (h : Config.ed448Verify Config.vendorRoot ((padTo 146 (token 1)).take 32) (getU (padTo 146 (token 1)) 32 114) = true) :
    ∃ (s : State) (tag : Nat),
    (s.flight tag).slot < s.host.slots.length ∧ s.Admitted tag 0x03 0 ∧ (s.flight tag).widx = Idx.SEC_ACTION ∧
      (s.flight tag).actCode = 5 ∧ (s.noteSeq (s.flight tag)).writeRefused (s.flight tag) = none ∧
      (s.noteSeq (s.flight tag)).tokenRefused (s.flight tag) [1, 2] = none := by
  have l := stageCheck_lt (padTo 146 (token 1))
  have c := secAction_check 5 (stageCheck (padTo 146 (token 1))) (loading 1) (by decide) l
  refine ⟨secAction 5 (stageCheck (padTo 146 (token 1))) (loading 1), 5, by decide +kernel,
    ⟨by decide +kernel, by decide +kernel⟩, by decide +kernel, c.1,
      action_taken _ _ 5 _ (by decide) l (secAction_wval 5 _ _ (by decide) l)
      (by decide +kernel) (by decide +kernel) (by decide +kernel) (by decide +kernel) (by decide +kernel) (by decide +kernel), ?_⟩
  exact tokenRefused_none _ _ _ (padTo 146 (token 1)) rfl rfl c.2 (loading_ok 1 5 [1, 2] rfl rfl h)

theorem wit_CommandAndSecurityWritesAct_14
    (h : Config.ed448Verify Config.vendorRoot ((padTo 146 (token 3)).take 32) (getU (padTo 146 (token 3)) 32 114) = true) :
    ∃ (s : State) (tag : Nat),
    (s.flight tag).slot < s.host.slots.length ∧ s.Admitted tag 0x03 0 ∧ (s.flight tag).widx = Idx.SEC_ACTION ∧
      (s.flight tag).actCode = 6 ∧ (s.noteSeq (s.flight tag)).writeRefused (s.flight tag) = none ∧
      (s.noteSeq (s.flight tag)).tokenRefused (s.flight tag) [3] = none := by
  have l := stageCheck_lt (padTo 146 (token 3))
  have c := secAction_check 6 (stageCheck (padTo 146 (token 3))) (loading 3) (by decide) l
  refine ⟨secAction 6 (stageCheck (padTo 146 (token 3))) (loading 3), 5, by decide +kernel,
    ⟨by decide +kernel, by decide +kernel⟩, by decide +kernel, c.1,
      action_taken _ _ 6 _ (by decide) l (secAction_wval 6 _ _ (by decide) l)
      (by decide +kernel) (by decide +kernel) (by decide +kernel) (by decide +kernel) (by decide +kernel) (by decide +kernel), ?_⟩
  exact tokenRefused_none _ _ _ (padTo 146 (token 3)) rfl rfl c.2 (loading_ok 3 6 [3] rfl rfl h)

theorem wit_CommandAndSecurityWritesAct_15 : ∃ (s : State) (tag : Nat),
    s.host.slots.length = 8 ∧ s.Admitted tag 0x03 0 ∧ (s.flight tag).widx = Idx.SEC_MINEPOCH ∧
      s.par Idx.SEC_MINEPOCH ≠ (s.flight tag).wval ∧ (s.noteSeq (s.flight tag)).writeForm (s.flight tag) = none ∧
      (s.noteSeq (s.flight tag)).writeOwner (s.flight tag) = none :=
  ⟨cmd 0x03 (pw Idx.SEC_MINEPOCH 6 4), 5, by decide +kernel, ⟨by decide +kernel, by decide +kernel⟩, by decide +kernel,
      by decide +kernel, by decide +kernel, by decide +kernel⟩

/-! Hypotheses of BooleanInstructions. -/

theorem wit_BooleanInstructions_1 : ∃ s : State,
    s.Executes 0x00 0 0 :=
  ⟨exe 0 0 0, ⟨by decide +kernel, by decide +kernel⟩⟩

theorem wit_BooleanInstructions_2 : ∃ (s : State) (m x : Nat) (b : Bool),
    s.Executes 0x01 m x ∧ s.boolOp m x = .ok b :=
  ⟨exe 1 0 1, 0, 1, true, ⟨by decide +kernel, by decide +kernel⟩, ok_of (by decide +kernel)⟩

theorem wit_BooleanInstructions_3 : ∃ (s : State) (m x : Nat) (b : Bool),
    s.Executes 0x02 m x ∧ s.boolOp m x = .ok b :=
  ⟨exe 2 0 1, 0, 1, true, ⟨by decide +kernel, by decide +kernel⟩, ok_of (by decide +kernel)⟩

theorem wit_BooleanInstructions_4 : ∃ (s : State) (m x : Nat) (b : Bool),
    s.Executes 0x03 m x ∧ s.boolOp m x = .ok b :=
  ⟨exe 3 0 1, 0, 1, true, ⟨by decide +kernel, by decide +kernel⟩, ok_of (by decide +kernel)⟩

theorem wit_BooleanInstructions_5 : ∃ (s : State) (m x : Nat) (b : Bool),
    s.Executes 0x04 m x ∧ s.boolOp m x = .ok b :=
  ⟨exe 4 0 1, 0, 1, true, ⟨by decide +kernel, by decide +kernel⟩, ok_of (by decide +kernel)⟩

theorem wit_BooleanInstructions_6 : ∃ (s : State) (m x : Nat) (b : Bool),
    s.Executes 0x05 m x ∧ s.boolOp m x = .ok b :=
  ⟨exe 5 0 1, 0, 1, true, ⟨by decide +kernel, by decide +kernel⟩, ok_of (by decide +kernel)⟩

theorem wit_BooleanInstructions_7 : ∃ (s : State) (m x : Nat) (b : Bool),
    s.Executes 0x06 m x ∧ s.boolOp m x = .ok b :=
  ⟨exe 6 0 1, 0, 1, true, ⟨by decide +kernel, by decide +kernel⟩, ok_of (by decide +kernel)⟩

theorem wit_BooleanInstructions_8 : ∃ (s : State) (m x : Nat) (b : Bool),
    s.Executes 0x07 m x ∧ s.boolOp m x = .ok b :=
  ⟨exe 7 0 1, 0, 1, true, ⟨by decide +kernel, by decide +kernel⟩, ok_of (by decide +kernel)⟩

theorem wit_BooleanInstructions_9 : ∃ (s : State) (m x a : Nat),
    memWf zeroByte s.gys.mem = true ∧ s.Executes 0x08 m x ∧ m ≠ 0 ∧ s.bitAddr m x = .ok a ∧ gysWritable (a / 8) = true ∧
      s.gys.dirty.length < 1024 :=
  ⟨exe 0x08 1 360448, 1, 360448, 360448, by decide +kernel, ⟨by decide +kernel, by decide +kernel⟩, by decide +kernel,
      ok_of (by decide +kernel), by decide +kernel, by decide +kernel⟩

theorem wit_BooleanInstructions_10 : ∃ (s : State) (m x a : Nat),
    memWf zeroByte s.gys.mem = true ∧ s.Executes 0x09 m x ∧ m ≠ 0 ∧ s.bitAddr m x = .ok a ∧ gysWritable (a / 8) = true ∧
      s.gys.dirty.length < 1024 :=
  ⟨exe 0x09 1 360448, 1, 360448, 360448, by decide +kernel, ⟨by decide +kernel, by decide +kernel⟩, by decide +kernel,
      ok_of (by decide +kernel), by decide +kernel, by decide +kernel⟩

theorem wit_BooleanInstructions_11 : ∃ (s : State) (m x a : Nat),
    memWf zeroByte s.gys.mem = true ∧ s.Executes 0x0A m x ∧ m ≠ 0 ∧ s.bitAddr m x = .ok a ∧ s.gys.ba = true ∧
      gysWritable (a / 8) = true ∧ s.gys.dirty.length < 1024 :=
  ⟨{ exe 0x0A 1 360448 with gys.ba := true }, 1, 360448, 360448, by decide +kernel, ⟨by decide +kernel, by decide +kernel⟩,
      by decide +kernel, ok_of (by decide +kernel), by decide +kernel, by decide +kernel, by decide +kernel⟩

theorem wit_BooleanInstructions_12 : ∃ (s : State) (m x a : Nat),
    s.Executes 0x0A m x ∧ m ≠ 0 ∧ s.bitAddr m x = .ok a ∧ s.gys.ba = false :=
  ⟨exe 0x0A 1 360448, 1, 360448, 360448, ⟨by decide +kernel, by decide +kernel⟩, by decide +kernel, ok_of (by decide +kernel),
      by decide +kernel⟩

theorem wit_BooleanInstructions_13 : ∃ (s : State) (m x a : Nat),
    memWf zeroByte s.gys.mem = true ∧ s.Executes 0x0B m x ∧ m ≠ 0 ∧ s.bitAddr m x = .ok a ∧ s.gys.ba = true ∧
      gysWritable (a / 8) = true ∧ s.gys.dirty.length < 1024 :=
  ⟨{ exe 0x0B 1 360448 with gys.ba := true }, 1, 360448, 360448, by decide +kernel, ⟨by decide +kernel, by decide +kernel⟩,
      by decide +kernel, ok_of (by decide +kernel), by decide +kernel, by decide +kernel, by decide +kernel⟩

theorem wit_BooleanInstructions_14 : ∃ (s : State) (m x a : Nat),
    s.Executes 0x0B m x ∧ m ≠ 0 ∧ s.bitAddr m x = .ok a ∧ s.gys.ba = false :=
  ⟨exe 0x0B 1 360448, 1, 360448, 360448, ⟨by decide +kernel, by decide +kernel⟩, by decide +kernel, ok_of (by decide +kernel),
      by decide +kernel⟩

theorem wit_BooleanInstructions_15 : ∃ (s : State) (m x a : Nat),
    memWf zeroByte s.gys.mem = true ∧ s.Executes 0x0C m x ∧ m ≠ 0 ∧ s.bitAddr m x = .ok a ∧ gysWritable (a / 8) = true ∧
      s.gys.dirty.length < 1024 :=
  ⟨exe 0x0C 1 360448, 1, 360448, 360448, by decide +kernel, ⟨by decide +kernel, by decide +kernel⟩, by decide +kernel,
      ok_of (by decide +kernel), by decide +kernel, by decide +kernel⟩

/-! Hypotheses of StacksJumpsAndFaults. -/

theorem wit_StacksJumpsAndFaults_1 : ∃ s : State,
    s.Executes 0x0D 0 0 ∧ s.gys.bstack.length < 8 :=
  ⟨{ exe 0x0D 0 0 with gys.bstack := List.replicate 7 true }, ⟨by decide +kernel, by decide +kernel⟩, by decide +kernel⟩

theorem wit_StacksJumpsAndFaults_2 : ∃ (s : State) (b : Bool) (bs : List Bool),
    s.Executes 0x0E 0 0 ∧ s.gys.bstack = b :: bs :=
  ⟨{ exe 0x0E 0 0 with gys.bstack := [true] }, true, [], ⟨by decide +kernel, by decide +kernel⟩, by decide +kernel⟩

theorem wit_StacksJumpsAndFaults_3 : ∃ (s : State) (b : Bool) (bs : List Bool),
    s.Executes 0x0F 0 0 ∧ s.gys.bstack = b :: bs :=
  ⟨{ exe 0x0F 0 0 with gys.bstack := [true] }, true, [], ⟨by decide +kernel, by decide +kernel⟩, by decide +kernel⟩

theorem wit_StacksJumpsAndFaults_4 : ∃ (s : State) (x : Nat),
    s.Executes 0x2A 0 x ∧ x < 2 ^ 17 :=
  ⟨exe 0x2A 0 131071, 131071, ⟨by decide +kernel, by decide +kernel⟩, by decide +kernel⟩

theorem wit_StacksJumpsAndFaults_5 : ∃ (s : State) (x : Nat),
    s.Executes 0x2B 0 x ∧ x < 2 ^ 17 :=
  ⟨exe 0x2B 0 131071, 131071, ⟨by decide +kernel, by decide +kernel⟩, by decide +kernel⟩

theorem wit_StacksJumpsAndFaults_6 : ∃ (s : State) (x : Nat),
    s.Executes 0x2C 0 x ∧ x < 2 ^ 17 :=
  ⟨exe 0x2C 0 0, 0, ⟨by decide +kernel, by decide +kernel⟩, by decide +kernel⟩

theorem wit_StacksJumpsAndFaults_7 : ∃ (s : State) (x : Nat),
    s.Executes 0x2D 0 x ∧ x < 2 ^ 17 ∧ s.gys.rstack.length < 16 :=
  ⟨{ exe 0x2D 0 9 with gys.rstack := List.replicate 15 1 }, 9, ⟨by decide +kernel, by decide +kernel⟩, by decide +kernel,
      by decide +kernel⟩

theorem wit_StacksJumpsAndFaults_8 : ∃ (s : State) (a : Nat) (as : List Nat),
    s.Executes 0x2E 0 0 ∧ s.gys.rstack = a :: as :=
  ⟨{ exe 0x2E 0 0 with gys.rstack := [4, 5] }, 4, [5], ⟨by decide +kernel, by decide +kernel⟩, by decide +kernel⟩

theorem wit_StacksJumpsAndFaults_9 : ∃ s : State,
    s.Executes 0x0D 0 0 ∧ 8 ≤ s.gys.bstack.length :=
  ⟨{ exe 0x0D 0 0 with gys.bstack := List.replicate 8 true }, ⟨by decide +kernel, by decide +kernel⟩, by decide +kernel⟩

theorem wit_StacksJumpsAndFaults_10 : ∃ s : State,
    s.Executes 0x0E 0 0 ∧ s.gys.bstack = [] :=
  ⟨exe 0x0E 0 0, ⟨by decide +kernel, by decide +kernel⟩, by decide +kernel⟩

theorem wit_StacksJumpsAndFaults_11 : ∃ s : State,
    s.Executes 0x0F 0 0 ∧ s.gys.bstack = [] :=
  ⟨exe 0x0F 0 0, ⟨by decide +kernel, by decide +kernel⟩, by decide +kernel⟩

theorem wit_StacksJumpsAndFaults_12 : ∃ (s : State) (x : Nat),
    s.Executes 0x2D 0 x ∧ x < 2 ^ 17 ∧ 16 ≤ s.gys.rstack.length :=
  ⟨{ exe 0x2D 0 9 with gys.rstack := List.replicate 16 1 }, 9, ⟨by decide +kernel, by decide +kernel⟩, by decide +kernel,
      by decide +kernel⟩

theorem wit_StacksJumpsAndFaults_13 : ∃ s : State,
    s.Executes 0x2E 0 0 ∧ s.gys.rstack = [] :=
  ⟨exe 0x2E 0 0, ⟨by decide +kernel, by decide +kernel⟩, by decide +kernel⟩

theorem wit_StacksJumpsAndFaults_14 : ∃ (s : State),
    s.Executes 0x2F 0 2 :=
  ⟨exe 0x2F 0 2, ⟨by decide +kernel, by decide +kernel⟩⟩

theorem wit_StacksJumpsAndFaults_15 : ∃ (s : State) (m x : Nat),
    s.gysAt 0x00 m x = true ∧ s.codeLen ≤ s.gys.pc :=
  ⟨{ exe 0 0 0 with gys.pc := 1 }, 0, 0, by decide +kernel, by decide +kernel⟩

/-! Hypotheses of WordInstructions. -/

theorem wit_WordInstructions_1 : ∃ (s : State) (m x : Nat) (v : Word),
    s.Executes 0x10 m x ∧ s.wordOp m x = .ok v :=
  ⟨exe 16 0 31, 0, 31, 31#32, ⟨by decide +kernel, by decide +kernel⟩, ok_of (by decide +kernel)⟩

theorem wit_WordInstructions_2 : ∃ (s : State) (m x : Nat) (v : Word),
    s.Executes 0x12 m x ∧ s.wordOp m x = .ok v :=
  ⟨exe 18 0 31, 0, 31, 31#32, ⟨by decide +kernel, by decide +kernel⟩, ok_of (by decide +kernel)⟩

theorem wit_WordInstructions_3 : ∃ (s : State) (m x : Nat) (v : Word),
    s.Executes 0x18 m x ∧ s.wordOp m x = .ok v :=
  ⟨exe 24 0 31, 0, 31, 31#32, ⟨by decide +kernel, by decide +kernel⟩, ok_of (by decide +kernel)⟩

theorem wit_WordInstructions_4 : ∃ (s : State) (m x : Nat) (v : Word),
    s.Executes 0x19 m x ∧ s.wordOp m x = .ok v :=
  ⟨exe 25 0 31, 0, 31, 31#32, ⟨by decide +kernel, by decide +kernel⟩, ok_of (by decide +kernel)⟩

theorem wit_WordInstructions_5 : ∃ (s : State) (m x : Nat) (v : Word),
    s.Executes 0x1A m x ∧ s.wordOp m x = .ok v :=
  ⟨exe 26 0 31, 0, 31, 31#32, ⟨by decide +kernel, by decide +kernel⟩, ok_of (by decide +kernel)⟩

theorem wit_WordInstructions_6 : ∃ (s : State) (m x : Nat) (v : Word),
    s.Executes 0x1D m x ∧ s.wordOp m x = .ok v :=
  ⟨exe 29 0 31, 0, 31, 31#32, ⟨by decide +kernel, by decide +kernel⟩, ok_of (by decide +kernel)⟩

theorem wit_WordInstructions_7 : ∃ (s : State) (m x : Nat) (v : Word),
    s.Executes 0x1E m x ∧ s.wordOp m x = .ok v :=
  ⟨exe 30 0 31, 0, 31, 31#32, ⟨by decide +kernel, by decide +kernel⟩, ok_of (by decide +kernel)⟩

theorem wit_WordInstructions_8 : ∃ (s : State) (m x : Nat) (v : Word),
    s.Executes 0x1F m x ∧ s.wordOp m x = .ok v :=
  ⟨exe 31 0 31, 0, 31, 31#32, ⟨by decide +kernel, by decide +kernel⟩, ok_of (by decide +kernel)⟩

theorem wit_WordInstructions_9 : ∃ (s : State) (m x : Nat) (v : Word),
    s.Executes 0x20 m x ∧ s.wordOp m x = .ok v :=
  ⟨exe 32 0 31, 0, 31, 31#32, ⟨by decide +kernel, by decide +kernel⟩, ok_of (by decide +kernel)⟩

theorem wit_WordInstructions_10 : ∃ s : State,
    s.Executes 0x1B 0 0 :=
  ⟨exe 0x1B 0 0, ⟨by decide +kernel, by decide +kernel⟩⟩

theorem wit_WordInstructions_11 : ∃ (s : State) (m x : Nat) (v : Word),
    s.Executes 0x21 m x ∧ s.wordOp m x = .ok v :=
  ⟨exe 33 0 16777215, 0, 16777215, 0xFFFFFFFF#32, ⟨by decide +kernel, by decide +kernel⟩, ok_of (by decide +kernel)⟩

theorem wit_WordInstructions_12 : ∃ (s : State) (m x : Nat) (v : Word),
    s.Executes 0x22 m x ∧ s.wordOp m x = .ok v :=
  ⟨exe 34 0 16777215, 0, 16777215, 0xFFFFFFFF#32, ⟨by decide +kernel, by decide +kernel⟩, ok_of (by decide +kernel)⟩

theorem wit_WordInstructions_13 : ∃ (s : State) (m x : Nat) (v : Word),
    s.Executes 0x23 m x ∧ s.wordOp m x = .ok v :=
  ⟨exe 35 0 16777215, 0, 16777215, 0xFFFFFFFF#32, ⟨by decide +kernel, by decide +kernel⟩, ok_of (by decide +kernel)⟩

theorem wit_WordInstructions_14 : ∃ (s : State) (m x a : Nat),
    memWf zeroByte s.gys.mem = true ∧ s.Executes 0x11 m x ∧ m ≠ 0 ∧ s.wordAddr m x = .ok a ∧ gysWritable a = true ∧
      gysWritable (a + widthBytes (x / 2 ^ 22) - 1) = true ∧ s.gys.dirty.length < 1024 :=
  ⟨exe 0x11 1 0xB000, 1, 0xB000, 0xB000, by decide +kernel, ⟨by decide +kernel, by decide +kernel⟩, by decide +kernel,
      ok_of (by decide +kernel), by decide +kernel, by decide +kernel, by decide +kernel⟩

theorem wit_WordInstructions_15 : ∃ (s : State) (m x : Nat) (v : Word),
    s.Executes 0x13 m x ∧ s.wordOp m x = .ok v :=
  ⟨exe 19 0 31, 0, 31, 31#32, ⟨by decide +kernel, by decide +kernel⟩, ok_of (by decide +kernel)⟩

theorem wit_WordInstructions_16 : ∃ (s : State) (m x : Nat) (v : Word),
    s.Executes 0x14 m x ∧ s.wordOp m x = .ok v :=
  ⟨exe 20 0 31, 0, 31, 31#32, ⟨by decide +kernel, by decide +kernel⟩, ok_of (by decide +kernel)⟩

theorem wit_WordInstructions_17 : ∃ (s : State) (m x : Nat) (v : Word),
    s.Executes 0x15 m x ∧ s.wordOp m x = .ok v :=
  ⟨exe 21 0 31, 0, 31, 31#32, ⟨by decide +kernel, by decide +kernel⟩, ok_of (by decide +kernel)⟩

theorem wit_WordInstructions_18 : ∃ (s : State) (m x : Nat) (v : Word),
    s.Executes 0x1C m x ∧ s.wordOp m x = .ok v :=
  ⟨exe 28 0 31, 0, 31, 31#32, ⟨by decide +kernel, by decide +kernel⟩, ok_of (by decide +kernel)⟩

theorem wit_WordInstructions_19 : ∃ (s : State) (m x : Nat) (v : Word),
    s.Executes 0x16 m x ∧ s.wordOp m x = .ok v ∧ v ≠ 0 ∧ ¬(s.gys.wa = 0x80000000#32 ∧ v = 0xFFFFFFFF#32) :=
  ⟨exe 0x16 0 7, 0, 7, 7#32, ⟨by decide +kernel, by decide +kernel⟩, ok_of (by decide +kernel), by decide +kernel,
      by decide +kernel⟩

theorem wit_WordInstructions_20 : ∃ (s u : State) (m x : Nat),
    s.Executes 0x16 m x ∧ s.wordOp m x = .ok 0 ∧ s.gysWrite 0x858 (toLe 4 (s.gysStored 0x858 4 ||| 2)) = .ok u :=
  ⟨exe 0x16 0 0, { exe 0x16 0 0 with gys.mem := memWriteN zeroByte [] 0x858 (toLe 4 2), gys.dirty := [0x858 / 64] }, 0, 0,
      ⟨by decide +kernel, by decide +kernel⟩, ok_of (by decide +kernel), ok_of (by decide +kernel)⟩

theorem wit_WordInstructions_21 : ∃ (s u : State) (m x : Nat),
    s.Executes 0x16 m x ∧ s.wordOp m x = .ok 0xFFFFFFFF#32 ∧ s.gys.wa = 0x80000000#32 ∧
      s.gysWrite 0x858 (toLe 4 (s.gysStored 0x858 4 ||| 1)) = .ok u :=
  ⟨{ exe 0x16 0 16777215 with gys.wa := 0x80000000#32 },
      { { exe 0x16 0 16777215 with gys.wa := 0x80000000#32 } with gys.mem := memWriteN zeroByte [] 0x858 (toLe 4 1), gys.dirty := [0x858 / 64] },
      0, 16777215, ⟨by decide +kernel, by decide +kernel⟩, ok_of (by decide +kernel), by decide +kernel, ok_of (by decide +kernel)⟩

theorem wit_WordInstructions_22 : ∃ (s : State) (m x : Nat) (v : Word),
    s.Executes 0x17 m x ∧ s.wordOp m x = .ok v ∧ v ≠ 0 :=
  ⟨exe 0x17 0 7, 0, 7, 7#32, ⟨by decide +kernel, by decide +kernel⟩, ok_of (by decide +kernel), by decide +kernel⟩

theorem wit_WordInstructions_23 : ∃ (s u : State) (m x : Nat),
    s.Executes 0x17 m x ∧ s.wordOp m x = .ok 0 ∧ s.gysWrite 0x858 (toLe 4 (s.gysStored 0x858 4 ||| 2)) = .ok u :=
  ⟨exe 0x17 0 0, { exe 0x17 0 0 with gys.mem := memWriteN zeroByte [] 0x858 (toLe 4 2), gys.dirty := [0x858 / 64] }, 0, 0,
      ⟨by decide +kernel, by decide +kernel⟩, ok_of (by decide +kernel), ok_of (by decide +kernel)⟩

/-! Hypotheses of FloatInstructionsAndBlockCopy. -/

theorem wit_FloatInstructionsAndBlockCopy_1 : ∃ (s u : State) (m x : Nat) (v : Word),
    s.Executes 0x24 m x ∧ m ≠ 0 ∧ s.wordOp m x = .ok v ∧ s.setArith (flAdd s.gys.wa v).2 = .ok u :=
  ⟨exeF 36 1 0xB000, exeF 36 1 0xB000, 1, 0xB000, 0x3F800000#32, ⟨by decide +kernel, by decide +kernel⟩, by decide +kernel,
      ok_of (by decide +kernel), ok_of (by decide +kernel)⟩

theorem wit_FloatInstructionsAndBlockCopy_2 : ∃ (s u : State) (m x : Nat) (v : Word),
    s.Executes 0x25 m x ∧ m ≠ 0 ∧ s.wordOp m x = .ok v ∧ s.setArith (flSub s.gys.wa v).2 = .ok u :=
  ⟨exeF 37 1 0xB000, exeF 37 1 0xB000, 1, 0xB000, 0x3F800000#32, ⟨by decide +kernel, by decide +kernel⟩, by decide +kernel,
      ok_of (by decide +kernel), ok_of (by decide +kernel)⟩

theorem wit_FloatInstructionsAndBlockCopy_3 : ∃ (s u : State) (m x : Nat) (v : Word),
    s.Executes 0x26 m x ∧ m ≠ 0 ∧ s.wordOp m x = .ok v ∧ s.setArith (flMul s.gys.wa v).2 = .ok u :=
  ⟨exeF 38 1 0xB000, exeF 38 1 0xB000, 1, 0xB000, 0x3F800000#32, ⟨by decide +kernel, by decide +kernel⟩, by decide +kernel,
      ok_of (by decide +kernel), ok_of (by decide +kernel)⟩

theorem wit_FloatInstructionsAndBlockCopy_4 : ∃ (s u : State) (m x : Nat) (v : Word),
    s.Executes 0x27 m x ∧ m ≠ 0 ∧ s.wordOp m x = .ok v ∧ s.setArith (flDiv s.gys.wa v).2 = .ok u :=
  ⟨exeF 39 1 0xB000, exeF 39 1 0xB000, 1, 0xB000, 0x3F800000#32, ⟨by decide +kernel, by decide +kernel⟩, by decide +kernel,
      ok_of (by decide +kernel), ok_of (by decide +kernel)⟩

theorem wit_FloatInstructionsAndBlockCopy_5 : ∃ (s u : State) (m x : Nat) (v : Word),
    s.Executes 0x28 m x ∧ m ≠ 0 ∧ s.wordOp m x = .ok v ∧ s.setArith (flLt s.gys.wa v).2 = .ok u :=
  ⟨exeF 40 1 0xB000, exeF 40 1 0xB000, 1, 0xB000, 0x3F800000#32, ⟨by decide +kernel, by decide +kernel⟩, by decide +kernel,
      ok_of (by decide +kernel), ok_of (by decide +kernel)⟩

theorem wit_FloatInstructionsAndBlockCopy_6 : ∃ (s u : State),
    s.Executes 0x29 0 0 ∧ s.setArith (cvtToFloat s.gys.wa).2 = .ok u :=
  ⟨exe 0x29 0 0, exe 0x29 0 0, ⟨by decide +kernel, by decide +kernel⟩, ok_of (by decide +kernel)⟩

theorem wit_FloatInstructionsAndBlockCopy_7 : ∃ (s u : State),
    s.Executes 0x29 0 1 ∧ s.setArith (cvtToInt s.gys.wa).2 = .ok u :=
  ⟨exeF 0x29 0 1, exeF 0x29 0 1, ⟨by decide +kernel, by decide +kernel⟩, ok_of (by decide +kernel)⟩

theorem wit_FloatInstructionsAndBlockCopy_8 : ∃ (s u : State) (a : Arith),
    memWf zeroByte s.gys.mem = true ∧ s.setArith a = .ok u :=
  ⟨base, base, {}, by decide +kernel, ok_of (by decide +kernel)⟩

theorem wit_FloatInstructionsAndBlockCopy_9 : ∃ a b : Word,
    (∀ q, flOf a ≠ .nan q) ∧ (∀ q, flOf b ≠ .nan q) :=
  ⟨0#32, 0x3F800000#32, by decide +kernel, by decide +kernel⟩

theorem wit_FloatInstructionsAndBlockCopy_10 : ∃ (a b : Word) (q : Bool),
    (flOf a = .nan q ∨ flOf b = .nan q) :=
  ⟨0x7FC00000#32, 0#32, false, by decide +kernel⟩

theorem wit_FloatInstructionsAndBlockCopy_12 : ∃ (s : State) (dst src len : Nat),
    memWf zeroByte s.gys.mem = true ∧ s.Executes 0x2F 0 1 ∧ s.copyBlock = (dst, src, len) ∧ s.gys.ix + 12 ≤ 0x40000 ∧ len ≤ 65536 ∧
      src + len ≤ 0x40000 ∧ dst + len ≤ 0x40000 ∧ rangeWritable dst len = true ∧
      s.gys.dirty.length + ((s.changedLines dst (s.gysBytes src len)).filter fun l => !(s.gys.dirty.contains l)).length ≤ 1024 :=
  ⟨exeCopy, 0xB200, 0xB100, 6, by decide +kernel, ⟨by decide +kernel, by decide +kernel⟩, by decide +kernel, by decide +kernel,
      by decide +kernel, by decide +kernel, by decide +kernel, by decide +kernel, by decide +kernel⟩

/-! Hypotheses of OperandForms. -/

theorem wit_OperandForms_1 : ∃ (s : State) (x : Nat),
    x < 2 ^ 23 :=
  ⟨base, 0, by decide +kernel⟩

theorem wit_OperandForms_2 : ∃ (s : State) (x : Nat),
    2 ^ 23 ≤ x ∧ x < 2 ^ 24 :=
  ⟨base, 16777215, by decide +kernel, by decide +kernel⟩

theorem wit_OperandForms_3 : ∃ (s : State) (a : Nat),
    a < 0x40000 ∧ a % 4 = 0 :=
  ⟨base, 0x3FFFC, by decide +kernel, by decide +kernel⟩

theorem wit_OperandForms_4 : ∃ (s : State) (a : Nat),
    a < 0x40000 ∧ a % 2 = 0 :=
  ⟨base, 2, by decide +kernel, by decide +kernel⟩

theorem wit_OperandForms_5 : ∃ (s : State) (a : Nat),
    a < 0x40000 ∧ a % 2 = 0 :=
  ⟨base, 2, by decide +kernel, by decide +kernel⟩

theorem wit_OperandForms_6 : ∃ (s : State) (a : Nat),
    a < 0x40000 :=
  ⟨base, 1, by decide +kernel⟩

theorem wit_OperandForms_7 : ∃ (s : State) (a : Nat),
    a < 0x40000 ∧ a % 4 ≠ 0 :=
  ⟨base, 2, by decide +kernel, by decide +kernel⟩

theorem wit_OperandForms_8 : ∃ (s : State) (a : Nat),
    a + s.gys.ix < 0x40000 ∧ a < 0x40000 ∧ (a + s.gys.ix) % 4 = 0 :=
  ⟨{ base with gys.ix := 4 }, 0x100, by decide +kernel, by decide +kernel, by decide +kernel⟩

theorem wit_OperandForms_9 : ∃ (s : State) (a b : Nat),
    b < 0x40000 ∧ b % 4 = 0 ∧ s.gysLoad b 4 % 2 ^ 18 = a ∧ a % 4 = 0 :=
  ⟨base, 0, 0xB000, by decide +kernel, by decide +kernel, by decide +kernel, by decide +kernel⟩

theorem wit_OperandForms_11 : ∃ (s : State) (a : Nat),
    a < 2 ^ 21 :=
  ⟨base, 2097151, by decide +kernel⟩

theorem wit_OperandForms_12 : ∃ (s : State) (a : Nat),
    a < 2 ^ 21 ∧ a + s.gys.ix < 2 ^ 21 :=
  ⟨{ base with gys.ix := 3 }, 8, by decide +kernel, by decide +kernel⟩

/-! Hypotheses of CyclesRunAndAreKept. -/

theorem wit_CyclesRunAndAreKept_1 : ∃ (s : State) (dt : Nat),
    s.inputReady dt = true ∧ s.gys.st = 1 ∧ s.gys.ctrl = 0 ∧ s.gys.dirty = [] ∧ s.gys.writes = [] ∧ s.gys.forceOps = [] ∧
      s.gys.again = [] ∧ s.gys.forces = [] ∧ memWf zeroByte s.gys.mem = true :=
  ⟨prog, 10000, by decide +kernel, by decide +kernel, by decide +kernel, by decide +kernel, by decide +kernel, by decide +kernel,
      by decide +kernel, by decide +kernel, by decide +kernel⟩

theorem wit_CyclesRunAndAreKept_2 : ∃ s : State,
    s.Executes 0x2F 0 0 ∧ (∀ x ∈ s.grp.groups, x.state = 0) :=
  ⟨exe 0x2F 0 0, ⟨by decide +kernel, by decide +kernel⟩, by decide +kernel⟩

theorem wit_CyclesRunAndAreKept_3 : ∃ (s : State) (us : Nat),
    s.engines = true ∧ (s.gys.phase = .closing ∨ s.gys.phase = .faulted) ∧ s.closeFree = true ∧ s.gys.ctrl ≠ 3 :=
  ⟨{ prog with gys.phase := .closing }, 0, by decide +kernel, by decide +kernel, by decide +kernel, by decide +kernel⟩

theorem wit_CyclesRunAndAreKept_4 : ∃ (s : State) (us : Nat),
    s.engines = true ∧ s.gys.phase = .closing ∧ s.closeFree = true ∧ s.gys.ctrl = 3 ∧ s.gys.st = 1 :=
  ⟨{ prog with gys.phase := .closing, gys.ctrl := 3 }, 0, by decide +kernel, by decide +kernel, by decide +kernel,
      by decide +kernel, by decide +kernel⟩

theorem wit_CyclesRunAndAreKept_5 : ∃ (s : State) (pre post : List Journal) (j : Journal),
    s.opCounts = true ∧ s.gys.journals = pre ++ j :: post ∧ (∀ x ∈ pre, x.durable = true) ∧ j.durable = false :=
  ⟨{ prog with gys.journals := [⟨1, 0, [], true⟩, ⟨2, 0, [], false⟩] }, [⟨1, 0, [], true⟩], [], ⟨2, 0, [], false⟩,
      by decide +kernel, by decide +kernel, by decide +kernel, by decide +kernel⟩

theorem wit_CyclesRunAndAreKept_6 : ∃ (s : State) (j : Journal) (js : List Journal),
    s.opCounts = true ∧ s.gys.journals = j :: js ∧ j.durable = true :=
  ⟨{ prog with gys.journals := [⟨1, 0, [], true⟩] }, ⟨1, 0, [], true⟩, [], by decide +kernel, by decide +kernel, by decide +kernel⟩

theorem wit_CyclesRunAndAreKept_7 : ∃ (s : State) (us : Nat),
    s.engines = true ∧ s.gys.st = 1 ∧ (s.gys.phase = .execute ∨ s.gys.phase = .closing) ∧ s.parN Idx.GYS_CYCMAX ≤ us :=
  ⟨exe 0 0 0, 60000, by decide +kernel, by decide +kernel, by decide +kernel, by decide +kernel⟩

/-! Hypotheses of ProgramsRestartAndChange. -/

theorem wit_ProgramsRestartAndChange_1 : ∃ (s : State) (tag : Nat),
    s.Admitted tag 0x03 0 ∧ (s.flight tag).widx = Idx.GYS_CTRL ∧ (s.flight tag).wval = 1 ∧
      (s.noteSeq (s.flight tag)).writeForm (s.flight tag) = none ∧ (s.noteSeq (s.flight tag)).writeOwner (s.flight tag) = none ∧
      (s.gys.st = 2 ∨ s.gys.st = 3) :=
  ⟨cmd 0x03 (pw Idx.GYS_CTRL 2 1) { prog with gys.st := 3 }, 5, ⟨by decide +kernel, by decide +kernel⟩, by decide +kernel,
      by decide +kernel, by decide +kernel, by decide +kernel, by decide +kernel⟩

theorem wit_ProgramsRestartAndChange_2 : ∃ (s : State) (tag : Nat),
    s.Admitted tag 0x03 0 ∧ (s.flight tag).widx = Idx.GYS_CTRL ∧ (s.flight tag).wval = 2 ∧
      (s.noteSeq (s.flight tag)).writeForm (s.flight tag) = none ∧ (s.noteSeq (s.flight tag)).writeOwner (s.flight tag) = none ∧
      s.gys.bank.isSome = true ∧ s.carParked = true :=
  ⟨cmd 0x03 (pw Idx.GYS_CTRL 2 2) (parked prog), 5, ⟨by decide +kernel, by decide +kernel⟩, by decide +kernel, by decide +kernel,
      by decide +kernel, by decide +kernel, by decide +kernel, by decide +kernel⟩

theorem wit_ProgramsRestartAndChange_3 : ∃ (s : State) (tag : Nat),
    s.Admitted tag 0x03 0 ∧ (s.flight tag).widx = Idx.GYS_CTRL ∧ (s.flight tag).wval = 3 ∧
      (s.noteSeq (s.flight tag)).writeForm (s.flight tag) = none ∧ (s.noteSeq (s.flight tag)).writeOwner (s.flight tag) = none ∧
      s.gys.st = 1 ∧ s.carParked = true :=
  ⟨cmd 0x03 (pw Idx.GYS_CTRL 2 3) (parked prog), 5, ⟨by decide +kernel, by decide +kernel⟩, by decide +kernel, by decide +kernel,
      by decide +kernel, by decide +kernel, by decide +kernel, by decide +kernel⟩

theorem wit_ProgramsRestartAndChange_4 : ∃ (s : State) (tag us tid : Nat) (f : Flight),
    (∃ x ∈ s.dir.tables, x.id = tid) ∧ s.flight? tag = some f ∧ f.switches = some tid ∧ isBank tid = true ∧
      s.gys.phase = .boundary ∧ s.opCounts = true ∧ us ≤ 6000 ∧ s.versionMoved f tid = false :=
  ⟨cmd 0x06 [] (withTable 0x0601 (image 0) prog) (.tableSwitch 0x0601), 5, 6000, 0x0601,
      (cmd 0x06 [] base (.tableSwitch 0x0601)).flight 5, by decide +kernel, by decide +kernel, by decide +kernel, by decide +kernel,
      by decide +kernel, by decide +kernel, by decide +kernel, by decide +kernel⟩

/-! Hypotheses of FieldInputsAreFiltered. -/

theorem wit_FieldInputsAreFiltered_1 : ∃ (s : State) (n count at_ : Nat),
    s.engines = true ∧ n < 48 ∧ n < s.fio.ch.length ∧ s.isInput n = true ∧ (s.fch n).preset = false ∧ s.filterN n ≤ count ∧
      (s.fch n).edges.length < 8 :=
  ⟨field 7 { preset := false }, 7, 96, 1000, by decide +kernel, by decide +kernel, by decide +kernel, by decide +kernel,
      by decide +kernel, by decide +kernel, by decide +kernel⟩

theorem wit_FieldInputsAreFiltered_2 : ∃ (s : State) (raw nodes lim : Nat) (mA : List Nat),
    s.engines = true ∧ s.fio.ch.length = 48 :=
  ⟨field 7 { preset := false }, 0x180, 0x200, 0, [], by decide +kernel, by decide +kernel⟩

/-! Hypotheses of FieldFaultsAndCurrent. -/

theorem wit_FieldFaultsAndCurrent_1 : ∃ (s : State) (n : Nat),
    s.engines = true ∧ n < 48 ∧ n < s.fio.ch.length ∧ (s.fch n).extDrive = true ∧ 100 ≤ (s.fch n).low :=
  ⟨field 9 { extDrive := true, low := 100 }, 9, by decide +kernel, by decide +kernel, by decide +kernel, by decide +kernel,
      by decide +kernel⟩

theorem wit_FieldFaultsAndCurrent_2 : ∃ (s : State) (n : Nat),
    s.engines = true ∧ n < 48 ∧ n < s.fio.ch.length ∧ (s.fch n).limiting = true ∧ 10 ≤ (s.fch n).limMs ∧
      (s.fch n).limTold = false :=
  ⟨field 9 { limiting := true, limMs := 10 }, 9, by decide +kernel, by decide +kernel, by decide +kernel, by decide +kernel,
      by decide +kernel, by decide +kernel⟩

theorem wit_FieldFaultsAndCurrent_3 : ∃ (s : State) (n : Nat),
    s.engines = true ∧ n < 48 ∧ n < s.fio.ch.length ∧ s.isOutput n = true ∧ (s.fch n).on = true :=
  ⟨field 9 { on := true }, 9, by decide +kernel, by decide +kernel, by decide +kernel, by decide +kernel, by decide +kernel⟩

theorem wit_FieldFaultsAndCurrent_4 : ∃ (s : State) (n at_ : Nat),
    s.engines = true ∧ n < 48 ∧ n < s.fio.ch.length ∧ (s.fch n).thermal = true ∧ (s.fch n).latched = false ∧ (s.fch n).cmd = true ∧
      s.fio.held = false ∧ s.fio.gysOff = false ∧ (s.fch n).shutAt = some at_ ∧ at_ + s.parN Idx.FIO_RETRYT ≤ s.pwr.opTime :=
  ⟨field 9 { thermal := true, cmd := true, shutAt := some 9000000 }, 9, 9000000, by decide +kernel, by decide +kernel,
      by decide +kernel, by decide +kernel, by decide +kernel, by decide +kernel, by decide +kernel, by decide +kernel,
      by decide +kernel, by decide +kernel⟩

theorem wit_FieldFaultsAndCurrent_5 : ∃ s : State,
    s.engines = true ∧ s.fio.aggHigh = false ∧ 100 ≤ s.fio.aggMs :=
  ⟨{ base with fio.aggMs := 100 }, by decide +kernel, by decide +kernel, by decide +kernel⟩

theorem wit_FieldFaultsAndCurrent_6 : ∃ s : State,
    s.engines = true ∧ 10 ≤ s.fio.shedMs ∧ s.fio.ch.length = 48 :=
  ⟨{ field 9 { on := true } with fio.shedMs := 10 }, by decide +kernel, by decide +kernel, by decide +kernel⟩

theorem wit_FieldFaultsAndCurrent_7 : ∃ (s : State) (nodes c : Nat),
    s.engines = true ∧ s.fio.probe = some [c] ∧ s.fio.probeDue = true ∧ s.fio.held = false ∧ s.fio.ch.length = 48 ∧
      (∀ n ∈ s.suspects, nodes.testBit n = true) :=
  ⟨{ field 9 { suspect := true } with fio.probe := some [9], fio.probeDue := true }, 0x200, 9, by decide +kernel, by decide +kernel,
      by decide +kernel, by decide +kernel, by decide +kernel, by decide +kernel⟩

/-! Hypotheses of PositionIsFusedAndLearned. -/

theorem wit_PositionIsFusedAndLearned_1 : ∃ (s : State) (fa fb : Option SsiFrame) (ts : Nat),
    s.engines = true :=
  ⟨shaft, some { raw := 1000, copy := 1000, high := false }, none, 5, by decide +kernel⟩

theorem wit_PositionIsFusedAndLearned_2 : ∃ (s : State) (count : Int) (at_ : Nat),
    s.engines = true ∧ s.par Idx.HST_INCRES ≠ 0 ∧ s.hst.incBad = false ∧ s.parBit Idx.HST_PSDIR 2 = false :=
  ⟨withPars [(Idx.HST_INCRES, 1000)], 7, 5, by decide +kernel, by decide +kernel, by decide +kernel, by decide +kernel⟩

theorem wit_PositionIsFusedAndLearned_3 : ∃ s : State,
    s.engines = true ∧ s.hst.incBad = false ∧ s.hst.learn.step = 0 :=
  ⟨base, by decide +kernel, by decide +kernel, by decide +kernel⟩

theorem wit_PositionIsFusedAndLearned_4 : ∃ (s : State) (a b : Int),
    s.engines = true ∧ s.par Idx.HST_LWSEL = 0 ∧ mag a ≤ 10000000 :=
  ⟨base, 10000000, 0, by decide +kernel, by decide +kernel, by decide +kernel⟩

theorem wit_PositionIsFusedAndLearned_5 : ∃ (s : State) (a b : Int),
    s.engines = true ∧ s.par Idx.HST_LWSEL = 0 ∧ 10000000 < mag a :=
  ⟨base, 10000001, 0, by decide +kernel, by decide +kernel, by decide +kernel⟩

theorem wit_PositionIsFusedAndLearned_6 : ∃ (s : State) (lo hi : Int),
    (∃ x ∈ s.dir.tables, x.id = 0x0100) ∧ s.engines = true ∧ s.hst.learn.step = 4 ∧ s.hst.learn.tsdLo = some lo ∧
      s.hst.learn.tsdHi = some hi ∧ s.hst.learn.edges.length = 2 * s.nland ∧ s.par Idx.HST_ZEROMODE = 1 :=
  ⟨{ shaft with hst.learn := { step := 4, tsdLo := some 500000, tsdHi := some 4500000, edges := [(900000, 2), (1100000, 2), (3900000, 2), (4100000, 2)] } },
      500000, 4500000, by decide +kernel, by decide +kernel, by decide +kernel, by decide +kernel, by decide +kernel,
      by decide +kernel, by decide +kernel⟩

theorem wit_PositionIsFusedAndLearned_7 : ∃ s : State,
    s.engines = true ∧ s.hst.learn.step = 4 ∧ s.hst.learn.tsdLo = none :=
  ⟨{ shaft with hst.learn := { step := 4 } }, by decide +kernel, by decide +kernel, by decide +kernel⟩

/-! Hypotheses of TargetsWaitForTheTick. -/

theorem wit_TargetsWaitForTheTick_1 : ∃ (s : State) (tag : Nat),
    s.Admitted tag 0x10 1 ∧ s.hostSource (s.flight tag).slot = true ∧
      s.targetRefusal (moveTgt (s.flight tag).p (.host tag)) = none ∧ s.saf.btPhase = 0 :=
  ⟨cmd 0x10 [1, 0] shaft, 5, ⟨by decide +kernel, by decide +kernel⟩, by decide +kernel, by decide +kernel, by decide +kernel⟩

theorem wit_TargetsWaitForTheTick_2 : ∃ (s : State) (p : List Byte),
    s.engines = true ∧ s.gysReq 0 = some p ∧ s.par Idx.HST_CMDSRC = 0 ∧ s.saf.btPhase = 0 ∧
      s.targetRefusal { pos := getS p 4 4, landing := getU p 2 1, flags := getU p 3 1, src := .geyser (getU p 0 2) } = none :=
  ⟨asks 0 [7, 0, 1, 0] (shaft (withPars [(Idx.HST_NLAND, 2)])), [7, 0, 1, 0], by decide +kernel, by decide +kernel,
      by decide +kernel, by decide +kernel, by decide +kernel⟩

theorem wit_TargetsWaitForTheTick_3 : ∃ (s : State) (tag : Nat),
    s.Admitted tag 0x11 1 ∧ (getU (s.flight tag).p 0 1).testBit 0 = false ∧ s.hostSource (s.flight tag).slot = true :=
  ⟨cmd 0x11 [0] shaft, 5, ⟨by decide +kernel, by decide +kernel⟩, by decide +kernel, by decide +kernel⟩

theorem wit_TargetsWaitForTheTick_4 : ∃ (s : State) (tag : Nat),
    s.Admitted tag 0x11 1 ∧ (getU (s.flight tag).p 0 1).testBit 0 = true ∧ s.hostSource (s.flight tag).slot = true :=
  ⟨cmd 0x11 [1] shaft, 5, ⟨by decide +kernel, by decide +kernel⟩, by decide +kernel, by decide +kernel⟩

theorem wit_TargetsWaitForTheTick_5 : ∃ (s : State) (tag : Nat),
    s.Admitted tag 0x13 2 ∧ s.hostSource (s.flight tag).slot = true ∧ s.pwr.state = .run ∧
      (s.hst.st = .idle ∨ s.hst.st = .disabled) ∧ s.mode = 0 ∧
      (∀ i ∈ [Idx.HST_DZFIO, Idx.HST_LIMLO, Idx.HST_LIMHI, Idx.HST_TSDLO, Idx.HST_TSDHI], s.inputChannel i = true) :=
  ⟨cmd 0x13 [] wired, 5, ⟨by decide +kernel, by decide +kernel⟩, by decide +kernel, by decide +kernel, by decide +kernel,
      by decide +kernel, by decide +kernel⟩

theorem wit_TargetsWaitForTheTick_6 : ∃ s : State,
    s.engines = true :=
  ⟨base, by decide +kernel⟩

/-! Hypotheses of RunsStartAndEnd. -/

theorem wit_RunsStartAndEnd_1 : ∃ s : State,
    s.engines = true ∧ s.hst.runReq = true ∧ s.hst.liftReq = true ∧ s.hst.released = false ∧ s.soClosed 2 = true ∧
      s.brakesLifted = true ∧ s.hst.st = .starting ∧ s.cle.slots.length = 16 ∧ s.par Idx.HST_RUNS < 2 ^ 32 - 1 :=
  ⟨{ base with hst.runReq := true, hst.liftReq := true, hst.st := .starting, saf.chA.sw := 4, saf.chB.sw := 4 }, by decide +kernel,
      by decide +kernel, by decide +kernel, by decide +kernel, by decide +kernel, by decide +kernel, by decide +kernel,
      by decide +kernel, by decide +kernel⟩

theorem wit_RunsStartAndEnd_2 : ∃ (s : State) (at_ : Nat),
    s.hst.rampAt = some at_ ∧ at_ + 200 ≤ s.pwr.opTime :=
  ⟨{ base with hst.rampAt := some 9999800 }, 9999800, by decide +kernel, by decide +kernel⟩

theorem wit_RunsStartAndEnd_3 : ∃ (s : State) (at_ : Nat),
    s.engines = true ∧ s.hst.runReq = true ∧ s.hst.released = false ∧ s.hst.st ≠ .reversalDwell ∧
      (getU s.hst.invFrame 2 1).testBit 0 = false ∧ s.hst.socAt = some at_ ∧ at_ + s.parN Idx.HST_STARTTMO ≤ s.pwr.opTime :=
  ⟨{ base with hst.runReq := true, hst.st := .starting, hst.socAt := some 1000 }, 1000, by decide +kernel, by decide +kernel,
      by decide +kernel, by decide +kernel, by decide +kernel, by decide +kernel, by decide +kernel⟩

theorem wit_RunsStartAndEnd_4 : ∃ s : State,
    s.engines = true ∧ s.hst.runReq = true ∧ s.hst.released = false ∧ s.hst.st ≠ .reversalDwell ∧ s.hst.socAt = none ∧
      s.hst.reqAt + s.parN Idx.HST_STARTTMO ≤ s.pwr.opTime :=
  ⟨{ base with hst.runReq := true, hst.st := .starting, hst.reqAt := 1000 }, by decide +kernel, by decide +kernel,
      by decide +kernel, by decide +kernel, by decide +kernel, by decide +kernel⟩

theorem wit_RunsStartAndEnd_5 : ∃ (s : State) (ms : Nat) (g : Tgt),
    s.engines = true ∧ s.hst.released = true ∧ s.refRest = true ∧ s.hst.liftReq = false ∧ s.hst.levelled = false ∧
      s.brakesApplied = true ∧ s.hst.goal = .target ∧ s.hst.target = some g ∧ g.landing = 0xFF ∧ s.hst.learn.step = 0 ∧
      s.hst.st ≠ .relevelling ∧ 200 ≤ ms :=
  ⟨{ shaft with hst.released := true, hst.runReq := true, hst.target := some { pos := 1000000 } }, 200, { pos := 1000000 },
      by decide +kernel, by decide +kernel, by decide +kernel, by decide +kernel, by decide +kernel, by decide +kernel,
      by decide +kernel, by decide +kernel, by decide +kernel, by decide +kernel, by decide +kernel, by decide +kernel⟩

theorem wit_RunsStartAndEnd_6 : ∃ s : State,
    s.engines = true ∧ s.hst.st = .reversalDwell ∧ s.hst.runReq = false ∧ s.hst.dwellAt + s.parN Idx.HST_BRKDWELL ≤ s.pwr.opTime ∧
      s.doorsShut = true ∧ s.hst.target.isSome = true :=
  ⟨{ shaft with hst.st := .reversalDwell, hst.target := some { pos := 1000000 } }, by decide +kernel, by decide +kernel,
      by decide +kernel, by decide +kernel, by decide +kernel, by decide +kernel⟩

theorem wit_RunsStartAndEnd_7 : ∃ (s : State) (k ms : Nat),
    s.pwr.state = .run ∧ s.hst.st = .idle ∧ s.parkedLanding = some k ∧ s.doorOpen = true ∧ 100 ≤ ms ∧
      s.parN Idx.HST_RELEVTOL < mag (s.carPos - s.level k) :=
  ⟨{ shaft with hst.pf := 260000000, dr0.st := .open_ }, 0, 100, by decide +kernel, by decide +kernel, by decide +kernel,
      by decide +kernel, by decide +kernel, by decide +kernel⟩

/-! Hypotheses of DriveLinkIsSupervised. -/

theorem wit_DriveLinkIsSupervised_1 : ∃ s : State,
    s.engines = true :=
  ⟨base, by decide +kernel⟩

theorem wit_DriveLinkIsSupervised_2 : ∃ (s : State) (bs : List Byte) (us : Nat),
    s.engines = true ∧ s.hst.dlReplied = false ∧ s.replyGood bs true us = true ∧ s.hst.dlStat < 2 :=
  ⟨base, [0x5A, 0] ++ List.replicate 26 0 ++ toLe 4 (crc32 ([0x5A, 0] ++ List.replicate 26 0)), 450, by decide +kernel,
      by decide +kernel, by decide +kernel, by decide +kernel⟩

theorem wit_DriveLinkIsSupervised_3 : ∃ (s : State) (us : Nat),
    s.engines = true ∧ s.hst.dlReplied = false ∧ 450 ≤ us ∧ s.hst.enable = true ∧ s.hst.dlMiss = 1 ∧ s.hst.dlStat < 2 ∧
      s.par Idx.HST_DLMISS < 2 ^ 32 - 1 ∧ s.par Idx.HST_DLFAULTS < 2 ^ 32 - 1 :=
  ⟨{ base with hst.enable := true, hst.dlMiss := 1 }, 450, by decide +kernel, by decide +kernel, by decide +kernel,
      by decide +kernel, by decide +kernel, by decide +kernel, by decide +kernel, by decide +kernel⟩

theorem wit_DriveLinkIsSupervised_4 : ∃ s : State,
    s.engines = true ∧ 2 ≤ s.hst.dlStat ∧ 100 ≤ s.hst.dlGood :=
  ⟨{ base with hst.dlStat := 2, hst.dlGood := 100 }, by decide +kernel, by decide +kernel, by decide +kernel⟩

/-! Hypotheses of SlotsComputeAndWrite. -/

theorem wit_SlotsComputeAndWrite_1 : ∃ (s : State) (minor : Nat) (sh : List Int) (src : Int),
    s.engines = true ∧ 1 ≤ minor ∧ minor < 16 ∧ s.cle.slots.length = 16 :=
  ⟨base, 15, [], 0, by decide +kernel, by decide +kernel, by decide +kernel, by decide +kernel⟩

theorem wit_SlotsComputeAndWrite_2 : ∃ (s : State) (sh : List Int) (src : Int),
    s.engines = true :=
  ⟨base, [1, 2, 3, 4], 0, by decide +kernel⟩

theorem wit_SlotsComputeAndWrite_3 : ∃ (s : State) (n : Nat),
    s.engines = true ∧ n < 16 ∧ s.cle.slots.length = 16 ∧ (s.cslot n).on = true ∧ (s.cslot n).stage = 1 ∧ s.unitOf n = none ∧
      s.parBit (Idx.CLE_SnCFG n) 5 = false ∧ n ≠ 4 ∧ n ≠ 10 :=
  ⟨law 14 { on := true, stage := 1 }, 14, by decide +kernel, by decide +kernel, by decide +kernel, by decide +kernel,
      by decide +kernel, by decide +kernel, by decide +kernel, by decide +kernel, by decide +kernel⟩

theorem wit_SlotsComputeAndWrite_5 : ∃ (s : State) (n : Nat),
    s.engines = true ∧ n < 16 ∧ s.cle.slots.length = 16 ∧ (s.cslot n).on = true ∧ (s.cslot n).stage = 2 :=
  ⟨law 15 { on := true, stage := 2 }, 15, by decide +kernel, by decide +kernel, by decide +kernel, by decide +kernel,
      by decide +kernel⟩

theorem wit_SlotsComputeAndWrite_6 : ∃ (s : State) (n : Nat),
    s.engines = true ∧ n < 16 ∧ s.cle.slots.length = 16 ∧ (s.cslot n).on = true ∧ (s.cslot n).stage = 1 ∧ (s.cslot n).late = 0 ∧
      s.par (Idx.CLE_SnDLCNT n) < 2 ^ 32 - 1 :=
  ⟨law 15 { on := true, stage := 1 }, 15, by decide +kernel, by decide +kernel, by decide +kernel, by decide +kernel,
      by decide +kernel, by decide +kernel, by decide +kernel⟩

theorem wit_SlotsComputeAndWrite_7 : ∃ (s : State) (g : Nat),
    s.engines = true ∧ g < 3 ∧ s.cle.gdue.getD g false = true ∧ s.cle.group.length = 3 ∧ s.cle.winners.length = 3 ∧
      (∀ n ∈ groupMembers g, (s.cslot n).on = true → (s.cslot n).stage = 0) :=
  ⟨{ base with cle.gdue := [true, false, false] }, 0, by decide +kernel, by decide +kernel, by decide +kernel, by decide +kernel,
      by decide +kernel, by decide +kernel⟩

theorem wit_SlotsComputeAndWrite_8 : ∃ (s : State) (d : Int) (ns : List Nat) (n m : Nat),
    s.winner d ns = some n ∧ m ∈ ns ∧ (s.cslot m).on = true :=
  ⟨law 2 { on := true }, 0, [0, 2], 2, 2, by decide +kernel, by decide +kernel, by decide +kernel⟩

/-! Hypotheses of SlotsEnableAndTrace. -/

theorem wit_SlotsEnableAndTrace_1 : ∃ (s : State) (n : Nat),
    s.engines = true ∧ n < 16 ∧ s.cle.slots.length = 16 ∧ s.slotWanted n = true ∧ (s.cslot n).on = false ∧ (s.cslot n).stage = 1 ∧
      s.slotPermitted n = true ∧ (s.cslot n).fault = false :=
  ⟨law 14 { want := true, stage := 1 } (withPars [(Idx.CLE_SnFSIN 14, 1000), (Idx.CLE_SnFSOUT 14, 1000)]), 14, by decide +kernel,
      by decide +kernel, by decide +kernel, by decide +kernel, by decide +kernel, by decide +kernel, by decide +kernel,
      by decide +kernel⟩

theorem wit_SlotsEnableAndTrace_2 : ∃ (s : State) (n : Nat),
    s.engines = true ∧ n < 16 ∧ s.cle.slots.length = 16 ∧ s.slotWanted n = true ∧ (s.cslot n).on = false ∧ (s.cslot n).stage = 1 ∧
      s.slotPermitted n = false :=
  ⟨law 6 { want := true, stage := 1 }, 6, by decide +kernel, by decide +kernel, by decide +kernel, by decide +kernel,
      by decide +kernel, by decide +kernel, by decide +kernel⟩

theorem wit_SlotsEnableAndTrace_3 : ∃ (s : State) (n : Nat),
    n < 16 ∧ s.cle.slots.length = 16 ∧ (s.cslot n).on = true ∧ s.slotWanted n = false :=
  ⟨law 15 { on := true }, 15, by decide +kernel, by decide +kernel, by decide +kernel, by decide +kernel⟩

theorem wit_SlotsEnableAndTrace_4 : ∃ (s : State) (u : Nat),
    u < 4 ∧ u < s.cle.units.length ∧ (s.cle.units.getD u {}).learned = true ∧ (∃ x ∈ s.dir.tables, x.id = 0x0400 + u) :=
  ⟨{ base with cle.units := base.cle.units.set 3 { learned := true } }, 3, by decide +kernel, by decide +kernel, by decide +kernel,
      by decide +kernel⟩

theorem wit_SlotsEnableAndTrace_5 : ∃ (s : State) (b : Nat),
    s.engines = true ∧ b < 4 ∧ b < s.cle.traces.length ∧ (s.cle.traces.getD b {}).due = true ∧ (s.cle.traces.getD b {}).st = 3 ∧
      2 ≤ (s.cle.traces.getD b {}).left ∧ (s.cslot (s.parN (Idx.CLE_TRbSIG01 b) % 65536 / 256)).on = true ∧
      (s.cle.traces.getD b {}).skip = 0 :=
  ⟨traced 3 { due := true, st := 3, left := 2 } (law 0 { on := true } (withPars [(Idx.CLE_TRbSIG01 3, 0)])), 3, by decide +kernel,
      by decide +kernel, by decide +kernel, by decide +kernel, by decide +kernel, by decide +kernel, by decide +kernel,
      by decide +kernel⟩

theorem wit_SlotsEnableAndTrace_6 : ∃ (s : State) (tag : Nat),
    s.Admitted tag 0x3C 0 ∧ getU (s.flight tag).p 0 1 ≤ 3 ∧ getU (s.flight tag).p 1 1 ≤ 3 ∧ 1 ≤ getU (s.flight tag).p 4 2 ∧
      getU (s.flight tag).p 4 2 ≤ 112 ∧ getU (s.flight tag).p 2 2 + getU (s.flight tag).p 4 2 ≤ 4096 ∧
      (s.cle.traces.getD (getU (s.flight tag).p 0 1) {}).st = 4 :=
  ⟨cmd 0x3C [3, 3, 0x90, 0x0F, 112, 0] (traced 3 { st := 4 }), 5, ⟨by decide +kernel, by decide +kernel⟩, by decide +kernel,
      by decide +kernel, by decide +kernel, by decide +kernel, by decide +kernel, by decide +kernel⟩

/-! Hypotheses of DoorCommandsAndEnds. -/

theorem wit_DoorCommandsAndEnds_1 : ∃ p ∈ [(Instr.doorOpen, 1), (Instr.doorClose, 2), (Instr.doorNudge, 3), (Instr.doorHold, 4), (Instr.doorStop, 5), (Instr.doorReopen, 6), (Instr.doorLearn, 7)],
    ∃ (s : State) (tag n : Nat),
    s.Admitted tag 0x12 1 ∧ getU (s.flight tag).p 0 1 = n ∧ n < 2 ∧ getU (s.flight tag).p 1 1 = p.2 ∧ s.saf.btPhase = 0 :=
  ⟨(Instr.doorLearn, 7), by simp, cmd 0x12 [1, 7], 5, 1, ⟨by decide +kernel, by decide +kernel⟩, by decide +kernel,
      by decide +kernel, by decide +kernel, by decide +kernel⟩

theorem wit_DoorCommandsAndEnds_2 : ∃ (s : State) (n : Nat) (p : List Byte),
    s.engines = true ∧ n < 2 ∧ s.gysReq (1 + n) = some p ∧ 1 ≤ getU p 2 1 ∧ getU p 2 1 ≤ 7 ∧ s.saf.btPhase = 0 :=
  ⟨asks 2 [9, 0, 7, 255], 1, [9, 0, 7, 255], by decide +kernel, by decide +kernel, by decide +kernel, by decide +kernel,
      by decide +kernel, by decide +kernel⟩

theorem wit_DoorCommandsAndEnds_3 : ∃ (s : State) (r0 r1 : Nat),
    s.engines = true :=
  ⟨base, 0, 0, by decide +kernel⟩

theorem wit_DoorCommandsAndEnds_4 : ∃ (s : State) (n : Nat) (e : FEdge) (rest : List (Nat × FEdge)),
    s.engines = true ∧ n < 2 ∧ (s.dn n).edges = (0, e) :: rest ∧ e.rising ≠ s.parBit (Idx.DRn_INPOL n) 0 ∧ (s.dn n).st ≠ .disabled ∧
      (s.dn n).dir < 0 ∧ (s.dn n).ref ≠ 0 ∧
      (mag ((interpolate e.at_ (s.dn n).hist).getD (s.dn n).x) : Int) ≤ s.dp n Idx.DRn_REFTOL ∧ (s.dn n).learn.step = 0 :=
  ⟨gate { st := .closing, dir := -1, ref := 2, edges := [(0, ⟨50, true⟩)] }, 1, ⟨50, true⟩, [], by decide +kernel,
      by decide +kernel, by decide +kernel, by decide +kernel, by decide +kernel, by decide +kernel, by decide +kernel,
      by decide +kernel, by decide +kernel⟩

theorem wit_DoorCommandsAndEnds_5 : ∃ (s : State) (n : Nat),
    s.engines = true ∧ n < 2 ∧ 200 ≤ (s.dn n).restC ∧ (s.dn n).moving = true ∧ (s.dn n).dir < 0 ∧ (s.dn n).braking = false ∧
      (s.dn n).st = .closing ∧ (s.dn n).wasOpen = true ∧ s.par (Idx.DRn_CYCLES n) < 2 ^ 32 - 1 :=
  ⟨gate { st := .closing, dir := -1, restC := 200, moving := true, wasOpen := true }, 1, by decide +kernel, by decide +kernel,
      by decide +kernel, by decide +kernel, by decide +kernel, by decide +kernel, by decide +kernel, by decide +kernel,
      by decide +kernel⟩

theorem wit_DoorCommandsAndEnds_6 : ∃ (s : State) (n : Nat),
    s.openedReady n = true ∧ (s.dn n).st = .opening ∧ s.dsp.notices = [] ∧ s.dsp.calls = [] :=
  ⟨gate { st := .opening, dir := 1, restO := 200, moving := true }, 1, by decide +kernel, by decide +kernel, by decide +kernel,
      by decide +kernel⟩

theorem wit_DoorCommandsAndEnds_7 : ∃ (s : State) (n : Nat),
    n < 2 ∧ ((s.dn n).st = .closed ∨ (s.dn n).st = .open_) ∧ (s.dn n).held = false ∧
      (s.dn n).restAt + s.parN (Idx.DRn_HOLDDLY n) ≤ s.pwr.opTime :=
  ⟨gate { st := .open_ }, 1, by decide +kernel, by decide +kernel, by decide +kernel, by decide +kernel⟩

theorem wit_DoorCommandsAndEnds_8 : ∃ (s : State) (n : Nat),
    s.engines = true ∧ n < 2 ∧ (s.dn n).boosting = false ∧ s.boostNow n = true :=
  ⟨gate { st := .open_, windows := [⟨0, 0, 100⟩] } shaft, 1, by decide +kernel, by decide +kernel, by decide +kernel,
      by decide +kernel⟩

theorem wit_DoorCommandsAndEnds_9 : ∃ (s : State) (n : Nat),
    n < 2 ∧ (s.dn n).boosting = true ∧ s.boostNow n = false :=
  ⟨gate { boosting := true }, 1, by decide +kernel, by decide +kernel, by decide +kernel⟩

theorem wit_DoorCommandsAndEnds_10 : ∃ (s : State) (n : Nat),
    n < 2 ∧ (s.dn n).learned = true ∧ (∃ x ∈ s.dir.tables, x.id = 0x0300 + n) :=
  ⟨gate { learned := true }, 1, by decide +kernel, by decide +kernel, by decide +kernel⟩

/-! Hypotheses of DoorDriveIsSupervised. -/

theorem wit_DoorDriveIsSupervised_1 : ∃ (s : State) (n : Nat),
    s.engines = true ∧ n < 2 ∧ (s.dn n).gates = true :=
  ⟨gate { gates := true }, 1, by decide +kernel, by decide +kernel, by decide +kernel⟩

theorem wit_DoorDriveIsSupervised_2 : ∃ (s : State) (n : Nat),
    s.doorLive n = true :=
  ⟨gate { st := .closing }, 1, by decide +kernel⟩

theorem wit_DoorDriveIsSupervised_3 : ∃ (s : State) (n at_ : Nat) (x : Int),
    s.doorLive n = true ∧ (s.dn n).moving = true ∧ (s.dn n).obstructed = none ∧ (s.dn n).stallAt = some (at_, x) ∧
      at_ + 3000 ≤ s.pwr.opTime ∧ (s.dn n).pendFault = none :=
  ⟨gate { st := .closing, moving := true, stallAt := some (1000, 0) }, 1, 1000, 0, by decide +kernel, by decide +kernel,
      by decide +kernel, by decide +kernel, by decide +kernel, by decide +kernel⟩

theorem wit_DoorDriveIsSupervised_4 : ∃ (s : State) (n at_ : Nat),
    s.doorLive n = true ∧ (s.dn n).hotAt = none ∧ (s.dn n).hotSince = some at_ ∧ at_ + 1000 ≤ s.pwr.opTime :=
  ⟨gate { st := .closing, hotSince := some 1000 }, 1, 1000, by decide +kernel, by decide +kernel, by decide +kernel,
      by decide +kernel⟩

theorem wit_DoorDriveIsSupervised_5 : ∃ (s : State) (n us : Nat) (u v : Int),
    s.doorLive n = true ∧ s.cle.slots.length = 16 ∧ (s.dn n).measuring = true ∧ 200 ≤ us ∧ mag u ≤ 20000 ∧ mag v ≤ 20000 :=
  ⟨gate { st := .closing, measuring := true }, 1, 200, 20000, -20000, by decide +kernel, by decide +kernel, by decide +kernel,
      by decide +kernel, by decide +kernel, by decide +kernel⟩

theorem wit_DoorDriveIsSupervised_6 : ∃ (s : State) (n us : Nat) (u v : Int),
    s.doorLive n = true ∧ (s.dn n).measuring = true ∧ 200 ≤ us ∧ 20000 < mag u :=
  ⟨gate { st := .closing, measuring := true }, 1, 200, 20001, 0, by decide +kernel, by decide +kernel, by decide +kernel,
      by decide +kernel⟩

theorem wit_DoorDriveIsSupervised_7 : ∃ (s : State) (n at_ : Nat) (obs : Int),
    s.engines = true ∧ n < 2 ∧ (s.dn n).st ≠ .disabled ∧ (s.dn n).overs.length = 3 ∧ (∀ k ∈ (s.dn n).overs, k = 0) :=
  ⟨gate { st := .closing }, 1, 10, 0, by decide +kernel, by decide +kernel, by decide +kernel, by decide +kernel, by decide +kernel⟩

theorem wit_DoorDriveIsSupervised_8 : ∃ (s : State) (n code : Nat),
    s.engines = true ∧ n < 2 ∧ (s.dn n).st ≠ .disabled ∧ s.sensorless n = false ∧ (code = 0 ∨ code = 7) ∧
      (s.dn n).pendFault = none :=
  ⟨gate { st := .closing }, 1, 7, by decide +kernel, by decide +kernel, by decide +kernel, by decide +kernel, by decide +kernel,
      by decide +kernel⟩

theorem wit_DoorDriveIsSupervised_9 : ∃ (s : State) (n code j k : Nat),
    s.engines = true ∧ n < 2 ∧ (s.dn n).st ≠ .disabled ∧ s.sensorless n = false ∧ hallPlace code = some k ∧
      hallPlace (s.dn n).hall = some j ∧ (k = (j + 1) % 6 ∨ j = (k + 1) % 6) :=
  ⟨gate { st := .closing, hall := 1 }, 1, 3, 0, 1, by decide +kernel, by decide +kernel, by decide +kernel, by decide +kernel,
      by decide +kernel, by decide +kernel, by decide +kernel⟩

/-! Hypotheses of SafetySamplesAndFilters. -/

theorem wit_SafetySamplesAndFilters_1 : ∃ (s : State) (ch si : Nat) (inc : Int) (latch : Option Int) (fa fb : Option SsiFrame) (sc : Bool),
    ch < 2 ∧ s.saf.running = true :=
  ⟨wick, 1, 0, 5, none, none, none, false, by decide +kernel, by decide +kernel⟩

theorem wit_SafetySamplesAndFilters_2 : ∃ (s : State) (ch el : Nat),
    ch < 2 ∧ s.saf.running = true ∧ 550 + 500 * (s.chan (ch == 0)).a.missing ≤ el :=
  ⟨wick, 1, 550, by decide +kernel, by decide +kernel, by decide +kernel⟩

theorem wit_SafetySamplesAndFilters_3 : ∃ (s : State) (ch el : Nat),
    ch < 2 ∧ s.saf.running = true ∧ 550 + 500 * (s.chan (ch == 0)).b.missing ≤ el :=
  ⟨wick, 0, 550, by decide +kernel, by decide +kernel, by decide +kernel⟩

theorem wit_SafetySamplesAndFilters_4 : ∃ (s : State) (ch n : Nat),
    ch < 2 ∧ n < 16 ∧ s.saf.running = true ∧
      (if n < 14 then s.parN (Idx.SAF_SIFILTn n) else 4) ≤ (s.chan (ch == 0)).agree.getD n 0 :=
  ⟨{ wick with saf.chB.agree := List.replicate 16 255 }, 1, 15, by decide +kernel, by decide +kernel, by decide +kernel,
      by decide +kernel⟩

theorem wit_SafetySamplesAndFilters_5 : ∃ (s : State) (ch : Nat),
    ch < 2 ∧ s.saf.running = true ∧ s.parBit Idx.SAF_SHMODE 1 = true ∧ (s.chan (ch == 0)).above.lost = false ∧ (∀ g,
      (s.chan (ch == 0)).above.got = some g → g + s.parN Idx.SAF_NLLOSS ≤ s.pwr.opTime) :=
  ⟨wick (withPars [(Idx.SAF_SHMODE, 2)]), 1, by decide +kernel, by decide +kernel, by decide +kernel, by decide +kernel,
      fun g h => nomatch h⟩

theorem wit_SafetySamplesAndFilters_6 : ∃ (s : State) (ch : Nat),
    ch < 2 ∧ s.saf.running = true ∧ s.parBit Idx.SAF_SHMODE 0 = true ∧ (s.chan (ch == 0)).below.lost = false ∧ (∀ g,
      (s.chan (ch == 0)).below.got = some g → g + s.parN Idx.SAF_NLLOSS ≤ s.pwr.opTime) :=
  ⟨wick (withPars [(Idx.SAF_SHMODE, 1)]), 0, by decide +kernel, by decide +kernel, by decide +kernel, by decide +kernel,
      fun g h => nomatch h⟩

/-! Hypotheses of SafetyCycleAndTrips. -/

theorem wit_SafetyCycleAndTrips_1 : ∃ (s : State) (ch diag nodes : Nat) (recOk : Bool),
    ch < 2 ∧ s.saf.running = true ∧ s.pwr.state ≠ .lockout ∧ diag ≤ 12 :=
  ⟨wick, 0, 12, 0, true, by decide +kernel, by decide +kernel, by decide +kernel, by decide +kernel⟩

theorem wit_SafetyCycleAndTrips_2 : ∃ (s : State) (ch : Nat),
    ch < 2 ∧ s.saf.running = true ∧ 16 ≤ (s.chan (ch == 0)).sf5 ∧ s.CauseNew 4 :=
  ⟨{ wick with saf.chA.sf5 := 16 }, 0, by decide +kernel, by decide +kernel, by decide +kernel,
      fun b => by cases b <;> decide +kernel⟩

theorem wit_SafetyCycleAndTrips_3 : ∃ (s : State) (ch i n : Nat),
    ch < 2 ∧ s.saf.running = true ∧ (s.chan (ch == 0)).sf9[i]? = some n ∧ 40 ≤ n ∧ s.CauseNew 8 :=
  ⟨{ wick with saf.chB.sf9 := [0, 40, 0, 0, 0] }, 1, 1, 40, by decide +kernel, by decide +kernel, by decide +kernel,
      by decide +kernel, fun b => by cases b <;> decide +kernel⟩

theorem wit_SafetyCycleAndTrips_4 : ∃ (s : State) (ch : Nat),
    ch < 2 ∧ s.saf.running = true ∧ 5 ≤ (s.chan (ch == 0)).dlMiss ∧ s.CauseNew 9 :=
  ⟨{ wick with saf.chB.dlMiss := 5 }, 1, by decide +kernel, by decide +kernel, by decide +kernel,
      fun b => by cases b <;> decide +kernel⟩

theorem wit_SafetyCycleAndTrips_5 : ∃ s : State,
    s.saf.running = true ∧ 100 ≤ s.saf.ctWrong ∧ s.saf.ctRefused = false :=
  ⟨{ wick with saf.ctWrong := 100 }, by decide +kernel, by decide +kernel, by decide +kernel⟩

theorem wit_SafetyCycleAndTrips_6 : ∃ (s : State) (ch k mA : Nat) (high low : Bool),
    ch < 2 ∧ k < 4 ∧ s.saf.running = true ∧ (s.chan (ch == 0)).nextTest = k ∧ s.testDev (ch == 0) k high low mA = 0 :=
  ⟨wick, 0, 0, 0, true, true, by decide +kernel, by decide +kernel, by decide +kernel, by decide +kernel, by decide +kernel⟩

theorem wit_SafetyCycleAndTrips_7 : ∃ (s : State) (ch k mA : Nat) (high low : Bool) (code : Nat),
    ch < 2 ∧ k < 4 ∧ s.saf.running = true ∧ s.pwr.state ≠ .lockout ∧ (s.chan (ch == 0)).nextTest = k ∧
      s.testDev (ch == 0) k high low mA = code ∧ (code = 1 ∨ code = 2) ∧ (s.chan (ch == 0)).tests.getD k {} = ⟨code, 1⟩ ∧
      s.parBit Idx.SAF_STUCK (if code = 1 then k else 4 + k) = false :=
  ⟨{ wick with saf.chA.sw := 1, saf.chB.sw := 1, saf.chA.tests := [⟨1, 1⟩, {}, {}, {}] }, 0, 0, 0, true, true, 1, by decide +kernel,
      by decide +kernel, by decide +kernel, by decide +kernel, by decide +kernel, by decide +kernel, by decide +kernel,
      by decide +kernel, by decide +kernel⟩

theorem wit_SafetyCycleAndTrips_8 : ∃ (s : State) (at_ : Nat),
    s.saf.running = true ∧ s.pwr.state ≠ .lockout ∧ s.saf.stuckAt = some at_ ∧ (s.standing = true ∨ at_ + 30000 ≤ s.pwr.opTime) :=
  ⟨{ wick with saf.stuckAt := some 1000 }, 1000, by decide +kernel, by decide +kernel, by decide +kernel, by decide +kernel⟩

/-! Hypotheses of BrakeTestAndReset. -/

theorem wit_BrakeTestAndReset_1 : ∃ (s : State) (since : Nat),
    s.saf.running = true ∧ s.saf.btPhase = 0 ∧ s.btDue = true ∧ s.saf.btRetry ≤ s.pwr.opTime ∧ s.btConditions = true ∧
      s.tripped = false ∧ s.saf.parkedAt = some since ∧ since + 60000 ≤ s.pwr.opTime :=
  ⟨{ braking 0 with saf.parkedAt := some 1000 }, 1000, by decide +kernel, by decide +kernel, by decide +kernel, by decide +kernel,
      by decide +kernel, by decide +kernel, by decide +kernel, by decide +kernel⟩

theorem wit_BrakeTestAndReset_2 : ∃ s : State, ∃ p ∈ [(3, 4), (4, 5), (7, 8), (8, 9)],
    s.saf.running = true ∧ s.saf.btPhase = p.1 ∧ s.btConditions = true ∧ s.hst.waiting = [] ∧ s.tripped = false ∧ s.btWeak = false ∧
      s.saf.btAt + 2000 ≤ s.pwr.opTime :=
  ⟨{ braking 8 with hst.invFrame := List.replicate 8 0 ++ toLe 2 10000 }, (8, 9), by simp, by decide +kernel, by decide +kernel,
      by decide +kernel, by decide +kernel, by decide +kernel, by decide +kernel, by decide +kernel⟩

theorem wit_BrakeTestAndReset_3 : ∃ s : State,
    s.saf.running = true ∧ s.saf.btPhase = 10 ∧ s.btConditions = true ∧ s.hst.waiting = [] ∧ s.tripped = false ∧
      s.soClosed 2 = false :=
  ⟨braking 10, by decide +kernel, by decide +kernel, by decide +kernel, by decide +kernel, by decide +kernel, by decide +kernel⟩

theorem wit_BrakeTestAndReset_4 : ∃ s : State,
    s.saf.running = true ∧ s.saf.btPhase ≠ 0 ∧ (s.btConditions = false ∨ s.hst.waiting ≠ [] ∨ s.tripped = true) :=
  ⟨{ braking 3 with hst.st := .moving }, by decide +kernel, by decide +kernel, by decide +kernel⟩

theorem wit_BrakeTestAndReset_5 : ∃ (s : State) (since : Nat),
    s.saf.running = true ∧ s.par Idx.SAF_RSTUSE ≠ 0 ∧ s.saf.pressAt = some since ∧ s.unpressed = true ∧ 100 ≤ s.pwr.opTime - since ∧
      s.pwr.opTime - since ≤ 5000 ∧ s.resetPending = true :=
  ⟨{ reset2 with saf.pressAt := some 9999900, saf.chA.active := 4, saf.chA.own := 4, saf.chA.still := 400 }, 9999900,
      by decide +kernel, by decide +kernel, by decide +kernel, by decide +kernel, by decide +kernel, by decide +kernel,
      by decide +kernel⟩

theorem wit_BrakeTestAndReset_6 : ∃ (s : State) (since : Nat),
    s.saf.running = true ∧ s.par Idx.SAF_RSTUSE ≠ 0 ∧ s.saf.pressAt = some since ∧ s.unpressed = true ∧
      (s.pwr.opTime - since < 100 ∨ 5000 < s.pwr.opTime - since) :=
  ⟨{ reset2 with saf.pressAt := some 9999901 }, 9999901, by decide +kernel, by decide +kernel, by decide +kernel, by decide +kernel,
      by decide +kernel⟩

theorem wit_BrakeTestAndReset_7 : ∃ (s : State) (since : Nat),
    s.saf.running = true ∧ s.par Idx.SAF_RSTUSE ≠ 0 ∧ s.saf.stuckTold = false ∧ s.pressed = true ∧ s.saf.pressAt = some since ∧
      since + 5000 ≤ s.pwr.opTime :=
  ⟨{ reset2 with saf.pressAt := some 9995000, saf.chA.flt := 0x4000 }, 9995000, by decide +kernel, by decide +kernel,
      by decide +kernel, by decide +kernel, by decide +kernel, by decide +kernel⟩

theorem wit_BrakeTestAndReset_8 : ∃ (s : State) (since : Nat),
    s.saf.running = true ∧ s.par Idx.SAF_RSTUSE ≠ 0 ∧ s.saf.equalAt = some since ∧ since + 50 < s.pwr.opTime :=
  ⟨{ reset2 with saf.equalAt := some 9999949 }, 9999949, by decide +kernel, by decide +kernel, by decide +kernel, by decide +kernel⟩

/-! Hypotheses of SafetySetsArePendingThenSwitched. -/

theorem wit_SafetySetsArePendingThenSwitched_1 : ∃ (s : State) (tag n : Nat),
    s.Admitted tag 0x30 3 ∧ (s.flight tag).safDiscard = false ∧ getU (s.flight tag).p 1 1 = n ∧ n ≤ 16 ∧
      s.sessionOk (s.flight tag).slot = true ∧ (∀ k < n, (s.flight tag).safRefused k = none) :=
  ⟨cmd 0x30 (toLe 1 0 ++ toLe 1 1 ++ toLe 6 0 ++ (toLe 2 Idx.SAF_VRATED ++ [6, 0] ++ toLe 4 0 ++ toLe 16 2000000)) (parked base), 5,
      1, ⟨by decide +kernel, by decide +kernel⟩, by decide +kernel, by decide +kernel, by decide +kernel, by decide +kernel,
      by decide +kernel⟩

theorem wit_SafetySetsArePendingThenSwitched_2 : ∃ (s : State) (tag : Nat),
    s.Admitted tag 0x30 3 ∧ (s.flight tag).safDiscard = false ∧ getU (s.flight tag).p 1 1 ≤ 16 ∧
      s.sessionOk (s.flight tag).slot = false :=
  ⟨cmd 0x30 [0, 16] { base with hst.st := .moving }, 5, ⟨by decide +kernel, by decide +kernel⟩, by decide +kernel,
      by decide +kernel, by decide +kernel⟩

theorem wit_SafetySetsArePendingThenSwitched_3 : ∃ (s : State) (tag : Nat),
    s.Admitted tag 0x30 3 ∧ (s.flight tag).safDiscard = true ∧ s.holdsSaf (s.flight tag).slot = true ∧ s.saf.confirm = none :=
  ⟨cmd 0x30 [1, 0] (pends []), 5, ⟨by decide +kernel, by decide +kernel⟩, by decide +kernel, by decide +kernel, by decide +kernel⟩

theorem wit_SafetySetsArePendingThenSwitched_4 : ∃ (s : State) (tag : Nat),
    s.Admitted tag 0x31 3 ∧ s.holdsSaf (s.flight tag).slot = true ∧ s.saf.confirm = none ∧
      getU (s.flight tag).p 0 4 = s.pendCrc s.saf.pendA ∧ getU (s.flight tag).p 0 4 = s.pendCrc s.saf.pendB ∧
      s.setConflict (pendVal s s.saf.pendA) = none ∧ s.sessionAllowed = true :=
  ⟨confirms 0, 5, ⟨by decide +kernel, by decide +kernel⟩, by decide +kernel, by decide +kernel,
      by rw [(confirms_crc 0).1, (confirms_crc 0).2.1]; exact add_zero_mod (pendCrc_lt _ _),
      by rw [(confirms_crc 0).1, (confirms_crc 0).2.2]; exact add_zero_mod (pendCrc_lt _ _), by decide +kernel, by decide +kernel⟩

theorem wit_SafetySetsArePendingThenSwitched_5 : ∃ (s : State) (tag : Nat),
    s.Admitted tag 0x31 3 ∧ s.holdsSaf (s.flight tag).slot = true ∧ s.saf.confirm = none ∧
      getU (s.flight tag).p 0 4 ≠ s.pendCrc s.saf.pendA :=
  ⟨confirms 1, 5, ⟨by decide +kernel, by decide +kernel⟩, by decide +kernel, by decide +kernel,
      by rw [(confirms_crc 1).1, (confirms_crc 1).2.1]; exact add_one_mod (pendCrc_lt _ _)⟩

theorem wit_SafetySetsArePendingThenSwitched_6 : ∃ (s : State) (tag : Nat) (f : Flight) (l : List (Nat × Int)),
    s.saf.confirm = some tag ∧ s.saf.running = true ∧ s.flight? tag = some f ∧ s.saf.inactiveA = some l ∧
      (l.map fun p => p.1).Nodup ∧ (∀ p ∈ l, p.1 ∈ swIndices) :=
  ⟨{ cmd 0x31 [] (wick (pends [])) .safWait with saf.confirm := some 5, saf.inactiveA := some [(Idx.SAF_VRATED, 2000000)] }, 5,
      (cmd 0x31 [] base .safWait).flight 5, [(Idx.SAF_VRATED, 2000000)], by decide +kernel, by decide +kernel, by decide +kernel,
      by decide +kernel, by decide +kernel, by decide +kernel⟩

theorem wit_SafetySetsArePendingThenSwitched_7 : ∃ (s : State) (x : SafSession),
    s.saf.confirm = none ∧ s.saf.session = some x ∧ x.last + 600000 ≤ s.pwr.opTime :=
  ⟨{ pends [] with pwr.opTime := 601000 }, ⟨0, 1000⟩, by decide +kernel, by decide +kernel, by decide +kernel⟩

/-! Hypotheses of CanFramesAreSent. -/

theorem wit_CanFramesAreSent_1 : ∃ (s : State) (b j k : Nat), s.offered b = some j ∧ k < 128 ∧ (s.cobj b k).pend ≠ none :=
  ⟨canObj 6 { pend := some [] }, 0, 6, 6, by decide +kernel, by decide +kernel, by decide +kernel⟩

theorem wit_CanFramesAreSent_2 : ∃ (s : State) (b j : Nat),
    b < 2 ∧ s.onBus b = true ∧ s.busIdle b = true ∧ s.offered b = some j :=
  ⟨canObj 6 { pend := some [] }, 0, 6, by decide +kernel, by decide +kernel, by decide +kernel, by decide +kernel⟩

theorem wit_CanFramesAreSent_3 : ∃ (s : State) (b j tdcNs : Nat),
    b < 2 ∧ j < 128 ∧ (s.can b).objs.length = 128 ∧ (s.cobj b j).bus ≠ none ∧ (s.cobj b j).next = none ∧
      (s.tdcActive b j = true → tdcNs ≤ s.twoBits b) :=
  ⟨canObj 6 { bus := some [] }, 0, 6, 0, by decide +kernel, by decide +kernel, by decide +kernel, by decide +kernel,
      by decide +kernel, by decide +kernel⟩

theorem wit_CanFramesAreSent_4 : ∃ (s : State) (b j tdcNs : Nat) (ack dominant : Bool),
    b < 2 ∧ j < 128 ∧ (s.can b).objs.length = 128 ∧ (s.cobj b j).bus ≠ none ∧ (s.cobj b j).next = none ∧ s.onBus b = true :=
  ⟨canObj 6 { bus := some [] }, 0, 6, 0, false, false, by decide +kernel, by decide +kernel, by decide +kernel, by decide +kernel,
      by decide +kernel, by decide +kernel⟩

theorem wit_CanFramesAreSent_5 : ∃ (s : State) (b recessive : Nat),
    b < 2 ∧ (s.can b).st = 3 ∧ s.parBit (Idx.CANb_CFG b) 2 = true ∧ (s.can b).boffAt + s.parN (Idx.CANb_BOFFDLY b) ≤ s.pwr.opTime ∧
      128 ≤ recessive ∧ (s.can b).objs.length = 128 :=
  ⟨{ base with can0.st := 3, can0.boffAt := 1000 }, 0, 128, by decide +kernel, by decide +kernel, by decide +kernel,
      by decide +kernel, by decide +kernel, by decide +kernel⟩

theorem wit_CanFramesAreSent_6 : ∃ (s : State) (b j : Nat) (bytes : List Byte),
    b < 2 ∧ j < 128 ∧ s.engines = true ∧ s.onBus b = true ∧ s.gys.st = 1 ∧ (s.objRole b j = 2 ∨ s.objRole b j = 3) ∧
      s.stnPresent b (s.objStn b j) = true ∧ (s.cstn b (s.objStn b j)).lost = false ∧ 0 < s.objRefresh b j ∧
      (s.cobj b j).pend = none ∧ (s.cobj b j).bus = none ∧ (s.cobj b j).last = some bytes ∧
      (s.cobj b j).sentAt + s.objRefresh b j ≤ s.pwr.opTime :=
  ⟨canObj 6 { last := some [7], sentAt := 1000 } (station { lost := false }), 0, 6, [7], by decide +kernel, by decide +kernel,
      by decide +kernel, by decide +kernel, by decide +kernel, by decide +kernel, by decide +kernel, by decide +kernel,
      by decide +kernel, by decide +kernel, by decide +kernel, by decide +kernel, by decide +kernel⟩

theorem wit_CanFramesAreSent_7 : ∃ (s : State) (b : Nat),
    b < 2 ∧ s.engines = true ∧ s.lmp.restarting = false ∧ s.onBus b = true ∧ (s.can b).objs.length = 128 ∧ (∀ at_,
      (s.can b).hbAt = some at_ → at_ + 50 ≤ s.pwr.opTime) :=
  ⟨bus, 0, by decide +kernel, by decide +kernel, by decide +kernel, by decide +kernel, by decide +kernel,
      fun a h => by cases h; decide +kernel⟩

/-! Hypotheses of StationsAreSupervised. -/

theorem wit_StationsAreSupervised_1 : ∃ (s : State) (b id n j : Nat) (bytes : List Byte),
    b < 2 ∧ id < 2048 ∧ bytes.length ≤ 64 ∧ s.onBus b = true ∧ s.Shape ∧ (id / 256 = 2 ∨ id / 256 = 3) ∧ id % 4 = 0 ∧
      id / 4 % 64 = n ∧ s.stnPresent b n = true ∧ s.objOf b n 1 = some j ∧ (s.can b).alone = false :=
  ⟨bus, 0, 0x20C, 3, 5, [1, 2], by decide +kernel, by decide +kernel, by decide +kernel, by decide +kernel, bus_shape,
      by decide +kernel, by decide +kernel, by decide +kernel, by decide +kernel, by decide +kernel, by decide +kernel⟩

theorem wit_StationsAreSupervised_2 : ∃ (s : State) (b id n j : Nat) (bytes : List Byte),
    b < 2 ∧ id < 2048 ∧ bytes.length ≤ 64 ∧ s.onBus b = true ∧ s.Shape ∧ (id / 256 = 2 ∨ id / 256 = 3) ∧ id % 4 = 0 ∧
      id / 4 % 64 = n ∧ s.stnPresent b n = true ∧ s.objOf b n 1 = some j :=
  ⟨bus, 0, 0x30C, 3, 5, [1, 2], by decide +kernel, by decide +kernel, by decide +kernel, by decide +kernel, bus_shape,
      by decide +kernel, by decide +kernel, by decide +kernel, by decide +kernel, by decide +kernel⟩

theorem wit_StationsAreSupervised_3 : ∃ (s : State) (b id : Nat) (base copying : Bool) (bytes : List Byte),
    b < 2 ∧ id < 2048 ∧ bytes.length ≤ 64 ∧ s.onBus b = true ∧
      ((base = true → id / 256 = 1 ∨ id / 256 = 4 ∨ id / 256 = 5 ∨ id / 256 = 7 ∨ id % 4 ≠ 0 ∨ (id / 256 ≠ 0 ∧ id / 256 ≠ 6 ∧
      s.stnPresent b (id / 4 % 64) = false))) :=
  ⟨bus, 0, 0x7FF, true, false, [], by decide +kernel, by decide +kernel, by decide +kernel, by decide +kernel, by decide +kernel⟩

theorem wit_StationsAreSupervised_4 : ∃ (s : State) (b n : Nat) (bytes : List Byte),
    b < 2 ∧ n < 64 ∧ bytes.length ≤ 8 ∧ s.onBus b = true ∧ s.Shape ∧ s.stnPresent b n = true ∧ getU bytes 1 1 = 1 ∧
      (s.stnType b n = 0 ∨ getU bytes 2 2 = s.stnType b n) ∧ getU bytes 0 1 = 1 :=
  ⟨bus, 0, 3, [1, 1, 0, 0], by decide +kernel, by decide +kernel, by decide +kernel, by decide +kernel, bus_shape,
      by decide +kernel, by decide +kernel, by decide +kernel, by decide +kernel⟩

theorem wit_StationsAreSupervised_5 : ∃ (s : State) (b n : Nat) (bytes : List Byte),
    b < 2 ∧ n < 64 ∧ bytes.length ≤ 8 ∧ s.onBus b = true ∧ s.stnPresent b n = true ∧ (getU bytes 1 1 ≠ 1 ∨ (s.stnType b n ≠ 0 ∧
      getU bytes 2 2 ≠ s.stnType b n)) :=
  ⟨bus, 0, 3, [1, 2, 0, 0], by decide +kernel, by decide +kernel, by decide +kernel, by decide +kernel, by decide +kernel,
      by decide +kernel⟩

theorem wit_StationsAreSupervised_6 : ∃ (s : State) (b n : Nat),
    b < 2 ∧ s.engines = true ∧ s.stnPresent b n = true ∧ s.Shape ∧ (s.cstn b n).lost = false ∧
      (s.cstn b n).hbAt + 160 ≤ s.pwr.opTime :=
  ⟨station { lost := false }, 0, 3, by decide +kernel, by decide +kernel, by decide +kernel, station_shape, by decide +kernel,
      by decide +kernel⟩

theorem wit_StationsAreSupervised_7 : ∃ (s : State) (b n : Nat) (bytes : List Byte),
    b < 2 ∧ n < 64 ∧ bytes.length ≤ 8 ∧ s.onBus b = true ∧ s.Shape ∧ s.stnPresent b n = true :=
  ⟨bus, 0, 3, [9], by decide +kernel, by decide +kernel, by decide +kernel, by decide +kernel, bus_shape, by decide +kernel⟩

/-! Hypotheses of RingFramesAreCheckedAndForwarded. -/

theorem wit_RingFramesAreCheckedAndForwarded_1 : ∃ (s : State) (port fcs residence : Nat) (bytes : List Byte),
    port < 2 ∧ s.portOn port = true ∧ (s.port port).link = true ∧ s.forwardsDst (readDst bytes) = true ∧ (s.port port).mode = 0 ∧
      s.portOn (1 - port) = true ∧ (s.port (1 - port)).link = true ∧ (s.port (1 - port)).mode = 0 ∧ fcs ≠ 3 :=
  ⟨ring, 0, 0, 600, frameBytes, by decide +kernel, by decide +kernel, by decide +kernel, by decide +kernel, by decide +kernel,
      by decide +kernel, by decide +kernel, by decide +kernel, by decide +kernel⟩

theorem wit_RingFramesAreCheckedAndForwarded_2 : ∃ (s : State) (port residence : Nat) (bytes : List Byte) (f : RFrame),
    port < 2 ∧ s.portOn port = true ∧ (s.port port).link = true ∧ (s.port port).mode = 0 ∧ s.frameFits bytes = true ∧
      s.takesDst (readDst bytes) = true ∧ (∀ me, s.addr = some me → readDst (bytes.drop 6) ≠ .unicast me) ∧
      f = readFrame port s.ringNs bytes ∧ s.pwr.state ≠ .dormant ∧ f.cls ≠ 2 ∧ f.cls ≠ 4 ∧ f.cls ≠ 6 :=
  ⟨ring, 1, 600, frameBytes, readFrame 1 (State.ringNs ring) frameBytes, by decide +kernel, by decide +kernel, by decide +kernel,
      by decide +kernel, by decide +kernel, by decide +kernel, by decide +kernel, by decide +kernel, by decide +kernel,
      by decide +kernel, by decide +kernel, by decide +kernel⟩

theorem wit_RingFramesAreCheckedAndForwarded_3 : ∃ (s : State) (port fcs residence : Nat) (bytes : List Byte),
    port < 2 ∧ s.portOn port = true ∧ (s.port port).link = true ∧ (fcs = 1 ∨ fcs = 3) :=
  ⟨ring, 1, 3, 0, [], by decide +kernel, by decide +kernel, by decide +kernel, by decide +kernel⟩

/-! Hypotheses of RingHealsItself. -/

theorem wit_RingHealsItself_1 : ∃ (s : State) (port us : Nat),
    s.rng.enabled = true ∧ port < 2 ∧ (s.port port).link = true ∧ 5000 ≤ us :=
  ⟨ring, 1, 5000, by decide +kernel, by decide +kernel, by decide +kernel, by decide +kernel⟩

theorem wit_RingHealsItself_2 : ∃ (s : State) (port amp : Nat),
    port < 2 ∧ s.portOn port = true ∧ (s.port port).link = false ∧ (amp = 1 ∨ amp = 2) ∧
      (s.parN (if port = 0 then Idx.RNG_PACFG else Idx.RNG_PBCFG) % 4 = 0 ∨ s.parN (if port = 0 then Idx.RNG_PACFG else Idx.RNG_PBCFG) % 4 = amp) :=
  ⟨{ ring with rng.b := {} }, 1, 2, by decide +kernel, by decide +kernel, by decide +kernel, by decide +kernel, by decide +kernel⟩

theorem wit_RingHealsItself_3 : ∃ (s : State) (port : Nat),
    s.rng.enabled = true ∧ port < 2 ∧ (s.port port).link = true ∧ (s.port port).mode = 2 ∧ s.rng.isMgr = false ∧
      (s.port port).upAt + 200 ≤ s.pwr.opTime ∧ s.rng.mgrHeard + 200 ≤ s.pwr.opTime :=
  ⟨{ ring with rng.b := { link := true } }, 1, by decide +kernel, by decide +kernel, by decide +kernel, by decide +kernel,
      by decide +kernel, by decide +kernel, by decide +kernel⟩

theorem wit_RingHealsItself_4 : ∃ s : State,
    s.mgrCandidate = true ∧ s.rng.isMgr = false ∧ s.rng.lowerHeard + 100 ≤ s.pwr.opTime :=
  ⟨ring, by decide +kernel, by decide +kernel, by decide +kernel⟩

theorem wit_RingHealsItself_5 : ∃ s : State,
    s.mgrCandidate = true ∧ s.rng.isMgr = true ∧ s.rng.testAt + s.parN Idx.RNG_TESTPER ≤ s.pwr.opTime :=
  ⟨{ ring with rng.isMgr := true, rng.b := { link := true, mode := 1 } }, by decide +kernel, by decide +kernel, by decide +kernel⟩

theorem wit_RingHealsItself_6 : ∃ (s : State) (f : RFrame),
    s.mgrCandidate = true ∧ s.rng.isMgr = true ∧ s.ownTest = some f ∧ (s.port 1).mode ≠ 1 ∧ s.rng.closed = false :=
  ⟨heard { cls := 6, src := 5, kind := 3, dest := 0, body := [1, 0], port := 1 } { ring with rng.isMgr := true },
      { cls := 6, src := 5, kind := 3, dest := 0, body := [1, 0], port := 1 }, by decide +kernel, by decide +kernel,
      by decide +kernel, by decide +kernel, by decide +kernel⟩

theorem wit_RingHealsItself_7 : ∃ s : State,
    s.mgrCandidate = true ∧ s.rng.isMgr = true ∧ (s.port 1).mode = 1 ∧ s.rng.testBack + s.parN Idx.RNG_TESTLOSS ≤ s.rng.testNo :=
  ⟨{ ring with rng.isMgr := true, rng.testNo := 9, rng.b := { link := true, mode := 1 } }, by decide +kernel, by decide +kernel,
      by decide +kernel, by decide +kernel⟩

theorem wit_RingHealsItself_8 : ∃ (s : State) (f : RFrame),
    s.rng.enabled = true ∧ s.nextFrame 6 (some 2) = some f ∧ s.rng.isMgr = true ∧ (s.port 1).mode = 1 :=
  ⟨heard { cls := 6, src := 9, kind := 3, dest := 0, body := [2, 0], port := 1 } { ring with rng.isMgr := true, rng.b := { link := true, mode := 1 } },
      { cls := 6, src := 9, kind := 3, dest := 0, body := [2, 0], port := 1 }, by decide +kernel, by decide +kernel,
      by decide +kernel, by decide +kernel⟩

theorem wit_RingHealsItself_9 : ∃ (s : State) (f : RFrame),
    s.rng.enabled = true ∧ s.nextFrame 6 (some 3) = some f :=
  ⟨heard { cls := 6, src := 9, kind := 3, dest := 0, body := [3, 0], port := 1 },
      { cls := 6, src := 9, kind := 3, dest := 0, body := [3, 0], port := 1 }, by decide +kernel, by decide +kernel⟩

/-! Hypotheses of RingTimeIsKept. -/

theorem wit_RingTimeIsKept_1 : ∃ s : State,
    s.rng.enabled = true ∧ s.rng.isMaster = true ∧ s.rng.syncSent + 10 ≤ s.pwr.opTime :=
  ⟨{ ring with rng.isMaster := true }, by decide +kernel, by decide +kernel, by decide +kernel⟩

theorem wit_RingTimeIsKept_2 : ∃ (s : State) (f : RFrame) (off : Int),
    s.rng.enabled = true ∧ s.nextFrame 5 (some 1) = some f ∧ (s.rng.isMaster = true → ∀ me, s.addr = some me → f.src < me) ∧ (∀ m,
      s.rng.master = some m → f.src ≤ m) ∧
      off = ((bodyNs f.body 4 + getU f.body 16 8 + (s.port f.port).delay : Nat) : Int) - f.at_ :=
  ⟨heard { cls := 5, src := 9, kind := 3, dest := 0, body := [1, 0, 0, 0], port := 1 },
      { cls := 5, src := 9, kind := 3, dest := 0, body := [1, 0, 0, 0], port := 1 }, 0, by decide +kernel, by decide +kernel,
      (fun h => by revert h; decide +kernel), (fun m h => by cases h), by decide +kernel⟩

theorem wit_RingTimeIsKept_3 : ∃ s : State,
    s.rng.enabled = true ∧ s.rng.valid = true ∧ s.rng.isMaster = false ∧ s.rng.goodAt + 100 < s.pwr.opTime :=
  ⟨{ ring with rng.valid := true }, by decide +kernel, by decide +kernel, by decide +kernel, by decide +kernel⟩

theorem wit_RingTimeIsKept_4 : ∃ (s : State) (me : Nat),
    s.rng.enabled = true ∧ s.par Idx.RNG_TMCAND = 1 ∧ s.rng.isMaster = false ∧ s.rng.dup = false ∧ s.addr = some me ∧
      100000 + 50 * me ≤ (s.pwr.opTime - s.rng.syncHeard) * 1000 :=
  ⟨ring, 5, by decide +kernel, by decide +kernel, by decide +kernel, by decide +kernel, by decide +kernel, by decide +kernel⟩

theorem wit_RingTimeIsKept_5 : ∃ (s : State) (port : Nat),
    port < 2 ∧ s.portOn port = true ∧ (s.port port).link = true ∧ (∀ f ∈ s.rng.inq, ¬(f.cls = 5 ∧ getU f.body 0 1 = 2 ∧
      f.port = port)) ∧ (s.port port).reqAt + 1000 ≤ s.pwr.opTime :=
  ⟨ring, 1, by decide +kernel, by decide +kernel, by decide +kernel, by decide +kernel, by decide +kernel⟩

theorem wit_RingTimeIsKept_6 : ∃ (s : State) (f : RFrame) (t1 : Nat),
    s.rng.enabled = true ∧ s.nextFrame 5 (some 3) = some f ∧ f.port < 2 ∧ (s.port f.port).t1 = some t1 :=
  ⟨heard { cls := 5, src := 9, kind := 3, dest := 0, body := [3, 0, 0, 0], port := 1 } { ring with rng.b := { link := true, mode := 0, t1 := some 0 } },
      { cls := 5, src := 9, kind := 3, dest := 0, body := [3, 0, 0, 0], port := 1 }, 0, by decide +kernel, by decide +kernel,
      by decide +kernel, by decide +kernel⟩

theorem wit_RingTimeIsKept_7 : ∃ (s : State) (f : RFrame),
    s.rng.enabled = true ∧ s.nextFrame 5 (some 4) = some f ∧ s.rng.isMaster = true :=
  ⟨heard { cls := 5, src := 9, kind := 3, dest := 0, body := [4, 0, 0, 0], port := 1 } { ring with rng.isMaster := true },
      { cls := 5, src := 9, kind := 3, dest := 0, body := [4, 0, 0, 0], port := 1 }, by decide +kernel, by decide +kernel,
      by decide +kernel⟩

theorem wit_RingTimeIsKept_8 : ∃ s : State,
    s.lmpServes = true ∧ s.rng.storedAt + 1000 ≤ s.pwr.opTime :=
  ⟨ring, by decide +kernel, by decide +kernel⟩

theorem wit_RingTimeIsKept_9 : ∃ (s : State) (per : Nat),
    s.rng.enabled = true ∧ s.rng.valid = true ∧ per = s.parN Idx.RNG_SYNCPER * 1000 ∧ 0 < per ∧
      s.rng.syncOut / per < s.rng.time / per :=
  ⟨{ ring with rng.valid := true, rng.time := 1000000 }, 1000000, by decide +kernel, by decide +kernel, by decide +kernel,
      by decide +kernel, by decide +kernel⟩

theorem wit_RingTimeIsKept_10 : ∃ s : State,
    s.rng.enabled = true ∧ s.rng.valid = true :=
  ⟨{ ring with rng.valid := true }, by decide +kernel, by decide +kernel⟩

/-! Hypotheses of CallsAreAuctioned. -/

theorem wit_CallsAreAuctioned_1 : ∃ (s : State) (k landing kind : Nat) (p : List Byte),
    k < 8 ∧ s.lmpServes = true ∧ s.gysReq (3 + k) = some p ∧ getU p 2 1 = landing ∧ getU p 3 1 = kind ∧ s.present landing = true ∧
      kind ≤ 2 ∧ (∀ c ∈ s.dsp.calls, c.reg = s.me → c.num ≠ s.dsp.num) ∧ s.gys.acks.length = 12 :=
  ⟨asks 10 [1, 0, 1, 2] inGroup, 7, 1, 2, [1, 0, 1, 2], by decide +kernel, by decide +kernel, by decide +kernel, by decide +kernel,
      by decide +kernel, by decide +kernel, by decide +kernel, by decide +kernel, by decide +kernel⟩

theorem wit_CallsAreAuctioned_2 : ∃ (s : State) (f : RFrame) (c : Call),
    s.lmpServes = true ∧ s.nextFrame 3 (some 1) = some f ∧ c = s.askedCall f ∧ s.ownAuction c.landing c.kind = none ∧
      s.canBid c = true ∧ c.kind ≠ 3 :=
  ⟨rcvd 3 [1, 0, 9, 0, 3, 0, 1, 255], frm 3 [1, 0, 9, 0, 3, 0, 1, 255], inGroup.askedCall (frm 3 [1, 0, 9, 0, 3, 0, 1, 255]),
      by decide +kernel, by decide +kernel, by decide +kernel, by decide +kernel, by decide +kernel, by decide +kernel⟩

theorem wit_CallsAreAuctioned_3 : ∃ (s : State) (f : RFrame) (c x : Call),
    s.lmpServes = true ∧ s.nextFrame 3 (some 1) = some f ∧ c = s.askedCall f ∧ s.ownAuction c.landing c.kind = some x ∧
      s.canBid c = false :=
  ⟨rcvd 3 [1, 0, 9, 0, 3, 0, 1, 255] (calls [call7] { inGroup with saf.chA.mode := 1 }), frm 3 [1, 0, 9, 0, 3, 0, 1, 255],
      (calls [call7]).askedCall (frm 3 [1, 0, 9, 0, 3, 0, 1, 255]), call7, by decide +kernel, by decide +kernel, by decide +kernel,
      by decide +kernel, by decide +kernel⟩

theorem wit_CallsAreAuctioned_4 : ∃ (s : State) (f : RFrame) (c : Call),
    s.lmpServes = true ∧ s.nextFrame 3 (some 2) = some f ∧ getU f.body 2 2 = s.me ∧ s.call? s.me (getU f.body 4 2) = some c ∧
      c.ph = .bidding ∧ s.rng.time ≤ c.tr + c.win * 1000 ∧ c.best = none :=
  ⟨rcvd 3 [2, 0, 5, 0, 7, 0] (calls [call7]), frm 3 [2, 0, 5, 0, 7, 0], call7, by decide +kernel, by decide +kernel,
      by decide +kernel, by decide +kernel, by decide +kernel, by decide +kernel, by decide +kernel⟩

theorem wit_CallsAreAuctioned_5 : ∃ (bs : List Bid) (b : Bid),
    lowestBid bs = some b :=
  ⟨[⟨9, 5, 1⟩, ⟨5, 5, 2⟩], ⟨5, 5, 2⟩, by decide +kernel⟩

theorem wit_CallsAreAuctioned_6 : ∃ (s : State) (num g : Nat) (c : Call) (b : Bid),
    s.lmpServes = true ∧ s.call? s.me num = some c ∧ c.ph = .bidding ∧ c.tr + c.win * 1000 ≤ s.rng.time ∧
      lowestBid c.bids = some b ∧ b.addr = s.me ∧ c.holder = none ∧ s.freeGroup = some g ∧ s.grp.groups.length = 8 :=
  ⟨{ calls [{ call7 with bids := [⟨5, 3, 1⟩] }] with rng.time := 50000 }, 7, 0, { call7 with bids := [⟨5, 3, 1⟩] }, ⟨5, 3, 1⟩,
      by decide +kernel, by decide +kernel, by decide +kernel, by decide +kernel, by decide +kernel, by decide +kernel,
      by decide +kernel, by decide +kernel, by decide +kernel⟩

theorem wit_CallsAreAuctioned_7 : ∃ (s : State) (num : Nat) (c : Call),
    s.lmpServes = true ∧ s.call? s.me num = some c ∧ c.ph = .bidding ∧ c.tr + c.win * 1000 ≤ s.rng.time ∧ c.bids = [] ∧
      s.canBid c = false :=
  ⟨{ calls [call7] with rng.time := 50000, saf.chA.mode := 1 }, 7, call7, by decide +kernel, by decide +kernel, by decide +kernel,
      by decide +kernel, by decide +kernel, by decide +kernel⟩

theorem wit_CallsAreAuctioned_8 : ∃ (s : State) (num : Nat) (c : Call),
    s.lmpServes = true ∧ s.call? s.me num = some c ∧ c.ph = .retry ∧ c.retryAt + 1000 ≤ s.pwr.opTime ∧ s.dspStatus = 0 ∧
      s.addr ≠ none :=
  ⟨calls [{ call7 with ph := .retry }], 7, { call7 with ph := .retry }, by decide +kernel, by decide +kernel, by decide +kernel,
      by decide +kernel, by decide +kernel, by decide +kernel⟩

theorem wit_CallsAreAuctioned_9 : ∃ (s : State) (f : RFrame),
    s.lmpServes = true ∧ s.nextFrame 3 (some 3) = some f ∧ s.gys.acks.length = 12 :=
  ⟨rcvd 3 [3, 0, 1], frm 3 [3, 0, 1], by decide +kernel, by decide +kernel, by decide +kernel⟩

/-! Hypotheses of GroupsSeeEachOther. -/

theorem wit_GroupsSeeEachOther_1 : ∃ s : State,
    s.lmpServes = true ∧ s.rng.enabled = true ∧ s.addr ≠ none ∧ (∀ at_, s.rng.sumAt = some at_ → at_ + 250 ≤ s.pwr.opTime) ∧
      (s.inDispatch = false ∨ s.grownCalls = []) :=
  ⟨inGroup, by decide +kernel, by decide +kernel, by decide +kernel, (fun a h => by cases h), by decide +kernel⟩

theorem wit_GroupsSeeEachOther_2 : ∃ (s : State) (f : RFrame),
    s.lmpServes = true ∧ s.nextFrame 1 none = some f ∧ s.addr ≠ some f.src ∧ getU f.body 2 1 = 0 :=
  ⟨rcvd 1 [0, 0, 0], frm 1 [0, 0, 0], by decide +kernel, by decide +kernel, by decide +kernel, by decide +kernel⟩

theorem wit_GroupsSeeEachOther_3 : ∃ (s : State) (f : RFrame),
    s.lmpServes = true ∧ s.nextFrame 1 none = some f ∧ s.addr = some f.src ∧ getU f.body 16 4 ≠ identity ∧ s.rng.dup = false :=
  ⟨rcvd 1 (summaryBody ((identity + 1) % 2 ^ 32)) inGroup 5, frm 1 (summaryBody ((identity + 1) % 2 ^ 32)) 5, by decide +kernel,
      rfl, by decide +kernel, other_identity, by decide +kernel⟩

theorem wit_GroupsSeeEachOther_4 : ∃ (s : State) (a : Nat) (p : Peer),
    s.lmpServes = true ∧ p ∈ s.rng.peers ∧ p.addr = a ∧ p.lost = false ∧ p.heard + s.parN Idx.DSP_PEERLOSS ≤ s.pwr.opTime ∧
      s.heldBy a = [] :=
  ⟨{ inGroup with rng.peers := [peer9] }, 9, peer9, by decide +kernel, by decide +kernel, by decide +kernel, by decide +kernel,
      by decide +kernel, by decide +kernel⟩

theorem wit_GroupsSeeEachOther_5 : ∃ (s : State) (f : RFrame),
    s.lmpServes = true ∧ s.nextFrame 7 none = some f ∧ (getU f.body 4 1).testBit 0 = false :=
  ⟨rcvd 7 [4, 0, 0, 0, 0, 1], frm 7 [4, 0, 0, 0, 0, 1], by decide +kernel, by decide +kernel, by decide +kernel⟩

theorem wit_GroupsSeeEachOther_6 : ∃ (s : State) (f : RFrame),
    s.lmpServes = true ∧ s.nextFrame 7 none = some f ∧ (getU f.body 4 1).testBit 0 = true :=
  ⟨rcvd 7 [4, 0, 0, 0, 1, 1], frm 7 [4, 0, 0, 0, 1, 1], by decide +kernel, by decide +kernel, by decide +kernel⟩

theorem wit_GroupsSeeEachOther_7 : ∃ (s : State) (src id : Nat) (x : Notice),
    s.lmpServes = true ∧ s.inDispatch = true ∧ s.par Idx.DSP_PREDEN = 1 ∧ (∀ p ∈ s.members, p.addr < s.me → getU p.body 2 1 ≠ 0) ∧
      s.notice? src id = some x ∧ x.acted = false ∧ x.ta ≤ s.rng.time + s.parN Idx.DSP_PREWIN * 1000000 ∧ s.rng.time < x.ta :=
  ⟨told [notice4], 9, 4, notice4, by decide +kernel, by decide +kernel, by decide +kernel, by decide +kernel, by decide +kernel,
      by decide +kernel, by decide +kernel, by decide +kernel⟩

theorem wit_GroupsSeeEachOther_8 : ∃ (s : State) (src id : Nat) (left : Bool) (x : Notice),
    s.lmpServes = true ∧ s.notice? src id = some x ∧ ((left = true ∧
      s.parkedAt x.landing = false) ∨ x.ta + s.parN Idx.DSP_PREHOLD * 1000000 ≤ s.rng.time) :=
  ⟨{ told [notice4] with rng.time := 10000000000 }, 9, 4, false, notice4, by decide +kernel, by decide +kernel, by decide +kernel⟩

theorem wit_GroupsSeeEachOther_9 : ∃ (s : State) (src id : Nat) (x : Notice),
    s.lmpServes = true ∧ s.inDispatch = true ∧ s.notice? src id = some x ∧ x.sent = false ∧
      x.ta + s.parN Idx.DSP_SURGEWIN * 1000000 ≤ s.rng.time ∧ s.parkedAt x.landing = false :=
  ⟨{ told [notice4] with rng.time := 10000000000 }, 9, 4, notice4, by decide +kernel, by decide +kernel, by decide +kernel,
      by decide +kernel, by decide +kernel, by decide +kernel⟩

theorem wit_GroupsSeeEachOther_10 : ∃ (s : State) (f : RFrame) (x : Notice),
    s.lmpServes = true ∧ s.nextFrame 3 (some 4) = some f ∧ s.notice? (getU f.body 4 2) (getU f.body 8 4) = some x ∧
      (∀ p ∈ x.boarded, p.1 ≠ f.src) :=
  ⟨rcvd 3 [4, 0, 0, 0, 9, 0, 0, 0, 4, 0, 0, 0, 8] (told [notice4]), frm 3 [4, 0, 0, 0, 9, 0, 0, 0, 4, 0, 0, 0, 8], notice4,
      by decide +kernel, by decide +kernel, by decide +kernel, by decide +kernel⟩

theorem wit_GroupsSeeEachOther_11 : ∃ (s : State) (src id : Nat) (x : Notice),
    s.lmpServes = true ∧ s.inDispatch = true ∧ s.notice? src id = some x ∧ x.done = false ∧
      x.ta + s.parN Idx.DSP_SURGEWIN * 1000000 + 5000000 ≤ s.rng.time :=
  ⟨{ told [notice4] with rng.time := 10000000000 }, 9, 4, notice4, by decide +kernel, by decide +kernel, by decide +kernel,
      by decide +kernel, by decide +kernel⟩

theorem wit_GroupsSeeEachOther_12 : ∃ s : State,
    s.lmpServes = true ∧ s.dsp.keptAt + 3600000 ≤ s.pwr.opTime :=
  ⟨{ inGroup with pwr.opTime := 3600000 }, by decide +kernel, by decide +kernel⟩

theorem wit_GroupsSeeEachOther_13 : ∃ (s : State) (ms : Nat),
    s.lmpServes = true ∧ s.member = true ∧ s.dsp.loc = false ∧ s.ringPoor = true ∧ s.parN Idx.DSP_RINGLOSS ≤ ms :=
  ⟨{ inGroup with rng.valid := false }, 60000, by decide +kernel, by decide +kernel, by decide +kernel, by decide +kernel,
      by decide +kernel⟩

theorem wit_GroupsSeeEachOther_14 : ∃ (s : State) (sec : Nat),
    s.lmpServes = true ∧ s.member = true ∧ s.dsp.loc = true ∧ s.ringPoor = false ∧ s.parN Idx.DSP_REJOIN ≤ sec ∧
      s.heldBy s.me = [] :=
  ⟨{ inGroup with dsp.loc := true, rng.peers := [{ peer9 with heard := 9999999 }] }, 60000, by decide +kernel, by decide +kernel,
      by decide +kernel, by decide +kernel, by decide +kernel, by decide +kernel⟩

/-! Hypotheses of NeighboursAreExchanged. -/

theorem wit_NeighboursAreExchanged_1 : ∃ (s : State) (up : Bool),
    s.engines = true ∧ s.sideOn up = true :=
  ⟨shared, true, by decide +kernel, by decide +kernel⟩

theorem wit_NeighboursAreExchanged_2 : ∃ (s : State) (up : Bool) (m : NlMsg),
    s.engines = true ∧ s.sideOn up = true ∧ (s.side up).msg = some m ∧ m.count ≤ m.frag ∧ m.sentAt + 3 ≤ s.pwr.opTime ∧
      s.rng.time < m.expires :=
  ⟨{ shared with shf.up.msg := some { number := 1, bytes := [9], frag := 1, expires := 1000 } }, true,
      { number := 1, bytes := [9], frag := 1, expires := 1000 }, by decide +kernel, by decide +kernel, by decide +kernel,
      by decide +kernel, by decide +kernel, by decide +kernel⟩

theorem wit_NeighboursAreExchanged_3 : ∃ (s : State) (up coded : Bool) (gap : Nat) (bs : List Byte),
    s.engines = true ∧ s.sideOn up = true ∧ (nlCrcGood bs coded = false ∨ (s.side up).lastSeq = some (getU bs 1 1)) :=
  ⟨shared, true, false, 0, [], by decide +kernel, by decide +kernel, by decide +kernel⟩

theorem wit_NeighboursAreExchanged_4 : ∃ (s : State) (up : Bool) (gap : Nat) (bs : List Byte),
    s.engines = true ∧ s.sideOn up = true ∧ nlCrcGood bs true = true ∧ (s.side up).lastSeq ≠ some (getU bs 1 1) ∧
      s.nlNamed up bs = false ∧ (s.side up).miswired = false :=
  ⟨shared, true, 0, nlFrame 2 6, by decide +kernel, by decide +kernel, by decide +kernel, by decide +kernel, by decide +kernel,
      by decide +kernel⟩

theorem wit_NeighboursAreExchanged_5 : ∃ (s : State) (up : Bool) (gap : Nat) (bs : List Byte),
    s.engines = true ∧ s.sideOn up = true ∧ nlCrcGood bs true = true ∧ (s.side up).lastSeq ≠ some (getU bs 1 1) ∧
      s.nlNamed up bs = true ∧ s.shf.handover = none :=
  ⟨shared, true, 0, nlFrame 3 6, by decide +kernel, by decide +kernel, by decide +kernel, by decide +kernel, by decide +kernel,
      by decide +kernel⟩

theorem wit_NeighboursAreExchanged_6 : ∃ (s : State) (up : Bool) (us : Nat),
    s.engines = true ∧ s.sideOn up = true ∧ (s.side up).good = true ∧ 2500 ≤ us :=
  ⟨{ shared with shf.up.good := true }, true, 2500, by decide +kernel, by decide +kernel, by decide +kernel, by decide +kernel⟩

theorem wit_NeighboursAreExchanged_7 : ∃ (s : State) (up : Bool),
    s.engines = true ∧ s.sideOn up = true ∧ 50 ≤ (s.side up).goodN ∧ (s.side up).good = false ∧ s.sideVerified up = true :=
  ⟨{ shared with shf.up.goodN := 50, shf.up.zlo := 100000000 }, true, by decide +kernel, by decide +kernel, by decide +kernel,
      by decide +kernel, by decide +kernel⟩

theorem wit_NeighboursAreExchanged_8 : ∃ (s : State) (q : ZoneReq),
    s.engines = true ∧ s.shf.request = some q ∧ q.group = none ∧ q.done = false ∧ q.at_ + 1000 ≤ s.pwr.opTime :=
  ⟨{ shared with shf.request := some { up := true, target := { pos := 0 }, edge := 0 } },
      { up := true, target := { pos := 0 }, edge := 0 }, by decide +kernel, by decide +kernel, by decide +kernel, by decide +kernel,
      by decide +kernel⟩

/-! Hypotheses of EventsBecomeRecords. -/

theorem wit_EventsBecomeRecords_1 : ∃ (s : State) (code sev inst : Nat) (data : List Byte),
    s.opCounts = true ∧ sourceId (code / 256) = true ∧ 1 ≤ code % 256 ∧ code % 256 ≤ 0xF3 ∧ sev ≤ 7 :=
  ⟨base, 0x0301, 7, 0, [], by decide +kernel, by decide +kernel, by decide +kernel, by decide +kernel, by decide +kernel⟩

theorem wit_EventsBecomeRecords_2 : ∃ (s : State) (e : Evt) (rest : List Evt),
    s.formats = true ∧ s.tph.queue = e :: rest ∧ s.repeatOf e = none ∧ s.tph.recs.length < 65536 :=
  ⟨store 1 3, { code := 0x0302, sev := 3 }, [], by decide +kernel, by decide +kernel, by decide +kernel, by decide +kernel⟩

theorem wit_EventsBecomeRecords_3 : ∃ (s : State) (e : Evt) (rest : List Evt) (r : Rec),
    s.formats = true ∧ s.tph.queue = e :: rest ∧ s.repeatOf e = some r :=
  ⟨store 1 3 { code := 0x0301, sev := 3, counted := true }, { code := 0x0301, sev := 3, counted := true }, [], recOf 1 3,
      by decide +kernel, by decide +kernel, by decide +kernel⟩

theorem wit_EventsBecomeRecords_5 : ∃ (s : State) (e : Evt) (rest : List Evt) (v : Rec), s.formats = true ∧
    s.tph.queue = e :: rest ∧ s.repeatOf e = none ∧ 65536 ≤ s.tph.recs.length ∧ victim s.tph.recs e.sev = some v :=
  ⟨store 65536 0, { code := 0x0302, sev := 3 }, [], recOf 1 0, by decide +kernel, rfl, by decide +kernel, (store_length _ _ _).ge,
    by rw [show (65536 : Nat) = 65535 + 1 from rfl, store_victim]; decide⟩

theorem wit_EventsBecomeRecords_6 : ∃ (s : State) (e : Evt) (rest : List Evt), s.formats = true ∧
    s.tph.queue = e :: rest ∧ s.repeatOf e = none ∧ 65536 ≤ s.tph.recs.length ∧ victim s.tph.recs e.sev = none :=
  ⟨store 65536 7, { code := 0x0302, sev := 3 }, [], by decide +kernel, rfl, by decide +kernel, (store_length _ _ _).ge,
    by rw [show (65536 : Nat) = 65535 + 1 from rfl, store_victim]; decide⟩

theorem wit_EventsBecomeRecords_7 : ∃ (s : State) (r : Rec),
    s.formats = true ∧ s.tph.recs.find? (fun x => x.seq == r.seq) = some r ∧ r.windowOpen = true ∧
      r.evt.stamp.op + s.parN Idx.TPH_REPWIN ≤ s.pwr.opTime :=
  ⟨{ base with tph.recs := [{ recOf 1 3 with windowOpen := true }] }, { recOf 1 3 with windowOpen := true }, by decide +kernel,
      by decide +kernel, by decide +kernel, by decide +kernel⟩

theorem wit_EventsBecomeRecords_8 : ∃ (s : State) (k : Nat) (x : Stream),
    s.formats = true ∧ k < 4 ∧ s.tph.streams.length = 4 ∧ s.stream k = some x ∧ x.fill ≠ [] ∧ x.cursor = none ∧ x.queue.length < 8 ∧
      (x.fill.length = 15 ∨ x.fillAt + x.fillLat ≤ s.pwr.opTime) :=
  ⟨streaming, 0, { slot := 0, minSev := 0, sources := [], fill := [(recOf 1 3, false)] }, by decide +kernel, by decide +kernel,
      by decide +kernel, by decide +kernel, by decide +kernel, by decide +kernel, by decide +kernel, by decide +kernel⟩

/-! Hypotheses of HostsReadEvents. -/

theorem wit_HostsReadEvents_1 : ∃ (s : State) (tag k : Nat),
    s.Admitted tag 0x20 0 ∧ getU (s.flight tag).p 0 1 ≤ 7 ∧ getU (s.flight tag).p 1 1 ≤ 8 ∧ (∀ n ∈ subSources (s.flight tag).p,
      sourceId n = true) ∧ s.freeStream = some k ∧ (getU (s.flight tag).p 2 1).testBit 0 = false :=
  ⟨cmd 0x20 [7, 2, 0, 0, 3, 5], 5, 0, ⟨by decide +kernel, by decide +kernel⟩, by decide +kernel, by decide +kernel,
      by decide +kernel, by decide +kernel, by decide +kernel⟩

theorem wit_HostsReadEvents_2 : ∃ (s : State) (tag k : Nat),
    s.Admitted tag 0x20 0 ∧ getU (s.flight tag).p 0 1 ≤ 7 ∧ getU (s.flight tag).p 1 1 ≤ 8 ∧ (∀ n ∈ subSources (s.flight tag).p,
      sourceId n = true) ∧ s.freeStream = some k ∧ (getU (s.flight tag).p 2 1).testBit 0 = true ∧ s.tph.streams.length = 4 :=
  ⟨cmd 0x20 [7, 0, 1, 0], 5, 0, ⟨by decide +kernel, by decide +kernel⟩, by decide +kernel, by decide +kernel, by decide +kernel,
      by decide +kernel, by decide +kernel, by decide +kernel⟩

theorem wit_HostsReadEvents_3 : ∃ (s : State) (tag : Nat),
    s.Admitted tag 0x20 0 ∧ getU (s.flight tag).p 0 1 ≤ 7 ∧ getU (s.flight tag).p 1 1 ≤ 8 ∧ (∀ n ∈ subSources (s.flight tag).p,
      sourceId n = true) ∧ (∀ j < 4, s.stream j ≠ none) :=
  ⟨cmd 0x20 [7, 0, 0, 0] { base with tph.streams := List.replicate 4 (some { slot := 0, minSev := 0, sources := [] }) }, 5,
      ⟨by decide +kernel, by decide +kernel⟩, by decide +kernel, by decide +kernel, by decide +kernel, by decide +kernel⟩

theorem wit_HostsReadEvents_4 : ∃ (s : State) (tag : Nat),
    s.Admitted tag 0x20 0 ∧ (7 < getU (s.flight tag).p 0 1 ∨ 8 < getU (s.flight tag).p 1 1) :=
  ⟨cmd 0x20 [8, 0, 0, 0], 5, ⟨by decide +kernel, by decide +kernel⟩, by decide +kernel⟩

theorem wit_HostsReadEvents_5 : ∃ (s : State) (tag : Nat),
    s.Admitted tag 0x21 0 ∧ (getU (s.flight tag).p 6 1).testBit 0 = false ∧ evtReadBad (s.flight tag).p = false ∧
      (s.flight tag).slot < s.host.slots.length :=
  ⟨cmd 0x21 [0, 0, 0, 0, 0, 0, 0, 0, 0, 1], 5, ⟨by decide +kernel, by decide +kernel⟩, by decide +kernel, by decide +kernel,
      by decide +kernel⟩

theorem wit_HostsReadEvents_6 : ∃ (s : State) (tag : Nat),
    s.Admitted tag 0x21 0 ∧ (getU (s.flight tag).p 6 1).testBit 0 = true ∧ evtReadBad (s.flight tag).p = false ∧
      (s.flight tag).slot < s.host.slots.length :=
  ⟨cmd 0x21 [0, 0, 0, 0, 0, 0, 1, 0, 0, 1], 5, ⟨by decide +kernel, by decide +kernel⟩, by decide +kernel, by decide +kernel,
      by decide +kernel⟩

theorem wit_HostsReadEvents_7 : ∃ (s : State) (tag : Nat),
    s.Admitted tag 0x21 0 ∧ evtReadBad (s.flight tag).p = true :=
  ⟨cmd 0x21 [0, 0, 0, 0, 0, 0, 0, 0, 0, 15], 5, ⟨by decide +kernel, by decide +kernel⟩, by decide +kernel⟩

/-! Hypotheses of CalendarCounts. -/

theorem wit_CalendarCounts_1 : ∃ c : Calendar,
    c.valid = true :=
  ⟨{ year := 2000, month := 2, day := 29 }, by decide +kernel⟩

theorem wit_CalendarCounts_2 : ∃ s : State,
    s.pwr.state ≠ .off ∧ s.rtc.sub = 32767 ∧ 125 ≤ s.rtc.frac :=
  ⟨{ base with rtc.sub := 32767, rtc.frac := 125 }, by decide +kernel, by decide +kernel, by decide +kernel⟩

theorem wit_CalendarCounts_3 : ∃ (s : State) (tag : Nat) (c : Calendar),
    s.Admitted tag 0x28 2 ∧ c = readCalendar (s.flight tag).p ∧ getU (s.flight tag).p 7 1 = 0 ∧ getU (s.flight tag).p 10 6 = 0 ∧
      c.valid = true ∧ getU (s.flight tag).p 8 2 ≤ 999 :=
  ⟨cmd 0x28 (lastSecond 31 999), 5, { year := 2199, month := 12, day := 31, hour := 23, minute := 59, second := 59 },
      ⟨by decide +kernel, by decide +kernel⟩, by decide +kernel, by decide +kernel, by decide +kernel, by decide +kernel,
      by decide +kernel⟩

theorem wit_CalendarCounts_4 : ∃ (s : State) (tag : Nat) (c : Calendar),
    s.Admitted tag 0x28 2 ∧ c = readCalendar (s.flight tag).p ∧ getU (s.flight tag).p 7 1 = 0 ∧ getU (s.flight tag).p 10 6 = 0 ∧
      (c.valid = false ∨ 999 < getU (s.flight tag).p 8 2) :=
  ⟨cmd 0x28 (lastSecond 32 999), 5, { year := 2199, month := 12, day := 32, hour := 23, minute := 59, second := 59 },
      ⟨by decide +kernel, by decide +kernel⟩, by decide +kernel, by decide +kernel, by decide +kernel, by decide +kernel⟩

theorem wit_CalendarCounts_5 : ∃ (s : State) (tag : Nat),
    s.Admitted tag 0x29 0 :=
  ⟨cmd 0x29 [], 5, ⟨by decide +kernel, by decide +kernel⟩⟩

theorem wit_CalendarCounts_6 : ∃ (s : State) (ppm : Int) (good : Nat),
    s.pwr.state ≠ .off ∧ 2 ^ 20 ≤ s.rtc.window :=
  ⟨{ base with rtc.window := 2 ^ 20 }, -2, 0, by decide +kernel, by decide +kernel⟩

/-! Hypotheses of SessionsAreAuthenticated. -/

theorem wit_SessionsAreAuthenticated_1 : ∃ (s : State) (tag : Nat),
    s.Admitted tag 0x40 0 ∧ (s.flight tag).slot < s.host.slots.length ∧
      s.challengeRefused (s.flight tag).p (s.slot (s.flight tag).slot).authBusy.isSome = none :=
  ⟨cmd 0x40 [], 5, ⟨by decide +kernel, by decide +kernel⟩, by decide +kernel, by decide +kernel⟩

theorem wit_SessionsAreAuthenticated_2 : ∃ (s : State) (tag : Nat) (st : Status),
    s.Admitted tag 0x40 0 ∧ s.challengeRefused (s.flight tag).p (s.slot (s.flight tag).slot).authBusy.isSome = some st :=
  ⟨cmd 0x40 (List.replicate 88 0 ++ [4]), 5, .range, ⟨by decide +kernel, by decide +kernel⟩, by decide +kernel⟩

theorem wit_SessionsAreAuthenticated_3 : ∃ (s : State) (tag : Nat) (c : Challenge),
    s.Admitted tag 0x41 0 ∧ (s.flight tag).slot < s.host.slots.length ∧
      s.pendingChal (s.slot (s.flight tag).slot).challenge = some c ∧ (s.slot (s.flight tag).slot).session = none :=
  ⟨cmd 0x41 [] (atSlot 0 { challenge := some (chalAt 9999999) }), 5, chalAt 9999999, ⟨by decide +kernel, by decide +kernel⟩,
      by decide +kernel, by decide +kernel, by decide +kernel⟩

theorem wit_SessionsAreAuthenticated_4 : ∃ (s : State) (tag : Nat),
    s.Admitted tag 0x41 0 ∧ (s.flight tag).slot < s.host.slots.length ∧
      s.pendingChal (s.slot (s.flight tag).slot).challenge = none :=
  ⟨cmd 0x41 [] (atSlot 0 { challenge := some (chalAt 7000000) }), 5, ⟨by decide +kernel, by decide +kernel⟩, by decide +kernel,
      by decide +kernel⟩

theorem wit_SessionsAreAuthenticated_5 : ∃ (s : State) (src tseq : Nat) (bs : List Byte),
    s.lmpServes = true ∧ s.rng.enabled = true ∧ src < 1024 ∧ bs.length ≤ 512 ∧ (∃ x ∈ s.sec.ringAns, x.addr = src ∧ x.seq = tseq) :=
  ⟨{ ring with sec.ringAns := [⟨9, 4, {}⟩] }, 9, 4, [], by decide +kernel, by decide +kernel, by decide +kernel, by decide +kernel,
      by decide +kernel⟩

theorem wit_SessionsAreAuthenticated_6 : ∃ (s : State) (src tseq : Nat) (bs : List Byte),
    s.lmpServes = true ∧ s.rng.enabled = true ∧ src < 1024 ∧ bs.length ≤ 512 ∧ (∀ x ∈ s.sec.ringAns, ¬(x.addr = src ∧
      x.seq = tseq)) ∧ (readDesc bs).opcode = 0x40 ∧
      s.challengeRefused (readDesc bs).payload ((s.ringFail src).busy.isSome || (!(s.sec.ringChals.any fun x => x.addr == src) && decide (4 ≤ s.sec.ringChals.length))) = none :=
  ⟨ring, 1023, 4, [0x40], by decide +kernel, by decide +kernel, by decide +kernel, by decide +kernel, by decide +kernel,
      by decide +kernel, by decide +kernel⟩

theorem wit_SessionsAreAuthenticated_7 : ∃ (s : State) (src tseq : Nat) (bs : List Byte),
    s.lmpServes = true ∧ s.rng.enabled = true ∧ src < 1024 ∧ bs.length ≤ 512 ∧ (∀ x ∈ s.sec.ringAns, ¬(x.addr = src ∧
      x.seq = tseq)) ∧ (readDesc bs).opcode ≠ 0x40 ∧ (readDesc bs).opcode ≠ 0x41 :=
  ⟨ring, 9, 4, [0x42], by decide +kernel, by decide +kernel, by decide +kernel, by decide +kernel, by decide +kernel,
      by decide +kernel, by decide +kernel⟩

theorem wit_SessionsAreAuthenticated_8 : ∃ (s : State) (src tseq h : Nat) (bs : List Byte) (c : Challenge),
    s.lmpServes = true ∧ s.rng.enabled = true ∧ src < 1024 ∧ bs.length ≤ 512 ∧ (∀ x ∈ s.sec.ringAns, ¬(x.addr = src ∧
      x.seq = tseq)) ∧ (readDesc bs).opcode = 0x41 ∧ s.ringChal src = some c ∧ s.ringSlot src = some h ∧ h < s.host.slots.length ∧
      (s.slot h).session = none :=
  ⟨ringChallenged 9999999, 9, 4, 3, [0x41], chalAt 9999999, by decide +kernel, by decide +kernel, by decide +kernel,
      by decide +kernel, by decide +kernel, by decide +kernel, by decide +kernel, by decide +kernel, by decide +kernel,
      by decide +kernel⟩

theorem wit_SessionsAreAuthenticated_9 : ∃ (s : State) (a : Nat) (c : Challenge),
    a < 8 ∧ (s.slot a).challenge = some c ∧ c.at_ + 2000 ≤ s.pwr.opTime :=
  ⟨atSlot 7 { challenge := some (chalAt 9998000) }, 7, chalAt 9998000, by decide +kernel, by decide +kernel, by decide +kernel⟩

theorem wit_SessionsAreAuthenticated_10 : ∃ (s : State) (a : Nat) (x : RingChal),
    s.sec.ringChals.find? (fun x => x.addr == a) = some x ∧ x.chal.at_ + 2000 ≤ s.pwr.opTime :=
  ⟨ringChallenged 9998000, 9, ⟨9, chalAt 9998000⟩, by decide +kernel, by decide +kernel⟩

theorem wit_SessionsAreAuthenticated_11 : ∃ (s : State) (a until_ : Nat),
    a < 8 ∧ (s.slot a).authBusy = some until_ ∧ until_ ≤ s.pwr.opTime :=
  ⟨atSlot 7 { authBusy := some 10000000 }, 7, 10000000, by decide +kernel, by decide +kernel, by decide +kernel⟩

theorem wit_SessionsAreAuthenticated_12 : ∃ (s : State) (a until_ : Nat),
    (s.ringFail a).busy = some until_ ∧ until_ ≤ s.pwr.opTime :=
  ⟨{ ring with sec.ringFails := [⟨9, 5, some 10000000⟩] }, 9, 10000000, by decide +kernel, by decide +kernel⟩

/-! Hypotheses of TheDeviceAttests. -/

theorem wit_TheDeviceAttests_1 : ∃ s : State,
    s.sec.measDirty = true ∧ s.opCounts = true :=
  ⟨{ base with sec.measDirty := true }, by decide +kernel, by decide +kernel⟩

theorem wit_TheDeviceAttests_2 : ∃ (s : State) (tag : Nat),
    s.Admitted tag 0x4A 0 ∧ (s.flight tag).selector = 0 ∧ s.sec.dbg ≠ 2 :=
  ⟨cmd 0x4A (List.replicate 32 0 ++ [0]), 5, ⟨by decide +kernel, by decide +kernel⟩, by decide +kernel, by decide +kernel⟩

theorem wit_TheDeviceAttests_3 : ∃ (s : State) (tag : Nat),
    s.Admitted tag 0x4A 0 ∧ 2 < (s.flight tag).selector ∧ s.sec.dbg ≠ 2 :=
  ⟨cmd 0x4A (List.replicate 32 0 ++ [3]), 5, ⟨by decide +kernel, by decide +kernel⟩, by decide +kernel, by decide +kernel⟩

theorem wit_TheDeviceAttests_4 : ∃ (s : State) (tag : Nat),
    s.Admitted tag 0x4A 0 ∧ (s.flight tag).selector = 1 ∧ s.sec.dbg ≠ 2 :=
  ⟨cmd 0x4A (List.replicate 32 0 ++ [1]), 5, ⟨by decide +kernel, by decide +kernel⟩, by decide +kernel, by decide +kernel⟩

theorem wit_TheDeviceAttests_5 : ∃ (s : State) (tag : Nat),
    s.Admitted tag 0x4A 0 ∧ (s.flight tag).selector = 2 ∧ s.sec.dbg ≠ 2 :=
  ⟨cmd 0x4A (List.replicate 32 0 ++ [2]), 5, ⟨by decide +kernel, by decide +kernel⟩, by decide +kernel, by decide +kernel⟩

theorem wit_TheDeviceAttests_6 : ∃ (s : State) (tag : Nat),
    s.Admitted tag 0x4A 0 ∧ s.sec.dbg = 2 :=
  ⟨cmd 0x4A (List.replicate 32 0 ++ [0]) { base with sec.dbg := 2 }, 5, ⟨by decide +kernel, by decide +kernel⟩, by decide +kernel⟩

/-! Hypotheses of FirmwareIsStagedAndSwitched. -/

theorem wit_FirmwareIsStagedAndSwitched_1 : ∃ (s : State) (tag k : Nat),
    s.Admitted tag 0x48 3 ∧ (s.flight tag).fwDiscards = false ∧ 1 ≤ (s.flight tag).fwLen ∧ (s.flight tag).fwLen ≤ 448 ∧
      (s.flight tag).fwOff + (s.flight tag).fwLen ≤ 1572864 ∧ ((s.flight tag).fwFlag 0 = true → (s.flight tag).fwFlag 1 = false ∧
      s.beginRefused (s.flight tag) = false) ∧ ((s.flight tag).fwFlag 0 = false → s.sec.claim = some (s.flight tag).slot) ∧
      (s.inLoader = true → getU (s.flight tag).p 1 1 ≤ 1) ∧ (s.inLoader = false → getU (s.flight tag).p 1 1 = 0) ∧
      k = (if (s.flight tag).fwFlag 0 then s.fwTarget (s.flight tag) else s.sec.staged) ∧ k < s.sec.fw.length ∧
      memWf zeroByte (s.fwSlot k).bytes :=
  ⟨cmd 0x48 (toLe 1 0 ++ [0, 0, 0] ++ toLe 4 1572416 ++ toLe 2 448) claimed, 5, 1, ⟨by decide +kernel, by decide +kernel⟩,
      by decide +kernel, by decide +kernel, by decide +kernel, by decide +kernel, by decide +kernel, by decide +kernel,
      by decide +kernel, by decide +kernel, by decide +kernel, by decide +kernel, by decide +kernel⟩

theorem wit_FirmwareIsStagedAndSwitched_2 : ∃ (s : State) (tag : Nat),
    s.Admitted tag 0x48 3 ∧ (s.flight tag).fwDiscards = true ∧ s.sec.claim = some (s.flight tag).slot :=
  ⟨cmd 0x48 [2] claimed, 5, ⟨by decide +kernel, by decide +kernel⟩, by decide +kernel, by decide +kernel⟩

theorem wit_FirmwareIsStagedAndSwitched_3 : ∃ (s : State) (tag : Nat),
    s.Admitted tag 0x49 3 ∧ (s.flight tag).fwOp = 1 ∧ s.inLoader = false :=
  ⟨cmd 0x49 [1] claimed, 5, ⟨by decide +kernel, by decide +kernel⟩, by decide +kernel, by decide +kernel⟩

theorem wit_FirmwareIsStagedAndSwitched_4 : ∃ (s : State) (tag : Nat) (f : Flight),
    s.lmpServes = true ∧ s.flight? tag = some f ∧ f.phase = .quietWait ∧ s.quiet = true :=
  ⟨switching .quietWait, 5, (switching .quietWait).flight 5, by decide +kernel, by decide +kernel, by decide +kernel,
      by decide +kernel⟩

theorem wit_FirmwareIsStagedAndSwitched_5 : ∃ (s : State) (tag : Nat) (f : Flight),
    s.flight? tag = some f ∧ f.phase = .quietWait ∧ s.sec.quietAt + s.parN Idx.SEC_QUIETMAX ≤ s.pwr.opTime :=
  ⟨switching .quietWait, 5, (switching .quietWait).flight 5, by decide +kernel, by decide +kernel, by decide +kernel⟩

theorem wit_FirmwareIsStagedAndSwitched_6 : ∃ (s : State) (tag : Nat) (f : Flight),
    s.flight? tag = some f ∧ f.phase = .switching ∧ s.lmp.restarting = false ∧ s.engines = true :=
  ⟨switching .switching, 5, (switching .switching).flight 5, by decide +kernel, by decide +kernel, by decide +kernel,
      by decide +kernel⟩

theorem wit_FirmwareIsStagedAndSwitched_7 : ∃ (s : State) (tag : Nat),
    s.Admitted tag 0x49 3 ∧ (s.flight tag).fwOp = 2 :=
  ⟨cmd 0x49 [2] claimed, 5, ⟨by decide +kernel, by decide +kernel⟩, by decide +kernel⟩

theorem wit_FirmwareIsStagedAndSwitched_8 : ∃ (s : State) (tag : Nat),
    s.Admitted tag 0x49 3 ∧ (s.flight tag).fwOp = 3 :=
  ⟨cmd 0x49 [3] claimed, 5, ⟨by decide +kernel, by decide +kernel⟩, by decide +kernel⟩

theorem wit_FirmwareIsStagedAndSwitched_9 : ∃ (s : State) (ch : Nat),
    ch < 2 ∧ s.pwr.state = .dormant ∧ s.sec.swapping = true ∧ s.swapDue ch = true :=
  ⟨unswapped 0 0 4 .dormant, 0, by decide +kernel, by decide +kernel, by decide +kernel, by decide +kernel⟩

theorem wit_FirmwareIsStagedAndSwitched_10 : ∃ (s : State) (ch : Nat),
    ch < 2 ∧ s.pwr.state = .dormant ∧ s.sec.swapping = true ∧ s.swapDue ch = true :=
  ⟨unswapped 1 0 5 .dormant, 1, by decide +kernel, by decide +kernel, by decide +kernel, by decide +kernel⟩

theorem wit_FirmwareIsStagedAndSwitched_11 : ∃ s : State,
    s.sec.fwStat = 4 ∧ s.channelStale s.sec.safA = false ∧ s.channelStale s.sec.safB = true ∧
      3600000 * s.parN Idx.SEC_SWAPGAP ≤ s.sec.swapRun :=
  ⟨unswapped 1 0 4 .run, by decide +kernel, by decide +kernel, by decide +kernel, by decide +kernel⟩

/-! Hypotheses of DormantIsEnteredAndLeft. -/

theorem wit_DormantIsEnteredAndLeft_1 : ∃ (s : State) (tag : Nat) (wake : Bool),
    s.Admitted tag 0x38 1 ∧ getU (s.flight tag).p 0 1 = 3 ∧ ({ s with pwr.wakeLand := wake } : State).dormantRequestOk 1 = true :=
  ⟨cmd 0x38 [3] (idleCar 63), 5, false, ⟨by decide +kernel, by decide +kernel⟩, by decide +kernel, by decide +kernel⟩

theorem wit_DormantIsEnteredAndLeft_2 : ∃ (s : State) (tag : Nat) (wake : Bool),
    s.Admitted tag 0x38 1 ∧ getU (s.flight tag).p 0 1 = 3 ∧ ({ s with pwr.wakeLand := wake } : State).dormantRequestOk 1 = false :=
  ⟨cmd 0x38 [3] (idleCar 63), 5, true, ⟨by decide +kernel, by decide +kernel⟩, by decide +kernel, by decide +kernel⟩

theorem wit_DormantIsEnteredAndLeft_3 : ∃ (s : State) (tag : Nat) (wake : Bool),
    s.Admitted tag 0x38 1 ∧ getU (s.flight tag).p 0 1 ≠ 3 :=
  ⟨cmd 0x38 [2], 5, false, ⟨by decide +kernel, by decide +kernel⟩, by decide +kernel⟩

theorem wit_DormantIsEnteredAndLeft_4 : ∃ (s : State) (wake : Bool) (p : List Byte),
    s.engines = true ∧ s.gysReq 11 = some p ∧ getU p 2 1 = 3 ∧ s.gys.acks.length = 12 ∧
      ({ s with pwr.wakeLand := wake } : State).dormantRequestOk 0 = true :=
  ⟨asks 11 [1, 0, 3, 0] (idleCar 64), false, [1, 0, 3, 0], by decide +kernel, by decide +kernel, by decide +kernel,
      by decide +kernel, by decide +kernel⟩

theorem wit_DormantIsEnteredAndLeft_5 : ∃ (s : State) (held : Nat),
    s.pwr.entering = false ∧ s.engines = true ∧ s.shf.handover = some held ∧ held + 20 ≤ s.pwr.opTime :=
  ⟨{ base with shf.handover := some 9999980 }, 9999980, by decide +kernel, by decide +kernel, by decide +kernel, by decide +kernel⟩

theorem wit_DormantIsEnteredAndLeft_6 : ∃ (s : State) (si fio sent : Nat),
    s.pwr.entering = true ∧ s.lmpServes = true ∧ s.pwr.state = .run ∧ s.gys.phase = .boundary ∧ (∀ j ∈ s.gys.journals,
      j.durable = true) :=
  ⟨{ base with pwr.entering := true }, 0, 0, 0, by decide +kernel, by decide +kernel, by decide +kernel, by decide +kernel,
      by decide +kernel⟩

theorem wit_DormantIsEnteredAndLeft_7 : ∃ (s : State) (src at_ : Nat) (v : Int),
    (s.pwr.entering = true ∨ s.shf.handover ≠ none) ∧ s.pwr.state ≠ .dormant ∧ s.wakeQualifies src v = true :=
  ⟨{ base with pwr.entering := true }, 0, 0, 0, by decide +kernel, by decide +kernel, by decide +kernel⟩

theorem wit_DormantIsEnteredAndLeft_8 : ∃ (s : State) (src at_ : Nat) (v : Int),
    s.pwr.state = .dormant ∧ s.wakeQualifies src v = true :=
  ⟨asleep, 7, 0, 1, by decide +kernel, by decide +kernel⟩

theorem wit_DormantIsEnteredAndLeft_9 : ∃ (s : State) (edges : Int),
    s.pwr.state = .dormant ∧ s.pwr.waking = true ∧ s.sec.swapping = false :=
  ⟨{ asleep with pwr.waking := true }, 0, by decide +kernel, by decide +kernel, by decide +kernel⟩

theorem wit_DormantIsEnteredAndLeft_10 : ∃ (s : State) (f : RFrame),
    s.rng.enabled = true ∧ s.nextFrame 8 none = some f :=
  ⟨rcvd 8 [] ring, frm 8 [], by decide +kernel, by decide +kernel⟩

/-! Hypotheses of SupplyAndTemperatureThresholds. -/

theorem wit_SupplyAndTemperatureThresholds_1 : ∃ (s : State) (mV us : Nat),
    s.opCounts = true ∧ s.pwr.vinOv = false ∧ 32000 < mV ∧ 1000 ≤ us :=
  ⟨base, 32001, 1000, by decide +kernel, by decide +kernel, by decide +kernel, by decide +kernel⟩

theorem wit_SupplyAndTemperatureThresholds_2 : ∃ (s : State) (mV us : Nat),
    s.opCounts = true ∧ s.pwr.vinOv = true ∧ mV < 31000 ∧ 100000 ≤ us :=
  ⟨{ base with pwr.vinOv := true }, 30999, 100000, by decide +kernel, by decide +kernel, by decide +kernel, by decide +kernel⟩

theorem wit_SupplyAndTemperatureThresholds_3 : ∃ (s : State) (mV us : Nat),
    s.opCounts = true ∧ s.pwr.vinWarn = false ∧ mV < 19000 ∧ 1000 ≤ us :=
  ⟨base, 18999, 1000, by decide +kernel, by decide +kernel, by decide +kernel, by decide +kernel⟩

theorem wit_SupplyAndTemperatureThresholds_4 : ∃ (s : State) (mV us : Nat),
    s.opCounts = true ∧ s.pwr.vinWarn = true ∧ 19500 < mV ∧ 100000 ≤ us :=
  ⟨{ base with pwr.vinWarn := true }, 19501, 100000, by decide +kernel, by decide +kernel, by decide +kernel, by decide +kernel⟩

theorem wit_SupplyAndTemperatureThresholds_5 : ∃ (s : State) (mV us : Nat),
    s.opCounts = true ∧ s.pwr.sag = false ∧ mV < 16000 ∧ 2000 ≤ us ∧ s.pwr.state ≠ .dormant ∧ s.pwr.entering = false ∧
      s.shf.handover = none :=
  ⟨base, 15999, 2000, by decide +kernel, by decide +kernel, by decide +kernel, by decide +kernel, by decide +kernel,
      by decide +kernel, by decide +kernel⟩

theorem wit_SupplyAndTemperatureThresholds_6 : ∃ (s : State) (mV us : Nat),
    s.opCounts = true ∧ s.pwr.sag = true ∧ 17000 ≤ mV ∧ 100000 ≤ us :=
  ⟨{ base with pwr.sag := true }, 17000, 100000, by decide +kernel, by decide +kernel, by decide +kernel, by decide +kernel⟩

theorem wit_SupplyAndTemperatureThresholds_7 : ∃ (s : State) (tdie : Int) (ms : Nat),
    s.opCounts = true ∧ s.pwr.tempHigh = false ∧ 1300 < tdie ∧ 1000 ≤ ms :=
  ⟨base, 1301, 1000, by decide +kernel, by decide +kernel, by decide +kernel, by decide +kernel⟩

theorem wit_SupplyAndTemperatureThresholds_8 : ∃ (s : State) (tdie : Int),
    s.opCounts = true ∧ s.pwr.tempHigh = true ∧ tdie < 1250 :=
  ⟨{ base with pwr.tempHigh := true }, 1249, by decide +kernel, by decide +kernel, by decide +kernel⟩

theorem wit_SupplyAndTemperatureThresholds_9 : ∃ (s : State) (tdie : Int) (ms : Nat),
    s.engines = true ∧ s.pwr.tempTrip = false ∧ 1400 < tdie ∧ 1000 ≤ ms :=
  ⟨base, 1401, 1000, by decide +kernel, by decide +kernel, by decide +kernel, by decide +kernel⟩

theorem wit_SupplyAndTemperatureThresholds_10 : ∃ (s : State) (tdie : Int) (ms : Nat),
    s.engines = true ∧ s.pwr.tempTrip = true ∧ tdie < 1200 ∧ 60000 ≤ ms :=
  ⟨{ base with pwr.tempTrip := true }, 1199, 60000, by decide +kernel, by decide +kernel, by decide +kernel, by decide +kernel⟩

/-! Hypotheses of DeviceStopsAndStarts. -/

theorem wit_DeviceStopsAndStarts_1 : ∃ (s : State) (mV us : Nat),
    s.opCounts = true ∧ mV < 12000 ∧ 20 ≤ us :=
  ⟨base, 11999, 20, by decide +kernel, by decide +kernel, by decide +kernel⟩

theorem wit_DeviceStopsAndStarts_2 : ∃ (s : State) (rail us : Nat),
    s.opCounts = true ∧ rail ≤ 6 ∧ 10 < us :=
  ⟨base, 6, 11, by decide +kernel, by decide +kernel, by decide +kernel⟩

theorem wit_DeviceStopsAndStarts_3 : ∃ (s : State) (us : Nat),
    s.opCounts = true ∧ s.pwr.nrstLow = false ∧ 10 ≤ us :=
  ⟨base, 10, by decide +kernel, by decide +kernel, by decide +kernel⟩

theorem wit_DeviceStopsAndStarts_4 : ∃ (s : State) (us : Nat),
    s.pwr.state = .aon ∧ s.pwr.nrstLow = false ∧ 10 ≤ us :=
  ⟨State.reset, 10, by decide +kernel, by decide +kernel, by decide +kernel⟩

theorem wit_DeviceStopsAndStarts_5 : ∃ (s : State) (mV us : Nat) (boot : Bool),
    s.pwr.state = .aon ∧ s.pwr.aonOnVin = true ∧ s.pwr.nrstLow = false ∧ 17000 ≤ mV ∧ 10000 ≤ us :=
  ⟨{ State.reset with pwr.aonOnVin := true }, 17000, 10000, false, by decide +kernel, by decide +kernel, by decide +kernel,
      by decide +kernel, by decide +kernel⟩

theorem wit_DeviceStopsAndStarts_6 : ∃ (s : State) (mV items : Nat) (boot : Bool) (moved : Int),
    s.pwr.nrstLow = true ∧ s.pwr.state = .aon :=
  ⟨{ State.reset with pwr.nrstLow := true }, 17000, 0, false, 0, by decide +kernel, by decide +kernel⟩

theorem wit_DeviceStopsAndStarts_7 : ∃ (s : State) (verifies cell k : Nat) (repaired slots : List Nat) (cal : Nat) (pos : Int),
    s.pwr.state = .start ∧ s.pwr.recovery = false ∧ s.pwr.bootsel = false ∧ s.bootSlot verifies = some k ∧ cal ≠ 2 ∧
      s.pwr.sag = false :=
  ⟨{ base with pwr.state := .start }, 1, 3000, 0, [], [], 0, 0, by decide +kernel, by decide +kernel, by decide +kernel,
      by decide +kernel, by decide +kernel, by decide +kernel⟩

theorem wit_DeviceStopsAndStarts_8 : ∃ (s : State) (verifies selfTest cal cell : Nat) (repaired lost slots : List Nat) (differ : Bool) (pos : Int),
    s.pwr.state = .start ∧ s.pwr.recovery = false ∧ s.pwr.bootsel = false :=
  ⟨{ base with pwr.state := .start }, 0, 0, 0, 3000, [], [], [], false, 0, by decide +kernel, by decide +kernel, by decide +kernel⟩

theorem wit_DeviceStopsAndStarts_9 : ∃ (s : State) (verifies selfTest cal cell : Nat) (repaired lost slots : List Nat) (differ : Bool) (pos : Int),
    s.pwr.state = .start ∧ s.pwr.recovery = false ∧ s.pwr.bootsel = true :=
  ⟨{ base with pwr.state := .start, pwr.bootsel := true }, 0, 0, 0, 3000, [], [], [], false, 0, by decide +kernel,
      by decide +kernel, by decide +kernel⟩

/-! Hypotheses of AonSupplyAndClocks. -/

theorem wit_AonSupplyAndClocks_1 : ∃ (s : State) (mV cell : Nat),
    s.pwr.state = .aon ∧ s.pwr.aonOnVin = true ∧ mV < 9000 :=
  ⟨{ State.reset with pwr.aonOnVin := true }, 8999, 1799, by decide +kernel, by decide +kernel, by decide +kernel⟩

theorem wit_AonSupplyAndClocks_2 : ∃ (s : State) (mV cell : Nat),
    s.pwr.state = .aon ∧ s.pwr.aonOnVin = false ∧ 9500 ≤ mV :=
  ⟨State.reset, 9500, 0, by decide +kernel, by decide +kernel, by decide +kernel⟩

theorem wit_AonSupplyAndClocks_3 : ∃ (s : State) (mV cell : Nat),
    s.pwr.state = .off ∧ (2000 < cell ∨ 9500 < mV) :=
  ⟨{ State.reset with pwr.state := .off }, 0, 2001, by decide +kernel, by decide +kernel⟩

theorem wit_AonSupplyAndClocks_4 : ∃ (s : State) (cell : Nat),
    s.pwr.state = .aon ∧ s.pwr.aonOnVin = false ∧ s.pwr.holdup = false ∧ cell < 1800 :=
  ⟨State.reset, 1799, by decide +kernel, by decide +kernel, by decide +kernel, by decide +kernel⟩

theorem wit_AonSupplyAndClocks_5 : ∃ (s : State) (us : Nat),
    s.pwr.state = .aon ∧ s.pwr.holdup = true ∧ 200 ≤ us :=
  ⟨{ State.reset with pwr.holdup := true }, 200, by decide +kernel, by decide +kernel, by decide +kernel⟩

theorem wit_AonSupplyAndClocks_6 : ∃ (s : State) (mV : Nat),
    s.opCounts = true ∧ mV < 2400 :=
  ⟨base, 2399, by decide +kernel, by decide +kernel⟩

theorem wit_AonSupplyAndClocks_7 : ∃ (s : State) (ppm : Int),
    s.opCounts = true ∧ s.pwr.xtal25Bad = false ∧ 50000 < mag ppm :=
  ⟨base, 50001, by decide +kernel, by decide +kernel, by decide +kernel⟩

theorem wit_AonSupplyAndClocks_8 : ∃ (s : State) (ppm : Int) (ms : Nat),
    s.opCounts = true ∧ s.pwr.xtal32Bad = false ∧ 1000 ≤ ms ∧ 10000 < mag ppm :=
  ⟨base, 10001, 1000, by decide +kernel, by decide +kernel, by decide +kernel, by decide +kernel⟩

theorem wit_AonSupplyAndClocks_9 : ∃ (s : State) (ppm : Int) (ms : Nat),
    s.pwr.state = .aon ∧ s.pwr.aonOnVin = true ∧ s.pwr.xtal32Bad = false ∧ 1000 ≤ ms ∧ 50000 < mag ppm :=
  ⟨{ State.reset with pwr.aonOnVin := true }, 50001, 1000, by decide +kernel, by decide +kernel, by decide +kernel,
      by decide +kernel, by decide +kernel⟩

theorem wit_AonSupplyAndClocks_10 : ∃ s : State,
    s.opCounts = true ∧ s.pwr.opTimeStored + 1000 ≤ s.pwr.opTime :=
  ⟨base, by decide +kernel, by decide +kernel⟩

/-! Hypotheses of MemoryReadsWhatWasWritten. -/

theorem wit_MemoryReadsWhatWasWritten_1 : ∃ (d : Nat → Byte) (m : Mem) (a b : Nat) (v : Byte),
    memWf d m = true :=
  ⟨zeroByte, [], 0, 0, 7, by decide +kernel⟩

theorem wit_MemoryReadsWhatWasWritten_2 : ∃ (d : Nat → Byte) (m : Mem), memWf d m = true := ⟨zeroByte, [⟨0, 7⟩], by decide⟩

theorem wit_MemoryReadsWhatWasWritten_3 : ∃ (d : Nat → Byte) (m n : Mem), memWf d m = true ∧ memWf d n = true ∧
    (∀ a, memRead d m a = memRead d n a) := ⟨zeroByte, [⟨0, 7⟩], [⟨0, 7⟩], by decide, by decide, fun _ => rfl⟩

/-! Hypotheses of EveryStepKeepsTheCalendar. -/

theorem wit_EveryStepKeepsTheCalendar_1 : ∃ s t : State,
    s.CalendarLegal ∧ step s = .next t :=
  ⟨State.reset, State.reset.idle, reset_calendar, rfl⟩

/-! Hypotheses of EveryStepKeepsTheMemories. -/

theorem wit_EveryStepKeepsTheMemories_1 : ∃ s t : State,
    s.MemoriesWf ∧ step s = .next t :=
  ⟨State.reset, State.reset.idle, reset_memories, rfl⟩

/-! Hypotheses of EveryStepKeepsTheShape. -/

theorem wit_EveryStepKeepsTheShape_1 : ∃ s t : State,
    s.Shape ∧ step s = .next t :=
  ⟨State.reset, State.reset.idle, reset_shape, rfl⟩

/-! Hypotheses of EventsBelowTheThresholdAreDiscarded. -/

theorem wit_EventsBelowTheThresholdAreDiscarded_1 : ∃ (s : State) (e : Evt),
    (e.sev : Int) < s.par Idx.TPH_RECSEV :=
  ⟨base, { code := 0x0301, sev := 0 }, by decide +kernel⟩

theorem wit_EventsBelowTheThresholdAreDiscarded_3 : ∃ (s : State) (e : Evt),
    pvFind s.dir.live Idx.TPH_RECSEV = none ∧ e.sev = 0 :=
  ⟨base, { code := 0x0301, sev := 0 }, by decide +kernel, by decide +kernel⟩

/-! Hypotheses of TheCalendarIsGregorian. -/

theorem wit_TheCalendarIsGregorian_6 : ∃ s t : State,
    2000 ≤ s.rtc.cal.year ∧ s.rtc.cal.year ≤ 2199 ∧ step s = .next t :=
  ⟨State.reset, State.reset.idle, by decide +kernel, by decide +kernel, rfl⟩

theorem wit_TheCalendarIsGregorian_7 : ∃ y,
    2000 ≤ y ∧ y ≤ 2199 ∧ leap y = false :=
  ⟨2199, by decide +kernel, by decide +kernel, by decide +kernel⟩

theorem wit_TheCalendarIsGregorian_8 : ∃ y,
    2000 ≤ y ∧ y ≤ 2199 ∧ leap y = true :=
  ⟨2196, by decide +kernel, by decide +kernel, by decide +kernel⟩

theorem wit_TheCalendarIsGregorian_9 : ∃ c : Calendar,
    c.valid = true ∧ c.hour = 23 ∧ c.minute = 59 ∧ c.second = 59 ∧ c.next.2 = false :=
  ⟨{ year := 2198, month := 12, day := 31, hour := 23, minute := 59, second := 59 }, by decide +kernel, by decide +kernel,
      by decide +kernel, by decide +kernel, by decide +kernel⟩

/-! Hypotheses of SubsecondsWeekdayAndWrap. -/

theorem wit_SubsecondsWeekdayAndWrap_1 : ∃ s t : State,
    s.rtc.sub ≤ 32767 ∧ step s = .next t :=
  ⟨State.reset, State.reset.idle, by decide +kernel, rfl⟩

theorem wit_SubsecondsWeekdayAndWrap_3 : ∃ n,
    n ≤ 32767 :=
  ⟨32767, by decide +kernel⟩

theorem wit_SubsecondsWeekdayAndWrap_6 : ∃ c : Calendar,
    c.valid = true ∧ c.next.2 = false :=
  ⟨{ year := 2100, month := 2, day := 28, hour := 23, minute := 59, second := 59 }, by decide +kernel, by decide +kernel⟩

theorem wit_SubsecondsWeekdayAndWrap_7 : ∃ s : State,
    s.pwr.state ≠ .off ∧ s.rtc.sub = 32767 ∧ 125 ≤ s.rtc.frac ∧
      s.rtc.cal = { year := 2199, month := 12, day := 31, hour := 23, minute := 59, second := 59 } :=
  ⟨{ base with rtc.sub := 32767, rtc.frac := 130, rtc.cal := { year := 2199, month := 12, day := 31, hour := 23, minute := 59, second := 59 } },
      by decide +kernel, by decide +kernel, by decide +kernel, by decide +kernel⟩

/-! Hypotheses of SecondSixtyDoesNotExist. -/

theorem wit_SecondSixtyDoesNotExist_1 : ∃ s t : State,
    s.rtc.cal.second < 60 ∧ step s = .next t :=
  ⟨State.reset, State.reset.idle, by decide +kernel, rfl⟩

theorem wit_SecondSixtyDoesNotExist_2 : ∃ c : Calendar,
    c.second = 59 :=
  ⟨{ year := 2016, month := 12, day := 31, hour := 23, minute := 59, second := 59 }, by decide +kernel⟩

theorem wit_SecondSixtyDoesNotExist_3 : ∃ (s : State) (tag : Nat),
    s.Admitted tag 0x28 2 ∧ getU (s.flight tag).p 7 1 = 0 ∧ getU (s.flight tag).p 10 6 = 0 ∧ getU (s.flight tag).p 6 1 = 60 :=
  ⟨cmd 0x28 (toLe 2 2100 ++ [6, 30, 23, 59, 60, 0] ++ List.replicate 8 0), 5, ⟨by decide +kernel, by decide +kernel⟩,
      by decide +kernel, by decide +kernel, by decide +kernel⟩

end Sys2Proof.Tests
end

section
/-!
PROOFS. The threshold of the event recorder (17 R430): what raising an event below TPH.RECSEV does, and what a device that
holds no value of TPH.RECSEV takes as the threshold.
-/
namespace Sys2Proof.Machine

/-- R430: nothing is stored, streamed, stamped or counted for an event below the threshold. -/
theorem State.raiseEvt_of_sev_lt (s : State) (e : Evt) (h : (e.sev : Int) < s.par Idx.TPH_RECSEV) : s.raiseEvt e = s := by
  unfold State.raiseEvt
  exact if_pos h

/-- A parameter with no live entry reads as its default (06 R120). -/
theorem State.par_of_pvFind_none (s : State) (i : Nat) (h : pvFind s.dir.live i = none) : s.par i = pvDefault i := by
  unfold State.par
  rw [h]

/-- The row of TPH.RECSEV in the parameter table: u8, ENGINEER, kept, default 1, range 0 to 7 (17, the TPH rows). -/
theorem paramInfo_recsev :
    paramInfo Idx.TPH_RECSEV =
      some { idx := Idx.TPH_RECSEV, ty := .u8, acc := .rw 2, per := .mram, dflt := 1, lo := 0, hi := 7, alts := [], mask := 0 } := by
  decide +kernel

theorem pvDefault_recsev : pvDefault Idx.TPH_RECSEV = 1 := by
  unfold pvDefault
  rw [paramInfo_recsev]

/-- Settles O57: `raiseEvt` keeps the state below the threshold, and with no live value the threshold is the default 1, which
severity 0 is below. -/
theorem eventsBelowTheThresholdAreDiscarded : Obligations.EventsBelowTheThresholdAreDiscarded := by
  unfold Obligations.EventsBelowTheThresholdAreDiscarded
  refine ⟨State.raiseEvt_of_sev_lt, pvDefault_recsev, fun s e hlive hsev => ?_⟩
  have hpar : s.par Idx.TPH_RECSEV = 1 := (s.par_of_pvFind_none _ hlive).trans pvDefault_recsev
  exact s.raiseEvt_of_sev_lt e (by rw [hpar, hsev]; decide)

end Sys2Proof.Machine
end

section
/-!
PROOFS. What leaves the calendar and the sub-second count alone (18 R446, R447): the relation between two states, how it passes
through the forms a meaning is built from, and the operations that write the RTC block or the parameters behind it.
-/
namespace Sys2Proof.Machine

/-! ## The relation -/

/-- From `s` to `t` the RTC shows the same date and time and the same sub-second count. -/
@[simp] abbrev State.SameClock (s t : State) : Prop := t.rtc.cal = s.rtc.cal ∧ t.rtc.sub = s.rtc.sub

theorem State.SameClock.trans {s t u : State} (h : s.SameClock t) (h' : t.SameClock u) : s.SameClock u :=
  ⟨h'.1.trans h.1, h'.2.trans h.2⟩

theorem State.sameClock_gys (s : State) (g : Gys) : s.SameClock { s with gys := g } := ⟨rfl, rfl⟩

/-- A meaning that can only lead where the RTC shows the same. -/
def KeepsClock (s : State) (o : Out) : Prop := ∀ t, o = .next t → s.SameClock t

theorem sameClock_foldl {α : Type} {g : State → α → State} (h : ∀ (s : State) x, s.SameClock (g s x)) (l : List α) (s : State) :
    s.SameClock (l.foldl g s) := by
  induction l generalizing s with
  | nil => exact ⟨rfl, rfl⟩
  | cons x l ih => exact (h s x).trans (ih (g s x))

/-! ## The forms of a meaning -/

theorem occurs_cases {c : Bool} {s t u : State} (h : occurs c s t = .next u) : u = s ∨ c = true ∧ u = t := by
  cases c
  · exact .inl (Host.Outcome.next.inj h).symm
  · exact .inr ⟨rfl, (Host.Outcome.next.inj h).symm⟩

theorem keepsClock_occurs {c : Bool} {s t : State} (h : s.SameClock t) : KeepsClock s (occurs c s t) := by
  intro u hu
  obtain rfl | ⟨-, rfl⟩ := occurs_cases hu
  · exact ⟨rfl, rfl⟩
  · exact h

theorem sameClock_hostCmd {s : State} {tag need : Nat} {k : State → Flight → State}
    (h : ∀ (s : State) f, s.SameClock (k s f)) : s.SameClock (s.hostCmd tag need k) := by
  unfold State.hostCmd
  dsimp only
  split
  · exact ⟨rfl, rfl⟩
  · exact h (s.noteSeq (s.flight tag)) (s.flight tag)

theorem sameClock_commandWrite {s : State} {f : Flight} {ok : Option Status} {k : State → State}
    (h : ∀ s : State, s.SameClock (k s)) : s.SameClock (s.commandWrite f ok k) := by
  unfold State.commandWrite
  dsimp only
  (repeat' split) <;> simp [h]

theorem sameClock_traceWrite {s : State} {f : Flight} {ok : Option Status} {k : State → State}
    (h : ∀ s : State, s.SameClock (k s)) : s.SameClock (s.traceWrite f ok k) := by
  unfold State.traceWrite
  dsimp only
  (repeat' split) <;> simp [h]

theorem sameClock_action {s : State} {f : Flight} {refused : Option Status} {k : State → State}
    (h : ∀ s : State, s.SameClock (k s)) : s.SameClock (s.action f refused k) := by
  unfold State.action
  dsimp only
  (repeat' split) <;> simp [h]

@[simp] theorem stageRow_keepsClock (s : State) (tag : Nat) (p : Nat → Bool) : KeepsClock s (stageRow tag p s) :=
  keepsClock_occurs (sameClock_hostCmd fun _ _ => by simp)

/-! ## Operations that write the RTC block, or a parameter that acts on it -/

/-- A new RTC.ALARM clears ALARM_PENDING only. -/
@[simp] theorem State.onApply_sameClock (s : State) (idx : Nat) (old v : Int) (slot : Nat) :
    s.SameClock (s.onApply idx old v slot) := by
  unfold State.onApply
  (repeat' with_reducible apply ite_keeps (Q := s.SameClock)) <;> simp

@[simp] theorem State.applyPar_sameClock (s : State) (idx : Nat) (v : Int) (slot : Nat) :
    s.SameClock (s.applyPar idx v slot) := by
  unfold State.applyPar
  dsimp only
  split <;> simp

@[simp] theorem State.applyWrite_sameClock (s : State) (f : Flight) (idx : Nat) (v : Int) :
    s.SameClock (s.applyWrite f idx v) := by
  unfold State.applyWrite
  (repeat' split) <;> simp

@[simp] theorem State.restoreBlock_sameClock (s : State) (first last p slot : Nat) :
    s.SameClock (s.restoreBlock first last p slot) := by
  unfold State.restoreBlock
  have h : ∀ (s : State) i, s.SameClock (s.restorePar i slot) := fun s i => by simp [State.restorePar]
  simpa using sameClock_foldl h (restored first last p) s

@[simp] theorem State.gysCommand_sameClock (s : State) (f : Flight) (ok : Bool) (ctrl : Nat) :
    s.SameClock (s.gysCommand f ok ctrl) :=
  sameClock_commandWrite fun _ => ⟨rfl, rfl⟩

@[simp] theorem State.applyAct_sameClock (s : State) (slot : Nat) (a : Act) : s.SameClock (s.applyAct slot a) := by
  unfold State.applyAct
  split
  case h_3 =>
    dsimp only
    split <;> simp
  case h_8 => exact sameClock_foldl (fun s (p : Nat × Int) => s.applyPar_sameClock p.1 p.2 slot) _ s
  all_goals simp

@[simp] theorem State.applyActs_sameClock (s : State) (g : Nat) (p : Act → Bool) : s.SameClock (s.applyActs g p) := by
  unfold State.applyActs
  exact sameClock_foldl (fun t a => t.applyAct_sameClock (s.group g).slot a) _ s

@[simp] theorem State.applyGroupFio_sameClock (s : State) : s.SameClock s.applyGroupFio := by
  unfold State.applyGroupFio
  refine sameClock_foldl (fun s g => ?_) _ s
  split <;> simp

@[simp] theorem State.settleGroups_sameClock (s : State) : s.SameClock s.settleGroups := by
  unfold State.settleGroups
  refine sameClock_foldl (fun s g => ?_) _ s
  split <;> simp

@[simp] theorem State.applyWritesBefore_sameClock (s : State) (t : Nat) : s.SameClock (s.applyWritesBefore t) :=
  sameClock_foldl (fun s t => by simp) _ s

@[simp] theorem State.outputPhase_sameClock (s : State) : s.SameClock s.outputPhase := by
  unfold State.outputPhase
  dsimp only
  split <;> simp

@[simp] theorem State.ringAuth_sameClock (s : State) (a : Nat) (d : Desc) : s.SameClock (s.ringAuth a d).1 := by
  unfold State.ringAuth
  dsimp only
  (repeat' split) <;> simp

@[simp] theorem State.doorReact_rtc (s : State) (n : Nat) : (s.doorReact n).1.rtc = s.rtc := by
  unfold State.doorReact
  dsimp only
  (repeat' split) <;> simp

@[simp] theorem State.doorTick_sameClock (s : State) (n ohm : Nat) : s.SameClock (s.doorTick n ohm) := by
  unfold State.doorTick
  dsimp only
  (repeat' split) <;> simp

/-- The wake tells of an alarm that waited, and counts nothing. -/
@[simp] theorem State.startClocks_sameClock (s : State) : s.SameClock s.startClocks := by
  unfold State.startClocks
  dsimp only
  split <;> simp

/-- The AON domain keeps the calendar when the fast domain is lost; the capture alone goes (18 R455). -/
@[simp] theorem State.fastLost_sameClock (s : State) (last cause : Nat) : s.SameClock (s.fastLost last cause) := by
  simp [State.fastLost]

@[simp] theorem State.sameClock_beginStart (s : State) (bootsel : Bool) : s.SameClock (s.beginStart_ bootsel) := by
  simp [State.beginStart_]

@[simp] theorem State.rtcUnset_sameClock (s : State) : s.SameClock s.rtcUnset := ⟨rfl, rfl⟩

/-- At START a calendar may be found lost: SET goes and the count stands (18 R449, R450). -/
@[simp] theorem State.rtcStart_sameClock (s : State) : s.SameClock s.rtcStart := by
  unfold State.rtcStart
  dsimp only
  (repeat' split) <;> simp

@[simp] theorem State.startRun_sameClock (s : State) (pos : Int) : s.SameClock (s.startRun pos) := by
  unfold State.startRun
  dsimp only
  (repeat' split) <;> simp

end Sys2Proof.Machine
end

section
/-!
PROOFS. No instruction of the Geyser engine touches the RTC (08 R162 to R170): each form of instruction once, then the rows of it.
-/
namespace Sys2Proof.Machine

/-! ## What a store and a status bit change -/

theorem State.gysWrite_sameClock {s t : State} {a : Nat} {bs : List Byte} (h : s.gysWrite a bs = .ok t) : s.SameClock t := by
  obtain ⟨m, d, rfl⟩ := State.gysWrite_ok h
  exact ⟨rfl, rfl⟩

theorem State.gysStore_sameClock {s t : State} {a : Nat} {bs : List Byte} (h : s.gysStore a bs = .ok t) : s.SameClock t := by
  unfold State.gysStore at h
  split at h
  · exact State.gysWrite_sameClock h
  · cases h

theorem State.setArith_sameClock {s t : State} {a : Arith} (h : s.setArith a = .ok t) : s.SameClock t := by
  unfold State.setArith at h
  split at h
  · cases h
    exact ⟨rfl, rfl⟩
  · exact State.gysWrite_sameClock h

theorem State.gysCopy_sameClock {s t : State} (h : s.gysCopy = .ok t) : s.SameClock t := by
  unfold State.gysCopy at h
  dsimp only at h
  split at h
  · cases h
  split at h
  · cases h
  split at h
  · cases h
  · exact State.gysWrite_sameClock h

/-! ## The forms of an instruction -/

/-- A fault keeps the RTC, so an instruction keeps it when its effect does. -/
theorem sameClock_gysRun {s : State} {k : State → GRes State} (h : ∀ t, k s = .ok t → s.SameClock t) :
    s.SameClock (s.gysRun k) := by
  unfold State.gysRun
  split
  · simp
  · cases hk : k s with
    | error c => simp
    | ok t => simpa using h t hk

theorem gysInstr_keepsClock {s : State} {op mode operand : Nat} {k : State → GRes State}
    (h : ∀ t, k s = .ok t → s.SameClock t) : KeepsClock s (gysInstr op mode operand k s) :=
  keepsClock_occurs (sameClock_gysRun h)

theorem plainInstr_keepsClock {s : State} {op mode operand : Nat} {k : State → GRes State}
    (h : ∀ t, k s = .ok t → s.SameClock t) : KeepsClock s (plainInstr op mode operand k s) := by
  refine gysInstr_keepsClock fun t ht => ?_
  split at ht
  · cases ht
  · exact h t ht

theorem boolInstr_keepsClock (s : State) (op mode operand : Nat) (f : Bool → Bool → Bool) :
    KeepsClock s (boolInstr op mode operand f s) := by
  refine gysInstr_keepsClock fun t h => ?_
  split at h <;> cases h
  exact ⟨rfl, rfl⟩

theorem bitInstr_keepsClock (s : State) (op mode operand : Nat) (f : Bool → Option Bool) :
    KeepsClock s (bitInstr op mode operand f s) := by
  refine gysInstr_keepsClock fun t h => ?_
  (repeat' split at h) <;> cases h
  · exact ⟨rfl, rfl⟩
  · next hs => simpa using State.gysStore_sameClock hs

theorem wordInstr_keepsClock (s : State) (op mode operand : Nat) (f : Word → Word → Word × Arith) :
    KeepsClock s (wordInstr op mode operand f s) := by
  refine gysInstr_keepsClock fun t h => ?_
  (repeat' split at h) <;> cases h
  next hs => simpa using State.setArith_sameClock hs

theorem cmpInstr_keepsClock (s : State) (op mode operand : Nat) (f : Word → Word → Bool × Arith) :
    KeepsClock s (cmpInstr op mode operand f s) := by
  refine gysInstr_keepsClock fun t h => ?_
  (repeat' split at h) <;> cases h
  next hs => simpa using State.setArith_sameClock hs

theorem floatInstr_keepsClock (s : State) (op mode operand : Nat) (f : Word → Word → Word × Arith) :
    KeepsClock s (floatInstr op mode operand f s) := by
  unfold floatInstr
  split
  · exact gysInstr_keepsClock fun t h => by cases h
  · exact wordInstr_keepsClock s op mode operand f

theorem jumpInstr_keepsClock (s : State) (op mode operand : Nat) (c : Bool → Bool) :
    KeepsClock s (jumpInstr op mode operand c s) := by
  refine gysInstr_keepsClock fun t h => ?_
  (repeat' split at h) <;> cases h <;> exact ⟨rfl, rfl⟩

/-! ## The rows -/

@[simp] theorem boolRows_keepClock (s : State) (mode operand : Nat) :
    KeepsClock s (execLdb mode operand s) ∧ KeepsClock s (execLdbn mode operand s) ∧ KeepsClock s (execAndb mode operand s) ∧
    KeepsClock s (execAndbn mode operand s) ∧ KeepsClock s (execOrb mode operand s) ∧ KeepsClock s (execOrbn mode operand s) ∧
    KeepsClock s (execXorb mode operand s) := by
  and_intros <;> exact boolInstr_keepsClock s _ mode operand _

@[simp] theorem bitRows_keepClock (s : State) (mode operand : Nat) :
    KeepsClock s (execStb mode operand s) ∧ KeepsClock s (execStbn mode operand s) ∧ KeepsClock s (execSetb mode operand s) ∧
    KeepsClock s (execRstb mode operand s) := by
  and_intros <;> exact bitInstr_keepsClock s _ mode operand _

@[simp] theorem wordRows_keepClock (s : State) (mode operand : Nat) :
    KeepsClock s (execLd mode operand s) ∧ KeepsClock s (execAdd mode operand s) ∧ KeepsClock s (execSub mode operand s) ∧
    KeepsClock s (execMul mode operand s) ∧ KeepsClock s (execDiv mode operand s) ∧ KeepsClock s (execMod mode operand s) ∧
    KeepsClock s (execAndW mode operand s) ∧ KeepsClock s (execOrW mode operand s) ∧ KeepsClock s (execXorW mode operand s) ∧
    KeepsClock s (execShl mode operand s) ∧ KeepsClock s (execShr mode operand s) ∧ KeepsClock s (execSar mode operand s) ∧
    KeepsClock s (execMinW mode operand s) ∧ KeepsClock s (execMaxW mode operand s) := by
  and_intros <;> exact wordInstr_keepsClock s _ mode operand _

@[simp] theorem floatRows_keepClock (s : State) (mode operand : Nat) :
    KeepsClock s (execFadd mode operand s) ∧ KeepsClock s (execFsub mode operand s) ∧ KeepsClock s (execFmul mode operand s) ∧
    KeepsClock s (execFdiv mode operand s) := by
  and_intros <;> exact floatInstr_keepsClock s _ mode operand _

@[simp] theorem cmpRows_keepClock (s : State) (mode operand : Nat) :
    KeepsClock s (execCmpeq mode operand s) ∧ KeepsClock s (execCmplt mode operand s) ∧
    KeepsClock s (execCmpltu mode operand s) := by
  and_intros <;> exact cmpInstr_keepsClock s _ mode operand _

@[simp] theorem jumpRows_keepClock (s : State) (mode operand : Nat) :
    KeepsClock s (execJmp mode operand s) ∧ KeepsClock s (execJmpc mode operand s) ∧ KeepsClock s (execJmpcn mode operand s) := by
  and_intros <;> exact jumpInstr_keepsClock s _ mode operand _

/-- The stack rows, NOP, NOT and RET admit one operand word only. -/
@[simp] theorem plainRows_keepClock (s : State) (mode operand : Nat) :
    KeepsClock s (execGysNop mode operand s) ∧ KeepsClock s (execPshb mode operand s) ∧ KeepsClock s (execAnds mode operand s) ∧
    KeepsClock s (execOrs mode operand s) ∧ KeepsClock s (execNotW mode operand s) ∧ KeepsClock s (execRet mode operand s) := by
  and_intros
  all_goals
    refine plainInstr_keepsClock fun t h => ?_
    (repeat' split at h) <;> cases h
    exact ⟨rfl, rfl⟩

@[simp] theorem execLdx_keepsClock (s : State) (mode operand : Nat) : KeepsClock s (execLdx mode operand s) := by
  refine gysInstr_keepsClock fun t h => ?_
  split at h <;> cases h
  exact ⟨rfl, rfl⟩

@[simp] theorem execCall_keepsClock (s : State) (mode operand : Nat) : KeepsClock s (execCall mode operand s) := by
  refine gysInstr_keepsClock fun t h => ?_
  (repeat' split at h) <;> cases h
  exact ⟨rfl, rfl⟩

@[simp] theorem execEdge_keepsClock (s : State) (mode operand : Nat) : KeepsClock s (execEdge mode operand s) := by
  refine gysInstr_keepsClock fun t h => ?_
  (repeat' split at h) <;> cases h
  next hs => simpa using State.gysStore_sameClock hs

@[simp] theorem execSt_keepsClock (s : State) (mode operand : Nat) : KeepsClock s (execSt mode operand s) := by
  refine gysInstr_keepsClock fun t h => ?_
  (repeat' split at h) <;> cases h
  next hs => simpa using State.gysStore_sameClock hs

@[simp] theorem execFcmplt_keepsClock (s : State) (mode operand : Nat) : KeepsClock s (execFcmplt mode operand s) := by
  unfold execFcmplt
  split
  · exact gysInstr_keepsClock fun t h => by cases h
  · exact cmpInstr_keepsClock s _ mode operand _

@[simp] theorem execCvt_keepsClock (s : State) (mode operand : Nat) : KeepsClock s (execCvt mode operand s) := by
  refine gysInstr_keepsClock fun t h => ?_
  dsimp only at h
  (repeat' split at h) <;> cases h
  all_goals next ht _ => simpa using State.setArith_sameClock ht

@[simp] theorem execSysCopy_keepsClock (s : State) (mode operand : Nat) : KeepsClock s (execSysCopy mode operand s) := by
  unfold execSysCopy
  split
  · rintro _ ⟨⟩
    exact ⟨rfl, rfl⟩
  · refine gysInstr_keepsClock fun t h => ?_
    (repeat' split at h) <;> cases h
    next hs => simpa using State.gysCopy_sameClock hs

@[simp] theorem execSysFault_keepsClock (s : State) (mode operand : Nat) : KeepsClock s (execSysFault mode operand s) :=
  keepsClock_occurs (sameClock_gysRun fun t h => by cases h)

@[simp] theorem execSysEnd_keepsClock (s : State) (mode operand : Nat) : KeepsClock s (execSysEnd mode operand s) := by
  refine keepsClock_occurs (sameClock_gysRun fun t h => ?_)
  obtain rfl : s.outputPhase = t := Except.ok.inj h
  exact s.outputPhase_sameClock

end Sys2Proof.Machine
end

section
/-!
PROOFS. The commands of each family leave the calendar and the sub-second count alone: the branches of a meaning are split, and each is
a chain of operations whose laws say that it keeps them.
-/
namespace Sys2Proof.Machine

/-- Events of the safety channels and their parameters (12). -/
@[simp] theorem safetyEvents_keepClock (s : State) :
    (∀ ch si inc latch fa fb sincos, KeepsClock s (execSampleTask ch si inc latch fa fb sincos s)) ∧
    (∀ ch src elapsedUs, KeepsClock s (execSsiFrameMissing ch src elapsedUs s)) ∧
    (∀ ch n, KeepsClock s (execSafetyInputChange ch n s)) ∧
    (∀ ch recOk diag nodes, KeepsClock s (execSafetyCycle ch recOk diag nodes s)) ∧ (∀ ch, KeepsClock s (execSafTripSf5 ch s)) ∧
    (∀ ch, KeepsClock s (execSafTripSf9 ch s)) ∧ (∀ ch, KeepsClock s (execSafTripDl ch s)) ∧ KeepsClock s (execSafContactor s) ∧
    (∀ ch k high low mA, KeepsClock s (execSwitchTest ch k high low mA s)) ∧ KeepsClock s (execStuckSwitchLockout s) ∧
    KeepsClock s (execBrakeTestStart s) ∧ KeepsClock s (execBrakeTestStep s) ∧ KeepsClock s (execResetRelease s) ∧
    KeepsClock s (execResetStuck s) ∧ KeepsClock s (execResetDiscrepancy s) ∧
    (∀ ch up, KeepsClock s (execNeighbourLostSafety ch up s)) ∧ KeepsClock s (execSafetySetSwitch s) ∧
    KeepsClock s (execSafSessionTimeout s) := by
  and_intros
  all_goals
    intros
    refine keepsClock_occurs ?_
    try dsimp only
    (repeat' split) <;> simp

/-- Events of the hoist engine (09). -/
@[simp] theorem hoistEvents_keepClock (s : State) :
    (∀ fa fb ts, KeepsClock s (execSsiRead fa fb ts s)) ∧ (∀ count t fault, KeepsClock s (execIncRead count t fault s)) ∧
    KeepsClock s (execIncSignal s) ∧ (∀ lw0 lw1, KeepsClock s (execLoadSample lw0 lw1 s)) ∧ KeepsClock s (execMoveReq s) ∧
    KeepsClock s (execReplanningTick s) ∧ KeepsClock s (execProfileRelease s) ∧ KeepsClock s (execPretorqueRampEnd s) ∧
    KeepsClock s (execStartTimeout s) ∧ KeepsClock s (execStartRefused s) ∧
    (∀ heldMs, KeepsClock s (execLevelErrorTaken heldMs s)) ∧ KeepsClock s (execReversalDwellEnd s) ∧
    (∀ heldMs, KeepsClock s (execRelevel heldMs s)) ∧ KeepsClock s (execDeviceFrame s) ∧
    (∀ bytes coded atUs, KeepsClock s (execInverterFrame bytes coded atUs s)) ∧ (∀ us, KeepsClock s (execDlReplyDeadline us s)) ∧
    KeepsClock s (execDlRestored s) := by
  and_intros
  all_goals
    intros
    refine keepsClock_occurs ?_
    try dsimp only
    (repeat' split) <;> simp

/-- Events of the Caldera engine (10). -/
@[simp] theorem calderaEvents_keepClock (s : State) :
    (∀ n, KeepsClock s (execSlotSample n s)) ∧ (∀ n, KeepsClock s (execSlotWrite n s)) ∧
    (∀ g, KeepsClock s (execGroupWrite g s)) ∧ (∀ n, KeepsClock s (execSlotEnable n s)) ∧
    (∀ n, KeepsClock s (execSlotDisable n s)) ∧ (∀ u, KeepsClock s (execCleRcSaved u s)) ∧
    (∀ b, KeepsClock s (execTraceSample b s)) := by
  and_intros
  all_goals
    intros
    refine keepsClock_occurs ?_
    try dsimp only
    (repeat' split) <;> simp

/-- Events of the doors (11). -/
@[simp] theorem doorEvents_keepClock (s : State) :
    (∀ n, KeepsClock s (execCompareLoad n s)) ∧ (∀ n, KeepsClock s (execGateUvlo n s)) ∧
    (∀ n t obs, KeepsClock s (execCurrentSample n t obs s)) ∧ (∀ n code, KeepsClock s (execHallRead n code s)) ∧
    (∀ n, KeepsClock s (execDoorReq n s)) ∧ (∀ ntc0 ntc1, KeepsClock s (execSequencerTick ntc0 ntc1 s)) ∧
    (∀ n ofsU ofsV heldUs, KeepsClock s (execOffsetMeasured n ofsU ofsV heldUs s)) ∧ (∀ n, KeepsClock s (execDoorClosed n s)) ∧
    (∀ n, KeepsClock s (execHoldDelayExpired n s)) ∧ (∀ n, KeepsClock s (execDoorBoost n s)) ∧
    (∀ n, KeepsClock s (execBoostEnd n s)) ∧ (∀ n, KeepsClock s (execDoorProfileSaved n s)) ∧
    (∀ n, KeepsClock s (execWindingTemp n s)) ∧ (∀ n, KeepsClock s (execStall n s)) := by
  and_intros
  all_goals
    intros
    refine keepsClock_occurs ?_
    try dsimp only
    (repeat' split) <;> simp

/-- Events of the field channels and the shared hoistway (13, 16). -/
@[simp] theorem fieldEvents_keepClock (s : State) :
    (∀ n count at_, KeepsClock s (execFilteredEdge n count at_ s)) ∧ (∀ nodes, KeepsClock s (execBackfeedProbe nodes s)) ∧
    (∀ n, KeepsClock s (execFioFaultCleared n s)) ∧ (∀ n, KeepsClock s (execFioLimiting n s)) ∧
    (∀ n, KeepsClock s (execFioThermal n s)) ∧ (∀ n cool, KeepsClock s (execThermalRetry n cool s)) ∧
    KeepsClock s (execFioAggHigh s) ∧ KeepsClock s (execFioShed s) ∧ (∀ up, KeepsClock s (execNeighbourFrameSend up s)) ∧
    (∀ up, KeepsClock s (execMessageRepeat up s)) ∧
    (∀ up bytes coded gapUs, KeepsClock s (execNeighbourFrame up bytes coded gapUs s)) ∧
    (∀ up us, KeepsClock s (execShfLinkLost up us s)) ∧ (∀ up, KeepsClock s (execShfLinkRestored up s)) ∧
    KeepsClock s (execZoneRequestRepeat s) := by
  and_intros
  all_goals
    intros
    refine keepsClock_occurs ?_
    try dsimp only
    (repeat' split) <;> simp

/-- Events of the ring (15). -/
@[simp] theorem ringEvents_keepClock (s : State) :
    (∀ port bytes fcs residence, KeepsClock s (execFrameForward port bytes fcs residence s)) ∧
    (∀ port silentUs, KeepsClock s (execRngLinkDown port silentUs s)) ∧ (∀ port amp, KeepsClock s (execRngLinkUp port amp s)) ∧
    (∀ port, KeepsClock s (execControlOnlyTimeout port s)) ∧ KeepsClock s (execRngManager s) ∧ KeepsClock s (execRingTest s) ∧
    KeepsClock s (execTestReturned s) ∧ KeepsClock s (execTestLoss s) ∧ KeepsClock s (execLinkDown s) ∧
    KeepsClock s (execRingClosed s) ∧ KeepsClock s (execRingSync s) ∧ KeepsClock s (execSyncSend s) ∧
    KeepsClock s (execRngTimeLost s) ∧ KeepsClock s (execRngMasterChange s) ∧ (∀ port, KeepsClock s (execDelayRequest port s)) ∧
    KeepsClock s (execDelayResponse s) ∧ KeepsClock s (execRingAdvance s) ∧ KeepsClock s (execRingTimeStore s) ∧
    KeepsClock s (execSyncoutPulse s) ∧ KeepsClock s (execSyncinEdge s) := by
  and_intros
  all_goals
    intros
    refine keepsClock_occurs ?_
    try dsimp only
    (repeat' split) <;> simp

/-- Events of the CAN controllers (14). -/
@[simp] theorem canEvents_keepClock (s : State) :
    (∀ b j, KeepsClock s (execRefreshSend b j s)) ∧ (∀ b won, KeepsClock s (execArbitration b won s)) ∧
    (∀ b j tdcNs, KeepsClock s (execCanFrameSent b j tdcNs s)) ∧
    (∀ b j ack dominant tdcNs, KeepsClock s (execFailedAttempt b j ack dominant tdcNs s)) ∧
    (∀ b recessive, KeepsClock s (execCanBusOn b recessive s)) ∧
    (∀ b id base bytes copying, KeepsClock s (execCanFrameReceived b id base bytes copying s)) ∧
    (∀ b n bytes, KeepsClock s (execStationHeartbeat b n bytes s)) ∧ (∀ b n, KeepsClock s (execCanStationLost b n s)) ∧
    (∀ b n bytes, KeepsClock s (execCanEmergency b n bytes s)) ∧ (∀ b, KeepsClock s (execControllerHeartbeat b s)) := by
  and_intros
  all_goals
    intros
    refine keepsClock_occurs ?_
    try dsimp only
    (repeat' split) <;> simp

/-- Events of dispatch (15). -/
@[simp] theorem dispatchEvents_keepClock (s : State) :
    (∀ k, KeepsClock s (execCallreg k s)) ∧ KeepsClock s (execBidReq s) ∧ KeepsClock s (execRingBid s) ∧
    (∀ num, KeepsClock s (execBidWindowClose num s)) ∧ (∀ num, KeepsClock s (execAuctionRetry num s)) ∧
    KeepsClock s (execCallDone s) ∧ (∀ n, KeepsClock s (execDoorOpened n s)) ∧ KeepsClock s (execSummarySend s) ∧
    KeepsClock s (execSummary s) ∧ (∀ addr, KeepsClock s (execPeerLost addr s)) ∧ KeepsClock s (execTrainNotice s) ∧
    (∀ src id, KeepsClock s (execDspPreposition src id s)) ∧ (∀ src id left, KeepsClock s (execPreholdEnd src id left s)) ∧
    (∀ src id, KeepsClock s (execSurgeWindowEnd src id s)) ∧ KeepsClock s (execBoarded s) ∧
    (∀ src id, KeepsClock s (execRatioUpdate src id s)) ∧ KeepsClock s (execRatioStore s) ∧
    (∀ heldMs, KeepsClock s (execDspLocalService heldMs s)) ∧ (∀ heldS, KeepsClock s (execDspRejoined heldS s)) := by
  and_intros
  all_goals
    intros
    refine keepsClock_occurs ?_
    try dsimp only
    (repeat' split) <;> simp

/-- Events of the host ports, the event recorder and the sessions (05, 17). -/
@[simp] theorem hostEvents_keepClock (s : State) :
    (∀ h crc, KeepsClock s (execStatus h crc s)) ∧ (∀ h queue bytes crc tseq, KeepsClock s (execPut h queue bytes crc tseq s)) ∧
    (∀ h queue crc, KeepsClock s (execGet h queue crc s)) ∧
    (∀ h queue count crc, KeepsClock s (execRelease h queue count crc s)) ∧ (∀ h, KeepsClock s (execTransactionCutShort h s)) ∧
    (∀ h, KeepsClock s (execPushRepeat h s)) ∧ (∀ h, KeepsClock s (execCompletionQueued h s)) ∧
    (∀ load, KeepsClock s (execHostOverload load s)) ∧ (∀ load heldMs, KeepsClock s (execHostOverloadEnd load heldMs s)) ∧
    KeepsClock s (execRecordWrite s) ∧ (∀ seq, KeepsClock s (execRepeatWindowClose seq s)) ∧
    (∀ k, KeepsClock s (execStreamDescriptorClose k s)) ∧
    (∀ code sev inst data, KeepsClock s (execEventRaised code sev inst data s)) ∧ (∀ h, KeepsClock s (execSessionExpired h s)) ∧
    (∀ h, KeepsClock s (execRingSlotIdle h s)) := by
  and_intros
  all_goals
    intros
    refine keepsClock_occurs ?_
    try dsimp only
    (repeat' split) <;> simp

/-- Events of trim and capture, which move neither the calendar nor the sub-second count (18). -/
@[simp] theorem clockEvents_keepClock (s : State) :
    (∀ ppm goodS, KeepsClock s (execTrimWindow ppm goodS s)) := by
  intro ppm goodS
  refine keepsClock_occurs ?_
  try dsimp only
  (repeat' split) <;> simp

/-- Events of parameters, tables, variables and forces (06, 08). -/
@[simp] theorem directoryEvents_keepClock (s : State) :
    (∀ tag, KeepsClock s (execParamApply tag s)) ∧ (∀ tag, KeepsClock s (execParamDurable tag s)) ∧
    (∀ tag, KeepsClock s (execCanDisable tag s)) ∧ (∀ tag, KeepsClock s (execTableSwitch tag s)) ∧
    (∀ tag, KeepsClock s (execTableDurable tag s)) := by
  and_intros
  all_goals
    intros
    refine keepsClock_occurs ?_
    try dsimp only
    (repeat' split) <;> simp

/-- Events of the commit groups (07). -/
@[simp] theorem groupEvents_keepClock (s : State) :
    (∀ g, KeepsClock s (execGrpExpired g s)) ∧ (∀ g, KeepsClock s (execCommitPoint g s)) ∧
    (∀ g, KeepsClock s (execGroupActionApplied g s)) ∧ (∀ g, KeepsClock s (execGroupRecordDurable g s)) ∧
    KeepsClock s (execXdevPrepare s) ∧ (∀ g, KeepsClock s (execPreparedBoundary g s)) ∧ KeepsClock s (execXdevCommit s) ∧
    KeepsClock s (execAbortMessage s) ∧ (∀ g, KeepsClock s (execGrpDecisionLost g s)) ∧ KeepsClock s (execXdevVote s) ∧
    (∀ g, KeepsClock s (execVoteDeadline g s)) ∧ KeepsClock s (execXdevAck s) ∧ (∀ g, KeepsClock s (execCommitRepeat g s)) ∧
    (∀ g, KeepsClock s (execGrpXdevUnconfirmed g s)) := by
  and_intros
  all_goals
    intros
    refine keepsClock_occurs ?_
    try dsimp only
    (repeat' split) <;> simp

/-- Events of the Geyser engine's cycle (08). -/
@[simp] theorem geyserCycleEvents_keepClock (s : State) :
    (∀ us, KeepsClock s (execGysClose us s)) ∧ KeepsClock s (execJournalDurable s) ∧ KeepsClock s (execJournalApplied s) ∧
    (∀ us, KeepsClock s (execCycleDeadline us s)) ∧ (∀ tag pauseUs, KeepsClock s (execOnlineChange tag pauseUs s)) := by
  and_intros
  all_goals
    intros
    refine keepsClock_occurs ?_
    try dsimp only
    (repeat' split) <;> simp

/-- Events of identity, keys and firmware (19). -/
@[simp] theorem securityEvents_keepClock (s : State) :
    (∀ src tseq bytes, KeepsClock s (execRingAuth src tseq bytes s)) ∧ (∀ ring a, KeepsClock s (execChallengeExpired ring a s)) ∧
    (∀ ring a, KeepsClock s (execAuthBusyEnd ring a s)) ∧ KeepsClock s (execMeasurementUpdate s) ∧
    KeepsClock s (execDomainKeyGraceEnd s) ∧ (∀ tag, KeepsClock s (execQuietPoint tag s)) ∧
    (∀ tag, KeepsClock s (execQuietPointTimeout tag s)) ∧ (∀ tag, KeepsClock s (execSecFwSwitched tag s)) ∧
    (∀ ch ok, KeepsClock s (execSecSafSwapped ch ok s)) ∧ KeepsClock s (execSwapGapReached s) := by
  and_intros
  all_goals
    intros
    refine keepsClock_occurs ?_
    try dsimp only
    (repeat' split) <;> simp

/-- Events of DORMANT, supply, reset and start (02). -/
@[simp] theorem powerEvents_keepClock (s : State) :
    (∀ wake, KeepsClock s (execStateReq wake s)) ∧ KeepsClock s (execHandoverTimeout s) ∧
    (∀ si fio canSent, KeepsClock s (execDormantEntry si fio canSent s)) ∧
    (∀ src v at_, KeepsClock s (execDormantWake src v at_ s)) ∧ KeepsClock s (execRingWake s) ∧
    (∀ edges, KeepsClock s (execWakeComplete edges s)) ∧ (∀ mV heldUs, KeepsClock s (execVinOv mV heldUs s)) ∧
    (∀ mV heldUs, KeepsClock s (execVinOvClear mV heldUs s)) ∧ (∀ mV heldUs, KeepsClock s (execVinWarn mV heldUs s)) ∧
    (∀ mV heldUs, KeepsClock s (execVinWarnClear mV heldUs s)) ∧ (∀ mV heldUs, KeepsClock s (execVinSag mV heldUs s)) ∧
    (∀ mV heldUs, KeepsClock s (execVinRecover mV heldUs s)) ∧ (∀ tdie heldMs, KeepsClock s (execTempWarn tdie heldMs s)) ∧
    (∀ tdie, KeepsClock s (execTempHighClear tdie s)) ∧ (∀ tdie heldMs, KeepsClock s (execTempTrip tdie heldMs s)) ∧
    (∀ tdie heldMs, KeepsClock s (execTempTripClear tdie heldMs s)) ∧ (∀ mV cellmV, KeepsClock s (execVinAon mV cellmV s)) ∧
    (∀ cellmV mV, KeepsClock s (execVcellRise cellmV mV s)) ∧ (∀ cellmV, KeepsClock s (execVcellFail cellmV s)) ∧
    (∀ mV, KeepsClock s (execCellLow mV s)) ∧ (∀ mV heldUs, KeepsClock s (execVinStop mV heldUs s)) ∧
    (∀ rail heldUs, KeepsClock s (execRailFault rail heldUs s)) ∧ (∀ heldUs, KeepsClock s (execNrstLow heldUs s)) ∧
    (∀ mV heldUs bootsel, KeepsClock s (execVinStart mV heldUs bootsel s)) ∧
    (∀ mV bootsel items moved, KeepsClock s (execNrstRelease mV bootsel items moved s)) ∧
    (∀ verifies selfTest repaired lost cal slots setsDiffer pos cellmV,
      KeepsClock s (execStartComplete verifies selfTest repaired lost cal slots setsDiffer pos cellmV s)) ∧
    (∀ ppm, KeepsClock s (execXtal25Fail ppm s)) ∧ (∀ ppm heldMs, KeepsClock s (execXtal32Fail ppm heldMs s)) ∧
    KeepsClock s (execOperatingTimeStore s) := by
  and_intros
  all_goals
    intros
    refine keepsClock_occurs ?_
    try dsimp only
    (repeat' split) <;> simp

/-- Events of the management processor (01). -/
@[simp] theorem lmpEvents_keepClock (s : State) :
    (∀ load, KeepsClock s (execLmpTick load s)) ∧ (∀ tag, KeepsClock s (execDeadlineTimeout tag s)) ∧
    (∀ cause, KeepsClock s (execLmpFault cause s)) ∧ KeepsClock s (execLmpRestart s) ∧ KeepsClock s (execLmpRejoinDispatch s) ∧
    (∀ source path repeated tag slot, KeepsClock s (execPathParity source path repeated tag slot s)) ∧
    (∀ source addr kind bit uncorrectable, KeepsClock s (execScrub source addr kind bit uncorrectable s)) ∧
    (∀ ir, KeepsClock s (execTapInstruction ir s)) := by
  and_intros
  all_goals
    intros
    refine keepsClock_occurs ?_
    try dsimp only
    (repeat' split) <;> simp

/-- Commands to the hoist, Caldera and the doors. -/
@[simp] theorem motionCommands_keepClock (s : State) :
    (∀ tag, KeepsClock s (execMove tag s)) ∧ (∀ tag, KeepsClock s (execStopMotion tag s)) ∧
    (∀ tag, KeepsClock s (execStopMotionAtLanding tag s)) ∧ (∀ tag, KeepsClock s (execLearnRun tag s)) ∧
    (∀ tag, KeepsClock s (execTraceRead tag s)) ∧ (∀ tag, KeepsClock s (execDoorOpen tag s)) ∧
    (∀ tag, KeepsClock s (execDoorClose tag s)) ∧ (∀ tag, KeepsClock s (execDoorNudge tag s)) ∧
    (∀ tag, KeepsClock s (execDoorHold tag s)) ∧ (∀ tag, KeepsClock s (execDoorStop tag s)) ∧
    (∀ tag, KeepsClock s (execDoorReopen tag s)) ∧ (∀ tag, KeepsClock s (execDoorLearn tag s)) := by
  and_intros
  all_goals
    intros
    refine keepsClock_occurs (sameClock_hostCmd fun s f => ?_)
    try dsimp only
    (repeat' split) <;> simp

/-- Commands to the host interface, the recorder and the clock, and the request of DORMANT. -/
@[simp] theorem hostCommands_keepClock (s : State) :
    (∀ tag, KeepsClock s (execHostNop tag s)) ∧ (∀ tag, KeepsClock s (execEvtSubscribe tag s)) ∧
    (∀ tag, KeepsClock s (execEvtRead tag s)) ∧ (∀ tag, KeepsClock s (execSnapshot tag s)) ∧
    (∀ tag, KeepsClock s (execRtcCapture tag s)) ∧ (∀ tag, KeepsClock s (execSessionClose tag s)) ∧
    (∀ tag, KeepsClock s (execHostAbort tag s)) ∧ (∀ tag wake, KeepsClock s (execStateRequest tag wake s)) := by
  and_intros
  all_goals
    intros
    refine keepsClock_occurs (sameClock_hostCmd fun s f => ?_)
    try dsimp only
    (repeat' split) <;> simp

/-- Commands on parameters, tables and variables. -/
@[simp] theorem directoryCommands_keepClock (s : State) :
    (∀ tag, KeepsClock s (execParamRead tag s)) ∧ (∀ tag, KeepsClock s (execDevInfo tag s)) ∧
    (∀ tag, KeepsClock s (execParamWrite tag s)) ∧ (∀ tag, KeepsClock s (execDevRestore tag s)) ∧
    (∀ tag, KeepsClock s (execZoneWrite tag s)) ∧ (∀ tag, KeepsClock s (execTableRead tag s)) ∧
    (∀ tag, KeepsClock s (execTableWrite tag s)) ∧ (∀ tag, KeepsClock s (execTableWriteDiscard tag s)) ∧
    (∀ tag, KeepsClock s (execTableActivate tag s)) ∧ (∀ tag, KeepsClock s (execVarRead tag s)) ∧
    (∀ tag, KeepsClock s (execVarWrite tag s)) ∧ (∀ tag, KeepsClock s (execForceSet tag s)) ∧
    (∀ tag, KeepsClock s (execForceClear tag s)) ∧ (∀ tag, KeepsClock s (execForceClearAll tag s)) := by
  and_intros
  all_goals
    intros
    refine keepsClock_occurs (sameClock_hostCmd fun s f => ?_)
    try dsimp only
    (repeat' split) <;> simp

/-- Commands on groups and of the Geyser engine. -/
@[simp] theorem groupCommands_keepClock (s : State) :
    (∀ tag, KeepsClock s (execGrpOpen tag s)) ∧ (∀ tag, KeepsClock s (execGrpCommit tag s)) ∧
    (∀ tag, KeepsClock s (execGrpAbort tag s)) ∧ (∀ tag, KeepsClock s (execWarmRestart tag s)) ∧
    (∀ tag, KeepsClock s (execColdRestart tag s)) ∧ (∀ tag, KeepsClock s (execGysStop tag s)) := by
  and_intros
  all_goals
    intros
    refine keepsClock_occurs (sameClock_hostCmd fun s f => ?_)
    try dsimp only
    (repeat' split) <;> simp

/-- Commands of safety parameters, identity and firmware. -/
@[simp] theorem securityCommands_keepClock (s : State) :
    (∀ tag, KeepsClock s (execSafWrite tag s)) ∧ (∀ tag, KeepsClock s (execSafWriteDiscard tag s)) ∧
    (∀ tag, KeepsClock s (execSafConfirm tag s)) ∧ (∀ tag, KeepsClock s (execAuthChallenge tag s)) ∧
    (∀ tag, KeepsClock s (execAuthResponse tag s)) ∧ (∀ tag, KeepsClock s (execAttest tag s)) ∧
    (∀ tag, KeepsClock s (execAttestDeviceCert tag s)) ∧ (∀ tag, KeepsClock s (execAttestCaCert tag s)) ∧
    (∀ tag, KeepsClock s (execFwStage tag s)) ∧ (∀ tag, KeepsClock s (execFwStageDiscard tag s)) ∧
    (∀ tag, KeepsClock s (execFwSwitch tag s)) ∧ (∀ tag, KeepsClock s (execFwConfirm tag s)) ∧
    (∀ tag, KeepsClock s (execFwRevert tag s)) := by
  and_intros
  all_goals
    intros
    refine keepsClock_occurs (sameClock_hostCmd fun s f => ?_)
    try dsimp only
    (repeat' split) <;> simp

/-! ## The commands whose effect takes more than a split of its branches -/

/-- The parameter writes that act as commands of a block. -/
@[simp] theorem commandWrites_keepClock (s : State) (tag : Nat) :
    KeepsClock s (execPredrst tag s) ∧ KeepsClock s (execTphClear tag s) ∧ KeepsClock s (execSecEpochRaised tag s) := by
  and_intros
  all_goals
    refine keepsClock_occurs (sameClock_hostCmd fun s f => sameClock_commandWrite fun s => ?_)
    simp

@[simp] theorem traceWrites_keepClock (s : State) (tag : Nat) :
    KeepsClock s (execTraceArm tag s) ∧ KeepsClock s (execTraceDisarm tag s) := by
  and_intros
  all_goals
    refine keepsClock_occurs (sameClock_hostCmd fun s f => sameClock_traceWrite fun s => ?_)
    simp

@[simp] theorem secActions_keepClock (s : State) (tag : Nat) :
    KeepsClock s (execInstallOwnerKey tag s) ∧ KeepsClock s (execInstallProgramSigningKey tag s) ∧
    KeepsClock s (execInstallNextDomainKey tag s) ∧ KeepsClock s (execActivateNextDomainKey tag s) ∧
    KeepsClock s (execDebugUnlockToken tag s) ∧ KeepsClock s (execOwnershipResetToken tag s) := by
  and_intros
  all_goals
    refine keepsClock_occurs (sameClock_hostCmd fun s f => sameClock_action fun s => ?_)
    simp

@[simp] theorem groupStages_keepClock (s : State) (tag : Nat) :
    KeepsClock s (execParameterWrite tag s) ∧ KeepsClock s (execGeyserVariableWrite tag s) ∧
    KeepsClock s (execNonSafetyFieldOutput tag s) ∧ KeepsClock s (execProfileTarget tag s) ∧
    KeepsClock s (execDoorCommand tag s) ∧ KeepsClock s (execCamTableSelection tag s) ∧
    KeepsClock s (execCalderaCoefficientSet tag s) := by
  and_intros <;> exact stageRow_keepsClock s tag _

theorem sameClock_objectWrite (s : State) (f : Flight) (ok : Option Status) (b j : Nat) (g : CanObj → CanObj) :
    s.SameClock (s.commandWrite f ok fun s => s.modObj b j g) :=
  sameClock_commandWrite fun s => by simp

@[simp] theorem execCanCancel_keepsClock (s : State) (tag : Nat) : KeepsClock s (execCanCancel tag s) := by
  refine keepsClock_occurs (sameClock_hostCmd fun s f => ?_)
  dsimp only
  split
  · split <;> simp
  · exact sameClock_objectWrite s f _ _ _ _

/-- A learn run writes its landings one by one, then the results that they give. -/
@[simp] theorem execLearnDone_keepsClock (s : State) : KeepsClock s (execLearnDone s) := by
  refine keepsClock_occurs ?_
  extract_lets +onlyGivenNames l
  split
  · simp
  · split
    · simp
    · extract_lets +onlyGivenNames chatter counts travel res f0 shift psb learned measured zeroed bounded noted n stored
      have h1 : s.SameClock learned := sameClock_foldl (fun s k => by simp) _ s
      clear_value learned travel counts
      have h2 : learned.SameClock measured := by simp [measured]
      have h3 : measured.SameClock zeroed := by
        unfold zeroed
        split <;> simp
      clear_value zeroed
      have h4 : zeroed.SameClock stored := by simp [stored, noted, bounded]
      exact ((h1.trans h2).trans h3).trans h4

@[simp] theorem execPeriodStart_keepsClock (s : State) (minor : Nat) (shunts : List Int) (src : Int) :
    KeepsClock s (execPeriodStart minor shunts src s) := by
  refine keepsClock_occurs ?_
  simp [apply_ite State.rtc]

@[simp] theorem execDoorSwitchEdge_keepsClock (s : State) (n : Nat) : KeepsClock s (execDoorSwitchEdge n s) := by
  refine keepsClock_occurs ?_
  split
  · simp
  · simp [apply_ite State.rtc]

@[simp] theorem execFioTick_keepsClock (s : State) (raw nodes lim : Nat) (mA : List Nat) :
    KeepsClock s (execFioTick raw nodes lim mA s) := by
  refine keepsClock_occurs ?_
  generalize List.range 48 = channels
  simp

/-- A cycle begins: the restart, the count, the commit point, the copy of the inputs and the first instruction, one after another. -/
@[simp] theorem execGysInputPhase_keepsClock (s : State) (dtUs : Nat) : KeepsClock s (execGysInputPhase dtUs s) := by
  refine keepsClock_occurs ?_
  extract_lets dt last restarted pwr gys counted atPoint copied begun
  have h1 : s.SameClock restarted := by simp [restarted]
  have h2 : restarted.SameClock counted := ⟨rfl, rfl⟩
  have h3 : counted.SameClock atPoint := by simp [atPoint]
  have h4 : atPoint.SameClock copied := by
    unfold copied
    split <;> simp
  have h5 : copied.SameClock begun := by
    unfold begun
    split <;> simp
  exact ((((h1.trans h2).trans h3).trans h4).trans h5).trans (begun.sameClock_gys _)

end Sys2Proof.Machine
end

section
/-!
PROOFS. What one step does to the calendar and the sub-second count (18 R446 to R448): said once, for every state and every command.
-/
namespace Sys2Proof.Machine

/-! ## The millisecond and the three commands that move the clock -/

/-- The cycles of a trim window are counted into the sub-second count, which stops at its end (R447). -/
theorem State.rtcCycles_clock (s : State) (n125 : Nat) :
    (s.rtcCycles n125).rtc.cal = s.rtc.cal ∧ (s.rtcCycles n125).rtc.sub ≤ 32767 :=
  ⟨rfl, Nat.min_le_left _ _⟩

theorem State.idle_clock (s : State) : s.SameClock s.idle ∨ s.idle.rtc.cal = s.rtc.cal ∧ s.idle.rtc.sub ≤ 32767 := by
  have hrtc : s.idle.rtc = s.nrstPass.rtcPass.rtc := by simp [State.idle]
  have hnrst : s.nrstPass.rtc = s.rtc := by simp
  rw [State.SameClock, hrtc, ← hnrst, State.rtcPass]
  split
  · exact .inl ⟨rfl, rfl⟩
  · exact .inr (s.nrstPass.rtcCycles_clock 4096)

/-- The alarm sets ALARM_PENDING, and in DORMANT marks its record as waiting. -/
theorem State.rtcAlarm_rtc (s : State) :
    s.rtcAlarm.rtc = { s.rtc with alarmPending := s.rtcAlarm.rtc.alarmPending, alarmTold := s.rtcAlarm.rtc.alarmTold } := by
  unfold State.rtcAlarm
  dsimp only
  (repeat' split) <;> simp

/-- What a second does to the RTC (R447, R449): the next date and time, the cycles left over, and SET cleared on the wrap. -/
theorem execRtcSecond_of_due {s : State} (h : (s.pwr.state != .off && s.secondDue) = true) :
    ∃ t, execRtcSecond s = .next t ∧ t.rtc.cal = s.rtc.cal.next.1 ∧ t.rtc.sub = min 32767 ((s.rtc.frac - 125) / 125) ∧
      t.rtc.set = if s.rtc.cal.next.2 = true then false else s.rtc.set := by
  refine ⟨_, occurs_pos h, ?_⟩
  rw [State.rtcAlarm_rtc]
  dsimp only
  split <;> simp [State.rtcUnset]

theorem execRtcSecond_clock {s t : State} (h : execRtcSecond s = .next t) :
    s.SameClock t ∨ t.rtc.cal = s.rtc.cal.next.1 ∧ t.rtc.sub ≤ 32767 := by
  cases hdue : s.pwr.state != .off && s.secondDue with
  | false =>
    obtain rfl : s = t := Host.Outcome.next.inj ((occurs_neg hdue).symm.trans h)
    exact .inl ⟨rfl, rfl⟩
  | true =>
    obtain ⟨u, hu, hcal, hsub, -⟩ := execRtcSecond_of_due hdue
    obtain rfl : u = t := Host.Outcome.next.inj (hu.symm.trans h)
    exact .inr ⟨hcal, hsub ▸ Nat.min_le_left _ _⟩

/-- A write of at most 999 ms leaves the sub-second count in its range (R447, R452). -/
theorem State.rtcWrite_clock (s : State) (c : Calendar) {ms : Nat} (h : ms ≤ 999) :
    (s.rtcWrite c ms).rtc.cal = c ∧ (s.rtcWrite c ms).rtc.sub ≤ 32767 := by
  simp [State.rtcWrite]
  omega

/-- A write installs a possible date and time, or leaves the clock alone (R451). -/
theorem execRtcWrite_clock {s t : State} {tag : Nat} (h : execRtcWrite tag s = .next t) :
    s.SameClock t ∨ t.rtc.cal.valid = true ∧ t.rtc.sub ≤ 32767 := by
  obtain rfl | ⟨-, rfl⟩ := occurs_cases h
  · exact .inl ⟨rfl, rfl⟩
  unfold State.hostCmd
  dsimp only
  split
  · exact .inl ⟨rfl, rfl⟩
  split
  · exact .inl ⟨rfl, rfl⟩
  split
  · exact .inl ⟨rfl, rfl⟩
  · next hok =>
    obtain ⟨hv, hms⟩ := not_or.mp hok
    obtain ⟨hc, hs⟩ := ((s.noteSeq (s.flight tag)).rtcWrite_clock (readCalendar (s.flight tag).p) (Nat.not_lt.mp hms))
    exact .inr ⟨(congrArg Calendar.valid hc).trans (by simpa using hv), hs⟩

/-- With the AON domain lost the calendar is at its reset value (R449). -/
theorem execAonHoldupExpired_clock {s t : State} {us : Nat} (h : execAonHoldupExpired us s = .next t) :
    s.SameClock t ∨ t.rtc.cal = {} ∧ t.rtc.sub = 0 := by
  obtain rfl | ⟨-, rfl⟩ := occurs_cases h
  · exact .inl ⟨rfl, rfl⟩
  · exact .inr ⟨rfl, rfl⟩

/-! ## One step -/

/-- The three commands that move the calendar or the sub-second count. -/
def movesClock : Instr → Bool
  | .rtcWrite _ => true
  | .rtcSecond => true
  | .aonHoldupExpired _ => true
  | _ => false

/-- Every other command keeps both: the laws of the families, one by one. -/
theorem exec_keepsClock {i : Instr} (h : movesClock i = false) (s : State) : KeepsClock s (exec i s) := by
  cases i
  case rtcWrite => cases h
  case rtcSecond => cases h
  case aonHoldupExpired => cases h
  all_goals simp [exec]

/-- What one step can do to the calendar and the sub-second count. -/
inductive ClockStep (s t : State) : Prop
  /-- nothing -/
  | kept (h : s.SameClock t)
  /-- cycles are counted within a second -/
  | cycles (hcal : t.rtc.cal = s.rtc.cal) (hsub : t.rtc.sub ≤ 32767)
  /-- a second is counted -/
  | second (hcal : t.rtc.cal = s.rtc.cal.next.1) (hsub : t.rtc.sub ≤ 32767)
  /-- a date and time is written -/
  | written (hcal : t.rtc.cal.valid = true) (hsub : t.rtc.sub ≤ 32767)
  /-- the AON domain is lost -/
  | lost (hcal : t.rtc.cal = {}) (hsub : t.rtc.sub = 0)

theorem exec_clockStep {i : Instr} {s t : State} (h : exec i s = .next t) : ClockStep s t := by
  cases hi : movesClock i with
  | false => exact .kept (exec_keepsClock hi s t h)
  | true =>
    unfold movesClock at hi
    split at hi
    · obtain hk | ⟨hc, hs⟩ := execRtcWrite_clock h
      · exact .kept hk
      · exact .written hc hs
    · obtain hk | ⟨hc, hs⟩ := execRtcSecond_clock h
      · exact .kept hk
      · exact .second hc hs
    · obtain hk | ⟨hc, hs⟩ := execAonHoldupExpired_clock h
      · exact .kept hk
      · exact .lost hc hs
    · cases hi

theorem step_clockStep {s t : State} (h : step s = .next t) : ClockStep s t := by
  unfold step at h
  split at h
  · obtain rfl := Host.Outcome.next.inj h
    obtain hk | ⟨hc, hs⟩ := s.idle_clock
    · exact .kept hk
    · exact .cycles hc hs
  · next c cs _ =>
    cases exec_clockStep h with
    | kept hk => exact .kept hk
    | cycles hc hs => exact .cycles hc hs
    | second hc hs => exact .second hc hs
    | written hc hs => exact .written hc hs
    | lost hc hs => exact .lost hc hs

end Sys2Proof.Machine
end

section
/-!
PROOFS. The Gregorian calendar of the RTC (18 R446, R447): what the next second does to each field, and the day count that the
weekday rests on.
-/
namespace Sys2Proof.Machine

/-! ## Leap years and the day count -/

theorem leap_iff (y : Nat) : leap y = true ↔ (y % 4 = 0 ∧ y % 100 ≠ 0) ∨ y % 400 = 0 := by simp [leap]

theorem daysBefore_succ {y m : Nat} (h : 1 ≤ m) : daysBefore y (m + 1) = daysBefore y m + mdays y m := by
  obtain ⟨k, rfl⟩ := Nat.exists_eq_add_of_le' h
  simp [daysBefore, List.range_succ]

/-- December begins after 334 days, and after 335 in a leap year. -/
theorem daysBefore_december (y : Nat) : daysBefore y 12 = if leap y = true then 335 else 334 := by
  cases h : leap y <;> simp [daysBefore, List.range_succ, mdays, h]

theorem leapsBefore_succ {y : Nat} (h : 1 ≤ y) : leapsBefore (y + 1) = leapsBefore y + if leap y = true then 1 else 0 := by
  have hl := leap_iff y
  unfold leapsBefore
  by_cases hy : leap y = true
  · have := hl.mp hy
    rw [if_pos hy]
    omega
  · have := mt hl.mpr hy
    rw [if_neg hy]
    omega

theorem leapsBefore_le {y z : Nat} (h : y ≤ z) : leapsBefore y ≤ leapsBefore z := by
  unfold leapsBefore
  omega

theorem Calendar.valid_iff (c : Calendar) : c.valid = true ↔
    (2000 ≤ c.year ∧ c.year ≤ 2199) ∧ (1 ≤ c.month ∧ c.month ≤ 12) ∧ (1 ≤ c.day ∧ c.day ≤ mdays c.year c.month) ∧
      c.hour ≤ 23 ∧ c.minute ≤ 59 ∧ c.second ≤ 59 := by
  simp [Calendar.valid, and_assoc]

theorem Calendar.weekday_range (c : Calendar) : 1 ≤ c.weekday ∧ c.weekday ≤ 7 := by
  unfold Calendar.weekday
  omega

/-! ## The next second -/

/-- The last second of a day. -/
abbrev Calendar.DayEnds (c : Calendar) : Prop := c.hour = 23 ∧ c.minute = 59 ∧ c.second = 59

/-- The day after `c`, at midnight; the flag says that the count wrapped. -/
def Calendar.nextDay (c : Calendar) : Calendar × Bool :=
  if c.day < mdays c.year c.month then ({ year := c.year, month := c.month, day := c.day + 1 }, false)
  else if c.month < 12 then ({ year := c.year, month := c.month + 1, day := 1 }, false)
  else if c.year < 2199 then ({ year := c.year + 1, month := 1, day := 1 }, false)
  else ({}, true)

theorem Calendar.next_of_dayEnds {c : Calendar} (h : c.DayEnds) : c.next = c.nextDay := by
  obtain ⟨hh, hm, hs⟩ := h
  simp [Calendar.next, Calendar.nextDay, hh, hm, hs]

/-- Within a day the date stands. -/
theorem Calendar.next_date_of_not_dayEnds {c : Calendar} (hv : c.valid = true) (h : ¬c.DayEnds) :
    c.next.1.year = c.year ∧ c.next.1.month = c.month ∧ c.next.1.day = c.day := by
  obtain ⟨-, -, -, hh, hm, hs⟩ := c.valid_iff.mp hv
  unfold Calendar.next
  split
  · exact ⟨rfl, rfl, rfl⟩
  split
  · exact ⟨rfl, rfl, rfl⟩
  split
  · exact ⟨rfl, rfl, rfl⟩
  · exact absurd ⟨by omega, by omega, by omega⟩ h

/-- After second 59 the seconds count from 0, and before it they count up by one. -/
theorem Calendar.next_second (c : Calendar) : c.next.1.second = if c.second < 59 then c.second + 1 else 0 := by
  unfold Calendar.next
  by_cases h : c.second < 59
  · simp [h]
  · simp only [h, if_false]
    (repeat' split) <;> rfl

/-- The year never passes 2199: the count wraps to 2000 there. -/
theorem Calendar.next_year_range {c : Calendar} (h : 2000 ≤ c.year) (h' : c.year ≤ 2199) :
    2000 ≤ c.next.1.year ∧ c.next.1.year ≤ 2199 := by
  unfold Calendar.next
  dsimp only
  (repeat' split) <;> dsimp only <;> omega

theorem Calendar.nextDay_eq_of_not_wrapped {c : Calendar} (h : c.nextDay.2 = false) :
    c.nextDay.1 = if c.day < mdays c.year c.month then { year := c.year, month := c.month, day := c.day + 1 }
      else if c.month < 12 then { year := c.year, month := c.month + 1, day := 1 }
      else { year := c.year + 1, month := 1, day := 1 } := by
  unfold Calendar.nextDay at h ⊢
  split
  · rfl
  split
  · rfl
  split
  · rfl
  · next hday hmonth hyear => simp [hday, hmonth, hyear] at h

/-- The day after is one more day in the count, over the end of a month and of a year too. -/
theorem Calendar.days_nextDay {c : Calendar} (hv : c.valid = true) (h : c.nextDay.2 = false) :
    c.nextDay.1.days = c.days + 1 := by
  obtain ⟨⟨hy, -⟩, ⟨hm, hm'⟩, ⟨hd, hd'⟩, -⟩ := c.valid_iff.mp hv
  rw [Calendar.nextDay_eq_of_not_wrapped h]
  by_cases hday : c.day < mdays c.year c.month
  · rw [if_pos hday]
    simp only [Calendar.days]
    omega
  rw [if_neg hday]
  by_cases hmonth : c.month < 12
  · rw [if_pos hmonth]
    simp only [Calendar.days, daysBefore_succ hm]
    omega
  · have hdec : c.month = 12 := by omega
    rw [hdec] at hday hd'
    have h31 : mdays c.year 12 = 31 := rfl
    have hmono := leapsBefore_le hy
    have hjanuary : daysBefore (c.year + 1) 1 = 0 := rfl
    rw [if_neg hmonth]
    simp only [Calendar.days]
    rw [leapsBefore_succ (by omega), hjanuary, hdec, daysBefore_december]
    split <;> omega

/-- The weekday advances with the day, from Sunday to Monday, and stands within it. -/
theorem Calendar.weekday_next {c : Calendar} (hv : c.valid = true) (h : c.next.2 = false) :
    c.next.1.weekday = if c.hour = 23 ∧ c.minute = 59 ∧ c.second = 59 then c.weekday % 7 + 1 else c.weekday := by
  by_cases hend : c.DayEnds
  · rw [Calendar.next_of_dayEnds hend] at h ⊢
    rw [if_pos hend, Calendar.weekday, Calendar.weekday, Calendar.days_nextDay hv h]
    omega
  · obtain ⟨hy, hm, hd⟩ := Calendar.next_date_of_not_dayEnds hv hend
    rw [if_neg hend, Calendar.weekday, Calendar.weekday, Calendar.days, Calendar.days, hy, hm, hd]

theorem mdays_february (y : Nat) : mdays y 2 = if leap y = true then 29 else 28 := rfl

/-- A common year's February has 28 days: 1 March follows the 28th. -/
theorem Calendar.next_february28_of_common {y : Nat} (h : leap y = false) :
    ({ year := y, month := 2, day := 28, hour := 23, minute := 59, second := 59 } : Calendar).next =
      ({ year := y, month := 3, day := 1, hour := 0, minute := 0, second := 0 }, false) := by
  rw [Calendar.next_of_dayEnds ⟨rfl, rfl, rfl⟩]
  simp [Calendar.nextDay, mdays_february, h]

/-- A leap year's February has 29 days: the 29th follows the 28th, and 1 March the 29th. -/
theorem Calendar.next_february_of_leap {y : Nat} (h : leap y = true) :
    ({ year := y, month := 2, day := 28, hour := 23, minute := 59, second := 59 } : Calendar).next =
      ({ year := y, month := 2, day := 29, hour := 0, minute := 0, second := 0 }, false) ∧
    ({ year := y, month := 2, day := 29, hour := 23, minute := 59, second := 59 } : Calendar).next =
      ({ year := y, month := 3, day := 1, hour := 0, minute := 0, second := 0 }, false) := by
  rw [Calendar.next_of_dayEnds ⟨rfl, rfl, rfl⟩, Calendar.next_of_dayEnds ⟨rfl, rfl, rfl⟩]
  simp [Calendar.nextDay, mdays_february, h]

end Sys2Proof.Machine
end

section
/-!
PROOFS. The obligations of the calendar (18 R446 to R448), from what one step can do and from the arithmetic of the next second.
-/
namespace Sys2Proof.Machine

/-! ## What every step keeps -/

/-- No step takes the year out of 2000 to 2199. -/
theorem step_keeps_year {s t : State} (hlo : 2000 ≤ s.rtc.cal.year) (hhi : s.rtc.cal.year ≤ 2199) (h : step s = .next t) :
    2000 ≤ t.rtc.cal.year ∧ t.rtc.cal.year ≤ 2199 := by
  cases step_clockStep h with
  | kept hk => exact hk.1 ▸ ⟨hlo, hhi⟩
  | cycles hc _ => exact hc ▸ ⟨hlo, hhi⟩
  | second hc _ => exact hc ▸ Calendar.next_year_range hlo hhi
  | written hc _ => exact ((Calendar.valid_iff _).mp hc).1
  | lost hc _ => exact hc ▸ by decide

/-- No step takes the sub-second count out of 0 to 32,767. -/
theorem step_keeps_sub {s t : State} (hsub : s.rtc.sub ≤ 32767) (h : step s = .next t) : t.rtc.sub ≤ 32767 := by
  cases step_clockStep h with
  | kept hk => exact hk.2 ▸ hsub
  | cycles _ hs => exact hs
  | second _ hs => exact hs
  | written _ hs => exact hs
  | lost _ hs => omega

/-- No step brings second 60. -/
theorem step_keeps_second {s t : State} (hsec : s.rtc.cal.second < 60) (h : step s = .next t) : t.rtc.cal.second < 60 := by
  cases step_clockStep h with
  | kept hk => exact hk.1 ▸ hsec
  | cycles hc _ => exact hc ▸ hsec
  | second hc _ =>
    rw [hc, Calendar.next_second]
    split <;> omega
  | written hc _ =>
    obtain ⟨-, -, -, -, -, hs⟩ := (Calendar.valid_iff _).mp hc
    omega
  | lost hc _ => exact hc ▸ by decide

/-! ## The wrap and the write of second 60 -/

/-- The second after 2199-12-31 23:59:59 (R447, R449). -/
theorem execRtcSecond_wrap {s : State} (hon : s.pwr.state ≠ .off) (hsub : s.rtc.sub = 32767) (hfrac : 125 ≤ s.rtc.frac)
    (hcal : s.rtc.cal = { year := 2199, month := 12, day := 31, hour := 23, minute := 59, second := 59 }) :
    ∃ t, exec .rtcSecond s = .next t ∧
      t.rtc.cal = { year := 2000, month := 1, day := 1, hour := 0, minute := 0, second := 0 } ∧ t.rtc.set = false ∧
      (s.rtc.frac < 250 → t.rtc.sub = 0 ∧ rtcMs t.rtc.sub = 0) := by
  have hdue : (s.pwr.state != .off && s.secondDue) = true := by simp [hon, State.secondDue, hsub, hfrac]
  obtain ⟨t, ht, hc, hs, hset⟩ := execRtcSecond_of_due hdue
  have hwrap : s.rtc.cal.next = ({}, true) := by rw [hcal]; rfl
  rw [hwrap] at hc hset
  refine ⟨t, ht, hc, hset, fun hrest => ?_⟩
  have hzero : t.rtc.sub = 0 := by omega
  exact ⟨hzero, by rw [hzero]; rfl⟩

/-- A write of second 60 completes INVALID_DATE and does nothing else (R448, R451). -/
theorem execRtcWrite_second60 {s : State} {tag : Nat} (h : s.Admitted tag 0x28 2) (h7 : getU (s.flight tag).p 7 1 = 0)
    (h10 : getU (s.flight tag).p 10 6 = 0) (h60 : getU (s.flight tag).p 6 1 = 60) :
    exec (.rtcWrite tag) s = .next ((s.noteSeq (s.flight tag)).complete (s.flight tag) .invalidDate) := by
  have hbad : (readCalendar (s.flight tag).p).valid = false := by
    rw [← Bool.not_eq_true, Calendar.valid_iff]
    rintro ⟨-, -, -, -, -, hsec⟩
    simp [readCalendar, h60] at hsec
  change execRtcWrite tag s = _
  unfold execRtcWrite
  rw [occurs_pos h.1, State.hostCmd_of_admitted h]
  simp [h7, h10, hbad]

/-! ## The statements -/

/-- Settles O58: the rule and the months by their equations, the range of the year by the inversion of a step, the next day by the
branches of the last second of a day. -/
theorem theCalendarIsGregorian : Obligations.TheCalendarIsGregorian := by
  unfold Obligations.TheCalendarIsGregorian
  refine ⟨leap_iff, rfl, rfl, rfl, fun _ _ => rfl, fun s t => step_keeps_year, ?_, ?_, ?_⟩
  · exact fun y _ _ => Calendar.next_february28_of_common
  · exact fun y _ _ => Calendar.next_february_of_leap
  · intro c _ hh hm hs hw
    rw [Calendar.next_of_dayEnds ⟨hh, hm, hs⟩] at hw ⊢
    exact Calendar.nextDay_eq_of_not_wrapped hw

/-- Settles O59: the count by the inversion of a step, the weekday by the day count of the next second, the wrap by the meaning of
RTC_SECOND. -/
theorem subsecondsWeekdayAndWrap : Obligations.SubsecondsWeekdayAndWrap := by
  unfold Obligations.SubsecondsWeekdayAndWrap
  refine ⟨fun s t => step_keeps_sub, fun _ => rfl, ?_, rfl, Calendar.weekday_range, fun c => Calendar.weekday_next,
    fun s => execRtcSecond_wrap⟩
  intro n hn
  unfold rtcMs
  omega

/-- Settles O60: no case of the inversion of a step brings second 60, and a write of it is no possible date and time. -/
theorem secondSixtyDoesNotExist : Obligations.SecondSixtyDoesNotExist := by
  unfold Obligations.SecondSixtyDoesNotExist
  refine ⟨fun s t => step_keeps_second, fun c hc => ?_, fun s tag h h7 h10 h60 => ?_⟩
  · rw [Calendar.next_second, if_neg (by omega)]
  · exact ⟨_, execRtcWrite_second60 h h7 h10 h60, State.completed_complete s _ tag 0x28 _ _ _ _ _ h.1 rfl, rfl⟩

end Sys2Proof.Machine
end

section
/-!
PROOFS. The two forms that every step keeps: the counts of the manual's tables and the canonical byte memories, as one value each, so that
a chain of operations is compared by rewriting.
-/
namespace Sys2Proof.Machine

/-! ## The two forms, block by block -/

/-- The canonical form of one table object: body, durable body and staging copy (06 R130, R133). -/
def Table.Wf (x : Table) : Prop :=
  memWf (tableByte x.id) x.body = true ∧ memWf (tableByte x.id) x.durable = true ∧
    ∀ c, x.claim = some c → memWf (tableByte x.id) c.body = true

/-- How many of each thing the device holds. -/
structure Counts where
  slots : Nat
  gens : Nat
  groups : Nat
  streams : Nat
  acks : Nat
  reqs : Nat
  caldera : Nat
  seen : Nat
  units : Nat
  traces : Nat
  field : Nat
  stns0 : Nat
  objs0 : Nat
  stns1 : Nat
  objs1 : Nat

/-- The device's byte memories, in the lists they stand in. -/
structure Memories where
  data : Mem
  retained : Mem
  journals : List Journal
  firmware : List FwSlot
  tables : List Table

def State.counts (s : State) : Counts :=
  ⟨s.host.slots.length, s.host.gens.length, s.grp.groups.length, s.tph.streams.length, s.gys.acks.length, s.gys.reqs.length,
    s.cle.slots.length, s.cle.seen.length, s.cle.units.length, s.cle.traces.length, s.fio.ch.length, s.can0.stns.length,
    s.can0.objs.length, s.can1.stns.length, s.can1.objs.length⟩

def State.memories (s : State) : Memories := ⟨s.gys.mem, s.gys.retained, s.gys.journals, s.sec.fw, s.dir.tables⟩

/-- The numbers of the manual's tables. -/
def Counts.manual : Counts := ⟨8, 64, 8, 4, 12, 12, 16, 16, 4, 4, 48, 64, 128, 64, 128⟩

def JournalsWf (js : List Journal) : Prop := ∀ j ∈ js, memWf zeroByte j.image = true

def FirmwareWf (xs : List FwSlot) : Prop := ∀ x ∈ xs, memWf zeroByte x.bytes = true

def TablesWf (xs : List Table) : Prop := ∀ x ∈ xs, x.Wf

structure Memories.Wf (m : Memories) : Prop where
  data : memWf zeroByte m.data = true
  retained : memWf zeroByte m.retained = true
  journals : JournalsWf m.journals
  firmware : FirmwareWf m.firmware
  tables : TablesWf m.tables

@[simp] theorem Memories.wf_mk (data retained journals firmware tables) : (Memories.mk data retained journals firmware tables).Wf ↔
    memWf zeroByte data = true ∧ memWf zeroByte retained = true ∧ JournalsWf journals ∧ FirmwareWf firmware ∧ TablesWf tables :=
  ⟨fun ⟨h1, h2, h3, h4, h5⟩ => ⟨h1, h2, h3, h4, h5⟩, fun ⟨h1, h2, h3, h4, h5⟩ => ⟨h1, h2, h3, h4, h5⟩⟩

theorem Memories.Wf.parts {m : Memories} (h : m.Wf) : memWf zeroByte m.data = true ∧ memWf zeroByte m.retained = true ∧
    JournalsWf m.journals ∧ FirmwareWf m.firmware ∧ TablesWf m.tables := ⟨h.data, h.retained, h.journals, h.firmware, h.tables⟩

theorem State.shape_iff (s : State) : s.Shape ↔ s.counts = Counts.manual := by
  simp only [State.counts, Counts.manual, Counts.mk.injEq]
  exact ⟨fun ⟨h1, h2, h3, h4, h5, h6, h7, h8, h9, h10, h11, h12, h13, h14, h15⟩ =>
      ⟨h1, h2, h3, h4, h5, h6, h7, h8, h9, h10, h11, h12, h13, h14, h15⟩,
    fun ⟨h1, h2, h3, h4, h5, h6, h7, h8, h9, h10, h11, h12, h13, h14, h15⟩ =>
      ⟨h1, h2, h3, h4, h5, h6, h7, h8, h9, h10, h11, h12, h13, h14, h15⟩⟩

theorem State.memoriesWf_iff (s : State) : s.MemoriesWf ↔ s.memories.Wf := by
  constructor
  · rintro ⟨h1, h2, h3, h4, h5, h6⟩
    exact ⟨h1, h2, h3, h4, fun x hx => ⟨(h5 x hx).1, (h5 x hx).2, h6 x hx⟩⟩
  · rintro ⟨h1, h2, h3, h4, h5⟩
    exact ⟨h1, h2, h3, h4, fun x hx => ⟨(h5 x hx).1, (h5 x hx).2.1⟩, fun x hx => (h5 x hx).2.2⟩

@[simp] theorem State.counts_mk (pwr lmp host dir grp gys hst cle dr0 dr1 saf fio can0 can1 rng dsp shf tph rtc sec pending) :
    (State.mk pwr lmp host dir grp gys hst cle dr0 dr1 saf fio can0 can1 rng dsp shf tph rtc sec pending).counts =
      ⟨host.slots.length, host.gens.length, grp.groups.length, tph.streams.length, gys.acks.length, gys.reqs.length,
        cle.slots.length, cle.seen.length, cle.units.length, cle.traces.length, fio.ch.length, can0.stns.length,
        can0.objs.length, can1.stns.length, can1.objs.length⟩ := rfl

@[simp] theorem State.memories_mk (pwr lmp host dir grp gys hst cle dr0 dr1 saf fio can0 can1 rng dsp shf tph rtc sec pending) :
    (State.mk pwr lmp host dir grp gys hst cle dr0 dr1 saf fio can0 can1 rng dsp shf tph rtc sec pending).memories =
      ⟨gys.mem, gys.retained, gys.journals, sec.fw, dir.tables⟩ := rfl

/-- A count or a memory of a state, read off its counts and memories: the form in which a chain of operations is compared. -/
theorem State.form_parts (s : State) : (s.host.slots.length = s.counts.slots ∧ s.host.gens.length = s.counts.gens ∧
    s.grp.groups.length = s.counts.groups ∧ s.tph.streams.length = s.counts.streams ∧ s.gys.acks.length = s.counts.acks ∧
    s.gys.reqs.length = s.counts.reqs ∧ s.cle.slots.length = s.counts.caldera ∧ s.cle.seen.length = s.counts.seen ∧
    s.cle.units.length = s.counts.units ∧ s.cle.traces.length = s.counts.traces ∧ s.fio.ch.length = s.counts.field ∧
    s.can0.stns.length = s.counts.stns0 ∧ s.can0.objs.length = s.counts.objs0 ∧ s.can1.stns.length = s.counts.stns1 ∧
    s.can1.objs.length = s.counts.objs1) ∧ s.gys.mem = s.memories.data ∧ s.gys.retained = s.memories.retained ∧
    s.gys.journals = s.memories.journals ∧ s.sec.fw = s.memories.firmware ∧ s.dir.tables = s.memories.tables := by
  simp [State.counts, State.memories]

/-- From `s` to `t` the counts and the memories are the same. -/
@[simp] abbrev State.SameForm (s t : State) : Prop := t.counts = s.counts ∧ t.memories = s.memories

theorem State.SameForm.trans {s t u : State} (h : s.SameForm t) (h' : t.SameForm u) : s.SameForm u :=
  ⟨h'.1.trans h.1, h'.2.trans h.2⟩

/-- From `s` to `t` the counts are the same and the memories keep their canonical form. -/
@[simp] abbrev State.KeepsForm (s t : State) : Prop := t.counts = s.counts ∧ (s.memories.Wf → t.memories.Wf)

theorem State.KeepsForm.trans {s t u : State} (h : s.KeepsForm t) (h' : t.KeepsForm u) : s.KeepsForm u :=
  ⟨h'.1.trans h.1, fun hs => h'.2 (h.2 hs)⟩

theorem State.SameForm.keepsForm {s t : State} (h : s.SameForm t) : s.KeepsForm t := ⟨h.1, fun hs => h.2 ▸ hs⟩

theorem State.KeepsForm.refl (s : State) : s.KeepsForm s := ⟨rfl, id⟩

theorem sameForm_foldl {α : Type} {g : State → α → State} (h : ∀ (s : State) x, s.SameForm (g s x)) (l : List α) (s : State) :
    s.SameForm (l.foldl g s) := by
  induction l generalizing s with
  | nil => exact ⟨rfl, rfl⟩
  | cons x l ih => exact (h s x).trans (ih (g s x))

theorem keepsForm_foldl {α : Type} {g : State → α → State} (h : ∀ (s : State) x, s.KeepsForm (g s x)) (l : List α) (s : State) :
    s.KeepsForm (l.foldl g s) := by
  induction l generalizing s with
  | nil => exact .refl s
  | cons x l ih => exact (h s x).trans (ih (g s x))

@[simp] theorem foldl_counts {α : Type} {g : State → α → State} (h : ∀ (s : State) x, (g s x).counts = s.counts) (l : List α)
    (s : State) : (l.foldl g s).counts = s.counts := by
  induction l generalizing s with
  | nil => rfl
  | cons x l ih => exact (ih (g s x)).trans (h s x)

@[simp] theorem foldl_memories {α : Type} {g : State → α → State} (h : ∀ (s : State) x, (g s x).memories = s.memories)
    (l : List α) (s : State) : (l.foldl g s).memories = s.memories := by
  induction l generalizing s with
  | nil => rfl
  | cons x l ih => exact (ih (g s x)).trans (h s x)

@[simp] theorem foldl_wf {α : Type} {g : State → α → State} (h : ∀ (s : State) x, s.memories.Wf → (g s x).memories.Wf) (l : List α)
    (s : State) (hs : s.memories.Wf) : (l.foldl g s).memories.Wf := by
  induction l generalizing s with
  | nil => exact hs
  | cons x l ih => exact ih (g s x) (h s x hs)

@[simp] theorem State.counts_ite (c : Prop) [Decidable c] (s t : State) :
    (if c then s else t).counts = if c then s.counts else t.counts := apply_ite _ _ _ _

@[simp] theorem State.memories_ite (c : Prop) [Decidable c] (s t : State) :
    (if c then s else t).memories = if c then s.memories else t.memories := apply_ite _ _ _ _

end Sys2Proof.Machine
end

section
/-!
PROOFS. Every operation of the model keeps both forms: one law for each, in the order of the model's files. `_sameForm` says that counts and
memories are the same, `_keepsForm` that the memories may change within their canonical form.
-/
namespace Sys2Proof.Machine

/-! ## The parameters and the state's own operations -/

@[simp] theorem State.setPar_sameForm (s : State) (i v) : s.SameForm (s.setPar i v) := by
  simp [State.setPar, State.form_parts]

@[simp] theorem State.parDurable_sameForm (s : State) (i) : s.SameForm (s.parDurable i) := by
  simp [State.parDurable, State.form_parts]

@[simp] theorem State.countChange_sameForm (s : State) : s.SameForm (s.countChange) := by
  simp [State.countChange, State.form_parts]

@[simp] theorem State.countConfig_sameForm (s : State) (i) : s.SameForm (s.countConfig i) := by
  simp [State.countConfig]

@[simp] theorem State.setOwn_sameForm (s : State) (i v) : s.SameForm (s.setOwn i v) := by
  simp [State.setOwn]

@[simp] theorem State.bump_sameForm (s : State) (i k) : s.SameForm (s.bump i k) := by
  simp [State.bump]

@[simp] theorem State.bumpWrap_sameForm (s : State) (i k) : s.SameForm (s.bumpWrap i k) := by
  simp [State.bumpWrap]

@[simp] theorem State.peak_sameForm (s : State) (i v) : s.SameForm (s.peak i v) := by
  simp [State.peak]

@[simp] theorem State.queueEvt_sameForm (s : State) (e) : s.SameForm (s.queueEvt e) := by
  simp [State.queueEvt, State.form_parts]

@[simp] theorem State.raiseEvt_sameForm (s : State) (e) : s.SameForm (s.raiseEvt e) := by
  simp [State.raiseEvt]

@[simp] theorem State.raise_sameForm (s : State) (code sev inst data) : s.SameForm (s.raise code sev inst data) := by
  simp [State.raise]

@[simp] theorem State.raiseCounted_sameForm (s : State) (code sev inst data) : s.SameForm (s.raiseCounted code sev inst data) := by
  simp [State.raiseCounted]

@[simp] theorem State.raiseNative_sameForm (s : State) (code sev inst data) : s.SameForm (s.raiseNative code sev inst data) := by
  simp [State.raiseNative]

@[simp] theorem State.raiseAtStart_sameForm (s : State) (code sev inst data) : s.SameForm (s.raiseAtStart code sev inst data) := by
  simp [State.raiseAtStart, State.form_parts]

@[simp] theorem State.enter_sameForm (s : State) (new cause) : s.SameForm (s.enter new cause) := by
  simp [State.enter, State.form_parts]

@[simp] theorem State.modSlot_sameForm (s : State) (x0 f) : s.SameForm (s.modSlot x0 f) := by
  simp [State.modSlot, State.form_parts]

@[simp] theorem State.modFlight_sameForm (s : State) (tag f) : s.SameForm (s.modFlight tag f) := by
  simp [State.modFlight, State.form_parts]

@[simp] theorem State.setPhase_sameForm (s : State) (tag p) : s.SameForm (s.setPhase tag p) := by
  simp [State.setPhase]

@[simp] theorem State.complete_sameForm (s : State) (f st detail payload committed after) : s.SameForm (s.complete f st detail payload committed after) := by
  simp [State.complete, State.form_parts]

@[simp] theorem State.noteSeq_sameForm (s : State) (f) : s.SameForm (s.noteSeq f) := by
  simp [State.noteSeq]

/-! ## The operands of events -/

theorem Table.wf_map {xs : List Table} {f : Table → Table} (hf : ∀ x ∈ xs, x.Wf → (f x).Wf) (h : TablesWf xs) :
    TablesWf (xs.map f) := by
  intro y hy
  obtain ⟨x, hx, rfl⟩ := List.mem_map.mp hy
  exact hf x hx (h x hx)

/-- A change of one table object keeps the form when it keeps that object's. -/
theorem State.modTbl_keepsForm (s : State) (tid : Nat) (f : Table → Table) (hf : ∀ x, x.id = tid → x.Wf → (f x).Wf) :
    s.KeepsForm (s.modTbl tid f) := by
  refine ⟨by simp [State.modTbl, State.form_parts], fun h => ?_⟩
  have ht : TablesWf ((s.modTbl tid f).dir.tables) := by
    refine Table.wf_map (fun x _ hx => ?_) h.tables
    split
    · next hid => exact hf x hid hx
    · exact hx
  exact ⟨h.data, h.retained, h.journals, h.firmware, ht⟩

/-! ## The registers and the data space of the Geyser engine -/

@[simp] theorem State.gysOwnersStop_sameForm (s : State) : s.SameForm (s.gysOwnersStop) := by
  simp [State.gysOwnersStop, State.form_parts]

@[simp] theorem State.gysFault_sameForm (s : State) (cause) : s.SameForm (s.gysFault cause) := by
  simp [State.gysFault, State.form_parts]

theorem State.gysWrite_keepsForm {s t : State} {a : Nat} {bs : List Byte} (h : s.gysWrite a bs = .ok t) : s.KeepsForm t := by
  unfold State.gysWrite at h
  dsimp only at h
  split at h <;> cases h
  simp +contextual [State.form_parts, Memories.Wf.parts, memWf_memWriteN]

theorem State.gysStore_keepsForm {s t : State} {a : Nat} {bs : List Byte} (h : s.gysStore a bs = .ok t) : s.KeepsForm t := by
  unfold State.gysStore at h
  split at h
  · exact State.gysWrite_keepsForm h
  · cases h

theorem State.setArith_keepsForm {s t : State} {a : Arith} (h : s.setArith a = .ok t) : s.KeepsForm t := by
  unfold State.setArith at h
  split at h
  · cases h
    exact .refl s
  · exact State.gysWrite_keepsForm h

theorem State.gysCopy_keepsForm {s t : State} (h : s.gysCopy = .ok t) : s.KeepsForm t := by
  unfold State.gysCopy at h
  dsimp only at h
  split at h
  · cases h
  split at h
  · cases h
  split at h
  · cases h
  · exact State.gysWrite_keepsForm h

@[simp] theorem State.gysNext_sameForm (s : State) : s.SameForm (s.gysNext) := by
  simp [State.gysNext, State.form_parts]

/-! ## Events and completions -/

@[simp] theorem State.modChan_sameForm (s : State) (isA f) : s.SameForm (s.modChan isA f) := by
  simp [State.modChan, State.form_parts]

@[simp] theorem State.modBoth_sameForm (s : State) (f) : s.SameForm (s.modBoth f) := by
  simp [State.modBoth, State.form_parts]

@[simp] theorem State.modDoor_sameForm (s : State) (front f) : s.SameForm (s.modDoor front f) := by
  simp [State.modDoor, State.form_parts]

@[simp] theorem State.modSlotC_sameForm (s : State) (n f) : s.SameForm (s.modSlotC n f) := by
  simp [State.modSlotC, State.form_parts]

@[simp] theorem State.wantSlots_sameForm (s : State) (ns b) : s.SameForm (s.wantSlots ns b) := by
  simp [State.wantSlots]

@[simp] theorem State.addCause_sameForm (s : State) (bit) : s.SameForm (s.addCause bit) := by
  simp [State.addCause, State.form_parts]

@[simp] theorem State.dropCause_sameForm (s : State) (bit) : s.SameForm (s.dropCause bit) := by
  simp [State.dropCause, State.form_parts]

@[simp] theorem State.hstRelease_sameForm (s : State) (st) : s.SameForm (s.hstRelease st) := by
  simp [State.hstRelease, State.form_parts]

@[simp] theorem State.learnFault_sameForm (s : State) (cause) : s.SameForm (s.learnFault cause) := by
  simp [State.learnFault, State.form_parts]

@[simp] theorem State.dropRun_sameForm (s : State) (st) : s.SameForm (s.dropRun st) := by
  simp [State.dropRun]

@[simp] theorem State.hstTripped_sameForm (s : State) : s.SameForm (s.hstTripped) := by
  simp [State.hstTripped]

@[simp] theorem State.openAll_sameForm (s : State) : s.SameForm (s.openAll) := by
  simp [State.openAll]

@[simp] theorem State.gatesOff_sameForm (s : State) : s.SameForm (s.gatesOff) := by
  simp [State.gatesOff, State.form_parts]

@[simp] theorem State.fieldOff_sameForm (s : State) : s.SameForm (s.fieldOff) := by
  simp [State.fieldOff, State.form_parts]

@[simp] theorem State.allOff_sameForm (s : State) : s.SameForm (s.allOff) := by
  simp [State.allOff]

@[simp] theorem State.canOff_sameForm (s : State) : s.SameForm (s.canOff) := by
  simp [State.canOff, State.form_parts]

@[simp] theorem State.toLockout_sameForm (s : State) (cause) : s.SameForm (s.toLockout cause) := by
  simp [State.toLockout, State.form_parts]

/-! ## The safety channels -/

@[simp] theorem State.toTripped_sameForm (s : State) (cause) : s.SameForm (s.toTripped cause) := by
  simp [State.toTripped]

@[simp] theorem State.safTrip_sameForm (s : State) (isA bit value) : s.SameForm (s.safTrip isA bit value) := by
  simp [State.safTrip]

@[simp] theorem State.safLockout_sameForm (s : State) (item ch) : s.SameForm (s.safLockout item ch) := by
  simp [State.safLockout]

@[simp] theorem State.safEvaluate_sameForm (s : State) (isA) : s.SameForm (s.safEvaluate isA) := by
  simp [State.safEvaluate]

@[simp] theorem State.safMode_sameForm (s : State) (isA) : s.SameForm (s.safMode isA) := by
  simp [State.safMode]

@[simp] theorem State.resetPair_sameForm (s : State) : s.SameForm (s.resetPair) := by
  simp [State.resetPair, State.form_parts]

@[simp] theorem State.switchStuck_sameForm (s : State) (ch k high) : s.SameForm (s.switchStuck ch k high) := by
  simp [State.switchStuck, State.form_parts]

@[simp] theorem State.qualified_sameForm (s : State) (ch k code) : s.SameForm (s.qualified ch k code) := by
  unfold State.qualified
  (repeat' split) <;> simp [State.form_parts]

@[simp] theorem State.statics_sameForm (s : State) (ch nodes) : s.SameForm (s.statics ch nodes) := by
  simp [State.statics]

@[simp] theorem State.contactor_sameForm (s : State) : s.SameForm (s.contactor) := by
  simp [State.contactor, State.form_parts]

@[simp] theorem State.parkedSince_sameForm (s : State) : s.SameForm (s.parkedSince) := by
  unfold State.parkedSince
  (repeat' split) <;> simp [State.form_parts]

@[simp] theorem State.endSafSession_sameForm (s : State) : s.SameForm (s.endSafSession) := by
  simp [State.endSafSession, State.form_parts]

@[simp] theorem State.watchSession_sameForm (s : State) : s.SameForm (s.watchSession) := by
  simp [State.watchSession]

@[simp] theorem State.leaveTripped_sameForm (s : State) : s.SameForm (s.leaveTripped) := by
  simp [State.leaveTripped, State.form_parts]

@[simp] theorem State.afterGrants_sameForm (s : State) : s.SameForm (s.afterGrants) := by
  simp [State.afterGrants, State.form_parts]

@[simp] theorem State.compare_sameForm (s : State) (isA recOk) : s.SameForm (s.compare isA recOk) := by
  simp [State.compare]

@[simp] theorem State.btAbandon_sameForm (s : State) : s.SameForm (s.btAbandon) := by
  simp [State.btAbandon, State.form_parts]

@[simp] theorem State.btTo_sameForm (s : State) (p) : s.SameForm (s.btTo p) := by
  simp [State.btTo, State.form_parts]

@[simp] theorem State.btPass_sameForm (s : State) : s.SameForm (s.btPass) := by
  simp [State.btPass, State.form_parts]

@[simp] theorem State.btStep_sameForm (s : State) : s.SameForm (s.btStep) := by
  unfold State.btStep
  (repeat' split) <;> simp [State.form_parts]

/-! ## The groups' own state -/

@[simp] theorem State.modGroup_sameForm (s : State) (g f) : s.SameForm (s.modGroup g f) := by
  simp [State.modGroup, State.form_parts]

@[simp] theorem State.allocGroup_sameForm (s : State) (g owner cross parts) : s.SameForm (s.allocGroup g owner cross parts) := by
  simp [State.allocGroup]

@[simp] theorem State.freeUp_sameForm (s : State) (g) : s.SameForm (s.freeUp g) := by
  simp [State.freeUp]

@[simp] theorem State.sendGroup_sameForm (s : State) (m) : s.SameForm (s.sendGroup m) := by
  simp [State.sendGroup, State.form_parts]

@[simp] theorem State.sendPrepare_sameForm (s : State) (g) : s.SameForm (s.sendPrepare g) := by
  simp [State.sendPrepare, State.form_parts]

/-! ## The shared hoistway's values -/

@[simp] theorem State.modSide_sameForm (s : State) (up f) : s.SameForm (s.modSide up f) := by
  simp [State.modSide, State.form_parts]

@[simp] theorem State.shfCheck_sameForm (s : State) : s.SameForm (s.shfCheck) := by
  simp [State.shfCheck, State.form_parts]

theorem State.openInternal_sameForm {s t : State} {owner : GOwner} {parts : List Nat} {acts : List Act} {key g : Nat}
    (h : s.openInternal owner parts acts key = some (g, t)) : s.SameForm t := by
  unfold State.openInternal at h
  dsimp only at h
  (repeat' split at h) <;> cases h <;> simp [State.form_parts]

@[simp] theorem State.zoneRequest_sameForm (s : State) (t up edge) : s.SameForm (s.zoneRequest t up edge) := by
  unfold State.zoneRequest
  dsimp only
  split
  · simp [State.form_parts]
  · next h => simpa [State.form_parts] using State.openInternal_sameForm h

@[simp] theorem State.maybeZone_sameForm (s : State) (t p) : s.SameForm (s.maybeZone t p) := by
  unfold State.maybeZone
  (repeat' split) <;> simp

@[simp] theorem State.setEdge_sameForm (s : State) (upper v) : s.SameForm (s.setEdge upper v) := by
  simp [State.setEdge]

@[simp] theorem State.setZone_sameForm (s : State) (upper v) : s.SameForm (s.setZone upper v) := by
  simp [State.setZone]

/-! ## The hoistway -/

@[simp] theorem State.sourceStop_sameForm (s : State) (bit) : s.SameForm (s.sourceStop bit) := by
  simp [State.sourceStop]

@[simp] theorem State.checkSource_sameForm (s : State) (inst src) : s.SameForm (s.checkSource inst src) := by
  simp [State.checkSource]

@[simp] theorem State.checkDiscrepancy_sameForm (s : State) : s.SameForm (s.checkDiscrepancy) := by
  simp [State.checkDiscrepancy, State.form_parts]

@[simp] theorem State.residual_sameForm (s : State) (r step) : s.SameForm (s.residual r step) := by
  simp [State.residual, State.form_parts]

@[simp] theorem State.fuse_sameForm (s : State) (p ts) : s.SameForm (s.fuse p ts) := by
  simp [State.fuse, State.form_parts]

@[simp] theorem State.fuseAbs_sameForm (s : State) (p ts) : s.SameForm (s.fuseAbs p ts) := by
  simp [State.fuseAbs, State.form_parts]

@[simp] theorem State.queueTgt_sameForm (s : State) (t) : s.SameForm (s.queueTgt t) := by
  simp [State.queueTgt, State.form_parts]

@[simp] theorem State.gysAck_sameForm (s : State) (r seq st) : s.SameForm (s.gysAck r seq st) := by
  simp [State.gysAck, State.form_parts]

@[simp] theorem State.tookReq_sameForm (s : State) (r) : s.SameForm (s.tookReq r) := by
  simp [State.tookReq, State.form_parts]

@[simp] theorem State.stopMotion_sameForm (s : State) (tag f) : s.SameForm (s.stopMotion tag f) := by
  simp [State.stopMotion]

@[simp] theorem State.applyLimits_sameForm (s : State) : s.SameForm (s.applyLimits) := by
  unfold State.applyLimits
  dsimp only
  (repeat' split) <;> simp [State.form_parts]

@[simp] theorem State.setPlan_sameForm (s : State) (goal kind) : s.SameForm (s.setPlan goal kind) := by
  simp [State.setPlan, State.form_parts]

@[simp] theorem State.setStop_sameForm (s : State) (kind) : s.SameForm (s.setStop kind) := by
  simp [State.setStop, State.form_parts]

@[simp] theorem State.landingStop_sameForm (s : State) (kind) : s.SameForm (s.landingStop kind) := by
  unfold State.landingStop
  (repeat' split) <;> simp

@[simp] theorem State.reverse_sameForm (s : State) : s.SameForm (s.reverse) := by
  simp [State.reverse]

@[simp] theorem State.planTarget_sameForm (s : State) : s.SameForm (s.planTarget) := by
  unfold State.planTarget
  (repeat' split) <;> simp

@[simp] theorem State.answerTgt_sameForm (s : State) (t res) : s.SameForm (s.answerTgt t res) := by
  unfold State.answerTgt
  (repeat' split) <;> simp

@[simp] theorem State.refuseTgt_sameForm (s : State) (t st) : s.SameForm (s.refuseTgt t st) := by
  unfold State.refuseTgt
  (repeat' split) <;> simp

@[simp] theorem State.beginStart_sameForm (s : State) (st) : s.SameForm (s.beginStart st) := by
  simp [State.beginStart, State.form_parts]

@[simp] theorem State.supersede_sameForm (s : State) : s.SameForm (s.supersede) := by
  unfold State.supersede
  (repeat' split) <;> simp

@[simp] theorem State.handFlags_sameForm (s : State) (t) : s.SameForm (s.handFlags t) := by
  simp [State.handFlags]

@[simp] theorem State.report_sameForm (s : State) (code) : s.SameForm (s.report code).1 := by
  simp [State.report]

@[simp] theorem State.takeTarget_sameForm (s : State) (t) : s.SameForm (s.takeTarget t) := by
  unfold State.takeTarget
  dsimp only
  generalize (match s.hst.st with | .idle => true | .inspection => !s.hst.runReq | .learnFault => !s.hst.runReq | _ => false) = fresh
  (repeat' split) <;> simp [State.form_parts]

@[simp] theorem State.takeTargets_sameForm (s : State) : s.SameForm s.takeTargets := by
  unfold State.takeTargets
  split
  · exact State.SameForm.trans (t := { s with hst.waiting := [] }) (by simp [State.form_parts])
      (sameForm_foldl (fun s t => by split <;> simp) _ _)
  · split <;> simp [State.form_parts]

@[simp] theorem State.refuseStart_sameForm (s : State) : s.SameForm (s.refuseStart) := by
  simp [State.refuseStart]

@[simp] theorem State.standCauses_sameForm (s : State) : s.SameForm (s.standCauses) := by
  simp [State.standCauses]

@[simp] theorem State.actCauses_sameForm (s : State) : s.SameForm (s.actCauses) := by
  unfold State.actCauses
  (repeat' split) <;> simp [State.form_parts]

@[simp] theorem State.actStop_sameForm (s : State) (atLanding) : s.SameForm (s.actStop atLanding) := by
  simp [State.actStop, State.form_parts]

@[simp] theorem State.stopTurn_sameForm (s : State) (f) : s.SameForm (s.stopTurn f) := by
  simp [State.stopTurn, State.form_parts]

@[simp] theorem State.takeMotion_sameForm (s : State) : s.SameForm (s.takeMotion) := by
  unfold State.takeMotion
  dsimp only
  (repeat' split) <;> simp [State.form_parts]

@[simp] theorem State.atRest_sameForm (s : State) : s.SameForm (s.atRest) := by
  unfold State.atRest
  dsimp only
  (repeat' split) <;> simp [State.form_parts]

@[simp] theorem State.dwellTick_sameForm (s : State) : s.SameForm (s.dwellTick) := by
  simp [State.dwellTick, State.form_parts]

@[simp] theorem State.advanceRef_sameForm (s : State) : s.SameForm (s.advanceRef) := by
  simp [State.advanceRef, State.form_parts]

@[simp] theorem State.startSequence_sameForm (s : State) : s.SameForm (s.startSequence) := by
  simp [State.startSequence, State.form_parts]

@[simp] theorem State.afterStop_sameForm (s : State) : s.SameForm (s.afterStop) := by
  unfold State.afterStop
  dsimp only
  (repeat' split) <;> simp [State.form_parts]

@[simp] theorem State.settle_sameForm (s : State) : s.SameForm (s.settle) := by
  unfold State.settle
  (repeat' split) <;> simp [State.form_parts]

@[simp] theorem State.learnMove_sameForm (s : State) (up) : s.SameForm (s.learnMove up) := by
  simp [State.learnMove, State.form_parts]

@[simp] theorem State.takeLearn_sameForm (s : State) : s.SameForm (s.takeLearn) := by
  unfold State.takeLearn
  (repeat' split) <;> simp [State.form_parts]

@[simp] theorem State.learnDwell_sameForm (s : State) : s.SameForm (s.learnDwell) := by
  simp [State.learnDwell, State.form_parts]

@[simp] theorem State.learnSum_sameForm (s : State) : s.SameForm (s.learnSum) := by
  simp [State.learnSum, State.form_parts]

@[simp] theorem State.relevelTick_sameForm (s : State) : s.SameForm (s.relevelTick) := by
  unfold State.relevelTick
  (repeat' split) <;> simp [State.form_parts]

@[simp] theorem State.checkTracking_sameForm (s : State) : s.SameForm (s.checkTracking) := by
  simp [State.checkTracking]

@[simp] theorem State.checkTier2_sameForm (s : State) : s.SameForm (s.checkTier2) := by
  simp [State.checkTier2, State.form_parts]

@[simp] theorem State.boundsTick_sameForm (s : State) : s.SameForm (s.boundsTick) := by
  simp [State.boundsTick]

@[simp] theorem State.extendZone_sameForm (s : State) : s.SameForm (s.extendZone) := by
  unfold State.extendZone
  (repeat' split) <;> simp [State.form_parts]

@[simp] theorem State.replan_sameForm (s : State) (v a j) : s.SameForm (s.replan v a j) := by
  unfold State.replan
  (repeat' split) <;> simp

@[simp] theorem State.hstInputs_sameForm (s : State) : s.SameForm (s.hstInputs) := by
  simp [State.hstInputs]

@[simp] theorem State.tblWrite_keepsForm (s : State) (tid off bs) : s.KeepsForm (s.tblWrite tid off bs) := by
  refine s.modTbl_keepsForm tid _ fun x hid hx => ?_
  obtain ⟨hb, hd, hc⟩ := hx
  subst hid
  exact ⟨memWf_memWriteN off bs hb, hd, hc⟩

@[simp] theorem State.tblChanged_keepsForm (s : State) (tid) : s.KeepsForm (s.tblChanged tid) :=
  s.modTbl_keepsForm tid _ fun _ _ ⟨hb, _, hc⟩ => ⟨hb, hb, hc⟩

@[simp] theorem State.learnStretch_keepsForm (s : State) (k e) : s.KeepsForm (s.learnStretch k e) := by
  unfold State.learnStretch
  dsimp only
  split
  · exact .refl s
  · exact ((s.tblWrite_keepsForm _ _ _).trans (State.tblWrite_keepsForm _ _ _ _)).trans (State.tblChanged_keepsForm _ _)

@[simp] theorem State.arrived_keepsForm (s : State) (t) : s.KeepsForm (s.arrived t) := by
  unfold State.arrived
  dsimp only
  (repeat' split) <;> simp +contextual

@[simp] theorem State.learnStopped_sameForm (s : State) : s.SameForm (s.learnStopped) := by
  unfold State.learnStopped
  (repeat' split) <;> simp [State.form_parts]

@[simp] theorem State.learnDz_sameForm (s : State) (p) : s.SameForm (s.learnDz p) := by
  simp [State.learnDz, State.form_parts]

@[simp] theorem State.learnCentre_sameForm (s : State) : s.SameForm (s.learnCentre) := by
  unfold State.learnCentre
  (repeat' split) <;> simp [State.form_parts]

@[simp] theorem State.learnEdge_sameForm (s : State) (n e) : s.SameForm (s.learnEdge n e) := by
  simp [State.learnEdge, State.form_parts]

@[simp] theorem State.learnOverrun_sameForm (s : State) (n) : s.SameForm (s.learnOverrun n) := by
  unfold State.learnOverrun
  dsimp only
  (repeat' split) <;> simp [State.form_parts]

@[simp] theorem State.learnEntry_keepsForm (s : State) (es shift k) : s.KeepsForm (s.learnEntry es shift k) := by
  unfold State.learnEntry
  dsimp only
  (repeat' split) <;> simp +contextual

@[simp] theorem State.faultReset_sameForm (s : State) : s.SameForm (s.faultReset) := by
  simp [State.faultReset, State.form_parts]

@[simp] theorem State.countDl_sameForm (s : State) : s.SameForm (s.countDl) := by
  simp [State.countDl]

/-! ## The Caldera engine -/

@[simp] theorem State.slotFault_sameForm (s : State) (n) : s.SameForm (s.slotFault n) := by
  simp [State.slotFault]

@[simp] theorem State.latchSlot_sameForm (s : State) (n src) : s.SameForm (s.latchSlot n src) := by
  simp [State.latchSlot]

theorem State.latchSeen_form (s : State) (h : s.counts = Counts.manual) :
    s.latchSeen.counts = Counts.manual ∧ s.latchSeen.memories = s.memories := by
  simp [State.latchSeen, State.form_parts, h, Counts.manual]

@[simp] theorem State.learnUnit_keepsForm (s : State) (n q) : s.KeepsForm (s.learnUnit n q) := by
  unfold State.learnUnit
  dsimp only
  (repeat' split) <;> simp +contextual [State.form_parts, Memories.Wf.parts]

@[simp] theorem State.obstruct_sameForm (s : State) (front src) : s.SameForm (s.obstruct front src) := by
  simp [State.obstruct]

@[simp] theorem State.forceSample_sameForm (s : State) (front) : s.SameForm (s.forceSample front) := by
  simp [State.forceSample]

@[simp] theorem State.monitor_sameForm (s : State) (n) : s.SameForm (s.monitor n) := by
  simp [State.monitor]

/-- The four trace buffers are read by their numbers, so that their number has to be the manual's. -/
theorem State.traceDue_form (s : State) (n : Nat) (h : s.counts = Counts.manual) :
    (s.traceDue n).counts = Counts.manual ∧ (s.traceDue n).memories = s.memories := by
  simp [State.traceDue, State.form_parts, h, Counts.manual]

theorem State.slotLate_memories (s : State) (n : Nat) : (s.slotLate n).memories = s.memories := by
  simp [State.slotLate, State.traceDue, State.form_parts]

theorem State.slotLate_counts (s : State) (n : Nat) (h : s.counts = Counts.manual) : (s.slotLate n).counts = Counts.manual := by
  unfold State.slotLate
  dsimp only
  split
  · simp [h]
  · exact (State.traceDue_form _ n (by simp [h])).1

@[simp] theorem State.cleDormant_sameForm (s : State) : s.SameForm (s.cleDormant) := by
  simp [State.cleDormant, State.form_parts]

@[simp] theorem State.traceArm_sameForm (s : State) (b) : s.SameForm (s.traceArm b) := by
  simp [State.traceArm, State.form_parts]

@[simp] theorem State.traceDisarm_sameForm (s : State) (b) : s.SameForm (s.traceDisarm b) := by
  simp [State.traceDisarm, State.form_parts]

@[simp] theorem State.traceTake_sameForm (s : State) (b) : s.SameForm (s.traceTake b) := by
  simp [State.traceTake, State.form_parts]

/-! ## The doors -/

@[simp] theorem State.modD_sameForm (s : State) (n f) : s.SameForm (s.modD n f) := by
  simp [State.modD]

@[simp] theorem State.doorVer_sameForm (s : State) (n) : s.SameForm (s.doorVer n) := by
  simp [State.doorVer]

@[simp] theorem State.doorFault_sameForm (s : State) (n code) : s.SameForm (s.doorFault n code) := by
  simp [State.doorFault, State.form_parts]

@[simp] theorem State.sensorlessStep_sameForm (s : State) (n obs) : s.SameForm (s.sensorlessStep n obs) := by
  simp [State.sensorlessStep]

@[simp] theorem State.trackDoor_sameForm (s : State) (n t) : s.SameForm (s.trackDoor n t) := by
  simp [State.trackDoor]

@[simp] theorem State.doorDrive_sameForm (s : State) (n) : s.SameForm (s.doorDrive n) := by
  simp [State.doorDrive]

@[simp] theorem State.doorGo_sameForm (s : State) (n st dir) : s.SameForm (s.doorGo n st dir) := by
  simp [State.doorGo]

@[simp] theorem State.doorAfter_sameForm (s : State) (n) : s.SameForm (s.doorAfter n) := by
  unfold State.doorAfter
  dsimp only
  (repeat' split) <;> simp

@[simp] theorem State.doorBrake_sameForm (s : State) (n a after) : s.SameForm (s.doorBrake n a after) := by
  simp [State.doorBrake]

@[simp] theorem State.countReopen_sameForm (s : State) (n) : s.SameForm (s.countReopen n) := by
  simp [State.countReopen]

@[simp] theorem State.doorLearnFail_sameForm (s : State) (n cause) : s.SameForm (s.doorLearnFail n cause) := by
  simp [State.doorLearnFail]

@[simp] theorem State.doorOpenCmd_sameForm (s : State) (n code k) : s.SameForm (s.doorOpenCmd n code k) := by
  simp [State.doorOpenCmd]

@[simp] theorem State.doorCloseCmd_sameForm (s : State) (n code) : s.SameForm (s.doorCloseCmd n code) := by
  simp [State.doorCloseCmd]

@[simp] theorem State.doorStopCmd_sameForm (s : State) (n) : s.SameForm (s.doorStopCmd n) := by
  simp [State.doorStopCmd]

@[simp] theorem State.doorLearnCmd_sameForm (s : State) (n) : s.SameForm (s.doorLearnCmd n) := by
  simp [State.doorLearnCmd]

@[simp] theorem State.doorApply_sameForm (s : State) (n code k) : s.SameForm (s.doorApply n code k) := by
  unfold State.doorApply
  (repeat' split) <;> simp

@[simp] theorem State.doorAnswer_sameForm (s : State) (n src st) : s.SameForm (s.doorAnswer n src st) := by
  unfold State.doorAnswer
  (repeat' split) <;> simp

@[simp] theorem State.doorTake_sameForm (s : State) (n reacted c) : s.SameForm (s.doorTake n reacted c) := by
  unfold State.doorTake
  (repeat' split) <;> simp

@[simp] theorem State.queueDoor_sameForm (s : State) (n c) : s.SameForm (s.queueDoor n c) := by
  simp [State.queueDoor]

@[simp] theorem State.doorHost_sameForm (s : State) (code f) : s.SameForm (s.doorHost code f) := by
  simp [State.doorHost]

@[simp] theorem State.setSod_sameForm (s : State) (n k) : s.SameForm (s.setSod n k) := by
  simp [State.setSod, State.form_parts]

@[simp] theorem State.doorAdvance_sameForm (s : State) (n) : s.SameForm (s.doorAdvance n) := by
  unfold State.doorAdvance
  (repeat' split) <;> simp

@[simp] theorem State.doorTemp_sameForm (s : State) (n ohm) : s.SameForm (s.doorTemp n ohm) := by
  simp [State.doorTemp]

@[simp] theorem State.doorEnable_sameForm (s : State) (n) : s.SameForm (s.doorEnable n) := by
  simp [State.doorEnable]

@[simp] theorem State.doorObstructed_sameForm (s : State) (n) : s.SameForm (s.doorObstructed n) := by
  simp [State.doorObstructed]

@[simp] theorem State.sodLost_sameForm (s : State) (n) : s.SameForm (s.sodLost n) := by
  simp [State.sodLost]

@[simp] theorem State.doorOwnOpen_sameForm (s : State) (n k) : s.SameForm (s.doorOwnOpen n k) := by
  unfold State.doorOwnOpen
  (repeat' split) <;> simp

@[simp] theorem State.doorArrivals_sameForm (s : State) (n) : s.SameForm (s.doorArrivals n) := by
  unfold State.doorArrivals
  dsimp only
  (repeat' split) <;> simp

@[simp] theorem State.doorRefStep_sameForm (s : State) (n) : s.SameForm (s.doorRefStep n) := by
  simp [State.doorRefStep]

@[simp] theorem State.doorEstimate_sameForm (s : State) (n) : s.SameForm (s.doorEstimate n) := by
  simp [State.doorEstimate]

@[simp] theorem State.doorMeasure_sameForm (s : State) (n) : s.SameForm (s.doorMeasure n) := by
  simp [State.doorMeasure]

@[simp] theorem State.doorLearnStop_sameForm (s : State) (n) : s.SameForm (s.doorLearnStop n) := by
  simp [State.doorLearnStop]

@[simp] theorem State.doorLearnOpen_sameForm (s : State) (n) : s.SameForm (s.doorLearnOpen n) := by
  simp [State.doorLearnOpen]

@[simp] theorem State.doorLearnTick_sameForm (s : State) (n) : s.SameForm (s.doorLearnTick n) := by
  unfold State.doorLearnTick
  dsimp only
  (repeat' split) <;> simp

@[simp] theorem State.doorInputs_sameForm (s : State) (n) : s.SameForm (s.doorInputs n) := by
  simp [State.doorInputs]

@[simp] theorem State.doorRest_sameForm (s : State) (n) : s.SameForm (s.doorRest n) := by
  simp [State.doorRest]

@[simp] theorem State.doorReact_sameForm (s : State) (n) : s.SameForm (s.doorReact n).1 := by
  unfold State.doorReact
  dsimp only
  (repeat' split) <;> simp

@[simp] theorem State.doorTick_sameForm (s : State) (n ohm) : s.SameForm (s.doorTick n ohm) := by
  unfold State.doorTick
  dsimp only
  (repeat' split) <;> simp

@[simp] theorem State.doorShift_sameForm (s : State) (n xe to_) : s.SameForm (s.doorShift n xe to_) := by
  simp [State.doorShift]

@[simp] theorem State.doorDrift_sameForm (s : State) (n dev) : s.SameForm (s.doorDrift n dev) := by
  simp [State.doorDrift]

@[simp] theorem State.doorReferenced_sameForm (s : State) (n which) : s.SameForm (s.doorReferenced n which) := by
  simp [State.doorReferenced]

@[simp] theorem State.learnPass_keepsForm (s : State) (n up) : s.KeepsForm (s.learnPass n up) := by
  unfold State.learnPass
  dsimp only
  (repeat' split) <;> simp +contextual

@[simp] theorem State.endHold_sameForm (s : State) (n st) : s.SameForm (s.endHold n st) := by
  simp [State.endHold]

@[simp] theorem State.doorLearned_keepsForm (s : State) (n) : s.KeepsForm (s.doorLearned n) := by
  simp +contextual [State.doorLearned]

@[simp] theorem State.noteOpen_sameForm (s : State) : s.SameForm (s.noteOpen) := by
  simp [State.noteOpen, State.form_parts]

@[simp] theorem State.noteBoarding_sameForm (s : State) : s.SameForm (s.noteBoarding) := by
  unfold State.noteBoarding
  (repeat' split) <;> simp [State.form_parts]

@[simp] theorem State.doorOpened_keepsForm (s : State) (n) : s.KeepsForm (s.doorOpened n) := by
  simp +contextual [State.doorOpened]

@[simp] theorem State.saveProfile_keepsForm (s : State) (n) : s.KeepsForm (s.saveProfile n) := by
  simp +contextual [State.saveProfile]

@[simp] theorem State.doorsDormant_keepsForm (s : State) : s.KeepsForm s.doorsDormant := by
  refine keepsForm_foldl (fun s n => ?_) _ s
  dsimp only
  split <;> simp +contextual

@[simp] theorem State.doorsWake_sameForm (s : State) : s.SameForm (s.doorsWake) := by
  simp [State.doorsWake]

/-! ## The field channels -/

@[simp] theorem State.modFch_sameForm (s : State) (n f) : s.SameForm (s.modFch n f) := by
  simp [State.modFch, State.form_parts]

@[simp] theorem State.deliverEdge_sameForm (s : State) (n e) : s.SameForm (s.deliverEdge n e) := by
  simp [State.deliverEdge]

@[simp] theorem State.deliverChannel_sameForm (s : State) (n) : s.SameForm (s.deliverChannel n) := by
  simp [State.deliverChannel]

@[simp] theorem State.sampleChannel_sameForm (s : State) (n raw) : s.SameForm (s.sampleChannel n raw) := by
  simp [State.sampleChannel]

@[simp] theorem State.readback_sameForm (s : State) (n nodes lim mA) : s.SameForm (s.readback n nodes lim mA) := by
  simp [State.readback]

@[simp] theorem State.aggregate_sameForm (s : State) : s.SameForm (s.aggregate) := by
  simp [State.aggregate, State.form_parts]

@[simp] theorem State.probeTick_sameForm (s : State) (wasSuspect) : s.SameForm (s.probeTick wasSuspect) := by
  unfold State.probeTick
  (repeat' split) <;> simp [State.form_parts]

@[simp] theorem State.latchOff_sameForm (s : State) (n) : s.SameForm (s.latchOff n) := by
  simp [State.latchOff]

@[simp] theorem State.backfeedPair_sameForm (s : State) (n c) : s.SameForm (s.backfeedPair n c) := by
  simp [State.backfeedPair]

@[simp] theorem State.extDrive_sameForm (s : State) (n) : s.SameForm (s.extDrive n) := by
  simp [State.extDrive]

@[simp] theorem State.driveChannel_sameForm (s : State) (w n) : s.SameForm (s.driveChannel w n) := by
  simp [State.driveChannel]

@[simp] theorem State.fioApply_sameForm (s : State) (w) : s.SameForm (s.fioApply w) := by
  simp [State.fioApply, State.form_parts]

@[simp] theorem State.fioRestart_sameForm (s : State) (n) : s.SameForm (s.fioRestart n) := by
  simp [State.fioRestart]

@[simp] theorem State.fioWake_sameForm (s : State) : s.SameForm (s.fioWake) := by
  simp [State.fioWake, State.form_parts]

/-! ## The shared hoistway -/

@[simp] theorem State.pickMessage_sameForm (s : State) (up) : s.SameForm (s.pickMessage up) := by
  unfold State.pickMessage
  (repeat' split) <;> simp [State.form_parts]

@[simp] theorem State.safNeighbour_sameForm (s : State) (up bs coded) : s.SameForm (s.safNeighbour up bs coded) := by
  simp [State.safNeighbour]

@[simp] theorem State.takeFragment_sameForm (s : State) (up bs) : s.SameForm (s.takeFragment up bs) := by
  unfold State.takeFragment
  dsimp only
  (repeat' split) <;> simp [State.form_parts]

@[simp] theorem State.zoneMismatch_sameForm (s : State) (up) : s.SameForm (s.zoneMismatch up) := by
  simp [State.zoneMismatch]

@[simp] theorem State.seeHandover_sameForm (s : State) (up flags) : s.SameForm (s.seeHandover up flags) := by
  simp [State.seeHandover]

@[simp] theorem State.beginDormant_sameForm (s : State) : s.SameForm (s.beginDormant) := by
  simp [State.beginDormant, State.form_parts]

@[simp] theorem State.endDormantRequest_sameForm (s : State) (st) : s.SameForm (s.endDormantRequest st) := by
  simp [State.endDormantRequest, State.form_parts]

@[simp] theorem State.answerRequest_sameForm (s : State) : s.SameForm (s.answerRequest) := by
  simp [State.answerRequest, State.form_parts]

@[simp] theorem State.handoverDone_sameForm (s : State) : s.SameForm (s.handoverDone) := by
  simp [State.handoverDone]

@[simp] theorem State.startDormant_sameForm (s : State) : s.SameForm (s.startDormant) := by
  simp [State.startDormant, State.form_parts]

@[simp] theorem State.nlTake_sameForm (s : State) (up bs gapUs) : s.SameForm (s.nlTake up bs gapUs) := by
  simp [State.nlTake]

@[simp] theorem State.zoneApply_sameForm (s : State) (body) : s.SameForm (s.zoneApply body) := by
  simp [State.zoneApply]

@[simp] theorem State.zoneEnded_sameForm (s : State) (g ok) : s.SameForm (s.zoneEnded g ok) := by
  unfold State.zoneEnded
  (repeat' split) <;> simp [State.form_parts]

@[simp] theorem State.zoneDiverged_sameForm (s : State) (up) : s.SameForm (s.zoneDiverged up) := by
  simp [State.zoneDiverged]

/-! ## The ring -/

@[simp] theorem State.modPort_sameForm (s : State) (p f) : s.SameForm (s.modPort p f) := by
  simp [State.modPort, State.form_parts]

@[simp] theorem State.ringSend_sameForm (s : State) (cls kind dest body port) : s.SameForm (s.ringSend cls kind dest body port) := by
  unfold State.ringSend
  (repeat' split) <;> simp [State.form_parts]

@[simp] theorem State.hearManager_sameForm (s : State) (f) : s.SameForm (s.hearManager f) := by
  unfold State.hearManager
  dsimp only
  (repeat' split) <;> simp [State.form_parts]

@[simp] theorem State.ringTake_sameForm (s : State) (f) : s.SameForm (s.ringTake f) := by
  simp [State.ringTake, State.form_parts]

@[simp] theorem State.dropFrame_sameForm (s : State) (f) : s.SameForm (s.dropFrame f) := by
  simp [State.dropFrame, State.form_parts]

@[simp] theorem State.openRing_sameForm (s : State) : s.SameForm (s.openRing) := by
  simp [State.openRing, State.form_parts]

@[simp] theorem State.setTimeValid_sameForm (s : State) (b) : s.SameForm (s.setTimeValid b) := by
  simp [State.setTimeValid, State.form_parts]

@[simp] theorem State.stepRing_sameForm (s : State) (ns) : s.SameForm (s.stepRing ns) := by
  simp [State.stepRing, State.form_parts]

@[simp] theorem State.ringPass_sameForm (s : State) (us) : s.SameForm (s.ringPass us) := by
  simp [State.ringPass, State.form_parts]

@[simp] theorem State.setMaster_sameForm (s : State) (a) : s.SameForm (s.setMaster a) := by
  simp [State.setMaster, State.form_parts]

@[simp] theorem State.applySync_sameForm (s : State) (src off) : s.SameForm (s.applySync src off) := by
  simp [State.applySync, State.form_parts]

/-! ## The CAN buses -/

@[simp] theorem State.modCan_sameForm (s : State) (b) (f : Can → Can)
    (h : ∀ c, (f c).stns.length = c.stns.length ∧ (f c).objs.length = c.objs.length) : s.SameForm (s.modCan b f) := by
  unfold State.modCan
  split <;> simp [State.form_parts, h]

@[simp] theorem State.modObj_sameForm (s : State) (b j f) : s.SameForm (s.modObj b j f) := by
  simp [State.modObj]

@[simp] theorem State.modStn_sameForm (s : State) (b n f) : s.SameForm (s.modStn b n f) := by
  simp [State.modStn]

@[simp] theorem State.stationLost_sameForm (s : State) (b n) : s.SameForm (s.stationLost b n) := by
  unfold State.stationLost
  dsimp only
  (repeat' split) <;> simp

@[simp] theorem State.cancelAll_sameForm (s : State) (b status) : s.SameForm (s.cancelAll b status) := by
  simp [State.cancelAll]

@[simp] theorem State.canDisable_sameForm (s : State) (b) : s.SameForm (s.canDisable b) := by
  simp [State.canDisable]

@[simp] theorem State.canJoin_sameForm (s : State) (b) : s.SameForm (s.canJoin b) := by
  simp [State.canJoin]

@[simp] theorem State.forceObjs_sameForm (s : State) (b p) : s.SameForm (s.forceObjs b p) := by
  simp [State.forceObjs]

@[simp] theorem State.canOutput_sameForm (s : State) (b) : s.SameForm (s.canOutput b) := by
  simp [State.canOutput]

@[simp] theorem State.canGood_sameForm (s : State) (b) : s.SameForm (s.canGood b) := by
  simp [State.canGood]

@[simp] theorem State.noteTdc_sameForm (s : State) (b j tdcNs) : s.SameForm (s.noteTdc b j tdcNs) := by
  simp [State.noteTdc]

@[simp] theorem State.canErrorState_sameForm (s : State) (b) : s.SameForm (s.canErrorState b) := by
  simp [State.canErrorState]

@[simp] theorem State.canDrop_sameForm (s : State) (b j) : s.SameForm (s.canDrop b j) := by
  simp [State.canDrop]

@[simp] theorem State.takeImage_sameForm (s : State) (b n j bytes copying) : s.SameForm (s.takeImage b n j bytes copying) := by
  simp [State.takeImage]

@[simp] theorem State.endCopy_sameForm (s : State) (b n j) : s.SameForm (s.endCopy b n j) := by
  simp [State.endCopy]

@[simp] theorem State.queueHeartbeat_sameForm (s : State) (b state) : s.SameForm (s.queueHeartbeat b state) := by
  simp [State.queueHeartbeat]

@[simp] theorem State.queueTime_sameForm (s : State) (b) : s.SameForm (s.queueTime b) := by
  simp [State.queueTime]

/-! ## The dispatcher -/

@[simp] theorem State.modCall_sameForm (s : State) (reg num f) : s.SameForm (s.modCall reg num f) := by
  simp [State.modCall, State.form_parts]

@[simp] theorem State.dropCall_sameForm (s : State) (reg num) : s.SameForm (s.dropCall reg num) := by
  simp [State.dropCall, State.form_parts]

@[simp] theorem State.takeCall_sameForm (s : State) (reg num) : s.SameForm (s.takeCall reg num) := by
  unfold State.takeCall
  dsimp only
  (repeat' split) <;> simp

@[simp] theorem State.groupSend_sameForm (s : State) (cls body) : s.SameForm (s.groupSend cls body) := by
  simp [State.groupSend]

@[simp] theorem State.startAuction_sameForm (s : State) (num) : s.SameForm (s.startAuction num) := by
  unfold State.startAuction
  (repeat' split) <;> simp [State.form_parts]

@[simp] theorem State.reauction_sameForm (s : State) (num) : s.SameForm (s.reauction num) := by
  unfold State.reauction
  (repeat' split) <;> simp

@[simp] theorem State.fixBid_sameForm (s : State) (num b) : s.SameForm (s.fixBid num b) := by
  unfold State.fixBid
  dsimp only
  split
  · simp
  · split
    · simp
    · next h => simpa using State.openInternal_sameForm h

@[simp] theorem State.beaconEnded_sameForm (s : State) (g ok) : s.SameForm (s.beaconEnded g ok) := by
  unfold State.beaconEnded
  dsimp only
  (repeat' split) <;> simp

@[simp] theorem State.callApply_sameForm (s : State) (body) : s.SameForm (s.callApply body) := by
  simp [State.callApply, State.form_parts]

@[simp] theorem State.callDiverged_sameForm (s : State) (body) : s.SameForm (s.callDiverged body) := by
  simp [State.callDiverged]

@[simp] theorem State.answerBid_sameForm (s : State) (f c) : s.SameForm (s.answerBid f c) := by
  simp [State.answerBid, State.form_parts]

@[simp] theorem State.callServed_sameForm (s : State) (landing kind) : s.SameForm (s.callServed landing kind) := by
  unfold State.callServed
  dsimp only
  generalize hu : List.foldl _ s _ = u
  have hsu : s.SameForm u := hu ▸ sameForm_foldl (fun s c => by split <;> simp) _ s
  exact hsu.trans (by simp [State.form_parts])

@[simp] theorem State.serveAt_sameForm (s : State) (landing) : s.SameForm (s.serveAt landing) := by
  simp [State.serveAt, State.form_parts]

@[simp] theorem State.sendSummary_sameForm (s : State) (status) : s.SameForm (s.sendSummary status) := by
  simp [State.sendSummary, State.form_parts]

@[simp] theorem State.followFormat_sameForm (s : State) : s.SameForm (s.followFormat) := by
  simp [State.followFormat, State.form_parts]

@[simp] theorem State.watchFull_sameForm (s : State) : s.SameForm (s.watchFull) := by
  simp [State.watchFull, State.form_parts]

@[simp] theorem State.dropNotice_sameForm (s : State) (src id) : s.SameForm (s.dropNotice src id) := by
  simp [State.dropNotice, State.form_parts]

@[simp] theorem State.modNotice_sameForm (s : State) (src id f) : s.SameForm (s.modNotice src id f) := by
  simp [State.modNotice, State.form_parts]

/-! ## The host ports -/

@[simp] theorem State.latchWake_sameForm (s : State) (maskBit resultBit) : s.SameForm (s.latchWake maskBit resultBit) := by
  simp [State.latchWake, State.form_parts]

@[simp] theorem State.portCrc_sameForm (s : State) : s.SameForm (s.portCrc) := by
  simp [State.portCrc]

@[simp] theorem State.answer_sameForm (s : State) (x0 bs) : s.SameForm (s.answer x0 bs) := by
  simp [State.answer]

@[simp] theorem State.enterDesc_sameForm (s : State) (x0 queue bs) : s.SameForm (s.enterDesc x0 queue bs) := by
  simp [State.enterDesc, State.form_parts]

@[simp] theorem State.putServed_sameForm (s : State) (x0 queue bs) : s.SameForm (s.putServed x0 queue bs) := by
  unfold State.putServed
  (repeat' split) <;> simp

@[simp] theorem State.releaseFrom_sameForm (s : State) (x0 queue count) : s.SameForm (s.releaseFrom x0 queue count) := by
  simp [State.releaseFrom, State.form_parts]

@[simp] theorem State.releaseServed_sameForm (s : State) (x0 queue count) : s.SameForm (s.releaseServed x0 queue count) := by
  unfold State.releaseServed
  (repeat' split) <;> simp

@[simp] theorem State.deliver_sameForm (s : State) (x0 d) : s.SameForm (s.deliver x0 d) := by
  simp [State.deliver, State.form_parts]

@[simp] theorem State.take1_sameForm (s : State) (f) : s.SameForm (s.take1 f) := by
  simp [State.take1, State.form_parts]

@[simp] theorem State.takeUrgent_sameForm (s : State) : s.SameForm (s.takeUrgent) := by
  simp [State.takeUrgent, State.form_parts]

@[simp] theorem State.takeNormal_sameForm (s : State) : s.SameForm s.takeNormal := by
  unfold State.takeNormal
  split
  · simp
  dsimp only
  generalize hu : List.foldl _ s _ = u
  have hsu : s.SameForm u := hu ▸ sameForm_foldl (fun s h => by split <;> simp) _ s
  exact hsu.trans (by simp [State.form_parts])

/-! ## The event recorder -/

@[simp] theorem State.modRec_sameForm (s : State) (n f) : s.SameForm (s.modRec n f) := by
  simp [State.modRec, State.form_parts]

@[simp] theorem State.countRepeat_sameForm (s : State) (r e) : s.SameForm (s.countRepeat r e) := by
  simp [State.countRepeat]

@[simp] theorem State.strike_sameForm (s : State) (r) : s.SameForm (s.strike r) := by
  simp [State.strike, State.form_parts]

@[simp] theorem State.closeStream_sameForm (s : State) (k) : s.SameForm (s.closeStream k) := by
  unfold State.closeStream
  (repeat' split) <;> simp [State.form_parts]

@[simp] theorem State.feedStream_sameForm (s : State) (k r closed) : s.SameForm (s.feedStream k r closed) := by
  unfold State.feedStream
  (repeat' split) <;> simp [State.form_parts]

@[simp] theorem State.feedLive_sameForm (s : State) (r closed) : s.SameForm (s.feedLive r closed) := by
  refine sameForm_foldl (fun s k => ?_) _ s
  (repeat' split) <;> simp

@[simp] theorem State.pullStream_sameForm (s : State) (k) : s.SameForm (s.pullStream k) := by
  unfold State.pullStream
  dsimp only
  (repeat' split) <;> simp [State.form_parts]

@[simp] theorem State.appendRec_sameForm (s : State) (e) : s.SameForm (s.appendRec e) := by
  simp [State.appendRec, State.form_parts]

@[simp] theorem State.writeRec_sameForm (s : State) (e) : s.SameForm (s.writeRec e) := by
  unfold State.writeRec
  (repeat' split) <;> simp

@[simp] theorem State.writeHead_sameForm (s : State) : s.SameForm (s.writeHead) := by
  unfold State.writeHead
  dsimp only
  (repeat' split) <;> simp [State.form_parts]

@[simp] theorem State.flushTph_sameForm (s : State) : s.SameForm (s.flushTph) := by
  simp [State.flushTph]

@[simp] theorem State.tphClear_sameForm (s : State) : s.SameForm (s.tphClear) := by
  simp [State.tphClear]

@[simp] theorem State.subscribe_sameForm (s : State) (f k) : s.SameForm (s.subscribe f k) := by
  simp [State.subscribe, State.form_parts]

@[simp] theorem State.evtRead_sameForm (s : State) (f fresh) : s.SameForm (s.evtRead f fresh) := by
  simp [State.evtRead]

/-! ## The clock -/

@[simp] theorem State.rtcUnset_sameForm (s : State) : s.SameForm (s.rtcUnset) := by
  simp [State.rtcUnset, State.form_parts]

@[simp] theorem State.rtcWrite_sameForm (s : State) (c ms) : s.SameForm (s.rtcWrite c ms) := by
  simp [State.rtcWrite, State.form_parts]

@[simp] theorem State.rtcAlarm_sameForm (s : State) : s.SameForm (s.rtcAlarm) := by
  unfold State.rtcAlarm
  dsimp only
  (repeat' split) <;> simp [State.form_parts]

@[simp] theorem State.rtcCycles_sameForm (s : State) (n125) : s.SameForm (s.rtcCycles n125) := by
  simp [State.rtcCycles, State.form_parts]

/-! ## The sessions -/

@[simp] theorem State.dropClaims_keepsForm (s : State) (h) : s.KeepsForm (s.dropClaims h) := by
  have hdrop : ∀ xs : List Table, TablesWf xs → TablesWf (xs.map fun t =>
      match t.claim with | some c => if c.slot = h then { t with claim := none } else t | none => t) := fun xs =>
    Table.wf_map fun x _ hx => by
      obtain ⟨hb, hd, hc⟩ := hx
      (repeat' split) <;> first | exact ⟨hb, hd, hc⟩ | exact ⟨hb, hd, fun _ h => by cases h⟩
  refine ⟨by simp [State.dropClaims, State.form_parts], fun hs => ?_⟩
  unfold State.dropClaims
  dsimp only
  split <;> exact ⟨hs.data, hs.retained, hs.journals, hs.firmware, hdrop _ hs.tables⟩

@[simp] theorem State.dropStreams_sameForm (s : State) (x0) : s.SameForm (s.dropStreams x0) := by
  simp [State.dropStreams, State.form_parts]

@[simp] theorem State.expireGroup_sameForm (s : State) (g) : s.SameForm (s.expireGroup g) := by
  simp [State.expireGroup]

@[simp] theorem State.expireGroups_sameForm (s : State) (x0) : s.SameForm (s.expireGroups x0) := by
  simp [State.expireGroups]

@[simp] theorem State.dropSafSession_sameForm (s : State) (x0) : s.SameForm (s.dropSafSession x0) := by
  unfold State.dropSafSession
  (repeat' split) <;> simp

@[simp] theorem State.abortQueued_sameForm (s : State) (x0 after) : s.SameForm (s.abortQueued x0 after) := by
  simp [State.abortQueued]

@[simp] theorem State.closeSlot_keepsForm (s : State) (h lost) : s.KeepsForm (s.closeSlot h lost) := by
  simp +contextual [State.closeSlot]

@[simp] theorem State.closeSessions_keepsForm (s : State) (p) : s.KeepsForm (s.closeSessions p) := by
  refine keepsForm_foldl (fun s n => ?_) _ s
  (repeat' split) <;> simp +contextual

@[simp] theorem State.deliverAll_sameForm (s : State) (x0) : s.SameForm (s.deliverAll x0) := by
  simp [State.deliverAll]

/-! ## The parameter directory -/

@[simp] theorem State.trustPort_keepsForm (s : State) (h) : s.KeepsForm (s.trustPort h) := by
  unfold State.trustPort
  (repeat' split) <;> simp +contextual

@[simp] theorem State.onApply_keepsForm (s : State) (idx old v slot) : s.KeepsForm (s.onApply idx old v slot) := by
  unfold State.onApply
  refine ite_keeps (Q := s.KeepsForm) ((s.trustPort_keepsForm 0).trans ((s.trustPort 0).trustPort_keepsForm 1)) ?_
  (repeat' with_reducible apply ite_keeps (Q := s.KeepsForm)) <;> simp +contextual [State.form_parts]

@[simp] theorem State.applyPar_keepsForm (s : State) (idx v slot) : s.KeepsForm (s.applyPar idx v slot) := by
  simp +contextual [State.applyPar, State.form_parts]

@[simp] theorem State.paramWritten_sameForm (s : State) (slot idx ver) : s.SameForm (s.paramWritten slot idx ver) := by
  simp [State.paramWritten]

@[simp] theorem State.applyWrite_keepsForm (s : State) (f idx v) : s.KeepsForm (s.applyWrite f idx v) := by
  unfold State.applyWrite
  dsimp only
  (repeat' split) <;> simp +contextual

@[simp] theorem State.writeDurable_sameForm (s : State) (f idx v ver) : s.SameForm (s.writeDurable f idx v ver) := by
  simp [State.writeDurable, State.form_parts]

@[simp] theorem State.restorePar_keepsForm (s : State) (i slot) : s.KeepsForm (s.restorePar i slot) := by
  unfold State.restorePar
  simp +contextual

@[simp] theorem State.restoreBlock_keepsForm (s : State) (first last p slot) : s.KeepsForm (s.restoreBlock first last p slot) := by
  simp +contextual [State.restoreBlock]

/-! ## The tables -/

@[simp] theorem State.accessRefused4_sameForm (s : State) (addr) : s.SameForm (s.accessRefused4 addr) := by
  simp [State.accessRefused4]

theorem tableByte_of_ne {tid : Nat} (h : tid ≠ 0x0300) (h' : tid ≠ 0x0301) : tableByte tid = zeroByte := by
  funext a
  simp [tableByte, h, h', zeroByte]

theorem tableByte_of_isBank {tid : Nat} (h : isBank tid = true) : tableByte tid = zeroByte := by
  simp [isBank] at h
  exact tableByte_of_ne (by omega) (by omega)

/-- The object a number names is in canonical form, be it there or not. -/
theorem State.tbl_wf (s : State) (tid : Nat) (h : TablesWf s.dir.tables) :
    memWf (tableByte tid) (s.tbl tid).body = true := by
  unfold State.tbl
  cases hf : s.dir.tables.find? fun t => t.id == tid with
  | none => rfl
  | some x =>
    have hid : x.id = tid := by simpa using List.find?_some hf
    exact hid ▸ (h x (List.mem_of_find?_eq_some hf)).1

@[simp] theorem State.claimTable_keepsForm (s : State) (tid h) : s.KeepsForm (s.claimTable tid h) := by
  refine ⟨?_, fun hs => ?_⟩
  · unfold State.claimTable
    split <;> simp [State.modTbl, State.form_parts]
  unfold State.claimTable
  dsimp only
  split
  · next hb =>
    refine (s.modTbl_keepsForm tid _ fun x hid hx => ?_).2 hs
    have hz : tableByte x.id = zeroByte := hid ▸ tableByte_of_isBank hb
    refine ⟨?_, hx.2.1, fun c hc => by obtain rfl := Option.some.inj hc; rfl⟩
    dsimp only
    split
    · next b _ =>
      have := s.tbl_wf (bankTid b) hs.tables
      rw [tableByte_of_ne (by unfold bankTid; omega) (by unfold bankTid; omega)] at this
      rw [hz]; exact this
    · exact hid ▸ s.tbl_wf tid hs.tables
  · refine (s.modTbl_keepsForm tid _ fun x hid hx => ?_).2 hs
    exact ⟨hx.1, hx.2.1, fun c hc => by obtain rfl := Option.some.inj hc; exact hx.1⟩

@[simp] theorem State.stageBytes_keepsForm (s : State) (tid off bs) : s.KeepsForm (s.stageBytes tid off bs) := by
  unfold State.stageBytes
  split
  · refine s.modTbl_keepsForm tid _ fun x hid hx => ?_
    obtain ⟨hb, hd, hc⟩ := hx
    subst hid
    exact ⟨memWf_memWriteN off bs hb, hd, hc⟩
  · refine s.modTbl_keepsForm tid _ fun x hid hx => ?_
    obtain ⟨hb, hd, hc⟩ := hx
    subst hid
    refine ⟨hb, hd, fun c h => ?_⟩
    obtain ⟨c', hc', rfl⟩ := Option.map_eq_some_iff.mp h
    exact memWf_memWriteN off bs (hc c' hc')

@[simp] theorem State.imageRefused_sameForm (s : State) (tid check) : s.SameForm (s.imageRefused tid check) := by
  simp [State.imageRefused]

@[simp] theorem State.takeTerminals_sameForm (s : State) : s.SameForm (s.takeTerminals) := by
  simp [State.takeTerminals]

@[simp] theorem State.canSwitched_sameForm (s : State) (b old) : s.SameForm (s.canSwitched b old) := by
  simp [State.canSwitched]

theorem memWf_foldl {α : Type} {d : Nat → Byte} {g : Mem → α → Mem} (hg : ∀ m x, memWf d m = true → memWf d (g m x) = true)
    (l : List α) {m : Mem} (h : memWf d m = true) : memWf d (l.foldl g m) = true := by
  induction l generalizing m with
  | nil => exact h
  | cons x l ih => exact ih (hg m x h)

theorem memWf_markManual (old : Mem) {m : Mem} (h : memWf zeroByte m = true) : memWf zeroByte (markManual old m) = true := by
  unfold markManual
  refine memWf_foldl (fun m k h => ?_) _ h
  split
  · exact h
  · exact memWf_memWrite _ _ h

@[simp] theorem State.onSwitch_keepsForm (s : State) (tid old) : s.KeepsForm (s.onSwitch tid old) := by
  unfold State.onSwitch
  dsimp only
  split
  · next h =>
    generalize ht : s.modTbl tid _ = t
    have hst : s.KeepsForm t := ht ▸ s.modTbl_keepsForm tid _ fun x hid hx => by
      have hz : tableByte x.id = zeroByte := by
        rw [hid, h]
        rfl
      obtain ⟨hb, hd⟩ := hx
      rw [hz] at hb
      refine ⟨?_, hd⟩
      dsimp only
      rw [hz]
      exact memWf_markManual old hb
    exact hst.trans (State.SameForm.keepsForm (by simp [State.form_parts]))
  · (repeat' split) <;> simp +contextual [State.form_parts]

@[simp] theorem State.switchTable_keepsForm (s : State) (tid) : s.KeepsForm (s.switchTable tid) := by
  unfold State.switchTable
  dsimp only
  generalize ht : s.modTbl tid _ = t
  have hst : s.KeepsForm t := ht ▸ s.modTbl_keepsForm tid _ fun x _ hx => by
    obtain ⟨hb, hd, hc⟩ := hx
    refine ⟨?_, hd, fun _ h => by cases h⟩
    cases hx : x.claim with
    | none => simpa [hx] using hb
    | some c => simpa [hx] using hc c hx
  have htu := t.onSwitch_keepsForm tid (s.tbl tid).body
  generalize t.onSwitch tid (s.tbl tid).body = u at htu ⊢
  exact (hst.trans htu).trans (State.SameForm.keepsForm (by simp [State.form_parts]))

/-! ## The variables -/

@[simp] theorem State.bumpVar_sameForm (s : State) (ident) : s.SameForm (s.bumpVar ident) := by
  simp [State.bumpVar, State.form_parts]

theorem State.gvarWrite_keepsForm {s t : State} {v : GVar} {e x : Nat} (h : s.gvarWrite v e x = .ok t) : s.KeepsForm t :=
  State.gysWrite_keepsForm h

@[simp] theorem State.applyVarWrite_keepsForm (s : State) (tag) : s.KeepsForm (s.applyVarWrite tag) := by
  unfold State.applyVarWrite
  dsimp only
  generalize hu : ({ s with gys.writes := s.gys.writes.filter fun t => t != tag } : State) = u
  have hsu : s.SameForm u := by
    rw [← hu]
    simp [State.form_parts]
  refine hsu.keepsForm.trans ?_
  split
  · exact .refl u
  split
  · simp
  split
  · simp
  split
  · simp
  · next ht => exact (State.gvarWrite_keepsForm ht).trans (State.SameForm.keepsForm (by simp))

@[simp] theorem State.applyWritesBefore_keepsForm (s : State) (t) : s.KeepsForm (s.applyWritesBefore t) :=
  keepsForm_foldl (fun s t => s.applyVarWrite_keepsForm t) _ s

@[simp] theorem State.handForce_sameForm (s : State) (tag) : s.SameForm (s.handForce tag) := by
  simp [State.handForce, State.form_parts]

@[simp] theorem State.applyForceSet_sameForm (s : State) (f) : s.SameForm (s.applyForceSet f) := by
  unfold State.applyForceSet
  (repeat' split) <;> simp [State.form_parts]

@[simp] theorem State.applyForceClear_sameForm (s : State) (f) : s.SameForm (s.applyForceClear f) := by
  simp [State.applyForceClear, State.form_parts]

@[simp] theorem State.applyForces_sameForm (s : State) : s.SameForm s.applyForces := by
  unfold State.applyForces
  refine State.SameForm.trans (t := { s with gys.forceOps := [] }) (by simp [State.form_parts]) (sameForm_foldl (fun s k => ?_) _ _)
  (repeat' split) <;> simp

/-! ## The commit groups -/

@[simp] theorem State.stage_sameForm (s : State) (f) : s.SameForm (s.stage f) := by
  unfold State.stage
  dsimp only
  (repeat' split) <;> simp

@[simp] theorem State.countGroup_sameForm (s : State) (st) : s.SameForm (s.countGroup st) := by
  unfold State.countGroup
  (repeat' split) <;> simp

@[simp] theorem State.sendAborts_sameForm (s : State) (g) : s.SameForm (s.sendAborts g) := by
  simp [State.sendAborts]

@[simp] theorem State.endGroup_sameForm (s : State) (g st detail idx dev committed aborts) : s.SameForm (s.endGroup g st detail idx dev committed aborts) := by
  unfold State.endGroup
  dsimp only
  (repeat' split) <;> simp

@[simp] theorem State.flushGroups_sameForm (s : State) : s.SameForm (s.flushGroups) := by
  simp [State.flushGroups, State.form_parts]

@[simp] theorem State.dropMsg_sameForm (s : State) (m) : s.SameForm (s.dropMsg m) := by
  simp [State.dropMsg, State.form_parts]

@[simp] theorem State.trial_sameForm (s : State) (acts) : s.SameForm (s.trial acts) := by
  simp [State.trial]

@[simp] theorem State.applyVarAct_keepsForm (s : State) (a) : s.KeepsForm (s.applyVarAct a) := by
  unfold State.applyVarAct
  dsimp only
  split
  · simp +contextual
  · next t ht =>
    have hst : s.KeepsForm t := by
      (repeat' split at ht)
      · exact State.gvarWrite_keepsForm ht
      · cases ht
        exact .refl s
      · exact State.gysWrite_keepsForm ht
    split
    · exact hst.trans (State.SameForm.keepsForm (by simp))
    · exact hst

@[simp] theorem State.applyAct_keepsForm (s : State) (slot a) : s.KeepsForm (s.applyAct slot a) := by
  unfold State.applyAct
  dsimp only
  (repeat' split) <;> simp +contextual [State.form_parts, Memories.Wf.parts]

@[simp] theorem State.applyActs_keepsForm (s : State) (g p) : s.KeepsForm (s.applyActs g p) := by
  simp +contextual [State.applyActs]

@[simp] theorem State.commitGroup_sameForm (s : State) (g) : s.SameForm (s.commitGroup g) := by
  simp [State.commitGroup]

@[simp] theorem State.groupRefused_sameForm (s : State) (g idx) : s.SameForm (s.groupRefused g idx) := by
  simp [State.groupRefused]

@[simp] theorem State.applyGroupFio_keepsForm (s : State) : s.KeepsForm s.applyGroupFio := by
  refine keepsForm_foldl (fun s g => ?_) _ s
  split <;> simp +contextual

@[simp] theorem State.groupDurable_sameForm (s : State) (acts) : s.SameForm (s.groupDurable acts) := by
  simp [State.groupDurable]

@[simp] theorem State.abortGroup_sameForm (s : State) (g st) : s.SameForm (s.abortGroup g st) := by
  simp [State.abortGroup]

@[simp] theorem State.reply_sameForm (s : State) (m type st idx) : s.SameForm (s.reply m type st idx) := by
  simp [State.reply]

@[simp] theorem State.repair_sameForm (s : State) (acts) : s.SameForm (s.repair acts) := by
  simp [State.repair]

@[simp] theorem State.sendCommits_sameForm (s : State) (g parts) : s.SameForm (s.sendCommits g parts) := by
  simp [State.sendCommits]

@[simp] theorem State.decideGroup_sameForm (s : State) (g) : s.SameForm (s.decideGroup g) := by
  unfold State.decideGroup
  dsimp only
  (repeat' split) <;> simp

/-! ## The Geyser cycle -/

@[simp] theorem State.gysWrites_keepsForm (s : State) (ws) : s.KeepsForm (s.gysWrites ws) := by
  induction ws generalizing s with
  | nil => exact .refl s
  | cons w ws ih =>
    unfold State.gysWrites
    split
    · simp
    · next h => exact (State.gysWrite_keepsForm h).trans (ih _)

@[simp] theorem State.stationCopied_sameForm (s : State) (b n) : s.SameForm (s.stationCopied b n) := by
  unfold State.stationCopied
  dsimp only
  (repeat' split) <;> simp

@[simp] theorem State.loadInitial_keepsForm (s : State) : s.KeepsForm s.loadInitial := by
  have hm := fun h : s.memories.Wf => memWf_memWriteN 0xB000 s.initialData (memWf_filter (fun c => !coldClears c.1) h.data)
  simp +contextual [State.loadInitial, State.form_parts, Memories.Wf.parts, hm]

@[simp] theorem State.takeRestart_keepsForm (s : State) : s.KeepsForm (s.takeRestart) := by
  unfold State.takeRestart
  dsimp only
  (repeat' split) <;> simp +contextual [State.form_parts, Memories.Wf.parts]

@[simp] theorem State.applyAgain_keepsForm (s : State) : s.KeepsForm s.applyAgain := by
  unfold State.applyAgain
  dsimp only
  generalize hu : List.foldl _ s _ = u
  have hsu : s.KeepsForm u := hu ▸ keepsForm_foldl (fun s a => s.applyVarAct_keepsForm a) _ s
  exact hsu.trans (State.SameForm.keepsForm (by simp [State.form_parts]))

@[simp] theorem State.commitPoint_keepsForm (s : State) : s.KeepsForm s.commitPoint := by
  simp +contextual [State.commitPoint]

@[simp] theorem State.copyInputs_keepsForm (s : State) (dt last) : s.KeepsForm (s.copyInputs dt last) := by
  simp +contextual [State.copyInputs]

@[simp] theorem State.beginExecute_sameForm (s : State) : s.SameForm (s.beginExecute) := by
  simp [State.beginExecute, State.form_parts]

@[simp] theorem State.noteCycle_sameForm (s : State) (dt) : s.SameForm (s.noteCycle dt) := by
  simp [State.noteCycle]

@[simp] theorem State.handRequests_sameForm (s : State) : s.SameForm (s.handRequests) := by
  simp [State.handRequests, State.form_parts]

@[simp] theorem State.outputPhase_keepsForm (s : State) : s.KeepsForm (s.outputPhase) := by
  simp +contextual [State.outputPhase, State.form_parts, Memories.Wf.parts]

@[simp] theorem State.stopAtClose_sameForm (s : State) : s.SameForm (s.stopAtClose) := by
  simp [State.stopAtClose, State.form_parts]

@[simp] theorem State.autoRestart_sameForm (s : State) : s.SameForm (s.autoRestart) := by
  simp [State.autoRestart, State.form_parts]

theorem State.commandWrite_keepsForm {s : State} {f : Flight} {ok : Option Status} {k : State → State}
    (h : ∀ s : State, s.KeepsForm (k s)) : s.KeepsForm (s.commandWrite f ok k) := by
  unfold State.commandWrite
  dsimp only
  (repeat' split) <;> simp +contextual [h]

@[simp] theorem State.gysCommand_keepsForm (s : State) (f ok ctrl) : s.KeepsForm (s.gysCommand f ok ctrl) :=
  State.commandWrite_keepsForm fun s => by simp +contextual [State.form_parts]

@[simp] theorem State.resolveForces_sameForm (s : State) (vars) : s.SameForm (s.resolveForces vars) := by
  refine sameForm_foldl (fun s k => ?_) _ s
  dsimp only
  (repeat' split) <;> simp [State.form_parts]

@[simp] theorem State.switchBank_keepsForm (s : State) (tid) : s.KeepsForm (s.switchBank tid) := by
  unfold State.switchBank
  dsimp only
  generalize ht : s.modTbl tid _ = t
  have hst : s.KeepsForm t := ht ▸ s.modTbl_keepsForm tid _ fun x _ hx => ⟨hx.1, hx.1, fun _ h => by cases h⟩
  exact hst.trans (State.SameForm.keepsForm (by simp [State.form_parts]))

theorem memWf_putElem {m : Mem} (v : GVar) (e x : Nat) (h : memWf zeroByte m = true) : memWf zeroByte (putElem m v e x) = true := by
  unfold putElem
  dsimp only
  split
  · exact memWf_memWrite _ _ h
  · exact memWf_memWriteN _ _ h

theorem State.memWf_migrate (s : State) (rd : Nat → Nat → Nat) (h : memWf zeroByte s.gys.mem = true) :
    memWf zeroByte (s.migrate rd) = true := by
  unfold State.migrate
  exact memWf_foldl (fun _ v hm => memWf_foldl (fun _ e hm => memWf_putElem v e _ hm) _ hm) _ (memWf_filter _ h)

@[simp] theorem State.onlineChange_keepsForm (s : State) (tid) : s.KeepsForm (s.onlineChange tid) := by
  unfold State.onlineChange
  dsimp only
  split
  · have h := (s.switchBank_keepsForm tid).trans (State.loadInitial_keepsForm _)
    generalize (s.switchBank tid).loadInitial = u at h ⊢
    exact h.trans (State.SameForm.keepsForm (by simp [State.form_parts]))
  · refine State.KeepsForm.trans ⟨?_, fun h => ?_⟩ (State.switchBank_keepsForm _ tid)
    · simp [State.form_parts]
    · simp [State.form_parts, h.parts, JournalsWf, s.memWf_migrate _ h.data]

/-! ## The safety parameters -/

@[simp] theorem State.openSaf_sameForm (s : State) (x0) : s.SameForm (s.openSaf x0) := by
  simp [State.openSaf, State.form_parts]

@[simp] theorem State.safWrite_sameForm (s : State) (f) : s.SameForm (s.safWrite f) := by
  unfold State.safWrite
  dsimp only
  (repeat' split) <;> simp [State.form_parts]

@[simp] theorem State.adoptSet_sameForm (s : State) : s.SameForm (s.adoptSet) := by
  simp [State.adoptSet, State.form_parts]

/-! ## The security commands -/

@[simp] theorem State.usedFree_sameForm (s : State) : s.SameForm (s.usedFree) := by
  simp [State.usedFree, State.form_parts]

@[simp] theorem State.openSession_keepsForm (s : State) (h ss host) : s.KeepsForm (s.openSession h ss host) := by
  unfold State.openSession
  dsimp only
  (repeat' split) <;> simp +contextual

@[simp] theorem State.authFailed_sameForm (s : State) (inst) : s.SameForm (s.authFailed inst) := by
  simp [State.authFailed]

@[simp] theorem State.slotFailed_sameForm (s : State) (x0) : s.SameForm (s.slotFailed x0) := by
  simp [State.slotFailed]

@[simp] theorem State.setRingFail_sameForm (s : State) (r) : s.SameForm (s.setRingFail r) := by
  simp [State.setRingFail, State.form_parts]

@[simp] theorem State.sourceFailed_sameForm (s : State) (a) : s.SameForm (s.sourceFailed a) := by
  simp [State.sourceFailed]

@[simp] theorem State.dropChal_sameForm (s : State) (a) : s.SameForm (s.dropChal a) := by
  simp [State.dropChal, State.form_parts]

@[simp] theorem State.takeMeasurements_sameForm (s : State) : s.SameForm (s.takeMeasurements) := by
  simp [State.takeMeasurements, State.form_parts]

@[simp] theorem State.attestCert_sameForm (s : State) (f c) : s.SameForm (s.attestCert f c) := by
  simp [State.attestCert]

@[simp] theorem State.keyInstalled_sameForm (s : State) (action id) : s.SameForm (s.keyInstalled action id) := by
  simp [State.keyInstalled]

/-! ## The firmware -/

theorem mem_modifyAt {α : Type} {xs : List α} {i : Nat} {f : α → α} {y : α} (h : y ∈ modifyAt xs i f) :
    y ∈ xs ∨ ∃ x ∈ xs, y = f x := by
  induction xs generalizing i with
  | nil => cases h
  | cons x xs ih =>
    cases i with
    | zero =>
      rcases List.mem_cons.mp h with rfl | h
      · exact .inr ⟨x, List.mem_cons_self, rfl⟩
      · exact .inl (List.mem_cons_of_mem x h)
    | succ i =>
      rcases List.mem_cons.mp h with rfl | h
      · exact .inl List.mem_cons_self
      · rcases ih h with h | ⟨z, hz, rfl⟩
        · exact .inl (List.mem_cons_of_mem x h)
        · exact .inr ⟨z, List.mem_cons_of_mem x hz, rfl⟩

theorem State.modFw_keepsForm (s : State) (k : Nat) (f : FwSlot → FwSlot)
    (hf : ∀ x, memWf zeroByte x.bytes = true → memWf zeroByte (f x).bytes = true) : s.KeepsForm (s.modFw k f) := by
  refine ⟨by simp [State.modFw, State.form_parts], fun h => ⟨h.data, h.retained, h.journals, fun y hy => ?_, h.tables⟩⟩
  rcases mem_modifyAt hy with hy | ⟨x, hx, rfl⟩
  · exact h.firmware y hy
  · exact hf x (h.firmware x hx)

@[simp] theorem State.fwBegin_sameForm (s : State) (f) : s.SameForm (s.fwBegin f) := by
  simp [State.fwBegin, State.form_parts]

@[simp] theorem State.fwAdopt_keepsForm (s : State) (k) : s.KeepsForm (s.fwAdopt k) := s.modFw_keepsForm k _ fun _ h => h

@[simp] theorem State.fwRefused_sameForm (s : State) (f st) : s.SameForm (s.fwRefused f st) := by
  simp [State.fwRefused]

@[simp] theorem State.awaitQuiet_sameForm (s : State) (f revert plain) : s.SameForm (s.awaitQuiet f revert plain) := by
  simp [State.awaitQuiet, State.form_parts]

@[simp] theorem State.planSwap_sameForm (s : State) : s.SameForm (s.planSwap) := by
  simp [State.planSwap, State.form_parts]

@[simp] theorem State.switched_sameForm (s : State) : s.SameForm (s.switched) := by
  simp [State.switched, State.form_parts]

@[simp] theorem State.beginSwap_sameForm (s : State) : s.SameForm (s.beginSwap) := by
  simp [State.beginSwap, State.form_parts]

/-! ## DORMANT -/

@[simp] theorem State.canSleep_sameForm (s : State) (sent b) : s.SameForm (s.canSleep sent b) := by
  simp [State.canSleep]

@[simp] theorem State.saveUnits_keepsForm (s : State) : s.KeepsForm s.saveUnits := by
  refine keepsForm_foldl (fun s u => ?_) _ s
  dsimp only
  split <;> simp +contextual [State.form_parts, Memories.Wf.parts]

@[simp] theorem State.armMonitor_sameForm (s : State) (si fio) : s.SameForm (s.armMonitor si fio) := by
  simp [State.armMonitor, State.form_parts]

@[simp] theorem State.stopClocks_sameForm (s : State) : s.SameForm (s.stopClocks) := by
  simp [State.stopClocks, State.form_parts]

@[simp] theorem State.latchSource_sameForm (s : State) (src) : s.SameForm (s.latchSource src) := by
  unfold State.latchSource
  (repeat' split) <;> simp [State.form_parts]

@[simp] theorem State.dormantMove_sameForm (s : State) (edges) : s.SameForm (s.dormantMove edges) := by
  simp [State.dormantMove, State.form_parts]

@[simp] theorem State.wakeEdges_sameForm (s : State) (v at_) : s.SameForm (s.wakeEdges v at_) := by
  simp [State.wakeEdges]

@[simp] theorem State.canWake_sameForm (s : State) (b) : s.SameForm (s.canWake b) := by
  simp [State.canWake]

@[simp] theorem State.startClocks_sameForm (s : State) : s.SameForm (s.startClocks) := by
  simp [State.startClocks, State.form_parts]

/-! ## Supply and start -/

@[simp] theorem State.noteVin_sameForm (s : State) (mV) : s.SameForm (s.noteVin mV) := by
  simp [State.noteVin]

@[simp] theorem State.noteTdie_sameForm (s : State) (t) : s.SameForm (s.noteTdie t) := by
  simp [State.noteTdie]

@[simp] theorem State.sagOff_sameForm (s : State) : s.SameForm (s.sagOff) := by
  simp [State.sagOff, State.form_parts]

@[simp] theorem State.aonLost_sameForm (s : State) : s.SameForm (s.aonLost) := by
  simp [State.aonLost, State.form_parts]

@[simp] theorem State.measureCell_sameForm (s : State) (mV) : s.SameForm (s.measureCell mV) := by
  simp [State.measureCell]

@[simp] theorem State.settleGroups_keepsForm (s : State) : s.KeepsForm s.settleGroups := by
  refine keepsForm_foldl (fun s g => ?_) _ s
  split <;> simp +contextual

theorem Table.wf_kept {xs : List Table} (h : TablesWf xs) :
    TablesWf (xs.map fun t => { t with body := t.durable, ver := t.durVer, origin := t.durOrigin, claim := none }) :=
  Table.wf_map (fun _ _ hx => ⟨hx.2.1, hx.2.1, fun _ h => by cases h⟩) h

/-- The blocks that keep nothing are as after reset, with the manual's numbers of things. -/
theorem State.fastLost_form (s : State) (last cause : Nat) :
    (s.counts = Counts.manual → (s.fastLost last cause).counts = Counts.manual) ∧
      (s.memories.Wf → (s.fastLost last cause).memories.Wf) := by
  unfold State.fastLost
  dsimp only
  generalize hu : (s.settleGroups.setOwn Idx.PWR_LASTAON last).raiseAtStart _ _ _ _ = u
  have hsu : s.KeepsForm u := by
    rw [← hu]
    simp +contextual
  refine ⟨fun h => ?_, fun h => ?_⟩
  · have hc := congrArg Counts.acks (hsu.1.trans h)
    have hr := congrArg Counts.reqs (hsu.1.trans h)
    simp [Gys.kept, Tph.kept, State.form_parts, Counts.manual] at hc hr ⊢
    exact hc
  · have hw := hsu.2 h
    exact ⟨hw.data, hw.retained, hw.journals, hw.firmware, Table.wf_kept hw.tables⟩

@[simp] theorem State.beginStartDue_sameForm (s : State) (bootsel) : s.SameForm (s.beginStart_ bootsel) := by
  simp [State.beginStart_, State.form_parts]

@[simp] theorem State.gysResume_keepsForm (s : State) : s.KeepsForm s.gysResume := by
  unfold State.gysResume
  dsimp only
  split
  · exact .refl s
  have himage : s.memories.Wf → memWf zeroByte (((s.gys.journals.filter fun j => j.durable).getLast?.map fun j =>
      j.image).getD s.gys.retained) = true := fun h => by
    cases hl : (s.gys.journals.filter fun j => j.durable).getLast? with
    | none => exact h.retained
    | some j => exact h.journals j (List.mem_of_mem_filter (List.mem_of_getLast? hl))
  generalize (((s.gys.journals.filter fun j => j.durable).getLast?.map fun j => j.image).getD s.gys.retained) = image at himage ⊢
  (repeat' split) <;> simp +contextual [State.form_parts, Memories.Wf.parts, JournalsWf, himage]

@[simp] theorem State.emitStart_sameForm (s : State) : s.SameForm (s.emitStart) := by
  simp [State.emitStart, State.form_parts]

@[simp] theorem State.hstStart_sameForm (s : State) (pos) : s.SameForm (s.hstStart pos) := by
  simp [State.hstStart, State.form_parts]

@[simp] theorem State.loadStore_sameForm (s : State) (repaired lost cal) : s.SameForm (s.loadStore repaired lost cal) := by
  simp [State.loadStore, State.form_parts]

@[simp] theorem State.loseSlots_sameForm (s : State) (seqs) : s.SameForm (s.loseSlots seqs) := by
  simp [State.loseSlots, State.form_parts]

@[simp] theorem State.rtcStart_sameForm (s : State) : s.SameForm (s.rtcStart) := by
  simp [State.rtcStart, State.form_parts]

@[simp] theorem State.bootFrom_sameForm (s : State) (k) : s.SameForm (s.bootFrom k) := by
  simp [State.bootFrom, State.form_parts]

@[simp] theorem State.startRun_keepsForm (s : State) (pos) : s.KeepsForm (s.startRun pos) := by
  simp +contextual [State.startRun, State.form_parts, Memories.Wf.parts]

/-! ## The LMP -/

@[simp] theorem State.endOp_sameForm (s : State) (f st) : s.SameForm (s.endOp f st) := by
  unfold State.endOp
  (repeat' split) <;> simp [State.form_parts]

@[simp] theorem State.strandedOp_sameForm (s : State) (f) : s.SameForm (s.strandedOp f) := by
  unfold State.strandedOp
  (repeat' split) <;> simp

@[simp] theorem State.fwFallBack_sameForm (s : State) : s.SameForm (s.fwFallBack) := by
  simp [State.fwFallBack, State.form_parts]

@[simp] theorem State.lmpFault_sameForm (s : State) (cause) : s.SameForm (s.lmpFault cause) := by
  simp [State.lmpFault, State.form_parts]

@[simp] theorem State.settleOp_sameForm (s : State) (cause f) : s.SameForm (s.settleOp cause f) := by
  unfold State.settleOp
  (repeat' split) <;> simp

@[simp] theorem State.settleSlots_keepsForm (s : State) : s.KeepsForm s.settleSlots := by
  unfold State.settleSlots
  exact State.KeepsForm.trans (State.SameForm.keepsForm (by simp)) (State.closeSessions_keepsForm _ _)

@[simp] theorem State.integrityFails_sameForm (s : State) (tag) : s.SameForm (s.integrityFails tag) := by
  unfold State.integrityFails
  (repeat' split) <;> simp

/-! ## A millisecond without a command -/

@[simp] theorem State.nrstPass_sameForm (s : State) : s.SameForm (s.nrstPass) := by
  simp [State.nrstPass, State.form_parts]

@[simp] theorem State.rtcPass_sameForm (s : State) : s.SameForm (s.rtcPass) := by
  simp [State.rtcPass]

@[simp] theorem State.opPass_sameForm (s : State) : s.SameForm (s.opPass) := by
  simp [State.opPass, State.form_parts]

@[simp] theorem State.swapPass_sameForm (s : State) : s.SameForm (s.swapPass) := by
  simp [State.swapPass, State.form_parts]

@[simp] theorem State.ringMs_sameForm (s : State) : s.SameForm (s.ringMs) := by
  simp [State.ringMs, State.form_parts]

@[simp] theorem State.idle_sameForm (s : State) : s.SameForm (s.idle) := by
  simp [State.idle]

end Sys2Proof.Machine
end

section
/-!
PROOFS. Every command completes, keeps the queue of the waiting commands, the counts and the form of the memories: one law for each family of
commands.
-/
namespace Sys2Proof.Machine

/-! ## Endings -/

/-- From `s` to `t` the queue of the waiting commands stays, and both forms are kept. -/
@[simp] abbrev State.Keeps (s t : State) : Prop :=
  t.pending = s.pending ∧ (s.counts = Counts.manual → t.counts = Counts.manual) ∧ (s.memories.Wf → t.memories.Wf)

/-- The command completes, and keeps the queue and both forms. -/
def Ends (s : State) (o : Out) : Prop := ∃ t, o = .next t ∧ s.Keeps t

theorem State.Keeps.refl (s : State) : s.Keeps s := ⟨rfl, id, id⟩

theorem State.KeepsForm.keeps {s t : State} (h : s.KeepsForm t) (hp : t.pending = s.pending) : s.Keeps t :=
  ⟨hp, fun hs => h.1.trans hs, h.2⟩

theorem State.SameForm.keeps {s t : State} (h : s.SameForm t) (hp : t.pending = s.pending) : s.Keeps t :=
  h.keepsForm.keeps hp

theorem State.Keeps.trans {s t u : State} (h : s.Keeps t) (h' : t.Keeps u) : s.Keeps u :=
  ⟨h'.1.trans h.1, fun hs => h'.2.1 (h.2.1 hs), fun hs => h'.2.2 (h.2.2 hs)⟩

theorem keeps_foldl {α : Type} {g : State → α → State} (h : ∀ (s : State) x, s.Keeps (g s x)) (l : List α) (s : State) :
    s.Keeps (l.foldl g s) := by
  induction l generalizing s with
  | nil => exact .refl s
  | cons x l ih => exact (h s x).trans (ih (g s x))

theorem ends_occurs {c : Bool} {s t : State} (h : s.Keeps t) : Ends s (occurs c s t) := by
  cases c
  · exact ⟨s, rfl, .refl s⟩
  · exact ⟨t, rfl, h⟩

theorem keeps_hostCmd {s : State} {tag need : Nat} {k : State → Flight → State}
    (h : ∀ (s : State) f, s.Keeps (k s f)) : s.Keeps (s.hostCmd tag need k) := by
  unfold State.hostCmd
  dsimp only
  split
  · simp +contextual
  · exact State.Keeps.trans (by simp +contextual) (h (s.noteSeq (s.flight tag)) (s.flight tag))

theorem keeps_commandWrite {s : State} {f : Flight} {ok : Option Status} {k : State → State}
    (h : ∀ s : State, s.Keeps (k s)) : s.Keeps (s.commandWrite f ok k) := by
  unfold State.commandWrite
  dsimp only
  (repeat' split) <;> simp +contextual [h]

theorem keeps_traceWrite {s : State} {f : Flight} {ok : Option Status} {k : State → State}
    (h : ∀ s : State, s.Keeps (k s)) : s.Keeps (s.traceWrite f ok k) := by
  unfold State.traceWrite
  dsimp only
  (repeat' split) <;> simp +contextual [h]

theorem keeps_action {s : State} {f : Flight} {refused : Option Status} {k : State → State}
    (h : ∀ s : State, s.Keeps (k s)) : s.Keeps (s.action f refused k) := by
  unfold State.action
  dsimp only
  (repeat' split) <;> simp +contextual [h]

@[simp] theorem stageRow_ends (s : State) (tag : Nat) (p : Nat → Bool) : Ends s (stageRow tag p s) :=
  ends_occurs (keeps_hostCmd fun _ _ => by simp +contextual)

/-! ## Operations that touch the queue of waiting commands nowhere, and the two that read a number of things off a list -/

@[simp] theorem State.doorReact_pending (s : State) (n : Nat) : (s.doorReact n).1.pending = s.pending := by
  unfold State.doorReact
  dsimp only
  (repeat' split) <;> simp

@[simp] theorem State.doorTick_pending' (s : State) (n ohm : Nat) : (s.doorTick n ohm).pending = s.pending := by
  unfold State.doorTick
  dsimp only
  (repeat' split) <;> simp

@[simp] theorem State.gysCommand_keeps (s : State) (f : Flight) (ok : Bool) (ctrl : Nat) : s.Keeps (s.gysCommand f ok ctrl) :=
  keeps_commandWrite fun s => by simp +contextual [State.form_parts]

@[simp] theorem State.ringAuth_keeps (s : State) (a : Nat) (d : Desc) : s.Keeps (s.ringAuth a d).1 := by
  unfold State.ringAuth
  dsimp only
  (repeat' split) <;> simp +contextual [State.form_parts]

@[simp] theorem State.latchSeen_keeps (s : State) : s.Keeps s.latchSeen :=
  ⟨rfl, fun h => (s.latchSeen_form h).1, fun h => h⟩

@[simp] theorem State.traceDue_keeps (s : State) (n : Nat) : s.Keeps (s.traceDue n) :=
  ⟨rfl, fun h => (s.traceDue_form n h).1, fun h => h⟩

@[simp] theorem State.slotLate_keeps (s : State) (n : Nat) : s.Keeps (s.slotLate n) :=
  ⟨by simp, s.slotLate_counts n, fun h => by rwa [s.slotLate_memories n]⟩

@[simp] theorem State.fastLost_keeps (s : State) (last cause : Nat) : s.Keeps (s.fastLost last cause) :=
  ⟨by simp [State.fastLost], (s.fastLost_form last cause).1, (s.fastLost_form last cause).2⟩

/-! ## Changes of one table object, firmware slot or journal -/

@[simp] theorem State.keepsForm_dropClaim (s : State) (tid : Nat) :
    s.KeepsForm (s.modTbl tid fun t => { t with claim := none }) :=
  s.modTbl_keepsForm tid _ fun _ _ hx => ⟨hx.1, hx.2.1, fun _ h => by cases h⟩

@[simp] theorem State.keepsForm_tableDurable (s : State) (tid : Nat) :
    s.KeepsForm (s.modTbl tid fun t => { t with durable := t.body, durVer := t.ver, durOrigin := t.origin }) :=
  s.modTbl_keepsForm tid _ fun _ _ hx => ⟨hx.1, hx.1, hx.2.2⟩

@[simp] theorem State.keepsForm_stageFw (s : State) (k off : Nat) (bs : List Byte) :
    s.KeepsForm (s.modFw k fun x => { x with bytes := memWriteN zeroByte x.bytes off bs }) :=
  s.modFw_keepsForm k _ fun _ h => memWf_memWriteN off bs h

theorem JournalsWf.makeDurable {js : List Journal} (h : JournalsWf js) : JournalsWf (makeDurable js) := by
  induction js with
  | nil => exact h
  | cons j js ih =>
    obtain ⟨hj, hjs⟩ := List.forall_mem_cons.mp h
    unfold Machine.makeDurable
    split
    · exact List.forall_mem_cons.mpr ⟨hj, ih hjs⟩
    · exact List.forall_mem_cons.mpr ⟨hj, hjs⟩

theorem JournalsWf.concat {js : List Journal} {j : Journal} (h : JournalsWf js) (hj : memWf zeroByte j.image = true) :
    JournalsWf (js ++ [j]) := by
  intro x hx
  rcases List.mem_append.mp hx with hx | hx
  · exact h x hx
  · exact List.mem_singleton.mp hx ▸ hj

/-- A device whose LMP has stopped for good holds the manual's numbers of things still (05 R108). -/
@[simp] theorem Counts.manual_host : Counts.mk 8 64 Counts.manual.groups Counts.manual.streams Counts.manual.acks Counts.manual.reqs
    Counts.manual.caldera Counts.manual.seen Counts.manual.units Counts.manual.traces Counts.manual.field Counts.manual.stns0
    Counts.manual.objs0 Counts.manual.stns1 Counts.manual.objs1 = Counts.manual := rfl

/-! ## The families -/

/-- Events of the safety channels and their parameters (12). -/
@[simp] theorem safetyEvents_end (s : State) :
    (∀ ch si inc latch fa fb sincos, Ends s (execSampleTask ch si inc latch fa fb sincos s)) ∧
    (∀ ch src elapsedUs, Ends s (execSsiFrameMissing ch src elapsedUs s)) ∧
    (∀ ch n, Ends s (execSafetyInputChange ch n s)) ∧
    (∀ ch recOk diag nodes, Ends s (execSafetyCycle ch recOk diag nodes s)) ∧ (∀ ch, Ends s (execSafTripSf5 ch s)) ∧
    (∀ ch, Ends s (execSafTripSf9 ch s)) ∧ (∀ ch, Ends s (execSafTripDl ch s)) ∧ Ends s (execSafContactor s) ∧
    (∀ ch k high low mA, Ends s (execSwitchTest ch k high low mA s)) ∧ Ends s (execStuckSwitchLockout s) ∧
    Ends s (execBrakeTestStart s) ∧ Ends s (execBrakeTestStep s) ∧ Ends s (execResetRelease s) ∧
    Ends s (execResetStuck s) ∧ Ends s (execResetDiscrepancy s) ∧
    (∀ ch up, Ends s (execNeighbourLostSafety ch up s)) ∧ Ends s (execSafetySetSwitch s) ∧
    Ends s (execSafSessionTimeout s) := by
  and_intros
  all_goals
    intros
    refine ends_occurs ?_
    try dsimp only
    (repeat' split) <;> simp +contextual [State.form_parts]

/-- Events of the hoist engine (09). -/
@[simp] theorem hoistEvents_end (s : State) :
    (∀ fa fb ts, Ends s (execSsiRead fa fb ts s)) ∧ (∀ count t fault, Ends s (execIncRead count t fault s)) ∧
    Ends s (execIncSignal s) ∧ (∀ lw0 lw1, Ends s (execLoadSample lw0 lw1 s)) ∧ Ends s (execMoveReq s) ∧
    Ends s (execReplanningTick s) ∧ Ends s (execProfileRelease s) ∧ Ends s (execPretorqueRampEnd s) ∧
    Ends s (execStartTimeout s) ∧ Ends s (execStartRefused s) ∧
    (∀ heldMs, Ends s (execLevelErrorTaken heldMs s)) ∧ Ends s (execReversalDwellEnd s) ∧
    (∀ heldMs, Ends s (execRelevel heldMs s)) ∧ Ends s (execDeviceFrame s) ∧
    (∀ bytes coded atUs, Ends s (execInverterFrame bytes coded atUs s)) ∧ (∀ us, Ends s (execDlReplyDeadline us s)) ∧
    Ends s (execDlRestored s) := by
  and_intros
  all_goals
    intros
    refine ends_occurs ?_
    try dsimp only
    (repeat' split) <;> simp +contextual [State.form_parts, Memories.Wf.parts]

/-- Events of the Caldera engine (10). -/
@[simp] theorem calderaEvents_end (s : State) :
     
     (∀ n, Ends s (execSlotEnable n s)) ∧
    (∀ n, Ends s (execSlotDisable n s)) ∧ (∀ u, Ends s (execCleRcSaved u s)) ∧
    (∀ b, Ends s (execTraceSample b s)) := by
  and_intros
  all_goals
    intros
    refine ends_occurs ?_
    try dsimp only
    (repeat' split) <;> simp +contextual [State.form_parts, Memories.Wf.parts]

/-- Events of the doors (11). -/
@[simp] theorem doorEvents_end (s : State) :
    (∀ n, Ends s (execCompareLoad n s)) ∧ (∀ n, Ends s (execGateUvlo n s)) ∧
    (∀ n t obs, Ends s (execCurrentSample n t obs s)) ∧ (∀ n code, Ends s (execHallRead n code s)) ∧
    (∀ n, Ends s (execDoorReq n s)) ∧ (∀ ntc0 ntc1, Ends s (execSequencerTick ntc0 ntc1 s)) ∧
    (∀ n ofsU ofsV heldUs, Ends s (execOffsetMeasured n ofsU ofsV heldUs s)) ∧ (∀ n, Ends s (execDoorClosed n s)) ∧
    (∀ n, Ends s (execHoldDelayExpired n s)) ∧ (∀ n, Ends s (execDoorBoost n s)) ∧
    (∀ n, Ends s (execBoostEnd n s)) ∧ (∀ n, Ends s (execDoorProfileSaved n s)) ∧
    (∀ n, Ends s (execWindingTemp n s)) ∧ (∀ n, Ends s (execStall n s)) := by
  and_intros
  all_goals
    intros
    refine ends_occurs ?_
    try dsimp only
    (repeat' split) <;> simp +contextual

/-- Events of the field channels and the shared hoistway (13, 16). -/
@[simp] theorem fieldEvents_end (s : State) :
    (∀ n count at_, Ends s (execFilteredEdge n count at_ s)) ∧ (∀ nodes, Ends s (execBackfeedProbe nodes s)) ∧
    (∀ n, Ends s (execFioFaultCleared n s)) ∧ (∀ n, Ends s (execFioLimiting n s)) ∧
    (∀ n, Ends s (execFioThermal n s)) ∧ (∀ n cool, Ends s (execThermalRetry n cool s)) ∧
    Ends s (execFioAggHigh s) ∧ Ends s (execFioShed s) ∧ (∀ up, Ends s (execNeighbourFrameSend up s)) ∧
    (∀ up, Ends s (execMessageRepeat up s)) ∧
    (∀ up bytes coded gapUs, Ends s (execNeighbourFrame up bytes coded gapUs s)) ∧
    (∀ up us, Ends s (execShfLinkLost up us s)) ∧ (∀ up, Ends s (execShfLinkRestored up s)) ∧
    Ends s (execZoneRequestRepeat s) := by
  and_intros
  all_goals
    intros
    refine ends_occurs ?_
    try dsimp only
    (repeat' split) <;> simp +contextual [State.form_parts]

/-- Events of the ring (15). -/
@[simp] theorem ringEvents_end (s : State) :
    (∀ port bytes fcs residence, Ends s (execFrameForward port bytes fcs residence s)) ∧
    (∀ port silentUs, Ends s (execRngLinkDown port silentUs s)) ∧ (∀ port amp, Ends s (execRngLinkUp port amp s)) ∧
    (∀ port, Ends s (execControlOnlyTimeout port s)) ∧ Ends s (execRngManager s) ∧ Ends s (execRingTest s) ∧
    Ends s (execTestReturned s) ∧ Ends s (execTestLoss s) ∧ Ends s (execLinkDown s) ∧
    Ends s (execRingClosed s) ∧ Ends s (execRingSync s) ∧ Ends s (execSyncSend s) ∧
    Ends s (execRngTimeLost s) ∧ Ends s (execRngMasterChange s) ∧ (∀ port, Ends s (execDelayRequest port s)) ∧
    Ends s (execDelayResponse s) ∧ Ends s (execRingAdvance s) ∧ Ends s (execRingTimeStore s) ∧
    Ends s (execSyncoutPulse s) ∧ Ends s (execSyncinEdge s) := by
  and_intros
  all_goals
    intros
    refine ends_occurs ?_
    try dsimp only
    (repeat' split) <;> simp +contextual [State.form_parts]

/-- Events of the CAN controllers (14). -/
@[simp] theorem canEvents_end (s : State) :
    (∀ b j, Ends s (execRefreshSend b j s)) ∧ (∀ b won, Ends s (execArbitration b won s)) ∧
    (∀ b j tdcNs, Ends s (execCanFrameSent b j tdcNs s)) ∧
    (∀ b j ack dominant tdcNs, Ends s (execFailedAttempt b j ack dominant tdcNs s)) ∧
    (∀ b recessive, Ends s (execCanBusOn b recessive s)) ∧
    (∀ b id base bytes copying, Ends s (execCanFrameReceived b id base bytes copying s)) ∧
    (∀ b n bytes, Ends s (execStationHeartbeat b n bytes s)) ∧ (∀ b n, Ends s (execCanStationLost b n s)) ∧
    (∀ b n bytes, Ends s (execCanEmergency b n bytes s)) ∧ (∀ b, Ends s (execControllerHeartbeat b s)) := by
  and_intros
  all_goals
    intros
    refine ends_occurs ?_
    try dsimp only
    (repeat' split) <;> simp +contextual

/-- Events of dispatch (15). -/
@[simp] theorem dispatchEvents_end (s : State) :
    (∀ k, Ends s (execCallreg k s)) ∧ Ends s (execBidReq s) ∧ Ends s (execRingBid s) ∧
    (∀ num, Ends s (execBidWindowClose num s)) ∧ (∀ num, Ends s (execAuctionRetry num s)) ∧
    Ends s (execCallDone s) ∧ (∀ n, Ends s (execDoorOpened n s)) ∧ Ends s (execSummarySend s) ∧
    Ends s (execSummary s) ∧ (∀ addr, Ends s (execPeerLost addr s)) ∧ Ends s (execTrainNotice s) ∧
    (∀ src id, Ends s (execDspPreposition src id s)) ∧ (∀ src id left, Ends s (execPreholdEnd src id left s)) ∧
    (∀ src id, Ends s (execSurgeWindowEnd src id s)) ∧ Ends s (execBoarded s) ∧
    (∀ src id, Ends s (execRatioUpdate src id s)) ∧ Ends s (execRatioStore s) ∧
    (∀ heldMs, Ends s (execDspLocalService heldMs s)) ∧ (∀ heldS, Ends s (execDspRejoined heldS s)) := by
  and_intros
  all_goals
    intros
    refine ends_occurs ?_
    try dsimp only
    (repeat' split) <;> simp +contextual [State.form_parts]

/-- Events of the host ports, the event recorder and the sessions (05, 17). -/
@[simp] theorem hostEvents_end (s : State) :
    (∀ h crc, Ends s (execStatus h crc s)) ∧ (∀ h queue bytes crc tseq, Ends s (execPut h queue bytes crc tseq s)) ∧
    (∀ h queue crc, Ends s (execGet h queue crc s)) ∧
    (∀ h queue count crc, Ends s (execRelease h queue count crc s)) ∧ (∀ h, Ends s (execTransactionCutShort h s)) ∧
    (∀ h, Ends s (execPushRepeat h s)) ∧ (∀ h, Ends s (execCompletionQueued h s)) ∧
    (∀ load, Ends s (execHostOverload load s)) ∧ (∀ load heldMs, Ends s (execHostOverloadEnd load heldMs s)) ∧
    Ends s (execRecordWrite s) ∧ (∀ seq, Ends s (execRepeatWindowClose seq s)) ∧
    (∀ k, Ends s (execStreamDescriptorClose k s)) ∧
    (∀ code sev inst data, Ends s (execEventRaised code sev inst data s)) ∧ (∀ h, Ends s (execSessionExpired h s)) ∧
    (∀ h, Ends s (execRingSlotIdle h s)) := by
  and_intros
  all_goals
    intros
    refine ends_occurs ?_
    try dsimp only
    (repeat' split) <;> simp +contextual [State.form_parts]

/-- Events of trim and capture, which move neither the calendar nor the sub-second count (18). -/
@[simp] theorem clockEvents_end (s : State) :
    (∀ ppm goodS, Ends s (execTrimWindow ppm goodS s)) := by
  intro ppm goodS
  refine ends_occurs ?_
  try dsimp only
  (repeat' split) <;> simp +contextual [State.form_parts]

/-- Events of parameters, tables, variables and forces (06, 08). -/
@[simp] theorem directoryEvents_end (s : State) :
    (∀ tag, Ends s (execParamApply tag s)) ∧ (∀ tag, Ends s (execParamDurable tag s)) ∧
    (∀ tag, Ends s (execCanDisable tag s)) ∧ (∀ tag, Ends s (execTableSwitch tag s)) ∧
    (∀ tag, Ends s (execTableDurable tag s)) := by
  and_intros
  all_goals
    intros
    refine ends_occurs ?_
    try dsimp only
    (repeat' split) <;> simp +contextual

/-- Events of the commit groups (07). -/
@[simp] theorem groupEvents_end (s : State) :
    (∀ g, Ends s (execGrpExpired g s)) ∧ (∀ g, Ends s (execCommitPoint g s)) ∧
    (∀ g, Ends s (execGroupActionApplied g s)) ∧ (∀ g, Ends s (execGroupRecordDurable g s)) ∧
    Ends s (execXdevPrepare s) ∧ (∀ g, Ends s (execPreparedBoundary g s)) ∧ Ends s (execXdevCommit s) ∧
    Ends s (execAbortMessage s) ∧ (∀ g, Ends s (execGrpDecisionLost g s)) ∧ Ends s (execXdevVote s) ∧
    (∀ g, Ends s (execVoteDeadline g s)) ∧ Ends s (execXdevAck s) ∧ (∀ g, Ends s (execCommitRepeat g s)) ∧
    (∀ g, Ends s (execGrpXdevUnconfirmed g s)) := by
  and_intros
  all_goals
    intros
    refine ends_occurs ?_
    try dsimp only
    (repeat' split) <;> simp +contextual

/-- Events of the Geyser engine's cycle (08). -/
@[simp] theorem geyserCycleEvents_end (s : State) :
     
    (∀ us, Ends s (execCycleDeadline us s)) ∧ (∀ tag pauseUs, Ends s (execOnlineChange tag pauseUs s)) := by
  and_intros
  all_goals
    intros
    refine ends_occurs ?_
    try dsimp only
    (repeat' split) <;> simp +contextual

/-- Events of identity, keys and firmware (19). -/
@[simp] theorem securityEvents_end (s : State) :
    (∀ src tseq bytes, Ends s (execRingAuth src tseq bytes s)) ∧ (∀ ring a, Ends s (execChallengeExpired ring a s)) ∧
    (∀ ring a, Ends s (execAuthBusyEnd ring a s)) ∧ Ends s (execMeasurementUpdate s) ∧
    Ends s (execDomainKeyGraceEnd s) ∧ (∀ tag, Ends s (execQuietPoint tag s)) ∧
    (∀ tag, Ends s (execQuietPointTimeout tag s)) ∧ (∀ tag, Ends s (execSecFwSwitched tag s)) ∧
    (∀ ch ok, Ends s (execSecSafSwapped ch ok s)) ∧ Ends s (execSwapGapReached s) := by
  and_intros
  all_goals
    intros
    refine ends_occurs ?_
    try dsimp only
    (repeat' split) <;> simp +contextual [State.form_parts, Memories.Wf.parts]

/-- Events of DORMANT, supply, reset and start (02). -/
@[simp] theorem powerEvents_end (s : State) :
    (∀ wake, Ends s (execStateReq wake s)) ∧ Ends s (execHandoverTimeout s) ∧
    (∀ si fio canSent, Ends s (execDormantEntry si fio canSent s)) ∧
    (∀ src v at_, Ends s (execDormantWake src v at_ s)) ∧ Ends s (execRingWake s) ∧
    (∀ edges, Ends s (execWakeComplete edges s)) ∧ (∀ mV heldUs, Ends s (execVinOv mV heldUs s)) ∧
    (∀ mV heldUs, Ends s (execVinOvClear mV heldUs s)) ∧ (∀ mV heldUs, Ends s (execVinWarn mV heldUs s)) ∧
    (∀ mV heldUs, Ends s (execVinWarnClear mV heldUs s)) ∧ (∀ mV heldUs, Ends s (execVinSag mV heldUs s)) ∧
    (∀ mV heldUs, Ends s (execVinRecover mV heldUs s)) ∧ (∀ tdie heldMs, Ends s (execTempWarn tdie heldMs s)) ∧
    (∀ tdie, Ends s (execTempHighClear tdie s)) ∧ (∀ tdie heldMs, Ends s (execTempTrip tdie heldMs s)) ∧
    (∀ tdie heldMs, Ends s (execTempTripClear tdie heldMs s)) ∧ (∀ mV cellmV, Ends s (execVinAon mV cellmV s)) ∧
    (∀ cellmV mV, Ends s (execVcellRise cellmV mV s)) ∧ (∀ cellmV, Ends s (execVcellFail cellmV s)) ∧
    (∀ mV, Ends s (execCellLow mV s)) ∧ (∀ mV heldUs, Ends s (execVinStop mV heldUs s)) ∧
    (∀ rail heldUs, Ends s (execRailFault rail heldUs s)) ∧ (∀ heldUs, Ends s (execNrstLow heldUs s)) ∧
    (∀ mV heldUs bootsel, Ends s (execVinStart mV heldUs bootsel s)) ∧
    (∀ mV bootsel items moved, Ends s (execNrstRelease mV bootsel items moved s)) ∧
    (∀ verifies selfTest repaired lost cal slots setsDiffer pos cellmV,
      Ends s (execStartComplete verifies selfTest repaired lost cal slots setsDiffer pos cellmV s)) ∧
    (∀ ppm, Ends s (execXtal25Fail ppm s)) ∧ (∀ ppm heldMs, Ends s (execXtal32Fail ppm heldMs s)) ∧
    Ends s (execOperatingTimeStore s) := by
  and_intros
  all_goals
    intros
    refine ends_occurs ?_
    try dsimp only
    (repeat' split) <;> simp +contextual [State.form_parts, Memories.Wf.parts]

/-- Events of the management processor (01). -/
@[simp] theorem lmpEvents_end (s : State) :
    (∀ load, Ends s (execLmpTick load s)) ∧ (∀ tag, Ends s (execDeadlineTimeout tag s)) ∧
    (∀ cause, Ends s (execLmpFault cause s)) ∧ Ends s (execLmpRestart s) ∧ Ends s (execLmpRejoinDispatch s) ∧
    (∀ source path repeated tag slot, Ends s (execPathParity source path repeated tag slot s)) ∧
    (∀ source addr kind bit uncorrectable, Ends s (execScrub source addr kind bit uncorrectable s)) ∧
    (∀ ir, Ends s (execTapInstruction ir s)) := by
  and_intros
  all_goals
    intros
    refine ends_occurs ?_
    try dsimp only
    (repeat' split) <;> simp +contextual [State.form_parts]

/-- Commands to the hoist, Caldera and the doors. -/
@[simp] theorem motionCommands_end (s : State) :
    (∀ tag, Ends s (execMove tag s)) ∧ (∀ tag, Ends s (execStopMotion tag s)) ∧
    (∀ tag, Ends s (execStopMotionAtLanding tag s)) ∧ (∀ tag, Ends s (execLearnRun tag s)) ∧
    (∀ tag, Ends s (execTraceRead tag s)) ∧ (∀ tag, Ends s (execDoorOpen tag s)) ∧
    (∀ tag, Ends s (execDoorClose tag s)) ∧ (∀ tag, Ends s (execDoorNudge tag s)) ∧
    (∀ tag, Ends s (execDoorHold tag s)) ∧ (∀ tag, Ends s (execDoorStop tag s)) ∧
    (∀ tag, Ends s (execDoorReopen tag s)) ∧ (∀ tag, Ends s (execDoorLearn tag s)) := by
  and_intros
  all_goals
    intros
    refine ends_occurs (keeps_hostCmd fun s f => ?_)
    try dsimp only
    (repeat' split) <;> simp +contextual

/-- Commands to the host interface, the recorder and the clock, and the request of DORMANT. -/
@[simp] theorem hostCommands_end (s : State) :
    (∀ tag, Ends s (execHostNop tag s)) ∧ (∀ tag, Ends s (execEvtSubscribe tag s)) ∧
    (∀ tag, Ends s (execEvtRead tag s)) ∧ (∀ tag, Ends s (execSnapshot tag s)) ∧
    (∀ tag, Ends s (execRtcCapture tag s)) ∧ (∀ tag, Ends s (execSessionClose tag s)) ∧
    (∀ tag, Ends s (execHostAbort tag s)) ∧ (∀ tag wake, Ends s (execStateRequest tag wake s)) := by
  and_intros
  all_goals
    intros
    refine ends_occurs (keeps_hostCmd fun s f => ?_)
    try dsimp only
    (repeat' split) <;> simp +contextual [State.form_parts]

/-- Commands on parameters, tables and variables. -/
@[simp] theorem directoryCommands_end (s : State) :
    (∀ tag, Ends s (execParamRead tag s)) ∧ (∀ tag, Ends s (execDevInfo tag s)) ∧
    (∀ tag, Ends s (execParamWrite tag s)) ∧ (∀ tag, Ends s (execDevRestore tag s)) ∧
    (∀ tag, Ends s (execZoneWrite tag s)) ∧ (∀ tag, Ends s (execTableRead tag s)) ∧
    (∀ tag, Ends s (execTableWrite tag s)) ∧ (∀ tag, Ends s (execTableWriteDiscard tag s)) ∧
    (∀ tag, Ends s (execTableActivate tag s)) ∧ (∀ tag, Ends s (execVarRead tag s)) ∧
    (∀ tag, Ends s (execVarWrite tag s)) ∧ (∀ tag, Ends s (execForceSet tag s)) ∧
    (∀ tag, Ends s (execForceClear tag s)) ∧ (∀ tag, Ends s (execForceClearAll tag s)) := by
  and_intros
  all_goals
    intros
    refine ends_occurs (keeps_hostCmd fun s f => ?_)
    try dsimp only
    (repeat' split) <;> simp +contextual [State.form_parts]

/-- Commands on groups and of the Geyser engine. -/
@[simp] theorem groupCommands_end (s : State) :
    (∀ tag, Ends s (execGrpOpen tag s)) ∧ (∀ tag, Ends s (execGrpCommit tag s)) ∧
    (∀ tag, Ends s (execGrpAbort tag s)) ∧ (∀ tag, Ends s (execWarmRestart tag s)) ∧
    (∀ tag, Ends s (execColdRestart tag s)) ∧ (∀ tag, Ends s (execGysStop tag s)) := by
  and_intros
  all_goals
    intros
    refine ends_occurs (keeps_hostCmd fun s f => ?_)
    try dsimp only
    (repeat' split) <;> simp +contextual [State.form_parts]

/-- Commands of safety parameters, identity and firmware. -/
@[simp] theorem securityCommands_end (s : State) :
    (∀ tag, Ends s (execSafWrite tag s)) ∧ (∀ tag, Ends s (execSafWriteDiscard tag s)) ∧
    (∀ tag, Ends s (execSafConfirm tag s)) ∧ (∀ tag, Ends s (execAuthChallenge tag s)) ∧
    (∀ tag, Ends s (execAuthResponse tag s)) ∧ (∀ tag, Ends s (execAttest tag s)) ∧
    (∀ tag, Ends s (execAttestDeviceCert tag s)) ∧ (∀ tag, Ends s (execAttestCaCert tag s)) ∧
    (∀ tag, Ends s (execFwStage tag s)) ∧ (∀ tag, Ends s (execFwStageDiscard tag s)) ∧
    (∀ tag, Ends s (execFwSwitch tag s)) ∧ (∀ tag, Ends s (execFwConfirm tag s)) ∧
    (∀ tag, Ends s (execFwRevert tag s)) := by
  and_intros
  all_goals
    intros
    refine ends_occurs (keeps_hostCmd fun s f => ?_)
    try dsimp only
    (repeat' split) <;> simp +contextual [State.form_parts, Memories.Wf.parts]

/-! ## The commands whose effect takes more than a split of its branches -/

@[simp] theorem execSlotWrite_ends (s : State) (n : Nat) : Ends s (execSlotWrite n s) := by
  refine ends_occurs ?_
  split
  · exact State.Keeps.trans (State.KeepsForm.keeps (State.SameForm.keepsForm (s.modSlotC_sameForm _ _)) (by simp))
      (State.traceDue_keeps _ n)
  · exact State.slotLate_keeps s n

theorem State.keeps_modSlotC (s : State) (n : Nat) (f : CSlot → CSlot) : s.Keeps (s.modSlotC n f) :=
  (s.modSlotC_sameForm n f).keeps (by simp)

theorem State.keeps_forceSample (s : State) (front : Bool) : s.Keeps (s.forceSample front) :=
  (s.forceSample_sameForm front).keeps (by simp)

@[simp] theorem execSlotSample_ends (s : State) (n : Nat) : Ends s (execSlotSample n s) := by
  refine ends_occurs ?_
  split
  extract_lets c sampled learned
  have h1 : s.Keeps learned :=
    ((s.keeps_modSlotC n _).trans ((State.learnUnit_keepsForm _ n _).keeps (by simp))).trans
      ((State.monitor_sameForm _ n).keeps (by simp))
  clear_value learned
  split
  · exact h1.trans (learned.keeps_forceSample true)
  split
  · exact h1.trans (learned.keeps_forceSample false)
  · exact h1

/-- The group's value goes to its members, and the reopening bar of the two force groups to the door. -/
@[simp] theorem execGroupWrite_ends (s : State) (g : Nat) : Ends s (execGroupWrite g s) := by
  refine ends_occurs ?_
  split
  extract_lets d h spread cle written bar
  have h1 : s.Keeps spread := keeps_foldl (fun s n => s.keeps_modSlotC n _) _ s
  have h2 : s.Keeps written := ⟨h1.1, h1.2.1, h1.2.2⟩
  have hbar (s : State) (front : Bool) (n : Nat) : s.Keeps (bar s front n) := (s.modDoor_sameForm front _).keeps (by simp)
  clear_value written
  split
  · exact h2.trans (hbar written true 0)
  split
  · exact h2.trans (hbar written false 1)
  · exact h2

/-- A closed cycle leaves its image behind (08 R175). -/
@[simp] theorem execGysClose_ends (s : State) (us : Nat) : Ends s (execGysClose us s) := by
  refine ends_occurs ?_
  dsimp only
  refine State.Keeps.trans ?_ (State.KeepsForm.keeps (State.SameForm.keepsForm (State.stopAtClose_sameForm _)) (by simp))
  refine ⟨by simp, fun h => by simp [State.form_parts, h], fun h => ?_⟩
  simp [State.form_parts, h.parts, h.journals.concat]

@[simp] theorem execJournalDurable_ends (s : State) : Ends s (execJournalDurable s) := by
  refine ends_occurs ⟨rfl, fun h => by simp [State.form_parts, h], fun h => ?_⟩
  simp [State.form_parts, h.parts, h.journals.makeDurable]

/-- The image of the oldest journal becomes the retained one (08 R178). -/
@[simp] theorem execJournalApplied_ends (s : State) : Ends s (execJournalApplied s) := by
  refine ends_occurs ?_
  split
  · next j js hjs =>
    refine ⟨rfl, fun h => by simp [State.form_parts, h], fun h => ?_⟩
    obtain ⟨hj, hrest⟩ := List.forall_mem_cons.mp (hjs ▸ h.journals : JournalsWf (j :: js))
    exact ⟨h.data, hj, hrest, h.firmware, h.tables⟩
  · exact .refl s

/-- The parameter writes that act as commands of a block. -/
@[simp] theorem commandWrites_end (s : State) (tag : Nat) :
    Ends s (execPredrst tag s) ∧ Ends s (execTphClear tag s) ∧ Ends s (execSecEpochRaised tag s) := by
  and_intros
  all_goals
    refine ends_occurs (keeps_hostCmd fun s f => keeps_commandWrite fun s => ?_)
    simp +contextual [State.form_parts]

@[simp] theorem traceWrites_end (s : State) (tag : Nat) : Ends s (execTraceArm tag s) ∧ Ends s (execTraceDisarm tag s) := by
  and_intros
  all_goals
    refine ends_occurs (keeps_hostCmd fun s f => keeps_traceWrite fun s => ?_)
    simp +contextual

@[simp] theorem secActions_end (s : State) (tag : Nat) :
    Ends s (execInstallOwnerKey tag s) ∧ Ends s (execInstallProgramSigningKey tag s) ∧
    Ends s (execInstallNextDomainKey tag s) ∧ Ends s (execActivateNextDomainKey tag s) ∧
    Ends s (execDebugUnlockToken tag s) ∧ Ends s (execOwnershipResetToken tag s) := by
  and_intros
  all_goals
    refine ends_occurs (keeps_hostCmd fun s f => keeps_action fun s => ?_)
    simp +contextual [State.form_parts]

@[simp] theorem groupStages_end (s : State) (tag : Nat) :
    Ends s (execParameterWrite tag s) ∧ Ends s (execGeyserVariableWrite tag s) ∧
    Ends s (execNonSafetyFieldOutput tag s) ∧ Ends s (execProfileTarget tag s) ∧
    Ends s (execDoorCommand tag s) ∧ Ends s (execCamTableSelection tag s) ∧
    Ends s (execCalderaCoefficientSet tag s) := by
  and_intros <;> exact stageRow_ends s tag _

theorem State.keeps_objectWrite (s : State) (f : Flight) (ok : Option Status) (b j : Nat) (g : CanObj → CanObj) :
    s.Keeps (s.commandWrite f ok fun s => s.modObj b j g) :=
  keeps_commandWrite fun s => (s.modObj_sameForm b j g).keeps (by simp)

@[simp] theorem execCanCancel_ends (s : State) (tag : Nat) : Ends s (execCanCancel tag s) := by
  refine ends_occurs (keeps_hostCmd fun s f => ?_)
  dsimp only
  split
  · split <;> simp +contextual
  · exact s.keeps_objectWrite f _ _ _ _

/-- A learn run writes its landings one by one, then the results that they give. -/
@[simp] theorem execLearnDone_ends (s : State) : Ends s (execLearnDone s) := by
  refine ends_occurs ?_
  extract_lets +onlyGivenNames l
  split
  · simp +contextual [State.form_parts]
  split
  · simp +contextual [State.form_parts]
  extract_lets +onlyGivenNames chatter counts travel res f0 shift psb learned measured zeroed bounded noted n changed stored placed
  have h1 : s.Keeps learned := keeps_foldl (fun s k => (s.learnEntry_keepsForm _ _ k).keeps (by simp)) _ s
  clear_value learned travel counts
  have h2 : learned.Keeps measured := by simp +contextual [measured]
  have h3 : measured.Keeps zeroed := by
    unfold zeroed
    split <;> simp +contextual
  clear_value zeroed
  have h4 : zeroed.Keeps changed := by simp +contextual [changed, noted, bounded]
  clear_value changed
  exact (((h1.trans h2).trans h3).trans h4).trans (by simp +contextual [placed, stored, State.form_parts])

theorem State.keeps_latchAt (s : State) (n minor : Nat) (src : Int) :
    s.Keeps (if beginsAt n minor then s.latchSlot n src else s) := by
  split
  · exact (s.latchSlot_sameForm n src).keeps (by simp)
  · exact .refl s

@[simp] theorem execPeriodStart_ends (s : State) (minor : Nat) (shunts : List Int) (src : Int) :
    Ends s (execPeriodStart minor shunts src s) := by
  refine ends_occurs ?_
  extract_lets cle shunted latched
  have h1 : shunted.Keeps latched := keeps_foldl (fun s n => s.keeps_latchAt n minor src) _ shunted
  have h2 : s.Keeps latched := ⟨h1.1, h1.2.1, h1.2.2⟩
  clear_value latched
  split
  · exact h2.trans latched.latchSeen_keeps
  · exact h2

theorem State.keeps_modD (s : State) (n : Nat) (f : Door → Door) : s.Keeps (s.modD n f) :=
  (s.modD_sameForm n f).keeps (by simp)

theorem State.keeps_doorDrift (s : State) (n : Nat) (dev : Int) : s.Keeps (s.doorDrift n dev) :=
  (s.doorDrift_sameForm n dev).keeps (by simp)

theorem State.keeps_doorPlaced (s : State) (n which : Nat) (xe to_ : Int) :
    s.Keeps ((s.doorShift n xe to_).doorReferenced n which) :=
  ((s.doorShift_sameForm n xe to_).trans (State.doorReferenced_sameForm _ n which)).keeps (by simp)

/-- An edge of the closed switch sets the reference, one of the open switch too where there is none yet (11). -/
@[simp] theorem execDoorSwitchEdge_ends (s : State) (n : Nat) : Ends s (execDoorSwitchEdge n s) := by
  refine ends_occurs ?_
  split
  · exact .refl s
  extract_lets taken d xe tol active drifted shifted placed noted at_
  have h1 : s.Keeps taken := s.keeps_modD n _
  clear_value taken
  split
  · exact h1
  split
  · have h2 : taken.Keeps drifted := by
      unfold drifted
      split
      · exact taken.keeps_doorDrift n xe
      · exact .refl taken
    have h3 : s.Keeps placed := (h1.trans h2).trans (drifted.keeps_doorPlaced n 1 xe 0)
    split
    · exact h3.trans ((placed.doorLearnOpen_sameForm n).keeps (by simp))
    · exact h3
  split
  · have h2 : s.Keeps noted := by
      unfold noted
      split
      · exact h1.trans (taken.keeps_modD n _)
      · exact h1
    clear_value noted
    split
    · exact h2
    split
    · exact h2.trans (noted.keeps_doorPlaced n 2 xe at_)
    split
    · exact h2.trans (noted.keeps_doorDrift n _)
    · exact h2
  · exact h1

@[simp] theorem execFioTick_ends (s : State) (raw nodes lim : Nat) (mA : List Nat) :
    Ends s (execFioTick raw nodes lim mA s) := by
  refine ends_occurs ?_
  generalize List.range 48 = channels
  simp +contextual [State.form_parts]

/-- A cycle begins: the restart, the count, the commit point, the copy of the inputs and the first instruction, one after another. -/
@[simp] theorem execGysInputPhase_ends (s : State) (dtUs : Nat) : Ends s (execGysInputPhase dtUs s) := by
  refine ends_occurs ?_
  extract_lets dt last restarted pwr gys counted atPoint copied begun
  have h1 : s.Keeps restarted := by simp +contextual [restarted]
  have h2 : restarted.Keeps counted := by simp +contextual [counted, pwr, gys, State.form_parts]
  have h3 : counted.Keeps atPoint := by simp +contextual [atPoint]
  have h4 : atPoint.Keeps copied := by
    unfold copied
    split <;> simp +contextual
  have h5 : copied.Keeps begun := by
    unfold begun
    split <;> simp +contextual
  clear_value begun
  exact ((((h1.trans h2).trans h3).trans h4).trans h5).trans ⟨rfl, id, id⟩

/-- The calendar's own rows (18). -/
@[simp] theorem calendarRows_end (s : State) : (∀ tag, Ends s (execRtcWrite tag s)) ∧ Ends s (execRtcSecond s) ∧
    ∀ us, Ends s (execAonHoldupExpired us s) := by
  and_intros
  · intro tag
    refine ends_occurs (keeps_hostCmd fun s f => ?_)
    dsimp only
    (repeat' split) <;> simp +contextual
  · refine ends_occurs ?_
    dsimp only
    split <;> simp +contextual [State.form_parts]
  · exact fun us => ends_occurs (by simp +contextual)

/-! ## The instructions of the Geyser engine (08 R162 to R170) -/

theorem State.gysWrite_pending {s t : State} {a : Nat} {bs : List Byte} (h : s.gysWrite a bs = .ok t) : t.pending = s.pending := by
  obtain ⟨m, d, rfl⟩ := State.gysWrite_ok h
  rfl

theorem State.gysWrite_keeps {s t : State} {a : Nat} {bs : List Byte} (h : s.gysWrite a bs = .ok t) : s.Keeps t :=
  (State.gysWrite_keepsForm h).keeps (State.gysWrite_pending h)

theorem State.gysStore_keeps {s t : State} {a : Nat} {bs : List Byte} (h : s.gysStore a bs = .ok t) : s.Keeps t := by
  unfold State.gysStore at h
  split at h
  · exact State.gysWrite_keeps h
  · cases h

theorem State.setArith_keeps {s t : State} {a : Arith} (h : s.setArith a = .ok t) : s.Keeps t := by
  unfold State.setArith at h
  split at h
  · cases h
    exact .refl s
  · exact State.gysWrite_keeps h

theorem State.gysCopy_keeps {s t : State} (h : s.gysCopy = .ok t) : s.Keeps t := by
  unfold State.gysCopy at h
  dsimp only at h
  split at h
  · cases h
  split at h
  · cases h
  split at h
  · cases h
  · exact State.gysWrite_keeps h

/-- The registers of the engine hold no counts and no memory. -/
theorem State.keeps_registers (s : State) (ba : Bool) (wa : Word) (ix pc : Nat) (bstack : List Bool) (rstack : List Nat) :
    s.Keeps { s with gys.ba := ba, gys.wa := wa, gys.ix := ix, gys.pc := pc, gys.bstack := bstack, gys.rstack := rstack } :=
  ⟨rfl, fun h => h, fun h => h⟩

/-- A fault keeps the forms, so an instruction keeps them when its effect does. -/
theorem keeps_gysRun {s : State} {k : State → GRes State} (h : ∀ t, k s = .ok t → s.Keeps t) : s.Keeps (s.gysRun k) := by
  unfold State.gysRun
  split
  · simp +contextual
  · cases hk : k s with
    | error c => simp +contextual
    | ok t => exact h t hk

theorem gysInstr_ends {s : State} {op mode operand : Nat} {k : State → GRes State} (h : ∀ t, k s = .ok t → s.Keeps t) :
    Ends s (gysInstr op mode operand k s) :=
  ends_occurs (keeps_gysRun h)

theorem plainInstr_ends {s : State} {op mode operand : Nat} {k : State → GRes State} (h : ∀ t, k s = .ok t → s.Keeps t) :
    Ends s (plainInstr op mode operand k s) := by
  refine gysInstr_ends fun t ht => ?_
  split at ht
  · cases ht
  · exact h t ht

theorem boolInstr_ends (s : State) (op mode operand : Nat) (f : Bool → Bool → Bool) : Ends s (boolInstr op mode operand f s) := by
  refine gysInstr_ends fun t h => ?_
  split at h <;> cases h
  exact s.keeps_registers _ _ _ _ _ _

theorem bitInstr_ends (s : State) (op mode operand : Nat) (f : Bool → Option Bool) : Ends s (bitInstr op mode operand f s) := by
  refine gysInstr_ends fun t h => ?_
  (repeat' split at h) <;> cases h
  · exact s.keeps_registers _ _ _ _ _ _
  · next t hs => exact (State.gysStore_keeps hs).trans (t.keeps_registers _ _ _ _ _ _)

theorem wordInstr_ends (s : State) (op mode operand : Nat) (f : Word → Word → Word × Arith) :
    Ends s (wordInstr op mode operand f s) := by
  refine gysInstr_ends fun t h => ?_
  (repeat' split at h) <;> cases h
  next t hs => exact (State.setArith_keeps hs).trans (t.keeps_registers _ _ _ _ _ _)

theorem cmpInstr_ends (s : State) (op mode operand : Nat) (f : Word → Word → Bool × Arith) :
    Ends s (cmpInstr op mode operand f s) := by
  refine gysInstr_ends fun t h => ?_
  (repeat' split at h) <;> cases h
  next t hs => exact (State.setArith_keeps hs).trans (t.keeps_registers _ _ _ _ _ _)

theorem floatInstr_ends (s : State) (op mode operand : Nat) (f : Word → Word → Word × Arith) :
    Ends s (floatInstr op mode operand f s) := by
  unfold floatInstr
  split
  · exact gysInstr_ends fun t h => by cases h
  · exact wordInstr_ends s op mode operand f

theorem jumpInstr_ends (s : State) (op mode operand : Nat) (c : Bool → Bool) : Ends s (jumpInstr op mode operand c s) := by
  refine gysInstr_ends fun t h => ?_
  (repeat' split at h) <;> cases h <;> exact s.keeps_registers _ _ _ _ _ _

@[simp] theorem boolRows_end (s : State) (mode operand : Nat) :
    Ends s (execLdb mode operand s) ∧ Ends s (execLdbn mode operand s) ∧ Ends s (execAndb mode operand s) ∧
    Ends s (execAndbn mode operand s) ∧ Ends s (execOrb mode operand s) ∧ Ends s (execOrbn mode operand s) ∧
    Ends s (execXorb mode operand s) := by
  and_intros <;> exact boolInstr_ends s _ mode operand _

@[simp] theorem bitRows_end (s : State) (mode operand : Nat) :
    Ends s (execStb mode operand s) ∧ Ends s (execStbn mode operand s) ∧ Ends s (execSetb mode operand s) ∧
    Ends s (execRstb mode operand s) := by
  and_intros <;> exact bitInstr_ends s _ mode operand _

@[simp] theorem wordRows_end (s : State) (mode operand : Nat) :
    Ends s (execLd mode operand s) ∧ Ends s (execAdd mode operand s) ∧ Ends s (execSub mode operand s) ∧
    Ends s (execMul mode operand s) ∧ Ends s (execDiv mode operand s) ∧ Ends s (execMod mode operand s) ∧
    Ends s (execAndW mode operand s) ∧ Ends s (execOrW mode operand s) ∧ Ends s (execXorW mode operand s) ∧
    Ends s (execShl mode operand s) ∧ Ends s (execShr mode operand s) ∧ Ends s (execSar mode operand s) ∧
    Ends s (execMinW mode operand s) ∧ Ends s (execMaxW mode operand s) := by
  and_intros <;> exact wordInstr_ends s _ mode operand _

@[simp] theorem floatRows_end (s : State) (mode operand : Nat) :
    Ends s (execFadd mode operand s) ∧ Ends s (execFsub mode operand s) ∧ Ends s (execFmul mode operand s) ∧
    Ends s (execFdiv mode operand s) := by
  and_intros <;> exact floatInstr_ends s _ mode operand _

@[simp] theorem cmpRows_end (s : State) (mode operand : Nat) :
    Ends s (execCmpeq mode operand s) ∧ Ends s (execCmplt mode operand s) ∧ Ends s (execCmpltu mode operand s) := by
  and_intros <;> exact cmpInstr_ends s _ mode operand _

@[simp] theorem jumpRows_end (s : State) (mode operand : Nat) :
    Ends s (execJmp mode operand s) ∧ Ends s (execJmpc mode operand s) ∧ Ends s (execJmpcn mode operand s) := by
  and_intros <;> exact jumpInstr_ends s _ mode operand _

@[simp] theorem plainRows_end (s : State) (mode operand : Nat) :
    Ends s (execGysNop mode operand s) ∧ Ends s (execPshb mode operand s) ∧ Ends s (execAnds mode operand s) ∧
    Ends s (execOrs mode operand s) ∧ Ends s (execNotW mode operand s) ∧ Ends s (execRet mode operand s) := by
  and_intros
  all_goals
    refine plainInstr_ends fun t h => ?_
    (repeat' split at h) <;> cases h
    exact s.keeps_registers _ _ _ _ _ _

@[simp] theorem execLdx_ends (s : State) (mode operand : Nat) : Ends s (execLdx mode operand s) := by
  refine gysInstr_ends fun t h => ?_
  split at h <;> cases h
  exact s.keeps_registers _ _ _ _ _ _

@[simp] theorem execCall_ends (s : State) (mode operand : Nat) : Ends s (execCall mode operand s) := by
  refine gysInstr_ends fun t h => ?_
  (repeat' split at h) <;> cases h
  exact s.keeps_registers _ _ _ _ _ _

@[simp] theorem execEdge_ends (s : State) (mode operand : Nat) : Ends s (execEdge mode operand s) := by
  refine gysInstr_ends fun t h => ?_
  (repeat' split at h) <;> cases h
  next t hs => exact (State.gysStore_keeps hs).trans (t.keeps_registers _ _ _ _ _ _)

@[simp] theorem execSt_ends (s : State) (mode operand : Nat) : Ends s (execSt mode operand s) := by
  refine gysInstr_ends fun t h => ?_
  (repeat' split at h) <;> cases h
  next t hs => exact (State.gysStore_keeps hs).trans (t.keeps_registers _ _ _ _ _ _)

@[simp] theorem execFcmplt_ends (s : State) (mode operand : Nat) : Ends s (execFcmplt mode operand s) := by
  unfold execFcmplt
  split
  · exact gysInstr_ends fun t h => by cases h
  · exact cmpInstr_ends s _ mode operand _

@[simp] theorem execCvt_ends (s : State) (mode operand : Nat) : Ends s (execCvt mode operand s) := by
  refine gysInstr_ends fun t h => ?_
  dsimp only at h
  (repeat' split at h) <;> cases h
  all_goals next t ht _ => exact (State.setArith_keeps ht).trans (t.keeps_registers _ _ _ _ _ _)

@[simp] theorem execSysCopy_ends (s : State) (mode operand : Nat) : Ends s (execSysCopy mode operand s) := by
  unfold execSysCopy
  split
  · exact ⟨s, rfl, .refl s⟩
  · refine gysInstr_ends fun t h => ?_
    (repeat' split at h) <;> cases h
    next t hs => exact (State.gysCopy_keeps hs).trans (t.keeps_registers _ _ _ _ _ _)

@[simp] theorem execSysFault_ends (s : State) (mode operand : Nat) : Ends s (execSysFault mode operand s) :=
  ends_occurs (keeps_gysRun fun t h => by cases h)

@[simp] theorem execSysEnd_ends (s : State) (mode operand : Nat) : Ends s (execSysEnd mode operand s) := by
  refine ends_occurs (keeps_gysRun fun t h => ?_)
  obtain rfl : s.outputPhase = t := Except.ok.inj h
  exact s.outputPhase_keepsForm.keeps (by simp)

/-! ## One step -/

/-- Every command completes, and keeps the queue and both forms: the laws of the families, one by one. -/
theorem exec_ends (i : Instr) (s : State) : Ends s (exec i s) := by
  cases i
  all_goals simp [exec]

end Sys2Proof.Machine
end

section
/-!
PROOFS. One step: the forms, the calendar, the queue and the reset state.
-/
namespace Sys2Proof.Machine

/-! ## One step -/

theorem Ends.keeps {s t : State} {o : Out} (h : Ends s o) (ht : o = .next t) : s.Keeps t := by
  obtain ⟨u, hu, hk⟩ := h
  obtain rfl : u = t := Host.Outcome.next.inj (hu.symm.trans ht)
  exact hk

/-- A step keeps the counts of the manual and the canonical form of the memories. -/
theorem step_keepsForms {s t : State} (h : step s = .next t) :
    (s.counts = Counts.manual → t.counts = Counts.manual) ∧ (s.memories.Wf → t.memories.Wf) := by
  unfold step at h
  split at h
  · obtain rfl := Host.Outcome.next.inj h
    exact ⟨fun hs => s.idle_sameForm.1.trans hs, fun hs => s.idle_sameForm.2 ▸ hs⟩
  · next c cs _ => exact ((exec_ends c { s with pending := cs }).keeps h).2

/-- Settles O56: every operation keeps the lengths of the lists, so every command does. -/
theorem everyStepKeepsTheShape : Obligations.EveryStepKeepsTheShape :=
  fun s t hs h => t.shape_iff.mpr ((step_keepsForms h).1 (s.shape_iff.mp hs))

/-- Settles O55: every operation keeps the canonical form, so every command does. -/
theorem everyStepKeepsTheMemories : Obligations.EveryStepKeepsTheMemories :=
  fun s t hs h => t.memoriesWf_iff.mpr ((step_keepsForms h).2 (s.memoriesWf_iff.mp hs))

/-- Settles O51: `exec` is total, and no operation touches the queue. -/
theorem commandsCompleteAndLeaveTheQueue : Obligations.CommandsCompleteAndLeaveTheQueue := by
  intro i s
  obtain ⟨t, ht, hp, -⟩ := exec_ends i s
  exact ⟨t, ht, hp⟩

/-- Settles O1: `step` by its two cases. -/
theorem stepRunsTheFrontCommand : Obligations.StepRunsTheFrontCommand := by
  refine ⟨fun c cs s => rfl, fun s h => ?_⟩
  unfold step
  rw [h]

/-- At reset no memory lists a byte and no table is staged. -/
theorem reset_memoriesWf : State.reset.memories.Wf where
  data := rfl
  retained := rfl
  journals := fun _ hj => nomatch hj
  firmware := by unfold FirmwareWf; decide +kernel
  tables := by
    have h : ∀ x ∈ State.reset.dir.tables,
        memWf (tableByte x.id) x.body = true ∧ memWf (tableByte x.id) x.durable = true ∧ x.claim = none := by decide +kernel
    intro x hx
    obtain ⟨hb, hd, hc⟩ := h x hx
    exact ⟨hb, hd, fun c h => by cases hc.symm.trans h⟩

/-- Settles O52: the three forms of the reset state, and its fields. -/
theorem resetIsLegal : Obligations.ResetIsLegal :=
  ⟨by constructor <;> decide +kernel, ⟨by decide, by decide⟩, State.reset.memoriesWf_iff.mpr reset_memoriesWf, rfl, rfl, fun k => by simp [State.soClosed, State.reset],
    by decide, rfl⟩

/-! ## The calendar stays possible -/

theorem one_le_mdays (y m : Nat) : 1 ≤ mdays y m := by
  unfold mdays
  (repeat' split) <;> omega

theorem Calendar.nextDay_valid {c : Calendar} (h : c.valid = true) : c.nextDay.1.valid = true := by
  obtain ⟨hy, hm, hd, -⟩ := c.valid_iff.mp h
  unfold Calendar.nextDay
  split
  · exact (Calendar.valid_iff _).mpr ⟨hy, hm, ⟨by simp, by assumption⟩, by simp, by simp, by simp⟩
  split
  · exact (Calendar.valid_iff _).mpr ⟨hy, ⟨by simp, by assumption⟩, ⟨by simp, one_le_mdays _ _⟩, by simp, by simp, by simp⟩
  split
  · exact (Calendar.valid_iff _).mpr ⟨⟨by dsimp only; omega, by assumption⟩, by simp, ⟨by simp, one_le_mdays _ _⟩, by simp, by simp, by simp⟩
  · decide

theorem Calendar.next_valid {c : Calendar} (h : c.valid = true) : c.next.1.valid = true := by
  by_cases hend : c.DayEnds
  · exact Calendar.next_of_dayEnds hend ▸ Calendar.nextDay_valid h
  · obtain ⟨hdy, hdm, hdd⟩ := Calendar.next_date_of_not_dayEnds h hend
    obtain ⟨hy, hm, hd, hh, hmi, hs⟩ := c.valid_iff.mp h
    refine (Calendar.valid_iff _).mpr ⟨hdy ▸ hy, hdm ▸ hm, by rw [hdy, hdm, hdd]; exact hd, ?_⟩
    unfold Calendar.next
    dsimp only
    (repeat' split) <;> dsimp only <;> omega

/-- Settles O54: a step counts one second of the calendar, writes a possible date, or leaves it; a lost domain begins at its first day. -/
theorem everyStepKeepsTheCalendar : Obligations.EveryStepKeepsTheCalendar := by
  rintro s t ⟨hv, hs⟩ h
  cases step_clockStep h with
  | kept hk => exact ⟨hk.1 ▸ hv, hk.2 ▸ hs⟩
  | cycles hc hsub => exact ⟨hc ▸ hv, Nat.lt_succ_of_le hsub⟩
  | second hc hsub => exact ⟨hc ▸ Calendar.next_valid hv, Nat.lt_succ_of_le hsub⟩
  | written hc hsub => exact ⟨hc, Nat.lt_succ_of_le hsub⟩
  | lost hc hsub => exact ⟨hc ▸ rfl, hsub ▸ by decide⟩

end Sys2Proof.Machine

namespace Sys2Proof.Machine

/-! ## Sparse memory: blocks of bytes and equal contents -/

/-- A block that is written elsewhere leaves a byte as it is. -/
theorem memRead_memWriteN_outside {d : Nat → Byte} {m : Mem} {a b : Nat} {bs : List Byte} (h : memWf d m = true)
    (hb : b < a ∨ a + bs.length ≤ b) : memRead d (memWriteN d m a bs) b = memRead d m b := by
  induction bs generalizing m a with
  | nil => rfl
  | cons x xs ih =>
    rw [List.length_cons] at hb
    rw [memWriteN, ih (memWf_memWrite a x h) (by omega), memRead_memWrite a b x h, if_neg (by omega)]

/-- A block reads what was written to it. -/
theorem memReadN_memWriteN {d : Nat → Byte} {m : Mem} (a : Nat) (bs : List Byte) (h : memWf d m = true) :
    memReadN d (memWriteN d m a bs) a bs.length = bs := by
  induction bs generalizing m a with
  | nil => rfl
  | cons x xs ih =>
    have hw := memWf_memWrite a x h
    rw [List.length_cons, memReadN, memWriteN, ih (a + 1) hw, memRead_memWriteN_outside hw (by omega), memRead_memWrite a a x h,
      if_pos rfl]

/-- Below its first entry a canonical memory reads as if nothing was listed. -/
theorem memRead_lt_head {d : Nat → Byte} {m : Mem} {k a : Nat} {v : Byte} (h : memWf d ((k, v) :: m) = true) (ha : a < k) :
    memRead d ((k, v) :: m) a = d a := by
  obtain ⟨-, hab, -⟩ := (memWf_cons d k v m).mp h
  exact memRead_above (k := a) (memAbove_cons.mpr ⟨ha, memAbove_mono hab (Nat.le_of_lt ha)⟩) (Nat.le_refl a)

theorem memRead_head (d : Nat → Byte) (k : Nat) (v : Byte) (m : Mem) : memRead d ((k, v) :: m) k = v := by simp [memRead]

/-- Two canonical memories of the same contents begin at the same address. -/
theorem not_head_lt_of_memRead_eq {d : Nat → Byte} {m n : Mem} {k l : Nat} {v w : Byte} (hm : memWf d ((k, v) :: m) = true)
    (hn : memWf d ((l, w) :: n) = true) (h : ∀ a, memRead d ((k, v) :: m) a = memRead d ((l, w) :: n) a) : ¬k < l := by
  intro hkl
  have hk := h k
  rw [memRead_head, memRead_lt_head hn hkl] at hk
  exact ((memWf_cons d k v m).mp hm).1 hk

/-- Canonical memories of the same contents are the same list. -/
theorem mem_ext {d : Nat → Byte} {m n : Mem} (hm : memWf d m = true) (hn : memWf d n = true)
    (h : ∀ a, memRead d m a = memRead d n a) : m = n := by
  induction m generalizing n with
  | nil =>
    cases n with
    | nil => rfl
    | cons c n =>
      obtain ⟨l, w⟩ := c
      exact absurd ((memRead_head d l w n).symm.trans (h l).symm) ((memWf_cons d l w n).mp hn).1
  | cons c m ih =>
    obtain ⟨k, v⟩ := c
    have hmc := (memWf_cons d k v m).mp hm
    cases n with
    | nil => exact absurd ((memRead_head d k v m).symm.trans (h k)) hmc.1
    | cons c' n =>
      obtain ⟨l, w⟩ := c'
      have hnc := (memWf_cons d l w n).mp hn
      have hkl : k = l := Nat.le_antisymm (Nat.not_lt.mp (not_head_lt_of_memRead_eq hn hm fun a => (h a).symm))
        (Nat.not_lt.mp (not_head_lt_of_memRead_eq hm hn h))
      subst hkl
      have hvw : v = w := by simpa [memRead_head] using h k
      subst hvw
      rw [ih hmc.2.2 hnc.2.2 fun a => ?_]
      rcases Nat.lt_or_ge k a with ha | ha
      · have hka := h a
        rwa [memRead, memRead, if_neg (Nat.ne_of_lt ha), if_neg (Nat.ne_of_lt ha)] at hka
      · rw [memRead_above hmc.2.1 ha, memRead_above hnc.2.1 ha]

/-- Settles O53: the laws of the sparse memory, by induction on the bytes and on the lists. -/
theorem memoryReadsWhatWasWritten : Obligations.MemoryReadsWhatWasWritten :=
  ⟨fun _ _ a b v h => ⟨memWf_memWrite a v h, memRead_memWrite a b v h⟩,
    fun _ _ a bs h => ⟨memWf_memWriteN a bs h, memReadN_memWriteN a bs h, fun _ hb => memRead_memWriteN_outside h hb⟩,
    fun _ _ _ hm hn h => mem_ext hm hn h⟩

end Sys2Proof.Machine
end

section
/-!
PROOFS. The Geyser engine's data space and its boolean instructions (08 R163 to R167, R179).
-/
namespace Sys2Proof.Machine

/-! ## Bytes, numbers and blocks of the data space -/

@[simp] theorem length_toLe (n v : Nat) : (toLe n v).length = n := by
  induction n generalizing v with
  | zero => rfl
  | succ n ih => simp [toLe, ih]

/-- The bytes of a number read it back, modulo their room. -/
theorem leNat_toLe_mod (n v : Nat) : leNat (toLe n v) = v % 2 ^ (8 * n) := by
  induction n generalizing v with
  | zero => simp [toLe, leNat, Nat.mod_one]
  | succ n ih =>
    have hpow : (2 : Nat) ^ (8 * (n + 1)) = 256 * 2 ^ (8 * n) := by rw [Nat.mul_succ, Nat.pow_add, Nat.mul_comm]
    rw [toLe, leNat, ih, hpow, Nat.mod_mul, BitVec.toNat_ofNat]

theorem memRead_memWriteN_inside {d : Nat → Byte} {m : Mem} {a k : Nat} {bs : List Byte} (h : memWf d m = true)
    (hk : k < bs.length) : memRead d (memWriteN d m a bs) (a + k) = bs[k] := by
  induction bs generalizing m a k with
  | nil => cases hk
  | cons x xs ih =>
    have hw := memWf_memWrite a x h
    rw [memWriteN]
    cases k with
    | zero => exact (memRead_memWriteN_outside hw (.inl (Nat.lt_succ_self a))).trans ((memRead_memWrite a a x h).trans (if_pos rfl))
    | succ k =>
      rw [List.length_cons] at hk
      rw [show a + (k + 1) = a + 1 + k by omega, ih hw (by omega)]
      rfl

@[simp] theorem State.length_gysBytes (s : State) (a n : Nat) : (s.gysBytes a n).length = n := by
  induction n generalizing a with
  | zero => rfl
  | succ n ih => simp [State.gysBytes, ih]

theorem State.getElem_gysBytes (s : State) (a n k : Nat) (hk : k < (s.gysBytes a n).length) :
    (s.gysBytes a n)[k] = s.gysSeen (a + k) := by
  induction n generalizing a k with
  | zero => cases hk
  | succ n ih =>
    cases k with
    | zero => rfl
    | succ k =>
      simp only [State.gysBytes, List.getElem_cons_succ]
      rw [ih]
      congr 1
      omega

/-! ## A write to the data space -/

/-- Bytes within one line change that line or none. -/
theorem State.changedLines_sub (s : State) {L : Nat} (a : Nat) (bs : List Byte) (h : ∀ i < bs.length, (a + i) / 64 = L) :
    s.changedLines a bs = [] ∨ s.changedLines a bs = [L] := by
  induction bs generalizing a with
  | nil => exact .inl rfl
  | cons b bs ih =>
    have hrest := ih (a + 1) fun i hi => by
      rw [show a + 1 + i = a + (i + 1) by omega]
      exact h (i + 1) (by simpa using hi)
    have ha : a / 64 = L := h 0 (by simp)
    unfold State.changedLines
    rcases hrest with hr | hr <;> rw [hr] <;> by_cases hb : s.gysByte a = b <;> simp [hb, ha]

/-- A write within one line takes place while a line is free. -/
theorem State.gysWrite_of_line (s : State) {L : Nat} (a : Nat) (bs : List Byte) (h : ∀ i < bs.length, (a + i) / 64 = L)
    (hd : s.gys.dirty.length < 1024) : ∃ d, s.gysWrite a bs =
      .ok { s with gys.mem := memWriteN zeroByte s.gys.mem a bs, gys.dirty := d } := by
  have hlen : ((s.changedLines a bs).filter fun l => !(s.gys.dirty.contains l)).length ≤ 1 := by
    refine Nat.le_trans (List.length_filter_le _ _) ?_
    rcases s.changedLines_sub a bs h with hr | hr <;> simp [hr]
  refine ⟨s.gys.dirty ++ (s.changedLines a bs).filter fun l => !(s.gys.dirty.contains l), ?_⟩
  unfold State.gysWrite
  rw [if_neg (by omega)]

/-- The same for a program store, into writable bytes. -/
theorem State.gysStore_of_line (s : State) {L : Nat} (a : Nat) (bs : List Byte) (h : ∀ i < bs.length, (a + i) / 64 = L)
    (hd : s.gys.dirty.length < 1024) (hw : gysWritable a = true) (hw' : gysWritable (a + bs.length - 1) = true) :
    ∃ d, s.gysStore a bs = .ok { s with gys.mem := memWriteN zeroByte s.gys.mem a bs, gys.dirty := d } := by
  rw [State.gysStore, if_pos (.inr ⟨hw, hw'⟩)]
  exact s.gysWrite_of_line a bs h hd

/-- One bit stored: its byte with the bit changed, and no other byte. -/
theorem State.storeBit_of_writable {s : State} {a : Nat} (b : Bool) (hw : gysWritable (a / 8) = true)
    (hd : s.gys.dirty.length < 1024) : ∃ d, s.storeBit a b =
      .ok { s with gys.mem := memWriteN zeroByte s.gys.mem (a / 8) [BitVec.ofNat 8 (setBit (s.gysByte (a / 8)).toNat (a % 8) b)],
                   gys.dirty := d } :=
  s.gysStore_of_line (L := a / 8 / 64) (a / 8) _ (fun i hi => by simp at hi; simp [hi]) hd hw hw

/-! ## An executed instruction by its effect -/

theorem gysInstr_of_ok {s t : State} {op m x : Nat} {k : State → GRes State} (h : s.Executes op m x) (hk : k s = .ok t) :
    gysInstr op m x k s = .next t := by
  obtain ⟨hat, hpc⟩ := h
  rw [gysInstr, occurs_pos hat, State.gysRun, if_neg (by omega), hk]

theorem boolInstr_of_ok {s : State} {op m x : Nat} {f : Bool → Bool → Bool} {b : Bool} (h : s.Executes op m x)
    (hb : s.boolOp m x = .ok b) : boolInstr op m x f s = .next { s with gys.ba := f s.gys.ba b, gys.pc := s.pcNext } :=
  gysInstr_of_ok h (by rw [hb]; rfl)

theorem State.setArith_none (s : State) : s.setArith {} = .ok s := rfl

theorem State.setArith_pc {s t : State} {a : Arith} (h : s.setArith a = .ok t) : t.gys.pc = s.gys.pc := by
  unfold State.setArith at h
  split at h
  · cases h
    rfl
  · obtain ⟨m, d, rfl⟩ := State.gysWrite_ok h
    rfl

theorem wordInstr_of_ok {s t : State} {op m x : Nat} {f : Word → Word → Word × Arith} {v : Word} (h : s.Executes op m x)
    (hv : s.wordOp m x = .ok v) (ht : s.setArith (f s.gys.wa v).2 = .ok t) :
    wordInstr op m x f s = .next { t with gys.wa := (f s.gys.wa v).1, gys.pc := s.pcNext } :=
  gysInstr_of_ok h (by rw [hv]; dsimp only; rw [ht, State.pcNext, ← State.setArith_pc ht]; rfl)

theorem cmpInstr_of_ok {s t : State} {op m x : Nat} {f : Word → Word → Bool × Arith} {v : Word} (h : s.Executes op m x)
    (hv : s.wordOp m x = .ok v) (ht : s.setArith (f s.gys.wa v).2 = .ok t) :
    cmpInstr op m x f s = .next { t with gys.ba := (f s.gys.wa v).1, gys.pc := s.pcNext } :=
  gysInstr_of_ok h (by rw [hv]; dsimp only; rw [ht, State.pcNext, ← State.setArith_pc ht]; rfl)

theorem floatInstr_of_ok {s t : State} {op m x : Nat} {f : Word → Word → Word × Arith} {v : Word} (h : s.Executes op m x)
    (hm : m ≠ 0) (hv : s.wordOp m x = .ok v) (ht : s.setArith (f s.gys.wa v).2 = .ok t) :
    floatInstr op m x f s = .next { t with gys.wa := (f s.gys.wa v).1, gys.pc := s.pcNext } := by
  rw [floatInstr, if_neg hm]
  exact wordInstr_of_ok h hv ht

theorem bitInstr_of_none {s : State} {op m x a : Nat} {f : Bool → Option Bool} (h : s.Executes op m x) (hm : m ≠ 0)
    (ha : s.bitAddr m x = .ok a) (hf : f s.gys.ba = none) : bitInstr op m x f s = .next { s with gys.pc := s.pcNext } :=
  gysInstr_of_ok h (by rw [if_neg hm, ha]; dsimp only; rw [hf]; rfl)

/-- What the store of a bit of BA leaves: `ba` in BA, the next instruction, and the byte with that bit. -/
def State.BitStored (s t : State) (a : Nat) (bit ba : Bool) : Prop :=
  t = { s with gys.mem := t.gys.mem, gys.dirty := t.gys.dirty, gys.ba := ba, gys.pc := s.pcNext } ∧
    t.gysByte (a / 8) = BitVec.ofNat 8 (setBit (s.gysByte (a / 8)).toNat (a % 8) bit) ∧
    ∀ k, k ≠ a / 8 → t.gysByte k = s.gysByte k

theorem State.bitStored_mk {s : State} (hwf : memWf zeroByte s.gys.mem = true) (a : Nat) (bit ba : Bool) (d : List Nat) :
    s.BitStored { s with gys.mem := memWriteN zeroByte s.gys.mem (a / 8)
                                      [BitVec.ofNat 8 (setBit (s.gysByte (a / 8)).toNat (a % 8) bit)],
                         gys.dirty := d, gys.ba := ba, gys.pc := s.pcNext } a bit ba := by
  refine ⟨rfl, ?_, fun k hk => ?_⟩
  · exact (memRead_memWrite (a / 8) (a / 8) _ hwf).trans (if_pos rfl)
  · exact (memRead_memWrite (a / 8) k _ hwf).trans (if_neg hk)

theorem bitInstr_of_some {s : State} {op m x a : Nat} {f : Bool → Option Bool} {b : Bool}
    (hwf : memWf zeroByte s.gys.mem = true) (h : s.Executes op m x) (hm : m ≠ 0) (ha : s.bitAddr m x = .ok a)
    (hw : gysWritable (a / 8) = true) (hd : s.gys.dirty.length < 1024) (hf : f s.gys.ba = some b) :
    ∃ t, bitInstr op m x f s = .next t ∧ s.BitStored t a b s.gys.ba := by
  obtain ⟨d, hst⟩ := State.storeBit_of_writable b hw hd
  exact ⟨_, gysInstr_of_ok h (by rw [if_neg hm, ha]; dsimp only; rw [hf]; dsimp only; rw [hst]; rfl), State.bitStored_mk hwf a b _ d⟩

theorem execEdge_of_ok {s : State} {m x a : Nat} (hwf : memWf zeroByte s.gys.mem = true) (h : s.Executes 0x0C m x) (hm : m ≠ 0)
    (ha : s.bitAddr m x = .ok a) (hw : gysWritable (a / 8) = true) (hd : s.gys.dirty.length < 1024) :
    ∃ t, exec (.edge m x) s = .next t ∧ s.BitStored t a s.gys.ba (s.gys.ba && !s.gysBit a) := by
  obtain ⟨d, hst⟩ := State.storeBit_of_writable s.gys.ba hw hd
  exact ⟨_, gysInstr_of_ok h (by rw [if_neg hm, ha]; dsimp only; rw [hst]; rfl), State.bitStored_mk hwf a _ _ d⟩

/-- Settles O12: each row is one of the three forms of a boolean instruction, with its function of BA. -/
theorem booleanInstructions : Obligations.BooleanInstructions := by
  refine ⟨fun s h => gysInstr_of_ok h rfl,
    fun s m x b h hb => boolInstr_of_ok (f := fun _ b => b) h hb,
    fun s m x b h hb => boolInstr_of_ok (f := fun _ b => !b) h hb,
    fun s m x b h hb => boolInstr_of_ok (f := fun a b => a && b) h hb,
    fun s m x b h hb => boolInstr_of_ok (f := fun a b => a && !b) h hb,
    fun s m x b h hb => boolInstr_of_ok (f := fun a b => a || b) h hb,
    fun s m x b h hb => boolInstr_of_ok (f := fun a b => a || !b) h hb,
    fun s m x b h hb => boolInstr_of_ok (f := fun a b => a != b) h hb,
    fun s m x a hwf h hm ha hw hd => bitInstr_of_some (f := fun b => some b) hwf h hm ha hw hd rfl,
    fun s m x a hwf h hm ha hw hd => bitInstr_of_some (f := fun b => some !b) hwf h hm ha hw hd rfl,
    fun s m x a hwf h hm ha hba hw hd =>
      bitInstr_of_some (f := fun b => if b then some true else none) hwf h hm ha hw hd (if_pos hba),
    fun s m x a h hm ha hba => bitInstr_of_none (f := fun b => if b then some true else none) h hm ha (by rw [hba]; rfl),
    fun s m x a hwf h hm ha hba hw hd =>
      bitInstr_of_some (f := fun b => if b then some false else none) hwf h hm ha hw hd (if_pos hba),
    fun s m x a h hm ha hba => bitInstr_of_none (f := fun b => if b then some false else none) h hm ha (by rw [hba]; rfl),
    fun s m x a hwf h hm ha hw hd => execEdge_of_ok hwf h hm ha hw hd⟩

end Sys2Proof.Machine
end

section
/-!
PROOFS. Operand forms and integer instructions of the Geyser engine (08 R166 to R168).
-/
namespace Sys2Proof.Machine

/-! ## Operand forms (08 Table GYS-3, R166) -/

/-- An operand by its fields: address [17:0], 0 in [21:18], width [23:22]. -/
theorem State.wordAddr_of_fields (s : State) {m x b w : Nat} (h : fieldOf x 21 18 = 0) (hb : x % 2 ^ 18 = b) (hw : x / 2 ^ 22 = w) :
    s.wordAddr m x = if m = 3 ∧ b % 4 ≠ 0 then .error 3 else
      if 0x40000 ≤ (if m = 1 then b else if m = 2 then b + s.gys.ix else s.gysLoad b 4 % 2 ^ 18) ∨
        (if m = 1 then b else if m = 2 then b + s.gys.ix else s.gysLoad b 4 % 2 ^ 18) % widthBytes w ≠ 0 then .error 3
      else .ok (if m = 1 then b else if m = 2 then b + s.gys.ix else s.gysLoad b 4 % 2 ^ 18) := by
  rw [State.wordAddr, if_neg (fun hn => hn h), hb, hw]

theorem State.wordOp_of_wordAddr {s : State} {m x a w : Nat} (hm : m ≠ 0) (h : s.wordAddr m x = .ok a) (hw : x / 2 ^ 22 = w) :
    s.wordOp m x = .ok (extend w (s.gysLoad a (widthBytes w))) := by
  rw [State.wordOp, if_neg hm, h, hw]

theorem fieldOf_wordAddr_zero {x a w : Nat} (h : x = a + 2 ^ 22 * w) (ha : a < 2 ^ 18) : fieldOf x 21 18 = 0 := by
  unfold fieldOf
  omega

/-- Mode D: the address in [17:0], of a word of the width in [23:22]. -/
theorem State.wordOp_direct (s : State) {x a w : Nat} (hx : x = a + 2 ^ 22 * w) (ha : a < 0x40000) (hal : a % widthBytes w = 0) :
    s.wordOp 1 x = .ok (extend w (s.gysLoad a (widthBytes w))) := by
  refine State.wordOp_of_wordAddr (by decide) ?_ (by omega)
  rw [s.wordAddr_of_fields (b := a) (w := w) (fieldOf_wordAddr_zero hx ha) (by omega) (by omega)]
  simp [hal, ha]

/-- Mode D, word, where the address is not one of a word. -/
theorem State.wordOp_misaligned (s : State) {a : Nat} (ha : a < 0x40000) (hal : a % 4 ≠ 0) : s.wordOp 1 a = .error 3 := by
  have haddr : s.wordAddr 1 a = .error 3 := by
    rw [s.wordAddr_of_fields (x := a) (b := a) (w := 0) (fieldOf_wordAddr_zero (a := a) (w := 0) (by omega) ha) (by omega) (by omega)]
    simp [hal, widthBytes]
  simp [State.wordOp, haddr]

/-- Mode X, word: IX is added. -/
theorem State.wordOp_indexed (s : State) {a : Nat} (h : a + s.gys.ix < 0x40000) (hal : (a + s.gys.ix) % 4 = 0) :
    s.wordOp 2 a = .ok (BitVec.ofNat 32 (s.gysLoad (a + s.gys.ix) 4)) := by
  refine State.wordOp_of_wordAddr (w := 0) (by decide) ?_ (by omega)
  rw [s.wordAddr_of_fields (x := a) (b := a) (w := 0) (fieldOf_wordAddr_zero (a := a) (w := 0) (by omega) (by omega)) (by omega) (by omega)]
  simp [widthBytes, h, hal]

/-- Mode N, word: the address is read from the data space. -/
theorem State.wordOp_indirect (s : State) {a b : Nat} (hb : b < 0x40000) (hal : b % 4 = 0) (h : s.gysLoad b 4 % 2 ^ 18 = a)
    (ha : a % 4 = 0) : s.wordOp 3 b = .ok (BitVec.ofNat 32 (s.gysLoad a 4)) := by
  refine State.wordOp_of_wordAddr (w := 0) (by decide) ?_ (by omega)
  rw [s.wordAddr_of_fields (x := b) (b := b) (w := 0) (fieldOf_wordAddr_zero (a := b) (w := 0) (by omega) hb) (by omega) (by omega), h]
  have hlt : a < 0x40000 := by omega
  simp [widthBytes, hal, ha, hlt]

theorem State.wordOp_immediate (s : State) (x : Nat) : s.wordOp 0 x = .ok (BitVec.signExtend 32 (BitVec.ofNat 24 x)) := rfl

theorem signExtend_of_small {x : Nat} (h : x < 2 ^ 23) : BitVec.signExtend 32 (BitVec.ofNat 24 x) = BitVec.ofNat 32 x := by
  have hm : (BitVec.ofNat 24 x).msb = false := by rw [BitVec.msb_eq_decide, BitVec.toNat_ofNat]; simp; omega
  rw [BitVec.signExtend_eq_setWidth_of_msb_false hm]
  apply BitVec.eq_of_toNat_eq
  simp
  omega

theorem signExtend_of_large {x : Nat} (h : 2 ^ 23 ≤ x) (h' : x < 2 ^ 24) :
    BitVec.signExtend 32 (BitVec.ofNat 24 x) = BitVec.ofNat 32 (x + 0xFF000000) := by
  have hm : (BitVec.ofNat 24 x).msb = true := by rw [BitVec.msb_eq_decide, BitVec.toNat_ofNat]; simp; omega
  apply BitVec.eq_of_toNat_eq
  rw [BitVec.toNat_signExtend, hm]
  simp
  omega

theorem State.boolOp_of_bitAddr {s : State} {m x a : Nat} (hm : m ≠ 0) (h : s.bitAddr m x = .ok a) :
    s.boolOp m x = .ok (s.gysBit a) := by
  rw [State.boolOp, if_neg hm, h]

theorem fieldOf_bitAddr_zero {a : Nat} (h : a < 2 ^ 21) : fieldOf a 23 21 = 0 := by
  unfold fieldOf
  omega

/-- A bit address in modes D and X. -/
theorem State.bitAddr_direct (s : State) {a : Nat} (h : a < 2 ^ 21) : s.bitAddr 1 a = .ok a := by
  rw [State.bitAddr, if_neg (fun hn => hn (fieldOf_bitAddr_zero h)), if_neg (by decide : ¬1 = 3), if_pos rfl, if_neg (by omega)]

theorem State.bitAddr_indexed (s : State) {a : Nat} (h : a + s.gys.ix < 2 ^ 21) : s.bitAddr 2 a = .ok (a + s.gys.ix) := by
  rw [State.bitAddr, if_neg (fun hn => hn (fieldOf_bitAddr_zero (by omega))), if_neg (by decide : ¬2 = 3),
    if_neg (by decide : ¬2 = 1), if_neg (by omega)]

theorem State.boolOp_immediate (s : State) (x : Nat) :
    s.boolOp 0 x = if x = 0 then .ok false else if x = 1 then .ok true else .error 2 := by
  rcases x with _ | _ | x
  · rfl
  · rfl
  · have h : (x + 2) / 2 ≠ 0 := by omega
    simp [State.boolOp, h]

/-- Settles O16: the modes one by one, with the address in reach and aligned. -/
theorem operandForms : Obligations.OperandForms := by
  refine ⟨fun s x h => by rw [State.wordOp_immediate, signExtend_of_small h],
    fun s x h h' => by rw [State.wordOp_immediate, signExtend_of_large h h'],
    fun s a ha hal => s.wordOp_direct (w := 0) (by omega) ha hal,
    fun s a ha hal => s.wordOp_direct (w := 1) (by omega) ha hal,
    fun s a ha hal => s.wordOp_direct (w := 2) (by omega) ha hal,
    fun s a ha => s.wordOp_direct (w := 3) (by omega) ha (Nat.mod_one a),
    fun s a ha hal => s.wordOp_misaligned ha hal,
    fun s a h _ hal => s.wordOp_indexed h hal,
    fun s a b hb hal h ha => s.wordOp_indirect hb hal h ha,
    State.boolOp_immediate, fun s a ha => State.boolOp_of_bitAddr (by decide) (s.bitAddr_direct ha),
    fun s a _ h => State.boolOp_of_bitAddr (by decide) (s.bitAddr_indexed h)⟩

/-! ## Integer arithmetic (08 R168) -/

/-- A result that fits sets no bit of ARITH. -/
theorem wrapInt_of_fits {v : Int} (h : -(2 ^ 31) ≤ v ∧ v < 2 ^ 31) : wrapInt v = (BitVec.ofInt 32 v, {}) := by
  have h1 : ¬v < -2147483648 := by omega
  have h2 : ¬2147483647 < v := by omega
  simp [wrapInt, h1, h2]

/-- A result that does not fit sets OVF. -/
theorem wrapInt_of_overflow {v : Int} (h : v < -(2 ^ 31) ∨ 2 ^ 31 ≤ v) : wrapInt v = (BitVec.ofInt 32 v, { ovf := true }) := by
  have h1 : v < -2147483648 ∨ 2147483647 < v := by omega
  simp [wrapInt, h1]

/-- The row of an instruction that wraps an exact result `v`: WA takes it, and OVF is set exactly when it does not fit. -/
theorem wordInstr_wrap {s : State} {op m x : Nat} {f : Word → Word → Word × Arith} {v : Word} {r : Int} {w : Word}
    (h : s.Executes op m x) (hv : s.wordOp m x = .ok v) (hf : f s.gys.wa v = wrapInt r) (hw : BitVec.ofInt 32 r = w) :
    (-(2 ^ 31) ≤ r ∧ r < 2 ^ 31 → wordInstr op m x f s = .next { s with gys.wa := w, gys.pc := s.pcNext }) ∧
    ∀ u : State, (r < -(2 ^ 31) ∨ 2 ^ 31 ≤ r) → s.gysWrite 0x858 (toLe 4 (s.gysStored 0x858 4 ||| 1)) = .ok u →
      wordInstr op m x f s = .next { u with gys.wa := w, gys.pc := s.pcNext } := by
  subst hw
  constructor
  · intro hr
    have hfr := hf.trans (wrapInt_of_fits hr)
    rw [wordInstr_of_ok h hv (by rw [hfr]; exact s.setArith_none), hfr]
  · intro u hr hu
    have hfr := hf.trans (wrapInt_of_overflow hr)
    rw [wordInstr_of_ok h hv (by rw [hfr]; exact hu), hfr]

theorem ofInt_add_toInt (a b : Word) : BitVec.ofInt 32 (a.toInt + b.toInt) = a + b := by
  rw [BitVec.ofInt_add, BitVec.ofInt_toInt, BitVec.ofInt_toInt]

theorem ofInt_sub_toInt (a b : Word) : BitVec.ofInt 32 (a.toInt - b.toInt) = a - b := by
  apply BitVec.eq_of_toInt_eq
  rw [BitVec.toInt_ofInt, BitVec.toInt_sub]

theorem ofInt_mul_toInt (a b : Word) : BitVec.ofInt 32 (a.toInt * b.toInt) = a * b := by
  rw [BitVec.ofInt_mul, BitVec.ofInt_toInt, BitVec.ofInt_toInt]

theorem ofInt_shl_toInt (a : Word) (k : Nat) : BitVec.ofInt 32 (a.toInt * 2 ^ k) = a <<< k := by
  apply BitVec.eq_of_toInt_eq
  rw [BitVec.toInt_ofInt, BitVec.toInt_shiftLeft, Nat.shiftLeft_eq, BitVec.toInt_eq_toNat_bmod, Int.bmod_mul_bmod]
  push_cast
  rfl

theorem ofInt_tdiv_toInt (a b : Word) : BitVec.ofInt 32 (a.toInt.tdiv b.toInt) = a.sdiv b := by
  apply BitVec.eq_of_toInt_eq
  rw [BitVec.toInt_ofInt, BitVec.toInt_sdiv]

theorem ofInt_tmod_toInt (a b : Word) : BitVec.ofInt 32 (a.toInt.tmod b.toInt) = a.srem b := by
  rw [← BitVec.toInt_srem, BitVec.ofInt_toInt]

theorem intDiv_of_ne_zero {a b : Word} (h : b ≠ 0) : intDiv a b = wrapInt (a.toInt.tdiv b.toInt) := if_neg h

/-- But for −2^31 by −1 a quotient fits. -/
theorem tdiv_fits {a b : Word} (h : ¬(a = 0x80000000#32 ∧ b = 0xFFFFFFFF#32)) :
    -(2 ^ 31) ≤ a.toInt.tdiv b.toInt ∧ a.toInt.tdiv b.toInt < 2 ^ 31 := by
  rw [← BitVec.toInt_sdiv_of_ne_or_ne a b (not_and_or.mp h)]
  exact ⟨BitVec.le_toInt _, BitVec.toInt_lt⟩

theorem ite_slt_min (a b : Word) : (if b.slt a then b else a) = if a.toInt ≤ b.toInt then a else b := by
  by_cases h : a.toInt ≤ b.toInt <;> simp [BitVec.slt, h, Int.not_lt.mpr, Int.not_le.mp]

theorem ite_slt_max (a b : Word) : (if a.slt b then b else a) = if a.toInt ≤ b.toInt then b else a := by
  by_cases h : a.toInt < b.toInt
  · simp [BitVec.slt, h, Int.le_of_lt h]
  · by_cases he : a.toInt ≤ b.toInt
    · rw [BitVec.eq_of_toInt_eq (Int.le_antisymm he (Int.not_lt.mp h))]
      simp
    · simp [BitVec.slt, h, he]

/-- A word that a store puts at an aligned address lies in one line. -/
theorem line_of_aligned {a w i : Nat} (hal : a % widthBytes w = 0) (hi : i < widthBytes w) : (a + i) / 64 = a / 64 := by
  unfold widthBytes at hal hi
  split at hal <;> simp only at hi <;> omega

theorem State.wordAddr_aligned {s : State} {m x a : Nat} (h : s.wordAddr m x = .ok a) : a % widthBytes (x / 2 ^ 22) = 0 := by
  unfold State.wordAddr at h
  dsimp only at h
  split at h
  · cases h
  split at h
  · cases h
  generalize (if m = 1 then x % 2 ^ 18 else if m = 2 then x % 2 ^ 18 + s.gys.ix else s.gysLoad (x % 2 ^ 18) 4 % 2 ^ 18) = e at h
  split at h
  · cases h
  next hc =>
    cases h
    by_contra hne
    exact hc (.inr hne)

/-- ST: the low bytes of WA at the operand's address, and no other byte (08 R166). -/
theorem execSt_of_ok {s : State} {m x a : Nat} (hwf : memWf zeroByte s.gys.mem = true) (h : s.Executes 0x11 m x) (hm : m ≠ 0)
    (ha : s.wordAddr m x = .ok a) (hw : gysWritable a = true) (hw' : gysWritable (a + widthBytes (x / 2 ^ 22) - 1) = true)
    (hd : s.gys.dirty.length < 1024) :
    ∃ t, exec (.st m x) s = .next t ∧ t = { s with gys.mem := t.gys.mem, gys.dirty := t.gys.dirty, gys.pc := s.pcNext } ∧
      t.gysStored a (widthBytes (x / 2 ^ 22)) = s.gys.wa.toNat % 2 ^ (8 * widthBytes (x / 2 ^ 22)) ∧
      ∀ k, k < a ∨ a + widthBytes (x / 2 ^ 22) ≤ k → t.gysByte k = s.gysByte k := by
  have hal := State.wordAddr_aligned ha
  generalize hn : widthBytes (x / 2 ^ 22) = n at *
  have hlen : (toLe n s.gys.wa.toNat).length = n := length_toLe n _
  obtain ⟨d, hst⟩ := s.gysStore_of_line (L := a / 64) a (toLe n s.gys.wa.toNat)
    (fun i hi => line_of_aligned (hn ▸ hal) (hn ▸ hlen ▸ hi)) hd hw (by rw [hlen]; exact hw')
  refine ⟨_, gysInstr_of_ok h (by rw [if_neg hm, ha]; dsimp only; rw [hn, hst]), rfl, ?_, fun k hk => ?_⟩
  · have hread := memReadN_memWriteN a (toLe n s.gys.wa.toNat) hwf
    rw [hlen] at hread
    exact (congrArg leNat hread).trans (leNat_toLe_mod n _)
  · exact memRead_memWriteN_outside hwf (by rwa [hlen])

/-- Settles O14: each row is one of the forms of a word instruction, with its function of WA. -/
theorem wordInstructions : Obligations.WordInstructions := by
  refine ⟨fun s m x v h hv => wordInstr_of_ok (f := fun _ v => (v, {})) h hv s.setArith_none,
    fun s m x v h hv => gysInstr_of_ok h (by rw [hv]; rfl),
    fun s m x v h hv => wordInstr_of_ok (f := fun a b => (a &&& b, {})) h hv s.setArith_none,
    fun s m x v h hv => wordInstr_of_ok (f := fun a b => (a ||| b, {})) h hv s.setArith_none,
    fun s m x v h hv => wordInstr_of_ok (f := fun a b => (a ^^^ b, {})) h hv s.setArith_none,
    fun s m x v h hv => wordInstr_of_ok (f := fun a b => (a >>> (b.toNat % 32), {})) h hv s.setArith_none,
    fun s m x v h hv => wordInstr_of_ok (f := fun a b => (a.sshiftRight (b.toNat % 32), {})) h hv s.setArith_none,
    fun s m x v h hv => ?_, fun s m x v h hv => ?_,
    fun s h => gysInstr_of_ok h rfl,
    fun s m x v h hv => cmpInstr_of_ok (f := fun a b => (a == b, {})) h hv s.setArith_none,
    fun s m x v h hv => cmpInstr_of_ok (f := fun a b => (a.slt b, {})) h hv s.setArith_none,
    fun s m x v h hv => cmpInstr_of_ok (f := fun a b => (a.ult b, {})) h hv s.setArith_none,
    fun s m x a hwf h hm ha hw hw' hd => execSt_of_ok hwf h hm ha hw hw' hd,
    fun s m x v h hv => wordInstr_wrap h hv rfl (ofInt_add_toInt _ v),
    fun s m x v h hv => wordInstr_wrap h hv rfl (ofInt_sub_toInt _ v),
    fun s m x v h hv => wordInstr_wrap h hv rfl (ofInt_mul_toInt _ v),
    fun s m x v h hv => wordInstr_wrap h hv rfl (ofInt_shl_toInt _ _),
    fun s m x v h hv hv0 hmin => (wordInstr_wrap h hv (intDiv_of_ne_zero hv0) (ofInt_tdiv_toInt _ v)).1 (tdiv_fits hmin),
    fun s u m x h hv hu => wordInstr_of_ok h hv hu, fun s u m x h hv hwa hu => ?_,
    fun s m x v h hv hv0 => ?_, fun s u m x h hv hu => wordInstr_of_ok h hv hu⟩
  · rw [← ite_slt_min s.gys.wa v]
    exact wordInstr_of_ok (f := fun a b => (if b.slt a then b else a, {})) h hv s.setArith_none
  · rw [← ite_slt_max s.gys.wa v]
    exact wordInstr_of_ok (f := fun a b => (if a.slt b then b else a, {})) h hv s.setArith_none
  · have hdiv : intDiv s.gys.wa 0xFFFFFFFF#32 = (0x80000000#32, { ovf := true }) := by rw [hwa]; decide
    obtain ⟨mem, d, rfl⟩ := State.gysWrite_ok hu
    have hrun := wordInstr_of_ok h hv (f := intDiv) (by rw [hdiv]; exact hu)
    rw [hdiv] at hrun
    refine hrun.trans ?_
    dsimp only
    rw [hwa]
  · have hmod : intMod s.gys.wa v = (s.gys.wa.srem v, {}) := by rw [intMod, if_neg hv0, ofInt_tmod_toInt]
    have hrun := wordInstr_of_ok h hv (f := intMod) (by rw [hmod]; exact s.setArith_none)
    rwa [hmod] at hrun

end Sys2Proof.Machine
end

section
/-!
PROOFS. The bits of ARITH, the float instructions and the block copy (08 R168, R169).
-/
namespace Sys2Proof.Machine

/-! ## The bits of ARITH (08 R168) -/

theorem Arith.bits_lt (a : Arith) : a.bits < 8 := by
  obtain ⟨o, d, f⟩ := a
  cases o <;> cases d <;> cases f <;> decide

/-- A number or-ed with a small one changes in its low byte only. -/
theorem toLe_or_small {n c v : Nat} (hc : c < 256) :
    toLe (n + 1) (v ||| c) = (BitVec.ofNat 8 v ||| BitVec.ofNat 8 c) :: toLe n (v / 256) := by
  have hdiv : (v ||| c) / 256 = v / 256 := by
    have h := Nat.shiftRight_or_distrib (i := 8) (a := v) (b := c)
    rw [Nat.shiftRight_eq_div_pow, Nat.shiftRight_eq_div_pow, Nat.shiftRight_eq_div_pow] at h
    rw [h, Nat.div_eq_of_lt hc, Nat.or_zero]
  rw [toLe, hdiv, BitVec.ofNat_or]

theorem toLe_leNat (bs : List Byte) : toLe bs.length (leNat bs) = bs := by
  induction bs with
  | nil => rfl
  | cons b bs ih =>
    have hb := b.isLt
    have hdiv : (b.toNat + 256 * leNat bs) / 256 = leNat bs := by omega
    have hbyte : BitVec.ofNat 8 (b.toNat + 256 * leNat bs) = b := by
      apply BitVec.eq_of_toNat_eq
      rw [BitVec.toNat_ofNat]
      omega
    rw [List.length_cons, leNat, toLe, hdiv, ih, hbyte]

/-- A block written with what it holds reads as before. -/
theorem memRead_memWriteN_same {d : Nat → Byte} {m : Mem} (a n b : Nat) (h : memWf d m = true) :
    memRead d (memWriteN d m a (memReadN d m a n)) b = memRead d m b := by
  induction n generalizing m a b with
  | zero => rfl
  | succ n ih =>
    have hsame (m : Mem) (hm : memWf d m = true) (a : Nat) : memWrite d m a (memRead d m a) = m :=
      mem_ext (memWf_memWrite a _ hm) hm fun b => by rw [memRead_memWrite a b _ hm]; split <;> simp_all
    rw [memReadN, memWriteN, hsame m h a, ih (a + 1) b h]

theorem memReadN_memWrite_below {d : Nat → Byte} {m : Mem} {a b : Nat} (v : Byte) (n : Nat) (h : memWf d m = true) (hb : b < a) :
    memReadN d (memWrite d m b v) a n = memReadN d m a n := by
  induction n generalizing a with
  | zero => rfl
  | succ n ih => rw [memReadN, memReadN, memRead_memWrite b a v h, if_neg (by omega), ih (by omega)]

theorem State.gysWrite_mem {s t : State} {a : Nat} {bs : List Byte} (h : s.gysWrite a bs = .ok t) :
    t.gys.mem = memWriteN zeroByte s.gys.mem a bs := by
  unfold State.gysWrite at h
  dsimp only at h
  split at h <;> cases h
  rfl

/-- The bytes that go to ARITH: its low byte with the bits, the others as they are. -/
theorem State.arithBytes (s : State) (a : Arith) : toLe 4 (s.gysStored 0x858 4 ||| a.bits) =
    (s.gysByte 0x858 ||| BitVec.ofNat 8 a.bits) :: memReadN zeroByte s.gys.mem 0x859 3 := by
  have hlow : toLe 4 (s.gysStored 0x858 4) = s.gysByte 0x858 :: memReadN zeroByte s.gys.mem 0x859 3 :=
    toLe_leNat (memReadN zeroByte s.gys.mem 0x858 4)
  obtain ⟨h1, h2⟩ := List.cons.inj hlow
  rw [toLe_or_small (Nat.lt_trans a.bits_lt (by decide)), h1, h2]

/-- ARITH takes the bits that an operation sets, in its low byte, and no other byte changes. -/
theorem State.setArith_bytes {s t : State} {a : Arith} (hwf : memWf zeroByte s.gys.mem = true) (h : s.setArith a = .ok t) :
    t = { s with gys.mem := t.gys.mem, gys.dirty := t.gys.dirty } ∧
      t.gysByte 0x858 = s.gysByte 0x858 ||| BitVec.ofNat 8 a.bits ∧ ∀ k, k ≠ 0x858 → t.gysByte k = s.gysByte k := by
  unfold State.setArith at h
  split at h
  · next h0 =>
    cases h
    exact ⟨rfl, by simp [h0], fun _ _ => rfl⟩
  · obtain ⟨m, d, hm⟩ := State.gysWrite_ok h
    have hbyte (k : Nat) : t.gysByte k = if k = 0x858 then s.gysByte 0x858 ||| BitVec.ofNat 8 a.bits else s.gysByte k := by
      unfold State.gysByte
      rw [State.gysWrite_mem h, s.arithBytes, memWriteN, ← memReadN_memWrite_below _ 3 hwf (Nat.lt_succ_self 0x858),
        memRead_memWriteN_same _ 3 k (memWf_memWrite _ _ hwf), memRead_memWrite _ k _ hwf]
      rfl
    exact ⟨by subst hm; rfl, (hbyte 0x858).trans (if_pos rfl), fun k hk => (hbyte k).trans (if_neg hk)⟩

/-! ## Floats (08 R168) -/

theorem flLt_of_nan {a b : Word} {q : Bool} (h : flOf a = .nan q ∨ flOf b = .nan q) : (flLt a b).1 = false := by
  unfold flLt
  rcases h with h | h <;> rw [h]
  cases flOf a <;> rfl

theorem mul_pow_comm_lt {x y : Int} {e f : Int} (h : x * 2 ^ (e - min e f).toNat < y * 2 ^ (f - min e f).toNat) :
    ¬y * 2 ^ (f - min f e).toNat < x * 2 ^ (e - min f e).toNat := by
  rw [Int.min_comm f e]
  omega

/-- Two numbers are not each below the other, and their comparison sets nothing. -/
theorem flLt_of_numbers {a b : Word} (ha : ∀ q, flOf a ≠ .nan q) (hb : ∀ q, flOf b ≠ .nan q) :
    (flLt a b).2.bits = 0 ∧ ¬((flLt a b).1 = true ∧ (flLt b a).1 = true) := by
  unfold flLt
  cases hfa : flOf a with
  | nan q => exact absurd hfa (ha q)
  | inf s =>
    cases hfb : flOf b with
    | nan q => exact absurd hfb (hb q)
    | inf t => cases s <;> cases t <;> exact ⟨rfl, by decide⟩
    | fin t n f => cases s <;> exact ⟨rfl, by simp⟩
  | fin s m e =>
    cases hfb : flOf b with
    | nan q => exact absurd hfb (hb q)
    | inf t => cases t <;> exact ⟨rfl, by simp⟩
    | fin t n f => exact ⟨rfl, fun h => mul_pow_comm_lt (of_decide_eq_true h.1) (of_decide_eq_true h.2)⟩

/-- A rounding sets no flag while the exponent is far from the largest. -/
theorem flRound_bits_of_small {s : Bool} {m : Nat} {e : Int} (h : (Nat.log2 m : Int) + 1 - 24 + e ≤ 103) : (flRound s m e).2.bits = 0 := by
  unfold flRound
  split
  · rfl
  · dsimp only
    generalize (if 0 ≤ max (((Nat.log2 m + 1 : Nat) : Int) - 24) (-149 - e) then _ else _ : Nat) = q
    have hx : ¬104 < if q = 2 ^ 24 then e + max (((Nat.log2 m + 1 : Nat) : Int) - 24) (-149 - e) + 1
        else e + max (((Nat.log2 m + 1 : Nat) : Int) - 24) (-149 - e) := by
      split <;> omega
    generalize (if q = 2 ^ 24 then 2 ^ 23 else q) = r
    rw [if_neg hx]
    split <;> rfl

/-- The float of an integer needs no more than 32 bits of exponent. -/
theorem cvtToFloat_bits (a : Word) : (cvtToFloat a).2.bits = 0 := by
  unfold cvtToFloat flRoundInt
  split
  · rfl
  · next h0 =>
    have hlt := BitVec.toInt_lt (x := a)
    have hle := BitVec.le_toInt a
    have hm : a.toInt.natAbs < 2 ^ 32 := by omega
    have hlog : Nat.log2 a.toInt.natAbs < 32 := (Nat.log2_lt (by omega)).mpr hm
    exact flRound_bits_of_small (by omega)

/-! ## Block copy (08 R169) -/

/-- A block in range is copied as if through a buffer: the destination reads what the program read of the source. -/
theorem execSysCopy_of_ok {s : State} {dst src len : Nat} (hwf : memWf zeroByte s.gys.mem = true) (h : s.Executes 0x2F 0 1)
    (hb : s.copyBlock = (dst, src, len)) (hix : s.gys.ix + 12 ≤ 0x40000) (hlen : len ≤ 65536) (hsrc : src + len ≤ 0x40000)
    (hdst : dst + len ≤ 0x40000) (hw : rangeWritable dst len = true)
    (hd : s.gys.dirty.length + ((s.changedLines dst (s.gysBytes src len)).filter fun l => !(s.gys.dirty.contains l)).length ≤ 1024) :
    ∃ t, exec (.sysCopy 0 1) s = .next t ∧ t = { s with gys.mem := t.gys.mem, gys.dirty := t.gys.dirty, gys.pc := s.pcNext } ∧
      (∀ k < len, t.gysByte (dst + k) = s.gysSeen (src + k)) ∧
      ∀ k, k < dst ∨ dst + len ≤ k → t.gysByte k = s.gysByte k := by
  have hcopy : s.gysCopy = s.gysWrite dst (s.gysBytes src len) := by
    unfold State.gysCopy
    rw [hb]
    dsimp only
    have hno : ¬(0 < len ∧ (0x40000 < src + len ∨ 0x40000 < dst + len ∨ (!rangeWritable dst len) = true)) := by
      rw [hw]
      simp only [Bool.not_true, Bool.false_eq_true, or_false]
      omega
    rw [if_neg (by omega), if_neg (by omega), if_neg hno]
  have hwrite : s.gysWrite dst (s.gysBytes src len) = .ok { s with
      gys.mem := memWriteN zeroByte s.gys.mem dst (s.gysBytes src len)
      gys.dirty := s.gys.dirty ++ (s.changedLines dst (s.gysBytes src len)).filter fun l => !(s.gys.dirty.contains l) } :=
    if_neg (Nat.not_lt.mpr hd)
  have hrun := gysInstr_of_ok (t := State.gysNext _) (k := fun s : State =>
    if (0 : Nat) ≠ 0 ∨ (1 : Nat) ≠ 1 then .error 2 else match s.gysCopy with
      | .error c => .error c
      | .ok t => .ok t.gysNext) h (by rw [if_neg (by decide), hcopy, hwrite])
  refine ⟨_, hrun, rfl, fun k hk => ?_, fun k hk => memRead_memWriteN_outside hwf (by rwa [State.length_gysBytes])⟩
  have hk' : k < (s.gysBytes src len).length := by rwa [State.length_gysBytes]
  exact (memRead_memWriteN_inside hwf hk').trans (s.getElem_gysBytes src len k hk')

/-- CVT, by its operand. -/
theorem execCvt_of_ok {s t : State} {x : Nat} {r : Word × Arith} (h : s.Executes 0x29 0 x) (hx : x ≤ 1)
    (hr : (if x = 0 then cvtToFloat s.gys.wa else cvtToInt s.gys.wa) = r) (ht : s.setArith r.2 = .ok t) :
    exec (.cvt 0 x) s = .next { t with gys.wa := r.1, gys.pc := s.pcNext } :=
  gysInstr_of_ok h (by
    rw [if_neg (by omega)]
    dsimp only
    rw [hr, ht, State.pcNext, ← State.setArith_pc ht]
    rfl)

/-- Settles O15: the forms of a float instruction, the bits of ARITH, the facts of the float functions, and the copy. -/
theorem floatInstructionsAndBlockCopy : Obligations.FloatInstructionsAndBlockCopy := by
  refine ⟨fun s u m x v h hm hv hu => floatInstr_of_ok (f := flAdd) h hm hv hu,
    fun s u m x v h hm hv hu => floatInstr_of_ok (f := flSub) h hm hv hu,
    fun s u m x v h hm hv hu => floatInstr_of_ok (f := flMul) h hm hv hu,
    fun s u m x v h hm hv hu => floatInstr_of_ok (f := flDiv) h hm hv hu,
    fun s u m x v h hm hv hu => (if_neg hm).trans (cmpInstr_of_ok (f := flLt) h hv hu),
    fun s u h hu => execCvt_of_ok h (by decide) (if_pos rfl) hu,
    fun s u h hu => execCvt_of_ok h (by decide) (if_neg (by decide)) hu,
    fun s u a hwf h => State.setArith_bytes hwf h,
    fun a b ha hb => flLt_of_numbers ha hb, fun a b q h => flLt_of_nan h, cvtToFloat_bits,
    fun s dst src len hwf h hb hix hlen hsrc hdst hw hd => execSysCopy_of_ok hwf h hb hix hlen hsrc hdst hw hd⟩

end Sys2Proof.Machine
end

section
/-!
PROOFS. What the input phase of the Geyser engine writes (08 R172, R173, R179).
-/
namespace Sys2Proof.Machine

/-! ## Writes of the input phase (08 R172, R179) -/

theorem State.changedLines_nodup (s : State) (a : Nat) (bs : List Byte) : (s.changedLines a bs).Nodup := by
  induction bs generalizing a with
  | nil => exact .nil
  | cons b bs ih =>
    unfold State.changedLines
    dsimp only
    split
    · next h => exact List.nodup_cons.mpr ⟨by simpa using h.2, ih (a + 1)⟩
    · exact ih (a + 1)

theorem State.changedLines_lt (s : State) {L : Nat} (a : Nat) (bs : List Byte) (h : a + bs.length ≤ 64 * L) :
    ∀ l ∈ s.changedLines a bs, l < L := by
  induction bs generalizing a with
  | nil => exact fun _ hl => nomatch hl
  | cons b bs ih =>
    rw [List.length_cons] at h
    unfold State.changedLines
    dsimp only
    split
    · exact List.forall_mem_cons.mpr ⟨by omega, ih (a + 1) (by omega)⟩
    · exact ih (a + 1) (by omega)

/-- Distinct lines below a limit. -/
def LinesBelow (L : Nat) (ls : List Nat) : Prop := ls.Nodup ∧ ∀ l ∈ ls, l < L

theorem LinesBelow.length_le {L : Nat} {ls : List Nat} (h : LinesBelow L ls) : ls.length ≤ L := by
  have hsub : ls ⊆ List.range L := fun l hl => List.mem_range.mpr (h.2 l hl)
  have hle := (List.subperm_of_subset h.1 hsub).length_le
  rwa [List.length_range] at hle

/-- A write below a limit of at most 1,024 lines takes place where all dirty lines lie below it. -/
theorem State.gysWrite_below {s : State} {L : Nat} (hL : L ≤ 1024) (hs : LinesBelow L s.gys.dirty) {a : Nat} {bs : List Byte}
    (h : a + bs.length ≤ 64 * L) : ∃ d, LinesBelow L d ∧
      s.gysWrite a bs = .ok { s with gys.mem := memWriteN zeroByte s.gys.mem a bs, gys.dirty := d } := by
  have hd : LinesBelow L (s.gys.dirty ++ (s.changedLines a bs).filter fun l => !(s.gys.dirty.contains l)) := by
    refine ⟨List.nodup_append'.mpr ⟨hs.1, (s.changedLines_nodup a bs).filter _, fun l hl hl' => ?_⟩, fun l hl => ?_⟩
    · simp [hl] at hl'
    · rcases List.mem_append.mp hl with hl | hl
      · exact hs.2 l hl
      · exact s.changedLines_lt a bs h l (List.mem_filter.mp hl).1
  refine ⟨_, hd, if_neg ?_⟩
  have hlen := hd.length_le
  rw [List.length_append] at hlen
  exact Nat.not_lt.mpr (Nat.le_trans hlen hL)

/-- The memory after a list of writes. -/
def memWrites (m : Mem) (ws : List (Nat × List Byte)) : Mem := ws.foldl (fun m w => memWriteN zeroByte m w.1 w.2) m

theorem State.gysWrites_below {L : Nat} (hL : L ≤ 1024) {ws : List (Nat × List Byte)} (h : ∀ w ∈ ws, w.1 + w.2.length ≤ 64 * L)
    {s : State} (hs : LinesBelow L s.gys.dirty) :
    ∃ d, s.gysWrites ws = { s with gys.mem := memWrites s.gys.mem ws, gys.dirty := d } := by
  induction ws generalizing s with
  | nil => exact ⟨s.gys.dirty, rfl⟩
  | cons w ws ih =>
    obtain ⟨hw, hws⟩ := List.forall_mem_cons.mp h
    obtain ⟨d, hd, hwr⟩ := State.gysWrite_below hL hs hw
    obtain ⟨d', hd'⟩ := ih hws (s := { s with gys.mem := memWriteN zeroByte s.gys.mem w.1 w.2, gys.dirty := d }) hd
    exact ⟨d', by rw [State.gysWrites, hwr]; exact hd'⟩

theorem memWf_memWrites {m : Mem} (ws : List (Nat × List Byte)) (h : memWf zeroByte m = true) :
    memWf zeroByte (memWrites m ws) = true := by
  induction ws generalizing m with
  | nil => exact h
  | cons w ws ih => exact ih (memWf_memWriteN w.1 w.2 h)

theorem memReadN_congr {d : Nat → Byte} {m m' : Mem} {a n : Nat} (h : ∀ k, a ≤ k → k < a + n → memRead d m k = memRead d m' k) :
    memReadN d m a n = memReadN d m' a n := by
  induction n generalizing a with
  | zero => rfl
  | succ n ih => rw [memReadN, memReadN, h a (by omega) (by omega), ih fun k hk hk' => h k (by omega) (by omega)]

/-- Writes elsewhere leave a block as it is. -/
theorem memReadN_memWrites_outside {m : Mem} {a n : Nat} {ws : List (Nat × List Byte)} (hm : memWf zeroByte m = true)
    (h : ∀ w ∈ ws, w.1 + w.2.length ≤ a ∨ a + n ≤ w.1) :
    memReadN zeroByte (memWrites m ws) a n = memReadN zeroByte m a n := by
  induction ws generalizing m with
  | nil => rfl
  | cons w ws ih =>
    obtain ⟨hw, hws⟩ := List.forall_mem_cons.mp h
    refine (ih (memWf_memWriteN w.1 w.2 hm) hws).trans (memReadN_congr fun k hk hk' => ?_)
    exact memRead_memWriteN_outside hm (by omega)

/-- A block written once among writes elsewhere is read back. -/
theorem memReadN_memWrites_once {m : Mem} {a : Nat} {bs : List Byte} {pre post : List (Nat × List Byte)}
    (hm : memWf zeroByte m = true) (h : ∀ w ∈ post, w.1 + w.2.length ≤ a ∨ a + bs.length ≤ w.1) :
    memReadN zeroByte (memWrites m (pre ++ (a, bs) :: post)) a bs.length = bs := by
  have hpre := memWf_memWrites pre hm
  rw [memWrites, List.foldl_append, List.foldl_cons]
  exact (memReadN_memWrites_outside (memWf_memWriteN a bs hpre) h).trans (memReadN_memWriteN a bs hpre)

/-! ## Where the input phase writes (08 R172, R173; 14 Table CAN-6) -/

@[simp] theorem length_padTo (n : Nat) (bs : List Byte) : (padTo n bs).length = n := by simp [padTo]

@[simp] theorem length_le' (n : Nat) (v : Int) : (le n v).length = n := by simp [le]

@[simp] theorem State.length_ackBytes (s : State) (r : Nat) : (s.ackBytes r).length = 4 := by simp [State.ackBytes]

theorem State.windowWrites_place {s : State} {b n : Nat} (hb : b < 2) (hn : n < 64) :
    ∀ w ∈ s.windowWrites b n, 0x1040 ≤ w.1 ∧ w.1 + w.2.length ≤ 0x5100 := by
  intro w hw
  unfold State.windowWrites at hw
  rcases List.mem_append.mp hw with hw | hw
  · (repeat' split at hw) <;> simp only [List.mem_cons, List.not_mem_nil, or_false] at hw
    rcases hw with rfl | rfl <;> simp <;> omega
  · simp only [List.mem_cons, List.not_mem_nil, or_false] at hw
    rcases hw with rfl | rfl <;> simp <;> omega

theorem State.stationWrites_place {s : State} {b n : Nat} (hb : b < 2) (hn : n < 64) :
    ∀ w ∈ s.stationWrites b n, 0x1040 ≤ w.1 ∧ w.1 + w.2.length ≤ 0x5100 := by
  intro w hw
  unfold State.stationWrites at hw
  rcases List.mem_cons.mp hw with rfl | hw
  · simp
    omega
  · split at hw
    · exact State.windowWrites_place hb hn w hw
    · cases hw

theorem mem_allStations {p : Nat × Nat} (h : p ∈ allStations) : p.1 < 2 ∧ p.2 < 64 := by
  unfold allStations at h
  simp only [List.mem_flatMap, List.mem_map, List.mem_range, List.mem_cons, List.not_mem_nil, or_false] at h
  obtain ⟨b, hb, n, hn, rfl⟩ := h
  exact ⟨by rcases hb with rfl | rfl <;> simp, hn⟩

/-- The system variables: the cycle number at 0, the rest behind it. -/
theorem State.systemWrites_place (s : State) (dt last : Nat) : ∃ rest, s.systemWrites dt last = (0, toLe 8 s.gys.cycle) :: rest ∧
    ∀ w ∈ rest, 8 ≤ w.1 ∧ w.1 + w.2.length ≤ 0xA0 := by
  unfold State.systemWrites
  dsimp only
  split
  · exact ⟨_, rfl, by simp⟩
  · exact ⟨_, rfl, by simp [List.length_flatMap]⟩

theorem State.SameForm.tables {s t : State} (h : s.SameForm t) : t.dir.tables = s.dir.tables := congrArg Memories.tables h.2

theorem State.stationCopied_sameForm_pair (s : State) (p : Nat × Nat) : s.SameForm (s.stationCopied p.1 p.2) :=
  State.stationCopied_sameForm s p.1 p.2

theorem foldl_stationCopied_tables (l : List (Nat × Nat)) (u : State) :
    (l.foldl (fun s p => s.stationCopied p.1 p.2) u).dir.tables = u.dir.tables := by
  have h : u.SameForm (l.foldl (fun s p => s.stationCopied p.1 p.2) u) :=
    sameForm_foldl State.stationCopied_sameForm_pair l u
  exact h.tables

theorem foldl_stationCopied (l : List (Nat × Nat)) (u : State) : ∃ dir can0 can1 tph sec, dir.tables = u.dir.tables ∧
    l.foldl (fun s p => s.stationCopied p.1 p.2) u = { u with dir := dir, can0 := can0, can1 := can1, tph := tph, sec := sec } := by
  have htab := foldl_stationCopied_tables l u
  generalize ht : l.foldl (fun s p => s.stationCopied p.1 p.2) u = t at *
  refine ⟨t.dir, t.can0, t.can1, t.tph, t.sec, htab, ?_⟩
  subst ht
  apply State.eq_of_blocks <;> simp

/-- The writes of an input phase in three runs: the field inputs, the stations, the system variables. -/
theorem State.copyInputs_of_clean {s : State} {dt last : Nat} (hwf : memWf zeroByte s.gys.mem = true) (hd : s.gys.dirty = []) :
    ∃ m d dir can0 can1 tph sec,
      s.copyInputs dt last = { s with gys.mem := m, gys.dirty := d, dir := dir, can0 := can0, can1 := can1, tph := tph, sec := sec } ∧
      dir.tables = s.dir.tables ∧ leNat (memReadN zeroByte m 0x1000 8) = s.fio.image % 2 ^ 64 ∧
      leNat (memReadN zeroByte m 0 8) = s.gys.cycle % 2 ^ 64 := by
  obtain ⟨rest, hsys, hrest⟩ := s.systemWrites_place dt last
  have hstn : ∀ w ∈ allStations.flatMap fun p => s.stationWrites p.1 p.2, 0x1040 ≤ w.1 ∧ w.1 + w.2.length ≤ 0x5100 := by
    intro w hw
    obtain ⟨p, hp, hw⟩ := List.mem_flatMap.mp hw
    exact State.stationWrites_place (mem_allStations hp).1 (mem_allStations hp).2 w hw
  generalize hws : (0x1000, toLe 8 s.fio.image) :: (0x1008, toLe 8 s.fio.diag) ::
    (allStations.flatMap fun p => s.stationWrites p.1 p.2) ++ s.systemWrites dt last = ws
  have hall : ∀ w ∈ ws, w.1 + w.2.length ≤ 64 * 324 := by
    subst hws
    rw [hsys]
    intro w hw
    simp only [List.mem_cons, List.mem_append, List.cons_append] at hw
    rcases hw with rfl | rfl | hw | rfl | hw
    · simp
    · simp
    · exact (hstn w hw).2
    · simp
    · exact Nat.le_trans (hrest w hw).2 (by decide)
  obtain ⟨d, hgw⟩ := State.gysWrites_below (L := 324) (by decide) hall (s := s) (by rw [hd]; exact ⟨.nil, fun _ h => nomatch h⟩)
  have hci : s.copyInputs dt last = allStations.foldl (fun s p => s.stationCopied p.1 p.2)
      { s with gys.mem := memWrites s.gys.mem ws, gys.dirty := d } := by
    rw [← hgw, ← hws]
    unfold State.copyInputs
    simp only [List.cons_append, List.nil_append]
  generalize hl : allStations = l at hci
  obtain ⟨dir, can0, can1, tph, sec, htab, hfold⟩ := foldl_stationCopied l { s with gys.mem := memWrites s.gys.mem ws, gys.dirty := d }
  refine ⟨memWrites s.gys.mem ws, d, dir, can0, can1, tph, sec, hci.trans hfold, htab, ?_, ?_⟩
  · have h := memReadN_memWrites_once (a := 0x1000) (bs := toLe 8 s.fio.image) (pre := [])
      (post := (0x1008, toLe 8 s.fio.diag) :: (allStations.flatMap fun p => s.stationWrites p.1 p.2) ++ s.systemWrites dt last) hwf
      (by
        rw [hsys]
        intro w hw
        simp only [List.mem_cons, List.mem_append, List.cons_append] at hw
        rcases hw with rfl | hw | rfl | hw
        · simp
        · exact .inr (Nat.le_trans (by simp) (hstn w hw).1)
        · simp
        · exact .inl (Nat.le_trans (hrest w hw).2 (by decide)))
    rw [length_toLe, List.nil_append, ← List.cons_append, hws] at h
    rw [h, leNat_toLe_mod]
  · have h := memReadN_memWrites_once (a := 0) (bs := toLe 8 s.gys.cycle) (pre := (0x1000, toLe 8 s.fio.image) ::
      (0x1008, toLe 8 s.fio.diag) :: allStations.flatMap fun p => s.stationWrites p.1 p.2) (post := rest) hwf
      (fun w hw => .inr (Nat.le_trans (by simp) (hrest w hw).1))
    rw [length_toLe, ← hsys, hws] at h
    rw [h, leNat_toLe_mod]

theorem State.commitPoint_of_idle {s : State} (hw : s.gys.writes = []) (hf : s.gys.forceOps = []) (ha : s.gys.again = []) :
    s.commitPoint = s := by
  have hag : s.applyAgain = s := by
    unfold State.applyAgain
    simp only [ha, List.foldl_nil, List.map_nil, List.append_nil]
    rw [List.filter_eq_self.mpr (by simp)]
    rw [← ha]
  have hfo : s.applyForces = s := by
    unfold State.applyForces
    rw [hf, List.foldl_nil, ← hf]
  unfold State.commitPoint
  dsimp only
  rw [hag, hw]
  exact hfo

theorem State.takeRestart_of_none {s : State} (h : s.gys.ctrl = 0) : s.takeRestart = s := by
  unfold State.takeRestart
  rw [if_neg (by omega)]

/-- The engine after the input phase, from its state and the memory and dirty lines that the writes leave. -/
def Gys.begun (g : Gys) (m : Mem) (d : List Nat) (entry : Nat) (recovered : Bool) : Gys :=
  { g with mem := m, dirty := d, cycle := (g.cycle + 1) % 2 ^ 64, recoveredNow := recovered, ba := false, wa := 0, ix := 0,
           bstack := [], rstack := [], pc := entry, phase := .execute, resumed := false, woke := false, changed := false,
           restarted := false }

end Sys2Proof.Machine
end

section
/-!
PROOFS. The input phase of a running engine with nothing waiting (08 R162, R172).
-/
namespace Sys2Proof.Machine

theorem State.image_congr {s t : State} (hd : t.dir.tables = s.dir.tables) (hb : t.gys.bank = s.gys.bank) (off n : Nat) :
    t.image off n = s.image off n := by
  unfold State.image State.tblN State.tbl
  rw [hb, hd]

/-- The next cycle is counted, and the recovery of a supply is taken over for it. -/
def State.countCycle (s : State) : State :=
  { s with gys.cycle := (s.gys.cycle + 1) % 2 ^ 64, gys.recoveredNow := s.pwr.supplyRecovered, pwr.supplyRecovered := false }

/-- The flags of one cycle are spent. -/
def State.spendFlags (s : State) : State :=
  { s with gys.resumed := false, gys.woke := false, gys.changed := false, gys.restarted := false }

/-- The input phase after the time of the last cycle is noted. -/
def State.inputPhase (s : State) (dt last : Nat) : State :=
  let s := s.takeRestart.countCycle.commitPoint
  let s := if s.gys.st = 1 then s.copyInputs dt last else s
  let s := if s.gys.st = 1 then s.beginExecute else s
  s.spendFlags

theorem execGysInputPhase_of_ready {s : State} {dtUs : Nat} (h : s.inputReady dtUs = true) :
    ∃ dt last, exec (.gysInputPhase dtUs) s = .next ((s.noteCycle dtUs).inputPhase dt last) :=
  ⟨if s.gys.resumed then 0 else dtUs, if s.gys.resumed ∨ s.gys.woke then s.gysStored 0x0C 4 else dtUs, by
    unfold State.inputPhase State.countCycle State.spendFlags
    exact occurs_pos h⟩

/-- The input phase of a running engine with nothing waiting: count, copy, begin. -/
theorem State.inputPhase_of_idle {s : State} {dt last : Nat} (hst : s.gys.st = 1) (hc : s.gys.ctrl = 0) (hw : s.gys.writes = [])
    (hf : s.gys.forceOps = []) (ha : s.gys.again = []) (hd : s.gys.dirty = []) (hwf : memWf zeroByte s.gys.mem = true) :
    s.inputPhase dt last = (s.countCycle.copyInputs dt last).beginExecute.spendFlags := by
  have hp : s.countCycle.commitPoint = s.countCycle := State.commitPoint_of_idle hw hf ha
  obtain ⟨m, d, _, _, _, _, _, hcopy, -⟩ := State.copyInputs_of_clean (s := s.countCycle) (dt := dt) (last := last) hwf hd
  have hcopied : (s.countCycle.copyInputs dt last).gys.st = 1 := by rw [hcopy]; exact hst
  unfold State.inputPhase
  dsimp only
  rw [State.takeRestart_of_none hc, hp, if_pos (show s.countCycle.gys.st = 1 from hst), if_pos hcopied]

theorem State.noteCycle_eq (s : State) (dt : Nat) :
    ∃ dir sec, s.noteCycle dt = { s with dir := dir, sec := sec } ∧ dir.tables = s.dir.tables := by
  refine ⟨(s.noteCycle dt).dir, (s.noteCycle dt).sec, ?_, (s.noteCycle_sameForm dt).tables⟩
  apply State.eq_of_blocks <;> simp

/-- What the input phase of a running engine with nothing waiting leaves (08 R162, R172, R173). -/
theorem execGysInputPhase_of_idle {s : State} {dt : Nat} (h : s.inputReady dt = true) (hst : s.gys.st = 1) (hc : s.gys.ctrl = 0)
    (hd : s.gys.dirty = []) (hw : s.gys.writes = []) (hf : s.gys.forceOps = []) (ha : s.gys.again = [])
    (hwf : memWf zeroByte s.gys.mem = true) :
    ∃ t m d, exec (.gysInputPhase dt) s = .next t ∧ t.gys = s.gys.begun m d (s.image 12 4) s.pwr.supplyRecovered ∧
      leNat (memReadN zeroByte m 0x1000 8) = s.fio.image % 2 ^ 64 ∧
      leNat (memReadN zeroByte m 0 8) = (s.gys.cycle + 1) % 2 ^ 64 ∧ t.pwr = { s.pwr with supplyRecovered := false } ∧
      t = { s with pwr := t.pwr, dir := t.dir, gys := t.gys, can0 := t.can0, can1 := t.can1, tph := t.tph, sec := t.sec } := by
  obtain ⟨dt', last, hex⟩ := execGysInputPhase_of_ready h
  obtain ⟨dir, sec, hnote, htab⟩ := s.noteCycle_eq dt
  rw [hnote, State.inputPhase_of_idle (s := { s with dir := dir, sec := sec }) hst hc hw hf ha hd hwf] at hex
  obtain ⟨m, d, dir', can0, can1, tph, sec', hcopy, htab', h1, h2⟩ :=
    State.copyInputs_of_clean (s := ({ s with dir := dir, sec := sec } : State).countCycle) (dt := dt') (last := last) hwf hd
  have h2' : leNat (memReadN zeroByte m 0 8) = (s.gys.cycle + 1) % 2 ^ 64 := h2.trans (Nat.mod_mod _ _)
  have himg (g : Gys) (hg : g.bank = s.gys.bank) :
      State.image { s with gys := g, dir := dir' } 12 4 = s.image 12 4 := State.image_congr (htab'.trans htab) hg 12 4
  rw [hcopy] at hex
  refine ⟨_, m, d, hex, ?_, h1, h2', rfl, rfl⟩
  rw [← himg { s.gys with mem := m } rfl]
  rfl

end Sys2Proof.Machine
end

section
/-!
PROOFS. The output phase, and the first half of the close (08 R174, R175).
-/
namespace Sys2Proof.Machine

/-! ## The output phase (08 R174) -/

theorem State.driveChannel_eq (s : State) (w n : Nat) : ∃ ch, s.driveChannel w n = { s with fio.ch := ch } := by
  unfold State.driveChannel
  split
  · exact ⟨s.fio.ch, rfl⟩
  · exact ⟨_, rfl⟩

theorem foldl_driveChannel (w : Nat) (l : List Nat) (s : State) :
    ∃ ch, l.foldl (fun s n => s.driveChannel w n) s = { s with fio.ch := ch } := by
  induction l generalizing s with
  | nil => exact ⟨s.fio.ch, rfl⟩
  | cons n l ih =>
    obtain ⟨ch, hch⟩ := s.driveChannel_eq w n
    obtain ⟨ch', hch'⟩ := ih (s.driveChannel w n)
    exact ⟨ch', by rw [List.foldl_cons, hch', hch]⟩

theorem State.fioApply_eq (s : State) (w : Nat) : ∃ ch, s.fioApply w = { s with fio.word := w % 2 ^ 48, fio.ch := ch } := by
  unfold State.fioApply
  generalize List.range 48 = l
  obtain ⟨ch, h⟩ := foldl_driveChannel w l { s with fio.word := w % 2 ^ 48 }
  exact ⟨ch, h⟩

theorem State.fioApply_gys (s : State) (w : Nat) : (s.fioApply w).gys = s.gys := by simp

theorem State.handRequests_eq (s : State) : ∃ reqs, s.handRequests = { s with gys.reqs := reqs } := by
  unfold State.handRequests
  generalize List.range 12 = l
  induction l generalizing s with
  | nil => exact ⟨s.gys.reqs, rfl⟩
  | cons r l ih =>
    rw [List.foldl_cons]
    dsimp only
    split
    · exact ih s
    · obtain ⟨reqs, hr⟩ := ih { s with gys.reqs := s.gys.reqs.set r (some (s.gysBytes (reqPlace r).1 (reqPlace r).2)) }
      exact ⟨reqs, hr⟩

theorem State.group_eq_of_all {s : State} {p : Group → Prop} (h : ∀ x ∈ s.grp.groups, p x) (hd : p {}) (g : Nat) : p (s.group g) := by
  unfold State.group
  rw [List.getD_eq_getElem?_getD]
  cases hg : s.grp.groups[g]? with
  | none => exact hd
  | some x => exact h x (List.mem_of_getElem? hg)

/-- No group of the device is open. -/
theorem State.applyGroupFio_of_none {s : State} (h : ∀ x ∈ s.grp.groups, x.state = 0) : s.applyGroupFio = s := by
  have hno (g : Nat) : (s.group g).mayApply = false := by
    have h0 : (s.group g).state = 0 := State.group_eq_of_all h rfl g
    simp [Group.mayApply, h0]
  unfold State.applyGroupFio
  generalize List.range 8 = l
  induction l with
  | nil => rfl
  | cons g l ih => rw [List.foldl_cons, hno g]; exact ih

theorem State.gysBytes_lt (s : State) (a n : Nat) : leNat (s.gysBytes a n) < 2 ^ (8 * n) := by
  induction n generalizing a with
  | zero => simp [State.gysBytes, leNat]
  | succ n ih =>
    have hb := (s.gysSeen a).isLt
    have hrest := ih (a + 1)
    have hpow : (2 : Nat) ^ (8 * (n + 1)) = 256 * 2 ^ (8 * n) := by rw [Nat.mul_succ, Nat.pow_add, Nat.mul_comm]
    rw [State.gysBytes, leNat, hpow]
    omega

/-- The output phase before anything is put out: what was held back by a supply's recovery is released (02 R34). -/
def State.outputsReleased (s : State) : State :=
  let s := if s.gys.recoveredNow then { s with fio.held := false, gys.recoveredNow := false } else s
  { s with fio.gysOff := false, gys.outputsOff := false }

theorem State.outputsReleased_eq (s : State) : ∃ held rec,
    s.outputsReleased = { s with fio.held := held, fio.gysOff := false, gys.recoveredNow := rec, gys.outputsOff := false } := by
  unfold State.outputsReleased
  dsimp only
  split
  · exact ⟨false, false, rfl⟩
  · exact ⟨s.fio.held, s.gys.recoveredNow, rfl⟩

/-- The outputs are out, and the cycle is to be closed. -/
def State.toClosing (s : State) : State := { s with gys.phase := .closing }

theorem State.outputPhase_eq (s : State) : s.outputPhase = ((((s.outputsReleased.applyGroupFio.fioApply
    (leNat (s.outputsReleased.applyGroupFio.gysBytes 0x6000 6))).canOutput 0).canOutput 1).handRequests).toClosing := by
  unfold State.outputPhase State.toClosing State.outputsReleased
  dsimp only

/-- What the output phase delivers, with no group open. -/
def State.delivered (s : State) : State :=
  ((s.outputsReleased.fioApply (leNat (s.gysBytes 0x6000 6))).canOutput 0).canOutput 1

theorem State.outputPhase_of_none {s : State} (h : ∀ x ∈ s.grp.groups, x.state = 0) :
    s.outputPhase = s.delivered.handRequests.toClosing := by
  obtain ⟨held, rec, hrel⟩ := s.outputsReleased_eq
  have hgrp : s.outputsReleased.applyGroupFio = s.outputsReleased := State.applyGroupFio_of_none (by rw [hrel]; exact h)
  have hbytes : s.outputsReleased.gysBytes 0x6000 6 = s.gysBytes 0x6000 6 := by rw [hrel]; rfl
  rw [State.outputPhase_eq, hgrp, hbytes]
  rfl

theorem State.delivered_eq (s : State) : ∃ fio can0 can1 rec, s.delivered =
    { s with fio := fio, can0 := can0, can1 := can1, gys.outputsOff := false, gys.recoveredNow := rec } ∧
      fio.gysOff = false ∧ fio.word = leNat (s.gysBytes 0x6000 6) := by
  obtain ⟨held, rec, hrel⟩ := s.outputsReleased_eq
  obtain ⟨ch, hfio⟩ := s.outputsReleased.fioApply_eq (leNat (s.gysBytes 0x6000 6))
  have hf : s.delivered.fio = { s.fio with held := held, gysOff := false, word := leNat (s.gysBytes 0x6000 6), ch := ch } := by
    rw [State.delivered, State.canOutput_fio, State.canOutput_fio, hfio, hrel, Nat.mod_eq_of_lt (s.gysBytes_lt 0x6000 6)]
  have hg : s.delivered.gys = { s.gys with outputsOff := false, recoveredNow := rec } := by
    rw [State.delivered, State.canOutput_gys, State.canOutput_gys, State.fioApply_gys, hrel]
  refine ⟨s.delivered.fio, s.delivered.can0, s.delivered.can1, rec, ?_, by rw [hf], by rw [hf]⟩
  apply State.eq_of_blocks
  case h6 => exact hg
  all_goals simp [State.delivered, hrel]

/-- END, with no group open. -/
theorem execSysEnd_of_none {s : State} (h : s.Executes 0x2F 0 0) (hg : ∀ x ∈ s.grp.groups, x.state = 0) :
    ∃ t, exec (.sysEnd 0 0) s = .next t ∧ t.gys.phase = .closing ∧ t.gys.outputsOff = false ∧ t.fio.gysOff = false ∧
      t.fio.word = leNat (s.gysBytes 0x6000 6) ∧ t.gys.mem = s.gys.mem ∧ t.gys.dirty = s.gys.dirty ∧
      t = { s with gys := t.gys, fio := t.fio, can0 := t.can0, can1 := t.can1 } := by
  obtain ⟨hat, hpc⟩ := h
  have hex : exec (.sysEnd 0 0) s = .next s.outputPhase :=
    (occurs_pos (by simp [hat])).trans (by rw [State.gysRun, if_neg (by omega)])
  obtain ⟨fio, can0, can1, rec, hdel, hoff, hword⟩ := s.delivered_eq
  obtain ⟨reqs, hreqs⟩ := s.delivered.handRequests_eq
  rw [State.outputPhase_of_none hg, hreqs, hdel] at hex
  exact ⟨_, hex, rfl, rfl, hoff, hword, rfl, rfl, rfl⟩

/-! ## The close and the journals (08 R175, R178, R180) -/

theorem linesPeak_noConfig : isConfig Idx.GYS_LINESPEAK = false := by decide +kernel
theorem lagPeak_noConfig : isConfig Idx.GYS_JLAGPEAK = false := by decide +kernel

/-- A peak value touches its own parameter. -/
theorem State.peak_eq (s : State) {i : Nat} (v : Int) (h : isConfig i = false) :
    ∃ dir, s.peak i v = { s with dir := dir } ∧ (∀ j, j ≠ i → dir.val j = s.dir.val j) ∧ dir.tables = s.dir.tables := by
  refine ⟨(s.peak i v).dir, ?_, fun j hj => s.par_peak i j v h hj, s.tables_peak i v⟩
  apply State.eq_of_blocks
  case h20 => exact s.sec_peak i v h
  all_goals simp

/-- The close of a cycle before a stop that waits for it. -/
def State.closeCycle (s : State) (us : Nat) : State :=
  let n := s.gys.dirty.length
  let s := (s.peak Idx.GYS_LINESPEAK n).peak Idx.GYS_JLAGPEAK (min us 65535)
  { s with gys.journals := s.gys.journals ++ [{ cycle := s.gys.cycle, lines := n, image := s.gys.mem }], gys.dirty := [],
           gys.phase := .boundary }

theorem State.closeCycle_eq (s : State) (us : Nat) : ∃ dir, s.closeCycle us = { s with
    dir := dir, gys.journals := s.gys.journals ++ [⟨s.gys.cycle, s.gys.dirty.length, s.gys.mem, false⟩], gys.dirty := []
    gys.phase := .boundary } ∧
    (∀ j, j ≠ Idx.GYS_LINESPEAK → j ≠ Idx.GYS_JLAGPEAK → dir.val j = s.dir.val j) := by
  obtain ⟨d1, h1, hp1, -⟩ := s.peak_eq (s.gys.dirty.length) linesPeak_noConfig
  obtain ⟨d2, h2, hp2, -⟩ := State.peak_eq { s with dir := d1 } (min us 65535) lagPeak_noConfig
  refine ⟨d2, ?_, fun j hj hj' => (hp2 j hj').trans (hp1 j hj)⟩
  unfold State.closeCycle
  dsimp only
  rw [h1, h2]

theorem execGysClose_of_free {s : State} (us : Nat) (he : s.engines = true) (hp : s.gys.phase = .closing ∨ s.gys.phase = .faulted)
    (hf : s.closeFree = true) : exec (.gysClose us) s = .next (s.closeCycle us).stopAtClose :=
  (occurs_pos (by simp [he, hp, hf])).trans (by unfold State.closeCycle; rfl)

end Sys2Proof.Machine
end

section
/-!
PROOFS. The close, the journals and the cycle deadline (08 R175 to R180).
-/
namespace Sys2Proof.Machine

/-! ## One operation's whole effect -/

/-- Raising an event touches the waiting events and the count of lost ones. -/
theorem State.raise_eq (s : State) (code sev inst : Nat) (data : List (Nat × Int)) :
    ∃ dir tph, s.raise code sev inst data = { s with dir := dir, tph := tph } ∧
      (∀ j, j ≠ Idx.TPH_BUFDROPS → dir.val j = s.dir.val j) ∧ dir.tables = s.dir.tables := by
  refine ⟨(s.raise code sev inst data).dir, (s.raise code sev inst data).tph, ?_, fun j hj => s.par_raise code sev inst data j hj,
    s.tables_raise code sev inst data⟩
  apply State.eq_of_blocks <;> simp

/-- A value that the device writes itself touches its own parameter. -/
theorem State.setOwn_eq (s : State) {i : Nat} (v : Int) (h : isConfig i = false) :
    ∃ dir, s.setOwn i v = { s with dir := dir } ∧ (∀ j, dir.val j = if i = j then v else s.dir.val j) ∧
      dir.tables = s.dir.tables := by
  refine ⟨(s.setOwn i v).dir, ?_, fun j => s.par_setOwn' i j v h, s.tables_setOwn i v⟩
  apply State.eq_of_blocks
  case h20 => exact s.sec_setOwn i v h
  all_goals simp

theorem recsev_ne_bufdrops : Idx.TPH_RECSEV ≠ Idx.TPH_BUFDROPS := by decide

/-- An event raised after changes that leave recording alone is recorded. -/
theorem State.Records.raise_after {s u : State} (code sev inst : Nat) (data : List (Nat × Int)) (ht : u.tph = s.tph)
    (hp : u.par Idx.TPH_RECSEV = s.par Idx.TPH_RECSEV) (hl : u.lmp = s.lmp) (ho : u.host.ops = s.host.ops) :
    s.Records (u.raise code sev inst data) code sev inst :=
  (u.records_raise code sev inst data).after (.of_eq ht) hp hl ho

theorem State.gysOwnersStop_outputs (s : State) : ∀ c ∈ s.gysOwnersStop.fio.ch, c.on = false := by
  intro c hc
  obtain ⟨x, -, rfl⟩ := List.mem_map.mp hc
  rfl

/-! ## The close (08 R175, R178) -/

theorem State.stopAtClose_of_not {s : State} (h : s.gys.ctrl ≠ 3) : s.stopAtClose = s := if_neg h

/-- The close of a cycle that is not to be stopped. -/
theorem execGysClose_runsOn {s : State} (us : Nat) (he : s.engines = true) (hp : s.gys.phase = .closing ∨ s.gys.phase = .faulted)
    (hf : s.closeFree = true) (hc : s.gys.ctrl ≠ 3) :
    ∃ t, exec (.gysClose us) s = .next t ∧
      t.gys = { s.gys with journals := s.gys.journals ++ [⟨s.gys.cycle, s.gys.dirty.length, s.gys.mem, false⟩], dirty := [],
                           phase := .boundary } ∧
      s.ParsKept t [Idx.GYS_LINESPEAK, Idx.GYS_JLAGPEAK] ∧ t = { s with dir := t.dir, gys := t.gys } := by
  obtain ⟨dir, hclose, hpar⟩ := s.closeCycle_eq us
  have hex := execGysClose_of_free us he hp hf
  rw [State.stopAtClose_of_not (by rw [hclose]; exact hc), hclose] at hex
  refine ⟨_, hex, rfl, fun j hj => ?_, rfl⟩
  simp only [List.mem_cons, List.not_mem_nil, or_false, not_or] at hj
  exact hpar j hj.1 hj.2

/-- The close of a cycle that was to be stopped (08 Table GYS-9). -/
theorem execGysClose_stops {s : State} (us : Nat) (he : s.engines = true) (hp : s.gys.phase = .closing) (hf : s.closeFree = true)
    (hc : s.gys.ctrl = 3) (hst : s.gys.st = 1) :
    ∃ t, exec (.gysClose us) s = .next t ∧ t.gys.st = 2 ∧ t.gys.phase = .boundary ∧ t.gys.dirty = [] ∧ t.gys.ctrl = 0 ∧
      (∀ c ∈ t.fio.ch, c.on = false) ∧ s.Records t 0x040B 2 0xFF ∧
      t = { s with dir := t.dir, gys := t.gys, tph := t.tph, fio := t.fio, hst := t.hst } := by
  obtain ⟨dir, hclose, hpar⟩ := s.closeCycle_eq us
  have hex := execGysClose_of_free us he (.inl hp) hf
  rw [hclose, State.stopAtClose, if_pos (show _ = 3 from hc), if_pos (show _ = 1 from hst)] at hex
  obtain ⟨dir', tph, hraise, -⟩ := State.raise_eq (State.gysOwnersStop { s with
    dir := dir, gys.journals := s.gys.journals ++ [⟨s.gys.cycle, s.gys.dirty.length, s.gys.mem, false⟩], gys.dirty := []
    gys.phase := .boundary, gys.ctrl := 0, gys.st := 2 }) 0x040B 2 0xFF []
  have hrec : s.Records (State.raise (State.gysOwnersStop { s with
      dir := dir, gys.journals := s.gys.journals ++ [⟨s.gys.cycle, s.gys.dirty.length, s.gys.mem, false⟩], gys.dirty := []
      gys.phase := .boundary, gys.ctrl := 0, gys.st := 2 }) 0x040B 2 0xFF []) 0x040B 2 0xFF :=
    .raise_after _ _ _ _ rfl (hpar _ (by decide) (by decide)) rfl rfl
  rw [hraise] at hex hrec
  exact ⟨_, hex, rfl, rfl, rfl, rfl, State.gysOwnersStop_outputs _, hrec, rfl⟩

/-! ## The journals (08 R180) -/

theorem makeDurable_first {pre post : List Journal} {j : Journal} (h : ∀ x ∈ pre, x.durable = true) (hj : j.durable = false) :
    makeDurable (pre ++ j :: post) = pre ++ { j with durable := true } :: post := by
  induction pre with
  | nil => simp [makeDurable, hj]
  | cons x pre ih =>
    obtain ⟨hx, hpre⟩ := List.forall_mem_cons.mp h
    rw [List.cons_append, makeDurable, if_pos hx, ih hpre, List.cons_append]

theorem find_notDurable {pre post : List Journal} {j : Journal} (h : ∀ x ∈ pre, x.durable = true) (hj : j.durable = false) :
    (pre ++ j :: post).find? (fun x => !x.durable) = some j := by
  rw [List.find?_append, List.find?_eq_none.mpr (fun x hx => by simp [h x hx])]
  simp [hj]

theorem execJournalDurable_of_oldest {s : State} {pre post : List Journal} {j : Journal} (hc : s.opCounts = true)
    (hjs : s.gys.journals = pre ++ j :: post) (hpre : ∀ x ∈ pre, x.durable = true) (hj : j.durable = false) :
    exec .journalDurable s = .next { s with gys.journals := pre ++ { j with durable := true } :: post, gys.durCycle := j.cycle,
                                            gys.marks := s.gys.marks.filter fun m => decide (j.cycle < m.1) } := by
  refine (occurs_pos (by simp [hc, hjs, hj])).trans ?_
  dsimp only
  rw [hjs, makeDurable_first hpre hj, find_notDurable hpre hj]
  rfl

theorem execJournalApplied_of_oldest {s : State} {js : List Journal} {j : Journal} (hc : s.opCounts = true)
    (hjs : s.gys.journals = j :: js) (hj : j.durable = true) :
    exec .journalApplied s = .next { s with gys.retained := j.image, gys.journals := js } :=
  (occurs_pos (by rw [hc, hjs]; exact hj)).trans (by rw [hjs])

/-! ## The cycle deadline (08 R176, R178) -/

theorem fault_noConfig : isConfig Idx.GYS_FAULT = false := by decide +kernel
theorem faultPc_noConfig : isConfig Idx.GYS_FAULTPC = false := by decide +kernel
theorem faultCyc_noConfig : isConfig Idx.GYS_FAULTCYC = false := by decide +kernel

/-- An application fault with the data of its event. -/
def State.gysFaultWith (s : State) (cause : Nat) (data : List (Nat × Int)) : State :=
  let s := s.raise 0x0401 5 0xFF data
  let s := ((s.setOwn Idx.GYS_FAULT cause).setOwn Idx.GYS_FAULTPC s.gys.pc).setOwn Idx.GYS_FAULTCYC s.gys.cycle
  State.gysOwnersStop { s with gys.st := 3, gys.phase := .faulted }

theorem State.gysFault_eq_with (s : State) (cause : Nat) : ∃ data, s.gysFault cause = s.gysFaultWith cause data := ⟨_, rfl⟩

/-- An application fault: the event and the three parameters, the state, the outputs. -/
theorem State.gysFault_eq (s : State) (cause : Nat) : ∃ dir tph, s.gysFault cause = State.gysOwnersStop { s with
      dir := dir, tph := tph, gys.st := 3, gys.phase := .faulted } ∧ dir.val Idx.GYS_FAULT = cause ∧
      dir.val Idx.GYS_FAULTPC = s.gys.pc ∧ dir.val Idx.GYS_FAULTCYC = s.gys.cycle ∧
      (∀ j, j ∉ [Idx.TPH_BUFDROPS, Idx.GYS_FAULT, Idx.GYS_FAULTPC, Idx.GYS_FAULTCYC] → dir.val j = s.dir.val j) ∧
      dir.tables = s.dir.tables := by
  obtain ⟨data, hfault⟩ := s.gysFault_eq_with cause
  obtain ⟨d0, tph, h0, hp0, ht0⟩ := s.raise_eq 0x0401 5 0xFF data
  obtain ⟨d1, h1, hp1, ht1⟩ := State.setOwn_eq { s with dir := d0, tph := tph } cause fault_noConfig
  obtain ⟨d2, h2, hp2, ht2⟩ := State.setOwn_eq { s with dir := d1, tph := tph } s.gys.pc faultPc_noConfig
  obtain ⟨d3, h3, hp3, ht3⟩ := State.setOwn_eq { s with dir := d2, tph := tph } s.gys.cycle faultCyc_noConfig
  refine ⟨d3, tph, ?_, ?_, ?_, ?_, fun j hj => ?_, ht3.trans (ht2.trans (ht1.trans ht0))⟩
  · rw [hfault, State.gysFaultWith, h0]
    dsimp only
    rw [h1, h2, h3]
  · rw [hp3, if_neg (by decide), hp2, if_neg (by decide), hp1, if_pos rfl]
  · rw [hp3, if_neg (by decide), hp2, if_pos rfl]
  · rw [hp3, if_pos rfl]
  · simp only [List.mem_cons, List.not_mem_nil, or_false, not_or] at hj
    obtain ⟨hj0, hj1, hj2, hj3⟩ := hj
    rw [hp3, if_neg (Ne.symm hj3), hp2, if_neg (Ne.symm hj2), hp1, if_neg (Ne.symm hj1)]
    exact hp0 j hj0

/-- A cycle that is not closed in time faults, and restarts warm within its limit. -/
theorem execCycleDeadline_of_late {s : State} {us : Nat} (he : s.engines = true) (hst : s.gys.st = 1)
    (hp : s.gys.phase = .execute ∨ s.gys.phase = .closing) (hus : s.parN Idx.GYS_CYCMAX ≤ us) :
    ∃ t, exec (.cycleDeadline us) s = .next t ∧ t.gys.st = 3 ∧ t.gys.phase = .faulted ∧ t.par Idx.GYS_FAULT = 1 ∧
      t.par Idx.GYS_FAULTPC = s.gys.pc ∧ t.par Idx.GYS_FAULTCYC = s.gys.cycle ∧ t.gys.mem = s.gys.mem ∧
      t.gys.dirty = s.gys.dirty ∧ (∀ c ∈ t.fio.ch, c.on = false) ∧
      ((s.gys.autoTimes.filter fun x => decide (s.pwr.opTime < x + 86400000)).length < s.parN Idx.GYS_AUTORST →
        t.gys.ctrl = 1 ∧ t.gys.ctrlAuto = true) ∧
      t = { s with dir := t.dir, tph := t.tph, gys := t.gys, fio := t.fio, hst := t.hst } := by
  obtain ⟨dir, tph, hfault, hf, hpc, hcyc, hpar, -⟩ := s.gysFault_eq 1
  have hlim : dir.val Idx.GYS_AUTORST = s.dir.val Idx.GYS_AUTORST := hpar _ (by decide)
  have hex : exec (.cycleDeadline us) s = .next (s.gysFault 1).autoRestart := occurs_pos (by rcases hp with h | h <;> simp [he, hst, h, hus])
  rw [hfault] at hex
  refine ⟨_, hex, ?_⟩
  unfold State.autoRestart
  dsimp only
  split
  · exact ⟨rfl, rfl, hf, hpc, hcyc, rfl, rfl, State.gysOwnersStop_outputs _, fun _ => ⟨rfl, rfl⟩, rfl⟩
  · next hover =>
    refine ⟨rfl, rfl, hf, hpc, hcyc, rfl, rfl, State.gysOwnersStop_outputs _, fun hin => absurd ?_ hover, rfl⟩
    show _ < (dir.val Idx.GYS_AUTORST).toNat
    rw [hlim]
    exact hin

/-- Settles O17: the input phase, the output phase, the close, the journals and the deadline, one law each. -/
theorem cyclesRunAndAreKept : Obligations.CyclesRunAndAreKept := by
  refine ⟨fun s dt h hst hc hd hw hf ha hfo hwf => ?_, fun s h hg => execSysEnd_of_none h hg,
    fun s us he hp hf hc => execGysClose_runsOn us he hp hf hc,
    fun s us he hp hf hc hst => execGysClose_stops us he hp hf hc hst,
    fun s pre post j hc hjs hpre hj => execJournalDurable_of_oldest hc hjs hpre hj,
    fun s j js hc hjs hj => execJournalApplied_of_oldest hc hjs hj,
    fun s us he hst hp hus => execCycleDeadline_of_late he hst hp hus⟩
  obtain ⟨t, m, d, hex, hgys, himg, hcyc, hpwr, hrest⟩ := execGysInputPhase_of_idle h hst hc hd hw hf ha hwf
  refine ⟨t, hex, ?_⟩
  have hgb := hgys
  unfold Gys.begun at hgb
  have hstored (a n : Nat) : t.gysStored a n = leNat (memReadN zeroByte m a n) := by rw [State.gysStored, hgb]
  rw [hstored, hstored, himg, hcyc, hgb, hpwr, hrest]
  exact ⟨rfl, hst, rfl, rfl, rfl, rfl, rfl, rfl, rfl, rfl, rfl, rfl, rfl, rfl, rfl, rfl, rfl, rfl, rfl, rfl, rfl, rfl, rfl, rfl, rfl⟩

end Sys2Proof.Machine
end

section
/-!
PROOFS. Transactions of a host port (05 R95 to R106).
-/
namespace Sys2Proof.Machine

/-! ## Transactions of a host port (05 R94 to R102; 15 R389) -/

/-- Changing slot `h` changes the slots only, and of those only slot `h`. -/
theorem State.modSlot_eq (s : State) {h : Nat} (f : Slot → Slot) (hl : h < s.host.slots.length) :
    s.modSlot h f = { s with host.slots := (s.modSlot h f).host.slots } ∧ (s.modSlot h f).slot h = f (s.slot h) ∧
      ∀ k, k ≠ h → (s.modSlot h f).slot k = s.slot k :=
  ⟨rfl, s.slot_modSlot_self h f hl, fun k hk => s.slot_modSlot_ne h k f hk⟩

theorem execStatus_of_served {s : State} {h crc : Nat} (hl : h < s.host.slots.length) (hs : s.portServed h = true)
    (hw : s.portWakes h = false) (hc : 3 ≤ h ∨ crc = crc32 [1, 0, 0, 0]) :
    ∃ t, exec (.status h crc) s = .next t ∧ t = { s with host.slots := t.host.slots } ∧
      t.slot h = { s.slot h with answer := s.statusBlock h, flagsSeen := s.statusFlags h } ∧ ∀ k, k ≠ h → t.slot k = s.slot k := by
  refine ⟨_, occurs_pos (by simp [hs]), ?_⟩
  rw [hw, if_neg (by decide), if_neg (by omega)]
  exact s.modSlot_eq _ hl

theorem execGet_of_served {s : State} {h : Nat} (queue : Nat) (hl : h < s.host.slots.length) (h3 : h < 3)
    (hs : s.portServed h = true) (hw : s.portWakes h = false) :
    ∃ t, exec (.get h queue (crc32 [3, BitVec.ofNat 8 queue, 0, 0])) s = .next t ∧ t = { s with host.slots := t.host.slots } ∧
      t.slot h = { s.slot h with answerDesc := some (s.getHead h queue) } ∧ ∀ k, k ≠ h → t.slot k = s.slot k := by
  refine ⟨_, occurs_pos (by simp [hs, h3]), ?_⟩
  rw [hw, if_neg (by decide), if_neg (fun hne => hne rfl)]
  exact s.modSlot_eq _ hl

/-- A PUT on an SPI port or the UART whose frame is good goes to its entry. -/
theorem execPut_of_served {s : State} {h : Nat} (queue : Nat) (bytes : List Byte) (tseq : Nat) (h3 : h < 3)
    (hs : s.portServed h = true) (hw : s.portWakes h = false) :
    exec (.put h queue bytes (crc32 ([2, BitVec.ofNat 8 queue, 0, 0] ++ bytes)) tseq) s = .next (s.putServed h queue bytes) := by
  refine (occurs_pos (by simp [hs])).trans ?_
  rw [hw, if_neg (by decide), if_pos h3, if_neg (fun hne => hne rfl)]

theorem State.answer_eq (s : State) {h : Nat} (a : List Byte) (hl : h < s.host.slots.length) :
    s.answer h a = { s with host.slots := (s.answer h a).host.slots } ∧ (s.answer h a).slot h = { s.slot h with answer := a } ∧
      ∀ k, k ≠ h → (s.answer h a).slot k = s.slot k :=
  s.modSlot_eq _ hl

/-- A refused PUT changes the answer alone. -/
theorem State.putServed_of_refused {s : State} {h queue : Nat} {bytes : List Byte} {st : Status} (hl : h < s.host.slots.length)
    (hr : s.entryRefusal h queue bytes = some st) : ∃ t, s.putServed h queue bytes = t ∧
      t = { s with host.slots := t.host.slots } ∧ t.slot h = { s.slot h with answer := (t.slot h).answer } ∧
      ∀ k, k ≠ h → t.slot k = s.slot k := by
  refine ⟨_, rfl, ?_⟩
  rw [State.putServed, hr]
  dsimp only
  generalize resultBytes st 0xFFFF _ = a
  obtain ⟨h1, h2, h3⟩ := s.answer_eq a hl
  exact ⟨h1, by rw [h2], h3⟩

/-- The descriptor of a PUT with the tag and generation that entry gives it. -/
def State.entered (s : State) (h queue tag : Nat) (bytes : List Byte) : Flight :=
  { d := { readDesc bytes with tag := tag, gen := (s.host.gens.getD tag 0 + 1) % 1024 }, slot := h, urgent := queue == 2 * h + 1,
    entered := s.pwr.opTime }

/-- The tag free longest is taken with its next generation (05 R107). -/
def State.takeTag (s : State) (tag : Nat) (rest : List Nat) : State :=
  { s with host.freeTags := rest, host.gens := s.host.gens.set tag ((s.host.gens.getD tag 0 + 1) % 1024) }

/-- A slot with a descriptor more in its normal queue. -/
def Slot.queued (x : Slot) (f : Flight) (now : Nat) : Slot := { x with nq := x.nq ++ [f], lastDesc := now }

theorem State.putServed_of_entered {s : State} {h tag : Nat} {rest : List Nat} {bytes : List Byte}
    (hr : s.entryRefusal h (2 * h) bytes = none) (hf : s.host.freeTags = tag :: rest) :
    ∃ a, s.putServed h (2 * h) bytes =
      ((s.takeTag tag rest).modSlot h fun x => x.queued (s.entered h (2 * h) tag bytes) s.pwr.opTime).answer h a := by
  have hu : (2 * h == 2 * h + 1) = false := by simp
  rw [State.putServed, hr]
  dsimp only
  unfold State.enterDesc State.entered
  simp only [hu, hf, List.headD_cons, List.drop_succ_cons, List.drop_zero, Bool.false_eq_true, if_false]
  exact ⟨_, rfl⟩

/-- A PUT that entry accepts (05 R95, R107). -/
theorem execPut_of_entered {s : State} {h tag : Nat} {rest : List Nat} {bytes : List Byte} (tseq : Nat)
    (hl : h < s.host.slots.length) (h3 : h < 3) (hs : s.portServed h = true) (hw : s.portWakes h = false)
    (hr : s.entryRefusal h (2 * h) bytes = none) (hf : s.host.freeTags = tag :: rest) :
    ∃ t, exec (.put h (2 * h) bytes (crc32 ([2, BitVec.ofNat 8 (2 * h), 0, 0] ++ bytes)) tseq) s = .next t ∧
      t = { s with host.slots := t.host.slots, host.freeTags := rest, host.gens := t.host.gens } ∧
      t.host.gens = s.host.gens.set tag ((s.host.gens.getD tag 0 + 1) % 1024) ∧
      (∃ f, (t.slot h).nq = (s.slot h).nq ++ [f] ∧ f.slot = h ∧ f.d.tag = tag ∧
        f.d.gen = (s.host.gens.getD tag 0 + 1) % 1024 ∧ f.d.opcode = getU bytes 0 1) ∧
      (t.slot h).uq = (s.slot h).uq ∧ (t.slot h).cq = (s.slot h).cq ∧ ∀ k, k ≠ h → t.slot k = s.slot k := by
  obtain ⟨a, hput⟩ := State.putServed_of_entered hr hf
  have hex := (execPut_of_served (2 * h) bytes tseq h3 hs hw).trans (congrArg Host.Outcome.next hput)
  obtain ⟨-, hq, hqk⟩ := (s.takeTag tag rest).modSlot_eq (fun x => x.queued (s.entered h (2 * h) tag bytes) s.pwr.opTime) hl
  obtain ⟨-, ha, hak⟩ := State.answer_eq ((s.takeTag tag rest).modSlot h fun x =>
    x.queued (s.entered h (2 * h) tag bytes) s.pwr.opTime) a (by rw [State.length_modSlot]; exact hl)
  refine ⟨_, hex, rfl, rfl, ⟨s.entered h (2 * h) tag bytes, ?_, rfl, rfl, rfl, rfl⟩, ?_, ?_, fun k hk => (hak k hk).trans (hqk k hk)⟩
  all_goals
    rw [ha, hq]
    rfl

/-- Settles O2: one law for each transaction. -/
theorem hostTransactionsAnswer : Obligations.HostTransactionsAnswer := by
  refine ⟨fun s h crc hl hs hw hc => execStatus_of_served hl hs hw hc,
    fun s h queue hl h3 hs hw => execGet_of_served queue hl h3 hs hw,
    fun s h bytes tseq tag rest hl h3 hs hw hr hf => execPut_of_entered tseq hl h3 hs hw hr hf,
    fun s h queue bytes tseq st hl h3 hs hw hr => ?_, fun s h at_ hl h3 hs hq hp ht => ?_⟩
  · obtain ⟨t, hput, ht⟩ := State.putServed_of_refused hl hr
    exact ⟨t, (execPut_of_served queue bytes tseq h3 hs hw).trans (congrArg Host.Outcome.next hput), ht⟩
  · exact ⟨_, occurs_pos (by simp [hs, h3, hq, hp, ht]), s.modSlot_eq _ hl⟩

end Sys2Proof.Machine
end

section
/-!
PROOFS. Following a chain of operations: events and single parameters.
-/
namespace Sys2Proof.Machine

/-! ## Changes of single parameters, and events -/

/-- From `s` to `t` only events were raised and the listed parameters written, beside the blocks of a frame: the form in which a
chain of operations is followed. -/
theorem State.EventsOnly.refl (s : State) (is : List Nat) : s.EventsOnly s is := ⟨fun _ _ => rfl, rfl, .refl s⟩

theorem State.EventsOnly.tables {s t : State} {is : List Nat} (h : s.EventsOnly t is) : t.dir.tables = s.dir.tables := by
  have hd : t.dir = { s.dir with live := t.dir.live, durable := t.dir.durable } := h.2.1
  rw [hd]

/-- Other blocks do not count. -/
theorem State.EventsOnly.congr {s t u : State} {is : List Nat} (h : s.EventsOnly t is) (hd : u.dir = t.dir) (ht : u.tph = t.tph) :
    s.EventsOnly u is :=
  ⟨fun j hj => (State.par_congr hd j).trans (h.1 j hj), State.tablesKept_of (hd ▸ h.tables), h.2.2.congr ht⟩

theorem State.EventsOnly.of_eq {s t : State} (is : List Nat) (hd : t.dir = s.dir) (ht : t.tph = s.tph) : s.EventsOnly t is :=
  (State.EventsOnly.refl s is).congr hd ht

theorem State.EventsOnly.trans {s t u : State} {is : List Nat} (h : s.EventsOnly t is) (h' : t.EventsOnly u is) : s.EventsOnly u is :=
  ⟨fun j hj => (h'.1 j hj).trans (h.1 j hj), State.tablesKept_of (h'.tables.trans h.tables), h.2.2.trans h'.2.2⟩

theorem State.EventsOnly.mono {s t : State} {is js : List Nat} (h : s.EventsOnly t is) (hs : is ⊆ js) : s.EventsOnly t js :=
  ⟨fun j hj => h.1 j fun hi => hj (List.cons_subset_cons _ hs hi), h.2⟩

theorem State.EventsOnly.raiseEvt {s t : State} {is : List Nat} (h : s.EventsOnly t is) (e : Evt) : s.EventsOnly (t.raiseEvt e) is :=
  ⟨fun j hj => (t.par_raiseEvt e j fun he => hj (he ▸ List.mem_cons_self)).trans (h.1 j hj),
    State.tablesKept_of ((t.tables_raiseEvt e).trans h.tables), h.2.2.raiseEvt e⟩

theorem State.EventsOnly.raise {s t : State} {is : List Nat} (h : s.EventsOnly t is) (code sev inst : Nat) (data : List (Nat × Int)) :
    s.EventsOnly (t.raise code sev inst data) is := h.raiseEvt _

theorem State.EventsOnly.raiseCounted {s t : State} {is : List Nat} (h : s.EventsOnly t is) (code sev inst : Nat)
    (data : List (Nat × Int)) : s.EventsOnly (t.raiseCounted code sev inst data) is := h.raiseEvt _

theorem State.EventsOnly.raiseNative {s t : State} {is : List Nat} (h : s.EventsOnly t is) (code sev inst : Nat)
    (data : List (Nat × Int)) : s.EventsOnly (t.raiseNative code sev inst data) is := h.raiseEvt _

theorem State.EventsOnly.setOwn {s t : State} {is : List Nat} (h : s.EventsOnly t is) {i : Nat} (v : Int) (hi : i ∈ is)
    (hc : isConfig i = false) : s.EventsOnly (t.setOwn i v) is :=
  ⟨fun j hj => ((t.par_setOwn' i j v hc).trans (if_neg fun he : i = j => hj (List.mem_cons_of_mem _ (he ▸ hi)))).trans (h.1 j hj),
    State.tablesKept_of ((t.tables_setOwn i v).trans h.tables), h.2.2.congr (t.tph_setOwn_queue i v)⟩

theorem State.EventsOnly.setPar {s t : State} {is : List Nat} (h : s.EventsOnly t is) {i : Nat} (v : Int) (hi : i ∈ is) :
    s.EventsOnly (t.setPar i v) is :=
  ⟨fun j hj => ((t.par_setPar i j v).trans (if_neg fun he : i = j => hj (List.mem_cons_of_mem _ (he ▸ hi)))).trans (h.1 j hj),
    State.tablesKept_of h.tables, h.2.2.congr rfl⟩

theorem State.EventsOnly.bump {s t : State} {is : List Nat} (h : s.EventsOnly t is) {i : Nat} (k : Nat) (hi : i ∈ is)
    (hc : isConfig i = false) : s.EventsOnly (t.bump i k) is := h.setOwn _ hi hc

theorem State.EventsOnly.peak {s t : State} {is : List Nat} (h : s.EventsOnly t is) {i : Nat} (v : Int) (hi : i ∈ is)
    (hc : isConfig i = false) : s.EventsOnly (t.peak i v) is := by
  unfold State.peak
  split
  · exact h.setOwn v hi hc
  · exact h

theorem State.EventsOnly.enter {s t : State} {is : List Nat} (h : s.EventsOnly t is) (new : DevState) (cause : Nat) :
    s.EventsOnly (t.enter new cause) is := (h.raise _ _ _ _).congr rfl rfl

theorem State.EventsOnly.ite {s t u : State} {is : List Nat} {c : Prop} [Decidable c] (h : s.EventsOnly t is) (h' : s.EventsOnly u is) :
    s.EventsOnly (if c then t else u) is := by
  split
  · exact h
  · exact h'

theorem State.EventsOnly.foldl {α : Type} {g : State → α → State} {is : List Nat} (h : ∀ (s : State) x, s.EventsOnly (g s x) is) (l : List α)
    (s : State) : s.EventsOnly (l.foldl g s) is := by
  induction l generalizing s with
  | nil => exact .refl s is
  | cons x l ih => exact (h s x).trans (ih (g s x))

/-- A counter below the top of its range rises. -/
theorem State.par_bump_self (s : State) {i k : Nat} {hi : Int} (hc : isConfig i = false)
    (hr : (paramInfo i).map (fun r => r.hi) = some hi) (hk : s.par i + k ≤ hi) : (s.bump i k).par i = s.par i + k := by
  unfold State.bump
  obtain ⟨r, hr', hhi⟩ := Option.map_eq_some_iff.mp hr
  rw [State.par_setOwn' _ _ _ _ hc, if_pos rfl, hr']
  subst hhi
  exact if_pos hk

/-- A counter at the top of its range stays there. -/
theorem State.par_bump_top (s : State) {i k : Nat} {hi : Int} (hc : isConfig i = false)
    (hr : (paramInfo i).map (fun r => r.hi) = some hi) : (s.bump i k).par i = min (s.par i + k) hi := by
  unfold State.bump
  obtain ⟨r, hr', hhi⟩ := Option.map_eq_some_iff.mp hr
  rw [State.par_setOwn' _ _ _ _ hc, if_pos rfl, hr']
  subst hhi
  dsimp only
  split <;> omega

end Sys2Proof.Machine
end

section
/-!
PROOFS. Queues, completions and load of the host block (05 R98 to R108).
-/
namespace Sys2Proof.Machine

/-! ## Queues, completions and load (05 R98, R100, R108, R114) -/

theorem execRelease_of_served {s : State} {h count : Nat} (hl : h < s.host.slots.length) (hs : s.portServed h = true)
    (hw : s.portWakes h = false) (h1 : 1 ≤ count) (h8 : count ≤ 8) (hc : count ≤ (s.slot h).cq.length) :
    ∃ t, exec (.release h (16 + h) count (crc32 [4, BitVec.ofNat 8 (16 + h), BitVec.ofNat 8 count, 0])) s = .next t ∧
      t = { s with host.slots := t.host.slots } ∧ (t.slot h).cq = (s.slot h).cq.drop count ∧
      (t.slot h).nq = (s.slot h).nq ∧ (t.slot h).uq = (s.slot h).uq ∧ ∀ k, k ≠ h → t.slot k = s.slot k := by
  have hex : exec (.release h (16 + h) count (crc32 [4, BitVec.ofNat 8 (16 + h), BitVec.ofNat 8 count, 0])) s =
      .next ((s.modSlot h fun x => { x with cq := x.cq.drop count, pushAt := none }).answer h
        (resultBytes .ok 0xFFFF ((s.slot h).cq.length - count))) := by
    refine (occurs_pos (by simp [hs])).trans ?_
    have hno : ¬(count = 0 ∨ 8 < count ∨ (s.slot h).cq.length < count) := by omega
    rw [hw, if_neg (by decide), if_neg (fun hne => hne.2 rfl), State.releaseServed, State.releaseFill, if_pos rfl]
    dsimp only
    rw [if_neg hno, State.releaseFrom, if_pos rfl]
  obtain ⟨-, hq, hqk⟩ := s.modSlot_eq (fun x => { x with cq := x.cq.drop count, pushAt := none }) hl
  obtain ⟨-, ha, hak⟩ := State.answer_eq (s.modSlot h fun x => { x with cq := x.cq.drop count, pushAt := none })
    (resultBytes .ok 0xFFFF ((s.slot h).cq.length - count)) (by rw [State.length_modSlot]; exact hl)
  exact ⟨_, hex, rfl, by rw [ha, hq], by rw [ha, hq], by rw [ha, hq], fun k hk => (hak k hk).trans (hqk k hk)⟩

theorem portErr_noConfig : isConfig Idx.HOST_PORTERR = false := by decide +kernel
theorem portErr_hi : (paramInfo Idx.HOST_PORTERR).map (fun r => r.hi) = some (2 ^ 32 - 1) := by decide +kernel

theorem State.bump_eq (s : State) {i : Nat} (k : Nat) (h : isConfig i = false) :
    ∃ dir, s.bump i k = { s with dir := dir } ∧ (∀ j, j ≠ i → dir.val j = s.dir.val j) ∧ dir.tables = s.dir.tables := by
  obtain ⟨dir, hb, hp, ht⟩ := s.setOwn_eq (i := i) _ h
  exact ⟨dir, hb, fun j hj => (hp j).trans (if_neg (Ne.symm hj)), ht⟩

theorem execTransactionCutShort_of_served {s : State} {h : Nat} (h2 : h < 2) (hs : s.portServed h = true)
    (hlt : s.par Idx.HOST_PORTERR < 2 ^ 32 - 1) :
    ∃ t, exec (.transactionCutShort h) s = .next t ∧ t = { s with dir := t.dir } ∧ s.TablesKept t ∧
      t.par Idx.HOST_PORTERR = s.par Idx.HOST_PORTERR + 1 ∧ s.ParsKept t [Idx.HOST_PORTERR] := by
  have hpar := s.par_bump_self (k := 1) portErr_noConfig portErr_hi (Int.add_one_le_iff.mpr hlt)
  refine ⟨_, occurs_pos (by simp [h2, hs]), ?_, ?_, ?_, ?_⟩
  · obtain ⟨dir, hb, -⟩ := s.bump_eq 1 portErr_noConfig
    rw [hb]
  · exact State.tablesKept_of (s.tables_bump _ 1)
  · exact hpar
  · exact fun j hj => s.par_bump _ j 1 portErr_noConfig (by simpa using hj)

/-- The signature changes nothing but the tag of the message. -/
theorem State.signFor_eq (s : State) (h : Nat) (d : Desc) : ∃ m, s.signFor h d = { d with mac := m } := by
  unfold State.signFor
  split
  · exact ⟨_, rfl⟩
  · exact ⟨d.mac, rfl⟩

/-- The oldest waiting completion of slot `h` leaves the store, and its tag is free. -/
def State.takenFrom (s : State) (h : Nat) (d : Desc) : State :=
  { s with host.store := dropFirst h s.host.store, host.freeTags := s.host.freeTags ++ [d.tag] }

theorem execCompletionQueued_of_room {s : State} {h : Nat} {d : Desc} (hl : h < s.host.slots.length) (hd : s.waitingFor h = some d)
    (hroom : (s.slot h).cq.length < 8) (hr : h < 3 ∨ (s.slot h).ringHost.isSome = true) :
    ∃ t, exec (.completionQueued h) s = .next t ∧ t = { s with host := t.host } ∧
      t.host.freeTags = s.host.freeTags ++ [d.tag] ∧ t.host.store = dropFirst h s.host.store ∧
      (∃ e, (t.slot h).cq = (s.slot h).cq ++ [e] ∧ e.tag = d.tag ∧ e.status = d.status ∧ e.payload = d.payload ∧
        e.seq = ((s.slot h).cseq + 1) % 2 ^ 32) ∧ ∀ k, k ≠ h → t.slot k = s.slot k := by
  have hcond : exec (.completionQueued h) s = .next (s.deliver h d) :=
    (occurs_pos (by simp [hd, hroom])).trans (by rw [hd]; rfl)
  obtain ⟨-, hc, hck⟩ := (s.takenFrom h d).modSlot_eq (fun x => { x with cseq := ((s.slot h).cseq + 1) % 2 ^ 32 }) hl
  generalize hu : (s.takenFrom h d).modSlot h (fun x => { x with cseq := ((s.slot h).cseq + 1) % 2 ^ 32 }) = u at hc hck
  have hul : h < u.host.slots.length := by rw [← hu, State.length_modSlot]; exact hl
  have hring : ¬(3 ≤ h ∧ (u.slot h).ringHost.isNone = true) := by
    rw [hc]
    intro hn
    rcases hr with hr | hr
    · omega
    · have hnone : (s.slot h).ringHost.isNone = true := hn.2
      simp [Option.isNone_iff_eq_none.mp hnone] at hr
  have hdel : s.deliver h d = u.modSlot h fun x => { x with
      cq := x.cq ++ [u.signFor h { d with seq := ((s.slot h).cseq + 1) % 2 ^ 32 }], pushAt := some u.pwr.opTime } := by
    subst hu
    exact if_neg hring
  obtain ⟨m, hm⟩ := u.signFor_eq h { d with seq := ((s.slot h).cseq + 1) % 2 ^ 32 }
  rw [hm] at hdel
  obtain ⟨-, hq, hqk⟩ := u.modSlot_eq (fun x => { x with
      cq := x.cq ++ [{ d with seq := ((s.slot h).cseq + 1) % 2 ^ 32, mac := m }], pushAt := some u.pwr.opTime }) hul
  rw [hdel] at hcond
  refine ⟨_, hcond, ?_, ?_, ?_, ⟨{ d with seq := ((s.slot h).cseq + 1) % 2 ^ 32, mac := m }, ?_, rfl, rfl, rfl, rfl⟩,
    fun k hk => (hqk k hk).trans (hck k hk)⟩
  · subst hu; rfl
  · subst hu; rfl
  · subst hu; rfl
  · rw [hq, hc]
    rfl

theorem execHostNop_of_admitted {s : State} {tag : Nat} (h : s.Admitted tag 0x00 0) :
    ∃ t, exec (.hostNop tag) s = .next t ∧ t = { s with host := t.host } ∧ s.Completed t tag .ok := by
  refine ⟨_, occurs_pos h.1, ?_⟩
  rw [State.hostCmd_of_admitted h]
  exact ⟨rfl, s.completed_complete _ tag 0x00 _ _ _ _ _ h.1 rfl⟩

theorem load_noConfig : isConfig Idx.HOST_LOAD = false := by decide +kernel
theorem loadPeak_noConfig : isConfig Idx.HOST_LOADPEAK = false := by decide +kernel
theorem ovlCount_noConfig : isConfig Idx.HOST_OVLCOUNT = false := by decide +kernel

/-- The parameters that an overload writes. -/
def State.overloaded (s : State) (load : Nat) : State :=
  ((s.setOwn Idx.HOST_LOAD load).peak Idx.HOST_LOADPEAK load).bump Idx.HOST_OVLCOUNT

theorem State.overloaded_sec (s : State) (load : Nat) : (s.overloaded load).sec = s.sec :=
  (State.sec_bump _ _ 1 ovlCount_noConfig).trans ((State.sec_peak _ _ _ loadPeak_noConfig).trans (s.sec_setOwn _ _ load_noConfig))

theorem execHostOverload_of_load {s : State} {load : Nat} (hs : s.lmpServes = true) (ho : s.host.overload = false) (hl : 850 < load) :
    ∃ t, exec (.hostOverload load) s = .next t ∧ t.host = { s.host with overload := true } ∧
      t.par Idx.HOST_LOAD = load ∧ s.ParsKept t [Idx.HOST_LOAD, Idx.HOST_LOADPEAK, Idx.HOST_OVLCOUNT, Idx.TPH_BUFDROPS] ∧
      s.Records t 0x0201 3 0xFF ∧ t = { s with host := t.host, dir := t.dir, tph := t.tph } ∧ s.TablesKept t ∧
      s.RecorderKept t := by
  have hpars : s.EventsOnly (s.overloaded load) [Idx.HOST_LOAD, Idx.HOST_LOADPEAK, Idx.HOST_OVLCOUNT] :=
    (((State.EventsOnly.refl s _).setOwn _ (by simp) load_noConfig).peak _ (by simp) loadPeak_noConfig).bump 1 (by simp)
      ovlCount_noConfig
  have hload : (s.overloaded load).par Idx.HOST_LOAD = load := by
    unfold State.overloaded
    rw [State.par_bump _ _ _ _ ovlCount_noConfig (by decide), State.par_peak _ _ _ _ loadPeak_noConfig (by decide),
      State.par_setOwn' _ _ _ _ load_noConfig, if_pos rfl]
  have hrec : s.Records ((s.overloaded load).raise 0x0201 3) 0x0201 3 0xFF :=
    .raise_after _ _ _ _ (by simp [State.overloaded]) (hpars.1 _ (by decide)) (by simp [State.overloaded]) (by simp [State.overloaded])
  obtain ⟨hkept, htab, hrk⟩ := hpars.raise 0x0201 3 0xFF []
  refine ⟨_, occurs_pos (by simp [hs, ho, hl]), by simp, ?_, fun j hj => hkept j ?_, hrec, ?_, htab, hrk⟩
  · exact ((s.overloaded load).par_raise _ _ _ _ _ (by decide)).trans hload
  · simp only [List.mem_cons, List.not_mem_nil, or_false] at hj ⊢
    tauto
  · apply State.eq_of_blocks
    case h20 => exact (State.sec_raise _ _ _ _ _).trans (s.overloaded_sec load)
    all_goals simp

theorem execHostOverloadEnd_of_quiet {s : State} {load heldMs : Nat} (hs : s.lmpServes = true) (ho : s.host.overload = true)
    (hl : load ≤ 750) (hh : 100 ≤ heldMs) :
    ∃ t, exec (.hostOverloadEnd load heldMs) s = .next t ∧ t.host = { s.host with overload := false } ∧
      t.par Idx.HOST_LOAD = load ∧ s.ParsKept t [Idx.HOST_LOAD, Idx.TPH_BUFDROPS] ∧ s.Records t 0x0202 2 0xFF ∧
      t = { s with host := t.host, dir := t.dir, tph := t.tph } ∧ s.TablesKept t ∧ s.RecorderKept t := by
  have hpars : s.EventsOnly (s.setOwn Idx.HOST_LOAD load) [Idx.HOST_LOAD] :=
    (State.EventsOnly.refl s _).setOwn _ (by simp) load_noConfig
  have hrec : s.Records ((s.setOwn Idx.HOST_LOAD load).raise 0x0202 2) 0x0202 2 0xFF :=
    .raise_after _ _ _ _ (by simp) (hpars.1 _ (by decide)) (by simp) (by simp)
  obtain ⟨hkept, htab, hrk⟩ := hpars.raise 0x0202 2 0xFF []
  refine ⟨_, occurs_pos (by simp [hs, ho, hl, hh]), by simp, ?_, fun j hj => hkept j ?_, hrec, ?_, htab, hrk⟩
  · exact ((s.setOwn Idx.HOST_LOAD load).par_raise _ _ _ _ _ (by decide)).trans
      ((s.par_setOwn' _ _ _ load_noConfig).trans (if_pos rfl))
  · simp only [List.mem_cons, List.not_mem_nil, or_false] at hj ⊢
    tauto
  · apply State.eq_of_blocks
    case h20 => exact (State.sec_raise _ _ _ _ _).trans (s.sec_setOwn _ _ load_noConfig)
    all_goals simp

/-- Settles O3: one law for each row. -/
theorem hostQueuesMoveAndOverload : Obligations.HostQueuesMoveAndOverload :=
  ⟨fun _ _ _ hl _ hs hw h1 h8 hc => execRelease_of_served hl hs hw h1 h8 hc,
    fun _ _ h2 hs hlt => execTransactionCutShort_of_served h2 hs hlt,
    fun _ _ _ hl hd hroom hr => execCompletionQueued_of_room hl hd hroom hr,
    fun _ _ h => execHostNop_of_admitted h,
    fun _ _ hs ho hl => execHostOverload_of_load hs ho hl,
    fun _ _ _ hs ho hl hh => execHostOverloadEnd_of_quiet hs ho hl hh⟩

end Sys2Proof.Machine
end

section
/-!
PROOFS. A write of HOST.SPTRUST and two commands of one tag (06 R121; 05 R92).
-/
namespace Sys2Proof.Machine

/-- A write of HOST.SPTRUST that waits for its boundary, under tag 1. -/
def trustWrite : Flight := { d := { tag := 1 }, slot := 3, phase := .paramApply Idx.HOST_SPTRUST 1 }

/-- Slot 0 has a session, and a command under the same tag waits in its urgent queue. -/
def twoOfOneTag : State :=
  { State.reset with
    host.ops := [trustWrite]
    host.slots := { session := some { priv := 0, epoch := 0, kc := 0, kr := 0 }, uq := [{ d := { tag := 1 }, slot := 0 }] } ::
      State.reset.host.slots.drop 1 }

theorem exec_paramApply_twoOfOneTag :
    exec (.paramApply 1) twoOfOneTag = .next (twoOfOneTag.applyWrite trustWrite Idx.HOST_SPTRUST 1) :=
  occurs_pos (by decide +kernel)

/-- The session that closes takes the write with it. -/
theorem flight_applyWrite_twoOfOneTag :
    ((twoOfOneTag.applyWrite trustWrite Idx.HOST_SPTRUST 1).flight 1).phase = .queued := by decide +kernel

/-- Refutes O6: the write of HOST.SPTRUST that makes port H0 trusted closes the session of slot 0, and with it every command that waits
in its queues; where one of them bears the tag of the write itself, the write is gone from the commands in flight and awaits
nothing. The statement has no premise that tags differ. -/
theorem not_parametersAreReadAndWritten : ¬ Obligations.ParametersAreReadAndWritten := by
  unfold Obligations.ParametersAreReadAndWritten
  rintro ⟨-, -, -, apply, -⟩
  obtain ⟨t, ht, -, -, hphase⟩ := apply twoOfOneTag 1 Idx.HOST_SPTRUST 1 trustWrite (by decide +kernel) rfl (by decide +kernel)
    (by decide +kernel) (by decide +kernel) (by decide +kernel) (by decide +kernel) (by decide +kernel)
  rw [← Host.Outcome.next.inj (exec_paramApply_twoOfOneTag.symm.trans ht)] at hphase
  exact Phase.noConfusion (flight_applyWrite_twoOfOneTag.symm.trans hphase)

end Sys2Proof.Machine
end

section
/-!
PROOFS. Groups: opening, staging, expiry, commit and abort (07 R141 to R155).
-/
namespace Sys2Proof.Machine

/-! ## Groups (07 R141 to R144) -/

theorem State.group_modGroup_self (s : State) {g : Nat} (f : Group → Group) (hl : g < s.grp.groups.length) :
    (s.modGroup g f).group g = f (s.group g) := getD_modifyAt_self _ _ _ _ hl

theorem State.group_modGroup_ne (s : State) {g k : Nat} (f : Group → Group) (hk : k ≠ g) : (s.modGroup g f).group k = s.group k :=
  getD_modifyAt_ne _ _ _ _ _ hk

theorem State.length_modGroup (s : State) (g : Nat) (f : Group → Group) :
    (s.modGroup g f).grp.groups.length = s.grp.groups.length := length_modifyAt _ _ _

theorem State.group_congr {s t : State} (h : t.grp = s.grp) (k : Nat) : t.group k = s.group k := by
  unfold State.group
  rw [h]

theorem State.openParts_of_none {p : List Byte} (h : getU p 1 1 = 0) : openParts p = [] := by
  unfold openParts
  rw [h]
  rfl

theorem execGrpOpen_of_free {s : State} {tag g : Nat} (hl : g < s.grp.groups.length) (ha : s.Admitted tag 0x18 1)
    (hx : getU (s.flight tag).p 0 1 % 2 = 0) (hn : getU (s.flight tag).p 1 1 = 0) (hm : s.hostGroups < s.parN Idx.GRP_HOSTMAX)
    (hf : s.freeGroup = some g) :
    ∃ t, exec (.grpOpen tag) s = .next t ∧ t = { s with host := t.host, grp := t.grp } ∧ s.Completed t tag .ok ∧
      (t.group g).state = 1 ∧ (t.group g).owner = .host (s.flight tag).slot ∧ (t.group g).cross = false ∧
      (t.group g).gen = ((s.group g).gen + 1) % 65536 ∧ (t.group g).acts = [] ∧ (∀ k, k ≠ g → t.group k = s.group k) := by
  have hcross : (getU (s.flight tag).p 0 1).testBit 0 = false := by simp [Nat.testBit_zero, hx]
  have hparts := State.openParts_of_none hn
  have hex : exec (.grpOpen tag) s = .next (((s.noteSeq (s.flight tag)).allocGroup g (.host (s.flight tag).slot) false []).complete
      (s.flight tag) .ok 0 (toLe 1 g ++ [0] ++ toLe 2 ((((s.noteSeq (s.flight tag)).allocGroup g (.host (s.flight tag).slot) false
        []).group g).gen)) true) := by
    refine (occurs_pos ha.1).trans ?_
    rw [State.hostCmd_of_admitted ha]
    dsimp only
    rw [hcross, hparts, hn, if_neg (by simp), if_neg (by simp), if_neg (show ¬(s.noteSeq (s.flight tag)).parN Idx.GRP_HOSTMAX ≤
      (s.noteSeq (s.flight tag)).hostGroups from Nat.not_le.mpr hm), show (s.noteSeq (s.flight tag)).freeGroup = some g from hf]
  have hself := State.group_modGroup_self (s.noteSeq (s.flight tag)) (g := g) (fun x =>
    { state := 1, gen := (x.gen + 1) % 65536, owner := .host (s.flight tag).slot, cross := false, parts := [],
      openedAt := s.pwr.opTime, openTmo := s.parN Idx.GRP_OPENTMO, maxAct := s.parN Idx.GRP_MAXACT,
      xhold := s.parN Idx.GRP_XHOLD, xrepeat := s.parN Idx.GRP_XREPEAT }) hl
  refine ⟨_, hex, rfl, s.completed_complete _ tag 0x18 _ _ _ _ _ ha.1 rfl, ?_, ?_, ?_, ?_, ?_,
    fun k hk => State.group_modGroup_ne (s.noteSeq (s.flight tag)) _ hk⟩
  · exact congrArg Group.state hself
  · exact congrArg Group.owner hself
  · exact congrArg Group.cross hself
  · exact congrArg Group.gen hself
  · exact congrArg Group.acts hself

/-- A GRP_STAGE whose checks pass. -/
theorem stageRow_of_passed {s : State} {tag g : Nat} {p : Nat → Bool} (hl : g < s.grp.groups.length) (ha : s.Admitted tag 0x19 0)
    (hp : p (getU (s.flight tag).p 5 1) = true) (hg : getU (s.flight tag).p 0 1 = g)
    (hs : (s.noteSeq (s.flight tag)).stageRefused (s.flight tag) = none)
    (hr : (s.noteSeq (s.flight tag)).actRefused (s.flight tag) (s.group g) (s.flight tag).act = none) :
    ∃ t, stageRow tag p s = .next t ∧ t = { s with host := t.host, grp := t.grp } ∧ s.Completed t tag .ok ∧
      t.group g = { s.group g with acts := ((s.noteSeq (s.flight tag)).putAct (s.group g).acts (s.flight tag).act).1 } ∧
      (∀ k, k ≠ g → t.group k = s.group k) := by
  have hex : stageRow tag p s = .next (((s.noteSeq (s.flight tag)).modGroup g fun x => { x with acts :=
      ((s.noteSeq (s.flight tag)).putAct (s.group g).acts (s.flight tag).act).1 }).complete (s.flight tag) .ok 0
      (toLe 2 ((s.noteSeq (s.flight tag)).putAct (s.group g).acts (s.flight tag).act).2.1 ++ [0, 0] ++
        toLe 4 ((s.noteSeq (s.flight tag)).putAct (s.group g).acts (s.flight tag).act).2.2) true) := by
    refine (occurs_pos (by simp [ha.1, hp])).trans ?_
    rw [State.hostCmd_of_admitted ha, State.stage, hs]
    dsimp only
    rw [hg, show (s.noteSeq (s.flight tag)).group g = s.group g from rfl, hr]
  refine ⟨_, hex, rfl, s.completed_complete _ tag 0x19 _ _ _ _ _ ha.1 rfl, State.group_modGroup_self (s.noteSeq (s.flight tag)) _ hl,
    fun k hk => State.group_modGroup_ne (s.noteSeq (s.flight tag)) _ hk⟩

theorem State.freeUp_eq (s : State) {g : Nat} (hl : g < s.grp.groups.length) :
    ∃ gs, s.freeUp g = { s with grp.groups := gs } ∧ gs.getD g {} = { gen := (s.group g).gen } ∧
      ∀ k, k ≠ g → gs.getD k {} = s.group k :=
  ⟨_, rfl, s.group_modGroup_self _ hl, fun _ hk => s.group_modGroup_ne _ hk⟩

theorem execGrpExpired_of_due {s : State} {g h : Nat} (h8 : g < 8) (hl : g < s.grp.groups.length) (ho : s.opCounts = true)
    (hst : (s.group g).state = 1) (hw : (s.group g).owner = .host h)
    (hd : (s.group g).openedAt + (s.group g).openTmo * 1000 ≤ s.pwr.opTime) :
    ∃ t, exec (.grpExpired g) s = .next t ∧ (t.group g).state = 0 ∧ (t.group g).gen = (s.group g).gen ∧
      (t.group g).acts = [] ∧ (∀ k, k ≠ g → t.group k = s.group k) ∧ s.Records t 0x0303 2 g ∧
      t = { s with grp := t.grp, dir := t.dir, tph := t.tph } ∧ s.ParsKept t [Idx.TPH_BUFDROPS] ∧ s.RecorderKept t := by
  obtain ⟨gs, hfree, hself, hne⟩ := s.freeUp_eq hl
  have hrec : s.Records ((s.freeUp g).raise 0x0303 2 g) 0x0303 2 g := .raise_after _ _ _ _ rfl rfl rfl rfl
  have hev : s.EventsOnly ((s.freeUp g).raise 0x0303 2 g) [] := (State.EventsOnly.of_eq [] rfl rfl).raise _ _ _ _
  have hex : exec (.grpExpired g) s = .next ((s.freeUp g).raise 0x0303 2 g) := occurs_pos (by simp [h8, ho, hst, hw, hd])
  obtain ⟨dir, tph, hraise, -⟩ := (s.freeUp g).raise_eq 0x0303 2 g []
  rw [hraise, hfree] at hex hrec hev
  refine ⟨_, hex, congrArg Group.state hself, (congrArg Group.gen hself).trans rfl, congrArg Group.acts hself, hne, hrec, rfl, hev.1, hev.2.2⟩

theorem State.groupGone_of_kept {s : State} {g gen : Nat} (h8 : g < 8) (hs : (s.group g).state ≠ 0) (hg : gen = (s.group g).gen) :
    s.groupGone g gen = none := by
  unfold State.groupGone
  rw [if_neg (by omega), if_pos ⟨hs, hg.symm⟩]

/-- A change of a command in flight that leaves its tag finds it again. -/
theorem State.flight?_modFlight (s : State) (tag : Nat) {k : Flight → Flight} (hk : ∀ f, (k f).d = f.d) :
    (s.modFlight tag k).flight? tag = (s.flight? tag).map k := by
  unfold State.flight? State.modFlight
  dsimp only
  induction s.host.ops with
  | nil => rfl
  | cons x xs ih =>
    by_cases hx : (x.d.tag == tag) = true
    · have hkx : ((k x).d.tag == tag) = true := by rw [hk, hx]
      rw [List.map_cons, List.find?_cons, List.find?_cons, if_pos hx, hkx, hx]
      rfl
    · simp only [List.map_cons, if_neg hx, List.find?_cons, Bool.not_eq_true] at hx ⊢
      simp only [hx, ih]

theorem State.flight_setPhase {s : State} {tag : Nat} (p : Phase) (h : (s.flight? tag).isSome = true) :
    ((s.setPhase tag p).flight tag).phase = p := by
  obtain ⟨f, hf⟩ := Option.isSome_iff_exists.mp h
  have hset := s.flight?_modFlight tag (k := fun f => { f with phase := p }) fun _ => rfl
  rw [hf, Option.map_some] at hset
  unfold State.flight State.setPhase
  rw [hset]
  rfl

/-- Group `g` handed to the executor (07 R153). -/
def State.handOver (s : State) (g : Nat) : State :=
  let s := s.modGroup g fun x => { x with state := 2, order := s.grp.nextOrder }
  { s with grp.nextOrder := s.grp.nextOrder + 1 }

theorem execGrpCommit_of_local {s : State} {tag g : Nat} (hl : g < s.grp.groups.length) (ha : s.Admitted tag 0x1A 1)
    (hg : getU (s.flight tag).p 0 1 = g) (h8 : g < 8) (hgen : getU (s.flight tag).p 2 2 = (s.group g).gen)
    (hst : (s.group g).state = 1) (ho : (s.group g).owner = .host (s.flight tag).slot) (hc : (s.group g).cross = false) :
    ∃ t, exec (.grpCommit tag) s = .next t ∧ t = { s with host := t.host, grp := t.grp } ∧
      t.group g = { s.group g with state := 2, order := s.grp.nextOrder } ∧ (∀ k, k ≠ g → t.group k = s.group k) ∧
      (t.flight tag).phase = .groupWait g ∧ t.host.store = s.host.store := by
  obtain ⟨-, -, -, hfl⟩ := State.tag_of_hostReady ha.1
  have hgone : (s.noteSeq (s.flight tag)).groupGone g (getU (s.flight tag).p 2 2) = none :=
    State.groupGone_of_kept h8 (by rw [show (s.noteSeq (s.flight tag)).group g = s.group g from rfl, hst]; decide) hgen
  have hex : exec (.grpCommit tag) s = .next (((s.noteSeq (s.flight tag)).handOver g).setPhase tag (.groupWait g)) := by
    refine (occurs_pos ha.1).trans ?_
    rw [State.hostCmd_of_admitted ha]
    dsimp only
    rw [hg, hgone, show (s.noteSeq (s.flight tag)).group g = s.group g from rfl, ho, hst, hc]
    dsimp only
    rw [if_neg (by simp), if_neg (by simp), if_pos (by simp)]
    rfl
  refine ⟨_, hex, rfl, State.group_modGroup_self (s.noteSeq (s.flight tag)) _ hl,
    fun k hk => State.group_modGroup_ne (s.noteSeq (s.flight tag)) _ hk, State.flight_setPhase _ ?_, rfl⟩
  exact Option.isSome_iff_exists.mpr ⟨_, hfl⟩

theorem execGrpAbort_of_open {s : State} {tag g : Nat} (hl : g < s.grp.groups.length) (ha : s.Admitted tag 0x1B 1)
    (hg : getU (s.flight tag).p 0 1 = g) (h8 : g < 8) (hgen : getU (s.flight tag).p 2 2 = (s.group g).gen)
    (hst : (s.group g).state = 1) (ho : (s.group g).owner = .host (s.flight tag).slot) :
    ∃ t, exec (.grpAbort tag) s = .next t ∧ t = { s with host := t.host, grp := t.grp } ∧ s.Completed t tag .ok ∧
      (t.group g).state = 0 ∧ (t.group g).gen = (s.group g).gen ∧ (∀ k, k ≠ g → t.group k = s.group k) := by
  have hgone : (s.noteSeq (s.flight tag)).groupGone g (getU (s.flight tag).p 2 2) = none :=
    State.groupGone_of_kept h8 (by rw [show (s.noteSeq (s.flight tag)).group g = s.group g from rfl, hst]; decide) hgen
  have hex : exec (.grpAbort tag) s = .next (((s.noteSeq (s.flight tag)).freeUp g).complete (s.flight tag) .ok 0 [] true) := by
    refine (occurs_pos ha.1).trans ?_
    rw [State.hostCmd_of_admitted ha]
    dsimp only
    rw [hg, hgone, show (s.noteSeq (s.flight tag)).group g = s.group g from rfl, ho, hst]
    dsimp only
    rw [if_neg (by simp), if_neg (by simp), if_neg (by simp), State.abortGroup, if_pos (show ((s.noteSeq (s.flight tag)).group g).state = 1 from hst)]
  have hself := State.group_modGroup_self (s.noteSeq (s.flight tag)) (g := g) (fun x => { gen := x.gen }) hl
  exact ⟨_, hex, rfl, s.completed_complete _ tag 0x1B _ _ _ _ _ ha.1 rfl, congrArg Group.state hself, (congrArg Group.gen hself).trans rfl,
    fun k hk => State.group_modGroup_ne (s.noteSeq (s.flight tag)) _ hk⟩

end Sys2Proof.Machine
end

section
/-!
PROOFS. The commit point and what follows (07 R150 to R154).
-/
namespace Sys2Proof.Machine

/-! ## The commit point and what follows (07 R150 to R154) -/

theorem execCommitPoint_of_passed {s : State} {g : Nat} (h8 : g < 8) (hst : (s.group g).state = 2) (hc : (s.group g).cross = false)
    (ht : (s.group g).top ≠ 3) (hd : s.domainReady (s.group g).top = true) (he : s.earlierCommit g = false)
    (hf : s.failing none (s.group g).own = none) :
    exec (.commitPoint g) s = .next ((s.commitGroup g).applyActs g fun a => a.domain == (s.group g).top && !a.fio) := by
  refine (occurs_pos (by simp [h8, hst, hc, hd, he])).trans ?_
  dsimp only
  rw [if_neg ht, hf]

/-- At the commit point the group is committed, and the event is raised. -/
theorem State.commitGroup_of_lt (s : State) {g : Nat} (hl : g < s.grp.groups.length) :
    ((s.commitGroup g).group g).state = 4 ∧ ((s.commitGroup g).group g).commitAt = s.rng.time ∧
      s.Records (s.commitGroup g) 0x0301 0 g := by
  have hself := s.group_modGroup_self (g := g) (fun x => { x with state := 4, commitAt := s.rng.time }) hl
  have hkept : (s.commitGroup g).group g =
      (s.modGroup g fun x => { x with state := 4, commitAt := s.rng.time }).group g :=
    State.group_congr (by simp [State.commitGroup]) g
  rw [hkept, hself]
  exact ⟨rfl, rfl, .raise_after _ _ _ _ rfl rfl rfl rfl⟩

theorem execGroupActionApplied_of_due {s : State} {g : Nat} (h8 : g < 8) (hm : (s.group g).mayApply = true)
    (hd : (s.group g).dueDomain ≠ 0) (hr : s.domainReady (s.group g).dueDomain = true) :
    exec (.groupActionApplied g) s = .next (s.applyActs g fun a => a.domain == (s.group g).dueDomain && !a.fio) :=
  occurs_pos (by simp [h8, hm, hd, hr])

theorem State.groupDurable_eq (s : State) (acts : List Act) :
    ∃ dir sec, s.groupDurable acts = { s with dir := dir, sec := sec } := by
  refine ⟨(s.groupDurable acts).dir, (s.groupDurable acts).sec, ?_⟩
  apply State.eq_of_blocks <;> simp

theorem grpCommits_noConfig : isConfig Idx.GRP_COMMITS = false := by decide +kernel

/-- A group of a host slot that ends OK: released, its GRP_COMMIT completed, the commit counted. -/
theorem State.endGroup_ok_of_host {s : State} {g h : Nat} {f : Flight} (ho : (s.group g).owner = .host h)
    (hf : s.groupFlight g = some f) :
    s.endGroup g .ok 0 0xFFFF 0xFFFF true false = ((s.freeUp g).bump Idx.GRP_COMMITS).complete f .ok 0
      (commitResult 0xFFFF 0xFFFF .ok (s.group g).commitAt) true := by
  have hflight : ((s.freeUp g).bump Idx.GRP_COMMITS).groupFlight g = some f := by
    obtain ⟨dir, hb, -⟩ := (s.freeUp g).bump_eq 1 grpCommits_noConfig
    rw [hb]
    exact hf
  unfold State.endGroup
  dsimp only
  rw [ho, if_neg (fun h : Status.ok = .timeout ∧ _ => nomatch h.1), if_neg (show ¬false = true by decide), State.countGroup]
  dsimp only
  rw [hflight]

theorem execGroupRecordDurable_of_host {s : State} {g h : Nat} {f : Flight} (h8 : g < 8) (hl : g < s.grp.groups.length)
    (hm : (s.group g).mayApply = true) (ha : (s.group g).allApplied = true) (hop : s.opCounts = true)
    (hr : s.lmp.restarting = false) (ho : (s.group g).owner = .host h) (hf : s.groupFlight g = some f) :
    ∃ t, exec (.groupRecordDurable g) s = .next t ∧ (t.group g).state = 0 ∧ (t.group g).gen = (s.group g).gen ∧
      (∀ k, k ≠ g → t.group k = s.group k) ∧
      (∃ d, t.host.store = s.host.store ++ [(f.slot, d)] ∧ d.tag = f.d.tag ∧ d.status = Status.ok.code) ∧
      t = { s with host := t.host, grp := t.grp, dir := t.dir, sec := t.sec } := by
  obtain ⟨dir, sec, hdur⟩ := s.groupDurable_eq (s.group g).own
  have hex : exec (.groupRecordDurable g) s =
      .next (({ s with dir := dir, sec := sec } : State).endGroup g .ok 0 0xFFFF 0xFFFF true false) := by
    refine (occurs_pos (by simp [h8, hm, ha, hop, hr])).trans ?_
    dsimp only
    rw [ho, hdur]
  rw [State.endGroup_ok_of_host (s := { s with dir := dir, sec := sec }) ho hf] at hex
  obtain ⟨gs, hfree, hself, hne⟩ := State.freeUp_eq { s with dir := dir, sec := sec } (g := g) hl
  obtain ⟨dir', hb, -⟩ := (State.freeUp { s with dir := dir, sec := sec } g).bump_eq 1 grpCommits_noConfig
  rw [hb, hfree] at hex
  exact ⟨_, hex, congrArg Group.state hself, (congrArg Group.gen hself).trans rfl, hne, ⟨_, rfl, rfl, rfl⟩, rfl⟩

/-- Settles O9: one law for each row; the seven rows of GRP_STAGE are one. -/
theorem groupsOpenCommitAndEnd : Obligations.GroupsOpenCommitAndEnd := by
  refine ⟨fun s tag g hl ha hx hn hm hf => execGrpOpen_of_free hl ha hx hn hm hf, ?_,
    fun s g h h8 hl ho hst hw hd => execGrpExpired_of_due h8 hl ho hst hw hd,
    fun s tag g hl ha hg h8 hgen hst ho hc => execGrpCommit_of_local hl ha hg h8 hgen hst ho hc,
    fun s tag g hl ha hg h8 hgen hst ho => execGrpAbort_of_open hl ha hg h8 hgen hst ho,
    fun s g h8 hst hc ht hd he hf => execCommitPoint_of_passed h8 hst hc ht hd he hf,
    fun s g hl => s.commitGroup_of_lt hl,
    fun s g h8 hm hd hr => execGroupActionApplied_of_due h8 hm hd hr,
    fun s g f h h8 hl hm ha hop hr ho hf => execGroupRecordDurable_of_host h8 hl hm ha hop hr ho hf⟩
  intro p hp s tag g hl ha hk hg hs hr
  simp only [List.mem_cons, List.not_mem_nil, or_false] at hp
  have row : ∀ q : Nat → Bool, q p.2 = true → _ := fun q hq =>
    stageRow_of_passed (p := q) hl ha ((congrArg q hk).trans hq) hg hs hr
  rcases hp with rfl | rfl | rfl | rfl | rfl | rfl | rfl
  · exact row (fun k => k == 1 || k == 0 || decide (7 < k)) rfl
  · exact row (fun k => k == 2) rfl
  · exact row (fun k => k == 3) rfl
  · exact row (fun k => k == 4) rfl
  · exact row (fun k => k == 5) rfl
  · exact row (fun k => k == 6) rfl
  · exact row (fun k => k == 7) rfl

end Sys2Proof.Machine
end

section
/-!
PROOFS. Groups across devices (07 R156 to R159).
-/
namespace Sys2Proof.Machine

/-! ## Groups across devices (07 R156 to R159) -/

theorem execXdevPrepare_of_free {s : State} {m : GMsg} {g : Nat} (hl : g < s.grp.groups.length) (hs : s.messagesServed = true)
    (hm : s.nextMsg 1 = some m) (hp : (s.dropMsg m).partGroup m = none) (hf : s.freeGroup = some g)
    (ha : s.actions + m.acts.length ≤ 512) :
    ∃ t, exec .xdevPrepare s = .next t ∧ (t.group g).state = 3 ∧ (t.group g).acts = m.acts ∧
      (t.group g).owner = .remote m.coord ∧ (t.group g).gen = ((s.group g).gen + 1) % 65536 ∧
      (∀ k, k ≠ g → t.group k = s.group k) ∧ t.grp.inq = s.grp.inq.erase m ∧ t = { s with grp := t.grp } := by
  have hex : exec .xdevPrepare s = .next (((s.dropMsg m).allocGroup g (.remote m.coord) true [m.peer]).modGroup g fun x =>
      { x with state := 3, acts := m.acts, coordG := m.group, coordGen := m.gen, t0 := m.t0,
               holdEnd := s.rng.time + x.xhold * 1000 }) := by
    refine (occurs_pos (by simp [hs, hm])).trans ?_
    dsimp only
    rw [hm, Option.getD_some, hp, if_neg (by simp), show (s.dropMsg m).freeGroup = some g from hf]
    dsimp only
    rw [if_neg (show ¬512 < (s.dropMsg m).actions + m.acts.length from Nat.not_lt.mpr ha)]
    rfl
  have halloc := (s.dropMsg m).group_modGroup_self (g := g) (fun x =>
    { state := 1, gen := (x.gen + 1) % 65536, owner := .remote m.coord, cross := true, parts := [m.peer], openedAt := s.pwr.opTime,
      openTmo := s.parN Idx.GRP_OPENTMO, maxAct := s.parN Idx.GRP_MAXACT, xhold := s.parN Idx.GRP_XHOLD,
      xrepeat := s.parN Idx.GRP_XREPEAT }) hl
  have hself := ((s.dropMsg m).allocGroup g (.remote m.coord) true [m.peer]).group_modGroup_self (g := g) (fun x =>
      { x with state := 3, acts := m.acts, coordG := m.group, coordGen := m.gen, t0 := m.t0,
               holdEnd := s.rng.time + x.xhold * 1000 }) (by rw [State.allocGroup, State.length_modGroup]; exact hl)
  refine ⟨_, hex, ?_, ?_, ?_, ?_, fun k hk => ?_, rfl, rfl⟩
  · rw [hself]
  · rw [hself]
  · rw [hself]
    exact congrArg Group.owner halloc
  · rw [hself]
    exact (congrArg Group.gen halloc).trans rfl
  · exact (State.group_modGroup_ne _ _ hk).trans (State.group_modGroup_ne (s.dropMsg m) _ hk)

/-- A participant's vote, noted in its group (07 R158 step 2). -/
def State.noteVote (s : State) (g : Nat) (held : Bool) (st : Status) (idx : Nat) : State :=
  (s.modGroup g fun x => { x with acts := x.acts.map fun a => { a with vers := s.actVers a } }).modGroup g fun x =>
    { x with held := held, votes := [(0, st.code, idx)] }

theorem execPreparedBoundary_of_ready {s : State} {g : Nat} (h8 : g < 8) (hl : g < s.grp.groups.length)
    (hs : s.messagesServed = true) (hst : (s.group g).state = 3) (hv : (s.group g).votes = [])
    (hd : s.domainReady (s.group g).top = true) :
    ∃ (v : State) (m : GMsg), exec (.preparedBoundary g) s = .next v.flushGroups ∧ v.grp.out = s.grp.out ++ [m] ∧ m.type = 2 ∧
      (v.group g).votes ≠ [] ∧ (∀ k, k ≠ g → v.group k = s.group k) ∧ v = { s with grp := v.grp } := by
  obtain ⟨held, st, idx, hex⟩ : ∃ held st idx, exec (.preparedBoundary g) s =
      .next ((s.noteVote g held st idx).reply (s.group g).asMsg 2 st idx).flushGroups :=
    ⟨_, _, _, occurs_pos (by simp [h8, hs, hst, hv, hd])⟩
  refine ⟨_, _, hex, rfl, rfl, ?_, fun k hk => ?_, rfl⟩
  · have hself := (s.modGroup g fun x => { x with acts := x.acts.map fun a => { a with vers := s.actVers a } }).group_modGroup_self
      (g := g) (fun x => { x with held := held, votes := [(0, st.code, idx)] }) (by rw [State.length_modGroup]; exact hl)
    exact fun hnil => List.cons_ne_nil _ _ ((congrArg Group.votes hself).symm.trans hnil)
  · exact (State.group_modGroup_ne _ _ hk).trans (s.group_modGroup_ne _ hk)

theorem execAbortMessage_of_prepared {s : State} {m : GMsg} {g : Nat} (hl : g < s.grp.groups.length) (hs : s.messagesServed = true)
    (hm : s.nextMsg 5 = some m) (hp : (s.dropMsg m).partGroup m = some g) (hst : (s.group g).state = 3) :
    ∃ t, exec .abortMessage s = .next t ∧ (t.group g).state = 0 ∧ (t.group g).gen = (s.group g).gen ∧
      (∀ k, k ≠ g → t.group k = s.group k) ∧ t.grp.inq = s.grp.inq.erase m ∧ t = { s with grp := t.grp } := by
  have hex : exec .abortMessage s = .next ((s.dropMsg m).freeUp g) := by
    refine (occurs_pos (by simp [hs, hm])).trans ?_
    dsimp only
    rw [hm, Option.getD_some, hp]
    dsimp only
    rw [if_pos (show ((s.dropMsg m).group g).state = 3 from hst)]
  obtain ⟨gs, hfree, hself, hne⟩ := (s.dropMsg m).freeUp_eq (g := g) hl
  rw [hfree] at hex
  exact ⟨_, hex, congrArg Group.state hself, (congrArg Group.gen hself).trans rfl, hne, rfl, rfl⟩

theorem execGrpDecisionLost_of_held {s : State} {g : Nat} (h8 : g < 8) (hl : g < s.grp.groups.length)
    (hs : s.messagesServed = true) (hst : (s.group g).state = 3) (hh : (s.group g).holdEnd ≤ s.rng.time) :
    ∃ t, exec (.grpDecisionLost g) s = .next t ∧ (t.group g).state = 0 ∧ (t.group g).gen = (s.group g).gen ∧
      (∀ k, k ≠ g → t.group k = s.group k) ∧ s.Records t 0x0306 3 g ∧
      t = { s with grp := t.grp, dir := t.dir, tph := t.tph } ∧ s.ParsKept t [Idx.TPH_BUFDROPS] := by
  obtain ⟨gs, hfree, hself, hne⟩ := s.freeUp_eq hl
  have hrec : s.Records ((s.freeUp g).raise 0x0306 3 g) 0x0306 3 g := .raise_after _ _ _ _ rfl rfl rfl rfl
  have hev : s.EventsOnly ((s.freeUp g).raise 0x0306 3 g) [] := (State.EventsOnly.of_eq [] rfl rfl).raise _ _ _ _
  have hex : exec (.grpDecisionLost g) s = .next ((s.freeUp g).raise 0x0306 3 g) := occurs_pos (by simp [h8, hs, hst, hh])
  obtain ⟨dir, tph, hraise, -⟩ := (s.freeUp g).raise_eq 0x0306 3 g []
  rw [hraise, hfree] at hex hrec hev
  exact ⟨_, hex, congrArg Group.state hself, (congrArg Group.gen hself).trans rfl, hne, hrec, rfl, hev.1⟩

theorem execXdevCommit_of_held {s : State} {m : GMsg} {g : Nat} (hs : s.messagesServed = true) (hm : s.nextMsg 3 = some m)
    (hp : s.partGroup m = some g) (hst : (s.group g).state = 3) (hh : (s.group g).held = true)
    (hd : s.domainReady (s.group g).top = true) :
    exec .xdevCommit s = .next (((((s.dropMsg m).commitGroup g).applyActs g fun a =>
      a.domain == (s.group g).top && !a.fio).reply m 4 .ok 0xFFFF).flushGroups) := by
  refine (occurs_pos (by simp [hs, hm, hp, hst, hh, hd])).trans ?_
  dsimp only
  rw [hm, Option.getD_some, hp, Option.getD_some, hst, hh, if_pos (by simp)]

/-- The coordinator's group of a message is no participant's. -/
theorem State.coordGroup_owner {s : State} {m : GMsg} {n : Nat} (h : s.coordGroup m n = true) (c : Nat) :
    (s.group m.group).owner ≠ .remote c := by
  intro hc
  simp [State.coordGroup, hc] at h

theorem State.coordGroup_cross {s : State} {m : GMsg} {n : Nat} (h : s.coordGroup m n = true) : (s.group m.group).cross = true := by
  simp only [State.coordGroup, Bool.and_eq_true] at h
  exact h.1.1.1.2

theorem execXdevVote_of_counted {s : State} {m : GMsg} (hl : m.group < s.grp.groups.length) (hs : s.messagesServed = true)
    (hm : s.nextMsg 2 = some m) (hc : (s.dropMsg m).coordGroup m 2 = true)
    (ht : s.rng.time ≤ (s.group m.group).t0 + ((s.group m.group).xhold - 20) * 1000)
    (hv : ∀ v ∈ (s.group m.group).votes, v.1 ≠ m.peer) :
    ∃ t, exec .xdevVote s = .next t ∧
      t.group m.group = { s.group m.group with votes := (s.group m.group).votes ++ [(m.peer, m.status, m.index)] } ∧
      (∀ k, k ≠ m.group → t.group k = s.group k) ∧ t.grp.inq = s.grp.inq.erase m ∧ t = { s with grp := t.grp } := by
  have hnew : ((s.group m.group).votes.any fun v => v.1 == m.peer) = false := by
    simpa using hv
  have hex : exec .xdevVote s = .next ((s.dropMsg m).modGroup m.group fun x =>
      { x with votes := x.votes ++ [(m.peer, m.status, m.index)] }) := by
    refine (occurs_pos (by simp [hs, hm])).trans ?_
    dsimp only
    rw [hm, Option.getD_some, if_pos ⟨hc, ht, by rw [show (s.dropMsg m).group m.group = s.group m.group from rfl, hnew]; decide⟩]
  exact ⟨_, hex, (s.dropMsg m).group_modGroup_self _ hl, fun k hk => (s.dropMsg m).group_modGroup_ne _ hk, rfl, rfl⟩

theorem execVoteDeadline_of_allOk {s : State} {g h : Nat} (h8 : g < 8) (hs : s.messagesServed = true) (hst : (s.group g).state = 2)
    (hc : (s.group g).cross = true) (ho : (s.group g).owner = .host h) (hd : s.domainReady (s.group g).top = true)
    (hn : (s.group g).parts.length ≤ (s.group g).votes.length) (hok : ∀ v ∈ (s.group g).votes, v.2.1 = 0)
    (hall : ∀ p ∈ (s.group g).parts, ∃ v ∈ (s.group g).votes, v.1 = p) (hf : s.failing none (s.group g).own = none) :
    exec (.voteDeadline g) s = .next ((s.commitGroup g).sendCommits g (s.group g).parts).flushGroups := by
  have hno : (s.group g).votes.find? (fun v => v.2.1 != 0) = none := by simpa using hok
  have hmiss : (s.group g).parts.find? (fun p => !((s.group g).votes.any fun v => v.1 == p)) = none := by
    simpa using hall
  refine (occurs_pos (by simp [h8, hs, hst, hc, ho, hd, hn])).trans ?_
  unfold State.decideGroup
  dsimp only
  rw [hno]
  dsimp only
  rw [hmiss]
  dsimp only
  rw [hf]

theorem execXdevAck_of_counted {s : State} {m : GMsg} (hl : m.group < s.grp.groups.length) (hs : s.messagesServed = true)
    (hm : s.nextMsg 4 = some m) (hc : (s.dropMsg m).coordGroup m 4 = true) (hp : m.peer ∉ (s.group m.group).acks)
    (hn : (s.group m.group).acks.length + 1 < (s.group m.group).parts.length) :
    ∃ t, exec .xdevAck s = .next t ∧
      t.group m.group = { s.group m.group with acks := (s.group m.group).acks ++ [m.peer] } ∧
      (∀ k, k ≠ m.group → t.group k = s.group k) ∧ t.grp.inq = s.grp.inq.erase m ∧ t = { s with grp := t.grp } := by
  have hself := (s.dropMsg m).group_modGroup_self (g := m.group) (fun x => { x with acks := x.acks ++ [m.peer] }) hl
  have hmay : (((s.dropMsg m).modGroup m.group fun x => { x with acks := x.acks ++ [m.peer] }).group m.group).mayApply = false := by
    have hcross : (s.group m.group).cross = true := State.coordGroup_cross hc
    have howner : ∀ c, (s.group m.group).owner ≠ .remote c := State.coordGroup_owner hc
    rw [hself]
    unfold Group.mayApply
    split
    · next c heq => exact absurd heq (howner c)
    · simp only [show ((s.dropMsg m).group m.group) = s.group m.group from rfl, hcross, List.length_append, List.length_singleton]
      simp [hn]
  have hex : exec .xdevAck s = .next ((s.dropMsg m).modGroup m.group fun x => { x with acks := x.acks ++ [m.peer] }) := by
    refine (occurs_pos (by simp [hs, hm])).trans ?_
    dsimp only
    rw [hm, Option.getD_some, if_pos ⟨hc, by simpa [State.dropMsg, State.group] using hp⟩, hmay, if_neg (by simp)]
  exact ⟨_, hex, hself, fun k hk => (s.dropMsg m).group_modGroup_ne _ hk, rfl, rfl⟩

theorem execCommitRepeat_of_due {s : State} {g : Nat} (h8 : g < 8) (hs : s.messagesServed = true) (hr : s.commitRepeats g = true)
    (hd : (s.group g).lastSent + (s.group g).xrepeat * 1000 ≤ s.rng.time) :
    exec (.commitRepeat g) s =
      .next (s.sendCommits g ((s.group g).parts.filter fun p => !(s.group g).acks.contains p)).flushGroups := by
  have hst : (s.group g).state = 4 := by
    simp only [State.commitRepeats, Bool.and_eq_true, beq_iff_eq] at hr
    exact hr.1.1.1.1
  refine (occurs_pos (by simp [h8, hs, hr, hd])).trans ?_
  dsimp only
  rw [hst, if_neg (by simp)]

theorem execGrpXdevUnconfirmed_of_silent {s : State} {g h : Nat} (h8 : g < 8) (hs : s.messagesServed = true)
    (hst : (s.group g).state = 4) (hc : (s.group g).cross = true) (ho : (s.group g).owner = .host h)
    (hn : (s.group g).acks.length < (s.group g).parts.length) (ht : (s.group g).t0 + (s.group g).xhold * 1000 ≤ s.rng.time) :
    exec (.grpXdevUnconfirmed g) s = .next ((((s.raise 0x0305 4 g).endGroup g .timeout 0 0xFFFF
      (((s.group g).parts.find? fun p => !(s.group g).acks.contains p).getD 0xFFFF) true true).repair
      ((s.group g).own.filter fun a => a.kind == 0x11)).flushGroups) :=
  occurs_pos (by simp [h8, hs, hst, hc, ho, hn, ht])

/-- Sending messages changes Q31 alone. -/
theorem State.out_foldl_sendGroup (k : Nat → State → GMsg) (hk : ∀ p s (o : List GMsg), k p { s with grp.out := o } = k p s)
    (ps : List Nat) (s : State) :
    ps.foldl (fun s p => s.sendGroup (k p s)) s = { s with grp.out := s.grp.out ++ ps.map fun p => k p s } := by
  induction ps generalizing s with
  | nil => simp
  | cons p ps ih =>
    rw [List.foldl_cons, ih]
    simp [State.sendGroup, hk]

theorem State.out_sendCommits (s : State) (g : Nat) (ps : List Nat) :
    (s.sendCommits g ps).grp.out = s.grp.out ++ ps.map fun p => s.groupMsg g 3 p := by
  unfold State.sendCommits
  rw [State.out_foldl_sendGroup (fun p s => s.groupMsg g 3 p) fun _ _ _ => rfl]
  rfl

/-- Settles O10: one law for each row. -/
theorem crossDeviceGroupsDecideOnce : Obligations.CrossDeviceGroupsDecideOnce :=
  ⟨fun _ _ _ hl hs hm hp hf ha => execXdevPrepare_of_free hl hs hm hp hf ha,
    fun _ _ h8 hl hs hst hv hd => execPreparedBoundary_of_ready h8 hl hs hst hv hd,
    fun _ _ _ hl hs hm hp hst => execAbortMessage_of_prepared hl hs hm hp hst,
    fun _ _ h8 hl hs hst hh => execGrpDecisionLost_of_held h8 hl hs hst hh,
    fun _ _ _ hs hm hp hst hh hd => execXdevCommit_of_held hs hm hp hst hh hd,
    fun _ _ hl hs hm hc ht hv => execXdevVote_of_counted hl hs hm hc ht hv,
    fun _ _ _ h8 _ hs hst hc ho hd hn hok hall hf => execVoteDeadline_of_allOk h8 hs hst hc ho hd hn hok hall hf,
    fun _ _ hl hs hm hc hp hn => execXdevAck_of_counted hl hs hm hc hp hn,
    fun _ _ h8 hs hr hd => execCommitRepeat_of_due h8 hs hr hd,
    fun _ _ _ h8 hs hst hc ho hn ht => execGrpXdevUnconfirmed_of_silent h8 hs hst hc ho hn ht,
    fun s g ps _ => s.out_sendCommits g ps⟩

end Sys2Proof.Machine
end

section
/-!
PROOFS. Field inputs: the filtered edge and the tick (13 R335 to R340).
-/
namespace Sys2Proof.Machine

/-! ## Configuration kept: what the device writes itself is none -/

/-- Every configuration parameter keeps its value. -/
def State.ConfigKept (s t : State) : Prop := ∀ j, isConfig j = true → t.par j = s.par j

theorem State.ConfigKept.refl (s : State) : s.ConfigKept s := fun _ _ => rfl

theorem State.ConfigKept.trans {s t u : State} (h : s.ConfigKept t) (h' : t.ConfigKept u) : s.ConfigKept u :=
  fun j hj => (h' j hj).trans (h j hj)

theorem State.ConfigKept.congr {s t u : State} (h : s.ConfigKept t) (hd : u.dir = t.dir) : s.ConfigKept u :=
  fun j hj => (State.par_congr hd j).trans (h j hj)

theorem State.ConfigKept.setOwn {s t : State} (h : s.ConfigKept t) {i : Nat} (v : Int) (hi : isConfig i = false) :
    s.ConfigKept (t.setOwn i v) := fun j hj => by
  have hne : i ≠ j := fun he => by rw [he, hj] at hi; exact Bool.noConfusion hi
  rw [State.par_setOwn' _ _ _ _ hi, if_neg hne, h j hj]

theorem State.ConfigKept.bump {s t : State} (h : s.ConfigKept t) {i : Nat} (k : Nat) (hi : isConfig i = false) :
    s.ConfigKept (t.bump i k) := h.setOwn _ hi

theorem State.ConfigKept.peak {s t : State} (h : s.ConfigKept t) {i : Nat} (v : Int) (hi : isConfig i = false) :
    s.ConfigKept (t.peak i v) := by
  unfold State.peak
  split
  · exact h.setOwn v hi
  · exact h

theorem bufdrops_noConfig : isConfig Idx.TPH_BUFDROPS = false := by decide +kernel

theorem State.ConfigKept.raise {s t : State} (h : s.ConfigKept t) (code sev inst : Nat) (data : List (Nat × Int)) :
    s.ConfigKept (t.raise code sev inst data) := fun j hj => by
  have hne : j ≠ Idx.TPH_BUFDROPS := fun he => by rw [he, bufdrops_noConfig] at hj; exact Bool.noConfusion hj
  rw [State.par_raise _ _ _ _ _ _ hne, h j hj]

theorem State.ConfigKept.ite {s t u : State} {c : Prop} [Decidable c] (h : s.ConfigKept t) (h' : s.ConfigKept u) :
    s.ConfigKept (if c then t else u) := by
  split
  · exact h
  · exact h'

theorem State.ConfigKept.foldl {α : Type} {g : State → α → State} (l : List α) (s : State)
    (h : ∀ (s : State), ∀ x ∈ l, s.ConfigKept (g s x)) : s.ConfigKept (l.foldl g s) := by
  induction l generalizing s with
  | nil => exact .refl s
  | cons x l ih =>
    exact (h s x List.mem_cons_self).trans (ih (g s x) fun s y hy => h s y (List.mem_cons_of_mem _ hy))

/-! ## The edges' delivery (13 R337) -/

theorem fioCfg_isConfig : ∀ n < 48, isConfig (Idx.FIO_CnCFG n) = true := by decide +kernel
theorem fioRise_noConfig : ∀ n < 48, isConfig (Idx.FIO_CnRISE n) = false := by decide +kernel
theorem fioFall_noConfig : ∀ n < 48, isConfig (Idx.FIO_CnFALL n) = false := by decide +kernel
theorem fioEdges_noConfig : ∀ n < 48, isConfig (Idx.FIO_CnEDGES n) = false := by decide +kernel
theorem learnStat_noConfig : isConfig Idx.HST_LEARNSTAT = false := by decide +kernel
theorem learnCause_noConfig : isConfig Idx.HST_LEARNCAUSE = false := by decide +kernel

theorem State.learnFault_config (s : State) (cause : Nat) : s.ConfigKept (s.learnFault cause) :=
  ((((State.ConfigKept.refl s).raise _ _ _ _).setOwn _ learnStat_noConfig).setOwn _ learnCause_noConfig).congr rfl

theorem State.learnDz_config (s : State) (p : Int) : s.ConfigKept (s.learnDz p) := by
  unfold State.learnDz
  dsimp only
  split
  · exact .congr (.refl s) rfl
  · split
    · refine State.ConfigKept.raise ?_ _ _ _ _
      exact .congr (.refl s) rfl
    · exact .congr (.refl s) rfl

theorem planVpk_noConfig : isConfig Idx.HST_PLANVPK = false := by decide +kernel

theorem State.setPlan_config (s : State) (goal : Int) (kind : Goal) : s.ConfigKept (s.setPlan goal kind) := by
  unfold State.setPlan
  dsimp only
  exact ((State.ConfigKept.refl s).setOwn _ planVpk_noConfig).congr rfl

theorem State.learnCentre_config (s : State) : s.ConfigKept s.learnCentre := by
  unfold State.learnCentre
  split
  · refine .ite (.congr (.refl s) rfl) (.trans ?_ (State.setPlan_config _ _ _))
    exact .congr (.refl s) rfl
  · exact .refl s

theorem State.learnEdge_config (s : State) (n : Nat) (e : FEdge) : s.ConfigKept (s.learnEdge n e) := by
  unfold State.learnEdge
  dsimp only
  have hcentre (t u : State) (h : s.ConfigKept t) (h' : t.dir = u.dir) : s.ConfigKept u.learnCentre :=
    (h.congr h'.symm).trans u.learnCentre_config
  have hdz := s.learnDz_config (rdiv (s.fusedAt e.at_) 256)
  refine .ite (.refl s) (.ite ((s.learnFault_config 1).congr rfl) (.ite ((s.learnFault_config 2).congr rfl)
    (.ite (.congr (.refl s) rfl) (.ite (.ite (hcentre s _ (.refl s) rfl) (.congr (.refl s) rfl)) (.ite (.ite ?_ (.ite ?_ (.refl s)))
      (.refl s))))))
  · exact .ite (hcentre _ _ hdz rfl) hdz
  · exact .ite (hcentre _ _ hdz rfl) hdz

theorem State.learnOverrun_config (s : State) (n : Nat) : s.ConfigKept (s.learnOverrun n) := by
  unfold State.learnOverrun
  dsimp only
  split
  · split
    · refine State.ConfigKept.raise ?_ _ _ _ _
      exact .congr (.refl s) rfl
    · exact .refl s
  · exact .refl s

theorem State.modDoor_dir (s : State) (front : Bool) (f : Door → Door) : (s.modDoor front f).dir = s.dir := by
  cases front <;> rfl

theorem State.obstruct_config (s : State) (front : Bool) (src : Nat) : s.ConfigKept (s.obstruct front src) := by
  unfold State.obstruct
  dsimp only
  refine .ite (.refl s) ?_
  exact ((State.ConfigKept.refl s).raise _ _ _ _).congr (State.modDoor_dir _ _ _)

theorem State.deliverEdge_config (s : State) {n : Nat} (hn : n < 48) (e : FEdge) : s.ConfigKept (s.deliverEdge n e) := by
  unfold State.deliverEdge
  dsimp only
  have hown : s.ConfigKept (s.setOwn (if e.rising = true then Idx.FIO_CnRISE n else Idx.FIO_CnFALL n) e.at_) := by
    refine (State.ConfigKept.refl s).setOwn _ ?_
    split
    · exact fioRise_noConfig n hn
    · exact fioFall_noConfig n hn
  refine (hown.trans (State.learnEdge_config _ n e)).trans (State.ConfigKept.foldl _ _ fun u k _ => ?_)
  have hput (v : State) (hv : u.ConfigKept v) (w : Nat) :
      u.ConfigKept (v.modD k fun d => { d with edges := d.edges ++ [(w, e)] }) := hv.congr (by simp)
  have h0 := State.ConfigKept.ite (c := u.parN (Idx.DRn_DCFIO k) = n) (hput u (.refl u) 0) (.refl u)
  generalize (if u.parN (Idx.DRn_DCFIO k) = n then _ else u) = v at h0 ⊢
  have h1 := State.ConfigKept.ite (c := v.parN (Idx.DRn_DOFIO k) = n) (hput v h0 1) h0
  generalize (if v.parN (Idx.DRn_DOFIO k) = n then _ else v) = w at h1 ⊢
  exact .ite (h1.trans (w.obstruct_config _ _)) h1

theorem State.deliverChannel_config (s : State) {n : Nat} (hn : n < 48) : s.ConfigKept (s.deliverChannel n) := by
  unfold State.deliverChannel
  dsimp only
  split
  · exact .refl s
  · have hedges := State.ConfigKept.foldl (g := fun s e => s.deliverEdge n e) (s.fch n).edges s fun u e _ => u.deliverEdge_config hn e
    have hcount := hedges.bump ((s.fch n).edges.length + (s.fch n).extra) (fioEdges_noConfig n hn)
    refine State.ConfigKept.congr (.ite hcount (hcount.trans (State.learnOverrun_config _ n))) rfl

/-! ## One operation for every channel -/

theorem State.fch_modFch_self (s : State) {n : Nat} (f : FCh → FCh) (hl : n < s.fio.ch.length) : (s.modFch n f).fch n = f (s.fch n) :=
  getD_modifyAt_self _ _ _ _ hl

theorem State.fch_modFch_ne (s : State) {n k : Nat} (f : FCh → FCh) (hk : k ≠ n) : (s.modFch n f).fch k = s.fch k :=
  getD_modifyAt_ne _ _ _ _ _ hk

/-- From `s` to `t` the field channels were worked through one by one: the blocks of another purpose, the configuration, the output
word and the number of channels are the same. -/
structure State.Round (s t : State) : Prop where
  config : s.ConfigKept t
  fio : t.fio = { s.fio with ch := t.fio.ch }
  length : t.fio.ch.length = s.fio.ch.length
  pwr : t.pwr = s.pwr
  host : t.host = s.host
  gys : t.gys = s.gys
  cle : t.cle = s.cle
  saf : t.saf = s.saf
  rtc : t.rtc = s.rtc
  grp : t.grp = s.grp

theorem State.Round.refl (s : State) : s.Round s := ⟨.refl s, rfl, rfl, rfl, rfl, rfl, rfl, rfl, rfl, rfl⟩

theorem State.Round.trans {s t u : State} (h : s.Round t) (h' : t.Round u) : s.Round u :=
  ⟨h.config.trans h'.config, by rw [h'.fio, h.fio], h'.length.trans h.length, h'.pwr.trans h.pwr, h'.host.trans h.host,
    h'.gys.trans h.gys, h'.cle.trans h.cle, h'.saf.trans h.saf, h'.rtc.trans h.rtc, h'.grp.trans h.grp⟩

theorem State.Round.modFch {s t : State} (h : s.Round t) (n : Nat) (f : FCh → FCh) : s.Round (t.modFch n f) :=
  ⟨h.config.congr rfl, by unfold State.modFch; rw [h.fio], (length_modifyAt _ _ _).trans h.length, h.pwr, h.host, h.gys, h.cle,
    h.saf, h.rtc, h.grp⟩

theorem State.Round.fmode {s t : State} (h : s.Round t) {n : Nat} (hn : n < 48) : t.fmode n = s.fmode n := by
  unfold State.fmode State.parN
  rw [h.config _ (fioCfg_isConfig n hn)]

theorem State.Round.isInput {s t : State} (h : s.Round t) {n : Nat} (hn : n < 48) : t.isInput n = s.isInput n := by
  unfold State.isInput
  rw [h.fmode hn]

theorem State.Round.isOutput {s t : State} (h : s.Round t) {n : Nat} (hn : n < 48) : t.isOutput n = s.isOutput n := by
  unfold State.isOutput
  rw [h.fmode hn]

/-- An operation on channel `n` that makes `Q` of what the channel was. -/
def State.OnChannel (s t : State) (n : Nat) (Q : FCh → FCh → Prop) : Prop :=
  s.Round t ∧ Q (s.fch n) (t.fch n) ∧ ∀ k, k ≠ n → t.fch k = s.fch k

/-- Carried out for each channel of a list once, it makes `Q` of each. -/
theorem State.round_foldl {g : State → Nat → State} {Q : Nat → FCh → FCh → Prop} (s : State) (l : List Nat) (hd : l.Nodup)
    (h : ∀ u, s.Round u → ∀ n ∈ l, u.OnChannel (g u n) n (Q n)) :
    s.Round (l.foldl g s) ∧ (∀ n ∈ l, Q n (s.fch n) ((l.foldl g s).fch n)) ∧ ∀ k, k ∉ l → (l.foldl g s).fch k = s.fch k := by
  induction l generalizing s with
  | nil => exact ⟨.refl s, fun _ hn => absurd hn List.not_mem_nil, fun _ _ => rfl⟩
  | cons x l ih =>
    obtain ⟨hx, hl⟩ := List.nodup_cons.mp hd
    obtain ⟨hr, hq, hk⟩ := h s (.refl s) x List.mem_cons_self
    obtain ⟨hr', hq', hk'⟩ := ih (g s x) hl fun u hu n hn => h u (hr.trans hu) n (List.mem_cons_of_mem _ hn)
    refine ⟨hr.trans hr', fun n hn => ?_, fun k hkl => ?_⟩
    · rcases List.mem_cons.mp hn with rfl | hn
      · rw [List.foldl_cons, hk' n hx]
        exact hq
      · have hne : n ≠ x := fun he => hx (he ▸ hn)
        rw [← hk n hne]
        exact hq' n hn
    · obtain ⟨hkx, hkl⟩ := not_or.mp (fun h => hkl (List.mem_cons.mpr h))
      exact (hk' k hkl).trans (hk k hkx)

theorem State.onChannel_modFch (s : State) {n : Nat} {f : FCh → FCh} {Q : FCh → FCh → Prop} (hl : n < s.fio.ch.length)
    (hq : Q (s.fch n) (f (s.fch n))) : s.OnChannel (s.modFch n f) n Q :=
  ⟨(State.Round.refl s).modFch n f, by rw [s.fch_modFch_self f hl]; exact hq, fun _ hk => s.fch_modFch_ne f hk⟩

/-- What the sample of the tick makes of an input channel (13 R335, R348). -/
def FCh.sampled (input v : Bool) (c d : FCh) : Prop :=
  d = if input then { c with raw := v, state := if c.preset then v else c.state, preset := false } else c

theorem State.sampleChannel_on {s u : State} {n : Nat} (raw : Nat) (hr : s.Round u) (hn : n < 48) (hl : s.fio.ch.length = 48) :
    u.OnChannel (u.sampleChannel n raw) n
      (FCh.sampled (s.isInput n) (raw.testBit n != s.parBit (Idx.FIO_CnCFG n) 3)) := by
  have hbit : u.parBit (Idx.FIO_CnCFG n) 3 = s.parBit (Idx.FIO_CnCFG n) 3 := by
    unfold State.parBit State.parN
    rw [hr.config _ (fioCfg_isConfig n hn)]
  have hlen : n < u.fio.ch.length := by rw [hr.length, hl]; exact hn
  unfold State.sampleChannel FCh.sampled
  rw [hr.isInput hn, hbit]
  cases s.isInput n with
  | true => exact u.onChannel_modFch hlen rfl
  | false => exact ⟨.refl u, rfl, fun _ _ => rfl⟩

/-- What the delivery leaves of a channel (13 R337). -/
def FCh.delivered (c d : FCh) : Prop := d = { c with edges := [], extra := 0 }

theorem State.deliverChannel_on {s u : State} {n : Nat} (hr : s.Round u) (hn : n < 48) (hl : s.fio.ch.length = 48) :
    u.OnChannel (u.deliverChannel n) n FCh.delivered := by
  have hlen : n < u.fio.ch.length := by rw [hr.length, hl]; exact hn
  have hconf := u.deliverChannel_config hn
  obtain ⟨hpwr, -, hhost, hgrp, hgys, hcle, hsaf, -, -, -, -, -, hrtc, -⟩ := u.deliverChannel_frame n
  by_cases hc : (u.fch n).edges.isEmpty = true ∧ (u.fch n).extra = 0
  · have hsame : u.deliverChannel n = u := if_pos hc
    rw [hsame]
    refine ⟨.refl u, ?_, fun _ _ => rfl⟩
    unfold FCh.delivered
    rw [← List.isEmpty_iff.mp hc.1, ← hc.2]
  · obtain ⟨v, hv, hfio⟩ : ∃ v : State, u.deliverChannel n = v.modFch n (fun c => { c with edges := [], extra := 0 }) ∧ v.fio = u.fio := by
      refine ⟨_, if_neg hc, ?_⟩
      split <;> simp [foldl_fio]
    have hch : (v.modFch n fun c => { c with edges := [], extra := 0 }).fio =
        (u.modFch n fun c => { c with edges := [], extra := 0 }).fio := by
      unfold State.modFch
      rw [hfio]
    have hfch (k : Nat) : (u.deliverChannel n).fch k = (u.modFch n fun c => { c with edges := [], extra := 0 }).fch k := by
      rw [hv]
      unfold State.fch
      rw [hch]
    obtain ⟨hround, hq, hk⟩ := u.onChannel_modFch (f := fun c => { c with edges := [], extra := 0 }) (Q := FCh.delivered) hlen rfl
    refine ⟨⟨hconf, ?_, ?_, hpwr, hhost, hgys, hcle, hsaf, hrtc, hgrp⟩, ?_, fun k hkn => (hfch k).trans (hk k hkn)⟩
    · rw [hv, hch]
      exact hround.fio
    · rw [hv, hch]
      exact hround.length
    · rw [hfch n]
      exact hq

/-- What the readback leaves as it is, and the current it takes (13 R340). -/
def FCh.readBack (output : Bool) (mA : Nat) (c d : FCh) : Prop :=
  d.state = c.state ∧ d.preset = c.preset ∧ d.edges = c.edges ∧ d.extra = c.extra ∧ d.on = c.on ∧ (output = true → d.cur = mA)

theorem State.readback_on {s u : State} {n : Nat} (nodes lim mA : Nat) (hr : s.Round u) (hn : n < 48) (hl : s.fio.ch.length = 48) :
    u.OnChannel (u.readback n nodes lim mA) n (FCh.readBack (s.isOutput n) mA) := by
  have hlen : n < u.fio.ch.length := by rw [hr.length, hl]; exact hn
  unfold State.readback
  rw [hr.isOutput hn]
  cases hout : s.isOutput n with
  | false => exact u.onChannel_modFch hlen ⟨rfl, rfl, rfl, rfl, rfl, fun h => Bool.noConfusion h⟩
  | true =>
    rw [if_neg (by decide)]
    split
    · exact u.onChannel_modFch hlen ⟨rfl, rfl, rfl, rfl, rfl, fun _ => rfl⟩
    · refine u.onChannel_modFch hlen ?_
      dsimp only
      split
      · exact ⟨rfl, rfl, rfl, rfl, rfl, fun _ => rfl⟩
      · exact ⟨rfl, rfl, rfl, rfl, rfl, fun _ => rfl⟩

/-! ## The tick (13 R335 to R340) -/

/-- The tick's three rounds. -/
def State.rounds (s : State) (raw nodes lim : Nat) (mA : List Nat) (l : List Nat) : State :=
  l.foldl (fun s n => s.readback n nodes lim (mA.getD n 0))
    (l.foldl (fun s n => s.deliverChannel n) (l.foldl (fun s n => s.sampleChannel n raw) s))

/-- What the tick makes of a channel. -/
def FCh.ticked (input output v : Bool) (mA : Nat) (c d : FCh) : Prop :=
  d.edges = [] ∧ d.extra = 0 ∧ (input = true → c.preset = true → d.state = v ∧ d.preset = false) ∧
    (input = true → c.preset = false → d.state = c.state) ∧ (output = true → d.on = c.on ∧ d.cur = mA)

theorem FCh.ticked_of {input output v : Bool} {mA : Nat} {c c1 c2 d : FCh} (h1 : FCh.sampled input v c c1) (h2 : FCh.delivered c1 c2)
    (h3 : FCh.readBack output mA c2 d) : FCh.ticked input output v mA c d := by
  obtain ⟨hs, hp, he, hx, ho, hc⟩ := h3
  unfold FCh.sampled at h1
  unfold FCh.delivered at h2
  refine ⟨by rw [he, h2], by rw [hx, h2], fun hi hpre => ?_, fun hi hpre => ?_, fun hout => ⟨?_, hc hout⟩⟩
  · rw [hs, hp, h2, h1, if_pos hi]
    simp [hpre]
  · rw [hs, h2, h1, if_pos hi]
    simp [hpre]
  · rw [ho, h2, h1]
    split <;> rfl

theorem State.rounds_ticked (s : State) (raw nodes lim : Nat) (mA : List Nat) (l : List Nat) (hd : l.Nodup) (h48 : ∀ n ∈ l, n < 48)
    (hl : s.fio.ch.length = 48) :
    s.Round (s.rounds raw nodes lim mA l) ∧ ∀ n ∈ l, FCh.ticked (s.isInput n) (s.isOutput n)
      (raw.testBit n != s.parBit (Idx.FIO_CnCFG n) 3) (mA.getD n 0) (s.fch n) ((s.rounds raw nodes lim mA l).fch n) := by
  obtain ⟨r1, q1, -⟩ := s.round_foldl (g := fun s n => s.sampleChannel n raw) l hd
    fun u hu n hn => State.sampleChannel_on raw hu (h48 n hn) hl
  unfold State.rounds
  generalize l.foldl (fun s n => s.sampleChannel n raw) s = s1 at r1 q1 ⊢
  obtain ⟨r2, q2, -⟩ := s1.round_foldl (g := fun s n => s.deliverChannel n) l hd
    fun u hu n hn => State.deliverChannel_on hu (h48 n hn) (r1.length.trans hl)
  generalize l.foldl (fun s n => s.deliverChannel n) s1 = s2 at r2 q2 ⊢
  obtain ⟨r3, q3, -⟩ := s2.round_foldl (g := fun s n => s.readback n nodes lim (mA.getD n 0)) l hd
    fun u hu n hn => State.readback_on nodes lim (mA.getD n 0) hu (h48 n hn) (r2.length.trans (r1.length.trans hl))
  refine ⟨r1.trans (r2.trans r3), fun n hn => ?_⟩
  have hout : s2.isOutput n = s.isOutput n := (r1.trans r2).isOutput (h48 n hn)
  exact FCh.ticked_of (q1 n hn) (q2 n hn) (hout ▸ q3 n hn)

/-- The end of the tick: the sum of the currents, the probe, the image and the diagnostic bits. -/
def State.tickEnd (s : State) (was : Bool) : State :=
  let s := (s.aggregate).probeTick was
  let img := s.fioWord fun n c => if s.isInput n then c.state else s.isOutput n && c.node
  let d := s.fioDiag
  let s := s.setOwn Idx.FIO_FAULTS (d % 2 ^ 48)
  { s with fio.image := img, fio.diag := d }

theorem State.probeTick_eq (s : State) (was : Bool) : ∃ p due, s.probeTick was = { s with fio.probe := p, fio.probeDue := due } := by
  unfold State.probeTick
  split
  · exact ⟨_, _, rfl⟩
  · split
    · exact ⟨_, _, rfl⟩
    · split
      · exact ⟨_, _, rfl⟩
      · exact ⟨_, _, rfl⟩

theorem fioFaults_noConfig : isConfig Idx.FIO_FAULTS = false := by decide +kernel
theorem aggCurr_noConfig : isConfig Idx.FIO_AGGCURR = false := by decide +kernel
theorem aggPeak_noConfig : isConfig Idx.FIO_AGGPEAK = false := by decide +kernel

theorem State.aggregate_eq (s : State) : ∃ dir agg aggMs shedMs high, s.aggregate =
    { s with dir := dir, fio.agg := agg, fio.aggMs := aggMs, fio.shedMs := shedMs, fio.aggHigh := high } := by
  obtain ⟨d1, h1, -⟩ := s.setOwn_eq ((min 60000 ((s.fio.ch.map fun c => c.cur).foldl (· + ·) 0) : Nat) : Int) aggCurr_noConfig
  obtain ⟨d2, h2, -⟩ := State.peak_eq { s with dir := d1 }
    ((min 60000 ((s.fio.ch.map fun c => c.cur).foldl (· + ·) 0) : Nat) : Int) aggPeak_noConfig
  unfold State.aggregate
  dsimp only
  rw [h1, h2]
  exact ⟨_, _, _, _, _, rfl⟩

theorem State.tickEnd_eq (s : State) (was : Bool) : ∃ dir fio, s.tickEnd was = { s with dir := dir, fio := fio } ∧ fio.ch = s.fio.ch ∧
    fio.word = s.fio.word := by
  obtain ⟨dir, agg, aggMs, shedMs, high, hagg⟩ := s.aggregate_eq
  obtain ⟨p, due, hprobe⟩ := s.aggregate.probeTick_eq was
  rw [hagg] at hprobe
  unfold State.tickEnd
  rw [hagg, hprobe]
  dsimp only
  generalize State.fioDiag _ = d
  generalize State.fioWord _ _ = w
  obtain ⟨dir', hown, -⟩ := State.setOwn_eq _ ((d : Int) % 2 ^ 48) fioFaults_noConfig
  rw [hown]
  exact ⟨_, _, rfl, rfl, rfl⟩

theorem execFioTick_of_engines {s : State} (raw nodes lim : Nat) (mA : List Nat) (he : s.engines = true)
    (hl : s.fio.ch.length = 48) :
    ∃ t, exec (.fioTick raw nodes lim mA) s = .next t ∧ (∀ c ∈ t.fio.ch, c.edges = [] ∧ c.extra = 0) ∧
      (∀ n < 48, s.isInput n = true → (s.fch n).preset = true →
        (t.fch n).state = (raw.testBit n != s.parBit (Idx.FIO_CnCFG n) 3) ∧ (t.fch n).preset = false) ∧
      (∀ n < 48, s.isInput n = true → (s.fch n).preset = false → (t.fch n).state = (s.fch n).state) ∧
      (∀ n < 48, s.isOutput n = true → (t.fch n).on = (s.fch n).on ∧ (t.fch n).cur = mA.getD n 0) ∧ t.fio.word = s.fio.word ∧
      t.pwr = s.pwr ∧ t.host = s.host ∧ t.gys = s.gys ∧ t.cle = s.cle ∧ t.saf = s.saf ∧ t.rtc = s.rtc ∧ t.grp = s.grp := by
  obtain ⟨hround, htick⟩ := s.rounds_ticked raw nodes lim mA (List.range 48) List.nodup_range (fun n => List.mem_range.mp) hl
  have hex : exec (.fioTick raw nodes lim mA) s =
      .next ((s.rounds raw nodes lim mA (List.range 48)).tickEnd (s.fio.ch.any fun c => c.suspect)) := by
    refine (occurs_pos he).trans ?_
    unfold State.rounds State.tickEnd
    generalize List.range 48 = l
    rfl
  replace htick := fun n hn => htick n (List.mem_range.mpr hn)
  generalize s.rounds raw nodes lim mA (List.range 48) = u at hround htick hex
  obtain ⟨dir, fio, hend, hch, hword⟩ := u.tickEnd_eq (s.fio.ch.any fun c => c.suspect)
  rw [hend] at hex
  have hfch (n : Nat) : State.fch { u with dir := dir, fio := fio } n = u.fch n := congrArg (fun l => l.getD n {}) hch
  refine ⟨_, hex, fun c hc => ?_, fun n hn hi hp => ?_, fun n hn hi hp => ?_, fun n hn ho => ?_, ?_, hround.pwr, hround.host,
    hround.gys, hround.cle, hround.saf, hround.rtc, hround.grp⟩
  · obtain ⟨n, hlt, rfl⟩ := List.getElem_of_mem (show c ∈ u.fio.ch from hch ▸ hc)
    have hn : n < 48 := by rwa [hround.length, hl] at hlt
    obtain ⟨hedges, hextra, -⟩ := htick n hn
    have hget : u.fch n = u.fio.ch[n] := by simp [State.fch, List.getD, hlt]
    rw [hget] at hedges hextra
    exact ⟨hedges, hextra⟩
  · rw [hfch]
    exact (htick n hn).2.2.1 hi hp
  · rw [hfch]
    exact (htick n hn).2.2.2.1 hi hp
  · rw [hfch]
    exact (htick n hn).2.2.2.2 ho
  · exact hword.trans (by rw [hround.fio])

/-- Settles O19: the edge changes its channel alone; the tick works through the channels in three rounds. -/
theorem fieldInputsAreFiltered : Obligations.FieldInputsAreFiltered := by
  refine ⟨fun s n count at_ he hn hl hi hp hc h8 => ?_, fun s raw nodes lim mA he hl => execFioTick_of_engines raw nodes lim mA he hl⟩
  refine ⟨_, occurs_pos (by simp [he, hn, hi, hp, hc]), rfl, ?_, fun k hk => s.fch_modFch_ne _ hk⟩
  rw [s.fch_modFch_self _ hl]
  exact if_pos h8

end Sys2Proof.Machine
end

section
/-!
PROOFS. What is waiting at the replanning tick is taken (09 R216 to R221).
-/
namespace Sys2Proof.Machine

/-! ## What the replanning tick leaves as it is (09 R221) -/

/-- Targets do not have to wait for the end of a stop or of a relevel (Table HST-2). -/
def HSt.ahead (st : HSt) : Prop := st ≠ .stopping ∧ st ≠ .relevelling

/-- From `s` to `t` no target came to wait or was taken, no stop was asked for, and no command was handed over; where `ok`, the car
did not begin to stop at its target or to relevel. -/
structure State.Calm (ok : Prop) (s t : State) : Prop where
  ahead : ok → s.hst.st.ahead → t.hst.st.ahead
  waiting : t.hst.waiting = s.hst.waiting
  stop : s.hst.stopReq = none → t.hst.stopReq = none
  frame : t.hst.invNew = s.hst.invNew
  replied : t.hst.dlReplied = s.hst.dlReplied
  ops : ∀ f ∈ t.host.ops, f ∈ s.host.ops

variable {ok : Prop}

theorem State.Calm.refl (s : State) : State.Calm ok s s := ⟨fun _ => id, rfl, id, rfl, rfl, fun _ => id⟩

theorem State.Calm.trans {s t u : State} (h : State.Calm ok s t) (h' : State.Calm ok t u) : State.Calm ok s u :=
  ⟨fun hok hs => h'.ahead hok (h.ahead hok hs), h'.waiting.trans h.waiting, fun hs => h'.stop (h.stop hs), h'.frame.trans h.frame, h'.replied.trans h.replied,
    fun f hf => h.ops f (h'.ops f hf)⟩

/-- Other blocks do not count. -/
theorem State.Calm.of_eq {s t : State} (hh : t.hst = s.hst) (ho : t.host = s.host) : State.Calm ok s t :=
  ⟨fun _ hs => by rwa [hh], by rw [hh], fun hs => by rw [hh]; exact hs, by rw [hh], by rw [hh], fun f hf => by rwa [ho] at hf⟩

/-- The parts of the hoist axis that do not concern targets or stops do not count. -/
theorem State.Calm.of_parts {s t : State} (hw : t.hst.waiting = s.hst.waiting) (hs : t.hst.stopReq = s.hst.stopReq)
    (hf : t.hst.invNew = s.hst.invNew) (hr : t.hst.dlReplied = s.hst.dlReplied) (ho : t.host = s.host) (hst : t.hst.st = s.hst.st) : State.Calm ok s t :=
  ⟨fun _ h => by rwa [hst], hw, fun h => hs.trans h, hf, hr, fun f h => by rwa [ho] at h⟩

theorem State.Calm.ite {s t u : State} {c : Prop} [Decidable c] (h : State.Calm ok s t) (h' : State.Calm ok s u) : State.Calm ok s (if c then t else u) := by
  split
  · exact h
  · exact h'

theorem State.Calm.foldl {α : Type} {g : State → α → State} (h : ∀ s x, State.Calm ok s (g s x)) (l : List α) (s : State) :
    State.Calm ok s (l.foldl g s) := by
  induction l generalizing s with
  | nil => exact .refl s
  | cons x l ih => exact (h s x).trans (ih (g s x))

theorem State.raise_calm (s : State) (code sev inst : Nat) (data : List (Nat × Int)) : State.Calm ok s (s.raise code sev inst data) :=
  .of_eq (by simp) (by simp)

theorem State.setOwn_calm (s : State) (i : Nat) (v : Int) : State.Calm ok s (s.setOwn i v) := .of_eq (by simp) (by simp)

theorem State.wantSlots_calm (s : State) (ns : List Nat) (b : Bool) : State.Calm ok s (s.wantSlots ns b) := .of_eq (by simp) (by simp)

theorem State.complete_calm (s : State) (f : Flight) (st : Status) (detail : Nat) (payload : List Byte) (committed after : Bool) :
    State.Calm ok s (s.complete f st detail payload committed after) :=
  ⟨fun _ => id, rfl, id, rfl, rfl, fun _ hf => (List.mem_filter.mp hf).1⟩

theorem State.dropCause_calm (s : State) (bit : Nat) : State.Calm ok s (s.dropCause bit) := .of_parts rfl rfl rfl rfl rfl rfl

theorem State.addCause_calm (s : State) (bit : Nat) : State.Calm ok s (s.addCause bit) := .of_parts rfl rfl rfl rfl rfl rfl

theorem State.hstRelease_calm (s : State) {st : HSt} (h : ok → st.ahead) : State.Calm ok s (s.hstRelease st) := ⟨fun hok _ => h hok, rfl, fun _ => rfl, rfl, rfl, fun _ => id⟩

theorem State.learnFault_calm (s : State) (cause : Nat) : State.Calm ok s (s.learnFault cause) :=
  (((s.raise_calm _ _ _ _).trans (State.setOwn_calm _ _ _)).trans (State.setOwn_calm _ _ _)).trans
    ⟨fun _ => id, rfl, fun _ => rfl, rfl, rfl, fun _ => id⟩

theorem State.dropRun_calm (s : State) {st : HSt} (h : ok → st.ahead) : State.Calm ok s (s.dropRun st) := by
  unfold State.dropRun
  refine (State.Calm.ite (s.learnFault_calm 5) (.refl s)).trans ((State.hstRelease_calm _ fun hok => ?_).trans
    (State.wantSlots_calm _ _ _))
  split
  · exact ⟨nofun, nofun⟩
  · exact h hok

theorem State.lateAt_calm (s : State) (l : Option Nat) : State.Calm ok s { s with hst.lateAt := l } := .of_parts rfl rfl rfl rfl rfl rfl

theorem State.applyLimits_calm (s : State) : State.Calm ok s s.applyLimits := by
  have hlim (v a j : Nat) (held : Bool) :
      State.Calm ok s { s with hst.limV := v, hst.limA := a, hst.limJ := j, hst.limHeld := held } := .of_parts rfl rfl rfl rfl rfl rfl
  unfold State.applyLimits
  extract_lets v a j rest held late axis u
  have hu : State.Calm ok s u := hlim v (if held then s.hst.limA else a) (if held then s.hst.limJ else j) held
  clear_value late u
  cases late with
  | none => exact hu
  | some t =>
    exact .ite ((hu.trans (State.raise_calm _ _ _ _ _)).trans (State.lateAt_calm _ _)) (hu.trans (State.lateAt_calm _ _))

theorem State.setPlan_calm (s : State) (goal : Int) (kind : Goal) : State.Calm ok s (s.setPlan goal kind) := by
  unfold State.setPlan
  dsimp only
  exact (s.setOwn_calm _ _).trans (.of_parts rfl rfl rfl rfl rfl rfl)

theorem State.setStop_calm (s : State) (kind : Goal) : State.Calm ok s (s.setStop kind) := .of_parts rfl rfl rfl rfl rfl rfl

theorem State.landingStop_calm (s : State) (kind : Goal) : State.Calm ok s (s.landingStop kind) := by
  unfold State.landingStop
  split
  · exact s.setPlan_calm _ _
  · exact s.setStop_calm _

theorem State.reverse_calm (s : State) : State.Calm ok s s.reverse := by
  unfold State.reverse
  dsimp only
  refine State.Calm.trans (t := if (s.par Idx.HST_REVPOL == 1 && !(s.par Idx.HST_REVPOL == 1 && s.revAllowed)) = true then
    s.raise 0x0512 2 else s) (.ite (s.raise_calm _ _ _ _) (.refl s)) ?_
  exact .ite ((State.setStop_calm _ _).trans (State.raise_calm _ _ _ _ _)) ((State.landingStop_calm _ _).trans (State.raise_calm _ _ _ _ _))

theorem State.planTarget_calm (s : State) : State.Calm ok s s.planTarget := by
  unfold State.planTarget
  split
  · exact .refl s
  · exact .ite s.reverse_calm (s.setPlan_calm _ _)

theorem State.report_calm (s : State) (code : Nat) : State.Calm ok s (s.report code).1 := by
  unfold State.report
  rcases s.achieved with ⟨p, vp, us⟩
  dsimp only
  exact ((s.setOwn_calm _ _).trans (State.setOwn_calm _ _ _)).trans (State.setOwn_calm _ _ _)

theorem State.answerTgt_calm (s : State) (t : Tgt) (res : List Byte) : State.Calm ok s (s.answerTgt t res) := by
  unfold State.answerTgt
  split
  · split
    · exact s.complete_calm _ _ _ _ _ _
    · exact .refl s
  · exact .of_parts rfl rfl rfl rfl rfl rfl
  · exact .refl s
  · exact .refl s

theorem State.refuseTgt_calm (s : State) (t : Tgt) (st : Status) : State.Calm ok s (s.refuseTgt t st) := by
  unfold State.refuseTgt
  split
  · split
    · exact s.complete_calm _ _ _ _ _ _
    · exact .refl s
  · exact .of_parts rfl rfl rfl rfl rfl rfl
  · exact .refl s
  · exact .refl s

theorem State.beginStart_calm (s : State) {st : HSt} (h : ok → s.hst.st.ahead → st.ahead) : State.Calm ok s (s.beginStart st) :=
  ⟨h, rfl, id, rfl, rfl, fun _ => id⟩

theorem State.supersede_calm (s : State) : State.Calm ok s s.supersede := .of_eq (by simp) (by simp)

theorem State.handFlags_calm (s : State) (t : Tgt) : State.Calm ok s (s.handFlags t) := .of_eq (by simp) (by simp)

theorem State.maybeZone_calm (s : State) (t : Tgt) (p : Int) : State.Calm ok s (s.maybeZone t p) := .of_eq (by simp) (by simp)

theorem State.actStop_calm (s : State) (atLanding : Bool) : State.Calm ok s (s.actStop atLanding) := by
  unfold State.actStop
  refine .ite (.ite ((s.learnFault_calm 5).trans (State.setStop_calm _ _)) (s.dropRun_calm fun _ => ⟨nofun, nofun⟩)) ?_
  extract_lets front rear axis u
  have hu : State.Calm ok s u := .of_parts rfl rfl rfl rfl rfl rfl
  clear_value u
  exact hu.trans (.ite (.ite (State.landingStop_calm _ _) (State.setStop_calm _ _)) (.ite (State.dropRun_calm _ fun _ => ⟨nofun, nofun⟩) (.refl _)))

/-! ## What is waiting is taken (09 R216, R218, R221) -/

theorem State.ver_calm (s : State) (t : Option Tgt) (v : Nat) :
    State.Calm ok s { s with hst.target := t, hst.ver := v, hst.zoneTarget := none } := .of_parts rfl rfl rfl rfl rfl rfl

theorem State.limV_calm (s : State) (v : Nat) : State.Calm ok s { s with hst.limV := v } := .of_parts rfl rfl rfl rfl rfl rfl

theorem State.atGoal_calm (s : State) (r : RefSt) (p : Int) (k : Goal) :
    State.Calm ok s { s with hst.ref := r, hst.planEnd := p, hst.plan := [], hst.goal := k } := .of_parts rfl rfl rfl rfl rfl rfl

theorem State.noTarget_calm (s : State) : State.Calm ok s { s with hst.target := none } := .of_parts rfl rfl rfl rfl rfl rfl

theorem State.zoneTarget_calm (s : State) (t : Option Tgt) : State.Calm ok s { s with hst.zoneTarget := t } :=
  .of_parts rfl rfl rfl rfl rfl rfl

theorem State.takeTarget_calm (s : State) (t : Tgt) : State.Calm ok s (s.takeTarget t) := by
  unfold State.takeTarget
  extract_lets fresh sup axis u p axis' v _ _ _ w plan axis'' z
  have hv : State.Calm ok s v := (s.supersede_calm.trans (State.ver_calm _ _ _)).trans (State.limV_calm _ _)
  clear_value v fresh
  refine .ite ?_ (.ite ?_ ?_)
  · exact hv.trans ((State.atGoal_calm _ _ _ _).trans ((State.setOwn_calm _ _ _).trans ((State.report_calm _ _).trans
      ((State.answerTgt_calm _ _ _).trans ((State.noTarget_calm _).trans (State.handFlags_calm _ _))))))
  · exact hv.trans ((State.atGoal_calm _ _ _ _).trans ((State.setOwn_calm _ _ _).trans ((State.report_calm _ _).trans
      ((State.answerTgt_calm _ _ _).trans ((State.noTarget_calm _).trans ((State.zoneTarget_calm _ _).trans
        (State.maybeZone_calm _ _ _)))))))
  · have hw : State.Calm ok v w := by
      refine .ite (State.beginStart_calm _ fun _ h => ?_) (.refl v)
      split
      · exact ⟨nofun, nofun⟩
      · exact h
    have hz : State.Calm ok v z := hw.trans ((State.planTarget_calm w).trans
      (.ite ((State.zoneTarget_calm _ _).trans (State.maybeZone_calm _ _ _)) (.refl _)))
    exact hv.trans (hz.trans ((State.report_calm _ _).trans (State.answerTgt_calm _ _ _)))

theorem State.takesNow_or_refuses {s : State} (h : s.hst.st.ahead) : s.takesNow = true ∨ s.takesNow = false ∧ s.acceptsMove = false := by
  obtain ⟨hs, hr⟩ := h
  unfold State.takesNow State.acceptsMove
  cases hst : s.hst.st
  case learnFault => cases s.mode == 1 <;> simp
  all_goals simp_all

/-- Every waiting target is answered. -/
theorem State.takeTargets_calm (s : State) : State.Calm ok { s with hst.waiting := [] } s.takeTargets ∨ s.takeTargets = s ∧ ¬s.hst.st.ahead := by
  unfold State.takeTargets
  by_cases hnow : s.takesNow = true
  · rw [if_pos hnow]
    refine .inl (State.Calm.foldl (fun u t => ?_) _ _)
    split
    · exact u.refuseTgt_calm _ _
    · exact u.takeTarget_calm _
  · rw [if_neg hnow]
    by_cases hacc : s.acceptsMove = true
    · rw [if_pos hacc]
      refine .inr ⟨rfl, fun h => ?_⟩
      rcases State.takesNow_or_refuses h with h | h
      · exact hnow h
      · exact Bool.noConfusion (h.2.symm.trans hacc)
    · rw [if_neg hacc]
      exact .inl (State.Calm.foldl (fun u t => u.refuseTgt_calm t .state) _ _)

/-- The stopped car does not keep a STOP_MOTION waiting. -/
def State.Prompt (s : State) : Prop := s.hst.st.ahead ∨ s.hst.waiting = []

theorem State.takeTargets_waiting {s : State} (h : s.Prompt) : s.takeTargets.hst.waiting = [] := by
  rcases s.takeTargets_calm (ok := False) with hc | ⟨he, hn⟩
  · exact hc.waiting
  · rw [he]
    exact h.resolve_left hn

theorem State.takeTargets_ahead {s : State} (h : s.hst.st.ahead) : s.takeTargets.hst.st.ahead := by
  rcases s.takeTargets_calm (ok := True) with hc | ⟨he, hn⟩
  · exact hc.ahead trivial h
  · exact absurd h hn

/-- What every turn leaves as it is. -/
structure State.Turns (s t : State) : Prop where
  frame : t.hst.invNew = s.hst.invNew
  replied : t.hst.dlReplied = s.hst.dlReplied
  ops : ∀ f ∈ t.host.ops, f ∈ s.host.ops

theorem State.Turns.refl (s : State) : s.Turns s := ⟨rfl, rfl, fun _ => id⟩

theorem State.Turns.trans {s t u : State} (h : s.Turns t) (h' : t.Turns u) : s.Turns u :=
  ⟨h'.frame.trans h.frame, h'.replied.trans h.replied, fun f hf => h.ops f (h'.ops f hf)⟩

theorem State.Calm.turns {s t : State} (h : State.Calm ok s t) : s.Turns t := ⟨h.frame, h.replied, h.ops⟩

theorem State.waiting_turns (s : State) (w : List Tgt) : s.Turns { s with hst.waiting := w } := ⟨rfl, rfl, fun _ => id⟩

theorem State.takeTargets_turns (s : State) : s.Turns s.takeTargets := by
  rcases s.takeTargets_calm (ok := False) with hc | ⟨he, -⟩
  · exact (s.waiting_turns []).trans hc.turns
  · rw [he]
    exact .refl s

theorem State.actStop_complete_calm (s : State) (f : Flight) (b : Bool) :
    State.Calm ok s ((s.actStop b).complete f .accepted 0 [] true) := (s.actStop_calm b).trans (State.complete_calm _ _ _ _ _ _ _)

theorem State.not_mem_complete (s : State) (f : Flight) (st : Status) (detail : Nat) (payload : List Byte) (committed after : Bool) :
    ∀ g ∈ (s.complete f st detail payload committed after).host.ops, g.d.tag ≠ f.d.tag := fun g hg => by
  have hne := (List.mem_filter.mp hg).2
  simpa using hne

theorem State.stopTurn_turns (s : State) (f : Flight) : s.Turns (s.stopTurn f) := by
  unfold State.stopTurn
  extract_lets before early late axis u v
  have hu : s.Turns u := (s.waiting_turns _).trans (State.takeTargets_turns _)
  have hv : u.Turns v := by
    have h := State.Calm.ite (c := u.hst.waiting.isEmpty = true) (u.actStop_complete_calm (ok := False) f ((getU f.p 0 1).testBit 0)) (.refl u)
    exact h.turns
  exact (hu.trans hv).trans (State.waiting_turns _ _)

/-- A STOP_MOTION that does not have to wait is answered at its turn. -/
theorem State.stopTurn_answers {s : State} (f : Flight) (h : s.Prompt) :
    (s.hst.st.ahead → (s.stopTurn f).hst.st.ahead) ∧ (s.hst.waiting = [] → (s.stopTurn f).hst.waiting = []) ∧
      ∀ g ∈ (s.stopTurn f).host.ops, g.d.tag ≠ f.d.tag := by
  unfold State.stopTurn
  extract_lets before early late axis u v
  have hprompt : State.Prompt { s with hst.waiting := s.hst.waiting.filter early } := h.imp id fun hw => by
    rw [hw]
    rfl
  have hempty : u.hst.waiting = [] := State.takeTargets_waiting hprompt
  have hv : v = (u.actStop ((getU f.p 0 1).testBit 0)).complete f .accepted 0 [] true := if_pos (by rw [hempty]; rfl)
  have hcalm := u.actStop_complete_calm (ok := True) f ((getU f.p 0 1).testBit 0)
  rw [← hv] at hcalm
  refine ⟨fun ha => hcalm.ahead trivial (State.takeTargets_ahead (s := { s with hst.waiting := s.hst.waiting.filter early }) ha),
    fun hw => ?_, fun g hg => ?_⟩
  · have hlate : late = [] := by
      show s.hst.waiting.filter _ = []
      rw [hw]
      rfl
    show v.hst.waiting ++ late = []
    rw [hcalm.waiting, hempty, hlate]
    rfl
  · exact State.not_mem_complete _ _ _ _ _ _ _ g (hv ▸ hg)

theorem State.stopTurns_turns (l : List Flight) (s : State) : s.Turns (l.foldl State.stopTurn s) := by
  induction l generalizing s with
  | nil => exact .refl s
  | cons f l ih => exact (s.stopTurn_turns f).trans (ih _)

theorem State.stopTurns_answer (l : List Flight) {s : State} (h : s.Prompt) :
    (l.foldl State.stopTurn s).Prompt ∧ ∀ f ∈ l, ∀ g ∈ (l.foldl State.stopTurn s).host.ops, g.d.tag ≠ f.d.tag := by
  induction l generalizing s with
  | nil => exact ⟨h, fun _ hf => absurd hf List.not_mem_nil⟩
  | cons f l ih =>
    obtain ⟨ha, hw, hf⟩ := State.stopTurn_answers f h
    obtain ⟨hp, hl⟩ := ih (h.imp ha hw)
    refine ⟨hp, fun x hx g hg => ?_⟩
    rcases List.mem_cons.mp hx with rfl | hx
    · exact hf g ((State.stopTurns_turns l _).ops g hg)
    · exact hl x hx g hg

/-- The stop asked for by another block is carried out. -/
theorem State.stopAsked_calm (s : State) (n : Nat) :
    State.Calm ok { s with hst.stopReq := none } ((({ s with hst.stopReq := none } : State)).actStop (n == 1)) := State.actStop_calm _ _

theorem State.takeMotion_turns (s : State) : s.Turns s.takeMotion ∧ s.takeMotion.hst.stopReq = none := by
  unfold State.takeMotion
  extract_lets u
  have hu : s.Turns u := (State.stopTurns_turns _ s).trans (State.takeTargets_turns _)
  clear_value u
  split
  · next n _ =>
    have hc := u.stopAsked_calm (ok := False) n
    have hn : u.Turns { u with hst.stopReq := none } := ⟨rfl, rfl, fun _ => id⟩
    exact ⟨hu.trans (hn.trans hc.turns), hc.stop rfl⟩
  · next hno => exact ⟨hu, hno⟩

theorem State.takeMotion_answers {s : State} (h : s.Prompt) :
    s.takeMotion.hst.waiting = [] ∧ ∀ f ∈ s.takeMotion.host.ops, f.phase ≠ .stopWait := by
  obtain ⟨hp, hl⟩ := State.stopTurns_answer (s.host.ops.filter fun f => f.phase == .stopWait) h
  have hsub := State.stopTurns_turns (s.host.ops.filter fun f => f.phase == .stopWait) s
  have htake := State.takeTargets_turns ((s.host.ops.filter fun f => f.phase == .stopWait).foldl State.stopTurn s)
  have hwait := State.takeTargets_waiting hp
  unfold State.takeMotion
  generalize (s.host.ops.filter fun f => f.phase == .stopWait).foldl State.stopTurn s = u at *
  have hops : ∀ f ∈ u.takeTargets.host.ops, f.phase ≠ .stopWait := fun f hf hph =>
    hl f (List.mem_filter.mpr ⟨hsub.ops f (htake.ops f hf), by rw [hph]; rfl⟩) f (htake.ops f hf) rfl
  dsimp only
  split
  · next n _ =>
    have hc := u.takeTargets.stopAsked_calm (ok := False) n
    exact ⟨hc.waiting.trans hwait, fun f hf => hops f (hc.ops f hf)⟩
  · exact ⟨hwait, hops⟩

end Sys2Proof.Machine
end

section
/-!
PROOFS. The rest of the replanning tick, and what waits for it (09 R210 to R226).
-/
namespace Sys2Proof.Machine

/-! ## The rest of the tick answers nobody (09 R219 to R226) -/

/-- Where the state of the axis does not count. -/
theorem State.Calm.of_rest {s t : State} (hw : t.hst.waiting = s.hst.waiting) (hs : s.hst.stopReq = none → t.hst.stopReq = none)
    (hf : t.hst.invNew = s.hst.invNew) (hr : t.hst.dlReplied = s.hst.dlReplied) (ho : t.host = s.host) : State.Calm False s t :=
  ⟨False.elim, hw, hs, hf, hr, fun f h => by rwa [ho] at h⟩

theorem State.st_calm (s : State) (st : HSt) : State.Calm False s { s with hst.st := st } := .of_rest rfl id rfl rfl rfl

theorem State.learn_calm (s : State) (l : Learn) : State.Calm False s { s with hst.learn := l } := .of_rest rfl id rfl rfl rfl

theorem State.standCauses_calm (s : State) : State.Calm False s s.standCauses := by
  have h : State.Calm False s (((s.dropCause 3).dropCause 5).dropCause 8) :=
    ((s.dropCause_calm 3).trans (State.dropCause_calm _ 5)).trans (State.dropCause_calm _ 8)
  unfold State.standCauses
  exact .ite h (h.trans ((State.hstRelease_calm _ False.elim).trans (State.wantSlots_calm _ _ _)))

theorem State.refuseStart_calm (s : State) : State.Calm False s s.refuseStart :=
  (s.raise_calm _ _ _ _).trans (State.dropRun_calm _ False.elim)

theorem State.actCauses_calm (s : State) : State.Calm False s s.actCauses := by
  have hstop : State.Calm False s { s with hst.st := .controlledStop, hst.target := none, hst.zoneTarget := none } :=
    .of_rest rfl id rfl rfl rfl
  unfold State.actCauses
  refine .ite (.refl s) (.ite (.ite (.refl s) (.ite (.refl s) (hstop.trans (State.setStop_calm _ _)))) ?_)
  split
  · exact s.standCauses_calm
  · exact .ite s.refuseStart_calm s.standCauses_calm
  · exact s.standCauses_calm
  · exact s.standCauses_calm
  · exact .refl s
  · exact .ite s.refuseStart_calm (.refl s)

theorem State.learnMove_calm (s : State) (up : Bool) : State.Calm False s (s.learnMove up) := by
  unfold State.learnMove
  extract_lets far axis u v
  have hu : State.Calm False s u := .of_rest rfl id rfl rfl rfl
  exact hu.trans ((State.beginStart_calm _ False.elim).trans ((State.limV_calm _ _).trans (State.planTarget_calm _)))

theorem State.takeLearn_calm (s : State) : State.Calm False s s.takeLearn := by
  unfold State.takeLearn
  split
  · exact .refl s
  · refine .ite ?_ (s.complete_calm _ _ _ _ _ _)
    exact (s.complete_calm _ _ _ _ _ _).trans ((State.raise_calm _ _ _ _ _).trans ((State.learn_calm _ _).trans
      (State.learnMove_calm _ _)))

theorem State.checkTracking_calm (s : State) : State.Calm False s s.checkTracking :=
  .ite ((s.raise_calm _ _ _ _).trans (State.addCause_calm _ _)) (.refl s)

theorem State.tier2_calm (s : State) (b : Bool) : State.Calm False s { s with shf.tier2 := b } := .of_eq rfl rfl

theorem State.checkTier2_calm (s : State) : State.Calm False s s.checkTier2 :=
  .ite ((s.raise_calm _ _ _ _).trans ((State.setOwn_calm _ _ _).trans ((State.tier2_calm _ _).trans (State.addCause_calm _ _))))
    (.ite (s.tier2_calm _) (.refl s))

theorem State.extendZone_calm (s : State) : State.Calm False s s.extendZone := by
  unfold State.extendZone
  split
  · next q _ =>
    have hu : State.Calm False s { s with shf.request := none } := .of_eq rfl rfl
    refine .ite ?_ (.refl s)
    generalize ({ s with shf.request := none } : State) = u at hu
    have hv := u.raise_calm (ok := False) 0x0F08 1 0xFF []
    refine .ite ?_ hu
    generalize u.raise 0x0F08 1 = v at hv
    have hz := v.zoneTarget_calm (ok := False) none
    exact .ite (hu.trans (hv.trans (hz.trans (State.planTarget_calm _))))
      (.ite (hu.trans (hv.trans (hz.trans (State.takeTarget_calm _ _)))) (hu.trans hv))
  · exact .refl s

theorem State.replan_calm (s : State) (v a j : Nat) : State.Calm False s (s.replan v a j) := by
  unfold State.replan
  refine .ite (.refl s) (.ite ?_ (.refl s))
  split
  · exact s.planTarget_calm
  · exact s.planTarget_calm
  · exact .ite (s.setStop_calm _) (s.setPlan_calm _ _)
  · exact s.landingStop_calm _
  · exact s.setStop_calm _

theorem State.advanceRef_calm (s : State) : State.Calm False s s.advanceRef := by
  unfold State.advanceRef
  refine .ite (.refl s) ?_
  exact .ite (.of_rest rfl id rfl rfl rfl) (.of_rest rfl id rfl rfl rfl)

theorem State.atRest_calm (s : State) : State.Calm False s s.atRest := by
  unfold State.atRest
  split
  · exact s.planTarget_calm
  · exact .ite (.of_rest rfl id rfl rfl rfl) (.ite (.of_rest rfl id rfl rfl rfl) (.refl s))
  · extract_lets st axis u
    have hu : State.Calm False s u := .of_rest rfl id rfl rfl rfl
    clear_value u
    split
    · exact .ite (hu.trans (u.handFlags_calm _)) hu
    · exact hu

theorem State.dwellTick_calm (s : State) : State.Calm False s s.dwellTick := by
  unfold State.dwellTick
  refine .ite (.refl s) (.ite (.ite ?_ (.refl s)) (.ite (s.hstRelease_calm False.elim) (.refl s)))
  exact (s.wantSlots_calm _ _).trans (.of_rest rfl id rfl rfl rfl)

theorem State.lift_calm (s : State) (b : Bool) (x : Int) : State.Calm False s { s with hst.liftReq := b, hst.preLatch := x } :=
  .of_rest rfl id rfl rfl rfl

theorem State.startSequence_calm (s : State) : State.Calm False s s.startSequence := by
  unfold State.startSequence
  refine .ite (.refl s) (.ite s.refuseStart_calm ?_)
  extract_lets st _ u en _ v _
  have hu : State.Calm False s u := .ite (.of_rest rfl id rfl rfl rfl) (.refl s)
  have hv : State.Calm False u v := .of_rest rfl id rfl rfl rfl
  exact (hu.trans hv).trans (.ite ((State.lift_calm _ _ _).trans (State.wantSlots_calm _ _ _)) (.refl v))

theorem State.relevelTick_calm (s : State) : State.Calm False s s.relevelTick := by
  unfold State.relevelTick
  refine .ite (.refl s) ?_
  split
  · exact .of_rest rfl id rfl rfl rfl
  · refine .ite ?_ (.ite (.of_rest rfl id rfl rfl rfl) (.refl s))
    have hu (t : Tgt) : State.Calm False s { s with hst.target := some t } := .of_rest rfl id rfl rfl rfl
    exact (hu _).trans ((State.beginStart_calm _ False.elim).trans ((State.limV_calm _ _).trans (State.setPlan_calm _ _ _)))

theorem State.afterStop_calm (s : State) : State.Calm False s s.afterStop := by
  unfold State.afterStop
  refine .ite (.refl s) ?_
  extract_lets _ _ u
  have hu : State.Calm False s u := .of_rest rfl id rfl rfl rfl
  clear_value u
  refine .ite hu ?_
  split
  · exact hu
  · exact hu
  · exact hu.trans (State.st_calm _ _)
  · exact hu.trans ((State.dropCause_calm _ _).trans ((State.dropCause_calm _ _).trans ((State.dropCause_calm _ _).trans
      (State.st_calm _ _))))
  · exact hu.trans (State.st_calm _ _)

theorem State.learnDwell_calm (s : State) : State.Calm False s s.learnDwell :=
  .ite ((s.learn_calm _).trans (State.learnMove_calm _ _)) (.refl s)

theorem State.learnSum_calm (s : State) : State.Calm False s s.learnSum := .ite (s.learn_calm _) (.refl s)

theorem State.settle_calm (s : State) : State.Calm False s s.settle := by
  unfold State.settle
  refine .ite (.refl s) ?_
  split
  · exact .ite (s.st_calm _) (.ite (s.st_calm _) (.refl s))
  · exact .ite (s.st_calm _) (.ite (.refl s) (s.st_calm _))
  · exact .ite (s.st_calm _) (.refl s)
  · exact .ite (s.st_calm _) (.refl s)
  · exact .ite (s.st_calm _) (.refl s)
  · exact .ite (s.st_calm _) (.refl s)
  · exact .refl s

theorem State.boundsTick_calm (s : State) : State.Calm False s s.boundsTick := .of_eq (by simp) (by simp)

theorem State.hstInputs_calm (s : State) : State.Calm False s s.hstInputs := .of_eq (by simp) (by simp)

/-! ## The tick in its stages -/

/-- The tick takes the inverter's frame. -/
def State.tickStart (s : State) : State :=
  { s with
    hst.invFrame := if s.hst.invNew.isEmpty then s.hst.invFrame else s.hst.invNew
    hst.invGood := !s.hst.invNew.isEmpty
    hst.invNew := []
    hst.dlReplied := false }

/-- From the taking of targets to the new plan. -/
def State.tickPlan (s : State) (v a j : Nat) : State := ((s.takeLearn.checkTracking.checkTier2).actCauses.extendZone).replan v a j

/-- The reference moves on, and rests. -/
def State.tickMove (s : State) : State :=
  let s := s.advanceRef
  if s.hst.released && s.refRest && !s.hst.levelled then s.atRest else s

/-- The start and stop sequence and the learning run. -/
def State.tickSequence (s : State) : State :=
  ((((s.dwellTick).startSequence).relevelTick).afterStop.learnDwell).learnSum

/-- The states that follow, the bounds, and the registers of Caldera. -/
def State.tickEnds (s : State) : State :=
  let s := (s.settle).boundsTick
  let e := s.normalExtents
  ({ s with shf.un := e.1, shf.ln := e.2 } : State).hstInputs

/-- The tick after its targets and stops are taken. -/
def State.tickRest (s : State) (v a j : Nat) : State := ((s.tickPlan v a j).tickMove.tickSequence).tickEnds

theorem execReplanningTick_of_engines {s : State} (he : s.engines = true) :
    exec .replanningTick s = .next (s.tickStart.applyLimits.takeMotion.tickRest s.hst.limV s.hst.limA s.hst.limJ) := by
  suffices h : execReplanningTick s =
      .next (s.tickStart.applyLimits.takeMotion.tickRest s.hst.limV s.hst.limA s.hst.limJ) from h
  unfold execReplanningTick
  rw [occurs_pos he]
  refine congrArg Host.Outcome.next ?_
  extract_lets _ s0 v a j s1 s2 s3 s4 s5 s6 s7 s8 s9 e
  have h0 : s0 = s.tickStart := rfl
  have h4 : s4 = s0.applyLimits.takeMotion.tickPlan v a j := rfl
  have h6 : s6 = s4.tickMove := rfl
  have h8 : s8 = s6.tickSequence := rfl
  have hv : v = s.hst.limV := rfl
  have ha : a = s.hst.limA := rfl
  have hj : j = s.hst.limJ := rfl
  have h9 : s9 = s8.settle.boundsTick := rfl
  have hend : { s9 with shf.un := e.1, shf.ln := e.2 }.hstInputs = s8.tickEnds := by
    unfold State.tickEnds
    rw [← h9]
  refine hend.trans ?_
  rw [h8, h6, h4, h0, hv, ha, hj]
  rfl

theorem State.tickPlan_calm (s : State) (v a j : Nat) : State.Calm False s (s.tickPlan v a j) :=
  ((((s.takeLearn_calm.trans (State.checkTracking_calm _)).trans (State.checkTier2_calm _)).trans (State.actCauses_calm _)).trans
    (State.extendZone_calm _)).trans (State.replan_calm _ _ _ _)

theorem State.tickMove_calm (s : State) : State.Calm False s s.tickMove :=
  s.advanceRef_calm.trans (.ite (State.atRest_calm _) (.refl _))

theorem State.tickSequence_calm (s : State) : State.Calm False s s.tickSequence :=
  ((((s.dwellTick_calm.trans (State.startSequence_calm _)).trans (State.relevelTick_calm _)).trans (State.afterStop_calm _)).trans
    (State.learnDwell_calm _)).trans (State.learnSum_calm _)

theorem State.extents_calm (s : State) (un ln : Int) : State.Calm False s { s with shf.un := un, shf.ln := ln } := .of_eq rfl rfl

theorem State.tickEnds_calm (s : State) : State.Calm False s s.tickEnds :=
  (s.settle_calm.trans (State.boundsTick_calm _)).trans ((State.extents_calm _ _ _).trans (State.hstInputs_calm _))

theorem State.tickRest_calm (s : State) (v a j : Nat) : State.Calm False s (s.tickRest v a j) :=
  (((s.tickPlan_calm v a j).trans (State.tickMove_calm _)).trans (State.tickSequence_calm _)).trans (State.tickEnds_calm _)

/-- The blocks that the tick does not touch. -/
structure State.Elsewhere (s t : State) : Prop where
  pwr : t.pwr = s.pwr
  lmp : t.lmp = s.lmp
  fio : t.fio = s.fio
  can0 : t.can0 = s.can0
  can1 : t.can1 = s.can1
  rtc : t.rtc = s.rtc
  rng : t.rng = s.rng
  dsp : t.dsp = s.dsp

theorem State.Elsewhere.trans {s t u : State} (h : s.Elsewhere t) (h' : t.Elsewhere u) : s.Elsewhere u :=
  ⟨h'.pwr.trans h.pwr, h'.lmp.trans h.lmp, h'.fio.trans h.fio, h'.can0.trans h.can0, h'.can1.trans h.can1, h'.rtc.trans h.rtc,
    h'.rng.trans h.rng, h'.dsp.trans h.dsp⟩

theorem State.tickPlan_elsewhere (s : State) (v a j : Nat) : s.Elsewhere (s.tickPlan v a j) := by
  unfold State.tickPlan
  constructor <;> simp

theorem State.tickMove_elsewhere (s : State) : s.Elsewhere s.tickMove := by
  unfold State.tickMove
  dsimp only
  split <;> constructor <;> simp

theorem State.tickSequence_elsewhere (s : State) : s.Elsewhere s.tickSequence := by
  unfold State.tickSequence
  constructor <;> simp

theorem State.tickEnds_elsewhere (s : State) : s.Elsewhere s.tickEnds := by
  unfold State.tickEnds
  constructor <;> simp

theorem State.takeMotion_elsewhere (s : State) : s.Elsewhere s.tickStart.applyLimits.takeMotion := by
  have hstart : s.Elsewhere s.tickStart := ⟨rfl, rfl, rfl, rfl, rfl, rfl, rfl, rfl⟩
  refine hstart.trans ?_
  generalize s.tickStart = u
  constructor <;> simp

theorem State.tick_elsewhere (s : State) (v a j : Nat) : s.Elsewhere (s.tickStart.applyLimits.takeMotion.tickRest v a j) := by
  refine s.takeMotion_elsewhere.trans ?_
  unfold State.tickRest
  exact (((State.tickPlan_elsewhere _ v a j).trans (State.tickMove_elsewhere _)).trans (State.tickSequence_elsewhere _)).trans
    (State.tickEnds_elsewhere _)

theorem execReplanningTick_answers {s : State} (he : s.engines = true) :
    ∃ t, exec .replanningTick s = .next t ∧ t.hst.stopReq = none ∧ t.hst.invNew = [] ∧ t.hst.dlReplied = false ∧
      (s.hst.st ≠ .stopping → s.hst.st ≠ .relevelling → t.hst.waiting = [] ∧ ∀ f ∈ t.host.ops, f.phase ≠ .stopWait) ∧
      (s.hst.waiting = [] → ∀ f ∈ t.host.ops, f.phase ≠ .stopWait) ∧ t.pwr = s.pwr ∧
      t.lmp = s.lmp ∧ t.fio = s.fio ∧ t.can0 = s.can0 ∧ t.can1 = s.can1 ∧ t.rtc = s.rtc ∧ t.rng = s.rng ∧ t.dsp = s.dsp := by
  have hlim := s.tickStart.applyLimits_calm (ok := True)
  obtain ⟨hturn, hstop⟩ := s.tickStart.applyLimits.takeMotion_turns
  have hrest := s.tickStart.applyLimits.takeMotion.tickRest_calm s.hst.limV s.hst.limA s.hst.limJ
  obtain ⟨hpwr, hlmp, hfio, hcan0, hcan1, hrtc, hrng, hdsp⟩ := s.tick_elsewhere s.hst.limV s.hst.limA s.hst.limJ
  have hanswer (hp : s.tickStart.applyLimits.Prompt) :
      (s.tickStart.applyLimits.takeMotion.tickRest s.hst.limV s.hst.limA s.hst.limJ).hst.waiting = [] ∧
        ∀ f ∈ (s.tickStart.applyLimits.takeMotion.tickRest s.hst.limV s.hst.limA s.hst.limJ).host.ops, f.phase ≠ .stopWait := by
    obtain ⟨hw, ho⟩ := State.takeMotion_answers hp
    exact ⟨hrest.waiting.trans hw, fun f hf => ho f (hrest.ops f hf)⟩
  exact ⟨_, execReplanningTick_of_engines he, hrest.stop hstop, hrest.frame.trans (hturn.frame.trans hlim.frame),
    hrest.replied.trans (hturn.replied.trans hlim.replied), fun h1 h2 => hanswer (.inl (hlim.ahead trivial ⟨h1, h2⟩)),
    fun hw => (hanswer (.inr (hlim.waiting.trans hw))).2, hpwr, hlmp, hfio, hcan0, hcan1, hrtc, hrng, hdsp⟩

/-! ## What waits for the tick (09 R215 to R218, R210) -/

theorem execMove_of_passed {s : State} {tag : Nat} (ha : s.Admitted tag 0x10 1) (hs : s.hostSource (s.flight tag).slot = true)
    (ht : s.targetRefusal (moveTgt (s.flight tag).p (.host tag)) = none) (hb : s.saf.btPhase = 0) :
    ∃ t, exec (.move tag) s = .next t ∧
    t.hst = { s.hst with waiting := s.hst.waiting ++ [moveTgt (s.flight tag).p (.host tag)] } ∧
      (t.flight tag).phase = .moveWait ∧ t.host.store = s.host.store ∧ t = { s with host := t.host, hst := t.hst } := by
  obtain ⟨-, -, -, hfl⟩ := State.tag_of_hostReady ha.1
  have hex : exec (.move tag) s = .next { (s.noteSeq (s.flight tag)).setPhase tag .moveWait with
      hst.waiting := s.hst.waiting ++ [moveTgt (s.flight tag).p (.host tag)] } := by
    refine (occurs_pos ha.1).trans ?_
    rw [State.hostCmd_of_admitted ha]
    dsimp only
    rw [show (s.noteSeq (s.flight tag)).hostSource (s.flight tag).slot = true from hs, if_neg (by decide),
      show (s.noteSeq (s.flight tag)).targetRefusal (moveTgt (s.flight tag).p (.host tag)) = none from ht]
    dsimp only
    rw [State.queueTgt, show ((s.noteSeq (s.flight tag)).setPhase tag .moveWait).saf.btPhase = 0 from hb, if_neg (by decide)]
    rfl
  exact ⟨_, hex, rfl, State.flight_setPhase (s := s.noteSeq (s.flight tag)) _ (Option.isSome_iff_exists.mpr ⟨_, hfl⟩), rfl, rfl⟩

theorem execMoveReq_of_passed {s : State} {p : List Byte} (he : s.engines = true) (hr : s.gysReq 0 = some p)
    (hc : s.par Idx.HST_CMDSRC = 0) (hb : s.saf.btPhase = 0)
    (ht : s.targetRefusal { pos := getS p 4 4, landing := getU p 2 1, flags := getU p 3 1, src := .geyser (getU p 0 2) } = none) :
    exec .moveReq s = .next { s with
      gys.reqs := s.gys.reqs.set 0 none
      hst.waiting := s.hst.waiting ++
        [{ pos := getS p 4 4, landing := getU p 2 1, flags := getU p 3 1, src := .geyser (getU p 0 2) }] } := by
  refine (occurs_pos (by simp [he, hr])).trans ?_
  dsimp only
  rw [hr, Option.getD_some, show (s.tookReq 0).par Idx.HST_CMDSRC = 0 from hc, if_neg (by decide),
    show (s.tookReq 0).targetRefusal { pos := getS p 4 4, landing := getU p 2 1, flags := getU p 3 1, src := .geyser (getU p 0 2) } =
      none from ht]
  dsimp only
  rw [State.queueTgt, show (s.tookReq 0).saf.btPhase = 0 from hb, if_neg (by decide)]
  rfl

/-- A command that waits for its owner's tick. -/
theorem State.waits_of_setPhase {s : State} {tag op need : Nat} (p : Phase) (ha : s.Admitted tag op need) :
    (((s.noteSeq (s.flight tag)).setPhase tag p).flight tag).phase = p ∧
      ((s.noteSeq (s.flight tag)).setPhase tag p).host.store = s.host.store ∧
      (s.noteSeq (s.flight tag)).setPhase tag p =
        { s with host := ((s.noteSeq (s.flight tag)).setPhase tag p).host } := by
  obtain ⟨-, -, -, hfl⟩ := State.tag_of_hostReady ha.1
  exact ⟨State.flight_setPhase (s := s.noteSeq (s.flight tag)) _ (Option.isSome_iff_exists.mpr ⟨_, hfl⟩), rfl, rfl⟩

theorem State.stopMotion_of_source {s : State} {tag : Nat} (hs : s.hostSource (s.flight tag).slot = true) :
    (s.noteSeq (s.flight tag)).stopMotion tag (s.flight tag) = (s.noteSeq (s.flight tag)).setPhase tag .stopWait :=
  if_neg (by rw [show (s.noteSeq (s.flight tag)).hostSource (s.flight tag).slot = true from hs]; decide)

/-- Settles O22: the commands hand over; the tick's stages are followed one by one. -/
theorem targetsWaitForTheTick : Obligations.TargetsWaitForTheTick := by
  refine ⟨fun s tag ha hs ht hb => execMove_of_passed ha hs ht hb, fun s p he hr hc hb ht => execMoveReq_of_passed he hr hc hb ht,
    fun s tag ha hl hs => ?_, fun s tag ha hl hs => ?_, fun s tag ha hs hrun hst hm hch => ?_,
    fun s he => execReplanningTick_answers he⟩
  · refine ⟨_, (occurs_pos (by simp [ha.1, hl])).trans ?_, State.waits_of_setPhase .stopWait ha⟩
    rw [State.hostCmd_of_admitted ha, State.stopMotion_of_source hs]
  · refine ⟨_, (occurs_pos (by simp [ha.1, hl])).trans ?_, State.waits_of_setPhase .stopWait ha⟩
    rw [State.hostCmd_of_admitted ha, State.stopMotion_of_source hs]
  · refine ⟨_, (occurs_pos ha.1).trans ?_, State.waits_of_setPhase .learnWait ha⟩
    have hfree : ((s.noteSeq (s.flight tag)).pwr.state == .run && ((s.noteSeq (s.flight tag)).hst.st == .idle ||
        (s.noteSeq (s.flight tag)).hst.st == .disabled) && (s.noteSeq (s.flight tag)).mode == 0) = true := by
      rw [show (s.noteSeq (s.flight tag)).pwr.state = .run from hrun, show (s.noteSeq (s.flight tag)).mode = 0 from hm]
      rcases hst with hst | hst <;> rw [show (s.noteSeq (s.flight tag)).hst.st = _ from hst] <;> rfl
    have hnone : [Idx.HST_DZFIO, Idx.HST_LIMLO, Idx.HST_LIMHI, Idx.HST_TSDLO, Idx.HST_TSDHI].find?
        (fun i => !(s.noteSeq (s.flight tag)).inputChannel i) = none :=
      List.find?_eq_none.mpr fun i hi => by
        rw [show (s.noteSeq (s.flight tag)).inputChannel i = true from hch i hi]
        decide
    rw [State.hostCmd_of_admitted ha]
    rw [show (s.noteSeq (s.flight tag)).hostSource (s.flight tag).slot = true from hs, if_neg (by decide), hfree, if_neg (by decide),
      hnone]

end Sys2Proof.Machine
end

section
/-!
PROOFS. Slots wanted, and a run dropped (09 R213, R219, R236).
-/
namespace Sys2Proof.Machine

/-! ## Slots wanted, and a run dropped (09 R213, R219, R236) -/

theorem State.cslot_modSlotC_self (s : State) {n : Nat} (f : CSlot → CSlot) (hl : n < s.cle.slots.length) :
    (s.modSlotC n f).cslot n = f (s.cslot n) := getD_modifyAt_self _ _ _ _ hl

theorem State.cslot_modSlotC_ne (s : State) {n k : Nat} (f : CSlot → CSlot) (hk : k ≠ n) : (s.modSlotC n f).cslot k = s.cslot k :=
  getD_modifyAt_ne _ _ _ _ _ hk

/-- Wanting slots, or not, changes nothing else. -/
theorem State.wantSlots_eq (s : State) (ns : List Nat) (b : Bool) :
    ∃ slots, s.wantSlots ns b = { s with cle.slots := slots } ∧ slots.length = s.cle.slots.length ∧
      (∀ n, n ∉ ns → slots.getD n {} = s.cslot n) ∧ ∀ n ∈ ns, n < s.cle.slots.length → slots.getD n {} = { s.cslot n with want := b } := by
  unfold State.wantSlots
  induction ns generalizing s with
  | nil => exact ⟨s.cle.slots, rfl, rfl, fun _ _ => rfl, fun _ hn => absurd hn List.not_mem_nil⟩
  | cons m ns ih =>
    obtain ⟨slots, hs, hl, hne, hin⟩ := ih (s.modSlotC m fun c => { c with want := b })
    have hlen : (s.modSlotC m fun c => { c with want := b }).cle.slots.length = s.cle.slots.length := length_modifyAt _ _ _
    refine ⟨slots, hs, hl.trans hlen, fun n hn => ?_, fun n hn hlt => ?_⟩
    · obtain ⟨hnm, hnn⟩ := not_or.mp fun h => hn (List.mem_cons.mpr h)
      exact (hne n hnn).trans (s.cslot_modSlotC_ne _ hnm)
    · by_cases hnn : n ∈ ns
      · rw [hin n hnn (hlen ▸ hlt)]
        by_cases hnm : n = m
        · subst hnm
          rw [s.cslot_modSlotC_self _ hlt]
        · rw [s.cslot_modSlotC_ne _ hnm]
      · obtain rfl : n = m := (List.mem_cons.mp hn).resolve_right hnn
        rw [hne n hnn]
        exact s.cslot_modSlotC_self _ hlt

theorem State.wantSlots_want (s : State) {ns : List Nat} {n : Nat} (hn : n ∈ ns) : ((s.wantSlots ns false).cslot n).want = false := by
  obtain ⟨slots, hs, hl, -, hin⟩ := s.wantSlots_eq ns false
  rw [hs]
  by_cases hlt : n < s.cle.slots.length
  · exact congrArg CSlot.want (hin n hn hlt)
  · have hge : slots.length ≤ n := by omega
    have hnone : slots.getD n {} = {} := by simp [List.getD, hge]
    exact congrArg CSlot.want hnone

theorem State.learnFault_eq (s : State) (cause : Nat) : ∃ dir tph,
    s.learnFault cause = { s with dir := dir, tph := tph, hst.learn := {}, hst.goal := .stop, hst.stopReq := none } := by
  obtain ⟨d1, tph, h1, -⟩ := s.raise_eq 0x0506 4 0xFF [(1, cause)]
  obtain ⟨d2, h2, -⟩ := State.setOwn_eq { s with dir := d1, tph := tph } 3 learnStat_noConfig
  obtain ⟨d3, h3, -⟩ := State.setOwn_eq { s with dir := d2, tph := tph } cause learnCause_noConfig
  unfold State.learnFault
  dsimp only
  rw [h1, h2, h3]
  exact ⟨_, _, rfl⟩

theorem State.learnFault_eventsOnly (s : State) (cause : Nat) :
    s.EventsOnly (s.learnFault cause) [Idx.HST_LEARNSTAT, Idx.HST_LEARNCAUSE] :=
  ((((State.EventsOnly.refl s _).raise _ _ _ _).setOwn _ (by simp) learnStat_noConfig).setOwn _ (by simp) learnCause_noConfig).congr
    rfl rfl

theorem State.learnFault_pars (s : State) (cause : Nat) :
    (s.learnFault cause).par Idx.HST_LEARNSTAT = 3 ∧ (s.learnFault cause).par Idx.HST_LEARNCAUSE = cause := by
  have h (u : State) : ((u.setOwn Idx.HST_LEARNSTAT 3).setOwn Idx.HST_LEARNCAUSE cause).par Idx.HST_LEARNSTAT = 3 ∧
      ((u.setOwn Idx.HST_LEARNSTAT 3).setOwn Idx.HST_LEARNCAUSE cause).par Idx.HST_LEARNCAUSE = cause := by
    rw [State.par_setOwn' _ _ _ _ learnCause_noConfig, State.par_setOwn' _ _ _ _ learnCause_noConfig,
      State.par_setOwn' _ _ _ _ learnStat_noConfig]
    exact ⟨rfl, rfl⟩
  exact h _

/-- What is dropped with a run. -/
structure Hst.Dropped (x y : Hst) : Prop where
  runReq : y.runReq = false
  liftReq : y.liftReq = false
  enable : y.enable = false
  target : y.target = none
  waiting : y.waiting = x.waiting

/-- The state after a run that is dropped: a learning run ends in LEARN_FAULT. -/
def HSt.dropped (x st : HSt) : HSt := if (x = .learning ∨ x = .learnFault) ∧ st = .idle then .learnFault else st

theorem State.hstRelease_eq (s : State) (st : HSt) :
    ∃ hst, s.hstRelease st = { s with hst := hst, saf.sodHst := none } ∧ hst.st = st ∧ s.hst.Dropped hst :=
  ⟨_, rfl, rfl, ⟨rfl, rfl, rfl, rfl, rfl⟩⟩

theorem State.dropRun_eq (s : State) (st : HSt) : ∃ hst dir tph slots,
    s.dropRun st = { s with hst := hst, dir := dir, tph := tph, cle.slots := slots, saf.sodHst := none } ∧
      hst.st = s.hst.st.dropped st ∧ s.hst.Dropped hst := by
  obtain ⟨u, hu, dir, tph, hst, hueq, hwait⟩ : ∃ u, (if s.hst.learn.step ≠ 0 then s.learnFault 5 else s) = u ∧
      ∃ dir tph hst, u = { s with dir := dir, tph := tph, hst := hst } ∧ hst.waiting = s.hst.waiting := by
    refine ⟨_, rfl, ?_⟩
    split
    · obtain ⟨dir, tph, hf⟩ := s.learnFault_eq 5
      exact ⟨dir, tph, _, hf, rfl⟩
    · exact ⟨s.dir, s.tph, s.hst, rfl, rfl⟩
  obtain ⟨hst', hrel, hst, hrun, hlift, hen, htgt, hw⟩ := u.hstRelease_eq (s.hst.st.dropped st)
  obtain ⟨slots, hslots, -⟩ := (u.hstRelease (s.hst.st.dropped st)).wantSlots_eq [12, 13, 14] false
  have hdrop : s.dropRun st = (u.hstRelease (s.hst.st.dropped st)).wantSlots [12, 13, 14] false := by
    rw [← hu]
    rfl
  rw [hrel, hueq] at hslots
  exact ⟨hst', dir, tph, slots, (by rw [hdrop, hrel, hueq, hslots]), hst,
    ⟨hrun, hlift, hen, htgt, hw.trans ((congrArg (fun u : State => u.hst.waiting) hueq).trans hwait)⟩⟩

theorem State.wantSlots_par (s : State) (ns : List Nat) (b : Bool) (i : Nat) : (s.wantSlots ns b).par i = s.par i :=
  State.par_congr (by simp) i

theorem State.dropRun_want (s : State) (st : HSt) : ∀ n ∈ [12, 13, 14], ((s.dropRun st).cslot n).want = false :=
  fun _ hn => State.wantSlots_want _ hn

/-- Outside a learning run dropping a run raises nothing. -/
theorem State.dropRun_quiet {s : State} (st : HSt) (h : s.hst.learn.step = 0) : s.EventsOnly (s.dropRun st) [] := by
  unfold State.dropRun
  rw [if_neg (not_not_intro h)]
  exact State.EventsOnly.of_eq [] (by simp [State.hstRelease]) (by simp [State.hstRelease])

/-- A learning run that is dropped ends as a learning fault of cause 5. -/
theorem State.dropRun_learning {s : State} (st : HSt) (h : s.hst.learn.step ≠ 0) :
    (s.dropRun st).dir = (s.learnFault 5).dir ∧ (s.dropRun st).tph = (s.learnFault 5).tph := by
  unfold State.dropRun
  rw [if_pos h]
  exact ⟨by simp [State.hstRelease], by simp [State.hstRelease]⟩

theorem State.dropRun_eventsOnly (s : State) (st : HSt) :
    s.EventsOnly (s.dropRun st) [Idx.HST_LEARNSTAT, Idx.HST_LEARNCAUSE] := by
  by_cases h : s.hst.learn.step = 0
  · exact (State.dropRun_quiet st h).mono (List.nil_subset _)
  · obtain ⟨hd, ht⟩ := State.dropRun_learning st h
    exact (s.learnFault_eventsOnly 5).congr hd ht

theorem State.learnFault_records (s : State) (cause : Nat) : s.Records (s.learnFault cause) 0x0506 4 0xFF :=
  (s.records_raise 0x0506 4 0xFF [(1, cause)]).mono (by
    have hkept := (((State.EventsOnly.refl (s.raise 0x0506 4 0xFF [(1, cause)]) [Idx.HST_LEARNSTAT, Idx.HST_LEARNCAUSE]).setOwn 3 (by simp)
      learnStat_noConfig).setOwn cause (by simp) learnCause_noConfig).2.2
    exact hkept.2)

end Sys2Proof.Machine
end

section
/-!
PROOFS. Starts, stops and relevels of a run (09 R212, R222 to R228, R236).
-/
namespace Sys2Proof.Machine

/-! ## Plans (09 R217, R219, R223) -/

/-- A new plan changes the plan, its end and its goal, the plan's own parameters, and what is recorded. -/
def State.Planned (s t : State) : Prop :=
  ∃ plan fin goal dir tph, t = { s with hst.plan := plan, hst.planEnd := fin, hst.goal := goal, dir := dir, tph := tph }

theorem State.Planned.refl (s : State) : s.Planned s := ⟨_, _, _, _, _, rfl⟩

theorem State.Planned.trans {s t u : State} (h : s.Planned t) (h' : t.Planned u) : s.Planned u := by
  obtain ⟨plan, fin, goal, dir, tph, rfl⟩ := h
  obtain ⟨plan', fin', goal', dir', tph', rfl⟩ := h'
  exact ⟨plan', fin', goal', dir', tph', rfl⟩

theorem State.raise_planned (s : State) (code sev inst : Nat) (data : List (Nat × Int)) : s.Planned (s.raise code sev inst data) := by
  obtain ⟨dir, tph, h, -⟩ := s.raise_eq code sev inst data
  exact ⟨_, _, _, dir, tph, h⟩

theorem State.setPlan_planned (s : State) (goal : Int) (kind : Goal) : s.Planned (s.setPlan goal kind) := by
  unfold State.setPlan
  dsimp only
  obtain ⟨dir, h, -⟩ := s.setOwn_eq ((planTo s.hst.ref goal s.lim).2 : Int) planVpk_noConfig
  rw [h]
  exact ⟨_, _, _, dir, s.tph, rfl⟩

theorem State.setStop_planned (s : State) (kind : Goal) : s.Planned (s.setStop kind) := ⟨_, _, _, s.dir, s.tph, rfl⟩

theorem State.landingStop_planned (s : State) (kind : Goal) : s.Planned (s.landingStop kind) := by
  unfold State.landingStop
  split
  · exact s.setPlan_planned _ _
  · exact s.setStop_planned _

theorem State.reverse_planned (s : State) : s.Planned s.reverse := by
  unfold State.reverse
  extract_lets want one u v k w
  have hu : s.Planned u := by
    by_cases hc : (want && !one) = true
    · exact (show u = s.raise 0x0512 2 from if_pos hc) ▸ s.raise_planned _ _ _ _
    · exact (show u = s from if_neg hc) ▸ .refl s
  split
  · exact hu.trans ((u.setStop_planned _).trans (State.raise_planned _ _ _ _ _))
  · exact hu.trans ((u.landingStop_planned _).trans (State.raise_planned _ _ _ _ _))

theorem State.planTarget_planned (s : State) : s.Planned s.planTarget := by
  unfold State.planTarget
  split
  · exact .refl s
  · dsimp only
    split
    · exact s.reverse_planned
    · exact s.setPlan_planned _ _

/-! ## The rows of a run (09 R225, R226, R229, R236, R492; Table HST-10) -/

theorem runs_noConfig : isConfig Idx.HST_RUNS = false := by decide +kernel
theorem runs_hi : (paramInfo Idx.HST_RUNS).map (fun r => r.hi) = some (2 ^ 32 - 1) := by decide +kernel
theorem levErr_noConfig : isConfig Idx.HST_LEVERR = false := by decide +kernel
theorem fsOut14_ne_runs : Idx.CLE_SnFSOUT 14 ≠ Idx.HST_RUNS := by decide +kernel

theorem execProfileRelease_of_starting {s : State} (he : s.engines = true) (hr : s.hst.runReq = true) (hl : s.hst.liftReq = true)
    (hre : s.hst.released = false) (hc : s.soClosed 2 = true) (hb : s.brakesLifted = true) (hst : s.hst.st = .starting)
    (hlen : s.cle.slots.length = 16) (hlt : s.par Idx.HST_RUNS < 2 ^ 32 - 1) :
    ∃ t, exec .profileRelease s = .next t ∧
      t.hst = { s.hst with released := true, rampAt := some s.pwr.opTime, st := .moving,
                           preOut := rdiv ((s.cslot 14).out * s.par (Idx.CLE_SnFSOUT 14)) (2 ^ 31) } ∧
      t.cslot 12 = { s.cslot 12 with want := true } ∧ t.cslot 13 = { s.cslot 13 with want := true } ∧
      t.cslot 14 = { s.cslot 14 with want := false } ∧ (∀ n, n ≠ 12 → n ≠ 13 → n ≠ 14 → t.cslot n = s.cslot n) ∧
      t.par Idx.HST_RUNS = s.par Idx.HST_RUNS + 1 ∧ s.ParsKept t [Idx.HST_RUNS] ∧
      t = { s with hst := t.hst, dir := t.dir, cle.slots := t.cle.slots } := by
  obtain ⟨slots, h1, hl1, hne1, hin1⟩ := s.wantSlots_eq [12, 13] true
  obtain ⟨slots2, h2, -, hne2, hin2⟩ := State.wantSlots_eq { s with cle.slots := slots } [14] false
  obtain ⟨dir, hb2, hp2, -⟩ := State.bump_eq { s with cle.slots := slots2 } 1 runs_noConfig
  have hruns := State.par_bump_self { s with cle.slots := slots2 } (k := 1) runs_noConfig runs_hi (Int.add_one_le_iff.mpr hlt)
  rw [hb2] at hruns
  have hlen1 : ({ s with cle.slots := slots } : State).cle.slots.length = 16 := hl1.trans hlen
  have h12 : slots2.getD 12 {} = { s.cslot 12 with want := true } := (hne2 12 (by decide)).trans (hin1 12 (by decide) (by omega))
  have h13 : slots2.getD 13 {} = { s.cslot 13 with want := true } := (hne2 13 (by decide)).trans (hin1 13 (by decide) (by omega))
  have h14 : slots2.getD 14 {} = { s.cslot 14 with want := false } := by
    rw [hin2 14 (by decide) (by omega)]
    exact congrArg (fun c : CSlot => { c with want := false }) (hne1 14 (by decide))
  have hex : exec .profileRelease s = .next { s with cle.slots := slots2, dir := dir, hst := { s.hst with
      released := true, rampAt := some s.pwr.opTime, st := .moving,
      preOut := rdiv ((slots2.getD 14 {}).out * dir.val (Idx.CLE_SnFSOUT 14)) (2 ^ 31) } } := by
    refine (occurs_pos (by simp [he, hr, hl, hre, hc, hb])).trans ?_
    dsimp only
    rw [h1, h2, hb2]
    dsimp only
    rw [hst]
    rfl
  rw [h14, show dir.val (Idx.CLE_SnFSOUT 14) = s.par (Idx.CLE_SnFSOUT 14) from hp2 _ fsOut14_ne_runs] at hex
  refine ⟨_, hex, rfl, h12, h13, h14, fun n h12 h13 h14 => ?_, hruns, fun j hj => hp2 j (by simpa using hj), rfl⟩
  exact (hne2 n (by simp [h14])).trans (hne1 n (by simp [h12, h13]))

/-- A run dropped after a recorded event. -/
theorem State.dropRun_after (s : State) (code : Nat) (data : List (Nat × Int)) (st : HSt) :
    ∃ t, (s.raise code 4 0xFF data).dropRun st = t ∧ t.hst.st = s.hst.st.dropped st ∧ t.hst.runReq = false ∧
      t.hst.liftReq = false ∧ t.hst.enable = false ∧ t.hst.target = none ∧ t.hst.waiting = s.hst.waiting ∧
      (∀ n ∈ [12, 13, 14], (t.cslot n).want = false) ∧ s.Records t code 4 0xFF ∧ (s.hst.learn.step = 0 → s.EventsOnly t []) ∧
      (s.hst.learn.step ≠ 0 → t.par Idx.HST_LEARNSTAT = 3 ∧ t.par Idx.HST_LEARNCAUSE = 5 ∧ s.Records t 0x0506 4 0xFF) ∧
      s.EventsOnly t [Idx.HST_LEARNSTAT, Idx.HST_LEARNCAUSE] ∧
      t = { s with hst := t.hst, dir := t.dir, tph := t.tph, cle.slots := t.cle.slots, saf.sodHst := none } := by
  have hquiet := s.raise code 4 0xFF data |>.dropRun_quiet (st := st)
  have hev := (s.raise code 4 0xFF data).dropRun_eventsOnly st
  have hlearn := s.raise code 4 0xFF data |>.dropRun_learning (st := st)
  have hwant := (s.raise code 4 0xFF data).dropRun_want st
  obtain ⟨hst, dir, tph, slots, heq, hstate, hd⟩ := (s.raise code 4 0xFF data).dropRun_eq st
  have hraised : s.EventsOnly (s.raise code 4 0xFF data) [] := (State.EventsOnly.refl s []).raise _ _ _ _
  have hst' : (s.raise code 4 0xFF data).hst = s.hst := by simp
  rw [hst'] at hquiet hlearn hstate hd
  refine ⟨_, rfl, ?_, ?_, ?_, ?_, ?_, ?_, hwant, (s.records_raise code 4 0xFF data).mono hev.2.2.2, fun h0 => hraised.trans (hquiet h0),
    fun h0 => ?_, (hraised.mono (List.nil_subset _)).trans hev, ?_⟩
  · rw [heq]; exact hstate
  · rw [heq]; exact hd.runReq
  · rw [heq]; exact hd.liftReq
  · rw [heq]; exact hd.enable
  · rw [heq]; exact hd.target
  · rw [heq]; exact hd.waiting
  · obtain ⟨hdir, htph⟩ := hlearn h0
    obtain ⟨hstat, hcause⟩ := (s.raise code 4 0xFF data).learnFault_pars 5
    refine ⟨(State.par_congr hdir _).trans hstat, (State.par_congr hdir _).trans hcause, ?_⟩
    have hrec := ((s.raise code 4 0xFF data).learnFault_records 5).after hraised.2.2 (s.par_raise code 4 0xFF data _ recsev_ne_bufdrops)
      (by simp) (by simp)
    exact hrec.mono (by rw [htph])
  · obtain ⟨dir', tph', hr, -⟩ := s.raise_eq code 4 0xFF data
    rw [heq, hr]

theorem execStartTimeout_of_silent {s : State} {at_ : Nat} (he : s.engines = true) (hr : s.hst.runReq = true)
    (hre : s.hst.released = false) (hst : s.hst.st ≠ .reversalDwell) (hrd : (getU s.hst.invFrame 2 1).testBit 0 = false)
    (hsoc : s.hst.socAt = some at_) (ht : at_ + s.parN Idx.HST_STARTTMO ≤ s.pwr.opTime) :
    exec .startTimeout s = .next ((s.raise 0x0514 4).dropRun .idle) :=
  occurs_pos (by simp [he, hr, hre, hst, hrd, hsoc, ht])

theorem execStartRefused_of_late {s : State} (he : s.engines = true) (hr : s.hst.runReq = true) (hre : s.hst.released = false)
    (hst : s.hst.st ≠ .reversalDwell) (hsoc : s.hst.socAt = none) (ht : s.hst.reqAt + s.parN Idx.HST_STARTTMO ≤ s.pwr.opTime) :
    exec .startRefused s = .next ((s.raise 0x0515 4 0xFF [(1, s.safStatus), (2, s.saf.chA.active)]).dropRun
      (if s.tripped then .fault else .idle)) :=
  occurs_pos (by simp [he, hr, hre, hst, hsoc, ht])

theorem HSt.dropped_idle (x : HSt) : x.dropped .idle = if x = .learning ∨ x = .learnFault then .learnFault else .idle := by
  simp [HSt.dropped]

theorem HSt.dropped_trip (x : HSt) (tripped : Bool) : x.dropped (if tripped then .fault else .idle) =
    if tripped then .fault else if x = .learning ∨ x = .learnFault then .learnFault else .idle := by
  cases tripped
  · exact x.dropped_idle
  · simp [HSt.dropped]

/-- The car has stopped at a position of its own: the level error is taken, and recorded (09 R225). -/
def State.levelled (s : State) (e : Int) : State :=
  (s.setOwn Idx.HST_LEVERR e).raise 0x0501 1 0xFF [(4, e), (1, 0xFF)]

theorem State.levelled_eventsOnly (s : State) (e : Int) : s.EventsOnly (s.levelled e) [Idx.HST_LEVERR] :=
  ((State.EventsOnly.refl s _).setOwn _ (by simp) levErr_noConfig).raise _ _ _ _

theorem State.levelled_records (s : State) (e : Int) : s.Records (s.levelled e) 0x0501 1 0xFF :=
  .raise_after _ _ _ _ (by simp) (s.par_setOwn' _ _ _ levErr_noConfig |>.trans (if_neg (by decide))) (by simp) (by simp)

theorem State.levelled_par (s : State) (e : Int) : (s.levelled e).par Idx.HST_LEVERR = e :=
  (State.par_raise _ _ _ _ _ _ (by decide)).trans ((s.par_setOwn' _ _ _ levErr_noConfig).trans (if_pos rfl))

theorem State.levelled_planned (s : State) (e : Int) : ∃ dir tph, s.levelled e = { s with dir := dir, tph := tph } := by
  obtain ⟨d1, h1, -⟩ := s.setOwn_eq e levErr_noConfig
  obtain ⟨d2, tph2, h2, -⟩ := (s.setOwn Idx.HST_LEVERR e).raise_eq 0x0501 1 0xFF [(4, e), (1, 0xFF)]
  rw [h1] at h2
  exact ⟨d2, tph2, (by unfold State.levelled; rw [h1, h2])⟩

theorem State.arrived_of_position (s : State) {g : Tgt} (hl : g.landing = 0xFF) :
    s.arrived g = if (s.levelled (s.carPos - g.pos)).parN Idx.HST_LEVTOL < mag (s.carPos - g.pos) then
      (s.levelled (s.carPos - g.pos)).raise 0x050F 3 0xFF [(4, s.carPos - g.pos)] else s.levelled (s.carPos - g.pos) := by
  unfold State.arrived State.levelled
  rw [hl]
  rfl

theorem State.arrived_eq (s : State) {g : Tgt} (hl : g.landing = 0xFF) :
    ∃ dir tph, s.arrived g = { s with dir := dir, tph := tph } ∧ (s.arrived g).par Idx.HST_LEVERR = s.carPos - g.pos ∧
      s.EventsOnly (s.arrived g) [Idx.HST_LEVERR] ∧ s.Records (s.arrived g) 0x0501 1 0xFF := by
  obtain ⟨dir, tph, heq⟩ := s.levelled_planned (s.carPos - g.pos)
  have hev := s.levelled_eventsOnly (s.carPos - g.pos)
  have hrec := s.levelled_records (s.carPos - g.pos)
  have hpar := s.levelled_par (s.carPos - g.pos)
  rw [s.arrived_of_position hl]
  generalize s.levelled (s.carPos - g.pos) = u at heq hev hrec hpar ⊢
  split
  · obtain ⟨dir', tph', hr, -⟩ := u.raise_eq 0x050F 3 0xFF [(4, s.carPos - g.pos)]
    refine ⟨dir', tph', (by rw [hr, heq]), (u.par_raise _ _ _ _ _ (by decide)).trans hpar, hev.raise _ _ _ _, hrec.mono ?_⟩
    exact (u.recorder_raiseEvt _).2
  · exact ⟨dir, tph, heq, hpar, hev, hrec⟩

theorem State.learnStopped_of_none {s : State} (h : s.hst.learn.step = 0) : s.learnStopped = s := by
  unfold State.learnStopped
  rw [h]
  rfl

theorem execLevelErrorTaken_of_position {s : State} {ms : Nat} {g : Tgt} (he : s.engines = true) (hre : s.hst.released = true)
    (hrest : s.refRest = true) (hl : s.hst.liftReq = false) (hlev : s.hst.levelled = false) (hb : s.brakesApplied = true)
    (hg : s.hst.goal = .target) (ht : s.hst.target = some g) (hland : g.landing = 0xFF) (hstep : s.hst.learn.step = 0)
    (hst : s.hst.st ≠ .relevelling) (hms : 200 ≤ ms) :
    ∃ t, exec (.levelErrorTaken ms) s = .next t ∧ t.par Idx.HST_LEVERR = s.carPos - g.pos ∧
      t.hst = { s.hst with enable := false, runReq := false, levelled := true, target := none, retained := s.carPos } ∧
      s.Records t 0x0501 1 0xFF ∧ s.EventsOnly t [Idx.HST_LEVERR] ∧
      t = { s with hst := t.hst, dir := t.dir, tph := t.tph, cle.slots := t.cle.slots } := by
  obtain ⟨dir, tph, heq, hpar, hev, hrec⟩ := s.arrived_eq hland
  rw [heq] at hpar hev hrec
  obtain ⟨slots, hslots, -⟩ := State.wantSlots_eq { s with dir := dir, tph := tph } [12, 13, 14] false
  have hex : exec (.levelErrorTaken ms) s = .next { s with dir := dir, tph := tph, cle.slots := slots, hst := { s.hst with
      enable := false, runReq := false, levelled := true, target := none, retained := s.carPos } } := by
    refine (occurs_pos (by simp [he, hre, hrest, hl, hlev, hb, hg, hms])).trans ?_
    rw [ht]
    dsimp only
    rw [if_pos ⟨hstep, by simpa using hst, by simp [hg]⟩, heq,
      State.learnStopped_of_none (s := { s with dir := dir, tph := tph }) hstep, hslots]
    rfl
  exact ⟨_, hex, hpar, rfl, hrec.mono (List.prefix_refl _), hev.congr rfl rfl, rfl⟩

theorem execReversalDwellEnd_of_due {s : State} (he : s.engines = true) (hst : s.hst.st = .reversalDwell) (hr : s.hst.runReq = false)
    (ht : s.hst.dwellAt + s.parN Idx.HST_BRKDWELL ≤ s.pwr.opTime) (hd : s.doorsShut = true) (hg : s.hst.target.isSome = true) :
    ∃ t, exec .reversalDwellEnd s = .next t ∧ t.hst.st = .starting ∧ t.hst.runReq = true ∧ t.hst.released = false ∧
      t.hst.target = s.hst.target ∧ t.hst.reqAt = s.pwr.opTime ∧ t = { s with hst := t.hst, dir := t.dir, tph := t.tph } := by
  have hex : exec .reversalDwellEnd s =
      .next { s.beginStart .starting with hst.limV := (s.beginStart .starting).vLimit }.planTarget :=
    occurs_pos (by simp [he, hst, hr, ht, hd, hg])
  obtain ⟨plan, fin, goal, dir, tph, hplan⟩ :=
    State.planTarget_planned { s.beginStart .starting with hst.limV := (s.beginStart .starting).vLimit }
  rw [hplan] at hex
  exact ⟨_, hex, rfl, rfl, rfl, rfl, rfl, rfl⟩

theorem execRelevel_of_out {s : State} {k ms : Nat} (hrun : s.pwr.state = .run) (hst : s.hst.st = .idle)
    (hk : s.parkedLanding = some k) (hd : s.doorOpen = true) (hms : 100 ≤ ms)
    (ht : s.parN Idx.HST_RELEVTOL < mag (s.carPos - s.level k)) :
    ∃ t, exec (.relevel ms) s = .next t ∧
      t.hst = { s.hst with st := .relevelling, reqAt := s.pwr.opTime, runReq := false, levelled := false } ∧
      s.Records t 0x050E 1 k ∧ s.EventsOnly t [] ∧
      t = { s with hst := t.hst, dir := t.dir, tph := t.tph, saf.sodHst := some k } := by
  have hrec := s.records_raise 0x050E 1 k [(4, s.carPos - s.level k)]
  have hev := (State.EventsOnly.refl s []).raise 0x050E 1 k [(4, s.carPos - s.level k)]
  obtain ⟨dir, tph, hr, -⟩ := s.raise_eq 0x050E 1 k [(4, s.carPos - s.level k)]
  have hex : exec (.relevel ms) s = .next { s with dir := dir, tph := tph, saf.sodHst := some k, hst := { s.hst with
      st := .relevelling, reqAt := s.pwr.opTime, runReq := false, levelled := false } } := by
    refine (occurs_pos (by simp [hrun, hst, hk, hd, hms, ht])).trans ?_
    dsimp only
    rw [hk, Option.getD_some, hr]
  rw [hr] at hrec hev
  exact ⟨_, hex, rfl, hrec.mono (List.prefix_refl _), hev.congr rfl rfl, rfl⟩

/-- Settles O23: one law for each row. -/
theorem runsStartAndEnd : Obligations.RunsStartAndEnd := by
  refine ⟨fun s he hr hl hre hc hb hst hlen hlt => execProfileRelease_of_starting he hr hl hre hc hb hst hlen hlt,
    fun s at_ hr ht => occurs_pos (by simp [hr, ht]), fun s at_ he hr hre hst hrd hsoc ht => ?_,
    fun s he hr hre hst hsoc ht => ?_,
    fun s ms g he hre hrest hl hlev hb hg ht hland hstep hst hms =>
      execLevelErrorTaken_of_position he hre hrest hl hlev hb hg ht hland hstep hst hms,
    fun s he hst hr ht hd hg => execReversalDwellEnd_of_due he hst hr ht hd hg,
    fun s k ms hrun hst hk hd hms ht => execRelevel_of_out hrun hst hk hd hms ht⟩
  · obtain ⟨t, hdrop, h1, h⟩ := s.dropRun_after 0x0514 [] .idle
    exact ⟨t, (execStartTimeout_of_silent he hr hre hst hrd hsoc ht).trans (congrArg _ hdrop), h1.trans s.hst.st.dropped_idle, h⟩
  · obtain ⟨t, hdrop, h1, hrun, hlift, hen, htgt, hw, hwant, hrec, hq, -, hev, hfr⟩ :=
      s.dropRun_after 0x0515 [(1, s.safStatus), (2, s.saf.chA.active)] (if s.tripped then .fault else .idle)
    exact ⟨t, (execStartRefused_of_late he hr hre hst hsoc ht).trans (congrArg _ hdrop), hrun, hlift, hen,
      h1.trans (s.hst.st.dropped_trip s.tripped), htgt, hw, hwant, hrec, hq, hev, hfr⟩

end Sys2Proof.Machine
end

section
/-!
PROOFS. The drive link (09 R231 to R235, R493).
-/
namespace Sys2Proof.Machine

/-! ## The drive link (09 R231 to R235, R493) -/

theorem State.length_deviceFrame (s : State) (seq : Nat) : (s.deviceFrame seq).length = 28 := by
  unfold State.deviceFrame
  simp [length_toLe]

theorem State.deviceFrame_head (s : State) (seq : Nat) : (s.deviceFrame seq).take 2 = [0xA5, BitVec.ofNat 8 seq] := rfl

theorem State.faultReset_eq (s : State) : ∃ n tried, s.faultReset = { s with hst.fltReset := n, hst.fltTried := tried } := by
  unfold State.faultReset
  dsimp only
  repeat' split
  · exact ⟨_, _, rfl⟩
  · exact ⟨_, s.hst.fltTried, rfl⟩
  · exact ⟨_, _, rfl⟩
  · exact ⟨s.hst.fltReset, s.hst.fltTried, rfl⟩

theorem execDeviceFrame_of_engines {s : State} (he : s.engines = true) :
    ∃ t, exec .deviceFrame s = .next t ∧ t.hst.dlSeq = (s.hst.dlSeq + 1) % 256 ∧ t.hst.devFrame.length = 28 ∧
      t.hst.devFrame.take 2 = [0xA5, BitVec.ofNat 8 ((s.hst.dlSeq + 1) % 256)] ∧
      t.hst = { s.hst with dlSeq := t.hst.dlSeq, devFrame := t.hst.devFrame, dlReplied := false, invNew := [],
                           fltReset := t.hst.fltReset, fltTried := t.hst.fltTried } ∧ t = { s with hst := t.hst } := by
  obtain ⟨n, tried, hf⟩ := s.faultReset_eq
  have hex : exec .deviceFrame s = .next { s.faultReset with
      hst.dlSeq := (s.faultReset.hst.dlSeq + 1) % 256, hst.devFrame := s.faultReset.deviceFrame ((s.faultReset.hst.dlSeq + 1) % 256)
      hst.dlReplied := false, hst.invNew := [] } := occurs_pos he
  rw [hf] at hex
  exact ⟨_, hex, rfl, State.length_deviceFrame _ _, State.deviceFrame_head _ _, rfl, rfl⟩

theorem execInverterFrame_of_good {s : State} {bs : List Byte} {us : Nat} (he : s.engines = true) (hr : s.hst.dlReplied = false)
    (hg : s.replyGood bs true us = true) (hd : s.hst.dlStat < 2) :
    exec (.inverterFrame bs true us) s = .next { s with
      hst.dlReplied := true, hst.invNew := bs.take 28, hst.dlMiss := 0, hst.dlStat := 0,
      saf.chA.dlMiss := 0, saf.chB.dlMiss := 0 } := by
  have hstat : (if s.hst.dlStat = 1 then 0 else s.hst.dlStat) = 0 := by
    split <;> omega
  have hgood : (if 2 ≤ s.hst.dlStat then s.hst.dlGood + 1 else s.hst.dlGood) = s.hst.dlGood := if_neg (by omega)
  refine (occurs_pos (by simp [he, hr, hg])).trans ?_
  unfold State.modBoth
  dsimp only
  rw [hstat, hgood]

/-- The counting of a missing frame by the safety channels. -/
theorem State.countDl_eq (s : State) : ∃ a b, s.countDl = { s with saf.chA.dlMiss := a, saf.chB.dlMiss := b } := by
  have hcount (c : SafCh) (p : Prop) [Decidable p] :
      ∃ n, (if p then { c with dlMiss := c.dlMiss + 1 } else c) = { c with dlMiss := n } := by
    split
    · exact ⟨_, rfl⟩
    · exact ⟨c.dlMiss, rfl⟩
  obtain ⟨a, ha⟩ := hcount s.saf.chA (s.soClosed 2 = true ∨ (!s.saf.chA.standing) = true)
  obtain ⟨b, hb⟩ := hcount s.saf.chB (s.soClosed 2 = true ∨ (!s.saf.chB.standing) = true)
  refine ⟨a, b, ?_⟩
  unfold State.countDl State.modBoth
  dsimp only
  rw [ha, hb]

theorem dlMiss_noConfig : isConfig Idx.HST_DLMISS = false := by decide +kernel
theorem dlMiss_hi : (paramInfo Idx.HST_DLMISS).map (fun r => r.hi) = some (2 ^ 32 - 1) := by decide +kernel
theorem dlFaults_noConfig : isConfig Idx.HST_DLFAULTS = false := by decide +kernel
theorem dlFaults_hi : (paramInfo Idx.HST_DLFAULTS).map (fun r => r.hi) = some (2 ^ 32 - 1) := by decide +kernel

/-- The parameters and the record of a link that becomes faulty. -/
def State.linkFaulty (s : State) : State := ((s.bump Idx.HST_DLMISS).raise 0x050B 4).bump Idx.HST_DLFAULTS

theorem State.linkFaulty_eq (s : State) : ∃ dir tph, s.linkFaulty = { s with dir := dir, tph := tph } := by
  obtain ⟨d1, h1, -⟩ := s.bump_eq 1 dlMiss_noConfig
  obtain ⟨d2, tph, h2, -⟩ := (s.bump Idx.HST_DLMISS).raise_eq 0x050B 4 0xFF []
  obtain ⟨d3, h3, -⟩ := ((s.bump Idx.HST_DLMISS).raise 0x050B 4).bump_eq 1 dlFaults_noConfig
  rw [h2, h1] at h3
  exact ⟨d3, tph, (by unfold State.linkFaulty; rw [h2, h1, h3])⟩

theorem State.linkFaulty_pars {s : State} (hm : s.par Idx.HST_DLMISS < 2 ^ 32 - 1) (hf : s.par Idx.HST_DLFAULTS < 2 ^ 32 - 1) :
    s.linkFaulty.par Idx.HST_DLMISS = s.par Idx.HST_DLMISS + 1 ∧ s.linkFaulty.par Idx.HST_DLFAULTS = s.par Idx.HST_DLFAULTS + 1 := by
  have hfb : ((s.bump Idx.HST_DLMISS).raise 0x050B 4).par Idx.HST_DLFAULTS = s.par Idx.HST_DLFAULTS :=
    (State.par_raise _ _ _ _ _ _ (by decide)).trans (s.par_bump _ _ 1 dlMiss_noConfig (by decide))
  constructor
  · unfold State.linkFaulty
    rw [State.par_bump _ _ _ _ dlFaults_noConfig (by decide), State.par_raise _ _ _ _ _ _ (by decide)]
    exact s.par_bump_self (k := 1) dlMiss_noConfig dlMiss_hi (Int.add_one_le_iff.mpr hm)
  · have hself := State.par_bump_self ((s.bump Idx.HST_DLMISS).raise 0x050B 4) (k := 1) dlFaults_noConfig dlFaults_hi
      (by rw [hfb]; exact Int.add_one_le_iff.mpr hf)
    rw [hfb] at hself
    exact hself

theorem State.linkFaulty_events (s : State) :
    s.EventsOnly s.linkFaulty [Idx.HST_DLMISS, Idx.HST_DLFAULTS] ∧ s.Records s.linkFaulty 0x050B 4 0xFF := by
  have hb : s.EventsOnly (s.bump Idx.HST_DLMISS) [Idx.HST_DLMISS, Idx.HST_DLFAULTS] :=
    (State.EventsOnly.refl s _).bump 1 (by simp) dlMiss_noConfig
  have hrec : s.Records ((s.bump Idx.HST_DLMISS).raise 0x050B 4) 0x050B 4 0xFF :=
    .raise_after _ _ _ _ (by simp) (hb.1 _ (by decide)) (by simp) (by simp)
  exact ⟨(hb.raise 0x050B 4 0xFF []).bump 1 (by simp) dlFaults_noConfig, hrec.mono (by simp [State.linkFaulty])⟩

theorem State.setOwn_withHst (s : State) (i : Nat) (v : Int) (x : Hst) :
    State.setOwn { s with hst := x } i v = { s.setOwn i v with hst := x } := by
  unfold State.setOwn State.countConfig
  split
  · rfl
  · split
    · rfl
    · rfl

theorem State.bump_withHst (s : State) (i k : Nat) (x : Hst) : State.bump { s with hst := x } i k = { s.bump i k with hst := x } :=
  s.setOwn_withHst i _ x

/-- The second missing frame, as the link and the channels count it. -/
def State.missed (s : State) (a b : Nat) : State :=
  { s with saf.chA.dlMiss := a, saf.chB.dlMiss := b, hst.dlReplied := true, hst.dlGood := 0, hst.dlMiss := 2, hst.dlStat := 2 }

theorem execDlReplyDeadline_of_second {s : State} {us : Nat} (he : s.engines = true) (hr : s.hst.dlReplied = false) (hus : 450 ≤ us)
    (hen : s.hst.enable = true) (hmiss : s.hst.dlMiss = 1) (hstat : s.hst.dlStat < 2) (hm : s.par Idx.HST_DLMISS < 2 ^ 32 - 1)
    (hf : s.par Idx.HST_DLFAULTS < 2 ^ 32 - 1) :
    ∃ t, exec (.dlReplyDeadline us) s = .next t ∧
      t.hst = { s.hst with dlReplied := true, dlGood := 0, dlMiss := 2, dlStat := 2, causes := setBit s.hst.causes 4 true } ∧
      t.par Idx.HST_DLMISS = s.par Idx.HST_DLMISS + 1 ∧ t.par Idx.HST_DLFAULTS = s.par Idx.HST_DLFAULTS + 1 ∧
      s.Records t 0x050B 4 0xFF ∧ s.EventsOnly t [Idx.HST_DLMISS, Idx.HST_DLFAULTS] ∧
      t = { s with hst := t.hst, dir := t.dir, tph := t.tph, saf.chA.dlMiss := t.saf.chA.dlMiss,
                   saf.chB.dlMiss := t.saf.chB.dlMiss } := by
  obtain ⟨a, b, hc⟩ := s.countDl_eq
  have hex : exec (.dlReplyDeadline us) s = .next ((s.missed a b).linkFaulty.addCause 4) := by
    have hfirst := State.bump_withHst { s with saf.chA.dlMiss := a, saf.chB.dlMiss := b } Idx.HST_DLMISS 1
      { s.hst with dlReplied := true, dlGood := 0, dlMiss := 2 }
    have hmissed := State.bump_withHst { s with saf.chA.dlMiss := a, saf.chB.dlMiss := b } Idx.HST_DLMISS 1 (s.missed a b).hst
    refine (occurs_pos (by simp [he, hr, hus])).trans ?_
    rw [hc]
    dsimp only
    rw [if_pos (.inl hen), hmiss, hfirst, if_pos ⟨rfl, hstat⟩]
    unfold State.linkFaulty
    rw [show (s.missed a b).bump Idx.HST_DLMISS = _ from hmissed]
    rfl
  obtain ⟨dir, tph, heq⟩ := (s.missed a b).linkFaulty_eq
  obtain ⟨hp1, hp2⟩ := State.linkFaulty_pars (s := s.missed a b) hm hf
  obtain ⟨hev, hrec⟩ := (s.missed a b).linkFaulty_events
  rw [heq] at hex hp1 hp2 hev hrec
  exact ⟨_, hex, rfl, hp1, hp2, fun h => hrec h, hev, rfl⟩

theorem execDlRestored_of_good {s : State} (he : s.engines = true) (hd : 2 ≤ s.hst.dlStat) (hg : 100 ≤ s.hst.dlGood) :
    ∃ t, exec .dlRestored s = .next t ∧
      t.hst = { s.hst with dlStat := 0, dlGood := 0, dlMiss := 0, causes := setBit s.hst.causes 4 false } ∧
      s.Records t 0x050D 2 0xFF ∧ s.EventsOnly t [] ∧ t = { s with hst := t.hst, dir := t.dir, tph := t.tph } := by
  have hrec := s.records_raise 0x050D 2 0xFF []
  have hev := (State.EventsOnly.refl s []).raise 0x050D 2 0xFF []
  obtain ⟨dir, tph, hr, -⟩ := s.raise_eq 0x050D 2 0xFF []
  have hex : exec .dlRestored s = .next { (s.raise 0x050D 2).dropCause 4 with hst.dlStat := 0, hst.dlGood := 0, hst.dlMiss := 0 } :=
    occurs_pos (by simp [he, hd, hg])
  rw [hr] at hex hrec hev
  exact ⟨_, hex, rfl, fun h => hrec h, hev.congr rfl rfl, rfl⟩

/-- Settles O24: one law for each row. -/
theorem driveLinkIsSupervised : Obligations.DriveLinkIsSupervised :=
  ⟨fun _ he => execDeviceFrame_of_engines he, fun _ _ _ he hr hg hd => execInverterFrame_of_good he hr hg hd,
    fun _ _ he hr hus hen hmiss hstat hm hf => execDlReplyDeadline_of_second he hr hus hen hmiss hstat hm hf,
    fun _ he hd hg => execDlRestored_of_good he hd hg⟩

end Sys2Proof.Machine
end

section
/-!
PROOFS. An opening at a landing beyond the manual's range (11 R274, R283).
-/
namespace Sys2Proof.Machine

/-- Operator 0 at its open stop after a complete pass at a landing 3201, whose mass lies at TPH.RECSEV; events of every severity
are recorded. -/
def massAtRecsev : State :=
  let s := (State.reset.setPar Idx.TPH_RECSEV 0).setPar (Idx.DRn_CFG 0) 64
  { s with
    pwr.state := .run
    dr0 := { st := .opening, restO := 200, moving := true, dir := 1, landing := 3201, counts := true,
             accP := { sum := 80, n := 1 }, cruP := { n := 1 } } }

theorem exec_doorOpened_massAtRecsev : exec (.doorOpened 0) massAtRecsev = .next (massAtRecsev.doorOpened 0) := by
  refine (occurs_pos (by decide +kernel)).trans ?_
  dsimp only
  rw [show (massAtRecsev.doorOpened 0).parkedLanding = none by decide +kernel]

/-- The learned mass has become the lowest severity that is recorded. -/
theorem queue_doorOpened_massAtRecsev : (massAtRecsev.doorOpened 0).tph.queue.length = 0 := by decide +kernel

/-- Refutes O27: an opening learns the mass of the present sequence's landing before it raises its event; for a landing number
beyond the manual's range that mass is another parameter, here TPH.RECSEV, and the event is then not recorded. The statement has no
premise on the landing. -/
theorem not_doorCommandsAndEnds : ¬ Obligations.DoorCommandsAndEnds := by
  unfold Obligations.DoorCommandsAndEnds
  rintro ⟨-, -, -, -, -, opened, -⟩
  obtain ⟨t, ht, -, -, -, -, -, -, hrec, -⟩ := opened massAtRecsev 0 (by decide +kernel) rfl rfl rfl
  rw [← Host.Outcome.next.inj (exec_doorOpened_massAtRecsev.symm.trans ht)] at hrec
  obtain ⟨before, e, after, hq, -⟩ := hrec ⟨by decide +kernel, by decide +kernel⟩
  have hlen := congrArg List.length hq
  rw [queue_doorOpened_massAtRecsev] at hlen
  simp at hlen

end Sys2Proof.Machine
end

section
/-!
PROOFS. The bridge and the drive faults of an operator (11 R265 to R270, R296).
-/
namespace Sys2Proof.Machine

/-! ## An operator by its number (11) -/

theorem State.dn_modD_self (s : State) (n : Nat) (f : Door → Door) : (s.modD n f).dn n = f (s.dn n) := by
  unfold State.modD State.dn State.modDoor State.door
  split <;> rfl

theorem State.dn_modD_other (s : State) (n : Nat) (f : Door → Door) : (s.modD n f).dn (1 - n) = s.dn (1 - n) := by
  unfold State.modD State.dn State.modDoor State.door
  rcases n with _ | n
  · rfl
  · rw [Nat.sub_eq_zero_of_le (by omega)]
    rfl

theorem State.modD_eq (s : State) (n : Nat) (f : Door → Door) : ∃ a b, s.modD n f = { s with dr0 := a, dr1 := b } := by
  unfold State.modD State.modDoor
  split
  · exact ⟨_, s.dr1, rfl⟩
  · exact ⟨s.dr0, _, rfl⟩

/-- A change of operator `n`, and nothing else. -/
theorem State.modD_frame_eq (s : State) (n : Nat) (f : Door → Door) :
    s.modD n f = { s with dr0 := (s.modD n f).dr0, dr1 := (s.modD n f).dr1 } := by
  obtain ⟨a, b, h⟩ := s.modD_eq n f
  rw [h]

theorem State.doorLive_lt {s : State} {n : Nat} (h : s.doorLive n = true) : n < 2 := by
  simp only [State.doorLive, Bool.and_eq_true, decide_eq_true_eq] at h
  exact h.1.1.2

/-- The outcome of an event that changes operator `n` alone. -/
theorem State.modD_outcome {s : State} {i : Instr} {n : Nat} {f : Door → Door} {d : Door} (hex : exec i s = .next (s.modD n f))
    (hd : f (s.dn n) = d) :
    ∃ t, exec i s = .next t ∧ t.dn n = d ∧ t.dn (1 - n) = s.dn (1 - n) ∧ t = { s with dr0 := t.dr0, dr1 := t.dr1 } :=
  ⟨_, hex, (s.dn_modD_self n f).trans hd, s.dn_modD_other n f, s.modD_frame_eq n f⟩

/-! ## Drive faults (11 R269, R296) -/

theorem drFault_noConfig : ∀ n < 2, isConfig (Idx.DRn_FAULT n) = false := by decide +kernel
theorem drFault_ne_bufdrops : ∀ n < 2, Idx.DRn_FAULT n ≠ Idx.TPH_BUFDROPS := by decide +kernel
theorem drFault_ne_recsev : ∀ n < 2, Idx.TPH_RECSEV ≠ Idx.DRn_FAULT n := by decide +kernel

/-- An operator in FAULT. -/
def Door.faulted (d : Door) : Door :=
  { d with ver := (d.ver + 1) % 2 ^ 32,
           st := .fault, gates := false, measuring := false, moving := false, braking := false, rvel := 0, dir := 0,
           pendFault := none, obstructed := none, counts := false, arrival := none, resume := none, hotAt := none,
           learn := {}, stallAt := none, boosting := false, slUse := false, slStart := 0, slAgree := 0 }

theorem State.modD_modD (s : State) (n : Nat) (f g : Door → Door) : (s.modD n f).modD n g = s.modD n fun d => g (f d) := by
  unfold State.modD State.modDoor
  split <;> rfl

/-- The parameter, the record and the slots of a drive fault. -/
def State.faultTold (s : State) (n code : Nat) : State :=
  ((s.setOwn (Idx.DRn_FAULT n) code).raise (0x0707 + 0x100 * n) 4 0xFF [(1, code)]).wantSlots (doorSlots n [0, 1, 2, 3, 4, 5]) false

theorem State.faultTold_eq (s : State) {n : Nat} (hn : n < 2) (code : Nat) :
    ∃ dir tph slots, s.faultTold n code = { s with dir := dir, tph := tph, cle.slots := slots } := by
  obtain ⟨d1, h1, -⟩ := s.setOwn_eq (i := Idx.DRn_FAULT n) code (drFault_noConfig n hn)
  obtain ⟨d2, tph, h2, -⟩ := (s.setOwn (Idx.DRn_FAULT n) code).raise_eq (0x0707 + 0x100 * n) 4 0xFF [(1, code)]
  obtain ⟨slots, h3, -⟩ := ((s.setOwn (Idx.DRn_FAULT n) code).raise (0x0707 + 0x100 * n) 4 0xFF [(1, code)]).wantSlots_eq
    (doorSlots n [0, 1, 2, 3, 4, 5]) false
  rw [h2, h1] at h3
  refine ⟨d2, tph, slots, ?_⟩
  unfold State.faultTold
  rw [h2, h1, h3]

theorem State.faultTold_facts (s : State) {n : Nat} (hn : n < 2) (code : Nat) :
    (s.faultTold n code).par (Idx.DRn_FAULT n) = code ∧
      (∀ k ∈ doorSlots n [0, 1, 2, 3, 4, 5], ((s.faultTold n code).cslot k).want = false) ∧
      s.Records (s.faultTold n code) (0x0707 + 0x100 * n) 4 0xFF ∧ s.EventsOnly (s.faultTold n code) [Idx.DRn_FAULT n] := by
  have hset := s.par_setOwn' (Idx.DRn_FAULT n) (Idx.DRn_FAULT n) code (drFault_noConfig n hn)
  have hev := (State.EventsOnly.refl s [Idx.DRn_FAULT n]).setOwn code (List.mem_singleton_self _) (drFault_noConfig n hn)
  have hsev : Idx.TPH_RECSEV ∉ Idx.TPH_BUFDROPS :: [Idx.DRn_FAULT n] := by
    have := drFault_ne_recsev n hn
    simp [recsev_ne_bufdrops, this]
  refine ⟨?_, fun k hk => State.wantSlots_want _ hk, ?_, ?_⟩
  · exact (State.wantSlots_par _ _ _ _).trans ((State.par_raise _ _ _ _ _ _ (drFault_ne_bufdrops n hn)).trans (hset.trans (if_pos rfl)))
  · have hrec : s.Records _ (0x0707 + 0x100 * n) 4 0xFF :=
      .raise_after _ _ _ [(1, (code : Int))] (s.tph_setOwn_queue _ code) (hev.1 _ hsev) (by simp) (by simp)
    exact hrec.mono (by simp [State.faultTold])
  · exact (hev.raise (0x0707 + 0x100 * n) 4 0xFF [(1, (code : Int))]).congr (by simp [State.faultTold]) (by simp [State.faultTold])

theorem State.doorFault_eq (s : State) (n code : Nat) : ∃ a b,
    s.doorFault n code = { (s.faultTold n code).modD n Door.faulted with saf.sodDr0 := a, saf.sodDr1 := b } := by
  have h : s.doorFault n code = if n = 0 then { (s.faultTold n code).modD n Door.faulted with saf.sodDr0 := none }
      else { (s.faultTold n code).modD n Door.faulted with saf.sodDr1 := none } := by
    unfold State.doorFault State.doorVer
    dsimp only
    rw [State.modD_modD]
    rfl
  split at h
  · exact ⟨_, ((s.faultTold n code).modD n Door.faulted).saf.sodDr1, h⟩
  · exact ⟨((s.faultTold n code).modD n Door.faulted).saf.sodDr0, _, h⟩

theorem execGateUvlo_of_live {s : State} {n : Nat} (hl : s.doorLive n = true) :
    ∃ t, exec (.gateUvlo n) s = .next t ∧ (t.dn n).st = .fault ∧ (t.dn n).gates = false ∧ (t.dn n).moving = false ∧
      (t.dn n).x = (s.dn n).x ∧ t.par (Idx.DRn_FAULT n) = 2 ∧ (∀ k ∈ doorSlots n [0, 1, 2, 3, 4, 5], (t.cslot k).want = false) ∧
      s.Records t (0x0707 + 0x100 * n) 4 0xFF ∧ s.EventsOnly t [Idx.DRn_FAULT n] ∧ t.dn (1 - n) = s.dn (1 - n) ∧
      t = { s with dir := t.dir, tph := t.tph, cle.slots := t.cle.slots, dr0 := t.dr0, dr1 := t.dr1,
                   saf.sodDr0 := t.saf.sodDr0, saf.sodDr1 := t.saf.sodDr1 } := by
  have hn := State.doorLive_lt hl
  have hex : exec (.gateUvlo n) s = .next (s.doorFault n 2) := occurs_pos hl
  obtain ⟨a, b, hf⟩ := s.doorFault_eq n 2
  obtain ⟨hpar, hslots, hrec, hev⟩ := s.faultTold_facts hn 2
  obtain ⟨dir, tph, slots, htold⟩ := s.faultTold_eq hn 2
  have hself : ((s.faultTold n 2).modD n Door.faulted).dn n = (s.dn n).faulted := by
    rw [State.dn_modD_self, htold]
    rfl
  have hother := (s.faultTold n 2).dn_modD_other n Door.faulted
  obtain ⟨x, y, hm⟩ := (s.faultTold n 2).modD_eq n Door.faulted
  rw [hm] at hf hself hother
  rw [htold] at hf hself hother hpar hslots hrec hev
  rw [hf] at hex
  refine ⟨_, hex, congrArg Door.st hself, congrArg Door.gates hself, congrArg Door.moving hself, (congrArg Door.x hself).trans rfl, hpar, hslots, ?_,
    hev.congr rfl rfl, hother, rfl⟩
  exact fun h => hrec h

/-! ## Offsets and currents (11 R267, R268) -/

theorem execOffsetMeasured_of_near {s : State} {n us : Nat} {u v : Int} (hl : s.doorLive n = true) (hlen : s.cle.slots.length = 16)
    (hm : (s.dn n).measuring = true) (hus : 200 ≤ us) (hu : mag u ≤ 20000) (hv : mag v ≤ 20000) :
    ∃ t, exec (.offsetMeasured n u v us) s = .next t ∧ t.dn n = { s.dn n with measuring := false, gates := true } ∧
      (t.cslot (6 * n)).want = true ∧ (t.cslot (6 * n + 1)).want = true ∧ t.dn (1 - n) = s.dn (1 - n) ∧
      t = { s with cle.slots := t.cle.slots, dr0 := t.dr0, dr1 := t.dr1 } := by
  have hn := State.doorLive_lt hl
  have hex : exec (.offsetMeasured n u v us) s =
      .next (((s.modD n fun d => { d with measuring := false }).wantSlots (doorSlots n [0, 1]) true).modD n
        fun d => { d with gates := true }) := by
    refine (occurs_pos (by simp [hl, hm, hus])).trans ?_
    dsimp only
    rw [if_neg (by omega)]
  have hself := s.dn_modD_self n fun d => { d with measuring := false }
  have hother := s.dn_modD_other n fun d => { d with measuring := false }
  obtain ⟨a, b, h1⟩ := s.modD_eq n fun d => { d with measuring := false }
  rw [h1] at hex hself hother
  obtain ⟨slots, h2, -, -, hin⟩ := State.wantSlots_eq { s with dr0 := a, dr1 := b } (doorSlots n [0, 1]) true
  rw [h2] at hex
  have hself2 := State.dn_modD_self { s with dr0 := a, dr1 := b, cle.slots := slots } n fun d => { d with gates := true }
  have hother2 := State.dn_modD_other { s with dr0 := a, dr1 := b, cle.slots := slots } n fun d => { d with gates := true }
  obtain ⟨a2, b2, h3⟩ := State.modD_eq { s with dr0 := a, dr1 := b, cle.slots := slots } n fun d => { d with gates := true }
  rw [h3] at hex hself2 hother2
  have hwant : ∀ k ∈ doorSlots n [0, 1], (slots.getD k {}).want = true := fun k hk => by
    have hk16 : k < s.cle.slots.length := by
      simp only [doorSlots, List.map_cons, List.map_nil, List.mem_cons, List.not_mem_nil, or_false] at hk
      omega
    exact congrArg CSlot.want (hin k hk hk16)
  refine ⟨_, hex, hself2.trans ?_, hwant _ (by simp [doorSlots]), hwant _ (by simp [doorSlots]), hother2.trans hother, rfl⟩
  exact congrArg (fun d : Door => { d with gates := true }) hself

/-- The angle of a door without Hall sensors, and nothing of its state, its currents or its samples. -/
theorem State.sensorlessStep_eq (s : State) (n : Nat) (obs : Int) :
    ∃ f, s.sensorlessStep n obs = s.modD n f ∧ ∀ d, (f d).st = d.st ∧ (f d).iu = d.iu ∧ (f d).iv = d.iv ∧ (f d).iqN = d.iqN := by
  have hid : ∃ f, s = s.modD n f ∧ ∀ d, (f d).st = d.st ∧ (f d).iu = d.iu ∧ (f d).iv = d.iv ∧ (f d).iqN = d.iqN := by
    refine ⟨id, ?_, fun _ => ⟨rfl, rfl, rfl, rfl⟩⟩
    unfold State.modD State.modDoor
    split <;> rfl
  unfold State.sensorlessStep
  dsimp only
  split
  · exact hid
  · repeat' split
    all_goals exact ⟨_, rfl, fun _ => ⟨rfl, rfl, rfl, rfl⟩⟩

theorem State.trackDoor_eq (s : State) (n t : Nat) :
    ∃ f, s.trackDoor n t = s.modD n f ∧ ∀ d, (f d).st = d.st ∧ (f d).iu = d.iu ∧ (f d).iv = d.iv ∧ (f d).iqN = d.iqN :=
  ⟨_, rfl, fun _ => ⟨rfl, rfl, rfl, rfl⟩⟩

/-- What a current sample does to the angle and the position. -/
def State.sampleMoves (s : State) (n t : Nat) (obs : Int) : State :=
  (if s.sensorless n then s.sensorlessStep n obs else s).trackDoor n t

theorem State.sampleMoves_eq (s : State) (n t : Nat) (obs : Int) :
    ∃ f, s.sampleMoves n t obs = s.modD n f ∧ ∀ d, (f d).st = d.st ∧ (f d).iu = d.iu ∧ (f d).iv = d.iv ∧ (f d).iqN = d.iqN := by
  unfold State.sampleMoves
  obtain ⟨f, hf, kf⟩ := (if s.sensorless n then s.sensorlessStep n obs else s).trackDoor_eq n t
  obtain ⟨g, hg, kg⟩ := s.sensorlessStep_eq n obs
  rw [hf]
  split
  · rw [hg, State.modD_modD]
    refine ⟨_, rfl, fun d => ?_⟩
    obtain ⟨f1, f2, f3, f4⟩ := kf (g d)
    obtain ⟨g1, g2, g3, g4⟩ := kg d
    exact ⟨f1.trans g1, f2.trans g2, f3.trans g3, f4.trans g4⟩
  · exact ⟨f, rfl, kf⟩

/-- Counts of single currents above DRn.IMAX that start from 0 show no second one. -/
theorem any_second_of_zero (xs : List Int) (ys : List Nat) (m : Nat) (h : ∀ k ∈ ys, k = 0) :
    (((xs.zip ys).map fun p => if m < mag p.1 then p.2 + 1 else 0).any fun k => decide (2 ≤ k)) = false := by
  rw [List.any_eq_false]
  intro k hk
  obtain ⟨p, hp, rfl⟩ := List.mem_map.mp hk
  have h0 := h p.2 (List.of_mem_zip hp).2
  split <;> simp [h0]

/-- The currents of a sample. -/
def Door.sampled (d : Door) (iu iv iq : Int) (overs : List Nat) : Door :=
  { d with iu := iu, iv := iv, iqSum := d.iqSum + iq, iqN := d.iqN + 1, overs := overs }

theorem execCurrentSample_eq {s : State} {n at_ : Nat} {obs : Int} (he : s.engines = true) (hn : n < 2) (hst : (s.dn n).st ≠ .disabled)
    (h0 : ∀ k ∈ (s.dn n).overs, k = 0) :
    ∃ iq overs f0 f1 f2, exec (.currentSample n at_ obs) s = .next ((((((s.modD n fun d =>
      d.sampled (rdiv (s.cle.shunts.getD (2 * n) 0 * 1000) (s.dp n Idx.DRn_RSHUNT))
        (rdiv (s.cle.shunts.getD (2 * n + 1) 0 * 1000) (s.dp n Idx.DRn_RSHUNT)) iq overs).modSlotC (6 * n) f0).modSlotC (6 * n + 1)
        f1).sampleMoves n at_ obs).modSlotC (6 * n + 2) f2)) := by
  have hex : exec (.currentSample n at_ obs) s = occurs (s.engines && decide (n < 2) && (s.dn n).st != .disabled) s _ := rfl
  rw [occurs, if_pos (by simp [he, hn, hst])] at hex
  dsimp only at hex
  rw [any_second_of_zero _ _ _ h0, Bool.false_and, if_neg Bool.false_ne_true] at hex
  exact ⟨_, _, _, _, _, hex⟩

theorem execCurrentSample_of_low {s : State} {n at_ : Nat} {obs : Int} (he : s.engines = true) (hn : n < 2) (hst : (s.dn n).st ≠ .disabled)
    (h0 : ∀ k ∈ (s.dn n).overs, k = 0) :
    ∃ t, exec (.currentSample n at_ obs) s = .next t ∧ (t.dn n).st = (s.dn n).st ∧
      (t.dn n).iu = rdiv (s.cle.shunts.getD (2 * n) 0 * 1000) (s.dp n Idx.DRn_RSHUNT) ∧
      (t.dn n).iv = rdiv (s.cle.shunts.getD (2 * n + 1) 0 * 1000) (s.dp n Idx.DRn_RSHUNT) ∧ (t.dn n).iqN = (s.dn n).iqN + 1 ∧
      t.dn (1 - n) = s.dn (1 - n) ∧ t = { s with cle.slots := t.cle.slots, dr0 := t.dr0, dr1 := t.dr1 } := by
  obtain ⟨iq, overs, f0, f1, f2, hex⟩ := execCurrentSample_eq (at_ := at_) (obs := obs) he hn hst h0
  generalize hsam : (fun d : Door => d.sampled (rdiv (s.cle.shunts.getD (2 * n) 0 * 1000) (s.dp n Idx.DRn_RSHUNT))
    (rdiv (s.cle.shunts.getD (2 * n + 1) 0 * 1000) (s.dp n Idx.DRn_RSHUNT)) iq overs) = g at hex
  have hself := s.dn_modD_self n g
  have hother := s.dn_modD_other n g
  obtain ⟨a, b, h1⟩ := s.modD_eq n g
  rw [h1] at hex hself hother
  obtain ⟨f, hf, hkeep⟩ := ((State.modSlotC { s with dr0 := a, dr1 := b } (6 * n) f0).modSlotC (6 * n + 1) f1).sampleMoves_eq n at_ obs
  rw [hf] at hex
  have hself2 := ((State.modSlotC { s with dr0 := a, dr1 := b } (6 * n) f0).modSlotC (6 * n + 1) f1).dn_modD_self n f
  have hother2 := ((State.modSlotC { s with dr0 := a, dr1 := b } (6 * n) f0).modSlotC (6 * n + 1) f1).dn_modD_other n f
  obtain ⟨a2, b2, h3⟩ := ((State.modSlotC { s with dr0 := a, dr1 := b } (6 * n) f0).modSlotC (6 * n + 1) f1).modD_eq n f
  rw [h3] at hex hself2 hother2
  have hd : (State.modSlotC (State.modSlotC { s with dr0 := a, dr1 := b } (6 * n) f0) (6 * n + 1) f1).dn n = g (s.dn n) := hself
  rw [hd] at hself2
  obtain ⟨k1, k2, k3, k4⟩ := hkeep (g (s.dn n))
  rw [← hself2] at k1 k2 k3 k4
  rw [← hsam] at k1 k2 k3 k4
  exact ⟨_, hex, k1, k2, k3, k4, hother2.trans hother, rfl⟩

theorem execHallRead_of_reserved {s : State} {n code : Nat} (he : s.engines = true) (hn : n < 2) (hst : (s.dn n).st ≠ .disabled)
    (hs : s.sensorless n = false) (hc : code = 0 ∨ code = 7) (hp : (s.dn n).pendFault = none) :
    ∃ t, exec (.hallRead n code) s = .next t ∧
      t.dn n = { s.dn n with hallBad := (s.dn n).hallBad + 1, pendFault := if 1 ≤ (s.dn n).hallBad then some 3 else none } ∧
      t.dn (1 - n) = s.dn (1 - n) ∧ t = { s with dr0 := t.dr0, dr1 := t.dr1 } := by
  have hplace : hallPlace code = none := by
    rcases hc with rfl | rfl <;> rfl
  refine State.modD_outcome (f := fun d => { d with
    hallBad := d.hallBad + 1, pendFault := if 1 ≤ d.hallBad then some (d.pendFault.getD 3) else d.pendFault }) ?_ (by rw [hp]; rfl)
  refine (occurs_pos (c := s.engines && decide (n < 2) && (s.dn n).st != .disabled && !s.sensorless n) (by simp [he, hn, hst, hs])).trans ?_
  dsimp only
  rw [hplace]

theorem hallPlace_lt {code k : Nat} (h : hallPlace code = some k) : k < 6 := by
  unfold hallPlace at h
  split at h <;> cases h <;> decide

theorem execHallRead_of_next {s : State} {n code j k : Nat} (he : s.engines = true) (hn : n < 2) (hst : (s.dn n).st ≠ .disabled)
    (hs : s.sensorless n = false) (hk : hallPlace code = some k) (hj : hallPlace (s.dn n).hall = some j)
    (hjk : k = (j + 1) % 6 ∨ j = (k + 1) % 6) :
    ∃ t, exec (.hallRead n code) s = .next t ∧ (t.dn n).hall = code ∧ (t.dn n).hallBad = 0 ∧
      (t.dn n).hallDir = (if k = (j + 1) % 6 then 1 else -1) ∧ (t.dn n).pendFault = (s.dn n).pendFault ∧
      t.dn (1 - n) = s.dn (1 - n) ∧ t = { s with dr0 := t.dr0, dr1 := t.dr1 } := by
  have hk6 := hallPlace_lt hk
  have hj6 := hallPlace_lt hj
  have hne : ¬j = k := by omega
  have hok : ((k == (j + 1) % 6) || (j == (k + 1) % 6)) = true := by simpa using hjk
  have hex : ∃ th, exec (.hallRead n code) s = .next (s.modD n fun d => { d with
      hall := code, hallBad := 0, hallSpan := d.hallAge + 1, hallAge := 0, hallDir := if k == (j + 1) % 6 then 1 else -1, theta := th }) := by
    have h : exec (.hallRead n code) s = occurs (s.engines && decide (n < 2) && (s.dn n).st != .disabled && !s.sensorless n) s _ := rfl
    rw [occurs, if_pos (by simp [he, hn, hst, hs])] at h
    dsimp only at h
    rw [hk] at h
    dsimp only at h
    rw [hj] at h
    dsimp only at h
    rw [if_neg hne, if_pos hok, State.modD_modD] at h
    exact ⟨_, h⟩
  obtain ⟨th, hex⟩ := hex
  obtain ⟨t, ht, hd, hother, hframe⟩ := State.modD_outcome hex rfl
  refine ⟨t, ht, ?_, ?_, ?_, ?_, hother, hframe⟩
  · rw [hd]
  · rw [hd]
  · rw [hd]
    simp
  · rw [hd]

/-- Settles O28: each event of the bridge is followed to the operator it changes. -/
theorem doorDriveIsSupervised : Obligations.DoorDriveIsSupervised := by
  refine ⟨fun s n he hn hg => ?_, fun s n hl => execGateUvlo_of_live hl, fun s n at_ x hl hm ho hs hat hp => ?_,
    fun s n at_ hl hh hs hat => ?_, fun s n us u v hl hlen hm hus hu hv => execOffsetMeasured_of_near hl hlen hm hus hu hv,
    fun s n us u v hl hm hus hu => ?_, fun s n at_ obs he hn hst _ h0 => execCurrentSample_of_low he hn hst h0,
    fun s n code he hn hst hs hc hp => execHallRead_of_reserved he hn hst hs hc hp,
    fun s n code j k he hn hst hs hk hj hjk => execHallRead_of_next he hn hst hs hk hj hjk⟩
  · exact State.modD_outcome (f := fun d => { d with duty := s.duties n }) (occurs_pos (by simp [he, hn, hg])) rfl
  · refine State.modD_outcome (f := fun d => { d with pendFault := some (d.pendFault.getD 9) }) (occurs_pos ?_) (by rw [hp]; rfl)
    rw [hl, hm, ho, hs]
    simpa using hat
  · refine State.modD_outcome (f := fun d => { d with hotAt := some s.pwr.opTime }) (occurs_pos ?_) rfl
    rw [hl, hh, hs]
    simpa using hat
  · refine State.modD_outcome (n := n) (f := fun d => { d with measuring := false, pendFault := some 8 }) ?_ rfl
    refine (occurs_pos (by simp [hl, hm, hus])).trans ?_
    dsimp only
    rw [if_pos (.inl hu), State.modD_modD]

end Sys2Proof.Machine
end

section
/-!
PROOFS. The two safety channels, and trips (12 R299, R300, R319).
-/
namespace Sys2Proof.Machine

/-! ## A bit set or cleared -/

theorem testBit_setBit (v n k : Nat) (b : Bool) : (setBit v n b).testBit k = if k = n then b else v.testBit k := by
  unfold setBit
  cases b with
  | true =>
    rw [if_pos rfl, Nat.testBit_or, Nat.testBit_two_pow]
    by_cases h : k = n
    · simp [h]
    · simp [h, Ne.symm h]
  | false =>
    rw [if_neg Bool.false_ne_true]
    by_cases hn : v.testBit n = true
    · have hr : v % 2 ^ n < 2 ^ n := Nat.mod_lt _ (Nat.two_pow_pos n)
      obtain ⟨q, hq⟩ : ∃ q, v / 2 ^ n = 2 * q + 1 := by
        have hodd : (v / 2 ^ n) % 2 = 1 := by
          rw [Nat.testBit_eq_decide_div_mod_eq] at hn
          exact of_decide_eq_true hn
        exact ⟨v / 2 ^ n / 2, by omega⟩
      have hv : v = 2 ^ n * (2 * q + 1) + v % 2 ^ n := by
        rw [← hq, Nat.div_add_mod]
      have hsub : v - 2 ^ n = 2 ^ n * (2 * q) + v % 2 ^ n := by
        conv_lhs => rw [hv]
        rw [Nat.mul_add, Nat.mul_one]
        omega
      rw [if_pos hn, hsub]
      conv_rhs => rw [hv]
      rw [Nat.testBit_two_pow_mul_add _ hr, Nat.testBit_two_pow_mul_add _ hr]
      by_cases hk : k = n
      · subst hk
        simp
      · rw [if_neg hk]
        split
        · rfl
        · next hlt =>
          obtain ⟨j, hj⟩ : ∃ j, k - n = j + 1 := ⟨k - n - 1, by omega⟩
          rw [hj, Nat.testBit_succ, Nat.testBit_succ]
          congr 1
          omega
    · rw [if_neg hn, Nat.sub_zero]
      split
      · next h => rw [h]; simpa using hn
      · rfl

/-! ## The two safety channels (12 R299) -/

theorem State.chan_modChan_self (s : State) (isA : Bool) (f : SafCh → SafCh) : (s.modChan isA f).chan isA = f (s.chan isA) := by
  cases isA <;> rfl

theorem State.chan_modChan_other (s : State) (isA : Bool) (f : SafCh → SafCh) : (s.modChan isA f).chan (!isA) = s.chan (!isA) := by
  cases isA <;> rfl

theorem State.modChan_eq (s : State) (isA : Bool) (f : SafCh → SafCh) :
    ∃ a b, s.modChan isA f = { s with saf.chA := a, saf.chB := b } := by
  cases isA
  · exact ⟨s.saf.chA, _, rfl⟩
  · exact ⟨_, s.saf.chB, rfl⟩

theorem State.modChan_modChan (s : State) (isA : Bool) (f g : SafCh → SafCh) :
    (s.modChan isA f).modChan isA g = s.modChan isA fun c => g (f c) := by
  cases isA <;> rfl

/-- A change of one channel, and nothing else. -/
theorem State.modChan_frame_eq (s : State) (isA : Bool) (f : SafCh → SafCh) :
    s.modChan isA f = { s with saf.chA := (s.modChan isA f).saf.chA, saf.chB := (s.modChan isA f).saf.chB } := by
  obtain ⟨a, b, h⟩ := s.modChan_eq isA f
  rw [h]

/-- The outcome of an event that changes one channel alone. -/
theorem State.modChan_outcome {s : State} {i : Instr} {isA : Bool} {f : SafCh → SafCh} (hex : exec i s = .next (s.modChan isA f)) :
    ∃ t, exec i s = .next t ∧ t.chan isA = f (s.chan isA) ∧ t.chan (!isA) = s.chan (!isA) ∧
      t = { s with saf.chA := t.saf.chA, saf.chB := t.saf.chB } :=
  ⟨_, hex, s.chan_modChan_self isA f, s.chan_modChan_other isA f, s.modChan_frame_eq isA f⟩

/-- Other blocks do not count. -/
theorem State.chan_congr {s t : State} (ha : t.saf.chA = s.saf.chA) (hb : t.saf.chB = s.saf.chB) (isA : Bool) :
    t.chan isA = s.chan isA := by
  unfold State.chan
  rw [ha, hb]

theorem isWick_of_lt {ch : Nat} (h : ch < 2) : isWick ch = true := decide_eq_true h

/-! ## Trips (12 R300, R319) -/

theorem lastTrip_noConfig : isConfig Idx.SAF_LASTTRIP = false := by decide +kernel
theorem tripCount_noConfig : isConfig Idx.SAF_TRIPCOUNT = false := by decide +kernel

/-- The parameters that a trip writes. -/
def tripPars : List Nat := [Idx.SAF_LASTTRIP, Idx.SAF_TRIPCOUNT, Idx.HST_LEARNSTAT, Idx.HST_LEARNCAUSE]

theorem State.toTripped_eventsOnly (s : State) (cause : Nat) (is : List Nat) : s.EventsOnly (s.toTripped cause) is :=
  .ite ((State.EventsOnly.refl s is).enter _ _) (.refl s is)

theorem State.toTripped_eq (s : State) (cause : Nat) : ∃ st dir tph,
    s.toTripped cause = { s with pwr.state := st, dir := dir, tph := tph } ∧ (s.pwr.state = .run → st = .tripped) := by
  unfold State.toTripped
  split
  · obtain ⟨dir, tph, h, -⟩ := s.raise_eq 0x010B 1 0xFF [(1, s.pwr.state.code), (1, DevState.tripped.code), (2, cause)]
    refine ⟨.tripped, dir, tph, ?_, fun _ => rfl⟩
    unfold State.enter
    dsimp only
    rw [h]
  · next hne => exact ⟨s.pwr.state, s.dir, s.tph, rfl, fun h => absurd h hne⟩

theorem State.hstTripped_eq (s : State) : ∃ hst dir tph slots,
    s.hstTripped = { s with hst := hst, dir := dir, tph := tph, cle.slots := slots, saf.sodHst := none } ∧
      hst.st = .fault ∧ s.hst.Dropped hst := by
  obtain ⟨hst, dir, tph, slots, h, hst', hd⟩ := s.dropRun_eq .fault
  refine ⟨{ hst with causes := setBit hst.causes 6 true }, dir, tph, slots, ?_, hst'.trans (if_neg fun h => HSt.noConfusion h.2), ?_⟩
  · unfold State.hstTripped State.addCause
    rw [h]
  · exact ⟨hd.runReq, hd.liftReq, hd.enable, hd.target, hd.waiting⟩

theorem State.hstTripped_eventsOnly (s : State) : s.EventsOnly s.hstTripped [Idx.HST_LEARNSTAT, Idx.HST_LEARNCAUSE] :=
  (s.dropRun_eventsOnly .fault).congr rfl rfl

/-- The record, the parameters and the stop of a new cause. -/
def State.tripTold (s : State) (bit : Nat) (data : List (Nat × Int)) : State :=
  ((((s.raise (tripEvent bit) 6 0xFF data).setOwn Idx.SAF_LASTTRIP (tripEvent bit)).bump Idx.SAF_TRIPCOUNT).toTripped
    (tripEvent bit)).hstTripped

theorem State.tripTold_eq (s : State) (bit : Nat) (data : List (Nat × Int)) : ∃ st hst dir tph slots,
    s.tripTold bit data = { s with pwr.state := st, hst := hst, dir := dir, tph := tph, cle.slots := slots, saf.sodHst := none } ∧
      (s.pwr.state = .run → st = .tripped) ∧ hst.st = .fault ∧ s.hst.Dropped hst := by
  obtain ⟨d1, t1, h1, -⟩ := s.raise_eq (tripEvent bit) 6 0xFF data
  obtain ⟨d2, h2, -⟩ := (s.raise (tripEvent bit) 6 0xFF data).setOwn_eq (tripEvent bit) lastTrip_noConfig
  obtain ⟨d3, h3, -⟩ := ((s.raise (tripEvent bit) 6 0xFF data).setOwn Idx.SAF_LASTTRIP (tripEvent bit)).bump_eq 1 tripCount_noConfig
  rw [h2, h1] at h3
  obtain ⟨st, d4, t4, h4, hst⟩ := (((s.raise (tripEvent bit) 6 0xFF data).setOwn Idx.SAF_LASTTRIP (tripEvent bit)).bump
    Idx.SAF_TRIPCOUNT).toTripped_eq (tripEvent bit)
  rw [h2, h1, h3] at h4 hst
  obtain ⟨hst', d5, t5, slots, h5, hf, hd⟩ := ((((s.raise (tripEvent bit) 6 0xFF data).setOwn Idx.SAF_LASTTRIP (tripEvent bit)).bump
    Idx.SAF_TRIPCOUNT).toTripped (tripEvent bit)).hstTripped_eq
  rw [h2, h1, h3, h4] at h5 hd
  refine ⟨st, hst', d5, t5, slots, ?_, hst, hf, hd⟩
  unfold State.tripTold
  rw [h2, h1, h3, h4, h5]

theorem State.tripTold_eventsOnly (s : State) (bit : Nat) (data : List (Nat × Int)) : s.EventsOnly (s.tripTold bit data) tripPars := by
  have h := (((State.EventsOnly.refl s tripPars).raise (tripEvent bit) 6 0xFF data).setOwn (tripEvent bit) (by simp [tripPars])
    lastTrip_noConfig).bump 1 (i := Idx.SAF_TRIPCOUNT) (by simp [tripPars]) tripCount_noConfig
  exact (h.trans (State.toTripped_eventsOnly _ _ _)).trans ((State.hstTripped_eventsOnly _).mono (by simp [tripPars]))

theorem State.tripTold_records (s : State) (bit : Nat) (data : List (Nat × Int)) :
    s.Records (s.tripTold bit data) (tripEvent bit) 6 0xFF ∧ (s.tripTold bit data).par Idx.SAF_LASTTRIP = tripEvent bit := by
  have h := ((((State.EventsOnly.refl (s.raise (tripEvent bit) 6 0xFF data) tripPars).setOwn (tripEvent bit) (by simp [tripPars])
    lastTrip_noConfig).bump 1 (i := Idx.SAF_TRIPCOUNT) (by simp [tripPars]) tripCount_noConfig).trans
      (State.toTripped_eventsOnly _ (tripEvent bit) _)).trans ((State.hstTripped_eventsOnly _).mono (by simp [tripPars]))
  have hown := (s.raise (tripEvent bit) 6 0xFF data).par_setOwn' Idx.SAF_LASTTRIP Idx.SAF_LASTTRIP (tripEvent bit) lastTrip_noConfig
  have hafter := (((State.EventsOnly.refl ((s.raise (tripEvent bit) 6 0xFF data).setOwn Idx.SAF_LASTTRIP (tripEvent bit))
    [Idx.SAF_TRIPCOUNT, Idx.HST_LEARNSTAT, Idx.HST_LEARNCAUSE]).bump 1 (i := Idx.SAF_TRIPCOUNT) (by simp) tripCount_noConfig).trans
      (State.toTripped_eventsOnly _ (tripEvent bit) _)).trans ((State.hstTripped_eventsOnly _).mono (by simp))
  exact ⟨(s.records_raise _ 6 0xFF data).mono h.2.2.2, (hafter.1 _ (by decide)).trans (hown.trans (if_pos rfl))⟩

/-- A channel whose switches a cause has opened. -/
def SafCh.tripped (c : SafCh) (bit : Nat) : SafCh :=
  { c with own := setBit c.own bit true, active := setBit c.active bit true, sw := 0, grants := 0 }

theorem State.safTrip_of_held {s : State} {isA : Bool} {bit : Nat} (value : Int) (h : (s.chan isA).own.testBit bit = true) :
    s.safTrip isA bit value = s.modChan isA fun c => { c with sw := 0 } := if_pos h

theorem State.safTrip_of_new {s : State} {isA : Bool} {bit : Nat} (value : Int) (h : (s.chan isA).own.testBit bit = false) :
    ∃ data, s.safTrip isA bit value =
      if (s.saf.chA.active.testBit bit || s.saf.chB.active.testBit bit) = true then s.modChan isA fun c => c.tripped bit
      else (s.modChan isA fun c => c.tripped bit).tripTold bit data := by
  refine ⟨[(4, (s.chan isA).pS), (4, (s.chan isA).vS), (4, value)], (if_neg (by rw [h]; decide)).trans ?_⟩
  cases (s.saf.chA.active.testBit bit || s.saf.chB.active.testBit bit) <;> rfl

/-- From `s` to `t` one channel may have tripped: beside its causes, its switches and its grants nothing of the channels changed;
causes stay, and open switches stay open. -/
structure State.Tripping (isA : Bool) (s t : State) : Prop where
  frame : ∃ st hst dir tph slots saf,
    t = { s with pwr.state := st, hst := hst, dir := dir, tph := tph, cle.slots := slots, saf := saf }
  other : t.chan (!isA) = s.chan (!isA)
  own : ∃ own active sw grants, t.chan isA = { s.chan isA with own := own, active := active, sw := sw, grants := grants }
  causes : ∀ b, (s.chan isA).own.testBit b = true → (t.chan isA).own.testBit b = true
  opened : (s.chan isA).sw = 0 → (t.chan isA).sw = 0
  events : s.EventsOnly t tripPars

theorem State.Tripping.refl (isA : Bool) (s : State) : State.Tripping isA s s :=
  ⟨⟨_, _, _, _, _, s.saf, rfl⟩, rfl, ⟨_, _, _, _, rfl⟩, fun _ => id, id, .refl s _⟩

theorem State.Tripping.trans {isA : Bool} {s t u : State} (h : State.Tripping isA s t) (h' : State.Tripping isA t u) :
    State.Tripping isA s u := by
  refine ⟨?_, h'.other.trans h.other, ?_, fun b hb => h'.causes b (h.causes b hb), fun hs => h'.opened (h.opened hs), h.events.trans h'.events⟩
  · obtain ⟨_, _, _, _, _, _, ht⟩ := h.frame
    obtain ⟨_, _, _, _, _, _, hu⟩ := h'.frame
    rw [ht] at hu
    exact ⟨_, _, _, _, _, _, hu⟩
  · obtain ⟨_, _, _, _, ht⟩ := h.own
    obtain ⟨_, _, _, _, hu⟩ := h'.own
    rw [ht] at hu
    exact ⟨_, _, _, _, hu⟩

theorem State.modChan_tripping (s : State) {isA : Bool} {f : SafCh → SafCh}
    (hf : ∀ c, ∃ own active sw grants, f c = { c with own := own, active := active, sw := sw, grants := grants })
    (hc : ∀ c b, c.own.testBit b = true → (f c).own.testBit b = true) (h0 : ∀ c, c.sw = 0 → (f c).sw = 0) :
    State.Tripping isA s (s.modChan isA f) := by
  refine ⟨?_, s.chan_modChan_other isA f, ?_, fun b hb => ?_, fun hs => ?_, .of_eq _ (by simp) (by simp)⟩
  · obtain ⟨a, b, h⟩ := s.modChan_eq isA f
    exact ⟨_, _, _, _, _, _, h⟩
  · rw [s.chan_modChan_self]
    exact hf _
  · rw [s.chan_modChan_self]
    exact hc _ b hb
  · rw [s.chan_modChan_self]
    exact h0 _ hs

theorem State.tripTold_tripping (s : State) (isA : Bool) (bit : Nat) (data : List (Nat × Int)) :
    State.Tripping isA s (s.tripTold bit data) := by
  have hev := s.tripTold_eventsOnly bit data
  obtain ⟨st, hst, dir, tph, slots, h, -⟩ := s.tripTold_eq bit data
  have hchan (k : Bool) : (s.tripTold bit data).chan k = s.chan k := by
    rw [h]
    exact State.chan_congr rfl rfl k
  refine ⟨⟨_, _, _, _, _, _, h⟩, hchan _, ?_, fun b hb => ?_, fun hs => ?_, hev⟩
  · rw [hchan]
    exact ⟨_, _, _, _, rfl⟩
  · rw [hchan]
    exact hb
  · rw [hchan]
    exact hs

theorem State.tripped_tripping (s : State) (isA : Bool) (bit : Nat) : State.Tripping isA s (s.modChan isA fun c => c.tripped bit) := by
  refine s.modChan_tripping (fun _ => ⟨_, _, _, _, rfl⟩) (fun c b hb => ?_) fun _ _ => rfl
  show (setBit c.own bit true).testBit b = true
  rw [testBit_setBit]
  split
  · rfl
  · exact hb

theorem State.safTrip_tripping (s : State) (isA : Bool) (bit : Nat) (value : Int) : State.Tripping isA s (s.safTrip isA bit value) := by
  by_cases h : (s.chan isA).own.testBit bit = true
  · rw [State.safTrip_of_held value h]
    exact s.modChan_tripping (fun _ => ⟨_, _, _, _, rfl⟩) (fun _ _ hb => hb) fun _ _ => rfl
  · obtain ⟨data, hd⟩ := State.safTrip_of_new value (Bool.eq_false_iff.mpr h)
    rw [hd]
    split
    · exact s.tripped_tripping isA bit
    · exact (s.tripped_tripping isA bit).trans (State.tripTold_tripping _ isA bit data)

/-- After a trip the channel holds the cause and its switches are open. -/
theorem State.safTrip_tripped (s : State) (isA : Bool) (bit : Nat) (value : Int) :
    ((s.safTrip isA bit value).chan isA).own.testBit bit = true ∧ ((s.safTrip isA bit value).chan isA).sw = 0 := by
  by_cases h : (s.chan isA).own.testBit bit = true
  · rw [State.safTrip_of_held value h, s.chan_modChan_self]
    exact ⟨h, rfl⟩
  · obtain ⟨data, hd⟩ := State.safTrip_of_new value (Bool.eq_false_iff.mpr h)
    have hset : ((s.modChan isA fun c => c.tripped bit).chan isA).own.testBit bit = true := by
      rw [s.chan_modChan_self]
      show (setBit (s.chan isA).own bit true).testBit bit = true
      rw [testBit_setBit, if_pos rfl]
    have hsw : ((s.modChan isA fun c => c.tripped bit).chan isA).sw = 0 := by
      rw [s.chan_modChan_self]
      rfl
    rw [hd]
    split
    · exact ⟨hset, hsw⟩
    · have hk := (s.modChan isA fun c => c.tripped bit).tripTold_tripping isA bit data
      exact ⟨hk.causes bit hset, hk.opened hsw⟩

theorem State.CauseNew.own {s : State} {bit : Nat} (h : s.CauseNew bit) (isA : Bool) : (s.chan isA).own.testBit bit = false := (h isA).1

theorem State.CauseNew.inactive {s : State} {bit : Nat} (h : s.CauseNew bit) :
    ¬(s.saf.chA.active.testBit bit || s.saf.chB.active.testBit bit) = true := by
  have ha : s.saf.chA.active.testBit bit = false := (h true).2
  have hb : s.saf.chB.active.testBit bit = false := (h false).2
  rw [ha, hb]
  decide

/-- A trip on a new cause, with what it changes. -/
theorem State.safTrip_trips {s : State} (isA : Bool) {bit : Nat} (value : Int) (h : s.CauseNew bit) :
    s.Trips (s.safTrip isA bit value) isA bit := by
  obtain ⟨data, hd⟩ := State.safTrip_of_new value (h.own isA)
  rw [if_neg h.inactive] at hd
  have hself := s.chan_modChan_self isA fun c => c.tripped bit
  have hother := s.chan_modChan_other isA fun c => c.tripped bit
  have hrec := (s.modChan isA fun c => c.tripped bit).tripTold_records bit data
  obtain ⟨a, b, hm⟩ := s.modChan_eq isA fun c => c.tripped bit
  obtain ⟨st, hst, dir, tph, slots, he, hrun, hf, hdrop⟩ := (s.modChan isA fun c => c.tripped bit).tripTold_eq bit data
  rw [hm] at hself hother hrec he hrun hdrop
  rw [hd, hm]
  have hchan (k : Bool) : (State.tripTold { s with saf.chA := a, saf.chB := b } bit data).chan k =
      State.chan { s with saf.chA := a, saf.chB := b } k := by
    rw [he]
    exact State.chan_congr rfl rfl k
  unfold State.Trips
  rw [hchan, hchan, hself, hother]
  refine ⟨rfl, rfl, rfl, rfl, hrec.2, ?_, ?_, ?_, ?_, fun hr => ?_, fun hh => hrec.1 hh⟩
  · rw [he]; exact hf
  · rw [he]; exact hdrop.runReq
  · rw [he]; exact hdrop.liftReq
  · rw [he]; exact hdrop.enable
  · rw [he]; exact hrun hr

end Sys2Proof.Machine
end

section
/-!
PROOFS. The sample task and the filtered inputs (12 R300 to R305, R313).
-/
namespace Sys2Proof.Machine

/-! ## The sample task (12 R300 to R305) -/

/-- A channel with its samples, before it forms a position. -/
def State.samplesIn (s : State) (c : SafCh) (si : Nat) (inc : Int) (latch : Option Int) (fa fb : Option SsiFrame) : SafCh :=
  { c with
    raw := si % 2 ^ 16
    agree := countAgree c.flt si 0 c.agree
    inc := inc
    incLatch := if fa.isSome || fb.isSome then latch else c.incLatch
    a := safTake (s.par Idx.HST_SSIMODE == 1) c (s.parBit Idx.SAF_PSDIR 0) (s.par Idx.SAF_PSAOFS) c.a fa
    b := safTake (s.par Idx.HST_SSIMODE == 1) c (s.parBit Idx.SAF_PSDIR 1) (s.par Idx.SAF_PSBOFS) c.b fb }

/-- A channel forms its position from frames, or after a task that formed none; the first one stands for all before it. -/
def State.positionIn (s : State) (took blind : Bool) (c : SafCh) : SafCh :=
  let c := if took ∨ !c.formed then s.formPos c else { c with formed := false }
  if blind && (c.a.seen || c.b.seen) then c.firstPos else c

theorem State.formPos_eq (s : State) (c : SafCh) : ∃ cp ci, s.formPos c =
    { c with pS := s.safPos c, p1 := c.pS, vS := (s.safPos c - c.p1) * 1000, formed := true, carryPos := cp, carryInc := ci } := by
  unfold State.formPos
  dsimp only
  split
  · exact ⟨_, _, rfl⟩
  · exact ⟨c.carryPos, c.carryInc, rfl⟩

theorem State.safStill_eq (s : State) (c : SafCh) : ∃ still ri rp ra, s.safStill c =
    { c with still := still, refInc := ri, refPos := rp, refAge := ra } := by
  unfold State.safStill
  extract_lets still reached agree
  split
  · exact ⟨_, _, _, _, rfl⟩
  · exact ⟨_, c.refInc, c.refPos, _, rfl⟩

theorem State.safUnlock_eq (s : State) (c : SafCh) : ∃ u, s.safUnlock c = { c with unlocked := u } := by
  unfold State.safUnlock
  split
  · exact ⟨_, rfl⟩
  · split
    · exact ⟨c.unlocked, rfl⟩
    · split
      · exact ⟨c.unlocked, rfl⟩
      · exact ⟨_, rfl⟩

/-- A position formed, beside which nothing of the samples changes. -/
theorem State.positionIn_eq (s : State) (took blind : Bool) (c : SafCh) : ∃ pS p1 vS formed cp ci ri rp ra,
    s.positionIn took blind c = { c with pS := pS, p1 := p1, vS := vS, formed := formed, carryPos := cp, carryInc := ci,
                                         refInc := ri, refPos := rp, refAge := ra } := by
  obtain ⟨cp, ci, hf⟩ := s.formPos_eq c
  unfold State.positionIn SafCh.firstPos
  dsimp only
  rw [hf]
  split <;> split
  · exact ⟨_, _, _, _, _, _, _, _, _, rfl⟩
  · exact ⟨_, _, _, _, _, _, c.refInc, c.refPos, c.refAge, rfl⟩
  · exact ⟨_, _, _, _, c.carryPos, c.carryInc, _, _, _, rfl⟩
  · exact ⟨c.pS, c.p1, c.vS, _, c.carryPos, c.carryInc, c.refInc, c.refPos, c.refAge, rfl⟩

/-- What follows the position: standstill, extents, counts and the doors. -/
theorem State.sampled_eq (s : State) (c : SafCh) (si : Nat) (inc : Int) (latch : Option Int) (fa fb : Option SsiFrame) :
    ∃ still ri rp ra hi lo sf9 clear base unlocked, s.sampled c si inc latch fa fb =
      { s.positionIn (fa.isSome || fb.isSome) (!c.a.seen && !c.b.seen) (s.samplesIn c si inc latch fa fb) with
        still := still, refInc := ri, refPos := rp, refAge := ra, hi := hi, lo := lo, sf9 := sf9, sf9Clear := clear,
        sf8Base := base, unlocked := unlocked } := by
  unfold State.sampled
  extract_lets double took blind c0 c1 c2 c3 c4 conds c5
  obtain ⟨still, ri, rp, ra, h3⟩ := s.safStill_eq c2
  obtain ⟨u, h5⟩ := s.safUnlock_eq c5
  rw [h5]
  have hc5 : ∃ hi lo sf9 clear base, c5 = { c3 with hi := hi, lo := lo, sf9 := sf9, sf9Clear := clear, sf8Base := base } :=
    ⟨_, _, _, _, _, rfl⟩
  obtain ⟨hi, lo, sf9, clear, base, hc5⟩ := hc5
  have hc3 : c3 = { c2 with still := still, refInc := ri, refPos := rp, refAge := ra } := h3
  rw [hc5, hc3]
  exact ⟨still, ri, rp, ra, hi, lo, sf9, clear, base, u, rfl⟩

/-- Without a frame a channel that formed its last position keeps it. -/
theorem State.positionIn_of_none (s : State) {c : SafCh} {took blind : Bool} (ht : took = false) (hf : c.formed = true)
    (hb : blind = true → c.a.seen = false ∧ c.b.seen = false) : s.positionIn took blind c = { c with formed := false } := by
  have hseen : (blind && (c.a.seen || c.b.seen)) = false := by
    cases blind with
    | false => rfl
    | true =>
      obtain ⟨ha, hb⟩ := hb rfl
      rw [ha, hb]
      rfl
  unfold State.positionIn
  extract_lets c1
  have h1 : c1 = { c with formed := false } := if_neg (by simp [ht, hf])
  rw [h1]
  exact if_neg (Bool.eq_false_iff.mp hseen)

/-- With a valid frame of PSA alone the channel takes its position. -/
theorem State.positionIn_of_a (s : State) {c : SafCh} {blind : Bool} (ha : c.a.valid = true) (hs : c.a.seen = true) (hb : c.b.valid = false) :
    (s.positionIn true blind c).pS = c.a.pos ∧ (s.positionIn true blind c).formed = true ∧
      (s.positionIn true blind c).vS = if blind = true then 0 else (c.a.pos - c.p1) * 1000 := by
  have hpos : s.safPos c = c.a.pos := by
    unfold State.safPos
    rw [if_neg (by rw [hb]; exact fun h => Bool.noConfusion h.2), if_pos ha]
  obtain ⟨cp, ci, hf⟩ := s.formPos_eq c
  rw [hpos] at hf
  unfold State.positionIn SafCh.firstPos
  extract_lets c1
  have h1 : c1 = _ := (if_pos (.inl rfl)).trans hf
  rw [h1]
  dsimp only
  rw [hs, Bool.true_or, Bool.and_true]
  cases blind <;> exact ⟨rfl, rfl, rfl⟩

/-- A function of the sample task trips where its count has qualified. -/
def State.tripIf (isA : Bool) (s : State) (i : Nat) : State :=
  let c := s.chan isA
  if qualNeed.getD i 1 ≤ c.qual.getD i 0 then s.safTrip isA i c.vS else s

theorem State.tripIf_tripping (isA : Bool) (s : State) (i : Nat) : State.Tripping isA s (s.tripIf isA i) := by
  unfold State.tripIf
  dsimp only
  split
  · exact s.safTrip_tripping isA i _
  · exact .refl isA s

theorem State.foldl_tripIf_tripping (isA : Bool) (l : List Nat) (s : State) : State.Tripping isA s (l.foldl (State.tripIf isA) s) := by
  induction l generalizing s with
  | nil => exact .refl isA s
  | cons i l ih => exact (s.tripIf_tripping isA i).trans (ih _)

theorem State.Tripping.qual {isA : Bool} {s t : State} (h : State.Tripping isA s t) : (t.chan isA).qual = (s.chan isA).qual := by
  obtain ⟨_, _, _, _, ho⟩ := h.own
  rw [ho]

/-- A function whose count has qualified opens the channel's switches. -/
theorem State.foldl_tripIf_tripped {isA : Bool} {l : List Nat} {s : State} {i : Nat} (hi : i ∈ l)
    (hq : qualNeed.getD i 1 ≤ (s.chan isA).qual.getD i 0) :
    ((l.foldl (State.tripIf isA) s).chan isA).own.testBit i = true ∧ ((l.foldl (State.tripIf isA) s).chan isA).sw = 0 := by
  induction l generalizing s with
  | nil => exact absurd hi List.not_mem_nil
  | cons j l ih =>
    by_cases hj : i ∈ l
    · exact ih hj (by rw [(s.tripIf_tripping isA j).qual]; exact hq)
    · obtain rfl : i = j := (List.mem_cons.mp hi).resolve_right hj
      have ht : s.tripIf isA i = s.safTrip isA i (s.chan isA).vS := if_pos hq
      obtain ⟨hown, hsw⟩ := s.safTrip_tripped isA i (s.chan isA).vS
      have hrest := State.foldl_tripIf_tripping isA l (s.tripIf isA i)
      rw [← ht] at hown hsw
      exact ⟨hrest.causes i hown, hrest.opened hsw⟩

/-- The channel after its samples and its counts. -/
def State.counted (s : State) (isA : Bool) (sc : Bool) (si : Nat) (inc : Int) (latch : Option Int) (fa fb : Option SsiFrame) : State :=
  let s := s.modChan isA fun c => s.sampled { c with incBad := sc } si inc latch fa fb
  s.modChan isA fun c => { c with qual := s.safQual c }

theorem exec_sampleTask {s : State} {ch si : Nat} {inc : Int} {latch : Option Int} {fa fb : Option SsiFrame} {sc : Bool} (hch : ch < 2)
    (hr : s.saf.running = true) : exec (.sampleTask ch si inc latch fa fb sc) s =
      .next ([0, 1, 2, 3, 5, 6, 7].foldl (State.tripIf (ch == 0)) (s.counted (ch == 0) sc si inc latch fa fb)) :=
  occurs_pos (by simp [isWick_of_lt hch, hr])

/-- The channel counts with the parameters and outputs that were. -/
theorem State.counted_chan (s : State) (isA sc : Bool) (si : Nat) (inc : Int) (latch : Option Int) (fa fb : Option SsiFrame) :
    ∃ u : State, u.par = s.par ∧ (s.counted isA sc si inc latch fa fb).chan isA =
      { s.sampled { s.chan isA with incBad := sc } si inc latch fa fb with
        qual := u.safQual (s.sampled { s.chan isA with incBad := sc } si inc latch fa fb) } := by
  refine ⟨s.modChan isA fun c => s.sampled { c with incBad := sc } si inc latch fa fb, funext fun i => State.par_congr (by simp) i, ?_⟩
  unfold State.counted
  dsimp only
  rw [State.chan_modChan_self, State.chan_modChan_self]

/-- What a sample task reads and keeps. -/
structure SafCh.Sampled (c d : SafCh) (si : Nat) (inc : Int) (sc : Bool) : Prop where
  raw : d.raw = si % 2 ^ 16
  inc : d.inc = inc
  incBad : d.incBad = sc
  flt : d.flt = c.flt
  agree : d.agree = countAgree c.flt si 0 c.agree

theorem State.sampled_sampled (s : State) (c : SafCh) (sc : Bool) (si : Nat) (inc : Int) (latch : Option Int) (fa fb : Option SsiFrame) :
    c.Sampled (s.sampled { c with incBad := sc } si inc latch fa fb) si inc sc := by
  obtain ⟨_, _, _, _, _, _, _, _, _, _, hs⟩ := s.sampled_eq { c with incBad := sc } si inc latch fa fb
  obtain ⟨_, _, _, _, _, _, _, _, _, hp⟩ := s.positionIn_eq (fa.isSome || fb.isSome) (!c.a.seen && !c.b.seen)
    (s.samplesIn { c with incBad := sc } si inc latch fa fb)
  rw [hs, hp]
  exact ⟨rfl, rfl, rfl, rfl, rfl⟩

theorem State.sampled_position (s : State) (c : SafCh) (si : Nat) (inc : Int) (latch : Option Int) (fa fb : Option SsiFrame) :
    (s.sampled c si inc latch fa fb).pS =
      (s.positionIn (fa.isSome || fb.isSome) (!c.a.seen && !c.b.seen) (s.samplesIn c si inc latch fa fb)).pS ∧
    (s.sampled c si inc latch fa fb).vS =
      (s.positionIn (fa.isSome || fb.isSome) (!c.a.seen && !c.b.seen) (s.samplesIn c si inc latch fa fb)).vS ∧
    (s.sampled c si inc latch fa fb).formed =
      (s.positionIn (fa.isSome || fb.isSome) (!c.a.seen && !c.b.seen) (s.samplesIn c si inc latch fa fb)).formed ∧
    (s.sampled c si inc latch fa fb).qual = c.qual := by
  obtain ⟨_, _, _, _, _, _, _, _, _, _, hs⟩ := s.sampled_eq c si inc latch fa fb
  obtain ⟨_, _, _, _, _, _, _, _, _, hp⟩ := s.positionIn_eq (fa.isSome || fb.isSome) (!c.a.seen && !c.b.seen)
    (s.samplesIn c si inc latch fa fb)
  rw [hs]
  refine ⟨rfl, rfl, rfl, ?_⟩
  rw [hp]
  rfl

/-- Without frames a position that was formed is kept. -/
theorem State.sampled_of_none (s : State) {c : SafCh} (si : Nat) (inc : Int) (latch : Option Int) (hf : c.formed = true) :
    (s.sampled c si inc latch none none).pS = c.pS ∧ (s.sampled c si inc latch none none).vS = c.vS := by
  obtain ⟨hp, hv, -⟩ := s.sampled_position c si inc latch none none
  have hn := s.positionIn_of_none (c := s.samplesIn c si inc latch none none) (took := false) (blind := !c.a.seen && !c.b.seen) rfl hf
    fun h => show c.a.seen = false ∧ c.b.seen = false by simpa using h
  rw [hp, hv]
  exact ⟨(congrArg SafCh.pS hn).trans rfl, (congrArg SafCh.vS hn).trans rfl⟩

/-- A valid frame of PSA where PSB is not valid. -/
theorem State.sampled_of_a (s : State) {c : SafCh} (si : Nat) (inc : Int) (latch : Option Int) {f : SsiFrame} (hb : c.b.valid = false)
    (hok : safFrameOk (s.par Idx.HST_SSIMODE == 1) c c.a (framePos (s.parBit Idx.SAF_PSDIR 0) (s.par Idx.SAF_PSAOFS) f.raw) f = true) :
    (s.sampled c si inc latch (some f) none).pS = framePos (s.parBit Idx.SAF_PSDIR 0) (s.par Idx.SAF_PSAOFS) f.raw ∧
      (s.sampled c si inc latch (some f) none).vS =
        (if c.a.seen = true ∨ c.b.seen = true then ((s.sampled c si inc latch (some f) none).pS - c.p1) * 1000 else 0) ∧
      (s.sampled c si inc latch (some f) none).formed = true := by
  obtain ⟨hp, hv, hform, -⟩ := s.sampled_position c si inc latch (some f) none
  have ha : (s.samplesIn c si inc latch (some f) none).a =
      { raw := f.raw, pos := framePos (s.parBit Idx.SAF_PSDIR 0) (s.par Idx.SAF_PSAOFS) f.raw, valid := true, seen := true, missing := 0 } :=
    if_pos hok
  obtain ⟨hpos, hformed, hspeed⟩ := s.positionIn_of_a (c := s.samplesIn c si inc latch (some f) none) (blind := !c.a.seen && !c.b.seen)
    (by rw [ha]) (by rw [ha]) hb
  rw [ha] at hpos hspeed
  refine ⟨hp.trans hpos, ?_, hform.trans hformed⟩
  rw [hv, hp, show s.positionIn ((some f).isSome || (none : Option SsiFrame).isSome) = s.positionIn true from rfl, hpos, hspeed]
  rcases c.a.seen <;> rcases c.b.seen <;> rfl

theorem execSampleTask_facts {s : State} {ch si : Nat} {inc : Int} {latch : Option Int} {fa fb : Option SsiFrame} {sc : Bool} (hch : ch < 2)
    (hr : s.saf.running = true) :
    ∃ t u : State, exec (.sampleTask ch si inc latch fa fb sc) s = .next t ∧ u.par = s.par ∧
      t = [0, 1, 2, 3, 5, 6, 7].foldl (State.tripIf (ch == 0)) (s.counted (ch == 0) sc si inc latch fa fb) ∧
      (∃ own active sw grants, t.chan (ch == 0) = { s.sampled { s.chan (ch == 0) with incBad := sc } si inc latch fa fb with
        qual := u.safQual (s.sampled { s.chan (ch == 0) with incBad := sc } si inc latch fa fb),
        own := own, active := active, sw := sw, grants := grants }) ∧
      ((s.counted (ch == 0) sc si inc latch fa fb).chan (ch == 0)).qual =
        u.safQual (s.sampled { s.chan (ch == 0) with incBad := sc } si inc latch fa fb) ∧
      t.chan (!(ch == 0)) = s.chan (!(ch == 0)) ∧ s.EventsOnly t tripPars ∧
      t = { s with dir := t.dir, pwr.state := t.pwr.state, hst := t.hst, cle.slots := t.cle.slots, saf := t.saf, tph := t.tph } := by
  have htrip := State.foldl_tripIf_tripping (ch == 0) [0, 1, 2, 3, 5, 6, 7] (s.counted (ch == 0) sc si inc latch fa fb)
  obtain ⟨u, hu, hchan⟩ := s.counted_chan (ch == 0) sc si inc latch fa fb
  obtain ⟨a1, b1, h1⟩ := s.modChan_eq (ch == 0) fun c => s.sampled { c with incBad := sc } si inc latch fa fb
  obtain ⟨a2, b2, h2⟩ := (s.modChan (ch == 0) fun c => s.sampled { c with incBad := sc } si inc latch fa fb).modChan_eq (ch == 0) fun c =>
    { c with qual := (s.modChan (ch == 0) fun c => s.sampled { c with incBad := sc } si inc latch fa fb).safQual c }
  have hcounted : s.counted (ch == 0) sc si inc latch fa fb = { s with saf.chA := a2, saf.chB := b2 } := by
    unfold State.counted
    dsimp only
    rw [h2, h1]
  have hother : (s.counted (ch == 0) sc si inc latch fa fb).chan (!(ch == 0)) = s.chan (!(ch == 0)) :=
    (State.chan_modChan_other _ _ _).trans (State.chan_modChan_other _ _ _)
  refine ⟨_, u, exec_sampleTask hch hr, hu, rfl, ?_, ?_, htrip.other.trans hother, ?_, ?_⟩
  · obtain ⟨own, active, sw, grants, h⟩ := htrip.own
    rw [hchan] at h
    exact ⟨own, active, sw, grants, h⟩
  · rw [hchan]
  · refine (State.EventsOnly.of_eq _ ?_ ?_).trans htrip.events
    · rw [hcounted]
    · rw [hcounted]
  · obtain ⟨_, _, _, _, _, _, h⟩ := htrip.frame
    rw [h, hcounted]

/-- Above the overspeed limit a second time the channel counts to its need. -/
theorem State.safQual_of_overspeed {u : State} {c : SafCh} (hf : c.formed = true)
    (hv : u.parN Idx.SAF_VRATED * u.parN Idx.SAF_VOSPCT < mag c.vS * 1000) (hq : 1 ≤ c.qual.getD 2 0) :
    qualNeed.getD 2 1 ≤ (u.safQual c).getD 2 0 := by
  have h3 : u.sf3Cond c = true := decide_eq_true hv
  show 2 ≤ (if c.formed then countUp (u.sf3Cond c) (c.qual.getD 2 0) else c.qual.getD 2 0)
  rw [hf, h3, if_pos rfl]
  show 2 ≤ c.qual.getD 2 0 + 1
  omega

theorem execSampleTask_of_running {s : State} {ch si : Nat} {inc : Int} {latch : Option Int} {fa fb : Option SsiFrame} {sc : Bool}
    (hch : ch < 2) (hr : s.saf.running = true) :
    ∃ t, exec (.sampleTask ch si inc latch fa fb sc) s = .next t ∧
      (t.chan (ch == 0)).raw = si % 2 ^ 16 ∧ (t.chan (ch == 0)).inc = inc ∧ (t.chan (ch == 0)).incBad = sc ∧
      (t.chan (ch == 0)).flt = (s.chan (ch == 0)).flt ∧
      (t.chan (ch == 0)).agree = countAgree (s.chan (ch == 0)).flt si 0 (s.chan (ch == 0)).agree ∧
      (fa = none → fb = none → (s.chan (ch == 0)).formed = true →
        (t.chan (ch == 0)).pS = (s.chan (ch == 0)).pS ∧ (t.chan (ch == 0)).vS = (s.chan (ch == 0)).vS) ∧
      (∀ f, fa = some f → fb = none → (s.chan (ch == 0)).b.valid = false →
        safFrameOk (s.par Idx.HST_SSIMODE == 1) (s.chan (ch == 0)) (s.chan (ch == 0)).a
          (framePos (s.parBit Idx.SAF_PSDIR 0) (s.par Idx.SAF_PSAOFS) f.raw) f = true →
        (t.chan (ch == 0)).pS = framePos (s.parBit Idx.SAF_PSDIR 0) (s.par Idx.SAF_PSAOFS) f.raw ∧
        (t.chan (ch == 0)).vS = (if (s.chan (ch == 0)).a.seen = true ∨ (s.chan (ch == 0)).b.seen = true
          then ((t.chan (ch == 0)).pS - (s.chan (ch == 0)).p1) * 1000 else 0) ∧
        (s.parN Idx.SAF_VRATED * s.parN Idx.SAF_VOSPCT < mag (t.chan (ch == 0)).vS * 1000 →
          1 ≤ (s.chan (ch == 0)).qual.getD 2 0 → (t.chan (ch == 0)).own.testBit 2 = true ∧ (t.chan (ch == 0)).sw = 0)) ∧
      t.chan (!(ch == 0)) = s.chan (!(ch == 0)) ∧
      s.EventsOnly t [Idx.SAF_LASTTRIP, Idx.SAF_TRIPCOUNT, Idx.HST_LEARNSTAT, Idx.HST_LEARNCAUSE] ∧
      t = { s with dir := t.dir, pwr.state := t.pwr.state, hst := t.hst, cle.slots := t.cle.slots, saf := t.saf, tph := t.tph } := by
  obtain ⟨t, u, ht, hu, hfold, ⟨own, active, sw, grants, hchan⟩, hqual, hother, hev, hframe⟩ :=
    execSampleTask_facts (si := si) (inc := inc) (latch := latch) (fa := fa) (fb := fb) (sc := sc) hch hr
  obtain ⟨hraw, hinc, hbad, hflt, hagree⟩ := s.sampled_sampled (s.chan (ch == 0)) sc si inc latch fa fb
  obtain ⟨-, -, -, hq⟩ := s.sampled_position { s.chan (ch == 0) with incBad := sc } si inc latch fa fb
  have hpS : (t.chan (ch == 0)).pS = (s.sampled { s.chan (ch == 0) with incBad := sc } si inc latch fa fb).pS := by rw [hchan]
  have hvS : (t.chan (ch == 0)).vS = (s.sampled { s.chan (ch == 0) with incBad := sc } si inc latch fa fb).vS := by rw [hchan]
  refine ⟨t, ht, ?_, ?_, ?_, ?_, ?_, ?_, ?_, hother, hev, hframe⟩
  · rw [hchan]; exact hraw
  · rw [hchan]; exact hinc
  · rw [hchan]; exact hbad
  · rw [hchan]; exact hflt
  · rw [hchan]; exact hagree
  · rintro rfl rfl hformed
    obtain ⟨hp, hv⟩ := s.sampled_of_none (c := { s.chan (ch == 0) with incBad := sc }) si inc latch hformed
    exact ⟨hpS.trans hp, hvS.trans hv⟩
  · rintro f rfl rfl hb hok
    obtain ⟨hp, hv, hformed⟩ := s.sampled_of_a (c := { s.chan (ch == 0) with incBad := sc }) si inc latch hb hok
    rw [hpS, hvS]
    refine ⟨hp, hv, fun hfast hone => ?_⟩
    have hneed := State.safQual_of_overspeed (u := u) hformed
      (by rw [State.parN, State.parN, hu]; exact hfast) (by rw [hq]; exact hone)
    rw [hfold]
    exact State.foldl_tripIf_tripped (by simp) (by rw [hqual]; exact hneed)

/-! ## A filtered input, and the mode (12 R305) -/

theorem State.modeOf_congr {s t : State} (h : t.par = s.par) (flt : Nat) : t.modeOf flt = s.modeOf flt := by
  unfold State.modeOf State.siActive State.siAssigned State.siEvery State.siOf
  rw [h]

/-- An output is open where one of its two switches is. -/
theorem State.soClosed_of_open {s : State} {isA : Bool} {k : Nat} (h : (s.chan isA).sw.testBit k = false) : s.soClosed k = false := by
  unfold State.soClosed
  cases isA
  · rw [show s.saf.chB.sw.testBit k = false from h, Bool.and_false]
  · rw [show s.saf.chA.sw.testBit k = false from h, Bool.false_and]

/-- A changed mode: the switches of a run open, recorded, and a run that had begun is dropped. -/
def State.modeOpens (s : State) (isA : Bool) (m : Nat) : State :=
  let c := s.chan isA
  let s := (s.modChan isA fun c => { c with mode := m }).modChan isA fun c =>
    { c with sw := setBit (setBit (setBit c.sw 0 false) 1 false) 2 false }
  let s := s.raise 0x0915 1 0xFF [(1, c.mode), (1, m)]
  if s.hst.runReq && !s.hst.released && s.hst.st != .reversalDwell then s else s.dropRun (if m = 0 then .idle else .inspection)

theorem State.safMode_eq (s : State) (isA : Bool) : s.safMode isA =
    if s.modeOf (s.chan isA).flt = (s.chan isA).mode then s
    else if s.soClosed 2 then s.modeOpens isA (s.modeOf (s.chan isA).flt)
    else s.modChan isA fun c => { c with mode := s.modeOf (s.chan isA).flt } := rfl

theorem State.modeOpens_facts (s : State) (isA : Bool) (m : Nat) :
    (s.modeOpens isA m).chan isA =
        { s.chan isA with mode := m, sw := setBit (setBit (setBit (s.chan isA).sw 0 false) 1 false) 2 false } ∧
      (s.modeOpens isA m).chan (!isA) = s.chan (!isA) ∧ s.Records (s.modeOpens isA m) 0x0915 1 0xFF ∧
      (s.hst.runReq = true → s.hst.released = false → s.hst.st ≠ .reversalDwell → (s.modeOpens isA m).hst = s.hst) ∧
      (s.hst.runReq = false ∨ s.hst.released = true ∨ s.hst.st = .reversalDwell →
        (s.modeOpens isA m).hst.runReq = false ∧ (s.modeOpens isA m).hst.enable = false ∧ (s.modeOpens isA m).hst.target = none) ∧
      s.EventsOnly (s.modeOpens isA m) [Idx.HST_LEARNSTAT, Idx.HST_LEARNCAUSE] ∧
      ∃ dir hst slots saf tph, s.modeOpens isA m = { s with dir := dir, hst := hst, cle.slots := slots, saf := saf, tph := tph } := by
  have hself := s.chan_modChan_self isA fun c => { c with mode := m, sw := setBit (setBit (setBit c.sw 0 false) 1 false) 2 false }
  have hother := s.chan_modChan_other isA fun c => { c with mode := m, sw := setBit (setBit (setBit c.sw 0 false) 1 false) 2 false }
  obtain ⟨a, b, h1⟩ := s.modChan_eq isA fun c => { c with mode := m, sw := setBit (setBit (setBit c.sw 0 false) 1 false) 2 false }
  rw [h1] at hself hother
  have hrec := State.records_raise { s with saf.chA := a, saf.chB := b } 0x0915 1 0xFF [(1, (s.chan isA).mode), (1, m)]
  have hev := (State.EventsOnly.refl { s with saf.chA := a, saf.chB := b } [Idx.HST_LEARNSTAT, Idx.HST_LEARNCAUSE]).raise 0x0915 1 0xFF
    [(1, (s.chan isA).mode), (1, m)]
  obtain ⟨dir, tph, h2, -⟩ := State.raise_eq { s with saf.chA := a, saf.chB := b } 0x0915 1 0xFF [(1, (s.chan isA).mode), (1, m)]
  have hopen : s.modeOpens isA m = if s.hst.runReq && !s.hst.released && s.hst.st != .reversalDwell then
      State.raise { s with saf.chA := a, saf.chB := b } 0x0915 1 0xFF [(1, (s.chan isA).mode), (1, m)]
      else (State.raise { s with saf.chA := a, saf.chB := b } 0x0915 1 0xFF [(1, (s.chan isA).mode), (1, m)]).dropRun
        (if m = 0 then .idle else .inspection) := by
    unfold State.modeOpens
    dsimp only
    rw [State.modChan_modChan, h1, h2]
  by_cases hc : (s.hst.runReq && !s.hst.released && s.hst.st != .reversalDwell) = true
  · have hstart : s.hst.runReq = true ∧ s.hst.released = false ∧ s.hst.st ≠ .reversalDwell := by simpa [and_assoc] using hc
    rw [if_pos hc] at hopen
    rw [hopen]
    rw [h2] at hrec hev ⊢
    refine ⟨hself, hother, fun h => hrec h, fun _ _ _ => rfl, fun h => ?_, hev, ⟨_, _, _, _, _, rfl⟩⟩
    obtain ⟨hr, hre, hst⟩ := hstart
    rcases h with h | h | h
    · rw [hr] at h; exact Bool.noConfusion h
    · rw [hre] at h; exact Bool.noConfusion h
    · exact absurd h hst
  · rw [if_neg hc] at hopen
    have hdrop := (State.raise { s with saf.chA := a, saf.chB := b } 0x0915 1 0xFF [(1, (s.chan isA).mode), (1, m)]).dropRun_eventsOnly
      (if m = 0 then .idle else .inspection)
    obtain ⟨hst, d2, t2, slots, hdeq, -, hd⟩ :=
      (State.raise { s with saf.chA := a, saf.chB := b } 0x0915 1 0xFF [(1, (s.chan isA).mode), (1, m)]).dropRun_eq
        (if m = 0 then .idle else .inspection)
    have hrec2 := hrec.mono hdrop.2.2.2
    have hev2 := hev.trans hdrop
    rw [hopen]
    rw [hdeq, h2] at hrec2 hev2 ⊢
    refine ⟨hself, hother, fun h => hrec2 h, fun h1 h2 h3 => absurd (by simp [h1, h2, h3]) hc, fun _ => ⟨hd.runReq, hd.enable, hd.target⟩,
      hev2, ⟨_, _, _, _, _, rfl⟩⟩

theorem State.resetPair_eq (s : State) : ∃ eq rel bl pr,
    s.resetPair = { s with saf.equalAt := eq, saf.releasedAt := rel, saf.resetBlocked := bl, saf.pressAt := pr } := by
  unfold State.resetPair
  dsimp only
  split
  · exact ⟨_, _, _, _, rfl⟩
  · split
    · exact ⟨_, _, _, _, rfl⟩
    · split
      · exact ⟨_, _, s.saf.resetBlocked, s.saf.pressAt, rfl⟩
      · exact ⟨_, _, _, s.saf.pressAt, rfl⟩

/-- A channel with a filtered input changed. -/
def State.inputChanged (s : State) (n : Nat) (c : SafCh) : SafCh :=
  s.safUnlock { c with flt := setBit c.flt n (!c.flt.testBit n), agree := c.agree.set n 0 }

theorem State.safMode_facts (s : State) (isA : Bool) :
    (∃ sw, (s.safMode isA).chan isA = { s.chan isA with mode := s.modeOf (s.chan isA).flt, sw := sw }) ∧
      (s.modeOf (s.chan isA).flt ≠ (s.chan isA).mode → s.soClosed 2 = true →
        (∀ k < 3, (s.safMode isA).soClosed k = false) ∧ s.Records (s.safMode isA) 0x0915 1 0xFF ∧
        (s.hst.runReq = true → s.hst.released = false → s.hst.st ≠ .reversalDwell → (s.safMode isA).hst = s.hst) ∧
        (s.hst.runReq = false ∨ s.hst.released = true ∨ s.hst.st = .reversalDwell →
          (s.safMode isA).hst.runReq = false ∧ (s.safMode isA).hst.enable = false ∧ (s.safMode isA).hst.target = none)) ∧
      (s.modeOf (s.chan isA).flt = (s.chan isA).mode → s.safMode isA = s) ∧
      (s.safMode isA).chan (!isA) = s.chan (!isA) ∧ s.EventsOnly (s.safMode isA) [Idx.HST_LEARNSTAT, Idx.HST_LEARNCAUSE] ∧
      ∃ dir hst slots saf tph, s.safMode isA = { s with dir := dir, hst := hst, cle.slots := slots, saf := saf, tph := tph } := by
  have heq := s.safMode_eq isA
  by_cases hm : s.modeOf (s.chan isA).flt = (s.chan isA).mode
  · rw [if_pos hm] at heq
    rw [heq]
    refine ⟨⟨(s.chan isA).sw, by rw [hm]⟩, fun h => absurd hm h, fun _ => rfl, rfl, .refl s _, ⟨_, _, _, s.saf, _, rfl⟩⟩
  · rw [if_neg hm] at heq
    by_cases hc : s.soClosed 2 = true
    · rw [if_pos hc] at heq
      obtain ⟨hself, hother, hrec, hstart, hdrop, hev, hframe⟩ := s.modeOpens_facts isA (s.modeOf (s.chan isA).flt)
      rw [heq]
      refine ⟨⟨_, hself⟩, fun _ _ => ⟨fun k hk => ?_, hrec, hstart, hdrop⟩, fun h => absurd h hm, hother, hev, hframe⟩
      refine State.soClosed_of_open (isA := isA) ?_
      rw [hself]
      show (setBit (setBit (setBit (s.chan isA).sw 0 false) 1 false) 2 false).testBit k = false
      rw [testBit_setBit, testBit_setBit, testBit_setBit]
      split
      · rfl
      · split
        · rfl
        · rw [if_pos (by omega)]
    · rw [if_neg hc] at heq
      rw [heq]
      refine ⟨⟨(s.chan isA).sw, s.chan_modChan_self isA _⟩, fun _ h => absurd h hc, fun h => absurd h hm, s.chan_modChan_other isA _,
        .of_eq _ (by simp) (by simp), ?_⟩
      obtain ⟨a, b, h⟩ := s.modChan_eq isA fun c => { c with mode := s.modeOf (s.chan isA).flt }
      exact ⟨_, _, _, _, _, h⟩

theorem State.inputChanged_eq (s : State) (n : Nat) (c : SafCh) : ∃ u,
    s.inputChanged n c = { c with flt := setBit c.flt n (!c.flt.testBit n), agree := c.agree.set n 0, unlocked := u } := by
  obtain ⟨u, h⟩ := s.safUnlock_eq { c with flt := setBit c.flt n (!c.flt.testBit n), agree := c.agree.set n 0 }
  exact ⟨u, h⟩

/-- The channel with its input changed, before its mode follows. -/
theorem exec_safetyInputChange {s : State} {ch n : Nat} (hch : ch < 2) (hn : n < 16) (hr : s.saf.running = true)
    (ha : (if n < 14 then s.parN (Idx.SAF_SIFILTn n) else 4) ≤ (s.chan (ch == 0)).agree.getD n 0) :
    ∃ c u, exec (.safetyInputChange ch n) s =
        .next (if ch == 0 && decide (14 ≤ n) then ((s.modChan (ch == 0) fun _ => c).safMode (ch == 0)).resetPair
          else (s.modChan (ch == 0) fun _ => c).safMode (ch == 0)) ∧
      c = { s.chan (ch == 0) with flt := setBit (s.chan (ch == 0)).flt n (!(s.chan (ch == 0)).flt.testBit n),
                                  agree := (s.chan (ch == 0)).agree.set n 0, unlocked := u } := by
  obtain ⟨u, hu⟩ := (s.modChan (ch == 0) fun c =>
    { c with flt := setBit c.flt n (!c.flt.testBit n), agree := c.agree.set n 0 }).inputChanged_eq n (s.chan (ch == 0))
  refine ⟨_, u, (occurs_pos (by simp [isWick_of_lt hch, hn, hr]; exact ha)).trans ?_, hu⟩
  dsimp only
  rw [State.modChan_modChan]
  cases ch == 0 <;> rfl

theorem execSafetyInputChange_of_agreed {s : State} {ch n : Nat} (hch : ch < 2) (hn : n < 16) (hr : s.saf.running = true)
    (ha : (if n < 14 then s.parN (Idx.SAF_SIFILTn n) else 4) ≤ (s.chan (ch == 0)).agree.getD n 0) :
    ∃ t, exec (.safetyInputChange ch n) s = .next t ∧
      (t.chan (ch == 0)).flt = setBit (s.chan (ch == 0)).flt n (!(s.chan (ch == 0)).flt.testBit n) ∧
      (t.chan (ch == 0)).agree = (s.chan (ch == 0)).agree.set n 0 ∧
      (t.chan (ch == 0)).mode = s.modeOf (t.chan (ch == 0)).flt ∧
      ((t.chan (ch == 0)).mode ≠ (s.chan (ch == 0)).mode → s.soClosed 2 = true →
        t.soClosed 0 = false ∧ t.soClosed 1 = false ∧ t.soClosed 2 = false ∧ s.Records t 0x0915 1 0xFF ∧
        (s.hst.runReq = true → s.hst.released = false → s.hst.st ≠ .reversalDwell → t.hst = s.hst) ∧
        (s.hst.runReq = false ∨ s.hst.released = true ∨ s.hst.st = .reversalDwell →
          t.hst.runReq = false ∧ t.hst.enable = false ∧ t.hst.target = none)) ∧
      ((t.chan (ch == 0)).mode = (s.chan (ch == 0)).mode → (t.chan (ch == 0)).sw = (s.chan (ch == 0)).sw ∧ t.hst = s.hst) ∧
      t.chan (!(ch == 0)) = s.chan (!(ch == 0)) ∧ s.EventsOnly t [Idx.HST_LEARNSTAT, Idx.HST_LEARNCAUSE] ∧
      t = { s with dir := t.dir, hst := t.hst, cle.slots := t.cle.slots, saf := t.saf, tph := t.tph } := by
  obtain ⟨c, u, hex, hc⟩ := exec_safetyInputChange hch hn hr ha
  generalize (ch == 0) = isA at hex hc ⊢
  have hself := s.chan_modChan_self isA fun _ => c
  have hother := s.chan_modChan_other isA fun _ => c
  obtain ⟨a, b, hm⟩ := s.modChan_eq isA fun _ => c
  rw [hm] at hex hself hother
  have hclosed : State.soClosed { s with saf.chA := a, saf.chB := b } 2 = s.soClosed 2 := by
    have hsw (k : Bool) : (State.chan { s with saf.chA := a, saf.chB := b } k).sw = (s.chan k).sw := by
      by_cases hk : k = isA
      · rw [hk, hself, hc]
      · rw [Bool.eq_not.mpr hk, hother]
    have ha := hsw true
    have hb := hsw false
    unfold State.soClosed
    rw [show a.sw = s.saf.chA.sw from ha, show b.sw = s.saf.chB.sw from hb]
  obtain ⟨⟨sw, hchan⟩, hopen, hsame, hoth, hev, dir, hst, slots, saf, tph, hframe⟩ :=
    State.safMode_facts { s with saf.chA := a, saf.chB := b } isA
  rw [hclosed] at hopen
  generalize hv : State.safMode { s with saf.chA := a, saf.chB := b } isA = v at hex hchan hopen hsame hoth hev hframe
  have hmode : State.modeOf { s with saf.chA := a, saf.chB := b } (State.chan { s with saf.chA := a, saf.chB := b } isA).flt =
      s.modeOf (v.chan isA).flt := by
    rw [hchan]
    exact State.modeOf_congr rfl _
  rw [hself] at hchan hopen hsame hmode
  have hmc : c.mode = (s.chan isA).mode := by rw [hc]
  rw [hmc] at hopen hsame
  have hvmode : (v.chan isA).mode = State.modeOf { s with saf.chA := a, saf.chB := b } c.flt := by rw [hchan]
  obtain ⟨t, hext, htchan, hthst, htdir, httph, saf', htframe⟩ : ∃ t, exec (.safetyInputChange ch n) s = .next t ∧
      (∀ k, t.chan k = v.chan k) ∧ t.hst = v.hst ∧ t.dir = v.dir ∧ t.tph = v.tph ∧ ∃ saf, t = { v with saf := saf } := by
    refine ⟨_, hex, ?_⟩
    split
    · obtain ⟨eq, rel, bl, pr, h⟩ := v.resetPair_eq
      rw [h]
      exact ⟨fun k => State.chan_congr rfl rfl k, rfl, rfl, rfl, _, rfl⟩
    · exact ⟨fun _ => rfl, rfl, rfl, rfl, v.saf, rfl⟩
  have hso (k : Nat) : t.soClosed k = v.soClosed k := by
    have h1 := htchan true
    have h2 := htchan false
    unfold State.soClosed
    rw [show t.saf.chA = v.saf.chA from h1, show t.saf.chB = v.saf.chB from h2]
  refine ⟨t, hext, ?_, ?_, ?_, fun hne hcl => ?_, fun heq => ?_, ?_, hev.congr htdir httph, ?_⟩
  · rw [htchan, hchan, hc]
  · rw [htchan, hchan, hc]
  · rw [htchan, hvmode, hmode]
  · rw [htchan, hvmode] at hne
    obtain ⟨hk, hrec, hstart, hdrop⟩ := hopen hne hcl
    rw [hso, hso, hso, hthst]
    exact ⟨hk 0 (by decide), hk 1 (by decide), hk 2 (by decide), fun h => (hrec.mono (by rw [httph])) h, hstart, hdrop⟩
  · rw [htchan, hvmode] at heq
    have hvs := hsame heq
    rw [htchan, hthst, hvs, hself, hc]
    exact ⟨rfl, rfl⟩
  · rw [htchan, hoth, hother]
  · rw [htframe, hframe]

/-- Settles O29: what a sample task forms, followed through the functions it may trip. -/
theorem safetySamplesAndFilters : Obligations.SafetySamplesAndFilters := by
  refine ⟨fun s ch si inc latch fa fb sc hch hr => execSampleTask_of_running hch hr, fun s ch el hch hr hel => ?_,
    fun s ch el hch hr hel => ?_, fun s ch n hch hn hr ha => execSafetyInputChange_of_agreed hch hn hr ha,
    fun s ch hch hr hm hl hg => ?_, fun s ch hch hr hm hl hg => ?_⟩
  · exact State.modChan_outcome (s := s) (i := .ssiFrameMissing ch 0 el) (isA := ch == 0)
      (f := fun c => { c with a := { c.a with valid := false, missing := c.a.missing + 1 } })
      (occurs_pos (by simp [isWick_of_lt hch, hr, hel]))
  · exact State.modChan_outcome (s := s) (i := .ssiFrameMissing ch 1 el) (isA := ch == 0)
      (f := fun c => { c with b := { c.b with valid := false, missing := c.b.missing + 1 } })
      (occurs_pos (by simp [isWick_of_lt hch, hr, hel]))
  · refine State.modChan_outcome (s := s) (i := .neighbourLostSafety ch true) (isA := ch == 0)
      (f := fun c => { c with above := { c.above with lost := true, limit := s.shf.up.safSent, good := 0 } }) (occurs_pos ?_)
    simp only [isWick_of_lt hch, hr, if_true, hm, hl]
    cases hgot : (s.chan (ch == 0)).above.got with
    | none => rfl
    | some g => simpa using hg g hgot
  · refine State.modChan_outcome (s := s) (i := .neighbourLostSafety ch false) (isA := ch == 0)
      (f := fun c => { c with below := { c.below with lost := true, limit := s.shf.dn.safSent, good := 0 } }) (occurs_pos ?_)
    simp only [isWick_of_lt hch, hr, if_false, Bool.false_eq_true, hm, hl]
    cases hgot : (s.chan (ch == 0)).below.got with
    | none => rfl
    | some g => simpa using hg g hgot

end Sys2Proof.Machine
end

section
/-!
PROOFS. LOCKOUT, stuck switches and the readback (12 R308, R309, R317).
-/
namespace Sys2Proof.Machine

/-! ## LOCKOUT (12 R317; 02 R36, R39) -/

theorem lockCause_noConfig : isConfig Idx.SAF_LOCKCAUSE = false := by decide +kernel
theorem stuck_noConfig : isConfig Idx.SAF_STUCK = false := by decide +kernel

theorem State.gatesOff_eq (s : State) : ∃ dr0 dr1 slots,
    s.gatesOff = { s with dr0 := dr0, dr1 := dr1, cle.slots := slots, saf.sodDr0 := none, saf.sodDr1 := none } := by
  obtain ⟨slots, h, -⟩ := ((s.modDoor true (Door.sagOff (s.parBit (Idx.DRn_CFG 0) 2))).modDoor false
    (Door.sagOff ((s.modDoor true (Door.sagOff (s.parBit (Idx.DRn_CFG 0) 2))).parBit (Idx.DRn_CFG 1) 2))).wantSlots_eq
      [0, 1, 2, 3, 4, 5, 6, 7, 8, 9, 10, 11] false
  unfold State.gatesOff
  dsimp only
  rw [h]
  exact ⟨_, _, slots, rfl⟩

/-- The safety engines stop. -/
def State.locking (s : State) (cause : Nat) : State :=
  { s with saf.running := false, saf.btPhase := 0, pwr.lockoutCause := cause, pwr.waking := false }

theorem State.toLockout_enter (s : State) (cause : Nat) : s.toLockout cause =
    (((s.locking cause).openAll.gatesOff).fieldOff.hstTripped.canOff).enter .lockout cause := rfl

/-- A device in LOCKOUT: every output off, the safety engines stopped. -/
theorem State.toLockout_eq (s : State) (cause : Nat) : ∃ hst dir tph slots dr0 dr1 ch can0 can1, s.toLockout cause =
    { s with pwr.state := .lockout, pwr.lockoutCause := cause, pwr.waking := false, hst := hst, dir := dir, tph := tph,
             cle.slots := slots, dr0 := dr0, dr1 := dr1, fio.ch := ch, can0 := can0, can1 := can1, saf.running := false,
             saf.btPhase := 0, saf.chA := { s.saf.chA with sw := 0, grants := 0 }, saf.chB := { s.saf.chB with sw := 0, grants := 0 },
             saf.sodDr0 := none, saf.sodDr1 := none, saf.sodHst := none } := by
  obtain ⟨dr0, dr1, slots, hg⟩ := (s.locking cause).openAll.gatesOff_eq
  obtain ⟨hst, dir, tph, slots', hh, -, -⟩ := ((s.locking cause).openAll.gatesOff).fieldOff.hstTripped_eq
  obtain ⟨dir', tph', hw, -⟩ := (((s.locking cause).openAll.gatesOff).fieldOff.hstTripped.canOff).raise_eq 0x010B 1 0xFF
    [(1, (((s.locking cause).openAll.gatesOff).fieldOff.hstTripped.canOff).pwr.state.code), (1, DevState.lockout.code), (2, (cause : Int))]
  rw [s.toLockout_enter]
  unfold State.enter
  dsimp only
  rw [hw, hh, hg]
  exact ⟨_, _, _, _, _, _, _, _, _, rfl⟩

theorem State.toLockout_eventsOnly (s : State) (cause : Nat) : s.EventsOnly (s.toLockout cause) [Idx.HST_LEARNSTAT, Idx.HST_LEARNCAUSE] := by
  rw [s.toLockout_enter]
  have hoff : s.EventsOnly ((s.locking cause).openAll.gatesOff).fieldOff [Idx.HST_LEARNSTAT, Idx.HST_LEARNCAUSE] :=
    .of_eq _ (by simp [State.locking]) (by simp [State.locking])
  generalize ((s.locking cause).openAll.gatesOff).fieldOff = u at hoff ⊢
  have htrip := hoff.trans u.hstTripped_eventsOnly
  generalize u.hstTripped = v at htrip ⊢
  have hcan : s.EventsOnly v.canOff [Idx.HST_LEARNSTAT, Idx.HST_LEARNCAUSE] := htrip.congr rfl rfl
  exact hcan.enter _ _

/-- The parameter and the record of a LOCKOUT. -/
def State.lockoutTold (s : State) (item ch : Nat) : State := (s.setOwn Idx.SAF_LOCKCAUSE item).raise 0x0910 7 0xFF [(1, item), (1, ch)]

theorem State.safLockout_of_other {s : State} (item ch : Nat) (h : s.pwr.state ≠ .lockout) :
    s.safLockout item ch = (s.lockoutTold item ch).toLockout 0x0910 := if_neg h

theorem State.lockoutTold_facts (s : State) (item ch : Nat) :
    (s.lockoutTold item ch).par Idx.SAF_LOCKCAUSE = item ∧ s.Records (s.lockoutTold item ch) 0x0910 7 0xFF ∧
      s.EventsOnly (s.lockoutTold item ch) [Idx.SAF_LOCKCAUSE, Idx.HST_LEARNSTAT, Idx.HST_LEARNCAUSE] ∧
      ∃ dir tph, s.lockoutTold item ch = { s with dir := dir, tph := tph } := by
  have hset := s.par_setOwn' Idx.SAF_LOCKCAUSE Idx.SAF_LOCKCAUSE item lockCause_noConfig
  have hev := (State.EventsOnly.refl s [Idx.SAF_LOCKCAUSE, Idx.HST_LEARNSTAT, Idx.HST_LEARNCAUSE]).setOwn item (by simp) lockCause_noConfig
  refine ⟨(State.par_raise _ _ _ _ _ _ (by decide)).trans (hset.trans (if_pos rfl)),
    .raise_after _ _ _ _ (s.tph_setOwn_queue _ item) (hev.1 _ (by decide)) (by simp) (by simp), hev.raise _ _ _ _, ?_⟩
  obtain ⟨d1, h1, -⟩ := s.setOwn_eq (i := Idx.SAF_LOCKCAUSE) item lockCause_noConfig
  obtain ⟨d2, t2, h2, -⟩ := (s.setOwn Idx.SAF_LOCKCAUSE item).raise_eq 0x0910 7 0xFF [(1, item), (1, ch)]
  refine ⟨d2, t2, ?_⟩
  unfold State.lockoutTold
  rw [h2, h1]

/-- A device that enters LOCKOUT for an item of Table SAF-8. -/
theorem State.safLockout_facts {s : State} (item ch : Nat) (h : s.pwr.state ≠ .lockout) :
    s.LockedOut (s.safLockout item ch) item ∧
      s.EventsOnly (s.safLockout item ch) [Idx.SAF_LOCKCAUSE, Idx.HST_LEARNSTAT, Idx.HST_LEARNCAUSE] ∧
      (s.safLockout item ch).saf.stuckAt = s.saf.stuckAt ∧
      (∀ isA, (s.safLockout item ch).chan isA = { s.chan isA with sw := 0, grants := 0 }) ∧
      ∃ pwr hst dir tph slots dr0 dr1 fch can0 can1 saf, s.safLockout item ch =
        { s with pwr := pwr, hst := hst, dir := dir, tph := tph, cle.slots := slots, dr0 := dr0, dr1 := dr1, fio.ch := fch,
                 can0 := can0, can1 := can1, saf := saf } := by
  obtain ⟨hcause, hrec, hev, d1, t1, htold⟩ := s.lockoutTold_facts item ch
  have hlev := (s.lockoutTold item ch).toLockout_eventsOnly 0x0910
  obtain ⟨hst, dir, tph, slots, dr0, dr1, fch, can0, can1, hl⟩ := (s.lockoutTold item ch).toLockout_eq 0x0910
  have hall := hev.trans (hlev.mono (by simp))
  have hpar := (hlev.1 Idx.SAF_LOCKCAUSE (by decide)).trans hcause
  have hrec' := hrec.mono hlev.2.2.2
  rw [State.safLockout_of_other item ch h]
  rw [hl, htold] at hall hpar hrec' ⊢
  refine ⟨⟨rfl, rfl, rfl, rfl, rfl, hpar, fun hh => hrec' hh⟩, hall, rfl, fun isA => ?_, ⟨_, _, _, _, _, _, _, _, _, _, _, rfl⟩⟩
  cases isA <;> rfl

/-! ## Switch tests and readback (12 R308, R309) -/

/-- A stuck-on switch is recorded. -/
def State.stuckTold (s : State) (bit ch : Nat) : State :=
  (s.setOwn Idx.SAF_STUCK (setBit (s.parN Idx.SAF_STUCK) bit true)).raise 0x091B 5 0xFF [(1, bit), (1, ch)]

theorem State.stuckTold_facts (s : State) (bit ch : Nat) :
    (s.stuckTold bit ch).par Idx.SAF_STUCK = setBit (s.parN Idx.SAF_STUCK) bit true ∧ s.Records (s.stuckTold bit ch) 0x091B 5 0xFF ∧
      s.EventsOnly (s.stuckTold bit ch) [Idx.SAF_STUCK] ∧ ∃ dir tph, s.stuckTold bit ch = { s with dir := dir, tph := tph } := by
  have hset := s.par_setOwn' Idx.SAF_STUCK Idx.SAF_STUCK (setBit (s.parN Idx.SAF_STUCK) bit true) stuck_noConfig
  have hev := (State.EventsOnly.refl s [Idx.SAF_STUCK]).setOwn (setBit (s.parN Idx.SAF_STUCK) bit true) (by simp) stuck_noConfig
  refine ⟨(State.par_raise _ _ _ _ _ _ (by decide)).trans (hset.trans (if_pos rfl)),
    .raise_after _ _ _ _ (s.tph_setOwn_queue _ _) (hev.1 _ (by decide)) (by simp) (by simp), hev.raise _ _ _ _, ?_⟩
  obtain ⟨d1, h1, -⟩ := s.setOwn_eq (i := Idx.SAF_STUCK) (setBit (s.parN Idx.SAF_STUCK) bit true) stuck_noConfig
  obtain ⟨d2, t2, h2, -⟩ := (s.setOwn Idx.SAF_STUCK (setBit (s.parN Idx.SAF_STUCK) bit true)).raise_eq 0x091B 5 0xFF [(1, bit), (1, ch)]
  refine ⟨d2, t2, ?_⟩
  unfold State.stuckTold
  rw [h2, h1]

/-- A closed output with a stuck switch: a landing stop is asked for. -/
def State.stuckWaits (s : State) : State := { s with saf.stuckAt := some s.pwr.opTime, hst.stopReq := some 1 }

theorem State.switchStuck_eq (s : State) (ch k : Nat) (high : Bool) : s.switchStuck ch k high =
    if s.parBit Idx.SAF_STUCK (if high then k else 4 + k) then s
    else if (s.stuckTold (if high then k else 4 + k) ch).soClosed k then
      (s.stuckTold (if high then k else 4 + k) ch).stuckWaits
    else (s.stuckTold (if high then k else 4 + k) ch).safLockout 9 ch := rfl

/-- The parameters that a readback or a safety cycle writes. -/
def cyclePars : List Nat :=
  [Idx.SAF_LASTTRIP, Idx.SAF_TRIPCOUNT, Idx.SAF_STUCK, Idx.SAF_LOCKCAUSE, Idx.HST_LEARNSTAT, Idx.HST_LEARNCAUSE]

theorem tripPars_cyclePars : tripPars ⊆ cyclePars := by simp [tripPars, cyclePars]

/-- The blocks that a safety cycle may touch. -/
def State.SafetyFrame (s t : State) : Prop := ∃ pwr hst dir tph slots dr0 dr1 fch can0 can1 saf,
  t = { s with pwr := pwr, hst := hst, dir := dir, tph := tph, cle.slots := slots, dr0 := dr0, dr1 := dr1, fio.ch := fch,
               can0 := can0, can1 := can1, saf := saf }

theorem State.SafetyFrame.trans {s t u : State} (h : s.SafetyFrame t) (h' : t.SafetyFrame u) : s.SafetyFrame u := by
  obtain ⟨_, _, _, _, _, _, _, _, _, _, _, ht⟩ := h
  obtain ⟨_, _, _, _, _, _, _, _, _, _, _, hu⟩ := h'
  rw [ht] at hu
  exact ⟨_, _, _, _, _, _, _, _, _, _, _, hu⟩

/-- From `s` to `t` a channel read its outputs back: it may have tripped, or the device has entered LOCKOUT. -/
structure State.Readback (isA : Bool) (s t : State) : Prop where
  frame : s.SafetyFrame t
  stays : s.pwr.state = .lockout → t.pwr.state = .lockout
  other : t.pwr.state = .lockout ∨ t.chan (!isA) = s.chan (!isA)
  own : ∃ statics own active sw grants,
    t.chan isA = { s.chan isA with statics := statics, own := own, active := active, sw := sw, grants := grants }
  switches : (t.chan isA).sw = (s.chan isA).sw ∨ (t.chan isA).sw = 0
  locked : t.pwr.state = .lockout → s.pwr.state = .lockout ∨ (t.chan isA).sw = 0
  events : s.EventsOnly t cyclePars

theorem State.Readback.refl (isA : Bool) (s : State) : State.Readback isA s s :=
  ⟨⟨_, _, _, _, _, _, _, _, _, _, s.saf, rfl⟩, id, .inr rfl, ⟨_, _, _, _, _, rfl⟩, .inl rfl, .inl, .refl s _⟩

theorem State.Readback.trans {isA : Bool} {s t u : State} (h : State.Readback isA s t) (h' : State.Readback isA t u) :
    State.Readback isA s u := by
  have hsw : (t.chan isA).sw = 0 → (u.chan isA).sw = 0 := fun h0 => h'.switches.elim (fun he => he.trans h0) id
  refine ⟨h.frame.trans h'.frame, fun hl => h'.stays (h.stays hl), ?_, ?_, ?_, fun hl => ?_, h.events.trans h'.events⟩
  · rcases h'.other with hl | ho
    · exact .inl hl
    · rcases h.other with hl | ho'
      · exact .inl (h'.stays hl)
      · exact .inr (ho.trans ho')
  · obtain ⟨_, _, _, _, _, ht⟩ := h.own
    obtain ⟨_, _, _, _, _, hu⟩ := h'.own
    rw [ht] at hu
    exact ⟨_, _, _, _, _, hu⟩
  · rcases h.switches with he | h0
    · exact h'.switches.imp_left fun he' => he'.trans he
    · exact .inr (hsw h0)
  · rcases h'.locked hl with htl | h0
    · exact (h.locked htl).imp_right hsw
    · exact .inr h0

theorem State.Readback.foldl {α : Type} {isA : Bool} {g : State → α → State} (h : ∀ s x, State.Readback isA s (g s x)) (l : List α)
    (s : State) : State.Readback isA s (l.foldl g s) := by
  induction l generalizing s with
  | nil => exact .refl isA s
  | cons x l ih => exact (h s x).trans (ih (g s x))

/-- Where the channels and the state of the device stand. -/
theorem State.Readback.of_quiet {isA : Bool} {s t : State} (hf : s.SafetyFrame t) (hp : t.pwr = s.pwr) (ha : t.saf.chA = s.saf.chA)
    (hb : t.saf.chB = s.saf.chB) (he : s.EventsOnly t cyclePars) : State.Readback isA s t :=
  ⟨hf, fun h => by rw [hp]; exact h, .inr (State.chan_congr ha hb _),
    ⟨_, _, _, _, _, (State.chan_congr ha hb isA).trans rfl⟩, .inl (by rw [State.chan_congr ha hb]), fun h => .inl (by rw [← hp]; exact h), he⟩

theorem State.stuckTold_readback (s : State) (isA : Bool) (bit ch : Nat) : State.Readback isA s (s.stuckTold bit ch) := by
  obtain ⟨-, -, hev, dir, tph, h⟩ := s.stuckTold_facts bit ch
  rw [h] at hev ⊢
  exact .of_quiet ⟨_, _, _, _, _, _, _, _, _, _, _, rfl⟩ rfl rfl rfl (hev.mono (by simp [cyclePars]))

theorem State.safLockout_readback (s : State) (isA : Bool) (item ch : Nat) : State.Readback isA s (s.safLockout item ch) := by
  by_cases h : s.pwr.state = .lockout
  · rw [show s.safLockout item ch = s from if_pos h]
    exact .refl isA s
  · obtain ⟨hlock, hev, -, hchan, hframe⟩ := State.safLockout_facts item ch h
    refine ⟨hframe, fun h' => absurd h' h, .inl hlock.1, ⟨_, _, _, _, _, (hchan isA).trans rfl⟩, .inr (by rw [hchan]), fun _ => .inr (by rw [hchan]),
      hev.mono (by simp [cyclePars])⟩

theorem State.switchStuck_readback (s : State) (isA : Bool) (ch k : Nat) (high : Bool) : State.Readback isA s (s.switchStuck ch k high) := by
  rw [s.switchStuck_eq]
  generalize (if high then k else 4 + k) = bit
  have htold := s.stuckTold_readback isA bit ch
  split
  · exact .refl isA s
  · split
    · exact htold.trans (.of_quiet ⟨_, _, _, _, _, _, _, _, _, _, _, rfl⟩ rfl rfl rfl (.of_eq _ rfl rfl))
    · exact htold.trans (State.safLockout_readback _ isA 9 ch)

theorem State.Tripping.readback {isA : Bool} {s t : State} (h : State.Tripping isA s t) (hsw : (t.chan isA).sw = 0)
    (hstays : s.pwr.state = .lockout → t.pwr.state = .lockout) : State.Readback isA s t := by
  refine ⟨?_, hstays, .inr h.other, ?_, .inr hsw, fun _ => .inr hsw, h.events.mono tripPars_cyclePars⟩
  · obtain ⟨_, _, _, _, _, _, ht⟩ := h.frame
    exact ⟨_, _, _, _, _, _, _, _, _, _, _, ht⟩
  · obtain ⟨_, _, _, _, ht⟩ := h.own
    exact ⟨_, _, _, _, _, ht⟩

/-- A trip leaves a device in LOCKOUT there. -/
theorem State.safTrip_stays (s : State) (isA : Bool) (bit : Nat) (value : Int) (h : s.pwr.state = .lockout) :
    (s.safTrip isA bit value).pwr.state = .lockout := by
  by_cases ho : (s.chan isA).own.testBit bit = true
  · rw [State.safTrip_of_held value ho]
    simpa using h
  · obtain ⟨data, hd⟩ := State.safTrip_of_new value (Bool.eq_false_iff.mpr ho)
    rw [hd]
    split
    · simpa using h
    · unfold State.tripTold State.toTripped
      rw [if_neg (by simp [h])]
      simp [h]

theorem State.safTrip_readback (s : State) (isA : Bool) (bit : Nat) (value : Int) : State.Readback isA s (s.safTrip isA bit value) :=
  (s.safTrip_tripping isA bit value).readback (s.safTrip_tripped isA bit value).2 (s.safTrip_stays isA bit value)

theorem State.qualified_readback (s : State) (ch k code : Nat) : State.Readback (ch == 0) s (s.qualified ch k code) := by
  unfold State.qualified
  split
  · exact .refl _ s
  · exact s.switchStuck_readback _ ch k true
  · exact s.switchStuck_readback _ ch k false
  · split
    · have hpass : State.Readback (ch == 0) s { s with saf.passes := s.saf.passes.set k 0 } :=
        .of_quiet ⟨_, _, _, _, _, _, _, _, _, _, _, rfl⟩ rfl rfl rfl (.of_eq _ rfl rfl)
      exact hpass.trans (State.safTrip_readback _ _ _ _)
    · exact .refl _ s

theorem State.modChan_readback (s : State) {isA : Bool} {f : SafCh → SafCh} (hf : ∀ c, ∃ statics, f c = { c with statics := statics }) :
    State.Readback isA s (s.modChan isA f) := by
  obtain ⟨statics, hs⟩ := hf (s.chan isA)
  have hself : (s.modChan isA f).chan isA = { s.chan isA with statics := statics } := (s.chan_modChan_self isA f).trans hs
  obtain ⟨a, b, h⟩ := s.modChan_eq isA f
  refine ⟨⟨_, _, _, _, _, _, _, _, _, _, _, h⟩, fun hl => by simpa using hl, .inr (s.chan_modChan_other isA f), ⟨_, _, _, _, _, hself.trans rfl⟩,
    .inl (by rw [hself]), fun hl => .inl (by simpa using hl), .of_eq _ (by simp) (by simp)⟩

/-- The static readback of one output. -/
def State.readOutput (ch nodes : Nat) (s : State) (k : Nat) : State :=
  let d := ((s.chan (ch == 0)).statics.getD k {}).see (s.staticDev nodes k)
  let s := s.modChan (ch == 0) fun c => { c with statics := c.statics.set k d }
  if 2 ≤ d.count then s.qualified ch k d.code else s

theorem State.statics_eq (s : State) (ch nodes : Nat) : s.statics ch nodes = (List.range 4).foldl (State.readOutput ch nodes) s := rfl

theorem State.readOutput_readback (ch nodes : Nat) (s : State) (k : Nat) : State.Readback (ch == 0) s (s.readOutput ch nodes k) := by
  unfold State.readOutput
  extract_lets d v
  have hv : State.Readback (ch == 0) s v := s.modChan_readback fun c => ⟨_, rfl⟩
  split
  · exact hv.trans (v.qualified_readback ch k _)
  · exact hv

theorem State.statics_readback (s : State) (ch nodes : Nat) : State.Readback (ch == 0) s (s.statics ch nodes) := by
  rw [s.statics_eq]
  exact .foldl (State.readOutput_readback ch nodes) _ s

end Sys2Proof.Machine
end

section
/-!
PROOFS. The safety cycle and its trips (12 R300 to R315).
-/
namespace Sys2Proof.Machine

/-! ## The safety cycle (12 R300, R301) -/

theorem State.modChan_const (s : State) (isA : Bool) (f : SafCh → SafCh) :
    s.modChan isA f = s.modChan isA fun _ => f (s.chan isA) := by
  cases isA <;> rfl

/-- A channel replaced twice. -/
theorem State.modChan_const_then (s : State) (isA : Bool) (d : SafCh) (f : SafCh → SafCh) :
    (s.modChan isA fun _ => d).modChan isA f = s.modChan isA fun _ => f d := by
  cases isA <;> rfl

/-- The causes that end, in one channel: its switches and its cycle stand. -/
theorem State.endCauses_keeps (s : State) (c : SafCh) : (s.endCauses c).cycle = c.cycle ∧ (s.endCauses c).sw = c.sw := by
  have hauto (l : List Nat) (c : SafCh) : (l.foldl (fun c b =>
      if c.own.testBit b && s.causeClear c b then
        { c with own := setBit c.own b false, sf8Base := if b = 7 ∧ c.mode = 1 then some c.pS else c.sf8Base }
      else c) c).cycle = c.cycle ∧ (l.foldl (fun c b =>
      if c.own.testBit b && s.causeClear c b then
        { c with own := setBit c.own b false, sf8Base := if b = 7 ∧ c.mode = 1 then some c.pS else c.sf8Base }
      else c) c).sw = c.sw := by
    induction l generalizing c with
    | nil => exact ⟨rfl, rfl⟩
    | cons b l ih =>
      obtain ⟨h1, h2⟩ := ih (if c.own.testBit b && s.causeClear c b then
        { c with own := setBit c.own b false, sf8Base := if b = 7 ∧ c.mode = 1 then some c.pS else c.sf8Base } else c)
      refine ⟨h1.trans ?_, h2.trans ?_⟩ <;> split <;> rfl
  have hmanual (l : List Nat) (c : SafCh) : (l.foldl (fun c b => { c with own := setBit c.own b false }) c).cycle = c.cycle ∧
      (l.foldl (fun c b => { c with own := setBit c.own b false }) c).sw = c.sw := by
    induction l generalizing c with
    | nil => exact ⟨rfl, rfl⟩
    | cons b l ih => exact ih _
  unfold State.endCauses
  extract_lets c1 c2
  have h1 : c1.cycle = c.cycle ∧ c1.sw = c.sw := hauto autoCauses c
  clear_value c1
  split
  · obtain ⟨hc, hs⟩ := hmanual manualCauses c2
    have h2 : c2.cycle = c1.cycle ∧ c2.sw = c1.sw := by
      dsimp only [c2]
      split <;> exact ⟨rfl, rfl⟩
    exact ⟨hc.trans (h2.1.trans h1.1), hs.trans (h2.2.trans h1.2)⟩
  · exact h1

/-- The comparison of a cycle: the channel's number rises, and its switches stand or open. -/
theorem State.compare_eq (s : State) (isA recOk : Bool) : ∃ d, s.compare isA recOk = s.modChan isA (fun _ => d) ∧
    d.cycle = ((s.chan isA).cycle + 1) % 2 ^ 32 ∧ (d.sw = (s.chan isA).sw ∨ d.sw = 0) := by
  unfold State.compare
  extract_lets o s1 c1 bad s2 held s3 s4 c4
  obtain ⟨d1, h1, hc1, hw1⟩ : ∃ d, s1 = s.modChan isA (fun _ => d) ∧ d.cycle = ((s.chan isA).cycle + 1) % 2 ^ 32 ∧
      d.sw = (s.chan isA).sw := by
    refine ⟨_, s.modChan_const isA _, ?_, ?_⟩
    · unfold readRecord
      split <;> rfl
    · unfold readRecord
      split <;> rfl
  obtain ⟨d2, h2, hc2, hw2⟩ : ∃ d, s2 = s.modChan isA (fun _ => d) ∧ d.cycle = d1.cycle ∧ d.sw = d1.sw := by
    refine ⟨_, (congrArg (fun u : State => u.modChan isA _) h1).trans (s.modChan_const_then isA d1 _), rfl, rfl⟩
  obtain ⟨hce, hwe⟩ := s2.endCauses_keeps d2
  obtain ⟨d4, h4, hc4, hw4⟩ : ∃ d, s4 = s.modChan isA (fun _ => d) ∧ d.cycle = d2.cycle ∧ d.sw = d2.sw := by
    have h3 : s3 = s.modChan isA (fun _ => s2.endCauses d2) :=
      (congrArg (fun u : State => u.modChan isA fun c => s2.endCauses c) h2).trans (s.modChan_const_then isA d2 _)
    refine ⟨_, (congrArg (fun u : State => u.modChan isA fun c => { c with active := c.own ||| c.other.own }) h3).trans
      (s.modChan_const_then isA _ _), hce, hwe⟩
  split
  · rw [h4]
    exact ⟨_, s.modChan_const_then isA d4 _, hc4.trans (hc2.trans hc1), .inr rfl⟩
  · exact ⟨d4, h4, hc4.trans (hc2.trans hc1), .inl (hw4.trans (hw2.trans hw1))⟩

theorem State.brakeTimes_keeps (s : State) (c : SafCh) : (s.brakeTimes c).cycle = c.cycle ∧ (s.brakeTimes c).sw = c.sw := by
  unfold State.brakeTimes
  dsimp only
  split <;> exact ⟨rfl, rfl⟩

/-- The channel of a cycle before its diagnostics. -/
theorem State.cycleStart_eq (s : State) (isA recOk : Bool) : ∃ d,
    ((s.compare isA recOk).modChan isA fun c => (s.compare isA recOk).brakeTimes c) = s.modChan isA (fun _ => d) ∧
    d.cycle = ((s.chan isA).cycle + 1) % 2 ^ 32 ∧ (d.sw = (s.chan isA).sw ∨ d.sw = 0) := by
  obtain ⟨d, h, hc, hw⟩ := s.compare_eq isA recOk
  obtain ⟨hbc, hbw⟩ := (s.compare isA recOk).brakeTimes_keeps d
  refine ⟨_, (congrArg (fun u : State => u.modChan isA fun c => (s.compare isA recOk).brakeTimes c) h).trans (s.modChan_const_then isA d _),
    hbc.trans hc, ?_⟩
  rw [hbw]
  exact hw

/-! ## Grants and switches (12 Table SAF-3, R300) -/

theorem testBit_foldl_setBit (f : Nat → Bool) (l : List Nat) (v k : Nat) :
    (l.foldl (fun v n => setBit v n (f n)) v).testBit k = if k ∈ l then f k else v.testBit k := by
  induction l generalizing v with
  | nil => rfl
  | cons n l ih =>
    rw [List.foldl_cons, ih, testBit_setBit]
    by_cases hl : k ∈ l
    · rw [if_pos hl, if_pos (List.mem_cons_of_mem _ hl)]
    · rw [if_neg hl]
      by_cases hn : k = n
      · rw [if_pos hn, if_pos (hn ▸ List.mem_cons_self), hn]
      · rw [if_neg hn, if_neg (fun h => (List.mem_cons.mp h).elim hn hl)]

theorem closeSwitches_testBit (m : Bool) (g : Nat) (c : SafCh) (k : Nat) : (closeSwitches m g c).sw.testBit k =
    if k < 4 then g.testBit k && (c.sw.testBit k || (m && c.fresh && c.other.grants.testBit k)) else false := by
  refine (testBit_foldl_setBit (fun k => g.testBit k && (c.sw.testBit k || (m && c.fresh && c.other.grants.testBit k))) (List.range 4) 0 k).trans ?_
  by_cases h : k < 4
  · rw [if_pos (List.mem_range.mpr h), if_pos h]
  · rw [if_neg (fun hm => h (List.mem_range.mp hm)), if_neg h, Nat.zero_testBit]

/-- With an active cause nothing is granted. -/
theorem State.grantsOf_active {s : State} {c : SafCh} (h : c.active ≠ 0) : s.grantsOf c = 0 := by
  have ha : (c.active == 0) = false := by simpa using h
  have hbrake (n : Nat) : s.grantBrake c n = false := by simp [State.grantBrake, ha]
  have hsoc : s.grantSoc c = false := by simp [State.grantSoc, State.socAllowed, ha]
  have hsod : s.grantSod c = false := by simp [State.grantSod, ha]
  simp [State.grantsOf, hbrake, hsoc, hsod, b2n]

/-- Nothing granted opens every switch. -/
theorem closeSwitches_none (m : Bool) (c : SafCh) : (closeSwitches m 0 c).sw = 0 := by
  refine Nat.eq_of_testBit_eq fun k => ?_
  rw [closeSwitches_testBit, Nat.zero_testBit, Bool.false_and, ite_self]

/-! ## The end of a cycle (12 R301, R307, R316, R320, R324) -/

/-- What a cycle does after its switches have moved: its record, the contactor, the parked time, the session, and the way out of
TRIPPED. -/
def State.cycleEnd (s : State) (isA : Bool) : State :=
  let s := s.afterGrants
  let s := s.modChan isA fun c => { c with wrote := s.recordOf c }
  let s := if isA then (s.contactor.parkedSince).watchSession else s
  s.leaveTripped

/-- The channels stand but for the record written. -/
structure State.CycleEnded (isA : Bool) (s t : State) : Prop where
  frame : s.SafetyFrame t
  own : ∃ w, t.chan isA = { s.chan isA with wrote := w }
  other : t.chan (!isA) = s.chan (!isA)
  events : s.EventsOnly t cyclePars

theorem State.CycleEnded.trans {isA : Bool} {s t u : State} (h : State.CycleEnded isA s t) (h' : State.CycleEnded isA t u) :
    State.CycleEnded isA s u := by
  refine ⟨h.frame.trans h'.frame, ?_, h'.other.trans h.other, h.events.trans h'.events⟩
  obtain ⟨w, ht⟩ := h.own
  obtain ⟨w', hu⟩ := h'.own
  rw [ht] at hu
  exact ⟨w', hu⟩

/-- Where only fields of the safety block beside the channels changed. -/
theorem State.CycleEnded.of_saf {isA : Bool} {s t : State} {saf : Saf} (h : t = { s with saf := saf }) (ha : saf.chA = s.saf.chA)
    (hb : saf.chB = s.saf.chB) : State.CycleEnded isA s t := by
  subst h
  exact ⟨⟨_, _, _, _, _, _, _, _, _, _, _, rfl⟩, ⟨(s.chan isA).wrote, State.chan_congr ha hb isA⟩, State.chan_congr ha hb _, .of_eq _ rfl rfl⟩

theorem State.afterGrants_ended (isA : Bool) (s : State) : State.CycleEnded isA s s.afterGrants := .of_saf rfl rfl rfl

theorem State.contactor_ended (isA : Bool) (s : State) : State.CycleEnded isA s s.contactor := by
  unfold State.contactor
  split
  · exact .of_saf (saf := s.saf) rfl rfl rfl
  · exact .of_saf rfl rfl rfl

theorem State.parkedSince_ended (isA : Bool) (s : State) : State.CycleEnded isA s s.parkedSince := by
  unfold State.parkedSince
  split
  · split
    · exact .of_saf (saf := s.saf) rfl rfl rfl
    · exact .of_saf rfl rfl rfl
  · exact .of_saf rfl rfl rfl

theorem State.watchSession_ended (isA : Bool) (s : State) : State.CycleEnded isA s s.watchSession := by
  unfold State.watchSession
  split
  · exact .of_saf rfl rfl rfl
  · exact .of_saf (saf := s.saf) rfl rfl rfl

theorem State.leaveTripped_ended (isA : Bool) (s : State) : State.CycleEnded isA s s.leaveTripped := by
  unfold State.leaveTripped
  split
  · have hev := (State.EventsOnly.refl s cyclePars).raise 0x010B 1 0xFF
      [(1, s.pwr.state.code), (1, DevState.run.code), (2, (s.saf.endCause : Int))]
    obtain ⟨dir, tph, h, -⟩ := s.raise_eq 0x010B 1 0xFF [(1, s.pwr.state.code), (1, DevState.run.code), (2, (s.saf.endCause : Int))]
    unfold State.enter State.dropCause
    dsimp only
    rw [h] at hev ⊢
    exact ⟨⟨_, _, _, _, _, _, _, _, _, _, _, rfl⟩, ⟨_, (State.chan_congr rfl rfl isA).trans rfl⟩, State.chan_congr rfl rfl _, hev.congr rfl rfl⟩
  · exact .of_saf (saf := s.saf) rfl rfl rfl

theorem State.wroteRecord_ended (isA : Bool) (s : State) :
    State.CycleEnded isA s (s.modChan isA fun c => { c with wrote := s.recordOf c }) := by
  obtain ⟨a, b, h⟩ := s.modChan_eq isA fun c => { c with wrote := s.recordOf c }
  exact ⟨⟨_, _, _, _, _, _, _, _, _, _, _, h⟩, ⟨_, s.chan_modChan_self isA _⟩, s.chan_modChan_other isA _, .of_eq _ (by simp) (by simp)⟩

theorem State.cycleEnd_ended (isA : Bool) (s : State) : State.CycleEnded isA s (s.cycleEnd isA) := by
  unfold State.cycleEnd
  extract_lets u v w
  have hv : State.CycleEnded isA s v := (State.afterGrants_ended isA s).trans (State.wroteRecord_ended isA u)
  clear_value v
  have hw : State.CycleEnded isA s w := by
    dsimp only [w]
    split
    · exact ((hv.trans (State.contactor_ended isA v)).trans (State.parkedSince_ended isA _)).trans (State.watchSession_ended isA _)
    · exact hv
  exact hw.trans (State.leaveTripped_ended isA _)

/-! ## The whole cycle (12 R300) -/

def State.cycleStart (s : State) (isA recOk : Bool) : State :=
  (s.compare isA recOk).modChan isA fun c => (s.compare isA recOk).brakeTimes c

/-- A cycle whose diagnostics found nothing. -/
def State.cycleRun (s : State) (ch nodes : Nat) : State :=
  let s := s.statics ch nodes
  if s.pwr.state = .lockout then s
  else (s.modChan (ch == 0) fun c => closeSwitches (c.mismatch == 0) (s.grantsOf (s.chan (ch == 0))) c).cycleEnd (ch == 0)

theorem exec_safetyCycle {s : State} {ch diag nodes : Nat} {recOk : Bool} (hch : ch < 2) (hr : s.saf.running = true) (hd : diag ≤ 12) :
    exec (.safetyCycle ch recOk diag nodes) s = .next (
      let u := s.cycleStart (ch == 0) recOk
      let c := u.chan (ch == 0)
      if 0 < diag then u.safLockout diag ch
      else if 3 ≤ c.mismatch then u.safLockout (if c.flt ≠ c.other.flt then 8 else 1) ch
      else if 2 ≤ c.recMiss then u.safLockout 2 ch
      else u.cycleRun ch nodes) :=
  occurs_pos (by simp [isWick_of_lt hch, hr, hd])

/-- What a safety cycle leaves of a channel. -/
structure State.Cycled (isA : Bool) (s t : State) : Prop where
  cycle : (t.chan isA).cycle = ((s.chan isA).cycle + 1) % 2 ^ 32
  granted : ∀ k < 4, (t.chan isA).sw.testBit k = true → (t.chan isA).grants.testBit k = true
  closed : ∀ k < 4, (t.chan isA).sw.testBit k = true → (s.chan isA).sw.testBit k = false →
    (t.chan isA).mismatch = 0 ∧ (t.chan isA).fresh = true ∧ (t.chan isA).other.grants.testBit k = true
  active : (t.chan isA).active ≠ 0 → (t.chan isA).sw = 0
  other : t.pwr.state = .lockout ∨ t.chan (!isA) = s.chan (!isA)
  events : s.EventsOnly t cyclePars
  frame : s.SafetyFrame t

/-- A cycle that opens every switch. -/
theorem State.Cycled.of_open {isA : Bool} {s t : State} (hc : (t.chan isA).cycle = ((s.chan isA).cycle + 1) % 2 ^ 32)
    (h0 : (t.chan isA).sw = 0) (ho : t.pwr.state = .lockout ∨ t.chan (!isA) = s.chan (!isA)) (he : s.EventsOnly t cyclePars)
    (hf : s.SafetyFrame t) : State.Cycled isA s t := by
  have hopen (k : Nat) : ¬(t.chan isA).sw.testBit k = true := by
    rw [h0, Nat.zero_testBit]
    decide
  exact ⟨hc, fun k _ h => absurd h (hopen k), fun k _ h => absurd h (hopen k), fun _ => h0, ho, he, hf⟩

/-- A channel with its record read. -/
theorem State.modChan_readInto (s : State) (isA : Bool) (d : SafCh) :
    s.SafetyFrame (s.modChan isA fun _ => d) ∧ s.EventsOnly (s.modChan isA fun _ => d) cyclePars := by
  obtain ⟨a, b, h⟩ := s.modChan_eq isA fun _ => d
  exact ⟨⟨_, _, _, _, _, _, _, _, _, _, _, h⟩, .of_eq _ (by simp) (by simp)⟩

theorem State.safLockout_cycled {s : State} {isA : Bool} {d : SafCh} (item ch : Nat) (hl : s.pwr.state ≠ .lockout)
    (hc : d.cycle = ((s.chan isA).cycle + 1) % 2 ^ 32) : State.Cycled isA s ((s.modChan isA fun _ => d).safLockout item ch) := by
  have hself := s.chan_modChan_self isA fun _ => d
  obtain ⟨hframe, hev⟩ := s.modChan_readInto isA d
  obtain ⟨hlock, hlev, -, hchan, hlframe⟩ := State.safLockout_facts (s := s.modChan isA fun _ => d) item ch (by simpa using hl)
  refine .of_open ?_ ?_ (.inl hlock.1) (hev.trans (hlev.mono (by simp [cyclePars]))) (hframe.trans hlframe)
  · rw [hchan, hself]
    exact hc
  · rw [hchan]

theorem State.cycleRun_cycled {s : State} {ch : Nat} {d : SafCh} (nodes : Nat) (hl : s.pwr.state ≠ .lockout)
    (hc : d.cycle = ((s.chan (ch == 0)).cycle + 1) % 2 ^ 32) (hw : d.sw = (s.chan (ch == 0)).sw ∨ d.sw = 0) :
    State.Cycled (ch == 0) s ((s.modChan (ch == 0) fun _ => d).cycleRun ch nodes) := by
  have hself := s.chan_modChan_self (ch == 0) fun _ => d
  have hoth := s.chan_modChan_other (ch == 0) fun _ => d
  obtain ⟨hframe, hev⟩ := s.modChan_readInto (ch == 0) d
  have hul : (s.modChan (ch == 0) fun _ => d).pwr.state ≠ .lockout := by simpa using hl
  generalize (s.modChan (ch == 0) fun _ => d) = u at *
  have hread := u.statics_readback ch nodes
  unfold State.cycleRun
  extract_lets v
  change State.Readback (ch == 0) u v at hread
  clear_value v
  obtain ⟨st, own, active, sw, grants, hown⟩ := hread.own
  rw [hself] at hown
  have hcycle : (v.chan (ch == 0)).cycle = ((s.chan (ch == 0)).cycle + 1) % 2 ^ 32 := by
    rw [hown]
    exact hc
  have hvframe := hframe.trans hread.frame
  have hvev := hev.trans hread.events
  split
  · next hlock =>
    exact .of_open hcycle ((hread.locked hlock).resolve_left hul) (.inl hlock) hvev hvframe
  · next hlock =>
    have hself2 := v.chan_modChan_self (ch == 0) fun c => closeSwitches (c.mismatch == 0) (v.grantsOf (v.chan (ch == 0))) c
    have hoth2 := v.chan_modChan_other (ch == 0) fun c => closeSwitches (c.mismatch == 0) (v.grantsOf (v.chan (ch == 0))) c
    obtain ⟨a, b, hm⟩ := v.modChan_eq (ch == 0) fun c => closeSwitches (c.mismatch == 0) (v.grantsOf (v.chan (ch == 0))) c
    have hmframe : v.SafetyFrame _ := ⟨_, _, _, _, _, _, _, _, _, _, _, hm⟩
    have hmev : v.EventsOnly (v.modChan (ch == 0) fun c => closeSwitches (c.mismatch == 0) (v.grantsOf (v.chan (ch == 0))) c) cyclePars :=
      .of_eq _ (by simp) (by simp)
    clear hm
    generalize (v.modChan (ch == 0) fun c => closeSwitches (c.mismatch == 0) (v.grantsOf (v.chan (ch == 0))) c) = w at *
    have hend := State.cycleEnd_ended (ch == 0) w
    obtain ⟨wr, hwr⟩ := hend.own
    have hbit (k : Nat) := closeSwitches_testBit ((v.chan (ch == 0)).mismatch == 0) (v.grantsOf (v.chan (ch == 0))) (v.chan (ch == 0)) k
    rw [hself2] at hwr
    refine ⟨?_, fun k hk hon => ?_, fun k hk hon hoff => ?_, fun hact => ?_, ?_, (hvev.trans hmev).trans hend.events,
      (hvframe.trans hmframe).trans hend.frame⟩
    · rw [hwr]
      exact hcycle
    · rw [hwr] at hon ⊢
      rw [hbit k, if_pos hk, Bool.and_eq_true] at hon
      exact hon.1
    · have hvoff : (v.chan (ch == 0)).sw.testBit k = false := by
        rcases hread.switches with he | he
        · rw [he, hself]
          rcases hw with hw | hw
          · rw [hw]; exact hoff
          · rw [hw]; exact Nat.zero_testBit k
        · rw [he]; exact Nat.zero_testBit k
      rw [hwr] at hon ⊢
      rw [hbit k, if_pos hk, hvoff, Bool.false_or, Bool.and_eq_true, Bool.and_eq_true, Bool.and_eq_true, beq_iff_eq] at hon
      exact ⟨hon.2.1.1, hon.2.1.2, hon.2.2⟩
    · rw [hwr] at hact ⊢
      have hg : v.grantsOf (v.chan (ch == 0)) = 0 := State.grantsOf_active hact
      rw [hg]
      exact closeSwitches_none _ _
    · rcases hread.other with hlk | ho
      · exact absurd hlk hlock
      · exact .inr (hend.other.trans (hoth2.trans (ho.trans hoth)))

theorem execSafetyCycle_of_running {s : State} {ch diag nodes : Nat} {recOk : Bool} (hch : ch < 2) (hr : s.saf.running = true)
    (hl : s.pwr.state ≠ .lockout) (hd : diag ≤ 12) :
    ∃ t, exec (.safetyCycle ch recOk diag nodes) s = .next t ∧ State.Cycled (ch == 0) s t ∧ (diag ≠ 0 → s.LockedOut t diag) := by
  obtain ⟨d, hstart, hc, hw⟩ : ∃ d, s.cycleStart (ch == 0) recOk = s.modChan (ch == 0) (fun _ => d) ∧ _ := s.cycleStart_eq (ch == 0) recOk
  have hul : (s.modChan (ch == 0) fun _ => d).pwr.state ≠ .lockout := by simpa using hl
  refine ⟨_, exec_safetyCycle hch hr hd, ?_, fun hne => ?_⟩
  · dsimp only
    rw [hstart]
    split
    · exact State.safLockout_cycled _ _ hl hc
    · split
      · exact State.safLockout_cycled _ _ hl hc
      · split
        · exact State.safLockout_cycled _ _ hl hc
        · exact State.cycleRun_cycled nodes hl hc hw
  · dsimp only
    rw [hstart, if_pos (Nat.pos_of_ne_zero hne)]
    obtain ⟨⟨h1, h2, h3, h4, h5, h6, hrec⟩, -⟩ := State.safLockout_facts diag ch hul
    obtain ⟨a, b, hm⟩ := s.modChan_eq (ch == 0) fun _ => d
    rw [hm] at hrec
    refine ⟨h1, h2, h3, h4, h5, h6, fun hh => ?_⟩
    rw [hm]
    exact hrec hh

/-! ## What a channel detects (12 R303, R310, R315) -/

theorem btResult_noConfig : isConfig Idx.SAF_BTRESULT = false := by decide +kernel
theorem btTime_noConfig : isConfig Idx.SAF_BTTIME = false := by decide +kernel

theorem execSafTripSf9_of_count {s : State} {ch i n : Nat} (hch : ch < 2) (hr : s.saf.running = true)
    (hi : (s.chan (ch == 0)).sf9[i]? = some n) (hn : 40 ≤ n) (hc : s.CauseNew 8) :
    ∃ t, exec (.safTripSf9 ch) s = .next t ∧ s.Trips t (ch == 0) 8 ∧ s.EventsOnly t tripPars ∧
      t = { s with dir := t.dir, pwr.state := t.pwr.state, hst := t.hst, cle.slots := t.cle.slots, saf := t.saf, tph := t.tph } := by
  have hany : ((s.chan (ch == 0)).sf9.any fun n => decide (40 ≤ n)) = true :=
    List.any_eq_true.mpr ⟨n, List.mem_of_getElem? hi, decide_eq_true hn⟩
  have htrip := s.safTrip_tripping (ch == 0) 8 ((s.chan (ch == 0)).a.pos - (s.chan (ch == 0)).b.pos)
  refine ⟨_, occurs_pos (by simp only [isWick_of_lt hch, hr, hany]; rfl), State.safTrip_trips _ _ hc, htrip.events, ?_⟩
  obtain ⟨_, _, _, _, _, _, h⟩ := htrip.frame
  rw [h]

/-- What follows a trip without touching what it did. -/
theorem State.Trips.after {s t u : State} {isA : Bool} {bit : Nat} (h : s.Trips t isA bit) (hc : ∀ k, u.chan k = t.chan k)
    (hp : u.par Idx.SAF_LASTTRIP = t.par Idx.SAF_LASTTRIP) (hst : u.hst.st = t.hst.st) (hrun : u.hst.runReq = t.hst.runReq)
    (hlift : u.hst.liftReq = t.hst.liftReq) (hen : u.hst.enable = t.hst.enable) (hpwr : u.pwr.state = t.pwr.state)
    (hq : t.tph.queue <+: u.tph.queue) : s.Trips u isA bit := by
  obtain ⟨h1, h2, h3, h4, h5, h6, h7, h8, h9, h10, h11⟩ := h
  unfold State.Trips
  rw [hc, hc, hp, hst, hrun, hlift, hen, hpwr]
  exact ⟨h1, h2, h3, h4, h5, h6, h7, h8, h9, h10, h11.mono hq⟩

theorem State.dropRun_dlStat (s : State) (st : HSt) : (s.dropRun st).hst.dlStat = s.hst.dlStat := by
  have hrel (u : State) (st : HSt) : (u.hstRelease st).hst.dlStat = u.hst.dlStat := rfl
  unfold State.dropRun
  dsimp only
  rw [(State.wantSlots_frame _ _ _).2.2.2.2.2.2.1, hrel]
  split
  · simp [State.learnFault]
  · rfl

/-- A trip leaves the link's state. -/
theorem State.safTrip_dlStat (s : State) (isA : Bool) (bit : Nat) (value : Int) : (s.safTrip isA bit value).hst.dlStat = s.hst.dlStat := by
  by_cases ho : (s.chan isA).own.testBit bit = true
  · rw [State.safTrip_of_held value ho]
    simp
  · obtain ⟨data, hd⟩ := State.safTrip_of_new value (Bool.eq_false_iff.mpr ho)
    rw [hd]
    split
    · simp
    · unfold State.tripTold State.hstTripped
      rw [show ∀ u : State, (u.addCause 6).hst.dlStat = u.hst.dlStat from fun _ => rfl, State.dropRun_dlStat]
      simp

/-- The drive link is recorded as lost. -/
def State.linkLost (s : State) : State := ({ (s.raise 0x050C 5) with hst.dlStat := 3, hst.dlGood := 0 } : State).addCause 4

theorem execSafTripDl_of_count {s : State} {ch : Nat} (hch : ch < 2) (hr : s.saf.running = true) (hm : 5 ≤ (s.chan (ch == 0)).dlMiss)
    (hc : s.CauseNew 9) :
    ∃ t, exec (.safTripDl ch) s = .next t ∧ s.Trips t (ch == 0) 9 ∧ t.hst.dlStat = 3 ∧
      (s.hst.dlStat ≠ 3 → s.Records t 0x050C 5 0xFF ∧ t.hst.causes.testBit 4 = true) ∧ s.EventsOnly t tripPars ∧
      t = { s with dir := t.dir, pwr.state := t.pwr.state, hst := t.hst, cle.slots := t.cle.slots, saf := t.saf, tph := t.tph } := by
  have hex : exec (.safTripDl ch) s = .next (if (s.safTrip (ch == 0) 9 (s.chan (ch == 0)).dlMiss).hst.dlStat = 3 then
      s.safTrip (ch == 0) 9 (s.chan (ch == 0)).dlMiss else (s.safTrip (ch == 0) 9 (s.chan (ch == 0)).dlMiss).linkLost) :=
    occurs_pos (by simp [isWick_of_lt hch, hr, hm, hc.own])
  have htrips := State.safTrip_trips (ch == 0) (s.chan (ch == 0)).dlMiss hc
  have htrip := s.safTrip_tripping (ch == 0) 9 (s.chan (ch == 0)).dlMiss
  have hstat := s.safTrip_dlStat (ch == 0) 9 (s.chan (ch == 0)).dlMiss
  have hlmp : (s.safTrip (ch == 0) 9 (s.chan (ch == 0)).dlMiss).lmp = s.lmp := by simp
  have hops : (s.safTrip (ch == 0) 9 (s.chan (ch == 0)).dlMiss).host = s.host := by simp
  generalize s.safTrip (ch == 0) 9 (s.chan (ch == 0)).dlMiss = u at *
  obtain ⟨_, _, _, _, _, _, hframe⟩ := htrip.frame
  by_cases h3 : s.hst.dlStat = 3
  · rw [if_pos (hstat.trans h3)] at hex
    exact ⟨u, hex, htrips, hstat.trans h3, fun h => absurd h3 h, htrip.events, by rw [hframe]⟩
  · rw [if_neg (by rw [hstat]; exact h3)] at hex
    have hrec : s.Records u.linkLost 0x050C 5 0xFF :=
      (u.records_raise 0x050C 5 0xFF []).after htrip.events.2.2 (htrip.events.1 _ (by decide)) hlmp (by rw [hops])
    have hev : s.EventsOnly u.linkLost tripPars := (htrip.events.raise 0x050C 5 0xFF []).congr rfl rfl
    have hbit : (setBit u.hst.causes 4 true).testBit 4 = true := (testBit_setBit _ _ _ _).trans (if_pos rfl)
    have hpar : (u.raise 0x050C 5).par Idx.SAF_LASTTRIP = u.par Idx.SAF_LASTTRIP := State.par_raise _ _ _ _ _ _ (by decide)
    have hq := (u.recorder_raiseEvt { code := 0x050C, sev := 5, inst := 0xFF, data := placeData [] [] }).2
    obtain ⟨dir, tph, hraise, -⟩ := u.raise_eq 0x050C 5 0xFF []
    have hlost : u.linkLost = { u with dir := dir, tph := tph, hst.dlStat := 3, hst.dlGood := 0,
                                       hst.causes := setBit u.hst.causes 4 true } := by
      unfold State.linkLost State.addCause
      rw [hraise]
    rw [show u.raiseEvt { code := 0x050C, sev := 5, inst := 0xFF, data := placeData [] [] } = u.raise 0x050C 5 0xFF [] from rfl,
      hraise] at hq
    rw [hraise] at hpar
    rw [hlost] at hex hrec hev
    refine ⟨_, hex, htrips.after (fun k => State.chan_congr rfl rfl k) hpar rfl rfl rfl rfl rfl hq, rfl, fun _ => ⟨hrec, hbit⟩, hev, ?_⟩
    rw [hframe]

/-- The brake torque test ends as failed. -/
def State.btFails (s : State) (brake : Int) : State :=
  let s := (s.setOwn Idx.SAF_BTRESULT brake).setOwn Idx.SAF_BTTIME s.pwr.opTime
  { s with saf.btPhase := 0, saf.btFailed := true, saf.btLast := some s.pwr.opTime }

theorem State.btFails_facts (s : State) (brake : Int) :
    (s.btFails brake).par Idx.SAF_BTRESULT = brake ∧ (s.btFails brake).par Idx.SAF_BTTIME = s.pwr.opTime ∧
      s.EventsOnly (s.btFails brake) [Idx.SAF_BTRESULT, Idx.SAF_BTTIME] ∧
      ∃ dir last, s.btFails brake = { s with dir := dir, saf.btPhase := 0, saf.btFailed := true, saf.btLast := last } := by
  obtain ⟨d1, h1, hp1, -⟩ := s.setOwn_eq (i := Idx.SAF_BTRESULT) brake btResult_noConfig
  obtain ⟨d2, h2, hp2, -⟩ := (s.setOwn Idx.SAF_BTRESULT brake).setOwn_eq (i := Idx.SAF_BTTIME) s.pwr.opTime btTime_noConfig
  have hev := ((State.EventsOnly.refl s [Idx.SAF_BTRESULT, Idx.SAF_BTTIME]).setOwn brake (by simp) btResult_noConfig).setOwn
    (i := Idx.SAF_BTTIME) s.pwr.opTime (by simp) btTime_noConfig
  have heq : s.btFails brake = { s with dir := d2, saf.btPhase := 0, saf.btFailed := true, saf.btLast := some s.pwr.opTime } := by
    unfold State.btFails
    dsimp only
    rw [h2, h1]
  have hpar (j : Nat) : (s.btFails brake).par j = ((s.setOwn Idx.SAF_BTRESULT brake).setOwn Idx.SAF_BTTIME s.pwr.opTime).par j := by
    rw [heq, h2]
    exact State.par_congr rfl j
  refine ⟨?_, ?_, ?_, ⟨d2, _, heq⟩⟩
  · rw [hpar, State.par_setOwn' _ _ _ _ btTime_noConfig, if_neg (by decide), State.par_setOwn' _ _ _ _ btResult_noConfig, if_pos rfl]
  · rw [hpar, State.par_setOwn' _ _ _ _ btTime_noConfig, if_pos rfl]
  · refine hev.congr ?_ ?_
    · rw [heq, h2]
    · rw [heq, h2, h1]

theorem execSafTripSf5_of_count {s : State} {ch : Nat} (hch : ch < 2) (hr : s.saf.running = true) (hm : 16 ≤ (s.chan (ch == 0)).sf5)
    (hc : s.CauseNew 4) :
    ∃ t, exec (.safTripSf5 ch) s = .next t ∧ s.Trips t (ch == 0) 4 ∧ t.pwr.moveLatched = false ∧
      (s.btHolding = true → s.parN Idx.SAF_BTMOVE < mag ((s.chan (ch == 0)).pS - s.saf.btPos) →
        t.par Idx.SAF_BTRESULT = (if s.saf.btPhase ≤ 4 then 2 else 3) ∧ t.par Idx.SAF_BTTIME = s.pwr.opTime ∧
        t.saf.btFailed = true ∧ t.saf.btPhase = 0) ∧
      s.EventsOnly t [Idx.SAF_LASTTRIP, Idx.SAF_TRIPCOUNT, Idx.SAF_BTRESULT, Idx.SAF_BTTIME, Idx.HST_LEARNSTAT,
      Idx.HST_LEARNCAUSE] ∧
      t = { s with dir := t.dir, pwr.state := t.pwr.state, pwr.moveLatched := false, hst := t.hst, cle.slots := t.cle.slots,
                   saf := t.saf, tph := t.tph } := by
  have hex : exec (.safTripSf5 ch) s = .next (
      let u : State := { (s.safTrip (ch == 0) 4 ((s.chan (ch == 0)).pS - (s.chan (ch == 0)).slipBase)) with pwr.moveLatched := false }
      if (s.btHolding && decide (s.parN Idx.SAF_BTMOVE < mag ((s.chan (ch == 0)).pS - s.saf.btPos))) = true then
        u.btFails (if s.saf.btPhase ≤ 4 then 2 else 3) else u) :=
    occurs_pos (by simp [isWick_of_lt hch, hr, hm])
  have htrips := State.safTrip_trips (ch == 0) ((s.chan (ch == 0)).pS - (s.chan (ch == 0)).slipBase) hc
  have htrip := s.safTrip_tripping (ch == 0) 4 ((s.chan (ch == 0)).pS - (s.chan (ch == 0)).slipBase)
  generalize s.safTrip (ch == 0) 4 ((s.chan (ch == 0)).pS - (s.chan (ch == 0)).slipBase) = u at *
  obtain ⟨_, _, _, _, _, _, hframe⟩ := htrip.frame
  have hop : u.pwr.opTime = s.pwr.opTime := by rw [hframe]
  have hev : s.EventsOnly u [Idx.SAF_LASTTRIP, Idx.SAF_TRIPCOUNT, Idx.SAF_BTRESULT, Idx.SAF_BTTIME, Idx.HST_LEARNSTAT,
      Idx.HST_LEARNCAUSE] := htrip.events.mono (by simp [tripPars])
  have htrips' : s.Trips { u with pwr.moveLatched := false } (ch == 0) 4 :=
    htrips.after (fun k => State.chan_congr rfl rfl k) rfl rfl rfl rfl rfl rfl (List.prefix_refl _)
  by_cases hf : (s.btHolding && decide (s.parN Idx.SAF_BTMOVE < mag ((s.chan (ch == 0)).pS - s.saf.btPos))) = true
  · dsimp only at hex
    rw [if_pos hf] at hex
    obtain ⟨hres, htime, hfev, dir, last, hfails⟩ := State.btFails_facts { u with pwr.moveLatched := false } (if s.saf.btPhase ≤ 4 then 2 else 3)
    have hlast := hfev.1 Idx.SAF_LASTTRIP (by decide)
    rw [hfails] at hex hres htime hfev hlast
    refine ⟨_, hex, htrips'.after (fun k => State.chan_congr rfl rfl k) hlast rfl rfl rfl rfl rfl (List.prefix_refl _), rfl,
      fun _ _ => ⟨hres, htime.trans (congrArg Nat.cast hop), rfl, rfl⟩, ?_, ?_⟩
    · exact (hev.congr (u := { u with pwr.moveLatched := false }) rfl rfl).trans (hfev.mono (by simp))
    · rw [hframe]
  · dsimp only at hex
    rw [if_neg hf] at hex
    refine ⟨_, hex, htrips', rfl, fun h1 h2 => absurd (by rw [h1]; exact decide_eq_true h2) hf, hev.congr rfl rfl, ?_⟩
    rw [hframe]

/-! ## Contactor and switch tests (12 R307 to R309) -/

theorem execSafContactor_of_wrong {s : State} (hr : s.saf.running = true) (hw : 100 ≤ s.saf.ctWrong) (hc : s.saf.ctRefused = false) :
    ∃ t, exec .safContactor s = .next t ∧ s.Records t 0x0916 4 0xFF ∧ s.EventsOnly t [] ∧
      t = { s with dir := t.dir, saf.ctRefused := true, saf.ctRight := 0, tph := t.tph } := by
  have hex : exec .safContactor s = .next { s.raise 0x0916 4 with saf.ctRefused := true, saf.ctRight := 0 } :=
    occurs_pos (by simp [hr, hw, hc])
  have hrec := s.records_raise 0x0916 4 0xFF []
  have hev := (State.EventsOnly.refl s []).raise 0x0916 4 0xFF []
  obtain ⟨dir, tph, h, -⟩ := s.raise_eq 0x0916 4 0xFF []
  rw [h] at hex hrec hev
  exact ⟨_, hex, fun hh => hrec hh, hev.congr rfl rfl, rfl⟩

/-- The channel and the passes after a switch test. -/
def State.tested (s : State) (isA : Bool) (k code : Nat) : State :=
  let d := ((s.chan isA).tests.getD k {}).see code
  let s := s.modChan isA fun c => { c with tests := c.tests.set k d, nextTest := (k + 1) % 4 }
  { s with saf.passes := s.saf.passes.set k (if code = 0 ∧ s.standing then s.saf.passes.getD k 0 + 1 else 0) }

theorem exec_switchTest {s : State} {ch k mA : Nat} {high low : Bool} (hch : ch < 2) (hk : k < 4) (hr : s.saf.running = true)
    (hn : (s.chan (ch == 0)).nextTest = k) : exec (.switchTest ch k high low mA) s = .next (
      let code := s.testDev (ch == 0) k high low mA
      if 2 ≤ (((s.chan (ch == 0)).tests.getD k {}).see code).count then (s.tested (ch == 0) k code).qualified ch k code
      else s.tested (ch == 0) k code) :=
  occurs_pos (by simp [isWick_of_lt hch, hk, hr, hn])

theorem State.tested_facts (s : State) (isA : Bool) (k code : Nat) :
    (s.tested isA k code).chan isA =
        { s.chan isA with tests := (s.chan isA).tests.set k (((s.chan isA).tests.getD k {}).see code), nextTest := (k + 1) % 4 } ∧
      (s.tested isA k code).chan (!isA) = s.chan (!isA) ∧
      (s.tested isA k code).saf.passes = s.saf.passes.set k (if code = 0 ∧ s.standing = true then s.saf.passes.getD k 0 + 1 else 0) ∧
      ∃ a b p, s.tested isA k code = { s with saf.chA := a, saf.chB := b, saf.passes := p } := by
  cases isA <;> exact ⟨rfl, rfl, rfl, ⟨_, _, _, rfl⟩⟩

theorem execSwitchTest_of_clean {s : State} {ch k mA : Nat} {high low : Bool} (hch : ch < 2) (hk : k < 4) (hr : s.saf.running = true)
    (hn : (s.chan (ch == 0)).nextTest = k) (hd : s.testDev (ch == 0) k high low mA = 0) :
    ∃ t, exec (.switchTest ch k high low mA) s = .next t ∧
      t.chan (ch == 0) = { s.chan (ch == 0) with tests := (s.chan (ch == 0)).tests.set k {}, nextTest := (k + 1) % 4 } ∧
      t.chan (!(ch == 0)) = s.chan (!(ch == 0)) ∧
      t.saf.passes = s.saf.passes.set k (if s.standing = true then s.saf.passes.getD k 0 + 1 else 0) ∧
      t = { s with saf.chA := t.saf.chA, saf.chB := t.saf.chB, saf.passes := t.saf.passes } := by
  have hex := exec_switchTest (high := high) (low := low) (mA := mA) hch hk hr hn
  dsimp only at hex
  rw [hd, if_neg (show ¬2 ≤ (((s.chan (ch == 0)).tests.getD k {}).see 0).count from (by decide : ¬2 ≤ 0))] at hex
  obtain ⟨hself, hother, hpass, a, b, p, hframe⟩ := s.tested_facts (ch == 0) k 0
  refine ⟨_, hex, hself, hother, hpass.trans ?_, by rw [hframe]⟩
  simp

/-- A switch found stuck on a second time. -/
theorem State.switchStuck_facts {s : State} (ch k : Nat) (high : Bool) (hl : s.pwr.state ≠ .lockout)
    (hb : s.parBit Idx.SAF_STUCK (if high then k else 4 + k) = false) :
    (s.switchStuck ch k high).par Idx.SAF_STUCK = setBit (s.parN Idx.SAF_STUCK) (if high then k else 4 + k) true ∧
      s.Records (s.switchStuck ch k high) 0x091B 5 0xFF ∧
      (s.soClosed k = true → (s.switchStuck ch k high).saf.stuckAt = some s.pwr.opTime ∧ (s.switchStuck ch k high).hst.stopReq = some 1 ∧
        (s.switchStuck ch k high).pwr = s.pwr) ∧
      (s.soClosed k = false → s.LockedOut (s.switchStuck ch k high) 9) ∧
      s.EventsOnly (s.switchStuck ch k high) [Idx.SAF_STUCK, Idx.SAF_LOCKCAUSE, Idx.HST_LEARNSTAT, Idx.HST_LEARNCAUSE] ∧
      s.SafetyFrame (s.switchStuck ch k high) := by
  rw [s.switchStuck_eq, if_neg (by rw [hb]; decide)]
  obtain ⟨hpar, hrec, hev, dir, tph, htold⟩ := s.stuckTold_facts (if high then k else 4 + k) ch
  generalize s.stuckTold (if high then k else 4 + k) ch = u at *
  have hso : u.soClosed k = s.soClosed k := by rw [htold]; rfl
  rw [hso]
  split
  · next hc =>
    have hop : u.pwr = s.pwr := by rw [htold]
    refine ⟨hpar, fun hh => hrec hh, fun _ => ⟨congrArg some (congrArg Pwr.opTime hop), rfl, hop⟩, fun h => ?_,
      (hev.congr (u := u.stuckWaits) rfl rfl).mono (by simp), ⟨_, _, _, _, _, _, _, _, _, _, _, by rw [htold]; rfl⟩⟩
    rw [hc] at h
    exact Bool.noConfusion h
  · next hc =>
    obtain ⟨⟨h1, h2, h3, h4, h5, h6, hlrec⟩, hlev, -, -, hlframe⟩ := State.safLockout_facts (s := u) 9 ch (by rw [htold]; exact hl)
    refine ⟨(hlev.1 _ (by decide)).trans hpar, hrec.mono hlev.2.2.2, fun h => absurd h hc, fun _ => ⟨h1, h2, h3, h4, h5, h6, ?_⟩,
      (hev.mono (by simp)).trans (hlev.mono (by simp)), ?_⟩
    · exact hlrec.after hev.2.2 (hev.1 _ (by decide)) (by rw [htold]) (by rw [htold])
    · exact State.SafetyFrame.trans (t := u) ⟨_, _, _, _, _, _, _, _, _, _, _, htold⟩ hlframe

theorem execSwitchTest_of_stuck {s : State} {ch k mA : Nat} {high low : Bool} {code : Nat} (hch : ch < 2) (hk : k < 4)
    (hr : s.saf.running = true) (hl : s.pwr.state ≠ .lockout) (hn : (s.chan (ch == 0)).nextTest = k)
    (hd : s.testDev (ch == 0) k high low mA = code) (hc : code = 1 ∨ code = 2) (hseen : (s.chan (ch == 0)).tests.getD k {} = ⟨code, 1⟩)
    (hb : s.parBit Idx.SAF_STUCK (if code = 1 then k else 4 + k) = false) :
    ∃ t, exec (.switchTest ch k high low mA) s = .next t ∧
      t.par Idx.SAF_STUCK = setBit (s.parN Idx.SAF_STUCK) (if code = 1 then k else 4 + k) true ∧ s.Records t 0x091B 5 0xFF ∧
      (s.soClosed k = true → t.saf.stuckAt = some s.pwr.opTime ∧ t.hst.stopReq = some 1 ∧ t.pwr = s.pwr) ∧
      (s.soClosed k = false → s.LockedOut t 9) ∧
      s.EventsOnly t [Idx.SAF_STUCK, Idx.SAF_LOCKCAUSE, Idx.HST_LEARNSTAT, Idx.HST_LEARNCAUSE] ∧ s.SafetyFrame t := by
  have hex := exec_switchTest (high := high) (low := low) (mA := mA) hch hk hr hn
  have hsee : (SafDev.see ⟨code, 1⟩ code).count = 2 := by
    rcases hc with rfl | rfl <;> rfl
  dsimp only at hex
  rw [hd, hseen, if_pos (hsee ▸ Nat.le_refl 2)] at hex
  have hqual (u : State) : ∃ h : Bool, u.qualified ch k code = u.switchStuck ch k h ∧ (if h then k else 4 + k) = if code = 1 then k else 4 + k := by
    rcases hc with rfl | rfl
    · exact ⟨true, rfl, rfl⟩
    · exact ⟨false, rfl, rfl⟩
  obtain ⟨h, hq, hbit⟩ := hqual (s.tested (ch == 0) k code)
  obtain ⟨hself, hother, -, a, b, p, hframe⟩ := s.tested_facts (ch == 0) k code
  have hso : (s.tested (ch == 0) k code).soClosed k = s.soClosed k := by
    have hsw (i : Bool) : ((s.tested (ch == 0) k code).chan i).sw = (s.chan i).sw := by
      by_cases hi : i = (ch == 0)
      · rw [hi, hself]
      · rw [Bool.eq_not.mpr hi, hother]
    have ha := hsw true
    have hb := hsw false
    unfold State.soClosed
    rw [show (s.tested (ch == 0) k code).saf.chA.sw = s.saf.chA.sw from ha, show (s.tested (ch == 0) k code).saf.chB.sw = s.saf.chB.sw from hb]
  rw [hq] at hex
  rw [hframe] at hex hso
  obtain ⟨hpar, hrec, hclosed, hopen, hev, hsframe⟩ := State.switchStuck_facts
    (s := { s with saf.chA := a, saf.chB := b, saf.passes := p }) ch k h hl (by rw [hbit]; exact hb)
  rw [hbit] at hpar
  rw [hso] at hclosed hopen
  refine ⟨_, hex, hpar, fun hh => hrec hh, hclosed, fun ho => ?_, hev,
    State.SafetyFrame.trans ⟨_, _, _, _, _, _, _, _, _, _, _, rfl⟩ hsframe⟩
  obtain ⟨h1, h2, h3, h4, h5, h6, hlrec⟩ := hopen ho
  exact ⟨h1, h2, h3, h4, h5, h6, fun hh => hlrec hh⟩

theorem execStuckSwitchLockout_of_due {s : State} {at_ : Nat} (hr : s.saf.running = true) (hl : s.pwr.state ≠ .lockout)
    (hs : s.saf.stuckAt = some at_) (hd : s.standing = true ∨ at_ + 30000 ≤ s.pwr.opTime) :
    ∃ t, exec .stuckSwitchLockout s = .next t ∧ s.LockedOut t 9 ∧ t.saf.stuckAt = none ∧
      s.EventsOnly t [Idx.SAF_LOCKCAUSE, Idx.HST_LEARNSTAT, Idx.HST_LEARNCAUSE] ∧ s.SafetyFrame t := by
  have hex : exec .stuckSwitchLockout s = .next (State.safLockout { s with saf.stuckAt := none } 9 0xFF) := by
    refine occurs_pos ?_
    rw [hr, hs]
    simpa using hd
  obtain ⟨⟨h1, h2, h3, h4, h5, h6, hlrec⟩, hlev, hstuck, -, hlframe⟩ := State.safLockout_facts (s := { s with saf.stuckAt := none }) 9 0xFF hl
  exact ⟨_, hex, ⟨h1, h2, h3, h4, h5, h6, fun hh => hlrec hh⟩, hstuck, hlev,
    State.SafetyFrame.trans ⟨_, _, _, _, _, _, _, _, _, _, _, rfl⟩ hlframe⟩

/-- What a frame names. -/
theorem State.SafetyFrame.eq {s t : State} (h : s.SafetyFrame t) :
    t = { s with dir := t.dir, pwr := t.pwr, hst := t.hst, cle.slots := t.cle.slots, dr0 := t.dr0, dr1 := t.dr1, saf := t.saf,
                 fio.ch := t.fio.ch, can0 := t.can0, can1 := t.can1, tph := t.tph } := by
  obtain ⟨_, _, _, _, _, _, _, _, _, _, _, rfl⟩ := h
  rfl

/-- Settles O30: the cycle channel by channel, and each trip on a new cause. -/
theorem safetyCycleAndTrips : Obligations.SafetyCycleAndTrips := by
  refine ⟨fun s ch diag nodes recOk hch hr hl hd => ?_, fun s ch hch hr hm hc => execSafTripSf5_of_count hch hr hm hc,
    fun s ch i n hch hr hi hn hc => execSafTripSf9_of_count hch hr hi hn hc, fun s ch hch hr hm hc => execSafTripDl_of_count hch hr hm hc,
    fun s hr hw hc => execSafContactor_of_wrong hr hw hc, fun s ch k mA high low hch hk hr hn hd => execSwitchTest_of_clean hch hk hr hn hd,
    fun s ch k mA high low code hch hk hr hl hn hd hc hseen hb => ?_, fun s at_ hr hl hs hd => ?_⟩
  · obtain ⟨t, ht, h, hlock⟩ := execSafetyCycle_of_running (recOk := recOk) (nodes := nodes) hch hr hl hd
    exact ⟨t, ht, h.cycle, h.granted, h.closed, h.active, h.other, hlock, h.events, h.frame.eq⟩
  · obtain ⟨t, ht, hpar, hrec, hclosed, hopen, hev, hframe⟩ := execSwitchTest_of_stuck hch hk hr hl hn hd hc hseen hb
    exact ⟨t, ht, hpar, hrec, hclosed, hopen, hev, hframe.eq⟩
  · obtain ⟨t, ht, hlock, hstuck, hev, hframe⟩ := execStuckSwitchLockout_of_due hr hl hs hd
    exact ⟨t, ht, hlock, hstuck, hev, hframe.eq⟩

end Sys2Proof.Machine
end

section
/-!
PROOFS. The brake torque test and the reset button (12 R316, R321).
-/
namespace Sys2Proof.Machine

/-! ## The brake torque test (12 R316) -/

/-- A passed test: its result and time, and the record. -/
theorem State.btPass_facts (s : State) :
    s.btPass.par Idx.SAF_BTRESULT = 1 ∧ s.btPass.par Idx.SAF_BTTIME = s.pwr.opTime ∧ s.Records s.btPass 0x0919 1 0xFF ∧
      s.EventsOnly s.btPass [Idx.SAF_BTRESULT, Idx.SAF_BTTIME] ∧
      s.btPass = { s with dir := s.btPass.dir, saf.btPhase := 0, saf.btLast := some s.pwr.opTime, saf.btFailed := false,
                          saf.parkedAt := none, tph := s.btPass.tph } := by
  obtain ⟨d1, h1, -⟩ := s.setOwn_eq (i := Idx.SAF_BTRESULT) 1 btResult_noConfig
  obtain ⟨d2, h2, -⟩ := (s.setOwn Idx.SAF_BTRESULT 1).setOwn_eq (i := Idx.SAF_BTTIME) s.pwr.opTime btTime_noConfig
  have hev := ((State.EventsOnly.refl s [Idx.SAF_BTRESULT, Idx.SAF_BTTIME]).setOwn 1 (by simp) btResult_noConfig).setOwn
    (i := Idx.SAF_BTTIME) s.pwr.opTime (by simp) btTime_noConfig
  have hres : ((s.setOwn Idx.SAF_BTRESULT 1).setOwn Idx.SAF_BTTIME s.pwr.opTime).par Idx.SAF_BTRESULT = 1 := by
    rw [State.par_setOwn' _ _ _ _ btTime_noConfig, if_neg (by decide), State.par_setOwn' _ _ _ _ btResult_noConfig, if_pos rfl]
  have htime : ((s.setOwn Idx.SAF_BTRESULT 1).setOwn Idx.SAF_BTTIME s.pwr.opTime).par Idx.SAF_BTTIME = s.pwr.opTime := by
    rw [State.par_setOwn' _ _ _ _ btTime_noConfig, if_pos rfl]
  have hpass : s.btPass = { ((s.setOwn Idx.SAF_BTRESULT 1).setOwn Idx.SAF_BTTIME s.pwr.opTime).raise 0x0919 1 with
      saf.btPhase := 0
      saf.btLast := some (((s.setOwn Idx.SAF_BTRESULT 1).setOwn Idx.SAF_BTTIME s.pwr.opTime).raise 0x0919 1).pwr.opTime
      saf.btFailed := false, saf.parkedAt := none } := rfl
  have hu : ∃ dir, (s.setOwn Idx.SAF_BTRESULT 1).setOwn Idx.SAF_BTTIME s.pwr.opTime = { s with dir := dir } := ⟨d2, by rw [h2, h1]⟩
  obtain ⟨dir, hu⟩ := hu
  generalize (s.setOwn Idx.SAF_BTRESULT 1).setOwn Idx.SAF_BTTIME s.pwr.opTime = u at *
  have hrec : s.Records (u.raise 0x0919 1) 0x0919 1 0xFF :=
    .raise_after _ _ _ _ (by rw [hu]) (hev.1 _ (by decide)) (by rw [hu]) (by rw [hu])
  have hev' := hev.raise 0x0919 1 0xFF []
  have hres' := (u.par_raise 0x0919 1 0xFF [] Idx.SAF_BTRESULT (by decide)).trans hres
  have htime' := (u.par_raise 0x0919 1 0xFF [] Idx.SAF_BTTIME (by decide)).trans htime
  obtain ⟨d3, t3, h3, -⟩ := u.raise_eq 0x0919 1 0xFF []
  rw [hpass]
  rw [h3, hu] at hrec hev' hres' htime' ⊢
  exact ⟨hres', htime', fun hh => hrec hh, hev'.congr rfl rfl, rfl⟩

/-- An abandoned test: every switch open, recorded, and tried again after an hour. -/
theorem State.btAbandon_facts {s : State} (h : s.saf.btPhase ≠ 0) :
    s.btAbandon.par Idx.SAF_BTRESULT = 4 ∧ s.btAbandon.saf.btPhase = 0 ∧ s.btAbandon.saf.btRetry = s.pwr.opTime + 3600000 ∧
      (∀ k, s.btAbandon.soClosed k = false) ∧ s.Records s.btAbandon 0x091A 3 0xFF ∧ s.EventsOnly s.btAbandon [Idx.SAF_BTRESULT] ∧
      s.btAbandon = { s with dir := s.btAbandon.dir, saf := s.btAbandon.saf, hst.enable := false, tph := s.btAbandon.tph } := by
  have heq : s.btAbandon = { (s.openAll.raise 0x091A 3).setOwn Idx.SAF_BTRESULT 4 with
      saf.btPhase := 0, saf.btRetry := ((s.openAll.raise 0x091A 3).setOwn Idx.SAF_BTRESULT 4).pwr.opTime + 3600000,
      hst.enable := false } := if_neg h
  have hrec := (s.openAll.records_raise 0x091A 3 0xFF []).mono (u := (s.openAll.raise 0x091A 3).setOwn Idx.SAF_BTRESULT 4) (by simp)
  have hev := ((State.EventsOnly.refl s.openAll [Idx.SAF_BTRESULT]).raise 0x091A 3 0xFF []).setOwn 4 (by simp) btResult_noConfig
  have hres : ((s.openAll.raise 0x091A 3).setOwn Idx.SAF_BTRESULT 4).par Idx.SAF_BTRESULT = 4 := by
    rw [State.par_setOwn' _ _ _ _ btResult_noConfig, if_pos rfl]
  obtain ⟨d1, t1, h1, -⟩ := s.openAll.raise_eq 0x091A 3 0xFF []
  obtain ⟨d2, h2, -⟩ := (s.openAll.raise 0x091A 3).setOwn_eq (i := Idx.SAF_BTRESULT) 4 btResult_noConfig
  rw [heq]
  rw [h2, h1] at hrec hev hres ⊢
  refine ⟨hres, rfl, rfl, fun k => ?_, fun hh => hrec hh, hev.congr rfl rfl, rfl⟩
  show ((0 : Nat).testBit k && (0 : Nat).testBit k) = false
  rw [Nat.zero_testBit]
  rfl

/-- A step whose 2 s have passed. -/
theorem State.btStep_late {s : State} {p : Nat × Nat} (hp : p ∈ [(3, 4), (4, 5), (7, 8), (8, 9)]) (hph : s.saf.btPhase = p.1)
    (hw : s.btWeak = false) (ht : s.saf.btAt + 2000 ≤ s.pwr.opTime) : s.btStep = s.btTo p.2 := by
  have hlate : decide (s.saf.btAt + 2000 ≤ s.pwr.opTime) = true := decide_eq_true ht
  unfold State.btStep
  simp only [List.mem_cons, List.not_mem_nil, or_false] at hp
  rcases hp with rfl | rfl | rfl | rfl <;> dsimp only at hph ⊢ <;> rw [hw, hph, hlate] <;> rfl

theorem exec_brakeTestStep {s : State} (hr : s.saf.running = true) (hp : s.saf.btPhase ≠ 0) :
    exec .brakeTestStep s = .next (if s.btConditions = true ∧ s.hst.waiting.isEmpty = true ∧ (!s.tripped) = true then s.btStep else s.btAbandon) :=
  occurs_pos (by simp [hr, hp])

/-! ## The reset button (12 R321) -/

theorem State.manualActive_of_pending {s : State} (h : s.resetPending = true) : s.manualActive = true := by
  simp only [State.resetPending, Bool.and_eq_true] at h
  exact h.1.1

/-- The button at rest again. -/
def State.buttonUp (s : State) : State := { s with saf.pressAt := none, saf.stuckTold := false }

theorem exec_resetRelease {s : State} {since : Nat} (hr : s.saf.running = true) (hu : s.par Idx.SAF_RSTUSE ≠ 0)
    (hp : s.saf.pressAt = some since) (hun : s.unpressed = true) : exec .resetRelease s = .next (
      if s.pwr.opTime - since < 100 ∨ 5000 < s.pwr.opTime - since ∨ (!s.manualActive) = true then s.buttonUp
      else if s.resetPending = true then
        { (s.buttonUp.raise 0x0911 2).modBoth (fun c => { c with resetArmed := true }) with saf.endCause := 0x0911 }
      else s.buttonUp.raise 0x0913 2) := by
  have hsome : s.saf.pressAt.getD 0 = since := by rw [hp]; rfl
  refine (occurs_pos (by simp [hr, hu, hp, hun])).trans ?_
  dsimp only
  rw [hsome]
  rfl

theorem execResetRelease_of_valid {s : State} {since : Nat} (hr : s.saf.running = true) (hu : s.par Idx.SAF_RSTUSE ≠ 0)
    (hp : s.saf.pressAt = some since) (hun : s.unpressed = true) (h1 : 100 ≤ s.pwr.opTime - since) (h2 : s.pwr.opTime - since ≤ 5000)
    (hpend : s.resetPending = true) :
    ∃ t, exec .resetRelease s = .next t ∧ t.saf.chA = { s.saf.chA with resetArmed := true } ∧
      t.saf.chB = { s.saf.chB with resetArmed := true } ∧ t.saf.endCause = 0x0911 ∧ s.Records t 0x0911 2 0xFF ∧
      s.EventsOnly t [] ∧
      t = { s with dir := t.dir, saf.pressAt := none, saf.stuckTold := false, saf.chA := t.saf.chA, saf.chB := t.saf.chB,
                   saf.endCause := 0x0911, tph := t.tph } := by
  have hex := exec_resetRelease hr hu hp hun
  have hno : ¬(s.pwr.opTime - since < 100 ∨ 5000 < s.pwr.opTime - since ∨ (!s.manualActive) = true) := by
    rw [State.manualActive_of_pending hpend]
    simp only [Bool.not_true, Bool.false_eq_true, or_false]
    omega
  rw [if_neg hno, if_pos hpend] at hex
  have hrec := s.buttonUp.records_raise 0x0911 2 0xFF []
  have hev := (State.EventsOnly.refl s.buttonUp []).raise 0x0911 2 0xFF []
  obtain ⟨dir, tph, h, -⟩ := s.buttonUp.raise_eq 0x0911 2 0xFF []
  rw [h] at hex hrec hev
  exact ⟨_, hex, rfl, rfl, rfl, fun hh => hrec hh, hev.congr rfl rfl, rfl⟩

theorem execResetStuck_of_held {s : State} {since : Nat} (hr : s.saf.running = true) (hu : s.par Idx.SAF_RSTUSE ≠ 0)
    (hs : s.saf.stuckTold = false) (hpr : s.pressed = true) (hp : s.saf.pressAt = some since) (ht : since + 5000 ≤ s.pwr.opTime) :
    ∃ t, exec .resetStuck s = .next t ∧ s.Records t 0x0912 3 0xFF ∧ s.EventsOnly t [] ∧
      t = { s with dir := t.dir, saf.stuckTold := true, tph := t.tph } := by
  have hex : exec .resetStuck s = .next { s.raise 0x0912 3 with saf.stuckTold := true } := by
    refine occurs_pos ?_
    rw [hr, hs, hpr, hp]
    simpa [hu] using ht
  have hrec := s.records_raise 0x0912 3 0xFF []
  have hev := (State.EventsOnly.refl s []).raise 0x0912 3 0xFF []
  obtain ⟨dir, tph, h, -⟩ := s.raise_eq 0x0912 3 0xFF []
  rw [h] at hex hrec hev
  exact ⟨_, hex, fun hh => hrec hh, hev.congr rfl rfl, rfl⟩

theorem execResetDiscrepancy_of_equal {s : State} {since : Nat} (hr : s.saf.running = true) (hu : s.par Idx.SAF_RSTUSE ≠ 0)
    (he : s.saf.equalAt = some since) (ht : since + 50 < s.pwr.opTime) :
    ∃ t, exec .resetDiscrepancy s = .next t ∧ s.Records t 0x0914 3 0xFF ∧ s.EventsOnly t [] ∧
      t = { s with dir := t.dir, saf.resetBlocked := true, saf.equalAt := none, saf.pressAt := none,
                   saf.stuckTold := false, tph := t.tph } := by
  have hex : exec .resetDiscrepancy s = .next { s.raise 0x0914 3 with
      saf.resetBlocked := true, saf.equalAt := none, saf.pressAt := none, saf.stuckTold := false } := by
    refine occurs_pos ?_
    rw [hr, he]
    simpa [hu] using ht
  have hrec := s.records_raise 0x0914 3 0xFF []
  have hev := (State.EventsOnly.refl s []).raise 0x0914 3 0xFF []
  obtain ⟨dir, tph, h, -⟩ := s.raise_eq 0x0914 3 0xFF []
  rw [h] at hex hrec hev
  exact ⟨_, hex, fun hh => hrec hh, hev.congr rfl rfl, rfl⟩

/-- Settles O31: the phases of the test one by one, and the button's four ends. -/
theorem brakeTestAndReset : Obligations.BrakeTestAndReset := by
  refine ⟨fun s since hr hph hdue hre hcond htr hpark hs => ?_, fun s p hp hr hph hcond hw htr hweak ht => ?_,
    fun s hr hph hcond hw htr hso => ?_, fun s hr hph hlost => ?_,
    fun s since hr hu hp hun h1 h2 hpend => execResetRelease_of_valid hr hu hp hun h1 h2 hpend, fun s since hr hu hp hun hms => ?_,
    fun s since hr hu hs hpr hp ht => execResetStuck_of_held hr hu hs hpr hp ht, fun s since hr hu he ht => execResetDiscrepancy_of_equal hr hu he ht⟩
  · refine occurs_pos ?_
    rw [hr, hph, hdue, hcond, htr, hpark]
    simp [hre, hs]
  · have hne : s.saf.btPhase ≠ 0 := by
      rw [hph]
      simp only [List.mem_cons, List.not_mem_nil, or_false] at hp
      rcases hp with rfl | rfl | rfl | rfl <;> decide
    rw [exec_brakeTestStep hr hne, if_pos ⟨hcond, by rw [hw]; rfl, by rw [htr]; rfl⟩, State.btStep_late hp hph hweak ht]
    rfl
  · have hne : s.saf.btPhase ≠ 0 := by
      rw [hph]
      decide
    have hweak : s.btWeak = false := by
      have hhold : s.btHolding = false := by
        rw [State.btHolding, hph]
        decide
      rw [State.btWeak, hhold]
      rfl
    have hstep : s.btStep = s.btPass := by
      unfold State.btStep
      dsimp only
      rw [hweak, hph, if_neg Bool.false_ne_true]
      exact if_neg (by rw [hso]; decide)
    obtain ⟨hres, htime, hrec, hev, hframe⟩ := s.btPass_facts
    refine ⟨_, (exec_brakeTestStep hr hne).trans ?_, hres, htime, hrec, hev, hframe⟩
    rw [if_pos ⟨hcond, by rw [hw]; rfl, by rw [htr]; rfl⟩, hstep]
  · obtain ⟨hres, hphase, hretry, hopen, hrec, hev, hframe⟩ := State.btAbandon_facts hph
    refine ⟨_, (exec_brakeTestStep hr hph).trans ?_, hres, hphase, hretry, hopen, hrec, hev, hframe⟩
    rw [if_neg]
    rintro ⟨h1, h2, h3⟩
    rcases hlost with h | h | h
    · rw [h] at h1
      exact Bool.noConfusion h1
    · exact h (List.isEmpty_iff.mp h2)
    · rw [h] at h3
      exact Bool.noConfusion h3
  · rw [exec_resetRelease hr hu hp hun, if_pos (hms.elim .inl fun h => .inr (.inl h))]
    rfl

end Sys2Proof.Machine
end

section
/-!
PROOFS. Safety parameterisation (12 R324 to R327).
-/
namespace Sys2Proof.Machine

/-! ## The session and the pending sets (12 R324, R325) -/

/-- The session that a SAF_WRITE opens or goes on with. -/
theorem State.openSaf_facts (s : State) (h : Nat) :
    (s.openSaf h).saf.session = some ⟨h, s.pwr.opTime⟩ ∧
      (s.openSaf h).saf.pendA = (if s.holdsSaf h then s.saf.pendA else []) ∧
      (s.openSaf h).saf.pendB = (if s.holdsSaf h then s.saf.pendB else []) ∧
      (s.holdsSaf h = false → s.Records (s.openSaf h) 0x0917 2 0xFF) ∧ s.EventsOnly (s.openSaf h) [] ∧
      ∃ dir tph ses pa pb, s.openSaf h = { s with dir := dir, tph := tph, saf.session := ses, saf.pendA := pa, saf.pendB := pb } := by
  unfold State.openSaf
  split
  · next hh =>
    refine ⟨rfl, rfl, rfl, fun hf => ?_, .of_eq [] rfl rfl, ⟨_, _, _, _, _, rfl⟩⟩
    rw [hh] at hf
    exact Bool.noConfusion hf
  · next hh =>
    have hrec := State.records_raise { s with saf.session := some ⟨h, s.pwr.opTime⟩, saf.pendA := [], saf.pendB := [] } 0x0917 2 0xFF []
    have hev := (State.EventsOnly.refl { s with saf.session := some ⟨h, s.pwr.opTime⟩, saf.pendA := [], saf.pendB := [] } []).raise 0x0917 2 0xFF []
    obtain ⟨dir, tph, hr, -⟩ :=
      State.raise_eq { s with saf.session := some ⟨h, s.pwr.opTime⟩, saf.pendA := [], saf.pendB := [] } 0x0917 2 0xFF []
    rw [hr] at hrec hev ⊢
    exact ⟨rfl, rfl, rfl, fun _ hh => hrec hh, hev, ⟨_, _, _, _, _, rfl⟩⟩

/-- Noting a command's sequence number keeps which slots have a session. -/
theorem State.isSome_session_noteSeq (s : State) (f : Flight) (h : Nat) :
    ((s.noteSeq f).slot h).session.isSome = (s.slot h).session.isSome := by
  by_cases hh : h = f.slot
  · subst hh
    by_cases hl : f.slot < s.host.slots.length
    · rw [State.noteSeq, s.slot_modSlot_self f.slot _ hl]
      cases (s.slot f.slot).session <;> rfl
    · have hlen (g : Slot → Slot) : (modifyAt s.host.slots f.slot g).length ≤ f.slot := by
        rw [length_modifyAt]
        omega
      simp only [State.slot, State.noteSeq, State.modSlot, List.getD_eq_default _ _ (hlen _), List.getD_eq_default _ _ (Nat.not_lt.mp hl)]
  · rw [State.noteSeq, s.slot_modSlot_ne f.slot h _ hh]

theorem State.sessionOk_noteSeq (s : State) (f : Flight) (h : Nat) : (s.noteSeq f).sessionOk h = s.sessionOk h := by
  have hlock : (s.noteSeq f).setLockout h = s.setLockout h := by
    unfold State.setLockout
    rw [s.isSome_session_noteSeq f 2]
    rfl
  unfold State.sessionOk
  rw [hlock]
  rfl

/-- A SAF_WRITE whose entries pass fills both pending sets. -/
theorem execSafWrite_of_passed {s : State} {tag n : Nat} (ha : s.Admitted tag 0x30 3) (hd : (s.flight tag).safDiscard = false)
    (hcount : getU (s.flight tag).p 1 1 = n) (hn : n ≤ 16) (hok : s.sessionOk (s.flight tag).slot = true)
    (hent : ∀ k < n, (s.flight tag).safRefused k = none) :
    ∃ t, exec (.safWrite tag) s = .next t ∧ s.Completed t tag .pendingConfirm ∧
      t.saf.session = some ⟨(s.flight tag).slot, s.pwr.opTime⟩ ∧
      t.saf.pendA = ((List.range n).map fun k => ((s.flight tag).safIdx k, (s.flight tag).safVal k)).foldl putPend
        (if s.holdsSaf (s.flight tag).slot then s.saf.pendA else []) ∧
      t.saf.pendB = ((List.range n).map fun k => ((s.flight tag).safIdx k, (s.flight tag).safVal k)).foldl putPend
        (if s.holdsSaf (s.flight tag).slot then s.saf.pendB else []) ∧
      (s.holdsSaf (s.flight tag).slot = false → s.Records t 0x0917 2 0xFF) ∧ s.EventsOnly t [] ∧
      t = { s with host := t.host, dir := t.dir, saf.session := t.saf.session, saf.pendA := t.saf.pendA, saf.pendB := t.saf.pendB,
                   tph := t.tph } := by
  have hnone : (List.range n).findSome? (fun k => ((s.flight tag).safRefused k).map fun st => (st, (s.flight tag).safIdx k)) = none := by
    refine List.findSome?_eq_none_iff.mpr fun k hk => ?_
    rw [hent k (List.mem_range.mp hk)]
    rfl
  obtain ⟨payload, hex⟩ : ∃ payload, exec (.safWrite tag) s = .next (
      let u := (s.noteSeq (s.flight tag)).openSaf (s.flight tag).slot
      let ps := (List.range n).map fun k => ((s.flight tag).safIdx k, (s.flight tag).safVal k)
      State.complete { u with saf.pendA := ps.foldl putPend u.saf.pendA, saf.pendB := ps.foldl putPend u.saf.pendB }
        (s.flight tag) .pendingConfirm 0 payload) := by
    have h : exec (.safWrite tag) s = occurs (s.hostReady tag 0x30 && !(s.flight tag).safDiscard) s
      (s.hostCmd tag 3 fun s f => s.safWrite f) := rfl
    rw [occurs, if_pos (by simp [ha.1, hd]), State.hostCmd_of_admitted ha] at h
    unfold State.safWrite at h
    dsimp only at h
    rw [hcount, if_neg (by omega), (s.sessionOk_noteSeq _ _).trans hok, if_neg (by decide), hnone] at h
    exact ⟨_, h⟩
  dsimp only at hex
  obtain ⟨hses, hpa, hpb, hrec, hev, dir, tph, ses, pa, pb, hopen⟩ := (s.noteSeq (s.flight tag)).openSaf_facts (s.flight tag).slot
  rw [hopen] at hex hses hpa hpb hrec hev
  refine ⟨_, hex, s.completed_complete _ tag 0x30 .pendingConfirm 0 payload false false ha.1 rfl, hses, ?_, ?_, fun hh hhh => hrec hh hhh, hev, rfl⟩
  · exact congrArg (((List.range n).map fun k => ((s.flight tag).safIdx k, (s.flight tag).safVal k)).foldl putPend) hpa
  · exact congrArg (((List.range n).map fun k => ((s.flight tag).safIdx k, (s.flight tag).safVal k)).foldl putPend) hpb

theorem execSafWrite_of_noSession {s : State} {tag : Nat} (ha : s.Admitted tag 0x30 3) (hd : (s.flight tag).safDiscard = false)
    (hn : getU (s.flight tag).p 1 1 ≤ 16) (hok : s.sessionOk (s.flight tag).slot = false) :
    ∃ t, exec (.safWrite tag) s = .next t ∧ s.Completed t tag .state ∧ t = { s with host := t.host } := by
  have hex : exec (.safWrite tag) s = .next ((s.noteSeq (s.flight tag)).complete (s.flight tag) .state) := by
    refine (occurs_pos (by simp [ha.1, hd])).trans ?_
    rw [State.hostCmd_of_admitted ha]
    unfold State.safWrite
    dsimp only
    rw [if_neg (by omega), (s.sessionOk_noteSeq _ _).trans hok, if_pos (by decide)]
  exact ⟨_, hex, s.completed_complete _ tag 0x30 .state 0 [] false false ha.1 rfl, rfl⟩

theorem execSafWriteDiscard_of_held {s : State} {tag : Nat} (ha : s.Admitted tag 0x30 3) (hd : (s.flight tag).safDiscard = true)
    (hh : s.holdsSaf (s.flight tag).slot = true) (hc : s.saf.confirm = none) :
    ∃ t, exec (.safWriteDiscard tag) s = .next t ∧ s.Completed t tag .ok ∧
      t = { s with host := t.host, saf.session := none, saf.pendA := [], saf.pendB := [] } := by
  have hex : exec (.safWriteDiscard tag) s = .next ((s.noteSeq (s.flight tag)).endSafSession.complete (s.flight tag) .ok) := by
    refine (occurs_pos (by simp [ha.1, hd])).trans ?_
    rw [State.hostCmd_of_admitted ha, show (s.noteSeq (s.flight tag)).holdsSaf (s.flight tag).slot = true from hh,
      show (s.noteSeq (s.flight tag)).saf.confirm = none from hc, if_neg (by decide)]
  exact ⟨_, hex, s.completed_complete _ tag 0x30 .ok 0 [] false false ha.1 rfl, rfl⟩

/-! ## Confirmation (12 R327) -/

theorem execSafConfirm_of_agreed {s : State} {tag : Nat} (ha : s.Admitted tag 0x31 3) (hh : s.holdsSaf (s.flight tag).slot = true)
    (hc : s.saf.confirm = none) (hA : getU (s.flight tag).p 0 4 = s.pendCrc s.saf.pendA)
    (hB : getU (s.flight tag).p 0 4 = s.pendCrc s.saf.pendB) (hset : s.setConflict (pendVal s s.saf.pendA) = none)
    (hok : s.sessionAllowed = true) :
    ∃ t, exec (.safConfirm tag) s = .next t ∧ (t.flight tag).phase = .safWait ∧ t.host.store = s.host.store ∧
      t = { s with host := t.host, saf.inactiveA := some s.saf.pendA, saf.inactiveB := some s.saf.pendB,
                   saf.confirm := some tag } := by
  have hex : exec (.safConfirm tag) s = .next (State.setPhase { s.noteSeq (s.flight tag) with
      saf.inactiveA := some s.saf.pendA, saf.inactiveB := some s.saf.pendB, saf.confirm := some tag } tag .safWait) := by
    refine (occurs_pos ha.1).trans ?_
    rw [State.hostCmd_of_admitted ha, show (s.noteSeq (s.flight tag)).holdsSaf (s.flight tag).slot = true from hh,
      show (s.noteSeq (s.flight tag)).saf.confirm = none from hc, if_neg (by decide),
      show (s.noteSeq (s.flight tag)).pendCrc (s.noteSeq (s.flight tag)).saf.pendA = getU (s.flight tag).p 0 4 from hA.symm,
      show (s.noteSeq (s.flight tag)).pendCrc (s.noteSeq (s.flight tag)).saf.pendB = getU (s.flight tag).p 0 4 from hB.symm,
      if_neg (fun h => h.elim (fun h => h rfl) fun h => h rfl),
      show (s.noteSeq (s.flight tag)).setConflict (pendVal (s.noteSeq (s.flight tag)) (s.noteSeq (s.flight tag)).saf.pendA) = none from hset]
    dsimp only
    rw [show (s.noteSeq (s.flight tag)).sessionAllowed = true from hok, Bool.true_or, if_neg (by decide)]
    rfl
  obtain ⟨hphase, hstore, -⟩ := State.waits_of_setPhase .safWait ha
  exact ⟨_, hex, hphase, hstore, rfl⟩

theorem execSafConfirm_of_conflict {s : State} {tag : Nat} (ha : s.Admitted tag 0x31 3) (hh : s.holdsSaf (s.flight tag).slot = true)
    (hc : s.saf.confirm = none) (hA : getU (s.flight tag).p 0 4 ≠ s.pendCrc s.saf.pendA) :
    ∃ t, exec (.safConfirm tag) s = .next t ∧ s.Completed t tag .conflict ∧ t = { s with host := t.host } := by
  have hex : exec (.safConfirm tag) s = .next ((s.noteSeq (s.flight tag)).complete (s.flight tag) .conflict) := by
    refine (occurs_pos ha.1).trans ?_
    rw [State.hostCmd_of_admitted ha, show (s.noteSeq (s.flight tag)).holdsSaf (s.flight tag).slot = true from hh,
      show (s.noteSeq (s.flight tag)).saf.confirm = none from hc, if_neg (by decide)]
    exact congrArg Host.Outcome.next (if_pos (Or.inl hA))
  exact ⟨_, hex, s.completed_complete _ tag 0x31 .conflict 0 [] false false ha.1 rfl, rfl⟩

/-! ## The common switch (12 R327) -/

/-- What is durable of an index. -/
def State.dur (s : State) (i : Nat) : Option Int := (pvFind s.dir.durable i).map fun q => q.val

theorem State.dur_parDurable (s : State) (i j : Nat) : (s.parDurable i).dur j = if i = j then some (s.par i) else s.dur j := by
  unfold State.dur State.parDurable
  dsimp only
  rw [pvFind_pvPut]
  by_cases h : i = j
  · rw [if_pos h, if_pos h]
    rfl
  · rw [if_neg h, if_neg h]

theorem State.dur_setOwn {s : State} {i j : Nat} (v : Int) (hc : isConfig i = false) (hj : i ≠ j) : (s.setOwn i v).dur j = s.dur j := by
  unfold State.setOwn State.countConfig
  split
  · rfl
  · rw [hc, if_neg Bool.false_ne_true, State.dur_parDurable, if_neg hj]
    rfl

theorem State.dur_countChange {s : State} {j : Nat} (hj : Idx.DEV_CFGCOUNT ≠ j) : s.countChange.dur j = s.dur j :=
  (State.dur_parDurable _ _ _).trans (if_neg hj)

theorem State.dur_raise (s : State) (code sev inst : Nat) (data : List (Nat × Int)) {j : Nat} (hj : Idx.TPH_BUFDROPS ≠ j) :
    (s.raise code sev inst data).dur j = s.dur j := by
  unfold State.raise State.raiseEvt State.queueEvt
  split
  · rfl
  · split
    · split
      · rfl
      · exact State.dur_setOwn _ bufdrops_noConfig hj
    · rfl

/-- A parameter of the set takes its value, durable. -/
def State.adoptOne (s : State) (p : Nat × Int) : State := (s.setPar p.1 p.2).parDurable p.1

theorem State.adoptOne_facts (s : State) (p : Nat × Int) (j : Nat) :
    (s.adoptOne p).par j = (if p.1 = j then p.2 else s.par j) ∧ (s.adoptOne p).dur j = if p.1 = j then some p.2 else s.dur j := by
  have hpar : (s.setPar p.1 p.2).par p.1 = p.2 := (s.par_setPar p.1 p.1 p.2).trans (if_pos rfl)
  refine ⟨s.par_setPar p.1 j p.2, (State.dur_parDurable _ _ _).trans ?_⟩
  rw [hpar]
  rfl

/-- A set with each index once: every one takes its value. -/
theorem State.foldl_adoptOne (l : List (Nat × Int)) (s : State) (hl : (l.map fun p => p.1).Nodup) :
    (∀ p ∈ l, (l.foldl State.adoptOne s).par p.1 = p.2 ∧ (l.foldl State.adoptOne s).dur p.1 = some p.2) ∧
      (∀ j, (j ∉ l.map fun p => p.1) → (l.foldl State.adoptOne s).par j = s.par j ∧ (l.foldl State.adoptOne s).dur j = s.dur j) ∧
      (l.foldl State.adoptOne s).dir.tables = s.dir.tables ∧ ∃ dir, l.foldl State.adoptOne s = { s with dir := dir } := by
  induction l generalizing s with
  | nil => exact ⟨fun p hp => absurd hp List.not_mem_nil, fun _ _ => ⟨rfl, rfl⟩, rfl, s.dir, rfl⟩
  | cons q l ih =>
    obtain ⟨hq, hl⟩ := List.nodup_cons.mp hl
    obtain ⟨hin, hout, htab, dir, heq⟩ := ih (s.adoptOne q) hl
    refine ⟨fun p hp => ?_, fun j hj => ?_, htab, ⟨dir, heq⟩⟩
    · rcases List.mem_cons.mp hp with rfl | hp
      · obtain ⟨h1, h2⟩ := hout p.1 hq
        obtain ⟨h3, h4⟩ := s.adoptOne_facts p p.1
        exact ⟨h1.trans (h3.trans (if_pos rfl)), h2.trans (h4.trans (if_pos rfl))⟩
      · exact hin p hp
    · obtain ⟨hjq, hjl⟩ := not_or.mp fun h => hj (List.mem_cons.mpr h)
      obtain ⟨h1, h2⟩ := hout j hjl
      obtain ⟨h3, h4⟩ := s.adoptOne_facts q j
      exact ⟨h1.trans (h3.trans (if_neg (Ne.symm hjq))), h2.trans (h4.trans (if_neg (Ne.symm hjq)))⟩

theorem setCount_noConfig : isConfig Idx.SAF_SETCOUNT = false := by decide +kernel

theorem swIndices_ne : ∀ i ∈ swIndices, Idx.SAF_SETCOUNT ≠ i ∧ Idx.DEV_CFGCOUNT ≠ i ∧ Idx.TPH_BUFDROPS ≠ i ∧ Idx.TPH_RECSEV ≠ i := by
  decide +kernel

/-- The counts and the record of a set that becomes active. -/
def State.setTold (s : State) (data : List (Nat × Int)) : State := ((s.bump Idx.SAF_SETCOUNT).countChange).raise 0x0918 3 0xFF data

theorem State.setTold_facts (s : State) (data : List (Nat × Int)) :
    (∀ i ∈ swIndices, (s.setTold data).par i = s.par i ∧ (s.setTold data).dur i = s.dur i) ∧ s.Records (s.setTold data) 0x0918 3 0xFF ∧
      s.EventsOnly (s.setTold data) [Idx.SAF_SETCOUNT, Idx.DEV_CFGCOUNT] ∧
      ∃ dir tph, s.setTold data = { s with dir := dir, tph := tph, sec.measDirty := true } := by
  have hb := (State.EventsOnly.refl s [Idx.SAF_SETCOUNT, Idx.DEV_CFGCOUNT]).bump 1 (i := Idx.SAF_SETCOUNT) (by simp) setCount_noConfig
  have hcc : s.EventsOnly (s.bump Idx.SAF_SETCOUNT).countChange [Idx.SAF_SETCOUNT, Idx.DEV_CFGCOUNT] := by
    refine ⟨fun j hj => ?_, State.tablesKept_of hb.tables, hb.2.2⟩
    exact (State.par_countChange _ j fun he => hj (by simp [he])).trans (hb.1 j hj)
  have hkept (i : Nat) (hi : i ∈ swIndices) : (s.bump Idx.SAF_SETCOUNT).countChange.par i = s.par i ∧
      (s.bump Idx.SAF_SETCOUNT).countChange.dur i = s.dur i := by
    obtain ⟨h1, h2, h3, -⟩ := swIndices_ne i hi
    refine ⟨hcc.1 i ?_, (State.dur_countChange h2).trans (State.dur_setOwn _ setCount_noConfig h1)⟩
    simp only [List.mem_cons, List.not_mem_nil, or_false, not_or]
    exact ⟨Ne.symm h3, Ne.symm h1, Ne.symm h2⟩
  have heq : ∃ dir, (s.bump Idx.SAF_SETCOUNT).countChange = { s with dir := dir, sec.measDirty := true } := by
    obtain ⟨dir, h, -⟩ := s.bump_eq (i := Idx.SAF_SETCOUNT) 1 setCount_noConfig
    rw [h]
    exact ⟨_, rfl⟩
  obtain ⟨dir, heq⟩ := heq
  unfold State.setTold
  generalize (s.bump Idx.SAF_SETCOUNT).countChange = u at *
  have hrec : s.Records (u.raise 0x0918 3 0xFF data) 0x0918 3 0xFF :=
    .raise_after _ _ _ _ (by rw [heq]) (hcc.1 _ (by decide)) (by rw [heq]) (by rw [heq])
  refine ⟨fun i hi => ?_, hrec, hcc.raise _ _ _ _, ?_⟩
  · obtain ⟨hp, hd⟩ := hkept i hi
    obtain ⟨-, -, h3, -⟩ := swIndices_ne i hi
    exact ⟨(u.par_raise _ _ _ _ i (Ne.symm h3)).trans hp, (u.dur_raise _ _ _ _ h3).trans hd⟩
  · obtain ⟨d2, t2, h2, -⟩ := u.raise_eq 0x0918 3 0xFF data
    exact ⟨d2, t2, by rw [h2, heq]⟩

theorem execSafetySetSwitch_of_confirmed {s : State} {tag : Nat} {f : Flight} {l : List (Nat × Int)} (hc : s.saf.confirm = some tag)
    (hr : s.saf.running = true) (hf : s.flight? tag = some f) (hA : s.saf.inactiveA = some l) (hl : (l.map fun p => p.1).Nodup)
    (hsw : ∀ p ∈ l, p.1 ∈ swIndices) :
    ∃ t, exec .safetySetSwitch s = .next t ∧ s.Completed t tag .ok ∧
      (∀ p ∈ l, t.par p.1 = p.2 ∧ (pvFind t.dir.durable p.1).map (fun q => q.val) = some p.2) ∧
      s.Records t 0x0918 3 0xFF ∧
      s.EventsOnly t (Idx.SAF_SETCOUNT :: Idx.DEV_CFGCOUNT :: l.map fun p => p.1) ∧
      t = { s with host := t.host, dir := t.dir, saf.session := none, saf.pendA := [], saf.pendB := [], saf.inactiveA := none,
                   saf.inactiveB := none, saf.confirm := none, tph := t.tph, sec.measDirty := true } := by
  obtain ⟨hin, hout, htab, dir, heq⟩ := State.foldl_adoptOne l s hl
  have hkeys : ∀ i ∈ l.map (fun p => p.1), i ∈ swIndices := fun i hi => by
    obtain ⟨p, hp, rfl⟩ := List.mem_map.mp hi
    exact hsw p hp
  obtain ⟨data, hadopt⟩ : ∃ data, s.adoptSet = { ((l.foldl State.adoptOne s).setTold data).endSafSession with
      saf.inactiveA := none, saf.inactiveB := none, saf.confirm := none } := by
    refine ⟨[(4, s.setCrc), (4, (l.foldl State.adoptOne s).setCrc)], ?_⟩
    unfold State.adoptSet
    rw [hA]
    rfl
  have hex : exec .safetySetSwitch s = .next (match s.adoptSet.flight? tag with
      | some f => s.adoptSet.complete f .ok 0 [] true
      | none => s.adoptSet) := by
    refine (occurs_pos (by simp [hc, hr])).trans ?_
    rw [hc]
    rfl
  have hfold : s.EventsOnly (l.foldl State.adoptOne s) (Idx.SAF_SETCOUNT :: Idx.DEV_CFGCOUNT :: l.map fun p => p.1) := by
    refine ⟨fun j hj => (hout j fun hm => hj ?_).1, State.tablesKept_of htab, State.RecorderKept.of_eq (by rw [heq])⟩
    exact List.mem_cons_of_mem _ (List.mem_cons_of_mem _ (List.mem_cons_of_mem _ hm))
  obtain ⟨hkept, hrec, hev, d2, t2, htold⟩ := (l.foldl State.adoptOne s).setTold_facts data
  have hrecs : s.Records ((l.foldl State.adoptOne s).setTold data) 0x0918 3 0xFF := by
    refine hrec.after hfold.2.2 (hout _ fun hm => (swIndices_ne _ (hkeys _ hm)).2.2.2 rfl).1 (by rw [heq]) (by rw [heq])
  have hevs := hfold.trans (hev.mono (js := Idx.SAF_SETCOUNT :: Idx.DEV_CFGCOUNT :: l.map fun p => p.1) (by simp))
  have hvals : ∀ p ∈ l, ((l.foldl State.adoptOne s).setTold data).par p.1 = p.2 ∧
      ((l.foldl State.adoptOne s).setTold data).dur p.1 = some p.2 := fun p hp => by
    obtain ⟨h1, h2⟩ := hkept p.1 (hsw p hp)
    obtain ⟨h3, h4⟩ := hin p hp
    exact ⟨h1.trans h3, h2.trans h4⟩
  rw [htold, heq] at hadopt hrecs hevs hvals
  have hf' : s.adoptSet.flight? tag = some f := by
    rw [hadopt]
    exact hf
  rw [hf', hadopt] at hex
  have htag : f.d.tag = tag := by simpa using List.find?_some hf
  have hslot : (s.flight tag).slot = f.slot := by rw [State.flight, hf]; rfl
  refine ⟨_, hex, ?_, hvals, fun hh => hrecs hh, hevs.congr rfl rfl, rfl⟩
  refine ⟨⟨completionOf f.d .ok 0 [] (true || f.phase.committed) (false || f.after), by rw [hslot]; rfl, htag, rfl⟩, fun g hg => ?_⟩
  have hne := (List.mem_filter.mp hg).2
  rw [htag] at hne
  simpa using hne

/-- Settles O32: each command by its checks, and the switch by the fold of the set it adopts. -/
theorem safetySetsArePendingThenSwitched : Obligations.SafetySetsArePendingThenSwitched :=
  ⟨fun _ _ _ ha hd hcount hn hok hent => execSafWrite_of_passed ha hd hcount hn hok hent,
    fun _ _ ha hd hn hok => execSafWrite_of_noSession ha hd hn hok, fun _ _ ha hd hh hc => execSafWriteDiscard_of_held ha hd hh hc,
    fun _ _ ha hh hc hA hB hset hok => execSafConfirm_of_agreed ha hh hc hA hB hset hok,
    fun _ _ ha hh hc hA => execSafConfirm_of_conflict ha hh hc hA,
    fun _ _ _ _ hc hr hf hA hl hsw => execSafetySetSwitch_of_confirmed hc hr hf hA hl hsw,
    fun s x hc hx ht => occurs_pos (by rw [hc, hx]; simpa using ht)⟩

end Sys2Proof.Machine
end

section
/-!
PROOFS. A controller by its number, and the steps of a bus (14).
-/
namespace Sys2Proof.Machine

/-! ## A controller by its number (14) -/

theorem State.can_modCan_self (s : State) (b : Nat) (f : Can → Can) : (s.modCan b f).can b = f (s.can b) := by
  unfold State.modCan State.can
  split <;> rfl

theorem State.can_modCan_other (s : State) (b : Nat) (f : Can → Can) : (s.modCan b f).can (1 - b) = s.can (1 - b) := by
  unfold State.modCan State.can
  rcases b with _ | b
  · rfl
  · rw [Nat.sub_eq_zero_of_le (by omega)]
    rfl

theorem State.modCan_eq (s : State) (b : Nat) (f : Can → Can) : ∃ c0 c1, s.modCan b f = { s with can0 := c0, can1 := c1 } := by
  unfold State.modCan
  split
  · exact ⟨_, s.can1, rfl⟩
  · exact ⟨s.can0, _, rfl⟩

/-- Other blocks do not count. -/
theorem State.can_congr {s t : State} (h0 : t.can0 = s.can0) (h1 : t.can1 = s.can1) (b : Nat) : t.can b = s.can b := by
  unfold State.can
  rw [h0, h1]

/-- From `s` to `t` controller `b` became `c`; beside it only events were raised and the listed parameters written. -/
structure State.CanStep (b : Nat) (is : List Nat) (s t : State) (c : Can) : Prop where
  can : t.can b = c
  other : t.can (1 - b) = s.can (1 - b)
  frame : ∃ dir c0 c1 tph, t = { s with dir := dir, can0 := c0, can1 := c1, tph := tph }
  events : s.EventsOnly t is

variable {b : Nat} {is : List Nat} {s t : State} {c : Can}

theorem State.CanStep.refl (b : Nat) (is : List Nat) (s : State) : State.CanStep b is s s (s.can b) :=
  ⟨rfl, rfl, ⟨_, s.can0, s.can1, _, rfl⟩, .refl s is⟩

theorem State.CanStep.modCan (h : State.CanStep b is s t c) (f : Can → Can) : State.CanStep b is s (t.modCan b f) (f c) := by
  obtain ⟨dir, c0, c1, tph, ht⟩ := h.frame
  refine ⟨(t.can_modCan_self b f).trans (congrArg f h.can), (t.can_modCan_other b f).trans h.other, ?_, h.events.congr (by simp) (by simp)⟩
  obtain ⟨d0, d1, hm⟩ := t.modCan_eq b f
  exact ⟨dir, d0, d1, tph, by rw [hm, ht]⟩

theorem State.CanStep.raise (h : State.CanStep b is s t c) (code sev inst : Nat) (data : List (Nat × Int)) :
    State.CanStep b is s (t.raise code sev inst data) c := by
  obtain ⟨dir, c0, c1, tph, ht⟩ := h.frame
  refine ⟨(State.can_congr (by simp) (by simp) b).trans h.can, (State.can_congr (by simp) (by simp) _).trans h.other, ?_, h.events.raise _ _ _ _⟩
  obtain ⟨d, p, hr, -⟩ := t.raise_eq code sev inst data
  exact ⟨d, c0, c1, p, by rw [hr, ht]⟩

theorem State.raiseEvt_eq (s : State) (e : Evt) : ∃ dir tph, s.raiseEvt e = { s with dir := dir, tph := tph } := by
  refine ⟨(s.raiseEvt e).dir, (s.raiseEvt e).tph, ?_⟩
  apply State.eq_of_blocks <;> simp

theorem State.CanStep.raiseCounted (h : State.CanStep b is s t c) (code sev inst : Nat) (data : List (Nat × Int)) :
    State.CanStep b is s (t.raiseCounted code sev inst data) c := by
  obtain ⟨dir, c0, c1, tph, ht⟩ := h.frame
  obtain ⟨d, p, hr⟩ := t.raiseEvt_eq { code := code, sev := sev, inst := inst, data := placeData [] data, counted := true }
  have hr' : t.raiseCounted code sev inst data = { t with dir := d, tph := p } := hr
  refine ⟨?_, ?_, ⟨d, c0, c1, p, by rw [hr', ht]⟩, h.events.raiseCounted _ _ _ _⟩
  · rw [hr']
    exact h.can
  · rw [hr']
    exact h.other

theorem State.CanStep.bump (h : State.CanStep b is s t c) {i : Nat} (k : Nat) (hi : i ∈ is) (hc : isConfig i = false) :
    State.CanStep b is s (t.bump i k) c := by
  obtain ⟨dir, c0, c1, tph, ht⟩ := h.frame
  obtain ⟨d, hb, -⟩ := t.bump_eq k hc
  refine ⟨?_, ?_, ⟨d, c0, c1, tph, by rw [hb, ht]⟩, h.events.bump k hi hc⟩
  · rw [hb]
    exact h.can
  · rw [hb]
    exact h.other

/-- An event raised on the way. -/
theorem State.CanStep.records (h : State.CanStep b is s t c) (hs : Idx.TPH_RECSEV ∉ Idx.TPH_BUFDROPS :: is) (e : Evt) :
    s.Records (t.raiseEvt e) e.code e.sev e.inst := by
  obtain ⟨dir, c0, c1, tph, ht⟩ := h.frame
  exact (t.records_raiseEvt e).after h.events.2.2 (h.events.1 _ hs) (by rw [ht]) (by rw [ht])

theorem State.CanStep.mono {js : List Nat} (h : State.CanStep b is s t c) (hs : is ⊆ js) : State.CanStep b js s t c :=
  ⟨h.can, h.other, h.frame, h.events.mono hs⟩

theorem State.CanStep.frame_eq (h : State.CanStep b is s t c) :
    t = { s with dir := t.dir, can0 := t.can0, can1 := t.can1, tph := t.tph } := by
  obtain ⟨dir, c0, c1, tph, ht⟩ := h.frame
  rw [ht]

theorem State.CanStep.pwr (h : State.CanStep b is s t c) : t.pwr = s.pwr := by
  obtain ⟨dir, c0, c1, tph, ht⟩ := h.frame
  rw [ht]

theorem State.CanStep.tables (h : State.CanStep b is s t c) : t.dir.tables = s.dir.tables := h.events.tables

/-- The configuration of the stations stands. -/
theorem State.canCfg_congr {s t : State} (h : t.dir.tables = s.dir.tables) (b off n : Nat) : t.canCfg b off n = s.canCfg b off n := by
  unfold State.canCfg State.tblN State.tbl
  rw [h]

theorem State.objRole_congr {s t : State} (h : t.dir.tables = s.dir.tables) (b j : Nat) : t.objRole b j = s.objRole b j := by
  unfold State.objRole
  rw [State.canCfg_congr h]

theorem State.objStn_congr {s t : State} (h : t.dir.tables = s.dir.tables) (b j : Nat) : t.objStn b j = s.objStn b j :=
  State.canCfg_congr h b _ _

theorem State.objRetry_congr {s t : State} (h : t.dir.tables = s.dir.tables) (b j : Nat) : t.objRetry b j = s.objRetry b j := by
  unfold State.objRetry
  rw [State.canCfg_congr h]

theorem State.stnPresent_congr {s t : State} (h : t.dir.tables = s.dir.tables) (b n : Nat) : t.stnPresent b n = s.stnPresent b n := by
  unfold State.stnPresent
  rw [State.canCfg_congr h]

theorem State.stnType_congr {s t : State} (h : t.dir.tables = s.dir.tables) (b n : Nat) : t.stnType b n = s.stnType b n :=
  State.canCfg_congr h b _ _

theorem State.objOf_congr {s t : State} (h : t.dir.tables = s.dir.tables) (b n role : Nat) : t.objOf b n role = s.objOf b n role := by
  unfold State.objOf
  congr 1
  funext j
  rw [State.objRole_congr h, State.objStn_congr h]

theorem State.sendObjs_congr {s t : State} (h : t.dir.tables = s.dir.tables) (b : Nat) : t.sendObjs b = s.sendObjs b := by
  unfold State.sendObjs
  congr 1
  funext j
  rw [State.objRole_congr h]

/-- The changes of an object's record on the way. -/
theorem State.CanStep.modObj (h : State.CanStep b is s t c) (j : Nat) (f : CanObj → CanObj) :
    State.CanStep b is s (t.modObj b j f) { c with objs := modifyAt c.objs j f } :=
  h.modCan fun c => { c with objs := modifyAt c.objs j f }

theorem State.CanStep.modStn (h : State.CanStep b is s t c) (n : Nat) (f : CanStn → CanStn) :
    State.CanStep b is s (t.modStn b n f) { c with stns := modifyAt c.stns n f } :=
  h.modCan fun c => { c with stns := modifyAt c.stns n f }

theorem State.CanStep.cobj (h : State.CanStep b is s t c) (j : Nat) : t.cobj b j = c.objs.getD j {} :=
  congrArg (fun c : Can => c.objs.getD j {}) h.can

theorem State.CanStep.cstn (h : State.CanStep b is s t c) (n : Nat) : t.cstn b n = c.stns.getD n {} :=
  congrArg (fun c : Can => c.stns.getD n {}) h.can

/-- A controller with every object of a list changed. -/
def Can.eachObj (c : Can) (f : CanObj → CanObj) (l : List Nat) : Can := { c with objs := l.foldl (fun os j => modifyAt os j f) c.objs }

theorem State.CanStep.eachObj (h : State.CanStep b is s t c) (f : CanObj → CanObj) (l : List Nat) :
    State.CanStep b is s (l.foldl (fun s j => s.modObj b j f) t) (c.eachObj f l) := by
  induction l generalizing t c with
  | nil => exact h
  | cons j l ih => exact ih (h.modObj j f)

/-- An object of a list without repetition is changed once, and no other. -/
theorem Can.getD_eachObj (c : Can) (f : CanObj → CanObj) {l : List Nat} (hl : l.Nodup) (hlt : ∀ j ∈ l, j < c.objs.length) (j : Nat) :
    (c.eachObj f l).objs.getD j {} = if j ∈ l then f (c.objs.getD j {}) else c.objs.getD j {} := by
  unfold Can.eachObj
  dsimp only
  have hfold (os : List CanObj) (hos : ∀ j ∈ l, j < os.length) : (l.foldl (fun os j => modifyAt os j f) os).getD j {} =
      if j ∈ l then f (os.getD j {}) else os.getD j {} := by
    clear hlt
    induction l generalizing os with
    | nil => rfl
    | cons k l ih =>
      obtain ⟨hk, hl⟩ := List.nodup_cons.mp hl
      rw [List.foldl_cons, ih hl _ fun i hi => by rw [length_modifyAt]; exact hos i (List.mem_cons_of_mem _ hi)]
      by_cases hjk : j = k
      · subst hjk
        rw [if_neg hk, if_pos List.mem_cons_self, getD_modifyAt_self _ _ _ _ (hos j List.mem_cons_self)]
      · rw [getD_modifyAt_ne _ _ _ _ _ hjk]
        by_cases hjl : j ∈ l
        · rw [if_pos hjl, if_pos (List.mem_cons_of_mem _ hjl)]
        · rw [if_neg hjl, if_neg fun hm => (List.mem_cons.mp hm).elim hjk hjl]
  exact hfold c.objs hlt

theorem Can.stns_eachObj (c : Can) (f : CanObj → CanObj) (l : List Nat) : (c.eachObj f l).stns = c.stns := rfl

theorem State.sendObjs_nodup (s : State) (b : Nat) : (s.sendObjs b).Nodup := List.nodup_range.filter _

theorem State.sendObjs_lt {s : State} {b j : Nat} (h : j ∈ s.sendObjs b) : j < 128 := List.mem_range.mp (List.mem_filter.mp h).1

/-- The first acknowledged frame ends ALONE (14 R360). -/
theorem State.CanStep.canGood (h : State.CanStep b is s t c) : State.CanStep b is s (t.canGood b) { c with ackRun := 0, alone := false } := by
  unfold State.canGood
  dsimp only
  split
  · exact (h.modCan _).raise _ _ _ _
  · exact h.modCan _

theorem State.CanStep.canGood_records (h : State.CanStep b is s t c) (hs : Idx.TPH_RECSEV ∉ Idx.TPH_BUFDROPS :: is) (ha : c.alone = true) :
    s.Records (t.canGood b) (canEvent b 6) 2 0xFF := by
  unfold State.canGood
  dsimp only
  rw [h.can, if_pos ha]
  exact (h.modCan _).records hs _

end Sys2Proof.Machine
end

section
/-!
PROOFS. Sending on a bus (14 R352 to R362).
-/
namespace Sys2Proof.Machine

/-! ## Steps of a bus, one after another (14) -/

theorem State.CanStep.trans {b : Nat} {is : List Nat} {s t u : State} {c d : Can} (h : State.CanStep b is s t c) (k : State.CanStep b is t u d) :
    State.CanStep b is s u d := by
  obtain ⟨dir, c0, c1, tph, ht⟩ := h.frame
  obtain ⟨dir', d0, d1, tph', hu⟩ := k.frame
  exact ⟨k.can, k.other.trans h.other, ⟨dir', d0, d1, tph', by rw [hu, ht]⟩, h.events.trans k.events⟩

/-- What is recorded stays recorded. -/
theorem State.CanStep.recorded {b : Nat} {is : List Nat} {s t u : State} {d : Can} {code sev inst : Nat} (k : State.CanStep b is t u d)
    (h : s.Records t code sev inst) : s.Records u code sev inst := h.mono k.events.2.2.2

/-- An event is recorded after earlier steps. -/
theorem State.CanStep.then_records {b : Nat} {is : List Nat} {s t u : State} {c : Can} {code sev inst : Nat} (h : State.CanStep b is s t c)
    (hs : Idx.TPH_RECSEV ∉ Idx.TPH_BUFDROPS :: is) (k : t.Records u code sev inst) : s.Records u code sev inst := by
  obtain ⟨dir, c0, c1, tph, ht⟩ := h.frame
  exact k.after h.events.2.2 (h.events.1 _ hs) (by rw [ht]) (by rw [ht])

theorem State.CanStep.noteTdc {b : Nat} {is : List Nat} {s t : State} {c : Can} (h : State.CanStep b is s t c) (j tdcNs : Nat) :
    State.CanStep b is s (t.noteTdc b j tdcNs) { c with tdc := if t.tdcActive b j then min tdcNs 1000 else c.tdc } := by
  unfold State.noteTdc
  split
  · exact h.modCan _
  · exact h

theorem canCount_noConfig {b : Nat} (hb : b < 2) : ∀ i ∈ [Idx.CANb_ALONECNT b, Idx.CANb_ERRCNT b, Idx.CANb_NOACKCNT b, Idx.CANb_BOFFCNT b,
    Idx.CANb_LOSTCNT b, Idx.CANb_RXOVR b, Idx.CANb_UNKCNT b, Idx.CANb_SVCCNT b], isConfig i = false := by
  have hall : ∀ b < 2, ∀ i ∈ [Idx.CANb_ALONECNT b, Idx.CANb_ERRCNT b, Idx.CANb_NOACKCNT b, Idx.CANb_BOFFCNT b,
      Idx.CANb_LOSTCNT b, Idx.CANb_RXOVR b, Idx.CANb_UNKCNT b, Idx.CANb_SVCCNT b], isConfig i = false := by decide +kernel
  exact hall b hb

theorem recsev_no_canCount {b : Nat} (hb : b < 2) : Idx.TPH_RECSEV ∉ Idx.TPH_BUFDROPS :: [Idx.CANb_ALONECNT b, Idx.CANb_ERRCNT b,
    Idx.CANb_NOACKCNT b, Idx.CANb_BOFFCNT b] := by
  have hall : ∀ b < 2, Idx.TPH_RECSEV ∉ Idx.TPH_BUFDROPS :: [Idx.CANb_ALONECNT b, Idx.CANb_ERRCNT b, Idx.CANb_NOACKCNT b,
      Idx.CANb_BOFFCNT b] := by decide +kernel
  exact hall b hb

theorem recsev_no_list : Idx.TPH_RECSEV ∉ Idx.TPH_BUFDROPS :: ([] : List Nat) := by decide +kernel

/-! ## The frame a controller offers (14 R353) -/

/-- Of the objects up to a number the best pending one. -/
def State.BestOf (s : State) (b n : Nat) : Option Nat → Prop
  | none => ∀ k < n, (s.cobj b k).pend = none
  | some j => j < n ∧ (s.cobj b j).pend ≠ none ∧
      ∀ k < n, (s.cobj b k).pend ≠ none → s.objId b j < s.objId b k ∨ (s.objId b j = s.objId b k ∧ j ≤ k)

/-- Object `j` compared with the best so far. -/
def State.betterOf (s : State) (b : Nat) (best : Option Nat) (j : Nat) : Option Nat :=
  if (s.cobj b j).pend.isNone then best
  else match best with
    | none => some j
    | some k => if s.objId b j < s.objId b k then some j else some k

theorem State.BestOf.next {s : State} {b n : Nat} {best : Option Nat} (h : s.BestOf b n best) : s.BestOf b (n + 1) (s.betterOf b best n) := by
  unfold State.betterOf
  split
  · rename_i hn
    have hn := Option.isNone_iff_eq_none.mp hn
    cases best with
    | none =>
      intro k hk
      rcases Nat.lt_succ_iff_lt_or_eq.mp hk with hk | rfl
      · exact h k hk
      · exact hn
    | some j =>
      obtain ⟨hj, hp, hbest⟩ := h
      refine ⟨by omega, hp, fun k hk hkp => ?_⟩
      rcases Nat.lt_succ_iff_lt_or_eq.mp hk with hk | rfl
      · exact hbest k hk hkp
      · exact absurd hn hkp
  · rename_i hn
    have hn : (s.cobj b n).pend ≠ none := fun h => hn (Option.isNone_iff_eq_none.mpr h)
    cases best with
    | none =>
      refine ⟨by omega, hn, fun k hk hkp => ?_⟩
      rcases Nat.lt_succ_iff_lt_or_eq.mp hk with hk | rfl
      · exact absurd (h k hk) hkp
      · exact .inr ⟨rfl, le_refl _⟩
    | some j =>
      obtain ⟨hj, hp, hbest⟩ := h
      dsimp only
      split
      · refine ⟨by omega, hn, fun k hk hkp => ?_⟩
        rcases Nat.lt_succ_iff_lt_or_eq.mp hk with hk | rfl
        · have := hbest k hk hkp
          omega
        · exact .inr ⟨rfl, le_refl _⟩
      · refine ⟨by omega, hp, fun k hk hkp => ?_⟩
        rcases Nat.lt_succ_iff_lt_or_eq.mp hk with hk | rfl
        · exact hbest k hk hkp
        · omega

theorem State.bestOf_foldl (s : State) (b n : Nat) : s.BestOf b n ((List.range n).foldl (s.betterOf b) none) := by
  induction n with
  | zero => exact fun k hk => absurd hk (Nat.not_lt_zero k)
  | succ n ih =>
    rw [List.range_succ, List.foldl_append]
    exact ih.next

theorem State.offered_eq (s : State) (b : Nat) : s.offered b = (List.range 128).foldl (s.betterOf b) none := rfl

/-! ## A failed attempt (14 R356 to R360) -/

/-- The error counter and the run of missing acknowledgements. -/
def State.countAttempt (s : State) (b : Nat) (ack dominant : Bool) : State :=
  s.modCan b fun c =>
    { c with tec := if (s.can b).st == 2 && ack && !dominant then c.tec else c.tec + 8, ackRun := if ack then c.ackRun + 1 else 0 }

/-- Sixteen attempts without an acknowledgement: the controller is ALONE. -/
def State.noteAlone (s : State) (b : Nat) : State :=
  if 16 ≤ (s.can b).ackRun ∧ !(s.can b).alone then
    ((s.modCan b fun c => { c with alone := true }).bump (Idx.CANb_ALONECNT b)).raise (canEvent b 5) 3
  else s

/-- The frame waits for another attempt, or is dropped. -/
def State.endAttempt (s : State) (b j : Nat) : State :=
  if s.objRetry b j < (s.cobj b j).fails ∨ (s.cobj b j).noRetry then s.canDrop b j
  else s.modObj b j fun o => { o with pend := o.bus, bus := none }

/-- A failed attempt counted at its object. -/
def CanObj.failed (ack : Bool) (o : CanObj) : CanObj := { o with fails := o.fails + 1, other := o.other || !ack }

/-- What a failed attempt does before the error counter is looked at. -/
def State.attempted (s : State) (b j : Nat) (ack dominant : Bool) (tdcNs : Nat) : State :=
  ((((s.noteTdc b j tdcNs).countAttempt b ack dominant).noteAlone b).modObj b j (CanObj.failed ack)).endAttempt b j

theorem exec_failedAttempt (b j : Nat) (ack dominant : Bool) (tdcNs : Nat) (s : State) :
    exec (.failedAttempt b j ack dominant tdcNs) s = occurs (decide (b < 2 ∧ j < 128) && (s.cobj b j).bus.isSome) s
      (if (s.attempted b j ack dominant tdcNs).onBus b then (s.attempted b j ack dominant tdcNs).canErrorState b
       else s.attempted b j ack dominant tdcNs) := rfl

/-- The frame of an object is dropped. -/
def CanObj.dropped (o : CanObj) : CanObj := o.finish (if o.other then Status.integrity.code else Status.noAck.code)

section
variable {b : Nat} (s : State)

/-- The counters of a bus. -/
abbrev busCounts (b : Nat) : List Nat := [Idx.CANb_ALONECNT b, Idx.CANb_ERRCNT b, Idx.CANb_NOACKCNT b, Idx.CANb_BOFFCNT b]

theorem State.countAttempt_step (ack dominant : Bool) : State.CanStep b (busCounts b) s (s.countAttempt b ack dominant)
    { s.can b with tec := if (s.can b).st == 2 && ack && !dominant then (s.can b).tec else (s.can b).tec + 8
                   ackRun := if ack then (s.can b).ackRun + 1 else 0 } :=
  (State.CanStep.refl b _ s).modCan _

theorem State.noteAlone_step (hb : b < 2) :
    State.CanStep b (busCounts b) s (s.noteAlone b) { s.can b with alone := (s.can b).alone || decide (16 ≤ (s.can b).ackRun) } ∧
    (16 ≤ (s.can b).ackRun → (s.can b).alone = false → s.Records (s.noteAlone b) (canEvent b 5) 3 0xFF) := by
  have hbump := ((State.CanStep.refl b (busCounts b) s).modCan fun c => { c with alone := true }).bump 1
    (i := Idx.CANb_ALONECNT b) (by simp) (canCount_noConfig hb _ (by simp))
  unfold State.noteAlone
  split
  · rename_i h
    obtain ⟨hrun, hal⟩ := h
    refine ⟨?_, fun _ _ => hbump.records (recsev_no_canCount hb) _⟩
    rw [show ((s.can b).alone || decide (16 ≤ (s.can b).ackRun)) = true from by simp [hrun]]
    exact hbump.raise _ _ _ _
  · rename_i h
    refine ⟨?_, fun hrun hal => absurd ⟨hrun, by simp [hal]⟩ h⟩
    have hal : ((s.can b).alone || decide (16 ≤ (s.can b).ackRun)) = (s.can b).alone := by
      by_cases h16 : 16 ≤ (s.can b).ackRun
      · have hal : (s.can b).alone = true := by simpa [h16] using h
        rw [hal, Bool.true_or]
      · simp [h16]
    rw [hal]
    exact .refl b _ s

theorem State.canDrop_step (hb : b < 2) (j : Nat) :
    State.CanStep b (busCounts b) s (s.canDrop b j) { s.can b with objs := modifyAt (s.can b).objs j CanObj.dropped } := by
  have hmod := (State.CanStep.refl b (busCounts b) s).modObj j CanObj.dropped
  unfold State.canDrop
  dsimp only
  split
  · exact hmod.bump 1 (i := Idx.CANb_ERRCNT b) (by simp) (canCount_noConfig hb _ (by simp))
  · exact (hmod.bump 1 (i := Idx.CANb_NOACKCNT b) (by simp) (canCount_noConfig hb _ (by simp))).raiseCounted _ _ _ _

/-- How an object leaves a failed attempt. -/
def CanObj.attemptEnd (retry : Nat) (o : CanObj) : CanObj :=
  if retry < o.fails ∨ o.noRetry then o.dropped
  else { o with pend := o.bus, bus := none }

theorem State.endAttempt_step (hb : b < 2) (j : Nat) :
    ∃ f : CanObj → CanObj, f (s.cobj b j) = (s.cobj b j).attemptEnd (s.objRetry b j) ∧
      State.CanStep b (busCounts b) s (s.endAttempt b j) { s.can b with objs := modifyAt (s.can b).objs j f } := by
  unfold State.endAttempt CanObj.attemptEnd
  split
  · exact ⟨_, rfl, s.canDrop_step hb j⟩
  · exact ⟨_, rfl, (State.CanStep.refl b _ s).modObj j _⟩

theorem State.canErrorState_off (hb : b < 2) (h : 255 < (s.can b).tec) :
    State.CanStep b (busCounts b) s (s.canErrorState b) { s.can b with
      st := 3, boffAt := s.pwr.opTime, objs := (s.can b).objs.map (CanObj.cancel Status.state.code) } ∧
    s.Records (s.canErrorState b) (canEvent b 3) 4 0xFF := by
  have hstep := (((State.CanStep.refl b (busCounts b) s).modCan fun c => { c with st := 3, boffAt := s.pwr.opTime }).modCan fun c =>
    { c with objs := c.objs.map (CanObj.cancel Status.state.code) }).bump 1 (i := Idx.CANb_BOFFCNT b) (by simp)
    (canCount_noConfig hb _ (by simp))
  unfold State.canErrorState
  dsimp only
  rw [if_pos h]
  exact ⟨hstep.raise _ _ _ _, hstep.records (recsev_no_canCount hb) _⟩

theorem State.canErrorState_on (h : (s.can b).tec ≤ 255) :
    State.CanStep b (busCounts b) s (s.canErrorState b)
      { s.can b with st := if 128 ≤ (s.can b).tec ∧ (s.can b).st = 1 then 2 else (s.can b).st } := by
  unfold State.canErrorState
  dsimp only
  rw [if_neg (by omega)]
  split
  · exact ((State.CanStep.refl b _ s).modCan _).raise _ _ _ _
  · exact .refl b _ s

end

/-- The whole of a failed attempt. -/
theorem State.attempted_step (s : State) {b j : Nat} (hb : b < 2) (ack dominant : Bool) (tdcNs : Nat) (hj : j < (s.can b).objs.length) :
    ∃ c : Can, State.CanStep b (busCounts b) s (s.attempted b j ack dominant tdcNs) c ∧ c.st = (s.can b).st ∧
      c.tec = (if (s.can b).st == 2 && ack && !dominant then (s.can b).tec else (s.can b).tec + 8) ∧
      c.ackRun = (if ack then (s.can b).ackRun + 1 else 0) ∧ c.alone = ((s.can b).alone || decide (16 ≤ c.ackRun)) ∧
      (16 ≤ c.ackRun → (s.can b).alone = false → s.Records (s.attempted b j ack dominant tdcNs) (canEvent b 5) 3 0xFF) ∧
      c.stns = (s.can b).stns ∧ c.objs.getD j {} = ((s.cobj b j).failed ack).attemptEnd (s.objRetry b j) := by
  have h1 := ((State.CanStep.refl b (busCounts b) s).noteTdc j tdcNs).trans (State.countAttempt_step _ ack dominant)
  have h1c := ((State.CanStep.refl b (busCounts b) s).noteTdc j tdcNs).can
  obtain ⟨h2, hrec⟩ := State.noteAlone_step ((s.noteTdc b j tdcNs).countAttempt b ack dominant) hb
  have h3 := (State.CanStep.refl b (busCounts b) _).trans (h2.modObj j (CanObj.failed ack))
  obtain ⟨f, hf, h4⟩ := State.endAttempt_step
    ((((s.noteTdc b j tdcNs).countAttempt b ack dominant).noteAlone b).modObj b j (CanObj.failed ack)) hb j
  rw [h3.can] at h4
  rw [h1.can] at h2 h3 h4 hrec
  rw [h1c] at h1 h2 h3 h4 hrec
  refine ⟨_, (h1.trans h3).trans h4, rfl, rfl, rfl, rfl, fun hr ha => ?_, rfl, ?_⟩
  · exact h4.recorded ((((State.CanStep.refl b (busCounts b) _).modObj j (CanObj.failed ack))).recorded
      (h1.then_records (recsev_no_canCount hb) (hrec hr ha)))
  · have hobj : (((((s.noteTdc b j tdcNs).countAttempt b ack dominant).noteAlone b).modObj b j (CanObj.failed ack)).cobj b j) =
        (s.cobj b j).failed ack := ((h1.trans h3).cobj j).trans (getD_modifyAt_self _ _ _ _ hj)
    rw [hobj, State.objRetry_congr (h1.trans h3).tables] at hf
    exact (getD_modifyAt_self _ _ _ _ (by rw [length_modifyAt]; exact hj)).trans
      ((congrArg f (getD_modifyAt_self _ _ _ _ hj)).trans hf)

/-- Object `j` of a bus without the frame that could wait behind the present one. -/
theorem CanObj.finish_of_alone {o : CanObj} (h : o.next = none) (status : Nat) :
    o.finish status = { o with bus := none, pend := none, status := status, noRetry := false } := by
  unfold CanObj.finish
  dsimp only
  rw [h]

theorem CanObj.cancel_idle {o : CanObj} (hb : o.bus = none) (hp : o.pend = none) (status : Nat) : o.cancel status = o := by
  unfold CanObj.cancel
  rw [hb, hp]
  rfl

theorem CanObj.cancel_pend {o : CanObj} {status : Nat} (h : (o.cancel status).bus = none) : (o.cancel status).pend = none := by
  unfold CanObj.cancel at h ⊢
  cases hb : o.bus with
  | some x => simp [hb] at h
  | none =>
    cases hp : o.pend with
    | none => simp [hp]
    | some x => simp

theorem Can.getD_cancelled (objs : List CanObj) (status k : Nat) :
    (objs.map (CanObj.cancel status)).getD k {} = (objs.getD k {}).cancel status := by
  rw [show ({} : CanObj) = CanObj.cancel status {} from rfl, List.getD_map]
  rfl

theorem canFrameFails (s : State) (b j tdcNs : Nat) (ack dominant : Bool) (hb : b < 2) (hj : j < 128)
    (hlen : (s.can b).objs.length = 128) (hbus : (s.cobj b j).bus ≠ none) (hnext : (s.cobj b j).next = none) (hon : s.onBus b = true) :
    ∃ t, exec (.failedAttempt b j ack dominant tdcNs) s = .next t ∧
      (t.can b).tec = (if (s.can b).st = 2 ∧ ack = true ∧ dominant = false then (s.can b).tec else (s.can b).tec + 8) ∧
      (t.can b).ackRun = (if ack then (s.can b).ackRun + 1 else 0) ∧
      ((t.can b).tec ≤ 255 → (t.can b).st = (if 128 ≤ (t.can b).tec then 2 else (s.can b).st)) ∧
      (255 < (t.can b).tec → (t.can b).st = 3 ∧ (t.can b).boffAt = s.pwr.opTime ∧ s.Records t (canEvent b 3) 4 0xFF ∧
        ∀ k, (t.cobj b k).bus = none → (t.cobj b k).pend = none) ∧
      ((t.can b).tec ≤ 255 → (s.cobj b j).fails + 1 ≤ s.objRetry b j → (s.cobj b j).noRetry = false →
        t.cobj b j = { s.cobj b j with pend := (s.cobj b j).bus, bus := none, fails := (s.cobj b j).fails + 1,
                                       other := (s.cobj b j).other || !ack }) ∧
      (s.objRetry b j < (s.cobj b j).fails + 1 → (t.cobj b j).bus = none ∧ (t.cobj b j).pend = none ∧
        (t.cobj b j).status = (if (s.cobj b j).other || !ack then Status.integrity.code else Status.noAck.code)) ∧
      (16 ≤ (t.can b).ackRun → (t.can b).alone = true ∧ ((s.can b).alone = false → s.Records t (canEvent b 5) 3 0xFF)) ∧
      (t.can b).stns = (s.can b).stns ∧ t.can (1 - b) = s.can (1 - b) ∧
      s.EventsOnly t [Idx.CANb_ALONECNT b, Idx.CANb_ERRCNT b, Idx.CANb_NOACKCNT b, Idx.CANb_BOFFCNT b] ∧
      t = { s with dir := t.dir, can0 := t.can0, can1 := t.can1, tph := t.tph } := by
  obtain ⟨c, hstep, hst, htec, hrun, halone, hrec, hstns, hobj⟩ := s.attempted_step hb ack dominant tdcNs (hlen ▸ hj)
  have hex := (exec_failedAttempt b j ack dominant tdcNs s).trans (occurs_pos (by simp [hb, hj, Option.isSome_iff_ne_none, hbus]))
  have hon' : (s.attempted b j ack dominant tdcNs).onBus b = true := by
    unfold State.onBus at hon ⊢
    rw [hstep.can, hst]
    exact hon
  rw [if_pos hon'] at hex
  have hpwr := hstep.pwr
  generalize s.attempted b j ack dominant tdcNs = u at *
  have hretry : (s.cobj b j).fails + 1 ≤ s.objRetry b j → (s.cobj b j).noRetry = false → c.objs.getD j {} =
      { s.cobj b j with pend := (s.cobj b j).bus, bus := none, fails := (s.cobj b j).fails + 1, other := (s.cobj b j).other || !ack } :=
    fun hf hn => hobj.trans (if_neg (by simp [CanObj.failed, hn]; omega))
  have hdrop : s.objRetry b j < (s.cobj b j).fails + 1 → (c.objs.getD j {}).bus = none ∧ (c.objs.getD j {}).pend = none ∧
      (c.objs.getD j {}).status = (if (s.cobj b j).other || !ack then Status.integrity.code else Status.noAck.code) := by
    intro hf
    rw [hobj, CanObj.attemptEnd, if_pos (.inl hf), CanObj.dropped, CanObj.finish_of_alone (show ((s.cobj b j).failed ack).next = none from hnext)]
    exact ⟨rfl, rfl, rfl⟩
  have htec' : c.tec = if (s.can b).st = 2 ∧ ack = true ∧ dominant = false then (s.can b).tec else (s.can b).tec + 8 := by
    rw [htec]
    simp [and_assoc]
  by_cases hoff : 255 < c.tec
  · obtain ⟨hend, hrec3⟩ := u.canErrorState_off hb (by rw [hstep.can]; exact hoff)
    rw [hstep.can, hpwr] at hend
    have hall := hstep.trans hend
    have hcobj (k : Nat) : (u.canErrorState b).cobj b k = (c.objs.getD k {}).cancel Status.state.code :=
      (hall.cobj k).trans (Can.getD_cancelled _ _ _)
    refine ⟨_, hex, ?_, ?_, ?_, ?_, ?_, ?_, ?_, ?_, hall.other, hall.events, hall.frame_eq⟩
    · rw [hall.can]
      exact htec'
    · rw [hall.can]
      exact hrun
    · rw [hall.can]
      intro h
      exact absurd hoff (by dsimp only at h; omega)
    · rw [hall.can]
      refine fun _ => ⟨rfl, rfl, hstep.then_records (recsev_no_canCount hb) hrec3, fun k hk => ?_⟩
      rw [hcobj] at hk ⊢
      exact CanObj.cancel_pend hk
    · rw [hall.can]
      intro h
      exact absurd hoff (by dsimp only at h; omega)
    · intro hf
      obtain ⟨h1, h2, h3⟩ := hdrop hf
      rw [hcobj, CanObj.cancel_idle h1 h2]
      exact ⟨h1, h2, h3⟩
    · rw [hall.can]
      exact fun h => ⟨halone.trans (by simp [show 16 ≤ c.ackRun from h]), fun ha => hend.recorded (hrec h ha)⟩
    · rw [hall.can]
      exact hstns
  · have hend := u.canErrorState_on (b := b) (by rw [hstep.can]; omega)
    rw [hstep.can] at hend
    have hall := hstep.trans hend
    refine ⟨_, hex, ?_, ?_, ?_, ?_, ?_, ?_, ?_, ?_, hall.other, hall.events, hall.frame_eq⟩
    · rw [hall.can]
      exact htec'
    · rw [hall.can]
      exact hrun
    · rw [hall.can]
      intro _
      dsimp only
      rw [hst]
      have h12 : (s.can b).st = 1 ∨ (s.can b).st = 2 := by simpa [State.onBus] using hon
      rcases h12 with h | h <;> simp [h]
    · rw [hall.can]
      exact fun h => absurd h hoff
    · intro _ hf hn
      exact (hall.cobj j).trans (hretry hf hn)
    · intro hf
      rw [hall.cobj]
      exact hdrop hf
    · rw [hall.can]
      exact fun h => ⟨halone.trans (by simp [show 16 ≤ c.ackRun from h]), fun ha => hend.recorded (hrec h ha)⟩
    · rw [hall.can]
      exact hstns

/-! ## A frame sent, the bus joined again, refreshes and heartbeats (14 R355, R356, R359, R362) -/

/-- A sent frame at its object. -/
def CanObj.sent (now : Nat) (o : CanObj) : CanObj := { o.finish Status.ok.code with sentAt := now }

theorem CanObj.sent_of_alone {o : CanObj} (h : o.next = none) (now : Nat) :
    o.sent now = { o with bus := none, pend := none, status := Status.ok.code, noRetry := false, sentAt := now } := by
  unfold CanObj.sent
  rw [CanObj.finish_of_alone h]

/-- What a sent frame does before the error state is looked at. -/
def State.frameSent (s : State) (b j tdcNs : Nat) : State :=
  ((((s.noteTdc b j tdcNs).canGood b).modObj b j (CanObj.sent ((s.noteTdc b j tdcNs).canGood b).pwr.opTime)).modCan b fun c =>
    { c with tec := c.tec - 1 })

/-- ERROR_PASSIVE ends with counters below 128. -/
def State.endPassive (s : State) (b : Nat) : State :=
  if (s.can b).st = 2 ∧ (s.can b).tec < 128 ∧ (s.can b).rec_ < 128 then (s.modCan b fun c => { c with st := 1 }).raise (canEvent b 2) 2
  else s

theorem exec_canFrameSent (b j tdcNs : Nat) (s : State) : exec (.canFrameSent b j tdcNs) s =
    occurs (decide (b < 2 ∧ j < 128) && (s.cobj b j).bus.isSome && (!s.tdcActive b j || decide (tdcNs ≤ s.twoBits b))) s
      ((s.frameSent b j tdcNs).endPassive b) := rfl

theorem State.endPassive_step (s : State) (b : Nat) : State.CanStep b [] s (s.endPassive b)
    { s.can b with st := if (s.can b).st = 2 ∧ (s.can b).tec < 128 ∧ (s.can b).rec_ < 128 then 1 else (s.can b).st } := by
  unfold State.endPassive
  split
  · exact ((State.CanStep.refl b _ s).modCan _).raise _ _ _ _
  · exact .refl b _ s

theorem canFrameSent_after (s : State) (b j tdcNs : Nat) (hb : b < 2) (hj : j < 128) (hlen : (s.can b).objs.length = 128)
    (hbus : (s.cobj b j).bus ≠ none) (hnext : (s.cobj b j).next = none) (htdc : s.tdcActive b j = true → tdcNs ≤ s.twoBits b) :
    ∃ t, exec (.canFrameSent b j tdcNs) s = .next t ∧
      t.cobj b j = { s.cobj b j with bus := none, pend := none, status := Status.ok.code, noRetry := false,
                                     sentAt := s.pwr.opTime } ∧
      (t.can b).tec = (s.can b).tec - 1 ∧ (t.can b).alone = false ∧ (t.can b).ackRun = 0 ∧
      (t.can b).st = (if (s.can b).st = 2 ∧ (s.can b).tec - 1 < 128 ∧ (s.can b).rec_ < 128 then 1 else (s.can b).st) ∧
      (t.can b).tdc = (if s.tdcActive b j then min tdcNs 1000 else (s.can b).tdc) ∧
      (∀ k, k ≠ j → t.cobj b k = s.cobj b k) ∧ (t.can b).stns = (s.can b).stns ∧ t.can (1 - b) = s.can (1 - b) ∧
      ((s.can b).alone = true → s.Records t (canEvent b 6) 2 0xFF) ∧ s.EventsOnly t [] ∧
      t = { s with dir := t.dir, can0 := t.can0, can1 := t.can1, tph := t.tph } := by
  have h0 := (State.CanStep.refl b [] s).noteTdc j tdcNs
  have hnow : ((s.noteTdc b j tdcNs).canGood b).pwr.opTime = s.pwr.opTime := congrArg Pwr.opTime h0.canGood.pwr
  have hex := (exec_canFrameSent b j tdcNs s).trans (occurs_pos (by
    have : (s.tdcActive b j = false ∨ tdcNs ≤ s.twoBits b) := by
      cases h : s.tdcActive b j with
      | false => exact .inl rfl
      | true => exact .inr (htdc h)
    simp [hb, hj, Option.isSome_iff_ne_none, hbus, this]))
  have hsent : State.CanStep b [] ((s.noteTdc b j tdcNs).canGood b) (s.frameSent b j tdcNs) _ :=
    ((State.CanStep.refl b [] _).modObj j _).modCan fun c => { c with tec := c.tec - 1 }
  rw [h0.canGood.can, hnow] at hsent
  have hend := (s.frameSent b j tdcNs).endPassive_step b
  rw [hsent.can] at hend
  have hall := (h0.canGood.trans hsent).trans hend
  refine ⟨_, hex, ?_, ?_, ?_, ?_, ?_, ?_, fun k hk => ?_, ?_, hall.other, fun ha => ?_, hall.events, hall.frame_eq⟩
  · rw [hall.cobj]
    exact (getD_modifyAt_self _ _ _ _ (hlen ▸ hj)).trans (CanObj.sent_of_alone hnext s.pwr.opTime)
  · rw [hall.can]
  · rw [hall.can]
  · rw [hall.can]
  · rw [hall.can]
  · rw [hall.can]
  · rw [hall.cobj]
    exact getD_modifyAt_ne _ _ _ _ _ hk
  · rw [hall.can]
  · exact hend.recorded (hsent.recorded (h0.canGood_records recsev_no_list ha))

theorem State.forceObjs_step (s : State) (b : Nat) (p : Nat → Bool) {is : List Nat} {r : State} {c : Can} (h : State.CanStep b is r s c) :
    State.CanStep b is r (s.forceObjs b p)
      (c.eachObj (fun o => { o with force := true }) ((s.sendObjs b).filter fun j => p (s.objStn b j))) := h.eachObj _ _

theorem canBusOn_after (s : State) (b recessive : Nat) (hb : b < 2) (hst : (s.can b).st = 3) (hauto : s.parBit (Idx.CANb_CFG b) 2 = true)
    (hat : (s.can b).boffAt + s.parN (Idx.CANb_BOFFDLY b) ≤ s.pwr.opTime) (hrec : 128 ≤ recessive)
    (hlen : (s.can b).objs.length = 128) :
    ∃ t, exec (.canBusOn b recessive) s = .next t ∧ (t.can b).st = 1 ∧ (t.can b).tec = 0 ∧ (t.can b).rec_ = 0 ∧
      (∀ j, t.cobj b j = if j ∈ s.sendObjs b then { s.cobj b j with force := true } else s.cobj b j) ∧
      (t.can b).stns = (s.can b).stns ∧ t.can (1 - b) = s.can (1 - b) ∧ s.Records t (canEvent b 4) 2 0xFF ∧
      s.Records t (canEvent b 2) 2 0xFF ∧ s.EventsOnly t [] ∧
      t = { s with dir := t.dir, can0 := t.can0, can1 := t.can1, tph := t.tph } := by
  have h1 := (State.CanStep.refl b [] s).modCan fun c => { c with st := 1, tec := 0, rec_ := 0 }
  have h2 := State.forceObjs_step _ b (fun _ => true) h1
  have h3 := h2.raise (canEvent b 4) 2 0xFF []
  have h4 := h3.raise (canEvent b 2) 2 0xFF []
  rw [State.sendObjs_congr h1.tables] at h2 h3 h4
  have hlist : (s.sendObjs b).filter (fun _ => true) = s.sendObjs b := List.filter_eq_self.mpr fun _ _ => rfl
  rw [hlist] at h2 h3 h4
  refine ⟨_, occurs_pos (by simp [hb, hst, hauto, hat, hrec]), ?_, ?_, ?_, fun j => ?_, ?_, h4.other, ?_, ?_, h4.events, h4.frame_eq⟩
  · exact congrArg Can.st h4.can
  · exact congrArg Can.tec h4.can
  · exact congrArg Can.rec_ h4.can
  · exact (h4.cobj j).trans (Can.getD_eachObj _ _ (s.sendObjs_nodup b) (fun i hi => hlen ▸ State.sendObjs_lt hi) j)
  · exact (congrArg Can.stns h4.can).trans rfl
  · exact ((State.CanStep.refl b [] _).raise (canEvent b 2) 2 0xFF []).recorded (h2.records recsev_no_list _)
  · exact h3.records recsev_no_list _

theorem modifyAt_congr {α : Type} {f g : α → α} {xs : List α} {i : Nat} (d : α) (h : f (xs.getD i d) = g (xs.getD i d)) :
    modifyAt xs i f = modifyAt xs i g := by
  induction xs generalizing i with
  | nil => rfl
  | cons x xs ih =>
    cases i with
    | zero => exact congrArg (· :: xs) h
    | succ i => exact congrArg (x :: ·) (ih h)

theorem State.modObj_congr {s : State} {b j : Nat} {f g : CanObj → CanObj} (h : f (s.cobj b j) = g (s.cobj b j)) :
    s.modObj b j f = s.modObj b j g := by
  unfold State.cobj State.can at h
  unfold State.modObj State.modCan
  split
  · rename_i hb
    rw [if_pos hb] at h
    dsimp only
    rw [modifyAt_congr _ h]
  · rename_i hb
    rw [if_neg hb] at h
    dsimp only
    rw [modifyAt_congr _ h]

theorem CanObj.queue_idle {o : CanObj} (hp : o.pend = none) (hb : o.bus = none) (bytes : List Byte) : o.queue bytes =
    { o with last := some bytes, force := false, pend := some bytes, next := none, fails := 0, other := false, noRetry := false } := by
  unfold CanObj.queue
  dsimp only
  rw [hb, hp]
  rfl

theorem refreshSend_queues (s : State) (b j : Nat) (bytes : List Byte) (hb : b < 2) (hj : j < 128) (he : s.engines = true)
    (hon : s.onBus b = true) (hg : s.gys.st = 1) (hrole : s.objRole b j = 2 ∨ s.objRole b j = 3)
    (hpres : s.stnPresent b (s.objStn b j) = true) (hlost : (s.cstn b (s.objStn b j)).lost = false) (hr : 0 < s.objRefresh b j)
    (hp : (s.cobj b j).pend = none) (hbus : (s.cobj b j).bus = none) (hl : (s.cobj b j).last = some bytes)
    (hat : (s.cobj b j).sentAt + s.objRefresh b j ≤ s.pwr.opTime) :
    exec (.refreshSend b j) s = .next (s.modObj b j fun o =>
      { o with last := some bytes, force := false, pend := some bytes, next := none, fails := 0, other := false,
               noRetry := false }) := by
  refine (occurs_pos (by simp [hb, hj, he, hon, hg, hrole, hpres, hlost, hr, hp, hbus, hl, hat])).trans (congrArg _ ?_)
  apply State.modObj_congr
  rw [CanObj.queue_idle hp hbus, hl]
  rfl

theorem controllerHeartbeat_after (s : State) (b : Nat) (hb : b < 2) (he : s.engines = true) (hr : s.lmp.restarting = false)
    (hon : s.onBus b = true) (hlen : (s.can b).objs.length = 128) (hat : ∀ at_, (s.can b).hbAt = some at_ → at_ + 50 ≤ s.pwr.opTime) :
    ∃ t, exec (.controllerHeartbeat b) s = .next t ∧ t.cobj b 0 = (s.cobj b 0).queue (s.canHeartbeat b s.pwr.state.code) ∧
      (t.can b).hbNo = ((s.can b).hbNo + 1) % 256 ∧ (t.can b).hbAt = some s.pwr.opTime ∧ (∀ k, k ≠ 0 → t.cobj b k = s.cobj b k) ∧
      (t.can b).stns = (s.can b).stns ∧ t.can (1 - b) = s.can (1 - b) ∧ t = { s with can0 := t.can0, can1 := t.can1 } := by
  have hcond : (decide (b < 2) && s.engines && !s.lmp.restarting && s.onBus b && (match (s.can b).hbAt with
      | some t => decide (t + 50 ≤ s.pwr.opTime)
      | none => true)) = true := by
    cases h : (s.can b).hbAt with
    | none => simp [hb, he, hr, hon]
    | some t => simp [hb, he, hr, hon, hat t h]
  have h1 := (State.CanStep.refl b [] s).modObj 0 fun o => o.queue (s.canHeartbeat b s.pwr.state.code)
  have hpwr := h1.pwr
  have h2 := h1.modCan fun c => { c with hbNo := (c.hbNo + 1) % 256, hbAt := some (s.modObj b 0 fun o => o.queue (s.canHeartbeat b s.pwr.state.code)).pwr.opTime }
  refine ⟨_, occurs_pos hcond, ?_, ?_, ?_, fun k hk => ?_, ?_, h2.other, ?_⟩
  · exact (h2.cobj 0).trans (getD_modifyAt_self _ _ _ _ (by rw [hlen]; omega))
  · exact congrArg Can.hbNo h2.can
  · exact (congrArg Can.hbAt h2.can).trans (congrArg some (congrArg Pwr.opTime hpwr))
  · exact (h2.cobj k).trans (getD_modifyAt_ne _ _ _ _ _ hk)
  · exact (congrArg Can.stns h2.can).trans rfl
  · obtain ⟨c0, c1, hm⟩ := s.modCan_eq b fun c =>
      { c with objs := modifyAt c.objs 0 fun o => o.queue (s.canHeartbeat b s.pwr.state.code) }
    obtain ⟨d0, d1, hm'⟩ := (s.modObj b 0 fun o => o.queue (s.canHeartbeat b s.pwr.state.code)).modCan_eq b fun c =>
      { c with hbNo := (c.hbNo + 1) % 256, hbAt := some s.pwr.opTime }
    have : s.queueHeartbeat b s.pwr.state.code = { s with can0 := d0, can1 := d1 } := by
      unfold State.queueHeartbeat
      dsimp only
      rw [hpwr, hm', State.modObj, hm]
    rw [this]

theorem offered_lowest (s : State) (b j : Nat) (h : s.offered b = some j) :
    j < 128 ∧ (s.cobj b j).pend ≠ none ∧
      ∀ k < 128, (s.cobj b k).pend ≠ none → s.objId b j < s.objId b k ∨ (s.objId b j = s.objId b k ∧ j ≤ k) := by
  have hbest := s.bestOf_foldl b 128
  rw [← State.offered_eq, h] at hbest
  exact hbest

/-- Settles O33: the offered frame by the objects looked at so far, a sent or failed frame by the steps of its bus. -/
theorem canFramesAreSent : Obligations.CanFramesAreSent := by
  unfold Obligations.CanFramesAreSent
  refine ⟨offered_lowest, fun s b j hb hon hidle hoff => ⟨?_, ?_⟩, canFrameSent_after, canFrameFails, canBusOn_after, refreshSend_queues,
    controllerHeartbeat_after⟩
  · refine (occurs_pos (by simp [hb, hon, hidle, hoff])).trans (congrArg _ ?_)
    rw [hoff]
    rfl
  · refine (occurs_pos (by simp [hb, hon, hidle, hoff])).trans (congrArg _ ?_)
    rw [hoff]
    rfl

end Sys2Proof.Machine
end

section
/-!
PROOFS. Receiving on a bus, and the station supervisors (14 R354, R361 to R366).
-/
namespace Sys2Proof.Machine

/-! ## What the station supervisors read (14 R354, R361 to R366) -/

theorem State.modCan_congr {s : State} {b : Nat} {f g : Can → Can} (h : f (s.can b) = g (s.can b)) : s.modCan b f = s.modCan b g := by
  unfold State.can at h
  unfold State.modCan
  split
  · rename_i hb
    rw [if_pos hb] at h
    rw [h]
  · rename_i hb
    rw [if_neg hb] at h
    rw [h]

/-- Outside ALONE a good frame only ends the run of missing acknowledgements. -/
theorem State.canGood_of_alone {s : State} {b : Nat} (h : (s.can b).alone = false) :
    s.canGood b = s.modCan b fun c => { c with ackRun := 0 } := by
  unfold State.canGood
  dsimp only
  rw [if_neg (by rw [h]; exact Bool.false_ne_true)]
  exact State.modCan_congr (by rw [← h])

theorem State.Shape.can_lengths {s : State} (h : s.Shape) (b : Nat) :
    (s.can b).objs.length = 128 ∧ (s.can b).stns.length = 64 := by
  unfold State.can
  split
  · exact ⟨h.objs0, h.stns0⟩
  · exact ⟨h.objs1, h.stns1⟩

theorem State.stnPresent_lt {s : State} {b n : Nat} (h : s.stnPresent b n = true) : n < 64 := by
  unfold State.stnPresent at h
  simp only [Bool.and_eq_true, decide_eq_true_eq] at h
  exact h.1

/-- The object found has the role and the station asked for. -/
theorem State.objOf_spec {s : State} {b n role j : Nat} (h : s.objOf b n role = some j) : j < 128 ∧ s.objRole b j = role ∧ s.objStn b j = n := by
  have hp := List.find?_some h
  simp only [Bool.and_eq_true, beq_iff_eq] at hp
  exact ⟨List.mem_range.mp (List.mem_of_find?_eq_some h), hp⟩

section
variable {b : Nat}

/-- The counters of received frames and lost stations. -/
abbrev stationCounts (b : Nat) : List Nat := [Idx.CANb_LOSTCNT b, Idx.CANb_RXOVR b, Idx.CANb_UNKCNT b, Idx.CANb_SVCCNT b]

theorem stationCounts_facts (hb : b < 2) : ∀ i ∈ stationCounts b, isConfig i = false ∧ Idx.TPH_RECSEV ∉ [Idx.TPH_BUFDROPS, i] ∧
    i ≠ Idx.TPH_BUFDROPS ∧ (paramInfo i).map (fun r => r.hi) = some (2 ^ 32 - 1) := by
  have hall : ∀ b < 2, ∀ i ∈ stationCounts b, isConfig i = false ∧ Idx.TPH_RECSEV ∉ [Idx.TPH_BUFDROPS, i] ∧
      i ≠ Idx.TPH_BUFDROPS ∧ (paramInfo i).map (fun r => r.hi) = some (2 ^ 32 - 1) := by decide +kernel
  exact hall b hb

/-- A counter of received frames or lost stations rises. -/
theorem State.CanStep.counted {s t : State} {c : Can} {i : Nat} (h : State.CanStep b [] s t c) (hb : b < 2) (hi : i ∈ stationCounts b) :
    State.CanStep b [i] s (t.bump i) c ∧ (t.bump i).par i = min (s.par i + 1) (2 ^ 32 - 1) := by
  obtain ⟨hc, -, hne, hhi⟩ := stationCounts_facts hb i hi
  refine ⟨(h.mono (List.nil_subset _)).bump 1 List.mem_cons_self hc, ?_⟩
  rw [State.par_bump_top t hc hhi, h.events.1 i (by simp [hne])]
  rfl

/-- An event does not touch such a counter. -/
theorem par_raise_count {s : State} {i : Nat} (hb : b < 2) (hi : i ∈ stationCounts b) (code sev inst : Nat) (data : List (Nat × Int)) :
    (s.raise code sev inst data).par i = s.par i ∧ (s.raiseCounted code sev inst data).par i = s.par i := by
  obtain ⟨-, -, hne, -⟩ := stationCounts_facts hb i hi
  exact ⟨((State.EventsOnly.refl s []).raise code sev inst data).1 i (by simp [hne]),
    ((State.EventsOnly.refl s []).raiseCounted code sev inst data).1 i (by simp [hne])⟩

variable {s : State}

/-! ## Frames received -/

theorem frameReceived_cond {id : Nat} {base : Bool} {bytes : List Byte} (hb : b < 2) (hid : id < 2048) (hbytes : bytes.length ≤ 64)
    (hon : s.onBus b = true) (hfree : base = true → ¬ ((id / 256 = 0 ∨ id / 256 = 6) ∧ id % 4 = 0)) :
    (decide (b < 2 ∧ id < 2048 ∧ bytes.length ≤ 64) && s.onBus b &&
      !(base && (id / 256 == 0 || id / 256 == 6) && id % 4 == 0)) = true := by
  simp only [hb, hid, hbytes, hon, and_self, decide_true, Bool.true_and, Bool.not_eq_true', Bool.and_eq_false_iff, beq_eq_false_iff_ne,
    Bool.or_eq_false_iff]
  cases base with
  | false => exact .inl (.inl rfl)
  | true =>
    have hfree := hfree rfl
    omega

theorem imageTaken (b id n j : Nat) (bytes : List Byte) (hb : b < 2) (hid : id < 2048) (hbytes : bytes.length ≤ 64)
    (hon : s.onBus b = true) (hcls : id / 256 = 2 ∨ id / 256 = 3) (hsub : id % 4 = 0) (hn : id / 4 % 64 = n)
    (hpres : s.stnPresent b n = true) (hobj : s.objOf b n 1 = some j) (copying : Bool) :
    exec (.canFrameReceived b id true bytes copying) s = .next ((s.canGood b).takeImage b n j bytes copying) := by
  have hgood := (State.CanStep.refl b [] s).canGood.tables
  refine (occurs_pos (frameReceived_cond hb hid hbytes hon fun _ => by omega)).trans (congrArg _ ?_)
  dsimp only
  rw [hn, if_neg (by simp), if_neg (by omega), State.stnPresent_congr hgood, if_pos ⟨hcls, hsub, hpres⟩, State.objOf_congr hgood, hobj]

theorem State.takeImage_complete (s : State) (b n j : Nat) (bytes : List Byte) :
    s.takeImage b n j bytes false = (s.modStn b n fun x => { x with imgs := (x.imgs + 1) % 2 ^ 32 }).modObj b j fun o =>
      { o with full := some bytes, fullAt := s.pwr.opTime, fill := none, fresh := !(s.cstn b n).lost } := rfl

theorem canFrameReceived_completes (s : State) (b id n j : Nat) (bytes : List Byte) (hb : b < 2) (hid : id < 2048)
    (hbytes : bytes.length ≤ 64) (hon : s.onBus b = true) (_ : s.Shape) (hcls : id / 256 = 2 ∨ id / 256 = 3) (hsub : id % 4 = 0)
    (hn : id / 4 % 64 = n) (hpres : s.stnPresent b n = true) (hobj : s.objOf b n 1 = some j) (ha : (s.can b).alone = false) :
    exec (.canFrameReceived b id true bytes false) s = .next
      (((s.modCan b fun c => { c with ackRun := 0 }).modStn b n fun x => { x with imgs := (x.imgs + 1) % 2 ^ 32 }).modObj b j fun o =>
        { o with full := some bytes, fullAt := s.pwr.opTime, fill := none, fresh := !(s.cstn b n).lost }) := by
  have hgood := (State.CanStep.refl b [] s).modCan fun c => { c with ackRun := 0 }
  rw [imageTaken b id n j bytes hb hid hbytes hon hcls hsub hn hpres hobj, State.canGood_of_alone ha, State.takeImage_complete, hgood.pwr,
    hgood.cstn]
  rfl

theorem canFrameReceived_fills (s : State) (b id n j : Nat) (bytes : List Byte) (hb : b < 2) (hid : id < 2048)
    (hbytes : bytes.length ≤ 64) (hon : s.onBus b = true) (hshape : s.Shape) (hcls : id / 256 = 2 ∨ id / 256 = 3) (hsub : id % 4 = 0)
    (hn : id / 4 % 64 = n) (hpres : s.stnPresent b n = true) (hobj : s.objOf b n 1 = some j) :
    ∃ t, exec (.canFrameReceived b id true bytes true) s = .next t ∧
      t.cobj b j = { s.cobj b j with fill := some bytes, fillAt := s.pwr.opTime } ∧
      (t.cstn b n).imgs = ((s.cstn b n).imgs + 1) % 2 ^ 32 ∧
      ((s.cobj b j).fill ≠ none → s.Records t (canEvent b 0x0B) 0 n ∧
        t.par (Idx.CANb_RXOVR b) = min (s.par (Idx.CANb_RXOVR b) + 1) (2 ^ 32 - 1)) ∧
      t.can (1 - b) = s.can (1 - b) ∧ s.EventsOnly t [Idx.CANb_RXOVR b] ∧
      t = { s with dir := t.dir, can0 := t.can0, can1 := t.can1, tph := t.tph } := by
  obtain ⟨hobjs, hstns⟩ := hshape.can_lengths b
  have hgood := (State.CanStep.refl b [] s).canGood
  have hmod := (hgood.modStn n fun x => { x with imgs := (x.imgs + 1) % 2 ^ 32 }).modObj j fun o =>
    { o with fill := some bytes, fillAt := (s.canGood b).pwr.opTime }
  have hovr : (((s.canGood b).modStn b n fun x => { x with imgs := (x.imgs + 1) % 2 ^ 32 }).cobj b j) = s.cobj b j :=
    (hgood.modStn n fun x => { x with imgs := (x.imgs + 1) % 2 ^ 32 }).cobj j
  obtain ⟨hcnt, hpar⟩ := hmod.counted hb (i := Idx.CANb_RXOVR b) (by simp [stationCounts])
  have hex := imageTaken b id n j bytes hb hid hbytes hon hcls hsub hn hpres hobj true
  unfold State.takeImage at hex
  dsimp only at hex
  rw [if_pos rfl, hovr] at hex
  have hj : j < (s.can b).objs.length := hobjs ▸ (State.objOf_spec hobj).1
  have hnlt : n < (s.can b).stns.length := hstns ▸ State.stnPresent_lt hpres
  by_cases hf : (s.cobj b j).fill.isSome
  · rw [if_pos hf] at hex
    have hall := hcnt.raiseCounted (canEvent b 0x0B) 0 n []
    refine ⟨_, hex, ?_, ?_, fun _ => ⟨?_, ?_⟩, hall.other, hall.events, hall.frame_eq⟩
    · rw [hall.cobj, hgood.pwr]
      exact getD_modifyAt_self _ _ _ _ hj
    · rw [hall.cstn]
      exact congrArg CanStn.imgs (getD_modifyAt_self _ _ _ _ hnlt)
    · exact hcnt.records (stationCounts_facts hb _ (by simp [stationCounts])).2.1 _
    · exact (par_raise_count hb (by simp [stationCounts]) _ _ _ _).2.trans hpar
  · rw [if_neg hf] at hex
    have hall := hmod.mono (List.nil_subset [Idx.CANb_RXOVR b])
    refine ⟨_, hex, ?_, ?_, fun h => absurd (Option.isSome_iff_ne_none.mpr h) hf, hall.other, hall.events, hall.frame_eq⟩
    · rw [hall.cobj, hgood.pwr]
      exact getD_modifyAt_self _ _ _ _ hj
    · rw [hall.cstn]
      exact congrArg CanStn.imgs (getD_modifyAt_self _ _ _ _ hnlt)

/-- What a frame that no station owns is counted as. -/
theorem canFrameReceived_counted (s : State) (b id : Nat) (base copying : Bool) (bytes : List Byte) (hb : b < 2) (hid : id < 2048)
    (hbytes : bytes.length ≤ 64) (hon : s.onBus b = true)
    (hcls : base = true → id / 256 = 1 ∨ id / 256 = 4 ∨ id / 256 = 5 ∨ id / 256 = 7 ∨ id % 4 ≠ 0 ∨
      (id / 256 ≠ 0 ∧ id / 256 ≠ 6 ∧ s.stnPresent b (id / 4 % 64) = false)) :
    exec (.canFrameReceived b id base bytes copying) s = .next ((s.canGood b).bump
      (if base = true ∧ id / 256 = 7 then Idx.CANb_SVCCNT b else Idx.CANb_UNKCNT b)) := by
  have hgood := (State.CanStep.refl b [] s).canGood.tables
  cases base with
  | false => exact (occurs_pos (frameReceived_cond hb hid hbytes hon fun h => absurd h Bool.false_ne_true)).trans rfl
  | true =>
    have hcls := hcls rfl
    have hfree : ¬ ((id / 256 = 0 ∨ id / 256 = 6) ∧ id % 4 = 0) := by omega
    refine (occurs_pos (frameReceived_cond hb hid hbytes hon fun _ => hfree)).trans (congrArg _ ?_)
    dsimp only
    rw [if_neg (by simp)]
    by_cases h7 : id / 256 = 7
    · rw [if_pos h7, if_pos ⟨rfl, h7⟩]
    · have hno : ¬ ((id / 256 = 2 ∨ id / 256 = 3) ∧ id % 4 = 0 ∧ (s.canGood b).stnPresent b (id / 4 % 64) = true) := ?_
      · rw [if_neg h7, if_neg hno, if_neg fun h => h7 h.2]
      rw [State.stnPresent_congr hgood]
      rintro ⟨h23, h0, hp⟩
      rcases hcls with h | h | h | h | h | ⟨-, -, h⟩
      · omega
      · omega
      · omega
      · omega
      · exact h h0
      · rw [hp] at h
        cases h

theorem canFrameReceived_unknown (s : State) (b id : Nat) (base copying : Bool) (bytes : List Byte) (hb : b < 2) (hid : id < 2048)
    (hbytes : bytes.length ≤ 64) (hon : s.onBus b = true)
    (hcls : base = true → id / 256 = 1 ∨ id / 256 = 4 ∨ id / 256 = 5 ∨ id / 256 = 7 ∨ id % 4 ≠ 0 ∨
      (id / 256 ≠ 0 ∧ id / 256 ≠ 6 ∧ s.stnPresent b (id / 4 % 64) = false)) :
    ∃ t, exec (.canFrameReceived b id base bytes copying) s = .next t ∧
      (if base = true ∧ id / 256 = 7 then
        t.par (Idx.CANb_SVCCNT b) = min (s.par (Idx.CANb_SVCCNT b) + 1) (2 ^ 32 - 1) ∧ s.EventsOnly t [Idx.CANb_SVCCNT b]
       else t.par (Idx.CANb_UNKCNT b) = min (s.par (Idx.CANb_UNKCNT b) + 1) (2 ^ 32 - 1) ∧ s.EventsOnly t [Idx.CANb_UNKCNT b]) ∧
      (t.can b).objs = (s.can b).objs ∧ (t.can b).stns = (s.can b).stns ∧ t.can (1 - b) = s.can (1 - b) ∧
      t = { s with dir := t.dir, can0 := t.can0, can1 := t.can1, tph := t.tph } := by
  have hex := canFrameReceived_counted s b id base copying bytes hb hid hbytes hon hcls
  have hmem : (if base = true ∧ id / 256 = 7 then Idx.CANb_SVCCNT b else Idx.CANb_UNKCNT b) ∈ stationCounts b := by
    split <;> simp [stationCounts]
  obtain ⟨hall, hpar⟩ := (State.CanStep.refl b [] s).canGood.counted hb hmem
  refine ⟨_, hex, ?_, (congrArg Can.objs hall.can).trans rfl, (congrArg Can.stns hall.can).trans rfl, hall.other, hall.frame_eq⟩
  have hev := hall.events
  by_cases h7 : base = true ∧ id / 256 = 7
  · rw [if_pos h7] at hpar hev ⊢
    rw [if_pos h7]
    exact ⟨hpar, hev⟩
  · rw [if_neg h7] at hpar hev ⊢
    rw [if_neg h7]
    exact ⟨hpar, hev⟩

/-! ## Stations that return, fail and are lost -/

theorem stationHeartbeat_returns (s : State) (b n : Nat) (bytes : List Byte) (hb : b < 2) (hn : n < 64) (hbytes : bytes.length ≤ 8)
    (hon : s.onBus b = true) (hshape : s.Shape) (hpres : s.stnPresent b n = true) (hver : getU bytes 1 1 = 1)
    (htype : s.stnType b n = 0 ∨ getU bytes 2 2 = s.stnType b n) (hop : getU bytes 0 1 = 1) :
    ∃ t, exec (.stationHeartbeat b n bytes) s = .next t ∧
      t.cstn b n = { s.cstn b n with hb := bytes, hbAt := s.pwr.opTime, lost := false,
                                     back := (s.cstn b n).back || (s.cstn b n).lost } ∧
      (∀ j, t.cobj b j = if (s.cstn b n).lost = true ∧ j ∈ s.sendObjs b ∧ s.objStn b j = n then { s.cobj b j with force := true }
        else s.cobj b j) ∧
      (∀ k, k ≠ n → t.cstn b k = s.cstn b k) ∧ t.can (1 - b) = s.can (1 - b) ∧ s.EventsOnly t [] ∧
      t = { s with dir := t.dir, can0 := t.can0, can1 := t.can1, tph := t.tph } := by
  obtain ⟨hobjs, hstns⟩ := hshape.can_lengths b
  have hgood := (State.CanStep.refl b [] s).canGood
  have hlost : ((s.canGood b).cstn b n) = s.cstn b n := hgood.cstn n
  have hmod := hgood.modStn n fun x =>
    { x with hb := bytes, hbAt := (s.canGood b).pwr.opTime, lost := false, back := x.back || (s.cstn b n).lost }
  have h : exec (.stationHeartbeat b n bytes) s = occurs (decide (b < 2 ∧ n < 64 ∧ bytes.length ≤ 8) && s.onBus b) s _ := rfl
  rw [occurs, if_pos (by simp [hb, hn, hbytes, hon])] at h
  dsimp only at h
  rw [State.stnPresent_congr hgood.tables, State.stnType_congr hgood.tables, hpres, if_neg (by simp), if_neg (by omega),
    if_neg (by omega), hlost] at h
  have hself : ((s.can b).stns.getD n {}) = s.cstn b n := rfl
  have hnlt : n < (s.can b).stns.length := hstns ▸ hn
  by_cases hl : (s.cstn b n).lost = true
  · rw [if_pos hl] at h
    have hall := State.forceObjs_step _ b (fun k => k == n) hmod
    rw [State.sendObjs_congr hmod.tables] at hall
    refine ⟨_, h, ?_, fun j => ?_, fun k hk => ?_, hall.other, hall.events, hall.frame_eq⟩
    · rw [hall.cstn, Can.stns_eachObj, hgood.pwr]
      exact getD_modifyAt_self _ _ _ _ hnlt
    · refine (hall.cobj j).trans ((Can.getD_eachObj _ _ ((s.sendObjs_nodup b).filter _) (fun i hi =>
        hobjs ▸ State.sendObjs_lt (List.mem_filter.mp hi).1) j).trans ?_)
      simp only [List.mem_filter, beq_iff_eq, State.objStn_congr hmod.tables]
      simp only [hl, true_and]
      rfl
    · rw [hall.cstn]
      exact getD_modifyAt_ne _ _ _ _ _ hk
  · rw [if_neg hl] at h
    refine ⟨_, h, ?_, fun j => ?_, fun k hk => ?_, hmod.other, hmod.events, hmod.frame_eq⟩
    · rw [hmod.cstn, hgood.pwr]
      exact getD_modifyAt_self _ _ _ _ hnlt
    · rw [if_neg fun h => hl h.1]
      exact hmod.cobj j
    · rw [hmod.cstn]
      exact getD_modifyAt_ne _ _ _ _ _ hk

theorem stationHeartbeat_mismatch (s : State) (b n : Nat) (bytes : List Byte) (hb : b < 2) (hn : n < 64) (hbytes : bytes.length ≤ 8)
    (hon : s.onBus b = true) (hpres : s.stnPresent b n = true)
    (hbad : getU bytes 1 1 ≠ 1 ∨ (s.stnType b n ≠ 0 ∧ getU bytes 2 2 ≠ s.stnType b n)) :
    ∃ t, exec (.stationHeartbeat b n bytes) s = .next t ∧ s.Records t (canEvent b 0x0A) 4 n ∧ (t.can b).objs = (s.can b).objs ∧
      (t.can b).stns = (s.can b).stns ∧ t.can (1 - b) = s.can (1 - b) ∧ s.EventsOnly t [] ∧
      t = { s with dir := t.dir, can0 := t.can0, can1 := t.can1, tph := t.tph } := by
  have hgood := (State.CanStep.refl b [] s).canGood
  have h : exec (.stationHeartbeat b n bytes) s = occurs (decide (b < 2 ∧ n < 64 ∧ bytes.length ≤ 8) && s.onBus b) s _ := rfl
  rw [occurs, if_pos (by simp [hb, hn, hbytes, hon])] at h
  dsimp only at h
  rw [State.stnPresent_congr hgood.tables, State.stnType_congr hgood.tables, hpres, if_neg (by simp), if_pos hbad] at h
  have hall := hgood.raise (canEvent b 0x0A) 4 n []
  exact ⟨_, h, hgood.records recsev_no_list _, (congrArg Can.objs hall.can).trans rfl, (congrArg Can.stns hall.can).trans rfl, hall.other, hall.events,
    hall.frame_eq⟩

theorem canEmergency_kept (s : State) (b n : Nat) (bytes : List Byte) (hb : b < 2) (hn : n < 64) (hbytes : bytes.length ≤ 8)
    (hon : s.onBus b = true) (hshape : s.Shape) (hpres : s.stnPresent b n = true) :
    ∃ t, exec (.canEmergency b n bytes) s = .next t ∧
      t.cstn b n = { s.cstn b n with emerg := bytes, emergs := ((s.cstn b n).emergs + 1) % 256 } ∧
      s.Records t (canEvent b 0x0C) 3 n ∧
      (∀ k, k ≠ n → t.cstn b k = s.cstn b k) ∧ (t.can b).objs = (s.can b).objs ∧ t.can (1 - b) = s.can (1 - b) ∧
      s.EventsOnly t [] ∧
      t = { s with dir := t.dir, can0 := t.can0, can1 := t.can1, tph := t.tph } := by
  obtain ⟨-, hstns⟩ := hshape.can_lengths b
  have hgood := (State.CanStep.refl b [] s).canGood
  have hmod := hgood.modStn n fun x => { x with emerg := bytes, emergs := (x.emergs + 1) % 256 }
  have h : exec (.canEmergency b n bytes) s = occurs (decide (b < 2 ∧ n < 64 ∧ bytes.length ≤ 8) && s.onBus b) s _ := rfl
  rw [occurs, if_pos (by simp [hb, hn, hbytes, hon])] at h
  dsimp only at h
  rw [State.stnPresent_congr hgood.tables, hpres, if_neg (by simp)] at h
  have hall := hmod.raise (canEvent b 0x0C) 3 n ((List.range 4).map fun k => (1, (getU bytes k 1 : Int)))
  refine ⟨_, h, ?_, hmod.records recsev_no_list _, fun k hk => ?_, (congrArg Can.objs hall.can).trans rfl, hall.other, hall.events, hall.frame_eq⟩
  · rw [hall.cstn]
    exact getD_modifyAt_self _ _ _ _ (hstns ▸ hn)
  · rw [hall.cstn]
    exact getD_modifyAt_ne _ _ _ _ _ hk

/-- The image of a station is no longer fresh. -/
def State.staleImage (s : State) (b : Nat) (image : Option Nat) : State :=
  match image with
  | some j => s.modObj b j fun o => { o with fresh := false }
  | none => s

/-- The objects of a lost station, cancelled. -/
def State.flushed (s : State) (b n : Nat) : State :=
  ((s.sendObjs b).filter fun j => s.objStn b j == n).foldl (fun s j => s.modObj b j (CanObj.cancel Status.aborted.code)) s

theorem State.stationLost_eq (s : State) (b n : Nat) : s.stationLost b n =
    (((((s.flushed b n).staleImage b ((s.flushed b n).objOf b n 1)).modStn b n fun x => { x with lost := true, back := false }).bump
      (Idx.CANb_LOSTCNT b)).raise (canEvent b 8) 3 n) := by
  unfold State.stationLost State.staleImage
  dsimp only
  rfl

theorem State.CanStep.staleImage {is : List Nat} {r t : State} {c : Can} (h : State.CanStep b is r t c) (image : Option Nat)
    (hlt : ∀ j, image = some j → j < c.objs.length) :
    ∃ objs, State.CanStep b is r (t.staleImage b image) { c with objs := objs } ∧
      (∀ j, image = some j → (objs.getD j {}).fresh = false) ∧ ∀ j, image ≠ some j → objs.getD j {} = c.objs.getD j {} := by
  cases image with
  | none => exact ⟨c.objs, h, fun j hj => absurd hj (by simp), fun _ _ => rfl⟩
  | some i =>
    refine ⟨_, h.modObj i fun o => { o with fresh := false }, fun j hj => ?_, fun j hj => ?_⟩
    · obtain rfl := Option.some.inj hj
      exact congrArg CanObj.fresh (getD_modifyAt_self _ _ _ _ (hlt i rfl))
    · exact getD_modifyAt_ne _ _ _ _ _ fun h => hj (congrArg some h.symm)

theorem canStationLost_after (s : State) (b n : Nat) (hb : b < 2) (he : s.engines = true) (hpres : s.stnPresent b n = true)
    (hshape : s.Shape) (hlost : (s.cstn b n).lost = false) (hat : (s.cstn b n).hbAt + 160 ≤ s.pwr.opTime) :
    ∃ t, exec (.canStationLost b n) s = .next t ∧ t.cstn b n = { s.cstn b n with lost := true, back := false } ∧
      (∀ j ∈ s.sendObjs b, s.objStn b j = n → s.objOf b n 1 ≠ some j →
        t.cobj b j = (s.cobj b j).cancel Status.aborted.code) ∧
      (∀ j, s.objStn b j ≠ n → t.cobj b j = s.cobj b j) ∧ (∀ j, s.objOf b n 1 = some j → (t.cobj b j).fresh = false) ∧
      (∀ k, k ≠ n → t.cstn b k = s.cstn b k) ∧ t.par (Idx.CANb_LOSTCNT b) = min (s.par (Idx.CANb_LOSTCNT b) + 1) (2 ^ 32 - 1) ∧
      s.Records t (canEvent b 8) 3 n ∧ t.can (1 - b) = s.can (1 - b) ∧ s.EventsOnly t [Idx.CANb_LOSTCNT b] ∧
      t = { s with dir := t.dir, can0 := t.can0, can1 := t.can1, tph := t.tph } := by
  obtain ⟨hobjs, hstns⟩ := hshape.can_lengths b
  have hex : exec (.canStationLost b n) s = .next (s.stationLost b n) := occurs_pos (by simp [hb, he, hpres, hlost, hat])
  rw [State.stationLost_eq] at hex
  have hflush : State.CanStep b [] s (s.flushed b n) _ :=
    (State.CanStep.refl b [] s).eachObj (CanObj.cancel Status.aborted.code) ((s.sendObjs b).filter fun j => s.objStn b j == n)
  have hget := Can.getD_eachObj (s.can b) (CanObj.cancel Status.aborted.code) ((s.sendObjs_nodup b).filter fun j => s.objStn b j == n)
    (fun i hi => hobjs ▸ State.sendObjs_lt (List.mem_filter.mp hi).1)
  rw [State.objOf_congr hflush.tables] at hex
  obtain ⟨objs, hstale, hfresh, hsame⟩ := hflush.staleImage (s.objOf b n 1) fun j hj => by
    have hlen : ((s.can b).eachObj (CanObj.cancel Status.aborted.code) ((s.sendObjs b).filter fun j => s.objStn b j == n)).objs.length =
        (s.can b).objs.length := by
      unfold Can.eachObj
      dsimp only
      generalize (s.can b).objs = os
      induction (s.sendObjs b).filter fun j => s.objStn b j == n generalizing os with
      | nil => rfl
      | cons i l ih => exact (ih _).trans (length_modifyAt _ _ _)
    rw [hlen, hobjs]
    exact (State.objOf_spec hj).1
  have hmod := hstale.modStn n fun x => { x with lost := true, back := false }
  obtain ⟨hcnt, hpar⟩ := hmod.counted hb (i := Idx.CANb_LOSTCNT b) (by simp [stationCounts])
  have hall := hcnt.raise (canEvent b 8) 3 n []
  have hcobj (j : Nat) (hj : s.objOf b n 1 ≠ some j) := (hall.cobj j).trans ((hsame j hj).trans (hget j))
  refine ⟨_, hex, ?_, fun j hj hjn hne => ?_, fun j hjn => ?_, fun j hj => ?_, fun k hk => ?_, ?_, ?_, hall.other, hall.events,
    hall.frame_eq⟩
  · rw [hall.cstn]
    exact getD_modifyAt_self _ _ _ _ (hstns ▸ State.stnPresent_lt hpres)
  · rw [hcobj j hne, if_pos (List.mem_filter.mpr ⟨hj, by simpa using hjn⟩)]
    rfl
  · rw [hcobj j fun h => hjn (State.objOf_spec h).2.2, if_neg fun h => hjn (by simpa using (List.mem_filter.mp h).2)]
    rfl
  · rw [hall.cobj]
    exact hfresh j hj
  · rw [hall.cstn]
    exact getD_modifyAt_ne _ _ _ _ _ hk
  · exact (par_raise_count hb (by simp [stationCounts]) _ _ _ _).1.trans hpar
  · exact hcnt.records (stationCounts_facts hb _ (by simp [stationCounts])).2.1 _

/-- Settles O34: what each received frame does to its object and its station. -/
theorem stationsAreSupervised : Obligations.StationsAreSupervised := by
  unfold Obligations.StationsAreSupervised
  exact ⟨canFrameReceived_completes, canFrameReceived_fills, canFrameReceived_unknown, stationHeartbeat_returns, stationHeartbeat_mismatch,
    canStationLost_after, canEmergency_kept⟩

end
end Sys2Proof.Machine
end

section
/-!
PROOFS. Ports by their number, and frames handed to them (15 R372 to R376).
-/
namespace Sys2Proof.Machine

/-! ## A port by its number, and frames handed to the ports (15 R372 to R376) -/

theorem State.port_modPort_self (s : State) (p : Nat) (f : RPort → RPort) : (s.modPort p f).port p = f (s.port p) := by
  unfold State.modPort State.port
  split <;> rfl

theorem State.port_modPort_other (s : State) (p : Nat) (f : RPort → RPort) : (s.modPort p f).port (1 - p) = s.port (1 - p) := by
  unfold State.modPort State.port
  rcases p with _ | p
  · rfl
  · rw [Nat.sub_eq_zero_of_le (by omega)]
    rfl

theorem State.modPort_eq (s : State) (p : Nat) (f : RPort → RPort) : ∃ a b, s.modPort p f = { s with rng.a := a, rng.b := b } := by
  unfold State.modPort
  split
  · exact ⟨_, s.rng.b, rfl⟩
  · exact ⟨s.rng.a, _, rfl⟩

theorem State.port_congr {s t : State} (ha : t.rng.a = s.rng.a) (hb : t.rng.b = s.rng.b) (p : Nat) : t.port p = s.port p := by
  unfold State.port
  rw [ha, hb]

theorem State.parN_congr {s t : State} {i : Nat} (h : t.par i = s.par i) : t.parN i = s.parN i := by
  unfold State.parN
  rw [h]

theorem State.addr_congr {s t : State} (h : t.par Idx.RNG_ADDR = s.par Idx.RNG_ADDR) : t.addr = s.addr := by
  unfold State.addr State.parN
  rw [h]

/-- Sending takes a sequence number and hands a frame to the ports. -/
theorem State.ringSend_eq (s : State) (cls kind dest : Nat) (body : List Byte) (port : Nat) :
    ∃ seq out, s.ringSend cls kind dest body port = { s with rng.seq := seq, rng.out := out } := by
  unfold State.ringSend
  split
  · exact ⟨s.rng.seq, s.rng.out, rfl⟩
  · dsimp only
    split
    · exact ⟨s.rng.seq, s.rng.out, rfl⟩
    · exact ⟨_, _, rfl⟩

theorem State.ringSend_sends_self (s : State) (cls kind dest : Nat) (body : List Byte) (port : Nat) :
    s.Sends (s.ringSend cls kind dest body port) cls kind dest body port := by
  intro me hme hen hdup
  unfold State.ringSend
  rw [hme]
  dsimp only
  rw [if_neg (by simp [hen, hdup])]
  exact ⟨_, rfl, rfl, rfl, rfl, rfl, rfl, rfl, rfl, rfl, rfl⟩

/-- What a frame is built from stands between `s` and `t`. -/
structure State.SendsAlike (s t : State) : Prop where
  rng : t.rng.enabled = s.rng.enabled ∧ t.rng.dup = s.rng.dup ∧ t.rng.out = s.rng.out ∧ t.rng.seq = s.rng.seq ∧ t.rng.time = s.rng.time
  addr : t.par Idx.RNG_ADDR = s.par Idx.RNG_ADDR
  domain : t.par Idx.RNG_DOMAIN = s.par Idx.RNG_DOMAIN
  key : t.sec.domain = s.sec.domain

theorem State.SendsAlike.of_dir {s t : State}
    (hr : t.rng.enabled = s.rng.enabled ∧ t.rng.dup = s.rng.dup ∧ t.rng.out = s.rng.out ∧ t.rng.seq = s.rng.seq ∧ t.rng.time = s.rng.time)
    (hd : t.dir = s.dir) (hk : t.sec = s.sec) : s.SendsAlike t :=
  ⟨hr, State.par_congr hd _, State.par_congr hd _, congrArg Sec.domain hk⟩

theorem State.Sends.after {s t u : State} {cls kind dest port : Nat} {body : List Byte} (h : t.Sends u cls kind dest body port)
    (k : s.SendsAlike t) : s.Sends u cls kind dest body port := by
  obtain ⟨⟨he, hd, ho, hs, ht⟩, haddr, hdom, hkey⟩ := k
  intro me hme hen hdup
  obtain ⟨f, hf⟩ := h me ((State.addr_congr haddr).trans hme) (he.trans hen) (hd.trans hdup)
  rw [ho, hs, ht, State.parN_congr hdom, hkey] at hf
  exact ⟨f, hf⟩

theorem State.Sends.of_out {s t u : State} {cls kind dest port : Nat} {body : List Byte} (h : s.Sends t cls kind dest body port)
    (k : u.rng.out = t.rng.out) : s.Sends u cls kind dest body port := by
  intro me hme hen hdup
  rw [k]
  exact h me hme hen hdup

/-- From `s` to `t` the ring block became `r`; beside it only events were raised and the listed parameters written. -/
structure State.RingStep (is : List Nat) (s t : State) (r : Rng) : Prop where
  frame : ∃ dir tph, t = { s with dir := dir, rng := r, tph := tph }
  events : s.EventsOnly t is

variable {is : List Nat} {s t : State} {r : Rng}

theorem State.RingStep.refl (is : List Nat) (s : State) : State.RingStep is s s s.rng := ⟨⟨_, _, rfl⟩, .refl s is⟩

theorem State.RingStep.rng (h : State.RingStep is s t r) : t.rng = r := by
  obtain ⟨dir, tph, ht⟩ := h.frame
  rw [ht]

theorem State.RingStep.pwr (h : State.RingStep is s t r) : t.pwr = s.pwr := by
  obtain ⟨dir, tph, ht⟩ := h.frame
  rw [ht]

theorem State.RingStep.set (h : State.RingStep is s t r) (r' : Rng) : State.RingStep is s { t with rng := r' } r' := by
  obtain ⟨dir, tph, ht⟩ := h.frame
  exact ⟨⟨dir, tph, by rw [ht]⟩, h.events.congr rfl rfl⟩

theorem State.RingStep.modPort (h : State.RingStep is s t r) (p : Nat) (f : RPort → RPort) :
    ∃ r', State.RingStep is s (t.modPort p f) r' := by
  obtain ⟨a, b, hm⟩ := t.modPort_eq p f
  rw [hm]
  exact ⟨_, h.set _⟩

theorem State.RingStep.raise (h : State.RingStep is s t r) (code sev inst : Nat) (data : List (Nat × Int)) :
    State.RingStep is s (t.raise code sev inst data) r := by
  obtain ⟨dir, tph, ht⟩ := h.frame
  obtain ⟨d, p, hr, -⟩ := t.raise_eq code sev inst data
  exact ⟨⟨d, p, by rw [hr, ht]⟩, h.events.raise _ _ _ _⟩

theorem State.RingStep.raiseCounted (h : State.RingStep is s t r) (code sev inst : Nat) (data : List (Nat × Int)) :
    State.RingStep is s (t.raiseCounted code sev inst data) r := by
  obtain ⟨dir, tph, ht⟩ := h.frame
  obtain ⟨d, p, hr⟩ := t.raiseEvt_eq { code := code, sev := sev, inst := inst, data := placeData [] data, counted := true }
  exact ⟨⟨d, p, (show t.raiseCounted code sev inst data = _ from hr).trans (by rw [ht])⟩, h.events.raiseCounted _ _ _ _⟩

theorem State.RingStep.bump (h : State.RingStep is s t r) {i : Nat} (k : Nat) (hi : i ∈ is) (hc : isConfig i = false) :
    State.RingStep is s (t.bump i k) r := by
  obtain ⟨dir, tph, ht⟩ := h.frame
  obtain ⟨d, hb, -⟩ := t.bump_eq k hc
  exact ⟨⟨d, tph, by rw [hb, ht]⟩, h.events.bump k hi hc⟩

theorem State.RingStep.trans {u : State} {r' : Rng} (h : State.RingStep is s t r) (k : State.RingStep is t u r') : State.RingStep is s u r' := by
  obtain ⟨dir, tph, ht⟩ := h.frame
  obtain ⟨dir', tph', hu⟩ := k.frame
  exact ⟨⟨dir', tph', by rw [hu, ht]⟩, h.events.trans k.events⟩

theorem State.RingStep.records (h : State.RingStep is s t r) (hs : Idx.TPH_RECSEV ∉ Idx.TPH_BUFDROPS :: is) (e : Evt) :
    s.Records (t.raiseEvt e) e.code e.sev e.inst := by
  obtain ⟨dir, tph, ht⟩ := h.frame
  exact (t.records_raiseEvt e).after h.events.2.2 (h.events.1 _ hs) (by rw [ht]) (by rw [ht])

/-- What is recorded stays recorded. -/
theorem State.RingStep.recorded {u : State} {r' : Rng} {code sev inst : Nat} (k : State.RingStep is t u r')
    (h : s.Records t code sev inst) : s.Records u code sev inst := h.mono k.events.2.2.2

theorem State.RingStep.frame_eq (h : State.RingStep is s t r) : t = { s with dir := t.dir, rng := r, tph := t.tph } := by
  obtain ⟨dir, tph, ht⟩ := h.frame
  rw [ht]

theorem ringPars : Idx.RNG_ADDR ∉ [Idx.TPH_BUFDROPS] ∧ Idx.RNG_DOMAIN ∉ [Idx.TPH_BUFDROPS] := by decide +kernel

/-- A frame sent after steps that leave what it is built from. -/
theorem State.RingStep.ringSend (h : State.RingStep [] s t r) (cls kind dest : Nat) (body : List Byte) (port : Nat)
    (hr : r.enabled = s.rng.enabled ∧ r.dup = s.rng.dup ∧ r.out = s.rng.out ∧ r.seq = s.rng.seq ∧ r.time = s.rng.time) :
    ∃ seq out, State.RingStep [] s (t.ringSend cls kind dest body port) { r with seq := seq, out := out } ∧
      s.Sends (t.ringSend cls kind dest body port) cls kind dest body port := by
  have hsend := t.ringSend_sends_self cls kind dest body port
  obtain ⟨seq, out, hq⟩ := t.ringSend_eq cls kind dest body port
  obtain ⟨dir, tph, ht⟩ := h.frame
  refine ⟨seq, out, ?_, hsend.after ⟨h.rng ▸ hr, h.events.1 _ ringPars.1, h.events.1 _ ringPars.2, by rw [ht]⟩⟩
  have hset := h.set { r with seq := seq, out := out }
  rw [hq, h.rng]
  exact hset

end Sys2Proof.Machine
end

section
/-!
PROOFS. Frames forwarded and taken (15 R375 to R377).
-/
namespace Sys2Proof.Machine

/-! ## A frame arrives at a port (15 R375 to R377) -/

/-- The device is the frame's source. -/
def State.ownSource (s : State) (bytes : List Byte) : Bool :=
  match s.addr with
  | some a => readDst (bytes.drop 6) == .unicast a
  | none => false

/-- A port passes frames of this destination. -/
def passesMode (mode : Nat) (d : Dst) : Bool := mode == 0 || (mode == 2 && d == .control)

/-- The forwarded copy, if the frame is forwarded. -/
def State.forwarded (s : State) (port : Nat) (bytes : List Byte) (fcs residence : Nat) : State :=
  if s.forwardsDst (readDst bytes) && passesMode (s.port port).mode (readDst bytes) &&
      (s.portOn (1 - port) && (s.port (1 - port)).link && passesMode (s.port (1 - port)).mode (readDst bytes)) && fcs != 3 then
    { s with rng.fwd := some (s.forwardCopy (readFrame port s.ringNs bytes) (s.ownSource bytes) (fcs == 1 || fcs == 2) residence) }
  else s

/-- A frame that did not end well is counted. -/
def State.countFcs (s : State) (fcs : Nat) : State :=
  if fcs = 1 ∨ fcs = 3 then s.bump Idx.RNG_FCSERR else if fcs = 2 then s.bump Idx.RNG_STRIPPED else s

theorem exec_frameForward (port : Nat) (bytes : List Byte) (fcs residence : Nat) (s : State) :
    exec (.frameForward port bytes fcs residence) s = occurs (decide (port < 2) && s.portOn port && (s.port port).link) s
      (if fcs != 0 || !s.frameFits bytes || !((s.forwarded port bytes fcs residence).countFcs fcs).takesDst (readDst bytes) ||
          !(passesMode (s.port port).mode (readDst bytes) || readDst bytes == .control) ||
          (s.ownSource bytes && !(readDst bytes == .control && getU (readFrame port s.ringNs bytes).body 0 1 == 1)) then
        (s.forwarded port bytes fcs residence).countFcs fcs
       else ((s.forwarded port bytes fcs residence).countFcs fcs).ringTake (readFrame port s.ringNs bytes)) := rfl

theorem State.ownSource_iff (s : State) (bytes : List Byte) :
    s.ownSource bytes = true ↔ ∃ me, s.addr = some me ∧ readDst (bytes.drop 6) = .unicast me := by
  unfold State.ownSource
  cases s.addr with
  | none => simp
  | some a => simp

theorem State.hearManager_fwd (s : State) (f : RFrame) : (s.hearManager f).rng.fwd = s.rng.fwd := by
  have hmod (u : State) (p : Nat) (g : RPort → RPort) : (u.modPort p g).rng.fwd = u.rng.fwd := by
    obtain ⟨a, b, h⟩ := u.modPort_eq p g
    rw [h]
  unfold State.hearManager
  dsimp only
  have hset : (if getU f.body 0 1 = 2 then s else
      { s with rng.manager := some (getU f.body 2 2), rng.mgrHeard := s.pwr.opTime }).rng.fwd = s.rng.fwd := by
    split <;> rfl
  generalize (if getU f.body 0 1 = 2 then s else
      { s with rng.manager := some (getU f.body 2 2), rng.mgrHeard := s.pwr.opTime }) = u at hset ⊢
  split
  · split
    · split
      · exact (hmod _ _ _).trans hset
      · exact hset
    · exact hset
  · exact hset

/-- Taking a frame leaves the copy that is being forwarded. -/
theorem State.ringTake_fwd (s : State) (f : RFrame) : (s.ringTake f).rng.fwd = s.rng.fwd := by
  unfold State.ringTake
  split
  · rfl
  split
  · exact congrArg Rng.fwd ((State.RingStep.refl [Idx.RNG_STALECNT] s).bump 1 (by simp) (by decide +kernel)).rng
  split
  · exact congrArg Rng.fwd (((State.RingStep.refl [Idx.RNG_TAGFAIL] s).bump 1 (by simp) (by decide +kernel)).raiseCounted _ _ _ _).rng
  dsimp only
  split
  · rfl
  split
  · rfl
  split
  · split
    · exact State.hearManager_fwd _ f
    · exact State.hearManager_fwd _ f
  · rfl

theorem State.countFcs_step (s : State) (fcs : Nat) :
    ∃ dir, s.countFcs fcs = { s with dir := dir } := by
  unfold State.countFcs
  split
  · obtain ⟨d, h, -⟩ := s.bump_eq (i := Idx.RNG_FCSERR) 1 (by decide +kernel)
    exact ⟨d, h⟩
  · split
    · obtain ⟨d, h, -⟩ := s.bump_eq (i := Idx.RNG_STRIPPED) 1 (by decide +kernel)
      exact ⟨d, h⟩
    · exact ⟨s.dir, rfl⟩

theorem State.forwarded_step (s : State) (port : Nat) (bytes : List Byte) (fcs residence : Nat) :
    ∃ fwd, s.forwarded port bytes fcs residence = { s with rng.fwd := fwd } := by
  unfold State.forwarded
  split
  · exact ⟨_, rfl⟩
  · exact ⟨s.rng.fwd, rfl⟩

theorem frameForward_copies (s : State) (port fcs residence : Nat) (bytes : List Byte) (hp : port < 2) (hon : s.portOn port = true)
    (hlink : (s.port port).link = true) (hfw : s.forwardsDst (readDst bytes) = true) (hmode : (s.port port).mode = 0)
    (hon' : s.portOn (1 - port) = true) (hlink' : (s.port (1 - port)).link = true) (hmode' : (s.port (1 - port)).mode = 0)
    (hfcs : fcs ≠ 3) :
    ∃ t g, exec (.frameForward port bytes fcs residence) s = .next t ∧ t.rng.fwd = some g ∧
      g.hops = ((readFrame port s.ringNs bytes).hops + 1) % 65536 ∧ g.port = 1 - port ∧
      g.src = (readFrame port s.ringNs bytes).src ∧ g.tag = (readFrame port s.ringNs bytes).tag ∧
      (g.stomped = true ↔ (∃ me, s.addr = some me ∧ readDst (bytes.drop 6) = .unicast me) ∨ fcs = 1 ∨ fcs = 2 ∨
        s.parN Idx.RNG_HOPLIM ≤ (readFrame port s.ringNs bytes).hops) := by
  have hfwd : s.forwarded port bytes fcs residence = { s with
      rng.fwd := some (s.forwardCopy (readFrame port s.ringNs bytes) (s.ownSource bytes) (fcs == 1 || fcs == 2) residence) } :=
    if_pos (by simp [passesMode, hfw, hmode, hon', hlink', hmode', hfcs])
  obtain ⟨dir, hcnt⟩ := (s.forwarded port bytes fcs residence).countFcs_step fcs
  have hex := (exec_frameForward port bytes fcs residence s).trans (occurs_pos (by simp [hp, hon, hlink]))
  refine ⟨_, s.forwardCopy (readFrame port s.ringNs bytes) (s.ownSource bytes) (fcs == 1 || fcs == 2) residence, hex, ?_, rfl, rfl, rfl,
    rfl, ?_⟩
  · have hkeep : ((s.forwarded port bytes fcs residence).countFcs fcs).rng.fwd =
        some (s.forwardCopy (readFrame port s.ringNs bytes) (s.ownSource bytes) (fcs == 1 || fcs == 2) residence) := by
      rw [hcnt, hfwd]
    split
    · exact hkeep
    · exact (State.ringTake_fwd _ _).trans hkeep
  · unfold State.forwardCopy
    simp only [Bool.or_eq_true, beq_iff_eq, decide_eq_true_eq, State.ownSource_iff, or_assoc]

/-- A frame of a class that only waits to be read. -/
theorem State.ringTake_cases (s : State) {f : RFrame} (hd : s.pwr.state ≠ .dormant) (h2 : f.cls ≠ 2) (h4 : f.cls ≠ 4) (h6 : f.cls ≠ 6) :
    s.ringTake f = if !s.frameFresh f then s.bump Idx.RNG_STALECNT
      else if !s.tagGood f then (s.bump Idx.RNG_TAGFAIL).raiseCounted 0x0D09 3
      else { s with rng.taken := ⟨f.src, f.cls, f.seq, s.rng.time⟩ :: (s.rng.taken.filter fun t => decide (s.rng.time < t.at_ + 2000000)),
                    rng.inq := s.rng.inq ++ [f] } := by
  have hnd : ¬ (s.pwr.state = .dormant ∧ !s.pwr.waking ∧ f.cls ≠ 5 ∧ f.cls ≠ 6 ∧ f.cls ≠ 8) := fun h => hd h.1
  have hn6 (a : Option Nat) : ¬ (f.cls = 6 ∧ a ≠ some f.src) := fun h => h6 h.1
  unfold State.ringTake
  rw [if_neg hnd]
  dsimp only
  rw [if_neg h2, if_neg h4, if_neg (hn6 _)]

/-- The counters of frames that are not taken. -/
abbrev takeCounts : List Nat := [Idx.RNG_STALECNT, Idx.RNG_TAGFAIL]

theorem takeCounts_facts : (∀ i ∈ takeCounts, isConfig i = false ∧ i ∉ [Idx.TPH_BUFDROPS] ∧
    (paramInfo i).map (fun r => r.hi) = some (2 ^ 32 - 1)) ∧ Idx.TPH_RECSEV ∉ Idx.TPH_BUFDROPS :: takeCounts := by decide +kernel

theorem frameForward_takes (s : State) (port residence : Nat) (bytes : List Byte) (f : RFrame) (hp : port < 2) (hon : s.portOn port = true)
    (hlink : (s.port port).link = true) (hmode : (s.port port).mode = 0) (hfits : s.frameFits bytes = true)
    (hdst : s.takesDst (readDst bytes) = true) (hsrc : ∀ me, s.addr = some me → readDst (bytes.drop 6) ≠ .unicast me)
    (hf : f = readFrame port s.ringNs bytes) (hd : s.pwr.state ≠ .dormant) (h2 : f.cls ≠ 2) (h4 : f.cls ≠ 4) (h6 : f.cls ≠ 6) :
    ∃ t, exec (.frameForward port bytes 0 residence) s = .next t ∧
      (s.frameFresh f = true → s.tagGood f = true →
        t.rng.inq = s.rng.inq ++ [f] ∧ (∃ k ∈ t.rng.taken, k = ⟨f.src, f.cls, f.seq, s.rng.time⟩) ∧ t.dir = s.dir) ∧
      (s.frameFresh f = false → t.rng.inq = s.rng.inq ∧ t.rng.taken = s.rng.taken ∧
        t.par Idx.RNG_STALECNT = min (s.par Idx.RNG_STALECNT + 1) (2 ^ 32 - 1)) ∧
      (s.frameFresh f = true → s.tagGood f = false → t.rng.inq = s.rng.inq ∧ t.rng.taken = s.rng.taken ∧
        t.par Idx.RNG_TAGFAIL = min (s.par Idx.RNG_TAGFAIL + 1) (2 ^ 32 - 1) ∧ s.Records t 0x0D09 3 0xFF) ∧
      s.EventsOnly t [Idx.RNG_STALECNT, Idx.RNG_TAGFAIL] ∧
      t = { s with dir := t.dir, rng.fwd := t.rng.fwd, rng.inq := t.rng.inq, rng.taken := t.rng.taken, tph := t.tph } := by
  have hown : s.ownSource bytes = false := by
    rw [Bool.eq_false_iff]
    intro h
    obtain ⟨me, hme, hsame⟩ := (s.ownSource_iff bytes).mp h
    exact hsrc me hme hsame
  have hex := (exec_frameForward port bytes 0 residence s).trans (occurs_pos (by simp [hp, hon, hlink]))
  obtain ⟨fwd, hfwd⟩ := s.forwarded_step port bytes 0 residence
  have hcnt : (s.forwarded port bytes 0 residence).countFcs 0 = { s with rng.fwd := fwd } := by
    rw [hfwd]
    rfl
  have hdst' : ({ s with rng.fwd := fwd } : State).takesDst (readDst bytes) = true := hdst
  rw [hcnt, ← hf, if_neg (by simp [hfits, hdst', passesMode, hmode, hown]), ({ s with rng.fwd := fwd } : State).ringTake_cases hd h2 h4 h6] at hex
  have hfresh : ({ s with rng.fwd := fwd } : State).frameFresh f = s.frameFresh f := rfl
  have htag : ({ s with rng.fwd := fwd } : State).tagGood f = s.tagGood f := rfl
  have hfwdstep := (State.RingStep.refl takeCounts s).set { s.rng with fwd := fwd }
  obtain ⟨hfacts, hsev⟩ := takeCounts_facts
  rw [hfresh, htag] at hex
  cases hfr : s.frameFresh f with
  | false =>
    rw [hfr, Bool.not_false, if_pos rfl] at hex
    obtain ⟨hc, -, hhi⟩ := hfacts Idx.RNG_STALECNT (by simp)
    have hall := hfwdstep.bump 1 (i := Idx.RNG_STALECNT) (by simp) hc
    refine ⟨_, hex, fun h => absurd h Bool.false_ne_true, fun _ => ⟨(congrArg Rng.inq hall.rng).trans rfl, (congrArg Rng.taken hall.rng).trans rfl,
      State.par_bump_top _ hc hhi⟩, fun h => absurd h Bool.false_ne_true, hall.events, ?_⟩
    obtain ⟨dir, tph, ht⟩ := hall.frame
    rw [ht]
  | true =>
    rw [hfr, if_neg (by simp)] at hex
    cases htg : s.tagGood f with
    | false =>
      rw [htg, Bool.not_false, if_pos rfl] at hex
      obtain ⟨hc, hne, hhi⟩ := hfacts Idx.RNG_TAGFAIL (by simp)
      have hbump := hfwdstep.bump 1 (i := Idx.RNG_TAGFAIL) (by simp) hc
      have hall := hbump.raiseCounted 0x0D09 3 0xFF []
      refine ⟨_, hex, fun _ h => absurd h Bool.false_ne_true, fun h => absurd h (by simp), fun _ _ => ⟨(congrArg Rng.inq hall.rng).trans rfl,
        (congrArg Rng.taken hall.rng).trans rfl, ?_, hbump.records hsev _⟩, hall.events, ?_⟩
      · exact (((State.EventsOnly.refl _ []).raiseCounted 0x0D09 3 0xFF []).1 _ hne).trans (State.par_bump_top _ hc hhi)
      · obtain ⟨dir, tph, ht⟩ := hall.frame
        rw [ht]
    | true =>
      rw [htg, if_neg (by simp)] at hex
      exact ⟨_, hex, fun _ _ => ⟨rfl, ⟨_, List.mem_cons_self, rfl⟩, rfl⟩, fun h => absurd h (by simp), fun _ h => absurd h (by simp),
        .of_eq _ rfl rfl, rfl⟩

theorem frameForward_badFcs (s : State) (port fcs residence : Nat) (bytes : List Byte) (hp : port < 2) (hon : s.portOn port = true)
    (hlink : (s.port port).link = true) (hfcs : fcs = 1 ∨ fcs = 3) :
    ∃ t, exec (.frameForward port bytes fcs residence) s = .next t ∧
      t.par Idx.RNG_FCSERR = min (s.par Idx.RNG_FCSERR + 1) (2 ^ 32 - 1) ∧ s.EventsOnly t [Idx.RNG_FCSERR] ∧
      t = { s with dir := t.dir, rng.fwd := t.rng.fwd } := by
  have hex := (exec_frameForward port bytes fcs residence s).trans (occurs_pos (by simp [hp, hon, hlink]))
  have h0 : fcs ≠ 0 := by omega
  rw [if_pos (by simp [h0])] at hex
  obtain ⟨fwd, hfwd⟩ := s.forwarded_step port bytes fcs residence
  have hcnt : (s.forwarded port bytes fcs residence).countFcs fcs = ({ s with rng.fwd := fwd } : State).bump Idx.RNG_FCSERR := by
    rw [hfwd]
    exact if_pos hfcs
  rw [hcnt] at hex
  have hc : isConfig Idx.RNG_FCSERR = false := by decide +kernel
  have hhi : (paramInfo Idx.RNG_FCSERR).map (fun r => r.hi) = some (2 ^ 32 - 1) := by decide +kernel
  refine ⟨_, hex, State.par_bump_top _ hc hhi, (State.EventsOnly.of_eq _ rfl rfl).bump 1 (by simp) hc, ?_⟩
  obtain ⟨dir, hb, -⟩ := ({ s with rng.fwd := fwd } : State).bump_eq 1 hc
  rw [hb]

/-- Settles O35: a frame is forwarded, counted, and taken, in this order. -/
theorem ringFramesAreCheckedAndForwarded : Obligations.RingFramesAreCheckedAndForwarded := by
  unfold Obligations.RingFramesAreCheckedAndForwarded
  exact ⟨frameForward_copies, frameForward_takes, frameForward_badFcs⟩

end Sys2Proof.Machine
end

section
/-!
PROOFS. Ring control (15 R380 to R382).
-/
namespace Sys2Proof.Machine

/-! ## Ring control (15 R380 to R382) -/

theorem State.modPort_b (s : State) (f : RPort → RPort) : s.modPort 1 f = { s with rng.b := f s.rng.b } := rfl

section
variable {is : List Nat} {s t u : State} {r q : Rng}

theorem State.RingStep.modPort_ab (h : State.RingStep is s t r) (p : Nat) (f : RPort → RPort) :
    ∃ a b, State.RingStep is s (t.modPort p f) { r with a := a, b := b } := by
  obtain ⟨a, b, hm⟩ := t.modPort_eq p f
  have hset := h.set { r with a := a, b := b }
  rw [hm, h.rng]
  exact ⟨a, b, hset⟩

/-- Two states of a chain with the same ports. -/
theorem State.RingStep.port_same (h : State.RingStep is s t r) (k : State.RingStep is s u q) (ha : r.a = q.a) (hb : r.b = q.b) (p : Nat) :
    t.port p = u.port p := by
  have hab : t.rng.a = u.rng.a ∧ t.rng.b = u.rng.b := by rw [h.rng, k.rng]; exact ⟨ha, hb⟩
  exact State.port_congr hab.1 hab.2 p

theorem State.controlBody_congr {s t : State} (h : t.rng.manager = s.rng.manager) (type port no : Nat) :
    t.controlBody type port no = s.controlBody type port no := by
  unfold State.controlBody
  rw [h]

end

theorem rngLinkDown_after (s : State) (port us : Nat) (hen : s.rng.enabled = true) (hp : port < 2) (hl : (s.port port).link = true)
    (hus : 5000 ≤ us) :
    ∃ t, exec (.rngLinkDown port us) s = .next t ∧ t.port port = { s.port port with link := false, amp := 0, mode := 2 } ∧
      t.port (1 - port) = s.port (1 - port) ∧ s.Sends t 6 3 0 (s.controlBody 2 port 0) (1 - port) ∧ s.Records t 0x0D01 3 0xFF ∧
      s.EventsOnly t [] ∧
      t = { s with dir := t.dir, rng.a := t.rng.a, rng.b := t.rng.b, rng.seq := t.rng.seq, rng.out := t.rng.out, tph := t.tph } := by
  have hex : exec (.rngLinkDown port us) s = _ := occurs_pos (by simp [State.ringRuns, hen, hp, hl, hus])
  obtain ⟨a, b, h1⟩ := (State.RingStep.refl [] s).modPort_ab port fun p => { p with link := false, amp := 0, mode := 2 }
  have h2 := h1.raise 0x0D01 3 0xFF [(1, port)]
  obtain ⟨seq, out, h3, hsend⟩ := h2.ringSend 6 3 0 (((s.modPort port fun p => { p with link := false, amp := 0, mode := 2 }).raise
    0x0D01 3 0xFF [(1, port)]).controlBody 2 port 0) (1 - port) ⟨rfl, rfl, rfl, rfl, rfl⟩
  rw [State.controlBody_congr ((congrArg Rng.manager h2.rng).trans rfl)] at hsend h3
  dsimp only at hex
  rw [State.controlBody_congr ((congrArg Rng.manager h2.rng).trans rfl)] at hex
  refine ⟨_, hex, ?_, ?_, hsend, ?_, h3.events, ?_⟩
  · rw [h3.port_same h1 rfl rfl, State.port_modPort_self]
  · rw [h3.port_same h1 rfl rfl, State.port_modPort_other]
  · have hrec : s.Records ((s.modPort port fun p => { p with link := false, amp := 0, mode := 2 }).raise 0x0D01 3 0xFF [(1, port)])
        0x0D01 3 0xFF := h1.records recsev_no_list _
    refine hrec.mono ?_
    rw [congrArg State.tph (State.ringSend_eq _ 6 3 0 _ _).choose_spec.choose_spec]
  · obtain ⟨dir, tph, ht⟩ := h3.frame
    rw [ht]

theorem rngLinkUp_after (s : State) (port amp : Nat) (hp : port < 2) (hon : s.portOn port = true) (hl : (s.port port).link = false)
    (hamp : amp = 1 ∨ amp = 2)
    (hforced : s.parN (if port = 0 then Idx.RNG_PACFG else Idx.RNG_PBCFG) % 4 = 0 ∨
      s.parN (if port = 0 then Idx.RNG_PACFG else Idx.RNG_PBCFG) % 4 = amp) :
    ∃ t, exec (.rngLinkUp port amp) s = .next t ∧
      t.port port = { s.port port with link := true, amp := amp, mode := 2, upAt := s.pwr.opTime } ∧
      t.port (1 - port) = s.port (1 - port) ∧ s.Records t 0x0D02 2 0xFF ∧ s.EventsOnly t [] ∧
      t = { s with dir := t.dir, rng.a := t.rng.a, rng.b := t.rng.b, tph := t.tph } := by
  have hamp' : 1 ≤ amp ∧ amp ≤ 2 := by omega
  have hex : exec (.rngLinkUp port amp) s = _ := occurs_pos (by simp [hp, hon, hl, hamp', hforced])
  obtain ⟨a, b, h1⟩ := (State.RingStep.refl [] s).modPort_ab port fun p =>
    { p with link := true, amp := amp, mode := 2, upAt := s.pwr.opTime }
  have h2 := h1.raise 0x0D02 2 0xFF [(1, port)]
  refine ⟨_, hex, ?_, ?_, h1.records recsev_no_list _, h2.events, ?_⟩
  · rw [h2.port_same h1 rfl rfl, State.port_modPort_self]
  · rw [h2.port_same h1 rfl rfl, State.port_modPort_other]
  · obtain ⟨dir, tph, ht⟩ := h2.frame
    rw [ht]

theorem controlOnlyTimeout_after (s : State) (port : Nat) (hen : s.rng.enabled = true) (hp : port < 2) (hl : (s.port port).link = true)
    (hm : (s.port port).mode = 2) (hmgr : s.rng.isMgr = false) (hup : (s.port port).upAt + 200 ≤ s.pwr.opTime)
    (hheard : s.rng.mgrHeard + 200 ≤ s.pwr.opTime) :
    ∃ t, exec (.controlOnlyTimeout port) s = .next t ∧ t.port port = { s.port port with mode := 0 } ∧
      t.port (1 - port) = s.port (1 - port) ∧ t = { s with rng.a := t.rng.a, rng.b := t.rng.b, rng.manager := none } := by
  refine ⟨_, occurs_pos (by simp [State.ringRuns, hen, hp, hl, hm, hmgr, hup, hheard]), State.port_modPort_self _ _ _,
    State.port_modPort_other _ _ _, ?_⟩
  obtain ⟨a, b, hmod⟩ := ({ s with rng.manager := none } : State).modPort_eq port fun p => { p with mode := 0 }
  rw [hmod]

theorem rngManager_after (s : State) (hc : s.mgrCandidate = true) (hm : s.rng.isMgr = false) (hl : s.rng.lowerHeard + 100 ≤ s.pwr.opTime) :
    ∃ t, exec .rngManager s = .next t ∧ s.Records t 0x0D0A 1 0xFF ∧ s.EventsOnly t [] ∧
      t = { s with dir := t.dir, rng.isMgr := true, rng.manager := s.addr, rng.testNo := 0, rng.testBack := 0,
                   rng.testAt := s.pwr.opTime, tph := t.tph } := by
  have h1 := (State.RingStep.refl [] s).set
    { s.rng with isMgr := true, manager := s.addr, testNo := 0, testBack := 0, testAt := s.pwr.opTime }
  have h2 := h1.raise 0x0D0A 1 0xFF []
  refine ⟨_, occurs_pos (by simp [hc, hm, hl]), h1.records recsev_no_list _, h2.events, ?_⟩
  exact h2.frame_eq

theorem ringTest_after (s : State) (hc : s.mgrCandidate = true) (hm : s.rng.isMgr = true)
    (hat : s.rng.testAt + s.parN Idx.RNG_TESTPER ≤ s.pwr.opTime) :
    ∃ t, exec .ringTest s = .next t ∧ s.Sends t 6 3 0 (s.controlBody 1 0 ((s.rng.testNo + 1) % 2 ^ 32)) 0 ∧
      t = { s with rng.testNo := s.rng.testNo + 1, rng.testAt := s.pwr.opTime, rng.seq := t.rng.seq, rng.out := t.rng.out } := by
  have hex : exec .ringTest s = .next (({ s with rng.testNo := s.rng.testNo + 1, rng.testAt := s.pwr.opTime } : State).ringSend 6 3 0
    (s.controlBody 1 0 ((s.rng.testNo + 1) % 2 ^ 32)) 0) := occurs_pos (by simp [hc, hm, hat])
  have hsend := ({ s with rng.testNo := s.rng.testNo + 1, rng.testAt := s.pwr.opTime } : State).ringSend_sends_self 6 3 0
    (s.controlBody 1 0 ((s.rng.testNo + 1) % 2 ^ 32)) 0
  refine ⟨_, hex, hsend.after (.of_dir ⟨rfl, rfl, rfl, rfl, rfl⟩ rfl rfl), ?_⟩
  obtain ⟨seq, out, hq⟩ := ({ s with rng.testNo := s.rng.testNo + 1, rng.testAt := s.pwr.opTime } : State).ringSend_eq 6 3 0
    (s.controlBody 1 0 ((s.rng.testNo + 1) % 2 ^ 32)) 0
  rw [hq]

/-- A returned TEST frame is noted. -/
def State.testBack (s : State) (f : RFrame) : State := { s.dropFrame f with rng.testBack := s.rng.testNo }

/-- The manager blocks port B, and port A forwards. -/
def State.blockB (s : State) : State :=
  (s.modPort 1 fun p => { p with mode := 1 }).modPort 0 fun p => if p.mode = 2 then { p with mode := 0 } else p

/-- RING_CLOSED leaves by both ports, and the closed ring is recorded once. -/
def State.closeRing (s : State) : State :=
  let s := s.ringSend 6 3 0 (s.controlBody 3 1 0) 2
  if s.rng.closed then s else ({ s with rng.closed := true } : State).raise 0x0D04 2

theorem exec_testReturned {s : State} {f : RFrame} (hc : s.mgrCandidate = true) (hm : s.rng.isMgr = true) (hown : s.ownTest = some f) :
    exec .testReturned s = .next (if ((s.testBack f).port 1).mode = 1 then s.testBack f else (s.testBack f).blockB.closeRing) := by
  refine (occurs_pos (by simp [hc, hm, hown])).trans (congrArg _ ?_)
  rw [hown]
  rfl

theorem State.RingStep.blockB {s t : State} {r : Rng} (h : State.RingStep [] s t r) : State.RingStep [] s t.blockB
    { r with b := { r.b with mode := 1 }, a := if r.a.mode = 2 then { r.a with mode := 0 } else r.a } := by
  obtain ⟨dir, tph, ht⟩ := h.frame
  have hev := h.events
  subst ht
  exact ⟨⟨dir, tph, rfl⟩, hev.congr rfl rfl⟩

theorem State.testBack_step (s : State) (f : RFrame) : State.RingStep [] s (s.testBack f)
    { s.rng with testBack := s.rng.testNo, inq := s.rng.inq.erase f } := (State.RingStep.refl [] s).set _

theorem State.RingStep.closeRing {s t : State} {r : Rng} (h : State.RingStep [] s t r) (hr : r.enabled = s.rng.enabled ∧ r.dup = s.rng.dup ∧
    r.out = s.rng.out ∧ r.seq = s.rng.seq ∧ r.time = s.rng.time) (hmgr : r.manager = s.rng.manager) (hclosed : r.closed = false) :
    ∃ seq out, State.RingStep [] s t.closeRing { r with seq := seq, out := out, closed := true } ∧
      s.Sends t.closeRing 6 3 0 (s.controlBody 3 1 0) 2 ∧ s.Records t.closeRing 0x0D04 2 0xFF := by
  obtain ⟨seq, out, h2, hsend⟩ := h.ringSend 6 3 0 (t.controlBody 3 1 0) 2 hr
  have hbody : t.controlBody 3 1 0 = s.controlBody 3 1 0 := State.controlBody_congr ((congrArg Rng.manager h.rng).trans hmgr) _ _ _
  unfold State.closeRing
  dsimp only
  rw [hbody] at h2 hsend ⊢
  generalize t.ringSend 6 3 0 (s.controlBody 3 1 0) 2 = u at h2 hsend ⊢
  rw [h2.rng, if_neg (by rw [hclosed]; exact Bool.false_ne_true)]
  have h3 := h2.set { r with seq := seq, out := out, closed := true }
  have h4 := h3.raise 0x0D04 2 0xFF []
  exact ⟨seq, out, h4, hsend.of_out ((congrArg Rng.out h4.rng).trans (congrArg Rng.out h2.rng).symm), h3.records recsev_no_list _⟩

theorem testReturned_after (s : State) (f : RFrame) (hc : s.mgrCandidate = true) (hm : s.rng.isMgr = true) (hown : s.ownTest = some f)
    (hmode : (s.port 1).mode ≠ 1) (hclosed : s.rng.closed = false) :
    ∃ t, exec .testReturned s = .next t ∧ t.rng.testBack = s.rng.testNo ∧ t.port 1 = { s.port 1 with mode := 1 } ∧
      t.port 0 = { s.port 0 with mode := if (s.port 0).mode = 2 then 0 else (s.port 0).mode } ∧ t.rng.closed = true ∧
      s.Sends t 6 3 0 (s.controlBody 3 1 0) 2 ∧ s.Records t 0x0D04 2 0xFF ∧ s.EventsOnly t [] ∧
      t = { s with dir := t.dir, rng.testBack := s.rng.testNo, rng.inq := s.rng.inq.erase f, rng.a := t.rng.a, rng.b := t.rng.b,
                   rng.seq := t.rng.seq, rng.out := t.rng.out, rng.closed := true, tph := t.tph } := by
  have hex := exec_testReturned hc hm hown
  have hmode' : ((s.testBack f).port 1).mode ≠ 1 := hmode
  rw [if_neg hmode'] at hex
  obtain ⟨seq, out, h, hsend, hrec⟩ := (s.testBack_step f).blockB.closeRing ⟨rfl, rfl, rfl, rfl, rfl⟩ rfl hclosed
  generalize (s.testBack f).blockB.closeRing = t at *
  refine ⟨t, hex, ?_, ?_, ?_, ?_, hsend, hrec, h.events, ?_⟩
  · rw [h.rng]
  · exact congrArg Rng.b h.rng
  · refine (congrArg Rng.a h.rng).trans ?_
    dsimp only
    rw [show s.port 0 = s.rng.a from rfl]
    split <;> rfl
  · rw [h.rng]
  · obtain ⟨dir, tph, ht⟩ := h.frame
    rw [ht]

/-- The break is healed. -/
theorem State.openRing_step (s : State) (hm : (s.port 1).mode = 1) :
    State.RingStep [Idx.RNG_HEALS] s s.openRing { s.rng with b := { s.rng.b with mode := 0 }, closed := false } ∧
      s.openRing.par Idx.RNG_HEALS = min (s.par Idx.RNG_HEALS + 1) (2 ^ 32 - 1) ∧ s.Records s.openRing 0x0D03 3 0xFF := by
  have hm' : s.rng.b.mode = 1 := hm
  have hc : isConfig Idx.RNG_HEALS = false := by decide +kernel
  have hhi : (paramInfo Idx.RNG_HEALS).map (fun r => r.hi) = some (2 ^ 32 - 1) := by decide +kernel
  have hsev : Idx.TPH_RECSEV ∉ Idx.TPH_BUFDROPS :: [Idx.RNG_HEALS] := by decide +kernel
  have hne : Idx.RNG_HEALS ∉ Idx.TPH_BUFDROPS :: [] := by decide +kernel
  unfold State.openRing
  dsimp only
  rw [State.modPort_b, if_pos hm']
  have h1 := (State.RingStep.refl [Idx.RNG_HEALS] s).set { s.rng with b := { s.rng.b with mode := 0 }, closed := false }
  have h2 := h1.bump 1 (i := Idx.RNG_HEALS) (by simp) hc
  exact ⟨h2.raise 0x0D03 3 0xFF [], (((State.EventsOnly.refl _ []).raise 0x0D03 3 0xFF []).1 _ hne).trans (State.par_bump_top _ hc hhi),
    h2.records hsev _⟩

theorem testLoss_after (s : State) (hc : s.mgrCandidate = true) (hmgr : s.rng.isMgr = true) (hm : (s.port 1).mode = 1)
    (hloss : s.rng.testBack + s.parN Idx.RNG_TESTLOSS ≤ s.rng.testNo) :
    ∃ t, exec .testLoss s = .next t ∧ t.port 1 = { s.port 1 with mode := 0 } ∧
      t.par Idx.RNG_HEALS = min (s.par Idx.RNG_HEALS + 1) (2 ^ 32 - 1) ∧ s.Records t 0x0D03 3 0xFF ∧
      s.EventsOnly t [Idx.RNG_HEALS] ∧
      t = { s with dir := t.dir, rng.b := t.rng.b, rng.closed := false, tph := t.tph } := by
  obtain ⟨h, hpar, hrec⟩ := s.openRing_step hm
  refine ⟨_, occurs_pos (by simp [hc, hmgr, hm, hloss]), congrArg Rng.b h.rng, hpar, hrec, h.events, ?_⟩
  obtain ⟨dir, tph, ht⟩ := h.frame
  rw [ht]

theorem linkDown_after (s : State) (f : RFrame) (hen : s.rng.enabled = true) (hf : s.nextFrame 6 (some 2) = some f)
    (hmgr : s.rng.isMgr = true) (hm : (s.port 1).mode = 1) :
    ∃ t, exec .linkDown s = .next t ∧ t.port 1 = { s.port 1 with mode := 0 } ∧
      t.par Idx.RNG_HEALS = min (s.par Idx.RNG_HEALS + 1) (2 ^ 32 - 1) ∧ s.Records t 0x0D03 3 0xFF ∧
      s.EventsOnly t [Idx.RNG_HEALS] ∧
      t = { s with dir := t.dir, rng.b := t.rng.b, rng.inq := s.rng.inq.erase f, rng.closed := false, tph := t.tph } := by
  have hex : exec .linkDown s = _ := occurs_pos (by simp [State.ringRuns, hen, hf])
  rw [hf] at hex
  dsimp only at hex
  have hcond : (s.dropFrame f).rng.isMgr = true ∧ ((s.dropFrame f).port 1).mode = 1 := ⟨hmgr, hm⟩
  rw [if_pos hcond] at hex
  obtain ⟨h, hpar, hrec⟩ := (s.dropFrame f).openRing_step hm
  refine ⟨_, hex, congrArg Rng.b h.rng, hpar, fun hh => hrec hh, (State.EventsOnly.of_eq _ rfl rfl).trans h.events, ?_⟩
  obtain ⟨dir, tph, ht⟩ := h.frame
  rw [ht]
  rfl

/-- A port in CONTROL_ONLY passes to FORWARDING. -/
def RPort.opened (p : RPort) : RPort := if p.link ∧ p.mode = 2 then { p with mode := 0 } else p

theorem RPort.opened_eq (p : RPort) : p.opened = { p with mode := if p.link = true ∧ p.mode = 2 then 0 else p.mode } := by
  unfold RPort.opened
  split <;> rfl

theorem ringClosed_after (s : State) (f : RFrame) (hen : s.rng.enabled = true) (hf : s.nextFrame 6 (some 3) = some f) :
    ∃ t, exec .ringClosed s = .next t ∧
      (∀ p < 2, t.port p = { s.port p with
        mode := if (s.port p).link = true ∧ (s.port p).mode = 2 then 0 else (s.port p).mode }) ∧
      t = { s with rng.a := t.rng.a, rng.b := t.rng.b, rng.inq := s.rng.inq.erase f } := by
  have hex : exec .ringClosed s = _ := occurs_pos (by simp [State.ringRuns, hen, hf])
  rw [hf] at hex
  have hex' : exec .ringClosed s = .next { s with rng.inq := s.rng.inq.erase f, rng.a := s.rng.a.opened, rng.b := s.rng.b.opened } := hex
  refine ⟨_, hex', fun p hp => ?_, rfl⟩
  rcases (show p = 0 ∨ p = 1 by omega) with rfl | rfl
  · exact s.rng.a.opened_eq
  · exact s.rng.b.opened_eq

/-- Settles O36: each event of ring control by its ports, its frame and its record. -/
theorem ringHealsItself : Obligations.RingHealsItself := by
  unfold Obligations.RingHealsItself
  exact ⟨rngLinkDown_after, rngLinkUp_after, controlOnlyTimeout_after, rngManager_after, ringTest_after, testReturned_after, testLoss_after,
    linkDown_after, ringClosed_after⟩

end Sys2Proof.Machine
end

section
/-!
PROOFS. Ring time (15 R383 to R385).
-/
namespace Sys2Proof.Machine

/-! ## Ring time (15 R383 to R385) -/

section
variable {is : List Nat} {s t : State} {r : Rng}

theorem State.RingStep.setTimeValid (h : State.RingStep is s t r) (b : Bool) :
    State.RingStep is s (t.setTimeValid b) { r with valid := b } := by
  have hset (v : Bool) := h.set { r with valid := v }
  unfold State.setTimeValid
  rw [h.rng]
  split
  · rename_i hb
    subst hb
    exact h
  · split
    · rename_i hb
      subst hb
      exact (hset true).raise _ _ _ _
    · rename_i hb
      obtain rfl := Bool.eq_false_iff.mpr hb
      exact (hset false).raise _ _ _ _

/-- The end of valid ring time is recorded. -/
theorem State.RingStep.timeLost_records (h : State.RingStep is s t r) (hs : Idx.TPH_RECSEV ∉ Idx.TPH_BUFDROPS :: is) (hv : r.valid = true) :
    s.Records (t.setTimeValid false) 0x0D06 3 0xFF := by
  unfold State.setTimeValid
  rw [h.rng, hv, if_neg (by simp), if_neg (by simp)]
  exact (h.set { r with valid := false }).records hs _

theorem State.RingStep.setMaster (h : State.RingStep is s t r) (a : Option Nat) :
    State.RingStep is s (t.setMaster a) { r with master := a } := by
  have hset := h.set { r with master := a }
  unfold State.setMaster
  rw [h.rng]
  split
  · rename_i ha
    subst ha
    exact h
  · exact hset.raise _ _ _ _

theorem State.RingStep.ringNs (h : State.RingStep is s t r) : t.ringNs = r.time * 1000 + r.ns := by
  unfold State.ringNs
  rw [h.rng]

theorem ns_split (n : Nat) : n / 1000 * 1000 + n % 1000 = n := by omega

theorem State.RingStep.stepRing (h : State.RingStep is s t r) (n : Nat) : State.RingStep is s (t.stepRing n)
    { r with time := max n (r.time * 1000 + r.ns) / 1000, ns := max n (r.time * 1000 + r.ns) % 1000 } := by
  have hset := h.set { r with time := max n (r.time * 1000 + r.ns) / 1000, ns := max n (r.time * 1000 + r.ns) % 1000 }
  unfold State.stepRing
  dsimp only
  rw [h.ringNs, h.rng]
  exact hset

end

/-! ### Syncs -/

/-- The offset of a sync, noted. -/
def State.noteSync (s : State) (off : Int) : State :=
  { s with rng.toffs := clampInt (-(2 ^ 31)) (2 ^ 31 - 1) off, rng.syncHeard := s.pwr.opTime, rng.synced := true }

/-- What an offset says of ring time's validity. -/
def State.judgeSync (s : State) (off : Int) : State :=
  if decide (mag off ≤ 20000) then ({ s with rng.goodAt := s.pwr.opTime } : State).setTimeValid true
  else if off < -20000 then s.setTimeValid false else s

/-- Ring time is steered by an offset. -/
def State.steer (s : State) (was : Bool) (src : Nat) (off : Int) : State :=
  if 0 ≤ off then
    if off ≤ 1000 ∨ !was then ({ s with rng.slew := 0 } : State).stepRing (s.ringNs + off.toNat) else { s with rng.slew := off }
  else if off < -1000000 then s.ringSend 5 0 src (timeBody 4 s.ringNs [])
  else { s with rng.slew := off }

theorem State.applySync_eq (s : State) (src : Nat) (off : Int) :
    s.applySync src off = ((s.noteSync off).judgeSync off).steer s.rng.valid src off := rfl

section
variable {is : List Nat} {s t : State} {r : Rng}

theorem State.RingStep.noteSync (h : State.RingStep [] s t r) (off : Int) : State.RingStep [] s (t.noteSync off)
    { r with toffs := clampInt (-(2 ^ 31)) (2 ^ 31 - 1) off, syncHeard := s.pwr.opTime, synced := true } := by
  have hset := h.set { r with toffs := clampInt (-(2 ^ 31)) (2 ^ 31 - 1) off, syncHeard := s.pwr.opTime, synced := true }
  have hnow : t.pwr.opTime = s.pwr.opTime := congrArg Pwr.opTime h.pwr
  unfold State.noteSync
  rw [h.rng, hnow]
  exact hset

theorem State.RingStep.judgeSync (h : State.RingStep [] s t r) (off : Int) : State.RingStep [] s (t.judgeSync off)
    { r with valid := if mag off ≤ 20000 then true else if off < -20000 then false else r.valid
             goodAt := if mag off ≤ 20000 then s.pwr.opTime else r.goodAt } := by
  have hgood := (h.set { r with goodAt := s.pwr.opTime }).setTimeValid true
  have hbad := h.setTimeValid false
  have hnow : t.pwr.opTime = s.pwr.opTime := congrArg Pwr.opTime h.pwr
  unfold State.judgeSync
  rw [h.rng, hnow]
  by_cases hm : mag off ≤ 20000
  · simp only [hm, decide_true, if_true]
    exact hgood
  · by_cases hneg : off < -20000
    · simp only [hm, decide_false, if_false, hneg, if_true]
      exact hbad
    · simp only [hm, decide_false, if_false, hneg]
      exact h

theorem State.RingStep.steer (h : State.RingStep [] s t r) (was : Bool) (src : Nat) (off : Int) :
    ∃ r', State.RingStep [] s (t.steer was src off) r' ∧ r'.isMaster = r.isMaster ∧ r'.master = r.master ∧ r'.synced = r.synced ∧
      r'.syncHeard = r.syncHeard ∧ r'.toffs = r.toffs ∧ r'.valid = r.valid ∧ r'.goodAt = r.goodAt ∧ r'.inq = r.inq ∧
      (0 ≤ off → off ≤ 1000 ∨ was = false → r'.time * 1000 + r'.ns = r.time * 1000 + r.ns + off.toNat ∧ r'.slew = 0) ∧
      (1000 < off → was = true → r'.time * 1000 + r'.ns = r.time * 1000 + r.ns ∧ r'.slew = off) ∧
      (-1000000 ≤ off → off < 0 → r'.time * 1000 + r'.ns = r.time * 1000 + r.ns ∧ r'.slew = off) := by
  unfold State.steer
  by_cases h0 : 0 ≤ off
  · rw [if_pos h0]
    by_cases h1 : off ≤ 1000 ∨ was = false
    · rw [if_pos (by simpa using h1)]
      have hstep := (h.set { r with slew := 0 }).stepRing (r.time * 1000 + r.ns + off.toNat)
      rw [h.ringNs, h.rng]
      refine ⟨_, hstep, rfl, rfl, rfl, rfl, rfl, rfl, rfl, rfl, fun _ _ => ⟨?_, rfl⟩, fun h2 hw => ?_, fun _ h2 => absurd h0 (by omega)⟩
      · dsimp only
        rw [ns_split]
        omega
      · rcases h1 with h1 | h1
        · omega
        · rw [hw] at h1
          cases h1
    · rw [if_neg (by simpa using h1)]
      have hset := h.set { r with slew := off }
      rw [h.rng]
      exact ⟨_, hset, rfl, rfl, rfl, rfl, rfl, rfl, rfl, rfl, fun _ h2 => absurd h2 h1, fun _ _ => ⟨rfl, rfl⟩, fun _ _ => ⟨rfl, rfl⟩⟩
  · rw [if_neg h0]
    by_cases h1 : off < -1000000
    · rw [if_pos h1]
      obtain ⟨seq, out, hq⟩ := t.ringSend_eq 5 0 src (timeBody 4 t.ringNs []) 2
      have hset := h.set { r with seq := seq, out := out }
      rw [hq, h.rng]
      exact ⟨_, hset, rfl, rfl, rfl, rfl, rfl, rfl, rfl, rfl, fun h2 => absurd h2 h0, fun h2 => absurd h2 (by omega),
        fun h2 => absurd h2 (by omega)⟩
    · rw [if_neg h1]
      have hset := h.set { r with slew := off }
      rw [h.rng]
      exact ⟨_, hset, rfl, rfl, rfl, rfl, rfl, rfl, rfl, rfl, fun h2 => absurd h2 h0, fun h2 => absurd h2 (by omega), fun _ _ => ⟨rfl, rfl⟩⟩

end

/-- A sync of this frame is followed. -/
def State.followsSync (s : State) (f : RFrame) : Bool :=
  (!s.rng.isMaster || (match s.addr with | some me => decide (f.src < me) | none => true)) &&
    (match s.rng.master with
     | some m => decide (f.src ≤ m) || decide (s.rng.syncHeard + 100 ≤ s.pwr.opTime)
     | none => true)

theorem State.followsSync_of {s : State} {f : RFrame} (hlow : s.rng.isMaster = true → ∀ me, s.addr = some me → f.src < me)
    (hmas : ∀ m, s.rng.master = some m → f.src ≤ m) : s.followsSync f = true := by
  unfold State.followsSync
  rw [Bool.and_eq_true, Bool.or_eq_true]
  constructor
  · cases hm : s.rng.isMaster with
    | false => exact .inl rfl
    | true =>
      cases ha : s.addr with
      | none => exact .inr rfl
      | some me => exact .inr (decide_eq_true (hlow hm me ha))
  · cases hm : s.rng.master with
    | none => rfl
    | some m => simp [hmas m hm]

/-- The sender of a followed sync is the time master. -/
def State.underMaster (s : State) (f : RFrame) : State := ({ s.dropFrame f with rng.isMaster := false } : State).setMaster (some f.src)

theorem exec_ringSync {s : State} {f : RFrame} (hen : s.rng.enabled = true) (hf : s.nextFrame 5 (some 1) = some f) :
    exec .ringSync s = .next (if !(s.dropFrame f).followsSync f then s.dropFrame f else (s.underMaster f).applySync f.src
      (((bodyNs f.body 4 + getU f.body 16 8 + ((s.underMaster f).port f.port).delay : Nat) : Int) - (f.at_ : Int))) := by
  refine (occurs_pos (by simp [State.ringRuns, hen, hf])).trans (congrArg _ ?_)
  rw [hf]
  rfl

theorem ringSync_after (s : State) (f : RFrame) (off : Int) (hen : s.rng.enabled = true) (hf : s.nextFrame 5 (some 1) = some f)
    (hlow : s.rng.isMaster = true → ∀ me, s.addr = some me → f.src < me) (hmas : ∀ m, s.rng.master = some m → f.src ≤ m)
    (hoff : off = ((bodyNs f.body 4 + getU f.body 16 8 + (s.port f.port).delay : Nat) : Int) - f.at_) :
    ∃ t, exec .ringSync s = .next t ∧ t.rng.isMaster = false ∧ t.rng.master = some f.src ∧ t.rng.synced = true ∧
      t.rng.syncHeard = s.pwr.opTime ∧ t.rng.toffs = clampInt (-(2 ^ 31)) (2 ^ 31 - 1) off ∧
      (mag off ≤ 20000 → t.rng.valid = true ∧ t.rng.goodAt = s.pwr.opTime) ∧ (off < -20000 → t.rng.valid = false) ∧
      (0 ≤ off → off ≤ 1000 ∨ s.rng.valid = false → t.ringNs = s.ringNs + off.toNat ∧ t.rng.slew = 0) ∧
      (1000 < off → s.rng.valid = true → t.ringNs = s.ringNs ∧ t.rng.slew = off) ∧
      (-1000000 ≤ off → off < 0 → t.ringNs = s.ringNs ∧ t.rng.slew = off) ∧
      t.rng.inq = s.rng.inq.erase f ∧ s.EventsOnly t [] ∧ t = { s with dir := t.dir, rng := t.rng, tph := t.tph } := by
  have hex := exec_ringSync hen hf
  have hfollow : (s.dropFrame f).followsSync f = true := State.followsSync_of hlow hmas
  have h1 : State.RingStep [] s (s.underMaster f) _ :=
    ((State.RingStep.refl [] s).set { s.rng with inq := s.rng.inq.erase f, isMaster := false }).setMaster (some f.src)
  have hport : ((s.underMaster f).port f.port) = s.port f.port := h1.port_same (State.RingStep.refl [] s) rfl rfl f.port
  rw [hfollow, if_neg (by simp), hport, ← hoff, State.applySync_eq] at hex
  have hvalid : (s.underMaster f).rng.valid = s.rng.valid := (congrArg Rng.valid h1.rng).trans rfl
  rw [hvalid] at hex
  obtain ⟨r, h, hmaster, hmas', hsynced, hheard, htoffs, hv, hgood, hinq, hfwd, hslew, hback⟩ :=
    ((h1.noteSync off).judgeSync off).steer s.rng.valid f.src off
  generalize State.steer _ _ _ _ = t at h hex
  have hns : t.ringNs = r.time * 1000 + r.ns := h.ringNs
  refine ⟨t, hex, ?_⟩
  rw [hns, h.rng]
  refine ⟨hmaster, hmas', hsynced, hheard, htoffs, fun hm => ⟨hv.trans (if_pos hm), hgood.trans (if_pos hm)⟩, fun hm => ?_, hfwd, hslew,
    hback, hinq, h.events, h.frame_eq⟩
  refine hv.trans ?_
  dsimp only
  rw [if_neg (by unfold mag; omega), if_pos hm]

theorem syncSend_after (s : State) (hen : s.rng.enabled = true) (hm : s.rng.isMaster = true) (hat : s.rng.syncSent + 10 ≤ s.pwr.opTime) :
    ∃ t, exec .syncSend s = .next t ∧ s.Sends t 5 2 0 (timeBody 1 s.ringNs (toLe 8 0)) 2 ∧
      t = { s with rng.syncSent := s.pwr.opTime, rng.seq := t.rng.seq, rng.out := t.rng.out } := by
  have hex : exec .syncSend s = .next (({ s with rng.syncSent := s.pwr.opTime } : State).ringSend 5 2 0
    (timeBody 1 s.ringNs (toLe 8 0))) := occurs_pos (by simp [State.ringRuns, hen, hm, hat])
  have hsend := ({ s with rng.syncSent := s.pwr.opTime } : State).ringSend_sends_self 5 2 0 (timeBody 1 s.ringNs (toLe 8 0)) 2
  refine ⟨_, hex, hsend.after (.of_dir ⟨rfl, rfl, rfl, rfl, rfl⟩ rfl rfl), ?_⟩
  obtain ⟨seq, out, hq⟩ := ({ s with rng.syncSent := s.pwr.opTime } : State).ringSend_eq 5 2 0 (timeBody 1 s.ringNs (toLe 8 0)) 2
  rw [hq]

theorem rngTimeLost_after (s : State) (hen : s.rng.enabled = true) (hv : s.rng.valid = true) (hm : s.rng.isMaster = false)
    (hat : s.rng.goodAt + 100 < s.pwr.opTime) :
    ∃ t, exec .rngTimeLost s = .next t ∧ s.Records t 0x0D06 3 0xFF ∧ s.EventsOnly t [] ∧
      t = { s with dir := t.dir, rng.valid := false, tph := t.tph } := by
  have h := (State.RingStep.refl [] s).setTimeValid false
  exact ⟨_, occurs_pos (by simp [State.ringRuns, hen, hv, hm, hat]), (State.RingStep.refl [] s).timeLost_records recsev_no_list hv, h.events,
    h.frame_eq⟩

theorem rngMasterChange_after (s : State) (me : Nat) (hen : s.rng.enabled = true) (hc : s.par Idx.RNG_TMCAND = 1)
    (hm : s.rng.isMaster = false) (hd : s.rng.dup = false) (ha : s.addr = some me)
    (hat : 100000 + 50 * me ≤ (s.pwr.opTime - s.rng.syncHeard) * 1000) :
    ∃ t, exec .rngMasterChange s = .next t ∧ t.rng.isMaster = true ∧ t.rng.master = some me ∧ t.rng.valid = true ∧
    t.rng.slew = 0 ∧
      t.ringNs = (if s.rng.synced then s.ringNs else max (s.rng.stored * 1000) s.ringNs) ∧ s.EventsOnly t [] ∧
      t = { s with dir := t.dir, rng.isMaster := true, rng.master := some me, rng.valid := true, rng.slew := 0,
                   rng.time := t.rng.time, rng.ns := t.rng.ns, tph := t.tph } := by
  have hex : exec .rngMasterChange s = _ := occurs_pos (by simp [State.ringRuns, hen, hc, hm, hd, ha, hat])
  dsimp only at hex
  obtain ⟨time, ns, h1, hns⟩ : ∃ time ns, State.RingStep [] s (if s.rng.synced then s else s.stepRing (s.rng.stored * 1000))
      { s.rng with time := time, ns := ns } ∧
      time * 1000 + ns = (if s.rng.synced then s.ringNs else max (s.rng.stored * 1000) s.ringNs) := by
    split
    · exact ⟨s.rng.time, s.rng.ns, .refl [] s, rfl⟩
    · exact ⟨_, _, (State.RingStep.refl [] s).stepRing _, ns_split _⟩
  generalize (if s.rng.synced then s else s.stepRing (s.rng.stored * 1000)) = u at hex h1
  have haddr : u.addr = some me := (State.addr_congr (h1.events.1 _ ringPars.1)).trans ha
  have h2 := ((h1.set { s.rng with time := time, ns := ns, isMaster := true, slew := 0 }).setMaster (some me)).setTimeValid true
  have hex' : exec .rngMasterChange s = .next (((({ u with rng := { u.rng with isMaster := true, slew := 0 } } : State).setMaster
    u.addr).setTimeValid true)) := hex
  rw [haddr, h1.rng] at hex'
  refine ⟨_, hex', congrArg Rng.isMaster h2.rng, congrArg Rng.master h2.rng, congrArg Rng.valid h2.rng, congrArg Rng.slew h2.rng,
    h2.ringNs.trans hns, h2.events, ?_⟩
  obtain ⟨dir, tph, ht⟩ := h2.frame
  rw [ht]

/-! ### Link delays, advances, storage and the sync pins -/

theorem delayRequest_after (s : State) (port : Nat) (hp : port < 2) (hon : s.portOn port = true) (hl : (s.port port).link = true)
    (hnone : ∀ f ∈ s.rng.inq, ¬(f.cls = 5 ∧ getU f.body 0 1 = 2 ∧ f.port = port)) (hat : (s.port port).reqAt + 1000 ≤ s.pwr.opTime) :
    ∃ t, exec (.delayRequest port) s = .next t ∧
      t.port port = { s.port port with t1 := some s.ringNs, reqAt := s.pwr.opTime } ∧ t.port (1 - port) = s.port (1 - port) ∧
      s.Sends t 5 3 0 (timeBody 2 s.ringNs []) port ∧
      t = { s with rng.a := t.rng.a, rng.b := t.rng.b, rng.seq := t.rng.seq, rng.out := t.rng.out } := by
  have hasked : (s.rng.inq.find? fun f => f.cls == 5 && getU f.body 0 1 == 2 && f.port == port) = none :=
    List.find?_eq_none.mpr fun f hf => by simpa [and_assoc] using hnone f hf
  have hex : exec (.delayRequest port) s = .next _ := occurs_pos (by simp [hp, hon, hl, hat])
  rw [hasked] at hex
  obtain ⟨a, b, h1⟩ := (State.RingStep.refl [] s).modPort_ab port fun p => { p with t1 := some s.ringNs, reqAt := s.pwr.opTime }
  obtain ⟨seq, out, h2, hsend⟩ := h1.ringSend 5 3 0 (timeBody 2 s.ringNs []) port ⟨rfl, rfl, rfl, rfl, rfl⟩
  refine ⟨_, hex, ?_, ?_, hsend, ?_⟩
  · rw [h2.port_same h1 rfl rfl, State.port_modPort_self]
  · rw [h2.port_same h1 rfl rfl, State.port_modPort_other]
  · obtain ⟨a, b, hmod⟩ := s.modPort_eq port fun p => { p with t1 := some s.ringNs, reqAt := s.pwr.opTime }
    obtain ⟨seq, out, hq⟩ := (s.modPort port fun p => { p with t1 := some s.ringNs, reqAt := s.pwr.opTime }).ringSend_eq 5 3 0
      (timeBody 2 s.ringNs []) port
    dsimp only
    rw [hq, hmod]

/-- The link delay that a response gives. -/
def RPort.measured (f : RFrame) (p : RPort) : RPort :=
  match p.t1 with
  | some t1 =>
    { p with t1 := none
             delay := (clampInt 0 100000 ((((f.at_ : Int) - t1) - ((bodyNs f.body 16 : Int) - bodyNs f.body 4)) / 2)).toNat }
  | none => p

theorem delayResponse_after (s : State) (f : RFrame) (t1 : Nat) (hen : s.rng.enabled = true) (hf : s.nextFrame 5 (some 3) = some f)
    (_ : f.port < 2) (ht1 : (s.port f.port).t1 = some t1) :
    ∃ t, exec .delayResponse s = .next t ∧
      t.port f.port = { s.port f.port with
        t1 := none
        delay := (clampInt 0 100000 ((((f.at_ : Int) - t1) - ((bodyNs f.body 16 : Int) - bodyNs f.body 4)) / 2)).toNat } ∧
      t.port (1 - f.port) = s.port (1 - f.port) ∧
      t = { s with rng.a := t.rng.a, rng.b := t.rng.b, rng.inq := s.rng.inq.erase f } := by
  have hex : exec .delayResponse s = _ := occurs_pos (by simp [State.ringRuns, hen, hf])
  rw [hf] at hex
  have hex' : exec .delayResponse s = .next ((s.dropFrame f).modPort f.port (RPort.measured f)) := hex
  refine ⟨_, hex', ?_, State.port_modPort_other _ _ _, ?_⟩
  · rw [State.port_modPort_self, show (s.dropFrame f).port f.port = s.port f.port from rfl, RPort.measured, ht1]
  · obtain ⟨a, b, hmod⟩ := (s.dropFrame f).modPort_eq f.port (RPort.measured f)
    rw [hmod]
    rfl

theorem ringAdvance_after (s : State) (f : RFrame) (hen : s.rng.enabled = true) (hf : s.nextFrame 5 (some 4) = some f)
    (hm : s.rng.isMaster = true) :
    ∃ t, exec .ringAdvance s = .next t ∧ t.ringNs = max (bodyNs f.body 4) s.ringNs ∧
      t = { s with rng.time := t.rng.time, rng.ns := t.rng.ns, rng.inq := s.rng.inq.erase f } := by
  have hex : exec .ringAdvance s = _ := occurs_pos (by simp [State.ringRuns, hen, hf])
  rw [hf] at hex
  dsimp only at hex
  rw [show (s.dropFrame f).rng.isMaster = true from hm, if_pos rfl] at hex
  exact ⟨_, hex, ns_split _, rfl⟩

theorem syncoutPulse_after (s : State) (per : Nat) (hen : s.rng.enabled = true) (hv : s.rng.valid = true)
    (hper : per = s.parN Idx.RNG_SYNCPER * 1000) (hpos : 0 < per) (hnew : s.rng.syncOut / per < s.rng.time / per) :
    exec .syncoutPulse s = .next { s with rng.syncOut := s.rng.time - s.rng.time % per } := by
  subst hper
  refine (occurs_pos (by simp only [State.ringRuns, hen, hv, hpos, hnew, decide_true, Bool.and_self])).trans ?_
  dsimp only
  have hdiv : s.rng.time / (s.parN Idx.RNG_SYNCPER * 1000) * (s.parN Idx.RNG_SYNCPER * 1000) =
      s.rng.time - s.rng.time % (s.parN Idx.RNG_SYNCPER * 1000) := by
    have := Nat.div_add_mod' s.rng.time (s.parN Idx.RNG_SYNCPER * 1000)
    omega
  rw [hdiv]

/-- Settles O37: a sync noted, judged and followed; the other clauses event by event. -/
theorem ringTimeIsKept : Obligations.RingTimeIsKept := by
  unfold Obligations.RingTimeIsKept
  refine ⟨syncSend_after, ringSync_after, rngTimeLost_after, rngMasterChange_after, delayRequest_after, delayResponse_after,
    ringAdvance_after, fun s hs hat => ?_, syncoutPulse_after, fun s hen hv => ?_⟩
  · exact occurs_pos (by simp [hs, hat])
  · exact occurs_pos (by simp [State.ringRuns, hen, hv])

end Sys2Proof.Machine
end

section
/-!
PROOFS. Allocation records, and what a call's cost depends on (15 R391 to R396).
-/
namespace Sys2Proof.Machine

/-! ## What a call's cost depends on (15 R393) -/

theorem State.legsMs_congr {s t : State} (hrun : t.runMs = s.runMs) (hstop : t.parN Idx.DSP_STOPMS = s.parN Idx.DSP_STOPMS)
    (hstart : t.parN Idx.DSP_STARTMS = s.parN Idx.DSP_STARTMS) (p : Int) (xs : List Stop) : t.legsMs p xs = s.legsMs p xs := by
  induction xs generalizing p with
  | nil => rfl
  | cons x xs ih =>
    unfold State.legsMs
    rw [hrun, hstop, hstart, ih]

/-- A call's cost does not depend on the ring, nor on the cost noted last. -/
theorem State.etsCost_ring (s : State) (r : Rng) (cost rejoin : Nat) (c : Call) :
    ({ s with rng := r, dsp.lastCost := cost, dsp.rejoin := rejoin } : State).etsCost c = s.etsCost c := by
  have hlegs : ({ s with rng := r, dsp.lastCost := cost, dsp.rejoin := rejoin } : State).legsMs = s.legsMs :=
    funext fun p => funext fun xs =>
      State.legsMs_congr (s := s) (t := { s with rng := r, dsp.lastCost := cost, dsp.rejoin := rejoin }) rfl rfl rfl p xs
  unfold State.etsCost
  rw [hlegs]
  rfl

/-! ## Allocation records (15 R391 to R396) -/

/-- A record is the one asked for. -/
def Call.is (reg num : Nat) (c : Call) : Bool := c.reg == reg && c.num == num

/-- One record of a list changed. -/
def changeCall (reg num : Nat) (f : Call → Call) (calls : List Call) : List Call := calls.map fun c => if c.is reg num then f c else c

theorem State.modCall_eq (s : State) (reg num : Nat) (f : Call → Call) :
    s.modCall reg num f = { s with dsp.calls := changeCall reg num f s.dsp.calls } := rfl

theorem State.call?_eq (s : State) (reg num : Nat) : s.call? reg num = s.dsp.calls.find? (Call.is reg num) := rfl

theorem find_changeCall {reg num : Nat} {f : Call → Call} {calls : List Call} (hf : ∀ c, c.is reg num = true → (f c).is reg num = true) :
    (changeCall reg num f calls).find? (Call.is reg num) = (calls.find? (Call.is reg num)).map f := by
  induction calls with
  | nil => rfl
  | cons x xs ih =>
    unfold changeCall at ih ⊢
    rw [List.map_cons, List.find?_cons, List.find?_cons]
    by_cases hx : x.is reg num = true
    · rw [if_pos hx, hf x hx, hx]
      rfl
    · rw [if_neg hx, Bool.eq_false_iff.mpr hx]
      exact ih

theorem changeCall_changeCall {reg num : Nat} {f g : Call → Call} (calls : List Call) (hf : ∀ c, c.is reg num = true → (f c).is reg num = true) :
    changeCall reg num g (changeCall reg num f calls) = changeCall reg num (fun c => g (f c)) calls := by
  unfold changeCall
  rw [List.map_map]
  refine List.map_congr_left fun c _ => ?_
  by_cases hc : c.is reg num = true
  · rw [Function.comp_apply, if_pos hc, if_pos hc, if_pos (hf c hc)]
  · rw [Function.comp_apply, if_neg hc, if_neg hc, if_neg hc]

theorem length_changeCall (reg num : Nat) (f : Call → Call) (calls : List Call) : (changeCall reg num f calls).length = calls.length :=
  List.length_map _

/-- What the dispatch status goes by. -/
theorem State.dspStatus_congr {s t : State} (henable : t.par Idx.DSP_ENABLE = s.par Idx.DSP_ENABLE)
    (hgroup : t.par Idx.DSP_GROUP = s.par Idx.DSP_GROUP) (haddr : t.addr = s.addr) (hpwr : t.pwr = s.pwr) (hgys : t.gys.st = s.gys.st)
    (hdup : t.rng.dup = s.rng.dup) (hlmp : t.lmp = s.lmp) (hloc : t.dsp.loc = s.dsp.loc) (hfull : t.dsp.full = s.dsp.full) :
    t.dspStatus = s.dspStatus := by
  unfold State.dspStatus State.member State.gysDown
  rw [henable, hgroup, haddr, hpwr, hgys, hdup, hlmp, hloc, hfull]

/-- From `s` to `t` the allocation records became `calls`; beside it a frame may have been sent, the last cost noted, events raised and
the listed parameters written. -/
structure State.CallStep (is : List Nat) (s t : State) (calls : List Call) : Prop where
  frame : ∃ dir seq out cost tph,
    t = { s with dir := dir, rng.seq := seq, rng.out := out, dsp.calls := calls, dsp.lastCost := cost, tph := tph }
  events : s.EventsOnly t is

section
variable {is : List Nat} {s t u : State} {calls : List Call}

theorem State.CallStep.refl (is : List Nat) (s : State) : State.CallStep is s s s.dsp.calls := ⟨⟨_, _, _, _, _, rfl⟩, .refl s is⟩

theorem State.CallStep.list (h : State.CallStep is s t calls) : t.dsp.calls = calls := by
  obtain ⟨dir, seq, out, cost, tph, ht⟩ := h.frame
  rw [ht]

theorem State.CallStep.set (h : State.CallStep is s t calls) (calls' : List Call) :
    State.CallStep is s { t with dsp.calls := calls' } calls' := by
  obtain ⟨dir, seq, out, cost, tph, ht⟩ := h.frame
  exact ⟨⟨dir, seq, out, cost, tph, by rw [ht]⟩, h.events.congr rfl rfl⟩

theorem State.CallStep.modCall (h : State.CallStep is s t calls) (reg num : Nat) (f : Call → Call) :
    State.CallStep is s (t.modCall reg num f) (changeCall reg num f calls) := by
  have hset := h.set (changeCall reg num f calls)
  rw [State.modCall_eq, h.list]
  exact hset

theorem State.CallStep.cost (h : State.CallStep is s t calls) (k : Nat) : State.CallStep is s { t with dsp.lastCost := k } calls := by
  obtain ⟨dir, seq, out, cost, tph, ht⟩ := h.frame
  exact ⟨⟨dir, seq, out, k, tph, by rw [ht]⟩, h.events.congr rfl rfl⟩

theorem State.CallStep.raise (h : State.CallStep is s t calls) (code sev inst : Nat) (data : List (Nat × Int)) :
    State.CallStep is s (t.raise code sev inst data) calls := by
  obtain ⟨dir, seq, out, cost, tph, ht⟩ := h.frame
  obtain ⟨d, p, hr, -⟩ := t.raise_eq code sev inst data
  exact ⟨⟨d, seq, out, cost, p, by rw [hr, ht]⟩, h.events.raise _ _ _ _⟩

theorem State.CallStep.bump (h : State.CallStep is s t calls) {i : Nat} (k : Nat) (hi : i ∈ is) (hc : isConfig i = false) :
    State.CallStep is s (t.bump i k) calls := by
  obtain ⟨dir, seq, out, cost, tph, ht⟩ := h.frame
  obtain ⟨d, hb, -⟩ := t.bump_eq k hc
  exact ⟨⟨d, seq, out, cost, tph, by rw [hb, ht]⟩, h.events.bump k hi hc⟩

theorem State.CallStep.ringSend (h : State.CallStep is s t calls) (cls kind dest : Nat) (body : List Byte) (port : Nat) :
    State.CallStep is s (t.ringSend cls kind dest body port) calls := by
  obtain ⟨dir, seq, out, cost, tph, ht⟩ := h.frame
  obtain ⟨seq', out', hq⟩ := t.ringSend_eq cls kind dest body port
  exact ⟨⟨dir, seq', out', cost, tph, by rw [hq, ht]⟩, h.events.congr (by rw [hq]) (by rw [hq])⟩

theorem State.CallStep.trans {calls' : List Call} (h : State.CallStep is s t calls) (k : State.CallStep is t u calls') :
    State.CallStep is s u calls' := by
  obtain ⟨dir, seq, out, cost, tph, ht⟩ := h.frame
  obtain ⟨dir', seq', out', cost', tph', hu⟩ := k.frame
  exact ⟨⟨dir', seq', out', cost', tph', by rw [hu, ht]⟩, h.events.trans k.events⟩

theorem State.CallStep.records (h : State.CallStep is s t calls) (hs : Idx.TPH_RECSEV ∉ Idx.TPH_BUFDROPS :: is) (e : Evt) :
    s.Records (t.raiseEvt e) e.code e.sev e.inst := by
  obtain ⟨dir, seq, out, cost, tph, ht⟩ := h.frame
  exact (t.records_raiseEvt e).after h.events.2.2 (h.events.1 _ hs) (by rw [ht]) (by rw [ht])

/-- What is recorded stays recorded. -/
theorem State.CallStep.recorded {code sev inst : Nat} {calls' : List Call} (k : State.CallStep is t u calls')
    (h : s.Records t code sev inst) : s.Records u code sev inst := h.mono k.events.2.2.2

theorem State.CallStep.mono {js : List Nat} (h : State.CallStep is s t calls) (hs : is ⊆ js) : State.CallStep js s t calls :=
  ⟨h.frame, h.events.mono hs⟩

/-- The parameters that dispatch goes by are none of its counters. -/
abbrev dispatchCounts : List Nat := [Idx.DSP_AUCTIONS, Idx.DSP_WON]

theorem dispatchCounts_facts : (∀ i ∈ dispatchCounts, isConfig i = false ∧ i ≠ Idx.TPH_BUFDROPS ∧
    (paramInfo i).map (fun r => r.hi) = some (2 ^ 32 - 1)) ∧
    ∀ i ∈ [Idx.TPH_RECSEV, Idx.RNG_ADDR, Idx.RNG_DOMAIN, Idx.DSP_GROUP, Idx.DSP_ENABLE, Idx.DSP_BIDWIN],
      i ∉ Idx.TPH_BUFDROPS :: dispatchCounts := by decide +kernel

end

section
variable {s t : State} {calls : List Call}

theorem State.CallStep.par (h : State.CallStep dispatchCounts s t calls) {i : Nat}
    (hi : i ∈ [Idx.TPH_RECSEV, Idx.RNG_ADDR, Idx.RNG_DOMAIN, Idx.DSP_GROUP, Idx.DSP_ENABLE, Idx.DSP_BIDWIN]) : t.par i = s.par i :=
  h.events.1 i (dispatchCounts_facts.2 i hi)

theorem State.CallStep.me (h : State.CallStep dispatchCounts s t calls) : t.me = s.me := State.parN_congr (h.par (by simp))

theorem State.CallStep.addr (h : State.CallStep dispatchCounts s t calls) : t.addr = s.addr := State.addr_congr (h.par (by simp))

theorem State.CallStep.call? (h : State.CallStep dispatchCounts s t calls) (reg num : Nat) :
    t.call? reg num = calls.find? (Call.is reg num) := by
  rw [State.call?_eq, h.list]

/-- The car's place in dispatch stands. -/
theorem State.CallStep.dspStatus (h : State.CallStep dispatchCounts s t calls) : t.dspStatus = s.dspStatus := by
  have haddr := h.addr
  have henable := h.par (i := Idx.DSP_ENABLE) (by simp)
  have hgroup := h.par (i := Idx.DSP_GROUP) (by simp)
  obtain ⟨dir, seq, out, cost, tph, ht⟩ := h.frame
  exact State.dspStatus_congr henable hgroup haddr (by rw [ht]) (by rw [ht]) (by rw [ht]) (by rw [ht]) (by rw [ht]) (by rw [ht])

/-- A counter of dispatch rises. -/
theorem State.CallStep.counted {i : Nat} (h : State.CallStep dispatchCounts s t calls) (hi : i ∈ dispatchCounts)
    (hsame : t.par i = s.par i) : State.CallStep dispatchCounts s (t.bump i) calls ∧ (t.bump i).par i = min (s.par i + 1) (2 ^ 32 - 1) := by
  obtain ⟨hc, -, hhi⟩ := dispatchCounts_facts.1 i hi
  refine ⟨h.bump 1 hi hc, ?_⟩
  rw [State.par_bump_top t hc hhi, hsame]
  rfl

/-- Between `s` and `t` nothing was sent yet. -/
theorem State.CallStep.sendsAlike (h : State.CallStep dispatchCounts s t calls) (hout : t.rng.out = s.rng.out) (hseq : t.rng.seq = s.rng.seq) :
    s.SendsAlike t := by
  obtain ⟨dir, seq, out, cost, tph, ht⟩ := h.frame
  refine ⟨⟨by rw [ht], by rw [ht], hout, hseq, by rw [ht]⟩, h.par (by simp), h.par (by simp), by rw [ht]⟩

end
end Sys2Proof.Machine
end

section
/-!
PROOFS. Auctions and registrations (15 R391, R392, R402).
-/
namespace Sys2Proof.Machine

/-! ## Auctions opened and won (15 R392 to R395) -/

/-- The own bids of an auction. -/
def State.ownBids (s : State) (c : Call) : List Bid :=
  if s.canBid c then [⟨s.me, (s.etsCost c).2, (s.etsCost c).1⟩] else []

/-- A call whose bid window opens. -/
def Call.open_ (c : Call) (time win : Nat) (own : List Bid) : Call :=
  { c with ph := .bidding, tr := time, win := win, bids := own, best := none }

/-- The cost of the own bid is noted. -/
def State.noteOwn (s : State) (own : List Bid) : State :=
  match own with
  | b :: _ => { s with dsp.lastCost := b.cost }
  | [] => s

/-- A call the car takes itself. -/
def Call.taken (me : Nat) (c : Call) : Call := { c.touch with ph := .settled, winEts := 0, holder := some me }

theorem State.startAuction_own {s : State} {num : Nat} {c : Call} (hc : s.call? s.me num = some c)
    (h : s.dspStatus = 1 ∨ s.dspStatus = 4 ∨ s.addr.isNone) :
    s.startAuction num = (s.modCall s.me num fun c => { c.touch with ph := .settled, winEts := 0 }).takeCall s.me num := by
  unfold State.startAuction
  rw [hc]
  exact if_pos h

theorem State.startAuction_group {s : State} {num : Nat} {c : Call} (hc : s.call? s.me num = some c)
    (h : ¬ (s.dspStatus = 1 ∨ s.dspStatus = 4 ∨ s.addr.isNone)) :
    s.startAuction num = ((((s.modCall s.me num fun _ => c.open_ s.rng.time (s.parN Idx.DSP_BIDWIN) (s.ownBids c)).bump
      Idx.DSP_AUCTIONS).noteOwn (s.ownBids c)).groupSend 3 (c.open_ s.rng.time (s.parN Idx.DSP_BIDWIN) (s.ownBids c)).reqBody) := by
  unfold State.startAuction
  rw [hc]
  refine (if_neg h).trans ?_
  rfl

section
variable {s t : State} {calls : List Call}

theorem State.CallStep.noteOwn {is : List Nat} (h : State.CallStep is s t calls) (own : List Bid) :
    State.CallStep is s (t.noteOwn own) calls := by
  cases own with
  | nil => exact h
  | cons b l => exact h.cost b.cost

theorem State.noteOwn_keeps (s : State) (own : List Bid) :
    (s.noteOwn own).dir = s.dir ∧ (s.noteOwn own).rng = s.rng ∧ (s.noteOwn own).sec = s.sec := by
  cases own <;> exact ⟨rfl, rfl, rfl⟩

/-- The holder takes a call it knows. -/
theorem State.CallStep.takeCall (h : State.CallStep dispatchCounts s t calls) {num : Nat} {c : Call} (hc : calls.find? (Call.is s.me num) = some c)
    (hwon : t.par Idx.DSP_WON = s.par Idx.DSP_WON) :
    State.CallStep dispatchCounts s (t.takeCall s.me num) (changeCall s.me num (fun c => { c with holder := some s.me }) calls) ∧
      (t.takeCall s.me num).par Idx.DSP_WON = min (s.par Idx.DSP_WON + 1) (2 ^ 32 - 1) ∧
      s.Records (t.takeCall s.me num) 0x0E02 1 c.landing := by
  have hmod := h.modCall s.me num fun c => { c with holder := some s.me }
  have hfind : (t.modCall s.me num fun c => { c with holder := some s.me }).call? s.me num = some { c with holder := some s.me } := by
    rw [hmod.call?, find_changeCall (f := fun c => { c with holder := some s.me }) fun _ h => h, hc]
    rfl
  obtain ⟨hcnt, hpar⟩ := hmod.counted (i := Idx.DSP_WON) (by simp) hwon
  have hraise := hcnt.raise 0x0E02 1 c.landing [(2, s.me), (2, s.me), (2, num)]
  have hrec : s.Records _ 0x0E02 1 c.landing := hcnt.records (dispatchCounts_facts.2 _ (by simp))
    { code := 0x0E02, sev := 1, inst := c.landing, data := placeData [] [(2, s.me), (2, s.me), (2, num)] }
  have hkeep (u : State) (code sev inst : Nat) (data : List (Nat × Int)) : (u.raise code sev inst data).par Idx.DSP_WON = u.par Idx.DSP_WON :=
    ((State.EventsOnly.refl u []).raise code sev inst data).1 _ (by simp)
  have hme : (t.modCall s.me num fun c => { c with holder := some s.me }).me = s.me := hmod.me
  have heq : t.takeCall s.me num =
      (if c.kind = 3 then ((((t.modCall s.me num fun c => { c with holder := some s.me }).bump Idx.DSP_WON).raise 0x0E02 1 c.landing
        [(2, s.me), (2, s.me), (2, num)])).raise 0x0E09 1 c.landing [(2, s.me)] else
        (((t.modCall s.me num fun c => { c with holder := some s.me }).bump Idx.DSP_WON).raise 0x0E02 1 c.landing
        [(2, s.me), (2, s.me), (2, num)])) := by
    unfold State.takeCall
    rw [h.me]
    dsimp only
    rw [hfind]
    dsimp only
    rw [hme, hraise.me]
  rw [heq]
  split
  · exact ⟨hraise.raise _ _ _ _, (hkeep _ _ _ _ _).trans ((hkeep _ _ _ _ _).trans hpar),
      hrec.mono ((State.EventsOnly.refl _ []).raise 0x0E09 1 c.landing [(2, s.me)]).2.2.2⟩
  · exact ⟨hraise, (hkeep _ _ _ _ _).trans hpar, hrec⟩

/-- An auction that the car answers by taking the call. -/
theorem State.startAuction_takes {num : Nat} {c : Call} (hc : s.call? s.me num = some c)
    (h : s.dspStatus = 1 ∨ s.dspStatus = 4 ∨ s.addr.isNone) :
    State.CallStep dispatchCounts s (s.startAuction num) (changeCall s.me num (Call.taken s.me) s.dsp.calls) ∧
      (s.startAuction num).par Idx.DSP_WON = min (s.par Idx.DSP_WON + 1) (2 ^ 32 - 1) ∧
      s.Records (s.startAuction num) 0x0E02 1 c.landing := by
  rw [State.startAuction_own hc h]
  have hmod := (State.CallStep.refl dispatchCounts s).modCall s.me num fun c => { c.touch with ph := .settled, winEts := 0 }
  have hfind : (changeCall s.me num (fun c => { c.touch with ph := .settled, winEts := 0 }) s.dsp.calls).find? (Call.is s.me num) =
      some { c.touch with ph := .settled, winEts := 0 } := by
    rw [find_changeCall (f := fun c => { c.touch with ph := .settled, winEts := 0 }) fun _ h => h, ← State.call?_eq, hc]
    rfl
  have htake := hmod.takeCall hfind rfl
  have htwo : changeCall s.me num (fun c => { c with holder := some s.me })
      (changeCall s.me num (fun c => { c.touch with ph := .settled, winEts := 0 }) s.dsp.calls) =
      changeCall s.me num (Call.taken s.me) s.dsp.calls :=
    changeCall_changeCall (f := fun c => { c.touch with ph := .settled, winEts := 0 }) (g := fun c => { c with holder := some s.me }) _
      fun _ h => h
  rw [htwo] at htake
  exact htake

/-- An auction that opens. -/
theorem State.startAuction_opens {num : Nat} {c : Call} (hc : s.call? s.me num = some c)
    (h : ¬ (s.dspStatus = 1 ∨ s.dspStatus = 4 ∨ s.addr.isNone)) :
    ∃ own, State.CallStep [Idx.DSP_AUCTIONS] s (s.startAuction num)
      (changeCall s.me num (fun _ => c.open_ s.rng.time (s.parN Idx.DSP_BIDWIN) own) s.dsp.calls) ∧
      (s.startAuction num).par Idx.DSP_AUCTIONS = min (s.par Idx.DSP_AUCTIONS + 1) (2 ^ 32 - 1) ∧
      s.Sends (s.startAuction num) 3 1 (s.parN Idx.DSP_GROUP) (c.open_ s.rng.time (s.parN Idx.DSP_BIDWIN) own).reqBody 2 ∧
      (s.startAuction num).tph = s.tph := by
  refine ⟨s.ownBids c, ?_⟩
  rw [State.startAuction_group hc h]
  generalize hopen : c.open_ s.rng.time (s.parN Idx.DSP_BIDWIN) (s.ownBids c) = o
  obtain ⟨hcfg, -, hhi⟩ := dispatchCounts_facts.1 Idx.DSP_AUCTIONS (by simp)
  have hmod := (State.CallStep.refl [Idx.DSP_AUCTIONS] s).modCall s.me num fun _ => o
  have hbump := (hmod.bump 1 (i := Idx.DSP_AUCTIONS) (by simp) hcfg).noteOwn (s.ownBids c)
  have hpar : ((s.modCall s.me num fun _ => o).bump Idx.DSP_AUCTIONS).par Idx.DSP_AUCTIONS =
      min (s.par Idx.DSP_AUCTIONS + 1) (2 ^ 32 - 1) := State.par_bump_top _ hcfg hhi
  obtain ⟨hdir, hrng, hsec⟩ := ((s.modCall s.me num fun _ => o).bump Idx.DSP_AUCTIONS).noteOwn_keeps (s.ownBids c)
  obtain ⟨d, hb, -⟩ := (s.modCall s.me num fun _ => o).bump_eq (i := Idx.DSP_AUCTIONS) 1 hcfg
  have hrng' : (((s.modCall s.me num fun _ => o).bump Idx.DSP_AUCTIONS).noteOwn (s.ownBids c)).rng = s.rng := hrng.trans (by rw [hb]; rfl)
  have halike := (hbump.mono (js := dispatchCounts) (by simp)).sendsAlike (congrArg Rng.out hrng') (congrArg Rng.seq hrng')
  have hgrp : (((s.modCall s.me num fun _ => o).bump Idx.DSP_AUCTIONS).noteOwn (s.ownBids c)).parN Idx.DSP_GROUP = s.parN Idx.DSP_GROUP :=
    State.parN_congr ((hbump.mono (js := dispatchCounts) (by simp)).par (by simp))
  have htph : (((s.modCall s.me num fun _ => o).bump Idx.DSP_AUCTIONS).noteOwn (s.ownBids c)).tph = s.tph := by
    cases s.ownBids c <;> exact (congrArg State.tph hb).trans rfl
  have hpar' := (State.par_congr hdir Idx.DSP_AUCTIONS).trans hpar
  generalize ((s.modCall s.me num fun _ => o).bump Idx.DSP_AUCTIONS).noteOwn (s.ownBids c) = u at *
  unfold State.groupSend
  rw [hgrp]
  have hsend := u.ringSend_sends_self 3 1 (s.parN Idx.DSP_GROUP) o.reqBody 2
  obtain ⟨seq, out, hq⟩ := u.ringSend_eq 3 1 (s.parN Idx.DSP_GROUP) o.reqBody 2
  exact ⟨hbump.ringSend _ _ _ _ _, (State.par_congr (congrArg State.dir hq) _).trans hpar', hsend.after halike,
    (congrArg State.tph hq).trans htph⟩

/-- Whatever an auction does, it keeps the number of records. -/
theorem State.startAuction_step (s : State) (num : Nat) :
    ∃ calls, State.CallStep dispatchCounts s (s.startAuction num) calls ∧ calls.length = s.dsp.calls.length := by
  cases hc : s.call? s.me num with
  | none =>
    have h : s.startAuction num = s := by
      unfold State.startAuction
      rw [hc]
    rw [h]
    exact ⟨_, .refl _ s, rfl⟩
  | some c =>
    by_cases h : s.dspStatus = 1 ∨ s.dspStatus = 4 ∨ s.addr.isNone
    · exact ⟨_, (State.startAuction_takes hc h).1, length_changeCall _ _ _ _⟩
    · obtain ⟨own, hstep, -⟩ := State.startAuction_opens hc h
      exact ⟨_, hstep.mono (by simp), length_changeCall _ _ _ _⟩

end

/-! ## Registrations (15 R391) -/

/-- A slot's earlier registration is forgotten. -/
def Call.unslot (k : Nat) (c : Call) : Call :=
  match c.slot with
  | some (j, _) => if j = k then { c with slot := none } else c
  | none => c

/-- The record of a registration. -/
def State.registration (s : State) (k : Nat) (p : List Byte) : Call :=
  { reg := s.me, num := s.dsp.num, kind := getU p 3 1, landing := getU p 2 1, dest := if getU p 3 1 = 2 then getU p 4 1 else 0xFF,
    slot := some (k, getU p 0 2) }

/-- A registration is acknowledged and recorded. -/
def State.ackReg (s : State) (k : Nat) (p : List Byte) : State :=
  ((s.tookReq (3 + k)).gysAck (3 + k) (getU p 0 2) .accepted).raise 0x0E01 0 (getU p 2 1)

/-- The registrar's records with a new one. -/
def State.addReg (s : State) (k : Nat) (p : List Byte) : State :=
  { s with dsp.calls := s.dsp.calls.map (Call.unslot k) ++ [s.registration k p], dsp.num := (s.dsp.num + 1) % 65536 }

theorem exec_callreg {s : State} {k : Nat} {p : List Byte} (hk : k < 8) (hs : s.lmpServes = true) (hp : s.gysReq (3 + k) = some p)
    (hpres : s.present (getU p 2 1) = true) (hkind : getU p 3 1 ≤ 2) :
    exec (.callreg k) s = .next (((s.ackReg k p).addReg k p).startAuction (s.ackReg k p).dsp.num) := by
  refine (occurs_pos (by simp [hk, hs, hp])).trans (congrArg _ ?_)
  rw [hp, Option.getD_some]
  have hno : ¬ (!(s.tookReq (3 + k)).present (getU p 2 1) ∨ 2 < getU p 3 1) := by
    rw [show (s.tookReq (3 + k)).present (getU p 2 1) = s.present (getU p 2 1) from rfl, hpres]
    simpa using hkind
  refine (if_neg hno).trans ?_
  rfl

theorem unslot_is (k reg num : Nat) (c : Call) : (c.unslot k).is reg num = c.is reg num := by
  unfold Call.unslot
  split
  · split <;> rfl
  · rfl

theorem callreg_registers (s : State) (k landing kind : Nat) (p : List Byte) (hk : k < 8) (hs : s.lmpServes = true)
    (hp : s.gysReq (3 + k) = some p) (hland : getU p 2 1 = landing) (hkind : getU p 3 1 = kind) (hpres : s.present landing = true)
    (hk2 : kind ≤ 2) (hnew : ∀ c ∈ s.dsp.calls, c.reg = s.me → c.num ≠ s.dsp.num) (hacks : s.gys.acks.length = 12) :
    ∃ t c, exec (.callreg k) s = .next t ∧ t.dsp.calls.getLast? = some c ∧ t.dsp.calls.length = s.dsp.calls.length + 1 ∧
      c.reg = s.me ∧ c.num = s.dsp.num ∧ c.kind = kind ∧ c.landing = landing ∧ c.slot = some (k, getU p 0 2) ∧
      t.dsp.num = (s.dsp.num + 1) % 65536 ∧ t.gys.acks.getD (3 + k) {} = { seq := getU p 0 2, status := Status.accepted.code } ∧
      (s.dspStatus = 0 → s.addr ≠ none → c.ph = .bidding ∧ c.tr = s.rng.time ∧ c.win = s.parN Idx.DSP_BIDWIN ∧
        t.par Idx.DSP_AUCTIONS = min (s.par Idx.DSP_AUCTIONS + 1) (2 ^ 32 - 1) ∧
        s.Sends t 3 1 (s.parN Idx.DSP_GROUP) c.reqBody 2) ∧
      (s.dspStatus = 1 ∨ s.dspStatus = 4 → c.ph = .settled ∧ c.holder = some s.me ∧
        t.par Idx.DSP_WON = min (s.par Idx.DSP_WON + 1) (2 ^ 32 - 1) ∧ s.Records t 0x0E02 1 landing) ∧
      s.Records t 0x0E01 0 landing ∧ s.EventsOnly t [Idx.DSP_AUCTIONS, Idx.DSP_WON] ∧
      t = { s with dir := t.dir, gys.acks := t.gys.acks, gys.reqs := s.gys.reqs.set (3 + k) none, rng.seq := t.rng.seq,
                   rng.out := t.rng.out, dsp.calls := t.dsp.calls, dsp.num := t.dsp.num, dsp.lastCost := t.dsp.lastCost,
                   tph := t.tph } := by
  subst hland hkind
  have hex := exec_callreg hk hs hp hpres hk2
  -- the acknowledged registration, before its auction
  obtain ⟨dir, tph, hraise, -⟩ := ((s.tookReq (3 + k)).gysAck (3 + k) (getU p 0 2) .accepted).raise_eq 0x0E01 0 (getU p 2 1) []
  have hack : s.ackReg k p = { s with
      dir := dir, tph := tph, gys.reqs := s.gys.reqs.set (3 + k) none,
      gys.acks := s.gys.acks.set (3 + k) { seq := getU p 0 2, status := Status.accepted.code } } := hraise
  have hev : s.EventsOnly (s.ackReg k p) [] :=
    (State.EventsOnly.of_eq (t := (s.tookReq (3 + k)).gysAck (3 + k) (getU p 0 2) .accepted) [] rfl rfl).raise _ _ _ _
  have hrec1 : s.Records (s.ackReg k p) 0x0E01 0 (getU p 2 1) :=
    fun hh => State.records_raise ((s.tookReq (3 + k)).gysAck (3 + k) (getU p 0 2) .accepted) _ _ _ _ hh
  have hme : (s.ackReg k p).me = s.me := State.parN_congr (hev.1 _ ringPars.1)
  have hnum : (s.ackReg k p).dsp.num = s.dsp.num := by rw [hack]
  have hregn : (s.ackReg k p).registration k p = s.registration k p := by
    unfold State.registration
    rw [hme, hnum]
  rw [hnum] at hex
  have hu : (s.ackReg k p).addReg k p = { s with
      dir := dir, tph := tph, gys.reqs := s.gys.reqs.set (3 + k) none,
      gys.acks := s.gys.acks.set (3 + k) { seq := getU p 0 2, status := Status.accepted.code },
      dsp.calls := s.dsp.calls.map (Call.unslot k) ++ [s.registration k p], dsp.num := (s.dsp.num + 1) % 65536 } := by
    unfold State.addReg
    rw [hregn, hack]
  have hevu : s.EventsOnly ((s.ackReg k p).addReg k p) [] := hev.congr rfl rfl
  have hrecu : s.Records ((s.ackReg k p).addReg k p) 0x0E01 0 (getU p 2 1) := hrec1
  generalize (s.ackReg k p).addReg k p = u at *
  have hpars {i : Nat} (hi : i ∉ [Idx.TPH_BUFDROPS]) : u.par i = s.par i := hevu.1 i hi
  have hume : u.me = s.me := State.parN_congr (hpars ringPars.1)
  have hfree : Idx.DSP_ENABLE ∉ [Idx.TPH_BUFDROPS] ∧ Idx.DSP_GROUP ∉ [Idx.TPH_BUFDROPS] ∧ Idx.DSP_BIDWIN ∉ [Idx.TPH_BUFDROPS] ∧
      Idx.DSP_AUCTIONS ∉ [Idx.TPH_BUFDROPS] ∧ Idx.DSP_WON ∉ [Idx.TPH_BUFDROPS] ∧ Idx.TPH_RECSEV ∉ [Idx.TPH_BUFDROPS] := by decide +kernel
  obtain ⟨hen, hgrp, hwin, hauc, hwon, hsev⟩ := hfree
  have haddr : u.addr = s.addr := State.addr_congr (hpars ringPars.1)
  have hstat : u.dspStatus = s.dspStatus := State.dspStatus_congr (hpars hen) (hpars hgrp) haddr (by rw [hu]) (by rw [hu]) (by rw [hu])
    (by rw [hu]) (by rw [hu]) (by rw [hu])
  have hcalls : u.dsp.calls = s.dsp.calls.map (Call.unslot k) ++ [s.registration k p] := by rw [hu]
  have hfind : u.call? u.me s.dsp.num = some (s.registration k p) := by
    rw [hume, State.call?_eq, hcalls, List.find?_append, List.find?_eq_none.mpr, Option.none_or]
    · exact List.find?_cons_of_pos (by simp [Call.is, State.registration])
    · intro c hc
      obtain ⟨d, hd, rfl⟩ := List.mem_map.mp hc
      rw [unslot_is]
      simpa [Call.is] using hnew d hd
  have hlast (f : Call → Call) : (changeCall u.me s.dsp.num f u.dsp.calls).getLast? = some (f (s.registration k p)) ∧
      (changeCall u.me s.dsp.num f u.dsp.calls).length = s.dsp.calls.length + 1 := by
    rw [hcalls, hume]
    constructor
    · unfold changeCall
      rw [List.map_append, List.map_singleton, List.getLast?_concat, if_pos (by simp [Call.is, State.registration])]
    · simp [length_changeCall]
  have hacku (t : State) (ht : t.gys = u.gys) : t.gys.acks.getD (3 + k) {} = { seq := getU p 0 2, status := Status.accepted.code } := by
    rw [ht, hu]
    dsimp only
    rw [List.getD_eq_getElem?_getD, List.getElem?_set_self (by omega)]
    rfl
  have halike : s.SendsAlike u := ⟨by rw [hu]; exact ⟨rfl, rfl, rfl, rfl, rfl⟩, hpars ringPars.1, hpars ringPars.2, by rw [hu]⟩
  have hlmp : u.lmp = s.lmp ∧ u.host.ops = s.host.ops := by rw [hu]; exact ⟨rfl, rfl⟩
  by_cases hloc : u.dspStatus = 1 ∨ u.dspStatus = 4 ∨ u.addr.isNone
  · obtain ⟨hstep, hpar, hrec2⟩ := State.startAuction_takes hfind hloc
    obtain ⟨hl, hn⟩ := hlast (Call.taken u.me)
    refine ⟨_, Call.taken u.me (s.registration k p), hex, hstep.list ▸ hl, hstep.list ▸ hn, rfl, rfl, rfl, rfl, rfl, ?_, ?_, fun h0 ha => ?_,
      fun _ => ⟨rfl, congrArg some hume, ?_, ?_⟩, hrecu.mono hstep.events.2.2.2, (hevu.mono (by simp)).trans hstep.events, ?_⟩
    · obtain ⟨d, q, o, cost, tp, ht⟩ := hstep.frame
      rw [ht, hu]
    · obtain ⟨d, q, o, cost, tp, ht⟩ := hstep.frame
      exact hacku _ (by rw [ht])
    · rw [hstat, haddr, h0] at hloc
      rcases hloc with h | h | h
      · cases h
      · cases h
      · exact absurd (Option.isNone_iff_eq_none.mp h) ha
    · rw [hpar, hpars hwon]
    · exact hrec2.after hevu.2.2 (hpars hsev) hlmp.1 hlmp.2
    · obtain ⟨d, q, o, cost, tp, ht⟩ := hstep.frame
      rw [ht, hu]
  · obtain ⟨own, hstep, hpar, hsend, -⟩ := State.startAuction_opens hfind hloc
    obtain ⟨hl, hn⟩ := hlast fun _ => (s.registration k p).open_ u.rng.time (u.parN Idx.DSP_BIDWIN) own
    refine ⟨_, _, hex, hstep.list ▸ hl, hstep.list ▸ hn, rfl, rfl, rfl, rfl, rfl, ?_, ?_, fun _ _ => ⟨rfl, ?_, ?_, ?_, ?_⟩,
      fun h14 => absurd ?_ hloc, hrecu.mono hstep.events.2.2.2, (hevu.mono (by simp)).trans (hstep.events.mono (by simp)), ?_⟩
    · obtain ⟨d, q, o, cost, tp, ht⟩ := hstep.frame
      rw [ht, hu]
    · obtain ⟨d, q, o, cost, tp, ht⟩ := hstep.frame
      exact hacku _ (by rw [ht])
    · exact congrArg Rng.time (by rw [hu])
    · exact State.parN_congr (hpars hwin)
    · rw [hpar, hpars hauc]
    · have := hsend.after halike
      rwa [State.parN_congr (hpars hgrp)] at this
    · rw [hstat]
      exact h14.imp_right .inl
    · obtain ⟨d, q, o, cost, tp, ht⟩ := hstep.frame
      rw [ht, hu]

end Sys2Proof.Machine
end

section
/-!
PROOFS. Bids and the end of a bid window (15 R392 to R397).
-/
namespace Sys2Proof.Machine

/-! ## Bids (15 R392, R394, R397) -/

theorem exec_bidReq {s : State} {f : RFrame} (hs : s.lmpServes = true) (hf : s.nextFrame 3 (some 1) = some f)
    (hown : s.ownAuction (s.askedCall f).landing (s.askedCall f).kind = none) :
    exec .bidReq s = .next ((s.dropFrame f).answerBid f (s.askedCall f)) := by
  refine (occurs_pos (by simp [hs, hf])).trans (congrArg _ ?_)
  rw [hf]
  have hown' : (s.dropFrame f).ownAuction ((s.dropFrame f).askedCall f).landing ((s.dropFrame f).askedCall f).kind = none := hown
  dsimp only
  rw [hown']
  rfl

theorem bidReq_answers (s : State) (f : RFrame) (c : Call) (hs : s.lmpServes = true) (hf : s.nextFrame 3 (some 1) = some f)
    (hc : c = s.askedCall f) (hown : s.ownAuction c.landing c.kind = none) (hbid : s.canBid c = true) (hk : c.kind ≠ 3) :
    ∃ t, exec .bidReq s = .next t ∧ t.dsp.lastCost = (s.etsCost c).2 ∧ s.Sends t 3 0 f.src (s.bidBody c) 2 ∧
      t = { s with rng.inq := s.rng.inq.erase f, rng.seq := t.rng.seq, rng.out := t.rng.out, dsp.lastCost := t.dsp.lastCost } := by
  subst hc
  have hex := exec_bidReq hs hf hown
  generalize s.askedCall f = c at *
  have hbid' : (s.dropFrame f).canBid c = true := hbid
  have hcost : ((s.dropFrame f).etsCost c) = s.etsCost c :=
    s.etsCost_ring { s.rng with inq := s.rng.inq.erase f } s.dsp.lastCost s.dsp.rejoin c
  have hbody : ({ s.dropFrame f with dsp.lastCost := (s.etsCost c).2 } : State).bidBody c = s.bidBody c := by
    unfold State.bidBody
    rw [show ({ s.dropFrame f with dsp.lastCost := (s.etsCost c).2 } : State).etsCost c = s.etsCost c from
      s.etsCost_ring { s.rng with inq := s.rng.inq.erase f } (s.etsCost c).2 s.dsp.rejoin c]
    rfl
  have hans : (s.dropFrame f).answerBid f c =
      ({ s.dropFrame f with dsp.lastCost := (s.etsCost c).2 } : State).ringSend 3 0 f.src (s.bidBody c) := by
    unfold State.answerBid
    rw [hbid', if_neg (by simp), if_neg fun h => hk h.1]
    dsimp only
    rw [hcost, hbody]
  rw [hans] at hex
  have hsend := ({ s.dropFrame f with dsp.lastCost := (s.etsCost c).2 } : State).ringSend_sends_self 3 0 f.src (s.bidBody c) 2
  obtain ⟨seq, out, hq⟩ := ({ s.dropFrame f with dsp.lastCost := (s.etsCost c).2 } : State).ringSend_eq 3 0 f.src (s.bidBody c) 2
  refine ⟨_, hex, ?_, hsend.after (.of_dir ⟨rfl, rfl, rfl, rfl, rfl⟩ rfl rfl), ?_⟩
  · rw [hq]
  · rw [hq]
    rfl

/-- The auction of another registrar goes on. -/
def Call.mergedAway (c : Call) : Call := { c.touch with ph := .merged, bids := [] }

theorem exec_bidReq_own {s : State} {f : RFrame} {x : Call} (hs : s.lmpServes = true) (hf : s.nextFrame 3 (some 1) = some f)
    (hown : s.ownAuction (s.askedCall f).landing (s.askedCall f).kind = some x) :
    exec .bidReq s = .next (if s.earlier f x then
      ((s.dropFrame f).modCall s.me x.num Call.mergedAway).answerBid f (s.askedCall f) else s.dropFrame f) := by
  refine (occurs_pos (by simp [hs, hf])).trans (congrArg _ ?_)
  rw [hf]
  have hown' : (s.dropFrame f).ownAuction ((s.dropFrame f).askedCall f).landing ((s.dropFrame f).askedCall f).kind = some x := hown
  dsimp only
  rw [hown']
  rfl

/-- A call that is no pre-position call does not ask for an idle car. -/
theorem State.canBid_records (s : State) {c : Call} (hk : c.kind ≠ 3) (q : List RFrame) (calls : List Call) :
    ({ s with rng.inq := q, dsp.calls := calls } : State).canBid c = s.canBid c := by
  unfold State.canBid
  rw [show (c.kind != 3) = true from bne_iff_ne.mpr hk, Bool.true_or, Bool.true_or]
  rfl

theorem bidReq_merges (s : State) (f : RFrame) (c x : Call) (hs : s.lmpServes = true) (hf : s.nextFrame 3 (some 1) = some f)
    (hc : c = s.askedCall f) (hown : s.ownAuction c.landing c.kind = some x) (hbid : s.canBid c = false) :
    ∃ t, exec .bidReq s = .next t ∧
      t.dsp.calls = (if s.earlier f x then s.dsp.calls.map fun y => if y.reg = s.me ∧ y.num = x.num then
          { y with ver := (y.ver + 1) % 2 ^ 32, ph := .merged, bids := [] } else y else s.dsp.calls) ∧
      t = { s with rng.inq := s.rng.inq.erase f, dsp.calls := t.dsp.calls } := by
  subst hc
  have hex := exec_bidReq_own hs hf hown
  generalize s.askedCall f = c at *
  have hk : c.kind ≠ 3 := by
    have hp := List.find?_some hown
    simp only [Bool.and_eq_true, bne_iff_ne] at hp
    exact hp.1.2
  by_cases he : s.earlier f x = true
  · rw [if_pos he] at hex
    have hno : ((s.dropFrame f).modCall s.me x.num Call.mergedAway).canBid c = false :=
      (s.canBid_records hk (s.rng.inq.erase f) _).trans hbid
    have hans : ((s.dropFrame f).modCall s.me x.num Call.mergedAway).answerBid f c = (s.dropFrame f).modCall s.me x.num Call.mergedAway := by
      unfold State.answerBid
      rw [hno]
      rfl
    rw [hans] at hex
    refine ⟨_, hex, ?_, rfl⟩
    rw [if_pos he]
    refine List.map_congr_left fun y _ => ?_
    by_cases hy : y.reg = s.me ∧ y.num = x.num
    · rw [if_pos hy, if_pos (by simpa using hy)]
      rfl
    · rw [if_neg hy, if_neg (by simpa using hy)]
  · rw [if_neg he] at hex
    exact ⟨_, hex, (if_neg he).symm, rfl⟩

/-- A bid is counted, an earlier one of the same car dropped. -/
def Call.withBid (f : RFrame) (c : Call) : Call :=
  { c with bids := (c.bids.filter fun b => b.addr != f.src) ++ [⟨f.src, getU f.body 8 4, getU f.body 12 4⟩] }

theorem ringBid_counts (s : State) (f : RFrame) (c : Call) (hs : s.lmpServes = true) (hf : s.nextFrame 3 (some 2) = some f)
    (hreg : getU f.body 2 2 = s.me) (hc : s.call? s.me (getU f.body 4 2) = some c) (hph : c.ph = .bidding)
    (hin : s.rng.time ≤ c.tr + c.win * 1000) (hbest : c.best = none) :
    ∃ t, exec .ringBid s = .next t ∧
      t.call? s.me (getU f.body 4 2) = some { c with
        bids := (c.bids.filter fun b => b.addr != f.src) ++ [⟨f.src, getU f.body 8 4, getU f.body 12 4⟩] } ∧
      t = { s with rng.inq := s.rng.inq.erase f, dsp.calls := t.dsp.calls } := by
  have hex : exec .ringBid s = .next ((s.dropFrame f).modCall s.me (getU f.body 4 2) (Call.withBid f)) := by
    refine (occurs_pos (by simp [hs, hf])).trans (congrArg _ ?_)
    rw [hf]
    have hc' : (s.dropFrame f).call? (s.dropFrame f).me (getU f.body 4 2) = some c := hc
    dsimp only
    rw [hc']
    exact if_pos ⟨hreg, hph, hin, by rw [hbest]; rfl⟩
  refine ⟨_, hex, ?_, rfl⟩
  rw [State.call?_eq, State.modCall_eq]
  refine (find_changeCall (f := Call.withBid f) fun _ h => h).trans ?_
  rw [show (s.dropFrame f).dsp.calls.find? (Call.is s.me (getU f.body 4 2)) = some c from hc]
  rfl

/-- The lowest of the bids seen so far. -/
def betterBid (best : Option Bid) (b : Bid) : Option Bid :=
  match best with
  | none => some b
  | some m => if b.cost < m.cost ∨ (b.cost = m.cost ∧ b.addr < m.addr) then some b else some m

/-- A bid is not above another. -/
def Bid.le (b x : Bid) : Prop := b.cost < x.cost ∨ (b.cost = x.cost ∧ b.addr ≤ x.addr)

theorem foldl_betterBid (bs : List Bid) (m b : Bid) (h : bs.foldl betterBid (some m) = some b) :
    (b = m ∨ b ∈ bs) ∧ b.le m ∧ ∀ x ∈ bs, b.le x := by
  induction bs generalizing m with
  | nil =>
    obtain rfl := Option.some.inj h
    exact ⟨.inl rfl, .inr ⟨rfl, le_refl _⟩, fun x hx => absurd hx (by simp)⟩
  | cons y ys ih =>
    rw [List.foldl_cons] at h
    by_cases hy : y.cost < m.cost ∨ (y.cost = m.cost ∧ y.addr < m.addr)
    · rw [show betterBid (some m) y = some y from if_pos hy] at h
      obtain ⟨hmem, hle, hall⟩ := ih y h
      refine ⟨.inr ?_, ?_, fun x hx => ?_⟩
      · rcases hmem with rfl | hmem
        · exact List.mem_cons_self
        · exact List.mem_cons_of_mem _ hmem
      · unfold Bid.le at hle ⊢
        omega
      · rcases List.mem_cons.mp hx with rfl | hx
        · exact hle
        · exact hall x hx
    · rw [show betterBid (some m) y = some m from if_neg hy] at h
      obtain ⟨hmem, hle, hall⟩ := ih m h
      refine ⟨hmem.imp_right (List.mem_cons_of_mem _), hle, fun x hx => ?_⟩
      rcases List.mem_cons.mp hx with rfl | hx
      · unfold Bid.le at hle ⊢
        omega
      · exact hall x hx

theorem lowestBid_eq (bs : List Bid) : lowestBid bs = bs.foldl betterBid none := by
  rfl

theorem lowestBid_lowest (bs : List Bid) (b : Bid) (h : lowestBid bs = some b) :
    b ∈ bs ∧ ∀ x ∈ bs, b.cost < x.cost ∨ (b.cost = x.cost ∧ b.addr ≤ x.addr) := by
  rw [lowestBid_eq] at h
  cases bs with
  | nil => cases h
  | cons y ys =>
    obtain ⟨hmem, hle, hall⟩ := foldl_betterBid ys y b h
    refine ⟨List.mem_cons.mpr hmem, fun x hx => ?_⟩
    rcases List.mem_cons.mp hx with rfl | hx
    · exact hle
    · exact hall x hx

/-! ## The end of a bid window (15 R394, R395) -/

/-- A sleeping car of the group is woken. -/
def State.wakeDormant (s : State) : State :=
  match s.dormantPeer with
  | some a => s.ringSend 8 0 a []
  | none => s

theorem windowEnd_cond {s : State} {num : Nat} {c : Call} (hs : s.lmpServes = true) (hc : s.call? s.me num = some c) (hph : c.ph = .bidding)
    (hend : c.tr + c.win * 1000 ≤ s.rng.time) {t : State} (ht : (match s.call? s.me num with
      | none => s
      | some c => match lowestBid c.bids with
        | some b => s.fixBid num b
        | none =>
          let s := s.raise 0x0E07 3 c.landing
          if s.canBid c then let e := s.etsCost c; s.fixBid num ⟨s.me, e.2, e.1⟩
          else (s.modCall s.me num fun c => { c with ph := .retry, retryAt := s.pwr.opTime }).wakeDormant) = t) :
    exec (.bidWindowClose num) s = .next t := by
  subst ht
  refine (occurs_pos ?_).trans rfl
  rw [hc]
  simp [hs, hph, hend]

theorem bidWindowClose_fixes {s : State} {num : Nat} {c : Call} {b : Bid} (hs : s.lmpServes = true) (hc : s.call? s.me num = some c)
    (hph : c.ph = .bidding) (hend : c.tr + c.win * 1000 ≤ s.rng.time) (hb : lowestBid c.bids = some b) :
    exec (.bidWindowClose num) s = .next (s.fixBid num b) :=
  windowEnd_cond hs hc hph hend (by rw [hc]; dsimp only; rw [hb])

/-- An event does not change what the car can bid for. -/
theorem State.canBid_raise (s : State) (code sev inst : Nat) (data : List (Nat × Int)) (c : Call) :
    (s.raise code sev inst data).canBid c = s.canBid c := by
  obtain ⟨dir, tph, hr, hpar, htab⟩ := s.raise_eq code sev inst data
  have hp (i : Nat) (hi : i ≠ Idx.TPH_BUFDROPS) : ({ s with dir := dir, tph := tph } : State).par i = s.par i := hpar i hi
  have hne : ∀ i ∈ [Idx.DSP_ENABLE, Idx.DSP_GROUP, Idx.RNG_ADDR, Idx.HST_LOAD, Idx.HST_BALKG, Idx.HST_RATEDKG, Idx.DSP_FULLPCT,
      Idx.SHF_ENABLE, Idx.SAF_SILLTOP, Idx.SAF_SILLBOT, Idx.SHF_ZHI, Idx.SHF_ZLO], i ≠ Idx.TPH_BUFDROPS := by decide +kernel
  have hfun : ∀ n < 14, Idx.SAF_SIFUNn n ≠ Idx.TPH_BUFDROPS := by decide +kernel
  have haddr : ({ s with dir := dir, tph := tph } : State).addr = s.addr := State.addr_congr (hp _ (hne _ (by simp)))
  have hstat : ({ s with dir := dir, tph := tph } : State).dspStatus = s.dspStatus :=
    State.dspStatus_congr (hp _ (hne _ (by simp))) (hp _ (hne _ (by simp))) haddr rfl rfl rfl rfl rfl rfl
  have hme : ({ s with dir := dir, tph := tph } : State).me = s.me := State.parN_congr (hp _ (hne _ (by simp)))
  have hpct : ({ s with dir := dir, tph := tph } : State).loadPct = s.loadPct := by
    unfold State.loadPct State.loadKg
    rw [hp _ (hne Idx.HST_LOAD (by simp)), hp _ (hne Idx.HST_BALKG (by simp)), hp _ (hne Idx.HST_RATEDKG (by simp))]
  have hlevel : ({ s with dir := dir, tph := tph } : State).level c.landing = s.level c.landing := by
    unfold State.level State.floorN State.tblN State.tbl
    rw [show ({ s with dir := dir, tph := tph } : State).dir.tables = s.dir.tables from htab]
  have hzone : ({ s with dir := dir, tph := tph } : State).zoneExcludes c.landing = s.zoneExcludes c.landing := by
    unfold State.zoneExcludes State.zoneNeed
    rw [hlevel, hp _ (hne Idx.SHF_ENABLE (by simp)), hp _ (hne Idx.SAF_SILLTOP (by simp)), hp _ (hne Idx.SAF_SILLBOT (by simp)),
      hp _ (hne Idx.SHF_ZHI (by simp)), hp _ (hne Idx.SHF_ZLO (by simp))]
  have hof (fn : Nat) : ({ s with dir := dir, tph := tph } : State).siOf fn = s.siOf fn :=
    List.filter_congr fun n hn => by rw [hp _ (hfun n (List.mem_range.mp hn))]
  have hshut : ({ s with dir := dir, tph := tph } : State).doorsShut = s.doorsShut := by
    unfold State.doorsShut State.doorsLocked State.siEvery
    simp only [hof]
    rfl
  have hholds : ({ s with dir := dir, tph := tph } : State).holds = s.holds := by
    unfold State.holds
    rw [hme]
  have hfull : ({ s with dir := dir, tph := tph } : State).parN Idx.DSP_FULLPCT = s.parN Idx.DSP_FULLPCT :=
    State.parN_congr (hp _ (hne _ (by simp)))
  rw [hr]
  unfold State.canBid State.inDispatch
  rw [hstat, hpct, hzone, hshut, hholds, hfull]
  rfl

/-- The registrar waits before it asks again. -/
def Call.later (now : Nat) (c : Call) : Call := { c with ph := .retry, retryAt := now }

theorem bidWindowClose_waits (s : State) (num : Nat) (c : Call) (hs : s.lmpServes = true) (hc : s.call? s.me num = some c)
    (hph : c.ph = .bidding) (hend : c.tr + c.win * 1000 ≤ s.rng.time) (hbids : c.bids = []) (hcan : s.canBid c = false) :
    ∃ t, exec (.bidWindowClose num) s = .next t ∧ t.call? s.me num = some { c with ph := .retry, retryAt := s.pwr.opTime } ∧
      (∀ a, s.dormantPeer = some a → s.Sends t 8 0 a [] 2) ∧ s.Records t 0x0E07 3 c.landing ∧ s.EventsOnly t [] ∧
      t = { s with dir := t.dir, dsp.calls := t.dsp.calls, rng.seq := t.rng.seq, rng.out := t.rng.out, tph := t.tph } := by
  have hex : exec (.bidWindowClose num) s = .next (((s.raise 0x0E07 3 c.landing).modCall (s.raise 0x0E07 3 c.landing).me num
      (Call.later (s.raise 0x0E07 3 c.landing).pwr.opTime)).wakeDormant) := by
    refine windowEnd_cond hs hc hph hend ?_
    rw [hc]
    dsimp only
    rw [hbids]
    dsimp only [lowestBid, List.foldl_nil]
    rw [State.canBid_raise, hcan, if_neg Bool.false_ne_true]
    rfl
  obtain ⟨dir, tph, hr, hpar, -⟩ := s.raise_eq 0x0E07 3 c.landing []
  have hev := (State.EventsOnly.refl s []).raise 0x0E07 3 c.landing []
  have hrec := s.records_raise 0x0E07 3 c.landing []
  have hne : Idx.RNG_ADDR ≠ Idx.TPH_BUFDROPS ∧ Idx.RNG_DOMAIN ≠ Idx.TPH_BUFDROPS ∧ Idx.DSP_GROUP ≠ Idx.TPH_BUFDROPS := by decide +kernel
  have hme : (s.raise 0x0E07 3 c.landing).me = s.me := State.parN_congr (hev.1 _ ringPars.1)
  have hpwr : (s.raise 0x0E07 3 c.landing).pwr.opTime = s.pwr.opTime := by rw [hr]
  rw [hme, hpwr] at hex
  have hpeer : ((s.raise 0x0E07 3 c.landing).modCall s.me num (Call.later s.pwr.opTime)).dormantPeer = s.dormantPeer := by
    unfold State.dormantPeer
    rw [State.parN_congr (t := (s.raise 0x0E07 3 c.landing).modCall s.me num (Call.later s.pwr.opTime)) (s := s)
      (i := Idx.DSP_GROUP) (hev.1 _ (by simp)), State.modCall_eq, hr]
  have hu : (s.raise 0x0E07 3 c.landing).modCall s.me num (Call.later s.pwr.opTime) =
      { s with dir := dir, tph := tph, dsp.calls := changeCall s.me num (Call.later s.pwr.opTime) s.dsp.calls } := by
    rw [State.modCall_eq, hr]
  have halike : s.SendsAlike ((s.raise 0x0E07 3 c.landing).modCall s.me num (Call.later s.pwr.opTime)) :=
    ⟨by rw [hu]; exact ⟨rfl, rfl, rfl, rfl, rfl⟩, hev.1 _ ringPars.1, hev.1 _ ringPars.2, by rw [hu]⟩
  have hcall (t : State) (ht : t.dsp.calls = changeCall s.me num (Call.later s.pwr.opTime) s.dsp.calls) :
      t.call? s.me num = some { c with ph := .retry, retryAt := s.pwr.opTime } := by
    rw [State.call?_eq, ht, find_changeCall (f := Call.later s.pwr.opTime) fun _ h => h, ← State.call?_eq, hc]
    rfl
  have hevu : s.EventsOnly ((s.raise 0x0E07 3 c.landing).modCall s.me num (Call.later s.pwr.opTime)) [] := hev.congr rfl rfl
  have hrecu : s.Records ((s.raise 0x0E07 3 c.landing).modCall s.me num (Call.later s.pwr.opTime)) 0x0E07 3 c.landing := hrec
  unfold State.wakeDormant at hex
  rw [hpeer] at hex
  generalize (s.raise 0x0E07 3 c.landing).modCall s.me num (Call.later s.pwr.opTime) = u at *
  cases hd : s.dormantPeer with
  | none =>
    rw [hd] at hex
    dsimp only at hex
    refine ⟨u, hex, hcall u (by rw [hu]), fun a ha => absurd ha (by simp), hrecu, hevu, ?_⟩
    rw [hu]
  | some a =>
    rw [hd] at hex
    dsimp only at hex
    obtain ⟨seq, out, hq⟩ := u.ringSend_eq 8 0 a [] 2
    have hsend := (u.ringSend_sends_self 8 0 a [] 2).after halike
    refine ⟨_, hex, hcall _ (by rw [hq, hu]), fun b hb => Option.some.inj hb ▸ hsend, ?_, hevu.congr (by rw [hq]) (by rw [hq]), ?_⟩
    · exact hrecu.mono (by rw [hq])
    · rw [hq, hu]

/-- The bid that a group is to fix. -/
def Call.fixing (g : Nat) (b : Bid) (c : Call) : Call := { c with ph := .group g, best := some b }

/-- The actions that fix the own bid of a call nobody holds. -/
def Call.ownActs (me : Nat) (c : Call) : List Act :=
  [{ part := 0, kind := 0x10, body := callBody c 2 me, vers := [c.ver] }, { part := 0, kind := 0x10, body := callBody c 0 me, vers := [c.ver] }]

theorem State.openInternal_local {s : State} {g : Nat} (hg : s.freeGroup = some g) (hlen : s.grp.groups.length = 8) (owner : GOwner)
    (acts : List Act) (key : Nat) :
    ∃ u, s.openInternal owner [] acts key = some (g, u) ∧ (u.group g).state = 2 ∧ (u.group g).cross = false ∧ (u.group g).acts = acts ∧
      (∀ k, k ≠ g → u.group k = s.group k) ∧ u = { s with grp.groups := u.grp.groups, grp.nextOrder := s.grp.nextOrder + 1 } := by
  have hlt : g < 8 := by
    unfold State.freeGroup at hg
    split at hg
    · rename_i x hx
      obtain rfl := Option.some.inj hg
      exact List.mem_range.mp (List.mem_of_find?_eq_some hx)
    · exact List.mem_range.mp (List.mem_of_find?_eq_some hg)
  unfold State.openInternal
  rw [hg]
  dsimp only
  rw [if_pos List.isEmpty_nil]
  have hl1 : g < (s.allocGroup g owner (!([] : List Nat).isEmpty) []).grp.groups.length := by
    unfold State.allocGroup
    rw [State.length_modGroup]
    omega
  generalize hu : (s.allocGroup g owner (!([] : List Nat).isEmpty) []) = u at hl1
  have hself : (u.group g).cross = false := by
    rw [← hu]
    exact congrArg Group.cross (s.group_modGroup_self _ (by omega))
  have hother (k : Nat) (hk : k ≠ g) : u.group k = s.group k := by
    rw [← hu]
    exact s.group_modGroup_ne _ hk
  have h2 := u.group_modGroup_self (fun x => { x with acts := acts, key := key }) hl1
  have hl2 : g < (u.modGroup g fun x => { x with acts := acts, key := key }).grp.groups.length := by
    rw [State.length_modGroup]
    exact hl1
  have h3 := (u.modGroup g fun x => { x with acts := acts, key := key }).group_modGroup_self
    (fun x => { x with state := 2, order := (u.modGroup g fun x => { x with acts := acts, key := key }).grp.nextOrder }) hl2
  refine ⟨_, rfl, ?_, ?_, ?_, fun k hk => ?_, ?_⟩
  · exact congrArg Group.state h3
  · exact (congrArg Group.cross h3).trans ((congrArg Group.cross h2).trans hself)
  · exact (congrArg Group.acts h3).trans (congrArg Group.acts h2)
  · exact ((u.modGroup g fun x => { x with acts := acts, key := key }).group_modGroup_ne _ hk).trans
      ((u.group_modGroup_ne _ hk).trans (hother k hk))
  · rw [← hu]
    rfl

theorem bidWindowClose_own (s : State) (num g : Nat) (c : Call) (b : Bid) (hs : s.lmpServes = true) (hc : s.call? s.me num = some c)
    (hph : c.ph = .bidding) (hend : c.tr + c.win * 1000 ≤ s.rng.time) (hb : lowestBid c.bids = some b) (hme : b.addr = s.me)
    (hhold : c.holder = none) (hg : s.freeGroup = some g) (hlen : s.grp.groups.length = 8) :
    ∃ t, exec (.bidWindowClose num) s = .next t ∧ t.call? s.me num = some { c with ph := .group g, best := some b } ∧
      (t.group g).state = 2 ∧ (t.group g).cross = false ∧
      (t.group g).acts.map (fun a => (a.kind, a.body)) = [(0x10, callBody c 2 s.me), (0x10, callBody c 0 s.me)] ∧
      (∀ k, k ≠ g → t.group k = s.group k) ∧
      t = { s with grp.groups := t.grp.groups, grp.nextOrder := s.grp.nextOrder + 1, dsp.calls := t.dsp.calls } := by
  have hex := bidWindowClose_fixes hs hc hph hend hb
  obtain ⟨u, hopen, hst, hcross, hacts, hother, hu⟩ := State.openInternal_local hg hlen .beacon (c.ownActs s.me) num
  have humap : u.me = s.me := by
    rw [hu]
    rfl
  have hfix : s.fixBid num b = u.modCall s.me num (Call.fixing g b) := by
    unfold State.fixBid
    rw [hc]
    dsimp only
    rw [hhold, hme]
    simp only [if_true, List.append_nil]
    refine Eq.trans ?_ (b := match some (g, u) with | none => s | some (g, v) => v.modCall v.me num (Call.fixing g b)) (by rw [← humap])
    rw [← hopen]
    rfl
  rw [hfix] at hex
  refine ⟨_, hex, ?_, hst, hcross, ?_, hother, ?_⟩
  · have hcalls : u.dsp.calls.find? (Call.is s.me num) = some c := by
      rw [hu]
      exact hc
    rw [State.call?_eq, State.modCall_eq]
    refine (find_changeCall (f := Call.fixing g b) fun _ h => h).trans ?_
    rw [hcalls]
    rfl
  · rw [show ((u.modCall s.me num (Call.fixing g b)).group g).acts = (u.group g).acts from rfl, hacts]
    rfl
  · rw [State.modCall_eq, hu]

/-! ## Another auction, and the end of a call (15 R394, R396) -/

theorem auctionRetry_opens (s : State) (num : Nat) (c : Call) (hs : s.lmpServes = true) (hc : s.call? s.me num = some c) (hph : c.ph = .retry)
    (hat : c.retryAt + 1000 ≤ s.pwr.opTime) (hstat : s.dspStatus = 0) (haddr : s.addr ≠ none) :
    ∃ t d, exec (.auctionRetry num) s = .next t ∧ t.call? s.me num = some d ∧ d.ph = .bidding ∧ d.tr = s.rng.time ∧
      d.landing = c.landing ∧ d.kind = c.kind ∧ s.Sends t 3 1 (s.parN Idx.DSP_GROUP) d.reqBody 2 ∧
      s.EventsOnly t [Idx.DSP_AUCTIONS] ∧
      t = { s with dir := t.dir, dsp.calls := t.dsp.calls, dsp.lastCost := t.dsp.lastCost, rng.seq := t.rng.seq,
                   rng.out := t.rng.out } := by
  have hex : exec (.auctionRetry num) s = .next (s.startAuction num) := by
    refine occurs_pos ?_
    rw [hc]
    simp [hs, hph, hat]
  have hno : ¬ (s.dspStatus = 1 ∨ s.dspStatus = 4 ∨ s.addr.isNone) := by
    rw [hstat]
    simpa using haddr
  obtain ⟨own, hstep, -, hsend, htph⟩ := State.startAuction_opens hc hno
  refine ⟨_, c.open_ s.rng.time (s.parN Idx.DSP_BIDWIN) own, hex, ?_, rfl, rfl, rfl, rfl, hsend, hstep.events, ?_⟩
  · have hcis : c.is s.me num = true := List.find?_some (p := Call.is s.me num) hc
    have hkeep : ∀ d : Call, d.is s.me num = true → (c.open_ s.rng.time (s.parN Idx.DSP_BIDWIN) own).is s.me num = true :=
      fun _ _ => hcis
    rw [State.call?_eq, hstep.list, find_changeCall (f := fun _ => c.open_ s.rng.time (s.parN Idx.DSP_BIDWIN) own) hkeep, ← State.call?_eq,
      hc]
    rfl
  · obtain ⟨dir, seq, out, cost, tph, ht⟩ := hstep.frame
    rw [ht] at htph ⊢
    rw [show tph = s.tph from htph]

end Sys2Proof.Machine
end

section
/-!
PROOFS. The end of a call (15 R396).
-/
namespace Sys2Proof.Machine

/-! ## CALL_DONE (15 R396) -/

/-- The registration of a served call reads OK. -/
def State.ackServed (s : State) (c : Call) : State :=
  match c.slot with
  | some (k, seq) => s.gysAck (3 + k) seq .ok
  | none => s

/-- Acknowledgements that have come to OK. -/
structure AcksOk (before after : List GAck) : Prop where
  length : after.length = before.length
  keeps : ∀ i, (before.getD i {}).status = Status.ok.code → (after.getD i {}).status = Status.ok.code

theorem AcksOk.refl (l : List GAck) : AcksOk l l := ⟨rfl, fun _ h => h⟩

theorem AcksOk.trans {a b c : List GAck} (h : AcksOk a b) (k : AcksOk b c) : AcksOk a c :=
  ⟨k.length.trans h.length, fun i hi => k.keeps i (h.keeps i hi)⟩

theorem getD_set_self {α : Type} (l : List α) (i : Nat) (x d : α) (h : i < l.length) : (l.set i x).getD i d = x := by
  rw [List.getD_eq_getElem?_getD, List.getElem?_set_self h]
  rfl

theorem getD_set_ne {α : Type} (l : List α) {i j : Nat} (x d : α) (h : i ≠ j) : (l.set i x).getD j d = l.getD j d := by
  rw [List.getD_eq_getElem?_getD, List.getD_eq_getElem?_getD, List.getElem?_set_ne h]

theorem AcksOk.set (l : List GAck) (k seq : Nat) : AcksOk l (l.set k { seq := seq, status := Status.ok.code }) := by
  refine ⟨List.length_set, fun i hi => ?_⟩
  by_cases hk : k = i
  · subst hk
    by_cases hl : k < l.length
    · rw [getD_set_self _ _ _ _ hl]
    · rw [List.set_eq_of_length_le (by omega)]
      exact hi
  · rw [getD_set_ne _ _ _ hk]
    exact hi

theorem State.ackServed_eq (s : State) (c : Call) :
    ∃ acks, s.ackServed c = { s with gys.acks := acks } ∧ AcksOk s.gys.acks acks ∧
      ∀ k seq, c.slot = some (k, seq) → 3 + k < s.gys.acks.length → (acks.getD (3 + k) {}).status = Status.ok.code := by
  unfold State.ackServed
  cases hc : c.slot with
  | none => exact ⟨s.gys.acks, rfl, .refl _, fun _ _ h => absurd h (by simp)⟩
  | some p =>
    obtain ⟨k, seq⟩ := p
    refine ⟨_, rfl, .set _ _ _, fun k' seq' h hlt => ?_⟩
    obtain ⟨rfl, rfl⟩ := Prod.mk.inj (Option.some.inj h)
    rw [getD_set_self _ _ _ _ hlt]

theorem State.foldl_ackServed (s : State) (l : List Call) :
    ∃ acks, l.foldl State.ackServed s = { s with gys.acks := acks } ∧ AcksOk s.gys.acks acks ∧
      ∀ c ∈ l, ∀ k seq, c.slot = some (k, seq) → 3 + k < s.gys.acks.length → (acks.getD (3 + k) {}).status = Status.ok.code := by
  induction l generalizing s with
  | nil => exact ⟨s.gys.acks, rfl, .refl _, fun c hc => absurd hc (by simp)⟩
  | cons c l ih =>
    obtain ⟨a1, h1, hok1, hslot1⟩ := s.ackServed_eq c
    obtain ⟨a2, h2, hok2, hslot2⟩ := ih (s.ackServed c)
    rw [h1] at h2 hok2 hslot2
    refine ⟨a2, ?_, hok1.trans hok2, fun d hd k seq hs hlt => ?_⟩
    · rw [List.foldl_cons, h1, h2]
    · rcases List.mem_cons.mp hd with rfl | hd
      · exact hok2.keeps _ (hslot1 k seq hs hlt)
      · exact hslot2 d hd k seq hs (by rw [hok1.length]; exact hlt)

/-- A call that a CALL_DONE of this landing and kind ends. -/
def Call.servedBy (landing kind : Nat) (c : Call) : Bool := c.landing == landing && c.kind == kind && !c.onward

/-- The further stop of a held destination call. -/
def Call.further (c : Call) : Call := { c.touch with onward := true, slot := none, ph := .settled }

/-- The records without the served calls. -/
def State.restOf (s : State) (landing kind : Nat) : List Call :=
  (s.dsp.calls.map fun c => if c.servedBy landing kind && (kind == 2 && s.holds c) then c.further else c).filter fun c =>
    !c.servedBy landing kind

theorem State.callServed_eq (s : State) (landing kind : Nat) : s.callServed landing kind =
    { ((s.dsp.calls.filter fun c => c.servedBy landing kind && c.reg == s.me).foldl State.ackServed s) with
      dsp.calls := ((s.dsp.calls.filter fun c => c.servedBy landing kind && c.reg == s.me).foldl State.ackServed s).restOf landing kind } := rfl

/-- The held calls of a CALL_DONE pass to the car that served them. -/
def State.handHits (s : State) (f : RFrame) : State :=
  { s with dsp.calls := s.dsp.calls.map fun c =>
      if c.servedBy (getU f.body 2 1) (getU f.body 1 1) && s.holds c then { c with holder := some f.src } else c }

theorem exec_callDone {s : State} {f : RFrame} (hs : s.lmpServes = true) (hf : s.nextFrame 3 (some 3) = some f) :
    exec .callDone s = .next (((s.dropFrame f).handHits f).callServed (getU f.body 2 1) (getU f.body 1 1)) := by
  refine (occurs_pos (by simp [hs, hf])).trans (congrArg _ ?_)
  rw [hf]
  rfl

theorem callDone_ends (s : State) (f : RFrame) (hs : s.lmpServes = true) (hf : s.nextFrame 3 (some 3) = some f)
    (hlen : s.gys.acks.length = 12) :
    ∃ t, exec .callDone s = .next t ∧
      (∀ c ∈ t.dsp.calls, c.landing = getU f.body 2 1 → c.kind = getU f.body 1 1 → c.onward = true) ∧
      (∀ c ∈ s.dsp.calls, c.landing ≠ getU f.body 2 1 ∨ c.kind ≠ getU f.body 1 1 ∨ c.onward = true → c ∈ t.dsp.calls) ∧
      (∀ c ∈ s.dsp.calls, ∀ k seq, c.landing = getU f.body 2 1 → c.kind = getU f.body 1 1 → c.onward = false → c.reg = s.me →
        c.slot = some (k, seq) → k < 8 → (t.gys.acks.getD (3 + k) {}).status = Status.ok.code) ∧
      t = { s with rng.inq := s.rng.inq.erase f, gys.acks := t.gys.acks, dsp.calls := t.dsp.calls } := by
  have hex := exec_callDone hs hf
  rw [State.callServed_eq] at hex
  have hacks : ((s.dropFrame f).handHits f).gys.acks = s.gys.acks := rfl
  obtain ⟨acks, hfold, -, hok⟩ := ((s.dropFrame f).handHits f).foldl_ackServed
    ((((s.dropFrame f).handHits f).dsp.calls.filter fun c => c.servedBy (getU f.body 2 1) (getU f.body 1 1) && c.reg == ((s.dropFrame f).handHits f).me))
  rw [hfold] at hex
  rw [hacks, hlen] at hok
  have hmiss (c : Call) (hc : c.landing ≠ getU f.body 2 1 ∨ c.kind ≠ getU f.body 1 1 ∨ c.onward = true) :
      c.servedBy (getU f.body 2 1) (getU f.body 1 1) = false := by
    unfold Call.servedBy
    rcases hc with h | h | h <;> simp [h]
  refine ⟨_, hex, fun c hc hl hk => ?_, fun c hc hno => ?_, fun c hc k seq hl hk ho hr hslot hk8 => ?_, rfl⟩
  · have hnot := (List.mem_filter.mp hc).2
    simpa [Call.servedBy, hl, hk] using hnot
  · have hmem1 : c ∈ ((s.dropFrame f).handHits f).dsp.calls :=
      List.mem_map.mpr ⟨c, hc, by rw [hmiss c hno, Bool.false_and, if_neg Bool.false_ne_true]⟩
    exact List.mem_filter.mpr ⟨List.mem_map.mpr ⟨c, hmem1, by rw [hmiss c hno, Bool.false_and, if_neg Bool.false_ne_true]⟩,
      by rw [hmiss c hno]; rfl⟩
  · have hhit : c.servedBy (getU f.body 2 1) (getU f.body 1 1) = true := by simp [Call.servedBy, hl, hk, ho]
    -- the record as it is handed on keeps its landing, its registrar and its slot
    obtain ⟨d, hd, hdhit, hdreg, hdslot⟩ : ∃ d ∈ ((s.dropFrame f).handHits f).dsp.calls,
        d.servedBy (getU f.body 2 1) (getU f.body 1 1) = true ∧ d.reg = s.me ∧ d.slot = some (k, seq) := by
      refine ⟨_, List.mem_map.mpr ⟨c, hc, rfl⟩, ?_⟩
      split
      · exact ⟨hhit, hr, hslot⟩
      · exact ⟨hhit, hr, hslot⟩
    exact hok d (List.mem_filter.mpr ⟨hd, by rw [hdhit, hdreg]; exact beq_self_eq_true s.me⟩) k seq hdslot (by omega)

/-- Settles O38: auctions by what they do to the records, bids by the lowest one, the end of a call by its acknowledgements. -/
theorem callsAreAuctioned : Obligations.CallsAreAuctioned := by
  unfold Obligations.CallsAreAuctioned
  exact ⟨callreg_registers, bidReq_answers, bidReq_merges, ringBid_counts, lowestBid_lowest, bidWindowClose_own, bidWindowClose_waits,
    auctionRetry_opens, callDone_ends⟩

end Sys2Proof.Machine
end

section
/-!
PROOFS. Summaries, train notices and local service (15 R387 to R390, R399 to R403).
-/
namespace Sys2Proof.Machine

/-! ## Lists of peers, notices and ratios (15 R388, R399, R400) -/

theorem find?_map_if {α : Type} (p : α → Bool) (f : α → α) (hf : ∀ x, p x = true → p (f x) = true) (l : List α) :
    (l.map fun x => if p x then f x else x).find? p = (l.find? p).map f := by
  induction l with
  | nil => rfl
  | cons x xs ih =>
    rw [List.map_cons, List.find?_cons, List.find?_cons]
    by_cases hx : p x = true
    · rw [if_pos hx, hf x hx, hx]
      rfl
    · rw [if_neg hx, Bool.eq_false_iff.mpr hx]
      exact ih

theorem State.notice?_modNotice (s : State) (src id : Nat) (f : Notice → Notice)
    (hf : ∀ x : Notice, (x.src == src && x.id == id) = true → ((f x).src == src && (f x).id == id) = true) :
    (s.modNotice src id f).notice? src id = (s.notice? src id).map f :=
  find?_map_if (fun x : Notice => x.src == src && x.id == id) f hf s.dsp.notices

theorem find?_putPeer (p : Peer) (l : List Peer) : (putPeer p l).find? (fun q => q.addr == p.addr) = some p := by
  induction l with
  | nil => simp [putPeer]
  | cons q qs ih =>
    unfold putPeer
    split
    · simp
    · split
      · simp
      · rename_i h
        rw [List.find?_cons, beq_eq_false_iff_ne.mpr (Ne.symm h)]
        exact ih

theorem find?_putRatio (k v : Nat) (l : List (Nat × Nat)) : (putRatio k v l).find? (fun p => p.1 == k) = some (k, v) := by
  induction l with
  | nil => simp [putRatio]
  | cons p ps ih =>
    unfold putRatio
    split
    · simp
    · split
      · simp
      · rename_i h
        rw [List.find?_cons, beq_eq_false_iff_ne.mpr (Ne.symm h)]
        exact ih

/-! ## Summaries (15 R387, R388, R390) -/

theorem State.grownCalls_ring (s : State) (r : Rng) (rejoin : Nat) :
    ({ s with rng := r, dsp.rejoin := rejoin } : State).grownCalls = s.grownCalls := by
  have hcost (c : Call) : ({ s with rng := r, dsp.rejoin := rejoin } : State).etsCost c = s.etsCost c :=
    s.etsCost_ring r s.dsp.lastCost rejoin c
  unfold State.grownCalls
  simp only [hcost]
  rfl

theorem summarySend_sends (s : State) (hs : s.lmpServes = true) (hen : s.rng.enabled = true) (haddr : s.addr ≠ none)
    (hat : ∀ at_, s.rng.sumAt = some at_ → at_ + 250 ≤ s.pwr.opTime) (hgrown : s.inDispatch = false ∨ s.grownCalls = []) :
    ∃ t, exec .summarySend s = .next t ∧ t.rng.sumAt = some s.pwr.opTime ∧ t.dsp.rejoin = s.dsp.rejoin - 1 ∧
      s.Sends t 1 2 0 (s.summaryBody s.dspStatus) 2 ∧
      t = { s with rng.sumAt := t.rng.sumAt, rng.seq := t.rng.seq, rng.out := t.rng.out, dsp.rejoin := t.dsp.rejoin } := by
  have hcond : (s.lmpServes && s.ringRuns && s.addr.isSome && (match s.rng.sumAt with
      | some t => decide (t + 250 ≤ s.pwr.opTime)
      | none => true)) = true := by
    cases h : s.rng.sumAt with
    | none => simp [hs, State.ringRuns, hen, Option.isSome_iff_ne_none, haddr]
    | some t => simp [hs, State.ringRuns, hen, Option.isSome_iff_ne_none, haddr, hat t h]
  have hex : exec .summarySend s = .next (if (s.sendSummary s.dspStatus).inDispatch then
    (s.sendSummary s.dspStatus).grownCalls.foldl (fun s n => s.reauction n) (s.sendSummary s.dspStatus) else s.sendSummary s.dspStatus) :=
    occurs_pos hcond
  have hsend := s.ringSend_sends_self 1 2 0 (s.summaryBody s.dspStatus) 2
  obtain ⟨seq, out, hq⟩ := s.ringSend_eq 1 2 0 (s.summaryBody s.dspStatus) 2
  have hsum : s.sendSummary s.dspStatus =
      { s with rng.seq := seq, rng.out := out, rng.sumAt := some s.pwr.opTime, dsp.rejoin := s.dsp.rejoin - 1 } := by
    unfold State.sendSummary
    rw [hq]
  have hin : (s.sendSummary s.dspStatus).inDispatch = s.inDispatch := by
    rw [hsum]
    rfl
  have hgr : (s.sendSummary s.dspStatus).grownCalls = s.grownCalls := by
    rw [hsum]
    exact s.grownCalls_ring { s.rng with seq := seq, out := out, sumAt := some s.pwr.opTime } (s.dsp.rejoin - 1)
  have hall : exec .summarySend s = .next (s.sendSummary s.dspStatus) := by
    rw [hex, hin, hgr]
    rcases hgrown with h | h
    · rw [h]
      rfl
    · rw [h, List.foldl_nil, ite_self]
  refine ⟨_, hall, ?_, ?_, hsend.of_out ?_, ?_⟩
  · rw [hsum]
  · rw [hsum]
  · rw [hsum, hq]
  · rw [hsum]

/-- Watching the group's size raises an event at most. -/
theorem State.watchFull_eq (s : State) :
    ∃ dir tph full, s.watchFull = { s with dir := dir, tph := tph, dsp.full := full } ∧ s.EventsOnly s.watchFull [] := by
  unfold State.watchFull
  dsimp only
  split
  · obtain ⟨d, p, hr, -⟩ := ({ s with dsp.full := decide (32 ≤ (s.members.filter fun p => decide (p.addr < s.me)).length) } : State).raise_eq
      0x0E0A 4 0xFF []
    exact ⟨d, p, _, hr, (State.EventsOnly.of_eq [] rfl rfl).raise _ _ _ _⟩
  · exact ⟨s.dir, s.tph, _, rfl, .of_eq _ rfl rfl⟩

/-- Following the master's format changes the format in use and raises an event at most. -/
theorem State.followFormat_eq (s : State) : ∃ dir tph, s.followFormat = { s with dir := dir, tph := tph } ∧ s.EventsOnlyFmt s.followFormat := by
  have hrefl := State.EventsOnly.refl s []
  unfold State.followFormat
  dsimp only
  split
  · exact ⟨s.dir, s.tph, rfl, hrefl.1, hrefl.2.1, rfl, List.prefix_refl _⟩
  · obtain ⟨d, p, hr, -⟩ := ({ s with tph.fmtUse := s.formatNow } : State).raise_eq 0x1003 1 0xFF [(1, s.formatNow)]
    have hev := (State.EventsOnly.refl ({ s with tph.fmtUse := s.formatNow } : State) []).raise 0x1003 1 0xFF [(1, s.formatNow)]
    obtain ⟨hpar, htab, hrec⟩ := hev
    refine ⟨d, p, hr, fun i hi => hpar i hi, State.tablesKept_of ?_, ?_, hrec.2⟩
    · exact (State.EventsOnly.refl ({ s with tph.fmtUse := s.formatNow } : State) []).raise _ _ _ _ |>.tables
    · refine hrec.1.trans ?_
      rw [hrec.1]

theorem State.EventsOnlyFmt.after {s t u : State} (h : s.EventsOnly t []) (k : t.EventsOnlyFmt u) : s.EventsOnlyFmt u := by
  obtain ⟨hp, ht, hq, hpre⟩ := h
  obtain ⟨kp, kt, kq, kpre⟩ := k
  have htu : u.dir.tables = t.dir.tables := by
    rw [show u.dir = { t.dir with live := u.dir.live, durable := u.dir.durable } from kt]
  have hts : t.dir.tables = s.dir.tables := by
    rw [show t.dir = { s.dir with live := t.dir.live, durable := t.dir.durable } from ht]
  refine ⟨fun i hi => (kp i hi).trans (hp i hi), State.tablesKept_of (htu.trans hts), ?_, hpre.trans kpre⟩
  rw [kq, hq]

/-- A taken summary, its sender's data kept. -/
def State.keepPeer (s : State) (f : RFrame) : State :=
  { s.dropFrame f with rng.peers := putPeer ⟨f.src, s.pwr.opTime, f.hops, f.body, false⟩ s.rng.peers }

theorem summary_keepsPeer (s : State) (f : RFrame) (hs : s.lmpServes = true) (hf : s.nextFrame 1 none = some f) (ha : s.addr ≠ some f.src)
    (hst : getU f.body 2 1 = 0) :
    ∃ t, exec .summary s = .next t ∧
      t.rng.peers.find? (fun p => p.addr == f.src) = some ⟨f.src, s.pwr.opTime, f.hops, f.body, false⟩ ∧ s.EventsOnlyFmt t ∧
      t = { s with dir := t.dir, rng.inq := s.rng.inq.erase f, rng.peers := t.rng.peers, dsp.full := t.dsp.full, tph := t.tph } := by
  have hex : exec .summary s = .next (s.keepPeer f).watchFull.followFormat := by
    refine (occurs_pos (by simp [hs, hf])).trans (congrArg _ ?_)
    rw [hf]
    have ha' : ¬ (s.dropFrame f).addr = some f.src := ha
    dsimp only
    rw [if_neg ha', if_pos hst]
    rfl
  obtain ⟨d1, p1, full, h1, hev1⟩ := (s.keepPeer f).watchFull_eq
  obtain ⟨d2, p2, h2, hev2⟩ := (s.keepPeer f).watchFull.followFormat_eq
  have hev0 : s.EventsOnly (s.keepPeer f).watchFull [] := (State.EventsOnly.of_eq (t := s.keepPeer f) [] rfl rfl).trans hev1
  refine ⟨_, hex, ?_, .after hev0 hev2, ?_⟩
  · rw [h2, h1]
    exact find?_putPeer ⟨f.src, s.pwr.opTime, f.hops, f.body, false⟩ s.rng.peers
  · rw [h2, h1]
    rfl

theorem summary_duplicate (s : State) (f : RFrame) (hs : s.lmpServes = true) (hf : s.nextFrame 1 none = some f) (ha : s.addr = some f.src)
    (hid : getU f.body 16 4 ≠ identity) (hdup : s.rng.dup = false) :
    ∃ t, exec .summary s = .next t ∧ s.Records t 0x0D05 4 0xFF ∧ s.EventsOnly t [] ∧
      t = { s with dir := t.dir, rng.inq := s.rng.inq.erase f, rng.dup := true, rng.isMgr := false, rng.isMaster := false,
                   tph := t.tph } := by
  have hex : exec .summary s = .next (({ s.dropFrame f with rng.dup := true, rng.isMgr := false, rng.isMaster := false } : State).raise
      0x0D05 4) := by
    refine (occurs_pos (by simp [hs, hf])).trans (congrArg _ ?_)
    rw [hf]
    have ha' : (s.dropFrame f).addr = some f.src := ha
    have hno : ¬ (getU f.body 16 4 = identity ∨ (s.dropFrame f).rng.dup = true) := by
      rw [show (s.dropFrame f).rng.dup = s.rng.dup from rfl, hdup]
      simpa using hid
    dsimp only
    rw [if_pos ha', if_neg hno]
  have h1 := (State.RingStep.refl [] s).set { s.rng with inq := s.rng.inq.erase f, dup := true, isMgr := false, isMaster := false }
  have h2 := h1.raise 0x0D05 4 0xFF []
  exact ⟨_, hex, h1.records recsev_no_list _, h2.events, h2.frame_eq⟩

theorem peerLost_marks (s : State) (a : Nat) (p : Peer) (hs : s.lmpServes = true) (hp : p ∈ s.rng.peers) (hpa : p.addr = a)
    (hl : p.lost = false) (hat : p.heard + s.parN Idx.DSP_PEERLOSS ≤ s.pwr.opTime) (hheld : s.heldBy a = []) :
    ∃ t, exec (.peerLost a) s = .next t ∧
      t.rng.peers = (s.rng.peers.map fun q => if q.addr = a then { q with lost := true } else q) ∧ s.EventsOnly t [] ∧
      t = { s with dir := t.dir, rng.peers := t.rng.peers, dsp.full := t.dsp.full, tph := t.tph } := by
  have hany : (s.rng.peers.any fun (p : Peer) => p.addr == a && !p.lost && decide (p.heard + s.parN Idx.DSP_PEERLOSS ≤ s.pwr.opTime)) =
      true := List.any_eq_true.mpr ⟨p, hp, by simp [hpa, hl, hat]⟩
  have hex : exec (.peerLost a) s = .next ({ s with
      rng.peers := s.rng.peers.map fun (q : Peer) => if q.addr = a then { q with lost := true } else q } : State).watchFull := by
    refine (occurs_pos (by rw [hs, hany]; rfl)).trans (congrArg _ ?_)
    have hheld' : ({ s with rng.peers := s.rng.peers.map fun (q : Peer) => if q.addr = a then { q with lost := true } else q } :
      State).heldBy a = [] := hheld
    dsimp only
    rw [hheld']
    rfl
  obtain ⟨d, q, full, h, hev⟩ := ({ s with
      rng.peers := s.rng.peers.map fun (q : Peer) => if q.addr = a then { q with lost := true } else q } : State).watchFull_eq
  refine ⟨_, hex, ?_, (State.EventsOnly.of_eq [] rfl rfl).trans hev, ?_⟩
  · rw [h]
  · rw [h]

/-! ## Train notices (15 R399 to R401) -/

/-- From `s` to `t` only the windows of the operators changed. -/
def State.WindowsOnly (s t : State) : Prop := ∃ w0 w1, t = { s with dr0.windows := w0, dr1.windows := w1 }

theorem State.WindowsOnly.drop (x : Notice) {s t : State} (h : s.WindowsOnly t) :
    s.WindowsOnly ([0, 1].foldl (fun s n => s.modD n fun d => { d with windows := d.windows.filter fun w => w != s.noticeWin n x }) t) := by
  obtain ⟨w0, w1, ht⟩ := h
  exact ⟨_, _, by rw [ht]; rfl⟩

theorem State.dropNotice_eq (s : State) (src id : Nat) : ∃ w0 w1, s.dropNotice src id =
    { s with dr0.windows := w0, dr1.windows := w1, dsp.notices := s.dsp.notices.filter fun x => !(x.src == src && x.id == id) } := by
  have hfold (l : List Notice) (t : State) (h : s.WindowsOnly t) : s.WindowsOnly (l.foldl (fun s x => [0, 1].foldl (fun s n =>
      s.modD n fun d => { d with windows := d.windows.filter fun w => w != s.noticeWin n x }) s) t) := by
    induction l generalizing t with
    | nil => exact h
    | cons x l ih => exact ih _ (h.drop x)
  obtain ⟨w0, w1, hw⟩ := hfold (s.dsp.notices.filter fun x => x.src == src && x.id == id) s ⟨s.dr0.windows, s.dr1.windows, rfl⟩
  refine ⟨w0, w1, ?_⟩
  unfold State.dropNotice
  dsimp only
  rw [hw]

/-- The windows of a notice do not depend on events. -/
theorem State.noticeWin_congr {s t : State} (h : s.EventsOnly t []) {n : Nat} (hn : n < 2) (x : Notice) : t.noticeWin n x = s.noticeWin n x := by
  have hall : ∀ n < 2, Idx.DRn_BOOSTLEAD n ∉ [Idx.TPH_BUFDROPS] ∧ Idx.DRn_BOOSTWIN n ∉ [Idx.TPH_BUFDROPS] := by decide +kernel
  obtain ⟨hlead, hwin⟩ := hall n hn
  unfold State.noticeWin
  rw [State.parN_congr (h.1 _ hlead), State.parN_congr (h.1 _ hwin)]

/-- A notice in a frame. -/
def noticeOf (f : RFrame) : Notice :=
  { src := f.src, id := getU f.body 0 4, landing := getU f.body 5 1, flow := getU f.body 6 1, ta := getU f.body 8 8,
    pax := getU f.body 16 2 }

/-- An earlier notice leaves, and the new one is recorded. -/
def State.heardNotice (s : State) (f : RFrame) : State :=
  ((s.dropFrame f).dropNotice f.src (getU f.body 0 4)).raise 0x0E08 1 (getU f.body 5 1) [(2, f.src), (4, getU f.body 0 4)]

/-- A notice is handed to both operators. -/
def State.handNotice (s : State) (x : Notice) : State :=
  { s with
    dr0.windows := s.dr0.windows ++ [s.noticeWin 0 x]
    dr1.windows := s.dr1.windows ++ [s.noticeWin 1 x]
    dsp.notices := (s.dsp.notices.filter fun y => !(y.done && decide (y.ta + 300000000 < s.rng.time))) ++ [x] }

theorem exec_trainNotice {s : State} {f : RFrame} (hs : s.lmpServes = true) (hf : s.nextFrame 7 none = some f) :
    exec .trainNotice s = .next (if (getU f.body 4 1).testBit 0 then s.heardNotice f else (s.heardNotice f).handNotice (noticeOf f)) := by
  refine (occurs_pos (by simp [hs, hf])).trans (congrArg _ ?_)
  rw [hf]
  rfl

theorem State.heardNotice_eq (s : State) (f : RFrame) :
    ∃ dir tph w0 w1, s.heardNotice f = { s with
      dir := dir, tph := tph, dr0.windows := w0, dr1.windows := w1, rng.inq := s.rng.inq.erase f,
      dsp.notices := s.dsp.notices.filter fun x => !(x.src == f.src && x.id == getU f.body 0 4) } ∧
      s.EventsOnly (s.heardNotice f) [] ∧ s.Records (s.heardNotice f) 0x0E08 1 (getU f.body 5 1) := by
  obtain ⟨w0, w1, hd⟩ := (s.dropFrame f).dropNotice_eq f.src (getU f.body 0 4)
  unfold State.heardNotice
  rw [hd]
  have hev : s.EventsOnly ({ s.dropFrame f with
      dr0.windows := w0, dr1.windows := w1,
      dsp.notices := s.dsp.notices.filter fun x => !(x.src == f.src && x.id == getU f.body 0 4) } : State) [] := .of_eq [] rfl rfl
  generalize hu : ({ s.dropFrame f with
      dr0.windows := w0, dr1.windows := w1,
      dsp.notices := s.dsp.notices.filter fun x => !(x.src == f.src && x.id == getU f.body 0 4) } : State) = u at hev
  obtain ⟨d, p, hr, -⟩ := u.raise_eq 0x0E08 1 (getU f.body 5 1) [(2, f.src), (4, getU f.body 0 4)]
  have hrec := u.records_raise 0x0E08 1 (getU f.body 5 1) [(2, f.src), (4, getU f.body 0 4)]
  refine ⟨d, p, w0, w1, ?_, ?_, ?_⟩
  · rw [← hu] at hr
    exact hr
  · rw [← hu] at hev
    exact hev.raise _ _ _ _
  · rw [← hu] at hrec
    exact fun hh => hrec hh

theorem trainNotice_hands (s : State) (f : RFrame) (hs : s.lmpServes = true) (hf : s.nextFrame 7 none = some f)
    (hb : (getU f.body 4 1).testBit 0 = false) :
    ∃ t x, exec .trainNotice s = .next t ∧ t.dsp.notices.getLast? = some x ∧ x.src = f.src ∧ x.id = getU f.body 0 4 ∧
      x.landing = getU f.body 5 1 ∧ x.flow = getU f.body 6 1 ∧ x.ta = getU f.body 8 8 ∧ x.pax = getU f.body 16 2 ∧
      x.acted = false ∧ x.sent = false ∧ x.done = false ∧
      (∀ y ∈ t.dsp.notices.dropLast, y ∈ s.dsp.notices ∧ ¬(y.src = f.src ∧ y.id = getU f.body 0 4)) ∧
      t.dr0.windows.getLast? = some (s.noticeWin 0 x) ∧ t.dr1.windows.getLast? = some (s.noticeWin 1 x) ∧
      s.Records t 0x0E08 1 (getU f.body 5 1) ∧ s.EventsOnly t [] ∧
      t = { s with dir := t.dir, rng.inq := s.rng.inq.erase f, dsp.notices := t.dsp.notices, dr0.windows := t.dr0.windows,
                   dr1.windows := t.dr1.windows, tph := t.tph } := by
  have hex := exec_trainNotice hs hf
  rw [hb, if_neg Bool.false_ne_true] at hex
  obtain ⟨dir, tph, w0, w1, heq, hev, hrec⟩ := s.heardNotice_eq f
  have hw0 := State.noticeWin_congr hev (show 0 < 2 by omega) (noticeOf f)
  have hw1 := State.noticeWin_congr hev (show 1 < 2 by omega) (noticeOf f)
  refine ⟨_, noticeOf f, hex, List.getLast?_concat, rfl, rfl, rfl, rfl, rfl, rfl, rfl, rfl, rfl, fun y hy => ?_, ?_, ?_,
    fun hh => hrec hh, hev.congr rfl rfl, ?_⟩
  · unfold State.handNotice at hy
    dsimp only at hy
    rw [List.dropLast_concat, heq] at hy
    obtain ⟨hy, hno⟩ := List.mem_filter.mp (List.mem_filter.mp hy).1
    exact ⟨hy, by simpa [imp_iff_not_or] using hno⟩
  · rw [← hw0]
    exact List.getLast?_concat
  · rw [← hw1]
    exact List.getLast?_concat
  · unfold State.handNotice
    rw [heq]

theorem trainNotice_withdraws (s : State) (f : RFrame) (hs : s.lmpServes = true) (hf : s.nextFrame 7 none = some f)
    (hb : (getU f.body 4 1).testBit 0 = true) :
    ∃ t, exec .trainNotice s = .next t ∧
      t.dsp.notices = (s.dsp.notices.filter fun y => !(y.src == f.src && y.id == getU f.body 0 4)) ∧
      s.Records t 0x0E08 1 (getU f.body 5 1) ∧ s.EventsOnly t [] ∧
      t = { s with dir := t.dir, rng.inq := s.rng.inq.erase f, dsp.notices := t.dsp.notices, dr0.windows := t.dr0.windows,
                   dr1.windows := t.dr1.windows, tph := t.tph } := by
  have hex := exec_trainNotice hs hf
  rw [hb, if_pos rfl] at hex
  obtain ⟨dir, tph, w0, w1, heq, hev, hrec⟩ := s.heardNotice_eq f
  refine ⟨_, hex, ?_, hrec, hev, ?_⟩
  · rw [heq]
  · rw [heq]

/-! ### Pre-position calls (15 R401) -/

/-- `n` pre-position calls opened from `s` on. -/
structure State.Prepositioned (n : Nat) (s t : State) : Prop where
  frame : ∃ dir seq out cost num calls tph, t = { s with
    dir := dir, rng.seq := seq, rng.out := out, dsp.lastCost := cost, dsp.num := num, dsp.calls := calls, tph := tph }
  length : t.dsp.calls.length = s.dsp.calls.length + n
  events : s.EventsOnly t dispatchCounts

/-- One pre-position call. -/
def State.preposition (s : State) (landing flow : Nat) (notice : Nat × Nat) : State :=
  ({ s with
      dsp.calls := s.dsp.calls ++ [{ reg := s.me, num := s.dsp.num, kind := 3, landing := landing, flow := flow, notice := notice }],
      dsp.num := (s.dsp.num + 1) % 65536 } : State).startAuction s.dsp.num

theorem State.Prepositioned.next {n : Nat} {s t : State} (h : State.Prepositioned n s t) (landing flow : Nat) (notice : Nat × Nat) :
    State.Prepositioned (n + 1) s (t.preposition landing flow notice) := by
  obtain ⟨dir, seq, out, cost, num, calls, tph, ht⟩ := h.frame
  obtain ⟨calls', hstep, hlen⟩ := State.startAuction_step { t with
      dsp.calls := t.dsp.calls ++ [{ reg := t.me, num := t.dsp.num, kind := 3, landing := landing, flow := flow, notice := notice }],
      dsp.num := (t.dsp.num + 1) % 65536 } t.dsp.num
  refine ⟨?_, ?_, (h.events.congr rfl rfl).trans hstep.events⟩
  · obtain ⟨dir', seq', out', cost', tph', ht'⟩ := hstep.frame
    refine ⟨dir', seq', out', cost', (t.dsp.num + 1) % 65536, calls', tph', ?_⟩
    unfold State.preposition
    rw [ht', ht]
  · rw [show (t.preposition landing flow notice).dsp.calls = calls' from hstep.list, hlen]
    simp [h.length]
    omega

theorem State.prepositioned_foldl (landing flow : Nat) (notice : Nat × Nat) (s : State) (n : Nat) :
    State.Prepositioned n s ((List.range n).foldl (fun s _ => s.preposition landing flow notice) s) := by
  induction n with
  | zero => exact ⟨⟨_, _, _, _, _, _, _, rfl⟩, rfl, .refl s _⟩
  | succ n ih =>
    rw [List.range_succ, List.foldl_append]
    exact ih.next landing flow notice

/-- A notice that the car has acted on. -/
def Notice.act (x : Notice) : Notice := { x with acted := true }

theorem preposition_cond {s : State} {src id : Nat} {x : Notice} (hs : s.lmpServes = true) (hd : s.inDispatch = true)
    (hen : s.par Idx.DSP_PREDEN = 1) (hlow : ∀ p ∈ s.members, p.addr < s.me → getU p.body 2 1 ≠ 0) (hx : s.notice? src id = some x)
    (ha : x.acted = false) (hpre : x.ta ≤ s.rng.time + s.parN Idx.DSP_PREWIN * 1000000) (hta : s.rng.time < x.ta) :
    exec (.dspPreposition src id) s = .next (if s.ratioUse x.landing * x.pax < s.parN Idx.DSP_PREMIN * 10 ^ 9 then
        s.modNotice src id Notice.act
      else (List.range (min ((s.ratioUse x.landing * x.pax + s.parN Idx.DSP_CARPAX * 10 ^ 9 - 1) / max 1 (s.parN Idx.DSP_CARPAX * 10 ^ 9))
        (s.parN Idx.DSP_PREMAX))).foldl (fun s _ => s.preposition x.landing x.flow (src, id)) (s.modNotice src id Notice.act)) := by
  have hnone : (s.members.any fun p => decide (p.addr < s.me) && getU p.body 2 1 == 0) = false :=
    List.any_eq_false.mpr fun p hp => by simpa using hlow p hp
  refine (occurs_pos (by rw [hs, hd, hen, hnone, hx]; simp [ha, hpre, hta])).trans (congrArg _ ?_)
  rw [hx]
  rfl

theorem dspPreposition_opens (s : State) (src id : Nat) (x : Notice) (hs : s.lmpServes = true) (hd : s.inDispatch = true)
    (hen : s.par Idx.DSP_PREDEN = 1) (hlow : ∀ p ∈ s.members, p.addr < s.me → getU p.body 2 1 ≠ 0) (hx : s.notice? src id = some x)
    (ha : x.acted = false) (hpre : x.ta ≤ s.rng.time + s.parN Idx.DSP_PREWIN * 1000000) (hta : s.rng.time < x.ta) :
    ∃ t, exec (.dspPreposition src id) s = .next t ∧ t.notice? src id = some { x with acted := true } ∧
      (s.ratioUse x.landing * x.pax < s.parN Idx.DSP_PREMIN * 10 ^ 9 → t = { s with dsp.notices := t.dsp.notices }) ∧
      (s.parN Idx.DSP_PREMIN * 10 ^ 9 ≤ s.ratioUse x.landing * x.pax → t.dsp.calls.length = s.dsp.calls.length +
        min ((s.ratioUse x.landing * x.pax + s.parN Idx.DSP_CARPAX * 10 ^ 9 - 1) / max 1 (s.parN Idx.DSP_CARPAX * 10 ^ 9))
          (s.parN Idx.DSP_PREMAX)) ∧
      s.EventsOnly t [Idx.DSP_AUCTIONS, Idx.DSP_WON] ∧
      t = { s with dir := t.dir, dsp.notices := t.dsp.notices, dsp.calls := t.dsp.calls, dsp.num := t.dsp.num,
                   dsp.lastCost := t.dsp.lastCost, rng.seq := t.rng.seq, rng.out := t.rng.out, tph := t.tph } := by
  have hex := preposition_cond hs hd hen hlow hx ha hpre hta
  have hnote : (s.modNotice src id Notice.act).notice? src id = some { x with acted := true } := by
    rw [State.notice?_modNotice s src id Notice.act fun _ h => h, hx]
    rfl
  by_cases hmin : s.ratioUse x.landing * x.pax < s.parN Idx.DSP_PREMIN * 10 ^ 9
  · rw [if_pos hmin] at hex
    exact ⟨_, hex, hnote, fun _ => rfl, fun h => absurd h (by omega), .of_eq _ rfl rfl, rfl⟩
  · rw [if_neg hmin] at hex
    have hpos := (s.modNotice src id Notice.act).prepositioned_foldl x.landing x.flow (src, id)
      (min ((s.ratioUse x.landing * x.pax + s.parN Idx.DSP_CARPAX * 10 ^ 9 - 1) / max 1 (s.parN Idx.DSP_CARPAX * 10 ^ 9))
        (s.parN Idx.DSP_PREMAX))
    generalize (List.range _).foldl _ _ = t at hex hpos
    obtain ⟨dir, seq, out, cost, num, calls, tph, ht⟩ := hpos.frame
    refine ⟨t, hex, ?_, fun h => absurd h hmin, fun _ => hpos.length, (State.EventsOnly.of_eq _ rfl rfl).trans hpos.events, ?_⟩
    · rw [ht]
      exact hnote
    · rw [ht]
      rfl

theorem preholdEnd_clears (s : State) (src id : Nat) (left : Bool) (x : Notice) (hs : s.lmpServes = true) (hx : s.notice? src id = some x)
    (hend : (left = true ∧ s.parkedAt x.landing = false) ∨ x.ta + s.parN Idx.DSP_PREHOLD * 1000000 ≤ s.rng.time) :
    ∃ t, exec (.preholdEnd src id left) s = .next t ∧ (∀ c, c ∈ t.dsp.calls ↔ c ∈ s.dsp.calls ∧ ¬(c.kind = 3 ∧
    c.notice = (src, id))) ∧
      t = { s with dsp.calls := t.dsp.calls } := by
  refine ⟨_, occurs_pos (by rw [hs, hx]; simpa using hend), fun c => ?_, rfl⟩
  refine List.mem_filter.trans (and_congr_right fun _ => ?_)
  simp [imp_iff_not_or]

/-! ### Surge windows and ratios (15 R400) -/

/-- A report of boarded passengers is kept. -/
def Notice.report (a p : Nat) (x : Notice) : Notice := { x with sent := true, boarded := x.boarded ++ [(a, p)] }

theorem surgeWindowEnd_reports (s : State) (src id : Nat) (x : Notice) (hs : s.lmpServes = true) (hd : s.inDispatch = true)
    (hx : s.notice? src id = some x) (hsent : x.sent = false) (hend : x.ta + s.parN Idx.DSP_SURGEWIN * 1000000 ≤ s.rng.time)
    (hpark : s.parkedAt x.landing = false) :
    ∃ t, exec (.surgeWindowEnd src id) s = .next t ∧
      t.notice? src id = some { x with sent := true, boarded := x.boarded ++
        [(s.me, (rdiv ((x.kg * 10 : Nat) : Int) (max 1 (s.par Idx.DSP_PAXKG))).toNat)] } ∧
      s.Sends t 3 1 (s.parN Idx.DSP_GROUP) (toLe 1 4 ++ [0] ++ toLe 1 x.landing ++ [0] ++ toLe 2 src ++ toLe 2 0 ++ toLe 4 id ++
        toLe 4 (rdiv ((x.kg * 10 : Nat) : Int) (max 1 (s.par Idx.DSP_PAXKG))).toNat) 2 ∧
      t = { s with dsp.notices := t.dsp.notices, rng.seq := t.rng.seq, rng.out := t.rng.out } := by
  have h : exec (.surgeWindowEnd src id) s = _ := occurs_pos (by rw [hs, hd, hx]; simp [hsent, hend])
  rw [hx] at h
  dsimp only at h
  rw [hpark, if_neg Bool.false_ne_true, Nat.add_zero] at h
  generalize (rdiv ((x.kg * 10 : Nat) : Int) (max 1 (s.par Idx.DSP_PAXKG))).toNat = p at *
  generalize hbody : toLe 1 4 ++ [0] ++ toLe 1 x.landing ++ [0] ++ toLe 2 src ++ toLe 2 0 ++ toLe 4 id ++ toLe 4 p = body at *
  have hex : exec (.surgeWindowEnd src id) s = .next ((s.modNotice src id (Notice.report s.me p)).ringSend 3 1 (s.parN Idx.DSP_GROUP) body) := h
  have hsend := (s.modNotice src id (Notice.report s.me p)).ringSend_sends_self 3 1 (s.parN Idx.DSP_GROUP) body 2
  obtain ⟨seq, out, hq⟩ := (s.modNotice src id (Notice.report s.me p)).ringSend_eq 3 1 (s.parN Idx.DSP_GROUP) body 2
  refine ⟨_, hex, ?_, hsend.after (.of_dir ⟨rfl, rfl, rfl, rfl, rfl⟩ rfl rfl), ?_⟩
  · rw [hq]
    refine (s.notice?_modNotice src id (Notice.report s.me p) fun _ h => h).trans ?_
    rw [hx]
    rfl
  · rw [hq]
    rfl

/-- A report of another car is kept, one of each car. -/
def Notice.collect (f : RFrame) (x : Notice) : Notice :=
  if x.boarded.any fun p => p.1 == f.src then x else { x with boarded := x.boarded ++ [(f.src, getU f.body 12 4)] }

theorem boarded_collects (s : State) (f : RFrame) (x : Notice) (hs : s.lmpServes = true) (hf : s.nextFrame 3 (some 4) = some f)
    (hx : s.notice? (getU f.body 4 2) (getU f.body 8 4) = some x) (hnew : ∀ p ∈ x.boarded, p.1 ≠ f.src) :
    ∃ t, exec .boarded s = .next t ∧ t.notice? (getU f.body 4 2) (getU f.body 8 4) =
        some { x with boarded := x.boarded ++ [(f.src, getU f.body 12 4)] } ∧
      t = { s with rng.inq := s.rng.inq.erase f, dsp.notices := t.dsp.notices } := by
  have hex : exec .boarded s = .next ((s.dropFrame f).modNotice (getU f.body 4 2) (getU f.body 8 4) (Notice.collect f)) := by
    refine (occurs_pos (by simp [hs, hf])).trans (congrArg _ ?_)
    rw [hf]
    rfl
  have hnone : (x.boarded.any fun p => p.1 == f.src) = false := List.any_eq_false.mpr fun p hp => by simpa using hnew p hp
  refine ⟨_, hex, ?_, rfl⟩
  refine ((s.dropFrame f).notice?_modNotice _ _ (Notice.collect f) fun y hy => ?_).trans ?_
  · unfold Notice.collect
    split <;> exact hy
  · rw [show (s.dropFrame f).notice? (getU f.body 4 2) (getU f.body 8 4) = some x from hx, Option.map_some, Notice.collect, hnone,
      if_neg Bool.false_ne_true]

/-- A notice whose ratio is learned. -/
def Notice.finish (x : Notice) : Notice := { x with done := true }

/-- The ratio that a notice teaches. -/
def State.learnedRatio (s : State) (x : Notice) (k : Nat) : Nat :=
  ((s.ratio k : Int) + rdiv (s.par Idx.DSP_PREDGAIN *
    ((((x.boarded.map fun p => p.2).foldl (· + ·) 0 * 10 ^ 8 / x.pax : Nat) : Int) - s.ratio k)) 1000).toNat

theorem exec_ratioUpdate {s : State} {src id : Nat} {x : Notice} (hs : s.lmpServes = true) (hd : s.inDispatch = true)
    (hx : s.notice? src id = some x) (hdone : x.done = false)
    (hend : x.ta + s.parN Idx.DSP_SURGEWIN * 1000000 + 5000000 ≤ s.rng.time) :
    exec (.ratioUpdate src id) s = .next (if !s.rtc.set ∨ x.pax = 0 then s.modNotice src id Notice.finish
      else { s.modNotice src id Notice.finish with
        dsp.ratios := putRatio (ratioKey x.landing s.rtc.cal.hour) (s.learnedRatio x (ratioKey x.landing s.rtc.cal.hour)) s.dsp.ratios }) := by
  refine (occurs_pos (by rw [hs, hd, hx]; simp [hdone, hend])).trans (congrArg _ ?_)
  rw [hx]
  rfl

theorem ratioUpdate_learns (s : State) (src id : Nat) (x : Notice) (hs : s.lmpServes = true) (hd : s.inDispatch = true)
    (hx : s.notice? src id = some x) (hdone : x.done = false)
    (hend : x.ta + s.parN Idx.DSP_SURGEWIN * 1000000 + 5000000 ≤ s.rng.time) :
    ∃ t, exec (.ratioUpdate src id) s = .next t ∧ t.notice? src id = some { x with done := true } ∧
      (s.rtc.set = true → x.pax ≠ 0 → t.ratio (ratioKey x.landing s.rtc.cal.hour) =
        ((s.ratio (ratioKey x.landing s.rtc.cal.hour) : Int) + rdiv (s.par Idx.DSP_PREDGAIN *
          ((((x.boarded.map fun p => p.2).foldl (· + ·) 0 * 10 ^ 8 / x.pax : Nat) : Int) -
            s.ratio (ratioKey x.landing s.rtc.cal.hour))) 1000).toNat) ∧
      (s.rtc.set = false ∨ x.pax = 0 → t.dsp.ratios = s.dsp.ratios) ∧
      t = { s with dsp.notices := t.dsp.notices, dsp.ratios := t.dsp.ratios } := by
  have hex := exec_ratioUpdate hs hd hx hdone hend
  have hnote : (s.modNotice src id Notice.finish).notice? src id = some { x with done := true } := by
    rw [State.notice?_modNotice s src id Notice.finish fun _ h => h, hx]
    rfl
  by_cases hno : !s.rtc.set ∨ x.pax = 0
  · rw [if_pos hno] at hex
    refine ⟨_, hex, hnote, fun h1 h2 => ?_, fun _ => rfl, rfl⟩
    rcases hno with h | h
    · rw [h1] at h
      cases h
    · exact absurd h h2
  · rw [if_neg hno] at hex
    refine ⟨_, hex, hnote, fun _ _ => ?_, fun h => absurd ?_ hno, rfl⟩
    · unfold State.ratio
      dsimp only
      rw [find?_putRatio]
      rfl
    · exact h.imp_left fun h => by rw [h]; rfl

/-! ## Local service (15 R402, R403) -/

theorem localepi_facts : isConfig Idx.DSP_LOCALEPI = false ∧ (paramInfo Idx.DSP_LOCALEPI).map (fun r => r.hi) = some (2 ^ 32 - 1) ∧
    Idx.DSP_LOCALEPI ∉ [Idx.TPH_BUFDROPS] ∧ Idx.TPH_RECSEV ∉ [Idx.TPH_BUFDROPS, Idx.DSP_LOCALEPI] ∧
    Idx.RNG_ADDR ∉ [Idx.TPH_BUFDROPS] := by decide +kernel

theorem dspLocalService_after (s : State) (ms : Nat) (hs : s.lmpServes = true) (hm : s.member = true) (hl : s.dsp.loc = false)
    (hp : s.ringPoor = true) (hat : s.parN Idx.DSP_RINGLOSS ≤ ms) :
    ∃ t, exec (.dspLocalService ms) s = .next t ∧ t.par Idx.DSP_LOCALEPI = min (s.par Idx.DSP_LOCALEPI + 1) (2 ^ 32 - 1) ∧
      s.Records t 0x0E05 3 0xFF ∧ s.EventsOnly t [Idx.DSP_LOCALEPI] ∧
      t = { s with dir := t.dir, dsp.loc := true, dsp.locAt := s.pwr.opTime, dsp.locServed := 0, tph := t.tph } := by
  obtain ⟨hc, hhi, hne, hsev, -⟩ := localepi_facts
  have h1 : s.EventsOnly ({ s with dsp.loc := true, dsp.locAt := s.pwr.opTime, dsp.locServed := 0 } : State) [Idx.DSP_LOCALEPI] :=
    .of_eq _ rfl rfl
  have h2 := h1.bump 1 (i := Idx.DSP_LOCALEPI) (by simp) hc
  have hpar : (({ s with dsp.loc := true, dsp.locAt := s.pwr.opTime, dsp.locServed := 0 } : State).bump Idx.DSP_LOCALEPI).par
      Idx.DSP_LOCALEPI = min (s.par Idx.DSP_LOCALEPI + 1) (2 ^ 32 - 1) := State.par_bump_top _ hc hhi
  obtain ⟨d, hb, -⟩ := ({ s with dsp.loc := true, dsp.locAt := s.pwr.opTime, dsp.locServed := 0 } : State).bump_eq
    (i := Idx.DSP_LOCALEPI) 1 hc
  have hex : exec (.dspLocalService ms) s = .next ((({ s with dsp.loc := true, dsp.locAt := s.pwr.opTime, dsp.locServed := 0 } :
    State).bump Idx.DSP_LOCALEPI).raise 0x0E05 3) := occurs_pos (by simp [hs, hm, hl, hp, hat])
  generalize ({ s with dsp.loc := true, dsp.locAt := s.pwr.opTime, dsp.locServed := 0 } : State).bump Idx.DSP_LOCALEPI = u at *
  obtain ⟨d', p, hr, -⟩ := u.raise_eq 0x0E05 3 0xFF []
  refine ⟨_, hex, (((State.EventsOnly.refl u []).raise 0x0E05 3 0xFF []).1 _ hne).trans hpar, ?_, h2.raise _ _ _ _, ?_⟩
  · exact (u.records_raise 0x0E05 3 0xFF []).after h2.2.2 (h2.1 _ hsev) (by rw [hb]) (by rw [hb])
  · rw [hr, hb]

theorem dspRejoined_after (s : State) (sec : Nat) (hs : s.lmpServes = true) (hm : s.member = true) (hl : s.dsp.loc = true)
    (hp : s.ringPoor = false) (hat : s.parN Idx.DSP_REJOIN ≤ sec) (hheld : s.heldBy s.me = []) :
    ∃ t, exec (.dspRejoined sec) s = .next t ∧ s.Records t 0x0E06 2 0xFF ∧ s.EventsOnly t [] ∧
      t = { s with dir := t.dir, dsp.loc := false, dsp.rejoin := 10,
                   dsp.epi := ((s.pwr.opTime - s.dsp.locAt) / 1000, s.dsp.locServed), tph := t.tph } := by
  have hex : exec (.dspRejoined sec) s = _ := occurs_pos (by simp [hs, hm, hl, hp, hat])
  have hev : s.EventsOnly ({ s with
      dsp.loc := false, dsp.rejoin := 10, dsp.epi := ((s.pwr.opTime - s.dsp.locAt) / 1000, s.dsp.locServed) } : State) [] := .of_eq _ rfl rfl
  generalize hu : ({ s with
      dsp.loc := false, dsp.rejoin := 10, dsp.epi := ((s.pwr.opTime - s.dsp.locAt) / 1000, s.dsp.locServed) } : State) = u at *
  obtain ⟨d, p, hr, -⟩ := u.raise_eq 0x0E06 2 0xFF []
  have hev2 := hev.raise 0x0E06 2 0xFF []
  have hheld' : (u.raise 0x0E06 2).heldBy (u.raise 0x0E06 2).me = [] := by
    have hme : (u.raise 0x0E06 2).me = s.me := State.parN_congr (hev2.1 _ localepi_facts.2.2.2.2)
    unfold State.heldBy at hheld ⊢
    rw [hme, hr, ← hu]
    exact hheld
  have hex' : exec (.dspRejoined sec) s = .next (((u.raise 0x0E06 2).heldBy (u.raise 0x0E06 2).me).foldl (fun s n => s.startAuction n)
    (u.raise 0x0E06 2)) := hex
  rw [hheld', List.foldl_nil] at hex'
  refine ⟨_, hex', ?_, hev2, ?_⟩
  · exact (u.records_raise 0x0E06 2 0xFF []).after hev.2.2 (hev.1 _ (by decide +kernel)) (by rw [← hu]) (by rw [← hu])
  · rw [hr, ← hu]

/-- Settles O39: summaries, notices and ratios by what they leave in their lists, local service by its start and its end. -/
theorem groupsSeeEachOther : Obligations.GroupsSeeEachOther := by
  unfold Obligations.GroupsSeeEachOther
  refine ⟨summarySend_sends, summary_keepsPeer, summary_duplicate, peerLost_marks, trainNotice_hands, trainNotice_withdraws,
    dspPreposition_opens, preholdEnd_clears, surgeWindowEnd_reports, boarded_collects, ratioUpdate_learns, fun s hs hat => ?_,
    dspLocalService_after, dspRejoined_after⟩
  exact occurs_pos (by simp [hs, hat])

end Sys2Proof.Machine
end

section
/-!
PROOFS. Bytes of a neighbour frame, and a side of the neighbour link (16 R406 to R408).
-/
namespace Sys2Proof.Machine

/-! ## Bytes inside a byte string -/

theorem getU_append_right (a b : List Byte) {off k : Nat} (n : Nat) (h : off = a.length + k) : getU (a ++ b) off n = getU b k n := by
  unfold getU
  rw [h, List.drop_append, List.drop_eq_nil_of_le (by omega), List.nil_append, Nat.add_sub_cancel_left]

theorem getU_append_left (a b : List Byte) {off n : Nat} (h : off + n ≤ a.length) : getU (a ++ b) off n = getU a off n := by
  unfold getU
  rw [List.drop_append_of_le_length (by omega), List.take_append_of_le_length (by rw [List.length_drop]; omega)]

theorem getU_le (n v : Nat) : getU (toLe n v) 0 n = v % 2 ^ (8 * n) := by
  unfold getU
  rw [List.drop_zero, List.take_of_length_le (by rw [length_toLe]), leNat_toLe_mod]

/-! ### The CRC fits into 32 bits -/

theorem crcBit_fits {c : Nat} (h : c < 2 ^ 32) : crcBit c < 2 ^ 32 := by
  unfold crcBit
  split
  · exact Nat.xor_lt_two_pow (by omega) (by omega)
  · omega

theorem crcByte_fits {c : Nat} (b : Byte) (h : c < 2 ^ 32) : crcByte c b < 2 ^ 32 := by
  have hb := b.isLt
  exact crcBit_fits (crcBit_fits (crcBit_fits (crcBit_fits (crcBit_fits (crcBit_fits (crcBit_fits (crcBit_fits
    (Nat.xor_lt_two_pow h (by omega)))))))))

theorem crc32_fits (bs : List Byte) : crc32 bs < 2 ^ 32 := by
  have hfold (l : List Byte) (c : Nat) (h : c < 2 ^ 32) : l.foldl crcByte c < 2 ^ 32 := by
    induction l generalizing c with
    | nil => exact h
    | cons b l ih => exact ih _ (crcByte_fits b h)
  exact Nat.xor_lt_two_pow (hfold bs _ (by omega)) (by omega)

/-! ## A neighbour side (16 R406) -/

theorem State.side_modSide_self (s : State) (up : Bool) (f : NlSide → NlSide) : (s.modSide up f).side up = f (s.side up) := by
  cases up <;> rfl

theorem State.side_modSide_other (s : State) (up : Bool) (f : NlSide → NlSide) : (s.modSide up f).side (!up) = s.side (!up) := by
  cases up <;> rfl

theorem State.modSide_eq (s : State) (up : Bool) (f : NlSide → NlSide) : ∃ u d, s.modSide up f = { s with shf.up := u, shf.dn := d } := by
  cases up
  · exact ⟨s.shf.up, _, rfl⟩
  · exact ⟨_, s.shf.dn, rfl⟩

theorem State.side_congr {s t : State} (hu : t.shf.up = s.shf.up) (hd : t.shf.dn = s.shf.dn) (up : Bool) : t.side up = s.side up := by
  unfold State.side
  rw [hu, hd]

theorem State.modSide_congr {s : State} {up : Bool} {f g : NlSide → NlSide} (h : f (s.side up) = g (s.side up)) :
    s.modSide up f = s.modSide up g := by
  unfold State.side at h
  unfold State.modSide
  cases up
  · exact congrArg (fun x => { s with shf.dn := x }) h
  · exact congrArg (fun x => { s with shf.up := x }) h

/-- From `s` to `t` a side became `n`; beside it only events were raised and the listed parameters written. -/
structure State.SideStep (up : Bool) (is : List Nat) (s t : State) (n : NlSide) : Prop where
  side : t.side up = n
  other : t.side (!up) = s.side (!up)
  frame : ∃ dir u d tph, t = { s with dir := dir, shf.up := u, shf.dn := d, tph := tph }
  events : s.EventsOnly t is

variable {up : Bool} {is : List Nat} {s t u : State} {n m : NlSide}

theorem State.SideStep.refl (up : Bool) (is : List Nat) (s : State) : State.SideStep up is s s (s.side up) :=
  ⟨rfl, rfl, ⟨_, _, _, _, rfl⟩, .refl s is⟩

theorem State.SideStep.modSide (h : State.SideStep up is s t n) (f : NlSide → NlSide) : State.SideStep up is s (t.modSide up f) (f n) := by
  obtain ⟨dir, u, d, tph, ht⟩ := h.frame
  refine ⟨(t.side_modSide_self up f).trans (congrArg f h.side), (t.side_modSide_other up f).trans h.other, ?_,
    h.events.congr (by simp) (by simp)⟩
  obtain ⟨u', d', hm⟩ := t.modSide_eq up f
  exact ⟨dir, u', d', tph, by rw [hm, ht]⟩

theorem State.SideStep.raise (h : State.SideStep up is s t n) (code sev inst : Nat) (data : List (Nat × Int)) :
    State.SideStep up is s (t.raise code sev inst data) n := by
  obtain ⟨dir, u, d, tph, ht⟩ := h.frame
  obtain ⟨dir', p, hr, -⟩ := t.raise_eq code sev inst data
  exact ⟨(State.side_congr (by rw [hr]) (by rw [hr]) _).trans h.side, (State.side_congr (by rw [hr]) (by rw [hr]) _).trans h.other,
    ⟨dir', u, d, p, by rw [hr, ht]⟩, h.events.raise _ _ _ _⟩

theorem State.SideStep.bump (h : State.SideStep up is s t n) {i : Nat} (k : Nat) (hi : i ∈ is) (hc : isConfig i = false) :
    State.SideStep up is s (t.bump i k) n := by
  obtain ⟨dir, u, d, tph, ht⟩ := h.frame
  obtain ⟨dir', hb, -⟩ := t.bump_eq k hc
  exact ⟨(State.side_congr (by rw [hb]) (by rw [hb]) _).trans h.side, (State.side_congr (by rw [hb]) (by rw [hb]) _).trans h.other,
    ⟨dir', u, d, tph, by rw [hb, ht]⟩, h.events.bump k hi hc⟩

theorem State.SideStep.trans (h : State.SideStep up is s t n) (k : State.SideStep up is t u m) : State.SideStep up is s u m := by
  obtain ⟨dir, a, b, tph, ht⟩ := h.frame
  obtain ⟨dir', a', b', tph', hu⟩ := k.frame
  exact ⟨k.side, k.other.trans h.other, ⟨dir', a', b', tph', by rw [hu, ht]⟩, h.events.trans k.events⟩

theorem State.SideStep.records (h : State.SideStep up is s t n) (hs : Idx.TPH_RECSEV ∉ Idx.TPH_BUFDROPS :: is) (e : Evt) :
    s.Records (t.raiseEvt e) e.code e.sev e.inst := by
  obtain ⟨dir, u, d, tph, ht⟩ := h.frame
  exact (t.records_raiseEvt e).after h.events.2.2 (h.events.1 _ hs) (by rw [ht]) (by rw [ht])

/-- What is recorded stays recorded. -/
theorem State.SideStep.recorded {code sev inst : Nat} (k : State.SideStep up is t u m) (h : s.Records t code sev inst) :
    s.Records u code sev inst := h.mono k.events.2.2.2

/-! ## The frame on a side (16 R407, Table SHF-1) -/

theorem SafCh.section_eq (c : SafCh) (up : Bool) (cycle : Nat) : ∃ a : List Byte, a.length = 12 ∧
    getU a 10 1 % 2 = b2n up ∧ c.section_ up cycle = a ++ toLe 4 (crc32 a) := by
  refine ⟨_, ?_, ?_, rfl⟩
  · simp [le]
  · rw [List.append_assoc, getU_append_right _ _ 1 (k := 0) (by simp [le]), getU_append_left _ _ (by simp), getU_le]
    have hflags : ∀ x y : Bool, (b2n x + 2 * b2n y) % 2 ^ (8 * 1) % 2 = b2n x := by decide
    exact hflags _ _

/-- A section passes the check of the other car. -/
theorem sectionGood_section (pre rest : List Byte) (c : SafCh) (up : Bool) (cycle : Nat) :
    sectionGood (pre ++ (c.section_ up cycle ++ rest)) pre.length (!up) = true := by
  obtain ⟨a, ha, hup, heq⟩ := c.section_eq up cycle
  have hcrc : getU (pre ++ (c.section_ up cycle ++ rest)) (pre.length + 12) 4 = crc32 a := by
    rw [getU_append_right _ _ 4 rfl, heq, List.append_assoc, getU_append_right _ _ 4 (k := 0) (by omega),
      getU_append_left _ _ (by simp), getU_le]
    exact Nat.mod_eq_of_lt (crc32_fits a)
  have hbyte : getU (pre ++ (c.section_ up cycle ++ rest)) (pre.length + 10) 1 = getU a 10 1 := by
    rw [getU_append_right _ _ 1 rfl, heq, List.append_assoc, getU_append_left _ _ (by omega)]
  have htake : ((pre ++ (c.section_ up cycle ++ rest)).drop pre.length).take 12 = a := by
    rw [List.drop_left, heq, List.append_assoc, ← ha, List.take_left]
  unfold sectionGood
  rw [hcrc, hbyte, htake, beq_self_eq_true, Bool.true_and, Bool.not_not, Nat.testBit_zero, hup]
  cases up <;> rfl

theorem NlSide.length_fragment (n : NlSide) : n.fragment.length = 52 := by
  unfold NlSide.fragment
  split
  · split <;> simp
  · simp

/-- The bytes of a frame before the safety sections. -/
def State.nlHead (s : State) (up : Bool) : List Byte :=
  toLe 1 0xC3 ++ toLe 1 (s.side up).seqOut ++ toLe 1 ((s.side up).lastSeq.getD 0) ++ toLe 1 (s.nlFlags up) ++ toLe 1 (s.parN Idx.SHF_POSN) ++
    [0] ++ toLe 2 (s.parN Idx.RNG_ADDR) ++ le 4 s.carPos ++ le 4 s.hst.vf ++ le 4 s.shf.un ++ le 4 s.shf.ln ++
    le 4 (s.par Idx.SHF_ZLO) ++ le 4 (s.par Idx.SHF_ZHI) ++ toLe 4 (s.parN Idx.SHF_ZVER) ++ toLe 4 s.rng.time

theorem State.length_nlHead (s : State) (up : Bool) : (s.nlHead up).length = 40 := by simp [State.nlHead, le]

/-- The bytes of a frame before its CRC. -/
def State.nlBody (s : State) (up : Bool) : List Byte :=
  s.nlHead up ++ s.saf.chA.section_ up s.saf.chA.wrote.cycle ++ s.saf.chB.section_ up s.saf.chB.wrote.cycle ++ (s.side up).fragment

theorem SafCh.length_section (c : SafCh) (up : Bool) (cycle : Nat) : (c.section_ up cycle).length = 16 := by
  obtain ⟨a, ha, -, heq⟩ := c.section_eq up cycle
  rw [heq, List.length_append, ha, length_toLe]

theorem State.length_nlBody (s : State) (up : Bool) : (s.nlBody up).length = 124 := by
  unfold State.nlBody
  rw [List.length_append, List.length_append, List.length_append, State.length_nlHead, SafCh.length_section, SafCh.length_section,
    NlSide.length_fragment]

theorem State.nlFrame_eq (s : State) (up : Bool) : s.nlFrame up = s.nlBody up ++ toLe 4 (crc32 (s.nlBody up)) := rfl

/-- A frame passes the checks of the other car. -/
theorem State.nlFrame_good (s : State) (up : Bool) :
    (s.nlFrame up).length = 128 ∧ nlCrcGood (s.nlFrame up) true = true ∧ getU (s.nlFrame up) 1 1 = (s.side up).seqOut % 256 ∧
      sectionGood (s.nlFrame up) 40 (!up) = true ∧ sectionGood (s.nlFrame up) 56 (!up) = true := by
  have hlen : (s.nlFrame up).length = 128 := by rw [State.nlFrame_eq, List.length_append, State.length_nlBody, length_toLe]
  have hhead := s.length_nlHead up
  have hparts : s.nlFrame up = s.nlHead up ++ (s.saf.chA.section_ up s.saf.chA.wrote.cycle ++
      (s.saf.chB.section_ up s.saf.chB.wrote.cycle ++ ((s.side up).fragment ++ toLe 4 (crc32 (s.nlBody up))))) := by
    rw [State.nlFrame_eq]
    unfold State.nlBody
    simp only [List.append_assoc]
  have hparts' : s.nlFrame up = (s.nlHead up ++ s.saf.chA.section_ up s.saf.chA.wrote.cycle) ++
      (s.saf.chB.section_ up s.saf.chB.wrote.cycle ++ ((s.side up).fragment ++ toLe 4 (crc32 (s.nlBody up)))) := by
    rw [hparts, List.append_assoc]
  have hfirst : s.nlHead up = toLe 1 0xC3 ++ (toLe 1 (s.side up).seqOut ++ (toLe 1 ((s.side up).lastSeq.getD 0) ++ (toLe 1 (s.nlFlags up) ++
      (toLe 1 (s.parN Idx.SHF_POSN) ++ ([0] ++ (toLe 2 (s.parN Idx.RNG_ADDR) ++ (le 4 s.carPos ++ (le 4 s.hst.vf ++ (le 4 s.shf.un ++
      (le 4 s.shf.ln ++ (le 4 (s.par Idx.SHF_ZLO) ++ (le 4 (s.par Idx.SHF_ZHI) ++ (toLe 4 (s.parN Idx.SHF_ZVER) ++
      toLe 4 s.rng.time))))))))))))) := by
    unfold State.nlHead
    simp only [List.append_assoc]
  refine ⟨hlen, ?_, ?_, ?_, ?_⟩
  · have htype : getU (s.nlFrame up) 0 1 = 0xC3 := by
      rw [hparts, getU_append_left _ _ (by omega), hfirst, getU_append_left _ _ (by simp), getU_le]
      rfl
    have hcrc : getU (s.nlFrame up) 124 4 = crc32 (s.nlBody up) := by
      rw [State.nlFrame_eq, getU_append_right _ _ 4 (k := 0) (by rw [State.length_nlBody]), getU_le]
      exact Nat.mod_eq_of_lt (crc32_fits _)
    have htake : (s.nlFrame up).take 124 = s.nlBody up := by
      rw [State.nlFrame_eq, ← State.length_nlBody s up, List.take_left]
    unfold nlCrcGood
    rw [hlen, htype, hcrc, htake]
    simp
  · rw [hparts, getU_append_left _ _ (by omega), hfirst, getU_append_right _ _ 1 (k := 0) (by simp), getU_append_left _ _ (by simp),
      getU_le]
    rfl
  · rw [hparts, ← hhead]
    exact sectionGood_section _ _ _ _ _
  · have hpre : (s.nlHead up ++ s.saf.chA.section_ up s.saf.chA.wrote.cycle).length = 56 := by
      rw [List.length_append, hhead, SafCh.length_section]
    rw [hparts', ← hpre]
    exact sectionGood_section _ _ _ _ _

end Sys2Proof.Machine
end

section
/-!
PROOFS. Neighbour frames sent and refused (16 R406 to R410).
-/
namespace Sys2Proof.Machine

/-! ## Frames sent (16 R406 to R410) -/

/-- A message in flight goes on. -/
def State.keepsMessage (s : State) (up : Bool) : Bool :=
  match (s.side up).msg with
  | some m => decide (s.rng.time < m.expires)
  | none => false

/-- A message is taken into flight. -/
def State.launch (s : State) (up : Bool) (m : GMsg) : State :=
  ({ s with grp.out := s.grp.out.erase m } : State).modSide up fun n =>
    { n with
      msgNo := (s.side up).msgNo % 255 + 1
      msg := some { number := (s.side up).msgNo % 255 + 1, bytes := m.bytes (s.parN Idx.RNG_ADDR),
                    expires := m.t0 + s.parN Idx.GRP_XHOLD * 1000 } }

/-- The next message for a side. -/
def State.nextMessage (s : State) (up : Bool) : State :=
  match s.grp.out.find? fun m => m.peer == sideCode up with
  | none => s.modSide up fun n => { n with msg := none }
  | some m => s.launch up m

theorem State.pickMessage_cases (s : State) (up : Bool) : s.pickMessage up = if s.keepsMessage up then s else s.nextMessage up := rfl

/-- Picking a message changes the queue of messages and the side's message in flight. -/
theorem State.pickMessage_eq (s : State) (up : Bool) : ∃ out msg no,
    s.pickMessage up = ({ s with grp.out := out } : State).modSide up fun n => { n with msg := msg, msgNo := no } := by
  rw [State.pickMessage_cases]
  split
  · exact ⟨s.grp.out, (s.side up).msg, (s.side up).msgNo, by cases up <;> rfl⟩
  · unfold State.nextMessage
    split
    · exact ⟨s.grp.out, none, (s.side up).msgNo, by cases up <;> rfl⟩
    · exact ⟨_, _, _, rfl⟩

/-- The stop for a lost link is forgotten once HST is out of CONTROLLED_STOP. -/
def State.endLossStop (s : State) : State := if s.hst.st = .controlledStop then s else { s with shf.lossStop := false }

theorem State.endLossStop_eq (s : State) : ∃ b, s.endLossStop = { s with shf.lossStop := b } := by
  unfold State.endLossStop
  split
  · exact ⟨s.shf.lossStop, rfl⟩
  · exact ⟨false, rfl⟩

/-- The next sequence number of a side. -/
def State.nextFrameNo (s : State) (up : Bool) : State := s.modSide up fun n => { n with seqOut := (n.seqOut + 1) % 256 }

/-- The own extent on a side, as both channels see it. -/
def State.ownExtent (s : State) (up : Bool) : Int := if up then max s.saf.chA.hi s.saf.chB.hi else min s.saf.chA.lo s.saf.chB.lo

/-- The message in flight after a frame. -/
def NlMsg.sent (now : Nat) (m : NlMsg) : NlMsg :=
  { m with frag := min m.count (m.frag + 1), sentAt := if m.frag < m.count then now else m.sentAt }

/-- A frame leaves on a side. -/
def State.putFrame (s : State) (up : Bool) : State :=
  s.modSide up fun n => { n with frame := s.nlFrame up, safSent := s.ownExtent up, msg := n.msg.map (NlMsg.sent s.pwr.opTime) }

theorem exec_neighbourFrameSend {s : State} {up : Bool} (he : s.engines = true) (hon : s.sideOn up = true) :
    exec (.neighbourFrameSend up) s = .next (((s.pickMessage up).endLossStop.nextFrameNo up).putFrame up) := occurs_pos (by simp [he, hon])

theorem neighbourFrameSend_sends (s : State) (up : Bool) (he : s.engines = true) (hon : s.sideOn up = true) :
    ∃ t, exec (.neighbourFrameSend up) s = .next t ∧ (t.side up).seqOut = ((s.side up).seqOut + 1) % 256 ∧
      (t.side up).frame.length = 128 ∧ nlCrcGood (t.side up).frame true = true ∧
      getU (t.side up).frame 1 1 = (t.side up).seqOut ∧ sectionGood (t.side up).frame 40 (!up) = true ∧
      sectionGood (t.side up).frame 56 (!up) = true ∧
      (t.side up).safSent = (if up then max s.saf.chA.hi s.saf.chB.hi else min s.saf.chA.lo s.saf.chB.lo) ∧
      t.side (!up) = s.side (!up) ∧
      t = { s with grp.out := t.grp.out, shf.up := t.shf.up, shf.dn := t.shf.dn, shf.lossStop := t.shf.lossStop } := by
  have hex := exec_neighbourFrameSend he hon
  -- the state in which the frame is built
  obtain ⟨out, msg, no, hpick⟩ := s.pickMessage_eq up
  obtain ⟨b, hstop⟩ := (s.pickMessage up).endLossStop_eq
  obtain ⟨u, d, hw, hseq, hother⟩ : ∃ u d, (s.pickMessage up).endLossStop.nextFrameNo up =
      { s with grp.out := out, shf.up := u, shf.dn := d, shf.lossStop := b } ∧
      (((s.pickMessage up).endLossStop.nextFrameNo up).side up).seqOut = ((s.side up).seqOut + 1) % 256 ∧
      ((s.pickMessage up).endLossStop.nextFrameNo up).side (!up) = s.side (!up) := by
    unfold State.nextFrameNo
    rw [hstop, hpick]
    cases up
    · exact ⟨_, _, rfl, rfl, rfl⟩
    · exact ⟨_, _, rfl, rfl, rfl⟩
  generalize (s.pickMessage up).endLossStop.nextFrameNo up = w at *
  have hself : (w.putFrame up).side up = _ := w.side_modSide_self up _
  obtain ⟨hlen, hcrc, hno, h40, h56⟩ := w.nlFrame_good up
  rw [hseq, Nat.mod_mod] at hno
  refine ⟨_, hex, ?_, ?_, ?_, ?_, ?_, ?_, ?_, (w.side_modSide_other up _).trans hother, ?_⟩
  · rw [hself]
    exact hseq
  · rw [hself]
    exact hlen
  · rw [hself]
    exact hcrc
  · rw [hself]
    exact hno.trans hseq.symm
  · rw [hself]
    exact h40
  · rw [hself]
    exact h56
  · rw [hself]
    unfold State.ownExtent
    rw [hw]
  · obtain ⟨u', d', hm⟩ := w.modSide_eq up fun n =>
      { n with frame := w.nlFrame up, safSent := w.ownExtent up, msg := n.msg.map (NlMsg.sent w.pwr.opTime) }
    rw [State.putFrame, hm, hw]

theorem messageRepeat_restarts (s : State) (up : Bool) (m : NlMsg) (he : s.engines = true) (hon : s.sideOn up = true)
    (hm : (s.side up).msg = some m) (hall : m.count ≤ m.frag) (hat : m.sentAt + 3 ≤ s.pwr.opTime) (hexp : s.rng.time < m.expires) :
    exec (.messageRepeat up) s = .next (s.modSide up fun n => { n with msg := some { m with frag := 0 } }) := by
  refine (occurs_pos (by rw [he, hon, hm]; simp [hall, hat, hexp])).trans (congrArg _ ?_)
  exact State.modSide_congr (by rw [hm]; rfl)

/-! ## Frames received (16 R408 to R410, R416) -/

/-- A safety channel's view of its neighbours after a frame. -/
def State.viewed (s : State) (up : Bool) (bs : List Byte) (coded : Bool) (n : SafNbr) : SafNbr :=
  if nlCrcGood bs coded && sectionGood bs 40 up && sectionGood bs 56 up then
    n.take s.pwr.opTime (max (getS bs 40 4) (getS bs 56 4)) (min (getS bs 44 4) (getS bs 60 4))
  else { n with good := 0 }

/-- A channel's record after a frame. -/
def State.chanView (s : State) (up : Bool) (bs : List Byte) (coded : Bool) (c : SafCh) : SafCh :=
  if up then { c with above := s.viewed up bs coded c.above } else { c with below := s.viewed up bs coded c.below }

theorem State.safNeighbour_eq (s : State) (up : Bool) (bs : List Byte) (coded : Bool) :
    s.safNeighbour up bs coded = { s with
      saf.chA := s.chanView up bs coded s.saf.chA, saf.chB := s.chanView up bs coded s.saf.chB } := rfl

theorem State.chan_safNeighbour (s : State) (up : Bool) (bs : List Byte) (coded isA : Bool) :
    (s.safNeighbour up bs coded).chan isA = s.chanView up bs coded (s.chan isA) := by
  cases isA <;> rfl

/-- An SHF frame of the wrong car. -/
def State.miswire (s : State) (up : Bool) : State :=
  if (s.side up).miswired then s.modSide up fun n => { n with goodN := 0 }
  else ((s.modSide up fun n => { n with goodN := 0 }).raise 0x0F0A 4 (b2n up)).modSide up fun n => { n with miswired := true }

theorem exec_neighbourFrame {s : State} {up coded : Bool} {gap : Nat} {bs : List Byte} (he : s.engines = true) (hon : s.sideOn up = true) :
    exec (.neighbourFrame up bs coded gap) s = .next (
      if !nlCrcGood bs coded || ((s.safNeighbour up bs coded).side up).lastSeq == some (getU bs 1 1) then
        (s.safNeighbour up bs coded).modSide up fun n => { n with goodN := 0 }
      else if (s.safNeighbour up bs coded).nlNamed up bs then (s.safNeighbour up bs coded).nlTake up bs gap
      else (s.safNeighbour up bs coded).miswire up) := occurs_pos (by simp [he, hon])

theorem State.side_safNeighbour (s : State) (up coded dir : Bool) (bs : List Byte) :
    (s.safNeighbour up bs coded).side dir = s.side dir := by
  rw [State.safNeighbour_eq]
  rfl

theorem neighbourFrame_bad (s : State) (up coded : Bool) (gap : Nat) (bs : List Byte) (he : s.engines = true) (hon : s.sideOn up = true)
    (hbad : nlCrcGood bs coded = false ∨ (s.side up).lastSeq = some (getU bs 1 1)) :
    ∃ t, exec (.neighbourFrame up bs coded gap) s = .next t ∧ t.side up = { s.side up with goodN := 0 } ∧
      t.side (!up) = s.side (!up) ∧
      (nlCrcGood bs coded = false → ∀ isA, t.chan isA = { s.chan isA with
        above.good := if up then 0 else (s.chan isA).above.good, below.good := if up then (s.chan isA).below.good else 0 }) ∧
      t = { s with saf.chA := t.saf.chA, saf.chB := t.saf.chB, shf.up := t.shf.up, shf.dn := t.shf.dn } := by
  have hex := exec_neighbourFrame (coded := coded) (gap := gap) (bs := bs) he hon
  rw [State.side_safNeighbour, if_pos (by simpa using hbad)] at hex
  refine ⟨_, hex, ?_, ?_, fun hcrc isA => ?_, ?_⟩
  · rw [State.side_modSide_self, State.side_safNeighbour]
  · rw [State.side_modSide_other, State.side_safNeighbour]
  · have hchan : ((s.safNeighbour up bs coded).modSide up fun n => { n with goodN := 0 }).chan isA =
        (s.safNeighbour up bs coded).chan isA := by
      cases up <;> rfl
    rw [hchan, State.chan_safNeighbour, State.chanView]
    unfold State.viewed
    rw [hcrc]
    cases up <;> rfl
  · obtain ⟨u, d, hm⟩ := (s.safNeighbour up bs coded).modSide_eq up fun n => { n with goodN := 0 }
    rw [hm, State.safNeighbour_eq]

theorem neighbourFrame_miswired (s : State) (up : Bool) (gap : Nat) (bs : List Byte) (he : s.engines = true) (hon : s.sideOn up = true)
    (hcrc : nlCrcGood bs true = true) (hseq : (s.side up).lastSeq ≠ some (getU bs 1 1)) (hname : s.nlNamed up bs = false)
    (hmis : (s.side up).miswired = false) :
    ∃ t, exec (.neighbourFrame up bs true gap) s = .next t ∧ t.side up = { s.side up with goodN := 0, miswired := true } ∧
      t.side (!up) = s.side (!up) ∧ s.Records t 0x0F0A 4 (b2n up) ∧ s.EventsOnly t [] ∧
      t = { s with dir := t.dir, saf.chA := t.saf.chA, saf.chB := t.saf.chB, shf.up := t.shf.up, shf.dn := t.shf.dn,
                   tph := t.tph } := by
  have hex := exec_neighbourFrame (coded := true) (gap := gap) (bs := bs) he hon
  have hname' : (s.safNeighbour up bs true).nlNamed up bs = false := hname
  rw [State.side_safNeighbour, if_neg (by simp [hcrc, hseq]), hname', if_neg Bool.false_ne_true] at hex
  unfold State.miswire at hex
  rw [State.side_safNeighbour, hmis, if_neg Bool.false_ne_true] at hex
  have hside := s.side_safNeighbour up true up bs
  have hother := s.side_safNeighbour up true (!up) bs
  have hev : s.EventsOnly (s.safNeighbour up bs true) [] := .of_eq _ rfl rfl
  have hview := s.safNeighbour_eq up bs true
  generalize s.safNeighbour up bs true = u at *
  have h1 := (State.SideStep.refl up [] u).modSide fun n => { n with goodN := 0 }
  have h2 := (h1.raise 0x0F0A 4 (b2n up) []).modSide fun n => { n with miswired := true }
  have hrec : u.Records ((u.modSide up fun n => { n with goodN := 0 }).raise 0x0F0A 4 (b2n up)) 0x0F0A 4 (b2n up) :=
    h1.records recsev_no_list _
  refine ⟨_, hex, ?_, h2.other.trans hother, ?_, hev.trans h2.events, ?_⟩
  · rw [h2.side, hside]
  · exact (hrec.after hev.2.2 (hev.1 _ recsev_no_list) (by rw [hview]) (by rw [hview])).mono (by simp)
  · obtain ⟨dir, a, b, tph, ht⟩ := h2.frame
    rw [ht, hview]

end Sys2Proof.Machine
end

section
/-!
PROOFS. A good frame of the expected car (16 R408 to R411, R416).
-/
namespace Sys2Proof.Machine

/-! ## A good frame of the expected car (16 R408 to R411, R416) -/

/-- A value the device writes itself. -/
theorem State.setOwn_blocks (s : State) (i : Nat) (v : Int) : ∃ dir dirty, s.setOwn i v = { s with dir := dir, sec.measDirty := dirty } := by
  unfold State.setOwn State.countConfig
  split
  · exact ⟨_, s.sec.measDirty, rfl⟩
  · split
    · exact ⟨_, true, rfl⟩
    · exact ⟨_, s.sec.measDirty, rfl⟩

/-- From `s` to `t` a side became `n`; beside it events were raised, the listed parameters written, and messages received. -/
structure State.NlStep (up : Bool) (is : List Nat) (s t : State) (n : NlSide) : Prop where
  side : t.side up = n
  other : t.side (!up) = s.side (!up)
  frame : ∃ dir inq u d tph dirty,
    t = { s with dir := dir, grp.inq := inq, shf.up := u, shf.dn := d, tph := tph, sec.measDirty := dirty }
  pars : s.ParsKept t is
  tables : t.dir.tables = s.dir.tables

section
variable {up : Bool} {is : List Nat} {s t u : State} {n m : NlSide}

theorem State.SideStep.toNl {js : List Nat} (h : State.SideStep up js s t n) (hs : Idx.TPH_BUFDROPS :: js ⊆ is) : State.NlStep up is s t n := by
  obtain ⟨dir, a, b, tph, ht⟩ := h.frame
  exact ⟨h.side, h.other, ⟨dir, s.grp.inq, a, b, tph, s.sec.measDirty, by rw [ht]⟩, fun i hi => h.events.1 i fun hj => hi (hs hj),
    h.events.tables⟩

theorem State.NlStep.trans (h : State.NlStep up is s t n) (k : State.NlStep up is t u m) : State.NlStep up is s u m := by
  obtain ⟨dir, inq, a, b, tph, dirty, ht⟩ := h.frame
  obtain ⟨dir', inq', a', b', tph', dirty', hu⟩ := k.frame
  exact ⟨k.side, k.other.trans h.other, ⟨dir', inq', a', b', tph', dirty', by rw [hu, ht]⟩, fun i hi => (k.pars i hi).trans (h.pars i hi),
    k.tables.trans h.tables⟩

theorem State.NlStep.modSide (h : State.NlStep up is s t n) (f : NlSide → NlSide) : State.NlStep up is s (t.modSide up f) (f n) := by
  obtain ⟨dir, inq, a, b, tph, dirty, ht⟩ := h.frame
  obtain ⟨a', b', hm⟩ := t.modSide_eq up f
  refine ⟨(t.side_modSide_self up f).trans (congrArg f h.side), (t.side_modSide_other up f).trans h.other,
    ⟨dir, inq, a', b', tph, dirty, by rw [hm, ht]⟩, fun i hi => ?_, ?_⟩
  · exact (State.par_congr (by rw [hm]) i).trans (h.pars i hi)
  · rw [hm]
    exact h.tables

theorem State.NlStep.setOwn (h : State.NlStep up is s t n) {i : Nat} (v : Int) (hi : i ∈ is) (hc : Idx.DEV_CFGCOUNT ∈ is) :
    State.NlStep up is s (t.setOwn i v) n := by
  obtain ⟨dir, inq, a, b, tph, dirty, ht⟩ := h.frame
  obtain ⟨dir', dirty', hs⟩ := t.setOwn_blocks i v
  refine ⟨(State.side_congr (by rw [hs]) (by rw [hs]) _).trans h.side, (State.side_congr (by rw [hs]) (by rw [hs]) _).trans h.other,
    ⟨dir', inq, a, b, tph, dirty', by rw [hs, ht]⟩, fun j hj => ?_, (t.tables_setOwn i v).trans h.tables⟩
  have hne : i ≠ j := by
    rintro rfl
    exact hj hi
  have hcfg : j ≠ Idx.DEV_CFGCOUNT := by
    rintro rfl
    exact hj hc
  rw [State.par_setOwn t i j v hcfg, if_neg hne]
  exact h.pars j hj

theorem State.NlStep.inq (h : State.NlStep up is s t n) (q : List GMsg) : State.NlStep up is s { t with grp.inq := q } n := by
  obtain ⟨dir, inq, a, b, tph, dirty, ht⟩ := h.frame
  exact ⟨h.side, h.other, ⟨dir, q, a, b, tph, dirty, by rw [ht]⟩, fun i hi => h.pars i hi, h.tables⟩

/-- The side's view of the handover. -/
theorem State.SideStep.seeHandover {js : List Nat} (h : State.SideStep up js s t n) (flags : Nat) :
    ∃ e b, State.SideStep up js s (t.seeHandover up flags) { n with entering := e, handSeen := b } := by
  unfold State.seeHandover
  dsimp only
  split
  · exact ⟨0, false, h.modSide _⟩
  · split
    · exact ⟨_, true, ((h.modSide _).raise _ _ _ _).modSide _⟩
    · exact ⟨_, n.handSeen, h.modSide _⟩

/-- An acknowledged message is out of flight. -/
def State.ackMessage (s : State) (up : Bool) (no : Nat) : State :=
  match (s.side up).msg with
  | some m => if m.number = no then s.modSide up fun n => { n with msg := none } else s
  | none => s

/-- A fragment is collected. -/
def State.collect (s : State) (up : Bool) (bs : List Byte) (n : NlSide) : State :=
  if getU bs 72 1 = 0 ∨ getU bs 72 1 = n.ack then s
  else
    let i := getU bs 73 1 % 16
    let cnt := getU bs 73 1 / 16
    let len := getU bs 74 2
    let old := if getU bs 72 1 = n.inNo then n.inFrags.filter fun p => p.1 != i else []
    let fr := old ++ [(i, (bs.drop 80).take 44)]
    if fr.length < cnt then s.modSide up fun n => { n with inNo := getU bs 72 1, inFrags := fr }
    else
      let bytes := ((List.range cnt).flatMap fun k => match fr.find? fun p => p.1 == k with | some p => p.2 | none => []).take len
      let s := s.modSide up fun n => { n with inNo := getU bs 72 1, inFrags := [], ack := getU bs 72 1 }
      { s with grp.inq := s.grp.inq ++ [readGMsg (sideCode up) bytes] }

theorem State.takeFragment_eq (s : State) (up : Bool) (bs : List Byte) :
    s.takeFragment up bs = (s.ackMessage up (getU bs 76 1)).collect up bs (s.side up) := rfl

theorem State.NlStep.takeFragment (h : State.NlStep up is s t n) (bs : List Byte) :
    ∃ msg no fr ack, State.NlStep up is s (t.takeFragment up bs) { n with msg := msg, inNo := no, inFrags := fr, ack := ack } := by
  rw [State.takeFragment_eq]
  generalize t.side up = k
  obtain ⟨msg, h1⟩ : ∃ msg, State.NlStep up is s (t.ackMessage up (getU bs 76 1)) { n with msg := msg } := by
    unfold State.ackMessage
    split
    · split
      · exact ⟨none, h.modSide _⟩
      · exact ⟨n.msg, h⟩
    · exact ⟨n.msg, h⟩
  generalize t.ackMessage up (getU bs 76 1) = u at h1
  unfold State.collect
  split
  · exact ⟨msg, n.inNo, n.inFrags, n.ack, h1⟩
  · dsimp only
    generalize (if getU bs 72 1 = k.inNo then k.inFrags.filter fun p => p.1 != getU bs 73 1 % 16 else []) ++
      [(getU bs 73 1 % 16, (bs.drop 80).take 44)] = fr
    split
    · exact ⟨msg, getU bs 72 1, fr, n.ack, h1.modSide fun n => { n with inNo := getU bs 72 1, inFrags := fr }⟩
    · exact ⟨msg, getU bs 72 1, [], getU bs 72 1,
        (h1.modSide fun n => { n with inNo := getU bs 72 1, inFrags := [], ack := getU bs 72 1 }).inq _⟩

/-- A side's verification stands. -/
theorem State.sideVerified_congr {s t : State} {up : Bool} (hpar : ∀ i, t.par i = s.par i) (hlo : (t.side up).zlo = (s.side up).zlo)
    (hhi : (t.side up).zhi = (s.side up).zhi) : t.sideVerified up = s.sideVerified up := by
  unfold State.sideVerified
  dsimp only
  rw [hpar, hpar, hpar, hlo, hhi]

/-- The parameters that a frame can write. -/
abbrev nlPars (up : Bool) : List Nat :=
  [Idx.TPH_BUFDROPS, if up then Idx.SHF_GAPSUP else Idx.SHF_GAPSDN, if up then Idx.SHF_ZHI else Idx.SHF_ZLO, Idx.SHF_ZVER,
    Idx.DEV_CFGCOUNT]

theorem zoneEdge_mem_nlPars (up : Bool) : (if up then Idx.SHF_ZHI else Idx.SHF_ZLO) ∈ nlPars up := by
  simp only [List.mem_cons, true_or, or_true]

theorem zver_mem_nlPars (up : Bool) : Idx.SHF_ZVER ∈ nlPars up := by
  simp only [List.mem_cons, true_or, or_true]

theorem cfgcount_mem_nlPars (up : Bool) : Idx.DEV_CFGCOUNT ∈ nlPars up := by
  simp only [List.mem_cons, true_or, or_true]

/-- The own edge moves, and the zone version rises. -/
theorem State.NlStep.setEdge (h : State.NlStep up (nlPars up) s t n) (v : Int) : State.NlStep up (nlPars up) s (t.setEdge up v) n :=
  (h.setOwn v (zoneEdge_mem_nlPars up) (cfgcount_mem_nlPars up)).setOwn _ (zver_mem_nlPars up) (cfgcount_mem_nlPars up)

/-- The side's verification is taken anew. -/
def State.reverify (s : State) (up : Bool) : State := s.modSide up fun n => { n with verified := s.sideVerified up }

theorem State.NlStep.reverify (h : State.NlStep up is s t n) : ∃ v, State.NlStep up is s (t.reverify up) { n with verified := v } ∧
    t.sideVerified up = v ∧ (t.reverify up).sideVerified up = v := by
  have hself := t.side_modSide_self up fun n => { n with verified := t.sideVerified up }
  obtain ⟨a, b, hm⟩ := t.modSide_eq up fun n => { n with verified := t.sideVerified up }
  refine ⟨t.sideVerified up, h.modSide _, rfl, State.sideVerified_congr (fun i => State.par_congr ?_ i) ?_ ?_⟩
  · unfold State.reverify
    rw [hm]
  · exact (congrArg NlSide.zlo hself).trans rfl
  · exact (congrArg NlSide.zhi hself).trans rfl

theorem State.zoneMismatch_eq (s : State) (up : Bool) :
    s.zoneMismatch up = ((s.raise 0x0F09 4 (b2n up)).setEdge up (if up then s.normalExtents.1 else s.normalExtents.2)).reverify up := rfl

/-- A side found unverified ends as its check finds it. -/
theorem State.NlStep.zoneMismatch (h : State.NlStep up (nlPars up) s t n) :
    ∃ v, State.NlStep up (nlPars up) s (t.zoneMismatch up) { n with verified := v } ∧ (t.zoneMismatch up).sideVerified up = v := by
  have hstep : State.NlStep up (nlPars up) t (t.raise 0x0F09 4 (b2n up)) (t.side up) :=
    ((State.SideStep.refl up [] t).raise 0x0F09 4 (b2n up) []).toNl (by simp only [List.cons_subset, List.nil_subset, List.mem_cons, true_or, and_true])
  rw [h.side] at hstep
  rw [State.zoneMismatch_eq]
  obtain ⟨v, hv, -, hsame⟩ := ((h.trans hstep).setEdge _).reverify
  exact ⟨v, hv, hsame⟩

/-! ### A frame taken -/

/-- The pause before a frame is counted when it is too long. -/
def State.countGap (s : State) (up : Bool) (gap : Nat) : State :=
  if (s.side up).lastSeq.isSome ∧ 1500 < gap then s.bump (if up then Idx.SHF_GAPSUP else Idx.SHF_GAPSDN) else s

/-- A side after the data of a frame. -/
def NlSide.heard (n : NlSide) (bs : List Byte) : NlSide :=
  { n with
    lastSeq := some (getU bs 1 1), receiving := true, goodN := if (getU bs 3 1).testBit 0 then n.goodN + 1 else 0
    miswired := false, flags := getU bs 3 1, pos := getS bs 8 4, speed := getS bs 12 4, un := getS bs 16 4, ln := getS bs 20 4
    zlo := getS bs 24 4, zhi := getS bs 28 4, zver := getU bs 32 4 }

/-- A side whose verification fell away. -/
def State.checkZone (s : State) (up was : Bool) (v : Bool) : State := if (s.side up).good ∧ was ∧ !v then s.zoneMismatch up else s

theorem State.nlTake_eq (s : State) (up : Bool) (bs : List Byte) (gap : Nat) :
    s.nlTake up bs gap = (let u := (((s.countGap up gap).modSide up fun n => n.heard bs).seeHandover up (getU bs 3 1)).takeFragment up bs
      ((u.reverify up).checkZone up (s.side up).verified (u.sideVerified up)).handoverDone) := rfl

theorem State.NlStep.checkZone (h : State.NlStep up (nlPars up) s t n) (was v : Bool) (hv : t.sideVerified up = n.verified) :
    ∃ w, State.NlStep up (nlPars up) s (t.checkZone up was v) { n with verified := w } ∧ (t.checkZone up was v).sideVerified up = w := by
  unfold State.checkZone
  split
  · exact h.zoneMismatch
  · exact ⟨n.verified, h, hv⟩

/-- The device handles no handover, so a complete one cannot be. -/
theorem State.handoverDone_none {s : State} (h : s.shf.handover = none) : s.handoverDone = s :=
  if_pos (.inl (by rw [h]; rfl))

theorem gaps_noConfig : ∀ up : Bool, isConfig (if up then Idx.SHF_GAPSUP else Idx.SHF_GAPSDN) = false := by decide +kernel

/-- What a frame of the expected car does to a side that has no handover under way. -/
theorem State.nlTake_step (s : State) (up : Bool) (bs : List Byte) (gap : Nat) (hh : s.shf.handover = none) :
    ∃ e b msg no fr ack v, State.NlStep up (nlPars up) s (s.nlTake up bs gap)
      { (s.side up).heard bs with entering := e, handSeen := b, msg := msg, inNo := no, inFrags := fr, ack := ack, verified := v } ∧
      (s.nlTake up bs gap).sideVerified up = v := by
  have hgap : State.SideStep up [if up then Idx.SHF_GAPSUP else Idx.SHF_GAPSDN] s (s.countGap up gap) (s.side up) := by
    unfold State.countGap
    by_cases hlate : (s.side up).lastSeq.isSome ∧ 1500 < gap
    · rw [if_pos hlate]
      exact (State.SideStep.refl up _ s).bump 1 (List.mem_singleton_self _) (gaps_noConfig up)
    · rw [if_neg hlate]
      exact .refl up _ s
  obtain ⟨e, b, hsee⟩ := (hgap.modSide fun n => n.heard bs).seeHandover (getU bs 3 1)
  obtain ⟨msg, no, fr, ack, hfrag⟩ := (hsee.toNl (is := nlPars up) (by
    simp only [List.cons_subset, List.nil_subset, List.mem_cons, true_or, or_true, and_true])).takeFragment bs
  rw [State.nlTake_eq]
  dsimp only
  generalize ((((s.countGap up gap).modSide up fun n => n.heard bs).seeHandover up (getU bs 3 1)).takeFragment up bs) = u at hfrag
  obtain ⟨v, hv, -, hsame⟩ := hfrag.reverify
  obtain ⟨w, hw, hsame'⟩ := hv.checkZone (s.side up).verified (u.sideVerified up) hsame
  generalize (u.reverify up).checkZone up (s.side up).verified (u.sideVerified up) = x at hw hsame'
  have hx : x.shf.handover = none := by
    obtain ⟨dir, inq, a, c, tph, dirty, hx⟩ := hw.frame
    rw [hx]
    exact hh
  rw [State.handoverDone_none hx]
  exact ⟨e, b, msg, no, fr, ack, w, hw, hsame'⟩

end

/-- A channel has seen a neighbour whose two sections agree with their checks. -/
theorem State.chanView_good (s : State) (up : Bool) (bs : List Byte) (c : SafCh) (hcrc : nlCrcGood bs true = true)
    (h40 : sectionGood bs 40 up = true) (h56 : sectionGood bs 56 up = true) :
    (if up then (s.chanView up bs true c).above.got else (s.chanView up bs true c).below.got) = some s.pwr.opTime ∧
      (if up then (s.chanView up bs true c).above.hi else (s.chanView up bs true c).below.hi) = max (getS bs 40 4) (getS bs 56 4) ∧
      (if up then (s.chanView up bs true c).above.lo else (s.chanView up bs true c).below.lo) = min (getS bs 44 4) (getS bs 60 4) := by
  have htake (n : SafNbr) (now : Nat) (hi lo : Int) :
      (n.take now hi lo).got = some now ∧ (n.take now hi lo).hi = hi ∧ (n.take now hi lo).lo = lo := by
    unfold SafNbr.take
    dsimp only
    split
    · split <;> exact ⟨rfl, rfl, rfl⟩
    · exact ⟨rfl, rfl, rfl⟩
  have hview (n : SafNbr) : s.viewed up bs true n =
      n.take s.pwr.opTime (max (getS bs 40 4) (getS bs 56 4)) (min (getS bs 44 4) (getS bs 60 4)) := by
    unfold State.viewed
    rw [hcrc, h40, h56]
    rfl
  unfold State.chanView
  cases up
  · simp only [Bool.false_eq_true, if_false, hview]
    exact htake _ _ _ _
  · simp only [if_true, hview]
    exact htake _ _ _ _

theorem neighbourFrame_good (s : State) (up : Bool) (gap : Nat) (bs : List Byte) (he : s.engines = true) (hon : s.sideOn up = true)
    (hcrc : nlCrcGood bs true = true) (hseq : (s.side up).lastSeq ≠ some (getU bs 1 1)) (hname : s.nlNamed up bs = true)
    (hh : s.shf.handover = none) :
    ∃ t, exec (.neighbourFrame up bs true gap) s = .next t ∧ (t.side up).lastSeq = some (getU bs 1 1) ∧
      (t.side up).receiving = true ∧ (t.side up).flags = getU bs 3 1 ∧ (t.side up).pos = getS bs 8 4 ∧
      (t.side up).speed = getS bs 12 4 ∧ (t.side up).un = getS bs 16 4 ∧ (t.side up).ln = getS bs 20 4 ∧
      (t.side up).zlo = getS bs 24 4 ∧ (t.side up).zhi = getS bs 28 4 ∧ (t.side up).zver = getU bs 32 4 ∧
      (t.side up).goodN = (if (getU bs 3 1).testBit 0 then (s.side up).goodN + 1 else 0) ∧
      (t.side up).verified = t.sideVerified up ∧ (t.side up).good = (s.side up).good ∧
      (sectionGood bs 40 up = true → sectionGood bs 56 up = true → ∀ isA,
        (if up then (t.chan isA).above.got else (t.chan isA).below.got) = some s.pwr.opTime ∧
        (if up then (t.chan isA).above.hi else (t.chan isA).below.hi) = max (getS bs 40 4) (getS bs 56 4) ∧
        (if up then (t.chan isA).above.lo else (t.chan isA).below.lo) = min (getS bs 44 4) (getS bs 60 4)) ∧
      t.side (!up) = s.side (!up) ∧ s.TablesKept t ∧ s.ParsKept t (nlPars up) ∧
      t = { s with dir := t.dir, grp.inq := t.grp.inq, saf.chA := t.saf.chA, saf.chB := t.saf.chB, shf.up := t.shf.up,
                   shf.dn := t.shf.dn, tph := t.tph, sec.measDirty := t.sec.measDirty } := by
  have hex := exec_neighbourFrame (coded := true) (gap := gap) (bs := bs) he hon
  have hname' : (s.safNeighbour up bs true).nlNamed up bs = true := hname
  rw [State.side_safNeighbour, if_neg (by simp [hcrc, hseq]), hname', if_pos rfl] at hex
  obtain ⟨e, b, msg, no, fr, ack, v, hstep, hv⟩ := (s.safNeighbour up bs true).nlTake_step up bs gap hh
  rw [State.side_safNeighbour] at hstep
  have hother := hstep.other.trans (s.side_safNeighbour up true (!up) bs)
  have hchan := s.chan_safNeighbour up bs true
  have hview := s.safNeighbour_eq up bs true
  generalize (s.safNeighbour up bs true).nlTake up bs gap = t at *
  have hside := hstep.side
  obtain ⟨dir, inq, a, c, tph, dirty, ht⟩ := hstep.frame
  have htchan (isA : Bool) : t.chan isA = s.chanView up bs true (s.chan isA) :=
    (State.chan_congr (by rw [ht]) (by rw [ht]) isA).trans (hchan isA)
  refine ⟨t, hex, by rw [hside]; rfl, by rw [hside]; rfl, by rw [hside]; rfl, by rw [hside]; rfl, by rw [hside]; rfl, by rw [hside]; rfl,
    by rw [hside]; rfl, by rw [hside]; rfl, by rw [hside]; rfl, by rw [hside]; rfl, by rw [hside]; rfl, by rw [hside, hv],
    by rw [hside]; rfl, fun h40 h56 isA => ?_, hother, ?_, ?_, ?_⟩
  · rw [htchan]
    exact s.chanView_good up bs _ hcrc h40 h56
  · exact State.tablesKept_of (hstep.tables.trans (by rw [hview]))
  · exact fun i hi => (hstep.pars i hi).trans (State.par_congr (by rw [hview]) i)
  · rw [ht, hview]

end Sys2Proof.Machine
end

section
/-!
PROOFS. Loss and return of a neighbour link, and repeated zone requests (16 R409, R418 to R424).
-/
namespace Sys2Proof.Machine

/-! ## Loss and return of a link (16 R409, R421 to R424) -/

/-- A side whose frames have ended. -/
def NlSide.silent (n : NlSide) (us : Nat) : NlSide :=
  { n with good := false, goodN := 0, receiving := n.receiving && decide (us < 2500), dormant := n.dormant || n.handSeen }

/-- A moving car stops for the lost link. -/
def State.stopForLoss (s : State) : State :=
  if s.hst.released ∧ !s.refRest then ({ s with shf.lossStop := true } : State).addCause 5 else s

/-- A lost link is recorded and counted. -/
def State.loseLink (s : State) (up : Bool) : State :=
  ((s.raise 0x0F02 4 (b2n up)).bump Idx.SHF_LOSSES).modSide up fun n => { n with lost := true }

theorem exec_shfLinkLost {s : State} {up : Bool} {us : Nat} (he : s.engines = true) (hon : s.sideOn up = true)
    (hgood : (s.side up).good = true) (hus : 2500 ≤ us) :
    exec (.shfLinkLost up us) s = .next (
      if (s.side up).handSeen ∨ !(s.side up).good then s.modSide up fun n => n.silent us
      else ((s.modSide up fun n => n.silent us).loseLink up).stopForLoss) := by
  refine (occurs_pos (by simp [he, hon, hgood, hus])).trans (congrArg _ ?_)
  exact if_congr Iff.rfl (State.modSide_congr rfl) (congrArg (fun x => (State.loseLink x up).stopForLoss) (State.modSide_congr rfl))

theorem losses_noConfig : isConfig Idx.SHF_LOSSES = false := by decide +kernel

theorem losses_top : (paramInfo Idx.SHF_LOSSES).map (fun r => r.hi) = some (2 ^ 32 - 1) := by decide +kernel

theorem losses_ne_bufdrops : Idx.SHF_LOSSES ≠ Idx.TPH_BUFDROPS := by decide

theorem losses_kept : Idx.TPH_RECSEV ∉ Idx.TPH_BUFDROPS :: [Idx.SHF_LOSSES] := by decide

theorem State.stopForLoss_facts (s : State) : ∃ causes b, s.stopForLoss = { s with hst.causes := causes, shf.lossStop := b } ∧
    (s.hst.released = true → s.refRest = false → causes.testBit 5 = true ∧ b = true) := by
  unfold State.stopForLoss
  split
  · exact ⟨_, true, rfl, fun _ _ => ⟨by rw [testBit_setBit, if_pos rfl], rfl⟩⟩
  · rename_i h
    exact ⟨_, _, rfl, fun hr hm => absurd ⟨hr, by rw [hm]; rfl⟩ h⟩

theorem shfLinkLost_loses (s : State) (up : Bool) (us : Nat) (he : s.engines = true) (hon : s.sideOn up = true)
    (hgood : (s.side up).good = true) (hus : 2500 ≤ us) :
    ∃ t, exec (.shfLinkLost up us) s = .next t ∧ (t.side up).good = false ∧ (t.side up).goodN = 0 ∧
    (t.side up).receiving = false ∧
      ((s.side up).handSeen = false → (t.side up).lost = true ∧ s.Records t 0x0F02 4 (b2n up) ∧
        t.par Idx.SHF_LOSSES = min (s.par Idx.SHF_LOSSES + 1) (2 ^ 32 - 1) ∧
        (s.hst.released = true → s.refRest = false → t.hst.causes.testBit 5 = true ∧ t.shf.lossStop = true)) ∧
      ((s.side up).handSeen = true → (t.side up).dormant = true ∧ (t.side up).lost = (s.side up).lost ∧ t.hst = s.hst) ∧
      t.side (!up) = s.side (!up) ∧ s.EventsOnly t [Idx.SHF_LOSSES] ∧
      t = { s with dir := t.dir, hst.causes := t.hst.causes, shf.up := t.shf.up, shf.dn := t.shf.dn,
                   shf.lossStop := t.shf.lossStop,
                   tph := t.tph } := by
  have hex := exec_shfLinkLost he hon hgood hus
  have hsil := (State.SideStep.refl up [Idx.SHF_LOSSES] s).modSide fun n => n.silent us
  have hquiet := ((State.SideStep.refl up [] s).modSide fun n => n.silent us).events
  have hrecv : ((s.side up).receiving && decide (us < 2500)) = false := by
    rw [decide_eq_false (by omega), Bool.and_false]
  cases hseen : (s.side up).handSeen with
  | true =>
    rw [hseen, if_pos (.inl rfl)] at hex
    generalize (s.modSide up fun n => n.silent us) = t at *
    obtain ⟨dir, a, b, tph, ht⟩ := hsil.frame
    refine ⟨t, hex, by rw [hsil.side]; rfl, by rw [hsil.side]; rfl, by rw [hsil.side]; exact hrecv, fun h => Bool.noConfusion h,
      fun _ => ⟨?_, by rw [hsil.side]; rfl, by rw [ht]⟩, hsil.other, hsil.events, by rw [ht]⟩
    rw [hsil.side]
    exact (congrArg _ hseen).trans (Bool.or_true _)
  | false =>
    rw [hseen, hgood, if_neg (by simp)] at hex
    generalize (s.modSide up fun n => n.silent us) = u at *
    have hlost : State.SideStep up [Idx.SHF_LOSSES] s (u.loseLink up) { (s.side up).silent us with lost := true } :=
      ((hsil.raise _ _ _ _).bump 1 (List.mem_singleton_self _) losses_noConfig).modSide _
    have hpar : (u.loseLink up).par Idx.SHF_LOSSES = min (s.par Idx.SHF_LOSSES + 1) (2 ^ 32 - 1) := by
      have hmod : (u.loseLink up).par Idx.SHF_LOSSES = ((u.raise 0x0F02 4 (b2n up)).bump Idx.SHF_LOSSES).par Idx.SHF_LOSSES := by
        cases up <;> rfl
      rw [hmod, State.par_bump_top _ losses_noConfig losses_top, State.par_raise _ _ _ _ _ _ losses_ne_bufdrops,
        hquiet.1 _ fun h => losses_ne_bufdrops (List.mem_singleton.mp h)]
      rfl
    have hrec : s.Records (u.loseLink up) 0x0F02 4 (b2n up) := by
      have hraise : s.Records (u.raise 0x0F02 4 (b2n up)) 0x0F02 4 (b2n up) := hsil.records losses_kept _
      exact hraise.mono (by simp [State.loseLink])
    generalize u.loseLink up = v at *
    obtain ⟨causes, b, hv, hstop⟩ := v.stopForLoss_facts
    obtain ⟨dir, a, c, tph, ht⟩ := hlost.frame
    rw [hv] at hex
    refine ⟨_, hex, ?_, ?_, ?_, fun _ => ⟨?_, hrec, hpar, ?_⟩, fun h => Bool.noConfusion h, hlost.other, hlost.events, by rw [ht]⟩
    · exact (congrArg NlSide.good hlost.side).trans rfl
    · exact (congrArg NlSide.goodN hlost.side).trans rfl
    · exact (congrArg NlSide.receiving hlost.side).trans hrecv
    · exact (congrArg NlSide.lost hlost.side).trans rfl
    · rw [ht] at hstop
      exact hstop

/-! ### The link made good again -/

/-- The link is good again and verified. -/
def NlSide.restored (n : NlSide) : NlSide := { n with good := true, dormant := false, handSeen := false, entering := 0, verified := true }

/-- The first time since START, the link is reported up. -/
def State.reportUp (s : State) (up was : Bool) : State :=
  if was then s else (s.raise 0x0F01 2 (b2n up)).modSide up fun n => { n with wasGood := true }

/-- The end of a loss is recorded. -/
def State.reportBack (s : State) (up was : Bool) : State :=
  if was ∧ (s.side up).verified then (s.raise 0x0F03 2 (b2n up)).modSide up fun n => { n with lost := false } else s

theorem exec_shfLinkRestored {s : State} {up : Bool} (he : s.engines = true) (hon : s.sideOn up = true)
    (h50 : 50 ≤ (s.side up).goodN) (hgood : (s.side up).good = false) (hver : s.sideVerified up = true) :
    exec (.shfLinkRestored up) s = .next
      (((s.modSide up NlSide.restored).reportUp up (s.side up).wasGood).reportBack up (s.side up).lost) := by
  refine (occurs_pos (by simp [he, hon, hgood, h50])).trans (congrArg _ ?_)
  rw [hver]
  rfl

variable {up : Bool} {is : List Nat} {s t : State} {n : NlSide}

theorem State.SideStep.reportUp (h : State.SideStep up [] s t n) {was : Bool} (hwas : n.wasGood = was) :
    State.SideStep up [] s (t.reportUp up was) { n with wasGood := true } ∧
      (was = false → s.Records (t.reportUp up was) 0x0F01 2 (b2n up)) := by
  unfold State.reportUp
  cases was with
  | true =>
    rw [if_pos rfl]
    rw [show ({ n with wasGood := true } : NlSide) = n by rw [← hwas]]
    exact ⟨h, fun hf => Bool.noConfusion hf⟩
  | false =>
    rw [if_neg Bool.false_ne_true]
    have hraise := h.raise 0x0F01 2 (b2n up) []
    have hrec : s.Records (t.raise 0x0F01 2 (b2n up)) 0x0F01 2 (b2n up) := h.records recsev_no_list _
    exact ⟨hraise.modSide _, fun _ => hrec.mono (by simp)⟩

theorem State.SideStep.reportBack (h : State.SideStep up [] s t n) (hver : n.verified = true) {was : Bool} (hwas : n.lost = was) :
    State.SideStep up [] s (t.reportBack up was) { n with lost := false } ∧
      (was = true → s.Records (t.reportBack up was) 0x0F03 2 (b2n up)) := by
  unfold State.reportBack
  rw [h.side]
  cases was with
  | true =>
    rw [if_pos ⟨rfl, hver⟩]
    have hraise := h.raise 0x0F03 2 (b2n up) []
    have hrec : s.Records (t.raise 0x0F03 2 (b2n up)) 0x0F03 2 (b2n up) := h.records recsev_no_list _
    exact ⟨hraise.modSide _, fun _ => hrec.mono (by simp)⟩
  | false =>
    rw [if_neg (by simp)]
    rw [show ({ n with lost := false } : NlSide) = n by rw [← hwas]]
    exact ⟨h, fun hf => Bool.noConfusion hf⟩

theorem shfLinkRestored_restores (s : State) (up : Bool) (he : s.engines = true) (hon : s.sideOn up = true)
    (h50 : 50 ≤ (s.side up).goodN) (hgood : (s.side up).good = false) (hver : s.sideVerified up = true) :
    ∃ t, exec (.shfLinkRestored up) s = .next t ∧
      t.side up = { s.side up with good := true, dormant := false, handSeen := false, entering := 0, verified := true,
                                   wasGood := true, lost := false } ∧
      ((s.side up).wasGood = false → s.Records t 0x0F01 2 (b2n up)) ∧ ((s.side up).lost = true → s.Records t 0x0F03 2 (b2n up)) ∧
      t.side (!up) = s.side (!up) ∧ s.EventsOnly t [] ∧
      t = { s with dir := t.dir, shf.up := t.shf.up, shf.dn := t.shf.dn, tph := t.tph } := by
  have hex := exec_shfLinkRestored he hon h50 hgood hver
  obtain ⟨hup, hrecUp⟩ := ((State.SideStep.refl up [] s).modSide NlSide.restored).reportUp (was := (s.side up).wasGood) rfl
  generalize (s.modSide up NlSide.restored).reportUp up (s.side up).wasGood = u at *
  have hback (was : Bool) : State.SideStep up [] u (u.reportBack up was) ((u.reportBack up was).side up) := by
    unfold State.reportBack
    split
    · exact (((State.SideStep.refl up [] u).raise _ _ _ _).modSide _).side ▸ ((State.SideStep.refl up [] u).raise _ _ _ _).modSide _
    · exact .refl up [] u
  obtain ⟨hall, hrecBack⟩ := hup.reportBack rfl (was := (s.side up).lost) rfl
  obtain ⟨dir, a, b, tph, ht⟩ := hall.frame
  exact ⟨_, hex, hall.side, fun h => (hback _).recorded (hrecUp h), hrecBack, hall.other, hall.events, by rw [ht]⟩

/-! ## A zone request repeated (16 R418) -/

theorem State.freeGroup_lt {s : State} {g : Nat} (hg : s.freeGroup = some g) : g < 8 := by
  unfold State.freeGroup at hg
  split at hg
  · rename_i x hx
    obtain rfl := Option.some.inj hg
    exact List.mem_range.mp (List.mem_of_find?_eq_some hx)
  · exact List.mem_range.mp (List.mem_of_find?_eq_some hg)

/-- Messages are only queued. -/
theorem State.groups_foldl_sendGroup {α : Type} (k : State → α → GMsg) (ps : List α) (s : State) :
    ∃ out, ps.foldl (fun s p => s.sendGroup (k s p)) s = { s with grp.out := out } := by
  induction ps generalizing s with
  | nil => exact ⟨s.grp.out, rfl⟩
  | cons p ps ih =>
    obtain ⟨out, h⟩ := ih (s.sendGroup (k s p))
    exact ⟨out, h⟩

/-- A group prepared across devices: it waits for the votes. -/
theorem State.sendPrepare_facts (s : State) {g : Nat} (hl : g < s.grp.groups.length) :
    ((s.sendPrepare g).group g).state = 2 ∧ ((s.sendPrepare g).group g).cross = (s.group g).cross ∧
      ((s.sendPrepare g).group g).acts = (s.group g).acts ∧ s.sendPrepare g = { s with grp := (s.sendPrepare g).grp } := by
  have hself := s.group_modGroup_self (fun x => { x with state := 2, t0 := s.rng.time, lastSent := s.rng.time, order := s.grp.nextOrder }) hl
  unfold State.sendPrepare
  dsimp only
  generalize hu : (s.modGroup g fun x =>
    { x with state := 2, t0 := s.rng.time, lastSent := s.rng.time, order := s.grp.nextOrder }) = u at *
  generalize hparts : (({ u with grp.nextOrder := u.grp.nextOrder + 1 } : State).group g) = x
  obtain ⟨out, ho⟩ := State.groups_foldl_sendGroup
    (fun s (p : Nat × Nat) => { s.groupMsg g 1 p.2 with acts := actsFor (p.1 + 1) x.acts }) ((List.range x.parts.length).zip x.parts)
    { u with grp.nextOrder := u.grp.nextOrder + 1 }
  rw [ho]
  refine ⟨(congrArg Group.state hself).trans rfl, (congrArg Group.cross hself).trans rfl, (congrArg Group.acts hself).trans rfl, ?_⟩
  rw [← hu]
  rfl

theorem State.openInternal_cross {s : State} {g : Nat} (hg : s.freeGroup = some g) (hlen : s.grp.groups.length = 8) (owner : GOwner)
    (p : Nat) (ps : List Nat) (acts : List Act) (key : Nat) :
    ∃ u, s.openInternal owner (p :: ps) acts key = some (g, u) ∧ (u.group g).state = 2 ∧ (u.group g).cross = true ∧
      (u.group g).acts = acts ∧ u = { s with grp := u.grp } := by
  have hlt := State.freeGroup_lt hg
  have h1 : ((s.allocGroup g owner true (p :: ps)).group g).cross = true :=
    (congrArg Group.cross (s.group_modGroup_self _ (by omega))).trans rfl
  have hl1 : g < (s.allocGroup g owner true (p :: ps)).grp.groups.length := by
    unfold State.allocGroup
    rw [State.length_modGroup]
    omega
  have hf : s.allocGroup g owner true (p :: ps) = { s with grp := (s.allocGroup g owner true (p :: ps)).grp } := rfl
  unfold State.openInternal
  rw [hg]
  dsimp only
  rw [if_neg (by simp), show (!(p :: ps).isEmpty) = true from rfl]
  generalize s.allocGroup g owner true (p :: ps) = u at *
  have h2 := u.group_modGroup_self (fun x => { x with acts := acts, key := key }) hl1
  have hl2 : g < (u.modGroup g fun x => { x with acts := acts, key := key }).grp.groups.length := by
    rw [State.length_modGroup]
    exact hl1
  have hf2 : (u.modGroup g fun x => { x with acts := acts, key := key }) =
    { u with grp := (u.modGroup g fun x => { x with acts := acts, key := key }).grp } := rfl
  generalize (u.modGroup g fun x => { x with acts := acts, key := key }) = v at *
  obtain ⟨hst, hcross, hacts, hframe⟩ := v.sendPrepare_facts hl2
  refine ⟨_, rfl, hst, hcross.trans ((congrArg Group.cross h2).trans h1), hacts.trans ((congrArg Group.acts h2).trans rfl), ?_⟩
  rw [hframe, hf2, hf]

/-- A zone request repeated. -/
def State.repeatRequest (s : State) (q : ZoneReq) : State :=
  if s.hst.zoneTarget = some q.target then
    if (s.side q.up).good ∧ (s.side q.up).verified then s.zoneRequest q.target q.up q.edge
    else { s with shf.request := some { q with at_ := s.pwr.opTime } }
  else { s with shf.request := none }

theorem exec_zoneRequestRepeat {s : State} {q : ZoneReq} (he : s.engines = true) (hq : s.shf.request = some q) (hg : q.group = none)
    (hd : q.done = false) (hat : q.at_ + 1000 ≤ s.pwr.opTime) : exec .zoneRequestRepeat s = .next (s.repeatRequest q) := by
  refine (occurs_pos (by rw [he, hq]; simp [hg, hd, hat])).trans (congrArg _ ?_)
  rw [hq]
  rfl

theorem State.zoneRequest_eq (s : State) (t : Tgt) (up : Bool) (edge : Int) :
    s.zoneRequest t up edge = { s with grp := (s.zoneRequest t up edge).grp, shf.request := (s.zoneRequest t up edge).shf.request } := by
  unfold State.zoneRequest
  dsimp only
  split
  · rfl
  · rename_i h
    rw [State.openInternal_some h]

theorem zoneRequestRepeat_repeats (s : State) (q : ZoneReq) (he : s.engines = true) (hq : s.shf.request = some q) (hg : q.group = none)
    (hd : q.done = false) (hat : q.at_ + 1000 ≤ s.pwr.opTime) :
    ∃ t, exec .zoneRequestRepeat s = .next t ∧
      (s.hst.zoneTarget ≠ some q.target → t = { s with shf.request := none }) ∧
      (s.hst.zoneTarget = some q.target → (s.side q.up).good = false ∨ (s.side q.up).verified = false →
        t = { s with shf.request := some { q with at_ := s.pwr.opTime } }) ∧
      (∀ g, s.hst.zoneTarget = some q.target → (s.side q.up).good = true → (s.side q.up).verified = true → s.freeGroup = some g →
        s.grp.groups.length = 8 →
        t.shf.request = some { q with group := some g, at_ := s.pwr.opTime } ∧ (t.group g).state = 2 ∧ (t.group g).cross = true ∧
          (t.group g).acts.map (fun a => (a.part, a.kind, a.body)) =
            [(1, 0x11, zoneBody 1 (if q.up then 0 else 1) (if q.up then q.edge + s.par Idx.SHF_GAP1 else q.edge - s.par
            Idx.SHF_GAP1)),
             (0, 0x11, zoneBody 0 (if q.up then 1 else 0) q.edge)]) ∧
      t = { s with grp := t.grp, shf.request := t.shf.request } := by
  have hex := exec_zoneRequestRepeat he hq hg hd hat
  refine ⟨_, hex, fun hne => if_neg hne, fun heq hbad => (if_pos heq).trans (if_neg fun h => ?_), fun g heq hgood hver hfree hlen => ?_, ?_⟩
  · rw [h.1, h.2] at hbad
    exact hbad.elim Bool.noConfusion Bool.noConfusion
  · have hrep : s.repeatRequest q = s.zoneRequest q.target q.up q.edge := (if_pos heq).trans (if_pos ⟨hgood, hver⟩)
    rw [hrep]
    obtain ⟨u, hopen, hst, hcross, hacts, hu⟩ := State.openInternal_cross hfree hlen .shf (if q.up then 0xFC01 else 0xFC02) []
      [{ part := 1, kind := 0x11, vers := []
         body := zoneBody 1 (if q.up then 0 else 1) (if q.up then q.edge + s.par Idx.SHF_GAP1 else q.edge - s.par Idx.SHF_GAP1) },
       { part := 0, kind := 0x11, body := zoneBody 0 (if q.up then 1 else 0) q.edge, vers := [s.parN Idx.SHF_ZVER] }] 0
    have hreq : s.zoneRequest q.target q.up q.edge =
        { u with shf.request := some ⟨q.up, q.target, q.edge, some g, u.pwr.opTime, false⟩ } := by
      unfold State.zoneRequest
      dsimp only
      rw [hopen]
    rw [hreq]
    refine ⟨?_, hst, hcross, ?_⟩
    · rw [hu]
      exact congrArg (fun d => some (⟨q.up, q.target, q.edge, some g, s.pwr.opTime, d⟩ : ZoneReq)) hd.symm
    · exact (congrArg (List.map _) hacts).trans rfl
  · unfold State.repeatRequest
    split
    · split
      · exact s.zoneRequest_eq _ _ _
      · rfl
    · rfl

/-- Settles O40: a frame passes its receiver's checks byte by byte; a good frame and the state of a side are followed step by step. -/
theorem neighboursAreExchanged : Obligations.NeighboursAreExchanged :=
  ⟨neighbourFrameSend_sends, messageRepeat_restarts, neighbourFrame_bad, neighbourFrame_miswired, neighbourFrame_good, shfLinkLost_loses,
    shfLinkRestored_restores, zoneRequestRepeat_repeats⟩

end Sys2Proof.Machine
end

section
/-!
PROOFS. The calendar, its writes and its trim (18 R446 to R460).
-/
namespace Sys2Proof.Machine

/-! ## The next second (18 R447) -/

/-- Within a day the time of day is one second later. -/
theorem Calendar.next_within_day {c : Calendar} (hv : c.valid = true) (h : ¬c.DayEnds) :
    c.next.2 = false ∧
      3600 * c.next.1.hour + 60 * c.next.1.minute + c.next.1.second = 3600 * c.hour + 60 * c.minute + c.second + 1 := by
  obtain ⟨-, -, -, hh, hm, hs⟩ := c.valid_iff.mp hv
  unfold Calendar.next
  split
  · exact ⟨rfl, by dsimp only; omega⟩
  split
  · exact ⟨rfl, by dsimp only; omega⟩
  split
  · exact ⟨rfl, by dsimp only; omega⟩
  · exact absurd ⟨by omega, by omega, by omega⟩ h

theorem Calendar.nextDay_midnight (c : Calendar) : c.nextDay.1.hour = 0 ∧ c.nextDay.1.minute = 0 ∧ c.nextDay.1.second = 0 := by
  unfold Calendar.nextDay
  (repeat' split) <;> exact ⟨rfl, rfl, rfl⟩

theorem Calendar.secs_next {c : Calendar} (hv : c.valid = true) (h : c.next.2 = false) : c.next.1.secs = c.secs + 1 := by
  by_cases hend : c.DayEnds
  · rw [Calendar.next_of_dayEnds hend] at h ⊢
    obtain ⟨hh, hm, hs⟩ := c.nextDay_midnight
    obtain ⟨eh, em, es⟩ := hend
    unfold Calendar.secs
    rw [Calendar.days_nextDay hv h, hh, hm, hs, eh, em, es]
    omega
  · obtain ⟨hy, hm, hd⟩ := Calendar.next_date_of_not_dayEnds hv hend
    have htime := (Calendar.next_within_day hv hend).2
    unfold Calendar.secs Calendar.days
    rw [hy, hm, hd]
    omega

/-- The count wraps after 2199-12-31 23:59:59 and only there. -/
theorem Calendar.next_wraps_iff {c : Calendar} (hv : c.valid = true) :
    c.next.2 = true ↔ c = { year := 2199, month := 12, day := 31, hour := 23, minute := 59, second := 59 } := by
  refine ⟨fun h => ?_, fun h => by rw [h]; rfl⟩
  by_cases hend : c.DayEnds
  · rw [Calendar.next_of_dayEnds hend] at h
    unfold Calendar.nextDay at h
    obtain ⟨⟨-, hy⟩, ⟨-, hm⟩, ⟨-, hd⟩, -⟩ := c.valid_iff.mp hv
    split at h
    · cases h
    split at h
    · cases h
    split at h
    · cases h
    · next hday hmonth hyear =>
      obtain ⟨eh, em, es⟩ := hend
      have ey : c.year = 2199 := by omega
      have emo : c.month = 12 := by omega
      have ed : c.day = 31 := by
        have h31 : mdays c.year 12 = 31 := rfl
        rw [emo] at hday hd
        omega
      cases c
      simp_all
  · rw [(Calendar.next_within_day hv hend).1] at h
    cases h

/-! ## A second is counted (18 R447, R449, R453, R460) -/

theorem State.queueTime_eq (s : State) (b : Nat) : ∃ c0 c1, s.queueTime b = { s with can0 := c0, can1 := c1 } := by
  unfold State.queueTime
  split
  · exact ⟨s.can0, s.can1, rfl⟩
  · exact s.modCan_eq b _

theorem State.latchWake_eq (s : State) (m r : Nat) : ∃ latch, s.latchWake m r = { s with pwr.wakeLatch := latch } := by
  unfold State.latchWake
  split
  · exact ⟨_, rfl⟩
  · exact ⟨s.pwr.wakeLatch, rfl⟩

/-- What the alarm of a second can change. -/
structure State.Alarmed (s t : State) : Prop where
  frame : ∃ latch evts dir p told tph, t = { s with
    pwr.wakeLatch := latch, pwr.startEvts := evts, dir := dir, rtc.alarmPending := p, rtc.alarmTold := told, tph := tph }
  events : s.EventsOnly t []

theorem State.alarmed_raise (s : State) : s.Alarmed (({ s with rtc.alarmPending := true } : State).raise 0x1103 1) := by
  obtain ⟨dir, tph, hr, -⟩ := ({ s with rtc.alarmPending := true } : State).raise_eq 0x1103 1 0xFF []
  exact ⟨⟨_, _, dir, true, _, tph, by rw [hr]⟩, (State.EventsOnly.of_eq [] rfl rfl).raise _ _ _ _⟩

theorem State.rtcAlarm_alarmed (s : State) : s.Alarmed s.rtcAlarm := by
  unfold State.rtcAlarm
  split
  · exact ⟨⟨_, _, _, _, _, _, rfl⟩, .refl s []⟩
  · dsimp only
    split
    · split
      · exact s.alarmed_raise
      · obtain ⟨latch, hl⟩ := ({ s with rtc.alarmPending := true } : State).latchWake_eq 6 6
        rw [hl]
        exact ⟨⟨latch, _, _, true, false, _, rfl⟩, .of_eq [] rfl rfl⟩
    · exact ⟨⟨_, _, _, true, _, _, rfl⟩, .of_eq [] rfl rfl⟩
    · exact ⟨⟨_, _, _, true, _, _, rfl⟩, .of_eq [] rfl rfl⟩
    · exact s.alarmed_raise

/-- The count of a second. -/
def State.countSecond (s : State) : State :=
  let rest := s.rtc.frac - 125
  { s with rtc.cal := s.rtc.cal.next.1, rtc.sub := min 32767 (rest / 125), rtc.frac := rest - 125 * min 32767 (rest / 125) }

/-- A calendar that has wrapped is unset. -/
def State.wrapCalendar (s : State) (wrapped : Bool) : State := if wrapped then s.rtcUnset else s

theorem State.wrapCalendar_eq (s : State) (w : Bool) : ∃ b, s.wrapCalendar w = { s with rtc.set := s.rtc.set && !w, rtc.lostNew := b } := by
  unfold State.wrapCalendar
  cases w with
  | true => exact ⟨_, (congrArg (fun x => ({ s with rtc.set := x, rtc.lostNew := s.rtcUnset.rtc.lostNew } : State)) (Bool.and_false _).symm)⟩
  | false => exact ⟨s.rtc.lostNew, (congrArg (fun x => ({ s with rtc.set := x } : State)) (Bool.and_true _).symm)⟩

theorem exec_rtcSecond {s : State} (hon : s.pwr.state ≠ .off) (hsub : s.rtc.sub = 32767) (hfrac : 125 ≤ s.rtc.frac) :
    exec .rtcSecond s = .next (((s.countSecond.wrapCalendar s.rtc.cal.next.2).queueTime 0).queueTime 1).rtcAlarm :=
  occurs_pos (by simp [hon, State.secondDue, hsub, hfrac])

theorem rtcSecond_counts (s : State) (hon : s.pwr.state ≠ .off) (hsub : s.rtc.sub = 32767) (hfrac : 125 ≤ s.rtc.frac) :
    ∃ t, exec .rtcSecond s = .next t ∧ t.rtc.cal = s.rtc.cal.next.1 ∧ t.rtc.set = (s.rtc.set && !s.rtc.cal.next.2) ∧
      t.rtc.sub < 32768 ∧ 125 * t.rtc.sub + t.rtc.frac = s.rtc.frac - 125 ∧ s.EventsOnly t [] ∧
      t = { s with pwr.wakeLatch := t.pwr.wakeLatch, pwr.startEvts := t.pwr.startEvts, dir := t.dir, can0 := t.can0,
                   can1 := t.can1,
                   rtc := t.rtc, tph := t.tph } := by
  have hex := exec_rtcSecond hon hsub hfrac
  obtain ⟨lost, hw⟩ := s.countSecond.wrapCalendar_eq s.rtc.cal.next.2
  obtain ⟨a0, a1, h0⟩ := (s.countSecond.wrapCalendar s.rtc.cal.next.2).queueTime_eq 0
  obtain ⟨b0, b1, h1⟩ := ((s.countSecond.wrapCalendar s.rtc.cal.next.2).queueTime 0).queueTime_eq 1
  have hq : (((s.countSecond.wrapCalendar s.rtc.cal.next.2).queueTime 0).queueTime 1) = { s.countSecond with
    rtc.set := s.rtc.set && !s.rtc.cal.next.2, rtc.lostNew := lost, can0 := b0, can1 := b1 } := by
    rw [h1, h0, hw]
    rfl
  obtain ⟨⟨latch, evts, dir, p, told, tph, hal⟩, hev⟩ := (((s.countSecond.wrapCalendar s.rtc.cal.next.2).queueTime 0).queueTime 1).rtcAlarm_alarmed
  generalize (((s.countSecond.wrapCalendar s.rtc.cal.next.2).queueTime 0).queueTime 1).rtcAlarm = t at *
  rw [hq] at hal hev
  refine ⟨t, hex, ?_, ?_, ?_, ?_, (State.EventsOnly.of_eq [] rfl rfl).trans hev, ?_⟩
  · rw [hal]
    rfl
  · rw [hal]
  · rw [hal]
    exact Nat.lt_succ_of_le (Nat.min_le_left _ _)
  · rw [hal]
    change 125 * min 32767 ((s.rtc.frac - 125) / 125) + (s.rtc.frac - 125 - 125 * min 32767 ((s.rtc.frac - 125) / 125)) = _
    omega
  · rw [hal]
    rfl

/-! ## Writes and captures (18 R451 to R456) -/

theorem everSet_noConfig : isConfig Idx.RTC_EVERSET = false := by decide +kernel
theorem rtcSetCount_noConfig : isConfig Idx.RTC_SETCOUNT = false := by decide +kernel
theorem rtcSetCount_top : (paramInfo Idx.RTC_SETCOUNT).map (fun r => r.hi) = some (2 ^ 32 - 1) := by decide +kernel

/-- The calendar set, before the write is counted. -/
def State.setCalendar (s : State) (c : Calendar) (ms : Nat) : State :=
  { s with rtc.cal := c, rtc.sub := (ms * 32768 + 999) / 1000, rtc.frac := 0, rtc.set := true, rtc.lostNew := false }

/-- A write is counted. -/
def State.countWrite (s : State) : State := (s.setOwn Idx.RTC_EVERSET 1).bump Idx.RTC_SETCOUNT

theorem State.rtcWrite_eq (s : State) (c : Calendar) (ms : Nat) : ∃ data,
    s.rtcWrite c ms = ((s.setCalendar c ms).countWrite).raiseNative 0x1101 2 0xFF data := ⟨_, rfl⟩

theorem State.countWrite_facts (s : State) :
    (∃ dir, s.countWrite = { s with dir := dir }) ∧ s.countWrite.par Idx.RTC_EVERSET = 1 ∧
      s.countWrite.par Idx.RTC_SETCOUNT = min (s.par Idx.RTC_SETCOUNT + 1) (2 ^ 32 - 1) ∧
      s.EventsOnly s.countWrite [Idx.RTC_EVERSET, Idx.RTC_SETCOUNT] := by
  obtain ⟨d1, h1, -⟩ := s.setOwn_eq 1 everSet_noConfig
  obtain ⟨d2, h2, -⟩ := (s.setOwn Idx.RTC_EVERSET 1).bump_eq 1 rtcSetCount_noConfig
  refine ⟨⟨d2, ?_⟩, ?_, ?_, ((State.EventsOnly.refl s _).setOwn _ (by simp) everSet_noConfig).bump 1 (by simp) rtcSetCount_noConfig⟩
  · unfold State.countWrite
    rw [h2, h1]
  · exact (State.par_bump _ _ _ _ rtcSetCount_noConfig (by decide)).trans ((s.par_setOwn' _ _ _ everSet_noConfig).trans (if_pos rfl))
  · unfold State.countWrite
    rw [State.par_bump_top _ rtcSetCount_noConfig rtcSetCount_top, s.par_setOwn' _ _ _ everSet_noConfig, if_neg (by decide)]
    rfl

theorem rtcWrite_of_admitted {s : State} {tag : Nat} (h : s.Admitted tag 0x28 2) (h7 : getU (s.flight tag).p 7 1 = 0)
    (h10 : getU (s.flight tag).p 10 6 = 0) :
    exec (.rtcWrite tag) s = .next (
      if !(readCalendar (s.flight tag).p).valid ∨ 999 < getU (s.flight tag).p 8 2 then
        (s.noteSeq (s.flight tag)).complete (s.flight tag) .invalidDate
      else ((s.noteSeq (s.flight tag)).rtcWrite (readCalendar (s.flight tag).p) (getU (s.flight tag).p 8 2)).complete
        (s.flight tag) .ok 0 [] true) := by
  refine (occurs_pos h.1).trans (congrArg _ ?_)
  rw [State.hostCmd_of_admitted h]
  exact if_neg (by simp [h7, h10])

theorem rtcWrite_sets (s : State) (tag : Nat) (c : Calendar) (h : s.Admitted tag 0x28 2) (hc : c = readCalendar (s.flight tag).p)
    (h7 : getU (s.flight tag).p 7 1 = 0) (h10 : getU (s.flight tag).p 10 6 = 0) (hv : c.valid = true)
    (hms : getU (s.flight tag).p 8 2 ≤ 999) :
    ∃ t, exec (.rtcWrite tag) s = .next t ∧ s.Completed t tag .ok ∧ t.rtc.cal = c ∧
      rtcMs t.rtc.sub = getU (s.flight tag).p 8 2 ∧ t.rtc.set = true ∧ t.rtc.frac = 0 ∧ t.par Idx.RTC_EVERSET = 1 ∧
      t.par Idx.RTC_SETCOUNT = min (s.par Idx.RTC_SETCOUNT + 1) (2 ^ 32 - 1) ∧ s.Records t 0x1101 2 0xFF ∧
      s.EventsOnly t [Idx.RTC_EVERSET, Idx.RTC_SETCOUNT] ∧
      t = { s with host := t.host, dir := t.dir, rtc.cal := c, rtc.sub := t.rtc.sub, rtc.frac := 0, rtc.set := true,
                   rtc.lostNew := false, tph := t.tph } := by
  have hex := rtcWrite_of_admitted h h7 h10
  rw [← hc, hv, if_neg (by simp [hms])] at hex
  generalize getU (s.flight tag).p 8 2 = ms at *
  obtain ⟨data, hw⟩ := (s.noteSeq (s.flight tag)).rtcWrite_eq c ms
  obtain ⟨⟨dir, hcw⟩, hever, hcount, hev⟩ := ((s.noteSeq (s.flight tag)).setCalendar c ms).countWrite_facts
  have hev' : s.EventsOnly ((s.noteSeq (s.flight tag)).setCalendar c ms).countWrite [Idx.RTC_EVERSET, Idx.RTC_SETCOUNT] :=
    (State.EventsOnly.of_eq _ rfl rfl).trans hev
  have hrec : s.Records (((s.noteSeq (s.flight tag)).setCalendar c ms).countWrite.raiseNative 0x1101 2 0xFF data) 0x1101 2 0xFF :=
    (State.records_raiseNative _ _ _ _ _).after hev'.2.2 (hev'.1 _ (by decide)) (by rw [hcw]; rfl) (by rw [hcw]; rfl)
  have hraise := hev'.raiseNative 0x1101 2 0xFF data
  have heverR := (State.par_raiseNative ((s.noteSeq (s.flight tag)).setCalendar c ms).countWrite 0x1101 2 0xFF data Idx.RTC_EVERSET (by decide)).trans hever
  have hcountR := (State.par_raiseNative ((s.noteSeq (s.flight tag)).setCalendar c ms).countWrite 0x1101 2 0xFF data Idx.RTC_SETCOUNT (by decide)).trans hcount
  obtain ⟨dir', tph, hr⟩ := ((s.noteSeq (s.flight tag)).setCalendar c ms).countWrite.raiseEvt_eq
    { code := 0x1101, sev := 2, inst := 0xFF, data := placeData [] data, ownCodes := true }
  have hframe : (s.noteSeq (s.flight tag)).rtcWrite c ms =
      { (s.noteSeq (s.flight tag)).setCalendar c ms with dir := dir', tph := tph } := by
    rw [hw, State.raiseNative, hr, hcw]
  rw [← hw] at hrec hraise heverR hcountR
  generalize (s.noteSeq (s.flight tag)).rtcWrite c ms = u at *
  refine ⟨_, hex, s.completed_complete u tag 0x28 _ _ _ _ _ h.1 (by rw [hframe]; rfl), ?_, ?_, ?_, ?_, heverR, hcountR, hrec, hraise.congr rfl rfl, ?_⟩
  all_goals rw [hframe]
  · rfl
  · change rtcMs ((ms * 32768 + 999) / 1000) = ms
    unfold rtcMs
    omega
  · rfl
  · rfl
  · rfl

theorem rtcWrite_refuses (s : State) (tag : Nat) (c : Calendar) (h : s.Admitted tag 0x28 2) (hc : c = readCalendar (s.flight tag).p)
    (h7 : getU (s.flight tag).p 7 1 = 0) (h10 : getU (s.flight tag).p 10 6 = 0)
    (hbad : c.valid = false ∨ 999 < getU (s.flight tag).p 8 2) :
    ∃ t, exec (.rtcWrite tag) s = .next t ∧ s.Completed t tag .invalidDate ∧ t = { s with host := t.host } := by
  have hex := rtcWrite_of_admitted h h7 h10
  rw [← hc, if_pos (by simpa using hbad)] at hex
  exact ⟨_, hex, s.completed_complete _ tag 0x28 _ _ _ _ _ h.1 rfl, rfl⟩

theorem rtcCapture_captures (s : State) (tag : Nat) (h : s.Admitted tag 0x29 0) :
    ∃ t, exec (.rtcCapture tag) s = .next t ∧ s.Completed t tag (if s.rtc.set then .ok else .stale) ∧
      t = { s with host := t.host, rtc.capture := some (s.rtc.cal, rtcMs s.rtc.sub) } := by
  refine ⟨_, occurs_pos h.1, ?_⟩
  rw [State.hostCmd_of_admitted h]
  exact ⟨s.completed_complete _ tag 0x29 _ _ _ _ _ h.1 rfl, rfl⟩

/-! ## The end of a trim window (18 R457 to R459) -/

theorem measPpm_noConfig : isConfig Idx.RTC_MEASPPM = false := by decide +kernel

/-- A window ends. -/
def State.endWindow (s : State) : State := { s with rtc.window := s.rtc.window - 2 ^ 20, rtc.trimUse := s.par Idx.RTC_TRIM }

/-- The measured rate is kept in the fast states. -/
def State.measureRate (s : State) (ppm : Int) : State :=
  if s.opCounts && s.pwr.state != .dormant then s.setOwn Idx.RTC_MEASPPM (clampInt (-5000) 5000 ppm) else s

/-- The crystal has been good for long enough. -/
def State.crystalBack (s : State) (good : Nat) : State :=
  if s.rtc.degraded ∧ 10 ≤ good then { s with rtc.degraded := false, pwr.xtal32Bad := false } else s

theorem State.measureRate_facts (s : State) (ppm : Int) :
    (∃ dir, s.measureRate ppm = { s with dir := dir }) ∧ s.ParsKept (s.measureRate ppm) [Idx.RTC_MEASPPM] ∧
      (s.pwr.state = .run → (s.measureRate ppm).par Idx.RTC_MEASPPM = clampInt (-5000) 5000 ppm) := by
  unfold State.measureRate
  split
  · obtain ⟨dir, h, -⟩ := s.setOwn_eq (clampInt (-5000) 5000 ppm) measPpm_noConfig
    refine ⟨⟨dir, h⟩, fun i hi => ?_, fun _ => (s.par_setOwn' _ _ _ measPpm_noConfig).trans (if_pos rfl)⟩
    rw [s.par_setOwn' _ _ _ measPpm_noConfig, if_neg fun e => hi (List.mem_singleton.mpr e.symm)]
  · rename_i h
    refine ⟨⟨s.dir, rfl⟩, fun _ _ => rfl, fun hr => absurd ?_ h⟩
    unfold State.opCounts
    rw [hr]
    rfl

theorem State.crystalBack_eq (s : State) (good : Nat) : ∃ b,
    s.crystalBack good = { s with rtc.degraded := s.rtc.degraded && !decide (10 ≤ good), pwr.xtal32Bad := b } := by
  unfold State.crystalBack
  split
  · next h =>
    refine ⟨false, ?_⟩
    rw [h.1, decide_eq_true h.2]
    rfl
  · next h =>
    refine ⟨s.pwr.xtal32Bad, ?_⟩
    have hsame : (s.rtc.degraded && !decide (10 ≤ good)) = s.rtc.degraded := by
      cases hd : s.rtc.degraded with
      | false => rfl
      | true => rw [decide_eq_false fun hg => h ⟨hd, hg⟩]; rfl
    rw [hsame]

theorem trimWindow_ends (s : State) (ppm : Int) (good : Nat) (hon : s.pwr.state ≠ .off) (hw : 2 ^ 20 ≤ s.rtc.window) :
    ∃ t, exec (.trimWindow ppm good) s = .next t ∧ t.rtc.trimUse = s.par Idx.RTC_TRIM ∧ t.rtc.window = s.rtc.window - 2 ^ 20 ∧
      t.rtc.degraded = (s.rtc.degraded && !decide (10 ≤ good)) ∧ t.rtc.cal = s.rtc.cal ∧ t.rtc.sub = s.rtc.sub ∧
      (s.pwr.state = .run → t.par Idx.RTC_MEASPPM = clampInt (-5000) 5000 ppm) ∧ s.ParsKept t [Idx.RTC_MEASPPM] ∧
      t = { s with pwr.xtal32Bad := t.pwr.xtal32Bad, dir := t.dir, rtc.trimUse := t.rtc.trimUse, rtc.window := t.rtc.window,
                   rtc.degraded := t.rtc.degraded } := by
  have hex : exec (.trimWindow ppm good) s = .next ((s.endWindow.measureRate ppm).crystalBack good) :=
    occurs_pos (by rw [decide_eq_true hw, Bool.and_true]; simpa using hon)
  obtain ⟨⟨dir, hm⟩, hkept, hrun⟩ := s.endWindow.measureRate_facts ppm
  generalize s.endWindow.measureRate ppm = u at *
  obtain ⟨b, hb⟩ := u.crystalBack_eq good
  have hpar (i : Nat) : (u.crystalBack good).par i = u.par i := State.par_congr (by rw [hb]) i
  refine ⟨_, hex, ?_, ?_, ?_, ?_, ?_, fun hr => (hpar _).trans (hrun hr), fun i hi => (hpar i).trans (hkept i hi), ?_⟩
  all_goals rw [hb, hm]; rfl

/-- Settles O43: the calendar by the second's carry; the RTC's commands by their stages. -/
theorem calendarCounts : Obligations.CalendarCounts :=
  ⟨fun c hv => ⟨c.next_valid hv, c.secs_next hv, c.next_wraps_iff hv, c.weekday_range⟩, rtcSecond_counts, rtcWrite_sets, rtcWrite_refuses,
    rtcCapture_captures, trimWindow_ends⟩

end Sys2Proof.Machine
end

section
/-!
PROOFS. Challenges and responses of a slot (19 R468, R469).
-/
namespace Sys2Proof.Machine

/-! ## Slots of accepted and completed commands (05 R104, R108) -/

theorem modifyAt_same {α : Type} {f : α → α} {d : α} : ∀ {xs : List α} {i : Nat}, f (xs.getD i d) = xs.getD i d → modifyAt xs i f = xs
  | [], _, _ => rfl
  | _ :: xs, 0, h => congrArg (· :: xs) h
  | x :: xs, i + 1, h => congrArg (x :: ·) (modifyAt_same (xs := xs) (i := i) (d := d) h)

theorem State.modSlot_same {s : State} {h : Nat} {f : Slot → Slot} (hf : f (s.slot h) = s.slot h) : s.modSlot h f = s := by
  unfold State.modSlot
  rw [modifyAt_same (d := {}) hf]

/-- A command without a session's authentication leaves no trace in its slot. -/
theorem State.noteSeq_of_none {s : State} {f : Flight} (h : (s.slot f.slot).session = none) : s.noteSeq f = s :=
  State.modSlot_same (by rw [h, Option.map_none, ← h])

/-- Authentication reads nothing of a slot but what an accepted command leaves. -/
theorem State.slot_noteSeq (s : State) (f : Flight) : ∃ ss, (s.noteSeq f).slot f.slot = { s.slot f.slot with session := ss } := by
  by_cases hl : f.slot < s.host.slots.length
  · exact ⟨_, s.slot_modSlot_self f.slot _ hl⟩
  · have hs : (s.slot f.slot) = {} := List.getD_eq_default _ _ (Nat.le_of_not_lt hl)
    refine ⟨(s.slot f.slot).session, ?_⟩
    rw [State.noteSeq_of_none (by rw [hs])]

theorem State.length_noteSeq (s : State) (f : Flight) : (s.noteSeq f).host.slots.length = s.host.slots.length := length_modifyAt _ _ _

/-- A slot without the command of a tag. -/
def Slot.without (tag : Nat) (x : Slot) : Slot := { x with nq := dropTag tag x.nq, uq := dropTag tag x.uq }

/-- A completion takes its command out of the queues. -/
theorem State.slot_complete (s : State) (f : Flight) (st : Status) (detail : Nat) (payload : List Byte) (committed after : Bool) (h : Nat) :
    (s.complete f st detail payload committed after).slot h = (s.slot h).without f.d.tag :=
  List.getD_map s.host.slots {} (Slot.without f.d.tag)

/-! ## Challenges (19 R468, R469) -/

theorem authChallenge_answered (s : State) (tag : Nat) (h : s.Admitted tag 0x40 0) (hl : (s.flight tag).slot < s.host.slots.length)
    (hok : s.challengeRefused (s.flight tag).p (s.slot (s.flight tag).slot).authBusy.isSome = none) :
    ∃ t, exec (.authChallenge tag) s = .next t ∧ s.Completed t tag .ok ∧
      (t.slot (s.flight tag).slot).challenge = some (s.newChallenge (s.flight tag).p) ∧
      t = { s with host := t.host, sec.free := s.sec.free + 2 } := by
  obtain ⟨ss, hslot⟩ := s.slot_noteSeq (s.flight tag)
  have hlen := s.length_noteSeq (s.flight tag)
  have hex : exec (.authChallenge tag) s = .next (
      (((s.noteSeq (s.flight tag)).usedFree).modSlot (s.flight tag).slot fun x =>
        { x with challenge := some (s.newChallenge (s.flight tag).p) }).complete (s.flight tag) .ok 0
        (s.newChallenge (s.flight tag).p).answer) := by
    refine (occurs_pos h.1).trans (congrArg _ ?_)
    rw [State.hostCmd_of_admitted h, hslot, show ∀ b, (s.noteSeq (s.flight tag)).challengeRefused (s.flight tag).p b =
      s.challengeRefused (s.flight tag).p b from fun b => rfl, hok]
    rfl
  refine ⟨_, hex, s.completed_complete _ tag 0x40 _ _ _ _ _ h.1 rfl, ?_, rfl⟩
  rw [State.slot_complete]
  exact congrArg Slot.challenge (State.slot_modSlot_self _ _ _ (by exact hlen ▸ hl))

theorem authChallenge_refused (s : State) (tag : Nat) (st : Status) (h : s.Admitted tag 0x40 0)
    (hbad : s.challengeRefused (s.flight tag).p (s.slot (s.flight tag).slot).authBusy.isSome = some st) :
    ∃ t, exec (.authChallenge tag) s = .next t ∧ s.Completed t tag st ∧ t = { s with host := t.host } := by
  obtain ⟨ss, hslot⟩ := s.slot_noteSeq (s.flight tag)
  have hex : exec (.authChallenge tag) s = .next ((s.noteSeq (s.flight tag)).complete (s.flight tag) st) := by
    refine (occurs_pos h.1).trans (congrArg _ ?_)
    rw [State.hostCmd_of_admitted h, hslot, show ∀ b, (s.noteSeq (s.flight tag)).challengeRefused (s.flight tag).p b =
      s.challengeRefused (s.flight tag).p b from fun b => rfl, hbad]
  exact ⟨_, hex, s.completed_complete _ tag 0x40 _ _ _ _ _ h.1 rfl, rfl⟩

/-! ## Failed authentications (19 R469) -/

theorem authFail_noConfig : isConfig Idx.SEC_AUTHFAIL = false := by decide +kernel
theorem authFail_top : (paramInfo Idx.SEC_AUTHFAIL).map (fun r => r.hi) = some (2 ^ 32 - 1) := by decide +kernel

/-- From `s` to `t` a failed authentication was recorded and counted. -/
structure State.AuthFails (s t : State) (inst : Nat) : Prop where
  records : s.Records t 0x0204 3 inst
  count : t.par Idx.SEC_AUTHFAIL = min (s.par Idx.SEC_AUTHFAIL + 1) (2 ^ 32 - 1)
  events : s.EventsOnly t [Idx.SEC_AUTHFAIL]

theorem State.AuthFails.congr {s t u : State} {inst : Nat} (h : State.AuthFails s t inst) (hd : u.dir = t.dir) (hp : u.tph = t.tph) :
    State.AuthFails s u inst :=
  ⟨h.records.mono (by rw [hp]), (State.par_congr hd _).trans h.count, h.events.congr hd hp⟩

theorem State.AuthFails.after {s t u : State} {inst : Nat} (h : State.AuthFails t u inst) (hd : t.dir = s.dir) (hp : t.tph = s.tph)
    (hl : t.lmp = s.lmp) (ho : t.host.ops = s.host.ops) : State.AuthFails s u inst :=
  ⟨h.records.after (State.EventsOnly.of_eq [] hd hp).2.2 (State.par_congr hd _) hl ho,
    h.count.trans (by rw [State.par_congr hd]), (State.EventsOnly.of_eq _ hd hp).trans h.events⟩

theorem State.authFailed_facts (s : State) (inst : Nat) : ∃ dir tph, s.authFailed inst = { s with dir := dir, tph := tph } ∧
    s.AuthFails (s.authFailed inst) inst := by
  obtain ⟨d1, p1, h1, -⟩ := s.raise_eq 0x0204 3 inst []
  obtain ⟨d2, h2, -⟩ := (s.raise 0x0204 3 inst).bump_eq 1 authFail_noConfig
  refine ⟨d2, p1, ?_, (s.records_raise 0x0204 3 inst []).mono ?_, ?_,
    ((State.EventsOnly.refl s _).raise _ _ _ _).bump 1 (by simp) authFail_noConfig⟩
  · unfold State.authFailed
    rw [h2, h1]
  · exact ((State.EventsOnly.refl _ [Idx.SEC_AUTHFAIL]).bump 1 (by simp) authFail_noConfig).2.2.2
  · unfold State.authFailed
    rw [State.par_bump_top _ authFail_noConfig authFail_top, State.par_raise _ _ _ _ _ _ (by decide)]
    rfl

/-- A slot's failure counts toward its lockout. -/
def Slot.failed (now : Nat) (x : Slot) : Slot :=
  if 5 ≤ x.authFails + 1 then { x with authFails := 0, authBusy := some (now + 10000) } else { x with authFails := x.authFails + 1 }

/-- What the completion of a refused response leaves. -/
theorem refusedResponse {s u : State} {tag : Nat} (st : Status) (hr : s.hostReady tag 0x41 = true)
    (hu : u = { s with host.slots := u.host.slots }) (hl : (s.flight tag).slot < u.host.slots.length) :
    s.Completed ((u.slotFailed (s.flight tag).slot).complete (s.flight tag) st) tag st ∧
      ((u.slotFailed (s.flight tag).slot).complete (s.flight tag) st).slot (s.flight tag).slot =
        ((u.slot (s.flight tag).slot).failed s.pwr.opTime).without (s.flight tag).d.tag ∧
      s.AuthFails ((u.slotFailed (s.flight tag).slot).complete (s.flight tag) st) (s.flight tag).slot ∧
      (u.slotFailed (s.flight tag).slot).complete (s.flight tag) st =
        { s with host := ((u.slotFailed (s.flight tag).slot).complete (s.flight tag) st).host
                 dir := ((u.slotFailed (s.flight tag).slot).complete (s.flight tag) st).dir
                 tph := ((u.slotFailed (s.flight tag).slot).complete (s.flight tag) st).tph } := by
  generalize hk : (s.flight tag).slot = h at hl
  obtain ⟨dir, tph, hfail, hfacts⟩ := u.authFailed_facts h
  have hslot := (u.authFailed h).slot_modSlot_self h (Slot.failed u.pwr.opTime) (by rw [hfail]; exact hl)
  have hself : (u.authFailed h).slot h = u.slot h := by rw [hfail]; rfl
  have heq : u.slotFailed h = (u.authFailed h).modSlot h (Slot.failed u.pwr.opTime) := rfl
  have hutime : u.pwr.opTime = s.pwr.opTime := by rw [hu]
  rw [hself, hutime] at hslot
  rw [heq, hutime]
  refine ⟨s.completed_complete _ tag 0x41 _ _ _ _ _ hr ?_, (State.slot_complete _ _ _ _ _ _ _ h).trans (by rw [hslot]),
    (hfacts.after (by rw [hu]) (by rw [hu]) (by rw [hu]) (by rw [hu])).congr rfl rfl, ?_⟩
  · rw [hfail, hu]
    rfl
  · rw [hfail, hu]
    rfl

/-! ## Responses (19 R469) -/

/-- The outcome of an AUTH_RESPONSE to a pending challenge. -/
def State.respond (s : State) (f : Flight) (c : Challenge) : State :=
  match s.responseRefused c f.p (some f.slot) with
  | some st => (s.slotFailed f.slot).complete f st
  | none => (s.openSession f.slot (s.newSession c f.p) (s.slot f.slot).ringHost).complete f .ok 0
      ((s.openSession f.slot (s.newSession c f.p) (s.slot f.slot).ringHost).responseBytes f.slot (s.newSession c f.p)) true

/-- The outcome of an AUTH_RESPONSE, with the challenge that was pending. -/
def State.respondTo (s : State) (f : Flight) (c : Option Challenge) : State :=
  match c with
  | none => (s.slotFailed f.slot).complete f .notFound
  | some c => s.respond f c

/-- The challenge of a slot is consumed. -/
def State.consume (s : State) (h : Nat) : State := s.modSlot h fun x => { x with challenge := none }

/-- A slot with a new session. -/
def Slot.opened (ss : Session) (host : Option Nat) (now : Nat) (x : Slot) : Slot :=
  { x with session := some ss, sessionLost := false, authFails := 0, authBusy := none, ringHost := host, lastDesc := now }

theorem State.openSession_of_none {s : State} {h : Nat} (hn : (s.slot h).session = none) (ss : Session) (host : Option Nat) :
    s.openSession h ss host = (s.modSlot h (Slot.opened ss host s.pwr.opTime)).raise 0x0205 1 h := by
  unfold State.openSession
  rw [hn]
  rfl

/-- A session opened on a free slot. -/
theorem State.openSession_facts {s : State} {h : Nat} (hn : (s.slot h).session = none) (hl : h < s.host.slots.length) (ss : Session)
    (host : Option Nat) :
    (∃ slots dir tph, s.openSession h ss host = { s with host.slots := slots, dir := dir, tph := tph }) ∧
      (s.openSession h ss host).slot h = (s.slot h).opened ss host s.pwr.opTime ∧
      s.Records (s.openSession h ss host) 0x0205 1 h ∧ s.EventsOnly (s.openSession h ss host) [Idx.SEC_AUTHFAIL] := by
  rw [State.openSession_of_none hn]
  have hslot := s.slot_modSlot_self h (Slot.opened ss host s.pwr.opTime) hl
  have hrec : s.Records ((s.modSlot h (Slot.opened ss host s.pwr.opTime)).raise 0x0205 1 h) 0x0205 1 h := 
    .raise_after _ _ _ _ rfl rfl rfl rfl
  obtain ⟨dir, tph, hr, -⟩ := (s.modSlot h (Slot.opened ss host s.pwr.opTime)).raise_eq 0x0205 1 h []
  refine ⟨⟨_, dir, tph, hr⟩, ?_, hrec, (State.EventsOnly.of_eq _ rfl rfl).raise _ _ _ _⟩
  rw [hr]
  exact hslot

theorem exec_authResponse {s : State} {tag : Nat} (h : s.Admitted tag 0x41 0) :
    exec (.authResponse tag) s = .next (((s.noteSeq (s.flight tag)).consume (s.flight tag).slot).respondTo (s.flight tag)
      (s.pendingChal ((s.noteSeq (s.flight tag)).slot (s.flight tag).slot).challenge)) := by
  refine (occurs_pos h.1).trans (congrArg _ ?_)
  rw [State.hostCmd_of_admitted h]
  rfl

theorem authResponse_pending (s : State) (tag : Nat) (c : Challenge) (h : s.Admitted tag 0x41 0)
    (hl : (s.flight tag).slot < s.host.slots.length)
    (hc : s.pendingChal (s.slot (s.flight tag).slot).challenge = some c) (hn : (s.slot (s.flight tag).slot).session = none) :
    ∃ t, exec (.authResponse tag) s = .next t ∧
      s.Completed t tag ((s.responseRefused c (s.flight tag).p (some (s.flight tag).slot)).getD .ok) ∧
      (t.slot (s.flight tag).slot).challenge = none ∧
      (s.responseRefused c (s.flight tag).p (some (s.flight tag).slot) = none →
        (t.slot (s.flight tag).slot).session = some (s.newSession c (s.flight tag).p) ∧
        (t.slot (s.flight tag).slot).authFails = 0 ∧
        s.Records t 0x0205 1 (s.flight tag).slot) ∧
      (s.responseRefused c (s.flight tag).p (some (s.flight tag).slot) ≠ none →
        (t.slot (s.flight tag).slot).session = none ∧ s.Records t 0x0204 3 (s.flight tag).slot ∧
        t.par Idx.SEC_AUTHFAIL = min (s.par Idx.SEC_AUTHFAIL + 1) (2 ^ 32 - 1)) ∧
      s.EventsOnly t [Idx.SEC_AUTHFAIL] ∧ t = { s with host := t.host, dir := t.dir, tph := t.tph } := by
  have hex : exec (.authResponse tag) s = .next ((s.consume (s.flight tag).slot).respond (s.flight tag) c) := by
    rw [exec_authResponse h, State.noteSeq_of_none hn, hc]
    rfl
  have hslot := s.slot_modSlot_self (s.flight tag).slot (fun x => { x with challenge := none }) hl
  have hlen : (s.consume (s.flight tag).slot).host.slots.length = s.host.slots.length := length_modifyAt _ _ _
  have hu : s.consume (s.flight tag).slot = { s with host.slots := (s.consume (s.flight tag).slot).host.slots } := rfl
  have hsame : (s.consume (s.flight tag).slot).responseRefused c (s.flight tag).p (some (s.flight tag).slot) =
      s.responseRefused c (s.flight tag).p (some (s.flight tag).slot) := rfl
  have hnew : (s.consume (s.flight tag).slot).newSession c (s.flight tag).p = s.newSession c (s.flight tag).p := rfl
  change (s.consume (s.flight tag).slot).slot (s.flight tag).slot = _ at hslot
  generalize s.consume (s.flight tag).slot = u at *
  unfold State.respond at hex
  rw [hsame] at hex
  have hun : (u.slot (s.flight tag).slot).session = none := (congrArg Slot.session hslot).trans hn
  cases hres : s.responseRefused c (s.flight tag).p (some (s.flight tag).slot) with
  | some st =>
    rw [hres] at hex
    obtain ⟨hcpl, hs, hfail, hframe⟩ := refusedResponse st h.1 hu (hlen ▸ hl)
    have hkeep : ((u.slot (s.flight tag).slot).failed s.pwr.opTime).challenge = (u.slot (s.flight tag).slot).challenge ∧
        ((u.slot (s.flight tag).slot).failed s.pwr.opTime).session = (u.slot (s.flight tag).slot).session := by
      unfold Slot.failed
      split <;> exact ⟨rfl, rfl⟩
    refine ⟨_, hex, hcpl, ?_, fun hno => (by cases hno), fun _ => ⟨?_, hfail.records, hfail.count⟩, hfail.events, hframe⟩
    · rw [hs]
      exact hkeep.1.trans (congrArg Slot.challenge hslot)
    · rw [hs]
      exact hkeep.2.trans hun
  | none =>
    rw [hres, hnew] at hex
    dsimp only at hex
    obtain ⟨⟨slots, dir, tph, ho⟩, hself, hrec, hev⟩ :=
      State.openSession_facts hun (hlen ▸ hl) (s.newSession c (s.flight tag).p) (u.slot (s.flight tag).slot).ringHost
    generalize u.openSession (s.flight tag).slot (s.newSession c (s.flight tag).p) (u.slot (s.flight tag).slot).ringHost = v at *
    have hsu : s.EventsOnly u [Idx.SEC_AUTHFAIL] := .of_eq _ (by rw [hu]) (by rw [hu])
    have hrec' := hrec.after hsu.2.2 (hsu.1 _ (by decide)) (by rw [hu]) (by rw [hu])
    refine ⟨_, hex, s.completed_complete _ tag 0x41 _ _ _ _ _ h.1 (by rw [ho, hu]), ?_, fun _ => ⟨?_, ?_, hrec'⟩, fun hno => absurd rfl hno,
      (hsu.trans hev).congr rfl rfl, ?_⟩
    · rw [State.slot_complete, hself]
      exact congrArg Slot.challenge hslot
    · rw [State.slot_complete, hself]
      rfl
    · rw [State.slot_complete, hself]
      rfl
    · rw [ho, hu]
      rfl

theorem authResponse_unasked (s : State) (tag : Nat) (h : s.Admitted tag 0x41 0) (hl : (s.flight tag).slot < s.host.slots.length)
    (hc : s.pendingChal (s.slot (s.flight tag).slot).challenge = none) :
    ∃ t, exec (.authResponse tag) s = .next t ∧ s.Completed t tag .notFound ∧ s.Records t 0x0204 3 (s.flight tag).slot ∧
      t.par Idx.SEC_AUTHFAIL = min (s.par Idx.SEC_AUTHFAIL + 1) (2 ^ 32 - 1) ∧
      (5 ≤ (s.slot (s.flight tag).slot).authFails + 1 → (t.slot (s.flight tag).slot).authBusy = some (s.pwr.opTime + 10000)) ∧
      s.EventsOnly t [Idx.SEC_AUTHFAIL] ∧ t = { s with host := t.host, dir := t.dir, tph := t.tph } := by
  obtain ⟨ss, hnote⟩ := s.slot_noteSeq (s.flight tag)
  have hex : exec (.authResponse tag) s = .next ((((s.noteSeq (s.flight tag)).consume (s.flight tag).slot).slotFailed
      (s.flight tag).slot).complete (s.flight tag) .notFound) := by
    rw [exec_authResponse h, hnote, hc]
    rfl
  have hlen : ((s.noteSeq (s.flight tag)).consume (s.flight tag).slot).host.slots.length = s.host.slots.length :=
    (length_modifyAt _ _ _).trans (length_modifyAt _ _ _)
  have hslot := (s.noteSeq (s.flight tag)).slot_modSlot_self (s.flight tag).slot (fun x => { x with challenge := none })
    ((s.length_noteSeq _).symm ▸ hl)
  change ((s.noteSeq (s.flight tag)).consume (s.flight tag).slot).slot (s.flight tag).slot = _ at hslot
  obtain ⟨hcpl, hs, hfail, hframe⟩ := refusedResponse .notFound h.1
    (u := (s.noteSeq (s.flight tag)).consume (s.flight tag).slot) rfl (hlen ▸ hl)
  refine ⟨_, hex, hcpl, hfail.records, hfail.count, fun h5 => ?_, hfail.events, hframe⟩
  rw [hs, hslot, hnote]
  exact congrArg Slot.authBusy (if_pos h5)

end Sys2Proof.Machine
end

section
/-!
PROOFS. Ring hosts' authentication, and the ends of challenges and lockouts (19 R469, R471).
-/
namespace Sys2Proof.Machine

/-! ## Ring hosts (19 R471; 15 R389) -/

/-- What a ring AUTH did is remembered with its answer. -/
def State.remember (src tseq : Nat) (r : State × Desc) : State :=
  { r.1 with sec.ringAns := (r.1.sec.ringAns.filter fun x => x.addr != src) ++ [⟨src, tseq, r.2⟩] }

theorem ringAuth_repeated (s : State) (src tseq : Nat) (bs : List Byte) (hs : s.lmpServes = true) (hr : s.rng.enabled = true)
    (hsrc : src < 1024) (hb : bs.length ≤ 512) (hans : ∃ x ∈ s.sec.ringAns, x.addr = src ∧ x.seq = tseq) :
    exec (.ringAuth src tseq bs) s = .next s := by
  refine (occurs_pos (by simp [hs, hr, hsrc, hb])).trans (congrArg _ (if_pos ?_))
  simpa using hans

theorem exec_ringAuth {s : State} {src tseq : Nat} {bs : List Byte} (hs : s.lmpServes = true) (hr : s.rng.enabled = true)
    (hsrc : src < 1024) (hb : bs.length ≤ 512) (hnew : ∀ x ∈ s.sec.ringAns, ¬(x.addr = src ∧ x.seq = tseq)) :
    exec (.ringAuth src tseq bs) s = .next (State.remember src tseq (s.ringAuth src (readDesc bs))) := by
  refine (occurs_pos (by simp [hs, hr, hsrc, hb])).trans (congrArg _ (if_neg ?_))
  simpa using hnew

theorem ringAuth_challenged (s : State) (src tseq : Nat) (bs : List Byte) (hs : s.lmpServes = true) (hr : s.rng.enabled = true)
    (hsrc : src < 1024) (hb : bs.length ≤ 512) (hnew : ∀ x ∈ s.sec.ringAns, ¬(x.addr = src ∧ x.seq = tseq))
    (hop : (readDesc bs).opcode = 0x40)
    (hok : s.challengeRefused (readDesc bs).payload
      ((s.ringFail src).busy.isSome || (!(s.sec.ringChals.any fun x => x.addr == src) && decide (4 ≤ s.sec.ringChals.length))) =
      none) :
    exec (.ringAuth src tseq bs) s = .next { s with
      sec.free := s.sec.free + 2
      sec.ringChals := (s.sec.ringChals.filter fun x => x.addr != src) ++ [⟨src, s.newChallenge (readDesc bs).payload⟩]
      sec.ringAns := (s.sec.ringAns.filter fun x => x.addr != src) ++
        [⟨src, tseq, authReply (readDesc bs) .ok (s.newChallenge (readDesc bs).payload).answer⟩] } := by
  rw [exec_ringAuth hs hr hsrc hb hnew]
  unfold State.ringAuth
  rw [if_pos hop]
  dsimp only
  rw [hok]
  rfl

theorem ringAuth_unknown (s : State) (src tseq : Nat) (bs : List Byte) (hs : s.lmpServes = true) (hr : s.rng.enabled = true)
    (hsrc : src < 1024) (hb : bs.length ≤ 512) (hnew : ∀ x ∈ s.sec.ringAns, ¬(x.addr = src ∧ x.seq = tseq))
    (h40 : (readDesc bs).opcode ≠ 0x40) (h41 : (readDesc bs).opcode ≠ 0x41) :
    exec (.ringAuth src tseq bs) s = .next { s with
      sec.ringAns := (s.sec.ringAns.filter fun x => x.addr != src) ++ [⟨src, tseq, authReply (readDesc bs) .range []⟩] } := by
  rw [exec_ringAuth hs hr hsrc hb hnew]
  unfold State.ringAuth
  rw [if_neg h40, if_neg h41]
  rfl

/-- A ring source fails to authenticate. -/
theorem State.sourceFailed_facts (s : State) (a : Nat) : (∃ dir tph fails,
    s.sourceFailed a = { s with dir := dir, tph := tph, sec.ringFails := fails }) ∧ s.AuthFails (s.sourceFailed a) 0xFF := by
  obtain ⟨dir, tph, h, hfacts⟩ := s.authFailed_facts 0xFF
  refine ⟨⟨dir, tph, (s.sourceFailed a).sec.ringFails, ?_⟩, hfacts.congr rfl rfl⟩
  unfold State.sourceFailed State.setRingFail
  rw [h]

/-- A ring AUTH that answers a challenge. -/
def State.ringRespond (s : State) (a : Nat) (d : Desc) (c : Challenge) (h : Nat) : State × Desc :=
  match s.responseRefused c d.payload (some h) with
  | some st => (s.sourceFailed a, authReply d st [])
  | none =>
    ((s.openSession h (s.newSession c d.payload) (some a)).setRingFail ⟨a, 0, none⟩,
      ((s.openSession h (s.newSession c d.payload) (some a)).setRingFail ⟨a, 0, none⟩).signFor h
        (authReply d .ok (((s.openSession h (s.newSession c d.payload) (some a)).setRingFail ⟨a, 0, none⟩).responseBytes h
          (s.newSession c d.payload))))

theorem ringAuth_of_response {s : State} {a h : Nat} {d : Desc} {c : Challenge} (hop : d.opcode = 0x41) (hc : s.ringChal a = some c)
    (hslot : s.ringSlot a = some h) : s.ringAuth a d = (s.dropChal a).ringRespond a d c h := by
  unfold State.ringAuth
  rw [if_neg (by rw [hop]; decide), if_pos hop, hc]
  have hkeep : (s.dropChal a).ringSlot a = some h := hslot
  dsimp only
  rw [hkeep]
  unfold State.ringRespond
  cases (s.dropChal a).responseRefused c d.payload (some h) <;> rfl

theorem State.status_signFor (s : State) (h : Nat) (d : Desc) : (s.signFor h d).status = d.status := by
  unfold State.signFor
  split <;> rfl

theorem ringAuth_answered (s : State) (src tseq h : Nat) (bs : List Byte) (c : Challenge) (hs : s.lmpServes = true)
    (hr : s.rng.enabled = true) (hsrc : src < 1024) (hb : bs.length ≤ 512)
    (hnew : ∀ x ∈ s.sec.ringAns, ¬(x.addr = src ∧ x.seq = tseq)) (hop : (readDesc bs).opcode = 0x41)
    (hc : s.ringChal src = some c) (hslot : s.ringSlot src = some h) (hl : h < s.host.slots.length)
    (hn : (s.slot h).session = none) :
    ∃ t, exec (.ringAuth src tseq bs) s = .next t ∧ (∀ x ∈ t.sec.ringChals, x.addr ≠ src) ∧
      (∃ x ∈ t.sec.ringAns, x.addr = src ∧ x.seq = tseq ∧
        x.reply.status = ((s.responseRefused c (readDesc bs).payload (some h)).getD .ok).code) ∧
      (s.responseRefused c (readDesc bs).payload (some h) = none →
        (t.slot h).session = some (s.newSession c (readDesc bs).payload) ∧ (t.slot h).ringHost = some src ∧
        s.Records t 0x0205 1 h) ∧
      (s.responseRefused c (readDesc bs).payload (some h) ≠ none → t.host = s.host ∧ s.Records t 0x0204 3 0xFF) ∧
      s.EventsOnly t [Idx.SEC_AUTHFAIL] ∧
      t = { s with host := t.host, dir := t.dir, tph := t.tph, sec.ringChals := t.sec.ringChals, sec.ringAns := t.sec.ringAns,
                   sec.ringFails := t.sec.ringFails } := by
  have hex := exec_ringAuth hs hr hsrc hb hnew
  rw [ringAuth_of_response hop hc hslot] at hex
  generalize readDesc bs = d at *
  have hsame : (s.dropChal src).responseRefused c d.payload (some h) = s.responseRefused c d.payload (some h) := rfl
  have hses : (s.dropChal src).newSession c d.payload = s.newSession c d.payload := rfl
  have hgone : ∀ x ∈ (s.dropChal src).sec.ringChals, x.addr ≠ src := fun x hx => by simpa using (List.mem_filter.mp hx).2
  have hu : s.dropChal src = { s with sec.ringChals := (s.dropChal src).sec.ringChals } := rfl
  have hself : (s.dropChal src).slot h = s.slot h := rfl
  generalize s.dropChal src = u at *
  unfold State.ringRespond at hex
  rw [hsame] at hex
  have hlast (r : State × Desc) : ∃ x ∈ (State.remember src tseq r).sec.ringAns, x.addr = src ∧ x.seq = tseq ∧ x.reply.status = r.2.status :=
    ⟨_, List.mem_append_right _ (List.mem_singleton_self _), rfl, rfl, rfl⟩
  cases hres : s.responseRefused c d.payload (some h) with
  | some st =>
    rw [hres] at hex
    obtain ⟨⟨dir, tph, fails, hf⟩, hfail⟩ := u.sourceFailed_facts src
    have hall := (hfail.after (s := s) (by rw [hu]) (by rw [hu]) (by rw [hu]) (by rw [hu])).congr
      (u := State.remember src tseq (u.sourceFailed src, authReply d st [])) rfl rfl
    refine ⟨_, hex, ?_, hlast _, fun hno => (by cases hno), fun _ => ⟨?_, hall.records⟩, hall.events, ?_⟩
    · rw [show (State.remember src tseq (u.sourceFailed src, authReply d st [])).sec.ringChals = (u.sourceFailed src).sec.ringChals from rfl, hf]
      exact hgone
    · rw [show (State.remember src tseq (u.sourceFailed src, authReply d st [])).host = (u.sourceFailed src).host from rfl, hf, hu]
    · unfold State.remember
      rw [hf, hu]
  | none =>
    rw [hres, hses] at hex
    dsimp only at hex
    obtain ⟨⟨slots, dir, tph, ho⟩, hown, hrec, hev⟩ := State.openSession_facts (hself ▸ hn) (by rw [hu]; exact hl)
      (s.newSession c d.payload) (some src)
    generalize u.openSession h (s.newSession c d.payload) (some src) = v at *
    have hsu : s.EventsOnly u [Idx.SEC_AUTHFAIL] := .of_eq _ (by rw [hu]) (by rw [hu])
    have hrec' := hrec.after hsu.2.2 (hsu.1 _ (by decide)) (by rw [hu]) (by rw [hu])
    obtain ⟨x, hx, ha, hq, hst⟩ := hlast (v.setRingFail ⟨src, 0, none⟩, (v.setRingFail ⟨src, 0, none⟩).signFor h
      (authReply d .ok ((v.setRingFail ⟨src, 0, none⟩).responseBytes h (s.newSession c d.payload))))
    refine ⟨_, hex, ?_, ⟨x, hx, ha, hq, hst.trans (State.status_signFor _ _ _)⟩, fun _ => ⟨?_, ?_, hrec'⟩, fun hno => absurd rfl hno,
      (hsu.trans hev).congr rfl rfl, ?_⟩
    · unfold State.remember State.setRingFail
      rw [ho]
      exact hgone
    · exact (congrArg Slot.session hown).trans rfl
    · exact (congrArg Slot.ringHost hown).trans rfl
    · unfold State.remember State.setRingFail
      rw [ho, hu]

/-! ## Ends of challenges and lockouts (19 R469) -/

theorem challengeExpired_slot (s : State) (a : Nat) (c : Challenge) (h8 : a < 8) (hc : (s.slot a).challenge = some c)
    (hat : c.at_ + 2000 ≤ s.pwr.opTime) :
    exec (.challengeExpired false a) s = .next (s.modSlot a fun x => { x with challenge := none }) :=
  occurs_pos (by simp [h8, hc, hat])

theorem challengeExpired_ring (s : State) (a : Nat) (x : RingChal) (hx : s.sec.ringChals.find? (fun x => x.addr == a) = some x)
    (hat : x.chal.at_ + 2000 ≤ s.pwr.opTime) :
    exec (.challengeExpired true a) s = .next { s with sec.ringChals := s.sec.ringChals.filter fun x => x.addr != a } :=
  occurs_pos (by simp [hx, hat])

theorem authBusyEnd_slot (s : State) (a until_ : Nat) (h8 : a < 8) (hb : (s.slot a).authBusy = some until_) (hat : until_ ≤ s.pwr.opTime) :
    exec (.authBusyEnd false a) s = .next (s.modSlot a fun x => { x with authBusy := none, authFails := 0 }) :=
  occurs_pos (by simp [h8, hb, hat])

theorem State.ringFail_setRingFail (s : State) (r : RingFail) : (s.setRingFail r).ringFail r.addr = r := by
  unfold State.ringFail State.setRingFail
  dsimp only
  rw [List.find?_append, List.find?_eq_none.mpr (by simp)]
  simp

theorem authBusyEnd_ring (s : State) (a until_ : Nat) (hb : (s.ringFail a).busy = some until_) (hat : until_ ≤ s.pwr.opTime) :
    ∃ t, exec (.authBusyEnd true a) s = .next t ∧ t.ringFail a = ⟨a, 0, none⟩ ∧ t = { s with sec.ringFails := t.sec.ringFails } :=
  ⟨_, occurs_pos (by simp [hb, hat]), s.ringFail_setRingFail ⟨a, 0, none⟩, rfl⟩

/-- Settles O44: one law for each row, the slots and the ring sources alike through what a failure and an opened session leave. -/
theorem sessionsAreAuthenticated : Obligations.SessionsAreAuthenticated :=
  ⟨authChallenge_answered, authChallenge_refused, authResponse_pending, authResponse_unasked, ringAuth_repeated, ringAuth_challenged,
    ringAuth_unknown, ringAuth_answered, challengeExpired_slot, challengeExpired_ring, authBusyEnd_slot, authBusyEnd_ring⟩

end Sys2Proof.Machine
end

section
/-!
PROOFS. Firmware images: staging, switch, trial and swap (19 R474 to R482).
-/
namespace Sys2Proof.Machine

/-! ## Completions of commands past their commit point (05 R108) -/

theorem State.tag_of_flight? {s : State} {tag : Nat} {f : Flight} (h : s.flight? tag = some f) : s.flight tag = f ∧ f.d.tag = tag :=
  ⟨by unfold State.flight; rw [h]; rfl, by simpa using List.find?_some h⟩

/-- The command of a tag completes. -/
theorem State.completed_of_flight (s u : State) {tag : Nat} {f : Flight} (hf : s.flight? tag = some f) (st : Status) (detail : Nat)
    (payload : List Byte) (committed after : Bool) (hu : u.host.store = s.host.store) :
    s.Completed (u.complete (s.flight tag) st detail payload committed after) tag st := by
  obtain ⟨hs, ht⟩ := s.tag_of_flight? hf
  rw [State.Completed, hs]
  refine ⟨⟨_, congrArg (· ++ _) hu, ht, rfl⟩, fun g hg => ?_⟩
  have hkeep := (List.mem_filter.mp hg).2
  rw [ht] at hkeep
  simpa using hkeep

theorem State.flight?_isSome_of_ready {s : State} {tag op : Nat} (h : s.hostReady tag op = true) : (s.flight? tag).isSome = true := by
  rw [(s.tag_of_hostReady h).2.2.2]
  rfl

/-! ## Staging (19 R475) -/

theorem length_writeData (p : List Byte) (n : Nat) : (writeData p n).length = n := by
  unfold writeData
  rw [List.length_take, List.length_append, List.length_replicate]
  omega

/-- A chunk goes into the staged slot. -/
def State.putChunk (s : State) (f : Flight) : State :=
  s.modFw s.sec.staged fun x => { x with bytes := memWriteN zeroByte x.bytes f.fwOff (writeData f.p f.fwLen) }

theorem State.fwSlot_modFw_self (s : State) {k : Nat} (g : FwSlot → FwSlot) (hk : k < s.sec.fw.length) :
    (s.modFw k g).fwSlot k = g (s.fwSlot k) := getD_modifyAt_self s.sec.fw k g {} hk

theorem State.fwSlot_modFw_ne (s : State) {j k : Nat} (g : FwSlot → FwSlot) (h : j ≠ k) : (s.modFw k g).fwSlot j = s.fwSlot j :=
  getD_modifyAt_ne s.sec.fw k j g {} h

theorem State.putChunk_bytes {s : State} {f : Flight} {k : Nat} (hk : s.sec.staged = k) (hl : k < s.sec.fw.length)
    (hwf : memWf zeroByte (s.fwSlot k).bytes = true) :
    (s.putChunk f).fwBytes k f.fwOff f.fwLen = writeData f.p f.fwLen ∧
      (∀ a, a < f.fwOff ∨ f.fwOff + f.fwLen ≤ a → (s.putChunk f).fwBytes k a 1 = s.fwBytes k a 1) ∧
      ∀ j, j ≠ k → (s.putChunk f).fwSlot j = s.fwSlot j := by
  subst hk
  have hself := s.fwSlot_modFw_self (fun x => { x with bytes := memWriteN zeroByte x.bytes f.fwOff (writeData f.p f.fwLen) }) hl
  have hlen := length_writeData f.p f.fwLen
  have hread := memReadN_memWriteN f.fwOff (writeData f.p f.fwLen) hwf
  refine ⟨?_, fun a ha => ?_, fun j hj => s.fwSlot_modFw_ne _ hj⟩
  · unfold State.fwBytes State.putChunk
    rw [hself]
    rw [hlen] at hread
    exact hread
  · unfold State.fwBytes State.putChunk
    rw [hself]
    exact congrArg (· :: []) (memRead_memWriteN_outside hwf (by rw [hlen]; exact ha))

/-- The slot is claimed by a BEGIN. -/
def State.maybeBegin (s : State) (f : Flight) : State := if f.fwFlag 0 then s.fwBegin f else s

theorem exec_fwStage {s : State} {tag : Nat} (h : s.Admitted tag 0x48 3) (hd : (s.flight tag).fwDiscards = false)
    (h1 : 1 ≤ (s.flight tag).fwLen) (h448 : (s.flight tag).fwLen ≤ 448) (hoff : (s.flight tag).fwOff + (s.flight tag).fwLen ≤ 1572864)
    (hb : (s.flight tag).fwFlag 0 = true → (s.flight tag).fwFlag 1 = false ∧ s.beginRefused (s.flight tag) = false)
    (hc : (s.flight tag).fwFlag 0 = false → s.sec.claim = some (s.flight tag).slot)
    (hlo : s.inLoader = true → getU (s.flight tag).p 1 1 ≤ 1) (hrun : s.inLoader = false → getU (s.flight tag).p 1 1 = 0) :
    exec (.fwStage tag) s = .next
      ((((s.noteSeq (s.flight tag)).maybeBegin (s.flight tag)).putChunk (s.flight tag)).complete (s.flight tag) .ok 0 [] true) := by
  refine (occurs_pos (by rw [h.1, hd]; rfl)).trans (congrArg _ ?_)
  rw [State.hostCmd_of_admitted h]
  have hload : (s.noteSeq (s.flight tag)).inLoader = s.inLoader := rfl
  have hbeg : (s.noteSeq (s.flight tag)).beginRefused (s.flight tag) = s.beginRefused (s.flight tag) := rfl
  have hcl : (s.noteSeq (s.flight tag)).sec = s.sec := rfl
  have hslot : ¬(if s.inLoader = true then decide (1 < getU (s.flight tag).p 1 1) else getU (s.flight tag).p 1 1 != 0) = true := by
    cases hin : s.inLoader with
    | true => simpa using hlo hin
    | false => simpa using hrun hin
  have hflags : ¬((s.flight tag).fwFlag 0 = true ∧ (s.flight tag).fwFlag 1 = true) := fun hf => by
    have hno := (hb hf.1).1
    rw [hf.2] at hno
    cases hno
  have hclaim : ¬(if (s.flight tag).fwFlag 0 = true then s.beginRefused (s.flight tag) else s.sec.claim != some (s.flight tag).slot) = true := by
    cases hf : (s.flight tag).fwFlag 0 with
    | true => simpa using (hb hf).2
    | false => simpa using hc hf
  rw [if_neg, if_neg]
  · rfl
  · rw [hbeg, hcl]
    exact hclaim
  · rw [hload]
    rintro (hz | hz | hz | hz | hz)
    · omega
    · omega
    · omega
    · exact hflags hz
    · exact hslot hz

theorem fwStage_stages (s : State) (tag k : Nat) (h : s.Admitted tag 0x48 3) (hd : (s.flight tag).fwDiscards = false)
    (h1 : 1 ≤ (s.flight tag).fwLen) (h448 : (s.flight tag).fwLen ≤ 448) (hoff : (s.flight tag).fwOff + (s.flight tag).fwLen ≤ 1572864)
    (hb : (s.flight tag).fwFlag 0 = true → (s.flight tag).fwFlag 1 = false ∧ s.beginRefused (s.flight tag) = false)
    (hc : (s.flight tag).fwFlag 0 = false → s.sec.claim = some (s.flight tag).slot)
    (hlo : s.inLoader = true → getU (s.flight tag).p 1 1 ≤ 1) (hrun : s.inLoader = false → getU (s.flight tag).p 1 1 = 0)
    (hk : k = (if (s.flight tag).fwFlag 0 then s.fwTarget (s.flight tag) else s.sec.staged)) (hl : k < s.sec.fw.length)
    (hwf : memWf zeroByte (s.fwSlot k).bytes) :
    ∃ t, exec (.fwStage tag) s = .next t ∧ s.Completed t tag .ok ∧ t.sec.claim = some (s.flight tag).slot ∧ t.sec.staged = k ∧
      t.fwBytes k (s.flight tag).fwOff (s.flight tag).fwLen = writeData (s.flight tag).p (s.flight tag).fwLen ∧
      (∀ a, a < (s.flight tag).fwOff ∨ (s.flight tag).fwOff + (s.flight tag).fwLen ≤ a → t.fwBytes k a 1 = s.fwBytes k a 1) ∧
      (∀ j, j ≠ k → t.fwSlot j = s.fwSlot j) ∧
      t = { s with host := t.host, sec.fw := t.sec.fw, sec.claim := t.sec.claim, sec.staged := t.sec.staged,
                   sec.confirmed := t.sec.confirmed, sec.fwStat := t.sec.fwStat } := by
  have hex := exec_fwStage h hd h1 h448 hoff hb hc hlo hrun
  -- the slot that the chunk goes into
  obtain ⟨host, conf, stat, hu⟩ : ∃ host conf stat, (s.noteSeq (s.flight tag)).maybeBegin (s.flight tag) =
      { s with host := host, sec.claim := some (s.flight tag).slot, sec.staged := k, sec.confirmed := conf, sec.fwStat := stat } ∧
      host.store = s.host.store := by
    unfold State.maybeBegin
    cases hf : (s.flight tag).fwFlag 0 with
    | true =>
      rw [hf, if_pos rfl] at hk
      rw [if_pos rfl, hk]
      exact ⟨(s.noteSeq (s.flight tag)).host, false, _, rfl, rfl⟩
    | false =>
      rw [hf, if_neg Bool.false_ne_true] at hk
      rw [if_neg Bool.false_ne_true, hk, ← hc hf]
      exact ⟨(s.noteSeq (s.flight tag)).host, s.sec.confirmed, s.sec.fwStat, rfl, rfl⟩
  obtain ⟨hu, hstore⟩ := hu
  rw [hu] at hex
  obtain ⟨hin, hout, hother⟩ := State.putChunk_bytes (s := { s with
    host := host, sec.claim := some (s.flight tag).slot, sec.staged := k, sec.confirmed := conf, sec.fwStat := stat })
    (f := s.flight tag) (k := k) rfl hl hwf
  exact ⟨_, hex, s.completed_complete _ tag 0x48 _ _ _ _ _ h.1 hstore, rfl, rfl, hin, hout, hother, rfl⟩

theorem fwStageDiscard_releases (s : State) (tag : Nat) (h : s.Admitted tag 0x48 3) (hd : (s.flight tag).fwDiscards = true)
    (hc : s.sec.claim = some (s.flight tag).slot) :
    ∃ t, exec (.fwStageDiscard tag) s = .next t ∧ s.Completed t tag .ok ∧
      t = { s with host := t.host, sec.claim := none, sec.fwStat := if s.sec.fwStat = 1 then 0 else s.sec.fwStat } := by
  have hex : exec (.fwStageDiscard tag) s = .next (({ s.noteSeq (s.flight tag) with
      sec.claim := none, sec.fwStat := if s.sec.fwStat = 1 then 0 else s.sec.fwStat } : State).complete (s.flight tag) .ok 0 [] true) := by
    refine (occurs_pos (by rw [h.1, hd]; rfl)).trans (congrArg _ ?_)
    rw [State.hostCmd_of_admitted h]
    exact if_neg fun hne => hne hc
  exact ⟨_, hex, s.completed_complete _ tag 0x48 _ _ _ _ _ h.1 rfl, rfl⟩

/-! ## Switches asked for (19 R476, R477) -/

/-- The command of a tag waits for a quiet point. -/
theorem State.awaitQuiet_facts (s : State) (f : Flight) (revert plain : Bool) {tag : Nat} (ht : f.d.tag = tag)
    (hs : (s.flight? tag).isSome = true) :
    ((s.awaitQuiet f revert plain).flight tag).phase = .quietWait ∧ (s.awaitQuiet f revert plain).host.store = s.host.store ∧
      s.awaitQuiet f revert plain = { s with
        host := (s.awaitQuiet f revert plain).host
        sec.statBefore := s.sec.fwStat, sec.fwStat := 2, sec.quietAt := s.pwr.opTime, sec.allowRestart := f.allowRestart
        sec.reverting := revert, sec.revertPlain := plain } := by
  subst ht
  exact ⟨State.flight_setPhase .quietWait hs, rfl, rfl⟩

/-- A refused operation is recorded and completes. -/
theorem State.fwRefused_facts {s : State} {tag : Nat} (st : Status) (h : s.hostReady tag 0x49 = true) :
    s.Completed ((s.noteSeq (s.flight tag)).fwRefused (s.flight tag) st) tag st ∧
      s.Records ((s.noteSeq (s.flight tag)).fwRefused (s.flight tag) st) 0x1204 3 0xFF ∧
      s.EventsOnly ((s.noteSeq (s.flight tag)).fwRefused (s.flight tag) st) [] ∧
      ∃ host dir tph, (s.noteSeq (s.flight tag)).fwRefused (s.flight tag) st = { s with host := host, dir := dir, tph := tph } := by
  have hrec : s.Records ((s.noteSeq (s.flight tag)).raise 0x1204 3) 0x1204 3 0xFF := .raise_after _ _ _ _ rfl rfl rfl rfl
  have hev : s.EventsOnly ((s.noteSeq (s.flight tag)).raise 0x1204 3) [] := (State.EventsOnly.of_eq [] rfl rfl).raise _ _ _ _
  obtain ⟨dir, tph, hr, -⟩ := (s.noteSeq (s.flight tag)).raise_eq 0x1204 3 0xFF []
  unfold State.fwRefused
  refine ⟨s.completed_complete _ tag 0x49 _ _ _ _ _ h ?_, hrec, hev.congr rfl rfl,
    ⟨(((s.noteSeq (s.flight tag)).raise 0x1204 3).complete (s.flight tag) st).host, dir, tph, ?_⟩⟩
  · rw [hr]
    rfl
  · rw [hr]
    rfl

/-- The outcome of a SWITCH. -/
def State.trySwitch (s : State) (f : Flight) (r : Option Status) : State :=
  match r with
  | some st => s.fwRefused f st
  | none =>
    if s.inLoader then
      ({ s.fwAdopt s.sec.staged with
        sec.active := s.sec.staged, sec.previous := 1 - s.sec.staged, sec.claim := none, sec.fwStat := 0 } : State).complete f .ok 0 [] true
    else (s.fwAdopt s.sec.staged).awaitQuiet f false false

theorem exec_fwSwitch {s : State} {tag : Nat} (h : s.Admitted tag 0x49 3) (hop : (s.flight tag).fwOp = 1) :
    exec (.fwSwitch tag) s = .next ((s.noteSeq (s.flight tag)).trySwitch (s.flight tag) (s.switchRefused (s.flight tag))) := by
  refine (occurs_pos (by rw [h.1, hop]; rfl)).trans (congrArg _ ?_)
  rw [State.hostCmd_of_admitted h]
  refine (if_neg fun hne => hne hop).trans ?_
  have hsame : (s.noteSeq (s.flight tag)).switchRefused (s.flight tag) = s.switchRefused (s.flight tag) := rfl
  rw [hsame]
  cases s.switchRefused (s.flight tag) <;> rfl

theorem fwSwitch_asked (s : State) (tag : Nat) (h : s.Admitted tag 0x49 3) (hop : (s.flight tag).fwOp = 1) (hin : s.inLoader = false) :
    ∃ t, exec (.fwSwitch tag) s = .next t ∧
      (∀ st, s.switchRefused (s.flight tag) = some st → s.Completed t tag st ∧ s.Records t 0x1204 3 0xFF ∧ t.sec = s.sec) ∧
      (s.switchRefused (s.flight tag) = none → (t.flight tag).phase = .quietWait ∧ t.host.store = s.host.store ∧
      t.sec.fwStat = 2 ∧
        t.sec.quietAt = s.pwr.opTime ∧ t.sec.reverting = false ∧ t.sec.active = s.sec.active) ∧
      s.EventsOnly t [] ∧ t = { s with host := t.host, dir := t.dir, tph := t.tph, sec := t.sec } := by
  have hex := exec_fwSwitch h hop
  cases hres : s.switchRefused (s.flight tag) with
  | some st =>
    rw [hres] at hex
    obtain ⟨hcpl, hrec, hev, host, dir, tph, hf⟩ := State.fwRefused_facts st h.1
    change exec (.fwSwitch tag) s = .next ((s.noteSeq (s.flight tag)).fwRefused (s.flight tag) st) at hex
    generalize (s.noteSeq (s.flight tag)).fwRefused (s.flight tag) st = t at *
    refine ⟨t, hex, fun st' he => ?_, fun hno => (by cases hno), hev, by rw [hf]⟩
    obtain rfl := Option.some.inj he
    exact ⟨hcpl, hrec, by rw [hf]⟩
  | none =>
    rw [hres] at hex
    have hload : (s.noteSeq (s.flight tag)).inLoader = false := hin
    unfold State.trySwitch at hex
    dsimp only at hex
    rw [hload, if_neg Bool.false_ne_true] at hex
    obtain ⟨hph, hst, hf⟩ := ((s.noteSeq (s.flight tag)).fwAdopt (s.noteSeq (s.flight tag)).sec.staged).awaitQuiet_facts
      (s.flight tag) false false (State.tag_of_hostReady h.1).1 (State.flight?_isSome_of_ready h.1)
    exact ⟨_, hex, fun st he => (by cases he), fun _ => ⟨hph, hst, rfl, rfl, rfl, rfl⟩, .of_eq [] rfl rfl, hf.trans rfl⟩

theorem quietPoint_commits (s : State) (tag : Nat) (f : Flight) (hs : s.lmpServes = true) (hf : s.flight? tag = some f)
    (hph : f.phase = .quietWait) (hq : s.quiet = true) :
    ∃ t, exec (.quietPoint tag) s = .next t ∧ (t.flight tag).phase = .switching ∧ t.host.store = s.host.store ∧
      t.lmp.restarting = !s.readsHandover s.switchTo ∧
      t = { s with host := t.host, lmp := t.lmp, tph.bufLost := t.tph.bufLost } := by
  have hex : exec (.quietPoint tag) s = .next (if s.readsHandover s.switchTo then s.setPhase tag .switching
      else { s.setPhase tag .switching with lmp.restarting := true, lmp.cause := 3, host.lmpRestart := true, tph.bufLost := 0 }) := by
    refine (occurs_pos ?_).trans rfl
    rw [hs, (s.tag_of_flight? hf).1, hph, hf, hq]
    rfl
  have hphase : ((s.setPhase tag .switching).flight tag).phase = .switching := State.flight_setPhase .switching (by rw [hf]; rfl)
  have hup : s.lmp.restarting = false := by
    unfold State.lmpServes at hs
    simp only [Bool.and_eq_true, Bool.not_eq_true'] at hs
    exact hs.1.1
  refine ⟨_, hex, ?_⟩
  cases s.readsHandover s.switchTo with
  | true => exact ⟨hphase, rfl, hup, rfl⟩
  | false => exact ⟨hphase, rfl, rfl, rfl⟩

theorem quietPointTimeout_ends (s : State) (tag : Nat) (f : Flight) (hf : s.flight? tag = some f) (hph : f.phase = .quietWait)
    (hat : s.sec.quietAt + s.parN Idx.SEC_QUIETMAX ≤ s.pwr.opTime) :
    ∃ t, exec (.quietPointTimeout tag) s = .next t ∧ s.Completed t tag .timeout ∧
      t = { s with host := t.host, sec.fwStat := s.sec.statBefore } := by
  refine ⟨_, occurs_pos ?_, s.completed_of_flight { s with sec.fwStat := s.sec.statBefore } hf _ _ _ _ _ rfl, rfl⟩
  rw [hf, (s.tag_of_flight? hf).1, hph, decide_eq_true hat]
  rfl

/-! ## The new LMP, CONFIRM and REVERT (19 R477 to R479) -/

theorem fwif_noConfig : isConfig Idx.DEV_FWIF = false := by decide +kernel
theorem switches_noConfig : isConfig Idx.SEC_SWITCHES = false := by decide +kernel
theorem switches_top : (paramInfo Idx.SEC_SWITCHES).map (fun r => r.hi) = some (2 ^ 32 - 1) := by decide +kernel
theorem minSvn_noConfig : isConfig Idx.SEC_MINSVN = false := by decide +kernel

theorem State.planSwap_eq (s : State) : ∃ stat first run,
    s.planSwap = { s with sec.fwStat := stat, sec.firstDormant := first, sec.swapRun := run } ∧ stat ≠ 3 := by
  unfold State.planSwap
  split
  · exact ⟨4, true, 0, rfl, by decide⟩
  · exact ⟨0, false, s.sec.swapRun, rfl, by decide⟩

/-- The other slot is the active one. -/
def State.swapSlots (s : State) : State :=
  { s with sec.previous := s.sec.active, sec.active := s.switchTo, sec.claim := none, sec.measDirty := true }

/-- The switch is counted, with the interface of the new image. -/
def State.countSwitch (s : State) (fwif : Nat) : State := (s.setOwn Idx.DEV_FWIF fwif).bump Idx.SEC_SWITCHES

/-- A trial begins, or a revert ends. -/
def State.beginTrial (s : State) : State :=
  if s.sec.revertPlain then s.planSwap else { s with sec.fwStat := if s.sec.reverting then 0 else 3 }

theorem State.switched_eq (s : State) : s.switched =
    ({ (s.swapSlots.countSwitch (s.fwSlot s.switchTo).fwif).beginTrial with sec.reverting := false, sec.revertPlain := false } : State).raise
      0x1201 1 := rfl

theorem State.countSwitch_facts (s : State) (fwif : Nat) :
    (∃ dir, s.countSwitch fwif = { s with dir := dir }) ∧ (s.countSwitch fwif).par Idx.DEV_FWIF = fwif ∧
      (s.countSwitch fwif).par Idx.SEC_SWITCHES = min (s.par Idx.SEC_SWITCHES + 1) (2 ^ 32 - 1) ∧
      s.EventsOnly (s.countSwitch fwif) [Idx.DEV_FWIF, Idx.SEC_SWITCHES] := by
  obtain ⟨d1, h1, -⟩ := s.setOwn_eq (fwif : Int) fwif_noConfig
  obtain ⟨d2, h2, -⟩ := (s.setOwn Idx.DEV_FWIF fwif).bump_eq 1 switches_noConfig
  refine ⟨⟨d2, ?_⟩, ?_, ?_, ((State.EventsOnly.refl s _).setOwn _ (by simp) fwif_noConfig).bump 1 (by simp) switches_noConfig⟩
  · unfold State.countSwitch
    rw [h2, h1]
  · exact (State.par_bump _ _ _ _ switches_noConfig (by decide)).trans ((s.par_setOwn' _ _ _ fwif_noConfig).trans (if_pos rfl))
  · unfold State.countSwitch
    rw [State.par_bump_top _ switches_noConfig switches_top, s.par_setOwn' _ _ _ fwif_noConfig, if_neg (by decide)]
    rfl

theorem State.beginTrial_eq (s : State) : ∃ stat first run,
    s.beginTrial = { s with sec.fwStat := stat, sec.firstDormant := first, sec.swapRun := run } ∧
      (s.sec.revertPlain = false → stat = if s.sec.reverting then 0 else 3) := by
  unfold State.beginTrial
  split
  · next hp =>
    obtain ⟨stat, first, run, h, -⟩ := s.planSwap_eq
    exact ⟨stat, first, run, h, fun hno => absurd (hp.symm.trans hno) (by simp)⟩
  · exact ⟨_, _, _, rfl, fun _ => rfl⟩

/-- What the new LMP leaves. -/
theorem State.switched_facts (s : State) : ∃ dir tph stat first run,
    s.switched = { s with
      dir := dir, tph := tph, sec.previous := s.sec.active, sec.active := s.switchTo, sec.claim := none, sec.measDirty := true
      sec.fwStat := stat, sec.firstDormant := first, sec.swapRun := run, sec.reverting := false, sec.revertPlain := false } ∧
    (s.sec.revertPlain = false → stat = if s.sec.reverting then 0 else 3) ∧
    s.switched.par Idx.DEV_FWIF = (s.fwSlot s.switchTo).fwif ∧
    s.switched.par Idx.SEC_SWITCHES = min (s.par Idx.SEC_SWITCHES + 1) (2 ^ 32 - 1) ∧
    s.EventsOnly s.switched [Idx.DEV_FWIF, Idx.SEC_SWITCHES] := by
  obtain ⟨⟨d1, hc⟩, hfwif, hcount, hev⟩ := s.swapSlots.countSwitch_facts (s.fwSlot s.switchTo).fwif
  rw [s.switched_eq]
  generalize s.swapSlots.countSwitch (s.fwSlot s.switchTo).fwif = u at *
  obtain ⟨stat, first, run, ht, hstat⟩ := u.beginTrial_eq
  have hev' : s.EventsOnly ({ u.beginTrial with sec.reverting := false, sec.revertPlain := false } : State) [Idx.DEV_FWIF, Idx.SEC_SWITCHES] :=
    (State.EventsOnly.of_eq _ rfl rfl).trans (hev.congr (by rw [ht]) (by rw [ht]))
  have hpar (i : Nat) (hi : i ≠ Idx.TPH_BUFDROPS) :
      (({ u.beginTrial with sec.reverting := false, sec.revertPlain := false } : State).raise 0x1201 1).par i = u.par i :=
    (State.par_raise _ _ _ _ _ _ hi).trans (State.par_congr (by rw [ht]) i)
  obtain ⟨d2, p2, hr, -⟩ := ({ u.beginTrial with sec.reverting := false, sec.revertPlain := false } : State).raise_eq 0x1201 1 0xFF []
  refine ⟨d2, p2, stat, first, run, ?_, ?_, (hpar _ (by decide)).trans hfwif, (hpar _ (by decide)).trans hcount, hev'.raise _ _ _ _⟩
  · rw [hr, ht, hc]
    rfl
  · rw [hc] at hstat
    exact hstat

theorem secFwSwitched_completes (s : State) (tag : Nat) (f : Flight) (hf : s.flight? tag = some f) (hph : f.phase = .switching)
    (hup : s.lmp.restarting = false) (he : s.engines = true) :
    ∃ t, exec (.secFwSwitched tag) s = .next t ∧ s.Completed t tag .ok ∧ t.sec.active = s.switchTo ∧
    t.sec.previous = s.sec.active ∧
      t.sec.claim = none ∧ t.sec.measDirty = true ∧
      (s.sec.revertPlain = false → t.sec.fwStat = if s.sec.reverting then 0 else 3) ∧
      t.par Idx.DEV_FWIF = (s.fwSlot s.switchTo).fwif ∧ t.par Idx.SEC_SWITCHES = min (s.par Idx.SEC_SWITCHES + 1) (2 ^ 32 - 1) ∧
      s.EventsOnly t [Idx.DEV_FWIF, Idx.SEC_SWITCHES] ∧ t = { s with host := t.host, dir := t.dir, tph := t.tph, sec := t.sec } := by
  have hex : exec (.secFwSwitched tag) s = .next (s.switched.complete (s.flight tag) .ok 0 [] true) :=
    occurs_pos (by rw [hf, (s.tag_of_flight? hf).1, hph, hup, he]; rfl)
  obtain ⟨dir, tph, stat, first, run, hw, hstat, hfwif, hcount, hev⟩ := s.switched_facts
  refine ⟨_, hex, s.completed_of_flight s.switched hf _ _ _ _ _ (by rw [hw]), ?_, ?_, ?_, ?_, fun hp => ?_, hfwif, hcount, hev.congr rfl rfl, ?_⟩
  all_goals rw [hw]
  · rfl
  · rfl
  · rfl
  · rfl
  · exact hstat hp
  · rfl

/-- The rollback limit follows the active image. -/
def State.raiseLimit (s : State) : State :=
  if s.parN Idx.SEC_MINSVN < s.fwActive.svn then s.setOwn Idx.SEC_MINSVN s.fwActive.svn else s

theorem State.raiseLimit_facts (s : State) : (∃ dir, s.raiseLimit = { s with dir := dir }) ∧
    s.raiseLimit.parN Idx.SEC_MINSVN = max (s.parN Idx.SEC_MINSVN) s.fwActive.svn ∧
    s.EventsOnly s.raiseLimit [Idx.SEC_MINSVN] := by
  unfold State.raiseLimit
  split
  · next h =>
    obtain ⟨dir, hd, -⟩ := s.setOwn_eq (s.fwActive.svn : Int) minSvn_noConfig
    refine ⟨⟨dir, hd⟩, ?_, (State.EventsOnly.refl s _).setOwn _ (by simp) minSvn_noConfig⟩
    unfold State.parN
    rw [s.par_setOwn' _ _ _ minSvn_noConfig, if_pos rfl]
    exact (Nat.max_eq_right (Nat.le_of_lt h)).symm
  · next h => exact ⟨⟨s.dir, rfl⟩, (Nat.max_eq_left (Nat.le_of_not_lt h)).symm, .refl s _⟩

theorem exec_fwConfirm {s : State} {tag : Nat} (h : s.Admitted tag 0x49 3) (hop : (s.flight tag).fwOp = 2) :
    exec (.fwConfirm tag) s = .next (if s.sec.fwStat ≠ 3 then (s.noteSeq (s.flight tag)).complete (s.flight tag) .state
      else ((({ (s.noteSeq (s.flight tag)).raiseLimit with sec.confirmed := true } : State).planSwap).raise 0x1202 2).complete
        (s.flight tag) .ok 0 [] true) := by
  refine (occurs_pos (by unfold State.switchOp; rw [h.1, hop]; rfl)).trans (congrArg _ ?_)
  rw [State.hostCmd_of_admitted h]
  rfl

theorem fwConfirm_confirms (s : State) (tag : Nat) (h : s.Admitted tag 0x49 3) (hop : (s.flight tag).fwOp = 2) :
    ∃ t, exec (.fwConfirm tag) s = .next t ∧
      (s.sec.fwStat = 3 → s.Completed t tag .ok ∧ t.sec.confirmed = true ∧ t.sec.fwStat ≠ 3 ∧
        t.parN Idx.SEC_MINSVN = max (s.parN Idx.SEC_MINSVN) s.fwActive.svn ∧ s.Records t 0x1202 2 0xFF) ∧
      (s.sec.fwStat ≠ 3 → s.Completed t tag .state ∧ t.sec = s.sec ∧ t.dir = s.dir) ∧
      s.ParsKept t [Idx.TPH_BUFDROPS, Idx.SEC_MINSVN] ∧ t = { s with host := t.host, dir := t.dir, tph := t.tph, sec := t.sec } := by
  have hex := exec_fwConfirm h hop
  by_cases hst : s.sec.fwStat = 3
  · rw [if_neg fun hne => hne hst] at hex
    obtain ⟨⟨dir, hl⟩, hsvn, hev⟩ := (s.noteSeq (s.flight tag)).raiseLimit_facts
    generalize (s.noteSeq (s.flight tag)).raiseLimit = u at *
    obtain ⟨stat, first, run, hp, hne⟩ := ({ u with sec.confirmed := true } : State).planSwap_eq
    have hev' : s.EventsOnly ({ u with sec.confirmed := true } : State).planSwap [Idx.SEC_MINSVN] :=
      (State.EventsOnly.of_eq _ rfl rfl).trans (hev.congr (by rw [hp]) (by rw [hp]))
    have hrec : s.Records ((({ u with sec.confirmed := true } : State).planSwap).raise 0x1202 2) 0x1202 2 0xFF :=
      (State.records_raise _ _ _ _ _).after hev'.2.2 (hev'.1 _ (by decide)) (by rw [hp, hl]; rfl) (by rw [hp, hl]; rfl)
    have hpar : ((({ u with sec.confirmed := true } : State).planSwap).raise 0x1202 2).parN Idx.SEC_MINSVN = u.parN Idx.SEC_MINSVN :=
      congrArg Int.toNat ((State.par_raise _ _ _ _ _ _ (by decide)).trans (State.par_congr (by rw [hp]) _))
    have hkept := (hev'.raise 0x1202 2 0xFF []).1
    obtain ⟨d2, p2, hr, -⟩ := (({ u with sec.confirmed := true } : State).planSwap).raise_eq 0x1202 2 0xFF []
    have hframe : (({ u with sec.confirmed := true } : State).planSwap).raise 0x1202 2 = { s.noteSeq (s.flight tag) with
      dir := d2, tph := p2, sec.confirmed := true, sec.fwStat := stat, sec.firstDormant := first, sec.swapRun := run } := by
      rw [hr, hp, hl]
    generalize (({ u with sec.confirmed := true } : State).planSwap).raise 0x1202 2 = v at *
    refine ⟨_, hex, fun _ => ⟨s.completed_complete v tag 0x49 _ _ _ _ _ h.1 (by rw [hframe]; rfl), ?_, ?_, hpar.trans (hsvn.trans rfl), hrec⟩,
      fun hno => absurd hst hno, hkept, ?_⟩
    all_goals rw [hframe]
    · rfl
    · exact hne
    · rfl
  · rw [if_pos hst] at hex
    exact ⟨_, hex, fun he => absurd he hst, fun _ => ⟨s.completed_complete _ tag 0x49 _ _ _ _ _ h.1 rfl, rfl, rfl⟩, fun _ _ => rfl, rfl⟩

theorem exec_fwRevert {s : State} {tag : Nat} (h : s.Admitted tag 0x49 3) (hop : (s.flight tag).fwOp = 3) :
    exec (.fwRevert tag) s = .next (
      if s.sec.fwStat = 3 then (s.noteSeq (s.flight tag)).awaitQuiet (s.flight tag) true false
      else if s.sec.fwStat = 2 ∨ !s.sec.confirmed then (s.noteSeq (s.flight tag)).complete (s.flight tag) .state
      else if (s.fwSlot s.sec.previous).svn < s.parN Idx.SEC_MINSVN then (s.noteSeq (s.flight tag)).fwRefused (s.flight tag) .denied
      else (s.noteSeq (s.flight tag)).awaitQuiet (s.flight tag) true true) := by
  refine (occurs_pos (by unfold State.switchOp; rw [h.1, hop]; rfl)).trans (congrArg _ ?_)
  rw [State.hostCmd_of_admitted h]
  rfl

theorem fwRevert_reverts (s : State) (tag : Nat) (h : s.Admitted tag 0x49 3) (hop : (s.flight tag).fwOp = 3) :
    ∃ t, exec (.fwRevert tag) s = .next t ∧
      (s.sec.fwStat = 3 ∨ (s.sec.fwStat ≠ 2 ∧ s.sec.confirmed = true ∧
          s.parN Idx.SEC_MINSVN ≤ (s.fwSlot s.sec.previous).svn) →
        (t.flight tag).phase = .quietWait ∧ t.host.store = s.host.store ∧ t.sec.reverting = true ∧ t.sec.fwStat = 2 ∧
        t.switchTo = s.sec.previous) ∧
      (s.sec.fwStat = 2 ∨ (s.sec.fwStat ≠ 3 ∧ s.sec.confirmed = false) → s.Completed t tag .state ∧ t.sec = s.sec) ∧
      (s.sec.fwStat ≠ 2 → s.sec.fwStat ≠ 3 → s.sec.confirmed = true →
        (s.fwSlot s.sec.previous).svn < s.parN Idx.SEC_MINSVN → s.Completed t tag .denied ∧ s.Records t 0x1204 3 0xFF ∧
        t.sec = s.sec) ∧
      s.EventsOnly t [] ∧ t = { s with host := t.host, dir := t.dir, tph := t.tph, sec := t.sec } := by
  have hex := exec_fwRevert h hop
  have hwait (plain : Bool) := (s.noteSeq (s.flight tag)).awaitQuiet_facts (s.flight tag) true plain (State.tag_of_hostReady h.1).1
    (State.flight?_isSome_of_ready h.1)
  by_cases h3 : s.sec.fwStat = 3
  · rw [if_pos h3] at hex
    obtain ⟨hph, hst, hf⟩ := hwait false
    exact ⟨_, hex, fun _ => ⟨hph, hst, rfl, rfl, rfl⟩, fun hno => (by omega), fun _ hno => absurd h3 hno, .of_eq [] rfl rfl, hf.trans rfl⟩
  rw [if_neg h3] at hex
  by_cases hstate : s.sec.fwStat = 2 ∨ s.sec.confirmed = false
  · rw [if_pos (by simpa using hstate)] at hex
    refine ⟨_, hex, fun hgo => ?_, fun _ => ⟨s.completed_complete _ tag 0x49 _ _ _ _ _ h.1 rfl, rfl⟩, fun h2 _ hc _ => ?_, .of_eq [] rfl rfl, rfl⟩
    · rcases hgo with hgo | ⟨h2, hc, -⟩
      · exact absurd hgo h3
      · rcases hstate with hs | hs
        · exact absurd hs h2
        · rw [hc] at hs
          cases hs
    · rcases hstate with hs | hs
      · exact absurd hs h2
      · rw [hc] at hs
        cases hs
  rw [if_neg (by simpa using hstate)] at hex
  have hnot : ¬(s.sec.fwStat = 2 ∨ s.sec.fwStat ≠ 3 ∧ s.sec.confirmed = false) := fun hno => hstate (hno.imp_right And.right)
  by_cases hsvn : (s.fwSlot s.sec.previous).svn < s.parN Idx.SEC_MINSVN
  · rw [if_pos hsvn] at hex
    obtain ⟨hcpl, hrec, hev, host, dir, tph, hf⟩ := State.fwRefused_facts .denied h.1
    generalize (s.noteSeq (s.flight tag)).fwRefused (s.flight tag) .denied = t at *
    exact ⟨t, hex, fun hgo => by omega, fun hno => absurd hno hnot, fun _ _ _ _ => ⟨hcpl, hrec, by rw [hf]⟩, hev, by rw [hf]⟩
  · rw [if_neg hsvn] at hex
    obtain ⟨hph, hst, hf⟩ := hwait true
    exact ⟨_, hex, fun _ => ⟨hph, hst, rfl, rfl, rfl⟩, fun hno => absurd hno hnot, fun _ _ _ hlt => absurd hlt hsvn, .of_eq [] rfl rfl,
      hf.trans rfl⟩

/-! ## Swaps of the safety channels (19 R480) -/

/-- The channel runs the active image. -/
def State.swapChannel (s : State) (ch : Nat) : State :=
  if ch = 0 then { s with sec.swapping := false, sec.safA := s.sec.active, sec.swapRun := 0 }
  else { s with sec.swapping := false, sec.safB := s.sec.active, sec.fwStat := 0 }

/-- The swap of Wick A ends it when Wick B needs none. -/
def State.endSwap (s : State) (ch : Nat) : State :=
  if ch = 0 ∧ !s.channelStale s.sec.safB then { s with sec.fwStat := 0, sec.measDirty := true } else { s with sec.measDirty := true }

theorem State.swapChannel_eq (s : State) {ch : Nat} (h : ch < 2) : ∃ a b run stat,
    (s.swapChannel ch).endSwap ch = { s with
      sec.swapping := false, sec.safA := a, sec.safB := b, sec.swapRun := run, sec.fwStat := stat, sec.measDirty := true } ∧
    (if ch = 0 then a else b) = s.sec.active ∧ (if ch = 0 then b else a) = (if ch = 0 then s.sec.safB else s.sec.safA) ∧
    (ch = 1 → stat = 0) := by
  unfold State.swapChannel State.endSwap
  by_cases h0 : ch = 0
  · subst h0
    simp only [if_pos]
    split
    · exact ⟨_, _, _, _, rfl, rfl, rfl, fun hno => by cases hno⟩
    · exact ⟨_, _, _, _, rfl, rfl, rfl, fun hno => by cases hno⟩
  · simp only [if_neg h0]
    rw [if_neg fun hno => h0 hno.1]
    exact ⟨_, _, _, _, rfl, rfl, rfl, fun _ => rfl⟩

theorem exec_secSafSwapped {s : State} {ch : Nat} (h : ch < 2) (hd : s.pwr.state = .dormant) (hsw : s.sec.swapping = true)
    (hdue : s.swapDue ch = true) (ok : Bool) :
    exec (.secSafSwapped ch ok) s = .next (
      if !ok then (({ s with sec.swapping := false } : State).safLockout 12 ch).answerRequest
      else ((s.swapChannel ch).endSwap ch).raise 0x1205 2 ch) := by
  refine (occurs_pos (by rw [hd, hsw, hdue, decide_eq_true h]; rfl)).trans (congrArg _ (if_congr Iff.rfl rfl ?_))
  unfold State.swapChannel State.endSwap
  refine congrArg (fun x => State.raise x 0x1205 2 ch) ?_
  by_cases h0 : ch = 0
  · simp only [if_pos h0]
    split <;> rfl
  · simp only [if_neg h0]
    rw [if_neg fun hno => h0 hno.1, if_neg fun hno => h0 hno.1]

theorem secSafSwapped_swaps (s : State) (ch : Nat) (h : ch < 2) (hd : s.pwr.state = .dormant) (hsw : s.sec.swapping = true)
    (hdue : s.swapDue ch = true) :
    ∃ t, exec (.secSafSwapped ch true) s = .next t ∧ (if ch = 0 then t.sec.safA else t.sec.safB) = s.sec.active ∧
      (if ch = 0 then t.sec.safB else t.sec.safA) = (if ch = 0 then s.sec.safB else s.sec.safA) ∧ t.sec.swapping = false ∧
      (ch = 1 → t.sec.fwStat = 0) ∧ t.sec.measDirty = true ∧ s.Records t 0x1205 2 ch ∧ s.EventsOnly t [] ∧
      t = { s with dir := t.dir, tph := t.tph, sec := t.sec } := by
  have hex : exec (.secSafSwapped ch true) s = .next (((s.swapChannel ch).endSwap ch).raise 0x1205 2 ch) := exec_secSafSwapped h hd hsw hdue true
  obtain ⟨a, b, run, stat, hu, hown, hother, hstat⟩ := s.swapChannel_eq h
  generalize (s.swapChannel ch).endSwap ch = u at *
  have hev : s.EventsOnly u [] := .of_eq [] (by rw [hu]) (by rw [hu])
  have hrec : s.Records (u.raise 0x1205 2 ch) 0x1205 2 ch :=
    (u.records_raise _ _ _ _).after hev.2.2 (hev.1 _ (by decide)) (by rw [hu]) (by rw [hu])
  obtain ⟨dir, tph, hr, -⟩ := u.raise_eq 0x1205 2 ch []
  have hsec : (u.raise 0x1205 2 ch).sec = u.sec := by rw [hr]
  refine ⟨_, hex, ?_, ?_, ?_, fun h1 => ?_, ?_, hrec, hev.raise _ _ _ _, by rw [hr, hu]⟩
  all_goals rw [hsec, hu]
  · exact hown
  · exact hother
  · exact hstat h1

/-- Completions change the host block only. -/
theorem State.foldl_complete_eq (st : Status) (r : List Byte) (committed : Bool) (fs : List Flight) (s : State) :
    ∃ host, fs.foldl (fun s f => s.complete f st 0 r committed) s = { s with host := host } := by
  induction fs generalizing s with
  | nil => exact ⟨s.host, rfl⟩
  | cons f fs ih =>
    obtain ⟨host, h⟩ := ih (s.complete f st 0 r committed)
    exact ⟨host, h⟩

/-- A request answered changes the host block and Geyser's acknowledgements. -/
theorem State.answerRequest_eq (s : State) : ∃ acks host, s.answerRequest =
    { s with pwr.geyserReq := false, gys.acks := acks, host := host } := by
  unfold State.answerRequest
  dsimp only
  split
  · obtain ⟨host, h⟩ := State.foldl_complete_eq .ok s.wakeResult true
      ((s.gysAck 11 (s.gys.acks.getD 11 {}).seq .ok).host.ops.filter fun f => f.phase == .dormantWait)
      (s.gysAck 11 (s.gys.acks.getD 11 {}).seq .ok)
    rw [h]
    exact ⟨_, host, rfl⟩
  · obtain ⟨host, h⟩ := State.foldl_complete_eq .ok s.wakeResult true (s.host.ops.filter fun f => f.phase == .dormantWait) s
    rw [h]
    exact ⟨s.gys.acks, host, rfl⟩

theorem secSafSwapped_fails (s : State) (ch : Nat) (h : ch < 2) (hd : s.pwr.state = .dormant) (hsw : s.sec.swapping = true)
    (hdue : s.swapDue ch = true) :
    ∃ t, exec (.secSafSwapped ch false) s = .next t ∧ s.LockedOut t 12 ∧
    s.EventsOnly t [Idx.SAF_LOCKCAUSE, Idx.HST_LEARNSTAT, Idx.HST_LEARNCAUSE] ∧
      t = { s with host := t.host, dir := t.dir, pwr := t.pwr, gys.acks := t.gys.acks, hst := t.hst, cle.slots := t.cle.slots,
                   dr0 := t.dr0, dr1 := t.dr1, saf := t.saf, fio.ch := t.fio.ch, can0 := t.can0, can1 := t.can1, tph := t.tph,
                   sec.swapping := false } := by
  have hex : exec (.secSafSwapped ch false) s = .next ((({ s with sec.swapping := false } : State).safLockout 12 ch).answerRequest) :=
    exec_secSafSwapped h hd hsw hdue false
  have hnl : ({ s with sec.swapping := false } : State).pwr.state ≠ .lockout := by
    rw [hd]
    decide
  obtain ⟨⟨hst, hcause, hrun, ha, hb, hitem, hrec⟩, hev, -, -, pwr, hst', dir, tph, slots, dr0, dr1, fch, can0, can1, saf, hf⟩ :=
    State.safLockout_facts (s := { s with sec.swapping := false }) 12 ch hnl
  generalize ({ s with sec.swapping := false } : State).safLockout 12 ch = u at *
  obtain ⟨acks, host, ht⟩ := u.answerRequest_eq
  have hsu : s.EventsOnly u [Idx.SAF_LOCKCAUSE, Idx.HST_LEARNSTAT, Idx.HST_LEARNCAUSE] := (State.EventsOnly.of_eq _ rfl rfl).trans hev
  have hrec' : s.Records u 0x0910 7 0xFF := hrec
  refine ⟨_, hex, ?_, hsu.congr (by rw [ht]) (by rw [ht]), ?_⟩
  · rw [ht]
    exact ⟨hst, hcause, hrun, ha, hb, hitem, hrec'⟩
  · rw [ht, hf]

theorem swapGapReached_opens (s : State) (h4 : s.sec.fwStat = 4) (ha : s.channelStale s.sec.safA = false)
    (hb : s.channelStale s.sec.safB = true) (hgap : 3600000 * s.parN Idx.SEC_SWAPGAP ≤ s.sec.swapRun) :
    exec .swapGapReached s = .next { s with sec.fwStat := 5 } := occurs_pos (by rw [h4, ha, hb, decide_eq_true hgap]; rfl)

/-- Settles O46: one law for each row; a switch by its stages, a staged chunk by the memory's read after write. -/
theorem firmwareIsStagedAndSwitched : Obligations.FirmwareIsStagedAndSwitched :=
  ⟨fwStage_stages, fwStageDiscard_releases, fwSwitch_asked, quietPoint_commits, quietPointTimeout_ends, secFwSwitched_completes,
    fwConfirm_confirms, fwRevert_reverts, secSafSwapped_swaps, secSafSwapped_fails, swapGapReached_opens⟩

end Sys2Proof.Machine
end

section
/-!
PROOFS. Thresholds of VIN and of the die's temperature (02 R32 to R34; 04 R80).
-/
namespace Sys2Proof.Machine

/-! ## Measured values (02 R32; 04 R80) -/

theorem vin_noConfig : isConfig Idx.PWR_VIN = false := by decide +kernel
theorem vinMin_noConfig : isConfig Idx.PWR_VINMIN = false := by decide +kernel
theorem tdie_noConfig : isConfig Idx.PWR_TDIE = false := by decide +kernel
theorem tdieMax_noConfig : isConfig Idx.PWR_TDIEMAX = false := by decide +kernel
theorem sagCount_noConfig : isConfig Idx.PWR_SAGCOUNT = false := by decide +kernel
theorem sagCount_top : (paramInfo Idx.PWR_SAGCOUNT).map (fun r => r.hi) = some (2 ^ 32 - 1) := by decide +kernel

abbrev vinPars : List Nat := [Idx.PWR_VIN, Idx.PWR_VINMIN]
abbrev tdiePars : List Nat := [Idx.PWR_TDIE, Idx.PWR_TDIEMAX]

/-- From `s` to `t` only parameters of the list changed, and nothing else. -/
structure State.ParsOnly (s t : State) (is : List Nat) : Prop where
  frame : ∃ dir, t = { s with dir := dir }
  kept : s.ParsKept t is
  events : s.EventsOnly t is

theorem State.ParsOnly.refl (s : State) (is : List Nat) : s.ParsOnly s is := ⟨⟨s.dir, rfl⟩, fun _ _ => rfl, .refl s is⟩

theorem State.ParsOnly.setOwn {s t : State} {is : List Nat} (h : s.ParsOnly t is) {i : Nat} (v : Int) (hi : i ∈ is)
    (hc : isConfig i = false) : s.ParsOnly (t.setOwn i v) is := by
  obtain ⟨dir, ht⟩ := h.frame
  obtain ⟨dir', hs, -⟩ := t.setOwn_eq v hc
  refine ⟨⟨dir', by rw [hs, ht]⟩, fun j hj => ?_, h.events.setOwn v hi hc⟩
  have hne : i ≠ j := by
    rintro rfl
    exact hj hi
  rw [t.par_setOwn' _ _ _ hc, if_neg hne]
  exact h.kept j hj

/-- A reading of VIN. -/
theorem State.noteVin_facts (s : State) (mV : Nat) : s.ParsOnly (s.noteVin mV) vinPars ∧
    (s.noteVin mV).par Idx.PWR_VIN = min (mV : Int) 40000 ∧
    (s.noteVin mV).par Idx.PWR_VINMIN = min (s.par Idx.PWR_VINMIN) (min (mV : Int) 40000) := by
  have hcast : ((min mV 40000 : Nat) : Int) = min (mV : Int) 40000 := by omega
  unfold State.noteVin
  rw [hcast]
  dsimp only
  generalize min (mV : Int) 40000 = c
  have hset := (State.ParsOnly.refl s vinPars).setOwn c (i := Idx.PWR_VIN) (by simp) vin_noConfig
  have hvin : (s.setOwn Idx.PWR_VIN c).par Idx.PWR_VIN = c := (s.par_setOwn' _ _ _ vin_noConfig).trans (if_pos rfl)
  have hmin : (s.setOwn Idx.PWR_VIN c).par Idx.PWR_VINMIN = s.par Idx.PWR_VINMIN :=
    (s.par_setOwn' _ _ _ vin_noConfig).trans (if_neg (by decide))
  generalize s.setOwn Idx.PWR_VIN c = u at *
  split
  · next hlt =>
    refine ⟨hset.setOwn _ (by simp) vinMin_noConfig, ?_, ?_⟩
    · rw [u.par_setOwn' _ _ _ vinMin_noConfig, if_neg (by decide), hvin]
    · rw [u.par_setOwn' _ _ _ vinMin_noConfig, if_pos rfl]
      omega
  · next hge =>
    refine ⟨hset, hvin, ?_⟩
    omega

/-- A reading of the die's temperature. -/
theorem State.noteTdie_facts (s : State) (v : Int) : s.ParsOnly (s.noteTdie v) tdiePars ∧
    (s.noteTdie v).par Idx.PWR_TDIE = clampInt (-550) 1500 v ∧
    (s.noteTdie v).par Idx.PWR_TDIEMAX = max (s.par Idx.PWR_TDIEMAX) (clampInt (-550) 1500 v) := by
  unfold State.noteTdie
  dsimp only
  generalize clampInt (-550) 1500 v = c
  have hset := (State.ParsOnly.refl s tdiePars).setOwn c (i := Idx.PWR_TDIE) (by simp) tdie_noConfig
  have hdie : (s.setOwn Idx.PWR_TDIE c).par Idx.PWR_TDIE = c := (s.par_setOwn' _ _ _ tdie_noConfig).trans (if_pos rfl)
  have hmax : (s.setOwn Idx.PWR_TDIE c).par Idx.PWR_TDIEMAX = s.par Idx.PWR_TDIEMAX :=
    (s.par_setOwn' _ _ _ tdie_noConfig).trans (if_neg (by decide))
  generalize s.setOwn Idx.PWR_TDIE c = u at *
  unfold State.peak
  split
  · next hlt =>
    refine ⟨hset.setOwn _ (by simp) tdieMax_noConfig, ?_, ?_⟩
    · rw [u.par_setOwn' _ _ _ tdieMax_noConfig, if_neg (by decide), hdie]
    · rw [u.par_setOwn' _ _ _ tdieMax_noConfig, if_pos rfl]
      omega
  · next hge =>
    refine ⟨hset, hdie, ?_⟩
    omega

theorem clampTdie_high {v : Int} (h : -550 ≤ v) : clampInt (-550) 1500 v = min v 1500 := by
  unfold clampInt
  omega

/-! ## Thresholds of VIN (02 R32 to R34, Table PWR-2) -/

/-- A measured threshold is recorded. -/
theorem State.ParsOnly.raise {s t : State} {is : List Nat} (h : s.ParsOnly t is) (hk : Idx.TPH_RECSEV ∉ Idx.TPH_BUFDROPS :: is)
    (code sev : Nat) :
    s.Records (t.raise code sev) code sev 0xFF ∧ s.EventsOnly (t.raise code sev) is ∧
      (∀ i, i ≠ Idx.TPH_BUFDROPS → (t.raise code sev).par i = t.par i) ∧
      ∃ dir tph, t.raise code sev = { s with dir := dir, tph := tph } := by
  obtain ⟨dir, ht⟩ := h.frame
  obtain ⟨dir', tph, hr, -⟩ := t.raise_eq code sev 0xFF []
  exact ⟨(t.records_raise _ _ _ _).after h.events.2.2 (h.events.1 _ hk) (by rw [ht]) (by rw [ht]), h.events.raise _ _ _ _,
    fun i hi => t.par_raise _ _ _ _ _ hi, dir', tph, by rw [hr, ht]⟩

theorem recsev_vinPars : Idx.TPH_RECSEV ∉ Idx.TPH_BUFDROPS :: vinPars := by decide
theorem recsev_tdiePars : Idx.TPH_RECSEV ∉ Idx.TPH_BUFDROPS :: tdiePars := by decide

theorem vinOv_recorded (s : State) (mV us : Nat) (ho : s.opCounts = true) (hn : s.pwr.vinOv = false) (hv : 32000 < mV) (hus : 1000 ≤ us) :
    ∃ t, exec (.vinOv mV us) s = .next t ∧ t.par Idx.PWR_VIN = min mV 40000 ∧ s.Records t 0x0106 3 0xFF ∧
      s.EventsOnly t [Idx.PWR_VIN, Idx.PWR_VINMIN] ∧ t = { s with dir := t.dir, pwr.vinOv := true, tph := t.tph } := by
  have hex : exec (.vinOv mV us) s = .next { (s.noteVin mV).raise 0x0106 3 with pwr.vinOv := true } :=
    occurs_pos (by simp [ho, hn, hv, hus])
  obtain ⟨hp, hvin, -⟩ := s.noteVin_facts mV
  obtain ⟨hrec, hev, hpar, dir, tph, hr⟩ := hp.raise recsev_vinPars 0x0106 3
  exact ⟨_, hex, ((hpar _ (by decide)).trans hvin).trans (by omega), hrec, hev.congr rfl rfl, by rw [hr]⟩

theorem vinOvClear_clears (s : State) (mV us : Nat) (ho : s.opCounts = true) (hn : s.pwr.vinOv = true) (hv : mV < 31000)
    (hus : 100000 ≤ us) :
    ∃ t, exec (.vinOvClear mV us) s = .next t ∧ t.par Idx.PWR_VIN = mV ∧ s.ParsKept t [Idx.PWR_VIN, Idx.PWR_VINMIN] ∧
      t = { s with dir := t.dir, pwr.vinOv := false } := by
  have hex : exec (.vinOvClear mV us) s = .next { s.noteVin mV with pwr.vinOv := false } := occurs_pos (by simp [ho, hn, hv, hus])
  obtain ⟨hp, hvin, -⟩ := s.noteVin_facts mV
  obtain ⟨dir, hd⟩ := hp.frame
  exact ⟨_, hex, hvin.trans (by omega), hp.kept, by rw [hd]⟩

theorem vinWarn_recorded (s : State) (mV us : Nat) (ho : s.opCounts = true) (hn : s.pwr.vinWarn = false) (hv : mV < 19000)
    (hus : 1000 ≤ us) :
    ∃ t, exec (.vinWarn mV us) s = .next t ∧ t.par Idx.PWR_VIN = mV ∧ t.par Idx.PWR_VINMIN = min (s.par Idx.PWR_VINMIN) mV ∧
      s.Records t 0x0101 3 0xFF ∧ s.EventsOnly t [Idx.PWR_VIN, Idx.PWR_VINMIN] ∧
      t = { s with dir := t.dir, pwr.vinWarn := true, tph := t.tph } := by
  have hex : exec (.vinWarn mV us) s = .next { (s.noteVin mV).raise 0x0101 3 with pwr.vinWarn := true } :=
    occurs_pos (by simp [ho, hn, hv, hus])
  obtain ⟨hp, hvin, hmin⟩ := s.noteVin_facts mV
  obtain ⟨hrec, hev, hpar, dir, tph, hr⟩ := hp.raise recsev_vinPars 0x0101 3
  refine ⟨_, hex, ((hpar _ (by decide)).trans hvin).trans (by omega), ((hpar _ (by decide)).trans hmin).trans (by omega), hrec,
    hev.congr rfl rfl, by rw [hr]⟩

theorem vinWarnClear_recorded (s : State) (mV us : Nat) (ho : s.opCounts = true) (hn : s.pwr.vinWarn = true) (hv : 19500 < mV)
    (hus : 100000 ≤ us) :
    ∃ t, exec (.vinWarnClear mV us) s = .next t ∧ s.Records t 0x0102 2 0xFF ∧ s.EventsOnly t [Idx.PWR_VIN, Idx.PWR_VINMIN] ∧
      t = { s with dir := t.dir, pwr.vinWarn := false, tph := t.tph } := by
  have hex : exec (.vinWarnClear mV us) s = .next { (s.noteVin mV).raise 0x0102 2 with pwr.vinWarn := false } :=
    occurs_pos (by simp [ho, hn, hv, hus])
  obtain ⟨hrec, hev, -, dir, tph, hr⟩ := (s.noteVin_facts mV).1.raise recsev_vinPars 0x0102 2
  exact ⟨_, hex, hrec, hev.congr rfl rfl, by rw [hr]⟩

theorem vinRecover_recorded (s : State) (mV us : Nat) (ho : s.opCounts = true) (hn : s.pwr.sag = true) (hv : 17000 ≤ mV)
    (hus : 100000 ≤ us) :
    ∃ t, exec (.vinRecover mV us) s = .next t ∧ s.Records t 0x0104 2 0xFF ∧ s.EventsOnly t [Idx.PWR_VIN, Idx.PWR_VINMIN] ∧
      t = { s with dir := t.dir, pwr.sag := false, pwr.supplyRecovered := true, saf.endCause := 0x0104, tph := t.tph } := by
  have hex : exec (.vinRecover mV us) s = .next { (s.noteVin mV).raise 0x0104 2 with
      pwr.sag := false, pwr.supplyRecovered := true, saf.endCause := 0x0104 } := occurs_pos (by simp [ho, hn, hv, hus])
  obtain ⟨hrec, hev, -, dir, tph, hr⟩ := (s.noteVin_facts mV).1.raise recsev_vinPars 0x0104 2
  exact ⟨_, hex, hrec, hev.congr rfl rfl, by rw [hr]⟩

/-! ## A sag (02 R33) -/

theorem Door.gates_sagOff (b : Bool) (d : Door) : (d.sagOff b).gates = false := by
  unfold Door.sagOff
  split <;> rfl

/-- Both operators are without gates. -/
theorem State.gatesOff_gates (s : State) : s.gatesOff.dr0.gates = false ∧ s.gatesOff.dr1.gates = false := by
  obtain ⟨slots, h, -⟩ := ((s.modDoor true (Door.sagOff (s.parBit (Idx.DRn_CFG 0) 2))).modDoor false
    (Door.sagOff ((s.modDoor true (Door.sagOff (s.parBit (Idx.DRn_CFG 0) 2))).parBit (Idx.DRn_CFG 1) 2))).wantSlots_eq
      [0, 1, 2, 3, 4, 5, 6, 7, 8, 9, 10, 11] false
  unfold State.gatesOff
  dsimp only
  rw [h]
  exact ⟨Door.gates_sagOff _ _, Door.gates_sagOff _ _⟩

/-- Every output is off. -/
theorem State.allOff_facts (s : State) : ∃ hst dir tph slots dr0 dr1, s.allOff =
      { s with hst := hst, dir := dir, tph := tph, cle.slots := slots, dr0 := dr0, dr1 := dr1
               fio.ch := s.fio.ch.map fun c => { c with on := false }
               saf.chA := { s.saf.chA with sw := 0, grants := 0 }, saf.chB := { s.saf.chB with sw := 0, grants := 0 }
               saf.sodDr0 := none, saf.sodDr1 := none, saf.sodHst := none } ∧
    hst.st = .fault ∧ hst.enable = false ∧ dr0.gates = false ∧ dr1.gates = false ∧
    s.EventsOnly s.allOff [Idx.HST_LEARNSTAT, Idx.HST_LEARNCAUSE] := by
  have hoff : s.EventsOnly (s.openAll.gatesOff).fieldOff [Idx.HST_LEARNSTAT, Idx.HST_LEARNCAUSE] := .of_eq _ (by simp) (by simp)
  obtain ⟨hg0, hg1⟩ := s.openAll.gatesOff_gates
  obtain ⟨dr0, dr1, slots, hg⟩ := s.openAll.gatesOff_eq
  obtain ⟨hst, dir, tph, slots', hh, hfault, hdrop⟩ := ((s.openAll.gatesOff).fieldOff).hstTripped_eq
  have hev := hoff.trans ((s.openAll.gatesOff).fieldOff).hstTripped_eventsOnly
  unfold State.allOff
  rw [hg] at hg0 hg1 hh hev ⊢
  rw [hh] at hev ⊢
  exact ⟨hst, dir, tph, slots', dr0, dr1, rfl, hfault, hdrop.enable, hg0, hg1, hev⟩

/-- The parameters that a sag writes. -/
abbrev sagPars : List Nat := [Idx.PWR_VIN, Idx.PWR_VINMIN, Idx.PWR_SAGCOUNT, Idx.HST_LEARNSTAT, Idx.HST_LEARNCAUSE]

/-- The shutdown of a sag, before the device trips. -/
def State.sagged (s : State) (mV : Nat) : State := (((s.noteVin mV).sagOff).raise 0x0103 6).bump Idx.PWR_SAGCOUNT

/-- The state with every output off in a sag, with what the shutdown writes elsewhere. -/
def State.dark (s : State) (hst : Hst) (dir : Dir) (tph : Tph) (slots : List CSlot) (dr0 dr1 : Door) : State :=
  { s with hst := hst, dir := dir, tph := tph, cle.slots := slots, dr0 := dr0, dr1 := dr1
           fio.ch := s.fio.ch.map fun c => { c with on := false }
           fio.held := true, pwr.sag := true, pwr.supplyRecovered := false, gys.recoveredNow := false
           saf.chA := { s.saf.chA with sw := 0, grants := 0 }, saf.chB := { s.saf.chB with sw := 0, grants := 0 }
           saf.sodDr0 := none, saf.sodDr1 := none, saf.sodHst := none }

theorem State.sagged_facts (s : State) (mV : Nat) : ∃ hst dir tph slots dr0 dr1,
    s.sagged mV = s.dark hst dir tph slots dr0 dr1 ∧
    (hst.st = .fault ∧ hst.enable = false ∧ dr0.gates = false ∧ dr1.gates = false) ∧
    s.Records (s.sagged mV) 0x0103 6 0xFF ∧
    (s.sagged mV).par Idx.PWR_SAGCOUNT = min (s.par Idx.PWR_SAGCOUNT + 1) (2 ^ 32 - 1) ∧ s.EventsOnly (s.sagged mV) sagPars := by
  obtain ⟨⟨dir, hn⟩, hkept, hevn⟩ := (s.noteVin_facts mV).1
  obtain ⟨hst, dir1, tph, slots, dr0, dr1, hall, hfault, hen, hg0, hg1, hev⟩ := (s.noteVin mV).allOff_facts
  have hsag : (s.noteVin mV).sagOff = { (s.noteVin mV).allOff with
    pwr.sag := true, pwr.supplyRecovered := false, gys.recoveredNow := false, fio.held := true } := rfl
  have hoff : (s.noteVin mV).EventsOnly (s.noteVin mV).sagOff [Idx.HST_LEARNSTAT, Idx.HST_LEARNCAUSE] := hev.congr (by rw [hsag]) (by rw [hsag])
  have hevs : s.EventsOnly (s.noteVin mV).sagOff sagPars := (hevn.mono (by simp)).trans (hoff.mono (by simp))
  have hcount : (s.noteVin mV).sagOff.par Idx.PWR_SAGCOUNT = s.par Idx.PWR_SAGCOUNT :=
    (hoff.1 _ (by decide)).trans (hkept _ (by decide))
  have hframe : (s.noteVin mV).sagOff = s.dark hst dir1 tph slots dr0 dr1 := by
    rw [hsag, hall, hn]
    rfl
  unfold State.sagged
  generalize (s.noteVin mV).sagOff = u at *
  have hrec : s.Records (u.raise 0x0103 6) 0x0103 6 0xFF :=
    (u.records_raise _ _ _ _).after hevs.2.2 (hevs.1 _ (by decide)) (by rw [hframe]; rfl) (by rw [hframe]; rfl)
  obtain ⟨dir2, tph2, hr, -⟩ := u.raise_eq 0x0103 6 0xFF []
  obtain ⟨dir3, hb, -⟩ := (u.raise 0x0103 6).bump_eq 1 sagCount_noConfig
  refine ⟨hst, dir3, tph2, slots, dr0, dr1, ?_, ⟨hfault, hen, hg0, hg1⟩, hrec.mono ?_, ?_,
    (hevs.raise _ _ _ _).bump 1 (by simp) sagCount_noConfig⟩
  · rw [hb, hr, hframe]
    rfl
  · rw [hb]
  · rw [State.par_bump_top _ sagCount_noConfig sagCount_top, u.par_raise _ _ _ _ _ (by decide), hcount]
    rfl

theorem exec_vinSag {s : State} {mV us : Nat} (ho : s.opCounts = true) (hn : s.pwr.sag = false) (hv : mV < 16000) (hus : 2000 ≤ us)
    (hd : s.pwr.state ≠ .dormant) (he : s.pwr.entering = false) (hh : s.shf.handover = none) :
    exec (.vinSag mV us) s = .next ((s.sagged mV).toTripped 0x0103) := by
  obtain ⟨hst, dir, tph, slots, dr0, dr1, hframe, -⟩ := s.sagged_facts mV
  have hdark : (s.sagged mV).pwr.state ≠ .dormant := by
    rw [hframe]
    exact hd
  refine (occurs_pos (by simp [ho, hn, hv, hus])).trans (congrArg _ ?_)
  rw [he, hh]
  exact if_neg hdark

theorem vinSag_shuts (s : State) (mV us : Nat) (ho : s.opCounts = true) (hn : s.pwr.sag = false) (hv : mV < 16000) (hus : 2000 ≤ us)
    (hd : s.pwr.state ≠ .dormant) (he : s.pwr.entering = false) (hh : s.shf.handover = none) :
    ∃ t, exec (.vinSag mV us) s = .next t ∧ t.pwr.sag = true ∧ (s.pwr.state = .run → t.pwr.state = .tripped) ∧
      (∀ k, t.soClosed k = false) ∧ (∀ c ∈ t.fio.ch, c.on = false) ∧ t.dr0.gates = false ∧ t.dr1.gates = false ∧
      t.hst.st = .fault ∧
      t.hst.enable = false ∧ t.par Idx.PWR_SAGCOUNT = min (s.par Idx.PWR_SAGCOUNT + 1) (2 ^ 32 - 1) ∧ s.Records t 0x0103 6 0xFF ∧
      s.EventsOnly t [Idx.PWR_VIN, Idx.PWR_VINMIN, Idx.PWR_SAGCOUNT, Idx.HST_LEARNSTAT, Idx.HST_LEARNCAUSE] ∧
      t = { s with dir := t.dir, pwr := t.pwr, gys.recoveredNow := false, hst := t.hst, cle.slots := t.cle.slots, dr0 := t.dr0,
                   dr1 := t.dr1, saf := t.saf, fio := t.fio, tph := t.tph } := by
  have hex := exec_vinSag ho hn hv hus hd he hh
  obtain ⟨hst, dir, tph, slots, dr0, dr1, hframe, ⟨hfault, hen, hg0, hg1⟩, hrec, hcount, hev⟩ := s.sagged_facts mV
  generalize s.sagged mV = u at *
  obtain ⟨st, dir', tph', htrip, hrun⟩ := u.toTripped_eq 0x0103
  have hevt := u.toTripped_eventsOnly 0x0103 sagPars
  have hpar : (u.toTripped 0x0103).par Idx.PWR_SAGCOUNT = u.par Idx.PWR_SAGCOUNT := (u.toTripped_eventsOnly 0x0103 []).1 _ (by decide)
  generalize u.toTripped 0x0103 = t at *
  subst hframe
  refine ⟨t, hex, ?_, fun hr => ?_, fun k => ?_, fun c hc => ?_, ?_, ?_, ?_, ?_, hpar.trans hcount, hrec.mono hevt.2.2.2, hev.trans hevt, ?_⟩
  · rw [htrip]
    rfl
  · rw [htrip]
    exact hrun hr
  · rw [htrip]
    exact congrArg₂ and (Nat.zero_testBit k) (Nat.zero_testBit k)
  · rw [htrip] at hc
    obtain ⟨d, -, rfl⟩ := List.mem_map.mp hc
    rfl
  all_goals rw [htrip]
  · exact hg0
  · exact hg1
  · exact hfault
  · exact hen
  · rfl

/-! ## The die's temperature (04 R80) -/

theorem tempWarn_recorded (s : State) (tdie : Int) (ms : Nat) (ho : s.opCounts = true) (hn : s.pwr.tempHigh = false) (hv : 1300 < tdie)
    (hms : 1000 ≤ ms) :
    ∃ t, exec (.tempWarn tdie ms) s = .next t ∧ t.par Idx.PWR_TDIE = min tdie 1500 ∧
      t.par Idx.PWR_TDIEMAX = max (s.par Idx.PWR_TDIEMAX) (min tdie 1500) ∧ s.Records t 0x0110 3 0xFF ∧
      s.EventsOnly t [Idx.PWR_TDIE, Idx.PWR_TDIEMAX] ∧ t = { s with dir := t.dir, pwr.tempHigh := true, tph := t.tph } := by
  have hex : exec (.tempWarn tdie ms) s = .next { (s.noteTdie tdie).raise 0x0110 3 with pwr.tempHigh := true } :=
    occurs_pos (by simp [ho, hn, hv, hms])
  obtain ⟨hp, hdie, hmax⟩ := s.noteTdie_facts tdie
  rw [clampTdie_high (by omega)] at hdie hmax
  obtain ⟨hrec, hev, hpar, dir, tph, hr⟩ := hp.raise recsev_tdiePars 0x0110 3
  exact ⟨_, hex, (hpar _ (by decide)).trans hdie, (hpar _ (by decide)).trans hmax, hrec, hev.congr rfl rfl, by rw [hr]⟩

theorem tempHighClear_clears (s : State) (tdie : Int) (ho : s.opCounts = true) (hn : s.pwr.tempHigh = true) (hv : tdie < 1250) :
    ∃ t, exec (.tempHighClear tdie) s = .next t ∧ s.ParsKept t [Idx.PWR_TDIE, Idx.PWR_TDIEMAX] ∧
      t = { s with dir := t.dir, pwr.tempHigh := false } := by
  have hex : exec (.tempHighClear tdie) s = .next { s.noteTdie tdie with pwr.tempHigh := false } := occurs_pos (by simp [ho, hn, hv])
  obtain ⟨⟨dir, hd⟩, hkept, -⟩ := (s.noteTdie_facts tdie).1
  exact ⟨_, hex, hkept, by rw [hd]⟩

/-- The field outputs go off at a temperature trip. -/
def State.heated (s : State) : State :=
  { (s.addCause 7).fieldOff with pwr.tempTrip := true, pwr.supplyRecovered := false, gys.recoveredNow := false, fio.held := true }

theorem tempTrip_trips (s : State) (tdie : Int) (ms : Nat) (he : s.engines = true) (hn : s.pwr.tempTrip = false) (hv : 1400 < tdie)
    (hms : 1000 ≤ ms) :
    ∃ t, exec (.tempTrip tdie ms) s = .next t ∧ t.pwr.tempTrip = true ∧ (s.pwr.state = .run → t.pwr.state = .tripped) ∧
      (∀ c ∈ t.fio.ch, c.on = false) ∧ t.fio.held = true ∧ t.hst.causes.testBit 7 = true ∧ s.Records t 0x0111 6 0xFF ∧
      s.EventsOnly t [Idx.PWR_TDIE, Idx.PWR_TDIEMAX] ∧
      t = { s with dir := t.dir, pwr.state := t.pwr.state, pwr.tempTrip := true, pwr.supplyRecovered := false,
                   gys.recoveredNow := false, hst.causes := t.hst.causes, fio := t.fio, tph := t.tph } := by
  have hex : exec (.tempTrip tdie ms) s = .next ((((s.noteTdie tdie).raise 0x0111 6).heated).toTripped 0x0111) :=
    occurs_pos (by simp [he, hn, hv, hms])
  obtain ⟨hrec, hev, -, dir, tph, hr⟩ := (s.noteTdie_facts tdie).1.raise recsev_tdiePars 0x0111 6
  generalize (s.noteTdie tdie).raise 0x0111 6 = u at *
  obtain ⟨st, dir', tph', htrip, hrun⟩ := u.heated.toTripped_eq 0x0111
  have hevt := (hev.congr (u := u.heated) rfl rfl).trans (u.heated.toTripped_eventsOnly 0x0111 tdiePars)
  have hrect : s.Records (u.heated.toTripped 0x0111) 0x0111 6 0xFF :=
    (State.Records.mono (u := u.heated) hrec (List.prefix_refl _)).mono (u.heated.toTripped_eventsOnly 0x0111 []).2.2.2
  generalize u.heated.toTripped 0x0111 = t at *
  subst hr
  refine ⟨t, hex, ?_, fun h => ?_, fun c hc => ?_, ?_, ?_, hrect, hevt, ?_⟩
  · rw [htrip]
    rfl
  · rw [htrip]
    exact hrun h
  · rw [htrip] at hc
    obtain ⟨d, -, rfl⟩ := List.mem_map.mp hc
    rfl
  all_goals rw [htrip]
  · rfl
  · change (setBit s.hst.causes 7 true).testBit 7 = true
    rw [testBit_setBit, if_pos rfl]
  · rfl

theorem tempTripClear_clears (s : State) (tdie : Int) (ms : Nat) (he : s.engines = true) (hn : s.pwr.tempTrip = true) (hv : tdie < 1200)
    (hms : 60000 ≤ ms) :
    ∃ t, exec (.tempTripClear tdie ms) s = .next t ∧ t.hst.causes.testBit 7 = false ∧
      s.ParsKept t [Idx.PWR_TDIE, Idx.PWR_TDIEMAX] ∧
      t = { s with dir := t.dir, pwr.tempTrip := false, pwr.supplyRecovered := !s.pwr.sag, hst.causes := t.hst.causes,
                   saf.endCause := 0 } := by
  have hex : exec (.tempTripClear tdie ms) s = .next { (s.noteTdie tdie).dropCause 7 with
      pwr.tempTrip := false, pwr.supplyRecovered := !(s.noteTdie tdie).pwr.sag, saf.endCause := 0 } :=
    occurs_pos (by simp [he, hn, hv, hms])
  obtain ⟨⟨dir, hd⟩, hkept, -⟩ := (s.noteTdie_facts tdie).1
  refine ⟨_, hex, ?_, hkept, ?_⟩
  · change (setBit (s.noteTdie tdie).hst.causes 7 false).testBit 7 = false
    rw [testBit_setBit, if_pos rfl]
  · rw [hd]
    rfl

/-- Settles O48: each threshold by its reading and its record; a sag and a temperature trip by what they turn off. -/
theorem supplyAndTemperatureThresholds : Obligations.SupplyAndTemperatureThresholds :=
  ⟨vinOv_recorded, vinOvClear_clears, vinWarn_recorded, vinWarnClear_recorded, vinSag_shuts, vinRecover_recorded, tempWarn_recorded,
    tempHighClear_clears, tempTrip_trips, tempTripClear_clears⟩

end Sys2Proof.Machine
end

section
/-!
PROOFS. The AON supply and the crystals (02 R36, R37, R49 to R51).
-/
namespace Sys2Proof.Machine

/-! ## The AON supply (02 R49, R50, Table PWR-6) -/

theorem lastAon_noConfig : isConfig Idx.PWR_LASTAON = false := by decide +kernel
theorem vcell_noConfig : isConfig Idx.PWR_VCELL = false := by decide +kernel

theorem vinAon_toCell (s : State) (mV cell : Nat) (ha : s.pwr.state = .aon) (hv : s.pwr.aonOnVin = true) (hm : mV < 9000) :
    exec (.vinAon mV cell) s = .next { s with pwr.aonOnVin := false, pwr.holdup := decide (cell < 1800) } :=
  (occurs_pos (by simp [ha, hv, hm])).trans (congrArg _ (if_pos hv))

theorem vinAon_toVin (s : State) (mV cell : Nat) (ha : s.pwr.state = .aon) (hv : s.pwr.aonOnVin = false) (hm : 9500 ≤ mV) :
    exec (.vinAon mV cell) s = .next { s with pwr.aonOnVin := true, pwr.holdup := false } :=
  (occurs_pos (by simp [ha, hv, hm])).trans (congrArg _ (if_neg (by simp [hv])))

/-- The loss of the AON domain is noted when the cell brings it back. -/
def State.noteLoss (s : State) (mV : Nat) : State := if mV ≤ 9500 then s.setOwn Idx.PWR_LASTAON 4 else s

theorem State.noteLoss_facts (s : State) (mV : Nat) : s.ParsOnly (s.noteLoss mV) [Idx.PWR_LASTAON] ∧
    (mV ≤ 9500 → (s.noteLoss mV).par Idx.PWR_LASTAON = 4) := by
  unfold State.noteLoss
  split
  · exact ⟨(State.ParsOnly.refl s _).setOwn 4 (by simp) lastAon_noConfig,
      fun _ => (s.par_setOwn' _ _ _ lastAon_noConfig).trans (if_pos rfl)⟩
  · next h => exact ⟨.refl s _, fun hle => absurd hle h⟩

theorem vcellRise_starts (s : State) (mV cell : Nat) (hoff : s.pwr.state = .off) (hv : 2000 < cell ∨ 9500 < mV) :
    ∃ t, exec (.vcellRise cell mV) s = .next t ∧ (mV ≤ 9500 → t.par Idx.PWR_LASTAON = 4) ∧ s.ParsKept t [Idx.PWR_LASTAON] ∧
      t = { s with dir := t.dir, pwr.state := .aon, pwr.aonOnVin := decide (9500 < mV), pwr.holdup := false } := by
  have hex : exec (.vcellRise cell mV) s = .next { s.noteLoss mV with
      pwr.state := .aon, pwr.aonOnVin := decide (9500 < mV), pwr.holdup := false } := occurs_pos (by simpa [hoff] using hv)
  obtain ⟨⟨⟨dir, hd⟩, hkept, -⟩, hlast⟩ := s.noteLoss_facts mV
  exact ⟨_, hex, hlast, hkept, by rw [hd]⟩

theorem vcellFail_holds (s : State) (cell : Nat) (ha : s.pwr.state = .aon) (hv : s.pwr.aonOnVin = false) (hh : s.pwr.holdup = false)
    (hc : cell < 1800) : exec (.vcellFail cell) s = .next { s with pwr.holdup := true } := occurs_pos (by simp [ha, hv, hh, hc])

theorem aonHoldupExpired_resets (s : State) (us : Nat) (ha : s.pwr.state = .aon) (hh : s.pwr.holdup = true) (hus : 200 ≤ us) :
    ∃ t, exec (.aonHoldupExpired us) s = .next t ∧ t.pwr.state = .off ∧ t.pwr.opTimeStored = s.pwr.opTimeStored ∧
      t.pwr.pwrCyc = s.pwr.pwrCyc ∧ t.pwr.wakeLatch = 0 ∧ t.rtc.set = false ∧ t.rtc.cal = {} ∧ t.rtc.capture = none ∧
      t = { s with pwr := t.pwr, rtc := t.rtc } :=
  ⟨_, occurs_pos (by simp [ha, hh, hus]), rfl, rfl, rfl, rfl, rfl, rfl, rfl, rfl⟩

/-- The record of a low cell. -/
theorem State.measureCell_low (s : State) {mV : Nat} (h : mV < 2400) :
    (s.measureCell mV).par Idx.PWR_VCELL = mV ∧ s.Records (s.measureCell mV) 0x0108 3 0xFF ∧
      s.EventsOnly (s.measureCell mV) [Idx.PWR_VCELL] ∧ ∃ dir tph, s.measureCell mV = { s with dir := dir, tph := tph } := by
  have hset := (State.ParsOnly.refl s [Idx.PWR_VCELL]).setOwn (min (mV : Int) 4000) (by simp) vcell_noConfig
  have hcell : (s.setOwn Idx.PWR_VCELL (min (mV : Int) 4000)).par Idx.PWR_VCELL = min (mV : Int) 4000 :=
    (s.par_setOwn' _ _ _ vcell_noConfig).trans (if_pos rfl)
  have heq : s.measureCell mV = (s.setOwn Idx.PWR_VCELL (min (mV : Int) 4000)).raise 0x0108 3 0xFF [(1, b2n (decide (mV < 1800)))] := if_pos h
  rw [heq]
  generalize s.setOwn Idx.PWR_VCELL (min (mV : Int) 4000) = u at *
  obtain ⟨dir, hu⟩ := hset.frame
  obtain ⟨dir', tph, hr, -⟩ := u.raise_eq 0x0108 3 0xFF [(1, b2n (decide (mV < 1800)))]
  exact ⟨((u.par_raise _ _ _ _ _ (by decide)).trans hcell).trans (by omega),
    (u.records_raise _ _ _ _).after hset.events.2.2 (hset.events.1 _ (by decide)) (by rw [hu]) (by rw [hu]),
    hset.events.raise _ _ _ _, dir', tph, by rw [hr, hu]⟩

theorem cellLow_recorded (s : State) (mV : Nat) (ho : s.opCounts = true) (hv : mV < 2400) :
    ∃ t, exec (.cellLow mV) s = .next t ∧ t.par Idx.PWR_VCELL = mV ∧ s.Records t 0x0108 3 0xFF ∧ s.EventsOnly t [Idx.PWR_VCELL] ∧
      t = { s with dir := t.dir, tph := t.tph } := by
  obtain ⟨hpar, hrec, hev, dir, tph, hf⟩ := s.measureCell_low hv
  exact ⟨_, occurs_pos (by simp [ho, hv]), hpar, hrec, hev, by rw [hf]⟩

/-! ## The crystals (02 R36, R37) -/

/-- HOST and the LMP stop, and the ring with them. -/
def State.stopCore (s : State) : State :=
  { s with pwr.xtal25Bad := true, pwr.entering := false, pwr.recovery := false, shf.handover := none, host := {}, lmp := {}
           rng := { s.rng with enabled := false, a := { s.rng.a with link := false, amp := 0 },
                               b := { s.rng.b with link := false, amp := 0 }, valid := false } }

/-- LOCKOUT, unless the device is there. -/
def State.lockFor (s : State) (cause : Nat) : State := if s.pwr.state = .lockout then s else s.toLockout cause

/-- LOCKOUT for a crystal: what it changes, and that every output is off. -/
theorem State.lockFor_facts (s : State) (cause : Nat) :
    (s.lockFor cause).pwr.state = .lockout ∧
    (s.pwr.state ≠ .lockout → (s.lockFor cause).saf.running = false ∧ ∀ k, (s.lockFor cause).soClosed k = false) ∧
    s.EventsOnly (s.lockFor cause) [Idx.HST_LEARNSTAT, Idx.HST_LEARNCAUSE] ∧
    ∃ pwr hst dir tph slots dr0 dr1 saf fch can0 can1, s.lockFor cause =
      { s with pwr := pwr, hst := hst, dir := dir, tph := tph, cle.slots := slots, dr0 := dr0, dr1 := dr1, saf := saf, fio.ch := fch,
               can0 := can0, can1 := can1 } := by
  unfold State.lockFor
  split
  · next h => exact ⟨h, fun hn => absurd h hn, .refl s _, ⟨_, _, _, _, _, _, _, s.saf, _, _, _, rfl⟩⟩
  · have hev := s.toLockout_eventsOnly cause
    obtain ⟨hst, dir, tph, slots, dr0, dr1, fch, can0, can1, h⟩ := s.toLockout_eq cause
    rw [h] at hev ⊢
    exact ⟨rfl, fun _ => ⟨rfl, fun k => congrArg₂ and (Nat.zero_testBit k) (Nat.zero_testBit k)⟩, hev, ⟨_, _, _, _, _, _, _, _, _, _, _, rfl⟩⟩

theorem xtal25Fail_stops (s : State) (ppm : Int) (ho : s.opCounts = true) (hn : s.pwr.xtal25Bad = false) (hp : 50000 < mag ppm) :
    ∃ t, exec (.xtal25Fail ppm) s = .next t ∧ t.pwr.state = .lockout ∧ t.pwr.xtal25Bad = true ∧ t.host = {} ∧ t.lmp = {} ∧
      t.rng.enabled = false ∧ t.rng.valid = false ∧ (s.pwr.state ≠ .lockout → t.saf.running = false ∧ ∀ k, t.soClosed k = false) ∧
      s.Records t 0x010D 5 0xFF ∧ s.EventsOnly t [Idx.HST_LEARNSTAT, Idx.HST_LEARNCAUSE] ∧
      t = { s with pwr := t.pwr, lmp := {}, host := {}, dir := t.dir, hst := t.hst, cle.slots := t.cle.slots, dr0 := t.dr0,
                   dr1 := t.dr1, saf := t.saf, fio.ch := t.fio.ch, can0 := t.can0, can1 := t.can1, rng := t.rng, tph := t.tph,
                   shf.handover := none } := by
  have hex : exec (.xtal25Fail ppm) s = .next (((s.raise 0x010D 5).lockFor 0x010D).stopCore) := occurs_pos (by simp [ho, hn, hp])
  have hrec := s.records_raise 0x010D 5 0xFF []
  have hev := (State.EventsOnly.refl s [Idx.HST_LEARNSTAT, Idx.HST_LEARNCAUSE]).raise 0x010D 5 0xFF []
  obtain ⟨d1, p1, hr, -⟩ := s.raise_eq 0x010D 5 0xFF []
  have hst : (s.raise 0x010D 5).pwr.state = s.pwr.state := by rw [hr]
  obtain ⟨hlock, hoff, hevl, pwr, hst', dir, tph, slots, dr0, dr1, saf, fch, can0, can1, hf⟩ := (s.raise 0x010D 5).lockFor_facts 0x010D
  rw [hst] at hoff
  have hrec' := hrec.mono hevl.2.2.2
  generalize (s.raise 0x010D 5).lockFor 0x010D = u at *
  refine ⟨_, hex, hlock, rfl, rfl, rfl, rfl, rfl, hoff, hrec', (hev.trans hevl).congr rfl rfl, ?_⟩
  rw [hf, hr]
  rfl

theorem xtal32Fail_recorded (s : State) (ppm : Int) (ms : Nat) (ho : s.opCounts = true) (hn : s.pwr.xtal32Bad = false) (hms : 1000 ≤ ms)
    (hp : 10000 < mag ppm) :
    ∃ t, exec (.xtal32Fail ppm ms) s = .next t ∧ s.Records t 0x010E 3 0xFF ∧ s.EventsOnly t [] ∧
      t = { s with dir := t.dir, pwr.xtal32Bad := true, rtc.degraded := true, tph := t.tph } := by
  have hex : exec (.xtal32Fail ppm ms) s = .next { s.raise 0x010E 3 with pwr.xtal32Bad := true, rtc.degraded := true } := by
    refine (occurs_pos (by simp [ho, hn, hms, hp])).trans (congrArg _ ?_)
    rw [if_pos ho]
  obtain ⟨dir, tph, hr, -⟩ := s.raise_eq 0x010E 3 0xFF []
  exact ⟨_, hex, s.records_raise _ _ _ _, ((State.EventsOnly.refl s []).raise _ _ _ _).congr rfl rfl, by rw [hr]⟩

theorem xtal32Fail_inAon (s : State) (ppm : Int) (ms : Nat) (ha : s.pwr.state = .aon) (hv : s.pwr.aonOnVin = true)
    (hn : s.pwr.xtal32Bad = false) (hms : 1000 ≤ ms) (hp : 50000 < mag ppm) :
    ∃ t, exec (.xtal32Fail ppm ms) s = .next t ∧ (∃ e, t.pwr.startEvts = s.pwr.startEvts ++ [e] ∧ e.code = 0x010E ∧ e.sev = 3) ∧
      t = { s with pwr.startEvts := t.pwr.startEvts, pwr.xtal32Bad := true, rtc.degraded := true } := by
  have ho : s.opCounts = false := by
    unfold State.opCounts
    rw [ha]
  have hex : exec (.xtal32Fail ppm ms) s = .next { s.raiseAtStart 0x010E 3 with pwr.xtal32Bad := true, rtc.degraded := true } := by
    refine (occurs_pos (by simp [ho, ha, hv, hn, hms, hp])).trans (congrArg _ ?_)
    rw [ho, if_neg Bool.false_ne_true]
  exact ⟨_, hex, ⟨_, rfl, rfl, rfl⟩, rfl⟩

theorem operatingTimeStore_stores (s : State) (ho : s.opCounts = true) (h : s.pwr.opTimeStored + 1000 ≤ s.pwr.opTime) :
    exec .operatingTimeStore s = .next { s with pwr.opTimeStored := s.pwr.opTime } := occurs_pos (by simp [ho, h])

/-- Settles O50: one law for each row. -/
theorem aonSupplyAndClocks : Obligations.AonSupplyAndClocks :=
  ⟨vinAon_toCell, vinAon_toVin, vcellRise_starts, vcellFail_holds, aonHoldupExpired_resets,
    cellLow_recorded, xtal25Fail_stops, xtal32Fail_recorded, xtal32Fail_inAon, operatingTimeStore_stores⟩

end Sys2Proof.Machine
end

section
/-!
PROOFS. What outlives the fast domain (02 R31, R35; 07 R154).
-/
namespace Sys2Proof.Machine

/-! ## What outlives the fast domain (02 R31, R35; 07 R154) -/

/-- The SET flag of the calendar, the keys, the active firmware slot and the last record number. -/
def State.lasting (s : State) : Bool × Option Nat × Option Nat × Nat × Nat :=
  (s.rtc.set, s.sec.owner, s.sec.domain, s.sec.active, s.tph.last)

theorem State.lasting_congr {s t : State} (hr : t.rtc = s.rtc) (hs : t.sec = s.sec) (hp : t.tph = s.tph) : t.lasting = s.lasting := by
  unfold State.lasting
  rw [hr, hs, hp]

theorem State.lasting_foldl {α : Type} {g : State → α → State} {l : List α} (h : ∀ (s : State), ∀ x ∈ l, (g s x).lasting = s.lasting) (s : State) :
    (l.foldl g s).lasting = s.lasting := by
  induction l generalizing s with
  | nil => rfl
  | cons x l ih =>
    exact (ih (fun s y hy => h s y (List.mem_cons_of_mem _ hy)) (g s x)).trans (h s x List.mem_cons_self)

@[simp] theorem State.lasting_setPar (s : State) (i : Nat) (v : Int) : (s.setPar i v).lasting = s.lasting := rfl

@[simp] theorem State.lasting_parDurable (s : State) (i : Nat) : (s.parDurable i).lasting = s.lasting := rfl

@[simp] theorem State.lasting_countConfig (s : State) (i : Nat) : (s.countConfig i).lasting = s.lasting := by
  unfold State.countConfig
  split <;> rfl

@[simp] theorem State.lasting_setOwn (s : State) (i : Nat) (v : Int) : (s.setOwn i v).lasting = s.lasting := by
  unfold State.setOwn
  split
  · rfl
  · exact State.lasting_countConfig _ i

@[simp] theorem State.lasting_raise (s : State) (code sev inst : Nat) (data : List (Nat × Int)) :
    (s.raise code sev inst data).lasting = s.lasting := by
  obtain ⟨dir, tph, hr, -⟩ := s.raise_eq code sev inst data
  have hp := congrArg Tph.last ((State.EventsOnly.refl s []).raise code sev inst data).2.2.1
  rw [hr] at hp ⊢
  exact congrArg (fun n => (s.rtc.set, s.sec.owner, s.sec.domain, s.sec.active, n)) hp

/-! ### A slot that closes -/

@[simp] theorem State.lasting_modGroup (s : State) (g : Nat) (f : Group → Group) : (s.modGroup g f).lasting = s.lasting := rfl

@[simp] theorem State.lasting_modSlot (s : State) (h : Nat) (f : Slot → Slot) : (s.modSlot h f).lasting = s.lasting := rfl

@[simp] theorem State.lasting_abortQueued (s : State) (h : Nat) (after : Bool) : (s.abortQueued h after).lasting = s.lasting :=
  State.lasting_foldl (g := fun s f => s.complete f .aborted 0 [] false after) (fun _ _ _ => rfl) s

@[simp] theorem State.lasting_dropClaims (s : State) (h : Nat) : (s.dropClaims h).lasting = s.lasting := by
  unfold State.dropClaims
  dsimp only
  split <;> rfl

@[simp] theorem State.lasting_dropStreams (s : State) (h : Nat) : (s.dropStreams h).lasting = s.lasting := rfl

@[simp] theorem State.lasting_expireGroups (s : State) (h : Nat) : (s.expireGroups h).lasting = s.lasting := by
  refine State.lasting_foldl (fun s g _ => ?_) s
  split
  · exact State.lasting_raise _ _ _ _ _
  · rfl

@[simp] theorem State.lasting_dropSafSession (s : State) (h : Nat) : (s.dropSafSession h).lasting = s.lasting := by
  unfold State.dropSafSession
  split
  · split <;> rfl
  · rfl

@[simp] theorem State.lasting_closeSlot (s : State) (h : Nat) (lost : Bool) : (s.closeSlot h lost).lasting = s.lasting := by
  unfold State.closeSlot
  dsimp only
  split <;> simp

@[simp] theorem State.lasting_trustPort (s : State) (h : Nat) : (s.trustPort h).lasting = s.lasting := by
  unfold State.trustPort
  split <;> simp

/-! ### Values applied -/

@[simp] theorem State.lasting_followFormat (s : State) : s.followFormat.lasting = s.lasting := by
  unfold State.followFormat
  dsimp only
  split
  · rfl
  · exact State.lasting_raise _ _ _ _ _

@[simp] theorem State.lasting_shfCheck (s : State) : s.shfCheck.lasting = s.lasting := by
  unfold State.shfCheck
  dsimp only
  split
  · exact State.lasting_raise _ _ _ _ _
  · rfl

@[simp] theorem State.lasting_modD (s : State) (n : Nat) (f : Door → Door) : (s.modD n f).lasting = s.lasting :=
  State.lasting_congr (by simp) (by simp) (by simp)

@[simp] theorem State.lasting_modSlotC (s : State) (n : Nat) (f : CSlot → CSlot) : (s.modSlotC n f).lasting = s.lasting := rfl

@[simp] theorem State.lasting_hst (s : State) (x : Hst) : State.lasting { s with hst := x } = s.lasting := rfl

@[simp] theorem State.lasting_cle (s : State) (x : Cle) : State.lasting { s with cle := x } = s.lasting := rfl

@[simp] theorem State.lasting_rng (s : State) (x : Rng) : State.lasting { s with rng := x } = s.lasting := rfl

@[simp] theorem State.lasting_alarmPending (s : State) : State.lasting { s with rtc.alarmPending := false } = s.lasting := rfl

@[simp] theorem State.lasting_modFch (s : State) (n : Nat) (f : FCh → FCh) : (s.modFch n f).lasting = s.lasting := rfl

@[simp] theorem State.lasting_canJoin (s : State) (b : Nat) : (s.canJoin b).lasting = s.lasting :=
  State.lasting_congr (by simp) (by simp) (by simp)

@[simp] theorem State.lasting_fioRestart (s : State) (n : Nat) : (s.fioRestart n).lasting = s.lasting :=
  State.lasting_congr (by simp) (by simp) (by simp)

@[simp] theorem State.lasting_modPort (s : State) (p : Nat) (f : RPort → RPort) : (s.modPort p f).lasting = s.lasting :=
  State.lasting_congr (by simp) (by simp) (by simp)

@[simp] theorem State.lasting_onApply (s : State) (idx : Nat) (old v : Int) (slot : Nat) : (s.onApply idx old v slot).lasting = s.lasting := by
  obtain ⟨Q, hQ⟩ : ∃ Q : State → Prop, ∀ t, Q t ↔ t.lasting = s.lasting := ⟨_, fun _ => Iff.rfl⟩
  rw [← hQ]
  unfold State.onApply
  (repeat' with_reducible apply ite_keeps) <;> rw [hQ] <;> simp

@[simp] theorem State.lasting_applyPar (s : State) (idx : Nat) (v : Int) (slot : Nat) : (s.applyPar idx v slot).lasting = s.lasting := by
  unfold State.applyPar
  dsimp only
  rw [State.lasting_onApply]
  split <;> rfl

/-- The parameter actions of a group. -/
def Act.setsPars (a : Act) : Bool := a.kind == 1 || a.kind == 6 || a.kind == 7

theorem State.lasting_applyAct (s : State) (slot : Nat) {a : Act} (h : a.setsPars = true) : (s.applyAct slot a).lasting = s.lasting := by
  have hvals : (a.values.foldl (fun s p => s.applyPar p.1 p.2 slot) s).lasting = s.lasting :=
    State.lasting_foldl (fun s p _ => s.lasting_applyPar p.1 p.2 slot) s
  unfold Act.setsPars at h
  simp only [Bool.or_eq_true, beq_iff_eq] at h
  unfold State.applyAct
  rcases h with (h | h) | h
  · rw [h]
    exact hvals
  · rw [h]
    exact s.lasting_applyPar _ _ _
  · rw [h]
    exact hvals

theorem State.lasting_applyActs (s : State) (g : Nat) : (s.applyActs g Act.setsPars).lasting = s.lasting := by
  unfold State.applyActs
  dsimp only
  rw [State.lasting_modGroup]
  refine State.lasting_foldl (fun s a ha => s.lasting_applyAct _ ?_) s
  have hp := (List.mem_filter.mp ha).2
  rw [Bool.and_eq_true] at hp
  exact hp.2

theorem State.lasting_groupDurable (s : State) (acts : List Act) : (s.groupDurable acts).lasting = s.lasting := by
  unfold State.groupDurable
  refine State.lasting_foldl (fun s i _ => ?_) s
  split
  · exact State.lasting_countConfig _ i
  · rfl

/-- Groups past their commit point change parameters only. -/
theorem State.lasting_settleGroups (s : State) : s.settleGroups.lasting = s.lasting := by
  refine State.lasting_foldl (fun s g _ => ?_) s
  split
  · exact (State.lasting_groupDurable _ _).trans (s.lasting_applyActs g)
  · rfl

/-! ## The loss of the fast domain -/

theorem lastAon_durable : pvPersist Idx.PWR_LASTAON = .mram := by decide +kernel

/-- A value the device keeps is its durable value too. -/
theorem State.dur_setOwn_self (s : State) {i : Nat} (v : Int) (hp : pvPersist i = .mram) (hc : isConfig i = false) :
    (s.setOwn i v).dur i = some v := by
  have heq : s.setOwn i v = (s.setPar i v).parDurable i := by
    unfold State.setOwn State.countConfig
    rw [hp, hc]
    rfl
  rw [heq, State.dur_parDurable, if_pos rfl, State.par_setPar, if_pos rfl]

/-- The values live after the loss are the durable ones. -/
theorem Dir.val_kept (d : Dir) (i : Nat) : d.kept.val i = ((pvFind d.durable i).map fun q => q.val).getD (pvDefault i) := by
  unfold Dir.val Dir.kept
  dsimp only
  cases pvFind d.durable i <;> rfl

/-- The device in AON after the loss of its fast domain. -/
theorem State.fastLost_facts (s : State) (last cause : Nat) : s.FastLost (s.fastLost last cause) last ∧
    (s.fastLost last cause).pwr.opTime = s.pwr.opTimeStored ∧ s.pwr.startEvts <+: (s.fastLost last cause).pwr.startEvts := by
  have hsettle := s.lasting_settleGroups
  have hpwr : (s.settleGroups.setOwn Idx.PWR_LASTAON last).pwr = s.pwr := by simp
  have hpend : (s.settleGroups.setOwn Idx.PWR_LASTAON last).pending = s.pending := by simp
  have hlast : (s.settleGroups.setOwn Idx.PWR_LASTAON last).lasting = s.lasting := (State.lasting_setOwn _ _ _).trans hsettle
  have hclock : s.SameClock (s.settleGroups.setOwn Idx.PWR_LASTAON last) := by simp
  have hdur := s.settleGroups.dur_setOwn_self (last : Int) lastAon_durable lastAon_noConfig
  unfold State.fastLost
  dsimp only
  generalize s.settleGroups.setOwn Idx.PWR_LASTAON last = u at *
  obtain ⟨hset, howner, hdom, hact, hno⟩ : u.rtc.set = s.rtc.set ∧ u.sec.owner = s.sec.owner ∧ u.sec.domain = s.sec.domain ∧
      u.sec.active = s.sec.active ∧ u.tph.last = s.tph.last := by simpa [State.lasting] using hlast
  refine ⟨⟨rfl, ?_, rfl, fun x hx => ?_, rfl, rfl, rfl, rfl, rfl, rfl, rfl, rfl, rfl, rfl, rfl, rfl, hno, howner, hdom, hact, hclock.1, hset, hpend⟩,
    ?_, ?_⟩
  · refine (Dir.val_kept u.dir Idx.PWR_LASTAON).trans ?_
    unfold State.dur at hdur
    rw [hdur]
    rfl
  · obtain ⟨y, -, rfl⟩ := List.mem_map.mp hx
    exact ⟨rfl, rfl⟩
  · change u.pwr.opTimeStored = s.pwr.opTimeStored
    rw [hpwr]
  · change s.pwr.startEvts <+: u.pwr.startEvts ++ _
    rw [hpwr]
    exact List.prefix_append _ _

end Sys2Proof.Machine
end

section
/-!
PROOFS. The loss of the fast domain, and its start (02 R31 to R40, R52, R53).
-/
namespace Sys2Proof.Machine

/-! ## The fast domain lost and begun again (02 R31, R32, R35, R40, R52, R53) -/

/-- Only parameters and the supply have changed before the loss. -/
theorem State.FastLost.after {s u t : State} {last : Nat} (h : u.FastLost t last) {dir : Dir} {pwr : Pwr}
    (hu : u = { s with dir := dir, pwr := pwr }) : s.FastLost t last := by
  subst hu
  exact h

/-- A stop for low VIN is recorded at the next start, with the operating time. -/
def State.lowVin (s : State) (mV : Nat) : State :=
  let s := (s.noteVin mV).raiseAtStart 0x0105 4 0xFF [(1, s.pwr.state.code), (2, min mV 40000)]
  { s with pwr.opTimeStored := s.pwr.opTime }

theorem State.lowVin_facts (s : State) (mV : Nat) : ∃ dir pwr, s.lowVin mV = { s with dir := dir, pwr := pwr } ∧
    pwr.opTimeStored = s.pwr.opTime ∧ ∃ e ∈ pwr.startEvts, e.code = 0x0105 ∧ e.sev = 4 := by
  obtain ⟨dir, hn⟩ := (s.noteVin_facts mV).1.frame
  unfold State.lowVin
  rw [hn]
  exact ⟨dir, _, rfl, rfl, _, List.mem_append_right _ (List.mem_singleton_self _), rfl, rfl⟩

theorem vinStop_loses (s : State) (mV us : Nat) (ho : s.opCounts = true) (hv : mV < 12000) (hus : 20 ≤ us) :
    ∃ t, exec (.vinStop mV us) s = .next t ∧ s.FastLost t 1 ∧ t.pwr.opTime = s.pwr.opTime ∧
      ∃ e ∈ t.pwr.startEvts, e.code = 0x0105 ∧ e.sev = 4 := by
  have hex : exec (.vinStop mV us) s = .next ((s.lowVin mV).fastLost 1 0x0105) := occurs_pos (by simp [ho, hv, hus])
  obtain ⟨dir, pwr, hu, htime, e, he, hcode, hsev⟩ := s.lowVin_facts mV
  generalize s.lowVin mV = u at *
  obtain ⟨hlost, hop, hevts⟩ := u.fastLost_facts 1 0x0105
  have hp : u.pwr = pwr := by rw [hu]
  rw [hp] at hop hevts
  exact ⟨_, hex, hlost.after hu, hop.trans htime, e, hevts.subset he, hcode, hsev⟩

/-- A rail fault is recorded at the next start. -/
def State.railTold (s : State) (rail : Nat) : State := s.raiseAtStart 0x0107 5 0xFF [(1, rail)]

theorem railFault_loses (s : State) (rail us : Nat) (ho : s.opCounts = true) (hr : rail ≤ 6) (hus : 10 < us) :
    ∃ t, exec (.railFault rail us) s = .next t ∧ s.FastLost t 2 ∧ t.pwr.opTime = s.pwr.opTimeStored ∧
      ∃ e ∈ t.pwr.startEvts, e.code = 0x0107 ∧ e.sev = 5 := by
  have hex : exec (.railFault rail us) s = .next ((s.railTold rail).fastLost 2 0x0107) := occurs_pos (by simp [ho, hr, hus])
  obtain ⟨e, he, hcode, hsev⟩ : ∃ e ∈ (s.railTold rail).pwr.startEvts, e.code = 0x0107 ∧ e.sev = 5 :=
    ⟨_, List.mem_append_right _ (List.mem_singleton_self _), rfl, rfl⟩
  have htime : (s.railTold rail).pwr.opTimeStored = s.pwr.opTimeStored := rfl
  have hu : s.railTold rail = { s with dir := s.dir, pwr := (s.railTold rail).pwr } := rfl
  generalize s.railTold rail = u at *
  obtain ⟨hlost, hop, hevts⟩ := u.fastLost_facts 2 0x0107
  exact ⟨_, hex, hlost.after hu, hop.trans htime, e, hevts.subset he, hcode, hsev⟩

/-- NRST is low. -/
def State.holdReset (s : State) : State := { s with pwr.nrstLow := true, pwr.nrstHeld := 0, pwr.monItems := 0, pwr.monMoved := 0 }

theorem State.FastLost.holdReset {s t : State} {last : Nat} (h : s.FastLost t last) : s.FastLost t.holdReset last := h

theorem nrstLow_loses (s : State) (us : Nat) (ho : s.opCounts = true) (hn : s.pwr.nrstLow = false) (hus : 10 ≤ us) :
    ∃ t, exec (.nrstLow us) s = .next t ∧ s.FastLost t 3 ∧ t.pwr.nrstLow = true ∧ t.pwr.nrstHeld = 0 := by
  have hon : s.pwr.state ≠ .off := by
    intro h
    unfold State.opCounts at ho
    rw [h] at ho
    cases ho
  have hex : exec (.nrstLow us) s = .next (s.fastLost 3 0x010A).holdReset := by
    refine (occurs_pos (by simp [hon, hn, hus])).trans (congrArg _ ?_)
    rw [ho, if_pos rfl]
    rfl
  have hlost := (s.fastLost_facts 3 0x010A).1
  generalize s.fastLost 3 0x010A = u at *
  exact ⟨_, hex, hlost.holdReset, rfl, rfl⟩

theorem nrstLow_inAon (s : State) (us : Nat) (ha : s.pwr.state = .aon) (hn : s.pwr.nrstLow = false) (hus : 10 ≤ us) :
    exec (.nrstLow us) s = .next { s with
      pwr.nrstLow := true
      pwr.nrstHeld := 0
      pwr.monItems := 0
      pwr.monMoved := 0 } := by
  have ho : s.opCounts = false := by
    unfold State.opCounts
    rw [ha]
  refine (occurs_pos (by simp [ha, hn, hus])).trans (congrArg _ ?_)
  rw [ho, if_neg Bool.false_ne_true]

theorem vinStart_starts (s : State) (mV us : Nat) (boot : Bool) (ha : s.pwr.state = .aon) (hv : s.pwr.aonOnVin = true)
    (hn : s.pwr.nrstLow = false) (hm : 17000 ≤ mV) (hus : 10000 ≤ us) :
    ∃ t, exec (.vinStart mV us boot) s = .next t ∧ t.pwr.state = .start ∧ t.pwr.bootsel = boot ∧
      t.pwr.pwrCyc = min 0xFFFFFF (s.pwr.pwrCyc + 1) ∧ t.pwr.opTime = s.pwr.opTimeStored ∧
      s.ParsKept t [Idx.PWR_VIN, Idx.PWR_VINMIN] ∧ t = { s with dir := t.dir, pwr := t.pwr, rtc.capture := none } := by
  obtain ⟨⟨dir, hd⟩, hkept, -⟩ := (s.noteVin_facts mV).1
  have hex : exec (.vinStart mV us boot) s = .next ((s.noteVin mV).beginStart_ boot) := occurs_pos (by simp [ha, hv, hn, hm, hus])
  have hall : s.ParsKept ((s.noteVin mV).beginStart_ boot) [Idx.PWR_VIN, Idx.PWR_VINMIN] := hkept
  generalize hw : (s.noteVin mV).beginStart_ boot = w at *
  rw [hd] at hw
  subst hw
  exact ⟨_, hex, rfl, rfl, rfl, rfl, hall, rfl⟩

/-! ### The end of NRST -/

theorem nrstHeld_noConfig : isConfig Idx.PWR_NRSTHELD = false := by decide +kernel

/-- The record of the end of NRST. -/
def resetEvt (held items : Nat) (moved : Int) : Evt :=
  { code := 0x010A, sev := 1, inst := 0xFF, data := placeData [] [(4, held), (1, items % 16), (4, moved)] }

/-- The end of NRST is recorded with what the monitor latched. -/
def State.releaseReset (s : State) (items : Nat) (moved : Int) : State :=
  { (s.setOwn Idx.PWR_NRSTHELD s.pwr.nrstHeld).raiseAtStart 0x010A 1 0xFF
      [(4, (s.setOwn Idx.PWR_NRSTHELD s.pwr.nrstHeld).pwr.nrstHeld), (1, items % 16), (4, moved)] with
    pwr.nrstLow := false, pwr.monItems := items % 16, pwr.monMoved := moved }

theorem State.releaseReset_facts (s : State) (items : Nat) (moved : Int) : ∃ dir, s.releaseReset items moved =
      { s with dir := dir, pwr.startEvts := s.pwr.startEvts ++ [resetEvt s.pwr.nrstHeld items moved]
               pwr.nrstLow := false, pwr.monItems := items % 16, pwr.monMoved := moved } ∧
    (s.releaseReset items moved).par Idx.PWR_NRSTHELD = s.pwr.nrstHeld ∧
    s.ParsKept (s.releaseReset items moved) [Idx.PWR_NRSTHELD] := by
  obtain ⟨⟨dir, hd⟩, hkept, -⟩ := (State.ParsOnly.refl s [Idx.PWR_NRSTHELD]).setOwn (s.pwr.nrstHeld : Int) (by simp) nrstHeld_noConfig
  have hheld : (s.setOwn Idx.PWR_NRSTHELD s.pwr.nrstHeld).par Idx.PWR_NRSTHELD = s.pwr.nrstHeld :=
    (s.par_setOwn' _ _ _ nrstHeld_noConfig).trans (if_pos rfl)
  unfold State.releaseReset
  generalize s.setOwn Idx.PWR_NRSTHELD s.pwr.nrstHeld = u at *
  refine ⟨dir, ?_, hheld, hkept⟩
  rw [hd]
  rfl

theorem nrstRelease_ends (s : State) (mV items : Nat) (boot : Bool) (moved : Int) (hn : s.pwr.nrstLow = true) (ha : s.pwr.state = .aon) :
    ∃ t, exec (.nrstRelease mV boot items moved) s = .next t ∧ t.pwr.nrstLow = false ∧ t.pwr.monItems = items % 16 ∧
      t.pwr.monMoved = moved ∧ t.par Idx.PWR_NRSTHELD = s.pwr.nrstHeld ∧
      t.pwr.state = (if s.pwr.aonOnVin = true ∧ 17000 ≤ mV then .start else .aon) ∧
      (∃ e ∈ t.pwr.startEvts, e.code = 0x010A ∧ e.sev = 1) ∧
      s.ParsKept t [Idx.PWR_NRSTHELD, Idx.PWR_VIN, Idx.PWR_VINMIN] ∧
      t = { s with dir := t.dir, pwr := t.pwr, rtc.capture := t.rtc.capture } := by
  obtain ⟨dir, hu, hheld, hkept⟩ := s.releaseReset_facts items moved
  have hex : exec (.nrstRelease mV boot items moved) s = .next (
      if (s.releaseReset items moved).pwr.aonOnVin ∧ 17000 ≤ mV then ((s.releaseReset items moved).noteVin mV).beginStart_ boot
      else s.releaseReset items moved) := occurs_pos (by simp [hn, ha])
  have hvin : (s.releaseReset items moved).pwr.aonOnVin = s.pwr.aonOnVin := by rw [hu]
  rw [hvin] at hex
  by_cases hc : s.pwr.aonOnVin = true ∧ 17000 ≤ mV
  · rw [if_pos hc] at hex
    obtain ⟨⟨dir', hd⟩, hkept', -⟩ := ((s.releaseReset items moved).noteVin_facts mV).1
    have hpar : (((s.releaseReset items moved).noteVin mV).beginStart_ boot).par Idx.PWR_NRSTHELD = s.pwr.nrstHeld :=
      (hkept' _ (by decide)).trans hheld
    have hall : s.ParsKept (((s.releaseReset items moved).noteVin mV).beginStart_ boot) [Idx.PWR_NRSTHELD, Idx.PWR_VIN, Idx.PWR_VINMIN] :=
      fun i hi => (hkept' i fun h => hi (List.mem_cons_of_mem _ h)).trans (hkept i fun h => hi (List.mem_cons.mpr (.inl (List.mem_singleton.mp h))))
    generalize hw : ((s.releaseReset items moved).noteVin mV).beginStart_ boot = w at *
    rw [hd, hu] at hw
    subst hw
    refine ⟨_, hex, rfl, rfl, rfl, hpar, (if_pos hc).symm, ⟨resetEvt s.pwr.nrstHeld items moved, ?_, rfl, rfl⟩, hall, rfl⟩
    exact List.mem_append_left _ (List.mem_append_right _ (List.mem_singleton_self _))
  · rw [if_neg hc] at hex
    have hall : s.ParsKept (s.releaseReset items moved) [Idx.PWR_NRSTHELD, Idx.PWR_VIN, Idx.PWR_VINMIN] :=
      fun i hi => hkept i fun h => hi (List.mem_cons.mpr (.inl (List.mem_singleton.mp h)))
    generalize s.releaseReset items moved = w at *
    subst hu
    refine ⟨_, hex, rfl, rfl, rfl, hheld, ha.trans (if_neg hc).symm, ⟨resetEvt s.pwr.nrstHeld items moved, ?_, rfl, rfl⟩, hall, rfl⟩
    exact List.mem_append_right _ (List.mem_singleton_self _)

/-! ### The recovery loader (19 R482) -/

theorem startComplete_loader (s : State) (verifies selfTest cal cell : Nat) (repaired lost slots : List Nat) (differ : Bool) (pos : Int)
    (hs : s.pwr.state = .start) (hr : s.pwr.recovery = false) (hb : s.pwr.bootsel = true) :
    ∃ t, exec (.startComplete verifies selfTest repaired lost cal slots differ pos cell) s = .next t ∧ t.pwr.recovery = true ∧
      (∃ e ∈ t.pwr.startEvts, e.code = 0x120C ∧ e.sev = 2) ∧
      t = { s with pwr.recovery := true, pwr.startEvts := t.pwr.startEvts, sec.unonce := t.sec.unonce,
                   sec.free := s.sec.free + 1 } :=
  ⟨_, (occurs_pos (by simp [hs, hr])).trans (congrArg _ (if_pos hb)), rfl,
    ⟨_, List.mem_append_right _ (List.mem_singleton_self _), rfl, rfl⟩, rfl⟩

end Sys2Proof.Machine
end

section
/-!
PROOFS. What the start finds, tells and starts (02 R39 to R41, Table PWR-7; 06 R127).
-/
namespace Sys2Proof.Machine

/-! ## What the start tells the recorder (02 R39, Table PWR-7) -/

/-- From `s` to `t` events may have been raised: those that waited wait on, and the recording level stands. -/
structure State.Tells (s t : State) : Prop where
  queue : s.tph.queue <+: t.tph.queue
  level : t.par Idx.TPH_RECSEV = s.par Idx.TPH_RECSEV

theorem State.Tells.refl (s : State) : s.Tells s := ⟨List.prefix_refl _, rfl⟩

theorem State.Tells.trans {s t u : State} (h : s.Tells t) (h' : t.Tells u) : s.Tells u :=
  ⟨h.queue.trans h'.queue, h'.level.trans h.level⟩

theorem State.Tells.of_eq {s t : State} (hd : t.dir = s.dir) (ht : t.tph.queue = s.tph.queue) : s.Tells t :=
  ⟨ht ▸ List.prefix_refl _, State.par_congr hd _⟩

theorem State.tells_raiseEvt (s : State) (e : Evt) : s.Tells (s.raiseEvt e) :=
  ⟨(s.recorder_raiseEvt e).2, s.par_raiseEvt e _ recsev_ne_bufdrops⟩

theorem State.tells_setOwn (s : State) {i : Nat} (v : Int) (hc : isConfig i = false) (hi : i ≠ Idx.TPH_RECSEV) : s.Tells (s.setOwn i v) :=
  ⟨s.tph_setOwn_queue i v ▸ List.prefix_refl _, (s.par_setOwn' i _ v hc).trans (if_neg hi)⟩

/-- An event recorded after others were. -/
theorem State.Tells.records {s t u : State} {code sev inst : Nat} (h : s.Tells t) (hl : t.lmp = s.lmp) (ho : t.host.ops = s.host.ops)
    (hr : t.Records u code sev inst) : s.Records u code sev inst := fun hh => by
  obtain ⟨before, e, after, hq, he⟩ := hr (hh.congr h.level hl ho)
  obtain ⟨new, hn⟩ := h.queue
  exact ⟨new ++ before, e, after, by rw [hq, ← hn]; simp, he⟩

/-- From `s` to `t` the device wrote its own parameters and told the recorder; every other block stands. -/
structure State.Notes (s t : State) : Prop where
  frame : ∃ dir tph, t = { s with dir := dir, tph := tph }
  tells : s.Tells t

theorem State.Notes.refl (s : State) : s.Notes s := ⟨⟨_, _, rfl⟩, .refl s⟩

theorem State.Notes.trans {s t u : State} (h : s.Notes t) (h' : t.Notes u) : s.Notes u := by
  obtain ⟨_, _, ht⟩ := h.frame
  obtain ⟨_, _, hu⟩ := h'.frame
  exact ⟨⟨_, _, by rw [hu, ht]⟩, h.tells.trans h'.tells⟩

theorem State.notes_raiseEvt (s : State) (e : Evt) : s.Notes (s.raiseEvt e) := ⟨s.raiseEvt_eq e, s.tells_raiseEvt e⟩

theorem State.notes_raise (s : State) (code sev inst : Nat) (data : List (Nat × Int)) : s.Notes (s.raise code sev inst data) :=
  s.notes_raiseEvt _

theorem State.notes_setOwn (s : State) {i : Nat} (v : Int) (hc : isConfig i = false) (hi : i ≠ Idx.TPH_RECSEV) : s.Notes (s.setOwn i v) := by
  obtain ⟨dir, hd, -⟩ := s.setOwn_eq v hc
  exact ⟨⟨dir, _, hd⟩, s.tells_setOwn v hc hi⟩

theorem State.Notes.foldl {α : Type} {g : State → α → State} (h : ∀ (s : State) x, s.Notes (g s x)) (l : List α) (s : State) :
    s.Notes (l.foldl g s) := by
  induction l generalizing s with
  | nil => exact .refl s
  | cons x l ih => exact (h s x).trans (ih (g s x))

theorem State.Notes.ite {s t u : State} {c : Prop} [Decidable c] (h : s.Notes t) (h' : s.Notes u) : s.Notes (if c then t else u) := by
  split
  · exact h
  · exact h'

/-! ### What START finds -/

/-- The events kept for the start have left their store. -/
def State.emptied (s : State) : State := { s with pwr.startEvts := [] }

theorem State.emitStart_notes (s : State) : s.emptied.Notes s.emitStart := .foldl State.notes_raiseEvt _ _

/-- Slot `k` boots. -/
def State.taken (s : State) (k : Nat) : State :=
  if k = s.sec.active then s
  else ({ s with sec.previous := s.sec.active, sec.active := k, sec.fwStat := 0 } : State).raise 0x120B 5

/-- The firmware of slot `k` is that of every processor. -/
def State.runsOf (s : State) (k : Nat) : State := { s with sec.safA := k, sec.safB := k }

theorem State.bootFrom_eq (s : State) (k : Nat) :
    s.bootFrom k = ((s.taken k).runsOf k).setOwn Idx.DEV_FWIF (((s.taken k).runsOf k).fwSlot k).fwif := rfl

theorem State.taken_facts (s : State) (k : Nat) : ∃ dir tph previous stat,
    s.taken k = { s with dir := dir, tph := tph, sec.previous := previous, sec.active := k, sec.fwStat := stat } ∧ s.Tells (s.taken k) := by
  unfold State.taken
  split
  next h =>
    subst h
    exact ⟨s.dir, s.tph, s.sec.previous, s.sec.fwStat, rfl, .refl s⟩
  next =>
    generalize hu : ({ s with sec.previous := s.sec.active, sec.active := k, sec.fwStat := 0 } : State) = u
    have hn := u.notes_raise 0x120B 5 0xFF []
    obtain ⟨dir, tph, hd⟩ := hn.frame
    refine ⟨dir, tph, s.sec.active, 0, ?_, (State.Tells.of_eq (by rw [← hu]) (by rw [← hu])).trans hn.tells⟩
    rw [hd, ← hu]

theorem State.bootFrom_facts (s : State) (k : Nat) : ∃ dir tph sec, s.bootFrom k = { s with dir := dir, tph := tph, sec := sec } ∧
    sec.active = k ∧ sec.safA = k ∧ sec.safB = k ∧ s.Tells (s.bootFrom k) := by
  obtain ⟨dir, tph, previous, stat, ht, htell⟩ := s.taken_facts k
  have hruns : (s.taken k).Tells ((s.taken k).runsOf k) := .of_eq rfl rfl
  have hn := ((s.taken k).runsOf k).notes_setOwn (i := Idx.DEV_FWIF) (((s.taken k).runsOf k).fwSlot k).fwif fwif_noConfig (by decide)
  obtain ⟨dir', tph', hd⟩ := hn.frame
  have hall := htell.trans (hruns.trans hn.tells)
  rw [s.bootFrom_eq]
  generalize s.taken k = u at *
  rw [hd] at hall ⊢
  subst ht
  exact ⟨dir', tph', _, rfl, rfl, rfl, rfl, hall⟩

theorem State.measureCell_notes (s : State) (mV : Nat) : s.Notes (s.measureCell mV) := by
  have hset := s.notes_setOwn (i := Idx.PWR_VCELL) (min (mV : Int) 4000) vcell_noConfig (by decide)
  exact .ite (hset.trans (State.notes_raise _ _ _ _ _)) hset

/-! ### The findings in MRAM (06 R127, R137; 17 R435) -/

theorem calState_noConfig : isConfig Idx.DEV_CALSTATE = false := by decide +kernel

/-- The parameter copies as START found them. -/
def State.copiesFound (s : State) (repaired lost : List Nat) : State :=
  let s := repaired.foldl (fun s (i : Nat) => s.raise 0x1311 2 0xFF [(2, i)]) s
  lost.foldl (fun s (i : Nat) => s.raise 0x1312 5 0xFF [(2, i)]) s

/-- The calibration set as START found it. -/
def State.calFound (s : State) (cal : Nat) : State :=
  if cal = 1 then s.raise 0x1311 2 0xFF [(2, 0x0700)] else if cal = 2 then (s.setOwn Idx.DEV_CALSTATE 2).raise 0x1316 5 else s

/-- What is lost is kept in mind. -/
def State.missing (s : State) (lost : List Nat) : State := { s with pwr.lostParams := lost }

theorem State.loadStore_eq (s : State) (repaired lost : List Nat) (cal : Nat) :
    s.loadStore repaired lost cal = ((s.copiesFound repaired lost).calFound cal).missing lost := rfl

theorem State.copiesFound_notes (s : State) (repaired lost : List Nat) : s.Notes (s.copiesFound repaired lost) :=
  (State.Notes.foldl (fun s _ => s.notes_raise _ _ _ _) _ _).trans (.foldl (fun s _ => s.notes_raise _ _ _ _) _ _)

theorem State.calFound_notes (s : State) (cal : Nat) : s.Notes (s.calFound cal) :=
  .ite (s.notes_raise _ _ _ _)
    (.ite ((s.notes_setOwn 2 calState_noConfig (by decide)).trans (State.notes_raise _ _ _ _ _)) (.refl s))

theorem State.loseSlots_notes (s : State) (seqs : List Nat) : s.Notes (s.loseSlots seqs) := by
  unfold State.loseSlots
  extract_lets gone
  split
  · exact .refl s
  · generalize hu : ({ s with tph.recs := s.tph.recs.filter fun r => !seqs.contains r.seq } : State) = u
    have hn := u.notes_raise 0x1004 4 0xFF [(4, gone.length)]
    obtain ⟨dir, tph, hd⟩ := hn.frame
    refine ⟨⟨dir, tph, ?_⟩, (State.Tells.of_eq (by rw [← hu]) (by rw [← hu])).trans hn.tells⟩
    rw [hd, ← hu]

/-- Firmware slot `k` runs and the cell has been measured. -/
def State.booted (s : State) (k cell : Nat) : State := (s.emitStart.bootFrom k).measureCell cell

theorem State.booted_facts (s : State) (k cell : Nat) : ∃ dir tph sec,
    s.booted k cell = { s with pwr.startEvts := [], dir := dir, tph := tph, sec := sec } ∧
      sec.active = k ∧ sec.safA = k ∧ sec.safB = k ∧ s.Tells (s.booted k cell) := by
  have he := s.emitStart_notes
  obtain ⟨d1, t1, h1⟩ := he.frame
  obtain ⟨d2, t2, sec, h2, hk, ha, hb, ht⟩ := s.emitStart.bootFrom_facts k
  have hm := (s.emitStart.bootFrom k).measureCell_notes cell
  obtain ⟨d3, t3, h3⟩ := hm.frame
  have hall : s.Tells (s.booted k cell) := (State.Tells.of_eq (s := s) (t := s.emptied) rfl rfl).trans (he.tells.trans (ht.trans hm.tells))
  unfold State.booted at *
  rw [h3, h2, h1] at hall ⊢
  exact ⟨d3, t3, sec, rfl, hk, ha, hb, hall⟩

/-- What START found has been told. -/
def State.loaded (s : State) (k cell : Nat) (repaired lost : List Nat) (cal : Nat) (slots : List Nat) : State :=
  ((s.booted k cell).loadStore repaired lost cal).loseSlots slots

theorem State.loaded_facts (s : State) (k cell : Nat) (repaired lost : List Nat) (cal : Nat) (slots : List Nat) : ∃ dir tph sec,
    s.loaded k cell repaired lost cal slots =
        { s with pwr.startEvts := [], pwr.lostParams := lost, dir := dir, tph := tph, sec := sec } ∧
      sec.active = k ∧ sec.safA = k ∧ sec.safB = k ∧ s.Tells (s.loaded k cell repaired lost cal slots) := by
  obtain ⟨d1, t1, sec, h1, hk, ha, hb, ht⟩ := s.booted_facts k cell
  have hc := ((s.booted k cell).copiesFound_notes repaired lost).trans (State.calFound_notes _ cal)
  obtain ⟨d2, t2, h2⟩ := hc.frame
  have hl := ((s.booted k cell).loadStore repaired lost cal).loseSlots_notes slots
  obtain ⟨d3, t3, h3⟩ := hl.frame
  have hmid : ((s.booted k cell).copiesFound repaired lost |>.calFound cal).Tells ((s.booted k cell).loadStore repaired lost cal) :=
    .of_eq rfl rfl
  have hall : s.Tells (s.loaded k cell repaired lost cal slots) := ht.trans (hc.tells.trans (hmid.trans hl.tells))
  unfold State.loaded at *
  rw [h3, State.loadStore_eq, h2, h1] at hall ⊢
  exact ⟨d3, t3, sec, rfl, hk, ha, hb, hall⟩

/-! ### The engines start (Table PWR-7, 340 and 400 ms rows) -/

theorem resumeCyc_noConfig : isConfig Idx.GYS_RESUMECYC = false := by decide +kernel

theorem State.gysResume_facts (s : State) : ∃ dir tph gys, s.gysResume = { s with dir := dir, tph := tph, gys := gys } ∧
    s.Tells s.gysResume := by
  unfold State.gysResume
  extract_lets g done lost image u v w
  split
  · exact ⟨_, _, _, rfl, .refl s⟩
  · have hu : s.Notes u := s.notes_setOwn _ resumeCyc_noConfig (by decide)
    have hv : s.Notes v := .ite hu (hu.trans (u.notes_raise _ _ _ _))
    have hw : s.Notes w := .ite hv (hv.trans (v.notes_raise _ _ _ _))
    obtain ⟨dir, tph, hd⟩ := hw.frame
    have htell := hw.tells
    clear_value w
    subst hd
    exact ⟨dir, tph, _, rfl, htell.trans (.of_eq rfl rfl)⟩

theorem State.hstStart_facts (s : State) (pos : Int) : ∃ dir tph hst, s.hstStart pos = { s with dir := dir, tph := tph, hst := hst } ∧
    hst.pf = 256 * pos ∧ hst.retained = pos ∧ s.Tells (s.hstStart pos) := by
  unfold State.hstStart
  extract_lets d u
  have hu : s.Notes u := .ite (s.notes_raise _ _ _ _) (.refl s)
  obtain ⟨dir, tph, hd⟩ := hu.frame
  have htell := hu.tells
  clear_value u
  subst hd
  exact ⟨dir, tph, _, rfl, rfl, rfl, htell.trans (.of_eq rfl rfl)⟩

/-- The calendar's crystal and trim as START found them. -/
def State.rtcTrimmed (s : State) : State :=
  let s := if s.pwr.xtal32Bad then s.rtcUnset else s
  { s with rtc.trimUse := s.par Idx.RTC_TRIM }

theorem State.rtcTrimmed_eq (s : State) : ∃ rtc, s.rtcTrimmed = { s with rtc := rtc } := by
  unfold State.rtcTrimmed
  split
  · exact ⟨_, rfl⟩
  · exact ⟨_, rfl⟩

/-- The loss of the calendar has been recorded. -/
def State.lossTold (s : State) : State := { s.raiseNative 0x1102 3 with rtc.lostNew := false }

theorem State.lossTold_facts (s : State) : ∃ dir tph, s.lossTold = { s with dir := dir, tph := tph, rtc.lostNew := false } ∧
    s.Tells s.lossTold := by
  have hn : s.Notes (s.raiseNative 0x1102 3) := s.notes_raiseEvt _
  obtain ⟨dir, tph, hd⟩ := hn.frame
  have htell : s.Tells s.lossTold := hn.tells.trans (.of_eq rfl rfl)
  unfold State.lossTold at *
  rw [hd] at htell ⊢
  exact ⟨dir, tph, rfl, htell⟩

theorem State.rtcStart_eq (s : State) : s.rtcStart = if s.rtcTrimmed.rtc.lostNew then s.rtcTrimmed.lossTold else s.rtcTrimmed := rfl

theorem State.rtcStart_facts (s : State) : ∃ dir tph rtc, s.rtcStart = { s with dir := dir, tph := tph, rtc := rtc } ∧
    s.Tells s.rtcStart := by
  obtain ⟨rtc, hv⟩ := s.rtcTrimmed_eq
  have htv : s.Tells s.rtcTrimmed := .of_eq (by rw [hv]) (by rw [hv])
  rw [s.rtcStart_eq]
  split
  · obtain ⟨dir, tph, hd, htell⟩ := s.rtcTrimmed.lossTold_facts
    have hall := htv.trans htell
    rw [hd, hv] at hall ⊢
    exact ⟨dir, tph, _, rfl, hall⟩
  · exact ⟨s.dir, s.tph, rtc, hv, htv⟩

theorem State.shfCheck_facts (s : State) : ∃ dir tph bad, s.shfCheck = { s with dir := dir, tph := tph, shf.config := bad } ∧
    s.Tells s.shfCheck := by
  unfold State.shfCheck
  extract_lets bad u
  have hu : s.Notes u := .ite (s.notes_raise _ _ _ _) (.refl s)
  obtain ⟨dir, tph, hd⟩ := hu.frame
  have htell := hu.tells
  clear_value u
  subst hd
  exact ⟨dir, tph, bad, rfl, htell.trans (.of_eq rfl rfl)⟩

theorem State.canJoin_facts (s : State) (b : Nat) : ∃ c0 c1, s.canJoin b = { s with can0 := c0, can1 := c1 } := by
  unfold State.canJoin
  split
  · exact s.modCan_eq b _
  · exact ⟨_, _, rfl⟩

/-- Every engine has what it starts from. -/
def State.readied (s : State) (pos : Int) : State :=
  ((((((s.gysResume.hstStart pos).rtcStart).shfCheck).canJoin 0).canJoin 1)).takeMeasurements

theorem State.readied_facts (s : State) (pos : Int) : ∃ dir tph gys hst rtc shf c0 c1 sec, s.readied pos =
    { s with dir := dir, tph := tph, gys := gys, hst := hst, rtc := rtc, shf := shf, can0 := c0, can1 := c1, sec := sec } ∧
    hst.pf = 256 * pos ∧ hst.retained = pos ∧ sec.active = s.sec.active ∧ sec.safA = s.sec.safA ∧ sec.safB = s.sec.safB ∧
    s.Tells (s.readied pos) := by
  obtain ⟨d1, t1, gys, h1, htell1⟩ := s.gysResume_facts
  obtain ⟨d2, t2, hst, h2, hpf, hret, htell2⟩ := s.gysResume.hstStart_facts pos
  obtain ⟨d3, t3, rtc, h3, htell3⟩ := (s.gysResume.hstStart pos).rtcStart_facts
  obtain ⟨d4, t4, bad, h4, htell4⟩ := (s.gysResume.hstStart pos).rtcStart.shfCheck_facts
  have htell := htell1.trans (htell2.trans (htell3.trans htell4))
  unfold State.readied
  generalize (s.gysResume.hstStart pos).rtcStart.shfCheck = u at *
  obtain ⟨c0, c1, h5⟩ := u.canJoin_facts 0
  obtain ⟨e0, e1, h6⟩ := (u.canJoin 0).canJoin_facts 1
  generalize (u.canJoin 0).canJoin 1 = w at *
  rw [h3, h2, h1] at h4
  rw [h5, h4] at h6
  subst h6
  refine ⟨d4, t4, gys, hst, rtc, _, e0, e1, _, rfl, hpf, hret, rfl, rfl, rfl, htell.trans (.of_eq ?_ ?_)⟩
  · rw [h4]
    rfl
  · rw [h4]
    rfl

/-- The safety channels and the ring run. -/
def State.engaged (s : State) : State :=
  { s with saf.running := true, saf.btLast := if s.par Idx.SAF_BTRESULT = 0 then none else some (s.parN Idx.SAF_BTTIME),
           rng.enabled := true, rng.a := { upAt := s.pwr.opTime }, rng.b := { upAt := s.pwr.opTime } }

/-- The device is in RUN. -/
def State.toRun (s : State) (pos : Int) : State := (s.readied pos).engaged.enter .run 0

theorem State.startRun_eq (s : State) (pos : Int) :
    s.startRun pos = if (s.toRun pos).pwr.sag then (s.toRun pos).toTripped 0x0103 else s.toRun pos := rfl

theorem State.toRun_facts (s : State) (pos : Int) : ∃ dir tph gys hst rtc shf c0 c1 sec saf rng, s.toRun pos =
    { s with pwr.state := .run, dir := dir, tph := tph, gys := gys, hst := hst, rtc := rtc, shf := shf, can0 := c0, can1 := c1,
             sec := sec, saf := saf, rng := rng } ∧
    hst.pf = 256 * pos ∧ hst.retained = pos ∧ sec.active = s.sec.active ∧ sec.safA = s.sec.safA ∧ sec.safB = s.sec.safB ∧
    saf.running = true ∧ rng.enabled = true ∧ s.Records (s.toRun pos) 0x010B 1 0xFF := by
  obtain ⟨dir, tph, gys, hst, rtc, shf, c0, c1, sec, hd, hpf, hret, hact, ha, hb, htell⟩ := s.readied_facts pos
  have heng : s.Tells (s.readied pos).engaged := htell.trans (.of_eq rfl rfl)
  have hl : (s.readied pos).engaged.lmp = s.lmp := by
    change (s.readied pos).lmp = _
    rw [hd]
  have ho : (s.readied pos).engaged.host.ops = s.host.ops := by
    change (s.readied pos).host.ops = _
    rw [hd]
  have hrec : s.Records (s.toRun pos) 0x010B 1 0xFF := heng.records hl ho ((s.readied pos).engaged.records_raise 0x010B 1 0xFF _)
  obtain ⟨dir', tph', hr, -⟩ := (s.readied pos).engaged.raise_eq 0x010B 1 0xFF
    [(1, (s.readied pos).engaged.pwr.state.code), (1, DevState.run.code), (2, ((0 : Nat) : Int))]
  unfold State.toRun State.enter at *
  dsimp only at *
  rw [hr] at hrec ⊢
  generalize s.readied pos = u at *
  subst hd
  exact ⟨dir', tph', gys, hst, rtc, shf, c0, c1, sec, _, _, rfl, hpf, hret, hact, ha, hb, rfl, rfl, hrec⟩

end Sys2Proof.Machine
end

section
/-!
PROOFS. The start and its first failing step (02 R39, R40).
-/
namespace Sys2Proof.Machine

/-! ### The start (02 R39, R40, Table PWR-7) -/

theorem State.bootSlot_emitStart (s : State) (verifies : Nat) : s.emitStart.bootSlot verifies = s.bootSlot verifies := by
  obtain ⟨dir, tph, hd⟩ := s.emitStart_notes.frame
  have hev : s.emptied.EventsOnly s.emitStart [] := .foldl (fun s e => (State.EventsOnly.refl s []).raiseEvt e) _ _
  have hmin : s.emitStart.par Idx.SEC_MINSVN = s.par Idx.SEC_MINSVN := hev.1 _ (by decide)
  have hsec : s.emitStart.sec = s.sec := by rw [hd]; rfl
  unfold State.bootSlot State.parN State.fwSlot
  rw [hmin, hsec]

/-- The start with slot `k`, up to RUN or its first failing step. -/
def State.startFrom (s : State) (k selfTest : Nat) (repaired lost : List Nat) (cal : Nat) (slots : List Nat) (differ : Bool) (pos : Int)
    (cell : Nat) : State :=
  if selfTest ≠ 0 then (s.booted k cell).safLockout 12 (selfTest - 1)
  else if !lost.isEmpty then (s.loaded k cell repaired lost cal slots).toLockout 0x1312
  else if cal = 2 then (s.loaded k cell repaired lost cal slots).toLockout 0x1316
  else if differ then (s.loaded k cell repaired lost cal slots).safLockout 11 0
  else (s.loaded k cell repaired lost cal slots).startRun pos

section
variable {s : State} {verifies selfTest : Nat} {repaired lost : List Nat} {cal : Nat} {slots : List Nat} {differ : Bool} {pos : Int}
  {cell : Nat}

theorem exec_startComplete_none (hs : s.pwr.state = .start) (hr : s.pwr.recovery = false) (hb : s.pwr.bootsel = false)
    (hk : s.bootSlot verifies = none) :
    exec (.startComplete verifies selfTest repaired lost cal slots differ pos cell) s = .next (s.emitStart.toLockout 0) := by
  refine (occurs_pos (by simp [hs, hr])).trans (congrArg _ ?_)
  rw [if_neg (by simp [hb])]
  dsimp only
  rw [s.bootSlot_emitStart, hk]

theorem exec_startComplete_some {k : Nat} (hs : s.pwr.state = .start) (hr : s.pwr.recovery = false) (hb : s.pwr.bootsel = false)
    (hk : s.bootSlot verifies = some k) :
    exec (.startComplete verifies selfTest repaired lost cal slots differ pos cell) s =
      .next (s.startFrom k selfTest repaired lost cal slots differ pos cell) := by
  refine (occurs_pos (by simp [hs, hr])).trans (congrArg _ ?_)
  rw [if_neg (by simp [hb])]
  dsimp only
  rw [s.bootSlot_emitStart, hk]
  rfl

theorem startComplete_runs {k : Nat} (hs : s.pwr.state = .start) (hr : s.pwr.recovery = false) (hb : s.pwr.bootsel = false)
    (hk : s.bootSlot verifies = some k) (hcal : cal ≠ 2) (hsag : s.pwr.sag = false) :
    ∃ t, exec (.startComplete verifies 0 repaired [] cal slots false pos cell) s = .next t ∧ t.pwr.state = .run ∧
      t.saf.running = true ∧ t.rng.enabled = true ∧ t.sec.active = k ∧ t.sec.safA = k ∧ t.sec.safB = k ∧ t.hst.pf = 256 * pos ∧
      t.hst.retained = pos ∧ t.pwr.startEvts = [] ∧ s.Records t 0x010B 1 0xFF ∧
      t = { s with pwr := t.pwr, dir := t.dir, gys := t.gys, hst := t.hst, saf := t.saf, can0 := t.can0, can1 := t.can1,
                   rng := t.rng,
                   shf := t.shf, tph := t.tph, rtc := t.rtc, sec := t.sec } := by
  have hex : exec (.startComplete verifies 0 repaired [] cal slots false pos cell) s =
      .next ((s.loaded k cell repaired [] cal slots).startRun pos) := by
    refine (exec_startComplete_some hs hr hb hk).trans (congrArg _ ?_)
    exact (if_neg (fun h => h rfl)).trans ((if_neg Bool.false_ne_true).trans ((if_neg hcal).trans (if_neg Bool.false_ne_true)))
  obtain ⟨d1, t1, sec, hl, hact, ha, hb', htell⟩ := s.loaded_facts k cell repaired [] cal slots
  generalize s.loaded k cell repaired [] cal slots = u at *
  obtain ⟨dir, tph, gys, hst, rtc, shf, c0, c1, sec', saf, rng, hrun, hpf, hret, hact', ha', hb2, hsaf, hrng, hrec⟩ := u.toRun_facts pos
  have hlmp : u.lmp = s.lmp := by rw [hl]
  have hops : u.host.ops = s.host.ops := by rw [hl]
  have hrec' := htell.records hlmp hops hrec
  rw [u.startRun_eq, if_neg (by rw [hrun, hl]; simp [hsag])] at hex
  generalize u.toRun pos = w at *
  rw [hl] at hrun hact' ha' hb2
  subst hrun
  exact ⟨_, hex, rfl, hsaf, hrng, hact'.trans hact, ha'.trans ha, hb2.trans hb', hpf, hret, rfl, hrec', rfl⟩

/-- A device in LOCKOUT has no switch of a safety output closed. -/
def State.Shut (t : State) : Prop := t.pwr.state = .lockout → t.saf.running = false ∧ ∀ j, t.soClosed j = false

theorem State.shut_switches {t : State} (ha : t.saf.chA.sw = 0) (j : Nat) : t.soClosed j = false := by
  simp [State.soClosed, ha]

theorem State.LockedOut.shut {t : State} {item : Nat} (h : s.LockedOut t item) : t.Shut := fun _ => by
  obtain ⟨-, -, hrun, ha, -⟩ := h
  exact ⟨hrun, State.shut_switches ha⟩

theorem State.toLockout_shut (s : State) (cause : Nat) :
    (s.toLockout cause).pwr.state = .lockout ∧ (s.toLockout cause).pwr.lockoutCause = cause ∧ (s.toLockout cause).Shut := by
  obtain ⟨_, _, _, _, _, _, _, _, _, h⟩ := s.toLockout_eq cause
  rw [h]
  exact ⟨rfl, rfl, fun _ => ⟨rfl, State.shut_switches rfl⟩⟩

theorem State.startRun_running (s : State) (pos : Int) : (s.startRun pos).pwr.state ≠ .lockout := by
  obtain ⟨_, _, _, _, _, _, _, _, _, _, _, hrun, -⟩ := s.toRun_facts pos
  have hst : (s.toRun pos).pwr.state = .run := by rw [hrun]
  rw [s.startRun_eq]
  split
  · unfold State.toTripped
    rw [if_pos hst]
    exact fun h => DevState.noConfusion h
  · rw [hst]
    exact fun h => DevState.noConfusion h

/-- A LOCKOUT after the device has told the recorder what it found. -/
theorem State.Tells.lockedOut {u t : State} {item : Nat} (h : s.Tells u) (hl : u.lmp = s.lmp) (ho : u.host.ops = s.host.ops)
    (ht : u.LockedOut t item) : s.LockedOut t item := by
  obtain ⟨h1, h2, h3, h4, h5, h6, hrec⟩ := ht
  exact ⟨h1, h2, h3, h4, h5, h6, h.records hl ho hrec⟩

theorem State.booted_lockedOut (k cell item ch : Nat) (hs : s.pwr.state = .start) : s.LockedOut ((s.booted k cell).safLockout item ch) item := by
  obtain ⟨_, _, _, hb, -, -, -, htell⟩ := s.booted_facts k cell
  refine htell.lockedOut (by rw [hb]) (by rw [hb]) (State.safLockout_facts item ch ?_).1
  rw [hb]
  exact fun h => DevState.noConfusion (hs.symm.trans h)

theorem State.loaded_lockedOut (k cell : Nat) (repaired lost : List Nat) (cal : Nat) (slots : List Nat) (item ch : Nat)
    (hs : s.pwr.state = .start) : s.LockedOut ((s.loaded k cell repaired lost cal slots).safLockout item ch) item := by
  obtain ⟨_, _, _, hb, -, -, -, htell⟩ := s.loaded_facts k cell repaired lost cal slots
  refine htell.lockedOut (by rw [hb]) (by rw [hb]) (State.safLockout_facts item ch ?_).1
  rw [hb]
  exact fun h => DevState.noConfusion (hs.symm.trans h)

/-- The first failing step, and the LOCKOUT it leads to. -/
theorem State.startFrom_facts (k : Nat) (hs : s.pwr.state = .start) :
    (selfTest ≠ 0 → s.LockedOut (s.startFrom k selfTest repaired lost cal slots differ pos cell) 12) ∧
    (selfTest = 0 → lost ≠ [] → (s.startFrom k selfTest repaired lost cal slots differ pos cell).pwr.state = .lockout ∧
      (s.startFrom k selfTest repaired lost cal slots differ pos cell).pwr.lockoutCause = 0x1312) ∧
    (selfTest = 0 → lost = [] → cal = 2 → (s.startFrom k selfTest repaired lost cal slots differ pos cell).pwr.state = .lockout ∧
      (s.startFrom k selfTest repaired lost cal slots differ pos cell).pwr.lockoutCause = 0x1316) ∧
    (selfTest = 0 → lost = [] → cal ≠ 2 → differ = true →
      s.LockedOut (s.startFrom k selfTest repaired lost cal slots differ pos cell) 11) ∧
    (s.startFrom k selfTest repaired lost cal slots differ pos cell).Shut := by
  have htest := s.booted_lockedOut k cell 12 (selfTest - 1) hs
  have hdiff := s.loaded_lockedOut k cell repaired lost cal slots 11 0 hs
  have hmram := fun cause => (s.loaded k cell repaired lost cal slots).toLockout_shut cause
  have hrun := (s.loaded k cell repaired lost cal slots).startRun_running pos
  unfold State.startFrom
  generalize s.booted k cell = u at *
  generalize s.loaded k cell repaired lost cal slots = v at *
  by_cases h1 : selfTest ≠ 0
  · rw [if_pos h1]
    exact ⟨fun _ => htest, fun h => absurd h h1, fun h => absurd h h1, fun h => absurd h h1, htest.shut⟩
  rw [if_neg h1]
  by_cases h2 : lost = []
  · rw [if_neg (by simp [h2])]
    by_cases h3 : cal = 2
    · rw [if_pos h3]
      obtain ⟨hst, hcause, hshut⟩ := hmram 0x1316
      exact ⟨fun h => absurd h h1, fun _ h => absurd h2 h, fun _ _ _ => ⟨hst, hcause⟩, fun _ _ h => absurd h3 h, hshut⟩
    rw [if_neg h3]
    by_cases h4 : differ = true
    · rw [if_pos h4]
      exact ⟨fun h => absurd h h1, fun _ h => absurd h2 h, fun _ _ h => absurd h h3, fun _ _ _ _ => hdiff, hdiff.shut⟩
    · rw [if_neg h4]
      exact ⟨fun h => absurd h h1, fun _ h => absurd h2 h, fun _ _ h => absurd h h3, fun _ _ _ h => absurd h h4, fun h => absurd h hrun⟩
  · rw [if_pos (by simp [h2])]
    obtain ⟨hst, hcause, hshut⟩ := hmram 0x1312
    exact ⟨fun h => absurd h h1, fun _ _ => ⟨hst, hcause⟩, fun _ h => absurd h h2, fun _ h => absurd h h2, hshut⟩

end

theorem startComplete_fails (s : State) (verifies selfTest cal cell : Nat) (repaired lost slots : List Nat) (differ : Bool) (pos : Int)
    (hs : s.pwr.state = .start) (hr : s.pwr.recovery = false) (hb : s.pwr.bootsel = false) :
    ∃ t, exec (.startComplete verifies selfTest repaired lost cal slots differ pos cell) s = .next t ∧
      (s.bootSlot verifies = none → t.pwr.state = .lockout) ∧
      (s.bootSlot verifies ≠ none → selfTest ≠ 0 → s.LockedOut t 12) ∧
      (s.bootSlot verifies ≠ none → selfTest = 0 → lost ≠ [] → t.pwr.state = .lockout ∧ t.pwr.lockoutCause = 0x1312) ∧
      (s.bootSlot verifies ≠ none → selfTest = 0 → lost = [] → cal = 2 → t.pwr.state = .lockout ∧ t.pwr.lockoutCause = 0x1316) ∧
      (s.bootSlot verifies ≠ none → selfTest = 0 → lost = [] → cal ≠ 2 → differ = true → s.LockedOut t 11) ∧
      (t.pwr.state = .lockout → t.saf.running = false ∧ ∀ j, t.soClosed j = false) := by
  cases hk : s.bootSlot verifies with
  | none =>
    obtain ⟨hst, -, hshut⟩ := s.emitStart.toLockout_shut 0
    exact ⟨_, exec_startComplete_none hs hr hb hk, fun _ => hst, fun h => absurd rfl h, fun h => absurd rfl h, fun h => absurd rfl h,
      fun h => absurd rfl h, hshut⟩
  | some k =>
    obtain ⟨htest, hlost, hcal, hdiff, hshut⟩ := State.startFrom_facts (selfTest := selfTest) (repaired := repaired) (lost := lost)
      (cal := cal) (slots := slots) (differ := differ) (pos := pos) (cell := cell) k hs
    exact ⟨_, exec_startComplete_some hs hr hb hk, fun h => (by cases h), fun _ => htest, fun _ => hlost, fun _ => hcal,
      fun _ => hdiff, hshut⟩

/-- Settles O49: a start is followed step by step, each telling the recorder at most, up to RUN or the first step that fails. -/
theorem deviceStopsAndStarts : Obligations.DeviceStopsAndStarts :=
  ⟨vinStop_loses, railFault_loses, nrstLow_loses, nrstLow_inAon, vinStart_starts, nrstRelease_ends,
    fun _ _ _ _ _ _ _ _ hs hr hb hk hcal hsag => startComplete_runs hs hr hb hk hcal hsag, startComplete_fails, startComplete_loader⟩

end Sys2Proof.Machine
end

section
/-!
PROOFS. Requests for DORMANT that end together (02 R42 to R44; 05 R108).
-/
namespace Sys2Proof.Machine

/-! ## Commands completed together (05 R108) -/

theorem mem_dropTag {f : Flight} {tag : Nat} {q : List Flight} : f ∈ dropTag tag q ↔ f ∈ q ∧ f.d.tag ≠ tag := by simp [dropTag]

/-- From `s` to `t` the commands of `fs` completed with status `st`; no other block and no other command's phase changed. -/
structure State.Ends (s t : State) (fs : List Flight) (st : Status) : Prop where
  frame : ∃ host, t = { s with host := host }
  told : ∀ p ∈ s.host.store, p ∈ t.host.store
  ops : ∀ f ∈ t.host.ops, f ∈ s.host.ops ∧ ∀ g ∈ fs, f.d.tag ≠ g.d.tag
  each : ∀ g ∈ fs, ∃ d, (g.slot, d) ∈ t.host.store ∧ d.tag = g.d.tag ∧ d.status = st.code

theorem State.ends_nil (s : State) (st : Status) : s.Ends s [] st :=
  ⟨⟨_, rfl⟩, fun _ h => h, fun _ h => ⟨h, fun _ hg => absurd hg List.not_mem_nil⟩, fun _ hg => absurd hg List.not_mem_nil⟩

theorem State.foldl_complete_ends (st : Status) (r : List Byte) (committed : Bool) (fs : List Flight) (s : State) :
    s.Ends (fs.foldl (fun s f => s.complete f st 0 r committed) s) fs st := by
  induction fs generalizing s with
  | nil => exact s.ends_nil st
  | cons f fs ih =>
    obtain ⟨⟨host, hframe⟩, htold, hops, heach⟩ := ih (s.complete f st 0 r committed)
    have hself : (f.slot, completionOf f.d st 0 r (committed || f.phase.committed) (false || f.after)) ∈
        (s.complete f st 0 r committed).host.store := List.mem_append_right _ (List.mem_singleton_self _)
    refine ⟨⟨host, hframe⟩, fun p hp => htold p (List.mem_append_left _ hp), fun x hx => ?_, fun g hg => ?_⟩
    · obtain ⟨hmem, hne⟩ := hops x hx
      obtain ⟨hin, htag⟩ := mem_dropTag.mp hmem
      exact ⟨hin, fun g hg => (List.mem_cons.mp hg).elim (fun he => he ▸ htag) (hne g)⟩
    · rcases List.mem_cons.mp hg with he | hg
      · subst he
        exact ⟨_, htold _ hself, rfl, rfl⟩
      · exact heach g hg

/-! ## The request for DORMANT (02 R42 to R44) -/

/-- The commands whose request is in hand. -/
def State.dormantOps (s : State) : List Flight := s.host.ops.filter fun f => f.phase == .dormantWait

/-- No request is in hand any more, and each one that was has its completion. -/
structure State.RequestsEnd (s t : State) (st : Status) : Prop where
  none : ∀ f ∈ t.host.ops, f.phase ≠ .dormantWait
  each : ∀ f ∈ s.host.ops, f.phase = .dormantWait → ∃ d, (f.slot, d) ∈ t.host.store ∧ d.tag = f.d.tag ∧ d.status = st.code

theorem State.mem_dormantOps {s : State} {f : Flight} (hf : f ∈ s.host.ops) (hp : f.phase = .dormantWait) : f ∈ s.dormantOps :=
  List.mem_filter.mpr ⟨hf, by rw [hp]; rfl⟩

theorem State.Ends.requestsEnd {s t : State} {st : Status} (h : s.Ends t s.dormantOps st) : s.RequestsEnd t st := by
  refine ⟨fun f hf hp => ?_, fun f hf hp => h.each f (State.mem_dormantOps hf hp)⟩
  obtain ⟨hin, hne⟩ := h.ops f hf
  exact hne f (State.mem_dormantOps hin hp) rfl

theorem State.RequestsEnd.congr {s s' t t' : State} {st : Status} (h : s.RequestsEnd t st) (hs : s'.host.ops = s.host.ops)
    (ht : t'.host = t.host) : s'.RequestsEnd t' st := by
  obtain ⟨hnone, heach⟩ := h
  exact ⟨by rw [ht]; exact hnone, by rw [hs, ht]; exact heach⟩

/-- Geyser's request is answered. -/
def State.ackRequest (s : State) (st : Status) : State :=
  if s.pwr.geyserReq then s.gysAck 11 (s.gys.acks.getD 11 {}).seq st else s

theorem State.ackRequest_eq (s : State) (st : Status) : ∃ acks, s.ackRequest st = { s with gys.acks := acks } := by
  unfold State.ackRequest
  split
  · exact ⟨_, rfl⟩
  · exact ⟨s.gys.acks, rfl⟩

/-- Nothing of a request is left. -/
def State.requestGone (s : State) : State := { s with pwr.geyserReq := false, pwr.entering := false, gys.held := false, shf.handover := none }

theorem State.endDormantRequest_eq_ends (s : State) (st : Status) : s.endDormantRequest st =
    ((s.ackRequest st).dormantOps.foldl (fun s f => s.complete f st) (s.ackRequest st)).requestGone := rfl

/-- The request in hand ends without an interval. -/
theorem State.endDormantRequest_facts (s : State) (st : Status) : ∃ acks host, s.endDormantRequest st =
      { s with pwr.geyserReq := false, pwr.entering := false, gys.held := false, gys.acks := acks, shf.handover := none, host := host } ∧
    s.RequestsEnd (s.endDormantRequest st) st := by
  obtain ⟨acks, ha⟩ := s.ackRequest_eq st
  have hends := State.foldl_complete_ends st [] false (s.ackRequest st).dormantOps (s.ackRequest st)
  rw [s.endDormantRequest_eq_ends]
  generalize (s.ackRequest st).dormantOps.foldl (fun s f => s.complete f st) (s.ackRequest st) = u at *
  have hreq := hends.requestsEnd
  obtain ⟨host, hf⟩ := hends.frame
  refine ⟨acks, host, ?_, hreq.congr (by rw [ha]) rfl⟩
  rw [hf, ha]
  rfl

/-- The request that the interval belongs to completes OK. -/
theorem State.answerRequest_ends (s : State) : s.RequestsEnd s.answerRequest .ok := by
  obtain ⟨acks, ha⟩ := s.ackRequest_eq .ok
  have hends := (State.foldl_complete_ends .ok s.wakeResult true (s.ackRequest .ok).dormantOps (s.ackRequest .ok)).requestsEnd
  exact hends.congr (t' := s.answerRequest) (by rw [ha]) rfl

end Sys2Proof.Machine
end

section
/-!
PROOFS. Requests for DORMANT, taken, refused and given up (02 R42 to R44; 16 R423).
-/
namespace Sys2Proof.Machine

/-! ## Requests for DORMANT (02 R42 to R44; 16 R423) -/

/-- The level of the WAKE land is known. -/
def State.landed (s : State) (wake : Bool) : State := { s with pwr.wakeLand := wake }

/-- The request has been read. -/
def State.readRequest (s : State) (tag : Nat) (wake : Bool) : State := (s.landed wake).noteSeq (s.flight tag)

theorem State.readRequest_eq (s : State) (tag : Nat) (wake : Bool) : ∃ slots, s.readRequest tag wake =
    { s with pwr.wakeLand := wake, host.slots := slots } := ⟨_, rfl⟩

/-- A STATE_REQUEST for DORMANT, decided. -/
def State.decideRequest (s : State) (tag : Nat) (wake : Bool) : State :=
  if (s.readRequest tag wake).dormantRequestOk 1 then ((s.readRequest tag wake).btAbandon.setPhase tag .dormantWait).startDormant
  else (s.readRequest tag wake).btAbandon.complete (s.flight tag) .state

section
variable {s : State} {tag : Nat} {wake : Bool}

theorem State.Admitted.landed (h : s.Admitted tag 0x38 1) (wake : Bool) : (s.landed wake).Admitted tag 0x38 1 := h

theorem exec_stateRequest (h : s.Admitted tag 0x38 1) (hp : getU (s.flight tag).p 0 1 = 3) :
    exec (.stateRequest tag wake) s = .next (s.decideRequest tag wake) := by
  refine (occurs_pos h.1).trans (congrArg _ ?_)
  exact (State.hostCmd_of_admitted (h.landed wake) _).trans (if_neg (not_not.mpr hp))

theorem State.btPhase_of_ok {own : Nat} (h : s.dormantRequestOk own = true) : s.saf.btPhase = 0 := by
  simp only [State.dormantRequestOk, State.dormantOk, Bool.and_eq_true, beq_iff_eq] at h
  exact h.1.1.1.2

theorem State.btAbandon_of_idle (h : s.saf.btPhase = 0) : s.btAbandon = s := if_pos h

theorem State.startDormant_waits (h : s.sideOn true = true ∨ s.sideOn false = true) :
    s.startDormant = { s with shf.handover := some s.pwr.opTime } := if_pos h

theorem State.startDormant_begins (ht : s.sideOn true = false) (hf : s.sideOn false = false) : s.startDormant = s.beginDormant :=
  if_neg (by rw [ht, hf]; simp)

theorem stateRequest_accepted (s : State) (tag : Nat) (wake : Bool) (h : s.Admitted tag 0x38 1) (hp : getU (s.flight tag).p 0 1 = 3)
    (hok : ({ s with pwr.wakeLand := wake } : State).dormantRequestOk 1 = true) :
    ∃ t, exec (.stateRequest tag wake) s = .next t ∧ (t.flight tag).phase = .dormantWait ∧ t.host.store = s.host.store ∧
      (s.sideOn true = true ∨ s.sideOn false = true → t.shf.handover = some s.pwr.opTime ∧ t.pwr.entering = s.pwr.entering) ∧
      (s.sideOn true = false → s.sideOn false = false → t.pwr.entering = true ∧ t.gys.held = true ∧
        t.pwr.maskUse = s.parN Idx.PWR_WAKEMASK ∧ t.pwr.wakeFioUse = s.parN Idx.PWR_WAKEFIO ∧
        t.pwr.dmoveUse = s.parN Idx.PWR_DMOVE) ∧
      t = { s with host := t.host, pwr := t.pwr, gys.held := t.gys.held, shf.handover := t.shf.handover } := by
  have hread : (s.readRequest tag wake).dormantRequestOk 1 = true := hok
  have hex : exec (.stateRequest tag wake) s = .next ((s.readRequest tag wake).setPhase tag .dormantWait).startDormant := by
    refine (exec_stateRequest h hp).trans (congrArg _ ((if_pos hread).trans ?_))
    rw [State.btAbandon_of_idle (State.btPhase_of_ok hread)]
  have hphase : (((s.readRequest tag wake).setPhase tag .dormantWait).flight tag).phase = .dormantWait :=
    State.flight_setPhase _ (State.flight?_isSome_of_ready h.1)
  by_cases hside : s.sideOn true = true ∨ s.sideOn false = true
  · refine ⟨_, hex.trans (congrArg _ (State.startDormant_waits hside)), hphase, rfl, fun _ => ⟨rfl, rfl⟩, fun ht hf => ?_, rfl⟩
    rw [ht, hf] at hside
    simp at hside
  · obtain ⟨ht, hf⟩ := not_or.mp hside
    refine ⟨_, hex.trans (congrArg _ (State.startDormant_begins (Bool.eq_false_iff.mpr ht) (Bool.eq_false_iff.mpr hf))), hphase, rfl,
      fun hs => absurd hs hside, fun _ _ => ⟨rfl, rfl, rfl, rfl, rfl⟩, rfl⟩

theorem stateRequest_refused (s : State) (tag : Nat) (wake : Bool) (h : s.Admitted tag 0x38 1) (hp : getU (s.flight tag).p 0 1 = 3)
    (hok : ({ s with pwr.wakeLand := wake } : State).dormantRequestOk 1 = false) :
    ∃ t, exec (.stateRequest tag wake) s = .next t ∧ s.Completed t tag .state ∧ t.saf.btPhase = 0 ∧
      (s.saf.btPhase ≠ 0 → t.par Idx.SAF_BTRESULT = 4 ∧ s.Records t 0x091A 3 0xFF ∧ ∀ k, t.soClosed k = false) ∧
      (s.saf.btPhase = 0 → t = { s with host := t.host, pwr.wakeLand := wake }) ∧ s.EventsOnly t [Idx.SAF_BTRESULT] ∧
      t = { s with host := t.host, pwr.wakeLand := wake, dir := t.dir, hst.enable := t.hst.enable, saf := t.saf, tph := t.tph } := by
  have hread : (s.readRequest tag wake).dormantRequestOk 1 = false := hok
  have hex : exec (.stateRequest tag wake) s = .next ((s.readRequest tag wake).btAbandon.complete (s.flight tag) .state) :=
    (exec_stateRequest h hp).trans (congrArg _ (if_neg (by rw [hread]; exact Bool.false_ne_true)))
  obtain ⟨slots, hr⟩ := s.readRequest_eq tag wake
  by_cases hph : s.saf.btPhase = 0
  · rw [State.btAbandon_of_idle (s := s.readRequest tag wake) hph] at hex
    have hdone : s.Completed ((s.readRequest tag wake).complete (s.flight tag) .state) tag .state :=
      s.completed_complete _ tag 0x38 _ _ _ _ _ h.1 rfl
    exact ⟨_, hex, hdone, hph, fun h => absurd hph h, fun _ => rfl, .of_eq _ rfl rfl, rfl⟩
  · obtain ⟨hres, hzero, -, hopen, hrec, hev, hframe⟩ := State.btAbandon_facts (s := s.readRequest tag wake) hph
    generalize hu : (s.readRequest tag wake).btAbandon = u at *
    have hstore : u.host.store = s.host.store := by
      rw [hframe]
      rfl
    have hdone := s.completed_complete u tag 0x38 .state 0 [] false false h.1 hstore
    have hrec' : s.Records u 0x091A 3 0xFF := hrec
    have hev' : s.EventsOnly u [Idx.SAF_BTRESULT] := (State.EventsOnly.of_eq _ rfl rfl).trans hev
    refine ⟨_, hex, hdone, hzero, fun _ => ⟨hres, fun hh => hrec' hh, hopen⟩, fun h => absurd h hph, hev'.congr rfl rfl, ?_⟩
    rw [hframe]
    rfl

theorem stateRequest_range (s : State) (tag : Nat) (wake : Bool) (h : s.Admitted tag 0x38 1) (hp : getU (s.flight tag).p 0 1 ≠ 3) :
    ∃ t, exec (.stateRequest tag wake) s = .next t ∧ s.Completed t tag .range ∧ t = { s with host := t.host, pwr.wakeLand := wake } := by
  have hex : exec (.stateRequest tag wake) s = .next ((s.readRequest tag wake).complete (s.flight tag) .range) := by
    refine (occurs_pos h.1).trans (congrArg _ ?_)
    exact (State.hostCmd_of_admitted (h.landed wake) _).trans (if_pos hp)
  exact ⟨_, hex, s.completed_complete _ tag 0x38 _ _ _ _ _ h.1 rfl, rfl⟩

/-! ### Geyser's request (08 R174) -/

theorem stateReq_accepted (s : State) (wake : Bool) (p : List Byte) (he : s.engines = true) (hr : s.gysReq 11 = some p)
    (hp : getU p 2 1 = 3) (hl : s.gys.acks.length = 12)
    (hok : ({ s with pwr.wakeLand := wake } : State).dormantRequestOk 0 = true) :
    ∃ t, exec (.stateReq wake) s = .next t ∧ t.pwr.geyserReq = true ∧
      t.gys.acks.getD 11 {} = { seq := getU p 0 2, status := Status.accepted.code } ∧
      (s.sideOn true = true ∨ s.sideOn false = true → t.shf.handover = some s.pwr.opTime) ∧
      (s.sideOn true = false → s.sideOn false = false → t.pwr.entering = true ∧ t.gys.held = true) ∧
      t = { s with pwr := t.pwr, gys.held := t.gys.held, gys.acks := t.gys.acks, gys.reqs := s.gys.reqs.set 11 none,
                   shf.handover := t.shf.handover } := by
  have hread : ((s.landed wake).tookReq 11).dormantRequestOk 0 = true := hok
  have hback := State.btAbandon_of_idle (State.btPhase_of_ok hread)
  have hex : exec (.stateReq wake) s = .next
      (({ (s.landed wake).tookReq 11 with pwr.geyserReq := true } : State).gysAck 11 (getU p 0 2) .accepted).startDormant := by
    refine (occurs_pos (by simp [he, hr])).trans (congrArg _ ?_)
    rw [hr]
    dsimp only [Option.getD_some]
    rw [if_neg (not_not.mpr hp)]
    refine (if_pos hread).trans ?_
    exact congrArg (fun x : State => (({ x with pwr.geyserReq := true } : State).gysAck 11 (getU p 0 2) .accepted).startDormant) hback
  have hack : (s.gys.acks.set 11 { seq := getU p 0 2, status := Status.accepted.code }).getD 11 {} =
      { seq := getU p 0 2, status := Status.accepted.code } := getD_set_self _ _ _ _ (by rw [hl]; decide)
  by_cases hside : s.sideOn true = true ∨ s.sideOn false = true
  · refine ⟨_, hex.trans (congrArg _ (State.startDormant_waits hside)), rfl, hack, fun _ => rfl, fun ht hf => ?_, rfl⟩
    rw [ht, hf] at hside
    simp at hside
  · obtain ⟨ht, hf⟩ := not_or.mp hside
    exact ⟨_, hex.trans (congrArg _ (State.startDormant_begins (Bool.eq_false_iff.mpr ht) (Bool.eq_false_iff.mpr hf))), rfl, hack,
      fun hs => absurd hs hside, fun _ _ => ⟨rfl, rfl⟩, rfl⟩

end

/-! ### The request given up (02 R43; 16 R423) -/

theorem handoverTimeout_ends (s : State) (held : Nat) (he : s.pwr.entering = false) (hen : s.engines = true)
    (hh : s.shf.handover = some held) (ht : held + 20 ≤ s.pwr.opTime) :
    ∃ t, exec .handoverTimeout s = .next t ∧ t.shf.handover = none ∧ t.pwr.entering = false ∧ t.pwr.geyserReq = false ∧
      t.gys.held = false ∧ (∀ f ∈ t.host.ops, f.phase ≠ .dormantWait) ∧
      (∀ f ∈ s.host.ops, f.phase = .dormantWait → ∃ d, (f.slot, d) ∈ t.host.store ∧ d.tag = f.d.tag ∧
      d.status = Status.state.code) ∧
      t = { s with host := t.host, pwr := t.pwr, gys.held := false, gys.acks := t.gys.acks, shf.handover := none } := by
  have hex : exec .handoverTimeout s = .next (s.endDormantRequest .state) := occurs_pos (by simp [he, hen, hh, ht])
  obtain ⟨acks, host, hf, hnone, heach⟩ := s.endDormantRequest_facts .state
  generalize s.endDormantRequest .state = u at *
  subst hf
  exact ⟨_, hex, rfl, rfl, rfl, rfl, hnone, heach, rfl⟩

theorem dormantWake_cancels (s : State) (src at_ : Nat) (v : Int) (he : s.pwr.entering = true ∨ s.shf.handover ≠ none)
    (hn : s.pwr.state ≠ .dormant) (hq : s.wakeQualifies src v = true) :
    ∃ t, exec (.dormantWake src v at_) s = .next t ∧ t.pwr.entering = false ∧ t.shf.handover = none ∧ t.gys.held = false ∧
      (∀ f ∈ t.host.ops, f.phase ≠ .dormantWait) ∧
      (∀ f ∈ s.host.ops, f.phase = .dormantWait → ∃ d, (f.slot, d) ∈ t.host.store ∧ d.tag = f.d.tag ∧
      d.status = Status.aborted.code) ∧
      t = { s with host := t.host, pwr := t.pwr, gys.held := false, gys.acks := t.gys.acks, shf.handover := none } := by
  have hpend : (s.pwr.entering || s.shf.handover.isSome || s.pwr.state == .dormant) = true := by
    rcases he with h | h
    · simp [h]
    · simp [Option.isSome_iff_ne_none.mpr h]
  have hex : exec (.dormantWake src v at_) s = .next { (s.endDormantRequest .aborted) with
      pwr.wakeLatch := 0, pwr.wakeLand := s.pwr.wakeLand || src == 0 } :=
    (occurs_pos (by rw [hpend, hq]; rfl)).trans (congrArg _ (if_pos hn))
  obtain ⟨acks, host, hf, hnone, heach⟩ := s.endDormantRequest_facts .aborted
  generalize s.endDormantRequest .aborted = u at *
  subst hf
  exact ⟨_, hex, rfl, rfl, rfl, hnone, heach, rfl⟩

theorem ringWake_latches (s : State) (f : RFrame) (he : s.rng.enabled = true) (hf : s.nextFrame 8 none = some f) :
    ∃ t, exec .ringWake s = .next t ∧
      t.pwr.wakeLatch = (if (s.pwr.state = .dormant ∨ s.pwr.entering = true) ∧ s.pwr.maskUse.testBit 2 = true
        then s.pwr.wakeLatch ||| 8 else s.pwr.wakeLatch) ∧
      t = { s with pwr.wakeLatch := t.pwr.wakeLatch, rng.inq := s.rng.inq.erase f } := by
  have hex : exec .ringWake s = .next (if s.pwr.state = .dormant ∨ s.pwr.entering then (s.dropFrame f).latchWake 2 3 else s.dropFrame f) := by
    refine (occurs_pos (by simp [State.ringRuns, he, hf])).trans (congrArg _ ?_)
    rw [hf]
    rfl
  by_cases hd : s.pwr.state = .dormant ∨ s.pwr.entering = true
  · rw [if_pos hd] at hex
    by_cases hm : s.pwr.maskUse.testBit 2 = true
    · exact ⟨_, hex.trans (congrArg _ (if_pos hm)), (if_pos ⟨hd, hm⟩).symm, rfl⟩
    · exact ⟨_, hex.trans (congrArg _ (if_neg hm)), (if_neg fun h => hm h.2).symm, rfl⟩
  · rw [if_neg hd] at hex
    exact ⟨_, hex, (if_neg fun h => hd h.1).symm, rfl⟩

end Sys2Proof.Machine
end

section
/-!
PROOFS. Movement in DORMANT, and the end of a wake (02 R46, R48).
-/
namespace Sys2Proof.Machine

/-! ## Movement in DORMANT (02 R46) -/

theorem dmoved_noConfig : isConfig Idx.PWR_DMOVED = false := by decide +kernel

theorem State.dormantMove_facts (s : State) (edges : Int) : ∃ dir tph, s.dormantMove edges =
      { s with dir := dir, tph := tph, pwr.monMoved := s.incTravel edges, pwr.moveLatched := true } ∧
    (s.dormantMove edges).par Idx.PWR_DMOVED = s.incTravel edges ∧ s.EventsOnly (s.dormantMove edges) [Idx.PWR_DMOVED] ∧
    s.Records (s.dormantMove edges) 0x010C 4 0xFF := by
  have hset := s.par_setOwn' Idx.PWR_DMOVED Idx.PWR_DMOVED (s.incTravel edges) dmoved_noConfig
  have hev := (State.EventsOnly.refl s [Idx.PWR_DMOVED]).setOwn (s.incTravel edges) (by simp) dmoved_noConfig
  have hraise := hev.raise 0x010C 4 0xFF [(4, s.incTravel edges)]
  have hrec : s.Records ((s.setOwn Idx.PWR_DMOVED (s.incTravel edges)).raise 0x010C 4 0xFF [(4, s.incTravel edges)]) 0x010C 4 0xFF :=
    (State.records_raise _ _ _ _ _).after hev.2.2 (hev.1 _ (by decide)) (by simp) (by simp)
  obtain ⟨dir, hd, -⟩ := s.setOwn_eq (i := Idx.PWR_DMOVED) (s.incTravel edges) dmoved_noConfig
  obtain ⟨dir', tph, hr, -⟩ := (s.setOwn Idx.PWR_DMOVED (s.incTravel edges)).raise_eq 0x010C 4 0xFF [(4, s.incTravel edges)]
  have hpar : (s.dormantMove edges).par Idx.PWR_DMOVED = s.incTravel edges :=
    (State.par_raise _ _ _ _ _ _ (by decide)).trans (hset.trans (if_pos rfl))
  have hev' : s.EventsOnly (s.dormantMove edges) [Idx.PWR_DMOVED] := hraise.congr rfl rfl
  have hrec' : s.Records (s.dormantMove edges) 0x010C 4 0xFF := fun hh => hrec hh
  unfold State.dormantMove at *
  dsimp only at *
  rw [hr, hd] at hpar hev' hrec' ⊢
  exact ⟨dir', tph, rfl, hpar, hev', hrec'⟩

/-- The movement of the interval is noted, and recorded when it is beyond PWR.DMOVE. -/
def State.noteMove (s : State) (edges : Int) : State :=
  if decide (s.pwr.dmoveUse < mag (s.incTravel edges)) && !s.pwr.moveLatched then s.dormantMove edges
  else { s.setOwn Idx.PWR_DMOVED (s.incTravel edges) with pwr.monMoved := s.incTravel edges }

theorem State.noteMove_facts (s : State) (edges : Int) : (∃ dir tph latched, s.noteMove edges =
      { s with dir := dir, tph := tph, pwr.monMoved := s.incTravel edges, pwr.moveLatched := latched }) ∧
    (s.noteMove edges).par Idx.PWR_DMOVED = s.incTravel edges ∧ s.EventsOnly (s.noteMove edges) [Idx.PWR_DMOVED] := by
  unfold State.noteMove
  split
  · obtain ⟨dir, tph, hf, hpar, hev, -⟩ := s.dormantMove_facts edges
    exact ⟨⟨dir, tph, true, hf⟩, hpar, hev⟩
  · have hset := s.par_setOwn' Idx.PWR_DMOVED Idx.PWR_DMOVED (s.incTravel edges) dmoved_noConfig
    have hev := (State.EventsOnly.refl s [Idx.PWR_DMOVED]).setOwn (s.incTravel edges) (by simp) dmoved_noConfig
    obtain ⟨dir, hd, -⟩ := s.setOwn_eq (i := Idx.PWR_DMOVED) (s.incTravel edges) dmoved_noConfig
    generalize s.setOwn Idx.PWR_DMOVED (s.incTravel edges) = u at *
    refine ⟨⟨dir, s.tph, s.pwr.moveLatched, ?_⟩, hset.trans (if_pos rfl), hev.congr rfl rfl⟩
    rw [hd]

/-! ## The end of a wake (02 R48) -/

/-- A channel compares from new records. -/
def SafCh.restarted (c : SafCh) : SafCh := { c with recMiss := 0, mismatch := 0, fresh := false, wrote := {}, other := {} }

/-- Both channels compare from new records. -/
def State.compareAnew (s : State) : State := s.modBoth SafCh.restarted

/-- The safety channels run again. -/
def State.engage (s : State) : State := { s with saf.running := true, pwr.waking := false }

/-- The request has its answer, and no wake source is latched. -/
def State.answered (s : State) : State := { s.answerRequest with pwr.wakeLatch := 0, pwr.wakeLand := false }

/-- The device is in RUN. -/
def State.awake (s : State) (edges : Int) : State := ((s.noteMove edges).compareAnew.enter .run 0x010F).engage.answered

theorem exec_wakeComplete {s : State} {edges : Int} (hd : s.pwr.state = .dormant) (hw : s.pwr.waking = true)
    (hs : s.sec.swapping = false) :
    exec (.wakeComplete edges) s = .next (if (s.awake edges).pwr.sag then (s.awake edges).toTripped 0x0103 else s.awake edges) :=
  occurs_pos (by simp [hd, hw, hs])

theorem State.awake_facts (s : State) (edges : Int) : ∃ dir tph latched acks host, s.awake edges =
      { s with host := host, pwr.state := .run, pwr.waking := false, pwr.wakeLatch := 0, pwr.wakeLand := false,
               pwr.geyserReq := false, pwr.monMoved := s.incTravel edges, pwr.moveLatched := latched,
               dir := dir, gys.acks := acks, tph := tph,
               saf.running := true, saf.chA := s.saf.chA.restarted, saf.chB := s.saf.chB.restarted } ∧
    (s.awake edges).par Idx.PWR_DMOVED = s.incTravel edges ∧ s.EventsOnly (s.awake edges) [Idx.PWR_DMOVED] ∧
    s.Records (s.awake edges) 0x010B 1 0xFF ∧ s.RequestsEnd (s.awake edges) .ok := by
  obtain ⟨⟨dir, tph, latched, hf⟩, hpar, hev⟩ := s.noteMove_facts edges
  unfold State.awake
  generalize s.noteMove edges = u at *
  have hlmp : u.compareAnew.lmp = s.lmp := by
    rw [hf]
    rfl
  have hops : u.compareAnew.host.ops = s.host.ops := by
    rw [hf]
    rfl
  have hev1 : s.EventsOnly u.compareAnew [Idx.PWR_DMOVED] := hev.congr rfl rfl
  have hrec : s.Records (u.compareAnew.enter .run 0x010F) 0x010B 1 0xFF := fun hh =>
    (State.records_raise u.compareAnew 0x010B 1 0xFF _).after hev1.2.2 (hev1.1 _ (by decide)) hlmp hops hh
  have hev2 := hev1.enter .run 0x010F
  have hpar2 : (u.compareAnew.enter .run 0x010F).par Idx.PWR_DMOVED = s.incTravel edges :=
    (State.par_raise u.compareAnew 0x010B 1 0xFF _ _ (by decide)).trans hpar
  obtain ⟨dir', tph', hr, -⟩ := u.compareAnew.raise_eq 0x010B 1 0xFF
    [(1, u.compareAnew.pwr.state.code), (1, DevState.run.code), (2, ((0x010F : Nat) : Int))]
  have hent : u.compareAnew.enter .run 0x010F = { u.compareAnew with dir := dir', tph := tph', pwr.state := .run } := by
    unfold State.enter
    rw [hr]
  generalize u.compareAnew.enter .run 0x010F = v at *
  have hends := v.engage.answerRequest_ends
  obtain ⟨acks, host, ha⟩ := v.engage.answerRequest_eq
  unfold State.answered
  generalize v.engage.answerRequest = w at *
  have hvops : s.host.ops = v.engage.host.ops := by
    change _ = v.host.ops
    rw [hent]
    exact hops.symm
  have hends' := hends.congr (t' := { w with pwr.wakeLatch := 0, pwr.wakeLand := false }) hvops rfl
  have hwd : w.dir = v.dir := by
    rw [ha]
    rfl
  have hwt : w.tph = v.tph := by
    rw [ha]
    rfl
  refine ⟨dir', tph', latched, acks, host, ?_, (State.par_congr hwd _).trans hpar2, hev2.congr hwd hwt,
    hrec.mono (by rw [← hwt]), hends'⟩
  rw [ha, hent, hf]
  rfl

theorem wakeComplete_runs (s : State) (edges : Int) (hd : s.pwr.state = .dormant) (hw : s.pwr.waking = true)
    (hs : s.sec.swapping = false) :
    ∃ t, exec (.wakeComplete edges) s = .next t ∧ t.pwr.state = (if s.pwr.sag then .tripped else .run) ∧ t.pwr.waking = false ∧
      t.saf.running = true ∧ t.pwr.wakeLatch = 0 ∧ t.par Idx.PWR_DMOVED = s.incTravel edges ∧ s.Records t 0x010B 1 0xFF ∧
      (∀ isA, (t.chan isA).fresh = false ∧ (t.chan isA).recMiss = 0 ∧ (t.chan isA).mismatch = 0) ∧
      (∀ f ∈ s.host.ops, f.phase = .dormantWait → ∃ d, (f.slot, d) ∈ t.host.store ∧ d.tag = f.d.tag ∧ d.status = Status.ok.code) ∧
      s.EventsOnly t [Idx.PWR_DMOVED] ∧
      t = { s with host := t.host, pwr := t.pwr, dir := t.dir, gys.acks := t.gys.acks, saf := t.saf, tph := t.tph } := by
  obtain ⟨dir, tph, latched, acks, host, hf, hpar, hev, hrec, -, heach⟩ := s.awake_facts edges
  have hex := exec_wakeComplete (edges := edges) hd hw hs
  have hsag : (s.awake edges).pwr.sag = s.pwr.sag := by rw [hf]
  rw [hsag] at hex
  by_cases h : s.pwr.sag = true
  · rw [if_pos h] at hex ⊢
    have htrip := (s.awake edges).toTripped_eventsOnly 0x0103 []
    obtain ⟨st, dir', tph', ht, hst⟩ := (s.awake edges).toTripped_eq 0x0103
    have hpar' := (htrip.1 Idx.PWR_DMOVED (by decide)).trans hpar
    have hrec' := hrec.mono htrip.2.2.2
    have hev' := hev.trans (htrip.mono (List.nil_subset _))
    have hst' : st = .tripped := hst (by rw [hf])
    generalize (s.awake edges).toTripped 0x0103 = w at *
    rw [hf] at ht heach
    subst ht hst'
    refine ⟨_, hex, rfl, rfl, rfl, rfl, hpar', hrec', fun isA => ?_, heach, hev', rfl⟩
    cases isA <;> exact ⟨rfl, rfl, rfl⟩
  · rw [if_neg h] at hex ⊢
    generalize s.awake edges = u at *
    subst hf
    refine ⟨_, hex, rfl, rfl, rfl, rfl, hpar, hrec, fun isA => ?_, heach, hev, rfl⟩
    cases isA <;> exact ⟨rfl, rfl, rfl⟩

end Sys2Proof.Machine
end

section
/-!
PROOFS. The clocks start again (02 R47, R48; 11 R297).
-/
namespace Sys2Proof.Machine

/-! ## The clocks start again (02 R47, R48) -/

/-- The source's bit is latched. -/
def State.latchBit (s : State) (src : Nat) : State :=
  match wakeBit src with
  | some b => { s with pwr.wakeLatch := s.pwr.wakeLatch ||| 2 ^ b }
  | none => s

/-- What the monitor notes of the source. -/
def State.latchItem (s : State) (src : Nat) : State :=
  match src with
  | 0 => { s with pwr.wakeLand := true }
  | 7 => { s with pwr.monItems := s.pwr.monItems ||| 1 }
  | 8 => { s with pwr.monItems := s.pwr.monItems ||| 2 }
  | 9 => { s with pwr.monItems := s.pwr.monItems ||| 4 }
  | _ => s

theorem State.latchSource_eq (s : State) (src : Nat) : s.latchSource src = (s.latchBit src).latchItem src := rfl

theorem State.latchBit_facts (s : State) (src : Nat) : ∃ latch, s.latchBit src = { s with pwr.wakeLatch := latch } ∧
    ∀ b, wakeBit src = some b → latch.testBit b = true := by
  unfold State.latchBit
  cases wakeBit src with
  | none => exact ⟨s.pwr.wakeLatch, rfl, fun b h => by cases h⟩
  | some b =>
    refine ⟨s.pwr.wakeLatch ||| 2 ^ b, rfl, fun b' h => ?_⟩
    cases h
    simp [Nat.testBit_or, Nat.testBit_two_pow_self]

theorem State.latchItem_eq (s : State) (src : Nat) : ∃ land items,
    s.latchItem src = { s with pwr.wakeLand := land, pwr.monItems := items } := by
  unfold State.latchItem
  split <;> exact ⟨_, _, rfl⟩

theorem State.latchSource_facts (s : State) (src : Nat) : ∃ latch land items, s.latchSource src =
      { s with pwr.wakeLatch := latch, pwr.wakeLand := land, pwr.monItems := items } ∧
    ∀ b, wakeBit src = some b → latch.testBit b = true := by
  obtain ⟨latch, hb, hbit⟩ := s.latchBit_facts src
  obtain ⟨land, items, hi⟩ := (s.latchBit src).latchItem_eq src
  refine ⟨latch, land, items, ?_, hbit⟩
  rw [s.latchSource_eq, hi, hb]

/-! ### The doors (11 R297) -/

/-- From `s` to `t` the operators and their slots changed; beside them only events were raised. -/
structure State.DoorsOnly (s t : State) : Prop where
  frame : ∃ dir tph slots a b, t = { s with dir := dir, tph := tph, cle.slots := slots, dr0 := a, dr1 := b }
  events : s.EventsOnly t []

theorem State.DoorsOnly.trans {s t u : State} (h : s.DoorsOnly t) (h' : t.DoorsOnly u) : s.DoorsOnly u := by
  obtain ⟨_, _, _, _, _, ht⟩ := h.frame
  obtain ⟨_, _, _, _, _, hu⟩ := h'.frame
  exact ⟨⟨_, _, _, _, _, by rw [hu, ht]⟩, h.events.trans h'.events⟩

theorem State.doorsOnly_refl (s : State) : s.DoorsOnly s := ⟨⟨_, _, _, _, _, rfl⟩, .refl s []⟩

theorem State.doorsOnly_modD (s : State) (n : Nat) (f : Door → Door) : s.DoorsOnly (s.modD n f) := by
  obtain ⟨a, b, h⟩ := s.modD_eq n f
  rw [h]
  exact ⟨⟨_, _, _, _, _, rfl⟩, .of_eq [] rfl rfl⟩

theorem State.doorsOnly_wantSlots (s : State) (ns : List Nat) (b : Bool) : s.DoorsOnly (s.wantSlots ns b) := by
  obtain ⟨slots, h, -⟩ := s.wantSlots_eq ns b
  rw [h]
  exact ⟨⟨_, _, _, _, _, rfl⟩, .of_eq [] rfl rfl⟩

theorem State.doorsOnly_doorInputs (s : State) (n : Nat) : s.DoorsOnly (s.doorInputs n) :=
  ⟨⟨_, _, _, _, _, rfl⟩, .of_eq [] rfl rfl⟩

theorem State.doorsOnly_raise (s : State) (code sev inst : Nat) (data : List (Nat × Int)) : s.DoorsOnly (s.raise code sev inst data) := by
  have hev := (State.EventsOnly.refl s []).raise code sev inst data
  obtain ⟨dir, tph, h, -⟩ := s.raise_eq code sev inst data
  rw [h] at hev ⊢
  exact ⟨⟨_, _, _, _, _, rfl⟩, hev⟩

/-- Operator `n` at a wake. -/
def State.wakeDoor (s : State) (n : Nat) : State :=
  if (s.dn n).st ≠ .closed then s
  else if s.swActive n (Idx.DRn_DCFIO n) 0 then
    ((s.wantSlots (doorSlots n [0, 1]) true).modD n fun d => { d with gates := true }).doorInputs n
  else (s.doorDrift n (s.dn n).x).modD n fun d => { d with st := .unreferenced, ref := 0 }

theorem State.doorsWake_eq (s : State) : s.doorsWake = (s.wakeDoor 0).wakeDoor 1 := rfl

theorem State.doorsOnly_wakeDoor (s : State) (n : Nat) : s.DoorsOnly (s.wakeDoor n) := by
  unfold State.wakeDoor
  split
  · exact s.doorsOnly_refl
  · split
    · exact ((s.doorsOnly_wantSlots _ _).trans (State.doorsOnly_modD _ _ _)).trans (State.doorsOnly_doorInputs _ _)
    · exact ((s.doorsOnly_raise _ _ _ _).trans (State.doorsOnly_modD _ _ _)).trans (State.doorsOnly_modD _ _ _)

theorem State.doorsOnly_doorsWake (s : State) : s.DoorsOnly s.doorsWake := by
  rw [s.doorsWake_eq]
  exact (s.doorsOnly_wakeDoor 0).trans (State.doorsOnly_wakeDoor _ 1)

/-! ### The wake of the fast blocks -/

theorem State.canWake_eq (s : State) (b : Nat) : ∃ c0 c1, s.canWake b = { s with can0 := c0, can1 := c1 } := by
  obtain ⟨_, _, hj⟩ := s.canJoin_facts b
  unfold State.canWake
  dsimp only
  rw [hj]
  obtain ⟨_, _, hm⟩ := State.modCan_eq _ b _
  exact ⟨_, _, hm⟩

/-- The wake begins. -/
def State.rouse (s : State) : State := { s with pwr.waking := true, gys.held := false, gys.woke := true }

/-- The sources latched so far are recorded. -/
def State.wakeTold (s : State) : State := s.rouse.raise 0x010F 1 0xFF [(1, s.rouse.pwr.wakeLatch)]

/-- An alarm that rang in DORMANT is recorded. -/
def State.alarmTold (s : State) : State := if s.rtc.alarmTold then s else { s.raise 0x1103 1 with rtc.alarmTold := true }

theorem State.startClocks_eq (s : State) :
    s.startClocks = ((s.wakeTold.alarmTold.fioWake.canWake 0).canWake 1).doorsWake := rfl

theorem State.alarmTold_facts (s : State) : (∃ dir tph told, s.alarmTold = { s with dir := dir, tph := tph, rtc.alarmTold := told }) ∧
    s.EventsOnly s.alarmTold [] := by
  unfold State.alarmTold
  split
  · exact ⟨⟨_, _, s.rtc.alarmTold, rfl⟩, .refl s []⟩
  · have hev := (State.EventsOnly.refl s []).raise 0x1103 1 0xFF []
    obtain ⟨dir, tph, h, -⟩ := s.raise_eq 0x1103 1 0xFF []
    rw [h] at hev ⊢
    exact ⟨⟨dir, tph, true, rfl⟩, hev⟩

theorem State.startClocks_facts (s : State) : ∃ dir tph told ch c0 c1 slots a b, s.startClocks =
      { s with pwr.waking := true, gys.held := false, gys.woke := true, dir := dir, tph := tph, rtc.alarmTold := told, fio.ch := ch,
               can0 := c0, can1 := c1, cle.slots := slots, dr0 := a, dr1 := b } ∧
    s.EventsOnly s.startClocks [] ∧ s.Records s.startClocks 0x010F 1 0xFF := by
  have hrec : s.Records s.wakeTold 0x010F 1 0xFF := fun hh => s.rouse.records_raise 0x010F 1 0xFF _ hh
  have hev1 : s.EventsOnly s.wakeTold [] := (State.EventsOnly.of_eq (s := s) (t := s.rouse) [] rfl rfl).raise 0x010F 1 0xFF _
  obtain ⟨d1, t1, h1, -⟩ := s.rouse.raise_eq 0x010F 1 0xFF [(1, s.rouse.pwr.wakeLatch)]
  have hw : s.wakeTold = { s.rouse with dir := d1, tph := t1 } := h1
  obtain ⟨⟨d2, t2, told, h2⟩, hev2⟩ := s.wakeTold.alarmTold_facts
  obtain ⟨c0, c1, h3⟩ := s.wakeTold.alarmTold.fioWake.canWake_eq 0
  obtain ⟨e0, e1, h4⟩ := (s.wakeTold.alarmTold.fioWake.canWake 0).canWake_eq 1
  obtain ⟨⟨d5, t5, slots, a, b, h5⟩, hev5⟩ := ((s.wakeTold.alarmTold.fioWake.canWake 0).canWake 1).doorsOnly_doorsWake
  rw [s.startClocks_eq]
  generalize s.wakeTold = u at *
  generalize u.alarmTold = v at *
  have hev4 : s.EventsOnly ((v.fioWake.canWake 0).canWake 1) [] := (hev1.trans hev2).congr (by rw [h4, h3]; rfl) (by rw [h4, h3]; rfl)
  have hall := hev4.trans hev5
  have hq : u.tph.queue <+: ((v.fioWake.canWake 0).canWake 1).tph.queue := by
    rw [h4, h3]
    exact hev2.2.2.2
  have hrec5 := hrec.mono (hq.trans hev5.2.2.2)
  generalize ((v.fioWake.canWake 0).canWake 1).doorsWake = w at *
  rw [h4, h3, h2, hw] at h5
  subst h5
  exact ⟨d5, t5, told, _, e0, e1, slots, a, b, rfl, hall, hrec5⟩

theorem State.wakeEdges_eq (s : State) (v at_ : Nat) : ∃ ch, s.wakeEdges v at_ = { s with fio.ch := ch } := by
  unfold State.wakeEdges
  generalize ((List.range 48).filter fun n => s.isInput n && ((v ^^^ s.pwr.monFio) &&& s.pwr.wakeFioUse).testBit n) = ns
  generalize hw : (fun (s : State) n => s.modFch n fun c => { c with edges := [⟨at_, v.testBit n != s.parBit (Idx.FIO_CnCFG n) 3⟩] }) = g
  have hg : ∀ (u : State) n, ∃ ch, g u n = { u with fio.ch := ch } := fun u n => by
    rw [← hw]
    exact ⟨_, rfl⟩
  clear hw
  induction ns generalizing s with
  | nil => exact ⟨_, rfl⟩
  | cons n ns ih =>
    obtain ⟨ch, h1⟩ := hg s n
    obtain ⟨ch', h2⟩ := ih (g s n)
    exact ⟨ch', by rw [List.foldl_cons, h2, h1]⟩

/-! ### A source in DORMANT -/

/-- Movement is recorded once. -/
def State.moveTold (s : State) (src : Nat) (v : Int) : State := if src = 8 ∧ !s.pwr.moveLatched then s.dormantMove v else s

/-- The clocks run. -/
def State.wakeUp (s : State) : State := if s.pwr.waking then s else s.startClocks

/-- Latched field inputs deliver their edges. -/
def State.edgesTold (s : State) (src : Nat) (v : Int) (at_ : Nat) : State := if src = 9 then s.wakeEdges v.toNat at_ else s

theorem State.moveTold_facts (s : State) (src : Nat) (v : Int) : (∃ dir tph moved latched, s.moveTold src v =
      { s with dir := dir, tph := tph, pwr.monMoved := moved, pwr.moveLatched := latched }) ∧
    s.EventsOnly (s.moveTold src v) [Idx.PWR_DMOVED] ∧
    (src = 8 → s.pwr.moveLatched = false → (s.moveTold src v).pwr.moveLatched = true ∧
      (s.moveTold src v).par Idx.PWR_DMOVED = s.incTravel v ∧ s.Records (s.moveTold src v) 0x010C 4 0xFF) := by
  unfold State.moveTold
  split
  · obtain ⟨dir, tph, hf, hpar, hev, hrec⟩ := s.dormantMove_facts v
    exact ⟨⟨dir, tph, _, true, hf⟩, hev, fun _ _ => ⟨by rw [hf], hpar, hrec⟩⟩
  next hn => exact ⟨⟨_, _, s.pwr.monMoved, s.pwr.moveLatched, rfl⟩, .refl s _, fun h8 hl => absurd ⟨h8, by rw [hl]; rfl⟩ hn⟩

theorem State.wakeUp_facts (s : State) : (∃ dir tph held woke told ch c0 c1 slots a b, s.wakeUp =
      { s with pwr.waking := true, gys.held := held, gys.woke := woke, dir := dir, tph := tph, rtc.alarmTold := told, fio.ch := ch,
               can0 := c0, can1 := c1, cle.slots := slots, dr0 := a, dr1 := b }) ∧
    s.EventsOnly s.wakeUp [] ∧
    (s.pwr.waking = false → s.wakeUp.gys.held = false ∧ s.wakeUp.gys.woke = true ∧ s.Records s.wakeUp 0x010F 1 0xFF) := by
  unfold State.wakeUp
  split
  next hw =>
    refine ⟨⟨s.dir, s.tph, s.gys.held, s.gys.woke, s.rtc.alarmTold, s.fio.ch, s.can0, s.can1, s.cle.slots, s.dr0, s.dr1, ?_⟩, .refl s _,
      fun h => Bool.noConfusion (h.symm.trans hw)⟩
    rw [← hw]
  · obtain ⟨dir, tph, told, ch, c0, c1, slots, a, b, hf, hev, hrec⟩ := s.startClocks_facts
    exact ⟨⟨dir, tph, false, true, told, ch, c0, c1, slots, a, b, hf⟩, hev, fun _ => ⟨by rw [hf], by rw [hf], hrec⟩⟩

theorem State.edgesTold_eq (s : State) (src : Nat) (v : Int) (at_ : Nat) : ∃ ch, s.edgesTold src v at_ = { s with fio.ch := ch } := by
  unfold State.edgesTold
  split
  · exact s.wakeEdges_eq _ _
  · exact ⟨_, rfl⟩

theorem exec_dormantWake_sleeping {s : State} {src at_ : Nat} {v : Int} (hd : s.pwr.state = .dormant)
    (hq : s.wakeQualifies src v = true) :
    exec (.dormantWake src v at_) s = .next ((((s.latchSource src).moveTold src v).wakeUp).edgesTold src v at_) := by
  refine (occurs_pos (by simp [hd, hq])).trans (congrArg _ ?_)
  rw [if_neg (not_not.mpr hd)]
  rfl

theorem dormantWake_starts (s : State) (src at_ : Nat) (v : Int) (hd : s.pwr.state = .dormant) (hq : s.wakeQualifies src v = true) :
    ∃ t, exec (.dormantWake src v at_) s = .next t ∧ t.pwr.waking = true ∧ t.pwr.state = .dormant ∧
      (∀ b, wakeBit src = some b → t.pwr.wakeLatch.testBit b = true) ∧
      (s.pwr.waking = false → t.gys.held = false ∧ t.gys.woke = true ∧ s.Records t 0x010F 1 0xFF) ∧
      (src = 8 → s.pwr.moveLatched = false → t.pwr.moveLatched = true ∧ t.par Idx.PWR_DMOVED = s.incTravel v ∧
        s.Records t 0x010C 4 0xFF) ∧
      t = { s with pwr := t.pwr, dir := t.dir, gys.held := t.gys.held, gys.woke := t.gys.woke, cle.slots := t.cle.slots,
                   dr0 := t.dr0,
                   dr1 := t.dr1, fio.ch := t.fio.ch, can0 := t.can0, can1 := t.can1, tph := t.tph,
                   rtc.alarmTold := t.rtc.alarmTold } := by
  have hex := exec_dormantWake_sleeping (at_ := at_) hd hq
  obtain ⟨latch, land, items, hl, hbit⟩ := s.latchSource_facts src
  generalize s.latchSource src = u at *
  obtain ⟨⟨d1, t1, moved, latched, hm⟩, hev1, h8⟩ := u.moveTold_facts src v
  generalize hv : u.moveTold src v = w at *
  obtain ⟨⟨d2, t2, held, woke, told, ch, c0, c1, slots, a, b, hw⟩, hev2, hwake⟩ := w.wakeUp_facts
  obtain ⟨ch', he⟩ := w.wakeUp.edgesTold_eq src v at_
  have hdmoved := hev2.1 Idx.PWR_DMOVED (by decide)
  have hlmp : w.lmp = s.lmp := by rw [hm, hl]
  have hops : w.host.ops = s.host.ops := by rw [hm, hl]
  have hsu : s.EventsOnly w [Idx.PWR_DMOVED] := (State.EventsOnly.of_eq _ (by rw [hl]) (by rw [hl])).trans hev1
  have hwaking : w.pwr.waking = s.pwr.waking := by rw [hm, hl]
  have hl8 : u.pwr.moveLatched = s.pwr.moveLatched := by rw [hl]
  have hinc : u.incTravel v = s.incTravel v := by
    rw [hl]
    rfl
  have hrec0 : s.pwr.waking = false → s.Records w.wakeUp 0x010F 1 0xFF := fun h =>
    (hwake (hwaking.trans h)).2.2.after hsu.2.2 (hsu.1 _ (by decide)) hlmp hops
  have hrec8 : src = 8 → s.pwr.moveLatched = false → s.Records w.wakeUp 0x010C 4 0xFF := fun h h' =>
    ((h8 h (hl8.trans h')).2.2.mono hev2.2.2.2).after (.of_eq (by rw [hl])) (by rw [hl]; rfl) (by rw [hl]) (by rw [hl])
  have hpar8 : src = 8 → s.pwr.moveLatched = false → w.wakeUp.par Idx.PWR_DMOVED = s.incTravel v := fun h h' =>
    hdmoved.trans ((h8 h (hl8.trans h')).2.1.trans hinc)
  have hlat8 : src = 8 → s.pwr.moveLatched = false → w.wakeUp.pwr.moveLatched = true := fun h h' => by
    rw [hw]
    exact (h8 h (hl8.trans h')).1
  have hbits : w.wakeUp.pwr.wakeLatch = latch := by rw [hw, hm, hl]
  have hstate : w.wakeUp.pwr.state = .dormant := by
    rw [hw, hm, hl]
    exact hd
  have hrun : w.wakeUp.pwr.waking = true := by rw [hw]
  have hgys := fun h => hwake (hwaking.trans h)
  generalize w.wakeUp = x at *
  generalize x.edgesTold src v at_ = y at *
  refine ⟨_, hex, ?_⟩
  subst he
  refine ⟨hrun, hstate, fun b h => (congrArg (fun n => Nat.testBit n b) hbits).trans (hbit b h),
    fun h => ⟨(hgys h).1, (hgys h).2.1, fun hh => hrec0 h hh⟩,
    fun h h' => ⟨hlat8 h h', hpar8 h h', fun hh => hrec8 h h' hh⟩, ?_⟩
  rw [hw, hm, hl]

end Sys2Proof.Machine
end

section
/-!
PROOFS. The entry into DORMANT (02 R43, R45; 14 R370).
-/
namespace Sys2Proof.Machine

/-! ## The entry (02 R43, R45) -/

/-! ### The recorder writes what waits (17 R434, R436) -/

theorem State.writeRec_host (s : State) (e : Evt) : ∃ slots, (s.writeRec e).host = { s.host with slots := slots } := by
  unfold State.writeRec
  split
  · exact ⟨s.host.slots, by simp⟩
  · split
    next v _ => exact ⟨(s.strike v).host.slots, by simp [State.bumpWrap]; rfl⟩
    · exact ⟨s.host.slots, by simp⟩

theorem State.writeHead_host (s : State) : ∃ slots, s.writeHead.host = { s.host with slots := slots } := by
  unfold State.writeHead
  dsimp only
  split
  · exact ⟨s.host.slots, by simp⟩
  · exact State.writeRec_host _ _

theorem State.writeHead_eq (s : State) : ∃ slots dir tph sec,
    s.writeHead = { s with host.slots := slots, dir := dir, tph := tph, sec := sec } := by
  obtain ⟨slots, hh⟩ := s.writeHead_host
  refine ⟨slots, s.writeHead.dir, s.writeHead.tph, s.writeHead.sec, ?_⟩
  apply State.eq_of_blocks
  case h3 => exact hh
  all_goals simp

theorem State.flushTph_eq (s : State) : ∃ slots dir tph sec,
    s.flushTph = { s with host.slots := slots, dir := dir, tph := tph, sec := sec } := by
  unfold State.flushTph
  generalize s.tph.queue = q
  induction q generalizing s with
  | nil => exact ⟨_, _, _, _, rfl⟩
  | cons e q ih =>
    obtain ⟨_, _, _, _, h1⟩ := s.writeHead_eq
    obtain ⟨_, _, _, _, h2⟩ := ih s.writeHead
    exact ⟨_, _, _, _, by rw [List.foldl_cons, h2, h1]⟩

/-! ### The last frames of ring and buses (14 R362, R370; 15 R388) -/

/-- The summary with status DORMANT. -/
def State.sumSent (s : State) : State := if s.ringRuns ∧ s.addr.isSome then s.sendSummary 3 else s

theorem State.sumSent_eq (s : State) : ∃ rng rejoin, s.sumSent = { s with rng := rng, dsp.rejoin := rejoin } := by
  unfold State.sumSent
  split
  · obtain ⟨seq, out, h⟩ := s.ringSend_eq 1 2 0 (s.summaryBody 3) 2
    unfold State.sendSummary
    rw [h]
    exact ⟨_, _, rfl⟩
  · exact ⟨_, _, rfl⟩

/-- The heartbeat with state DORMANT, and whether it has ended. -/
def State.lastBeat (s : State) (sent b : Nat) : State :=
  let s := if s.onBus b then s.queueHeartbeat b 3 else s
  if sent.testBit b then s.modObj b 0 fun o => o.finish Status.ok.code else s

/-- A controller on standby. -/
def State.standBy (s : State) (b : Nat) : State := s.modCan b fun c => { c with standby := true }

theorem State.canSleep_eq_standBy (s : State) (sent b : Nat) : s.canSleep sent b = (s.lastBeat sent b).standBy b := rfl

theorem State.lastBeat_eq (s : State) (sent b : Nat) : ∃ c0 c1, s.lastBeat sent b = { s with can0 := c0, can1 := c1 } ∧
    (s.lastBeat sent b).can (1 - b) = s.can (1 - b) := by
  have hstep : ∀ (u : State) (f : Can → Can), (∃ c0 c1, u.modCan b f = { u with can0 := c0, can1 := c1 }) ∧
    (u.modCan b f).can (1 - b) = u.can (1 - b) := fun u f => ⟨u.modCan_eq b f, u.can_modCan_other b f⟩
  unfold State.lastBeat
  extract_lets u
  have hu : ∃ c0 c1, u = { s with can0 := c0, can1 := c1 } ∧ u.can (1 - b) = s.can (1 - b) := by
    by_cases h : s.onBus b = true
    · obtain ⟨⟨c0, c1, h1⟩, ho1⟩ := hstep s fun c => { c with objs := modifyAt c.objs 0 (fun o => o.queue (s.canHeartbeat b 3)) }
      obtain ⟨⟨c0', c1', h2⟩, ho2⟩ := hstep (s.modObj b 0 fun o => o.queue (s.canHeartbeat b 3)) fun c =>
        { c with hbNo := (c.hbNo + 1) % 256, hbAt := some (s.modObj b 0 fun o => o.queue (s.canHeartbeat b 3)).pwr.opTime }
      have hq : u = (s.modObj b 0 fun o => o.queue (s.canHeartbeat b 3)).modCan b fun c =>
        { c with hbNo := (c.hbNo + 1) % 256, hbAt := some (s.modObj b 0 fun o => o.queue (s.canHeartbeat b 3)).pwr.opTime } := if_pos h
      refine ⟨c0', c1', ?_, (congrArg (fun x : State => x.can (1 - b)) hq).trans (ho2.trans ho1)⟩
      have h1' : s.modObj b 0 (fun o => o.queue (s.canHeartbeat b 3)) = { s with can0 := c0, can1 := c1 } := h1
      rw [hq, h2, h1']
    · exact ⟨s.can0, s.can1, if_neg h, congrArg (fun x : State => x.can (1 - b)) (if_neg h)⟩
  obtain ⟨c0, c1, hf, ho⟩ := hu
  clear_value u
  split
  · obtain ⟨⟨c0', c1', h1⟩, ho1⟩ := hstep u fun c => { c with objs := modifyAt c.objs 0 (fun o => o.finish Status.ok.code) }
    refine ⟨c0', c1', ?_, ho1.trans ho⟩
    refine Eq.trans h1 ?_
    rw [hf]
  · exact ⟨c0, c1, hf, ho⟩

theorem State.canSleep_facts (s : State) (sent b : Nat) : (∃ c0 c1, s.canSleep sent b = { s with can0 := c0, can1 := c1 }) ∧
    ((s.canSleep sent b).can b).standby = true ∧ (s.canSleep sent b).can (1 - b) = s.can (1 - b) := by
  obtain ⟨c0, c1, hl, ho⟩ := s.lastBeat_eq sent b
  obtain ⟨c0', c1', hm⟩ := (s.lastBeat sent b).modCan_eq b fun c => { c with standby := true }
  rw [s.canSleep_eq_standBy]
  refine ⟨⟨c0', c1', ?_⟩, congrArg Can.standby ((s.lastBeat sent b).can_modCan_self b _), ((s.lastBeat sent b).can_modCan_other b _).trans ho⟩
  unfold State.standBy
  rw [hm, hl]

/-- Both controllers on standby. -/
theorem State.busesSleep (s : State) (sent : Nat) : ∃ c0 c1, (s.canSleep sent 0).canSleep sent 1 = { s with can0 := c0, can1 := c1 } ∧
    c0.standby = true ∧ c1.standby = true := by
  obtain ⟨⟨_, _, h0⟩, hs0, -⟩ := s.canSleep_facts sent 0
  obtain ⟨⟨c0, c1, h1⟩, hs1, ho⟩ := (s.canSleep sent 0).canSleep_facts sent 1
  generalize hu : (s.canSleep sent 0).canSleep sent 1 = u at *
  have hstand0 : (u.can 0).standby = true := (congrArg Can.standby ho).trans hs0
  rw [h0] at h1
  subst h1
  exact ⟨c0, c1, rfl, hstand0, hs1⟩

/-! ### Doors and slots (10 R241, R256; 11 R285, R297) -/

/-- Operator `n` at the entry. -/
def State.sleepDoor (s : State) (n : Nat) : State :=
  (if (s.dn n).learned then s.saveProfile n else s).modD n fun d => { d with gates := false, boosting := false }

theorem State.doorsDormant_eq (s : State) : s.doorsDormant = (s.sleepDoor 0).sleepDoor 1 := rfl

theorem State.saveProfile_facts (s : State) (n : Nat) : (∃ dir tph a b, s.saveProfile n = { s with dir := dir, tph := tph, dr0 := a, dr1 := b }) ∧
    (s.saveProfile n).dn (1 - n) = s.dn (1 - n) := by
  obtain ⟨dir, tph, h, -⟩ := (s.tblChanged (0x0300 + n)).raise_eq (0x070A + 0x100 * n) 0 0xFF []
  obtain ⟨a, b, hm⟩ := ((s.tblChanged (0x0300 + n)).raise (0x070A + 0x100 * n) 0).modD_eq n fun d => { d with learned := false }
  have ho := ((s.tblChanged (0x0300 + n)).raise (0x070A + 0x100 * n) 0).dn_modD_other n fun d => { d with learned := false }
  refine ⟨⟨dir, tph, a, b, ?_⟩, ho.trans ?_⟩
  · refine Eq.trans hm ?_
    rw [h]
    rfl
  · rw [h]
    rfl

theorem State.sleepDoor_facts (s : State) (n : Nat) : (∃ dir tph a b, s.sleepDoor n = { s with dir := dir, tph := tph, dr0 := a, dr1 := b }) ∧
    ((s.sleepDoor n).dn n).gates = false ∧ (s.sleepDoor n).dn (1 - n) = s.dn (1 - n) := by
  unfold State.sleepDoor
  generalize hu : (if (s.dn n).learned then s.saveProfile n else s) = u
  have hkept : (∃ dir tph a b, u = { s with dir := dir, tph := tph, dr0 := a, dr1 := b }) ∧ u.dn (1 - n) = s.dn (1 - n) := by
    rw [← hu]
    split
    · exact s.saveProfile_facts n
    · exact ⟨⟨_, _, _, _, rfl⟩, rfl⟩
  obtain ⟨⟨dir, tph, a, b, hf⟩, ho⟩ := hkept
  obtain ⟨a', b', hm⟩ := u.modD_eq n fun d => { d with gates := false, boosting := false }
  refine ⟨⟨dir, tph, a', b', ?_⟩, congrArg Door.gates (u.dn_modD_self n _), (u.dn_modD_other n _).trans ho⟩
  rw [hm, hf]

theorem State.doorsDormant_facts (s : State) : ∃ dir tph a b, s.doorsDormant = { s with dir := dir, tph := tph, dr0 := a, dr1 := b } ∧
    a.gates = false ∧ b.gates = false := by
  obtain ⟨⟨_, _, _, _, h0⟩, hg0, -⟩ := s.sleepDoor_facts 0
  obtain ⟨⟨dir, tph, a, b, h1⟩, hg1, ho⟩ := (s.sleepDoor 0).sleepDoor_facts 1
  rw [s.doorsDormant_eq]
  generalize hu : (s.sleepDoor 0).sleepDoor 1 = u at *
  have hgates : (u.dn 0).gates = false := (congrArg Door.gates ho).trans hg0
  rw [h0] at h1
  subst h1
  exact ⟨dir, tph, a, b, rfl, hgates, hg1⟩

/-- A learned repetitive table is written back. -/
def State.saveUnit (s : State) (u : Nat) : State :=
  let x := s.cle.units.getD u {}
  if x.learned then
    let s := (s.tblChanged (0x0400 + u)).raise 0x0604 0 u
    { s with cle.units := s.cle.units.set u { x with learned := false, savedAt := s.pwr.opTime } }
  else s

theorem State.saveUnit_eq (s : State) (u : Nat) : ∃ dir tph units, s.saveUnit u = { s with dir := dir, tph := tph, cle.units := units } := by
  unfold State.saveUnit
  dsimp only
  split
  · obtain ⟨dir, tph, h, -⟩ := (s.tblChanged (0x0400 + u)).raise_eq 0x0604 0 u []
    rw [h]
    exact ⟨dir, tph, _, rfl⟩
  · exact ⟨_, _, s.cle.units, rfl⟩

theorem State.saveUnits_eq (s : State) : ∃ dir tph units, s.saveUnits = { s with dir := dir, tph := tph, cle.units := units } := by
  have hfold : ∀ (us : List Nat) (v : State), ∃ dir tph units, us.foldl State.saveUnit v =
      { v with dir := dir, tph := tph, cle.units := units } := by
    intro us
    induction us with
    | nil => exact fun v => ⟨_, _, v.cle.units, rfl⟩
    | cons u us ih =>
      intro v
      obtain ⟨_, _, _, h1⟩ := v.saveUnit_eq u
      obtain ⟨_, _, _, h2⟩ := ih (v.saveUnit u)
      exact ⟨_, _, _, by rw [List.foldl_cons, h2, h1]⟩
  exact hfold (List.range 4) s

/-- A slot of a sleeping device. -/
def CSlot.asleep (c : CSlot) : CSlot := { c.stop with want := false }

theorem State.cleDormant_eq (s : State) : s.cleDormant = { s with cle.slots := s.cle.slots.map CSlot.asleep } := rfl

theorem CSlot.mem_asleep {cs : List CSlot} : ∀ c ∈ cs.map CSlot.asleep, c.want = false ∧ c.on = false := by
  intro c hc
  obtain ⟨x, -, rfl⟩ := List.mem_map.mp hc
  exact ⟨rfl, rfl⟩

/-! ### The clocks stop -/

/-- Everything is told and written. -/
def State.settled (s : State) (sent : Nat) : State :=
  ((((s.sumSent.canSleep sent 0).canSleep sent 1).doorsDormant).saveUnits.cleDormant).flushTph

theorem State.settled_facts (s : State) (sent : Nat) : ∃ slots dir cle a b c0 c1 rng rejoin tph sec, s.settled sent =
      { s with host.slots := slots, dir := dir, cle := cle, dr0 := a, dr1 := b, can0 := c0, can1 := c1, rng := rng,
               dsp.rejoin := rejoin, tph := tph, sec := sec } ∧
    a.gates = false ∧ b.gates = false ∧ c0.standby = true ∧ c1.standby = true ∧ ∀ c ∈ cle.slots, c.want = false ∧ c.on = false := by
  obtain ⟨rng, rejoin, h1⟩ := s.sumSent_eq
  unfold State.settled
  generalize s.sumSent = u1 at *
  obtain ⟨c0, c1, h2, hs0, hs1⟩ := u1.busesSleep sent
  generalize (u1.canSleep sent 0).canSleep sent 1 = u2 at *
  obtain ⟨_, _, a, b, h3, hga, hgb⟩ := u2.doorsDormant_facts
  generalize u2.doorsDormant = u3 at *
  obtain ⟨_, _, units, h4⟩ := u3.saveUnits_eq
  generalize u3.saveUnits = u4 at *
  have h5 := u4.cleDormant_eq
  generalize u4.cleDormant = u5 at *
  obtain ⟨slots, dir, tph, sec, h6⟩ := u5.flushTph_eq
  generalize u5.flushTph = u6 at *
  subst h1 h2 h3 h4 h5 h6
  exact ⟨slots, dir, _, a, b, c0, c1, rng, rejoin, tph, sec, rfl, hga, hgb, hs0, hs1, CSlot.mem_asleep⟩

theorem exec_dormantEntry {s : State} {si fio sent : Nat} (he : s.pwr.entering = true) (hl : s.lmpServes = true)
    (hr : s.pwr.state = .run) (hp : s.gys.phase = .boundary) (hj : ∀ j ∈ s.gys.journals, j.durable = true) :
    exec (.dormantEntry si fio sent) s = .next ((((s.settled sent).openAll).armMonitor si fio).stopClocks).beginSwap := by
  refine (occurs_pos ?_).trans (congrArg _ ?_)
  · simp only [he, hl, hr, hp, Bool.true_and, Bool.or_eq_true, Bool.and_eq_true, List.all_eq_true]
    exact .inr ⟨rfl, hj⟩
  · rw [if_neg (not_not.mpr hr)]
    rfl

/-- The safety engines and the entry stop. -/
def State.halted (s : State) : State :=
  { s with pwr.entering := false, pwr.dormantAt := s.pwr.opTime, saf.running := false, lmp.keptOut := false, shf.handover := none }

theorem State.stopClocks_eq (s : State) : ∃ dir tph, s.stopClocks = { s.halted with dir := dir, tph := tph, pwr.state := .dormant } := by
  obtain ⟨dir, tph, h, -⟩ := s.halted.raise_eq 0x010B 1 0xFF [(1, s.halted.pwr.state.code), (1, DevState.dormant.code), (2, ((0 : Nat) : Int))]
  refine ⟨dir, tph, ?_⟩
  have hs : s.stopClocks = s.halted.enter .dormant 0 := rfl
  rw [hs]
  unfold State.enter
  rw [h]

theorem dormantEntry_sleeps (s : State) (si fio sent : Nat) (he : s.pwr.entering = true) (hl : s.lmpServes = true)
    (hr : s.pwr.state = .run) (hp : s.gys.phase = .boundary) (hj : ∀ j ∈ s.gys.journals, j.durable = true) :
    ∃ t, exec (.dormantEntry si fio sent) s = .next t ∧ t.pwr.state = .dormant ∧ t.pwr.entering = false ∧
      t.pwr.dormantAt = s.pwr.opTime ∧ t.saf.running = false ∧ (∀ k, t.soClosed k = false) ∧ t.dr0.gates = false ∧
      t.dr1.gates = false ∧
      t.can0.standby = true ∧ t.can1.standby = true ∧ t.lmp.keptOut = false ∧ t.pwr.monSi = si % 2 ^ 16 ∧
      t.pwr.monFio = fio % 2 ^ 48 ∧ t.shf.handover = none ∧ (∀ c ∈ t.cle.slots, c.want = false ∧ c.on = false) ∧
      t = { s with pwr := t.pwr, lmp.keptOut := false, host.slots := t.host.slots, dir := t.dir, cle := t.cle, dr0 := t.dr0,
                   dr1 := t.dr1, saf := t.saf, can0 := t.can0, can1 := t.can1, rng := t.rng, dsp.rejoin := t.dsp.rejoin,
                   shf.handover := none, tph := t.tph, sec := t.sec } := by
  have hex := exec_dormantEntry (si := si) (fio := fio) (sent := sent) he hl hr hp hj
  obtain ⟨slots, dir, cle, a, b, c0, c1, rng, rejoin, tph, sec, hset, hga, hgb, hs0, hs1, hcle⟩ := s.settled_facts sent
  generalize s.settled sent = u at *
  obtain ⟨dir', tph', hstop⟩ := (u.openAll.armMonitor si fio).stopClocks_eq
  generalize (u.openAll.armMonitor si fio).stopClocks = v at *
  subst hset hstop
  exact ⟨_, hex, rfl, rfl, rfl, rfl, fun k => State.shut_switches rfl k, hga, hgb, hs0, hs1, rfl, rfl, rfl, rfl, hcle, rfl⟩

/-- Settles O47: the request, the entry and the wake are each followed block by block; a request that ends completes every command
that waits for it. -/
theorem dormantIsEnteredAndLeft : Obligations.DormantIsEnteredAndLeft :=
  ⟨stateRequest_accepted, stateRequest_refused, stateRequest_range, stateReq_accepted, handoverTimeout_ends, dormantEntry_sleeps,
    dormantWake_cancels, dormantWake_starts, wakeComplete_runs, ringWake_latches⟩

end Sys2Proof.Machine
end
